-- ==== Sys2Proof/Word.lean ====
section
/-! DEFINITION. The words of the block: bytes of messages and records, and 32-bit page registers. -/

namespace Sys2Proof

/-- One byte of a message, a record or a dictionary value (R38). -/
abbrev Byte := BitVec 8

/-- Bytes in message order. -/
abbrev Bytes := List Byte

/-- One 32-bit register of a function page (R51). -/
abbrev Word32 := BitVec 32

end Sys2Proof
end

