-- ==== Sys2Proof/Config.lean ====
section
/-! DEFINITION. What manufacture fixes: the three variants (R1) and the constants that the manual places in
fuses, in OTP or in tables it names without printing them. A constant without a body is a free value: nothing
can be proved of it. -/

namespace Sys2Proof

/-- The ordering variants of R1. The variant is fixed at manufacture (R8). -/
inductive Variant where
  | sk3612
  | sk3624
  | sk3636
deriving DecidableEq, Repr

namespace Config

/-- Module serial number, 1000.08 (R10): on the label of each module, log 4. -/
opaque serialNumber : Bytes

/-- What OTP holds of the ring address: its low 40 bits and its top 7. -/
opaque ringAddressBits : Fin 0x10000000000 × Fin 128

/-- Ring address, 3800.01 (R383): from OTP, an individual address of 48 bits, whose lowest bit of the first byte is 0 (log 4). -/
def ringAddress : Nat := ringAddressBits.1.val + 0x20000000000 * ringAddressBits.2.val

/-- The module's key-encryption key of slot 255 (R324): 32 bytes from OTP, log 4. -/
opaque keyEncryptionKey : Bytes

/-- What OTP holds of the minimum firmware release. -/
opaque minimumReleaseBits : BitVec 32

/-- Minimum firmware release, 1100.57 (R421): 32 bits from OTP, log 4. -/
def minimumRelease : Nat := minimumReleaseBits.toNat

/-- Factory value (binary32 bits) of calibration quantity `q` of physical AFE `afe`, 2006.01-2006.08 (R127), log 4. -/
opaque portFactory : Nat → Nat → Nat

/-- Calibration time of physical AFE `afe`, 2006.09 (R127), log 4. -/
opaque portCalTime : Nat → Nat

/-- Calibration temperature (binary32 bits) of physical AFE `afe`, 2006.0A (R127), log 4. -/
opaque portCalTemp : Nat → Nat

/-- Factory value (binary32 bits) of quantity `q` of measurement channel `m`, 5100.20-5100.21 (R407), log 4. -/
opaque channelFactory : Nat → Nat → Nat

/-- Factory value (binary32 bits) of quantity `q` of analogue output `a`, 5400.20-5400.21 (R407), log 4. -/
opaque outputFactory : Nat → Nat → Nat

/-- Base matrix of LDPC code `c`, 28C0.01-28C0.07 (R231): the manual names it and does not print it, log 5. -/
opaque baseMatrix : Nat → Bytes

/-- Output range (binary32 bits; 0 low, 1 high) of a factory curve whose table the manual does not
print, 5200.05-5200.06 (R394), log 5. -/
opaque curveValue : Nat → Nat → Nat

/-- Byte `i` of what the module reads in host memory at free value number `n`, where a command does not bring it, log 6. -/
opaque hostByte : Nat → Nat → Nat

/-- Symbols that G.9903 takes for a payload of `n` bytes in profile `prof` (R224): the manual refers to that standard, log 63. -/
opaque g9903Symbols : Nat → Nat → Nat

/-- The engine firmware in DRAM still has its recorded SHA-384 at a warm reset at TSC `t` (R410): the manual says what follows either way, not when
it holds, log 71. -/
opaque firmwareKept : Nat → Bool

/-- Step of the residual filter's sign-error LMS in units of 2^-60 (R179): the manual gives none, log 66. -/
opaque residualStep : Nat

/-- The free value number `n` of a run (State.free counts them): what the manual leaves open after a command
that otherwise runs, log 6. -/
opaque freeValue : Nat → Nat

end Config

end Sys2Proof
end

