-- ==== Sys2Proof/Syntax.lean ====
section
/-! DEFINITION. The commands of the block: one constructor per row of spec/opcode_table.json. The table gives its rows no
operand fields, so the operands are the facts that the spec's text says an event brings: what the outside world,
the host or a cell reports. The first operand of every command is the TSC (ns, R73) at which it happens (log 1). -/

namespace Sys2Proof

/-- DRAM partitions of R36, with the item scrubbing meets: a packet handle, a link number or a log position. -/
inductive DramItem where
  | packet (handle : Nat)
  | link (number : Nat)
  | logEntry (position : Nat)
  | engine
deriving DecidableEq, Repr

/-- Time sources of the servo (R76). -/
inductive TimeSource where
  | ptp
  | pps
deriving DecidableEq, Repr

/-- The two frequency bands of a port (R178, R183): narrowband and broadband. -/
inductive Band where
  | nb
  | bb
deriving DecidableEq, Repr

/-- The two ring ports (R362). -/
inductive Side where
  | east
  | west
deriving DecidableEq, Repr

/-- What a cluster's engines do (R266), with body bytes. -/
inductive ClusterItem where
  | descriptor
  | pass
  | formed (bytes : Nat)
  | received (bytes : Nat)
  | ack
  | beacon
  | planning
deriving DecidableEq, Repr

/-- An item of work that a cluster's engines take up (R20, R85, R266), with the class of its request or frame. -/
structure WorkItem where
  item : ClusterItem
  cls : Nat
deriving DecidableEq, Repr

/-- A 64-byte transfer that a cell asks of the fabric (R17, R18): the cell, the fabric target, and the rank in the cell's fixed order: 0 class 0,
1 shadow loads, 2-4 classes 1-3, 5 maintenance. -/
structure Transfer where
  cell : Nat
  target : Nat
  rank : Nat
deriving DecidableEq, Repr

/-- What one block reports at a beat boundary (R17, R85, R86, R89): items of the ending beat still outstanding per class,
carried items still outstanding per class, the fraction of the beat its work used (0.1 %), the items that come to the engines of a
cluster in the new beat, and the transfers that its cells ask for. Of the coding pool's carried encode
items, a report under the lane's own source number says which lanes they belong to (R228). -/
structure BeatLoad where
  source : Nat
  fresh : List Nat
  carried : List Nat
  occupancy : Nat
  work : List WorkItem := []
  transfers : List Transfer := []
deriving DecidableEq, Repr

/-- A codeword item asking the coding pool for a grant (R227): class, time of the last symbol, source number. -/
structure PoolItem where
  cls : Nat
  lastSymbol : Nat
  source : Nat
  broadband : Bool
  encode : Bool
deriving DecidableEq, Repr

/-- A detected condition to be delivered to the event log (R100, R449). -/
structure EventIn where
  time : Nat
  source : Nat
  code : Nat
  severity : Nat
  data : Bytes
deriving DecidableEq, Repr

/-- A port's contacts (R122): the two band relays and the ballast matrix switch. -/
inductive Contact where
  | band (b : Band)
  | matrix
deriving DecidableEq, Repr

/-- What the receive path of a port saw in one beat (R111, R112): ADC peak in 0.1 dB relative to full scale, a sample
at full scale, the clamp conducting, the cancellation DAC saturating. -/
structure ReceiveBeat where
  peak : Int
  fullScale : Bool
  clamp : Bool
  cancelSaturated : Bool
deriving DecidableEq, Repr

/-- A declared detection (R158): quality Q in 0.5 dB, capture metric L in whole dBµV, best correlator (R157), what the phase advance between the
repeated preamble symbols adds to its centre, in 0.25 ppm (R161), TSC of the preamble's end, and of the preamble the mean square of its samples
(R186) and the channel estimate at the pilot carriers (R190). -/
structure Detection where
  q : Int
  l : Nat
  bin : Fin 4
  advance : Int
  preambleEnd : Nat
  meanSquare : Nat := 0
  estimate : List (Int × Int) := []
deriving DecidableEq, Repr

/-- A decoded header or body check (R205, R209): check result and fields. -/
structure Header where
  crcOk : Bool
  ver : Nat
  prof : Nat
  cls : Nat
  nsym : Nat
  src : Nat
  tms : Nat
  sk : Bool
deriving DecidableEq, Repr

/-- A MAC frame (R243). -/
structure MacFrame where
  type : Nat
  ackReq : Bool
  more : Bool
  retry : Bool
  dst : Nat
  fin : Nat
  orig : Nat
  hops : Nat
  seq : Nat
  frag : Nat
  ackSeq : Nat
  ackMap : Nat
  ackCls : Nat
  grant : Nat
  body : Bytes
deriving DecidableEq, Repr

/-- How a payload's decoding ended (R213, R229, R349): codewords decoded and failed, CRC-32 over the MAC frame (of a frame whose soft values did
not all come with its symbols; log 65), or the common status with which a decode item was returned, and the SNR reported for the frame (R198): payload symbol, group,
value in half decibels above −10 dB. -/
structure DecodeResult where
  good : Nat
  failed : Nat
  crcOk : Bool
  returned : Option Nat
  snr : List (Nat × Nat × Nat)
deriving DecidableEq, Repr

/-- A symbol period of a lane's stream (R177-R193): of the main path or of the replay path; the symbol's number in the frame, 0 for the first
after the preamble; its samples, prefix first, before stage 1 of R177 (on the replay path as the reel and the subtraction leave them), and the
cancelled samples on both sides of it; the echo reference over its samples and the 127 before them; the channel estimate of its pilots after
common phase and slope have been removed; the soft values of its data carriers in ascending order; the spans of TSC in which
the port transmitted in the band; and the echo suppression that the port measures at once where a step is declared, in 0.1 dB. -/
structure RxSymbol where
  replay : Bool := false
  index : Nat := 0
  lead : List (Int × Int) := []
  body : List (Int × Int) := []
  tail : List (Int × Int) := []
  reference : List (Int × Int) := []
  pilots : List (Int × Int) := []
  soft : List Int := []
  sending : List (Nat × Nat) := []
  suppression : Int := 0
deriving DecidableEq, Repr

/-- A decoded frame at its home cluster (R172, R194, R243): arrival port and lane, PHY header's SRC, CLS and profile, the
MAC frame, acquisition and disturbance words, the TSC of its detection, and NSYM of its header. -/
structure RxFrame where
  port : Nat
  lane : Nat
  src : Nat
  cls : Nat
  prof : Nat
  mac : MacFrame
  acq : Nat
  dist : Nat
  detected : Nat
  nsym : Nat := 0
deriving DecidableEq, Repr

/-- What a training or a re-solve brings (R178, R180): the suppression in 0.1 dB, of the canceller or of its analogue stage, and the transmit
and receive samples of the beat that the model is solved over. -/
structure EchoSolve where
  level : Int
  samples : List (Int × Int)
deriving DecidableEq, Repr

/-- A pass of the replay path (R170): its lane, and of a frame processed from its preamble the fresh frequency estimate in 0.25 ppm, the mean
square of the preamble's samples and its channel estimate. -/
structure ReplayPass where
  lane : Nat
  afc : Int
  meanSquare : Nat
  estimate : List (Int × Int)
deriving DecidableEq, Repr

/-- A noise-floor window (R195, R196): TSC of its start, its samples after stage 1 of R177 with those on both sides, whether the port transmitted
in the band, and of each group the measured power and the residual echo estimated for it, in µV² scaled by 10⁴. -/
structure FloorWindow where
  start : Nat
  lead : List (Int × Int)
  body : List (Int × Int)
  tail : List (Int × Int)
  transmitting : Bool
  groups : List (Nat × Nat)
deriving DecidableEq, Repr

/-- A transmit descriptor of TXQ (R260), with the packet it points to. -/
structure TxDesc where
  buf : Nat
  len : Nat
  cls : Nat
  reserved : Nat
  dst : Nat
  ports : Nat
  tag : Nat
  packet : Bytes
deriving DecidableEq, Repr

/-- A free receive buffer of RXF (R265). -/
structure RxBuffer where
  addr : Nat
  size : Nat
deriving DecidableEq, Repr

/-- A JOBQ descriptor (R341), reserved fields gathered in `reserved`. -/
structure CipherDesc where
  op : Nat
  first : Bool
  last : Bool
  cls : Nat
  hwiv : Bool
  reserved : Nat
  slot : Nat
  ctx : Nat
  tagLen : Nat
  ivLen : Nat
  src : Nat
  dst : Nat
  len : Nat
  aadLen : Nat
  aad : Nat
  jobTag : Nat
  iv : Bytes
deriving DecidableEq, Repr

/-- A CHKQ descriptor (R360). -/
structure CheckDesc where
  op : Nat
  first : Bool
  last : Bool
  cls : Nat
  reserved : Nat
  poly : Nat
  ctx : Nat
  len : Nat
  src : Nat
  expected : Nat
  jobTag : Nat
deriving DecidableEq, Repr

/-- A frame arriving on a ring port (R367-R370): addresses, EtherType after the tags, HSR sequence number where it is tagged,
length, FCS result, ending by ABORT, whether a supervision frame comes from the nearest sender on that side, payload, LanId of the HSR tag, and VLAN with
priority. -/
structure RingFrame where
  da : Nat
  sa : Nat
  etherType : Nat
  hsrTag : Option Nat
  length : Nat
  fcsOk : Bool
  aborted : Bool
  nearest : Bool
  payload : Bytes
  lanId : Nat := 0
  vlan : Option (Nat × Nat) := none
deriving DecidableEq, Repr

/-- PTP message types of R373. -/
inductive PtpKind where
  | sync
  | followUp
  | announce
  | pdelayReq
  | pdelayResp
  | pdelayRespFollowUp
  | other
deriving DecidableEq, Repr

/-- A PTP message (R373, R374): kind, domain, sequence, timestamps, correctionField in ns, stepsRemoved, whether its sender is
the best master, an Announce's priority1 and clockClass, and whether it is one of the module's own come back. -/
structure PtpMessage where
  kind : PtpKind
  domain : Nat
  sequence : Nat
  origin : Nat
  requestReceived : Nat
  correction : Int
  stepsRemoved : Nat
  bestMaster : Bool
  priority1 : Nat := 0
  clockClass : Nat := 0
  own : Bool := false
deriving DecidableEq, Repr

/-- What a measurement channel's filters hold at the end of a conversion period (R386-R397), as binary32 bits: quantity before the
curve, its in-phase result through the named curve where the curve is a table of a standard, quadrature, and the conditions. Where the samples
of the window come with it, in nV of the input with nV or nA of the reference, and the generator's phase at the first in 2^-32 turns, the
quantity, the quadrature and the conditions follow from them. -/
structure ChannelSample where
  quantity : Nat
  curveOutput : Nat
  quadrature : Nat
  overrange : Bool
  referenceLow : Bool
  clampedPins : Nat
  samples : List (Int × Int) := []
  phase : Nat := 0
deriving DecidableEq, Repr

/-- An image found in a flash bank (R421, R425): its 136-byte header and its payload as they stand there, whether its signature verifies under
the key that SIGNER names, and that key's SHA-384. -/
structure ImageCheck where
  header : Bytes
  payload : Bytes
  signatureOk : Bool
  keyHash : Bytes
deriving DecidableEq, Repr

/-- What verification found in one bank: the firmware and the configuration image, where one stands there. -/
structure BankCheck where
  firmware : Option ImageCheck
  config : Option ImageCheck
deriving DecidableEq, Repr

/-- A part in an ageing measurement (R436, R437): its entry, its place in it, and, for parts measured by their ring oscillator, the increase
of the oscillator's delay against the factory value in parts per million. -/
structure AgeingSample where
  key : Nat
  slot : Nat
  delay : Nat
deriving DecidableEq, Repr

/-- The commands (spec/opcode_table.json). `t` is the TSC in ns at which the command happens. -/
inductive Instr where
  /-- UNCORRECTABLE_ERROR (R20): source number of the cell and the entry or address read. -/
  | uncorrectableError (t src addr : Nat)
  /-- CORRECTION_THRESHOLD (R21): source number and corrected errors counted within the window. -/
  | correctionThreshold (t src errors : Nat)
  /-- BLOCK_IDLE (R23). -/
  | blockIdle (t region block : Nat)
  /-- IDLE_TIMEOUT (R23). -/
  | idleTimeout (t region block : Nat)
  /-- BLOCK_RELEASE (R29): cells that fail their self-test are named. -/
  | blockRelease (t region block : Nat) (failedCells : List Nat)
  /-- SCRUB_ERROR (R37): the item, whether the error was corrected, the DRAM row. -/
  | scrubError (t : Nat) (item : DramItem) (corrected : Bool) (row : Nat)
  /-- MBX_GO (R51): the function and the word written to MBX_CTRL. -/
  | mbxGo (t f : Nat) (w : Word32)
  /-- RING_REQUEST_ARRIVAL (R48): sender's MAC address and message. -/
  | ringRequestArrival (t mac : Nat) (msg : Bytes)
  /-- READ (R49). -/
  | read (t : Nat)
  /-- WRITE (R39). -/
  | write (t : Nat)
  /-- BUNDLE (R57). -/
  | bundle (t : Nat)
  /-- WINDOW_READ (R66). -/
  | windowRead (t : Nat)
  /-- WINDOW_WRITE (R66). -/
  | windowWrite (t : Nat)
  /-- DIGEST_QUERY (R61). -/
  | digestQuery (t : Nat)
  /-- DIGEST_ANNOUNCE_RECEIVED (R62): sender's MAC address and message. -/
  | digestAnnounceReceived (t mac : Nat) (msg : Bytes)
  /-- DIGEST_ANNOUNCE_SEND (R61). -/
  | digestAnnounceSend (t : Nat)
  /-- COMMIT (R54). -/
  | commit (t : Nat)
  /-- COMMIT_DISTRIBUTION_DONE (R54). -/
  | commitDistributionDone (t : Nat)
  /-- ABORT (R55). -/
  | abort (t : Nat)
  /-- COMMIT_ACTIVATE (R56). -/
  | commitActivate (t : Nat)
  /-- DIGEST_RECOMPUTE_DONE (R60): of the staged digests, or of the active ones. -/
  | digestRecomputeDone (t : Nat) (staged : Bool)
  /-- BEAT_BOUNDARY (R83): the boundary that begins beat `n`, what the blocks report, codewords ready for the coding pool. -/
  | beatBoundary (n : Nat) (loads : List BeatLoad) (ready : List PoolItem)
  /-- REF10_QUALIFIED (R71). -/
  | ref10Qualified (t : Nat)
  /-- REF10_LOST (R72): the frequency offset last measured, in ppb. -/
  | ref10Lost (t : Nat) (offset : Int)
  /-- TIME_SOURCE_QUALIFIED (R76). -/
  | timeSourceQualified (t : Nat) (src : TimeSource)
  /-- TIME_SOURCE_LOST (R76). -/
  | timeSourceLost (t : Nat) (src : TimeSource)
  /-- TIME_HOLDOVER_EXPIRY (R76). -/
  | timeHoldoverExpiry (t : Nat)
  /-- SERVO_CORRECTION (R77): the error of station time in ns. -/
  | servoCorrection (t : Nat) (error : Int)
  /-- SET_STATION_TIME (R78). -/
  | setStationTime (t : Nat)
  /-- PPS_EDGE (R79). -/
  | ppsEdge (t : Nat)
  /-- PPS_OUT_EDGE (R81). -/
  | ppsOutEdge (t : Nat)
  /-- ZX_CROSSING (R90): input 0-2 for ZX_A-ZX_C. -/
  | zxCrossing (t input : Nat)
  /-- ZX_CROSSING_MISSED (R90). -/
  | zxCrossingMissed (t input : Nat)
  /-- TETHER_HOLDOVER_EXPIRY (R93). -/
  | tetherHoldoverExpiry (t : Nat)
  /-- SLOT_BOUNDARY (R96). -/
  | slotBoundary (t : Nat)
  /-- EVENT_DELIVERY (R100): an event a cell brings itself, or the oldest one detected inside the model. -/
  | eventDelivery (t : Nat) (ev : Option EventIn)
  /-- PORT_START_DELAY (R116). -/
  | portStartDelay (t p : Nat)
  /-- LOOPBACK_DONE (R116): ADC offset in LSB and loop delay less the factory value, in ns. -/
  | loopbackDone (t p : Nat) (offset delayError : Int)
  /-- RELAY_CONTACT_SENSE (R122): the contact and whether sense reads it closed. -/
  | relayContactSense (t p : Nat) (c : Contact) (closed : Bool)
  /-- RELAY_SENSE_TIMEOUT (R118). -/
  | relaySenseTimeout (t p : Nat)
  /-- PORT_LANES_IDLE (R116). -/
  | portLanesIdle (t p : Nat)
  /-- FAULT_RETRY_EXPIRY (R116). -/
  | faultRetryExpiry (t p : Nat)
  /-- RETRY_RELOAD (R119). -/
  | retryReload (t p : Nat)
  /-- TRANSMIT_POWER_MEASURE (R108): mean power of the beat in mW. -/
  | transmitPowerMeasure (t p power : Nat)
  /-- CURRENT_LIMIT (R109). -/
  | currentLimit (t p : Nat)
  /-- DRIVER_TEMPERATURE_READ (R110): junction temperature in 0.001 °C. -/
  | driverTemperatureRead (t p : Nat) (temp : Int)
  /-- AGC_UPDATE (R111). -/
  | agcUpdate (t p : Nat) (b : ReceiveBeat)
  /-- CLAMP_OVERVOLTAGE (R112). -/
  | clampOvervoltage (t p : Nat)
  /-- IMPEDANCE_MEASURE (R113): the band and the median magnitude in mΩ; `none` where no carrier was transmitted. -/
  | impedanceMeasure (t p : Nat) (b : Band) (z : Option Nat)
  /-- LANE_RESTART_END (R131). -/
  | laneRestartEnd (t p l : Nat)
  /-- COMPLIANCE_INTEGRATION_END (R149, R150): of the carriers of a lane's grid that the monitor measured, number and PSD through the
  observation path, in 0.1 dBm/Hz. -/
  | complianceIntegrationEnd (t p l : Nat) (carriers : List (Nat × Int))
  /-- CLIP_RELAX (R151). -/
  | clipRelax (t p l g : Nat)
  /-- TMAP_UNACKNOWLEDGED (R283). -/
  | tmapUnacknowledged (t link : Nat)
  /-- PREAMBLE_DETECTION (R158): what the vigil resolves together (R160). -/
  | preambleDetection (t p l : Nat) (ds : List Detection)
  /-- HEADER_CHECK_RESULT (R163): on the main receive path, or on the replay path (R170 step 4). -/
  | headerCheckResult (t p l : Nat) (replay : Bool) (h : Header)
  /-- REARM_END (R163). -/
  | rearmEnd (t p l : Nat)
  /-- LAST_SYMBOL_RECEIVED (R168). -/
  | lastSymbolReceived (t p l : Nat)
  /-- DUAL_CAPTURE_REPLAY (R170). -/
  | dualCaptureReplay (t p : Nat) (r : ReplayPass)
  /-- DECODE_RESULT (R229): of the frame with that frame number. -/
  | decodeResult (t p l frame : Nat) (r : DecodeResult)
  /-- RX_SYMBOL_END (R188). -/
  | rxSymbolEnd (t p l : Nat) (sym : RxSymbol)
  /-- ECHO_TRAINING_END (R183): the suppression reached, and the beat's samples. -/
  | echoTrainingEnd (t p : Nat) (b : Band) (x : EchoSolve)
  /-- ECHO_SUPPRESSION_MEASURE (R181): by lane of the band, the transmit reference power and the residual echo power of its measurement
  window; and whether the port transmitted in the band throughout it. -/
  | echoSuppressionMeasure (t p : Nat) (b : Band) (reference residual : List (Nat × Nat)) (transmitting : Bool)
  /-- ECHO_HOLD_TIMEOUT (R183). -/
  | echoHoldTimeout (t p : Nat) (b : Band)
  /-- ECHO_RESOLVE_DONE (R183): the suppression of the analogue stage, and the beat's samples. -/
  | echoResolveDone (t p : Nat) (b : Band) (x : EchoSolve)
  /-- ECHO_HOLD_LIMIT (R183). -/
  | echoHoldLimit (t p : Nat) (b : Band)
  /-- ECHO_LOST_RESOLVE (R183). -/
  | echoLostResolve (t p : Nat) (b : Band) (x : EchoSolve)
  /-- ECHO_MODEL_REFRESH (R180). -/
  | echoModelRefresh (t p : Nat) (b : Band) (analogue : Int)
  /-- NOISE_FLOOR_WINDOW (R195). -/
  | noiseFloorWindow (t p l : Nat) (w : FloorWindow)
  /-- NOISE_FLOOR_PUBLISH (R197). -/
  | noiseFloorPublish (t p l : Nat)
  /-- LANE_FRAME_START (R238). -/
  | laneFrameStart (t p l : Nat)
  /-- LANE_FRAME_END (R264). -/
  | laneFrameEnd (t p l : Nat)
  /-- GRANT_LAPSE (R239). -/
  | grantLapse (t p l : Nat)
  /-- BEACON_SEND (R245). -/
  | beaconSend (t : Nat)
  /-- DATA_FRAME_RECEIVED (R254). -/
  | dataFrameReceived (t : Nat) (rx : RxFrame)
  /-- ACK_FRAME_RECEIVED (R253). -/
  | ackFrameReceived (t : Nat) (rx : RxFrame)
  /-- ACK_TIMEOUT (R253): spool position and sequence number. -/
  | ackTimeout (t spool seq : Nat)
  /-- STANDALONE_ACK_DUE (R255): spool position. -/
  | standaloneAckDue (t spool : Nat)
  /-- UNROUTED_HOLD_EXPIRY (R249). -/
  | unroutedHoldExpiry (t spool : Nat)
  /-- SPOOL_DISABLE (R249). -/
  | spoolDisable (t spool : Nat)
  /-- SPOOL_ENABLE (R249). -/
  | spoolEnable (t spool : Nat)
  /-- SPOOL_FLUSH (R249). -/
  | spoolFlush (t spool : Nat)
  /-- TXQ_DOORBELL (R262): the new producer index and the descriptors fetched. -/
  | txqDoorbell (t f prod : Nat) (descs : List TxDesc)
  /-- RX_HOLD_TIMEOUT (R261): function of the waiting packet. -/
  | rxHoldTimeout (t f : Nat)
  /-- ROUTE_AGE_EXPIRY (R276): route-store position. -/
  | routeAgeExpiry (t pos : Nat)
  /-- LINK_IDLE_RELEASE (R280). -/
  | linkIdleRelease (t link : Nat)
  /-- LINK_RELEASE (R281). -/
  | linkRelease (t link writer : Nat)
  /-- LINK_OFFSET_WRITE (R281). -/
  | linkOffsetWrite (t link writer : Nat) (offset : Byte)
  /-- REPORT_RECEIVED (R282). -/
  | reportReceived (t : Nat) (rx : RxFrame)
  /-- STATE_RECEIVED (R294). -/
  | stateReceived (t : Nat) (rx : RxFrame)
  /-- NEIGHBOURS_RECEIVED (R286). -/
  | neighboursReceived (t : Nat) (rx : RxFrame)
  /-- PROBE_REPLY_RECEIVED (R286). -/
  | probeReplyReceived (t : Nat) (rx : RxFrame)
  /-- JOIN_RECEIVED (R271). -/
  | joinReceived (t : Nat) (rx : RxFrame)
  /-- G9903_BOOTSTRAP (R272): short address and EUI-64 of the node. -/
  | g9903Bootstrap (t p l short eui : Nat)
  /-- PROBE_TIMEOUT (R287): the endpoint under repair. -/
  | probeTimeout (t endpoint : Nat)
  /-- RELAY_WAIT_EXPIRY (R292). -/
  | relayWaitExpiry (t p l : Nat)
  /-- MATRIX_SOURCE_CHANGE (R314). -/
  | matrixSourceChange (t : Nat)
  /-- TRIP_MIN_PULSE_END (R315). -/
  | tripMinPulseEnd (t n : Nat)
  /-- COMMAND_FRAME_END (R300). -/
  | commandFrameEnd (t p : Nat)
  /-- HEARTBEAT (R300). -/
  | heartbeat (t p link : Nat)
  /-- TAG_STORE_REFRESH (R302). -/
  | tagStoreRefresh (t p link : Nat)
  /-- HYPOTHESIS_TAG_COMPUTE (R304). -/
  | hypothesisTagCompute (t p link : Nat)
  /-- COMMAND_BODY_CHECK (R305): the soft value of each chip. -/
  | commandBodyCheck (t p : Nat) (chips : List Int)
  /-- SUPERVISION_TIMEOUT (R307). -/
  | supervisionTimeout (t p link : Nat)
  /-- REKEY_CHANGEOVER_END (R308). -/
  | rekeyChangeoverEnd (t p link : Nat)
  /-- CIPHER_JOB_FETCH (R341): the descriptor fetched; the page is 64 for an internal user (R337). -/
  | cipherJobFetch (t f : Nat) (d : CipherDesc)
  /-- CIPHER_SEGMENT_COMPLETE (R338): job number, unit, whether the guard's comparison passed, whether host memory answered, the bytes
  read at SRC (LEN bytes, then a tag to verify) and AAD. -/
  | cipherSegmentComplete (t job unit : Nat) (guardOk dmaOk : Bool) (input aad : Bytes)
  /-- KNOWN_ANSWER_TEST (R321): core and result. -/
  | knownAnswerTest (t core : Nat) (pass : Bool)
  /-- LOAD (R328): the function and the word written to KEY_CMD. -/
  | load (t f : Nat) (w : Word32)
  /-- UNWRAP (R328). -/
  | unwrap (t f : Nat) (w : Word32)
  /-- ERASE (R329). -/
  | erase (t f : Nat) (w : Word32)
  /-- ERASE_COMPLETE (R329). -/
  | eraseComplete (t f : Nat)
  /-- SLOT_STORAGE_ERROR (R330): the slot; `none` for the key store's control state. -/
  | slotStorageError (t : Nat) (slot : Option Nat)
  /-- CTX_ABORT (R334). -/
  | ctxAbort (t f : Nat) (w : Word32)
  /-- CHECK_JOB_FETCH (R360). -/
  | checkJobFetch (t f : Nat) (d : CheckDesc)
  /-- CHECK_PART_COMPLETE (R355): the oldest part of page `f` with context number `ctx` (0xFF a single-part job), its data, whether host memory answered. -/
  | checkPartComplete (t f ctx : Nat) (dmaOk : Bool) (data : Bytes)
  /-- CHECK_CTX_CTRL_WRITE (R356). -/
  | checkCtxCtrlWrite (t f ctx : Nat) (w : Word32)
  /-- CHECK_VALUE_WRITE (R356): VALUE_LO, or VALUE_HI. -/
  | checkValueWrite (t f ctx : Nat) (high : Bool) (w : Word32)
  /-- FUNCTION_LEVEL_RESET (R418). -/
  | functionLevelReset (t f : Nat)
  /-- RING_TRAINING_COMPLETE (R365): SNR margins of the two pairs in 0.1 dB, and the cable-length estimate in 0.1 m (R378). -/
  | ringTrainingComplete (t : Nat) (side : Side) (marginA marginB : Int) (cable : Nat)
  /-- RING_LINK_LOSS (R365). -/
  | ringLinkLoss (t : Nat) (side : Side)
  /-- RING_CONFLICT_TIMEOUT (R365): by a partner role change, or after 1 s. -/
  | ringConflictTimeout (t : Nat) (side : Side) (roleChanged : Bool)
  /-- RING_FRAME_RECEIVED (R367). -/
  | ringFrameReceived (t : Nat) (side : Side) (frame : RingFrame)
  /-- HSR_SUPERVISION_SEND (R370). -/
  | hsrSupervisionSend (t : Nat)
  /-- PTP_MESSAGE_RECEIVED (R373). -/
  | ptpMessageReceived (t : Nat) (side : Side) (m : PtpMessage)
  /-- PTP_SYNC_TIMEOUT (R374). -/
  | ptpSyncTimeout (t : Nat)
  /-- BYPASS_SENSE_MISMATCH (R376): contact sense of KE and KW. -/
  | bypassSenseMismatch (t : Nat) (ke kw : Bool)
  /-- RING_STEADY (R379). -/
  | ringSteady (t : Nat)
  /-- RING_ACTIVITY_INTERRUPTED (R379). -/
  | ringActivityInterrupted (t : Nat)
  /-- RING_INSERTION_BEAT (R379). -/
  | ringInsertionBeat (t : Nat)
  /-- RING_TRAINING_LIMIT (R379). -/
  | ringTrainingLimit (t : Nat)
  /-- RING_ATTEMPT_INTERVAL (R379). -/
  | ringAttemptInterval (t : Nat)
  /-- AUTO_BYPASS (R379). -/
  | autoBypass (t : Nat)
  /-- INSERT_AT_BEAT (R380). -/
  | insertAtBeat (t : Nat)
  /-- RESULT_PUBLISH (R386): channel 0-7. -/
  | resultPublish (t m : Nat) (x : ChannelSample)
  /-- THRESHOLD_SWITCH_CHANGE (R402): switch 0-15, the fast value (binary32 bits) and its status (R397). -/
  | thresholdSwitchChange (t sw value status : Nat)
  /-- GENERATOR_FAULT (R393). -/
  | generatorFault (t x : Nat)
  /-- GENERATOR_RESTART (R393). -/
  | generatorRestart (t x : Nat)
  /-- LEAD_MONITOR_DECISION (R399): channel and the pins whose pair's impedance (Ω) the monitor measured. -/
  | leadMonitorDecision (t m : Nat) (pairs : List (Nat × Nat × Nat))
  /-- CLAMP_FLAG_CLEAR (R397). -/
  | clampFlagClear (t : Nat)
  /-- BI_FILTER_EXPIRY (R406). -/
  | biFilterExpiry (t n : Nat)
  /-- POWER_ON (R408). -/
  | powerOn (t : Nat)
  /-- BROWN_OUT (R408). -/
  | brownOut (t : Nat)
  /-- EXTERNAL (R408): ns for which nMRST was low. -/
  | external (t low : Nat)
  /-- MANAGER_FULL (R408). -/
  | managerFull (t : Nat)
  /-- MANAGER_WARM (R408). -/
  | managerWarm (t : Nat)
  /-- WATCHDOG (R408). -/
  | watchdog (t : Nat)
  /-- THERMAL (R408): die temperature in 0.001 °C. -/
  | thermal (t : Nat) (temp : Int)
  /-- DOMAIN_CLOCK_GOOD (R413): domain 0-29. -/
  | domainClockGood (t d : Nat)
  /-- DOMAIN_CLOCK_TIMEOUT (R413). -/
  | domainClockTimeout (t d : Nat)
  /-- DOMAIN_CLOCK_LOST (R414). -/
  | domainClockLost (t d : Nat)
  /-- DOMAIN_CLOCK_RETURN (R414). -/
  | domainClockReturn (t d : Nat)
  /-- BOOT_IMAGE_VERIFIED (R423): what verification found in banks A and B. -/
  | bootImageVerified (t : Nat) (a b : BankCheck)
  /-- BOOT_COMMIT (R423). -/
  | bootCommit (t : Nat)
  /-- BAR0_EARLY_ACCESS (R473): function, a posted write or a non-posted request. -/
  | bar0EarlyAccess (t f : Nat) (posted : Bool)
  /-- SAVE_CONFIGURATION (R424). -/
  | saveConfiguration (t : Nat)
  /-- SAVE_COMPLETE (R424). -/
  | saveComplete (t : Nat)
  /-- IMAGE_BLOCK (R425). -/
  | imageBlock (t : Nat)
  /-- ERASE_BANK (R425). -/
  | eraseBank (t : Nat)
  /-- VERIFY (R425): what verification found in the bank. -/
  | verify (t : Nat) (found : BankCheck)
  /-- ERASE_CONFIGURATION_ONLY (R425). -/
  | eraseConfigurationOnly (t : Nat)
  /-- BACKUP_TIME_COPY (R426). -/
  | backupTimeCopy (t : Nat)
  /-- VBAT_LOSS (R427). -/
  | vbatLoss (t : Nat)
  /-- HOT_SWAP_CONNECT (R428). -/
  | hotSwapConnect (t : Nat)
  /-- NEXTRACT_ASSERTED (R430). -/
  | nextractAsserted (t : Nat)
  /-- EXTRACT_POWER_DOWN (R430). -/
  | extractPowerDown (t : Nat)
  /-- NEXTRACT_RELEASED (R430). -/
  | nextractReleased (t : Nat)
  /-- PHASE_SHED (R433): rail and phase. -/
  | phaseShed (t rail phase : Nat)
  /-- AGEING_MEASUREMENT (R437). -/
  | ageingMeasurement (t : Nat) (samples : List AgeingSample)
  /-- AGEING_FLASH_WRITE (R437). -/
  | ageingFlashWrite (t : Nat)
  /-- SUBSTITUTION_START (R441). -/
  | substitutionStart (t : Nat)
  /-- BANK_COPY_DONE (R442): positions whose word was uncorrectable. -/
  | bankCopyDone (t : Nat) (lost : List Nat)
  /-- BALLAST_SUBSTITUTE (R443). -/
  | ballastSubstitute (t : Nat)
  /-- BALLAST_RETURN (R443). -/
  | ballastReturn (t : Nat)
  /-- BALLAST_SELF_TEST (R445): unit and result. -/
  | ballastSelfTest (t u : Nat) (pass : Bool)
  /-- TAMPER_DETECTED (R446): sensor 1-6. -/
  | tamperDetected (t sensor : Nat)
  /-- TAMPER_LATCH_CLEAR (R448). -/
  | tamperLatchClear (t : Nat)
  /-- EVT_POP (R451). -/
  | evtPop (t f : Nat) (w : Word32)
  /-- EVT_OVERFLOW_CLEAR (R451). -/
  | evtOverflowClear (t f : Nat) (w : Word32)
  /-- REGISTER_WRITE (R12): function, offset in its page, value. -/
  | registerWrite (t f offset : Nat) (w : Word32)
  /-- RING_RELAY_CONTACT_SENSE (R375): sense of KE and KW. -/
  | ringRelayContactSense (t : Nat) (ke kw : Bool)
  /-- RING_ROLE_CONFLICT (R365). -/
  | ringRoleConflict (t : Nat) (side : Side)
  /-- RING_TRANSMIT_END (R371). -/
  | ringTransmitEnd (t : Nat) (side : Side)
  /-- PTP_MESSAGE_INTERVAL (R373). -/
  | ptpMessageInterval (t : Nat)
  /-- DRIVER_RAIL_REGULATION (R118): µs out of regulation; 0 where the rail returns to regulation. -/
  | driverRailRegulation (t p outUs : Nat)
  /-- GENERATOR_RAMP_END (R393). -/
  | generatorRampEnd (t x : Nat)
  /-- VREF_AO_CHANGE (R405): VREF_AO in mV. -/
  | vrefAoChange (t mv : Nat)
  /-- BINARY_INPUT_EDGE (R406): input and terminal voltage in 0.1 V. -/
  | binaryInputEdge (t n volts : Nat)
  /-- DOMAIN_POWER_GOOD (R434). -/
  | domainPowerGood (t d : Nat)
  /-- THERMAL_RELEASE (R408). -/
  | thermalRelease (t : Nat) (temp : Int)
  /-- RXF_DOORBELL (R261): the new producer index and the buffers posted. -/
  | rxfDoorbell (t f prod : Nat) (bufs : List RxBuffer)
  /-- HOST_CONSUMER_INDEX_WRITE (R259): ring 1 TXC, 3 RXQ, 5 DONEQ, 7 CHKDQ, and the new index. -/
  | hostConsumerIndexWrite (t f ring idx : Nat)
deriving DecidableEq, Repr

end Sys2Proof
end

