-- ==== Sys2Proof/WellFormed.lean ====
section
/-! DEFINITION. Well-formed commands: every operand within what the spec numbers (38 ports, 4 lanes, 64 functions, 30 domains,
18-bit endpoints and so on), whatever the variant. A command about a part the variant lacks is well-formed and changes
nothing. -/

namespace Sys2Proof

/-- Each operand lies within the numbering of the spec. -/
def Instr.wf : Instr → Bool
  | .uncorrectableError _ src _ => decide (src < 65536)
  | .correctionThreshold _ src _ => decide (src < 65536)
  | .blockIdle _ region block => decide ((1 ≤ region ∧ region ≤ 5) ∧ block < 63)
  | .idleTimeout _ region block => decide ((1 ≤ region ∧ region ≤ 5) ∧ block < 63)
  | .blockRelease _ region block _ => decide ((1 ≤ region ∧ region ≤ 5) ∧ block < 63)
  | .scrubError _ _ _ _ => true
  | .mbxGo _ f _ => decide (f < 64)
  | .ringRequestArrival _ mac _ => decide (mac < 2 ^ 48)
  | .read _ => true
  | .write _ => true
  | .bundle _ => true
  | .windowRead _ => true
  | .windowWrite _ => true
  | .digestQuery _ => true
  | .digestAnnounceReceived _ mac _ => decide (mac < 2 ^ 48)
  | .digestAnnounceSend _ => true
  | .commit _ => true
  | .commitDistributionDone _ => true
  | .abort _ => true
  | .commitActivate _ => true
  | .digestRecomputeDone _ _ => true
  | .beatBoundary _ _ _ => true
  | .ref10Qualified _ => true
  | .ref10Lost _ _ => true
  | .timeSourceQualified _ _ => true
  | .timeSourceLost _ _ => true
  | .timeHoldoverExpiry _ => true
  | .servoCorrection _ _ => true
  | .setStationTime _ => true
  | .ppsEdge _ => true
  | .ppsOutEdge _ => true
  | .zxCrossing _ input => decide (input < 3)
  | .zxCrossingMissed _ input => decide (input < 3)
  | .tetherHoldoverExpiry _ => true
  | .slotBoundary _ => true
  | .eventDelivery _ _ => true
  | .portStartDelay _ p => decide (p < 38)
  | .loopbackDone _ p _ _ => decide (p < 38)
  | .relayContactSense _ p _ _ => decide (p < 38)
  | .relaySenseTimeout _ p => decide (p < 38)
  | .portLanesIdle _ p => decide (p < 38)
  | .faultRetryExpiry _ p => decide (p < 38)
  | .retryReload _ p => decide (p < 38)
  | .transmitPowerMeasure _ p _ => decide (p < 38)
  | .currentLimit _ p => decide (p < 38)
  | .driverTemperatureRead _ p _ => decide (p < 38)
  | .agcUpdate _ p _ => decide (p < 38)
  | .clampOvervoltage _ p => decide (p < 38)
  | .impedanceMeasure _ p _ _ => decide (p < 38)
  | .laneRestartEnd _ p l => decide (p < 38 ∧ l < 4)
  | .complianceIntegrationEnd _ p l _ => decide (p < 38 ∧ l < 4)
  | .clipRelax _ p l _ => decide (p < 38 ∧ l < 4)
  | .tmapUnacknowledged _ link => decide (link < 262144)
  | .preambleDetection _ p l ds => decide (p < 38 ∧ l < 4) && ds.all fun d => decide (d.l < 256)
  | .headerCheckResult _ p l _ _ => decide (p < 38 ∧ l < 4)
  | .rearmEnd _ p l => decide (p < 38 ∧ l < 4)
  | .lastSymbolReceived _ p l => decide (p < 38 ∧ l < 4)
  | .dualCaptureReplay _ p r => decide (p < 38 ∧ r.lane < 4)
  | .decodeResult _ p l frame _ => decide (p < 38 ∧ l < 4 ∧ frame < 65536)
  | .rxSymbolEnd _ p l _ => decide (p < 38 ∧ l < 4)
  | .echoTrainingEnd _ p _ _ => decide (p < 38)
  | .echoSuppressionMeasure _ p _ reference residual _ => decide (p < 38 ∧ reference.length ≤ 4 ∧ residual.length ≤ 4)
  | .echoHoldTimeout _ p _ => decide (p < 38)
  | .echoResolveDone _ p _ _ => decide (p < 38)
  | .echoHoldLimit _ p _ => decide (p < 38)
  | .echoLostResolve _ p _ _ => decide (p < 38)
  | .echoModelRefresh _ p _ _ => decide (p < 38)
  | .noiseFloorWindow _ p l w => decide (p < 38 ∧ l < 4 ∧ w.groups.length ≤ 145)
  | .noiseFloorPublish _ p l => decide (p < 38 ∧ l < 4)
  | .laneFrameStart _ p l => decide (p < 38 ∧ l < 4)
  | .laneFrameEnd _ p l => decide (p < 38 ∧ l < 4)
  | .grantLapse _ p l => decide (p < 38 ∧ l < 4)
  | .beaconSend _ => true
  | .dataFrameReceived _ _ => true
  | .ackFrameReceived _ _ => true
  | .ackTimeout _ spool seq => decide (spool < 1048576 ∧ seq < 65536)
  | .standaloneAckDue _ spool => decide (spool < 1048576)
  | .unroutedHoldExpiry _ spool => decide (spool < 1048576)
  | .spoolDisable _ spool => decide (spool < 1048576)
  | .spoolEnable _ spool => decide (spool < 1048576)
  | .spoolFlush _ spool => decide (spool < 1048576)
  | .txqDoorbell _ f prod _ => decide (f < 64 ∧ prod < 65536)
  | .rxHoldTimeout _ f => decide (f < 64)
  | .routeAgeExpiry _ pos => decide (pos < 2097152)
  | .linkIdleRelease _ link => decide (link < 262144)
  | .linkRelease _ link writer => decide (link < 262144 ∧ writer < 512)
  | .linkOffsetWrite _ link writer _ => decide (link < 262144 ∧ writer < 512)
  | .reportReceived _ _ => true
  | .stateReceived _ _ => true
  | .neighboursReceived _ _ => true
  | .probeReplyReceived _ _ => true
  | .joinReceived _ _ => true
  | .g9903Bootstrap _ p l short eui => decide (p < 38 ∧ l < 4 ∧ (short < 65536 ∧ eui < 2 ^ 64))
  | .probeTimeout _ endpoint => decide (endpoint < 262144)
  | .relayWaitExpiry _ p l => decide (p < 38 ∧ l < 4)
  | .matrixSourceChange _ => true
  | .tripMinPulseEnd _ n => decide (n < 8)
  | .commandFrameEnd _ p => decide (p < 38)
  | .heartbeat _ p link => decide (p < 38 ∧ link < 8)
  | .tagStoreRefresh _ p link => decide (p < 38 ∧ link < 8)
  | .hypothesisTagCompute _ p link => decide (p < 38 ∧ link < 8)
  | .commandBodyCheck _ p chips => decide (p < 38 ∧ chips.length % 4 = 0)
  | .supervisionTimeout _ p link => decide (p < 38 ∧ link < 8)
  | .rekeyChangeoverEnd _ p link => decide (p < 38 ∧ link < 8)
  | .cipherJobFetch _ f d => decide (f ≤ 64 ∧ (d.op < 256 ∧ d.cls < 4 ∧ d.slot < 256 ∧ d.ctx < 256 ∧ d.iv.length = 16))
  | .cipherSegmentComplete _ _ unit _ _ _ _ => decide (unit < 17)
  | .knownAnswerTest _ core _ => decide (core < 17)
  | .load _ f _ => decide (f < 64)
  | .unwrap _ f _ => decide (f < 64)
  | .erase _ f _ => decide (f < 64)
  | .eraseComplete _ f => decide (f < 64)
  | .slotStorageError _ _ => true
  | .ctxAbort _ f _ => decide (f ≤ 64)
  | .checkJobFetch _ f d => decide (f ≤ 64 ∧ (d.op < 256 ∧ d.cls < 4 ∧ d.poly < 256 ∧ d.ctx < 256))
  | .checkPartComplete _ f ctx _ _ => decide (f ≤ 64 ∧ ctx < 256)
  | .checkCtxCtrlWrite _ f ctx _ => decide (f < 64 ∧ ctx < 256)
  | .checkValueWrite _ f ctx _ _ => decide (f < 64 ∧ ctx < 256)
  | .functionLevelReset _ f => decide (f < 64)
  | .ringTrainingComplete _ _ _ _ _ => true
  | .ringLinkLoss _ _ => true
  | .ringConflictTimeout _ _ _ => true
  | .ringFrameReceived _ _ _ => true
  | .hsrSupervisionSend _ => true
  | .ptpMessageReceived _ _ _ => true
  | .ptpSyncTimeout _ => true
  | .bypassSenseMismatch _ _ _ => true
  | .ringSteady _ => true
  | .ringActivityInterrupted _ => true
  | .ringInsertionBeat _ => true
  | .ringTrainingLimit _ => true
  | .ringAttemptInterval _ => true
  | .autoBypass _ => true
  | .insertAtBeat _ => true
  | .resultPublish _ m _ => decide (m < 8)
  | .thresholdSwitchChange _ sw _ status => decide (sw < 16 ∧ status < 8)
  | .generatorFault _ x => decide (x < 4)
  | .generatorRestart _ x => decide (x < 4)
  | .leadMonitorDecision _ m _ => decide (m < 8)
  | .clampFlagClear _ => true
  | .biFilterExpiry _ n => decide (n < 16)
  | .powerOn _ => true
  | .brownOut _ => true
  | .external _ _ => true
  | .managerFull _ => true
  | .managerWarm _ => true
  | .watchdog _ => true
  | .thermal _ _ => true
  | .domainClockGood _ d => decide (d < 30)
  | .domainClockTimeout _ d => decide (d < 30)
  | .domainClockLost _ d => decide (d < 30)
  | .domainClockReturn _ d => decide (d < 30)
  | .bootImageVerified _ _ _ => true
  | .bootCommit _ => true
  | .bar0EarlyAccess _ f _ => decide (f < 64)
  | .saveConfiguration _ => true
  | .saveComplete _ => true
  | .imageBlock _ => true
  | .eraseBank _ => true
  | .verify _ _ => true
  | .eraseConfigurationOnly _ => true
  | .backupTimeCopy _ => true
  | .vbatLoss _ => true
  | .hotSwapConnect _ => true
  | .nextractAsserted _ => true
  | .extractPowerDown _ => true
  | .nextractReleased _ => true
  | .phaseShed _ rail phase => decide (rail < 11 ∧ phase < 8)
  | .ageingMeasurement _ _ => true
  | .ageingFlashWrite _ => true
  | .substitutionStart _ => true
  | .bankCopyDone _ _ => true
  | .ballastSubstitute _ => true
  | .ballastReturn _ => true
  | .ballastSelfTest _ u _ => decide (u < 22)
  | .tamperDetected _ sensor => decide ((1 ≤ sensor ∧ sensor ≤ 6))
  | .tamperLatchClear _ => true
  | .evtPop _ f _ => decide (f < 64)
  | .evtOverflowClear _ f _ => decide (f < 64)
  | .registerWrite _ f offset _ => decide (f < 64 ∧ offset < 65536)
  | .ringRelayContactSense _ _ _ => true
  | .ringRoleConflict _ _ => true
  | .ringTransmitEnd _ _ => true
  | .ptpMessageInterval _ => true
  | .driverRailRegulation _ p _ => decide (p < 38)
  | .generatorRampEnd _ x => decide (x < 4)
  | .vrefAoChange _ _ => true
  | .binaryInputEdge _ n volts => decide (n < 16 ∧ volts < 65536)
  | .domainPowerGood _ d => decide (d < 30)
  | .thermalRelease _ _ => true
  | .rxfDoorbell _ f prod _ => decide (f < 64 ∧ prod < 65536)
  | .hostConsumerIndexWrite _ f ring idx => decide (f < 64 ∧ ring < 8 ∧ idx < 65536)

end Sys2Proof
end

