-- ==== Sys2Proof/Machine/Bits.lean ====
section
/-! DEFINITION. Numbers and bytes: big-endian values (R38), bit fields, two's complement, binary32 as exact fractions,
and the bitwise CRC that digests (R59) and check units share. -/

namespace Sys2Proof.Machine

/-- The `n` bytes of `v`, most significant first (R38). -/
def toBE : Nat → Nat → Bytes
  | 0, _ => []
  | n + 1, v => BitVec.ofNat 8 (v >>> (8 * n)) :: toBE n v

/-- The value of bytes taken most significant first. -/
def ofBEFrom (acc : Nat) : Bytes → Nat
  | [] => acc
  | b :: bs => ofBEFrom (acc * 256 + b.toNat) bs

/-- The value of bytes, most significant first (R38). -/
def ofBE (bs : Bytes) : Nat := ofBEFrom 0 bs

/-- The `n` bytes of `v`, least significant first (host registers, R51). -/
def toLE : Nat → Nat → Bytes
  | 0, _ => []
  | n + 1, v => BitVec.ofNat 8 v :: toLE n (v >>> 8)

/-- The value of bytes, least significant first. -/
def ofLE : Bytes → Nat
  | [] => 0
  | b :: bs => b.toNat + 256 * ofLE bs

/-- Bits `hi` down to `lo` of `v`. -/
def bits (v hi lo : Nat) : Nat := (v >>> lo) % 2 ^ (hi + 1 - lo)

/-- Bit `i` of `v`. -/
def bit (v i : Nat) : Bool := v.testBit i

/-- `v` with bit `i` at `b`. -/
def withBit (v i : Nat) (b : Bool) : Nat :=
  if v.testBit i == b then v else if b then v + 2 ^ i else v - 2 ^ i

/-- `v` without the bits set in `m`. -/
def andNot (v m : Nat) : Nat := Nat.xor v (Nat.land v m)

/-- 1 for true. -/
def ofBool (b : Bool) : Nat := if b then 1 else 0

/-- Number of bits set in the low `n` bits of `v`. -/
def popCount : Nat → Nat → Nat
  | 0, _ => 0
  | n + 1, v => v % 2 + popCount n (v / 2)

/-- Two's complement value of the low `w` bits of `v`. -/
def signed (w v : Nat) : Int :=
  let u := v % 2 ^ w
  if u < 2 ^ (w - 1) then (u : Int) else (u : Int) - (2 ^ w : Nat)

/-- The low `w` bits of an integer in two's complement. -/
def unsigned (w : Nat) (i : Int) : Nat := (i % (2 ^ w : Nat)).toNat

/-- The `n` bytes at offset `o`; missing bytes read zero. -/
def slice (bs : Bytes) (o n : Nat) : Bytes :=
  let r := (bs.drop o).take n
  r ++ List.replicate (n - r.length) 0

/-- Big-endian value of the `n` bytes at offset `o`. -/
def beAt (bs : Bytes) (o n : Nat) : Nat := ofBE (slice bs o n)

/-- All bytes are zero. -/
def allZero (bs : Bytes) : Bool := bs.all (fun b => b == 0)

/-- `bs` padded with zeros to a multiple of `n`. -/
def padTo (n : Nat) (bs : Bytes) : Bytes := bs ++ List.replicate ((n - bs.length % n) % n) 0

/-- A printable string as bytes. -/
def ascii (s : String) : Bytes := s.toList.map fun c => BitVec.ofNat 8 c.toNat

/-- Least index in `0 … n-1` with `p`. -/
def firstBelow (p : Nat → Bool) (n : Nat) : Option Nat := (List.range n).find? p

/-- Insert before the first element that `lt` puts behind it. -/
def insertBy {α : Type} (lt : α → α → Bool) (x : α) : List α → List α
  | [] => [x]
  | y :: l => if lt x y then x :: y :: l else y :: insertBy lt x l

/-- Stable sort by `lt`. -/
def sortBy {α : Type} (lt : α → α → Bool) (l : List α) : List α := l.foldl (fun acc x => insertBy lt x acc) []

/-- Order of lists of numbers, first difference first. -/
def lexLt : List Nat → List Nat → Bool
  | a :: as, b :: bs => decide (a < b) || (decide (a = b) && lexLt as bs)
  | _, _ => false

/-! ## CRC -/

/-- One bit into a CRC register of `w` bits, most significant bit first. -/
def crcBit (w poly reg : Nat) (b : Bool) : Nat :=
  let top := reg.testBit (w - 1)
  let r := (reg <<< 1) % 2 ^ w
  if top == b then r else Nat.xor r poly

/-- The bits of `v`, `n` of them, most significant first. -/
def bitsMSB : Nat → Nat → List Bool
  | 0, _ => []
  | n + 1, v => v.testBit n :: bitsMSB n v

/-- The bits of `v`, `n` of them, least significant first. -/
def bitsLSB (n v : Nat) : List Bool := (bitsMSB n v).reverse

/-- The low `w` bits of `v` in reverse order. -/
def reflect (w v : Nat) : Nat := (bitsLSB w v).foldl (fun acc b => acc * 2 + ofBool b) 0

/-- A list of bits into a CRC register. -/
def crcBitsIn (w poly : Nat) (reg : Nat) (l : List Bool) : Nat := l.foldl (crcBit w poly) reg

/-- Bytes into a CRC register, each byte's bits in the given order. -/
def crcBytes (w poly : Nat) (refl : Bool) (reg : Nat) (bs : Bytes) : Nat :=
  bs.foldl (fun r b => crcBitsIn w poly r (if refl then bitsLSB 8 b.toNat else bitsMSB 8 b.toNat)) reg

/-- CRC-64/ECMA-182 of R59. -/
def crc64 (bs : Bytes) : Nat := crcBytes 64 0x42F0E1EBA9EA3693 false 0 bs

/-! ## Polynomials (R347, R348) -/

/-- A polynomial of R347: width, polynomial, initial value, reflection, final exclusive or. -/
structure Poly where
  width : Nat
  poly : Nat
  init : Nat
  refl : Bool
  out : Nat

/-- The table of R347. -/
def polyOf (n : Nat) : Poly :=
  if n = 1 then ⟨32, 0x04C11DB7, 0xFFFFFFFF, true, 0xFFFFFFFF⟩
  else if n = 2 then ⟨32, 0x1EDC6F41, 0xFFFFFFFF, true, 0xFFFFFFFF⟩
  else if n = 3 then ⟨16, 0x1021, 0xFFFF, false, 0⟩
  else ⟨64, 0x42F0E1EBA9EA3693, 0, false, 0⟩

/-- The running value after bytes (R348): reflected for the reflected algorithms. -/
def crcRun (n value : Nat) (bs : Bytes) : Nat :=
  let q := polyOf n
  if q.refl then reflect q.width (crcBytes q.width q.poly true (reflect q.width value) bs) else crcBytes q.width q.poly false value bs

/-- The final value of a running one (R348). -/
def crcFinal (n value : Nat) : Nat := Nat.xor value (polyOf n).out

/-! ## Fractions and binary32 -/

/-- An exact fraction; `den` is positive in every value this file builds. -/
structure Frac where
  num : Int
  den : Nat
deriving DecidableEq, Repr

/-- A whole number. -/
def Frac.ofInt (i : Int) : Frac := ⟨i, 1⟩

/-- Thousandths. -/
def Frac.milli (i : Int) : Frac := ⟨i, 1000⟩

/-- Less than. -/
def Frac.lt (a b : Frac) : Bool := a.num * b.den < b.num * a.den

/-- Less than or equal. -/
def Frac.le (a b : Frac) : Bool := a.num * b.den ≤ b.num * a.den

/-- Sum. -/
def Frac.add (a b : Frac) : Frac := ⟨a.num * b.den + b.num * a.den, a.den * b.den⟩

/-- Difference. -/
def Frac.sub (a b : Frac) : Frac := ⟨a.num * b.den - b.num * a.den, a.den * b.den⟩

/-- Product. -/
def Frac.mul (a b : Frac) : Frac := ⟨a.num * b.num, a.den * b.den⟩

/-- Quotient; by zero, zero (no caller divides by zero). -/
def Frac.div (a b : Frac) : Frac :=
  if b.num < 0 then ⟨-(a.num * b.den), a.den * b.num.natAbs⟩
  else if b.num = 0 then ⟨0, 1⟩ else ⟨a.num * b.den, a.den * b.num.natAbs⟩

/-- Magnitude. -/
def Frac.abs (a : Frac) : Frac := ⟨a.num.natAbs, a.den⟩

/-- Value of a finite binary32 pattern (R38). -/
def f32ToFrac (b : Nat) : Frac :=
  let e := bits b 30 23
  let m := bits b 22 0
  let man : Nat := if e = 0 then m else m + 2 ^ 23
  let ex := if e = 0 then 1 else e
  let n : Int := if bit b 31 then -(man : Int) else man
  if ex ≥ 150 then ⟨n * (2 ^ (ex - 150) : Nat), 1⟩ else ⟨n, 2 ^ (150 - ex)⟩

/-- The pattern is a NaN or an infinity, which R38 refuses. -/
def f32Bad (b : Nat) : Bool := bits b 30 23 == 255

/-- Round `n / d` to the nearest whole number, ties to even. -/
def roundEven (n d : Nat) : Nat :=
  let q := n / d
  let r := n % d
  if 2 * r < d then q else if 2 * r > d then q + 1 else if q % 2 = 0 then q else q + 1

/-- Exponent `e` (biased, at least 1) with 2^(e-127) ≤ n/d < 2^(e-126), for n/d of normal size. -/
def f32Exponent (n d : Nat) : Nat :=
  -- estimate from the bit lengths, then one correction downwards
  let up := n.log2 + 127
  let e0 := up - d.log2
  let fits : Nat → Bool := fun e =>
    if e ≥ 127 then n ≥ d * 2 ^ (e - 127) else n * 2 ^ (127 - e) ≥ d
  if up ≤ d.log2 then 1 else if fits e0 then e0 else max 1 (e0 - 1)

/-- binary32 pattern nearest to a fraction, ties to even (log 8). -/
def fracToF32 (q : Frac) : Nat :=
  let n := q.num.natAbs
  if n = 0 ∨ q.den = 0 then 0 else
  let s := if q.num < 0 then 2 ^ 31 else 0
  let e := f32Exponent n q.den
  -- mantissa in units of 2^(e-150)
  let m := if e ≥ 150 then roundEven n (q.den * 2 ^ (e - 150)) else roundEven (n * 2 ^ (150 - e)) q.den
  let m' := if m ≥ 2 ^ 24 then m / 2 else m
  let e' := if m ≥ 2 ^ 24 then e + 1 else e
  if e' ≥ 255 then s + 0x7F800000
  else if m' < 2 ^ 23 then s + m' else s + e' * 2 ^ 23 + (m' - 2 ^ 23)

/-- binary32 of `i` thousandths. -/
def f32Milli (i : Int) : Nat := fracToF32 (Frac.milli i)

/-- binary32 of `i` tenths. -/
def f32Tenth (i : Int) : Nat := fracToF32 ⟨i, 10⟩

/-- A binary32 pattern that is a number, from a constant's bits. -/
def finiteF32 (n : Nat) : Nat := bits n 31 31 * 2 ^ 31 + n % 2 ^ 31 % 0x7F800000

/-- Effective value of a calibrated quantity (R69): factory value × user gain + user offset. -/
def f32Calibrate (factory gain offset : Nat) : Nat :=
  fracToF32 (((f32ToFrac factory).mul (f32ToFrac gain)).add (f32ToFrac offset))

end Sys2Proof.Machine
end

