-- ==== Sys2Proof/Machine/Coding.lean ====
section
/-! DEFINITION. The coding of native frames (R205-R218, R243, R349): shift registers, header code, MAC frame, LDPC codes, interleaving, repetition
and the decoding of each. Bits are lists in the order of transmission; soft values are positive for a 0. -/

namespace Sys2Proof.Machine

/-! ## Shift registers (R210, R216) -/

/-- One step of the register x^n + x^k + 1 (log 59): the bit it puts out, and its next content. -/
def lfsrStep (n k reg : Nat) : Bool × Nat :=
  let out := bit reg (n - 1)
  (out, reg * 2 % 2 ^ n + ofBool (out != bit reg (k - 1)))

/-- The first bits that a register puts out. -/
def lfsrBits (n k : Nat) : Nat → Nat → List Bool
  | 0, _ => []
  | m + 1, reg => (lfsrStep n k reg).1 :: lfsrBits n k m (lfsrStep n k reg).2

/-- The first `m` outputs of the pilot sequence (R216). -/
def pilotBits (m : Nat) : List Bool := lfsrBits 10 3 m 0x3FF

/-- Exclusive or of two lists of bits. -/
def xorBits (a b : List Bool) : List Bool := (a.zip b).map fun e => e.1 != e.2

/-- Scramble, or descramble, payload bits sent by endpoint `src` (R210). -/
def scramble (src : Nat) (l : List Bool) : List Bool := xorBits l (lfsrBits 23 18 l.length (src % 2 ^ 18 * 32 + 31))

/-- The value of bits, first bit highest. -/
def ofBits (l : List Bool) : Nat := l.foldl (fun a b => 2 * a + ofBool b) 0

/-- The bits of bytes, first bit highest. -/
def bytesBits (l : Bytes) : List Bool := l.flatMap fun b => bitsMSB 8 b.toNat

/-- The first `n` bytes of a list of bits. -/
def bitsBytes (n : Nat) (l : List Bool) : Bytes := (List.range n).map fun i => BitVec.ofNat 8 (ofBits ((l.drop (8 * i)).take 8))

/-- Flip the signs of soft values where a bit is set. -/
def flipSoft (l : List Int) (b : List Bool) : List Int := (l.zip b).map fun e => if e.2 then -e.1 else e.1

/-! ## The header (R205-R207) -/

/-- CRC-16 of R205. -/
def crc16 (bs : Bytes) : Nat := crcBytes 16 0x1021 false 0xFFFF bs

/-- The 40 information bits of a header (R205). -/
def headerWord (h : Header) : Nat :=
  h.ver % 4 * 2 ^ 38 + h.prof % 64 * 2 ^ 32 + h.cls % 4 * 2 ^ 30 + h.nsym % 512 * 2 ^ 21 + h.src % 2 ^ 18 * 8 + h.tms % 4 * 2 + ofBool h.sk

/-- The fields of 40 information bits. -/
def wordHeader (crcOk : Bool) (w : Nat) : Header :=
  { crcOk := crcOk, ver := bits w 39 38, prof := bits w 37 32, cls := bits w 31 30, nsym := bits w 29 21, src := bits w 20 3,
    tms := bits w 2 1, sk := bit w 0 }

/-- The 56 bits of a header: information, then the check (R205). -/
def headerBits (h : Header) : List Bool := bitsMSB 40 (headerWord h) ++ bitsMSB 16 (crc16 (toBE 5 (headerWord h)))

/-- The two outputs of the convolutional code for a register of the input bit and the six before it, newest highest (R206). -/
def convPair (reg : Nat) : Bool × Bool := (popCount 7 (Nat.land reg 0o133) % 2 == 1, popCount 7 (Nat.land reg 0o171) % 2 == 1)

/-- Code bits from a register content: tail-biting where it starts with the last six bits (R206). -/
def convFrom : Nat → List Bool → List Bool
  | _, [] => []
  | st, b :: l => let reg := 64 * ofBool b + st; (convPair reg).1 :: (convPair reg).2 :: convFrom (reg / 2) l

/-- Six bits as the register holds them after taking them in, newest highest. -/
def convState (l : List Bool) : Nat := l.foldl (fun a b => a / 2 + 32 * ofBool b) 0

/-- The tail-biting code of rate 1/2 (R206). -/
def convEncode (l : List Bool) : List Bool := convFrom (convState (l.drop (l.length - 6))) l

/-- The 112 scrambled coded bits of a header (R206). -/
def codedHeader (h : Header) : List Bool := xorBits (convEncode (headerBits h)) (pilotBits 112)

/-- A survivor of the decoder: correlation with the received values, bits so far (newest lowest), state it began in. -/
structure Survivor where
  sum : Int
  path : Nat
  start : Nat
deriving DecidableEq, Repr

/-- One input bit of the trellis: the better of the two ways into each state, the lower one on equal sums. -/
def viterbiStep (a b : Int) (l : List Survivor) : List Survivor :=
  (List.range 64).map fun ns =>
    let way : Nat → Survivor := fun st =>
      let x := l[st]?.getD ⟨0, 0, 0⟩
      let o := convPair (64 * (ns / 32) + st)
      ⟨x.sum + (if o.1 then -a else a) + (if o.2 then -b else b), 2 * x.path + ns / 32, x.start⟩
    let u := way (2 * (ns % 32))
    let v := way (2 * (ns % 32) + 1)
    if u.sum < v.sum then v else u

/-- All input bits of the trellis. -/
def viterbiRun (l : List Survivor) : List Int → List Survivor
  | a :: b :: r => viterbiRun (viterbiStep a b l) r
  | _ => l

/-- The best survivor, with the state it ends in; the lower state on equal sums. -/
def bestSurvivor (l : List Survivor) : Survivor × Nat :=
  (l.zip (List.range l.length)).foldl (fun b x => if b.1.sum < x.1.sum then x else b) (l.headD ⟨0, 0, 0⟩, 0)

/-- Maximum-likelihood path of a tail-biting code (R207): the best path of all, where it closes; else the best of those that start
and end in one state. -/
def viterbi (soft : List Int) : Nat :=
  let free := bestSurvivor (viterbiRun ((List.range 64).map fun st => ⟨0, 0, st⟩) soft)
  if free.1.start = free.2 then free.1.path
  else
    let far : Int := -(soft.foldl (fun a x => a + x.natAbs) 0 * 2 + 1 : Nat)
    let closed := (List.range 64).map fun st =>
      (viterbiRun ((List.range 64).map fun i => ⟨if i = st then 0 else far, 0, i⟩) soft)[st]?.getD ⟨far, 0, 0⟩
    (bestSurvivor closed).1.path

/-- Sums of the copies of each of `n` values sent cyclically (R207). -/
def addCopies (n : Nat) (soft : List Int) : List Int :=
  (List.range n).map fun i => ((soft.zip (List.range soft.length)).filter fun e => e.2 % n == i).foldl (fun (a : Int) e => a + e.1) 0

/-- The header that the soft values of its positions give (R205-R207): copies added, descrambled, decoded, checked. -/
def decodeHeader (soft : List Int) : Header :=
  let path := viterbi (flipSoft (addCopies 112 soft) (pilotBits 112))
  let w := path / 2 ^ 16 % 2 ^ 40
  wordHeader (crc16 (toBE 5 w) == path % 2 ^ 16) w

/-! ## The MAC frame (R243, R349) -/

/-- The 16-byte MAC header (R243). -/
def macHeader (m : MacFrame) : Bytes :=
  toBE 16 (m.type % 16 * 2 ^ 124 + ofBool m.ackReq * 2 ^ 123 + ofBool m.more * 2 ^ 122 + ofBool m.retry * 2 ^ 121
    + m.dst % 2 ^ 18 * 2 ^ 102 + m.fin % 2 ^ 18 * 2 ^ 84 + m.orig % 2 ^ 18 * 2 ^ 66 + m.hops % 16 * 2 ^ 62 + m.seq % 256 * 2 ^ 54
    + m.frag % 8 * 2 ^ 51 + m.body.length % 2 ^ 16 * 2 ^ 35 + m.ackSeq % 256 * 2 ^ 27 + m.ackMap % 2 ^ 16 * 2 ^ 11 + m.ackCls % 4 * 2 ^ 9
    + m.grant % 512)

/-- A MAC frame with the check of the lane's inline cell (R349). -/
def macBytes (m : MacFrame) : Bytes :=
  let v := macHeader m ++ m.body
  v ++ toBE 4 (crcFinal 1 (crcRun 1 0xFFFFFFFF v))

/-- The check of a received MAC frame passes: its LEN fits, and the 4 bytes behind the body are right (R349). -/
def macCheck (v : Bytes) : Bool :=
  let n := 16 + beAt v 9 4 / 2 ^ 11 % 2 ^ 16
  decide (n + 4 ≤ v.length) && beAt v n 4 == crcFinal 1 (crcRun 1 0xFFFFFFFF (v.take n))

/-! ## LDPC codes (R211-R213, R231) -/

/-- Code length and information bits of a code (R212). -/
def codeSizes (code : Nat) : Nat × Nat :=
  if code = 1 then (1152, 576) else if code = 2 then (1152, 768) else if code = 3 then (1152, 960)
  else if code = 4 then (6912, 3456) else if code = 5 then (6912, 4608) else if code = 6 then (6912, 5184)
  else (6912, 5760)

/-- Lifting factor of a code (R212). -/
def codeLift (code : Nat) : Nat := if code ≤ 3 then 48 else 288

/-- Element of a code's base matrix (R231): the cyclic shift of a block, none for a zero block. -/
def baseShift (code row col : Nat) : Option Nat :=
  let w := if code ≤ 3 then 1 else 2
  let v := beAt (Config.baseMatrix code) (w * (24 * row + col)) w
  if v = 256 ^ w - 1 then none else some (v % codeLift code)

/-- Code bits of check `r`: bit `i` of a block meets, in row `j`, the bit `j` plus the shift (R212, log 60). -/
def checkCols (code r : Nat) : List Nat :=
  let z := codeLift code
  (List.range 24).filterMap fun c => (baseShift code (r / z) c).map fun sh => c * z + (r % z + sh) % z

/-- All checks of a code. -/
def codeChecks (code : Nat) : List (List Nat) :=
  (List.range ((codeSizes code).1 - (codeSizes code).2)).map (checkCols code)

/-- A row of a system over two elements, bit 0 its right side, reduced by rows of falling leading bit. -/
def reduceRow (rows : List Nat) (w : Nat) : Nat := rows.foldl (fun a b => if bit a b.log2 then Nat.xor a b else a) w

/-- Rows in echelon form, leading bits falling. -/
def echelon (l : List Nat) : List Nat :=
  l.foldl (fun rows w => let v := reduceRow rows w; if v < 2 then rows else insertBy (fun a b => decide (b.log2 < a.log2)) v rows) []

/-- A solution of a system of `m` unknowns, unknown `i` at bit i + 1; bit 0 is 1. -/
def solveRows (m : Nat) (l : List Nat) : Nat :=
  (echelon l).reverse.foldl (fun x w => if popCount (m + 1) (Nat.land (withBit w w.log2 false) x) % 2 = 1 then x + 2 ^ w.log2 else x) 1

/-- The codeword of `k` information bits (R212): systematic, every check even. -/
def ldpcEncode (code : Nat) (info : List Bool) : List Bool :=
  let n := (codeSizes code).1
  let k := (codeSizes code).2
  let v := info.take k ++ List.replicate (k - info.length) false
  let known := ofBits v.reverse
  let rows := (codeChecks code).map fun cols =>
    cols.foldl (fun a c => Nat.xor a (if c < k then ofBool (bit known c) else 2 ^ (c - k + 1))) 0
  let x := solveRows (n - k) rows
  v ++ (List.range (n - k)).map fun i => bit x (i + 1)

/-- One check of the layered min-sum decoder (R213): values of the bits, and the check's messages. -/
def minSumCheck (v : Array Int) (cols : List Nat) (msgs : List Int) : Array Int × List Int :=
  let q := (cols.zip msgs).map fun e => v.getD e.1 0 - e.2
  let out := (List.range q.length).map fun i =>
    let others := (q.zip (List.range q.length)).filterMap fun e => if e.2 = i then none else some e.1
    let mag : Int := match others with
      | [] => 0
      | a :: r => (r.foldl (fun m b => min m b.natAbs) a.natAbs : Nat)
    if (others.filter fun b => decide (b < 0)).length % 2 = 1 then -mag else mag
  (((cols.zip (q.zip out)).foldl (fun a e => a.setIfInBounds e.1 (e.2.1 + e.2.2)) v), out)

/-- One iteration over all checks. -/
def minSumRound (checks : List (List Nat)) (x : Array Int × List (List Int)) : Array Int × List (List Int) :=
  let r := (checks.zip x.2).foldl (fun (a : Array Int × List (List Int)) e =>
    let y := minSumCheck a.1 e.1 e.2
    (y.1, y.2 :: a.2)) (x.1, [])
  (r.1, r.2.reverse)

/-- Every check is even on the signs of the values. -/
def syndromeZero (checks : List (List Nat)) (v : Array Int) : Bool :=
  checks.all fun cols => (cols.filter fun c => decide (v.getD c 0 < 0)).length % 2 == 0

/-- Layered min-sum decoding (R213): at most `limit` iterations, ended early by a zero syndrome; none where it is not reached. -/
def minSum (checks : List (List Nat)) : Nat → Array Int × List (List Int) → Option (Array Int)
  | 0, _ => none
  | n + 1, x =>
    let y := minSumRound checks x
    if syndromeZero checks y.1 then some y.1 else minSum checks n y

/-- A codeword decoded from its soft values (R213): its information bits, none where it has failed. -/
def ldpcDecode (code limit : Nat) (soft : List Int) : Option (List Bool) :=
  let checks := codeChecks code
  (minSum checks limit (soft.toArray, checks.map fun c => c.map fun _ => 0)).map fun v =>
    (List.range (codeSizes code).2).map fun i => decide (v.getD i 0 < 0)

/-! ## Codewords of a payload (R211) -/

/-- Information bits of each codeword of a payload of `c` coded bits: full ones, then the shortened one (R211). -/
def codewords (code c : Nat) : List Nat :=
  let n := (codeSizes code).1
  let k := (codeSizes code).2
  let rest := c - c / n * n
  List.replicate (c / n) k ++ (if rest ≥ n - k + 8 then [rest - (n - k)] else [])

/-- Information capacity of `c` coded bits under a code (R211). -/
def infoCapacity (code c : Nat) : Nat :=
  let n := (codeSizes code).1
  let k := (codeSizes code).2
  let full := c / n
  let rest := c - full * n
  full * k + (if rest ≥ n - k + 8 then rest - (n - k) else 0)

/-! ## Interleaving (R214) -/

/-- Place of bit `i` within its codeword (R214 stage 1). -/
def codePlace (n i : Nat) : Nat := if n = 1152 then (35 * i + 72 * i * i) % n else (107 * i + 144 * i * i) % n

/-- Bits of a codeword with `info` information bits in the order sent (R214 stage 1): known zeros are left out. -/
def codeOrder (code info : Nat) : List Nat :=
  let n := (codeSizes code).1
  let k := (codeSizes code).2
  let inv := (List.range n).foldl (fun (a : Array Nat) i => a.setIfInBounds (codePlace n i) i) (Array.replicate n 0)
  inv.toList.filter fun i => decide (i < info) || decide (k ≤ i)

/-- One from each list in turn, lists that have run out left out (R214 stage 2). -/
def weave {α : Type} : Nat → List (List α) → List α
  | 0, _ => []
  | n + 1, l =>
    let live := l.filter fun x => !x.isEmpty
    if live.isEmpty then [] else live.filterMap List.head? ++ weave n (live.map List.tail)

/-- Groups of four, in order. -/
def fours {α : Type} : Nat → List α → List (List α)
  | 0, _ => []
  | _, [] => []
  | n + 1, l => l.take 4 :: fours n (l.drop 4)

/-- The stream of a payload's codewords after stage 2: number of the codeword and bit of it (R214). -/
def streamOrder (code : Nat) (words : List Nat) : List (Nat × Nat) :=
  let each := (words.zip (List.range words.length)).map fun e => (codeOrder code e.1).map fun i => (e.2, i)
  (fours each.length each).flatMap fun g => weave (codeSizes code).1 g

/-- Stride over `d` data carriers: the smallest number not below d/5 that is coprime to it (R214 stage 3). -/
def carrierStride (d : Nat) : Nat := ((List.range (d + 2)).find? fun s => decide (d ≤ 5 * s) && Nat.gcd s d == 1).getD 1

/-- Order in which the data carriers of payload symbol `m` are filled, as places among its `d` ones (R214 stage 3). -/
def fillOrder (d m : Nat) : List Nat := (List.range d).map fun j => (carrierStride d * j + d / 3 * m) % d

/-- Place in the stream of `b` bits that position `j` of a payload repeated `r` times carries (R217); none beyond the last copy. -/
def repeatPlace (r b j : Nat) : Option Nat := if j < r * b then some ((j % b + j / b * (b / r)) % b) else none

/-! ## A payload sent and received (R210-R218) -/

/-- The coded bits of a payload in the order sent, before repetition (R210-R214): `c` coded bits of a MAC frame from `src`. -/
def payloadStream (code src c : Nat) (mac : Bytes) : List Bool :=
  let words := codewords code c
  let cap := words.foldl (· + ·) 0
  let data := bytesBits mac
  let used := words.foldl (fun a k => a + k + ((codeSizes code).1 - (codeSizes code).2)) 0
  let all := scramble src ((data ++ List.replicate (cap - data.length) false).take cap ++ List.replicate (c - used) false)
  let coded := (words.foldl (fun (a : List Bool × List (List Bool)) k => (a.1.drop k, ldpcEncode code (a.1.take k) :: a.2)) (all, [])).2.reverse
  (streamOrder code words).map (fun e => (coded[e.1]?.getD [])[e.2]?.getD false) ++ all.drop cap

/-- What decoding a payload gives: codewords decoded and failed, and the bytes, whose check tells whether they are the frame. -/
structure Decoded where
  good : Nat
  failed : Nat
  crcOk : Bool
  mac : Bytes
deriving DecidableEq, Repr

/-- Add the copies of each bit of a stream of `b` bits repeated `r` times (R218). -/
def combine (r b : Nat) (soft : List Int) : List Int :=
  if r ≤ 1 then soft.take b
  else ((soft.zip (List.range soft.length)).foldl (fun (a : Array Int) e => match repeatPlace r b e.2 with
    | some i => a.setIfInBounds i (a.getD i 0 + e.1)
    | none => a) (Array.replicate b 0)).toList

/-- Decode a payload of `c` coded bits from the soft values of its stream (R210-R213, R349). -/
def decodePayload (code limit src c : Nat) (soft : List Int) : Decoded :=
  let n := (codeSizes code).1
  let k := (codeSizes code).2
  let words := codewords code c
  let sure : Int := (soft.foldl (fun a x => a + x.natAbs) 1 : Nat)
  let place := (streamOrder code words).zip soft
  let got := (words.zip (List.range words.length)).map fun w =>
    let blank : Array Int := ((List.range n).map fun i => if w.1 ≤ i ∧ i < k then sure else (0 : Int)).toArray
    let v := (place.filter fun e => e.1.1 == w.2).foldl (fun (a : Array Int) e => a.setIfInBounds e.1.2 e.2) blank
    (ldpcDecode code limit v.toList).map fun l => l.take w.1
  let good := (got.filter Option.isSome).length
  let info := scramble src (got.flatMap fun o => o.getD [])
  let mac := bitsBytes (info.length / 8) info
  ⟨good, got.length - good, good == got.length && macCheck mac, mac⟩

end Sys2Proof.Machine
end

