-- ==== Sys2Proof/Machine/Catalog.lean ====
section
/-! DEFINITION. The object dictionary's catalogue (R38-R39, R68): type, access right, default and range of every entry, which
entries a variant has (R1, R4), their digest region and the block that owns them. Port blocks are listed for LP0. -/

namespace Sys2Proof.Machine

/-- Entry types (R38). -/
inductive Ty where
  | bool
  | u8
  | u16
  | u32
  | u64
  | i8
  | i16
  | i32
  | i64
  | f32
  | octets
  | vstring
  | time64
deriving DecidableEq, Repr

/-- Type codes (R38). -/
def tyCode : Ty → Nat
  | .bool => 0x01
  | .u8 => 0x02
  | .u16 => 0x03
  | .u32 => 0x04
  | .u64 => 0x05
  | .i8 => 0x06
  | .i16 => 0x07
  | .i32 => 0x08
  | .i64 => 0x09
  | .f32 => 0x0A
  | .octets => 0x0B
  | .vstring => 0x0C
  | .time64 => 0x0D

/-- Sizes in bytes (R38); 0 for the two types of varying length. -/
def tySize : Ty → Nat
  | .bool => 1
  | .u8 => 1
  | .u16 => 2
  | .u32 => 4
  | .u64 => 8
  | .i8 => 1
  | .i16 => 2
  | .i32 => 4
  | .i64 => 8
  | .f32 => 4
  | .octets => 0
  | .vstring => 0
  | .time64 => 8

/-- Access rights (R39). -/
inductive Access where
  | const
  | ro
  | wo
  | rw
  | rws
  | rwq
deriving DecidableEq, Repr

/-- Ranges of the dictionary tables. Bounds of `f32` are in thousandths. -/
inductive Range where
  | any
  | nat (lo hi : Nat)
  | zeroOr (lo hi : Nat)
  | oneOf (l : List Nat)
  | int (lo hi : Int)
  | f32 (lo hi : Int)
  | f32NonZero
  | f32NonNegative
  | size (lo hi : Nat)
  | slots
  | nibbles
  | etherType
deriving DecidableEq, Repr

/-- What the dictionary tables say of an entry. -/
structure Desc where
  ty : Ty
  access : Access
  range : Range
  default : Bytes
deriving DecidableEq, Repr

/-- A line of a dictionary table: indices, sub-indices and the entry. -/
structure Row where
  first : Nat
  last : Nat
  sub1 : Nat
  sub2 : Nat
  desc : Desc
deriving DecidableEq, Repr

/-- A line whose default is a number. -/
def line (first last sub1 sub2 : Nat) (ty : Ty) (acc : Access) (rng : Range) (d : Nat) : Row :=
  ⟨first, last, sub1, sub2, ⟨ty, acc, rng, toBE (tySize ty) d⟩⟩

/-- A line for one entry. -/
def item (idx sub : Nat) (ty : Ty) (acc : Access) (rng : Range) (d : Nat) : Row := line idx idx sub sub ty acc rng d

/-- A line for one BOOL entry. -/
def flagItem (idx sub : Nat) (acc : Access) (d : Nat) : Row := item idx sub .bool acc (.nat 0 1) d

/-- A line of bytes: OCTETS or VSTRING. -/
def octetLine (first last sub1 sub2 : Nat) (ty : Ty) (acc : Access) (rng : Range) (d : Bytes) : Row :=
  ⟨first, last, sub1, sub2, ⟨ty, acc, rng, d⟩⟩

/-- A line of read-only U32 counters with default 0. -/
def counters (first last sub1 sub2 : Nat) : Row := line first last sub1 sub2 .u32 .ro .any 0

/-- One read-only entry. -/
def status (idx sub : Nat) (ty : Ty) (d : Nat) : Row := item idx sub ty .ro .any d

/-- R10. -/
def rowsIdentity : List Row :=
  [ octetLine 0x1000 0x1000 1 1 .vstring .const .any [],
    item 0x1000 2 .u8 .const .any 0,
    item 0x1000 3 .u16 .const .any 0,
    item 0x1000 4 .u32 .const .any 0,
    item 0x1000 5 .bool .const .any 0,
    item 0x1000 6 .u16 .const .any 0x00B1,
    item 0x1000 7 .u8 .const .any 0x43,
    octetLine 0x1000 0x1000 8 8 .vstring .const .any [],
    status 0x1000 9 .u32 0 ]

/-- R33. -/
def rowsHierarchy : List Row :=
  [ item 0x1010 1 .u16 .rw (.nat 1 1024) 16,
    item 0x1010 2 .u32 .rw (.nat 1024 16777216) 65536,
    item 0x1010 3 .u8 .rw (.nat 1 15) 3,
    item 0x1010 4 .u16 .rw (.nat 1 3600) 60,
    item 0x1010 5 .u8 .rw (.nat 0 1) 1,
    item 0x1010 6 .u8 .rw (.nat 1 16) 4,
    counters 0x1011 0x1011 1 5,
    line 0x1021 0x1025 1 0x40 .u64 .ro .any 0,
    line 0x1031 0x1035 1 0x40 .u8 .ro .any 0,
    line 0x1041 0x1045 1 0x40 .u8 .rw (.nat 1 15) 1 ]

/-- R431. -/
def rowsReset : List Row :=
  [ status 0x1100 1 .u8 0, status 0x1100 2 .u8 0, status 0x1100 3 .u8 0, status 0x1100 4 .u8 0,
    status 0x1100 5 .u32 0, status 0x1100 6 .time64 0,
    item 0x1100 0x10 .bool .wo (.nat 1 1) 0,
    item 0x1100 0x11 .bool .wo (.nat 1 1) 0,
    item 0x1100 0x20 .u16 .rws (.nat 100 50000) 2000,
    item 0x1100 0x21 .u16 .rws (.nat 200 10000) 1000,
    item 0x1100 0x22 .u8 .rws (.nat 1 2) 1,
    status 0x1100 0x30 .u32 0,
    line 0x1100 0x1100 0x31 0x3A .u16 .ro .any 0,
    octetLine 0x1100 0x1100 0x40 0x47 .octets .ro .any (List.replicate 16 0),
    status 0x1100 0x48 .bool 0,
    item 0x1100 0x50 .u8 .wo (.nat 1 2) 0,
    status 0x1100 0x51 .u16 0,
    octetLine 0x1100 0x1100 0x53 0x53 .octets .wo (.size 9 1024) [],
    item 0x1100 0x54 .u16 .wo .any 0,
    octetLine 0x1100 0x1100 0x55 0x56 .octets .ro .any (List.replicate 16 0),
    status 0x1100 0x57 .u32 0,
    octetLine 0x1100 0x1100 0x58 0x58 .octets .rws (.size 48 48) (List.replicate 48 0) ]

/-- R102. -/
def rowsTime : List Row :=
  [ status 0x1200 1 .time64 0, status 0x1200 2 .u64 0, status 0x1200 3 .time64 0, status 0x1200 4 .i64 0,
    status 0x1200 5 .u8 0,
    item 0x1200 6 .u8 .rws (.nat 0 4) 0,
    item 0x1200 7 .time64 .wo .any 0,
    status 0x1200 8 .u8 0,
    flagItem 0x1200 9 .rws 1,
    flagItem 0x1200 0x0A .rws 1,
    item 0x1200 0x0B .i32 .rws (.int (-1000000) 1000000) 0,
    status 0x1200 0x0C .i32 0,
    item 0x1200 0x0D .u32 .rws (.nat 60 86400) 3600,
    item 0x1200 0x0E .u8 .rws (.nat 0 127) 0,
    item 0x1200 0x0F .u8 .rws (.nat 0 2) 1,
    item 0x1200 0x10 .u8 .rws .any 128,
    status 0x1200 0x11 .i64 0,
    counters 0x1200 0x1200 0x12 0x12,
    status 0x1210 1 .u8 1, status 0x1210 2 .u8 0,
    item 0x1210 3 .u8 .rws (.nat 0 7) 7,
    item 0x1210 4 .u8 .rws (.nat 0 23) 8,
    item 0x1210 5 .u8 .rws (.nat 0 23) 16,
    item 0x1210 6 .u8 .rws (.nat 2 30) 10,
    item 0x1210 7 .u16 .rws (.nat 100 10000) 10000,
    item 0x1210 8 .u8 .rws (.nat 4 64) 16,
    item 0x1210 9 .u8 .rws (.nat 1 50) 10,
    item 0x1210 0x0A .u8 .rws (.nat 15 90) 30,
    status 0x1210 0x0B .f32 0, status 0x1210 0x0C .f32 0, status 0x1210 0x0D .u8 0, status 0x1210 0x0E .u64 0,
    status 0x1210 0x0F .bool 0,
    item 0x1210 0x10 .u8 .rws (.oneOf [50, 60]) 50,
    line 0x1211 0x1211 1 3 .u8 .ro .any 0,
    line 0x1211 0x1211 4 6 .f32 .ro .any 0,
    counters 0x1212 0x1212 1 6,
    counters 0x1220 0x1220 1 2,
    counters 0x1221 0x1225 1 0x40,
    counters 0x1231 0x1235 1 0x40,
    line 0x1241 0x1245 1 0x40 .u16 .ro .any 0 ]

/-- R65. -/
def rowsCommit : List Row :=
  [ item 0x1400 1 .u64 .wo .any 0,
    item 0x1400 2 .bool .wo (.nat 1 1) 0,
    status 0x1400 3 .u8 0, status 0x1400 4 .u16 0xFFFF, status 0x1400 5 .u64 0,
    item 0x1400 6 .u32 .rw (.nat 25000 22500000) 250000,
    status 0x1400 7 .u32 0, status 0x1400 8 .u16 0, status 0x1400 9 .u16 0,
    item 0x1400 0x0A .u16 .rw (.nat 100 10000) 1000,
    counters 0x1400 0x1400 0x0F 0x0F,
    status 0x1400 0x10 .u8 0,
    octetLine 0x1400 0x1400 0x11 0x50 .octets .ro .any (List.replicate 32 0),
    line 0x1401 0x1401 1 5 .u64 .ro .any 0,
    status 0x1401 0x10 .bool 0,
    line 0x1401 0x1401 0x11 0x15 .u64 .ro .any 0 ]

/-- R45. -/
def rowsRoles : List Row :=
  [ item 0x1600 1 .u8 .const .any 3,
    line 0x1600 0x1600 2 0x40 .u8 .rw (.nat 0 3) 1,
    line 0x1601 0x1601 1 0x20 .u64 .rw (.nat 0 0xFFFFFFFFFFFF) 0,
    line 0x1602 0x1602 1 0x20 .u8 .rw (.nat 0 3) 0,
    counters 0x1603 0x1603 1 1,
    item 0x1603 2 .u8 .rw .any 0,
    flagItem 0x1603 3 .rw 1 ]

/-- R452, the event log. -/
def rowsLog : List Row :=
  [ status 0x1800 1 .u16 0, status 0x1800 2 .u64 0, status 0x1800 3 .u16 0, status 0x1800 4 .time64 0,
    item 0x1800 5 .u8 .rws (.nat 0 3) 0 ]

/-- R127, R128, R199: port entries. -/
def rowsPort : List Row :=
  [ flagItem 0x2000 1 .rws 0,
    flagItem 0x2000 2 .rw 0,
    item 0x2000 3 .u8 .rws (.nat 1 3) 3,
    item 0x2000 4 .u16 .rws (.nat 10 2000) 2000,
    item 0x2000 5 .u8 .rws (.nat 0 15) 3,
    item 0x2000 6 .u16 .rws (.nat 1 600) 10,
    status 0x2001 1 .u8 1, status 0x2001 2 .u8 0, status 0x2001 3 .u16 0, status 0x2001 4 .u8 0,
    status 0x2001 5 .u8 0, status 0x2001 6 .u16 0, status 0x2001 7 .f32 0, status 0x2001 8 .time64 0,
    status 0x2001 9 .u8 3, status 0x2001 0x0A .u16 2000,
    item 0x2002 1 .u8 .rws (.nat 0 1) 0,
    item 0x2002 2 .u8 .rws (.nat 0 30) 0,
    item 0x2002 3 .i8 .rws (.int (-12) (-1)) 0xFA,
    status 0x2002 4 .u8 0,
    item 0x2002 5 .u16 .rws (.nat 500 3000) 2500,
    item 0x2003 1 .u8 .rws (.nat 0 2) 1,
    item 0x2003 2 .u8 .rws (.nat 0 2) 2,
    status 0x2003 3 .f32 0, status 0x2003 4 .f32 0,
    item 0x2003 5 .u16 .rws (.zeroOr 10 3600) 60,
    item 0x2004 1 .u8 .rw (.nat 60 140) 110,
    item 0x2004 2 .u8 .rw (.nat 40 110) 84,
    item 0x2004 3 .u8 .rw (.nat 8 16) 12,
    item 0x2004 4 .u8 .rw (.nat 6 16) 10,
    item 0x2004 5 .u8 .rw (.nat 3 8) 6,
    item 0x2004 6 .u8 .rw (.nat 0 15) 0,
    flagItem 0x2004 8 .rw 1,
    item 0x2004 9 .u16 .rw (.nat 50 2500) 250,
    status 0x2004 0x10 .u8 0, status 0x2004 0x11 .u8 0,
    line 0x2004 0x2004 0x12 0x15 .f32 .ro .any 0,
    counters 0x2004 0x2004 0x20 0x27,
    status 0x2004 0x28 .time64 0,
    status 0x2004 0x29 .u32 0,
    line 0x2005 0x2005 1 8 .f32 .rwq (.f32 500 2000) 0x3F800000,
    line 0x2005 0x2005 9 0x0C .f32 .rwq (.f32 (-3000) 3000) 0,
    item 0x2005 0x0D .f32 .rwq (.f32 (-512000) 512000) 0,
    item 0x2005 0x0E .f32 .rwq (.f32 (-100000) 100000) 0,
    item 0x2005 0x0F .f32 .rwq (.f32 (-1000) 1000) 0,
    item 0x2005 0x10 .f32 .rwq (.f32 (-5000) 5000) 0,
    line 0x2005 0x2005 0x11 0x18 .f32 .ro .any 0,
    line 0x2006 0x2006 1 8 .f32 .ro .any 0,
    status 0x2006 9 .time64 0, status 0x2006 0x0A .f32 0,
    line 0x201C 0x201C 1 4 .u64 .rws (.nat 0 0xFFFFFFFFFFFF) 0,
    counters 0x201F 0x201F 1 0x0C ]

/-- R153-R156, R175-R176, R200-R202, R232-R233, R361: lane entries. -/
def rowsLane : List Row :=
  [ line 0x2008 0x200B 1 1 .u8 .rws (.nat 0 3) 0,
    line 0x2008 0x200B 2 3 .u16 .rws (.nat 0 1228) 0,
    line 0x2008 0x200B 4 4 .u8 .rws (.nat 0 1) 0,
    line 0x2008 0x200B 5 5 .u8 .rws (.nat 0 4) 2,
    line 0x2008 0x200B 6 6 .u8 .rws (.nat 0 40) 6,
    line 0x2008 0x200B 7 7 .u8 .rws (.nat 0 10) 0,
    line 0x2008 0x200B 8 8 .bool .rws (.nat 0 1) 1,
    line 0x2008 0x200B 9 9 .bool .rwq (.nat 0 1) 0,
    octetLine 0x2008 0x200B 0x0A 0x0A .octets .rwq (.size 128 128) (toBE 2 0x7FFF ++ List.replicate 126 0),
    octetLine 0x2008 0x200B 0x0B 0x0B .octets .rwq (.size 80 80)
      ((List.range 4).flatMap fun _ => toBE 4 0x40000000 ++ List.replicate 16 0),
    line 0x2008 0x200B 0x0C 0x0C .u8 .ro .any 0,
    counters 0x2008 0x200B 0x0D 0x0D,
    line 0x2008 0x200B 0x0E 0x0E .u64 .rws .any 0xFFFFFFFFFFFFFFFF,
    line 0x200C 0x200F 1 1 .u8 .rws (.nat 0 63) 0,
    line 0x200C 0x200F 2 2 .u8 .rws (.nat 0 60) 0,
    line 0x200C 0x200F 3 3 .u8 .ro .any 0,
    counters 0x200C 0x200F 4 6,
    octetLine 0x200C 0x200F 7 7 .octets .ro .any (List.replicate 40 0),
    line 0x200C 0x200F 8 8 .time64 .ro .any 0,
    line 0x200C 0x200F 9 9 .i16 .ro .any 0,
    line 0x2010 0x2013 1 1 .i8 .rw (.int (-24) 40) 0xFA,
    line 0x2010 0x2013 2 2 .bool .rw (.nat 0 1) 1,
    line 0x2010 0x2013 3 3 .u8 .rw (.nat 6 40) 12,
    line 0x2010 0x2013 4 4 .bool .rw (.nat 0 1) 1,
    line 0x2010 0x2013 5 6 .u8 .ro .any 0,
    line 0x2010 0x2013 0x10 0x10 .u8 .rw (.zeroOr 8 80) 24,
    line 0x2010 0x2013 0x11 0x11 .u8 .rw (.nat 0 32) 4,
    line 0x2010 0x2013 0x12 0x12 .u8 .rw (.nat 1 64) 16,
    line 0x2010 0x2013 0x13 0x13 .i8 .rw (.int (-40) (-4)) 0xEC,
    line 0x2010 0x2013 0x14 0x14 .u8 .rw (.nat 1 16) 4,
    line 0x2010 0x2013 0x15 0x15 .bool .rw (.nat 0 1) 1,
    counters 0x2014 0x2017 1 0x11,
    line 0x2014 0x2017 0x12 0x12 .time64 .ro .any 0,
    line 0x2014 0x2017 0x13 0x13 .i16 .ro .any 0,
    line 0x2014 0x2017 0x14 0x14 .u8 .ro .any 0,
    line 0x2014 0x2017 0x15 0x15 .u16 .ro .any 0,
    counters 0x2014 0x2017 0x20 0x2B,
    counters 0x2014 0x2017 0x30 0x34,
    counters 0x2014 0x2017 0x38 0x38,
    octetLine 0x2018 0x201B 1 0x18 .octets .ro .any [],
    line 0x2018 0x201B 0x19 0x19 .time64 .ro .any 0,
    line 0x2018 0x201B 0x1A 0x1A .u8 .ro .any 0,
    octetLine 0x2018 0x201B 0x1B 0x1B .octets .ro .any (List.replicate 48 0),
    line 0x2018 0x201B 0x1C 0x1C .u8 .ro .any 0 ]

/-- R230, R231, R234, R156: profile table, base matrices, coding pool, envelope library. -/
def rowsCoding : List Row :=
  [ octetLine 0x2800 0x283F 1 1 .vstring .const .any [],
    line 0x2800 0x283F 2 5 .u8 .const .any 0,
    line 0x2800 0x283F 6 6 .i8 .const .any 0,
    line 0x2800 0x283F 7 7 .u16 .rws (.nat 1 511) 0,
    line 0x2800 0x283F 8 8 .u8 .rws (.nat 4 32) 12,
    octetLine 0x28C0 0x28C0 1 7 .octets .const .any [],
    counters 0x28F0 0x28F0 1 5,
    octetLine 0x2900 0x293F 1 1 .vstring .rws (.size 0 16) [],
    line 0x2900 0x293F 2 2 .u8 .rws (.nat 1 64) 1,
    octetLine 0x2900 0x293F 3 3 .octets .rws (.size 8 512) [0, 0, 0, 0, 0x80, 0, 0, 0] ]

/-- R267-R269. -/
def rowsSchedule : List Row :=
  [ octetLine 0x3000 0x3000 1 1 .octets .rws .slots ([1, 2, 2] ++ List.replicate 15 3 ++ List.replicate 6 4),
    item 0x3000 2 .u8 .rws (.nat 2 15) 8,
    item 0x3000 3 .u8 .rws (.nat 1 64) 4,
    item 0x3000 4 .u8 .rws (.nat 3 6) 3,
    item 0x3000 5 .u8 .rws (.nat 20 23) 21,
    item 0x3000 6 .u16 .rws .nibbles 0x2345,
    item 0x3000 7 .u16 .rws (.nat 4 511) 64,
    item 0x3000 8 .u16 .rws (.nat 4 511) 128,
    status 0x3000 0x10 .u8 0,
    item 0x3100 1 .u16 .rws (.nat 64 16384) 1024,
    item 0x3100 2 .u16 .rws (.nat 64 16384) 512,
    item 0x3100 3 .u16 .rws (.nat 64 16384) 256,
    item 0x3100 4 .u16 .rws (.nat 64 16384) 256,
    item 0x3101 1 .u8 .rws (.nat 1 15) 4,
    item 0x3101 2 .u8 .rws (.nat 1 15) 8,
    line 0x3101 0x3101 3 4 .u8 .rws (.nat 1 15) 15,
    item 0x3102 1 .u8 .rws (.nat 1 240) 4,
    item 0x3102 2 .u8 .rws (.nat 1 240) 24,
    item 0x3102 3 .u8 .rws (.nat 1 240) 48,
    item 0x3102 4 .u8 .rws (.nat 1 240) 96,
    item 0x3103 1 .u8 .rws (.nat 0 15) 3,
    item 0x3103 2 .u8 .rws (.nat 0 15) 5,
    line 0x3103 0x3103 3 4 .u8 .rws (.nat 0 15) 8,
    item 0x3104 1 .u8 .rws (.nat 0 24) 0,
    line 0x3104 0x3104 2 4 .u8 .rws (.nat 0 24) 2,
    item 0x3105 1 .u16 .rws (.nat 1 32767) 16,
    item 0x3105 2 .u16 .rws (.nat 1 32767) 256,
    line 0x3105 0x3105 3 4 .u16 .rws (.nat 1 32767) 1024,
    item 0x3106 1 .u16 .rws (.nat 1 3600) 10,
    item 0x3106 2 .u16 .rws (.nat 500 950) 750,
    item 0x3106 3 .u16 .rws (.nat 1 25000) 250,
    item 0x3110 1 .u64 .rws .any 0x3FFFFF,
    line 0x3110 0x3110 2 0x40 .u64 .rws .any 0,
    counters 0x3181 0x3187 1 4,
    counters 0x3190 0x3190 1 8 ]

/-- R295, R296, R66: windows, routes and repeating. -/
def rowsRoutes : List Row :=
  [ line 0x3200 0x3200 1 4 .u32 .ro .any 0,
    item 0x3210 1 .u16 .rw (.nat 10 65535) 600,
    item 0x3210 2 .u8 .rw (.nat 1 15) 3,
    item 0x3210 3 .u16 .rw (.nat 0 4096) 64,
    item 0x3210 4 .u8 .rw (.nat 1 8) 3,
    item 0x3210 5 .u16 .rw (.nat 100 30000) 2000,
    item 0x3210 6 .u8 .rw (.nat 1 255) 16,
    item 0x3210 7 .u16 .rw (.nat 1 25000) 250,
    item 0x3210 8 .u32 .rw (.nat 60 604800) 3600,
    item 0x3210 9 .u8 .rw (.nat 0 64) 4,
    item 0x3210 0x0A .u32 .rw (.nat 0 0x3FFFF) 0x8000,
    item 0x3210 0x0B .u8 .rw (.nat 2 64) 4,
    counters 0x3220 0x3220 1 0x12,
    status 0x3221 1 .u32 0,
    status 0x3221 2 .u64 0 ]

/-- R317-R319: command channel (port p adds p to 3410, 3440, 3470, 34A0, 3510) and trip matrix. -/
def rowsCommand : List Row :=
  [ item 0x3400 1 .u8 .rws (.nat 0 7) 2,
    item 0x3400 2 .u16 .rws (.nat 50 1000) 250,
    item 0x3400 3 .u16 .rws (.nat 200 10000) 1000,
    item 0x3400 4 .u8 .rws (.nat 72 120) 96,
    item 0x3400 5 .u16 .rws (.nat 1 3650) 180,
    line 0x3410 0x3433 1 8 .u16 .rws .any 0,
    octetLine 0x3440 0x3463 1 8 .octets .rws (.size 16 16) (List.replicate 16 0),
    line 0x3470 0x3493 1 0x10 .u8 .ro .any 0,
    counters 0x3470 0x3493 0x11 0x20,
    line 0x3470 0x3493 0x21 0x22 .u8 .ro .any 0,
    counters 0x34A0 0x34C3 1 0x0C,
    line 0x3500 0x3500 1 8 .u64 .rws .any 0x7FFF7FFF7FFF7FFF,
    line 0x3501 0x3501 1 8 .u8 .rws (.nat 0 1) 0,
    line 0x3502 0x3502 1 8 .u16 .rws (.nat 0 10000) 100,
    line 0x3503 0x3503 1 8 .bool .rws (.nat 0 1) 0,
    status 0x3504 1 .u8 0, status 0x3504 2 .u16 0, status 0x3504 3 .u16 0,
    counters 0x3505 0x3505 1 8,
    line 0x3510 0x3533 1 8 .u64 .rws .any 0x7FFF7FFF7FFF7FFF ]

/-- R383, R384. -/
def rowsRing : List Row :=
  [ item 0x3800 1 .u64 .const .any 0,
    item 0x3800 2 .u16 .rws .etherType 0x88B5,
    item 0x3800 3 .u16 .rws (.nat 0 4094) 0,
    item 0x3800 4 .u8 .rws (.nat 0 7) 4,
    flagItem 0x3800 5 .rws 1,
    item 0x3800 6 .u8 .rws (.nat 0 1) 1,
    item 0x3800 7 .u64 .wo .any 0,
    item 0x3800 8 .u16 .rws (.nat 100 60000) 1000,
    item 0x3800 9 .u16 .rws (.nat 200 10000) 1000,
    item 0x3800 0x0A .u8 .rws (.nat 1 15) 3,
    item 0x3800 0x0B .u16 .rws (.nat 1 3600) 30,
    item 0x3800 0x0C .u16 .rws (.zeroOr 500 60000) 5000,
    item 0x3800 0x0D .u16 .rws (.nat 100 2000) 400,
    item 0x3800 0x0E .u16 .rws (.nat 500 10000) 2000,
    flagItem 0x3800 0x0F .rws 1,
    status 0x3800 0x10 .u8 1, status 0x3800 0x11 .u8 0,
    line 0x3800 0x3800 0x12 0x13 .u8 .ro .any 0,
    line 0x3800 0x3800 0x14 0x15 .f32 .ro .any 0,
    status 0x3800 0x16 .u8 0,
    line 0x3800 0x3800 0x17 0x18 .f32 .ro .any 0,
    line 0x3800 0x3800 0x19 0x1A .u64 .ro .any 0,
    counters 0x3810 0x3810 1 0x16,
    line 0x3820 0x3820 1 2 .i64 .ro .any 0,
    status 0x3820 3 .u8 0 ]

/-- R346, R361. -/
def rowsTrust : List Row :=
  [ item 0x4000 1 .u8 .rws (.nat 0 1) 0,
    status 0x4000 2 .u8 8, status 0x4000 3 .u32 0,
    counters 0x4010 0x4010 1 0x0B,
    line 0x4100 0x41FF 1 1 .u64 .rws .any 0,
    line 0x4100 0x41FF 2 2 .u16 .rws .any 0x003F,
    line 0x4100 0x41FF 3 3 .u64 .rws (.nat 1 0xFFFFFFFFFFFFFFFF) 0x100000000,
    line 0x4100 0x41FF 4 4 .u32 .rws .any 0,
    line 0x4100 0x41FF 5 6 .u8 .ro .any 0,
    line 0x4100 0x41FF 7 7 .u64 .ro .any 0,
    line 0x4100 0x41FF 8 8 .u32 .ro .any 0,
    line 0x4100 0x41FF 9 9 .time64 .ro .any 0,
    status 0x4200 1 .u32 0xFFFFFFFF, status 0x4200 2 .u16 0,
    counters 0x4210 0x4210 1 3,
    status 0x4210 4 .u64 0,
    counters 0x4220 0x4220 1 4 ]

/-- R407. -/
def rowsSensing : List Row :=
  [ line 0x5000 0x5000 1 0x20 .u16 .rws .any 0,
    status 0x5001 1 .u32 0,
    item 0x5001 2 .u32 .wo .any 0,
    status 0x5001 3 .u32 0, status 0x5001 4 .f32 0,
    item 0x5001 5 .u16 .rws (.nat 1000 60000) 20000,
    line 0x5100 0x5107 1 1 .bool .rws (.nat 0 1) 0,
    line 0x5100 0x5107 2 2 .u8 .rws (.nat 0 7) 0,
    line 0x5100 0x5107 3 3 .u8 .rws (.nat 0 8) 0,
    line 0x5100 0x5107 4 4 .u8 .rws (.nat 0 2) 0,
    line 0x5100 0x5107 5 5 .u8 .rws (.nat 0 3) 0,
    line 0x5100 0x5107 6 6 .u8 .rws (.nat 0 15) 0,
    line 0x5100 0x5107 7 7 .u8 .rws (.nat 0 9) 0,
    line 0x5100 0x5107 8 8 .f32 .rws (.f32 (-40000) 100000) 0x41C80000,
    line 0x5100 0x5107 9 9 .f32 .rws .f32NonZero 0x3F800000,
    line 0x5100 0x5107 0x0A 0x0A .f32 .rws .any 0,
    line 0x5100 0x5107 0x0B 0x0B .bool .rws (.nat 0 1) 1,
    line 0x5100 0x5107 0x0C 0x0C .f32 .rws (.f32 (-180000) 180000) 0,
    line 0x5100 0x5107 0x0D 0x0D .u16 .rws (.nat 0 10000) 0,
    line 0x5100 0x5107 0x10 0x10 .f32 .ro .any 0,
    line 0x5100 0x5107 0x11 0x11 .u8 .ro .any 7,
    line 0x5100 0x5107 0x12 0x12 .time64 .ro .any 0,
    line 0x5100 0x5107 0x13 0x14 .f32 .ro .any 0,
    counters 0x5100 0x5107 0x15 0x18,
    line 0x5100 0x5107 0x20 0x21 .f32 .const .any 0,
    line 0x5100 0x5107 0x22 0x23 .f32 .rw (.f32 900 1100) 0x3F800000,
    line 0x5100 0x5107 0x24 0x24 .f32 .rw (.f32 (-10) 10) 0,
    line 0x5100 0x5107 0x25 0x25 .f32 .rw (.f32 (-1000000) 1000000) 0,
    line 0x5100 0x5107 0x26 0x27 .f32 .ro .any 0,
    line 0x5180 0x5183 1 1 .u8 .rws (.nat 0 2) 0,
    line 0x5180 0x5183 2 2 .u16 .rws (.nat 50 25000) 1000,
    line 0x5180 0x5183 3 3 .f32 .rws (.f32 (-5000) 5000) 0,
    line 0x5180 0x5183 5 5 .u8 .ro .any 0,
    line 0x5180 0x5183 6 7 .f32 .ro .any 0,
    counters 0x5180 0x5183 8 8,
    octetLine 0x5200 0x520F 1 1 .vstring .rws (.size 0 16) [],
    line 0x5200 0x520F 2 2 .u8 .rws (.nat 0 3) 0,
    line 0x5200 0x520F 3 3 .u8 .rws (.nat 2 64) 2,
    octetLine 0x5200 0x520F 4 4 .octets .rws (.size 0 512) [],
    line 0x5200 0x520F 5 6 .f32 .ro .any 0,
    line 0x5300 0x530F 1 1 .bool .rws (.nat 0 1) 0,
    line 0x5300 0x530F 2 2 .u8 .rws (.nat 0 7) 0,
    line 0x5300 0x530F 3 3 .u8 .rws (.nat 0 3) 0,
    line 0x5300 0x530F 4 5 .f32 .rws .any 0,
    line 0x5300 0x530F 6 6 .f32 .rws .f32NonNegative 0,
    line 0x5300 0x530F 7 7 .u8 .rws (.nat 0 2) 0,
    line 0x5300 0x530F 8 9 .bool .ro .any 0,
    counters 0x5300 0x530F 0x0A 0x0B,
    line 0x5400 0x5403 1 1 .bool .rws (.nat 0 1) 0,
    line 0x5400 0x5403 2 2 .u8 .rws (.nat 0 7) 0,
    line 0x5400 0x5403 3 3 .f32 .rws .any 0,
    line 0x5400 0x5403 4 4 .f32 .rws .any 0x3F800000,
    line 0x5400 0x5403 5 5 .u8 .rws (.nat 0 3) 0,
    line 0x5400 0x5403 6 6 .f32 .ro .any 0,
    line 0x5400 0x5403 7 7 .u8 .ro .any 0,
    line 0x5400 0x5403 0x20 0x21 .f32 .const .any 0,
    line 0x5400 0x5403 0x22 0x23 .f32 .rw (.f32 900 1100) 0x3F800000,
    line 0x5400 0x5403 0x24 0x24 .f32 .rw (.f32 (-10) 10) 0,
    line 0x5400 0x5403 0x25 0x25 .f32 .rw (.f32 (-1000000) 1000000) 0,
    line 0x5400 0x5403 0x26 0x27 .f32 .ro .any 0,
    status 0x5410 1 .f32 0,
    line 0x5600 0x5600 1 0x10 .u8 .rws (.nat 1 200) 5,
    line 0x5601 0x5601 1 0x10 .u8 .rws (.nat 0 2) 0,
    status 0x5602 1 .u16 0,
    counters 0x5603 0x5603 1 0x10 ]

/-- R452. -/
def rowsSupervision : List Row :=
  [ line 0x6000 0x601D 1 1 .u8 .ro .any 0,
    line 0x6000 0x601D 2 2 .u8 .rws (.nat 0 1) 1,
    line 0x6000 0x601D 3 6 .f32 .ro .any 0,
    line 0x6000 0x601D 7 8 .u8 .ro .any 0,
    counters 0x6000 0x601D 9 9,
    line 0x6020 0x6020 1 3 .f32 .ro .any 0,
    item 0x6040 1 .u16 .rws (.nat 100 1000) 700,
    item 0x6040 2 .u16 .rws (.nat 100 1200) 850,
    flagItem 0x6040 3 .rws 1,
    item 0x6040 4 .u32 .rws (.nat 600 86400) 3600,
    line 0x6041 0x6041 1 0x1E .u16 .ro .any 0xFFFF,
    line 0x6042 0x6043 1 0x26 .u16 .ro .any 0xFFFF,
    line 0x6044 0x6044 1 7 .u16 .ro .any 0xFFFF,
    octetLine 0x6045 0x6045 1 0x10 .octets .ro .any (List.replicate 34 0xFF),
    octetLine 0x6046 0x6046 1 2 .octets .ro .any (List.replicate 66 0xFF),
    octetLine 0x6046 0x6046 3 3 .octets .ro .any (List.replicate 34 0xFF),
    item 0x6060 1 .u8 .rws (.nat 0 1) 0,
    line 0x6061 0x6061 1 0x16 .u32 .ro .any 0,
    item 0x6062 1 .u32 .wo .any 0,
    line 0x6080 0x6080 1 2 .u8 .rws (.nat 0 2) 2,
    line 0x6080 0x6080 3 6 .u8 .rws (.nat 0 2) 1,
    status 0x6081 1 .u8 0,
    item 0x6081 2 .u8 .wo .any 0,
    counters 0x6082 0x6082 1 6 ]

/-- The key of entry `idx`.`sub` (R38): index above sub-index. -/
def keyOf (idx sub : Nat) : Nat := idx * 256 + sub

/-- Index of a key. -/
def idxOf (key : Nat) : Nat := key / 256

/-- Sub-index of a key. -/
def subOf (key : Nat) : Nat := key % 256

/-- An index inside the port blocks 0x2000 + 0x20·p (R68). -/
def inPortBlock (idx : Nat) : Bool := 0x2000 ≤ idx && idx ≤ 0x24BF

/-- Port of an index inside the port blocks. -/
def portOfIdx (idx : Nat) : Nat := (idx - 0x2000) / 0x20

/-- The index as given for LP0. -/
def plainIdx (idx : Nat) : Nat := if inPortBlock idx then 0x2000 + (idx - 0x2000) % 0x20 else idx

/-- Key of the port entry given for LP0 at `idx`.`sub`, on port `p`. -/
def portKey (p idx sub : Nat) : Nat := keyOf (idx + 0x20 * p) sub

/-- Key of the lane entry given for lane 0 of LP0, on lane `l` of port `p`. -/
def laneKey (p l idx sub : Nat) : Nat := keyOf (idx + 0x20 * p + l) sub

/-- Lane number of a lane index (offsets +0x08 to +0x1B). -/
def laneOfIdx (idx : Nat) : Nat := idx % 4

/-- The table that holds an index (as given for LP0). -/
def rowsFor (idx : Nat) : List Row :=
  if idx < 0x1010 then rowsIdentity
  else if idx < 0x1100 then rowsHierarchy
  else if idx < 0x1200 then rowsReset
  else if idx < 0x1400 then rowsTime
  else if idx < 0x1600 then rowsCommit
  else if idx < 0x1800 then rowsRoles
  else if idx < 0x2000 then rowsLog
  else if idx < 0x2008 then rowsPort
  else if idx < 0x201C then rowsLane
  else if idx < 0x2800 then rowsPort
  else if idx < 0x3000 then rowsCoding
  else if idx < 0x3200 then rowsSchedule
  else if idx < 0x3400 then rowsRoutes
  else if idx < 0x3800 then rowsCommand
  else if idx < 0x4000 then rowsRing
  else if idx < 0x5000 then rowsTrust
  else if idx < 0x6000 then rowsSensing
  else rowsSupervision

/-- A row covers an entry. -/
def rowHas (idx sub : Nat) (r : Row) : Bool :=
  decide (r.first ≤ idx) && decide (idx ≤ r.last) && decide (r.sub1 ≤ sub) && decide (sub ≤ r.sub2)

/-! ## What each variant has (R1) -/

/-- Traffic ports. -/
def portCount : Variant → Nat
  | .sk3612 => 12
  | .sk3624 => 24
  | .sk3636 => 36

/-- Enabled engine clusters. -/
def clusterCount : Variant → Nat
  | .sk3612 => 4
  | .sk3624 => 8
  | .sk3636 => 16

/-- Size of the endpoint ID space. -/
def endpointSpace : Variant → Nat
  | .sk3612 => 0x10000
  | .sk3624 => 0x20000
  | .sk3636 => 0x40000

/-- Ballast is fitted on the SK3636-A only. -/
def hasBallast (v : Variant) : Bool := v == .sk3636

/-- Block `b` of region `r` exists on the variant (R1, R13). -/
def blockPresent (v : Variant) (r b : Nat) : Bool :=
  if r = 1 then decide (b < portCount v) || (hasBallast v && (b == 36 || b == 37))
  else if r = 2 then decide (b < clusterCount v) || (b == 16 || b == 17 || b == 18)
  else if r = 3 then decide (b < 4)
  else if r = 4 then decide (b < 5)
  else if r = 5 then decide (b < 6) else false

/-- Region of the per-block entries 1021-1025, 1031-1035, 1041-1045, 1221-1225, 1231-1235, 1241-1245. -/
def blockEntryRegion (idx : Nat) : Option Nat :=
  let g := idx / 16
  let r := idx % 16
  if (g == 0x102 || g == 0x103 || g == 0x104 || g == 0x122 || g == 0x123 || g == 0x124) && decide (1 ≤ r) && decide (r ≤ 5)
  then some r else none

/-- A power domain of the variant: those of absent clusters, line DSP groups and ballast engines are absent (R1, R4, R6). -/
def domainPresent (v : Variant) (d : Nat) : Bool :=
  if 3 ≤ d ∧ d < 19 then decide (d - 3 < clusterCount v)
  else if 19 ≤ d ∧ d < 22 then decide (12 * (d - 19) < portCount v)
  else if d = 29 then hasBallast v else decide (d < 29)

/-- The entry is present on the variant (R1, R4, R125, R452). -/
def entryPresent (v : Variant) (idx sub : Nat) : Bool :=
  if inPortBlock idx then
    let p := portOfIdx idx
    let o := (idx - 0x2000) % 0x20
    if p < portCount v then true
    else (hasBallast v && (p == 36 || p == 37)) && (o == 1 || o == 6 || o == 0x1F)
  else match blockEntryRegion idx with
  | some r => sub == 0 || blockPresent v r (sub - 1)
  | none =>
    if 0x3410 ≤ idx ∧ idx < 0x3440 then decide (idx - 0x3410 < portCount v)
    else if 0x3440 ≤ idx ∧ idx < 0x3470 then decide (idx - 0x3440 < portCount v)
    else if 0x3470 ≤ idx ∧ idx < 0x34A0 then decide (idx - 0x3470 < portCount v)
    else if 0x34A0 ≤ idx ∧ idx < 0x3500 then decide (idx - 0x34A0 < portCount v)
    else if 0x3510 ≤ idx ∧ idx < 0x3800 then decide (idx - 0x3510 < portCount v)
    else if idx = 0x6042 ∨ idx = 0x6043 then sub == 0 || blockPresent v 1 (sub - 1)
    else if idx = 0x6044 ∧ sub = 7 then hasBallast v
    else if idx = 0x6045 then sub == 0 || decide (sub - 1 < clusterCount v)
    else if 0x6060 ≤ idx ∧ idx ≤ 0x6062 then hasBallast v
    else if 0x6000 ≤ idx ∧ idx < 0x6020 then domainPresent v (idx - 0x6000)
    else if idx = 0x6041 then sub == 0 || domainPresent v (sub - 1)
    else true

/-! ## Entries whose default or right depends on their index -/

/-- Profiles of R221: number, name, group, code, mapping, repetition, rate offset in 0.5 dB (R220), default maximum NSYM. -/
def profileTable : List (Nat × String × Nat × Nat × Nat × Nat × Nat × Nat) :=
  [ (0, "N-TM-1/2", 1, 1, 0, 1, 0, 256), (1, "N-TM-2/3", 1, 2, 0, 1, 3, 256), (2, "N-TM-5/6", 1, 3, 0, 1, 6, 256),
    (3, "N-REP2", 1, 1, 2, 2, 0, 511), (4, "N-REP4", 1, 1, 1, 4, 0, 511), (5, "N-REP8", 1, 1, 1, 8, 0, 511),
    (6, "N-REP16", 1, 1, 1, 16, 0, 511),
    (16, "W-TM-1/2", 2, 4, 0, 1, 0, 511), (17, "W-TM-2/3", 2, 5, 0, 1, 3, 511), (18, "W-TM-3/4", 2, 6, 0, 1, 4, 511),
    (19, "W-TM-5/6", 2, 7, 0, 1, 6, 511),
    (20, "W-REP2", 2, 4, 2, 2, 0, 511), (21, "W-REP4", 2, 4, 1, 4, 0, 511), (22, "W-REP8", 2, 4, 1, 8, 0, 511),
    (23, "W-REP16", 2, 4, 1, 16, 0, 511),
    (40, "G-CENA-ROBO", 3, 0, 0xFF, 0, 0, 0), (41, "G-CENA-DIFF", 3, 0, 0xFF, 0, 0, 0),
    (42, "G-CENA-COH", 3, 0, 0xFF, 0, 0, 0), (43, "G-FCC-ROBO", 3, 0, 0xFF, 0, 0, 0),
    (44, "G-FCC-DIFF", 3, 0, 0xFF, 0, 0, 0), (45, "G-FCC-COH", 3, 0, 0xFF, 0, 0, 0),
    (56, "C-REP32", 4, 0, 1, 32, 0, 4) ]

/-- The line of profile `n`; reserved profiles read an empty name and zeros (R230). -/
def profileLine (n : Nat) : String × Nat × Nat × Nat × Nat × Nat × Nat :=
  match profileTable.find? (fun r => r.1 == n) with
  | some r => r.2
  | none => ("", 0, 0, 0, 0, 0, 0)

/-- Group of a profile: 0 reserved, 1 N, 2 W, 3 G, 4 C. -/
def profileGroup (n : Nat) : Nat := (profileLine n).2.1

/-- Code of a profile (R212). -/
def profileCode (n : Nat) : Nat := (profileLine n).2.2.1

/-- Mapping of a profile: 0 tone map. -/
def profileMapping (n : Nat) : Nat := (profileLine n).2.2.2.1

/-- Repetition of a profile. -/
def profileRep (n : Nat) : Nat := (profileLine n).2.2.2.2.1

/-- Rate offset of a profile in 0.5 dB (R220). -/
def profileOffset (n : Nat) : Nat := (profileLine n).2.2.2.2.2.1

/-- Default maximum NSYM of a profile. -/
def profileNsym (n : Nat) : Nat := (profileLine n).2.2.2.2.2.2

/-- One envelope segment (R146): START in Hz and LIMIT as a 16-bit pattern. -/
def segment (start limit : Nat) : Bytes := toBE 4 start ++ toBE 2 limit ++ [0, 0]

/-- The terminator's LIMIT. -/
def segEnd : Nat := 0x8000

/-- A LIMIT of `-n` in 0.1 dBm/Hz. -/
def below0 (n : Nat) : Nat := 0x10000 - n

/-- A band of one in-band LIMIT without notches. -/
def plainBand (lo hi n : Nat) : List (Nat × Nat) := [(lo, below0 n), (hi, segEnd)]

/-- A broadband template: in-band LIMIT -55.0 dBm/Hz with notches at -85.0 dBm/Hz (R147). A notch that begins at the band's
start replaces its first segment; a notch that ends beyond the band ends the list. -/
def notched (lo hi : Nat) (notches : List (Nat × Nat)) : List (Nat × Nat) :=
  (if notches.head?.map (·.1) = some lo then [] else [(lo, below0 550)])
    ++ (notches.flatMap fun n => [(n.1, below0 850), (n.2, below0 550)]) ++ [(hi, segEnd)]

/-- Notches of BB-R1 from 10.100 MHz on, in Hz (R147). -/
def notchesHigh : List (Nat × Nat) :=
  [ (10100000, 10150000), (14000000, 14350000), (18068000, 18168000), (21000000, 21450000), (24890000, 24990000),
    (28000000, 29700000) ]

/-- Segments of the factory templates (R147). -/
def templateSegments (e : Nat) : List (Nat × Nat) :=
  if e = 1 then plainBand 9000 95000 300
  else if e = 2 then plainBand 95000 125000 400
  else if e = 3 then plainBand 125000 140000 400
  else if e = 4 then plainBand 140000 148500 400
  else if e = 5 then plainBand 35900 90600 300
  else if e = 6 then plainBand 10000 490000 300
  else if e = 7 then plainBand 154700 487500 300
  else if e = 8 then plainBand 10000 450000 300
  else if e = 9 then
    notched 1800000 30000000
      ([(1810000, 2000000), (3500000, 3800000), (5351500, 5366500), (7000000, 7200000)] ++ notchesHigh)
  else if e = 10 then
    notched 1800000 30000000
      ([(1800000, 2000000), (3500000, 4000000), (5330500, 5406500), (7000000, 7300000)] ++ notchesHigh)
  else [(0, segEnd)]

/-- Name of a factory template (R147); entries 11-15 have none, user envelopes default to none (R156). -/
def templateName (e : Nat) : String :=
  if e = 0 then "NONE" else if e = 1 then "EN50065-A" else if e = 2 then "EN50065-B" else if e = 3 then "EN50065-C"
  else if e = 4 then "EN50065-D" else if e = 5 then "G9903-CENA" else if e = 6 then "FCC-P15"
  else if e = 7 then "G9903-FCC" else if e = 8 then "ARIB" else if e = 9 then "BB-R1" else if e = 10 then "BB-R2"
  else ""

/-- Name and input quantity of the factory curves (R394). -/
def curveLine (n : Nat) : String × Nat :=
  if n = 0 then ("LINEAR", 0) else if n = 1 then ("PT100", 3) else if n = 2 then ("PT1000", 3)
  else if n = 3 then ("NI120", 3) else if n = 4 then ("CU10", 3) else if n = 5 then ("TYPE K", 1)
  else if n = 6 then ("TYPE J", 1) else if n = 7 then ("TYPE T", 1) else if n = 8 then ("LVDT", 2)
  else if n = 9 then ("BRIDGE", 2) else ("", 0)

/-- The default table of a user curve: the points (0, 0) and (1, 1) (R407). -/
def curveDefault : Bytes := toBE 4 0 ++ toBE 4 0 ++ toBE 4 0x3F800000 ++ toBE 4 0x3F800000

/-- The factory templates repeat the content of entry 0 at 11-15, and user envelopes default to it (R147). -/
def templateOf (e : Nat) : Nat := if e ≤ 10 then e else 0

/-- The entry as it stands at an index whose default or right differs from its table line: profiles (R230), envelopes (R147),
key slot 255 (R346), curves (R394, R396), the tamper sensor 2 (R452). -/
def adjust (idx sub : Nat) (d : Desc) : Desc :=
  if 0x2800 ≤ idx ∧ idx ≤ 0x283F then
    let n := idx - 0x2800
    let g := profileGroup n
    if sub = 1 then { d with default := ascii (profileLine n).1 }
    else if sub = 2 then { d with default := toBE 1 g }
    else if sub = 3 then { d with default := toBE 1 (profileCode n) }
    else if sub = 4 then { d with default := toBE 1 (profileMapping n) }
    else if sub = 5 then { d with default := toBE 1 (profileRep n) }
    else if sub = 6 then { d with default := toBE 1 (profileOffset n) }
    else if sub = 7 then { d with default := toBE 2 (profileNsym n), access := if g = 1 ∨ g = 2 then .rws else .const }
    else { d with default := toBE 1 (if g = 0 then 0 else 12), access := if g = 0 then .const else .rws }
  else if 0x2900 ≤ idx ∧ idx ≤ 0x293F then
    let e := idx - 0x2900
    let segs := templateSegments (templateOf e)
    let acc : Access := if e < 16 then .const else .rws
    if sub = 1 then { d with access := acc, default := ascii (templateName e) }
    else if sub = 2 then { d with access := acc, default := toBE 1 segs.length }
    else { d with access := acc, default := segs.flatMap fun p => segment p.1 p.2 }
  else if idx = 0x41FF then
    if sub = 1 then { d with default := toBE 8 1 }
    else if sub = 2 then { d with access := .const, default := toBE 2 0x00C0 } else d
  else if 0x5200 ≤ idx ∧ idx ≤ 0x520F then
    let n := idx - 0x5200
    if n < 10 then
      if sub = 1 then { d with access := .const, default := ascii (curveLine n).1 }
      else if sub = 2 then { d with access := .const, default := toBE 1 (curveLine n).2 }
      else if sub = 3 then { d with access := .const, default := [0] }
      else if sub = 4 then { d with access := .const, default := [] } else d
    else if sub = 1 then { d with default := ascii "USER" }
    else if sub = 4 then { d with default := curveDefault } else d
  else if idx = 0x6080 ∧ sub = 2 then { d with access := .const }
  else d

/-- Highest sub-index in use at an index on the variant; 0 where the index is absent. -/
def highestSub (v : Variant) (idx : Nat) : Nat :=
  let pi := plainIdx idx
  ((rowsFor pi).filter fun r => decide (r.first ≤ pi) && decide (pi ≤ r.last)).foldl
    (fun m r => ((List.range (r.sub2 + 1 - r.sub1)).map (· + r.sub1)).foldl
      (fun m' sub => if entryPresent v idx sub then max m' sub else m') m) 0

/-- The entry, where it is present on the variant (R4, R38, R68). -/
def descOf (v : Variant) (key : Nat) : Option Desc :=
  let idx := idxOf key
  let sub := subOf key
  let pi := plainIdx idx
  if entryPresent v idx sub then
    if sub = 0 then
      match (rowsFor pi).find? fun r => decide (r.first ≤ pi) && decide (pi ≤ r.last) with
      | some _ => some ⟨.u8, .const, .any, toBE 1 (highestSub v idx)⟩
      | none => none
    else match (rowsFor pi).find? (rowHas pi sub) with
      | some r => some (adjust pi sub r.desc)
      | none => none
  else none

/-- Default of an entry; absent entries have none. -/
def defaultOf (v : Variant) (key : Nat) : Bytes :=
  match descOf v key with
  | some d => d.default
  | none => []

/-- The value's type code is its entry's, and its length is the type's (R49). -/
def lengthOk (d : Desc) (n : Nat) : Bool :=
  match d.ty with
  | .octets => match d.range with
    | .size lo hi => decide (lo ≤ n) && decide (n ≤ hi)
    | .slots => n == 24
    | _ => decide (n ≤ 1024)
  | .vstring => match d.range with
    | .size lo hi => decide (lo ≤ n) && decide (n ≤ hi)
    | _ => decide (n ≤ 255)
  | t => n == tySize t

/-- Well-formed UTF-8 (R38), by the lead byte and its continuation bytes; shortest forms, no surrogates. -/
def utf8Ok : Bytes → Bool
  | [] => true
  | a :: rest =>
    let x := a.toNat
    let cont : Byte → Bool := fun b => b.toNat / 64 == 2
    if x < 0x80 then utf8Ok rest
    else if 0xC2 ≤ x ∧ x < 0xE0 then
      match rest with
      | b :: r => cont b && utf8Ok r
      | _ => false
    else if 0xE0 ≤ x ∧ x < 0xF0 then
      match rest with
      | b :: c :: r => cont b && cont c && !(x == 0xE0 && decide (b.toNat < 0xA0)) && !(x == 0xED && decide (b.toNat ≥ 0xA0))
          && utf8Ok r
      | _ => false
    else if 0xF0 ≤ x ∧ x < 0xF5 then
      match rest with
      | b :: c :: e :: r => cont b && cont c && cont e && !(x == 0xF0 && decide (b.toNat < 0x90))
          && !(x == 0xF4 && decide (b.toNat ≥ 0x90)) && utf8Ok r
      | _ => false
    else false

/-- Bits of a type's value. -/
def tyBits (t : Ty) : Nat := 8 * tySize t

/-- Encoding and range of a value of the right length (R38, and the entry's range). -/
def valueOk (d : Desc) (v : Bytes) : Bool :=
  let n := ofBE v
  let enc := match d.ty with
    | .bool => decide (n ≤ 1)
    | .f32 => !f32Bad n
    | .vstring => utf8Ok v
    | _ => true
  enc && match d.range with
    | .any => true
    | .nat lo hi => decide (lo ≤ n) && decide (n ≤ hi)
    | .zeroOr lo hi => n == 0 || (decide (lo ≤ n) && decide (n ≤ hi))
    | .oneOf l => l.contains n
    | .int lo hi => decide (lo ≤ signed (tyBits d.ty) n) && decide (signed (tyBits d.ty) n ≤ hi)
    | .f32 lo hi => (Frac.milli lo).le (f32ToFrac n) && (f32ToFrac n).le (Frac.milli hi)
    | .f32NonZero => decide ((f32ToFrac n).num ≠ 0)
    | .f32NonNegative => decide (0 ≤ (f32ToFrac n).num)
    | .size _ _ => true
    | .slots => v.all fun b => decide (1 ≤ b.toNat) && decide (b.toNat ≤ 5)
    | .nibbles => (List.range 4).all fun i => decide (1 ≤ bits n (4 * i + 3) (4 * i)) && decide (bits n (4 * i + 3) (4 * i) ≤ 8)
    | .etherType => decide (0x0600 ≤ n) && n != 0x892F && n != 0x88F7

/-- Digest region of an index (R68): 0 none. -/
def digestRegion (idx : Nat) : Nat :=
  if 0x1000 ≤ idx ∧ idx < 0x1400 then 5
  else if 0x1600 ≤ idx ∧ idx < 0x1700 then 4
  else if 0x1800 ≤ idx ∧ idx < 0x1900 then 5
  else if 0x2000 ≤ idx ∧ idx < 0x2A00 then 1
  else if 0x3000 ≤ idx ∧ idx < 0x3200 then 2
  else if 0x3400 ≤ idx ∧ idx < 0x3500 then 2
  else if 0x3500 ≤ idx ∧ idx < 0x3900 then 4
  else if 0x4000 ≤ idx ∧ idx < 0x4300 then 3
  else if 0x5000 ≤ idx ∧ idx < 0x5700 then 4
  else if 0x6000 ≤ idx ∧ idx < 0x6100 then 5 else 0

/-- The one block that owns an entry, as region and block (R13, R40, R58); entries that several blocks hold have none (log 9). -/
def ownerBlock (idx : Nat) : Option (Nat × Nat) :=
  if inPortBlock idx then some (1, portOfIdx idx)
  else if idx < 0x1100 then some (5, 5)
  else if idx < 0x1200 then some (5, 0)
  else if idx < 0x1400 then some (5, 2)
  else if idx < 0x1800 then some (5, 5)
  else if idx < 0x2000 then some (5, 4)
  else if 0x2800 ≤ idx ∧ idx < 0x2900 then some (2, 18)
  else if idx < 0x3500 then none
  else if idx < 0x3510 then some (4, 4)
  else if idx < 0x3800 then some (4, 4)
  else if idx < 0x4000 then some (4, 0)
  else if idx < 0x4100 then some (3, 0)
  else if idx < 0x4200 then some (3, 1)
  else if idx < 0x5000 then some (3, 2)
  else if idx < 0x5600 then some (4, 3)
  else if idx < 0x6000 then some (4, 4)
  else if idx < 0x6040 then some (5, 1)
  else if idx < 0x6080 then some (5, 4)
  else some (3, 3)

/-- Inside the protected ranges of R43. -/
def protectedIdx (idx : Nat) : Bool :=
  (decide (0x1000 ≤ idx) && decide (idx ≤ 0x18FF)) || (decide (0x4000 ≤ idx) && decide (idx ≤ 0x42FF))
    || (decide (0x6000 ≤ idx) && decide (idx ≤ 0x60FF))

/-! ## Enumerating the dictionary -/

/-- Every table of the catalogue in ascending index order. -/
def allRows : List Row :=
  rowsIdentity ++ rowsHierarchy ++ rowsReset ++ rowsTime ++ rowsCommit ++ rowsRoles ++ rowsLog ++ rowsCoding ++ rowsSchedule
    ++ rowsRoutes ++ rowsCommand ++ rowsRing ++ rowsTrust ++ rowsSensing ++ rowsSupervision

/-- Keys of the entries at one index in ascending sub-index order that satisfy a test on their description. -/
def keysAt (v : Variant) (q : Access → Bool) (idx : Nat) : List Nat :=
  (List.range (highestSub v idx)).filterMap fun i =>
    match descOf v (keyOf idx (i + 1)) with
    | some d => if q d.access then some (keyOf idx (i + 1)) else none
    | none => none

/-- Indices of the region-1 to region-5 configuration, ascending (R59, R68): the indices that hold an rws or rwq entry. -/
def configIndices : List Nat :=
  [0x1100, 0x1200, 0x1210, 0x1800]
    ++ ((List.range 36).flatMap fun p => ([0, 2, 3, 5, 8, 9, 0x0A, 0x0B, 0x0C, 0x0D, 0x0E, 0x0F, 0x1C].map fun o => 0x2000 + 0x20 * p + o))
    ++ ((List.range 64).map (0x2800 + ·)) ++ ((List.range 64).map (0x2900 + ·))
    ++ [0x3000, 0x3100, 0x3101, 0x3102, 0x3103, 0x3104, 0x3105, 0x3106, 0x3110, 0x3400]
    ++ ((List.range 36).map (0x3410 + ·)) ++ ((List.range 36).map (0x3440 + ·))
    ++ [0x3500, 0x3501, 0x3502, 0x3503] ++ ((List.range 36).map (0x3510 + ·))
    ++ [0x3800, 0x4000] ++ ((List.range 256).map (0x4100 + ·)) ++ [0x5000, 0x5001]
    ++ ((List.range 8).map (0x5100 + ·)) ++ ((List.range 4).map (0x5180 + ·)) ++ ((List.range 16).map (0x5200 + ·))
    ++ ((List.range 16).map (0x5300 + ·)) ++ ((List.range 4).map (0x5400 + ·)) ++ [0x5600, 0x5601]
    ++ ((List.range 30).map (0x6000 + ·)) ++ [0x6040, 0x6060, 0x6080]

end Sys2Proof.Machine
end

