-- ==== Sys2Proof/Machine/Decibel.lean ====
section
/-! DEFINITION. Levels in decibels as ratios (R5, R108, R126, R136): exact fractions from a table of powers of ten in units of 2^-60 (log 57). -/

namespace Sys2Proof.Machine

/-- 10^(2^i / 20000) in units of 2^-60, i = 0 to 19: the amplitude ratios of 0.001 dB, 0.002 dB, 0.004 dB and so on. -/
def dbSteps : List Nat :=
  [1153054247241475646, 1153187005159544669, 1153452566853042669, 1153983873718762074,
   1155047221759533509, 1157176858236645139, 1161447918082731472, 1170037388519971316,
   1187407369074503562, 1222924765041338081, 1297178493917850547, 1459485349487677486,
   1847565056994529634, 2960736378138095357, 7603258214720811140, 50141779165991780465,
   2180719162479707328005, 4124770026930724983127420, 14757056492642901207740347046221,
   188885986996413170319063911540810299561017202]

/-- Amplitude ratio of `n` thousandths of a decibel, in units of 2^-60. -/
def dbGain (n : Nat) : Nat :=
  (dbSteps.zip (List.range 20)).foldl (fun a e => if bit n e.2 then a * e.1 / 2 ^ 60 else a) (2 ^ 60)

/-- Amplitude ratio of a level in 0.001 dB. -/
def ampRatio (mdb : Int) : Frac :=
  if mdb < 0 then ⟨(2 ^ 60 : Nat), dbGain mdb.natAbs⟩ else ⟨(dbGain mdb.natAbs : Nat), 2 ^ 60⟩

/-- Power ratio of a level in 0.001 dB. -/
def powerRatio (mdb : Int) : Frac := ampRatio (2 * mdb)

/-- e to a power in units of 2^-60, by the power series of its sixteenth. -/
def expUnits (x : Nat) : Nat :=
  let s := (List.range 40).foldl (fun (a : Nat × Nat) i => (a.1 + a.2, a.2 * (x / 16) / 2 ^ 60 / (i + 1))) (0, 2 ^ 60)
  (List.range 4).foldl (fun a _ => a * a / 2 ^ 60) s.1

/-- Arrhenius weight of a junction temperature in 0.001 °C against 105 °C with Ea = 0.7 eV, in units of 2^-20 (R436; Boltzmann's constant
8.617333262·10^-5 eV/K, log 72). -/
def arrhenius (temp : Int) : Nat :=
  let t := (temp + 273150).toNat
  let x : Nat → Nat := fun d => 7 * 10 ^ 16 * d * 2 ^ 60 / (8617333262 * 378150 * max 1 t)
  if 378150 ≤ t then expUnits (x (t - 378150)) / 2 ^ 40 else 2 ^ 80 / expUnits (x (378150 - t))

/-- Nearest whole number to a fraction, halves away from zero. -/
def Frac.round (a : Frac) : Int :=
  let n : Int := ((2 * a.num.natAbs + a.den) / (2 * max 1 a.den) : Nat)
  if a.num < 0 then -n else n

/-- A number by a fraction, rounded. -/
def scaleBy (n : Int) (a : Frac) : Int := (Frac.mul (Frac.ofInt n) a).round

/-- A binary32 value in thousandths, rounded. -/
def f32ToMilli (b : Nat) : Int := (Frac.mul (Frac.ofInt 1000) (f32ToFrac b)).round

end Sys2Proof.Machine
end

