-- ==== Sys2Proof/Machine/Dsp.lean ====
section
/-! DEFINITION. The arithmetic of symbols (R133, R137, R138, R204, R215): complex numbers, phases, the inverse transform, prefix and window, the
shaper. Values are rounded to the units stated with them (log 32). -/

namespace Sys2Proof.Machine

/-- A complex number; unit phases are in units of 2^-60. -/
abbrev Cplx := Int × Int

/-- Sum. -/
def Cplx.add (a b : Cplx) : Cplx := (a.1 + b.1, a.2 + b.2)

/-- Difference. -/
def Cplx.sub (a b : Cplx) : Cplx := (a.1 - b.1, a.2 - b.2)

/-- Product, one of the two in units of 2^-60. -/
def Cplx.mul (a b : Cplx) : Cplx := ((a.1 * b.1 - a.2 * b.2) / 2 ^ 60, (a.1 * b.2 + a.2 * b.1) / 2 ^ 60)

/-- Squared magnitude. -/
def Cplx.norm (a : Cplx) : Nat := (a.1 * a.1 + a.2 * a.2).toNat

/-- Sum of a list. -/
def cplxSum (l : List Cplx) : Cplx := l.foldl Cplx.add (0, 0)

/-- Two times pi in units of 2^-80. -/
def twoPi : Nat := 7595904947272677161575987

/-- The phase of `num / den` turns in units of 2^-60, by its power series. -/
def turn (num den : Nat) : Cplx :=
  let n := num % max 1 den
  let back := decide (den < 2 * n)
  let x : Int := (twoPi * (if back then den - n else n) / max 1 den : Nat)
  let s := (List.range 46).foldl (fun (a : Cplx × Cplx) i =>
    (a.1.add a.2, (-(a.2.2 * x / 2 ^ 80) / (i + 1 : Nat), a.2.1 * x / 2 ^ 80 / (i + 1 : Nat)))) ((0, 0), (2 ^ 80, 0))
  let u : Cplx := ((s.1.1 + 2 ^ 19) / 2 ^ 20, (s.1.2 + 2 ^ 19) / 2 ^ 20)
  if back then (u.1, -u.2) else u

/-! ## Symbols in time (R129, R133, R137) -/

/-- Samples of a transform (R129, R224). -/
def fftSize (kind : Nat) : Nat := if kind = 2 then 2048 else if kind = 3 then 256 else 512

/-- Samples of the cyclic prefix (R129). -/
def prefixSamples (kind : Nat) : Nat := if kind = 2 then 256 else 64

/-- Bin of a carrier (R133). -/
def carrierBin (kind k : Nat) : Nat := if kind = 2 then (k + 2048 - 651) % 2048 else k

/-- Parts of a turn per lane sample of a carrier; a G lane's carriers are native ones at the rate of its plan (R129, R133, R224). -/
def carrierTurn (kind first k : Nat) : Nat × Nat :=
  if kind = 3 then (if first = 9 then (20 * k, 2048) else (20 * k, 6144)) else (carrierBin kind k, fftSize kind)

/-- Inverse transform of a spectrum of bins and values (R133): real on narrowband lanes, whose spectrum is Hermitian-symmetric, complex baseband
on W lanes; bins not listed are zero. -/
def inverseFft (kind : Nat) (spectrum : List (Nat × Cplx)) : List Cplx :=
  (List.range (fftSize kind)).map fun n =>
    let z := cplxSum (spectrum.map fun e => Cplx.mul e.2 (turn (e.1 * n % fftSize kind) (fftSize kind)))
    if kind = 2 then z else (z.1, 0)

/-- Samples of the window's transition (R137). -/
def windowSamples (kind code : Nat) : Nat := code * (if kind = 2 then 32 else 8)

/-- Rise of the raised-cosine window of `t` samples at sample `n`, in units of 2^-60 (log 61). -/
def windowRise (t n : Nat) : Int := (2 ^ 60 - (turn (2 * n + 1) (4 * t)).1) / 2

/-- Scale a sample by a number in units of 2^-60. -/
def Cplx.scale (a : Cplx) (w : Int) : Cplx := (a.1 * w / 2 ^ 60, a.2 * w / 2 ^ 60)

/-- A symbol in time with its prefix, rising over the window and overlapped with the fall of the symbol before (R137). -/
def windowed (kind t : Nat) (before now : List Cplx) : List Cplx :=
  let g := prefixSamples kind
  let body := now.drop (now.length - g) ++ now
  (body.zip (List.range body.length)).map fun e =>
    if e.2 < t then
      Cplx.add (Cplx.scale e.1 (windowRise t e.2)) (Cplx.scale (before[e.2]?.getD (0, 0)) (2 ^ 60 - windowRise t e.2))
    else e.1

/-- Symbols joined: each overlaps the fall of the one before, and the last one falls (R137). -/
def joinSymbols (kind t : Nat) : List Cplx → List (List Cplx) → List Cplx
  | before, [] => (List.range t).map fun n => Cplx.scale (before[n]?.getD (0, 0)) (2 ^ 60 - windowRise t n)
  | before, x :: l => windowed kind t before x ++ joinSymbols kind t x l

/-! ## The shaper (R138) -/

/-- The five coefficients of a biquad in Q2.30: b0, b1, b2, a1, a2. -/
def biquad (v : Bytes) (i : Nat) : List Int := (List.range 5).map fun j => signed 32 (beAt v (20 * i + 4 * j) 4)

/-- The 64 taps of the filter in Q1.15. -/
def firTaps (v : Bytes) : List Int := (List.range 64).map fun i => signed 16 (beAt v (2 * i) 2)

/-- Sum of products of real coefficients with samples. -/
def dot (c : List Int) (x : List Cplx) : Cplx := cplxSum ((c.zip x).map fun e => (e.1 * e.2.1, e.1 * e.2.2))

/-- A tapped filter in Q1.15 over samples; `past` are the samples before, newest first. -/
def firRun (taps : List Int) : List Cplx → List Cplx → List Cplx
  | _, [] => []
  | past, x :: l =>
    let y := dot taps (x :: past)
    (y.1 / 2 ^ 15, y.2 / 2 ^ 15) :: firRun taps ((x :: past).take 63) l

/-- A biquad in Q2.30 over samples: two inputs and two outputs before, newest first. -/
def biquadRun (q : List Int) : List Cplx → List Cplx → List Cplx → List Cplx
  | _, _, [] => []
  | xs, ys, x :: l =>
    let v := Cplx.sub (dot (q.take 3) (x :: xs)) (dot (q.drop 3) ys)
    let y : Cplx := (v.1 / 2 ^ 30, v.2 / 2 ^ 30)
    y :: biquadRun q ((x :: xs).take 2) ((y :: ys).take 2) l

/-- The shaper over a frame's samples (R138). -/
def shape (fir biq : Bytes) (l : List Cplx) : List Cplx :=
  (List.range 4).foldl (fun a i => biquadRun (biquad biq i) [] [] a) (firRun (firTaps fir) [] l)

/-- Value of a polynomial in z^-1 at z^-1 = `w`, coefficients lowest power first. -/
def horner (w : Cplx) (l : List Int) : Cplx :=
  l.reverse.foldl (fun (a : Cplx) c => let m := Cplx.mul a w; (m.1 + c * 2 ^ 60, m.2)) (0, 0)

/-- A biquad's poles lie inside the unit circle. -/
def biquadStable (q : List Int) : Bool :=
  let a1 := q[3]?.getD 0
  let a2 := q[4]?.getD 0
  let one : Int := 2 ^ 30
  decide (a2 < one) && decide (-one < a2) && decide (a1.natAbs < one + a2)

/-- The magnitude response at the frequency of phase `z` per sample exceeds +0.5 dB. -/
def shaperLoud (fir biq : Bytes) (z : Cplx) : Bool :=
  let w : Cplx := (z.1, -z.2)
  let h := (horner w (firTaps fir)).norm
  let num := (List.range 4).foldl (fun a i => a * (horner w ((biquad biq i).take 3)).norm) h
  let down := (List.range 4).foldl (fun a i => a * (horner w (2 ^ 30 :: (biquad biq i).drop 3)).norm) ((2 ^ 15 * 2 ^ 60) ^ 2)
  decide (10 * down ^ 20 < num ^ 20)

end Sys2Proof.Machine
end

