-- ==== Sys2Proof/Machine/State.lean ====
section
/-! DEFINITION. The state of the block as plain data: everything the spec gives the module, the queue of waiting commands,
and the two fields of the model's own (`free`, `out`). Tables are lists of key and value with keys strictly
rising and no value equal to the table's default (Machine/Ops.lean reads and writes them). -/

namespace Sys2Proof.Machine

/-- Sparse storage: keys strictly rising, no entry equal to the default its reader names. -/
abbrev Table (α : Type) := List (Nat × α)

/-- Why a command stops. -/
inductive Fault where
  /-- Raised by REGISTER_WRITE alone: no field map of the spec lists a register at this offset of the page. Safe: the model stops
  where the hardware would have nothing to write. -/
  | noRegister (offset : Nat)
deriving DecidableEq, Repr

/-- Why a command has no meaning in the model. -/
inductive Refusal where
  /-- Raised by exec's arms that wait for their meaning, by mnemonic; no arm does so now. Safe. -/
  | notModelled (mnemonic : String)
deriving DecidableEq, Repr

/-! ## Hierarchy (R13-R37) and work per beat (R82-R89) -/

/-- Block states of R29. -/
inductive BlockState where
  | off
  | reset
  | running
  | idleReq
  | held
deriving DecidableEq, Repr

/-- One block (R14, R20-R25, R29, R85-R89). -/
structure Block where
  state : BlockState := .off
  /-- Withdrawn cells, bit n for cell n (1021-1025). -/
  withdrawn : Nat := 0
  /-- TSC of the resets performed on it, newest first (R25). -/
  resets : List Nat := []
  /-- TSC at which idle was requested (R23). -/
  idleAt : Nat := 0
  /-- Carried items per class 0-3 (R85). -/
  carried : List Nat := []
  /-- Items that the cells of a cluster work on in this beat, each with its cell (R20, R85), and items not yet taken up, next first. -/
  openItems : List (Nat × WorkItem) := []
  queue : List WorkItem := []
  /-- Values of the dictionary in force when the carried items started (R84); none while the block carries nothing. -/
  kept : Option (Table Bytes) := none
  /-- Cell whose fabric request was granted last (R17). -/
  turn : Option Nat := none
  /-- TSC of the escalation that a requested idle answers (R24). -/
  escalatedAt : Nat := 0
  /-- Beats of the boundaries it overran, newest first (R87). -/
  overruns : List Nat := []
  /-- Occupancy reports (beat, 0.1 %) within the last 65,536 beats (R89). -/
  occupancy : List (Nat × Nat) := []
  /-- Cells contained in this beat, each with the TSC of its containment (R31). -/
  contained : List (Nat × Nat) := []
  /-- Cells that hold a pool or fabric grant to return at the next boundary (R32). -/
  grantsBack : List Nat := []
deriving DecidableEq, Repr

/-- An escalation waiting for its region (R24). -/
structure Escalation where
  time : Nat
  region : Nat
  block : Nat
deriving DecidableEq, Repr

/-- A transfer on its way through the arbiters of block, region and chip (R17). -/
structure FabricRequest where
  region : Nat
  block : Nat
  transfer : Transfer
deriving DecidableEq, Repr

/-- The arbiter of a region (R17): the block it served last, and how many grants in a row that block has had. -/
structure RegionTurn where
  block : Option Nat := none
  used : Nat := 0
deriving DecidableEq, Repr

/-- The hierarchy as a whole. -/
structure Hierarchy where
  /-- Blocks, key region·64 + block. -/
  blocks : Table Block := []
  /-- Escalations waiting (R24). -/
  queue : List Escalation := []
  /-- Region to block + 1 of the block being reset (R24). -/
  busy : Table Nat := []
  /-- A fatal alarm stands (R27). -/
  fatalAlarm : Bool := false
  /-- Outside outputs forced to their safe states until a full reset (R27). -/
  safeOutputs : Bool := false
  /-- DRAM rows waiting for post-package repair (R37), and the errors of each row so far. -/
  repairRows : List Nat := []
  rowErrors : Table Nat := []
  /-- State and withdrawn cells of each block at the latest beat boundary, as 1021-1025 and 1031-1035 read them (R33). -/
  shown : Table (BlockState × Nat) := []
  /-- Transfers asked for and not yet granted (R17). -/
  fabricWait : List FabricRequest := []
  /-- Transfers granted in this beat, each with its target's slot counted from the start of the beat, in the order of grants (R18, R19). -/
  fabricGrants : List (Nat × FabricRequest) := []
  /-- Arbiters of the regions, and per fabric target the region served last (R17). -/
  regionTurns : Table RegionTurn := []
  targetTurns : Table Nat := []
  /-- Codewords granted by the coding pool in this beat with the cells that took them, in grant order (R226, R227). -/
  grants : List (Nat × PoolItem) := []
  /-- Codewords not yet granted (R227). -/
  waiting : List PoolItem := []
deriving DecidableEq, Repr

/-! ## Configuration manager (R38-R69) -/

/-- An accepted dictionary request (R44, R46, R49). -/
structure Request where
  /-- Requester identity: 0-63 functions, 0x100-0x11F ring peers (R45). -/
  who : Nat
  /-- The role taken at acceptance (R44). -/
  role : Nat
  /-- MAC address of a ring peer. -/
  mac : Nat
  type : Nat
  txn : Nat
  staged : Bool
  epochCheck : Bool
  tagged : Bool
  expEpoch : Nat
  body : Bytes
deriving DecidableEq, Repr

/-- A mismatch record (R64). -/
structure Mismatch where
  kind : Nat := 0
  regions : Nat := 0
  id : Nat := 0
  epoch : Nat := 0
  first : Nat := 0
  last : Nat := 0
deriving DecidableEq, Repr

/-- A window record accepted and waiting for its beat boundary (R66). -/
structure WindowRecord where
  window : Nat
  pos : Nat
  data : Bytes
  writer : Nat
deriving DecidableEq, Repr

/-- A commit under validation and distribution (R54). -/
structure CommitInHand where
  req : Request
  /-- The named activation beat, 0 for next. -/
  named : Nat
  /-- The beat of acceptance. -/
  accepted : Nat
deriving DecidableEq, Repr

/-- A written wo entry that acts at the next beat boundary (R39): its key and value, and what verification found where the write
asks for one (R425). -/
structure PendingAction where
  key : Nat
  value : Bytes
  found : Option BankCheck
deriving DecidableEq, Repr

/-- The configuration manager. -/
structure Manager where
  /-- Requests of ring peers, oldest first, at most 32 (R50). -/
  ringQueue : List Request := []
  /-- Next source of the round robin, 0-63 mailboxes, 64 the ring queue (R50). -/
  turn : Nat := 0
  /-- Last SEQ accepted per peer slot (R48). -/
  lastSeq : Table Nat := []
  /-- The module's own SEQ per peer slot (R48). -/
  ownSeq : Table Nat := []
  /-- The address per peer slot and the key slot that the sequence numbers belong to (R48). -/
  seqPeers : Table Nat := []
  seqSlot : Nat := 0
  /-- Staged values (R53). -/
  staging : Table Bytes := []
  /-- 0 empty, 1 open, 2 commit scheduled (1400.03). -/
  stagingState : Nat := 0
  /-- Requester identity of the owner (1400.04). -/
  owner : Nat := 0xFFFF
  /-- Activation beat of the scheduled commit (1400.05). -/
  activation : Nat := 0
  commit : Option CommitInHand := none
  /-- Epoch (1400.07). -/
  epoch : Nat := 0
  /-- Accepted rwq writes and bundles of the beat: each increments the epoch at the next boundary (R41). -/
  bumps : Nat := 0
  /-- Committed values of blocks in RESET or IDLE_REQ, which enter their shadows at release (R30). -/
  deferred : Table Bytes := []
  /-- Beat at which the epoch was last incremented; none after a boot commit (R62). -/
  epochBeat : Option Nat := none
  /-- The epoch before the last increment (R62). -/
  prevEpoch : Nat := 0
  /-- Mismatch records, key 0-63 (R63). -/
  mismatches : Table Mismatch := []
  /-- Active digests of regions 1-5 as last computed (R60). -/
  digests : List Nat := []
  digestsValid : Bool := false
  /-- Staged digests of regions 1-5 (R60). -/
  stagedDigests : List Nat := []
  /-- Written wo entries that act at the next boundary, in order (R39). -/
  actions : List PendingAction := []
  /-- Window records that take effect at the next boundary (R66). -/
  records : List WindowRecord := []
  /-- TSC at which a DIGEST_ANNOUNCE was last sent. -/
  announced : Nat := 0
  /-- Higher maximum NSYM of a profile lowered by a commit, with the beat at which its changeover window ends (R209). -/
  oldNsym : Table (List (Nat × Nat)) := []
deriving DecidableEq, Repr

/-! ## Timebase and tether (R70-R102) -/

/-- Time states of R75. -/
inductive TimeState where
  | unset
  | set
  | ptp
  | pps
  | holdover
deriving DecidableEq, Repr

/-- Timebase and station time. -/
structure TimeBase where
  /-- Station-time offset (1200.04, R74). -/
  offset : Int := 0
  state : TimeState := .unset
  /-- A state change that takes place at the next boundary (R76). -/
  next : Option TimeState := none
  /-- A written station time that takes effect at the next boundary (R78). -/
  setTo : Option Nat := none
  /-- An offset step that takes place at the next boundary (R77). -/
  step : Option Int := none
  ref10 : Bool := false
  /-- Oscillator offset last measured, ppb (1200.0C). -/
  ppb : Int := 0
  ptpOk : Bool := false
  ppsOk : Bool := false
  /-- Edges counted toward qualification of PPS_IN (R79). -/
  ppsEdges : Nat := 0
  lastPps : Option Nat := none
  /-- Error of station time at the latest edge of PPS_IN that no correction has used (R79). -/
  ppsError : Option Int := none
  /-- TSC at which HOLDOVER was entered (R76). -/
  holdoverAt : Nat := 0
  /-- TSC of the last servo correction (R77). -/
  servoAt : Nat := 0
  /-- TSC until which PPS_OUT is high (R81). -/
  ppsOutUntil : Nat := 0
deriving DecidableEq, Repr

/-- Tether states of R93. -/
inductive TetherState where
  | search
  | acquire
  | locked
  | holdover
  | freerun
deriving DecidableEq, Repr

/-- One mains reference input (R90, R91). -/
structure ZxInput where
  qualified : Bool := false
  /-- Consecutive good crossings toward qualification. -/
  count : Nat := 0
  last : Option Nat := none
  /-- Last period in ns. -/
  period : Nat := 0
  /-- The last periods, newest first, at most 64. -/
  periods : List Nat := []
  misses : Nat := 0
  consistent : Bool := true
  /-- The latest predicted crossing was accepted (R92). -/
  accepted : Bool := false
  /-- Lags behind ZX_A in 0.001 degree, newest first, at most 64 (R91). -/
  lags : List Nat := []
  /-- Lags of ZX_C behind ZX_B while ZX_A is not qualified (R91). -/
  lagsB : List Nat := []
deriving DecidableEq, Repr

/-- The slot sample published at a boundary (R97). -/
structure SlotSample where
  slot : Nat := 0
  next1 : Nat := 0
  next2 : Nat := 0
  length : Nat := 0
  cycle : Nat := 0
  valid : Bool := false
deriving DecidableEq, Repr

/-- The tether (R92-R99). -/
structure Tether where
  state : TetherState := .search
  /-- 0 none, 1-3 ZX_A-ZX_C (1210.02). -/
  ref : Nat := 0
  /-- The reference was lost and its successor's crossing is awaited (R92). -/
  between : Bool := false
  valid : Bool := false
  /-- TSC from which slot valid has been 1. -/
  validAt : Nat := 0
  /-- Consecutive cycles below 2 degrees (R93). -/
  good : Nat := 0
  /-- Phase error at the latest reference crossing, 0.001 degree (1210.0C). -/
  phase : Int := 0
  /-- Cycle period in ns in use. -/
  period : Nat := 20000000
  /-- TSC at which slot 0 last began. -/
  slotZero : Nat := 0
  /-- Current slot (1210.0D) and TSC of its start. -/
  slot : Nat := 0
  slotAt : Nat := 0
  cycle : Nat := 0
  /-- Slot starts since D02 was powered (24 per cycle): the clock of the slot-counted timers. -/
  slotCount : Nat := 0
  /-- TSC at which the holdover timer started (R93). -/
  holdAt : Nat := 0
  /-- Holdover time already used when it was interrupted, ns. -/
  holdUsed : Nat := 0
  /-- Phase still to be slewed, 0.001 degree. -/
  slew : Int := 0
  /-- Slot valid has been 1 throughout the mains cycle in progress (R197). -/
  cycleValid : Bool := false
  /-- A commit's renumbering waits for a reference crossing (R95): old ZX_A lag of the reference in slots. -/
  renumber : Option Nat := none
  /-- A commit has changed the enable mask, and no reference crossing has followed (R95). -/
  maskChanged : Bool := false
  /-- Mean period of the last 64 cycles of the reference at its latest loss (R93, R99). -/
  mean : Nat := 0
  inputs : Table ZxInput := []
  sample : SlotSample := {}
deriving DecidableEq, Repr

/-! ## Event log (R100, R101, R449) -/

/-- A record on its way to the log. -/
structure LogRecord where
  time : Nat
  source : Nat
  code : Nat
  severity : Nat
  flags : Nat
  issue : Nat
  data : Bytes
deriving DecidableEq, Repr

/-- The event log. -/
structure EventLog where
  /-- Detected and not yet delivered, oldest first. -/
  detected : List EventIn := []
  /-- The reorder stage of 2 beats, in log order (R101). -/
  stage : List LogRecord := []
  /-- Records by position (R449). -/
  records : Table LogRecord := []
  next : Nat := 0
  written : Nat := 0
  /-- Count of writes, wrapping at 16 bits (ISSUE). -/
  issue : Nat := 0
  restart : Nat := 0
deriving DecidableEq, Repr

/-! ## Ports (R103-R128, R474) -/

/-- Port states of R116. -/
inductive PortState where
  | off
  | starting
  | running
  | stopping
  | stopped
  | fault
  | swapping
deriving DecidableEq, Repr

/-- Where a port in STARTING or SWAPPING stands (R116, R123). -/
inductive PortStep where
  | bias
  | loopback
  | relays
  | training
  | drain
  | opening
  | matrix
deriving DecidableEq, Repr

/-- One relay or matrix contact: commanded, sensed, beat of the last command. -/
structure Relay where
  command : Bool := false
  sense : Bool := false
  beat : Nat := 0
deriving DecidableEq, Repr

/-- A port. -/
structure Port where
  state : PortState := .off
  step : PortStep := .bias
  /-- Beat at which the step was entered. -/
  stepBeat : Nat := 0
  /-- Beat at which the state was entered. -/
  stateBeat : Nat := 0
  cause : Nat := 0
  /-- The fault cause still stands (R118). -/
  causeActive : Bool := false
  flags : Nat := 0
  /-- AFE in use less p where it is the port's own: 0 own, else 36 or 37 (2001.04). -/
  ballastAfe : Nat := 0
  relayNb : Relay := {}
  relayBb : Relay := {}
  matrix : Relay := {}
  /-- TSC from which the DAC of a band is muted; none while it drives (R107). -/
  mutedNb : Option Nat := some 0
  mutedBb : Option Nat := some 0
  /-- Bands whose relays wait to be opened at the first boundary that R107 allows (R122). -/
  opening : List Band := []
  bias : Bool := false
  /-- The driver runs (SHDN low). -/
  driver : Bool := false
  retries : Nat := 3
  /-- Foldback steps in force (R110). -/
  foldback : Nat := 0
  /-- Beat from which the temperature has stood at or above 125 °C, and the boundary at which the next step is due. -/
  hotBeat : Option Nat := none
  foldBeat : Nat := 0
  /-- Beat from which the temperature has stayed at or below 120 °C; the last restored step. -/
  coolBeat : Option Nat := none
  /-- Driver temperature in 0.001 °C. -/
  temp : Int := 0
  /-- Mean powers of the last 25 beats, newest first, mW (R108). -/
  powers : List Nat := []
  /-- Transmit gain scale in units of 10^-12; 10^12 when not scaling (R108), and the beat of the last change. -/
  scale : Nat := 1000000000000
  scaleBeat : Nat := 0
  gain : Nat := 0
  gainNext : Option Nat := none
  quietBeats : Nat := 0
  clampRun : Nat := 0
  /-- Beat in which the current limit last acted, and the beats in which it acted, newest first (R109, R192). -/
  limitBeat : Option Nat := none
  limits : List Nat := []
  /-- Bands brought into service on the running port (R474). -/
  adding : List Band := []
  /-- Beat of the last fault-free start of RUNNING (R119). -/
  runBeat : Nat := 0
  /-- The AFE a running substitution moves to: 0 own, 36, 37 (R123). -/
  swapTo : Nat := 0
  /-- A fault that waits for the matrix to complete its make (R117); 0 none. -/
  faultNext : Nat := 0
  /-- Enable as last acted on. -/
  enabled : Bool := false
  /-- Beat from which the impedance interval of each band runs (R113). -/
  impedanceNb : Nat := 0
  impedanceBb : Nat := 0
  /-- A substitution's matrix waits until R107 allows it to move. -/
  matrixDue : Bool := false
  /-- The serving AFE has changed since the last loopback calibration (R123 step 4). -/
  calibrate : Bool := false
  /-- The AFE, as `ballastAfe` names it, whose factory values the effective values were computed from (R124). -/
  calAfe : Nat := 0
deriving DecidableEq, Repr

/-- Echo-canceller states of R183. -/
inductive EchoState where
  | off
  | training
  | tracking
  | reacquire
  | resolve
  | lost
deriving DecidableEq, Repr

/-- One band's echo canceller (R178-R185). -/
structure Echo where
  state : EchoState := .off
  /-- Beat at which the state was entered. -/
  beat : Nat := 0
  /-- Latest suppression S in 0.1 dB. -/
  supp : Int := 0
  /-- A hold is in force (R184). -/
  hold : Bool := false
  /-- TSC at which the hold began. -/
  holdAt : Nat := 0
  /-- Hold timer and hold total in ns of transmission (R183). -/
  timer : Nat := 0
  total : Nat := 0
  /-- TSC of the last measurement. -/
  measured : Nat := 0
  /-- Handovers of the analogue model so far (R180). -/
  model : Nat := 0
  /-- Beat of the last refresh or re-solve. -/
  modelBeat : Nat := 0
  /-- The analogue model's taps at 200 MS/s, in units of 2^-60 (R178), and those that the next beat boundary puts in their place (R180). -/
  taps : List Int := []
  nextTaps : Option (List Int) := none
  /-- Holds that have ended, from and to, of the last 128 ms (R184). -/
  holds : List (Nat × Nat) := []
  /-- TSC from which every measurement has reached the release level (R183). -/
  clearAt : Option Nat := none
deriving DecidableEq, Repr

/-! ## Lanes: transmission (R129-R156), reception (R157-R202), schedule (R235-R266) -/

/-- A frame the lane transmits. -/
inductive FrameKind where
  | beacon
  | ack
  | data
  | broadcast
  | relay
  | grant
  | mesh
deriving DecidableEq, Repr

/-- One version of a direction's tone maps: up to four sets, a slot key, the fallback set, the bytes (R135, R139, R142). -/
structure ToneMaps where
  sets : Nat := 0
  key : Nat := 0
  fallback : Nat := 0
  maps : List Bytes := []
deriving DecidableEq, Repr

/-- A frame on the line or formed behind it (R238, R243). -/
structure TxFrame where
  kind : FrameKind
  mac : MacFrame
  cls : Nat
  prof : Nat
  nsym : Nat
  tms : Nat
  sk : Bool
  /-- Spool position of a DATA frame. -/
  spool : Nat
  /-- Packet handle and byte offset of the fragment. -/
  handle : Nat
  offset : Nat
  /-- Retransmissions so far. -/
  tries : Nat
  /-- Route-store position the frame was formed under (R275). -/
  route : Nat
  start : Nat
  /-- Tone maps of the frame, the set of each payload symbol, the highest modulation and the coded bits it was formed with (R140-R142, R211). -/
  maps : ToneMaps := {}
  sets : List Nat := []
  maxMod : Nat := 0
  coded : Nat := 0
deriving DecidableEq, Repr

/-- A frame in a relay queue (R292). -/
structure RelayItem where
  mac : MacFrame
  cls : Nat
  prof : Nat
  link : Nat
  beat : Nat
deriving DecidableEq, Repr

/-- A spool's place in an active list with its visit flag (R250, R251). -/
structure Place where
  spool : Nat
  visited : Bool
deriving DecidableEq, Repr

/-- A lane's transmit side. -/
structure LaneTx where
  /-- Beat at which a restart's mute ends (R131). -/
  restart : Option Nat := none
  onLine : Option TxFrame := none
  /-- Active lists of classes 0-3, current spool first (R250). -/
  lists : Table (List Place) := []
  /-- Class deficits of classes 1-3 (R251). -/
  cdef1 : Int := 0
  cdef2 : Int := 0
  cdef3 : Int := 0
  cursor : Nat := 1
  relays : List RelayItem := []
  /-- Outstanding grant: endpoint, symbols, TSC by which its preamble must end (R239). -/
  grant : Option (Nat × Nat × Nat) := none
  /-- The last grant whose frame has ended: endpoint and the TSC by which its preamble had to end. -/
  granted : Option (Nat × Nat) := none
  /-- A beacon is due (R245), and the cycle of the last one. -/
  beaconDue : Bool := false
  beaconCycle : Option Nat := none
  /-- Spools whose stand-alone ACK is due (R255). -/
  acks : List Nat := []
  /-- Mesh frames to send: DST and frame (R282, R287, R294). -/
  mesh : List MacFrame := []
  /-- Broadcasts waiting, by number (R264). -/
  bcast : List Nat := []
  /-- Group clips in 0.5 dB, key group (R150). -/
  clips : Table Nat := []
  /-- Muted groups (R151). -/
  mutedGroups : List Nat := []
  /-- Beat since which no carrier of the group came within 1 dB, key group (R151). -/
  quiet : Table Nat := []
  /-- Beat of the boundary that ended the lane's last integration (R149). -/
  integrated : Nat := 0
  /-- Slot validity fell during the frame on line: it keeps the set of its current symbol (R141). -/
  frozenSet : Bool := false
deriving DecidableEq, Repr

/-- Receive settings of 2010.10-2010.14 as they apply to a symbol (R200). -/
structure RxSettings where
  threshold : Nat := 0
  guard : Nat := 0
  fraction : Nat := 0
  step : Int := 0
  averaging : Nat := 0
deriving DecidableEq, Repr

/-- What a receive path keeps from symbol to symbol of a frame (R186-R191). -/
structure RxTrack where
  /-- Number of the next symbol after the preamble, and the settings that apply to it. -/
  next : Nat := 0
  use : RxSettings := {}
  /-- Blanking reference: mean square of samples in units of 2^-16 (R186). -/
  ref : Nat := 0
  /-- Channel estimates averaged, newest first (R190). -/
  estimates : List (List (Int × Int)) := []
  /-- The last symbol had b > 1/2 (R189); blanking is suspended. -/
  half : Bool := false
  suspended : Bool := false
  /-- D of the last symbol came within 3 dB of the threshold (R191). -/
  near : Bool := false
  lastErased : Bool := false
  lastMarked : Bool := false
  /-- The last symbol was marked for the current limit (R192). -/
  lastLimited : Bool := false
deriving DecidableEq, Repr

/-- A symbol kept for the header check or the coding pool: number, tone-map set (R219), erased or marked, weighted soft values (R184, R188). -/
structure SoftSymbol where
  number : Nat
  set : Nat
  bad : Bool
  soft : List Int
deriving DecidableEq, Repr

/-- A frame the receive path knows (R165-R172). -/
structure RxCur where
  num : Nat
  l : Nat
  bin : Nat
  afc : Int
  /-- TSC of the preamble's end and of the detection. -/
  preambleEnd : Nat
  detected : Nat
  headerOk : Bool
  head : Header
  partner : Nat
  partnerL : Nat
  outcome : Nat
  /-- TSC of the last symbol received, once it has been. -/
  ended : Option Nat
  displaced : Bool
  pending : Bool
  /-- Disturbance tallies of R194. -/
  erased : Nat
  marked : Nat
  blanked : Nat
  steps : Nat
  clip : Bool
  echo : Bool
  susp : Bool
  /-- Of its preamble: mean square of the samples, channel estimate (R186, R190). -/
  meanSquare : Nat := 0
  estimate : List (Int × Int) := []
  track : RxTrack := {}
  symbols : List SoftSymbol := []
  /-- TSC at which it was displaced, and the span whose symbols are erasures after it resumed (R167). -/
  displacedAt : Nat := 0
  lost : Option (Nat × Nat) := none
  /-- Payload symbol from which its link's SNR history counts after a step (R191). -/
  stepAt : Nat := 0
  /-- Tone maps and iteration limit in force at its header (R219, R223). -/
  maps : ToneMaps := {}
  limit : Nat := 0
deriving DecidableEq, Repr

/-- A pair on the replay path (R169-R171). Phases: 0 waiting for the decode that decides (the stronger frame's, in reverse the
current frame's), 1 ready to start, 2 in the first pass (the weaker frame, in reverse the stronger), 3 in the second pass
of a reverse recovery. -/
structure ReplayPair where
  strong : RxCur
  weak : RxCur
  phase : Nat
  /-- R171: the pair decodes the candidate first and then the current frame again. -/
  reverse : Bool
deriving DecidableEq, Repr

/-- Main receive path states of R173. -/
inductive RxState where
  | off
  | search
  | header
  | payload
  | rearm
deriving DecidableEq, Repr

/-- A lane's receive side. -/
structure LaneRx where
  state : RxState := .off
  cur : Option RxCur := none
  slot : Option RxCur := none
  /-- Pairs waiting for or in replay, oldest first (R170). -/
  pairs : List ReplayPair := []
  /-- Frames whose payload is in the coding pool. -/
  decoding : List RxCur := []
  /-- Next frame number (R172). -/
  number : Nat := 0
  /-- TSC at which the reel began to record (R173). -/
  reelAt : Nat := 0
  /-- TSC of the end of the failed header (R163). -/
  rearmAt : Nat := 0
  /-- TSC from which the path has been in SEARCH, and the end of the last noise-floor window (R195). -/
  searchAt : Nat := 0
  floorEnd : Nat := 0
  /-- Noise-floor accumulators, key slot·256 + group: sum of powers, count (R196). -/
  floor : Table (Nat × Nat) := []
  /-- Valid cycles accumulated (2018.1A). -/
  cycles : Nat := 0
  /-- Impulse counts per slot of the running period (R195). -/
  impulses : Table Nat := []
deriving DecidableEq, Repr

/-- A lane's digital echo canceller (R179), in units of 2^-60: a coefficient for each carrier of its range, and the taps of the residual filter. -/
structure LaneEcho where
  coefs : List (Int × Int) := []
  taps : List (Int × Int) := []
deriving DecidableEq, Repr

/-- One lane. -/
structure Lane where
  tx : LaneTx := {}
  rx : LaneRx := {}
  echo : LaneEcho := {}
deriving DecidableEq, Repr

/-! ## Spools and host rings (R247-R269) -/

/-- Spool states of R249. -/
inductive SpoolState where
  | empty
  | ready
  | waiting
  | disabled
  | unrouted
deriving DecidableEq, Repr

/-- What a spool sends next of a packet (R253, R256): packet handle, byte offset, fragment number, retransmissions; for a fragment
already sent or cut its sequence number and its bytes, 0 for the rest of the packet, and whether it is the last. -/
structure QueueItem where
  handle : Nat
  offset : Nat
  frag : Nat
  seq : Option Nat
  tries : Nat
  size : Nat
  last : Bool
deriving DecidableEq, Repr

/-- A frame sent and not acknowledged (R253). -/
structure InFlight where
  seq : Nat
  item : QueueItem
  /-- Slot count at the frame's end; none while it is on the line. -/
  ended : Option Nat
  route : Nat
deriving DecidableEq, Repr

/-- A received fragment held for order (R254). -/
structure HeldFrame where
  seq : Nat
  rx : RxFrame
deriving DecidableEq, Repr

/-- A spool descriptor (R248) with the queues its handles chain. -/
structure Spool where
  queue : List QueueItem := []
  ackDue : Bool := false
  deficit : Nat := 0
  greq : Nat := 0
  txSeq : Nat := 0
  rxBase : Nat := 0
  flight : List InFlight := []
  state : SpoolState := .empty
  /-- Receive side: held frames and the fragments of the packet in assembly. -/
  heldRx : List HeldFrame := []
  parts : List HeldFrame := []
  /-- Slot count from which an acknowledgement is owed (R255). -/
  ackAt : Nat := 0
  /-- TSC since which it is UNROUTED (R249). -/
  unroutedAt : Nat := 0
deriving DecidableEq, Repr

/-- A packet in a DRAM packet buffer (R247). -/
structure Packet where
  dst : Nat
  cls : Nat
  body : Bytes
  tag : Nat
  /-- Submitting function; none where its host was reset (R410). -/
  owner : Option Nat
  retries : Nat
  /-- Bytes acknowledged so far. -/
  released : Nat
deriving DecidableEq, Repr

/-- A broadcast in progress (R264). -/
structure Broadcast where
  owner : Nat
  tag : Nat
  cls : Nat
  body : Bytes
  /-- Lanes still to send, as 4·p + l. -/
  todo : List Nat
  /-- Lanes that cut the frame once. -/
  cutOnce : List Nat
  ok : Nat
  failed : Nat
  ports : Nat
deriving DecidableEq, Repr

/-- The spool store. -/
structure Spools where
  /-- Key endpoint·4 + class (R247). -/
  table : Table Spool := []
  packets : Table Packet := []
  /-- Handle the next packet takes (R247). -/
  nextHandle : Nat := 1
  broadcasts : Table Broadcast := []
  nextBroadcast : Nat := 0
deriving DecidableEq, Repr

/-- One ring of a function page (R258). -/
structure HostRing where
  base : Nat := 0
  enable : Bool := false
  log2 : Nat := 4
  vector : Nat := 0
  irqEn : Bool := false
  prod : Nat := 0
  cons : Nat := 0
  badDesc : Bool := false
  stalled : Bool := false
deriving DecidableEq, Repr

/-- A cipher context (R334). -/
structure CipherCtx where
  opened : Bool := false
  running : Bool := false
  op : Nat := 0
  slot : Nat := 0
  generation : Nat := 0
  /-- Bytes taken so far, and the additional data of the FIRST part. -/
  input : Bytes := []
  aad : Bytes := []
  iv : Bytes := []
deriving DecidableEq, Repr

/-- A check context (R354-R356, R359). -/
structure CheckCtx where
  opened : Bool := false
  running : Bool := false
  ignored : Bool := false
  poly : Nat := 0
  /-- Running value as the algorithm holds it (R348). -/
  value : Nat := 0
  bytes : Nat := 0
deriving DecidableEq, Repr

/-- A received packet on its way to RXQ (R261, R265). -/
structure RxPacket where
  body : Bytes
  rx : RxFrame
  beat : Nat
deriving DecidableEq, Repr

/-- One function's page. -/
structure Page where
  /-- MBX_CTRL, MBX_STATUS, MBX_REQ_LEN, MBX_RSP_LEN (R51). -/
  vector : Nat := 0
  irqEn : Bool := false
  busy : Bool := false
  done : Bool := false
  overlap : Bool := false
  reqLen : Nat := 0
  rspLen : Nat := 0
  /-- Request buffer, key byte offset. -/
  reqBuf : Table Byte := []
  rspBuf : Bytes := []
  /-- The accepted request (R44, R52). -/
  req : Option Request := none
  /-- The function was reset while BUSY: the response is discarded (R52). -/
  discard : Bool := false
  /-- Rings 0 TXQ, 1 TXC, 2 RXF, 3 RXQ, 4 JOBQ, 5 DONEQ, 6 CHKQ, 7 CHKDQ. -/
  rings : Table HostRing := []
  /-- TXQ descriptors posted and not yet fetched, and fetched ones that wait for admission (R262). -/
  txPosted : List TxDesc := []
  txWait : List TxDesc := []
  rxBufs : List RxBuffer := []
  rxWait : List RxPacket := []
  /-- Cipher page (R340). -/
  ciphEnable : Bool := false
  onFail : Bool := false
  keyData : Table Byte := []
  keyBusy : Bool := false
  keyDone : Bool := false
  keyOverlap : Bool := false
  keyResult : Nat := 0
  ctxs : Table CipherCtx := []
  /-- Check page (R359). -/
  chkEnable : Bool := false
  misIrqEn : Bool := false
  misVector : Nat := 0
  mismatch : Bool := false
  misCount : Nat := 0
  checks : Table CheckCtx := []
  /-- Event mailbox (R451). -/
  evtEnable : Bool := false
  minSev : Nat := 3
  evtVector : Nat := 0
  evtIrqEn : Bool := false
  evtOverflow : Bool := false
  evtLost : Nat := 0
  evtFifo : List LogRecord := []
deriving DecidableEq, Repr

/-! ## Routes and links (R270-R296) -/

/-- A route entry (R273). -/
structure RouteEntry where
  valid : Bool := false
  pinned : Bool := false
  next : Nat := 0
  port : Nat := 0
  lane : Nat := 0
  prof : Nat := 0
  link : Nat := 0x3FFFF
  metric : Nat := 0xFFFF
  /-- TSC of the last confirmation; AGE is the whole seconds since (R276). -/
  confirmed : Nat := 0
  hops : Nat := 0
  writer : Nat := 0x1FF
  fails : Nat := 0
  sel : Bool := false
deriving DecidableEq, Repr

/-- Link states of R281. -/
inductive LinkState where
  | free
  | mapped
  | robust
  | stale
deriving DecidableEq, Repr

/-- A link record (R281) with its tone-map block (R280). -/
structure Link where
  state : LinkState := .free
  port : Nat := 0
  lane : Nat := 0
  offset : Nat := 0
  peer : Nat := 0
  versionDn : Nat := 0
  versionUp : Nat := 0
  dn : ToneMaps := {}
  up : ToneMaps := {}
  pending : Bool := false
  acked : Bool := false
  pendingDn : ToneMaps := {}
  pendingUp : ToneMaps := {}
  actCycle : Nat := 0
  heap : Nat := 0
  heapSize : Nat := 0
  cost : Nat := 0
  prof : Nat := 0
  lastRx : Nat := 0
  writer : Nat := 0x1FF
  planned : Nat := 0
  /-- Reported downstream SNR bytes, key module slot·256 + group, and upstream values (R198, R282). -/
  snrDn : Table Nat := []
  snrUp : Table Nat := []
  /-- New reports since the last planning (R145). -/
  fresh : Bool := false
  /-- Sequence number of the TMAP frame awaiting acknowledgement. -/
  tmapSeq : Option Nat := none
deriving DecidableEq, Repr

/-- What is kept of a node (R271, R294). -/
structure Node where
  eui : Nat := 0
  joined : Bool := false
  reportAt : Option Nat := none
  reportEpoch : Nat := 0
  /-- Latest NEIGHBOURS report: endpoint and cost (R287). -/
  neighbours : List (Nat × Nat) := []
  /-- A G.9903 node (R272). -/
  g9903 : Bool := false
deriving DecidableEq, Repr

/-- A repair in progress (R287). -/
structure Repair where
  endpoint : Nat
  attempt : Nat
  probe : Nat
  sentAt : Nat
  started : Nat
  waiting : Bool
deriving DecidableEq, Repr

/-- A firmware update of a route entry, which takes effect at the next boundary (R277, R279). -/
structure RouteUpdate where
  pos : Nat
  entry : RouteEntry
  /-- The update creates the entry. -/
  created : Bool
deriving DecidableEq, Repr

/-- Route store, link store and repair. -/
structure Routes where
  /-- Key endpoint·8 + k (R273). -/
  entries : Table RouteEntry := []
  links : Table Link := []
  nodes : Table Node := []
  repairs : List Repair := []
  nextProbe : Nat := 0
  /-- Probes started in the running beacon period (R288). -/
  probes : Nat := 0
  /-- Endpoints whose selection is to be evaluated at the next boundary (R275). -/
  changed : List Nat := []
  /-- Firmware updates that take effect at the next boundary (R279). -/
  updates : List RouteUpdate := []
  /-- Entries changed since the last boundary as they stood at it, which is how the window reads them (R279). -/
  before : Table RouteEntry := []
  /-- Endpoints whose last repair failed (R287). -/
  failed : List Nat := []
deriving DecidableEq, Repr

/-! ## Command channel and trip matrix (R297-R319) -/

/-- Kinds of command frame (R300). -/
inductive CommandKind where
  | change
  | repeated
  | heartbeat
deriving DecidableEq, Repr

/-- The command frame on the line (R300, R301). -/
structure CommandFrame where
  link : Nat
  kind : CommandKind
  cnt : Nat
  states : Nat
  start : Nat
  /-- The tag its body carries (R298). -/
  tag : Nat := 0
deriving DecidableEq, Repr

/-- A change frame that is due: change time and link (R301). -/
structure DueChange where
  time : Nat
  link : Nat
deriving DecidableEq, Repr

/-- One command link in both directions (R299-R309). -/
structure CommandLink where
  sendStatus : Nat := 0
  recvStatus : Nat := 0
  lastSent : Nat := 0
  everSent : Bool := false
  lastAccepted : Nat := 0
  /-- TSC at which the last frame started on the link. -/
  startAt : Nat := 0
  repeats : Nat := 0
  /-- TSC from which the supervision time runs (R307). -/
  superviseAt : Nat := 0
  /-- Accepted states, bit c (R306). -/
  accepted : Nat := 0
  /-- States of the last frame started on the link, and whether the link has been READY since it was last UNUSED or reset. -/
  announced : Nat := 0
  known : Bool := false
  /-- A frame has been accepted within the supervision time (R307). -/
  up : Bool := false
  /-- The counter has run out until a rekey (R303, R309), and the next frame waits for the next second (R299). -/
  spent : Bool := false
  limited : Bool := false
  /-- Counter values whose tags the store holds, oldest first, each with the key it was refreshed under (R302, R309). -/
  tags : List (Nat × Bytes) := []
  /-- Seconds whose hypotheses the command cell holds, each with the key they were computed under (R304, R309). -/
  seconds : List (Nat × Bytes) := []
  /-- Old key slot, epoch and last accepted counter during a changeover, with its end beat (R308). -/
  old : Option (Nat × Nat × Nat × Nat) := none
  warned : Bool := false
deriving DecidableEq, Repr

/-- The command cell of a port. -/
structure CommandCell where
  links : Table CommandLink := []
  frame : Option CommandFrame := none
  due : List DueChange := []
  /-- Driven states of the port's commands (3470.21). -/
  driven : Nat := 0
deriving DecidableEq, Repr

/-- One trip output (R315). -/
structure TripOutput where
  on : Bool := false
  /-- TSC of the last turn-on. -/
  since : Nat := 0
deriving DecidableEq, Repr

/-- Trip matrix and binary inputs. -/
structure Trip where
  outputs : Table TripOutput := []
  /-- Raw levels, time since which each holds, filtered states, and whether each has settled (R406). -/
  biRaw : Nat := 0
  biSince : Table Nat := []
  biState : Nat := 0
  biSettled : Nat := 0
  /-- TSC of the block's release, from which a level is held at the earliest (R406). -/
  releasedAt : Nat := 0
deriving DecidableEq, Repr

/-! ## Cipher engine, key store and check units (R320-R361) -/

/-- Slot states of R324. -/
inductive SlotState where
  | empty
  | ready
  | locked
deriving DecidableEq, Repr

/-- A key slot (R324). -/
structure KeySlot where
  state : SlotState := .empty
  /-- 0 none, 1 AES-128, 2 AES-192, 3 AES-256. -/
  type : Nat := 0
  key : Bytes := []
  shadow : Bytes := []
  generation : Nat := 0
  counter : Nat := 0
  loaded : Nat := 0
deriving DecidableEq, Repr

/-- A job in the engine (R337, R338). -/
structure CipherJob where
  page : Nat
  desc : CipherDesc
  onFail : Bool
  fetched : Nat
  started : Bool
  /-- Latched key and generation (R328). -/
  key : Bytes
  generation : Nat
  invoc : Option Nat
  iv : Bytes
  /-- Guard mode at the start (R323). -/
  mode : Nat
  segments : Nat
  /-- Segments granted, and finished of them (R337). -/
  granted : Nat
  finished : Nat
  units : Nat
  /-- Segments below this one were carried over the last boundary (R85, R86). -/
  due : Nat := 0
  /-- Cells of the units that work on its segments in this beat, and that one of them was withdrawn with segments open (R20, R32). -/
  cells : List Nat := []
  lost : Bool := false
  /-- An internal job that engine firmware has resubmitted (R321). -/
  again : Bool := false
  /-- Refusal found at the fetch, posted at the part's turn in its context (R342, R345). -/
  refused : Option Nat
deriving DecidableEq, Repr

/-- A key command accepted (R326, R340): page, word written to KEY_CMD, KEY_DATA and on-fail policy at GO. -/
structure KeyCommand where
  page : Nat
  word : Nat
  data : Bytes
  onFail : Bool
deriving DecidableEq, Repr

/-- Cipher engine and key store. -/
structure Cipher where
  slots : Table KeySlot := []
  /-- Slot 255 blocked by the ripcord until a full reset (R329). -/
  blocked255 : Bool := false
  jobs : Table CipherJob := []
  nextJob : Nat := 0
  /-- Cores out of service for a known-answer test (R321). -/
  testing : List Nat := []
  /-- Cores that leave service at the next boundary after a mismatch, and tested ones that return at it (R321). -/
  leaving : List Nat := []
  passed : List Nat := []
  /-- Internal jobs that ended in FAULT, which engine firmware resubmits at the next boundary (R321). -/
  resubmit : List CipherDesc := []
  /-- TSC of guard mismatches within the last second (R322). -/
  mismatches : List Nat := []
  /-- Page whose ERASE has not completed (R329), and key commands waiting behind it (R326). -/
  erasing : Option Nat := none
  waiting : List KeyCommand := []
deriving DecidableEq, Repr

/-- A queued or running check part (R355). -/
structure CheckPart where
  page : Nat
  desc : CheckDesc
  fetched : Nat
  dispatched : Bool
  /-- Running value latched at dispatch, and the context before it (R355). -/
  value : Nat
  prior : CheckCtx
  segments : Nat
  granted : Nat
  /-- Unit it runs on, segments granted to it at its last grant, whether they were carried, and that its unit was withdrawn (R20, R85, R355). -/
  unit : Nat := 0
  last : Nat := 0
  carried : Bool := false
  lost : Bool := false
  /-- Refusal found at the fetch, posted at the part's turn in its context. -/
  refused : Option Nat
deriving DecidableEq, Repr

/-! ## Station ring (R362-R384) -/

/-- Link states of R365. -/
inductive RingLink where
  | off
  | training
  | up
  | down
  | conflict
deriving DecidableEq, Repr

/-- Ring states of R379. -/
inductive RingState where
  | bypassed
  | waitSteady
  | inserting
  | inserted
  | extracting
  | failed
deriving DecidableEq, Repr

/-- A frame queued on or leaving a ring port. -/
structure RingTx where
  frame : RingFrame
  /-- Arrived on the other port (transit) or originated here. -/
  transit : Bool
  cutThrough : Bool
  queued : Nat
  /-- TSC at which it was started on the line. -/
  started : Nat := 0
deriving DecidableEq, Repr

/-- One ring port. -/
structure RingPort where
  link : RingLink := .off
  sending : Option RingTx := none
  transit : List RingTx := []
  localq : List RingTx := []
  conflictAt : Nat := 0
  /-- A PTP Sync waiting for its Follow_Up: sequence and residence time (R373). -/
  residence : Option (Nat × Nat) := none
  /-- stepsRemoved of the best master's Announce on this port (R374). -/
  steps : Option Nat := none
  syncAt : Nat := 0
  /-- TSC at which the last Pdelay_Req left, and of its answer: sequence, TSC of the request at the partner, TSC of arrival (R373). -/
  pdelayAt : Nat := 0
  response : Option (Nat × Nat × Nat) := none
deriving DecidableEq, Repr

/-- The ring as a whole. -/
structure Ring where
  state : RingState := .bypassed
  /-- Extraction has bypassed the ring until a full reset (R379). -/
  stays : Bool := false
  east : RingPort := {}
  west : RingPort := {}
  /-- nRING_INS driven low. -/
  inserted : Bool := false
  ke : Bool := false
  kw : Bool := false
  /-- TSC of the last change of nRING_INS. -/
  commandAt : Nat := 0
  steadyAt : Nat := 0
  steady : Bool := false
  /-- Beat of the agreed insertion (R380). -/
  insertBeat : Option Nat := none
  insertingAt : Nat := 0
  attempts : Nat := 0
  /-- A failed attempt's interval runs from this TSC. -/
  intervalAt : Option Nat := none
  bothDownAt : Option Nat := none
  /-- Duplicate table: source, sequence, TSC, newest first (R370). -/
  duplicates : List (Nat × Nat × Nat) := []
  sequence : Nat := 0
  /-- TSC at which supervision frames were last sent (R370). -/
  supervisedAt : Nat := 0
  /-- PTP port in use, 0 none (3820.03). -/
  ptpPort : Nat := 0
  ptpSequence : Nat := 0
  /-- Ballast pair use (3800.16). -/
  ballast : Nat := 0
deriving DecidableEq, Repr

/-! ## Sensing (R385-R407) -/

/-- A measurement channel (R386-R399). -/
structure Channel where
  /-- TSC of the latest restart and settling time after it (ns), T_c apart (R398). -/
  restartAt : Nat := 0
  settle : Nat := 0
  enabled : Bool := false
  /-- Broken pins, and consecutive bad and good decisions (R399). -/
  broken : Bool := false
  bad : Nat := 0
  good : Nat := 0
  pins : Nat := 0
deriving DecidableEq, Repr

/-- An excitation generator (R393): 0 off, 1 ramping, 2 running, 3 FAULT. -/
structure Generator where
  state : Nat := 0
  /-- TSC of the ramp's start or of the fault. -/
  at_ : Nat := 0
deriving DecidableEq, Repr

/-- A threshold switch (R400-R403). -/
structure Switch where
  on : Bool := false
  inFail : Bool := false
  /-- No VALID fast value since release or since a change of source. -/
  fresh : Bool := true
  enabled : Bool := false
deriving DecidableEq, Repr

/-- An analogue output (R404, R405). -/
structure AnalogOut where
  connected : Bool := false
  atLimit : Bool := false
  failing : Bool := false
  fraction : Nat := 0
  /-- Code of its DAC (R404). -/
  code : Nat := 0
deriving DecidableEq, Repr

/-- The sensing front end. -/
structure Sensing where
  channels : Table Channel := []
  generators : Table Generator := []
  switches : Table Switch := []
  outputs : Table AnalogOut := []
  clampFlags : Nat := 0
  /-- VREF_AO in mV (R404). -/
  vref : Nat := 0
deriving DecidableEq, Repr

/-! ## Reset, boot and hot plug (R408-R431, R473) -/

/-- Domain states of R434. -/
inductive DomainState where
  | off
  | ramping
  | clockWait
  | reset
  | on
  | isolated
  | fault
deriving DecidableEq, Repr

/-- One power domain. -/
structure Domain where
  state : DomainState := .off
  /-- TSC at which power became good, or the clock was lost. -/
  since : Nat := 0
  /-- Ageing offset in mV (6000.07). -/
  offset : Nat := 0
  /-- Offset planned by supervision (R438). -/
  target : Nat := 0
deriving DecidableEq, Repr

/-- A configuration image in flash (R421, R422). -/
structure ConfigImage where
  release : Nat := 0
  epoch : Nat := 0
  signer : Nat := 0
  values : List (Nat × Bytes) := []
deriving DecidableEq, Repr

/-- One flash bank (R421-R425). -/
structure Bank where
  fwPresent : Bool := false
  fwRelease : Nat := 0
  fwValid : Bool := false
  config : Option ConfigImage := none
  cfgValid : Bool := false
  disagree : Bool := false
  writing : Bool := false
  /-- Blocks written since the last erase, key kind·2^32 + offset. -/
  blocks : Table Bytes := []
deriving DecidableEq, Repr

/-- A reset record (R426). -/
structure ResetRecord where
  cause : Nat := 0
  kind : Nat := 0
  flags : Nat := 0
  count : Nat := 0
  stime : Nat := 0
deriving DecidableEq, Repr

/-- The backup domain D00 (R426, R427, R437, R444). -/
structure Backup where
  total : Nat := 0
  byCause : Table Nat := []
  records : List ResetRecord := []
  valid : Bool := false
  timeCopy : Nat := 0
  timeSet : Bool := false
  orderly : Bool := false
  /-- Ripcord records, newest first: TSC and sensor (R447). -/
  ripcords : List (Nat × Nat) := []
  /-- Tamper sensors detected from VBAT and not yet reported, with the backup domain's time (R448). -/
  dark : List (Nat × Nat) := []
  /-- Substitutions made for wear or by the manager: unit and primary source (R444). -/
  substitutions : Table Nat := []
  /-- Ageing values, key dictionary entry·256 + place. -/
  ageing : Table Nat := []
deriving DecidableEq, Repr

/-- A reset that waits: cause and kind (R408). -/
structure PendingReset where
  cause : Nat
  kind : Nat
deriving DecidableEq, Repr

/-- A configuration save in progress (R424). -/
structure SaveJob where
  bank : Nat
  image : ConfigImage
deriving DecidableEq, Repr

/-- Reset controller, boot and hot plug. -/
structure ResetCtl where
  /-- The main supply is in regulation: the module runs. -/
  powered : Bool := false
  /-- The 12 V supply is connected (R428). -/
  connected : Bool := false
  /-- A reset sequence runs: cause and kind (1 cold, 2 full, 3 warm). -/
  sequence : Option PendingReset := none
  /-- TSC at which that sequence was requested (R411). -/
  sequenceAt : Nat := 0
  /-- A manager's request, performed at the first boundary after its response (R408). -/
  requested : Option PendingReset := none
  cause : Nat := 1
  kind : Nat := 1
  /-- Held until the die has cooled (R408). -/
  thermalHold : Bool := false
  lockout : Bool := false
  /-- TSC of full resets of cause 6 or 8 (R412) and of WATCHDOG warm resets (R408). -/
  fullAt : List Nat := []
  watchdogAt : Option Nat := none
  /-- TSC at which D01 was released. -/
  d01At : Nat := 0
  /-- ns between the release of D01 and the start of the TSC at a cold start (1100.05). -/
  d01Early : Nat := 0
  bootBank : Nat := 0
  bootResult : Nat := 0
  bootMs : Nat := 0
  bootAt : Nat := 0
  /-- The boot commit waits for its activation beat: image of the boot commit, none for a boot with defaults. -/
  bootReady : Bool := false
  bootImage : Option ConfigImage := none
  /-- The boot commit has been applied since the last release (R416, R473). -/
  committed : Bool := false
  recovery : Bool := false
  /-- Engine firmware found changed at a warm reset must be loaded again (R410). -/
  reload : Bool := false
  /-- Preferred bank and installation-key hash last in force before a full reset (R423); the defaults at a cold start. -/
  preferred : Nat := 1
  keyHash : Bytes := List.replicate 48 0
  /-- Running firmware release (1000.09). -/
  release : Nat := 0x03020000
  /-- nEXTRACT asserted since this TSC (R430), and 12 V removed by the sequence. -/
  extractAt : Option Nat := none
  extracted : Bool := false
  /-- Outputs made safe by extraction (R430). -/
  extractSafe : Bool := false
  bankA : Bank := {}
  bankB : Bank := {}
  saving : Option SaveJob := none
  backup : Backup := {}
  domains : Table Domain := []
  /-- The flash copy of the ageing values, and of the substitutions for wear or by the manager (R437, R444). -/
  flashAgeing : Table Nat := []
  flashSubstitutions : Table Nat := []
  flashAt : Nat := 0
deriving DecidableEq, Repr

/-! ## Supervision (R432-R452) -/

/-- A ballast unit (R440, 6061): state, reason, primary source, time of the request. -/
structure BallastUnit where
  state : Nat := 0
  reason : Nat := 0
  primary : Nat := 0
deriving DecidableEq, Repr

/-- A substitution request (R440). -/
structure SwapRequest where
  unit : Nat
  primary : Nat
  reason : Nat
  time : Nat
  /-- Action 2 of R443: the primary returns. -/
  back : Bool
  /-- A wear request that the manager has released (6060.01 = 1, R440). -/
  ordered : Bool := false
deriving DecidableEq, Repr

/-- Supervision. -/
structure Supervision where
  /-- Rails' shed phases, bitmap per rail (R433). -/
  shed : Table Nat := []
  units : Table BallastUnit := []
  requests : List SwapRequest := []
  /-- The substitution in progress (R441). -/
  running : Option SwapRequest := none
  /-- The ballast bank's copy is complete: it takes over at the next boundary (R442). -/
  copied : Bool := false
  /-- TSC of the latest self-test per idle unit (R445). -/
  testedAt : Table Nat := []
  /-- Ageing values, key dictionary entry·256 + place (R436); what drivers and relays have accumulated stands at places 128 to 131, raised by
  0x10000: weighted time in 2^-20 ns, confirmed operations. -/
  ageing : Table Nat := []
  measuredAt : Nat := 0
  /-- Primaries whose self-test has failed (R443). -/
  selfTestFailed : List Nat := []
deriving DecidableEq, Repr

/-! ## What leaves the block -/

/-- What a carrier sends in a symbol (R204, R215): unit amplitude at a multiple of π/8, or a point (i + j·q)/√norm of unit mean power. -/
inductive LinePoint where
  | phase (n : Nat)
  | pam (i q : Int) (norm : Nat)
deriving DecidableEq, Repr

/-- A carrier that radiates: its point, and its level P(k) with the port's level correction in 0.001 dBm/Hz (R126, R136). -/
structure LineCarrier where
  carrier : Nat
  point : LinePoint
  level : Int
deriving DecidableEq, Repr

/-- What the block gives the outside world, newest first in State.out. -/
inductive Out where
  /-- An MSI-X vector of a function. -/
  | msix (f vector : Nat)
  /-- A descriptor or data written to host memory: function, ring (255 data), index or address, bytes. -/
  | hostWrite (f ring index : Nat) (data : Bytes)
  /-- An item returned early with a common status (R28): source number and status. -/
  | returned (source status count : Nat)
  /-- A message handed to the ring for a peer (R46, R61). -/
  | ringMessage (mac : Nat) (msg : Bytes)
  /-- A frame leaving a ring port; `aborted` where it is ended with ABORT. -/
  | ringFrame (side : Side) (frame : RingFrame) (aborted : Bool)
  /-- A PTP message leaving a ring port. -/
  | ptp (side : Side) (m : PtpMessage)
  /-- A frame started on a lane. -/
  | lineFrame (port lane : Nat) (mac : MacFrame) (prof nsym : Nat)
  /-- Symbols of the frame on a lane from the `first` one on, and the lane's samples after the shaper in units of 10^-15 V (R133-R138): at its
  start, and again for the rest of it where levels or sets change. -/
  | lineSymbols (port lane first : Nat) (symbols : List (List LineCarrier)) (samples : List (Int × Int))
  /-- The transmit gain of a port's lanes, in units of 10^-12 (R108). -/
  | portGain (port scale : Nat)
  /-- A frame cut on a lane. -/
  | lineCut (port lane : Nat)
  /-- A frame reported to the home cluster: acquisition and disturbance words (R172, R194). -/
  | report (port lane acq dist : Nat)
  /-- A command frame's tag sent on a port's command lane (R298). -/
  | commandFrame (port link cnt states tag : Nat)
  | commandCut (port : Nat)
  /-- A rising edge of PPS_OUT. -/
  | ppsOut
  /-- An Unsupported Request answered to a host (R473). -/
  | unsupported (f : Nat)
  /-- An alarm to the manager (R27). -/
  | fatalAlarm
deriving DecidableEq, Repr

/-! ## The state -/

/-- The block. -/
structure State where
  /-- Fixed at manufacture (R8). -/
  variant : Variant := .sk3636
  /-- Time-stamp counter, ns (R73). -/
  tsc : Nat := 0
  /-- Commands waiting, first in, first out. -/
  pending : List Instr := []
  /-- The model's own: free values used so far (log 6). -/
  free : Nat := 0
  /-- The model's own: what left the block, newest first (log 7). -/
  out : List Out := []
  /-- Values in force and counters of the object dictionary, key index·256 + sub, unlisted at default (R38, R39). -/
  dict : Table Bytes := []
  /-- Written rw and rwq values that take effect at the next boundary (R39, R42). -/
  written : Table Bytes := []
  hier : Hierarchy := {}
  mgr : Manager := {}
  time : TimeBase := {}
  tether : Tether := {}
  log : EventLog := {}
  ports : Table Port := []
  /-- Key 2·p for narrowband, 2·p + 1 for broadband. -/
  echoes : Table Echo := []
  /-- Key 4·p + l. -/
  lanes : Table Lane := []
  spools : Spools := {}
  pages : Table Page := []
  routes : Routes := {}
  cells : Table CommandCell := []
  trip : Trip := {}
  cipher : Cipher := {}
  checkParts : List CheckPart := []
  ring : Ring := {}
  sensing : Sensing := {}
  rst : ResetCtl := {}
  sup : Supervision := {}
deriving DecidableEq, Repr

/-- The module unpowered, just before POWER_ON: every field at the value the spec states for reset, the rest at the values
that logs 2-4 name (an SK3636-A, LINE drivers shut down, every relay open, bypass closed, the banks as shipped
under R471: bank A valid, bank B erased). -/
def State.reset : State :=
  { rst := { bankA := { fwPresent := true, fwRelease := 0x03020000, fwValid := true } } }

end Sys2Proof.Machine
end

