-- ==== Sys2Proof/Machine/Tables.lean ====
section
/-! DEFINITION. Sparse tables in canonical form: reading, writing, and the form itself. -/

namespace Sys2Proof.Machine

/-- The entry at `k`, if one is listed. -/
def Table.find {α : Type} : Table α → Nat → Option α
  | [], _ => none
  | (j, v) :: t, k => if j = k then some v else Table.find t k

/-- The value at `k`; an unlisted key reads `d`. -/
def Table.get {α : Type} (d : α) (t : Table α) (k : Nat) : α := (Table.find t k).getD d

/-- The table with every entry at `k` removed. -/
def Table.erase {α : Type} : Table α → Nat → Table α
  | [], _ => []
  | (j, v) :: t, k => if j = k then Table.erase t k else (j, v) :: Table.erase t k

/-- The table with `v` listed at `k`, keys rising. -/
def Table.insert {α : Type} : Table α → Nat → α → Table α
  | [], k, v => [(k, v)]
  | (j, w) :: t, k, v =>
    if k < j then (k, v) :: (j, w) :: t
    else if j = k then (k, v) :: t else (j, w) :: Table.insert t k v

/-- Write `v` at `k`; writing the default `d` removes the entry. -/
def Table.put {α : Type} [DecidableEq α] (d : α) (t : Table α) (k : Nat) (v : α) : Table α :=
  if v = d then Table.erase t k else Table.insert t k v

/-- Apply `f` to the value at `k`. -/
def Table.upd {α : Type} [DecidableEq α] (d : α) (t : Table α) (k : Nat) (f : α → α) : Table α :=
  Table.put d t k (f (Table.get d t k))

/-- Every key of the table lies above `b`. -/
def Table.above {α : Type} (b : Nat) (t : Table α) : Bool := t.all fun e => decide (b < e.1)

/-- Keys strictly rising. -/
def Table.rising {α : Type} : Table α → Bool
  | [] => true
  | (j, _) :: t => Table.above j t && Table.rising t

/-- The canonical form: keys strictly rising, no entry at its default. -/
def Table.wf {α : Type} [DecidableEq α] (d : α) (t : Table α) : Bool :=
  Table.rising t && t.all fun e => decide (e.2 ≠ d)

/-- Write bytes at consecutive keys from `k`. -/
def Table.putBytes (t : Table Byte) (k : Nat) : Bytes → Table Byte
  | [] => t
  | b :: bs => Table.putBytes (Table.put 0 t k b) (k + 1) bs

/-- `n` bytes at consecutive keys from `k`. -/
def Table.getBytes (t : Table Byte) (k n : Nat) : Bytes := (List.range n).map fun i => Table.get 0 t (k + i)

end Sys2Proof.Machine
end

