-- ==== Sys2Proof/Machine/Ops.lean ====
section
/-! DEFINITION. The named operations over the state that the meanings share: time, outputs, the event log's intake, entries
of the dictionary, counters, and access to the tables of blocks, ports, lanes, pages, spools, routes and links. -/

namespace Sys2Proof.Machine

/-- What a command answers. -/
abbrev Res := Host.Outcome State Fault Refusal

/-- Length of a beat in ns (R82). -/
def beatNs : Nat := 40000

/-- The state at TSC `t`: the counter never runs backward (R73, log 1). -/
def State.upTo (s : State) (t : Nat) : State := { s with tsc := max s.tsc t }

/-- Beat counter 1200.02: floor(TSC / 40,000) (R82). -/
def State.beat (s : State) : Nat := s.tsc / beatNs

/-- A free value (log 6): what the spec leaves open after a command that runs. -/
def State.fresh (s : State) : Nat × State := (Config.freeValue s.free, { s with free := s.free + 1 })

/-- A command that happens at TSC `t`: nothing but the counter's stand changes in an unpowered module (R409). -/
def State.run (s : State) (t : Nat) (f : State → State) : Res :=
  .next (if s.rst.powered then f (s.upTo t) else s.upTo t)

/-- Something leaves the block. -/
def State.emit (s : State) (o : Out) : State := { s with out := o :: s.out }

/-- Several things leave the block, the first named first. -/
def State.emitAll (s : State) (l : List Out) : State := { s with out := l.reverse ++ s.out }

/-- Apply an operation for each element, in order. -/
def State.each {α : Type} (s : State) (l : List α) (f : State → α → State) : State := l.foldl f s

/-- Apply an operation where the condition holds. -/
def State.when (s : State) (c : Bool) (f : State → State) : State := if c then f s else s

/-! ## Source numbers and events (R15, R16, R100, R450) -/

/-- A source number (R15). -/
def srcOf (region block cell : Nat) : Nat := region * 0x1000 + block * 0x40 + cell

/-- A block as a whole (R16). -/
def srcBlock (region block : Nat) : Nat := srcOf region block 0x3F

/-- Region of a source number. -/
def srcRegion (src : Nat) : Nat := bits src 15 12

/-- Block of a source number. -/
def srcBlk (src : Nat) : Nat := bits src 11 6

/-- Cell of a source number. -/
def srcCell (src : Nat) : Nat := bits src 5 0

/-- A condition is detected now: it waits for its delivery to the event log (R100). -/
def State.event (s : State) (src code sev : Nat) (data : Bytes) : State :=
  { s with log := { s.log with detected := s.log.detected ++ [⟨s.tsc, src, code, sev, data⟩] } }

/-- Severities of R449. -/
def sevInfo : Nat := 0
/-- Severities of R449. -/
def sevNotice : Nat := 1
/-- Severities of R449. -/
def sevWarning : Nat := 2
/-- Severities of R449. -/
def sevAlarm : Nat := 3
/-- Severities of R449. -/
def sevFatal : Nat := 4

/-! ## Dictionary values in force (R38, R39) -/

/-- The stored value of an entry in force; its default where none is stored. -/
def State.raw (s : State) (key : Nat) : Bytes := (Table.find s.dict key).getD (defaultOf s.variant key)

/-- The unsigned value in force of an entry. -/
def State.val (s : State) (idx sub : Nat) : Nat := ofBE (s.raw (keyOf idx sub))

/-- The value in force of a port entry given for LP0. -/
def State.pval (s : State) (p idx sub : Nat) : Nat := ofBE (s.raw (portKey p idx sub))

/-- The value in force of a lane entry given for lane 0 of LP0. -/
def State.lval (s : State) (p l idx sub : Nat) : Nat := ofBE (s.raw (laneKey p l idx sub))

/-- A BOOL in force. -/
def State.flag (s : State) (idx sub : Nat) : Bool := s.val idx sub == 1

/-- Store an entry's value; a value equal to the default is not listed. -/
def State.store (s : State) (key : Nat) (v : Bytes) : State :=
  { s with dict := Table.put (defaultOf s.variant key) s.dict key v }

/-- Store a number in the entry's width. -/
def State.storeNat (s : State) (key n : Nat) : State := s.store key (toBE (defaultOf s.variant key).length n)

/-- Store a number in entry `idx`.`sub`. -/
def State.setVal (s : State) (idx sub n : Nat) : State := s.storeNat (keyOf idx sub) n

/-- Add `n` to a saturating counter. -/
def State.bumpKey (s : State) (key n : Nat) : State :=
  s.storeNat key (min (256 ^ (defaultOf s.variant key).length - 1) (ofBE (s.raw key) + n))

/-- Count one in entry `idx`.`sub`. -/
def State.bump (s : State) (idx sub : Nat) : State := s.bumpKey (keyOf idx sub) 1

/-- Count one in a port counter. -/
def State.pbump (s : State) (p idx sub : Nat) : State := s.bumpKey (portKey p idx sub) 1

/-- Count `n` in a lane counter. -/
def State.lbumpN (s : State) (p l idx sub n : Nat) : State := s.bumpKey (laneKey p l idx sub) n

/-- Count one in a lane counter. -/
def State.lbump (s : State) (p l idx sub : Nat) : State := s.lbumpN p l idx sub 1

/-- The state with other values of entries in force. -/
def State.overlay (s : State) (l : Table Bytes) : State := s.each l fun u e => u.store e.1 e.2

/-- The committed value of an entry (R30, R39): one that waits for its block's release, else the value in force. -/
def State.committed (s : State) (key : Nat) : Bytes := (Table.find s.mgr.deferred key).getD (s.raw key)

/-- The state with the committed values of blocks that wait for their release in force as well (R30): what reads, digests and
validation see. -/
def State.view (s : State) : State := s.overlay s.mgr.deferred

/-! ## Blocks (R13, R14, R29) -/

/-- Table key of a block. -/
def blockKey (r b : Nat) : Nat := r * 64 + b

/-- A block. -/
def State.block (s : State) (r b : Nat) : Block := Table.get {} s.hier.blocks (blockKey r b)

/-- Write a block. -/
def State.setBlock (s : State) (r b : Nat) (x : Block) : State :=
  { s with hier := { s.hier with blocks := Table.put {} s.hier.blocks (blockKey r b) x } }

/-- Power domain of a cluster's ballast engine (R13). -/
def ballastDomain : Nat := 29

/-- Blocks of the hierarchy, region and number (R13). -/
def allBlocks : List (Nat × Nat) :=
  ((List.range 38).map fun b => (1, b)) ++ ((List.range 19).map fun b => (2, b)) ++ ((List.range 4).map fun b => (3, b))
    ++ ((List.range 5).map fun b => (4, b)) ++ ((List.range 6).map fun b => (5, b))

/-- Blocks the variant has. -/
def State.blocks (s : State) : List (Nat × Nat) := allBlocks.filter fun rb => blockPresent s.variant rb.1 rb.2

/-- The cells of a block (R14): those the variant has. -/
def cellPresent (v : Variant) (r b c : Nat) : Bool :=
  blockPresent v r b &&
    (if r = 1 then decide (c ≤ 12)
     else if r = 2 then
       (if b < 16 then decide (c < 16) || c == 17 || (c == 16 && hasBallast v)
        else if b = 18 then decide (c < 30) else decide (c < 32) || (c == 32 && hasBallast v))
     else if r = 3 then
       (if b = 0 then decide (c < 16) || (c == 16 && hasBallast v) else if b = 2 then decide (c ≤ 32) else c == 0)
     else if r = 4 then
       (if b = 0 then decide (c < 8) && (c != 2 || hasBallast v)
        else if b = 1 ∨ b = 2 then decide (c < 32)
        else if b = 3 then decide (c ≤ 12) || (decide (16 ≤ c) && decide (c < 36)) else decide (c ≤ 24))
     else if b = 0 then c == 0
     else if b = 1 then decide (c < 30)
     else if b = 2 then decide (c < 6)
     else if b = 3 then decide (c < 3) else decide (c < 4))

/-- Power domain of a block (R13); the ports' domains are D19-D21, twelve ports each, and the ballast ports' is D21 (log 10). -/
def domainOf (r b : Nat) : Nat :=
  if r = 1 then (if b < 36 then 19 + b / 12 else 21)
  else if r = 2 then (if b < 16 then 3 + b else if b = 18 then 22 else 24)
  else if r = 3 then (if b = 0 ∨ b = 2 then 23 else 1)
  else if r = 4 then (if b = 0 then 26 else if b = 1 ∨ b = 2 then 27 else 28)
  else if b = 2 then 2 else if b = 3 then 25 else 1

/-- The block that owns an entry is off, in reset or idling (R30, R56). -/
def State.ownerIdle (s : State) (key : Nat) : Bool :=
  match ownerBlock (idxOf key) with
  | some b =>
    let st := (s.block b.1 b.2).state
    st == .off || st == .reset || st == .idleReq
  | none => false

/-- One committed value (R30): into the block's shadow, or recorded for the block's release. -/
def State.commitValue (s : State) (key : Nat) (v : Bytes) : State :=
  if s.ownerIdle key then { s with mgr := { s.mgr with deferred := Table.insert s.mgr.deferred key v } } else s.store key v

/-- Committed values of a block enter its shadows at its release (R30). -/
def State.loadDeferred (s : State) (r b : Nat) : State :=
  let mine : Nat × Bytes → Bool := fun e => ownerBlock (idxOf e.1) == some (r, b)
  ({ s with mgr := { s.mgr with deferred := s.mgr.deferred.filter fun e => !mine e } }).overlay (s.mgr.deferred.filter mine)

/-- The block is held out of service (R25). -/
def State.held (s : State) (r b : Nat) : Bool := (s.block r b).state == .held

/-! ## Ports, lanes, echo cancellers -/

/-- A port. -/
def State.port (s : State) (p : Nat) : Port := Table.get {} s.ports p

/-- Write a port. -/
def State.setPort (s : State) (p : Nat) (x : Port) : State := { s with ports := Table.put {} s.ports p x }

/-- The port exists as a traffic port on the variant (R1). -/
def State.hasPort (s : State) (p : Nat) : Bool := decide (p < portCount s.variant)

/-- Number of a band: 0 narrowband, 1 broadband. -/
def bandNo : Band → Nat
  | .nb => 0
  | .bb => 1

/-- A band's echo canceller. -/
def State.echo (s : State) (p : Nat) (b : Band) : Echo := Table.get {} s.echoes (2 * p + bandNo b)

/-- Write an echo canceller. -/
def State.setEcho (s : State) (p : Nat) (b : Band) (x : Echo) : State :=
  { s with echoes := Table.put {} s.echoes (2 * p + bandNo b) x }

/-- A lane. -/
def State.lane (s : State) (p l : Nat) : Lane := Table.get {} s.lanes (4 * p + l)

/-- Write a lane. -/
def State.setLane (s : State) (p l : Nat) (x : Lane) : State := { s with lanes := Table.put {} s.lanes (4 * p + l) x }

/-- Write a lane's transmit side. -/
def State.setTx (s : State) (p l : Nat) (x : LaneTx) : State := s.setLane p l { s.lane p l with tx := x }

/-- Write a lane's receive side. -/
def State.setRx (s : State) (p l : Nat) (x : LaneRx) : State := s.setLane p l { s.lane p l with rx := x }

/-- Source number of a lane. -/
def srcLane (p l : Nat) : Nat := srcOf 1 p l

/-- The lanes of the variant, port and lane number. -/
def State.allLanes (s : State) : List (Nat × Nat) :=
  (List.range (portCount s.variant)).flatMap fun p => (List.range 4).map fun l => (p, l)

/-! ## Pages, spools, routes, links, cells -/

/-- A function's page. -/
def State.page (s : State) (f : Nat) : Page := Table.get {} s.pages f

/-- Write a page. -/
def State.setPage (s : State) (f : Nat) (x : Page) : State := { s with pages := Table.put {} s.pages f x }

/-- A host ring of a page. -/
def Page.ring (x : Page) (k : Nat) : HostRing := Table.get {} x.rings k

/-- Write a host ring of a page. -/
def Page.setRing (x : Page) (k : Nat) (r : HostRing) : Page := { x with rings := Table.put {} x.rings k r }

/-- A spool (R247). -/
def State.spool (s : State) (k : Nat) : Spool := Table.get {} s.spools.table k

/-- Write a spool. -/
def State.setSpool (s : State) (k : Nat) (x : Spool) : State :=
  { s with spools := { s.spools with table := Table.put {} s.spools.table k x } }

/-- A packet by its handle. -/
def State.packet (s : State) (h : Nat) : Option Packet := Table.find s.spools.packets h

/-- A route entry (R273). -/
def State.route (s : State) (k : Nat) : RouteEntry := Table.get {} s.routes.entries k

/-- Write a route entry; the window goes on reading it as it stood at the last boundary (R279). -/
def State.setRoute (s : State) (k : Nat) (x : RouteEntry) : State :=
  { s with routes := { s.routes with
      entries := Table.put {} s.routes.entries k x,
      before := if (Table.find s.routes.before k).isSome then s.routes.before else Table.insert s.routes.before k (Table.get {} s.routes.entries k) } }

/-- A link record (R281). -/
def State.link (s : State) (n : Nat) : Link := Table.get {} s.routes.links n

/-- Write a link record. -/
def State.setLink (s : State) (n : Nat) (x : Link) : State :=
  { s with routes := { s.routes with links := Table.put {} s.routes.links n x } }

/-- What is kept of a node. -/
def State.node (s : State) (e : Nat) : Node := Table.get {} s.routes.nodes e

/-- Write what is kept of a node. -/
def State.setNode (s : State) (e : Nat) (x : Node) : State :=
  { s with routes := { s.routes with nodes := Table.put {} s.routes.nodes e x } }

/-- A port's command cell. -/
def State.cell (s : State) (p : Nat) : CommandCell := Table.get {} s.cells p

/-- Write a command cell. -/
def State.setCell (s : State) (p : Nat) (x : CommandCell) : State := { s with cells := Table.put {} s.cells p x }

/-- A command link of a cell. -/
def CommandCell.link (x : CommandCell) (n : Nat) : CommandLink := Table.get {} x.links n

/-- Write a command link of a cell. -/
def CommandCell.setLink (x : CommandCell) (n : Nat) (k : CommandLink) : CommandCell :=
  { x with links := Table.put {} x.links n k }

/-- A key slot (R324). -/
def State.slot (s : State) (n : Nat) : KeySlot := Table.get {} s.cipher.slots n

/-- Write a key slot. -/
def State.setSlot (s : State) (n : Nat) (x : KeySlot) : State :=
  { s with cipher := { s.cipher with slots := Table.put {} s.cipher.slots n x } }

/-- A ring port. -/
def State.ringPort (s : State) : Side → RingPort
  | .east => s.ring.east
  | .west => s.ring.west

/-- Write a ring port. -/
def State.setRingPort (s : State) (d : Side) (x : RingPort) : State :=
  match d with
  | .east => { s with ring := { s.ring with east := x } }
  | .west => { s with ring := { s.ring with west := x } }

/-- The other ring port. -/
def otherSide : Side → Side
  | .east => .west
  | .west => .east

/-- 0 for EAST, 1 for WEST: the order of paired ring entries (R384). -/
def sideNo : Side → Nat
  | .east => 0
  | .west => 1

/-- A power domain. -/
def State.domain (s : State) (d : Nat) : Domain := Table.get {} s.rst.domains d

/-- Write a power domain. -/
def State.setDomain (s : State) (d : Nat) (x : Domain) : State :=
  { s with rst := { s.rst with domains := Table.put {} s.rst.domains d x } }

/-- A measurement channel. -/
def State.channel (s : State) (m : Nat) : Channel := Table.get {} s.sensing.channels m

/-- Write a measurement channel. -/
def State.setChannel (s : State) (m : Nat) (x : Channel) : State :=
  { s with sensing := { s.sensing with channels := Table.put {} s.sensing.channels m x } }

/-- A ballast unit. -/
def State.unit (s : State) (u : Nat) : BallastUnit := Table.get {} s.sup.units u

/-- Write a ballast unit. -/
def State.setUnit (s : State) (u : Nat) (x : BallastUnit) : State :=
  { s with sup := { s.sup with units := Table.put {} s.sup.units u x } }

/-- Ageing index of a part: dictionary entry and place within it (R436); 0xFFFF not measured. -/
def State.ageing (s : State) (idx sub place : Nat) : Nat := Table.get 0xFFFF s.sup.ageing (keyOf idx sub * 256 + place)

/-- What a part has accumulated at a place of its ageing entry (R436). -/
def State.worn (s : State) (idx sub place : Nat) : Nat := Table.get 0x10000 s.sup.ageing (keyOf idx sub * 256 + place) - 0x10000

/-- A part wears by `n` (R436). -/
def State.wearBy (s : State) (idx sub place n : Nat) : State :=
  { s with sup := { s.sup with ageing := Table.insert s.sup.ageing (keyOf idx sub * 256 + place) (s.worn idx sub place + n + 0x10000) } }

/-- A relay's confirmed operations (R436): 1 is added where contact sense comes to agree with the command. -/
def State.relayWear (s : State) (idx sub place : Nat) (confirmed : Bool) : State :=
  if confirmed then s.wearBy idx sub place 1 else s

/-- Station time in ns TAI (R74): TSC plus offset. -/
def State.stationTime (s : State) : Nat := ((s.tsc : Int) + s.time.offset).toNat

/-- Station time is set (R75). -/
def State.timeSet (s : State) : Bool := s.time.state != .unset

/-- An item returned early with a common status (R28). -/
def State.returnItem (s : State) (src status count : Nat) : State := s.emit (.returned src status count)

/-- Common completion statuses (R28). -/
def stOverrun : Nat := 0xE0
/-- Common completion statuses (R28). -/
def stBlockReset : Nat := 0xE1
/-- Common completion statuses (R28). -/
def stCellWithdrawn : Nat := 0xE2
/-- Common completion statuses (R28). -/
def stBlockHeld : Nat := 0xE3

/-- The register pages are open to a function (R416, R473): the boot commit has been applied and no warm reset is in
progress; in Recovery the page of f0 alone (R423). The host port's block runs (R29). -/
def State.open (s : State) (f : Nat) : Bool :=
  let b := (s.block 4 (1 + f / 32)).state
  decide (f < 64) && s.rst.powered && (b == .running || b == .idleReq)
    && (if s.rst.recovery then f == 0 else s.rst.committed && s.rst.sequence.isNone)

end Sys2Proof.Machine
end

