-- ==== Sys2Proof/Machine/ResetOps.lean ====
section
/-! DEFINITION. What a reset keeps and clears (R408-R415, R426), the release order, and the entry to safe states (R27, R419). -/

namespace Sys2Proof.Machine

/-- Bytes of a reset record (R426). -/
def resetRecordBytes (r : ResetRecord) : Bytes :=
  toBE 1 r.cause ++ toBE 1 r.kind ++ toBE 1 r.flags ++ [0] ++ toBE 4 r.count ++ toBE 8 r.stime

/-- Write the reset record and the counters of the backup domain (R426). -/
def State.recordReset (s : State) (cause kind : Nat) : State :=
  let b := s.rst.backup
  let est := decide (cause ≤ 2)
  let stime := if est then (if b.timeSet then b.timeCopy else 0) else if s.timeSet then s.stationTime else 0
  let total := (b.total + 1) % 2 ^ 32
  let r : ResetRecord :=
    { cause := cause, kind := kind, count := total, stime := stime,
      flags := ofBool est + 2 * ofBool b.orderly + 4 * ofBool s.rst.lockout }
  { s with rst := { s.rst with
      cause := cause, kind := kind,
      backup := { b with
        total := total, valid := true, orderly := false, records := (r :: b.records).take 8,
        byCause := Table.upd 0 b.byCause cause fun n => min 65535 (n + 1) } } }

/-- The domains of the release order with their step (R415), as far as the variant enables them. -/
def releaseSteps (v : Variant) : List (List Nat) :=
  [ [1], [2], [25], [24, 22, 23], [27],
    ((List.range (clusterCount v)).map (3 + ·)) ++ (if hasBallast v then [29] else []),
    ((List.range (portCount v / 12)).map (19 + ·)) ++ [26, 28] ]

/-- Step of a domain in the release order, counted from 0 for step 2 of R415. -/
def stepOfDomain (v : Variant) (d : Nat) : Nat := ((releaseSteps v).findIdx fun l => l.contains d)

/-- Rail of a domain (R432): 0 VBAT, 1 VCORE_S, 2 VCORE_N, 3-5 VLINE0-VLINE2, 6 VDDQ, 7-9 VAFE and VDRV of port groups 0-2, 10 VIO. -/
def railOf (d : Nat) : Nat :=
  if d = 0 then 0
  else if 3 ≤ d ∧ d ≤ 18 ∨ d = 29 then 2
  else if 19 ≤ d ∧ d ≤ 21 then 3 + (d - 19)
  else if d = 26 ∨ d = 28 then 10 else 1

/-- Phases fitted on a rail (R432). -/
def railPhases (v : Variant) (rail : Nat) : Nat :=
  let n := if rail = 1 then 3 else if rail = 2 then 6 else if rail = 3 ∨ rail = 4 ∨ rail = 5 then 1 else if rail = 6 then 2
    else if 7 ≤ rail ∧ rail ≤ 9 then 2 else if rail = 10 then 1 else 0
  if n = 0 then 0 else if hasBallast v then n + 1 else n

/-- Phases shed on a rail. -/
def State.shedPhases (s : State) (rail : Nat) : Nat := Table.get 0 s.sup.shed rail

/-- Phases in service on a rail, as a bitmap (6000.08). -/
def State.phases (s : State) (rail : Nat) : Nat :=
  let n := railPhases s.variant rail
  2 ^ n - 1 - (s.shedPhases rail) % 2 ^ n

/-- The rail has been switched off: its only phase was shed (R433). -/
def State.railOff (s : State) (rail : Nat) : Bool := railPhases s.variant rail == 1 && s.shedPhases rail != 0

/-- Configuration keeps the domain switched off (R435). -/
def State.domainUnwanted (s : State) (d : Nat) : Bool := domainPresent s.variant d && s.val (0x6000 + d) 2 == 0

/-- Recovery keeps the domain off: only D00-D02, D25 and D27 run (R423). -/
def State.recoveryBars (s : State) (d : Nat) : Bool := s.rst.recovery && !([0, 1, 2, 25, 27].contains d)

/-- The domain needs no further waiting in the release order: it runs, has failed, or stays off. -/
def State.domainSettled (s : State) (d : Nat) : Bool :=
  let x := (s.domain d).state
  x == .on || x == .fault || x == .isolated || s.railOff (railOf d) || s.domainUnwanted d || s.recoveryBars d

/-- All domains of the release order before position `k` are settled. -/
def State.stepsDone (s : State) (k : Nat) : Bool :=
  ((releaseSteps s.variant).take k).all fun l => l.all s.domainSettled

/-- Position in the release order of the first step that is not settled. -/
def State.currentStep (s : State) : Nat := (releaseSteps s.variant).findIdx fun l => !(l.all s.domainSettled)

/-- Reset is held whatever the clocks report: until the die has cooled (R408), in lockout for every domain but D00-D02 (R412), in
Recovery for every one but D00-D02, D25 and D27 (R423), and once extraction has powered the domains down (R430). -/
def State.releaseBarred (s : State) (d : Nat) : Bool :=
  s.rst.thermalHold || s.rst.backup.orderly || (s.rst.lockout && decide (d > 2)) || s.recoveryBars d

/-- Power the domains of the current step that are off (R415). -/
def State.advanceRelease (s : State) : State :=
  match (releaseSteps s.variant)[s.currentStep]? with
  | none => s
  | some l =>
    s.each (l.filter fun d => (s.domain d).state == .off && !s.domainSettled d && !s.releaseBarred d) fun u d =>
      u.setDomain d { u.domain d with state := .ramping, since := u.tsc }

/-- Blocks of a domain that the variant has. -/
def State.domainBlocks (s : State) (d : Nat) : List (Nat × Nat) := s.blocks.filter fun rb => domainOf rb.1 rb.2 == d

/-- Put every block of a domain into a state. -/
def State.setDomainBlocks (s : State) (d : Nat) (st : BlockState) : State :=
  s.each (s.domainBlocks d) fun u rb => u.setBlock rb.1 rb.2 { u.block rb.1 rb.2 with state := st }

/-- The domain may be released now (R410, R413, R415): every earlier step is settled; for the domains of step 7 the engine firmware is
verified and, after a warm reset, still as recorded or loaded again, for those of step 8 the boot commit is applied, or the reset is warm. -/
def State.mayRelease (s : State) (d : Nat) : Bool :=
  let k := stepOfDomain s.variant d
  !s.releaseBarred d && s.stepsDone k && (k != 5 || ((s.rst.bootReady || s.rst.committed || s.rst.kind == 3) && !s.rst.reload))
    && (k != 6 || s.rst.committed || s.rst.kind == 3)

/-- Domains of the blocks that a warm reset resets (R409, R415): steps 5-8. -/
def warmDomains (v : Variant) : List Nat := ((releaseSteps v).drop 3).flatten

/-- Blocks that a warm reset leaves alone: reset, power control, timebase, memory controller (R409). -/
def keptWarm (r b : Nat) : Bool := r == 5 && (b == 0 || b == 1 || b == 2 || b == 3)

/-- Ports after a reset: drivers shut down and relays commanded open; contact sense follows the contacts (R419). -/
def resetPorts (t : Table Port) : Table Port :=
  t.filterMap fun e =>
    let x : Port :=
      { relayNb := { sense := e.2.relayNb.sense }, relayBb := { sense := e.2.relayBb.sense },
        matrix := { sense := e.2.matrix.sense } }
    if x = {} then none else some (e.1, x)

/-- Blocks after a cold or full reset: all off; lost configuration memory of resets and loads (R29). -/
def resetBlocksFull : Table Block := []

/-- Blocks after a warm reset: running ones in reset, held ones held (R25, R409). -/
def resetBlocksWarm (t : Table Block) : Table Block :=
  t.map fun e =>
    if keptWarm (e.1 / 64) (e.1 % 64) || e.2.state == .off || e.2.state == .held then e
    else (e.1, { state := .reset, withdrawn := e.2.withdrawn, resets := e.2.resets })

/-- Key slots through a reset (R409, R324): cold empties 0-254 and reloads 255 from OTP. -/
def resetSlots (cold : Bool) (t : Table KeySlot) : Table KeySlot :=
  if cold then Table.put {} [] 255 { state := .ready, type := 3, key := Config.keyEncryptionKey, shadow := Config.keyEncryptionKey }
  else t

/-- Entries kept by a cold or full reset though they live in the dictionary table: block resets since power-on (1011, full
only) and tamper latches (6081.01, R448). -/
def keptEntry (cold : Bool) (key : Nat) : Bool := key == keyOf 0x6081 1 || (!cold && idxOf key == 0x1011)

/-- Command links through a full or warm reset keep the counters that R299 and R306 never let go back (log 18). -/
def resetCells (t : Table CommandCell) : Table CommandCell :=
  t.filterMap fun e =>
    let l : Table CommandLink := e.2.links.filterMap fun k =>
      let x : CommandLink := { lastSent := k.2.lastSent, everSent := k.2.everSent, lastAccepted := k.2.lastAccepted, spent := k.2.spent }
      if x = {} then none else some (k.1, x)
    if l = [] then none else some (e.1, { links := l })

/-- What a reset of a kind does to everything but the record, the domains and the blocks (R409). -/
def State.clearFor (s : State) (kind : Nat) : State :=
  let cold := kind == 1
  let warm := kind == 3
  { s with
    tsc := if cold then 0 else s.tsc
    dict := if warm then s.view.dict else s.dict.filter fun e => keptEntry cold e.1
    written := []
    hier := if warm then { blocks := resetBlocksWarm s.hier.blocks, repairRows := s.hier.repairRows, rowErrors := s.hier.rowErrors,
                           fatalAlarm := s.hier.fatalAlarm, safeOutputs := s.hier.safeOutputs } else {}
    mgr := { lastSeq := if cold then [] else s.mgr.lastSeq, ownSeq := if cold then [] else s.mgr.ownSeq,
             seqPeers := if cold then [] else s.mgr.seqPeers, seqSlot := if cold then 0 else s.mgr.seqSlot,
             epoch := if warm then s.mgr.epoch else 0, epochBeat := if warm then s.mgr.epochBeat else none,
             prevEpoch := if warm then s.mgr.prevEpoch else 0, digests := if warm then s.mgr.digests else [] }
    time := if warm then s.time else if cold then {} else
      { offset := s.time.offset, state := if s.time.state == .unset then .unset else .set, ref10 := s.time.ref10,
        ppb := s.time.ppb }
    tether := if warm then s.tether else if cold then {} else { cycle := s.tether.cycle, slotCount := s.tether.slotCount }
    log := if warm then s.log else {}
    ports := resetPorts s.ports
    echoes := []
    lanes := []
    spools := if warm then { s.spools with packets := s.spools.packets.map fun e => (e.1, { e.2 with owner := none }), broadcasts := [] }
      else {}
    pages := []
    routes := if warm then { s.routes with repairs := [], changed := [], updates := [] } else {}
    cells := if cold then [] else resetCells s.cells
    trip := { biRaw := s.trip.biRaw }
    cipher := { slots := resetSlots cold s.cipher.slots, blocked255 := warm && s.cipher.blocked255, mismatches := [] }
    checkParts := []
    ring := { ke := s.ring.ke, kw := s.ring.kw, commandAt := if s.ring.inserted then s.tsc else s.ring.commandAt
              state := if warm && s.ring.state == .failed then .failed else .bypassed
              stays := warm && s.ring.stays }
    sensing := {}
    sup := { shed := if cold then [] else s.sup.shed,
             units := if warm then s.sup.units.filter fun e => decide (3 ≤ e.2.state) else [],
             ageing := s.sup.ageing, measuredAt := s.sup.measuredAt, selfTestFailed := if warm then s.sup.selfTestFailed else [] } }

/-- The domains as the reset leaves them (R409, R415). -/
def State.resetDomains (s : State) (kind : Nat) : State :=
  if kind = 3 then
    s.each (warmDomains s.variant) fun u d =>
      if (u.domain d).state == .on then u.setDomain d { u.domain d with state := .reset } else u
  else
    let offs : Table Domain := s.rst.domains.filterMap fun e =>
      let x : Domain := { offset := e.2.offset, target := e.2.target }
      if x = {} then none else some (e.1, x)
    let u := { s with rst := { s.rst with domains := offs } }
    let u := u.setDomain 0 { u.domain 0 with state := .on }
    if kind = 1 then u.setDomain 1 { u.domain 1 with state := .ramping, since := u.tsc }
    else (u.setDomain 1 { u.domain 1 with state := .clockWait, since := u.tsc }).setDomain 2
      { u.domain 2 with state := .clockWait, since := u.tsc }

/-- Blocks whose rail has lost its only phase stay held until a cold start (R433). -/
def State.holdShed (s : State) (kind : Nat) : State :=
  if kind = 2 then s.each ((List.range 30).filter fun d => s.railOff (railOf d)) fun u d => u.setDomainBlocks d .held else s

/-- Enter lockout at the third full reset of cause 6 or 8 within 60 s (R412). -/
def State.lockoutCheck (s : State) (cause kind : Nat) : State :=
  if kind = 2 ∧ (cause = 6 ∨ cause = 8) then
    let recent := s.tsc :: s.rst.fullAt.filter fun a => decide (s.tsc ≤ a + 60000000000)
    { s with rst := { s.rst with fullAt := recent, lockout := s.rst.lockout || decide (3 ≤ recent.length) } }
  else if kind = 1 ∨ cause = 3 then { s with rst := { s.rst with lockout := false, fullAt := if kind = 1 then [] else s.rst.fullAt } }
  else s

/-- Perform a reset of a cause and kind now (R408-R415). -/
def State.performReset (s : State) (cause kind : Nat) : State :=
  let u := (s.lockoutCheck cause kind).recordReset cause kind
  let data := match u.rst.backup.records with
    | r :: _ => resetRecordBytes r
    | [] => []
  let bankA : Bank := { u.rst.bankA with writing := false }
  let bankB : Bank := { u.rst.bankB with writing := false }
  let u := { u with rst := { u.rst with
    bankA := bankA, bankB := bankB
    preferred := if kind = 1 then 1 else if kind = 2 ∧ u.rst.committed then u.val 0x1100 0x22 else u.rst.preferred
    keyHash := if kind = 1 then List.replicate 48 0 else if kind = 2 ∧ u.rst.committed then u.raw (keyOf 0x1100 0x58) else u.rst.keyHash } }
  let u := ((u.clearFor kind).resetDomains kind).holdShed kind
  let u := if kind = 1 then { u with sup := { u.sup with ageing := u.rst.backup.ageing, measuredAt := 0 }, rst := { u.rst with flashAt := 0 } } else u
  let u := { u with rst := { u.rst with
    sequence := some ⟨cause, kind⟩, sequenceAt := u.tsc, requested := none,
    thermalHold := cause == 8 || (u.rst.thermalHold && kind != 1),
    watchdogAt := if cause = 7 ∧ kind = 3 then some u.tsc else if kind = 1 then none else u.rst.watchdogAt,
    bootReady := false, bootImage := none, saving := none, reload := kind == 3 && !Config.firmwareKept u.tsc,
    committed := u.rst.committed && kind == 3, recovery := u.rst.recovery && kind == 3,
    bootBank := if kind = 3 then u.rst.bootBank else 0, bootResult := if kind = 3 then u.rst.bootResult else 0,
    d01At := if kind = 3 then u.rst.d01At else u.tsc, d01Early := if kind = 3 then u.rst.d01Early else 0 } }
  let u := { u with log := if kind = 3 then u.log else { restart := u.tsc } }
  u.event (srcOf 5 0 0) 0x0101 sevNotice data

/-- The cause of the running sequence is replaced by a lower one of the same kind that coincides with it (R411). -/
def State.replaceCause (s : State) (old cause : Nat) : State :=
  let b := s.rst.backup
  { s with rst := { s.rst with
      cause := cause, sequence := s.rst.sequence.map fun q => { q with cause := cause },
      backup := { b with
        records := match b.records with
          | r :: rs => { r with cause := cause } :: rs
          | [] => [],
        byCause := Table.upd 0 (Table.upd 0 b.byCause old fun n => n - 1) cause fun n => min 65535 (n + 1) } } }

/-- A reset source asks for a reset (R411, R412): a heavier kind restarts the sequence, the same or a lighter one is absorbed;
in lockout only nMRST and a cold start are taken; while nEXTRACT is asserted only a cold start, a ripcord and its own cause (R430). A ripcord
is not absorbed by a full sequence that began before it (log 29). -/
def State.requestReset (s : State) (cause kind : Nat) : State :=
  if s.rst.lockout ∧ kind ≠ 1 ∧ cause ≠ 3 then s else
  if s.rst.extractAt ≠ none ∧ kind ≠ 1 ∧ cause ≠ 9 ∧ cause ≠ 10 then s else
  match s.rst.sequence with
  | none => s.performReset cause kind
  | some q =>
    if kind < q.kind ∨ (s.rst.lockout ∧ cause = 3) then s.performReset cause kind
    else if kind = q.kind ∧ s.tsc = s.rst.sequenceAt ∧ cause < q.cause then s.replaceCause q.cause cause
    else if cause = 9 ∧ kind = q.kind ∧ s.rst.sequenceAt < s.tsc then s.performReset cause kind
    else s

/-! ## Fatal errors and safe states (R25-R27) -/

/-- Outside outputs are made safe (R27, R430). -/
def State.outputsSafe (s : State) : Bool := s.hier.safeOutputs || s.rst.extractSafe

/-- Every outside output to its safe state, transmission stopped, ring bypass closed (R27, R419). -/
def State.makeSafe (s : State) : State :=
  { s with
    ports := s.ports.filterMap fun e =>
      let x : Port := { e.2 with
        state := if e.2.state == .off then .off else .stopped, driver := false, bias := false, mutedNb := some s.tsc,
        mutedBb := some s.tsc, relayNb := { e.2.relayNb with command := false }, relayBb := { e.2.relayBb with command := false },
        matrix := { e.2.matrix with command := false }, step := .bias, ballastAfe := 0, calAfe := 0, matrixDue := false, swapTo := 0, opening := [], adding := [] }
      if x = {} then none else some (e.1, x)
    lanes := s.lanes.filterMap fun e =>
      let x : Lane := { e.2 with tx := { e.2.tx with onLine := none } }
      if x = {} then none else some (e.1, x)
    cells := s.cells.filterMap fun e =>
      let x : CommandCell := { e.2 with frame := none, due := [] }
      if x = {} then none else some (e.1, x)
    trip := { s.trip with outputs := [] }
    ring := { s.ring with state := .bypassed, inserted := false, commandAt := s.tsc, ballast := 0 }
    time := { s.time with ppsOutUntil := 0 }
    sensing := { s.sensing with generators := [], outputs := [] } }

/-- The chip declares a fatal error (R26, R27): cause 1 Platform block held, 2 key store held, 3 fabric; `held` the source
number of the held block. -/
def State.fatal (s : State) (cause held : Nat) : State :=
  let u := s.event 0 0x0206 sevFatal (toBE 1 cause ++ [0] ++ toBE 2 held)
  if u.val 0x1010 5 = 1 then u.requestReset 6 2
  else
    let v := u.makeSafe
    ({ v with hier := { v.hier with fatalAlarm := true, safeOutputs := true } }).emit .fatalAlarm

/-- A block is held out of service (R25), which is fatal for the Platform region and for the key store (R26). -/
def State.holdBlock (s : State) (r b : Nat) : State :=
  let u := (s.setBlock r b { s.block r b with state := .held }).event (srcBlock r b) 0x0205 sevAlarm []
  if r = 5 then u.fatal 1 (srcBlock r b)
  else if r = 3 ∧ b = 1 then u.fatal 2 (srcBlock r b) else u

end Sys2Proof.Machine
end

