-- ==== Sys2Proof/Machine/LaneOps.lean ====
section
/-! DEFINITION. What a lane's configuration says: kind, range, band, symbol times, envelope limits, effective profiles, and the
capacity of its symbols (R129-R145, R203, R211, R222). -/

namespace Sys2Proof.Machine

/-- Lane kind 2008.01: 0 unused, 1 N, 2 W, 3 G (R129). -/
def State.laneKind (s : State) (p l : Nat) : Nat := s.lval p l 0x2008 1

/-- First carrier. -/
def State.laneFirst (s : State) (p l : Nat) : Nat := s.lval p l 0x2008 2

/-- Last carrier. -/
def State.laneLast (s : State) (p l : Nat) : Nat := s.lval p l 0x2008 3

/-- The lane has the command role (2008.04). -/
def State.isCommandLane (s : State) (p l : Nat) : Bool := s.laneKind p l == 1 && s.lval p l 0x2008 4 == 1

/-- A data lane of kind N or W (R235). -/
def State.isNativeData (s : State) (p l : Nat) : Bool :=
  (s.laneKind p l == 1 && s.lval p l 0x2008 4 == 0) || s.laneKind p l == 2

/-- A data lane of kind N, W or G. -/
def State.isDataLane (s : State) (p l : Nat) : Bool := s.isNativeData p l || s.laneKind p l == 3

/-- The command lane of a port, if one is configured (R130). -/
def State.commandLane (s : State) (p : Nat) : Option Nat := firstBelow (s.isCommandLane p) 4

/-- Band of a lane: W lanes run in broadband (R129). -/
def State.laneBand (s : State) (p l : Nat) : Band := if s.laneKind p l = 2 then .bb else .nb

/-- Carriers in the lane's range (M). -/
def State.laneM (s : State) (p l : Nat) : Nat := s.laneLast p l + 1 - s.laneFirst p l

/-- Pilot spacing by kind (R134). -/
def pilotStep (kind : Nat) : Nat := if kind = 2 then 16 else 8

/-- Data carriers of a symbol of `m` carriers (R134). -/
def dataCarriers (kind m : Nat) : Nat := m - (m + pilotStep kind - 1) / pilotStep kind

/-- Symbol length in ns by kind (R129). -/
def symbolNs (kind : Nat) : Nat := if kind = 2 then 46080 else 288000

/-- Symbol length of a lane, ns; of a G lane as its band plan has it (log 15). -/
def State.laneSymbolNs (s : State) (p l : Nat) : Nat :=
  if s.laneKind p l = 3 then (if s.laneFirst p l = 9 then 695000 else 231667) else symbolNs (s.laneKind p l)

/-- Symbols ahead of the payload: preamble and header (R203). -/
def leadSymbols (kind : Nat) : Nat := if kind = 2 then 10 else 6

/-- Length of a frame of `n` payload symbols in ns (R203). -/
def frameNs (kind n : Nat) : Nat := (leadSymbols kind + n) * symbolNs kind

/-- Groups of carriers: 8 in receive reports and the noise floor (R196, R198). -/
def State.floorGroups (s : State) (p l : Nat) : Nat := if s.laneKind p l = 0 then 0 else (s.laneM p l + 7) / 8

/-- Groups of the compliance monitor: 8 carriers on N lanes, 32 on W (R150). -/
def State.clipGroups (s : State) (p l : Nat) : Nat :=
  let g := if s.laneKind p l = 2 then 32 else 8
  if s.laneKind p l = 0 then 0 else (s.laneM p l + g - 1) / g

/-- Highest modulation of a kind (R130), used where 2008.07 is 0. -/
def kindMaxMod (kind : Nat) : Nat := if kind = 2 then 10 else 6

/-- Highest modulation of the lane (R135, R145). -/
def State.laneMaxMod (s : State) (p l : Nat) : Nat :=
  let m := s.lval p l 0x2008 7
  if m = 0 then kindMaxMod (s.laneKind p l) else m

/-- Beacon profile of a lane (R245): 3000.04 on N lanes, 3000.05 on W. -/
def State.beaconProfile (s : State) (p l : Nat) : Nat := if s.laneKind p l = 2 then s.val 0x3000 5 else s.val 0x3000 4

/-- The profile belongs to what the lane's kind and role allow (R222). -/
def profileAllowed (kind role first last n : Nat) : Bool :=
  let g := profileGroup n
  if kind = 1 then (if role = 1 then g == 4 else g == 1)
  else if kind = 2 then g == 2
  else if kind = 3 then
    (first == 9 && last == 24 && decide (40 ≤ n) && decide (n ≤ 42))
      || (first == 39 && last == 125 && decide (43 ≤ n) && decide (n ≤ 45))
  else false

/-- The profile is in the lane's effective set (R222). -/
def State.profileServed (s : State) (p l n : Nat) : Bool :=
  bit (s.lval p l 0x2008 0x0E) n
    && profileAllowed (s.laneKind p l) (s.lval p l 0x2008 4) (s.laneFirst p l) (s.laneLast p l) n

/-- Maximum NSYM of a profile in force (R209, R223). -/
def State.maxNsym (s : State) (n : Nat) : Nat := s.val (0x2800 + n) 7

/-- Bits of one payload symbol under a tone map: the sum of MOD over the data carriers, a MOD above the lane's maximum counting
0 (R135, R211). -/
def toneMapBits (kind maxMod : Nat) (map : Bytes) : Nat :=
  ((List.range map.length).zip map).foldl
    (fun a e => if e.1 % pilotStep kind = 0 then a
      else let m := e.2.toNat / 16; if m > maxMod ∨ m > 10 then a else a + m) 0

/-! ## Slots and frames (R235-R237) -/

/-- The slot plan applies (R242): slot valid is 1, and slot 0 has begun since it rose. -/
def State.planApplies (s : State) : Bool := s.tether.valid && decide (s.tether.validAt ≤ s.tether.slotZero)

/-- Type of a module slot (R235, R242): every slot counts as SCHEDULED while the plan does not apply. -/
def State.slotType (s : State) (n : Nat) : Nat :=
  if s.planApplies then ((s.raw (keyOf 0x3000 1))[n % 24]?.getD 3).toNat else 3

/-- The module may start a frame of the class in a slot of the type (R235). -/
def slotAllows (type cls : Nat) : Bool :=
  if type = 5 then false else if type = 2 then cls == 0 else true

/-- The guard of 3000.02 in ns. -/
def State.guardNs (s : State) : Nat := s.tether.sample.length * 24 * s.val 0x3000 2 / 360

/-- Slot length of the published sample, ns. -/
def State.sampleLen (s : State) : Nat := max 1 s.tether.sample.length

/-- Slot boundaries of the published sample that TSC `a` has passed (R97): blocks time themselves by the sample. -/
def State.slotsPast (s : State) (a : Nat) : Nat :=
  if a < s.tether.sample.next1 then 0 else 1 + (a - s.tether.sample.next1) / s.sampleLen

/-- Slot boundaries between TSC `a` and the slot of the published sample, where `a` lies before it. -/
def State.slotsBack (s : State) (a : Nat) : Nat := (s.tether.sample.next1 - s.sampleLen - a + s.sampleLen - 1) / s.sampleLen

/-- Module slot in which TSC `a` falls. -/
def State.slotAtTime (s : State) (a : Nat) : Nat :=
  if a + s.sampleLen < s.tether.sample.next1 then (s.tether.sample.slot + 24 - s.slotsBack a % 24) % 24
  else (s.tether.sample.slot + s.slotsPast a) % 24

/-- The slot in progress. -/
def State.slotNow (s : State) : Nat := s.slotAtTime s.tsc

/-- The mains cycle in progress. -/
def State.cycleNow (s : State) : Nat := s.tether.sample.cycle + (s.tether.sample.slot + s.slotsPast s.tsc) / 24

/-- The mains cycle in which TSC `a`, not before the slot in progress, falls. -/
def State.cycleAt (s : State) (a : Nat) : Nat := s.tether.sample.cycle + (s.tether.sample.slot + s.slotsPast a) / 24

/-- Downstream tone maps in force at TSC `a` (R142): the pending version from the start of its activation cycle. -/
def State.mapsAt (s : State) (x : Link) (a : Nat) : ToneMaps :=
  if x.pending ∧ x.acked ∧ x.actCycle ≤ s.cycleAt a then x.pendingDn else x.dn

/-- Downstream tone maps of a frame that starts now: those in force at its first data symbol (R142). -/
def State.frameMaps (s : State) (kind : Nat) (x : Link) : ToneMaps := s.mapsAt x (s.tsc + frameNs kind 0)

/-- TSC of the `j`-th slot boundary ahead; 0 gives the start of the slot in progress. -/
def State.slotAhead (s : State) (j : Nat) : Nat :=
  s.tether.sample.next1 + (s.slotsPast s.tsc + j) * s.sampleLen - s.sampleLen

/-- The BEACON slot of the plan. -/
def State.beaconSlot (s : State) : Nat :=
  ((s.raw (keyOf 0x3000 1)).map BitVec.toNat).findIdx (· == 1)

/-- The cycle in progress is a beacon cycle (R245). -/
def State.beaconCycle (s : State) (cycle : Nat) : Bool := cycle % max 1 (s.val 0x3000 3) == 0

/-- Start of the next beacon (R245): the guard after the start of the BEACON slot of a beacon cycle, this cycle's while it lies ahead. -/
def State.nextBeacon (s : State) : Nat :=
  let per := max 1 (s.val 0x3000 3)
  let here := s.slotNow
  let bs := s.beaconSlot
  let cyc := s.cycleNow
  if s.beaconCycle cyc ∧ here = bs ∧ s.tsc < s.slotAhead 0 + s.guardNs then s.slotAhead 0 + s.guardNs
  else
    let first := if bs > here then cyc else cyc + 1
    let wait := (per - first % per) % per
    s.slotAhead ((first + wait - cyc) * 24 + bs - here) + s.guardNs

/-- Latest end of a frame of the class that starts now on a native data lane (R237): the guard before the next slot that
forbids the class, and the start of the lane's next beacon. -/
def State.latestEnd (s : State) (cls : Nat) : Nat :=
  match firstBelow (fun j => !slotAllows (s.slotType (s.slotNow + j + 1)) cls) 24 with
  | some j => min s.nextBeacon (s.slotAhead (j + 1) - s.guardNs)
  | none => s.nextBeacon

/-- Set of a slot key for a slot (R139). -/
def keySet (key slot : Nat) : Nat := bits key (2 * slot + 1) (2 * slot)

/-- Slot key of a link's direction: its own, or the lane's default where it names none (R139). -/
def State.linkKey (s : State) (x : Link) (m : ToneMaps) : Nat :=
  if m.sets = 0 then ofBE (s.raw (portKey x.port 0x201C (x.lane + 1))) else m.key

/-- Set used by payload symbol `i` of a frame that starts at `start` (R140, R141). -/
def State.symbolSet (s : State) (kind key fallback start i : Nat) : Nat :=
  if s.tether.valid then keySet key (s.slotAtTime (start + frameNs kind i)) else fallback

/-- Coded bits of each set of a direction's tone maps, per payload symbol. -/
def setBits (kind maxMod : Nat) (m : ToneMaps) : List Nat := m.maps.map (toneMapBits kind maxMod)

/-- Coded bits of the first 1, 2, … `n` payload symbols of a tone-mapped frame from `start` (R211). -/
def State.mappedBits (s : State) (kind : Nat) (bits : List Nat) (key fallback start n : Nat) : List Nat :=
  ((List.range n).foldl (fun (a : Nat × List Nat) i =>
    let c := a.1 + bits[s.symbolSet kind key fallback start i]?.getD 0
    (c, c :: a.2)) (0, [])).2.reverse

/-- Coded bits of the first 1, 2, … `n` payload symbols of a fixed-mapping frame (R211). -/
def fixedBits (kind m prof n : Nat) : List Nat :=
  (List.range n).map fun i => dataCarriers kind m * (i + 1) * profileMapping prof / max 1 (profileRep prof)

/-! ## Calibration of a port (R69, R124, R126) -/

/-- AFE serving a port (2001.04). -/
def State.afeOf (s : State) (p : Nat) : Nat := if (s.port p).ballastAfe = 0 then p else (s.port p).ballastAfe

/-- Factory value of quantity `q` of AFE `a` as binary32; the loop delay lies in 1,250-1,400 ns (R103). -/
def portFactory (a q : Nat) : Nat :=
  if q = 6 then f32Milli (1250000 + Config.portFactory a 6 % 150001 : Nat) else finiteF32 (Config.portFactory a q)

/-- AFE whose factory values the effective values of a port were computed from (R124). -/
def State.calAfeOf (s : State) (p : Nat) : Nat := if (s.port p).calAfe = 0 then p else (s.port p).calAfe

/-- Effective value of quantity `q` of a port (R69, R126), as binary32. -/
def State.portEffective (s : State) (p q : Nat) : Nat :=
  f32Calibrate (portFactory (s.calAfeOf p) q) (s.pval p 0x2005 q) (s.pval p 0x2005 (q + 8))

/-- Part of the effective value of a quantity that user gain and offset add to the factory value, in thousandths: what corrects a reading that
its cell delivers under factory calibration (R69, log 58). -/
def State.userShift (s : State) (p q : Nat) : Int :=
  if s.pval p 0x2005 q = 0x3F800000 then f32ToMilli (s.pval p 0x2005 (q + 8))
  else f32ToMilli (s.portEffective p q) - f32ToMilli (portFactory (s.calAfeOf p) q)

/-! ## Envelope limits (R144, R146) -/

/-- Segments of an envelope: START and LIMIT. -/
def segmentsOf (v : Bytes) : List (Nat × Nat) := (List.range (v.length / 8)).map fun i => (beAt v (8 * i) 4, beAt v (8 * i + 4) 2)

/-- Lowest LIMIT within ±half a spacing of carrier `k` in 0.1 dBm/Hz; `none` where the carrier is off (R144). Frequencies in
units of 1/16384 Hz keep half spacings whole. -/
def envelopeLimit (segs : List (Nat × Nat)) (kind k : Nat) : Option Int :=
  let u := 16384
  let sp := if kind = 2 then 400000000 else 64000000
  let lo := k * sp - sp / 2
  let hi := k * sp + sp / 2
  let rec walk : List (Nat × Nat) → Option Int → Option Int
    | [], acc => acc
    | [(_, _)], acc => acc
    | (a, la) :: (b, lb) :: rest, acc =>
      let acc' := if a * u < hi ∧ lo < b * u then
          (match acc with
            | some m => some (min m (signed 16 la))
            | none => some (signed 16 la))
        else acc
      walk ((b, lb) :: rest) acc'
  match segs.head?, segs.getLast? with
  | some (a, _), some (z, _) => if lo < a * u ∨ hi > z * u then none else walk segs none
  | _, _ => none

/-- Envelope limit of a lane's carrier (R144, R154). -/
def State.carrierLimit (s : State) (p l k : Nat) : Option Int :=
  envelopeLimit (segmentsOf (s.raw (keyOf (0x2900 + s.lval p l 0x200C 1) 3))) (s.laneKind p l) k

end Sys2Proof.Machine
end

