-- ==== Sys2Proof/Machine/RouteOps.lean ====
section
/-! DEFINITION. Route store and link store (R270-R284, R287-R288): usable and selected entries, confirmation, invalidation, new
entries, link costs, creation and release, planning and its versions. -/

namespace Sys2Proof.Machine

/-- Endpoint ID of broadcast (R270). -/
def broadcastId : Nat := 0x3FFFF

/-- LINK of an entry that names no link (R273). -/
def noLink : Nat := 0x3FFFF

/-- WRITER of module firmware (R273). -/
def firmwareWriter : Nat := 0x1FF

/-- Source number of the route store. -/
def srcRoutes : Nat := srcBlock 2 16

/-- An endpoint ID inside the variant's space that may have route entries (R270). -/
def State.isEndpoint (s : State) (e : Nat) : Bool :=
  decide (0 < e) && decide (e < endpointSpace s.variant) && e != broadcastId

/-- Home cluster of an endpoint (R34). -/
def State.clusterOf (s : State) (e : Nat) : Nat := e % clusterCount s.variant

/-- Source number of the block that serves an endpoint. -/
def State.srcHome (s : State) (e : Nat) : Nat := srcBlock 2 (s.clusterOf e)

/-- Positions of an endpoint's entries (R273). -/
def routePositions (e : Nat) : List Nat := (List.range 8).map (e * 8 + ·)

/-- The port is RUNNING. -/
def State.running (s : State) (p : Nat) : Bool := (s.port p).state == .running

/-- An entry as the next boundary will have it: with the firmware update that waits for it (R279). -/
def State.routeNext (s : State) (pos : Nat) : RouteEntry :=
  match s.routes.updates.find? fun (u : RouteUpdate) => u.pos == pos with
  | some u => u.entry
  | none => s.route pos

/-- Usable entries (R275). -/
def State.entryUsable (s : State) (r : RouteEntry) : Bool :=
  r.valid && r.metric != 0xFFFF && s.running r.port && s.isDataLane r.port r.lane

/-- The entry at a position is usable. -/
def State.routeUsable (s : State) (pos : Nat) : Bool := s.entryUsable (s.route pos)

/-- Position of the entry selected for an endpoint, while it is usable. -/
def State.selected (s : State) (e : Nat) : Option Nat :=
  (routePositions e).find? fun pos => (s.route pos).sel && s.routeUsable pos

/-- Lower METRIC first, lower position on equal METRIC. -/
def State.bestRoute (s : State) (l : List Nat) : Option Nat :=
  l.foldl (fun b pos => match b with
    | none => some pos
    | some a => if (s.route pos).metric < (s.route a).metric then some pos else some a) none

/-- The entry that selection gives (R275): a usable selected one stays unless another is lower by an eighth of its METRIC. -/
def State.choice (s : State) (e : Nat) : Option Nat :=
  match s.bestRoute ((routePositions e).filter s.routeUsable), s.selected e with
  | none, _ => none
  | some b, none => some b
  | some b, some c =>
    if (s.route b).metric * 8 ≤ (s.route c).metric * 7 ∧ (s.route b).metric < (s.route c).metric then some b else some c

/-- Mark the entries of an endpoint for SEL. -/
def State.markSelected (s : State) (e : Nat) (c : Option Nat) : State :=
  s.each (routePositions e) fun u pos =>
    let r := u.route pos
    let want := c == some pos
    if r.sel == want then u else u.setRoute pos { r with sel := want }

/-- An endpoint's selection is evaluated at the next beat boundary (R275). -/
def State.touchEndpoint (s : State) (e : Nat) : State :=
  if s.routes.changed.contains e then s else { s with routes := { s.routes with changed := s.routes.changed ++ [e] } }

/-- Write an entry and have its endpoint's selection evaluated. -/
def State.writeRoute (s : State) (pos : Nat) (r : RouteEntry) : State := (s.setRoute pos r).touchEndpoint (pos / 8)

/-- Endpoints with a valid entry through a port. -/
def State.endpointsOn (s : State) (p : Nat) : List Nat :=
  (s.routes.entries.filter fun e => e.2.valid && e.2.port == p).map (fun e => e.1 / 8) |>.dedup

/-- Some entry of an endpoint will be usable at the next boundary. -/
def State.usableNext (s : State) (e : Nat) : Bool := (routePositions e).any fun pos => s.entryUsable (s.routeNext pos)

/-- A port enters or leaves RUNNING: the entries through it change their usability (R275). -/
def State.touchPort (s : State) (p : Nat) : State := s.each (s.endpointsOn p) State.touchEndpoint

/-- AGE of an entry: whole seconds since its last confirmation (R273, R276). -/
def State.routeAge (s : State) (r : RouteEntry) : Nat := min 0xFFFF ((s.tsc - r.confirmed) / 1000000000)

/-- Number of a link by its identity: port, lane, neighbour. -/
def State.linkOf (s : State) (p l e : Nat) : Option Nat :=
  (s.routes.links.find? fun x => x.2.state != .free && x.2.port == p && x.2.lane == l && x.2.peer == e).map Prod.fst

/-! ## Link rates and costs (R274) -/

/-- Tone maps of the direction put some carrier above MOD 0 in some slot of their key. -/
def mapsLive (kind maxMod : Nat) (m : ToneMaps) (key : Nat) : Bool :=
  (List.range 24).any fun n => decide (0 < (setBits kind maxMod m)[keySet key n]?.getD 0)

/-- Sum over the 24 slots of the coded bits of a payload symbol. -/
def mapsSum (kind maxMod : Nat) (m : ToneMaps) (key : Nat) : Nat :=
  let b := setBits kind maxMod m
  (List.range 24).foldl (fun a n => a + b[keySet key n]?.getD 0) 0

/-- Cost of `sum` coded bits in 24 payload symbols of a kind under a code: 100,000 over the rate in kb/s, rounded up (R274). -/
def costOf (kind code sum : Nat) : Nat :=
  let k := codeSizes code
  let den := 10 * sum * k.2
  if den = 0 then 0xFFFF else min 0xFFFF (max 1 ((24 * k.1 * symbolNs kind + den - 1) / den))

/-- Cost of a lane's beacon profile. -/
def State.beaconCost (s : State) (p l : Nat) : Nat :=
  let kind := s.laneKind p l
  let pr := s.beaconProfile p l
  costOf kind (profileCode pr) (24 * (dataCarriers kind (s.laneM p l) * profileMapping pr) / max 1 (profileRep pr))

/-- The link sends with its own tone maps: it is MAPPED and some data carrier is in use (R214, R281). -/
def State.linkMapped (s : State) (x : Link) : Bool :=
  x.state == .mapped && mapsLive (s.laneKind x.port x.lane) (s.laneMaxMod x.port x.lane) x.dn (s.linkKey x x.dn)

/-- Cost of a link (R274). -/
def State.linkCost (s : State) (x : Link) : Nat :=
  if s.linkMapped x then
    costOf (s.laneKind x.port x.lane) (profileCode x.prof)
      (mapsSum (s.laneKind x.port x.lane) (s.laneMaxMod x.port x.lane) x.dn (s.linkKey x x.dn))
  else s.beaconCost x.port x.lane

/-- METRIC of a path cost, saturating (R274). -/
def capMetric (n : Nat) : Nat := min 0xFFFE n

/-- Hop penalty (R274). -/
def State.hopPenalty (s : State) : Nat := s.val 0x3210 3

/-- The neighbour's own valid entry over a port and lane (HOPS 1), by position. -/
def State.neighbourRoute (s : State) (n p l : Nat) : Option Nat :=
  (routePositions n).find? fun pos =>
    let r := s.routeNext pos
    r.valid && r.next == n && r.port == p && r.lane == l && r.hops == 1

/-- METRIC of a neighbour: its own entry's, or its link's cost and one hop. -/
def State.neighbourMetric (s : State) (n p l : Nat) : Nat :=
  match s.neighbourRoute n p l with
  | some pos => (s.routeNext pos).metric
  | none => match s.linkOf p l n with
    | some k => capMetric ((s.link k).cost + s.hopPenalty)
    | none => capMetric (s.beaconCost p l + s.hopPenalty)

/-! ## Confirmation, new entries, invalidation (R276, R277) -/

/-- Confirm an entry: AGE 0 (R276). -/
def State.confirmRoute (s : State) (pos : Nat) : State :=
  if (s.route pos).valid then s.setRoute pos { s.route pos with confirmed := s.tsc } else s

/-- The valid entry of an endpoint through a neighbour on a port and lane. -/
def State.routeThrough (s : State) (e n p l : Nat) : Option Nat :=
  (routePositions e).find? fun pos =>
    let r := s.routeNext pos
    r.valid && r.next == n && r.port == p && r.lane == l

/-- Place for a new entry of an endpoint (R277): the lowest invalid one, else the non-pinned one of highest METRIC where the new
METRIC is lower; of equal METRICs the lowest k (log 27). -/
def State.routePlace (s : State) (e metric : Nat) : Option Nat :=
  match (routePositions e).find? (fun pos => !(s.routeNext pos).valid) with
  | some pos => some pos
  | none =>
    let worst := ((routePositions e).filter fun pos => !(s.routeNext pos).pinned).foldl (fun b pos => match b with
      | none => some pos
      | some a => if (s.routeNext pos).metric > (s.routeNext a).metric then some pos else some a) none
    match worst with
    | some pos => if metric < (s.routeNext pos).metric then some pos else none
    | none => none

/-- A firmware update of a position: it waits for the next boundary, where a host write to the same entry overrides it (R279). -/
def State.updateRoute (s : State) (pos : Nat) (r : RouteEntry) (created : Bool) : State :=
  let made := created || s.routes.updates.any fun (u : RouteUpdate) => u.pos == pos && u.created
  ({ s with routes := { s.routes with
      updates := (s.routes.updates.filter fun (u : RouteUpdate) => u.pos != pos) ++ [({ pos := pos, entry := r, created := made } : RouteUpdate)] } }).touchEndpoint (pos / 8)

/-- Store a new entry at the next boundary, or count it as not stored (R277, R279). -/
def State.newRoute (s : State) (e : Nat) (r : RouteEntry) : State :=
  match s.routePlace e r.metric with
  | some pos => s.updateRoute pos { r with valid := true, writer := firmwareWriter, confirmed := s.tsc } true
  | none => s.bump 0x3220 4

/-- The lowest tone-mapped profile of the lane's effective set, or its beacon profile (log 11). -/
def State.defaultProfile (s : State) (p l : Nat) : Nat :=
  let base := if s.laneKind p l = 2 then 16 else 0
  match firstBelow (fun i => profileGroup (base + i) != 0 && profileMapping (base + i) == 0 && s.profileServed p l (base + i)) 4 with
  | some i => base + i
  | none => s.beaconProfile p l

/-- Entry of an endpoint through a neighbour on a port and lane. -/
def State.entryVia (s : State) (n p l hops metric : Nat) : RouteEntry :=
  { valid := true, next := n, port := p, lane := l, prof := s.defaultProfile p l, link := (s.linkOf p l n).getD noLink,
    metric := capMetric metric, hops := hops }

/-- Passive learning (R277): a frame of ORIG arrived through SRC: refresh the entry through it, or create one where ORIG has none. -/
def State.learnRoute (s : State) (orig src p l hopsLeft : Nat) : State :=
  let hops := max 1 (16 - hopsLeft)
  match s.routeThrough orig src p l with
  | some pos => s.confirmRoute pos
  | none =>
    if (routePositions orig).any (fun pos => (s.routeNext pos).valid) then s
    else
      let base := s.neighbourMetric src p l
      s.newRoute orig (s.entryVia src p l (min 15 hops) (base + s.hopPenalty * (hops - 1)))

/-- An entry given true costs: it refreshes the entry through the neighbour with its METRIC and HOPS, or becomes a new one. -/
def State.reportRoute (s : State) (e n p l hops metric : Nat) : State :=
  match s.routeThrough e n p l with
  | some pos =>
    let r := s.routeNext pos
    if r.pinned then s.confirmRoute pos
    else s.updateRoute pos { r with metric := capMetric metric, hops := hops, confirmed := s.tsc, writer := firmwareWriter } false
  | none => s.newRoute e (s.entryVia n p l hops metric)

/-- The link becomes STALE (R276). -/
def State.staleLink (s : State) (k : Nat) : State :=
  let x := s.link k
  if x.state == .free then s else s.setLink k { x with state := .stale }

/-- Clear an entry (R276); its selection is evaluated anew at the next boundary, where the loss of the last usable one starts a
repair (R287). An update of it that waits is dropped. -/
def State.clearRoute (s : State) (pos : Nat) : State :=
  ({ s with routes := { s.routes with updates := s.routes.updates.filter fun (u : RouteUpdate) => u.pos != pos } }).writeRoute pos { sel := (s.route pos).sel }

/-- Positions of the non-pinned valid entries through a neighbour on a port and lane. -/
def State.dependents (s : State) (n p l : Nat) : List Nat :=
  (s.routes.entries.filter fun e => e.2.valid && !e.2.pinned && e.2.next == n && e.2.port == p && e.2.lane == l).map Prod.fst

/-- An entry becomes invalid (R276): with the neighbour's own go all non-pinned ones through it, and its link becomes STALE. -/
def State.invalidateRoute (s : State) (pos : Nat) : State :=
  let r := s.route pos
  let u := s.clearRoute pos
  if r.hops = 1 then
    let v := u.each (u.dependents r.next r.port r.lane) State.clearRoute
    match v.linkOf r.port r.lane r.next with
    | some k => v.staleLink k
    | none => v
  else u

/-- The entry's failure limit is reached (R276). -/
def State.routeFailed (s : State) (pos : Nat) : Bool :=
  let r := s.route pos
  r.valid && !r.pinned && decide (s.val 0x3210 2 ≤ r.fails)

/-- Entries of an endpoint that failed become invalid, each counted (R276). -/
def State.dropFailed (s : State) (e : Nat) : State :=
  s.each (routePositions e) fun u pos => if u.routeFailed pos then (u.invalidateRoute pos).bump 0x3220 3 else u

/-- Apply the firmware updates that wait for this boundary, counting the entries they create (R277); one whose entry a host wrote at it is
discarded and counted (R279). -/
def State.applyUpdates (s : State) (hostWrote : List Nat) : State :=
  let l := s.routes.updates
  ({ s with routes := { s.routes with updates := [] } }).each l fun u e =>
    if hostWrote.contains e.pos then u.bump 0x3220 0x0E
    else
      let r := u.route e.pos
      let v := u.writeRoute e.pos { e.entry with sel := r.sel, fails := if e.created then 0 else r.fails }
      if e.created then v.bump 0x3220 1 else v

/-! ## Links (R280-R284) -/

/-- Bytes of a lane's tone-map block: 16 per carrier, in whole 64 bytes (R280). -/
def State.blockBytes (s : State) (p l : Nat) : Nat := (16 * s.laneM p l + 63) / 64 * 64

/-- Size of the tone-map heap (R36, R280): the 1.5 GiB partition less the link records' 16 MiB. -/
def heapBytes : Nat := 1610612736 - 16777216

/-- Number of link records (R280). -/
def linkRecords : Nat := 262143

/-- Bytes of the heap in use. -/
def State.heapUsed (s : State) : Nat := s.routes.links.foldl (fun a x => a + x.2.heapSize) 0

/-- Lowest offset in the heap at which `n` bytes are free; it is the block's handle (log 27). -/
def State.heapPlace (s : State) (n : Nat) : Option Nat :=
  let blocks := (s.routes.links.filter fun x => x.2.heapSize != 0).map fun x => (x.2.heap, x.2.heapSize)
  let starts := 0 :: blocks.map fun b => b.1 + b.2
  let free := starts.filter fun a =>
    decide (a + n ≤ heapBytes) && blocks.all fun b => decide (a + n ≤ b.1) || decide (b.1 + b.2 ≤ a)
  free.foldl (fun m a => match m with
    | none => some a
    | some b => some (min a b)) none

/-- Lowest free link number. -/
def State.freeLink (s : State) : Option Nat :=
  let rec go : List (Nat × Link) → Nat → Nat
    | [], n => n
    | (k, _) :: t, n => if k = n then go t (n + 1) else n
  let n := go (s.routes.links.filter fun x => x.2.state != .free) 0
  if n < linkRecords then some n else none

/-- A frame arrived from a neighbour on a data lane: its link is created (R280) or refreshed, and leaves STALE (R281). -/
def State.touchLink (s : State) (p l e : Nat) : State :=
  match s.linkOf p l e with
  | some k =>
    let x := s.link k
    let st := if x.state = .stale then (if x.dn.sets = 0 ∧ x.up.sets = 0 then LinkState.robust else .mapped) else x.state
    s.setLink k { x with lastRx := s.tsc, state := st }
  | none =>
    match s.freeLink, s.heapPlace (s.blockBytes p l) with
    | some k, some h =>
      s.setLink k { state := .robust, port := p, lane := l, peer := e, heap := h, heapSize := s.blockBytes p l,
                    prof := s.defaultProfile p l, cost := s.beaconCost p l, lastRx := s.tsc, writer := firmwareWriter }
    | _, _ => s.bump 0x3220 0x0C

/-- Route-store positions of the valid entries that name a link. -/
def State.routesOfLink (s : State) (k : Nat) : List Nat :=
  (s.routes.entries.filter fun e => e.2.valid && e.2.link == k).map Prod.fst

/-- A link is released (R280): its record reads FREE, entries that name it become invalid, pinned ones take no link. -/
def State.releaseLink (s : State) (k : Nat) : State :=
  let u := { s.setLink k {} with routes := { (s.setLink k {}).routes with
    updates := s.routes.updates.map fun (u : RouteUpdate) => if u.entry.link = k then { u with entry := { u.entry with link := noLink } } else u } }
  u.each (s.routesOfLink k) fun v pos =>
    let r := v.route pos
    if r.pinned then v.writeRoute pos { r with link := noLink } else v.clearRoute pos

/-- A window record releases a link (R281): WRITER keeps who did. -/
def State.releaseBy (s : State) (k writer : Nat) : State :=
  let u := s.releaseLink k
  u.setLink k { u.link k with writer := writer }

/-- A window record writes OFFSET (R281): with bit 7 the slot offset is pinned. -/
def State.offsetBy (s : State) (k writer offset : Nat) : State := s.setLink k { s.link k with offset := offset, writer := writer }

/-- Store a link with its cost under R274. -/
def State.costLink (s : State) (k : Nat) (x : Link) : State := s.setLink k { x with cost := s.linkCost x }

/-! ## Planning (R145, R282) -/

/-- SNR byte of a module slot and group: half decibels above −10 dB; no data counts as the lowest (log 12). -/
def snrByte (t : Table Nat) (slot g : Nat) : Nat :=
  let v := Table.get 0xFF t (slot * 256 + g)
  if v = 0xFF then 0 else v

/-- Carriers of a lane that carry data, by index in the range. -/
def dataIndex (kind m : Nat) : List Nat := (List.range m).filter fun i => i % pilotStep kind != 0

/-- Sum of the carriers' SNR bytes in a slot. -/
def slotSnr (t : Table Nat) (data : List Nat) (slot : Nat) : Nat := data.foldl (fun a i => a + snrByte t slot (i / 8)) 0

/-- Insert a slot into a list ordered by falling SNR, ties by slot. -/
def insertSlot (key : Nat → Nat) (n : Nat) : List Nat → List Nat
  | [] => [n]
  | m :: l => if key n > key m then n :: m :: l else m :: insertSlot key n l

/-- The 24 slots by falling mean SNR. -/
def slotOrder (key : Nat → Nat) : List Nat := (List.range 24).foldl (fun l n => insertSlot key n l) []

/-- Gaps between neighbours in the order, with the index after which each lies. -/
def slotGaps (key : Nat → Nat) (l : List Nat) : List (Nat × Nat) :=
  ((l.zip (l.drop 1)).zip (List.range 24)).map fun e => (e.2, key e.1.1 - key e.1.2)

/-- The `n` largest gaps above a threshold, ties to the earlier; as indices. -/
def largestGaps : Nat → Nat → List (Nat × Nat) → List Nat
  | 0, _, _ => []
  | n + 1, thr, l =>
    match l.foldl (fun (b : Option (Nat × Nat)) g => match b with
      | none => if g.2 > thr then some g else none
      | some a => if g.2 > a.2 then some g else b) none with
    | some g => g.1 :: largestGaps n thr (l.filter fun h => h.1 != g.1)
    | none => []

/-- Required SNR of a modulation at rate 1/2, in half decibels (R145). -/
def requiredSnr (mod : Nat) : Nat := [0, 8, 14, 21, 27, 33, 39, 45, 51, 57, 63][mod]?.getD 0

/-- Tone-map byte for a result in half decibels (R145): the highest modulation that fits, and with power trim the excess. -/
def planByte (maxMod offset : Nat) (trim : Bool) (res : Int) : Nat :=
  match ((List.range (min maxMod 10)).map (· + 1)).reverse.find? fun m => decide (((requiredSnr m + offset : Nat) : Int) ≤ res) with
  | some m => m * 16 + (if trim then min 15 ((res - (requiredSnr m + offset : Nat)).toNat / 2) else 0)
  | none => 0

/-- A direction's sets planned from SNR values per slot and group (R145): set 0 holds the best slots; the fallback is the last set
(log 12). -/
def planMaps (kind m maxMod margin offset : Nat) (trim : Bool) (snr : Table Nat) : ToneMaps :=
  let data := dataIndex kind m
  let key := slotSnr snr data
  let order := slotOrder key
  let cuts := largestGaps 3 (4 * data.length) (slotGaps key order)
  let setAt := fun i => (cuts.filter fun c => decide (c < i)).length
  let sets := cuts.length + 1
  let members := fun k => ((order.zip (List.range 24)).filter fun e => setAt e.2 == k).map Prod.fst
  let low := fun k i => (members k).foldl (fun a n => min a (snrByte snr n (i / 8))) 255
  { sets := sets,
    key := (order.zip (List.range 24)).foldl (fun a e => a + setAt e.2 * 4 ^ e.1) 0,
    fallback := sets - 1,
    maps := (List.range sets).map fun k => (List.range m).map fun i =>
      BitVec.ofNat 8 (planByte maxMod offset trim ((low k i : Int) - 20 - (margin : Int))) }

/-- Planning values of a lane: margin, power trim. -/
def State.planDirection (s : State) (x : Link) (snr : Table Nat) : ToneMaps :=
  planMaps (s.laneKind x.port x.lane) (s.laneM x.port x.lane) (s.laneMaxMod x.port x.lane) (s.lval x.port x.lane 0x2008 6)
    (profileOffset x.prof) (s.lval x.port x.lane 0x2008 8 == 1) snr

/-- Node slots of a key in module slots (R98). -/
def keyToNode (key o : Nat) : Nat := (List.range 24).foldl (fun a r => a + keySet key ((r + o) % 24) * 4 ^ r) 0

/-- Body of a TMAP frame for a link's pending version (R285). -/
def tmapBody (x : Link) (m act : Nat) : Bytes :=
  let d := x.pendingDn
  let u := x.pendingUp
  toBE 1 (((x.versionDn + 1) % 16) * 16 + (x.versionUp + 1) % 16) ++ toBE 1 (d.sets * 16 + u.sets)
    ++ toBE 1 (d.fallback * 16 + u.fallback) ++ [0] ++ toBE 2 act ++ toBE 2 m
    ++ toBE 6 (keyToNode d.key (x.offset % 32)) ++ toBE 6 (keyToNode u.key (x.offset % 32)) ++ d.maps.flatten ++ u.maps.flatten

/-- A mesh frame from the module to a neighbour (R285). -/
def meshFrame (type dst : Nat) (ack : Bool) (body : Bytes) : MacFrame :=
  { type := type, ackReq := ack, more := false, retry := false, dst := dst, fin := dst, orig := 0, hops := 1, seq := 0, frag := 0,
    ackSeq := 0, ackMap := 0, ackCls := 0, grant := 0, body := body }

/-- Queue a mesh frame on a lane, as a class-1 item. -/
def State.queueMesh (s : State) (p l : Nat) (f : MacFrame) : State :=
  s.setTx p l { (s.lane p l).tx with mesh := (s.lane p l).tx.mesh ++ [f] }

/-- Place a pending version on a link and send its TMAP (R282): ACTCYCLE lies 3210.0B cycles after the next start of slot 0. -/
def State.sendTmap (s : State) (k : Nat) (dn up : ToneMaps) : State :=
  let act := s.val 0x3210 0x0B
  let y : Link := { s.link k with
    pending := true, acked := false, pendingDn := dn, pendingUp := up, actCycle := s.tether.cycle + 1 + act, tmapSeq := none }
  let u := s.setLink k y
  let frames := (u.lane y.port y.lane).tx.mesh.filter fun f => !(f.type == 5 && f.dst == y.peer)
  (u.setTx y.port y.lane { (u.lane y.port y.lane).tx with mesh := frames }).queueMesh y.port y.lane
    (meshFrame 5 y.peer true (tmapBody y (u.laneM y.port y.lane) act))

/-- Plan a link that has a new receiver report (R145, R282): a version that differs from the active one is placed as pending. -/
def State.planLink (s : State) (k : Nat) : State :=
  let x := s.link k
  if x.fresh ∧ (x.state = .mapped ∨ x.state = .robust) ∧ s.isNativeData x.port x.lane then
    let dn := if x.snrDn = [] then x.dn else s.planDirection x x.snrDn
    let up := if x.snrUp = [] then x.up else s.planDirection x x.snrUp
    let u := s.setLink k { x with fresh := false, planned := s.tether.cycle % 2 ^ 32 }
    if dn = x.dn ∧ up = x.up then u else u.sendTmap k dn up
  else s

/-- At slot 0 of ACTCYCLE an acknowledged pending version becomes active (R142, R282). -/
def State.activateTmap (s : State) (k : Nat) : State :=
  let x := s.link k
  if x.pending ∧ x.acked ∧ x.actCycle ≤ s.tether.cycle then
    s.costLink k { x with
      dn := x.pendingDn, up := x.pendingUp, versionDn := (x.versionDn + 1) % 16, versionUp := (x.versionUp + 1) % 16,
      pending := false, acked := false, pendingDn := {}, pendingUp := {}, state := if x.state = .robust then .mapped else x.state }
  else s

/-! ## Repair (R287, R288) -/

/-- A node's latest NEIGHBOURS report gives a cost to an endpoint. -/
def Node.costTo (x : Node) (e : Nat) : Option Nat := (x.neighbours.find? fun r => r.1 == e).map Prod.snd

/-- Build entries of an endpoint from the latest report of each neighbour that lists it (R287, step 2). -/
def State.repairFromReports (s : State) (e : Nat) : State :=
  s.each s.routes.nodes fun u nd =>
    match nd.2.costTo e with
    | some c =>
      u.each ((u.routes.links.filter fun x => x.2.state != .free && x.2.peer == nd.1)) fun v x =>
        let m := v.neighbourMetric nd.1 x.2.port x.2.lane + c + v.hopPenalty
        match v.routeThrough e nd.1 x.2.port x.2.lane with
        | some _ => v
        | none => v.newRoute e (v.entryVia nd.1 x.2.port x.2.lane 2 m)
    | none => u

/-- Lanes that send probes and broadcasts: native data lanes of RUNNING ports (R264, R287). -/
def State.probeLanes (s : State) : List (Nat × Nat) := s.allLanes.filter fun pl => s.running pl.1 && s.isNativeData pl.1 pl.2

/-- A PROBE for an endpoint (R285, R287): a broadcast of class 1 in the beacon profile. -/
def probeFrame (e id : Nat) : MacFrame := { meshFrame 9 broadcastId false (toBE 4 e ++ toBE 2 id ++ [0, 0]) with hops := 15 }

/-- Send a repair's next PROBE where the beacon period's rate allows, else it waits (R287, R288). -/
def State.sendProbe (s : State) (r : Repair) : State :=
  if s.routes.probes < s.val 0x3210 6 then
    let id := s.routes.nextProbe
    let r' : Repair := { r with attempt := r.attempt + 1, probe := id, sentAt := s.tsc, waiting := false }
    let u := { s with routes := { s.routes with
      probes := s.routes.probes + 1, nextProbe := (id + 1) % 65536,
      repairs := s.routes.repairs.map fun (x : Repair) => if x.endpoint = r.endpoint then r' else x } }
    (u.each u.probeLanes fun v pl => v.queueMesh pl.1 pl.2 (probeFrame r.endpoint id)).bump 0x3220 8
  else { s with routes := { s.routes with
      repairs := s.routes.repairs.map fun (x : Repair) => if x.endpoint = r.endpoint then { r with waiting := true } else x } }

/-- The repair of an endpoint, if one runs. -/
def State.repairOf (s : State) (e : Nat) : Option Repair := s.routes.repairs.find? fun r => r.endpoint == e

/-- The endpoint's last repair is forgotten, or noted as failed (R287). -/
def State.noteFailed (s : State) (e : Nat) (failed : Bool) : State :=
  let l := s.routes.failed.filter fun n => n != e
  { s with routes := { s.routes with failed := if failed then e :: l else l } }

/-- End an endpoint's repair, counting in sub-index `sub` of 3220: 6 as a success, 7 as a failure. -/
def State.endRepair (s : State) (e sub : Nat) : State :=
  (({ s with routes := { s.routes with repairs := s.routes.repairs.filter fun r => r.endpoint != e } }).noteFailed e (sub == 7)).bump
    0x3220 sub

/-- Repair of an endpoint starts (R287): steps 1 and 2 at once; a usable entry ends it, at the boundary at which a built one comes into
force, else it probes. -/
def State.startRepair (s : State) (e : Nat) : State :=
  if (s.repairOf e).isSome then s else
  let r : Repair := { endpoint := e, attempt := 0, probe := 0, sentAt := s.tsc, started := s.tsc, waiting := true }
  let u := ({ s with routes := { s.routes with repairs := s.routes.repairs ++ [r] } }).bump 0x3220 5
  let v := if (u.choice e).isSome then u else u.repairFromReports e
  if (v.choice e).isSome then v.endRepair e 6 else if v.usableNext e then v else v.sendProbe r

/-- Repairs that wait for the probe rate or for an entry that did not help, in order of their start (R288). -/
def State.waitingProbes (s : State) : State :=
  s.each (s.routes.repairs.filter fun r => r.waiting && !s.usableNext r.endpoint) fun u r =>
    if u.routes.probes < u.val 0x3210 6 then u.sendProbe r else u

end Sys2Proof.Machine
end

