-- ==== Sys2Proof/Machine/SpoolOps.lean ====
section
/-! DEFINITION. Host rings (R258-R265), spools (R247-R257), active lists (R250), selection at a boundary (R275), broadcasts (R264),
and delivery of received packets (R254, R261). -/

namespace Sys2Proof.Machine

/-! ## Host rings -/

/-- Entries of a ring (R258). -/
def HostRing.size (g : HostRing) : Nat := 2 ^ g.log2

/-- Entries in use between the consumer and the producer index. -/
def HostRing.used (g : HostRing) : Nat := (g.prod + g.size - g.cons % g.size) % g.size

/-- Free entries: one stays unused, so that a full ring differs from an empty one (log 13). -/
def HostRing.free (g : HostRing) : Nat := g.size - 1 - g.used

/-- Write a descriptor into a ring and advance the module's index (R258); discarded while the ring is disabled (R259). -/
def State.postRing (s : State) (f k : Nat) (data : Bytes) : State :=
  let g := (s.page f).ring k
  if g.enable then
    let u := (s.setPage f ((s.page f).setRing k { g with prod := (g.prod + 1) % g.size })).emit (.hostWrite f k g.prod data)
    if g.irqEn then u.emit (.msix f g.vector) else u
  else s

/-- Post a transmit completion (R263). -/
def State.postTxc (s : State) (f tag status retries ok failed : Nat) : State :=
  s.postRing f 1 (toLE 4 tag ++ toLE 2 status ++ toLE 1 retries ++ [0] ++ toLE 8 ok ++ toLE 8 failed ++ toLE 8 s.tsc)

/-- Statuses of R263. -/
def stNoRoute : Nat := 0x100
/-- Statuses of R263. -/
def stNoAck : Nat := 0x101
/-- Statuses of R263. -/
def stTooLong : Nat := 0x102
/-- Statuses of R263. -/
def stQueueFull : Nat := 0x103
/-- Statuses of R263. -/
def stNoBuffer : Nat := 0x104
/-- Statuses of R263. -/
def stFlushed : Nat := 0x105
/-- Statuses of R263. -/
def stDisabled : Nat := 0x106
/-- Statuses of R263. -/
def stPartial : Nat := 0x108
/-- Statuses of R263. -/
def stMemory : Nat := 0x109

/-! ## Spools -/

/-- Endpoint of a spool (R247). -/
def spoolEndpoint (k : Nat) : Nat := k / 4

/-- Class of a spool (R247). -/
def spoolClass (k : Nat) : Nat := k % 4

/-- Class window (R253). -/
def State.window (s : State) (c : Nat) : Nat := s.val 0x3101 (c + 1)

/-- Packets queued: distinct handles (R248). -/
def Spool.depth (x : Spool) : Nat := (x.queue.map QueueItem.handle).dedup.length

/-- The state a spool takes from its contents (R249). -/
def State.spoolStateOf (s : State) (k : Nat) (x : Spool) : SpoolState :=
  if x.queue = [] ∧ x.flight.length < s.window (spoolClass k) then .empty
  else if s.selected (spoolEndpoint k) = none then .unrouted
  else if x.flight.length ≥ s.window (spoolClass k) then .waiting else .ready

/-- Active list of a class on a lane (R250). -/
def LaneTx.list (x : LaneTx) (c : Nat) : List Place := Table.get [] x.lists c

/-- Write an active list. -/
def LaneTx.setList (x : LaneTx) (c : Nat) (l : List Place) : LaneTx := { x with lists := Table.put [] x.lists c l }

/-- The spool is in the lane's list. -/
def LaneTx.holds (x : LaneTx) (k : Nat) : Bool := (x.list (spoolClass k)).any fun y => y.spool == k

/-- Take a spool out of a lane's list. -/
def LaneTx.drop (x : LaneTx) (k : Nat) : LaneTx := x.setList (spoolClass k) ((x.list (spoolClass k)).filter fun y => y.spool != k)

/-- Take a spool out of the active list of every lane but `keep` (4·p + l). -/
def State.leaveLists (s : State) (k : Nat) (keep : Option Nat) : State :=
  s.each (s.lanes.map Prod.fst) fun u n =>
    let x := Table.get ({} : Lane) u.lanes n
    if keep != some n ∧ x.tx.holds k then u.setLane (n / 4) (n % 4) { x with tx := x.tx.drop k } else u

/-- Lane of an endpoint's selected entry, as 4·p + l. -/
def State.laneOf (s : State) (e : Nat) : Option Nat := (s.selected e).map fun pos => 4 * (s.route pos).port + (s.route pos).lane

/-- Bring a spool's state and its place in the active lists up to its contents and route (R249, R250, R252). -/
def State.settleSpool (s : State) (k : Nat) : State :=
  let x := s.spool k
  let st := if x.state = .disabled then SpoolState.disabled else s.spoolStateOf k x
  if x.queue = [] then
    (s.setSpool k { x with state := st, deficit := 0 }).leaveLists k none
  else
    let y := { x with state := st, unroutedAt := if st = .unrouted ∧ x.state ≠ .unrouted then s.tsc else x.unroutedAt }
    let u := s.setSpool k y
    match u.laneOf (spoolEndpoint k) with
    | none => u
    | some n =>
      let v := u.leaveLists k (some n)
      let t := (v.lane (n / 4) (n % 4)).tx
      if t.holds k then v
      else v.setTx (n / 4) (n % 4) (t.setList (spoolClass k) (t.list (spoolClass k) ++ [⟨k, false⟩]))

/-- Settle the four spools of an endpoint. -/
def State.settleEndpoint (s : State) (e : Nat) : State := s.each [4 * e, 4 * e + 1, 4 * e + 2, 4 * e + 3] State.settleSpool

/-- A packet ends: its completion goes to its submitter (R263), the buffer is free. -/
def State.finishPacket (s : State) (h status : Nat) : State :=
  match s.packet h with
  | none => s
  | some k =>
    let u := { s with spools := { s.spools with packets := Table.erase s.spools.packets h } }
    match k.owner with
    | some f => u.postTxc f k.tag status k.retries 0 0
    | none => u

/-- Take every trace of a packet out of a spool. -/
def Spool.forget (x : Spool) (h : Nat) : Spool :=
  { x with queue := x.queue.filter fun q => q.handle != h, flight := x.flight.filter fun q => q.item.handle != h }

/-- A packet of a spool ends with a status. -/
def State.endPacket (s : State) (k h status : Nat) : State :=
  ((s.setSpool k ((s.spool k).forget h)).finishPacket h status).settleSpool k

/-- Handles a spool holds, in queue order, those in flight first. -/
def Spool.handles (x : Spool) : List Nat := (x.flight.map (fun q => q.item.handle) ++ x.queue.map QueueItem.handle).dedup

/-- Every packet of a spool ends with a status. -/
def State.emptySpool (s : State) (k status : Nat) : State := s.each (s.spool k).handles fun u h => u.endPacket k h status

/-- Re-enable a disabled spool (R249). -/
def State.spoolOn (s : State) (k : Nat) : State :=
  let x := s.spool k
  if x.state = .disabled then (s.setSpool k { x with state := .empty }).settleSpool k else s.settleSpool k

/-- Disable a spool (R249). -/
def State.spoolOff (s : State) (k : Nat) : State := s.setSpool k { s.spool k with state := .disabled }

/-- Flush a spool (R249): packets complete with FLUSHED, INFLIGHT and TXSEQ 0, EMPTY. -/
def State.spoolFlushOp (s : State) (k : Nat) : State :=
  let u := s.emptySpool k stFlushed
  (u.setSpool k { u.spool k with queue := [], flight := [], txSeq := 0, state := .empty }).settleSpool k

/-- Put a fragment back at the head of its spool (R253, R257). -/
def State.requeue (s : State) (k : Nat) (q : QueueItem) : State :=
  (s.setSpool k { s.spool k with queue := q :: (s.spool k).queue }).settleSpool k

/-- Selection of an endpoint at a beat boundary (R275): failed entries go, SEL follows the choice, the spools follow SEL; the last
usable entry lost starts a repair, a usable one ends it (R287, R288). -/
def State.reselect (s : State) (e : Nat) : State :=
  let had := (routePositions e).any fun pos => (s.route pos).sel
  let u := s.dropFailed e
  let c := u.choice e
  let v := (u.markSelected e c).settleEndpoint e
  match c with
  | some _ => if (v.repairOf e).isSome then v.endRepair e 6 else v.noteFailed e false
  | none => if had then v.startRepair e else v

/-- Selection of every endpoint whose entries changed, at a beat boundary. -/
def State.reselectAll (s : State) : State :=
  let l := s.routes.changed
  ({ s with routes := { s.routes with changed := [] } }).each l State.reselect

/-! ## Acknowledgements (R253-R255) -/

/-- Sequence numbers an acknowledgement names: ACKSEQ + i for every set bit i of ACKMAP (R243). -/
def ackedSeqs (ackSeq ackMap : Nat) : List Nat := ((List.range 16).filter fun i => bit ackMap i).map fun i => (ackSeq + i) % 256

/-- Bytes of a fragment of a packet. -/
def itemBytes (q : QueueItem) (k : Packet) : Nat := if q.size = 0 then k.body.length - q.offset else q.size

/-- An acknowledgement releases a fragment (R253): the route it went by is confirmed and its FAILS cleared (R276), and with its
last fragment the packet completes OK. -/
def State.releaseSeq (s : State) (k seq : Nat) : State :=
  let x := s.spool k
  let flying := x.flight.find? fun q => q.seq == seq
  let waiting := x.queue.find? fun q => q.seq == some seq
  let item := match flying with
    | some q => some q.item
    | none => waiting
  match item with
  | none => s
  | some q =>
    let u := s.setSpool k { x with
      flight := x.flight.filter fun y => y.seq != seq, queue := x.queue.filter fun y => y.seq != some seq }
    let v := match flying with
      | some y =>
        let r := u.route y.route
        if r.valid then u.setRoute y.route { r with confirmed := u.tsc, fails := 0 } else u
      | none => u
    match v.packet q.handle with
    | none => v.settleSpool k
    | some pk =>
      let n := pk.released + itemBytes q pk
      if n ≥ pk.body.length then v.endPacket k q.handle 0
      else ({ v with spools := { v.spools with packets := Table.insert v.spools.packets q.handle { pk with released := n } } }).settleSpool k

/-- The acknowledgement fields of a frame from an endpoint (R243, R253); a pending tone map is acknowledged with its TMAP's SEQ
(R282). -/
def State.applyAck (s : State) (e : Nat) (m : MacFrame) : State :=
  if m.ackMap = 0 then s else
  let seqs := ackedSeqs m.ackSeq m.ackMap
  let u := s.each seqs fun u q => u.releaseSeq (4 * e + m.ackCls) q
  u.each u.routes.links fun v x =>
    if x.2.peer = e ∧ x.2.pending ∧ m.ackCls = 1 ∧ seqs.any (fun q => x.2.tmapSeq == some q) then
      v.setLink x.1 { v.link x.1 with acked := true } else v

/-- Bits of the receive window that are held (R255): the map sent with ACKSEQ = RXBASE. -/
def Spool.ackMapOf (x : Spool) : Nat :=
  ((List.range 16).filter fun i => x.heldRx.any fun h => h.seq == (x.rxBase + i) % 256).foldl (fun a i => a + 2 ^ i) 0

/-- The spool of an endpoint that owes an acknowledgement, lowest class first (R255). -/
def State.ackSpool (s : State) (e : Nat) : Option Nat := (firstBelow (fun c => (s.spool (4 * e + c)).ackDue) 4).map (4 * e + ·)

/-- Acknowledgement fields of the next frame to an endpoint, taken from its spool (R255). -/
def State.withAck (s : State) (e : Nat) (m : MacFrame) : MacFrame × State :=
  match s.ackSpool e with
  | none => (m, s)
  | some k =>
    let x := s.spool k
    ({ m with ackSeq := x.rxBase, ackMap := x.ackMapOf, ackCls := spoolClass k }, s.setSpool k { x with ackDue := false, ackAt := 0 })

/-- The module owes an acknowledgement from now (R255). -/
def State.oweAck (s : State) (k : Nat) : State :=
  let x := s.spool k
  s.setSpool k { x with ackDue := true, ackAt := if x.ackDue then x.ackAt else s.tether.slotCount }

/-! ## Delivery to hosts (R261, R265) -/

/-- Lowest-numbered function whose binding covers an origin and class and whose RXQ is enabled (R261). -/
def State.receiver (s : State) (orig cls : Nat) : Option Nat :=
  firstBelow (fun f =>
    let b := s.val 0x3110 (f + 1)
    decide (bits b 39 22 ≤ orig) && decide (orig ≤ bits b 21 4) && bit b cls && ((s.page f).ring 3).enable) 64

/-- An RXQ descriptor (R265). -/
def rxDescriptor (b : RxBuffer) (n : Nat) (last : Bool) (x : RxPacket) : Bytes :=
  toLE 8 b.addr ++ toLE 2 n ++ toLE 1 x.rx.port
    ++ toLE 1 (x.rx.lane + 4 * x.rx.cls + 16 * ofBool last) ++ toLE 4 x.rx.mac.orig ++ toLE 8 x.rx.acq ++ toLE 4 x.rx.dist
    ++ toLE 4 x.body.length ++ toLE 8 x.rx.detected ++ List.replicate 8 0

/-- Buffers a packet of `n` bytes needs from the front of a list, with the rest of the list; `none` where it lacks buffers. -/
def takeBuffers : Nat → List RxBuffer → Option (List RxBuffer × List RxBuffer)
  | _, [] => none
  | n, b :: bs =>
    if n ≤ b.size then some ([b], bs)
    else match takeBuffers (n - b.size) bs with
      | some (l, rest) => some (b :: l, rest)
      | none => none

/-- Fill buffers with a packet, posting one descriptor each (R265). -/
def State.fillBuffers (s : State) (f : Nat) (x : RxPacket) : List RxBuffer → Bytes → State
  | [], _ => s
  | b :: bs, body =>
    let part := body.take b.size
    let u := (s.emit (.hostWrite f 255 b.addr part)).postRing f 3 (rxDescriptor b part.length bs.isEmpty x)
    u.fillBuffers f x bs (body.drop b.size)

/-- Deliver the packets that wait at a function, oldest first, as far as buffers and RXQ entries last (R261). -/
def State.drainRx (s : State) (f : Nat) : List RxPacket → State
  | [] => s
  | x :: xs =>
    let g := s.page f
    match takeBuffers x.body.length g.rxBufs with
    | some (l, rest) =>
      if (g.ring 2).enable ∧ l.length ≤ (g.ring 3).free then
        let u := (s.setPage f { g with
          rxBufs := rest, rxWait := g.rxWait.drop 1,
          rings := (g.setRing 2 { g.ring 2 with cons := ((g.ring 2).cons + l.length) % (g.ring 2).size }).rings }).fillBuffers f x l x.body
        u.drainRx f xs
      else s
    | none => s

/-- A packet for the module goes to its function, or is counted as undeliverable (R261). -/
def State.deliverPacket (s : State) (body : Bytes) (rx : RxFrame) : State :=
  match s.receiver rx.mac.orig rx.cls with
  | none => s.bump 0x3187 (rx.cls + 1)
  | some f =>
    let u := s.setPage f { s.page f with rxWait := (s.page f).rxWait ++ [⟨body, rx, s.beat⟩] }
    u.drainRx f (u.page f).rxWait

/-! ## Receiving side of ARQ (R254, R256) -/

/-- A frame delivered in order: a whole packet, or the next fragment of the one in assembly; a packet with a gap is discarded. -/
def State.takeInOrder (s : State) (k : Nat) (h : HeldFrame) : State :=
  let x := s.spool k
  let m := h.rx.mac
  if m.type ≠ 1 then s
  else
    let fits := if m.frag = 0 then true else
      match x.parts.getLast? with
      | some y => (y.seq + 1) % 256 == h.seq && y.rx.mac.frag + 1 == m.frag
      | none => false
    if fits = false then s.setSpool k { x with parts := [] }
    else
      let parts := if m.frag = 0 then [h] else x.parts ++ [h]
      if m.more then s.setSpool k { x with parts := parts }
      else (s.setSpool k { x with parts := [] }).deliverPacket (parts.flatMap fun y => y.rx.mac.body) h.rx

/-- Deliver the held frames that are now in order, at most `n` of them. -/
def State.advanceBase (s : State) (k : Nat) : Nat → State
  | 0 => s
  | n + 1 =>
    let x := s.spool k
    match x.heldRx.find? fun h => h.seq == x.rxBase with
    | none => s
    | some h =>
      let u := s.setSpool k { x with rxBase := (x.rxBase + 1) % 256, heldRx := x.heldRx.filter fun y => y.seq != h.seq }
      (u.takeInOrder k h).advanceBase k n

/-- RXBASE passes one number: its held frame is delivered, a missing one counted (R254). -/
def State.passOver (s : State) (k : Nat) : Nat → State
  | 0 => s
  | n + 1 =>
    let x := s.spool k
    let u := match x.heldRx.find? fun h => h.seq == x.rxBase with
      | some h =>
        ((s.setSpool k { x with rxBase := (x.rxBase + 1) % 256, heldRx := x.heldRx.filter fun y => y.seq != h.seq }).takeInOrder k h)
      | none => (s.setSpool k { x with rxBase := (x.rxBase + 1) % 256 }).bump 0x3185 (spoolClass k + 1)
    u.passOver k n

/-- The receive window acts on a frame of a spool (R254); it is acknowledged under R255. -/
def State.receiveSeq (s : State) (k : Nat) (rx : RxFrame) : State :=
  let x := s.spool k
  let w := s.window (spoolClass k)
  let seq := rx.mac.seq
  let d := (seq + 256 - x.rxBase) % 256
  if d ≥ 128 then (s.oweAck k).bump 0x3184 (spoolClass k + 1)
  else
    let u := if d < w then s else s.passOver k (d + 1 - w)
    let y := u.spool k
    let v := if y.heldRx.any (fun h => h.seq == seq) then u.bump 0x3184 (spoolClass k + 1)
      else u.setSpool k { y with heldRx := y.heldRx ++ [⟨seq, rx⟩] }
    (v.oweAck k).advanceBase k 16

/-! ## Requests of hosts (R260-R262, R264) -/

/-- Abort codes of R67 used as statuses. -/
def acAbsent : Nat := 0x0001
/-- Abort codes of R67 used as statuses. -/
def acRange : Nat := 0x0004
/-- Abort codes of R67 used as statuses. -/
def acNoAccess : Nat := 0x0007

/-- Role of a host function (R45). -/
def State.roleOf (s : State) (f : Nat) : Nat := s.val 0x1600 (f + 1)

/-- Checks of a transmit descriptor (R260, R3): the status it is refused with. -/
def State.txCheck (s : State) (d : TxDesc) : Option Nat :=
  if d.len = 0 ∨ d.len > 16384 then some acRange
  else if d.dst ≥ 2 ^ 18 ∨ d.dst = 0 then some acRange
  else if d.dst = broadcastId then
    if d.ports ≥ 2 ^ 36 then some acRange else if d.ports ≥ 2 ^ portCount s.variant then some acAbsent else none
  else if d.dst ≥ endpointSpace s.variant then some acAbsent
  else if d.ports ≠ 0 then some acRange else none

/-- Binding of a function covers a request (R261). -/
def State.bound (s : State) (f : Nat) (d : TxDesc) : Bool :=
  let b := s.val 0x3110 (f + 1)
  if d.dst = broadcastId then decide (2 ≤ s.roleOf f) && bit b d.cls
  else decide (bits b 39 22 ≤ d.dst) && decide (d.dst ≤ bits b 21 4) && bit b d.cls

/-- Requests of a function fetched and not completed: each holds a TXC entry (R259). -/
def State.openRequests (s : State) (f : Nat) : Nat :=
  (s.page f).txWait.length + (s.spools.packets.filter fun e => e.2.owner == some f).length
    + (s.spools.broadcasts.filter fun e => e.2.owner == f).length

/-- Bytes of the packet buffers in use. -/
def State.packetBytes (s : State) : Nat := s.spools.packets.foldl (fun a e => a + e.2.body.length) 0

/-- Size of the packet-buffer partition (R36). -/
def packetSpace : Nat := 6442450944

/-- Bytes one frame of a broadcast holds on a lane: the beacon profile at its maximum NSYM (R211, R245). -/
def State.broadcastBytes (s : State) (p l : Nat) : Nat :=
  let pr := s.beaconProfile p l
  match (fixedBits (s.laneKind p l) (s.laneM p l) pr (s.maxNsym pr)).getLast? with
  | some c => infoCapacity (profileCode pr) c / 8 - 20
  | none => 0

/-- Native data lanes of a port. -/
def State.portLanes (s : State) (p : Nat) : List Nat := ((List.range 4).filter fun l => s.isNativeData p l).map (4 * p + ·)

/-- Result of a finished broadcast (R264). -/
def State.endBroadcast (s : State) (n : Nat) : State :=
  match Table.find s.spools.broadcasts n with
  | none => s
  | some b =>
    if b.todo = [] then
      ({ s with spools := { s.spools with broadcasts := Table.erase s.spools.broadcasts n } }).postTxc b.owner b.tag
        (if b.failed = 0 then 0 else stPartial) 0 b.ok b.failed
    else s

/-- Write a broadcast and end it where every port has succeeded or failed. -/
def State.setBroadcast (s : State) (n : Nat) (b : Broadcast) : State :=
  ({ s with spools := { s.spools with broadcasts := Table.insert s.spools.broadcasts n b } }).endBroadcast n

/-- A port of a broadcast fails: its lanes send no more of it. -/
def State.broadcastFail (s : State) (n p : Nat) : State :=
  match Table.find s.spools.broadcasts n with
  | none => s
  | some b => s.setBroadcast n { b with
      todo := b.todo.filter fun x => x / 4 != p, failed := withBit b.failed p true, ok := withBit b.ok p false }

/-- A lane has ended its frame of a broadcast (R264). -/
def State.broadcastSent (s : State) (n ln : Nat) : State :=
  match Table.find s.spools.broadcasts n with
  | none => s
  | some b =>
    let todo := b.todo.filter (· != ln)
    let done := !(todo.any fun x => x / 4 == ln / 4) && !bit b.failed (ln / 4)
    s.setBroadcast n { b with todo := todo, ok := if done then withBit b.ok (ln / 4) true else b.ok }

/-- A lane has cut its frame of a broadcast: once more, then the port fails (R264). -/
def State.broadcastCut (s : State) (n ln : Nat) : State :=
  match Table.find s.spools.broadcasts n with
  | none => s
  | some b =>
    if b.cutOnce.contains ln then s.broadcastFail n (ln / 4)
    else
      let u := s.setBroadcast n { b with cutOnce := ln :: b.cutOnce }
      let t := (u.lane (ln / 4) (ln % 4)).tx
      u.setTx (ln / 4) (ln % 4) { t with bcast := n :: t.bcast }

/-- The port is no longer RUNNING: broadcasts that still had a turn on it fail there (R264). -/
def State.broadcastsLeave (s : State) (p : Nat) : State :=
  s.each (s.spools.broadcasts.filter fun e => e.2.todo.any fun x => x / 4 == p) fun u e => u.broadcastFail e.1 p

/-- Start a broadcast (R264). -/
def State.startBroadcast (s : State) (f : Nat) (d : TxDesc) : State :=
  let ports := (List.range (portCount s.variant)).filter fun p => if d.ports = 0 then s.running p else bit d.ports p
  let live := ports.filter s.running
  let lanes := live.flatMap s.portLanes
  if lanes.any fun x => s.broadcastBytes (x / 4) (x % 4) < d.len then s.postTxc f d.tag stTooLong 0 0 0
  else
    let n := s.spools.nextBroadcast
    let b : Broadcast :=
      { owner := f, tag := d.tag, cls := d.cls, body := d.packet.take d.len, todo := lanes, cutOnce := [],
        ok := (live.filter fun p => s.portLanes p == []).foldl (fun a p => a + 2 ^ p) 0,
        failed := (ports.filter fun p => !s.running p).foldl (fun a p => a + 2 ^ p) 0,
        ports := ports.foldl (fun a p => a + 2 ^ p) 0 }
    let u := { s with spools := { s.spools with nextBroadcast := n + 1 } }
    let v := u.each lanes fun u x => u.setTx (x / 4) (x % 4)
      { (u.lane (x / 4) (x % 4)).tx with bcast := (u.lane (x / 4) (x % 4)).tx.bcast ++ [n] }
    v.setBroadcast n b

/-- A held block serves no request (R28): the spool store, the route store, or the endpoint's cluster. -/
def State.txHeld (s : State) (e : Nat) : Bool := s.held 2 17 || s.held 2 16 || s.held 2 (s.clusterOf e)

/-- Admit a request (R262): its packet is queued on its spool, or it completes at once (R263). -/
def State.admitTx (s : State) (f : Nat) (d : TxDesc) : State :=
  if d.dst = broadcastId then s.startBroadcast f d
  else
    let k := 4 * d.dst + d.cls
    let x := s.spool k
    if s.txHeld d.dst then s.postTxc f d.tag stBlockHeld 0 0 0
    else if x.state = .disabled then s.postTxc f d.tag stDisabled 0 0 0
    else if x.depth ≥ s.val 0x3105 (d.cls + 1) then (s.postTxc f d.tag stQueueFull 0 0 0).bump 0x3186 (d.cls + 1)
    else if s.packetBytes + d.len > packetSpace then (s.postTxc f d.tag stNoBuffer 0 0 0).bump 0x3190 5
    else
      let h := s.spools.nextHandle
      let pk : Packet := { dst := d.dst, cls := d.cls, body := d.packet.take d.len, tag := d.tag, owner := some f, retries := 0, released := 0 }
      let u := { s with spools := { s.spools with
        packets := Table.insert s.spools.packets h pk, nextHandle := if h + 1 = 2 ^ 32 then 1 else h + 1 } }
      let q : QueueItem := ⟨h, 0, 0, none, 0, 0, true⟩
      (u.setSpool k { x with queue := x.queue ++ [q] }).settleSpool k

/-- Advance TXQ's consumer index past an admitted or refused descriptor (R262, log 13). -/
def State.consumeTx (s : State) (f : Nat) : State :=
  let g := (s.page f).ring 0
  s.setPage f ((s.page f).setRing 0 { g with cons := (g.cons + 1) % g.size })

/-- Take the next posted descriptor: refused (R260, R261), admitted at once where it is class 0, else waiting (R262). -/
def State.fetchOne (s : State) (f : Nat) (d : TxDesc) : State :=
  match s.txCheck d with
  | some st =>
    let g := (s.page f).ring 0
    ((s.setPage f ((s.page f).setRing 0 { g with badDesc := true })).postTxc f d.tag st 0 0 0).consumeTx f
  | none =>
    if !s.bound f d then (s.postTxc f d.tag acNoAccess 0 0 0).consumeTx f
    else if d.cls = 0 then (s.admitTx f d).consumeTx f
    else s.setPage f { s.page f with txWait := (s.page f).txWait ++ [d] }

/-- Fetch posted descriptors while TXQ is enabled, at most 16 are ahead, and a TXC entry can be reserved; else TXQ stalls (R259,
R262). -/
def State.fetchTx (s : State) (f : Nat) : List TxDesc → State
  | [] =>
    let g := (s.page f).ring 0
    s.setPage f { (s.page f).setRing 0 { g with stalled := false } with txPosted := [] }
  | d :: ds =>
    let g := (s.page f).ring 0
    if !g.enable then s.setPage f { (s.page f) with txPosted := d :: ds }
    else if (s.page f).txWait.length ≥ 16 then s.setPage f { (s.page f).setRing 0 { g with stalled := false } with txPosted := d :: ds }
    else if ((s.page f).ring 1).free ≤ s.openRequests f then
      s.setPage f { (s.page f).setRing 0 { g with stalled := true } with txPosted := d :: ds }
    else (s.fetchOne f d).fetchTx f ds

/-- Fetch as far as possible. -/
def State.resumeTx (s : State) (f : Nat) : State := s.fetchTx f (s.page f).txPosted

/-- Peak occupancy of a block in the ending beat, 0.1 % (R89, R262). -/
def State.occupancyOf (s : State) (r b : Nat) : Nat :=
  match (s.block r b).occupancy.head? with
  | some o => if o.1 + 1 = s.beat then o.2 else 0
  | none => 0

/-- Cluster that serves a request: the endpoint's, or for a broadcast that of its first port (log 13). -/
def State.servingCluster (s : State) (d : TxDesc) : Nat :=
  if d.dst = broadcastId then ((firstBelow (bit d.ports) 36).getD 0) % clusterCount s.variant else s.clusterOf d.dst

/-- Admit the waiting descriptors of a function whose cluster was below the limit in the ending beat (R262). -/
def State.admitWaiting (s : State) (f : Nat) : State :=
  let lim := s.val 0x3106 2
  let ok := fun d => decide (s.occupancyOf 2 (s.servingCluster d) < lim)
  let l := (s.page f).txWait
  let u := s.setPage f { s.page f with txWait := l.filter fun d => !ok d }
  ((u.each (l.filter ok) fun v d => (v.admitTx f d).consumeTx f)).resumeTx f

end Sys2Proof.Machine
end

