-- ==== Sys2Proof/Machine/EventOps.lean ====
section
/-! DEFINITION. The event log and the event mailboxes (R100, R101, R449, R451). -/

namespace Sys2Proof.Machine

/-- Length of the reorder stage: 2 beats (R101). -/
def reorderNs : Nat := 80000

/-- A record comes before another in the log (R100). -/
def recordBefore (a b : LogRecord) : Bool := decide (a.time < b.time) || (a.time == b.time && decide (a.source < b.source))

/-- A function's event mailbox takes a record (R451): lowest severity, role and room. -/
def State.mailRecord (s : State) (r : LogRecord) (f : Nat) : State :=
  let x := s.page f
  let min := if f = 0 then Nat.min 3 x.minSev else x.minSev
  if x.evtEnable ∧ min ≤ r.severity ∧ s.roleOf f ≠ 0 then
    if x.evtFifo.length < 16 then
      let u := s.setPage f { x with evtFifo := x.evtFifo ++ [r] }
      if x.evtFifo = [] ∧ x.evtIrqEn then u.emit (.msix f x.evtVector) else u
    else s.setPage f { x with evtOverflow := true, evtLost := Nat.min 0xFFFFFFFF (x.evtLost + 1) }
  else s

/-- Write a record (R449): below 1800.05 only alarms and fatal events are written. -/
def State.writeRecord (s : State) (r : LogRecord) : State :=
  if r.severity < s.val 0x1800 5 ∧ r.severity < sevAlarm then s
  else
    let x := s.log
    let r := { r with issue := x.issue }
    let u := { s with log := { x with
      records := Table.insert x.records x.next r, next := (x.next + 1) % 65536, written := x.written + 1, issue := (x.issue + 1) % 65536 } }
    u.each (u.pages.map Prod.fst) fun v f => v.mailRecord r f

/-- Records whose 2 beats are over leave the reorder stage. -/
def State.flushStage (s : State) : State :=
  let due : LogRecord → Bool := fun r => decide (r.time + reorderNs < s.tsc)
  let l := s.log.stage
  ({ s with log := { s.log with stage := l.filter fun r => !due r } }).each (l.filter due) State.writeRecord

/-- An event is delivered to the log (R100, R101): into the reorder stage, or, later than 2 beats, behind everything written. -/
def State.deliverEvent (s : State) (e : EventIn) : State :=
  let u := s.flushStage
  let r : LogRecord := { time := e.time, source := e.source, code := e.code, severity := e.severity, flags := 0, issue := 0, data := e.data }
  if e.time + reorderNs < u.tsc then (u.writeRecord { r with flags := 1 }).bump 0x1220 2
  else { u with log := { u.log with stage := insertBy recordBefore r u.log.stage } }

/-- EVENT_DELIVERY (R100): an event that a cell brings, or the oldest detected one. -/
def execEventDelivery (t : Nat) (ev : Option EventIn) (s : State) : Res :=
  s.run t fun s =>
    match ev with
    | some e => s.deliverEvent e
    | none =>
      match s.log.detected with
      | e :: l => ({ s with log := { s.log with detected := l } }).deliverEvent e
      | [] => s.flushStage

/-- EVT_POP (R451): the word written to EVT_POP. -/
def execEvtPop (t f : Nat) (w : Word32) (s : State) : Res :=
  s.run t fun s => if s.open f ∧ bit w.toNat 0 then s.setPage f { s.page f with evtFifo := (s.page f).evtFifo.drop 1 } else s

/-- Clear OVERFLOW, and LOST with it. -/
def Page.clearOverflow (x : Page) : Page := { x with evtOverflow := false, evtLost := 0 }

/-- EVT_OVERFLOW_CLEAR (R451): the word written to EVT_STATUS. -/
def execEvtOverflowClear (t f : Nat) (w : Word32) (s : State) : Res :=
  s.run t fun s => if s.open f ∧ bit w.toNat 30 then s.setPage f (s.page f).clearOverflow else s

end Sys2Proof.Machine
end

