-- ==== Sys2Proof/Machine/HierOps.lean ====
section
/-! DEFINITION. Containment, escalation and ballast requests (R20-R25, R31, R440, R444). -/

namespace Sys2Proof.Machine

/-! ## Cells (R14, R20, R21) -/

/-- Cells of one kind that can take over each other's work (R20); empty for a cell without peers, which a ballast engine or core is too (DEDUCED,
log 54). -/
def peerCells (r b c : Nat) : List Nat :=
  if r = 2 ∧ b < 16 ∧ c < 16 then List.range 16
  else if r = 2 ∧ b = 18 ∧ c < 16 then List.range 16
  else if r = 2 ∧ b = 18 ∧ c < 24 then (List.range 8).map (16 + ·)
  else if r = 2 ∧ b = 18 ∧ c < 28 then (List.range 4).map (24 + ·)
  else if r = 3 ∧ b = 0 ∧ c < 16 then List.range 16
  else if r = 3 ∧ b = 2 ∧ c < 32 then List.range 32 else []

/-- Store banks and a cluster's shared SRAM are handled per entry (R21). -/
def perEntry (r b c : Nat) : Bool := r == 2 && ((b == 16 || b == 17) && decide (c < 33) || decide (b < 16) && c == 17)

/-- The cell is withdrawn. -/
def State.isWithdrawn (s : State) (r b c : Nat) : Bool := bit (s.block r b).withdrawn c

/-! ## Ballast (R440) -/

/-- Ballast units that can serve a primary named by its source number (R440): a port by its whole block, else a cell. -/
def ballastUnits (src : Nat) : List Nat :=
  let r := srcRegion src
  let b := srcBlk src
  let c := srcCell src
  if r = 1 ∧ b < 36 ∧ c = 0x3F then [0, 1]
  else if r = 2 ∧ b < 16 ∧ c < 16 then [2 + b]
  else if r = 2 ∧ b = 16 ∧ c < 32 then [18]
  else if r = 2 ∧ b = 17 ∧ c < 32 then [19]
  else if r = 3 ∧ b = 0 ∧ c < 16 then [20]
  else if r = 4 ∧ b = 0 ∧ c < 2 then [21] else []

/-- Primary that a failing cell stands for: its port, or itself. -/
def primaryOf (src : Nat) : Nat := if srcRegion src = 1 then srcBlock 1 (srcBlk src) else src

/-- A unit can serve: the ballast engines' domain D29 runs for units 2-17 (R13). -/
def State.unitPowered (s : State) (u : Nat) : Bool :=
  !(decide (2 ≤ u) && decide (u ≤ 17)) || (s.domain ballastDomain).state == .on

/-- An idle unit of a primary's kind (R440, R445). -/
def State.idleUnit (s : State) (src : Nat) : Option Nat :=
  if hasBallast s.variant then (ballastUnits src).find? fun u => (s.unit u).state == 0 && s.unitPowered u else none

/-- The unit that serves a primary, or is to serve it. -/
def State.unitServing (s : State) (src : Nat) : Option Nat :=
  (ballastUnits src).find? fun u => ((s.unit u).state == 2 || (s.unit u).state == 3) && (s.unit u).primary == src

/-- A cell does its work: it is not withdrawn, or a unit stands in for it (R20, R440). -/
def State.cellServes (s : State) (r b c : Nat) : Bool :=
  !s.isWithdrawn r b c || (ballastUnits (srcOf r b c)).any fun u =>
    (s.unit u).state == 3 && (s.unit u).primary == srcOf r b c && s.unitPowered u

/-- A unit of a primary's kind that was requested at this very TSC for a higher source of the same block (R31). -/
def State.tiedUnit (s : State) (src : Nat) : Option SwapRequest :=
  s.sup.requests.find? fun q =>
    (ballastUnits src).contains q.unit && q.time == s.tsc && q.reason == 1 && !q.back && decide (src < q.primary)
      && srcRegion q.primary == srcRegion src && srcBlk q.primary == srcBlk src

/-- A substitution is requested (R440): the unit is pending for the primary. -/
def State.requestSwap (s : State) (src reason : Nat) : State :=
  match s.idleUnit src with
  | some u =>
    let v := s.setUnit u { state := 2, reason := reason, primary := src }
    { v with sup := { v.sup with requests := v.sup.requests ++ [⟨u, src, reason, s.tsc, false, false⟩] } }
  | none => s

/-- The data of events 0x0903 and 0x0904: unit, primary source, reason (R450). -/
def ballastData (u src reason : Nat) : Bytes := toBE 1 u ++ toBE 2 src ++ toBE 1 reason

/-- The running substitution ends (R441-R444): `moved` where the unit has taken or left its place, else as before it. -/
def State.endSwap (s : State) (q : SwapRequest) (moved : Bool) : State :=
  let u := { s with sup := { s.sup with running := none } }
  if moved then
    if q.back then
      let v := { u with rst := { u.rst with
        backup := { u.rst.backup with substitutions := Table.erase u.rst.backup.substitutions q.unit },
        flashSubstitutions := Table.erase u.rst.flashSubstitutions q.unit } }
      (v.setUnit q.unit {}).event (srcOf 5 4 1) 0x0904 sevNotice (ballastData q.unit q.primary q.reason)
    else
      let v := u.setUnit q.unit { state := 3, reason := q.reason, primary := q.primary }
      let w := if q.reason = 1 then v else { v with rst := { v.rst with
        backup := { v.rst.backup with
          substitutions := Table.insert v.rst.backup.substitutions q.unit (q.primary + 0x10000 * q.reason) },
        flashSubstitutions := Table.insert v.rst.flashSubstitutions q.unit (q.primary + 0x10000 * q.reason) } }
      w.event (srcOf 5 4 1) 0x0903 sevNotice (ballastData q.unit q.primary q.reason)
  else if q.back then u else u.setUnit q.unit {}

/-! ## Escalation to the region (R22-R25) -/

/-- The region is resetting a block. -/
def State.regionBusy (s : State) (r : Nat) : Bool := Table.get 0 s.hier.busy r != 0

/-- The block waits for its reset. -/
def State.queuedReset (s : State) (r b : Nat) : Bool := s.hier.queue.any fun q => q.region == r && q.block == b

/-- Idle is requested of a block (R23, step 1), whose escalation was at TSC `time`. -/
def State.requestIdle (s : State) (r b time : Nat) : State :=
  let u := s.setBlock r b { s.block r b with state := .idleReq, idleAt := s.tsc, escalatedAt := time }
  { u with hier := { u.hier with busy := Table.put 0 u.hier.busy r (b + 1) } }

/-- Insert an escalation in order of its time, ties to the lower block (R24). -/
def insertEscalation (q : Escalation) : List Escalation → List Escalation
  | [] => [q]
  | e :: l =>
    if q.time < e.time ∨ (q.time = e.time ∧ q.block < e.block) then q :: e :: l else e :: insertEscalation q l

/-- A block waits for its region (R24). -/
def State.queueReset (s : State) (r b : Nat) : State :=
  { s with hier := { s.hier with queue := insertEscalation ⟨s.tsc, r, b⟩ s.hier.queue } }

/-- The block whose idle a region requested for an escalation of this very TSC, where a lower block of the same TSC goes before it
(R24). -/
def State.overtaken (s : State) (r b : Nat) : Option Nat :=
  let k := Table.get 0 s.hier.busy r - 1
  let x := s.block r k
  if s.regionBusy r ∧ b < k ∧ x.state = .idleReq ∧ x.idleAt = s.tsc ∧ x.escalatedAt = s.tsc then some k else none

/-- A block is escalated to its region (R22, R24): reset one at a time, else queued; of two escalations with one timestamp the lower
block's is first. -/
def State.regionReset (s : State) (r b : Nat) : State :=
  if (s.block r b).state ≠ .running ∨ s.queuedReset r b then s
  else
    match s.overtaken r b with
    | some k => ((s.setBlock r k { s.block r k with state := .running }).queueReset r k).requestIdle r b s.tsc
    | none => if s.regionBusy r then s.queueReset r b else s.requestIdle r b s.tsc

/-- The region has finished with a block: its next one in the queue follows (R24). -/
def State.regionNext (s : State) (r : Nat) : State :=
  let u := { s with hier := { s.hier with busy := Table.put 0 s.hier.busy r 0 } }
  match u.hier.queue.find? fun q => q.region == r && (u.block r q.block).state == .running with
  | some q => ({ u with hier := { u.hier with queue := u.hier.queue.erase q } }).requestIdle r q.block q.time
  | none => u

/-- Engine cycles of one engine in a beat (R20, R85). -/
def engineBudget : Nat := 48000

/-- Engine cycles of an item (R266). -/
def workCost (x : WorkItem) : Nat :=
  match x.item with
  | .descriptor => 600
  | .pass => 450
  | .formed b => 2800 + b / 16
  | .received b => 3200 + b / 16
  | .ack => 900
  | .beacon => 9000
  | .planning => 40000

/-- Class in which an item is taken up (R266): beacons are class 1, planning is maintenance, after class 3 (R88). -/
def workRank (x : WorkItem) : Nat :=
  match x.item with
  | .beacon => 1
  | .planning => 4
  | _ => x.cls

/-- Cycles a cell has taken up in this beat. -/
def cellLoad (l : List (Nat × WorkItem)) (c : Nat) : Nat := l.foldl (fun a e => if e.1 = c then a + workCost e.2 else a) 0

/-- Give each item to the first cell in service with room for it in the beat; those that find none are left over (R20, R85). -/
def State.takeUp (s : State) (r b : Nat) : List WorkItem → List (Nat × WorkItem) → List (Nat × WorkItem) × List WorkItem
  | [], taken => (taken, [])
  | x :: l, taken =>
    match (List.range 16).find? fun c => s.cellServes r b c && decide (cellLoad taken c + workCost x ≤ engineBudget) with
    | some c => s.takeUp r b l (taken ++ [(c, x)])
    | none =>
      let k := s.takeUp r b l taken
      (k.1, x :: k.2)

/-- The open items of a withdrawn engine return to the cluster's queue, and its peers take them up in the same beat as far as their budget
allows (R20); what they cannot take stays with the cell until the boundary (R32). -/
def State.engineItems (s : State) (r b c : Nat) : State :=
  let x := s.block r b
  let mine := (x.openItems.filter fun e => e.1 == c).map Prod.snd
  let k := s.takeUp r b mine (x.openItems.filter fun e => e.1 != c)
  s.setBlock r b { x with openItems := k.1 ++ k.2.map fun w => (c, w) }

/-- Cells that take an item of the coding pool, its size in them, and their room per beat (R226). -/
def poolKind (x : PoolItem) : List Nat × Nat × Nat :=
  if x.encode then ((List.range 4).map (24 + ·), if x.broadband then 6 else 1, 144)
  else if x.broadband then ((List.range 8).map (16 + ·), 1, 10) else (List.range 16, 1, 4)

/-- Room a cell of the coding pool has used in this beat. -/
def poolLoad (l : List (Nat × PoolItem)) (c : Nat) : Nat := l.foldl (fun a e => if e.1 = c then a + (poolKind e.2).2.1 else a) 0

/-- Give each item to the first cell of its kind in service with room for it in the beat (R226, R227); those that find none are left over. -/
def State.grantPool (s : State) : List PoolItem → List (Nat × PoolItem) → List (Nat × PoolItem) × List PoolItem
  | [], taken => (taken, [])
  | x :: l, taken =>
    let k := poolKind x
    match k.1.find? fun c => !s.isWithdrawn 2 18 c && decide (poolLoad taken c + k.2.1 ≤ k.2.2) with
    | some c => s.grantPool l (taken ++ [(c, x)])
    | none =>
      let m := s.grantPool l taken
      (m.1, x :: m.2)

/-- The codewords of a withdrawn cell of the coding pool: its peers take them up as far as their room in this beat allows (R20), the others
stay with the cell until the boundary (R32). -/
def State.poolItems (s : State) (c : Nat) : State :=
  let mine := (s.hier.grants.filter fun e => e.1 == c).map Prod.snd
  let k := s.grantPool mine (s.hier.grants.filter fun e => e.1 != c)
  { s with hier := { s.hier with grants := k.1 ++ k.2.map fun x => (c, x) } }

/-- Jobs with segments open on a withdrawn AES core: its peers finish them in the beat, or they come back (R20, R32). -/
def State.coreItems (s : State) (c : Nat) : State :=
  let mark : CipherJob → CipherJob := fun j =>
    if j.cells.contains c && decide (j.finished < j.granted) then { j with lost := true } else j
  { s with cipher := { s.cipher with jobs := s.cipher.jobs.map fun (e : Nat × CipherJob) => (e.1, mark e.2) } }

/-- Parts that run on a withdrawn check unit: its peers finish them in the beat, or they come back (R20). -/
def State.checkItems (s : State) (c : Nat) : State :=
  { s with checkParts := s.checkParts.map fun (x : CheckPart) =>
      if x.dispatched && x.unit == c && x.granted == x.segments then { x with lost := true } else x }

/-- The open items of a withdrawn cell (R20). -/
def State.reopen (s : State) (r b c : Nat) : State :=
  if r = 2 ∧ b < 16 then s.engineItems r b c else if r = 2 ∧ b = 18 then s.poolItems c
  else if r = 3 ∧ b = 0 then s.coreItems c else if r = 3 ∧ b = 2 then s.checkItems c else s

/-- Without ballast a cell with peers in service is only withdrawn; any other escalates its block (R20, R22, R31). -/
def State.fallBack (s : State) (src : Nat) : State :=
  let r := srcRegion src
  let b := srcBlk src
  if (peerCells r b (srcCell src)).contains (srcCell src) && !(peerCells r b (srcCell src)).all (fun k => s.isWithdrawn r b k) then s
  else s.regionReset r b

/-- Ballast for a failing primary, where a unit is idle, or was requested at this very TSC for a higher source of the block, which then falls
back itself (R20, R22, R31). -/
def State.standIn (s : State) (src : Nat) : State :=
  if (s.idleUnit src).isSome then s.requestSwap src 1
  else
    match s.tiedUnit src with
    | some q =>
      ((({ s with sup := { s.sup with requests := s.sup.requests.erase q } }).setUnit q.unit {}).requestSwap src 1).fallBack q.primary
    | none => s.fallBack src

/-- An error of a cell without peers (R22): ballast takes the place of its port or ring pair where a unit is idle, else the
block is escalated. -/
def State.escalate (s : State) (src : Nat) : State :=
  let pr := primaryOf src
  if (srcRegion src = 1 ∨ (srcRegion src = 4 ∧ srcBlk src = 0)) ∧ (s.unitServing pr).isNone then s.standIn pr
  else s.regionReset (srcRegion src) (srcBlk src)

/-- A cell with peers is withdrawn (R20): its open items return to its peers, and its ballast unit is requested. -/
def State.withdraw (s : State) (r b c : Nat) : State :=
  let x := s.block r b
  if bit x.withdrawn c then s else
  (((s.setBlock r b { x with
      withdrawn := withBit x.withdrawn c true, grantsBack := x.grantsBack ++ [c],
      contained := (s.tsc, c) :: x.contained.filter fun (e : Nat × Nat) => e.1 / beatNs == s.beat }).event
    (srcOf r b c) 0x0203 sevWarning []).reopen r b c).standIn (srcOf r b c)

/-- A block's transfers leave the fabric with it (R23). -/
def State.dropTransfers (s : State) (r b : Nat) : State :=
  { s with hier := { s.hier with
      fabricWait := s.hier.fabricWait.filter fun q => !(q.region == r && q.block == b)
      fabricGrants := s.hier.fabricGrants.filter fun e => !(e.2.region == r && e.2.block == b) } }

/-- Containment of a failing cell (R20-R22); numbers that the block does not use name no cell (R14). -/
def State.contain (s : State) (src : Nat) : State :=
  let r := srcRegion src
  let b := srcBlk src
  let c := srcCell src
  if cellPresent s.variant r b c = false then s
  else if (peerCells r b c).contains c then s.withdraw r b c else s.escalate src

/-- A bank is to be replaced by its ballast bank (R21), where one is idle. -/
def State.replaceBank (s : State) (src : Nat) : State :=
  if (s.unitServing src).isSome then s else s.requestSwap src 1

end Sys2Proof.Machine
end

