-- ==== Sys2Proof/Machine/FabricOps.lean ====
section
/-! DEFINITION. Arbitration of the fabric (R17-R19): the cell's fixed order, the block's round robin, the region's weighted round robin, and a
64-slot wheel per target. -/

namespace Sys2Proof.Machine

/-- Round robin: the next number above the last one served, else the least (R17). -/
def nextInTurn (last : Option Nat) (l : List Nat) : Option Nat :=
  let least : List Nat → Option Nat := fun m => m.foldl (fun a n => match a with | some k => some (min k n) | none => some n) none
  match last with
  | some k => (least (l.filter fun n => decide (k < n))).orElse fun _ => least l
  | none => least l

/-- Slots of a wheel (R17), and of a beat: one transfer of 64 bytes per slot at 1 GHz, so that a wheel begins with each beat. -/
def wheelSlots : Nat := 64

/-- The slot is reserved for class-0 transfers (R18): the first 1010.06 of the wheel (log 49). -/
def State.slotReserved (s : State) (slot : Nat) : Bool := decide (slot % wheelSlots < s.val 0x1010 6)

/-- The requests that compete for a slot of a target: in a reserved slot those of class 0, where any is pending (R18). -/
def State.slotCandidates (s : State) (target slot : Nat) : List FabricRequest :=
  let l := s.hier.fabricWait.filter fun q => q.transfer.target == target
  let zero := l.filter fun q => q.transfer.rank == 0
  if s.slotReserved slot && zero != [] then zero else l

/-- The block whose turn it is in a region: weighted round robin over the blocks with requests, up to 1041-1045 grants in a row (R17, R19). -/
def State.blockInTurn (s : State) (r : Nat) (l : List Nat) : Option (Nat × Nat) :=
  let x := Table.get {} s.hier.regionTurns r
  match x.block with
  | some b =>
    if l.contains b && decide (x.used < s.val (0x1040 + r) (b + 1)) then some (b, x.used + 1)
    else (nextInTurn (some b) l).map fun n => (n, 1)
  | none => (nextInTurn none l).map fun n => (n, 1)

/-- The request that is granted among candidates: region, block and cell in turn, and of one cell the lowest rank, oldest first (R17). -/
def State.grantOf (s : State) (target : Nat) (l : List FabricRequest) : Option (FabricRequest × Nat) :=
  match nextInTurn (Table.find s.hier.targetTurns target) (l.map fun q => q.region) with
  | none => none
  | some r =>
    let lr := l.filter fun q => q.region == r
    match s.blockInTurn r (lr.map fun q => q.block) with
    | none => none
    | some (b, used) =>
      let lb := lr.filter fun q => q.block == b
      match nextInTurn (s.block r b).turn (lb.map fun q => q.transfer.cell) with
      | none => none
      | some c =>
        let lc := lb.filter fun q => q.transfer.cell == c
        let rank := lc.foldl (fun a q => min a q.transfer.rank) 5
        ((lc.find? fun (q : FabricRequest) => decide (q.transfer.rank ≤ rank)).orElse fun _ => lc.head?).map fun q => (q, used)

/-- One slot of a target: the granted transfer leaves the waiting ones, and the arbiters it crossed pass their turns on. -/
def State.grantSlot (s : State) (target slot : Nat) : State :=
  match s.grantOf target (s.slotCandidates target slot) with
  | none => s
  | some (q, used) =>
    let u := s.setBlock q.region q.block { s.block q.region q.block with turn := some q.transfer.cell }
    { u with hier := { u.hier with
        fabricWait := u.hier.fabricWait.erase q, fabricGrants := u.hier.fabricGrants ++ [(slot, q)],
        targetTurns := Table.insert u.hier.targetTurns target q.region,
        regionTurns := Table.insert u.hier.regionTurns q.region { block := some q.block, used := used } } }

/-- The slots of a beat that a target needs for the transfers waiting for it. -/
def State.grantTarget (s : State) (target : Nat) : State :=
  s.each (List.range (min beatNs (s.hier.fabricWait.filter fun q => q.transfer.target == target).length)) fun u k =>
    u.grantSlot target k

/-- The fabric at a boundary (R17-R19): the transfers granted in the ending beat are done, those asked for in the new one are granted in turn. -/
def State.fabricTick (s : State) : State :=
  let u := { s with hier := { s.hier with fabricGrants := [] } }
  u.each (u.hier.fabricWait.map fun q => q.transfer.target).dedup State.grantTarget

/-- A block asks for transfers, by its cells in service (R14, R17). -/
def State.askTransfers (s : State) (r b : Nat) (l : List Transfer) : State :=
  let new := (l.filter fun x => cellPresent s.variant r b x.cell && s.cellServes r b x.cell).map fun x => (⟨r, b, x⟩ : FabricRequest)
  { s with hier := { s.hier with fabricWait := s.hier.fabricWait ++ new } }

end Sys2Proof.Machine
end

