-- ==== Sys2Proof/Machine/Aes.lean ====
section
/-! DEFINITION. AES (FIPS 197) and CMAC (SP 800-38B), which R297 and R333 name. A block is a number of 128 bits, its first byte the most
significant; inside a round the state is the list of its 16 bytes. -/

namespace Sys2Proof.Machine.Aes

/-- The S-box, entry x in bits 8x to 8x + 7. -/
def sboxTable : Nat :=
  0xC072A49CAFA2D4ADF04759FA7DC982CA76ABD7FE2B670130C56F6BF27B777C63
    + 0x75B227EBE28012079A059618C323C7041531D871F1E5A534CCF73F362693FDB7 * 2 ^ 256
    + 0xCF584C4A39BECB6A5BB1FC20ED00D153842FE329B3D63B52A05A6E1B1A2C8309 * 2 ^ 512
    + 0xD2F3FF1021DAB6BCF5389D928F40A351A89F3C507F02F94585334D43FBAAEFD0 * 2 ^ 768
    + 0xDB0B5EDE14B8EE4688902A22DC4F816073195D643D7EA7C41744975FEC130CCD * 2 ^ 1024
    + 0x08AE7A65EAF4566CA94ED58D6D37C8E779E4959162ACD3C25C2406490A3A32E0 * 2 ^ 1280
    + 0x9E1DC186B95735610EF6034866B53E708A8BBD4B1F74DDE8C6B4A61C2E2578BA * 2 ^ 1536
    + 0x16BB54B00F2D99416842E6BF0D89A18CDF2855CEE9871E9B948ED9691198F8E1 * 2 ^ 1792

/-- The inverse S-box, entry x in bits 8x to 8x + 7. -/
def invTable : Nat :=
  0xCBE9DEC444438E3487FF2F9B8239E37CFBD7F3819EA340BF38A53630D56A0952
    + 0x25D18B6D49A25B76B224D92866A12E084EC3FA420B954CEE3D23C2A632947B54 * 2 ^ 256
    + 0x849D8DA75746155EDAB9EDFD5048706C92B6655DCC5CA4D41698688664F6F872 * 2 ^ 512
    + 0x6B8A130103BDAFC1020F3FCA8F1E2CD00645B3B80558E4F70AD3BC8C00ABD890 * 2 ^ 768
    + 0x6EDF751CE837F9E28535ADE72274AC9673E6B4F0CECFF297EADC674F4111913A * 2 ^ 1024
    + 0xF45ACD78FEC0DB9A2079D2C64B3E56FC1BBE18AA0E62B76F89C5291D711AF147 * 2 ^ 1280
    + 0xEF9CC9939F7AE52D0D4AB519A97F51605FEC8027591012B131C7078833A8DD1F * 2 ^ 1536
    + 0x7D0C2155631469E126D677BA7E042B17619953833CBBEBC8B0F52AAE4D3BE0A0 * 2 ^ 1792

/-- SubBytes of one byte. -/
def sbox (x : Nat) : Nat := (sboxTable >>> (8 * x)) % 256

/-- InvSubBytes of one byte. -/
def invSbox (x : Nat) : Nat := (invTable >>> (8 * x)) % 256

/-- Multiplication by x in GF(2^8). -/
def xtime (a : Nat) : Nat := if a < 128 then 2 * a else Nat.xor (2 * a) 0x11B

/-- The 16 bytes of a block. -/
def blockBytes (v : Nat) : List Nat := (List.range 16).map fun i => (v >>> (8 * (15 - i))) % 256

/-- The block of 16 bytes. -/
def ofBlockBytes (l : List Nat) : Nat := l.foldl (fun a b => a * 256 + b) 0

/-- Byte `i` of a state. -/
def at_ (l : List Nat) (i : Nat) : Nat := l[i]?.getD 0

/-- Bytewise exclusive or of words. -/
def xorWord (a b : List Nat) : List Nat := (a.zip b).map fun e => Nat.xor e.1 e.2

/-- Words of the key schedule after those of the key, newest first: `n` more from word number `i` on, for a key of `nk` words. -/
def expand (nk : Nat) : Nat → Nat → Nat → List (List Nat) → List (List Nat)
  | 0, _, _, w => w
  | n + 1, i, rcon, w =>
    let prev := w.head?.getD []
    let old := w[nk - 1]?.getD []
    if i % nk = 0 then
      let t := ((prev.drop 1) ++ prev.take 1).map sbox
      let t := xorWord t [rcon, 0, 0, 0]
      expand nk n (i + 1) (xtime rcon) (xorWord old t :: w)
    else if nk = 8 ∧ i % nk = 4 then expand nk n (i + 1) rcon (xorWord old (prev.map sbox) :: w)
    else expand nk n (i + 1) rcon (xorWord old prev :: w)

/-- Words of a key, first word first. -/
def keyWords (key : List Nat) : Nat → List (List Nat)
  | 0 => []
  | n + 1 => key.take 4 :: keyWords (key.drop 4) n

/-- Round keys as blocks of 16 bytes, first round first. -/
def groupRounds : Nat → List (List Nat) → List (List Nat)
  | 0, _ => []
  | n + 1, w => (w.take 4).flatten :: groupRounds n (w.drop 4)

/-- Round keys of a key of 16, 24 or 32 bytes. -/
def roundKeys (key : Bytes) : List (List Nat) :=
  let nk := key.length / 4
  let nr := nk + 6
  let w := (keyWords (key.map BitVec.toNat) nk).reverse
  groupRounds (nr + 1) (expand nk (4 * (nr + 1) - nk) nk 1 w).reverse

/-- ShiftRows. -/
def shiftRows (l : List Nat) : List Nat := (List.range 16).map fun i => at_ l (i % 4 + 4 * ((i / 4 + i % 4) % 4))

/-- InvShiftRows. -/
def invShiftRows (l : List Nat) : List Nat := (List.range 16).map fun i => at_ l (i % 4 + 4 * ((i / 4 + 4 - i % 4) % 4))

/-- MixColumns of one byte from its column, rotated so that it stands first. -/
def mixByte (a b c d : Nat) : Nat := Nat.xor (Nat.xor (xtime a) (Nat.xor (xtime b) b)) (Nat.xor c d)

/-- MixColumns. -/
def mixColumns (l : List Nat) : List Nat :=
  (List.range 16).map fun i =>
    let c := 4 * (i / 4)
    let r := i % 4
    mixByte (at_ l (c + r)) (at_ l (c + (r + 1) % 4)) (at_ l (c + (r + 2) % 4)) (at_ l (c + (r + 3) % 4))

/-- AddRoundKey. -/
def addKey (l k : List Nat) : List Nat := xorWord l k

/-- The rounds after the first key addition. -/
def rounds : List (List Nat) → List Nat → List Nat
  | [], l => l
  | [k], l => addKey (shiftRows (l.map sbox)) k
  | k :: ks, l => rounds ks (addKey (mixColumns (shiftRows (l.map sbox))) k)

/-- Encrypt one block under round keys. -/
def encryptWith (ks : List (List Nat)) (v : Nat) : Nat :=
  match ks with
  | [] => v
  | k :: rest => ofBlockBytes (rounds rest (addKey (blockBytes v) k))

/-- Encrypt one block. -/
def encrypt (key : Bytes) (v : Nat) : Nat := encryptWith (roundKeys key) v

/-- InvMixColumns: three times MixColumns. -/
def invMixColumns (l : List Nat) : List Nat := mixColumns (mixColumns (mixColumns l))

/-- The inverse rounds, last round key first. -/
def invRounds : List (List Nat) → List Nat → List Nat
  | [], l => l
  | [k], l => addKey ((invShiftRows l).map invSbox) k
  | k :: ks, l => invRounds ks (invMixColumns (addKey ((invShiftRows l).map invSbox) k))

/-- Decrypt one block. -/
def decrypt (key : Bytes) (v : Nat) : Nat :=
  match (roundKeys key).reverse with
  | [] => v
  | k :: rest => ofBlockBytes (invRounds rest (addKey (blockBytes v) k))

/-- Doubling in GF(2^128) of SP 800-38B. -/
def double (v : Nat) : Nat := if v < 2 ^ 127 then 2 * v else Nat.xor (2 * v - 2 ^ 128) 0x87

/-- The 16 bytes of a block as bytes. -/
def toBytes (v : Nat) : Bytes := toBE 16 v

/-- Split bytes into blocks; the last one may be short. -/
def chunk (bs : Bytes) : List Bytes := (List.range ((bs.length + 15) / 16)).map fun i => (bs.drop (16 * i)).take 16

/-- CMAC over a message (SP 800-38B), 128 bits. -/
def cmac (key msg : Bytes) : Nat :=
  let ks := roundKeys key
  let k1 := double (encryptWith ks 0)
  let blocks := if msg = [] then [[]] else chunk msg
  let n := blocks.length
  let body := (blocks.take (n - 1)).foldl (fun c b => encryptWith ks (Nat.xor c (ofBE b))) 0
  let z := blocks[n - 1]?.getD []
  let m := if z.length = 16 then Nat.xor (ofBE z) k1 else Nat.xor (ofBE (slice (z ++ [0x80]) 0 16)) (double k1)
  encryptWith ks (Nat.xor body m)

end Sys2Proof.Machine.Aes
end

