-- ==== Sys2Proof/Machine/EchoModel.lean ====
section
/-! DEFINITION. The arithmetic of echo cancellation (R178-R181): least squares, the analogue model at a carrier, the per-carrier canceller and the
residual filter. Coefficients and taps are in units of 2^-60 (log 66). -/

namespace Sys2Proof.Machine

/-! ## Least squares (R178, R180) -/

/-- Eliminate unknown `c`: rows solved, by their unknown, and rows left; the last column is the right side. -/
def eliminateColumn (x : List (Nat × List Rat) × List (List Rat)) (c : Nat) : List (Nat × List Rat) × List (List Rat) :=
  match x.2.find? fun r => decide (r.getD c 0 ≠ 0) with
  | none => x
  | some r =>
    let p := r.map fun a => a / r.getD c 0
    let clear := fun (q : List Rat) => List.zipWith (fun a b => a - q.getD c 0 * b) q p
    ((c, p) :: x.1.map fun e => (e.1, clear e.2), (x.2.erase r).map clear)

/-- Solution of linear equations in `n` unknowns; an unknown they leave open is 0. -/
def solveLinear (n : Nat) (rows : List (List Rat)) : List Rat :=
  let done := ((List.range n).foldl eliminateColumn ([], rows)).1
  (List.range n).map fun c => match done.find? fun e => e.1 == c with
    | some e => e.2.getD n 0
    | none => 0

/-- Least-squares solution for rows of coefficients and values, in units of 2^-60. -/
def leastSquares (n : Nat) (rows : List (List Int × Int)) : List Int :=
  let sum := fun (f : List Int × Int → Int) => rows.foldl (fun a e => a + f e) (0 : Int)
  let normal := (List.range n).map fun i =>
    (((List.range n).map fun j => sum fun e => e.1.getD i 0 * e.1.getD j 0) ++ [sum fun e => e.1.getD i 0 * e.2]).map fun (v : Int) => (v : Rat)
  (solveLinear n normal).map fun x => (x * 2 ^ 60 + 1 / 2).floor

/-- Taps of the analogue model (R178). -/
def modelTaps : Nat := 128

/-- The model solved over a beat of transmit and receive samples at 200 MS/s, `delay` samples apart (R178). -/
def solveModel (delay : Nat) (samples : List (Int × Int)) : List Int :=
  let tx := samples.map Prod.fst
  let rx := (samples.map Prod.snd).drop delay
  leastSquares modelTaps (((List.range rx.length).zip rx).filterMap fun e =>
    if e.1 + 1 < modelTaps then none else some (((tx.drop (e.1 + 1 - modelTaps)).take modelTaps).reverse, e.2))

/-! ## The model at a carrier (R180) -/

/-- Phase of carrier `k` of a kind's grid after `ps` picoseconds. -/
def delayPhase (kind k ps : Nat) : Cplx :=
  let z := turn (k * ps) (if kind = 2 then 40960000 else 256000000)
  (z.1, -z.2)

/-- Response of taps at 5 ns behind a loop delay in ps, at a carrier. -/
def modelAt (kind delay : Nat) (taps : List Int) (k : Nat) : Cplx :=
  cplxSum ((taps.zip (List.range taps.length)).map fun e => Cplx.scale (delayPhase kind k (delay + 5000 * e.2)) e.1)

/-- The taps whose response comes nearest to coefficients at carriers: the part that a 128-tap model can hold (R180). -/
def modelPart (delay : Nat) (points : List (Nat × Nat × Cplx)) : List Int :=
  leastSquares modelTaps (points.flatMap fun e =>
    let z := (List.range modelTaps).map fun n => delayPhase e.1 e.2.1 (delay + 5000 * n)
    [(z.map Prod.fst, e.2.2.1), (z.map Prod.snd, e.2.2.2)])

/-! ## The per-carrier canceller (R179) -/

/-- Value of a window of samples in a bin. -/
def binValue (l : List Cplx) (bin size : Nat) : Cplx :=
  cplxSum ((l.zip (List.range l.length)).map fun e => let z := turn (bin * e.2 % size) size; Cplx.mul e.1 (z.1, -z.2))

/-- Echo replica of a symbol, prefix first, from coefficients and the reference's spectrum at the bins of their carriers. -/
def echoReplica (kind : Nat) (bins : List Nat) (coefs spectrum : List Cplx) : List Cplx :=
  let n : Int := (fftSize kind : Nat)
  let x := (inverseFft kind (bins.zip ((coefs.zip spectrum).map fun e => Cplx.mul e.1 e.2))).map fun z =>
    if kind = 2 then ((z.1 / n, z.2 / n) : Cplx) else (2 * z.1 / n, 0)
  x.drop (x.length - prefixSamples kind) ++ x

/-- Normalised LMS of a coefficient at step 2^-`shift`, from the error and the reference at its carrier. -/
def lmsUpdate (shift : Nat) (c e x : Cplx) : Cplx :=
  if x.norm = 0 then c
  else
    let d : Int := (x.norm * 2 ^ shift : Nat)
    (c.1 + (e.1 * x.1 + e.2 * x.2) * 2 ^ 60 / d, c.2 + (e.2 * x.1 - e.1 * x.2) * 2 ^ 60 / d)

/-! ## The residual filter (R179) -/

/-- Taps of the residual filter. -/
def residualTaps : Nat := 128

/-- Sign-error LMS of the taps, from the error and the reference, newest first. -/
def signUpdate (w : List Cplx) (e : Cplx) (past : List Cplx) : List Cplx :=
  let step : Int := (Config.residualStep : Nat)
  let a := e.1.sign
  let b := e.2.sign
  List.zipWith (fun (t x : Cplx) => ((t.1 + step * (a * x.1 + b * x.2), t.2 + step * (b * x.1 - a * x.2)) : Cplx)) w past

/-- Leak of the taps toward zero, over `n` samples' time constant. -/
def leak (n : Nat) (w : List Cplx) : List Cplx := w.map fun t => (t.1 - t.1 / (n : Int), t.2 - t.2 / (n : Int))

/-- The filter over samples with their reference: what is left, and the taps; `past` is the reference before, newest first; `tau` the leak where
there is one. -/
def residualRun (tau : Option Nat) : List Cplx → List Cplx → List (Cplx × Cplx) → List Cplx × List Cplx
  | _, w, [] => ([], w)
  | past, w, (x, r) :: l =>
    let past := (r :: past).take residualTaps
    let e := Cplx.sub x (cplxSum (List.zipWith Cplx.mul w past))
    let w := signUpdate w e past
    let y := residualRun tau past (match tau with | some n => leak n w | none => w) l
    (e :: y.1, y.2)

/-! ## Suppression (R181) -/

/-- Ratio of two powers in 0.1 dB, rounded down, between -100 and 200 dB; compared to within 2^-20. -/
def ratioTenths (a b : Nat) : Int :=
  ((List.range 3001).countP fun k => decide (scaleBy (b * 2 ^ 20 : Nat) (powerRatio (100 * ((k : Int) - 1000))) ≤ (a * 2 ^ 20 : Nat)) : Nat) - (1001 : Int)

end Sys2Proof.Machine
end

