-- ==== Sys2Proof/Machine/SymbolOps.lean ====
section
/-! DEFINITION. What a lane radiates (R133-R144, R203-R217, R298): the points of each symbol, their levels, and the samples. -/

namespace Sys2Proof.Machine

/-! ## Points (R134, R204, R215, R216) -/

/-- A carrier's place in the lane's range, its point, and its attenuation in dB. -/
abbrev PlacePoint := Nat × LinePoint × Nat

/-- Index of a level from its Gray code, highest bit first (R215). -/
def grayIndex (l : List Bool) : Nat := (l.foldl (fun (a : Nat × Bool) b => (2 * a.1 + ofBool (a.2 != b), a.2 != b)) (0, false)).1

/-- Level of an axis (R215). -/
def pamLevel (l : List Bool) : Int := 2 * (grayIndex l : Int) - (2 ^ l.length - 1 : Nat)

/-- Point of the bits of a carrier (R215): the first half on I, the rest on Q. -/
def constellation (l : List Bool) : LinePoint :=
  let a := (l.length + 1) / 2
  .pam (pamLevel (l.take a)) (if l.length = 1 then 0 else pamLevel (l.drop a)) ((4 ^ a - 1) / 3 + (4 ^ (l.length - a) - 1) / 3)

/-- BPSK as pilots and chips send it: 0 is +1 on I (R216, R298). -/
def signPoint (b : Bool) : LinePoint := .pam (if b then -1 else 1) 0 1

/-- Phase of place `i` of a preamble symbol over `m` carriers, in π/8 (R204). -/
def preamblePhase (m i : Nat) : Nat := (16 * i * i + m) / (2 * max 1 m) % 16

/-- A preamble symbol: SYNCP, or SYNCM where it is the last; conjugate on a command lane (R204). -/
def preambleSymbol (command last : Bool) (m : Nat) : List PlacePoint :=
  (List.range m).map fun i =>
    let n := preamblePhase m i
    let n := if command then (16 - n) % 16 else n
    (i, LinePoint.phase (if last then (n + 8) % 16 else n), 0)

/-- The preamble of `n` symbols: the last is SYNCM (R203). -/
def preamble (command : Bool) (n m : Nat) : List (List PlacePoint) := (List.range n).map fun i => preambleSymbol command (i + 1 == n) m

/-- Data places of a range of `m` carriers (R134). -/
def dataPlaces (kind m : Nat) : List Nat := (List.range m).filter fun i => i % pilotStep kind != 0

/-- Pilots of one symbol of a range (R134). -/
def pilotCount (kind m : Nat) : Nat := (m + pilotStep kind - 1) / pilotStep kind

/-- Insert the pilots of the `j`-th symbol after the preamble (R134, R216). -/
def withPilots (kind m j : Nat) (data : List PlacePoint) : List PlacePoint :=
  let n := pilotCount kind m
  let p := (pilotBits ((j + 1) * n)).drop (j * n)
  (List.range m).filterMap fun i =>
    if i % pilotStep kind = 0 then some (i, signPoint (p.getD (i / pilotStep kind) false), 0) else data.find? fun e => e.1 == i

/-- The two header symbols (R207). -/
def headerSymbols (kind m : Nat) (h : Header) : List (List PlacePoint) :=
  let d := dataPlaces kind m
  let c := codedHeader h
  (List.range 2).map fun j => withPilots kind m j ((d.zip (List.range d.length)).map fun e =>
    let q := j * d.length + e.2
    (e.1, constellation [c.getD (2 * q % 112) false, c.getD ((2 * q + 1) % 112) false], 0))

/-- The four body symbols of a command frame (R298). -/
def bodySymbols (m tag : Nat) : List (List PlacePoint) :=
  let d := dataPlaces 1 m
  (List.range 4).map fun j => withPilots 1 m j ((d.zip (List.range d.length)).map fun e =>
    (e.1, signPoint (bit tag (31 - (j * d.length + e.2) % 32)), 0))

/-- Place, modulation and attenuation of the data carriers under a tone map (R135). -/
def mapLoads (kind maxMod : Nat) (map : Bytes) : List (Nat × Nat × Nat) :=
  (dataPlaces kind map.length).map fun i =>
    let b := (map[i]?.getD 0).toNat
    (i, if b / 16 > maxMod ∨ b / 16 > 10 then 0 else b / 16, b % 16)

/-- Places of the carriers of payload symbol `m` in the order filled, with their loads (R214 stage 3). -/
def mappedOrder (m : Nat) (loads : List (Nat × Nat × Nat)) : List (Nat × Nat × Nat) :=
  let live := loads.filter fun e => e.2.1 != 0
  (fillOrder live.length m).filterMap fun i => live[i]?

/-- Give each carrier its bits. -/
def takeBits : List (Nat × Nat × Nat) → List Bool → List PlacePoint
  | [], _ => []
  | (i, n, att) :: l, b => (i, constellation (b.take n ++ List.replicate (n - b.length) false), att) :: takeBits l (b.drop n)

/-- Payload symbols from number `j` on, each by its carriers in the order filled (R210, R214). -/
def fillSymbols (kind m : Nat) : Nat → List (List (Nat × Nat × Nat)) → List Bool → List (List PlacePoint)
  | _, [], _ => []
  | j, x :: l, b => withPilots kind m (j + 2) (takeBits x b) :: fillSymbols kind m (j + 1) l (b.drop (x.foldl (fun a e => a + e.2.1) 0))

/-- Bits of a payload in the order its positions take them (R217): position `j` of a stream of `c` bits repeated `r` times. -/
def sentBits (r c : Nat) (stream : List Bool) (n : Nat) : List Bool :=
  if r ≤ 1 then stream
  else let a := stream.toArray; (List.range n).map fun j => a.getD ((j % max 1 c + j / max 1 c * (c / r)) % max 1 c) false

/-- Carriers of each payload symbol in the order filled, with their loads (R143, R214, R217). -/
def payloadOrder (kind m prof maxMod : Nat) (maps : ToneMaps) (sets : List Nat) (nsym : Nat) : List (List (Nat × Nat × Nat)) :=
  (List.range nsym).map fun i =>
    if profileMapping prof = 0 then mappedOrder i (mapLoads kind maxMod (maps.maps[sets[i]?.getD 0]?.getD []))
    else (dataPlaces kind m).map fun k => (k, profileMapping prof, 0)

/-- The payload symbols of a frame (R210-R217, R243). -/
def TxFrame.payload (f : TxFrame) (kind m : Nat) : List (List PlacePoint) :=
  let order := payloadOrder kind m f.prof f.maxMod f.maps f.sets f.nsym
  let n := order.foldl (fun a x => a + x.foldl (fun b e => b + e.2.1) 0) 0
  fillSymbols kind m 0 order (sentBits (profileRep f.prof) f.coded (payloadStream (profileCode f.prof) 0 f.coded (macBytes f.mac)) n)

/-- Header of a frame the module sends (R205): SRC 0. -/
def TxFrame.header (f : TxFrame) : Header :=
  { crcOk := true, ver := 1, prof := f.prof, cls := f.cls, nsym := f.nsym, src := 0, tms := f.tms, sk := f.sk }

/-- Symbols of a preamble by kind (R203). -/
def preambleSymbols (kind : Nat) : Nat := if kind = 2 then 8 else 4

/-- All symbols of a native frame (R203). -/
def TxFrame.points (f : TxFrame) (kind m : Nat) : List (List PlacePoint) :=
  preamble false (preambleSymbols kind) m ++ headerSymbols kind m f.header ++ f.payload kind m

/-- All symbols of a command frame (R203, R298). -/
def commandPoints (m tag : Nat) : List (List PlacePoint) := preamble true 2 m ++ bodySymbols m tag

/-! ## Levels (R126, R136, R144, R151) -/

/-- Carriers of a compliance group (R150). -/
def clipGroupSize (kind : Nat) : Nat := if kind = 2 then 32 else 8

/-- Compliance group of a carrier of a lane (R150). -/
def State.groupOf (s : State) (p l k : Nat) : Nat := (k - s.laneFirst p l) / clipGroupSize (s.laneKind p l)

/-- Level of a carrier at an attenuation in dB, in 0.001 dBm/Hz, none where it is off (R136, R144, R151): limit less back-off, attenuation
and clip; a muted group is off. -/
def State.targetLevel (s : State) (p l k att : Nat) : Option Int :=
  let g := s.groupOf p l k
  match s.carrierLimit p l k with
  | some e => if (s.lane p l).tx.mutedGroups.contains g then none
      else some (100 * e - 500 * (s.lval p l 0x200C 2 : Int) - 1000 * (att : Int) - 500 * ((Table.get 0 (s.lane p l).tx.clips g : Nat) : Int))
  | none => none

/-- The transmit level error of a band in force, 0.001 dB (R126). -/
def State.txError (s : State) (p : Nat) (b : Band) : Int := f32ToMilli (s.portEffective p (match b with | .nb => 1 | .bb => 2))

/-- A symbol as it radiates: carriers that are off left out, levels corrected for the transmit level error (R126, R136, R144). -/
def State.radiated (s : State) (p l : Nat) (x : List PlacePoint) : List LineCarrier :=
  x.filterMap fun e => (s.targetLevel p l (s.laneFirst p l + e.1) e.2.2).map fun v =>
    ⟨s.laneFirst p l + e.1, e.2.1, v - s.txError p (s.laneBand p l)⟩

/-! ## Samples (R133, R136-R138) -/

/-- Selected source impedance of a band in Ω (R104). -/
def State.sourceOhms (s : State) (p : Nat) (b : Band) : Nat :=
  let v := s.pval p 0x2003 (match b with | .nb => 1 | .bb => 2)
  if v = 0 then 1 else if v = 1 then 5 else 50

/-- Peak amplitude of a carrier in 10^-15 V: its power over the carrier spacing into the source impedance (R136). -/
def carrierPeak (kind ohms : Nat) (level : Int) : Nat :=
  let spacing : Nat := if kind = 2 then 390625 else 62500
  Nat.sqrt (scaleBy (2 * ohms * spacing * 10 ^ 27 : Nat) (powerRatio level)).toNat / 4

/-- A carrier's value in its symbol's spectrum. -/
def LineCarrier.value (c : LineCarrier) (kind ohms : Nat) : Cplx :=
  let a : Int := (carrierPeak kind ohms c.level : Nat)
  match c.point with
  | .phase n => Cplx.scale (turn n 16) a
  | .pam i q norm => let d : Int := (Nat.sqrt (norm * 2 ^ 60) : Nat); (a * i * 2 ^ 30 / d, a * q * 2 ^ 30 / d)

/-- A symbol in time, without its prefix (R133). -/
def State.symbolTime (s : State) (p l : Nat) (x : List LineCarrier) : List Cplx :=
  let kind := s.laneKind p l
  inverseFft kind (x.map fun c => (carrierBin kind c.carrier, c.value kind (s.sourceOhms p (s.laneBand p l))))

/-- Samples of symbols behind the one before them (R137, R138): prefix, window, shaper. -/
def State.laneSamples (s : State) (p l : Nat) (before : List LineCarrier) (l' : List (List LineCarrier)) : List Cplx :=
  let kind := s.laneKind p l
  let t := windowSamples kind (s.lval p l 0x2008 5)
  let x := joinSymbols kind t (s.symbolTime p l before) (l'.map (s.symbolTime p l))
  if s.lval p l 0x2008 9 = 0 then x else shape (s.raw (laneKey p l 0x2008 0x0A)) (s.raw (laneKey p l 0x2008 0x0B)) x

/-- Symbols of a frame from number `first` on leave the lane. -/
def State.radiate (s : State) (p l first : Nat) (points : List (List PlacePoint)) : State :=
  let sent := (points.drop first).map (s.radiated p l)
  let before := if first = 0 then [] else s.radiated p l (points[first - 1]?.getD [])
  s.emit (.lineSymbols p l first sent (s.laneSamples p l before sent))

/-- The rest of a frame that started at `start` leaves the lane anew, from the next symbol boundary on: its levels or sets have changed (R131,
R141, R150). -/
def State.radiateRest (s : State) (p l start : Nat) (points : List (List PlacePoint)) : State :=
  let first := (s.tsc - start) / symbolNs (s.laneKind p l) + 1
  if first < points.length then s.radiate p l first points else s

end Sys2Proof.Machine
end

