-- ==== Sys2Proof/Machine/LaneTxOps.lean ====
section
/-! DEFINITION. What a lane sends (R131, R132, R203-R211, R235-R257, R264, R289-R293): frame capacity, the scheduling pass, forming,
starting, ending and cutting frames. -/

namespace Sys2Proof.Machine

/-- Lane state 2008.0C (R132): 0 unused, 1 muted, 2 idle, 3 transmitting. -/
def State.laneState (s : State) (p l : Nat) : Nat :=
  if s.laneKind p l = 0 then 0
  else if !s.running p || (s.lane p l).tx.restart.isSome || (s.port p).adding.contains (s.laneBand p l) then 1
  else if (s.lane p l).tx.onLine.isSome || (s.isCommandLane p l && (s.cell p).frame.isSome) then 3 else 2

/-! ## Capacity (R211, R223, R237) -/

/-- How a frame is sent: profile, and the link whose downstream tone maps it uses (R143, R214, R281). -/
structure TxMode where
  prof : Nat
  link : Option Link
deriving DecidableEq, Repr

/-- Mode of a frame through an entry (R222, R281): its profile, with the tone maps of its MAPPED link; else the lane's beacon profile
in place of a tone-mapped one. -/
def State.txMode (s : State) (r : RouteEntry) : TxMode :=
  let x := s.link r.link
  let served := s.profileServed r.port r.lane r.prof
  if profileMapping r.prof = 0 then
    if r.link ≠ noLink ∧ s.linkMapped x ∧ served then ⟨r.prof, some x⟩ else ⟨s.beaconProfile r.port r.lane, none⟩
  else if served then ⟨r.prof, none⟩ else ⟨s.beaconProfile r.port r.lane, none⟩

/-- Mode of broadcasts and beacons (R245). -/
def State.beaconMode (s : State) (p l : Nat) : TxMode := ⟨s.beaconProfile p l, none⟩

/-- Mode of a frame to a neighbour over a lane, by its link. -/
def State.peerMode (s : State) (p l e : Nat) : TxMode :=
  match s.linkOf p l e with
  | some k => s.txMode { port := p, lane := l, link := k, prof := (s.link k).prof }
  | none => s.beaconMode p l

/-- Coded bits of frames of 1, 2, … `n` payload symbols that start now (R211). -/
def State.codedBits (s : State) (p l : Nat) (m : TxMode) (n : Nat) : List Nat :=
  let kind := s.laneKind p l
  match m.link with
    | some x =>
      let d := s.frameMaps kind x
      s.mappedBits kind (setBits kind (s.laneMaxMod p l) d) (s.linkKey x d) d.fallback s.tsc n
    | none => fixedBits kind (s.laneM p l) m.prof n

/-- Information capacity in bytes of frames of 1, 2, … `n` payload symbols that start now (R211). -/
def State.capacities (s : State) (p l : Nat) (m : TxMode) (n : Nat) : List Nat :=
  (s.codedBits p l m n).map fun c => infoCapacity (profileCode m.prof) c / 8

/-- Most payload symbols of a frame of the class that starts now (R223, R237). -/
def State.symbolsAhead (s : State) (p l cls : Nat) (m : TxMode) : Nat :=
  let kind := s.laneKind p l
  min (s.maxNsym m.prof) ((s.latestEnd cls - s.tsc) / symbolNs kind - leadSymbols kind)

/-- Smallest NSYM whose capacity holds a MAC frame of `n` body bytes (R211). -/
def nsymFor (caps : List Nat) (n : Nat) : Option Nat :=
  if caps.any fun c => decide (n + 20 ≤ c) then some (caps.findIdx (fun c => decide (n + 20 ≤ c)) + 1) else none

/-- Body bytes that the longest frame of a list of capacities holds. -/
def bodyRoom (caps : List Nat) : Nat := caps.foldl max 0 - 20

/-- NSYM of a frame of `n` body bytes that starts now, if it can (R237). -/
def State.nsymNow (s : State) (p l cls : Nat) (m : TxMode) (n : Nat) : Option Nat :=
  nsymFor (s.capacities p l m (s.symbolsAhead p l cls m)) n

/-- The class may start a frame in the slot in progress (R235). -/
def State.mayStart (s : State) (cls : Nat) : Bool := slotAllows (s.slotType s.slotNow) cls

/-! ## Frames formed (R243, R293) -/

/-- Set of the first payload symbol and slot-keying flag of a frame that starts now (R140, R141, R205). -/
def State.headerFields (s : State) (p l : Nat) (m : TxMode) : Nat × Bool :=
  match m.link with
  | some x =>
    let d := s.frameMaps (s.laneKind p l) x
    (s.symbolSet (s.laneKind p l) (s.linkKey x d) d.fallback s.tsc 0, s.tether.valid)
  | none => (0, false)

/-- Set of each payload symbol of a frame that starts now (R140, R141). -/
def State.frameSets (s : State) (p l : Nat) (m : TxMode) (nsym : Nat) : List Nat :=
  match m.link with
  | some x =>
    let d := s.frameMaps (s.laneKind p l) x
    (List.range nsym).map fun i => s.symbolSet (s.laneKind p l) (s.linkKey x d) d.fallback s.tsc i
  | none => []

/-- Class of an endpoint's spool that holds a request (R239), lowest first. -/
def State.requestClass (s : State) (e : Nat) : Option Nat := firstBelow (fun c => (s.spool (4 * e + c)).greq != 0) 4

/-- A frame to a neighbour carries a grant where the neighbour asks and the lane has none outstanding (R239). -/
def State.withGrant (s : State) (p l e nsym : Nat) (m : MacFrame) : MacFrame × State :=
  if (s.lane p l).tx.grant.isSome then (m, s)
  else match s.requestClass e with
  | none => (m, s)
  | some c =>
    let k := 4 * e + c
    let g := min (s.spool k).greq (s.val 0x3000 8)
    let kind := s.laneKind p l
    let due := s.tsc + frameNs kind nsym + (2 + preambleSymbols kind) * symbolNs kind
    let u := (s.setSpool k { s.spool k with greq := 0 }).bump 0x3190 2
    ({ m with grant := g }, u.setTx p l { (u.lane p l).tx with grant := some (e, g, due) })

/-- The encode items of a lane's started frame that still wait are raised to class 0 in the coding pool, and counted (R228, R234). -/
def State.raiseItems (s : State) (src : Nat) : State :=
  let u := { s with hier := { s.hier with
    waiting := s.hier.waiting.map fun (x : PoolItem) => if x.encode ∧ x.source = src then { x with cls := 0 } else x } }
  u.bumpKey (keyOf 0x28F0 4) (s.hier.waiting.countP fun (x : PoolItem) => x.encode && x.source == src && x.cls != 0)

/-- A frame goes on the line. -/
def State.putOnLine (s : State) (p l : Nat) (f : TxFrame) : State :=
  let u := (s.raiseItems (srcLane p l)).setTx p l { (s.lane p l).tx with onLine := some f, frozenSet := false }
  (if s.laneKind p l = 3 then u.bump 0x28F0 5 else u.radiate p l 0 (f.points (s.laneKind p l) (s.laneM p l))).emit
    (.lineFrame p l f.mac f.prof f.nsym)

/-- A frame that starts now. -/
def State.frameNow (s : State) (p l : Nat) (kind : FrameKind) (mac : MacFrame) (cls nsym : Nat) (m : TxMode) : TxFrame :=
  let h := s.headerFields p l m
  { kind := kind, mac := mac, cls := cls, prof := m.prof, nsym := nsym, tms := h.1, sk := h.2, spool := 0, handle := 0, offset := 0,
    tries := 0, route := 0, start := s.tsc
    maps := match m.link with
      | some x => s.frameMaps (s.laneKind p l) x
      | none => {}
    sets := s.frameSets p l m nsym, maxMod := s.laneMaxMod p l
    coded := (s.codedBits p l m nsym).getLastD 0 }

/-- The levels or sets of what a lane sends have changed: the rest of its frame leaves it anew. -/
def State.relevel (s : State) (p l : Nat) : State :=
  let kind := s.laneKind p l
  match (s.lane p l).tx.onLine with
  | some f => if kind = 3 then s else s.radiateRest p l f.start (f.points kind (s.laneM p l))
  | none =>
    match (s.cell p).frame with
    | some f => if s.isCommandLane p l then s.radiateRest p l f.start (commandPoints (s.laneM p l) f.tag) else s
    | none => s

/-- The frame on the line keeps the set of its current payload symbol for the rest; of its first while its preamble or header is on the line
(R141). -/
def LaneTx.freeze (x : LaneTx) (symbol lead tsc : Nat) : LaneTx :=
  { x with frozenSet := true, onLine := x.onLine.map fun f =>
      let i := (tsc - f.start) / symbol - lead
      { f with sets := f.sets.take (i + 1) ++ List.replicate (f.sets.length - (i + 1)) (f.sets.getD i f.tms) } }

/-! ## Beacons (R245, R246) -/

/-- TSC at which the BEACON slot of this beacon began (R246). -/
def State.beaconSlotStart (s : State) : Nat := s.slotAhead 0 - (s.slotNow + 24 - s.beaconSlot) % 24 * s.sampleLen

/-- Body of a lane's beacon (R246). -/
def State.beaconBody (s : State) (p l : Nat) : Bytes :=
  let plan := (s.raw (keyOf 0x3000 1)).map BitVec.toNat
  toBE 1 (0x10 + ofBool s.tether.valid + 2 * ofBool s.timeSet + 4 * ofBool (!s.mgr.digestsValid)) ++ toBE 1 s.beaconSlot ++ toBE 1 p
    ++ toBE 1 l ++ toBE 4 s.mgr.epoch ++ toBE 4 s.cycleNow ++ toBE 1 (s.val 0x3000 2) ++ [0] ++ toBE 2 (s.val 0x3000 6)
    ++ ((List.range 5).flatMap fun i => toBE 8 (s.mgr.digests[i]?.getD 0))
    ++ ((List.range 12).map fun i => BitVec.ofNat 8 ((plan[2 * i]?.getD 0) * 16 + plan[2 * i + 1]?.getD 0))
    ++ toBE 8 (((s.beaconSlotStart : Int) + s.time.offset).toNat) ++ toBE 2 (s.val 0x3000 7) ++ [0, 0]

/-- A broadcast MAC frame (R244). -/
def broadcastFrame (type : Nat) (body : Bytes) : MacFrame :=
  { meshFrame type broadcastId false body with hops := 15 }

/-- Start the beacon of an idle lane (R245): no slot type but QUIET holds it. -/
def State.startBeacon (s : State) (p l : Nat) : State :=
  let m := s.beaconMode p l
  let body := s.beaconBody p l
  match nsymFor (s.capacities p l m (s.maxNsym m.prof)) body.length with
  | none => s
  | some n =>
    let u := (s.putOnLine p l (s.frameNow p l .beacon (broadcastFrame 3 body) 1 n m)).bump 0x3190 1
    u.setTx p l { (u.lane p l).tx with beaconDue := false, beaconCycle := some s.cycleNow }

/-! ## Items at the head of a class (R239, R264, R285, R292) -/

/-- A frame that stands at the head of a class's active list. -/
inductive HeadItem where
  | relay (i : RelayItem)
  | mesh (f : MacFrame)
  | grant (e : Nat)
  | broadcast (n : Nat)
deriving DecidableEq, Repr

/-- A neighbour of the lane that asks for a grant and has no frame queued (R239): the lowest endpoint. -/
def State.grantNeeded (s : State) (p l : Nat) : Option Nat :=
  if (s.lane p l).tx.grant.isSome then none else
  (s.spools.table.find? fun e =>
    let ep := spoolEndpoint e.1
    e.2.greq != 0 && (s.linkOf p l ep).isSome && s.laneOf ep == some (4 * p + l)
      && (List.range 4).all fun c => (s.spool (4 * ep + c)).state != .ready).map fun e => spoolEndpoint e.1

/-- What stands at the head of a class on a lane, with its body bytes and mode; relays first, then mesh frames, grants and
broadcasts (log 14). -/
def State.headItems (s : State) (p l c : Nat) : List (HeadItem × Nat × TxMode) :=
  let t := (s.lane p l).tx
  ((t.relays.filter fun i => i.cls == c).map fun i =>
      (HeadItem.relay i, i.mac.body.length, s.txMode { port := p, lane := l, prof := i.prof, link := i.link }))
    ++ (if c = 1 then t.mesh.map fun f => (HeadItem.mesh f, f.body.length,
          if f.dst = broadcastId then s.beaconMode p l else s.peerMode p l f.dst) else [])
    ++ (if c = 1 then (match s.grantNeeded p l with
          | some e => [(HeadItem.grant e, 0, s.peerMode p l e)]
          | none => []) else [])
    ++ (t.bcast.filterMap fun n => match Table.find s.spools.broadcasts n with
          | some b => if b.cls = c then some (HeadItem.broadcast n, b.body.length, s.beaconMode p l) else none
          | none => none)

/-- The first head item of a class that can start now. -/
def State.headNow (s : State) (p l c : Nat) : Option (HeadItem × Nat × TxMode) :=
  if s.mayStart c then (s.headItems p l c).find? fun x => (s.nsymNow p l c x.2.2 x.2.1).isSome else none

/-! ## The scheduling pass (R250, R251) -/

/-- Bytes of the next frame of a READY spool that can start now, whether the packet's last, or that its packet is too long
(R256). -/
inductive HeadSize where
  | fits (bytes : Nat) (whole : Bool)
  | tooLong
  | later
deriving DecidableEq, Repr

/-- Size of the next frame of a spool through its selected entry (R251, R256). -/
def State.headSize (s : State) (p l k : Nat) : HeadSize :=
  let x := s.spool k
  match x.queue, s.selected (spoolEndpoint k) with
  | q :: _, some pos =>
    match s.packet q.handle with
    | none => .later
    | some pk =>
      let m := s.txMode (s.route pos)
      let now := bodyRoom (s.capacities p l m (s.symbolsAhead p l (spoolClass k) m))
      let rest := pk.body.length - q.offset
      if q.size ≠ 0 then (if q.size ≤ now then .fits q.size q.last else .later)
      else
        let full := bodyRoom (s.capacities p l m (s.maxNsym m.prof))
        if full = 0 ∨ q.frag + (rest + full - 1) / full > 8 then (if full = 0 then .later else .tooLong)
        else if rest ≤ now then .fits rest true
        else if now = 0 ∨ q.frag + 1 + (rest - now + full - 1) / full > 8 then .later
        else .fits now false
  | _, _ => .later

/-- Place in a list during a pass: spool, visit flag, deficit, size of its next frame, and that the spool holds nothing more. -/
structure Cand where
  spool : Nat
  visited : Bool
  deficit : Nat
  size : Option Nat
  single : Bool
deriving DecidableEq, Repr

/-- endpoint_pick of R251 on a list whose first place is the current one; the chosen spool stays first unless it is done. -/
def endpointPick (qe : Nat) : Nat → List Cand → Option (Cand × List Cand)
  | 0, _ => none
  | _, [] => none
  | n + 1, c :: cs =>
    match c.size with
    | none => endpointPick qe n (cs ++ [c])
    | some sz =>
      let d := if c.visited then c.deficit else c.deficit + qe
      if sz ≤ d then
        if c.single then some (c, cs ++ [{ c with deficit := 0, visited := false }])
        else some (c, { c with deficit := d - sz, visited := true } :: cs)
      else endpointPick qe n (cs ++ [{ c with deficit := d, visited := false }])

/-- next(c) of R251. -/
def nextClass (c : Nat) : Nat := if c = 3 then 1 else c + 1

/-- Class deficits of a lane. -/
def LaneTx.cdef (x : LaneTx) (c : Nat) : Int := if c = 1 then x.cdef1 else if c = 2 then x.cdef2 else x.cdef3

/-- Write a class deficit. -/
def LaneTx.setCdef (x : LaneTx) (c : Nat) (d : Int) : LaneTx :=
  if c = 1 then { x with cdef1 := d } else if c = 2 then { x with cdef2 := d } else { x with cdef3 := d }

/-- The class turn of R251: the class that serves the next frame. -/
def classTurn (elig : Nat → Bool) (quantum : Nat → Nat) : Nat → LaneTx → Option Nat × LaneTx
  | 0, x => (none, x)
  | n + 1, x =>
    if !(elig 1 || elig 2 || elig 3) then (none, x)
    else
      let c := x.cursor
      if !elig c then classTurn elig quantum n { x.setCdef c 0 with cursor := nextClass c }
      else if x.cdef c ≤ 0 then classTurn elig quantum n { x.setCdef c (x.cdef c + (quantum c : Nat)) with cursor := nextClass c }
      else (some c, x)

/-- The candidates of a class on a lane. -/
def State.cands (s : State) (p l c : Nat) : List Cand :=
  ((s.lane p l).tx.list c).map fun pl =>
    let x := s.spool pl.spool
    match (if x.state = .ready ∧ s.mayStart c then s.headSize p l pl.spool else HeadSize.later) with
    | .fits n whole => ⟨pl.spool, pl.visited, x.deficit, some n, whole && decide (x.queue.length = 1)⟩
    | _ => ⟨pl.spool, pl.visited, x.deficit, none, false⟩

/-- A READY spool stands in the class's list, or an item at its head (R251). -/
def State.classReady (s : State) (p l c : Nat) : Bool :=
  ((s.lane p l).tx.list c).any (fun y => (s.spool y.spool).state == .ready) || !(s.headItems p l c).isEmpty

/-- What the pass chooses. -/
inductive Pick where
  | nothing
  | head (c : Nat) (x : HeadItem × Nat × TxMode)
  | spool (k bytes : Nat)
deriving DecidableEq, Repr

/-- Store the places and deficits a pass leaves. -/
def State.storeCands (s : State) (p l c : Nat) (l' : List Cand) : State :=
  let u := s.setTx p l ((s.lane p l).tx.setList c (l'.map fun y => ⟨y.spool, y.visited⟩))
  u.each l' fun v y => v.setSpool y.spool { v.spool y.spool with deficit := y.deficit }

/-- Serve a class: its head item, or endpoint_pick. -/
def State.serveClass (s : State) (p l c : Nat) : Pick × State :=
  match s.headNow p l c with
  | some x => (.head c x, s)
  | none =>
    let cs := s.cands p l c
    match endpointPick (s.val 0x3100 4) ((cs.length + 1) * 300) cs with
    | some (y, cs') => (.spool y.spool (y.size.getD 0), s.storeCands p l c cs')
    | none => (.nothing, s)

/-- The class has something that can start now. -/
def State.classEligible (s : State) (p l c : Nat) : Bool :=
  (s.headNow p l c).isSome || (s.cands p l c).any fun y => y.size.isSome

/-- Bytes a pick charges to its class deficit. -/
def pickBytes : Pick → Nat
  | .nothing => 0
  | .head _ x => x.2.1
  | .spool _ n => n

/-- The scheduling pass of a lane (R251). -/
def State.schedule (s : State) (p l : Nat) : Pick × State :=
  let s := s.setTx p l ([1, 2, 3].foldl (fun x c => if s.classReady p l c then x else x.setCdef c 0) (s.lane p l).tx)
  if s.classEligible p l 0 then s.serveClass p l 0
  else
    let turn := classTurn (s.classEligible p l) (s.val 0x3100) 2000 (s.lane p l).tx
    let u := s.setTx p l turn.2
    match turn.1 with
    | none => (.nothing, u)
    | some c =>
      let r := u.serveClass p l c
      let t := (r.2.lane p l).tx
      (r.1, r.2.setTx p l (t.setCdef c (t.cdef c - (pickBytes r.1 : Nat))))

/-- Packets at the head of READY spools of the lane that no frame sequence can carry complete with TOO_LONG (R256). -/
def State.dropTooLong (s : State) (p l : Nat) : State :=
  s.each ((List.range 4).flatMap fun c => (s.lane p l).tx.list c) fun u y =>
    let x := u.spool y.spool
    match x.state, x.queue with
    | .ready, q :: _ => if u.headSize p l y.spool = .tooLong then u.endPacket y.spool q.handle stTooLong else u
    | _, _ => u

/-! ## Starting (R238) -/

/-- The head `q` of a spool's queue goes out through the entry at `pos`: `n` bytes of its packet in `nsym` symbols (R253, R256, R293). -/
def State.sendHead (s : State) (p l k pos : Nat) (m : TxMode) (q : QueueItem) (qs : List QueueItem) (body : Bytes) (n nsym : Nat) : State :=
  let x := s.spool k
  let e := spoolEndpoint k
  let r := s.route pos
  let seq := q.seq.getD x.txSeq
  let last := if q.size = 0 then decide (body.length ≤ q.offset + n) else q.last
  let sent : QueueItem := { q with seq := some seq, size := n, last := last }
  let rest : List QueueItem := if q.size = 0 ∧ last = false
    then [{ q with offset := q.offset + n, frag := q.frag + 1, seq := none, tries := 0, size := 0 }] else []
  let u := s.setSpool k { x with
    queue := rest ++ qs, txSeq := if q.seq.isNone then (x.txSeq + 1) % 256 else x.txSeq,
    flight := x.flight ++ [⟨seq, sent, none, pos⟩] }
  let mac : MacFrame :=
    { type := 1, ackReq := true, more := !last, retry := decide (0 < q.tries), dst := r.next, fin := e, orig := 0,
      hops := min 15 (r.hops + 2), seq := seq, frag := q.frag, ackSeq := 0, ackMap := 0, ackCls := 0, grant := 0,
      body := (body.drop q.offset).take n }
  let a := u.withAck e mac
  let g := a.2.withGrant p l r.next nsym a.1
  let f := { g.2.frameNow p l .data g.1 (spoolClass k) nsym m with
    spool := k, handle := q.handle, offset := q.offset, tries := q.tries, route := pos }
  ((g.2.putOnLine p l f).bump 0x3181 (spoolClass k + 1)).settleSpool k

/-- Start the next frame of a spool, `n` body bytes (R256). -/
def State.startData (s : State) (p l k n : Nat) : State :=
  match (s.spool k).queue, s.selected (spoolEndpoint k) with
  | q :: qs, some pos =>
    match s.packet q.handle with
    | none => s
    | some pk =>
      let m := s.txMode (s.route pos)
      match s.nsymNow p l (spoolClass k) m n with
      | none => s
      | some nsym => s.sendHead p l k pos m q qs pk.body n nsym
  | _, _ => s

/-- Profile of a frame on a G lane (R222, R225): its route's where the lane serves it, else the lowest the lane serves. -/
def State.g9903Profile (s : State) (p l pos : Nat) : Nat :=
  let n := (s.route pos).prof
  if s.profileServed p l n then n else 40 + (firstBelow (fun i => s.profileServed p l (40 + i)) 6).getD 0

/-- A G lane that has won the medium (R224, R241; log 63): in a CONTENTION slot it sends the packet at the head of the first READY spool in
class order, whole; G.9903 says how many symbols that takes. -/
def State.startG9903 (s : State) (p l : Nat) : State :=
  if s.slotType s.slotNow ≠ 4 then s
  else
    let live := ((List.range 4).flatMap fun c => (s.lane p l).tx.list c).filter fun y =>
      (s.spool y.spool).state == .ready && (s.selected (spoolEndpoint y.spool)).isSome
    match live.head? with
    | none => s
    | some y =>
      match (s.spool y.spool).queue, s.selected (spoolEndpoint y.spool) with
      | q :: qs, some pos =>
        match s.packet q.handle with
        | none => s
        | some pk =>
          s.sendHead p l y.spool pos ⟨s.g9903Profile p l pos, none⟩ q qs pk.body (pk.body.length - q.offset)
            (Config.g9903Symbols (s.g9903Profile p l pos) (pk.body.length - q.offset))
      | _, _ => s

/-- A mesh frame that asks for an acknowledgement takes the next class-1 SEQ of its neighbour (log 27); a TMAP's ACT counts from the start of
slot 0 after the frame's end (R285), and its SEQ is the one whose acknowledgement acknowledges the version (R282). -/
def State.meshSeq (s : State) (p l nsym : Nat) (f : MacFrame) : MacFrame × State :=
  if f.ackReq = false then (f, s) else
  let k := 4 * f.dst + 1
  let y := s.spool k
  let u := s.setSpool k { y with txSeq := (y.txSeq + 1) % 256 }
  match u.linkOf p l f.dst with
  | some n =>
    if f.type = 5 then
      let act := (u.link n).actCycle - (u.cycleAt (u.tsc + frameNs (u.laneKind p l) nsym) + 1)
      ({ f with seq := y.txSeq, body := f.body.take 4 ++ toBE 2 act ++ f.body.drop 6 }, u.setLink n { u.link n with tmapSeq := some y.txSeq })
    else ({ f with seq := y.txSeq }, u)
  | none => ({ f with seq := y.txSeq }, u)

/-- Start an item from the head of a class. -/
def State.startHead (s : State) (p l c : Nat) (x : HeadItem × Nat × TxMode) : State :=
  match s.nsymNow p l c x.2.2 x.2.1 with
  | none => s
  | some nsym =>
    let t := (s.lane p l).tx
    match x.1 with
    | .relay i =>
      let u := s.setTx p l { t with relays := t.relays.erase i }
      let g := u.withGrant p l i.mac.dst nsym { i.mac with grant := 0 }
      g.2.putOnLine p l (g.2.frameNow p l .relay g.1 i.cls nsym x.2.2)
    | .mesh f =>
      let u := s.setTx p l { t with mesh := t.mesh.erase f }
      if f.dst = broadcastId then u.putOnLine p l (u.frameNow p l .mesh f 1 nsym x.2.2)
      else
        let a0 := u.meshSeq p l nsym f
        let a := a0.2.withAck f.fin a0.1
        let g := a.2.withGrant p l f.dst nsym a.1
        g.2.putOnLine p l (g.2.frameNow p l .mesh g.1 1 nsym x.2.2)
    | .grant e =>
      let a := s.withAck e (meshFrame 4 e false [])
      let g := a.2.withGrant p l e nsym a.1
      g.2.putOnLine p l (g.2.frameNow p l .grant g.1 1 nsym x.2.2)
    | .broadcast n =>
      match Table.find s.spools.broadcasts n with
      | none => s
      | some b =>
        let u := s.setTx p l { t with bcast := t.bcast.erase n }
        u.putOnLine p l { u.frameNow p l .broadcast (broadcastFrame 1 b.body) b.cls nsym x.2.2 with handle := n }

/-- Stand-alone ACKs owed on a lane that can start now (R255), with those no longer owed dropped. -/
def State.startAck (s : State) (p l : Nat) : Option State :=
  let t := (s.lane p l).tx
  let live := t.acks.filter fun k => (s.spool k).ackDue
  let s := s.setTx p l { t with acks := live }
  match live.find? fun k =>
    s.mayStart (spoolClass k) && match s.selected (spoolEndpoint k) with
      | some pos => (s.nsymNow p l (spoolClass k) (s.txMode (s.route pos)) 0).isSome
      | none => false with
  | none => none
  | some k =>
    match s.selected (spoolEndpoint k) with
    | none => none
    | some pos =>
      let r := s.route pos
      let m := s.txMode r
      match s.nsymNow p l (spoolClass k) m 0 with
      | none => none
      | some nsym =>
        let x := s.spool k
        let u := (s.setTx p l { t with acks := live.erase k }).setSpool k { x with ackDue := false, ackAt := 0 }
        let mac : MacFrame :=
          { meshFrame 2 r.next false [] with
            fin := spoolEndpoint k, hops := min 15 (r.hops + 2), ackSeq := x.rxBase, ackMap := x.ackMapOf, ackCls := spoolClass k }
        let g := u.withGrant p l r.next nsym mac
        some ((g.2.putOnLine p l (g.2.frameNow p l .ack g.1 (spoolClass k) nsym m)).bump 0x3190 4)

/-- An idle native data lane takes its next frame (R238): the beacon when due, an ACK owed, then the scheduling pass. -/
def State.startFrame (s : State) (p l : Nat) : State :=
  if (s.lane p l).tx.beaconDue then s.startBeacon p l
  else match s.startAck p l with
  | some u => u
  | none =>
    let u := s.dropTooLong p l
    let r := u.schedule p l
    match r.1 with
    | .nothing => r.2
    | .head c x => r.2.startHead p l c x
    | .spool k n => r.2.startData p l k n

/-- Length of the frame on a lane's line in ns (R203); of a G lane by its own symbols (log 15). -/
def State.lineNs (s : State) (p l : Nat) (f : TxFrame) : Nat :=
  if s.laneKind p l = 3 then f.nsym * s.laneSymbolNs p l else frameNs (s.laneKind p l) f.nsym

/-! ## Ending and cutting (R131, R228, R257) -/

/-- Take the frame off the line. -/
def State.clearLine (s : State) (p l : Nat) : State := s.setTx p l { (s.lane p l).tx with onLine := none, frozenSet := false }

/-- The frame on the line has ended (R253, R264). -/
def State.endFrame (s : State) (p l : Nat) (f : TxFrame) : State :=
  let u := s.clearLine p l
  match f.kind with
  | .data =>
    let x := u.spool f.spool
    u.setSpool f.spool { x with flight := x.flight.map fun q => if q.seq = f.mac.seq then { q with ended := some u.tether.slotCount } else q }
  | .broadcast => u.broadcastSent f.handle (4 * p + l)
  | _ => u

/-- An acknowledgement or a grant that a cut frame carried is owed again. -/
def State.unsend (s : State) (p l : Nat) (f : TxFrame) : State :=
  let u := if f.mac.ackMap ≠ 0 ∨ f.kind = .ack then s.oweAck (4 * f.mac.fin + f.mac.ackCls) else s
  if f.mac.grant ≠ 0 ∧ f.kind ≠ .beacon then
    let k := 4 * f.mac.dst + (f.cls % 4)
    (u.setSpool k { u.spool k with greq := f.mac.grant }).setTx p l { (u.lane p l).tx with grant := none }
  else u

/-- A lane cuts the frame it is transmitting and hands it back (R131, R257). -/
def State.cutFrame (s : State) (p l : Nat) : State :=
  match (s.lane p l).tx.onLine with
  | none => s
  | some f =>
    let u := (((s.clearLine p l).unsend p l f).emit (.lineCut p l))
    match f.kind with
    | .data =>
      let x := u.spool f.spool
      match x.flight.find? fun q => q.seq == f.mac.seq with
      | some q => (u.setSpool f.spool { x with flight := x.flight.filter fun y => y.seq != f.mac.seq }).requeue f.spool q.item
      | none => u
    | .broadcast => u.broadcastCut f.handle (4 * p + l)
    | .mesh => u.setTx p l { (u.lane p l).tx with mesh := f.mac :: (u.lane p l).tx.mesh }
    | .ack => u.setTx p l { (u.lane p l).tx with acks := (4 * f.mac.fin + f.mac.ackCls) :: (u.lane p l).tx.acks }
    | _ => u

/-- The command frame on a port's line is cut (R121): counted, and not sent again. -/
def State.cutCommand (s : State) (p : Nat) : State :=
  if (s.cell p).frame.isSome then ((s.setCell p { s.cell p with frame := none }).bump (0x34A0 + p) 3).emit (.commandCut p) else s

/-- A restart of a lane (R131): its frame is cut and counted, the lane muted for 2 beats; the frame of a lane that was the command lane is cut
as in a fault (R121). -/
def State.restartLane (s : State) (p l : Nat) (command : Bool) : State :=
  let cut := (s.lane p l).tx.onLine.isSome || command && (s.cell p).frame.isSome
  let u := if cut then (((if command then s.cutCommand p else s).cutFrame p l)).lbump p l 0x2008 0x0D else s
  u.setLane p l { u.lane p l with tx := { (u.lane p l).tx with restart := some (s.beat + 2) }, echo := {} }

end Sys2Proof.Machine
end

