-- ==== Sys2Proof/Machine/EchoOps.lean ====
section
/-! DEFINITION. A band's echo canceller (R180-R185): measurement, holds and states. Suppression is in 0.1 dB. -/

namespace Sys2Proof.Machine

/-- Source number of a port's canceller (cell 10). -/
def srcCanceller (p : Nat) : Nat := srcOf 1 p 10

/-- Suppression minimum of a band in 0.1 dB (2004.01, 2004.02). -/
def State.minSupp (s : State) (p : Nat) (b : Band) : Int := (s.pval p 0x2004 (1 + bandNo b) * 5 : Nat)

/-- Limit of the hold timer (R183), ns. -/
def holdTimerNs : Band → Nat
  | .nb => 2000000
  | .bb => 200000

/-- A lane of the band transmits. -/
def State.bandTransmits (s : State) (p : Nat) (b : Band) : Bool :=
  (List.range 4).any fun l => s.laneKind p l != 0 && s.laneBand p l == b && s.laneState p l == 3

/-- Time in ns since the last measurement that counts toward the hold (R183). -/
def State.holdStep (s : State) (p : Nat) (b : Band) (transmitting : Bool) : Nat :=
  if transmitting then s.tsc - (s.echo p b).measured else 0

/-- A hold begins (R183). -/
def State.beginHold (s : State) (p : Nat) (b : Band) (st : EchoState) : State :=
  s.setEcho p b { s.echo p b with
    state := st, beat := s.beat, hold := true, holdAt := s.tsc, timer := 0, total := 0, measured := s.tsc }

/-- A disturbance in TRACKING (R183): counted, and its time kept. -/
def State.echoDisturb (s : State) (p : Nat) (b : Band) : State :=
  ((s.beginHold p b .reacquire).pbump p 0x2004 (0x20 + bandNo b)).storeNat (portKey p 0x2004 0x28) s.tsc

/-- Holds ended by now, of the last 128 ms. -/
def Echo.ended (x : Echo) (tsc : Nat) : List (Nat × Nat) :=
  (if x.hold then [(x.holdAt, tsc)] else []) ++ x.holds.filter fun e => decide (tsc ≤ e.2 + 128000000)

/-- A hold of the band stood at some time of a span in which the port also transmitted (R184). -/
def Echo.heldDuring (x : Echo) (start stop : Nat) (sending : List (Nat × Nat)) : Bool :=
  let holds := (if x.hold then [(x.holdAt, stop)] else []) ++ x.holds
  holds.any fun h => sending.any fun e =>
    decide (max start (max h.1 e.1) < min stop (min h.2 e.2))

/-- The hold is released (R183): its duration in µs goes to 2004.29. -/
def State.endHold (s : State) (p : Nat) (b : Band) : State :=
  let x := s.echo p b
  (s.setEcho p b { x with
    state := .tracking, beat := s.beat, modelBeat := s.beat, hold := false, timer := 0, total := 0, holds := x.ended s.tsc, clearAt := none }).storeNat
      (portKey p 0x2004 0x29) ((s.tsc - x.holdAt) / 1000)

/-- Lanes of a port in a band. -/
def State.bandLanes (s : State) (p : Nat) (b : Band) : List Nat :=
  (List.range 4).filter fun l => s.laneKind p l != 0 && s.laneBand p l == b

/-- Write a lane's digital canceller. -/
def State.setLaneEcho (s : State) (p l : Nat) (x : LaneEcho) : State := s.setLane p l { s.lane p l with echo := x }

/-- Effective loop delay of a port in ps (R126, R178). -/
def State.loopDelay (s : State) (p : Nat) : Nat := (f32ToMilli (s.portEffective p 6)).toNat

/-- The analogue model changes to new taps, and every coefficient of the band's lanes by the change of the model at its carrier (R180). -/
def State.applyModel (s : State) (p : Nat) (b : Band) (taps : List Int) : State :=
  let x := s.echo p b
  let change := (List.range modelTaps).map fun i => taps.getD i 0 - x.taps.getD i 0
  let u := s.setEcho p b { x with taps := taps, nextTaps := none }
  u.each (s.bandLanes p b) fun v l =>
    let e := (v.lane p l).echo
    let moved := (e.coefs.zip (List.range e.coefs.length)).map fun c =>
      Cplx.sub c.1 (modelAt (s.laneKind p l) (s.loopDelay p) change (s.laneFirst p l + c.2))
    v.setLaneEcho p l { e with coefs := moved }

/-- The analogue model is handed over (R180), at a beat boundary: now where this is one, else at the next; with the suppression of the analogue
stage. -/
def State.handover (s : State) (p : Nat) (b : Band) (analogue : Int) (taps : List Int) : State :=
  let x := s.echo p b
  let u := (s.setEcho p b { x with model := x.model + 1, modelBeat := s.beat, nextTaps := some taps }).storeNat
    (portKey p 0x2004 (0x14 + bandNo b)) (f32Tenth analogue)
  if s.tsc % beatNs = 0 then u.applyModel p b taps else u

/-- The model that a re-solve over a beat's samples gives (R178). -/
def State.resolved (s : State) (p : Nat) (samples : List (Int × Int)) : List Int := solveModel (s.loopDelay p / 5000) samples

/-- The model with the part of the coefficients that it can hold (R180). -/
def State.refreshed (s : State) (p : Nat) (b : Band) : List Int :=
  let part := modelPart (s.loopDelay p) ((s.bandLanes p b).flatMap fun l =>
    let e := (s.lane p l).echo.coefs
    (e.zip (List.range e.length)).map fun c => (s.laneKind p l, s.laneFirst p l + c.2, c.1))
  (List.range modelTaps).map fun i => (s.echo p b).taps.getD i 0 + part.getD i 0

/-- The digital cancellers of a band's lanes begin anew. -/
def State.clearCoefs (s : State) (p : Nat) (b : Band) : State :=
  s.each ((List.range 4).filter fun l => s.laneBand p l == b) fun u l => u.setLaneEcho p l {}

/-- The relay is confirmed closed: the model is solved and training begins (R183). -/
def State.echoTrain (s : State) (p : Nat) (b : Band) : State :=
  let x := s.echo p b
  (s.setEcho p b { x with
    state := .training, beat := s.beat, hold := false, timer := 0, total := 0, model := x.model + 1, modelBeat := s.beat, taps := []
    nextTaps := none, clearAt := none }).clearCoefs p b

/-- The canceller leaves service: model and coefficients discarded, hold released (R183). -/
def State.echoOff (s : State) (p : Nat) (b : Band) : State :=
  let x := s.echo p b
  (s.setEcho p b { supp := x.supp, model := if x.state = .off then x.model else x.model + 1, holds := x.ended s.tsc }).clearCoefs p b

/-- The band's source impedance changes under a canceller that tracks (R115, R183). -/
def State.echoImpedance (s : State) (p : Nat) (b : Band) : State :=
  if (s.echo p b).state = .tracking then s.beginHold p b .resolve else s

/-- S of a band is measured (R181). -/
def State.keepSupp (s : State) (p : Nat) (b : Band) (supp : Int) : State :=
  (s.setEcho p b { s.echo p b with supp := supp }).storeNat (portKey p 0x2004 (0x12 + bandNo b)) (f32Tenth supp)

/-- Training of 50 beats ends with a suppression, and with the model in place (R178, R183). -/
def State.echoTrained (s : State) (p : Nat) (b : Band) (supp : Int) (samples : List (Int × Int)) : State :=
  let u := (s.setEcho p b { s.echo p b with taps := s.resolved p samples }).keepSupp p b supp
  if s.minSupp p b ≤ supp then u.setEcho p b { u.echo p b with state := .tracking, beat := u.beat, modelBeat := u.beat }
  else u.beginHold p b .reacquire

/-- A step on a lane has the port measure S at once, where it transmits in the band (R181, R191): below the minimum in TRACKING it is a
disturbance. -/
def State.echoCheck (s : State) (p : Nat) (b : Band) (measured : Option Int) : State :=
  let u := match measured with
    | some v => if (s.echo p b).state = .off then s else s.keepSupp p b v
    | none => s
  if (u.echo p b).state = .tracking ∧ (u.echo p b).supp < u.minSupp p b then u.echoDisturb p b else u

end Sys2Proof.Machine
end

