-- ==== Sys2Proof/Machine/StreamOps.lean ====
section
/-! DEFINITION. A lane's receive stream, symbol by symbol (R177-R193): echo subtraction, blanking, the step measure, erasure and marking. -/

namespace Sys2Proof.Machine

/-- Symbol length of what the lane receives, ns. -/
def State.rxSymbolNs (s : State) (p l : Nat) : Nat := s.laneSymbolNs p l

/-! ## Stage 1 (R177, R179) -/

/-- Bins of a lane's carriers. -/
def State.laneBins (s : State) (p l : Nat) : List Nat :=
  (List.range (s.laneM p l)).map fun i => carrierBin (s.laneKind p l) (s.laneFirst p l + i)

/-- Step of the per-carrier canceller as an exponent; none in RESOLVE, for which none is given (R179, log 66). -/
def State.lmsShift (s : State) (p : Nat) (b : Band) : Option Nat :=
  match (s.echo p b).state with
  | .tracking => some (s.pval p 0x2004 (3 + bandNo b))
  | .training | .reacquire | .lost => some (s.pval p 0x2004 5)
  | .off | .resolve => none

/-- A symbol period after stage 1, and the lane's canceller after it (R179): the replica of the per-carrier canceller and the output of the
residual filter are subtracted; both adapt. -/
def State.cancelEcho (s : State) (p l : Nat) (y : RxSymbol) : List Cplx × LaneEcho :=
  let kind := s.laneKind p l
  let b := s.laneBand p l
  let x := (s.lane p l).echo
  if (s.echo p b).state = .off ∨ y.reference = [] then (y.body, x)
  else
    let bins := s.laneBins p l
    let window := fun (v : List Cplx) => v.drop (prefixSamples kind)
    let now := y.reference.drop (residualTaps - 1)
    let spectrum := bins.map fun k => binValue (window now) k (fftSize kind)
    let coefs := (List.range bins.length).map fun i => x.coefs.getD i (0, 0)
    let left := List.zipWith Cplx.sub y.body (echoReplica kind bins coefs spectrum)
    let taps := (List.range residualTaps).map fun i => x.taps.getD i (0, 0)
    let tau := if (s.echo p b).state = .tracking then some (if kind = 2 then 50000 else 2000) else none
    let out := if s.pval p 0x2004 8 = 0 then (left, taps)
      else residualRun tau (y.reference.take (residualTaps - 1)).reverse taps (left.zip now)
    let coefs' := match s.lmsShift p b with
      | some n => (coefs.zip (bins.zip spectrum)).map fun e => lmsUpdate n e.1 (binValue (window out.1) e.2.1 (fftSize kind)) e.2.2
      | none => coefs
    (out.1, { coefs := coefs', taps := out.2 })

/-! ## Blanking (R186-R189) -/

/-- FFT window in samples (R129). -/
def fftWindow (kind : Nat) : Nat := fftSize kind

/-- Settings in force on a lane (R200). -/
def State.rxSettings (s : State) (p l : Nat) : RxSettings :=
  { threshold := s.lval p l 0x2010 0x10, guard := s.lval p l 0x2010 0x11, fraction := s.lval p l 0x2010 0x12
    step := signed 8 (s.lval p l 0x2010 0x13), averaging := s.lval p l 0x2010 0x14 }

/-- Samples zeroed with those that exceed: `n` on each side (R187). -/
def guarded (n : Nat) (hits : List Bool) : List Bool :=
  (List.range hits.length).map fun i => ((hits.drop (i - n)).take (min i n + n + 1)).any id

/-- Samples zeroed in the `n` from number `first` on, and the blanking events that begin in them (R187). -/
def blankedIn (first n : Nat) (mask : List Bool) : List Bool × Nat :=
  let m := (mask.drop first).take n
  (m, (m.zip ((if first = 0 then false else mask.getD (first - 1) false) :: m)).countP fun e => e.1 && !e.2)

/-- Blanking of a frame's symbol against the reference, a mean square in units of 2^-16 (R186, R187). -/
def frameBlank (u : RxSettings) (ref : Nat) (lead body tail : List Cplx) : List Bool × Nat :=
  if u.threshold = 0 then (body.map fun _ => false, 0)
  else
    let g := powerRatio (500 * (u.threshold : Int))
    blankedIn lead.length body.length
      (guarded u.guard ((lead ++ body ++ tail).map fun x => decide ((ref : Int) * g.num < (x.norm * 2 ^ 16 * g.den : Nat))))

/-- Samples of the sliding reference in SEARCH and REARM (R186). -/
def slidingSamples (kind : Nat) : Nat := if kind = 2 then 512 else 64

/-- Blanking in SEARCH and REARM: each sample against the mean square of those before it (R186, R187, log 67). -/
def slidingBlank (u : RxSettings) (kind : Nat) (lead body tail : List Cplx) : List Bool × Nat :=
  if u.threshold = 0 then (body.map fun _ => false, 0)
  else
    let g := powerRatio (500 * (u.threshold : Int))
    let power := (lead ++ body ++ tail).map Cplx.norm
    blankedIn lead.length body.length (guarded u.guard ((power.zip (List.range power.length)).map fun e =>
      let past := (power.take e.2).drop (e.2 - slidingSamples kind)
      past != [] && decide (((past.foldl (· + ·) 0 : Nat) : Int) * g.num < (e.1 * past.length * g.den : Nat))))

/-- The reference after a symbol: an eighth of the way to the mean square of its unblanked samples (R186). -/
def nextRef (ref : Nat) (body : List Cplx) (mask : List Bool) : Nat :=
  let live := (body.zip mask).filter fun e => !e.2
  if live = [] then ref else (7 * ref + live.foldl (fun (a : Nat) (e : Cplx × Bool) => a + e.1.norm) 0 * 2 ^ 16 / live.length) / 8

/-! ## The step measure (R190) -/

/-- Sum of channel estimates, carrier by carrier. -/
def sumEstimates : List (List Cplx) → List Cplx
  | [] => []
  | e :: l => l.foldl (List.zipWith Cplx.add) e

/-- D reaches a level in 0.001 dB: the estimate differs from the mean of `prev` by that part of it. -/
def stepReaches (prev : List (List Cplx)) (h : List Cplx) (level : Int) : Bool :=
  let sum := sumEstimates prev
  let n : Int := (prev.length : Nat)
  let g := powerRatio level
  let diff : Nat := (List.zipWith (fun (a b : Cplx) => (Cplx.sub (n * a.1, n * a.2) b).norm) h sum).foldl (· + ·) 0
  let whole : Nat := (sum.map Cplx.norm).foldl (· + ·) 0
  whole != 0 && decide ((whole : Int) * g.num ≤ (diff * g.den : Nat))

/-! ## A symbol of a frame (R184, R187-R192) -/

/-- What judging a symbol gives: the frame after it, counts of 2014 by sub-index, and whether a step was declared. -/
structure Judged where
  frame : RxCur
  counts : List (Nat × Nat)
  step : Bool
deriving DecidableEq, Repr

/-- Beats in which the current limit acted overlap a span (R192). -/
def Port.limitedIn (x : Port) (start stop : Nat) : Bool := x.limits.any fun b => decide (b * beatNs < stop) && decide (start < (b + 1) * beatNs)

/-- Tone-map set of payload symbol `i` of a received frame that begins at `start` (R219). -/
def State.rxSet (s : State) (p l : Nat) (c : RxCur) (i start : Nat) : Nat :=
  match s.linkOf p l c.head.src with
  | some k => if c.head.sk && s.tether.valid && i != 0 then keySet (s.linkKey (s.link k) c.maps) (s.slotAtTime start) else c.head.tms
  | none => c.head.tms

/-- Erase the last symbol kept, where it has the number before `n` (R191). -/
def eraseBefore (n : Nat) (l : List SoftSymbol) : List SoftSymbol :=
  l.map fun x => if x.number + 1 = n then { x with bad := true, soft := x.soft.map fun _ => 0 } else x

/-- Judge a symbol of a frame (R184, R187-R193, R218): `body` are its samples after stage 1. -/
def State.judge (s : State) (p l : Nat) (c : RxCur) (y : RxSymbol) (body : List Cplx) : Judged :=
  let k := c.track
  let u := k.use
  let kind := s.laneKind p l
  let w := fftWindow kind
  let start := c.preambleEnd + y.index * s.rxSymbolNs p l
  let stop := start + s.rxSymbolNs p l
  let follows := decide (k.next = y.index)
  -- blanking
  let z := if k.suspended then (body.map fun _ => false, 0) else frameBlank u k.ref y.lead body y.tail
  let bl := (z.1.drop (prefixSamples kind)).countP id
  let eraseB := decide (u.fraction * w < bl * 128)
  let half := decide (w < 2 * bl)
  let suspend := half && k.half && follows
  -- steps
  let judged := kind != 3 && y.pilots != []
  let step := judged && stepReaches k.estimates y.pilots (500 * u.step)
  let near := judged && stepReaches k.estimates y.pilots (500 * u.step - 3000)
  let before := step && k.near && follows
  let erased := eraseB || step
  -- marking
  let markH := (s.echo p (s.laneBand p l)).heldDuring start stop y.sending && !erased
  let limited := (s.port p).limitedIn start stop
  let markC := limited && !erased
  let lost := c.lost.any fun e => decide (start < e.2) && decide (e.1 < stop)
  let m : Nat := if s.isCommandLane p l then 0 else s.pval p 0x2004 6
  let weight : Int := if erased || lost then 0 else (((w - 2 * bl) * (if markH || markC then m else 16) : Nat) : Int)
  let sym : SoftSymbol := ⟨y.index, s.rxSet p l c (y.index - 2) start, erased || lost || markH || markC, y.soft.map fun v => v * weight⟩
  { frame := { c with
      erased := c.erased + ofBool erased + ofBool (before && !k.lastErased)
      marked := c.marked + ofBool (markH || markC) - ofBool (before && k.lastMarked)
      blanked := c.blanked + ofBool (decide (0 < bl))
      steps := c.steps + ofBool step
      clip := c.clip || limited
      echo := c.echo || markH
      susp := c.susp || suspend
      stepAt := if step then y.index - 1 else c.stepAt
      symbols := (if before then eraseBefore y.index c.symbols else c.symbols) ++ [sym]
      track := {
        next := y.index + 1, use := s.rxSettings p l
        ref := nextRef k.ref body z.1
        estimates := if step then [] else if eraseB || !judged then k.estimates else (y.pilots :: k.estimates).take (max 1 u.averaging)
        half := half, suspended := k.suspended || suspend, near := near, lastErased := erased, lastMarked := markH || markC
        lastLimited := markC } }
    counts := [(0x20, z.2), (0x21, ofBool (decide (0 < bl))), (0x22, ofBool eraseB), (0x23, ofBool suspend), (0x24, ofBool step),
      (0x25, ofBool step + ofBool before), (0x26, ofBool markH), (0x27, ofBool markC)]
    step := step }

/-- A current limit of this beat marks the symbol that has just ended, where it overlaps the beat (R192): the frame after it, and whether it
counts. -/
def State.limitLast (s : State) (p l : Nat) (c : RxCur) : RxCur × Bool :=
  let k := c.track
  let m : Int := if s.isCommandLane p l then 0 else (s.pval p 0x2004 6 : Nat)
  if k.next = 0 ∨ c.preambleEnd + k.next * s.rxSymbolNs p l ≤ s.beat * beatNs then (c, false)
  else if k.lastErased ∨ k.lastLimited then ({ c with clip := true }, false)
  else ({ c with
    clip := true, marked := c.marked + ofBool (!k.lastMarked)
    symbols := if k.lastMarked then c.symbols else c.symbols.map fun x =>
      if x.number + 1 = k.next then { x with bad := true, soft := x.soft.map fun v => v * m / 16 } else x
    track := { k with lastMarked := true, lastLimited := true } }, true)

end Sys2Proof.Machine
end

