-- ==== Sys2Proof/Machine/RxOps.lean ====
section
/-! DEFINITION. A lane's receive path (R157-R174, R186-R198): detections, the candidate slot, the replay path, reports,
blanking, steps, and the noise floor. -/

namespace Sys2Proof.Machine

/-- The lane has a reel: kind N (R159). -/
def State.hasReel (s : State) (p l : Nat) : Bool := s.laneKind p l == 1

/-- Length of the preamble, ns (R203); of a G lane four symbols (log 15). -/
def State.rxPreambleNs (s : State) (p l : Nat) : Nat :=
  (if s.isCommandLane p l then 2 else preambleSymbols (s.laneKind p l)) * s.rxSymbolNs p l

/-- Length of the header, ns; on a command lane the command body takes its place (R159); of a G lane two symbols (log 15). -/
def State.rxHeaderNs (s : State) (p l : Nat) : Nat := (if s.isCommandLane p l then 4 else 2) * s.rxSymbolNs p l

/-- Lookback of the lane, ns (R159). -/
def State.lookbackNs (s : State) (p l : Nat) : Nat := if s.hasReel p l then 64000000 else 4 * s.rxSymbolNs p l

/-- The frame's first header symbol still lies within the lookback. -/
def State.inLookback (s : State) (p l : Nat) (c : RxCur) : Bool :=
  decide (s.tsc ≤ c.preambleEnd + s.lookbackNs p l) && decide ((s.lane p l).rx.reelAt ≤ c.preambleEnd)

/-- Write the receive side of a lane. -/
def State.updRx (s : State) (p l : Nat) (f : LaneRx → LaneRx) : State := s.setRx p l (f (s.lane p l).rx)

/-- Published floor and impulse tables are lost with a mute (R197). -/
def State.clearFloor (s : State) (p l : Nat) : State :=
  s.each ((List.range 0x1B).map (· + 1)) fun u i => u.store (laneKey p l 0x2018 i) (defaultOf u.variant (laneKey p l 0x2018 i))

/-- The receive path is muted (R173, R174): frame, slot and replay pairs are discarded and counted. -/
def State.muteRx (s : State) (p l : Nat) : State :=
  let x := (s.lane p l).rx
  let n := ofBool (x.state == .header || x.state == .payload) + ofBool x.slot.isSome + x.pairs.length
  ((s.setRx p l { number := x.number, decoding := x.decoding }).lbumpN p l 0x2014 0x11 n).clearFloor p l

/-- The receive path follows the lane state (R157, R173). -/
def State.settleRx (s : State) (p l : Nat) : State :=
  let on := decide (2 ≤ s.laneState p l)
  let x := (s.lane p l).rx
  if on ∧ x.state = .off then s.setRx p l { x with state := .search, reelAt := s.tsc, searchAt := s.tsc }
  else if !on ∧ x.state ≠ .off then s.muteRx p l else s

/-- The receive paths of a port follow their lane states. -/
def State.settlePortRx (s : State) (p : Nat) : State := s.each (List.range 4) fun u l => u.settleRx p l

/-! ## Detections (R158-R168) -/

/-- SIR field of two levels in dBµV: half decibels, saturating (R172). -/
def sirField (a b : Nat) : Nat := min 255 (2 * (max a b - min a b))

/-- Acquisition word of a frame (R172). -/
def acqWord (c : RxCur) (decoded : Bool) : Nat :=
  c.num * 2 ^ 48 + c.partner * 2 ^ 32 + c.l * 2 ^ 24
    + (if c.partner = c.num then 0 else sirField c.l c.partnerL) * 2 ^ 16
    + ofBool decoded * 2 ^ 15 + c.outcome * 2 ^ 12 + c.bin * 2 ^ 10 + unsigned 10 c.afc

/-- Disturbance word of a frame (R194). -/
def distWord (c : RxCur) : Nat :=
  (min 255 c.erased) * 2 ^ 24 + (min 255 c.marked) * 2 ^ 16 + (min 255 c.blanked) * 2 ^ 8 + (min 15 c.steps) * 2 ^ 4
    + ofBool c.clip * 8 + ofBool c.echo * 4 + ofBool c.susp * 2

/-- Centre of a correlator in 0.25 ppm (R157). -/
def correlatorCentre (bin : Fin 4) : Int := 200 * (bin.val : Int) - 300

/-- Frequency estimate of a detection in 0.25 ppm (R161): from the centre of its correlator. -/
def afcOf (d : Detection) : Int := correlatorCentre d.bin + d.advance

/-- The estimate lies beyond ±110 ppm (R161). -/
def farOff (afc : Int) : Bool := decide (440 < afc) || decide (afc < -440)

/-- The frame a detection begins. -/
def detected (num : Nat) (t : Nat) (d : Detection) : RxCur :=
  { num := num, l := d.l, bin := d.bin.val, afc := (afcOf d), preambleEnd := d.preambleEnd, detected := t, headerOk := false,
    head := ⟨false, 0, 0, 0, 0, 0, 0, false⟩, partner := num, partnerL := d.l, outcome := 0, ended := none, displaced := false,
    pending := false, erased := 0, marked := 0, blanked := 0, steps := 0, clip := false, echo := false, susp := false
    meanSquare := d.meanSquare, estimate := d.estimate }

/-- A frame processed from the symbol with number `first` after its preamble on: the reference and the channel estimate are those of its preamble
(R186, R190, R193), nothing is tallied yet. -/
def RxCur.fromPreamble (c : RxCur) (first : Nat) (use : RxSettings) : RxCur :=
  { c with
    erased := 0, marked := 0, blanked := 0, steps := 0, clip := false, echo := false, susp := false, symbols := [], stepAt := 0
    track := { next := first, use := use, ref := c.meanSquare * 2 ^ 16, estimates := if c.estimate = [] then [] else [c.estimate] } }

/-- A frame becomes current (R165, R167, R186, R189). -/
def LaneRx.take (x : LaneRx) (c : RxCur) (st : RxState) : LaneRx := { x with state := st, cur := some c }

/-- A frame becomes current in HEADER. -/
def State.takeHeader (s : State) (p l : Nat) (c : RxCur) : State :=
  s.updRx p l fun x => x.take (c.fromPreamble 0 (s.rxSettings p l)) .header

/-- A frame is reported to the home cluster (R172, R194). -/
def State.report (s : State) (p l : Nat) (c : RxCur) (decoded : Bool) : State :=
  s.emit (.report p l (acqWord c decoded) (distWord c))

/-- A frame is left out: one whose header had passed is reported undecoded (R172). -/
def State.reportLost (s : State) (p l : Nat) (c : RxCur) : State :=
  if c.headerOk then s.report p l { c with outcome := 4 } false else s

/-- A frame offered to the slot or in it is lost (R166-R168). -/
def State.loseFrame (s : State) (p l : Nat) (c : RxCur) : State := (s.lbump p l 0x2014 9).reportLost p l c

/-- Offer a frame to the candidate slot (R166): the weaker one is lost. -/
def State.offer (s : State) (p l : Nat) (c : RxCur) : State :=
  match (s.lane p l).rx.slot with
  | none => s.updRx p l fun x => { x with slot := some c }
  | some o =>
    if o.l < c.l then (s.updRx p l fun x => { x with slot := some c }).loseFrame p l o else s.loseFrame p l c

/-- Two frames overlap: each names the other as partner where it has none. -/
def RxCur.withPartner (c o : RxCur) (outcome : Nat) : RxCur :=
  { c with partner := if c.partner = c.num then o.num else c.partner, partnerL := if c.partner = c.num then o.l else c.partnerL,
           outcome := if c.outcome = 0 then outcome else c.outcome }

/-- The current frame of a lane in HEADER or PAYLOAD meets a further detection (R165). -/
def State.detectDuring (s : State) (p l : Nat) (c n : RxCur) : State :=
  let margin := s.lval p l 0x2010 3
  if s.lval p l 0x2010 2 = 1 ∧ c.l * 2 + margin ≤ n.l * 2 then
    let old := { c.withPartner n 4 with displaced := true, displacedAt := s.tsc }
    ((s.takeHeader p l (n.withPartner c 1)).lbump p l 0x2014 6).offer p l old
  else
    let inHeader := (s.lane p l).rx.state == .header
    let u := s.updRx p l fun x => { x with cur := some (c.withPartner n 4) }
    let v := if inHeader then u else u.lbump p l 0x2014 8
    v.offer p l { n.withPartner c 4 with pending := inHeader }

/-- A detection is declared (R158, R161, R165, R166, R173). -/
def State.detect (s : State) (p l : Nat) (d : Detection) : State :=
  let x := (s.lane p l).rx
  let num := (x.number + 1) % 65536
  let u := ((((s.updRx p l fun y => { y with number := num }).lbump p l 0x2014 1).storeNat (laneKey p l 0x2014 0x12) s.tsc).storeNat
    (laneKey p l 0x2014 0x13) (unsigned 16 (afcOf d))).storeNat (laneKey p l 0x2014 0x14) d.l
  let u := u.storeNat (laneKey p l 0x2014 0x15) num
  let c := detected num s.tsc d
  if farOff (afcOf d) then u.lbump p l 0x2014 3
  else match x.state, x.cur with
    | .search, _ => u.takeHeader p l c
    | .rearm, some o => u.offer p l { c.withPartner o 4 with pending := true }
    | .rearm, none => u.offer p l { c with pending := true }
    | .header, some o => u.detectDuring p l o c
    | .payload, some o => u.detectDuring p l o c
    | _, _ => u

/-- Order in which the vigil takes detections that it resolves together (R160): higher L, earlier end, lower BIN. -/
def detectedBefore (a b : Detection) : Bool :=
  lexLt [255 - a.l, a.preambleEnd, a.bin.val] [255 - b.l, b.preambleEnd, b.bin.val]

/-- Detections in the order taken: those whose preambles end within a symbol of the earliest are resolved together, then the others (R160). -/
def vigilOrder (symbol : Nat) : Nat → List Detection → List Detection
  | 0, _ => []
  | n + 1, l =>
    match (l.map fun d => d.preambleEnd).min? with
    | none => []
    | some e =>
      sortBy detectedBefore (l.filter fun d => decide (d.preambleEnd ≤ e + symbol))
        ++ vigilOrder symbol n (l.filter fun d => decide (e + symbol < d.preambleEnd))

/-! ## False starts and the candidate slot (R163-R168) -/

/-- The path enters SEARCH or REARM. -/
def State.idleRx (s : State) (p l : Nat) (failed : RxCur) (next : RxState) : State :=
  s.updRx p l fun y => { y with state := next, cur := if next = .rearm then some failed else none, searchAt := s.tsc }

/-- TSC at which the first unprocessed symbol of a displaced frame begins (R167). -/
def State.unprocessed (s : State) (p l : Nat) (o : RxCur) : Nat :=
  o.preambleEnd + (o.displacedAt - o.preambleEnd) / s.rxSymbolNs p l * s.rxSymbolNs p l

/-- A displaced frame goes on after the failed one (R167): its symbols under that one's preamble and header are erasures, and the blanking
reference is its preamble's (R186). -/
def State.resumed (s : State) (p l : Nat) (o failed : RxCur) : RxCur :=
  { o with
    displaced := false, outcome := 7, track := { o.track with use := s.rxSettings p l, ref := o.meanSquare * 2 ^ 16 }
    lost := some (failed.preambleEnd - s.rxPreambleNs p l, failed.preambleEnd + s.rxHeaderNs p l) }

/-- After a false start, a refused header or REARM the slot is examined (R167); `next` is the state without a frame. -/
def State.examineSlot (s : State) (p l : Nat) (failed : RxCur) (next : RxState) : State :=
  let x := (s.lane p l).rx
  match x.slot with
  | none => s.idleRx p l failed next
  | some o =>
    let u := s.updRx p l fun y => { y with slot := none }
    if o.displaced ∧ o.headerOk then
      if s.hasReel p l ∧ s.tsc ≤ s.unprocessed p l o + 60000000 then u.updRx p l fun y => y.take (s.resumed p l o failed) .payload
      else (u.idleRx p l failed next).loseFrame p l o
    else if s.inLookback p l o then
      (u.takeHeader p l { o with displaced := false, pending := false, outcome := 6 }).lbump p l 0x2014 7
    else (u.idleRx p l failed next).loseFrame p l o

/-- The header of the current frame fails or is refused (R163, R164): the slot is examined, else REARM. -/
def State.headerFails (s : State) (p l : Nat) (c : RxCur) (counter : Nat) : State :=
  ((s.lbump p l 0x2014 counter).updRx p l fun y => { y with rearmAt := c.preambleEnd + s.rxHeaderNs p l }).examineSlot p l c .rearm

/-- The header of a frame, from the soft values of its symbols where they all came (R205-R207), else as its check reports it (log 65). -/
def State.headerOf (s : State) (p l : Nat) (c : RxCur) (h : Header) : Header :=
  let n := 2 * dataCarriers (s.laneKind p l) (s.laneM p l)
  match c.symbols.filter fun y => decide (y.number < 2) with
  | [a, b] => if s.isNativeData p l ∧ a.number = 0 ∧ b.number = 1 ∧ a.soft.length = n ∧ b.soft.length = n then decodeHeader (a.soft ++ b.soft) else h
  | _ => h

/-- A frame's header has passed (R173, R219, R223): the tone maps and the iteration limit in force hold for it. -/
def State.passed (s : State) (p l : Nat) (c : RxCur) (h : Header) : RxCur :=
  { c with
    headerOk := true, head := h, limit := s.val (0x2800 + h.prof) 8
    maps := match s.linkOf p l h.src with
      | some k => (s.link k).up
      | none => {} }

/-- Maximum NSYM that a receiving lane applies: the highest of the old and new ones during a changeover (R209). -/
def State.rxMaxNsym (s : State) (prof : Nat) : Nat :=
  (Table.get [] s.mgr.oldNsym prof).foldl (fun a e => if s.beat < e.2 then max a e.1 else a) (s.maxNsym prof)

/-- The content of a header can be served (R164, R209, R225). -/
def State.headerServed (s : State) (p l : Nat) (h : Header) : Bool :=
  if s.laneKind p l = 3 then s.profileServed p l h.prof
  else h.ver == 1 && decide (1 ≤ h.nsym) && decide (h.nsym ≤ s.rxMaxNsym h.prof) && s.profileServed p l h.prof

/-! ## Pairs and the replay path (R168-R171) -/

/-- The SIR of a pair lies between 4.0 and 24.0 dB (R169). -/
def sirInside (a b : Nat) : Bool := let d := max a b - min a b; decide (4 ≤ d) && decide (d ≤ 24)

/-- The lane attempts dual capture (R169). -/
def State.dualEnabled (s : State) (p l : Nat) : Bool :=
  s.laneKind p l == 1 && s.lval p l 0x2008 4 == 0 && s.lval p l 0x2010 4 == 1

/-- TSC of the first reel sample the replay of a frame needs (R170 step 4). -/
def State.replayFrom (s : State) (p l : Nat) (c : RxCur) : Nat :=
  if c.headerOk then c.preambleEnd + s.rxHeaderNs p l else c.preambleEnd - s.rxPreambleNs p l

/-- The replay may still start on a frame: its first sample is no more than 60 ms old (R169). -/
def State.replayFresh (s : State) (p l : Nat) (c : RxCur) : Bool := decide (s.tsc ≤ s.replayFrom p l c + 60000000)

/-- A candidate left in the slot when the current frame ends becomes current where the lookback still holds it, else it is lost
(R168, steps 2 and 3). -/
def State.takeCollided (s : State) (p l : Nat) (o : RxCur) : State :=
  if s.inLookback p l o ∧ (s.lane p l).rx.state = .search then
    s.takeHeader p l { o with displaced := false, pending := false, outcome := 4 }
  else s.loseFrame p l o

/-- The upstream tone maps of the frame's link exist, or it needs none (R219). -/
def State.hasMaps (s : State) (p l : Nat) (h : Header) : Bool :=
  if profileMapping h.prof = 0 ∧ profileGroup h.prof ≠ 3 then
    match s.linkOf p l h.src with
    | some k => (s.link k).up.sets != 0
    | none => false
  else true

/-- A shadowed candidate is stronger than the current frame by less than the capture margin, and the lane kept that frame (R171). -/
def State.reversible (s : State) (p l : Nat) (c o : RxCur) : Bool :=
  !o.displaced && !o.pending && decide (c.l < o.l) && decide (2 * o.l < 2 * c.l + s.lval p l 0x2010 3)

/-- The slot when the current frame's last symbol has been received (R168-R171): a pair for the replay path, else a candidate. -/
def State.slotAtEnd (s : State) (p l : Nat) (c o : RxCur) : State :=
  let u := s.updRx p l fun y => { y with slot := none }
  if !sirInside c.l o.l then (u.lbump p l 0x2014 0x0E).takeCollided p l o
  else if s.dualEnabled p l && s.hasMaps p l c.head && decide (o.l < c.l) then
    u.updRx p l fun y => { y with pairs := y.pairs ++ [⟨c, o, 0, false⟩] }
  else if s.dualEnabled p l && s.hasMaps p l c.head && s.reversible p l c o then
    u.updRx p l fun y => { y with pairs := y.pairs ++ [⟨o, c, 0, true⟩] }
  else (u.lbump p l 0x2014 0x0F).takeCollided p l o

/-- Replay state 2010.06 (R173). -/
def State.replayState (s : State) (p l : Nat) : Nat :=
  let ps := (s.lane p l).rx.pairs
  if ps.any fun q => decide (2 ≤ q.phase) then 2 else if ps.isEmpty then 0 else 1

/-- Replace a pair of the replay path, by its weaker frame's number. -/
def State.setPair (s : State) (p l : Nat) (q : ReplayPair) (new : Option ReplayPair) : State :=
  s.updRx p l fun y => { y with pairs := y.pairs.flatMap fun z => if z = q then new.toList else [z] }

/-- End of the weaker frame of a pair (R170 step 1); of a frame whose header has not been read, the end of its header (log 68). -/
def State.weakEnd (s : State) (p l : Nat) (q : ReplayPair) : Nat :=
  match q.weak.ended with
  | some a => a
  | none => q.weak.preambleEnd + s.rxHeaderNs p l + (if q.weak.headerOk then q.weak.head.nsym * s.rxSymbolNs p l else 0)

/-- The frame that a pair in replay is processing (R170, R171). -/
def ReplayPair.target (q : ReplayPair) : Option RxCur :=
  if q.phase = 2 then some (if q.reverse then q.strong else q.weak) else if q.phase = 3 then some q.weak else none

/-- Write that frame. -/
def ReplayPair.setTarget (q : ReplayPair) (c : RxCur) : ReplayPair :=
  if q.phase = 2 ∧ q.reverse then { q with strong := c } else { q with weak := c }

/-- The pair in replay. -/
def State.replaying (s : State) (p l : Nat) : Option ReplayPair := (s.lane p l).rx.pairs.find? fun q => decide (2 ≤ q.phase)

/-- A frame of the reel as a pass begins (R170 step 4): from its first payload symbol where its header had passed, else from its preamble, with the
fresh frequency estimate. -/
def State.replayed (s : State) (p l : Nat) (c : RxCur) (afc : Int) (meanSquare : Nat) (estimate : List (Int × Int)) : RxCur :=
  if c.headerOk then c.fromPreamble 2 (s.rxSettings p l)
  else { c with afc := afc, meanSquare := meanSquare, estimate := estimate }.fromPreamble 0 (s.rxSettings p l)

/-! ## Decode results (R172, R191, R198, R229, R350) -/

/-- The decode result counts as decoded (R213). -/
def decodedOk (r : DecodeResult) : Bool := r.failed == 0 && r.crcOk && r.returned.isNone

/-- Order in which the soft values of payload symbol `i` stand in its stream: they come in ascending order of the carriers (R214). -/
def symbolStream (loads : List (Nat × Nat × Nat)) (soft : List Int) : List Int :=
  loads.flatMap fun e => (soft.drop ((loads.filter fun f => decide (f.1 < e.1)).foldl (fun a f => a + f.2.1) 0)).take e.2.1

/-- The soft values of a frame's payload, where they all came with its symbols (R214, R217). -/
def State.payloadSoft (s : State) (p l : Nat) (c : RxCur) : Option (List Int) :=
  let got := (c.symbols.filter fun y => decide (2 ≤ y.number)).take c.head.nsym
  let order := payloadOrder (s.laneKind p l) (s.laneM p l) c.head.prof (s.laneMaxMod p l) c.maps (got.map SoftSymbol.set) c.head.nsym
  if got.map SoftSymbol.number = (List.range c.head.nsym).map (· + 2)
      ∧ (got.zip order).all fun e => e.1.soft.length == e.2.foldl (fun a f => a + f.2.1) 0
  then some ((got.zip order).flatMap fun e => symbolStream e.2 e.1.soft) else none

/-- Coded bits of a received payload (R211). -/
def State.rxCoded (s : State) (p l : Nat) (c : RxCur) (sent : Nat) : Nat :=
  if profileMapping c.head.prof = 0 then sent else (fixedBits (s.laneKind p l) (s.laneM p l) c.head.prof c.head.nsym).getLastD 0

/-- How a payload's decoding ended (R210-R213): computed from its soft values where they all came and no item was returned, else as the cell
reports it, held to the codewords that the payload has (log 65). -/
def State.decodeOf (s : State) (p l : Nat) (c : RxCur) (r : DecodeResult) : DecodeResult :=
  if s.isNativeData p l = false ∨ r.returned.isSome then r
  else match s.payloadSoft p l c with
    | some soft =>
      let n := s.rxCoded p l c soft.length
      let d := decodePayload (profileCode c.head.prof) c.limit c.head.src n (combine (profileRep c.head.prof) n soft)
      { r with good := d.good, failed := d.failed, crcOk := d.crcOk }
    | none => { r with good := r.good + r.failed - min r.failed (r.good + r.failed) }

/-- Codewords, check failures and returned items of a decode result are counted (R213, R229, R234, R349). -/
def State.countDecode (s : State) (p l : Nat) (r : DecodeResult) : State :=
  let u := (s.lbumpN p l 0x2014 0x30 r.good).lbumpN p l 0x2014 0x31 r.failed
  let u := if s.laneKind p l = 3 then u.bump 0x28F0 5
    else if s.laneKind p l = 2 then u.bumpKey (keyOf 0x28F0 2) (r.good + r.failed)
    else u.bumpKey (keyOf 0x28F0 1) (r.good + r.failed)
  let u := if r.returned.isSome then u.lbump p l 0x2014 0x33 else u
  if r.returned.isNone ∧ r.failed = 0 ∧ r.crcOk = false then u.lbump p l 0x2014 0x38 else u

/-- Frames with a step are counted by their decode result; the link's earlier SNR history is discarded, and the link is planned again (R191). -/
def State.stepResult (s : State) (p l : Nat) (c : RxCur) (ok : Bool) : State :=
  if c.steps = 0 then s
  else
    let u := s.lbump p l 0x2014 (if ok then 0x28 else 0x29)
    match u.linkOf p l c.head.src with
    | some k => u.setLink k { u.link k with snrUp := [], fresh := true }
    | none => u

/-- The SNR values of a decoded frame are filed under the module slots of its symbols (R198): none of erased or marked symbols, and of a frame
with a step those after it (R191). -/
def State.fileSnr (s : State) (p l : Nat) (c : RxCur) (snr : List (Nat × Nat × Nat)) : State :=
  match s.linkOf p l c.head.src with
  | none => s
  | some k =>
    let bad := fun (i : Nat) => decide (i < c.stepAt) || c.symbols.any fun y => y.number == i + 2 && y.bad
    let l' := snr.filter fun e => !bad e.1
    if l' = [] then s
    else
      let x := s.link k
      let slotOf := fun i => s.slotAtTime (c.preambleEnd + s.rxHeaderNs p l + i * s.rxSymbolNs p l)
      s.setLink k { x with fresh := true, snrUp := l'.foldl (fun t e => Table.put 0xFF t (slotOf e.1 * 256 + e.2.1) e.2.2) x.snrUp }

/-- A frame's decode result: counted, and what the planner learns of it (R191, R198, R213). -/
def State.tallyDecode (s : State) (p l : Nat) (c : RxCur) (r : DecodeResult) : State :=
  let u := (s.countDecode p l r).stepResult p l c (decodedOk r)
  if decodedOk r then u.fileSnr p l c r.snr else u

/-- What the pairs do with the main path's decode result of a frame (R169, R171, R172). -/
def State.pairsDecoded (s : State) (p l : Nat) (c : RxCur) (ok : Bool) : State :=
  s.each ((s.lane p l).rx.pairs.filter fun q => q.phase == 0) fun u q =>
    if !q.reverse ∧ q.strong.num = c.num then
      if ok then u.setPair p l q (some { q with strong := c, phase := 1 })
      else ((u.setPair p l q none).lbump p l 0x2014 0x0C).reportLost p l q.weak
    else if q.reverse ∧ q.weak.num = c.num then
      if ok then (u.setPair p l q none).takeCollided p l q.strong else u.setPair p l q (some { q with phase := 1 })
    else u

/-- A decode result of the main path (R172, R229). -/
def State.mainDecoded (s : State) (p l : Nat) (c : RxCur) (r : DecodeResult) : State :=
  let ok := decodedOk r
  let u := s.updRx p l fun y => { y with decoding := y.decoding.filter fun z => z.num != c.num }
  ((u.tallyDecode p l c r).report p l c ok).pairsDecoded p l c ok

/-- A decode result of the replay path (R170, R171). -/
def State.replayDecoded (s : State) (p l : Nat) (q : ReplayPair) (r : DecodeResult) : State :=
  let ok := decodedOk r
  if q.reverse = false then
    let w := { q.weak with outcome := if ok then (if q.weak.displaced then 2 else 3) else 4 }
    let v := ((s.tallyDecode p l w r).setPair p l q none).lbump p l 0x2014 (if ok then 0x0B else 0x0D)
    if w.headerOk ∨ ok then v.report p l w ok else v
  else if q.phase = 2 then
    let v := (s.tallyDecode p l q.strong r).report p l { q.strong with outcome := if ok then 3 else 4 } ok
    if !ok then v.setPair p l q none
    else if s.replayFresh p l q.weak then
      v.setPair p l q (some { q with phase := 3, weak := q.weak.fromPreamble 2 (s.rxSettings p l) })
    else (v.setPair p l q none).lbump p l 0x2014 0x0F
  else
    let v := (s.tallyDecode p l q.weak r).setPair p l q none
    if ok then (v.lbump p l 0x2014 0x10).report p l { q.weak with outcome := 5 } true else v

/-! ## Symbols (R177-R193) -/

/-- Count what judging a symbol counted. -/
def State.countSymbol (s : State) (p l : Nat) (l' : List (Nat × Nat)) : State := s.each l' fun u e => u.lbumpN p l 0x2014 e.1 e.2

/-- A symbol of a frame is judged and counted; a step has S measured at once (R191). -/
def State.rxSymbol (s : State) (p l : Nat) (c : RxCur) (y : RxSymbol) (body : List Cplx) (store : State → RxCur → State) : State :=
  let j := s.judge p l c y body
  let u := store (s.countSymbol p l j.counts) j.frame
  if j.step then u.echoCheck p (s.laneBand p l) (if y.sending = [] then none else some y.suppression) else u

/-- Write the current frame. -/
def State.setCur (s : State) (p l : Nat) (c : RxCur) : State := s.updRx p l fun z => { z with cur := some c }

/-- A current limit of this beat marks what the port's receiving lanes have just received (R192). -/
def State.limitLanes (s : State) (p : Nat) : State :=
  s.each (List.range 4) fun u l =>
    match (u.lane p l).rx.cur with
    | some c =>
      if (u.lane p l).rx.state = .header ∨ (u.lane p l).rx.state = .payload then
        let x := u.limitLast p l c
        (u.setCur p l x.1).lbumpN p l 0x2014 0x27 (ofBool x.2)
      else u
    | none => u

/-! ## Noise floor (R195-R197) -/

/-- Byte of a mean power (sum over count, µV² scaled by 10⁴): v/2 − 20 dBµV, to the nearest half decibel, saturating (log 16). -/
def floorByte (sum count : Nat) : Nat :=
  ((List.range 254).filter fun k => decide (10 ^ (2 * k + 1) * (100 * count) ^ 40 ≤ sum ^ 40)).length

/-- Published bytes of one slot (R197). -/
def floorSlot (t : Table (Nat × Nat)) (groups slot : Nat) : Bytes :=
  (List.range groups).map fun g =>
    match Table.find t (slot * 256 + g) with
    | some (sum, n) => if n < 4 then 0xFF else BitVec.ofNat 8 (floorByte sum n)
    | none => 0xFF

/-- Length of a noise-floor window, ns (R195). -/
def windowNs (kind : Nat) : Nat := if kind = 2 then 40960 else 256000

/-- Values of a window's groups (R126, R196): corrected for the receive level error, where the residual echo estimated for the group lies 10 dB
below its power, or the port does not transmit in the band. -/
def State.floorValues (s : State) (p l : Nat) (w : FloorWindow) : List (Option Nat) :=
  let q := f32ToMilli (s.portEffective p (match s.laneBand p l with | .nb => 3 | .bb => 4))
  (w.groups.take (s.floorGroups p l)).map fun g =>
    if w.transmitting = true ∧ g.1 < 10 * g.2 then none else some (scaleBy g.1 (powerRatio (-q))).toNat

/-- Add a window's values to the accumulators of a slot (R196). -/
def addFloor (t : Table (Nat × Nat)) (slot : Nat) (l : List (Option Nat)) : Table (Nat × Nat) :=
  ((List.range l.length).zip l).foldl (fun a e => match e.2 with
    | some v =>
      let x := (Table.find a (slot * 256 + e.1)).getD (0, 0)
      Table.insert a (slot * 256 + e.1) (x.1 + v, x.2 + 1)
    | none => a) t

end Sys2Proof.Machine
end

