-- ==== Sys2Proof/Machine/PortOps.lean ====
section
/-! DEFINITION. The port state machine (R107-R124, R474): transitions, relays, faults, ballast substitution, foldback, gain and
what happens at a beat boundary. -/

namespace Sys2Proof.Machine

/-- Source number of a port's AFE (cell 8). -/
def srcAfe (p : Nat) : Nat := srcOf 1 p 8

/-- Source number of a port's relays (cell 11). -/
def srcRelays (p : Nat) : Nat := srcOf 1 p 11

/-- The port's block is RUNNING (R116, R29). -/
def State.portUp (s : State) (p : Nat) : Bool := (s.block 1 p).state == .running

/-- Enable in force. -/
def State.portEnabled (s : State) (p : Nat) : Bool := s.pval p 0x2000 1 == 1

/-- Stop in force; extraction and outputs held safe stop every port (R430, R27). -/
def State.portStopped (s : State) (p : Nat) : Bool := s.pval p 0x2000 2 == 1 || s.outputsSafe

/-- Bands of 2000.03 in force. -/
def State.portBands (s : State) (p : Nat) : List Band :=
  [Band.nb, Band.bb].filter fun (b : Band) => bit (s.pval p 0x2000 3) (bandNo b)

/-- Write a port through a function. -/
def State.updPort (s : State) (p : Nat) (f : Port → Port) : State := s.setPort p (f (s.port p))

/-! ## Relays and mutes (R107, R122) -/

/-- A band's relay. -/
def Port.relay (x : Port) : Band → Relay
  | .nb => x.relayNb
  | .bb => x.relayBb

/-- Write a band's relay. -/
def Port.setRelay (x : Port) (b : Band) (r : Relay) : Port :=
  match b with
  | .nb => { x with relayNb := r }
  | .bb => { x with relayBb := r }

/-- TSC from which a band's DAC is muted. -/
def Port.muted (x : Port) : Band → Option Nat
  | .nb => x.mutedNb
  | .bb => x.mutedBb

/-- Write the mute of a band. -/
def Port.setMuted (x : Port) (b : Band) (m : Option Nat) : Port :=
  match b with
  | .nb => { x with mutedNb := m }
  | .bb => { x with mutedBb := m }

/-- Command a band's relay, with the beat of the command. -/
def Port.command (x : Port) (b : Band) (closed : Bool) (beat : Nat) : Port :=
  if (x.relay b).command = closed then x else x.setRelay b { x.relay b with command := closed, beat := beat }

/-- Mute a band's DAC from now; a mute in force stays. -/
def Port.mute (x : Port) (b : Band) (t : Nat) : Port := if (x.muted b).isSome then x else x.setMuted b (some t)

/-- Mute both bands, shut the driver down and open both relays at the first boundary that R107 allows (R116, R122). -/
def Port.quiet (x : Port) (t : Nat) : Port :=
  { (x.mute .nb t).mute .bb t with
    driver := false,
    opening := [Band.nb, Band.bb].filter fun (b : Band) => (x.relay b).command }

/-- Open the relays whose band has been muted for a beat (R107, R122). -/
def Port.openDue (x : Port) (t beat : Nat) : Port :=
  let due := x.opening.filter fun (b : Band) => match x.muted b with
    | some m => decide (m + beatNs ≤ t)
    | none => false
  let y := due.foldl (fun z b => z.command b false beat) x
  { y with opening := x.opening.filter fun (b : Band) => !due.contains b }

/-- Both band relays read open. -/
def Port.relaysOpen (x : Port) : Bool := !x.relayNb.sense && !x.relayBb.sense

/-- Driver bias goes off with a disable once contact sense confirms the relays open (R116). -/
def Port.dropBias (x : Port) : Port := if x.state = .off ∧ x.relaysOpen then { x with bias := false } else x

/-! ## Transitions (R116) -/

/-- Entering STARTING lifts the mutes of a port's groups with their clips, and peak excess restarts (R151, R154). -/
def State.liftGroups (s : State) (p : Nat) : State :=
  s.each (List.range 4) fun u l =>
    let x := (u.lane p l).tx
    (u.setTx p l { x with mutedGroups := [], clips := x.mutedGroups.foldl Table.erase x.clips }).storeNat (laneKey p l 0x200C 9) 0

/-- Enter a state at a step. Leaving or reaching RUNNING changes what uses the port: routes, broadcasts, receive paths; OFF, STOPPED
and FAULT discard the cancellers (R183). -/
def State.enterPort (s : State) (p : Nat) (st : PortState) (step : PortStep) : State :=
  let x := s.port p
  let y : Port := { x with
    state := st, step := step, stateBeat := s.beat, stepBeat := s.beat, adding := if st = .running then x.adding else [],
    runBeat := if st = .running then s.beat else x.runBeat }
  let u := s.setPort p y
  let v := if (x.state = .running) ≠ (st = .running) then u.touchPort p else u
  let w := if x.state = .running ∧ st ≠ .running then v.broadcastsLeave p else v
  let w := if x.state ≠ .starting ∧ st = .starting then w.liftGroups p else w
  let z := if st = .off ∨ st = .stopped ∨ st = .fault ∨ st = .swapping then (w.echoOff p .nb).echoOff p .bb else w
  z.settlePortRx p

/-- Cut the frames of a port's data lanes and hand them back (R116, R257). -/
def State.cutLanes (s : State) (p : Nat) : State := s.each (List.range 4) fun u l => u.cutFrame p l

/-- No lane of the port transmits. -/
def State.lanesIdle (s : State) (p : Nat) : Bool :=
  (s.cell p).frame.isNone && (List.range 4).all fun l => (s.lane p l).tx.onLine.isNone

/-- Mute, shut down and open (R116). -/
def State.quietPort (s : State) (p : Nat) : State := s.updPort p fun x => x.quiet s.tsc

/-- Enter STARTING from its first step: driver bias on, DAC muted; the impedance intervals run from here (R113). -/
def State.startPort (s : State) (p : Nat) : State :=
  (s.updPort p fun x => { (x.mute .nb s.tsc).mute .bb s.tsc with
    bias := true, impedanceNb := s.beat, impedanceBb := s.beat }).enterPort p .starting .bias

/-- Every relay of the bands in use is confirmed closed: training begins, the DAC drives (R116, R183). -/
def State.trainIfClosed (s : State) (p : Nat) : State :=
  let x := s.port p
  let bands := s.portBands p
  if (x.state = .starting ∨ x.state = .swapping) ∧ x.step = .relays ∧ bands.all fun b => (x.relay b).command && (x.relay b).sense then
    let u := s.updPort p fun y => { bands.foldl (fun z b => z.setMuted b none) y with step := .training, stepBeat := s.beat }
    u.each (bands.filter fun b => (s.echo p b).state == .off) fun v b => v.echoTrain p b
  else s

/-- The relay step (R116, R122): the driver runs, the relays of the bands in use are commanded closed. -/
def State.relayStep (s : State) (p : Nat) (st : PortState) : State :=
  let u := if (s.port p).state = st then s.updPort p fun x => { x with step := .relays, stepBeat := s.beat } else s.enterPort p st .relays
  let v := u.updPort p fun x =>
    { (u.portBands p).foldl (fun z b => z.command b true u.beat) x with
      bias := true, driver := true, opening := x.opening.filter fun (b : Band) => !(u.portBands p).contains b }
  v.trainIfClosed p

/-- A matrix move waits, or is under way (R107, R123). -/
def Port.moving (x : Port) : Bool := x.matrixDue || x.matrix.command != x.matrix.sense

/-- Leave STOPPED (R116): at the relay step, or at the loopback calibration where another AFE has come in since the last one (R123). -/
def State.leaveStopped (s : State) (p : Nat) : State :=
  if (s.port p).moving then s
  else if (s.port p).calibrate then s.enterPort p .starting .loopback else s.relayStep p .starting

/-- Leave STARTING or SWAPPING for STOPPED or OFF, what was begun abandoned (R116). -/
def State.abandonPort (s : State) (p : Nat) (st : PortState) : State :=
  ((s.quietPort p).enterPort p st .bias).updPort p Port.dropBias

/-- STOPPING ends (R116): frames still running are cut, a command frame runs to its end first (R121). -/
def State.finishStopping (s : State) (p : Nat) : State :=
  let u := s.cutLanes p
  if (u.cell p).frame.isSome then u
  else
    let v := (u.quietPort p).enterPort p (if u.portEnabled p then .stopped else .off) .bias
    if v.portEnabled p then v else v.updPort p Port.dropBias

/-- Reload the retries (R119). -/
def State.reloadRetries (s : State) (p : Nat) : State := s.updPort p fun x => { x with retries := s.pval p 0x2000 5 }

/-- The substitution that moves a port, if one runs. -/
def State.swapOf (s : State) (p : Nat) : Option SwapRequest :=
  match s.sup.running with
  | some q => if q.primary = srcBlock 1 p then some q else none
  | none => none

/-- The substitution is complete (R123, R124): counted, the unit has taken or left its place, the effective values follow the AFE. -/
def State.swapDone (s : State) (p : Nat) : State :=
  match s.swapOf p with
  | some q => ((s.endSwap q true).pbump p 0x201F 0x0C).updPort p fun x => { x with calAfe := x.ballastAfe }
  | none => s

/-- One transition that enable, stop and the block state ask for (R116, R121). -/
def State.portPolicy (s : State) (p : Nat) : State :=
  let en := s.portEnabled p
  let s := if (s.port p).enabled ∧ en = false then s.reloadRetries p else s
  let s := if (s.port p).enabled = en then s else s.updPort p fun x => { x with enabled := en }
  let x := s.port p
  if s.portUp p then
    match x.state with
    | .off => if en then s.startPort p else s
    | .starting =>
      if !en then s.abandonPort p .off
      else if s.portStopped p ∧ (x.step = .relays ∨ x.step = .training) then s.abandonPort p .stopped else s
    | .running => if s.portStopped p || !en then s.enterPort p .stopping .drain else s
    | .stopped =>
      if !en then (s.enterPort p .off .bias).updPort p fun y => { y with bias := false }
      else if s.portStopped p then s else s.leaveStopped p
    | .fault => if !en then ((s.reloadRetries p).enterPort p .off .bias).updPort p fun y => { y with bias := false } else s
    | .stopping => s
    | .swapping =>
      if (s.portStopped p || !en) && (x.step == .relays || x.step == .training) then
        (s.swapDone p).abandonPort p (if en then .stopped else .off)
      else s
  else if x.state = .off then s
  else (((s.cutLanes p).cutCommand p).quietPort p).enterPort p .off .bias

/-! ## Faults (R117, R118) -/

/-- Enter FAULT with a cause (R116, R118). -/
def State.enterFault (s : State) (p cause : Nat) : State :=
  let u := ((s.cutLanes p).cutCommand p).quietPort p
  let v := (u.enterPort p .fault .bias).updPort p fun x =>
    { x with cause := cause, causeActive := cause == 1 || cause == 2, faultNext := 0 }
  let w := ((v.storeNat (portKey p 0x2001 8) v.tsc).pbump p 0x201F 0x0B).event (if cause = 5 then srcRelays p else srcAfe p) 0x0501
    sevWarning (toBE 1 cause)
  if cause = 1 then w.pbump p 0x201F 5 else w

/-- A fault cause (R116-R118): FAULT from the four working states; in SWAPPING the matrix is left joined to exactly one AFE. Causes
4 and 5 are errors of their cells and escalate, or substitute ballast, under R22. -/
def State.portFault (s : State) (p cause : Nat) : State :=
  let x := s.port p
  let u :=
    if s.portUp p = false then s
    else if x.state = .swapping then
      if x.step = .matrix then
        (((s.cutLanes p).cutCommand p).quietPort p).updPort p fun y => { y with faultNext := cause }
      else
        let moved := x.step == .loopback || x.step == .relays || x.step == .training
        let v := match s.swapOf p with
          | some q => if moved then s.swapDone p else s.endSwap q false
          | none => s
        v.enterFault p cause
    else if x.state = .starting ∨ x.state = .running ∨ x.state = .stopping then s.enterFault p cause else s
  if cause = 4 then u.escalate (srcAfe p) else if cause = 5 then u.escalate (srcRelays p) else u

/-- FAULT ends (R116): cause cleared, interval elapsed, retries remaining. -/
def State.retryPort (s : State) (p : Nat) : State :=
  let x := s.port p
  if s.portUp p ∧ x.state = .fault ∧ x.causeActive = false ∧ 0 < x.retries ∧ s.portEnabled p
      ∧ s.pval p 0x2001 8 + s.pval p 0x2000 6 * 1000000000 ≤ s.tsc then
    (s.updPort p fun y => { y with retries := y.retries - 1 }).startPort p
  else s

/-! ## Ballast substitution (R117, R123) -/

/-- AFE of a substitution: 0 the port's own, else 36 or 37. -/
def swapAfe (q : SwapRequest) : Nat := if q.back then 0 else 36 + q.unit

/-- Both relays are open and both DAC bands have been muted for a beat, with no frame on the line (R107). -/
def State.matrixFree (s : State) (p : Nat) : Bool :=
  let x := s.port p
  let quiet : Option Nat → Bool := fun m => match m with
    | some a => decide (a + beatNs ≤ s.tsc)
    | none => false
  x.relaysOpen && x.opening.isEmpty && !x.relayNb.command && !x.relayBb.command && quiet x.mutedNb && quiet x.mutedBb && s.lanesIdle p

/-- The matrix breaks and makes. -/
def State.moveMatrix (s : State) (p : Nat) : State :=
  s.updPort p fun y => { y with matrixDue := false, matrix := { y.matrix with command := y.swapTo != 0, beat := s.beat } }

/-- The matrix of a port that was not RUNNING moves as soon as R107 allows (log 17). -/
def State.matrixIdle (s : State) (p : Nat) : State :=
  if (s.port p).matrixDue ∧ s.matrixFree p then s.moveMatrix p else s

/-- A substitution begins at its quiet beat (R116, R123). A port that is not RUNNING moves its matrix as soon as R107 allows; one in STARTING
past its relay step goes back to the loopback calibration of the new AFE (log 17). -/
def State.startSwap (s : State) (p : Nat) (q : SwapRequest) : State :=
  let x := s.port p
  let u := s.updPort p fun x => { x with swapTo := swapAfe q }
  if x.state = .running then u.enterPort p .swapping .drain
  else
    let v := if x.state = .starting ∧ x.step ≠ .bias then
        ((((u.cutLanes p).quietPort p).echoOff p .nb).echoOff p .bb).updPort p fun y => { y with step := .opening, stepBeat := s.beat }
      else u
    (v.updPort p fun y => { y with matrixDue := true }).matrixIdle p

/-- Step 2 of R123: lanes idle or 250 beats over: frames are cut, the DAC muted, the relays opened. -/
def State.drainSwap (s : State) (p : Nat) : State :=
  let u := s.cutLanes p
  if (u.cell p).frame.isSome then u
  else (u.quietPort p).updPort p fun x => { x with step := .opening, stepBeat := u.beat }

/-- Step 3 of R123: the relays are confirmed open, the matrix breaks and makes. -/
def State.matrixStep (s : State) (p : Nat) : State :=
  let x := s.port p
  if x.state = .swapping ∧ x.step = .opening ∧ x.opening = [] ∧ x.relaysOpen then
    (s.moveMatrix p).updPort p fun y => { y with step := .matrix, stepBeat := s.beat }
  else s.matrixIdle p

/-- The matrix has made (R117, R123). -/
def State.matrixMade (s : State) (p : Nat) : State :=
  let x := s.port p
  let u := s.updPort p fun y => { y with ballastAfe := y.swapTo }
  if x.state = .swapping then
    if x.faultNext ≠ 0 then (u.swapDone p).enterFault p x.faultNext
    else u.updPort p fun y => { y with step := .loopback, stepBeat := s.beat }
  else
    let v := (u.swapDone p).updPort p fun y => { y with calibrate := true, bias := y.bias || y.state == .starting }
    if x.state = .starting ∧ x.step ≠ .bias then v.updPort p fun y => { y with step := .loopback, stepBeat := s.beat } else v

/-- Training has ended on every band in use (R116, R123): lanes are released. -/
def State.portTrained (s : State) (p : Nat) : State :=
  let x := s.port p
  if (x.state = .starting ∨ x.state = .swapping) ∧ x.step = .training
      ∧ (s.portBands p).all fun b => (s.echo p b).state != .training && (s.echo p b).state != .off then
    let u := if x.state = .swapping then s.swapDone p else s
    u.enterPort p .running .training
  else s

/-! ## Bands of a running port (R121, R474) -/

/-- Follow a change of 2000.03 on a working port at a boundary. -/
def State.settleBands (s : State) (p : Nat) : State :=
  let x := s.port p
  let use := s.portBands p
  let drop := [Band.nb, Band.bb].filter fun (b : Band) => !use.contains b && (x.relay b).command
  if x.state = .running then
    let add := use.filter fun (b : Band) => !(x.relay b).command
    let u := s.updPort p fun y =>
      let z := drop.foldl (fun w b => w.mute b s.tsc) (add.foldl (fun w b => w.command b true s.beat) y)
      { z with adding := y.adding.filter (fun (b : Band) => use.contains b) ++ add
               opening := y.opening.filter (fun (b : Band) => !use.contains b) ++ drop.filter fun (b : Band) => !y.opening.contains b }
    let v := u.each drop fun w b => w.echoOff p b
    if add = [] ∧ drop = [] then s else v.settlePortRx p
  else if (x.state = .starting ∨ x.state = .swapping) ∧ (x.step = .relays ∨ x.step = .training) then
    let u := s.updPort p fun y => { drop.foldl (fun w b => w.mute b s.tsc) y with
      opening := y.opening.filter (fun (b : Band) => !use.contains b) ++ drop.filter fun (b : Band) => !y.opening.contains b }
    let v := u.each drop fun w b => w.echoOff p b
    if use.all fun b => (x.relay b).command then (if drop = [] then s else v.trainIfClosed p) else v.relayStep p x.state
  else s

/-- A relay of an added band is confirmed (R474): its canceller trains. -/
def State.bandClosed (s : State) (p : Nat) (b : Band) : State :=
  let x := s.port p
  if x.state = .running ∧ x.adding.contains b ∧ (x.relay b).command ∧ (x.relay b).sense then
    (s.updPort p fun y => y.setMuted b none).echoTrain p b
  else s

/-- Training of an added band has ended (R474): its lanes are released. -/
def State.bandTrained (s : State) (p : Nat) (b : Band) : State :=
  let x := s.port p
  if x.state = .running ∧ x.adding.contains b then
    (s.updPort p fun y => { y with adding := y.adding.filter fun (c : Band) => c != b }).settlePortRx p
  else s

/-! ## Contact sense (R118, R122) -/

/-- Contact sense of a band relay changes. -/
def State.bandSense (s : State) (p : Nat) (b : Band) (closed : Bool) : State :=
  let x := s.port p
  if (x.relay b).sense = closed then s else
  let u := (s.updPort p fun y => (y.setRelay b { y.relay b with sense := closed }).dropBias).pbump p 0x201F 1
  let u := u.relayWear 0x6043 (s.afeOf p + 1) (if b = .nb then 128 else 129) ((x.relay b).command == closed)
  if x.state = .running ∧ (x.relay b).command ≠ closed then u.portFault p 5
  else (((if closed then u else u.echoOff p b).bandClosed p b).trainIfClosed p).matrixStep p

/-- Contact sense of the ballast matrix changes. -/
def State.matrixSense (s : State) (p : Nat) (closed : Bool) : State :=
  let x := s.port p
  if x.matrix.sense = closed then s else
  let u := (s.updPort p fun y => { y with matrix := { y.matrix with sense := closed } }).relayWear 0x6043 (p + 1) 130 (x.matrix.command == closed)
  if x.matrix.command = closed then u.matrixMade p
  else if x.state = .running then u.portFault p 5 else u

/-- Some contact disagrees with a command given 250 beats ago (R118). -/
def State.senseLate (s : State) (p : Nat) : Bool :=
  let x := s.port p
  [x.relayNb, x.relayBb, x.matrix].any fun r => r.command != r.sense && decide (r.beat + 250 ≤ s.beat)

/-! ## Power, temperature, gain (R108, R110, R111) -/

/-- Greatest `n` of at most `k` bits with (2n - 1)^10 · 10^(3·steps) ≤ (2·lim)^10: `lim` · 10^(-0.3·steps) rounded to the nearest whole. -/
def foldRound (lim steps : Nat) : Nat → Nat → Nat
  | 0, n => n
  | k + 1, n =>
    let m := n + 2 ^ k
    foldRound lim steps k (if (2 * m - 1) ^ 10 * 10 ^ (3 * steps) ≤ (2 * lim) ^ 10 then m else n)

/-- Effective power limit 2001.0A in mW (R108, R110). -/
def State.powerLimit (s : State) (p : Nat) : Nat :=
  let lim := s.pval p 0x2000 4
  let k := (s.port p).foldback
  if k = 0 then lim else max 10 (foldRound lim k 12 0)

/-- Set or clear a line flag of 2001.03. -/
def State.lineFlag (s : State) (p i : Nat) (on : Bool) : State := s.updPort p fun x => { x with flags := withBit x.flags i on }

/-- Foldback at a beat boundary (R110): a step due while the junction stays at or above 125 °C, one restored after 250 beats at or
below 120 °C. -/
def State.foldTick (s : State) (p : Nat) : State :=
  let x := s.port p
  match x.hotBeat with
  | some h =>
    if x.foldBeat ≤ s.beat ∧ 10 < s.powerLimit p then
      ((s.updPort p fun y => { y with foldback := y.foldback + 1, foldBeat := h + 25 * ((s.beat - h) / 25 + 1) }).lineFlag p 4 true).pbump
        p 0x201F 4
    else s
  | none =>
    match x.coolBeat with
    | some c =>
      if x.foldback ≠ 0 ∧ c + 250 ≤ s.beat then
        (s.updPort p fun y => { y with foldback := y.foldback - 1, coolBeat := some s.beat }).lineFlag p 4 (x.foldback != 1)
      else s
    | none => s

/-- Full transmit gain. -/
def fullScale : Nat := 1000000000000

/-- Power limiting at a beat boundary (R108): the gain of every lane is scaled by limit over mean, and restored by at most 1 dB per
25 beats (log 58). -/
def State.scaleTick (s : State) (p : Nat) : State :=
  let x := s.port p
  let lim := s.powerLimit p
  let sum := x.powers.foldl (· + ·) 0
  let y : Port :=
    if 25 * lim < sum then { x with scale := max 1000 (x.scale * (25 * lim) / sum), scaleBeat := s.beat }
    else if x.scale < fullScale ∧ x.scaleBeat + 25 ≤ s.beat then { x with scale := min fullScale (x.scale * 1122 / 1000), scaleBeat := s.beat }
    else x
  let u := if y = x then s else s.setPort p y
  let u := if y.scale = x.scale then u else u.emit (.portGain p y.scale)
  let on := decide (y.scale < fullScale)
  let v := if on then u.pbump p 0x201F 3 else u
  if bit y.flags 5 = on then v else v.lineFlag p 5 on

/-- Receive gain at a beat boundary (R111). -/
def State.gainTick (s : State) (p : Nat) : State :=
  if s.pval p 0x2002 1 = 1 then
    let x := s.port p
    let y : Port := { x with gain := s.pval p 0x2002 2, gainNext := none, quietBeats := 0 }
    if y = x then s else s.setPort p y
  else match (s.port p).gainNext with
    | some g => s.updPort p fun x => { x with gain := g, gainNext := none }
    | none => s

/-- Beats in which a hold was in force count (R184). -/
def State.holdTick (s : State) (p : Nat) (b : Band) : State :=
  let x := s.echo p b
  if x.hold || x.holds.any fun e => decide (s.tsc < e.2 + beatNs) then s.pbump p 0x2004 (0x26 + bandNo b) else s

/-- A model that waits for the boundary comes into force (R180). -/
def State.modelTick (s : State) (p : Nat) (b : Band) : State :=
  match (s.echo p b).nextTaps with
  | some taps => s.applyModel p b taps
  | none => s

/-- Line flag 6 falls where the limit did not act in the ending beat (R109). -/
def State.limitTick (s : State) (p : Nat) : State :=
  let x := s.port p
  match x.limitBeat with
  | some n => if n + 1 < s.beat then (s.updPort p fun y => { y with limitBeat := none }).lineFlag p 6 false else s
  | none => s

/-- What a port does at a beat boundary, after the shadows are loaded. -/
def State.portTick (s : State) (p : Nat) : State :=
  let s := s.limitTick p
  let s := (((s.holdTick p .nb).holdTick p .bb).modelTick p .nb).modelTick p .bb
  let s := (s.portPolicy p).settleBands p
  let s := s.updPort p fun x => x.openDue s.tsc s.beat
  let s := s.matrixStep p
  let s := if (s.port p).state = .stopping ∧ (s.port p).stateBeat + 250 ≤ s.beat then (s.finishStopping p).portPolicy p else s
  let s := if (s.port p).state = .swapping ∧ (s.port p).step = .drain ∧ (s.port p).stateBeat + 250 ≤ s.beat then s.drainSwap p else s
  if s.portUp p then ((s.foldTick p).scaleTick p).gainTick p else s

end Sys2Proof.Machine
end

