-- ==== Sys2Proof/Machine/CommandOps.lean ====
section
/-! DEFINITION. Command channel and trip matrix (R297-R316): tags, counters, link statuses, matrix sources and destinations, the
choice of the next command frame. -/

namespace Sys2Proof.Machine

/-! ## Link records (R297, R309, R317) -/

/-- A link record in force. -/
def State.linkRec (s : State) (p k : Nat) : Bytes := s.raw (keyOf (0x3440 + p) (k + 1))

/-- FLAGS bit 0: the record is in use. -/
def recUsed (r : Bytes) : Bool := bit (beAt r 0 1) 0

/-- Key slot of a record. -/
def recSlot (r : Bytes) : Nat := beAt r 2 1

/-- Key epoch of a record. -/
def recEpoch (r : Bytes) : Nat := beAt r 12 4

/-- LOCAL and PEER of a record. -/
def recLocal (r : Bytes) : Nat := beAt r 4 4

/-- LOCAL and PEER of a record. -/
def recPeer (r : Bytes) : Nat := beAt r 8 4

/-- The authenticated message of a frame (R297). -/
def commandBlock (r : Bytes) (sending : Bool) (cnt states : Nat) : Bytes :=
  let me := recLocal r % 2 ^ 18
  let peer := recPeer r % 2 ^ 18
  [0xC3] ++ toBE 1 (beAt r 1 1) ++ toBE 3 (if sending then me else peer) ++ toBE 3 (if sending then peer else me) ++ toBE 4 cnt
    ++ toBE 1 states ++ [0, 0, 0]

/-- The tag of a frame: the first 32 bits of CMAC-AES-128 (R297). -/
def commandTag (key r : Bytes) (sending : Bool) (cnt states : Nat) : Nat :=
  Aes.cmac key (commandBlock r sending cnt states) / 2 ^ 96

/-- Whole seconds of station time since a key epoch (R299). -/
def State.linkSeconds (s : State) (epoch : Nat) : Int := (s.stationTime / 1000000000 : Nat) - (epoch : Int)

/-- Command map of command `c` (R317). -/
def State.commandMap (s : State) (p c : Nat) : Nat := s.val (0x3410 + p) (c + 1)

/-- Commands of a link in one direction, as a bitmap: enabled, DIR, link. -/
def State.commandMask (s : State) (p k dir : Nat) : Nat :=
  ((List.range 8).filter fun c => let m := s.commandMap p c; m / 16384 == 2 + dir && m % 8 == k).foldl (fun a c => a + 2 ^ c) 0

/-- A key slot is EMPTY (R309), or is slot 255 blocked by the ripcord (R329). -/
def State.keyGone (s : State) (slot : Nat) : Bool := (s.slot slot).state == .empty || slot == 255 && s.cipher.blocked255

/-- The key under which a table entry of a slot stands (R309): the one it was computed under, at most until 2 beats after the slot has been
written; without an entry the slot's. -/
def State.tableKey (s : State) (slot : Nat) (held : Option (Nat × Bytes)) : Bytes :=
  match held with
  | some e => if s.tsc < (s.slot slot).loaded + 2 * beatNs then e.2 else (s.slot slot).key
  | none => (s.slot slot).key

/-- A key epoch changeover still accepts the old key (R308). -/
def State.oldKeyLives (s : State) (x : CommandLink) : Bool :=
  match x.old with
  | some (slot, _, _, _) => !s.keyGone slot
  | none => false

/-! ## Statuses (R303, R307) -/

/-- Sending status of a link: the first cause in order. -/
def State.sendStatusOf (s : State) (p k : Nat) : Nat :=
  let r := s.linkRec p k
  let x := (s.cell p).link k
  let sec := s.linkSeconds (recEpoch r)
  if s.commandMask p k 0 = 0 then 0
  else if x.spent || x.everSent && x.lastSent == 0xFFFFFFFF then 5
  else if s.keyGone (recSlot r) then 4
  else if s.timeSet = false ∨ sec < 0 then 3
  else if 0x0FFFFFFF < sec then 5
  else if s.running p = false then 2 else 1

/-- Receiving status of a link: the first cause in order. -/
def State.recvStatusOf (s : State) (p k : Nat) : Nat :=
  let x := (s.cell p).link k
  if s.commandMask p k 1 = 0 then 0
  else if x.lastAccepted = 0xFFFFFFFF ∧ x.old = none then 5
  else if s.keyGone (recSlot (s.linkRec p k)) && !s.oldKeyLives x then 4
  else if s.timeSet = false then 3
  else if x.up then 1 else 2

/-- S comes within 3400.05 days of its end (R309). -/
def State.linkWarn (s : State) (p k : Nat) : Bool :=
  s.timeSet && (s.commandMask p k 0 != 0 || s.commandMask p k 1 != 0)
    && decide ((0x0FFFFFFF : Int) - (s.val 0x3400 5 * 86400 : Nat) ≤ s.linkSeconds (recEpoch (s.linkRec p k)))

/-- Source number of a port's command lane, or of the port where it has none. -/
def State.srcCommand (s : State) (p : Nat) : Nat :=
  match s.commandLane p with
  | some l => srcLane p l
  | none => srcBlock 1 p

/-! ## Matrix sources (R313) -/

/-- Received state of a command as the matrix sees it (R307). -/
def State.receivedState (s : State) (p c : Nat) : Bool :=
  let m := s.commandMap p c
  let x := (s.cell p).link (m % 8)
  if m / 16384 = 3 then
    if x.recvStatus = 0 then false else if x.recvStatus = 1 then bit x.accepted c else bit m 13 && bit x.accepted c
  else false

/-- Value of a source named by bits 14:0 of a code; an unlisted code reads 0. -/
def State.sourceValue (s : State) (n : Nat) : Bool :=
  if n = 1 then true
  else if 0x0100 ≤ n ∧ n < 0x0110 then bit s.trip.biState (n - 0x0100)
  else if 0x0200 ≤ n ∧ n < 0x0210 then (Table.get {} s.sensing.switches (n - 0x0200)).on
  else if 0x0300 ≤ n ∧ n < 0x0300 + 8 * 36 then s.receivedState ((n - 0x0300) / 8) ((n - 0x0300) % 8)
  else if 0x0500 ≤ n ∧ n < 0x0500 + 8 * 36 then ((s.cell ((n - 0x0500) / 8)).link ((n - 0x0500) % 8)).recvStatus != 1
  else false

/-- The four codes of a destination's inputs. -/
def inputCodes (v : Nat) : List Nat := [bits v 63 48, bits v 47 32, bits v 31 16, bits v 15 0]

/-- An input is used. -/
def inputUsed (code : Nat) : Bool := code % 0x8000 != 0x7FFF

/-- Values of the used inputs of a destination. -/
def State.inputValues (s : State) (v : Nat) : List Bool :=
  ((inputCodes v).filter inputUsed).map fun c => s.sourceValue (c % 0x8000) != bit c 15

/-- The trip and contact I/O block is RUNNING (R314). -/
def State.tripUp (s : State) : Bool := (s.block 4 4).state == .running

/-- Function of a trip output (R314). -/
def State.outputWanted (s : State) (n : Nat) : Bool :=
  let l := s.inputValues (s.val 0x3500 (n + 1))
  if l = [] then false else if s.val 0x3501 (n + 1) = 1 then l.all id else l.any id

/-- A trip output follows its function (R315): off at once while disabled, else held for its minimum pulse. -/
def State.settleOutput (s : State) (n : Nat) : State :=
  let x := Table.get {} s.trip.outputs n
  let live := s.tripUp && s.val 0x3503 (n + 1) == 1 && !s.outputsSafe
  let put := fun (u : State) (y : TripOutput) => { u with trip := { u.trip with outputs := Table.put {} u.trip.outputs n y } }
  if live = false then (if x.on then put s {} else s)
  else if s.outputWanted n then (if x.on then s else (put s { on := true, since := s.tsc }).bump 0x3505 (n + 1))
  else if x.on ∧ x.since + s.val 0x3502 (n + 1) * 1000000 ≤ s.tsc then put s {} else s

/-! ## Command frames (R299-R302) -/

/-- Write a link through a function. -/
def State.updLink (s : State) (p k : Nat) (f : CommandLink → CommandLink) : State :=
  s.setCell p ((s.cell p).setLink k (f ((s.cell p).link k)))

/-- Counter of the next frame (R299); none for a 17th frame in a second. -/
def State.nextCnt (s : State) (p k : Nat) : Option Nat :=
  let x := (s.cell p).link k
  let sec := (s.linkSeconds (recEpoch (s.linkRec p k))).toNat
  if x.everSent = false ∨ x.lastSent / 16 < sec then some (sec * 16)
  else if sec = x.lastSent / 16 ∧ x.lastSent % 16 = 15 then none else some (x.lastSent + 1)

/-- States of a link's sending commands. -/
def State.linkStates (s : State) (p k : Nat) : Nat := Nat.land (s.cell p).driven (s.commandMask p k 0)

/-- Start a frame on a link (R300, R302). -/
def State.startCommand (s : State) (p k cnt : Nat) (kind : CommandKind) : State :=
  let r := s.linkRec p k
  let st := s.linkStates p k
  let x := (s.cell p).link k
  let tag := commandTag (s.tableKey (recSlot r) (x.tags.find? fun e => e.1 == cnt)) r true cnt st
  let left := match kind with
    | .change => s.val 0x3400 1
    | .repeated => x.repeats - 1
    | .heartbeat => x.repeats
  let u := s.updLink p k fun y => { y with
    lastSent := cnt, everSent := true, startAt := s.tsc, announced := st, repeats := left, limited := false,
    tags := y.tags.filter fun (c : Nat × Bytes) => c.1 != cnt }
  let c := u.cell p
  let v := u.setCell p { c with
    frame := some ⟨k, kind, cnt, st, s.tsc, tag⟩, due := c.due.filter fun (d : DueChange) => d.link != k }
  let w := (v.bump (0x34A0 + p) 1)
  let w := match s.commandLane p with
    | some l => w.radiate p l 0 (commandPoints (s.laneM p l) tag)
    | none => w
  let w := w.emit (.commandFrame p k cnt st tag)
  if kind = .change then w.bump (0x34A0 + p) 2 else w

/-- The command lane may start a frame. -/
def State.commandIdle (s : State) (p : Nat) : Bool :=
  match s.commandLane p with
  | some l => s.laneState p l == 2
  | none => false

/-- A change waits for the next second: counted once (R299). -/
def State.limitLink (s : State) (p k : Nat) : State :=
  if ((s.cell p).link k).limited then s else (s.updLink p k fun x => { x with limited := true }).bump (0x34A0 + p) 5

/-- A link has no frame of the last 3400.02 ms (R300). -/
def State.heartbeatDue (s : State) (p k : Nat) : Bool :=
  ((s.cell p).link k).sendStatus == 1 && decide (((s.cell p).link k).startAt + s.val 0x3400 2 * 1000000 ≤ s.tsc)

/-- Frames that ask for the lane, first the due changes in order of time and link, then repeats, those of the link that sent last
first, then heartbeats (R300, R301). -/
def State.commandWants (s : State) (p : Nat) : List (Nat × CommandKind) :=
  let c := s.cell p
  let reps := (c.links.filter fun e => e.2.repeats != 0 && e.2.sendStatus == 1)
  let last := reps.foldl (fun (b : Option (Nat × CommandLink)) e => match b with
    | none => some e
    | some a => if a.2.startAt < e.2.startAt then some e else some a) none
  (c.due.filter fun d => (c.link d.link).sendStatus == 1).map (fun d => (d.link, CommandKind.change))
    ++ ((last.toList ++ reps).map fun e => (e.1, CommandKind.repeated))
    ++ ((List.range 8).filter (s.heartbeatDue p)).map fun k => (k, CommandKind.heartbeat)

/-- Start the first frame that can start, if the lane is idle; those that must wait for the next second are counted. -/
def State.commandNext (s : State) (p : Nat) : State :=
  if s.commandIdle p then
    let rec go (s : State) : List (Nat × CommandKind) → State
      | [] => s
      | (k, kind) :: l =>
        match s.nextCnt p k with
        | some cnt => if cnt ≤ 0xFFFFFFFF then s.startCommand p k cnt kind else go s l
        | none => go (s.limitLink p k) l
    go s (s.commandWants p)
  else s

/-- Insert a due change in order of time, on equal times of the lower link (R301). -/
def insertDue (d : DueChange) : List DueChange → List DueChange
  | [] => [d]
  | e :: l => if d.time < e.time ∨ (d.time = e.time ∧ d.link < e.link) then d :: e :: l else e :: insertDue d l

/-- A change frame falls due on a link: a heartbeat or repeat in progress is cut, another link's change is waited for and the wait
counted (R301). -/
def State.changeDue (s : State) (p k : Nat) : State :=
  let c := s.cell p
  let u := s.setCell p { c with due := insertDue ⟨s.tsc, k⟩ c.due }
  match c.frame with
  | none => u
  | some f => if f.kind = .change then (if f.link = k then u else u.bump (0x34A0 + p) 4) else u.cutCommand p

/-- A link follows the driven states: a state that returns before its frame starts is not sent (R300). -/
def State.settleStates (s : State) (p k : Nat) : State :=
  let c := s.cell p
  let x := c.link k
  if x.sendStatus ≠ 1 ∨ x.known = false then s
  else
    let waiting := c.due.any fun d => d.link == k
    if s.linkStates p k = x.announced then
      if waiting then s.setCell p { c with due := c.due.filter fun (d : DueChange) => d.link != k } else s
    else if waiting then s else s.changeDue p k

/-! ## Settling (R303, R307, R314) -/

/-- Bring a link's two statuses up to date; entries to receiving statuses 2-5 count and are logged, but for those at release. -/
def State.settleLink (s : State) (p : Nat) (quiet : Bool) (k : Nat) : State :=
  let x := (s.cell p).link k
  let ss := s.sendStatusOf p k
  let rs := s.recvStatusOf p k
  let warn := s.linkWarn p k
  let fresh := ss == 1 && !x.known
  let u := s.updLink p k fun y => { y with
    sendStatus := ss, recvStatus := rs, warned := warn,
    known := if ss = 0 then false else y.known || ss == 1,
    announced := if fresh then s.linkStates p k else y.announced,
    repeats := if ss = 1 then y.repeats else 0,
    spent := y.spent || ss == 5,
    limited := y.limited && ss == 1,
    tags := if ss = 4 then [] else y.tags,
    seconds := if s.keyGone (recSlot (s.linkRec p k)) then [] else y.seconds,
    up := y.up && (rs == 1 || rs == 2) }
  let u := if ss = 1 then u
    else u.setCell p { u.cell p with due := (u.cell p).due.filter fun (d : DueChange) => d.link != k }
  let u := if rs ≠ x.recvStatus ∧ 2 ≤ rs ∧ quiet = false then
      (u.bump (0x34A0 + p) 0x0B).event (s.srcCommand p) 0x0601 sevAlarm (toBE 1 k ++ toBE 1 rs)
    else u
  if warn ∧ x.warned = false then
    u.event (s.srcCommand p) 0x0601 sevAlarm (toBE 1 k ++ toBE 1 (0x80 + if ss = 0 then rs else ss))
  else u

/-- An index has a value listed. -/
def State.listed (s : State) (idx : Nat) : Bool := s.dict.any fun e => idxOf e.1 == idx

/-- Ports with commands: a command map is listed, or the cell holds something. -/
def State.commandPorts (s : State) : List Nat :=
  (List.range (portCount s.variant)).filter fun p => s.listed (0x3410 + p) || (Table.find s.cells p).isSome

/-- States the matrix drives on a port's sending commands (R314): 0 while it does not evaluate. -/
def State.drivenOf (s : State) (p : Nat) : Nat :=
  if s.tripUp = false then 0
  else ((List.range 8).filter fun c =>
    s.commandMap p c / 16384 == 2 && (s.inputValues (s.val (0x3510 + p) (c + 1))).any id).foldl (fun a c => a + 2 ^ c) 0

/-- Bring the statuses of every link up to date. -/
def State.settleLinks (s : State) (quiet : Bool) : State :=
  s.each s.commandPorts fun u p => u.each (List.range 8) fun v k => v.settleLink p quiet k

/-- Re-evaluate every destination of the matrix, and let due frames start (R314, R300). -/
def State.settleMatrix (s : State) : State :=
  let u := s.each (List.range 8) State.settleOutput
  u.each u.commandPorts fun v p =>
    let d := v.drivenOf p
    let w := if (v.cell p).driven = d then v else v.setCell p { v.cell p with driven := d }
    (w.each (List.range 8) fun z k => z.settleStates p k).commandNext p

/-- Statuses and matrix after anything that they depend on has changed. -/
def State.settleCommand (s : State) : State := (s.settleLinks false).settleMatrix

/-- A command at a port: nothing happens at a port the variant does not have (R1). -/
def State.runPort (s : State) (t p : Nat) (f : State → State) : Res := s.run t fun u => if u.hasPort p then f u else u

/-- A command that can take a port to RUNNING or from it: the command channel follows (R121, R303). -/
def State.followPort (s : State) (p : Nat) (f : State → State) : State :=
  let v := f s
  if v.running p = s.running p then v else v.settleCommand

/-- A commit rekeys a link (R308): the old key lives on for the changeover, counters start from the new epoch. -/
def State.rekeyLink (s : State) (p k : Nat) (old : Bytes) : State :=
  let new := s.linkRec p k
  if recUsed old ∧ recUsed new ∧ recSlot old ≠ recSlot new ∧ recEpoch old ≠ recEpoch new then
    s.updLink p k fun x => { x with
      old := some (recSlot old, recEpoch old, x.lastAccepted, s.beat + s.val 0x1400 6), lastAccepted := 0, everSent := false,
      spent := false, repeats := 0, tags := [], seconds := [] }
  else s

/-! ## Receiving (R304-R306) -/

/-- Subsets of a bitmap of 8 bits. -/
def subsets (m : Nat) : List Nat := (List.range 256).filter fun v => Nat.land v m == v

/-- A hypothesis that matches: link, whether under the old key, states, counter, correlation sum. -/
structure Match where
  link : Nat
  old : Bool
  states : Nat
  cnt : Nat
  sum : Int
deriving DecidableEq, Repr

/-- Sums of the chips at each position of the tag. -/
def chipSums (chips : List Int) : List Int :=
  (List.range 32).map fun b => ((chips.zip (List.range chips.length)).filter fun e => e.2 % 32 == b).foldl (fun (a : Int) e => a + e.1) 0

/-- Correlation of the chips with a tag: Σ y·(1 − 2x). -/
def tagSum (sums : List Int) (tag : Nat) : Int :=
  ((sums.zip (List.range 32)).foldl (fun (a : Int) e => if bit tag (31 - e.2) then a - e.1 else a + e.1) 0)

/-- ρ reaches threshold / 128 (R305), in whole numbers. -/
def reaches (sum : Int) (thr count energy : Nat) : Bool :=
  decide (0 < sum) && decide (thr * thr * (count * energy) ≤ (128 * sum.natAbs) * (128 * sum.natAbs))

/-- Hypotheses of a link under one key (R304): every combination of its receiving commands, S from S_rx − 1 to S_rx + 1; seconds in `held` stand
under the key they were computed under (R309). -/
def State.hypotheses (s : State) (p k slot epoch : Nat) (held : List (Nat × Bytes)) : List (Nat × Nat × Nat) :=
  let sec := s.linkSeconds epoch
  if s.timeSet = false ∨ s.keyGone slot then []
  else
    let r := s.linkRec p k
    ([sec - 1, sec, sec + 1].filter fun (x : Int) => decide (0 ≤ x) && decide (x ≤ 0x0FFFFFFF)).flatMap fun x =>
      let key := s.tableKey slot (held.find? fun e => e.1 == x.toNat)
      (List.range 16).flatMap fun n => (subsets (s.commandMask p k 1)).map fun st =>
        (x.toNat * 16 + n, st, commandTag key r false (x.toNat * 16 + n) st)

/-- Matches of a link's hypotheses. -/
def State.linkMatches (s : State) (p : Nat) (sums : List Int) (count energy k : Nat) : List Match :=
  if s.commandMask p k 1 = 0 ∨ recUsed (s.linkRec p k) = false then []
  else
    let r := s.linkRec p k
    let thr := s.val 0x3400 4
    let now := (s.hypotheses p k (recSlot r) (recEpoch r) ((s.cell p).link k).seconds).map fun h => (⟨k, false, h.2.1, h.1, tagSum sums h.2.2⟩ : Match)
    let old := match ((s.cell p).link k).old with
      | some (slot, epoch, _, b) =>
        if s.beat < b then (s.hypotheses p k slot epoch []).map fun h => (⟨k, true, h.2.1, h.1, tagSum sums h.2.2⟩ : Match) else []
      | none => []
    (now ++ old).filter fun m => reaches m.sum thr count energy

/-- The best match: the greatest correlation, the first on equal ones (log 26). -/
def bestMatch : List Match → Option Match
  | [] => none
  | m :: l => some (l.foldl (fun b x => if b.sum < x.sum then x else b) m)

/-- Accept a matched frame with a higher counter (R306, R308), or refuse it as a replay. -/
def State.acceptCommand (s : State) (p : Nat) (m : Match) : State :=
  let x := (s.cell p).link m.link
  let last := if m.old then (match x.old with
    | some (_, _, a, _) => a
    | none => 0) else x.lastAccepted
  if m.cnt ≤ last then s.bump (0x34A0 + p) 9
  else
    let u := s.updLink p m.link fun y => { y with
      lastAccepted := if m.old then y.lastAccepted else m.cnt,
      old := if m.old then y.old.map (fun (o : Nat × Nat × Nat × Nat) => (o.1, o.2.1, m.cnt, o.2.2.2)) else none,
      accepted := m.states, superviseAt := s.tsc, up := true }
    let v := u.bump (0x34A0 + p) 6
    (if m.old then v.bump (0x34A0 + p) 0x0C else v).settleCommand

/-- Decide a command body (R305): too few chips, no match, more than one link or state, or the best hypothesis. -/
def State.decideBody (s : State) (p n : Nat) (chips : List Int) : State × Bool :=
  let count := (chips.filter fun y => y != 0).length
  if 2 * count < n then (s.bump (0x34A0 + p) 0x0A, false)
  else
    let energy := chips.foldl (fun a y => a + y.natAbs * y.natAbs) 0
    let l := (List.range 8).flatMap fun k => s.linkMatches p (chipSums chips) count energy k
    match bestMatch l with
    | none => (s.bump (0x34A0 + p) 7, false)
    | some m =>
      if l.any fun x => x.link != m.link || x.states != m.states then (s.bump (0x34A0 + p) 8, false)
      else (s.acceptCommand p m, true)

end Sys2Proof.Machine
end

