-- ==== Sys2Proof/Machine/HostRings.lean ====
section
/-! DEFINITION. Host rings by command (R259-R262, R265). -/

namespace Sys2Proof.Machine

/-- Descriptors between the old and a new producer index. -/
def HostRing.newEntries (g : HostRing) (prod : Nat) : Nat := (prod % g.size + g.size - g.prod % g.size) % g.size

/-- The producer index of TXQ is written (R258, R259, R262): the descriptors behind it are fetched and checked. -/
def State.txDoorbell (s : State) (f prod : Nat) (descs : List TxDesc) : State :=
  let g := (s.page f).ring 0
  let new := descs.take (g.newEntries prod)
  let u := s.setPage f { (s.page f).setRing 0 { g with prod := prod % g.size } with txPosted := (s.page f).txPosted ++ new }
  u.resumeTx f

/-- The producer index of RXF is written (R258, R261, R265): free receive buffers are posted, and waiting packets delivered. -/
def State.rxDoorbell (s : State) (f prod : Nat) (bufs : List RxBuffer) : State :=
  let g := (s.page f).ring 2
  let new := (bufs.take (g.newEntries prod)).filter (fun b => decide (256 ≤ b.size))
  let u := s.setPage f { (s.page f).setRing 2 { g with prod := prod % g.size } with rxBufs := (s.page f).rxBufs ++ new }
  u.drainRx f (u.page f).rxWait

/-- The consumer index of a ring that the module writes (R258, R259): entries are freed, STALLED clears and work resumes. -/
def State.consumerWrite (s : State) (f ring idx : Nat) : State :=
  let g := (s.page f).ring ring
  let u := s.setPage f ((s.page f).setRing ring { g with cons := idx % g.size })
  if ring = 1 then u.resumeTx f
  else if ring = 3 then u.drainRx f (u.page f).rxWait
  else u.setPage f ((u.page f).setRing (ring - 1) { (u.page f).ring (ring - 1) with stalled := false })

/-- TXQ_DOORBELL (R259, R262): the producer index advances, descriptors are fetched and checked. -/
def execTxqDoorbell (t f prod : Nat) (descs : List TxDesc) (s : State) : Res :=
  s.run t fun s => if s.open f then s.txDoorbell f prod descs else s

/-- RXF_DOORBELL (R261, R265). -/
def execRxfDoorbell (t f prod : Nat) (bufs : List RxBuffer) (s : State) : Res :=
  s.run t fun s => if s.open f then s.rxDoorbell f prod bufs else s

/-- RX_HOLD_TIMEOUT (R261): a packet that finds no free buffer within 3106.03 beats is discarded and counted. -/
def execRxHoldTimeout (t f : Nat) (s : State) : Res :=
  s.run t fun s =>
    match (s.page f).rxWait with
    | x :: xs =>
      if x.beat + s.val 0x3106 3 ≤ s.beat then
        let u := (s.setPage f { s.page f with rxWait := xs }).bump 0x3187 (x.rx.cls + 1)
        u.drainRx f xs
      else s
    | [] => s

/-- HOST_CONSUMER_INDEX_WRITE (R259): the host frees entries of a module-written ring; STALLED clears and work resumes. -/
def execHostConsumerIndexWrite (t f ring idx : Nat) (s : State) : Res :=
  s.run t fun s =>
    if s.open f ∧ (ring = 1 ∨ ring = 3 ∨ ring = 5 ∨ ring = 7) then s.consumerWrite f ring idx else s

end Sys2Proof.Machine
end

