-- ==== Sys2Proof/Machine/Modes.lean ====
section
/-! DEFINITION. The modes of operation of R333: ECB, CBC with padding method 2, CTR (SP 800-38A), CCM and CCM* (38C), GCM (38D), KW and
KWP (38F). -/

namespace Sys2Proof.Machine.Aes

/-- Encrypt whole blocks one by one. -/
def ecbEncrypt (key bs : Bytes) : Bytes :=
  let ks := roundKeys key
  (chunk bs).flatMap fun b => toBytes (encryptWith ks (ofBE b))

/-- Decrypt whole blocks one by one. -/
def ecbDecrypt (key bs : Bytes) : Bytes := (chunk bs).flatMap fun b => toBytes (decrypt key (ofBE b))

/-- Cipher block chaining over whole blocks. -/
def cbcEncryptBlocks (ks : List (List Nat)) : Nat → List Bytes → Bytes
  | _, [] => []
  | iv, b :: bs => let c := encryptWith ks (Nat.xor iv (ofBE b)); toBytes c ++ cbcEncryptBlocks ks c bs

/-- CBC encryption of whole blocks. -/
def cbcEncrypt (key : Bytes) (iv : Nat) (bs : Bytes) : Bytes := cbcEncryptBlocks (roundKeys key) iv (chunk bs)

/-- CBC decryption of whole blocks. -/
def cbcDecrypt (key : Bytes) : Nat → List Bytes → Bytes
  | _, [] => []
  | iv, b :: bs => toBytes (Nat.xor iv (decrypt key (ofBE b))) ++ cbcDecrypt key (ofBE b) bs

/-- Padding method 2 of ISO/IEC 9797-1. -/
def pad2 (bs : Bytes) : Bytes := padTo 16 (bs ++ [0x80])

/-- Remove padding method 2; none where it is malformed. -/
def unpad2 (bs : Bytes) : Option Bytes :=
  match bs.reverse.dropWhile (· == 0) with
  | b :: rest => if b = 0x80 ∧ bs.length - rest.length ≤ 16 then some rest.reverse else none
  | [] => none

/-- Exclusive or of bytes with a key stream. -/
def xorBytes (a b : Bytes) : Bytes := (a.zip b).map fun e => e.1 ^^^ e.2

/-- Key stream of `n` blocks from a counter block, with its increment. -/
def keyStream (ks : List (List Nat)) (inc : Nat → Nat) : Nat → Nat → Bytes
  | 0, _ => []
  | n + 1, c => toBytes (encryptWith ks c) ++ keyStream ks inc n (inc c)

/-- Counter of all 128 bits. -/
def inc128 (c : Nat) : Nat := (c + 1) % 2 ^ 128

/-- Counter of the low 32 bits (SP 800-38D). -/
def inc32 (c : Nat) : Nat := c / 2 ^ 32 * 2 ^ 32 + (c + 1) % 2 ^ 32

/-- CTR mode. -/
def ctr (key : Bytes) (c : Nat) (bs : Bytes) : Bytes := xorBytes bs (keyStream (roundKeys key) inc128 ((bs.length + 15) / 16) c)

/-- Multiplication in the field of GCM. -/
def gmul (x y : Nat) : Nat :=
  ((List.range 128).foldl (fun (a : Nat × Nat) i =>
    (if x.testBit (127 - i) then Nat.xor a.1 a.2 else a.1,
     if a.2 % 2 = 1 then Nat.xor (a.2 / 2) (0xE1 * 2 ^ 120) else a.2 / 2)) (0, y)).1

/-- GHASH over blocks. -/
def ghash (h : Nat) (bs : Bytes) : Nat := (chunk bs).foldl (fun y b => gmul (Nat.xor y (ofBE (slice b 0 16))) h) 0

/-- First counter block of GCM. -/
def gcmJ0 (h : Nat) (iv : Bytes) : Nat :=
  if iv.length = 12 then ofBE iv * 2 ^ 32 + 1 else ghash h (padTo 16 iv ++ toBE 8 0 ++ toBE 8 (8 * iv.length))

/-- GCM's encryption, which is its decryption. -/
def gcmCrypt (key iv bs : Bytes) : Bytes :=
  let ks := roundKeys key
  xorBytes bs (keyStream ks inc32 ((bs.length + 15) / 16) (inc32 (gcmJ0 (encryptWith ks 0) iv)))

/-- GCM's tag over additional data and ciphertext, 16 bytes. -/
def gcmTag (key iv aad c : Bytes) : Bytes :=
  let ks := roundKeys key
  let h := encryptWith ks 0
  let s := ghash h (padTo 16 aad ++ padTo 16 c ++ toBE 8 (8 * aad.length) ++ toBE 8 (8 * c.length))
  toBytes (Nat.xor s (encryptWith ks (gcmJ0 h iv)))

/-- Additional data as CCM encodes it. -/
def ccmAad (a : Bytes) : Bytes :=
  if a = [] then [] else padTo 16 ((if a.length < 65280 then toBE 2 a.length else [0xFF, 0xFE] ++ toBE 4 a.length) ++ a)

/-- CCM's counter block number `i`. -/
def ccmCtr (nonce : Bytes) (i : Nat) : Nat :=
  let l := 15 - nonce.length
  ofBE (toBE 1 (l - 1) ++ nonce ++ toBE l i)

/-- CCM's encryption, which is its decryption. -/
def ccmCrypt (key nonce bs : Bytes) : Bytes :=
  xorBytes bs (keyStream (roundKeys key) inc128 ((bs.length + 15) / 16) (ccmCtr nonce 1))

/-- CCM's tag of `t` bytes over additional data and plaintext. -/
def ccmTag (key nonce aad p : Bytes) (t : Nat) : Bytes :=
  let ks := roundKeys key
  let l := 15 - nonce.length
  let flags := (if aad = [] then 0 else 64) + 8 * ((t - 2) / 2) + (l - 1)
  let b := toBE 1 flags ++ nonce ++ toBE l p.length ++ ccmAad aad ++ padTo 16 p
  let mac := (chunk b).foldl (fun c x => encryptWith ks (Nat.xor c (ofBE x))) 0
  (toBytes (Nat.xor mac (encryptWith ks (ccmCtr nonce 0)))).take t

/-! ## KW and KWP (SP 800-38F) -/

/-- Split bytes into semiblocks of 8. -/
def semis (bs : Bytes) : List Nat := (List.range (bs.length / 8)).map fun i => beAt bs (8 * i) 8

/-- One pass of W over the semiblocks from step `t`. -/
def wrapPass (ks : List (List Nat)) : Nat → Nat → List Nat → Nat × List Nat
  | a, _, [] => (a, [])
  | a, t, r :: rs =>
    let b := encryptWith ks (a * 2 ^ 64 + r)
    let rest := wrapPass ks (Nat.xor (b / 2 ^ 64) t) (t + 1) rs
    (rest.1, b % 2 ^ 64 :: rest.2)

/-- The six passes of W. -/
def wrapW (ks : List (List Nat)) (a : Nat) (r : List Nat) : Nat × List Nat :=
  (List.range 6).foldl (fun (x : Nat × List Nat) j => wrapPass ks x.1 (x.2.length * j + 1) x.2) (a, r)

/-- One pass of W's inverse over the reversed semiblocks, from step `t` down. -/
def unwrapPass (key : Bytes) : Nat → Nat → List Nat → Nat × List Nat
  | a, _, [] => (a, [])
  | a, t, r :: rs =>
    let b := decrypt key ((Nat.xor a t) * 2 ^ 64 + r)
    let rest := unwrapPass key (b / 2 ^ 64) (t - 1) rs
    (rest.1, b % 2 ^ 64 :: rest.2)

/-- The six passes of W's inverse. -/
def unwrapW (key : Bytes) (a : Nat) (r : List Nat) : Nat × List Nat :=
  let x := (List.range 6).foldl (fun (x : Nat × List Nat) j => unwrapPass key x.1 (x.2.length * (6 - j)) x.2) (a, r.reverse)
  (x.1, x.2.reverse)

/-- Semiblocks as bytes. -/
def ofSemis (l : List Nat) : Bytes := l.flatMap (toBE 8)

/-- KW wrapping. -/
def kwWrap (key p : Bytes) : Bytes :=
  let x := wrapW (roundKeys key) 0xA6A6A6A6A6A6A6A6 (semis p)
  ofSemis (x.1 :: x.2)

/-- KW unwrapping; none where the integrity check fails. -/
def kwUnwrap (key c : Bytes) : Option Bytes :=
  match semis c with
  | a :: r =>
    let x := unwrapW key a r
    if x.1 = 0xA6A6A6A6A6A6A6A6 then some (ofSemis x.2) else none
  | [] => none

/-- KWP wrapping. -/
def kwpWrap (key p : Bytes) : Bytes :=
  let a := 0xA65959A6 * 2 ^ 32 + p.length
  let q := padTo 8 p
  if q.length = 8 then toBytes (encrypt key (a * 2 ^ 64 + ofBE q))
  else let x := wrapW (roundKeys key) a (semis q); ofSemis (x.1 :: x.2)

/-- KWP unwrapping; none where the integrity check fails. -/
def kwpUnwrap (key c : Bytes) : Option Bytes :=
  let x := if c.length = 16 then (let b := decrypt key (ofBE c); (b / 2 ^ 64, [b % 2 ^ 64])) else
    match semis c with
    | a :: r => unwrapW key a r
    | [] => (0, [])
  let n := x.1 % 2 ^ 32
  let q := ofSemis x.2
  if x.1 / 2 ^ 32 = 0xA65959A6 ∧ n ≤ q.length ∧ q.length < n + 8 ∧ 0 < n ∧ allZero (q.drop n) then some (q.take n) else none

end Sys2Proof.Machine.Aes
end

