-- ==== Sys2Proof/Machine/KeyOps.lean ====
section
/-! DEFINITION. Key slots, contexts and the ends of cipher jobs (R320-R336, R342-R344). -/

namespace Sys2Proof.Machine

/-- Source number of the key store (R330). -/
def srcKeys : Nat := 0x3040

/-! ## Statuses of R343 -/

/-- Tag or integrity check failed. -/
def ckAuthFail : Nat := 0x0200
/-- Tag failed on a RELEASE-FLAG page. -/
def ckUntrusted : Nat := 0x0201
/-- Guard mismatch. -/
def ckFault : Nat := 0x0202
/-- Slot erased while in use. -/
def ckWithdrawn : Nat := 0x0203
/-- Invocation limit reached. -/
def ckNonce : Nat := 0x0204
/-- Slot EMPTY. -/
def ckEmpty : Nat := 0x0205
/-- Usage does not allow the operation. -/
def ckMismatch : Nat := 0x0206
/-- Length outside R333. -/
def ckLength : Nat := 0x0207
/-- Malformed padding. -/
def ckPad : Nat := 0x0208
/-- A context rule is broken. -/
def ckContext : Nat := 0x0209
/-- The slot's generation has changed. -/
def ckChanged : Nat := 0x020A
/-- Host memory did not answer. -/
def ckDma : Nat := 0x020B

/-- Statuses with which the output area is zeroed (R337, R343). -/
def zeroes (status : Nat) : Bool :=
  [ckAuthFail, ckFault, ckWithdrawn, ckPad, ckContext, ckChanged, stOverrun, stBlockReset, stCellWithdrawn].contains status

/-! ## Operations (R327, R331, R333) -/

/-- Usage bit of an operation (R327). -/
def opUsage (op : Nat) : Nat :=
  if op ≤ 2 then 0 else if op ≤ 4 then 1 else if op = 5 then 2 else if op ≤ 7 then 3 else if op ≤ 9 then 4 else if op ≤ 11 then 5 else 6

/-- Operations of a parallel mode (R320). -/
def opParallel (op : Nat) : Bool := [1, 2, 4, 5, 0x0A, 0x0B].contains op

/-- Operations that count an invocation (R331). -/
def opCounts (op : Nat) : Bool := [1, 3, 5, 6, 8, 0x0A, 0x0C, 0x0E].contains op

/-- Operations whose IV the engine can form (R332, R333). -/
def opHwiv (op : Nat) : Bool := [5, 8, 0x0A].contains op

/-- Operations of single-part jobs only (R334). -/
def opSingle (op : Nat) : Bool := op == 8 || op == 9 || decide (0x0C ≤ op)

/-- Size of a segment (R337). -/
def segBytes (op : Nat) : Nat := if opParallel op then 65536 else 16384

/-- Segments of a part. -/
def segCount (op len : Nat) : Nat := max 1 ((len + segBytes op - 1) / segBytes op)

/-- Output area of a part (R333, R341). -/
def outArea (d : CipherDesc) : Nat :=
  if d.op = 3 then (if d.last then d.len / 16 * 16 + 16 else d.len)
  else if d.op = 6 then (if d.last then d.tagLen else 0)
  else if d.op = 7 then 0
  else if d.op = 8 ∨ (d.op = 0x0A ∧ d.last) then d.len + d.tagLen
  else if d.op = 0x0C then d.len + 8
  else if d.op = 0x0D ∨ d.op = 0x0F then d.len - 8
  else if d.op = 0x0E then (d.len + 7) / 8 * 8 + 8 else d.len

/-- Lengths of a descriptor against R333. -/
def lengthsOk (d : CipherDesc) : Bool :=
  let single := d.first && d.last
  let lenOk :=
    if d.op = 1 ∨ d.op = 2 then d.len % 16 == 0
    else if d.op = 4 then d.len % 16 == 0 && decide (16 ≤ d.len)
    else if d.op = 8 ∨ d.op = 9 then decide (d.len < 256 ^ (15 - (if d.hwiv then 12 else d.ivLen)))
    else if d.op = 0x0C then d.len % 8 == 0 && decide (16 ≤ d.len)
    else if d.op = 0x0D then d.len % 8 == 0 && decide (24 ≤ d.len)
    else if d.op = 0x0E then decide (1 ≤ d.len)
    else if d.op = 0x0F then d.len % 8 == 0 && decide (16 ≤ d.len) else true
  let ivOk :=
    if d.first = false then true
    else if d.hwiv then opHwiv d.op
    else if d.op = 3 ∨ d.op = 4 ∨ d.op = 5 then d.ivLen == 16
    else if d.op = 8 ∨ d.op = 9 then decide (7 ≤ d.ivLen) && decide (d.ivLen ≤ 13)
    else if d.op = 0x0A ∨ d.op = 0x0B then decide (1 ≤ d.ivLen) && decide (d.ivLen ≤ 16) else d.ivLen == 0
  let tagOk :=
    if d.last = false then true
    else if d.op = 6 ∨ d.op = 7 then decide (4 ≤ d.tagLen) && decide (d.tagLen ≤ 16)
    else if d.op = 8 ∨ d.op = 9 then [0, 4, 6, 8, 10, 12, 14, 16].contains d.tagLen
    else if d.op = 0x0A ∨ d.op = 0x0B then [4, 8, 12, 13, 14, 15, 16].contains d.tagLen else d.tagLen == 0
  let aadOk := d.aadLen == 0 || decide (d.aadLen ≤ 65536) && (single || d.first) && decide (8 ≤ d.op) && decide (d.op ≤ 0x0B)
  decide (d.len ≤ 16777216) && lenOk && ivOk && tagOk && aadOk

/-! ## Slots -/

/-- Owners and usage of a slot in force. -/
def State.owns (s : State) (f slot : Nat) : Bool := bit (s.val (0x4100 + slot) 1) f

/-- Usage bit of a slot in force. -/
def State.usageOk (s : State) (slot b : Nat) : Bool := bit (s.val (0x4100 + slot) 2) b

/-- Slots that internal CMAC users name (R327): 1603.02 and the link records in use. -/
def State.cmacSlots (s : State) : List Nat :=
  s.val 0x1603 2 :: ((List.range (portCount s.variant)).filter fun p => s.listed (0x3440 + p)).flatMap fun p =>
    ((List.range 8).filter fun k => recUsed (s.linkRec p k)).map fun k => recSlot (s.linkRec p k)

/-- Key type from a length: 1 AES-128, 2 AES-192, 3 AES-256. -/
def keyType (n : Nat) : Nat := if n = 16 then 1 else if n = 24 then 2 else if n = 32 then 3 else 0

/-- Loading a slot named in 1603.02 starts the ring's sequence numbers anew (R48). -/
def State.ringKeyLoaded (s : State) (n : Nat) : State :=
  if s.val 0x1603 2 = n then { s with mgr := { s.mgr with lastSeq := [], ownSeq := [] } } else s

/-- A key enters a slot (R328): expanded into the shadow and swapped with the key; into a slot that holds one it is a rewrite. -/
def State.loadSlot (s : State) (n : Nat) (key : Bytes) : State :=
  let x := s.slot n
  let u := s.setSlot n { x with
    state := .ready, type := keyType key.length, key := key, shadow := x.key, counter := 0, loaded := s.tsc,
    generation := if x.state = .empty then x.generation else (x.generation + 1) % 2 ^ 32 }
  ((u.ringKeyLoaded n).bump 0x4010 9).settleCommand

/-! ## Pages and contexts (R334) -/

/-- A cipher context of a page. -/
def Page.ctx (x : Page) (n : Nat) : CipherCtx := Table.get {} x.ctxs n

/-- Write a context of a page. -/
def State.setCtx (s : State) (f n : Nat) (c : CipherCtx) : State :=
  s.setPage f { s.page f with ctxs := Table.put {} (s.page f).ctxs n c }

/-- Close a context. -/
def State.closeCtx (s : State) (f n : Nat) : State := if n < 4 then s.setCtx f n {} else s

/-- Close every context open on a slot (R329). -/
def State.closeSlotCtxs (s : State) (slot : Nat) : State :=
  s.each (s.pages.map Prod.fst) fun u f =>
    u.each ((List.range 4).filter fun n => ((u.page f).ctx n).opened && ((u.page f).ctx n).slot == slot) fun v n => v.closeCtx f n

/-! ## Jobs (R342) -/

/-- A job of the engine. -/
def State.job (s : State) (n : Nat) : Option CipherJob := Table.find s.cipher.jobs n

/-- Write a job. -/
def State.setJob (s : State) (n : Nat) (j : CipherJob) : State :=
  { s with cipher := { s.cipher with jobs := Table.insert s.cipher.jobs n j } }

/-- Advance the consumer index of a module-read ring. -/
def State.consumeRing (s : State) (f k : Nat) : State :=
  let g := (s.page f).ring k
  if f < 64 then s.setPage f ((s.page f).setRing k { g with cons := (g.cons + 1) % g.size }) else s

/-- Post a completion (R342): into DONEQ, or to the internal user, written as function 64. -/
def State.postDone (s : State) (j : CipherJob) (status outLen : Nat) (unverified : Bool) : State :=
  let d := toLE 4 j.desc.jobTag ++ toLE 2 status ++ toLE 1 (ofBool unverified + if j.units > 1 then 2 else 0) ++ toLE 1 j.units
    ++ toLE 4 outLen ++ toLE 4 0 ++ toLE 8 (j.invoc.getD 0xFFFFFFFFFFFFFFFF) ++ toLE 8 s.tsc
  let u := if j.page < 64 then s.postRing j.page 5 d else s.emit (.hostWrite j.page 5 0 d)
  u.bump 0x4010 (if status = 0 then 1 else 2)

/-- Data written at DST. -/
def State.writeOut (s : State) (j : CipherJob) (data : Bytes) : State :=
  if data = [] then s else s.emit (.hostWrite j.page 255 j.desc.dst data)

/-- A job ends without its result (R337, R343): zeros where the status asks for them, then the completion; a part that fails once
started closes its context. -/
def State.failJob (s : State) (n : Nat) (j : CipherJob) (status : Nat) : State :=
  let u := { s with cipher := { s.cipher with jobs := Table.erase s.cipher.jobs n } }
  let u := if j.started then u.closeCtx j.page j.desc.ctx else u.consumeRing j.page 4
  let u := if zeroes status then u.writeOut j (List.replicate (outArea j.desc) 0) else u
  u.postDone j status 0 false

/-- Started jobs with a property, in order of their fetch. -/
def State.jobsWhere (s : State) (p : CipherJob → Bool) : List (Nat × CipherJob) := s.cipher.jobs.filter fun e => e.2.started && p e.2

/-- Stop every job in flight under a slot (R329, R330). -/
def State.withdrawJobs (s : State) (slot : Nat) : State :=
  (s.each (s.jobsWhere fun j => j.desc.slot == slot) fun u e => (u.failJob e.1 e.2 ckWithdrawn).bump 0x4010 7).closeSlotCtxs slot

/-- ERASE of a slot (R329). -/
def State.eraseSlot (s : State) (n : Nat) : State :=
  let u := (s.setSlot n { generation := (s.slot n).generation, loaded := s.tsc }).bump 0x4010 0x0A
  (u.withdrawJobs n).settleCommand

/-! ## Key commands (R326, R328, R329, R340) -/

/-- End a key command: RESULT and DONE set, KEY_DATA cleared (R325). -/
def State.keyDone (s : State) (f result : Nat) : State :=
  s.setPage f { s.page f with keyBusy := false, keyDone := true, keyResult := result, keyData := [] }

/-- Owners and role, then slot 255 (R326, steps 2 and 3). -/
def State.keyTarget (s : State) (f slot : Nat) : Option Nat :=
  if s.owns f slot = false ∨ s.roleOf f < 2 then some acNoAccess else if slot = 255 then some 0x0005 else none

/-- Step 5 for the length of the key: internal CMAC users hold AES-128 alone (R327). -/
def State.keyFits (s : State) (slot len : Nat) : Bool := len == 16 || !(s.cmacSlots.contains slot)

/-- The key that UNWRAP yields, or the status that refuses it (R326, R327, R335, R340). -/
def State.unwrapKey (s : State) (slot kslot wrap klen : Nat) (data : Bytes) : Except Nat Bytes :=
  let c := data.take klen
  if s.keyGone kslot then .error ckEmpty
  else if s.usageOk kslot 7 = false ∨ (wrap = 0 ∧ (klen = 32 ∨ klen = 40) ∧ s.keyFits slot (klen - 8) = false) then .error ckMismatch
  else if klen < 24 ∨ 48 < klen ∨ klen % 8 ≠ 0 ∨ klen = 48 then .error ckLength
  else match (if wrap = 0 then Aes.kwUnwrap (s.slot kslot).key c else Aes.kwpUnwrap (s.slot kslot).key c) with
  | none => .error ckAuthFail
  | some k =>
    if keyType k.length = 0 then .error ckLength else if s.keyFits slot k.length = false then .error ckMismatch else .ok k

/-- Perform a key command (R326). -/
def State.performKey (s : State) (q : KeyCommand) : State :=
  let f := q.page
  let op := bits q.word 30 28
  let ty := bits q.word 27 26
  let wrap := bits q.word 25 24
  let slot := bits q.word 23 16
  let kslot := bits q.word 15 8
  if s.held 3 1 then s.keyDone f stBlockHeld
  else if (op ≠ 1 ∧ op ≠ 2 ∧ op ≠ 3) ∨ (op = 1 ∧ ty = 0) ∨ (op = 2 ∧ 2 ≤ wrap) then s.keyDone f acRange
  else match s.keyTarget f slot with
  | some st => s.keyDone f st
  | none =>
    if op = 3 then { s.eraseSlot slot with cipher := { (s.eraseSlot slot).cipher with erasing := some f } }
    else if op = 1 then
      let n := 8 * (ty + 1)
      if s.keyFits slot n then (s.loadSlot slot (q.data.take n)).keyDone f 0 else s.keyDone f ckMismatch
    else match s.unwrapKey slot kslot wrap (bits q.word 5 0) q.data with
    | .ok k => (s.loadSlot slot k).keyDone f 0
    | .error e => (if e = ckAuthFail then s.bump 0x4010 (if q.onFail then 4 else 3) else s).keyDone f e

/-- Serve waiting key commands one at a time; an ERASE holds those behind it back until it completes. -/
def State.serveKeys (s : State) : List KeyCommand → State
  | [] => { s with cipher := { s.cipher with waiting := [] } }
  | q :: l =>
    if s.cipher.erasing.isSome then { s with cipher := { s.cipher with waiting := q :: l } } else (s.performKey q).serveKeys l

/-- A word written to KEY_CMD (R340): GO while BUSY sets OVERLAP; else the command is accepted with the KEY_DATA of that moment. -/
def State.keyCommand (s : State) (f : Nat) (w : Nat) : State :=
  if bit w 31 = false then s
  else if (s.page f).keyBusy then s.setPage f { s.page f with keyOverlap := true }
  else
    let q : KeyCommand := ⟨f, w, Table.getBytes (s.page f).keyData 0 48, (s.page f).onFail⟩
    let u := s.setPage f { s.page f with keyBusy := true }
    u.serveKeys (u.cipher.waiting ++ [q])

/-- Is the command OP of a KEY_CMD word: an OP outside 1-3 is refused with OUT_OF_RANGE, which LOAD's row carries out. -/
def keyOpIs (w op : Nat) : Bool := bits w 30 28 == op || op == 1 && !([2, 3].contains (bits w 30 28))

end Sys2Proof.Machine
end

