-- ==== Sys2Proof/Machine/TamperOps.lean ====
section
/-! DEFINITION. Tamper responses and the ripcord (R446-R448). -/

namespace Sys2Proof.Machine

/-- Source number of the tamper sensors. -/
def srcTamper : Nat := 0x30C0

/-- The ripcord (R447): slots 0-254 erased and slot 255 blocked, a record in the backup domain, a full reset of cause 9. -/
def State.ripcord (s : State) (sensor : Nat) : State :=
  let u := s.event 0x5103 0x0804 sevFatal (toBE 1 sensor)
  let u := u.each (List.range 255) State.eraseSlot
  let u := { u with cipher := { u.cipher with blocked255 := true } }
  let u := { u with rst := { u.rst with backup := { u.rst.backup with ripcords := (u.tsc, sensor) :: u.rst.backup.ripcords } } }
  u.requestReset 9 2

/-- Latch, count and log a detection (R446). -/
def State.logTamper (s : State) (sensor : Nat) : State :=
  let u := s.setVal 0x6081 1 (withBit (s.val 0x6081 1) (sensor - 1) true)
  (u.bump 0x6082 sensor).event srcTamper 0x0803 (if s.val 0x6080 sensor = 0 then sevWarning else sevAlarm) (toBE 1 sensor)

/-- A detection and its response (R446, R447). -/
def State.tamper (s : State) (sensor : Nat) : State :=
  let u := s.logTamper sensor
  if s.val 0x6080 sensor = 2 then u.ripcord sensor else u

/-- TAMPER_DETECTED (R446, R448): while the main supply is absent, sensors 1 and 2 latch from VBAT for the next start. -/
def execTamperDetected (t sensor : Nat) (s : State) : Res :=
  if s.rst.powered then .next ((s.upTo t).tamper sensor)
  else
    let u := s.upTo t
    .next (if sensor = 1 ∨ sensor = 2 then
      { u.setVal 0x6081 1 (withBit (u.val 0x6081 1) (sensor - 1) true) with
        rst := { u.rst with backup := { u.rst.backup with dark := u.rst.backup.dark ++ [(sensor, u.rst.backup.timeCopy)] } } }
    else u)

end Sys2Proof.Machine
end

