-- ==== Sys2Proof/Machine/CipherOps.lean ====
section
/-! DEFINITION. The cipher engine's jobs: fetch, grant, start, segments, results (R320-R323, R331-R339, R341, R345). -/

namespace Sys2Proof.Machine

/-! ## Cores and units (R320, R323) -/

/-- Cores in service: not withdrawn, not under test, the ballast core in the place of its primary. -/
def State.cores (s : State) : List Nat :=
  let x := s.unit 20
  let inUse := hasBallast s.variant && x.state == 3
  (List.range 17).filter fun c =>
    !s.isWithdrawn 3 0 c && !s.cipher.testing.contains c && (if c = 16 then inUse else !(inUse && x.primary == srcOf 3 0 c))

/-- Pair cores in ascending order; an odd one is left alone. -/
def pairUp : List Nat → List (List Nat)
  | a :: b :: l => [a, b] :: pairUp l
  | [a] => [[a]]
  | [] => []

/-- Units of a guard mode: 0 SPATIAL pairs, 1 TEMPORAL single cores. -/
def State.units (s : State) (mode : Nat) : List (List Nat) := if mode = 0 then pairUp s.cores else s.cores.map fun c => [c]

/-- Throughput of an operation under a key type, in 0.01 GB/s (R320). -/
def opRate (op type : Nat) : Nat := if opParallel op then 400 else if type = 1 then 145 else if type = 2 then 123 else 107

/-- Time of a segment on a unit, ns: one core alone runs at half the throughput. -/
def segNs (cells : List Nat) (rate bytes : Nat) : Nat :=
  let n := (bytes * 100 + rate - 1) / rate
  if cells.length = 1 then 2 * n else n

/-! ## Fetch (R341, R345) -/

/-- The engine takes work: its block runs, or is held and answers so (R343). -/
def State.engineTakes (s : State) (r b : Nat) : Bool := (s.block r b).state == .running || s.held r b

/-- Encoding of a descriptor (R341); CTX 0xFF is for single-part jobs, which set FIRST and LAST. -/
def descOk (d : CipherDesc) : Bool :=
  d.reserved == 0 && decide (1 ≤ d.op) && decide (d.op ≤ 0x0F) && decide (d.cls < 4) && (decide (d.ctx < 4) || d.ctx == 0xFF)
    && ((d.ctx == 0xFF) == (d.first && d.last))

/-- Owners, slot and usage of a descriptor. -/
def State.slotRefusal (s : State) (f : Nat) (d : CipherDesc) : Option Nat :=
  if f < 64 ∧ s.owns f d.slot = false then some acNoAccess
  else if s.keyGone d.slot then some ckEmpty
  else if s.usageOk d.slot (opUsage d.op) = false then some ckMismatch else none

/-- First failing test of a descriptor at its fetch. -/
def State.cipherRefusal (s : State) (f : Nat) (d : CipherDesc) (onFail : Bool) : Option Nat :=
  if descOk d = false then some acRange
  else if s.held 3 0 ∨ s.held 3 1 then some stBlockHeld
  else if d.cls = 0 ∧ f < 64 ∧ s.roleOf f ≠ 3 then some acNoAccess
  else match s.slotRefusal f d with
  | some e => some e
  | none =>
    if lengthsOk d = false then some ckLength
    else if d.ctx ≠ 0xFF ∧ (opSingle d.op ∨ (d.op = 0x0B ∧ d.first ∧ onFail = false)) then some ckContext else none

/-- An earlier part of the job's context is still in the engine (R334). -/
def State.ctxWaits (s : State) (n : Nat) (f ctx : Nat) : Bool :=
  decide (ctx < 4) && s.cipher.jobs.any fun e => decide (e.1 < n) && e.2.page == f && e.2.desc.ctx == ctx

/-- A part is refused at its turn: an access or context refusal of a later part closes its context (R334, R345). -/
def State.refuseJob (s : State) (n : Nat) (j : CipherJob) (status : Nat) : State :=
  let u := if j.desc.first then s else if status = acNoAccess ∨ status = ckContext ∨ status = ckChanged then s.closeCtx j.page j.desc.ctx else s
  u.failJob n j status

/-- Take a fetched descriptor; `again` where engine firmware resubmits it (R321). -/
def State.takeCipher (s : State) (f : Nat) (d : CipherDesc) (again : Bool) : State :=
  let n := s.cipher.nextJob
  let onFail := (s.page f).onFail
  let r := s.cipherRefusal f d onFail
  let j : CipherJob :=
    { page := f, desc := d, onFail := onFail, fetched := s.tsc, started := false, key := [], generation := 0, invoc := none, iv := [],
      mode := 0, segments := segCount d.op d.len, granted := 0, finished := 0, units := 0,
      again := again, refused := r }
  let u := { s.setJob n j with cipher := { (s.setJob n j).cipher with nextJob := n + 1 } }
  let v := if r = some acRange ∧ f < 64 then u.setPage f ((u.page f).setRing 4 { (u.page f).ring 4 with badDesc := true }) else u
  match r with
  | some e => if v.ctxWaits n f d.ctx then v else v.refuseJob n j e
  | none => v

/-- Jobs of a page in the engine, and those of them not yet started. -/
def State.pageJobs (s : State) (f : Nat) : List CipherJob := (s.cipher.jobs.filter fun e => e.2.page == f).map Prod.snd

/-! ## Start (R328, R331, R334, R336, R345) -/

/-- First failing rule of a part at its start (R334, R345). -/
def State.startRefusal (s : State) (j : CipherJob) : Option Nat :=
  let d := j.desc
  let c := (s.page j.page).ctx d.ctx
  match j.refused with
  | some e => some e
  | none =>
    if d.ctx = 0xFF then (if s.keyGone d.slot then some ckEmpty else none)
    else match s.slotRefusal j.page d with
    | some e => some e
    | none =>
      if d.last = false ∧ d.len % 16 ≠ 0 then some ckContext
      else if d.first then (if c.opened then some ckContext else none)
      else if c.opened = false ∨ c.op ≠ d.op ∨ c.slot ≠ d.slot then some ckContext
      else if c.generation ≠ (s.slot d.slot).generation then some ckChanged else none

/-- The IV of a job (R332, R341). -/
def State.jobIv (s : State) (d : CipherDesc) (v : Nat) : Bytes :=
  let f := toBE 4 (s.val (0x4100 + d.slot) 4)
  if d.hwiv then f ++ toBE 8 v ++ (if d.op = 5 then toBE 4 1 else []) else d.iv.take d.ivLen

/-- Start a job at its first segment: an invocation is counted, the key latched, a context opened. -/
def State.startJob (s : State) (n : Nat) (j : CipherJob) : State :=
  let d := j.desc
  match s.startRefusal j with
  | some e => (if e = ckChanged then s.bump 0x4010 0x0B else s).refuseJob n j e
  | none =>
    let x := s.slot d.slot
    let counts := opCounts d.op && d.first
    if counts ∧ (x.state = .locked ∨ s.val (0x4100 + d.slot) 3 ≤ x.counter) then
      ((s.setSlot d.slot { x with state := .locked }).bump 0x4010 8).settleCommand.refuseJob n j ckNonce
    else
      let c := (s.page j.page).ctx d.ctx
      let iv := if d.first then s.jobIv d x.counter else c.iv
      let u := if counts then s.setSlot d.slot { x with counter := x.counter + 1 } else s
      let u := if d.ctx < 4 then
          u.setCtx j.page d.ctx (if d.first then
            { opened := true, running := true, op := d.op, slot := d.slot, generation := x.generation, iv := iv }
          else { c with running := true })
        else u
      (u.consumeRing j.page 4).setJob n { j with
        started := true, key := x.key, generation := x.generation, iv := iv, mode := s.val 0x4000 1,
        invoc := if counts then some x.counter else none }

/-! ## Grant at a boundary (R337, R338) -/

/-- Planned time of a unit in the beat, ns: that of its busiest core. -/
def unitTime (used : Table Nat) (cells : List Nat) : Nat := cells.foldl (fun a c => max a (Table.get 0 used c)) 0

/-- The next segment goes to a unit the job does not use yet, while it may take another; else to the least used of its own. -/
def pickUnit (units : List (List Nat)) (used : Table Nat) (mine : List (List Nat)) (most rate bytes : Nat) : Option (List Nat) :=
  let room : List Nat → Bool := fun u => decide (unitTime used u + segNs u rate bytes ≤ 36000)
  match if mine.length < most then units.find? fun u => !mine.contains u && room u else none with
  | some u => some u
  | none =>
    (mine.filter room).foldl (fun (b : Option (List Nat)) u => match b with
      | none => some u
      | some a => if unitTime used u < unitTime used a then some u else some a) none

/-- Segments of one job granted in this beat: count, cells used, time planned. -/
def grantSegments (units : List (List Nat)) (most rate seg len : Nat) : Nat → Nat → List (List Nat) → Table Nat → Nat × List (List Nat) × Table Nat
  | 0, _, mine, used => (0, mine, used)
  | k + 1, i, mine, used =>
    let bytes := min seg (len - i * seg)
    match pickUnit units used mine most rate bytes with
    | none => (0, mine, used)
    | some u =>
      let used' := u.foldl (fun t c => Table.upd 0 t c fun n => n + segNs u rate bytes) used
      let r := grantSegments units most rate seg len k (i + 1) (if mine.contains u then mine else u :: mine) used'
      (r.1 + 1, r.2)

/-- Grant segments to one job, starting it where it has not started. -/
def State.grantJob (s : State) (used : Table Nat) (n : Nat) : State × Table Nat :=
  match s.job n with
  | none => (s, used)
  | some j =>
    let d := j.desc
    let mode := if j.started then j.mode else s.val 0x4000 1
    let g := grantSegments (s.units mode) (if opParallel d.op then 4 else 1) (opRate d.op (s.slot d.slot).type) (segBytes d.op) d.len
      (min 64 (j.segments - j.granted)) j.granted [] used
    if g.1 = 0 ∧ j.refused = none then (s, used)
    else
      let u := if j.started then s else s.startJob n j
      match u.job n with
      | some k =>
        if k.started then
          let mine := g.2.1.flatten ++ (if k.finished < k.granted then k.cells else [])
          (u.setJob n { k with granted := k.granted + g.1, units := max k.units g.2.1.length, cells := mine }, g.2.2)
        else (u, used)
      | none => (u, used)

/-- Rank of a job among those of its page and class that ask for segments: the round robin of R337. -/
def State.pageRank (s : State) (n : Nat) (j : CipherJob) : Nat :=
  if j.desc.cls = 0 then 0
  else (s.cipher.jobs.filter fun e => decide (e.1 < n) && e.2.page == j.page && e.2.desc.cls == j.desc.cls
    && decide (e.2.granted < e.2.segments)).length

/-- Jobs that ask for segments in this beat, in the order of R337. -/
def State.cipherOrder (s : State) : List Nat :=
  let l := s.cipher.jobs.filter fun e => decide (e.2.granted < e.2.segments) && !s.ctxWaits e.1 e.2.page e.2.desc.ctx
  (sortBy lexLt (l.map fun e => [e.2.desc.cls, s.pageRank e.1 e.2, e.2.fetched, e.2.page, e.1])).map fun k => k[4]?.getD 0

/-- Cores leave service for their test and return from it, and internal jobs that ended in FAULT are submitted again (R321). -/
def State.coresTick (s : State) : State :=
  let x := s.cipher
  let u := { s with cipher := { x with
    testing := (x.testing.filter fun c => !x.passed.contains c) ++ x.leaving.filter fun c => !(x.testing.contains c && !x.passed.contains c)
    leaving := [], passed := [], resubmit := [] } }
  u.each x.resubmit fun v d => v.takeCipher 64 d true

/-- What the engine does at a beat boundary. -/
def State.cipherTick (s : State) : State :=
  if (s.block 3 0).state = .running then
    let u := s.coresTick
    (u.cipherOrder.foldl (fun a n => a.1.grantJob a.2 n) (u, [])).1
  else s

/-! ## Results (R333-R336) -/

/-- A result: status, bytes for DST, and whether they are unverified. -/
structure CipherResult where
  status : Nat
  data : Bytes
  unverified : Bool
deriving DecidableEq, Repr

/-- Result of an OPEN whose tag did not verify (R335). -/
def untrusted (onFail : Bool) (p : Bytes) : CipherResult := if onFail then ⟨ckUntrusted, p, false⟩ else ⟨ckAuthFail, [], false⟩

/-- What a part of LEN bytes `p` after `before` gives, with the tag read behind it (R333). -/
def cipherResult (j : CipherJob) (aad before p tag : Bytes) : CipherResult :=
  let d := j.desc
  let all := before ++ p
  let key := j.key
  let ok : Bytes → CipherResult := fun o => ⟨0, o.drop before.length, false⟩
  if d.op = 1 then ok (Aes.ecbEncrypt key all)
  else if d.op = 2 then ok (Aes.ecbDecrypt key all)
  else if d.op = 3 then ok (Aes.cbcEncrypt key (ofBE j.iv) (if d.last then Aes.pad2 all else all))
  else if d.op = 4 then
    let o := Aes.cbcDecrypt key (ofBE j.iv) (Aes.chunk all)
    if d.last then match Aes.unpad2 o with
      | some q => ok q
      | none => ⟨ckPad, [], false⟩
    else ok o
  else if d.op = 5 then ok (Aes.ctr key (ofBE j.iv) all)
  else if d.op = 6 then (if d.last then ⟨0, (Aes.toBytes (Aes.cmac key all)).take d.tagLen, false⟩ else ⟨0, [], false⟩)
  else if d.op = 7 then
    (if d.last = false then ⟨0, [], false⟩
    else if (Aes.toBytes (Aes.cmac key all)).take d.tagLen = tag then ⟨0, [], false⟩ else ⟨ckAuthFail, [], false⟩)
  else if d.op = 8 then ⟨0, Aes.ccmCrypt key j.iv p ++ Aes.ccmTag key j.iv aad p d.tagLen, false⟩
  else if d.op = 9 then
    let o := Aes.ccmCrypt key j.iv p
    if Aes.ccmTag key j.iv aad o d.tagLen = tag then ⟨0, o, false⟩ else untrusted j.onFail o
  else if d.op = 0x0A then
    let c := Aes.gcmCrypt key j.iv all
    ⟨0, c.drop before.length ++ (if d.last then (Aes.gcmTag key j.iv aad c).take d.tagLen else []), false⟩
  else if d.op = 0x0B then
    let o := (Aes.gcmCrypt key j.iv all).drop before.length
    if d.last = false then ⟨0, o, true⟩
    else if (Aes.gcmTag key j.iv aad all).take d.tagLen = tag then ⟨0, o, false⟩
    else if before = [] ∧ d.first then untrusted j.onFail o else ⟨ckUntrusted, o, false⟩
  else if d.op = 0x0C then ⟨0, Aes.kwWrap key p, false⟩
  else if d.op = 0x0E then ⟨0, Aes.kwpWrap key p, false⟩
  else match (if d.op = 0x0D then Aes.kwUnwrap key p else Aes.kwpUnwrap key p) with
  | some q => ⟨0, q, false⟩
  | none => ⟨ckAuthFail, [], false⟩

/-- The last segment of a job has passed its guard: result, context, completion (R321, R334, R335). -/
def State.finishJob (s : State) (n : Nat) (j : CipherJob) (input aad : Bytes) : State :=
  let d := j.desc
  let c := (s.page j.page).ctx d.ctx
  let multi := decide (d.ctx < 4)
  let p := slice input 0 d.len
  let a := if multi && !d.first then c.aad else aad.take d.aadLen
  let r := cipherResult j a (if multi then c.input else []) p (slice input d.len d.tagLen)
  let u := if r.status = ckAuthFail ∨ r.status = ckUntrusted then s.bump 0x4010 (if j.onFail then 4 else 3) else s
  if zeroes r.status then u.failJob n j r.status
  else
    let v := { u with cipher := { u.cipher with jobs := Table.erase u.cipher.jobs n } }
    let w := if multi then
        (if d.last then v.closeCtx j.page d.ctx
        else v.setCtx j.page d.ctx { c with running := false, input := c.input ++ p, aad := a })
      else v
    (w.writeOut j r.data).postDone j r.status r.data.length r.unverified

/-! ## The guard (R321, R322) -/

/-- A comparison fails on a unit: counted, logged from its cells, which leave service for the next beat and a test; the third in a second is a
tamper alarm. -/
def State.guardFails (s : State) (cells : List Nat) (unit : Nat) : State :=
  let u := s.bump 0x4010 5
  let u := u.each cells fun v c => v.event (srcOf 3 0 c) 0x0801 sevWarning (toBE 1 unit)
  let recent := u.tsc :: u.cipher.mismatches.filter fun a => decide (u.tsc ≤ a + 1000000000)
  let v := { u with cipher := { u.cipher with
    leaving := u.cipher.leaving ++ cells.filter fun c => !u.cipher.leaving.contains c
    mismatches := if 3 ≤ recent.length then [] else recent } }
  if 3 ≤ recent.length then (v.bump 0x4010 6).tamper 6 else v

end Sys2Proof.Machine
end

