-- ==== Sys2Proof/Machine/CheckOps.lean ====
section
/-! DEFINITION. Check units (R347, R348, R354-R361): polynomials, parts, contexts, grants, results. -/

namespace Sys2Proof.Machine

/-- Status MISMATCH (R357). -/
def ckCompare : Nat := 0x0300

/-! ## Units (R354) -/

/-- Units in service, as a bitmap (4200.01). -/
def State.checkUnits (s : State) : Nat := ((List.range 32).filter fun c => !s.isWithdrawn 3 2 c).foldl (fun a c => a + 2 ^ c) 0

/-- Time of a segment on a unit at 8 GB/s, ns. -/
def checkNs (bytes : Nat) : Nat := (bytes + 7) / 8

/-! ## Contexts (R354-R356) -/

/-- A check context of a page. -/
def Page.check (x : Page) (n : Nat) : CheckCtx := Table.get {} x.checks n

/-- Write a check context. -/
def State.setCheck (s : State) (f n : Nat) (c : CheckCtx) : State :=
  s.setPage f { s.page f with checks := Table.put {} (s.page f).checks n c }

/-- A later part is refused: its context closes and keeps its value (R355). -/
def State.closeCheck (s : State) (f n : Nat) : State :=
  if n < 4 then s.setCheck f n { (s.page f).check n with opened := false, running := false } else s

/-! ## Parts (R355, R357, R358, R360) -/

/-- Post a completion (R360). -/
def State.postCheck (s : State) (x : CheckPart) (status result : Nat) (final : Bool) : State :=
  let d := toLE 4 x.desc.jobTag ++ toLE 2 status ++ toLE 1 (ofBool final) ++ toLE 1 0 ++ toLE 8 result ++ toLE 8 s.tsc ++ toLE 8 0
  let u := if x.page < 64 then s.postRing x.page 7 d else s.emit (.hostWrite x.page 7 0 d)
  u.bump 0x4210 (if status = 0 then 1 else 2)

/-- Remove a part from the queue. -/
def State.dropCheck (s : State) (x : CheckPart) : State := { s with checkParts := s.checkParts.erase x }

/-- A part ends without its result: its context keeps the value it had (R355). -/
def State.failCheck (s : State) (x : CheckPart) (status : Nat) : State :=
  let u := s.dropCheck x
  let c := (u.page x.page).check x.desc.ctx
  let u := if x.dispatched then (if x.desc.ctx < 4 then u.setCheck x.page x.desc.ctx { x.prior with ignored := c.ignored } else u)
    else u.consumeRing x.page 6
  u.postCheck x status 0 false

/-- First failing test of a descriptor at its fetch (R347, R357, R358, R360). -/
def State.checkRefusal (s : State) (f : Nat) (d : CheckDesc) : Option Nat :=
  if d.reserved ≠ 0 ∨ (d.op ≠ 1 ∧ d.op ≠ 2) ∨ d.poly = 0 ∨ 4 < d.poly ∨ (4 ≤ d.ctx ∧ d.ctx ≠ 0xFF)
      ∨ (d.ctx == 0xFF) ≠ (d.first && d.last) ∨ 16777216 < d.len ∨ (d.op = 2 ∧ d.last = false) then some acRange
  else if s.held 3 2 then some stBlockHeld
  else if d.cls = 0 ∧ f < 64 ∧ s.roleOf f ≠ 3 then some acNoAccess else none

/-- An earlier part of the same context is still queued (R355). -/
def checkWaits (before : List CheckPart) (f ctx : Nat) : Bool := decide (ctx < 4) && before.any fun x => x.page == f && x.desc.ctx == ctx

/-- Take a fetched descriptor. -/
def State.takeCheck (s : State) (f : Nat) (d : CheckDesc) : State :=
  let r := s.checkRefusal f d
  let x : CheckPart :=
    { page := f, desc := d, fetched := s.tsc, dispatched := false, value := 0, prior := {}, segments := max 1 ((d.len + 65535) / 65536), granted := 0,
      refused := r }
  let w := checkWaits s.checkParts f d.ctx
  let u := { s with checkParts := s.checkParts ++ [x] }
  let u := if r = some acRange ∧ f < 64 then u.setPage f ((u.page f).setRing 6 { (u.page f).ring 6 with badDesc := true }) else u
  match r with
  | some e => if w then u else u.failCheck x e
  | none => u

/-! ## Dispatch at a boundary (R354, R355) -/

/-- Replace a part in the queue. -/
def State.putCheck (s : State) (x y : CheckPart) : State := { s with checkParts := s.checkParts.map fun z => if z = x then y else z }

/-- Dispatch a part: a first part opens its context at the initial value, a later one takes the running value (R355). -/
def State.dispatchCheck (s : State) (x : CheckPart) : State :=
  let d := x.desc
  let c := (s.page x.page).check d.ctx
  match x.refused with
  | some e => s.failCheck x e
  | none =>
    if d.first then
      let v := (polyOf d.poly).init
      let u := if d.ctx < 4 then s.setCheck x.page d.ctx { c with opened := true, running := true, poly := d.poly, value := v, bytes := 0 }
        else s
      (u.consumeRing x.page 6).putCheck x { x with dispatched := true, value := v, prior := c }
    else if c.opened = false ∨ c.poly ≠ d.poly then (s.closeCheck x.page d.ctx).failCheck x ckContext
    else ((s.setCheck x.page d.ctx { c with running := true }).consumeRing x.page 6).putCheck x
      { x with dispatched := true, value := c.value, prior := c }

/-- Parts that ask for segments in this beat, in the order of R337. -/
def checkOrder : List CheckPart → List CheckPart → List (List Nat × CheckPart)
  | _, [] => []
  | before, x :: l =>
    let rank := if x.desc.cls = 0 then 0
      else (before.filter fun y => y.page == x.page && y.desc.cls == x.desc.cls && decide (y.granted < y.segments)).length
    (if x.granted < x.segments ∧ checkWaits before x.page x.desc.ctx = false
      then [([x.desc.cls, rank, x.fetched, x.page, before.length], x)] else []) ++ checkOrder (before ++ [x]) l

/-- Segments that fit a unit with `used` ns planned: at most 36 µs in a beat. -/
def checkFit (len : Nat) : Nat → Nat → Nat → Nat × Nat
  | 0, _, used => (0, used)
  | k + 1, i, used =>
    let t := used + checkNs (min 65536 (len - i * 65536))
    if t ≤ 36000 then (let r := checkFit len k (i + 1) t; (r.1 + 1, r.2)) else (0, used)

/-- Units in service, by number. -/
def State.checkCells (s : State) : List Nat := (List.range 32).filter fun c => !s.isWithdrawn 3 2 c

/-- Grant segments of one part to the first unit with room, or to the one it runs on while that serves (R355). -/
def State.grantCheck (s : State) (used : Table Nat) (x : CheckPart) : State × Table Nat :=
  let fit := fun (c : Nat) => checkFit x.desc.len (x.segments - x.granted) x.granted (Table.get 0 used c)
  let cells := if x.granted ≠ 0 ∧ s.checkCells.contains x.unit then [x.unit] else s.checkCells
  match cells.find? fun c => 0 < (fit c).1 with
  | none => (s, used)
  | some c =>
    let g := fit c
    let y := { x with granted := x.granted + g.1, unit := c, last := g.1, carried := false }
    let u := s.putCheck x y
    (if y.dispatched then u else u.dispatchCheck y, Table.put 0 used c g.2)

/-- What the check units do at a beat boundary. -/
def State.checkTick (s : State) : State :=
  if (s.block 3 2).state = .running then
    ((sortBy (fun a b => lexLt a.1 b.1) (checkOrder [] s.checkParts)).foldl (fun a x => a.1.grantCheck a.2 x.2)
      (s, [])).1
  else s

/-! ## Results (R355, R357) -/

/-- A part completes with its running or final value. -/
def State.finishCheck (s : State) (x : CheckPart) (data : Bytes) : State :=
  let d := x.desc
  let c := (s.page x.page).check d.ctx
  let v := crcRun d.poly x.value (slice data 0 d.len)
  let res := if d.last then crcFinal d.poly v else v
  let bad := d.op == 2 && res != d.expected % 2 ^ (polyOf d.poly).width
  let u := (s.dropCheck x).bumpKey (keyOf 0x4210 4) d.len
  let u := if d.ctx < 4 then
      u.setCheck x.page d.ctx
        { c with running := false, opened := !d.last, value := if bad then c.value else v,
                 bytes := if bad then c.bytes else (c.bytes + d.len) % 2 ^ 32 }
    else u
  if bad then
    let g := u.page x.page
    let w := ((u.postCheck x ckCompare res true).bump 0x4210 3)
    let w := if x.page < 64 then w.setPage x.page { w.page x.page with mismatch := true, misCount := min 65535 (g.misCount + 1) } else w
    if x.page < 64 ∧ g.misIrqEn then w.emit (.msix x.page g.misVector) else w
  else u.postCheck x 0 res d.last

end Sys2Proof.Machine
end

