-- ==== Sys2Proof/Machine/Check.lean ====
section
/-! DEFINITION. Check units by command (R355, R356, R360). -/

namespace Sys2Proof.Machine

/-- CHECK_JOB_FETCH (R359, R360): the next descriptor of a page's CHKQ, with a CHKDQ entry reserved; page 64 is an internal user. -/
def execCheckJobFetch (t f : Nat) (d : CheckDesc) (s : State) : Res :=
  s.run t fun s =>
    if s.engineTakes 3 2 = false then s
    else if f = 64 then s.takeCheck f d
    else
      let g := (s.page f).ring 6
      let mine := s.checkParts.filter fun x => x.page == f
      let ahead := mine.filter fun x => !x.dispatched
      if s.open f = false ∨ (s.page f).chkEnable = false ∨ g.enable = false ∨ g.used ≤ ahead.length then s
      else if ((s.page f).ring 7).free ≤ mine.length then s.setPage f ((s.page f).setRing 6 { g with stalled := true })
      else s.takeCheck f d

/-- CHECK_PART_COMPLETE (R355, R357, R358): a dispatched part whose segments are all granted has taken in its data. -/
def execCheckPartComplete (t f ctx : Nat) (dmaOk : Bool) (data : Bytes) (s : State) : Res :=
  s.run t fun s =>
    match s.checkParts.find? fun x => x.page == f && x.desc.ctx == ctx && x.dispatched && x.granted == x.segments with
    | some x => if dmaOk then s.finishCheck x data else s.failCheck x ckDma
    | none => s

/-- A word written to a check context's CTX_CTRL (R356, R359): OPEN and POLY, ignored and flagged while a part runs. -/
def State.checkCtrlWrite (s : State) (f ctx : Nat) (w : Word32) : State :=
  let c := (s.page f).check ctx
  let c := if bit w.toNat 29 then { c with ignored := false } else c
  s.setCheck f ctx (if c.running then { c with ignored := true } else { c with opened := bit w.toNat 31, poly := bits w.toNat 2 0 })

/-- A word written to half of a check context's running value (R356, R359), ignored and flagged while a part runs. -/
def State.checkValueWrite (s : State) (f ctx : Nat) (high : Bool) (w : Word32) : State :=
  let c := (s.page f).check ctx
  s.setCheck f ctx (if c.running then { c with ignored := true }
    else { c with value := if high then w.toNat * 2 ^ 32 + c.value % 2 ^ 32 else c.value / 2 ^ 32 * 2 ^ 32 + w.toNat })

/-- CHECK_CTX_CTRL_WRITE (R356, R359). -/
def execCheckCtxCtrlWrite (t f ctx : Nat) (w : Word32) (s : State) : Res :=
  s.run t fun s => if s.open f ∧ ctx < 4 then s.checkCtrlWrite f ctx w else s

/-- CHECK_VALUE_WRITE (R356, R359). -/
def execCheckValueWrite (t f ctx : Nat) (high : Bool) (w : Word32) (s : State) : Res :=
  s.run t fun s => if s.open f ∧ ctx < 4 then s.checkValueWrite f ctx high w else s

end Sys2Proof.Machine
end

