-- ==== Sys2Proof/Machine/Cipher.lean ====
section
/-! DEFINITION. Cipher engine and key store by command (R321, R328-R330, R334, R338, R341). -/

namespace Sys2Proof.Machine

/-- CIPHER_JOB_FETCH (R340, R341): the next descriptor of a page's JOBQ, up to 8 ahead and with a DONEQ entry reserved; page 64 is an
internal user. -/
def execCipherJobFetch (t f : Nat) (d : CipherDesc) (s : State) : Res :=
  s.run t fun s =>
    if s.engineTakes 3 0 = false then s
    else if f = 64 then s.takeCipher f d false
    else
      let g := (s.page f).ring 4
      let ahead := (s.pageJobs f).filter fun j => !j.started
      if s.open f = false ∨ (s.page f).ciphEnable = false ∨ g.enable = false ∨ g.used ≤ ahead.length ∨ 8 ≤ ahead.length then s
      else if ((s.page f).ring 5).free ≤ (s.pageJobs f).length then
        s.setPage f ((s.page f).setRing 4 { g with stalled := true })
      else s.takeCipher f d false

/-- CIPHER_SEGMENT_COMPLETE (R321, R338, R341): a granted segment ends on a unit; the job completes after its last one. An internal job that ends in
FAULT is submitted once more, by engine firmware at the next beat (R321). -/
def execCipherSegmentComplete (t job unit : Nat) (guardOk dmaOk : Bool) (input aad : Bytes) (s : State) : Res :=
  s.run t fun s =>
    match s.job job with
    | none => s
    | some j =>
      if j.started = false ∨ j.granted ≤ j.finished then s
      else if guardOk = false then
        let cells := ((s.units j.mode)[unit]?).getD []
        let u := (s.failJob job j ckFault).guardFails cells unit
        if j.page = 64 ∧ j.again = false then { u with cipher := { u.cipher with resubmit := u.cipher.resubmit ++ [j.desc] } } else u
      else if dmaOk = false then s.failJob job j ckDma
      else if j.finished + 1 < j.segments then s.setJob job { j with finished := j.finished + 1 }
      else s.finishJob job j input aad

/-- KNOWN_ANSWER_TEST (R321): a core that fails is withdrawn, one that passes returns at the following beat. -/
def execKnownAnswerTest (t core : Nat) (pass : Bool) (s : State) : Res :=
  s.run t fun s =>
    if s.cipher.testing.contains core then
      if pass then { s with cipher := { s.cipher with passed := core :: s.cipher.passed } }
      else { s with cipher := { s.cipher with testing := s.cipher.testing.filter fun c => c != core } }.withdraw 3 0 core
    else s

/-- LOAD (R326, R328, R340), with the refusal of an OP outside 1-3. -/
def execLoad (t f : Nat) (w : Word32) (s : State) : Res :=
  s.run t fun s => if s.open f ∧ keyOpIs w.toNat 1 then s.keyCommand f w.toNat else s

/-- UNWRAP (R326, R328, R340). -/
def execUnwrap (t f : Nat) (w : Word32) (s : State) : Res :=
  s.run t fun s => if s.open f ∧ keyOpIs w.toNat 2 then s.keyCommand f w.toNat else s

/-- ERASE (R326, R329, R340). -/
def execErase (t f : Nat) (w : Word32) (s : State) : Res :=
  s.run t fun s => if s.open f ∧ keyOpIs w.toNat 3 then s.keyCommand f w.toNat else s

/-- ERASE_COMPLETE (R329): no job uses the slot any longer; the commands behind the erase follow. -/
def execEraseComplete (t f : Nat) (s : State) : Res :=
  s.run t fun s =>
    if s.cipher.erasing = some f then
      let u := { s with cipher := { s.cipher with erasing := none } }.keyDone f 0
      u.serveKeys u.cipher.waiting
    else s

/-- SLOT_STORAGE_ERROR (R330): an ERASE of the slot, a reload of slot 255 from OTP unless the ripcord has blocked it, or an error of
the key store's control state, which holds the block out of service. -/
def execSlotStorageError (t : Nat) (slot : Option Nat) (s : State) : Res :=
  s.run t fun s =>
    match slot with
    | none => s.holdBlock 3 1
    | some n =>
      let u := s.event srcKeys 0x0802 sevAlarm (toBE 1 n)
      if n = 255 then
        let v := u.withdrawJobs 255
        if v.cipher.blocked255 then v
        else v.setSlot 255 { v.slot 255 with key := Config.keyEncryptionKey, shadow := Config.keyEncryptionKey, loaded := v.tsc }
      else u.eraseSlot n

/-- A word written to CTX_ABORT (R334): a context is closed at once and its running part fails with CONTEXT_ERROR. -/
def State.abortCtxs (s : State) (f : Nat) (w : Word32) : State :=
  s.each ((List.range 4).filter (bit w.toNat)) fun u n =>
    let v := u.each (u.jobsWhere fun j => j.page == f && j.desc.ctx == n) fun x e => x.failJob e.1 e.2 ckContext
    v.closeCtx f n

/-- CTX_ABORT (R334), page 64 the internal users. -/
def execCtxAbort (t f : Nat) (w : Word32) (s : State) : Res :=
  s.run t fun s => if s.open f ∨ f = 64 then s.abortCtxs f w else s

end Sys2Proof.Machine
end

