-- ==== Sys2Proof/Machine/Time.lean ====
section
/-! DEFINITION. Frequency source, station time and PPS (R70-R81). -/

namespace Sys2Proof.Machine

/-- The servo's sources in the order of 1200.06 (R76). -/
def timeOrder (v : Nat) : List TimeSource :=
  if v = 0 then [.ptp, .pps] else if v = 1 then [.pps, .ptp] else if v = 2 then [.ptp] else if v = 3 then [.pps] else []

/-- The state a source disciplines (R75). -/
def timeStateOf : TimeSource → TimeState
  | .ptp => .ptp
  | .pps => .pps

/-- A source has qualified. -/
def TimeBase.ok (x : TimeBase) : TimeSource → Bool
  | .ptp => x.ptpOk
  | .pps => x.ppsOk && x.state != .unset

/-- The first source of the order that qualifies (R76). -/
def State.bestSource (s : State) : Option TimeSource := (timeOrder (s.val 0x1200 6)).find? s.time.ok

/-- The state is one that a source disciplines. -/
def disciplined (x : TimeState) : Bool := x == .ptp || x == .pps

/-- After a change of sources or of their order: move to the first that qualifies at the next boundary, or to HOLDOVER at once
where a disciplining source is gone and none qualifies (R76). -/
def State.chooseSource (s : State) : State :=
  match s.bestSource with
  | some src =>
    { s with time := { s.time with next := if s.time.state = timeStateOf src then none else some (timeStateOf src) } }
  | none =>
    if disciplined s.time.state then { s with time := { s.time with state := .holdover, holdoverAt := s.tsc, next := none } }
    else { s with time := { s.time with next := none } }

/-- A station-time event 0x0401 with old and new offset (R77, R78). -/
def State.logOffset (s : State) (old new : Int) : State :=
  s.event (srcOf 5 2 0) 0x0401 sevNotice (toBE 8 (unsigned 64 old) ++ toBE 8 (unsigned 64 new))

/-- PPS_OUT may be high (R81): enabled, the state PTP, PPS or HOLDOVER, outputs not held safe (R27). -/
def State.ppsOutAllowed (s : State) : Bool :=
  s.flag 0x1200 0x0A && (s.time.state == .ptp || s.time.state == .pps || s.time.state == .holdover) && !s.hier.safeOutputs

/-- At all other times PPS_OUT is low (R81). -/
def State.settlePpsOut (s : State) : State :=
  if s.ppsOutAllowed then s else { s with time := { s.time with ppsOutUntil := 0 } }

/-- What station time does at a beat boundary: a step of the offset (R77), a written time (R78), a state change (R76); of a written time and
a move to PTP at one boundary the move comes second (log 51). -/
def State.timeBoundary (s : State) : State :=
  let u := match s.time.step with
    | some d =>
      ({ s with time := { s.time with offset := s.time.offset + d, step := none } }.logOffset s.time.offset (s.time.offset + d)).bump
        0x1200 0x12
    | none => s
  let u := match u.time.setTo with
    | some v =>
      let new : Int := (v : Int) - (u.tsc : Int)
      { u with time := { u.time with
          offset := new, state := .set, setTo := none, next := if u.time.next = some TimeState.ptp then some TimeState.ptp else none, ppsOk := false,
          ppsEdges := 0, lastPps := none, ppsError := none } }.logOffset
        u.time.offset new
    | none => u
  let u := match u.time.next with
    | some st => { u with time := { u.time with state := st, next := none, servoAt := u.tsc } }
    | none => u
  u.settlePpsOut

/-- REF10_QUALIFIED (R71): the input is usable as frequency source. -/
def execRef10Qualified (t : Nat) (s : State) : Res :=
  s.run t fun s => { s with time := { s.time with ref10 := true } }

/-- REF10_LOST (R72): the oscillator continues at the frequency it last measured. -/
def execRef10Lost (t : Nat) (offset : Int) (s : State) : Res :=
  s.run t fun s => { s with time := { s.time with ref10 := false, ppb := offset } }

/-- TIME_SOURCE_QUALIFIED (R76, R79, R80): PPS_IN needs four counted edges and a set time, PTP a role that is not disabled. -/
def execTimeSourceQualified (t : Nat) (src : TimeSource) (s : State) : Res :=
  s.run t fun s =>
    match src with
    | .ptp =>
      if s.val 0x1200 0x0F = 0 then s else { s with time := { s.time with ptpOk := true } }.chooseSource
    | .pps =>
      if s.time.ppsEdges ≥ 4 ∧ s.timeSet then { s with time := { s.time with ppsOk := true } }.chooseSource else s

/-- Two edges of PPS_IN are missing (R79): two periods of 1 s and their tolerance of 100 ppm have passed since the last one. -/
def State.ppsMissing (s : State) : Bool :=
  match s.time.lastPps with
  | some a => decide (a + 2000200000 ≤ s.tsc)
  | none => true

/-- The source that steered the oscillator is gone: the offset last measured against it stands (R102), a free value (log 6). -/
def State.keepOffset (s : State) (src : TimeSource) : State :=
  if s.time.state = timeStateOf src ∧ (s.flag 0x1200 9 && s.time.ref10) = false then
    { s.fresh.2 with time := { s.time with ppb := signed 32 s.fresh.1 } }
  else s

/-- TIME_SOURCE_LOST (R76, R79): PPS_IN after two missing edges. -/
def execTimeSourceLost (t : Nat) (src : TimeSource) (s : State) : Res :=
  s.run t fun s =>
    let u := s.keepOffset src
    match src with
    | .ptp => { u with time := { u.time with ptpOk := false } }.chooseSource
    | .pps =>
      if s.ppsMissing then
        { u with time := { u.time with ppsOk := false, ppsEdges := 0, lastPps := none, ppsError := none } }.chooseSource
      else s

/-- TIME_HOLDOVER_EXPIRY (R76): after 1200.0D seconds in HOLDOVER the state becomes SET. -/
def execTimeHoldoverExpiry (t : Nat) (s : State) : Res :=
  s.run t fun s =>
    if s.time.state = .holdover ∧ s.time.holdoverAt + s.val 0x1200 0x0D * 1000000000 ≤ s.tsc then
      { s with time := { s.time with state := .set } }.settlePpsOut
    else s

/-- The part of an error that 50 µs per second allow since the last correction (R77). -/
def slewPart (elapsed : Nat) (error : Int) : Int :=
  let m : Int := (elapsed * 50 / 1000000 : Nat)
  if error > m then m else if error < -m then -m else error

/-- An error up to 1 ms is slewed, a larger one stepped at the next boundary (R77). -/
def State.correct (s : State) (error : Int) : State :=
  if error.natAbs ≤ 1000000 then
    { s with time := { s.time with
        offset := s.time.offset - slewPart (s.tsc - s.time.servoAt) error, servoAt := s.tsc, ppsError := none } }
  else { s with time := { s.time with step := some (-error), servoAt := s.tsc, ppsError := none } }

/-- SERVO_CORRECTION (R77, R79): in PTP of the error that the ring's PTP unit measured, in PPS of the error at the latest edge of PPS_IN. -/
def execServoCorrection (t : Nat) (error : Int) (s : State) : Res :=
  s.run t fun s =>
    if s.time.state = .ptp then (s.setVal 0x1200 0x11 (unsigned 64 error)).correct error
    else if s.time.state = .pps then
      (match s.time.ppsError with
        | some e => s.correct e
        | none => s)
    else s

/-- A time lies within 100 ms of a whole second (R79). -/
def nearSecond (station : Int) : Bool :=
  let r := station % 1000000000
  decide (r ≤ 100000000) || decide (r ≥ 900000000)

/-- Error of a time against the whole second nearest to it (R79). -/
def secondError (station : Int) : Int :=
  let r := station % 1000000000
  if r ≤ 500000000 then r else r - 1000000000

/-- PPS_EDGE (R79): the edge marks the whole second nearest to station time; edges spaced 1 s ± 100 ppm near a whole second of station time count toward qualification. -/
def execPpsEdge (t : Nat) (s : State) : Res :=
  s.run t fun s =>
    if s.timeSet then
      let mark : Int := (s.tsc : Int) - signed 32 (s.val 0x1200 0x0B) + s.time.offset
      let spaced := match s.time.lastPps with
        | some a => decide (999900000 ≤ s.tsc - a) && decide (s.tsc - a ≤ 1000100000)
        | none => false
      let n := if nearSecond mark then (if spaced then s.time.ppsEdges + 1 else 1) else 0
      { s with time := { s.time with ppsEdges := n, lastPps := some s.tsc, ppsError := some (secondError mark) } }
    else s

/-- PPS_OUT_EDGE (R81): a rising edge within 50 ns of a whole second, while enabled and in PTP, PPS or HOLDOVER and outputs are not
held safe (R27). -/
def execPpsOutEdge (t : Nat) (s : State) : Res :=
  s.run t fun s =>
    if s.ppsOutAllowed ∧ (s.stationTime + 50) % 1000000000 ≤ 100 then
      { s with time := { s.time with ppsOutUntil := s.tsc + 100000000 } }.emit .ppsOut
    else s

end Sys2Proof.Machine
end

