-- ==== Sys2Proof/Machine/RingOps.lean ====
section
/-! DEFINITION. The station ring (R364-R382): links, forwarding, queues, bypass, insertion, precision time. -/

namespace Sys2Proof.Machine

/-- The ring block is RUNNING. -/
def State.ringUp (s : State) : Bool := (s.block 4 0).state == .running

/-- Write a ring port through a function. -/
def State.updRing (s : State) (d : Side) (f : RingPort → RingPort) : State := s.setRingPort d (f (s.ringPort d))

/-- The first of a pair of entries is EAST's, the second WEST's (R384). -/
def sideSub (d : Side) (first : Nat) : Nat := first + sideNo d

/-- Count on a side in 3810. -/
def State.ringCount (s : State) (d : Side) (first : Nat) : State := s.bump 0x3810 (sideSub d first)

/-! ## Transmission (R370, R371) -/

/-- Time of a frame of `n` bytes on the line, with its START and END symbols and the 12 IDLEs before the next (R362, R363): 4D symbols of
2.5 ns. -/
def ringFrameNs (n : Nat) : Nat := (((8 * n + 11) / 12 + 14) * 5 + 1) / 2

/-- The next frame of an idle port that is UP: a local frame that has waited 100 µs, else the transit buffer, else the local queue. -/
def RingPort.next (x : RingPort) (t : Nat) : Option (RingTx × RingPort) :=
  match x.localq, x.transit with
  | l :: ls, [] => some (l, { x with localq := ls })
  | [], f :: fs => some (f, { x with transit := fs })
  | l :: ls, f :: fs => if l.queued + 100000 ≤ t then some (l, { x with localq := ls }) else some (f, { x with transit := fs })
  | [], [] => none

/-- Start the next frame of a port; in EXTRACTING no local one (R381). -/
def State.ringKick (s : State) (d : Side) : State :=
  let x := s.ringPort d
  if x.sending.isSome ∨ x.link ≠ .up then s
  else match (if s.ring.state = .extracting then { x with localq := [] } else x).next s.tsc with
  | some (f, y) => (s.setRingPort d { y with sending := some { f with started := s.tsc } }).emit (.ringFrame d f.frame false)
  | none => s

/-- Bytes of the transit buffer in use. -/
def RingPort.stored (x : RingPort) : Nat := x.transit.foldl (fun a f => a + f.frame.length) 0

/-- Store a frame for forwarding on a port (R371); `from_` is the side on which it came. -/
def State.ringStore (s : State) (from_ : Side) (frame : RingFrame) : State :=
  let d := otherSide from_
  let x := s.ringPort d
  if x.link ≠ .up then s
  else if x.stored + frame.length > 65536 then s.ringCount from_ 5
  else ((s.setRingPort d { x with transit := x.transit ++ [⟨frame, true, false, s.tsc, 0⟩] }).ringCount from_ 3).ringKick d

/-- VLAN and priority of the module's Octac frames (3800.03, 3800.04). -/
def State.octacVlan (s : State) : Option (Nat × Nat) := if s.val 0x3800 3 = 0 then none else some (s.val 0x3800 3, s.val 0x3800 4)

/-- A frame of the module's own for one side (R370): LanId 0 on EAST, 1 on WEST. -/
def State.ownFrame (s : State) (da etherType : Nat) (vlan : Option (Nat × Nat)) (payload : Bytes) (d : Side) : RingFrame :=
  { da := da, sa := Config.ringAddress, etherType := etherType, hsrTag := some s.ring.sequence,
    length := max 64 (24 + (if vlan.isSome then 4 else 0) + payload.length), fcsOk := true, aborted := false, nearest := false,
    payload := payload, lanId := sideNo d, vlan := vlan }

/-- Send a frame of the module's own on both ports under one sequence number (R370). -/
def State.sendRing (s : State) (da etherType : Nat) (vlan : Option (Nat × Nat)) (payload : Bytes) : State :=
  let u := { s with ring := { s.ring with sequence := (s.ring.sequence + 1) % 65536 } }
  u.each [Side.east, Side.west] fun v d =>
    if (v.ringPort d).link = .up then (v.updRing d fun x => { x with localq := x.localq ++ [⟨s.ownFrame da etherType vlan payload d, false, false, v.tsc, 0⟩] }).ringKick d
    else v

/-- A message for a ring peer leaves (R46, R61). -/
def State.sendMessage (s : State) (mac : Nat) (msg : Bytes) : State :=
  (s.emit (.ringMessage mac msg)).sendRing mac (s.val 0x3800 2) s.octacVlan msg

/-! ## Links (R365, R372) -/

/-- A port leaves UP: its own frames are lost, a frame cut through from it is ended on the other port with ABORT. -/
def State.ringLost (s : State) (d : Side) : State :=
  let o := otherSide d
  let u := s.updRing d fun x => { x with sending := none, transit := [], localq := [], residence := none, steps := none }
  match (u.ringPort o).sending with
  | some f =>
    if f.transit ∧ f.cutThrough then
      ((u.updRing o fun x => { x with sending := none }).emit (.ringFrame o f.frame true)).ringKick o
    else u
  | none => u

/-- Give a port a link state. -/
def State.setRingLink (s : State) (d : Side) (st : RingLink) : State :=
  let x := s.ringPort d
  let u := if x.link = .up ∧ st ≠ .up then s.ringLost d else s
  let v := u.updRing d fun y => { y with link := st }
  let none_ := (v.ringPort .east).link != .up && (v.ringPort .west).link != .up
  { v with ring := { v.ring with
    bothDownAt := if none_ then (if v.ring.bothDownAt.isSome then v.ring.bothDownAt else some v.tsc) else none } }

/-- Ports are connected to their pins, or parted from them, as contact sense says (R365, R375). -/
def State.settleRingPins (s : State) : State :=
  s.each [Side.east, Side.west] fun u d =>
    let on := u.ringUp && (match d with
      | .east => u.ring.ke
      | .west => u.ring.kw)
    if on ∧ (u.ringPort d).link = .off then u.setRingLink d .training
    else if on = false ∧ (u.ringPort d).link ≠ .off then u.setRingLink d .off else u

/-! ## Insertion (R379, R382) -/

/-- Enter a ring state. -/
def State.enterRing (s : State) (st : RingState) : State := { s with ring := { s.ring with state := st } }

/-- Drive or release nRING_INS. -/
def State.ringDrive (s : State) (on : Bool) : State :=
  if s.ring.inserted = on then s else { s with ring := { s.ring with inserted := on, commandAt := s.tsc } }

/-- Begin to wait for a steady through path. -/
def State.waitSteady (s : State) : State :=
  { s with ring := { s.ring with state := .waitSteady, steadyAt := s.tsc, steady := false, insertBeat := none, intervalAt := none } }

/-- A substitution of a ring pair runs. -/
def State.ringSwapping (s : State) : Option SwapRequest :=
  match s.sup.running with
  | some q => if srcRegion q.primary = 4 then some q else none
  | none => none

/-- A substitution in progress is abandoned (R382). -/
def State.ringAbandon (s : State) : State :=
  match s.ringSwapping with
  | some q => ({ s with ring := { s.ring with ballast := if q.back then s.ring.ballast else 0 } }).endSwap q false
  | none => s

/-- Release nRING_INS for good: a substitution in progress is abandoned with bypass closed (R382). -/
def State.ringRelease (s : State) (st : RingState) : State := (s.ringAbandon.ringDrive false).enterRing st

/-- No frame of the module's is on the line. -/
def State.ringQuiet (s : State) : Bool := s.ring.east.sending.isNone && s.ring.west.sending.isNone

/-- The ring's share of an extraction (R381): no new local frame starts, the frames on the line end, then nRING_INS is released; a frame ends
well within the 4 µs that it may take, so that the next boundary finds the line quiet. -/
def State.ringExtract (s : State) : State :=
  if s.ring.stays then s
  else if s.ring.state = .extracting then s.ringDrive false
  else
    let u := s.ringAbandon.enterRing .extracting
    if u.ringQuiet then u.ringDrive false else u

/-- The ring is inserted (R379). -/
def State.ringInserted (s : State) : State :=
  ({ s with ring := { s.ring with state := .inserted, attempts := 0, insertBeat := none } }).bump 0x3810 0x0F

/-- Outputs are held safe (R27, R430). -/
def State.ringBarred (s : State) : Bool := s.hier.safeOutputs || s.rst.extractSafe || s.ring.stays

/-- What the ring does at a beat boundary: extraction first (R381, R382), then the enable, then the block's start (R379). -/
def State.ringTick (s : State) : State :=
  let u :=
    if s.ringUp = false then s
    else if s.rst.extractSafe then
      let v := s.ringExtract
      if v.ring.inserted = false ∧ v.ring.state = .extracting ∧ v.ring.ke = false ∧ v.ring.kw = false then
        { v with ring := { v.ring with state := .bypassed, stays := true } }
      else v
    else if s.flag 0x3800 5 = false then
      if s.ring.state = .bypassed then s else { s.ringRelease .bypassed with ring := { (s.ringRelease .bypassed).ring with attempts := 0 } }
    else if s.ring.state = .bypassed ∧ s.ringBarred = false then s.waitSteady else s
  u.settleRingPins

/-- The ring block leaves RUNNING: bypass closes (R376, R382); an insertion counts as a failed attempt; FAILED stays (R379). -/
def State.ringBlockDown (s : State) : State :=
  let failed := s.ring.state == .inserting || s.ring.state == .inserted
  let u := s.ringRelease (if s.ring.state = .failed then .failed else .bypassed)
  let v := u.settleRingPins
  if failed then v.bump 0x3810 0x10 else v

/-! ## Ballast pair (R366) -/

/-- Pair that a substitution replaces: 1 EAST A, 2 EAST B, 3 WEST A, 4 WEST B; of a port's two the one more worn. -/
def State.wornPair (s : State) (cell : Nat) : Nat :=
  let a := s.ageing 0x6044 (3 + 2 * cell) 0
  let b := s.ageing 0x6044 (4 + 2 * cell) 0
  2 * cell + (if a < b then 2 else 1)

/-- A pair substitution starts at its quiet beat: the port goes DOWN and retrains with the ballast transceiver, or without it. -/
def State.startRingSwap (s : State) (q : SwapRequest) : State :=
  let cell := srcCell q.primary
  let d := if cell = 0 then Side.east else Side.west
  ({ s with ring := { s.ring with ballast := if q.back then 0 else s.wornPair cell } }).setRingLink d .down

/-- A retrained port completes the substitution. -/
def State.ringSwapDone (s : State) (d : Side) : State :=
  match s.ringSwapping with
  | some q => if srcCell q.primary = sideNo d then (s.endSwap q true).bump 0x3810 0x12 else s
  | none => s

/-! ## Received frames (R367-R370) -/

/-- Peer-delay, PTP and HSR supervision addresses (R367). -/
def daPeerDelay : Nat := 0x0180C200000E
/-- Peer-delay, PTP and HSR supervision addresses (R367). -/
def daPtp : Nat := 0x011B19000000
/-- Peer-delay, PTP and HSR supervision addresses (R367). -/
def daSupervision : Nat := 0x01154E000100

/-- Forwarded to the other port (R367). -/
def ringForwards (da : Nat) : Bool := da != daPeerDelay && da != Config.ringAddress

/-- Delivered within the module by EtherType (R367). -/
def ringDelivers (da : Nat) : Bool := da == Config.ringAddress || da != daSupervision && bit da 40

/-- Duplicate entries not yet forgotten (R370). -/
def State.liveDuplicates (s : State) : List (Nat × Nat × Nat) :=
  s.ring.duplicates.filter fun e => decide (s.tsc ≤ e.2.2 + s.val 0x3800 0x0D * 1000000)

/-- The pair is in the duplicate table. -/
def State.isDuplicate (s : State) (sa seq : Nat) : Bool := s.liveDuplicates.any fun e => e.1 == sa && e.2.1 == seq

/-- Enter a pair in the duplicate table; when it is full the oldest entry is replaced. -/
def State.noteFrame (s : State) (sa seq : Nat) : State :=
  let l := s.liveDuplicates
  let u := { s with ring := { s.ring with duplicates := ((sa, seq, s.tsc) :: l).take 4096 } }
  if l.length ≥ 4096 then u.bump 0x3810 0x15 else u

/-- Conditions of cut-through at the moment the DA is complete (R368). -/
def State.cutsThrough (s : State) (d : Side) (da : Nat) : Bool :=
  let o := s.ringPort (otherSide d)
  s.flag 0x3800 0x0F && (s.ringPort d).link == .up && o.link == .up && o.sending.isNone && o.transit.isEmpty && ringForwards da
    && da != daPtp

/-- A frame cut through: ended with ABORT where it is the module's own or a duplicate, or was itself ended so; a bad FCS is
complemented (R352, R369). -/
def State.cutThrough (s : State) (d : Side) (f : RingFrame) (dup : Bool) : State :=
  let o := otherSide d
  if dup then (s.emit (.ringFrame o f true)).ringCount d 7
  else if f.aborted then s.emit (.ringFrame o f true)
  else
    let u := (((s.updRing o fun x => { x with sending := some ⟨f, true, true, s.tsc, s.tsc⟩ }).emit (.ringFrame o f false)).ringCount d 1)
    if f.fcsOk then u else u.bump 0x4220 (3 + sideNo d)

/-- Delivery of a frame whose FCS has passed: the neighbour's address, or an EtherType that nothing serves (R367, R370). -/
def State.ringDeliver (s : State) (d : Side) (f : RingFrame) : State :=
  if f.da = daSupervision then (if f.nearest then s.setVal 0x3800 (sideSub d 0x19) f.sa else s)
  else if ringDelivers f.da ∧ f.etherType ≠ s.val 0x3800 2 ∧ f.etherType ≠ 0x88F7 then s.bump 0x3810 0x16 else s

/-- A received frame (R367-R370). PTP and peer-delay messages, requests and announces are handled by commands of their own. -/
def State.ringReceive (s : State) (d : Side) (f : RingFrame) : State :=
  match f.hsrTag with
  | none =>
    if f.da = daPeerDelay then
      (if f.aborted then s.ringCount d 0x13 else if f.fcsOk then s else s.bump 0x4220 (1 + sideNo d))
    else s.ringCount d 0x0B
  | some seq =>
    if f.length > 1528 then s.ringCount d 0x0B
    else
      let own := f.sa == Config.ringAddress
      let exempt := f.da == daPtp || f.da == daPeerDelay
      let dup := !exempt && s.isDuplicate f.sa seq
      let cut := s.cutsThrough d f.da
      let u := if cut then s.cutThrough d f (own || dup) else s
      if f.aborted then u.ringCount d 0x13
      else if f.fcsOk = false then (if cut ∧ f.da ≠ daSupervision ∧ ringDelivers f.da = false then u else u.bump 0x4220 (1 + sideNo d))
      else if own then u
      else if dup then (if cut then u else u.ringCount d 9)
      else
        let v := if exempt then u else u.noteFrame f.sa seq
        let w := if cut = false ∧ ringForwards f.da ∧ f.da ≠ daPtp then v.ringStore d f else v
        w.ringDeliver d f

/-! ## Precision time (R80, R373, R374) -/

/-- Number of a side in 3820.03. -/
def ptpNumber (d : Side) : Nat := 1 + sideNo d

/-- The clock listens on the port with the lower stepsRemoved, on EAST when they are equal (R374). -/
def State.choosePtp (s : State) : State :=
  let n := match s.ring.east.steps, s.ring.west.steps with
    | some a, some b => if b < a then 2 else 1
    | some _, none => 1
    | none, some _ => 2
    | none, none => 0
  { s with ring := { s.ring with ptpPort := n } }

/-- PTP runs in the module's domain. -/
def State.ptpRuns (s : State) (m : PtpMessage) : Bool := s.val 0x1200 0x0F != 0 && m.domain == s.val 0x1200 0x0E

/-- Send a PTP message on a port that is UP. -/
def State.sendPtp (s : State) (d : Side) (m : PtpMessage) : State := if (s.ringPort d).link = .up then s.emit (.ptp d m) else s

/-- Longest residence of a Sync: 3 µs and the time of a frame of 1,528 bytes (R363, R373). -/
def residenceBound : Nat := 5548

/-- A PTP message (R373, R374); one of the module's own that has come round the ring is removed (R369). -/
def State.ptpReceive (s : State) (d : Side) (m : PtpMessage) : State :=
  if m.own then s else
  let o := otherSide d
  let mine := s.ptpRuns m
  match m.kind with
  | .sync =>
    let r := s.fresh
    let u := if mine then s.updRing d fun x => { x with syncAt := s.tsc } else s
    let v := { u with free := r.2.free }
    (v.updRing d fun x => { x with residence := some (m.sequence, r.1 % (residenceBound + 1)) }).sendPtp o m
  | .followUp =>
    match (s.ringPort d).residence with
    | some (n, t) =>
      if n = m.sequence then
        (s.updRing d fun x => { x with residence := none }).sendPtp o
          { m with correction := m.correction + (t : Int) + signed 64 (s.val 0x3820 (ptpNumber d)) }
      else s.sendPtp o m
    | none => s.sendPtp o m
  | .announce =>
    let u := if mine ∧ m.bestMaster then (s.updRing d fun x => { x with steps := some m.stepsRemoved, syncAt := s.tsc }).choosePtp else s
    u.sendPtp o m
  | .pdelayReq =>
    (s.sendPtp d { m with kind := .pdelayResp, requestReceived := s.tsc, correction := 0, own := true }).sendPtp d
      { m with kind := .pdelayRespFollowUp, origin := s.tsc, correction := 0, own := true }
  | .pdelayResp => s.updRing d fun x => { x with response := some (m.sequence, m.requestReceived, s.tsc) }
  | .pdelayRespFollowUp =>
    match (s.ringPort d).response with
    | some (n, t2, t4) =>
      if n = m.sequence then
        let x := s.ringPort d
        let delay : Int := (((t4 : Int) - (x.pdelayAt : Int)) - ((m.origin : Int) - (t2 : Int)) - m.correction) / 2
        (s.setRingPort d { x with response := none }).setVal 0x3820 (ptpNumber d) (unsigned 64 delay)
      else s
    | none => s
  | .other => s.sendPtp o m

/-- A message of the module's own; an Announce carries clockClass 248 (R80). -/
def ptpOwn (kind : PtpKind) (domain seq origin priority1 : Nat) : PtpMessage :=
  { kind := kind, domain := domain, sequence := seq, origin := origin, requestReceived := 0, correction := 0, stepsRemoved := 0,
    bestMaster := false, priority1 := if kind = .announce then priority1 else 0, clockClass := if kind = .announce then 248 else 0, own := true }

/-- The 1 s interval (R373, R80): Pdelay_Req on each port; Sync, Follow_Up and Announce where it is master. -/
def State.ptpInterval (s : State) : State :=
  let n := s.ring.ptpSequence
  let dom := s.val 0x1200 0x0E
  let master := s.val 0x1200 0x0F == 2 && s.ring.east.steps.isNone && s.ring.west.steps.isNone
  let u := { s with ring := { s.ring with ptpSequence := (n + 1) % 65536 } }
  u.each [Side.east, Side.west] fun v d =>
    let w := (v.updRing d fun x => { x with pdelayAt := v.tsc }).sendPtp d (ptpOwn .pdelayReq dom n v.tsc 0)
    if master then
      ((w.sendPtp d (ptpOwn .sync dom n v.tsc 0)).sendPtp d (ptpOwn .followUp dom n v.tsc 0)).sendPtp d
        (ptpOwn .announce dom n v.tsc (s.val 0x1200 0x10))
    else w

end Sys2Proof.Machine
end

