-- ==== Sys2Proof/Machine/SensingOps.lean ====
section
/-! DEFINITION. The sensing front end (R386-R407): pins, generators, curves, results, threshold switches, analogue outputs, binary
inputs. -/

namespace Sys2Proof.Machine

/-- The sensing block is RUNNING. -/
def State.sensingUp (s : State) : Bool := (s.block 4 3).state == .running

/-- A channel setting in force. -/
def State.chan (s : State) (m sub : Nat) : Nat := s.val (0x5100 + m) sub

/-- A generator setting in force. -/
def State.genv (s : State) (x sub : Nat) : Nat := s.val (0x5180 + x) sub

/-- A switch setting in force. -/
def State.swv (s : State) (n sub : Nat) : Nat := s.val (0x5300 + n) sub

/-- An analogue-output setting in force. -/
def State.aov (s : State) (a sub : Nat) : Nat := s.val (0x5400 + a) sub

/-- The channel is enabled and its block runs. -/
def State.chanOn (s : State) (m : Nat) : Bool := s.sensingUp && s.chan m 1 == 1

/-- Source number of a channel. -/
def srcChannel (m : Nat) : Nat := srcOf 4 3 m

/-! ## Pins (R390) -/

/-- Role and owner of a pin. -/
def State.pinRole (s : State) (n : Nat) : Nat × Nat := (s.val 0x5000 (n + 1) / 4096, s.val 0x5000 (n + 1) % 8)

/-- Pins with a role in a range and an owner, as a bitmap. -/
def State.pinsOf (s : State) (lo hi owner : Nat) : Nat :=
  ((List.range 32).filter fun n => let r := s.pinRole n; decide (lo ≤ r.1) && decide (r.1 ≤ hi) && r.2 == owner).foldl
    (fun a n => a + 2 ^ n) 0

/-- The channel refers to its generator (R388). -/
def State.usesGen (s : State) (m : Nat) : Bool := s.chan m 4 != 0

/-- Pins of a channel and of the generator it uses. -/
def State.chanPins (s : State) (m : Nat) : Nat := Nat.lor (s.pinsOf 1 3 m) (if s.usesGen m then s.pinsOf 4 7 (s.chan m 5) else 0)

/-- A break of another channel's, on a lead of the generator in use, breaks the channel too (R399). -/
def State.chanBroken (s : State) (m : Nat) : Bool :=
  (s.channel m).broken || s.usesGen m && (List.range 8).any fun k =>
    (s.channel k).broken && Nat.land (s.channel k).pins (s.pinsOf 4 7 (s.chan m 5)) != 0

/-- Pins in a declared break (5001.03). -/
def State.leadBreaks (s : State) : Nat := (List.range 8).foldl (fun a k => if (s.channel k).broken then Nat.lor a (s.channel k).pins else a) 0

/-! ## Times (R386, R393, R398) -/

/-- Output rate of a code in results per second (R385). -/
def outputRate (code : Nat) : Nat := [10, 20, 50, 100, 200, 500, 1000, 2000, 4000][code]?.getD 10

/-- Conversion period in ns. -/
def State.period (s : State) (m : Nat) : Nat := 1000000000 / outputRate (s.chan m 3)

/-- Settle time of a generator in ns (R393). -/
def State.genSettle (s : State) (x : Nat) : Nat :=
  if s.genv x 1 = 2 then max 1000000 (10000000000 / max 1 (s.genv x 2)) else 1000000

/-- Restart a channel (R398). -/
def State.restartChannel (s : State) (m : Nat) (excitation : Bool) : State :=
  (s.setChannel m { s.channel m with
    restartAt := s.tsc, settle := (if excitation then s.genSettle (s.chan m 5) else 0) + s.chan m 0x0D * 1000000, enabled := true }).bump
    (0x5100 + m) 0x18

/-- The window of a value that ends now began before the settling time was over (R398). -/
def State.settling (s : State) (m : Nat) : Bool :=
  decide (s.tsc < (s.channel m).restartAt + (s.channel m).settle + s.period m)

/-! ## The measurement chain (R386-R389) -/

/-- Samples of a conversion period (R385, R386). -/
def State.windowLength (s : State) (m : Nat) : Nat := 64000 / outputRate (s.chan m 3)

/-- The channel's reference is a sine generator (R387). -/
def State.usesSine (s : State) (m : Nat) : Bool := s.usesGen m && s.genv (s.chan m 5) 1 == 2

/-- An angle in degrees as 2^-32 turns. -/
def degreeTurns (deg : Frac) : Nat := (deg.num * 2 ^ 32 / (360 * deg.den : Nat) % 2 ^ 32).toNat

/-- What the samples of a window are multiplied by, in units of 2^-60 (R387): with a sine generator its own phase, shifted by the demodulation
phase, in the second part and the quadrature in the first; otherwise 1 and 0. -/
def State.windowWeights (s : State) (m phase : Nat) : List Cplx :=
  let shift := degreeTurns (f32ToFrac (s.chan m 0x0C))
  (List.range (s.windowLength m)).map fun i =>
    if s.usesSine m then turn ((phase + shift + s.genv (s.chan m 5) 2 * i * 2 ^ 32 / 64000) % 2 ^ 32) (2 ^ 32) else (0, 2 ^ 60)

/-- Sum of products. -/
def weigh (l w : List Int) : Int := ((l.zip w).map fun e => e.1 * e.2).foldl (· + ·) 0

/-- Effective value of a channel's calibrated quantity (R69, R389). -/
def State.chanCal (s : State) (m q : Nat) : Frac :=
  f32ToFrac (f32Calibrate (finiteF32 (Config.channelFactory m q)) (s.chan m (0x21 + q)) (s.chan m (0x23 + q)))

/-- A filtered input in nV·2^-60, `gain` the sum of its weights, after calibration: the offset subtracted, the gain error divided out (R389). -/
def State.calibrated (s : State) (m : Nat) (sum gain : Int) : Frac :=
  ((Frac.ofInt sum).sub ((s.chanCal m 2).mul (Frac.ofInt (1000 * gain)))).div (s.chanCal m 1)

/-- The filtered reference lies below its least value (R397): 10 mV sensed, 10 µA of current; of a sine by its peak (log 70). -/
def State.referenceBelow (s : State) (m : Nat) (r q : Int) : Bool :=
  let limit : Int := (if s.chan m 4 = 1 then 10 ^ 7 else 10 ^ 4) * (s.windowLength m : Int) * 2 ^ 60
  s.usesGen m && decide ((if s.usesSine m then 4 else 1) * (r * r + q * q) < limit * limit)

/-- What the samples of a window give (R386-R389): the calibrated and filtered input over the filtered reference, in V, V/V or Ω, with its
quadrature and the conditions of R397. Without the samples of the whole window the operand says them (log 70). -/
def State.windowSample (s : State) (m : Nat) (x : ChannelSample) : ChannelSample :=
  if x.samples.length ≠ s.windowLength m then x
  else
    let w := s.windowWeights m x.phase
    let inp := x.samples.map Prod.fst
    let ref := x.samples.map Prod.snd
    let r := weigh ref (w.map Prod.snd)
    let divisor : Frac := Frac.ofInt (if s.usesGen m then r else (s.windowLength m : Int) * 2 ^ 60 * 10 ^ 9)
    let part : (Cplx → Int) → Nat := fun f =>
      fracToF32 ((s.calibrated m (weigh inp (w.map f)) ((w.map f).foldl (· + ·) 0)).div divisor)
    { x with
      quantity := part Prod.snd, quadrature := if s.usesSine m then part Prod.fst else 0
      overrange := inp.any fun v => decide (98 * 10 ^ 10 < 100 * v.natAbs * 2 ^ s.chan m 2)
      referenceLow := s.referenceBelow m r (weigh ref (w.map Prod.fst)) }

/-! ## Generators (R393) -/

/-- A generator. -/
def State.gen (s : State) (x : Nat) : Generator := Table.get {} s.sensing.generators x

/-- Write a generator. -/
def State.setGen (s : State) (x : Nat) (g : Generator) : State :=
  { s with sensing := { s.sensing with generators := Table.put {} s.sensing.generators x g } }

/-- Channels that use a generator. -/
def State.genUsers (s : State) (x : Nat) : List Nat := (List.range 8).filter fun m => s.chanOn m && s.usesGen m && s.chan m 5 == x

/-- Start a generator's ramp, or switch it off where its mode or its block asks for it. -/
def State.rampGen (s : State) (x : Nat) : State :=
  s.setGen x (if s.genv x 1 = 0 ∨ s.sensingUp = false ∨ s.outputsSafe then {} else { state := 1, at_ := s.tsc })

/-! ## Curves (R389, R394, R396) -/

/-- A point of a user curve's table. -/
def curvePoint (tab : Bytes) (i : Nat) : Frac × Frac := (f32ToFrac (beAt tab (8 * i) 4), f32ToFrac (beAt tab (8 * i + 4) 4))

/-- Piecewise linear value; none outside the first and last point. -/
def piecewise (tab : Bytes) (n : Nat) (x : Frac) : Option Frac :=
  match (List.range (n - 1)).find? fun i => (curvePoint tab i).1.le x && x.le (curvePoint tab (i + 1)).1 with
  | some i =>
    let a := curvePoint tab i
    let b := curvePoint tab (i + 1)
    some (a.2.add (((b.2.sub a.2).mul (x.sub a.1)).div (b.1.sub a.1)))
  | none => none

/-- Output range of a factory curve (R394); none where it is unlimited. -/
def curveRange (n : Nat) : Option (Int × Int) :=
  if n = 1 ∨ n = 2 then some (-200, 850) else if n = 3 then some (-80, 260) else if n = 4 then some (-100, 260)
  else if n = 5 then some (-270, 1372) else if n = 6 then some (-210, 1200) else if n = 7 then some (-270, 400)
  else if n = 8 then some (-2, 2) else if n = 9 then some (-500, 500) else none

/-- The value lies outside a range. -/
def outside (r : Option (Int × Int)) (y : Frac) : Bool :=
  match r with
  | some (a, b) => y.lt (Frac.ofInt a) || (Frac.ofInt b).lt y
  | none => false

/-- Curve output and whether it leaves its range: tables of the standards and the manufacturer come with the sample; a user curve
gives no value outside its points (log 6). -/
def State.curve (s : State) (n : Nat) (x : ChannelSample) : Frac × Bool × State :=
  let q := f32ToFrac x.quantity
  if n = 0 then (q, false, s)
  else if n = 8 then (q, outside (curveRange 8) q, s)
  else if n = 9 then (let y := q.mul (Frac.ofInt 1000); (y, outside (curveRange 9) y, s))
  else if n < 10 then (let y := f32ToFrac x.curveOutput; (y, outside (curveRange n) y, s))
  else match piecewise (s.raw (keyOf (0x5200 + n) 4)) (s.val (0x5200 + n) 3) q with
  | some y => (y, false, s)
  | none => (f32ToFrac (s.fresh.1 % 2 ^ 31), true, s.fresh.2)

/-! ## Threshold switches (R400-R403) -/

/-- A switch. -/
def State.switch (s : State) (n : Nat) : Switch := Table.get {} s.sensing.switches n

/-- Write a switch. -/
def State.setSwitch (s : State) (n : Nat) (x : Switch) : State :=
  { s with sensing := { s.sensing with switches := Table.put {} s.sensing.switches n x } }

/-- The comparison of R400; between the thresholds the state stays. -/
def compareSwitch (mode : Nat) (u l h y : Frac) (on : Bool) : Bool :=
  if mode = 0 then (if u.lt y then true else if y.lt (u.sub h) then false else on)
  else if mode = 1 then (if y.lt l then true else if (l.add h).lt y then false else on)
  else if mode = 2 then (if l.le y && y.le u then true else if (u.add h).lt y || y.lt (l.sub h) then false else on)
  else (if u.lt y || y.lt l then true else if (l.add h).le y && y.le (u.sub h) then false else on)

/-- Fail-state with HOLD as off: 1 is on. -/
def State.failOff (s : State) (n : Nat) : Bool := s.swv n 7 == 1

/-- A switch changes to a state: turn-ons count. -/
def State.turnSwitch (s : State) (n : Nat) (x : Switch) : State :=
  let old := s.switch n
  let u := s.setSwitch n x
  if old.on = false ∧ x.on then u.bump (0x5300 + n) 0x0A else u

/-- A fast value with its status reaches a switch (R401). Until its source's first VALID value it holds. -/
def State.applySwitch (s : State) (n value status : Nat) : State :=
  let x := s.switch n
  if x.enabled = false then s
  else if status = 0 then
    let on := compareSwitch (s.swv n 3) (f32ToFrac (s.swv n 4)) (f32ToFrac (s.swv n 5)) (f32ToFrac (s.swv n 6)) (f32ToFrac value) x.on
    s.turnSwitch n { x with on := on, inFail := false, fresh := false }
  else if status = 1 ∨ x.fresh ∨ x.inFail then s
  else
    let f := s.swv n 7
    (s.turnSwitch n { x with on := if f = 2 then x.on else f == 1, inFail := true }).bump (0x5300 + n) 0x0B

/-- Every switch of a channel takes a status that is not VALID. -/
def State.failSwitches (s : State) (m status : Nat) : State :=
  s.each ((List.range 16).filter fun n => s.swv n 2 == m) fun u n => u.applySwitch n 0 status

/-- Put a switch to its fail-state, HOLD counting as off, until its source gives a VALID value (R401); this is no entry that counts (log 70). -/
def State.armSwitch (s : State) (n : Nat) : State :=
  s.setSwitch n (if s.swv n 1 = 1 then { on := s.failOff n, inFail := true, fresh := true, enabled := true } else {})

/-! ## Status (R397) -/

/-- What the module itself knows of a channel's status: off, broken leads, generator in FAULT. -/
def State.chanStatus (s : State) (m : Nat) : Nat :=
  if s.chanOn m = false then 7
  else if s.chanBroken m then 6
  else if s.usesGen m && (s.gen (s.chan m 5)).state == 3 then 5 else 0

/-- Status of the latest result as 5100.11 reads it. -/
def State.resultStatus (s : State) (m : Nat) : Nat := if s.chanOn m then s.chan m 0x11 else 7

/-- The cold junction's channel gives no VALID result (R395). -/
def State.coldBad (s : State) (m : Nat) : Bool :=
  let c := s.chan m 6
  let v := s.chan m 7
  decide (5 ≤ c) && decide (c ≤ 7) && decide (1 ≤ v) && decide (v ≤ 8) && s.resultStatus (v - 1) != 0

/-- Status of a result: the highest code that applies. -/
def State.statusOf (s : State) (m : Nat) (x : ChannelSample) (past : Bool) : Nat :=
  let st := s.chanStatus m
  if 5 ≤ st then st
  else if Nat.land x.clampedPins (s.chanPins m) ≠ 0 then 4
  else if (s.usesGen m && x.referenceLow) || s.coldBad m then 3
  else if past || x.overrange then 2
  else if s.settling m then 1 else 0

/-! ## Analogue outputs (R404, R405) -/

/-- An analogue output. -/
def State.analog (s : State) (a : Nat) : AnalogOut := Table.get {} s.sensing.outputs a

/-- Write an analogue output. -/
def State.setAnalog (s : State) (a : Nat) (x : AnalogOut) : State :=
  { s with sensing := { s.sensing with outputs := Table.put {} s.sensing.outputs a x } }

/-- The output may be connected at all. -/
def State.analogLive (s : State) (a : Nat) : Bool := s.sensingUp && s.aov a 1 == 1 && !s.outputsSafe

/-- Limit a fraction to 0-1, with whether it reaches a limit. -/
def limitFraction (q : Frac) : Frac × Bool :=
  if q.le (Frac.ofInt 0) then (Frac.ofInt 0, true) else if (Frac.ofInt 1).le q then (Frac.ofInt 1, true) else (q, false)

/-- Code of an output's DAC for a fraction (R404): round(65,535·φ) after calibration, the gain error divided out and the offset in LSB subtracted
(log 70). -/
def State.dacCode (s : State) (a : Nat) (q : Frac) : Nat :=
  let cal := fun (n : Nat) => f32ToFrac (f32Calibrate (finiteF32 (Config.outputFactory a n)) (s.aov a (0x21 + n)) (s.aov a (0x23 + n)))
  let v := ((q.mul (Frac.ofInt 65535)).div (cal 1)).sub (cal 2)
  min 65535 ((2 * v.num + v.den) / (2 * v.den : Nat)).toNat

/-- Drive an output from a result. -/
def State.driveAnalog (s : State) (a : Nat) (y : Frac) : State :=
  let y0 := f32ToFrac (s.aov a 3)
  let y100 := f32ToFrac (s.aov a 4)
  let r := limitFraction ((y.sub y0).div (y100.sub y0))
  s.setAnalog a { connected := true, atLimit := r.2, failing := false, fraction := fracToF32 r.1, code := s.dacCode a r.1 }

/-- The fail action of an output (R405). -/
def State.failAnalog (s : State) (a : Nat) : State :=
  let x := s.analog a
  let act := s.aov a 5
  s.setAnalog a
    (if act = 0 then { x with connected := false, failing := true }
    else if act = 1 then { x with failing := true }
    else { connected := true, atLimit := true, failing := true, fraction := if act = 2 then 0 else 0x3F800000
           code := s.dacCode a (Frac.ofInt (if act = 2 then 0 else 1)) })

/-- An output takes a result of its source channel with its status. -/
def State.applyAnalog (s : State) (a : Nat) (value status : Nat) : State :=
  if s.analogLive a = false then s.setAnalog a {}
  else if status = 1 then s
  else if status = 0 ∧ 2000 ≤ s.sensing.vref then s.driveAnalog a (f32ToFrac value)
  else s.failAnalog a

/-- An output follows its source's latest result, or is disconnected. -/
def State.settleAnalog (s : State) (a : Nat) : State := s.applyAnalog a (s.chan (s.aov a 2) 0x10) (s.resultStatus (s.aov a 2))

/-! ## Following commits and releases -/

/-- Everything a restart of a channel depends on (R398): gain, rate, reference mode, generator, pins, and of the generator mode,
frequency, amplitude and pins. -/
def State.chanKey (s : State) (m : Nat) : List Nat × List Nat :=
  let x := s.chan m 5
  ([s.chan m 2, s.chan m 3, s.chan m 4, x, s.pinsOf 1 1 m, s.pinsOf 2 2 m, s.pinsOf 3 3 m],
   if s.usesGen m then [s.genv x 1, s.genv x 2, s.genv x 3, s.pinsOf 4 4 x, s.pinsOf 5 5 x, s.pinsOf 6 6 x, s.pinsOf 7 7 x] else [])

/-- What a generator's ramp depends on. -/
def State.genKey (s : State) (x : Nat) : List Nat := [s.genv x 1, s.genv x 2, s.genv x 3, s.pinsOf 4 4 x, s.pinsOf 5 5 x, s.pinsOf 6 6 x, s.pinsOf 7 7 x]

/-- A channel after a change of configuration. -/
def State.settleChannel (s old : State) (m : Nat) : State :=
  if s.chanOn m = false then s.setChannel m {}
  else if (s.channel m).enabled = false then
    s.setChannel m { restartAt := s.tsc, settle := (if s.usesGen m then s.genSettle (s.chan m 5) else 0) + s.chan m 0x0D * 1000000,
                     enabled := true }
  else if s.chanKey m = old.chanKey m then s
  else s.restartChannel m ((s.chanKey m).2 != (old.chanKey m).2)

/-- A switch after a change of configuration: one newly enabled is armed, a change of source waits for a VALID value (R403). -/
def State.settleSwitch (s old : State) (n : Nat) : State :=
  let x := s.switch n
  if s.swv n 1 = 0 then s.setSwitch n {}
  else if x.enabled = false then s.armSwitch n
  else if s.swv n 2 ≠ old.swv n 2 then s.setSwitch n { x with fresh := true } else s

/-- The front end after a change of configuration; `old` is the state before it (R392, R398, R403, R405). -/
def State.settleSensing (s old : State) : State :=
  if s.sensingUp = false then s
  else
    let u := s.each (List.range 4) fun v x => if v.genKey x = old.genKey x ∧ ((v.gen x).state ≠ 0 ∨ v.genv x 1 = 0) then v else v.rampGen x
    let u := u.each (List.range 8) fun v m => v.settleChannel old m
    let u := u.each (List.range 16) fun v n => v.settleSwitch old n
    u.each (List.range 4) fun v a => if v.analogLive a = false ∨ (v.analog a).connected = false ∧ (v.analog a).failing = false then v.settleAnalog a else v

/-- The block leaves RUNNING or is released: channels begin anew, generators are off or ramp, switches hold their fail-states, outputs
are disconnected (R393, R401, R405). -/
def State.startSensing (s : State) : State :=
  let u := { s with sensing := { s.sensing with channels := [], generators := [], outputs := [] } }
  let u := u.each (List.range 4) State.rampGen
  let u := u.each (List.range 8) fun v m => v.settleChannel v m
  (u.each (List.range 16) State.armSwitch).settleCommand

end Sys2Proof.Machine
end

