-- ==== Sys2Proof/Machine/BlockOps.lean ====
section
/-! DEFINITION. Blocks that leave and enter service (R23-R32, R413-R418, R444): what each block gives back when it stops, block resets,
releases, domains that lose power or clock, and the function-level reset. -/

namespace Sys2Proof.Machine

/-! ## Functions (R52, R344, R356, R418) -/

/-- A page after a function-level reset: rings, mailbox, cipher page and contexts cleared; a request in hand runs on and its response
is discarded, an accepted key command completes, the event mailbox is not touched (R451). -/
def Page.cleared (x : Page) : Page :=
  { busy := x.busy, req := x.req, discard := x.busy, keyBusy := x.keyBusy, evtEnable := x.evtEnable, minSev := x.minSev,
    evtVector := x.evtVector, evtIrqEn := x.evtIrqEn, evtOverflow := x.evtOverflow, evtLost := x.evtLost, evtFifo := x.evtFifo }

/-- Clear a function (R418): its jobs and check parts end without a completion. -/
def State.clearFunction (s : State) (f : Nat) : State :=
  let u := s.setPage f (s.page f).cleared
  { u with
    cipher := { u.cipher with jobs := u.cipher.jobs.filter fun e => e.2.page != f }
    checkParts := u.checkParts.filter fun x => x.page != f }

/-- The event mailbox of a function at its reset values. -/
def State.clearEvents (s : State) (f : Nat) : State :=
  s.setPage f { s.page f with
    evtEnable := false, minSev := 3, evtVector := 0, evtIrqEn := false, evtOverflow := false, evtLost := 0, evtFifo := [] }

/-- In-flight items of a function come back before its host port is reset (R23): fetched descriptors, cipher jobs and check parts complete with
BLOCK_RESET; packets that wait for a receive buffer are returned. -/
def State.returnFunction (s : State) (f : Nat) : State :=
  let u := s.each (s.page f).txWait fun u d => (u.postTxc f d.tag stBlockReset 0 0 0).consumeTx f
  let u := u.each (u.cipher.jobs.filter fun e => e.2.page == f) fun u e => u.failJob e.1 e.2 stBlockReset
  let u := u.each (u.checkParts.filter fun x => x.page == f) fun u x => u.failCheck x stBlockReset
  let n := (u.page f).rxWait.length
  if n = 0 then u else u.returnItem (srcOf 4 (1 + f / 32) (f % 32)) stBlockReset n

/-- A host port is reset: all its functions, their items returned. -/
def State.clearHostPort (s : State) (first : Nat) : State :=
  s.each ((List.range 32).map (first + ·)) fun u f => ((u.returnFunction f).clearFunction f).clearEvents f

/-! ## What a block gives back when it stops (R23, R28) -/

/-- A port stops: a substitution under way ends where it stands, the port goes OFF with every line released (R29, R419), and what it
had measured is lost; contact sense follows the contacts. -/
def State.stopPort (s : State) (p : Nat) : State :=
  let x := s.port p
  let before := x.state == .swapping && (x.step == .drain || x.step == .opening || x.step == .matrix)
  let u := match s.swapOf p with
    | some q => if before || (s.port p).matrixDue then s.endSwap q false else s.swapDone p
    | none => s
  let v := u.portPolicy p
  v.updPort p fun y =>
    { mutedNb := y.mutedNb, mutedBb := y.mutedBb, matrix := { y.matrix with command := false, beat := s.beat }
      relayNb := { y.relayNb with command := false, beat := s.beat }, relayBb := { y.relayBb with command := false, beat := s.beat }
      retries := v.pval p 0x2000 5 }

/-- A cluster stops: descriptors that wait for it complete with BLOCK_RESET, and the relay and mesh frames of its ports are returned. -/
def State.stopCluster (s : State) (b : Nat) : State :=
  let mine : Nat → Bool := fun p => p % clusterCount s.variant == b
  let u := s.each (s.pages.map Prod.fst) fun u f =>
    let l := (u.page f).txWait
    let gone : TxDesc → Bool := fun d => u.servingCluster d == b
    (u.setPage f { u.page f with txWait := l.filter fun d => !gone d }).each (l.filter gone) fun v d =>
      (v.postTxc f d.tag stBlockReset 0 0 0).consumeTx f
  let lanes := u.allLanes.filter fun pl => mine pl.1
  let count := lanes.foldl (fun a pl => a + (u.lane pl.1 pl.2).tx.relays.length + (u.lane pl.1 pl.2).tx.mesh.length) 0
  let v := u.each lanes fun v pl => v.setTx pl.1 pl.2 { (v.lane pl.1 pl.2).tx with relays := [], mesh := [] }
  if count = 0 then v else v.returnItem (srcBlock 2 b) stBlockReset count

/-- The spool store stops: every packet completes with BLOCK_RESET. -/
def State.stopSpools (s : State) : State := s.each (s.spools.table.map Prod.fst) fun u k => u.emptySpool k stBlockReset

/-- The coding pool stops: codewords granted or waiting are returned. -/
def State.stopPool (s : State) : State :=
  let n := s.hier.grants.length + s.hier.waiting.length
  let u := { s with hier := { s.hier with grants := [], waiting := [] } }
  if n = 0 then u else u.returnItem (srcBlock 2 18) stBlockReset n

/-- The cipher engine stops: every job completes with BLOCK_RESET, and contexts close. -/
def State.stopCipher (s : State) : State :=
  let u := s.each s.cipher.jobs fun u e => u.failJob e.1 e.2 stBlockReset
  let v := u.each (u.pages.map Prod.fst) fun v f => v.setPage f { v.page f with ctxs := [] }
  { v with cipher := { v.cipher with testing := [], leaving := [], passed := [], resubmit := [], mismatches := [] } }

/-- The key store stops: key commands that wait are answered with BLOCK_RESET. -/
def State.stopKeys (s : State) : State :=
  let u := match s.cipher.erasing with
    | some f => { s with cipher := { s.cipher with erasing := none } }.keyDone f 0
    | none => s
  let l := u.cipher.waiting
  ({ u with cipher := { u.cipher with waiting := [] } }).each l fun v q => v.keyDone q.page stBlockReset

/-- The check units stop: every part completes with BLOCK_RESET; contexts keep the values from before (R356). -/
def State.stopChecks (s : State) : State := s.each s.checkParts fun u x => u.failCheck x stBlockReset

/-- Trip and contact I/O stops: outputs off, inputs unknown until filtered again (R420). -/
def State.stopTrip (s : State) : State := { s with trip := { s.trip with biState := 0, biSettled := 0 } }.settleCommand

/-- The tether block stops: the mains PLL and its inputs begin anew; the timebase and its counters run on (R415). -/
def State.stopTether (s : State) : State := { s with tether := { cycle := s.tether.cycle, slotCount := s.tether.slotCount } }

/-- A block that is no longer RUNNING returns its in-flight items and lets go of its outputs. -/
def State.stopBlock (s : State) (r b : Nat) : State :=
  if r = 1 then (if s.hasPort b then s.stopPort b else s)
  else if r = 2 ∧ b < 16 then s.stopCluster b
  else if r = 2 ∧ b = 17 then s.stopSpools
  else if r = 2 ∧ b = 18 then s.stopPool
  else if r = 3 ∧ b = 0 then s.stopCipher
  else if r = 3 ∧ b = 1 then s.stopKeys
  else if r = 3 ∧ b = 2 then s.stopChecks
  else if r = 4 ∧ b = 0 then s.ringBlockDown
  else if r = 4 ∧ b = 1 then s.clearHostPort 0
  else if r = 4 ∧ b = 2 then s.clearHostPort 32
  else if r = 4 ∧ b = 3 then s.startSensing
  else if r = 4 ∧ b = 4 then s.stopTrip
  else if r = 5 ∧ b = 2 then s.stopTether else s

/-- Take a block to a state in which it does not run, its items returned; a region that was resetting it is free again. -/
def State.blockDown (s : State) (r b : Nat) (st : BlockState) : State :=
  let x := s.block r b
  if x.state = .held then s
  else
    let up := x.state == .running || x.state == .idleReq
    let u := s.setBlock r b { state := st, withdrawn := x.withdrawn, resets := x.resets, occupancy := x.occupancy }
    let n := x.openItems.length + x.queue.length
    let u := if n = 0 then u else u.returnItem (srcBlock r b) stBlockReset n
    let u := u.dropTransfers r b
    let u := if up then u.stopBlock r b else u
    let u := { u with hier := { u.hier with queue := u.hier.queue.filter fun q => !(q.region == r && q.block == b) } }
    if Table.get 0 u.hier.busy r = b + 1 ∧ st ≠ .reset then u.regionNext r else u

/-! ## Block reset (R23, R25, R29, R417) -/

/-- Resets of a block within the window that ends now (R25); a reset exactly 1010.04 seconds old still counts (DESIGN CHOICE, log 48). -/
def State.recentResets (s : State) (l : List Nat) : List Nat := l.filter fun a => decide (s.tsc ≤ a + s.val 0x1010 4 * 1000000000)

/-- Steps 3 and 4 of the idle handshake: items returned, the block reset, counted and logged; at the limit it is held. -/
def State.blockReset (s : State) (r b : Nat) : State :=
  let u := s.blockDown r b .reset
  let l := u.tsc :: u.recentResets (u.block r b).resets
  let u := (u.setBlock r b { u.block r b with resets := l }).bump 0x1011 r
  let u := u.event (srcBlock r b) 0x0204 sevAlarm (toBE 4 (u.val 0x1011 r))
  if u.val 0x1010 3 ≤ l.length then (u.holdBlock r b).regionNext r else u

/-! ## Release (R29, R30, R413, R415, R444) -/

/-- A domain is released; with D01 the boot duration begins, and an extraction still asked for starts anew (R430, 1100.05). -/
def State.domainOn (s : State) (d : Nat) : State :=
  let u := s.setDomain d { s.domain d with state := .on }
  if d = 1 then { u with rst := { u.rst with d01At := u.tsc, extractAt := u.rst.extractAt.map fun _ => u.tsc } } else u

/-- A domain without blocks that may be released is ON as soon as its clock is good. -/
def State.settleEmptyDomain (s : State) (d : Nat) : State :=
  if (s.domain d).state = .reset ∧ s.domainBlocks d = [] ∧ s.mayRelease d then s.domainOn d else s

/-- The release order goes on: domains without blocks, then power to the next step; a warm reset is over when every step is settled. -/
def State.nextRelease (s : State) : State :=
  let u := s.each (List.range 30) fun u d => u.settleEmptyDomain d
  let u := u.advanceRelease
  match u.rst.sequence with
  | some q => if q.kind = 3 ∧ (releaseSteps u.variant)[u.currentStep]? = none then { u with rst := { u.rst with sequence := none } } else u
  | none => u

/-- Units whose place a released block's parts have (R444): substitutions on record take effect from the start. -/
def State.restoreUnits (s : State) (r b : Nat) : State :=
  s.each s.rst.backup.substitutions fun u e =>
    let src := e.2 % 65536
    if srcRegion src = r ∧ srcBlk src = b ∧ (u.unit e.1).state = 0 then
      u.setUnit e.1 { state := 3, reason := e.2 / 0x10000, primary := src } else u

/-- A port that a ballast AFE serves begins on it. -/
def State.restorePort (s : State) (p : Nat) : State :=
  match s.unitServing (srcBlock 1 p) with
  | some u =>
    if (s.unit u).state = 3 ∧ s.outputsSafe = false then
      s.updPort p fun x => { x with ballastAfe := 36 + u, swapTo := 36 + u, calAfe := 36 + u, calibrate := true, matrix := { x.matrix with command := true, beat := s.beat } }
    else s
  | none => s

/-- What a block does as it begins to run. -/
def State.beginBlock (s : State) (r b : Nat) : State :=
  if r = 1 then (if s.hasPort b then ((s.restorePort b).reloadRetries b).portPolicy b else s)
  else if r = 4 ∧ b = 0 then
    let u := s.settleRingPins
    if (u.unit 21).state = 3 then { u with ring := { u.ring with ballast := u.wornPair (srcCell (u.unit 21).primary) } } else u
  else if r = 4 ∧ b = 3 then s.startSensing
  else if r = 4 ∧ b = 4 then { s with trip := { s.trip with releasedAt := s.tsc } }.settleCommand
  else if r = 5 ∧ b = 2 ∧ s.tether.slotAt = 0 then { s with tether := { s.tether with slotAt := s.tsc, slotZero := s.tsc } } else s

/-- Cells that failed the self-test of a release are contained anew in order of their numbers (R31), as primaries whose self-test has failed
(R443, R444). -/
def State.failSelfTest (s : State) (r b : Nat) (failed : List Nat) : State :=
  s.each ((List.range 64).filter failed.contains) fun u c =>
    let v := { u with sup := { u.sup with selfTestFailed := primaryOf (srcOf r b c) :: u.sup.selfTestFailed } }
    v.contain (srcOf r b c)

/-- A block in RESET is released with the values in force (R29, R30); its domain is released with it where it was in reset. -/
def State.releaseBlock (s : State) (r b : Nat) (failed : List Nat) : State :=
  let d := domainOf r b
  if (s.block r b).state ≠ .reset then s
  else if (s.domain d).state = .on ∨ ((s.domain d).state = .reset ∧ s.mayRelease d) then
    let u := (if (s.domain d).state = .on then s else s.domainOn d).loadDeferred r b
    let x := u.block r b
    let u := u.setBlock r b { state := .running, resets := x.resets, occupancy := x.occupancy }
    let u := { u with sup := { u.sup with
      selfTestFailed := u.sup.selfTestFailed.filter fun (c : Nat) => !(srcRegion c == r && srcBlk c == b) } }
    let u := (u.restoreUnits r b).beginBlock r b
    let u := if Table.get 0 u.hier.busy r = b + 1 then u.regionNext r else u
    (u.failSelfTest r b failed).nextRelease
  else s

/-! ## Domains (R413, R414, R433-R435) -/

/-- Every block of a domain stops in a state. -/
def State.domainDown (s : State) (d : Nat) (st : BlockState) : State :=
  s.each (s.domainBlocks d) fun u rb => u.blockDown rb.1 rb.2 st

/-- A domain is switched off (R29, R435). -/
def State.domainOff (s : State) (d : Nat) : State :=
  (s.setDomain d { s.domain d with state := .off }).domainDown d .off

/-- Hold every block of a domain out of service (R413, R433). -/
def State.holdDomain (s : State) (d : Nat) : State :=
  s.each (s.domainBlocks d) fun u rb => if u.held rb.1 rb.2 then u else (u.blockDown rb.1 rb.2 .off).holdBlock rb.1 rb.2

/-- The domain's clock is good (R413, R414): reset stays asserted in its blocks until their release. -/
def State.domainGood (s : State) (d : Nat) : State :=
  let u := s.setDomain d { s.domain d with state := .reset, since := s.tsc }
  (u.each (u.domainBlocks d) fun v rb =>
    if (v.block rb.1 rb.2).state = .off then v.setBlock rb.1 rb.2 { v.block rb.1 rb.2 with state := .reset } else v).nextRelease

/-- A clock fault of a domain (R413, R414, R450). -/
def State.clockFault (s : State) (d : Nat) : State :=
  (s.bump (0x6000 + d) 9).event (srcOf 5 1 d) 0x0102 sevAlarm (toBE 1 d)

/-- No clock within 5 ms: the domain is held off, its blocks out of service (R413). -/
def State.domainFault (s : State) (d : Nat) : State :=
  (((s.clockFault d).setDomain d { s.domain d with state := .fault }).holdDomain d).nextRelease

/-- Configuration switches domains (R435): 6000.02 at 0 takes a domain off, at 1 powers it again. -/
def State.settleDomains (s : State) : State :=
  s.each (((releaseSteps s.variant)[6]?.getD []).filter fun d => d != 28) fun u d =>
    let x := u.domain d
    if u.domainUnwanted d then (if x.state = .off ∨ x.state = .fault then u else u.domainOff d)
    else if x.state = .off ∧ u.mayRelease d ∧ u.railOff (railOf d) = false then u.setDomain d { x with state := .ramping, since := u.tsc }
    else u

end Sys2Proof.Machine
end

