-- ==== Sys2Proof/Machine/DigestOps.lean ====
section
/-! DEFINITION. Mismatch list (R62-R64) and the catalogue's digests (R59). -/

namespace Sys2Proof.Machine

/-- Source number of the digest unit. -/
def srcDigest : Nat := 0x5143

/-- The 32 bytes of a mismatch record (R64). -/
def mismatchBytes (m : Mismatch) : Bytes :=
  toBE 1 m.kind ++ toBE 1 m.regions ++ toBE 6 m.id ++ toBE 4 m.epoch ++ toBE 4 0 ++ toBE 8 m.first ++ toBE 8 m.last

/-- Record number of a listed source. -/
def State.mismatchOf (s : State) (kind id : Nat) : Option Nat :=
  (s.mgr.mismatches.find? fun e => e.2.kind == kind && e.2.id == id).map Prod.fst

/-- Regions whose digest differs, as a bitmap (R64). -/
def digestDiff (own other : List Nat) : Nat :=
  ((List.range 5).filter fun i => own[i]?.getD 0 != other[i]?.getD 0).foldl (fun a i => a + 2 ^ i) 0

/-- The window after an increment of the epoch in which its predecessor is accepted is open (R62). -/
def State.changeover (s : State) : Bool :=
  match s.mgr.epochBeat with
  | some b => decide (s.beat ≤ b + s.val 0x1400 6)
  | none => false

/-- A source reports consistently: its record is cleared, and the clearing logged (R63). -/
def State.clearMismatch (s : State) (kind id : Nat) : State :=
  match s.mismatchOf kind id with
  | some n =>
    ({ s with mgr := { s.mgr with mismatches := Table.erase s.mgr.mismatches n } }).event srcDigest 0x0303 sevInfo
      ((mismatchBytes (Table.get {} s.mgr.mismatches n)).take 16)
  | none => s

/-- A source reports a mismatch: its record is updated, or the lowest free one taken, or it is counted (R63). -/
def State.listMismatch (s : State) (kind id epoch regions : Nat) : State :=
  match s.mismatchOf kind id with
  | some n =>
    let m := Table.get {} s.mgr.mismatches n
    { s with mgr := { s.mgr with
      mismatches := Table.insert s.mgr.mismatches n { m with regions := regions, epoch := epoch, last := s.tsc } } }
  | none =>
    match firstBelow (fun n => (Table.find s.mgr.mismatches n).isNone) 64 with
    | some n =>
      let m : Mismatch := { kind := kind, regions := regions, id := id, epoch := epoch, first := s.tsc, last := s.tsc }
      ({ s with mgr := { s.mgr with mismatches := Table.insert s.mgr.mismatches n m } }).event srcDigest 0x0302 sevWarning
        ((mismatchBytes m).take 16)
    | none => s.bump 0x1400 0x0F

/-- Compare a report with the module's own epoch and digests (R62), while 1401.10 reads 0 with the last valid ones (DESIGN CHOICE, log 55). -/
def State.compareReport (s : State) (kind id epoch : Nat) (digests : List Nat) : State :=
  if epoch = s.mgr.epoch then
    let d := digestDiff s.mgr.digests digests
    if d = 0 then s.clearMismatch kind id else s.listMismatch kind id epoch d
  else if epoch = s.mgr.prevEpoch ∧ s.changeover then s
  else s.listMismatch kind id epoch 0x1F

/-! ## Digests (R59, R60) -/

/-- Entries that digests cover. -/
def covered (a : Access) : Bool := a == .rws || a == .rwq

/-- The record of an entry in a digest (R59): negative zero of F32 counts as zero. -/
def digestRecord (key : Nat) (d : Desc) (v : Bytes) : Bytes :=
  let w := if d.ty = .f32 ∧ ofBE v = 2 ^ 31 then toBE 4 0 else v
  toBE 2 (idxOf key) ++ toBE 1 (subOf key) ++ toBE 1 (tyCode d.ty) ++ toBE 2 w.length ++ w

/-- The serialisation of one index. -/
def State.indexRecords (s : State) (q : Access → Bool) (idx : Nat) : Bytes :=
  (keysAt s.variant q idx).flatMap fun key =>
    match descOf s.variant key with
    | some d => digestRecord key d (s.raw key)
    | none => []

/-- The digest of a region over the values in force (R59). -/
def State.regionDigest (s : State) (r : Nat) : Nat :=
  crc64 ((configIndices.filter fun idx => digestRegion idx == r).flatMap fun idx => s.indexRecords covered idx)

/-- The digests of regions 1 to 5. -/
def State.regionDigests (s : State) : List Nat := (List.range 5).map fun i => s.regionDigest (i + 1)

end Sys2Proof.Machine
end

