-- ==== Sys2Proof/Machine/TetherOps.lean ====
section
/-! DEFINITION. The tether: mains inputs, reference, phase slots (R90-R99). Angles are in 0.001 degree, times in ns. -/

namespace Sys2Proof.Machine

/-- A mains input. -/
def State.zx (s : State) (i : Nat) : ZxInput := Table.get {} s.tether.inputs i

/-- Write a mains input. -/
def State.setZx (s : State) (i : Nat) (x : ZxInput) : State :=
  { s with tether := { s.tether with inputs := Table.put {} s.tether.inputs i x } }

/-- Source number of a ZX input. -/
def srcZx (i : Nat) : Nat := srcOf 5 2 (2 + i)

/-- Cycle period in use: nominal in SEARCH (R93). -/
def State.cyclePeriod (s : State) : Nat :=
  if s.tether.state = .search then 1000000000 / max 1 (s.val 0x1210 0x10) else s.tether.period

/-- Slot length in ns (R96). -/
def State.slotLength (s : State) : Nat := s.cyclePeriod / 24

/-- An angle wrapped into −180° < a ≤ 180°. -/
def wrapAngle (a : Int) : Int :=
  let r := a % 360000
  if r > 180000 then r - 360000 else r

/-- Configured lag of an input behind ZX_A (R91): 15° per slot. -/
def State.lagSlots (s : State) (i : Nat) : Nat := if i = 0 then 0 else s.val 0x1210 (3 + i)

/-- Mean of measured lags about a configured one, once 64 cycles have been measured (R91). -/
def meanLag (configured : Nat) (lags : List Nat) : Option Int :=
  if lags.length < 64 then none else
  let dev : Int := lags.foldl (fun a x => a + wrapAngle ((x : Int) - (configured : Int))) 0
  some ((configured : Int) + dev / 64)

/-- The measured lag of an input behind ZX_A (1211.05, 1211.06). -/
def State.measuredLag (s : State) (i : Nat) : Option Int :=
  if i = 0 then none else meanLag (s.lagSlots i * 15000) (s.zx i).lags

/-- The lag in use for an input as reference (R92, R95): measured where available, configured otherwise, and the old configured
one until a renumbering takes effect. -/
def State.lagInUse (s : State) (i : Nat) : Nat :=
  if i = 0 then 0 else match s.measuredLag i with
  | some m => (m % 360000).toNat
  | none => (match s.tether.renumber with
    | some old => if s.tether.ref = i + 1 then old else s.lagSlots i
    | none => s.lagSlots i) * 15000

/-- Phase of the slots at TSC `t`. -/
def State.slotPhase (s : State) (t : Nat) : Int :=
  (15000 * s.tether.slot : Nat) + ((360000 * (t - s.tether.slotAt) / max 1 s.cyclePeriod : Nat) : Int)

/-- The input is enabled in 1210.03. -/
def State.zxEnabled (s : State) (i : Nat) : Bool := bit (s.val 0x1210 3) i

/-- Eligible as reference (R92). -/
def State.zxEligible (s : State) (i : Nat) : Bool :=
  s.zxEnabled i && (s.zx i).qualified && (s.zx i).consistent && (s.zx i).accepted

/-- The first eligible input in the order ZX_A, ZX_B, ZX_C. -/
def State.firstEligible (s : State) : Option Nat := firstBelow s.zxEligible 3

/-- Align the slots by a step at a crossing whose phase is `lag` (R93): logged, counted; a slot that begins at the crossing
itself begins with the slot boundary that follows. -/
def State.tetherStep (s : State) (lag period : Nat) (err : Int) (input : Nat) : State :=
  let n := if lag % 15000 = 0 then (lag / 15000 + 23) % 24 else lag / 15000 % 24
  let part := if lag % 15000 = 0 then 15000 else lag % 15000
  let u := { s with tether := { s.tether with
    slot := n, slotAt := s.tsc - part * period / 360000, period := period, slew := 0, phase := 0 } }
  (u.event (srcOf 5 2 1) 0x0402 sevNotice (toBE 2 (unsigned 16 (err / 100)) ++ toBE 1 (input + 1))).bump 0x1212 1

/-- Slew the slots by what 1210.09 allows in a cycle (R93). -/
def State.tetherSlew (s : State) (err : Int) : State :=
  let lim : Int := (s.val 0x1210 9 * 100 : Nat)
  let adj := if err > lim then lim else if err < -lim then -lim else err
  let shift : Int := adj * (s.cyclePeriod : Int) / 360000
  { s with tether := { s.tether with slotAt := ((s.tether.slotAt : Int) + shift).toNat, slew := err - adj } }

/-- Leave HOLDOVER: the time used so far is kept (R93). -/
def State.holdPause (s : State) : State :=
  { s with tether := { s.tether with holdUsed := s.tether.holdUsed + (s.tsc - s.tether.holdAt) } }

/-- Most that the slots may lag behind a mains that changes its frequency, 0.001 degree (R94): half of what the rule allows. -/
def trackBand : Int := 500

/-- In LOCKED without a slew in progress the loop follows its reference (R94): a 1210.08th of the phase error per cycle, and at once what lies
beyond `trackBand` (log 52). -/
def State.tetherTrack (s : State) (err : Int) : State :=
  let slow := err / (max 1 (s.val 0x1210 8) : Nat)
  let adj := if trackBand < err then max slow (err - trackBand) else if err < -trackBand then min slow (err + trackBand) else slow
  let shift : Int := adj * (s.cyclePeriod : Int) / 360000
  { s with tether := { s.tether with slotAt := ((s.tether.slotAt : Int) + shift).toNat } }

/-- A step that a commit's change of numbering makes (R95): slot valid falls and the tether acquires anew. -/
def State.commitStep (s : State) (lag period : Nat) (err : Int) (i : Nat) : State :=
  let v := s.tetherStep lag period err i
  { v with tether := { v.tether with valid := false, state := .acquire, good := 0 } }

/-- The error is larger than 1210.0A allows to be slewed (R93, R95). -/
def State.stepsFor (s : State) (err : Int) : Bool := decide (s.val 0x1210 0x0A * 1000 < err.natAbs)

/-- An eligible input becomes reference at its crossing (R92, R93); after a commit that changed the enable mask by a step where the slots move
by more than 1210.0A (R95). -/
def State.becomeReference (s : State) (i : Nat) : State :=
  let x := s.zx i
  let lag : Nat := s.lagInUse i
  let err := wrapAngle (s.slotPhase s.tsc - (lag : Int))
  let old := s.tether.state
  let s0 := if old = .holdover then s.holdPause else s
  let u := { s0 with tether := { s0.tether with
    ref := i + 1, between := false, renumber := none, maskChanged := false, good := 0, phase := err, state := if old = TetherState.locked then .locked else .acquire } }
  if old = .search ∨ old = .freerun then u.tetherStep lag x.period err i
  else if old = .holdover ∧ s.stepsFor err then
    let v := u.tetherStep lag x.period err i
    { v with tether := { v.tether with valid := false } }
  else if s.tether.maskChanged ∧ s.stepsFor err then u.commitStep lag x.period err i
  else { u with tether := { u.tether with period := x.period } }.tetherSlew err

/-- Mean period of the last 64 cycles of the reference in use (R99). -/
def State.meanPeriod (s : State) : Nat :=
  let ps := (s.zx (s.tether.ref - 1)).periods
  if ps.length = 0 then s.tether.period else (ps.foldl (· + ·) 0) / ps.length

/-- HOLDOVER is entered: frequency frozen at the mean of the last 64 cycles of the lost reference (R93, R99). -/
def State.enterHoldover (s : State) (restart : Bool) : State :=
  ({ s with tether := { s.tether with
      state := .holdover, ref := 0, between := false, holdAt := s.tsc, holdUsed := if restart then 0 else s.tether.holdUsed,
      period := s.tether.mean, slew := 0 } }).bump 0x1212 2

/-- The reference is lost, or its successor before its crossing (R92, R93). -/
def State.referenceLost (s : State) : State :=
  let s := if s.tether.ref = 0 then s else { s with tether := { s.tether with mean := s.meanPeriod } }
  match s.firstEligible with
  | some _ =>
    { s with tether := { s.tether with
        ref := 0, between := true, good := if s.tether.state = .acquire then 0 else s.tether.good } }
  | none =>
    if s.tether.state = .locked then s.enterHoldover true
    else if s.tether.state = .acquire then
      if s.tether.valid then s.enterHoldover false
      else { s with tether := { s.tether with state := .search, ref := 0, between := false, good := 0 } }
    else s

/-- No successor is left between a loss and a crossing (R92, R93). -/
def State.settleReference (s : State) (i : Nat) : State :=
  if s.tether.between ∧ s.firstEligible = none then s.referenceLost
  else if s.tether.ref ≠ 0 ∧ s.tether.ref = i + 1 ∧ (!(s.zx i).qualified || !(s.zx i).consistent || !s.zxEnabled i) then
    s.referenceLost
  else s

/-- An input loses qualification (R90): counted, and the reference with it. A crossing at which it is lost is the first that may count again; a
predicted one is none. -/
def State.zxLost (s : State) (i : Nat) : State :=
  let x := s.zx i
  let shown := x.last == some s.tsc
  let u := (s.setZx i { x with
    qualified := false, count := ofBool shown, last := if shown then x.last else none, misses := 0, accepted := false }).bump 0x1212 (4 + i)
  u.settleReference i

/-- A predicted crossing is missing or rejected (R90): the prediction moves on, and the third in a row loses the input. -/
def State.zxMiss (s : State) (i : Nat) : State :=
  let x := s.zx i
  let y := { x with misses := x.misses + 1, accepted := false, last := x.last.map fun a => a + x.period }
  let u := s.setZx i y
  if y.misses ≥ 3 then u.zxLost i else u.settleReference i

/-- Judge an input's lag (R91). -/
def State.zxJudge (s : State) (i : Nat) (dev : Int) : State :=
  let good := decide (dev.natAbs ≤ s.val 0x1210 6 * 1000)
  let x := s.zx i
  let u := s.setZx i { x with consistent := good }
  if x.consistent && !good then
    (u.event (srcZx i) 0x0402 sevNotice (toBE 2 (unsigned 16 (dev / 100)) ++ toBE 1 (i + 1))).settleReference i
  else u

/-- A lag is measured at an accepted crossing of ZX_B or ZX_C (R91): behind ZX_A, or for ZX_C behind ZX_B while ZX_A is not
qualified. -/
def State.zxMeasure (s : State) (i : Nat) : State :=
  if i = 0 then s else
  let lagBehind : ZxInput → Option Nat := fun a => a.last.map fun z => 360000 * (s.tsc - z) / max 1 a.period % 360000
  if (s.zx 0).qualified then
    match lagBehind (s.zx 0) with
    | some v =>
      let u := s.setZx i { s.zx i with lags := (v :: (s.zx i).lags).take 64, lagsB := [] }
      match u.measuredLag i with
      | some m => u.zxJudge i (wrapAngle (m - (s.lagSlots i * 15000 : Nat)))
      | none => u
    | none => s
  else if i = 2 ∧ (s.zx 1).qualified then
    match lagBehind (s.zx 1) with
    | some v =>
      let u := s.setZx 2 { s.zx 2 with lagsB := (v :: (s.zx 2).lagsB).take 64 }
      let want := ((s.lagSlots 2 + 24 - s.lagSlots 1) % 24) * 15000
      match meanLag want (u.zx 2).lagsB with
      | some m => u.zxJudge 2 (wrapAngle (m - (want : Int)))
      | none => u
    | none => s
  else s

/-- The reference's accepted crossing (R93-R95): phase error, a pending renumbering, the count toward LOCKED, slewing. -/
def State.referenceCrossing (s : State) (i : Nat) : State :=
  let pendingRenumber := s.tether.renumber.isSome
  let s := { s with tether := { s.tether with renumber := none, maskChanged := false } }
  let lag : Nat := s.lagInUse i
  let period := (s.zx i).period
  let err := wrapAngle (s.slotPhase s.tsc - (lag : Int))
  let u := { s with tether := { s.tether with phase := err, period := period } }
  if pendingRenumber ∧ s.stepsFor err then u.commitStep lag period err i
  else
    let v := if s.tether.state = .locked ∧ s.tether.slew = 0 ∧ pendingRenumber = false then u.tetherTrack err else u.tetherSlew err
    if v.tether.state = .acquire then
      let n := if err.natAbs < 2000 then v.tether.good + 1 else 0
      if n ≥ 16 then { v with tether := { v.tether with state := .locked, valid := true, validAt := s.tsc, good := 0 } }
      else { v with tether := { v.tether with good := n } }
    else v

/-- What an accepted crossing does to reference and slots (R92, R93). -/
def State.crossingAccepted (s : State) (i : Nat) : State :=
  let u := s.zxMeasure i
  if u.tether.ref = i + 1 then u.referenceCrossing i
  else if u.firstEligible = some i ∧ (u.tether.ref = 0 ∨ i + 1 < u.tether.ref) then u.becomeReference i
  else u

/-- The limits of 45-65 Hz as periods in ns (R90). -/
def periodOk (p : Nat) : Bool := decide (15385000 ≤ p) && decide (p ≤ 22222000)

/-- Two periods differ by at most 1 % (R90). -/
def periodsClose (p q : Nat) : Bool := decide ((max p q - min p q) * 100 ≤ q)

/-- A crossing of an input that is not qualified (R90): eight good ones in a row qualify it. -/
def State.crossingUnqualified (s : State) (i : Nat) : State :=
  let x := s.zx i
  match x.last with
  | none => s.setZx i { x with count := 1, last := some s.tsc }
  | some a =>
    let p := s.tsc - a
    let near := decide (x.count ≤ 1) || periodsClose p x.period
    let n := if periodOk p then (if near then max 1 x.count + 1 else 2) else 1
    let ps := if n = 1 then [] else if near then (p :: x.periods).take 64 else [p]
    let u := s.setZx i { x with count := n, last := some s.tsc, period := p, periods := ps, qualified := decide (n ≥ 8),
                                accepted := decide (n ≥ 8), misses := 0 }
    if n ≥ 8 then u.crossingAccepted i else u

/-- A crossing of a qualified input (R90), predicted one period after the last crossing or the last predicted one (log 53): within 10° of its prediction it is accepted; earlier than half a period after the
last judged one it belongs to that one; else the predicted crossing is rejected. -/
def State.crossingQualified (s : State) (i : Nat) : State :=
  let x := s.zx i
  match x.last with
  | none => s
  | some a =>
    let due := a + x.period
    let dev := max s.tsc due - min s.tsc due
    if 2 * (s.tsc - a) < x.period then s
    else if dev * 360 ≤ x.period * 10 then
      let p := s.tsc - a
      let u := s.setZx i { x with last := some s.tsc, period := p, periods := (p :: x.periods).take 64, misses := 0, accepted := true }
      if periodOk p then u.crossingAccepted i else u.zxLost i
    else s.zxMiss i

/-- Length of slot `n` in whole ns: the 24 slots of a cycle take exactly its period (R96). -/
def State.slotSpan (s : State) (n : Nat) : Nat := s.cyclePeriod * (n + 1) / 24 - s.cyclePeriod * n / 24

/-- TSC at which the slot in progress ends. -/
def State.slotEnd (s : State) : Nat := s.tether.slotAt + s.slotSpan s.tether.slot

/-- What the tether publishes at a beat boundary (R97). -/
def State.tetherBoundary (s : State) : State :=
  if (s.block 5 2).state = .running then
    { s with tether := { s.tether with
      sample := ⟨s.tether.slot, s.slotEnd, s.slotEnd + s.slotSpan ((s.tether.slot + 1) % 24), s.slotLength, s.tether.cycle, s.tether.valid⟩ } }
  else s

/-- A commit has changed the enable mask or a lag (R92, R95): a disabled reference is lost, and a configured lag in use keeps its
old value until the next reference crossing. -/
def State.tetherCommit (s : State) (oldLag : Nat → Nat) (mask : Bool) : State :=
  let r := s.tether.ref
  if r = 0 then s.settleReference 0
  else
    let i := r - 1
    let s := if mask then { s with tether := { s.tether with maskChanged := true } } else s
    let u := if s.measuredLag i = none ∧ oldLag i ≠ s.lagSlots i
      then { s with tether := { s.tether with renumber := some (oldLag i) } } else s
    u.settleReference i

end Sys2Proof.Machine
end

