-- ==== Sys2Proof/Machine/DictOps.lean ====
section
/-! DEFINITION. Reading the dictionary (R38, R39, R42, R53): entries that show what the block holds elsewhere, measured entries, written
values on their way to a boundary, and the staged view. -/

namespace Sys2Proof.Machine

/-! ## Codes of states -/

/-- Codes of R29. -/
def blockStateCode : BlockState → Nat
  | .off => 1
  | .reset => 2
  | .running => 3
  | .idleReq => 4
  | .held => 5

/-- Codes of R75. -/
def timeStateCode : TimeState → Nat
  | .unset => 0
  | .set => 1
  | .ptp => 2
  | .pps => 3
  | .holdover => 4

/-- Codes of R93. -/
def tetherStateCode : TetherState → Nat
  | .search => 1
  | .acquire => 2
  | .locked => 3
  | .holdover => 4
  | .freerun => 5

/-- Codes of R116. -/
def portStateCode : PortState → Nat
  | .off => 1
  | .starting => 2
  | .running => 3
  | .stopping => 4
  | .stopped => 5
  | .fault => 6
  | .swapping => 7

/-- Codes of R183. -/
def echoStateCode : EchoState → Nat
  | .off => 0
  | .training => 1
  | .tracking => 2
  | .reacquire => 3
  | .resolve => 4
  | .lost => 5

/-- Codes of R173. -/
def rxStateCode : RxState → Nat
  | .off => 0
  | .search => 1
  | .header => 2
  | .payload => 3
  | .rearm => 4

/-- Codes of R365. -/
def ringLinkCode : RingLink → Nat
  | .off => 0
  | .training => 1
  | .up => 2
  | .down => 3
  | .conflict => 4

/-- Codes of R379. -/
def ringStateCode : RingState → Nat
  | .bypassed => 1
  | .waitSteady => 2
  | .inserting => 3
  | .inserted => 4
  | .extracting => 5
  | .failed => 6

/-- Codes of R324. -/
def slotStateCode : SlotState → Nat
  | .empty => 0
  | .ready => 1
  | .locked => 2

/-- Codes of R434. -/
def domainStateCode : DomainState → Nat
  | .off => 0
  | .ramping => 1
  | .clockWait => 2
  | .reset => 3
  | .on => 4
  | .isolated => 5
  | .fault => 6

/-! ## Values shown -/

/-- A bitmap of the numbers below `n` that satisfy `p`. -/
def bitmap (n : Nat) (p : Nat → Bool) : Nat := (List.range n).foldl (fun a i => if p i then a + 2 ^ i else a) 0

/-- The identity entries (R10). -/
def State.readIdentity (s : State) (sub : Nat) : Option Bytes :=
  if sub = 1 then some (ascii (match s.variant with | .sk3612 => "SK3612-A" | .sk3624 => "SK3624-A" | .sk3636 => "SK3636-A"))
  else if sub = 2 then some (toBE 1 (portCount s.variant))
  else if sub = 3 then some (toBE 2 (16 * clusterCount s.variant))
  else if sub = 4 then some (toBE 4 (endpointSpace s.variant))
  else if sub = 5 then some (toBE 1 (ofBool (hasBallast s.variant)))
  else if sub = 8 then some (Config.serialNumber.take 16)
  else if sub = 9 then some (toBE 4 s.rst.release) else none

/-- Per-block entries (R33, R102): bitmap and state as they stood at the latest beat boundary. -/
def State.readBlock (s : State) (idx sub : Nat) : Option Bytes :=
  let x := s.block (idx % 16) (sub - 1)
  let shown := Table.get (BlockState.off, 0) s.hier.shown (blockKey (idx % 16) (sub - 1))
  if idx / 16 = 0x102 then some (toBE 8 shown.2)
  else if idx / 16 = 0x103 then some (toBE 1 (blockStateCode shown.1))
  else if idx / 16 = 0x124 then some (toBE 2 (x.occupancy.foldl (fun a (e : Nat × Nat) => if s.beat ≤ e.1 + 65536 then max a e.2 else a) 0))
  else none

/-- Status of a flash bank (R431). -/
def bankBytes (b : Bank) : Bytes :=
  toBE 4 (if b.fwPresent then b.fwRelease else 0) ++ toBE 4 ((b.config.map ConfigImage.epoch).getD 0)
    ++ toBE 1 ((b.config.map ConfigImage.signer).getD 0)
    ++ toBE 1 (ofBool b.fwValid + 2 * ofBool b.cfgValid + 4 * ofBool b.disagree + 8 * ofBool b.writing) ++ List.replicate 6 0

/-- Reset and boot entries (R426, R431). -/
def State.readReset (s : State) (sub : Nat) : Option Bytes :=
  let r := s.rst
  if sub = 1 then some (toBE 1 r.cause)
  else if sub = 2 then some (toBE 1 r.kind)
  else if sub = 3 then some (toBE 1 r.bootBank)
  else if sub = 4 then some (toBE 1 r.bootResult)
  else if sub = 5 then some (toBE 4 r.bootMs)
  else if sub = 6 then some (toBE 8 r.bootAt)
  else if sub = 0x30 then some (toBE 4 r.backup.total)
  else if 0x31 ≤ sub ∧ sub ≤ 0x3A then some (toBE 2 (Table.get 0 r.backup.byCause (sub - 0x30)))
  else if 0x40 ≤ sub ∧ sub ≤ 0x47 then some ((r.backup.records[sub - 0x40]?.map resetRecordBytes).getD (List.replicate 16 0))
  else if sub = 0x48 then some (toBE 1 (ofBool r.backup.valid))
  else if sub = 0x55 then some (bankBytes r.bankA)
  else if sub = 0x56 then some (bankBytes r.bankB)
  else if sub = 0x57 then some (toBE 4 Config.minimumRelease) else none

/-- Frequency source in use (R71). -/
def State.freqSource (s : State) : Nat :=
  if s.flag 0x1200 9 ∧ s.time.ref10 then 1 else if s.time.state = .ptp then 2 else if s.time.state = .pps then 3 else 0

/-- Time entries (R102). -/
def State.readTime (s : State) (sub : Nat) : Option Bytes :=
  if sub = 1 then some (toBE 8 s.tsc)
  else if sub = 2 then some (toBE 8 s.beat)
  else if sub = 3 then some (toBE 8 s.stationTime)
  else if sub = 4 then some (toBE 8 (unsigned 64 s.time.offset))
  else if sub = 5 then some (toBE 1 (timeStateCode s.time.state))
  else if sub = 8 then some (toBE 1 s.freqSource)
  else if sub = 0x0C then (if s.freqSource = 0 then some (toBE 4 (unsigned 32 s.time.ppb)) else none) else none

/-- Tether entries (R102). -/
def State.readTether (s : State) (sub : Nat) : Option Bytes :=
  let x := s.tether
  if sub = 1 then some (toBE 1 (tetherStateCode x.state))
  else if sub = 2 then some (toBE 1 (if x.between then 0 else x.ref))
  else if sub = 0x0B then (if x.ref = 0 then none else some (toBE 4 (fracToF32 ⟨1000000000, max 1 x.period⟩)))
  else if sub = 0x0C then some (toBE 4 (f32Milli x.phase))
  else if sub = 0x0D then some (toBE 1 x.sample.slot)
  else if sub = 0x0E then some (toBE 8 x.cycle)
  else if sub = 0x0F then some (toBE 1 (ofBool x.valid)) else none

/-- Inputs of the tether (R102). -/
def State.readZx (s : State) (sub : Nat) : Option Bytes :=
  if sub ≤ 3 then
    let i := sub - 1
    let x := s.zx i
    some (toBE 1 (ofBool x.qualified + 2 * ofBool x.consistent + 4 * ofBool (!s.tether.between && s.tether.ref == sub)
      + 8 * ofBool (s.zxEnabled i)))
  else some (toBE 4 (match s.measuredLag (sub - 4) with | some a => f32Milli a | none => 0))

/-- Staging and commit entries (R65). -/
def State.readCommit (s : State) (sub : Nat) : Option Bytes :=
  let m := s.mgr
  if sub = 3 then some (toBE 1 m.stagingState)
  else if sub = 4 then some (toBE 2 m.owner)
  else if sub = 5 then some (toBE 8 m.activation)
  else if sub = 7 then some (toBE 4 m.epoch)
  else if sub = 8 then some (toBE 2 m.staging.length)
  else if sub = 0x10 then some (toBE 1 m.mismatches.length)
  else if 0x11 ≤ sub ∧ sub ≤ 0x50 then
    some ((Table.find m.mismatches (sub - 0x11)).elim (List.replicate 32 0) mismatchBytes)
  else none

/-- Digest entries (R60); until the staged digests are recomputed 1401.11-1401.15 show the active ones (DESIGN CHOICE, log 55). -/
def State.readDigest (s : State) (sub : Nat) : Option Bytes :=
  let m := s.mgr
  if sub = 0x10 then some (toBE 1 (ofBool m.digestsValid))
  else if sub < 0x10 then some (toBE 8 (m.digests[sub - 1]?.getD 0))
  else some (toBE 8 ((if m.stagedDigests = [] then m.digests else m.stagedDigests)[sub - 0x11]?.getD 0))

/-- Event-log entries (R452). -/
def State.readLog (s : State) (sub : Nat) : Option Bytes :=
  let x := s.log
  if sub = 1 then some (toBE 2 x.next)
  else if sub = 2 then some (toBE 8 x.written)
  else if sub = 3 then some (toBE 2 (if x.written ≤ 65536 then 0 else x.next))
  else if sub = 4 then some (toBE 8 x.restart) else none

/-- Port entries (R127, R199); `o` is the index within the port block. Entries 2005.11-2005.18 follow a written user value from the next boundary,
whether the port runs or not (DESIGN CHOICE, log 55). -/
def State.readPort (s : State) (p o sub : Nat) : Option Bytes :=
  let x := s.port p
  if o = 1 then
    if sub = 1 then some (toBE 1 (if (s.block 1 p).state = .running then portStateCode x.state else 1))
    else if sub = 2 then some (toBE 1 x.cause)
    else if sub = 3 then some (toBE 2 x.flags)
    else if sub = 4 then some (toBE 1 (s.afeOf p))
    else if sub = 5 then some (toBE 1 (ofBool x.relayNb.sense + 2 * ofBool x.relayBb.sense + 4 * ofBool x.matrix.sense))
    else if sub = 9 then some (toBE 1 x.retries)
    else if sub = 0x0A then some (toBE 2 (if s.hasPort p then s.powerLimit p else 2000)) else none
  else if o = 2 then (if sub = 4 then some (toBE 1 x.gain) else none)
  else if o = 4 then
    if sub = 0x10 then some (toBE 1 (echoStateCode (s.echo p .nb).state))
    else if sub = 0x11 then some (toBE 1 (echoStateCode (s.echo p .bb).state)) else none
  else if o = 5 then
    if 0x11 ≤ sub then some (toBE 4 (s.portEffective p (sub - 0x10))) else none
  else if o = 6 then
    let a := s.afeOf p
    if sub ≤ 8 then some (toBE 4 (portFactory a sub))
    else if sub = 9 then some (toBE 8 (Config.portCalTime a)) else some (toBE 4 (finiteF32 (Config.portCalTemp a)))
  else none

/-- Lane entries (R153, R154, R175, R202); `o` is the index within the port block less the lane number. -/
def State.readLane (s : State) (p l o sub : Nat) : Option Bytes :=
  let x := s.lane p l
  if o = 0x08 then (if sub = 0x0C then some (toBE 1 (s.laneState p l)) else none)
  else if o = 0x0C then
    if sub = 3 then some (toBE 1 (if x.tx.mutedGroups ≠ [] then 2 else if x.tx.clips ≠ [] then 1 else 0))
    else if sub = 7 then
      some ((List.range 40).map fun g => BitVec.ofNat 8 (if x.tx.mutedGroups.contains g then 0xFF else Table.get 0 x.tx.clips g))
    else none
  else if o = 0x10 then
    if sub = 5 then some (toBE 1 (rxStateCode x.rx.state))
    else if sub = 6 then some (toBE 1 (s.replayState p l)) else none
  else if o = 0x18 then
    if sub = 0x1A then some (toBE 1 x.rx.cycles)
    else if sub = 0x1C then some (toBE 1 (s.floorGroups p l))
    else if sub ≤ 0x18 ∧ Table.find s.dict (laneKey p l 0x2018 sub) = none then
      some (List.replicate (s.floorGroups p l) 0xFF)
    else none
  else none

/-- Entries inside a port block. -/
def State.readPortBlock (s : State) (idx sub : Nat) : Option Bytes :=
  let p := portOfIdx idx
  let o := (idx - 0x2000) % 0x20
  if 0x08 ≤ o ∧ o < 0x1C then s.readLane p (laneOfIdx idx) (o / 4 * 4) sub else s.readPort p o sub

/-- Route and link entries (R66, R295). -/
def State.readRoutes (s : State) (idx sub : Nat) : Option Bytes :=
  if idx = 0x3200 then
    some (toBE 4 ([8 * endpointSpace s.variant, 4 * endpointSpace s.variant, linkRecords, 65536][sub - 1]?.getD 0))
  else if idx = 0x3221 then
    if sub = 1 then some (toBE 4 (s.routes.links.filter fun e => e.2.state != .free).length)
    else some (toBE 8 (heapBytes - s.heapUsed))
  else none

/-- Status of a direction of a link with its warning bit (R303, R307, R309). -/
def linkStatus (status : Nat) (warned : Bool) : Nat := status + (if warned then 0x80 else 0)

/-- Command channel of port `p` (R317). -/
def State.readCommand (s : State) (p sub : Nat) : Option Bytes :=
  let c := s.cell p
  if sub ≤ 8 then some (toBE 1 (linkStatus (c.link (sub - 1)).sendStatus (c.link (sub - 1)).warned))
  else if sub ≤ 0x10 then some (toBE 1 (linkStatus (c.link (sub - 9)).recvStatus (c.link (sub - 9)).warned))
  else if sub ≤ 0x18 then some (toBE 4 (c.link (sub - 0x11)).lastSent)
  else if sub ≤ 0x20 then some (toBE 4 (c.link (sub - 0x19)).lastAccepted)
  else if sub = 0x21 then some (toBE 1 c.driven) else some (toBE 1 (bitmap 8 (s.receivedState p)))

/-- Trip matrix (R319). -/
def State.readTrip (s : State) (sub : Nat) : Option Bytes :=
  if sub = 1 then some (toBE 1 (bitmap 8 fun n => (Table.get {} s.trip.outputs n).on))
  else if sub = 2 then some (toBE 2 s.trip.biState) else some (toBE 2 (bitmap 16 fun n => (s.switch n).on))

/-- Ring (R383). -/
def State.readRing (s : State) (idx sub : Nat) : Option Bytes :=
  let x := s.ring
  if idx = 0x3820 then (if sub = 3 then some (toBE 1 x.ptpPort) else none)
  else if idx ≠ 0x3800 then none
  else if sub = 1 then some (toBE 8 (Config.ringAddress % 2 ^ 48))
  else if sub = 0x10 then some (toBE 1 (ringStateCode x.state))
  else if sub = 0x11 then some (toBE 1 (ofBool x.ke + 2 * ofBool x.kw))
  else if sub = 0x12 then some (toBE 1 (ringLinkCode x.east.link))
  else if sub = 0x13 then some (toBE 1 (ringLinkCode x.west.link))
  else if sub = 0x16 then some (toBE 1 x.ballast) else none

/-- Cipher engine, key slots and check units (R346, R361). -/
def State.readTrust (s : State) (idx sub : Nat) : Option Bytes :=
  if idx = 0x4000 then
    if sub = 2 then some (toBE 1 (s.units (s.val 0x4000 1)).length)
    else if sub = 3 then some (toBE 4 (bitmap 17 fun c => s.cores.contains c)) else none
  else if 0x4100 ≤ idx ∧ idx ≤ 0x41FF then
    let x := s.slot (idx - 0x4100)
    if sub = 5 then some (toBE 1 (slotStateCode x.state))
    else if sub = 6 then some (toBE 1 x.type)
    else if sub = 7 then some (toBE 8 x.counter)
    else if sub = 8 then some (toBE 4 x.generation)
    else if sub = 9 then some (toBE 8 x.loaded) else none
  else if idx = 0x4200 then
    if sub = 1 then some (toBE 4 s.checkUnits)
    else some (toBE 2 (s.pages.foldl (fun a e => a + ((List.range 4).filter fun n => (e.2.check n).opened).length) 0))
  else none

/-- Effective value of one of two calibrated quantities (R69, R407): factory value, user gain and offset given. -/
def effective (factory gain offset : Nat) : Bytes := toBE 4 (f32Calibrate (finiteF32 factory) gain offset)

/-- Output range of a curve (R394, R396): least and greatest value of a user table. -/
def State.curveEnd (s : State) (n : Nat) (high : Bool) : Nat :=
  if n < 10 then
    match curveRange n with
    | some (a, b) => f32Milli (1000 * (if high then b else a))
    | none => finiteF32 (Config.curveValue n (ofBool high))
  else
    let tab := s.raw (keyOf (0x5200 + n) 4)
    let ys := (List.range (tab.length / 8)).map fun i => beAt tab (8 * i + 4) 4
    let better : Nat → Nat → Bool := fun a b => if high then (f32ToFrac b).lt (f32ToFrac a) else (f32ToFrac a).lt (f32ToFrac b)
    match ys with
    | y :: l => l.foldl (fun m z => if better z m then z else m) y
    | [] => 0

/-- Sensing entries (R407). -/
def State.readSensing (s : State) (idx sub : Nat) : Option Bytes :=
  if idx = 0x5001 then
    if sub = 1 then some (toBE 4 s.sensing.clampFlags) else if sub = 3 then some (toBE 4 s.leadBreaks) else none
  else if 0x5100 ≤ idx ∧ idx ≤ 0x5107 then
    let m := idx - 0x5100
    if sub = 0x11 then some (toBE 1 (s.resultStatus m))
    else if sub = 0x20 ∨ sub = 0x21 then some (toBE 4 (finiteF32 (Config.channelFactory m (sub - 0x1F))))
    else if sub = 0x26 ∨ sub = 0x27 then
      some (effective (Config.channelFactory m (sub - 0x25)) (s.chan m (sub - 4)) (s.chan m (sub - 2))) else none
  else if 0x5180 ≤ idx ∧ idx ≤ 0x5183 then
    let g := s.gen (idx - 0x5180)
    if sub = 5 then some (toBE 1 g.state)
    else if (sub = 6 ∨ sub = 7) ∧ g.state = 0 then some (toBE 4 0) else none
  else if 0x5200 ≤ idx ∧ idx ≤ 0x520F then
    if sub = 5 ∨ sub = 6 then some (toBE 4 (s.curveEnd (idx - 0x5200) (sub == 6))) else none
  else if 0x5300 ≤ idx ∧ idx ≤ 0x530F then
    let x := s.switch (idx - 0x5300)
    if sub = 8 then some (toBE 1 (ofBool x.on)) else if sub = 9 then some (toBE 1 (ofBool x.inFail)) else none
  else if 0x5400 ≤ idx ∧ idx ≤ 0x5403 then
    let a := idx - 0x5400
    let x := s.analog a
    if sub = 6 then some (toBE 4 x.fraction)
    else if sub = 7 then some (toBE 1 (ofBool x.connected + 2 * ofBool x.atLimit + 4 * ofBool x.failing))
    else if sub = 0x20 ∨ sub = 0x21 then some (toBE 4 (finiteF32 (Config.outputFactory a (sub - 0x1F))))
    else if sub = 0x26 ∨ sub = 0x27 then
      some (effective (Config.outputFactory a (sub - 0x25)) (s.aov a (sub - 4)) (s.aov a (sub - 2))) else none
  else if idx = 0x5410 then some (toBE 4 (f32Milli s.sensing.vref))
  else if idx = 0x5602 then some (toBE 2 s.trip.biRaw) else none

/-- Ageing indices of an entry of several parts. -/
def State.ageingList (s : State) (idx sub n : Nat) : Bytes := (List.range n).flatMap fun i => toBE 2 (s.ageing idx sub i)

/-- An index that is not measured counts as 0. -/
def wear (n : Nat) : Nat := if n = 0xFFFF then 0 else n

/-- The measured ageing indices of the parts of a domain (R436): the domain as a whole, its cells. -/
def State.domainParts (s : State) (d : Nat) : List Nat :=
  let each : Nat → Nat → Nat → List Nat := fun idx sub n => (List.range n).map fun i => s.ageing idx sub i
  let ports := (List.range 38).filter fun p => blockPresent s.variant 1 p && domainOf 1 p == d
  let clusters := (List.range 16).filter fun c => blockPresent s.variant 2 c && domainOf 2 c == d
  (s.ageing 0x6041 (d + 1) 0 :: ports.flatMap fun p => [s.ageing 0x6042 (p + 1) 0, s.ageing 0x6043 (p + 1) 0])
    ++ (clusters.flatMap fun c => each 0x6045 (c + 1) 17)
    ++ (if d = 24 then each 0x6046 1 33 ++ each 0x6046 2 33 else if d = 23 then each 0x6046 3 17
        else if d = 26 then (List.range 7).map fun i => s.ageing 0x6044 (i + 1) 0 else [])

/-- A domain's ageing index (R436): the highest among its parts; D00 reads 0, an unmeasured domain 0xFFFF. -/
def State.domainIndex (s : State) (d : Nat) : Nat :=
  if d = 0 then 0
  else match (s.domainParts d).filter (· != 0xFFFF) with
    | [] => 0xFFFF
    | l => l.foldl max 0

/-- Nominal setpoint of a domain's core rail in mV (R432); none where the domain has no single one. -/
def nominal (d : Nat) : Option Nat :=
  let r := railOf d
  if r = 1 ∨ r = 2 then (if d = 25 then none else some 750) else if 3 ≤ r ∧ r ≤ 5 then some 800 else none

/-- Supervision entries (R452). -/
def State.readSupervision (s : State) (idx sub : Nat) : Option Bytes :=
  if idx < 0x6020 then
    let d := idx - 0x6000
    let x := s.domain d
    if sub = 1 then some (toBE 1 (domainStateCode x.state))
    else if sub = 6 then (nominal d).map fun mv => toBE 4 (f32Milli ((mv + x.offset : Nat) : Int))
    else if sub = 7 then some (toBE 1 x.offset)
    else if sub = 8 then some (toBE 1 (s.phases (railOf d))) else none
  else if idx = 0x6041 then some (toBE 2 (s.domainIndex (sub - 1)))
  else if 0x6042 ≤ idx ∧ idx ≤ 0x6044 then some (toBE 2 (s.ageing idx sub 0))
  else if idx = 0x6045 then some (s.ageingList idx sub 17)
  else if idx = 0x6046 then some (s.ageingList idx sub (if sub = 3 then 17 else 33))
  else if idx = 0x6061 then
    let u := s.unit (sub - 1)
    some (toBE 4 (u.state * 2 ^ 24 + u.reason * 2 ^ 16 + u.primary))
  else none

/-- What a read-only entry shows of the block's state; none where its value is stored or measured. -/
def State.computed (s : State) (idx sub : Nat) : Option Bytes :=
  if sub = 0 then none
  else if inPortBlock idx then s.readPortBlock idx sub
  else if idx = 0x1000 then s.readIdentity sub
  else if (blockEntryRegion idx).isSome then s.readBlock idx sub
  else if idx = 0x1100 then s.readReset sub
  else if idx = 0x1200 then s.readTime sub
  else if idx = 0x1210 then s.readTether sub
  else if idx = 0x1211 then s.readZx sub
  else if idx = 0x1400 then s.readCommit sub
  else if idx = 0x1401 then s.readDigest sub
  else if idx = 0x1800 then s.readLog sub
  else if idx = 0x28C0 then some ((Config.baseMatrix sub).take 1024)
  else if idx = 0x3000 then (if sub = 0x10 then some (toBE 1 (s.slotType s.tether.sample.slot)) else none)
  else if 0x3200 ≤ idx ∧ idx < 0x3400 then s.readRoutes idx sub
  else if 0x3470 ≤ idx ∧ idx ≤ 0x3493 then s.readCommand (idx - 0x3470) sub
  else if idx = 0x3504 then s.readTrip sub
  else if 0x3800 ≤ idx ∧ idx < 0x4000 then s.readRing idx sub
  else if 0x4000 ≤ idx ∧ idx < 0x5000 then s.readTrust idx sub
  else if 0x5000 ≤ idx ∧ idx < 0x6000 then s.readSensing idx sub
  else if 0x6000 ≤ idx then s.readSupervision idx sub else none

/-- A measured quantity that the block reads from the world as it is served (R102, R407, R452): frequency of a reference that is not
there, temperature, sensed voltage and current, rail voltages and power, setpoints without one nominal value. -/
def measured (idx sub : Nat) : Bool :=
  (idx == 0x1210 && sub == 0x0B) || (idx == 0x5001 && sub == 4)
    || (decide (0x5180 ≤ idx) && decide (idx ≤ 0x5183) && (sub == 6 || sub == 7))
    || (decide (0x6000 ≤ idx) && decide (idx < 0x6020) && decide (3 ≤ sub) && decide (sub ≤ 6)) || (idx == 0x6020 && sub != 0)

/-- Entries whose value in force is read, not what is staged or written. -/
def shows (a : Access) : Bool := a == .ro || a == .const

/-- The value of an entry as read (R39, R42, R53): what is shown of the state, a free value where it is measured, the staged value in the
staged view, the value written and not yet in force, or the value in force. -/
def State.readEntry (s : State) (key : Nat) (d : Desc) (staged : Bool) : Bytes × State :=
  match s.computed (idxOf key) (subOf key) with
  | some v => (v, s)
  | none =>
    if key = keyOf 0x1200 0x0C then (toBE 4 s.fresh.1, s.fresh.2)
    else if measured (idxOf key) (subOf key) then (toBE 4 (finiteF32 s.fresh.1), s.fresh.2)
    else if shows d.access then (s.committed key, s)
    else
      match (if staged && d.access == .rws then Table.find s.mgr.staging key else none) with
      | some v => (v, s)
      | none => ((Table.find s.written key).getD (s.committed key), s)

end Sys2Proof.Machine
end

