-- ==== Sys2Proof/Machine/Validate.lean ====
section
/-! DEFINITION. Validation across entries (R54): the tests that a commit, and a write of a coupled entry, must pass on the values
that would result. -/

namespace Sys2Proof.Machine

/-- Ports that have some value other than its default. -/
def State.setPorts (s : State) : List Nat :=
  (List.range (portCount s.variant)).filter fun p => s.dict.any fun e => inPortBlock (idxOf e.1) && portOfIdx (idxOf e.1) == p

/-! ## Lanes and the slot plan (R130, R208, R222, R236) -/

/-- What a lane's own values break. -/
def State.laneBad (v : State) (p l : Nat) : Bool :=
  let kind := v.laneKind p l
  let first := v.laneFirst p l
  let last := v.laneLast p l
  let role := v.lval p l 0x2008 4
  let bands := v.pval p 0x2000 3
  let m := last + 1 - first
  let lo := if kind = 2 then 74 else 1
  let hi := if kind = 2 then 1228 else 128
  (role == 1 && (kind != 1 || decide (m < 16) || decide (32 < m)))
    || kind != 0 &&
      (!bit bands (if kind = 2 then 1 else 0) || decide (last < first) || decide (first < lo) || decide (hi < last)
        || (kind == 1 && decide (m < 8)) || (kind == 2 && decide (m < 64))
        || (kind == 3 && !((first == 9 && last == 24) || (first == 39 && last == 125)))
        || (kind != 3 && decide (kindMaxMod kind < v.lval p l 0x2008 7))
        || (kind == 3 && v.lval p l 0x200C 1 == 8)
        || (kind == 1 && role == 0 && decide (m < 32))
        || (List.range 64).all (fun n => !v.profileServed p l n)
        || (kind == 1 && role == 0 && !v.profileServed p l (v.val 0x3000 4))
        || (kind == 2 && !v.profileServed p l (v.val 0x3000 5)))

/-- Two narrowband lanes lie closer than 4 free carriers (R130). -/
def State.lanesClose (v : State) (p a b : Nat) : Bool :=
  let narrow : Nat → Bool := fun l => v.laneKind p l == 1 || v.laneKind p l == 3
  a != b && narrow a && narrow b && decide (v.laneFirst p a ≤ v.laneFirst p b) && decide (v.laneFirst p b < v.laneLast p a + 5)

/-- What a port's lanes break together (R130). -/
def State.lanesBad (v : State) (p : Nat) : Bool :=
  (List.range 4).any (v.laneBad p)
    || decide (1 < ((List.range 4).filter fun l => v.laneKind p l == 2).length)
    || decide (1 < ((List.range 4).filter fun l => v.lval p l 0x2008 4 == 1).length)
    || (List.range 4).any fun a => (List.range 4).any fun b => v.lanesClose p a b

/-- Payload symbols a lane's beacon needs, whatever the maximum (R211, R245). -/
def State.beaconSymbols (v : State) (p l : Nat) : Nat :=
  (nsymFor (v.capacities p l (v.beaconMode p l) 4096) (v.beaconBody p l).length).getD 4096

/-- A lane's beacon lasts longer than its period at 65 Hz, or reaches into a QUIET slot at 45 Hz (R236). -/
def State.beaconBad (v : State) (plan : List Nat) (p l : Nat) : Bool :=
  let d := frameNs (v.laneKind p l) (v.beaconSymbols p l)
  let b := plan.findIdx (· == 1)
  decide (v.val 0x3000 3 * 1000000000 < d * 65)
    || (List.range 24).any fun j => plan[(b + j) % 24]? == some 5 && decide (j * 1000000000 < d * 45 * 24)

/-- What the slot plan breaks (R236). -/
def State.planBad (v : State) : Bool :=
  let plan := (v.raw (keyOf 0x3000 1)).map BitVec.toNat
  plan.count 1 != 1 || plan.count 3 == 0 || plan.count 4 == 0 || decide (8 < plan.count 5)
    || v.setPorts.any fun p => v.pval p 0x2000 1 == 1 && (List.range 4).any fun l => v.isNativeData p l && v.beaconBad plan p l

/-! ## The shaper (R138) -/

/-- Carriers of a lane as parts of a turn per sample of the lane rate (R129, R133, R224). -/
def State.laneAngles (v : State) (p l : Nat) : List (Nat × Nat) :=
  (List.range (if v.laneKind p l = 0 then 0 else v.laneM p l)).map fun i => carrierTurn (v.laneKind p l) (v.laneFirst p l) (v.laneFirst p l + i)

/-- A shaper's values break R138. -/
def State.shaperBad (v : State) (p l : Nat) : Bool :=
  let fir := v.raw (laneKey p l 0x2008 0x0A)
  let biq := v.raw (laneKey p l 0x2008 0x0B)
  (List.range 4).any (fun i => !biquadStable (biquad biq i)) || (v.laneAngles p l).any fun a => shaperLoud fir biq (turn a.1 a.2)

/-! ## Envelopes, curves (R146, R396) -/

/-- Segments of an envelope in order, terminator last, limits in range (R146). -/
def segmentsOk (bs : Bytes) : Bool :=
  let n := bs.length / 8
  let start : Nat → Nat := fun i => beAt bs (8 * i) 4
  let limit : Nat → Nat := fun i => beAt bs (8 * i + 4) 2
  bs.length % 8 == 0 && decide (0 < n) && limit (n - 1) == 0x8000
    && (List.range n).all fun i =>
      decide (start i ≤ 35000000) && beAt bs (8 * i + 6) 2 == 0 && (i == 0 || decide (start (i - 1) < start i))
        && (i + 1 == n || (decide (-1500 ≤ signed 16 (limit i)) && decide (signed 16 (limit i) ≤ -200)))

/-- A user envelope's entries disagree or break R146. -/
def State.envelopeBad (v : State) (e : Nat) : Bool :=
  let bs := v.raw (keyOf (0x2900 + e) 3)
  !segmentsOk bs || bs.length != 8 * v.val (0x2900 + e) 2

/-- A user curve breaks R396. -/
def State.curveBad (v : State) (n : Nat) : Bool :=
  let bs := v.raw (keyOf (0x5200 + n) 4)
  let k := v.val (0x5200 + n) 3
  decide (k < 2) || decide (64 < k) || bs.length != 8 * k || (List.range (2 * k)).any (fun i => f32Bad (beAt bs (4 * i) 4))
    || (List.range (k - 1)).any fun i => !(f32ToFrac (beAt bs (8 * i) 4)).lt (f32ToFrac (beAt bs (8 * (i + 1)) 4))

/-! ## Command channel (R308, R313, R316, R327) -/

/-- A source code of R313 that the variant has. -/
def State.inputOk (v : State) (code : Nat) : Bool :=
  let n := code % 0x8000
  let top := 8 * portCount v.variant
  decide (n ≤ 1) || n == 0x7FFF || (decide (0x100 ≤ n) && decide (n < 0x110)) || (decide (0x200 ≤ n) && decide (n < 0x210))
    || (decide (0x300 ≤ n) && decide (n < 0x300 + top)) || (decide (0x500 ≤ n) && decide (n < 0x500 + top))

/-- What the command entries of a port break (R316). -/
def State.commandBad (v : State) (p : Nat) : Bool :=
  (List.range 8).any fun c =>
    let codes := inputCodes (v.val (0x3510 + p) (c + 1))
    let m := v.commandMap p c
    let r := v.linkRec p c
    codes.any (fun x => !v.inputOk x) || (codes.any inputUsed && m / 16384 != 2)
      || (recUsed r && recLocal r == recPeer r)
      || (bit m 15 && !recUsed (v.linkRec p (m % 8)))

/-- A commit changes a link's key epoch and not its key slot (R308). -/
def State.epochAlone (old v : State) (p : Nat) : Bool :=
  (List.range 8).any fun k =>
    let a := old.linkRec p k
    let b := v.linkRec p k
    recUsed a && recUsed b && recEpoch a != recEpoch b && recSlot a == recSlot b

/-- An internal CMAC user names a slot that cannot serve it (R327). -/
def State.cmacBad (v : State) : Bool :=
  v.cmacSlots.any fun n => !v.usageOk n 3 || ((v.slot n).state != .empty && (v.slot n).type != 1)

/-! ## Sensing (R391, R400) -/

/-- Pins of a role with an owner. -/
def State.pinCount (v : State) (role owner : Nat) : Nat := ((List.range 32).filter fun n => v.pinRole n == (role, owner)).length

/-- A channel breaks R391. -/
def State.channelBad (v : State) (m : Nat) : Bool :=
  let mode := v.chan m 4
  let x := v.chan m 5
  let curve := v.chan m 6
  let cj := v.chan m 7
  let q := v.val (0x5200 + curve) 2
  let rate := outputRate (v.chan m 3)
  let f := v.genv x 2
  (v.chan m 1 == 1 && (v.pinCount 1 m != 1 || v.pinCount 2 m != 1 || decide (1 < v.pinCount 3 m)))
    || (mode != 0 && v.genv x 1 == 0) || (mode == 1 && v.pinCount 6 x == 0)
    || (mode != 0 && v.genv x 1 == 2 && (f % rate != 0 || decide (f < 4 * rate)))
    || (q != 0 && q != mode + 1)
    || (decide (5 ≤ curve) && decide (curve ≤ 7) && decide (1 ≤ cj) && decide (cj ≤ 8)
      && (cj - 1 == m || decide (v.chan (cj - 1) 6 < 1) || decide (4 < v.chan (cj - 1) 6)))

/-- A generator breaks R391. -/
def State.generatorBad (v : State) (x : Nat) : Bool :=
  v.genv x 1 != 0 && (v.pinCount 4 x != 1 || v.pinCount 5 x != 1 || v.pinCount 6 x != v.pinCount 7 x || decide (1 < v.pinCount 6 x))

/-- A pin names no role or no owner (R391). -/
def State.pinBad (v : State) (n : Nat) : Bool :=
  let r := v.pinRole n
  decide (8 ≤ r.1) || (decide (4 ≤ r.1) && decide (4 ≤ r.2))

/-- An analogue output whose ends 5400.03 and 5400.04 are one value (R404). -/
def State.outputBad (v : State) (x : Nat) : Bool :=
  f32ToFrac (v.val (0x5400 + x) 3) == f32ToFrac (v.val (0x5400 + x) 4)

/-- A threshold switch breaks R400. -/
def State.switchBad (v : State) (n : Nat) : Bool :=
  let u := f32ToFrac (v.swv n 4)
  let l := f32ToFrac (v.swv n 5)
  let h := f32ToFrac (v.swv n 6)
  decide (2 ≤ v.swv n 3) && (!l.lt u || (v.swv n 3 == 3 && !((Frac.ofInt 2).mul h).lt (u.sub l)))

/-! ## The whole (R54) -/

/-- A domain that may not be switched off is (R435). -/
def State.domainsBad (v : State) : Bool :=
  (List.range 30).any fun d =>
    v.domainUnwanted d &&
      (!([19, 20, 21, 26].contains d) || (d == 26 && v.flag 0x3800 5)
        || (List.range (portCount v.variant)).any fun p => domainOf 1 p == d && v.portEnabled p)

/-- Cross-entry validation of the values that a commit leaves in force: 0, INCONSISTENT or OUT_OF_RANGE (R54, R472 step 14). -/
def State.commitCode (old v : State) : Nat :=
  if v.val 0x1210 4 = v.val 0x1210 5 ∨ v.setPorts.any v.lanesBad ∨ v.planBad
      ∨ (List.range 48).any (fun e => v.envelopeBad (16 + e))
      ∨ (List.range 8).any (fun n => (inputCodes (v.val 0x3500 (n + 1))).any fun x => !v.inputOk x)
      ∨ (List.range (portCount v.variant)).any (fun p => v.commandBad p || old.epochAlone v p)
      ∨ v.val 0x3400 3 < 2 * v.val 0x3400 2 ∨ v.cmacBad
      ∨ (List.range 8).any v.channelBad ∨ (List.range 4).any v.generatorBad ∨ (List.range 32).any v.pinBad
      ∨ (List.range 6).any (fun n => v.curveBad (10 + n)) ∨ (List.range 16).any v.switchBad ∨ (List.range 4).any v.outputBad
      ∨ v.domainsBad ∨ v.val 0x6040 2 < v.val 0x6040 1 then 0x0010
  else if (List.range 4).any fun x => v.genv x 1 == 2 && (f32ToFrac (v.genv x 3)).lt (Frac.ofInt 0) then acRange else 0

end Sys2Proof.Machine
end

