-- ==== Sys2Proof/Machine/Apply.lean ====
section
/-! DEFINITION. Values taking effect (R39, R54-R56, R83): what the blocks do when a boundary brings other values into force, and the epoch. -/

namespace Sys2Proof.Machine

/-- An entry differs from what it was. -/
def State.differs (s old : State) (key : Nat) : Bool := s.raw key != old.raw key

/-- Some entry of an index differs. -/
def State.indexDiffers (s old : State) (idx : Nat) : Bool :=
  (s.dict.filter fun e => idxOf e.1 == idx) != (old.dict.filter fun e => idxOf e.1 == idx)

/-- A lane after a change of its values (R131, R151): a restart, or its group mutes lifted. -/
def State.settleLane (s old : State) (p l : Nat) : State :=
  let k := laneKey p l
  let u := if [1, 2, 3, 4].any fun i => s.differs old (k 0x2008 i) then s.restartLane p l (old.isCommandLane p l) else s
  let env := s.lval p l 0x200C 1
  if [k 0x200C 1, k 0x200C 2, keyOf (0x2900 + env) 2, keyOf (0x2900 + env) 3].any fun i => s.differs old i then
    (u.setTx p l { (u.lane p l).tx with
      mutedGroups := [], clips := (u.lane p l).tx.clips.filter fun e => !(u.lane p l).tx.mutedGroups.contains e.1 }).relevel p l
  else u

/-- A port after a change of its values (R115, R116, R131, R183, R474). -/
def State.settlePort (s old : State) (p : Nat) : State :=
  let u := s.each (List.range 4) fun v l => v.settleLane old p l
  let u := (u.portPolicy p).settleBands p
  let u := if s.differs old (portKey p 0x2003 1) then u.echoImpedance p .nb else u
  let u := if s.differs old (portKey p 0x2003 2) then u.echoImpedance p .bb else u
  u.settlePortRx p

/-- A lowered maximum NSYM stays accepted for the changeover window (R209). -/
def State.settleProfile (s old : State) (n : Nat) : State :=
  if s.maxNsym n < old.maxNsym n then
    let still := (Table.get [] s.mgr.oldNsym n).filter fun e => decide (s.beat < e.2)
    { s with mgr := { s.mgr with oldNsym := Table.put [] s.mgr.oldNsym n ((old.maxNsym n, s.beat + s.val 0x1400 6) :: still) } }
  else s

/-- Ring sequence state starts anew where its key slot or a peer's address changes (R48). -/
def State.settlePeers (s : State) : State :=
  let n := s.val 0x1603 2
  let u := if n = s.mgr.seqSlot then s else { s with mgr := { s.mgr with lastSeq := [], ownSeq := [], seqSlot := n } }
  u.each (List.range 32) fun v i =>
    let mac := v.val 0x1601 (i + 1)
    if mac = Table.get 0 v.mgr.seqPeers i then v
    else { v with mgr := { v.mgr with
      lastSeq := Table.put 0 v.mgr.lastSeq i 0, ownSeq := Table.put 0 v.mgr.ownSeq i 0,
      seqPeers := Table.put 0 v.mgr.seqPeers i mac } }

/-- The time sources after a change of their order or of the PTP role (R76, R80). -/
def State.settleTime (s old : State) : State :=
  if s.differs old (keyOf 0x1200 6) ∨ s.differs old (keyOf 0x1200 0x0F) then
    { s with time := { s.time with ptpOk := s.time.ptpOk && s.val 0x1200 0x0F != 0 } }.chooseSource.settlePpsOut
  else s.settlePpsOut

/-- The tether after a change of its inputs or lags (R95). -/
def State.settleTether (s old : State) : State :=
  if [3, 4, 5, 6].any fun i => s.differs old (keyOf 0x1210 i) then s.tetherCommit old.lagSlots (s.differs old (keyOf 0x1210 3)) else s

/-- Links whose key slot and epoch a commit changes together (R308). -/
def State.settleKeys (s old : State) : State :=
  s.each ((List.range (portCount s.variant)).filter fun p => s.indexDiffers old (0x3440 + p)) fun u p =>
    u.each ((List.range 8).filter fun k => s.differs old (keyOf (0x3440 + p) (k + 1))) fun v k => v.rekeyLink p k (old.linkRec p k)

/-- A page of a function of role none holds ENABLE of its cipher and check pages at 0 (R340, R359). -/
def State.settlePages (s : State) : State :=
  s.each ((s.pages.map Prod.fst).filter fun f => s.val 0x1600 (f + 1) == 0) fun u f =>
    u.setPage f { u.page f with ciphEnable := false, chkEnable := false }

/-- Everything that follows values coming into force at a boundary; `old` is the state before them. -/
def State.applyConfig (s old : State) : State :=
  let u := (((s.settleTime old).settleTether old).settlePeers).settleDomains.settlePages
  let u := u.each ((List.range (portCount s.variant)).filter fun p =>
    (s.setPorts.contains p || old.setPorts.contains p)) fun v p => v.settlePort old p
  let u := u.each ((List.range 64).filter fun n => s.indexDiffers old (0x2800 + n)) fun v n => v.settleProfile old n
  let u := (u.settleKeys old).settleSensing old
  u.ringTick.settleCommand

/-! ## The epoch (R41, R56, R60) -/

/-- Digests are recomputed: the active ones are not valid until then (R60). -/
def State.digestsStale (s : State) : State := { s with mgr := { s.mgr with digestsValid := false } }

/-- Log a commit applied (R56, R450). -/
def State.logCommit (s : State) : State :=
  s.event (srcOf 5 5 0) 0x0301 sevNotice (toBE 4 s.mgr.epoch ++ toBE 8 s.beat)

/-- The epoch counts one commit (R56); 0 is skipped. -/
def State.bumpEpoch (s : State) : State :=
  let e := if s.mgr.epoch = 0xFFFFFFFF then 1 else s.mgr.epoch + 1
  ({ s with mgr := { s.mgr with epoch := e, prevEpoch := s.mgr.epoch, epochBeat := some s.beat } }.digestsStale).logCommit

/-- Committed values come into force together (R30, R56). -/
def State.commitValues (s : State) (l : Table Bytes) : State := s.each l fun u e => u.commitValue e.1 e.2

/-- Shadow loads at a boundary (R39, R41, R83): what was written in the ending beat comes into force, rwq values of blocks that do not run
with their release (R40); each rwq write or bundle counts as a commit. -/
def State.loadWritten (s : State) : State :=
  if s.written = [] ∧ s.mgr.bumps = 0 then s
  else
    let quiet : Nat × Bytes → Bool := fun e => match descOf s.variant e.1 with | some d => d.access == .rwq | none => false
    let u := (s.overlay (s.written.filter fun e => !quiet e)).commitValues (s.written.filter quiet)
    let u := { u with written := [], mgr := { u.mgr with bumps := 0 } }
    (u.each (List.range s.mgr.bumps) fun v _ => v.bumpEpoch).applyConfig s

/-- The staging is empty (R55, R56). -/
def Manager.unstaged (m : Manager) : Manager :=
  { m with staging := [], stagingState := 0, owner := 0xFFFF, activation := 0, commit := none, stagedDigests := [] }

/-- At the activation boundary all committed values come into force together, the epoch counts, staging empties (R56, R83). -/
def State.activateCommit (s : State) : State :=
  if s.mgr.stagingState = 2 ∧ s.mgr.commit = none ∧ s.mgr.activation ≤ s.beat then
    let u := s.commitValues s.mgr.staging
    (({ u with mgr := u.mgr.unstaged }).bumpEpoch).applyConfig s
  else s

end Sys2Proof.Machine
end

