-- ==== Sys2Proof/Machine/Windows.lean ====
section
/-! DEFINITION. The table windows (R66, R248, R273, R281, R449): reading a record, the tests of a written one, and its taking effect at
a beat boundary. -/

namespace Sys2Proof.Machine

/-- Record size of a window (R66). -/
def windowSize (w : Nat) : Nat := [16, 16, 64, 32][w]?.getD 0

/-- Records one request may name (R66). -/
def windowLimit (w : Nat) : Nat := [64, 64, 21, 43][w]?.getD 0

/-- Positions a window has on the variant (R66, 3200.01-3200.04). -/
def windowPositions (v : Variant) (w : Nat) : Nat :=
  [8 * endpointSpace v, 4 * endpointSpace v, linkRecords, 65536][w]?.getD 0

/-- Endpoint a position of window 0 or 1 belongs to. -/
def windowEndpoint (w pos : Nat) : Nat := if w = 0 then pos / 8 else pos / 4

/-- Test of a position (R66, R270): the module's own and broadcast's have no records (log 34). -/
def State.positionCode (s : State) (w pos : Nat) : Nat :=
  if w ≤ 1 ∧ pos < windowPositions s.variant w ∧ (windowEndpoint w pos = 0 ∨ windowEndpoint w pos = broadcastId) then acRange
  else if windowPositions s.variant w ≤ pos then acAbsent else 0

/-! ## Records -/

/-- Codes of R249. -/
def spoolStateCode : SpoolState → Nat
  | .empty => 0
  | .ready => 1
  | .waiting => 2
  | .disabled => 3
  | .unrouted => 4

/-- Codes of R281. -/
def linkStateCode : LinkState → Nat
  | .free => 0
  | .mapped => 1
  | .robust => 2
  | .stale => 3

/-- A field: `v` in the bits from `lo`. -/
def field (v lo : Nat) : Nat := v * 2 ^ lo

/-- A route entry as a record (R273), with the value and the AGE it had at the last boundary (R279); the AGE of a pinned one is 0. -/
def State.routeRecord (s : State) (pos : Nat) : Bytes :=
  let r := (Table.find s.routes.before pos).getD (s.route pos)
  let age := if r.valid && !r.pinned then min 0xFFFF ((beatNs * s.beat - r.confirmed) / 1000000000) else 0
  toBE 16 (field (ofBool r.valid) 127 + field (ofBool r.pinned) 126 + field r.next 108 + field r.port 102 + field r.lane 100
    + field r.prof 94 + field r.link 76 + field r.metric 60 + field age 44 + field r.hops 40 + field r.writer 31 + field r.fails 23
    + field (ofBool (r.sel && r.valid)) 22)

/-- A spool descriptor as a record (R248). -/
def State.spoolRecord (s : State) (k : Nat) : Bytes :=
  let x := s.spool k
  let hs := (x.queue.map QueueItem.handle).dedup
  toBE 16 (field (hs.head?.getD 0) 96 + field (hs.getLast?.getD 0) 64 + field (min 32767 x.depth) 49 + field (ofBool x.ackDue) 48
    + field (min 65535 x.deficit) 32 + field x.greq 23 + field x.txSeq 15 + field x.rxBase 7 + field x.flight.length 3
    + spoolStateCode x.state)

/-- A link record (R281). -/
def State.linkRecord (s : State) (k : Nat) : Bytes :=
  let x := s.link k
  toBE 1 (linkStateCode x.state) ++ toBE 1 x.port ++ toBE 1 x.lane ++ toBE 1 x.offset ++ toBE 4 x.peer
    ++ toBE 6 x.dn.key ++ toBE 6 x.up.key ++ toBE 1 (x.dn.fallback * 16 + x.up.fallback)
    ++ toBE 1 (x.versionDn * 16 + x.versionUp) ++ toBE 1 (x.dn.sets * 16 + x.up.sets)
    ++ toBE 1 (128 * ofBool x.pending + 64 * ofBool x.acked) ++ toBE 8 x.actCycle ++ toBE 4 x.heap ++ toBE 2 x.cost
    ++ toBE 1 x.prof ++ [0] ++ toBE 8 x.lastRx ++ toBE 2 x.writer ++ [0, 0] ++ toBE 4 x.planned ++ List.replicate 8 0

/-- A log record (R449). -/
def logBytes (r : LogRecord) : Bytes :=
  toBE 8 r.time ++ toBE 2 r.source ++ toBE 2 r.code ++ toBE 1 r.severity ++ toBE 1 r.flags ++ toBE 2 r.issue ++ slice r.data 0 16

/-- A record as read through its window. -/
def State.windowRecord (s : State) (w pos : Nat) : Bytes :=
  if w = 0 then s.routeRecord pos
  else if w = 1 then s.spoolRecord pos
  else if w = 2 then s.linkRecord pos
  else (Table.find s.log.records pos).elim (List.replicate 32 0) logBytes

/-- `n` records from a position on. -/
def State.windowRecords (s : State) (w pos n : Nat) : Bytes := (List.range n).flatMap fun i => s.windowRecord w (pos + i)

/-! ## Written records -/

/-- The route entry a written record stands for (R273): a host's write confirms the entry, AGE from now and FAILS 0 (DESIGN CHOICE, log 55). -/
def routeOfRecord (n writer now : Nat) : RouteEntry :=
  { valid := bit n 127, pinned := bit n 126, next := bits n 125 108, port := bits n 107 102, lane := bits n 101 100, prof := bits n 99 94,
    link := bits n 93 76, metric := bits n 75 60, confirmed := now, hops := bits n 43 40, writer := writer }

/-- Encoding tests of a written record (R249, R278; the slot offset of R281, log 34). -/
def recordCode (w : Nat) (rec : Bytes) : Nat :=
  let n := ofBE rec
  if w = 0 then (if n % 2 ^ 22 = 0 then 0 else acRange)
  else if w = 1 then (if n % 8 = 0 ∨ n % 8 = 3 ∨ n % 8 = 7 then 0 else acRange)
  else if w = 2 then (let o := beAt rec 3 1; if bit o 7 ∧ 24 ≤ o % 32 then acRange else 0)
  else 0

/-- A written route record agrees with the configuration and the links (R278); a NEXT above the endpoint ID space is INCONSISTENT as R278 has it,
not absent as R3 might (DESIGN CHOICE, log 55). -/
def State.routeRecordOk (s : State) (pos : Nat) (rec : Bytes) : Bool :=
  let r := routeOfRecord (ofBE rec) 0 0
  let x := s.link r.link
  s.isEndpoint r.next && s.hasPort r.port && s.pval r.port 0x2000 1 == 1 && s.isDataLane r.port r.lane
    && s.profileServed r.port r.lane r.prof
    && (r.link == noLink || (x.state != .free && x.port == r.port && x.lane == r.lane && x.peer == r.next))
    && decide (1 ≤ r.hops) && (r.hops != 1 || r.next == pos / 8)

/-- A window record takes effect (R66, R249, R278, R281). -/
def State.applyRecord (s : State) (q : WindowRecord) : State :=
  if q.window = 0 then
    s.writeRoute q.pos { routeOfRecord (ofBE q.data) q.writer s.tsc with sel := (s.route q.pos).sel }
  else if q.window = 1 then
    let st := ofBE q.data % 8
    if st = 3 then s.spoolOff q.pos else if st = 7 then s.spoolFlushOp q.pos else s.spoolOn q.pos
  else if (s.link q.pos).state = .free then s
  else if beAt q.data 0 1 = 0 then s.releaseBy q.pos q.writer
  else s.offsetBy q.pos q.writer (beAt q.data 3 1)

/-- The window records of the ending beat take effect, and the firmware updates that no host write of this boundary overrides (R66,
R279). -/
def State.applyRecords (s : State) : State :=
  let l := s.mgr.records
  let u := ({ s with mgr := { s.mgr with records := [] } }).each l State.applyRecord
  u.applyUpdates ((l.filter fun (q : WindowRecord) => q.window == 0).map WindowRecord.pos)

end Sys2Proof.Machine
end

