-- ==== Sys2Proof/Machine/ManagerOps.lean ====
section
/-! DEFINITION. The configuration manager's requests (R38-R58, R66, R67, R472): messages and their tags, the order of service, the tests
in their order, and what an accepted write does at once. -/

namespace Sys2Proof.Machine

/-! ## Abort codes (R67) -/

/-- Abort codes of R67. -/
def acType : Nat := 0x0002
/-- Abort codes of R67. -/
def acLength : Nat := 0x0003
/-- Abort codes of R67. -/
def acReadOnly : Nat := 0x0005
/-- Abort codes of R67. -/
def acWriteOnly : Nat := 0x0006
/-- Abort codes of R67. -/
def acRunning : Nat := 0x0008
/-- Abort codes of R67. -/
def acHeld : Nat := 0x0009
/-- Abort codes of R67. -/
def acBusyStaging : Nat := 0x000A
/-- Abort codes of R67. -/
def acLocked : Nat := 0x000B
/-- Abort codes of R67. -/
def acFull : Nat := 0x000C
/-- Abort codes of R67. -/
def acNothing : Nat := 0x000D
/-- Abort codes of R67. -/
def acSoon : Nat := 0x000E
/-- Abort codes of R67. -/
def acFar : Nat := 0x000F
/-- Abort codes of R67. -/
def acInconsistent : Nat := 0x0010
/-- Abort codes of R67. -/
def acMixed : Nat := 0x0011
/-- Abort codes of R67. -/
def acEpoch : Nat := 0x0012
/-- Abort codes of R67. -/
def acProtocol : Nat := 0x0013
/-- Abort codes of R67. -/
def acBusy : Nat := 0x0014

/-! ## Records of writes (R49) -/

/-- One WRITE body. -/
structure WriteRec where
  idx : Nat
  sub : Nat
  ty : Nat
  value : Bytes
deriving DecidableEq, Repr

/-- Key of the entry a record writes. -/
def WriteRec.key (w : WriteRec) : Nat := keyOf w.idx w.sub

/-- The WRITE body at the front of `b`, which holds at least its 8 leading bytes. -/
def writeRecOf (b : Bytes) : WriteRec := ⟨beAt b 0 2, beAt b 2 1, beAt b 3 1, (b.drop 8).take (beAt b 4 2)⟩

/-- `n` WRITE bodies, each padded with zeros to a multiple of 4 bytes, and nothing after them. -/
def writeRecs : Nat → Bytes → Option (List WriteRec)
  | 0, b => if b = [] then some [] else none
  | n + 1, b =>
    let size := 8 + beAt b 4 2
    let padded := (size + 3) / 4 * 4
    if b.length < padded ∨ b.length < 8 ∨ beAt b 6 2 ≠ 0 ∨ allZero ((b.take padded).drop size) = false then none
    else (writeRecs n (b.drop padded)).map (writeRecOf b :: ·)

/-- The records of a WRITE or BUNDLE request. -/
def Request.recs (r : Request) : List WriteRec :=
  if r.type = 2 then [writeRecOf r.body] else (writeRecs (beAt r.body 0 1) (r.body.drop 4)).getD []

/-! ## Messages (R46, R49) -/

/-- The body has the layout of its type, reserved and padding bytes zero (R49). -/
def bodyOk (type : Nat) (b : Bytes) : Bool :=
  if type = 1 then b.length == 4 && beAt b 3 1 == 0
  else if type = 2 then decide (8 ≤ b.length) && b.length == 8 + beAt b 4 2 && beAt b 6 2 == 0
  else if type = 3 then
    decide (4 ≤ b.length) && decide (1 ≤ beAt b 0 1) && decide (beAt b 0 1 ≤ 64) && beAt b 1 3 == 0
      && (writeRecs (beAt b 0 1) (b.drop 4)).isSome
  else if type = 4 then b.length == 8 && beAt b 1 1 == 0
  else if type = 5 then
    decide (8 ≤ b.length) && beAt b 1 1 == 0 && (decide (3 < beAt b 0 1) || b.length == 8 + beAt b 2 2 * windowSize (beAt b 0 1))
  else type == 7 && b.isEmpty

/-- The message carries a tag. -/
def msgTagged (m : Bytes) : Bool := bit (beAt m 0 1) 2

/-- Its sequence number. -/
def msgSeq (m : Bytes) : Nat := beAt m 12 4

/-- The header is well formed and BODY_LEN agrees with the message (R46, R49). -/
def headerOk (m : Bytes) : Bool :=
  decide (16 ≤ m.length) && beAt m 0 1 / 16 == 1 && !bit (beAt m 0 1) 3 && beAt m 6 2 == 0 && decide (beAt m 4 2 ≤ 1400)
    && m.length == 16 + beAt m 4 2 + (if msgTagged m then 8 else 0)

/-- The request a message is, with its requester. -/
def requestOf (who role mac : Nat) (m : Bytes) : Request :=
  { who := who, role := role, mac := mac, type := beAt m 1 1, txn := beAt m 2 2, staged := bit (beAt m 0 1) 0,
    epochCheck := bit (beAt m 0 1) 1, tagged := msgTagged m, expEpoch := beAt m 8 4, body := (m.drop 16).take (beAt m 4 2) }

/-- A message of the module's, without its tag (R46). -/
def message (tagged : Bool) (type txn epoch seq : Nat) (body : Bytes) : Bytes :=
  toBE 1 (16 + 4 * ofBool tagged) ++ toBE 1 type ++ toBE 2 txn ++ toBE 2 body.length ++ [0, 0] ++ toBE 4 epoch ++ toBE 4 seq ++ body

/-! ## Tags (R48) -/

/-- The ring key: that of the slot in 1603.02 while it is READY and holds an AES-128 key. -/
def State.ringKey (s : State) : Option Bytes :=
  let x := s.slot (s.val 0x1603 2)
  if x.state = .ready ∧ x.type = 1 then some x.key else none

/-- Tag of a header and body: CMAC-AES-128 truncated to its first 64 bits. -/
def tagOf (key msg : Bytes) : Bytes := toBE 8 (Aes.cmac key msg / 2 ^ 64)

/-- The tag of a message stands behind its body and verifies under a key. -/
def tagVerifies (key m : Bytes) : Bool :=
  let n := 16 + beAt m 4 2
  decide (n + 8 ≤ m.length) && tagOf key (m.take n) == (m.drop n).take 8

/-- The tests of R48 on a message from peer slot `i`. -/
def State.tagPasses (s : State) (i : Nat) (m : Bytes) : Bool :=
  if msgTagged m then
    (match s.ringKey with
      | some k => tagVerifies k m
      | none => false) && decide (Table.get 0 s.mgr.lastSeq i < msgSeq m)
  else !s.flag 0x1603 3

/-- A tagged message of slot `i` is accepted: its SEQ is recorded. -/
def State.noteSeq (s : State) (i : Nat) (m : Bytes) : State :=
  if msgTagged m then { s with mgr := { s.mgr with lastSeq := Table.put 0 s.mgr.lastSeq i (msgSeq m) } } else s

/-- Send a message to a ring peer, tagged with the module's own SEQ for it, or untagged with SEQ 0. -/
def State.sendPeer (s : State) (i mac type txn : Nat) (tagged : Bool) (body : Bytes) : State :=
  if tagged then
    match s.ringKey with
    | some k =>
      let seq := (Table.get 0 s.mgr.ownSeq i + 1) % 2 ^ 32
      let m := message true type txn s.mgr.epoch seq body
      ({ s with mgr := { s.mgr with ownSeq := Table.put 0 s.mgr.ownSeq i seq } }).sendMessage mac (m ++ tagOf k m)
    | none => s
  else s.sendMessage mac (message false type txn s.mgr.epoch 0 body)

/-! ## Responses (R46, R48, R49, R51, R52) -/

/-- The mailbox takes a response: DONE and its vector, or nothing where it is discarded. -/
def State.mailboxDone (s : State) (f : Nat) (m : Bytes) : State :=
  let x := s.page f
  if x.discard then s.setPage f { x with busy := false, discard := false }
  else
    let u := s.setPage f { x with busy := false, done := true, rspBuf := m, rspLen := m.length }
    if x.irqEn then u.emit (.msix f x.vector) else u

/-- Answer a request with a status and the rest of its body. -/
def State.respond (s : State) (r : Request) (status : Nat) (rest : Bytes) : State :=
  let body := toBE 2 status ++ [0, 0] ++ rest
  let type := 128 + r.type % 128
  if r.who < 64 then s.mailboxDone r.who (message false type r.txn s.mgr.epoch 0 body)
  else s.sendPeer (r.who - 0x100) r.mac type r.txn r.tagged body

/-- What follows the status of a refusal (R49); a bundle names its failing record, and a refused READ has type and length 0 (DESIGN CHOICE,
log 55). -/
def refusalRest (r : Request) (failing : Nat) : Bytes :=
  if r.type = 1 then [0, 0, 0, 0]
  else if r.type = 2 then slice r.body 0 3 ++ [0]
  else if r.type = 3 then toBE 1 failing ++ [0, 0, 0]
  else if r.type = 4 then toBE 2 0 ++ toBE 2 (windowSize (beAt r.body 0 1))
  else if r.type = 5 then [0, 0, 0, 0] else []

/-- Refuse a request. -/
def State.refuse (s : State) (r : Request) (code failing : Nat) : State := s.respond r code (refusalRest r failing)

/-! ## Arrival (R43, R44, R48, R50-R52) -/

/-- The request is well formed (R472, step 1); a mailbox message carries no tag (R48). -/
def State.wellFormed (r : Request) (m : Bytes) : Bool :=
  headerOk m && bodyOk r.type r.body && (decide (64 ≤ r.who) || !r.tagged)

/-- Role of a requester now (R45). -/
def State.roleNow (s : State) (who : Nat) : Nat := if who < 64 then s.roleOf who else s.val 0x1602 (who - 0x100 + 1)

/-- Peer slot of a MAC address (R45). -/
def State.peerSlot (s : State) (mac : Nat) : Option Nat :=
  if mac = 0 then none else firstBelow (fun i => s.val 0x1601 (i + 1) == mac) 32

/-- GO (R51): the request is copied, or ignored while one is in hand. -/
def State.mailboxGo (s : State) (f : Nat) : State :=
  let x := s.page f
  if x.busy then s.setPage f { x with overlap := true }
  else
    let m := Table.getBytes x.reqBuf 0 x.reqLen
    let r := requestOf f (s.roleOf f) 0 m
    let ok := decide (16 ≤ x.reqLen) && decide (x.reqLen ≤ 1536) && State.wellFormed r m
    if ok then s.setPage f { x with busy := true, req := some r }
    else (s.setPage f { x with busy := true }).refuse r acProtocol 0xFF

/-- A word written to MBX_CTRL (R51). -/
def State.mailboxWrite (s : State) (f : Nat) (w : Word32) : State :=
  let u := s.setPage f { s.page f with vector := bits w.toNat 15 8, irqEn := bit w.toNat 0 }
  if bit w.toNat 31 then u.mailboxGo f else u

/-- A message of a ring peer that fails the tests before R472 is dropped and counted. -/
def State.dropMessage (s : State) : State := s.bump 0x1603 1

/-- A request arrives from a ring peer. -/
def State.ringRequest (s : State) (mac : Nat) (m : Bytes) : State :=
  match s.peerSlot mac with
  | none => s.dropMessage
  | some i =>
    let role := s.val 0x1602 (i + 1)
    let r := requestOf (0x100 + i) role mac m
    if role = 0 ∨ s.tagPasses i m = false then s.dropMessage
    else if State.wellFormed r m = false then s.refuse r acProtocol 0xFF
    else if 32 ≤ s.mgr.ringQueue.length then s.refuse r acBusy 0xFF
    else (s.noteSeq i m |> fun u => { u with mgr := { u.mgr with ringQueue := u.mgr.ringQueue ++ [r] } })

/-- A DIGEST_ANNOUNCE arrives from a ring peer (R50, R61, R62): it is compared as its report, and its SEQ is recorded, tagged or
not, though it never enters the ring queue (DESIGN CHOICE, log 55). -/
def State.ringAnnounce (s : State) (mac : Nat) (m : Bytes) : State :=
  match s.peerSlot mac with
  | none => s.dropMessage
  | some i =>
    if s.tagPasses i m = false then s.dropMessage
    else
      let b := (m.drop 16).take (beAt m 4 2)
      let u := s.noteSeq i m
      if headerOk m ∧ b.length = 56 then
        u.compareReport 1 mac (beAt b 0 4) ((List.range 5).map fun k => beAt b (16 + 8 * k) 8)
      else u

/-- The configuration manager's block runs. -/
def State.managerUp (s : State) : Bool := (s.block 5 5).state == .running

/-! ## Order of service (R50) -/

/-- What waits at a source: 0-63 mailboxes, 64 the ring queue. -/
def State.waitingAt (s : State) (k : Nat) : Option Request := if k = 64 then s.mgr.ringQueue.head? else (s.page k).req

/-- The source whose turn it is. -/
def State.nextSource (s : State) : Option Nat :=
  ((List.range 65).map fun i => (s.mgr.turn + i) % 65).find? fun k => (s.waitingAt k).isSome

/-- A source's request is taken; the turn passes to the next source. -/
def State.takeNext (s : State) (k : Nat) : State :=
  let u := { s with mgr := { s.mgr with turn := (k + 1) % 65 } }
  if k = 64 then { u with mgr := { u.mgr with ringQueue := u.mgr.ringQueue.drop 1 } } else u.setPage k { u.page k with req := none }

/-- The rows of the command table that serve requests. -/
inductive Service where
  | read
  | write
  | bundle
  | windowRead
  | windowWrite
  | digestQuery
  | commit
  | abort
  | setTime
  | insertAt
  | clampClear
  | resetFull
  | resetWarm
  | save
  | imageBlock
  | eraseBank
  | verify
  | eraseConfig
  | substitute
  | returnUnit
  | tamperClear
deriving DecidableEq, Repr

/-- Row that serves a WRITE of an entry. -/
def writeService (w : WriteRec) : Service :=
  let k := w.key
  let n := ofBE w.value
  if k = keyOf 0x1400 1 then .commit
  else if k = keyOf 0x1400 2 then .abort
  else if k = keyOf 0x1200 7 then .setTime
  else if k = keyOf 0x3800 7 then .insertAt
  else if k = keyOf 0x5001 2 then .clampClear
  else if k = keyOf 0x1100 0x10 then .resetFull
  else if k = keyOf 0x1100 0x11 then .resetWarm
  else if k = keyOf 0x1100 0x50 then .save
  else if k = keyOf 0x1100 0x53 then .imageBlock
  else if k = keyOf 0x1100 0x54 ∧ n % 256 = 1 then .eraseBank
  else if k = keyOf 0x1100 0x54 ∧ n % 256 = 2 then .verify
  else if k = keyOf 0x1100 0x54 ∧ n % 256 = 3 then .eraseConfig
  else if k = keyOf 0x6062 1 ∧ n / 2 ^ 24 = 1 then .substitute
  else if k = keyOf 0x6062 1 ∧ n / 2 ^ 24 = 2 then .returnUnit
  else if k = keyOf 0x6081 2 then .tamperClear else .write

/-- Row that serves a request. -/
def Request.service (r : Request) : Service :=
  if r.type = 1 then .read
  else if r.type = 2 then writeService (writeRecOf r.body)
  else if r.type = 3 then .bundle
  else if r.type = 4 then .windowRead
  else if r.type = 5 then .windowWrite else .digestQuery

/-! ## Tests 3 to 9 (R472) -/

/-- The first code of a list that is not 0, with its place. -/
def firstCode : Nat → List Nat → Option (Nat × Nat)
  | _, [] => none
  | i, c :: l => if c = 0 then firstCode (i + 1) l else some (i, c)

/-- Codes in order of test: the first that is not 0. -/
def codeOf (l : List Nat) : Nat :=
  match firstCode 0 l with
  | some (_, c) => c
  | none => 0

/-- A code where a test fails. -/
def failIf (c : Bool) (code : Nat) : Nat := if c then code else 0

/-- An entry's description where it is present; in Recovery only 0x1000-0x11FF are (R423). -/
def State.entry (s : State) (idx sub : Nat) : Option Desc :=
  if s.rst.recovery ∧ ¬ (0x1000 ≤ idx ∧ idx ≤ 0x11FF) then none else descOf s.variant (keyOf idx sub)

/-- The request names an epoch that is not the current one (R47). -/
def State.epochDiffers (s : State) (r : Request) : Bool := r.epochCheck && r.expEpoch != s.mgr.epoch

/-- Codes of a READ, tests 3 to 6. -/
def State.readCode (s : State) (r : Request) (idx sub : Nat) (d : Option Desc) : Nat :=
  match d with
  | none => acAbsent
  | some d =>
    codeOf [ failIf (r.role == 0 && !(idx == 0x1000 && decide (1 ≤ sub) && decide (sub ≤ 9))) acNoAccess,
             failIf (d.access == .wo) acWriteOnly, failIf (s.epochDiffers r) acEpoch ]

/-- The role allows a write of an entry (R43). -/
def State.mayWrite (s : State) (r : Request) (w : WriteRec) : Bool :=
  if w.idx = 0x1400 ∧ w.sub = 1 then decide (2 ≤ r.role)
  else if w.idx = 0x1400 ∧ w.sub = 2 then r.role == 3 || (decide (2 ≤ r.role) && (s.mgr.owner == 0xFFFF || s.mgr.owner == r.who))
  else if protectedIdx w.idx then r.role == 3 else decide (2 ≤ r.role)

/-- Value tests that single entries state in words (R272, R313, R390, R425, R443). -/
def State.valueFits (s : State) (idx sub : Nat) (v : Bytes) : Bool :=
  let n := ofBE v
  if idx = 0x3210 ∧ sub = 0x0A then decide (1 ≤ n) && decide (n + 0x7FFF < endpointSpace s.variant)
  else if 0x3410 ≤ idx ∧ idx < 0x3440 then bits n 12 3 == 0
  else if 0x3440 ≤ idx ∧ idx < 0x3470 then beAt v 0 1 / 2 == 0 && beAt v 3 1 == 0
  else if idx = 0x5000 then bits n 11 3 == 0
  else if idx = 0x1100 ∧ sub = 0x53 then
    (beAt v 0 1 == 1 || beAt v 0 1 == 2) && (beAt v 1 1 == 1 || beAt v 1 1 == 2) && beAt v 2 2 == 0
  else if idx = 0x1100 ∧ sub = 0x54 then (n / 256 == 1 || n / 256 == 2) && decide (1 ≤ n % 256) && decide (n % 256 ≤ 3)
  else if idx = 0x6062 then (n / 2 ^ 24 == 1 || n / 2 ^ 24 == 2) && n / 2 ^ 16 % 256 == 0
  else true

/-- Codes of one write, tests 3 to 9. -/
def State.writeCode (s : State) (r : Request) (w : WriteRec) : Nat :=
  match s.entry w.idx w.sub with
  | none => acAbsent
  | some d =>
    codeOf
      [ failIf (!s.mayWrite r w) acNoAccess, failIf (shows d.access) acReadOnly, failIf (s.epochDiffers r) acEpoch,
        failIf (w.ty != tyCode d.ty) acType, failIf (!lengthOk d w.value.length) acLength,
        failIf (!valueOk d w.value || !s.valueFits w.idx w.sub w.value) acRange,
        match ownerBlock w.idx with
        | some b => failIf (s.held b.1 b.2) acHeld
        | none => 0 ]

/-! ## Tests 10 to 14 (R472) -/

/-- Right of the entry a record writes, which is present. -/
def State.right (s : State) (w : WriteRec) : Access :=
  match s.entry w.idx w.sub with
  | some d => d.access
  | none => .const

/-- The block that owns an entry does not run it (R40, R120). -/
def State.quiesced (s : State) (idx : Nat) : Bool :=
  let still : Nat × Nat → Bool := fun b => (s.block b.1 b.2).state == .off || (s.block b.1 b.2).state == .reset
  (match ownerBlock idx with
    | some b => still b
    | none => true)
    || (inPortBlock idx && [PortState.off, .stopped, .fault].contains (s.port (portOfIdx idx)).state)

/-- Test 10: a bundle mixes rights or holds a commit or abort. -/
def State.mixedCode (s : State) (r : Request) (first w : WriteRec) : Nat :=
  failIf (r.type == 3 && (((w.idx == 0x1400) && (w.sub == 1 || w.sub == 2)) || (s.right w == .rws) != (s.right first == .rws))) acMixed

/-- Test 11 of one record: its block runs. -/
def State.runningCode (s : State) (w : WriteRec) : Nat := failIf (s.right w == .rwq && !s.quiesced w.idx) acRunning

/-- Test 11 of one record: a commit is scheduled. -/
def State.quiesceCode (s : State) (w : WriteRec) : Nat := failIf (s.right w == .rwq && s.mgr.stagingState == 2) acLocked

/-- Staged entries once the records up to the `n`th have been added. -/
def State.stagedCount (s : State) (l : List WriteRec) (n : Nat) : Nat :=
  s.mgr.staging.length + (((l.take (n + 1)).map WriteRec.key).dedup.filter fun k => (Table.find s.mgr.staging k).isNone).length

/-- Test 12 of the `n`th record. -/
def State.stageCode (s : State) (r : Request) (l : List WriteRec) (n : Nat) (w : WriteRec) : Nat :=
  if s.right w = .rws then
    codeOf [ failIf (s.mgr.owner != 0xFFFF && s.mgr.owner != r.who) acBusyStaging, failIf (s.mgr.stagingState == 2) acLocked,
             failIf (decide (4096 < s.stagedCount l n)) acFull ]
  else 0

/-- Test 13: commit and abort (R54, R55). -/
def State.commitTest (s : State) (r : Request) (w : WriteRec) : Nat :=
  if w.key = keyOf 0x1400 1 then
    let b := ofBE w.value
    codeOf [ failIf (s.mgr.stagingState == 0) acNothing,
             failIf (s.mgr.owner != r.who && !(r.role == 3 && decide (s.roleNow s.mgr.owner < 2))) acBusyStaging,
             failIf (s.mgr.stagingState == 2) acLocked, failIf (b != 0 && decide (b < s.beat + 4)) acSoon,
             failIf (decide (s.beat + 90000000 < b)) acFar ]
  else if w.key = keyOf 0x1400 2 then failIf (s.mgr.stagingState == 0) acNothing else 0

/-- A flash bank by its number (R420-R425). -/
def State.bank (s : State) (b : Nat) : Bank := if b = 1 then s.rst.bankA else s.rst.bankB

/-- Write a flash bank. -/
def State.setBank (s : State) (b : Nat) (x : Bank) : State :=
  if b = 1 then { s with rst := { s.rst with bankA := x } } else { s with rst := { s.rst with bankB := x } }

/-- Bytes `offset` to `offset + n` of an image region have been written since its last erase (R425). -/
def Bank.dirty (x : Bank) (kind offset n : Nat) : Bool :=
  (if kind = 1 then x.fwPresent else x.config.isSome)
    || x.blocks.any fun e => decide (e.1 < kind * 2 ^ 32 + offset + n) && decide (kind * 2 ^ 32 + offset < e.1 + e.2.length)

/-- A block that waits for the boundary overlaps one (R425). -/
def State.blockWaits (s : State) (v : Bytes) : Bool :=
  s.mgr.actions.any fun a =>
    a.key == keyOf 0x1100 0x53 && slice a.value 0 2 == slice v 0 2
      && decide (beAt a.value 4 4 < beAt v 4 4 + (v.length - 8)) && decide (beAt v 4 4 < beAt a.value 4 4 + (a.value.length - 8))

/-- Ageing index of a primary (R436, R443). -/
def State.indexOf (s : State) (src : Nat) : Nat :=
  let b := srcBlk src
  let c := srcCell src
  if srcRegion src = 1 then max (wear (s.ageing 0x6042 (b + 1) 0)) (wear (s.ageing 0x6043 (b + 1) 0))
  else if srcRegion src = 2 ∧ b < 16 then wear (s.ageing 0x6045 (b + 1) c)
  else if srcRegion src = 2 then wear (s.ageing 0x6046 (b - 15) c)
  else if srcRegion src = 3 then wear (s.ageing 0x6046 3 c)
  else max (wear (s.ageing 0x6044 (3 + 2 * c) 0)) (wear (s.ageing 0x6044 (4 + 2 * c) 0))

/-- Test of a ballast command (R443). -/
def State.ballastCode (s : State) (n : Nat) : Nat :=
  let src := n % 65536
  if n / 2 ^ 24 = 1 then
    let ordered := s.sup.requests.any fun q => q.primary == src && q.reason == 2
    failIf (!ordered && ((s.unitServing src).isSome || (s.idleUnit src).isNone)) acInconsistent
  else
    match s.unitServing src with
    | some u =>
      failIf ((s.unit u).state != 3 || decide (s.val 0x6040 2 ≤ s.indexOf src) || s.sup.selfTestFailed.contains src) acInconsistent
    | none => acInconsistent

/-- The key of an envelope's segment count 29xx.02, which its segments must agree with (R146). -/
def isSegmentCount (key : Nat) : Bool := key / 65536 == 0x29 && key % 256 == 2

/-- Test 14 of one record; `v` is the state with the values of all records in force. -/
def State.crossCode (s v : State) (w : WriteRec) : Nat :=
  let k := w.key
  let n := ofBE w.value
  if k = keyOf 0x1603 2 then failIf v.cmacBad acInconsistent
  else if k = keyOf 0x1200 7 then failIf (disciplined s.time.state) acInconsistent
  else if k = keyOf 0x3800 7 then
    codeOf [ failIf (!((s.ring.state == .waitSteady && s.ring.steady) || s.flag 0x3800 6)) acInconsistent,
             failIf (n != 0 && decide (n < s.beat + 4)) acSoon ]
  else if inPortBlock w.idx ∧ 8 ≤ (w.idx - 0x2000) % 0x20 ∧ (w.idx - 0x2000) % 0x20 < 0x0C ∧ (w.sub = 0x0A ∨ w.sub = 0x0B) then
    failIf (v.shaperBad (portOfIdx w.idx) (laneOfIdx w.idx)) acInconsistent
  else if 0x2910 ≤ w.idx ∧ w.idx < 0x2940 ∧ w.sub = 3 then
    failIf (!segmentsOk w.value || w.value.length != 8 * v.val w.idx 2) acInconsistent
  else if k = keyOf 0x1100 0x50 then
    codeOf [ failIf (s.mgr.stagingState == 2) acLocked,
             failIf (!(s.bank n).fwValid || (s.bank n).fwRelease != s.rst.release) acInconsistent ]
  else if k = keyOf 0x1100 0x53 then
    let b := beAt w.value 0 1
    let kind := beAt w.value 1 1
    failIf ((kind == 1 && b == s.rst.bootBank) || (s.bank b).dirty kind (beAt w.value 4 4) (w.value.length - 8) || s.blockWaits w.value)
      acInconsistent
  else if k = keyOf 0x1100 0x54 then failIf (n % 256 == 1 && n / 256 == s.rst.bootBank) acInconsistent
  else if k = keyOf 0x6062 1 then s.ballastCode n
  else 0

/-- All tests of a WRITE or BUNDLE: the failing record and its code. -/
def State.writeTests (s : State) (r : Request) (l : List WriteRec) : Option (Nat × Nat) :=
  let first := l.head?.getD ⟨0, 0, 0, []⟩
  let v := ((s.view.overlay (s.mgr.staging.filter fun e => isSegmentCount e.1)).overlay s.written).overlay ((l.filter fun (w : WriteRec) =>
    s.right w == .rw || s.right w == .rwq || isSegmentCount w.key).map fun (w : WriteRec) => (w.key, w.value))
  (firstCode 0 (l.map (s.writeCode r))).orElse fun _ =>
  (firstCode 0 (l.map (s.mixedCode r first))).orElse fun _ =>
  (firstCode 0 (l.map s.runningCode)).orElse fun _ =>
  (firstCode 0 (l.map s.quiesceCode)).orElse fun _ =>
  (firstCode 0 ((l.zip (List.range l.length)).map fun e => s.stageCode r l e.2 e.1)).orElse fun _ =>
  (firstCode 0 (l.map (s.commitTest r))).orElse fun _ => firstCode 0 (l.map (s.crossCode v))

/-! ## Accepted writes (R39, R41, R53-R55) -/

/-- One accepted record: a shadow, the staging, or what a written action does. -/
def State.accept (s : State) (who : Nat) (found : Option BankCheck) (w : WriteRec) : State :=
  let m := s.mgr
  match s.right w with
  | .rw => { s with written := Table.insert s.written w.key w.value }
  | .rwq => { s with written := Table.insert s.written w.key w.value }
  | .rws => { s with mgr := { m with
      staging := Table.insert m.staging w.key w.value, stagingState := 1, owner := who, stagedDigests := [] } }
  | _ =>
    if w.key = keyOf 0x1200 7 then { s with time := { s.time with setTo := some (ofBE w.value) } }
    else if w.key = keyOf 0x1100 0x10 then { s with rst := { s.rst with requested := some ⟨4, 2⟩ } }
    else if w.key = keyOf 0x1100 0x11 then
      { s with rst := { s.rst with requested := if s.rst.requested = none then some ⟨5, 3⟩ else s.rst.requested } }
    else { s with mgr := { m with actions := m.actions ++ [⟨w.key, w.value, found⟩] } }

/-- The save and image commands leave their result in 1100.51 (R431). -/
def State.noteImage (s : State) (w : WriteRec) (code : Nat) : State :=
  if w.idx = 0x1100 ∧ (w.sub = 0x50 ∨ w.sub = 0x53 ∨ w.sub = 0x54) then s.setVal 0x1100 0x51 code else s

/-- What follows the status of an answer to a WRITE or BUNDLE. -/
def writeRest (r : Request) : Bytes := refusalRest r 0xFF

/-- WRITE and BUNDLE (R39, R49, R57): the tests, then every record or none. -/
def State.performWrite (s : State) (r : Request) (found : Option BankCheck) : State :=
  let l := r.recs
  match s.writeTests r l with
  | some (n, code) =>
    let u := match l[n]? with
      | some w => if w.key = keyOf 0x1400 1 ∧ r.type = 2 then s.setVal 0x1400 9 code else s.noteImage w code
      | none => s
    u.refuse r code n
  | none =>
    let u := s.each l fun u w => u.accept r.who found w
    let u := if l.any fun w => s.right w == .rwq then { u with mgr := { u.mgr with bumps := u.mgr.bumps + 1 } } else u
    u.respond r 0 (writeRest r)

/-- COMMIT (R54): validation, then the distribution, after which the write is answered. -/
def State.performCommit (s : State) (r : Request) : State :=
  let l := r.recs
  match s.writeTests r l with
  | some (_, code) => (s.setVal 0x1400 9 code).refuse r code 0xFF
  | none =>
    let named := ofBE ((l.head?.getD ⟨0, 0, 0, []⟩).value)
    let code := s.view.commitCode ((s.view.overlay s.written).overlay s.mgr.staging)
    if code = 0 then
      { s with mgr := { s.mgr with stagingState := 2, activation := named, commit := some ⟨r, named, s.beat⟩ } }
    else (s.setVal 0x1400 9 code).refuse r code 0xFF

/-- ABORT (R55): staging is emptied and a scheduled commit cancelled at once. -/
def State.performAbort (s : State) (r : Request) : State :=
  match s.writeTests r r.recs with
  | some (_, code) => s.refuse r code 0xFF
  | none => ({ s with mgr := s.mgr.unstaged }).respond r 0 (writeRest r)

/-! ## Reads, windows, digests -/

/-- READ (R39, R49). -/
def State.performRead (s : State) (r : Request) : State :=
  let idx := beAt r.body 0 2
  let sub := beAt r.body 2 1
  let d := s.entry idx sub
  match s.readCode r idx sub d, d with
  | 0, some d =>
    let x := s.readEntry (keyOf idx sub) d r.staged
    x.2.respond r 0 (toBE 1 (tyCode d.ty) ++ [0] ++ toBE 2 x.1.length ++ x.1)
  | code, _ => s.refuse r code 0xFF

/-- Codes of a window request, tests 3 to 7. -/
def State.windowCode (s : State) (r : Request) (write : Bool) : Nat :=
  let w := beAt r.body 0 1
  let n := beAt r.body 2 2
  codeOf [ failIf (decide (3 < w) || s.rst.recovery) acAbsent, failIf (decide (r.role < (if write then 2 else 1))) acNoAccess,
           failIf (write && w == 3) acReadOnly, failIf (s.epochDiffers r) acEpoch,
           failIf (n == 0 || decide (windowLimit w < n)) acRange ]

/-- WINDOW_READ (R49, R66). -/
def State.performWindowRead (s : State) (r : Request) : State :=
  let w := beAt r.body 0 1
  let n := beAt r.body 2 2
  let pos := beAt r.body 4 4
  let code := codeOf (s.windowCode r false :: (List.range n).map fun i => s.positionCode w (pos + i))
  if code = 0 then s.respond r 0 (toBE 2 n ++ toBE 2 (windowSize w) ++ s.windowRecords w pos n) else s.refuse r code 0xFF

/-- The block whose store a window writes is held (R58); the link store of window 2 is DRAM and no block's (DESIGN CHOICE, log 55). -/
def State.windowHeld (s : State) (w : Nat) : Bool := (w == 0 && s.held 2 16) || (w == 1 && s.held 2 17)

/-- Records of a WINDOW_WRITE. -/
def windowRecs (w n : Nat) (body : Bytes) : List Bytes := (List.range n).map fun i => slice body (8 + i * windowSize w) (windowSize w)

/-- Codes of a WINDOW_WRITE, tests 3 to 14. -/
def State.windowWriteCode (s : State) (r : Request) : Nat :=
  let w := beAt r.body 0 1
  let n := beAt r.body 2 2
  let pos := beAt r.body 4 4
  let first := s.windowCode r true
  let recs := (windowRecs w (if first = 0 then n else 0) r.body).zip (List.range n)
  codeOf (first
    :: (recs.flatMap fun e => [recordCode w e.1, s.positionCode w (pos + e.2)])
    ++ [failIf (s.windowHeld w) acHeld]
    ++ recs.map fun e => failIf (w == 0 && !s.routeRecordOk (pos + e.2) e.1) acInconsistent)

/-- What an accepted WINDOW_WRITE leaves waiting for the boundary. -/
def Request.windowRecords (r : Request) : List WindowRecord :=
  let w := beAt r.body 0 1
  let n := beAt r.body 2 2
  ((windowRecs w n r.body).zip (List.range n)).map fun e => ⟨w, beAt r.body 4 4 + e.2, e.1, r.who⟩

/-- WINDOW_WRITE (R49, R66): the tests, then all records wait for the boundary. -/
def State.performWindowWrite (s : State) (r : Request) : State :=
  let code := s.windowWriteCode r
  if code = 0 then
    ({ s with mgr := { s.mgr with records := s.mgr.records ++ r.windowRecords } }).respond r 0 (toBE 2 (beAt r.body 2 2) ++ [0, 0])
  else s.refuse r code 0xFF

/-- Body of a DIGEST_ANNOUNCE (R49). -/
def State.announceBody (s : State) : Bytes :=
  toBE 4 s.mgr.epoch ++ toBE 1 s.mgr.stagingState ++ [0, 0, 0] ++ toBE 8 s.mgr.activation
    ++ (List.range 5).flatMap fun i => toBE 8 (s.mgr.digests[i]?.getD 0)

/-- DIGEST_QUERY (R49, R61); a function of role none has no access (R43; DESIGN CHOICE, log 55). -/
def State.performQuery (s : State) (r : Request) : State :=
  let code := codeOf [failIf (r.role == 0) acNoAccess, failIf (s.epochDiffers r) acEpoch]
  if code = 0 then s.respond r 0 s.announceBody else s.refuse r code 0xFF

/-- Serve a request. -/
def State.perform (s : State) (r : Request) (found : Option BankCheck) : State :=
  match r.service with
  | .read => s.performRead r
  | .bundle => s.performWrite r none
  | .windowRead => s.performWindowRead r
  | .windowWrite => s.performWindowWrite r
  | .digestQuery => s.performQuery r
  | .commit => s.performCommit r
  | .abort => s.performAbort r
  | _ => s.performWrite r found

/-- The manager may serve the next request: its block runs and no commit is in hand (R50). -/
def State.mayServe (s : State) : Bool := s.managerUp && s.mgr.commit.isNone

/-- Serve the next request in turn, where it is of a command's row (R50). -/
def State.serve (s : State) (k : Service) (found : Option BankCheck) : State :=
  match s.nextSource with
  | none => s
  | some n =>
    match s.waitingAt n with
    | none => s
    | some r => if s.mayServe ∧ r.service = k then (s.takeNext n).perform r found else s

end Sys2Proof.Machine
end

