-- ==== Sys2Proof/Machine/Manager.lean ====
section
/-! DEFINITION. The configuration manager by command (R38-R67, R472). A row that serves requests acts where the next request in turn is its
own. -/

namespace Sys2Proof.Machine

/-! ## Arrival -/

/-- MBX_GO (R44, R51): the word written to MBX_CTRL. -/
def execMbxGo (t f : Nat) (w : Word32) (s : State) : Res :=
  s.run t fun s => if s.open f then s.mailboxWrite f w else s

/-- RING_REQUEST_ARRIVAL (R43, R44, R48, R50). -/
def execRingRequestArrival (t mac : Nat) (msg : Bytes) (s : State) : Res :=
  s.run t fun s =>
    if s.ringUp ∧ s.managerUp then (if beAt msg 1 1 = 6 then s.ringAnnounce mac msg else s.ringRequest mac msg) else s

/-! ## Service -/

/-- READ (R39, R42, R43, R49). -/
def execRead (t : Nat) (s : State) : Res := s.run t fun s => s.serve .read none

/-- WRITE (R39, R49). -/
def execWrite (t : Nat) (s : State) : Res := s.run t fun s => s.serve .write none

/-- BUNDLE (R57). -/
def execBundle (t : Nat) (s : State) : Res := s.run t fun s => s.serve .bundle none

/-- WINDOW_READ (R66). -/
def execWindowRead (t : Nat) (s : State) : Res := s.run t fun s => s.serve .windowRead none

/-- WINDOW_WRITE (R66). -/
def execWindowWrite (t : Nat) (s : State) : Res := s.run t fun s => s.serve .windowWrite none

/-- DIGEST_QUERY (R61). -/
def execDigestQuery (t : Nat) (s : State) : Res := s.run t fun s => s.serve .digestQuery none

/-- COMMIT (R54): a write of 1400.01. -/
def execCommit (t : Nat) (s : State) : Res := s.run t fun s => s.serve .commit none

/-- ABORT (R55): a write of 1400.02. -/
def execAbort (t : Nat) (s : State) : Res := s.run t fun s => s.serve .abort none

/-- SET_STATION_TIME (R78): a write of 1200.07. -/
def execSetStationTime (t : Nat) (s : State) : Res := s.run t fun s => s.serve .setTime none

/-- INSERT_AT_BEAT (R380): a write of 3800.07. -/
def execInsertAtBeat (t : Nat) (s : State) : Res := s.run t fun s => s.serve .insertAt none

/-- CLAMP_FLAG_CLEAR (R397): a write of 5001.02. -/
def execClampFlagClear (t : Nat) (s : State) : Res := s.run t fun s => s.serve .clampClear none

/-- MANAGER_FULL (R408): a write of 1100.10. -/
def execManagerFull (t : Nat) (s : State) : Res := s.run t fun s => s.serve .resetFull none

/-- MANAGER_WARM (R408): a write of 1100.11. -/
def execManagerWarm (t : Nat) (s : State) : Res := s.run t fun s => s.serve .resetWarm none

/-- SAVE_CONFIGURATION (R424): a write of 1100.50. -/
def execSaveConfiguration (t : Nat) (s : State) : Res := s.run t fun s => s.serve .save none

/-- IMAGE_BLOCK (R425): a write of 1100.53. -/
def execImageBlock (t : Nat) (s : State) : Res := s.run t fun s => s.serve .imageBlock none

/-- ERASE_BANK (R425): a write of 1100.54 with action 1. -/
def execEraseBank (t : Nat) (s : State) : Res := s.run t fun s => s.serve .eraseBank none

/-- VERIFY (R421, R425): a write of 1100.54 with action 2. -/
def execVerify (t : Nat) (found : BankCheck) (s : State) : Res := s.run t fun s => s.serve .verify (some found)

/-- ERASE_CONFIGURATION_ONLY (R425): a write of 1100.54 with action 3. -/
def execEraseConfigurationOnly (t : Nat) (s : State) : Res := s.run t fun s => s.serve .eraseConfig none

/-- BALLAST_SUBSTITUTE (R443): a write of 6062.01 with action 1. -/
def execBallastSubstitute (t : Nat) (s : State) : Res := s.run t fun s => s.serve .substitute none

/-- BALLAST_RETURN (R443): a write of 6062.01 with action 2. -/
def execBallastReturn (t : Nat) (s : State) : Res := s.run t fun s => s.serve .returnUnit none

/-- TAMPER_LATCH_CLEAR (R448): a write of 6081.02. -/
def execTamperLatchClear (t : Nat) (s : State) : Res := s.run t fun s => s.serve .tamperClear none

/-! ## Commits (R54, R56) -/

/-- The commit in hand ends without its boundary: 1400.09 records the code, staging stays open (R54). -/
def State.failCommit (s : State) (c : CommitInHand) (code : Nat) : State :=
  let u := { s with mgr := { s.mgr with commit := none, stagingState := 1, activation := 0 } }
  (u.setVal 0x1400 9 code).refuse c.req code 0xFF

/-- COMMIT_DISTRIBUTION_DONE (R54): the write is answered; 0 takes the first boundary after distribution. -/
def execCommitDistributionDone (t : Nat) (s : State) : Res :=
  s.run t fun s =>
    match s.mgr.commit with
    | none => s
    | some c =>
      if c.named ≠ 0 ∧ c.named ≤ s.beat then s.failCommit c acSoon
      else
        let u := { s with mgr := { s.mgr with commit := none, activation := if c.named = 0 then s.beat + 1 else c.named } }
        (u.setVal 0x1400 9 0).respond c.req 0 (writeRest c.req)

/-- COMMIT_ACTIVATE (R56, R83): at the TSC of the activation boundary the committed values come into force, before the boundary's own steps
(log 50); a boundary that begins with the commit still due does it in its step 2. -/
def execCommitActivate (t : Nat) (s : State) : Res :=
  s.run t fun s => if s.managerUp ∧ s.tsc % beatNs = 0 then s.activateCommit else s

/-! ## Digests (R60-R62) -/

/-- DIGEST_RECOMPUTE_DONE (R60). -/
def execDigestRecomputeDone (t : Nat) (staged : Bool) (s : State) : Res :=
  s.run t fun s =>
    if staged then
      if s.mgr.staging = [] then s
      else { s with mgr := { s.mgr with stagedDigests := (s.view.overlay s.mgr.staging).regionDigests } }
    else { s with mgr := { s.mgr with digests := s.view.regionDigests, digestsValid := true } }

/-- DIGEST_ANNOUNCE_RECEIVED (R48, R62). -/
def execDigestAnnounceReceived (t mac : Nat) (msg : Bytes) (s : State) : Res :=
  s.run t fun s => if s.ringUp ∧ s.managerUp ∧ beAt msg 1 1 = 6 then s.ringAnnounce mac msg else s

/-- Send a DIGEST_ANNOUNCE to every registered peer (R48, R61): tagged while the ring key is READY, untagged only while no tag is
required. -/
def State.announce (s : State) : State :=
  let tagged := s.ringKey.isSome
  let u := { s with mgr := { s.mgr with announced := s.tsc } }
  if tagged ∨ s.flag 0x1603 3 = false then
    u.each ((List.range 32).filter fun i => s.val 0x1601 (i + 1) != 0) fun v i =>
      v.sendPeer i (v.val 0x1601 (i + 1)) 6 0 tagged v.announceBody
  else u

/-- DIGEST_ANNOUNCE_SEND (R61): every 1400.0A ms. -/
def execDigestAnnounceSend (t : Nat) (s : State) : Res :=
  s.run t fun s =>
    if s.ringUp ∧ s.managerUp ∧ s.mgr.announced + s.val 0x1400 0x0A * 1000000 ≤ s.tsc then s.announce else s

end Sys2Proof.Machine
end

