-- ==== Sys2Proof/Machine/Registers.lean ====
section
/-! DEFINITION. The registers of a function page by their offsets (R12, R51, R258, R340, R359, R451). -/

namespace Sys2Proof.Machine

/-! ## Which register stands at an offset -/

/-- A register of a function page. -/
inductive PageReg where
  /-- Register `k` (0 BASE_LO, 1 BASE_HI, 2 CTRL, 3 PROD, 4 CONS, 5 STATUS) of ring 0-7 (R258, R340, R359). -/
  | ring (q k : Nat)
  | ciphCtrl
  | keyData (i : Nat)
  | keyCmd
  | keyStatus
  | ctxAbort
  | chkCtrl
  | chkMisstat
  | chkCtxCtrl (n : Nat)
  | chkValue (n : Nat) (high : Bool)
  | mbxCtrl
  | mbxStatus
  | mbxReqLen
  /-- Word of the request buffer, by its byte offset. -/
  | mbxRequest (i : Nat)
  | evtCtrl
  | evtStatus
  | evtPop
  /-- A register whose every field is RO. -/
  | readOnly
deriving DecidableEq, Repr

/-- The registers of `n` rings from `base`. -/
def ringReg (base first n offset : Nat) : Option PageReg :=
  let q := (offset - base) / 0x40
  let k := (offset - base) % 0x40 / 4
  if base ≤ offset ∧ q < n ∧ k < 6 then some (.ring (first + q) k) else none

/-- The registers of the check contexts (R359). -/
def checkReg (offset : Nat) : Option PageReg :=
  let n := (offset - 0x6200) / 0x10
  let k := (offset - 0x6200) % 0x10 / 4
  if 0x6200 ≤ offset ∧ n < 4 then
    some (if k = 0 then .chkCtxCtrl n else if k = 1 then .chkValue n false else if k = 2 then .chkValue n true else .readOnly)
  else none

/-- Registers at single offsets. -/
def fixedRegs : List (Nat × PageReg) :=
  [(0x4000, .readOnly), (0x4004, .ciphCtrl), (0x4130, .keyCmd), (0x4134, .keyStatus), (0x4200, .readOnly), (0x4204, .ctxAbort),
   (0x6000, .readOnly), (0x6004, .chkCtrl), (0x6008, .chkMisstat), (0x8000, .mbxCtrl), (0x8004, .mbxStatus), (0x8008, .mbxReqLen),
   (0x800C, .readOnly), (0xF000, .evtCtrl), (0xF004, .evtStatus), (0xF008, .evtPop), (0xF00C, .readOnly)]

/-- The register at an offset of the page, where a field map of the spec lists one. -/
def pageReg (offset : Nat) : Option PageReg :=
  if offset % 4 ≠ 0 then none
  else match (fixedRegs.find? fun e => e.1 == offset) with
  | some e => some e.2
  | none =>
    if 0x4100 ≤ offset ∧ offset < 0x4130 then some (.keyData ((offset - 0x4100) / 4))
    else if 0x8100 ≤ offset ∧ offset < 0x8700 then some (.mbxRequest (offset - 0x8100))
    else if 0x8800 ≤ offset ∧ offset < 0x8E00 then some .readOnly
    else if 0xF100 ≤ offset ∧ offset < 0xF120 then some .readOnly
    else ((ringReg 0x1000 0 4 offset).or (ringReg 0x4040 4 2 offset)).or ((ringReg 0x6040 6 2 offset).or (checkReg offset))

/-! ## Reads -/

/-- A ring register as read (R258, R259). -/
def HostRing.readReg (g : HostRing) (k : Nat) : Nat :=
  if k = 0 then g.base % 2 ^ 32
  else if k = 1 then g.base / 2 ^ 32 % 2 ^ 32
  else if k = 2 then ofBool g.enable * 2 ^ 31 + g.log2 % 16 * 2 ^ 16 + g.vector % 256 * 2 ^ 8 + ofBool g.irqEn
  else if k = 3 then g.prod % 2 ^ 16
  else if k = 4 then g.cons % 2 ^ 16 else ofBool g.badDesc * 2 ^ 31 + ofBool g.stalled * 2 ^ 30

/-- A register whose every field is RO as read (R340, R359, R51, R451). -/
def State.readFixed (s : State) (f offset : Nat) : Nat :=
  let x := s.page f
  if offset = 0x4000 then
    f % 256 * 2 ^ 24 + (s.units (s.val 0x4000 1)).length * 2 ^ 16 + 4 * 2 ^ 8 + s.val 0x4000 1 % 4
  else if offset = 0x4200 then
    (List.range 4).foldl (fun a n =>
      let c := Table.get {} x.ctxs n
      a + ofBool c.opened * 2 ^ (2 * n) + ofBool c.running * 2 ^ (2 * n + 1)) 0
  else if offset = 0x6000 then f % 256 * 2 ^ 24 + popCount 32 s.checkUnits * 2 ^ 16 + 4 * 2 ^ 8
  else if 0x6200 ≤ offset ∧ offset < 0x6240 then (x.check ((offset - 0x6200) / 0x10)).bytes % 2 ^ 32
  else if offset = 0x800C then x.rspLen % 2 ^ 11
  else if 0x8800 ≤ offset ∧ offset < 0x8E00 then ofLE (slice x.rspBuf (offset - 0x8800) 4)
  else if offset = 0xF00C then x.evtLost % 2 ^ 32
  else if 0xF100 ≤ offset ∧ offset < 0xF120 then
    (match x.evtFifo.head? with
      | some r => beAt (logBytes r) (offset - 0xF100) 4
      | none => 0)
  else 0

/-- What a read of a page register returns (R12): RO and W1C fields as they stand, RW fields as last written or reset, WO and RSV fields zero. The
command table has no read of a page register: this is the view that a host has of its page. -/
def State.readReg (s : State) (f offset : Nat) (r : PageReg) : Nat :=
  let x := s.page f
  match r with
  | .ring q k => (x.ring q).readReg k
  | .ciphCtrl => ofBool x.ciphEnable * 2 ^ 31 + ofBool x.onFail * 2 ^ 8
  | .keyData _ => 0
  | .keyCmd => 0
  | .keyStatus => ofBool x.keyBusy * 2 ^ 31 + ofBool x.keyDone * 2 ^ 30 + ofBool x.keyOverlap * 2 ^ 29 + x.keyResult % 2 ^ 16
  | .ctxAbort => 0
  | .chkCtrl => ofBool x.chkEnable * 2 ^ 31 + ofBool x.misIrqEn * 2 ^ 16 + x.misVector % 256 * 2 ^ 8
  | .chkMisstat => ofBool x.mismatch * 2 ^ 31 + x.misCount % 2 ^ 16
  | .chkCtxCtrl n =>
    let c := x.check n
    ofBool c.opened * 2 ^ 31 + ofBool c.running * 2 ^ 30 + ofBool c.ignored * 2 ^ 29 + c.poly % 8
  | .chkValue n high => if high then (x.check n).value / 2 ^ 32 % 2 ^ 32 else (x.check n).value % 2 ^ 32
  | .mbxCtrl => x.vector % 256 * 2 ^ 8 + ofBool x.irqEn
  | .mbxStatus => ofBool x.busy * 2 ^ 31 + ofBool x.done * 2 ^ 30 + ofBool x.overlap * 2 ^ 29
  | .mbxReqLen => x.reqLen % 2 ^ 11
  | .mbxRequest i => ofLE (Table.getBytes x.reqBuf i 4)
  | .evtCtrl => ofBool x.evtEnable * 2 ^ 31 + x.minSev % 8 * 2 ^ 16 + x.evtVector % 256 * 2 ^ 8 + ofBool x.evtIrqEn
  | .evtStatus => ofBool (x.evtFifo != []) * 2 ^ 31 + ofBool x.evtOverflow * 2 ^ 30 + x.evtFifo.length % 32
  | .evtPop => 0
  | .readOnly => s.readFixed f offset

/-- The register page of a function as its host reads it at an offset; none where no field map lists a register. -/
def State.pageRead (s : State) (f offset : Nat) : Option Nat := (pageReg offset).map fun r => s.readReg f offset r

/-! ## Writes -/

/-- A descriptor of TXQ that no command brings: what host memory holds there is free (log 6). -/
def freeTxDesc (n : Nat) : TxDesc :=
  let len := Config.freeValue n % 65536
  { buf := Config.freeValue (n + 1) % 2 ^ 64, len := len, cls := Config.freeValue (n + 2) % 4, reserved := Config.freeValue (n + 3) % 2 ^ 46,
    dst := Config.freeValue (n + 4) % 2 ^ 32, ports := Config.freeValue (n + 5) % 2 ^ 64, tag := Config.freeValue (n + 6) % 2 ^ 32,
    packet := (List.range len).map fun i => BitVec.ofNat 8 (Config.hostByte (n + 7) i) }

/-- The index that the host writes: PROD of a ring the module reads, CONS of one it writes (R258); the other index is RO. A producer
index of TXQ or RXF that comes without its descriptors finds free ones. -/
def State.indexWrite (s : State) (f q : Nat) (prod : Bool) (idx : Nat) : State :=
  let g := (s.page f).ring q
  if prod = (q % 2 == 1) then s
  else if prod = false then s.consumerWrite f q idx
  else
    let n := g.newEntries idx
    if q = 0 then
      ({ s with free := s.free + 8 * n }).txDoorbell f idx ((List.range n).map fun i => freeTxDesc (s.free + 8 * i))
    else if q = 2 then
      ({ s with free := s.free + 2 * n }).rxDoorbell f idx
        ((List.range n).map fun i => ⟨Config.freeValue (s.free + 2 * i) % 2 ^ 64, Config.freeValue (s.free + 2 * i + 1) % 2 ^ 32⟩)
    else s.setPage f ((s.page f).setRing q { g with prod := idx % g.size })

/-- A word written to a ring register (R258, R259): BASE and LOG2SIZE are ignored while ENABLE is 1. -/
def State.ringRegWrite (s : State) (f q k : Nat) (w : Nat) : State :=
  let g := (s.page f).ring q
  if k = 0 then
    if g.enable then s else s.setPage f ((s.page f).setRing q { g with base := g.base / 2 ^ 32 * 2 ^ 32 + w / 64 * 64 })
  else if k = 1 then
    if g.enable then s else s.setPage f ((s.page f).setRing q { g with base := w * 2 ^ 32 + g.base % 2 ^ 32 })
  else if k = 2 then
    let u := s.setPage f ((s.page f).setRing q { g with
      enable := bit w 31, log2 := if g.enable then g.log2 else bits w 19 16, vector := bits w 15 8, irqEn := bit w 0 })
    if q = 0 ∨ q = 1 then u.resumeTx f
    else if q = 2 ∨ q = 3 then u.drainRx f (u.page f).rxWait else u
  else if k = 3 then s.indexWrite f q true (bits w 15 0)
  else if k = 4 then s.indexWrite f q false (bits w 15 0)
  else if bit w 31 then s.setPage f ((s.page f).setRing q { g with badDesc := false }) else s

/-- A word written to a register, under the access codes of its fields (R12). -/
def State.writeReg (s : State) (f : Nat) (r : PageReg) (w : Word32) : State :=
  let x := s.page f
  let v := w.toNat
  match r with
  | .ring q k => s.ringRegWrite f q k v
  | .ciphCtrl => s.setPage f { x with ciphEnable := bit v 31 && s.roleOf f != 0, onFail := bit v 8 }
  | .keyData i => s.setPage f { x with keyData := Table.putBytes x.keyData (4 * i) (toBE 4 v) }
  | .keyCmd => s.keyCommand f v
  | .keyStatus => s.setPage f { x with keyDone := x.keyDone && !bit v 30, keyOverlap := x.keyOverlap && !bit v 29 }
  | .ctxAbort => s.abortCtxs f w
  | .chkCtrl => s.setPage f { x with chkEnable := bit v 31 && s.roleOf f != 0, misIrqEn := bit v 16, misVector := bits v 15 8 }
  | .chkMisstat => s.setPage f { x with mismatch := x.mismatch && !bit v 31 }
  | .chkCtxCtrl n => s.checkCtrlWrite f n w
  | .chkValue n high => s.checkValueWrite f n high w
  | .mbxCtrl => s.mailboxWrite f w
  | .mbxStatus => s.setPage f { x with done := x.done && !bit v 30, overlap := x.overlap && !bit v 29 }
  | .mbxReqLen => s.setPage f { x with reqLen := bits v 10 0 }
  | .mbxRequest i => s.setPage f { x with reqBuf := Table.putBytes x.reqBuf i (toLE 4 v) }
  | .evtCtrl => s.setPage f { x with evtEnable := bit v 31, minSev := bits v 18 16, evtVector := bits v 15 8, evtIrqEn := bit v 0 }
  | .evtStatus => if bit v 30 then s.setPage f x.clearOverflow else s
  | .evtPop => if bit v 0 then s.setPage f { x with evtFifo := x.evtFifo.drop 1 } else s
  | .readOnly => s

/-- REGISTER_WRITE (R12): a host writes the register at an offset of its page; an offset that no field map lists stops. -/
def execRegisterWrite (t f offset : Nat) (w : Word32) (s : State) : Res :=
  match pageReg offset with
  | some r => s.run t fun s => if s.open f then s.writeReg f r w else s
  | none => .fault (.noRegister offset)

end Sys2Proof.Machine
end

