-- ==== Sys2Proof/Machine/BootOps.lean ====
section
/-! DEFINITION. Images and boot (R421-R425), and hot plug (R428-R430). -/

namespace Sys2Proof.Machine

/-! ## Images (R421, R422) -/

/-- SIGNER, RELEASE and EPOCH of an image's header. -/
def imageSigner (x : ImageCheck) : Nat := beAt x.header 5 1

@[inherit_doc imageSigner]
def imageRelease (x : ImageCheck) : Nat := beAt x.header 8 4

@[inherit_doc imageSigner]
def imageEpoch (x : ImageCheck) : Nat := beAt x.header 12 4

/-- The computed check equals copy 1 or 2 (R421): CHECK1 at offset 24, CHECK2 at 32. -/
def checkHolds (x : ImageCheck) (copy : Nat) : Bool := crc64 (slice x.payload 0 (beAt x.header 16 8)) == beAt x.header (16 + 8 * copy) 8

/-- The computed check equals one of the two stored copies only (R421). -/
def checksDisagree (x : ImageCheck) : Bool := checkHolds x 1 != checkHolds x 2

/-- What holds of every valid image (R421). -/
def imageSound (kind : Nat) (x : ImageCheck) : Bool :=
  beAt x.header 0 4 == 0x4F435443 && beAt x.header 4 1 == kind && x.signatureOk && (checkHolds x 1 || checkHolds x 2)

/-- A valid firmware image: Zalamtin's key, release not below the minimum. -/
def firmwareValid (x : ImageCheck) : Bool := imageSound 1 x && imageSigner x == 1 && decide (Config.minimumRelease ≤ imageRelease x)

/-- The records of a configuration payload (R422, R59): entry, type and value; none where they do not fill it exactly. -/
def imageRecords : Nat → Bytes → Option (List (Nat × Nat × Bytes))
  | 0, b => if b = [] then some [] else none
  | n + 1, b =>
    if b = [] then some []
    else
      let len := beAt b 4 2
      if b.length < 6 + len then none
      else (imageRecords n (b.drop (6 + len))).map fun l => (keyOf (beAt b 0 2) (beAt b 2 1), beAt b 3 1, slice b 6 len) :: l

/-- Entries a configuration image may hold (R422). -/
def storable (a : Access) : Bool := a == .rws || a == .rwq || a == .rw

/-- The values of an image: records of entries that the variant does not enable are ignored (R422). -/
def State.recordValues (s : State) (l : List (Nat × Nat × Bytes)) : List (Nat × Bytes) :=
  (l.filter fun e => (descOf s.variant e.1).any fun d => storable d.access && e.2.1 == tyCode d.ty).map fun e => (e.1, e.2.2)

/-- The values that a configuration payload holds after its five digests (R422). -/
def State.payloadValues (s : State) (x : ImageCheck) : List (Nat × Bytes) :=
  s.recordValues ((imageRecords x.payload.length (x.payload.drop 40)).getD [])

/-- The rws and rwq values of a payload, loaded over the defaults, reproduce its digests (R422). -/
def State.digestsReproduced (s : State) (x : ImageCheck) : Bool :=
  (imageRecords x.payload.length (x.payload.drop 40)).isSome
    && ({ s with dict := [], written := [] }.overlay (s.payloadValues x)).regionDigests == (List.range 5).map fun i => beAt x.payload (8 * i) 8

/-- A valid configuration image: any of the three keys, the installation key by its hash; its digests are reproduced. -/
def State.configValid (s : State) (keyHash : Bytes) (x : ImageCheck) : Bool :=
  imageSound 2 x && (imageSigner x == 1 || imageSigner x == 2 || (imageSigner x == 3 && x.keyHash == keyHash && !allZero keyHash))
    && s.digestsReproduced x

/-- A bank with what verification found in it. -/
def State.checkedBank (s : State) (x : Bank) (keyHash : Bytes) (c : BankCheck) : Bank :=
  { x with
    fwPresent := c.firmware.isSome, fwRelease := (c.firmware.map imageRelease).getD 0, fwValid := c.firmware.any firmwareValid
    config := c.config.map fun y => { release := imageRelease y, epoch := imageEpoch y, signer := imageSigner y, values := s.payloadValues y }
    cfgValid := c.config.any (s.configValid keyHash)
    disagree := c.firmware.any checksDisagree || c.config.any checksDisagree }

/-- Disagreeing check copies are logged (R421, R450). -/
def State.logDisagree (s : State) (b : Nat) (c : BankCheck) : State :=
  let u := if c.firmware.any checksDisagree then s.event (srcOf 5 0 0) 0x0304 sevWarning [BitVec.ofNat 8 b, 1] else s
  if c.config.any checksDisagree then u.event (srcOf 5 0 0) 0x0304 sevWarning [BitVec.ofNat 8 b, 2] else u

/-- Verify a bank: its status follows. -/
def State.verifyBank (s : State) (b : Nat) (keyHash : Bytes) (c : BankCheck) : State :=
  (s.setBank b (s.checkedBank (s.bank b) keyHash c)).logDisagree b c

/-! ## Boot (R423) -/

/-- Values of an image that the variant enables. -/
def State.imageValues (s : State) (l : List (Nat × Bytes)) : List (Nat × Bytes) :=
  l.filter fun e => (descOf s.variant e.1).any fun d => storable d.access

/-- Each value of an image keeps its entry's type and range. -/
def State.valuesOk (s : State) (l : List (Nat × Bytes)) : Bool :=
  l.all fun e => (descOf s.variant e.1).any fun d => lengthOk d e.2.length && valueOk d e.2 && s.valueFits (idxOf e.1) (subOf e.1) e.2

/-- The configuration of an image is accepted as one commit (R423, R54). -/
def State.imageAccepted (s : State) (x : ConfigImage) : Bool :=
  let l := s.imageValues x.values
  s.valuesOk l && s.commitCode (s.overlay l) == 0

/-- Boot from a bank whose firmware is valid; `result` is 1 or 3 (R423). -/
def State.bootFrom (s : State) (b result : Nat) : State :=
  let x := s.bank b
  let image := match x.config with
    | some c => if x.cfgValid && c.release == x.fwRelease && s.imageAccepted c then some c else none
    | none => none
  { s with rst := { s.rst with
    bootBank := b, bootResult := if image.isSome then result else result + 1, bootReady := true, bootImage := image,
    release := x.fwRelease } }

/-- Recovery (R423): only D00-D02, D25 and D27 run. -/
def State.enterRecovery (s : State) : State :=
  let u := { s with rst := { s.rst with bootBank := 0, bootResult := 5, recovery := true, sequence := none } }
  (u.each ((List.range 30).filter u.recoveryBars) fun v d => if (v.domain d).state = .off then v else v.domainOff d).nextRelease

/-- The other bank. -/
def otherBank (b : Nat) : Nat := if b = 1 then 2 else 1

/-- Boot (R423): the preferred bank by its firmware, then the other, then Recovery. -/
def State.boot (s : State) (a b : BankCheck) : State :=
  let p := s.rst.preferred
  let found : Nat → BankCheck := fun n => if n = 1 then a else b
  let u := s.verifyBank p s.rst.keyHash (found p)
  if (u.bank p).fwValid then (u.bootFrom p 1).nextRelease
  else
    let v := u.verifyBank (otherBank p) s.rst.keyHash (found (otherBank p))
    if (v.bank (otherBank p)).fwValid then (v.bootFrom (otherBank p) 3).nextRelease else v.enterRecovery

/-- The engine firmware found in the boot bank after a warm reset is loaded again where it is valid (R410). -/
def State.reloadFirmware (s : State) (a b : BankCheck) : State :=
  if ((if s.rst.bootBank = 1 then a else b).firmware.any firmwareValid) then ({ s with rst := { s.rst with reload := false } }).nextRelease
  else s

/-- The boot commit may be prepared: a cold or full sequence has released steps 2 to 6 (R415, R423). -/
def State.bootDue (s : State) : Bool :=
  (s.rst.sequence.any fun q => decide (q.kind ≤ 2)) && !s.rst.bootReady && !s.rst.committed && !s.rst.recovery && !s.rst.lockout
    && s.stepsDone 5

/-- What running blocks do as the boot commit's values come into force. -/
def State.applyBoot (s old : State) : State := ((s.settleTime old).settleTether old).settlePeers.settleCommand

/-- The boot commit (R415, R423, R431): the image's values and epoch come into force, or the defaults and epoch 0, and step 8 follows. -/
def State.bootCommit (s : State) : State :=
  let values := (s.rst.bootImage.map ConfigImage.values).getD []
  let epoch := (s.rst.bootImage.map ConfigImage.epoch).getD 0
  let u := s.overlay (s.imageValues values)
  let u := { u with
    mgr := { u.mgr with epoch := epoch, epochBeat := none, prevEpoch := epoch }
    rst := { u.rst with
      committed := true, bootReady := false, bootImage := none, sequence := none, bootAt := u.tsc,
      bootMs := (u.tsc - u.rst.d01At + u.rst.d01Early + 500000) / 1000000 } }
  (((u.digestsStale).logCommit).applyBoot s).nextRelease

/-! ## Saving and writing images (R424, R425) -/

/-- The values a configuration image holds: every value of an rws, rwq or rw entry that is not its default. -/
def State.savedValues (s : State) : List (Nat × Bytes) := s.imageValues s.dict

/-- A save captures the values in force; until it is complete the bank's configuration is invalid (R424). -/
def State.startSave (s : State) (b : Nat) : State :=
  let image : ConfigImage := { release := s.rst.release, epoch := s.mgr.epoch, signer := 2, values := s.savedValues }
  let u := s.setBank b { s.bank b with
    config := none, cfgValid := false, writing := true, blocks := (s.bank b).blocks.filter fun e => e.1 / 2 ^ 32 != 2 }
  { u with rst := { u.rst with saving := some ⟨b, image⟩ } }

/-- The save is complete. -/
def State.endSave (s : State) (j : SaveJob) : State :=
  let u := s.setBank j.bank { s.bank j.bank with config := some j.image, cfgValid := true, writing := false }
  ({ u with rst := { u.rst with saving := none } }).setVal 0x1100 0x51 0

/-- An image block is written (R425). -/
def State.writeBlock (s : State) (v : Bytes) : State :=
  let b := beAt v 0 1
  let x := s.bank b
  (s.setBank b { x with blocks := Table.put [] x.blocks (beAt v 1 1 * 2 ^ 32 + beAt v 4 4) (v.drop 8) }).setVal 0x1100 0x51 0

/-- An image command acts (R425): erase the bank, verify, erase the configuration only. Where nothing tells what verification finds,
its result is a free value (log 6). -/
def State.imageCommand (s : State) (n : Nat) (found : Option BankCheck) : State :=
  let b := n / 256
  let x := s.bank b
  let u :=
    if n % 256 = 1 then s.setBank b {}
    else if n % 256 = 3 then
      s.setBank b { x with config := none, cfgValid := false, blocks := x.blocks.filter fun e => e.1 / 2 ^ 32 != 2 }
    else match found with
      | some c => s.verifyBank b (s.raw (keyOf 0x1100 0x58)) c
      | none => s.fresh.2.setBank b { x with fwValid := s.fresh.1 % 2 == 1, cfgValid := s.fresh.1 / 2 % 2 == 1 }
  u.setVal 0x1100 0x51 0

/-! ## Extraction (R428-R430) -/

/-- From the next boundary after nEXTRACT the outputs are made safe (R430, steps 1 to 3). -/
def State.beginExtraction (s : State) : State :=
  let u := { s with rst := { s.rst with extractSafe := true }, sensing := { s.sensing with generators := [], outputs := [] } }
  (u.each (List.range (portCount u.variant)) fun v p => v.portPolicy p).settleCommand

/-- Step 4 of R430: the record flag for an orderly extraction is written, and the domains go off in the reverse of their release order. -/
def State.domainsDown (s : State) : State :=
  let u := s.each (releaseSteps s.variant).flatten.reverse fun u d => u.domainOff d
  { u with rst := { u.rst with backup := { u.rst.backup with orderly := true } } }

/-- Step 5 of R430: the 12 V input is removed; only the backup domain keeps what it holds. -/
def State.powerDown (s : State) : State :=
  let offs : Table Domain := [(0, { state := DomainState.on })]
  let u := { s with
    hier := {}, mgr := {}, time := {}, tether := {}, log := {}, ports := resetPorts s.ports, echoes := [], lanes := [], spools := {},
    pages := [], routes := {}, cells := [], trip := { biRaw := s.trip.biRaw }, cipher := {}, checkParts := [],
    ring := { ke := s.ring.ke, kw := s.ring.kw, commandAt := s.tsc }, sensing := {}, written := []
    dict := s.dict.filter fun e => keptEntry true e.1
    rst := { s.rst with
      powered := false, connected := false, sequence := none, requested := none, committed := false, recovery := false, bootReady := false,
      bootImage := none, saving := none, thermalHold := false, extractSafe := false, extracted := true, domains := offs }
    sup := { ageing := s.sup.ageing } }
  u

end Sys2Proof.Machine
end

