-- ==== Sys2Proof/Machine/Reset.lean ====
section
/-! DEFINITION. Reset sources, domains, boot, hot plug and the backup domain by command (R408-R431, R434, R473). -/

namespace Sys2Proof.Machine

/-! ## Reset sources (R408, R411, R412) -/

/-- POWER_ON (R408, R429): the connected supply is good; tamper latches set while it was absent are reported (R448). -/
def execPowerOn (t : Nat) (s : State) : Res :=
  let u := s.upTo t
  if s.rst.powered = false ∧ s.rst.connected then
    let v := { u with rst := { u.rst with powered := true, extracted := false } }.performReset 1 1
    let dark := v.rst.backup.dark
    let w := { v with rst := { v.rst with backup := { v.rst.backup with dark := [] } } }
    .next (w.each dark fun u e => u.logTamper e.1)
  else .next u

/-- BROWN_OUT (R408). -/
def execBrownOut (t : Nat) (s : State) : Res := s.run t fun s => s.performReset 2 1

/-- EXTERNAL (R408): nMRST low for at least 10 µs. -/
def execExternal (t low : Nat) (s : State) : Res := s.run t fun s => if 10000 ≤ low then s.requestReset 3 2 else s

/-- WATCHDOG (R408): full where a WATCHDOG warm reset lies within the preceding 60 s. -/
def execWatchdog (t : Nat) (s : State) : Res :=
  s.run t fun s =>
    let recent := s.rst.watchdogAt.any fun a => decide (s.tsc ≤ a + 60000000000)
    s.requestReset 7 (if recent then 2 else 3)

/-- THERMAL (R408): at 125 °C; reset is held until THERMAL_RELEASE. -/
def execThermal (t : Nat) (temp : Int) (s : State) : Res :=
  s.run t fun s =>
    if 125000 ≤ temp ∧ s.rst.extractAt = none then
      let u := s.requestReset 8 2
      { u with rst := { u.rst with thermalHold := true } }
    else s

/-- THERMAL_RELEASE (R408): at 110 °C. -/
def execThermalRelease (t : Nat) (temp : Int) (s : State) : Res :=
  s.run t fun s =>
    if temp ≤ 110000 ∧ s.rst.thermalHold then ({ s with rst := { s.rst with thermalHold := false } }).nextRelease else s

/-! ## Domains (R413-R415, R434) -/

/-- At a cold start the TSC starts counting from 0 with D02 (R415): what has been timed until then lies at 0. -/
def State.startCounter (s : State) : State :=
  { s with
    tsc := 0
    log := { s.log with detected := s.log.detected.map fun (e : EventIn) => { e with time := 0 }, restart := 0 }
    rst := { s.rst with d01Early := s.tsc - s.rst.d01At, d01At := 0, sequenceAt := 0, extractAt := s.rst.extractAt.map fun _ => 0 } }

/-- DOMAIN_POWER_GOOD (R434). -/
def execDomainPowerGood (t d : Nat) (s : State) : Res :=
  s.run t fun s =>
    if (s.domain d).state = .ramping then
      let u := if d = 2 then s.startCounter else s
      u.setDomain d { u.domain d with state := .clockWait, since := u.tsc }
    else s

/-- DOMAIN_CLOCK_GOOD (R413): reset stays asserted until the domain's release. -/
def execDomainClockGood (t d : Nat) (s : State) : Res :=
  s.run t fun s => if (s.domain d).state = .clockWait then s.domainGood d else s

/-- DOMAIN_CLOCK_TIMEOUT (R413, R414): no clock-good within 5 ms. -/
def execDomainClockTimeout (t d : Nat) (s : State) : Res :=
  s.run t fun s =>
    let x := s.domain d
    if (x.state = .clockWait ∨ x.state = .isolated) ∧ x.since + 5000000 ≤ s.tsc then s.domainFault d else s

/-- DOMAIN_CLOCK_LOST (R414): the domain is isolated at once. -/
def execDomainClockLost (t d : Nat) (s : State) : Res :=
  s.run t fun s =>
    if (s.domain d).state = .on then
      ((s.clockFault d).setDomain d { s.domain d with state := .isolated, since := s.tsc }).domainDown d .off
    else s

/-- DOMAIN_CLOCK_RETURN (R414): reset is asserted until the release. -/
def execDomainClockReturn (t d : Nat) (s : State) : Res :=
  s.run t fun s => if (s.domain d).state = .isolated then s.domainGood d else s

/-! ## Boot (R421-R424, R473) -/

/-- BOOT_IMAGE_VERIFIED (R410, R421, R423): boot's choice, or the engine firmware loaded again after a warm reset. -/
def execBootImageVerified (t : Nat) (a b : BankCheck) (s : State) : Res :=
  s.run t fun s => if s.bootDue then s.boot a b else if s.rst.reload then s.reloadFirmware a b else s

/-- BOOT_COMMIT (R415, R423): after the release of step 7. -/
def execBootCommit (t : Nat) (s : State) : Res :=
  s.run t fun s => if s.rst.bootReady ∧ s.stepsDone 6 then s.bootCommit else s

/-- BAR0_EARLY_ACCESS (R473): a posted write is discarded, a non-posted request completes with Unsupported Request. -/
def execBar0EarlyAccess (t f : Nat) (posted : Bool) (s : State) : Res :=
  s.run t fun s =>
    let early := (!s.rst.committed && !(s.rst.recovery && f == 0)) || s.rst.sequence.isSome
    if f < 64 ∧ (s.domain 27).state = .on ∧ early ∧ posted = false then s.emit (.unsupported f) else s

/-- SAVE_COMPLETE (R424). -/
def execSaveComplete (t : Nat) (s : State) : Res :=
  s.run t fun s =>
    match s.rst.saving with
    | some j => s.endSave j
    | none => s

/-! ## Backup domain (R426, R427) -/

/-- BACKUP_TIME_COPY (R426): station time, once per second. -/
def execBackupTimeCopy (t : Nat) (s : State) : Res :=
  s.run t fun s =>
    { s with rst := { s.rst with
      backup := { s.rst.backup with timeCopy := if s.timeSet then s.stationTime else 0, timeSet := s.timeSet } } }

/-- VBAT_LOSS (R427, R437): while the main supply is absent the backup registers are lost; ageing and substitutions resume from flash. -/
def execVbatLoss (t : Nat) (s : State) : Res :=
  let u := s.upTo t
  .next (if u.rst.powered then u
    else { u with
      rst := { u.rst with
        backup := { dark := u.rst.backup.dark, ageing := u.rst.flashAgeing, substitutions := u.rst.flashSubstitutions } }
      sup := { u.sup with ageing := u.rst.flashAgeing } })

/-! ## Hot plug (R428-R430) -/

/-- HOT_SWAP_CONNECT (R428): nEXTRACT reads high: the 12 V input is connected. -/
def execHotSwapConnect (t : Nat) (s : State) : Res :=
  let u := s.upTo t
  .next (if u.rst.extractAt = none then { u with rst := { u.rst with connected := true } } else u)

/-- NEXTRACT_ASSERTED (R430): the sequence begins at the next beat boundary. -/
def execNextractAsserted (t : Nat) (s : State) : Res :=
  let u := s.upTo t
  .next (if u.rst.extractAt = none then
    { u with rst := { u.rst with extractAt := some u.tsc, connected := u.rst.connected && u.rst.powered } } else u)

/-- EXTRACT_POWER_DOWN (R430): step 4 from 50 ms after the assertion, step 5 from 150 ms after it. -/
def execExtractPowerDown (t : Nat) (s : State) : Res :=
  s.run t fun s =>
    match s.rst.extractAt with
    | some a =>
      if s.rst.extractSafe ∧ a + 150000000 ≤ s.tsc then (if s.rst.backup.orderly then s else s.domainsDown).powerDown
      else if s.rst.extractSafe ∧ a + 50000000 ≤ s.tsc then s.domainsDown else s
    | none => s

/-- NEXTRACT_RELEASED (R430): before step 5 a full reset of cause 10 ends the sequence; after it the module may be connected again. -/
def execNextractReleased (t : Nat) (s : State) : Res :=
  let u := s.upTo t
  .next (match u.rst.extractAt with
    | none => u
    | some _ =>
      let v := { u with rst := { u.rst with extractAt := none, extractSafe := false } }
      if u.rst.powered then v.requestReset 10 2 else v)

end Sys2Proof.Machine
end

