-- ==== Sys2Proof/Machine/Hierarchy.lean ====
section
/-! DEFINITION. Errors of cells, block resets and releases, scrubbing and the function-level reset, by command (R20-R37, R418). -/

namespace Sys2Proof.Machine

/-- An uncorrectable word of a store bank or of a cluster's shared SRAM (R21): the route entry reads as invalid; the spool descriptor is
reinitialised empty, its packets are lost; what else the SRAM holds there goes with its entry. -/
def State.entryError (s : State) (r b addr : Nat) : State :=
  if r = 2 ∧ b = 16 then s.clearRoute addr
  else if r = 2 ∧ b = 17 then
    let n := (s.spool addr).handles.length
    let u := (s.emptySpool addr stMemory).bumpKey (keyOf 0x3190 7) n
    (u.setSpool addr {}).settleSpool addr
  else s

/-- UNCORRECTABLE_ERROR (R20-R22, R26). -/
def execUncorrectableError (t src addr : Nat) (s : State) : Res :=
  s.run t fun s =>
    if src = 0 then s.fatal 3 0
    else if cellPresent s.variant (srcRegion src) (srcBlk src) (srcCell src) = false then s
    else
      let u := s.event src 0x0202 sevWarning (toBE 8 addr)
      if perEntry (srcRegion src) (srcBlk src) (srcCell src) then u.entryError (srcRegion src) (srcBlk src) addr else u.contain src

/-- CORRECTION_THRESHOLD (R21, R22): a bank at the threshold is replaced by ballast, a cluster's shared SRAM only logged. -/
def execCorrectionThreshold (t src errors : Nat) (s : State) : Res :=
  s.run t fun s =>
    if s.val 0x1010 1 ≤ errors ∧ cellPresent s.variant (srcRegion src) (srcBlk src) (srcCell src) then
      let u := s.event src 0x0201 sevWarning (toBE 2 errors ++ toBE 4 (s.val 0x1010 2))
      if perEntry (srcRegion src) (srcBlk src) (srcCell src) then (if 16 ≤ srcBlk src then u.replaceBank src else u) else u.contain src
    else s

/-- BLOCK_IDLE (R23, R29). -/
def execBlockIdle (t region block : Nat) (s : State) : Res :=
  s.run t fun s => if (s.block region block).state = .idleReq then s.blockReset region block else s

/-- IDLE_TIMEOUT (R23, R29): 1100.20 µs after the request. -/
def execIdleTimeout (t region block : Nat) (s : State) : Res :=
  s.run t fun s =>
    let x := s.block region block
    if x.state = .idleReq ∧ x.idleAt + s.val 0x1100 0x20 * 1000 ≤ s.tsc then s.blockReset region block else s

/-- BLOCK_RELEASE (R29, R413, R415, R417). -/
def execBlockRelease (t region block : Nat) (failedCells : List Nat) (s : State) : Res :=
  s.run t fun s => s.releaseBlock region block failedCells

/-- A DRAM row's errors are counted; one that repeats errors waits for post-package repair (R37). -/
def State.noteRow (s : State) (row : Nat) : State :=
  let n := Table.get 0 s.hier.rowErrors row + 1
  { s with hier := { s.hier with
      rowErrors := Table.put 0 s.hier.rowErrors row n,
      repairRows := if n < 2 ∨ s.hier.repairRows.contains row then s.hier.repairRows else s.hier.repairRows ++ [row] } }

/-- Spool that holds a packet. -/
def State.spoolOf (s : State) (h : Nat) : Option Nat := (s.spools.table.find? fun e => e.2.handles.contains h).map Prod.fst

/-- An item lost to an uncorrectable error in DRAM (R37, R284). -/
def State.scrubLost (s : State) (item : DramItem) : State :=
  match item with
  | .packet h =>
    match s.packet h, s.spoolOf h with
    | some _, some k => (s.endPacket k h stMemory).bump 0x3190 7
    | some _, none => (s.finishPacket h stMemory).bump 0x3190 7
    | none, _ => s
  | .link k =>
    if (s.link k).state = .free then s else s.releaseLink k
  | .logEntry pos =>
    match Table.find s.log.records pos with
    | some _ => { s with log := { s.log with records := Table.insert s.log.records pos ⟨0, 0, 0, 0, 2, 0, []⟩ } }
    | none => s
  | .engine => s

/-- SCRUB_ERROR (R37): a corrected error is written back; rows that repeat errors wait for repair. -/
def execScrubError (t : Nat) (item : DramItem) (corrected : Bool) (row : Nat) (s : State) : Res :=
  s.run t fun s => if corrected then s.noteRow row else (s.noteRow row).scrubLost item

/-- FUNCTION_LEVEL_RESET (R418). -/
def execFunctionLevelReset (t f : Nat) (s : State) : Res := s.run t fun s => if f < 64 then s.clearFunction f else s

end Sys2Proof.Machine
end

