-- ==== Sys2Proof/Machine/Supervision.lean ====
section
/-! DEFINITION. Power phases, wear and ballast (R432-R445). -/

namespace Sys2Proof.Machine

/-! ## Phases (R433) -/

/-- Phases of a rail still in service. -/
def State.phasesLeft (s : State) (rail : Nat) : Nat := popCount 8 (s.phases rail)

/-- PHASE_SHED (R433): with the last phase of a rail go its domains, their blocks held until a cold start. -/
def execPhaseShed (t rail phase : Nat) (s : State) : Res :=
  s.run t fun s =>
    if phase < railPhases s.variant rail ∧ bit (s.shedPhases rail) phase = false then
      let u := { s with sup := { s.sup with shed := Table.put 0 s.sup.shed rail (withBit (s.shedPhases rail) phase true) } }
      let u := u.event (srcBlock 5 1) 0x0103 (if hasBallast u.variant then sevNotice else sevAlarm)
        (toBE 1 rail ++ toBE 1 (u.phasesLeft rail))
      if u.railOff rail then
        u.each ((List.range 30).filter fun d => railOf d == rail && domainPresent u.variant d) fun v d =>
          (v.setDomain d { v.domain d with state := .off }).holdDomain d
      else u
    else s

/-! ## Ageing (R436-R439) -/

/-- The part that an ageing entry's place belongs to (R14, R452), by source number: a domain, a port, a ring relay or pair, an engine, a bank, a
core; none where the variant has no such part. -/
def State.agedPart (s : State) (key place : Nat) : Option Nat :=
  let idx := idxOf key
  let sub := subOf key
  let cell : Nat → Nat → Nat → Option Nat := fun r b c => if cellPresent s.variant r b c then some (srcOf r b c) else none
  if (descOf s.variant key).isNone ∨ idx < 0x6041 ∨ 0x6046 < idx ∨ (place ≠ 0 ∧ idx < 0x6045) then none
  else if idx = 0x6041 then (if 1 < sub ∧ domainPresent s.variant (sub - 1) then some (srcOf 5 1 (sub - 1)) else none)
  else if idx ≤ 0x6043 then (if blockPresent s.variant 1 (sub - 1) then some (srcBlock 1 (sub - 1)) else none)
  else if idx = 0x6044 then cell 4 0 (if sub ≤ 2 then 6 else (sub - 3) / 2)
  else if idx = 0x6045 then (if place ≤ 16 then cell 2 (sub - 1) place else none)
  else if sub ≤ 2 then (if place ≤ 32 then cell 2 (15 + sub) place else none)
  else if place ≤ 16 then cell 3 0 place else none

/-- The index of a part (R436), rounded down: 1,000 at 175,200 h of a driver, at 2,000,000 operations of a relay, at 8.0 % of delay. -/
def State.measuredIndex (s : State) (x : AgeingSample) : Nat :=
  let idx := idxOf x.key
  let sub := subOf x.key
  if idx = 0x6042 then s.worn idx sub 128 / (2 ^ 20 * 630720000000000)
  else if idx = 0x6043 then max (s.worn idx sub 128) (max (s.worn idx sub 129) (s.worn idx sub 130)) / 2000
  else if idx = 0x6044 ∧ sub ≤ 2 then s.worn idx sub 128 / 2000
  else x.delay / 80

/-- One part's new index (R437, R439): it never decreases; thresholds crossed are logged, and a part with a ballast counterpart requests its
substitution. -/
def State.agePart (s : State) (x : AgeingSample) (src : Nat) : State :=
  let key := x.key * 256 + x.slot
  let old := wear (Table.get 0xFFFF s.sup.ageing key)
  let new := max old (min 0xFFFE (s.measuredIndex x))
  let u := { s with sup := { s.sup with ageing := Table.put 0xFFFF s.sup.ageing key new } }
  let crosses : Nat → Bool := fun n => decide (old < n) && decide (n ≤ new)
  let data := toBE 2 src ++ toBE 2 new
  let u := if crosses (u.val 0x6040 1) then u.event (srcOf 5 4 0) 0x0901 sevWarning data else u
  if crosses (u.val 0x6040 2) then
    let v := u.event (srcOf 5 4 0) 0x0902 sevAlarm data
    if (v.unitServing src).isSome then v else v.requestSwap src 2
  else u

/-- One part of a measurement; a place that the variant does not have measures nothing. -/
def State.ageSample (s : State) (x : AgeingSample) : State :=
  match s.agedPart x.key x.slot with
  | some src => s.agePart x src
  | none => s

/-- Offset that a domain's index asks for, in mV (R438): 5 for every whole 50 points above 400, at most 40. -/
def offsetFor (index : Nat) : Nat := if index = 0xFFFF then 0 else min 40 (5 * ((index - 400) / 50))

/-- The margin planned for a rail (R438): the highest of its domains', never lower than before. -/
def State.planRail (s : State) (rail : Nat) : State :=
  let l := (List.range 30).filter fun d => railOf d == rail && domainPresent s.variant d
  let want := l.foldl (fun a d => max a (offsetFor (s.domainIndex d))) 0
  s.each l fun u d => u.setDomain d { u.domain d with target := max want (u.domain d).target }

/-- One step of 5 mV for a rail that has not reached its target (R438). -/
def State.stepRail (s : State) (rail : Nat) : State :=
  let l := (List.range 30).filter fun d => railOf d == rail && decide ((s.domain d).offset < (s.domain d).target)
  match l with
  | [] => s
  | d :: _ =>
    let mv := (s.domain d).offset + 5
    (s.each l fun u d => u.setDomain d { u.domain d with offset := mv }).event (srcOf 5 4 0) 0x0104 sevInfo (toBE 1 rail ++ toBE 1 mv)

/-- The setpoints at a beat boundary (R438). -/
def State.stepRails (s : State) : State := if s.flag 0x6040 3 then s.each [1, 2, 3, 4, 5] State.stepRail else s

/-- Supervision runs. -/
def State.supervises (s : State) : Bool := (s.block 5 4).state == .running

/-- AGEING_MEASUREMENT (R437): once per 6040.04 seconds. -/
def execAgeingMeasurement (t : Nat) (samples : List AgeingSample) (s : State) : Res :=
  s.run t fun s =>
    if s.supervises ∧ s.sup.measuredAt + s.val 0x6040 4 * 1000000000 ≤ s.tsc then
      let u := { s with sup := { s.sup with measuredAt := s.tsc } }
      let u := (u.each samples State.ageSample).each [1, 2, 3, 4, 5] State.planRail
      { u with rst := { u.rst with backup := { u.rst.backup with ageing := u.sup.ageing } } }
    else s

/-- AGEING_FLASH_WRITE (R437): every 24 h. -/
def execAgeingFlashWrite (t : Nat) (s : State) : Res :=
  s.run t fun s =>
    if s.supervises ∧ s.rst.flashAt + 86400000000000 ≤ s.tsc then
      { s with rst := { s.rst with flashAgeing := s.sup.ageing, flashAt := s.tsc } }
    else s

/-! ## Ballast (R440-R445) -/

/-- Requests in the order they are taken (R440): fault, wear, manager; then by time; then the lower source. -/
def requestBefore (a b : SwapRequest) : Bool := lexLt [a.reason, a.time, a.primary] [b.reason, b.time, b.primary]

/-- No commit is scheduled or applied with an activation beat from now to 250 beats on (R441). -/
def State.quietCommits (s : State) : Bool :=
  (s.mgr.stagingState != 2 || decide (s.beat + 250 < s.mgr.activation)) && s.mgr.epochBeat != some s.beat

/-- A request may start at this beat boundary (R441). -/
def State.quietFor (s : State) (q : SwapRequest) : Bool :=
  let r := srcRegion q.primary
  let b := srcBlk q.primary
  s.sup.running.isNone && s.quietCommits
    && (!(r == 1 || r == 4) || s.slotType s.tether.sample.slot != 1)
    && (r != 4 || s.ring.state == .inserted)
    && (!(r == 2 && decide (b < 16)) || decide (s.occupancyOf 2 b < s.val 0x3106 2))
    && (q.reason != 2 || q.back || s.val 0x6060 1 == 0 || q.ordered)

/-- A substitution starts (R441): a port or ring pair takes its steps, a bank its copy; an engine's share or a core's pairing changes at
once; the command channel of a port that leaves RUNNING follows (R121, R303). -/
def State.startRequest (s : State) (q : SwapRequest) : State :=
  let u := { s with sup := { s.sup with requests := s.sup.requests.erase q, running := some q, copied := false } }
  let r := srcRegion q.primary
  if r = 1 then (u.startSwap (srcBlk q.primary) q).settleCommand
  else if r = 4 then u.startRingSwap q
  else if r = 2 ∧ 16 ≤ srcBlk q.primary then u
  else u.endSwap q true

/-- The substitution moves lines that a safe state holds: a port's matrix or the ring's pair switch (R419). -/
def movesLine (q : SwapRequest) : Bool := srcRegion q.primary == 1 || srcRegion q.primary == 4

/-- SUBSTITUTION_START (R441): at a quiet beat the first request that may start. -/
def execSubstitutionStart (t : Nat) (s : State) : Res :=
  s.run t fun s =>
    if s.supervises ∧ s.tsc % beatNs = 0 then
      match (sortBy requestBefore s.sup.requests).find? fun q => s.quietFor q && !(s.outputsSafe && movesLine q) with
      | some q => s.startRequest q
      | none => s
    else s

/-- The running substitution is of a store bank. -/
def State.bankSwap (s : State) : Option SwapRequest :=
  match s.sup.running with
  | some q => if srcRegion q.primary = 2 ∧ 16 ≤ srcBlk q.primary then some q else none
  | none => none

/-- BANK_COPY_DONE (R442): words found uncorrectable are handled under R21; the bank switches at the next boundary. -/
def execBankCopyDone (t : Nat) (lost : List Nat) (s : State) : Res :=
  s.run t fun s =>
    match s.bankSwap with
    | some q =>
      let u := s.each lost fun u a => u.entryError 2 (srcBlk q.primary) a
      { u with sup := { u.sup with copied := true } }
    | none => s

/-- A copied bank switches over at a boundary (R442). -/
def State.switchBank (s : State) : State :=
  match s.bankSwap with
  | some q => if s.sup.copied then ({ s with sup := { s.sup with copied := false } }).endSwap q true else s
  | none => s

/-- A ballast command takes effect (R443): a request of the manager's, a pending wear request released, or a return. -/
def State.ballastCommand (s : State) (n : Nat) : State :=
  let src := n % 65536
  if n / 2 ^ 24 = 1 then
    if s.sup.requests.any fun q => q.primary == src && q.reason == 2 then
      { s with sup := { s.sup with
        requests := s.sup.requests.map fun (q : SwapRequest) => if q.primary = src ∧ q.reason = 2 then { q with ordered := true } else q } }
    else if (s.unitServing src).isSome then s else s.requestSwap src 3
  else match s.unitServing src with
    | some u =>
      if (s.unit u).state = 3 ∧ (s.sup.requests.any fun q => q.unit == u) = false then
        { s with sup := { s.sup with requests := s.sup.requests ++ [⟨u, src, 3, s.tsc, true, false⟩] } }
      else s
    | none => s

/-- BALLAST_SELF_TEST (R445): an idle unit every 24 h; one that fails is never offered again. -/
def execBallastSelfTest (t u : Nat) (pass : Bool) (s : State) : Res :=
  s.run t fun s =>
    if hasBallast s.variant ∧ u < 22 ∧ s.supervises ∧ (s.unit u).state = 0
        ∧ Table.get 0 s.sup.testedAt u + 86400000000000 ≤ s.tsc then
      let v := { s with sup := { s.sup with testedAt := Table.put 0 s.sup.testedAt u s.tsc } }
      if pass then v else (v.setUnit u { state := 4 }).event (srcOf 5 4 1) 0x0905 sevAlarm (toBE 1 u)
    else s

end Sys2Proof.Machine
end

