-- ==== Sys2Proof/Machine/BeatOps.lean ====
section
/-! DEFINITION. Work per beat: overruns, returned grants, the coding pool, and written entries that act at a boundary (R32, R85-R89,
R226-R228). -/

namespace Sys2Proof.Machine

/-! ## Overrun (R85-R89) -/

/-- A block that has per-beat items (R89). -/
def overruns (r b : Nat) : Bool := r != 1 && !(r == 4 && (b == 3 || b == 4))

/-- Items of class `c` in a report. -/
def classCount (l : List Nat) (c : Nat) : Nat := l[c]?.getD 0

/-- Items of all four classes. -/
def classTotal (l : List Nat) : Nat := (List.range 4).foldl (fun a c => a + classCount l c) 0

/-- Lowest class that a report names, highest number first. -/
def lowestOf (l : List Nat) : Option Nat := [3, 2, 1, 0].find? fun c => classCount l c != 0

/-- Lowest of classes 1-3 with outstanding items of the ending beat (R85). -/
def lowestReturned (fresh : List Nat) : Option Nat := [3, 2, 1].find? fun c => classCount fresh c != 0

/-- Record a block's occupancy of the ending beat (R89). -/
def State.noteOccupancy (s : State) (r b n : Nat) : State :=
  if n = 0 then s
  else
    let x := s.block r b
    let e : Nat × Nat := (s.beat - 1, min 1000 n)
    s.setBlock r b { x with occupancy := e :: x.occupancy.filter fun (o : Nat × Nat) => decide (s.beat ≤ o.1 + 65536) }

/-- Escalation for overruns (R86, R87), with its event (R450). -/
def State.overrunEscalate (s : State) (r b flags low : Nat) : State :=
  (s.event (srcBlock r b) 0x0207 sevAlarm (toBE 1 flags ++ toBE 1 low)).regionReset r b

/-- The last `n` items of class `c` among those that cells work on: those still outstanding (R85). -/
def lastItems (l : List (Nat × WorkItem)) (c n : Nat) : List WorkItem :=
  let mine := (l.filter fun e => workRank e.2 == c).map Prod.snd
  mine.drop (mine.length - n)

/-- A block's outstanding items at a boundary (R85-R87): carried ones are returned, of the others the lowest of classes 1-3; the rest
is carried, ahead of the new beat's items of its class and under the values in force until now (R84). -/
def State.overrun (s : State) (r b : Nat) (fresh carried : List Nat) : State :=
  let x := s.block r b
  let old := (List.range 4).map fun c => min (classCount x.carried c) (classCount carried c)
  let low := lowestReturned fresh
  let kept := (List.range 4).map fun c => if some c = low then 0 else classCount fresh c
  let returned := classTotal old + (low.map (classCount fresh)).getD 0
  let ahead := (List.range 4).flatMap fun c => lastItems x.openItems c (classCount kept c)
  let u := s.setBlock r b { x with
    carried := if classTotal kept = 0 then [] else kept, kept := if classTotal kept = 0 then none else some s.dict,
    openItems := [], queue := ahead ++ x.queue }
  if classTotal old + classTotal fresh = 0 then u
  else
    let window := s.beat :: x.overruns.filter fun n => decide (s.beat < n + 256)
    let u := u.setBlock r b { u.block r b with overruns := window }
    let u := (u.bumpKey (keyOf 0x1220 1) (classCount fresh 0)).bump (0x1220 + r) (b + 1)
    let u := u.bumpKey (keyOf (0x1230 + r) (b + 1)) returned
    let u := if returned = 0 then u else u.returnItem (srcBlock r b) stOverrun returned
    let flags := ofBool (classCount old 0 != 0) + 2 * ofBool (decide (8 ≤ window.length))
    let gone := (List.range 4).map fun c => classCount old c + if some c = low then classCount fresh c else 0
    if flags = 0 then u else u.overrunEscalate r b flags ((lowestOf gone).getD 0xFF)

/-- The block's work of the ending beat is still in hand. -/
def State.blockWorks (s : State) (r b : Nat) : Bool := (s.block r b).state == .running || (s.block r b).state == .idleReq

/-- Outstanding segments of class `c`: `n` counts those of one job. -/
def outOf (l : List (Nat × Nat)) : List Nat := (List.range 4).map fun c => (l.filter fun e => e.1 == c).foldl (fun a e => a + e.2) 0

/-- The cipher engine's outstanding segments at a boundary (R85, R86, R337): those of a withdrawn core fail their jobs with CELL_WITHDRAWN, carried
ones and those of the lowest class theirs with OVERRUN; the others are carried. -/
def State.engineEnd (s : State) : State :=
  if s.blockWorks 3 0 = false then s else
  let open_ : CipherJob → Bool := fun j => decide (j.finished < j.granted)
  let u := s.each (s.jobsWhere fun j => j.lost && open_ j) fun u e => u.failJob e.1 e.2 stCellWithdrawn
  let out := u.jobsWhere open_
  if out = [] ∧ (u.block 3 0).carried = [] then u else
  let fresh := outOf (out.map fun e => (e.2.desc.cls, e.2.granted - max e.2.due e.2.finished))
  let low := lowestReturned fresh
  let gone : CipherJob → Bool := fun j => decide (j.finished < j.due) || some j.desc.cls == low
  let v := u.overrun 3 0 fresh (outOf (out.map fun e => (e.2.desc.cls, e.2.due - e.2.finished)))
  v.each out fun v e => if gone e.2 then v.failJob e.1 e.2 stOverrun else v.setJob e.1 { e.2 with due := e.2.granted }

/-- The check units' outstanding segments at a boundary: those of the parts whose last segments were granted and that have not completed (R85,
R86); those of a withdrawn unit come back (R20, R32). -/
def State.checkEnd (s : State) : State :=
  if s.blockWorks 3 2 = false then s else
  let open_ : CheckPart → Bool := fun x => x.dispatched && x.granted == x.segments
  let u := s.each (s.checkParts.filter fun x => x.lost && open_ x) fun u x => u.failCheck x stCellWithdrawn
  let out := u.checkParts.filter open_
  if out = [] ∧ (u.block 3 2).carried = [] then u else
  let fresh := outOf (out.map fun x => (x.desc.cls, if x.carried then 0 else x.last))
  let low := lowestReturned fresh
  let v := u.overrun 3 2 fresh (outOf (out.map fun x => (x.desc.cls, if x.carried then x.last else 0)))
  v.each out fun v x => if x.carried || some x.desc.cls == low then v.failCheck x stOverrun else v.putCheck x { x with carried := true }

/-- A lane cuts the frame whose encode items were returned (R228). -/
def State.encodeReturned (s : State) (p l : Nat) : State :=
  if (s.lane p l).tx.onLine.isSome then (s.cutFrame p l).lbump p l 0x2014 0x34 else s

/-- One report of a boundary; the cipher engine and the check units know their own outstanding items. -/
def State.takeLoad (s : State) (x : BeatLoad) : State :=
  let r := srcRegion x.source
  let b := srcBlk x.source
  let st := (s.block r b).state
  if r = 1 then
    (if s.hasPort b ∧ srcCell x.source < 4 ∧ classTotal x.carried ≠ 0 then s.encodeReturned b (srcCell x.source)
     else s.noteOccupancy r b x.occupancy)
  else if s.blocks.contains (r, b) ∧ (st = .running ∨ st = .idleReq) then
    let u := s.noteOccupancy r b x.occupancy
    if overruns r b && !(r == 3) then u.overrun r b x.fresh x.carried else u
  else s

/-- What a report asks for in the new beat (R17, R85): items for the engines of a cluster, in the order of their classes with the carried
ones first, and transfers over the fabric. -/
def State.newWork (s : State) (x : BeatLoad) : State :=
  let r := srcRegion x.source
  let b := srcBlk x.source
  let y := s.block r b
  if y.state = .running ∧ s.blocks.contains (r, b) then
    let u := if r = 2 ∧ b < 16 then
        let l := sortBy (fun (a c : WorkItem) => decide (workRank a < workRank c)) (y.queue ++ x.work)
        let k := s.takeUp r b l []
        s.setBlock r b { y with openItems := k.1, queue := k.2 }
      else s
    u.askTransfers r b x.transfers
  else s

/-- Blocks without outstanding items forget what they carried. -/
def State.clearCarried (s : State) (loads : List BeatLoad) : State :=
  s.each (s.hier.blocks.filter fun e => (e.2.carried != [] || e.2.openItems != []) && e.1 / 64 != 3
      && !(loads.any fun x => blockKey (srcRegion x.source) (srcBlk x.source) == e.1))
    fun u e => { u with hier := { u.hier with blocks := Table.put {} u.hier.blocks e.1 { e.2 with carried := [], kept := none, openItems := [] } } }

/-! ## Grants of withdrawn cells (R32) -/

/-- A withdrawn cell returns its grants: codewords of the coding pool, items of an engine that no peer took up, and transfers of the
fabric. -/
def State.returnGrant (s : State) (r b c : Nat) : State :=
  let pool : Nat × PoolItem → Bool := fun g => r == 2 && b == 18 && g.1 == c
  let fab : Nat × FabricRequest → Bool := fun g => g.2.region == r && g.2.block == b && g.2.transfer.cell == c
  let x := s.block r b
  let n := s.hier.grants.countP pool + s.hier.fabricGrants.countP fab + x.openItems.countP fun e => e.1 == c
  let u := { s with hier := { s.hier with
    grants := s.hier.grants.filter fun g => !pool g, fabricGrants := s.hier.fabricGrants.filter fun g => !fab g,
    fabricWait := s.hier.fabricWait.filter fun q => !(q.region == r && q.block == b && q.transfer.cell == c) } }
  let u := u.setBlock r b { x with openItems := x.openItems.filter fun e => e.1 != c }
  if n = 0 then u else u.returnItem (srcOf r b c) stCellWithdrawn n

/-- Grants of the cells withdrawn in the ending beat. -/
def State.returnGrants (s : State) : State :=
  s.each (s.hier.blocks.filter fun e => e.2.grantsBack != []) fun u e =>
    let v := u.setBlock (e.1 / 64) (e.1 % 64) { u.block (e.1 / 64) (e.1 % 64) with grantsBack := [] }
    v.each e.2.grantsBack fun w c => w.returnGrant (e.1 / 64) (e.1 % 64) c

/-! ## The coding pool (R226, R227) -/

/-- Order of grants (R227). -/
def poolBefore (a b : PoolItem) : Bool := lexLt [a.cls, a.lastSymbol, a.source] [b.cls, b.lastSymbol, b.source]

/-- An encode item of a frame on the line is class 0 (R228). -/
def State.raised (s : State) (x : PoolItem) : PoolItem :=
  if x.encode ∧ srcRegion x.source = 1 ∧ (s.lane (srcBlk x.source) (srcCell x.source)).tx.onLine.isSome then { x with cls := 0 } else x

/-- The coding pool at a boundary: the codewords encoded in the ending beat and the items raised count (R227, R228, R234). -/
def State.poolTick (s : State) (ready : List PoolItem) : State :=
  let all := s.hier.waiting ++ ready
  let l := sortBy poolBefore (all.map s.raised)
  let s := (s.bumpKey (keyOf 0x28F0 3) (s.hier.grants.countP fun g => g.2.encode)).bumpKey (keyOf 0x28F0 4)
    (all.countP fun x => (s.raised x).cls != x.cls)
  if (s.block 2 18).state = .running then
    let k := s.grantPool l []
    { s with hier := { s.hier with grants := k.1, waiting := k.2 } }
  else { s with hier := { s.hier with grants := [], waiting := l } }

/-! ## What the hierarchy's entries show (R33) -/

/-- Bitmap and state entries, and route entries, are read as they stand at a boundary (R33, R279). -/
def State.showBlocks (s : State) : State :=
  { s with
    routes := { s.routes with before := [] }
    hier := { s.hier with
      shown := (s.hier.blocks.map fun e => (e.1, (e.2.state, e.2.withdrawn))).filter fun e => e.2 != (BlockState.off, 0) } }

/-! ## Written entries that act at a boundary (R39) -/

/-- A written wo entry acts. -/
def State.act (s : State) (a : PendingAction) : State :=
  let n := ofBE a.value
  if a.key = keyOf 0x3800 7 then { s with ring := { s.ring with insertBeat := some (if n = 0 then s.beat else n) } }
  else if a.key = keyOf 0x5001 2 then { s with sensing := { s.sensing with clampFlags := andNot s.sensing.clampFlags n } }
  else if a.key = keyOf 0x1100 0x50 then s.startSave n
  else if a.key = keyOf 0x1100 0x53 then s.writeBlock a.value
  else if a.key = keyOf 0x1100 0x54 then s.imageCommand n a.found
  else if a.key = keyOf 0x6062 1 then s.ballastCommand n
  else if a.key = keyOf 0x6081 2 then s.setVal 0x6081 1 (andNot (s.val 0x6081 1) n)
  else s

/-- The written entries of the ending beat act in order. -/
def State.actAll (s : State) : State :=
  let l := s.mgr.actions
  ({ s with mgr := { s.mgr with actions := [] } }).each l State.act

/-- A commit in hand whose named beat has come is refused (R54). -/
def State.lateCommit (s : State) : State :=
  match s.mgr.commit with
  | some c => if c.named ≠ 0 ∧ c.named ≤ s.beat then s.failCommit c acSoon else s
  | none => s

/-- Frames on the line keep the set of their current symbol once the published slot valid has fallen (R141). -/
def State.freezeSets (s : State) (was : Bool) : State :=
  if was ∧ s.tether.sample.valid = false then
    s.each (s.lanes.filter fun e => e.2.tx.onLine.isSome) fun u e =>
      (u.setTx (e.1 / 4) (e.1 % 4) ((u.lane (e.1 / 4) (e.1 % 4)).tx.freeze (symbolNs (u.laneKind (e.1 / 4) (e.1 % 4)))
        (leadSymbols (u.laneKind (e.1 / 4) (e.1 % 4))) u.tsc)).relevel (e.1 / 4) (e.1 % 4)
  else s

/-- nEXTRACT is acted on (R430). -/
def State.extractTick (s : State) : State :=
  if s.rst.extractAt.isSome ∧ s.rst.extractSafe = false then s.beginExtraction else s

/-- A reset that a manager has asked for is performed (R408). -/
def State.resetTick (s : State) : State :=
  match s.rst.requested with
  | some q => ({ s with rst := { s.rst with requested := none } }).requestReset q.cause q.kind
  | none => s

/-! ## Slots (R96, R142, R145, R197, R288, R294) -/

/-- Endpoints to be asked for their state (R294): native, with a usable route, without a report in the last 3210.08 seconds; oldest
report first. -/
def State.staleNodes (s : State) : List Nat :=
  let l := ((s.routes.entries.filter fun e => e.2.valid).map fun e => e.1 / 8).dedup
  let l := l.filter fun e =>
    !(s.node e).g9903 && (s.choice e).isSome
      && (match (s.node e).reportAt with | some a => decide (a + s.val 0x3210 8 * 1000000000 ≤ s.tsc) | none => true)
  let age := fun e => match (s.node e).reportAt with | some a => a + 1 | none => 0
  (sortBy (fun a b => lexLt [age a, a] [age b, b]) l).take (s.val 0x3210 9)

/-- Send an empty STATE frame to a node (R285, R294). -/
def State.queryState (s : State) (e : Nat) : State :=
  match s.choice e with
  | some pos =>
    let r := s.route pos
    (s.queueMesh r.port r.lane { meshFrame 7 r.next false [] with fin := e, hops := if r.next = e then 1 else min 15 (r.hops + 2) }).bump 0x3220 0x12
  | none => s

/-- What slot 0 starts: the noise-floor period counts a valid cycle, acknowledged tone maps come into force, links with new reports are
planned, probes of a new beacon period, and STATE queries. -/
def State.cycleStart (s : State) (whole : Bool) : State :=
  let u := if whole then
      s.each (s.lanes.filter fun e => e.2.rx.state != .off) fun u e =>
        let x := (u.lane (e.1 / 4) (e.1 % 4)).rx
        u.setRx (e.1 / 4) (e.1 % 4) { x with cycles := min 64 (x.cycles + 1) }
    else s
  let links := u.routes.links.map Prod.fst
  let u := u.each links State.activateTmap
  let u := u.each (links.filter fun k => (u.block 2 ((u.link k).port % clusterCount u.variant)).state == .running) State.planLink
  let u := if u.tether.cycle % max 1 (u.val 0x3000 3) = 0 then { u with routes := { u.routes with probes := 0 } } else u
  u.each u.staleNodes State.queryState

/-- A slot begins (R96, R97): at slot 0 the cycle counter advances. -/
def State.slotBegin (s : State) : State :=
  let n := (s.tether.slot + 1) % 24
  let valid := s.tether.cycleValid && s.tether.valid
  let u := { s with tether := { s.tether with
    slot := n, slotAt := s.slotEnd, slotCount := s.tether.slotCount + 1, cycleValid := if n = 0 then s.tether.valid else valid
    cycle := s.tether.cycle + (if n = 0 then 1 else 0), slotZero := if n = 0 then s.slotEnd else s.tether.slotZero } }
  if n = 0 then u.cycleStart valid else u

end Sys2Proof.Machine
end

