-- ==== Sys2Proof/Machine/Boundary.lean ====
section
/-! DEFINITION. The two rhythms by command: the beat boundary and the slot boundary (R83, R96). -/

namespace Sys2Proof.Machine

/-- Steps 1 and 2 of R83: overrun handling, then shadow loads and what else was written in the ending beat. -/
def State.boundaryLoads (s : State) (loads : List BeatLoad) : State :=
  let u := (s.returnGrants.engineEnd.checkEnd.each loads State.takeLoad).clearCarried loads
  ((((u.lateCommit).activateCommit).loadWritten).actAll).applyRecords

/-- Step 3 of R83: station time and the slot sample. -/
def State.boundarySample (s : State) : State := (s.timeBoundary.tetherBoundary).freezeSets s.tether.sample.valid

/-- Step 4 of R83: the new beat's work. -/
def State.boundaryWork (s : State) (loads : List BeatLoad) (ready : List PoolItem) : State :=
  let u := (s.each loads State.newWork).fabricTick
  let u := u.extractTick.reselectAll.waitingProbes
  let u := u.each (u.pages.map Prod.fst) State.admitWaiting
  let u := u.each (List.range (portCount u.variant)) State.portTick
  let u := ((u.ringTick.cipherTick).checkTick).poolTick ready
  ((((u.stepRails).switchBank).settleCommand).flushStage).showBlocks

/-- BEAT_BOUNDARY (R83): the boundary that begins beat `n`. -/
def execBeatBoundary (n : Nat) (loads : List BeatLoad) (ready : List PoolItem) (s : State) : Res :=
  s.run (beatNs * n) fun s => (((s.boundaryLoads loads).boundarySample).boundaryWork loads ready).resetTick

/-- SLOT_BOUNDARY (R96): the slot in progress has lasted its length. -/
def execSlotBoundary (t : Nat) (s : State) : Res :=
  s.run t fun s => if (s.block 5 2).state = .running ∧ s.slotEnd ≤ s.tsc then s.slotBegin else s

end Sys2Proof.Machine
end

