-- ==== Sys2Proof/Machine/Command.lean ====
section
/-! DEFINITION. Command-channel commands (R299-R308). -/

namespace Sys2Proof.Machine

/-- COMMAND_FRAME_END (R298, R300, R301): the frame has lasted 1,728 µs; the next one follows. -/
def execCommandFrameEnd (t p : Nat) (s : State) : Res :=
  s.runPort t p fun s =>
    match (s.cell p).frame with
    | some f => if f.start + 1728000 ≤ s.tsc then (s.setCell p { s.cell p with frame := none }).commandNext p else s
    | none => s

/-- HEARTBEAT (R300): no frame has started on the link for 3400.02 ms; a busy lane sends it next. -/
def execHeartbeat (t p link : Nat) (s : State) : Res :=
  s.runPort t p fun s =>
    if link < 8 then
      let u := s.settleLink p false link
      if u.heartbeatDue p link then u.commandNext p else u
    else s

/-- TAG_STORE_REFRESH (R302, R309): the store holds the tags of the next two counter values, under the slot's key. -/
def execTagStoreRefresh (t p link : Nat) (s : State) : Res :=
  s.runPort t p fun s =>
    if link < 8 ∧ s.sendStatusOf p link ≠ 0 ∧ s.sendStatusOf p link < 3 then
      match s.nextCnt p link with
      | some c =>
        let key := (s.slot (recSlot (s.linkRec p link))).key
        s.updLink p link fun x => { x with tags := [(c, key), (c + 1, key)] }
      | none => s
    else s

/-- HYPOTHESIS_TAG_COMPUTE (R304, R309): the tags for S_rx + 2 join those of S_rx − 1 to S_rx + 1, all under the slot's key. -/
def execHypothesisTagCompute (t p link : Nat) (s : State) : Res :=
  s.runPort t p fun s =>
    let r := s.linkRec p link
    let sec := s.linkSeconds (recEpoch r)
    if link < 8 ∧ s.commandMask p link 1 ≠ 0 ∧ recUsed r ∧ s.keyGone (recSlot r) = false ∧ s.timeSet ∧ 1 ≤ sec then
      s.updLink p link fun x => { x with
        seconds := [sec.toNat - 1, sec.toNat, sec.toNat + 1, sec.toNat + 2].map fun n => (n, (s.slot (recSlot r)).key) }
    else s

/-- Soft values of a command body: those that came with its four symbols, weighted (R184, R188), else what the check brings (log 65). -/
def bodySoft (c : RxCur) (n : Nat) (chips : List Int) : List Int :=
  let got := c.symbols.take 4
  if got.map SoftSymbol.number = [0, 1, 2, 3] ∧ (got.flatMap SoftSymbol.soft).length = n then got.flatMap SoftSymbol.soft else chips

/-- COMMAND_BODY_CHECK (R159, R163, R305, R306): the body of the frame the command lane receives. A body without a command is a
header that fails its check. -/
def execCommandBodyCheck (t p : Nat) (chips : List Int) (s : State) : Res :=
  s.runPort t p fun s =>
    match s.commandLane p with
    | none => s
    | some l =>
      match (s.lane p l).rx.state, (s.lane p l).rx.cur with
      | .header, some c =>
        let n := 4 * dataCarriers 1 (s.laneM p l)
        let d := s.decideBody p n ((bodySoft c n chips).take n)
        if d.2 then
          let u := (d.1.lbump p l 0x2014 5).updRx p l fun x => { x with state := .search, cur := none, searchAt := s.tsc }
          match (u.lane p l).rx.slot with
          | some o => (u.updRx p l fun x => { x with slot := none }).takeCollided p l { o with partner := c.num }
          | none => u
        else d.1.headerFails p l c 2
      | _, _ => s

/-- SUPERVISION_TIMEOUT (R307): no frame accepted for 3400.03 ms: the link goes DOWN. -/
def execSupervisionTimeout (t p link : Nat) (s : State) : Res :=
  s.runPort t p fun s =>
    let x := (s.cell p).link link
    if link < 8 ∧ x.up ∧ x.superviseAt + s.val 0x3400 3 * 1000000 ≤ s.tsc then
      (s.updLink p link fun y => { y with up := false }).settleCommand
    else s

/-- REKEY_CHANGEOVER_END (R308): 1400.06 beats after the rekey the old key is accepted no longer. -/
def execRekeyChangeoverEnd (t p link : Nat) (s : State) : Res :=
  s.runPort t p fun s =>
    match ((s.cell p).link link).old with
    | some (_, _, _, b) => if b ≤ s.beat then (s.updLink p link fun x => { x with old := none }).settleCommand else s
    | none => s

/-- MATRIX_SOURCE_CHANGE (R300, R301, R313-R315): every destination is evaluated. -/
def execMatrixSourceChange (t : Nat) (s : State) : Res := s.run t fun s => s.settleCommand

/-- TRIP_MIN_PULSE_END (R315): the output goes off where its function is 0. -/
def execTripMinPulseEnd (t n : Nat) (s : State) : Res := s.run t fun s => if n < 8 then s.settleOutput n else s

end Sys2Proof.Machine
end

