-- ==== Sys2Proof/Machine/Compliance.lean ====
section
/-! DEFINITION. Compliance of a lane's transmission (R149-R152) and a tone map left without acknowledgement (R283). -/

namespace Sys2Proof.Machine

/-- Clip of a group in 0.5 dB. -/
def LaneTx.clip (x : LaneTx) (g : Nat) : Nat := Table.get 0 x.clips g

/-- Excess in 0.5 dB, rounded up, of a value in 0.001 dB (R150). -/
def excessSteps (v : Int) : Nat := (v.toNat + 499) / 500

/-! ## What the monitor measures (R149) -/

/-- Two lane kinds lie on one grid of the monitor: the N grid or the W grid. -/
def sameGrid (a b : Nat) : Bool := a != 0 && b != 0 && (a == 2) == (b == 2)

/-- Distance of a carrier from a lane's range; 0 inside it. -/
def State.carrierGap (s : State) (p l k : Nat) : Nat := (s.laneFirst p l - k) + (k - s.laneLast p l)

/-- The lane that a carrier of lane `l`'s grid is charged to (R149): the nearest one, the lower on equal distances. -/
def State.chargedLane (s : State) (p l k : Nat) : Option Nat :=
  ((List.range 4).filter fun i => sameGrid (s.laneKind p i) (s.laneKind p l)).foldl (fun (b : Option Nat) i => match b with
    | none => some i
    | some a => if s.carrierGap p i k < s.carrierGap p a k then some i else some a) none

/-- The group that a carrier is charged to: its own, or the nearest one of the lane (R149). -/
def State.chargedGroup (s : State) (p l k : Nat) : Nat := s.groupOf p l (min k (s.laneLast p l))

/-- A carrier's measured PSD, in 0.001 dB above E(k) − B, corrected by the gain error in force of the observation path; none where the envelope
states no limit there (R149, R150, log 62). -/
def State.carrierExcess (s : State) (p l : Nat) (e : Nat × Int) : Option Int :=
  (s.carrierLimit p l e.1).map fun lim => 100 * e.2 - s.userShift p 7 - (100 * lim - 500 * (s.lval p l 0x200C 2 : Int))

/-- The worst carrier of each group charged in an integration (R150). -/
def State.groupPeaks (s : State) (p l : Nat) (carriers : List (Nat × Int)) : List (Nat × Int) :=
  let mine := (carriers.filter fun e => s.chargedLane p l e.1 == some l).filterMap fun e =>
    (s.carrierExcess p l e).map fun v => (s.chargedGroup p l e.1, v)
  ((List.range (s.clipGroups p l)).filterMap fun g => match mine.filter fun e => e.1 == g with
    | [] => none
    | a :: r => some (g, r.foldl (fun m e => max m e.2) a.2))

/-! ## Clips and mutes (R150, R151) -/

/-- A group is muted (R151). -/
def State.muteGroup (s : State) (p l g : Nat) : State :=
  let x := (s.lane p l).tx
  if x.mutedGroups.contains g then s
  else
    ((s.setTx p l { x with mutedGroups := x.mutedGroups ++ [g] }).lbump p l 0x200C 6).event (srcOf 1 p 12) 0x0502 sevAlarm
      (toBE 1 l ++ toBE 1 g)

/-- The monitor acts on one group's worst carrier (R150, R151), relative to E(k) − B in 0.001 dB. -/
def State.checkGroup (s : State) (p l : Nat) (e : Nat × Int) : State :=
  let x := (s.lane p l).tx
  let quiet := if -1000 < e.2 then Table.put 0 x.quiet e.1 s.beat else x.quiet
  if 1000 < e.2 then
    let c := min 40 (x.clip e.1 + excessSteps e.2)
    let u := s.setTx p l { x with clips := Table.put 0 x.clips e.1 c, quiet := quiet }
    let u := if x.clip e.1 < c then u.lbump p l 0x200C 5 else u
    if c = 40 then u.muteGroup p l e.1 else u
  else s.setTx p l { x with quiet := quiet }

/-- Beats of an integration (R149). -/
def integrationBeats (kind : Nat) : Nat := if kind = 2 then 1 else 8

/-- COMPLIANCE_INTEGRATION_END (R149-R151): at the boundary that ends an integration of 8 beats on the N grid, 1 on the W grid. -/
def execComplianceIntegrationEnd (t p l : Nat) (carriers : List (Nat × Int)) (s : State) : Res :=
  s.runPort t p fun s =>
    if s.laneKind p l = 0 ∨ 4 ≤ l ∨ s.beat < (s.lane p l).tx.integrated + integrationBeats (s.laneKind p l) then s
    else
      let peaks := s.groupPeaks p l carriers
      let u := s.setTx p l { (s.lane p l).tx with integrated := s.beat }
      let u := u.each peaks fun v e => v.checkGroup p l e
      let bad := peaks.filter fun (e : Nat × Int) => decide (1000 < e.2)
      if bad = [] then u
      else
        let peak := bad.foldl (fun (a : Int) e => max a ((e.2 + 50) / 100)) (signed 16 (u.lval p l 0x200C 9))
        (((u.lbump p l 0x200C 4).storeNat (laneKey p l 0x200C 8) u.tsc).storeNat (laneKey p l 0x200C 9) (unsigned 16 peak)).relevel p l

/-- CLIP_RELAX (R151): after 250 beats in which no carrier of the group came within 1 dB of E(k) − B. -/
def execClipRelax (t p l g : Nat) (s : State) : Res :=
  s.runPort t p fun s =>
    let x := (s.lane p l).tx
    if x.clip g ≠ 0 ∧ x.mutedGroups.contains g = false ∧ Table.get 0 x.quiet g + 250 ≤ s.beat then
      (s.setTx p l { x with clips := Table.put 0 x.clips g (x.clip g - 1), quiet := Table.put 0 x.quiet g s.beat }).relevel p l
    else s

/-- TMAP_UNACKNOWLEDGED (R283): the pending version is discarded, the link becomes ROBUST, and the TMAP is sent again. -/
def execTmapUnacknowledged (t link : Nat) (s : State) : Res :=
  s.run t fun s =>
    let x := s.link link
    if x.pending ∧ x.acked = false ∧ x.actCycle ≤ s.tether.cycle ∧ x.state ≠ .free then
      let y : Link := { x with state := .robust }
      ((s.costLink link y).bump 0x3220 0x0B).sendTmap link x.pendingDn x.pendingUp
    else s

end Sys2Proof.Machine
end

