-- ==== Sys2Proof/Machine/Echo.lean ====
section
/-! DEFINITION. Echo-canceller commands (R180-R184). -/

namespace Sys2Proof.Machine

/-- The hold timer and total as they stand now, with the transmission since the last measurement (R183). -/
def State.holdRun (s : State) (p : Nat) (b : Band) (transmitting : Bool) : State :=
  let x := s.echo p b
  let d := if x.hold then s.holdStep p b transmitting else 0
  s.setEcho p b { x with timer := x.timer + d, total := x.total + d, measured := s.tsc }

/-- ECHO_TRAINING_END (R183): 50 beats of training have ended; a port in STARTING or SWAPPING may then
release its lanes (R116, R123), a running one those of an added band (R474). -/
def execEchoTrainingEnd (t p : Nat) (b : Band) (x : EchoSolve) (s : State) : Res :=
  s.runPort t p fun s => s.followPort p fun s =>
    if (s.echo p b).state = .training ∧ (s.echo p b).beat + 50 ≤ s.beat then
      (((s.echoTrained p b x.level x.samples).bandTrained p b).portTrained p)
    else s

/-- Measurement window of a band (R181), ns. -/
def suppWindowNs : Band → Nat
  | .nb => 64000
  | .bb => 8000

/-- Of each lane measured, the two powers whose ratio is its suppression (R181). -/
def lanePowers (reference residual : List (Nat × Nat)) : List (Nat × Nat × Nat) :=
  reference.filterMap fun e => (Table.find residual e.1).map fun r => (e.1, e.2, r)

/-- S of a band from what its lanes measured (R181): the lowest of their ratios, in 0.1 dB. -/
def bandSupp : List (Nat × Nat × Nat) → Option Int
  | [] => none
  | e :: l => some (l.foldl (fun a x => min a (ratioTenths x.2.1 x.2.2)) (ratioTenths e.2.1 e.2.2))

/-- The release level has been reached throughout a measurement window that ends now. -/
def State.windowClear (s : State) (p : Nat) (b : Band) (supp : Int) : State :=
  let x := s.echo p b
  s.setEcho p b { x with clearAt := if s.minSupp p b + 30 ≤ supp then some (x.clearAt.getD s.tsc) else none }

/-- ECHO_SUPPRESSION_MEASURE (R181, R183): S keeps its last value while the port does not transmit in the band. -/
def execEchoSuppressionMeasure (t p : Nat) (b : Band) (reference residual : List (Nat × Nat)) (transmitting : Bool)
    (s : State) : Res :=
  s.run t fun s =>
    if (s.echo p b).state = .off then s else
    match bandSupp (if transmitting then (lanePowers reference residual).filter fun e => (s.bandLanes p b).contains e.1 else []) with
    | none => (s.holdRun p b false).setEcho p b { (s.holdRun p b false).echo p b with clearAt := none }
    | some supp =>
      let v := (((s.holdRun p b true).keepSupp p b supp).windowClear p b supp)
      let x := v.echo p b
      if x.state = .tracking then (if supp < v.minSupp p b then v.echoDisturb p b else v)
      else if (x.state = .reacquire ∨ x.state = .lost) ∧ x.clearAt.any fun a => decide (a + suppWindowNs b ≤ s.tsc) then v.endHold p b
      else v

/-- ECHO_HOLD_TIMEOUT (R183): the hold timer reaches its limit; the re-solve begins at the next beat boundary. -/
def execEchoHoldTimeout (t p : Nat) (b : Band) (s : State) : Res :=
  s.run t fun s =>
    let u := s.holdRun p b (s.bandTransmits p b)
    let x := u.echo p b
    if x.state = .reacquire ∧ holdTimerNs b ≤ x.timer then
      (u.setEcho p b { x with state := .resolve, beat := u.beat + 1 }).pbump p 0x2004 (0x22 + bandNo b)
    else s

/-- ECHO_RESOLVE_DONE (R180, R183): one beat after the re-solve began the model is handed over. -/
def execEchoResolveDone (t p : Nat) (b : Band) (x : EchoSolve) (s : State) : Res :=
  s.run t fun s =>
    if (s.echo p b).state = .resolve ∧ (s.echo p b).beat + 1 ≤ s.beat then
      let u := (s.holdRun p b (s.bandTransmits p b)).handover p b x.level (s.resolved p x.samples)
      u.setEcho p b { u.echo p b with state := .reacquire, beat := u.beat, timer := 0, clearAt := none }
    else s

/-- ECHO_HOLD_LIMIT (R183): the hold total reaches 2004.09 beats. -/
def execEchoHoldLimit (t p : Nat) (b : Band) (s : State) : Res :=
  s.run t fun s =>
    let u := s.holdRun p b (s.bandTransmits p b)
    let x := u.echo p b
    if (x.state = .reacquire ∨ x.state = .resolve) ∧ u.pval p 0x2004 9 * beatNs ≤ x.total then
      ((u.setEcho p b { x with state := .lost, beat := u.beat, modelBeat := u.beat }).event (srcCanceller p) 0x0503 sevWarning
        (toBE 1 (bandNo b))).pbump p 0x2004 (0x24 + bandNo b)
    else s

/-- ECHO_LOST_RESOLVE (R183): every 25 beats in LOST. -/
def execEchoLostResolve (t p : Nat) (b : Band) (x : EchoSolve) (s : State) : Res :=
  s.run t fun s =>
    if (s.echo p b).state = .lost ∧ (s.echo p b).modelBeat + 25 ≤ s.beat then s.handover p b x.level (s.resolved p x.samples) else s

/-- ECHO_MODEL_REFRESH (R178, R180): every 250 beats in TRACKING. -/
def execEchoModelRefresh (t p : Nat) (b : Band) (analogue : Int) (s : State) : Res :=
  s.run t fun s =>
    if (s.echo p b).state = .tracking ∧ (s.echo p b).modelBeat + 250 ≤ s.beat then s.handover p b analogue (s.refreshed p b) else s

end Sys2Proof.Machine
end

