-- ==== Sys2Proof/Machine/MeshOps.lean ====
section
/-! DEFINITION. What a received native frame does (R235, R239, R243-R244, R254, R271, R276-R277, R280, R285-R292, R294). -/

namespace Sys2Proof.Machine

/-- A node was allowed to start its frame (R235, R237, R239): on a grant in any slot but QUIET, else by contention; and so that it ends the guard
before the next slot in which the node may not transmit it. -/
def State.nodeMayStart (s : State) (rx : RxFrame) : Bool :=
  let start := rx.detected - s.rxPreambleNs rx.port rx.lane
  let stop := start + frameNs (s.laneKind rx.port rx.lane) rx.nsym
  let granted := match (s.lane rx.port rx.lane).tx.granted with
    | some g => g.1 == rx.src && decide (rx.detected ≤ g.2)
    | none => false
  let allowed := fun (n : Nat) => let ty := s.slotType (n % 24); if granted then ty != 5 else ty == 4 || ty == 2 && rx.cls == 0
  let here := s.slotAtTime start
  let steps := (s.slotAtTime stop + 24 - here) % 24
  let edge := s.slotAtTime (stop + s.guardNs)
  (List.range (steps + 1)).all (fun i => allowed (here + i)) && allowed edge

/-- The GRANT field of a node is its request for its next frame (R239, R243). -/
def State.takeRequest (s : State) (e cls g : Nat) : State :=
  if g = 0 ∨ s.isEndpoint e = false then s else s.setSpool (4 * e + cls) { s.spool (4 * e + cls) with greq := g }

/-- The endpoint has a spool that waits for a route. -/
def State.isUnrouted (s : State) (e : Nat) : Bool := (List.range 4).any fun c => (s.spool (4 * e + c)).state == .unrouted

/-- An endpoint left without a route, by a failed repair or with packets that wait for one. -/
def State.isLost (s : State) (e : Nat) : Bool := s.isUnrouted e || s.routes.failed.contains e

/-- A frame from an endpoint, or from a neighbour that lists one, starts a new repair of an endpoint left without a route (R287). -/
def State.repairOnFrame (s : State) (orig src : Nat) : State :=
  let listed := ((s.node src).neighbours.map Prod.fst).filter s.isLost
  s.each ((if s.isLost orig then [orig] else []) ++ listed.filter fun e => e != orig) State.startRepair

/-- What every decoded native frame of a neighbour does: plan check, link, request, learning (R235, R239, R276, R277, R280). -/
def State.heard (s : State) (rx : RxFrame) : State :=
  let p := rx.port
  let l := rx.lane
  let m := rx.mac
  let u := if s.nodeMayStart rx then s else s.bump 0x3190 6
  let u := (u.touchLink p l rx.src).takeRequest rx.src rx.cls m.grant
  let u := if s.isEndpoint m.orig then
      (if m.orig = rx.src then (match u.routeThrough m.orig rx.src p l with
        | some pos => u.confirmRoute pos
        | none => u)
      else u.learnRoute m.orig rx.src p l m.hops)
    else u
  u.repairOnFrame m.orig rx.src

/-- The frame can be a native one of a neighbour: a native data lane of a RUNNING port, SRC an endpoint. -/
def State.nativeRx (s : State) (rx : RxFrame) : Bool :=
  decide (rx.lane < 4) && s.hasPort rx.port && s.isNativeData rx.port rx.lane && s.isEndpoint rx.src && decide (rx.cls < 4)

/-- A native data frame of a node whose own ID lies outside the space. -/
def State.outsider (s : State) (rx : RxFrame) : Bool :=
  decide (rx.lane < 4) && s.hasPort rx.port && s.isNativeData rx.port rx.lane && !s.isEndpoint rx.src && decide (rx.cls < 4)

/-! ## Relaying (R289-R292) -/

/-- Enter a lane's relay queue (R292). -/
def State.enqueueRelay (s : State) (r : RouteEntry) (rx : RxFrame) : State :=
  let x := (s.lane r.port r.lane).tx
  if x.relays.length ≥ 32 then s.bump 0x3220 0x0A
  else
    let mac := { rx.mac with dst := r.next, hops := rx.mac.hops - 1, grant := 0 }
    (s.setTx r.port r.lane { x with relays := x.relays ++ [{ mac := mac, cls := rx.cls, prof := r.prof, link := r.link, beat := s.beat }] }).bump
      0x3220 9

/-- Relay a frame whose DST is the module and whose FIN is another endpoint (R289). -/
def State.relay (s : State) (rx : RxFrame) : State :=
  let fin := rx.mac.fin
  if rx.mac.hops = 0 ∨ s.isEndpoint fin = false then s.bump 0x3220 0x0A
  else match s.selected fin with
  | none => s.bump 0x3220 0x0A
  | some pos =>
    let r := s.route pos
    if r.port = rx.port ∧ r.lane = rx.lane ∧ r.next = rx.src then (s.bump 0x3220 0x0A).startRepair fin
    else s.enqueueRelay r rx

/-! ## Frames for the module -/

/-- An acknowledged frame of an endpoint passes its receive window (R254). -/
def State.windowRx (s : State) (rx : RxFrame) : State :=
  if rx.mac.ackReq then s.receiveSeq (4 * rx.mac.orig + rx.cls) rx else s

/-- A frame for the module from an endpoint: acknowledgement fields, the receive window, then what its type does. -/
def State.forModule (s : State) (rx : RxFrame) (f : State → State) : State :=
  let m := rx.mac
  if m.dst = 0 ∧ m.fin = 0 ∧ s.isEndpoint m.orig then f ((s.applyAck m.orig m).windowRx rx) else s

/-- A received native frame of one of the types in `types` (R244, R289): relayed, or for the module with effect `f`. -/
def State.receive (s : State) (rx : RxFrame) (types : List Nat) (f : State → State) : State :=
  if s.nativeRx rx ∧ types.contains rx.mac.type then
    let u := s.heard rx
    let m := rx.mac
    if m.dst = 0 ∧ m.fin ≠ 0 ∧ m.fin ≠ broadcastId ∧ m.type ≠ 3 ∧ m.type ≠ 4 then u.relay rx else u.forModule rx f
  else s

/-- A body whose length disagrees with its counts is discarded and counted (R286). -/
def State.malformed (s : State) : State := s.bump 0x3220 0x10

/-- The slot offset a node reports for itself on the link it is a neighbour by (R286); 24 and above is no slot (log 34). -/
def State.takeOffset (s : State) (rx : RxFrame) (o : Nat) : State :=
  if rx.mac.orig ≠ rx.src then s
  else match s.linkOf rx.port rx.lane rx.src with
  | none => s
  | some k =>
    let x := s.link k
    if bit x.offset 7 then (if x.offset % 32 = o then s else s.bump 0x3220 0x0F)
    else if o < 24 then s.setLink k { x with offset := o } else s

/-- REPORT (R285): downstream SNR per node slot and group, kept in module slots (R98). -/
def State.takeReport (s : State) (rx : RxFrame) : State :=
  let b := rx.mac.body
  let g := beAt b 0 1
  if b.length ≠ 4 + 24 * g ∨ b.length < 4 then s.malformed
  else if rx.mac.orig ≠ rx.src then s
  else match s.linkOf rx.port rx.lane rx.src with
  | none => s
  | some k =>
    let x := s.link k
    let o := x.offset % 32
    let t := (List.range (24 * g)).foldl
      (fun (t : Table Nat) i => Table.put 0xFF t (((i / g + o) % 24) * 256 + i % g) (beAt b (4 + i) 1)) []
    s.setLink k { x with snrDn := t, fresh := true }

/-- STATE (R285, R294): a node's epoch, digests and offset. -/
def State.takeState (s : State) (rx : RxFrame) : State :=
  let b := rx.mac.body
  if b.length ≠ 48 then s.malformed
  else
    let e := rx.mac.orig
    let u := (s.takeOffset rx (beAt b 4 1)).bump 0x3220 0x11
    let v := u.setNode e { u.node e with reportAt := some u.tsc, reportEpoch := beAt b 0 4 }
    v.compareReport 2 e (beAt b 0 4) ((List.range 5).map fun i => beAt b (8 + 8 * i) 8)

/-- METRIC and HOPS of the sender of a report as the module reaches it. -/
def State.senderMetric (s : State) (rx : RxFrame) : Nat × Nat :=
  if rx.mac.orig = rx.src then (s.neighbourMetric rx.src rx.port rx.lane, 1)
  else match s.routeThrough rx.mac.orig rx.src rx.port rx.lane with
  | some pos => ((s.route pos).metric, (s.route pos).hops)
  | none =>
    let h := max 1 (16 - rx.mac.hops)
    (s.neighbourMetric rx.src rx.port rx.lane + s.hopPenalty * (h - 1), h)

/-- NEIGHBOURS (R285, R286): every listed endpoint receives or refreshes an entry through the sender. -/
def State.takeNeighbours (s : State) (rx : RxFrame) : State :=
  let b := rx.mac.body
  let n := beAt b 0 2
  if n = 0 ∨ 2047 < n ∨ b.length ≠ 4 + 8 * n then s.malformed
  else
    let l := (List.range n).map fun i => (beAt b (4 + 8 * i) 4, beAt b (8 + 8 * i) 2)
    let u := s.setNode rx.mac.orig { s.node rx.mac.orig with neighbours := l }
    let m := u.senderMetric rx
    u.each (l.filter fun (e : Nat × Nat) => u.isEndpoint e.1) fun v e =>
      v.reportRoute e.1 rx.src rx.port rx.lane (min 15 (m.2 + 1)) (m.1 + e.2 + v.hopPenalty)

/-- PROBE_REPLY (R285, R286): a path from the target back to the module. -/
def State.takeProbeReply (s : State) (rx : RxFrame) : State :=
  let b := rx.mac.body
  let n := beAt b 6 1
  if n = 0 ∨ 15 < n ∨ b.length ≠ 8 + 8 * n then s.malformed
  else
    let target := beAt b 0 4
    let costs := ((List.range (n - 1)).map fun i => beAt b (12 + 8 * i) 2).foldl (· + ·) 0
    let own := match s.linkOf rx.port rx.lane rx.src with
      | some k => (s.link k).cost
      | none => s.beaconCost rx.port rx.lane
    if s.isEndpoint target then s.reportRoute target rx.src rx.port rx.lane n (own + costs + s.hopPenalty * n) else s

/-- A JOIN is refused (R271): logged and counted, and not acknowledged. -/
def State.refuseJoin (s : State) (e eui : Nat) : State := (s.event srcRoutes 0x0A01 sevWarning (toBE 4 e ++ toBE 8 eui)).bump 0x3220 0x0D

/-- A JOIN names another EUI-64 than the one recorded, while the endpoint has a valid entry (R271). -/
def State.joinClash (s : State) (e eui : Nat) : Bool :=
  (s.node e).joined && (s.node e).eui != eui && (routePositions e).any fun pos => (s.route pos).valid

/-- An accepted JOIN (R271, R286). -/
def State.takeJoin (s : State) (rx : RxFrame) : State :=
  let b := rx.mac.body
  (s.setNode rx.mac.orig { s.node rx.mac.orig with eui := beAt b 0 8, joined := true }).takeOffset rx (beAt b 8 1)

end Sys2Proof.Machine
end

