-- ==== Sys2Proof/Machine/Mesh.lean ====
section
/-! DEFINITION. Received frames, links and repairs by command (R244, R253-R254, R271-R272, R276, R280-R281, R285-R294). -/

namespace Sys2Proof.Machine

/-- DATA_FRAME_RECEIVED (R244, R254, R261, R289): in the receive window of its spool, delivered at once where it is a broadcast, or
relayed; a frame of reserved TYPE is discarded and counted. -/
def execDataFrameReceived (t : Nat) (rx : RxFrame) (s : State) : Res :=
  s.run t fun s =>
    let m := rx.mac
    if s.nativeRx rx = false then s
    else if m.type = 0 ∨ 12 ≤ m.type then s.bump 0x3190 8
    else if m.type = 1 ∧ m.fin = broadcastId then (s.heard rx).deliverPacket m.body rx
    else s.receive rx [1] fun u => if m.ackReq then u else u.deliverPacket m.body rx

/-- ACK_FRAME_RECEIVED (R253, R289). -/
def execAckFrameReceived (t : Nat) (rx : RxFrame) (s : State) : Res := s.run t fun s => s.receive rx [2] id

/-- REPORT_RECEIVED (R282, R285). -/
def execReportReceived (t : Nat) (rx : RxFrame) (s : State) : Res := s.run t fun s => s.receive rx [6] fun u => u.takeReport rx

/-- STATE_RECEIVED (R286, R294). -/
def execStateReceived (t : Nat) (rx : RxFrame) (s : State) : Res := s.run t fun s => s.receive rx [7] fun u => u.takeState rx

/-- NEIGHBOURS_RECEIVED (R286). -/
def execNeighboursReceived (t : Nat) (rx : RxFrame) (s : State) : Res :=
  s.run t fun s => s.receive rx [8] fun u => u.takeNeighbours rx

/-- PROBE_REPLY_RECEIVED (R286). -/
def execProbeReplyReceived (t : Nat) (rx : RxFrame) (s : State) : Res :=
  s.run t fun s => s.receive rx [10] fun u => u.takeProbeReply rx

/-- JOIN_RECEIVED (R271, R286): refused, also one that a node outside the ID space sends itself, or recorded. -/
def execJoinReceived (t : Nat) (rx : RxFrame) (s : State) : Res :=
  s.run t fun s =>
    let m := rx.mac
    let eui := beAt m.body 0 8
    if m.type = 11 ∧ m.dst = 0 ∧ m.fin = 0 ∧ s.outsider rx then s.refuseJoin m.orig eui
    else if s.nativeRx rx ∧ m.type = 11 ∧ m.dst = 0 ∧ m.fin = 0 then
      if m.body.length ≠ 16 then (s.heard rx).malformed
      else if s.isEndpoint m.orig = false ∨ s.joinClash m.orig eui then (s.heard rx).refuseJoin m.orig eui
      else s.receive rx [11] fun u => u.takeJoin rx
    else s.receive rx [11] id

/-- G9903_BOOTSTRAP (R224, R272): the node receives its endpoint ID; its earlier one goes. -/
def execG9903Bootstrap (t p l short eui : Nat) (s : State) : Res :=
  s.run t fun s =>
    let e := s.val 0x3210 0x0A + short
    if s.hasPort p ∧ l < 4 ∧ s.laneKind p l = 3 ∧ s.running p ∧ 1 ≤ short ∧ short ≤ 0x7FFF ∧ s.isEndpoint e then
      let old := (s.routes.nodes.filter fun (n : Nat × Node) => n.2.g9903 && n.2.eui == eui).map Prod.fst
      (s.each old fun u n => u.setNode n {}).setNode e { eui := eui, joined := true, g9903 := true }
    else s

/-- PROBE_TIMEOUT (R287): the next attempt, or the repair fails. -/
def execProbeTimeout (t endpoint : Nat) (s : State) : Res :=
  s.run t fun s =>
    match s.repairOf endpoint with
    | some r =>
      if r.waiting = false ∧ r.sentAt + s.val 0x3210 5 * 1000000 ≤ s.tsc then
        if r.attempt < s.val 0x3210 4 then s.sendProbe r else s.endRepair endpoint 7
      else s
    | none => s

/-- RELAY_WAIT_EXPIRY (R292): relay frames that did not start in time are discarded and counted. -/
def execRelayWaitExpiry (t p l : Nat) (s : State) : Res :=
  s.run t fun s =>
    let x := (s.lane p l).tx
    let late := fun (i : RelayItem) => decide (i.beat + s.val 0x3210 7 ≤ s.beat)
    (s.setTx p l { x with relays := x.relays.filter fun (i : RelayItem) => !late i }).bumpKey (keyOf 0x3220 0x0A) (x.relays.filter late).length

/-- ROUTE_AGE_EXPIRY (R276): AGE has reached the route lifetime. -/
def execRouteAgeExpiry (t pos : Nat) (s : State) : Res :=
  s.run t fun s =>
    let r := s.route pos
    if r.valid ∧ r.pinned = false ∧ s.val 0x3210 1 ≤ s.routeAge r then (s.invalidateRoute pos).bump 0x3220 2 else s

/-- LINK_IDLE_RELEASE (R280): no frame from the peer for the route lifetime, and no valid entry names the link. -/
def execLinkIdleRelease (t link : Nat) (s : State) : Res :=
  s.run t fun s =>
    let x := s.link link
    if x.state ≠ .free ∧ x.lastRx + s.val 0x3210 1 * 1000000000 ≤ s.tsc ∧ s.routesOfLink link = [] then s.releaseLink link else s

/-- LINK_RELEASE (R280, R281): a window record with STATE 0 takes effect. -/
def execLinkRelease (t link writer : Nat) (s : State) : Res :=
  s.run t fun s => if (s.link link).state = .free then s else s.releaseBy link writer

/-- LINK_OFFSET_WRITE (R281): a window record's OFFSET takes effect. -/
def execLinkOffsetWrite (t link writer : Nat) (offset : Byte) (s : State) : Res :=
  s.run t fun s =>
    if (s.link link).state = .free then s else s.offsetBy link writer offset.toNat

end Sys2Proof.Machine
end

