-- ==== Sys2Proof/Machine/Port.lean ====
section
/-! DEFINITION. Port commands (R108-R123). -/

namespace Sys2Proof.Machine

/-- PORT_START_DELAY (R116): 25 beats after entry the loopback calibration begins. -/
def execPortStartDelay (t p : Nat) (s : State) : Res :=
  s.runPort t p fun s => s.followPort p fun s =>
    let x := s.port p
    if x.state = .starting ∧ x.step = .bias ∧ x.stepBeat + 25 ≤ s.beat ∧ x.moving = false then
      s.updPort p fun y => { y with step := .loopback, stepBeat := s.beat }
    else s

/-- LOOPBACK_DONE (R116, R118, R123): cause 4, or the relay step, or STOPPED where stop is 1; in SWAPPING a stop or disable
ends the substitution here. -/
def execLoopbackDone (t p : Nat) (offset delayError : Int) (s : State) : Res :=
  s.runPort t p fun s => s.followPort p fun s =>
    let x := s.port p
    if x.step = .loopback ∧ (x.state = .starting ∨ x.state = .swapping) ∧ x.stepBeat + 50 ≤ s.beat ∧ x.moving = false then
      let s := s.updPort p fun y => { y with calibrate := false }
      if 2048 < offset.natAbs ∨ 20 < delayError.natAbs then s.portFault p 4
      else if x.state = .starting then
        if s.portStopped p then s.abandonPort p .stopped else s.relayStep p .starting
      else if !s.portEnabled p then (s.swapDone p).abandonPort p .off
      else if s.portStopped p then (s.swapDone p).abandonPort p .stopped
      else s.relayStep p .swapping
    else s

/-- RELAY_CONTACT_SENSE (R116, R118, R122, R123, R474). -/
def execRelayContactSense (t p : Nat) (c : Contact) (closed : Bool) (s : State) : Res :=
  s.runPort t p fun s => s.followPort p fun s =>
    match c with
    | .band b => s.bandSense p b closed
    | .matrix => s.matrixSense p closed

/-- RELAY_SENSE_TIMEOUT (R118): cause 5; the comparison is made again 250 beats later. -/
def execRelaySenseTimeout (t p : Nat) (s : State) : Res :=
  s.runPort t p fun s => s.followPort p fun s =>
    if s.portUp p ∧ s.senseLate p then
      (s.updPort p fun x => { x with
        relayNb := { x.relayNb with beat := s.beat }, relayBb := { x.relayBb with beat := s.beat },
        matrix := { x.matrix with beat := s.beat } }).portFault p 5
    else s

/-- PORT_LANES_IDLE (R116, R123): STOPPING, or step 1 of a substitution, ends. -/
def execPortLanesIdle (t p : Nat) (s : State) : Res :=
  s.runPort t p fun s => s.followPort p fun s =>
    let x := s.port p
    let due := s.lanesIdle p || decide (x.stateBeat + 250 ≤ s.beat)
    if x.state = .stopping ∧ due then (s.finishStopping p).portPolicy p
    else if x.state = .swapping ∧ x.step = .drain ∧ due then s.drainSwap p else s

/-- FAULT_RETRY_EXPIRY (R116, R118): the retry interval has elapsed. -/
def execFaultRetryExpiry (t p : Nat) (s : State) : Res := s.runPort t p fun s => s.followPort p fun s => s.retryPort p

/-- RETRY_RELOAD (R119): after 90,000,000 beats in RUNNING without a fault. -/
def execRetryReload (t p : Nat) (s : State) : Res :=
  s.runPort t p fun s =>
    let x := s.port p
    if x.state = .running ∧ x.runBeat + 90000000 ≤ s.beat then
      (s.reloadRetries p).updPort p fun y => { y with runBeat := s.beat }
    else s

/-- TRANSMIT_POWER_MEASURE (R108): the mean of the beat through the observation path, whose gain error in force is quantity 7; published, and
kept for the mean over 25 beats. -/
def execTransmitPowerMeasure (t p power : Nat) (s : State) : Res :=
  s.runPort t p fun s =>
    let w := (scaleBy power (powerRatio (-(s.userShift p 7)))).toNat
    (s.updPort p fun x => { x with powers := (w :: x.powers).take 25 }).storeNat (portKey p 0x2001 6) w

/-- CURRENT_LIMIT (R109): counted once per beat, line flag 6 set, and signalled to the lanes, which mark the symbols of the beat (R192). -/
def execCurrentLimit (t p : Nat) (s : State) : Res :=
  s.runPort t p fun s =>
    if (s.port p).limitBeat = some s.beat then s
    else (((s.updPort p fun x => { x with
      limitBeat := some s.beat, limits := s.beat :: x.limits.filter fun b => decide (s.beat ≤ b + 3200) }).lineFlag p 6 true).pbump
        p 0x201F 2).limitLanes p

/-- DRIVER_TEMPERATURE_READ (R110, R118, R436): the driver wears by a beat, weighted by its temperature; published with the sensor offset in force, quantity 8; 150 °C is fault cause 1, cleared at 100 °C. -/
def execDriverTemperatureRead (t p : Nat) (temp : Int) (s : State) : Res :=
  s.runPort t p fun s => s.followPort p fun s =>
    let temp := temp - s.userShift p 8
    let hot := decide (125000 ≤ temp)
    let u := (s.updPort p fun x => { x with
      temp := temp,
      hotBeat := if hot then some (x.hotBeat.getD s.beat) else none,
      foldBeat := if hot ∧ x.hotBeat = none then s.beat + 1 else x.foldBeat,
      coolBeat := if temp ≤ 120000 ∧ x.foldback ≠ 0 then some (x.coolBeat.getD s.beat) else none }).storeNat
        (portKey p 0x2001 7) (f32Milli temp)
    let u := u.wearBy 0x6042 (s.afeOf p + 1) 128 (40000 * arrhenius temp)
    let x := u.port p
    if 150000 ≤ temp then
      (if x.state = .fault then (if x.cause = 1 then u.updPort p fun y => { y with causeActive := true } else u) else u.portFault p 1)
    else if temp ≤ 100000 ∧ x.state = .fault ∧ x.cause = 1 then
      (u.updPort p fun y => { y with causeActive := false }).retryPort p
    else u

/-- AGC_UPDATE (R111, R112): the counts of the beat, and the gain of the next. -/
def execAgcUpdate (t p : Nat) (b : ReceiveBeat) (s : State) : Res :=
  s.runPort t p fun s =>
    let u := s.when b.fullScale fun v => v.pbump p 0x201F 6
    let u := u.when b.cancelSaturated fun v => v.pbump p 0x201F 0x0A
    let u := u.when b.clamp fun v => v.pbump p 0x201F 7
    let u := (u.updPort p fun x => { x with clampRun := if b.clamp then x.clampRun + 1 else 0 }).lineFlag p 7 b.clamp
    if u.pval p 0x2002 1 = 1 then u.lineFlag p 8 false
    else
      let x := u.port p
      let high := decide (-10 ≤ b.peak)
      let low := decide (b.peak < (signed 8 (u.pval p 0x2002 3) - 6) * 10)
      let quiet := if low then min 250 (x.quietBeats + 1) else 0
      let next := if high then x.gain - 6 else if quiet = 250 then min 30 (x.gain + 1) else x.gain
      let limit := high && x.gain == 0 || quiet == 250 && x.gain == 30
      (u.updPort p fun y => { y with
        quietBeats := if quiet = 250 ∧ next ≠ x.gain then 0 else quiet,
        gainNext := if next = x.gain then none else some next }).lineFlag p 8 limit

/-- CLAMP_OVERVOLTAGE (R112): after 250 consecutive beats with the clamp conducting. -/
def execClampOvervoltage (t p : Nat) (s : State) : Res :=
  s.runPort t p fun s => s.followPort p fun s =>
    if 250 ≤ (s.port p).clampRun then (s.updPort p fun x => { x with clampRun := 0 }).portFault p 3 else s

/-- Limits of R114 in mΩ: OPEN above, SHORT below. -/
def openAbove : Band → Nat
  | .nb => 200000
  | .bb => 1000000

/-- Limits of R114 in mΩ: OPEN above, SHORT below. -/
def shortBelow : Band → Nat
  | .nb => 100
  | .bb => 1000

/-- Set or clear an OPEN or SHORT flag; each setting counts (R114). -/
def State.lineCheck (s : State) (p i counter : Nat) (on : Bool) : State :=
  let u := s.lineFlag p i on
  if on ∧ bit (s.port p).flags i = false then u.pbump p 0x201F counter else u

/-- Beat from which the impedance interval of a band runs. -/
def Port.impedanceAt (x : Port) : Band → Nat
  | .nb => x.impedanceNb
  | .bb => x.impedanceBb

/-- Start the impedance interval of a band. -/
def Port.setImpedanceAt (x : Port) (b : Band) (n : Nat) : Port :=
  match b with
  | .nb => { x with impedanceNb := n }
  | .bb => { x with impedanceBb := n }

/-- IMPEDANCE_MEASURE (R113, R114): every 2003.05 seconds, in a band the port uses; a band without a carrier keeps its reading. -/
def execImpedanceMeasure (t p : Nat) (b : Band) (z : Option Nat) (s : State) : Res :=
  s.runPort t p fun s =>
    let every := s.pval p 0x2003 5
    if every ≠ 0 ∧ s.running p ∧ (s.portBands p).contains b ∧ (s.port p).impedanceAt b + every * 25000 ≤ s.beat then
      let u := s.updPort p fun x => x.setImpedanceAt b s.beat
      match z with
      | none => u
      | some z =>
        ((u.storeNat (portKey p 0x2003 (3 + bandNo b)) (f32Milli z)).lineCheck p (2 * bandNo b) 8 (decide (openAbove b < z))).lineCheck p
          (2 * bandNo b + 1) 9 (decide (z < shortBelow b))
    else s

/-- DRIVER_RAIL_REGULATION (R118): more than 10 µs out of regulation is cause 2, cleared when the rail is back. -/
def execDriverRailRegulation (t p outUs : Nat) (s : State) : Res :=
  s.runPort t p fun s => s.followPort p fun s =>
    let x := s.port p
    if 10 < outUs then
      (if x.state = .fault then (if x.cause = 2 then s.updPort p fun y => { y with causeActive := true } else s) else s.portFault p 2)
    else if outUs = 0 ∧ x.state = .fault ∧ x.cause = 2 then
      (s.updPort p fun y => { y with causeActive := false }).retryPort p
    else s

end Sys2Proof.Machine
end

