-- ==== Sys2Proof/Machine/Receive.lean ====
section
/-! DEFINITION. Reception on a lane, by command (R158-R174, R188, R195-R197, R229). -/

namespace Sys2Proof.Machine

/-- The port and lane have a receive path on the variant. -/
def State.laneThere (s : State) (p l : Nat) : Bool := s.hasPort p && decide (l < 4)

/-- PREAMBLE_DETECTION (R158, R160): correlators whose Q reaches 2010.01 on a lane in state 2 or 3. -/
def execPreambleDetection (t p l : Nat) (ds : List Detection) (s : State) : Res :=
  s.run t fun s =>
    if s.laneThere p l ∧ (s.lane p l).rx.state ≠ .off then
      s.each (vigilOrder (s.rxSymbolNs p l) ds.length (ds.filter fun d => decide (signed 8 (s.lval p l 0x2010 1) ≤ d.q))) fun u d => u.detect p l d
    else s

/-- The header check of the replay path (R170 step 4, R171): only an N-profile goes on. -/
def State.replayHeader (s : State) (p l : Nat) (h : Header) : State :=
  match s.replaying p l with
  | none => s
  | some q =>
    match q.target with
    | none => s
    | some c =>
      if c.headerOk then s
      else
        let h := s.headerOf p l c h
        if h.crcOk ∧ s.headerServed p l h ∧ profileGroup h.prof = 1 then
          (s.setPair p l q (some (q.setTarget (s.passed p l c h)))).lbump p l 0x2014 5
        else (s.setPair p l q none).lbumpN p l 0x2014 0x0D (ofBool (!q.reverse))

/-- The lane is decoding a header. -/
def State.inHeader (s : State) (p l : Nat) : Option RxCur :=
  if (s.lane p l).rx.state = .header then (s.lane p l).rx.cur else none

/-- HEADER_CHECK_RESULT (R163, R164, R173). -/
def execHeaderCheckResult (t p l : Nat) (replay : Bool) (h : Header) (s : State) : Res :=
  s.run t fun s =>
    if replay then s.replayHeader p l h
    else match s.inHeader p l with
    | none => s
    | some c =>
      let h := s.headerOf p l c h
      if h.crcOk = false then s.headerFails p l c 2
      else if s.headerServed p l h = false then s.headerFails p l c 4
      else (s.updRx p l fun x => { x with state := .payload, cur := some (s.passed p l c h) }).lbump p l 0x2014 5

/-- REARM_END (R163, R167): one symbol after the end of the failed header. -/
def execRearmEnd (t p l : Nat) (s : State) : Res :=
  s.run t fun s =>
    let x := (s.lane p l).rx
    if x.state = .rearm ∧ x.rearmAt + s.rxSymbolNs p l ≤ s.tsc then
      match x.cur with
      | some c => s.examineSlot p l c .search
      | none => s.updRx p l fun y => { y with state := .search, searchAt := s.tsc }
    else s

/-- The granted node's frame has ended (R239). -/
def State.grantUsed (s : State) (p l src : Nat) : State :=
  match (s.lane p l).tx.grant with
  | some (e, _, due) => if e = src then s.setTx p l { (s.lane p l).tx with grant := none, granted := some (e, due) } else s
  | none => s

/-- LAST_SYMBOL_RECEIVED (R168, R219, R239): the payload goes to the coding pool, the lane to SEARCH, the slot is examined. -/
def execLastSymbolReceived (t p l : Nat) (s : State) : Res :=
  s.run t fun s =>
    let x := (s.lane p l).rx
    match x.state, x.cur with
    | .payload, some c0 =>
      let c := { c0 with ended := some s.tsc }
      let u := s.updRx p l fun y => { y with state := .search, cur := none, searchAt := s.tsc }
      let u := if s.hasMaps p l c.head then u.updRx p l fun y => { y with decoding := y.decoding ++ [c] }
        else ((u.lbump p l 0x2014 0x32).report p l c false)
      let u := u.grantUsed p l c.head.src
      match x.slot with
      | some o => u.slotAtEnd p l c o
      | none => u
    | _, _ => s

/-- A pair whose wait is over starts in replay, unless its first sample is more than 60 ms old (R169-R171). A frame processed from its preamble
whose fresh estimate lies beyond ±110 ppm ends the attempt. -/
def State.startReplay (s : State) (p : Nat) (q : ReplayPair) (r : ReplayPass) : State :=
  let l := r.lane
  let c := if q.reverse then q.strong else q.weak
  let go : ReplayPair := { q with phase := 2 }
  let u := if c.headerOk = false ∧ farOff r.afc then (s.setPair p l q none).lbumpN p l 0x2014 0x0D (ofBool (!q.reverse))
    else s.setPair p l q (some (go.setTarget (s.replayed p l c r.afc r.meanSquare r.estimate)))
  if s.replayFresh p l c = false then ((s.setPair p l q none).lbump p l 0x2014 0x0F).reportLost p l c
  else if q.reverse then u else u.lbump p l 0x2014 0x0A

/-- DUAL_CAPTURE_REPLAY (R169-R171): the oldest pair that is ready starts. -/
def execDualCaptureReplay (t p : Nat) (r : ReplayPass) (s : State) : Res :=
  s.run t fun s =>
    let l := r.lane
    if s.replayState p l = 2 then s
    else match (s.lane p l).rx.pairs.find? fun q => q.phase == 1 with
    | none => s
    | some q => if s.weakEnd p l q ≤ s.tsc then s.startReplay p q r else s

/-- DECODE_RESULT (R172, R213, R229): of a frame on the main path, or of a pass on the replay path. -/
def execDecodeResult (t p l frame : Nat) (r : DecodeResult) (s : State) : Res :=
  s.run t fun s =>
    let x := (s.lane p l).rx
    match x.decoding.find? fun c => c.num == frame with
    | some c => s.mainDecoded p l c (s.decodeOf p l c r)
    | none =>
      match s.replaying p l with
      | some q => match q.target with
        | some c => if c.num = frame then s.replayDecoded p l q (s.decodeOf p l c r) else s
        | none => s
      | none => s

/-- A symbol period of the replay path (R177): its frame is judged. -/
def State.replaySymbol (s : State) (p l : Nat) (y : RxSymbol) : State :=
  match s.replaying p l with
  | none => s
  | some q =>
    match q.target with
    | none => s
    | some c => s.rxSymbol p l c y y.body fun u c' => u.setPair p l q (some (q.setTarget c'))

/-- A symbol period of the main path (R177, R187): the echo canceller takes it up, then the frame in hand; in REARM only blanking. -/
def State.mainSymbol (s : State) (p l : Nat) (y : RxSymbol) : State :=
  let e := s.cancelEcho p l y
  let u := s.setLaneEcho p l e.2
  match (s.lane p l).rx.state, (s.lane p l).rx.cur with
  | .header, some c => u.rxSymbol p l c y e.1 fun v c' => v.setCur p l c'
  | .payload, some c => u.rxSymbol p l c y e.1 fun v c' => v.setCur p l c'
  | .rearm, _ => u.lbumpN p l 0x2014 0x20 (slidingBlank (s.rxSettings p l) (s.laneKind p l) y.lead e.1 y.tail).2
  | _, _ => u

/-- RX_SYMBOL_END (R177-R193): a symbol period of the main path or of the replay path. -/
def execRxSymbolEnd (t p l : Nat) (sym : RxSymbol) (s : State) : Res :=
  s.run t fun s =>
    if s.laneThere p l then (if sym.replay then s.replaySymbol p l sym else s.mainSymbol p l sym) else s

/-- A noise-floor window is taken, or for blanking excluded (R195): the lane in SEARCH throughout, no detection, no hold, slot valid. -/
def State.floorOpen (s : State) (p l : Nat) (w : FloorWindow) : Bool :=
  let x := (s.lane p l).rx
  let stop := w.start + windowNs (s.laneKind p l)
  s.laneThere p l && x.state == .search && decide (x.searchAt ≤ w.start) && decide (x.floorEnd ≤ w.start) && decide (stop ≤ s.tsc)
    && w.body.length == fftWindow (s.laneKind p l) && decide (ofBE (s.raw (laneKey p l 0x2014 0x12)) < w.start)
    && !(s.echo p (s.laneBand p l)).heldDuring w.start stop [(w.start, stop)]
    && s.lval p l 0x2010 0x15 == 1 && s.tether.valid && decide (s.tether.validAt ≤ w.start)

/-- NOISE_FLOOR_WINDOW (R187, R195, R196). -/
def execNoiseFloorWindow (t p l : Nat) (w : FloorWindow) (s : State) : Res :=
  s.run t fun s =>
    if s.floorOpen p l w then
      let slot := s.slotAtTime w.start
      let z := slidingBlank (s.rxSettings p l) (s.laneKind p l) w.lead w.body w.tail
      let u := (s.updRx p l fun y => { y with floorEnd := w.start + windowNs (s.laneKind p l) }).lbumpN p l 0x2014 0x20 z.2
      if z.1.any id then
        (u.updRx p l fun y => { y with impulses := Table.upd 0 y.impulses slot (fun n => min 65535 (n + 1)) }).lbump p l 0x2014 0x2B
      else (u.updRx p l fun y => { y with floor := addFloor y.floor slot (s.floorValues p l w) }).lbump p l 0x2014 0x2A
    else s

/-- NOISE_FLOOR_PUBLISH (R197): at the start of slot 0 that ends a period of 64 valid cycles. -/
def execNoiseFloorPublish (t p l : Nat) (s : State) : Res :=
  s.run t fun s =>
    let x := (s.lane p l).rx
    if s.laneThere p l ∧ x.state ≠ .off ∧ 64 ≤ x.cycles then
      let g := s.floorGroups p l
      let u := s.each (List.range 24) fun u n => u.store (laneKey p l 0x2018 (n + 1)) (floorSlot x.floor g n)
      let u := u.storeNat (laneKey p l 0x2018 0x19) u.tsc
      let u := u.store (laneKey p l 0x2018 0x1B) ((List.range 24).flatMap fun n => toBE 2 (Table.get 0 x.impulses n))
      u.updRx p l fun y => { y with floor := [], impulses := [], cycles := 0 }
    else s

end Sys2Proof.Machine
end

