-- ==== Sys2Proof/Machine/Ring.lean ====
section
/-! DEFINITION. The station ring by command (R365-R379). -/

namespace Sys2Proof.Machine

/-- A command at the ring while its block is RUNNING. -/
def State.runRing (s : State) (t : Nat) (f : State → State) : Res := s.run t fun u => if u.ringUp then f u else u

/-- RING_TRAINING_COMPLETE (R365, R366, R379): a margin of 3.0 dB on both pairs takes the port UP. -/
def execRingTrainingComplete (t : Nat) (side : Side) (marginA marginB : Int) (cable : Nat) (s : State) : Res :=
  s.runRing t fun s =>
    let x := s.ringPort side
    if x.link ≠ .training ∧ x.link ≠ .down then s
    else
      let u := (s.setVal 0x3800 (sideSub side 0x14) (f32Tenth (min marginA marginB))).setVal 0x3800 (sideSub side 0x17) (f32Tenth cable)
      if marginA < 30 ∨ marginB < 30 then u
      else
        let v := (u.setRingLink side .up).ringSwapDone side
        let w := if v.ring.state = .inserting ∧ v.ring.inserted ∧ v.ring.east.link = .up ∧ v.ring.west.link = .up then v.ringInserted else v
        w.ringKick side

/-- RING_LINK_LOSS (R365, R372). -/
def execRingLinkLoss (t : Nat) (side : Side) (s : State) : Res :=
  s.runRing t fun s => if (s.ringPort side).link = .up then (s.setRingLink side .down).ringCount side 0x0D else s

/-- RING_CONFLICT_TIMEOUT (R365): 1 s in CONFLICT, or a role change of the partner. -/
def execRingConflictTimeout (t : Nat) (side : Side) (roleChanged : Bool) (s : State) : Res :=
  s.runRing t fun s =>
    let x := s.ringPort side
    if x.link = .conflict ∧ (roleChanged ∨ x.conflictAt + 1000000000 ≤ s.tsc) then s.setRingLink side .training else s

/-- RING_FRAME_RECEIVED (R349, R352, R367-R370). -/
def execRingFrameReceived (t : Nat) (side : Side) (frame : RingFrame) (s : State) : Res :=
  s.runRing t fun s => if (s.ringPort side).link = .up then s.ringReceive side frame else s

/-- HSR_SUPERVISION_SEND (R370): every 3800.0E ms, on both ports. -/
def execHsrSupervisionSend (t : Nat) (s : State) : Res :=
  s.runRing t fun s =>
    if s.ring.supervisedAt + s.val 0x3800 0x0E * 1000000 ≤ s.tsc then
      ({ s with ring := { s.ring with supervisedAt := s.tsc } }).sendRing daSupervision 0x88FB none (toBE 6 Config.ringAddress)
    else s

/-- PTP_MESSAGE_RECEIVED (R373, R374). -/
def execPtpMessageReceived (t : Nat) (side : Side) (m : PtpMessage) (s : State) : Res :=
  s.runRing t fun s => if (s.ringPort side).link = .up then s.ptpReceive side m else s

/-- PTP_SYNC_TIMEOUT (R374): three Sync intervals without a Sync on the port in use: the clock moves to the other port. -/
def execPtpSyncTimeout (t : Nat) (s : State) : Res :=
  s.runRing t fun s =>
    let d := if s.ring.ptpPort = 1 then Side.east else Side.west
    if s.ring.ptpPort ≠ 0 ∧ (s.ringPort d).syncAt + 3000000000 ≤ s.tsc then
      let u := s.updRing d fun x => { x with steps := none }
      let o := otherSide d
      { u with ring := { u.ring with ptpPort := if (u.ringPort o).steps.isSome then ptpNumber o else 0 } }
    else s

/-- Sense of the relays as in 3800.11. -/
def State.senseRelays (s : State) (ke kw : Bool) : State :=
  let on := s.ring.inserted
  let u := { s with ring := { s.ring with ke := ke, kw := kw } }
  (u.relayWear 0x6044 1 128 (ke != s.ring.ke && ke == on)).relayWear 0x6044 2 128 (kw != s.ring.kw && kw == on)

/-- BYPASS_SENSE_MISMATCH (R376): sense disagrees with a command given 10 ms ago: nRING_INS is released, and cell 6 escalates. -/
def execBypassSenseMismatch (t : Nat) (ke kw : Bool) (s : State) : Res :=
  s.runRing t fun s =>
    let u := (s.senseRelays ke kw).settleRingPins
    if (ke ≠ u.ring.inserted ∨ kw ≠ u.ring.inserted) ∧ u.ring.commandAt + 10000000 ≤ u.tsc then
      (u.ringRelease u.ring.state).escalate (srcOf 4 0 6)
    else u

/-- RING_STEADY (R379): the through path has been steady for 3800.08 ms; mode 1 inserts at the next beat boundary. -/
def execRingSteady (t : Nat) (s : State) : Res :=
  s.runRing t fun s =>
    if s.ring.state = .waitSteady ∧ s.ring.steady = false ∧ s.ring.steadyAt + s.val 0x3800 8 * 1000000 ≤ s.tsc then
      { s with ring := { s.ring with
        steady := true, insertBeat := if s.val 0x3800 6 = 1 then some (s.beat + 1) else s.ring.insertBeat } }
    else s

/-- RING_ACTIVITY_INTERRUPTED (R379): the steady timer restarts. -/
def execRingActivityInterrupted (t : Nat) (s : State) : Res :=
  s.runRing t fun s => if s.ring.state = .waitSteady then s.waitSteady else s

/-- RING_INSERTION_BEAT (R379, R382): nRING_INS is driven low; extraction wins. -/
def execRingInsertionBeat (t : Nat) (s : State) : Res :=
  s.runRing t fun s =>
    match s.ring.insertBeat with
    | some b =>
      if s.ring.state = .waitSteady ∧ s.ring.steady ∧ b ≤ s.beat ∧ s.ringBarred = false ∧ s.rst.extractAt = none ∧ s.flag 0x3800 5 then
        { s.ringDrive true with ring := { (s.ringDrive true).ring with state := .inserting, insertingAt := s.tsc, insertBeat := none } }
      else s
    | none => s

/-- RING_TRAINING_LIMIT (R379): 3800.09 ms in INSERTING with one port UP, or with none. -/
def execRingTrainingLimit (t : Nat) (s : State) : Res :=
  s.runRing t fun s =>
    if s.ring.state = .inserting ∧ s.ring.inserted ∧ s.ring.insertingAt + s.val 0x3800 9 * 1000000 ≤ s.tsc then
      if s.ring.east.link = .up ∨ s.ring.west.link = .up then s.ringInserted
      else
        let n := s.ring.attempts + 1
        let u := (s.ringDrive false).bump 0x3810 0x10
        let failed := decide (s.val 0x3800 0x0A ≤ n)
        { u with ring := { u.ring with
          attempts := n, state := if failed then .failed else .inserting, intervalAt := if failed then none else some u.tsc } }
    else s

/-- RING_ATTEMPT_INTERVAL (R379): 3800.0B s after a failed attempt. -/
def execRingAttemptInterval (t : Nat) (s : State) : Res :=
  s.runRing t fun s =>
    match s.ring.intervalAt with
    | some a => if s.ring.state = .inserting ∧ a + s.val 0x3800 0x0B * 1000000000 ≤ s.tsc then s.waitSteady else s
    | none => s

/-- AUTO_BYPASS (R379): neither port has been UP for 3800.0C ms. -/
def execAutoBypass (t : Nat) (s : State) : Res :=
  s.runRing t fun s =>
    match s.ring.bothDownAt with
    | some a =>
      if s.ring.state = .inserted ∧ s.val 0x3800 0x0C ≠ 0 ∧ a + s.val 0x3800 0x0C * 1000000 ≤ s.tsc then
        ((s.ringRelease .waitSteady).waitSteady).bump 0x3810 0x11
      else s
    | none => s

/-- RING_RELAY_CONTACT_SENSE (R375, R379): ports are connected or parted; bypass confirmed closed ends EXTRACTING. -/
def execRingRelayContactSense (t : Nat) (ke kw : Bool) (s : State) : Res :=
  s.run t fun s =>
    let u := (s.senseRelays ke kw).settleRingPins
    if u.ring.state = .extracting ∧ u.ring.inserted = false ∧ ke = false ∧ kw = false then { u with ring := { u.ring with state := .bypassed, stays := true } } else u

/-- RING_ROLE_CONFLICT (R365). -/
def execRingRoleConflict (t : Nat) (side : Side) (s : State) : Res :=
  s.runRing t fun s =>
    if (s.ringPort side).link = .training then (s.setRingLink side .conflict).updRing side fun x => { x with conflictAt := s.tsc } else s

/-- RING_TRANSMIT_END (R371, R381): the frame has lasted its time, and the port takes its next one; in EXTRACTING nRING_INS is released once the
line is quiet. -/
def execRingTransmitEnd (t : Nat) (side : Side) (s : State) : Res :=
  s.runRing t fun s =>
    match (s.ringPort side).sending with
    | some f =>
      if f.started + ringFrameNs f.frame.length ≤ s.tsc then
        let u := s.updRing side fun x => { x with sending := none }
        if u.ring.state = .extracting ∧ u.ringQuiet then u.ringDrive false else u.ringKick side
      else s
    | none => s.ringKick side

/-- PTP_MESSAGE_INTERVAL (R373). -/
def execPtpMessageInterval (t : Nat) (s : State) : Res :=
  s.runRing t fun s => if s.val 0x1200 0x0F = 0 then s else s.ptpInterval

end Sys2Proof.Machine
end

