-- ==== Sys2Proof/Machine/Schedule.lean ====
section
/-! DEFINITION. What lanes send, by command (R131, R238-R239, R245, R264). -/

namespace Sys2Proof.Machine

/-- LANE_FRAME_START (R238, R241): an idle data lane takes its next frame; a G lane by the rules of G.9903. -/
def execLaneFrameStart (t p l : Nat) (s : State) : Res :=
  s.run t fun s =>
    if s.hasPort p ∧ l < 4 ∧ s.isDataLane p l ∧ s.laneState p l = 2 then
      if s.isNativeData p l then s.startFrame p l else s.startG9903 p l
    else s

/-- LANE_FRAME_END (R253, R264): the frame on the line has lasted its payload symbols. -/
def execLaneFrameEnd (t p l : Nat) (s : State) : Res :=
  s.run t fun s =>
    match (s.lane p l).tx.onLine with
    | some f => if f.start + s.lineNs p l f ≤ s.tsc then s.endFrame p l f else s
    | none => s

/-- The lane receives a frame of the granted node, or has detected its preamble in time (R239). -/
def State.grantHeard (s : State) (p l due : Nat) : Bool :=
  match (s.lane p l).rx.cur with
  | some c => decide (c.preambleEnd ≤ due)
  | none => false

/-- GRANT_LAPSE (R239): no preamble of the granted node within one symbol after its expected end. -/
def execGrantLapse (t p l : Nat) (s : State) : Res :=
  s.run t fun s =>
    match (s.lane p l).tx.grant with
    | some (_, _, due) =>
      if due ≤ s.tsc ∧ s.grantHeard p l due = false then (s.setTx p l { (s.lane p l).tx with grant := none }).bump 0x3190 3 else s
    | none => s

/-- The lane's beacon of this cycle is to be sent now (R245). -/
def State.beaconOwed (s : State) (p l : Nat) : Bool :=
  s.running p && s.isNativeData p l && (s.lane p l).tx.beaconCycle != some s.cycleNow

/-- BEACON_SEND (R245): at the guard after the start of the BEACON slot of a beacon cycle; a lane that is busy sends its beacon
next. -/
def execBeaconSend (t : Nat) (s : State) : Res :=
  s.run t fun s =>
    if s.slotNow = s.beaconSlot ∧ s.beaconCycle s.cycleNow ∧ s.slotAhead 0 + s.guardNs ≤ s.tsc then
      s.each (s.allLanes.filter fun pl => s.beaconOwed pl.1 pl.2) fun u pl =>
        if u.laneState pl.1 pl.2 = 2 then u.startBeacon pl.1 pl.2
        else u.setTx pl.1 pl.2 { (u.lane pl.1 pl.2).tx with beaconDue := true }
    else s

/-- LANE_RESTART_END (R131, R132, R173): the mute of 2 beats ends; the lane receives again. -/
def execLaneRestartEnd (t p l : Nat) (s : State) : Res :=
  s.run t fun s =>
    match (s.lane p l).tx.restart with
    | some n => if n ≤ s.beat then (s.setTx p l { (s.lane p l).tx with restart := none }).settleRx p l else s
    | none => s

end Sys2Proof.Machine
end

