-- ==== Sys2Proof/Machine/Sensing.lean ====
section
/-! DEFINITION. Sensing and binary inputs by command (R386-R406). -/

namespace Sys2Proof.Machine

/-- A conversion period of the channel, counted from its latest restart, ends now (R386). -/
def State.periodEnds (s : State) (m : Nat) : Bool :=
  let a := (s.channel m).restartAt
  decide (a < s.tsc) && (s.tsc - a) % s.period m == 0

/-- RESULT_PUBLISH (R386-R398, R404). -/
def execResultPublish (t m : Nat) (x : ChannelSample) (s : State) : Res :=
  s.run t fun s =>
    if m < 8 ∧ s.chanOn m ∧ s.periodEnds m then
      let x := s.windowSample m x
      let c := s.curve (s.chan m 6) x
      let u := c.2.2
      let y := fracToF32 ((c.1.mul (f32ToFrac (u.chan m 9))).add (f32ToFrac (u.chan m 0x0A)))
      let st := u.statusOf m x c.2.1
      let i := 0x5100 + m
      let u := ((((u.setVal i 0x10 y).setVal i 0x11 st).setVal i 0x12 u.tsc).setVal i 0x13 x.quadrature).setVal i 0x14 x.quantity
      let u := u.bump i 0x15
      let u := if st = 2 then u.bump i 0x17 else u
      let u := { u with sensing := { u.sensing with clampFlags := Nat.lor u.sensing.clampFlags (x.clampedPins % 2 ^ 32) } }
      u.each ((List.range 4).filter fun a => u.aov a 2 == m) fun v a => v.applyAnalog a y st
    else s

/-- THRESHOLD_SWITCH_CHANGE (R398, R400-R402): a fast value with its status, to which what the module knows of the channel adds; the matrix
follows. -/
def execThresholdSwitchChange (t sw value status : Nat) (s : State) : Res :=
  s.run t fun s =>
    let m := s.swv sw 2
    if sw < 16 ∧ s.sensingUp then
      (s.applySwitch sw value (max status (max (s.chanStatus m) (ofBool (s.settling m))))).settleCommand
    else s

/-- GENERATOR_FAULT (R393): the output goes off, and the channels read EXC_FAULT. -/
def execGeneratorFault (t x : Nat) (s : State) : Res :=
  s.run t fun s =>
    if s.sensingUp ∧ ((s.gen x).state = 1 ∨ (s.gen x).state = 2) then
      let u := (s.setGen x { state := 3, at_ := s.tsc }).bump (0x5180 + x) 8
      (u.each (u.genUsers x) fun v m => v.failSwitches m 5).settleCommand
    else s

/-- GENERATOR_RESTART (R393, R398): 1 s after the fault it ramps, and its channels restart. -/
def execGeneratorRestart (t x : Nat) (s : State) : Res :=
  s.run t fun s =>
    if s.sensingUp ∧ (s.gen x).state = 3 ∧ (s.gen x).at_ + 1000000000 ≤ s.tsc then
      let u := s.rampGen x
      u.each (u.genUsers x) fun v m => v.restartChannel m true
    else s

/-- GENERATOR_RAMP_END (R393). -/
def execGeneratorRampEnd (t x : Nat) (s : State) : Res :=
  s.run t fun s =>
    if (s.gen x).state = 1 ∧ (s.gen x).at_ + s.genSettle x ≤ s.tsc then s.setGen x { s.gen x with state := 2 } else s

/-- Channels whose leads are broken. -/
def State.brokenChannels (s : State) : List Nat := (List.range 8).filter s.chanBroken

/-- LEAD_MONITOR_DECISION (R399): two bad decisions declare a break, eight good ones clear it. -/
def execLeadMonitorDecision (t m : Nat) (pairs : List (Nat × Nat × Nat)) (s : State) : Res :=
  s.run t fun s =>
    if m < 8 ∧ s.chanOn m ∧ s.chan m 0x0B = 1 then
      let c := s.channel m
      let bad := pairs.filter fun p => decide (s.val 0x5001 5 < p.2.2)
      if bad ≠ [] then
        let pins := bad.foldl (fun a p => Nat.lor a (Nat.lor (2 ^ (p.1 % 32)) (2 ^ (p.2.1 % 32)))) 0
        if c.broken then s.setChannel m { c with good := 0, pins := Nat.lor c.pins pins }
        else if c.bad + 1 < 2 then s.setChannel m { c with bad := c.bad + 1, good := 0 }
        else
          let u := ((s.setChannel m { c with broken := true, bad := 0, good := 0, pins := pins }).bump (0x5100 + m) 0x16).event (srcChannel m)
            0x0701 sevAlarm (toBE 1 m ++ toBE 4 pins)
          (u.each u.brokenChannels fun v k => v.failSwitches k 6).settleCommand
      else if c.broken then
        if c.good + 1 < 8 then s.setChannel m { c with good := c.good + 1 }
        else
          let u := s.setChannel m { c with broken := false, bad := 0, good := 0, pins := 0 }
          u.each (s.brokenChannels.filter fun k => !u.chanBroken k && u.chanOn k) fun v k => v.restartChannel k false
      else s.setChannel m { c with bad := 0 }
    else s

/-- VREF_AO_CHANGE (R405): below 2.0 V the outputs take their fail action; above it they drive from the next VALID result. -/
def execVrefAoChange (t mv : Nat) (s : State) : Res :=
  s.run t fun s =>
    let u := { s with sensing := { s.sensing with vref := mv } }
    if mv < 2000 then u.each ((List.range 4).filter u.analogLive) State.failAnalog else u

/-- Thresholds of a binary input's class in 0.1 V: on above, off below (R406). -/
def biLimits (cls : Nat) : Nat × Nat := if cls = 0 then (160, 100) else if cls = 1 then (770, 550) else (1540, 1100)

/-- BINARY_INPUT_EDGE (R406): the raw level follows the class thresholds, and a change restarts the filter timer. -/
def execBinaryInputEdge (t n volts : Nat) (s : State) : Res :=
  s.run t fun s =>
    let lim := biLimits (s.val 0x5601 (n + 1))
    let old := bit s.trip.biRaw n
    let new := if lim.1 < volts then true else if volts < lim.2 then false else old
    if n < 16 ∧ new ≠ old then
      { s with trip := { s.trip with biRaw := withBit s.trip.biRaw n new, biSince := Table.put 0 s.trip.biSince n s.tsc } }
    else s

/-- BI_FILTER_EXPIRY (R406): a level held for the filter time becomes the filtered state; the first one counts only if it is on. -/
def execBiFilterExpiry (t n : Nat) (s : State) : Res :=
  s.run t fun s =>
    let since := max (Table.get 0 s.trip.biSince n) s.trip.releasedAt
    let raw := bit s.trip.biRaw n
    if n < 16 ∧ s.tripUp ∧ since + s.val 0x5600 (n + 1) * 100000 ≤ s.tsc then
      let u := { s with trip := { s.trip with biState := withBit s.trip.biState n raw, biSettled := withBit s.trip.biSettled n true } }
      (if raw = bit s.trip.biState n then u else u.bump 0x5603 (n + 1)).settleCommand
    else s

end Sys2Proof.Machine
end

