-- ==== Sys2Proof/Machine/Spool.lean ====
section
/-! DEFINITION. Spools by command: timeouts and window records (R249, R253, R255). -/

namespace Sys2Proof.Machine

/-- A retransmission is due or the packet has failed (R253). -/
def State.ackExpired (s : State) (k : Nat) (q : InFlight) : State :=
  let c := spoolClass k
  let x := s.spool k
  let u := s.setSpool k { x with flight := x.flight.filter fun y => y.seq != q.seq }
  let r := u.route q.route
  let v := if r.valid then (u.setRoute q.route { r with fails := min 255 (r.fails + 1) }).touchEndpoint (q.route / 8) else u
  if q.item.tries < s.val 0x3103 (c + 1) then
    let item := { q.item with tries := q.item.tries + 1 }
    let w := match v.packet item.handle with
      | some pk => { v with spools := { v.spools with
          packets := Table.insert v.spools.packets item.handle { pk with retries := max pk.retries item.tries } } }
      | none => v
    (w.bump 0x3182 (c + 1)).requeue k item
  else (v.bump 0x3183 (c + 1)).endPacket k q.item.handle stNoAck

/-- ACK_TIMEOUT (R253, R276): a frame stays unacknowledged for 3102 slots after its end. -/
def execAckTimeout (t spool seq : Nat) (s : State) : Res :=
  s.run t fun s =>
    match (s.spool spool).flight.find? fun q => q.seq == seq with
    | some q =>
      match q.ended with
      | some n => if n + s.val 0x3102 (spoolClass spool + 1) ≤ s.tether.slotCount then s.ackExpired spool q else s
      | none => s
    | none => s

/-- STANDALONE_ACK_DUE (R255): no frame to the endpoint has started within 3104 slots: its lane owes an ACK frame. -/
def execStandaloneAckDue (t spool : Nat) (s : State) : Res :=
  s.run t fun s =>
    let x := s.spool spool
    if x.ackDue ∧ x.ackAt + s.val 0x3104 (spoolClass spool + 1) ≤ s.tether.slotCount then
      match s.laneOf (spoolEndpoint spool) with
      | some n =>
        let y := (s.lane (n / 4) (n % 4)).tx
        if y.acks.contains spool then s else s.setTx (n / 4) (n % 4) { y with acks := y.acks ++ [spool] }
      | none => s
    else s

/-- UNROUTED_HOLD_EXPIRY (R249): a spool left UNROUTED for 3106.01 seconds completes its packets with NO_ROUTE. -/
def execUnroutedHoldExpiry (t spool : Nat) (s : State) : Res :=
  s.run t fun s =>
    let x := s.spool spool
    if x.state = .unrouted ∧ x.unroutedAt + s.val 0x3106 1 * 1000000000 ≤ s.tsc then s.emptySpool spool stNoRoute else s

/-- SPOOL_DISABLE (R249): a window record with STATE 3 takes effect. -/
def execSpoolDisable (t spool : Nat) (s : State) : Res :=
  s.run t fun s => if s.isEndpoint (spoolEndpoint spool) then s.spoolOff spool else s

/-- SPOOL_ENABLE (R249): a window record with STATE 0 takes effect. -/
def execSpoolEnable (t spool : Nat) (s : State) : Res :=
  s.run t fun s => if s.isEndpoint (spoolEndpoint spool) then s.spoolOn spool else s

/-- SPOOL_FLUSH (R249): a window record with STATE 7 takes effect. -/
def execSpoolFlush (t spool : Nat) (s : State) : Res :=
  s.run t fun s => if s.isEndpoint (spoolEndpoint spool) then s.spoolFlushOp spool else s

end Sys2Proof.Machine
end

