-- ==== Sys2Proof/Machine/Tether.lean ====
section
/-! DEFINITION. The tether's commands, SLOT_BOUNDARY apart (R90-R93). -/

namespace Sys2Proof.Machine

/-- ZX_CROSSING (R90-R95). -/
def execZxCrossing (t input : Nat) (s : State) : Res :=
  s.run t fun s =>
    if input < 3 then
      if (s.zx input).qualified then s.crossingQualified input else s.crossingUnqualified input
    else s

/-- ZX_CROSSING_MISSED (R90): the window of 10° after the prediction has closed without a crossing. -/
def execZxCrossingMissed (t input : Nat) (s : State) : Res :=
  s.run t fun s =>
    let x := s.zx input
    let late : Bool := match x.last with
      | some a => decide ((a + x.period) * 36 + x.period ≤ s.tsc * 36)
      | none => false
    if input < 3 ∧ x.qualified ∧ late then s.zxMiss input else s

/-- TETHER_HOLDOVER_EXPIRY (R93): the holdover timer reaches 1210.07. -/
def execTetherHoldoverExpiry (t : Nat) (s : State) : Res :=
  s.run t fun s =>
    if s.tether.state = .holdover ∧ s.val 0x1210 7 * 1000000 ≤ s.tether.holdUsed + (s.tsc - s.tether.holdAt) then
      ({ s with tether := { s.tether with state := .freerun, valid := false } }).bump 0x1212 3
    else s

end Sys2Proof.Machine
end

