-- ==== Sys2Proof/Machine/Dispatch.lean ====
section
/-! DEFINITION. One arm per command: its meaning. -/

namespace Sys2Proof.Machine

/-- The effect of a command on everything but the queue of waiting commands. -/
def exec (i : Instr) (s : State) : Host.Outcome State Fault Refusal :=
  match i with
  | .uncorrectableError t src addr => Sys2Proof.Machine.execUncorrectableError t src addr s
  | .correctionThreshold t src errors => Sys2Proof.Machine.execCorrectionThreshold t src errors s
  | .blockIdle t region block => Sys2Proof.Machine.execBlockIdle t region block s
  | .idleTimeout t region block => Sys2Proof.Machine.execIdleTimeout t region block s
  | .blockRelease t region block failedCells => Sys2Proof.Machine.execBlockRelease t region block failedCells s
  | .scrubError t item corrected row => Sys2Proof.Machine.execScrubError t item corrected row s
  | .mbxGo t f w => Sys2Proof.Machine.execMbxGo t f w s
  | .ringRequestArrival t mac msg => Sys2Proof.Machine.execRingRequestArrival t mac msg s
  | .read t => Sys2Proof.Machine.execRead t s
  | .write t => Sys2Proof.Machine.execWrite t s
  | .bundle t => Sys2Proof.Machine.execBundle t s
  | .windowRead t => Sys2Proof.Machine.execWindowRead t s
  | .windowWrite t => Sys2Proof.Machine.execWindowWrite t s
  | .digestQuery t => Sys2Proof.Machine.execDigestQuery t s
  | .digestAnnounceReceived t mac msg => Sys2Proof.Machine.execDigestAnnounceReceived t mac msg s
  | .digestAnnounceSend t => Sys2Proof.Machine.execDigestAnnounceSend t s
  | .commit t => Sys2Proof.Machine.execCommit t s
  | .commitDistributionDone t => Sys2Proof.Machine.execCommitDistributionDone t s
  | .abort t => Sys2Proof.Machine.execAbort t s
  | .commitActivate t => Sys2Proof.Machine.execCommitActivate t s
  | .digestRecomputeDone t staged => Sys2Proof.Machine.execDigestRecomputeDone t staged s
  | .beatBoundary n loads ready => Sys2Proof.Machine.execBeatBoundary n loads ready s
  | .ref10Qualified t => Sys2Proof.Machine.execRef10Qualified t s
  | .ref10Lost t offset => Sys2Proof.Machine.execRef10Lost t offset s
  | .timeSourceQualified t src => Sys2Proof.Machine.execTimeSourceQualified t src s
  | .timeSourceLost t src => Sys2Proof.Machine.execTimeSourceLost t src s
  | .timeHoldoverExpiry t => Sys2Proof.Machine.execTimeHoldoverExpiry t s
  | .servoCorrection t error => Sys2Proof.Machine.execServoCorrection t error s
  | .setStationTime t => Sys2Proof.Machine.execSetStationTime t s
  | .ppsEdge t => Sys2Proof.Machine.execPpsEdge t s
  | .ppsOutEdge t => Sys2Proof.Machine.execPpsOutEdge t s
  | .zxCrossing t input => Sys2Proof.Machine.execZxCrossing t input s
  | .zxCrossingMissed t input => Sys2Proof.Machine.execZxCrossingMissed t input s
  | .tetherHoldoverExpiry t => Sys2Proof.Machine.execTetherHoldoverExpiry t s
  | .slotBoundary t => Sys2Proof.Machine.execSlotBoundary t s
  | .eventDelivery t ev => Sys2Proof.Machine.execEventDelivery t ev s
  | .portStartDelay t p => Sys2Proof.Machine.execPortStartDelay t p s
  | .loopbackDone t p offset delayError => Sys2Proof.Machine.execLoopbackDone t p offset delayError s
  | .relayContactSense t p c closed => Sys2Proof.Machine.execRelayContactSense t p c closed s
  | .relaySenseTimeout t p => Sys2Proof.Machine.execRelaySenseTimeout t p s
  | .portLanesIdle t p => Sys2Proof.Machine.execPortLanesIdle t p s
  | .faultRetryExpiry t p => Sys2Proof.Machine.execFaultRetryExpiry t p s
  | .retryReload t p => Sys2Proof.Machine.execRetryReload t p s
  | .transmitPowerMeasure t p power => Sys2Proof.Machine.execTransmitPowerMeasure t p power s
  | .currentLimit t p => Sys2Proof.Machine.execCurrentLimit t p s
  | .driverTemperatureRead t p temp => Sys2Proof.Machine.execDriverTemperatureRead t p temp s
  | .agcUpdate t p b => Sys2Proof.Machine.execAgcUpdate t p b s
  | .clampOvervoltage t p => Sys2Proof.Machine.execClampOvervoltage t p s
  | .impedanceMeasure t p b z => Sys2Proof.Machine.execImpedanceMeasure t p b z s
  | .laneRestartEnd t p l => Sys2Proof.Machine.execLaneRestartEnd t p l s
  | .complianceIntegrationEnd t p l groups => Sys2Proof.Machine.execComplianceIntegrationEnd t p l groups s
  | .clipRelax t p l g => Sys2Proof.Machine.execClipRelax t p l g s
  | .tmapUnacknowledged t link => Sys2Proof.Machine.execTmapUnacknowledged t link s
  | .preambleDetection t p l ds => Sys2Proof.Machine.execPreambleDetection t p l ds s
  | .headerCheckResult t p l replay h => Sys2Proof.Machine.execHeaderCheckResult t p l replay h s
  | .rearmEnd t p l => Sys2Proof.Machine.execRearmEnd t p l s
  | .lastSymbolReceived t p l => Sys2Proof.Machine.execLastSymbolReceived t p l s
  | .dualCaptureReplay t p r => Sys2Proof.Machine.execDualCaptureReplay t p r s
  | .decodeResult t p l frame r => Sys2Proof.Machine.execDecodeResult t p l frame r s
  | .rxSymbolEnd t p l sym => Sys2Proof.Machine.execRxSymbolEnd t p l sym s
  | .echoTrainingEnd t p b x => Sys2Proof.Machine.execEchoTrainingEnd t p b x s
  | .echoSuppressionMeasure t p b reference residual transmitting => Sys2Proof.Machine.execEchoSuppressionMeasure t p b reference residual transmitting s
  | .echoHoldTimeout t p b => Sys2Proof.Machine.execEchoHoldTimeout t p b s
  | .echoResolveDone t p b x => Sys2Proof.Machine.execEchoResolveDone t p b x s
  | .echoHoldLimit t p b => Sys2Proof.Machine.execEchoHoldLimit t p b s
  | .echoLostResolve t p b x => Sys2Proof.Machine.execEchoLostResolve t p b x s
  | .echoModelRefresh t p b analogue => Sys2Proof.Machine.execEchoModelRefresh t p b analogue s
  | .noiseFloorWindow t p l w => Sys2Proof.Machine.execNoiseFloorWindow t p l w s
  | .noiseFloorPublish t p l => Sys2Proof.Machine.execNoiseFloorPublish t p l s
  | .laneFrameStart t p l => Sys2Proof.Machine.execLaneFrameStart t p l s
  | .laneFrameEnd t p l => Sys2Proof.Machine.execLaneFrameEnd t p l s
  | .grantLapse t p l => Sys2Proof.Machine.execGrantLapse t p l s
  | .beaconSend t => Sys2Proof.Machine.execBeaconSend t s
  | .dataFrameReceived t rx => Sys2Proof.Machine.execDataFrameReceived t rx s
  | .ackFrameReceived t rx => Sys2Proof.Machine.execAckFrameReceived t rx s
  | .ackTimeout t spool seq => Sys2Proof.Machine.execAckTimeout t spool seq s
  | .standaloneAckDue t spool => Sys2Proof.Machine.execStandaloneAckDue t spool s
  | .unroutedHoldExpiry t spool => Sys2Proof.Machine.execUnroutedHoldExpiry t spool s
  | .spoolDisable t spool => Sys2Proof.Machine.execSpoolDisable t spool s
  | .spoolEnable t spool => Sys2Proof.Machine.execSpoolEnable t spool s
  | .spoolFlush t spool => Sys2Proof.Machine.execSpoolFlush t spool s
  | .txqDoorbell t f prod descs => Sys2Proof.Machine.execTxqDoorbell t f prod descs s
  | .rxHoldTimeout t f => Sys2Proof.Machine.execRxHoldTimeout t f s
  | .routeAgeExpiry t pos => Sys2Proof.Machine.execRouteAgeExpiry t pos s
  | .linkIdleRelease t link => Sys2Proof.Machine.execLinkIdleRelease t link s
  | .linkRelease t link writer => Sys2Proof.Machine.execLinkRelease t link writer s
  | .linkOffsetWrite t link writer offset => Sys2Proof.Machine.execLinkOffsetWrite t link writer offset s
  | .reportReceived t rx => Sys2Proof.Machine.execReportReceived t rx s
  | .stateReceived t rx => Sys2Proof.Machine.execStateReceived t rx s
  | .neighboursReceived t rx => Sys2Proof.Machine.execNeighboursReceived t rx s
  | .probeReplyReceived t rx => Sys2Proof.Machine.execProbeReplyReceived t rx s
  | .joinReceived t rx => Sys2Proof.Machine.execJoinReceived t rx s
  | .g9903Bootstrap t p l short eui => Sys2Proof.Machine.execG9903Bootstrap t p l short eui s
  | .probeTimeout t endpoint => Sys2Proof.Machine.execProbeTimeout t endpoint s
  | .relayWaitExpiry t p l => Sys2Proof.Machine.execRelayWaitExpiry t p l s
  | .matrixSourceChange t => Sys2Proof.Machine.execMatrixSourceChange t s
  | .tripMinPulseEnd t n => Sys2Proof.Machine.execTripMinPulseEnd t n s
  | .commandFrameEnd t p => Sys2Proof.Machine.execCommandFrameEnd t p s
  | .heartbeat t p link => Sys2Proof.Machine.execHeartbeat t p link s
  | .tagStoreRefresh t p link => Sys2Proof.Machine.execTagStoreRefresh t p link s
  | .hypothesisTagCompute t p link => Sys2Proof.Machine.execHypothesisTagCompute t p link s
  | .commandBodyCheck t p chips => Sys2Proof.Machine.execCommandBodyCheck t p chips s
  | .supervisionTimeout t p link => Sys2Proof.Machine.execSupervisionTimeout t p link s
  | .rekeyChangeoverEnd t p link => Sys2Proof.Machine.execRekeyChangeoverEnd t p link s
  | .cipherJobFetch t f d => Sys2Proof.Machine.execCipherJobFetch t f d s
  | .cipherSegmentComplete t job unit guardOk dmaOk input aad => Sys2Proof.Machine.execCipherSegmentComplete t job unit guardOk dmaOk input aad s
  | .knownAnswerTest t core pass => Sys2Proof.Machine.execKnownAnswerTest t core pass s
  | .load t f w => Sys2Proof.Machine.execLoad t f w s
  | .unwrap t f w => Sys2Proof.Machine.execUnwrap t f w s
  | .erase t f w => Sys2Proof.Machine.execErase t f w s
  | .eraseComplete t f => Sys2Proof.Machine.execEraseComplete t f s
  | .slotStorageError t slot => Sys2Proof.Machine.execSlotStorageError t slot s
  | .ctxAbort t f w => Sys2Proof.Machine.execCtxAbort t f w s
  | .checkJobFetch t f d => Sys2Proof.Machine.execCheckJobFetch t f d s
  | .checkPartComplete t f ctx dmaOk data => Sys2Proof.Machine.execCheckPartComplete t f ctx dmaOk data s
  | .checkCtxCtrlWrite t f ctx w => Sys2Proof.Machine.execCheckCtxCtrlWrite t f ctx w s
  | .checkValueWrite t f ctx high w => Sys2Proof.Machine.execCheckValueWrite t f ctx high w s
  | .functionLevelReset t f => Sys2Proof.Machine.execFunctionLevelReset t f s
  | .ringTrainingComplete t side marginA marginB cable => Sys2Proof.Machine.execRingTrainingComplete t side marginA marginB cable s
  | .ringLinkLoss t side => Sys2Proof.Machine.execRingLinkLoss t side s
  | .ringConflictTimeout t side roleChanged => Sys2Proof.Machine.execRingConflictTimeout t side roleChanged s
  | .ringFrameReceived t side frame => Sys2Proof.Machine.execRingFrameReceived t side frame s
  | .hsrSupervisionSend t => Sys2Proof.Machine.execHsrSupervisionSend t s
  | .ptpMessageReceived t side m => Sys2Proof.Machine.execPtpMessageReceived t side m s
  | .ptpSyncTimeout t => Sys2Proof.Machine.execPtpSyncTimeout t s
  | .bypassSenseMismatch t ke kw => Sys2Proof.Machine.execBypassSenseMismatch t ke kw s
  | .ringSteady t => Sys2Proof.Machine.execRingSteady t s
  | .ringActivityInterrupted t => Sys2Proof.Machine.execRingActivityInterrupted t s
  | .ringInsertionBeat t => Sys2Proof.Machine.execRingInsertionBeat t s
  | .ringTrainingLimit t => Sys2Proof.Machine.execRingTrainingLimit t s
  | .ringAttemptInterval t => Sys2Proof.Machine.execRingAttemptInterval t s
  | .autoBypass t => Sys2Proof.Machine.execAutoBypass t s
  | .insertAtBeat t => Sys2Proof.Machine.execInsertAtBeat t s
  | .resultPublish t m x => Sys2Proof.Machine.execResultPublish t m x s
  | .thresholdSwitchChange t sw value status => Sys2Proof.Machine.execThresholdSwitchChange t sw value status s
  | .generatorFault t x => Sys2Proof.Machine.execGeneratorFault t x s
  | .generatorRestart t x => Sys2Proof.Machine.execGeneratorRestart t x s
  | .leadMonitorDecision t m pairs => Sys2Proof.Machine.execLeadMonitorDecision t m pairs s
  | .clampFlagClear t => Sys2Proof.Machine.execClampFlagClear t s
  | .biFilterExpiry t n => Sys2Proof.Machine.execBiFilterExpiry t n s
  | .powerOn t => Sys2Proof.Machine.execPowerOn t s
  | .brownOut t => Sys2Proof.Machine.execBrownOut t s
  | .external t low => Sys2Proof.Machine.execExternal t low s
  | .managerFull t => Sys2Proof.Machine.execManagerFull t s
  | .managerWarm t => Sys2Proof.Machine.execManagerWarm t s
  | .watchdog t => Sys2Proof.Machine.execWatchdog t s
  | .thermal t temp => Sys2Proof.Machine.execThermal t temp s
  | .domainClockGood t d => Sys2Proof.Machine.execDomainClockGood t d s
  | .domainClockTimeout t d => Sys2Proof.Machine.execDomainClockTimeout t d s
  | .domainClockLost t d => Sys2Proof.Machine.execDomainClockLost t d s
  | .domainClockReturn t d => Sys2Proof.Machine.execDomainClockReturn t d s
  | .bootImageVerified t a b => Sys2Proof.Machine.execBootImageVerified t a b s
  | .bootCommit t => Sys2Proof.Machine.execBootCommit t s
  | .bar0EarlyAccess t f posted => Sys2Proof.Machine.execBar0EarlyAccess t f posted s
  | .saveConfiguration t => Sys2Proof.Machine.execSaveConfiguration t s
  | .saveComplete t => Sys2Proof.Machine.execSaveComplete t s
  | .imageBlock t => Sys2Proof.Machine.execImageBlock t s
  | .eraseBank t => Sys2Proof.Machine.execEraseBank t s
  | .verify t found => Sys2Proof.Machine.execVerify t found s
  | .eraseConfigurationOnly t => Sys2Proof.Machine.execEraseConfigurationOnly t s
  | .backupTimeCopy t => Sys2Proof.Machine.execBackupTimeCopy t s
  | .vbatLoss t => Sys2Proof.Machine.execVbatLoss t s
  | .hotSwapConnect t => Sys2Proof.Machine.execHotSwapConnect t s
  | .nextractAsserted t => Sys2Proof.Machine.execNextractAsserted t s
  | .extractPowerDown t => Sys2Proof.Machine.execExtractPowerDown t s
  | .nextractReleased t => Sys2Proof.Machine.execNextractReleased t s
  | .phaseShed t rail phase => Sys2Proof.Machine.execPhaseShed t rail phase s
  | .ageingMeasurement t samples => Sys2Proof.Machine.execAgeingMeasurement t samples s
  | .ageingFlashWrite t => Sys2Proof.Machine.execAgeingFlashWrite t s
  | .substitutionStart t => Sys2Proof.Machine.execSubstitutionStart t s
  | .bankCopyDone t lost => Sys2Proof.Machine.execBankCopyDone t lost s
  | .ballastSubstitute t => Sys2Proof.Machine.execBallastSubstitute t s
  | .ballastReturn t => Sys2Proof.Machine.execBallastReturn t s
  | .ballastSelfTest t u pass => Sys2Proof.Machine.execBallastSelfTest t u pass s
  | .tamperDetected t sensor => Sys2Proof.Machine.execTamperDetected t sensor s
  | .tamperLatchClear t => Sys2Proof.Machine.execTamperLatchClear t s
  | .evtPop t f w => Sys2Proof.Machine.execEvtPop t f w s
  | .evtOverflowClear t f w => Sys2Proof.Machine.execEvtOverflowClear t f w s
  | .registerWrite t f offset w => Sys2Proof.Machine.execRegisterWrite t f offset w s
  | .ringRelayContactSense t ke kw => Sys2Proof.Machine.execRingRelayContactSense t ke kw s
  | .ringRoleConflict t side => Sys2Proof.Machine.execRingRoleConflict t side s
  | .ringTransmitEnd t side => Sys2Proof.Machine.execRingTransmitEnd t side s
  | .ptpMessageInterval t => Sys2Proof.Machine.execPtpMessageInterval t s
  | .driverRailRegulation t p outUs => Sys2Proof.Machine.execDriverRailRegulation t p outUs s
  | .generatorRampEnd t x => Sys2Proof.Machine.execGeneratorRampEnd t x s
  | .vrefAoChange t mv => Sys2Proof.Machine.execVrefAoChange t mv s
  | .binaryInputEdge t n volts => Sys2Proof.Machine.execBinaryInputEdge t n volts s
  | .domainPowerGood t d => Sys2Proof.Machine.execDomainPowerGood t d s
  | .thermalRelease t temp => Sys2Proof.Machine.execThermalRelease t temp s
  | .rxfDoorbell t f prod bufs => Sys2Proof.Machine.execRxfDoorbell t f prod bufs s
  | .hostConsumerIndexWrite t f ring idx => Sys2Proof.Machine.execHostConsumerIndexWrite t f ring idx s

end Sys2Proof.Machine
end

