-- ==== Sys2Proof/Machine/Pins.lean ====
section
/-! DEFINITION. The levels of the core's output lines (R419): every line is pulled high and acts only while it is driven low. -/

namespace Sys2Proof.Machine

/-- The lines that act on the world outside the module (R419); the flash's nQCS is driven by boot alone. -/
inductive Pin where
  | shdn (afe : Nat)
  | nkNb (afe : Nat)
  | nkBb (afe : Nat)
  | nbmx (port : Nat)
  | nto (output : Nat)
  | nringIns
  | nrbx
  | nxen (generator : Nat)
  | naoCon (output : Nat)
  | nppsEn
deriving DecidableEq, Repr

/-- Some port that stands on an AFE has a property. -/
def State.anyOnAfe (s : State) (afe : Nat) (f : Port → Bool) : Bool :=
  (List.range 36).any fun p => s.afeOf p == afe && f (s.port p)

/-- A line is driven low, so that it acts (R419): a port's lines are those of the AFE that it stands on (R123), nRBX selects the ballast pair
(R366), nPPS_EN lets PPS_OUT pulse (R81). -/
def State.drivenLow (s : State) : Pin → Bool
  | .shdn a => s.anyOnAfe a fun x => x.driver
  | .nkNb a => s.anyOnAfe a fun x => x.relayNb.command
  | .nkBb a => s.anyOnAfe a fun x => x.relayBb.command
  | .nbmx p => (s.port p).matrix.command
  | .nto n => (Table.get {} s.trip.outputs n).on
  | .nringIns => s.ring.inserted
  | .nrbx => s.ring.ballast != 0
  | .nxen x => (Table.get {} s.sensing.generators x).state == 1 || (Table.get {} s.sensing.generators x).state == 2
  | .naoCon a => (Table.get {} s.sensing.outputs a).connected
  | .nppsEn => s.ppsOutAllowed

end Sys2Proof.Machine
end

