-- ==== Sys2Proof/Safety.lean ====
section
/-! DEFINITION. What counts as a safe run, in the terms the statements use: outside outputs at their safe states (R27, R419), and
the canonical form of the registers: equal machines are equal data. -/

namespace Sys2Proof.Machine

/-- A port acts on its line: driver running or a band relay commanded closed (R419). -/
def Port.active (p : Port) : Bool := p.driver || p.relayNb.command || p.relayBb.command || p.matrix.command

/-- Every outside output is at its safe state: no driver, relay, trip output, ring insertion, excitation or connected analogue
output (R27, R419). -/
def State.outputsAtRest (s : State) : Bool :=
  s.ports.all (fun e => !e.2.active) && s.trip.outputs.all (fun e => !e.2.on) && !s.ring.inserted
    && s.sensing.generators.all (fun e => e.2.state == 0 || e.2.state == 3) && s.sensing.outputs.all (fun e => !e.2.connected)

/-- The dictionary lists its keys rising and no value at its default (R38). -/
def State.dictOk (s : State) : Bool :=
  Table.rising s.dict && s.dict.all fun e => decide (e.2 ≠ defaultOf s.variant e.1)

/-- Every table of registers is in its canonical form: keys rising, and nothing listed that holds its reset value. -/
structure State.Canonical (s : State) : Prop where
  dict : s.dictOk = true
  written : Table.rising s.written = true
  blocks : Table.wf {} s.hier.blocks = true
  ports : Table.wf {} s.ports = true
  echoes : Table.wf {} s.echoes = true
  lanes : Table.wf {} s.lanes = true
  pages : Table.wf {} s.pages = true
  spools : Table.wf {} s.spools.table = true
  routes : Table.wf {} s.routes.entries = true
  links : Table.wf {} s.routes.links = true
  nodes : Table.wf {} s.routes.nodes = true
  cells : Table.wf {} s.cells = true
  slots : Table.wf {} s.cipher.slots = true
  domains : Table.wf {} s.rst.domains = true
  channels : Table.wf {} s.sensing.channels = true
  units : Table.wf {} s.sup.units = true

/-! ## Frames -/

/-- The parts of the state, one per field. -/
inductive Part where
  | variant
  | tsc
  | pending
  | free
  | out
  | dict
  | written
  | hier
  | mgr
  | time
  | tether
  | log
  | ports
  | echoes
  | lanes
  | spools
  | pages
  | routes
  | cells
  | trip
  | cipher
  | checkParts
  | ring
  | sensing
  | rst
  | sup
deriving DecidableEq, Repr

/-- Two states agree on a part. -/
def State.agrees (s u : State) : Part → Prop
  | .variant => u.variant = s.variant
  | .tsc => u.tsc = s.tsc
  | .pending => u.pending = s.pending
  | .free => u.free = s.free
  | .out => u.out = s.out
  | .dict => u.dict = s.dict
  | .written => u.written = s.written
  | .hier => u.hier = s.hier
  | .mgr => u.mgr = s.mgr
  | .time => u.time = s.time
  | .tether => u.tether = s.tether
  | .log => u.log = s.log
  | .ports => u.ports = s.ports
  | .echoes => u.echoes = s.echoes
  | .lanes => u.lanes = s.lanes
  | .spools => u.spools = s.spools
  | .pages => u.pages = s.pages
  | .routes => u.routes = s.routes
  | .cells => u.cells = s.cells
  | .trip => u.trip = s.trip
  | .cipher => u.cipher = s.cipher
  | .checkParts => u.checkParts = s.checkParts
  | .ring => u.ring = s.ring
  | .sensing => u.sensing = s.sensing
  | .rst => u.rst = s.rst
  | .sup => u.sup = s.sup

/-- Whatever is not named is as it was. -/
def Frame (changed : List Part) (s u : State) : Prop := ∀ p, p ∉ changed → s.agrees u p

/-- What a command did: it brought the counter to its own time (R73, log 1), and changed nothing but the parts named. -/
def Did (t : Nat) (changed : List Part) (s u : State) : Prop := u.tsc = max s.tsc t ∧ Frame (.tsc :: changed) s u

/-- The dictionary values in force are what they were, except that each of the named counters has counted one, stopping at the largest
value of its width. -/
def Counted (keys : List Nat) (s u : State) : Prop :=
  (∀ k, k ∉ keys → u.raw k = s.raw k) ∧
  ∀ k, k ∈ keys → ofBE (u.raw k) = min (256 ^ (defaultOf s.variant k).length - 1) (ofBE (s.raw k) + 1)

/-- The module runs, in canonical form. -/
def State.Live (s : State) : Prop := s.Canonical ∧ s.rst.powered = true

/-- A frame of a neighbour arrives that brings nothing but itself: the neighbour was allowed to send it, its link `k` stands, the entry
`pos` through it is known, no update of a route waits, no endpoint is without a route, and it carries no acknowledgement, request or wish for
one. -/
structure State.Arrives (s : State) (rx : RxFrame) (k pos : Nat) : Prop where
  native : s.nativeRx rx = true
  allowed : s.nodeMayStart rx = true
  link : s.linkOf rx.port rx.lane rx.src = some k
  state : (s.link k).state = .mapped ∨ (s.link k).state = .robust
  own : rx.mac.orig = rx.src
  route : s.routeThrough rx.src rx.src rx.port rx.lane = some pos
  settled : s.routes.updates = []
  routed : ∀ e, s.isLost e = false
  grant : rx.mac.grant = 0
  ackMap : rx.mac.ackMap = 0
  ackReq : rx.mac.ackReq = false
  dst : rx.mac.dst = 0
  fin : rx.mac.fin = 0

/-- The response to a request, to a mailbox (R46, R49). -/
def State.response (s : State) (r : Request) (status : Nat) (rest : Bytes) : Bytes :=
  message false (128 + r.type % 128) r.txn s.mgr.epoch 0 (toBE 2 status ++ [0, 0] ++ rest)

/-- The configuration manager may serve; the next request in turn is `r`, of row `k`, and it stands in mailbox `n` (R50). -/
structure State.Mailbox (s : State) (k : Service) (n : Nat) (r : Request) : Prop where
  next : s.nextSource = some n
  waiting : s.waitingAt n = some r
  serves : s.mayServe = true
  service : r.service = k
  who : r.who = n
  function : n < 64
  kept : (s.page n).discard = false

/-- The request of mailbox `n` has been taken and answered with a message, and the turn has passed to the next source (R50, R51). -/
structure State.Answered (s u : State) (n : Nat) (m : Bytes) : Prop where
  page : u.page n = { s.page n with req := none, busy := false, done := true, rspBuf := m, rspLen := m.length }
  others : ∀ q, q ≠ n → u.page q = s.page q
  turn : u.mgr.turn = (n + 1) % 65
  out : u.out = if (s.page n).irqEn = true then .msix n (s.page n).vector :: s.out else s.out

/-- The tag of a frame that starts on a link with a counter (R298, R299): under the key its table entry was computed with. -/
def State.sentTag (s : State) (p k cnt : Nat) : Nat :=
  let r := s.linkRec p k
  commandTag (s.tableKey (recSlot r) (((s.cell p).link k).tags.find? fun e => e.1 == cnt)) r true cnt (s.linkStates p k)

/-- A command frame has started on a link of a port (R299, R300, R302): its counter, its states, and its tag. -/
structure State.Sends (s u : State) (p k : Nat) (kind : CommandKind) (cnt : Nat) : Prop where
  frame : (u.cell p).frame = some ⟨k, kind, cnt, s.linkStates p k, s.tsc, s.sentTag p k cnt⟩
  lastSent : ((u.cell p).link k).lastSent = cnt
  announced : ((u.cell p).link k).announced = s.linkStates p k
  startAt : ((u.cell p).link k).startAt = s.tsc
  accepted : ((u.cell p).link k).accepted = ((s.cell p).link k).accepted
  links : ∀ j, j ≠ k → (u.cell p).link j = (s.cell p).link j
  cells : ∀ q, q ≠ p → u.cell q = s.cell q
  counted : Counted (keyOf (0x34A0 + p) 1 :: if kind = .change then [keyOf (0x34A0 + p) 2] else []) s u
  out : u.out.head? = some (.commandFrame p k cnt (s.linkStates p k) (s.sentTag p k cnt))

/-- A reset of a cause and a kind (1 cold, 2 full, 3 warm) has been performed (R408, R409, R419, R426): its record stands in the backup
domain, every outside output is at rest, pages, staging and what waited for a boundary are gone; a warm reset keeps the values in
force and the epoch, any other only what R409 keeps; a cold one keeps no key but that of the one-time store. -/
structure State.WasReset (s u : State) (c k : Nat) : Prop where
  cause : u.rst.cause = c
  kind : u.rst.kind = k
  sequence : u.rst.sequence = some ⟨c, k⟩
  record : u.rst.backup.records.head?.map (fun r => (r.cause, r.kind)) = some (c, k)
  total : u.rst.backup.total = (s.rst.backup.total + 1) % 2 ^ 32
  rest : u.outputsAtRest = true
  pages : u.pages = []
  parts : u.checkParts = []
  written : u.written = []
  staging : u.mgr.staging = []
  warm : k = 3 → u.dict = s.view.dict ∧ u.mgr.epoch = s.mgr.epoch ∧ u.log.records = s.log.records
  defaults : k ≠ 3 → u.mgr.epoch = 0 ∧ u.log.records = [] ∧
    ∀ e, u.raw e = if keptEntry (k == 1) e = true then s.raw e else defaultOf s.variant e
  keys : k ≠ 1 → u.cipher.slots = s.cipher.slots
  coldKeys : k = 1 → ∀ n, n ≠ 255 → u.slot n = {}

/-! ## Keys -/

/-- The commands that may change what a key slot holds (R324, R326, R328, R329, R330, R333, R409, R447): key commands and their
completion, by register too; invocations counted and jobs started at a beat, and a reset asked for; errors of the key store; a tamper
detection, from a sensor or from the guard; a cold start and the loss of the supply. -/
def mayChangeKeys : Instr → Bool
  | .load _ _ _ => true
  | .unwrap _ _ _ => true
  | .erase _ _ _ => true
  | .eraseComplete _ _ => true
  | .registerWrite _ _ _ _ => true
  | .beatBoundary _ _ _ => true
  | .slotStorageError _ _ => true
  | .tamperDetected _ _ => true
  | .cipherSegmentComplete _ _ _ _ _ _ _ => true
  | .powerOn _ => true
  | .brownOut _ => true
  | .extractPowerDown _ => true
  | _ => false

end Sys2Proof.Machine
end

