-- ==== Sys2Proof/Certificates/Slice0/Obligations.lean ====
section
/-! DEFINITION. The statements for the provers. Each rests on the rules of the spec that its comment names; what rests on a choice of the
model's own names the entry of the assumption log. -/

open Sys2Proof Sys2Proof.Machine

/-- A step runs the command that waits longest, on the state with the queue's rest; on an empty queue the block idles (the model's
choice, log 1). -/
def Obligations.StepRunsFront : Prop := ∀ (s : State) (c : Instr) (rest : List Instr),
  step { s with pending := c :: rest } = exec c { s with pending := rest } ∧ step { s with pending := [] } = .next { s with pending := [] }

/-- R8, R324, R362, R375, R408, R419, R471: the module before its first start: unpowered, outputs at rest, the ring bypassed, the key
slots empty, the first bank's firmware as shipped and the second bank erased; its registers hold their defaults in canonical form. That
it begins unpowered, and the form, are the model's choices (log 2, log 3). -/
def Obligations.ResetStateHolds : Prop := State.reset.Canonical ∧ State.reset.outputsAtRest = true ∧ State.reset.rst.powered = false ∧ State.reset.pending = [] ∧
  State.reset.ring.state = .bypassed ∧ State.reset.ring.inserted = false ∧ (∀ n, (State.reset.slot n).state = .empty) ∧
  State.reset.rst.bankA.fwValid = true ∧ State.reset.rst.bankA.fwRelease = 0x03020000 ∧ State.reset.rst.bankB = {} ∧
  (∀ k, State.reset.raw k = defaultOf .sk3636 k) ∧ (∀ p, (State.reset.port p).state = .off ∧ (State.reset.port p).driver = false) ∧
  step State.reset = .next State.reset

/-- R8: the variant is fixed: no command changes it. Besides, no command takes another out of the queue or puts one into it (log 1). -/
def Obligations.VariantIsFixed : Prop := ∀ (c : Instr) (s u : State), exec c s = .next u →
  u.variant = s.variant ∧ u.pending = s.pending

/-- The invariant that every step keeps: a machine in canonical form, so that equal machines are equal data, steps to one in canonical
form (the form is the model's own, log 2). -/
def Obligations.StepKeepsCanonical : Prop := ∀ (s u : State), s.Canonical → step s = .next u → u.Canonical

/-- What a key slot holds is changed by key commands, the counting of invocations at a beat, errors of the key store, a tamper
detection, a cold start and the loss of the supply, and by no other command: whatever else happens, the slots are as they were. -/
def Obligations.KeySlotsIsolated : Prop := ∀ (c : Instr) (s u : State), s.Canonical → mayChangeKeys c = false → exec c s = .next u →
  u.cipher.slots = s.cipher.slots

/-- R12, R73, R82, R409: every command answers a next state in every state, but a write to an offset at which the spec lists no
register, which stops (log 35). The counter and with it the beat never run backward, but to 0, where a cold start restarts them. In a
module without its main supply a command of the running module has no effect, whatever it is: nothing but the counter's stand changes
(log 1). The commands that the backup domain and the supplies answer are excepted. -/
def Obligations.EveryCommandCompletes : Prop :=
  (∀ (c : Instr) (s : State),
  (∃ u, exec c s = .next u) ∨ ∃ t f a w, c = .registerWrite t f a w ∧ pageReg a = none ∧ exec c s = .fault (.noRegister a)) ∧
  (∀ (c : Instr) (s u : State), exec c s = .next u → s.beat ≤ u.beat ∧ s.tsc ≤ u.tsc ∨ u.tsc = 0) ∧
  (∀ (c : Instr) (s u : State), s.rst.powered = false →
  (∀ t, c ≠ .powerOn t ∧ c ≠ .vbatLoss t ∧ c ≠ .hotSwapConnect t ∧ c ≠ .nextractAsserted t ∧ c ≠ .nextractReleased t) →
  (∀ t n, c ≠ .tamperDetected t n) → exec c s = .next u → s.tsc ≤ u.tsc ∧ Frame [.tsc] s u)

/-- R71, R72, R76, R77, R79, R81: the frequency input comes and goes without touching station time; HOLDOVER ends in SET after 1200.0D
seconds and not before; a PPS edge is counted by its spacing and its place and marks the whole second nearest to station time, from
which its error is taken; PPS_OUT rises where it may, within 50 ns of a whole second, and nowhere else (outputs held safe by a fatal
error apart, log 42). A source that qualifies moves the state at the next boundary; the loss of the disciplining source with no
other qualified enters HOLDOVER at once; PPS_IN is lost after two missing edges, 2.0002 s after the last one (log 56), and not
before, and must qualify anew. In PTP the servo takes the error that it is given, in PPS that of the latest edge: it slews an error
up to 1 ms by at most 50 µs for each second since the last correction (log 23), toward the error and never past it; a larger one
waits for the boundary as one step. -/
def Obligations.TimebaseCommandsComplete : Prop :=
  (∀ (s : State) (t : Nat), s.Live →
  (∃ u, exec (.ref10Qualified t) s = .next u ∧ Did t [.time] s u ∧ u.time = { s.time with ref10 := true }) ∧
  (∀ ppb, ∃ u, exec (.ref10Lost t ppb) s = .next u ∧ Did t [.time] s u ∧ u.time = { s.time with ref10 := false, ppb := ppb }) ∧
  (s.time.state = .holdover →
    ∃ u, exec (.timeHoldoverExpiry t) s = .next u ∧ Did t [.time] s u ∧ u.time.offset = s.time.offset ∧
      (s.time.holdoverAt + s.val 0x1200 0x0D * 1000000000 ≤ max s.tsc t → u.time.state = .set) ∧
      (max s.tsc t < s.time.holdoverAt + s.val 0x1200 0x0D * 1000000000 → u.time.state = .holdover)) ∧
  (s.timeSet = true → ∃ u, exec (.ppsEdge t) s = .next u ∧ Did t [.time] s u ∧ u.time.lastPps = some (max s.tsc t) ∧
    u.time.ppsError = some (secondError ((max s.tsc t : Nat) - signed 32 (s.val 0x1200 0x0B) + s.time.offset)) ∧
    (nearSecond ((max s.tsc t : Nat) - signed 32 (s.val 0x1200 0x0B) + s.time.offset) = false → u.time.ppsEdges = 0) ∧
    (nearSecond ((max s.tsc t : Nat) - signed 32 (s.val 0x1200 0x0B) + s.time.offset) = true → s.time.lastPps = none → u.time.ppsEdges = 1) ∧
    (nearSecond ((max s.tsc t : Nat) - signed 32 (s.val 0x1200 0x0B) + s.time.offset) = true → ∀ a, s.time.lastPps = some a →
      (999900000 ≤ max s.tsc t - a ∧ max s.tsc t - a ≤ 1000100000 → u.time.ppsEdges = s.time.ppsEdges + 1) ∧
      (max s.tsc t - a < 999900000 ∨ 1000100000 < max s.tsc t - a → u.time.ppsEdges = 1))) ∧
  (∃ u, exec (.ppsOutEdge t) s = .next u ∧ Did t [.time, .out] s u ∧
    ((s.hier.safeOutputs = false ∧ s.flag 0x1200 0x0A = true ∧ (s.time.state = .ptp ∨ s.time.state = .pps ∨ s.time.state = .holdover) ∧
        ((s.upTo t).stationTime + 50) % 1000000000 ≤ 100) →
      u.out = .ppsOut :: s.out ∧ u.time.ppsOutUntil = max s.tsc t + 100000000) ∧
    ((s.flag 0x1200 0x0A = false ∨ s.time.state = .unset ∨ s.time.state = .set ∨ 100 < ((s.upTo t).stationTime + 50) % 1000000000) → u.out = s.out ∧ u.time = s.time))) ∧
  (∀ (s : State) (t : Nat), s.Live →
  (s.val 0x1200 0x0F ≠ 0 → (timeOrder (s.val 0x1200 6)).head? = some .ptp →
    ∃ u, exec (.timeSourceQualified t .ptp) s = .next u ∧ Did t [.time] s u ∧ u.time.ptpOk = true ∧ u.time.state = s.time.state ∧
      u.time.offset = s.time.offset ∧ u.time.next = (if s.time.state = .ptp then none else some .ptp)) ∧
  (s.time.ppsEdges < 4 ∨ s.timeSet = false →
    ∃ u, exec (.timeSourceQualified t .pps) s = .next u ∧ Did t [] s u) ∧
  (4 ≤ s.time.ppsEdges → s.timeSet = true → timeOrder (s.val 0x1200 6) = [.pps] →
    ∃ u, exec (.timeSourceQualified t .pps) s = .next u ∧ Did t [.time] s u ∧ u.time.ppsOk = true ∧
      u.time.next = (if s.time.state = .pps then none else some .pps)) ∧
  (s.time.state = .ptp → s.time.ppsOk = false →
    ∃ u, exec (.timeSourceLost t .ptp) s = .next u ∧ Did t [.time, .free] s u ∧ u.time.state = .holdover ∧
      u.time.holdoverAt = max s.tsc t ∧ u.time.offset = s.time.offset ∧ u.time.next = none) ∧
  ((∀ a, s.time.lastPps = some a → a + 2000200000 ≤ max s.tsc t) →
    ∃ u, exec (.timeSourceLost t .pps) s = .next u ∧ Did t [.time, .free] s u ∧ u.time.ppsOk = false ∧ u.time.ppsEdges = 0 ∧
      u.time.lastPps = none ∧ (s.time.state ≠ .pps → s.time.state ≠ .ptp → u.time.state = s.time.state) ∧
      (s.time.state = .pps → s.time.ptpOk = false → u.time.state = .holdover ∧ u.time.holdoverAt = max s.tsc t)) ∧
  (∀ a, s.time.lastPps = some a → max s.tsc t < a + 2000200000 →
    ∃ u, exec (.timeSourceLost t .pps) s = .next u ∧ Did t [] s u)) ∧
  (∀ (s : State) (t : Nat) (e x : Int), s.Live → s.time.state = .ptp ∧ e = x ∨ s.time.state = .pps ∧ s.time.ppsError = some e →
  (e.natAbs ≤ 1000000 → ∃ u, exec (.servoCorrection t x) s = .next u ∧ Did t [.time, .dict] s u ∧ u.time.step = s.time.step ∧
    u.time.servoAt = max s.tsc t ∧
    (s.time.offset - u.time.offset).natAbs ≤ (max s.tsc t - s.time.servoAt) * 50 / 1000000 ∧
    (s.time.offset - u.time.offset).natAbs ≤ e.natAbs ∧ 0 ≤ (s.time.offset - u.time.offset) * e) ∧
  (1000000 < e.natAbs → ∃ u, exec (.servoCorrection t x) s = .next u ∧ Did t [.time, .dict] s u ∧
    u.time.offset = s.time.offset ∧ u.time.step = some (-e)) ∧
  (s.time.state = .pps → ∃ u, exec (.servoCorrection t x) s = .next u ∧ u.dict = s.dict) ∧
  (s.time.state = .ptp → ∃ u, exec (.servoCorrection t x) s = .next u ∧ u.val 0x1200 0x11 = unsigned 64 x ∧
    ∀ k, k ≠ keyOf 0x1200 0x11 → u.raw k = s.raw k))

/-- R78: a write to 1200.07 that passes the tests waits for the boundary; in PTP or PPS the same write is refused with INCONSISTENT; at
the next boundary station time is the written value and the state SET, and the change of the offset is logged as event 0x0401 from
0x5080 and not counted in 1200.12. The boundary is stated where nothing else waits for it, a move to PTP among it (log 51). -/
def Obligations.StationTimeIsSet : Prop := ∀ (s : State), s.Live →
  (∀ t n r w, s.Mailbox .setTime n r → w = writeRecOf r.body → ((s.upTo t).takeNext n).writeTests r r.recs = none →
    ∃ u, exec (.setStationTime t) s = .next u ∧ Did t [.out, .mgr, .time, .pages] s u ∧
      u.time = { s.time with setTo := some (ofBE w.value) } ∧ s.Answered u n (s.response r 0 (slice r.body 0 3 ++ [0]))) ∧
  (∀ t n r v, s.Mailbox .setTime n r → s.time.state = .ptp ∨ s.time.state = .pps → v = { s with time := { s.time with state := .set } } →
    ((v.upTo t).takeNext n).writeTests r r.recs = none →
    ∃ u, exec (.setStationTime t) s = .next u ∧ Did t [.out, .mgr, .pages] s u ∧
      s.Answered u n (s.response r 0x0010 (slice r.body 0 3 ++ [0]))) ∧
  (∀ n v, s.time.setTo = some v → s.time.step = none → s.written = [] → s.mgr.bumps = 0 → s.mgr.actions = [] → s.mgr.commit = none →
    s.mgr.stagingState ≠ 2 → s.time.next ≠ some .ptp → s.rst.extractAt = none → s.rst.requested = none →
    ∃ u, exec (.beatBoundary n [] []) s = .next u ∧ u.tsc = max s.tsc (40000 * n) ∧ u.time.setTo = none ∧ u.time.state = .set ∧
      u.time.offset = (v : Int) - (max s.tsc (40000 * n) : Nat) ∧ u.val 0x1200 0x12 = s.val 0x1200 0x12 ∧
      (⟨max s.tsc (40000 * n), 0x5080, 0x0401, 1, toBE 8 (unsigned 64 s.time.offset) ++ toBE 8 (unsigned 64 u.time.offset)⟩ : EventIn) ∈
        u.log.detected)

/-- R74, R76, R77, R97: at a boundary at which nothing else was commanded a step of the offset takes effect, logged and counted in
1200.12, and a change of the time source; the tether publishes its slot with the slot valid. -/
def Obligations.BoundaryTakesTime : Prop := ∀ (s : State) (n : Nat), s.Live → s.written = [] → s.mgr.bumps = 0 → s.mgr.actions = [] →
  s.mgr.commit = none → s.mgr.stagingState ≠ 2 → s.rst.extractAt = none → s.rst.requested = none → s.time.setTo = none →
  ∃ u, exec (.beatBoundary n [] []) s = .next u ∧ u.tsc = max s.tsc (40000 * n) ∧ u.mgr.epoch = s.mgr.epoch ∧
    u.time.step = none ∧ u.time.next = none ∧ u.time.offset = s.time.offset + s.time.step.getD 0 ∧
    u.time.state = s.time.next.getD s.time.state ∧
    (s.time.step.isSome = true → u.val 0x1200 0x12 = min 0xFFFFFFFF (s.val 0x1200 0x12 + 1) ∧
      (⟨max s.tsc (40000 * n), 0x5080, 0x0401, 1, toBE 8 (unsigned 64 s.time.offset) ++ toBE 8 (unsigned 64 u.time.offset)⟩ : EventIn) ∈
        u.log.detected) ∧
    ((s.block 5 2).state = .running → u.tether.sample.slot = s.tether.slot ∧ u.tether.sample.cycle = s.tether.cycle ∧
      u.tether.sample.valid = s.tether.valid)

/-- R90, R92, R93: a crossing of a mains input that is not qualified counts toward the eight that qualify it, starts the count anew
where its period is out of bounds, and counts as the second of a new row where only its spacing is; of a qualified input, a crossing
earlier than half a period after the last one is none (the model's choice, log 22). A predicted crossing that does not come moves
the prediction on; the third in a row loses the input, which is counted and must qualify anew (stated for an input that is not the
reference). The tether in HOLDOVER falls to FREERUN when its holdover time is used up and not before, with slot valid at 0 and the
entry counted. -/
def Obligations.MainsInputsComplete : Prop :=
  (∀ (s : State) (t i : Nat), s.Live → i < 3 →
  ((s.zx i).qualified = false → (s.zx i).last = none →
    ∃ u, exec (.zxCrossing t i) s = .next u ∧ Did t [.tether] s u ∧
      u.zx i = { s.zx i with count := 1, last := some (max s.tsc t) } ∧ ∀ j, j ≠ i → u.zx j = s.zx j) ∧
  (∀ a, (s.zx i).qualified = false → (s.zx i).last = some a → (s.zx i).count < 7 →
    ∃ u, exec (.zxCrossing t i) s = .next u ∧ Did t [.tether] s u ∧ (u.zx i).qualified = false ∧
      (u.zx i).last = some (max s.tsc t) ∧ (u.zx i).period = max s.tsc t - a ∧
      (periodOk (max s.tsc t - a) = false → (u.zx i).count = 1) ∧
      (periodOk (max s.tsc t - a) = true → ((s.zx i).count ≤ 1 ∨ periodsClose (max s.tsc t - a) (s.zx i).period = true) →
        (u.zx i).count = max 1 (s.zx i).count + 1) ∧
      (periodOk (max s.tsc t - a) = true → 1 < (s.zx i).count → periodsClose (max s.tsc t - a) (s.zx i).period = false →
        (u.zx i).count = 2) ∧
      (∀ j, j ≠ i → u.zx j = s.zx j) ∧ u.tether.state = s.tether.state ∧ u.tether.ref = s.tether.ref ∧
      u.tether.valid = s.tether.valid ∧ u.tether.slot = s.tether.slot ∧ u.tether.slotAt = s.tether.slotAt) ∧
  (∀ a, (s.zx i).qualified = false → (s.zx i).last = some a → 7 ≤ (s.zx i).count → periodOk (max s.tsc t - a) = true →
    periodsClose (max s.tsc t - a) (s.zx i).period = true →
    ∃ u, exec (.zxCrossing t i) s = .next u ∧ (u.zx i).qualified = true ∧ (u.zx i).last = some (max s.tsc t)) ∧
  (∀ a, (s.zx i).qualified = true → (s.zx i).last = some a → 2 * (max s.tsc t - a) < (s.zx i).period →
    ∃ u, exec (.zxCrossing t i) s = .next u ∧ Did t [] s u)) ∧
  (∀ (s : State) (t i a : Nat), s.Live → i < 3 → s.tether.between = false →
  s.tether.ref ≠ i + 1 → (s.zx i).qualified = true → (s.zx i).last = some a → 0 < (s.zx i).period →
  (a + (s.zx i).period) * 36 + (s.zx i).period ≤ max s.tsc t * 36 →
  ∃ u, exec (.zxCrossingMissed t i) s = .next u ∧ (∀ j, j ≠ i → u.zx j = s.zx j) ∧ (u.zx i).accepted = false ∧ u.tether.state = s.tether.state ∧ u.tether.ref = s.tether.ref ∧
    ((s.zx i).misses < 2 → Did t [.tether] s u ∧ (u.zx i).last = some (a + (s.zx i).period) ∧ (u.zx i).misses = (s.zx i).misses + 1 ∧ (u.zx i).qualified = true) ∧
    (2 ≤ (s.zx i).misses → Did t [.tether, .dict] s u ∧ (u.zx i).last = none ∧ (u.zx i).qualified = false ∧ (u.zx i).count = 0 ∧
      Counted [keyOf 0x1212 (4 + i)] s u)) ∧
  (∀ (s : State) (t : Nat), s.Live → s.tether.state = .holdover →
  (s.val 0x1210 7 * 1000000 ≤ s.tether.holdUsed + (max s.tsc t - s.tether.holdAt) →
    ∃ u, exec (.tetherHoldoverExpiry t) s = .next u ∧ Did t [.tether, .dict] s u ∧
      u.tether = { s.tether with state := .freerun, valid := false } ∧ Counted [keyOf 0x1212 3] s u) ∧
  (s.tether.holdUsed + (max s.tsc t - s.tether.holdAt) < s.val 0x1210 7 * 1000000 →
    ∃ u, exec (.tetherHoldoverExpiry t) s = .next u ∧ Did t [] s u))

/-- R96, R97: a slot begins where the last one has lasted its length, in the numbering 0-23, and slot 0 begins the next cycle; before
that nothing happens. The slot count is the model's clock for the timers in slots (log 22). -/
def Obligations.SlotBoundaryAdvances : Prop := ∀ (s : State) (t : Nat), s.Live → (s.block 5 2).state = .running →
  (s.slotEnd ≤ max s.tsc t →
    ∃ u, exec (.slotBoundary t) s = .next u ∧ Did t [.tether, .free, .dict, .lanes, .routes] s u ∧
      u.tether.slot = (s.tether.slot + 1) % 24 ∧ u.tether.slotAt = s.slotEnd ∧
      u.tether.slotCount = s.tether.slotCount + 1 ∧ u.tether.state = s.tether.state ∧ u.tether.valid = s.tether.valid ∧
      u.tether.cycle = s.tether.cycle + (if (s.tether.slot + 1) % 24 = 0 then 1 else 0) ∧
      ((s.tether.slot + 1) % 24 ≠ 0 → Did t [.tether] s u)) ∧
  (max s.tsc t < s.slotEnd → ∃ u, exec (.slotBoundary t) s = .next u ∧ Did t [] s u)

/-- R100, R101, R449, R451: an event delivered within two beats of its detection enters the reorder stage in the order of time and
source; of a later one the record is written behind everything written before, marked late, or not written where its severity is too
low, and it is counted either way. Deliveries are stated where no record of the reorder stage is due. A record written is taken by
every event mailbox that is enabled, whose function has a role and whose lowest severity (at most alarm for f0) it reaches, and by
no other: behind the records it holds while there is room for sixteen, else it is counted in LOST and OVERFLOW is set. A pop
discards the oldest record of the mailbox, and a write of OVERFLOW clears it with LOST; neither touches anything else. ISSUE counts
from 0 (log 45). -/
def Obligations.EventsReachTheLog : Prop :=
  (∀ (s : State) (t : Nat), s.Live → (∀ r ∈ s.log.stage, max s.tsc t ≤ r.time + 80000) →
  (∀ (e : EventIn), max s.tsc t ≤ e.time + 80000 →
    ∃ u, exec (.eventDelivery t (some e)) s = .next u ∧ Did t [.log] s u ∧ u.log.records = s.log.records ∧ u.log.next = s.log.next ∧
      u.log.detected = s.log.detected ∧
      u.log.stage.Perm (⟨e.time, e.source, e.code, e.severity, 0, 0, e.data⟩ :: s.log.stage) ∧
      (s.log.stage.Pairwise (fun a b => recordBefore b a = false) → u.log.stage.Pairwise (fun a b => recordBefore b a = false))) ∧
  (∀ (e : EventIn) l, s.log.detected = e :: l → max s.tsc t ≤ e.time + 80000 →
    ∃ u, exec (.eventDelivery t none) s = .next u ∧ Did t [.log] s u ∧ u.log.records = s.log.records ∧ u.log.detected = l ∧
      u.log.stage.Perm (⟨e.time, e.source, e.code, e.severity, 0, 0, e.data⟩ :: s.log.stage)) ∧
  (s.log.detected = [] → ∃ u, exec (.eventDelivery t none) s = .next u ∧ Did t [] s u) ∧
  (∀ (e : EventIn), e.time + 80000 < max s.tsc t → s.val 0x1800 5 ≤ e.severity ∨ 3 ≤ e.severity →
    ∃ u, exec (.eventDelivery t (some e)) s = .next u ∧ Did t [.out, .dict, .log, .pages] s u ∧
      u.log.stage = s.log.stage ∧ u.log.detected = s.log.detected ∧
      Table.find u.log.records s.log.next = some ⟨e.time, e.source, e.code, e.severity, 1, s.log.issue, e.data⟩ ∧
      u.log.next = (s.log.next + 1) % 65536 ∧ u.log.written = s.log.written + 1 ∧ u.log.issue = (s.log.issue + 1) % 65536 ∧
      (∀ k, k ≠ s.log.next → Table.find u.log.records k = Table.find s.log.records k) ∧ Counted [keyOf 0x1220 2] s u) ∧
  (∀ (e : EventIn), e.time + 80000 < max s.tsc t → e.severity < s.val 0x1800 5 → e.severity < 3 →
    ∃ u, exec (.eventDelivery t (some e)) s = .next u ∧ Did t [.dict] s u ∧ Counted [keyOf 0x1220 2] s u)) ∧
  (∀ (s : State) (r : LogRecord) (f : Nat), Table.rising s.pages = true → s.val 0x1800 5 ≤ r.severity ∨ 3 ≤ r.severity →
  ((s.page f).evtEnable = true → s.roleOf f ≠ 0 →
    (if f = 0 then min 3 (s.page f).minSev else (s.page f).minSev) ≤ r.severity →
    ((s.page f).evtFifo.length < 16 →
      (s.writeRecord r).page f = { s.page f with evtFifo := (s.page f).evtFifo ++ [{ r with issue := s.log.issue }] }) ∧
    (16 ≤ (s.page f).evtFifo.length →
      (s.writeRecord r).page f = { s.page f with evtOverflow := true, evtLost := min 0xFFFFFFFF ((s.page f).evtLost + 1) })) ∧
  ((s.page f).evtEnable = false ∨ s.roleOf f = 0 ∨ r.severity < (if f = 0 then min 3 (s.page f).minSev else (s.page f).minSev) →
    (s.writeRecord r).page f = s.page f)) ∧
  (∀ (s : State) (t f : Nat) (w : Word32), s.Live → s.open f = true →
  (bit w.toNat 0 = true →
    ∃ u, exec (.evtPop t f w) s = .next u ∧ Did t [.pages] s u ∧ (∀ g, g ≠ f → u.page g = s.page g) ∧
      u.page f = { s.page f with evtFifo := (s.page f).evtFifo.drop 1 }) ∧
  (bit w.toNat 0 = false → ∃ u, exec (.evtPop t f w) s = .next u ∧ Did t [] s u) ∧
  (bit w.toNat 30 = true →
    ∃ u, exec (.evtOverflowClear t f w) s = .next u ∧ Did t [.pages] s u ∧ (∀ g, g ≠ f → u.page g = s.page g) ∧
      u.page f = { s.page f with evtOverflow := false, evtLost := 0 }) ∧
  (bit w.toNat 30 = false → ∃ u, exec (.evtOverflowClear t f w) s = .next u ∧ Did t [] s u))

/-- R20, R21, R22, R24, R31, R450: an uncorrectable error of a cell with peers is logged with its address, and the cell is withdrawn and
logged; the block's state stays while a peer is in service, and where none is left and no ballast unit idle, idle is requested of
the running block; an error in a cell already withdrawn only logs the error. No other block is touched where the region resets none.
These are stated where no ballast unit was requested at the same TSC (log 44). For a cell of the key store or the Platform region,
which has neither peer nor ballast, the running block is escalated: idle is requested where the region resets no other; else the
block queues, but an escalation of the same TSC of a higher block gives way to it and queues itself. A corrected-error count at the
threshold escalates such a block where the region resets no other, one below it does nothing. -/
def Obligations.CellErrorsContained : Prop :=
  (∀ (s : State) (t r b c addr : Nat), s.Live → srcOf r b c < 0x10000 → b < 64 → c < 64 → cellPresent s.variant r b c = true →
  (peerCells r b c).contains c = true → (∀ q ∈ s.sup.requests, q.time ≠ max s.tsc t) →
  ∃ u, exec (.uncorrectableError t (srcOf r b c) addr) s = .next u ∧ Did t [.log, .hier, .cipher, .checkParts, .sup] s u ∧
    (s.regionBusy r = false → ∀ r' b', b' < 64 → ¬(r' = r ∧ b' = b) → u.block r' b' = s.block r' b') ∧
    (s.isWithdrawn r b c = true → u.block r b = s.block r b ∧
      u.log.detected = s.log.detected ++ [⟨max s.tsc t, srcOf r b c, 0x0202, 2, toBE 8 addr⟩]) ∧
    (s.isWithdrawn r b c = false →
      (∀ k, u.isWithdrawn r b k = (s.isWithdrawn r b k || k == c)) ∧
      u.log.detected = s.log.detected ++
        [⟨max s.tsc t, srcOf r b c, 0x0202, 2, toBE 8 addr⟩, ⟨max s.tsc t, srcOf r b c, 0x0203, 2, []⟩] ∧
      ((∃ k ∈ peerCells r b c, k ≠ c ∧ s.isWithdrawn r b k = false) → (u.block r b).state = (s.block r b).state) ∧
      ((∀ k ∈ peerCells r b c, k ≠ c → s.isWithdrawn r b k = true) → s.idleUnit (srcOf r b c) = none →
        (s.block r b).state = .running → s.queuedReset r b = false → s.regionBusy r = false →
        (u.block r b).state = .idleReq ∧ (u.block r b).idleAt = max s.tsc t))) ∧
  (∀ (s : State) (t r b c addr n : Nat), s.Live → b < 64 → c < 64 → cellPresent s.variant r b c = true →
  (r = 3 ∧ b = 1 ∨ r = 5) → (s.block r b).state = .running → s.queuedReset r b = false →
  (s.regionBusy r = false →
    ∃ u, exec (.uncorrectableError t (srcOf r b c) addr) s = .next u ∧ Did t [.log, .hier] s u ∧
      u.block r b = { s.block r b with state := .idleReq, idleAt := max s.tsc t, escalatedAt := max s.tsc t } ∧
      u.log.detected = s.log.detected ++ [⟨max s.tsc t, srcOf r b c, 0x0202, 2, toBE 8 addr⟩]) ∧
  (s.regionBusy r = true → (s.upTo t).overtaken r b = none →
    ∃ u, exec (.uncorrectableError t (srcOf r b c) addr) s = .next u ∧ Did t [.log, .hier] s u ∧
      u.block r b = s.block r b ∧ u.hier.queue.Perm (⟨max s.tsc t, r, b⟩ :: s.hier.queue)) ∧
  (∀ k, (s.upTo t).overtaken r b = some k →
    ∃ u, exec (.uncorrectableError t (srcOf r b c) addr) s = .next u ∧ Did t [.log, .hier] s u ∧
      (u.block r b).state = .idleReq ∧ (u.block r k).state = .running ∧ u.hier.queue.Perm (⟨max s.tsc t, r, k⟩ :: s.hier.queue)) ∧
  (s.val 0x1010 1 ≤ n → s.regionBusy r = false →
    ∃ u, exec (.correctionThreshold t (srcOf r b c) n) s = .next u ∧ Did t [.log, .hier] s u ∧ (u.block r b).state = .idleReq ∧
      u.log.detected = s.log.detected ++ [⟨max s.tsc t, srcOf r b c, 0x0201, 2, toBE 2 n ++ toBE 4 (s.val 0x1010 2)⟩]) ∧
  (n < s.val 0x1010 1 → ∃ u, exec (.correctionThreshold t (srcOf r b c) n) s = .next u ∧ Did t [] s u))

/-- R26, R27: an uncorrectable fabric error is fatal. Under 1010.05 = 0 every outside output goes to its safe state and stays commanded
so (log 42), and the fatal alarm is raised, while the blocks run on. -/
def Obligations.FatalMakesSafe : Prop := ∀ (s : State) (t addr : Nat), s.Live → s.val 0x1010 5 = 0 →
  ∃ u, exec (.uncorrectableError t 0 addr) s = .next u ∧ u.tsc = max s.tsc t ∧ u.outputsAtRest = true ∧ u.hier.safeOutputs = true ∧
    u.hier.fatalAlarm = true ∧ u.out = .fatalAlarm :: s.out ∧ (∀ r b, u.block r b = s.block r b) ∧
    (∀ e ∈ u.lanes, e.2.tx.onLine = none) ∧ u.dict = s.dict ∧ u.rst = s.rst ∧
    u.log.detected = s.log.detected ++ [⟨max s.tsc t, 0, 0x0206, 4, [3, 0, 0, 0]⟩]

/-- R23, R25, R29, R413: the idle handshake ends in the reset of the block, when it reports idle or when the timeout expires and not
before: the block is in RESET, the reset counted and logged, its withdrawn cells as they were (stated for the blocks of the Platform
region without outputs of their own and the route store, holding no items). Whatever the block, the handshake's end leaves it in
RESET, or out of service where the limit of 1010.03 resets is reached. A block in RESET whose domain is on begins to run when it is
released, with its withdrawn cells and its carried items forgotten and its resets remembered; a block in no other state is released. -/
def Obligations.HandshakeAndRelease : Prop :=
  (∀ (s : State) (t r b : Nat), s.Live → (r = 5 ∧ b < 6 ∧ b ≠ 2 ∨ r = 2 ∧ b = 16) →
  (s.block r b).state = .idleReq → 1 + ((s.upTo t).recentResets (s.block r b).resets).length < s.val 0x1010 3 →
  (s.block r b).openItems = [] → (s.block r b).queue = [] →
  (∃ u, exec (.blockIdle t r b) s = .next u ∧ Did t [.hier, .dict, .log] s u ∧ (u.block r b).state = .reset ∧
    (u.block r b).withdrawn = (s.block r b).withdrawn ∧
    (u.block r b).resets = max s.tsc t :: (s.upTo t).recentResets (s.block r b).resets ∧ Counted [keyOf 0x1011 r] s u ∧
    (∀ r' b', b' < 64 → ¬(r' = r ∧ b' = b) → u.block r' b' = s.block r' b') ∧
    u.log.detected = s.log.detected ++ [⟨max s.tsc t, srcBlock r b, 0x0204, 3, toBE 4 (u.val 0x1011 r)⟩]) ∧
  ((s.block r b).idleAt + s.val 0x1100 0x20 * 1000 ≤ max s.tsc t →
    ∃ u, exec (.idleTimeout t r b) s = .next u ∧ Did t [.hier, .dict, .log] s u ∧ (u.block r b).state = .reset ∧
      Counted [keyOf 0x1011 r] s u) ∧
  (max s.tsc t < (s.block r b).idleAt + s.val 0x1100 0x20 * 1000 →
    ∃ u, exec (.idleTimeout t r b) s = .next u ∧ Did t [] s u)) ∧
  (∀ (s : State) (t r b : Nat), s.Live → (r, b) ∈ allBlocks →
  ¬(r = 5 ∨ r = 3 ∧ b = 1) → (s.block r b).state = .idleReq →
  ∃ u, exec (.blockIdle t r b) s = .next u ∧ ((u.block r b).state = .reset ∨ (u.block r b).state = .held)) ∧
  (∀ (s : State) (t r b : Nat), s.Live → (r, b) ∈ allBlocks →
  ((s.block r b).state = .reset → (s.domain (domainOf r b)).state = .on → s.queuedReset r b = false →
    ∃ u, exec (.blockRelease t r b []) s = .next u ∧ (u.block r b).state = .running ∧ (u.block r b).withdrawn = 0 ∧
      (u.block r b).carried = [] ∧ (u.block r b).resets = (s.block r b).resets) ∧
  ((s.block r b).state ≠ .reset → ∃ u, exec (.blockRelease t r b []) s = .next u ∧ Did t [] s u))

/-- R37: an error of scrubbing is counted at its row, and a row with a second error waits for repair; a corrected one does nothing else.
An uncorrectable one in a packet buffer drops that packet, which its spool forgets, and counts it; one in the event log marks the
record lost, one in the link store frees the link record; in the engine partition it touches nothing else. -/
def Obligations.ScrubErrorCompletes : Prop := ∀ (s : State) (t row k h : Nat) (x : DramItem), s.Live →
  (∃ u, exec (.scrubError t x true row) s = .next u ∧ Did t [.hier] s u ∧
    Table.get 0 u.hier.rowErrors row = Table.get 0 s.hier.rowErrors row + 1 ∧
    (∀ y, y ∈ u.hier.repairRows ↔ y ∈ s.hier.repairRows ∨ y = row ∧ 1 ≤ Table.get 0 s.hier.rowErrors row) ∧
    (∀ r b, u.block r b = s.block r b)) ∧
  (∃ u, exec (.scrubError t .engine false row) s = .next u ∧ Did t [.hier] s u ∧ (∀ r b, u.block r b = s.block r b) ∧
    (∀ y, y ∈ u.hier.repairRows ↔ y ∈ s.hier.repairRows ∨ y = row ∧ 1 ≤ Table.get 0 s.hier.rowErrors row)) ∧
  ((s.packet h).isSome = true →
    ∃ u, exec (.scrubError t (.packet h) false row) s = .next u ∧ Did t [.hier, .out, .dict, .lanes, .spools, .pages] s u ∧
      u.packet h = none ∧ Counted [keyOf 0x3190 7] s u ∧
      (∀ n, s.spoolOf h = some n → (∀ y ∈ (u.spool n).queue, y.handle ≠ h) ∧ (∀ y ∈ (u.spool n).flight, y.item.handle ≠ h) ∧
        ∀ j, j ≠ n → u.spool j = s.spool j)) ∧
  ((Table.find s.log.records k).isSome = true →
    ∃ u, exec (.scrubError t (.logEntry k) false row) s = .next u ∧ Did t [.hier, .log] s u ∧
      Table.find u.log.records k = some ⟨0, 0, 0, 0, 2, 0, []⟩ ∧
      (∀ j, j ≠ k → Table.find u.log.records j = Table.find s.log.records j) ∧ u.log.next = s.log.next) ∧
  ((s.link k).state ≠ .free →
    ∃ u, exec (.scrubError t (.link k) false row) s = .next u ∧ Did t [.hier, .routes] s u ∧ (u.link k).state = .free ∧
      (∀ j, j ≠ k → u.link j = s.link j))

/-- R344, R418: a function-level reset clears the function's rings, mailbox, cipher page and check contexts; its jobs end at once,
nothing is written to its memory and no completion is posted, its contexts close and KEY_DATA is cleared; an accepted key command
completes and no slot is touched. Nothing of another function, of a line port or of the configuration changes, and staging stays. -/
def Obligations.FunctionResetClears : Prop := ∀ (s : State) (t f : Nat), s.Live → f < 64 →
  ∃ u, exec (.functionLevelReset t f) s = .next u ∧ Did t [.pages, .cipher, .checkParts] s u ∧ (∀ g, g ≠ f → u.page g = s.page g) ∧
    (u.page f).rings = [] ∧ (u.page f).txPosted = [] ∧ (u.page f).txWait = [] ∧ (u.page f).rxBufs = [] ∧ (u.page f).rxWait = [] ∧
    (u.page f).vector = 0 ∧ (u.page f).irqEn = false ∧ (u.page f).done = false ∧ (u.page f).overlap = false ∧ (u.page f).reqLen = 0 ∧
    (u.page f).rspLen = 0 ∧ (u.page f).reqBuf = [] ∧ (u.page f).rspBuf = [] ∧ (u.page f).busy = (s.page f).busy ∧
    (u.page f).req = (s.page f).req ∧ (u.page f).discard = (s.page f).busy ∧ (u.page f).ciphEnable = false ∧ (u.page f).onFail = false ∧
    (u.page f).ctxs = [] ∧ (u.page f).keyData = [] ∧ (u.page f).keyDone = false ∧ (u.page f).keyOverlap = false ∧
    (u.page f).keyResult = 0 ∧ (u.page f).keyBusy = (s.page f).keyBusy ∧ (u.page f).chkEnable = false ∧ (u.page f).misIrqEn = false ∧
    (u.page f).misVector = 0 ∧ (u.page f).mismatch = false ∧ (u.page f).misCount = 0 ∧ (u.page f).checks = [] ∧
    (u.page f).evtEnable = (s.page f).evtEnable ∧ (u.page f).evtFifo = (s.page f).evtFifo ∧
    (u.page f).evtOverflow = (s.page f).evtOverflow ∧
    u.cipher = { s.cipher with jobs := s.cipher.jobs.filter fun e => e.2.page != f } ∧
    u.checkParts = s.checkParts.filter fun x => x.page != f

/-- R249, R253, R255: a spool taken out of service keeps its packets, put back it takes the state its contents and route give it, and
flushed it ends every packet and counts its numbers from 0. A spool without a route for 3106.01 seconds ends its packets; an
unacknowledged fragment is sent again while its retransmissions last, its route charged with the failure, and fails with its packet
after them; an acknowledgement that no frame has carried in time is owed as a frame of its own. The order of the spool states and the
place of a fragment sent again are the model's (log 24). -/
def Obligations.SpoolsComplete : Prop :=
  (∀ (s : State) (t k : Nat), s.Live → s.isEndpoint (k / 4) = true →
  (∃ u, exec (.spoolDisable t k) s = .next u ∧ Did t [.spools] s u ∧ u.spool k = { s.spool k with state := .disabled } ∧
    ∀ j, j ≠ k → u.spool j = s.spool j) ∧
  ((s.spool k).state = .disabled →
    ∃ u, exec (.spoolEnable t k) s = .next u ∧ Did t [.lanes, .spools] s u ∧ (u.spool k).state = s.spoolStateOf k (s.spool k) ∧
      (u.spool k).queue = (s.spool k).queue ∧ (u.spool k).flight = (s.spool k).flight ∧ (∀ j, j ≠ k → u.spool j = s.spool j)) ∧
  (∃ u, exec (.spoolFlush t k) s = .next u ∧ Did t [.out, .lanes, .spools, .pages] s u ∧ (u.spool k).queue = [] ∧
    (u.spool k).flight = [] ∧ (u.spool k).txSeq = 0 ∧ (0 < s.window (k % 4) → (u.spool k).state = .empty) ∧
    (u.spool k).rxBase = (s.spool k).rxBase ∧ ∀ j, j ≠ k → u.spool j = s.spool j)) ∧
  (∀ (s : State) (t k : Nat), s.Live →
  ((s.spool k).state = .unrouted → (s.spool k).unroutedAt + s.val 0x3106 1 * 1000000000 ≤ max s.tsc t →
    ∃ u, exec (.unroutedHoldExpiry t k) s = .next u ∧ Did t [.out, .lanes, .spools, .pages] s u ∧ (u.spool k).queue = [] ∧
      (u.spool k).flight = [] ∧ ∀ j, j ≠ k → u.spool j = s.spool j) ∧
  (max s.tsc t < (s.spool k).unroutedAt + s.val 0x3106 1 * 1000000000 →
    ∃ u, exec (.unroutedHoldExpiry t k) s = .next u ∧ Did t [] s u) ∧
  (∀ q n, (s.spool k).flight.find? (fun y => y.seq == q.seq) = some q → q.ended = some n →
    n + s.val 0x3102 (k % 4 + 1) ≤ s.tether.slotCount →
    ∃ u, exec (.ackTimeout t k q.seq) s = .next u ∧ Did t [.out, .dict, .lanes, .spools, .pages, .routes] s u ∧
      (∀ y ∈ (u.spool k).flight, y.seq ≠ q.seq) ∧ (∀ j, j ≠ k → u.spool j = s.spool j) ∧
      (q.item.tries < s.val 0x3103 (k % 4 + 1) → Counted [keyOf 0x3182 (k % 4 + 1)] s u ∧
        (u.spool k).queue = { q.item with tries := q.item.tries + 1 } :: (s.spool k).queue) ∧
      (s.val 0x3103 (k % 4 + 1) ≤ q.item.tries → Counted [keyOf 0x3183 (k % 4 + 1)] s u ∧
        (∀ y ∈ (u.spool k).queue, y.handle ≠ q.item.handle) ∧ (∀ y ∈ (u.spool k).flight, y.item.handle ≠ q.item.handle)) ∧
      ((s.route q.route).valid = true → (u.route q.route).fails = min 255 ((s.route q.route).fails + 1))) ∧
  (∀ n, (s.spool k).ackDue = true → (s.spool k).ackAt + s.val 0x3104 (k % 4 + 1) ≤ s.tether.slotCount → s.laneOf (k / 4) = some n →
    ∃ u, exec (.standaloneAckDue t k) s = .next u ∧ Did t [.lanes] s u ∧ k ∈ (u.lane (n / 4) (n % 4)).tx.acks ∧
      ∀ p l, l < 4 → 4 * p + l ≠ n → u.lane p l = s.lane p l))

/-- R259, R260, R261, R262, R265: the producer index of TXQ brings a descriptor in: one that names no endpoint or breaks the encoding is
refused and the ring marked, a good one of classes 1 to 3 waits for its admission, and where no TXC entry is left for it TXQ stalls
with it. Free receive buffers of at least 256 bytes are posted (log 69); a packet that waits too long for one is discarded and
counted; the host's consumer index frees entries and lifts the stall of the ring behind it (stated where no packet waits behind).
One entry of a ring stays unused (log 13). -/
def Obligations.HostRingsComplete : Prop :=
  (∀ (s : State) (t f prod : Nat) (d : TxDesc), s.Live → s.open f = true →
  ((s.page f).ring 0).enable = true → ((s.page f).ring 0).newEntries prod = 1 → (s.page f).txPosted = [] → (s.page f).txWait.length < 16 →
  (s.openRequests f < ((s.page f).ring 1).free → s.txCheck d = none → s.bound f d = true → d.cls ≠ 0 →
    ∃ u, exec (.txqDoorbell t f prod [d]) s = .next u ∧ Did t [.pages] s u ∧ (∀ g, g ≠ f → u.page g = s.page g) ∧
      (u.page f).txWait = (s.page f).txWait ++ [d] ∧ (u.page f).txPosted = [] ∧ ((u.page f).ring 0).stalled = false ∧
      ((u.page f).ring 0).prod = prod % ((s.page f).ring 0).size ∧ ((u.page f).ring 0).cons = ((s.page f).ring 0).cons ∧
      ∀ k, k ≠ 0 → (u.page f).ring k = (s.page f).ring k) ∧
  (s.openRequests f < ((s.page f).ring 1).free → (s.txCheck d).isSome = true →
    ∃ u, exec (.txqDoorbell t f prod [d]) s = .next u ∧ Did t [.pages, .out] s u ∧ (u.page f).txWait = (s.page f).txWait ∧
      ((u.page f).ring 0).badDesc = true ∧ (((s.page f).ring 1).enable = true →
        ((u.page f).ring 1).prod = (((s.page f).ring 1).prod + 1) % ((s.page f).ring 1).size)) ∧
  (((s.page f).ring 1).free ≤ s.openRequests f →
    ∃ u, exec (.txqDoorbell t f prod [d]) s = .next u ∧ Did t [.pages] s u ∧ ((u.page f).ring 0).stalled = true ∧
      (u.page f).txPosted = [d] ∧ (u.page f).txWait = (s.page f).txWait)) ∧
  (∀ (s : State) (t f : Nat), s.Live →
  (∀ prod b, s.open f = true → ((s.page f).ring 2).newEntries prod = 1 → 256 ≤ b.size → (s.page f).rxWait = [] →
    ∃ u, exec (.rxfDoorbell t f prod [b]) s = .next u ∧ Did t [.pages] s u ∧ (∀ g, g ≠ f → u.page g = s.page g) ∧
      (u.page f).rxBufs = (s.page f).rxBufs ++ [b] ∧ ((u.page f).ring 2).prod = prod % ((s.page f).ring 2).size ∧
      ∀ k, k ≠ 2 → (u.page f).ring k = (s.page f).ring k) ∧
  (∀ x, (s.page f).rxWait = [x] → x.beat + s.val 0x3106 3 ≤ max s.tsc t / 40000 →
    ∃ u, exec (.rxHoldTimeout t f) s = .next u ∧ Did t [.pages, .dict] s u ∧ (u.page f).rxWait = [] ∧
      Counted [keyOf 0x3187 (x.rx.cls + 1)] s u) ∧
  (∀ x, (s.page f).rxWait = [x] → max s.tsc t / 40000 < x.beat + s.val 0x3106 3 →
    ∃ u, exec (.rxHoldTimeout t f) s = .next u ∧ Did t [] s u) ∧
  (∀ k idx, s.open f = true → (k = 5 ∨ k = 7 ∨ k = 3 ∧ (s.page f).rxWait = [] ∨ k = 1 ∧ (s.page f).txPosted = []) →
    ∃ u, exec (.hostConsumerIndexWrite t f k idx) s = .next u ∧ Did t [.pages] s u ∧ (∀ g, g ≠ f → u.page g = s.page g) ∧
      ((u.page f).ring k).cons = idx % ((s.page f).ring k).size ∧ ((u.page f).ring k).prod = ((s.page f).ring k).prod ∧
      (k ≠ 3 → ((u.page f).ring (k - 1)).stalled = false) ∧ (u.page f).evtFifo = (s.page f).evtFifo))

/-- R271, R277, R285, R286, R294: what a neighbour's own report leaves: its SNR values on the link, in module slots, and a plan to come;
its epoch and the time of its state; its neighbours; its identity. A report whose length disagrees with its counts leaves none of it
and is counted. A probe reply gives its target an entry through the neighbour, in force at the next boundary, unless all eight of
the target's entries are taken (log 27). -/
def Obligations.NodeReportsComplete : Prop :=
  (∀ (s : State) (t k pos : Nat) (rx : RxFrame), s.Live → (s.upTo t).Arrives rx k pos →
  (rx.mac.type = 6 → 4 ≤ rx.mac.body.length → rx.mac.body.length = 4 + 24 * beAt rx.mac.body 0 1 →
    ∃ u, exec (.reportReceived t rx) s = .next u ∧ Did t [.routes] s u ∧ (u.link k).fresh = true ∧ (u.link k).lastRx = max s.tsc t ∧
      (∀ r g, r < 24 → g < beAt rx.mac.body 0 1 → Table.get 0xFF (u.link k).snrDn ((r + (s.link k).offset % 32) % 24 * 256 + g) =
        beAt rx.mac.body (4 + r * beAt rx.mac.body 0 1 + g) 1) ∧
      (u.link k).dn = (s.link k).dn ∧ (∀ j, j ≠ k → u.link j = s.link j) ∧ (u.route pos).confirmed = max s.tsc t ∧
      ∀ q, q ≠ pos → u.route q = s.route q) ∧
  (rx.mac.type = 6 → rx.mac.body.length ≠ 4 + 24 * beAt rx.mac.body 0 1 →
    ∃ u, exec (.reportReceived t rx) s = .next u ∧ Did t [.routes, .dict] s u ∧ (u.link k).fresh = (s.link k).fresh ∧
      (u.link k).snrDn = (s.link k).snrDn ∧ Counted [keyOf 0x3220 0x10] s u) ∧
  (rx.mac.type = 7 → rx.mac.body.length = 48 →
    ∃ u, exec (.stateReceived t rx) s = .next u ∧ Did t [.routes, .dict, .mgr, .log] s u ∧
      (u.node rx.src).reportAt = some (max s.tsc t) ∧ (u.node rx.src).reportEpoch = beAt rx.mac.body 0 4 ∧
      ∀ e, e ≠ rx.src → u.node e = s.node e) ∧
  (rx.mac.type = 8 → 1 ≤ beAt rx.mac.body 0 2 → beAt rx.mac.body 0 2 ≤ 2047 → rx.mac.body.length = 4 + 8 * beAt rx.mac.body 0 2 →
    ∃ u, exec (.neighboursReceived t rx) s = .next u ∧ Did t [.routes, .dict] s u ∧
      (u.node rx.src).neighbours =
        (List.range (beAt rx.mac.body 0 2)).map (fun i => (beAt rx.mac.body (4 + 8 * i) 4, beAt rx.mac.body (8 + 8 * i) 2)) ∧ ∀ e, e ≠ rx.src → u.node e = s.node e) ∧
  (rx.mac.type = 11 → rx.mac.body.length = 16 → s.joinClash rx.src (beAt rx.mac.body 0 8) = false →
    ∃ u, exec (.joinReceived t rx) s = .next u ∧ Did t [.routes, .dict] s u ∧ (u.node rx.src).eui = beAt rx.mac.body 0 8 ∧
      (u.node rx.src).joined = true ∧ ∀ e, e ≠ rx.src → u.node e = s.node e)) ∧
  (∀ (s : State) (t k pos : Nat) (rx : RxFrame), s.Live → (s.upTo t).Arrives rx k pos →
  rx.mac.type = 10 → 1 ≤ beAt rx.mac.body 6 1 → beAt rx.mac.body 6 1 ≤ 15 → rx.mac.body.length = 8 + 8 * beAt rx.mac.body 6 1 →
  s.isEndpoint (beAt rx.mac.body 0 4) = true →
  ∃ u, exec (.probeReplyReceived t rx) s = .next u ∧ Did t [.routes, .dict] s u ∧ (∀ j, j ≠ k → u.link j = s.link j) ∧
    ((∃ q ∈ routePositions (beAt rx.mac.body 0 4), (u.routeNext q).valid = true ∧ (u.routeNext q).next = rx.src ∧
        (u.routeNext q).port = rx.port ∧ (u.routeNext q).lane = rx.lane) ∨
      ∀ q ∈ routePositions (beAt rx.mac.body 0 4), (u.routeNext q).valid = true))

/-- R244, R253, R254, R255, R261: a DATA frame for the module that asks for no acknowledgement goes to the function bound to its origin
and class, and waits there while RXF is disabled; one that no function takes is counted. One that asks for it and is next in its
receive window does the same, moves the window on and leaves an acknowledgement owed (stated for a whole packet with nothing held
behind it). An ACK frame takes the fragments it names out of their spool. A frame of a reserved type is discarded and counted. -/
def Obligations.DataAndAckFramesComplete : Prop := ∀ (s : State) (t k pos : Nat) (rx : RxFrame), s.Live →
  (∀ f, (s.upTo t).Arrives rx k pos → rx.mac.type = 1 → s.receiver rx.src rx.cls = some f → ((s.page f).ring 2).enable = false →
    ∃ u, exec (.dataFrameReceived t rx) s = .next u ∧ Did t [.routes, .pages] s u ∧ (∀ g, g ≠ f → u.page g = s.page g) ∧
      (u.page f).rxWait = (s.page f).rxWait ++ [⟨rx.mac.body, rx, max s.tsc t / 40000⟩]) ∧
  ((s.upTo t).Arrives rx k pos → rx.mac.type = 1 → s.receiver rx.src rx.cls = none →
    ∃ u, exec (.dataFrameReceived t rx) s = .next u ∧ Did t [.routes, .dict] s u ∧ Counted [keyOf 0x3187 (rx.cls + 1)] s u) ∧
  (∀ f, (s.upTo t).Arrives { rx with mac := { rx.mac with ackReq := false } } k pos → rx.mac.ackReq = true → rx.mac.type = 1 →
    rx.mac.more = false → rx.mac.frag = 0 → rx.mac.seq = (s.spool (4 * rx.src + rx.cls)).rxBase →
    (s.spool (4 * rx.src + rx.cls)).heldRx = [] → 1 ≤ s.window rx.cls →
    s.receiver rx.src rx.cls = some f → ((s.page f).ring 2).enable = false →
    ∃ u, exec (.dataFrameReceived t rx) s = .next u ∧ Did t [.routes, .spools, .pages] s u ∧ (∀ g, g ≠ f → u.page g = s.page g) ∧
      (u.page f).rxWait = (s.page f).rxWait ++ [⟨rx.mac.body, rx, max s.tsc t / 40000⟩] ∧
      (u.spool (4 * rx.src + rx.cls)).rxBase = ((s.spool (4 * rx.src + rx.cls)).rxBase + 1) % 256 ∧
      (u.spool (4 * rx.src + rx.cls)).ackDue = true ∧ (u.spool (4 * rx.src + rx.cls)).heldRx = [] ∧
      (∀ j, j ≠ 4 * rx.src + rx.cls → u.spool j = s.spool j)) ∧
  (s.nativeRx rx = true → rx.mac.type = 0 ∨ 12 ≤ rx.mac.type →
    ∃ u, exec (.dataFrameReceived t rx) s = .next u ∧ Did t [.dict] s u ∧ Counted [keyOf 0x3190 8] s u) ∧
  ((s.upTo t).Arrives { rx with mac := { rx.mac with ackMap := 0 } } k pos → rx.mac.type = 2 → rx.mac.ackMap ≠ 0 →
    ∃ u, exec (.ackFrameReceived t rx) s = .next u ∧ Did t [.out, .lanes, .spools, .pages, .routes] s u ∧
      (∀ n ∈ ackedSeqs rx.mac.ackSeq rx.mac.ackMap, ∀ y ∈ (u.spool (4 * rx.src + rx.mac.ackCls)).flight, y.seq ≠ n) ∧
      (∀ j, j ≠ 4 * rx.src + rx.mac.ackCls → u.spool j = s.spool j))

/-- R272, R276, R280, R281, R287, R288, R292: a G.9903 node takes the endpoint of its short address; an entry that reaches the route
lifetime becomes invalid, with a neighbour's own all that lead through it; an idle link goes; window records release a link with the
entries that name it, and write its offset (log 34). A probe not answered in time is sent again while attempts and the beacon period's
rate allow, and the repair fails after the last; relay frames that have waited their beats are discarded and counted. -/
def Obligations.RouteAndLinkTimersComplete : Prop :=
  (∀ (s : State) (t k : Nat), s.Live →
  (∀ p l short eui, s.hasPort p = true → l < 4 → s.laneKind p l = 3 → s.running p = true → 1 ≤ short → short ≤ 0x7FFF →
    s.isEndpoint (s.val 0x3210 0x0A + short) = true →
    ∃ u, exec (.g9903Bootstrap t p l short eui) s = .next u ∧ Did t [.routes] s u ∧
      u.node (s.val 0x3210 0x0A + short) = { eui := eui, joined := true, g9903 := true } ∧
      ∀ e, e ≠ s.val 0x3210 0x0A + short →
        u.node e = if (s.node e).g9903 = true ∧ (s.node e).eui = eui then {} else s.node e) ∧
  ((s.route k).valid = true → (s.route k).pinned = false → s.val 0x3210 1 ≤ (s.upTo t).routeAge (s.route k) →
    ∃ u, exec (.routeAgeExpiry t k) s = .next u ∧ Did t [.routes, .dict] s u ∧ (u.route k).valid = false ∧ Counted [keyOf 0x3220 2] s u ∧
      ((s.route k).hops ≠ 1 → (∀ q, q ≠ k → u.route q = s.route q) ∧ ∀ n, u.link n = s.link n) ∧
      ((s.route k).hops = 1 →
        (∀ q, (s.route q).next = (s.route k).next → (s.route q).port = (s.route k).port → (s.route q).lane = (s.route k).lane →
          (s.route q).pinned = false → (u.route q).valid = false) ∧
        ∀ n, s.linkOf (s.route k).port (s.route k).lane (s.route k).next = some n → (u.link n).state = .stale)) ∧
  ((s.upTo t).routeAge (s.route k) < s.val 0x3210 1 → ∃ u, exec (.routeAgeExpiry t k) s = .next u ∧ Did t [] s u) ∧
  ((s.link k).state ≠ .free → (s.link k).lastRx + s.val 0x3210 1 * 1000000000 ≤ max s.tsc t → s.routesOfLink k = [] →
    ∃ u, exec (.linkIdleRelease t k) s = .next u ∧ Did t [.routes] s u ∧ u.link k = {} ∧ (∀ n, n ≠ k → u.link n = s.link n) ∧
      ∀ q, u.route q = s.route q) ∧
  (∀ w, (s.link k).state ≠ .free →
    ∃ u, exec (.linkRelease t k w) s = .next u ∧ Did t [.routes] s u ∧ u.link k = { writer := w } ∧
      (∀ n, n ≠ k → u.link n = s.link n) ∧
      ∀ q, (u.route q).valid = ((s.route q).valid && !((s.route q).link == k && !(s.route q).pinned))) ∧
  (∀ w o, (s.link k).state ≠ .free →
    ∃ u, exec (.linkOffsetWrite t k w o) s = .next u ∧ Did t [.routes] s u ∧
      u.link k = { s.link k with offset := o.toNat, writer := w } ∧ (∀ n, n ≠ k → u.link n = s.link n) ∧
      ∀ q, u.route q = s.route q)) ∧
  (∀ (s : State) (t : Nat), s.Live →
  (∀ e r, s.repairOf e = some r → r.waiting = false → r.sentAt + s.val 0x3210 5 * 1000000 ≤ max s.tsc t →
    (s.val 0x3210 4 ≤ r.attempt →
      ∃ u, exec (.probeTimeout t e) s = .next u ∧ Did t [.routes, .dict] s u ∧ u.repairOf e = none ∧ Counted [keyOf 0x3220 7] s u) ∧
    (r.attempt < s.val 0x3210 4 → s.routes.probes < s.val 0x3210 6 →
      ∃ u, exec (.probeTimeout t e) s = .next u ∧ Did t [.routes, .dict, .lanes] s u ∧ u.routes.probes = s.routes.probes + 1 ∧
        u.repairOf e = some { r with attempt := r.attempt + 1, probe := s.routes.nextProbe, sentAt := max s.tsc t, waiting := false } ∧
        Counted [keyOf 0x3220 8] s u) ∧
    (r.attempt < s.val 0x3210 4 → s.val 0x3210 6 ≤ s.routes.probes →
      ∃ u, exec (.probeTimeout t e) s = .next u ∧ Did t [.routes] s u ∧ u.repairOf e = some { r with waiting := true })) ∧
  (∀ p l, ∃ u, exec (.relayWaitExpiry t p l) s = .next u ∧ Did t [.lanes, .dict] s u ∧
    (u.lane p l).tx.relays =
      (s.lane p l).tx.relays.filter (fun i => decide (max s.tsc t / 40000 < i.beat + s.val 0x3210 7)) ∧
    (u.lane p l).rx = (s.lane p l).rx ∧ (u.lane p l).tx.onLine = (s.lane p l).tx.onLine ∧
    (∀ n, Table.get ({} : Lane) u.lanes n = if n = 4 * p + l then u.lane p l else Table.get ({} : Lane) s.lanes n) ∧
    ofBE (u.raw (keyOf 0x3220 0x0A)) =
      min 0xFFFFFFFF (ofBE (s.raw (keyOf 0x3220 0x0A)) + ((s.lane p l).tx.relays.length - (u.lane p l).tx.relays.length))))

/-- R107, R116, R122: a port starts in steps: 25 beats of bias, where its matrix stands still (log 17), the loopback calibration of 50,
then the driver with the relays of its bands commanded closed. A calibration out of bounds is fault cause 4, the driver shut down;
with a stop in force the start ends after the calibration in STOPPED with the driver shut down. Before a step has lasted its beats
nothing happens. -/
def Obligations.PortStartCompletes : Prop := ∀ (s : State) (t p : Nat), s.Live → s.hasPort p = true → (s.port p).state = .starting →
  (s.port p).moving = false →
  ((s.port p).step = .bias → (s.port p).stepBeat + 25 ≤ max s.tsc t / 40000 →
    ∃ u, exec (.portStartDelay t p) s = .next u ∧ Did t [.ports] s u ∧ (∀ q, q ≠ p → u.port q = s.port q) ∧
      u.port p = { s.port p with step := .loopback, stepBeat := max s.tsc t / 40000 }) ∧
  ((s.port p).step = .bias → max s.tsc t / 40000 < (s.port p).stepBeat + 25 →
    ∃ u, exec (.portStartDelay t p) s = .next u ∧ Did t [] s u) ∧
  (∀ a d, (s.port p).step = .loopback → (s.port p).stepBeat + 50 ≤ max s.tsc t / 40000 →
    (a.natAbs ≤ 2048 → d.natAbs ≤ 20 → s.portStopped p = false →
      ∃ u, exec (.loopbackDone t p a d) s = .next u ∧ (∀ q, q ≠ p → u.port q = s.port q) ∧ (u.port p).state = .starting ∧
        ((u.port p).step = .relays ∨ (u.port p).step = .training) ∧ (u.port p).driver = true ∧ (u.port p).bias = true ∧
        ∀ b ∈ s.portBands p, ((u.port p).relay b).command = true) ∧
    (a.natAbs ≤ 2048 → d.natAbs ≤ 20 → s.portStopped p = true →
      ∃ u, exec (.loopbackDone t p a d) s = .next u ∧ (∀ q, q ≠ p → u.port q = s.port q) ∧ (u.port p).state = .stopped ∧
        (u.port p).driver = false) ∧
    (2048 < a.natAbs ∨ 20 < d.natAbs → s.portUp p = true →
      ∃ u, exec (.loopbackDone t p a d) s = .next u ∧ (∀ q, q ≠ p → u.port q = s.port q) ∧ (u.port p).state = .fault ∧
        (u.port p).cause = 4 ∧ (u.port p).driver = false)) ∧
  (∀ a d, (s.port p).step = .loopback → max s.tsc t / 40000 < (s.port p).stepBeat + 50 →
    ∃ u, exec (.loopbackDone t p a d) s = .next u ∧ Did t [] s u)

/-- R117, R118, R122, R123: contact sense of a port at rest is followed and counted; a contact that comes to disagree with the command
of a running port, or has disagreed for 250 beats with that of any working port, is fault cause 5, which in step 3 of a substitution
waits for the matrix; the ballast matrix moves the port to its other AFE as it makes. A reading that is no change does nothing. -/
def Obligations.ContactSenseCompletes : Prop := ∀ (s : State) (t p : Nat), s.Live → s.hasPort p = true →
  (∀ b c, ((s.port p).relay b).sense = !c → (s.port p).state = .off ∨ (s.port p).state = .stopped ∨ (s.port p).state = .fault →
    ∃ u, exec (.relayContactSense t p (.band b) c) s = .next u ∧ Did t [.ports, .dict, .echoes, .lanes, .sup] s u ∧
      (∀ q, q ≠ p → u.port q = s.port q) ∧ ((u.port p).relay b).sense = c ∧
      ((u.port p).relay b).command = ((s.port p).relay b).command ∧ (u.port p).state = (s.port p).state ∧
      Counted [portKey p 0x201F 1] s u) ∧
  (∀ b c, ((s.port p).relay b).sense = !c → ((s.port p).relay b).command = !c → (s.port p).state = .running → s.portUp p = true →
    ∃ u, exec (.relayContactSense t p (.band b) c) s = .next u ∧ (u.port p).state = .fault ∧ (u.port p).cause = 5 ∧
      ∀ q, q ≠ p → u.port q = s.port q) ∧
  (∀ b c, ((s.port p).relay b).sense = c → ∃ u, exec (.relayContactSense t p (.band b) c) s = .next u ∧ Did t [] s u) ∧
  (∀ c, (s.port p).matrix.sense = c → ∃ u, exec (.relayContactSense t p .matrix c) s = .next u ∧ Did t [] s u) ∧
  (∀ c, (s.port p).matrix.sense = !c → (s.port p).matrix.command = !c → (s.port p).state ≠ .running →
    ∃ u, exec (.relayContactSense t p .matrix c) s = .next u ∧ Did t [.ports] s u ∧
      u.port p = { s.port p with matrix := { (s.port p).matrix with sense := c } } ∧ ∀ q, q ≠ p → u.port q = s.port q) ∧
  (∀ c, (s.port p).matrix.sense = !c → (s.port p).matrix.command = !c → (s.port p).state = .running → s.portUp p = true →
    ∃ u, exec (.relayContactSense t p .matrix c) s = .next u ∧ (u.port p).state = .fault ∧ (u.port p).cause = 5 ∧
      ∀ q, q ≠ p → u.port q = s.port q) ∧
  (∀ c, (s.port p).matrix.sense = !c → (s.port p).matrix.command = c → (s.port p).state ≠ .swapping ∨ (s.port p).faultNext = 0 →
    ∃ u, exec (.relayContactSense t p .matrix c) s = .next u ∧ (u.port p).ballastAfe = (s.port p).swapTo ∧
      (∀ q, q ≠ p → u.port q = s.port q) ∧
      ((s.port p).state = .swapping → Did t [.ports, .sup] s u ∧ (u.port p).state = .swapping ∧ (u.port p).step = .loopback)) ∧
  (s.portUp p = true → (s.upTo t).senseLate p = true →
    ((s.port p).state = .starting ∨ (s.port p).state = .running ∨ (s.port p).state = .stopping ∨
        (s.port p).state = .swapping ∧ (s.port p).step ≠ .matrix →
      ∃ u, exec (.relaySenseTimeout t p) s = .next u ∧ (u.port p).state = .fault ∧ (u.port p).cause = 5 ∧ (u.port p).driver = false ∧
        ∀ q, q ≠ p → u.port q = s.port q) ∧
    ((s.port p).state = .swapping → (s.port p).step = .matrix →
      ∃ u, exec (.relaySenseTimeout t p) s = .next u ∧ (u.port p).state = .swapping ∧ (u.port p).faultNext = 5 ∧ (u.port p).driver = false ∧
        ∀ q, q ≠ p → u.port q = s.port q)) ∧
  ((s.upTo t).senseLate p = false → ∃ u, exec (.relaySenseTimeout t p) s = .next u ∧ Did t [] s u)

/-- R110, R112, R116, R117, R118, R119: a junction at 150 °C, as the sensor reads with its offset in force (log 58), a supply out of
regulation and a clamp that conducts for 250 beats put a working port into FAULT with causes 1, 2 and 3, its driver shut down; the
cause clears when the rail is back. A fault whose cause has cleared ends after its interval while retries remain, one retry spent;
retries reload after 90,000,000 beats of RUNNING; a stopping port whose lanes are idle is STOPPED with its driver shut down (stated
where the stop still stands). -/
def Obligations.PortFaultsAndRetries : Prop :=
  (∀ (s : State) (t p : Nat), s.Live → s.hasPort p = true → s.portUp p = true →
  ((s.port p).state = .starting ∨ (s.port p).state = .running ∨ (s.port p).state = .stopping →
    (∀ x : Int, 150000 ≤ x - s.userShift p 8 → ∃ u, exec (.driverTemperatureRead t p x) s = .next u ∧ (u.port p).state = .fault ∧ (u.port p).cause = 1 ∧
      (u.port p).causeActive = true ∧ (u.port p).driver = false ∧ (u.port p).temp = x - s.userShift p 8 ∧ ∀ q, q ≠ p → u.port q = s.port q) ∧
    (∀ n, 10 < n → ∃ u, exec (.driverRailRegulation t p n) s = .next u ∧ (u.port p).state = .fault ∧ (u.port p).cause = 2 ∧
      (u.port p).causeActive = true ∧ (u.port p).driver = false ∧ ∀ q, q ≠ p → u.port q = s.port q) ∧
    (250 ≤ (s.port p).clampRun → ∃ u, exec (.clampOvervoltage t p) s = .next u ∧ (u.port p).state = .fault ∧ (u.port p).cause = 3 ∧
      (u.port p).causeActive = false ∧ (u.port p).driver = false ∧ ∀ q, q ≠ p → u.port q = s.port q)) ∧
  ((s.port p).clampRun < 250 → ∃ u, exec (.clampOvervoltage t p) s = .next u ∧ Did t [] s u) ∧
  (∀ x : Int, 100000 < x - s.userShift p 8 → x - s.userShift p 8 < 125000 → (s.port p).foldback = 0 → ∃ u, exec (.driverTemperatureRead t p x) s = .next u ∧
    Did t [.ports, .dict, .sup] s u ∧ u.port p = { s.port p with temp := x - s.userShift p 8, hotBeat := none, coolBeat := none } ∧
    ∀ k, k ≠ portKey p 0x2001 7 → u.raw k = s.raw k) ∧
  ((s.port p).state = .fault → (s.port p).cause = 2 →
    (∃ u, exec (.driverRailRegulation t p 0) s = .next u ∧ (u.port p).causeActive = false) ∧
    ∃ u, exec (.driverRailRegulation t p 11) s = .next u ∧ Did t [.ports] s u ∧ u.port p = { s.port p with causeActive := true })) ∧
  (∀ (s : State) (t p : Nat), s.Live → s.hasPort p = true → s.portUp p = true →
  s.portEnabled p = true →
  ((s.port p).state = .fault → (s.port p).causeActive = false → 0 < (s.port p).retries →
    (s.pval p 0x2001 8 + s.pval p 0x2000 6 * 1000000000 ≤ max s.tsc t →
      ∃ u, exec (.faultRetryExpiry t p) s = .next u ∧ (u.port p).state = .starting ∧ (u.port p).step = .bias ∧
        (u.port p).retries = (s.port p).retries - 1 ∧ (u.port p).bias = true ∧ (u.port p).stateBeat = max s.tsc t / 40000 ∧
        ∀ q, q ≠ p → u.port q = s.port q) ∧
    (max s.tsc t < s.pval p 0x2001 8 + s.pval p 0x2000 6 * 1000000000 →
      ∃ u, exec (.faultRetryExpiry t p) s = .next u ∧ Did t [] s u)) ∧
  ((s.port p).state = .fault → (s.port p).retries = 0 → ∃ u, exec (.faultRetryExpiry t p) s = .next u ∧ Did t [] s u) ∧
  ((s.port p).state = .running → (s.port p).runBeat + 90000000 ≤ max s.tsc t / 40000 →
    ∃ u, exec (.retryReload t p) s = .next u ∧ Did t [.ports] s u ∧
      u.port p = { s.port p with retries := s.pval p 0x2000 5, runBeat := max s.tsc t / 40000 } ∧ ∀ q, q ≠ p → u.port q = s.port q) ∧
  ((s.port p).state = .stopping → s.lanesIdle p = true → s.portStopped p = true → (s.port p).enabled = true →
    ∃ u, exec (.portLanesIdle t p) s = .next u ∧ (u.port p).state = .stopped ∧ (u.port p).driver = false ∧
      ∀ q, q ≠ p → u.port q = s.port q))

/-- R108, R109, R111, R112, R113, R114: what a port measures: the power of the beat, with the gain error of its observation path taken
out (log 58); the current limit once a beat; the impedance of a band in use after its interval, with its flags, or none where the
band carries nothing; and the receive path of the beat: its counts, and in automatic mode the gain of the next, 6 dB down at an ADC
peak of −1 dB and no further than 0 dB, and a decibel up, to 30 dB at most, after 250 beats 6 dB below the target level. -/
def Obligations.PortMeasurementsComplete : Prop := ∀ (s : State) (t p : Nat), s.Live → s.hasPort p = true →
  (∀ n w, w = (scaleBy (n : Nat) (powerRatio (-(s.userShift p 7)))).toNat → w < 0x10000 →
    ∃ u, exec (.transmitPowerMeasure t p n) s = .next u ∧ Did t [.ports, .dict] s u ∧
      u.port p = { s.port p with powers := (w :: (s.port p).powers).take 25 } ∧ u.pval p 0x2001 6 = w ∧
      (∀ k, k ≠ portKey p 0x2001 6 → u.raw k = s.raw k) ∧ ∀ q, q ≠ p → u.port q = s.port q) ∧
  ((s.port p).limitBeat ≠ some (max s.tsc t / 40000) → ∃ u, exec (.currentLimit t p) s = .next u ∧ Did t [.ports, .dict, .lanes] s u ∧
    (u.port p).limitBeat = some (max s.tsc t / 40000) ∧ bit (u.port p).flags 6 = true ∧ (u.port p).state = (s.port p).state ∧
    Counted [portKey p 0x201F 2] s u ∧ ∀ q, q ≠ p → u.port q = s.port q) ∧
  ((s.port p).limitBeat = some (max s.tsc t / 40000) → ∃ u, exec (.currentLimit t p) s = .next u ∧ Did t [] s u) ∧
  (∀ b : ReceiveBeat, ∃ u, exec (.agcUpdate t p b) s = .next u ∧ Did t [.ports, .dict] s u ∧
    Counted ((if b.fullScale = true then [portKey p 0x201F 6] else []) ++ (if b.cancelSaturated = true then [portKey p 0x201F 0x0A] else [])
      ++ (if b.clamp = true then [portKey p 0x201F 7] else [])) s u ∧
    (u.port p).gain = (s.port p).gain ∧ bit (u.port p).flags 7 = b.clamp ∧
    (u.port p).clampRun = (if b.clamp = true then (s.port p).clampRun + 1 else 0) ∧ (∀ q, q ≠ p → u.port q = s.port q) ∧
    (s.pval p 0x2002 1 = 1 → (u.port p).gainNext = (s.port p).gainNext) ∧
    (s.pval p 0x2002 1 ≠ 1 →
      (-10 ≤ b.peak → (signed 8 (s.pval p 0x2002 3) - 6) * 10 ≤ b.peak →
        (u.port p).gainNext = (if (s.port p).gain = 0 then none else some ((s.port p).gain - 6))) ∧
      (b.peak < -10 → (signed 8 (s.pval p 0x2002 3) - 6) * 10 ≤ b.peak → (u.port p).gainNext = none ∧ (u.port p).quietBeats = 0) ∧
      (b.peak < -10 → b.peak < (signed 8 (s.pval p 0x2002 3) - 6) * 10 →
        ((s.port p).quietBeats < 249 → (u.port p).gainNext = none ∧ (u.port p).quietBeats = (s.port p).quietBeats + 1) ∧
        (249 ≤ (s.port p).quietBeats → (s.port p).gain < 30 →
          (u.port p).gainNext = some ((s.port p).gain + 1) ∧ (u.port p).quietBeats = 0)))) ∧
  (∀ b, s.pval p 0x2003 5 ≠ 0 → s.running p = true → b ∈ s.portBands p →
    ((s.port p).impedanceAt b + s.pval p 0x2003 5 * 25000 ≤ max s.tsc t / 40000 →
      (∀ z, ∃ u, exec (.impedanceMeasure t p b (some z)) s = .next u ∧ Did t [.ports, .dict] s u ∧
        (u.port p).impedanceAt b = max s.tsc t / 40000 ∧ bit (u.port p).flags (2 * bandNo b) = decide (openAbove b < z) ∧
        bit (u.port p).flags (2 * bandNo b + 1) = decide (z < shortBelow b) ∧ (u.port p).state = (s.port p).state ∧
        u.pval p 0x2003 (3 + bandNo b) = f32Milli z % 2 ^ 32 ∧ ∀ q, q ≠ p → u.port q = s.port q) ∧
      ∃ u, exec (.impedanceMeasure t p b none) s = .next u ∧ Did t [.ports] s u ∧
        u.port p = (s.port p).setImpedanceAt b (max s.tsc t / 40000) ∧ ∀ q, q ≠ p → u.port q = s.port q) ∧
    (max s.tsc t / 40000 < (s.port p).impedanceAt b + s.pval p 0x2003 5 * 25000 →
      ∀ z, ∃ u, exec (.impedanceMeasure t p b z) s = .next u ∧ Did t [] s u))

/-- R178, R180, R181, R183, R184: training of 50 beats puts the model that its samples give in place and ends in TRACKING where the
suppression reaches its minimum, in REACQUIRE with a hold where it does not. The model is solved again after the hold timer, every
25 beats in LOST and refreshed every 250 in TRACKING; each handover counts as a new model, publishes the suppression of the analogue
stage and changes the taps at a beat boundary: at once at one, else at the next. The band's suppression, the lowest of its lanes',
is published while one of them measures it; below the minimum it is a disturbance in TRACKING, which begins a hold and is counted; 3
dB above it throughout a window it ends the hold, whose duration is published. While the port does not transmit in the band, the
value stays and the hold timer stands. Before its time has come a training, re-solve or refresh does nothing. -/
def Obligations.EchoCancellersComplete : Prop :=
  (∀ (s : State) (t p : Nat) (b : Band) (x : Int) (w : List (Int × Int)), s.Live → s.hasPort p = true →
  ((s.echo p b).state = .training → (s.echo p b).beat + 50 ≤ max s.tsc t / 40000 →
    ∃ u, exec (.echoTrainingEnd t p b ⟨x, w⟩) s = .next u ∧ (u.echo p b).supp = x ∧ (u.echo p b).taps = s.resolved p w ∧
      (∀ q c, ¬(q = p ∧ c = b) → u.echo q c = s.echo q c) ∧
      (s.minSupp p b ≤ x → (u.echo p b).state = .tracking ∧ (u.echo p b).hold = (s.echo p b).hold) ∧
      (x < s.minSupp p b → (u.echo p b).state = .reacquire ∧ (u.echo p b).hold = true ∧ (u.echo p b).holdAt = max s.tsc t)) ∧
  ((s.echo p b).state = .training → max s.tsc t / 40000 < (s.echo p b).beat + 50 →
    ∃ u, exec (.echoTrainingEnd t p b ⟨x, w⟩) s = .next u ∧ Did t [] s u) ∧
  ((s.echo p b).state = .reacquire → holdTimerNs b ≤ (s.echo p b).timer →
    ∃ u, exec (.echoHoldTimeout t p b) s = .next u ∧ Did t [.echoes, .dict] s u ∧ (u.echo p b).state = .resolve ∧
      (u.echo p b).hold = (s.echo p b).hold ∧ (∀ q c, ¬(q = p ∧ c = b) → u.echo q c = s.echo q c) ∧
      Counted [portKey p 0x2004 (0x22 + bandNo b)] s u) ∧
  ((s.echo p b).state = .resolve → (s.echo p b).beat + 1 ≤ max s.tsc t / 40000 →
    ∃ u, exec (.echoResolveDone t p b ⟨x, w⟩) s = .next u ∧ Did t [.echoes, .dict, .lanes] s u ∧ (u.echo p b).state = .reacquire ∧
      (u.echo p b).timer = 0 ∧ (u.echo p b).model = (s.echo p b).model + 1 ∧ (s.echo p b).total ≤ (u.echo p b).total ∧
      u.pval p 0x2004 (0x14 + bandNo b) = f32Tenth x % 2 ^ 32 ∧ (∀ q c, ¬(q = p ∧ c = b) → u.echo q c = s.echo q c) ∧
      (max s.tsc t % 40000 = 0 → (u.echo p b).taps = s.resolved p w ∧ (u.echo p b).nextTaps = none) ∧
      (max s.tsc t % 40000 ≠ 0 → (u.echo p b).taps = (s.echo p b).taps ∧ (u.echo p b).nextTaps = some (s.resolved p w))) ∧
  ((s.echo p b).state = .resolve → max s.tsc t / 40000 < (s.echo p b).beat + 1 →
    ∃ u, exec (.echoResolveDone t p b ⟨x, w⟩) s = .next u ∧ Did t [] s u) ∧
  ((s.echo p b).state = .reacquire ∨ (s.echo p b).state = .resolve → s.pval p 0x2004 9 * 40000 ≤ (s.echo p b).total →
    ∃ u, exec (.echoHoldLimit t p b) s = .next u ∧ Did t [.echoes, .dict, .log] s u ∧ (u.echo p b).state = .lost ∧
      (∀ q c, ¬(q = p ∧ c = b) → u.echo q c = s.echo q c) ∧ Counted [portKey p 0x2004 (0x24 + bandNo b)] s u ∧
      u.log.detected = s.log.detected ++ [⟨max s.tsc t, srcCanceller p, 0x0503, 2, toBE 1 (bandNo b)⟩]) ∧
  ((s.echo p b).state = .lost → (s.echo p b).modelBeat + 25 ≤ max s.tsc t / 40000 →
    ∃ u, exec (.echoLostResolve t p b ⟨x, w⟩) s = .next u ∧ Did t [.echoes, .dict, .lanes] s u ∧
      u.pval p 0x2004 (0x14 + bandNo b) = f32Tenth x % 2 ^ 32 ∧ (∀ q c, ¬(q = p ∧ c = b) → u.echo q c = s.echo q c) ∧
      (max s.tsc t % 40000 ≠ 0 → u.echo p b = { s.echo p b with
        model := (s.echo p b).model + 1, modelBeat := max s.tsc t / 40000, nextTaps := some (s.resolved p w) }) ∧
      (max s.tsc t % 40000 = 0 → u.echo p b = { s.echo p b with
        model := (s.echo p b).model + 1, modelBeat := max s.tsc t / 40000, taps := s.resolved p w, nextTaps := none })) ∧
  ((s.echo p b).state = .lost → max s.tsc t / 40000 < (s.echo p b).modelBeat + 25 →
    ∃ u, exec (.echoLostResolve t p b ⟨x, w⟩) s = .next u ∧ Did t [] s u) ∧
  ((s.echo p b).state = .tracking → (s.echo p b).modelBeat + 250 ≤ max s.tsc t / 40000 →
    ∃ u, exec (.echoModelRefresh t p b x) s = .next u ∧ Did t [.echoes, .dict, .lanes] s u ∧
      u.pval p 0x2004 (0x14 + bandNo b) = f32Tenth x % 2 ^ 32 ∧ (∀ q c, ¬(q = p ∧ c = b) → u.echo q c = s.echo q c) ∧
      (max s.tsc t % 40000 ≠ 0 → u.echo p b = { s.echo p b with
        model := (s.echo p b).model + 1, modelBeat := max s.tsc t / 40000, nextTaps := some (s.refreshed p b) }) ∧
      (max s.tsc t % 40000 = 0 → u.echo p b = { s.echo p b with
        model := (s.echo p b).model + 1, modelBeat := max s.tsc t / 40000, taps := s.refreshed p b, nextTaps := none })) ∧
  ((s.echo p b).state = .tracking → max s.tsc t / 40000 < (s.echo p b).modelBeat + 250 →
    ∃ u, exec (.echoModelRefresh t p b x) s = .next u ∧ Did t [] s u)) ∧
  (∀ (s : State) (t p : Nat) (b : Band) (reference residual : List (Nat × Nat)), s.Live → s.hasPort p = true →
  (∀ x, bandSupp ((lanePowers reference residual).filter fun e => (s.bandLanes p b).contains e.1) = some x →
    ((s.echo p b).state ≠ .off →
      ∃ u, exec (.echoSuppressionMeasure t p b reference residual true) s = .next u ∧ Did t [.echoes, .dict] s u ∧ (u.echo p b).supp = x ∧
        u.pval p 0x2004 (0x12 + bandNo b) = f32Tenth x % 2 ^ 32 ∧ (∀ q c, ¬(q = p ∧ c = b) → u.echo q c = s.echo q c)) ∧
    ((s.echo p b).state = .tracking → s.minSupp p b ≤ x →
      ∃ u, exec (.echoSuppressionMeasure t p b reference residual true) s = .next u ∧ (u.echo p b).state = .tracking ∧
        (u.echo p b).hold = (s.echo p b).hold) ∧
    ((s.echo p b).state = .tracking → x < s.minSupp p b →
      ∃ u, exec (.echoSuppressionMeasure t p b reference residual true) s = .next u ∧
        (u.echo p b).state = .reacquire ∧ (u.echo p b).hold = true ∧ (u.echo p b).timer = 0 ∧ (u.echo p b).total = 0 ∧
        ofBE (u.raw (portKey p 0x2004 (0x20 + bandNo b))) = min 0xFFFFFFFF (ofBE (s.raw (portKey p 0x2004 (0x20 + bandNo b))) + 1)) ∧
    ((s.echo p b).state = .reacquire ∨ (s.echo p b).state = .lost →
      (∀ a, s.minSupp p b + 30 ≤ x → (s.echo p b).clearAt = some a → a + suppWindowNs b ≤ max s.tsc t →
        ∃ u, exec (.echoSuppressionMeasure t p b reference residual true) s = .next u ∧ (u.echo p b).state = .tracking ∧ (u.echo p b).hold = false ∧
          u.pval p 0x2004 0x29 = (max s.tsc t - (s.echo p b).holdAt) / 1000 % 2 ^ 32) ∧
      (s.minSupp p b + 30 ≤ x → (s.echo p b).clearAt = none →
        ∃ u, exec (.echoSuppressionMeasure t p b reference residual true) s = .next u ∧ (u.echo p b).state = (s.echo p b).state ∧
          (u.echo p b).clearAt = some (max s.tsc t) ∧ (u.echo p b).hold = (s.echo p b).hold) ∧
      (x < s.minSupp p b + 30 →
        ∃ u, exec (.echoSuppressionMeasure t p b reference residual true) s = .next u ∧ (u.echo p b).state = (s.echo p b).state ∧
          (u.echo p b).clearAt = none ∧ (u.echo p b).hold = (s.echo p b).hold))) ∧
  (∀ sending, sending = false ∨ bandSupp ((lanePowers reference residual).filter fun e => (s.bandLanes p b).contains e.1) = none → (s.echo p b).state ≠ .off →
    ∃ u, exec (.echoSuppressionMeasure t p b reference residual sending) s = .next u ∧ Did t [.echoes] s u ∧ (u.echo p b).supp = (s.echo p b).supp ∧
      (u.echo p b).state = (s.echo p b).state ∧ (u.echo p b).timer = (s.echo p b).timer ∧ (u.echo p b).clearAt = none) ∧
  (∀ sending, (s.echo p b).state = .off → ∃ u, exec (.echoSuppressionMeasure t p b reference residual sending) s = .next u ∧ Did t [] s u))

/-- R149, R150, R151, R283: an integration ends 8 beats after the last on the N grid, one on the W grid, and not before. A group whose
worst carrier measures more than 1 dB above its limit gets the excess, rounded up to half a decibel, added to its clip, which counts
with the lane where it rises; a clip that reaches 20 dB, the most there is, mutes its group, counted and logged. The integration
counts, with its time and the largest excess so far. Of a group within the limit nothing changes. A clip relaxes by half a decibel
after 250 quiet beats. A tone map left without acknowledgement makes its link ROBUST and is sent again. (The excess is stated for
one violating group. A carrier where the envelope states no limit is not judged, log 62.) -/
def Obligations.ComplianceCommandsComplete : Prop :=
  (∀ (s : State) (t p l g : Nat) (v : Int) (carriers : List (Nat × Int)), s.Live → s.hasPort p = true → l < 4 → s.laneKind p l ≠ 0 →
  Table.wf 0 (s.lane p l).tx.clips = true →
  ((s.lane p l).tx.integrated + (if s.laneKind p l = 2 then 1 else 8) ≤ max s.tsc t / 40000 →
    (s.groupPeaks p l carriers = [(g, v)] → 1000 < v →
      ∃ u, exec (.complianceIntegrationEnd t p l carriers) s = .next u ∧ Did t [.out, .lanes, .dict, .log] s u ∧
        (u.lane p l).tx.clip g = min 40 ((s.lane p l).tx.clip g + excessSteps v) ∧
        (∀ h, h ≠ g → (u.lane p l).tx.clip h = (s.lane p l).tx.clip h) ∧ (u.lane p l).tx.integrated = max s.tsc t / 40000 ∧
        (u.lane p l).rx = (s.lane p l).rx ∧ (∀ q m, m < 4 → ¬(q = p ∧ m = l) → u.lane q m = s.lane q m) ∧
        u.lval p l 0x200C 4 = min 0xFFFFFFFF (s.lval p l 0x200C 4 + 1) ∧
        u.lval p l 0x200C 5 = min 0xFFFFFFFF (s.lval p l 0x200C 5 + (if (s.lane p l).tx.clip g < 40 then 1 else 0)) ∧
        u.lval p l 0x200C 8 = max s.tsc t % 2 ^ 64 ∧
        u.lval p l 0x200C 9 = unsigned 16 (max (signed 16 (s.lval p l 0x200C 9)) ((v + 50) / 100)) ∧
        ((s.lane p l).tx.clip g + excessSteps v < 40 → (u.lane p l).tx.mutedGroups = (s.lane p l).tx.mutedGroups ∧
          u.lval p l 0x200C 6 = s.lval p l 0x200C 6 ∧ u.log = s.log) ∧
        (40 ≤ (s.lane p l).tx.clip g + excessSteps v → (s.lane p l).tx.mutedGroups.contains g = false →
          (u.lane p l).tx.mutedGroups = (s.lane p l).tx.mutedGroups ++ [g] ∧
          u.lval p l 0x200C 6 = min 0xFFFFFFFF (s.lval p l 0x200C 6 + 1) ∧
          u.log.detected = s.log.detected ++ [⟨max s.tsc t, srcOf 1 p 12, 0x0502, 3, toBE 1 l ++ toBE 1 g⟩])) ∧
    ((∀ e ∈ s.groupPeaks p l carriers, e.2 ≤ 1000) →
      ∃ u, exec (.complianceIntegrationEnd t p l carriers) s = .next u ∧ Did t [.lanes] s u ∧
        (u.lane p l).tx.clips = (s.lane p l).tx.clips ∧ (u.lane p l).tx.mutedGroups = (s.lane p l).tx.mutedGroups ∧
        (u.lane p l).tx.integrated = max s.tsc t / 40000)) ∧
  (max s.tsc t / 40000 < (s.lane p l).tx.integrated + (if s.laneKind p l = 2 then 1 else 8) →
    ∃ u, exec (.complianceIntegrationEnd t p l carriers) s = .next u ∧ Did t [] s u)) ∧
  (∀ (s : State) (t p l g : Nat), s.Live → s.hasPort p = true → l < 4 → Table.wf 0 (s.lane p l).tx.clips = true →
  ((s.lane p l).tx.clip g ≠ 0 → (s.lane p l).tx.mutedGroups.contains g = false →
    (Table.get 0 (s.lane p l).tx.quiet g + 250 ≤ max s.tsc t / 40000 →
      ∃ u, exec (.clipRelax t p l g) s = .next u ∧ Did t [.out, .lanes] s u ∧ (u.lane p l).tx.clip g = (s.lane p l).tx.clip g - 1 ∧
        (∀ h, h ≠ g → (u.lane p l).tx.clip h = (s.lane p l).tx.clip h) ∧ (u.lane p l).rx = (s.lane p l).rx ∧
        (∀ q m, m < 4 → ¬(q = p ∧ m = l) → u.lane q m = s.lane q m)) ∧
    (max s.tsc t / 40000 < Table.get 0 (s.lane p l).tx.quiet g + 250 →
      ∃ u, exec (.clipRelax t p l g) s = .next u ∧ Did t [] s u)) ∧
  ((s.lane p l).tx.clip g = 0 → ∃ u, exec (.clipRelax t p l g) s = .next u ∧ Did t [] s u)) ∧
  (∀ (s : State) (t k : Nat), s.Live →
  ((s.link k).pending = true → (s.link k).acked = false → (s.link k).actCycle ≤ s.tether.cycle → (s.link k).state ≠ .free →
    ∃ u, exec (.tmapUnacknowledged t k) s = .next u ∧ Did t [.routes, .dict, .lanes] s u ∧ (u.link k).state = .robust ∧
      (u.link k).pending = true ∧ (u.link k).acked = false ∧ (u.link k).pendingDn = (s.link k).pendingDn ∧
      (u.link k).versionDn = (s.link k).versionDn ∧ Counted [keyOf 0x3220 0x0B] s u ∧ ∀ j, j ≠ k → u.link j = s.link j) ∧
  ((s.link k).pending = false → ∃ u, exec (.tmapUnacknowledged t k) s = .next u ∧ Did t [] s u))

/-- R131, R132, R238, R239, R241, R243, R245, R253: at the end of a restart's mute the lane may receive again; a frame that has lasted
its symbols leaves the line, one with data with its fragment awaiting its acknowledgement from that slot on; and a grant whose node
does not answer lapses and is counted. Before its time, or where the node is heard, nothing happens. A lane that owes its beacon
sends it next, in its beacon profile, whatever else waits; a lane that may not start a frame, and a G lane outside a contention
slot, puts nothing on the line; BEACON_SEND starts the beacon of the one lane that owes it where the lane is idle, and marks it as
due where it is busy (log 24). -/
def Obligations.LaneTransmissionComplete : Prop :=
  (∀ (s : State) (t p l : Nat), s.Live → s.hasPort p = true → l < 4 →
  (∀ n, (s.lane p l).tx.restart = some n → n ≤ max s.tsc t / 40000 → (s.lane p l).rx.state = .off →
    ∃ u, exec (.laneRestartEnd t p l) s = .next u ∧ Did t [.lanes] s u ∧
      (u.lane p l).tx = { (s.lane p l).tx with restart := none } ∧
      (s.laneKind p l ≠ 0 → s.running p = true → (s.port p).adding.contains (s.laneBand p l) = false →
        u.laneState p l ≠ 1 ∧
        (u.lane p l).rx = { (s.lane p l).rx with state := .search, reelAt := max s.tsc t, searchAt := max s.tsc t }) ∧
      (s.laneKind p l = 0 ∨ s.running p = false → (u.lane p l).rx = (s.lane p l).rx) ∧
      ∀ q m, m < 4 → ¬(q = p ∧ m = l) → u.lane q m = s.lane q m) ∧
  (∀ n, (s.lane p l).tx.restart = some n → max s.tsc t / 40000 < n → ∃ u, exec (.laneRestartEnd t p l) s = .next u ∧ Did t [] s u) ∧
  (∀ f, (s.lane p l).tx.onLine = some f → f.start + s.lineNs p l f ≤ max s.tsc t →
    (f.kind = .data →
      ∃ u, exec (.laneFrameEnd t p l) s = .next u ∧ Did t [.lanes, .spools] s u ∧ (u.lane p l).tx.onLine = none ∧
        (u.lane p l).rx = (s.lane p l).rx ∧ (∀ q m, m < 4 → ¬(q = p ∧ m = l) → u.lane q m = s.lane q m) ∧
        (u.spool f.spool).queue = (s.spool f.spool).queue ∧ (∀ k, k ≠ f.spool → u.spool k = s.spool k) ∧
        (∀ y ∈ (u.spool f.spool).flight, y.seq = f.mac.seq → y.ended = some s.tether.slotCount) ∧
        (u.spool f.spool).flight.map InFlight.seq = (s.spool f.spool).flight.map InFlight.seq) ∧
    (f.kind ≠ .data → f.kind ≠ .broadcast →
      ∃ u, exec (.laneFrameEnd t p l) s = .next u ∧ Did t [.lanes] s u ∧ (u.lane p l).tx.onLine = none ∧
        (u.lane p l).rx = (s.lane p l).rx ∧ (∀ q m, m < 4 → ¬(q = p ∧ m = l) → u.lane q m = s.lane q m)) ∧
    (f.kind = .broadcast →
      ∃ u, exec (.laneFrameEnd t p l) s = .next u ∧ Did t [.out, .lanes, .spools, .pages] s u ∧ (u.lane p l).tx.onLine = none ∧
        (u.lane p l).rx = (s.lane p l).rx ∧ (∀ q m, m < 4 → ¬(q = p ∧ m = l) → u.lane q m = s.lane q m))) ∧
  (∀ f, (s.lane p l).tx.onLine = some f → max s.tsc t < f.start + s.lineNs p l f →
    ∃ u, exec (.laneFrameEnd t p l) s = .next u ∧ Did t [] s u) ∧
  (∀ e n d, (s.lane p l).tx.grant = some (e, n, d) →
    (d ≤ max s.tsc t → s.grantHeard p l d = false →
      ∃ u, exec (.grantLapse t p l) s = .next u ∧ Did t [.lanes, .dict] s u ∧ (u.lane p l).tx = { (s.lane p l).tx with grant := none } ∧
        (u.lane p l).rx = (s.lane p l).rx ∧ (∀ q m, m < 4 → ¬(q = p ∧ m = l) → u.lane q m = s.lane q m) ∧
        Counted [keyOf 0x3190 3] s u) ∧
    (max s.tsc t < d ∨ s.grantHeard p l d = true → ∃ u, exec (.grantLapse t p l) s = .next u ∧ Did t [] s u))) ∧
  (∀ (s : State) (t p l n : Nat), s.Live → l < 4 →
  nsymFor ((s.upTo t).capacities p l (s.beaconMode p l) (s.maxNsym (s.beaconProfile p l))) ((s.upTo t).beaconBody p l).length = some n →
  (s.hasPort p = true → s.isNativeData p l = true → s.laneState p l = 2 → (s.lane p l).tx.beaconDue = true →
    ∃ u, exec (.laneFrameStart t p l) s = .next u ∧ Did t [.out, .dict, .hier, .lanes] s u ∧ (u.lane p l).tx.beaconDue = false ∧
      (u.lane p l).tx.beaconCycle = some (s.upTo t).cycleNow ∧ u.val 0x3190 1 = min 0xFFFFFFFF (s.val 0x3190 1 + 1) ∧
      (∀ k, k ≠ keyOf 0x3190 1 → k ≠ keyOf 0x28F0 4 → u.raw k = s.raw k) ∧
      (∃ f x y, (u.lane p l).tx.onLine = some f ∧ f.kind = .beacon ∧ f.nsym = n ∧ f.prof = s.beaconProfile p l ∧ f.start = max s.tsc t ∧
        f.mac.type = 3 ∧ f.mac.body = (s.upTo t).beaconBody p l ∧ u.out = .lineFrame p l f.mac f.prof n :: .lineSymbols p l 0 x y :: s.out) ∧
      ∀ q m, m < 4 → ¬(q = p ∧ m = l) → u.lane q m = s.lane q m) ∧
  (s.laneState p l ≠ 2 → ∃ u, exec (.laneFrameStart t p l) s = .next u ∧ Did t [] s u) ∧
  (s.laneKind p l = 3 → (s.upTo t).slotType (s.upTo t).slotNow ≠ 4 →
    ∃ u, exec (.laneFrameStart t p l) s = .next u ∧ Did t [] s u) ∧
  ((s.upTo t).slotNow = s.beaconSlot → s.beaconCycle (s.upTo t).cycleNow = true → (s.upTo t).slotAhead 0 + s.guardNs ≤ max s.tsc t →
    s.allLanes.filter (fun pl => (s.upTo t).beaconOwed pl.1 pl.2) = [(p, l)] →
    (s.laneState p l = 2 → ∃ u, exec (.beaconSend t) s = .next u ∧ Did t [.out, .dict, .hier, .lanes] s u ∧
      (u.lane p l).tx.beaconCycle = some (s.upTo t).cycleNow ∧
      (∃ f, (u.lane p l).tx.onLine = some f ∧ f.kind = .beacon ∧ f.start = max s.tsc t ∧ f.mac.body = (s.upTo t).beaconBody p l) ∧
      ∀ q m, m < 4 → ¬(q = p ∧ m = l) → u.lane q m = s.lane q m) ∧
    (s.laneState p l ≠ 2 → ∃ u, exec (.beaconSend t) s = .next u ∧ Did t [.lanes] s u ∧
      u.lane p l = { s.lane p l with tx := { (s.lane p l).tx with beaconDue := true } } ∧
      ∀ q m, m < 4 → ¬(q = p ∧ m = l) → u.lane q m = s.lane q m)) ∧
  ((s.upTo t).slotNow ≠ s.beaconSlot → ∃ u, exec (.beaconSend t) s = .next u ∧ Did t [] s u))

/-- R253, R256: the start of a spool's packet that its frame holds whole puts it on the line with the spool's next sequence number and
asks for an acknowledgement; it leaves the queue and is in flight, not yet ended. An idle lane that owes neither beacon nor
acknowledgement starts the frame that its scheduling pass chooses. -/
def Obligations.DataFrameStarts : Prop :=
  (∀ (s : State) (p l k pos n nsym : Nat) (q : QueueItem) (qs : List QueueItem) (pk : Packet), l < 4 →
  s.Canonical → (s.spool k).queue = q :: qs → s.selected (k / 4) = some pos → s.packet q.handle = some pk →
  s.nsymNow p l (k % 4) (s.txMode (s.route pos)) n = some nsym → q.size = 0 → q.seq = none → pk.body.length ≤ q.offset + n →
  (∃ f, ((s.startData p l k n).lane p l).tx.onLine = some f ∧ f.kind = .data ∧ f.nsym = nsym ∧ f.start = s.tsc ∧ f.spool = k ∧
    f.mac.type = 1 ∧ f.mac.ackReq = true ∧ f.mac.more = false ∧ f.mac.dst = (s.route pos).next ∧ f.mac.fin = k / 4 ∧
    f.mac.seq = (s.spool k).txSeq ∧ f.mac.body = (pk.body.drop q.offset).take n) ∧
  ((s.startData p l k n).spool k).queue = qs ∧ ((s.startData p l k n).spool k).txSeq = ((s.spool k).txSeq + 1) % 256 ∧
  ((s.startData p l k n).spool k).flight.map (fun y => (y.seq, y.ended, y.item.handle)) =
    (s.spool k).flight.map (fun y => (y.seq, y.ended, y.item.handle)) ++ [((s.spool k).txSeq, none, q.handle)]) ∧
  (∀ (s r : State) (t p l k n : Nat), s.Live → s.hasPort p = true → l < 4 → s.isNativeData p l = true → s.laneState p l = 2 →
  (s.lane p l).tx.beaconDue = false → (s.upTo t).startAck p l = none →
  (((s.upTo t).dropTooLong p l).schedule p l = (.spool k n, r) → exec (.laneFrameStart t p l) s = .next (r.startData p l k n)) ∧
  (((s.upTo t).dropTooLong p l).schedule p l = (.nothing, r) → exec (.laneFrameStart t p l) s = .next r))

/-- R158, R160, R161: a detection at or above the threshold counts and takes the next frame number; in SEARCH, with a frequency estimate
within 110 ppm, its frame becomes current and its header is decoded; beyond that it counts as out of range and the path stays in
SEARCH. Below the threshold there is no detection, nor on a path that is off. (Stated for one detection at a time.) -/
def Obligations.DetectionCompletes : Prop := ∀ (s : State) (t p l : Nat) (ds : List Detection), s.Live → s.laneThere p l = true →
  (∀ d, ds.filter (fun e => decide (signed 8 (s.lval p l 0x2010 1) ≤ e.q)) = [d] → (s.lane p l).rx.state = .search →
    ∃ u, exec (.preambleDetection t p l ds) s = .next u ∧ Did t [.lanes, .dict] s u ∧ (u.lane p l).tx = (s.lane p l).tx ∧
      (u.lane p l).rx.number = ((s.lane p l).rx.number + 1) % 65536 ∧ (u.lane p l).rx.slot = (s.lane p l).rx.slot ∧
      u.lval p l 0x2014 1 = min 0xFFFFFFFF (s.lval p l 0x2014 1 + 1) ∧
      (∀ q m, m < 4 → ¬(q = p ∧ m = l) → u.lane q m = s.lane q m) ∧
      (-440 ≤ afcOf d → afcOf d ≤ 440 → (u.lane p l).rx.state = .header ∧ u.lval p l 0x2014 3 = s.lval p l 0x2014 3 ∧
        ∃ c, (u.lane p l).rx.cur = some c ∧ c.num = ((s.lane p l).rx.number + 1) % 65536 ∧ c.l = d.l ∧ c.preambleEnd = d.preambleEnd ∧
          c.afc = afcOf d ∧ c.detected = max s.tsc t ∧ c.headerOk = false ∧ c.outcome = 0) ∧
      (440 < afcOf d ∨ afcOf d < -440 → (u.lane p l).rx.state = .search ∧ (u.lane p l).rx.cur = (s.lane p l).rx.cur ∧
        u.lval p l 0x2014 3 = min 0xFFFFFFFF (s.lval p l 0x2014 3 + 1))) ∧
  ((∀ d ∈ ds, d.q < signed 8 (s.lval p l 0x2010 1)) → ∃ u, exec (.preambleDetection t p l ds) s = .next u ∧ Did t [] s u) ∧
  ((s.lane p l).rx.state = .off → ∃ u, exec (.preambleDetection t p l ds) s = .next u ∧ Did t [] s u)

/-- R163, R164, R167, R168, R169, R170, R172, R213, R219: a header that passes its check and can be served leads to the payload, one
that fails or is refused to REARM, each counted, and REARM back to SEARCH one symbol after the header and not before; the last
symbol gives the payload to the coding pool, or reports the frame at once where its tone maps are missing (stated with an empty
candidate slot). A decoded payload is reported with its acquisition and disturbance words, marked as decoded only where every
codeword and the CRC-32 are good; a pair whose weaker frame has ended goes to the replay path while its first sample is no more than
60 ms old, and is given up otherwise, counted, its frame reported undecoded where its header had passed; before that frame's end
nothing happens. -/
def Obligations.FrameReceptionCompletes : Prop :=
  (∀ (s : State) (t p l : Nat) (c : RxCur) (h g : Header), s.Live → s.laneThere p l = true → (s.lane p l).rx.slot = none →
  ((s.lane p l).rx.state = .header → (s.lane p l).rx.cur = some c → g = s.headerOf p l c h →
    (g.crcOk = true → (s.upTo t).headerServed p l g = true →
      ∃ u, exec (.headerCheckResult t p l false h) s = .next u ∧ Did t [.lanes, .dict] s u ∧ (u.lane p l).rx.state = .payload ∧
        (u.lane p l).rx.cur = some (s.passed p l c g) ∧ (u.lane p l).tx = (s.lane p l).tx ∧ Counted [laneKey p l 0x2014 5] s u) ∧
    (g.crcOk = false → ∃ u, exec (.headerCheckResult t p l false h) s = .next u ∧ Did t [.lanes, .dict] s u ∧
      (u.lane p l).rx.state = .rearm ∧ (u.lane p l).rx.rearmAt = c.preambleEnd + s.rxHeaderNs p l ∧ (u.lane p l).tx = (s.lane p l).tx ∧
      Counted [laneKey p l 0x2014 2] s u) ∧
    (g.crcOk = true → (s.upTo t).headerServed p l g = false →
      ∃ u, exec (.headerCheckResult t p l false h) s = .next u ∧ Did t [.lanes, .dict] s u ∧ (u.lane p l).rx.state = .rearm ∧
        (u.lane p l).rx.rearmAt = c.preambleEnd + s.rxHeaderNs p l ∧ Counted [laneKey p l 0x2014 4] s u)) ∧
  ((s.lane p l).rx.state = .rearm → (s.lane p l).rx.rearmAt + s.rxSymbolNs p l ≤ max s.tsc t →
    ∃ u, exec (.rearmEnd t p l) s = .next u ∧ Did t [.lanes] s u ∧ (u.lane p l).rx.state = .search ∧ (u.lane p l).tx = (s.lane p l).tx) ∧
  ((s.lane p l).rx.state = .rearm → max s.tsc t < (s.lane p l).rx.rearmAt + s.rxSymbolNs p l →
    ∃ u, exec (.rearmEnd t p l) s = .next u ∧ Did t [] s u) ∧
  ((s.lane p l).rx.state = .payload → (s.lane p l).rx.cur = some c →
    (s.hasMaps p l c.head = true → ∃ u, exec (.lastSymbolReceived t p l) s = .next u ∧ Did t [.lanes] s u ∧
      (u.lane p l).rx.state = .search ∧ (u.lane p l).rx.cur = none ∧
      (u.lane p l).rx.decoding = (s.lane p l).rx.decoding ++ [{ c with ended := some (max s.tsc t) }] ∧
      (u.lane p l).rx.pairs = (s.lane p l).rx.pairs) ∧
    (s.hasMaps p l c.head = false → ∃ u, exec (.lastSymbolReceived t p l) s = .next u ∧ Did t [.lanes, .dict, .out] s u ∧
      (u.lane p l).rx.state = .search ∧ (u.lane p l).rx.decoding = (s.lane p l).rx.decoding ∧
      u.out = .report p l (acqWord { c with ended := some (max s.tsc t) } false) (distWord c) :: s.out ∧
      Counted [laneKey p l 0x2014 0x32] s u))) ∧
  (∀ (s : State) (t p l : Nat) (c : RxCur) (r d : DecodeResult) (q : ReplayPair), s.Live → s.laneThere p l = true →
  ((s.lane p l).rx.decoding = [c] → (s.lane p l).rx.pairs = [] → c.steps = 0 → r.snr = [] → d = s.decodeOf p l c r →
    ∃ u, exec (.decodeResult t p l c.num r) s = .next u ∧ Did t [.lanes, .dict, .out] s u ∧ (u.lane p l).rx.decoding = [] ∧
      (u.lane p l).rx.state = (s.lane p l).rx.state ∧ (u.lane p l).tx = (s.lane p l).tx ∧
      u.out = .report p l (acqWord c (d.failed == 0 && d.crcOk && d.returned.isNone)) (distWord c) :: s.out ∧
      u.lval p l 0x2014 0x30 = min 0xFFFFFFFF (s.lval p l 0x2014 0x30 + d.good) ∧
      u.lval p l 0x2014 0x31 = min 0xFFFFFFFF (s.lval p l 0x2014 0x31 + d.failed)) ∧
  (∀ a ms e, (s.lane p l).rx.pairs = [q] → q.phase = 1 → q.reverse = false →
    (s.weakEnd p l q ≤ max s.tsc t → (s.upTo t).replayFresh p l q.weak = true → q.weak.headerOk = true ∨ farOff a = false →
      ∃ u, exec (.dualCaptureReplay t p ⟨l, a, ms, e⟩) s = .next u ∧ Did t [.lanes, .dict] s u ∧
        (u.lane p l).rx.pairs = [{ q with phase := 2, weak := s.replayed p l q.weak a ms e }] ∧ Counted [laneKey p l 0x2014 0x0A] s u) ∧
    (s.weakEnd p l q ≤ max s.tsc t → (s.upTo t).replayFresh p l q.weak = false →
      ∃ u, exec (.dualCaptureReplay t p ⟨l, a, ms, e⟩) s = .next u ∧ Did t [.lanes, .dict, .out] s u ∧ (u.lane p l).rx.pairs = [] ∧
        u.out = (if q.weak.headerOk = true then [.report p l (acqWord { q.weak with outcome := 4 } false) (distWord q.weak)] else []) ++ s.out ∧
        Counted [laneKey p l 0x2014 0x0F] s u) ∧
    (max s.tsc t < s.weakEnd p l q → ∃ u, exec (.dualCaptureReplay t p ⟨l, a, ms, e⟩) s = .next u ∧ Did t [] s u)))

/-- R177, R187, R190, R191, R194, R195, R196, R197: a symbol of the main path adapts the lane's canceller and puts the frame as judged
(R187-R193) in the place of the current one. A frame whose symbol neither exceeds the blanking threshold, nor steps, nor meets a
hold or a current limit keeps its tallies; one whose step reaches the threshold is erased and counted in them (stated where the
symbol before did not come near it). A noise-floor window adds its values to its slot's, or an impulse where it was blanked, and
counts; one that does not qualify does nothing. After 64 cycles, and not before, the floors are published and begin anew. -/
def Obligations.SymbolAndFloorComplete : Prop :=
  (∀ (s : State) (t p l : Nat) (c : RxCur) (y : RxSymbol), s.Live → s.laneThere p l = true → y.replay = false →
  (s.lane p l).rx.state = .header ∨ (s.lane p l).rx.state = .payload → (s.lane p l).rx.cur = some c →
  ∃ u, exec (.rxSymbolEnd t p l y) s = .next u ∧ Did t [.dict, .echoes, .lanes] s u ∧
    (u.lane p l).rx = { (s.lane p l).rx with cur := some (s.judge p l c y (s.cancelEcho p l y).1).frame } ∧
    (u.lane p l).echo = (s.cancelEcho p l y).2 ∧ (u.lane p l).tx = (s.lane p l).tx ∧
    ∀ q m, m < 4 → ¬(q = p ∧ m = l) → u.lane q m = s.lane q m) ∧
  (∀ (s : State) (p l : Nat) (c : RxCur) (y : RxSymbol) (body : List Cplx),
  (c.track.use.threshold = 0 → stepReaches c.track.estimates y.pilots (500 * c.track.use.step) = false →
    (s.echo p (s.laneBand p l)).heldDuring (c.preambleEnd + y.index * s.rxSymbolNs p l)
      (c.preambleEnd + y.index * s.rxSymbolNs p l + s.rxSymbolNs p l) y.sending = false →
    (s.port p).limitedIn (c.preambleEnd + y.index * s.rxSymbolNs p l) (c.preambleEnd + y.index * s.rxSymbolNs p l + s.rxSymbolNs p l) = false →
    distWord (s.judge p l c y body).frame = distWord c ∧ (s.judge p l c y body).step = false) ∧
  (stepReaches c.track.estimates y.pilots (500 * c.track.use.step) = true → s.laneKind p l ≠ 3 → y.pilots ≠ [] → c.track.near = false →
    (s.judge p l c y body).step = true ∧ (s.judge p l c y body).frame.steps = c.steps + 1 ∧
    (s.judge p l c y body).frame.erased = c.erased + 1 ∧ (s.judge p l c y body).frame.marked = c.marked)) ∧
  (∀ (s : State) (t p l : Nat) (w : FloorWindow), s.Live →
  ((s.upTo t).floorOpen p l w = true →
    ((slidingBlank (s.rxSettings p l) (s.laneKind p l) w.lead w.body w.tail).1.any id = false →
      ∃ u, exec (.noiseFloorWindow t p l w) s = .next u ∧ Did t [.lanes, .dict] s u ∧
        (u.lane p l).rx.floor = addFloor (s.lane p l).rx.floor (s.slotAtTime w.start) (s.floorValues p l w) ∧
        (u.lane p l).rx.impulses = (s.lane p l).rx.impulses ∧ (u.lane p l).tx = (s.lane p l).tx ∧
        u.lval p l 0x2014 0x2A = min 0xFFFFFFFF (s.lval p l 0x2014 0x2A + 1) ∧ u.lval p l 0x2014 0x2B = s.lval p l 0x2014 0x2B) ∧
    ((slidingBlank (s.rxSettings p l) (s.laneKind p l) w.lead w.body w.tail).1.any id = true →
      ∃ u, exec (.noiseFloorWindow t p l w) s = .next u ∧ Did t [.lanes, .dict] s u ∧
        (u.lane p l).rx.floor = (s.lane p l).rx.floor ∧ (u.lane p l).tx = (s.lane p l).tx ∧
        (u.lane p l).rx.impulses = Table.upd 0 (s.lane p l).rx.impulses (s.slotAtTime w.start) (fun n => min 65535 (n + 1)) ∧
        u.lval p l 0x2014 0x2B = min 0xFFFFFFFF (s.lval p l 0x2014 0x2B + 1) ∧ u.lval p l 0x2014 0x2A = s.lval p l 0x2014 0x2A)) ∧
  ((s.upTo t).floorOpen p l w = false → ∃ u, exec (.noiseFloorWindow t p l w) s = .next u ∧ Did t [] s u)) ∧
  (∀ (s : State) (t p l : Nat), s.Live → s.laneThere p l = true → (s.lane p l).rx.state ≠ .off →
  (64 ≤ (s.lane p l).rx.cycles →
    ∃ u, exec (.noiseFloorPublish t p l) s = .next u ∧ Did t [.dict, .lanes] s u ∧
      (u.lane p l).rx = { (s.lane p l).rx with floor := [], impulses := [], cycles := 0 } ∧ (u.lane p l).tx = (s.lane p l).tx ∧
      u.lval p l 0x2018 0x19 = max s.tsc t % 2 ^ 64 ∧
      (∀ n, n < 24 → u.raw (laneKey p l 0x2018 (n + 1)) = floorSlot (s.lane p l).rx.floor (s.floorGroups p l) n) ∧
      ∀ q m, m < 4 → ¬(q = p ∧ m = l) → u.lane q m = s.lane q m) ∧
  ((s.lane p l).rx.cycles < 64 → ∃ u, exec (.noiseFloorPublish t p l) s = .next u ∧ Did t [] s u))

/-- R43, R44, R46, R48, R50, R51: GO copies a well-formed request, which is accepted with the role of that moment; a malformed one is
answered PROTOCOL at its arrival (log 21); a GO while BUSY marks OVERLAP alone; a word without GO sets vector and interrupt enable
alone. A ring peer's request joins the queue where its peer is known, has a role and its tag passes, it is well formed and the queue
has room, and is dropped and counted where one of the first three does not hold. -/
def Obligations.RequestsArrive : Prop := ∀ (s : State) (t : Nat), s.Live →
  (∀ f w, s.open f = true → bit w.toNat 31 = true → (s.page f).busy = false → 16 ≤ (s.page f).reqLen → (s.page f).reqLen ≤ 1536 →
    (State.wellFormed (requestOf f (s.roleOf f) 0 (Table.getBytes (s.page f).reqBuf 0 (s.page f).reqLen))
        (Table.getBytes (s.page f).reqBuf 0 (s.page f).reqLen) = true →
      ∃ u, exec (.mbxGo t f w) s = .next u ∧ Did t [.pages] s u ∧ (∀ g, g ≠ f → u.page g = s.page g) ∧
        u.page f = { s.page f with busy := true, vector := bits w.toNat 15 8, irqEn := bit w.toNat 0
                                   req := some (requestOf f (s.roleOf f) 0 (Table.getBytes (s.page f).reqBuf 0 (s.page f).reqLen)) }) ∧
    ((s.page f).discard = false →
      State.wellFormed (requestOf f (s.roleOf f) 0 (Table.getBytes (s.page f).reqBuf 0 (s.page f).reqLen))
        (Table.getBytes (s.page f).reqBuf 0 (s.page f).reqLen) = false →
      ∃ u, exec (.mbxGo t f w) s = .next u ∧ Did t [.out, .pages] s u ∧ (∀ g, g ≠ f → u.page g = s.page g) ∧
        (u.page f).busy = false ∧ (u.page f).done = true ∧ (u.page f).req = (s.page f).req ∧
        beAt (u.page f).rspBuf 16 2 = 0x0013)) ∧
  (∀ f w, s.open f = true → bit w.toNat 31 = true → (s.page f).busy = true →
    ∃ u, exec (.mbxGo t f w) s = .next u ∧ Did t [.pages] s u ∧ (∀ g, g ≠ f → u.page g = s.page g) ∧
      u.page f = { s.page f with overlap := true, vector := bits w.toNat 15 8, irqEn := bit w.toNat 0 }) ∧
  (∀ f w, s.open f = true → bit w.toNat 31 = false →
    ∃ u, exec (.mbxGo t f w) s = .next u ∧ Did t [.pages] s u ∧ (∀ g, g ≠ f → u.page g = s.page g) ∧
      u.page f = { s.page f with vector := bits w.toNat 15 8, irqEn := bit w.toNat 0 }) ∧
  (∀ f w, s.open f = false → ∃ u, exec (.mbxGo t f w) s = .next u ∧ Did t [] s u) ∧
  (∀ mac msg, s.ringUp = true → s.managerUp = true → beAt msg 1 1 ≠ 6 →
    (∀ i, s.peerSlot mac = some i → s.val 0x1602 (i + 1) ≠ 0 → s.tagPasses i msg = true → s.mgr.ringQueue.length < 32 →
      State.wellFormed (requestOf (0x100 + i) (s.val 0x1602 (i + 1)) mac msg) msg = true →
      ∃ u, exec (.ringRequestArrival t mac msg) s = .next u ∧ Did t [.mgr] s u ∧
        u.mgr.ringQueue = s.mgr.ringQueue ++ [requestOf (0x100 + i) (s.val 0x1602 (i + 1)) mac msg] ∧
        u.mgr.lastSeq = (if msgTagged msg = true then Table.put 0 s.mgr.lastSeq i (msgSeq msg) else s.mgr.lastSeq) ∧
        u.mgr.staging = s.mgr.staging ∧ u.mgr.turn = s.mgr.turn) ∧
    (∀ i, s.peerSlot mac = some i → s.val 0x1602 (i + 1) = 0 ∨ s.tagPasses i msg = false →
      ∃ u, exec (.ringRequestArrival t mac msg) s = .next u ∧ Did t [.dict] s u ∧ Counted [keyOf 0x1603 1] s u) ∧
    (s.peerSlot mac = none →
      ∃ u, exec (.ringRequestArrival t mac msg) s = .next u ∧ Did t [.dict] s u ∧ Counted [keyOf 0x1603 1] s u))

/-- R30, R39, R42, R43, R47, R49, R53, R61, R66: a READ is answered with the entry's value: what is staged in the staged view, what was
written in this beat, else what is committed; what is measured and stated nowhere is free (log 41); a WINDOW_READ with its records,
a DIGEST_QUERY with epoch and digests; a READ, a WINDOW_READ or a DIGEST_QUERY that fails a test with the test's code and no value
(log 55). -/
def Obligations.ReadRequestsServed : Prop := ∀ (s : State) (t n : Nat) (r : Request), s.Live →
  (s.Mailbox .read n r → s.readCode r (beAt r.body 0 2) (beAt r.body 2 1) (s.entry (beAt r.body 0 2) (beAt r.body 2 1)) ≠ 0 →
    ∃ u, exec (.read t) s = .next u ∧ Did t [.out, .mgr, .pages] s u ∧
      s.Answered u n (s.response r (s.readCode r (beAt r.body 0 2) (beAt r.body 2 1) (s.entry (beAt r.body 0 2) (beAt r.body 2 1)))
        [0, 0, 0, 0])) ∧
  (∀ d, s.Mailbox .read n r → s.entry (beAt r.body 0 2) (beAt r.body 2 1) = some d →
    s.readCode r (beAt r.body 0 2) (beAt r.body 2 1) (some d) = 0 →
    (∀ v, ((s.upTo t).takeNext n).computed (beAt r.body 0 2) (beAt r.body 2 1) = some v →
      ∃ u, exec (.read t) s = .next u ∧ Did t [.out, .mgr, .pages] s u ∧
        s.Answered u n (s.response r 0 (toBE 1 (tyCode d.ty) ++ [0] ++ toBE 2 v.length ++ v))) ∧
    (((s.upTo t).takeNext n).computed (beAt r.body 0 2) (beAt r.body 2 1) = none →
      (measured (beAt r.body 0 2) (beAt r.body 2 1) = true → keyOf (beAt r.body 0 2) (beAt r.body 2 1) ≠ keyOf 0x1200 0x0C →
        ∃ u, exec (.read t) s = .next u ∧ Did t [.free, .out, .mgr, .pages] s u ∧
        s.Answered u n (s.response r 0 (toBE 1 (tyCode d.ty) ++ [0] ++ toBE 2 4 ++ toBE 4 (finiteF32 (Config.freeValue s.free))))) ∧
      (∀ v, measured (beAt r.body 0 2) (beAt r.body 2 1) = false → keyOf (beAt r.body 0 2) (beAt r.body 2 1) ≠ keyOf 0x1200 0x0C →
        v = (if shows d.access = true then s.committed (keyOf (beAt r.body 0 2) (beAt r.body 2 1)) else
          match (if r.staged = true ∧ d.access = .rws then Table.find s.mgr.staging (keyOf (beAt r.body 0 2) (beAt r.body 2 1)) else none) with
          | some x => x
          | none => (Table.find s.written (keyOf (beAt r.body 0 2) (beAt r.body 2 1))).getD
              (s.committed (keyOf (beAt r.body 0 2) (beAt r.body 2 1)))) →
        ∃ u, exec (.read t) s = .next u ∧ Did t [.out, .mgr, .pages] s u ∧
          s.Answered u n (s.response r 0 (toBE 1 (tyCode d.ty) ++ [0] ++ toBE 2 v.length ++ v))))) ∧
  (s.Mailbox .windowRead n r → s.windowCode r false = 0 →
    (∀ i < beAt r.body 2 2, s.positionCode (beAt r.body 0 1) (beAt r.body 4 4 + i) = 0) →
    ∃ u, exec (.windowRead t) s = .next u ∧ Did t [.out, .mgr, .pages] s u ∧
      s.Answered u n (s.response r 0 (toBE 2 (beAt r.body 2 2) ++ toBE 2 (windowSize (beAt r.body 0 1)) ++
        (s.upTo t).windowRecords (beAt r.body 0 1) (beAt r.body 4 4) (beAt r.body 2 2)))) ∧
  (s.Mailbox .windowRead n r → s.windowCode r false ≠ 0 →
    ∃ u, exec (.windowRead t) s = .next u ∧ Did t [.out, .mgr, .pages] s u ∧
      s.Answered u n (s.response r (s.windowCode r false) (toBE 2 0 ++ toBE 2 (windowSize (beAt r.body 0 1))))) ∧
  (s.Mailbox .digestQuery n r → r.role ≠ 0 → s.epochDiffers r = true →
    ∃ u, exec (.digestQuery t) s = .next u ∧ Did t [.out, .mgr, .pages] s u ∧ s.Answered u n (s.response r 0x0012 [])) ∧
  (s.Mailbox .digestQuery n r → r.role ≠ 0 → s.epochDiffers r = false →
    ∃ u, exec (.digestQuery t) s = .next u ∧ Did t [.out, .mgr, .pages] s u ∧ s.Answered u n (s.response r 0 s.announceBody)) ∧
  (s.Mailbox .digestQuery n r → r.role = 0 →
    ∃ u, exec (.digestQuery t) s = .next u ∧ Did t [.out, .mgr, .pages] s u ∧ s.Answered u n (s.response r 0x0007 []))

/-- R39, R41, R53, R57, R66: a WRITE that passes every test takes its entry's right: rw and rwq wait for the boundary, rwq with an epoch
to count (a bundle with one), rws is staged under its owner; a BUNDLE does so for all its records or for none; the records of a
WINDOW_WRITE wait for the boundary. What fails a test is answered with its code and writes nothing. -/
def Obligations.WriteRequestsServed : Prop := ∀ (s : State) (t n : Nat) (r : Request) (w : WriteRec), s.Live →
  (s.Mailbox .write n r → w = writeRecOf r.body → ((s.upTo t).takeNext n).writeTests r r.recs = none →
    (s.right w = .rw → ∃ u, exec (.write t) s = .next u ∧ Did t [.out, .written, .mgr, .pages] s u ∧
      u.written = Table.insert s.written w.key w.value ∧ u.mgr = { s.mgr with turn := (n + 1) % 65 } ∧
      s.Answered u n (s.response r 0 (slice r.body 0 3 ++ [0]))) ∧
    (s.right w = .rwq → ∃ u, exec (.write t) s = .next u ∧ Did t [.out, .written, .mgr, .pages] s u ∧
      u.written = Table.insert s.written w.key w.value ∧ u.mgr = { s.mgr with turn := (n + 1) % 65, bumps := s.mgr.bumps + 1 } ∧
      s.Answered u n (s.response r 0 (slice r.body 0 3 ++ [0]))) ∧
    (s.right w = .rws → ∃ u, exec (.write t) s = .next u ∧ Did t [.out, .mgr, .pages] s u ∧
      u.mgr = { s.mgr with turn := (n + 1) % 65, staging := Table.insert s.mgr.staging w.key w.value, stagingState := 1, owner := n
                           stagedDigests := [] } ∧
      s.Answered u n (s.response r 0 (slice r.body 0 3 ++ [0])))) ∧
  (∀ k c, s.Mailbox .write n r → ((s.upTo t).takeNext n).writeTests r r.recs = some (k, c) →
    ∃ u, exec (.write t) s = .next u ∧ Did t [.out, .dict, .mgr, .pages] s u ∧ u.mgr = { s.mgr with turn := (n + 1) % 65 } ∧
      (∀ j, j ≠ keyOf 0x1100 0x51 → u.raw j = s.raw j) ∧ s.Answered u n (s.response r c (slice r.body 0 3 ++ [0]))) ∧
  (s.Mailbox .bundle n r → ((s.upTo t).takeNext n).writeTests r r.recs = none →
    ((∀ x ∈ r.recs, s.right x = .rw ∨ s.right x = .rwq) → ∃ u, exec (.bundle t) s = .next u ∧
      Did t [.out, .written, .mgr, .pages] s u ∧ u.written = r.recs.foldl (fun a x => Table.insert a x.key x.value) s.written ∧
      u.mgr = { s.mgr with turn := (n + 1) % 65, bumps := s.mgr.bumps + (if r.recs.any (fun x => s.right x == .rwq) = true then 1 else 0) } ∧
      s.Answered u n (s.response r 0 [0xFF, 0, 0, 0])) ∧
    ((∀ x ∈ r.recs, s.right x = .rws) → ∃ u, exec (.bundle t) s = .next u ∧ Did t [.out, .mgr, .pages] s u ∧
      u.mgr.staging = r.recs.foldl (fun a x => Table.insert a x.key x.value) s.mgr.staging ∧
      (r.recs ≠ [] → u.mgr.stagingState = 1 ∧ u.mgr.owner = n) ∧ s.Answered u n (s.response r 0 [0xFF, 0, 0, 0]))) ∧
  (∀ k c, s.Mailbox .bundle n r → ((s.upTo t).takeNext n).writeTests r r.recs = some (k, c) →
    ∃ u, exec (.bundle t) s = .next u ∧ Did t [.out, .dict, .mgr, .pages] s u ∧ u.mgr = { s.mgr with turn := (n + 1) % 65 } ∧
      (∀ j, j ≠ keyOf 0x1100 0x51 → u.raw j = s.raw j) ∧ s.Answered u n (s.response r c (toBE 1 k ++ [0, 0, 0]))) ∧
  (s.Mailbox .windowWrite n r → s.windowWriteCode r = 0 →
    ∃ u, exec (.windowWrite t) s = .next u ∧ Did t [.out, .mgr, .pages] s u ∧
      u.mgr = { s.mgr with turn := (n + 1) % 65, records := s.mgr.records ++ r.windowRecords } ∧
      s.Answered u n (s.response r 0 (toBE 2 (beAt r.body 2 2) ++ [0, 0]))) ∧
  (s.Mailbox .windowWrite n r → s.windowWriteCode r ≠ 0 →
    ∃ u, exec (.windowWrite t) s = .next u ∧ Did t [.out, .mgr, .pages] s u ∧ u.mgr = { s.mgr with turn := (n + 1) % 65 } ∧
      s.Answered u n (s.response r (s.windowWriteCode r) [0, 0, 0, 0]))

/-- R39, R78, R380, R397, R408, R424, R425, R443, R448: an accepted write of a command entry waits for its moment: a station time and
the actions for the next boundary, a reset for the end of its response. At its boundary each does what its chapter says: the beat of
the insertion (0 names this one), the clamp flags cleared, the image captured for a save and the bank's configuration invalid
meanwhile, the bank erased or its configuration alone, the block laid into its region, the substitution or the return of a ballast
unit requested, the latches cleared (log 20). -/
def Obligations.CommandEntriesComplete : Prop :=
  (∀ (s : State) (t n : Nat) (r : Request) (w : WriteRec), s.Live → w = writeRecOf r.body →
  ((s.upTo t).takeNext n).writeTests r r.recs = none →
  (∀ k c, (k, c) ∈ [(Service.insertAt, Instr.insertAtBeat t), (.clampClear, .clampFlagClear t), (.save, .saveConfiguration t),
      (.imageBlock, .imageBlock t), (.eraseBank, .eraseBank t), (.eraseConfig, .eraseConfigurationOnly t),
      (.substitute, .ballastSubstitute t), (.returnUnit, .ballastReturn t), (.tamperClear, .tamperLatchClear t)] → s.Mailbox k n r →
    ∃ u, exec c s = .next u ∧ Did t [.out, .mgr, .pages] s u ∧
      u.mgr = { s.mgr with turn := (n + 1) % 65, actions := s.mgr.actions ++ [⟨w.key, w.value, none⟩] } ∧
      s.Answered u n (s.response r 0 (slice r.body 0 3 ++ [0]))) ∧
  (∀ found, s.Mailbox .verify n r → ∃ u, exec (.verify t found) s = .next u ∧ Did t [.out, .mgr, .pages] s u ∧
    u.mgr = { s.mgr with turn := (n + 1) % 65, actions := s.mgr.actions ++ [⟨w.key, w.value, some found⟩] } ∧
    s.Answered u n (s.response r 0 (slice r.body 0 3 ++ [0]))) ∧
  (s.Mailbox .setTime n r → ∃ u, exec (.setStationTime t) s = .next u ∧ Did t [.out, .mgr, .time, .pages] s u ∧
    u.mgr = { s.mgr with turn := (n + 1) % 65 } ∧ u.time = { s.time with setTo := some (ofBE w.value) } ∧
    s.Answered u n (s.response r 0 (slice r.body 0 3 ++ [0]))) ∧
  (s.Mailbox .resetFull n r → ∃ u, exec (.managerFull t) s = .next u ∧ Did t [.out, .mgr, .pages, .rst] s u ∧
    u.mgr = { s.mgr with turn := (n + 1) % 65 } ∧ u.rst = { s.rst with requested := some ⟨4, 2⟩ } ∧
    s.Answered u n (s.response r 0 (slice r.body 0 3 ++ [0]))) ∧
  (s.Mailbox .resetWarm n r → s.rst.requested = none → ∃ u, exec (.managerWarm t) s = .next u ∧ Did t [.out, .mgr, .pages, .rst] s u ∧
    u.mgr = { s.mgr with turn := (n + 1) % 65 } ∧ u.rst = { s.rst with requested := some ⟨5, 3⟩ } ∧
    s.Answered u n (s.response r 0 (slice r.body 0 3 ++ [0])))) ∧
  (∀ (s : State) (x : PendingAction), s.dictOk = true →
  (x.key = keyOf 0x3800 7 → Frame [.ring] s (s.act x) ∧
    (s.act x).ring = { s.ring with insertBeat := some (if ofBE x.value = 0 then s.beat else ofBE x.value) }) ∧
  (x.key = keyOf 0x5001 2 → Frame [.sensing] s (s.act x) ∧ ∀ i, bit (s.act x).sensing.clampFlags i =
    (bit s.sensing.clampFlags i && !bit (ofBE x.value) i)) ∧
  (∀ b src, x.key = keyOf 0x6062 1 → ofBE x.value = 2 ^ 24 + src → src < 0x10000 →
    (s.sup.requests.any fun q => q.primary == src && q.reason == 2) = false → s.unitServing src = none → s.idleUnit src = some b →
    Frame [.sup] s (s.act x) ∧ (s.act x).unit b = { state := 2, reason := 3, primary := src } ∧
    (∀ a, a ≠ b → (s.act x).unit a = s.unit a) ∧ (s.act x).sup.requests = s.sup.requests ++ [⟨b, src, 3, s.tsc, false, false⟩]) ∧
  (∀ b src, x.key = keyOf 0x6062 1 → ofBE x.value = 2 * 2 ^ 24 + src → src < 0x10000 → s.unitServing src = some b →
    (s.unit b).state = 3 → (s.sup.requests.any fun q => q.unit == b) = false →
    Frame [.sup] s (s.act x) ∧ (s.act x).sup.requests = s.sup.requests ++ [⟨b, src, 3, s.tsc, true, false⟩]) ∧
  (x.key = keyOf 0x6081 2 → ofBE x.value < 256 → Frame [.dict] s (s.act x) ∧ (∀ k, k ≠ keyOf 0x6081 1 → (s.act x).raw k = s.raw k) ∧
    ∀ i < 8, bit ((s.act x).val 0x6081 1) i = (bit (s.val 0x6081 1) i && !bit (ofBE x.value) i)) ∧
  (x.key = keyOf 0x1100 0x50 → ofBE x.value = 1 ∨ ofBE x.value = 2 → Frame [.rst] s (s.act x) ∧
    (s.act x).rst.saving = some ⟨ofBE x.value, { release := s.rst.release, epoch := s.mgr.epoch, signer := 2, values := s.savedValues }⟩ ∧
    ((s.act x).bank (ofBE x.value)).config = none ∧ ((s.act x).bank (ofBE x.value)).cfgValid = false ∧
    ((s.act x).bank (ofBE x.value)).fwValid = (s.bank (ofBE x.value)).fwValid ∧
    (s.act x).bank (3 - ofBE x.value) = s.bank (3 - ofBE x.value)) ∧
  (∀ b, b = 1 ∨ b = 2 → x.key = keyOf 0x1100 0x54 → ofBE x.value = b * 256 + 1 → Frame [.dict, .rst] s (s.act x) ∧
    (s.act x).bank b = {} ∧ (s.act x).bank (3 - b) = s.bank (3 - b)) ∧
  (∀ b, b = 1 ∨ b = 2 → x.key = keyOf 0x1100 0x54 → ofBE x.value = b * 256 + 3 → Frame [.dict, .rst] s (s.act x) ∧
    ((s.act x).bank b).config = none ∧ ((s.act x).bank b).cfgValid = false ∧ ((s.act x).bank b).fwPresent = (s.bank b).fwPresent ∧
    ((s.act x).bank b).fwValid = (s.bank b).fwValid ∧ (s.act x).bank (3 - b) = s.bank (3 - b)) ∧
  (∀ b c, b = 1 ∨ b = 2 → x.key = keyOf 0x1100 0x54 → ofBE x.value = b * 256 + 2 → x.found = some c →
    Frame [.dict, .log, .rst] s (s.act x) ∧ ((s.act x).bank b).fwValid = c.firmware.any firmwareValid ∧
    ((s.act x).bank b).cfgValid = c.config.any (s.configValid (s.raw (keyOf 0x1100 0x58))) ∧ (s.act x).bank (3 - b) = s.bank (3 - b)) ∧
  (∀ b, b = 1 ∨ b = 2 → x.key = keyOf 0x1100 0x53 → beAt x.value 0 1 = b → x.value.drop 8 ≠ [] → Frame [.dict, .rst] s (s.act x) ∧
    Table.find ((s.act x).bank b).blocks (beAt x.value 1 1 * 2 ^ 32 + beAt x.value 4 4) = some (x.value.drop 8) ∧
    (s.act x).bank (3 - b) = s.bank (3 - b)))

/-- R54, R55: a commit that passes validation is scheduled and answered when its distribution is done; one whose validation fails is
refused with its code, recorded in 1400.09; one whose named beat has come before its distribution is done is refused and staging
stays open; an abort empties staging at once. At the activation boundary the staged values come into force, those of a block in
reset, idling or off for its release, the epoch counts and staging empties (stated at the boundary's own time, log 50). The current
beat is that of the service (log 21). -/
def Obligations.CommitsComplete : Prop := ∀ (s : State) (t n : Nat) (r : Request) (w : WriteRec), s.Live →
  (s.Mailbox .commit n r → r.recs = [w] → ((s.upTo t).takeNext n).writeTests r r.recs = none →
    (((s.upTo t).takeNext n).view.commitCode ((((s.upTo t).takeNext n).view.overlay s.written).overlay s.mgr.staging) = 0 →
      ∃ u, exec (.commit t) s = .next u ∧ Did t [.mgr, .pages] s u ∧ u.page n = { s.page n with req := none } ∧
        (∀ q, q ≠ n → u.page q = s.page q) ∧
        u.mgr = { s.mgr with turn := (n + 1) % 65, stagingState := 2, activation := ofBE w.value
                             commit := some ⟨r, ofBE w.value, max s.tsc t / 40000⟩ }) ∧
    (∀ c, ((s.upTo t).takeNext n).view.commitCode ((((s.upTo t).takeNext n).view.overlay s.written).overlay s.mgr.staging) = c → c ≠ 0 →
      c < 0x10000 →
      ∃ u, exec (.commit t) s = .next u ∧ Did t [.out, .dict, .mgr, .pages] s u ∧ u.mgr = { s.mgr with turn := (n + 1) % 65 } ∧
        u.val 0x1400 9 = c ∧ (∀ k, k ≠ keyOf 0x1400 9 → u.raw k = s.raw k) ∧
        s.Answered u n (s.response r c (slice r.body 0 3 ++ [0])))) ∧
  (∀ c, s.mgr.commit = some c → c.req.who = n → n < 64 → c.req.type = 2 → (s.page n).discard = false →
    (c.named = 0 ∨ max s.tsc t / 40000 < c.named →
      ∃ u, exec (.commitDistributionDone t) s = .next u ∧ Did t [.out, .dict, .mgr, .pages] s u ∧
        u.mgr = { s.mgr with commit := none, activation := if c.named = 0 then max s.tsc t / 40000 + 1 else c.named } ∧
        u.val 0x1400 9 = 0 ∧ (∀ k, k ≠ keyOf 0x1400 9 → u.raw k = s.raw k) ∧ (u.page n).done = true ∧ (u.page n).busy = false ∧
        (u.page n).rspBuf = s.response c.req 0 (slice c.req.body 0 3 ++ [0]) ∧ ∀ q, q ≠ n → u.page q = s.page q) ∧
    (c.named ≠ 0 → c.named ≤ max s.tsc t / 40000 →
      ∃ u, exec (.commitDistributionDone t) s = .next u ∧ Did t [.out, .dict, .mgr, .pages] s u ∧
        u.mgr = { s.mgr with commit := none, stagingState := 1, activation := 0 } ∧ u.val 0x1400 9 = 0x000E ∧
        (u.page n).rspBuf = s.response c.req 0x000E (slice c.req.body 0 3 ++ [0]) ∧ ∀ q, q ≠ n → u.page q = s.page q)) ∧
  (s.Mailbox .abort n r → ((s.upTo t).takeNext n).writeTests r r.recs = none →
    ∃ u, exec (.abort t) s = .next u ∧ Did t [.out, .mgr, .pages] s u ∧
      u.mgr = { s.mgr with turn := (n + 1) % 65, staging := [], stagingState := 0, owner := 0xFFFF, activation := 0, commit := none
                           stagedDigests := [] } ∧
      s.Answered u n (s.response r 0 (slice r.body 0 3 ++ [0]))) ∧
  (s.managerUp = true → s.mgr.stagingState = 2 → s.mgr.commit = none → s.mgr.activation ≤ max s.tsc t / 40000 → max s.tsc t % 40000 = 0 →
    ∃ v, exec (.commitActivate t) s = .next (v.applyConfig (s.upTo t)) ∧ Did t [.dict, .mgr, .log] s v ∧
      (Table.rising s.mgr.staging = true → ∀ k,
        v.raw k = (if s.ownerIdle k = true then s.raw k else (Table.find s.mgr.staging k).getD (s.raw k)) ∧
        Table.find v.mgr.deferred k =
          (if s.ownerIdle k = true then (Table.find s.mgr.staging k).or (Table.find s.mgr.deferred k) else Table.find s.mgr.deferred k)) ∧
      v.mgr = { s.mgr with staging := [], stagingState := 0, owner := 0xFFFF, activation := 0, commit := none, stagedDigests := []
                           epoch := if s.mgr.epoch = 0xFFFFFFFF then 1 else s.mgr.epoch + 1, prevEpoch := s.mgr.epoch
                           epochBeat := some (max s.tsc t / 40000), digestsValid := false, deferred := v.mgr.deferred } ∧
      v.log.detected = s.log.detected ++ [⟨max s.tsc t, 0x5140, 0x0301, 1,
        toBE 4 (if s.mgr.epoch = 0xFFFFFFFF then 1 else s.mgr.epoch + 1) ++ toBE 8 (max s.tsc t / 40000)⟩])

/-- R56: at the activation boundary the committed values come into force together, those of a block that is off, in reset or idling
recorded for its release; the epoch counts by one, past 0, and staging empties; the commit is logged from source 0x5140. -/
def Obligations.ActivationAppliesCommit : Prop := ∀ (s : State) (t : Nat), s.Live → s.managerUp = true → s.mgr.stagingState = 2 →
  s.mgr.commit = none →
  (s.mgr.activation ≤ max s.tsc t / 40000 → max s.tsc t % 40000 = 0 →
    ∃ v, exec (.commitActivate t) s = .next (v.applyConfig (s.upTo t)) ∧ Did t [.dict, .mgr, .log] s v ∧
      (Table.rising s.mgr.staging = true → ∀ k,
        v.raw k = (if s.ownerIdle k = true then s.raw k else (Table.find s.mgr.staging k).getD (s.raw k)) ∧
        Table.find v.mgr.deferred k =
          (if s.ownerIdle k = true then (Table.find s.mgr.staging k).or (Table.find s.mgr.deferred k) else Table.find s.mgr.deferred k)) ∧
      v.mgr = { s.mgr with staging := [], stagingState := 0, owner := 0xFFFF, activation := 0, commit := none, stagedDigests := []
                           epoch := if s.mgr.epoch = 0xFFFFFFFF then 1 else s.mgr.epoch + 1, prevEpoch := s.mgr.epoch
                           epochBeat := some (max s.tsc t / 40000), digestsValid := false, deferred := v.mgr.deferred } ∧
      v.log.detected = s.log.detected ++ [⟨max s.tsc t, 0x5140, 0x0301, 1,
        toBE 4 (if s.mgr.epoch = 0xFFFFFFFF then 1 else s.mgr.epoch + 1) ++ toBE 8 (max s.tsc t / 40000)⟩]) ∧
  (max s.tsc t / 40000 < s.mgr.activation → ∃ u, exec (.commitActivate t) s = .next u ∧ Did t [] s u)

/-- R60, R61, R62, R63: digests are computed anew over the committed values, those that wait for a block's release among them, or over
the staged ones; an announce is sent when its time has come; one received is dropped and counted from an unknown address, and
otherwise compared: agreement leaves nothing listed, disagreement at the same epoch is listed in the lowest free record and logged,
and the epoch before is accepted while the changeover lasts. -/
def Obligations.DigestsComplete : Prop := ∀ (s : State) (t : Nat), s.Live →
  (∃ u, exec (.digestRecomputeDone t false) s = .next u ∧ Did t [.mgr] s u ∧
    u.mgr = { s.mgr with digests := s.view.regionDigests, digestsValid := true }) ∧
  (s.mgr.staging ≠ [] → ∃ u, exec (.digestRecomputeDone t true) s = .next u ∧ Did t [.mgr] s u ∧
    u.mgr = { s.mgr with stagedDigests := (s.view.overlay s.mgr.staging).regionDigests }) ∧
  (s.ringUp = true → s.managerUp = true →
    (max s.tsc t < s.mgr.announced + s.val 0x1400 0x0A * 1000000 → ∃ u, exec (.digestAnnounceSend t) s = .next u ∧ Did t [] s u) ∧
    (s.mgr.announced + s.val 0x1400 0x0A * 1000000 ≤ max s.tsc t → (s.ringKey.isSome = true ∨ s.flag 0x1603 3 = false) →
      ∃ u, exec (.digestAnnounceSend t) s = .next u ∧ Did t [.out, .mgr, .ring] s u ∧ u.mgr.announced = max s.tsc t ∧
        ∀ i < 32, s.val 0x1601 (i + 1) ≠ 0 → ∃ m, Out.ringMessage (s.val 0x1601 (i + 1)) m ∈ u.out) ∧
    (s.mgr.announced + s.val 0x1400 0x0A * 1000000 ≤ max s.tsc t → s.ringKey = none → s.flag 0x1603 3 = true →
      ∃ u, exec (.digestAnnounceSend t) s = .next u ∧ Did t [.mgr] s u ∧ u.mgr = { s.mgr with announced := max s.tsc t }) ∧
    (∀ mac msg, beAt msg 1 1 = 6 →
      (s.peerSlot mac = none → ∃ u, exec (.digestAnnounceReceived t mac msg) s = .next u ∧ Did t [.dict] s u ∧
        Counted [keyOf 0x1603 1] s u) ∧
      (∀ i, s.peerSlot mac = some i → s.tagPasses i msg = true → headerOk msg = true → beAt msg 4 2 = 56 →
        beAt msg 16 4 = s.mgr.epoch → s.mismatchOf 1 mac = none →
        (digestDiff s.mgr.digests ((List.range 5).map fun k => beAt msg (32 + 8 * k) 8) = 0 →
          ∃ u, exec (.digestAnnounceReceived t mac msg) s = .next u ∧ Did t [.mgr] s u ∧ u.mgr.mismatches = s.mgr.mismatches ∧
            u.mgr.lastSeq = (if msgTagged msg = true then Table.put 0 s.mgr.lastSeq i (msgSeq msg) else s.mgr.lastSeq)) ∧
        (∀ d k, digestDiff s.mgr.digests ((List.range 5).map fun k => beAt msg (32 + 8 * k) 8) = d → d ≠ 0 → k < 64 →
          Table.find s.mgr.mismatches k = none → (∀ j < k, Table.find s.mgr.mismatches j ≠ none) →
          ∃ u, exec (.digestAnnounceReceived t mac msg) s = .next u ∧ Did t [.mgr, .log] s u ∧
            Table.find u.mgr.mismatches k = some { kind := 1, regions := d, id := mac, epoch := s.mgr.epoch
                                                   first := max s.tsc t, last := max s.tsc t } ∧
            (∀ j, j ≠ k → Table.find u.mgr.mismatches j = Table.find s.mgr.mismatches j) ∧
            u.log.detected = s.log.detected ++ [⟨max s.tsc t, 0x5143, 0x0302, 2, (mismatchBytes
              { kind := 1, regions := d, id := mac, epoch := s.mgr.epoch, first := max s.tsc t, last := max s.tsc t }).take 16⟩])) ∧
      (∀ i, s.peerSlot mac = some i → s.tagPasses i msg = true → headerOk msg = true → beAt msg 4 2 = 56 →
        beAt msg 16 4 ≠ s.mgr.epoch → beAt msg 16 4 = s.mgr.prevEpoch → (s.upTo t).changeover = true →
        ∃ u, exec (.digestAnnounceReceived t mac msg) s = .next u ∧ Did t [.mgr] s u ∧ u.mgr.mismatches = s.mgr.mismatches)))

/-- R314, R315: with every status brought up to date, each trip output follows its function: off at once while it is not live, on at
the rise of its function, off at its fall once its minimum pulse is over; the end of the minimum pulse turns off the output whose
function is 0 and no other. -/
def Obligations.TripOutputsFollow : Prop := ∀ (s : State) (t : Nat), s.Live →
  (∃ u, exec (.matrixSourceChange t) s = .next u ∧ Did t [.out, .dict, .log, .routes, .cells, .trip] s u ∧
    u.trip.biState = s.trip.biState ∧ u.trip.biRaw = s.trip.biRaw ∧
    ∀ v, v = (s.upTo t).settleLinks false → ∀ n < 8,
      (v.tripUp = false ∨ v.val 0x3503 (n + 1) ≠ 1 ∨ v.outputsSafe = true → (Table.get {} u.trip.outputs n).on = false) ∧
      (v.tripUp = true → v.val 0x3503 (n + 1) = 1 → v.outputsSafe = false →
        (v.outputWanted n = true → (Table.get {} u.trip.outputs n).on = true ∧
          ((Table.get {} s.trip.outputs n).on = false → (Table.get {} u.trip.outputs n).since = max s.tsc t) ∧
          ((Table.get {} s.trip.outputs n).on = true → Table.get {} u.trip.outputs n = Table.get {} s.trip.outputs n)) ∧
        (v.outputWanted n = false → (Table.get {} s.trip.outputs n).on = true →
          (Table.get {} s.trip.outputs n).since + v.val 0x3502 (n + 1) * 1000000 ≤ max s.tsc t → Table.get {} u.trip.outputs n = {}) ∧
        (v.outputWanted n = false → max s.tsc t < (Table.get {} s.trip.outputs n).since + v.val 0x3502 (n + 1) * 1000000 →
          Table.get {} u.trip.outputs n = Table.get {} s.trip.outputs n))) ∧
  (∀ n < 8, s.tripUp = true → s.val 0x3503 (n + 1) = 1 → s.outputsSafe = false → (Table.get {} s.trip.outputs n).on = true →
    (s.outputWanted n = false → (Table.get {} s.trip.outputs n).since + s.val 0x3502 (n + 1) * 1000000 ≤ max s.tsc t →
      ∃ u, exec (.tripMinPulseEnd t n) s = .next u ∧ Did t [.trip] s u ∧ Table.get {} u.trip.outputs n = {} ∧
        (∀ j, j ≠ n → Table.get {} u.trip.outputs j = Table.get {} s.trip.outputs j) ∧ u.trip.biState = s.trip.biState) ∧
    (s.outputWanted n = true ∨ max s.tsc t < (Table.get {} s.trip.outputs n).since + s.val 0x3502 (n + 1) * 1000000 →
      ∃ u, exec (.tripMinPulseEnd t n) s = .next u ∧ Did t [] s u))

/-- R299, R300, R301, R302, R304: a command frame ends after 1,728 µs and the first that asks for the lane follows; a link without a
frame for the heartbeat time sends one; the tag store holds the tags of the next two counter values, and the hypotheses cover the
second after next. What the stores hold is kept by its counter values and seconds, each with the key that its tags stand under (log
26). -/
def Obligations.CommandFramesComplete : Prop := ∀ (s : State) (t p k : Nat), s.Live → s.hasPort p = true →
  (∀ f v, (s.cell p).frame = some f → f.start + 1728000 ≤ max s.tsc t →
    v = (s.upTo t).setCell p { s.cell p with frame := none } →
    (v.commandWants p = [] → ∃ u, exec (.commandFrameEnd t p) s = .next u ∧ Did t [.cells] s u ∧
      u.cell p = { s.cell p with frame := none } ∧ ∀ q, q ≠ p → u.cell q = s.cell q) ∧
    (∀ kind l c, v.commandIdle p = true → v.commandWants p = (k, kind) :: l → v.nextCnt p k = some c → c ≤ 0xFFFFFFFF →
      ∃ u, exec (.commandFrameEnd t p) s = .next u ∧ Did t [.out, .dict, .cells] s u ∧ v.Sends u p k kind c)) ∧
  (∀ f, (s.cell p).frame = some f → max s.tsc t < f.start + 1728000 →
    ∃ u, exec (.commandFrameEnd t p) s = .next u ∧ Did t [] s u) ∧
  (∀ v, k < 8 → v = (s.upTo t).settleLink p false k →
    (v.heartbeatDue p k = false → exec (.heartbeat t p k) s = .next v) ∧
    (∀ l c, v.heartbeatDue p k = true → v.commandIdle p = true → v.commandWants p = (k, .heartbeat) :: l → v.nextCnt p k = some c →
      c ≤ 0xFFFFFFFF → ∃ u, exec (.heartbeat t p k) s = .next u ∧ v.Sends u p k .heartbeat c)) ∧
  (∀ c, k < 8 → (s.upTo t).sendStatusOf p k = 1 ∨ (s.upTo t).sendStatusOf p k = 2 → (s.upTo t).nextCnt p k = some c →
    ∃ u, exec (.tagStoreRefresh t p k) s = .next u ∧ Did t [.cells] s u ∧ (∀ q, q ≠ p → u.cell q = s.cell q) ∧
      (∀ j, j ≠ k → (u.cell p).link j = (s.cell p).link j) ∧
      (u.cell p).link k = { (s.cell p).link k with tags := [(c, (s.slot (recSlot (s.linkRec p k))).key), (c + 1, (s.slot (recSlot (s.linkRec p k))).key)] }) ∧
  (∀ n : Nat, k < 8 → s.commandMask p k 1 ≠ 0 → recUsed (s.linkRec p k) = true → s.keyGone (recSlot (s.linkRec p k)) = false →
    s.timeSet = true → (s.upTo t).linkSeconds (recEpoch (s.linkRec p k)) = (n + 1 : Nat) →
    ∃ u, exec (.hypothesisTagCompute t p k) s = .next u ∧ Did t [.cells] s u ∧ (∀ q, q ≠ p → u.cell q = s.cell q) ∧
      (u.cell p).link k = { (s.cell p).link k with 
        seconds := [n, n + 1, n + 2, n + 3].map fun i => (i, (s.slot (recSlot (s.linkRec p k))).key) })

/-- R304, R305, R306, R307, R308: of a command body the best hypothesis is accepted where its counter is higher than every accepted one,
and counted as a replay where it is not; with too few chips, no match or two, it is counted as what it is, and its header has failed
(log 26); a link without an accepted frame for the supervision time is DOWN; the old key lives as long as its changeover. -/
def Obligations.CommandReceiptCompletes : Prop := ∀ (s : State) (t p : Nat), s.Live → s.hasPort p = true →
  (∀ l c chips n ys, s.commandLane p = some l → (s.lane p l).rx.state = .header → (s.lane p l).rx.cur = some c →
    (s.lane p l).rx.slot = none → n = 4 * dataCarriers 1 (s.laneM p l) → ys = (bodySoft c n chips).take n →
    (2 * (ys.filter fun y => y != 0).length < n →
      ∃ u, exec (.commandBodyCheck t p chips) s = .next u ∧ Did t [.dict, .lanes] s u ∧ (u.lane p l).rx.state = .rearm ∧
        Counted [keyOf (0x34A0 + p) 0x0A, laneKey p l 0x2014 2] s u) ∧
    (∀ ms, n ≤ 2 * (ys.filter fun y => y != 0).length →
      ms = ((List.range 8).flatMap fun k => (s.upTo t).linkMatches p (chipSums ys) (ys.filter fun y => y != 0).length
        (ys.foldl (fun a y => a + y.natAbs * y.natAbs) 0) k) →
      (ms = [] → ∃ u, exec (.commandBodyCheck t p chips) s = .next u ∧ Did t [.dict, .lanes] s u ∧ (u.lane p l).rx.state = .rearm ∧
        Counted [keyOf (0x34A0 + p) 7, laneKey p l 0x2014 2] s u) ∧
      (∀ m, bestMatch ms = some m → ((ms.any fun x => x.link != m.link || x.states != m.states) = true) →
        ∃ u, exec (.commandBodyCheck t p chips) s = .next u ∧ Did t [.dict, .lanes] s u ∧ (u.lane p l).rx.state = .rearm ∧
          Counted [keyOf (0x34A0 + p) 8, laneKey p l 0x2014 2] s u) ∧
      (∀ m, bestMatch ms = some m → (∀ x ∈ ms, x.link = m.link ∧ x.states = m.states) → m.old = false →
        (m.cnt ≤ ((s.cell p).link m.link).lastAccepted →
          ∃ u, exec (.commandBodyCheck t p chips) s = .next u ∧ Did t [.dict, .lanes] s u ∧ (u.lane p l).rx.state = .search ∧
            Counted [keyOf (0x34A0 + p) 9, laneKey p l 0x2014 5] s u) ∧
        (((s.cell p).link m.link).lastAccepted < m.cnt →
          ∃ u, exec (.commandBodyCheck t p chips) s = .next u ∧ Did t [.out, .dict, .log, .lanes, .routes, .cells, .trip] s u ∧
            (u.lane p l).rx.state = .search ∧ (u.lane p l).rx.cur = none ∧ ((u.cell p).link m.link).accepted = m.states ∧
            ((u.cell p).link m.link).lastAccepted = m.cnt ∧ ((u.cell p).link m.link).superviseAt = max s.tsc t ∧
            ((u.cell p).link m.link).old = none)))) ∧
  (∀ k < 8, ((s.cell p).link k).up = true →
    (((s.cell p).link k).superviseAt + s.val 0x3400 3 * 1000000 ≤ max s.tsc t →
      ∃ u, exec (.supervisionTimeout t p k) s = .next u ∧ Did t [.out, .dict, .log, .routes, .cells, .trip] s u ∧
        ((u.cell p).link k).up = false ∧ ((u.cell p).link k).accepted = ((s.cell p).link k).accepted ∧
        ((u.cell p).link k).recvStatus ≠ 1) ∧
    (max s.tsc t < ((s.cell p).link k).superviseAt + s.val 0x3400 3 * 1000000 →
      ∃ u, exec (.supervisionTimeout t p k) s = .next u ∧ Did t [] s u)) ∧
  (∀ k a b c e, k < 8 → ((s.cell p).link k).old = some (a, b, c, e) →
    (e ≤ max s.tsc t / 40000 → ∃ u, exec (.rekeyChangeoverEnd t p k) s = .next u ∧
      Did t [.out, .dict, .log, .routes, .cells, .trip] s u ∧ ((u.cell p).link k).old = none ∧
      ((u.cell p).link k).lastAccepted = ((s.cell p).link k).lastAccepted) ∧
    (max s.tsc t / 40000 < e → ∃ u, exec (.rekeyChangeoverEnd t p k) s = .next u ∧ Did t [] s u))

/-- R321, R333, R334, R335, R337, R338, R340, R341, R342, R345: the engine's part of a job, each clause for the case it names. The next
descriptor of an enabled JOBQ is taken while a DONEQ entry is free for it: a good one waits for its grant; one that fails a test
ends with that test refused, counted, with its completion in an enabled DONEQ, at once where its context waits for nothing and at
its turn else; without a free entry JOBQ stalls. Descriptors of the internal users are taken without rings. A segment of a running
job ends; after the last one the result of a job, or of a part whose context it carries on or closes, stands at DST; a tag that
fails zeroes the output area; a segment whose copies differ, with fewer than two others in the second before, ends its job, takes
the cores of its unit out for a test and marks an internal job for its one resubmission; one whose data did not come ends its job. A
core that fails its known-answer test is withdrawn, one that passes returns at the following beat. The order of the tests is the
model's where the spec gives none (log 36). -/
def Obligations.CipherJobsComplete : Prop :=
  (∀ (s : State) (t f : Nat) (d : CipherDesc), s.Live → s.engineTakes 3 0 = true →
  s.open f = true → (s.page f).ciphEnable = true → ((s.page f).ring 4).enable = true →
  ((s.pageJobs f).filter fun j => !j.started).length < min 8 ((s.page f).ring 4).used →
  ((s.pageJobs f).length < ((s.page f).ring 5).free → s.cipherRefusal f d (s.page f).onFail = none →
    ∃ u, exec (.cipherJobFetch t f d) s = .next u ∧ Did t [.cipher] s u ∧ u.cipher.nextJob = s.cipher.nextJob + 1 ∧
      u.cipher.slots = s.cipher.slots ∧ (∀ n, n ≠ s.cipher.nextJob → u.job n = s.job n) ∧
      u.job s.cipher.nextJob = some { page := f, desc := d, onFail := (s.page f).onFail, fetched := max s.tsc t, started := false, key := []
                                      generation := 0, invoc := none, iv := [], mode := 0, segments := segCount d.op d.len, granted := 0
                                      finished := 0, units := 0, refused := none }) ∧
  (∀ e, (s.pageJobs f).length < ((s.page f).ring 5).free → s.cipherRefusal f d (s.page f).onFail = some e →
    s.ctxWaits s.cipher.nextJob f d.ctx = false → e ≠ 0 →
    ∃ u, exec (.cipherJobFetch t f d) s = .next u ∧ Did t [.out, .dict, .pages, .cipher] s u ∧
      u.cipher.slots = s.cipher.slots ∧ u.job s.cipher.nextJob = none ∧ (∀ n, n ≠ s.cipher.nextJob → u.job n = s.job n) ∧
      (((u.page f).ring 4).badDesc = true ↔ e = acRange ∨ ((s.page f).ring 4).badDesc = true) ∧
      (((s.page f).ring 5).enable = true → ((u.page f).ring 5).prod = (((s.page f).ring 5).prod + 1) % ((s.page f).ring 5).size) ∧
      Counted [keyOf 0x4010 2] s u) ∧
  (∀ e, (s.pageJobs f).length < ((s.page f).ring 5).free → s.cipherRefusal f d (s.page f).onFail = some e →
    s.ctxWaits s.cipher.nextJob f d.ctx = true →
    ∃ u, exec (.cipherJobFetch t f d) s = .next u ∧ Did t [.pages, .cipher] s u ∧ u.cipher.slots = s.cipher.slots ∧
      (∃ j, u.job s.cipher.nextJob = some j ∧ j.page = f ∧ j.desc = d ∧ j.refused = some e ∧ j.started = false) ∧
      (∀ n, n ≠ s.cipher.nextJob → u.job n = s.job n)) ∧
  (((s.page f).ring 5).free ≤ (s.pageJobs f).length →
    ∃ u, exec (.cipherJobFetch t f d) s = .next u ∧ Did t [.pages] s u ∧ ((u.page f).ring 4).stalled = true ∧
      (∀ k, k ≠ 4 → (u.page f).ring k = (s.page f).ring k) ∧ ∀ g, g ≠ f → u.page g = s.page g)) ∧
  (∀ (s : State) (t : Nat) (d : CipherDesc), s.Live → s.engineTakes 3 0 = true → s.cipherRefusal 64 d (s.page 64).onFail = none →
    ∃ u, exec (.cipherJobFetch t 64 d) s = .next u ∧ Did t [.cipher] s u ∧ (∀ n, n ≠ s.cipher.nextJob → u.job n = s.job n) ∧
      ∃ j, u.job s.cipher.nextJob = some j ∧ j.page = 64 ∧ j.desc = d ∧ j.refused = none ∧ j.started = false ∧ j.again = false) ∧
  (∀ (s : State) (t n unit : Nat) (j : CipherJob) (input aad : Bytes), s.Live →
  (s.job n = some j → j.started = true → j.finished < j.granted →
    (j.finished + 1 < j.segments →
      ∃ u, exec (.cipherSegmentComplete t n unit true true input aad) s = .next u ∧ Did t [.cipher] s u ∧
        u.job n = some { j with finished := j.finished + 1 } ∧ (∀ k, k ≠ n → u.job k = s.job k) ∧ u.cipher.slots = s.cipher.slots) ∧
    (∀ r, j.segments ≤ j.finished + 1 → j.desc.ctx = 0xFF →
      r = cipherResult j (aad.take j.desc.aadLen) [] (slice input 0 j.desc.len) (slice input j.desc.len j.desc.tagLen) → r.status = 0 →
      ∃ u, exec (.cipherSegmentComplete t n unit true true input aad) s = .next u ∧ Did t [.out, .dict, .pages, .cipher] s u ∧
        u.job n = none ∧ (∀ k, k ≠ n → u.job k = s.job k) ∧ u.cipher.slots = s.cipher.slots ∧
        (r.data ≠ [] → Out.hostWrite j.page 255 j.desc.dst r.data ∈ u.out) ∧ Counted [keyOf 0x4010 1] s u) ∧
    (∀ r c a, j.segments ≤ j.finished + 1 → j.desc.ctx < 4 → c = (s.page j.page).ctx j.desc.ctx →
      a = (if j.desc.first = true then aad.take j.desc.aadLen else c.aad) →
      r = cipherResult j a c.input (slice input 0 j.desc.len) (slice input j.desc.len j.desc.tagLen) → r.status = 0 →
      ∃ u, exec (.cipherSegmentComplete t n unit true true input aad) s = .next u ∧ Did t [.out, .dict, .pages, .cipher] s u ∧
        u.job n = none ∧ (r.data ≠ [] → Out.hostWrite j.page 255 j.desc.dst r.data ∈ u.out) ∧
        (u.page j.page).ctx j.desc.ctx = if j.desc.last = true then {} else
          { c with running := false, input := c.input ++ slice input 0 j.desc.len, aad := a }) ∧
    (∀ r, j.segments ≤ j.finished + 1 → j.desc.ctx = 0xFF →
      r = cipherResult j (aad.take j.desc.aadLen) [] (slice input 0 j.desc.len) (slice input j.desc.len j.desc.tagLen) →
      r.status = 0x0200 → 0 < outArea j.desc →
      ∃ u, exec (.cipherSegmentComplete t n unit true true input aad) s = .next u ∧ Did t [.out, .dict, .pages, .cipher] s u ∧
        u.job n = none ∧ Out.hostWrite j.page 255 j.desc.dst (List.replicate (outArea j.desc) 0) ∈ u.out ∧
        Counted [keyOf 0x4010 2, if j.onFail = true then keyOf 0x4010 4 else keyOf 0x4010 3] s u) ∧
    (∃ u, exec (.cipherSegmentComplete t n unit true false input aad) s = .next u ∧ Did t [.out, .dict, .pages, .cipher] s u ∧
      u.job n = none ∧ u.cipher.slots = s.cipher.slots ∧ Counted [keyOf 0x4010 2] s u) ∧
    ((s.cipher.mismatches.filter fun a => decide (max s.tsc t ≤ a + 1000000000)).length < 2 → ∀ dmaOk,
      ∃ u, exec (.cipherSegmentComplete t n unit false dmaOk input aad) s = .next u ∧ Did t [.out, .dict, .log, .pages, .cipher] s u ∧
        u.job n = none ∧ u.cipher.slots = s.cipher.slots ∧
        (∀ c ∈ (((s.units j.mode)[unit]?).getD []), c ∈ u.cipher.leaving) ∧
        (j.page = 64 → j.again = false → j.desc ∈ u.cipher.resubmit) ∧ u.cipher.testing = s.cipher.testing ∧ Counted [keyOf 0x4010 2, keyOf 0x4010 5] s u)) ∧
  (s.job n = none → ∃ u, exec (.cipherSegmentComplete t n unit true true input aad) s = .next u ∧ Did t [] s u) ∧
  (∀ core, core ∈ s.cipher.testing →
    (∃ u, exec (.knownAnswerTest t core true) s = .next u ∧ Did t [.cipher] s u ∧
      u.cipher = { s.cipher with passed := core :: s.cipher.passed }) ∧
    (core < 16 → s.isWithdrawn 3 0 core = false →
      ∃ u, exec (.knownAnswerTest t core false) s = .next u ∧ Did t [.hier, .log, .cipher, .sup] s u ∧
        bit (u.block 3 0).withdrawn core = true ∧ core ∉ u.cipher.testing ∧ u.cipher.slots = s.cipher.slots)))

/-- R325, R326, R327, R328, R329, R340: an allowed LOAD puts KEY_DATA into its slot, READY with its counter at 0, the key it held in the
shadow and, where it rewrites a held key, the next generation (log 36); UNWRAP does so with the key it yields; ERASE empties the
slot and stops what runs under it, and is done when its jobs are gone and no command waits behind it. A refused command changes no
slot and answers the test it fails; a GO while BUSY marks OVERLAP alone. -/
def Obligations.KeyCommandsComplete : Prop := ∀ (s : State) (t f : Nat) (w : Word32), s.Live → s.open f = true → bit w.toNat 31 = true →
  ((s.page f).keyBusy = false → s.cipher.waiting = [] → s.cipher.erasing = none → s.held 3 1 = false →
    (∀ n ty, bits w.toNat 30 28 = 1 → bits w.toNat 27 26 = ty → ty ≠ 0 → bits w.toNat 23 16 = n → s.keyTarget f n = none →
      s.keyFits n (8 * (ty + 1)) = true →
      ∃ u, exec (.load t f w) s = .next u ∧ (∀ m, m ≠ n → u.slot m = s.slot m) ∧
        u.slot n = { s.slot n with
          state := .ready, type := ty, key := Table.getBytes (s.page f).keyData 0 (8 * (ty + 1))
          shadow := (s.slot n).key, counter := 0, loaded := max s.tsc t
          generation := if (s.slot n).state = .empty then (s.slot n).generation else ((s.slot n).generation + 1) % 2 ^ 32 } ∧
        (u.page f).keyDone = true ∧ (u.page f).keyBusy = false ∧ (u.page f).keyResult = 0 ∧ (u.page f).keyData = []) ∧
    (∀ n k, bits w.toNat 30 28 = 2 → bits w.toNat 25 24 < 2 → bits w.toNat 23 16 = n → s.keyTarget f n = none →
      s.unwrapKey n (bits w.toNat 15 8) (bits w.toNat 25 24) (bits w.toNat 5 0) (Table.getBytes (s.page f).keyData 0 48) = .ok k →
      ∃ u, exec (.unwrap t f w) s = .next u ∧ (∀ m, m ≠ n → u.slot m = s.slot m) ∧
        u.slot n = { s.slot n with
          state := .ready, type := keyType k.length, key := k, shadow := (s.slot n).key, counter := 0, loaded := max s.tsc t
          generation := if (s.slot n).state = .empty then (s.slot n).generation else ((s.slot n).generation + 1) % 2 ^ 32 } ∧
        (u.page f).keyDone = true ∧ (u.page f).keyBusy = false ∧ (u.page f).keyResult = 0 ∧
        (u.page f).keyData = []) ∧
    (∀ n e, bits w.toNat 30 28 = 2 → bits w.toNat 25 24 < 2 → bits w.toNat 23 16 = n → s.keyTarget f n = none →
      s.unwrapKey n (bits w.toNat 15 8) (bits w.toNat 25 24) (bits w.toNat 5 0) (Table.getBytes (s.page f).keyData 0 48) = .error e →
      ∃ u, exec (.unwrap t f w) s = .next u ∧ Did t [.dict, .pages] s u ∧ (u.page f).keyDone = true ∧ (u.page f).keyResult = e ∧
        (u.page f).keyData = []) ∧
    (∀ n, bits w.toNat 30 28 = 3 → bits w.toNat 23 16 = n → s.keyTarget f n = none →
      ∃ u, exec (.erase t f w) s = .next u ∧ (∀ m, m ≠ n → u.slot m = s.slot m) ∧
        u.slot n = { generation := (s.slot n).generation, loaded := max s.tsc t } ∧ u.cipher.erasing = some f ∧
        (u.page f).keyBusy = true ∧ ∀ e ∈ u.cipher.jobs, e.2.desc.slot = n → e.2.started = false) ∧
    (∀ op c e, (op, c) ∈ [(1, Instr.load t f w), (2, .unwrap t f w), (3, .erase t f w)] → bits w.toNat 30 28 = op →
      (op = 1 → bits w.toNat 27 26 ≠ 0) → (op = 2 → bits w.toNat 25 24 < 2) → s.keyTarget f (bits w.toNat 23 16) = some e →
      ∃ u, exec c s = .next u ∧ Did t [.pages] s u ∧ (u.page f).keyDone = true ∧ (u.page f).keyResult = e) ∧
    (bits w.toNat 30 28 = 1 → bits w.toNat 27 26 ≠ 0 → s.keyTarget f (bits w.toNat 23 16) = none →
      s.keyFits (bits w.toNat 23 16) (8 * (bits w.toNat 27 26 + 1)) = false →
      ∃ u, exec (.load t f w) s = .next u ∧ Did t [.pages] s u ∧ (u.page f).keyDone = true ∧ (u.page f).keyResult = ckMismatch) ∧
    (bits w.toNat 30 28 ≠ 2 → bits w.toNat 30 28 ≠ 3 → bits w.toNat 27 26 = 0 ∨ bits w.toNat 30 28 ≠ 1 →
      ∃ u, exec (.load t f w) s = .next u ∧ Did t [.pages] s u ∧ (u.page f).keyDone = true ∧ (u.page f).keyResult = acRange) ∧
    (bits w.toNat 30 28 = 2 → 2 ≤ bits w.toNat 25 24 →
      ∃ u, exec (.unwrap t f w) s = .next u ∧ Did t [.pages] s u ∧ (u.page f).keyDone = true ∧ (u.page f).keyResult = acRange)) ∧
  ((s.page f).keyBusy = false → s.cipher.waiting = [] → s.cipher.erasing = none → s.held 3 1 = true →
    ∀ op c, (op, c) ∈ [(1, Instr.load t f w), (2, .unwrap t f w), (3, .erase t f w)] → bits w.toNat 30 28 = op →
      ∃ u, exec c s = .next u ∧ Did t [.pages] s u ∧ (u.page f).keyDone = true ∧ (u.page f).keyResult = stBlockHeld) ∧
  ((s.page f).keyBusy = true → ∀ op c, (op, c) ∈ [(1, Instr.load t f w), (2, .unwrap t f w), (3, .erase t f w)] →
    bits w.toNat 30 28 = op → ∃ u, exec c s = .next u ∧ Did t [.pages] s u ∧ u.page f = { s.page f with keyOverlap := true } ∧
      ∀ g, g ≠ f → u.page g = s.page g) ∧
  (s.cipher.erasing = some f → s.cipher.waiting = [] →
    ∃ u, exec (.eraseComplete t f) s = .next u ∧ Did t [.pages, .cipher] s u ∧ u.cipher = { s.cipher with erasing := none } ∧
      u.page f = { s.page f with keyBusy := false, keyDone := true, keyResult := 0, keyData := [] } ∧
      ∀ g, g ≠ f → u.page g = s.page g) ∧
  (∀ g, s.cipher.erasing ≠ some g → ∃ u, exec (.eraseComplete t g) s = .next u ∧ Did t [] s u)

/-- R329, R330, R334: a storage error of a slot of 0 to 254 erases it, of slot 255 reloads the key of its one-time store, of the key
store's control state holds the block out of service, an alarm that makes every output safe where 1010.05 says so; an abort closes
the contexts it names of its page, or of the internal users, and no other. -/
def Obligations.KeyStoreErrorsComplete : Prop := ∀ (s : State) (t f : Nat) (w : Word32), s.Live →
  (∀ n < 255, ∃ u, exec (.slotStorageError t (some n)) s = .next u ∧ (∀ m, m ≠ n → u.slot m = s.slot m) ∧
    u.slot n = { generation := (s.slot n).generation, loaded := max s.tsc t } ∧ s.log.detected.length < u.log.detected.length) ∧
  (s.cipher.blocked255 = false → ∃ u, exec (.slotStorageError t (some 255)) s = .next u ∧ (∀ m, m ≠ 255 → u.slot m = s.slot m) ∧
    u.slot 255 = { s.slot 255 with key := Config.keyEncryptionKey, shadow := Config.keyEncryptionKey, loaded := max s.tsc t }) ∧
  (s.cipher.blocked255 = true → ∃ u, exec (.slotStorageError t (some 255)) s = .next u ∧ u.cipher.slots = s.cipher.slots) ∧
  (s.val 0x1010 5 = 0 → ∃ u, exec (.slotStorageError t none) s = .next u ∧ (u.block 3 1).state = .held ∧ u.hier.fatalAlarm = true ∧
    u.hier.safeOutputs = true ∧ u.outputsAtRest = true ∧ u.cipher = s.cipher) ∧
  (s.open f = true ∨ f = 64 → ∃ u, exec (.ctxAbort t f w) s = .next u ∧ Did t [.out, .dict, .pages, .cipher] s u ∧
    u.cipher.slots = s.cipher.slots ∧ ∀ n < 4, (bit w.toNat n = true → (u.page f).ctx n = {}) ∧
      (bit w.toNat n = false → (u.page f).ctx n = (s.page f).ctx n))

/-- R347, R348, R354, R355, R356, R357, R358, R359, R360: a check part is queued, of the internal users without rings; one that fails a
test is counted as failed at once where its context waits for nothing, and stands marked with its status else; without a free CHKDQ
entry CHKQ stalls. At its end its context holds the running value over its data and a last part closes it, where the part compares
nothing or its comparison holds; a comparison that fails is marked and counted; a part whose data did not come leaves the context as
before it (log 37); the host writes a context's control word and running value while no part runs in it. -/
def Obligations.CheckCommandsComplete : Prop := ∀ (s : State) (t f ctx : Nat) (w : Word32), s.Live → s.open f = true →
  (∀ d, s.engineTakes 3 2 = true → (s.page f).chkEnable = true → ((s.page f).ring 6).enable = true →
    (s.checkParts.filter fun x => x.page == f && !x.dispatched).length < ((s.page f).ring 6).used →
    (((s.page f).ring 7).free ≤ (s.checkParts.filter fun x => x.page == f).length →
      ∃ u, exec (.checkJobFetch t f d) s = .next u ∧ Did t [.pages] s u ∧ ((u.page f).ring 6).stalled = true ∧
        (∀ k, k ≠ 6 → (u.page f).ring k = (s.page f).ring k) ∧ ∀ g, g ≠ f → u.page g = s.page g) ∧
    ((s.checkParts.filter fun x => x.page == f).length < ((s.page f).ring 7).free → s.checkRefusal f d = none →
      ∃ u, exec (.checkJobFetch t f d) s = .next u ∧ Did t [.checkParts] s u ∧
        u.checkParts = s.checkParts ++ [{ page := f, desc := d, fetched := max s.tsc t, dispatched := false, value := 0, prior := {}
                                          segments := max 1 ((d.len + 65535) / 65536), granted := 0, refused := none }]) ∧
    (∀ e, (s.checkParts.filter fun x => x.page == f).length < ((s.page f).ring 7).free → s.checkRefusal f d = some e →
      checkWaits s.checkParts f d.ctx = true →
      ∃ u, exec (.checkJobFetch t f d) s = .next u ∧ Did t [.pages, .checkParts] s u ∧
        ∃ x, u.checkParts = s.checkParts ++ [x] ∧ x.page = f ∧ x.desc = d ∧ x.refused = some e ∧ x.dispatched = false) ∧
    (∀ e, (s.checkParts.filter fun x => x.page == f).length < ((s.page f).ring 7).free → s.checkRefusal f d = some e → e ≠ 0 → checkWaits s.checkParts f d.ctx = false →
      ∃ u, exec (.checkJobFetch t f d) s = .next u ∧ Did t [.out, .dict, .pages, .checkParts] s u ∧
        u.checkParts.length = s.checkParts.length ∧ Counted [keyOf 0x4210 2] s u)) ∧
  (∀ d, s.engineTakes 3 2 = true → s.checkRefusal 64 d = none →
    ∃ u, exec (.checkJobFetch t 64 d) s = .next u ∧ Did t [.checkParts] s u ∧
      ∃ x, u.checkParts = s.checkParts ++ [x] ∧ x.page = 64 ∧ x.desc = d ∧ x.refused = none ∧ x.dispatched = false) ∧
  (∀ x data v, (s.checkParts.find? fun x => x.page == f && x.desc.ctx == ctx && x.dispatched && x.granted == x.segments) = some x →
    v = crcRun x.desc.poly x.value (slice data 0 x.desc.len) →
    (ctx < 4 →
      (x.desc.op = 2 → x.desc.last = true ∧ crcFinal x.desc.poly v = x.desc.expected % 2 ^ (polyOf x.desc.poly).width) →
      ∃ u, exec (.checkPartComplete t f ctx true data) s = .next u ∧ Did t [.out, .dict, .pages, .checkParts] s u ∧
        u.checkParts = s.checkParts.erase x ∧ (u.page f).mismatch = (s.page f).mismatch ∧
        (u.page f).check ctx = { (s.page f).check ctx with
          running := false, opened := !x.desc.last, value := v, bytes := (((s.page f).check ctx).bytes + x.desc.len) % 2 ^ 32 }) ∧
    (x.desc.op = 2 → x.desc.last = true → crcFinal x.desc.poly v ≠ x.desc.expected % 2 ^ (polyOf x.desc.poly).width →
      ∃ u, exec (.checkPartComplete t f ctx true data) s = .next u ∧ Did t [.out, .dict, .pages, .checkParts] s u ∧
        u.checkParts = s.checkParts.erase x ∧ (u.page f).mismatch = true ∧
        (u.page f).misCount = min 65535 ((s.page f).misCount + 1)) ∧
    (∃ u, exec (.checkPartComplete t f ctx false data) s = .next u ∧ Did t [.out, .dict, .pages, .checkParts] s u ∧
      u.checkParts = s.checkParts.erase x ∧ Counted [keyOf 0x4210 2] s u ∧
      (ctx < 4 → (u.page f).check ctx = { x.prior with ignored := ((s.page f).check ctx).ignored }))) ∧
  (ctx < 4 →
    (((s.page f).check ctx).running = false → bit w.toNat 29 = false →
      ∃ u, exec (.checkCtxCtrlWrite t f ctx w) s = .next u ∧ Did t [.pages] s u ∧ (∀ g, g ≠ f → u.page g = s.page g) ∧
        (∀ k, k ≠ ctx → (u.page f).check k = (s.page f).check k) ∧
        (u.page f).check ctx = { (s.page f).check ctx with opened := bit w.toNat 31, poly := bits w.toNat 2 0 }) ∧
    (((s.page f).check ctx).running = true →
      ∃ u, exec (.checkCtxCtrlWrite t f ctx w) s = .next u ∧ Did t [.pages] s u ∧
        (u.page f).check ctx = { (s.page f).check ctx with ignored := true }) ∧
    (((s.page f).check ctx).running = false →
      (∃ u, exec (.checkValueWrite t f ctx true w) s = .next u ∧ Did t [.pages] s u ∧ (∀ g, g ≠ f → u.page g = s.page g) ∧
        (u.page f).check ctx = { (s.page f).check ctx with value := w.toNat * 2 ^ 32 + ((s.page f).check ctx).value % 2 ^ 32 }) ∧
      (∃ u, exec (.checkValueWrite t f ctx false w) s = .next u ∧ Did t [.pages] s u ∧
        (u.page f).check ctx = { (s.page f).check ctx with value := ((s.page f).check ctx).value / 2 ^ 32 * 2 ^ 32 + w.toNat })) ∧
    (∀ high, ((s.page f).check ctx).running = true →
      ∃ u, exec (.checkValueWrite t f ctx high w) s = .next u ∧ Did t [.pages] s u ∧
        (u.page f).check ctx = { (s.page f).check ctx with ignored := true }))

/-- R365, R372, R375, R376, R379, R436: a trained port with margin on both pairs goes UP and one without stays; loss of the link takes
it DOWN with its queues, counted; a role conflict stands for a second or until the partner's role changes; the contact sense of the
bypass relays connects and parts the ports, and ends an extraction whose insertion is released; sense that disagrees with its
command for 10 ms releases the insertion and escalates the ring block, where its region is free. -/
def Obligations.RingLinksComplete : Prop := ∀ (s : State) (t : Nat) (d : Side), s.Live → s.ringUp = true →
  (∀ a b c, (s.ringPort d).link = .training ∨ (s.ringPort d).link = .down → s.ringSwapping = none → s.ring.state ≠ .inserting →
    (30 ≤ a → 30 ≤ b → ∃ u, exec (.ringTrainingComplete t d a b c) s = .next u ∧ Did t [.out, .dict, .ring] s u ∧
      (u.ringPort d).link = .up ∧ u.ringPort (otherSide d) = s.ringPort (otherSide d) ∧ u.ring.bothDownAt = none ∧
      u.ring.state = s.ring.state ∧ u.val 0x3800 (sideSub d 0x14) = f32Tenth (min a b) % 2 ^ 32 ∧
      u.val 0x3800 (sideSub d 0x17) = f32Tenth c % 2 ^ 32) ∧
    (a < 30 ∨ b < 30 → ∃ u, exec (.ringTrainingComplete t d a b c) s = .next u ∧ Did t [.dict] s u ∧
      u.val 0x3800 (sideSub d 0x14) = f32Tenth (min a b) % 2 ^ 32)) ∧
  (∀ a b c, (s.ringPort d).link = .training → (s.ringPort (otherSide d)).link = .up → s.ringSwapping = none →
    s.ring.state = .inserting → s.ring.inserted = true → 30 ≤ a → 30 ≤ b →
    ∃ u, exec (.ringTrainingComplete t d a b c) s = .next u ∧ Did t [.out, .dict, .ring] s u ∧ (u.ringPort d).link = .up ∧ u.ring.state = .inserted ∧ u.ring.attempts = 0) ∧
  ((s.ringPort d).link = .up → ∃ u, exec (.ringLinkLoss t d) s = .next u ∧ Did t [.out, .dict, .ring] s u ∧
    (u.ringPort d).link = .down ∧ (u.ringPort d).sending = none ∧ (u.ringPort d).transit = [] ∧ (u.ringPort d).localq = [] ∧
    (u.ringPort (otherSide d)).link = (s.ringPort (otherSide d)).link ∧ Counted [keyOf 0x3810 (sideSub d 0x0D)] s u) ∧
  ((s.ringPort d).link ≠ .up → ∃ u, exec (.ringLinkLoss t d) s = .next u ∧ Did t [] s u) ∧
  ((s.ringPort d).link = .training → ∃ u, exec (.ringRoleConflict t d) s = .next u ∧ Did t [.ring] s u ∧
    (u.ringPort d).link = .conflict ∧ (u.ringPort d).conflictAt = max s.tsc t ∧
    u.ringPort (otherSide d) = s.ringPort (otherSide d)) ∧
  (∀ r, (s.ringPort d).link = .conflict →
    (r = true ∨ (s.ringPort d).conflictAt + 1000000000 ≤ max s.tsc t → ∃ u, exec (.ringConflictTimeout t d r) s = .next u ∧
      Did t [.ring] s u ∧ (u.ringPort d).link = .training ∧ u.ringPort (otherSide d) = s.ringPort (otherSide d)) ∧
    (r = false → max s.tsc t < (s.ringPort d).conflictAt + 1000000000 →
      ∃ u, exec (.ringConflictTimeout t d r) s = .next u ∧ Did t [] s u)) ∧
  (∀ ke kw, (∃ u, exec (.ringRelayContactSense t ke kw) s = .next u ∧ Did t [.out, .ring, .sup] s u ∧ u.ring.ke = ke ∧ u.ring.kw = kw ∧
      u.ring.inserted = s.ring.inserted ∧
      u.ring.east.link = (if ke = true then (if s.ring.east.link = .off then .training else s.ring.east.link) else .off) ∧
      u.ring.west.link = (if kw = true then (if s.ring.west.link = .off then .training else s.ring.west.link) else .off) ∧
      (s.ring.state = .extracting → s.ring.inserted = false → ke = false → kw = false → u.ring.state = .bypassed ∧ u.ring.stays = true) ∧
      (¬(s.ring.state = .extracting ∧ s.ring.inserted = false ∧ ke = false ∧ kw = false) → u.ring.state = s.ring.state)) ∧
    (ke = s.ring.inserted → kw = s.ring.inserted → ∃ u, exec (.bypassSenseMismatch t ke kw) s = .next u ∧ Did t [.out, .ring, .sup] s u ∧
      u.ring.ke = ke ∧ u.ring.kw = kw ∧ u.ring.inserted = s.ring.inserted) ∧
    (ke ≠ s.ring.inserted ∨ kw ≠ s.ring.inserted → s.ring.commandAt + 10000000 ≤ max s.tsc t → s.queuedReset 4 0 = false →
      s.regionBusy 4 = false → ∃ u, exec (.bypassSenseMismatch t ke kw) s = .next u ∧
        Did t [.out, .dict, .hier, .log, .ring, .rst, .sup] s u ∧ u.ring.inserted = false ∧
        (u.block 4 0).state = .idleReq ∧ ∀ b, b < 64 → b ≠ 0 → u.block 4 b = s.block 4 b))

/-- R379, R382: the way into the ring: the steady time, its restart at every interruption, the insertion at its beat while nothing bars
it, the training limit with its failed attempts and the interval after each (log 38), and the bypass when neither port has been UP
for long. -/
def Obligations.RingInsertionCompletes : Prop := ∀ (s : State) (t : Nat), s.Live → s.ringUp = true →
  (s.ring.state = .waitSteady → s.ring.steady = false →
    (s.ring.steadyAt + s.val 0x3800 8 * 1000000 ≤ max s.tsc t → ∃ u, exec (.ringSteady t) s = .next u ∧ Did t [.ring] s u ∧
      u.ring = { s.ring with steady := true
                             insertBeat := if s.val 0x3800 6 = 1 then some (max s.tsc t / 40000 + 1) else s.ring.insertBeat }) ∧
    (max s.tsc t < s.ring.steadyAt + s.val 0x3800 8 * 1000000 → ∃ u, exec (.ringSteady t) s = .next u ∧ Did t [] s u)) ∧
  (s.ring.state = .waitSteady → ∃ u, exec (.ringActivityInterrupted t) s = .next u ∧ Did t [.ring] s u ∧
    u.ring = { s.ring with steadyAt := max s.tsc t, steady := false, insertBeat := none, intervalAt := none }) ∧
  (s.ring.state ≠ .waitSteady → ∃ u, exec (.ringActivityInterrupted t) s = .next u ∧ Did t [] s u) ∧
  (∀ b, s.ring.insertBeat = some b → s.ring.state = .waitSteady → s.ring.steady = true → b ≤ max s.tsc t / 40000 →
    (s.ringBarred = false → s.rst.extractAt = none → s.flag 0x3800 5 = true →
      ∃ u, exec (.ringInsertionBeat t) s = .next u ∧ Did t [.ring] s u ∧ u.ring.state = .inserting ∧ u.ring.inserted = true ∧
        u.ring.insertingAt = max s.tsc t ∧ u.ring.insertBeat = none ∧ (s.ring.inserted = false → u.ring.commandAt = max s.tsc t) ∧
        u.ring.east = s.ring.east ∧ u.ring.west = s.ring.west) ∧
    (s.ringBarred = true ∨ s.rst.extractAt ≠ none ∨ s.flag 0x3800 5 = false →
      ∃ u, exec (.ringInsertionBeat t) s = .next u ∧ Did t [] s u)) ∧
  (∀ b, s.ring.insertBeat = some b → max s.tsc t / 40000 < b → ∃ u, exec (.ringInsertionBeat t) s = .next u ∧ Did t [] s u) ∧
  (s.ring.state = .inserting → s.ring.inserted = true → s.ring.insertingAt + s.val 0x3800 9 * 1000000 ≤ max s.tsc t →
    (s.ring.east.link = .up ∨ s.ring.west.link = .up → ∃ u, exec (.ringTrainingLimit t) s = .next u ∧ Did t [.dict, .ring] s u ∧
      u.ring = { s.ring with state := .inserted, attempts := 0, insertBeat := none } ∧ Counted [keyOf 0x3810 0x0F] s u) ∧
    (s.ring.east.link ≠ .up → s.ring.west.link ≠ .up → ∃ u, exec (.ringTrainingLimit t) s = .next u ∧ Did t [.dict, .ring] s u ∧
      Counted [keyOf 0x3810 0x10] s u ∧ u.ring.inserted = false ∧ u.ring.attempts = s.ring.attempts + 1 ∧
      (s.val 0x3800 0x0A ≤ s.ring.attempts + 1 → u.ring.state = .failed ∧ u.ring.intervalAt = none) ∧
      (s.ring.attempts + 1 < s.val 0x3800 0x0A → u.ring.state = .inserting ∧ u.ring.intervalAt = some (max s.tsc t)))) ∧
  (∀ a, s.ring.intervalAt = some a → s.ring.state = .inserting →
    (a + s.val 0x3800 0x0B * 1000000000 ≤ max s.tsc t → ∃ u, exec (.ringAttemptInterval t) s = .next u ∧ Did t [.ring] s u ∧
      u.ring = { s.ring with state := .waitSteady, steadyAt := max s.tsc t, steady := false, insertBeat := none, intervalAt := none }) ∧
    (max s.tsc t < a + s.val 0x3800 0x0B * 1000000000 → ∃ u, exec (.ringAttemptInterval t) s = .next u ∧ Did t [] s u)) ∧
  (∀ a, s.ring.bothDownAt = some a → s.ring.state = .inserted → s.ringSwapping = none → s.val 0x3800 0x0C ≠ 0 →
    (a + s.val 0x3800 0x0C * 1000000 ≤ max s.tsc t → ∃ u, exec (.autoBypass t) s = .next u ∧ Did t [.dict, .ring] s u ∧
      Counted [keyOf 0x3810 0x11] s u ∧ u.ring.state = .waitSteady ∧ u.ring.inserted = false ∧ u.ring.steadyAt = max s.tsc t) ∧
    (max s.tsc t < a + s.val 0x3800 0x0C * 1000000 → ∃ u, exec (.autoBypass t) s = .next u ∧ Did t [] s u))

/-- R352, R367, R368, R369, R370, R371, R373, R374, R381: a frame without a fault that is not the module's own, no duplicate and not for
the module alone goes on to the other port, once stored where that port is idle, or cut through where it may be; one of the module's
own or a duplicate is removed, ended by ABORT where it was cut through; one too long, without a tag, ended by ABORT or with a bad
check is discarded and counted; a supervision frame leaves on every port that is UP and idle and waits on a busy one; a port takes
its next frame when the last has lasted its time, in EXTRACTING the quiet line releases the insertion; messages of precision time
are answered, forwarded with their residence, which is free within its bound (log 6, log 38), measure the delay to the partner, and
choose the port; the module's own are removed. -/
def Obligations.RingTrafficCompletes : Prop := ∀ (s : State) (t : Nat) (d : Side) (f : RingFrame), s.Live → s.ringUp = true →
  ((s.ringPort d).link = .up →
    (f.hsrTag = none → f.da ≠ daPeerDelay → ∃ u, exec (.ringFrameReceived t d f) s = .next u ∧ Did t [.dict] s u ∧
      Counted [keyOf 0x3810 (sideSub d 0x0B)] s u) ∧
    (f.hsrTag = none → f.da = daPeerDelay →
      (f.aborted = true → ∃ u, exec (.ringFrameReceived t d f) s = .next u ∧ Did t [.dict] s u ∧
        Counted [keyOf 0x3810 (sideSub d 0x13)] s u) ∧
      (f.aborted = false → f.fcsOk = true → ∃ u, exec (.ringFrameReceived t d f) s = .next u ∧ Did t [] s u) ∧
      (f.aborted = false → f.fcsOk = false → ∃ u, exec (.ringFrameReceived t d f) s = .next u ∧ Did t [.dict] s u ∧
        Counted [keyOf 0x4220 (1 + sideNo d)] s u)) ∧
    (∀ n, f.hsrTag = some n → 1528 < f.length → ∃ u, exec (.ringFrameReceived t d f) s = .next u ∧ Did t [.dict] s u ∧
      Counted [keyOf 0x3810 (sideSub d 0x0B)] s u) ∧
    (∀ n, f.hsrTag = some n → f.length ≤ 1528 → s.cutsThrough d f.da = true → f.aborted = false → f.fcsOk = true →
      (f.sa = Config.ringAddress ∨ (s.upTo t).isDuplicate f.sa n = true →
        ∃ u, exec (.ringFrameReceived t d f) s = .next u ∧ Did t [.out, .dict] s u ∧ u.out = .ringFrame (otherSide d) f true :: s.out ∧
          Counted [keyOf 0x3810 (sideSub d 7)] s u) ∧
      (f.sa ≠ Config.ringAddress → (s.upTo t).isDuplicate f.sa n = false →
        ∃ u, exec (.ringFrameReceived t d f) s = .next u ∧ Did t [.out, .dict, .ring] s u ∧
          u.out = .ringFrame (otherSide d) f false :: s.out ∧
          (u.ringPort (otherSide d)).sending = some ⟨f, true, true, max s.tsc t, max s.tsc t⟩ ∧
          (f.sa, n, max s.tsc t) ∈ u.ring.duplicates ∧ u.ringPort d = s.ringPort d)) ∧
    (∀ n, f.hsrTag = some n → f.length ≤ 1528 → s.cutsThrough d f.da = false →
      (f.aborted = true → ∃ u, exec (.ringFrameReceived t d f) s = .next u ∧ Did t [.dict] s u ∧
        Counted [keyOf 0x3810 (sideSub d 0x13)] s u) ∧
      (f.aborted = false → f.fcsOk = false → ∃ u, exec (.ringFrameReceived t d f) s = .next u ∧ Did t [.dict] s u ∧
        Counted [keyOf 0x4220 (1 + sideNo d)] s u) ∧
      (f.aborted = false → f.fcsOk = true → f.sa = Config.ringAddress →
        ∃ u, exec (.ringFrameReceived t d f) s = .next u ∧ Did t [] s u) ∧
      (f.aborted = false → f.fcsOk = true → f.sa ≠ Config.ringAddress → f.da ≠ daPtp → f.da ≠ daPeerDelay →
        (s.upTo t).isDuplicate f.sa n = true → ∃ u, exec (.ringFrameReceived t d f) s = .next u ∧ Did t [.dict] s u ∧
          Counted [keyOf 0x3810 (sideSub d 9)] s u) ∧
      (f.aborted = false → f.fcsOk = true → f.sa ≠ Config.ringAddress → f.da ≠ daPtp → f.da ≠ daPeerDelay →
        (s.upTo t).isDuplicate f.sa n = false → f.da = Config.ringAddress →
        ∃ u, exec (.ringFrameReceived t d f) s = .next u ∧ Did t [.dict, .ring] s u ∧ (f.sa, n, max s.tsc t) ∈ u.ring.duplicates ∧
          u.ring.east = s.ring.east ∧ u.ring.west = s.ring.west) ∧
      (f.aborted = false → f.fcsOk = true → f.sa ≠ Config.ringAddress → f.da ≠ daPtp → f.da ≠ daPeerDelay →
        (s.upTo t).isDuplicate f.sa n = false → f.da ≠ Config.ringAddress → (s.ringPort (otherSide d)).link = .up →
        (s.ringPort (otherSide d)).sending = none → (s.ringPort (otherSide d)).transit = [] → (s.ringPort (otherSide d)).localq = [] →
        ∃ u, exec (.ringFrameReceived t d f) s = .next u ∧ Did t [.out, .dict, .ring] s u ∧
          (u.ringPort (otherSide d)).sending = some ⟨f, true, false, max s.tsc t, max s.tsc t⟩ ∧ u.out = .ringFrame (otherSide d) f false :: s.out ∧
          (f.sa, n, max s.tsc t) ∈ u.ring.duplicates ∧ u.ringPort d = s.ringPort d))) ∧
  ((s.ringPort d).link ≠ .up → ∃ u, exec (.ringFrameReceived t d f) s = .next u ∧ Did t [] s u) ∧
  (s.ring.supervisedAt + s.val 0x3800 0x0E * 1000000 ≤ max s.tsc t →
    ∃ u, exec (.hsrSupervisionSend t) s = .next u ∧ Did t [.out, .ring] s u ∧ u.ring.supervisedAt = max s.tsc t ∧
      u.ring.sequence = (s.ring.sequence + 1) % 65536 ∧
      (∀ y, (s.ringPort d).link = .up → (s.ringPort d).sending = some y →
        ∃ x, (u.ringPort d).localq = (s.ringPort d).localq ++ [x] ∧ x.frame.da = 0x01154E000100 ∧ x.frame.hsrTag = some s.ring.sequence ∧
          x.queued = max s.tsc t) ∧
      ((s.ringPort d).link = .up → s.ring.state ≠ .extracting → (s.ringPort d).sending = none → (s.ringPort d).transit = [] →
        (s.ringPort d).localq = [] → ∃ x, (u.ringPort d).sending = some x ∧ x.transit = false ∧ x.frame.da = 0x01154E000100 ∧ x.frame.hsrTag = some s.ring.sequence)) ∧
  (max s.tsc t < s.ring.supervisedAt + s.val 0x3800 0x0E * 1000000 →
    ∃ u, exec (.hsrSupervisionSend t) s = .next u ∧ Did t [] s u) ∧
  ((s.ringPort d).link = .up → s.ring.state ≠ .extracting →
    (∀ y, (s.ringPort d).sending = some y → y.started + ringFrameNs y.frame.length ≤ max s.tsc t) →
    ∃ u, exec (.ringTransmitEnd t d) s = .next u ∧ Did t [.out, .ring] s u ∧
    u.ringPort (otherSide d) = s.ringPort (otherSide d) ∧
    ((s.ringPort d).transit = [] → (s.ringPort d).localq = [] → (u.ringPort d).sending = none) ∧
    (∀ x l, (s.ringPort d).localq = [] → (s.ringPort d).transit = x :: l →
      (u.ringPort d).sending = some { x with started := max s.tsc t } ∧ (u.ringPort d).transit = l) ∧
    (∀ x l, (s.ringPort d).localq = x :: l → (s.ringPort d).transit = [] ∨ x.queued + 100000 ≤ max s.tsc t →
      (u.ringPort d).sending = some { x with started := max s.tsc t } ∧ (u.ringPort d).localq = l)) ∧
  (∀ y, (s.ringPort d).sending = some y →
    (max s.tsc t < y.started + ringFrameNs y.frame.length → ∃ u, exec (.ringTransmitEnd t d) s = .next u ∧ Did t [] s u) ∧
    (y.started + ringFrameNs y.frame.length ≤ max s.tsc t → s.ring.state = .extracting → (s.ringPort (otherSide d)).sending = none →
      ∃ u, exec (.ringTransmitEnd t d) s = .next u ∧ Did t [.ring] s u ∧ (u.ringPort d).sending = none ∧ u.ring.inserted = false)) ∧
  (∀ m, (s.ringPort d).link = .up → m.own = true → ∃ u, exec (.ptpMessageReceived t d m) s = .next u ∧ Did t [] s u) ∧
  (∀ m, (s.ringPort d).link = .up → m.own = false →
    (m.kind = .other → (s.ringPort (otherSide d)).link = .up →
      ∃ u, exec (.ptpMessageReceived t d m) s = .next u ∧ Did t [.out] s u ∧ u.out = .ptp (otherSide d) m :: s.out) ∧
    (m.kind = .pdelayResp → ∃ u, exec (.ptpMessageReceived t d m) s = .next u ∧ Did t [.ring] s u ∧
      (u.ringPort d).response = some (m.sequence, m.requestReceived, max s.tsc t)) ∧
    (∀ n t2 t4, m.kind = .pdelayRespFollowUp → (s.ringPort d).response = some (n, t2, t4) → n = m.sequence →
      ∃ u, exec (.ptpMessageReceived t d m) s = .next u ∧ Did t [.dict, .ring] s u ∧ (u.ringPort d).response = none ∧
        u.val 0x3820 (ptpNumber d) = unsigned 64
          ((((t4 : Int) - ((s.ringPort d).pdelayAt : Int)) - ((m.origin : Int) - (t2 : Int)) - m.correction) / 2) % 2 ^ 64) ∧
    (m.kind = .pdelayReq → ∃ u, exec (.ptpMessageReceived t d m) s = .next u ∧ Did t [.out] s u ∧
      u.out = .ptp d { m with kind := .pdelayRespFollowUp, origin := max s.tsc t, correction := 0, own := true } ::
        .ptp d { m with kind := .pdelayResp, requestReceived := max s.tsc t, correction := 0, own := true } :: s.out) ∧
    (∀ n r, m.kind = .followUp → (s.ringPort d).residence = some (n, r) → n = m.sequence → (s.ringPort (otherSide d)).link = .up →
      ∃ u, exec (.ptpMessageReceived t d m) s = .next u ∧ Did t [.out, .ring] s u ∧ (u.ringPort d).residence = none ∧
        u.out = .ptp (otherSide d) { m with correction := m.correction + (r : Int) + signed 64 (s.val 0x3820 (ptpNumber d)) } :: s.out) ∧
    (m.kind = .sync → ∃ u, exec (.ptpMessageReceived t d m) s = .next u ∧ Did t [.free, .out, .ring] s u ∧
      (u.ringPort d).residence = some (m.sequence, Config.freeValue s.free % 5549)) ∧
    (m.kind = .announce → s.ptpRuns m = true → m.bestMaster = true → (s.ringPort (otherSide d)).steps = none →
      ∃ u, exec (.ptpMessageReceived t d m) s = .next u ∧ Did t [.out, .ring] s u ∧ (u.ringPort d).steps = some m.stepsRemoved ∧
        u.ring.ptpPort = 1 + sideNo d)) ∧
  (s.ring.ptpPort = 1 + sideNo d → (s.ringPort d).syncAt + 3000000000 ≤ max s.tsc t →
    ∃ u, exec (.ptpSyncTimeout t) s = .next u ∧ Did t [.ring] s u ∧ (u.ringPort d).steps = none ∧
      u.ring.ptpPort = (if (s.ringPort (otherSide d)).steps.isSome = true then 1 + sideNo (otherSide d) else 0)) ∧
  (s.val 0x1200 0x0F ≠ 0 → ∃ u, exec (.ptpMessageInterval t) s = .next u ∧ Did t [.out, .ring] s u ∧
    u.ring.ptpSequence = (s.ring.ptpSequence + 1) % 65536 ∧ (u.ringPort d).pdelayAt = max s.tsc t ∧
    ((s.ringPort d).link = .up → Out.ptp d (ptpOwn .pdelayReq (s.val 0x1200 0x0E) s.ring.ptpSequence (max s.tsc t) 0) ∈ u.out)) ∧
  (s.val 0x1200 0x0F = 0 → ∃ u, exec (.ptpMessageInterval t) s = .next u ∧ Did t [] s u)

/-- R386, R389, R394, R397, R399, R404, R405: at the end of a conversion period a channel publishes value, status, time, quadrature and
quantity of its window, a clamped pin stays flagged, and an analogue output of the channel drives a VALID value while VREF_AO
stands; a second bad decision on a lead declares a break, logged, and the eighth good one clears it; below 2.0 V of VREF_AO every
live output takes its fail action. Results come at whole periods from the restart (log 39); where the samples of the window do not
come, the operand says what they give (log 70). -/
def Obligations.SensingResultsComplete : Prop := ∀ (s : State) (t m : Nat), s.Live → m < 8 → s.chanOn m = true →
  (∀ x w y past v, w = (s.upTo t).windowSample m x → (s.upTo t).periodEnds m = true → (s.upTo t).curve (s.chan m 6) w = (y, past, v) →
    ∃ u, exec (.resultPublish t m x) s = .next u ∧ Did t [.free, .dict, .sensing] s u ∧
      u.val (0x5100 + m) 0x10 = fracToF32 ((y.mul (f32ToFrac (s.chan m 9))).add (f32ToFrac (s.chan m 0x0A))) % 2 ^ 32 ∧
      u.val (0x5100 + m) 0x11 = (s.upTo t).statusOf m w past ∧ u.val (0x5100 + m) 0x12 = max s.tsc t % 2 ^ 64 ∧
      u.val (0x5100 + m) 0x13 = w.quadrature % 2 ^ 32 ∧ u.val (0x5100 + m) 0x14 = w.quantity % 2 ^ 32 ∧
      u.val (0x5100 + m) 0x15 = min (2 ^ 32 - 1) (s.val (0x5100 + m) 0x15 + 1) ∧
      (∀ k, idxOf k ≠ 0x5100 + m → u.raw k = s.raw k) ∧ u.sensing.clampFlags = Nat.lor s.sensing.clampFlags (w.clampedPins % 2 ^ 32) ∧
      u.sensing.channels = s.sensing.channels ∧ u.sensing.generators = s.sensing.generators ∧
      u.sensing.switches = s.sensing.switches ∧ (∀ a < 4, s.aov a 2 ≠ m → u.analog a = s.analog a) ∧
      (∀ a < 4, s.aov a 2 = m → s.analogLive a = true → (s.upTo t).statusOf m w past = 0 → 2000 ≤ s.sensing.vref →
        (u.analog a).connected = true ∧ (u.analog a).failing = false ∧ (u.analog a).fraction = fracToF32 (limitFraction
          (((f32ToFrac (fracToF32 ((y.mul (f32ToFrac (s.chan m 9))).add (f32ToFrac (s.chan m 0x0A))))).sub (f32ToFrac (s.aov a 3))).div
            ((f32ToFrac (s.aov a 4)).sub (f32ToFrac (s.aov a 3))))).1)) ∧
  (∀ x, (s.upTo t).periodEnds m = false → ∃ u, exec (.resultPublish t m x) s = .next u ∧ Did t [] s u) ∧
  (s.chan m 0x0B = 1 → ∀ pairs,
    ((∃ q ∈ pairs, s.val 0x5001 5 < q.2.2) → (s.channel m).broken = false →
      ((s.channel m).bad = 0 → ∃ u, exec (.leadMonitorDecision t m pairs) s = .next u ∧ Did t [.sensing] s u ∧
        u.channel m = { s.channel m with bad := 1, good := 0 } ∧ ∀ k, k ≠ m → u.channel k = s.channel k) ∧
      (1 ≤ (s.channel m).bad → ∃ u, exec (.leadMonitorDecision t m pairs) s = .next u ∧
        Did t [.free, .out, .dict, .log, .routes, .cells, .trip, .sensing] s u ∧ (u.channel m).broken = true ∧
        (∀ k, k ≠ m → u.channel k = s.channel k) ∧ s.log.detected.length < u.log.detected.length ∧
        (∀ q ∈ pairs, s.val 0x5001 5 < q.2.2 → bit (u.channel m).pins (q.1 % 32) = true ∧ bit (u.channel m).pins (q.2.1 % 32) = true))) ∧
    ((∃ q ∈ pairs, s.val 0x5001 5 < q.2.2) → (s.channel m).broken = true → ∃ u, exec (.leadMonitorDecision t m pairs) s = .next u ∧
      Did t [.sensing] s u ∧ (u.channel m).broken = true ∧ (u.channel m).good = 0 ∧ ∀ k, k ≠ m → u.channel k = s.channel k) ∧
    ((∀ q ∈ pairs, q.2.2 ≤ s.val 0x5001 5) → (s.channel m).broken = false →
      ∃ u, exec (.leadMonitorDecision t m pairs) s = .next u ∧ Did t [.sensing] s u ∧ u.channel m = { s.channel m with bad := 0 }) ∧
    ((∀ q ∈ pairs, q.2.2 ≤ s.val 0x5001 5) → (s.channel m).broken = true → (s.channel m).good + 1 < 8 →
      ∃ u, exec (.leadMonitorDecision t m pairs) s = .next u ∧ Did t [.sensing] s u ∧
        u.channel m = { s.channel m with good := (s.channel m).good + 1 }) ∧
    ((∀ q ∈ pairs, q.2.2 ≤ s.val 0x5001 5) → (s.channel m).broken = true → 7 ≤ (s.channel m).good →
      ∃ u, exec (.leadMonitorDecision t m pairs) s = .next u ∧ Did t [.dict, .sensing] s u ∧ (u.channel m).broken = false ∧
        (u.channel m).pins = 0)) ∧
  (∀ mv, 2000 ≤ mv → ∃ u, exec (.vrefAoChange t mv) s = .next u ∧ Did t [.sensing] s u ∧ u.sensing = { s.sensing with vref := mv }) ∧
  (∀ mv, mv < 2000 → ∃ u, exec (.vrefAoChange t mv) s = .next u ∧ Did t [.sensing] s u ∧ u.sensing.vref = mv ∧
    u.sensing.channels = s.sensing.channels ∧ ∀ a < 4, (s.analogLive a = false → u.analog a = s.analog a) ∧
      (s.analogLive a = true → (u.analog a).failing = true ∧ (s.aov a 5 = 0 → (u.analog a).connected = false) ∧
        (s.aov a 5 = 1 → u.analog a = { s.analog a with failing := true }) ∧
        (s.aov a 5 = 2 → (u.analog a).connected = true ∧ (u.analog a).fraction = 0) ∧
        (s.aov a 5 = 3 → (u.analog a).connected = true ∧ (u.analog a).fraction = 0x3F800000)))

/-- R393, R398, R400, R401, R403, R406: a fast value moves its switch as its mode says, and a status above WARMING puts it to its
fail-state once, where it stays until a VALID value; a generator in FAULT restarts after a second with its channels, and runs when
it has settled; a binary input follows its class's thresholds, and its filtered state a level held for the filter time. The status
of a fast value is at least what the module knows of its channel (log 39). -/
def Obligations.SensingUnitsComplete : Prop := ∀ (s : State) (t : Nat), s.Live →
  (∀ n v st, n < 16 → s.sensingUp = true → (s.switch n).enabled = true →
    (max st (max (s.chanStatus (s.swv n 2)) (ofBool ((s.upTo t).settling (s.swv n 2)))) = 0 →
      ∃ u, exec (.thresholdSwitchChange t n v st) s = .next u ∧ Did t [.free, .out, .dict, .log, .routes, .cells, .trip, .sensing] s u ∧
        (∀ k, k ≠ n → u.switch k = s.switch k) ∧
        u.switch n = { s.switch n with
          on := compareSwitch (s.swv n 3) (f32ToFrac (s.swv n 4)) (f32ToFrac (s.swv n 5)) (f32ToFrac (s.swv n 6)) (f32ToFrac v) (s.switch n).on
          inFail := false, fresh := false } ∧ u.sensing.channels = s.sensing.channels ∧ u.sensing.generators = s.sensing.generators) ∧
    (2 ≤ max st (max (s.chanStatus (s.swv n 2)) (ofBool ((s.upTo t).settling (s.swv n 2)))) → (s.switch n).fresh = false →
      (s.switch n).inFail = false → ∃ u, exec (.thresholdSwitchChange t n v st) s = .next u ∧ Did t [.free, .out, .dict, .log, .routes, .cells, .trip, .sensing] s u ∧
        (∀ k, k ≠ n → u.switch k = s.switch k) ∧
        u.switch n = { s.switch n with on := if s.swv n 7 = 2 then (s.switch n).on else s.swv n 7 == 1, inFail := true }) ∧
    (max st (max (s.chanStatus (s.swv n 2)) (ofBool ((s.upTo t).settling (s.swv n 2)))) ≠ 0 →
      (s.switch n).fresh = true ∨ (s.switch n).inFail = true ∨
        max st (max (s.chanStatus (s.swv n 2)) (ofBool ((s.upTo t).settling (s.swv n 2)))) = 1 →
      ∃ u, exec (.thresholdSwitchChange t n v st) s = .next u ∧ Did t [.free, .out, .dict, .log, .routes, .cells, .trip] s u)) ∧
  (∀ x, s.sensingUp = true →
    ((s.gen x).state = 1 ∨ (s.gen x).state = 2 → ∃ u, exec (.generatorFault t x) s = .next u ∧
      Did t [.free, .out, .dict, .log, .routes, .cells, .trip, .sensing] s u ∧ u.gen x = { state := 3, at_ := max s.tsc t } ∧
      (∀ y, y ≠ x → u.gen y = s.gen y) ∧ u.sensing.channels = s.sensing.channels ∧
      (x < 4 → u.val (0x5180 + x) 8 = min (2 ^ 32 - 1) (s.val (0x5180 + x) 8 + 1))) ∧
    ((s.gen x).state = 3 → (s.gen x).at_ + 1000000000 ≤ max s.tsc t → s.genv x 1 ≠ 0 → s.outputsSafe = false →
      ∃ u, exec (.generatorRestart t x) s = .next u ∧ Did t [.dict, .sensing] s u ∧ u.gen x = { state := 1, at_ := max s.tsc t } ∧
        (∀ y, y ≠ x → u.gen y = s.gen y) ∧ (∀ m < 8, m ∈ s.genUsers x → (u.channel m).restartAt = max s.tsc t) ∧
        (∀ m, m ∉ s.genUsers x → u.channel m = s.channel m)) ∧
    ((s.gen x).state = 3 → max s.tsc t < (s.gen x).at_ + 1000000000 → ∃ u, exec (.generatorRestart t x) s = .next u ∧ Did t [] s u)) ∧
  (∀ x, (s.gen x).state = 1 →
    ((s.gen x).at_ + s.genSettle x ≤ max s.tsc t → ∃ u, exec (.generatorRampEnd t x) s = .next u ∧ Did t [.sensing] s u ∧
      u.gen x = { s.gen x with state := 2 } ∧ ∀ y, y ≠ x → u.gen y = s.gen y) ∧
    (max s.tsc t < (s.gen x).at_ + s.genSettle x → ∃ u, exec (.generatorRampEnd t x) s = .next u ∧ Did t [] s u)) ∧
  (∀ n v, n < 16 →
    ((biLimits (s.val 0x5601 (n + 1))).1 < v → bit s.trip.biRaw n = false →
      ∃ u, exec (.binaryInputEdge t n v) s = .next u ∧ Did t [.trip] s u ∧ bit u.trip.biRaw n = true ∧
        (∀ k, k ≠ n → bit u.trip.biRaw k = bit s.trip.biRaw k) ∧ Table.get 0 u.trip.biSince n = max s.tsc t ∧
        u.trip.biState = s.trip.biState ∧ u.trip.outputs = s.trip.outputs) ∧
    (v < (biLimits (s.val 0x5601 (n + 1))).2 → bit s.trip.biRaw n = true →
      ∃ u, exec (.binaryInputEdge t n v) s = .next u ∧ Did t [.trip] s u ∧ bit u.trip.biRaw n = false ∧
        (∀ k, k ≠ n → bit u.trip.biRaw k = bit s.trip.biRaw k)) ∧
    ((biLimits (s.val 0x5601 (n + 1))).2 ≤ v → v ≤ (biLimits (s.val 0x5601 (n + 1))).1 →
      ∃ u, exec (.binaryInputEdge t n v) s = .next u ∧ Did t [] s u)) ∧
  (∀ n, n < 16 → s.tripUp = true →
    (max (Table.get 0 s.trip.biSince n) s.trip.releasedAt + s.val 0x5600 (n + 1) * 100000 ≤ max s.tsc t →
      ∃ u, exec (.biFilterExpiry t n) s = .next u ∧ Did t [.free, .out, .dict, .log, .routes, .cells, .trip] s u ∧ bit u.trip.biState n = bit s.trip.biRaw n ∧
        (∀ k, k ≠ n → bit u.trip.biState k = bit s.trip.biState k) ∧ u.trip.biRaw = s.trip.biRaw) ∧
    (max s.tsc t < max (Table.get 0 s.trip.biSince n) s.trip.releasedAt + s.val 0x5600 (n + 1) * 100000 →
      ∃ u, exec (.biFilterExpiry t n) s = .next u ∧ Did t [] s u))

/-- R408, R409, R411, R426, R429: every reset source resets with its own cause and kind: the supply cold, nMRST of at least 10 µs full,
the watchdog warm, and full where it comes again within 60 s, 125 °C full with reset held until 110 °C; a heavier sequence in progress
absorbs a lighter source. What a reset keeps beside the lists of R409 is the model's (log 18, log 31). -/
def Obligations.ResetSourcesComplete : Prop := ∀ (s : State) (t : Nat), s.Canonical →
  (s.rst.powered = false → s.rst.connected = true → s.rst.backup.dark = [] →
    ∃ u, exec (.powerOn t) s = .next u ∧ s.WasReset u 1 1 ∧ u.rst.powered = true ∧ u.tsc = 0 ∧ (u.domain 0).state = .on ∧
      (u.domain 1).state = .ramping) ∧
  (s.rst.powered = true ∨ s.rst.connected = false → ∃ u, exec (.powerOn t) s = .next u ∧ Did t [] s u) ∧
  (s.rst.powered = true → ∃ u, exec (.brownOut t) s = .next u ∧ s.WasReset u 2 1 ∧ u.tsc = 0) ∧
  (s.rst.powered = true → s.rst.extractAt = none → s.rst.sequence = none →
    (∀ low, 10000 ≤ low → ∃ u, exec (.external t low) s = .next u ∧ s.WasReset u 3 2 ∧ u.tsc = max s.tsc t ∧ u.rst.lockout = false) ∧
    (s.rst.lockout = false →
      ((∀ a, s.rst.watchdogAt = some a → a + 60000000000 < max s.tsc t) →
        ∃ u, exec (.watchdog t) s = .next u ∧ s.WasReset u 7 3 ∧ u.tsc = max s.tsc t ∧ u.rst.watchdogAt = some (max s.tsc t)) ∧
      (∀ a, s.rst.watchdogAt = some a → max s.tsc t ≤ a + 60000000000 →
        ∃ u, exec (.watchdog t) s = .next u ∧ s.WasReset u 7 2 ∧ u.tsc = max s.tsc t) ∧
      (∀ x : Int, 125000 ≤ x → ∃ u, exec (.thermal t x) s = .next u ∧ s.WasReset u 8 2 ∧ u.rst.thermalHold = true))) ∧
  (s.rst.powered = true → (∀ low, low < 10000 → ∃ u, exec (.external t low) s = .next u ∧ Did t [] s u) ∧
    (∀ x : Int, x < 125000 → ∃ u, exec (.thermal t x) s = .next u ∧ Did t [] s u) ∧
    (∀ q low, s.rst.lockout = false → s.rst.sequence = some q → q.kind = 1 → ∃ u, exec (.external t low) s = .next u ∧ Did t [] s u) ∧
    (∀ x : Int, x ≤ 110000 → s.rst.thermalHold = true → ∃ u, exec (.thermalRelease t x) s = .next u ∧ Did t [.rst] s u ∧
      u.rst.thermalHold = false ∧ u.rst.backup = s.rst.backup) ∧
    (∀ x : Int, 110000 < x → ∃ u, exec (.thermalRelease t x) s = .next u ∧ Did t [] s u))

/-- R413, R414, R415, R434: a domain whose power is good waits for its clock; with the clock one that has blocks stands in reset with
them until their release; without one for 5 ms it is in FAULT and its blocks are out of service (stated where they are not ones
whose hold is fatal); a running domain that loses its clock is isolated at once, its blocks stopped (read as OFF, log 30), and comes
back into reset with the clock. D02's power starts the counter at 0 (log 31). -/
def Obligations.DomainsComplete : Prop := ∀ (s : State) (t d : Nat), s.Live → d < 30 →
  ((s.domain d).state = .ramping → d ≠ 2 → ∃ u, exec (.domainPowerGood t d) s = .next u ∧ Did t [.rst] s u ∧
    u.domain d = { s.domain d with state := .clockWait, since := max s.tsc t } ∧ ∀ e, e ≠ d → u.domain e = s.domain e) ∧
  ((s.domain 2).state = .ramping → ∃ u, exec (.domainPowerGood t 2) s = .next u ∧ u.tsc = 0 ∧ (u.domain 2).state = .clockWait ∧
    Frame [.tsc, .log, .rst] s u) ∧
  ((s.domain d).state = .clockWait → s.domainBlocks d ≠ [] → ∃ u, exec (.domainClockGood t d) s = .next u ∧ Did t [.hier, .rst] s u ∧
    (u.domain d).state = .reset ∧ (u.domain d).since = max s.tsc t ∧ (∀ rb ∈ s.domainBlocks d, u.block rb.1 rb.2 =
      if (s.block rb.1 rb.2).state = .off then { s.block rb.1 rb.2 with state := .reset } else s.block rb.1 rb.2)) ∧
  ((s.domain d).state = .isolated → s.domainBlocks d ≠ [] → ∃ u, exec (.domainClockReturn t d) s = .next u ∧ Did t [.hier, .rst] s u ∧
    (u.domain d).state = .reset) ∧
  ((s.domain d).state = .clockWait ∨ (s.domain d).state = .isolated → (∀ rb ∈ s.domainBlocks d, rb.1 ≠ 5 ∧ rb ≠ (3, 1)) →
    (s.domain d).since + 5000000 ≤ max s.tsc t → ∃ u, exec (.domainClockTimeout t d) s = .next u ∧ (u.domain d).state = .fault ∧
      (∀ rb ∈ s.domainBlocks d, (u.block rb.1 rb.2).state = .held) ∧ s.log.detected.length < u.log.detected.length) ∧
  (max s.tsc t < (s.domain d).since + 5000000 → ∃ u, exec (.domainClockTimeout t d) s = .next u ∧ Did t [] s u) ∧
  ((s.domain d).state = .on → ∃ u, exec (.domainClockLost t d) s = .next u ∧ (u.domain d).state = .isolated ∧
    (u.domain d).since = max s.tsc t ∧ (∀ rb ∈ s.domainBlocks d, (u.block rb.1 rb.2).state = .off ∨ (u.block rb.1 rb.2).state = .held) ∧
    (∀ e, e ≠ d → u.domain e = s.domain e) ∧ s.log.detected.length < u.log.detected.length)

/-- R410, R416, R421, R423, R424, R473: the preferred bank's valid firmware boots, or the other's, or the module enters Recovery; engine
firmware lost by a warm reset is loaded again where the boot bank's is valid; the boot commit brings the image's values and epoch
into force, or the defaults and epoch 0; an access to a page before it is answered as unsupported unless it is posted; a save that
is complete makes its bank's configuration valid. Only the banks tried are verified, and the verdict on a signature comes with the
command (log 31, log 71). -/
def Obligations.BootComplete : Prop := ∀ (s : State) (t : Nat) (a b : BankCheck), s.Live →
  (s.bootDue = true → s.rst.preferred = 1 →
    (a.firmware.any firmwareValid = true → ∃ u, exec (.bootImageVerified t a b) s = .next u ∧ u.rst.bootReady = true ∧ u.rst.bootBank = 1 ∧
      (u.rst.bootResult = 1 ∨ u.rst.bootResult = 2) ∧ (u.rst.bootResult = 1 ↔ u.rst.bootImage.isSome = true) ∧
      u.rst.release = (a.firmware.map imageRelease).getD 0 ∧
      u.bank 1 = (s.upTo t).checkedBank (s.bank 1) s.rst.keyHash a ∧ u.bank 2 = s.bank 2 ∧ u.rst.recovery = false ∧ u.dict = s.dict) ∧
    (a.firmware.any firmwareValid = false → b.firmware.any firmwareValid = true →
      ∃ u, exec (.bootImageVerified t a b) s = .next u ∧ u.rst.bootReady = true ∧ u.rst.bootBank = 2 ∧
        (u.rst.bootResult = 3 ∨ u.rst.bootResult = 4) ∧ u.rst.release = (b.firmware.map imageRelease).getD 0) ∧
    (a.firmware.any firmwareValid = false → b.firmware.any firmwareValid = false →
      ∃ u, exec (.bootImageVerified t a b) s = .next u ∧ u.rst.recovery = true ∧ u.rst.bootReady = false ∧ u.rst.bootBank = 0 ∧
        u.rst.bootResult = 5)) ∧
  (s.bootDue = false →
    (s.rst.reload = false → ∃ u, exec (.bootImageVerified t a b) s = .next u ∧ Did t [] s u) ∧
    (s.rst.reload = true → ((if s.rst.bootBank = 1 then a else b).firmware.any firmwareValid) = true →
      ∃ u, exec (.bootImageVerified t a b) s = .next u ∧ Did t [.rst] s u ∧ u.rst.reload = false ∧ u.rst.backup = s.rst.backup) ∧
    (((if s.rst.bootBank = 1 then a else b).firmware.any firmwareValid) = false →
      ∃ u, exec (.bootImageVerified t a b) s = .next u ∧ Did t [] s u)) ∧
  (s.rst.bootReady = true → s.stepsDone 6 = true →
    ∃ v, exec (.bootCommit t) s = .next ((v.applyBoot (s.upTo t)).nextRelease) ∧ v.rst.committed = true ∧ v.rst.bootReady = false ∧
      v.rst.sequence = none ∧ Did t [.dict, .mgr, .log, .rst] s v ∧
      (s.rst.bootImage = none → v.mgr.epoch = 0 ∧ ∀ k, v.raw k = s.raw k) ∧
      (∀ x, s.rst.bootImage = some x → v.mgr.epoch = x.epoch ∧
        (Table.rising x.values = true → ∀ k, v.raw k = (Table.find (s.imageValues x.values) k).getD (s.raw k)))) ∧
  (∀ f, f < 64 → (s.domain 27).state = .on → s.rst.recovery = false →
    (s.rst.committed = false ∨ s.rst.sequence.isSome = true →
      (∃ u, exec (.bar0EarlyAccess t f false) s = .next u ∧ Did t [.out] s u ∧ u.out = .unsupported f :: s.out) ∧
      ∃ u, exec (.bar0EarlyAccess t f true) s = .next u ∧ Did t [] s u) ∧
    (s.rst.committed = true → s.rst.sequence = none → ∃ u, exec (.bar0EarlyAccess t f false) s = .next u ∧ Did t [] s u)) ∧
  (∀ j, s.rst.saving = some j → j.bank = 1 ∨ j.bank = 2 → ∃ u, exec (.saveComplete t) s = .next u ∧ Did t [.dict, .rst] s u ∧
    u.rst.saving = none ∧ (u.bank j.bank).config = some j.image ∧ (u.bank j.bank).cfgValid = true ∧ u.val 0x1100 0x51 = 0 ∧
    u.bank (3 - j.bank) = s.bank (3 - j.bank)) ∧
  (s.rst.saving = none → ∃ u, exec (.saveComplete t) s = .next u ∧ Did t [] s u)

/-- R426, R427, R428, R430: the backup domain takes station time, and loses its registers when its cell fails unpowered; the module
connects while nEXTRACT reads high; an extraction powers the domains down after 50 ms in good order and the module after 150 ms (log
31); taken back before that it ends in a full reset of cause 10. -/
def Obligations.HotPlugComplete : Prop := ∀ (s : State) (t : Nat), s.Canonical →
  (s.rst.powered = true → ∃ u, exec (.backupTimeCopy t) s = .next u ∧ Did t [.rst] s u ∧ u.rst.backup.timeSet = s.timeSet ∧
    u.rst.backup.timeCopy = (if s.timeSet = true then (s.upTo t).stationTime else 0) ∧ u.rst.backup.records = s.rst.backup.records) ∧
  (s.rst.powered = false → ∃ u, exec (.vbatLoss t) s = .next u ∧ Did t [.rst, .sup] s u ∧ u.rst.backup.records = [] ∧
    u.rst.backup.total = 0 ∧ u.rst.backup.valid = false ∧ u.rst.backup.timeCopy = 0 ∧ u.rst.backup.ripcords = [] ∧
    u.sup.ageing = s.rst.flashAgeing) ∧
  (s.rst.powered = true → ∃ u, exec (.vbatLoss t) s = .next u ∧ Did t [] s u) ∧
  (s.rst.extractAt = none → (∃ u, exec (.hotSwapConnect t) s = .next u ∧ Did t [.rst] s u ∧ u.rst = { s.rst with connected := true }) ∧
    ∃ u, exec (.nextractAsserted t) s = .next u ∧ Did t [.rst] s u ∧ u.rst.extractAt = some (max s.tsc t)) ∧
  (s.rst.extractAt ≠ none → (∃ u, exec (.hotSwapConnect t) s = .next u ∧ Did t [] s u) ∧
    ∃ u, exec (.nextractAsserted t) s = .next u ∧ Did t [] s u) ∧
  (∀ a, s.rst.powered = true → s.rst.extractAt = some a → s.rst.extractSafe = true →
    (max s.tsc t < a + 50000000 → ∃ u, exec (.extractPowerDown t) s = .next u ∧ Did t [] s u) ∧
    (a + 50000000 ≤ max s.tsc t → max s.tsc t < a + 150000000 → ∃ u, exec (.extractPowerDown t) s = .next u ∧
      u.rst.backup.orderly = true ∧ u.rst.powered = true ∧ ∀ d ∈ (releaseSteps s.variant).flatten, (u.domain d).state = .off) ∧
    (a + 150000000 ≤ max s.tsc t → ∃ u, exec (.extractPowerDown t) s = .next u ∧ u.rst.powered = false ∧ u.outputsAtRest = true ∧
      u.rst.backup.orderly = true ∧ (u.domain 0).state = .on ∧ (∀ d, d ≠ 0 → (u.domain d).state = .off) ∧ u.cipher.slots = [] ∧
      u.hier.blocks = [] ∧ u.pages = [] ∧ u.rst.bankA = s.rst.bankA ∧ u.rst.bankB = s.rst.bankB)) ∧
  (∀ a, s.rst.extractAt = some a →
    (s.rst.powered = false → ∃ u, exec (.nextractReleased t) s = .next u ∧ Did t [.rst] s u ∧ u.rst.extractAt = none ∧
      u.rst.extractSafe = false) ∧
    (s.rst.powered = true → s.rst.lockout = false → s.rst.sequence = none → ∃ u, exec (.nextractReleased t) s = .next u ∧
      s.WasReset u 10 2 ∧ u.rst.extractAt = none))

/-- R433, R438, R441, R442, R445: a shed phase is logged, and with a rail's only phase its domains go off with their blocks out of
service; a measured index never lowers a planned margin; at a quiet beat the first request that may start does so: a bank's copy
first, an engine or core at once, a ring port DOWN, a running port through its steps; an idle ballast unit that fails its test is
out of use. The rails are numbered by the model (log 43), and a substitution starts at a whole beat (log 40). -/
def Obligations.SupervisionCompletes : Prop := ∀ (s : State) (t : Nat), s.Live →
  (∀ rail phase, phase < railPhases s.variant rail → bit (s.shedPhases rail) phase = false →
    (railPhases s.variant rail ≠ 1 → ∃ u, exec (.phaseShed t rail phase) s = .next u ∧ Did t [.log, .sup] s u ∧
      bit (u.shedPhases rail) phase = true ∧ (∀ k, k ≠ phase → bit (u.shedPhases rail) k = bit (s.shedPhases rail) k) ∧
      (∀ r, r ≠ rail → u.shedPhases r = s.shedPhases r) ∧
      u.log.detected = s.log.detected ++ [⟨max s.tsc t, 0x507F, 0x0103, if hasBallast s.variant = true then 1 else 3,
        toBE 1 rail ++ toBE 1 (u.phasesLeft rail)⟩]) ∧
    (railPhases s.variant rail = 1 → ∃ u, exec (.phaseShed t rail phase) s = .next u ∧
      ∀ d < 30, railOf d = rail → domainPresent s.variant d = true → (u.domain d).state = .off ∧
        ∀ rb ∈ s.domainBlocks d, (u.block rb.1 rb.2).state = .held)) ∧
  (s.supervises = true →
    (∀ x, s.sup.measuredAt + s.val 0x6040 4 * 1000000000 ≤ max s.tsc t → ∃ u, exec (.ageingMeasurement t x) s = .next u ∧
      (∀ d, (s.domain d).target ≤ (u.domain d).target) ∧ (∀ d, (u.domain d).state = (s.domain d).state) ∧
      ∀ d, (u.domain d).offset = (s.domain d).offset) ∧
    (∀ q, max s.tsc t % 40000 = 0 →
      ((sortBy requestBefore s.sup.requests).find? fun q => (s.upTo t).quietFor q && !(s.outputsSafe && movesLine q)) = some q →
      (srcRegion q.primary = 2 → 16 ≤ srcBlk q.primary → ∃ u, exec (.substitutionStart t) s = .next u ∧ Did t [.sup] s u ∧
        u.sup.running = some q ∧ u.sup.requests = s.sup.requests.erase q ∧ u.sup.copied = false) ∧
      (srcRegion q.primary = 2 ∧ srcBlk q.primary < 16 ∨ srcRegion q.primary = 3 → q.back = false →
        ∃ u, exec (.substitutionStart t) s = .next u ∧ Did t [.log, .rst, .sup] s u ∧ u.sup.running = none ∧
          u.unit q.unit = { state := 3, reason := q.reason, primary := q.primary } ∧ u.sup.requests = s.sup.requests.erase q ∧
          (∀ v, v ≠ q.unit → u.unit v = s.unit v)) ∧
      (srcRegion q.primary = 2 ∧ srcBlk q.primary < 16 ∨ srcRegion q.primary = 3 → q.back = true →
        ∃ u, exec (.substitutionStart t) s = .next u ∧ Did t [.log, .rst, .sup] s u ∧ u.sup.running = none ∧ u.unit q.unit = {} ∧
          u.sup.requests = s.sup.requests.erase q ∧ (∀ v, v ≠ q.unit → u.unit v = s.unit v)) ∧
      (srcRegion q.primary = 4 → ∃ u, exec (.substitutionStart t) s = .next u ∧ Did t [.out, .ring, .sup] s u ∧ u.sup.running = some q ∧
        u.sup.requests = s.sup.requests.erase q ∧ (u.ringPort (if srcCell q.primary = 0 then .east else .west)).link = .down) ∧
      (srcRegion q.primary = 1 → ∃ u, exec (.substitutionStart t) s = .next u ∧
        Did t [.free, .out, .dict, .log, .ports, .echoes, .lanes, .spools, .pages, .routes, .cells, .trip, .rst, .sup] s u ∧
        u.sup.requests = s.sup.requests.erase q ∧
        ((s.port (srcBlk q.primary)).state = .running → u.sup.running = some q ∧ (u.port (srcBlk q.primary)).state = .swapping))) ∧
    ((∀ q ∈ s.sup.requests, (s.upTo t).quietFor q = false) → ∃ u, exec (.substitutionStart t) s = .next u ∧ Did t [] s u) ∧
    (∀ n pass, hasBallast s.variant = true → n < 22 → (s.unit n).state = 0 →
      Table.get 0 s.sup.testedAt n + 86400000000000 ≤ max s.tsc t → ∃ u, exec (.ballastSelfTest t n pass) s = .next u ∧
        Did t [.log, .sup] s u ∧ (u.unit n).state = (if pass = true then 0 else 4) ∧ (∀ k, k ≠ n → u.unit k = s.unit k) ∧
        u.log.detected.length = s.log.detected.length + (if pass = true then 0 else 1))) ∧
  (∀ q, s.bankSwap = some q → ∃ u, exec (.bankCopyDone t []) s = .next u ∧ Did t [.sup] s u ∧ u.sup = { s.sup with copied := true }) ∧
  (∀ l, s.bankSwap = none → ∃ u, exec (.bankCopyDone t l) s = .next u ∧ Did t [] s u)

/-- R437: the ageing indices are measured when 6040.04 seconds have passed and not before; every measurement is written to the backup
domain, and to flash after 24 hours and not before; where the backup registers are lost the indices resume from flash; an index
never decreases. What a measurement finds of one part is its index as measured, where it is not lower (R436, log 72). -/
def Obligations.AgeingIndicesKept : Prop := ∀ (s : State) (t : Nat),
  (s.Live → s.supervises = true →
    (∀ l, s.sup.measuredAt + s.val 0x6040 4 * 1000000000 ≤ max s.tsc t → ∃ u, exec (.ageingMeasurement t l) s = .next u ∧
      Did t [.log, .rst, .sup] s u ∧ u.sup.measuredAt = max s.tsc t ∧ u.rst.backup.ageing = u.sup.ageing ∧
      u.rst.flashAgeing = s.rst.flashAgeing ∧
      (∀ k, wear (Table.get 0xFFFF s.sup.ageing k) ≤ wear (Table.get 0xFFFF u.sup.ageing k)) ∧
      ∀ x, l = [x] → s.agedPart x.key x.slot ≠ none → Table.get 0xFFFF u.sup.ageing (x.key * 256 + x.slot) =
          max (wear (Table.get 0xFFFF s.sup.ageing (x.key * 256 + x.slot))) (min 0xFFFE (s.measuredIndex x)) ∧
        ∀ k, k ≠ x.key * 256 + x.slot → Table.get 0xFFFF u.sup.ageing k = Table.get 0xFFFF s.sup.ageing k) ∧
    (∀ l, max s.tsc t < s.sup.measuredAt + s.val 0x6040 4 * 1000000000 →
      ∃ u, exec (.ageingMeasurement t l) s = .next u ∧ Did t [] s u) ∧
    (s.rst.flashAt + 86400000000000 ≤ max s.tsc t → ∃ u, exec (.ageingFlashWrite t) s = .next u ∧ Did t [.rst] s u ∧
      u.rst = { s.rst with flashAgeing := s.sup.ageing, flashAt := max s.tsc t }) ∧
    (max s.tsc t < s.rst.flashAt + 86400000000000 → ∃ u, exec (.ageingFlashWrite t) s = .next u ∧ Did t [] s u)) ∧
  (s.Canonical → s.rst.powered = false → ∃ u, exec (.vbatLoss t) s = .next u ∧ Did t [.rst, .sup] s u ∧
    u.sup.ageing = s.rst.flashAgeing ∧ u.rst.backup.ageing = s.rst.flashAgeing)

/-- R446: the sensors respond as the table says, with the mesh's response fixed; a detection latches its bit in 6081.01, is counted in
6082.(sensor) and logged from 0x30C0, with severity alarm for an alarm response. Besides (R447, R448): under response 2 the ripcord
empties every slot of 0 to 254, is recorded, and resets the module with cause 9; without the main supply the first two sensors latch
for the next start, where they are counted and logged (log 40). -/
def Obligations.TamperCompletes : Prop := ∀ (s : State) (t n : Nat), 1 ≤ n → n ≤ 6 →
  (∀ v, defaultOf v (keyOf 0x6080 n) = [if n ≤ 2 then 2 else 1] ∧
    (descOf v (keyOf 0x6080 n)).map Desc.access = some (if n = 2 then .const else .rws)) ∧
  (s.rst.powered = true → s.val 0x6080 n ≠ 2 → ∃ u, exec (.tamperDetected t n) s = .next u ∧ Did t [.dict, .log] s u ∧
    bit (u.val 0x6081 1) (n - 1) = true ∧ u.val 0x6082 n = min (2 ^ 32 - 1) (s.val 0x6082 n + 1) ∧
    (∀ k, k ≠ keyOf 0x6081 1 → k ≠ keyOf 0x6082 n → u.raw k = s.raw k) ∧
    u.log.detected = s.log.detected ++ [⟨max s.tsc t, 0x30C0, 0x0803, if s.val 0x6080 n = 0 then 2 else 3, toBE 1 n⟩]) ∧
  (s.rst.powered = true → s.val 0x6080 n = 2 → s.rst.sequence = none → s.rst.lockout = false →
    ∃ u, exec (.tamperDetected t n) s = .next u ∧ u.rst.cause = 9 ∧ u.rst.kind = 2 ∧ u.rst.sequence = some ⟨9, 2⟩ ∧ u.outputsAtRest = true ∧
      (∀ k < 255, (u.slot k).state = .empty ∧ (u.slot k).key = [] ∧ (u.slot k).counter = 0) ∧ u.slot 255 = s.slot 255 ∧
      u.rst.backup.ripcords = (max s.tsc t, n) :: s.rst.backup.ripcords ∧ bit (u.val 0x6081 1) (n - 1) = true) ∧
  (s.rst.powered = false → n ≤ 2 → ∃ u, exec (.tamperDetected t n) s = .next u ∧ Did t [.dict, .rst] s u ∧
    bit (u.val 0x6081 1) (n - 1) = true ∧ u.rst.backup.dark = s.rst.backup.dark ++ [(n, s.rst.backup.timeCopy)]) ∧
  (s.rst.powered = false → 2 < n → ∃ u, exec (.tamperDetected t n) s = .next u ∧ Did t [] s u)

/-- R12, R51, R258, R340, R359, R451: a write of a page's register has the effect its field map gives: control words, buffers, write-one
bits, bases and sizes while their ring is off, and nothing at a read-only register; a field that is written is read back, and one
that is only written reads as zero. At an offset that no field map lists it stops (the model's choice, log 35: the spec gives such
an offset no register). -/
def Obligations.RegisterWritesComplete : Prop := ∀ (s : State) (t f : Nat) (w : Word32), s.Live → s.open f = true →
  (∃ u, exec (.registerWrite t f 0x8008 w) s = .next u ∧ Did t [.pages] s u ∧ (∀ g, g ≠ f → u.page g = s.page g) ∧
    u.page f = { s.page f with reqLen := bits w.toNat 10 0 } ∧ u.pageRead f 0x8008 = some (w.toNat % 2 ^ 11)) ∧
  (∀ i, i < 384 → ∃ u, exec (.registerWrite t f (0x8100 + 4 * i) w) s = .next u ∧ Did t [.pages] s u ∧
    Table.getBytes (u.page f).reqBuf (4 * i) 4 = toLE 4 w.toNat ∧
    ∀ k, k < 4 * i ∨ 4 * i + 4 ≤ k → Table.get 0 (u.page f).reqBuf k = Table.get 0 (s.page f).reqBuf k) ∧
  (∃ u, exec (.registerWrite t f 0x8004 w) s = .next u ∧ Did t [.pages] s u ∧ u.page f = { s.page f with
    done := (s.page f).done && !bit w.toNat 30, overlap := (s.page f).overlap && !bit w.toNat 29 }) ∧
  (∃ u, exec (.registerWrite t f 0x4004 w) s = .next u ∧ Did t [.pages] s u ∧ u.page f = { s.page f with
    ciphEnable := bit w.toNat 31 && s.roleOf f != 0, onFail := bit w.toNat 8 }) ∧
  (∀ i, i < 12 → ∃ u, exec (.registerWrite t f (0x4100 + 4 * i) w) s = .next u ∧ Did t [.pages] s u ∧
    Table.getBytes (u.page f).keyData (4 * i) 4 = toBE 4 w.toNat ∧ u.pageRead f (0x4100 + 4 * i) = some 0) ∧
  (∃ u, exec (.registerWrite t f 0x6004 w) s = .next u ∧ Did t [.pages] s u ∧ u.page f = { s.page f with
    chkEnable := bit w.toNat 31 && s.roleOf f != 0, misIrqEn := bit w.toNat 16, misVector := bits w.toNat 15 8 }) ∧
  (∃ u, exec (.registerWrite t f 0xF000 w) s = .next u ∧ Did t [.pages] s u ∧ u.page f = { s.page f with
    evtEnable := bit w.toNat 31, minSev := bits w.toNat 18 16, evtVector := bits w.toNat 15 8, evtIrqEn := bit w.toNat 0 } ∧
    u.pageRead f 0xF000 = some (ofBool (bit w.toNat 31) * 2 ^ 31 + bits w.toNat 18 16 * 2 ^ 16 + bits w.toNat 15 8 * 2 ^ 8 + ofBool (bit w.toNat 0))) ∧
  (∀ q < 4, ∃ u, exec (.registerWrite t f (0x1000 + 0x40 * q) w) s = .next u ∧ Did t [.pages] s u ∧
    (u.page f).ring q = (if ((s.page f).ring q).enable = true then (s.page f).ring q
      else { (s.page f).ring q with base := ((s.page f).ring q).base / 2 ^ 32 * 2 ^ 32 + w.toNat / 64 * 64 }) ∧
    ∀ k, k ≠ q → (u.page f).ring k = (s.page f).ring k) ∧
  (∀ q, q = 4 ∨ q = 5 → ∃ u, exec (.registerWrite t f (0x4048 + 0x40 * (q - 4)) w) s = .next u ∧ Did t [.pages] s u ∧
    ((u.page f).ring q).enable = bit w.toNat 31 ∧ ((u.page f).ring q).irqEn = bit w.toNat 0 ∧
    ((u.page f).ring q).vector = bits w.toNat 15 8 ∧ ((u.page f).ring q).base = ((s.page f).ring q).base ∧
    ((u.page f).ring q).log2 = (if ((s.page f).ring q).enable = true then ((s.page f).ring q).log2 else bits w.toNat 19 16)) ∧
  (∀ a ∈ [0x4000, 0x4200, 0x6000, 0x800C, 0xF00C, 0x8800, 0xF100],
    ∃ u, exec (.registerWrite t f a w) s = .next u ∧ Did t [] s u) ∧
  (∀ a, pageReg a = none → ∀ v : State, exec (.registerWrite t f a w) v = .fault (.noRegister a))
end

