-- ==== Sys2Proof/Laws/Tables.lean ====
section
/-! SUPPORT. Tables: what a read gives after a write, and that every write keeps the canonical form. -/

set_option Elab.async false

namespace Sys2Proof.Machine

variable {α : Type}

@[simp] theorem Table.find_nil (k : Nat) : Table.find ([] : Table α) k = none := rfl

@[simp] theorem Table.get_nil (d : α) (k : Nat) : Table.get d ([] : Table α) k = d := rfl

@[simp] theorem Table.above_nil (b : Nat) : Table.above b ([] : Table α) = true := rfl

@[simp] theorem Table.above_cons (b j : Nat) (v : α) (t : Table α) :
    Table.above b ((j, v) :: t) = (decide (b < j) && Table.above b t) := rfl

@[simp] theorem Table.rising_nil : Table.rising ([] : Table α) = true := rfl

@[simp] theorem Table.rising_cons (j : Nat) (v : α) (t : Table α) :
    Table.rising ((j, v) :: t) = (Table.above j t && Table.rising t) := rfl

theorem Table.above_le {a b : Nat} {t : Table α} (h : a ≤ b) (ht : Table.above b t = true) : Table.above a t = true := by
  induction t with
  | nil => rfl
  | cons e t ih => obtain ⟨j, v⟩ := e; simp at ht ⊢; exact ⟨by omega, ih ht.2⟩

/-- A key at or below the bound is not listed. -/
theorem Table.find_above {b k : Nat} {t : Table α} (ht : Table.above b t = true) (h : k ≤ b) : Table.find t k = none := by
  induction t with
  | nil => rfl
  | cons e t ih =>
    obtain ⟨j, v⟩ := e
    simp at ht
    have : ¬ j = k := by omega
    simp [Table.find, this, ih ht.2]

theorem Table.find_insert_self (t : Table α) (k : Nat) (v : α) : Table.find (Table.insert t k v) k = some v := by
  induction t with
  | nil => simp [Table.insert, Table.find]
  | cons e t ih =>
    obtain ⟨j, w⟩ := e
    simp only [Table.insert]
    split
    · simp [Table.find]
    · split
      · simp [Table.find]
      · rename_i h; simp [Table.find, h, ih]

theorem Table.find_insert_ne (t : Table α) {k n : Nat} (v : α) (h : n ≠ k) :
    Table.find (Table.insert t k v) n = Table.find t n := by
  induction t with
  | nil => simp [Table.insert, Table.find, h.symm]
  | cons e t ih =>
    obtain ⟨j, w⟩ := e
    simp only [Table.insert]
    split
    · simp [Table.find, h.symm]
    · split
      · rename_i h2; subst h2; simp [Table.find, h.symm]
      · simp [Table.find, ih]

theorem Table.find_erase_self (t : Table α) (k : Nat) : Table.find (Table.erase t k) k = none := by
  induction t with
  | nil => rfl
  | cons e t ih =>
    obtain ⟨j, w⟩ := e
    simp only [Table.erase]
    split
    · exact ih
    · rename_i h; simp [Table.find, h, ih]

theorem Table.find_erase_ne (t : Table α) {k n : Nat} (h : n ≠ k) : Table.find (Table.erase t k) n = Table.find t n := by
  induction t with
  | nil => rfl
  | cons e t ih =>
    obtain ⟨j, w⟩ := e
    simp only [Table.erase]
    split
    · rename_i h2; subst h2; simp [Table.find, h.symm, ih]
    · simp [Table.find, ih]

variable [DecidableEq α] {d : α}

/-- A read after a write elsewhere. -/
theorem Table.get_put_ne (t : Table α) {k n : Nat} (v : α) (h : n ≠ k) :
    Table.get d (Table.put d t k v) n = Table.get d t n := by
  unfold Table.get Table.put; split
  · rw [Table.find_erase_ne t h]
  · rw [Table.find_insert_ne t v h]

/-- A read after a write of the same place. -/
@[simp] theorem Table.get_put_self (t : Table α) (k : Nat) (v : α) :
    Table.get d (Table.put d t k v) k = v := by
  unfold Table.get Table.put; split
  · rename_i h; rw [Table.find_erase_self, h]; rfl
  · rw [Table.find_insert_self]; rfl

omit [DecidableEq α] in
theorem Table.above_insert {b k : Nat} {v : α} {t : Table α} (ht : Table.above b t = true) (h : b < k) :
    Table.above b (Table.insert t k v) = true := by
  induction t with
  | nil => simpa [Table.insert] using h
  | cons e t ih =>
    obtain ⟨j, w⟩ := e
    simp at ht
    simp only [Table.insert]
    split
    · simp [h, ht.1, ht.2]
    · split
      · simp [h, ht.2]
      · simp [ht.1, ih ht.2]

omit [DecidableEq α] in
theorem Table.above_erase {b k : Nat} {t : Table α} (ht : Table.above b t = true) : Table.above b (Table.erase t k) = true := by
  induction t with
  | nil => rfl
  | cons e t ih =>
    obtain ⟨j, w⟩ := e
    simp at ht
    simp only [Table.erase]
    split
    · exact ih ht.2
    · simp [ht.1, ih ht.2]

omit [DecidableEq α] in
theorem Table.rising_insert {t : Table α} (k : Nat) (v : α) (ht : Table.rising t = true) :
    Table.rising (Table.insert t k v) = true := by
  induction t with
  | nil => rfl
  | cons e t ih =>
    obtain ⟨j, w⟩ := e
    simp at ht
    simp only [Table.insert]
    split
    · rename_i h; simp [h, ht.1, ht.2, Table.above_le (Nat.le_of_lt h) ht.1]
    · split
      · rename_i h; subst h; simp [ht.1, ht.2]
      · simp [Table.above_insert ht.1 (by omega : j < k), ih ht.2]

omit [DecidableEq α] in
theorem Table.rising_erase {t : Table α} (k : Nat) (ht : Table.rising t = true) : Table.rising (Table.erase t k) = true := by
  induction t with
  | nil => rfl
  | cons e t ih =>
    obtain ⟨j, w⟩ := e
    simp at ht
    simp only [Table.erase]
    split
    · exact ih ht.2
    · simp [Table.above_erase ht.1, ih ht.2]

omit [DecidableEq α] in
theorem Table.all_insert {P : Nat × α → Bool} {t : Table α} {k : Nat} {v : α} (ht : t.all P = true) (hv : P (k, v) = true) :
    (Table.insert t k v).all P = true := by
  induction t with
  | nil => simpa [Table.insert] using hv
  | cons e t ih =>
    obtain ⟨j, w⟩ := e
    rw [List.all_cons, Bool.and_eq_true] at ht
    simp only [Table.insert]
    split
    · rw [List.all_cons, List.all_cons, hv, ht.1, ht.2]; rfl
    · split
      · rw [List.all_cons, hv, ht.2]; rfl
      · rw [List.all_cons, ht.1, ih ht.2]; rfl

omit [DecidableEq α] in
theorem Table.all_erase {P : Nat × α → Bool} {t : Table α} {k : Nat} (ht : t.all P = true) : (Table.erase t k).all P = true := by
  induction t with
  | nil => rfl
  | cons e t ih =>
    obtain ⟨j, w⟩ := e
    rw [List.all_cons, Bool.and_eq_true] at ht
    simp only [Table.erase]
    split
    · exact ih ht.2
    · rw [List.all_cons, ht.1, ih ht.2]; rfl

theorem Table.rising_put {t : Table α} (k : Nat) (v : α) (ht : Table.rising t = true) : Table.rising (Table.put d t k v) = true := by
  unfold Table.put; split
  · exact Table.rising_erase k ht
  · exact Table.rising_insert k v ht

/-- Every write keeps the canonical form. -/
theorem Table.wf_put {t : Table α} (k : Nat) (v : α) (ht : Table.wf d t = true) : Table.wf d (Table.put d t k v) = true := by
  unfold Table.wf at ht ⊢
  rw [Bool.and_eq_true] at ht ⊢
  refine ⟨Table.rising_put k v ht.1, ?_⟩
  unfold Table.put; split
  · exact Table.all_erase ht.2
  · rename_i h; exact Table.all_insert ht.2 (by simpa using h)

theorem Table.wf_nil : Table.wf d ([] : Table α) = true := rfl

/-- In canonical form nothing but the default is unlisted. -/
theorem Table.rising_of_wf {t : Table α} (ht : Table.wf d t = true) : Table.rising t = true := by
  unfold Table.wf at ht; rw [Bool.and_eq_true] at ht; exact ht.1

omit [DecidableEq α] in
theorem Table.above_filterMap {β : Type} (f : Nat × α → Option (Nat × β)) (hf : ∀ e x, f e = some x → x.1 = e.1) {b : Nat}
    {t : Table α} (ht : Table.above b t = true) : Table.above b (t.filterMap f) = true := by
  induction t with
  | nil => rfl
  | cons e t ih =>
    obtain ⟨j, w⟩ := e
    simp at ht
    rw [List.filterMap_cons]
    cases h : f (j, w) with
    | none => exact ih ht.2
    | some x => obtain ⟨i, y⟩ := x; have := hf _ _ h; simp at this; subst this; simp [ht.1, ih ht.2]

omit [DecidableEq α] in
/-- Removing and rewriting entries in place keeps the order. -/
theorem Table.rising_filterMap {β : Type} (f : Nat × α → Option (Nat × β)) (hf : ∀ e x, f e = some x → x.1 = e.1)
    {t : Table α} (ht : Table.rising t = true) : Table.rising (t.filterMap f) = true := by
  induction t with
  | nil => rfl
  | cons e t ih =>
    obtain ⟨j, w⟩ := e
    simp at ht
    rw [List.filterMap_cons]
    cases h : f (j, w) with
    | none => exact ih ht.2
    | some x =>
      obtain ⟨i, y⟩ := x; have := hf _ _ h; simp at this; subst this
      simp [Table.above_filterMap f hf ht.1, ih ht.2]

omit [DecidableEq α] in
theorem Table.rising_filter (f : Nat × α → Bool) {t : Table α} (ht : Table.rising t = true) : Table.rising (t.filter f) = true := by
  rw [← List.filterMap_eq_filter]
  exact Table.rising_filterMap _ (by intro e x h; simp [Option.guard] at h; rw [← h.2]) ht

theorem Table.wf_filterMap {β : Type} [DecidableEq β] {c : β} (f : Nat × α → Option (Nat × β))
    (hf : ∀ e x, f e = some x → x.1 = e.1) (hd : ∀ e x, e.2 ≠ d → f e = some x → x.2 ≠ c) {t : Table α} (ht : Table.wf d t = true) :
    Table.wf c (t.filterMap f) = true := by
  unfold Table.wf at ht ⊢
  rw [Bool.and_eq_true] at ht ⊢
  refine ⟨Table.rising_filterMap f hf ht.1, ?_⟩
  simp only [List.all_eq_true, decide_eq_true_eq] at ht ⊢
  intro x hx
  obtain ⟨e, he, hfe⟩ := List.mem_filterMap.1 hx
  exact hd e x (ht.2 e he) hfe

theorem Table.wf_filter (f : Nat × α → Bool) {t : Table α} (ht : Table.wf d t = true) : Table.wf d (t.filter f) = true := by
  unfold Table.wf at ht ⊢
  rw [Bool.and_eq_true] at ht ⊢
  refine ⟨Table.rising_filter f ht.1, ?_⟩
  simp only [List.all_eq_true] at ht ⊢
  intro x hx
  exact ht.2 x (List.mem_filter.1 hx).1

end Sys2Proof.Machine
end

