-- ==== Sys2Proof/Laws/State.lean ====
section
/-! SUPPORT. What each update of the state leaves as it was, field by field, and what a read of a table gives after a write. -/

set_option Elab.async false

namespace Sys2Proof.Machine

variable (s : State)

/-! ## upTo -/

@[simp] theorem State.upTo_variant (t : Nat) : (s.upTo t).variant = s.variant := rfl
@[simp] theorem State.upTo_pending (t : Nat) : (s.upTo t).pending = s.pending := rfl
@[simp] theorem State.upTo_free (t : Nat) : (s.upTo t).free = s.free := rfl
@[simp] theorem State.upTo_out (t : Nat) : (s.upTo t).out = s.out := rfl
@[simp] theorem State.upTo_dict (t : Nat) : (s.upTo t).dict = s.dict := rfl
@[simp] theorem State.upTo_written (t : Nat) : (s.upTo t).written = s.written := rfl
@[simp] theorem State.upTo_hier (t : Nat) : (s.upTo t).hier = s.hier := rfl
@[simp] theorem State.upTo_mgr (t : Nat) : (s.upTo t).mgr = s.mgr := rfl
@[simp] theorem State.upTo_time (t : Nat) : (s.upTo t).time = s.time := rfl
@[simp] theorem State.upTo_tether (t : Nat) : (s.upTo t).tether = s.tether := rfl
@[simp] theorem State.upTo_log (t : Nat) : (s.upTo t).log = s.log := rfl
@[simp] theorem State.upTo_ports (t : Nat) : (s.upTo t).ports = s.ports := rfl
@[simp] theorem State.upTo_echoes (t : Nat) : (s.upTo t).echoes = s.echoes := rfl
@[simp] theorem State.upTo_lanes (t : Nat) : (s.upTo t).lanes = s.lanes := rfl
@[simp] theorem State.upTo_spools (t : Nat) : (s.upTo t).spools = s.spools := rfl
@[simp] theorem State.upTo_pages (t : Nat) : (s.upTo t).pages = s.pages := rfl
@[simp] theorem State.upTo_routes (t : Nat) : (s.upTo t).routes = s.routes := rfl
@[simp] theorem State.upTo_cells (t : Nat) : (s.upTo t).cells = s.cells := rfl
@[simp] theorem State.upTo_trip (t : Nat) : (s.upTo t).trip = s.trip := rfl
@[simp] theorem State.upTo_cipher (t : Nat) : (s.upTo t).cipher = s.cipher := rfl
@[simp] theorem State.upTo_checkParts (t : Nat) : (s.upTo t).checkParts = s.checkParts := rfl
@[simp] theorem State.upTo_ring (t : Nat) : (s.upTo t).ring = s.ring := rfl
@[simp] theorem State.upTo_sensing (t : Nat) : (s.upTo t).sensing = s.sensing := rfl
@[simp] theorem State.upTo_rst (t : Nat) : (s.upTo t).rst = s.rst := rfl
@[simp] theorem State.upTo_sup (t : Nat) : (s.upTo t).sup = s.sup := rfl
@[simp] theorem State.upTo_raw (t : Nat) (k : Nat) : (s.upTo t).raw k = s.raw k := rfl
@[simp] theorem State.upTo_val (t : Nat) (i j : Nat) : (s.upTo t).val i j = s.val i j := rfl
@[simp] theorem State.upTo_pval (t : Nat) (q i j : Nat) : (s.upTo t).pval q i j = s.pval q i j := rfl
@[simp] theorem State.upTo_lval (t : Nat) (q k i j : Nat) : (s.upTo t).lval q k i j = s.lval q k i j := rfl
@[simp] theorem State.upTo_flag (t : Nat) (i j : Nat) : (s.upTo t).flag i j = s.flag i j := rfl
@[simp] theorem State.upTo_blocks (t : Nat) : (s.upTo t).blocks = s.blocks := rfl
@[simp] theorem State.upTo_block (t : Nat) (q k : Nat) : (s.upTo t).block q k = s.block q k := rfl
@[simp] theorem State.upTo_held (t : Nat) (q k : Nat) : (s.upTo t).held q k = s.held q k := rfl
@[simp] theorem State.upTo_port (t : Nat) (q : Nat) : (s.upTo t).port q = s.port q := rfl
@[simp] theorem State.upTo_hasPort (t : Nat) (q : Nat) : (s.upTo t).hasPort q = s.hasPort q := rfl
@[simp] theorem State.upTo_echo (t : Nat) (q : Nat) (c : Band) : (s.upTo t).echo q c = s.echo q c := rfl
@[simp] theorem State.upTo_lane (t : Nat) (q k : Nat) : (s.upTo t).lane q k = s.lane q k := rfl
@[simp] theorem State.upTo_page (t : Nat) (q : Nat) : (s.upTo t).page q = s.page q := rfl
@[simp] theorem State.upTo_spool (t : Nat) (q : Nat) : (s.upTo t).spool q = s.spool q := rfl
@[simp] theorem State.upTo_packet (t : Nat) (q : Nat) : (s.upTo t).packet q = s.packet q := rfl
@[simp] theorem State.upTo_route (t : Nat) (q : Nat) : (s.upTo t).route q = s.route q := rfl
@[simp] theorem State.upTo_link (t : Nat) (q : Nat) : (s.upTo t).link q = s.link q := rfl
@[simp] theorem State.upTo_node (t : Nat) (q : Nat) : (s.upTo t).node q = s.node q := rfl
@[simp] theorem State.upTo_cell (t : Nat) (q : Nat) : (s.upTo t).cell q = s.cell q := rfl
@[simp] theorem State.upTo_slot (t : Nat) (q : Nat) : (s.upTo t).slot q = s.slot q := rfl
@[simp] theorem State.upTo_domain (t : Nat) (q : Nat) : (s.upTo t).domain q = s.domain q := rfl
@[simp] theorem State.upTo_channel (t : Nat) (q : Nat) : (s.upTo t).channel q = s.channel q := rfl
@[simp] theorem State.upTo_unit (t : Nat) (q : Nat) : (s.upTo t).unit q = s.unit q := rfl

/-! ## emit -/

@[simp] theorem State.emit_variant (o : Out) : (s.emit o).variant = s.variant := rfl
@[simp] theorem State.emit_tsc (o : Out) : (s.emit o).tsc = s.tsc := rfl
@[simp] theorem State.emit_pending (o : Out) : (s.emit o).pending = s.pending := rfl
@[simp] theorem State.emit_free (o : Out) : (s.emit o).free = s.free := rfl
@[simp] theorem State.emit_dict (o : Out) : (s.emit o).dict = s.dict := rfl
@[simp] theorem State.emit_written (o : Out) : (s.emit o).written = s.written := rfl
@[simp] theorem State.emit_hier (o : Out) : (s.emit o).hier = s.hier := rfl
@[simp] theorem State.emit_mgr (o : Out) : (s.emit o).mgr = s.mgr := rfl
@[simp] theorem State.emit_time (o : Out) : (s.emit o).time = s.time := rfl
@[simp] theorem State.emit_tether (o : Out) : (s.emit o).tether = s.tether := rfl
@[simp] theorem State.emit_log (o : Out) : (s.emit o).log = s.log := rfl
@[simp] theorem State.emit_ports (o : Out) : (s.emit o).ports = s.ports := rfl
@[simp] theorem State.emit_echoes (o : Out) : (s.emit o).echoes = s.echoes := rfl
@[simp] theorem State.emit_lanes (o : Out) : (s.emit o).lanes = s.lanes := rfl
@[simp] theorem State.emit_spools (o : Out) : (s.emit o).spools = s.spools := rfl
@[simp] theorem State.emit_pages (o : Out) : (s.emit o).pages = s.pages := rfl
@[simp] theorem State.emit_routes (o : Out) : (s.emit o).routes = s.routes := rfl
@[simp] theorem State.emit_cells (o : Out) : (s.emit o).cells = s.cells := rfl
@[simp] theorem State.emit_trip (o : Out) : (s.emit o).trip = s.trip := rfl
@[simp] theorem State.emit_cipher (o : Out) : (s.emit o).cipher = s.cipher := rfl
@[simp] theorem State.emit_checkParts (o : Out) : (s.emit o).checkParts = s.checkParts := rfl
@[simp] theorem State.emit_ring (o : Out) : (s.emit o).ring = s.ring := rfl
@[simp] theorem State.emit_sensing (o : Out) : (s.emit o).sensing = s.sensing := rfl
@[simp] theorem State.emit_rst (o : Out) : (s.emit o).rst = s.rst := rfl
@[simp] theorem State.emit_sup (o : Out) : (s.emit o).sup = s.sup := rfl
@[simp] theorem State.emit_raw (o : Out) (k : Nat) : (s.emit o).raw k = s.raw k := rfl
@[simp] theorem State.emit_val (o : Out) (i j : Nat) : (s.emit o).val i j = s.val i j := rfl
@[simp] theorem State.emit_pval (o : Out) (q i j : Nat) : (s.emit o).pval q i j = s.pval q i j := rfl
@[simp] theorem State.emit_lval (o : Out) (q k i j : Nat) : (s.emit o).lval q k i j = s.lval q k i j := rfl
@[simp] theorem State.emit_flag (o : Out) (i j : Nat) : (s.emit o).flag i j = s.flag i j := rfl
@[simp] theorem State.emit_beat (o : Out) : (s.emit o).beat = s.beat := rfl
@[simp] theorem State.emit_blocks (o : Out) : (s.emit o).blocks = s.blocks := rfl
@[simp] theorem State.emit_block (o : Out) (q k : Nat) : (s.emit o).block q k = s.block q k := rfl
@[simp] theorem State.emit_held (o : Out) (q k : Nat) : (s.emit o).held q k = s.held q k := rfl
@[simp] theorem State.emit_port (o : Out) (q : Nat) : (s.emit o).port q = s.port q := rfl
@[simp] theorem State.emit_hasPort (o : Out) (q : Nat) : (s.emit o).hasPort q = s.hasPort q := rfl
@[simp] theorem State.emit_echo (o : Out) (q : Nat) (c : Band) : (s.emit o).echo q c = s.echo q c := rfl
@[simp] theorem State.emit_lane (o : Out) (q k : Nat) : (s.emit o).lane q k = s.lane q k := rfl
@[simp] theorem State.emit_page (o : Out) (q : Nat) : (s.emit o).page q = s.page q := rfl
@[simp] theorem State.emit_spool (o : Out) (q : Nat) : (s.emit o).spool q = s.spool q := rfl
@[simp] theorem State.emit_packet (o : Out) (q : Nat) : (s.emit o).packet q = s.packet q := rfl
@[simp] theorem State.emit_route (o : Out) (q : Nat) : (s.emit o).route q = s.route q := rfl
@[simp] theorem State.emit_link (o : Out) (q : Nat) : (s.emit o).link q = s.link q := rfl
@[simp] theorem State.emit_node (o : Out) (q : Nat) : (s.emit o).node q = s.node q := rfl
@[simp] theorem State.emit_cell (o : Out) (q : Nat) : (s.emit o).cell q = s.cell q := rfl
@[simp] theorem State.emit_slot (o : Out) (q : Nat) : (s.emit o).slot q = s.slot q := rfl
@[simp] theorem State.emit_domain (o : Out) (q : Nat) : (s.emit o).domain q = s.domain q := rfl
@[simp] theorem State.emit_channel (o : Out) (q : Nat) : (s.emit o).channel q = s.channel q := rfl
@[simp] theorem State.emit_unit (o : Out) (q : Nat) : (s.emit o).unit q = s.unit q := rfl

/-! ## emitAll -/

@[simp] theorem State.emitAll_variant (l : List Out) : (s.emitAll l).variant = s.variant := rfl
@[simp] theorem State.emitAll_tsc (l : List Out) : (s.emitAll l).tsc = s.tsc := rfl
@[simp] theorem State.emitAll_pending (l : List Out) : (s.emitAll l).pending = s.pending := rfl
@[simp] theorem State.emitAll_free (l : List Out) : (s.emitAll l).free = s.free := rfl
@[simp] theorem State.emitAll_dict (l : List Out) : (s.emitAll l).dict = s.dict := rfl
@[simp] theorem State.emitAll_written (l : List Out) : (s.emitAll l).written = s.written := rfl
@[simp] theorem State.emitAll_hier (l : List Out) : (s.emitAll l).hier = s.hier := rfl
@[simp] theorem State.emitAll_mgr (l : List Out) : (s.emitAll l).mgr = s.mgr := rfl
@[simp] theorem State.emitAll_time (l : List Out) : (s.emitAll l).time = s.time := rfl
@[simp] theorem State.emitAll_tether (l : List Out) : (s.emitAll l).tether = s.tether := rfl
@[simp] theorem State.emitAll_log (l : List Out) : (s.emitAll l).log = s.log := rfl
@[simp] theorem State.emitAll_ports (l : List Out) : (s.emitAll l).ports = s.ports := rfl
@[simp] theorem State.emitAll_echoes (l : List Out) : (s.emitAll l).echoes = s.echoes := rfl
@[simp] theorem State.emitAll_lanes (l : List Out) : (s.emitAll l).lanes = s.lanes := rfl
@[simp] theorem State.emitAll_spools (l : List Out) : (s.emitAll l).spools = s.spools := rfl
@[simp] theorem State.emitAll_pages (l : List Out) : (s.emitAll l).pages = s.pages := rfl
@[simp] theorem State.emitAll_routes (l : List Out) : (s.emitAll l).routes = s.routes := rfl
@[simp] theorem State.emitAll_cells (l : List Out) : (s.emitAll l).cells = s.cells := rfl
@[simp] theorem State.emitAll_trip (l : List Out) : (s.emitAll l).trip = s.trip := rfl
@[simp] theorem State.emitAll_cipher (l : List Out) : (s.emitAll l).cipher = s.cipher := rfl
@[simp] theorem State.emitAll_checkParts (l : List Out) : (s.emitAll l).checkParts = s.checkParts := rfl
@[simp] theorem State.emitAll_ring (l : List Out) : (s.emitAll l).ring = s.ring := rfl
@[simp] theorem State.emitAll_sensing (l : List Out) : (s.emitAll l).sensing = s.sensing := rfl
@[simp] theorem State.emitAll_rst (l : List Out) : (s.emitAll l).rst = s.rst := rfl
@[simp] theorem State.emitAll_sup (l : List Out) : (s.emitAll l).sup = s.sup := rfl
@[simp] theorem State.emitAll_raw (l : List Out) (k : Nat) : (s.emitAll l).raw k = s.raw k := rfl
@[simp] theorem State.emitAll_val (l : List Out) (i j : Nat) : (s.emitAll l).val i j = s.val i j := rfl
@[simp] theorem State.emitAll_pval (l : List Out) (q i j : Nat) : (s.emitAll l).pval q i j = s.pval q i j := rfl
@[simp] theorem State.emitAll_lval (l : List Out) (q k i j : Nat) : (s.emitAll l).lval q k i j = s.lval q k i j := rfl
@[simp] theorem State.emitAll_flag (l : List Out) (i j : Nat) : (s.emitAll l).flag i j = s.flag i j := rfl
@[simp] theorem State.emitAll_beat (l : List Out) : (s.emitAll l).beat = s.beat := rfl
@[simp] theorem State.emitAll_blocks (l : List Out) : (s.emitAll l).blocks = s.blocks := rfl
@[simp] theorem State.emitAll_block (l : List Out) (q k : Nat) : (s.emitAll l).block q k = s.block q k := rfl
@[simp] theorem State.emitAll_held (l : List Out) (q k : Nat) : (s.emitAll l).held q k = s.held q k := rfl
@[simp] theorem State.emitAll_port (l : List Out) (q : Nat) : (s.emitAll l).port q = s.port q := rfl
@[simp] theorem State.emitAll_hasPort (l : List Out) (q : Nat) : (s.emitAll l).hasPort q = s.hasPort q := rfl
@[simp] theorem State.emitAll_echo (l : List Out) (q : Nat) (c : Band) : (s.emitAll l).echo q c = s.echo q c := rfl
@[simp] theorem State.emitAll_lane (l : List Out) (q k : Nat) : (s.emitAll l).lane q k = s.lane q k := rfl
@[simp] theorem State.emitAll_page (l : List Out) (q : Nat) : (s.emitAll l).page q = s.page q := rfl
@[simp] theorem State.emitAll_spool (l : List Out) (q : Nat) : (s.emitAll l).spool q = s.spool q := rfl
@[simp] theorem State.emitAll_packet (l : List Out) (q : Nat) : (s.emitAll l).packet q = s.packet q := rfl
@[simp] theorem State.emitAll_route (l : List Out) (q : Nat) : (s.emitAll l).route q = s.route q := rfl
@[simp] theorem State.emitAll_link (l : List Out) (q : Nat) : (s.emitAll l).link q = s.link q := rfl
@[simp] theorem State.emitAll_node (l : List Out) (q : Nat) : (s.emitAll l).node q = s.node q := rfl
@[simp] theorem State.emitAll_cell (l : List Out) (q : Nat) : (s.emitAll l).cell q = s.cell q := rfl
@[simp] theorem State.emitAll_slot (l : List Out) (q : Nat) : (s.emitAll l).slot q = s.slot q := rfl
@[simp] theorem State.emitAll_domain (l : List Out) (q : Nat) : (s.emitAll l).domain q = s.domain q := rfl
@[simp] theorem State.emitAll_channel (l : List Out) (q : Nat) : (s.emitAll l).channel q = s.channel q := rfl
@[simp] theorem State.emitAll_unit (l : List Out) (q : Nat) : (s.emitAll l).unit q = s.unit q := rfl

/-! ## event -/

@[simp] theorem State.event_variant (src code sev : Nat) (data : Bytes) : (s.event src code sev data).variant = s.variant := rfl
@[simp] theorem State.event_tsc (src code sev : Nat) (data : Bytes) : (s.event src code sev data).tsc = s.tsc := rfl
@[simp] theorem State.event_pending (src code sev : Nat) (data : Bytes) : (s.event src code sev data).pending = s.pending := rfl
@[simp] theorem State.event_free (src code sev : Nat) (data : Bytes) : (s.event src code sev data).free = s.free := rfl
@[simp] theorem State.event_out (src code sev : Nat) (data : Bytes) : (s.event src code sev data).out = s.out := rfl
@[simp] theorem State.event_dict (src code sev : Nat) (data : Bytes) : (s.event src code sev data).dict = s.dict := rfl
@[simp] theorem State.event_written (src code sev : Nat) (data : Bytes) : (s.event src code sev data).written = s.written := rfl
@[simp] theorem State.event_hier (src code sev : Nat) (data : Bytes) : (s.event src code sev data).hier = s.hier := rfl
@[simp] theorem State.event_mgr (src code sev : Nat) (data : Bytes) : (s.event src code sev data).mgr = s.mgr := rfl
@[simp] theorem State.event_time (src code sev : Nat) (data : Bytes) : (s.event src code sev data).time = s.time := rfl
@[simp] theorem State.event_tether (src code sev : Nat) (data : Bytes) : (s.event src code sev data).tether = s.tether := rfl
@[simp] theorem State.event_ports (src code sev : Nat) (data : Bytes) : (s.event src code sev data).ports = s.ports := rfl
@[simp] theorem State.event_echoes (src code sev : Nat) (data : Bytes) : (s.event src code sev data).echoes = s.echoes := rfl
@[simp] theorem State.event_lanes (src code sev : Nat) (data : Bytes) : (s.event src code sev data).lanes = s.lanes := rfl
@[simp] theorem State.event_spools (src code sev : Nat) (data : Bytes) : (s.event src code sev data).spools = s.spools := rfl
@[simp] theorem State.event_pages (src code sev : Nat) (data : Bytes) : (s.event src code sev data).pages = s.pages := rfl
@[simp] theorem State.event_routes (src code sev : Nat) (data : Bytes) : (s.event src code sev data).routes = s.routes := rfl
@[simp] theorem State.event_cells (src code sev : Nat) (data : Bytes) : (s.event src code sev data).cells = s.cells := rfl
@[simp] theorem State.event_trip (src code sev : Nat) (data : Bytes) : (s.event src code sev data).trip = s.trip := rfl
@[simp] theorem State.event_cipher (src code sev : Nat) (data : Bytes) : (s.event src code sev data).cipher = s.cipher := rfl
@[simp] theorem State.event_checkParts (src code sev : Nat) (data : Bytes) : (s.event src code sev data).checkParts = s.checkParts := rfl
@[simp] theorem State.event_ring (src code sev : Nat) (data : Bytes) : (s.event src code sev data).ring = s.ring := rfl
@[simp] theorem State.event_sensing (src code sev : Nat) (data : Bytes) : (s.event src code sev data).sensing = s.sensing := rfl
@[simp] theorem State.event_rst (src code sev : Nat) (data : Bytes) : (s.event src code sev data).rst = s.rst := rfl
@[simp] theorem State.event_sup (src code sev : Nat) (data : Bytes) : (s.event src code sev data).sup = s.sup := rfl
@[simp] theorem State.event_log_stage (src code sev : Nat) (data : Bytes) : (s.event src code sev data).log.stage = s.log.stage := rfl
@[simp] theorem State.event_log_records (src code sev : Nat) (data : Bytes) : (s.event src code sev data).log.records = s.log.records := rfl
@[simp] theorem State.event_log_next (src code sev : Nat) (data : Bytes) : (s.event src code sev data).log.next = s.log.next := rfl
@[simp] theorem State.event_log_written (src code sev : Nat) (data : Bytes) : (s.event src code sev data).log.written = s.log.written := rfl
@[simp] theorem State.event_log_issue (src code sev : Nat) (data : Bytes) : (s.event src code sev data).log.issue = s.log.issue := rfl
@[simp] theorem State.event_log_restart (src code sev : Nat) (data : Bytes) : (s.event src code sev data).log.restart = s.log.restart := rfl
@[simp] theorem State.event_raw (src code sev : Nat) (data : Bytes) (k : Nat) : (s.event src code sev data).raw k = s.raw k := rfl
@[simp] theorem State.event_val (src code sev : Nat) (data : Bytes) (i j : Nat) : (s.event src code sev data).val i j = s.val i j := rfl
@[simp] theorem State.event_pval (src code sev : Nat) (data : Bytes) (q i j : Nat) : (s.event src code sev data).pval q i j = s.pval q i j := rfl
@[simp] theorem State.event_lval (src code sev : Nat) (data : Bytes) (q k i j : Nat) : (s.event src code sev data).lval q k i j = s.lval q k i j := rfl
@[simp] theorem State.event_flag (src code sev : Nat) (data : Bytes) (i j : Nat) : (s.event src code sev data).flag i j = s.flag i j := rfl
@[simp] theorem State.event_beat (src code sev : Nat) (data : Bytes) : (s.event src code sev data).beat = s.beat := rfl
@[simp] theorem State.event_blocks (src code sev : Nat) (data : Bytes) : (s.event src code sev data).blocks = s.blocks := rfl
@[simp] theorem State.event_block (src code sev : Nat) (data : Bytes) (q k : Nat) : (s.event src code sev data).block q k = s.block q k := rfl
@[simp] theorem State.event_held (src code sev : Nat) (data : Bytes) (q k : Nat) : (s.event src code sev data).held q k = s.held q k := rfl
@[simp] theorem State.event_port (src code sev : Nat) (data : Bytes) (q : Nat) : (s.event src code sev data).port q = s.port q := rfl
@[simp] theorem State.event_hasPort (src code sev : Nat) (data : Bytes) (q : Nat) : (s.event src code sev data).hasPort q = s.hasPort q := rfl
@[simp] theorem State.event_echo (src code sev : Nat) (data : Bytes) (q : Nat) (c : Band) : (s.event src code sev data).echo q c = s.echo q c := rfl
@[simp] theorem State.event_lane (src code sev : Nat) (data : Bytes) (q k : Nat) : (s.event src code sev data).lane q k = s.lane q k := rfl
@[simp] theorem State.event_page (src code sev : Nat) (data : Bytes) (q : Nat) : (s.event src code sev data).page q = s.page q := rfl
@[simp] theorem State.event_spool (src code sev : Nat) (data : Bytes) (q : Nat) : (s.event src code sev data).spool q = s.spool q := rfl
@[simp] theorem State.event_packet (src code sev : Nat) (data : Bytes) (q : Nat) : (s.event src code sev data).packet q = s.packet q := rfl
@[simp] theorem State.event_route (src code sev : Nat) (data : Bytes) (q : Nat) : (s.event src code sev data).route q = s.route q := rfl
@[simp] theorem State.event_link (src code sev : Nat) (data : Bytes) (q : Nat) : (s.event src code sev data).link q = s.link q := rfl
@[simp] theorem State.event_node (src code sev : Nat) (data : Bytes) (q : Nat) : (s.event src code sev data).node q = s.node q := rfl
@[simp] theorem State.event_cell (src code sev : Nat) (data : Bytes) (q : Nat) : (s.event src code sev data).cell q = s.cell q := rfl
@[simp] theorem State.event_slot (src code sev : Nat) (data : Bytes) (q : Nat) : (s.event src code sev data).slot q = s.slot q := rfl
@[simp] theorem State.event_domain (src code sev : Nat) (data : Bytes) (q : Nat) : (s.event src code sev data).domain q = s.domain q := rfl
@[simp] theorem State.event_channel (src code sev : Nat) (data : Bytes) (q : Nat) : (s.event src code sev data).channel q = s.channel q := rfl
@[simp] theorem State.event_unit (src code sev : Nat) (data : Bytes) (q : Nat) : (s.event src code sev data).unit q = s.unit q := rfl

/-! ## store -/

@[simp] theorem State.store_variant (key : Nat) (v : Bytes) : (s.store key v).variant = s.variant := rfl
@[simp] theorem State.store_tsc (key : Nat) (v : Bytes) : (s.store key v).tsc = s.tsc := rfl
@[simp] theorem State.store_pending (key : Nat) (v : Bytes) : (s.store key v).pending = s.pending := rfl
@[simp] theorem State.store_free (key : Nat) (v : Bytes) : (s.store key v).free = s.free := rfl
@[simp] theorem State.store_out (key : Nat) (v : Bytes) : (s.store key v).out = s.out := rfl
@[simp] theorem State.store_written (key : Nat) (v : Bytes) : (s.store key v).written = s.written := rfl
@[simp] theorem State.store_hier (key : Nat) (v : Bytes) : (s.store key v).hier = s.hier := rfl
@[simp] theorem State.store_mgr (key : Nat) (v : Bytes) : (s.store key v).mgr = s.mgr := rfl
@[simp] theorem State.store_time (key : Nat) (v : Bytes) : (s.store key v).time = s.time := rfl
@[simp] theorem State.store_tether (key : Nat) (v : Bytes) : (s.store key v).tether = s.tether := rfl
@[simp] theorem State.store_log (key : Nat) (v : Bytes) : (s.store key v).log = s.log := rfl
@[simp] theorem State.store_ports (key : Nat) (v : Bytes) : (s.store key v).ports = s.ports := rfl
@[simp] theorem State.store_echoes (key : Nat) (v : Bytes) : (s.store key v).echoes = s.echoes := rfl
@[simp] theorem State.store_lanes (key : Nat) (v : Bytes) : (s.store key v).lanes = s.lanes := rfl
@[simp] theorem State.store_spools (key : Nat) (v : Bytes) : (s.store key v).spools = s.spools := rfl
@[simp] theorem State.store_pages (key : Nat) (v : Bytes) : (s.store key v).pages = s.pages := rfl
@[simp] theorem State.store_routes (key : Nat) (v : Bytes) : (s.store key v).routes = s.routes := rfl
@[simp] theorem State.store_cells (key : Nat) (v : Bytes) : (s.store key v).cells = s.cells := rfl
@[simp] theorem State.store_trip (key : Nat) (v : Bytes) : (s.store key v).trip = s.trip := rfl
@[simp] theorem State.store_cipher (key : Nat) (v : Bytes) : (s.store key v).cipher = s.cipher := rfl
@[simp] theorem State.store_checkParts (key : Nat) (v : Bytes) : (s.store key v).checkParts = s.checkParts := rfl
@[simp] theorem State.store_ring (key : Nat) (v : Bytes) : (s.store key v).ring = s.ring := rfl
@[simp] theorem State.store_sensing (key : Nat) (v : Bytes) : (s.store key v).sensing = s.sensing := rfl
@[simp] theorem State.store_rst (key : Nat) (v : Bytes) : (s.store key v).rst = s.rst := rfl
@[simp] theorem State.store_sup (key : Nat) (v : Bytes) : (s.store key v).sup = s.sup := rfl
@[simp] theorem State.store_beat (key : Nat) (v : Bytes) : (s.store key v).beat = s.beat := rfl
@[simp] theorem State.store_blocks (key : Nat) (v : Bytes) : (s.store key v).blocks = s.blocks := rfl
@[simp] theorem State.store_block (key : Nat) (v : Bytes) (q k : Nat) : (s.store key v).block q k = s.block q k := rfl
@[simp] theorem State.store_held (key : Nat) (v : Bytes) (q k : Nat) : (s.store key v).held q k = s.held q k := rfl
@[simp] theorem State.store_port (key : Nat) (v : Bytes) (q : Nat) : (s.store key v).port q = s.port q := rfl
@[simp] theorem State.store_hasPort (key : Nat) (v : Bytes) (q : Nat) : (s.store key v).hasPort q = s.hasPort q := rfl
@[simp] theorem State.store_echo (key : Nat) (v : Bytes) (q : Nat) (c : Band) : (s.store key v).echo q c = s.echo q c := rfl
@[simp] theorem State.store_lane (key : Nat) (v : Bytes) (q k : Nat) : (s.store key v).lane q k = s.lane q k := rfl
@[simp] theorem State.store_page (key : Nat) (v : Bytes) (q : Nat) : (s.store key v).page q = s.page q := rfl
@[simp] theorem State.store_spool (key : Nat) (v : Bytes) (q : Nat) : (s.store key v).spool q = s.spool q := rfl
@[simp] theorem State.store_packet (key : Nat) (v : Bytes) (q : Nat) : (s.store key v).packet q = s.packet q := rfl
@[simp] theorem State.store_route (key : Nat) (v : Bytes) (q : Nat) : (s.store key v).route q = s.route q := rfl
@[simp] theorem State.store_link (key : Nat) (v : Bytes) (q : Nat) : (s.store key v).link q = s.link q := rfl
@[simp] theorem State.store_node (key : Nat) (v : Bytes) (q : Nat) : (s.store key v).node q = s.node q := rfl
@[simp] theorem State.store_cell (key : Nat) (v : Bytes) (q : Nat) : (s.store key v).cell q = s.cell q := rfl
@[simp] theorem State.store_slot (key : Nat) (v : Bytes) (q : Nat) : (s.store key v).slot q = s.slot q := rfl
@[simp] theorem State.store_domain (key : Nat) (v : Bytes) (q : Nat) : (s.store key v).domain q = s.domain q := rfl
@[simp] theorem State.store_channel (key : Nat) (v : Bytes) (q : Nat) : (s.store key v).channel q = s.channel q := rfl
@[simp] theorem State.store_unit (key : Nat) (v : Bytes) (q : Nat) : (s.store key v).unit q = s.unit q := rfl

/-! ## storeNat -/

@[simp] theorem State.storeNat_variant (key n : Nat) : (s.storeNat key n).variant = s.variant := rfl
@[simp] theorem State.storeNat_tsc (key n : Nat) : (s.storeNat key n).tsc = s.tsc := rfl
@[simp] theorem State.storeNat_pending (key n : Nat) : (s.storeNat key n).pending = s.pending := rfl
@[simp] theorem State.storeNat_free (key n : Nat) : (s.storeNat key n).free = s.free := rfl
@[simp] theorem State.storeNat_out (key n : Nat) : (s.storeNat key n).out = s.out := rfl
@[simp] theorem State.storeNat_written (key n : Nat) : (s.storeNat key n).written = s.written := rfl
@[simp] theorem State.storeNat_hier (key n : Nat) : (s.storeNat key n).hier = s.hier := rfl
@[simp] theorem State.storeNat_mgr (key n : Nat) : (s.storeNat key n).mgr = s.mgr := rfl
@[simp] theorem State.storeNat_time (key n : Nat) : (s.storeNat key n).time = s.time := rfl
@[simp] theorem State.storeNat_tether (key n : Nat) : (s.storeNat key n).tether = s.tether := rfl
@[simp] theorem State.storeNat_log (key n : Nat) : (s.storeNat key n).log = s.log := rfl
@[simp] theorem State.storeNat_ports (key n : Nat) : (s.storeNat key n).ports = s.ports := rfl
@[simp] theorem State.storeNat_echoes (key n : Nat) : (s.storeNat key n).echoes = s.echoes := rfl
@[simp] theorem State.storeNat_lanes (key n : Nat) : (s.storeNat key n).lanes = s.lanes := rfl
@[simp] theorem State.storeNat_spools (key n : Nat) : (s.storeNat key n).spools = s.spools := rfl
@[simp] theorem State.storeNat_pages (key n : Nat) : (s.storeNat key n).pages = s.pages := rfl
@[simp] theorem State.storeNat_routes (key n : Nat) : (s.storeNat key n).routes = s.routes := rfl
@[simp] theorem State.storeNat_cells (key n : Nat) : (s.storeNat key n).cells = s.cells := rfl
@[simp] theorem State.storeNat_trip (key n : Nat) : (s.storeNat key n).trip = s.trip := rfl
@[simp] theorem State.storeNat_cipher (key n : Nat) : (s.storeNat key n).cipher = s.cipher := rfl
@[simp] theorem State.storeNat_checkParts (key n : Nat) : (s.storeNat key n).checkParts = s.checkParts := rfl
@[simp] theorem State.storeNat_ring (key n : Nat) : (s.storeNat key n).ring = s.ring := rfl
@[simp] theorem State.storeNat_sensing (key n : Nat) : (s.storeNat key n).sensing = s.sensing := rfl
@[simp] theorem State.storeNat_rst (key n : Nat) : (s.storeNat key n).rst = s.rst := rfl
@[simp] theorem State.storeNat_sup (key n : Nat) : (s.storeNat key n).sup = s.sup := rfl
@[simp] theorem State.storeNat_beat (key n : Nat) : (s.storeNat key n).beat = s.beat := rfl
@[simp] theorem State.storeNat_blocks (key n : Nat) : (s.storeNat key n).blocks = s.blocks := rfl
@[simp] theorem State.storeNat_block (key n : Nat) (q k : Nat) : (s.storeNat key n).block q k = s.block q k := rfl
@[simp] theorem State.storeNat_held (key n : Nat) (q k : Nat) : (s.storeNat key n).held q k = s.held q k := rfl
@[simp] theorem State.storeNat_port (key n : Nat) (q : Nat) : (s.storeNat key n).port q = s.port q := rfl
@[simp] theorem State.storeNat_hasPort (key n : Nat) (q : Nat) : (s.storeNat key n).hasPort q = s.hasPort q := rfl
@[simp] theorem State.storeNat_echo (key n : Nat) (q : Nat) (c : Band) : (s.storeNat key n).echo q c = s.echo q c := rfl
@[simp] theorem State.storeNat_lane (key n : Nat) (q k : Nat) : (s.storeNat key n).lane q k = s.lane q k := rfl
@[simp] theorem State.storeNat_page (key n : Nat) (q : Nat) : (s.storeNat key n).page q = s.page q := rfl
@[simp] theorem State.storeNat_spool (key n : Nat) (q : Nat) : (s.storeNat key n).spool q = s.spool q := rfl
@[simp] theorem State.storeNat_packet (key n : Nat) (q : Nat) : (s.storeNat key n).packet q = s.packet q := rfl
@[simp] theorem State.storeNat_route (key n : Nat) (q : Nat) : (s.storeNat key n).route q = s.route q := rfl
@[simp] theorem State.storeNat_link (key n : Nat) (q : Nat) : (s.storeNat key n).link q = s.link q := rfl
@[simp] theorem State.storeNat_node (key n : Nat) (q : Nat) : (s.storeNat key n).node q = s.node q := rfl
@[simp] theorem State.storeNat_cell (key n : Nat) (q : Nat) : (s.storeNat key n).cell q = s.cell q := rfl
@[simp] theorem State.storeNat_slot (key n : Nat) (q : Nat) : (s.storeNat key n).slot q = s.slot q := rfl
@[simp] theorem State.storeNat_domain (key n : Nat) (q : Nat) : (s.storeNat key n).domain q = s.domain q := rfl
@[simp] theorem State.storeNat_channel (key n : Nat) (q : Nat) : (s.storeNat key n).channel q = s.channel q := rfl
@[simp] theorem State.storeNat_unit (key n : Nat) (q : Nat) : (s.storeNat key n).unit q = s.unit q := rfl

/-! ## setVal -/

@[simp] theorem State.setVal_variant (idx sub n : Nat) : (s.setVal idx sub n).variant = s.variant := rfl
@[simp] theorem State.setVal_tsc (idx sub n : Nat) : (s.setVal idx sub n).tsc = s.tsc := rfl
@[simp] theorem State.setVal_pending (idx sub n : Nat) : (s.setVal idx sub n).pending = s.pending := rfl
@[simp] theorem State.setVal_free (idx sub n : Nat) : (s.setVal idx sub n).free = s.free := rfl
@[simp] theorem State.setVal_out (idx sub n : Nat) : (s.setVal idx sub n).out = s.out := rfl
@[simp] theorem State.setVal_written (idx sub n : Nat) : (s.setVal idx sub n).written = s.written := rfl
@[simp] theorem State.setVal_hier (idx sub n : Nat) : (s.setVal idx sub n).hier = s.hier := rfl
@[simp] theorem State.setVal_mgr (idx sub n : Nat) : (s.setVal idx sub n).mgr = s.mgr := rfl
@[simp] theorem State.setVal_time (idx sub n : Nat) : (s.setVal idx sub n).time = s.time := rfl
@[simp] theorem State.setVal_tether (idx sub n : Nat) : (s.setVal idx sub n).tether = s.tether := rfl
@[simp] theorem State.setVal_log (idx sub n : Nat) : (s.setVal idx sub n).log = s.log := rfl
@[simp] theorem State.setVal_ports (idx sub n : Nat) : (s.setVal idx sub n).ports = s.ports := rfl
@[simp] theorem State.setVal_echoes (idx sub n : Nat) : (s.setVal idx sub n).echoes = s.echoes := rfl
@[simp] theorem State.setVal_lanes (idx sub n : Nat) : (s.setVal idx sub n).lanes = s.lanes := rfl
@[simp] theorem State.setVal_spools (idx sub n : Nat) : (s.setVal idx sub n).spools = s.spools := rfl
@[simp] theorem State.setVal_pages (idx sub n : Nat) : (s.setVal idx sub n).pages = s.pages := rfl
@[simp] theorem State.setVal_routes (idx sub n : Nat) : (s.setVal idx sub n).routes = s.routes := rfl
@[simp] theorem State.setVal_cells (idx sub n : Nat) : (s.setVal idx sub n).cells = s.cells := rfl
@[simp] theorem State.setVal_trip (idx sub n : Nat) : (s.setVal idx sub n).trip = s.trip := rfl
@[simp] theorem State.setVal_cipher (idx sub n : Nat) : (s.setVal idx sub n).cipher = s.cipher := rfl
@[simp] theorem State.setVal_checkParts (idx sub n : Nat) : (s.setVal idx sub n).checkParts = s.checkParts := rfl
@[simp] theorem State.setVal_ring (idx sub n : Nat) : (s.setVal idx sub n).ring = s.ring := rfl
@[simp] theorem State.setVal_sensing (idx sub n : Nat) : (s.setVal idx sub n).sensing = s.sensing := rfl
@[simp] theorem State.setVal_rst (idx sub n : Nat) : (s.setVal idx sub n).rst = s.rst := rfl
@[simp] theorem State.setVal_sup (idx sub n : Nat) : (s.setVal idx sub n).sup = s.sup := rfl
@[simp] theorem State.setVal_beat (idx sub n : Nat) : (s.setVal idx sub n).beat = s.beat := rfl
@[simp] theorem State.setVal_blocks (idx sub n : Nat) : (s.setVal idx sub n).blocks = s.blocks := rfl
@[simp] theorem State.setVal_block (idx sub n : Nat) (q k : Nat) : (s.setVal idx sub n).block q k = s.block q k := rfl
@[simp] theorem State.setVal_held (idx sub n : Nat) (q k : Nat) : (s.setVal idx sub n).held q k = s.held q k := rfl
@[simp] theorem State.setVal_port (idx sub n : Nat) (q : Nat) : (s.setVal idx sub n).port q = s.port q := rfl
@[simp] theorem State.setVal_hasPort (idx sub n : Nat) (q : Nat) : (s.setVal idx sub n).hasPort q = s.hasPort q := rfl
@[simp] theorem State.setVal_echo (idx sub n : Nat) (q : Nat) (c : Band) : (s.setVal idx sub n).echo q c = s.echo q c := rfl
@[simp] theorem State.setVal_lane (idx sub n : Nat) (q k : Nat) : (s.setVal idx sub n).lane q k = s.lane q k := rfl
@[simp] theorem State.setVal_page (idx sub n : Nat) (q : Nat) : (s.setVal idx sub n).page q = s.page q := rfl
@[simp] theorem State.setVal_spool (idx sub n : Nat) (q : Nat) : (s.setVal idx sub n).spool q = s.spool q := rfl
@[simp] theorem State.setVal_packet (idx sub n : Nat) (q : Nat) : (s.setVal idx sub n).packet q = s.packet q := rfl
@[simp] theorem State.setVal_route (idx sub n : Nat) (q : Nat) : (s.setVal idx sub n).route q = s.route q := rfl
@[simp] theorem State.setVal_link (idx sub n : Nat) (q : Nat) : (s.setVal idx sub n).link q = s.link q := rfl
@[simp] theorem State.setVal_node (idx sub n : Nat) (q : Nat) : (s.setVal idx sub n).node q = s.node q := rfl
@[simp] theorem State.setVal_cell (idx sub n : Nat) (q : Nat) : (s.setVal idx sub n).cell q = s.cell q := rfl
@[simp] theorem State.setVal_slot (idx sub n : Nat) (q : Nat) : (s.setVal idx sub n).slot q = s.slot q := rfl
@[simp] theorem State.setVal_domain (idx sub n : Nat) (q : Nat) : (s.setVal idx sub n).domain q = s.domain q := rfl
@[simp] theorem State.setVal_channel (idx sub n : Nat) (q : Nat) : (s.setVal idx sub n).channel q = s.channel q := rfl
@[simp] theorem State.setVal_unit (idx sub n : Nat) (q : Nat) : (s.setVal idx sub n).unit q = s.unit q := rfl

/-! ## bumpKey -/

@[simp] theorem State.bumpKey_variant (key n : Nat) : (s.bumpKey key n).variant = s.variant := rfl
@[simp] theorem State.bumpKey_tsc (key n : Nat) : (s.bumpKey key n).tsc = s.tsc := rfl
@[simp] theorem State.bumpKey_pending (key n : Nat) : (s.bumpKey key n).pending = s.pending := rfl
@[simp] theorem State.bumpKey_free (key n : Nat) : (s.bumpKey key n).free = s.free := rfl
@[simp] theorem State.bumpKey_out (key n : Nat) : (s.bumpKey key n).out = s.out := rfl
@[simp] theorem State.bumpKey_written (key n : Nat) : (s.bumpKey key n).written = s.written := rfl
@[simp] theorem State.bumpKey_hier (key n : Nat) : (s.bumpKey key n).hier = s.hier := rfl
@[simp] theorem State.bumpKey_mgr (key n : Nat) : (s.bumpKey key n).mgr = s.mgr := rfl
@[simp] theorem State.bumpKey_time (key n : Nat) : (s.bumpKey key n).time = s.time := rfl
@[simp] theorem State.bumpKey_tether (key n : Nat) : (s.bumpKey key n).tether = s.tether := rfl
@[simp] theorem State.bumpKey_log (key n : Nat) : (s.bumpKey key n).log = s.log := rfl
@[simp] theorem State.bumpKey_ports (key n : Nat) : (s.bumpKey key n).ports = s.ports := rfl
@[simp] theorem State.bumpKey_echoes (key n : Nat) : (s.bumpKey key n).echoes = s.echoes := rfl
@[simp] theorem State.bumpKey_lanes (key n : Nat) : (s.bumpKey key n).lanes = s.lanes := rfl
@[simp] theorem State.bumpKey_spools (key n : Nat) : (s.bumpKey key n).spools = s.spools := rfl
@[simp] theorem State.bumpKey_pages (key n : Nat) : (s.bumpKey key n).pages = s.pages := rfl
@[simp] theorem State.bumpKey_routes (key n : Nat) : (s.bumpKey key n).routes = s.routes := rfl
@[simp] theorem State.bumpKey_cells (key n : Nat) : (s.bumpKey key n).cells = s.cells := rfl
@[simp] theorem State.bumpKey_trip (key n : Nat) : (s.bumpKey key n).trip = s.trip := rfl
@[simp] theorem State.bumpKey_cipher (key n : Nat) : (s.bumpKey key n).cipher = s.cipher := rfl
@[simp] theorem State.bumpKey_checkParts (key n : Nat) : (s.bumpKey key n).checkParts = s.checkParts := rfl
@[simp] theorem State.bumpKey_ring (key n : Nat) : (s.bumpKey key n).ring = s.ring := rfl
@[simp] theorem State.bumpKey_sensing (key n : Nat) : (s.bumpKey key n).sensing = s.sensing := rfl
@[simp] theorem State.bumpKey_rst (key n : Nat) : (s.bumpKey key n).rst = s.rst := rfl
@[simp] theorem State.bumpKey_sup (key n : Nat) : (s.bumpKey key n).sup = s.sup := rfl
@[simp] theorem State.bumpKey_beat (key n : Nat) : (s.bumpKey key n).beat = s.beat := rfl
@[simp] theorem State.bumpKey_blocks (key n : Nat) : (s.bumpKey key n).blocks = s.blocks := rfl
@[simp] theorem State.bumpKey_block (key n : Nat) (q k : Nat) : (s.bumpKey key n).block q k = s.block q k := rfl
@[simp] theorem State.bumpKey_held (key n : Nat) (q k : Nat) : (s.bumpKey key n).held q k = s.held q k := rfl
@[simp] theorem State.bumpKey_port (key n : Nat) (q : Nat) : (s.bumpKey key n).port q = s.port q := rfl
@[simp] theorem State.bumpKey_hasPort (key n : Nat) (q : Nat) : (s.bumpKey key n).hasPort q = s.hasPort q := rfl
@[simp] theorem State.bumpKey_echo (key n : Nat) (q : Nat) (c : Band) : (s.bumpKey key n).echo q c = s.echo q c := rfl
@[simp] theorem State.bumpKey_lane (key n : Nat) (q k : Nat) : (s.bumpKey key n).lane q k = s.lane q k := rfl
@[simp] theorem State.bumpKey_page (key n : Nat) (q : Nat) : (s.bumpKey key n).page q = s.page q := rfl
@[simp] theorem State.bumpKey_spool (key n : Nat) (q : Nat) : (s.bumpKey key n).spool q = s.spool q := rfl
@[simp] theorem State.bumpKey_packet (key n : Nat) (q : Nat) : (s.bumpKey key n).packet q = s.packet q := rfl
@[simp] theorem State.bumpKey_route (key n : Nat) (q : Nat) : (s.bumpKey key n).route q = s.route q := rfl
@[simp] theorem State.bumpKey_link (key n : Nat) (q : Nat) : (s.bumpKey key n).link q = s.link q := rfl
@[simp] theorem State.bumpKey_node (key n : Nat) (q : Nat) : (s.bumpKey key n).node q = s.node q := rfl
@[simp] theorem State.bumpKey_cell (key n : Nat) (q : Nat) : (s.bumpKey key n).cell q = s.cell q := rfl
@[simp] theorem State.bumpKey_slot (key n : Nat) (q : Nat) : (s.bumpKey key n).slot q = s.slot q := rfl
@[simp] theorem State.bumpKey_domain (key n : Nat) (q : Nat) : (s.bumpKey key n).domain q = s.domain q := rfl
@[simp] theorem State.bumpKey_channel (key n : Nat) (q : Nat) : (s.bumpKey key n).channel q = s.channel q := rfl
@[simp] theorem State.bumpKey_unit (key n : Nat) (q : Nat) : (s.bumpKey key n).unit q = s.unit q := rfl

/-! ## bump -/

@[simp] theorem State.bump_variant (idx sub : Nat) : (s.bump idx sub).variant = s.variant := rfl
@[simp] theorem State.bump_tsc (idx sub : Nat) : (s.bump idx sub).tsc = s.tsc := rfl
@[simp] theorem State.bump_pending (idx sub : Nat) : (s.bump idx sub).pending = s.pending := rfl
@[simp] theorem State.bump_free (idx sub : Nat) : (s.bump idx sub).free = s.free := rfl
@[simp] theorem State.bump_out (idx sub : Nat) : (s.bump idx sub).out = s.out := rfl
@[simp] theorem State.bump_written (idx sub : Nat) : (s.bump idx sub).written = s.written := rfl
@[simp] theorem State.bump_hier (idx sub : Nat) : (s.bump idx sub).hier = s.hier := rfl
@[simp] theorem State.bump_mgr (idx sub : Nat) : (s.bump idx sub).mgr = s.mgr := rfl
@[simp] theorem State.bump_time (idx sub : Nat) : (s.bump idx sub).time = s.time := rfl
@[simp] theorem State.bump_tether (idx sub : Nat) : (s.bump idx sub).tether = s.tether := rfl
@[simp] theorem State.bump_log (idx sub : Nat) : (s.bump idx sub).log = s.log := rfl
@[simp] theorem State.bump_ports (idx sub : Nat) : (s.bump idx sub).ports = s.ports := rfl
@[simp] theorem State.bump_echoes (idx sub : Nat) : (s.bump idx sub).echoes = s.echoes := rfl
@[simp] theorem State.bump_lanes (idx sub : Nat) : (s.bump idx sub).lanes = s.lanes := rfl
@[simp] theorem State.bump_spools (idx sub : Nat) : (s.bump idx sub).spools = s.spools := rfl
@[simp] theorem State.bump_pages (idx sub : Nat) : (s.bump idx sub).pages = s.pages := rfl
@[simp] theorem State.bump_routes (idx sub : Nat) : (s.bump idx sub).routes = s.routes := rfl
@[simp] theorem State.bump_cells (idx sub : Nat) : (s.bump idx sub).cells = s.cells := rfl
@[simp] theorem State.bump_trip (idx sub : Nat) : (s.bump idx sub).trip = s.trip := rfl
@[simp] theorem State.bump_cipher (idx sub : Nat) : (s.bump idx sub).cipher = s.cipher := rfl
@[simp] theorem State.bump_checkParts (idx sub : Nat) : (s.bump idx sub).checkParts = s.checkParts := rfl
@[simp] theorem State.bump_ring (idx sub : Nat) : (s.bump idx sub).ring = s.ring := rfl
@[simp] theorem State.bump_sensing (idx sub : Nat) : (s.bump idx sub).sensing = s.sensing := rfl
@[simp] theorem State.bump_rst (idx sub : Nat) : (s.bump idx sub).rst = s.rst := rfl
@[simp] theorem State.bump_sup (idx sub : Nat) : (s.bump idx sub).sup = s.sup := rfl
@[simp] theorem State.bump_beat (idx sub : Nat) : (s.bump idx sub).beat = s.beat := rfl
@[simp] theorem State.bump_blocks (idx sub : Nat) : (s.bump idx sub).blocks = s.blocks := rfl
@[simp] theorem State.bump_block (idx sub : Nat) (q k : Nat) : (s.bump idx sub).block q k = s.block q k := rfl
@[simp] theorem State.bump_held (idx sub : Nat) (q k : Nat) : (s.bump idx sub).held q k = s.held q k := rfl
@[simp] theorem State.bump_port (idx sub : Nat) (q : Nat) : (s.bump idx sub).port q = s.port q := rfl
@[simp] theorem State.bump_hasPort (idx sub : Nat) (q : Nat) : (s.bump idx sub).hasPort q = s.hasPort q := rfl
@[simp] theorem State.bump_echo (idx sub : Nat) (q : Nat) (c : Band) : (s.bump idx sub).echo q c = s.echo q c := rfl
@[simp] theorem State.bump_lane (idx sub : Nat) (q k : Nat) : (s.bump idx sub).lane q k = s.lane q k := rfl
@[simp] theorem State.bump_page (idx sub : Nat) (q : Nat) : (s.bump idx sub).page q = s.page q := rfl
@[simp] theorem State.bump_spool (idx sub : Nat) (q : Nat) : (s.bump idx sub).spool q = s.spool q := rfl
@[simp] theorem State.bump_packet (idx sub : Nat) (q : Nat) : (s.bump idx sub).packet q = s.packet q := rfl
@[simp] theorem State.bump_route (idx sub : Nat) (q : Nat) : (s.bump idx sub).route q = s.route q := rfl
@[simp] theorem State.bump_link (idx sub : Nat) (q : Nat) : (s.bump idx sub).link q = s.link q := rfl
@[simp] theorem State.bump_node (idx sub : Nat) (q : Nat) : (s.bump idx sub).node q = s.node q := rfl
@[simp] theorem State.bump_cell (idx sub : Nat) (q : Nat) : (s.bump idx sub).cell q = s.cell q := rfl
@[simp] theorem State.bump_slot (idx sub : Nat) (q : Nat) : (s.bump idx sub).slot q = s.slot q := rfl
@[simp] theorem State.bump_domain (idx sub : Nat) (q : Nat) : (s.bump idx sub).domain q = s.domain q := rfl
@[simp] theorem State.bump_channel (idx sub : Nat) (q : Nat) : (s.bump idx sub).channel q = s.channel q := rfl
@[simp] theorem State.bump_unit (idx sub : Nat) (q : Nat) : (s.bump idx sub).unit q = s.unit q := rfl

/-! ## pbump -/

@[simp] theorem State.pbump_variant (p idx sub : Nat) : (s.pbump p idx sub).variant = s.variant := rfl
@[simp] theorem State.pbump_tsc (p idx sub : Nat) : (s.pbump p idx sub).tsc = s.tsc := rfl
@[simp] theorem State.pbump_pending (p idx sub : Nat) : (s.pbump p idx sub).pending = s.pending := rfl
@[simp] theorem State.pbump_free (p idx sub : Nat) : (s.pbump p idx sub).free = s.free := rfl
@[simp] theorem State.pbump_out (p idx sub : Nat) : (s.pbump p idx sub).out = s.out := rfl
@[simp] theorem State.pbump_written (p idx sub : Nat) : (s.pbump p idx sub).written = s.written := rfl
@[simp] theorem State.pbump_hier (p idx sub : Nat) : (s.pbump p idx sub).hier = s.hier := rfl
@[simp] theorem State.pbump_mgr (p idx sub : Nat) : (s.pbump p idx sub).mgr = s.mgr := rfl
@[simp] theorem State.pbump_time (p idx sub : Nat) : (s.pbump p idx sub).time = s.time := rfl
@[simp] theorem State.pbump_tether (p idx sub : Nat) : (s.pbump p idx sub).tether = s.tether := rfl
@[simp] theorem State.pbump_log (p idx sub : Nat) : (s.pbump p idx sub).log = s.log := rfl
@[simp] theorem State.pbump_ports (p idx sub : Nat) : (s.pbump p idx sub).ports = s.ports := rfl
@[simp] theorem State.pbump_echoes (p idx sub : Nat) : (s.pbump p idx sub).echoes = s.echoes := rfl
@[simp] theorem State.pbump_lanes (p idx sub : Nat) : (s.pbump p idx sub).lanes = s.lanes := rfl
@[simp] theorem State.pbump_spools (p idx sub : Nat) : (s.pbump p idx sub).spools = s.spools := rfl
@[simp] theorem State.pbump_pages (p idx sub : Nat) : (s.pbump p idx sub).pages = s.pages := rfl
@[simp] theorem State.pbump_routes (p idx sub : Nat) : (s.pbump p idx sub).routes = s.routes := rfl
@[simp] theorem State.pbump_cells (p idx sub : Nat) : (s.pbump p idx sub).cells = s.cells := rfl
@[simp] theorem State.pbump_trip (p idx sub : Nat) : (s.pbump p idx sub).trip = s.trip := rfl
@[simp] theorem State.pbump_cipher (p idx sub : Nat) : (s.pbump p idx sub).cipher = s.cipher := rfl
@[simp] theorem State.pbump_checkParts (p idx sub : Nat) : (s.pbump p idx sub).checkParts = s.checkParts := rfl
@[simp] theorem State.pbump_ring (p idx sub : Nat) : (s.pbump p idx sub).ring = s.ring := rfl
@[simp] theorem State.pbump_sensing (p idx sub : Nat) : (s.pbump p idx sub).sensing = s.sensing := rfl
@[simp] theorem State.pbump_rst (p idx sub : Nat) : (s.pbump p idx sub).rst = s.rst := rfl
@[simp] theorem State.pbump_sup (p idx sub : Nat) : (s.pbump p idx sub).sup = s.sup := rfl
@[simp] theorem State.pbump_beat (p idx sub : Nat) : (s.pbump p idx sub).beat = s.beat := rfl
@[simp] theorem State.pbump_blocks (p idx sub : Nat) : (s.pbump p idx sub).blocks = s.blocks := rfl
@[simp] theorem State.pbump_block (p idx sub : Nat) (q k : Nat) : (s.pbump p idx sub).block q k = s.block q k := rfl
@[simp] theorem State.pbump_held (p idx sub : Nat) (q k : Nat) : (s.pbump p idx sub).held q k = s.held q k := rfl
@[simp] theorem State.pbump_port (p idx sub : Nat) (q : Nat) : (s.pbump p idx sub).port q = s.port q := rfl
@[simp] theorem State.pbump_hasPort (p idx sub : Nat) (q : Nat) : (s.pbump p idx sub).hasPort q = s.hasPort q := rfl
@[simp] theorem State.pbump_echo (p idx sub : Nat) (q : Nat) (c : Band) : (s.pbump p idx sub).echo q c = s.echo q c := rfl
@[simp] theorem State.pbump_lane (p idx sub : Nat) (q k : Nat) : (s.pbump p idx sub).lane q k = s.lane q k := rfl
@[simp] theorem State.pbump_page (p idx sub : Nat) (q : Nat) : (s.pbump p idx sub).page q = s.page q := rfl
@[simp] theorem State.pbump_spool (p idx sub : Nat) (q : Nat) : (s.pbump p idx sub).spool q = s.spool q := rfl
@[simp] theorem State.pbump_packet (p idx sub : Nat) (q : Nat) : (s.pbump p idx sub).packet q = s.packet q := rfl
@[simp] theorem State.pbump_route (p idx sub : Nat) (q : Nat) : (s.pbump p idx sub).route q = s.route q := rfl
@[simp] theorem State.pbump_link (p idx sub : Nat) (q : Nat) : (s.pbump p idx sub).link q = s.link q := rfl
@[simp] theorem State.pbump_node (p idx sub : Nat) (q : Nat) : (s.pbump p idx sub).node q = s.node q := rfl
@[simp] theorem State.pbump_cell (p idx sub : Nat) (q : Nat) : (s.pbump p idx sub).cell q = s.cell q := rfl
@[simp] theorem State.pbump_slot (p idx sub : Nat) (q : Nat) : (s.pbump p idx sub).slot q = s.slot q := rfl
@[simp] theorem State.pbump_domain (p idx sub : Nat) (q : Nat) : (s.pbump p idx sub).domain q = s.domain q := rfl
@[simp] theorem State.pbump_channel (p idx sub : Nat) (q : Nat) : (s.pbump p idx sub).channel q = s.channel q := rfl
@[simp] theorem State.pbump_unit (p idx sub : Nat) (q : Nat) : (s.pbump p idx sub).unit q = s.unit q := rfl

/-! ## lbumpN -/

@[simp] theorem State.lbumpN_variant (p l idx sub n : Nat) : (s.lbumpN p l idx sub n).variant = s.variant := rfl
@[simp] theorem State.lbumpN_tsc (p l idx sub n : Nat) : (s.lbumpN p l idx sub n).tsc = s.tsc := rfl
@[simp] theorem State.lbumpN_pending (p l idx sub n : Nat) : (s.lbumpN p l idx sub n).pending = s.pending := rfl
@[simp] theorem State.lbumpN_free (p l idx sub n : Nat) : (s.lbumpN p l idx sub n).free = s.free := rfl
@[simp] theorem State.lbumpN_out (p l idx sub n : Nat) : (s.lbumpN p l idx sub n).out = s.out := rfl
@[simp] theorem State.lbumpN_written (p l idx sub n : Nat) : (s.lbumpN p l idx sub n).written = s.written := rfl
@[simp] theorem State.lbumpN_hier (p l idx sub n : Nat) : (s.lbumpN p l idx sub n).hier = s.hier := rfl
@[simp] theorem State.lbumpN_mgr (p l idx sub n : Nat) : (s.lbumpN p l idx sub n).mgr = s.mgr := rfl
@[simp] theorem State.lbumpN_time (p l idx sub n : Nat) : (s.lbumpN p l idx sub n).time = s.time := rfl
@[simp] theorem State.lbumpN_tether (p l idx sub n : Nat) : (s.lbumpN p l idx sub n).tether = s.tether := rfl
@[simp] theorem State.lbumpN_log (p l idx sub n : Nat) : (s.lbumpN p l idx sub n).log = s.log := rfl
@[simp] theorem State.lbumpN_ports (p l idx sub n : Nat) : (s.lbumpN p l idx sub n).ports = s.ports := rfl
@[simp] theorem State.lbumpN_echoes (p l idx sub n : Nat) : (s.lbumpN p l idx sub n).echoes = s.echoes := rfl
@[simp] theorem State.lbumpN_lanes (p l idx sub n : Nat) : (s.lbumpN p l idx sub n).lanes = s.lanes := rfl
@[simp] theorem State.lbumpN_spools (p l idx sub n : Nat) : (s.lbumpN p l idx sub n).spools = s.spools := rfl
@[simp] theorem State.lbumpN_pages (p l idx sub n : Nat) : (s.lbumpN p l idx sub n).pages = s.pages := rfl
@[simp] theorem State.lbumpN_routes (p l idx sub n : Nat) : (s.lbumpN p l idx sub n).routes = s.routes := rfl
@[simp] theorem State.lbumpN_cells (p l idx sub n : Nat) : (s.lbumpN p l idx sub n).cells = s.cells := rfl
@[simp] theorem State.lbumpN_trip (p l idx sub n : Nat) : (s.lbumpN p l idx sub n).trip = s.trip := rfl
@[simp] theorem State.lbumpN_cipher (p l idx sub n : Nat) : (s.lbumpN p l idx sub n).cipher = s.cipher := rfl
@[simp] theorem State.lbumpN_checkParts (p l idx sub n : Nat) : (s.lbumpN p l idx sub n).checkParts = s.checkParts := rfl
@[simp] theorem State.lbumpN_ring (p l idx sub n : Nat) : (s.lbumpN p l idx sub n).ring = s.ring := rfl
@[simp] theorem State.lbumpN_sensing (p l idx sub n : Nat) : (s.lbumpN p l idx sub n).sensing = s.sensing := rfl
@[simp] theorem State.lbumpN_rst (p l idx sub n : Nat) : (s.lbumpN p l idx sub n).rst = s.rst := rfl
@[simp] theorem State.lbumpN_sup (p l idx sub n : Nat) : (s.lbumpN p l idx sub n).sup = s.sup := rfl
@[simp] theorem State.lbumpN_beat (p l idx sub n : Nat) : (s.lbumpN p l idx sub n).beat = s.beat := rfl
@[simp] theorem State.lbumpN_blocks (p l idx sub n : Nat) : (s.lbumpN p l idx sub n).blocks = s.blocks := rfl
@[simp] theorem State.lbumpN_block (p l idx sub n : Nat) (q k : Nat) : (s.lbumpN p l idx sub n).block q k = s.block q k := rfl
@[simp] theorem State.lbumpN_held (p l idx sub n : Nat) (q k : Nat) : (s.lbumpN p l idx sub n).held q k = s.held q k := rfl
@[simp] theorem State.lbumpN_port (p l idx sub n : Nat) (q : Nat) : (s.lbumpN p l idx sub n).port q = s.port q := rfl
@[simp] theorem State.lbumpN_hasPort (p l idx sub n : Nat) (q : Nat) : (s.lbumpN p l idx sub n).hasPort q = s.hasPort q := rfl
@[simp] theorem State.lbumpN_echo (p l idx sub n : Nat) (q : Nat) (c : Band) : (s.lbumpN p l idx sub n).echo q c = s.echo q c := rfl
@[simp] theorem State.lbumpN_lane (p l idx sub n : Nat) (q k : Nat) : (s.lbumpN p l idx sub n).lane q k = s.lane q k := rfl
@[simp] theorem State.lbumpN_page (p l idx sub n : Nat) (q : Nat) : (s.lbumpN p l idx sub n).page q = s.page q := rfl
@[simp] theorem State.lbumpN_spool (p l idx sub n : Nat) (q : Nat) : (s.lbumpN p l idx sub n).spool q = s.spool q := rfl
@[simp] theorem State.lbumpN_packet (p l idx sub n : Nat) (q : Nat) : (s.lbumpN p l idx sub n).packet q = s.packet q := rfl
@[simp] theorem State.lbumpN_route (p l idx sub n : Nat) (q : Nat) : (s.lbumpN p l idx sub n).route q = s.route q := rfl
@[simp] theorem State.lbumpN_link (p l idx sub n : Nat) (q : Nat) : (s.lbumpN p l idx sub n).link q = s.link q := rfl
@[simp] theorem State.lbumpN_node (p l idx sub n : Nat) (q : Nat) : (s.lbumpN p l idx sub n).node q = s.node q := rfl
@[simp] theorem State.lbumpN_cell (p l idx sub n : Nat) (q : Nat) : (s.lbumpN p l idx sub n).cell q = s.cell q := rfl
@[simp] theorem State.lbumpN_slot (p l idx sub n : Nat) (q : Nat) : (s.lbumpN p l idx sub n).slot q = s.slot q := rfl
@[simp] theorem State.lbumpN_domain (p l idx sub n : Nat) (q : Nat) : (s.lbumpN p l idx sub n).domain q = s.domain q := rfl
@[simp] theorem State.lbumpN_channel (p l idx sub n : Nat) (q : Nat) : (s.lbumpN p l idx sub n).channel q = s.channel q := rfl
@[simp] theorem State.lbumpN_unit (p l idx sub n : Nat) (q : Nat) : (s.lbumpN p l idx sub n).unit q = s.unit q := rfl

/-! ## lbump -/

@[simp] theorem State.lbump_variant (p l idx sub : Nat) : (s.lbump p l idx sub).variant = s.variant := rfl
@[simp] theorem State.lbump_tsc (p l idx sub : Nat) : (s.lbump p l idx sub).tsc = s.tsc := rfl
@[simp] theorem State.lbump_pending (p l idx sub : Nat) : (s.lbump p l idx sub).pending = s.pending := rfl
@[simp] theorem State.lbump_free (p l idx sub : Nat) : (s.lbump p l idx sub).free = s.free := rfl
@[simp] theorem State.lbump_out (p l idx sub : Nat) : (s.lbump p l idx sub).out = s.out := rfl
@[simp] theorem State.lbump_written (p l idx sub : Nat) : (s.lbump p l idx sub).written = s.written := rfl
@[simp] theorem State.lbump_hier (p l idx sub : Nat) : (s.lbump p l idx sub).hier = s.hier := rfl
@[simp] theorem State.lbump_mgr (p l idx sub : Nat) : (s.lbump p l idx sub).mgr = s.mgr := rfl
@[simp] theorem State.lbump_time (p l idx sub : Nat) : (s.lbump p l idx sub).time = s.time := rfl
@[simp] theorem State.lbump_tether (p l idx sub : Nat) : (s.lbump p l idx sub).tether = s.tether := rfl
@[simp] theorem State.lbump_log (p l idx sub : Nat) : (s.lbump p l idx sub).log = s.log := rfl
@[simp] theorem State.lbump_ports (p l idx sub : Nat) : (s.lbump p l idx sub).ports = s.ports := rfl
@[simp] theorem State.lbump_echoes (p l idx sub : Nat) : (s.lbump p l idx sub).echoes = s.echoes := rfl
@[simp] theorem State.lbump_lanes (p l idx sub : Nat) : (s.lbump p l idx sub).lanes = s.lanes := rfl
@[simp] theorem State.lbump_spools (p l idx sub : Nat) : (s.lbump p l idx sub).spools = s.spools := rfl
@[simp] theorem State.lbump_pages (p l idx sub : Nat) : (s.lbump p l idx sub).pages = s.pages := rfl
@[simp] theorem State.lbump_routes (p l idx sub : Nat) : (s.lbump p l idx sub).routes = s.routes := rfl
@[simp] theorem State.lbump_cells (p l idx sub : Nat) : (s.lbump p l idx sub).cells = s.cells := rfl
@[simp] theorem State.lbump_trip (p l idx sub : Nat) : (s.lbump p l idx sub).trip = s.trip := rfl
@[simp] theorem State.lbump_cipher (p l idx sub : Nat) : (s.lbump p l idx sub).cipher = s.cipher := rfl
@[simp] theorem State.lbump_checkParts (p l idx sub : Nat) : (s.lbump p l idx sub).checkParts = s.checkParts := rfl
@[simp] theorem State.lbump_ring (p l idx sub : Nat) : (s.lbump p l idx sub).ring = s.ring := rfl
@[simp] theorem State.lbump_sensing (p l idx sub : Nat) : (s.lbump p l idx sub).sensing = s.sensing := rfl
@[simp] theorem State.lbump_rst (p l idx sub : Nat) : (s.lbump p l idx sub).rst = s.rst := rfl
@[simp] theorem State.lbump_sup (p l idx sub : Nat) : (s.lbump p l idx sub).sup = s.sup := rfl
@[simp] theorem State.lbump_beat (p l idx sub : Nat) : (s.lbump p l idx sub).beat = s.beat := rfl
@[simp] theorem State.lbump_blocks (p l idx sub : Nat) : (s.lbump p l idx sub).blocks = s.blocks := rfl
@[simp] theorem State.lbump_block (p l idx sub : Nat) (q k : Nat) : (s.lbump p l idx sub).block q k = s.block q k := rfl
@[simp] theorem State.lbump_held (p l idx sub : Nat) (q k : Nat) : (s.lbump p l idx sub).held q k = s.held q k := rfl
@[simp] theorem State.lbump_port (p l idx sub : Nat) (q : Nat) : (s.lbump p l idx sub).port q = s.port q := rfl
@[simp] theorem State.lbump_hasPort (p l idx sub : Nat) (q : Nat) : (s.lbump p l idx sub).hasPort q = s.hasPort q := rfl
@[simp] theorem State.lbump_echo (p l idx sub : Nat) (q : Nat) (c : Band) : (s.lbump p l idx sub).echo q c = s.echo q c := rfl
@[simp] theorem State.lbump_lane (p l idx sub : Nat) (q k : Nat) : (s.lbump p l idx sub).lane q k = s.lane q k := rfl
@[simp] theorem State.lbump_page (p l idx sub : Nat) (q : Nat) : (s.lbump p l idx sub).page q = s.page q := rfl
@[simp] theorem State.lbump_spool (p l idx sub : Nat) (q : Nat) : (s.lbump p l idx sub).spool q = s.spool q := rfl
@[simp] theorem State.lbump_packet (p l idx sub : Nat) (q : Nat) : (s.lbump p l idx sub).packet q = s.packet q := rfl
@[simp] theorem State.lbump_route (p l idx sub : Nat) (q : Nat) : (s.lbump p l idx sub).route q = s.route q := rfl
@[simp] theorem State.lbump_link (p l idx sub : Nat) (q : Nat) : (s.lbump p l idx sub).link q = s.link q := rfl
@[simp] theorem State.lbump_node (p l idx sub : Nat) (q : Nat) : (s.lbump p l idx sub).node q = s.node q := rfl
@[simp] theorem State.lbump_cell (p l idx sub : Nat) (q : Nat) : (s.lbump p l idx sub).cell q = s.cell q := rfl
@[simp] theorem State.lbump_slot (p l idx sub : Nat) (q : Nat) : (s.lbump p l idx sub).slot q = s.slot q := rfl
@[simp] theorem State.lbump_domain (p l idx sub : Nat) (q : Nat) : (s.lbump p l idx sub).domain q = s.domain q := rfl
@[simp] theorem State.lbump_channel (p l idx sub : Nat) (q : Nat) : (s.lbump p l idx sub).channel q = s.channel q := rfl
@[simp] theorem State.lbump_unit (p l idx sub : Nat) (q : Nat) : (s.lbump p l idx sub).unit q = s.unit q := rfl

/-! ## returnItem -/

@[simp] theorem State.returnItem_variant (src status count : Nat) : (s.returnItem src status count).variant = s.variant := rfl
@[simp] theorem State.returnItem_tsc (src status count : Nat) : (s.returnItem src status count).tsc = s.tsc := rfl
@[simp] theorem State.returnItem_pending (src status count : Nat) : (s.returnItem src status count).pending = s.pending := rfl
@[simp] theorem State.returnItem_free (src status count : Nat) : (s.returnItem src status count).free = s.free := rfl
@[simp] theorem State.returnItem_dict (src status count : Nat) : (s.returnItem src status count).dict = s.dict := rfl
@[simp] theorem State.returnItem_written (src status count : Nat) : (s.returnItem src status count).written = s.written := rfl
@[simp] theorem State.returnItem_hier (src status count : Nat) : (s.returnItem src status count).hier = s.hier := rfl
@[simp] theorem State.returnItem_mgr (src status count : Nat) : (s.returnItem src status count).mgr = s.mgr := rfl
@[simp] theorem State.returnItem_time (src status count : Nat) : (s.returnItem src status count).time = s.time := rfl
@[simp] theorem State.returnItem_tether (src status count : Nat) : (s.returnItem src status count).tether = s.tether := rfl
@[simp] theorem State.returnItem_log (src status count : Nat) : (s.returnItem src status count).log = s.log := rfl
@[simp] theorem State.returnItem_ports (src status count : Nat) : (s.returnItem src status count).ports = s.ports := rfl
@[simp] theorem State.returnItem_echoes (src status count : Nat) : (s.returnItem src status count).echoes = s.echoes := rfl
@[simp] theorem State.returnItem_lanes (src status count : Nat) : (s.returnItem src status count).lanes = s.lanes := rfl
@[simp] theorem State.returnItem_spools (src status count : Nat) : (s.returnItem src status count).spools = s.spools := rfl
@[simp] theorem State.returnItem_pages (src status count : Nat) : (s.returnItem src status count).pages = s.pages := rfl
@[simp] theorem State.returnItem_routes (src status count : Nat) : (s.returnItem src status count).routes = s.routes := rfl
@[simp] theorem State.returnItem_cells (src status count : Nat) : (s.returnItem src status count).cells = s.cells := rfl
@[simp] theorem State.returnItem_trip (src status count : Nat) : (s.returnItem src status count).trip = s.trip := rfl
@[simp] theorem State.returnItem_cipher (src status count : Nat) : (s.returnItem src status count).cipher = s.cipher := rfl
@[simp] theorem State.returnItem_checkParts (src status count : Nat) : (s.returnItem src status count).checkParts = s.checkParts := rfl
@[simp] theorem State.returnItem_ring (src status count : Nat) : (s.returnItem src status count).ring = s.ring := rfl
@[simp] theorem State.returnItem_sensing (src status count : Nat) : (s.returnItem src status count).sensing = s.sensing := rfl
@[simp] theorem State.returnItem_rst (src status count : Nat) : (s.returnItem src status count).rst = s.rst := rfl
@[simp] theorem State.returnItem_sup (src status count : Nat) : (s.returnItem src status count).sup = s.sup := rfl
@[simp] theorem State.returnItem_raw (src status count : Nat) (k : Nat) : (s.returnItem src status count).raw k = s.raw k := rfl
@[simp] theorem State.returnItem_val (src status count : Nat) (i j : Nat) : (s.returnItem src status count).val i j = s.val i j := rfl
@[simp] theorem State.returnItem_pval (src status count : Nat) (q i j : Nat) : (s.returnItem src status count).pval q i j = s.pval q i j := rfl
@[simp] theorem State.returnItem_lval (src status count : Nat) (q k i j : Nat) : (s.returnItem src status count).lval q k i j = s.lval q k i j := rfl
@[simp] theorem State.returnItem_flag (src status count : Nat) (i j : Nat) : (s.returnItem src status count).flag i j = s.flag i j := rfl
@[simp] theorem State.returnItem_beat (src status count : Nat) : (s.returnItem src status count).beat = s.beat := rfl
@[simp] theorem State.returnItem_blocks (src status count : Nat) : (s.returnItem src status count).blocks = s.blocks := rfl
@[simp] theorem State.returnItem_block (src status count : Nat) (q k : Nat) : (s.returnItem src status count).block q k = s.block q k := rfl
@[simp] theorem State.returnItem_held (src status count : Nat) (q k : Nat) : (s.returnItem src status count).held q k = s.held q k := rfl
@[simp] theorem State.returnItem_port (src status count : Nat) (q : Nat) : (s.returnItem src status count).port q = s.port q := rfl
@[simp] theorem State.returnItem_hasPort (src status count : Nat) (q : Nat) : (s.returnItem src status count).hasPort q = s.hasPort q := rfl
@[simp] theorem State.returnItem_echo (src status count : Nat) (q : Nat) (c : Band) : (s.returnItem src status count).echo q c = s.echo q c := rfl
@[simp] theorem State.returnItem_lane (src status count : Nat) (q k : Nat) : (s.returnItem src status count).lane q k = s.lane q k := rfl
@[simp] theorem State.returnItem_page (src status count : Nat) (q : Nat) : (s.returnItem src status count).page q = s.page q := rfl
@[simp] theorem State.returnItem_spool (src status count : Nat) (q : Nat) : (s.returnItem src status count).spool q = s.spool q := rfl
@[simp] theorem State.returnItem_packet (src status count : Nat) (q : Nat) : (s.returnItem src status count).packet q = s.packet q := rfl
@[simp] theorem State.returnItem_route (src status count : Nat) (q : Nat) : (s.returnItem src status count).route q = s.route q := rfl
@[simp] theorem State.returnItem_link (src status count : Nat) (q : Nat) : (s.returnItem src status count).link q = s.link q := rfl
@[simp] theorem State.returnItem_node (src status count : Nat) (q : Nat) : (s.returnItem src status count).node q = s.node q := rfl
@[simp] theorem State.returnItem_cell (src status count : Nat) (q : Nat) : (s.returnItem src status count).cell q = s.cell q := rfl
@[simp] theorem State.returnItem_slot (src status count : Nat) (q : Nat) : (s.returnItem src status count).slot q = s.slot q := rfl
@[simp] theorem State.returnItem_domain (src status count : Nat) (q : Nat) : (s.returnItem src status count).domain q = s.domain q := rfl
@[simp] theorem State.returnItem_channel (src status count : Nat) (q : Nat) : (s.returnItem src status count).channel q = s.channel q := rfl
@[simp] theorem State.returnItem_unit (src status count : Nat) (q : Nat) : (s.returnItem src status count).unit q = s.unit q := rfl

/-! ## setBlock -/

@[simp] theorem State.setBlock_variant (r b : Nat) (x : Block) : (s.setBlock r b x).variant = s.variant := rfl
@[simp] theorem State.setBlock_tsc (r b : Nat) (x : Block) : (s.setBlock r b x).tsc = s.tsc := rfl
@[simp] theorem State.setBlock_pending (r b : Nat) (x : Block) : (s.setBlock r b x).pending = s.pending := rfl
@[simp] theorem State.setBlock_free (r b : Nat) (x : Block) : (s.setBlock r b x).free = s.free := rfl
@[simp] theorem State.setBlock_out (r b : Nat) (x : Block) : (s.setBlock r b x).out = s.out := rfl
@[simp] theorem State.setBlock_dict (r b : Nat) (x : Block) : (s.setBlock r b x).dict = s.dict := rfl
@[simp] theorem State.setBlock_written (r b : Nat) (x : Block) : (s.setBlock r b x).written = s.written := rfl
@[simp] theorem State.setBlock_mgr (r b : Nat) (x : Block) : (s.setBlock r b x).mgr = s.mgr := rfl
@[simp] theorem State.setBlock_time (r b : Nat) (x : Block) : (s.setBlock r b x).time = s.time := rfl
@[simp] theorem State.setBlock_tether (r b : Nat) (x : Block) : (s.setBlock r b x).tether = s.tether := rfl
@[simp] theorem State.setBlock_log (r b : Nat) (x : Block) : (s.setBlock r b x).log = s.log := rfl
@[simp] theorem State.setBlock_ports (r b : Nat) (x : Block) : (s.setBlock r b x).ports = s.ports := rfl
@[simp] theorem State.setBlock_echoes (r b : Nat) (x : Block) : (s.setBlock r b x).echoes = s.echoes := rfl
@[simp] theorem State.setBlock_lanes (r b : Nat) (x : Block) : (s.setBlock r b x).lanes = s.lanes := rfl
@[simp] theorem State.setBlock_spools (r b : Nat) (x : Block) : (s.setBlock r b x).spools = s.spools := rfl
@[simp] theorem State.setBlock_pages (r b : Nat) (x : Block) : (s.setBlock r b x).pages = s.pages := rfl
@[simp] theorem State.setBlock_routes (r b : Nat) (x : Block) : (s.setBlock r b x).routes = s.routes := rfl
@[simp] theorem State.setBlock_cells (r b : Nat) (x : Block) : (s.setBlock r b x).cells = s.cells := rfl
@[simp] theorem State.setBlock_trip (r b : Nat) (x : Block) : (s.setBlock r b x).trip = s.trip := rfl
@[simp] theorem State.setBlock_cipher (r b : Nat) (x : Block) : (s.setBlock r b x).cipher = s.cipher := rfl
@[simp] theorem State.setBlock_checkParts (r b : Nat) (x : Block) : (s.setBlock r b x).checkParts = s.checkParts := rfl
@[simp] theorem State.setBlock_ring (r b : Nat) (x : Block) : (s.setBlock r b x).ring = s.ring := rfl
@[simp] theorem State.setBlock_sensing (r b : Nat) (x : Block) : (s.setBlock r b x).sensing = s.sensing := rfl
@[simp] theorem State.setBlock_rst (r b : Nat) (x : Block) : (s.setBlock r b x).rst = s.rst := rfl
@[simp] theorem State.setBlock_sup (r b : Nat) (x : Block) : (s.setBlock r b x).sup = s.sup := rfl
@[simp] theorem State.setBlock_hier_queue (r b : Nat) (x : Block) : (s.setBlock r b x).hier.queue = s.hier.queue := rfl
@[simp] theorem State.setBlock_hier_busy (r b : Nat) (x : Block) : (s.setBlock r b x).hier.busy = s.hier.busy := rfl
@[simp] theorem State.setBlock_hier_fatalAlarm (r b : Nat) (x : Block) : (s.setBlock r b x).hier.fatalAlarm = s.hier.fatalAlarm := rfl
@[simp] theorem State.setBlock_hier_safeOutputs (r b : Nat) (x : Block) : (s.setBlock r b x).hier.safeOutputs = s.hier.safeOutputs := rfl
@[simp] theorem State.setBlock_hier_repairRows (r b : Nat) (x : Block) : (s.setBlock r b x).hier.repairRows = s.hier.repairRows := rfl
@[simp] theorem State.setBlock_hier_rowErrors (r b : Nat) (x : Block) : (s.setBlock r b x).hier.rowErrors = s.hier.rowErrors := rfl
@[simp] theorem State.setBlock_hier_shown (r b : Nat) (x : Block) : (s.setBlock r b x).hier.shown = s.hier.shown := rfl
@[simp] theorem State.setBlock_hier_fabricWait (r b : Nat) (x : Block) : (s.setBlock r b x).hier.fabricWait = s.hier.fabricWait := rfl
@[simp] theorem State.setBlock_hier_fabricGrants (r b : Nat) (x : Block) : (s.setBlock r b x).hier.fabricGrants = s.hier.fabricGrants := rfl
@[simp] theorem State.setBlock_hier_regionTurns (r b : Nat) (x : Block) : (s.setBlock r b x).hier.regionTurns = s.hier.regionTurns := rfl
@[simp] theorem State.setBlock_hier_targetTurns (r b : Nat) (x : Block) : (s.setBlock r b x).hier.targetTurns = s.hier.targetTurns := rfl
@[simp] theorem State.setBlock_hier_grants (r b : Nat) (x : Block) : (s.setBlock r b x).hier.grants = s.hier.grants := rfl
@[simp] theorem State.setBlock_hier_waiting (r b : Nat) (x : Block) : (s.setBlock r b x).hier.waiting = s.hier.waiting := rfl
@[simp] theorem State.setBlock_raw (r b : Nat) (x : Block) (k : Nat) : (s.setBlock r b x).raw k = s.raw k := rfl
@[simp] theorem State.setBlock_val (r b : Nat) (x : Block) (i j : Nat) : (s.setBlock r b x).val i j = s.val i j := rfl
@[simp] theorem State.setBlock_pval (r b : Nat) (x : Block) (q i j : Nat) : (s.setBlock r b x).pval q i j = s.pval q i j := rfl
@[simp] theorem State.setBlock_lval (r b : Nat) (x : Block) (q k i j : Nat) : (s.setBlock r b x).lval q k i j = s.lval q k i j := rfl
@[simp] theorem State.setBlock_flag (r b : Nat) (x : Block) (i j : Nat) : (s.setBlock r b x).flag i j = s.flag i j := rfl
@[simp] theorem State.setBlock_beat (r b : Nat) (x : Block) : (s.setBlock r b x).beat = s.beat := rfl
@[simp] theorem State.setBlock_blocks (r b : Nat) (x : Block) : (s.setBlock r b x).blocks = s.blocks := rfl
@[simp] theorem State.setBlock_port (r b : Nat) (x : Block) (q : Nat) : (s.setBlock r b x).port q = s.port q := rfl
@[simp] theorem State.setBlock_hasPort (r b : Nat) (x : Block) (q : Nat) : (s.setBlock r b x).hasPort q = s.hasPort q := rfl
@[simp] theorem State.setBlock_echo (r b : Nat) (x : Block) (q : Nat) (c : Band) : (s.setBlock r b x).echo q c = s.echo q c := rfl
@[simp] theorem State.setBlock_lane (r b : Nat) (x : Block) (q k : Nat) : (s.setBlock r b x).lane q k = s.lane q k := rfl
@[simp] theorem State.setBlock_page (r b : Nat) (x : Block) (q : Nat) : (s.setBlock r b x).page q = s.page q := rfl
@[simp] theorem State.setBlock_spool (r b : Nat) (x : Block) (q : Nat) : (s.setBlock r b x).spool q = s.spool q := rfl
@[simp] theorem State.setBlock_packet (r b : Nat) (x : Block) (q : Nat) : (s.setBlock r b x).packet q = s.packet q := rfl
@[simp] theorem State.setBlock_route (r b : Nat) (x : Block) (q : Nat) : (s.setBlock r b x).route q = s.route q := rfl
@[simp] theorem State.setBlock_link (r b : Nat) (x : Block) (q : Nat) : (s.setBlock r b x).link q = s.link q := rfl
@[simp] theorem State.setBlock_node (r b : Nat) (x : Block) (q : Nat) : (s.setBlock r b x).node q = s.node q := rfl
@[simp] theorem State.setBlock_cell (r b : Nat) (x : Block) (q : Nat) : (s.setBlock r b x).cell q = s.cell q := rfl
@[simp] theorem State.setBlock_slot (r b : Nat) (x : Block) (q : Nat) : (s.setBlock r b x).slot q = s.slot q := rfl
@[simp] theorem State.setBlock_domain (r b : Nat) (x : Block) (q : Nat) : (s.setBlock r b x).domain q = s.domain q := rfl
@[simp] theorem State.setBlock_channel (r b : Nat) (x : Block) (q : Nat) : (s.setBlock r b x).channel q = s.channel q := rfl
@[simp] theorem State.setBlock_unit (r b : Nat) (x : Block) (q : Nat) : (s.setBlock r b x).unit q = s.unit q := rfl

/-! ## setPort -/

@[simp] theorem State.setPort_variant (p : Nat) (x : Port) : (s.setPort p x).variant = s.variant := rfl
@[simp] theorem State.setPort_tsc (p : Nat) (x : Port) : (s.setPort p x).tsc = s.tsc := rfl
@[simp] theorem State.setPort_pending (p : Nat) (x : Port) : (s.setPort p x).pending = s.pending := rfl
@[simp] theorem State.setPort_free (p : Nat) (x : Port) : (s.setPort p x).free = s.free := rfl
@[simp] theorem State.setPort_out (p : Nat) (x : Port) : (s.setPort p x).out = s.out := rfl
@[simp] theorem State.setPort_dict (p : Nat) (x : Port) : (s.setPort p x).dict = s.dict := rfl
@[simp] theorem State.setPort_written (p : Nat) (x : Port) : (s.setPort p x).written = s.written := rfl
@[simp] theorem State.setPort_hier (p : Nat) (x : Port) : (s.setPort p x).hier = s.hier := rfl
@[simp] theorem State.setPort_mgr (p : Nat) (x : Port) : (s.setPort p x).mgr = s.mgr := rfl
@[simp] theorem State.setPort_time (p : Nat) (x : Port) : (s.setPort p x).time = s.time := rfl
@[simp] theorem State.setPort_tether (p : Nat) (x : Port) : (s.setPort p x).tether = s.tether := rfl
@[simp] theorem State.setPort_log (p : Nat) (x : Port) : (s.setPort p x).log = s.log := rfl
@[simp] theorem State.setPort_echoes (p : Nat) (x : Port) : (s.setPort p x).echoes = s.echoes := rfl
@[simp] theorem State.setPort_lanes (p : Nat) (x : Port) : (s.setPort p x).lanes = s.lanes := rfl
@[simp] theorem State.setPort_spools (p : Nat) (x : Port) : (s.setPort p x).spools = s.spools := rfl
@[simp] theorem State.setPort_pages (p : Nat) (x : Port) : (s.setPort p x).pages = s.pages := rfl
@[simp] theorem State.setPort_routes (p : Nat) (x : Port) : (s.setPort p x).routes = s.routes := rfl
@[simp] theorem State.setPort_cells (p : Nat) (x : Port) : (s.setPort p x).cells = s.cells := rfl
@[simp] theorem State.setPort_trip (p : Nat) (x : Port) : (s.setPort p x).trip = s.trip := rfl
@[simp] theorem State.setPort_cipher (p : Nat) (x : Port) : (s.setPort p x).cipher = s.cipher := rfl
@[simp] theorem State.setPort_checkParts (p : Nat) (x : Port) : (s.setPort p x).checkParts = s.checkParts := rfl
@[simp] theorem State.setPort_ring (p : Nat) (x : Port) : (s.setPort p x).ring = s.ring := rfl
@[simp] theorem State.setPort_sensing (p : Nat) (x : Port) : (s.setPort p x).sensing = s.sensing := rfl
@[simp] theorem State.setPort_rst (p : Nat) (x : Port) : (s.setPort p x).rst = s.rst := rfl
@[simp] theorem State.setPort_sup (p : Nat) (x : Port) : (s.setPort p x).sup = s.sup := rfl
@[simp] theorem State.setPort_raw (p : Nat) (x : Port) (k : Nat) : (s.setPort p x).raw k = s.raw k := rfl
@[simp] theorem State.setPort_val (p : Nat) (x : Port) (i j : Nat) : (s.setPort p x).val i j = s.val i j := rfl
@[simp] theorem State.setPort_pval (p : Nat) (x : Port) (q i j : Nat) : (s.setPort p x).pval q i j = s.pval q i j := rfl
@[simp] theorem State.setPort_lval (p : Nat) (x : Port) (q k i j : Nat) : (s.setPort p x).lval q k i j = s.lval q k i j := rfl
@[simp] theorem State.setPort_flag (p : Nat) (x : Port) (i j : Nat) : (s.setPort p x).flag i j = s.flag i j := rfl
@[simp] theorem State.setPort_beat (p : Nat) (x : Port) : (s.setPort p x).beat = s.beat := rfl
@[simp] theorem State.setPort_blocks (p : Nat) (x : Port) : (s.setPort p x).blocks = s.blocks := rfl
@[simp] theorem State.setPort_block (p : Nat) (x : Port) (q k : Nat) : (s.setPort p x).block q k = s.block q k := rfl
@[simp] theorem State.setPort_held (p : Nat) (x : Port) (q k : Nat) : (s.setPort p x).held q k = s.held q k := rfl
@[simp] theorem State.setPort_hasPort (p : Nat) (x : Port) (q : Nat) : (s.setPort p x).hasPort q = s.hasPort q := rfl
@[simp] theorem State.setPort_echo (p : Nat) (x : Port) (q : Nat) (c : Band) : (s.setPort p x).echo q c = s.echo q c := rfl
@[simp] theorem State.setPort_lane (p : Nat) (x : Port) (q k : Nat) : (s.setPort p x).lane q k = s.lane q k := rfl
@[simp] theorem State.setPort_page (p : Nat) (x : Port) (q : Nat) : (s.setPort p x).page q = s.page q := rfl
@[simp] theorem State.setPort_spool (p : Nat) (x : Port) (q : Nat) : (s.setPort p x).spool q = s.spool q := rfl
@[simp] theorem State.setPort_packet (p : Nat) (x : Port) (q : Nat) : (s.setPort p x).packet q = s.packet q := rfl
@[simp] theorem State.setPort_route (p : Nat) (x : Port) (q : Nat) : (s.setPort p x).route q = s.route q := rfl
@[simp] theorem State.setPort_link (p : Nat) (x : Port) (q : Nat) : (s.setPort p x).link q = s.link q := rfl
@[simp] theorem State.setPort_node (p : Nat) (x : Port) (q : Nat) : (s.setPort p x).node q = s.node q := rfl
@[simp] theorem State.setPort_cell (p : Nat) (x : Port) (q : Nat) : (s.setPort p x).cell q = s.cell q := rfl
@[simp] theorem State.setPort_slot (p : Nat) (x : Port) (q : Nat) : (s.setPort p x).slot q = s.slot q := rfl
@[simp] theorem State.setPort_domain (p : Nat) (x : Port) (q : Nat) : (s.setPort p x).domain q = s.domain q := rfl
@[simp] theorem State.setPort_channel (p : Nat) (x : Port) (q : Nat) : (s.setPort p x).channel q = s.channel q := rfl
@[simp] theorem State.setPort_unit (p : Nat) (x : Port) (q : Nat) : (s.setPort p x).unit q = s.unit q := rfl

/-! ## setEcho -/

@[simp] theorem State.setEcho_variant (p : Nat) (b : Band) (x : Echo) : (s.setEcho p b x).variant = s.variant := rfl
@[simp] theorem State.setEcho_tsc (p : Nat) (b : Band) (x : Echo) : (s.setEcho p b x).tsc = s.tsc := rfl
@[simp] theorem State.setEcho_pending (p : Nat) (b : Band) (x : Echo) : (s.setEcho p b x).pending = s.pending := rfl
@[simp] theorem State.setEcho_free (p : Nat) (b : Band) (x : Echo) : (s.setEcho p b x).free = s.free := rfl
@[simp] theorem State.setEcho_out (p : Nat) (b : Band) (x : Echo) : (s.setEcho p b x).out = s.out := rfl
@[simp] theorem State.setEcho_dict (p : Nat) (b : Band) (x : Echo) : (s.setEcho p b x).dict = s.dict := rfl
@[simp] theorem State.setEcho_written (p : Nat) (b : Band) (x : Echo) : (s.setEcho p b x).written = s.written := rfl
@[simp] theorem State.setEcho_hier (p : Nat) (b : Band) (x : Echo) : (s.setEcho p b x).hier = s.hier := rfl
@[simp] theorem State.setEcho_mgr (p : Nat) (b : Band) (x : Echo) : (s.setEcho p b x).mgr = s.mgr := rfl
@[simp] theorem State.setEcho_time (p : Nat) (b : Band) (x : Echo) : (s.setEcho p b x).time = s.time := rfl
@[simp] theorem State.setEcho_tether (p : Nat) (b : Band) (x : Echo) : (s.setEcho p b x).tether = s.tether := rfl
@[simp] theorem State.setEcho_log (p : Nat) (b : Band) (x : Echo) : (s.setEcho p b x).log = s.log := rfl
@[simp] theorem State.setEcho_ports (p : Nat) (b : Band) (x : Echo) : (s.setEcho p b x).ports = s.ports := rfl
@[simp] theorem State.setEcho_lanes (p : Nat) (b : Band) (x : Echo) : (s.setEcho p b x).lanes = s.lanes := rfl
@[simp] theorem State.setEcho_spools (p : Nat) (b : Band) (x : Echo) : (s.setEcho p b x).spools = s.spools := rfl
@[simp] theorem State.setEcho_pages (p : Nat) (b : Band) (x : Echo) : (s.setEcho p b x).pages = s.pages := rfl
@[simp] theorem State.setEcho_routes (p : Nat) (b : Band) (x : Echo) : (s.setEcho p b x).routes = s.routes := rfl
@[simp] theorem State.setEcho_cells (p : Nat) (b : Band) (x : Echo) : (s.setEcho p b x).cells = s.cells := rfl
@[simp] theorem State.setEcho_trip (p : Nat) (b : Band) (x : Echo) : (s.setEcho p b x).trip = s.trip := rfl
@[simp] theorem State.setEcho_cipher (p : Nat) (b : Band) (x : Echo) : (s.setEcho p b x).cipher = s.cipher := rfl
@[simp] theorem State.setEcho_checkParts (p : Nat) (b : Band) (x : Echo) : (s.setEcho p b x).checkParts = s.checkParts := rfl
@[simp] theorem State.setEcho_ring (p : Nat) (b : Band) (x : Echo) : (s.setEcho p b x).ring = s.ring := rfl
@[simp] theorem State.setEcho_sensing (p : Nat) (b : Band) (x : Echo) : (s.setEcho p b x).sensing = s.sensing := rfl
@[simp] theorem State.setEcho_rst (p : Nat) (b : Band) (x : Echo) : (s.setEcho p b x).rst = s.rst := rfl
@[simp] theorem State.setEcho_sup (p : Nat) (b : Band) (x : Echo) : (s.setEcho p b x).sup = s.sup := rfl
@[simp] theorem State.setEcho_raw (p : Nat) (b : Band) (x : Echo) (k : Nat) : (s.setEcho p b x).raw k = s.raw k := rfl
@[simp] theorem State.setEcho_val (p : Nat) (b : Band) (x : Echo) (i j : Nat) : (s.setEcho p b x).val i j = s.val i j := rfl
@[simp] theorem State.setEcho_pval (p : Nat) (b : Band) (x : Echo) (q i j : Nat) : (s.setEcho p b x).pval q i j = s.pval q i j := rfl
@[simp] theorem State.setEcho_lval (p : Nat) (b : Band) (x : Echo) (q k i j : Nat) : (s.setEcho p b x).lval q k i j = s.lval q k i j := rfl
@[simp] theorem State.setEcho_flag (p : Nat) (b : Band) (x : Echo) (i j : Nat) : (s.setEcho p b x).flag i j = s.flag i j := rfl
@[simp] theorem State.setEcho_beat (p : Nat) (b : Band) (x : Echo) : (s.setEcho p b x).beat = s.beat := rfl
@[simp] theorem State.setEcho_blocks (p : Nat) (b : Band) (x : Echo) : (s.setEcho p b x).blocks = s.blocks := rfl
@[simp] theorem State.setEcho_block (p : Nat) (b : Band) (x : Echo) (q k : Nat) : (s.setEcho p b x).block q k = s.block q k := rfl
@[simp] theorem State.setEcho_held (p : Nat) (b : Band) (x : Echo) (q k : Nat) : (s.setEcho p b x).held q k = s.held q k := rfl
@[simp] theorem State.setEcho_port (p : Nat) (b : Band) (x : Echo) (q : Nat) : (s.setEcho p b x).port q = s.port q := rfl
@[simp] theorem State.setEcho_hasPort (p : Nat) (b : Band) (x : Echo) (q : Nat) : (s.setEcho p b x).hasPort q = s.hasPort q := rfl
@[simp] theorem State.setEcho_lane (p : Nat) (b : Band) (x : Echo) (q k : Nat) : (s.setEcho p b x).lane q k = s.lane q k := rfl
@[simp] theorem State.setEcho_page (p : Nat) (b : Band) (x : Echo) (q : Nat) : (s.setEcho p b x).page q = s.page q := rfl
@[simp] theorem State.setEcho_spool (p : Nat) (b : Band) (x : Echo) (q : Nat) : (s.setEcho p b x).spool q = s.spool q := rfl
@[simp] theorem State.setEcho_packet (p : Nat) (b : Band) (x : Echo) (q : Nat) : (s.setEcho p b x).packet q = s.packet q := rfl
@[simp] theorem State.setEcho_route (p : Nat) (b : Band) (x : Echo) (q : Nat) : (s.setEcho p b x).route q = s.route q := rfl
@[simp] theorem State.setEcho_link (p : Nat) (b : Band) (x : Echo) (q : Nat) : (s.setEcho p b x).link q = s.link q := rfl
@[simp] theorem State.setEcho_node (p : Nat) (b : Band) (x : Echo) (q : Nat) : (s.setEcho p b x).node q = s.node q := rfl
@[simp] theorem State.setEcho_cell (p : Nat) (b : Band) (x : Echo) (q : Nat) : (s.setEcho p b x).cell q = s.cell q := rfl
@[simp] theorem State.setEcho_slot (p : Nat) (b : Band) (x : Echo) (q : Nat) : (s.setEcho p b x).slot q = s.slot q := rfl
@[simp] theorem State.setEcho_domain (p : Nat) (b : Band) (x : Echo) (q : Nat) : (s.setEcho p b x).domain q = s.domain q := rfl
@[simp] theorem State.setEcho_channel (p : Nat) (b : Band) (x : Echo) (q : Nat) : (s.setEcho p b x).channel q = s.channel q := rfl
@[simp] theorem State.setEcho_unit (p : Nat) (b : Band) (x : Echo) (q : Nat) : (s.setEcho p b x).unit q = s.unit q := rfl

/-! ## setLane -/

@[simp] theorem State.setLane_variant (p l : Nat) (x : Lane) : (s.setLane p l x).variant = s.variant := rfl
@[simp] theorem State.setLane_tsc (p l : Nat) (x : Lane) : (s.setLane p l x).tsc = s.tsc := rfl
@[simp] theorem State.setLane_pending (p l : Nat) (x : Lane) : (s.setLane p l x).pending = s.pending := rfl
@[simp] theorem State.setLane_free (p l : Nat) (x : Lane) : (s.setLane p l x).free = s.free := rfl
@[simp] theorem State.setLane_out (p l : Nat) (x : Lane) : (s.setLane p l x).out = s.out := rfl
@[simp] theorem State.setLane_dict (p l : Nat) (x : Lane) : (s.setLane p l x).dict = s.dict := rfl
@[simp] theorem State.setLane_written (p l : Nat) (x : Lane) : (s.setLane p l x).written = s.written := rfl
@[simp] theorem State.setLane_hier (p l : Nat) (x : Lane) : (s.setLane p l x).hier = s.hier := rfl
@[simp] theorem State.setLane_mgr (p l : Nat) (x : Lane) : (s.setLane p l x).mgr = s.mgr := rfl
@[simp] theorem State.setLane_time (p l : Nat) (x : Lane) : (s.setLane p l x).time = s.time := rfl
@[simp] theorem State.setLane_tether (p l : Nat) (x : Lane) : (s.setLane p l x).tether = s.tether := rfl
@[simp] theorem State.setLane_log (p l : Nat) (x : Lane) : (s.setLane p l x).log = s.log := rfl
@[simp] theorem State.setLane_ports (p l : Nat) (x : Lane) : (s.setLane p l x).ports = s.ports := rfl
@[simp] theorem State.setLane_echoes (p l : Nat) (x : Lane) : (s.setLane p l x).echoes = s.echoes := rfl
@[simp] theorem State.setLane_spools (p l : Nat) (x : Lane) : (s.setLane p l x).spools = s.spools := rfl
@[simp] theorem State.setLane_pages (p l : Nat) (x : Lane) : (s.setLane p l x).pages = s.pages := rfl
@[simp] theorem State.setLane_routes (p l : Nat) (x : Lane) : (s.setLane p l x).routes = s.routes := rfl
@[simp] theorem State.setLane_cells (p l : Nat) (x : Lane) : (s.setLane p l x).cells = s.cells := rfl
@[simp] theorem State.setLane_trip (p l : Nat) (x : Lane) : (s.setLane p l x).trip = s.trip := rfl
@[simp] theorem State.setLane_cipher (p l : Nat) (x : Lane) : (s.setLane p l x).cipher = s.cipher := rfl
@[simp] theorem State.setLane_checkParts (p l : Nat) (x : Lane) : (s.setLane p l x).checkParts = s.checkParts := rfl
@[simp] theorem State.setLane_ring (p l : Nat) (x : Lane) : (s.setLane p l x).ring = s.ring := rfl
@[simp] theorem State.setLane_sensing (p l : Nat) (x : Lane) : (s.setLane p l x).sensing = s.sensing := rfl
@[simp] theorem State.setLane_rst (p l : Nat) (x : Lane) : (s.setLane p l x).rst = s.rst := rfl
@[simp] theorem State.setLane_sup (p l : Nat) (x : Lane) : (s.setLane p l x).sup = s.sup := rfl
@[simp] theorem State.setLane_raw (p l : Nat) (x : Lane) (k : Nat) : (s.setLane p l x).raw k = s.raw k := rfl
@[simp] theorem State.setLane_val (p l : Nat) (x : Lane) (i j : Nat) : (s.setLane p l x).val i j = s.val i j := rfl
@[simp] theorem State.setLane_pval (p l : Nat) (x : Lane) (q i j : Nat) : (s.setLane p l x).pval q i j = s.pval q i j := rfl
@[simp] theorem State.setLane_lval (p l : Nat) (x : Lane) (q k i j : Nat) : (s.setLane p l x).lval q k i j = s.lval q k i j := rfl
@[simp] theorem State.setLane_flag (p l : Nat) (x : Lane) (i j : Nat) : (s.setLane p l x).flag i j = s.flag i j := rfl
@[simp] theorem State.setLane_beat (p l : Nat) (x : Lane) : (s.setLane p l x).beat = s.beat := rfl
@[simp] theorem State.setLane_blocks (p l : Nat) (x : Lane) : (s.setLane p l x).blocks = s.blocks := rfl
@[simp] theorem State.setLane_block (p l : Nat) (x : Lane) (q k : Nat) : (s.setLane p l x).block q k = s.block q k := rfl
@[simp] theorem State.setLane_held (p l : Nat) (x : Lane) (q k : Nat) : (s.setLane p l x).held q k = s.held q k := rfl
@[simp] theorem State.setLane_port (p l : Nat) (x : Lane) (q : Nat) : (s.setLane p l x).port q = s.port q := rfl
@[simp] theorem State.setLane_hasPort (p l : Nat) (x : Lane) (q : Nat) : (s.setLane p l x).hasPort q = s.hasPort q := rfl
@[simp] theorem State.setLane_echo (p l : Nat) (x : Lane) (q : Nat) (c : Band) : (s.setLane p l x).echo q c = s.echo q c := rfl
@[simp] theorem State.setLane_page (p l : Nat) (x : Lane) (q : Nat) : (s.setLane p l x).page q = s.page q := rfl
@[simp] theorem State.setLane_spool (p l : Nat) (x : Lane) (q : Nat) : (s.setLane p l x).spool q = s.spool q := rfl
@[simp] theorem State.setLane_packet (p l : Nat) (x : Lane) (q : Nat) : (s.setLane p l x).packet q = s.packet q := rfl
@[simp] theorem State.setLane_route (p l : Nat) (x : Lane) (q : Nat) : (s.setLane p l x).route q = s.route q := rfl
@[simp] theorem State.setLane_link (p l : Nat) (x : Lane) (q : Nat) : (s.setLane p l x).link q = s.link q := rfl
@[simp] theorem State.setLane_node (p l : Nat) (x : Lane) (q : Nat) : (s.setLane p l x).node q = s.node q := rfl
@[simp] theorem State.setLane_cell (p l : Nat) (x : Lane) (q : Nat) : (s.setLane p l x).cell q = s.cell q := rfl
@[simp] theorem State.setLane_slot (p l : Nat) (x : Lane) (q : Nat) : (s.setLane p l x).slot q = s.slot q := rfl
@[simp] theorem State.setLane_domain (p l : Nat) (x : Lane) (q : Nat) : (s.setLane p l x).domain q = s.domain q := rfl
@[simp] theorem State.setLane_channel (p l : Nat) (x : Lane) (q : Nat) : (s.setLane p l x).channel q = s.channel q := rfl
@[simp] theorem State.setLane_unit (p l : Nat) (x : Lane) (q : Nat) : (s.setLane p l x).unit q = s.unit q := rfl

/-! ## setTx -/

@[simp] theorem State.setTx_variant (p l : Nat) (x : LaneTx) : (s.setTx p l x).variant = s.variant := rfl
@[simp] theorem State.setTx_tsc (p l : Nat) (x : LaneTx) : (s.setTx p l x).tsc = s.tsc := rfl
@[simp] theorem State.setTx_pending (p l : Nat) (x : LaneTx) : (s.setTx p l x).pending = s.pending := rfl
@[simp] theorem State.setTx_free (p l : Nat) (x : LaneTx) : (s.setTx p l x).free = s.free := rfl
@[simp] theorem State.setTx_out (p l : Nat) (x : LaneTx) : (s.setTx p l x).out = s.out := rfl
@[simp] theorem State.setTx_dict (p l : Nat) (x : LaneTx) : (s.setTx p l x).dict = s.dict := rfl
@[simp] theorem State.setTx_written (p l : Nat) (x : LaneTx) : (s.setTx p l x).written = s.written := rfl
@[simp] theorem State.setTx_hier (p l : Nat) (x : LaneTx) : (s.setTx p l x).hier = s.hier := rfl
@[simp] theorem State.setTx_mgr (p l : Nat) (x : LaneTx) : (s.setTx p l x).mgr = s.mgr := rfl
@[simp] theorem State.setTx_time (p l : Nat) (x : LaneTx) : (s.setTx p l x).time = s.time := rfl
@[simp] theorem State.setTx_tether (p l : Nat) (x : LaneTx) : (s.setTx p l x).tether = s.tether := rfl
@[simp] theorem State.setTx_log (p l : Nat) (x : LaneTx) : (s.setTx p l x).log = s.log := rfl
@[simp] theorem State.setTx_ports (p l : Nat) (x : LaneTx) : (s.setTx p l x).ports = s.ports := rfl
@[simp] theorem State.setTx_echoes (p l : Nat) (x : LaneTx) : (s.setTx p l x).echoes = s.echoes := rfl
@[simp] theorem State.setTx_spools (p l : Nat) (x : LaneTx) : (s.setTx p l x).spools = s.spools := rfl
@[simp] theorem State.setTx_pages (p l : Nat) (x : LaneTx) : (s.setTx p l x).pages = s.pages := rfl
@[simp] theorem State.setTx_routes (p l : Nat) (x : LaneTx) : (s.setTx p l x).routes = s.routes := rfl
@[simp] theorem State.setTx_cells (p l : Nat) (x : LaneTx) : (s.setTx p l x).cells = s.cells := rfl
@[simp] theorem State.setTx_trip (p l : Nat) (x : LaneTx) : (s.setTx p l x).trip = s.trip := rfl
@[simp] theorem State.setTx_cipher (p l : Nat) (x : LaneTx) : (s.setTx p l x).cipher = s.cipher := rfl
@[simp] theorem State.setTx_checkParts (p l : Nat) (x : LaneTx) : (s.setTx p l x).checkParts = s.checkParts := rfl
@[simp] theorem State.setTx_ring (p l : Nat) (x : LaneTx) : (s.setTx p l x).ring = s.ring := rfl
@[simp] theorem State.setTx_sensing (p l : Nat) (x : LaneTx) : (s.setTx p l x).sensing = s.sensing := rfl
@[simp] theorem State.setTx_rst (p l : Nat) (x : LaneTx) : (s.setTx p l x).rst = s.rst := rfl
@[simp] theorem State.setTx_sup (p l : Nat) (x : LaneTx) : (s.setTx p l x).sup = s.sup := rfl
@[simp] theorem State.setTx_raw (p l : Nat) (x : LaneTx) (k : Nat) : (s.setTx p l x).raw k = s.raw k := rfl
@[simp] theorem State.setTx_val (p l : Nat) (x : LaneTx) (i j : Nat) : (s.setTx p l x).val i j = s.val i j := rfl
@[simp] theorem State.setTx_pval (p l : Nat) (x : LaneTx) (q i j : Nat) : (s.setTx p l x).pval q i j = s.pval q i j := rfl
@[simp] theorem State.setTx_lval (p l : Nat) (x : LaneTx) (q k i j : Nat) : (s.setTx p l x).lval q k i j = s.lval q k i j := rfl
@[simp] theorem State.setTx_flag (p l : Nat) (x : LaneTx) (i j : Nat) : (s.setTx p l x).flag i j = s.flag i j := rfl
@[simp] theorem State.setTx_beat (p l : Nat) (x : LaneTx) : (s.setTx p l x).beat = s.beat := rfl
@[simp] theorem State.setTx_blocks (p l : Nat) (x : LaneTx) : (s.setTx p l x).blocks = s.blocks := rfl
@[simp] theorem State.setTx_block (p l : Nat) (x : LaneTx) (q k : Nat) : (s.setTx p l x).block q k = s.block q k := rfl
@[simp] theorem State.setTx_held (p l : Nat) (x : LaneTx) (q k : Nat) : (s.setTx p l x).held q k = s.held q k := rfl
@[simp] theorem State.setTx_port (p l : Nat) (x : LaneTx) (q : Nat) : (s.setTx p l x).port q = s.port q := rfl
@[simp] theorem State.setTx_hasPort (p l : Nat) (x : LaneTx) (q : Nat) : (s.setTx p l x).hasPort q = s.hasPort q := rfl
@[simp] theorem State.setTx_echo (p l : Nat) (x : LaneTx) (q : Nat) (c : Band) : (s.setTx p l x).echo q c = s.echo q c := rfl
@[simp] theorem State.setTx_page (p l : Nat) (x : LaneTx) (q : Nat) : (s.setTx p l x).page q = s.page q := rfl
@[simp] theorem State.setTx_spool (p l : Nat) (x : LaneTx) (q : Nat) : (s.setTx p l x).spool q = s.spool q := rfl
@[simp] theorem State.setTx_packet (p l : Nat) (x : LaneTx) (q : Nat) : (s.setTx p l x).packet q = s.packet q := rfl
@[simp] theorem State.setTx_route (p l : Nat) (x : LaneTx) (q : Nat) : (s.setTx p l x).route q = s.route q := rfl
@[simp] theorem State.setTx_link (p l : Nat) (x : LaneTx) (q : Nat) : (s.setTx p l x).link q = s.link q := rfl
@[simp] theorem State.setTx_node (p l : Nat) (x : LaneTx) (q : Nat) : (s.setTx p l x).node q = s.node q := rfl
@[simp] theorem State.setTx_cell (p l : Nat) (x : LaneTx) (q : Nat) : (s.setTx p l x).cell q = s.cell q := rfl
@[simp] theorem State.setTx_slot (p l : Nat) (x : LaneTx) (q : Nat) : (s.setTx p l x).slot q = s.slot q := rfl
@[simp] theorem State.setTx_domain (p l : Nat) (x : LaneTx) (q : Nat) : (s.setTx p l x).domain q = s.domain q := rfl
@[simp] theorem State.setTx_channel (p l : Nat) (x : LaneTx) (q : Nat) : (s.setTx p l x).channel q = s.channel q := rfl
@[simp] theorem State.setTx_unit (p l : Nat) (x : LaneTx) (q : Nat) : (s.setTx p l x).unit q = s.unit q := rfl

/-! ## setRx -/

@[simp] theorem State.setRx_variant (p l : Nat) (x : LaneRx) : (s.setRx p l x).variant = s.variant := rfl
@[simp] theorem State.setRx_tsc (p l : Nat) (x : LaneRx) : (s.setRx p l x).tsc = s.tsc := rfl
@[simp] theorem State.setRx_pending (p l : Nat) (x : LaneRx) : (s.setRx p l x).pending = s.pending := rfl
@[simp] theorem State.setRx_free (p l : Nat) (x : LaneRx) : (s.setRx p l x).free = s.free := rfl
@[simp] theorem State.setRx_out (p l : Nat) (x : LaneRx) : (s.setRx p l x).out = s.out := rfl
@[simp] theorem State.setRx_dict (p l : Nat) (x : LaneRx) : (s.setRx p l x).dict = s.dict := rfl
@[simp] theorem State.setRx_written (p l : Nat) (x : LaneRx) : (s.setRx p l x).written = s.written := rfl
@[simp] theorem State.setRx_hier (p l : Nat) (x : LaneRx) : (s.setRx p l x).hier = s.hier := rfl
@[simp] theorem State.setRx_mgr (p l : Nat) (x : LaneRx) : (s.setRx p l x).mgr = s.mgr := rfl
@[simp] theorem State.setRx_time (p l : Nat) (x : LaneRx) : (s.setRx p l x).time = s.time := rfl
@[simp] theorem State.setRx_tether (p l : Nat) (x : LaneRx) : (s.setRx p l x).tether = s.tether := rfl
@[simp] theorem State.setRx_log (p l : Nat) (x : LaneRx) : (s.setRx p l x).log = s.log := rfl
@[simp] theorem State.setRx_ports (p l : Nat) (x : LaneRx) : (s.setRx p l x).ports = s.ports := rfl
@[simp] theorem State.setRx_echoes (p l : Nat) (x : LaneRx) : (s.setRx p l x).echoes = s.echoes := rfl
@[simp] theorem State.setRx_spools (p l : Nat) (x : LaneRx) : (s.setRx p l x).spools = s.spools := rfl
@[simp] theorem State.setRx_pages (p l : Nat) (x : LaneRx) : (s.setRx p l x).pages = s.pages := rfl
@[simp] theorem State.setRx_routes (p l : Nat) (x : LaneRx) : (s.setRx p l x).routes = s.routes := rfl
@[simp] theorem State.setRx_cells (p l : Nat) (x : LaneRx) : (s.setRx p l x).cells = s.cells := rfl
@[simp] theorem State.setRx_trip (p l : Nat) (x : LaneRx) : (s.setRx p l x).trip = s.trip := rfl
@[simp] theorem State.setRx_cipher (p l : Nat) (x : LaneRx) : (s.setRx p l x).cipher = s.cipher := rfl
@[simp] theorem State.setRx_checkParts (p l : Nat) (x : LaneRx) : (s.setRx p l x).checkParts = s.checkParts := rfl
@[simp] theorem State.setRx_ring (p l : Nat) (x : LaneRx) : (s.setRx p l x).ring = s.ring := rfl
@[simp] theorem State.setRx_sensing (p l : Nat) (x : LaneRx) : (s.setRx p l x).sensing = s.sensing := rfl
@[simp] theorem State.setRx_rst (p l : Nat) (x : LaneRx) : (s.setRx p l x).rst = s.rst := rfl
@[simp] theorem State.setRx_sup (p l : Nat) (x : LaneRx) : (s.setRx p l x).sup = s.sup := rfl
@[simp] theorem State.setRx_raw (p l : Nat) (x : LaneRx) (k : Nat) : (s.setRx p l x).raw k = s.raw k := rfl
@[simp] theorem State.setRx_val (p l : Nat) (x : LaneRx) (i j : Nat) : (s.setRx p l x).val i j = s.val i j := rfl
@[simp] theorem State.setRx_pval (p l : Nat) (x : LaneRx) (q i j : Nat) : (s.setRx p l x).pval q i j = s.pval q i j := rfl
@[simp] theorem State.setRx_lval (p l : Nat) (x : LaneRx) (q k i j : Nat) : (s.setRx p l x).lval q k i j = s.lval q k i j := rfl
@[simp] theorem State.setRx_flag (p l : Nat) (x : LaneRx) (i j : Nat) : (s.setRx p l x).flag i j = s.flag i j := rfl
@[simp] theorem State.setRx_beat (p l : Nat) (x : LaneRx) : (s.setRx p l x).beat = s.beat := rfl
@[simp] theorem State.setRx_blocks (p l : Nat) (x : LaneRx) : (s.setRx p l x).blocks = s.blocks := rfl
@[simp] theorem State.setRx_block (p l : Nat) (x : LaneRx) (q k : Nat) : (s.setRx p l x).block q k = s.block q k := rfl
@[simp] theorem State.setRx_held (p l : Nat) (x : LaneRx) (q k : Nat) : (s.setRx p l x).held q k = s.held q k := rfl
@[simp] theorem State.setRx_port (p l : Nat) (x : LaneRx) (q : Nat) : (s.setRx p l x).port q = s.port q := rfl
@[simp] theorem State.setRx_hasPort (p l : Nat) (x : LaneRx) (q : Nat) : (s.setRx p l x).hasPort q = s.hasPort q := rfl
@[simp] theorem State.setRx_echo (p l : Nat) (x : LaneRx) (q : Nat) (c : Band) : (s.setRx p l x).echo q c = s.echo q c := rfl
@[simp] theorem State.setRx_page (p l : Nat) (x : LaneRx) (q : Nat) : (s.setRx p l x).page q = s.page q := rfl
@[simp] theorem State.setRx_spool (p l : Nat) (x : LaneRx) (q : Nat) : (s.setRx p l x).spool q = s.spool q := rfl
@[simp] theorem State.setRx_packet (p l : Nat) (x : LaneRx) (q : Nat) : (s.setRx p l x).packet q = s.packet q := rfl
@[simp] theorem State.setRx_route (p l : Nat) (x : LaneRx) (q : Nat) : (s.setRx p l x).route q = s.route q := rfl
@[simp] theorem State.setRx_link (p l : Nat) (x : LaneRx) (q : Nat) : (s.setRx p l x).link q = s.link q := rfl
@[simp] theorem State.setRx_node (p l : Nat) (x : LaneRx) (q : Nat) : (s.setRx p l x).node q = s.node q := rfl
@[simp] theorem State.setRx_cell (p l : Nat) (x : LaneRx) (q : Nat) : (s.setRx p l x).cell q = s.cell q := rfl
@[simp] theorem State.setRx_slot (p l : Nat) (x : LaneRx) (q : Nat) : (s.setRx p l x).slot q = s.slot q := rfl
@[simp] theorem State.setRx_domain (p l : Nat) (x : LaneRx) (q : Nat) : (s.setRx p l x).domain q = s.domain q := rfl
@[simp] theorem State.setRx_channel (p l : Nat) (x : LaneRx) (q : Nat) : (s.setRx p l x).channel q = s.channel q := rfl
@[simp] theorem State.setRx_unit (p l : Nat) (x : LaneRx) (q : Nat) : (s.setRx p l x).unit q = s.unit q := rfl

/-! ## setPage -/

@[simp] theorem State.setPage_variant (f : Nat) (x : Page) : (s.setPage f x).variant = s.variant := rfl
@[simp] theorem State.setPage_tsc (f : Nat) (x : Page) : (s.setPage f x).tsc = s.tsc := rfl
@[simp] theorem State.setPage_pending (f : Nat) (x : Page) : (s.setPage f x).pending = s.pending := rfl
@[simp] theorem State.setPage_free (f : Nat) (x : Page) : (s.setPage f x).free = s.free := rfl
@[simp] theorem State.setPage_out (f : Nat) (x : Page) : (s.setPage f x).out = s.out := rfl
@[simp] theorem State.setPage_dict (f : Nat) (x : Page) : (s.setPage f x).dict = s.dict := rfl
@[simp] theorem State.setPage_written (f : Nat) (x : Page) : (s.setPage f x).written = s.written := rfl
@[simp] theorem State.setPage_hier (f : Nat) (x : Page) : (s.setPage f x).hier = s.hier := rfl
@[simp] theorem State.setPage_mgr (f : Nat) (x : Page) : (s.setPage f x).mgr = s.mgr := rfl
@[simp] theorem State.setPage_time (f : Nat) (x : Page) : (s.setPage f x).time = s.time := rfl
@[simp] theorem State.setPage_tether (f : Nat) (x : Page) : (s.setPage f x).tether = s.tether := rfl
@[simp] theorem State.setPage_log (f : Nat) (x : Page) : (s.setPage f x).log = s.log := rfl
@[simp] theorem State.setPage_ports (f : Nat) (x : Page) : (s.setPage f x).ports = s.ports := rfl
@[simp] theorem State.setPage_echoes (f : Nat) (x : Page) : (s.setPage f x).echoes = s.echoes := rfl
@[simp] theorem State.setPage_lanes (f : Nat) (x : Page) : (s.setPage f x).lanes = s.lanes := rfl
@[simp] theorem State.setPage_spools (f : Nat) (x : Page) : (s.setPage f x).spools = s.spools := rfl
@[simp] theorem State.setPage_routes (f : Nat) (x : Page) : (s.setPage f x).routes = s.routes := rfl
@[simp] theorem State.setPage_cells (f : Nat) (x : Page) : (s.setPage f x).cells = s.cells := rfl
@[simp] theorem State.setPage_trip (f : Nat) (x : Page) : (s.setPage f x).trip = s.trip := rfl
@[simp] theorem State.setPage_cipher (f : Nat) (x : Page) : (s.setPage f x).cipher = s.cipher := rfl
@[simp] theorem State.setPage_checkParts (f : Nat) (x : Page) : (s.setPage f x).checkParts = s.checkParts := rfl
@[simp] theorem State.setPage_ring (f : Nat) (x : Page) : (s.setPage f x).ring = s.ring := rfl
@[simp] theorem State.setPage_sensing (f : Nat) (x : Page) : (s.setPage f x).sensing = s.sensing := rfl
@[simp] theorem State.setPage_rst (f : Nat) (x : Page) : (s.setPage f x).rst = s.rst := rfl
@[simp] theorem State.setPage_sup (f : Nat) (x : Page) : (s.setPage f x).sup = s.sup := rfl
@[simp] theorem State.setPage_raw (f : Nat) (x : Page) (k : Nat) : (s.setPage f x).raw k = s.raw k := rfl
@[simp] theorem State.setPage_val (f : Nat) (x : Page) (i j : Nat) : (s.setPage f x).val i j = s.val i j := rfl
@[simp] theorem State.setPage_pval (f : Nat) (x : Page) (q i j : Nat) : (s.setPage f x).pval q i j = s.pval q i j := rfl
@[simp] theorem State.setPage_lval (f : Nat) (x : Page) (q k i j : Nat) : (s.setPage f x).lval q k i j = s.lval q k i j := rfl
@[simp] theorem State.setPage_flag (f : Nat) (x : Page) (i j : Nat) : (s.setPage f x).flag i j = s.flag i j := rfl
@[simp] theorem State.setPage_beat (f : Nat) (x : Page) : (s.setPage f x).beat = s.beat := rfl
@[simp] theorem State.setPage_blocks (f : Nat) (x : Page) : (s.setPage f x).blocks = s.blocks := rfl
@[simp] theorem State.setPage_block (f : Nat) (x : Page) (q k : Nat) : (s.setPage f x).block q k = s.block q k := rfl
@[simp] theorem State.setPage_held (f : Nat) (x : Page) (q k : Nat) : (s.setPage f x).held q k = s.held q k := rfl
@[simp] theorem State.setPage_port (f : Nat) (x : Page) (q : Nat) : (s.setPage f x).port q = s.port q := rfl
@[simp] theorem State.setPage_hasPort (f : Nat) (x : Page) (q : Nat) : (s.setPage f x).hasPort q = s.hasPort q := rfl
@[simp] theorem State.setPage_echo (f : Nat) (x : Page) (q : Nat) (c : Band) : (s.setPage f x).echo q c = s.echo q c := rfl
@[simp] theorem State.setPage_lane (f : Nat) (x : Page) (q k : Nat) : (s.setPage f x).lane q k = s.lane q k := rfl
@[simp] theorem State.setPage_spool (f : Nat) (x : Page) (q : Nat) : (s.setPage f x).spool q = s.spool q := rfl
@[simp] theorem State.setPage_packet (f : Nat) (x : Page) (q : Nat) : (s.setPage f x).packet q = s.packet q := rfl
@[simp] theorem State.setPage_route (f : Nat) (x : Page) (q : Nat) : (s.setPage f x).route q = s.route q := rfl
@[simp] theorem State.setPage_link (f : Nat) (x : Page) (q : Nat) : (s.setPage f x).link q = s.link q := rfl
@[simp] theorem State.setPage_node (f : Nat) (x : Page) (q : Nat) : (s.setPage f x).node q = s.node q := rfl
@[simp] theorem State.setPage_cell (f : Nat) (x : Page) (q : Nat) : (s.setPage f x).cell q = s.cell q := rfl
@[simp] theorem State.setPage_slot (f : Nat) (x : Page) (q : Nat) : (s.setPage f x).slot q = s.slot q := rfl
@[simp] theorem State.setPage_domain (f : Nat) (x : Page) (q : Nat) : (s.setPage f x).domain q = s.domain q := rfl
@[simp] theorem State.setPage_channel (f : Nat) (x : Page) (q : Nat) : (s.setPage f x).channel q = s.channel q := rfl
@[simp] theorem State.setPage_unit (f : Nat) (x : Page) (q : Nat) : (s.setPage f x).unit q = s.unit q := rfl

/-! ## setSpool -/

@[simp] theorem State.setSpool_variant (k : Nat) (x : Spool) : (s.setSpool k x).variant = s.variant := rfl
@[simp] theorem State.setSpool_tsc (k : Nat) (x : Spool) : (s.setSpool k x).tsc = s.tsc := rfl
@[simp] theorem State.setSpool_pending (k : Nat) (x : Spool) : (s.setSpool k x).pending = s.pending := rfl
@[simp] theorem State.setSpool_free (k : Nat) (x : Spool) : (s.setSpool k x).free = s.free := rfl
@[simp] theorem State.setSpool_out (k : Nat) (x : Spool) : (s.setSpool k x).out = s.out := rfl
@[simp] theorem State.setSpool_dict (k : Nat) (x : Spool) : (s.setSpool k x).dict = s.dict := rfl
@[simp] theorem State.setSpool_written (k : Nat) (x : Spool) : (s.setSpool k x).written = s.written := rfl
@[simp] theorem State.setSpool_hier (k : Nat) (x : Spool) : (s.setSpool k x).hier = s.hier := rfl
@[simp] theorem State.setSpool_mgr (k : Nat) (x : Spool) : (s.setSpool k x).mgr = s.mgr := rfl
@[simp] theorem State.setSpool_time (k : Nat) (x : Spool) : (s.setSpool k x).time = s.time := rfl
@[simp] theorem State.setSpool_tether (k : Nat) (x : Spool) : (s.setSpool k x).tether = s.tether := rfl
@[simp] theorem State.setSpool_log (k : Nat) (x : Spool) : (s.setSpool k x).log = s.log := rfl
@[simp] theorem State.setSpool_ports (k : Nat) (x : Spool) : (s.setSpool k x).ports = s.ports := rfl
@[simp] theorem State.setSpool_echoes (k : Nat) (x : Spool) : (s.setSpool k x).echoes = s.echoes := rfl
@[simp] theorem State.setSpool_lanes (k : Nat) (x : Spool) : (s.setSpool k x).lanes = s.lanes := rfl
@[simp] theorem State.setSpool_pages (k : Nat) (x : Spool) : (s.setSpool k x).pages = s.pages := rfl
@[simp] theorem State.setSpool_routes (k : Nat) (x : Spool) : (s.setSpool k x).routes = s.routes := rfl
@[simp] theorem State.setSpool_cells (k : Nat) (x : Spool) : (s.setSpool k x).cells = s.cells := rfl
@[simp] theorem State.setSpool_trip (k : Nat) (x : Spool) : (s.setSpool k x).trip = s.trip := rfl
@[simp] theorem State.setSpool_cipher (k : Nat) (x : Spool) : (s.setSpool k x).cipher = s.cipher := rfl
@[simp] theorem State.setSpool_checkParts (k : Nat) (x : Spool) : (s.setSpool k x).checkParts = s.checkParts := rfl
@[simp] theorem State.setSpool_ring (k : Nat) (x : Spool) : (s.setSpool k x).ring = s.ring := rfl
@[simp] theorem State.setSpool_sensing (k : Nat) (x : Spool) : (s.setSpool k x).sensing = s.sensing := rfl
@[simp] theorem State.setSpool_rst (k : Nat) (x : Spool) : (s.setSpool k x).rst = s.rst := rfl
@[simp] theorem State.setSpool_sup (k : Nat) (x : Spool) : (s.setSpool k x).sup = s.sup := rfl
@[simp] theorem State.setSpool_spools_packets (k : Nat) (x : Spool) : (s.setSpool k x).spools.packets = s.spools.packets := rfl
@[simp] theorem State.setSpool_spools_nextHandle (k : Nat) (x : Spool) : (s.setSpool k x).spools.nextHandle = s.spools.nextHandle := rfl
@[simp] theorem State.setSpool_spools_broadcasts (k : Nat) (x : Spool) : (s.setSpool k x).spools.broadcasts = s.spools.broadcasts := rfl
@[simp] theorem State.setSpool_spools_nextBroadcast (k : Nat) (x : Spool) : (s.setSpool k x).spools.nextBroadcast = s.spools.nextBroadcast := rfl
@[simp] theorem State.setSpool_raw (k : Nat) (x : Spool) (k : Nat) : (s.setSpool k x).raw k = s.raw k := rfl
@[simp] theorem State.setSpool_val (k : Nat) (x : Spool) (i j : Nat) : (s.setSpool k x).val i j = s.val i j := rfl
@[simp] theorem State.setSpool_pval (k : Nat) (x : Spool) (q i j : Nat) : (s.setSpool k x).pval q i j = s.pval q i j := rfl
@[simp] theorem State.setSpool_lval (k : Nat) (x : Spool) (q k i j : Nat) : (s.setSpool k x).lval q k i j = s.lval q k i j := rfl
@[simp] theorem State.setSpool_flag (k : Nat) (x : Spool) (i j : Nat) : (s.setSpool k x).flag i j = s.flag i j := rfl
@[simp] theorem State.setSpool_beat (k : Nat) (x : Spool) : (s.setSpool k x).beat = s.beat := rfl
@[simp] theorem State.setSpool_blocks (k : Nat) (x : Spool) : (s.setSpool k x).blocks = s.blocks := rfl
@[simp] theorem State.setSpool_block (k : Nat) (x : Spool) (q k : Nat) : (s.setSpool k x).block q k = s.block q k := rfl
@[simp] theorem State.setSpool_held (k : Nat) (x : Spool) (q k : Nat) : (s.setSpool k x).held q k = s.held q k := rfl
@[simp] theorem State.setSpool_port (k : Nat) (x : Spool) (q : Nat) : (s.setSpool k x).port q = s.port q := rfl
@[simp] theorem State.setSpool_hasPort (k : Nat) (x : Spool) (q : Nat) : (s.setSpool k x).hasPort q = s.hasPort q := rfl
@[simp] theorem State.setSpool_echo (k : Nat) (x : Spool) (q : Nat) (c : Band) : (s.setSpool k x).echo q c = s.echo q c := rfl
@[simp] theorem State.setSpool_lane (k : Nat) (x : Spool) (q k : Nat) : (s.setSpool k x).lane q k = s.lane q k := rfl
@[simp] theorem State.setSpool_page (k : Nat) (x : Spool) (q : Nat) : (s.setSpool k x).page q = s.page q := rfl
@[simp] theorem State.setSpool_packet (k : Nat) (x : Spool) (q : Nat) : (s.setSpool k x).packet q = s.packet q := rfl
@[simp] theorem State.setSpool_route (k : Nat) (x : Spool) (q : Nat) : (s.setSpool k x).route q = s.route q := rfl
@[simp] theorem State.setSpool_link (k : Nat) (x : Spool) (q : Nat) : (s.setSpool k x).link q = s.link q := rfl
@[simp] theorem State.setSpool_node (k : Nat) (x : Spool) (q : Nat) : (s.setSpool k x).node q = s.node q := rfl
@[simp] theorem State.setSpool_cell (k : Nat) (x : Spool) (q : Nat) : (s.setSpool k x).cell q = s.cell q := rfl
@[simp] theorem State.setSpool_slot (k : Nat) (x : Spool) (q : Nat) : (s.setSpool k x).slot q = s.slot q := rfl
@[simp] theorem State.setSpool_domain (k : Nat) (x : Spool) (q : Nat) : (s.setSpool k x).domain q = s.domain q := rfl
@[simp] theorem State.setSpool_channel (k : Nat) (x : Spool) (q : Nat) : (s.setSpool k x).channel q = s.channel q := rfl
@[simp] theorem State.setSpool_unit (k : Nat) (x : Spool) (q : Nat) : (s.setSpool k x).unit q = s.unit q := rfl

/-! ## setRoute -/

@[simp] theorem State.setRoute_variant (k : Nat) (x : RouteEntry) : (s.setRoute k x).variant = s.variant := rfl
@[simp] theorem State.setRoute_tsc (k : Nat) (x : RouteEntry) : (s.setRoute k x).tsc = s.tsc := rfl
@[simp] theorem State.setRoute_pending (k : Nat) (x : RouteEntry) : (s.setRoute k x).pending = s.pending := rfl
@[simp] theorem State.setRoute_free (k : Nat) (x : RouteEntry) : (s.setRoute k x).free = s.free := rfl
@[simp] theorem State.setRoute_out (k : Nat) (x : RouteEntry) : (s.setRoute k x).out = s.out := rfl
@[simp] theorem State.setRoute_dict (k : Nat) (x : RouteEntry) : (s.setRoute k x).dict = s.dict := rfl
@[simp] theorem State.setRoute_written (k : Nat) (x : RouteEntry) : (s.setRoute k x).written = s.written := rfl
@[simp] theorem State.setRoute_hier (k : Nat) (x : RouteEntry) : (s.setRoute k x).hier = s.hier := rfl
@[simp] theorem State.setRoute_mgr (k : Nat) (x : RouteEntry) : (s.setRoute k x).mgr = s.mgr := rfl
@[simp] theorem State.setRoute_time (k : Nat) (x : RouteEntry) : (s.setRoute k x).time = s.time := rfl
@[simp] theorem State.setRoute_tether (k : Nat) (x : RouteEntry) : (s.setRoute k x).tether = s.tether := rfl
@[simp] theorem State.setRoute_log (k : Nat) (x : RouteEntry) : (s.setRoute k x).log = s.log := rfl
@[simp] theorem State.setRoute_ports (k : Nat) (x : RouteEntry) : (s.setRoute k x).ports = s.ports := rfl
@[simp] theorem State.setRoute_echoes (k : Nat) (x : RouteEntry) : (s.setRoute k x).echoes = s.echoes := rfl
@[simp] theorem State.setRoute_lanes (k : Nat) (x : RouteEntry) : (s.setRoute k x).lanes = s.lanes := rfl
@[simp] theorem State.setRoute_spools (k : Nat) (x : RouteEntry) : (s.setRoute k x).spools = s.spools := rfl
@[simp] theorem State.setRoute_pages (k : Nat) (x : RouteEntry) : (s.setRoute k x).pages = s.pages := rfl
@[simp] theorem State.setRoute_cells (k : Nat) (x : RouteEntry) : (s.setRoute k x).cells = s.cells := rfl
@[simp] theorem State.setRoute_trip (k : Nat) (x : RouteEntry) : (s.setRoute k x).trip = s.trip := rfl
@[simp] theorem State.setRoute_cipher (k : Nat) (x : RouteEntry) : (s.setRoute k x).cipher = s.cipher := rfl
@[simp] theorem State.setRoute_checkParts (k : Nat) (x : RouteEntry) : (s.setRoute k x).checkParts = s.checkParts := rfl
@[simp] theorem State.setRoute_ring (k : Nat) (x : RouteEntry) : (s.setRoute k x).ring = s.ring := rfl
@[simp] theorem State.setRoute_sensing (k : Nat) (x : RouteEntry) : (s.setRoute k x).sensing = s.sensing := rfl
@[simp] theorem State.setRoute_rst (k : Nat) (x : RouteEntry) : (s.setRoute k x).rst = s.rst := rfl
@[simp] theorem State.setRoute_sup (k : Nat) (x : RouteEntry) : (s.setRoute k x).sup = s.sup := rfl
@[simp] theorem State.setRoute_routes_links (k : Nat) (x : RouteEntry) : (s.setRoute k x).routes.links = s.routes.links := rfl
@[simp] theorem State.setRoute_routes_nodes (k : Nat) (x : RouteEntry) : (s.setRoute k x).routes.nodes = s.routes.nodes := rfl
@[simp] theorem State.setRoute_routes_repairs (k : Nat) (x : RouteEntry) : (s.setRoute k x).routes.repairs = s.routes.repairs := rfl
@[simp] theorem State.setRoute_routes_nextProbe (k : Nat) (x : RouteEntry) : (s.setRoute k x).routes.nextProbe = s.routes.nextProbe := rfl
@[simp] theorem State.setRoute_routes_probes (k : Nat) (x : RouteEntry) : (s.setRoute k x).routes.probes = s.routes.probes := rfl
@[simp] theorem State.setRoute_routes_changed (k : Nat) (x : RouteEntry) : (s.setRoute k x).routes.changed = s.routes.changed := rfl
@[simp] theorem State.setRoute_routes_updates (k : Nat) (x : RouteEntry) : (s.setRoute k x).routes.updates = s.routes.updates := rfl
@[simp] theorem State.setRoute_routes_failed (k : Nat) (x : RouteEntry) : (s.setRoute k x).routes.failed = s.routes.failed := rfl
@[simp] theorem State.setRoute_raw (k : Nat) (x : RouteEntry) (k : Nat) : (s.setRoute k x).raw k = s.raw k := rfl
@[simp] theorem State.setRoute_val (k : Nat) (x : RouteEntry) (i j : Nat) : (s.setRoute k x).val i j = s.val i j := rfl
@[simp] theorem State.setRoute_pval (k : Nat) (x : RouteEntry) (q i j : Nat) : (s.setRoute k x).pval q i j = s.pval q i j := rfl
@[simp] theorem State.setRoute_lval (k : Nat) (x : RouteEntry) (q k i j : Nat) : (s.setRoute k x).lval q k i j = s.lval q k i j := rfl
@[simp] theorem State.setRoute_flag (k : Nat) (x : RouteEntry) (i j : Nat) : (s.setRoute k x).flag i j = s.flag i j := rfl
@[simp] theorem State.setRoute_beat (k : Nat) (x : RouteEntry) : (s.setRoute k x).beat = s.beat := rfl
@[simp] theorem State.setRoute_blocks (k : Nat) (x : RouteEntry) : (s.setRoute k x).blocks = s.blocks := rfl
@[simp] theorem State.setRoute_block (k : Nat) (x : RouteEntry) (q k : Nat) : (s.setRoute k x).block q k = s.block q k := rfl
@[simp] theorem State.setRoute_held (k : Nat) (x : RouteEntry) (q k : Nat) : (s.setRoute k x).held q k = s.held q k := rfl
@[simp] theorem State.setRoute_port (k : Nat) (x : RouteEntry) (q : Nat) : (s.setRoute k x).port q = s.port q := rfl
@[simp] theorem State.setRoute_hasPort (k : Nat) (x : RouteEntry) (q : Nat) : (s.setRoute k x).hasPort q = s.hasPort q := rfl
@[simp] theorem State.setRoute_echo (k : Nat) (x : RouteEntry) (q : Nat) (c : Band) : (s.setRoute k x).echo q c = s.echo q c := rfl
@[simp] theorem State.setRoute_lane (k : Nat) (x : RouteEntry) (q k : Nat) : (s.setRoute k x).lane q k = s.lane q k := rfl
@[simp] theorem State.setRoute_page (k : Nat) (x : RouteEntry) (q : Nat) : (s.setRoute k x).page q = s.page q := rfl
@[simp] theorem State.setRoute_spool (k : Nat) (x : RouteEntry) (q : Nat) : (s.setRoute k x).spool q = s.spool q := rfl
@[simp] theorem State.setRoute_packet (k : Nat) (x : RouteEntry) (q : Nat) : (s.setRoute k x).packet q = s.packet q := rfl
@[simp] theorem State.setRoute_link (k : Nat) (x : RouteEntry) (q : Nat) : (s.setRoute k x).link q = s.link q := rfl
@[simp] theorem State.setRoute_node (k : Nat) (x : RouteEntry) (q : Nat) : (s.setRoute k x).node q = s.node q := rfl
@[simp] theorem State.setRoute_cell (k : Nat) (x : RouteEntry) (q : Nat) : (s.setRoute k x).cell q = s.cell q := rfl
@[simp] theorem State.setRoute_slot (k : Nat) (x : RouteEntry) (q : Nat) : (s.setRoute k x).slot q = s.slot q := rfl
@[simp] theorem State.setRoute_domain (k : Nat) (x : RouteEntry) (q : Nat) : (s.setRoute k x).domain q = s.domain q := rfl
@[simp] theorem State.setRoute_channel (k : Nat) (x : RouteEntry) (q : Nat) : (s.setRoute k x).channel q = s.channel q := rfl
@[simp] theorem State.setRoute_unit (k : Nat) (x : RouteEntry) (q : Nat) : (s.setRoute k x).unit q = s.unit q := rfl

/-! ## setLink -/

@[simp] theorem State.setLink_variant (n : Nat) (x : Link) : (s.setLink n x).variant = s.variant := rfl
@[simp] theorem State.setLink_tsc (n : Nat) (x : Link) : (s.setLink n x).tsc = s.tsc := rfl
@[simp] theorem State.setLink_pending (n : Nat) (x : Link) : (s.setLink n x).pending = s.pending := rfl
@[simp] theorem State.setLink_free (n : Nat) (x : Link) : (s.setLink n x).free = s.free := rfl
@[simp] theorem State.setLink_out (n : Nat) (x : Link) : (s.setLink n x).out = s.out := rfl
@[simp] theorem State.setLink_dict (n : Nat) (x : Link) : (s.setLink n x).dict = s.dict := rfl
@[simp] theorem State.setLink_written (n : Nat) (x : Link) : (s.setLink n x).written = s.written := rfl
@[simp] theorem State.setLink_hier (n : Nat) (x : Link) : (s.setLink n x).hier = s.hier := rfl
@[simp] theorem State.setLink_mgr (n : Nat) (x : Link) : (s.setLink n x).mgr = s.mgr := rfl
@[simp] theorem State.setLink_time (n : Nat) (x : Link) : (s.setLink n x).time = s.time := rfl
@[simp] theorem State.setLink_tether (n : Nat) (x : Link) : (s.setLink n x).tether = s.tether := rfl
@[simp] theorem State.setLink_log (n : Nat) (x : Link) : (s.setLink n x).log = s.log := rfl
@[simp] theorem State.setLink_ports (n : Nat) (x : Link) : (s.setLink n x).ports = s.ports := rfl
@[simp] theorem State.setLink_echoes (n : Nat) (x : Link) : (s.setLink n x).echoes = s.echoes := rfl
@[simp] theorem State.setLink_lanes (n : Nat) (x : Link) : (s.setLink n x).lanes = s.lanes := rfl
@[simp] theorem State.setLink_spools (n : Nat) (x : Link) : (s.setLink n x).spools = s.spools := rfl
@[simp] theorem State.setLink_pages (n : Nat) (x : Link) : (s.setLink n x).pages = s.pages := rfl
@[simp] theorem State.setLink_cells (n : Nat) (x : Link) : (s.setLink n x).cells = s.cells := rfl
@[simp] theorem State.setLink_trip (n : Nat) (x : Link) : (s.setLink n x).trip = s.trip := rfl
@[simp] theorem State.setLink_cipher (n : Nat) (x : Link) : (s.setLink n x).cipher = s.cipher := rfl
@[simp] theorem State.setLink_checkParts (n : Nat) (x : Link) : (s.setLink n x).checkParts = s.checkParts := rfl
@[simp] theorem State.setLink_ring (n : Nat) (x : Link) : (s.setLink n x).ring = s.ring := rfl
@[simp] theorem State.setLink_sensing (n : Nat) (x : Link) : (s.setLink n x).sensing = s.sensing := rfl
@[simp] theorem State.setLink_rst (n : Nat) (x : Link) : (s.setLink n x).rst = s.rst := rfl
@[simp] theorem State.setLink_sup (n : Nat) (x : Link) : (s.setLink n x).sup = s.sup := rfl
@[simp] theorem State.setLink_routes_entries (n : Nat) (x : Link) : (s.setLink n x).routes.entries = s.routes.entries := rfl
@[simp] theorem State.setLink_routes_nodes (n : Nat) (x : Link) : (s.setLink n x).routes.nodes = s.routes.nodes := rfl
@[simp] theorem State.setLink_routes_repairs (n : Nat) (x : Link) : (s.setLink n x).routes.repairs = s.routes.repairs := rfl
@[simp] theorem State.setLink_routes_nextProbe (n : Nat) (x : Link) : (s.setLink n x).routes.nextProbe = s.routes.nextProbe := rfl
@[simp] theorem State.setLink_routes_probes (n : Nat) (x : Link) : (s.setLink n x).routes.probes = s.routes.probes := rfl
@[simp] theorem State.setLink_routes_changed (n : Nat) (x : Link) : (s.setLink n x).routes.changed = s.routes.changed := rfl
@[simp] theorem State.setLink_routes_updates (n : Nat) (x : Link) : (s.setLink n x).routes.updates = s.routes.updates := rfl
@[simp] theorem State.setLink_routes_before (n : Nat) (x : Link) : (s.setLink n x).routes.before = s.routes.before := rfl
@[simp] theorem State.setLink_routes_failed (n : Nat) (x : Link) : (s.setLink n x).routes.failed = s.routes.failed := rfl
@[simp] theorem State.setLink_raw (n : Nat) (x : Link) (k : Nat) : (s.setLink n x).raw k = s.raw k := rfl
@[simp] theorem State.setLink_val (n : Nat) (x : Link) (i j : Nat) : (s.setLink n x).val i j = s.val i j := rfl
@[simp] theorem State.setLink_pval (n : Nat) (x : Link) (q i j : Nat) : (s.setLink n x).pval q i j = s.pval q i j := rfl
@[simp] theorem State.setLink_lval (n : Nat) (x : Link) (q k i j : Nat) : (s.setLink n x).lval q k i j = s.lval q k i j := rfl
@[simp] theorem State.setLink_flag (n : Nat) (x : Link) (i j : Nat) : (s.setLink n x).flag i j = s.flag i j := rfl
@[simp] theorem State.setLink_beat (n : Nat) (x : Link) : (s.setLink n x).beat = s.beat := rfl
@[simp] theorem State.setLink_blocks (n : Nat) (x : Link) : (s.setLink n x).blocks = s.blocks := rfl
@[simp] theorem State.setLink_block (n : Nat) (x : Link) (q k : Nat) : (s.setLink n x).block q k = s.block q k := rfl
@[simp] theorem State.setLink_held (n : Nat) (x : Link) (q k : Nat) : (s.setLink n x).held q k = s.held q k := rfl
@[simp] theorem State.setLink_port (n : Nat) (x : Link) (q : Nat) : (s.setLink n x).port q = s.port q := rfl
@[simp] theorem State.setLink_hasPort (n : Nat) (x : Link) (q : Nat) : (s.setLink n x).hasPort q = s.hasPort q := rfl
@[simp] theorem State.setLink_echo (n : Nat) (x : Link) (q : Nat) (c : Band) : (s.setLink n x).echo q c = s.echo q c := rfl
@[simp] theorem State.setLink_lane (n : Nat) (x : Link) (q k : Nat) : (s.setLink n x).lane q k = s.lane q k := rfl
@[simp] theorem State.setLink_page (n : Nat) (x : Link) (q : Nat) : (s.setLink n x).page q = s.page q := rfl
@[simp] theorem State.setLink_spool (n : Nat) (x : Link) (q : Nat) : (s.setLink n x).spool q = s.spool q := rfl
@[simp] theorem State.setLink_packet (n : Nat) (x : Link) (q : Nat) : (s.setLink n x).packet q = s.packet q := rfl
@[simp] theorem State.setLink_route (n : Nat) (x : Link) (q : Nat) : (s.setLink n x).route q = s.route q := rfl
@[simp] theorem State.setLink_node (n : Nat) (x : Link) (q : Nat) : (s.setLink n x).node q = s.node q := rfl
@[simp] theorem State.setLink_cell (n : Nat) (x : Link) (q : Nat) : (s.setLink n x).cell q = s.cell q := rfl
@[simp] theorem State.setLink_slot (n : Nat) (x : Link) (q : Nat) : (s.setLink n x).slot q = s.slot q := rfl
@[simp] theorem State.setLink_domain (n : Nat) (x : Link) (q : Nat) : (s.setLink n x).domain q = s.domain q := rfl
@[simp] theorem State.setLink_channel (n : Nat) (x : Link) (q : Nat) : (s.setLink n x).channel q = s.channel q := rfl
@[simp] theorem State.setLink_unit (n : Nat) (x : Link) (q : Nat) : (s.setLink n x).unit q = s.unit q := rfl

/-! ## setNode -/

@[simp] theorem State.setNode_variant (e : Nat) (x : Node) : (s.setNode e x).variant = s.variant := rfl
@[simp] theorem State.setNode_tsc (e : Nat) (x : Node) : (s.setNode e x).tsc = s.tsc := rfl
@[simp] theorem State.setNode_pending (e : Nat) (x : Node) : (s.setNode e x).pending = s.pending := rfl
@[simp] theorem State.setNode_free (e : Nat) (x : Node) : (s.setNode e x).free = s.free := rfl
@[simp] theorem State.setNode_out (e : Nat) (x : Node) : (s.setNode e x).out = s.out := rfl
@[simp] theorem State.setNode_dict (e : Nat) (x : Node) : (s.setNode e x).dict = s.dict := rfl
@[simp] theorem State.setNode_written (e : Nat) (x : Node) : (s.setNode e x).written = s.written := rfl
@[simp] theorem State.setNode_hier (e : Nat) (x : Node) : (s.setNode e x).hier = s.hier := rfl
@[simp] theorem State.setNode_mgr (e : Nat) (x : Node) : (s.setNode e x).mgr = s.mgr := rfl
@[simp] theorem State.setNode_time (e : Nat) (x : Node) : (s.setNode e x).time = s.time := rfl
@[simp] theorem State.setNode_tether (e : Nat) (x : Node) : (s.setNode e x).tether = s.tether := rfl
@[simp] theorem State.setNode_log (e : Nat) (x : Node) : (s.setNode e x).log = s.log := rfl
@[simp] theorem State.setNode_ports (e : Nat) (x : Node) : (s.setNode e x).ports = s.ports := rfl
@[simp] theorem State.setNode_echoes (e : Nat) (x : Node) : (s.setNode e x).echoes = s.echoes := rfl
@[simp] theorem State.setNode_lanes (e : Nat) (x : Node) : (s.setNode e x).lanes = s.lanes := rfl
@[simp] theorem State.setNode_spools (e : Nat) (x : Node) : (s.setNode e x).spools = s.spools := rfl
@[simp] theorem State.setNode_pages (e : Nat) (x : Node) : (s.setNode e x).pages = s.pages := rfl
@[simp] theorem State.setNode_cells (e : Nat) (x : Node) : (s.setNode e x).cells = s.cells := rfl
@[simp] theorem State.setNode_trip (e : Nat) (x : Node) : (s.setNode e x).trip = s.trip := rfl
@[simp] theorem State.setNode_cipher (e : Nat) (x : Node) : (s.setNode e x).cipher = s.cipher := rfl
@[simp] theorem State.setNode_checkParts (e : Nat) (x : Node) : (s.setNode e x).checkParts = s.checkParts := rfl
@[simp] theorem State.setNode_ring (e : Nat) (x : Node) : (s.setNode e x).ring = s.ring := rfl
@[simp] theorem State.setNode_sensing (e : Nat) (x : Node) : (s.setNode e x).sensing = s.sensing := rfl
@[simp] theorem State.setNode_rst (e : Nat) (x : Node) : (s.setNode e x).rst = s.rst := rfl
@[simp] theorem State.setNode_sup (e : Nat) (x : Node) : (s.setNode e x).sup = s.sup := rfl
@[simp] theorem State.setNode_routes_entries (e : Nat) (x : Node) : (s.setNode e x).routes.entries = s.routes.entries := rfl
@[simp] theorem State.setNode_routes_links (e : Nat) (x : Node) : (s.setNode e x).routes.links = s.routes.links := rfl
@[simp] theorem State.setNode_routes_repairs (e : Nat) (x : Node) : (s.setNode e x).routes.repairs = s.routes.repairs := rfl
@[simp] theorem State.setNode_routes_nextProbe (e : Nat) (x : Node) : (s.setNode e x).routes.nextProbe = s.routes.nextProbe := rfl
@[simp] theorem State.setNode_routes_probes (e : Nat) (x : Node) : (s.setNode e x).routes.probes = s.routes.probes := rfl
@[simp] theorem State.setNode_routes_changed (e : Nat) (x : Node) : (s.setNode e x).routes.changed = s.routes.changed := rfl
@[simp] theorem State.setNode_routes_updates (e : Nat) (x : Node) : (s.setNode e x).routes.updates = s.routes.updates := rfl
@[simp] theorem State.setNode_routes_before (e : Nat) (x : Node) : (s.setNode e x).routes.before = s.routes.before := rfl
@[simp] theorem State.setNode_routes_failed (e : Nat) (x : Node) : (s.setNode e x).routes.failed = s.routes.failed := rfl
@[simp] theorem State.setNode_raw (e : Nat) (x : Node) (k : Nat) : (s.setNode e x).raw k = s.raw k := rfl
@[simp] theorem State.setNode_val (e : Nat) (x : Node) (i j : Nat) : (s.setNode e x).val i j = s.val i j := rfl
@[simp] theorem State.setNode_pval (e : Nat) (x : Node) (q i j : Nat) : (s.setNode e x).pval q i j = s.pval q i j := rfl
@[simp] theorem State.setNode_lval (e : Nat) (x : Node) (q k i j : Nat) : (s.setNode e x).lval q k i j = s.lval q k i j := rfl
@[simp] theorem State.setNode_flag (e : Nat) (x : Node) (i j : Nat) : (s.setNode e x).flag i j = s.flag i j := rfl
@[simp] theorem State.setNode_beat (e : Nat) (x : Node) : (s.setNode e x).beat = s.beat := rfl
@[simp] theorem State.setNode_blocks (e : Nat) (x : Node) : (s.setNode e x).blocks = s.blocks := rfl
@[simp] theorem State.setNode_block (e : Nat) (x : Node) (q k : Nat) : (s.setNode e x).block q k = s.block q k := rfl
@[simp] theorem State.setNode_held (e : Nat) (x : Node) (q k : Nat) : (s.setNode e x).held q k = s.held q k := rfl
@[simp] theorem State.setNode_port (e : Nat) (x : Node) (q : Nat) : (s.setNode e x).port q = s.port q := rfl
@[simp] theorem State.setNode_hasPort (e : Nat) (x : Node) (q : Nat) : (s.setNode e x).hasPort q = s.hasPort q := rfl
@[simp] theorem State.setNode_echo (e : Nat) (x : Node) (q : Nat) (c : Band) : (s.setNode e x).echo q c = s.echo q c := rfl
@[simp] theorem State.setNode_lane (e : Nat) (x : Node) (q k : Nat) : (s.setNode e x).lane q k = s.lane q k := rfl
@[simp] theorem State.setNode_page (e : Nat) (x : Node) (q : Nat) : (s.setNode e x).page q = s.page q := rfl
@[simp] theorem State.setNode_spool (e : Nat) (x : Node) (q : Nat) : (s.setNode e x).spool q = s.spool q := rfl
@[simp] theorem State.setNode_packet (e : Nat) (x : Node) (q : Nat) : (s.setNode e x).packet q = s.packet q := rfl
@[simp] theorem State.setNode_route (e : Nat) (x : Node) (q : Nat) : (s.setNode e x).route q = s.route q := rfl
@[simp] theorem State.setNode_link (e : Nat) (x : Node) (q : Nat) : (s.setNode e x).link q = s.link q := rfl
@[simp] theorem State.setNode_cell (e : Nat) (x : Node) (q : Nat) : (s.setNode e x).cell q = s.cell q := rfl
@[simp] theorem State.setNode_slot (e : Nat) (x : Node) (q : Nat) : (s.setNode e x).slot q = s.slot q := rfl
@[simp] theorem State.setNode_domain (e : Nat) (x : Node) (q : Nat) : (s.setNode e x).domain q = s.domain q := rfl
@[simp] theorem State.setNode_channel (e : Nat) (x : Node) (q : Nat) : (s.setNode e x).channel q = s.channel q := rfl
@[simp] theorem State.setNode_unit (e : Nat) (x : Node) (q : Nat) : (s.setNode e x).unit q = s.unit q := rfl

/-! ## setCell -/

@[simp] theorem State.setCell_variant (p : Nat) (x : CommandCell) : (s.setCell p x).variant = s.variant := rfl
@[simp] theorem State.setCell_tsc (p : Nat) (x : CommandCell) : (s.setCell p x).tsc = s.tsc := rfl
@[simp] theorem State.setCell_pending (p : Nat) (x : CommandCell) : (s.setCell p x).pending = s.pending := rfl
@[simp] theorem State.setCell_free (p : Nat) (x : CommandCell) : (s.setCell p x).free = s.free := rfl
@[simp] theorem State.setCell_out (p : Nat) (x : CommandCell) : (s.setCell p x).out = s.out := rfl
@[simp] theorem State.setCell_dict (p : Nat) (x : CommandCell) : (s.setCell p x).dict = s.dict := rfl
@[simp] theorem State.setCell_written (p : Nat) (x : CommandCell) : (s.setCell p x).written = s.written := rfl
@[simp] theorem State.setCell_hier (p : Nat) (x : CommandCell) : (s.setCell p x).hier = s.hier := rfl
@[simp] theorem State.setCell_mgr (p : Nat) (x : CommandCell) : (s.setCell p x).mgr = s.mgr := rfl
@[simp] theorem State.setCell_time (p : Nat) (x : CommandCell) : (s.setCell p x).time = s.time := rfl
@[simp] theorem State.setCell_tether (p : Nat) (x : CommandCell) : (s.setCell p x).tether = s.tether := rfl
@[simp] theorem State.setCell_log (p : Nat) (x : CommandCell) : (s.setCell p x).log = s.log := rfl
@[simp] theorem State.setCell_ports (p : Nat) (x : CommandCell) : (s.setCell p x).ports = s.ports := rfl
@[simp] theorem State.setCell_echoes (p : Nat) (x : CommandCell) : (s.setCell p x).echoes = s.echoes := rfl
@[simp] theorem State.setCell_lanes (p : Nat) (x : CommandCell) : (s.setCell p x).lanes = s.lanes := rfl
@[simp] theorem State.setCell_spools (p : Nat) (x : CommandCell) : (s.setCell p x).spools = s.spools := rfl
@[simp] theorem State.setCell_pages (p : Nat) (x : CommandCell) : (s.setCell p x).pages = s.pages := rfl
@[simp] theorem State.setCell_routes (p : Nat) (x : CommandCell) : (s.setCell p x).routes = s.routes := rfl
@[simp] theorem State.setCell_trip (p : Nat) (x : CommandCell) : (s.setCell p x).trip = s.trip := rfl
@[simp] theorem State.setCell_cipher (p : Nat) (x : CommandCell) : (s.setCell p x).cipher = s.cipher := rfl
@[simp] theorem State.setCell_checkParts (p : Nat) (x : CommandCell) : (s.setCell p x).checkParts = s.checkParts := rfl
@[simp] theorem State.setCell_ring (p : Nat) (x : CommandCell) : (s.setCell p x).ring = s.ring := rfl
@[simp] theorem State.setCell_sensing (p : Nat) (x : CommandCell) : (s.setCell p x).sensing = s.sensing := rfl
@[simp] theorem State.setCell_rst (p : Nat) (x : CommandCell) : (s.setCell p x).rst = s.rst := rfl
@[simp] theorem State.setCell_sup (p : Nat) (x : CommandCell) : (s.setCell p x).sup = s.sup := rfl
@[simp] theorem State.setCell_raw (p : Nat) (x : CommandCell) (k : Nat) : (s.setCell p x).raw k = s.raw k := rfl
@[simp] theorem State.setCell_val (p : Nat) (x : CommandCell) (i j : Nat) : (s.setCell p x).val i j = s.val i j := rfl
@[simp] theorem State.setCell_pval (p : Nat) (x : CommandCell) (q i j : Nat) : (s.setCell p x).pval q i j = s.pval q i j := rfl
@[simp] theorem State.setCell_lval (p : Nat) (x : CommandCell) (q k i j : Nat) : (s.setCell p x).lval q k i j = s.lval q k i j := rfl
@[simp] theorem State.setCell_flag (p : Nat) (x : CommandCell) (i j : Nat) : (s.setCell p x).flag i j = s.flag i j := rfl
@[simp] theorem State.setCell_beat (p : Nat) (x : CommandCell) : (s.setCell p x).beat = s.beat := rfl
@[simp] theorem State.setCell_blocks (p : Nat) (x : CommandCell) : (s.setCell p x).blocks = s.blocks := rfl
@[simp] theorem State.setCell_block (p : Nat) (x : CommandCell) (q k : Nat) : (s.setCell p x).block q k = s.block q k := rfl
@[simp] theorem State.setCell_held (p : Nat) (x : CommandCell) (q k : Nat) : (s.setCell p x).held q k = s.held q k := rfl
@[simp] theorem State.setCell_port (p : Nat) (x : CommandCell) (q : Nat) : (s.setCell p x).port q = s.port q := rfl
@[simp] theorem State.setCell_hasPort (p : Nat) (x : CommandCell) (q : Nat) : (s.setCell p x).hasPort q = s.hasPort q := rfl
@[simp] theorem State.setCell_echo (p : Nat) (x : CommandCell) (q : Nat) (c : Band) : (s.setCell p x).echo q c = s.echo q c := rfl
@[simp] theorem State.setCell_lane (p : Nat) (x : CommandCell) (q k : Nat) : (s.setCell p x).lane q k = s.lane q k := rfl
@[simp] theorem State.setCell_page (p : Nat) (x : CommandCell) (q : Nat) : (s.setCell p x).page q = s.page q := rfl
@[simp] theorem State.setCell_spool (p : Nat) (x : CommandCell) (q : Nat) : (s.setCell p x).spool q = s.spool q := rfl
@[simp] theorem State.setCell_packet (p : Nat) (x : CommandCell) (q : Nat) : (s.setCell p x).packet q = s.packet q := rfl
@[simp] theorem State.setCell_route (p : Nat) (x : CommandCell) (q : Nat) : (s.setCell p x).route q = s.route q := rfl
@[simp] theorem State.setCell_link (p : Nat) (x : CommandCell) (q : Nat) : (s.setCell p x).link q = s.link q := rfl
@[simp] theorem State.setCell_node (p : Nat) (x : CommandCell) (q : Nat) : (s.setCell p x).node q = s.node q := rfl
@[simp] theorem State.setCell_slot (p : Nat) (x : CommandCell) (q : Nat) : (s.setCell p x).slot q = s.slot q := rfl
@[simp] theorem State.setCell_domain (p : Nat) (x : CommandCell) (q : Nat) : (s.setCell p x).domain q = s.domain q := rfl
@[simp] theorem State.setCell_channel (p : Nat) (x : CommandCell) (q : Nat) : (s.setCell p x).channel q = s.channel q := rfl
@[simp] theorem State.setCell_unit (p : Nat) (x : CommandCell) (q : Nat) : (s.setCell p x).unit q = s.unit q := rfl

/-! ## setSlot -/

@[simp] theorem State.setSlot_variant (n : Nat) (x : KeySlot) : (s.setSlot n x).variant = s.variant := rfl
@[simp] theorem State.setSlot_tsc (n : Nat) (x : KeySlot) : (s.setSlot n x).tsc = s.tsc := rfl
@[simp] theorem State.setSlot_pending (n : Nat) (x : KeySlot) : (s.setSlot n x).pending = s.pending := rfl
@[simp] theorem State.setSlot_free (n : Nat) (x : KeySlot) : (s.setSlot n x).free = s.free := rfl
@[simp] theorem State.setSlot_out (n : Nat) (x : KeySlot) : (s.setSlot n x).out = s.out := rfl
@[simp] theorem State.setSlot_dict (n : Nat) (x : KeySlot) : (s.setSlot n x).dict = s.dict := rfl
@[simp] theorem State.setSlot_written (n : Nat) (x : KeySlot) : (s.setSlot n x).written = s.written := rfl
@[simp] theorem State.setSlot_hier (n : Nat) (x : KeySlot) : (s.setSlot n x).hier = s.hier := rfl
@[simp] theorem State.setSlot_mgr (n : Nat) (x : KeySlot) : (s.setSlot n x).mgr = s.mgr := rfl
@[simp] theorem State.setSlot_time (n : Nat) (x : KeySlot) : (s.setSlot n x).time = s.time := rfl
@[simp] theorem State.setSlot_tether (n : Nat) (x : KeySlot) : (s.setSlot n x).tether = s.tether := rfl
@[simp] theorem State.setSlot_log (n : Nat) (x : KeySlot) : (s.setSlot n x).log = s.log := rfl
@[simp] theorem State.setSlot_ports (n : Nat) (x : KeySlot) : (s.setSlot n x).ports = s.ports := rfl
@[simp] theorem State.setSlot_echoes (n : Nat) (x : KeySlot) : (s.setSlot n x).echoes = s.echoes := rfl
@[simp] theorem State.setSlot_lanes (n : Nat) (x : KeySlot) : (s.setSlot n x).lanes = s.lanes := rfl
@[simp] theorem State.setSlot_spools (n : Nat) (x : KeySlot) : (s.setSlot n x).spools = s.spools := rfl
@[simp] theorem State.setSlot_pages (n : Nat) (x : KeySlot) : (s.setSlot n x).pages = s.pages := rfl
@[simp] theorem State.setSlot_routes (n : Nat) (x : KeySlot) : (s.setSlot n x).routes = s.routes := rfl
@[simp] theorem State.setSlot_cells (n : Nat) (x : KeySlot) : (s.setSlot n x).cells = s.cells := rfl
@[simp] theorem State.setSlot_trip (n : Nat) (x : KeySlot) : (s.setSlot n x).trip = s.trip := rfl
@[simp] theorem State.setSlot_checkParts (n : Nat) (x : KeySlot) : (s.setSlot n x).checkParts = s.checkParts := rfl
@[simp] theorem State.setSlot_ring (n : Nat) (x : KeySlot) : (s.setSlot n x).ring = s.ring := rfl
@[simp] theorem State.setSlot_sensing (n : Nat) (x : KeySlot) : (s.setSlot n x).sensing = s.sensing := rfl
@[simp] theorem State.setSlot_rst (n : Nat) (x : KeySlot) : (s.setSlot n x).rst = s.rst := rfl
@[simp] theorem State.setSlot_sup (n : Nat) (x : KeySlot) : (s.setSlot n x).sup = s.sup := rfl
@[simp] theorem State.setSlot_cipher_blocked255 (n : Nat) (x : KeySlot) : (s.setSlot n x).cipher.blocked255 = s.cipher.blocked255 := rfl
@[simp] theorem State.setSlot_cipher_jobs (n : Nat) (x : KeySlot) : (s.setSlot n x).cipher.jobs = s.cipher.jobs := rfl
@[simp] theorem State.setSlot_cipher_nextJob (n : Nat) (x : KeySlot) : (s.setSlot n x).cipher.nextJob = s.cipher.nextJob := rfl
@[simp] theorem State.setSlot_cipher_testing (n : Nat) (x : KeySlot) : (s.setSlot n x).cipher.testing = s.cipher.testing := rfl
@[simp] theorem State.setSlot_cipher_leaving (n : Nat) (x : KeySlot) : (s.setSlot n x).cipher.leaving = s.cipher.leaving := rfl
@[simp] theorem State.setSlot_cipher_passed (n : Nat) (x : KeySlot) : (s.setSlot n x).cipher.passed = s.cipher.passed := rfl
@[simp] theorem State.setSlot_cipher_resubmit (n : Nat) (x : KeySlot) : (s.setSlot n x).cipher.resubmit = s.cipher.resubmit := rfl
@[simp] theorem State.setSlot_cipher_mismatches (n : Nat) (x : KeySlot) : (s.setSlot n x).cipher.mismatches = s.cipher.mismatches := rfl
@[simp] theorem State.setSlot_cipher_erasing (n : Nat) (x : KeySlot) : (s.setSlot n x).cipher.erasing = s.cipher.erasing := rfl
@[simp] theorem State.setSlot_cipher_waiting (n : Nat) (x : KeySlot) : (s.setSlot n x).cipher.waiting = s.cipher.waiting := rfl
@[simp] theorem State.setSlot_raw (n : Nat) (x : KeySlot) (k : Nat) : (s.setSlot n x).raw k = s.raw k := rfl
@[simp] theorem State.setSlot_val (n : Nat) (x : KeySlot) (i j : Nat) : (s.setSlot n x).val i j = s.val i j := rfl
@[simp] theorem State.setSlot_pval (n : Nat) (x : KeySlot) (q i j : Nat) : (s.setSlot n x).pval q i j = s.pval q i j := rfl
@[simp] theorem State.setSlot_lval (n : Nat) (x : KeySlot) (q k i j : Nat) : (s.setSlot n x).lval q k i j = s.lval q k i j := rfl
@[simp] theorem State.setSlot_flag (n : Nat) (x : KeySlot) (i j : Nat) : (s.setSlot n x).flag i j = s.flag i j := rfl
@[simp] theorem State.setSlot_beat (n : Nat) (x : KeySlot) : (s.setSlot n x).beat = s.beat := rfl
@[simp] theorem State.setSlot_blocks (n : Nat) (x : KeySlot) : (s.setSlot n x).blocks = s.blocks := rfl
@[simp] theorem State.setSlot_block (n : Nat) (x : KeySlot) (q k : Nat) : (s.setSlot n x).block q k = s.block q k := rfl
@[simp] theorem State.setSlot_held (n : Nat) (x : KeySlot) (q k : Nat) : (s.setSlot n x).held q k = s.held q k := rfl
@[simp] theorem State.setSlot_port (n : Nat) (x : KeySlot) (q : Nat) : (s.setSlot n x).port q = s.port q := rfl
@[simp] theorem State.setSlot_hasPort (n : Nat) (x : KeySlot) (q : Nat) : (s.setSlot n x).hasPort q = s.hasPort q := rfl
@[simp] theorem State.setSlot_echo (n : Nat) (x : KeySlot) (q : Nat) (c : Band) : (s.setSlot n x).echo q c = s.echo q c := rfl
@[simp] theorem State.setSlot_lane (n : Nat) (x : KeySlot) (q k : Nat) : (s.setSlot n x).lane q k = s.lane q k := rfl
@[simp] theorem State.setSlot_page (n : Nat) (x : KeySlot) (q : Nat) : (s.setSlot n x).page q = s.page q := rfl
@[simp] theorem State.setSlot_spool (n : Nat) (x : KeySlot) (q : Nat) : (s.setSlot n x).spool q = s.spool q := rfl
@[simp] theorem State.setSlot_packet (n : Nat) (x : KeySlot) (q : Nat) : (s.setSlot n x).packet q = s.packet q := rfl
@[simp] theorem State.setSlot_route (n : Nat) (x : KeySlot) (q : Nat) : (s.setSlot n x).route q = s.route q := rfl
@[simp] theorem State.setSlot_link (n : Nat) (x : KeySlot) (q : Nat) : (s.setSlot n x).link q = s.link q := rfl
@[simp] theorem State.setSlot_node (n : Nat) (x : KeySlot) (q : Nat) : (s.setSlot n x).node q = s.node q := rfl
@[simp] theorem State.setSlot_cell (n : Nat) (x : KeySlot) (q : Nat) : (s.setSlot n x).cell q = s.cell q := rfl
@[simp] theorem State.setSlot_domain (n : Nat) (x : KeySlot) (q : Nat) : (s.setSlot n x).domain q = s.domain q := rfl
@[simp] theorem State.setSlot_channel (n : Nat) (x : KeySlot) (q : Nat) : (s.setSlot n x).channel q = s.channel q := rfl
@[simp] theorem State.setSlot_unit (n : Nat) (x : KeySlot) (q : Nat) : (s.setSlot n x).unit q = s.unit q := rfl

/-! ## setDomain -/

@[simp] theorem State.setDomain_variant (d : Nat) (x : Domain) : (s.setDomain d x).variant = s.variant := rfl
@[simp] theorem State.setDomain_tsc (d : Nat) (x : Domain) : (s.setDomain d x).tsc = s.tsc := rfl
@[simp] theorem State.setDomain_pending (d : Nat) (x : Domain) : (s.setDomain d x).pending = s.pending := rfl
@[simp] theorem State.setDomain_free (d : Nat) (x : Domain) : (s.setDomain d x).free = s.free := rfl
@[simp] theorem State.setDomain_out (d : Nat) (x : Domain) : (s.setDomain d x).out = s.out := rfl
@[simp] theorem State.setDomain_dict (d : Nat) (x : Domain) : (s.setDomain d x).dict = s.dict := rfl
@[simp] theorem State.setDomain_written (d : Nat) (x : Domain) : (s.setDomain d x).written = s.written := rfl
@[simp] theorem State.setDomain_hier (d : Nat) (x : Domain) : (s.setDomain d x).hier = s.hier := rfl
@[simp] theorem State.setDomain_mgr (d : Nat) (x : Domain) : (s.setDomain d x).mgr = s.mgr := rfl
@[simp] theorem State.setDomain_time (d : Nat) (x : Domain) : (s.setDomain d x).time = s.time := rfl
@[simp] theorem State.setDomain_tether (d : Nat) (x : Domain) : (s.setDomain d x).tether = s.tether := rfl
@[simp] theorem State.setDomain_log (d : Nat) (x : Domain) : (s.setDomain d x).log = s.log := rfl
@[simp] theorem State.setDomain_ports (d : Nat) (x : Domain) : (s.setDomain d x).ports = s.ports := rfl
@[simp] theorem State.setDomain_echoes (d : Nat) (x : Domain) : (s.setDomain d x).echoes = s.echoes := rfl
@[simp] theorem State.setDomain_lanes (d : Nat) (x : Domain) : (s.setDomain d x).lanes = s.lanes := rfl
@[simp] theorem State.setDomain_spools (d : Nat) (x : Domain) : (s.setDomain d x).spools = s.spools := rfl
@[simp] theorem State.setDomain_pages (d : Nat) (x : Domain) : (s.setDomain d x).pages = s.pages := rfl
@[simp] theorem State.setDomain_routes (d : Nat) (x : Domain) : (s.setDomain d x).routes = s.routes := rfl
@[simp] theorem State.setDomain_cells (d : Nat) (x : Domain) : (s.setDomain d x).cells = s.cells := rfl
@[simp] theorem State.setDomain_trip (d : Nat) (x : Domain) : (s.setDomain d x).trip = s.trip := rfl
@[simp] theorem State.setDomain_cipher (d : Nat) (x : Domain) : (s.setDomain d x).cipher = s.cipher := rfl
@[simp] theorem State.setDomain_checkParts (d : Nat) (x : Domain) : (s.setDomain d x).checkParts = s.checkParts := rfl
@[simp] theorem State.setDomain_ring (d : Nat) (x : Domain) : (s.setDomain d x).ring = s.ring := rfl
@[simp] theorem State.setDomain_sensing (d : Nat) (x : Domain) : (s.setDomain d x).sensing = s.sensing := rfl
@[simp] theorem State.setDomain_sup (d : Nat) (x : Domain) : (s.setDomain d x).sup = s.sup := rfl
@[simp] theorem State.setDomain_rst_powered (d : Nat) (x : Domain) : (s.setDomain d x).rst.powered = s.rst.powered := rfl
@[simp] theorem State.setDomain_rst_connected (d : Nat) (x : Domain) : (s.setDomain d x).rst.connected = s.rst.connected := rfl
@[simp] theorem State.setDomain_rst_sequence (d : Nat) (x : Domain) : (s.setDomain d x).rst.sequence = s.rst.sequence := rfl
@[simp] theorem State.setDomain_rst_sequenceAt (d : Nat) (x : Domain) : (s.setDomain d x).rst.sequenceAt = s.rst.sequenceAt := rfl
@[simp] theorem State.setDomain_rst_requested (d : Nat) (x : Domain) : (s.setDomain d x).rst.requested = s.rst.requested := rfl
@[simp] theorem State.setDomain_rst_cause (d : Nat) (x : Domain) : (s.setDomain d x).rst.cause = s.rst.cause := rfl
@[simp] theorem State.setDomain_rst_kind (d : Nat) (x : Domain) : (s.setDomain d x).rst.kind = s.rst.kind := rfl
@[simp] theorem State.setDomain_rst_thermalHold (d : Nat) (x : Domain) : (s.setDomain d x).rst.thermalHold = s.rst.thermalHold := rfl
@[simp] theorem State.setDomain_rst_lockout (d : Nat) (x : Domain) : (s.setDomain d x).rst.lockout = s.rst.lockout := rfl
@[simp] theorem State.setDomain_rst_fullAt (d : Nat) (x : Domain) : (s.setDomain d x).rst.fullAt = s.rst.fullAt := rfl
@[simp] theorem State.setDomain_rst_watchdogAt (d : Nat) (x : Domain) : (s.setDomain d x).rst.watchdogAt = s.rst.watchdogAt := rfl
@[simp] theorem State.setDomain_rst_d01At (d : Nat) (x : Domain) : (s.setDomain d x).rst.d01At = s.rst.d01At := rfl
@[simp] theorem State.setDomain_rst_d01Early (d : Nat) (x : Domain) : (s.setDomain d x).rst.d01Early = s.rst.d01Early := rfl
@[simp] theorem State.setDomain_rst_bootBank (d : Nat) (x : Domain) : (s.setDomain d x).rst.bootBank = s.rst.bootBank := rfl
@[simp] theorem State.setDomain_rst_bootResult (d : Nat) (x : Domain) : (s.setDomain d x).rst.bootResult = s.rst.bootResult := rfl
@[simp] theorem State.setDomain_rst_bootMs (d : Nat) (x : Domain) : (s.setDomain d x).rst.bootMs = s.rst.bootMs := rfl
@[simp] theorem State.setDomain_rst_bootAt (d : Nat) (x : Domain) : (s.setDomain d x).rst.bootAt = s.rst.bootAt := rfl
@[simp] theorem State.setDomain_rst_bootReady (d : Nat) (x : Domain) : (s.setDomain d x).rst.bootReady = s.rst.bootReady := rfl
@[simp] theorem State.setDomain_rst_bootImage (d : Nat) (x : Domain) : (s.setDomain d x).rst.bootImage = s.rst.bootImage := rfl
@[simp] theorem State.setDomain_rst_committed (d : Nat) (x : Domain) : (s.setDomain d x).rst.committed = s.rst.committed := rfl
@[simp] theorem State.setDomain_rst_recovery (d : Nat) (x : Domain) : (s.setDomain d x).rst.recovery = s.rst.recovery := rfl
@[simp] theorem State.setDomain_rst_reload (d : Nat) (x : Domain) : (s.setDomain d x).rst.reload = s.rst.reload := rfl
@[simp] theorem State.setDomain_rst_preferred (d : Nat) (x : Domain) : (s.setDomain d x).rst.preferred = s.rst.preferred := rfl
@[simp] theorem State.setDomain_rst_keyHash (d : Nat) (x : Domain) : (s.setDomain d x).rst.keyHash = s.rst.keyHash := rfl
@[simp] theorem State.setDomain_rst_release (d : Nat) (x : Domain) : (s.setDomain d x).rst.release = s.rst.release := rfl
@[simp] theorem State.setDomain_rst_extractAt (d : Nat) (x : Domain) : (s.setDomain d x).rst.extractAt = s.rst.extractAt := rfl
@[simp] theorem State.setDomain_rst_extracted (d : Nat) (x : Domain) : (s.setDomain d x).rst.extracted = s.rst.extracted := rfl
@[simp] theorem State.setDomain_rst_extractSafe (d : Nat) (x : Domain) : (s.setDomain d x).rst.extractSafe = s.rst.extractSafe := rfl
@[simp] theorem State.setDomain_rst_bankA (d : Nat) (x : Domain) : (s.setDomain d x).rst.bankA = s.rst.bankA := rfl
@[simp] theorem State.setDomain_rst_bankB (d : Nat) (x : Domain) : (s.setDomain d x).rst.bankB = s.rst.bankB := rfl
@[simp] theorem State.setDomain_rst_saving (d : Nat) (x : Domain) : (s.setDomain d x).rst.saving = s.rst.saving := rfl
@[simp] theorem State.setDomain_rst_backup (d : Nat) (x : Domain) : (s.setDomain d x).rst.backup = s.rst.backup := rfl
@[simp] theorem State.setDomain_rst_flashAgeing (d : Nat) (x : Domain) : (s.setDomain d x).rst.flashAgeing = s.rst.flashAgeing := rfl
@[simp] theorem State.setDomain_rst_flashSubstitutions (d : Nat) (x : Domain) : (s.setDomain d x).rst.flashSubstitutions = s.rst.flashSubstitutions := rfl
@[simp] theorem State.setDomain_rst_flashAt (d : Nat) (x : Domain) : (s.setDomain d x).rst.flashAt = s.rst.flashAt := rfl
@[simp] theorem State.setDomain_raw (d : Nat) (x : Domain) (k : Nat) : (s.setDomain d x).raw k = s.raw k := rfl
@[simp] theorem State.setDomain_val (d : Nat) (x : Domain) (i j : Nat) : (s.setDomain d x).val i j = s.val i j := rfl
@[simp] theorem State.setDomain_pval (d : Nat) (x : Domain) (q i j : Nat) : (s.setDomain d x).pval q i j = s.pval q i j := rfl
@[simp] theorem State.setDomain_lval (d : Nat) (x : Domain) (q k i j : Nat) : (s.setDomain d x).lval q k i j = s.lval q k i j := rfl
@[simp] theorem State.setDomain_flag (d : Nat) (x : Domain) (i j : Nat) : (s.setDomain d x).flag i j = s.flag i j := rfl
@[simp] theorem State.setDomain_beat (d : Nat) (x : Domain) : (s.setDomain d x).beat = s.beat := rfl
@[simp] theorem State.setDomain_blocks (d : Nat) (x : Domain) : (s.setDomain d x).blocks = s.blocks := rfl
@[simp] theorem State.setDomain_block (d : Nat) (x : Domain) (q k : Nat) : (s.setDomain d x).block q k = s.block q k := rfl
@[simp] theorem State.setDomain_held (d : Nat) (x : Domain) (q k : Nat) : (s.setDomain d x).held q k = s.held q k := rfl
@[simp] theorem State.setDomain_port (d : Nat) (x : Domain) (q : Nat) : (s.setDomain d x).port q = s.port q := rfl
@[simp] theorem State.setDomain_hasPort (d : Nat) (x : Domain) (q : Nat) : (s.setDomain d x).hasPort q = s.hasPort q := rfl
@[simp] theorem State.setDomain_echo (d : Nat) (x : Domain) (q : Nat) (c : Band) : (s.setDomain d x).echo q c = s.echo q c := rfl
@[simp] theorem State.setDomain_lane (d : Nat) (x : Domain) (q k : Nat) : (s.setDomain d x).lane q k = s.lane q k := rfl
@[simp] theorem State.setDomain_page (d : Nat) (x : Domain) (q : Nat) : (s.setDomain d x).page q = s.page q := rfl
@[simp] theorem State.setDomain_spool (d : Nat) (x : Domain) (q : Nat) : (s.setDomain d x).spool q = s.spool q := rfl
@[simp] theorem State.setDomain_packet (d : Nat) (x : Domain) (q : Nat) : (s.setDomain d x).packet q = s.packet q := rfl
@[simp] theorem State.setDomain_route (d : Nat) (x : Domain) (q : Nat) : (s.setDomain d x).route q = s.route q := rfl
@[simp] theorem State.setDomain_link (d : Nat) (x : Domain) (q : Nat) : (s.setDomain d x).link q = s.link q := rfl
@[simp] theorem State.setDomain_node (d : Nat) (x : Domain) (q : Nat) : (s.setDomain d x).node q = s.node q := rfl
@[simp] theorem State.setDomain_cell (d : Nat) (x : Domain) (q : Nat) : (s.setDomain d x).cell q = s.cell q := rfl
@[simp] theorem State.setDomain_slot (d : Nat) (x : Domain) (q : Nat) : (s.setDomain d x).slot q = s.slot q := rfl
@[simp] theorem State.setDomain_channel (d : Nat) (x : Domain) (q : Nat) : (s.setDomain d x).channel q = s.channel q := rfl
@[simp] theorem State.setDomain_unit (d : Nat) (x : Domain) (q : Nat) : (s.setDomain d x).unit q = s.unit q := rfl

/-! ## setChannel -/

@[simp] theorem State.setChannel_variant (m : Nat) (x : Channel) : (s.setChannel m x).variant = s.variant := rfl
@[simp] theorem State.setChannel_tsc (m : Nat) (x : Channel) : (s.setChannel m x).tsc = s.tsc := rfl
@[simp] theorem State.setChannel_pending (m : Nat) (x : Channel) : (s.setChannel m x).pending = s.pending := rfl
@[simp] theorem State.setChannel_free (m : Nat) (x : Channel) : (s.setChannel m x).free = s.free := rfl
@[simp] theorem State.setChannel_out (m : Nat) (x : Channel) : (s.setChannel m x).out = s.out := rfl
@[simp] theorem State.setChannel_dict (m : Nat) (x : Channel) : (s.setChannel m x).dict = s.dict := rfl
@[simp] theorem State.setChannel_written (m : Nat) (x : Channel) : (s.setChannel m x).written = s.written := rfl
@[simp] theorem State.setChannel_hier (m : Nat) (x : Channel) : (s.setChannel m x).hier = s.hier := rfl
@[simp] theorem State.setChannel_mgr (m : Nat) (x : Channel) : (s.setChannel m x).mgr = s.mgr := rfl
@[simp] theorem State.setChannel_time (m : Nat) (x : Channel) : (s.setChannel m x).time = s.time := rfl
@[simp] theorem State.setChannel_tether (m : Nat) (x : Channel) : (s.setChannel m x).tether = s.tether := rfl
@[simp] theorem State.setChannel_log (m : Nat) (x : Channel) : (s.setChannel m x).log = s.log := rfl
@[simp] theorem State.setChannel_ports (m : Nat) (x : Channel) : (s.setChannel m x).ports = s.ports := rfl
@[simp] theorem State.setChannel_echoes (m : Nat) (x : Channel) : (s.setChannel m x).echoes = s.echoes := rfl
@[simp] theorem State.setChannel_lanes (m : Nat) (x : Channel) : (s.setChannel m x).lanes = s.lanes := rfl
@[simp] theorem State.setChannel_spools (m : Nat) (x : Channel) : (s.setChannel m x).spools = s.spools := rfl
@[simp] theorem State.setChannel_pages (m : Nat) (x : Channel) : (s.setChannel m x).pages = s.pages := rfl
@[simp] theorem State.setChannel_routes (m : Nat) (x : Channel) : (s.setChannel m x).routes = s.routes := rfl
@[simp] theorem State.setChannel_cells (m : Nat) (x : Channel) : (s.setChannel m x).cells = s.cells := rfl
@[simp] theorem State.setChannel_trip (m : Nat) (x : Channel) : (s.setChannel m x).trip = s.trip := rfl
@[simp] theorem State.setChannel_cipher (m : Nat) (x : Channel) : (s.setChannel m x).cipher = s.cipher := rfl
@[simp] theorem State.setChannel_checkParts (m : Nat) (x : Channel) : (s.setChannel m x).checkParts = s.checkParts := rfl
@[simp] theorem State.setChannel_ring (m : Nat) (x : Channel) : (s.setChannel m x).ring = s.ring := rfl
@[simp] theorem State.setChannel_rst (m : Nat) (x : Channel) : (s.setChannel m x).rst = s.rst := rfl
@[simp] theorem State.setChannel_sup (m : Nat) (x : Channel) : (s.setChannel m x).sup = s.sup := rfl
@[simp] theorem State.setChannel_sensing_generators (m : Nat) (x : Channel) : (s.setChannel m x).sensing.generators = s.sensing.generators := rfl
@[simp] theorem State.setChannel_sensing_switches (m : Nat) (x : Channel) : (s.setChannel m x).sensing.switches = s.sensing.switches := rfl
@[simp] theorem State.setChannel_sensing_outputs (m : Nat) (x : Channel) : (s.setChannel m x).sensing.outputs = s.sensing.outputs := rfl
@[simp] theorem State.setChannel_sensing_clampFlags (m : Nat) (x : Channel) : (s.setChannel m x).sensing.clampFlags = s.sensing.clampFlags := rfl
@[simp] theorem State.setChannel_sensing_vref (m : Nat) (x : Channel) : (s.setChannel m x).sensing.vref = s.sensing.vref := rfl
@[simp] theorem State.setChannel_raw (m : Nat) (x : Channel) (k : Nat) : (s.setChannel m x).raw k = s.raw k := rfl
@[simp] theorem State.setChannel_val (m : Nat) (x : Channel) (i j : Nat) : (s.setChannel m x).val i j = s.val i j := rfl
@[simp] theorem State.setChannel_pval (m : Nat) (x : Channel) (q i j : Nat) : (s.setChannel m x).pval q i j = s.pval q i j := rfl
@[simp] theorem State.setChannel_lval (m : Nat) (x : Channel) (q k i j : Nat) : (s.setChannel m x).lval q k i j = s.lval q k i j := rfl
@[simp] theorem State.setChannel_flag (m : Nat) (x : Channel) (i j : Nat) : (s.setChannel m x).flag i j = s.flag i j := rfl
@[simp] theorem State.setChannel_beat (m : Nat) (x : Channel) : (s.setChannel m x).beat = s.beat := rfl
@[simp] theorem State.setChannel_blocks (m : Nat) (x : Channel) : (s.setChannel m x).blocks = s.blocks := rfl
@[simp] theorem State.setChannel_block (m : Nat) (x : Channel) (q k : Nat) : (s.setChannel m x).block q k = s.block q k := rfl
@[simp] theorem State.setChannel_held (m : Nat) (x : Channel) (q k : Nat) : (s.setChannel m x).held q k = s.held q k := rfl
@[simp] theorem State.setChannel_port (m : Nat) (x : Channel) (q : Nat) : (s.setChannel m x).port q = s.port q := rfl
@[simp] theorem State.setChannel_hasPort (m : Nat) (x : Channel) (q : Nat) : (s.setChannel m x).hasPort q = s.hasPort q := rfl
@[simp] theorem State.setChannel_echo (m : Nat) (x : Channel) (q : Nat) (c : Band) : (s.setChannel m x).echo q c = s.echo q c := rfl
@[simp] theorem State.setChannel_lane (m : Nat) (x : Channel) (q k : Nat) : (s.setChannel m x).lane q k = s.lane q k := rfl
@[simp] theorem State.setChannel_page (m : Nat) (x : Channel) (q : Nat) : (s.setChannel m x).page q = s.page q := rfl
@[simp] theorem State.setChannel_spool (m : Nat) (x : Channel) (q : Nat) : (s.setChannel m x).spool q = s.spool q := rfl
@[simp] theorem State.setChannel_packet (m : Nat) (x : Channel) (q : Nat) : (s.setChannel m x).packet q = s.packet q := rfl
@[simp] theorem State.setChannel_route (m : Nat) (x : Channel) (q : Nat) : (s.setChannel m x).route q = s.route q := rfl
@[simp] theorem State.setChannel_link (m : Nat) (x : Channel) (q : Nat) : (s.setChannel m x).link q = s.link q := rfl
@[simp] theorem State.setChannel_node (m : Nat) (x : Channel) (q : Nat) : (s.setChannel m x).node q = s.node q := rfl
@[simp] theorem State.setChannel_cell (m : Nat) (x : Channel) (q : Nat) : (s.setChannel m x).cell q = s.cell q := rfl
@[simp] theorem State.setChannel_slot (m : Nat) (x : Channel) (q : Nat) : (s.setChannel m x).slot q = s.slot q := rfl
@[simp] theorem State.setChannel_domain (m : Nat) (x : Channel) (q : Nat) : (s.setChannel m x).domain q = s.domain q := rfl
@[simp] theorem State.setChannel_unit (m : Nat) (x : Channel) (q : Nat) : (s.setChannel m x).unit q = s.unit q := rfl

/-! ## setUnit -/

@[simp] theorem State.setUnit_variant (u : Nat) (x : BallastUnit) : (s.setUnit u x).variant = s.variant := rfl
@[simp] theorem State.setUnit_tsc (u : Nat) (x : BallastUnit) : (s.setUnit u x).tsc = s.tsc := rfl
@[simp] theorem State.setUnit_pending (u : Nat) (x : BallastUnit) : (s.setUnit u x).pending = s.pending := rfl
@[simp] theorem State.setUnit_free (u : Nat) (x : BallastUnit) : (s.setUnit u x).free = s.free := rfl
@[simp] theorem State.setUnit_out (u : Nat) (x : BallastUnit) : (s.setUnit u x).out = s.out := rfl
@[simp] theorem State.setUnit_dict (u : Nat) (x : BallastUnit) : (s.setUnit u x).dict = s.dict := rfl
@[simp] theorem State.setUnit_written (u : Nat) (x : BallastUnit) : (s.setUnit u x).written = s.written := rfl
@[simp] theorem State.setUnit_hier (u : Nat) (x : BallastUnit) : (s.setUnit u x).hier = s.hier := rfl
@[simp] theorem State.setUnit_mgr (u : Nat) (x : BallastUnit) : (s.setUnit u x).mgr = s.mgr := rfl
@[simp] theorem State.setUnit_time (u : Nat) (x : BallastUnit) : (s.setUnit u x).time = s.time := rfl
@[simp] theorem State.setUnit_tether (u : Nat) (x : BallastUnit) : (s.setUnit u x).tether = s.tether := rfl
@[simp] theorem State.setUnit_log (u : Nat) (x : BallastUnit) : (s.setUnit u x).log = s.log := rfl
@[simp] theorem State.setUnit_ports (u : Nat) (x : BallastUnit) : (s.setUnit u x).ports = s.ports := rfl
@[simp] theorem State.setUnit_echoes (u : Nat) (x : BallastUnit) : (s.setUnit u x).echoes = s.echoes := rfl
@[simp] theorem State.setUnit_lanes (u : Nat) (x : BallastUnit) : (s.setUnit u x).lanes = s.lanes := rfl
@[simp] theorem State.setUnit_spools (u : Nat) (x : BallastUnit) : (s.setUnit u x).spools = s.spools := rfl
@[simp] theorem State.setUnit_pages (u : Nat) (x : BallastUnit) : (s.setUnit u x).pages = s.pages := rfl
@[simp] theorem State.setUnit_routes (u : Nat) (x : BallastUnit) : (s.setUnit u x).routes = s.routes := rfl
@[simp] theorem State.setUnit_cells (u : Nat) (x : BallastUnit) : (s.setUnit u x).cells = s.cells := rfl
@[simp] theorem State.setUnit_trip (u : Nat) (x : BallastUnit) : (s.setUnit u x).trip = s.trip := rfl
@[simp] theorem State.setUnit_cipher (u : Nat) (x : BallastUnit) : (s.setUnit u x).cipher = s.cipher := rfl
@[simp] theorem State.setUnit_checkParts (u : Nat) (x : BallastUnit) : (s.setUnit u x).checkParts = s.checkParts := rfl
@[simp] theorem State.setUnit_ring (u : Nat) (x : BallastUnit) : (s.setUnit u x).ring = s.ring := rfl
@[simp] theorem State.setUnit_sensing (u : Nat) (x : BallastUnit) : (s.setUnit u x).sensing = s.sensing := rfl
@[simp] theorem State.setUnit_rst (u : Nat) (x : BallastUnit) : (s.setUnit u x).rst = s.rst := rfl
@[simp] theorem State.setUnit_sup_shed (u : Nat) (x : BallastUnit) : (s.setUnit u x).sup.shed = s.sup.shed := rfl
@[simp] theorem State.setUnit_sup_requests (u : Nat) (x : BallastUnit) : (s.setUnit u x).sup.requests = s.sup.requests := rfl
@[simp] theorem State.setUnit_sup_running (u : Nat) (x : BallastUnit) : (s.setUnit u x).sup.running = s.sup.running := rfl
@[simp] theorem State.setUnit_sup_copied (u : Nat) (x : BallastUnit) : (s.setUnit u x).sup.copied = s.sup.copied := rfl
@[simp] theorem State.setUnit_sup_testedAt (u : Nat) (x : BallastUnit) : (s.setUnit u x).sup.testedAt = s.sup.testedAt := rfl
@[simp] theorem State.setUnit_sup_ageing (u : Nat) (x : BallastUnit) : (s.setUnit u x).sup.ageing = s.sup.ageing := rfl
@[simp] theorem State.setUnit_sup_measuredAt (u : Nat) (x : BallastUnit) : (s.setUnit u x).sup.measuredAt = s.sup.measuredAt := rfl
@[simp] theorem State.setUnit_sup_selfTestFailed (u : Nat) (x : BallastUnit) : (s.setUnit u x).sup.selfTestFailed = s.sup.selfTestFailed := rfl
@[simp] theorem State.setUnit_raw (u : Nat) (x : BallastUnit) (k : Nat) : (s.setUnit u x).raw k = s.raw k := rfl
@[simp] theorem State.setUnit_val (u : Nat) (x : BallastUnit) (i j : Nat) : (s.setUnit u x).val i j = s.val i j := rfl
@[simp] theorem State.setUnit_pval (u : Nat) (x : BallastUnit) (q i j : Nat) : (s.setUnit u x).pval q i j = s.pval q i j := rfl
@[simp] theorem State.setUnit_lval (u : Nat) (x : BallastUnit) (q k i j : Nat) : (s.setUnit u x).lval q k i j = s.lval q k i j := rfl
@[simp] theorem State.setUnit_flag (u : Nat) (x : BallastUnit) (i j : Nat) : (s.setUnit u x).flag i j = s.flag i j := rfl
@[simp] theorem State.setUnit_beat (u : Nat) (x : BallastUnit) : (s.setUnit u x).beat = s.beat := rfl
@[simp] theorem State.setUnit_blocks (u : Nat) (x : BallastUnit) : (s.setUnit u x).blocks = s.blocks := rfl
@[simp] theorem State.setUnit_block (u : Nat) (x : BallastUnit) (q k : Nat) : (s.setUnit u x).block q k = s.block q k := rfl
@[simp] theorem State.setUnit_held (u : Nat) (x : BallastUnit) (q k : Nat) : (s.setUnit u x).held q k = s.held q k := rfl
@[simp] theorem State.setUnit_port (u : Nat) (x : BallastUnit) (q : Nat) : (s.setUnit u x).port q = s.port q := rfl
@[simp] theorem State.setUnit_hasPort (u : Nat) (x : BallastUnit) (q : Nat) : (s.setUnit u x).hasPort q = s.hasPort q := rfl
@[simp] theorem State.setUnit_echo (u : Nat) (x : BallastUnit) (q : Nat) (c : Band) : (s.setUnit u x).echo q c = s.echo q c := rfl
@[simp] theorem State.setUnit_lane (u : Nat) (x : BallastUnit) (q k : Nat) : (s.setUnit u x).lane q k = s.lane q k := rfl
@[simp] theorem State.setUnit_page (u : Nat) (x : BallastUnit) (q : Nat) : (s.setUnit u x).page q = s.page q := rfl
@[simp] theorem State.setUnit_spool (u : Nat) (x : BallastUnit) (q : Nat) : (s.setUnit u x).spool q = s.spool q := rfl
@[simp] theorem State.setUnit_packet (u : Nat) (x : BallastUnit) (q : Nat) : (s.setUnit u x).packet q = s.packet q := rfl
@[simp] theorem State.setUnit_route (u : Nat) (x : BallastUnit) (q : Nat) : (s.setUnit u x).route q = s.route q := rfl
@[simp] theorem State.setUnit_link (u : Nat) (x : BallastUnit) (q : Nat) : (s.setUnit u x).link q = s.link q := rfl
@[simp] theorem State.setUnit_node (u : Nat) (x : BallastUnit) (q : Nat) : (s.setUnit u x).node q = s.node q := rfl
@[simp] theorem State.setUnit_cell (u : Nat) (x : BallastUnit) (q : Nat) : (s.setUnit u x).cell q = s.cell q := rfl
@[simp] theorem State.setUnit_slot (u : Nat) (x : BallastUnit) (q : Nat) : (s.setUnit u x).slot q = s.slot q := rfl
@[simp] theorem State.setUnit_domain (u : Nat) (x : BallastUnit) (q : Nat) : (s.setUnit u x).domain q = s.domain q := rfl
@[simp] theorem State.setUnit_channel (u : Nat) (x : BallastUnit) (q : Nat) : (s.setUnit u x).channel q = s.channel q := rfl

/-! ## wearBy -/

@[simp] theorem State.wearBy_variant (idx sub place n : Nat) : (s.wearBy idx sub place n).variant = s.variant := rfl
@[simp] theorem State.wearBy_tsc (idx sub place n : Nat) : (s.wearBy idx sub place n).tsc = s.tsc := rfl
@[simp] theorem State.wearBy_pending (idx sub place n : Nat) : (s.wearBy idx sub place n).pending = s.pending := rfl
@[simp] theorem State.wearBy_free (idx sub place n : Nat) : (s.wearBy idx sub place n).free = s.free := rfl
@[simp] theorem State.wearBy_out (idx sub place n : Nat) : (s.wearBy idx sub place n).out = s.out := rfl
@[simp] theorem State.wearBy_dict (idx sub place n : Nat) : (s.wearBy idx sub place n).dict = s.dict := rfl
@[simp] theorem State.wearBy_written (idx sub place n : Nat) : (s.wearBy idx sub place n).written = s.written := rfl
@[simp] theorem State.wearBy_hier (idx sub place n : Nat) : (s.wearBy idx sub place n).hier = s.hier := rfl
@[simp] theorem State.wearBy_mgr (idx sub place n : Nat) : (s.wearBy idx sub place n).mgr = s.mgr := rfl
@[simp] theorem State.wearBy_time (idx sub place n : Nat) : (s.wearBy idx sub place n).time = s.time := rfl
@[simp] theorem State.wearBy_tether (idx sub place n : Nat) : (s.wearBy idx sub place n).tether = s.tether := rfl
@[simp] theorem State.wearBy_log (idx sub place n : Nat) : (s.wearBy idx sub place n).log = s.log := rfl
@[simp] theorem State.wearBy_ports (idx sub place n : Nat) : (s.wearBy idx sub place n).ports = s.ports := rfl
@[simp] theorem State.wearBy_echoes (idx sub place n : Nat) : (s.wearBy idx sub place n).echoes = s.echoes := rfl
@[simp] theorem State.wearBy_lanes (idx sub place n : Nat) : (s.wearBy idx sub place n).lanes = s.lanes := rfl
@[simp] theorem State.wearBy_spools (idx sub place n : Nat) : (s.wearBy idx sub place n).spools = s.spools := rfl
@[simp] theorem State.wearBy_pages (idx sub place n : Nat) : (s.wearBy idx sub place n).pages = s.pages := rfl
@[simp] theorem State.wearBy_routes (idx sub place n : Nat) : (s.wearBy idx sub place n).routes = s.routes := rfl
@[simp] theorem State.wearBy_cells (idx sub place n : Nat) : (s.wearBy idx sub place n).cells = s.cells := rfl
@[simp] theorem State.wearBy_trip (idx sub place n : Nat) : (s.wearBy idx sub place n).trip = s.trip := rfl
@[simp] theorem State.wearBy_cipher (idx sub place n : Nat) : (s.wearBy idx sub place n).cipher = s.cipher := rfl
@[simp] theorem State.wearBy_checkParts (idx sub place n : Nat) : (s.wearBy idx sub place n).checkParts = s.checkParts := rfl
@[simp] theorem State.wearBy_ring (idx sub place n : Nat) : (s.wearBy idx sub place n).ring = s.ring := rfl
@[simp] theorem State.wearBy_sensing (idx sub place n : Nat) : (s.wearBy idx sub place n).sensing = s.sensing := rfl
@[simp] theorem State.wearBy_rst (idx sub place n : Nat) : (s.wearBy idx sub place n).rst = s.rst := rfl
@[simp] theorem State.wearBy_sup_shed (idx sub place n : Nat) : (s.wearBy idx sub place n).sup.shed = s.sup.shed := rfl
@[simp] theorem State.wearBy_sup_units (idx sub place n : Nat) : (s.wearBy idx sub place n).sup.units = s.sup.units := rfl
@[simp] theorem State.wearBy_sup_requests (idx sub place n : Nat) : (s.wearBy idx sub place n).sup.requests = s.sup.requests := rfl
@[simp] theorem State.wearBy_sup_running (idx sub place n : Nat) : (s.wearBy idx sub place n).sup.running = s.sup.running := rfl
@[simp] theorem State.wearBy_sup_copied (idx sub place n : Nat) : (s.wearBy idx sub place n).sup.copied = s.sup.copied := rfl
@[simp] theorem State.wearBy_sup_testedAt (idx sub place n : Nat) : (s.wearBy idx sub place n).sup.testedAt = s.sup.testedAt := rfl
@[simp] theorem State.wearBy_sup_measuredAt (idx sub place n : Nat) : (s.wearBy idx sub place n).sup.measuredAt = s.sup.measuredAt := rfl
@[simp] theorem State.wearBy_sup_selfTestFailed (idx sub place n : Nat) : (s.wearBy idx sub place n).sup.selfTestFailed = s.sup.selfTestFailed := rfl
@[simp] theorem State.wearBy_raw (idx sub place n : Nat) (k : Nat) : (s.wearBy idx sub place n).raw k = s.raw k := rfl
@[simp] theorem State.wearBy_val (idx sub place n : Nat) (i j : Nat) : (s.wearBy idx sub place n).val i j = s.val i j := rfl
@[simp] theorem State.wearBy_pval (idx sub place n : Nat) (q i j : Nat) : (s.wearBy idx sub place n).pval q i j = s.pval q i j := rfl
@[simp] theorem State.wearBy_lval (idx sub place n : Nat) (q k i j : Nat) : (s.wearBy idx sub place n).lval q k i j = s.lval q k i j := rfl
@[simp] theorem State.wearBy_flag (idx sub place n : Nat) (i j : Nat) : (s.wearBy idx sub place n).flag i j = s.flag i j := rfl
@[simp] theorem State.wearBy_beat (idx sub place n : Nat) : (s.wearBy idx sub place n).beat = s.beat := rfl
@[simp] theorem State.wearBy_blocks (idx sub place n : Nat) : (s.wearBy idx sub place n).blocks = s.blocks := rfl
@[simp] theorem State.wearBy_block (idx sub place n : Nat) (q k : Nat) : (s.wearBy idx sub place n).block q k = s.block q k := rfl
@[simp] theorem State.wearBy_held (idx sub place n : Nat) (q k : Nat) : (s.wearBy idx sub place n).held q k = s.held q k := rfl
@[simp] theorem State.wearBy_port (idx sub place n : Nat) (q : Nat) : (s.wearBy idx sub place n).port q = s.port q := rfl
@[simp] theorem State.wearBy_hasPort (idx sub place n : Nat) (q : Nat) : (s.wearBy idx sub place n).hasPort q = s.hasPort q := rfl
@[simp] theorem State.wearBy_echo (idx sub place n : Nat) (q : Nat) (c : Band) : (s.wearBy idx sub place n).echo q c = s.echo q c := rfl
@[simp] theorem State.wearBy_lane (idx sub place n : Nat) (q k : Nat) : (s.wearBy idx sub place n).lane q k = s.lane q k := rfl
@[simp] theorem State.wearBy_page (idx sub place n : Nat) (q : Nat) : (s.wearBy idx sub place n).page q = s.page q := rfl
@[simp] theorem State.wearBy_spool (idx sub place n : Nat) (q : Nat) : (s.wearBy idx sub place n).spool q = s.spool q := rfl
@[simp] theorem State.wearBy_packet (idx sub place n : Nat) (q : Nat) : (s.wearBy idx sub place n).packet q = s.packet q := rfl
@[simp] theorem State.wearBy_route (idx sub place n : Nat) (q : Nat) : (s.wearBy idx sub place n).route q = s.route q := rfl
@[simp] theorem State.wearBy_link (idx sub place n : Nat) (q : Nat) : (s.wearBy idx sub place n).link q = s.link q := rfl
@[simp] theorem State.wearBy_node (idx sub place n : Nat) (q : Nat) : (s.wearBy idx sub place n).node q = s.node q := rfl
@[simp] theorem State.wearBy_cell (idx sub place n : Nat) (q : Nat) : (s.wearBy idx sub place n).cell q = s.cell q := rfl
@[simp] theorem State.wearBy_slot (idx sub place n : Nat) (q : Nat) : (s.wearBy idx sub place n).slot q = s.slot q := rfl
@[simp] theorem State.wearBy_domain (idx sub place n : Nat) (q : Nat) : (s.wearBy idx sub place n).domain q = s.domain q := rfl
@[simp] theorem State.wearBy_channel (idx sub place n : Nat) (q : Nat) : (s.wearBy idx sub place n).channel q = s.channel q := rfl
@[simp] theorem State.wearBy_unit (idx sub place n : Nat) (q : Nat) : (s.wearBy idx sub place n).unit q = s.unit q := rfl

/-! ## setRingPort -/

@[simp] theorem State.setRingPort_variant (d : Side) (x : RingPort) : (s.setRingPort d x).variant = s.variant := by cases d <;> rfl
@[simp] theorem State.setRingPort_tsc (d : Side) (x : RingPort) : (s.setRingPort d x).tsc = s.tsc := by cases d <;> rfl
@[simp] theorem State.setRingPort_pending (d : Side) (x : RingPort) : (s.setRingPort d x).pending = s.pending := by cases d <;> rfl
@[simp] theorem State.setRingPort_free (d : Side) (x : RingPort) : (s.setRingPort d x).free = s.free := by cases d <;> rfl
@[simp] theorem State.setRingPort_out (d : Side) (x : RingPort) : (s.setRingPort d x).out = s.out := by cases d <;> rfl
@[simp] theorem State.setRingPort_dict (d : Side) (x : RingPort) : (s.setRingPort d x).dict = s.dict := by cases d <;> rfl
@[simp] theorem State.setRingPort_written (d : Side) (x : RingPort) : (s.setRingPort d x).written = s.written := by cases d <;> rfl
@[simp] theorem State.setRingPort_hier (d : Side) (x : RingPort) : (s.setRingPort d x).hier = s.hier := by cases d <;> rfl
@[simp] theorem State.setRingPort_mgr (d : Side) (x : RingPort) : (s.setRingPort d x).mgr = s.mgr := by cases d <;> rfl
@[simp] theorem State.setRingPort_time (d : Side) (x : RingPort) : (s.setRingPort d x).time = s.time := by cases d <;> rfl
@[simp] theorem State.setRingPort_tether (d : Side) (x : RingPort) : (s.setRingPort d x).tether = s.tether := by cases d <;> rfl
@[simp] theorem State.setRingPort_log (d : Side) (x : RingPort) : (s.setRingPort d x).log = s.log := by cases d <;> rfl
@[simp] theorem State.setRingPort_ports (d : Side) (x : RingPort) : (s.setRingPort d x).ports = s.ports := by cases d <;> rfl
@[simp] theorem State.setRingPort_echoes (d : Side) (x : RingPort) : (s.setRingPort d x).echoes = s.echoes := by cases d <;> rfl
@[simp] theorem State.setRingPort_lanes (d : Side) (x : RingPort) : (s.setRingPort d x).lanes = s.lanes := by cases d <;> rfl
@[simp] theorem State.setRingPort_spools (d : Side) (x : RingPort) : (s.setRingPort d x).spools = s.spools := by cases d <;> rfl
@[simp] theorem State.setRingPort_pages (d : Side) (x : RingPort) : (s.setRingPort d x).pages = s.pages := by cases d <;> rfl
@[simp] theorem State.setRingPort_routes (d : Side) (x : RingPort) : (s.setRingPort d x).routes = s.routes := by cases d <;> rfl
@[simp] theorem State.setRingPort_cells (d : Side) (x : RingPort) : (s.setRingPort d x).cells = s.cells := by cases d <;> rfl
@[simp] theorem State.setRingPort_trip (d : Side) (x : RingPort) : (s.setRingPort d x).trip = s.trip := by cases d <;> rfl
@[simp] theorem State.setRingPort_cipher (d : Side) (x : RingPort) : (s.setRingPort d x).cipher = s.cipher := by cases d <;> rfl
@[simp] theorem State.setRingPort_checkParts (d : Side) (x : RingPort) : (s.setRingPort d x).checkParts = s.checkParts := by cases d <;> rfl
@[simp] theorem State.setRingPort_sensing (d : Side) (x : RingPort) : (s.setRingPort d x).sensing = s.sensing := by cases d <;> rfl
@[simp] theorem State.setRingPort_rst (d : Side) (x : RingPort) : (s.setRingPort d x).rst = s.rst := by cases d <;> rfl
@[simp] theorem State.setRingPort_sup (d : Side) (x : RingPort) : (s.setRingPort d x).sup = s.sup := by cases d <;> rfl
@[simp] theorem State.setRingPort_ring_state (d : Side) (x : RingPort) : (s.setRingPort d x).ring.state = s.ring.state := by cases d <;> rfl
@[simp] theorem State.setRingPort_ring_stays (d : Side) (x : RingPort) : (s.setRingPort d x).ring.stays = s.ring.stays := by cases d <;> rfl
@[simp] theorem State.setRingPort_ring_inserted (d : Side) (x : RingPort) : (s.setRingPort d x).ring.inserted = s.ring.inserted := by cases d <;> rfl
@[simp] theorem State.setRingPort_ring_ke (d : Side) (x : RingPort) : (s.setRingPort d x).ring.ke = s.ring.ke := by cases d <;> rfl
@[simp] theorem State.setRingPort_ring_kw (d : Side) (x : RingPort) : (s.setRingPort d x).ring.kw = s.ring.kw := by cases d <;> rfl
@[simp] theorem State.setRingPort_ring_commandAt (d : Side) (x : RingPort) : (s.setRingPort d x).ring.commandAt = s.ring.commandAt := by cases d <;> rfl
@[simp] theorem State.setRingPort_ring_steadyAt (d : Side) (x : RingPort) : (s.setRingPort d x).ring.steadyAt = s.ring.steadyAt := by cases d <;> rfl
@[simp] theorem State.setRingPort_ring_steady (d : Side) (x : RingPort) : (s.setRingPort d x).ring.steady = s.ring.steady := by cases d <;> rfl
@[simp] theorem State.setRingPort_ring_insertBeat (d : Side) (x : RingPort) : (s.setRingPort d x).ring.insertBeat = s.ring.insertBeat := by cases d <;> rfl
@[simp] theorem State.setRingPort_ring_insertingAt (d : Side) (x : RingPort) : (s.setRingPort d x).ring.insertingAt = s.ring.insertingAt := by cases d <;> rfl
@[simp] theorem State.setRingPort_ring_attempts (d : Side) (x : RingPort) : (s.setRingPort d x).ring.attempts = s.ring.attempts := by cases d <;> rfl
@[simp] theorem State.setRingPort_ring_intervalAt (d : Side) (x : RingPort) : (s.setRingPort d x).ring.intervalAt = s.ring.intervalAt := by cases d <;> rfl
@[simp] theorem State.setRingPort_ring_bothDownAt (d : Side) (x : RingPort) : (s.setRingPort d x).ring.bothDownAt = s.ring.bothDownAt := by cases d <;> rfl
@[simp] theorem State.setRingPort_ring_duplicates (d : Side) (x : RingPort) : (s.setRingPort d x).ring.duplicates = s.ring.duplicates := by cases d <;> rfl
@[simp] theorem State.setRingPort_ring_sequence (d : Side) (x : RingPort) : (s.setRingPort d x).ring.sequence = s.ring.sequence := by cases d <;> rfl
@[simp] theorem State.setRingPort_ring_supervisedAt (d : Side) (x : RingPort) : (s.setRingPort d x).ring.supervisedAt = s.ring.supervisedAt := by cases d <;> rfl
@[simp] theorem State.setRingPort_ring_ptpPort (d : Side) (x : RingPort) : (s.setRingPort d x).ring.ptpPort = s.ring.ptpPort := by cases d <;> rfl
@[simp] theorem State.setRingPort_ring_ptpSequence (d : Side) (x : RingPort) : (s.setRingPort d x).ring.ptpSequence = s.ring.ptpSequence := by cases d <;> rfl
@[simp] theorem State.setRingPort_ring_ballast (d : Side) (x : RingPort) : (s.setRingPort d x).ring.ballast = s.ring.ballast := by cases d <;> rfl
@[simp] theorem State.setRingPort_raw (d : Side) (x : RingPort) (k : Nat) : (s.setRingPort d x).raw k = s.raw k := by cases d <;> rfl
@[simp] theorem State.setRingPort_val (d : Side) (x : RingPort) (i j : Nat) : (s.setRingPort d x).val i j = s.val i j := by cases d <;> rfl
@[simp] theorem State.setRingPort_pval (d : Side) (x : RingPort) (q i j : Nat) : (s.setRingPort d x).pval q i j = s.pval q i j := by cases d <;> rfl
@[simp] theorem State.setRingPort_lval (d : Side) (x : RingPort) (q k i j : Nat) : (s.setRingPort d x).lval q k i j = s.lval q k i j := by cases d <;> rfl
@[simp] theorem State.setRingPort_flag (d : Side) (x : RingPort) (i j : Nat) : (s.setRingPort d x).flag i j = s.flag i j := by cases d <;> rfl
@[simp] theorem State.setRingPort_beat (d : Side) (x : RingPort) : (s.setRingPort d x).beat = s.beat := by cases d <;> rfl
@[simp] theorem State.setRingPort_blocks (d : Side) (x : RingPort) : (s.setRingPort d x).blocks = s.blocks := by cases d <;> rfl
@[simp] theorem State.setRingPort_block (d : Side) (x : RingPort) (q k : Nat) : (s.setRingPort d x).block q k = s.block q k := by cases d <;> rfl
@[simp] theorem State.setRingPort_held (d : Side) (x : RingPort) (q k : Nat) : (s.setRingPort d x).held q k = s.held q k := by cases d <;> rfl
@[simp] theorem State.setRingPort_port (d : Side) (x : RingPort) (q : Nat) : (s.setRingPort d x).port q = s.port q := by cases d <;> rfl
@[simp] theorem State.setRingPort_hasPort (d : Side) (x : RingPort) (q : Nat) : (s.setRingPort d x).hasPort q = s.hasPort q := by cases d <;> rfl
@[simp] theorem State.setRingPort_echo (d : Side) (x : RingPort) (q : Nat) (c : Band) : (s.setRingPort d x).echo q c = s.echo q c := by cases d <;> rfl
@[simp] theorem State.setRingPort_lane (d : Side) (x : RingPort) (q k : Nat) : (s.setRingPort d x).lane q k = s.lane q k := by cases d <;> rfl
@[simp] theorem State.setRingPort_page (d : Side) (x : RingPort) (q : Nat) : (s.setRingPort d x).page q = s.page q := by cases d <;> rfl
@[simp] theorem State.setRingPort_spool (d : Side) (x : RingPort) (q : Nat) : (s.setRingPort d x).spool q = s.spool q := by cases d <;> rfl
@[simp] theorem State.setRingPort_packet (d : Side) (x : RingPort) (q : Nat) : (s.setRingPort d x).packet q = s.packet q := by cases d <;> rfl
@[simp] theorem State.setRingPort_route (d : Side) (x : RingPort) (q : Nat) : (s.setRingPort d x).route q = s.route q := by cases d <;> rfl
@[simp] theorem State.setRingPort_link (d : Side) (x : RingPort) (q : Nat) : (s.setRingPort d x).link q = s.link q := by cases d <;> rfl
@[simp] theorem State.setRingPort_node (d : Side) (x : RingPort) (q : Nat) : (s.setRingPort d x).node q = s.node q := by cases d <;> rfl
@[simp] theorem State.setRingPort_cell (d : Side) (x : RingPort) (q : Nat) : (s.setRingPort d x).cell q = s.cell q := by cases d <;> rfl
@[simp] theorem State.setRingPort_slot (d : Side) (x : RingPort) (q : Nat) : (s.setRingPort d x).slot q = s.slot q := by cases d <;> rfl
@[simp] theorem State.setRingPort_domain (d : Side) (x : RingPort) (q : Nat) : (s.setRingPort d x).domain q = s.domain q := by cases d <;> rfl
@[simp] theorem State.setRingPort_channel (d : Side) (x : RingPort) (q : Nat) : (s.setRingPort d x).channel q = s.channel q := by cases d <;> rfl
@[simp] theorem State.setRingPort_unit (d : Side) (x : RingPort) (q : Nat) : (s.setRingPort d x).unit q = s.unit q := by cases d <;> rfl

/-! ## A read after a write -/

@[simp] theorem State.port_setPort_self (p : Nat) (x : Port) : (s.setPort p x).port p = x :=
  Table.get_put_self _ _ _
theorem State.port_setPort_ne (p : Nat) (x : Port) {q : Nat} (h : q ≠ p) : (s.setPort p x).port q = s.port q :=
  Table.get_put_ne _ _ h
@[simp] theorem State.page_setPage_self (p : Nat) (x : Page) : (s.setPage p x).page p = x :=
  Table.get_put_self _ _ _
theorem State.page_setPage_ne (p : Nat) (x : Page) {q : Nat} (h : q ≠ p) : (s.setPage p x).page q = s.page q :=
  Table.get_put_ne _ _ h
@[simp] theorem State.spool_setSpool_self (p : Nat) (x : Spool) : (s.setSpool p x).spool p = x :=
  Table.get_put_self _ _ _
theorem State.spool_setSpool_ne (p : Nat) (x : Spool) {q : Nat} (h : q ≠ p) : (s.setSpool p x).spool q = s.spool q :=
  Table.get_put_ne _ _ h
@[simp] theorem State.route_setRoute_self (p : Nat) (x : RouteEntry) : (s.setRoute p x).route p = x :=
  Table.get_put_self _ _ _
theorem State.route_setRoute_ne (p : Nat) (x : RouteEntry) {q : Nat} (h : q ≠ p) : (s.setRoute p x).route q = s.route q :=
  Table.get_put_ne _ _ h
@[simp] theorem State.link_setLink_self (p : Nat) (x : Link) : (s.setLink p x).link p = x :=
  Table.get_put_self _ _ _
theorem State.link_setLink_ne (p : Nat) (x : Link) {q : Nat} (h : q ≠ p) : (s.setLink p x).link q = s.link q :=
  Table.get_put_ne _ _ h
@[simp] theorem State.node_setNode_self (p : Nat) (x : Node) : (s.setNode p x).node p = x :=
  Table.get_put_self _ _ _
theorem State.node_setNode_ne (p : Nat) (x : Node) {q : Nat} (h : q ≠ p) : (s.setNode p x).node q = s.node q :=
  Table.get_put_ne _ _ h
@[simp] theorem State.cell_setCell_self (p : Nat) (x : CommandCell) : (s.setCell p x).cell p = x :=
  Table.get_put_self _ _ _
theorem State.cell_setCell_ne (p : Nat) (x : CommandCell) {q : Nat} (h : q ≠ p) : (s.setCell p x).cell q = s.cell q :=
  Table.get_put_ne _ _ h
@[simp] theorem State.slot_setSlot_self (p : Nat) (x : KeySlot) : (s.setSlot p x).slot p = x :=
  Table.get_put_self _ _ _
theorem State.slot_setSlot_ne (p : Nat) (x : KeySlot) {q : Nat} (h : q ≠ p) : (s.setSlot p x).slot q = s.slot q :=
  Table.get_put_ne _ _ h
@[simp] theorem State.domain_setDomain_self (p : Nat) (x : Domain) : (s.setDomain p x).domain p = x :=
  Table.get_put_self _ _ _
theorem State.domain_setDomain_ne (p : Nat) (x : Domain) {q : Nat} (h : q ≠ p) : (s.setDomain p x).domain q = s.domain q :=
  Table.get_put_ne _ _ h
@[simp] theorem State.channel_setChannel_self (p : Nat) (x : Channel) : (s.setChannel p x).channel p = x :=
  Table.get_put_self _ _ _
theorem State.channel_setChannel_ne (p : Nat) (x : Channel) {q : Nat} (h : q ≠ p) : (s.setChannel p x).channel q = s.channel q :=
  Table.get_put_ne _ _ h
@[simp] theorem State.unit_setUnit_self (p : Nat) (x : BallastUnit) : (s.setUnit p x).unit p = x :=
  Table.get_put_self _ _ _
theorem State.unit_setUnit_ne (p : Nat) (x : BallastUnit) {q : Nat} (h : q ≠ p) : (s.setUnit p x).unit q = s.unit q :=
  Table.get_put_ne _ _ h
@[simp] theorem State.block_setBlock_self (r b : Nat) (x : Block) :
    (s.setBlock r b x).block r b = x := Table.get_put_self _ _ _
theorem State.block_setBlock_ne (r b : Nat) (x : Block) {q k : Nat} (h : blockKey q k ≠ blockKey r b) :
    (s.setBlock r b x).block q k = s.block q k := Table.get_put_ne _ _ h
@[simp] theorem State.echo_setEcho_self (p : Nat) (b : Band) (x : Echo) :
    (s.setEcho p b x).echo p b = x := Table.get_put_self _ _ _
theorem State.echo_setEcho_ne (p : Nat) (b : Band) (x : Echo) {q : Nat} {c : Band} (h : 2 * q + bandNo c ≠ 2 * p + bandNo b) :
    (s.setEcho p b x).echo q c = s.echo q c := Table.get_put_ne _ _ h
@[simp] theorem State.lane_setLane_self (p l : Nat) (x : Lane) :
    (s.setLane p l x).lane p l = x := Table.get_put_self _ _ _
theorem State.lane_setLane_ne (p l : Nat) (x : Lane) {q k : Nat} (h : 4 * q + k ≠ 4 * p + l) :
    (s.setLane p l x).lane q k = s.lane q k := Table.get_put_ne _ _ h
@[simp] theorem State.ringPort_setRingPort_self (d : Side) (x : RingPort) : (s.setRingPort d x).ringPort d = x := by cases d <;> rfl
theorem State.ringPort_setRingPort_other (d : Side) (x : RingPort) :
    (s.setRingPort d x).ringPort (otherSide d) = s.ringPort (otherSide d) := by cases d <;> rfl

end Sys2Proof.Machine
end

