-- ==== Sys2Proof/Laws/Keeps.lean ====
section
/-! SUPPORT. What every operation keeps: the variant, the queue of commands, the stand of the TSC (but for a cold start), the canonical
form of the register tables, and every part of the state outside those it may change. -/

set_option Elab.async false

namespace Sys2Proof.Machine

/-- An operation kept what every operation keeps, and every part but `ps`. -/
structure Keeps (ps : List Part) (s t : State) : Prop where
  variant : t.variant = s.variant
  pending : t.pending = s.pending
  tsc : t.tsc = s.tsc ∨ t.tsc = 0
  canonical : s.Canonical → t.Canonical
  frame : Frame ps s t

theorem Frame.refl (ps : List Part) (s : State) : Frame ps s s := fun p _ => by cases p <;> rfl

theorem Frame.trans {ps : List Part} {s t u : State} (h : Frame ps s t) (k : Frame ps t u) : Frame ps s u := fun p hp => by
  have a := h p hp
  have b := k p hp
  cases p <;> exact Eq.trans b a

/-- Fewer changes than allowed. -/
theorem Frame.mono {ps qs : List Part} {s t : State} (h : Frame ps s t) (hq : ∀ p, p ∈ ps → p ∈ qs) : Frame qs s t :=
  fun p hp => h p fun hm => hp (hq p hm)

theorem Keeps.refl (ps : List Part) (s : State) : Keeps ps s s := ⟨rfl, rfl, .inl rfl, id, Frame.refl _ _⟩

theorem Keeps.trans {ps : List Part} {s t u : State} (h : Keeps ps s t) (k : Keeps ps t u) : Keeps ps s u :=
  ⟨k.variant.trans h.variant, k.pending.trans h.pending,
   by rcases k.tsc with e | e
      · rcases h.tsc with f | f
        · exact .inl (e.trans f)
        · exact .inr (e.trans f)
      · exact .inr e, fun c => k.canonical (h.canonical c), h.frame.trans k.frame⟩

/-- An update of anything but the register tables. -/
theorem Keeps.update {ps : List Part} {s u t : State} (h : Keeps ps s u) (variant : t.variant = u.variant) (tsc :
    t.tsc = u.tsc) (pending : t.pending = u.pending) (dict : t.dict = u.dict) (written : t.written = u.written) (blocks :
    t.hier.blocks = u.hier.blocks) (ports : t.ports = u.ports) (echoes : t.echoes = u.echoes) (lanes : t.lanes = u.lanes)
    (pages : t.pages = u.pages) (spools : t.spools.table = u.spools.table) (routes : t.routes.entries = u.routes.entries)
    (links : t.routes.links = u.routes.links) (nodes : t.routes.nodes = u.routes.nodes) (cells : t.cells = u.cells) (slots
    : t.cipher.slots = u.cipher.slots) (domains : t.rst.domains = u.rst.domains) (channels : t.sensing.channels =
    u.sensing.channels) (units : t.sup.units = u.sup.units) (pfree : t.free = u.free ∨ Part.free ∈ ps) (pout : t.out =
    u.out ∨ Part.out ∈ ps) (phier : t.hier = u.hier ∨ Part.hier ∈ ps) (pmgr : t.mgr = u.mgr ∨ Part.mgr ∈ ps) (ptime :
    t.time = u.time ∨ Part.time ∈ ps) (ptether : t.tether = u.tether ∨ Part.tether ∈ ps) (plog : t.log = u.log ∨ Part.log
    ∈ ps) (pspools : t.spools = u.spools ∨ Part.spools ∈ ps) (proutes : t.routes = u.routes ∨ Part.routes ∈ ps) (ptrip :
    t.trip = u.trip ∨ Part.trip ∈ ps) (pcipher : t.cipher = u.cipher ∨ Part.cipher ∈ ps) (pcheckParts : t.checkParts =
    u.checkParts ∨ Part.checkParts ∈ ps) (pring : t.ring = u.ring ∨ Part.ring ∈ ps) (psensing : t.sensing = u.sensing ∨
    Part.sensing ∈ ps) (prst : t.rst = u.rst ∨ Part.rst ∈ ps) (psup : t.sup = u.sup ∨ Part.sup ∈ ps) :
    Keeps ps s t := by
  refine h.trans ⟨variant, pending, .inl tsc, fun c => ?_, ?_⟩
  · constructor
    · have := c.dict; unfold State.dictOk at this ⊢; rw [dict, variant]; exact this
    · rw [written]; exact c.written
    · rw [blocks]; exact c.blocks
    · rw [ports]; exact c.ports
    · rw [echoes]; exact c.echoes
    · rw [lanes]; exact c.lanes
    · rw [pages]; exact c.pages
    · rw [spools]; exact c.spools
    · rw [routes]; exact c.routes
    · rw [links]; exact c.links
    · rw [nodes]; exact c.nodes
    · rw [cells]; exact c.cells
    · rw [slots]; exact c.slots
    · rw [domains]; exact c.domains
    · rw [channels]; exact c.channels
    · rw [units]; exact c.units
  · intro p hp
    cases p
    · exact variant
    · exact tsc
    · exact pending
    · exact pfree.resolve_right hp
    · exact pout.resolve_right hp
    · exact dict
    · exact written
    · exact phier.resolve_right hp
    · exact pmgr.resolve_right hp
    · exact ptime.resolve_right hp
    · exact ptether.resolve_right hp
    · exact plog.resolve_right hp
    · exact ports
    · exact echoes
    · exact lanes
    · exact pspools.resolve_right hp
    · exact pages
    · exact proutes.resolve_right hp
    · exact cells
    · exact ptrip.resolve_right hp
    · exact pcipher.resolve_right hp
    · exact pcheckParts.resolve_right hp
    · exact pring.resolve_right hp
    · exact psensing.resolve_right hp
    · exact prst.resolve_right hp
    · exact psup.resolve_right hp

/-- The same for an update written as a record. -/
theorem Keeps.record {ps : List Part} {s u : State} {xVariant : Variant} {xTsc : Nat} {xPending : List Instr} {xFree :
    Nat} {xOut : List Out} {xDict : Table Bytes} {xWritten : Table Bytes} {xHier : Hierarchy} {xMgr : Manager} {xTime :
    TimeBase} {xTether : Tether} {xLog : EventLog} {xPorts : Table Port} {xEchoes : Table Echo} {xLanes : Table Lane}
    {xSpools : Spools} {xPages : Table Page} {xRoutes : Routes} {xCells : Table CommandCell} {xTrip : Trip} {xCipher :
    Cipher} {xCheckParts : List CheckPart} {xRing : Ring} {xSensing : Sensing} {xRst : ResetCtl} {xSup : Supervision} (h :
    Keeps ps s u) (_ : xVariant = u.variant) (_ : xTsc = u.tsc) (_ : xPending = u.pending) (_ : xDict = u.dict) (_ :
    xWritten = u.written) (_ : xHier.blocks = u.hier.blocks) (_ : xPorts = u.ports) (_ : xEchoes = u.echoes) (_ : xLanes =
    u.lanes) (_ : xPages = u.pages) (_ : xSpools.table = u.spools.table) (_ : xRoutes.entries = u.routes.entries) (_ :
    xRoutes.links = u.routes.links) (_ : xRoutes.nodes = u.routes.nodes) (_ : xCells = u.cells) (_ : xCipher.slots =
    u.cipher.slots) (_ : xRst.domains = u.rst.domains) (_ : xSensing.channels = u.sensing.channels) (_ : xSup.units =
    u.sup.units)
    (_ : xFree = u.free ∨ Part.free ∈ ps := by first | exact .inr (by assumption) | exact .inl rfl | exact .inr (by decide))
    (_ : xOut = u.out ∨ Part.out ∈ ps := by first | exact .inr (by assumption) | exact .inl rfl | exact .inr (by decide))
    (_ : xHier = u.hier ∨ Part.hier ∈ ps := by first | exact .inr (by assumption) | exact .inl rfl | exact .inr (by decide))
    (_ : xMgr = u.mgr ∨ Part.mgr ∈ ps := by first | exact .inr (by assumption) | exact .inl rfl | exact .inr (by decide))
    (_ : xTime = u.time ∨ Part.time ∈ ps := by first | exact .inr (by assumption) | exact .inl rfl | exact .inr (by decide))
    (_ : xTether = u.tether ∨ Part.tether ∈ ps := by first | exact .inr (by assumption) | exact .inl rfl | exact .inr (by decide))
    (_ : xLog = u.log ∨ Part.log ∈ ps := by first | exact .inr (by assumption) | exact .inl rfl | exact .inr (by decide))
    (_ : xSpools = u.spools ∨ Part.spools ∈ ps := by first | exact .inr (by assumption) | exact .inl rfl | exact .inr (by decide))
    (_ : xRoutes = u.routes ∨ Part.routes ∈ ps := by first | exact .inr (by assumption) | exact .inl rfl | exact .inr (by decide))
    (_ : xTrip = u.trip ∨ Part.trip ∈ ps := by first | exact .inr (by assumption) | exact .inl rfl | exact .inr (by decide))
    (_ : xCipher = u.cipher ∨ Part.cipher ∈ ps := by first | exact .inr (by assumption) | exact .inl rfl | exact .inr (by decide))
    (_ : xCheckParts = u.checkParts ∨ Part.checkParts ∈ ps := by first | exact .inr (by assumption) | exact .inl rfl | exact .inr (by decide))
    (_ : xRing = u.ring ∨ Part.ring ∈ ps := by first | exact .inr (by assumption) | exact .inl rfl | exact .inr (by decide))
    (_ : xSensing = u.sensing ∨ Part.sensing ∈ ps := by first | exact .inr (by assumption) | exact .inl rfl | exact .inr (by decide))
    (_ : xRst = u.rst ∨ Part.rst ∈ ps := by first | exact .inr (by assumption) | exact .inl rfl | exact .inr (by decide))
    (_ : xSup = u.sup ∨ Part.sup ∈ ps := by first | exact .inr (by assumption) | exact .inl rfl | exact .inr (by decide)) :
    Keeps ps s (State.mk xVariant xTsc xPending xFree xOut xDict xWritten xHier xMgr xTime xTether xLog xPorts xEchoes
    xLanes xSpools xPages xRoutes xCells xTrip xCipher xCheckParts xRing xSensing xRst xSup) := by
  apply h.update <;> assumption

theorem Keeps.ite {ps : List Part} {s a b : State} {c : Prop} [Decidable c] (ha : Keeps ps s a) (hb : Keeps ps s b) :
    Keeps ps s (if c then a else b) := by
  split
  · exact ha
  · exact hb

theorem Keeps.foldl {ps : List Part} {α : Type} {s : State} (l : List α) (f : State → α → State) (hf : ∀ v x, Keeps ps v (f v x))
    {u : State} (h : Keeps ps s u) : Keeps ps s (l.foldl f u) := by
  induction l generalizing u with
  | nil => exact h
  | cons x l ih => exact ih (h.trans (hf u x))

theorem Keeps.each {ps : List Part} {α : Type} {s u : State} {l : List α} {f : State → α → State} (h : Keeps ps s u)
    (hf : ∀ v x, Keeps ps v (f v x)) : Keeps ps s (u.each l f) := Keeps.foldl l f hf h

theorem Keeps.when {ps : List Part} {s u : State} {c : Bool} {f : State → State} (h : Keeps ps s u) (hf : ∀ v, Keeps ps v (f v)) :
    Keeps ps s (u.when c f) := by
  unfold State.when; split
  · exact h.trans (hf u)
  · exact h

/-- One part may change: the others agree by computation. -/
theorem Frame.one {q : Part} {ps : List Part} {s t : State} (hq : q ∈ ps) (h : ∀ p, p ≠ q → s.agrees t p) : Frame ps s t :=
  fun p hp => h p fun e => hp (e ▸ hq)

/-! ## Writes -/

theorem State.store_keeps {ps : List Part} {s0 s : State} (h : Keeps ps s0 s) (key : Nat) (v : Bytes) (hp : Part.dict
    ∈ ps := by assumption) :
    Keeps ps s0 (s.store key v) := by
  refine h.trans ⟨rfl, rfl, .inl rfl, fun c => { c with dict := ?_ }, Frame.one hp fun p n => by cases p <;> first | rfl | exact absurd rfl n⟩
  have h := c.dict
  unfold State.dictOk at h ⊢
  rw [Bool.and_eq_true] at h ⊢
  refine ⟨Table.rising_put _ _ h.1, ?_⟩
  show (Table.put (defaultOf s.variant key) s.dict key v).all (fun e => decide (e.2 ≠ defaultOf s.variant e.1)) = true
  unfold Table.put; split
  · exact Table.all_erase h.2
  · rename_i n; exact Table.all_insert h.2 (by simpa using n)

theorem State.storeNat_keeps {ps : List Part} {s0 s : State} (h : Keeps ps s0 s) (key n : Nat) (hp : Part.dict ∈ ps :=
    by assumption) :
    Keeps ps s0 (s.storeNat key n) := State.store_keeps h _ _
theorem State.setVal_keeps {ps : List Part} {s0 s : State} (h : Keeps ps s0 s) (idx sub n : Nat) (hp : Part.dict ∈ ps
    := by assumption) :
    Keeps ps s0 (s.setVal idx sub n) := State.store_keeps h _ _
theorem State.bumpKey_keeps {ps : List Part} {s0 s : State} (h : Keeps ps s0 s) (key n : Nat) (hp : Part.dict ∈ ps :=
    by assumption) :
    Keeps ps s0 (s.bumpKey key n) := State.store_keeps h _ _
theorem State.bump_keeps {ps : List Part} {s0 s : State} (h : Keeps ps s0 s) (idx sub : Nat) (hp : Part.dict ∈ ps :=
    by assumption) :
    Keeps ps s0 (s.bump idx sub) := State.store_keeps h _ _
theorem State.pbump_keeps {ps : List Part} {s0 s : State} (h : Keeps ps s0 s) (p idx sub : Nat) (hp : Part.dict ∈ ps
    := by assumption) :
    Keeps ps s0 (s.pbump p idx sub) := State.store_keeps h _ _
theorem State.lbumpN_keeps {ps : List Part} {s0 s : State} (h : Keeps ps s0 s) (p l idx sub n : Nat) (hp : Part.dict ∈
    ps := by assumption) :
    Keeps ps s0 (s.lbumpN p l idx sub n) := State.store_keeps h _ _
theorem State.lbump_keeps {ps : List Part} {s0 s : State} (h : Keeps ps s0 s) (p l idx sub : Nat) (hp : Part.dict ∈ ps
    := by assumption) :
    Keeps ps s0 (s.lbump p l idx sub) := State.store_keeps h _ _
theorem State.overlay_keeps {ps : List Part} {s0 s : State} (h : Keeps ps s0 s) (l : Table Bytes) (hp : Part.dict ∈ ps
    := by assumption) :
    Keeps ps s0 (s.overlay l) := by
  unfold State.overlay
  exact Keeps.each h fun v e => State.store_keeps (Keeps.refl _ _) _ _
theorem State.loadDeferred_keeps {ps : List Part} {s0 s : State} (h : Keeps ps s0 s) (r b : Nat) (hq : Part.mgr ∈ ps
    := by assumption) (hp : Part.dict ∈ ps := by assumption) :
    Keeps ps s0 (s.loadDeferred r b) := by
  unfold State.loadDeferred
  apply State.overlay_keeps (hp := hp)
  apply Keeps.record h <;> first | rfl | exact .inr hq
theorem State.commitValue_keeps {ps : List Part} {s0 s : State} (h : Keeps ps s0 s) (key : Nat) (v : Bytes) (hq :
    Part.mgr ∈ ps := by assumption) (hp : Part.dict ∈ ps := by assumption) :
    Keeps ps s0 (s.commitValue key v) := by
  unfold State.commitValue
  split
  · apply Keeps.record h <;> first | rfl | exact .inr hq
  · exact State.store_keeps h _ _

theorem State.setBlock_keeps {ps : List Part} {s0 s : State} (h : Keeps ps s0 s) (r b : Nat) (x : Block) (hp :
    Part.hier ∈ ps := by assumption) :
    Keeps ps s0 (s.setBlock r b x) :=
  h.trans ⟨rfl, rfl, .inl rfl, fun c => { c with blocks := Table.wf_put _ _ c.blocks },
    Frame.one hp fun p n => by cases p <;> first | rfl | exact absurd rfl n⟩
theorem State.setPort_keeps {ps : List Part} {s0 s : State} (h : Keeps ps s0 s) (p : Nat) (x : Port) (hp : Part.ports
    ∈ ps := by assumption) :
    Keeps ps s0 (s.setPort p x) :=
  h.trans ⟨rfl, rfl, .inl rfl, fun c => { c with ports := Table.wf_put _ _ c.ports },
    Frame.one hp fun p n => by cases p <;> first | rfl | exact absurd rfl n⟩
theorem State.setEcho_keeps {ps : List Part} {s0 s : State} (h : Keeps ps s0 s) (p : Nat) (b : Band) (x : Echo) (hp :
    Part.echoes ∈ ps := by assumption) :
    Keeps ps s0 (s.setEcho p b x) :=
  h.trans ⟨rfl, rfl, .inl rfl, fun c => { c with echoes := Table.wf_put _ _ c.echoes },
    Frame.one hp fun p n => by cases p <;> first | rfl | exact absurd rfl n⟩
theorem State.setLane_keeps {ps : List Part} {s0 s : State} (h : Keeps ps s0 s) (p l : Nat) (x : Lane) (hp :
    Part.lanes ∈ ps := by assumption) :
    Keeps ps s0 (s.setLane p l x) :=
  h.trans ⟨rfl, rfl, .inl rfl, fun c => { c with lanes := Table.wf_put _ _ c.lanes },
    Frame.one hp fun p n => by cases p <;> first | rfl | exact absurd rfl n⟩
theorem State.setPage_keeps {ps : List Part} {s0 s : State} (h : Keeps ps s0 s) (f : Nat) (x : Page) (hp : Part.pages
    ∈ ps := by assumption) :
    Keeps ps s0 (s.setPage f x) :=
  h.trans ⟨rfl, rfl, .inl rfl, fun c => { c with pages := Table.wf_put _ _ c.pages },
    Frame.one hp fun p n => by cases p <;> first | rfl | exact absurd rfl n⟩
theorem State.setSpool_keeps {ps : List Part} {s0 s : State} (h : Keeps ps s0 s) (k : Nat) (x : Spool) (hp :
    Part.spools ∈ ps := by assumption) :
    Keeps ps s0 (s.setSpool k x) :=
  h.trans ⟨rfl, rfl, .inl rfl, fun c => { c with spools := Table.wf_put _ _ c.spools },
    Frame.one hp fun p n => by cases p <;> first | rfl | exact absurd rfl n⟩
theorem State.setRoute_keeps {ps : List Part} {s0 s : State} (h : Keeps ps s0 s) (k : Nat) (x : RouteEntry) (hp :
    Part.routes ∈ ps := by assumption) :
    Keeps ps s0 (s.setRoute k x) :=
  h.trans ⟨rfl, rfl, .inl rfl, fun c => { c with routes := Table.wf_put _ _ c.routes },
    Frame.one hp fun p n => by cases p <;> first | rfl | exact absurd rfl n⟩
theorem State.setLink_keeps {ps : List Part} {s0 s : State} (h : Keeps ps s0 s) (n : Nat) (x : Link) (hp : Part.routes
    ∈ ps := by assumption) :
    Keeps ps s0 (s.setLink n x) :=
  h.trans ⟨rfl, rfl, .inl rfl, fun c => { c with links := Table.wf_put _ _ c.links },
    Frame.one hp fun p n => by cases p <;> first | rfl | exact absurd rfl n⟩
theorem State.setNode_keeps {ps : List Part} {s0 s : State} (h : Keeps ps s0 s) (e : Nat) (x : Node) (hp : Part.routes
    ∈ ps := by assumption) :
    Keeps ps s0 (s.setNode e x) :=
  h.trans ⟨rfl, rfl, .inl rfl, fun c => { c with nodes := Table.wf_put _ _ c.nodes },
    Frame.one hp fun p n => by cases p <;> first | rfl | exact absurd rfl n⟩
theorem State.setCell_keeps {ps : List Part} {s0 s : State} (h : Keeps ps s0 s) (p : Nat) (x : CommandCell) (hp :
    Part.cells ∈ ps := by assumption) :
    Keeps ps s0 (s.setCell p x) :=
  h.trans ⟨rfl, rfl, .inl rfl, fun c => { c with cells := Table.wf_put _ _ c.cells },
    Frame.one hp fun p n => by cases p <;> first | rfl | exact absurd rfl n⟩
theorem State.setSlot_keeps {ps : List Part} {s0 s : State} (h : Keeps ps s0 s) (n : Nat) (x : KeySlot) (hp :
    Part.cipher ∈ ps := by assumption) :
    Keeps ps s0 (s.setSlot n x) :=
  h.trans ⟨rfl, rfl, .inl rfl, fun c => { c with slots := Table.wf_put _ _ c.slots },
    Frame.one hp fun p n => by cases p <;> first | rfl | exact absurd rfl n⟩
theorem State.setDomain_keeps {ps : List Part} {s0 s : State} (h : Keeps ps s0 s) (d : Nat) (x : Domain) (hp :
    Part.rst ∈ ps := by assumption) :
    Keeps ps s0 (s.setDomain d x) :=
  h.trans ⟨rfl, rfl, .inl rfl, fun c => { c with domains := Table.wf_put _ _ c.domains },
    Frame.one hp fun p n => by cases p <;> first | rfl | exact absurd rfl n⟩
theorem State.setChannel_keeps {ps : List Part} {s0 s : State} (h : Keeps ps s0 s) (m : Nat) (x : Channel) (hp :
    Part.sensing ∈ ps := by assumption) :
    Keeps ps s0 (s.setChannel m x) :=
  h.trans ⟨rfl, rfl, .inl rfl, fun c => { c with channels := Table.wf_put _ _ c.channels },
    Frame.one hp fun p n => by cases p <;> first | rfl | exact absurd rfl n⟩
theorem State.setUnit_keeps {ps : List Part} {s0 s : State} (h : Keeps ps s0 s) (u : Nat) (x : BallastUnit) (hp :
    Part.sup ∈ ps := by assumption) :
    Keeps ps s0 (s.setUnit u x) :=
  h.trans ⟨rfl, rfl, .inl rfl, fun c => { c with units := Table.wf_put _ _ c.units },
    Frame.one hp fun p n => by cases p <;> first | rfl | exact absurd rfl n⟩
theorem State.setTx_keeps {ps : List Part} {s0 s : State} (h : Keeps ps s0 s) (p l : Nat) (x : LaneTx) (hp :
    Part.lanes ∈ ps := by assumption) :
    Keeps ps s0 (s.setTx p l x) := State.setLane_keeps h _ _ _
theorem State.setRx_keeps {ps : List Part} {s0 s : State} (h : Keeps ps s0 s) (p l : Nat) (x : LaneRx) (hp :
    Part.lanes ∈ ps := by assumption) :
    Keeps ps s0 (s.setRx p l x) := State.setLane_keeps h _ _ _
theorem State.setRingPort_keeps {ps : List Part} {s0 s : State} (h : Keeps ps s0 s) (d : Side) (x : RingPort) (hp :
    Part.ring ∈ ps := by assumption) :
    Keeps ps s0 (s.setRingPort d x) := by
  cases d <;> exact h.trans ⟨rfl, rfl, .inl rfl, fun c => { c with },
    Frame.one hp fun p n => by cases p <;> first | rfl | exact absurd rfl n⟩
theorem State.wearBy_keeps {ps : List Part} {s0 s : State} (h : Keeps ps s0 s) (idx sub place n : Nat) (hp : Part.sup
    ∈ ps := by assumption) :
    Keeps ps s0 (s.wearBy idx sub place n) :=
  h.trans ⟨rfl, rfl, .inl rfl, fun c => { c with }, Frame.one hp fun p n => by cases p <;> first | rfl | exact absurd rfl n⟩
theorem State.emit_keeps {ps : List Part} {s0 s : State} (h : Keeps ps s0 s) (o : Out) (hp : Part.out ∈ ps := by
    assumption) :
    Keeps ps s0 (s.emit o) :=
  h.trans ⟨rfl, rfl, .inl rfl, fun c => { c with }, Frame.one hp fun p n => by cases p <;> first | rfl | exact absurd rfl n⟩
theorem State.emitAll_keeps {ps : List Part} {s0 s : State} (h : Keeps ps s0 s) (l : List Out) (hp : Part.out ∈ ps :=
    by assumption) :
    Keeps ps s0 (s.emitAll l) :=
  h.trans ⟨rfl, rfl, .inl rfl, fun c => { c with }, Frame.one hp fun p n => by cases p <;> first | rfl | exact absurd rfl n⟩
theorem State.event_keeps {ps : List Part} {s0 s : State} (h : Keeps ps s0 s) (src code sev : Nat) (data : Bytes) (hp
    : Part.log ∈ ps := by assumption) :
    Keeps ps s0 (s.event src code sev data) :=
  h.trans ⟨rfl, rfl, .inl rfl, fun c => { c with }, Frame.one hp fun p n => by cases p <;> first | rfl | exact absurd rfl n⟩
theorem State.relayWear_keeps {ps : List Part} {s0 s : State} (h : Keeps ps s0 s) (idx sub place : Nat) (c : Bool) (hp
    : Part.sup ∈ ps := by assumption) :
    Keeps ps s0 (s.relayWear idx sub place c) := by
  unfold State.relayWear; split
  · exact State.wearBy_keeps h _ _ _ _
  · exact h
theorem State.returnItem_keeps {ps : List Part} {s0 s : State} (h : Keeps ps s0 s) (src status count : Nat) (hp :
    Part.out ∈ ps := by assumption) :
    Keeps ps s0 (s.returnItem src status count) := State.emit_keeps h _
theorem State.fresh_keeps {ps : List Part} {s0 s : State} (h : Keeps ps s0 s) (hp : Part.free ∈ ps := by assumption)
    :
    Keeps ps s0 (s.fresh.2) :=
  h.trans ⟨rfl, rfl, .inl rfl, fun c => { c with }, Frame.one hp fun p n => by cases p <;> first | rfl | exact absurd rfl n⟩

end Sys2Proof.Machine
end

