-- ==== Sys2Proof/Laws/KeepsTraffic.lean ====
section
/-! SUPPORT. What every operation keeps (Keeps.lean): resets, time, the tether, the hierarchy, routes, spools, lanes, echo cancellers, ports and command cells. -/

set_option Elab.async false

set_option linter.unusedTactic false
set_option linter.unreachableTactic false

namespace Sys2Proof.Machine

/-! ## ResetOps -/

theorem State.recordReset_keeps {ps : List Part} {s0 s : State} (h0 : Keeps ps s0 s) (cause kind : Nat) (_ : Part.rst ∈ ps := by assumption) : Keeps ps s0 (s.recordReset cause kind) := by
  unfold State.recordReset
  try dsimp only
  repeat' first
    | with_reducible exact h0
    | with_reducible assumption
    | with_reducible apply Keeps.ite
    | split
    | fail_if_no_progress refine Keeps.record ?_ rfl rfl rfl rfl rfl rfl rfl rfl rfl rfl rfl rfl rfl rfl rfl rfl rfl rfl rfl
    | dsimp only

theorem State.advanceRelease_keeps {ps : List Part} {s0 s : State} (h0 : Keeps ps s0 s)  (_ : Part.rst ∈ ps := by assumption) : Keeps ps s0 (s.advanceRelease) := by
  unfold State.advanceRelease
  try dsimp only
  repeat' first
    | with_reducible exact h0
    | with_reducible assumption
    | with_reducible exact Keeps.refl _ _
    | with_reducible apply State.setDomain_keeps
    | (with_reducible apply Keeps.each) <;> try intro _ _
    | split
    | fail_if_no_progress refine Keeps.record ?_ rfl rfl rfl rfl rfl rfl rfl rfl rfl rfl rfl rfl rfl rfl rfl rfl rfl rfl rfl
    | dsimp only

theorem State.setDomainBlocks_keeps {ps : List Part} {s0 s : State} (h0 : Keeps ps s0 s) (d : Nat) (st : BlockState) (_ : Part.hier ∈ ps := by assumption) : Keeps ps s0 (s.setDomainBlocks d st) := by
  unfold State.setDomainBlocks
  try dsimp only
  repeat' first
    | with_reducible exact h0
    | with_reducible assumption
    | with_reducible exact Keeps.refl _ _
    | with_reducible apply State.setBlock_keeps
    | (with_reducible apply Keeps.each) <;> try intro _ _
    | fail_if_no_progress refine Keeps.record ?_ rfl rfl rfl rfl rfl rfl rfl rfl rfl rfl rfl rfl rfl rfl rfl rfl rfl rfl rfl
    | dsimp only

theorem State.overlay_variant (s : State) (l : Table Bytes) : (s.overlay l).variant = s.variant := by
  exact (State.overlay_keeps (ps := [.dict]) (Keeps.refl _ s) l (by decide)).variant

theorem State.dictOk_store {s : State} (key : Nat) (v : Bytes) (h : s.dictOk = true) : (s.store key v).dictOk = true := by
  unfold State.dictOk at h ⊢
  rw [Bool.and_eq_true] at h ⊢
  refine ⟨Table.rising_put _ _ h.1, ?_⟩
  show (Table.put (defaultOf s.variant key) s.dict key v).all (fun e => decide (e.2 ≠ defaultOf s.variant e.1)) = true
  unfold Table.put; split
  · exact Table.all_erase h.2
  · rename_i n; exact Table.all_insert h.2 (by simpa using n)

theorem State.dictOk_overlay {s : State} (l : Table Bytes) (h : s.dictOk = true) : (s.overlay l).dictOk = true := by
  unfold State.overlay State.each
  induction l generalizing s with
  | nil => exact h
  | cons e l ih => exact ih (State.dictOk_store e.1 e.2 h)

theorem State.view_dictOk {s : State} (h : s.dictOk = true) :
    (s.view.dict.rising && s.view.dict.all fun e => decide (e.2 ≠ defaultOf s.variant e.1)) = true := by
  have a := State.dictOk_overlay s.mgr.deferred h
  unfold State.dictOk at a
  rw [State.overlay_variant] at a
  exact a

theorem resetPorts_wf {t : Table Port} (h : Table.wf {} t = true) : Table.wf {} (resetPorts t) = true := by
  refine Table.wf_filterMap (d := ({} : Port)) _ ?_ ?_ h
  · intro e x hx; dsimp only at hx; split at hx
    · cases hx
    · cases hx; rfl
  · intro e x _ hx; dsimp only at hx; split at hx
    · cases hx
    · rename_i n; cases hx; exact n

theorem resetCells_wf {t : Table CommandCell} (h : Table.wf {} t = true) : Table.wf {} (resetCells t) = true := by
  refine Table.wf_filterMap (d := ({} : CommandCell)) _ ?_ ?_ h
  · intro e x hx; dsimp only at hx; split at hx
    · cases hx
    · cases hx; rfl
  · intro e x _ hx; dsimp only at hx; split at hx
    · cases hx
    · rename_i n; cases hx; intro k; exact n (congrArg CommandCell.links k)

theorem resetBlocksWarm_wf {t : Table Block} (h : Table.wf {} t = true) : Table.wf {} (resetBlocksWarm t) = true := by
  unfold resetBlocksWarm
  rw [← List.filterMap_eq_map]
  refine Table.wf_filterMap (d := ({} : Block)) _ ?_ ?_ h
  · intro e x hx; simp only [Function.comp, Option.some.injEq] at hx; split at hx <;> (subst hx; rfl)
  · intro e x n hx; simp only [Function.comp, Option.some.injEq] at hx; split at hx
    · subst hx; exact n
    · subst hx; intro k; have := congrArg Block.state k; cases this

theorem resetSlots_wf {t : Table KeySlot} (cold : Bool) (h : Table.wf {} t = true) : Table.wf {} (resetSlots cold t) = true := by
  unfold resetSlots; split
  · exact Table.wf_put _ _ Table.wf_nil
  · exact h

theorem State.dictOk_filter {s : State} (f : Nat × Bytes → Bool) (h : s.dictOk = true) :
    (Table.rising (s.dict.filter f) && (s.dict.filter f).all fun e => decide (e.2 ≠ defaultOf s.variant e.1)) = true := by
  unfold State.dictOk at h
  rw [Bool.and_eq_true] at h ⊢
  refine ⟨Table.rising_filter f h.1, ?_⟩
  simp only [List.all_eq_true] at h ⊢
  intro x hx; exact h.2 x (List.mem_filter.1 hx).1

theorem State.clearFor_keeps {ps : List Part} {s0 s : State} (h0 : Keeps ps s0 s) (kind : Nat) (_ : Part.tsc ∈ ps := by assumption) (_ : Part.dict ∈ ps := by assumption) (_ : Part.written ∈ ps := by assumption) (_ : Part.hier ∈ ps := by assumption) (_ : Part.mgr ∈ ps := by assumption) (_ : Part.time ∈ ps := by assumption) (_ : Part.tether ∈ ps := by assumption) (_ : Part.log ∈ ps := by assumption) (_ : Part.ports ∈ ps := by assumption) (_ : Part.echoes ∈ ps := by assumption) (_ : Part.lanes ∈ ps := by assumption) (_ : Part.spools ∈ ps := by assumption) (_ : Part.pages ∈ ps := by assumption) (_ : Part.routes ∈ ps := by assumption) (_ : Part.cells ∈ ps := by assumption) (_ : Part.trip ∈ ps := by assumption) (_ : Part.cipher ∈ ps := by assumption) (_ : Part.checkParts ∈ ps := by assumption) (_ : Part.ring ∈ ps := by assumption) (_ : Part.sensing ∈ ps := by assumption) (_ : Part.sup ∈ ps := by assumption) : Keeps ps s0 (s.clearFor kind) := by
  refine h0.trans ⟨rfl, rfl, ?_, fun c => ⟨?_, rfl, ?_, resetPorts_wf c.ports, rfl, rfl, rfl, ?_, ?_, ?_, ?_, ?_,
    resetSlots_wf _ c.slots, c.domains, rfl, ?_⟩,
    fun p hp => by cases p <;> first | exact absurd (by assumption) hp | rfl⟩
  · show (if _ then _ else _) = s.tsc ∨ (if _ then _ else _) = 0
    split
    · exact .inr rfl
    · exact .inl rfl
  · show (Table.rising (if _ then _ else _) && (if _ then _ else _ : Table Bytes).all _) = true
    split
    · exact State.view_dictOk c.dict
    · exact State.dictOk_filter _ c.dict
  · show Table.wf {} (if _ then _ else _ : Hierarchy).blocks = true
    split
    · exact resetBlocksWarm_wf c.blocks
    · rfl
  · show Table.wf {} (if _ then _ else _ : Spools).table = true
    split
    · exact c.spools
    · rfl
  · show Table.wf {} (if _ then _ else _ : Routes).entries = true
    split
    · exact c.routes
    · rfl
  · show Table.wf {} (if _ then _ else _ : Routes).links = true
    split
    · exact c.links
    · rfl
  · show Table.wf {} (if _ then _ else _ : Routes).nodes = true
    split
    · exact c.nodes
    · rfl
  · show Table.wf {} (if _ then _ else _ : Table CommandCell) = true
    split
    · rfl
    · exact resetCells_wf c.cells
  · show Table.wf {} (if _ then _ else _ : Table BallastUnit) = true
    split
    · exact Table.wf_filter _ c.units
    · rfl

theorem State.resetDomains_keeps {ps : List Part} {s0 s : State} (h0 : Keeps ps s0 s) (kind : Nat) (_ : Part.rst ∈ ps := by assumption) : Keeps ps s0 (s.resetDomains kind) := by
  refine h0.trans ?_
  unfold State.resetDomains
  have h : ∀ t : Table Domain, (s.Canonical → Table.wf {} t = true) → Keeps ps s { s with rst := { s.rst with domains := t } } :=
    fun t ht => ⟨rfl, rfl, .inl rfl, fun c => { c with domains := ht c },
      fun p hp => by cases p <;> first | exact absurd (by assumption) hp | rfl⟩
  have hw : s.Canonical → Table.wf {} (s.rst.domains.filterMap fun e =>
      if ({ offset := e.2.offset, target := e.2.target } : Domain) = {} then none
      else some (e.1, ({ offset := e.2.offset, target := e.2.target } : Domain))) = true := by
    intro c
    refine Table.wf_filterMap (d := ({} : Domain)) _ ?_ ?_ c.domains
    · intro e x hx; split at hx
      · cases hx
      · cases hx; rfl
    · intro e x _ hx; split at hx
      · cases hx
      · rename_i n; cases hx; exact n
  dsimp only
  repeat' first
    | with_reducible exact Keeps.refl _ _
    | with_reducible assumption
    | with_reducible exact h _ hw
    | with_reducible apply Keeps.ite
    | with_reducible apply State.setDomain_keeps
    | (with_reducible apply Keeps.each) <;> try intro _ _

theorem State.holdShed_keeps {ps : List Part} {s0 s : State} (h0 : Keeps ps s0 s) (kind : Nat) (_ : Part.hier ∈ ps := by assumption) : Keeps ps s0 (s.holdShed kind) := by
  unfold State.holdShed
  repeat' first
    | with_reducible exact h0
    | with_reducible assumption
    | with_reducible exact Keeps.refl _ _
    | with_reducible apply Keeps.ite
    | with_reducible apply State.setDomainBlocks_keeps
    | (with_reducible apply Keeps.each) <;> try intro _ _
    | split
    | dsimp only

theorem State.lockoutCheck_keeps {ps : List Part} {s0 s : State} (h0 : Keeps ps s0 s) (cause kind : Nat) (_ : Part.rst ∈ ps := by assumption) : Keeps ps s0 (s.lockoutCheck cause kind) := by
  unfold State.lockoutCheck
  try dsimp only
  repeat' first
    | with_reducible exact h0
    | with_reducible assumption
    | with_reducible apply Keeps.ite
    | split
    | fail_if_no_progress refine Keeps.record ?_ rfl rfl rfl rfl rfl rfl rfl rfl rfl rfl rfl rfl rfl rfl rfl rfl rfl rfl rfl
    | dsimp only

theorem State.performReset_keeps {ps : List Part} {s0 s : State} (h0 : Keeps ps s0 s) (cause kind : Nat) (_ : Part.tsc ∈ ps := by assumption) (_ : Part.dict ∈ ps := by assumption) (_ : Part.written ∈ ps := by assumption) (_ : Part.hier ∈ ps := by assumption) (_ : Part.mgr ∈ ps := by assumption) (_ : Part.time ∈ ps := by assumption) (_ : Part.tether ∈ ps := by assumption) (_ : Part.log ∈ ps := by assumption) (_ : Part.ports ∈ ps := by assumption) (_ : Part.echoes ∈ ps := by assumption) (_ : Part.lanes ∈ ps := by assumption) (_ : Part.spools ∈ ps := by assumption) (_ : Part.pages ∈ ps := by assumption) (_ : Part.routes ∈ ps := by assumption) (_ : Part.cells ∈ ps := by assumption) (_ : Part.trip ∈ ps := by assumption) (_ : Part.cipher ∈ ps := by assumption) (_ : Part.checkParts ∈ ps := by assumption) (_ : Part.ring ∈ ps := by assumption) (_ : Part.sensing ∈ ps := by assumption) (_ : Part.rst ∈ ps := by assumption) (_ : Part.sup ∈ ps := by assumption) : Keeps ps s0 (s.performReset cause kind) := by
  unfold State.performReset
  extract_lets u data ba bankA bb bankB r1 u1 u2 r2 s2 u3 r3 u4 u5
  have h : Keeps ps s0 u := State.recordReset_keeps (State.lockoutCheck_keeps h0 ..) ..
  clear_value u
  have h1 : Keeps ps s0 u1 := Keeps.record h rfl rfl rfl rfl rfl rfl rfl rfl rfl rfl rfl rfl rfl rfl rfl rfl rfl rfl rfl
  clear_value u1
  have h2 : Keeps ps s0 u2 := State.holdShed_keeps (State.resetDomains_keeps (State.clearFor_keeps h1 _) _) _
  clear_value u2
  have h3 : Keeps ps s0 u3 := by
    dsimp only [u3]; split
    · exact Keeps.record h2 rfl rfl rfl rfl rfl rfl rfl rfl rfl rfl rfl rfl rfl rfl rfl rfl rfl rfl rfl
    · exact h2
  clear_value u3
  have h4 : Keeps ps s0 u4 := Keeps.record h3 rfl rfl rfl rfl rfl rfl rfl rfl rfl rfl rfl rfl rfl rfl rfl rfl rfl rfl rfl
  clear_value u4
  have h5 : Keeps ps s0 u5 := Keeps.record h4 rfl rfl rfl rfl rfl rfl rfl rfl rfl rfl rfl rfl rfl rfl rfl rfl rfl rfl rfl
  exact State.event_keeps h5 ..

theorem State.replaceCause_keeps {ps : List Part} {s0 s : State} (h0 : Keeps ps s0 s) (old cause : Nat) (_ : Part.rst ∈ ps := by assumption) : Keeps ps s0 (s.replaceCause old cause) := by
  unfold State.replaceCause
  try dsimp only
  repeat' first
    | with_reducible exact h0
    | with_reducible assumption
    | split
    | fail_if_no_progress refine Keeps.record ?_ rfl rfl rfl rfl rfl rfl rfl rfl rfl rfl rfl rfl rfl rfl rfl rfl rfl rfl rfl
    | dsimp only

theorem State.requestReset_keeps {ps : List Part} {s0 s : State} (h0 : Keeps ps s0 s) (cause kind : Nat) (_ : Part.tsc ∈ ps := by assumption) (_ : Part.dict ∈ ps := by assumption) (_ : Part.written ∈ ps := by assumption) (_ : Part.hier ∈ ps := by assumption) (_ : Part.mgr ∈ ps := by assumption) (_ : Part.time ∈ ps := by assumption) (_ : Part.tether ∈ ps := by assumption) (_ : Part.log ∈ ps := by assumption) (_ : Part.ports ∈ ps := by assumption) (_ : Part.echoes ∈ ps := by assumption) (_ : Part.lanes ∈ ps := by assumption) (_ : Part.spools ∈ ps := by assumption) (_ : Part.pages ∈ ps := by assumption) (_ : Part.routes ∈ ps := by assumption) (_ : Part.cells ∈ ps := by assumption) (_ : Part.trip ∈ ps := by assumption) (_ : Part.cipher ∈ ps := by assumption) (_ : Part.checkParts ∈ ps := by assumption) (_ : Part.ring ∈ ps := by assumption) (_ : Part.sensing ∈ ps := by assumption) (_ : Part.rst ∈ ps := by assumption) (_ : Part.sup ∈ ps := by assumption) : Keeps ps s0 (s.requestReset cause kind) := by
  unfold State.requestReset
  try dsimp only
  repeat' first
    | with_reducible exact h0
    | with_reducible assumption
    | with_reducible apply Keeps.ite
    | with_reducible apply State.performReset_keeps
    | with_reducible apply State.replaceCause_keeps
    | split
    | fail_if_no_progress refine Keeps.record ?_ rfl rfl rfl rfl rfl rfl rfl rfl rfl rfl rfl rfl rfl rfl rfl rfl rfl rfl rfl
    | dsimp only

theorem State.makeSafe_keeps {ps : List Part} {s0 s : State} (h0 : Keeps ps s0 s) (_ : Part.time ∈ ps := by assumption) (_ : Part.ports ∈ ps := by assumption) (_ : Part.lanes ∈ ps := by assumption) (_ : Part.cells ∈ ps := by assumption) (_ : Part.trip ∈ ps := by assumption) (_ : Part.ring ∈ ps := by assumption) (_ : Part.sensing ∈ ps := by assumption) : Keeps ps s0 (s.makeSafe) := by
  refine h0.trans ⟨rfl, rfl, .inl rfl, fun c => { c with ports := ?_, lanes := ?_, cells := ?_ },
    fun p hp => by cases p <;> first | exact absurd (by assumption) hp | rfl⟩
  · refine Table.wf_filterMap (d := ({} : Port)) _ ?_ ?_ c.ports
    · intro e x hx; dsimp only at hx
      generalize (if (e.2.state == PortState.off) = true then PortState.off else PortState.stopped) = q at hx
      split at hx
      · cases hx
      · cases hx; rfl
    · intro e x _ hx; dsimp only at hx
      generalize (if (e.2.state == PortState.off) = true then PortState.off else PortState.stopped) = q at hx
      split at hx
      · cases hx
      · rename_i n; cases hx; exact n
  · refine Table.wf_filterMap (d := ({} : Lane)) _ ?_ ?_ c.lanes
    · intro e x hx; dsimp only at hx; split at hx
      · cases hx
      · cases hx; rfl
    · intro e x _ hx; dsimp only at hx; split at hx
      · cases hx
      · rename_i n; cases hx; exact n
  · refine Table.wf_filterMap (d := ({} : CommandCell)) _ ?_ ?_ c.cells
    · intro e x hx; dsimp only at hx; split at hx
      · cases hx
      · cases hx; rfl
    · intro e x _ hx; dsimp only at hx; split at hx
      · cases hx
      · rename_i n; cases hx; exact n

theorem State.fatal_keeps {ps : List Part} {s0 s : State} (h0 : Keeps ps s0 s) (cause held : Nat) (_ : Part.tsc ∈ ps := by assumption) (_ : Part.out ∈ ps := by assumption) (_ : Part.dict ∈ ps := by assumption) (_ : Part.written ∈ ps := by assumption) (_ : Part.hier ∈ ps := by assumption) (_ : Part.mgr ∈ ps := by assumption) (_ : Part.time ∈ ps := by assumption) (_ : Part.tether ∈ ps := by assumption) (_ : Part.log ∈ ps := by assumption) (_ : Part.ports ∈ ps := by assumption) (_ : Part.echoes ∈ ps := by assumption) (_ : Part.lanes ∈ ps := by assumption) (_ : Part.spools ∈ ps := by assumption) (_ : Part.pages ∈ ps := by assumption) (_ : Part.routes ∈ ps := by assumption) (_ : Part.cells ∈ ps := by assumption) (_ : Part.trip ∈ ps := by assumption) (_ : Part.cipher ∈ ps := by assumption) (_ : Part.checkParts ∈ ps := by assumption) (_ : Part.ring ∈ ps := by assumption) (_ : Part.sensing ∈ ps := by assumption) (_ : Part.rst ∈ ps := by assumption) (_ : Part.sup ∈ ps := by assumption) : Keeps ps s0 (s.fatal cause held) := by
  unfold State.fatal
  try dsimp only
  repeat' first
    | with_reducible exact h0
    | with_reducible assumption
    | with_reducible apply Keeps.ite
    | with_reducible apply State.event_keeps
    | with_reducible apply State.requestReset_keeps
    | with_reducible apply State.makeSafe_keeps
    | with_reducible apply State.emit_keeps
    | split
    | fail_if_no_progress refine Keeps.record ?_ rfl rfl rfl rfl rfl rfl rfl rfl rfl rfl rfl rfl rfl rfl rfl rfl rfl rfl rfl
    | dsimp only

theorem State.holdBlock_keeps {ps : List Part} {s0 s : State} (h0 : Keeps ps s0 s) (r b : Nat) (_ : Part.tsc ∈ ps := by assumption) (_ : Part.out ∈ ps := by assumption) (_ : Part.dict ∈ ps := by assumption) (_ : Part.written ∈ ps := by assumption) (_ : Part.hier ∈ ps := by assumption) (_ : Part.mgr ∈ ps := by assumption) (_ : Part.time ∈ ps := by assumption) (_ : Part.tether ∈ ps := by assumption) (_ : Part.log ∈ ps := by assumption) (_ : Part.ports ∈ ps := by assumption) (_ : Part.echoes ∈ ps := by assumption) (_ : Part.lanes ∈ ps := by assumption) (_ : Part.spools ∈ ps := by assumption) (_ : Part.pages ∈ ps := by assumption) (_ : Part.routes ∈ ps := by assumption) (_ : Part.cells ∈ ps := by assumption) (_ : Part.trip ∈ ps := by assumption) (_ : Part.cipher ∈ ps := by assumption) (_ : Part.checkParts ∈ ps := by assumption) (_ : Part.ring ∈ ps := by assumption) (_ : Part.sensing ∈ ps := by assumption) (_ : Part.rst ∈ ps := by assumption) (_ : Part.sup ∈ ps := by assumption) : Keeps ps s0 (s.holdBlock r b) := by
  unfold State.holdBlock
  try dsimp only
  repeat' first
    | with_reducible exact h0
    | with_reducible assumption
    | with_reducible apply Keeps.ite
    | with_reducible apply State.setBlock_keeps
    | with_reducible apply State.event_keeps
    | with_reducible apply State.fatal_keeps
    | split
    | fail_if_no_progress refine Keeps.record ?_ rfl rfl rfl rfl rfl rfl rfl rfl rfl rfl rfl rfl rfl rfl rfl rfl rfl rfl rfl
    | dsimp only

/-! ## Time -/

theorem State.chooseSource_keeps {ps : List Part} {s0 s : State} (h0 : Keeps ps s0 s)  (_ : Part.time ∈ ps := by assumption) : Keeps ps s0 (s.chooseSource) := by
  unfold State.chooseSource
  try dsimp only
  repeat' first
    | with_reducible exact h0
    | with_reducible assumption
    | with_reducible apply Keeps.ite
    | split
    | fail_if_no_progress refine Keeps.record ?_ rfl rfl rfl rfl rfl rfl rfl rfl rfl rfl rfl rfl rfl rfl rfl rfl rfl rfl rfl
    | dsimp only

theorem State.logOffset_keeps {ps : List Part} {s0 s : State} (h0 : Keeps ps s0 s) (old new : Int) (_ : Part.log ∈ ps := by assumption) : Keeps ps s0 (s.logOffset old new) := by
  unfold State.logOffset
  repeat' first
    | with_reducible exact h0
    | with_reducible assumption
    | with_reducible apply State.event_keeps

theorem State.settlePpsOut_keeps {ps : List Part} {s0 s : State} (h0 : Keeps ps s0 s)  (_ : Part.time ∈ ps := by assumption) : Keeps ps s0 (s.settlePpsOut) := by
  unfold State.settlePpsOut
  try dsimp only
  repeat' first
    | with_reducible exact h0
    | with_reducible assumption
    | with_reducible apply Keeps.ite
    | split
    | fail_if_no_progress refine Keeps.record ?_ rfl rfl rfl rfl rfl rfl rfl rfl rfl rfl rfl rfl rfl rfl rfl rfl rfl rfl rfl

theorem State.timeBoundary_keeps {ps : List Part} {s0 s : State} (h0 : Keeps ps s0 s)  (_ : Part.dict ∈ ps := by assumption) (_ : Part.time ∈ ps := by assumption) (_ : Part.log ∈ ps := by assumption) : Keeps ps s0 (s.timeBoundary) := by
  unfold State.timeBoundary
  try dsimp only
  repeat' first
    | with_reducible exact h0
    | with_reducible assumption
    | with_reducible apply Keeps.ite
    | with_reducible apply State.logOffset_keeps
    | with_reducible apply State.bump_keeps
    | with_reducible apply State.settlePpsOut_keeps
    | split
    | fail_if_no_progress refine Keeps.record ?_ rfl rfl rfl rfl rfl rfl rfl rfl rfl rfl rfl rfl rfl rfl rfl rfl rfl rfl rfl
    | dsimp only

theorem State.keepOffset_keeps {ps : List Part} {s0 s : State} (h0 : Keeps ps s0 s) (src : TimeSource) (_ : Part.free ∈ ps := by assumption) (_ : Part.time ∈ ps := by assumption) : Keeps ps s0 (s.keepOffset src) := by
  unfold State.keepOffset
  try dsimp only
  repeat' first
    | with_reducible exact h0
    | with_reducible assumption
    | with_reducible apply Keeps.ite
    | split
    | fail_if_no_progress refine Keeps.record ?_ rfl rfl rfl rfl rfl rfl rfl rfl rfl rfl rfl rfl rfl rfl rfl rfl rfl rfl rfl

theorem State.correct_keeps {ps : List Part} {s0 s : State} (h0 : Keeps ps s0 s) (error : Int) (_ : Part.time ∈ ps := by assumption) : Keeps ps s0 (s.correct error) := by
  unfold State.correct
  try dsimp only
  repeat' first
    | with_reducible exact h0
    | with_reducible assumption
    | with_reducible apply Keeps.ite
    | split
    | fail_if_no_progress refine Keeps.record ?_ rfl rfl rfl rfl rfl rfl rfl rfl rfl rfl rfl rfl rfl rfl rfl rfl rfl rfl rfl

/-! ## TetherOps -/

theorem State.setZx_keeps {ps : List Part} {s0 s : State} (h0 : Keeps ps s0 s) (i : Nat) (x : ZxInput) (_ : Part.tether ∈ ps := by assumption) : Keeps ps s0 (s.setZx i x) := by
  unfold State.setZx
  try dsimp only
  repeat' first
    | with_reducible exact h0
    | with_reducible assumption
    | fail_if_no_progress refine Keeps.record ?_ rfl rfl rfl rfl rfl rfl rfl rfl rfl rfl rfl rfl rfl rfl rfl rfl rfl rfl rfl

theorem State.tetherStep_keeps {ps : List Part} {s0 s : State} (h0 : Keeps ps s0 s) (lag period : Nat) (err : Int) (input : Nat) (_ : Part.dict ∈ ps := by assumption) (_ : Part.tether ∈ ps := by assumption) (_ : Part.log ∈ ps := by assumption) : Keeps ps s0 (s.tetherStep lag period err input) := by
  unfold State.tetherStep
  try dsimp only
  repeat' first
    | with_reducible exact h0
    | with_reducible assumption
    | with_reducible apply Keeps.ite
    | with_reducible apply State.event_keeps
    | with_reducible apply State.bump_keeps
    | split
    | fail_if_no_progress refine Keeps.record ?_ rfl rfl rfl rfl rfl rfl rfl rfl rfl rfl rfl rfl rfl rfl rfl rfl rfl rfl rfl
    | dsimp only

theorem State.tetherSlew_keeps {ps : List Part} {s0 s : State} (h0 : Keeps ps s0 s) (err : Int) (_ : Part.tether ∈ ps := by assumption) : Keeps ps s0 (s.tetherSlew err) := by
  unfold State.tetherSlew
  try dsimp only
  repeat' first
    | with_reducible exact h0
    | with_reducible assumption
    | with_reducible apply Keeps.ite
    | split
    | fail_if_no_progress refine Keeps.record ?_ rfl rfl rfl rfl rfl rfl rfl rfl rfl rfl rfl rfl rfl rfl rfl rfl rfl rfl rfl
    | dsimp only

theorem State.holdPause_keeps {ps : List Part} {s0 s : State} (h0 : Keeps ps s0 s)  (_ : Part.tether ∈ ps := by assumption) : Keeps ps s0 (s.holdPause) := by
  unfold State.holdPause
  try dsimp only
  repeat' first
    | with_reducible exact h0
    | with_reducible assumption
    | fail_if_no_progress refine Keeps.record ?_ rfl rfl rfl rfl rfl rfl rfl rfl rfl rfl rfl rfl rfl rfl rfl rfl rfl rfl rfl

theorem State.tetherTrack_keeps {ps : List Part} {s0 s : State} (h0 : Keeps ps s0 s) (err : Int) (_ : Part.tether ∈ ps := by assumption) : Keeps ps s0 (s.tetherTrack err) := by
  unfold State.tetherTrack
  try dsimp only
  repeat' first
    | with_reducible exact h0
    | with_reducible assumption
    | with_reducible apply Keeps.ite
    | split
    | fail_if_no_progress refine Keeps.record ?_ rfl rfl rfl rfl rfl rfl rfl rfl rfl rfl rfl rfl rfl rfl rfl rfl rfl rfl rfl
    | dsimp only

theorem State.commitStep_keeps {ps : List Part} {s0 s : State} (h0 : Keeps ps s0 s) (lag period : Nat) (err : Int) (i : Nat) (_ : Part.dict ∈ ps := by assumption) (_ : Part.tether ∈ ps := by assumption) (_ : Part.log ∈ ps := by assumption) : Keeps ps s0 (s.commitStep lag period err i) := by
  unfold State.commitStep
  try dsimp only
  repeat' first
    | with_reducible exact h0
    | with_reducible assumption
    | with_reducible apply State.tetherStep_keeps
    | fail_if_no_progress refine Keeps.record ?_ rfl rfl rfl rfl rfl rfl rfl rfl rfl rfl rfl rfl rfl rfl rfl rfl rfl rfl rfl
    | dsimp only

theorem State.becomeReference_keeps {ps : List Part} {s0 s : State} (h0 : Keeps ps s0 s) (i : Nat) (_ : Part.dict ∈ ps := by assumption) (_ : Part.tether ∈ ps := by assumption) (_ : Part.log ∈ ps := by assumption) : Keeps ps s0 (s.becomeReference i) := by
  unfold State.becomeReference
  try dsimp only
  repeat' first
    | with_reducible exact h0
    | with_reducible assumption
    | with_reducible apply Keeps.ite
    | with_reducible apply State.holdPause_keeps
    | with_reducible apply State.tetherStep_keeps
    | with_reducible apply State.commitStep_keeps
    | with_reducible apply State.tetherSlew_keeps
    | split
    | fail_if_no_progress refine Keeps.record ?_ rfl rfl rfl rfl rfl rfl rfl rfl rfl rfl rfl rfl rfl rfl rfl rfl rfl rfl rfl
    | dsimp only

theorem State.enterHoldover_keeps {ps : List Part} {s0 s : State} (h0 : Keeps ps s0 s) (restart : Bool) (_ : Part.dict ∈ ps := by assumption) (_ : Part.tether ∈ ps := by assumption) : Keeps ps s0 (s.enterHoldover restart) := by
  unfold State.enterHoldover
  try dsimp only
  repeat' first
    | with_reducible exact h0
    | with_reducible assumption
    | with_reducible apply Keeps.ite
    | with_reducible apply State.bump_keeps
    | split
    | fail_if_no_progress refine Keeps.record ?_ rfl rfl rfl rfl rfl rfl rfl rfl rfl rfl rfl rfl rfl rfl rfl rfl rfl rfl rfl

theorem State.referenceLost_keeps {ps : List Part} {s0 s : State} (h0 : Keeps ps s0 s)  (_ : Part.dict ∈ ps := by assumption) (_ : Part.tether ∈ ps := by assumption) : Keeps ps s0 (s.referenceLost) := by
  unfold State.referenceLost
  try dsimp only
  repeat' first
    | with_reducible exact h0
    | with_reducible assumption
    | with_reducible apply Keeps.ite
    | with_reducible apply State.enterHoldover_keeps
    | split
    | fail_if_no_progress refine Keeps.record ?_ rfl rfl rfl rfl rfl rfl rfl rfl rfl rfl rfl rfl rfl rfl rfl rfl rfl rfl rfl
    | dsimp only

theorem State.settleReference_keeps {ps : List Part} {s0 s : State} (h0 : Keeps ps s0 s) (i : Nat) (_ : Part.dict ∈ ps := by assumption) (_ : Part.tether ∈ ps := by assumption) : Keeps ps s0 (s.settleReference i) := by
  unfold State.settleReference
  repeat' first
    | with_reducible exact h0
    | with_reducible assumption
    | with_reducible apply Keeps.ite
    | with_reducible apply State.referenceLost_keeps
    | split

theorem State.zxLost_keeps {ps : List Part} {s0 s : State} (h0 : Keeps ps s0 s) (i : Nat) (_ : Part.dict ∈ ps := by assumption) (_ : Part.tether ∈ ps := by assumption) : Keeps ps s0 (s.zxLost i) := by
  unfold State.zxLost
  try dsimp only
  repeat' first
    | with_reducible exact h0
    | with_reducible assumption
    | with_reducible apply Keeps.ite
    | with_reducible apply State.setZx_keeps
    | with_reducible apply State.bump_keeps
    | with_reducible apply State.settleReference_keeps
    | split
    | fail_if_no_progress refine Keeps.record ?_ rfl rfl rfl rfl rfl rfl rfl rfl rfl rfl rfl rfl rfl rfl rfl rfl rfl rfl rfl
    | dsimp only

theorem State.zxMiss_keeps {ps : List Part} {s0 s : State} (h0 : Keeps ps s0 s) (i : Nat) (_ : Part.dict ∈ ps := by assumption) (_ : Part.tether ∈ ps := by assumption) : Keeps ps s0 (s.zxMiss i) := by
  unfold State.zxMiss
  try dsimp only
  repeat' first
    | with_reducible exact h0
    | with_reducible assumption
    | with_reducible apply Keeps.ite
    | with_reducible apply State.setZx_keeps
    | with_reducible apply State.zxLost_keeps
    | with_reducible apply State.settleReference_keeps
    | split
    | fail_if_no_progress refine Keeps.record ?_ rfl rfl rfl rfl rfl rfl rfl rfl rfl rfl rfl rfl rfl rfl rfl rfl rfl rfl rfl
    | dsimp only

theorem State.zxJudge_keeps {ps : List Part} {s0 s : State} (h0 : Keeps ps s0 s) (i : Nat) (dev : Int) (_ : Part.dict ∈ ps := by assumption) (_ : Part.tether ∈ ps := by assumption) (_ : Part.log ∈ ps := by assumption) : Keeps ps s0 (s.zxJudge i dev) := by
  unfold State.zxJudge
  try dsimp only
  repeat' first
    | with_reducible exact h0
    | with_reducible assumption
    | with_reducible apply Keeps.ite
    | with_reducible apply State.setZx_keeps
    | with_reducible apply State.event_keeps
    | with_reducible apply State.settleReference_keeps
    | split
    | fail_if_no_progress refine Keeps.record ?_ rfl rfl rfl rfl rfl rfl rfl rfl rfl rfl rfl rfl rfl rfl rfl rfl rfl rfl rfl
    | dsimp only

theorem State.zxMeasure_keeps {ps : List Part} {s0 s : State} (h0 : Keeps ps s0 s) (i : Nat) (_ : Part.dict ∈ ps := by assumption) (_ : Part.tether ∈ ps := by assumption) (_ : Part.log ∈ ps := by assumption) : Keeps ps s0 (s.zxMeasure i) := by
  unfold State.zxMeasure
  try dsimp only
  repeat' first
    | with_reducible exact h0
    | with_reducible assumption
    | with_reducible apply Keeps.ite
    | with_reducible apply State.setZx_keeps
    | with_reducible apply State.zxJudge_keeps
    | split
    | fail_if_no_progress refine Keeps.record ?_ rfl rfl rfl rfl rfl rfl rfl rfl rfl rfl rfl rfl rfl rfl rfl rfl rfl rfl rfl
    | dsimp only

theorem State.referenceCrossing_keeps {ps : List Part} {s0 s : State} (h0 : Keeps ps s0 s) (i : Nat) (_ : Part.dict ∈ ps := by assumption) (_ : Part.tether ∈ ps := by assumption) (_ : Part.log ∈ ps := by assumption) : Keeps ps s0 (s.referenceCrossing i) := by
  unfold State.referenceCrossing
  try dsimp only
  repeat' first
    | with_reducible exact h0
    | with_reducible assumption
    | with_reducible apply Keeps.ite
    | with_reducible apply State.commitStep_keeps
    | with_reducible apply State.tetherTrack_keeps
    | with_reducible apply State.tetherSlew_keeps
    | split
    | fail_if_no_progress refine Keeps.record ?_ rfl rfl rfl rfl rfl rfl rfl rfl rfl rfl rfl rfl rfl rfl rfl rfl rfl rfl rfl
    | dsimp only

theorem State.crossingAccepted_keeps {ps : List Part} {s0 s : State} (h0 : Keeps ps s0 s) (i : Nat) (_ : Part.dict ∈ ps := by assumption) (_ : Part.tether ∈ ps := by assumption) (_ : Part.log ∈ ps := by assumption) : Keeps ps s0 (s.crossingAccepted i) := by
  unfold State.crossingAccepted
  try dsimp only
  repeat' first
    | with_reducible exact h0
    | with_reducible assumption
    | with_reducible apply Keeps.ite
    | with_reducible apply State.zxMeasure_keeps
    | with_reducible apply State.referenceCrossing_keeps
    | with_reducible apply State.becomeReference_keeps
    | split
    | dsimp only

theorem State.crossingUnqualified_keeps {ps : List Part} {s0 s : State} (h0 : Keeps ps s0 s) (i : Nat) (_ : Part.dict ∈ ps := by assumption) (_ : Part.tether ∈ ps := by assumption) (_ : Part.log ∈ ps := by assumption) : Keeps ps s0 (s.crossingUnqualified i) := by
  unfold State.crossingUnqualified
  try dsimp only
  repeat' first
    | with_reducible exact h0
    | with_reducible assumption
    | with_reducible apply Keeps.ite
    | with_reducible apply State.setZx_keeps
    | with_reducible apply State.crossingAccepted_keeps
    | split
    | fail_if_no_progress refine Keeps.record ?_ rfl rfl rfl rfl rfl rfl rfl rfl rfl rfl rfl rfl rfl rfl rfl rfl rfl rfl rfl
    | dsimp only

theorem State.crossingQualified_keeps {ps : List Part} {s0 s : State} (h0 : Keeps ps s0 s) (i : Nat) (_ : Part.dict ∈ ps := by assumption) (_ : Part.tether ∈ ps := by assumption) (_ : Part.log ∈ ps := by assumption) : Keeps ps s0 (s.crossingQualified i) := by
  unfold State.crossingQualified
  try dsimp only
  repeat' first
    | with_reducible exact h0
    | with_reducible assumption
    | with_reducible apply Keeps.ite
    | with_reducible apply State.setZx_keeps
    | with_reducible apply State.crossingAccepted_keeps
    | with_reducible apply State.zxLost_keeps
    | with_reducible apply State.zxMiss_keeps
    | split
    | fail_if_no_progress refine Keeps.record ?_ rfl rfl rfl rfl rfl rfl rfl rfl rfl rfl rfl rfl rfl rfl rfl rfl rfl rfl rfl
    | dsimp only

theorem State.tetherBoundary_keeps {ps : List Part} {s0 s : State} (h0 : Keeps ps s0 s)  (_ : Part.tether ∈ ps := by assumption) : Keeps ps s0 (s.tetherBoundary) := by
  unfold State.tetherBoundary
  try dsimp only
  repeat' first
    | with_reducible exact h0
    | with_reducible assumption
    | with_reducible apply Keeps.ite
    | split
    | fail_if_no_progress refine Keeps.record ?_ rfl rfl rfl rfl rfl rfl rfl rfl rfl rfl rfl rfl rfl rfl rfl rfl rfl rfl rfl

theorem State.tetherCommit_keeps {ps : List Part} {s0 s : State} (h0 : Keeps ps s0 s) (oldLag : Nat → Nat) (mask : Bool) (_ : Part.dict ∈ ps := by assumption) (_ : Part.tether ∈ ps := by assumption) : Keeps ps s0 (s.tetherCommit oldLag mask) := by
  unfold State.tetherCommit
  try dsimp only
  repeat' first
    | with_reducible exact h0
    | with_reducible assumption
    | with_reducible apply Keeps.ite
    | with_reducible apply State.settleReference_keeps
    | split
    | fail_if_no_progress refine Keeps.record ?_ rfl rfl rfl rfl rfl rfl rfl rfl rfl rfl rfl rfl rfl rfl rfl rfl rfl rfl rfl
    | dsimp only

/-! ## DigestOps -/

theorem State.clearMismatch_keeps {ps : List Part} {s0 s : State} (h0 : Keeps ps s0 s) (kind id : Nat) (_ : Part.mgr ∈ ps := by assumption) (_ : Part.log ∈ ps := by assumption) : Keeps ps s0 (s.clearMismatch kind id) := by
  unfold State.clearMismatch
  try dsimp only
  repeat' first
    | with_reducible exact h0
    | with_reducible assumption
    | with_reducible apply State.event_keeps
    | split
    | fail_if_no_progress refine Keeps.record ?_ rfl rfl rfl rfl rfl rfl rfl rfl rfl rfl rfl rfl rfl rfl rfl rfl rfl rfl rfl
    | dsimp only

theorem State.listMismatch_keeps {ps : List Part} {s0 s : State} (h0 : Keeps ps s0 s) (kind id epoch regions : Nat) (_ : Part.dict ∈ ps := by assumption) (_ : Part.mgr ∈ ps := by assumption) (_ : Part.log ∈ ps := by assumption) : Keeps ps s0 (s.listMismatch kind id epoch regions) := by
  unfold State.listMismatch
  try dsimp only
  repeat' first
    | with_reducible exact h0
    | with_reducible assumption
    | with_reducible apply State.event_keeps
    | with_reducible apply State.bump_keeps
    | split
    | fail_if_no_progress refine Keeps.record ?_ rfl rfl rfl rfl rfl rfl rfl rfl rfl rfl rfl rfl rfl rfl rfl rfl rfl rfl rfl
    | dsimp only

theorem State.compareReport_keeps {ps : List Part} {s0 s : State} (h0 : Keeps ps s0 s) (kind id epoch : Nat) (digests : List Nat) (_ : Part.dict ∈ ps := by assumption) (_ : Part.mgr ∈ ps := by assumption) (_ : Part.log ∈ ps := by assumption) : Keeps ps s0 (s.compareReport kind id epoch digests) := by
  unfold State.compareReport
  try dsimp only
  repeat' first
    | with_reducible exact h0
    | with_reducible assumption
    | with_reducible apply Keeps.ite
    | with_reducible apply State.clearMismatch_keeps
    | with_reducible apply State.listMismatch_keeps
    | split
    | dsimp only

/-! ## HierOps -/

theorem State.requestSwap_keeps {ps : List Part} {s0 s : State} (h0 : Keeps ps s0 s) (src reason : Nat) (_ : Part.sup ∈ ps := by assumption) : Keeps ps s0 (s.requestSwap src reason) := by
  unfold State.requestSwap
  try dsimp only
  repeat' first
    | with_reducible exact h0
    | with_reducible assumption
    | with_reducible apply State.setUnit_keeps
    | split
    | fail_if_no_progress refine Keeps.record ?_ rfl rfl rfl rfl rfl rfl rfl rfl rfl rfl rfl rfl rfl rfl rfl rfl rfl rfl rfl
    | dsimp only

theorem State.endSwap_keeps {ps : List Part} {s0 s : State} (h0 : Keeps ps s0 s) (q : SwapRequest) (moved : Bool) (_ : Part.log ∈ ps := by assumption) (_ : Part.rst ∈ ps := by assumption) (_ : Part.sup ∈ ps := by assumption) : Keeps ps s0 (s.endSwap q moved) := by
  unfold State.endSwap
  try dsimp only
  repeat' first
    | with_reducible exact h0
    | with_reducible assumption
    | with_reducible apply Keeps.ite
    | with_reducible apply State.setUnit_keeps
    | with_reducible apply State.event_keeps
    | split
    | fail_if_no_progress refine Keeps.record ?_ rfl rfl rfl rfl rfl rfl rfl rfl rfl rfl rfl rfl rfl rfl rfl rfl rfl rfl rfl
    | dsimp only

theorem State.requestIdle_keeps {ps : List Part} {s0 s : State} (h0 : Keeps ps s0 s) (r b time : Nat) (_ : Part.hier ∈ ps := by assumption) : Keeps ps s0 (s.requestIdle r b time) := by
  unfold State.requestIdle
  try dsimp only
  repeat' first
    | with_reducible exact h0
    | with_reducible assumption
    | with_reducible apply State.setBlock_keeps
    | fail_if_no_progress refine Keeps.record ?_ rfl rfl rfl rfl rfl rfl rfl rfl rfl rfl rfl rfl rfl rfl rfl rfl rfl rfl rfl
    | dsimp only

theorem State.queueReset_keeps {ps : List Part} {s0 s : State} (h0 : Keeps ps s0 s) (r b : Nat) (_ : Part.hier ∈ ps := by assumption) : Keeps ps s0 (s.queueReset r b) := by
  unfold State.queueReset
  try dsimp only
  repeat' first
    | with_reducible exact h0
    | with_reducible assumption
    | fail_if_no_progress refine Keeps.record ?_ rfl rfl rfl rfl rfl rfl rfl rfl rfl rfl rfl rfl rfl rfl rfl rfl rfl rfl rfl

theorem State.regionReset_keeps {ps : List Part} {s0 s : State} (h0 : Keeps ps s0 s) (r b : Nat) (_ : Part.hier ∈ ps := by assumption) : Keeps ps s0 (s.regionReset r b) := by
  unfold State.regionReset
  try dsimp only
  repeat' first
    | with_reducible exact h0
    | with_reducible assumption
    | with_reducible apply Keeps.ite
    | with_reducible apply State.setBlock_keeps
    | with_reducible apply State.queueReset_keeps
    | with_reducible apply State.requestIdle_keeps
    | split
    | fail_if_no_progress refine Keeps.record ?_ rfl rfl rfl rfl rfl rfl rfl rfl rfl rfl rfl rfl rfl rfl rfl rfl rfl rfl rfl
    | dsimp only

theorem State.regionNext_keeps {ps : List Part} {s0 s : State} (h0 : Keeps ps s0 s) (r : Nat) (_ : Part.hier ∈ ps := by assumption) : Keeps ps s0 (s.regionNext r) := by
  unfold State.regionNext
  try dsimp only
  repeat' first
    | with_reducible exact h0
    | with_reducible assumption
    | with_reducible apply State.requestIdle_keeps
    | split
    | fail_if_no_progress refine Keeps.record ?_ rfl rfl rfl rfl rfl rfl rfl rfl rfl rfl rfl rfl rfl rfl rfl rfl rfl rfl rfl
    | dsimp only

theorem State.engineItems_keeps {ps : List Part} {s0 s : State} (h0 : Keeps ps s0 s) (r b c : Nat) (_ : Part.hier ∈ ps := by assumption) : Keeps ps s0 (s.engineItems r b c) := by
  unfold State.engineItems
  try dsimp only
  repeat' first
    | with_reducible exact h0
    | with_reducible assumption
    | with_reducible apply State.setBlock_keeps
    | fail_if_no_progress refine Keeps.record ?_ rfl rfl rfl rfl rfl rfl rfl rfl rfl rfl rfl rfl rfl rfl rfl rfl rfl rfl rfl
    | dsimp only

theorem State.poolItems_keeps {ps : List Part} {s0 s : State} (h0 : Keeps ps s0 s) (c : Nat) (_ : Part.hier ∈ ps := by assumption) : Keeps ps s0 (s.poolItems c) := by
  unfold State.poolItems
  try dsimp only
  repeat' first
    | with_reducible exact h0
    | with_reducible assumption
    | fail_if_no_progress refine Keeps.record ?_ rfl rfl rfl rfl rfl rfl rfl rfl rfl rfl rfl rfl rfl rfl rfl rfl rfl rfl rfl
    | dsimp only

theorem State.coreItems_keeps {ps : List Part} {s0 s : State} (h0 : Keeps ps s0 s) (c : Nat) (_ : Part.cipher ∈ ps := by assumption) : Keeps ps s0 (s.coreItems c) := by
  unfold State.coreItems
  try dsimp only
  repeat' first
    | with_reducible exact h0
    | with_reducible assumption
    | with_reducible apply Keeps.ite
    | split
    | fail_if_no_progress refine Keeps.record ?_ rfl rfl rfl rfl rfl rfl rfl rfl rfl rfl rfl rfl rfl rfl rfl rfl rfl rfl rfl
    | dsimp only

theorem State.checkItems_keeps {ps : List Part} {s0 s : State} (h0 : Keeps ps s0 s) (c : Nat) (_ : Part.checkParts ∈ ps := by assumption) : Keeps ps s0 (s.checkItems c) := by
  unfold State.checkItems
  try dsimp only
  repeat' first
    | with_reducible exact h0
    | with_reducible assumption
    | with_reducible apply Keeps.ite
    | split
    | fail_if_no_progress refine Keeps.record ?_ rfl rfl rfl rfl rfl rfl rfl rfl rfl rfl rfl rfl rfl rfl rfl rfl rfl rfl rfl

theorem State.reopen_keeps {ps : List Part} {s0 s : State} (h0 : Keeps ps s0 s) (r b c : Nat) (_ : Part.hier ∈ ps := by assumption) (_ : Part.cipher ∈ ps := by assumption) (_ : Part.checkParts ∈ ps := by assumption) : Keeps ps s0 (s.reopen r b c) := by
  unfold State.reopen
  repeat' first
    | with_reducible exact h0
    | with_reducible assumption
    | with_reducible apply Keeps.ite
    | with_reducible apply State.engineItems_keeps
    | with_reducible apply State.poolItems_keeps
    | with_reducible apply State.coreItems_keeps
    | with_reducible apply State.checkItems_keeps
    | split

theorem State.fallBack_keeps {ps : List Part} {s0 s : State} (h0 : Keeps ps s0 s) (src : Nat) (_ : Part.hier ∈ ps := by assumption) : Keeps ps s0 (s.fallBack src) := by
  unfold State.fallBack
  try dsimp only
  repeat' first
    | with_reducible exact h0
    | with_reducible assumption
    | with_reducible apply Keeps.ite
    | with_reducible apply State.regionReset_keeps
    | split
    | dsimp only

theorem State.standIn_keeps {ps : List Part} {s0 s : State} (h0 : Keeps ps s0 s) (src : Nat) (_ : Part.hier ∈ ps := by assumption) (_ : Part.sup ∈ ps := by assumption) : Keeps ps s0 (s.standIn src) := by
  unfold State.standIn
  try dsimp only
  repeat' first
    | with_reducible exact h0
    | with_reducible assumption
    | with_reducible apply Keeps.ite
    | with_reducible apply State.requestSwap_keeps
    | with_reducible apply State.setUnit_keeps
    | with_reducible apply State.fallBack_keeps
    | split
    | fail_if_no_progress refine Keeps.record ?_ rfl rfl rfl rfl rfl rfl rfl rfl rfl rfl rfl rfl rfl rfl rfl rfl rfl rfl rfl
    | dsimp only

theorem State.escalate_keeps {ps : List Part} {s0 s : State} (h0 : Keeps ps s0 s) (src : Nat) (_ : Part.hier ∈ ps := by assumption) (_ : Part.sup ∈ ps := by assumption) : Keeps ps s0 (s.escalate src) := by
  unfold State.escalate
  try dsimp only
  repeat' first
    | with_reducible exact h0
    | with_reducible assumption
    | with_reducible apply Keeps.ite
    | with_reducible apply State.standIn_keeps
    | with_reducible apply State.regionReset_keeps
    | split
    | dsimp only

theorem State.withdraw_keeps {ps : List Part} {s0 s : State} (h0 : Keeps ps s0 s) (r b c : Nat) (_ : Part.hier ∈ ps := by assumption) (_ : Part.log ∈ ps := by assumption) (_ : Part.cipher ∈ ps := by assumption) (_ : Part.checkParts ∈ ps := by assumption) (_ : Part.sup ∈ ps := by assumption) : Keeps ps s0 (s.withdraw r b c) := by
  unfold State.withdraw
  try dsimp only
  repeat' first
    | with_reducible exact h0
    | with_reducible assumption
    | with_reducible apply Keeps.ite
    | with_reducible apply State.setBlock_keeps
    | with_reducible apply State.event_keeps
    | with_reducible apply State.reopen_keeps
    | with_reducible apply State.standIn_keeps
    | split
    | fail_if_no_progress refine Keeps.record ?_ rfl rfl rfl rfl rfl rfl rfl rfl rfl rfl rfl rfl rfl rfl rfl rfl rfl rfl rfl
    | dsimp only

theorem State.dropTransfers_keeps {ps : List Part} {s0 s : State} (h0 : Keeps ps s0 s) (r b : Nat) (_ : Part.hier ∈ ps := by assumption) : Keeps ps s0 (s.dropTransfers r b) := by
  unfold State.dropTransfers
  try dsimp only
  repeat' first
    | with_reducible exact h0
    | with_reducible assumption
    | fail_if_no_progress refine Keeps.record ?_ rfl rfl rfl rfl rfl rfl rfl rfl rfl rfl rfl rfl rfl rfl rfl rfl rfl rfl rfl

theorem State.contain_keeps {ps : List Part} {s0 s : State} (h0 : Keeps ps s0 s) (src : Nat) (_ : Part.hier ∈ ps := by assumption) (_ : Part.log ∈ ps := by assumption) (_ : Part.cipher ∈ ps := by assumption) (_ : Part.checkParts ∈ ps := by assumption) (_ : Part.sup ∈ ps := by assumption) : Keeps ps s0 (s.contain src) := by
  unfold State.contain
  try dsimp only
  repeat' first
    | with_reducible exact h0
    | with_reducible assumption
    | with_reducible apply Keeps.ite
    | with_reducible apply State.withdraw_keeps
    | with_reducible apply State.escalate_keeps
    | split
    | dsimp only

theorem State.replaceBank_keeps {ps : List Part} {s0 s : State} (h0 : Keeps ps s0 s) (src : Nat) (_ : Part.sup ∈ ps := by assumption) : Keeps ps s0 (s.replaceBank src) := by
  unfold State.replaceBank
  repeat' first
    | with_reducible exact h0
    | with_reducible assumption
    | with_reducible apply Keeps.ite
    | with_reducible apply State.requestSwap_keeps
    | split

/-! ## RouteOps -/

theorem State.markSelected_keeps {ps : List Part} {s0 s : State} (h0 : Keeps ps s0 s) (e : Nat) (c : Option Nat) (_ : Part.routes ∈ ps := by assumption) : Keeps ps s0 (s.markSelected e c) := by
  unfold State.markSelected
  try dsimp only
  repeat' first
    | with_reducible exact h0
    | with_reducible assumption
    | with_reducible exact Keeps.refl _ _
    | with_reducible apply Keeps.ite
    | with_reducible apply State.setRoute_keeps
    | (with_reducible apply Keeps.each) <;> try intro _ _
    | split
    | fail_if_no_progress refine Keeps.record ?_ rfl rfl rfl rfl rfl rfl rfl rfl rfl rfl rfl rfl rfl rfl rfl rfl rfl rfl rfl
    | dsimp only

theorem State.touchEndpoint_keeps {ps : List Part} {s0 s : State} (h0 : Keeps ps s0 s) (e : Nat) (_ : Part.routes ∈ ps := by assumption) : Keeps ps s0 (s.touchEndpoint e) := by
  unfold State.touchEndpoint
  try dsimp only
  repeat' first
    | with_reducible exact h0
    | with_reducible assumption
    | with_reducible apply Keeps.ite
    | split
    | fail_if_no_progress refine Keeps.record ?_ rfl rfl rfl rfl rfl rfl rfl rfl rfl rfl rfl rfl rfl rfl rfl rfl rfl rfl rfl

theorem State.writeRoute_keeps {ps : List Part} {s0 s : State} (h0 : Keeps ps s0 s) (pos : Nat) (r : RouteEntry) (_ : Part.routes ∈ ps := by assumption) : Keeps ps s0 (s.writeRoute pos r) := by
  unfold State.writeRoute
  repeat' first
    | with_reducible exact h0
    | with_reducible assumption
    | with_reducible apply State.setRoute_keeps
    | with_reducible apply State.touchEndpoint_keeps

theorem State.touchPort_keeps {ps : List Part} {s0 s : State} (h0 : Keeps ps s0 s) (p : Nat) (_ : Part.routes ∈ ps := by assumption) : Keeps ps s0 (s.touchPort p) := by
  unfold State.touchPort
  repeat' first
    | with_reducible exact h0
    | with_reducible assumption
    | with_reducible exact Keeps.refl _ _
    | with_reducible apply State.touchEndpoint_keeps
    | (with_reducible apply Keeps.each) <;> try intro _ _
    | dsimp only

theorem State.confirmRoute_keeps {ps : List Part} {s0 s : State} (h0 : Keeps ps s0 s) (pos : Nat) (_ : Part.routes ∈ ps := by assumption) : Keeps ps s0 (s.confirmRoute pos) := by
  unfold State.confirmRoute
  try dsimp only
  repeat' first
    | with_reducible exact h0
    | with_reducible assumption
    | with_reducible apply Keeps.ite
    | with_reducible apply State.setRoute_keeps
    | split
    | fail_if_no_progress refine Keeps.record ?_ rfl rfl rfl rfl rfl rfl rfl rfl rfl rfl rfl rfl rfl rfl rfl rfl rfl rfl rfl

theorem State.updateRoute_keeps {ps : List Part} {s0 s : State} (h0 : Keeps ps s0 s) (pos : Nat) (r : RouteEntry) (created : Bool) (_ : Part.routes ∈ ps := by assumption) : Keeps ps s0 (s.updateRoute pos r created) := by
  unfold State.updateRoute
  try dsimp only
  repeat' first
    | with_reducible exact h0
    | with_reducible assumption
    | with_reducible apply State.touchEndpoint_keeps
    | fail_if_no_progress refine Keeps.record ?_ rfl rfl rfl rfl rfl rfl rfl rfl rfl rfl rfl rfl rfl rfl rfl rfl rfl rfl rfl
    | dsimp only

theorem State.newRoute_keeps {ps : List Part} {s0 s : State} (h0 : Keeps ps s0 s) (e : Nat) (r : RouteEntry) (_ : Part.dict ∈ ps := by assumption) (_ : Part.routes ∈ ps := by assumption) : Keeps ps s0 (s.newRoute e r) := by
  unfold State.newRoute
  try dsimp only
  repeat' first
    | with_reducible exact h0
    | with_reducible assumption
    | with_reducible apply State.updateRoute_keeps
    | with_reducible apply State.bump_keeps
    | split
    | fail_if_no_progress refine Keeps.record ?_ rfl rfl rfl rfl rfl rfl rfl rfl rfl rfl rfl rfl rfl rfl rfl rfl rfl rfl rfl
    | dsimp only

theorem State.learnRoute_keeps {ps : List Part} {s0 s : State} (h0 : Keeps ps s0 s) (orig src p l hopsLeft : Nat) (_ : Part.dict ∈ ps := by assumption) (_ : Part.routes ∈ ps := by assumption) : Keeps ps s0 (s.learnRoute orig src p l hopsLeft) := by
  unfold State.learnRoute
  try dsimp only
  repeat' first
    | with_reducible exact h0
    | with_reducible assumption
    | with_reducible apply Keeps.ite
    | with_reducible apply State.confirmRoute_keeps
    | with_reducible apply State.newRoute_keeps
    | split
    | fail_if_no_progress refine Keeps.record ?_ rfl rfl rfl rfl rfl rfl rfl rfl rfl rfl rfl rfl rfl rfl rfl rfl rfl rfl rfl
    | dsimp only

theorem State.reportRoute_keeps {ps : List Part} {s0 s : State} (h0 : Keeps ps s0 s) (e n p l hops metric : Nat) (_ : Part.dict ∈ ps := by assumption) (_ : Part.routes ∈ ps := by assumption) : Keeps ps s0 (s.reportRoute e n p l hops metric) := by
  unfold State.reportRoute
  try dsimp only
  repeat' first
    | with_reducible exact h0
    | with_reducible assumption
    | with_reducible apply Keeps.ite
    | with_reducible apply State.confirmRoute_keeps
    | with_reducible apply State.updateRoute_keeps
    | with_reducible apply State.newRoute_keeps
    | split
    | fail_if_no_progress refine Keeps.record ?_ rfl rfl rfl rfl rfl rfl rfl rfl rfl rfl rfl rfl rfl rfl rfl rfl rfl rfl rfl
    | dsimp only

theorem State.staleLink_keeps {ps : List Part} {s0 s : State} (h0 : Keeps ps s0 s) (k : Nat) (_ : Part.routes ∈ ps := by assumption) : Keeps ps s0 (s.staleLink k) := by
  unfold State.staleLink
  try dsimp only
  repeat' first
    | with_reducible exact h0
    | with_reducible assumption
    | with_reducible apply Keeps.ite
    | with_reducible apply State.setLink_keeps
    | split
    | fail_if_no_progress refine Keeps.record ?_ rfl rfl rfl rfl rfl rfl rfl rfl rfl rfl rfl rfl rfl rfl rfl rfl rfl rfl rfl
    | dsimp only

theorem State.clearRoute_keeps {ps : List Part} {s0 s : State} (h0 : Keeps ps s0 s) (pos : Nat) (_ : Part.routes ∈ ps := by assumption) : Keeps ps s0 (s.clearRoute pos) := by
  unfold State.clearRoute
  try dsimp only
  repeat' first
    | with_reducible exact h0
    | with_reducible assumption
    | with_reducible apply State.writeRoute_keeps
    | fail_if_no_progress refine Keeps.record ?_ rfl rfl rfl rfl rfl rfl rfl rfl rfl rfl rfl rfl rfl rfl rfl rfl rfl rfl rfl

theorem State.invalidateRoute_keeps {ps : List Part} {s0 s : State} (h0 : Keeps ps s0 s) (pos : Nat) (_ : Part.routes ∈ ps := by assumption) : Keeps ps s0 (s.invalidateRoute pos) := by
  unfold State.invalidateRoute
  try dsimp only
  repeat' first
    | with_reducible exact h0
    | with_reducible assumption
    | with_reducible exact Keeps.refl _ _
    | with_reducible apply Keeps.ite
    | with_reducible apply State.clearRoute_keeps
    | with_reducible apply State.staleLink_keeps
    | (with_reducible apply Keeps.each) <;> try intro _ _
    | split
    | fail_if_no_progress refine Keeps.record ?_ rfl rfl rfl rfl rfl rfl rfl rfl rfl rfl rfl rfl rfl rfl rfl rfl rfl rfl rfl
    | dsimp only

theorem State.dropFailed_keeps {ps : List Part} {s0 s : State} (h0 : Keeps ps s0 s) (e : Nat) (_ : Part.dict ∈ ps := by assumption) (_ : Part.routes ∈ ps := by assumption) : Keeps ps s0 (s.dropFailed e) := by
  unfold State.dropFailed
  repeat' first
    | with_reducible exact h0
    | with_reducible assumption
    | with_reducible exact Keeps.refl _ _
    | with_reducible apply Keeps.ite
    | with_reducible apply State.invalidateRoute_keeps
    | with_reducible apply State.bump_keeps
    | (with_reducible apply Keeps.each) <;> try intro _ _
    | split
    | dsimp only

theorem State.applyUpdates_keeps {ps : List Part} {s0 s : State} (h0 : Keeps ps s0 s) (hostWrote : List Nat) (_ : Part.dict ∈ ps := by assumption) (_ : Part.routes ∈ ps := by assumption) : Keeps ps s0 (s.applyUpdates hostWrote) := by
  unfold State.applyUpdates
  try dsimp only
  repeat' first
    | with_reducible exact h0
    | with_reducible assumption
    | with_reducible exact Keeps.refl _ _
    | with_reducible apply Keeps.ite
    | with_reducible apply State.bump_keeps
    | with_reducible apply State.writeRoute_keeps
    | (with_reducible apply Keeps.each) <;> try intro _ _
    | split
    | fail_if_no_progress refine Keeps.record ?_ rfl rfl rfl rfl rfl rfl rfl rfl rfl rfl rfl rfl rfl rfl rfl rfl rfl rfl rfl
    | dsimp only

theorem State.touchLink_keeps {ps : List Part} {s0 s : State} (h0 : Keeps ps s0 s) (p l e : Nat) (_ : Part.dict ∈ ps := by assumption) (_ : Part.routes ∈ ps := by assumption) : Keeps ps s0 (s.touchLink p l e) := by
  unfold State.touchLink
  try dsimp only
  repeat' first
    | with_reducible exact h0
    | with_reducible assumption
    | with_reducible apply Keeps.ite
    | with_reducible apply State.setLink_keeps
    | with_reducible apply State.bump_keeps
    | split
    | fail_if_no_progress refine Keeps.record ?_ rfl rfl rfl rfl rfl rfl rfl rfl rfl rfl rfl rfl rfl rfl rfl rfl rfl rfl rfl
    | dsimp only

theorem State.releaseLink_keeps {ps : List Part} {s0 s : State} (h0 : Keeps ps s0 s) (k : Nat) (_ : Part.routes ∈ ps := by assumption) : Keeps ps s0 (s.releaseLink k) := by
  unfold State.releaseLink
  try dsimp only
  repeat' first
    | with_reducible exact h0
    | with_reducible assumption
    | with_reducible exact Keeps.refl _ _
    | with_reducible apply Keeps.ite
    | with_reducible apply State.setLink_keeps
    | with_reducible apply State.writeRoute_keeps
    | with_reducible apply State.clearRoute_keeps
    | (with_reducible apply Keeps.each) <;> try intro _ _
    | split
    | fail_if_no_progress refine Keeps.record ?_ rfl rfl rfl rfl rfl rfl rfl rfl rfl rfl rfl rfl rfl rfl rfl rfl rfl rfl rfl
    | dsimp only

theorem State.releaseBy_keeps {ps : List Part} {s0 s : State} (h0 : Keeps ps s0 s) (k writer : Nat) (_ : Part.routes ∈ ps := by assumption) : Keeps ps s0 (s.releaseBy k writer) := by
  unfold State.releaseBy
  try dsimp only
  repeat' first
    | with_reducible exact h0
    | with_reducible assumption
    | with_reducible apply State.releaseLink_keeps
    | with_reducible apply State.setLink_keeps
    | fail_if_no_progress refine Keeps.record ?_ rfl rfl rfl rfl rfl rfl rfl rfl rfl rfl rfl rfl rfl rfl rfl rfl rfl rfl rfl
    | dsimp only

theorem State.offsetBy_keeps {ps : List Part} {s0 s : State} (h0 : Keeps ps s0 s) (k writer offset : Nat) (_ : Part.routes ∈ ps := by assumption) : Keeps ps s0 (s.offsetBy k writer offset) := by
  unfold State.offsetBy
  try dsimp only
  repeat' first
    | with_reducible exact h0
    | with_reducible assumption
    | with_reducible apply State.setLink_keeps
    | fail_if_no_progress refine Keeps.record ?_ rfl rfl rfl rfl rfl rfl rfl rfl rfl rfl rfl rfl rfl rfl rfl rfl rfl rfl rfl

theorem State.costLink_keeps {ps : List Part} {s0 s : State} (h0 : Keeps ps s0 s) (k : Nat) (x : Link) (_ : Part.routes ∈ ps := by assumption) : Keeps ps s0 (s.costLink k x) := by
  unfold State.costLink
  try dsimp only
  repeat' first
    | with_reducible exact h0
    | with_reducible assumption
    | with_reducible apply State.setLink_keeps
    | fail_if_no_progress refine Keeps.record ?_ rfl rfl rfl rfl rfl rfl rfl rfl rfl rfl rfl rfl rfl rfl rfl rfl rfl rfl rfl

theorem State.queueMesh_keeps {ps : List Part} {s0 s : State} (h0 : Keeps ps s0 s) (p l : Nat) (f : MacFrame) (_ : Part.lanes ∈ ps := by assumption) : Keeps ps s0 (s.queueMesh p l f) := by
  unfold State.queueMesh
  try dsimp only
  repeat' first
    | with_reducible exact h0
    | with_reducible assumption
    | with_reducible apply State.setTx_keeps
    | fail_if_no_progress refine Keeps.record ?_ rfl rfl rfl rfl rfl rfl rfl rfl rfl rfl rfl rfl rfl rfl rfl rfl rfl rfl rfl

theorem State.sendTmap_keeps {ps : List Part} {s0 s : State} (h0 : Keeps ps s0 s) (k : Nat) (dn up : ToneMaps) (_ : Part.lanes ∈ ps := by assumption) (_ : Part.routes ∈ ps := by assumption) : Keeps ps s0 (s.sendTmap k dn up) := by
  unfold State.sendTmap
  try dsimp only
  repeat' first
    | with_reducible exact h0
    | with_reducible assumption
    | with_reducible apply State.setLink_keeps
    | with_reducible apply State.setTx_keeps
    | with_reducible apply State.queueMesh_keeps
    | fail_if_no_progress refine Keeps.record ?_ rfl rfl rfl rfl rfl rfl rfl rfl rfl rfl rfl rfl rfl rfl rfl rfl rfl rfl rfl
    | dsimp only

theorem State.planLink_keeps {ps : List Part} {s0 s : State} (h0 : Keeps ps s0 s) (k : Nat) (_ : Part.free ∈ ps := by assumption) (_ : Part.lanes ∈ ps := by assumption) (_ : Part.routes ∈ ps := by assumption) : Keeps ps s0 (s.planLink k) := by
  unfold State.planLink
  try dsimp only
  repeat' first
    | with_reducible exact h0
    | with_reducible assumption
    | with_reducible apply Keeps.ite
    | with_reducible apply State.setLink_keeps
    | with_reducible apply State.sendTmap_keeps
    | split
    | fail_if_no_progress refine Keeps.record ?_ rfl rfl rfl rfl rfl rfl rfl rfl rfl rfl rfl rfl rfl rfl rfl rfl rfl rfl rfl
    | dsimp only

theorem State.activateTmap_keeps {ps : List Part} {s0 s : State} (h0 : Keeps ps s0 s) (k : Nat) (_ : Part.routes ∈ ps := by assumption) : Keeps ps s0 (s.activateTmap k) := by
  unfold State.activateTmap
  try dsimp only
  repeat' first
    | with_reducible exact h0
    | with_reducible assumption
    | with_reducible apply Keeps.ite
    | with_reducible apply State.costLink_keeps
    | split
    | fail_if_no_progress refine Keeps.record ?_ rfl rfl rfl rfl rfl rfl rfl rfl rfl rfl rfl rfl rfl rfl rfl rfl rfl rfl rfl
    | dsimp only

theorem State.repairFromReports_keeps {ps : List Part} {s0 s : State} (h0 : Keeps ps s0 s) (e : Nat) (_ : Part.dict ∈ ps := by assumption) (_ : Part.routes ∈ ps := by assumption) : Keeps ps s0 (s.repairFromReports e) := by
  unfold State.repairFromReports
  try dsimp only
  repeat' first
    | with_reducible exact h0
    | with_reducible assumption
    | with_reducible exact Keeps.refl _ _
    | with_reducible apply State.newRoute_keeps
    | (with_reducible apply Keeps.each) <;> try intro _ _
    | split
    | fail_if_no_progress refine Keeps.record ?_ rfl rfl rfl rfl rfl rfl rfl rfl rfl rfl rfl rfl rfl rfl rfl rfl rfl rfl rfl
    | dsimp only

theorem State.sendProbe_keeps {ps : List Part} {s0 s : State} (h0 : Keeps ps s0 s) (r : Repair) (_ : Part.dict ∈ ps := by assumption) (_ : Part.lanes ∈ ps := by assumption) (_ : Part.routes ∈ ps := by assumption) : Keeps ps s0 (s.sendProbe r) := by
  unfold State.sendProbe
  try dsimp only
  repeat' first
    | with_reducible exact h0
    | with_reducible assumption
    | with_reducible exact Keeps.refl _ _
    | with_reducible apply Keeps.ite
    | with_reducible apply State.queueMesh_keeps
    | with_reducible apply State.bump_keeps
    | (with_reducible apply Keeps.each) <;> try intro _ _
    | split
    | fail_if_no_progress refine Keeps.record ?_ rfl rfl rfl rfl rfl rfl rfl rfl rfl rfl rfl rfl rfl rfl rfl rfl rfl rfl rfl
    | dsimp only

theorem State.noteFailed_keeps {ps : List Part} {s0 s : State} (h0 : Keeps ps s0 s) (e : Nat) (failed : Bool) (_ : Part.routes ∈ ps := by assumption) : Keeps ps s0 (s.noteFailed e failed) := by
  unfold State.noteFailed
  try dsimp only
  repeat' first
    | with_reducible exact h0
    | with_reducible assumption
    | with_reducible apply Keeps.ite
    | split
    | fail_if_no_progress refine Keeps.record ?_ rfl rfl rfl rfl rfl rfl rfl rfl rfl rfl rfl rfl rfl rfl rfl rfl rfl rfl rfl
    | dsimp only

theorem State.endRepair_keeps {ps : List Part} {s0 s : State} (h0 : Keeps ps s0 s) (e sub : Nat) (_ : Part.dict ∈ ps := by assumption) (_ : Part.routes ∈ ps := by assumption) : Keeps ps s0 (s.endRepair e sub) := by
  unfold State.endRepair
  try dsimp only
  repeat' first
    | with_reducible exact h0
    | with_reducible assumption
    | with_reducible apply State.noteFailed_keeps
    | with_reducible apply State.bump_keeps
    | fail_if_no_progress refine Keeps.record ?_ rfl rfl rfl rfl rfl rfl rfl rfl rfl rfl rfl rfl rfl rfl rfl rfl rfl rfl rfl

theorem State.startRepair_keeps {ps : List Part} {s0 s : State} (h0 : Keeps ps s0 s) (e : Nat) (_ : Part.dict ∈ ps := by assumption) (_ : Part.lanes ∈ ps := by assumption) (_ : Part.routes ∈ ps := by assumption) : Keeps ps s0 (s.startRepair e) := by
  unfold State.startRepair
  try dsimp only
  repeat' first
    | with_reducible exact h0
    | with_reducible assumption
    | with_reducible apply Keeps.ite
    | with_reducible apply State.bump_keeps
    | with_reducible apply State.repairFromReports_keeps
    | with_reducible apply State.endRepair_keeps
    | with_reducible apply State.sendProbe_keeps
    | split
    | fail_if_no_progress refine Keeps.record ?_ rfl rfl rfl rfl rfl rfl rfl rfl rfl rfl rfl rfl rfl rfl rfl rfl rfl rfl rfl
    | dsimp only

theorem State.waitingProbes_keeps {ps : List Part} {s0 s : State} (h0 : Keeps ps s0 s)  (_ : Part.dict ∈ ps := by assumption) (_ : Part.lanes ∈ ps := by assumption) (_ : Part.routes ∈ ps := by assumption) : Keeps ps s0 (s.waitingProbes) := by
  unfold State.waitingProbes
  repeat' first
    | with_reducible exact h0
    | with_reducible assumption
    | with_reducible exact Keeps.refl _ _
    | with_reducible apply Keeps.ite
    | with_reducible apply State.sendProbe_keeps
    | (with_reducible apply Keeps.each) <;> try intro _ _
    | split
    | dsimp only

/-! ## SpoolOps -/

theorem State.postRing_keeps {ps : List Part} {s0 s : State} (h0 : Keeps ps s0 s) (f k : Nat) (data : Bytes) (_ : Part.out ∈ ps := by assumption) (_ : Part.pages ∈ ps := by assumption) : Keeps ps s0 (s.postRing f k data) := by
  unfold State.postRing
  try dsimp only
  repeat' first
    | with_reducible exact h0
    | with_reducible assumption
    | with_reducible apply Keeps.ite
    | with_reducible apply State.setPage_keeps
    | with_reducible apply State.emit_keeps
    | split
    | fail_if_no_progress refine Keeps.record ?_ rfl rfl rfl rfl rfl rfl rfl rfl rfl rfl rfl rfl rfl rfl rfl rfl rfl rfl rfl
    | dsimp only

theorem State.postTxc_keeps {ps : List Part} {s0 s : State} (h0 : Keeps ps s0 s) (f tag status retries ok failed : Nat) (_ : Part.out ∈ ps := by assumption) (_ : Part.pages ∈ ps := by assumption) : Keeps ps s0 (s.postTxc f tag status retries ok failed) := by
  unfold State.postTxc
  repeat' first
    | with_reducible exact h0
    | with_reducible assumption
    | with_reducible apply State.postRing_keeps

theorem State.leaveLists_keeps {ps : List Part} {s0 s : State} (h0 : Keeps ps s0 s) (k : Nat) (keep : Option Nat) (_ : Part.lanes ∈ ps := by assumption) : Keeps ps s0 (s.leaveLists k keep) := by
  unfold State.leaveLists
  try dsimp only
  repeat' first
    | with_reducible exact h0
    | with_reducible assumption
    | with_reducible exact Keeps.refl _ _
    | with_reducible apply Keeps.ite
    | with_reducible apply State.setLane_keeps
    | (with_reducible apply Keeps.each) <;> try intro _ _
    | split
    | fail_if_no_progress refine Keeps.record ?_ rfl rfl rfl rfl rfl rfl rfl rfl rfl rfl rfl rfl rfl rfl rfl rfl rfl rfl rfl
    | dsimp only

theorem State.settleSpool_keeps {ps : List Part} {s0 s : State} (h0 : Keeps ps s0 s) (k : Nat) (_ : Part.lanes ∈ ps := by assumption) (_ : Part.spools ∈ ps := by assumption) : Keeps ps s0 (s.settleSpool k) := by
  unfold State.settleSpool
  try dsimp only
  repeat' first
    | with_reducible exact h0
    | with_reducible assumption
    | with_reducible apply Keeps.ite
    | with_reducible apply State.setSpool_keeps
    | with_reducible apply State.leaveLists_keeps
    | with_reducible apply State.setTx_keeps
    | split
    | fail_if_no_progress refine Keeps.record ?_ rfl rfl rfl rfl rfl rfl rfl rfl rfl rfl rfl rfl rfl rfl rfl rfl rfl rfl rfl
    | dsimp only

theorem State.settleEndpoint_keeps {ps : List Part} {s0 s : State} (h0 : Keeps ps s0 s) (e : Nat) (_ : Part.lanes ∈ ps := by assumption) (_ : Part.spools ∈ ps := by assumption) : Keeps ps s0 (s.settleEndpoint e) := by
  unfold State.settleEndpoint
  repeat' first
    | with_reducible exact h0
    | with_reducible assumption
    | with_reducible exact Keeps.refl _ _
    | with_reducible apply State.settleSpool_keeps
    | (with_reducible apply Keeps.each) <;> try intro _ _
    | dsimp only

theorem State.finishPacket_keeps {ps : List Part} {s0 s : State} (h0 : Keeps ps s0 s) (h status : Nat) (_ : Part.out ∈ ps := by assumption) (_ : Part.spools ∈ ps := by assumption) (_ : Part.pages ∈ ps := by assumption) : Keeps ps s0 (s.finishPacket h status) := by
  unfold State.finishPacket
  try dsimp only
  repeat' first
    | with_reducible exact h0
    | with_reducible assumption
    | with_reducible apply State.postTxc_keeps
    | split
    | fail_if_no_progress refine Keeps.record ?_ rfl rfl rfl rfl rfl rfl rfl rfl rfl rfl rfl rfl rfl rfl rfl rfl rfl rfl rfl
    | dsimp only

theorem State.endPacket_keeps {ps : List Part} {s0 s : State} (h0 : Keeps ps s0 s) (k h status : Nat) (_ : Part.out ∈ ps := by assumption) (_ : Part.lanes ∈ ps := by assumption) (_ : Part.spools ∈ ps := by assumption) (_ : Part.pages ∈ ps := by assumption) : Keeps ps s0 (s.endPacket k h status) := by
  unfold State.endPacket
  repeat' first
    | with_reducible exact h0
    | with_reducible assumption
    | with_reducible apply State.setSpool_keeps
    | with_reducible apply State.finishPacket_keeps
    | with_reducible apply State.settleSpool_keeps

theorem State.emptySpool_keeps {ps : List Part} {s0 s : State} (h0 : Keeps ps s0 s) (k status : Nat) (_ : Part.out ∈ ps := by assumption) (_ : Part.lanes ∈ ps := by assumption) (_ : Part.spools ∈ ps := by assumption) (_ : Part.pages ∈ ps := by assumption) : Keeps ps s0 (s.emptySpool k status) := by
  unfold State.emptySpool
  repeat' first
    | with_reducible exact h0
    | with_reducible assumption
    | with_reducible exact Keeps.refl _ _
    | with_reducible apply State.endPacket_keeps
    | (with_reducible apply Keeps.each) <;> try intro _ _
    | dsimp only

theorem State.spoolOn_keeps {ps : List Part} {s0 s : State} (h0 : Keeps ps s0 s) (k : Nat) (_ : Part.lanes ∈ ps := by assumption) (_ : Part.spools ∈ ps := by assumption) : Keeps ps s0 (s.spoolOn k) := by
  unfold State.spoolOn
  try dsimp only
  repeat' first
    | with_reducible exact h0
    | with_reducible assumption
    | with_reducible apply Keeps.ite
    | with_reducible apply State.setSpool_keeps
    | with_reducible apply State.settleSpool_keeps
    | split
    | fail_if_no_progress refine Keeps.record ?_ rfl rfl rfl rfl rfl rfl rfl rfl rfl rfl rfl rfl rfl rfl rfl rfl rfl rfl rfl
    | dsimp only

theorem State.spoolOff_keeps {ps : List Part} {s0 s : State} (h0 : Keeps ps s0 s) (k : Nat) (_ : Part.spools ∈ ps := by assumption) : Keeps ps s0 (s.spoolOff k) := by
  unfold State.spoolOff
  try dsimp only
  repeat' first
    | with_reducible exact h0
    | with_reducible assumption
    | with_reducible apply State.setSpool_keeps
    | fail_if_no_progress refine Keeps.record ?_ rfl rfl rfl rfl rfl rfl rfl rfl rfl rfl rfl rfl rfl rfl rfl rfl rfl rfl rfl

theorem State.spoolFlushOp_keeps {ps : List Part} {s0 s : State} (h0 : Keeps ps s0 s) (k : Nat) (_ : Part.out ∈ ps := by assumption) (_ : Part.lanes ∈ ps := by assumption) (_ : Part.spools ∈ ps := by assumption) (_ : Part.pages ∈ ps := by assumption) : Keeps ps s0 (s.spoolFlushOp k) := by
  unfold State.spoolFlushOp
  try dsimp only
  repeat' first
    | with_reducible exact h0
    | with_reducible assumption
    | with_reducible apply State.emptySpool_keeps
    | with_reducible apply State.setSpool_keeps
    | with_reducible apply State.settleSpool_keeps
    | fail_if_no_progress refine Keeps.record ?_ rfl rfl rfl rfl rfl rfl rfl rfl rfl rfl rfl rfl rfl rfl rfl rfl rfl rfl rfl
    | dsimp only

theorem State.requeue_keeps {ps : List Part} {s0 s : State} (h0 : Keeps ps s0 s) (k : Nat) (q : QueueItem) (_ : Part.lanes ∈ ps := by assumption) (_ : Part.spools ∈ ps := by assumption) : Keeps ps s0 (s.requeue k q) := by
  unfold State.requeue
  try dsimp only
  repeat' first
    | with_reducible exact h0
    | with_reducible assumption
    | with_reducible apply State.setSpool_keeps
    | with_reducible apply State.settleSpool_keeps
    | fail_if_no_progress refine Keeps.record ?_ rfl rfl rfl rfl rfl rfl rfl rfl rfl rfl rfl rfl rfl rfl rfl rfl rfl rfl rfl

theorem State.reselect_keeps {ps : List Part} {s0 s : State} (h0 : Keeps ps s0 s) (e : Nat) (_ : Part.dict ∈ ps := by assumption) (_ : Part.lanes ∈ ps := by assumption) (_ : Part.spools ∈ ps := by assumption) (_ : Part.routes ∈ ps := by assumption) : Keeps ps s0 (s.reselect e) := by
  unfold State.reselect
  try dsimp only
  repeat' first
    | with_reducible exact h0
    | with_reducible assumption
    | with_reducible apply Keeps.ite
    | with_reducible apply State.dropFailed_keeps
    | with_reducible apply State.markSelected_keeps
    | with_reducible apply State.settleEndpoint_keeps
    | with_reducible apply State.endRepair_keeps
    | with_reducible apply State.noteFailed_keeps
    | with_reducible apply State.startRepair_keeps
    | split
    | fail_if_no_progress refine Keeps.record ?_ rfl rfl rfl rfl rfl rfl rfl rfl rfl rfl rfl rfl rfl rfl rfl rfl rfl rfl rfl
    | dsimp only

theorem State.reselectAll_keeps {ps : List Part} {s0 s : State} (h0 : Keeps ps s0 s)  (_ : Part.dict ∈ ps := by assumption) (_ : Part.lanes ∈ ps := by assumption) (_ : Part.spools ∈ ps := by assumption) (_ : Part.routes ∈ ps := by assumption) : Keeps ps s0 (s.reselectAll) := by
  unfold State.reselectAll
  try dsimp only
  repeat' first
    | with_reducible exact h0
    | with_reducible assumption
    | with_reducible exact Keeps.refl _ _
    | with_reducible apply State.reselect_keeps
    | (with_reducible apply Keeps.each) <;> try intro _ _
    | fail_if_no_progress refine Keeps.record ?_ rfl rfl rfl rfl rfl rfl rfl rfl rfl rfl rfl rfl rfl rfl rfl rfl rfl rfl rfl
    | dsimp only

theorem State.releaseSeq_keeps {ps : List Part} {s0 s : State} (h0 : Keeps ps s0 s) (k seq : Nat) (_ : Part.out ∈ ps := by assumption) (_ : Part.lanes ∈ ps := by assumption) (_ : Part.spools ∈ ps := by assumption) (_ : Part.pages ∈ ps := by assumption) (_ : Part.routes ∈ ps := by assumption) : Keeps ps s0 (s.releaseSeq k seq) := by
  unfold State.releaseSeq
  try dsimp only
  repeat' first
    | with_reducible exact h0
    | with_reducible assumption
    | with_reducible apply Keeps.ite
    | with_reducible apply State.setSpool_keeps
    | with_reducible apply State.setRoute_keeps
    | with_reducible apply State.settleSpool_keeps
    | with_reducible apply State.endPacket_keeps
    | split
    | fail_if_no_progress refine Keeps.record ?_ rfl rfl rfl rfl rfl rfl rfl rfl rfl rfl rfl rfl rfl rfl rfl rfl rfl rfl rfl
    | dsimp only

theorem State.applyAck_keeps {ps : List Part} {s0 s : State} (h0 : Keeps ps s0 s) (e : Nat) (m : MacFrame) (_ : Part.out ∈ ps := by assumption) (_ : Part.lanes ∈ ps := by assumption) (_ : Part.spools ∈ ps := by assumption) (_ : Part.pages ∈ ps := by assumption) (_ : Part.routes ∈ ps := by assumption) : Keeps ps s0 (s.applyAck e m) := by
  unfold State.applyAck
  try dsimp only
  repeat' first
    | with_reducible exact h0
    | with_reducible assumption
    | with_reducible exact Keeps.refl _ _
    | with_reducible apply Keeps.ite
    | with_reducible apply State.releaseSeq_keeps
    | with_reducible apply State.setLink_keeps
    | (with_reducible apply Keeps.each) <;> try intro _ _
    | split
    | fail_if_no_progress refine Keeps.record ?_ rfl rfl rfl rfl rfl rfl rfl rfl rfl rfl rfl rfl rfl rfl rfl rfl rfl rfl rfl
    | dsimp only

theorem State.withAck_keeps {ps : List Part} {s0 s : State} (h0 : Keeps ps s0 s) (e : Nat) (m : MacFrame) (_ : Part.spools ∈ ps := by assumption) : Keeps ps s0 (s.withAck e m).2 := by
  refine h0.trans ?_
  unfold State.withAck
  split
  · exact Keeps.refl _ _
  · exact State.setSpool_keeps (Keeps.refl _ _) _ _

theorem State.oweAck_keeps {ps : List Part} {s0 s : State} (h0 : Keeps ps s0 s) (k : Nat) (_ : Part.spools ∈ ps := by assumption) : Keeps ps s0 (s.oweAck k) := by
  unfold State.oweAck
  try dsimp only
  repeat' first
    | with_reducible exact h0
    | with_reducible assumption
    | with_reducible apply Keeps.ite
    | with_reducible apply State.setSpool_keeps
    | split
    | fail_if_no_progress refine Keeps.record ?_ rfl rfl rfl rfl rfl rfl rfl rfl rfl rfl rfl rfl rfl rfl rfl rfl rfl rfl rfl
    | dsimp only

theorem State.fillBuffers_keeps {ps : List Part} {s0 s : State} (h0 : Keeps ps s0 s) (f : Nat) (x : RxPacket) (l : List RxBuffer) (b : Bytes) (_ : Part.out ∈ ps := by assumption) (_ : Part.pages ∈ ps := by assumption) :
    Keeps ps s0 (s.fillBuffers f x l b) := by
  induction l generalizing s b with
  | nil => exact h0
  | cons y l ih => exact ih (State.postRing_keeps (State.emit_keeps h0 _) ..) _

theorem State.drainRx_keeps {ps : List Part} {s0 s : State} (h0 : Keeps ps s0 s) (f : Nat) (l : List RxPacket) (_ : Part.out ∈ ps := by assumption) (_ : Part.pages ∈ ps := by assumption) : Keeps ps s0 (s.drainRx f l) := by
  induction l generalizing s with
  | nil => exact h0
  | cons x l ih =>
    unfold State.drainRx
    dsimp only
    split
    · split
      · exact ih (State.fillBuffers_keeps (State.setPage_keeps h0 _ _) ..)
      · exact h0
    · exact h0

theorem State.deliverPacket_keeps {ps : List Part} {s0 s : State} (h0 : Keeps ps s0 s) (body : Bytes) (rx : RxFrame) (_ : Part.out ∈ ps := by assumption) (_ : Part.dict ∈ ps := by assumption) (_ : Part.pages ∈ ps := by assumption) : Keeps ps s0 (s.deliverPacket body rx) := by
  unfold State.deliverPacket
  try dsimp only
  repeat' first
    | with_reducible exact h0
    | with_reducible assumption
    | with_reducible apply State.bump_keeps
    | with_reducible apply State.setPage_keeps
    | with_reducible apply State.drainRx_keeps
    | split
    | fail_if_no_progress refine Keeps.record ?_ rfl rfl rfl rfl rfl rfl rfl rfl rfl rfl rfl rfl rfl rfl rfl rfl rfl rfl rfl
    | dsimp only

theorem State.takeInOrder_keeps {ps : List Part} {s0 s : State} (h0 : Keeps ps s0 s) (k : Nat) (h : HeldFrame) (_ : Part.out ∈ ps := by assumption) (_ : Part.dict ∈ ps := by assumption) (_ : Part.spools ∈ ps := by assumption) (_ : Part.pages ∈ ps := by assumption) : Keeps ps s0 (s.takeInOrder k h) := by
  unfold State.takeInOrder
  try dsimp only
  repeat' first
    | with_reducible exact h0
    | with_reducible assumption
    | with_reducible apply Keeps.ite
    | with_reducible apply State.setSpool_keeps
    | with_reducible apply State.deliverPacket_keeps
    | split
    | fail_if_no_progress refine Keeps.record ?_ rfl rfl rfl rfl rfl rfl rfl rfl rfl rfl rfl rfl rfl rfl rfl rfl rfl rfl rfl
    | dsimp only

theorem State.advanceBase_keeps {ps : List Part} {s0 s : State} (h0 : Keeps ps s0 s) (k n : Nat) (_ : Part.out ∈ ps := by assumption) (_ : Part.dict ∈ ps := by assumption) (_ : Part.spools ∈ ps := by assumption) (_ : Part.pages ∈ ps := by assumption) : Keeps ps s0 (s.advanceBase k n) := by
  induction n generalizing s with
  | zero => exact h0
  | succ n ih =>
    unfold State.advanceBase
    dsimp only
    split
    · exact h0
    · exact ih (State.takeInOrder_keeps (State.setSpool_keeps h0 _ _) ..)

theorem State.passOver_keeps {ps : List Part} {s0 s : State} (h0 : Keeps ps s0 s) (k n : Nat) (_ : Part.out ∈ ps := by assumption) (_ : Part.dict ∈ ps := by assumption) (_ : Part.spools ∈ ps := by assumption) (_ : Part.pages ∈ ps := by assumption) : Keeps ps s0 (s.passOver k n) := by
  induction n generalizing s with
  | zero => exact h0
  | succ n ih =>
    unfold State.passOver
    dsimp only
    apply ih
    split
    · exact State.takeInOrder_keeps (State.setSpool_keeps h0 _ _) ..
    · exact State.bump_keeps (State.setSpool_keeps h0 _ _) _ _

theorem State.receiveSeq_keeps {ps : List Part} {s0 s : State} (h0 : Keeps ps s0 s) (k : Nat) (rx : RxFrame) (_ : Part.out ∈ ps := by assumption) (_ : Part.dict ∈ ps := by assumption) (_ : Part.spools ∈ ps := by assumption) (_ : Part.pages ∈ ps := by assumption) : Keeps ps s0 (s.receiveSeq k rx) := by
  unfold State.receiveSeq
  extract_lets x w seq d u y v
  have hu : Keeps ps s0 u := by
    dsimp only [u]; split
    · exact h0
    · exact State.passOver_keeps h0 ..
  have hv : Keeps ps s0 v := by
    dsimp only [v]; split
    · exact State.bump_keeps hu ..
    · exact State.setSpool_keeps hu ..
  split
  · exact State.bump_keeps (State.oweAck_keeps h0 _) ..
  · exact State.advanceBase_keeps (State.oweAck_keeps hv _) ..

theorem State.endBroadcast_keeps {ps : List Part} {s0 s : State} (h0 : Keeps ps s0 s) (n : Nat) (_ : Part.out ∈ ps := by assumption) (_ : Part.spools ∈ ps := by assumption) (_ : Part.pages ∈ ps := by assumption) : Keeps ps s0 (s.endBroadcast n) := by
  unfold State.endBroadcast
  try dsimp only
  repeat' first
    | with_reducible exact h0
    | with_reducible assumption
    | with_reducible apply Keeps.ite
    | with_reducible apply State.postTxc_keeps
    | split
    | fail_if_no_progress refine Keeps.record ?_ rfl rfl rfl rfl rfl rfl rfl rfl rfl rfl rfl rfl rfl rfl rfl rfl rfl rfl rfl
    | dsimp only

theorem State.setBroadcast_keeps {ps : List Part} {s0 s : State} (h0 : Keeps ps s0 s) (n : Nat) (b : Broadcast) (_ : Part.out ∈ ps := by assumption) (_ : Part.spools ∈ ps := by assumption) (_ : Part.pages ∈ ps := by assumption) : Keeps ps s0 (s.setBroadcast n b) := by
  unfold State.setBroadcast
  try dsimp only
  repeat' first
    | with_reducible exact h0
    | with_reducible assumption
    | with_reducible apply State.endBroadcast_keeps
    | fail_if_no_progress refine Keeps.record ?_ rfl rfl rfl rfl rfl rfl rfl rfl rfl rfl rfl rfl rfl rfl rfl rfl rfl rfl rfl

theorem State.broadcastFail_keeps {ps : List Part} {s0 s : State} (h0 : Keeps ps s0 s) (n p : Nat) (_ : Part.out ∈ ps := by assumption) (_ : Part.spools ∈ ps := by assumption) (_ : Part.pages ∈ ps := by assumption) : Keeps ps s0 (s.broadcastFail n p) := by
  unfold State.broadcastFail
  try dsimp only
  repeat' first
    | with_reducible exact h0
    | with_reducible assumption
    | with_reducible apply State.setBroadcast_keeps
    | split
    | fail_if_no_progress refine Keeps.record ?_ rfl rfl rfl rfl rfl rfl rfl rfl rfl rfl rfl rfl rfl rfl rfl rfl rfl rfl rfl
    | dsimp only

theorem State.broadcastSent_keeps {ps : List Part} {s0 s : State} (h0 : Keeps ps s0 s) (n ln : Nat) (_ : Part.out ∈ ps := by assumption) (_ : Part.spools ∈ ps := by assumption) (_ : Part.pages ∈ ps := by assumption) : Keeps ps s0 (s.broadcastSent n ln) := by
  unfold State.broadcastSent
  try dsimp only
  repeat' first
    | with_reducible exact h0
    | with_reducible assumption
    | with_reducible apply Keeps.ite
    | with_reducible apply State.setBroadcast_keeps
    | split
    | fail_if_no_progress refine Keeps.record ?_ rfl rfl rfl rfl rfl rfl rfl rfl rfl rfl rfl rfl rfl rfl rfl rfl rfl rfl rfl
    | dsimp only

theorem State.broadcastCut_keeps {ps : List Part} {s0 s : State} (h0 : Keeps ps s0 s) (n ln : Nat) (_ : Part.out ∈ ps := by assumption) (_ : Part.lanes ∈ ps := by assumption) (_ : Part.spools ∈ ps := by assumption) (_ : Part.pages ∈ ps := by assumption) : Keeps ps s0 (s.broadcastCut n ln) := by
  unfold State.broadcastCut
  try dsimp only
  repeat' first
    | with_reducible exact h0
    | with_reducible assumption
    | with_reducible apply Keeps.ite
    | with_reducible apply State.broadcastFail_keeps
    | with_reducible apply State.setBroadcast_keeps
    | with_reducible apply State.setTx_keeps
    | split
    | fail_if_no_progress refine Keeps.record ?_ rfl rfl rfl rfl rfl rfl rfl rfl rfl rfl rfl rfl rfl rfl rfl rfl rfl rfl rfl
    | dsimp only

theorem State.broadcastsLeave_keeps {ps : List Part} {s0 s : State} (h0 : Keeps ps s0 s) (p : Nat) (_ : Part.out ∈ ps := by assumption) (_ : Part.spools ∈ ps := by assumption) (_ : Part.pages ∈ ps := by assumption) : Keeps ps s0 (s.broadcastsLeave p) := by
  unfold State.broadcastsLeave
  repeat' first
    | with_reducible exact h0
    | with_reducible assumption
    | with_reducible exact Keeps.refl _ _
    | with_reducible apply State.broadcastFail_keeps
    | (with_reducible apply Keeps.each) <;> try intro _ _
    | dsimp only

theorem State.startBroadcast_keeps {ps : List Part} {s0 s : State} (h0 : Keeps ps s0 s) (f : Nat) (d : TxDesc) (_ : Part.out ∈ ps := by assumption) (_ : Part.lanes ∈ ps := by assumption) (_ : Part.spools ∈ ps := by assumption) (_ : Part.pages ∈ ps := by assumption) : Keeps ps s0 (s.startBroadcast f d) := by
  unfold State.startBroadcast
  try dsimp only
  repeat' first
    | with_reducible exact h0
    | with_reducible assumption
    | with_reducible exact Keeps.refl _ _
    | with_reducible apply Keeps.ite
    | with_reducible apply State.postTxc_keeps
    | with_reducible apply State.setTx_keeps
    | with_reducible apply State.setBroadcast_keeps
    | (with_reducible apply Keeps.each) <;> try intro _ _
    | split
    | fail_if_no_progress refine Keeps.record ?_ rfl rfl rfl rfl rfl rfl rfl rfl rfl rfl rfl rfl rfl rfl rfl rfl rfl rfl rfl
    | dsimp only

theorem State.admitTx_keeps {ps : List Part} {s0 s : State} (h0 : Keeps ps s0 s) (f : Nat) (d : TxDesc) (_ : Part.out ∈ ps := by assumption) (_ : Part.dict ∈ ps := by assumption) (_ : Part.lanes ∈ ps := by assumption) (_ : Part.spools ∈ ps := by assumption) (_ : Part.pages ∈ ps := by assumption) : Keeps ps s0 (s.admitTx f d) := by
  unfold State.admitTx
  try dsimp only
  repeat' first
    | with_reducible exact h0
    | with_reducible assumption
    | with_reducible apply Keeps.ite
    | with_reducible apply State.startBroadcast_keeps
    | with_reducible apply State.postTxc_keeps
    | with_reducible apply State.bump_keeps
    | with_reducible apply State.setSpool_keeps
    | with_reducible apply State.settleSpool_keeps
    | split
    | fail_if_no_progress refine Keeps.record ?_ rfl rfl rfl rfl rfl rfl rfl rfl rfl rfl rfl rfl rfl rfl rfl rfl rfl rfl rfl
    | dsimp only

theorem State.consumeTx_keeps {ps : List Part} {s0 s : State} (h0 : Keeps ps s0 s) (f : Nat) (_ : Part.pages ∈ ps := by assumption) : Keeps ps s0 (s.consumeTx f) := by
  unfold State.consumeTx
  try dsimp only
  repeat' first
    | with_reducible exact h0
    | with_reducible assumption
    | with_reducible apply State.setPage_keeps
    | fail_if_no_progress refine Keeps.record ?_ rfl rfl rfl rfl rfl rfl rfl rfl rfl rfl rfl rfl rfl rfl rfl rfl rfl rfl rfl
    | dsimp only

theorem State.fetchOne_keeps {ps : List Part} {s0 s : State} (h0 : Keeps ps s0 s) (f : Nat) (d : TxDesc) (_ : Part.out ∈ ps := by assumption) (_ : Part.dict ∈ ps := by assumption) (_ : Part.lanes ∈ ps := by assumption) (_ : Part.spools ∈ ps := by assumption) (_ : Part.pages ∈ ps := by assumption) : Keeps ps s0 (s.fetchOne f d) := by
  unfold State.fetchOne
  try dsimp only
  repeat' first
    | with_reducible exact h0
    | with_reducible assumption
    | with_reducible apply Keeps.ite
    | with_reducible apply State.setPage_keeps
    | with_reducible apply State.postTxc_keeps
    | with_reducible apply State.consumeTx_keeps
    | with_reducible apply State.admitTx_keeps
    | split
    | fail_if_no_progress refine Keeps.record ?_ rfl rfl rfl rfl rfl rfl rfl rfl rfl rfl rfl rfl rfl rfl rfl rfl rfl rfl rfl
    | dsimp only

theorem State.fetchTx_keeps {ps : List Part} {s0 s : State} (h0 : Keeps ps s0 s) (f : Nat) (l : List TxDesc) (_ : Part.out ∈ ps := by assumption) (_ : Part.dict ∈ ps := by assumption) (_ : Part.lanes ∈ ps := by assumption) (_ : Part.spools ∈ ps := by assumption) (_ : Part.pages ∈ ps := by assumption) : Keeps ps s0 (s.fetchTx f l) := by
  induction l generalizing s with
  | nil => exact State.setPage_keeps h0 _ _
  | cons d l ih =>
    unfold State.fetchTx
    dsimp only
    split
    · exact State.setPage_keeps h0 _ _
    · split
      · exact State.setPage_keeps h0 _ _
      · split
        · exact State.setPage_keeps h0 _ _
        · exact ih (State.fetchOne_keeps h0 ..)

theorem State.resumeTx_keeps {ps : List Part} {s0 s : State} (h0 : Keeps ps s0 s) (f : Nat) (_ : Part.out ∈ ps := by assumption) (_ : Part.dict ∈ ps := by assumption) (_ : Part.lanes ∈ ps := by assumption) (_ : Part.spools ∈ ps := by assumption) (_ : Part.pages ∈ ps := by assumption) : Keeps ps s0 (s.resumeTx f) := by
  unfold State.resumeTx
  repeat' first
    | with_reducible exact h0
    | with_reducible assumption
    | with_reducible apply State.fetchTx_keeps

theorem State.admitWaiting_keeps {ps : List Part} {s0 s : State} (h0 : Keeps ps s0 s) (f : Nat) (_ : Part.out ∈ ps := by assumption) (_ : Part.dict ∈ ps := by assumption) (_ : Part.lanes ∈ ps := by assumption) (_ : Part.spools ∈ ps := by assumption) (_ : Part.pages ∈ ps := by assumption) : Keeps ps s0 (s.admitWaiting f) := by
  unfold State.admitWaiting
  try dsimp only
  repeat' first
    | with_reducible exact h0
    | with_reducible assumption
    | with_reducible exact Keeps.refl _ _
    | with_reducible apply State.setPage_keeps
    | with_reducible apply State.admitTx_keeps
    | with_reducible apply State.consumeTx_keeps
    | with_reducible apply State.resumeTx_keeps
    | (with_reducible apply Keeps.each) <;> try intro _ _
    | fail_if_no_progress refine Keeps.record ?_ rfl rfl rfl rfl rfl rfl rfl rfl rfl rfl rfl rfl rfl rfl rfl rfl rfl rfl rfl
    | dsimp only

/-! ## SymbolOps -/

theorem State.radiate_keeps {ps : List Part} {s0 s : State} (h0 : Keeps ps s0 s) (p l first : Nat) (points : List (List PlacePoint)) (_ : Part.out ∈ ps := by assumption) : Keeps ps s0 (s.radiate p l first points) := by
  unfold State.radiate
  try dsimp only
  repeat' first
    | with_reducible exact h0
    | with_reducible assumption
    | with_reducible apply Keeps.ite
    | with_reducible apply State.emit_keeps
    | split
    | dsimp only

theorem State.radiateRest_keeps {ps : List Part} {s0 s : State} (h0 : Keeps ps s0 s) (p l start : Nat) (points : List (List PlacePoint)) (_ : Part.out ∈ ps := by assumption) : Keeps ps s0 (s.radiateRest p l start points) := by
  unfold State.radiateRest
  try dsimp only
  repeat' first
    | with_reducible exact h0
    | with_reducible assumption
    | with_reducible apply Keeps.ite
    | with_reducible apply State.radiate_keeps
    | split
    | dsimp only

/-! ## LaneTxOps -/

theorem State.withGrant_keeps {ps : List Part} {s0 s : State} (h0 : Keeps ps s0 s) (p l e nsym : Nat) (m : MacFrame) (_ : Part.dict ∈ ps := by assumption) (_ : Part.lanes ∈ ps := by assumption) (_ : Part.spools ∈ ps := by assumption) :
    Keeps ps s0 (s.withGrant p l e nsym m).2 := by
  refine h0.trans ?_
  unfold State.withGrant
  split
  · exact Keeps.refl _ _
  · split
    · exact Keeps.refl _ _
    · exact State.setTx_keeps (State.bump_keeps (State.setSpool_keeps (Keeps.refl _ _) _ _) ..) ..

theorem State.raiseItems_keeps {ps : List Part} {s0 s : State} (h0 : Keeps ps s0 s) (src : Nat) (_ : Part.dict ∈ ps := by assumption) (_ : Part.hier ∈ ps := by assumption) : Keeps ps s0 (s.raiseItems src) := by
  unfold State.raiseItems
  try dsimp only
  repeat' first
    | with_reducible exact h0
    | with_reducible assumption
    | with_reducible apply Keeps.ite
    | with_reducible apply State.bumpKey_keeps
    | split
    | fail_if_no_progress refine Keeps.record ?_ rfl rfl rfl rfl rfl rfl rfl rfl rfl rfl rfl rfl rfl rfl rfl rfl rfl rfl rfl
    | dsimp only

theorem State.putOnLine_keeps {ps : List Part} {s0 s : State} (h0 : Keeps ps s0 s) (p l : Nat) (f : TxFrame) (_ : Part.out ∈ ps := by assumption) (_ : Part.dict ∈ ps := by assumption) (_ : Part.hier ∈ ps := by assumption) (_ : Part.lanes ∈ ps := by assumption) : Keeps ps s0 (s.putOnLine p l f) := by
  unfold State.putOnLine
  try dsimp only
  repeat' first
    | with_reducible exact h0
    | with_reducible assumption
    | with_reducible apply Keeps.ite
    | with_reducible apply State.raiseItems_keeps
    | with_reducible apply State.setTx_keeps
    | with_reducible apply State.bump_keeps
    | with_reducible apply State.radiate_keeps
    | with_reducible apply State.emit_keeps
    | split
    | fail_if_no_progress refine Keeps.record ?_ rfl rfl rfl rfl rfl rfl rfl rfl rfl rfl rfl rfl rfl rfl rfl rfl rfl rfl rfl
    | dsimp only

theorem State.relevel_keeps {ps : List Part} {s0 s : State} (h0 : Keeps ps s0 s) (p l : Nat) (_ : Part.out ∈ ps := by assumption) : Keeps ps s0 (s.relevel p l) := by
  unfold State.relevel
  try dsimp only
  repeat' first
    | with_reducible exact h0
    | with_reducible assumption
    | with_reducible apply Keeps.ite
    | with_reducible apply State.radiateRest_keeps
    | split
    | fail_if_no_progress refine Keeps.record ?_ rfl rfl rfl rfl rfl rfl rfl rfl rfl rfl rfl rfl rfl rfl rfl rfl rfl rfl rfl
    | dsimp only

theorem State.startBeacon_keeps {ps : List Part} {s0 s : State} (h0 : Keeps ps s0 s) (p l : Nat) (_ : Part.out ∈ ps := by assumption) (_ : Part.dict ∈ ps := by assumption) (_ : Part.hier ∈ ps := by assumption) (_ : Part.lanes ∈ ps := by assumption) : Keeps ps s0 (s.startBeacon p l) := by
  unfold State.startBeacon
  try dsimp only
  repeat' first
    | with_reducible exact h0
    | with_reducible assumption
    | with_reducible apply State.putOnLine_keeps
    | with_reducible apply State.bump_keeps
    | with_reducible apply State.setTx_keeps
    | split
    | fail_if_no_progress refine Keeps.record ?_ rfl rfl rfl rfl rfl rfl rfl rfl rfl rfl rfl rfl rfl rfl rfl rfl rfl rfl rfl
    | dsimp only

theorem State.storeCands_keeps {ps : List Part} {s0 s : State} (h0 : Keeps ps s0 s) (p l c : Nat) (l' : List Cand) (_ : Part.lanes ∈ ps := by assumption) (_ : Part.spools ∈ ps := by assumption) : Keeps ps s0 (s.storeCands p l c l') := by
  unfold State.storeCands
  try dsimp only
  repeat' first
    | with_reducible exact h0
    | with_reducible assumption
    | with_reducible exact Keeps.refl _ _
    | with_reducible apply State.setTx_keeps
    | with_reducible apply State.setSpool_keeps
    | (with_reducible apply Keeps.each) <;> try intro _ _
    | fail_if_no_progress refine Keeps.record ?_ rfl rfl rfl rfl rfl rfl rfl rfl rfl rfl rfl rfl rfl rfl rfl rfl rfl rfl rfl
    | dsimp only

theorem State.serveClass_keeps {ps : List Part} {s0 s : State} (h0 : Keeps ps s0 s) (p l c : Nat) (_ : Part.lanes ∈ ps := by assumption) (_ : Part.spools ∈ ps := by assumption) : Keeps ps s0 (s.serveClass p l c).2 := by
  refine h0.trans ?_
  unfold State.serveClass
  split
  · exact Keeps.refl _ _
  · dsimp only
    split
    · exact State.storeCands_keeps (Keeps.refl _ _) ..
    · exact Keeps.refl _ _

theorem State.schedule_keeps {ps : List Part} {s0 s : State} (h0 : Keeps ps s0 s) (p l : Nat) (_ : Part.lanes ∈ ps := by assumption) (_ : Part.spools ∈ ps := by assumption) : Keeps ps s0 (s.schedule p l).2 := by
  refine h0.trans ?_
  unfold State.schedule
  extract_lets u turn v
  have hu : Keeps ps s u := State.setTx_keeps (Keeps.refl _ _) ..
  split
  · exact State.serveClass_keeps hu ..
  · have hv : Keeps ps s v := State.setTx_keeps hu ..
    split
    · exact hv
    · exact State.setTx_keeps (State.serveClass_keeps hv ..) ..

theorem State.dropTooLong_keeps {ps : List Part} {s0 s : State} (h0 : Keeps ps s0 s) (p l : Nat) (_ : Part.out ∈ ps := by assumption) (_ : Part.lanes ∈ ps := by assumption) (_ : Part.spools ∈ ps := by assumption) (_ : Part.pages ∈ ps := by assumption) : Keeps ps s0 (s.dropTooLong p l) := by
  unfold State.dropTooLong
  try dsimp only
  repeat' first
    | with_reducible exact h0
    | with_reducible assumption
    | with_reducible exact Keeps.refl _ _
    | with_reducible apply Keeps.ite
    | with_reducible apply State.endPacket_keeps
    | (with_reducible apply Keeps.each) <;> try intro _ _
    | split
    | fail_if_no_progress refine Keeps.record ?_ rfl rfl rfl rfl rfl rfl rfl rfl rfl rfl rfl rfl rfl rfl rfl rfl rfl rfl rfl
    | dsimp only

theorem State.sendHead_keeps {ps : List Part} {s0 s : State} (h0 : Keeps ps s0 s) (p l k pos : Nat) (m : TxMode) (q : QueueItem) (qs : List QueueItem) (body : Bytes) (n nsym : Nat) (_ : Part.out ∈ ps := by assumption) (_ : Part.dict ∈ ps := by assumption) (_ : Part.hier ∈ ps := by assumption) (_ : Part.lanes ∈ ps := by assumption) (_ : Part.spools ∈ ps := by assumption) : Keeps ps s0 (s.sendHead p l k pos m q qs body n nsym) := by
  unfold State.sendHead
  try dsimp only
  repeat' first
    | with_reducible exact h0
    | with_reducible assumption
    | with_reducible apply Keeps.ite
    | with_reducible apply State.setSpool_keeps
    | with_reducible apply State.withAck_keeps
    | with_reducible apply State.withGrant_keeps
    | with_reducible apply State.putOnLine_keeps
    | with_reducible apply State.bump_keeps
    | with_reducible apply State.settleSpool_keeps
    | split
    | fail_if_no_progress refine Keeps.record ?_ rfl rfl rfl rfl rfl rfl rfl rfl rfl rfl rfl rfl rfl rfl rfl rfl rfl rfl rfl
    | dsimp only

theorem State.startData_keeps {ps : List Part} {s0 s : State} (h0 : Keeps ps s0 s) (p l k n : Nat) (_ : Part.out ∈ ps := by assumption) (_ : Part.dict ∈ ps := by assumption) (_ : Part.hier ∈ ps := by assumption) (_ : Part.lanes ∈ ps := by assumption) (_ : Part.spools ∈ ps := by assumption) : Keeps ps s0 (s.startData p l k n) := by
  unfold State.startData
  try dsimp only
  repeat' first
    | with_reducible exact h0
    | with_reducible assumption
    | with_reducible apply State.sendHead_keeps
    | split
    | fail_if_no_progress refine Keeps.record ?_ rfl rfl rfl rfl rfl rfl rfl rfl rfl rfl rfl rfl rfl rfl rfl rfl rfl rfl rfl
    | dsimp only

theorem State.startG9903_keeps {ps : List Part} {s0 s : State} (h0 : Keeps ps s0 s) (p l : Nat) (_ : Part.out ∈ ps := by assumption) (_ : Part.dict ∈ ps := by assumption) (_ : Part.hier ∈ ps := by assumption) (_ : Part.lanes ∈ ps := by assumption) (_ : Part.spools ∈ ps := by assumption) : Keeps ps s0 (s.startG9903 p l) := by
  unfold State.startG9903
  try dsimp only
  repeat' first
    | with_reducible exact h0
    | with_reducible assumption
    | with_reducible apply Keeps.ite
    | with_reducible apply State.sendHead_keeps
    | split
    | fail_if_no_progress refine Keeps.record ?_ rfl rfl rfl rfl rfl rfl rfl rfl rfl rfl rfl rfl rfl rfl rfl rfl rfl rfl rfl
    | dsimp only

theorem State.meshSeq_keeps {ps : List Part} {s0 s : State} (h0 : Keeps ps s0 s) (p l nsym : Nat) (f : MacFrame) (_ : Part.spools ∈ ps := by assumption) (_ : Part.routes ∈ ps := by assumption) :
    Keeps ps s0 (s.meshSeq p l nsym f).2 := by
  unfold State.meshSeq
  split
  · exact h0
  · have h1 := State.setSpool_keeps h0 (4 * f.dst + 1) { s.spool (4 * f.dst + 1) with txSeq := ((s.spool (4 * f.dst + 1)).txSeq + 1) % 256 }
    dsimp only
    split
    · split
      · exact State.setLink_keeps h1 _ _
      · exact h1
    · exact h1

theorem State.startHead_keeps {ps : List Part} {s0 s : State} (h0 : Keeps ps s0 s) (p l c : Nat) (x : HeadItem × Nat × TxMode) (_ : Part.out ∈ ps := by assumption) (_ : Part.dict ∈ ps := by assumption) (_ : Part.hier ∈ ps := by assumption) (_ : Part.lanes ∈ ps := by assumption) (_ : Part.spools ∈ ps := by assumption) (_ : Part.routes ∈ ps := by assumption) : Keeps ps s0 (s.startHead p l c x) := by
  unfold State.startHead
  try dsimp only
  repeat' first
    | with_reducible exact h0
    | with_reducible assumption
    | with_reducible apply Keeps.ite
    | with_reducible apply State.setTx_keeps
    | with_reducible apply State.withGrant_keeps
    | with_reducible apply State.putOnLine_keeps
    | with_reducible apply State.meshSeq_keeps
    | with_reducible apply State.withAck_keeps
    | split
    | fail_if_no_progress refine Keeps.record ?_ rfl rfl rfl rfl rfl rfl rfl rfl rfl rfl rfl rfl rfl rfl rfl rfl rfl rfl rfl
    | dsimp only

theorem State.startAck_keeps {ps : List Part} {s0 s u : State} (h0 : Keeps ps s0 s) (p l : Nat) (h : s.startAck p l = some u) (_ : Part.out ∈ ps := by assumption) (_ : Part.dict ∈ ps := by assumption) (_ : Part.hier ∈ ps := by assumption) (_ : Part.lanes ∈ ps := by assumption) (_ : Part.spools ∈ ps := by assumption) : Keeps ps s0 u := by
  refine h0.trans ?_
  unfold State.startAck at h
  dsimp only at h
  split at h
  · cases h
  · split at h
    · cases h
    · split at h
      · cases h
      · cases h
        exact State.bump_keeps (State.putOnLine_keeps (State.withGrant_keeps (State.setSpool_keeps (State.setTx_keeps
          (State.setTx_keeps (Keeps.refl _ _) ..) ..) ..) ..) ..) ..

theorem State.startFrame_keeps {ps : List Part} {s0 s : State} (h0 : Keeps ps s0 s) (p l : Nat) (_ : Part.out ∈ ps := by assumption) (_ : Part.dict ∈ ps := by assumption) (_ : Part.hier ∈ ps := by assumption) (_ : Part.lanes ∈ ps := by assumption) (_ : Part.spools ∈ ps := by assumption) (_ : Part.pages ∈ ps := by assumption) (_ : Part.routes ∈ ps := by assumption) : Keeps ps s0 (s.startFrame p l) := by
  refine h0.trans ?_
  unfold State.startFrame
  split
  · exact State.startBeacon_keeps (Keeps.refl _ _) ..
  · split
    · rename_i h; exact State.startAck_keeps (Keeps.refl _ _) p l h
    · have hr : Keeps ps s ((s.dropTooLong p l).schedule p l).2 := State.schedule_keeps (State.dropTooLong_keeps (Keeps.refl _ _) ..) ..
      dsimp only
      split
      · exact hr
      · exact State.startHead_keeps hr ..
      · exact State.startData_keeps hr ..

theorem State.clearLine_keeps {ps : List Part} {s0 s : State} (h0 : Keeps ps s0 s) (p l : Nat) (_ : Part.lanes ∈ ps := by assumption) : Keeps ps s0 (s.clearLine p l) := by
  unfold State.clearLine
  try dsimp only
  repeat' first
    | with_reducible exact h0
    | with_reducible assumption
    | with_reducible apply State.setTx_keeps
    | fail_if_no_progress refine Keeps.record ?_ rfl rfl rfl rfl rfl rfl rfl rfl rfl rfl rfl rfl rfl rfl rfl rfl rfl rfl rfl

theorem State.endFrame_keeps {ps : List Part} {s0 s : State} (h0 : Keeps ps s0 s) (p l : Nat) (f : TxFrame) (_ : Part.out ∈ ps := by assumption) (_ : Part.lanes ∈ ps := by assumption) (_ : Part.spools ∈ ps := by assumption) (_ : Part.pages ∈ ps := by assumption) : Keeps ps s0 (s.endFrame p l f) := by
  unfold State.endFrame
  try dsimp only
  repeat' first
    | with_reducible exact h0
    | with_reducible assumption
    | with_reducible apply Keeps.ite
    | with_reducible apply State.clearLine_keeps
    | with_reducible apply State.setSpool_keeps
    | with_reducible apply State.broadcastSent_keeps
    | split
    | fail_if_no_progress refine Keeps.record ?_ rfl rfl rfl rfl rfl rfl rfl rfl rfl rfl rfl rfl rfl rfl rfl rfl rfl rfl rfl
    | dsimp only

theorem State.unsend_keeps {ps : List Part} {s0 s : State} (h0 : Keeps ps s0 s) (p l : Nat) (f : TxFrame) (_ : Part.lanes ∈ ps := by assumption) (_ : Part.spools ∈ ps := by assumption) : Keeps ps s0 (s.unsend p l f) := by
  unfold State.unsend
  try dsimp only
  repeat' first
    | with_reducible exact h0
    | with_reducible assumption
    | with_reducible apply Keeps.ite
    | with_reducible apply State.oweAck_keeps
    | with_reducible apply State.setSpool_keeps
    | with_reducible apply State.setTx_keeps
    | split
    | fail_if_no_progress refine Keeps.record ?_ rfl rfl rfl rfl rfl rfl rfl rfl rfl rfl rfl rfl rfl rfl rfl rfl rfl rfl rfl
    | dsimp only

theorem State.cutFrame_keeps {ps : List Part} {s0 s : State} (h0 : Keeps ps s0 s) (p l : Nat) (_ : Part.out ∈ ps := by assumption) (_ : Part.lanes ∈ ps := by assumption) (_ : Part.spools ∈ ps := by assumption) (_ : Part.pages ∈ ps := by assumption) : Keeps ps s0 (s.cutFrame p l) := by
  unfold State.cutFrame
  try dsimp only
  repeat' first
    | with_reducible exact h0
    | with_reducible assumption
    | with_reducible apply State.clearLine_keeps
    | with_reducible apply State.unsend_keeps
    | with_reducible apply State.emit_keeps
    | with_reducible apply State.setSpool_keeps
    | with_reducible apply State.requeue_keeps
    | with_reducible apply State.broadcastCut_keeps
    | with_reducible apply State.setTx_keeps
    | split
    | fail_if_no_progress refine Keeps.record ?_ rfl rfl rfl rfl rfl rfl rfl rfl rfl rfl rfl rfl rfl rfl rfl rfl rfl rfl rfl
    | dsimp only

theorem State.cutCommand_keeps {ps : List Part} {s0 s : State} (h0 : Keeps ps s0 s) (p : Nat) (_ : Part.out ∈ ps := by assumption) (_ : Part.dict ∈ ps := by assumption) (_ : Part.cells ∈ ps := by assumption) : Keeps ps s0 (s.cutCommand p) := by
  unfold State.cutCommand
  try dsimp only
  repeat' first
    | with_reducible exact h0
    | with_reducible assumption
    | with_reducible apply Keeps.ite
    | with_reducible apply State.setCell_keeps
    | with_reducible apply State.bump_keeps
    | with_reducible apply State.emit_keeps
    | split
    | fail_if_no_progress refine Keeps.record ?_ rfl rfl rfl rfl rfl rfl rfl rfl rfl rfl rfl rfl rfl rfl rfl rfl rfl rfl rfl

theorem State.restartLane_keeps {ps : List Part} {s0 s : State} (h0 : Keeps ps s0 s) (p l : Nat) (command : Bool) (_ : Part.out ∈ ps := by assumption) (_ : Part.dict ∈ ps := by assumption) (_ : Part.lanes ∈ ps := by assumption) (_ : Part.spools ∈ ps := by assumption) (_ : Part.pages ∈ ps := by assumption) (_ : Part.cells ∈ ps := by assumption) : Keeps ps s0 (s.restartLane p l command) := by
  unfold State.restartLane
  try dsimp only
  repeat' first
    | with_reducible exact h0
    | with_reducible assumption
    | with_reducible apply Keeps.ite
    | with_reducible apply State.cutCommand_keeps
    | with_reducible apply State.cutFrame_keeps
    | with_reducible apply State.lbump_keeps
    | with_reducible apply State.setLane_keeps
    | split
    | fail_if_no_progress refine Keeps.record ?_ rfl rfl rfl rfl rfl rfl rfl rfl rfl rfl rfl rfl rfl rfl rfl rfl rfl rfl rfl
    | dsimp only

/-! ## EchoOps -/

theorem State.beginHold_keeps {ps : List Part} {s0 s : State} (h0 : Keeps ps s0 s) (p : Nat) (b : Band) (st : EchoState) (_ : Part.echoes ∈ ps := by assumption) : Keeps ps s0 (s.beginHold p b st) := by
  unfold State.beginHold
  try dsimp only
  repeat' first
    | with_reducible exact h0
    | with_reducible assumption
    | with_reducible apply State.setEcho_keeps
    | fail_if_no_progress refine Keeps.record ?_ rfl rfl rfl rfl rfl rfl rfl rfl rfl rfl rfl rfl rfl rfl rfl rfl rfl rfl rfl

theorem State.echoDisturb_keeps {ps : List Part} {s0 s : State} (h0 : Keeps ps s0 s) (p : Nat) (b : Band) (_ : Part.dict ∈ ps := by assumption) (_ : Part.echoes ∈ ps := by assumption) : Keeps ps s0 (s.echoDisturb p b) := by
  unfold State.echoDisturb
  repeat' first
    | with_reducible exact h0
    | with_reducible assumption
    | with_reducible apply State.beginHold_keeps
    | with_reducible apply State.pbump_keeps
    | with_reducible apply State.storeNat_keeps

theorem State.endHold_keeps {ps : List Part} {s0 s : State} (h0 : Keeps ps s0 s) (p : Nat) (b : Band) (_ : Part.dict ∈ ps := by assumption) (_ : Part.echoes ∈ ps := by assumption) : Keeps ps s0 (s.endHold p b) := by
  unfold State.endHold
  try dsimp only
  repeat' first
    | with_reducible exact h0
    | with_reducible assumption
    | with_reducible apply State.setEcho_keeps
    | with_reducible apply State.storeNat_keeps
    | fail_if_no_progress refine Keeps.record ?_ rfl rfl rfl rfl rfl rfl rfl rfl rfl rfl rfl rfl rfl rfl rfl rfl rfl rfl rfl
    | dsimp only

theorem State.setLaneEcho_keeps {ps : List Part} {s0 s : State} (h0 : Keeps ps s0 s) (p l : Nat) (x : LaneEcho) (_ : Part.lanes ∈ ps := by assumption) : Keeps ps s0 (s.setLaneEcho p l x) := by
  unfold State.setLaneEcho
  try dsimp only
  repeat' first
    | with_reducible exact h0
    | with_reducible assumption
    | with_reducible apply State.setLane_keeps
    | fail_if_no_progress refine Keeps.record ?_ rfl rfl rfl rfl rfl rfl rfl rfl rfl rfl rfl rfl rfl rfl rfl rfl rfl rfl rfl

theorem State.applyModel_keeps {ps : List Part} {s0 s : State} (h0 : Keeps ps s0 s) (p : Nat) (b : Band) (taps : List Int) (_ : Part.echoes ∈ ps := by assumption) (_ : Part.lanes ∈ ps := by assumption) : Keeps ps s0 (s.applyModel p b taps) := by
  unfold State.applyModel
  try dsimp only
  repeat' first
    | with_reducible exact h0
    | with_reducible assumption
    | with_reducible exact Keeps.refl _ _
    | with_reducible apply State.setEcho_keeps
    | with_reducible apply State.setLaneEcho_keeps
    | (with_reducible apply Keeps.each) <;> try intro _ _
    | fail_if_no_progress refine Keeps.record ?_ rfl rfl rfl rfl rfl rfl rfl rfl rfl rfl rfl rfl rfl rfl rfl rfl rfl rfl rfl
    | dsimp only

theorem State.handover_keeps {ps : List Part} {s0 s : State} (h0 : Keeps ps s0 s) (p : Nat) (b : Band) (analogue : Int) (taps : List Int) (_ : Part.dict ∈ ps := by assumption) (_ : Part.echoes ∈ ps := by assumption) (_ : Part.lanes ∈ ps := by assumption) : Keeps ps s0 (s.handover p b analogue taps) := by
  unfold State.handover
  try dsimp only
  repeat' first
    | with_reducible exact h0
    | with_reducible assumption
    | with_reducible apply Keeps.ite
    | with_reducible apply State.setEcho_keeps
    | with_reducible apply State.storeNat_keeps
    | with_reducible apply State.applyModel_keeps
    | split
    | fail_if_no_progress refine Keeps.record ?_ rfl rfl rfl rfl rfl rfl rfl rfl rfl rfl rfl rfl rfl rfl rfl rfl rfl rfl rfl
    | dsimp only

theorem State.clearCoefs_keeps {ps : List Part} {s0 s : State} (h0 : Keeps ps s0 s) (p : Nat) (b : Band) (_ : Part.lanes ∈ ps := by assumption) : Keeps ps s0 (s.clearCoefs p b) := by
  unfold State.clearCoefs
  repeat' first
    | with_reducible exact h0
    | with_reducible assumption
    | with_reducible exact Keeps.refl _ _
    | with_reducible apply State.setLaneEcho_keeps
    | (with_reducible apply Keeps.each) <;> try intro _ _
    | dsimp only

theorem State.echoTrain_keeps {ps : List Part} {s0 s : State} (h0 : Keeps ps s0 s) (p : Nat) (b : Band) (_ : Part.echoes ∈ ps := by assumption) (_ : Part.lanes ∈ ps := by assumption) : Keeps ps s0 (s.echoTrain p b) := by
  unfold State.echoTrain
  try dsimp only
  repeat' first
    | with_reducible exact h0
    | with_reducible assumption
    | with_reducible apply State.setEcho_keeps
    | with_reducible apply State.clearCoefs_keeps
    | fail_if_no_progress refine Keeps.record ?_ rfl rfl rfl rfl rfl rfl rfl rfl rfl rfl rfl rfl rfl rfl rfl rfl rfl rfl rfl
    | dsimp only

theorem State.echoOff_keeps {ps : List Part} {s0 s : State} (h0 : Keeps ps s0 s) (p : Nat) (b : Band) (_ : Part.echoes ∈ ps := by assumption) (_ : Part.lanes ∈ ps := by assumption) : Keeps ps s0 (s.echoOff p b) := by
  unfold State.echoOff
  try dsimp only
  repeat' first
    | with_reducible exact h0
    | with_reducible assumption
    | with_reducible apply Keeps.ite
    | with_reducible apply State.setEcho_keeps
    | with_reducible apply State.clearCoefs_keeps
    | split
    | dsimp only

theorem State.echoImpedance_keeps {ps : List Part} {s0 s : State} (h0 : Keeps ps s0 s) (p : Nat) (b : Band) (_ : Part.echoes ∈ ps := by assumption) : Keeps ps s0 (s.echoImpedance p b) := by
  unfold State.echoImpedance
  repeat' first
    | with_reducible exact h0
    | with_reducible assumption
    | with_reducible apply Keeps.ite
    | with_reducible apply State.beginHold_keeps
    | split

theorem State.keepSupp_keeps {ps : List Part} {s0 s : State} (h0 : Keeps ps s0 s) (p : Nat) (b : Band) (supp : Int) (_ : Part.dict ∈ ps := by assumption) (_ : Part.echoes ∈ ps := by assumption) : Keeps ps s0 (s.keepSupp p b supp) := by
  unfold State.keepSupp
  try dsimp only
  repeat' first
    | with_reducible exact h0
    | with_reducible assumption
    | with_reducible apply State.setEcho_keeps
    | with_reducible apply State.storeNat_keeps
    | fail_if_no_progress refine Keeps.record ?_ rfl rfl rfl rfl rfl rfl rfl rfl rfl rfl rfl rfl rfl rfl rfl rfl rfl rfl rfl

theorem State.echoTrained_keeps {ps : List Part} {s0 s : State} (h0 : Keeps ps s0 s) (p : Nat) (b : Band) (supp : Int) (samples : List (Int × Int)) (_ : Part.dict ∈ ps := by assumption) (_ : Part.echoes ∈ ps := by assumption) : Keeps ps s0 (s.echoTrained p b supp samples) := by
  unfold State.echoTrained
  try dsimp only
  repeat' first
    | with_reducible exact h0
    | with_reducible assumption
    | with_reducible apply Keeps.ite
    | with_reducible apply State.setEcho_keeps
    | with_reducible apply State.keepSupp_keeps
    | with_reducible apply State.beginHold_keeps
    | split
    | fail_if_no_progress refine Keeps.record ?_ rfl rfl rfl rfl rfl rfl rfl rfl rfl rfl rfl rfl rfl rfl rfl rfl rfl rfl rfl
    | dsimp only

theorem State.echoCheck_keeps {ps : List Part} {s0 s : State} (h0 : Keeps ps s0 s) (p : Nat) (b : Band) (measured : Option Int) (_ : Part.dict ∈ ps := by assumption) (_ : Part.echoes ∈ ps := by assumption) : Keeps ps s0 (s.echoCheck p b measured) := by
  unfold State.echoCheck
  try dsimp only
  repeat' first
    | with_reducible exact h0
    | with_reducible assumption
    | with_reducible apply Keeps.ite
    | with_reducible apply State.keepSupp_keeps
    | with_reducible apply State.echoDisturb_keeps
    | split
    | fail_if_no_progress refine Keeps.record ?_ rfl rfl rfl rfl rfl rfl rfl rfl rfl rfl rfl rfl rfl rfl rfl rfl rfl rfl rfl
    | dsimp only

/-! ## RxOps -/

theorem State.updRx_keeps {ps : List Part} {s0 s : State} (h0 : Keeps ps s0 s) (p l : Nat) (f : LaneRx → LaneRx) (_ : Part.lanes ∈ ps := by assumption) : Keeps ps s0 (s.updRx p l f) := by
  unfold State.updRx
  repeat' first
    | with_reducible exact h0
    | with_reducible assumption
    | with_reducible apply State.setRx_keeps

theorem State.clearFloor_keeps {ps : List Part} {s0 s : State} (h0 : Keeps ps s0 s) (p l : Nat) (_ : Part.dict ∈ ps := by assumption) : Keeps ps s0 (s.clearFloor p l) := by
  unfold State.clearFloor
  repeat' first
    | with_reducible exact h0
    | with_reducible assumption
    | with_reducible exact Keeps.refl _ _
    | with_reducible apply State.store_keeps
    | (with_reducible apply Keeps.each) <;> try intro _ _
    | dsimp only

theorem State.muteRx_keeps {ps : List Part} {s0 s : State} (h0 : Keeps ps s0 s) (p l : Nat) (_ : Part.dict ∈ ps := by assumption) (_ : Part.lanes ∈ ps := by assumption) : Keeps ps s0 (s.muteRx p l) := by
  unfold State.muteRx
  try dsimp only
  repeat' first
    | with_reducible exact h0
    | with_reducible assumption
    | with_reducible apply State.setRx_keeps
    | with_reducible apply State.lbumpN_keeps
    | with_reducible apply State.clearFloor_keeps
    | dsimp only

theorem State.settleRx_keeps {ps : List Part} {s0 s : State} (h0 : Keeps ps s0 s) (p l : Nat) (_ : Part.dict ∈ ps := by assumption) (_ : Part.lanes ∈ ps := by assumption) : Keeps ps s0 (s.settleRx p l) := by
  unfold State.settleRx
  try dsimp only
  repeat' first
    | with_reducible exact h0
    | with_reducible assumption
    | with_reducible apply Keeps.ite
    | with_reducible apply State.setRx_keeps
    | with_reducible apply State.muteRx_keeps
    | split
    | fail_if_no_progress refine Keeps.record ?_ rfl rfl rfl rfl rfl rfl rfl rfl rfl rfl rfl rfl rfl rfl rfl rfl rfl rfl rfl
    | dsimp only

theorem State.settlePortRx_keeps {ps : List Part} {s0 s : State} (h0 : Keeps ps s0 s) (p : Nat) (_ : Part.dict ∈ ps := by assumption) (_ : Part.lanes ∈ ps := by assumption) : Keeps ps s0 (s.settlePortRx p) := by
  unfold State.settlePortRx
  repeat' first
    | with_reducible exact h0
    | with_reducible assumption
    | with_reducible exact Keeps.refl _ _
    | with_reducible apply State.settleRx_keeps
    | (with_reducible apply Keeps.each) <;> try intro _ _
    | dsimp only

theorem State.takeHeader_keeps {ps : List Part} {s0 s : State} (h0 : Keeps ps s0 s) (p l : Nat) (c : RxCur) (_ : Part.lanes ∈ ps := by assumption) : Keeps ps s0 (s.takeHeader p l c) := by
  unfold State.takeHeader
  repeat' first
    | with_reducible exact h0
    | with_reducible assumption
    | with_reducible apply State.updRx_keeps

theorem State.report_keeps {ps : List Part} {s0 s : State} (h0 : Keeps ps s0 s) (p l : Nat) (c : RxCur) (decoded : Bool) (_ : Part.out ∈ ps := by assumption) : Keeps ps s0 (s.report p l c decoded) := by
  unfold State.report
  repeat' first
    | with_reducible exact h0
    | with_reducible assumption
    | with_reducible apply State.emit_keeps

theorem State.reportLost_keeps {ps : List Part} {s0 s : State} (h0 : Keeps ps s0 s) (p l : Nat) (c : RxCur) (_ : Part.out ∈ ps := by assumption) : Keeps ps s0 (s.reportLost p l c) := by
  unfold State.reportLost
  try dsimp only
  repeat' first
    | with_reducible exact h0
    | with_reducible assumption
    | with_reducible apply Keeps.ite
    | with_reducible apply State.report_keeps
    | split
    | fail_if_no_progress refine Keeps.record ?_ rfl rfl rfl rfl rfl rfl rfl rfl rfl rfl rfl rfl rfl rfl rfl rfl rfl rfl rfl

theorem State.loseFrame_keeps {ps : List Part} {s0 s : State} (h0 : Keeps ps s0 s) (p l : Nat) (c : RxCur) (_ : Part.out ∈ ps := by assumption) (_ : Part.dict ∈ ps := by assumption) : Keeps ps s0 (s.loseFrame p l c) := by
  unfold State.loseFrame
  repeat' first
    | with_reducible exact h0
    | with_reducible assumption
    | with_reducible apply State.lbump_keeps
    | with_reducible apply State.reportLost_keeps

theorem State.offer_keeps {ps : List Part} {s0 s : State} (h0 : Keeps ps s0 s) (p l : Nat) (c : RxCur) (_ : Part.out ∈ ps := by assumption) (_ : Part.dict ∈ ps := by assumption) (_ : Part.lanes ∈ ps := by assumption) : Keeps ps s0 (s.offer p l c) := by
  unfold State.offer
  try dsimp only
  repeat' first
    | with_reducible exact h0
    | with_reducible assumption
    | with_reducible apply Keeps.ite
    | with_reducible apply State.updRx_keeps
    | with_reducible apply State.loseFrame_keeps
    | split
    | fail_if_no_progress refine Keeps.record ?_ rfl rfl rfl rfl rfl rfl rfl rfl rfl rfl rfl rfl rfl rfl rfl rfl rfl rfl rfl
    | dsimp only

theorem State.detectDuring_keeps {ps : List Part} {s0 s : State} (h0 : Keeps ps s0 s) (p l : Nat) (c n : RxCur) (_ : Part.out ∈ ps := by assumption) (_ : Part.dict ∈ ps := by assumption) (_ : Part.lanes ∈ ps := by assumption) : Keeps ps s0 (s.detectDuring p l c n) := by
  unfold State.detectDuring
  try dsimp only
  repeat' first
    | with_reducible exact h0
    | with_reducible assumption
    | with_reducible apply Keeps.ite
    | with_reducible apply State.takeHeader_keeps
    | with_reducible apply State.lbump_keeps
    | with_reducible apply State.offer_keeps
    | with_reducible apply State.updRx_keeps
    | split
    | fail_if_no_progress refine Keeps.record ?_ rfl rfl rfl rfl rfl rfl rfl rfl rfl rfl rfl rfl rfl rfl rfl rfl rfl rfl rfl
    | dsimp only

theorem State.detect_keeps {ps : List Part} {s0 s : State} (h0 : Keeps ps s0 s) (p l : Nat) (d : Detection) (_ : Part.out ∈ ps := by assumption) (_ : Part.dict ∈ ps := by assumption) (_ : Part.lanes ∈ ps := by assumption) : Keeps ps s0 (s.detect p l d) := by
  unfold State.detect
  try dsimp only
  repeat' first
    | with_reducible exact h0
    | with_reducible assumption
    | with_reducible apply Keeps.ite
    | with_reducible apply State.updRx_keeps
    | with_reducible apply State.lbump_keeps
    | with_reducible apply State.storeNat_keeps
    | with_reducible apply State.takeHeader_keeps
    | with_reducible apply State.offer_keeps
    | with_reducible apply State.detectDuring_keeps
    | split
    | fail_if_no_progress refine Keeps.record ?_ rfl rfl rfl rfl rfl rfl rfl rfl rfl rfl rfl rfl rfl rfl rfl rfl rfl rfl rfl
    | dsimp only

theorem State.idleRx_keeps {ps : List Part} {s0 s : State} (h0 : Keeps ps s0 s) (p l : Nat) (failed : RxCur) (next : RxState) (_ : Part.lanes ∈ ps := by assumption) : Keeps ps s0 (s.idleRx p l failed next) := by
  unfold State.idleRx
  try dsimp only
  repeat' first
    | with_reducible exact h0
    | with_reducible assumption
    | with_reducible apply Keeps.ite
    | with_reducible apply State.updRx_keeps
    | split
    | fail_if_no_progress refine Keeps.record ?_ rfl rfl rfl rfl rfl rfl rfl rfl rfl rfl rfl rfl rfl rfl rfl rfl rfl rfl rfl

theorem State.examineSlot_keeps {ps : List Part} {s0 s : State} (h0 : Keeps ps s0 s) (p l : Nat) (failed : RxCur) (next : RxState) (_ : Part.out ∈ ps := by assumption) (_ : Part.dict ∈ ps := by assumption) (_ : Part.lanes ∈ ps := by assumption) : Keeps ps s0 (s.examineSlot p l failed next) := by
  unfold State.examineSlot
  try dsimp only
  repeat' first
    | with_reducible exact h0
    | with_reducible assumption
    | with_reducible apply Keeps.ite
    | with_reducible apply State.idleRx_keeps
    | with_reducible apply State.updRx_keeps
    | with_reducible apply State.loseFrame_keeps
    | with_reducible apply State.takeHeader_keeps
    | with_reducible apply State.lbump_keeps
    | split
    | fail_if_no_progress refine Keeps.record ?_ rfl rfl rfl rfl rfl rfl rfl rfl rfl rfl rfl rfl rfl rfl rfl rfl rfl rfl rfl
    | dsimp only

theorem State.headerFails_keeps {ps : List Part} {s0 s : State} (h0 : Keeps ps s0 s) (p l : Nat) (c : RxCur) (counter : Nat) (_ : Part.out ∈ ps := by assumption) (_ : Part.dict ∈ ps := by assumption) (_ : Part.lanes ∈ ps := by assumption) : Keeps ps s0 (s.headerFails p l c counter) := by
  unfold State.headerFails
  try dsimp only
  repeat' first
    | with_reducible exact h0
    | with_reducible assumption
    | with_reducible apply State.lbump_keeps
    | with_reducible apply State.updRx_keeps
    | with_reducible apply State.examineSlot_keeps
    | fail_if_no_progress refine Keeps.record ?_ rfl rfl rfl rfl rfl rfl rfl rfl rfl rfl rfl rfl rfl rfl rfl rfl rfl rfl rfl

theorem State.takeCollided_keeps {ps : List Part} {s0 s : State} (h0 : Keeps ps s0 s) (p l : Nat) (o : RxCur) (_ : Part.out ∈ ps := by assumption) (_ : Part.dict ∈ ps := by assumption) (_ : Part.lanes ∈ ps := by assumption) : Keeps ps s0 (s.takeCollided p l o) := by
  unfold State.takeCollided
  try dsimp only
  repeat' first
    | with_reducible exact h0
    | with_reducible assumption
    | with_reducible apply Keeps.ite
    | with_reducible apply State.takeHeader_keeps
    | with_reducible apply State.loseFrame_keeps
    | split
    | fail_if_no_progress refine Keeps.record ?_ rfl rfl rfl rfl rfl rfl rfl rfl rfl rfl rfl rfl rfl rfl rfl rfl rfl rfl rfl

theorem State.slotAtEnd_keeps {ps : List Part} {s0 s : State} (h0 : Keeps ps s0 s) (p l : Nat) (c o : RxCur) (_ : Part.out ∈ ps := by assumption) (_ : Part.dict ∈ ps := by assumption) (_ : Part.lanes ∈ ps := by assumption) : Keeps ps s0 (s.slotAtEnd p l c o) := by
  unfold State.slotAtEnd
  try dsimp only
  repeat' first
    | with_reducible exact h0
    | with_reducible assumption
    | with_reducible apply Keeps.ite
    | with_reducible apply State.updRx_keeps
    | with_reducible apply State.lbump_keeps
    | with_reducible apply State.takeCollided_keeps
    | split
    | fail_if_no_progress refine Keeps.record ?_ rfl rfl rfl rfl rfl rfl rfl rfl rfl rfl rfl rfl rfl rfl rfl rfl rfl rfl rfl
    | dsimp only

theorem State.setPair_keeps {ps : List Part} {s0 s : State} (h0 : Keeps ps s0 s) (p l : Nat) (q : ReplayPair) (new : Option ReplayPair) (_ : Part.lanes ∈ ps := by assumption) : Keeps ps s0 (s.setPair p l q new) := by
  unfold State.setPair
  try dsimp only
  repeat' first
    | with_reducible exact h0
    | with_reducible assumption
    | with_reducible apply Keeps.ite
    | with_reducible apply State.updRx_keeps
    | split
    | fail_if_no_progress refine Keeps.record ?_ rfl rfl rfl rfl rfl rfl rfl rfl rfl rfl rfl rfl rfl rfl rfl rfl rfl rfl rfl

theorem State.countDecode_keeps {ps : List Part} {s0 s : State} (h0 : Keeps ps s0 s) (p l : Nat) (r : DecodeResult) (_ : Part.dict ∈ ps := by assumption) : Keeps ps s0 (s.countDecode p l r) := by
  unfold State.countDecode
  try dsimp only
  repeat' first
    | with_reducible exact h0
    | with_reducible assumption
    | with_reducible apply Keeps.ite
    | with_reducible apply State.lbumpN_keeps
    | with_reducible apply State.bump_keeps
    | with_reducible apply State.bumpKey_keeps
    | with_reducible apply State.lbump_keeps
    | split
    | dsimp only

theorem State.stepResult_keeps {ps : List Part} {s0 s : State} (h0 : Keeps ps s0 s) (p l : Nat) (c : RxCur) (ok : Bool) (_ : Part.dict ∈ ps := by assumption) (_ : Part.routes ∈ ps := by assumption) : Keeps ps s0 (s.stepResult p l c ok) := by
  unfold State.stepResult
  try dsimp only
  repeat' first
    | with_reducible exact h0
    | with_reducible assumption
    | with_reducible apply Keeps.ite
    | with_reducible apply State.lbump_keeps
    | with_reducible apply State.setLink_keeps
    | split
    | fail_if_no_progress refine Keeps.record ?_ rfl rfl rfl rfl rfl rfl rfl rfl rfl rfl rfl rfl rfl rfl rfl rfl rfl rfl rfl
    | dsimp only

theorem State.fileSnr_keeps {ps : List Part} {s0 s : State} (h0 : Keeps ps s0 s) (p l : Nat) (c : RxCur) (snr : List (Nat × Nat × Nat)) (_ : Part.routes ∈ ps := by assumption) : Keeps ps s0 (s.fileSnr p l c snr) := by
  unfold State.fileSnr
  try dsimp only
  repeat' first
    | with_reducible exact h0
    | with_reducible assumption
    | with_reducible apply Keeps.ite
    | with_reducible apply State.setLink_keeps
    | split
    | fail_if_no_progress refine Keeps.record ?_ rfl rfl rfl rfl rfl rfl rfl rfl rfl rfl rfl rfl rfl rfl rfl rfl rfl rfl rfl
    | dsimp only

theorem State.tallyDecode_keeps {ps : List Part} {s0 s : State} (h0 : Keeps ps s0 s) (p l : Nat) (c : RxCur) (r : DecodeResult) (_ : Part.dict ∈ ps := by assumption) (_ : Part.routes ∈ ps := by assumption) : Keeps ps s0 (s.tallyDecode p l c r) := by
  unfold State.tallyDecode
  try dsimp only
  repeat' first
    | with_reducible exact h0
    | with_reducible assumption
    | with_reducible apply Keeps.ite
    | with_reducible apply State.countDecode_keeps
    | with_reducible apply State.stepResult_keeps
    | with_reducible apply State.fileSnr_keeps
    | split
    | dsimp only

theorem State.pairsDecoded_keeps {ps : List Part} {s0 s : State} (h0 : Keeps ps s0 s) (p l : Nat) (c : RxCur) (ok : Bool) (_ : Part.out ∈ ps := by assumption) (_ : Part.dict ∈ ps := by assumption) (_ : Part.lanes ∈ ps := by assumption) : Keeps ps s0 (s.pairsDecoded p l c ok) := by
  unfold State.pairsDecoded
  try dsimp only
  repeat' first
    | with_reducible exact h0
    | with_reducible assumption
    | with_reducible exact Keeps.refl _ _
    | with_reducible apply Keeps.ite
    | with_reducible apply State.setPair_keeps
    | with_reducible apply State.lbump_keeps
    | with_reducible apply State.reportLost_keeps
    | with_reducible apply State.takeCollided_keeps
    | (with_reducible apply Keeps.each) <;> try intro _ _
    | split
    | fail_if_no_progress refine Keeps.record ?_ rfl rfl rfl rfl rfl rfl rfl rfl rfl rfl rfl rfl rfl rfl rfl rfl rfl rfl rfl
    | dsimp only

theorem State.mainDecoded_keeps {ps : List Part} {s0 s : State} (h0 : Keeps ps s0 s) (p l : Nat) (c : RxCur) (r : DecodeResult) (_ : Part.out ∈ ps := by assumption) (_ : Part.dict ∈ ps := by assumption) (_ : Part.lanes ∈ ps := by assumption) (_ : Part.routes ∈ ps := by assumption) : Keeps ps s0 (s.mainDecoded p l c r) := by
  unfold State.mainDecoded
  try dsimp only
  repeat' first
    | with_reducible exact h0
    | with_reducible assumption
    | with_reducible apply State.updRx_keeps
    | with_reducible apply State.tallyDecode_keeps
    | with_reducible apply State.report_keeps
    | with_reducible apply State.pairsDecoded_keeps
    | fail_if_no_progress refine Keeps.record ?_ rfl rfl rfl rfl rfl rfl rfl rfl rfl rfl rfl rfl rfl rfl rfl rfl rfl rfl rfl
    | dsimp only

theorem State.replayDecoded_keeps {ps : List Part} {s0 s : State} (h0 : Keeps ps s0 s) (p l : Nat) (q : ReplayPair) (r : DecodeResult) (_ : Part.out ∈ ps := by assumption) (_ : Part.dict ∈ ps := by assumption) (_ : Part.lanes ∈ ps := by assumption) (_ : Part.routes ∈ ps := by assumption) : Keeps ps s0 (s.replayDecoded p l q r) := by
  unfold State.replayDecoded
  try dsimp only
  repeat' first
    | with_reducible exact h0
    | with_reducible assumption
    | with_reducible apply Keeps.ite
    | with_reducible apply State.tallyDecode_keeps
    | with_reducible apply State.setPair_keeps
    | with_reducible apply State.lbump_keeps
    | with_reducible apply State.report_keeps
    | split
    | fail_if_no_progress refine Keeps.record ?_ rfl rfl rfl rfl rfl rfl rfl rfl rfl rfl rfl rfl rfl rfl rfl rfl rfl rfl rfl
    | dsimp only

theorem State.countSymbol_keeps {ps : List Part} {s0 s : State} (h0 : Keeps ps s0 s) (p l : Nat) (l' : List (Nat × Nat)) (_ : Part.dict ∈ ps := by assumption) : Keeps ps s0 (s.countSymbol p l l') := by
  unfold State.countSymbol
  repeat' first
    | with_reducible exact h0
    | with_reducible assumption
    | with_reducible exact Keeps.refl _ _
    | with_reducible apply State.lbumpN_keeps
    | (with_reducible apply Keeps.each) <;> try intro _ _
    | dsimp only

theorem State.rxSymbol_keeps {ps : List Part} {s0 s : State} (h0 : Keeps ps s0 s) (p l : Nat) (c : RxCur) (y : RxSymbol) (body : List Cplx)
    (store : State → RxCur → State) (hs : ∀ v x, Keeps ps v (store v x)) (_ : Part.dict ∈ ps := by assumption) (_ : Part.echoes ∈ ps := by assumption) : Keeps ps s0 (s.rxSymbol p l c y body store) := by
  unfold State.rxSymbol
  dsimp only
  split
  · exact State.echoCheck_keeps ((State.countSymbol_keeps h0 ..).trans (hs _ _)) ..
  · exact (State.countSymbol_keeps h0 ..).trans (hs _ _)

theorem State.setCur_keeps {ps : List Part} {s0 s : State} (h0 : Keeps ps s0 s) (p l : Nat) (c : RxCur) (_ : Part.lanes ∈ ps := by assumption) : Keeps ps s0 (s.setCur p l c) := by
  unfold State.setCur
  try dsimp only
  repeat' first
    | with_reducible exact h0
    | with_reducible assumption
    | with_reducible apply State.updRx_keeps
    | fail_if_no_progress refine Keeps.record ?_ rfl rfl rfl rfl rfl rfl rfl rfl rfl rfl rfl rfl rfl rfl rfl rfl rfl rfl rfl

theorem State.limitLanes_keeps {ps : List Part} {s0 s : State} (h0 : Keeps ps s0 s) (p : Nat) (_ : Part.dict ∈ ps := by assumption) (_ : Part.lanes ∈ ps := by assumption) : Keeps ps s0 (s.limitLanes p) := by
  unfold State.limitLanes
  try dsimp only
  repeat' first
    | with_reducible exact h0
    | with_reducible assumption
    | with_reducible exact Keeps.refl _ _
    | with_reducible apply Keeps.ite
    | with_reducible apply State.setCur_keeps
    | with_reducible apply State.lbumpN_keeps
    | (with_reducible apply Keeps.each) <;> try intro _ _
    | split
    | fail_if_no_progress refine Keeps.record ?_ rfl rfl rfl rfl rfl rfl rfl rfl rfl rfl rfl rfl rfl rfl rfl rfl rfl rfl rfl
    | dsimp only

/-! ## PortOps -/

theorem State.updPort_keeps {ps : List Part} {s0 s : State} (h0 : Keeps ps s0 s) (p : Nat) (f : Port → Port) (_ : Part.ports ∈ ps := by assumption) : Keeps ps s0 (s.updPort p f) := by
  unfold State.updPort
  repeat' first
    | with_reducible exact h0
    | with_reducible assumption
    | with_reducible apply State.setPort_keeps

theorem State.liftGroups_keeps {ps : List Part} {s0 s : State} (h0 : Keeps ps s0 s) (p : Nat) (_ : Part.dict ∈ ps := by assumption) (_ : Part.lanes ∈ ps := by assumption) : Keeps ps s0 (s.liftGroups p) := by
  unfold State.liftGroups
  try dsimp only
  repeat' first
    | with_reducible exact h0
    | with_reducible assumption
    | with_reducible exact Keeps.refl _ _
    | with_reducible apply State.setTx_keeps
    | with_reducible apply State.storeNat_keeps
    | (with_reducible apply Keeps.each) <;> try intro _ _
    | fail_if_no_progress refine Keeps.record ?_ rfl rfl rfl rfl rfl rfl rfl rfl rfl rfl rfl rfl rfl rfl rfl rfl rfl rfl rfl
    | dsimp only

theorem State.enterPort_keeps {ps : List Part} {s0 s : State} (h0 : Keeps ps s0 s) (p : Nat) (st : PortState) (step : PortStep) (_ : Part.out ∈ ps := by assumption) (_ : Part.dict ∈ ps := by assumption) (_ : Part.ports ∈ ps := by assumption) (_ : Part.echoes ∈ ps := by assumption) (_ : Part.lanes ∈ ps := by assumption) (_ : Part.spools ∈ ps := by assumption) (_ : Part.pages ∈ ps := by assumption) (_ : Part.routes ∈ ps := by assumption) : Keeps ps s0 (s.enterPort p st step) := by
  unfold State.enterPort
  try dsimp only
  repeat' first
    | with_reducible exact h0
    | with_reducible assumption
    | with_reducible apply Keeps.ite
    | with_reducible apply State.setPort_keeps
    | with_reducible apply State.touchPort_keeps
    | with_reducible apply State.broadcastsLeave_keeps
    | with_reducible apply State.liftGroups_keeps
    | with_reducible apply State.echoOff_keeps
    | with_reducible apply State.settlePortRx_keeps
    | split
    | fail_if_no_progress refine Keeps.record ?_ rfl rfl rfl rfl rfl rfl rfl rfl rfl rfl rfl rfl rfl rfl rfl rfl rfl rfl rfl
    | dsimp only

theorem State.cutLanes_keeps {ps : List Part} {s0 s : State} (h0 : Keeps ps s0 s) (p : Nat) (_ : Part.out ∈ ps := by assumption) (_ : Part.lanes ∈ ps := by assumption) (_ : Part.spools ∈ ps := by assumption) (_ : Part.pages ∈ ps := by assumption) : Keeps ps s0 (s.cutLanes p) := by
  unfold State.cutLanes
  repeat' first
    | with_reducible exact h0
    | with_reducible assumption
    | with_reducible exact Keeps.refl _ _
    | with_reducible apply State.cutFrame_keeps
    | (with_reducible apply Keeps.each) <;> try intro _ _
    | dsimp only

theorem State.quietPort_keeps {ps : List Part} {s0 s : State} (h0 : Keeps ps s0 s) (p : Nat) (_ : Part.ports ∈ ps := by assumption) : Keeps ps s0 (s.quietPort p) := by
  unfold State.quietPort
  repeat' first
    | with_reducible exact h0
    | with_reducible assumption
    | with_reducible apply State.updPort_keeps

theorem State.startPort_keeps {ps : List Part} {s0 s : State} (h0 : Keeps ps s0 s) (p : Nat) (_ : Part.out ∈ ps := by assumption) (_ : Part.dict ∈ ps := by assumption) (_ : Part.ports ∈ ps := by assumption) (_ : Part.echoes ∈ ps := by assumption) (_ : Part.lanes ∈ ps := by assumption) (_ : Part.spools ∈ ps := by assumption) (_ : Part.pages ∈ ps := by assumption) (_ : Part.routes ∈ ps := by assumption) : Keeps ps s0 (s.startPort p) := by
  unfold State.startPort
  try dsimp only
  repeat' first
    | with_reducible exact h0
    | with_reducible assumption
    | with_reducible apply State.updPort_keeps
    | with_reducible apply State.enterPort_keeps
    | fail_if_no_progress refine Keeps.record ?_ rfl rfl rfl rfl rfl rfl rfl rfl rfl rfl rfl rfl rfl rfl rfl rfl rfl rfl rfl

theorem State.trainIfClosed_keeps {ps : List Part} {s0 s : State} (h0 : Keeps ps s0 s) (p : Nat) (_ : Part.dict ∈ ps := by assumption) (_ : Part.ports ∈ ps := by assumption) (_ : Part.echoes ∈ ps := by assumption) (_ : Part.lanes ∈ ps := by assumption) (_ : Part.routes ∈ ps := by assumption) : Keeps ps s0 (s.trainIfClosed p) := by
  unfold State.trainIfClosed
  try dsimp only
  repeat' first
    | with_reducible exact h0
    | with_reducible assumption
    | with_reducible exact Keeps.refl _ _
    | with_reducible apply Keeps.ite
    | with_reducible apply State.updPort_keeps
    | with_reducible apply State.echoTrain_keeps
    | (with_reducible apply Keeps.each) <;> try intro _ _
    | split
    | fail_if_no_progress refine Keeps.record ?_ rfl rfl rfl rfl rfl rfl rfl rfl rfl rfl rfl rfl rfl rfl rfl rfl rfl rfl rfl
    | dsimp only

theorem State.relayStep_keeps {ps : List Part} {s0 s : State} (h0 : Keeps ps s0 s) (p : Nat) (st : PortState) (_ : Part.out ∈ ps := by assumption) (_ : Part.dict ∈ ps := by assumption) (_ : Part.ports ∈ ps := by assumption) (_ : Part.echoes ∈ ps := by assumption) (_ : Part.lanes ∈ ps := by assumption) (_ : Part.spools ∈ ps := by assumption) (_ : Part.pages ∈ ps := by assumption) (_ : Part.routes ∈ ps := by assumption) : Keeps ps s0 (s.relayStep p st) := by
  unfold State.relayStep
  try dsimp only
  repeat' first
    | with_reducible exact h0
    | with_reducible assumption
    | with_reducible apply Keeps.ite
    | with_reducible apply State.updPort_keeps
    | with_reducible apply State.enterPort_keeps
    | with_reducible apply State.trainIfClosed_keeps
    | split
    | fail_if_no_progress refine Keeps.record ?_ rfl rfl rfl rfl rfl rfl rfl rfl rfl rfl rfl rfl rfl rfl rfl rfl rfl rfl rfl
    | dsimp only

theorem State.leaveStopped_keeps {ps : List Part} {s0 s : State} (h0 : Keeps ps s0 s) (p : Nat) (_ : Part.out ∈ ps := by assumption) (_ : Part.dict ∈ ps := by assumption) (_ : Part.ports ∈ ps := by assumption) (_ : Part.echoes ∈ ps := by assumption) (_ : Part.lanes ∈ ps := by assumption) (_ : Part.spools ∈ ps := by assumption) (_ : Part.pages ∈ ps := by assumption) (_ : Part.routes ∈ ps := by assumption) : Keeps ps s0 (s.leaveStopped p) := by
  unfold State.leaveStopped
  repeat' first
    | with_reducible exact h0
    | with_reducible assumption
    | with_reducible apply Keeps.ite
    | with_reducible apply State.enterPort_keeps
    | with_reducible apply State.relayStep_keeps
    | split

theorem State.abandonPort_keeps {ps : List Part} {s0 s : State} (h0 : Keeps ps s0 s) (p : Nat) (st : PortState) (_ : Part.out ∈ ps := by assumption) (_ : Part.dict ∈ ps := by assumption) (_ : Part.ports ∈ ps := by assumption) (_ : Part.echoes ∈ ps := by assumption) (_ : Part.lanes ∈ ps := by assumption) (_ : Part.spools ∈ ps := by assumption) (_ : Part.pages ∈ ps := by assumption) (_ : Part.routes ∈ ps := by assumption) : Keeps ps s0 (s.abandonPort p st) := by
  unfold State.abandonPort
  repeat' first
    | with_reducible exact h0
    | with_reducible assumption
    | with_reducible apply State.quietPort_keeps
    | with_reducible apply State.enterPort_keeps
    | with_reducible apply State.updPort_keeps

theorem State.finishStopping_keeps {ps : List Part} {s0 s : State} (h0 : Keeps ps s0 s) (p : Nat) (_ : Part.out ∈ ps := by assumption) (_ : Part.dict ∈ ps := by assumption) (_ : Part.ports ∈ ps := by assumption) (_ : Part.echoes ∈ ps := by assumption) (_ : Part.lanes ∈ ps := by assumption) (_ : Part.spools ∈ ps := by assumption) (_ : Part.pages ∈ ps := by assumption) (_ : Part.routes ∈ ps := by assumption) : Keeps ps s0 (s.finishStopping p) := by
  unfold State.finishStopping
  try dsimp only
  repeat' first
    | with_reducible exact h0
    | with_reducible assumption
    | with_reducible apply Keeps.ite
    | with_reducible apply State.cutLanes_keeps
    | with_reducible apply State.quietPort_keeps
    | with_reducible apply State.enterPort_keeps
    | with_reducible apply State.updPort_keeps
    | split
    | dsimp only

theorem State.reloadRetries_keeps {ps : List Part} {s0 s : State} (h0 : Keeps ps s0 s) (p : Nat) (_ : Part.ports ∈ ps := by assumption) : Keeps ps s0 (s.reloadRetries p) := by
  unfold State.reloadRetries
  try dsimp only
  repeat' first
    | with_reducible exact h0
    | with_reducible assumption
    | with_reducible apply State.updPort_keeps
    | fail_if_no_progress refine Keeps.record ?_ rfl rfl rfl rfl rfl rfl rfl rfl rfl rfl rfl rfl rfl rfl rfl rfl rfl rfl rfl

theorem State.swapDone_keeps {ps : List Part} {s0 s : State} (h0 : Keeps ps s0 s) (p : Nat) (_ : Part.dict ∈ ps := by assumption) (_ : Part.log ∈ ps := by assumption) (_ : Part.ports ∈ ps := by assumption) (_ : Part.rst ∈ ps := by assumption) (_ : Part.sup ∈ ps := by assumption) : Keeps ps s0 (s.swapDone p) := by
  unfold State.swapDone
  try dsimp only
  repeat' first
    | with_reducible exact h0
    | with_reducible assumption
    | with_reducible apply State.endSwap_keeps
    | with_reducible apply State.pbump_keeps
    | with_reducible apply State.updPort_keeps
    | split
    | fail_if_no_progress refine Keeps.record ?_ rfl rfl rfl rfl rfl rfl rfl rfl rfl rfl rfl rfl rfl rfl rfl rfl rfl rfl rfl
    | dsimp only

theorem State.portPolicy_keeps {ps : List Part} {s0 s : State} (h0 : Keeps ps s0 s) (p : Nat) (_ : Part.out ∈ ps := by assumption) (_ : Part.dict ∈ ps := by assumption) (_ : Part.log ∈ ps := by assumption) (_ : Part.ports ∈ ps := by assumption) (_ : Part.echoes ∈ ps := by assumption) (_ : Part.lanes ∈ ps := by assumption) (_ : Part.spools ∈ ps := by assumption) (_ : Part.pages ∈ ps := by assumption) (_ : Part.routes ∈ ps := by assumption) (_ : Part.cells ∈ ps := by assumption) (_ : Part.rst ∈ ps := by assumption) (_ : Part.sup ∈ ps := by assumption) : Keeps ps s0 (s.portPolicy p) := by
  unfold State.portPolicy
  try dsimp only
  repeat' first
    | with_reducible exact h0
    | with_reducible assumption
    | with_reducible apply Keeps.ite
    | with_reducible apply State.reloadRetries_keeps
    | with_reducible apply State.updPort_keeps
    | with_reducible apply State.startPort_keeps
    | with_reducible apply State.abandonPort_keeps
    | with_reducible apply State.enterPort_keeps
    | with_reducible apply State.leaveStopped_keeps
    | with_reducible apply State.swapDone_keeps
    | with_reducible apply State.cutLanes_keeps
    | with_reducible apply State.cutCommand_keeps
    | with_reducible apply State.quietPort_keeps
    | split
    | fail_if_no_progress refine Keeps.record ?_ rfl rfl rfl rfl rfl rfl rfl rfl rfl rfl rfl rfl rfl rfl rfl rfl rfl rfl rfl
    | dsimp only

theorem State.enterFault_keeps {ps : List Part} {s0 s : State} (h0 : Keeps ps s0 s) (p cause : Nat) (_ : Part.out ∈ ps := by assumption) (_ : Part.dict ∈ ps := by assumption) (_ : Part.log ∈ ps := by assumption) (_ : Part.ports ∈ ps := by assumption) (_ : Part.echoes ∈ ps := by assumption) (_ : Part.lanes ∈ ps := by assumption) (_ : Part.spools ∈ ps := by assumption) (_ : Part.pages ∈ ps := by assumption) (_ : Part.routes ∈ ps := by assumption) (_ : Part.cells ∈ ps := by assumption) : Keeps ps s0 (s.enterFault p cause) := by
  unfold State.enterFault
  try dsimp only
  repeat' first
    | with_reducible exact h0
    | with_reducible assumption
    | with_reducible apply Keeps.ite
    | with_reducible apply State.cutLanes_keeps
    | with_reducible apply State.cutCommand_keeps
    | with_reducible apply State.quietPort_keeps
    | with_reducible apply State.enterPort_keeps
    | with_reducible apply State.updPort_keeps
    | with_reducible apply State.storeNat_keeps
    | with_reducible apply State.pbump_keeps
    | with_reducible apply State.event_keeps
    | split
    | fail_if_no_progress refine Keeps.record ?_ rfl rfl rfl rfl rfl rfl rfl rfl rfl rfl rfl rfl rfl rfl rfl rfl rfl rfl rfl
    | dsimp only

theorem State.portFault_keeps {ps : List Part} {s0 s : State} (h0 : Keeps ps s0 s) (p cause : Nat) (_ : Part.out ∈ ps := by assumption) (_ : Part.dict ∈ ps := by assumption) (_ : Part.hier ∈ ps := by assumption) (_ : Part.log ∈ ps := by assumption) (_ : Part.ports ∈ ps := by assumption) (_ : Part.echoes ∈ ps := by assumption) (_ : Part.lanes ∈ ps := by assumption) (_ : Part.spools ∈ ps := by assumption) (_ : Part.pages ∈ ps := by assumption) (_ : Part.routes ∈ ps := by assumption) (_ : Part.cells ∈ ps := by assumption) (_ : Part.rst ∈ ps := by assumption) (_ : Part.sup ∈ ps := by assumption) : Keeps ps s0 (s.portFault p cause) := by
  unfold State.portFault
  try dsimp only
  repeat' first
    | with_reducible exact h0
    | with_reducible assumption
    | with_reducible apply Keeps.ite
    | with_reducible apply State.cutLanes_keeps
    | with_reducible apply State.cutCommand_keeps
    | with_reducible apply State.quietPort_keeps
    | with_reducible apply State.updPort_keeps
    | with_reducible apply State.swapDone_keeps
    | with_reducible apply State.endSwap_keeps
    | with_reducible apply State.enterFault_keeps
    | with_reducible apply State.escalate_keeps
    | split
    | fail_if_no_progress refine Keeps.record ?_ rfl rfl rfl rfl rfl rfl rfl rfl rfl rfl rfl rfl rfl rfl rfl rfl rfl rfl rfl
    | dsimp only

theorem State.retryPort_keeps {ps : List Part} {s0 s : State} (h0 : Keeps ps s0 s) (p : Nat) (_ : Part.out ∈ ps := by assumption) (_ : Part.dict ∈ ps := by assumption) (_ : Part.ports ∈ ps := by assumption) (_ : Part.echoes ∈ ps := by assumption) (_ : Part.lanes ∈ ps := by assumption) (_ : Part.spools ∈ ps := by assumption) (_ : Part.pages ∈ ps := by assumption) (_ : Part.routes ∈ ps := by assumption) : Keeps ps s0 (s.retryPort p) := by
  unfold State.retryPort
  try dsimp only
  repeat' first
    | with_reducible exact h0
    | with_reducible assumption
    | with_reducible apply Keeps.ite
    | with_reducible apply State.updPort_keeps
    | with_reducible apply State.startPort_keeps
    | split
    | fail_if_no_progress refine Keeps.record ?_ rfl rfl rfl rfl rfl rfl rfl rfl rfl rfl rfl rfl rfl rfl rfl rfl rfl rfl rfl
    | dsimp only

theorem State.moveMatrix_keeps {ps : List Part} {s0 s : State} (h0 : Keeps ps s0 s) (p : Nat) (_ : Part.ports ∈ ps := by assumption) : Keeps ps s0 (s.moveMatrix p) := by
  unfold State.moveMatrix
  try dsimp only
  repeat' first
    | with_reducible exact h0
    | with_reducible assumption
    | with_reducible apply State.updPort_keeps
    | fail_if_no_progress refine Keeps.record ?_ rfl rfl rfl rfl rfl rfl rfl rfl rfl rfl rfl rfl rfl rfl rfl rfl rfl rfl rfl

theorem State.matrixIdle_keeps {ps : List Part} {s0 s : State} (h0 : Keeps ps s0 s) (p : Nat) (_ : Part.ports ∈ ps := by assumption) : Keeps ps s0 (s.matrixIdle p) := by
  unfold State.matrixIdle
  repeat' first
    | with_reducible exact h0
    | with_reducible assumption
    | with_reducible apply Keeps.ite
    | with_reducible apply State.moveMatrix_keeps
    | split

theorem State.startSwap_keeps {ps : List Part} {s0 s : State} (h0 : Keeps ps s0 s) (p : Nat) (q : SwapRequest) (_ : Part.out ∈ ps := by assumption) (_ : Part.dict ∈ ps := by assumption) (_ : Part.ports ∈ ps := by assumption) (_ : Part.echoes ∈ ps := by assumption) (_ : Part.lanes ∈ ps := by assumption) (_ : Part.spools ∈ ps := by assumption) (_ : Part.pages ∈ ps := by assumption) (_ : Part.routes ∈ ps := by assumption) : Keeps ps s0 (s.startSwap p q) := by
  unfold State.startSwap
  try dsimp only
  repeat' first
    | with_reducible exact h0
    | with_reducible assumption
    | with_reducible apply Keeps.ite
    | with_reducible apply State.updPort_keeps
    | with_reducible apply State.enterPort_keeps
    | with_reducible apply State.cutLanes_keeps
    | with_reducible apply State.quietPort_keeps
    | with_reducible apply State.echoOff_keeps
    | with_reducible apply State.matrixIdle_keeps
    | split
    | fail_if_no_progress refine Keeps.record ?_ rfl rfl rfl rfl rfl rfl rfl rfl rfl rfl rfl rfl rfl rfl rfl rfl rfl rfl rfl
    | dsimp only

theorem State.drainSwap_keeps {ps : List Part} {s0 s : State} (h0 : Keeps ps s0 s) (p : Nat) (_ : Part.out ∈ ps := by assumption) (_ : Part.ports ∈ ps := by assumption) (_ : Part.lanes ∈ ps := by assumption) (_ : Part.spools ∈ ps := by assumption) (_ : Part.pages ∈ ps := by assumption) : Keeps ps s0 (s.drainSwap p) := by
  unfold State.drainSwap
  try dsimp only
  repeat' first
    | with_reducible exact h0
    | with_reducible assumption
    | with_reducible apply Keeps.ite
    | with_reducible apply State.cutLanes_keeps
    | with_reducible apply State.quietPort_keeps
    | with_reducible apply State.updPort_keeps
    | split
    | fail_if_no_progress refine Keeps.record ?_ rfl rfl rfl rfl rfl rfl rfl rfl rfl rfl rfl rfl rfl rfl rfl rfl rfl rfl rfl
    | dsimp only

theorem State.matrixStep_keeps {ps : List Part} {s0 s : State} (h0 : Keeps ps s0 s) (p : Nat) (_ : Part.ports ∈ ps := by assumption) : Keeps ps s0 (s.matrixStep p) := by
  unfold State.matrixStep
  try dsimp only
  repeat' first
    | with_reducible exact h0
    | with_reducible assumption
    | with_reducible apply Keeps.ite
    | with_reducible apply State.moveMatrix_keeps
    | with_reducible apply State.updPort_keeps
    | with_reducible apply State.matrixIdle_keeps
    | split
    | fail_if_no_progress refine Keeps.record ?_ rfl rfl rfl rfl rfl rfl rfl rfl rfl rfl rfl rfl rfl rfl rfl rfl rfl rfl rfl
    | dsimp only

theorem State.matrixMade_keeps {ps : List Part} {s0 s : State} (h0 : Keeps ps s0 s) (p : Nat) (_ : Part.out ∈ ps := by assumption) (_ : Part.dict ∈ ps := by assumption) (_ : Part.log ∈ ps := by assumption) (_ : Part.ports ∈ ps := by assumption) (_ : Part.echoes ∈ ps := by assumption) (_ : Part.lanes ∈ ps := by assumption) (_ : Part.spools ∈ ps := by assumption) (_ : Part.pages ∈ ps := by assumption) (_ : Part.routes ∈ ps := by assumption) (_ : Part.cells ∈ ps := by assumption) (_ : Part.rst ∈ ps := by assumption) (_ : Part.sup ∈ ps := by assumption) : Keeps ps s0 (s.matrixMade p) := by
  unfold State.matrixMade
  try dsimp only
  repeat' first
    | with_reducible exact h0
    | with_reducible assumption
    | with_reducible apply Keeps.ite
    | with_reducible apply State.updPort_keeps
    | with_reducible apply State.swapDone_keeps
    | with_reducible apply State.enterFault_keeps
    | split
    | fail_if_no_progress refine Keeps.record ?_ rfl rfl rfl rfl rfl rfl rfl rfl rfl rfl rfl rfl rfl rfl rfl rfl rfl rfl rfl
    | dsimp only

theorem State.portTrained_keeps {ps : List Part} {s0 s : State} (h0 : Keeps ps s0 s) (p : Nat) (_ : Part.out ∈ ps := by assumption) (_ : Part.dict ∈ ps := by assumption) (_ : Part.log ∈ ps := by assumption) (_ : Part.ports ∈ ps := by assumption) (_ : Part.echoes ∈ ps := by assumption) (_ : Part.lanes ∈ ps := by assumption) (_ : Part.spools ∈ ps := by assumption) (_ : Part.pages ∈ ps := by assumption) (_ : Part.routes ∈ ps := by assumption) (_ : Part.rst ∈ ps := by assumption) (_ : Part.sup ∈ ps := by assumption) : Keeps ps s0 (s.portTrained p) := by
  unfold State.portTrained
  try dsimp only
  repeat' first
    | with_reducible exact h0
    | with_reducible assumption
    | with_reducible apply Keeps.ite
    | with_reducible apply State.swapDone_keeps
    | with_reducible apply State.enterPort_keeps
    | split
    | dsimp only

theorem State.settleBands_keeps {ps : List Part} {s0 s : State} (h0 : Keeps ps s0 s) (p : Nat) (_ : Part.out ∈ ps := by assumption) (_ : Part.dict ∈ ps := by assumption) (_ : Part.ports ∈ ps := by assumption) (_ : Part.echoes ∈ ps := by assumption) (_ : Part.lanes ∈ ps := by assumption) (_ : Part.spools ∈ ps := by assumption) (_ : Part.pages ∈ ps := by assumption) (_ : Part.routes ∈ ps := by assumption) : Keeps ps s0 (s.settleBands p) := by
  unfold State.settleBands
  try dsimp only
  repeat' first
    | with_reducible exact h0
    | with_reducible assumption
    | with_reducible exact Keeps.refl _ _
    | with_reducible apply Keeps.ite
    | with_reducible apply State.updPort_keeps
    | with_reducible apply State.echoOff_keeps
    | with_reducible apply State.settlePortRx_keeps
    | with_reducible apply State.trainIfClosed_keeps
    | with_reducible apply State.relayStep_keeps
    | (with_reducible apply Keeps.each) <;> try intro _ _
    | split
    | fail_if_no_progress refine Keeps.record ?_ rfl rfl rfl rfl rfl rfl rfl rfl rfl rfl rfl rfl rfl rfl rfl rfl rfl rfl rfl
    | dsimp only

theorem State.bandClosed_keeps {ps : List Part} {s0 s : State} (h0 : Keeps ps s0 s) (p : Nat) (b : Band) (_ : Part.dict ∈ ps := by assumption) (_ : Part.ports ∈ ps := by assumption) (_ : Part.echoes ∈ ps := by assumption) (_ : Part.lanes ∈ ps := by assumption) (_ : Part.routes ∈ ps := by assumption) : Keeps ps s0 (s.bandClosed p b) := by
  unfold State.bandClosed
  try dsimp only
  repeat' first
    | with_reducible exact h0
    | with_reducible assumption
    | with_reducible apply Keeps.ite
    | with_reducible apply State.updPort_keeps
    | with_reducible apply State.echoTrain_keeps
    | split
    | dsimp only

theorem State.bandTrained_keeps {ps : List Part} {s0 s : State} (h0 : Keeps ps s0 s) (p : Nat) (b : Band) (_ : Part.dict ∈ ps := by assumption) (_ : Part.ports ∈ ps := by assumption) (_ : Part.lanes ∈ ps := by assumption) : Keeps ps s0 (s.bandTrained p b) := by
  unfold State.bandTrained
  try dsimp only
  repeat' first
    | with_reducible exact h0
    | with_reducible assumption
    | with_reducible apply Keeps.ite
    | with_reducible apply State.updPort_keeps
    | with_reducible apply State.settlePortRx_keeps
    | split
    | fail_if_no_progress refine Keeps.record ?_ rfl rfl rfl rfl rfl rfl rfl rfl rfl rfl rfl rfl rfl rfl rfl rfl rfl rfl rfl
    | dsimp only

theorem State.bandSense_keeps {ps : List Part} {s0 s : State} (h0 : Keeps ps s0 s) (p : Nat) (b : Band) (closed : Bool) (_ : Part.out ∈ ps := by assumption) (_ : Part.dict ∈ ps := by assumption) (_ : Part.hier ∈ ps := by assumption) (_ : Part.log ∈ ps := by assumption) (_ : Part.ports ∈ ps := by assumption) (_ : Part.echoes ∈ ps := by assumption) (_ : Part.lanes ∈ ps := by assumption) (_ : Part.spools ∈ ps := by assumption) (_ : Part.pages ∈ ps := by assumption) (_ : Part.routes ∈ ps := by assumption) (_ : Part.cells ∈ ps := by assumption) (_ : Part.rst ∈ ps := by assumption) (_ : Part.sup ∈ ps := by assumption) : Keeps ps s0 (s.bandSense p b closed) := by
  unfold State.bandSense
  try dsimp only
  repeat' first
    | with_reducible exact h0
    | with_reducible assumption
    | with_reducible apply Keeps.ite
    | with_reducible apply State.updPort_keeps
    | with_reducible apply State.pbump_keeps
    | with_reducible apply State.relayWear_keeps
    | with_reducible apply State.portFault_keeps
    | with_reducible apply State.echoOff_keeps
    | with_reducible apply State.bandClosed_keeps
    | with_reducible apply State.trainIfClosed_keeps
    | with_reducible apply State.matrixStep_keeps
    | split
    | fail_if_no_progress refine Keeps.record ?_ rfl rfl rfl rfl rfl rfl rfl rfl rfl rfl rfl rfl rfl rfl rfl rfl rfl rfl rfl
    | dsimp only

theorem State.matrixSense_keeps {ps : List Part} {s0 s : State} (h0 : Keeps ps s0 s) (p : Nat) (closed : Bool) (_ : Part.out ∈ ps := by assumption) (_ : Part.dict ∈ ps := by assumption) (_ : Part.hier ∈ ps := by assumption) (_ : Part.log ∈ ps := by assumption) (_ : Part.ports ∈ ps := by assumption) (_ : Part.echoes ∈ ps := by assumption) (_ : Part.lanes ∈ ps := by assumption) (_ : Part.spools ∈ ps := by assumption) (_ : Part.pages ∈ ps := by assumption) (_ : Part.routes ∈ ps := by assumption) (_ : Part.cells ∈ ps := by assumption) (_ : Part.rst ∈ ps := by assumption) (_ : Part.sup ∈ ps := by assumption) : Keeps ps s0 (s.matrixSense p closed) := by
  unfold State.matrixSense
  try dsimp only
  repeat' first
    | with_reducible exact h0
    | with_reducible assumption
    | with_reducible apply Keeps.ite
    | with_reducible apply State.updPort_keeps
    | with_reducible apply State.relayWear_keeps
    | with_reducible apply State.matrixMade_keeps
    | with_reducible apply State.portFault_keeps
    | split
    | fail_if_no_progress refine Keeps.record ?_ rfl rfl rfl rfl rfl rfl rfl rfl rfl rfl rfl rfl rfl rfl rfl rfl rfl rfl rfl
    | dsimp only

theorem State.lineFlag_keeps {ps : List Part} {s0 s : State} (h0 : Keeps ps s0 s) (p i : Nat) (on : Bool) (_ : Part.ports ∈ ps := by assumption) : Keeps ps s0 (s.lineFlag p i on) := by
  unfold State.lineFlag
  try dsimp only
  repeat' first
    | with_reducible exact h0
    | with_reducible assumption
    | with_reducible apply State.updPort_keeps
    | fail_if_no_progress refine Keeps.record ?_ rfl rfl rfl rfl rfl rfl rfl rfl rfl rfl rfl rfl rfl rfl rfl rfl rfl rfl rfl

theorem State.foldTick_keeps {ps : List Part} {s0 s : State} (h0 : Keeps ps s0 s) (p : Nat) (_ : Part.dict ∈ ps := by assumption) (_ : Part.ports ∈ ps := by assumption) : Keeps ps s0 (s.foldTick p) := by
  unfold State.foldTick
  try dsimp only
  repeat' first
    | with_reducible exact h0
    | with_reducible assumption
    | with_reducible apply Keeps.ite
    | with_reducible apply State.updPort_keeps
    | with_reducible apply State.lineFlag_keeps
    | with_reducible apply State.pbump_keeps
    | split
    | fail_if_no_progress refine Keeps.record ?_ rfl rfl rfl rfl rfl rfl rfl rfl rfl rfl rfl rfl rfl rfl rfl rfl rfl rfl rfl
    | dsimp only

theorem State.scaleTick_keeps {ps : List Part} {s0 s : State} (h0 : Keeps ps s0 s) (p : Nat) (_ : Part.out ∈ ps := by assumption) (_ : Part.dict ∈ ps := by assumption) (_ : Part.ports ∈ ps := by assumption) : Keeps ps s0 (s.scaleTick p) := by
  unfold State.scaleTick
  try dsimp only
  repeat' first
    | with_reducible exact h0
    | with_reducible assumption
    | with_reducible apply Keeps.ite
    | with_reducible apply State.setPort_keeps
    | with_reducible apply State.emit_keeps
    | with_reducible apply State.pbump_keeps
    | with_reducible apply State.lineFlag_keeps
    | split
    | fail_if_no_progress refine Keeps.record ?_ rfl rfl rfl rfl rfl rfl rfl rfl rfl rfl rfl rfl rfl rfl rfl rfl rfl rfl rfl
    | dsimp only

theorem State.gainTick_keeps {ps : List Part} {s0 s : State} (h0 : Keeps ps s0 s) (p : Nat) (_ : Part.ports ∈ ps := by assumption) : Keeps ps s0 (s.gainTick p) := by
  unfold State.gainTick
  try dsimp only
  repeat' first
    | with_reducible exact h0
    | with_reducible assumption
    | with_reducible apply Keeps.ite
    | with_reducible apply State.setPort_keeps
    | with_reducible apply State.updPort_keeps
    | split
    | fail_if_no_progress refine Keeps.record ?_ rfl rfl rfl rfl rfl rfl rfl rfl rfl rfl rfl rfl rfl rfl rfl rfl rfl rfl rfl
    | dsimp only

theorem State.holdTick_keeps {ps : List Part} {s0 s : State} (h0 : Keeps ps s0 s) (p : Nat) (b : Band) (_ : Part.dict ∈ ps := by assumption) : Keeps ps s0 (s.holdTick p b) := by
  unfold State.holdTick
  try dsimp only
  repeat' first
    | with_reducible exact h0
    | with_reducible assumption
    | with_reducible apply Keeps.ite
    | with_reducible apply State.pbump_keeps
    | split
    | dsimp only

theorem State.modelTick_keeps {ps : List Part} {s0 s : State} (h0 : Keeps ps s0 s) (p : Nat) (b : Band) (_ : Part.echoes ∈ ps := by assumption) (_ : Part.lanes ∈ ps := by assumption) : Keeps ps s0 (s.modelTick p b) := by
  unfold State.modelTick
  try dsimp only
  repeat' first
    | with_reducible exact h0
    | with_reducible assumption
    | with_reducible apply State.applyModel_keeps
    | split
    | fail_if_no_progress refine Keeps.record ?_ rfl rfl rfl rfl rfl rfl rfl rfl rfl rfl rfl rfl rfl rfl rfl rfl rfl rfl rfl
    | dsimp only

theorem State.limitTick_keeps {ps : List Part} {s0 s : State} (h0 : Keeps ps s0 s) (p : Nat) (_ : Part.ports ∈ ps := by assumption) : Keeps ps s0 (s.limitTick p) := by
  unfold State.limitTick
  try dsimp only
  repeat' first
    | with_reducible exact h0
    | with_reducible assumption
    | with_reducible apply Keeps.ite
    | with_reducible apply State.updPort_keeps
    | with_reducible apply State.lineFlag_keeps
    | split
    | fail_if_no_progress refine Keeps.record ?_ rfl rfl rfl rfl rfl rfl rfl rfl rfl rfl rfl rfl rfl rfl rfl rfl rfl rfl rfl
    | dsimp only

theorem State.portTick_keeps {ps : List Part} {s0 s : State} (h0 : Keeps ps s0 s) (p : Nat) (_ : Part.out ∈ ps := by assumption) (_ : Part.dict ∈ ps := by assumption) (_ : Part.log ∈ ps := by assumption) (_ : Part.ports ∈ ps := by assumption) (_ : Part.echoes ∈ ps := by assumption) (_ : Part.lanes ∈ ps := by assumption) (_ : Part.spools ∈ ps := by assumption) (_ : Part.pages ∈ ps := by assumption) (_ : Part.routes ∈ ps := by assumption) (_ : Part.cells ∈ ps := by assumption) (_ : Part.rst ∈ ps := by assumption) (_ : Part.sup ∈ ps := by assumption) : Keeps ps s0 (s.portTick p) := by
  unfold State.portTick
  try dsimp only
  repeat' first
    | with_reducible exact h0
    | with_reducible assumption
    | with_reducible apply Keeps.ite
    | with_reducible apply State.limitTick_keeps
    | with_reducible apply State.holdTick_keeps
    | with_reducible apply State.modelTick_keeps
    | with_reducible apply State.portPolicy_keeps
    | with_reducible apply State.settleBands_keeps
    | with_reducible apply State.updPort_keeps
    | with_reducible apply State.matrixStep_keeps
    | with_reducible apply State.finishStopping_keeps
    | with_reducible apply State.drainSwap_keeps
    | with_reducible apply State.foldTick_keeps
    | with_reducible apply State.scaleTick_keeps
    | with_reducible apply State.gainTick_keeps
    | split
    | dsimp only

/-! ## CommandOps -/

theorem State.settleOutput_keeps {ps : List Part} {s0 s : State} (h0 : Keeps ps s0 s) (n : Nat) (_ : Part.dict ∈ ps := by assumption) (_ : Part.trip ∈ ps := by assumption) : Keeps ps s0 (s.settleOutput n) := by
  unfold State.settleOutput
  try dsimp only
  repeat' first
    | with_reducible exact h0
    | with_reducible assumption
    | with_reducible apply Keeps.ite
    | with_reducible apply State.bump_keeps
    | split
    | fail_if_no_progress refine Keeps.record ?_ rfl rfl rfl rfl rfl rfl rfl rfl rfl rfl rfl rfl rfl rfl rfl rfl rfl rfl rfl
    | dsimp only

theorem State.updLink_keeps {ps : List Part} {s0 s : State} (h0 : Keeps ps s0 s) (p k : Nat) (f : CommandLink → CommandLink) (_ : Part.routes ∈ ps := by assumption) (_ : Part.cells ∈ ps := by assumption) : Keeps ps s0 (s.updLink p k f) := by
  unfold State.updLink
  repeat' first
    | with_reducible exact h0
    | with_reducible assumption
    | with_reducible apply State.setCell_keeps
    | with_reducible apply State.setLink_keeps

theorem State.startCommand_keeps {ps : List Part} {s0 s : State} (h0 : Keeps ps s0 s) (p k cnt : Nat) (kind : CommandKind) (_ : Part.out ∈ ps := by assumption) (_ : Part.dict ∈ ps := by assumption) (_ : Part.routes ∈ ps := by assumption) (_ : Part.cells ∈ ps := by assumption) : Keeps ps s0 (s.startCommand p k cnt kind) := by
  unfold State.startCommand
  try dsimp only
  repeat' first
    | with_reducible exact h0
    | with_reducible assumption
    | with_reducible apply Keeps.ite
    | with_reducible apply State.updLink_keeps
    | with_reducible apply State.setCell_keeps
    | with_reducible apply State.bump_keeps
    | with_reducible apply State.radiate_keeps
    | with_reducible apply State.emit_keeps
    | split
    | fail_if_no_progress refine Keeps.record ?_ rfl rfl rfl rfl rfl rfl rfl rfl rfl rfl rfl rfl rfl rfl rfl rfl rfl rfl rfl
    | dsimp only

theorem State.limitLink_keeps {ps : List Part} {s0 s : State} (h0 : Keeps ps s0 s) (p k : Nat) (_ : Part.dict ∈ ps := by assumption) (_ : Part.routes ∈ ps := by assumption) (_ : Part.cells ∈ ps := by assumption) : Keeps ps s0 (s.limitLink p k) := by
  unfold State.limitLink
  try dsimp only
  repeat' first
    | with_reducible exact h0
    | with_reducible assumption
    | with_reducible apply Keeps.ite
    | with_reducible apply State.updLink_keeps
    | with_reducible apply State.bump_keeps
    | split
    | fail_if_no_progress refine Keeps.record ?_ rfl rfl rfl rfl rfl rfl rfl rfl rfl rfl rfl rfl rfl rfl rfl rfl rfl rfl rfl

theorem State.commandNext_go_keeps (p : Nat) (l : List (Nat × CommandKind)) {ps : List Part} {s0 s : State} (h0 : Keeps ps s0 s) (_ : Part.out ∈ ps := by assumption) (_ : Part.dict ∈ ps := by assumption) (_ : Part.routes ∈ ps := by assumption) (_ : Part.cells ∈ ps := by assumption) :
    Keeps ps s0 (State.commandNext.go p s l) := by
  induction l generalizing s with
  | nil => exact h0
  | cons x l ih =>
    obtain ⟨k, kind⟩ := x
    unfold State.commandNext.go
    split
    · split
      · exact State.startCommand_keeps h0 ..
      · exact ih h0
    · exact ih (State.limitLink_keeps h0 ..)

theorem State.commandNext_keeps {ps : List Part} {s0 s : State} (h0 : Keeps ps s0 s) (p : Nat) (_ : Part.out ∈ ps := by assumption) (_ : Part.dict ∈ ps := by assumption) (_ : Part.routes ∈ ps := by assumption) (_ : Part.cells ∈ ps := by assumption) : Keeps ps s0 (s.commandNext p) := by
  unfold State.commandNext
  split
  · exact State.commandNext_go_keeps _ _ h0
  · exact h0

theorem State.changeDue_keeps {ps : List Part} {s0 s : State} (h0 : Keeps ps s0 s) (p k : Nat) (_ : Part.out ∈ ps := by assumption) (_ : Part.dict ∈ ps := by assumption) (_ : Part.cells ∈ ps := by assumption) : Keeps ps s0 (s.changeDue p k) := by
  unfold State.changeDue
  try dsimp only
  repeat' first
    | with_reducible exact h0
    | with_reducible assumption
    | with_reducible apply Keeps.ite
    | with_reducible apply State.setCell_keeps
    | with_reducible apply State.bump_keeps
    | with_reducible apply State.cutCommand_keeps
    | split
    | fail_if_no_progress refine Keeps.record ?_ rfl rfl rfl rfl rfl rfl rfl rfl rfl rfl rfl rfl rfl rfl rfl rfl rfl rfl rfl
    | dsimp only

theorem State.settleStates_keeps {ps : List Part} {s0 s : State} (h0 : Keeps ps s0 s) (p k : Nat) (_ : Part.out ∈ ps := by assumption) (_ : Part.dict ∈ ps := by assumption) (_ : Part.cells ∈ ps := by assumption) : Keeps ps s0 (s.settleStates p k) := by
  unfold State.settleStates
  try dsimp only
  repeat' first
    | with_reducible exact h0
    | with_reducible assumption
    | with_reducible apply Keeps.ite
    | with_reducible apply State.setCell_keeps
    | with_reducible apply State.changeDue_keeps
    | split
    | fail_if_no_progress refine Keeps.record ?_ rfl rfl rfl rfl rfl rfl rfl rfl rfl rfl rfl rfl rfl rfl rfl rfl rfl rfl rfl
    | dsimp only

theorem State.settleLink_keeps {ps : List Part} {s0 s : State} (h0 : Keeps ps s0 s) (p : Nat) (quiet : Bool) (k : Nat) (_ : Part.dict ∈ ps := by assumption) (_ : Part.log ∈ ps := by assumption) (_ : Part.routes ∈ ps := by assumption) (_ : Part.cells ∈ ps := by assumption) : Keeps ps s0 (s.settleLink p quiet k) := by
  unfold State.settleLink
  try dsimp only
  repeat' first
    | with_reducible exact h0
    | with_reducible assumption
    | with_reducible apply Keeps.ite
    | with_reducible apply State.updLink_keeps
    | with_reducible apply State.setCell_keeps
    | with_reducible apply State.bump_keeps
    | with_reducible apply State.event_keeps
    | split
    | fail_if_no_progress refine Keeps.record ?_ rfl rfl rfl rfl rfl rfl rfl rfl rfl rfl rfl rfl rfl rfl rfl rfl rfl rfl rfl
    | dsimp only

theorem State.settleLinks_keeps {ps : List Part} {s0 s : State} (h0 : Keeps ps s0 s) (quiet : Bool) (_ : Part.dict ∈ ps := by assumption) (_ : Part.log ∈ ps := by assumption) (_ : Part.routes ∈ ps := by assumption) (_ : Part.cells ∈ ps := by assumption) : Keeps ps s0 (s.settleLinks quiet) := by
  unfold State.settleLinks
  repeat' first
    | with_reducible exact h0
    | with_reducible assumption
    | with_reducible exact Keeps.refl _ _
    | with_reducible apply State.settleLink_keeps
    | (with_reducible apply Keeps.each) <;> try intro _ _
    | dsimp only

theorem State.settleMatrix_keeps {ps : List Part} {s0 s : State} (h0 : Keeps ps s0 s)  (_ : Part.out ∈ ps := by assumption) (_ : Part.dict ∈ ps := by assumption) (_ : Part.routes ∈ ps := by assumption) (_ : Part.cells ∈ ps := by assumption) (_ : Part.trip ∈ ps := by assumption) : Keeps ps s0 (s.settleMatrix) := by
  unfold State.settleMatrix
  try dsimp only
  repeat' first
    | with_reducible exact h0
    | with_reducible assumption
    | with_reducible exact Keeps.refl _ _
    | with_reducible apply Keeps.ite
    | with_reducible apply State.settleOutput_keeps
    | with_reducible apply State.setCell_keeps
    | with_reducible apply State.settleStates_keeps
    | with_reducible apply State.commandNext_keeps
    | (with_reducible apply Keeps.each) <;> try intro _ _
    | split
    | fail_if_no_progress refine Keeps.record ?_ rfl rfl rfl rfl rfl rfl rfl rfl rfl rfl rfl rfl rfl rfl rfl rfl rfl rfl rfl
    | dsimp only

theorem State.settleCommand_keeps {ps : List Part} {s0 s : State} (h0 : Keeps ps s0 s)  (_ : Part.out ∈ ps := by assumption) (_ : Part.dict ∈ ps := by assumption) (_ : Part.log ∈ ps := by assumption) (_ : Part.routes ∈ ps := by assumption) (_ : Part.cells ∈ ps := by assumption) (_ : Part.trip ∈ ps := by assumption) : Keeps ps s0 (s.settleCommand) := by
  unfold State.settleCommand
  repeat' first
    | with_reducible exact h0
    | with_reducible assumption
    | with_reducible apply State.settleLinks_keeps
    | with_reducible apply State.settleMatrix_keeps

theorem State.followPort_keeps {ps : List Part} {s0 s : State} (h0 : Keeps ps s0 s) (p : Nat) (f : State → State) (hf : ∀ v, Keeps ps v (f v)) (_ : Part.out ∈ ps := by assumption) (_ : Part.dict ∈ ps := by assumption) (_ : Part.log ∈ ps := by assumption) (_ : Part.routes ∈ ps := by assumption) (_ : Part.cells ∈ ps := by assumption) (_ : Part.trip ∈ ps := by assumption) : Keeps ps s0 (s.followPort p f) := by
  unfold State.followPort
  dsimp only
  split
  · exact h0.trans (hf _)
  · exact State.settleCommand_keeps (h0.trans (hf _))

theorem State.rekeyLink_keeps {ps : List Part} {s0 s : State} (h0 : Keeps ps s0 s) (p k : Nat) (old : Bytes) (_ : Part.routes ∈ ps := by assumption) (_ : Part.cells ∈ ps := by assumption) : Keeps ps s0 (s.rekeyLink p k old) := by
  unfold State.rekeyLink
  try dsimp only
  repeat' first
    | with_reducible exact h0
    | with_reducible assumption
    | with_reducible apply Keeps.ite
    | with_reducible apply State.updLink_keeps
    | split
    | fail_if_no_progress refine Keeps.record ?_ rfl rfl rfl rfl rfl rfl rfl rfl rfl rfl rfl rfl rfl rfl rfl rfl rfl rfl rfl
    | dsimp only

theorem State.acceptCommand_keeps {ps : List Part} {s0 s : State} (h0 : Keeps ps s0 s) (p : Nat) (m : Match) (_ : Part.out ∈ ps := by assumption) (_ : Part.dict ∈ ps := by assumption) (_ : Part.log ∈ ps := by assumption) (_ : Part.routes ∈ ps := by assumption) (_ : Part.cells ∈ ps := by assumption) (_ : Part.trip ∈ ps := by assumption) : Keeps ps s0 (s.acceptCommand p m) := by
  unfold State.acceptCommand
  try dsimp only
  repeat' first
    | with_reducible exact h0
    | with_reducible assumption
    | with_reducible apply Keeps.ite
    | with_reducible apply State.bump_keeps
    | with_reducible apply State.updLink_keeps
    | with_reducible apply State.settleCommand_keeps
    | split
    | fail_if_no_progress refine Keeps.record ?_ rfl rfl rfl rfl rfl rfl rfl rfl rfl rfl rfl rfl rfl rfl rfl rfl rfl rfl rfl
    | dsimp only

theorem State.decideBody_keeps {ps : List Part} {s0 s : State} (h0 : Keeps ps s0 s) (p n : Nat) (chips : List Int) (_ : Part.out ∈ ps := by assumption) (_ : Part.dict ∈ ps := by assumption) (_ : Part.log ∈ ps := by assumption) (_ : Part.routes ∈ ps := by assumption) (_ : Part.cells ∈ ps := by assumption) (_ : Part.trip ∈ ps := by assumption) :
    Keeps ps s0 (s.decideBody p n chips).1 := by
  refine h0.trans ?_
  unfold State.decideBody
  dsimp only
  split
  · exact State.bump_keeps (Keeps.refl _ _) ..
  · split
    · exact State.bump_keeps (Keeps.refl _ _) ..
    · split
      · exact State.bump_keeps (Keeps.refl _ _) ..
      · exact State.acceptCommand_keeps (Keeps.refl _ _) ..

end Sys2Proof.Machine
end

