-- ==== Sys2Proof/Laws/KeepsUnits.lean ====
section
/-! SUPPORT. What every operation keeps (Keeps.lean): sensing, host rings, keys, cipher, check, the station ring, blocks, and values taking effect. -/

set_option Elab.async false

set_option linter.unusedTactic false
set_option linter.unreachableTactic false

namespace Sys2Proof.Machine

/-! ## SensingOps -/

theorem State.restartChannel_keeps {ps : List Part} {s0 s : State} (h0 : Keeps ps s0 s) (m : Nat) (excitation : Bool) (_ : Part.dict ∈ ps := by assumption) (_ : Part.sensing ∈ ps := by assumption) : Keeps ps s0 (s.restartChannel m excitation) := by
  unfold State.restartChannel
  try dsimp only
  repeat' first
    | with_reducible exact h0
    | with_reducible assumption
    | with_reducible apply Keeps.ite
    | with_reducible apply State.setChannel_keeps
    | with_reducible apply State.bump_keeps
    | split
    | fail_if_no_progress refine Keeps.record ?_ rfl rfl rfl rfl rfl rfl rfl rfl rfl rfl rfl rfl rfl rfl rfl rfl rfl rfl rfl

theorem State.setGen_keeps {ps : List Part} {s0 s : State} (h0 : Keeps ps s0 s) (x : Nat) (g : Generator) (_ : Part.sensing ∈ ps := by assumption) : Keeps ps s0 (s.setGen x g) := by
  unfold State.setGen
  try dsimp only
  repeat' first
    | with_reducible exact h0
    | with_reducible assumption
    | fail_if_no_progress refine Keeps.record ?_ rfl rfl rfl rfl rfl rfl rfl rfl rfl rfl rfl rfl rfl rfl rfl rfl rfl rfl rfl

theorem State.rampGen_keeps {ps : List Part} {s0 s : State} (h0 : Keeps ps s0 s) (x : Nat) (_ : Part.sensing ∈ ps := by assumption) : Keeps ps s0 (s.rampGen x) := by
  unfold State.rampGen
  repeat' first
    | with_reducible exact h0
    | with_reducible assumption
    | with_reducible apply Keeps.ite
    | with_reducible apply State.setGen_keeps
    | split

theorem State.curve_keeps {ps : List Part} {s0 s : State} (h0 : Keeps ps s0 s) (n : Nat) (x : ChannelSample) (_ : Part.free ∈ ps := by assumption) : Keeps ps s0 (s.curve n x).2.2 := by
  refine h0.trans ?_
  unfold State.curve
  dsimp only
  repeat' first
    | exact Keeps.refl _ _
    | exact State.fresh_keeps (Keeps.refl _ _)
    | split

theorem State.setSwitch_keeps {ps : List Part} {s0 s : State} (h0 : Keeps ps s0 s) (n : Nat) (x : Switch) (_ : Part.sensing ∈ ps := by assumption) : Keeps ps s0 (s.setSwitch n x) := by
  unfold State.setSwitch
  try dsimp only
  repeat' first
    | with_reducible exact h0
    | with_reducible assumption
    | fail_if_no_progress refine Keeps.record ?_ rfl rfl rfl rfl rfl rfl rfl rfl rfl rfl rfl rfl rfl rfl rfl rfl rfl rfl rfl

theorem State.turnSwitch_keeps {ps : List Part} {s0 s : State} (h0 : Keeps ps s0 s) (n : Nat) (x : Switch) (_ : Part.dict ∈ ps := by assumption) (_ : Part.sensing ∈ ps := by assumption) : Keeps ps s0 (s.turnSwitch n x) := by
  unfold State.turnSwitch
  try dsimp only
  repeat' first
    | with_reducible exact h0
    | with_reducible assumption
    | with_reducible apply Keeps.ite
    | with_reducible apply State.setSwitch_keeps
    | with_reducible apply State.bump_keeps
    | split
    | dsimp only

theorem State.applySwitch_keeps {ps : List Part} {s0 s : State} (h0 : Keeps ps s0 s) (n value status : Nat) (_ : Part.free ∈ ps := by assumption) (_ : Part.dict ∈ ps := by assumption) (_ : Part.sensing ∈ ps := by assumption) : Keeps ps s0 (s.applySwitch n value status) := by
  unfold State.applySwitch
  try dsimp only
  repeat' first
    | with_reducible exact h0
    | with_reducible assumption
    | with_reducible apply Keeps.ite
    | with_reducible apply State.turnSwitch_keeps
    | with_reducible apply State.bump_keeps
    | split
    | fail_if_no_progress refine Keeps.record ?_ rfl rfl rfl rfl rfl rfl rfl rfl rfl rfl rfl rfl rfl rfl rfl rfl rfl rfl rfl
    | dsimp only

theorem State.failSwitches_keeps {ps : List Part} {s0 s : State} (h0 : Keeps ps s0 s) (m status : Nat) (_ : Part.free ∈ ps := by assumption) (_ : Part.dict ∈ ps := by assumption) (_ : Part.sensing ∈ ps := by assumption) : Keeps ps s0 (s.failSwitches m status) := by
  unfold State.failSwitches
  repeat' first
    | with_reducible exact h0
    | with_reducible assumption
    | with_reducible exact Keeps.refl _ _
    | with_reducible apply State.applySwitch_keeps
    | (with_reducible apply Keeps.each) <;> try intro _ _
    | dsimp only

theorem State.armSwitch_keeps {ps : List Part} {s0 s : State} (h0 : Keeps ps s0 s) (n : Nat) (_ : Part.sensing ∈ ps := by assumption) : Keeps ps s0 (s.armSwitch n) := by
  unfold State.armSwitch
  repeat' first
    | with_reducible exact h0
    | with_reducible assumption
    | with_reducible apply Keeps.ite
    | with_reducible apply State.setSwitch_keeps
    | split

theorem State.setAnalog_keeps {ps : List Part} {s0 s : State} (h0 : Keeps ps s0 s) (a : Nat) (x : AnalogOut) (_ : Part.sensing ∈ ps := by assumption) : Keeps ps s0 (s.setAnalog a x) := by
  unfold State.setAnalog
  try dsimp only
  repeat' first
    | with_reducible exact h0
    | with_reducible assumption
    | fail_if_no_progress refine Keeps.record ?_ rfl rfl rfl rfl rfl rfl rfl rfl rfl rfl rfl rfl rfl rfl rfl rfl rfl rfl rfl

theorem State.driveAnalog_keeps {ps : List Part} {s0 s : State} (h0 : Keeps ps s0 s) (a : Nat) (y : Frac) (_ : Part.sensing ∈ ps := by assumption) : Keeps ps s0 (s.driveAnalog a y) := by
  unfold State.driveAnalog
  try dsimp only
  repeat' first
    | with_reducible exact h0
    | with_reducible assumption
    | with_reducible apply State.setAnalog_keeps
    | dsimp only

theorem State.failAnalog_keeps {ps : List Part} {s0 s : State} (h0 : Keeps ps s0 s) (a : Nat) (_ : Part.sensing ∈ ps := by assumption) : Keeps ps s0 (s.failAnalog a) := by
  unfold State.failAnalog
  try dsimp only
  repeat' first
    | with_reducible exact h0
    | with_reducible assumption
    | with_reducible apply Keeps.ite
    | with_reducible apply State.setAnalog_keeps
    | split
    | fail_if_no_progress refine Keeps.record ?_ rfl rfl rfl rfl rfl rfl rfl rfl rfl rfl rfl rfl rfl rfl rfl rfl rfl rfl rfl
    | dsimp only

theorem State.applyAnalog_keeps {ps : List Part} {s0 s : State} (h0 : Keeps ps s0 s) (a : Nat) (value status : Nat) (_ : Part.sensing ∈ ps := by assumption) : Keeps ps s0 (s.applyAnalog a value status) := by
  unfold State.applyAnalog
  repeat' first
    | with_reducible exact h0
    | with_reducible assumption
    | with_reducible apply Keeps.ite
    | with_reducible apply State.setAnalog_keeps
    | with_reducible apply State.driveAnalog_keeps
    | with_reducible apply State.failAnalog_keeps
    | split

theorem State.settleAnalog_keeps {ps : List Part} {s0 s : State} (h0 : Keeps ps s0 s) (a : Nat) (_ : Part.sensing ∈ ps := by assumption) : Keeps ps s0 (s.settleAnalog a) := by
  unfold State.settleAnalog
  repeat' first
    | with_reducible exact h0
    | with_reducible assumption
    | with_reducible apply State.applyAnalog_keeps

theorem State.settleChannel_keeps {ps : List Part} {s0 s : State} (h0 : Keeps ps s0 s) (old : State) (m : Nat) (_ : Part.dict ∈ ps := by assumption) (_ : Part.sensing ∈ ps := by assumption) : Keeps ps s0 (s.settleChannel old m) := by
  unfold State.settleChannel
  repeat' first
    | with_reducible exact h0
    | with_reducible assumption
    | with_reducible apply Keeps.ite
    | with_reducible apply State.setChannel_keeps
    | with_reducible apply State.restartChannel_keeps
    | split

theorem State.settleSwitch_keeps {ps : List Part} {s0 s : State} (h0 : Keeps ps s0 s) (old : State) (n : Nat) (_ : Part.sensing ∈ ps := by assumption) : Keeps ps s0 (s.settleSwitch old n) := by
  unfold State.settleSwitch
  try dsimp only
  repeat' first
    | with_reducible exact h0
    | with_reducible assumption
    | with_reducible apply Keeps.ite
    | with_reducible apply State.setSwitch_keeps
    | with_reducible apply State.armSwitch_keeps
    | split
    | fail_if_no_progress refine Keeps.record ?_ rfl rfl rfl rfl rfl rfl rfl rfl rfl rfl rfl rfl rfl rfl rfl rfl rfl rfl rfl
    | dsimp only

theorem State.settleSensing_keeps {ps : List Part} {s0 s : State} (h0 : Keeps ps s0 s) (old : State) (_ : Part.dict ∈ ps := by assumption) (_ : Part.sensing ∈ ps := by assumption) : Keeps ps s0 (s.settleSensing old) := by
  unfold State.settleSensing
  try dsimp only
  repeat' first
    | with_reducible exact h0
    | with_reducible assumption
    | with_reducible exact Keeps.refl _ _
    | with_reducible apply Keeps.ite
    | with_reducible apply State.rampGen_keeps
    | with_reducible apply State.settleChannel_keeps
    | with_reducible apply State.settleSwitch_keeps
    | with_reducible apply State.settleAnalog_keeps
    | (with_reducible apply Keeps.each) <;> try intro _ _
    | split
    | dsimp only

theorem State.startSensing_keeps {ps : List Part} {s0 s : State} (h0 : Keeps ps s0 s) (_ : Part.out ∈ ps := by assumption) (_ : Part.dict ∈ ps := by assumption) (_ : Part.log ∈ ps := by assumption) (_ : Part.routes ∈ ps := by assumption) (_ : Part.cells ∈ ps := by assumption) (_ : Part.trip ∈ ps := by assumption) (_ : Part.sensing ∈ ps := by assumption) : Keeps ps s0 (s.startSensing) := by
  refine h0.trans ?_
  unfold State.startSensing
  have h : Keeps ps s { s with sensing := { s.sensing with channels := [], generators := [], outputs := [] } } :=
    ⟨rfl, rfl, .inl rfl, fun c => { c with channels := rfl }, fun p hp => by cases p <;> first | exact absurd (by assumption) hp | rfl⟩
  dsimp only
  repeat' first
    | with_reducible exact h
    | with_reducible exact Keeps.refl _ _
    | with_reducible assumption
    | with_reducible apply State.rampGen_keeps
    | with_reducible apply State.settleChannel_keeps
    | with_reducible apply State.armSwitch_keeps
    | with_reducible apply State.settleCommand_keeps
    | (with_reducible apply Keeps.each) <;> try intro _ _

/-! ## HostRings -/

theorem State.txDoorbell_keeps {ps : List Part} {s0 s : State} (h0 : Keeps ps s0 s) (f prod : Nat) (descs : List TxDesc) (_ : Part.out ∈ ps := by assumption) (_ : Part.dict ∈ ps := by assumption) (_ : Part.lanes ∈ ps := by assumption) (_ : Part.spools ∈ ps := by assumption) (_ : Part.pages ∈ ps := by assumption) : Keeps ps s0 (s.txDoorbell f prod descs) := by
  unfold State.txDoorbell
  try dsimp only
  repeat' first
    | with_reducible exact h0
    | with_reducible assumption
    | with_reducible apply State.setPage_keeps
    | with_reducible apply State.resumeTx_keeps
    | fail_if_no_progress refine Keeps.record ?_ rfl rfl rfl rfl rfl rfl rfl rfl rfl rfl rfl rfl rfl rfl rfl rfl rfl rfl rfl
    | dsimp only

theorem State.rxDoorbell_keeps {ps : List Part} {s0 s : State} (h0 : Keeps ps s0 s) (f prod : Nat) (bufs : List RxBuffer) (_ : Part.out ∈ ps := by assumption) (_ : Part.pages ∈ ps := by assumption) : Keeps ps s0 (s.rxDoorbell f prod bufs) := by
  unfold State.rxDoorbell
  try dsimp only
  repeat' first
    | with_reducible exact h0
    | with_reducible assumption
    | with_reducible apply State.setPage_keeps
    | with_reducible apply State.drainRx_keeps
    | fail_if_no_progress refine Keeps.record ?_ rfl rfl rfl rfl rfl rfl rfl rfl rfl rfl rfl rfl rfl rfl rfl rfl rfl rfl rfl
    | dsimp only

theorem State.consumerWrite_keeps {ps : List Part} {s0 s : State} (h0 : Keeps ps s0 s) (f ring idx : Nat) (_ : Part.out ∈ ps := by assumption) (_ : Part.dict ∈ ps := by assumption) (_ : Part.lanes ∈ ps := by assumption) (_ : Part.spools ∈ ps := by assumption) (_ : Part.pages ∈ ps := by assumption) : Keeps ps s0 (s.consumerWrite f ring idx) := by
  unfold State.consumerWrite
  try dsimp only
  repeat' first
    | with_reducible exact h0
    | with_reducible assumption
    | with_reducible apply Keeps.ite
    | with_reducible apply State.setPage_keeps
    | with_reducible apply State.resumeTx_keeps
    | with_reducible apply State.drainRx_keeps
    | split
    | fail_if_no_progress refine Keeps.record ?_ rfl rfl rfl rfl rfl rfl rfl rfl rfl rfl rfl rfl rfl rfl rfl rfl rfl rfl rfl
    | dsimp only

/-! ## KeyOps -/

theorem State.ringKeyLoaded_keeps {ps : List Part} {s0 s : State} (h0 : Keeps ps s0 s) (n : Nat) (_ : Part.mgr ∈ ps := by assumption) : Keeps ps s0 (s.ringKeyLoaded n) := by
  unfold State.ringKeyLoaded
  try dsimp only
  repeat' first
    | with_reducible exact h0
    | with_reducible assumption
    | with_reducible apply Keeps.ite
    | split
    | fail_if_no_progress refine Keeps.record ?_ rfl rfl rfl rfl rfl rfl rfl rfl rfl rfl rfl rfl rfl rfl rfl rfl rfl rfl rfl

theorem State.loadSlot_keeps {ps : List Part} {s0 s : State} (h0 : Keeps ps s0 s) (n : Nat) (key : Bytes) (_ : Part.out ∈ ps := by assumption) (_ : Part.dict ∈ ps := by assumption) (_ : Part.mgr ∈ ps := by assumption) (_ : Part.log ∈ ps := by assumption) (_ : Part.routes ∈ ps := by assumption) (_ : Part.cells ∈ ps := by assumption) (_ : Part.trip ∈ ps := by assumption) (_ : Part.cipher ∈ ps := by assumption) : Keeps ps s0 (s.loadSlot n key) := by
  unfold State.loadSlot
  try dsimp only
  repeat' first
    | with_reducible exact h0
    | with_reducible assumption
    | with_reducible apply Keeps.ite
    | with_reducible apply State.setSlot_keeps
    | with_reducible apply State.ringKeyLoaded_keeps
    | with_reducible apply State.bump_keeps
    | with_reducible apply State.settleCommand_keeps
    | split
    | fail_if_no_progress refine Keeps.record ?_ rfl rfl rfl rfl rfl rfl rfl rfl rfl rfl rfl rfl rfl rfl rfl rfl rfl rfl rfl
    | dsimp only

theorem State.setCtx_keeps {ps : List Part} {s0 s : State} (h0 : Keeps ps s0 s) (f n : Nat) (c : CipherCtx) (_ : Part.pages ∈ ps := by assumption) : Keeps ps s0 (s.setCtx f n c) := by
  unfold State.setCtx
  try dsimp only
  repeat' first
    | with_reducible exact h0
    | with_reducible assumption
    | with_reducible apply State.setPage_keeps
    | fail_if_no_progress refine Keeps.record ?_ rfl rfl rfl rfl rfl rfl rfl rfl rfl rfl rfl rfl rfl rfl rfl rfl rfl rfl rfl

theorem State.closeCtx_keeps {ps : List Part} {s0 s : State} (h0 : Keeps ps s0 s) (f n : Nat) (_ : Part.pages ∈ ps := by assumption) : Keeps ps s0 (s.closeCtx f n) := by
  unfold State.closeCtx
  repeat' first
    | with_reducible exact h0
    | with_reducible assumption
    | with_reducible apply Keeps.ite
    | with_reducible apply State.setCtx_keeps
    | split

theorem State.closeSlotCtxs_keeps {ps : List Part} {s0 s : State} (h0 : Keeps ps s0 s) (slot : Nat) (_ : Part.pages ∈ ps := by assumption) : Keeps ps s0 (s.closeSlotCtxs slot) := by
  unfold State.closeSlotCtxs
  repeat' first
    | with_reducible exact h0
    | with_reducible assumption
    | with_reducible exact Keeps.refl _ _
    | with_reducible apply State.closeCtx_keeps
    | (with_reducible apply Keeps.each) <;> try intro _ _
    | dsimp only

theorem State.setJob_keeps {ps : List Part} {s0 s : State} (h0 : Keeps ps s0 s) (n : Nat) (j : CipherJob) (_ : Part.cipher ∈ ps := by assumption) : Keeps ps s0 (s.setJob n j) := by
  unfold State.setJob
  try dsimp only
  repeat' first
    | with_reducible exact h0
    | with_reducible assumption
    | fail_if_no_progress refine Keeps.record ?_ rfl rfl rfl rfl rfl rfl rfl rfl rfl rfl rfl rfl rfl rfl rfl rfl rfl rfl rfl

theorem State.consumeRing_keeps {ps : List Part} {s0 s : State} (h0 : Keeps ps s0 s) (f k : Nat) (_ : Part.pages ∈ ps := by assumption) : Keeps ps s0 (s.consumeRing f k) := by
  unfold State.consumeRing
  try dsimp only
  repeat' first
    | with_reducible exact h0
    | with_reducible assumption
    | with_reducible apply Keeps.ite
    | with_reducible apply State.setPage_keeps
    | split
    | fail_if_no_progress refine Keeps.record ?_ rfl rfl rfl rfl rfl rfl rfl rfl rfl rfl rfl rfl rfl rfl rfl rfl rfl rfl rfl
    | dsimp only

theorem State.postDone_keeps {ps : List Part} {s0 s : State} (h0 : Keeps ps s0 s) (j : CipherJob) (status outLen : Nat) (unverified : Bool) (_ : Part.out ∈ ps := by assumption) (_ : Part.dict ∈ ps := by assumption) (_ : Part.pages ∈ ps := by assumption) : Keeps ps s0 (s.postDone j status outLen unverified) := by
  unfold State.postDone
  try dsimp only
  repeat' first
    | with_reducible exact h0
    | with_reducible assumption
    | with_reducible apply Keeps.ite
    | with_reducible apply State.postRing_keeps
    | with_reducible apply State.emit_keeps
    | with_reducible apply State.bump_keeps
    | split
    | dsimp only

theorem State.writeOut_keeps {ps : List Part} {s0 s : State} (h0 : Keeps ps s0 s) (j : CipherJob) (data : Bytes) (_ : Part.out ∈ ps := by assumption) : Keeps ps s0 (s.writeOut j data) := by
  unfold State.writeOut
  repeat' first
    | with_reducible exact h0
    | with_reducible assumption
    | with_reducible apply Keeps.ite
    | with_reducible apply State.emit_keeps
    | split

theorem State.failJob_keeps {ps : List Part} {s0 s : State} (h0 : Keeps ps s0 s) (n : Nat) (j : CipherJob) (status : Nat) (_ : Part.out ∈ ps := by assumption) (_ : Part.dict ∈ ps := by assumption) (_ : Part.pages ∈ ps := by assumption) (_ : Part.cipher ∈ ps := by assumption) : Keeps ps s0 (s.failJob n j status) := by
  unfold State.failJob
  try dsimp only
  repeat' first
    | with_reducible exact h0
    | with_reducible assumption
    | with_reducible apply Keeps.ite
    | with_reducible apply State.closeCtx_keeps
    | with_reducible apply State.consumeRing_keeps
    | with_reducible apply State.writeOut_keeps
    | with_reducible apply State.postDone_keeps
    | split
    | fail_if_no_progress refine Keeps.record ?_ rfl rfl rfl rfl rfl rfl rfl rfl rfl rfl rfl rfl rfl rfl rfl rfl rfl rfl rfl
    | dsimp only

theorem State.withdrawJobs_keeps {ps : List Part} {s0 s : State} (h0 : Keeps ps s0 s) (slot : Nat) (_ : Part.out ∈ ps := by assumption) (_ : Part.dict ∈ ps := by assumption) (_ : Part.pages ∈ ps := by assumption) (_ : Part.cipher ∈ ps := by assumption) : Keeps ps s0 (s.withdrawJobs slot) := by
  unfold State.withdrawJobs
  repeat' first
    | with_reducible exact h0
    | with_reducible assumption
    | with_reducible exact Keeps.refl _ _
    | with_reducible apply State.failJob_keeps
    | with_reducible apply State.bump_keeps
    | with_reducible apply State.closeSlotCtxs_keeps
    | (with_reducible apply Keeps.each) <;> try intro _ _
    | dsimp only

theorem State.eraseSlot_keeps {ps : List Part} {s0 s : State} (h0 : Keeps ps s0 s) (n : Nat) (_ : Part.out ∈ ps := by assumption) (_ : Part.dict ∈ ps := by assumption) (_ : Part.log ∈ ps := by assumption) (_ : Part.pages ∈ ps := by assumption) (_ : Part.routes ∈ ps := by assumption) (_ : Part.cells ∈ ps := by assumption) (_ : Part.trip ∈ ps := by assumption) (_ : Part.cipher ∈ ps := by assumption) : Keeps ps s0 (s.eraseSlot n) := by
  unfold State.eraseSlot
  try dsimp only
  repeat' first
    | with_reducible exact h0
    | with_reducible assumption
    | with_reducible apply State.setSlot_keeps
    | with_reducible apply State.bump_keeps
    | with_reducible apply State.withdrawJobs_keeps
    | with_reducible apply State.settleCommand_keeps
    | dsimp only

theorem State.keyDone_keeps {ps : List Part} {s0 s : State} (h0 : Keeps ps s0 s) (f result : Nat) (_ : Part.pages ∈ ps := by assumption) : Keeps ps s0 (s.keyDone f result) := by
  unfold State.keyDone
  try dsimp only
  repeat' first
    | with_reducible exact h0
    | with_reducible assumption
    | with_reducible apply State.setPage_keeps
    | fail_if_no_progress refine Keeps.record ?_ rfl rfl rfl rfl rfl rfl rfl rfl rfl rfl rfl rfl rfl rfl rfl rfl rfl rfl rfl

theorem State.performKey_keeps {ps : List Part} {s0 s : State} (h0 : Keeps ps s0 s) (q : KeyCommand) (_ : Part.out ∈ ps := by assumption) (_ : Part.dict ∈ ps := by assumption) (_ : Part.mgr ∈ ps := by assumption) (_ : Part.log ∈ ps := by assumption) (_ : Part.pages ∈ ps := by assumption) (_ : Part.routes ∈ ps := by assumption) (_ : Part.cells ∈ ps := by assumption) (_ : Part.trip ∈ ps := by assumption) (_ : Part.cipher ∈ ps := by assumption) : Keeps ps s0 (s.performKey q) := by
  refine h0.trans ?_
  unfold State.performKey
  dsimp only
  have he := State.eraseSlot_keeps (Keeps.refl _ s) (bits q.word 23 16)
  generalize s.eraseSlot (bits q.word 23 16) = v at he ⊢
  repeat' first
    | with_reducible exact Keeps.refl _ _
    | with_reducible assumption
    | with_reducible apply Keeps.ite
    | with_reducible apply State.keyDone_keeps
    | with_reducible apply State.loadSlot_keeps
    | with_reducible apply State.bump_keeps
    | exact Keeps.record he rfl rfl rfl rfl rfl rfl rfl rfl rfl rfl rfl rfl rfl rfl rfl rfl rfl rfl rfl
    | split

theorem State.serveKeys_keeps {ps : List Part} {s0 s : State} (h0 : Keeps ps s0 s) (l : List KeyCommand) (_ : Part.out ∈ ps := by assumption) (_ : Part.dict ∈ ps := by assumption) (_ : Part.mgr ∈ ps := by assumption) (_ : Part.log ∈ ps := by assumption) (_ : Part.pages ∈ ps := by assumption) (_ : Part.routes ∈ ps := by assumption) (_ : Part.cells ∈ ps := by assumption) (_ : Part.trip ∈ ps := by assumption) (_ : Part.cipher ∈ ps := by assumption) : Keeps ps s0 (s.serveKeys l) := by
  induction l generalizing s with
  | nil => exact Keeps.record h0 rfl rfl rfl rfl rfl rfl rfl rfl rfl rfl rfl rfl rfl rfl rfl rfl rfl rfl rfl
  | cons q l ih =>
    unfold State.serveKeys
    split
    · exact Keeps.record h0 rfl rfl rfl rfl rfl rfl rfl rfl rfl rfl rfl rfl rfl rfl rfl rfl rfl rfl rfl
    · exact ih (State.performKey_keeps h0 q)

theorem State.keyCommand_keeps {ps : List Part} {s0 s : State} (h0 : Keeps ps s0 s) (f : Nat) (w : Nat) (_ : Part.out ∈ ps := by assumption) (_ : Part.dict ∈ ps := by assumption) (_ : Part.mgr ∈ ps := by assumption) (_ : Part.log ∈ ps := by assumption) (_ : Part.pages ∈ ps := by assumption) (_ : Part.routes ∈ ps := by assumption) (_ : Part.cells ∈ ps := by assumption) (_ : Part.trip ∈ ps := by assumption) (_ : Part.cipher ∈ ps := by assumption) : Keeps ps s0 (s.keyCommand f w) := by
  unfold State.keyCommand
  try dsimp only
  repeat' first
    | with_reducible exact h0
    | with_reducible assumption
    | with_reducible apply Keeps.ite
    | with_reducible apply State.setPage_keeps
    | with_reducible apply State.serveKeys_keeps
    | split
    | fail_if_no_progress refine Keeps.record ?_ rfl rfl rfl rfl rfl rfl rfl rfl rfl rfl rfl rfl rfl rfl rfl rfl rfl rfl rfl
    | dsimp only

/-! ## TamperOps -/

theorem ripcord_block_keeps {ps : List Part} {s0 v : State} (hv : Keeps ps s0 v) (_ : Part.cipher ∈ ps := by assumption) :
    Keeps ps s0 { v with cipher := { v.cipher with blocked255 := true } } :=
  hv.trans ⟨rfl, rfl, .inl rfl, fun c => { c with }, fun p hp => by cases p <;> first | exact absurd (by assumption) hp | rfl⟩

theorem ripcord_record_keeps {ps : List Part} {s0 v : State} (hv : Keeps ps s0 v) (sensor : Nat) (_ : Part.rst ∈ ps := by assumption) :
    Keeps ps s0 { v with rst := { v.rst with backup := { v.rst.backup with ripcords := (v.tsc, sensor) :: v.rst.backup.ripcords } } } :=
  hv.trans ⟨rfl, rfl, .inl rfl, fun c => { c with }, fun p hp => by cases p <;> first | exact absurd (by assumption) hp | rfl⟩

theorem State.ripcord_keeps {ps : List Part} {s0 s : State} (h0 : Keeps ps s0 s) (sensor : Nat) (_ : Part.tsc ∈ ps := by assumption) (_ : Part.out ∈ ps := by assumption) (_ : Part.dict ∈ ps := by assumption) (_ : Part.written ∈ ps := by assumption) (_ : Part.hier ∈ ps := by assumption) (_ : Part.mgr ∈ ps := by assumption) (_ : Part.time ∈ ps := by assumption) (_ : Part.tether ∈ ps := by assumption) (_ : Part.log ∈ ps := by assumption) (_ : Part.ports ∈ ps := by assumption) (_ : Part.echoes ∈ ps := by assumption) (_ : Part.lanes ∈ ps := by assumption) (_ : Part.spools ∈ ps := by assumption) (_ : Part.pages ∈ ps := by assumption) (_ : Part.routes ∈ ps := by assumption) (_ : Part.cells ∈ ps := by assumption) (_ : Part.trip ∈ ps := by assumption) (_ : Part.cipher ∈ ps := by assumption) (_ : Part.checkParts ∈ ps := by assumption) (_ : Part.ring ∈ ps := by assumption) (_ : Part.sensing ∈ ps := by assumption) (_ : Part.rst ∈ ps := by assumption) (_ : Part.sup ∈ ps := by assumption) : Keeps ps s0 (s.ripcord sensor) := by
  unfold State.ripcord
  generalize List.range 255 = l
  have hv : Keeps ps s0 ((s.event 0x5103 0x0804 sevFatal (toBE 1 sensor)).each l State.eraseSlot) :=
    Keeps.each (State.event_keeps h0 ..) fun _ _ => State.eraseSlot_keeps (Keeps.refl _ _) _
  exact State.requestReset_keeps (ripcord_record_keeps (ripcord_block_keeps hv) sensor) _ _

theorem State.logTamper_keeps {ps : List Part} {s0 s : State} (h0 : Keeps ps s0 s) (sensor : Nat) (_ : Part.dict ∈ ps := by assumption) (_ : Part.log ∈ ps := by assumption) : Keeps ps s0 (s.logTamper sensor) := by
  unfold State.logTamper
  try dsimp only
  repeat' first
    | with_reducible exact h0
    | with_reducible assumption
    | with_reducible apply Keeps.ite
    | with_reducible apply State.setVal_keeps
    | with_reducible apply State.bump_keeps
    | with_reducible apply State.event_keeps
    | split
    | dsimp only

theorem State.tamper_keeps {ps : List Part} {s0 s : State} (h0 : Keeps ps s0 s) (sensor : Nat) (_ : Part.tsc ∈ ps := by assumption) (_ : Part.out ∈ ps := by assumption) (_ : Part.dict ∈ ps := by assumption) (_ : Part.written ∈ ps := by assumption) (_ : Part.hier ∈ ps := by assumption) (_ : Part.mgr ∈ ps := by assumption) (_ : Part.time ∈ ps := by assumption) (_ : Part.tether ∈ ps := by assumption) (_ : Part.log ∈ ps := by assumption) (_ : Part.ports ∈ ps := by assumption) (_ : Part.echoes ∈ ps := by assumption) (_ : Part.lanes ∈ ps := by assumption) (_ : Part.spools ∈ ps := by assumption) (_ : Part.pages ∈ ps := by assumption) (_ : Part.routes ∈ ps := by assumption) (_ : Part.cells ∈ ps := by assumption) (_ : Part.trip ∈ ps := by assumption) (_ : Part.cipher ∈ ps := by assumption) (_ : Part.checkParts ∈ ps := by assumption) (_ : Part.ring ∈ ps := by assumption) (_ : Part.sensing ∈ ps := by assumption) (_ : Part.rst ∈ ps := by assumption) (_ : Part.sup ∈ ps := by assumption) : Keeps ps s0 (s.tamper sensor) := by
  unfold State.tamper
  try dsimp only
  repeat' first
    | with_reducible exact h0
    | with_reducible assumption
    | with_reducible apply Keeps.ite
    | with_reducible apply State.logTamper_keeps
    | with_reducible apply State.ripcord_keeps
    | split
    | dsimp only

/-! ## CipherOps -/

theorem State.refuseJob_keeps {ps : List Part} {s0 s : State} (h0 : Keeps ps s0 s) (n : Nat) (j : CipherJob) (status : Nat) (_ : Part.out ∈ ps := by assumption) (_ : Part.dict ∈ ps := by assumption) (_ : Part.pages ∈ ps := by assumption) (_ : Part.cipher ∈ ps := by assumption) : Keeps ps s0 (s.refuseJob n j status) := by
  unfold State.refuseJob
  try dsimp only
  repeat' first
    | with_reducible exact h0
    | with_reducible assumption
    | with_reducible apply Keeps.ite
    | with_reducible apply State.closeCtx_keeps
    | with_reducible apply State.failJob_keeps
    | split
    | dsimp only

theorem State.takeCipher_keeps {ps : List Part} {s0 s : State} (h0 : Keeps ps s0 s) (f : Nat) (d : CipherDesc) (again : Bool) (_ : Part.out ∈ ps := by assumption) (_ : Part.dict ∈ ps := by assumption) (_ : Part.pages ∈ ps := by assumption) (_ : Part.cipher ∈ ps := by assumption) : Keeps ps s0 (s.takeCipher f d again) := by
  unfold State.takeCipher
  try dsimp only
  repeat' first
    | with_reducible exact h0
    | with_reducible assumption
    | with_reducible apply Keeps.ite
    | with_reducible apply State.setJob_keeps
    | with_reducible apply State.setPage_keeps
    | with_reducible apply State.refuseJob_keeps
    | split
    | fail_if_no_progress refine Keeps.record ?_ rfl rfl rfl rfl rfl rfl rfl rfl rfl rfl rfl rfl rfl rfl rfl rfl rfl rfl rfl
    | dsimp only

theorem State.startJob_keeps {ps : List Part} {s0 s : State} (h0 : Keeps ps s0 s) (n : Nat) (j : CipherJob) (_ : Part.out ∈ ps := by assumption) (_ : Part.dict ∈ ps := by assumption) (_ : Part.log ∈ ps := by assumption) (_ : Part.pages ∈ ps := by assumption) (_ : Part.routes ∈ ps := by assumption) (_ : Part.cells ∈ ps := by assumption) (_ : Part.trip ∈ ps := by assumption) (_ : Part.cipher ∈ ps := by assumption) : Keeps ps s0 (s.startJob n j) := by
  unfold State.startJob
  try dsimp only
  repeat' first
    | with_reducible exact h0
    | with_reducible assumption
    | with_reducible apply Keeps.ite
    | with_reducible apply State.bump_keeps
    | with_reducible apply State.refuseJob_keeps
    | with_reducible apply State.setSlot_keeps
    | with_reducible apply State.settleCommand_keeps
    | with_reducible apply State.setCtx_keeps
    | with_reducible apply State.consumeRing_keeps
    | with_reducible apply State.setJob_keeps
    | split
    | fail_if_no_progress refine Keeps.record ?_ rfl rfl rfl rfl rfl rfl rfl rfl rfl rfl rfl rfl rfl rfl rfl rfl rfl rfl rfl
    | dsimp only

theorem State.grantJob_keeps {ps : List Part} {s0 s : State} (h0 : Keeps ps s0 s) (used : Table Nat) (n : Nat) (_ : Part.out ∈ ps := by assumption) (_ : Part.dict ∈ ps := by assumption) (_ : Part.log ∈ ps := by assumption) (_ : Part.pages ∈ ps := by assumption) (_ : Part.routes ∈ ps := by assumption) (_ : Part.cells ∈ ps := by assumption) (_ : Part.trip ∈ ps := by assumption) (_ : Part.cipher ∈ ps := by assumption) : Keeps ps s0 (s.grantJob used n).1 := by
  refine h0.trans ?_
  unfold State.grantJob
  split
  · exact Keeps.refl _ _
  · rename_i j _
    extract_lets d mode g u
    have hu : Keeps ps s u := by
      dsimp only [u]; split
      · exact Keeps.refl _ _
      · exact State.startJob_keeps (Keeps.refl _ _) ..
    split
    · exact Keeps.refl _ _
    · split
      · split
        · exact State.setJob_keeps hu ..
        · exact hu
      · exact hu

theorem State.coresTick_keeps {ps : List Part} {s0 s : State} (h0 : Keeps ps s0 s)  (_ : Part.out ∈ ps := by assumption) (_ : Part.dict ∈ ps := by assumption) (_ : Part.pages ∈ ps := by assumption) (_ : Part.cipher ∈ ps := by assumption) : Keeps ps s0 (s.coresTick) := by
  unfold State.coresTick
  try dsimp only
  repeat' first
    | with_reducible exact h0
    | with_reducible assumption
    | with_reducible exact Keeps.refl _ _
    | with_reducible apply State.takeCipher_keeps
    | (with_reducible apply Keeps.each) <;> try intro _ _
    | fail_if_no_progress refine Keeps.record ?_ rfl rfl rfl rfl rfl rfl rfl rfl rfl rfl rfl rfl rfl rfl rfl rfl rfl rfl rfl
    | dsimp only

theorem State.cipherTick_keeps {ps : List Part} {s0 s : State} (h0 : Keeps ps s0 s) (_ : Part.out ∈ ps := by assumption) (_ : Part.dict ∈ ps := by assumption) (_ : Part.log ∈ ps := by assumption) (_ : Part.pages ∈ ps := by assumption) (_ : Part.routes ∈ ps := by assumption) (_ : Part.cells ∈ ps := by assumption) (_ : Part.trip ∈ ps := by assumption) (_ : Part.cipher ∈ ps := by assumption) : Keeps ps s0 (s.cipherTick) := by
  unfold State.cipherTick
  split
  · suffices h : ∀ (l : List Nat) (a : State × Table Nat), Keeps ps s0 a.1 → Keeps ps s0 (l.foldl (fun a n => a.1.grantJob a.2 n) a).1 from
      h _ _ (State.coresTick_keeps h0)
    intro l
    induction l with
    | nil => exact fun _ h => h
    | cons n l ih => exact fun a h => ih _ (State.grantJob_keeps h ..)
  · exact h0

theorem State.finishJob_keeps {ps : List Part} {s0 s : State} (h0 : Keeps ps s0 s) (n : Nat) (j : CipherJob) (input aad : Bytes) (_ : Part.out ∈ ps := by assumption) (_ : Part.dict ∈ ps := by assumption) (_ : Part.pages ∈ ps := by assumption) (_ : Part.cipher ∈ ps := by assumption) : Keeps ps s0 (s.finishJob n j input aad) := by
  unfold State.finishJob
  try dsimp only
  repeat' first
    | with_reducible exact h0
    | with_reducible assumption
    | with_reducible apply Keeps.ite
    | with_reducible apply State.bump_keeps
    | with_reducible apply State.failJob_keeps
    | with_reducible apply State.closeCtx_keeps
    | with_reducible apply State.setCtx_keeps
    | with_reducible apply State.writeOut_keeps
    | with_reducible apply State.postDone_keeps
    | split
    | fail_if_no_progress refine Keeps.record ?_ rfl rfl rfl rfl rfl rfl rfl rfl rfl rfl rfl rfl rfl rfl rfl rfl rfl rfl rfl
    | dsimp only

theorem State.guardFails_keeps {ps : List Part} {s0 s : State} (h0 : Keeps ps s0 s) (cells : List Nat) (unit : Nat) (_ : Part.tsc ∈ ps := by assumption) (_ : Part.out ∈ ps := by assumption) (_ : Part.dict ∈ ps := by assumption) (_ : Part.written ∈ ps := by assumption) (_ : Part.hier ∈ ps := by assumption) (_ : Part.mgr ∈ ps := by assumption) (_ : Part.time ∈ ps := by assumption) (_ : Part.tether ∈ ps := by assumption) (_ : Part.log ∈ ps := by assumption) (_ : Part.ports ∈ ps := by assumption) (_ : Part.echoes ∈ ps := by assumption) (_ : Part.lanes ∈ ps := by assumption) (_ : Part.spools ∈ ps := by assumption) (_ : Part.pages ∈ ps := by assumption) (_ : Part.routes ∈ ps := by assumption) (_ : Part.cells ∈ ps := by assumption) (_ : Part.trip ∈ ps := by assumption) (_ : Part.cipher ∈ ps := by assumption) (_ : Part.checkParts ∈ ps := by assumption) (_ : Part.ring ∈ ps := by assumption) (_ : Part.sensing ∈ ps := by assumption) (_ : Part.rst ∈ ps := by assumption) (_ : Part.sup ∈ ps := by assumption) : Keeps ps s0 (s.guardFails cells unit) := by
  unfold State.guardFails
  try dsimp only
  repeat' first
    | with_reducible exact h0
    | with_reducible assumption
    | with_reducible exact Keeps.refl _ _
    | with_reducible apply Keeps.ite
    | with_reducible apply State.bump_keeps
    | with_reducible apply State.event_keeps
    | with_reducible apply State.tamper_keeps
    | (with_reducible apply Keeps.each) <;> try intro _ _
    | split
    | fail_if_no_progress refine Keeps.record ?_ rfl rfl rfl rfl rfl rfl rfl rfl rfl rfl rfl rfl rfl rfl rfl rfl rfl rfl rfl
    | dsimp only

/-! ## CheckOps -/

theorem State.setCheck_keeps {ps : List Part} {s0 s : State} (h0 : Keeps ps s0 s) (f n : Nat) (c : CheckCtx) (_ : Part.pages ∈ ps := by assumption) : Keeps ps s0 (s.setCheck f n c) := by
  unfold State.setCheck
  try dsimp only
  repeat' first
    | with_reducible exact h0
    | with_reducible assumption
    | with_reducible apply State.setPage_keeps
    | fail_if_no_progress refine Keeps.record ?_ rfl rfl rfl rfl rfl rfl rfl rfl rfl rfl rfl rfl rfl rfl rfl rfl rfl rfl rfl

theorem State.closeCheck_keeps {ps : List Part} {s0 s : State} (h0 : Keeps ps s0 s) (f n : Nat) (_ : Part.pages ∈ ps := by assumption) : Keeps ps s0 (s.closeCheck f n) := by
  unfold State.closeCheck
  try dsimp only
  repeat' first
    | with_reducible exact h0
    | with_reducible assumption
    | with_reducible apply Keeps.ite
    | with_reducible apply State.setCheck_keeps
    | split
    | fail_if_no_progress refine Keeps.record ?_ rfl rfl rfl rfl rfl rfl rfl rfl rfl rfl rfl rfl rfl rfl rfl rfl rfl rfl rfl

theorem State.postCheck_keeps {ps : List Part} {s0 s : State} (h0 : Keeps ps s0 s) (x : CheckPart) (status result : Nat) (final : Bool) (_ : Part.out ∈ ps := by assumption) (_ : Part.dict ∈ ps := by assumption) (_ : Part.pages ∈ ps := by assumption) : Keeps ps s0 (s.postCheck x status result final) := by
  unfold State.postCheck
  try dsimp only
  repeat' first
    | with_reducible exact h0
    | with_reducible assumption
    | with_reducible apply Keeps.ite
    | with_reducible apply State.postRing_keeps
    | with_reducible apply State.emit_keeps
    | with_reducible apply State.bump_keeps
    | split
    | dsimp only

theorem State.dropCheck_keeps {ps : List Part} {s0 s : State} (h0 : Keeps ps s0 s) (x : CheckPart) (_ : Part.checkParts ∈ ps := by assumption) : Keeps ps s0 (s.dropCheck x) := by
  unfold State.dropCheck
  try dsimp only
  repeat' first
    | with_reducible exact h0
    | with_reducible assumption
    | fail_if_no_progress refine Keeps.record ?_ rfl rfl rfl rfl rfl rfl rfl rfl rfl rfl rfl rfl rfl rfl rfl rfl rfl rfl rfl

theorem State.failCheck_keeps {ps : List Part} {s0 s : State} (h0 : Keeps ps s0 s) (x : CheckPart) (status : Nat) (_ : Part.out ∈ ps := by assumption) (_ : Part.dict ∈ ps := by assumption) (_ : Part.pages ∈ ps := by assumption) (_ : Part.checkParts ∈ ps := by assumption) : Keeps ps s0 (s.failCheck x status) := by
  unfold State.failCheck
  try dsimp only
  repeat' first
    | with_reducible exact h0
    | with_reducible assumption
    | with_reducible apply Keeps.ite
    | with_reducible apply State.dropCheck_keeps
    | with_reducible apply State.setCheck_keeps
    | with_reducible apply State.consumeRing_keeps
    | with_reducible apply State.postCheck_keeps
    | split
    | fail_if_no_progress refine Keeps.record ?_ rfl rfl rfl rfl rfl rfl rfl rfl rfl rfl rfl rfl rfl rfl rfl rfl rfl rfl rfl
    | dsimp only

theorem State.takeCheck_keeps {ps : List Part} {s0 s : State} (h0 : Keeps ps s0 s) (f : Nat) (d : CheckDesc) (_ : Part.out ∈ ps := by assumption) (_ : Part.dict ∈ ps := by assumption) (_ : Part.pages ∈ ps := by assumption) (_ : Part.checkParts ∈ ps := by assumption) : Keeps ps s0 (s.takeCheck f d) := by
  unfold State.takeCheck
  try dsimp only
  repeat' first
    | with_reducible exact h0
    | with_reducible assumption
    | with_reducible apply Keeps.ite
    | with_reducible apply State.setPage_keeps
    | with_reducible apply State.failCheck_keeps
    | split
    | fail_if_no_progress refine Keeps.record ?_ rfl rfl rfl rfl rfl rfl rfl rfl rfl rfl rfl rfl rfl rfl rfl rfl rfl rfl rfl
    | dsimp only

theorem State.putCheck_keeps {ps : List Part} {s0 s : State} (h0 : Keeps ps s0 s) (x y : CheckPart) (_ : Part.checkParts ∈ ps := by assumption) : Keeps ps s0 (s.putCheck x y) := by
  unfold State.putCheck
  try dsimp only
  repeat' first
    | with_reducible exact h0
    | with_reducible assumption
    | with_reducible apply Keeps.ite
    | split
    | fail_if_no_progress refine Keeps.record ?_ rfl rfl rfl rfl rfl rfl rfl rfl rfl rfl rfl rfl rfl rfl rfl rfl rfl rfl rfl

theorem State.dispatchCheck_keeps {ps : List Part} {s0 s : State} (h0 : Keeps ps s0 s) (x : CheckPart) (_ : Part.out ∈ ps := by assumption) (_ : Part.dict ∈ ps := by assumption) (_ : Part.pages ∈ ps := by assumption) (_ : Part.checkParts ∈ ps := by assumption) : Keeps ps s0 (s.dispatchCheck x) := by
  unfold State.dispatchCheck
  try dsimp only
  repeat' first
    | with_reducible exact h0
    | with_reducible assumption
    | with_reducible apply Keeps.ite
    | with_reducible apply State.failCheck_keeps
    | with_reducible apply State.setCheck_keeps
    | with_reducible apply State.consumeRing_keeps
    | with_reducible apply State.putCheck_keeps
    | with_reducible apply State.closeCheck_keeps
    | split
    | fail_if_no_progress refine Keeps.record ?_ rfl rfl rfl rfl rfl rfl rfl rfl rfl rfl rfl rfl rfl rfl rfl rfl rfl rfl rfl
    | dsimp only

theorem State.grantCheck_keeps {ps : List Part} {s0 s : State} (h0 : Keeps ps s0 s) (used : Table Nat) (x : CheckPart) (_ : Part.out ∈ ps := by assumption) (_ : Part.dict ∈ ps := by assumption) (_ : Part.pages ∈ ps := by assumption) (_ : Part.checkParts ∈ ps := by assumption) :
    Keeps ps s0 (s.grantCheck used x).1 := by
  refine h0.trans ?_
  unfold State.grantCheck
  dsimp only
  split
  · exact Keeps.refl _ _
  · dsimp only
    split
    · exact State.putCheck_keeps (Keeps.refl _ _) ..
    · exact State.dispatchCheck_keeps (State.putCheck_keeps (Keeps.refl _ _) ..) _

theorem State.checkTick_keeps {ps : List Part} {s0 s : State} (h0 : Keeps ps s0 s) (_ : Part.out ∈ ps := by assumption) (_ : Part.dict ∈ ps := by assumption) (_ : Part.pages ∈ ps := by assumption) (_ : Part.checkParts ∈ ps := by assumption) : Keeps ps s0 (s.checkTick) := by
  unfold State.checkTick
  split
  · suffices h : ∀ (l : List (List Nat × CheckPart)) (a : State × Table Nat), Keeps ps s0 a.1 →
        Keeps ps s0 (l.foldl (fun a x => a.1.grantCheck a.2 x.2) a).1 from h _ _ h0
    intro l
    induction l with
    | nil => exact fun _ h => h
    | cons n l ih => exact fun a h => ih _ (State.grantCheck_keeps h ..)
  · exact h0

theorem State.finishCheck_keeps {ps : List Part} {s0 s : State} (h0 : Keeps ps s0 s) (x : CheckPart) (data : Bytes) (_ : Part.out ∈ ps := by assumption) (_ : Part.dict ∈ ps := by assumption) (_ : Part.pages ∈ ps := by assumption) (_ : Part.checkParts ∈ ps := by assumption) : Keeps ps s0 (s.finishCheck x data) := by
  unfold State.finishCheck
  try dsimp only
  repeat' first
    | with_reducible exact h0
    | with_reducible assumption
    | with_reducible apply Keeps.ite
    | with_reducible apply State.dropCheck_keeps
    | with_reducible apply State.bumpKey_keeps
    | with_reducible apply State.setCheck_keeps
    | with_reducible apply State.postCheck_keeps
    | with_reducible apply State.bump_keeps
    | with_reducible apply State.setPage_keeps
    | with_reducible apply State.emit_keeps
    | split
    | fail_if_no_progress refine Keeps.record ?_ rfl rfl rfl rfl rfl rfl rfl rfl rfl rfl rfl rfl rfl rfl rfl rfl rfl rfl rfl
    | dsimp only

/-! ## RingOps -/

theorem State.updRing_keeps {ps : List Part} {s0 s : State} (h0 : Keeps ps s0 s) (d : Side) (f : RingPort → RingPort) (_ : Part.ring ∈ ps := by assumption) : Keeps ps s0 (s.updRing d f) := by
  unfold State.updRing
  repeat' first
    | with_reducible exact h0
    | with_reducible assumption
    | with_reducible apply State.setRingPort_keeps

theorem State.ringCount_keeps {ps : List Part} {s0 s : State} (h0 : Keeps ps s0 s) (d : Side) (first : Nat) (_ : Part.dict ∈ ps := by assumption) : Keeps ps s0 (s.ringCount d first) := by
  unfold State.ringCount
  repeat' first
    | with_reducible exact h0
    | with_reducible assumption
    | with_reducible apply State.bump_keeps

theorem State.ringKick_keeps {ps : List Part} {s0 s : State} (h0 : Keeps ps s0 s) (d : Side) (_ : Part.out ∈ ps := by assumption) (_ : Part.ring ∈ ps := by assumption) : Keeps ps s0 (s.ringKick d) := by
  unfold State.ringKick
  try dsimp only
  repeat' first
    | with_reducible exact h0
    | with_reducible assumption
    | with_reducible apply Keeps.ite
    | with_reducible apply State.setRingPort_keeps
    | with_reducible apply State.emit_keeps
    | split
    | fail_if_no_progress refine Keeps.record ?_ rfl rfl rfl rfl rfl rfl rfl rfl rfl rfl rfl rfl rfl rfl rfl rfl rfl rfl rfl
    | dsimp only

theorem State.ringStore_keeps {ps : List Part} {s0 s : State} (h0 : Keeps ps s0 s) (from_ : Side) (frame : RingFrame) (_ : Part.out ∈ ps := by assumption) (_ : Part.dict ∈ ps := by assumption) (_ : Part.ring ∈ ps := by assumption) : Keeps ps s0 (s.ringStore from_ frame) := by
  unfold State.ringStore
  try dsimp only
  repeat' first
    | with_reducible exact h0
    | with_reducible assumption
    | with_reducible apply Keeps.ite
    | with_reducible apply State.ringCount_keeps
    | with_reducible apply State.setRingPort_keeps
    | with_reducible apply State.ringKick_keeps
    | split
    | fail_if_no_progress refine Keeps.record ?_ rfl rfl rfl rfl rfl rfl rfl rfl rfl rfl rfl rfl rfl rfl rfl rfl rfl rfl rfl
    | dsimp only

theorem State.sendRing_keeps {ps : List Part} {s0 s : State} (h0 : Keeps ps s0 s) (da etherType : Nat) (vlan : Option (Nat × Nat)) (payload : Bytes) (_ : Part.out ∈ ps := by assumption) (_ : Part.ring ∈ ps := by assumption) : Keeps ps s0 (s.sendRing da etherType vlan payload) := by
  unfold State.sendRing
  try dsimp only
  repeat' first
    | with_reducible exact h0
    | with_reducible assumption
    | with_reducible exact Keeps.refl _ _
    | with_reducible apply Keeps.ite
    | with_reducible apply State.updRing_keeps
    | with_reducible apply State.ringKick_keeps
    | (with_reducible apply Keeps.each) <;> try intro _ _
    | split
    | fail_if_no_progress refine Keeps.record ?_ rfl rfl rfl rfl rfl rfl rfl rfl rfl rfl rfl rfl rfl rfl rfl rfl rfl rfl rfl
    | dsimp only

theorem State.sendMessage_keeps {ps : List Part} {s0 s : State} (h0 : Keeps ps s0 s) (mac : Nat) (msg : Bytes) (_ : Part.out ∈ ps := by assumption) (_ : Part.ring ∈ ps := by assumption) : Keeps ps s0 (s.sendMessage mac msg) := by
  unfold State.sendMessage
  repeat' first
    | with_reducible exact h0
    | with_reducible assumption
    | with_reducible apply State.emit_keeps
    | with_reducible apply State.sendRing_keeps

theorem State.ringLost_keeps {ps : List Part} {s0 s : State} (h0 : Keeps ps s0 s) (d : Side) (_ : Part.out ∈ ps := by assumption) (_ : Part.dict ∈ ps := by assumption) (_ : Part.ring ∈ ps := by assumption) : Keeps ps s0 (s.ringLost d) := by
  unfold State.ringLost
  try dsimp only
  repeat' first
    | with_reducible exact h0
    | with_reducible assumption
    | with_reducible apply Keeps.ite
    | with_reducible apply State.updRing_keeps
    | with_reducible apply State.emit_keeps
    | with_reducible apply State.ringKick_keeps
    | split
    | fail_if_no_progress refine Keeps.record ?_ rfl rfl rfl rfl rfl rfl rfl rfl rfl rfl rfl rfl rfl rfl rfl rfl rfl rfl rfl
    | dsimp only

theorem State.setRingLink_keeps {ps : List Part} {s0 s : State} (h0 : Keeps ps s0 s) (d : Side) (st : RingLink) (_ : Part.out ∈ ps := by assumption) (_ : Part.dict ∈ ps := by assumption) (_ : Part.ring ∈ ps := by assumption) : Keeps ps s0 (s.setRingLink d st) := by
  unfold State.setRingLink
  try dsimp only
  repeat' first
    | with_reducible exact h0
    | with_reducible assumption
    | with_reducible apply Keeps.ite
    | with_reducible apply State.ringLost_keeps
    | with_reducible apply State.updRing_keeps
    | split
    | fail_if_no_progress refine Keeps.record ?_ rfl rfl rfl rfl rfl rfl rfl rfl rfl rfl rfl rfl rfl rfl rfl rfl rfl rfl rfl
    | dsimp only

theorem State.settleRingPins_keeps {ps : List Part} {s0 s : State} (h0 : Keeps ps s0 s)  (_ : Part.out ∈ ps := by assumption) (_ : Part.dict ∈ ps := by assumption) (_ : Part.ring ∈ ps := by assumption) : Keeps ps s0 (s.settleRingPins) := by
  unfold State.settleRingPins
  try dsimp only
  repeat' first
    | with_reducible exact h0
    | with_reducible assumption
    | with_reducible exact Keeps.refl _ _
    | with_reducible apply Keeps.ite
    | with_reducible apply State.setRingLink_keeps
    | (with_reducible apply Keeps.each) <;> try intro _ _
    | split
    | fail_if_no_progress refine Keeps.record ?_ rfl rfl rfl rfl rfl rfl rfl rfl rfl rfl rfl rfl rfl rfl rfl rfl rfl rfl rfl
    | dsimp only

theorem State.enterRing_keeps {ps : List Part} {s0 s : State} (h0 : Keeps ps s0 s) (st : RingState) (_ : Part.ring ∈ ps := by assumption) : Keeps ps s0 (s.enterRing st) := by
  unfold State.enterRing
  try dsimp only
  repeat' first
    | with_reducible exact h0
    | with_reducible assumption
    | fail_if_no_progress refine Keeps.record ?_ rfl rfl rfl rfl rfl rfl rfl rfl rfl rfl rfl rfl rfl rfl rfl rfl rfl rfl rfl

theorem State.ringDrive_keeps {ps : List Part} {s0 s : State} (h0 : Keeps ps s0 s) (on : Bool) (_ : Part.ring ∈ ps := by assumption) : Keeps ps s0 (s.ringDrive on) := by
  unfold State.ringDrive
  try dsimp only
  repeat' first
    | with_reducible exact h0
    | with_reducible assumption
    | with_reducible apply Keeps.ite
    | split
    | fail_if_no_progress refine Keeps.record ?_ rfl rfl rfl rfl rfl rfl rfl rfl rfl rfl rfl rfl rfl rfl rfl rfl rfl rfl rfl

theorem State.waitSteady_keeps {ps : List Part} {s0 s : State} (h0 : Keeps ps s0 s)  (_ : Part.ring ∈ ps := by assumption) : Keeps ps s0 (s.waitSteady) := by
  unfold State.waitSteady
  try dsimp only
  repeat' first
    | with_reducible exact h0
    | with_reducible assumption
    | fail_if_no_progress refine Keeps.record ?_ rfl rfl rfl rfl rfl rfl rfl rfl rfl rfl rfl rfl rfl rfl rfl rfl rfl rfl rfl

theorem State.ringAbandon_keeps {ps : List Part} {s0 s : State} (h0 : Keeps ps s0 s)  (_ : Part.log ∈ ps := by assumption) (_ : Part.ring ∈ ps := by assumption) (_ : Part.rst ∈ ps := by assumption) (_ : Part.sup ∈ ps := by assumption) : Keeps ps s0 (s.ringAbandon) := by
  unfold State.ringAbandon
  try dsimp only
  repeat' first
    | with_reducible exact h0
    | with_reducible assumption
    | with_reducible apply Keeps.ite
    | with_reducible apply State.endSwap_keeps
    | split
    | fail_if_no_progress refine Keeps.record ?_ rfl rfl rfl rfl rfl rfl rfl rfl rfl rfl rfl rfl rfl rfl rfl rfl rfl rfl rfl
    | dsimp only

theorem State.ringRelease_keeps {ps : List Part} {s0 s : State} (h0 : Keeps ps s0 s) (st : RingState) (_ : Part.log ∈ ps := by assumption) (_ : Part.ring ∈ ps := by assumption) (_ : Part.rst ∈ ps := by assumption) (_ : Part.sup ∈ ps := by assumption) : Keeps ps s0 (s.ringRelease st) := by
  unfold State.ringRelease
  repeat' first
    | with_reducible exact h0
    | with_reducible assumption
    | with_reducible apply State.ringAbandon_keeps
    | with_reducible apply State.ringDrive_keeps
    | with_reducible apply State.enterRing_keeps

theorem State.ringExtract_keeps {ps : List Part} {s0 s : State} (h0 : Keeps ps s0 s)  (_ : Part.log ∈ ps := by assumption) (_ : Part.ring ∈ ps := by assumption) (_ : Part.rst ∈ ps := by assumption) (_ : Part.sup ∈ ps := by assumption) : Keeps ps s0 (s.ringExtract) := by
  unfold State.ringExtract
  try dsimp only
  repeat' first
    | with_reducible exact h0
    | with_reducible assumption
    | with_reducible apply Keeps.ite
    | with_reducible apply State.ringDrive_keeps
    | with_reducible apply State.ringAbandon_keeps
    | with_reducible apply State.enterRing_keeps
    | split
    | dsimp only

theorem State.ringInserted_keeps {ps : List Part} {s0 s : State} (h0 : Keeps ps s0 s)  (_ : Part.dict ∈ ps := by assumption) (_ : Part.ring ∈ ps := by assumption) : Keeps ps s0 (s.ringInserted) := by
  unfold State.ringInserted
  try dsimp only
  repeat' first
    | with_reducible exact h0
    | with_reducible assumption
    | with_reducible apply State.bump_keeps
    | fail_if_no_progress refine Keeps.record ?_ rfl rfl rfl rfl rfl rfl rfl rfl rfl rfl rfl rfl rfl rfl rfl rfl rfl rfl rfl

theorem State.ringTick_keeps {ps : List Part} {s0 s : State} (h0 : Keeps ps s0 s)  (_ : Part.out ∈ ps := by assumption) (_ : Part.dict ∈ ps := by assumption) (_ : Part.log ∈ ps := by assumption) (_ : Part.ring ∈ ps := by assumption) (_ : Part.rst ∈ ps := by assumption) (_ : Part.sup ∈ ps := by assumption) : Keeps ps s0 (s.ringTick) := by
  unfold State.ringTick
  try dsimp only
  repeat' first
    | with_reducible exact h0
    | with_reducible assumption
    | with_reducible apply Keeps.ite
    | with_reducible apply State.ringExtract_keeps
    | with_reducible apply State.ringRelease_keeps
    | with_reducible apply State.waitSteady_keeps
    | with_reducible apply State.settleRingPins_keeps
    | split
    | fail_if_no_progress refine Keeps.record ?_ rfl rfl rfl rfl rfl rfl rfl rfl rfl rfl rfl rfl rfl rfl rfl rfl rfl rfl rfl
    | dsimp only

theorem State.ringBlockDown_keeps {ps : List Part} {s0 s : State} (h0 : Keeps ps s0 s)  (_ : Part.out ∈ ps := by assumption) (_ : Part.dict ∈ ps := by assumption) (_ : Part.log ∈ ps := by assumption) (_ : Part.ring ∈ ps := by assumption) (_ : Part.rst ∈ ps := by assumption) (_ : Part.sup ∈ ps := by assumption) : Keeps ps s0 (s.ringBlockDown) := by
  unfold State.ringBlockDown
  try dsimp only
  repeat' first
    | with_reducible exact h0
    | with_reducible assumption
    | with_reducible apply Keeps.ite
    | with_reducible apply State.ringRelease_keeps
    | with_reducible apply State.settleRingPins_keeps
    | with_reducible apply State.bump_keeps
    | split
    | dsimp only

theorem State.startRingSwap_keeps {ps : List Part} {s0 s : State} (h0 : Keeps ps s0 s) (q : SwapRequest) (_ : Part.out ∈ ps := by assumption) (_ : Part.dict ∈ ps := by assumption) (_ : Part.ring ∈ ps := by assumption) : Keeps ps s0 (s.startRingSwap q) := by
  unfold State.startRingSwap
  try dsimp only
  repeat' first
    | with_reducible exact h0
    | with_reducible assumption
    | with_reducible apply Keeps.ite
    | with_reducible apply State.setRingLink_keeps
    | split
    | fail_if_no_progress refine Keeps.record ?_ rfl rfl rfl rfl rfl rfl rfl rfl rfl rfl rfl rfl rfl rfl rfl rfl rfl rfl rfl
    | dsimp only

theorem State.ringSwapDone_keeps {ps : List Part} {s0 s : State} (h0 : Keeps ps s0 s) (d : Side) (_ : Part.dict ∈ ps := by assumption) (_ : Part.log ∈ ps := by assumption) (_ : Part.rst ∈ ps := by assumption) (_ : Part.sup ∈ ps := by assumption) : Keeps ps s0 (s.ringSwapDone d) := by
  unfold State.ringSwapDone
  try dsimp only
  repeat' first
    | with_reducible exact h0
    | with_reducible assumption
    | with_reducible apply Keeps.ite
    | with_reducible apply State.endSwap_keeps
    | with_reducible apply State.bump_keeps
    | split
    | fail_if_no_progress refine Keeps.record ?_ rfl rfl rfl rfl rfl rfl rfl rfl rfl rfl rfl rfl rfl rfl rfl rfl rfl rfl rfl
    | dsimp only

theorem State.noteFrame_keeps {ps : List Part} {s0 s : State} (h0 : Keeps ps s0 s) (sa seq : Nat) (_ : Part.dict ∈ ps := by assumption) (_ : Part.ring ∈ ps := by assumption) : Keeps ps s0 (s.noteFrame sa seq) := by
  unfold State.noteFrame
  try dsimp only
  repeat' first
    | with_reducible exact h0
    | with_reducible assumption
    | with_reducible apply Keeps.ite
    | with_reducible apply State.bump_keeps
    | split
    | fail_if_no_progress refine Keeps.record ?_ rfl rfl rfl rfl rfl rfl rfl rfl rfl rfl rfl rfl rfl rfl rfl rfl rfl rfl rfl
    | dsimp only

theorem State.cutThrough_keeps {ps : List Part} {s0 s : State} (h0 : Keeps ps s0 s) (d : Side) (f : RingFrame) (dup : Bool) (_ : Part.out ∈ ps := by assumption) (_ : Part.dict ∈ ps := by assumption) (_ : Part.ring ∈ ps := by assumption) : Keeps ps s0 (s.cutThrough d f dup) := by
  unfold State.cutThrough
  try dsimp only
  repeat' first
    | with_reducible exact h0
    | with_reducible assumption
    | with_reducible apply Keeps.ite
    | with_reducible apply State.emit_keeps
    | with_reducible apply State.ringCount_keeps
    | with_reducible apply State.updRing_keeps
    | with_reducible apply State.bump_keeps
    | split
    | fail_if_no_progress refine Keeps.record ?_ rfl rfl rfl rfl rfl rfl rfl rfl rfl rfl rfl rfl rfl rfl rfl rfl rfl rfl rfl
    | dsimp only

theorem State.ringDeliver_keeps {ps : List Part} {s0 s : State} (h0 : Keeps ps s0 s) (d : Side) (f : RingFrame) (_ : Part.dict ∈ ps := by assumption) : Keeps ps s0 (s.ringDeliver d f) := by
  unfold State.ringDeliver
  repeat' first
    | with_reducible exact h0
    | with_reducible assumption
    | with_reducible apply Keeps.ite
    | with_reducible apply State.setVal_keeps
    | with_reducible apply State.bump_keeps
    | split

theorem State.ringReceive_keeps {ps : List Part} {s0 s : State} (h0 : Keeps ps s0 s) (d : Side) (f : RingFrame) (_ : Part.out ∈ ps := by assumption) (_ : Part.dict ∈ ps := by assumption) (_ : Part.ring ∈ ps := by assumption) : Keeps ps s0 (s.ringReceive d f) := by
  unfold State.ringReceive
  try dsimp only
  repeat' first
    | with_reducible exact h0
    | with_reducible assumption
    | with_reducible apply Keeps.ite
    | with_reducible apply State.ringCount_keeps
    | with_reducible apply State.bump_keeps
    | with_reducible apply State.cutThrough_keeps
    | with_reducible apply State.noteFrame_keeps
    | with_reducible apply State.ringStore_keeps
    | with_reducible apply State.ringDeliver_keeps
    | split
    | fail_if_no_progress refine Keeps.record ?_ rfl rfl rfl rfl rfl rfl rfl rfl rfl rfl rfl rfl rfl rfl rfl rfl rfl rfl rfl
    | dsimp only

theorem State.choosePtp_keeps {ps : List Part} {s0 s : State} (h0 : Keeps ps s0 s)  (_ : Part.ring ∈ ps := by assumption) : Keeps ps s0 (s.choosePtp) := by
  unfold State.choosePtp
  try dsimp only
  repeat' first
    | with_reducible exact h0
    | with_reducible assumption
    | with_reducible apply Keeps.ite
    | split
    | fail_if_no_progress refine Keeps.record ?_ rfl rfl rfl rfl rfl rfl rfl rfl rfl rfl rfl rfl rfl rfl rfl rfl rfl rfl rfl
    | dsimp only

theorem State.sendPtp_keeps {ps : List Part} {s0 s : State} (h0 : Keeps ps s0 s) (d : Side) (m : PtpMessage) (_ : Part.out ∈ ps := by assumption) : Keeps ps s0 (s.sendPtp d m) := by
  unfold State.sendPtp
  repeat' first
    | with_reducible exact h0
    | with_reducible assumption
    | with_reducible apply Keeps.ite
    | with_reducible apply State.emit_keeps
    | split

theorem State.ptpReceive_keeps {ps : List Part} {s0 s : State} (h0 : Keeps ps s0 s) (d : Side) (m : PtpMessage) (_ : Part.free ∈ ps := by assumption) (_ : Part.out ∈ ps := by assumption) (_ : Part.dict ∈ ps := by assumption) (_ : Part.mgr ∈ ps := by assumption) (_ : Part.ring ∈ ps := by assumption) : Keeps ps s0 (s.ptpReceive d m) := by
  unfold State.ptpReceive
  try dsimp only
  repeat' first
    | with_reducible exact h0
    | with_reducible assumption
    | with_reducible apply Keeps.ite
    | with_reducible apply State.updRing_keeps
    | with_reducible apply State.sendPtp_keeps
    | with_reducible apply State.choosePtp_keeps
    | with_reducible apply State.setRingPort_keeps
    | with_reducible apply State.setVal_keeps
    | split
    | fail_if_no_progress refine Keeps.record ?_ rfl rfl rfl rfl rfl rfl rfl rfl rfl rfl rfl rfl rfl rfl rfl rfl rfl rfl rfl
    | dsimp only

theorem State.ptpInterval_keeps {ps : List Part} {s0 s : State} (h0 : Keeps ps s0 s)  (_ : Part.out ∈ ps := by assumption) (_ : Part.mgr ∈ ps := by assumption) (_ : Part.ring ∈ ps := by assumption) : Keeps ps s0 (s.ptpInterval) := by
  unfold State.ptpInterval
  try dsimp only
  repeat' first
    | with_reducible exact h0
    | with_reducible assumption
    | with_reducible exact Keeps.refl _ _
    | with_reducible apply Keeps.ite
    | with_reducible apply State.updRing_keeps
    | with_reducible apply State.sendPtp_keeps
    | (with_reducible apply Keeps.each) <;> try intro _ _
    | split
    | fail_if_no_progress refine Keeps.record ?_ rfl rfl rfl rfl rfl rfl rfl rfl rfl rfl rfl rfl rfl rfl rfl rfl rfl rfl rfl
    | dsimp only

/-! ## BlockOps -/

theorem State.clearFunction_keeps {ps : List Part} {s0 s : State} (h0 : Keeps ps s0 s) (f : Nat) (_ : Part.pages ∈ ps := by assumption) (_ : Part.cipher ∈ ps := by assumption) (_ : Part.checkParts ∈ ps := by assumption) : Keeps ps s0 (s.clearFunction f) := by
  unfold State.clearFunction
  try dsimp only
  repeat' first
    | with_reducible exact h0
    | with_reducible assumption
    | with_reducible apply State.setPage_keeps
    | fail_if_no_progress refine Keeps.record ?_ rfl rfl rfl rfl rfl rfl rfl rfl rfl rfl rfl rfl rfl rfl rfl rfl rfl rfl rfl
    | dsimp only

theorem State.clearEvents_keeps {ps : List Part} {s0 s : State} (h0 : Keeps ps s0 s) (f : Nat) (_ : Part.pages ∈ ps := by assumption) : Keeps ps s0 (s.clearEvents f) := by
  unfold State.clearEvents
  try dsimp only
  repeat' first
    | with_reducible exact h0
    | with_reducible assumption
    | with_reducible apply State.setPage_keeps
    | fail_if_no_progress refine Keeps.record ?_ rfl rfl rfl rfl rfl rfl rfl rfl rfl rfl rfl rfl rfl rfl rfl rfl rfl rfl rfl

theorem State.returnFunction_keeps {ps : List Part} {s0 s : State} (h0 : Keeps ps s0 s) (f : Nat) (_ : Part.out ∈ ps := by assumption) (_ : Part.dict ∈ ps := by assumption) (_ : Part.pages ∈ ps := by assumption) (_ : Part.cipher ∈ ps := by assumption) (_ : Part.checkParts ∈ ps := by assumption) : Keeps ps s0 (s.returnFunction f) := by
  unfold State.returnFunction
  try dsimp only
  repeat' first
    | with_reducible exact h0
    | with_reducible assumption
    | with_reducible exact Keeps.refl _ _
    | with_reducible apply Keeps.ite
    | with_reducible apply State.postTxc_keeps
    | with_reducible apply State.consumeTx_keeps
    | with_reducible apply State.failJob_keeps
    | with_reducible apply State.failCheck_keeps
    | with_reducible apply State.returnItem_keeps
    | (with_reducible apply Keeps.each) <;> try intro _ _
    | split
    | dsimp only

theorem State.clearHostPort_keeps {ps : List Part} {s0 s : State} (h0 : Keeps ps s0 s) (first : Nat) (_ : Part.out ∈ ps := by assumption) (_ : Part.dict ∈ ps := by assumption) (_ : Part.pages ∈ ps := by assumption) (_ : Part.cipher ∈ ps := by assumption) (_ : Part.checkParts ∈ ps := by assumption) : Keeps ps s0 (s.clearHostPort first) := by
  unfold State.clearHostPort
  repeat' first
    | with_reducible exact h0
    | with_reducible assumption
    | with_reducible exact Keeps.refl _ _
    | with_reducible apply State.returnFunction_keeps
    | with_reducible apply State.clearFunction_keeps
    | with_reducible apply State.clearEvents_keeps
    | (with_reducible apply Keeps.each) <;> try intro _ _
    | dsimp only

theorem State.stopPort_keeps {ps : List Part} {s0 s : State} (h0 : Keeps ps s0 s) (p : Nat) (_ : Part.out ∈ ps := by assumption) (_ : Part.dict ∈ ps := by assumption) (_ : Part.log ∈ ps := by assumption) (_ : Part.ports ∈ ps := by assumption) (_ : Part.echoes ∈ ps := by assumption) (_ : Part.lanes ∈ ps := by assumption) (_ : Part.spools ∈ ps := by assumption) (_ : Part.pages ∈ ps := by assumption) (_ : Part.routes ∈ ps := by assumption) (_ : Part.cells ∈ ps := by assumption) (_ : Part.rst ∈ ps := by assumption) (_ : Part.sup ∈ ps := by assumption) : Keeps ps s0 (s.stopPort p) := by
  unfold State.stopPort
  try dsimp only
  repeat' first
    | with_reducible exact h0
    | with_reducible assumption
    | with_reducible apply Keeps.ite
    | with_reducible apply State.endSwap_keeps
    | with_reducible apply State.swapDone_keeps
    | with_reducible apply State.portPolicy_keeps
    | with_reducible apply State.updPort_keeps
    | split
    | fail_if_no_progress refine Keeps.record ?_ rfl rfl rfl rfl rfl rfl rfl rfl rfl rfl rfl rfl rfl rfl rfl rfl rfl rfl rfl
    | dsimp only

theorem State.stopCluster_keeps {ps : List Part} {s0 s : State} (h0 : Keeps ps s0 s) (b : Nat) (_ : Part.out ∈ ps := by assumption) (_ : Part.lanes ∈ ps := by assumption) (_ : Part.pages ∈ ps := by assumption) : Keeps ps s0 (s.stopCluster b) := by
  unfold State.stopCluster
  try dsimp only
  repeat' first
    | with_reducible exact h0
    | with_reducible assumption
    | with_reducible exact Keeps.refl _ _
    | with_reducible apply Keeps.ite
    | with_reducible apply State.setPage_keeps
    | with_reducible apply State.postTxc_keeps
    | with_reducible apply State.consumeTx_keeps
    | with_reducible apply State.setTx_keeps
    | with_reducible apply State.returnItem_keeps
    | (with_reducible apply Keeps.each) <;> try intro _ _
    | split
    | fail_if_no_progress refine Keeps.record ?_ rfl rfl rfl rfl rfl rfl rfl rfl rfl rfl rfl rfl rfl rfl rfl rfl rfl rfl rfl
    | dsimp only

theorem State.stopSpools_keeps {ps : List Part} {s0 s : State} (h0 : Keeps ps s0 s)  (_ : Part.out ∈ ps := by assumption) (_ : Part.lanes ∈ ps := by assumption) (_ : Part.spools ∈ ps := by assumption) (_ : Part.pages ∈ ps := by assumption) : Keeps ps s0 (s.stopSpools) := by
  unfold State.stopSpools
  repeat' first
    | with_reducible exact h0
    | with_reducible assumption
    | with_reducible exact Keeps.refl _ _
    | with_reducible apply State.emptySpool_keeps
    | (with_reducible apply Keeps.each) <;> try intro _ _
    | dsimp only

theorem State.stopPool_keeps {ps : List Part} {s0 s : State} (h0 : Keeps ps s0 s)  (_ : Part.out ∈ ps := by assumption) (_ : Part.hier ∈ ps := by assumption) : Keeps ps s0 (s.stopPool) := by
  unfold State.stopPool
  try dsimp only
  repeat' first
    | with_reducible exact h0
    | with_reducible assumption
    | with_reducible apply Keeps.ite
    | with_reducible apply State.returnItem_keeps
    | split
    | fail_if_no_progress refine Keeps.record ?_ rfl rfl rfl rfl rfl rfl rfl rfl rfl rfl rfl rfl rfl rfl rfl rfl rfl rfl rfl
    | dsimp only

theorem State.stopCipher_keeps {ps : List Part} {s0 s : State} (h0 : Keeps ps s0 s)  (_ : Part.out ∈ ps := by assumption) (_ : Part.dict ∈ ps := by assumption) (_ : Part.pages ∈ ps := by assumption) (_ : Part.cipher ∈ ps := by assumption) : Keeps ps s0 (s.stopCipher) := by
  unfold State.stopCipher
  try dsimp only
  repeat' first
    | with_reducible exact h0
    | with_reducible assumption
    | with_reducible exact Keeps.refl _ _
    | with_reducible apply State.failJob_keeps
    | with_reducible apply State.setPage_keeps
    | (with_reducible apply Keeps.each) <;> try intro _ _
    | fail_if_no_progress refine Keeps.record ?_ rfl rfl rfl rfl rfl rfl rfl rfl rfl rfl rfl rfl rfl rfl rfl rfl rfl rfl rfl
    | dsimp only

theorem State.stopKeys_keeps {ps : List Part} {s0 s : State} (h0 : Keeps ps s0 s)  (_ : Part.pages ∈ ps := by assumption) (_ : Part.cipher ∈ ps := by assumption) : Keeps ps s0 (s.stopKeys) := by
  unfold State.stopKeys
  try dsimp only
  repeat' first
    | with_reducible exact h0
    | with_reducible assumption
    | with_reducible exact Keeps.refl _ _
    | with_reducible apply State.keyDone_keeps
    | (with_reducible apply Keeps.each) <;> try intro _ _
    | split
    | fail_if_no_progress refine Keeps.record ?_ rfl rfl rfl rfl rfl rfl rfl rfl rfl rfl rfl rfl rfl rfl rfl rfl rfl rfl rfl
    | dsimp only

theorem State.stopChecks_keeps {ps : List Part} {s0 s : State} (h0 : Keeps ps s0 s)  (_ : Part.out ∈ ps := by assumption) (_ : Part.dict ∈ ps := by assumption) (_ : Part.pages ∈ ps := by assumption) (_ : Part.checkParts ∈ ps := by assumption) : Keeps ps s0 (s.stopChecks) := by
  unfold State.stopChecks
  repeat' first
    | with_reducible exact h0
    | with_reducible assumption
    | with_reducible exact Keeps.refl _ _
    | with_reducible apply State.failCheck_keeps
    | (with_reducible apply Keeps.each) <;> try intro _ _
    | dsimp only

theorem State.stopTrip_keeps {ps : List Part} {s0 s : State} (h0 : Keeps ps s0 s)  (_ : Part.out ∈ ps := by assumption) (_ : Part.dict ∈ ps := by assumption) (_ : Part.log ∈ ps := by assumption) (_ : Part.routes ∈ ps := by assumption) (_ : Part.cells ∈ ps := by assumption) (_ : Part.trip ∈ ps := by assumption) : Keeps ps s0 (s.stopTrip) := by
  unfold State.stopTrip
  try dsimp only
  repeat' first
    | with_reducible exact h0
    | with_reducible assumption
    | with_reducible apply State.settleCommand_keeps
    | fail_if_no_progress refine Keeps.record ?_ rfl rfl rfl rfl rfl rfl rfl rfl rfl rfl rfl rfl rfl rfl rfl rfl rfl rfl rfl

theorem State.stopTether_keeps {ps : List Part} {s0 s : State} (h0 : Keeps ps s0 s)  (_ : Part.tether ∈ ps := by assumption) : Keeps ps s0 (s.stopTether) := by
  unfold State.stopTether
  try dsimp only
  repeat' first
    | with_reducible exact h0
    | with_reducible assumption
    | fail_if_no_progress refine Keeps.record ?_ rfl rfl rfl rfl rfl rfl rfl rfl rfl rfl rfl rfl rfl rfl rfl rfl rfl rfl rfl

theorem State.stopBlock_keeps {ps : List Part} {s0 s : State} (h0 : Keeps ps s0 s) (r b : Nat) (_ : Part.out ∈ ps := by assumption) (_ : Part.dict ∈ ps := by assumption) (_ : Part.hier ∈ ps := by assumption) (_ : Part.tether ∈ ps := by assumption) (_ : Part.log ∈ ps := by assumption) (_ : Part.ports ∈ ps := by assumption) (_ : Part.echoes ∈ ps := by assumption) (_ : Part.lanes ∈ ps := by assumption) (_ : Part.spools ∈ ps := by assumption) (_ : Part.pages ∈ ps := by assumption) (_ : Part.routes ∈ ps := by assumption) (_ : Part.cells ∈ ps := by assumption) (_ : Part.trip ∈ ps := by assumption) (_ : Part.cipher ∈ ps := by assumption) (_ : Part.checkParts ∈ ps := by assumption) (_ : Part.ring ∈ ps := by assumption) (_ : Part.sensing ∈ ps := by assumption) (_ : Part.rst ∈ ps := by assumption) (_ : Part.sup ∈ ps := by assumption) : Keeps ps s0 (s.stopBlock r b) := by
  unfold State.stopBlock
  repeat' first
    | with_reducible exact h0
    | with_reducible assumption
    | with_reducible apply Keeps.ite
    | with_reducible apply State.stopPort_keeps
    | with_reducible apply State.stopCluster_keeps
    | with_reducible apply State.stopSpools_keeps
    | with_reducible apply State.stopPool_keeps
    | with_reducible apply State.stopCipher_keeps
    | with_reducible apply State.stopKeys_keeps
    | with_reducible apply State.stopChecks_keeps
    | with_reducible apply State.ringBlockDown_keeps
    | with_reducible apply State.clearHostPort_keeps
    | with_reducible apply State.startSensing_keeps
    | with_reducible apply State.stopTrip_keeps
    | with_reducible apply State.stopTether_keeps
    | split

theorem State.blockDown_keeps {ps : List Part} {s0 s : State} (h0 : Keeps ps s0 s) (r b : Nat) (st : BlockState) (_ : Part.out ∈ ps := by assumption) (_ : Part.dict ∈ ps := by assumption) (_ : Part.hier ∈ ps := by assumption) (_ : Part.tether ∈ ps := by assumption) (_ : Part.log ∈ ps := by assumption) (_ : Part.ports ∈ ps := by assumption) (_ : Part.echoes ∈ ps := by assumption) (_ : Part.lanes ∈ ps := by assumption) (_ : Part.spools ∈ ps := by assumption) (_ : Part.pages ∈ ps := by assumption) (_ : Part.routes ∈ ps := by assumption) (_ : Part.cells ∈ ps := by assumption) (_ : Part.trip ∈ ps := by assumption) (_ : Part.cipher ∈ ps := by assumption) (_ : Part.checkParts ∈ ps := by assumption) (_ : Part.ring ∈ ps := by assumption) (_ : Part.sensing ∈ ps := by assumption) (_ : Part.rst ∈ ps := by assumption) (_ : Part.sup ∈ ps := by assumption) : Keeps ps s0 (s.blockDown r b st) := by
  unfold State.blockDown
  try dsimp only
  repeat' first
    | with_reducible exact h0
    | with_reducible assumption
    | with_reducible apply Keeps.ite
    | with_reducible apply State.setBlock_keeps
    | with_reducible apply State.returnItem_keeps
    | with_reducible apply State.dropTransfers_keeps
    | with_reducible apply State.stopBlock_keeps
    | with_reducible apply State.regionNext_keeps
    | split
    | fail_if_no_progress refine Keeps.record ?_ rfl rfl rfl rfl rfl rfl rfl rfl rfl rfl rfl rfl rfl rfl rfl rfl rfl rfl rfl
    | dsimp only

theorem State.blockReset_keeps {ps : List Part} {s0 s : State} (h0 : Keeps ps s0 s) (r b : Nat) (_ : Part.tsc ∈ ps := by assumption) (_ : Part.out ∈ ps := by assumption) (_ : Part.dict ∈ ps := by assumption) (_ : Part.written ∈ ps := by assumption) (_ : Part.hier ∈ ps := by assumption) (_ : Part.mgr ∈ ps := by assumption) (_ : Part.time ∈ ps := by assumption) (_ : Part.tether ∈ ps := by assumption) (_ : Part.log ∈ ps := by assumption) (_ : Part.ports ∈ ps := by assumption) (_ : Part.echoes ∈ ps := by assumption) (_ : Part.lanes ∈ ps := by assumption) (_ : Part.spools ∈ ps := by assumption) (_ : Part.pages ∈ ps := by assumption) (_ : Part.routes ∈ ps := by assumption) (_ : Part.cells ∈ ps := by assumption) (_ : Part.trip ∈ ps := by assumption) (_ : Part.cipher ∈ ps := by assumption) (_ : Part.checkParts ∈ ps := by assumption) (_ : Part.ring ∈ ps := by assumption) (_ : Part.sensing ∈ ps := by assumption) (_ : Part.rst ∈ ps := by assumption) (_ : Part.sup ∈ ps := by assumption) : Keeps ps s0 (s.blockReset r b) := by
  unfold State.blockReset
  try dsimp only
  repeat' first
    | with_reducible exact h0
    | with_reducible assumption
    | with_reducible apply Keeps.ite
    | with_reducible apply State.blockDown_keeps
    | with_reducible apply State.setBlock_keeps
    | with_reducible apply State.bump_keeps
    | with_reducible apply State.event_keeps
    | with_reducible apply State.holdBlock_keeps
    | with_reducible apply State.regionNext_keeps
    | split
    | fail_if_no_progress refine Keeps.record ?_ rfl rfl rfl rfl rfl rfl rfl rfl rfl rfl rfl rfl rfl rfl rfl rfl rfl rfl rfl
    | dsimp only

theorem State.domainOn_keeps {ps : List Part} {s0 s : State} (h0 : Keeps ps s0 s) (d : Nat) (_ : Part.rst ∈ ps := by assumption) : Keeps ps s0 (s.domainOn d) := by
  unfold State.domainOn
  try dsimp only
  repeat' first
    | with_reducible exact h0
    | with_reducible assumption
    | with_reducible apply Keeps.ite
    | with_reducible apply State.setDomain_keeps
    | split
    | fail_if_no_progress refine Keeps.record ?_ rfl rfl rfl rfl rfl rfl rfl rfl rfl rfl rfl rfl rfl rfl rfl rfl rfl rfl rfl
    | dsimp only

theorem State.settleEmptyDomain_keeps {ps : List Part} {s0 s : State} (h0 : Keeps ps s0 s) (d : Nat) (_ : Part.rst ∈ ps := by assumption) : Keeps ps s0 (s.settleEmptyDomain d) := by
  unfold State.settleEmptyDomain
  repeat' first
    | with_reducible exact h0
    | with_reducible assumption
    | with_reducible apply Keeps.ite
    | with_reducible apply State.domainOn_keeps
    | split

theorem State.nextRelease_keeps {ps : List Part} {s0 s : State} (h0 : Keeps ps s0 s) (_ : Part.rst ∈ ps := by assumption) : Keeps ps s0 (s.nextRelease) := by
  unfold State.nextRelease
  extract_lets u v
  have hv : Keeps ps s0 v := State.advanceRelease_keeps (Keeps.each h0 fun _ _ => State.settleEmptyDomain_keeps (Keeps.refl _ _) _)
  split
  · split
    · clear_value v
      exact Keeps.record hv rfl rfl rfl rfl rfl rfl rfl rfl rfl rfl rfl rfl rfl rfl rfl rfl rfl rfl rfl
    · exact hv
  · exact hv

theorem State.restoreUnits_keeps {ps : List Part} {s0 s : State} (h0 : Keeps ps s0 s) (r b : Nat) (_ : Part.sup ∈ ps := by assumption) : Keeps ps s0 (s.restoreUnits r b) := by
  unfold State.restoreUnits
  try dsimp only
  repeat' first
    | with_reducible exact h0
    | with_reducible assumption
    | with_reducible exact Keeps.refl _ _
    | with_reducible apply Keeps.ite
    | with_reducible apply State.setUnit_keeps
    | (with_reducible apply Keeps.each) <;> try intro _ _
    | split
    | dsimp only

theorem State.restorePort_keeps {ps : List Part} {s0 s : State} (h0 : Keeps ps s0 s) (p : Nat) (_ : Part.ports ∈ ps := by assumption) : Keeps ps s0 (s.restorePort p) := by
  unfold State.restorePort
  try dsimp only
  repeat' first
    | with_reducible exact h0
    | with_reducible assumption
    | with_reducible apply Keeps.ite
    | with_reducible apply State.updPort_keeps
    | split
    | fail_if_no_progress refine Keeps.record ?_ rfl rfl rfl rfl rfl rfl rfl rfl rfl rfl rfl rfl rfl rfl rfl rfl rfl rfl rfl
    | dsimp only

theorem State.beginBlock_keeps {ps : List Part} {s0 s : State} (h0 : Keeps ps s0 s) (r b : Nat) (_ : Part.out ∈ ps := by assumption) (_ : Part.dict ∈ ps := by assumption) (_ : Part.tether ∈ ps := by assumption) (_ : Part.log ∈ ps := by assumption) (_ : Part.ports ∈ ps := by assumption) (_ : Part.echoes ∈ ps := by assumption) (_ : Part.lanes ∈ ps := by assumption) (_ : Part.spools ∈ ps := by assumption) (_ : Part.pages ∈ ps := by assumption) (_ : Part.routes ∈ ps := by assumption) (_ : Part.cells ∈ ps := by assumption) (_ : Part.trip ∈ ps := by assumption) (_ : Part.ring ∈ ps := by assumption) (_ : Part.sensing ∈ ps := by assumption) (_ : Part.rst ∈ ps := by assumption) (_ : Part.sup ∈ ps := by assumption) : Keeps ps s0 (s.beginBlock r b) := by
  unfold State.beginBlock
  try dsimp only
  repeat' first
    | with_reducible exact h0
    | with_reducible assumption
    | with_reducible apply Keeps.ite
    | with_reducible apply State.restorePort_keeps
    | with_reducible apply State.reloadRetries_keeps
    | with_reducible apply State.portPolicy_keeps
    | with_reducible apply State.settleRingPins_keeps
    | with_reducible apply State.startSensing_keeps
    | with_reducible apply State.settleCommand_keeps
    | split
    | fail_if_no_progress refine Keeps.record ?_ rfl rfl rfl rfl rfl rfl rfl rfl rfl rfl rfl rfl rfl rfl rfl rfl rfl rfl rfl
    | dsimp only

theorem State.failSelfTest_keeps {ps : List Part} {s0 s : State} (h0 : Keeps ps s0 s) (r b : Nat) (failed : List Nat) (_ : Part.hier ∈ ps := by assumption) (_ : Part.log ∈ ps := by assumption) (_ : Part.cipher ∈ ps := by assumption) (_ : Part.checkParts ∈ ps := by assumption) (_ : Part.sup ∈ ps := by assumption) : Keeps ps s0 (s.failSelfTest r b failed) := by
  unfold State.failSelfTest
  try dsimp only
  repeat' first
    | with_reducible exact h0
    | with_reducible assumption
    | with_reducible exact Keeps.refl _ _
    | with_reducible apply State.contain_keeps
    | (with_reducible apply Keeps.each) <;> try intro _ _
    | fail_if_no_progress refine Keeps.record ?_ rfl rfl rfl rfl rfl rfl rfl rfl rfl rfl rfl rfl rfl rfl rfl rfl rfl rfl rfl
    | dsimp only

theorem State.releaseBlock_keeps {ps : List Part} {s0 s : State} (h0 : Keeps ps s0 s) (r b : Nat) (failed : List Nat) (_ : Part.out ∈ ps := by assumption) (_ : Part.dict ∈ ps := by assumption) (_ : Part.hier ∈ ps := by assumption) (_ : Part.mgr ∈ ps := by assumption) (_ : Part.tether ∈ ps := by assumption) (_ : Part.log ∈ ps := by assumption) (_ : Part.ports ∈ ps := by assumption) (_ : Part.echoes ∈ ps := by assumption) (_ : Part.lanes ∈ ps := by assumption) (_ : Part.spools ∈ ps := by assumption) (_ : Part.pages ∈ ps := by assumption) (_ : Part.routes ∈ ps := by assumption) (_ : Part.cells ∈ ps := by assumption) (_ : Part.trip ∈ ps := by assumption) (_ : Part.cipher ∈ ps := by assumption) (_ : Part.checkParts ∈ ps := by assumption) (_ : Part.ring ∈ ps := by assumption) (_ : Part.sensing ∈ ps := by assumption) (_ : Part.rst ∈ ps := by assumption) (_ : Part.sup ∈ ps := by assumption) : Keeps ps s0 (s.releaseBlock r b failed) := by
  unfold State.releaseBlock
  try dsimp only
  repeat' first
    | with_reducible exact h0
    | with_reducible assumption
    | with_reducible apply Keeps.ite
    | with_reducible apply State.domainOn_keeps
    | with_reducible apply State.loadDeferred_keeps
    | with_reducible apply State.setBlock_keeps
    | with_reducible apply State.restoreUnits_keeps
    | with_reducible apply State.beginBlock_keeps
    | with_reducible apply State.regionNext_keeps
    | with_reducible apply State.failSelfTest_keeps
    | with_reducible apply State.nextRelease_keeps
    | split
    | fail_if_no_progress refine Keeps.record ?_ rfl rfl rfl rfl rfl rfl rfl rfl rfl rfl rfl rfl rfl rfl rfl rfl rfl rfl rfl
    | dsimp only

theorem State.domainDown_keeps {ps : List Part} {s0 s : State} (h0 : Keeps ps s0 s) (d : Nat) (st : BlockState) (_ : Part.out ∈ ps := by assumption) (_ : Part.dict ∈ ps := by assumption) (_ : Part.hier ∈ ps := by assumption) (_ : Part.tether ∈ ps := by assumption) (_ : Part.log ∈ ps := by assumption) (_ : Part.ports ∈ ps := by assumption) (_ : Part.echoes ∈ ps := by assumption) (_ : Part.lanes ∈ ps := by assumption) (_ : Part.spools ∈ ps := by assumption) (_ : Part.pages ∈ ps := by assumption) (_ : Part.routes ∈ ps := by assumption) (_ : Part.cells ∈ ps := by assumption) (_ : Part.trip ∈ ps := by assumption) (_ : Part.cipher ∈ ps := by assumption) (_ : Part.checkParts ∈ ps := by assumption) (_ : Part.ring ∈ ps := by assumption) (_ : Part.sensing ∈ ps := by assumption) (_ : Part.rst ∈ ps := by assumption) (_ : Part.sup ∈ ps := by assumption) : Keeps ps s0 (s.domainDown d st) := by
  unfold State.domainDown
  repeat' first
    | with_reducible exact h0
    | with_reducible assumption
    | with_reducible exact Keeps.refl _ _
    | with_reducible apply State.blockDown_keeps
    | (with_reducible apply Keeps.each) <;> try intro _ _
    | dsimp only

theorem State.domainOff_keeps {ps : List Part} {s0 s : State} (h0 : Keeps ps s0 s) (d : Nat) (_ : Part.out ∈ ps := by assumption) (_ : Part.dict ∈ ps := by assumption) (_ : Part.hier ∈ ps := by assumption) (_ : Part.tether ∈ ps := by assumption) (_ : Part.log ∈ ps := by assumption) (_ : Part.ports ∈ ps := by assumption) (_ : Part.echoes ∈ ps := by assumption) (_ : Part.lanes ∈ ps := by assumption) (_ : Part.spools ∈ ps := by assumption) (_ : Part.pages ∈ ps := by assumption) (_ : Part.routes ∈ ps := by assumption) (_ : Part.cells ∈ ps := by assumption) (_ : Part.trip ∈ ps := by assumption) (_ : Part.cipher ∈ ps := by assumption) (_ : Part.checkParts ∈ ps := by assumption) (_ : Part.ring ∈ ps := by assumption) (_ : Part.sensing ∈ ps := by assumption) (_ : Part.rst ∈ ps := by assumption) (_ : Part.sup ∈ ps := by assumption) : Keeps ps s0 (s.domainOff d) := by
  unfold State.domainOff
  try dsimp only
  repeat' first
    | with_reducible exact h0
    | with_reducible assumption
    | with_reducible apply State.setDomain_keeps
    | with_reducible apply State.domainDown_keeps
    | fail_if_no_progress refine Keeps.record ?_ rfl rfl rfl rfl rfl rfl rfl rfl rfl rfl rfl rfl rfl rfl rfl rfl rfl rfl rfl

theorem State.holdDomain_keeps {ps : List Part} {s0 s : State} (h0 : Keeps ps s0 s) (d : Nat) (_ : Part.tsc ∈ ps := by assumption) (_ : Part.out ∈ ps := by assumption) (_ : Part.dict ∈ ps := by assumption) (_ : Part.written ∈ ps := by assumption) (_ : Part.hier ∈ ps := by assumption) (_ : Part.mgr ∈ ps := by assumption) (_ : Part.time ∈ ps := by assumption) (_ : Part.tether ∈ ps := by assumption) (_ : Part.log ∈ ps := by assumption) (_ : Part.ports ∈ ps := by assumption) (_ : Part.echoes ∈ ps := by assumption) (_ : Part.lanes ∈ ps := by assumption) (_ : Part.spools ∈ ps := by assumption) (_ : Part.pages ∈ ps := by assumption) (_ : Part.routes ∈ ps := by assumption) (_ : Part.cells ∈ ps := by assumption) (_ : Part.trip ∈ ps := by assumption) (_ : Part.cipher ∈ ps := by assumption) (_ : Part.checkParts ∈ ps := by assumption) (_ : Part.ring ∈ ps := by assumption) (_ : Part.sensing ∈ ps := by assumption) (_ : Part.rst ∈ ps := by assumption) (_ : Part.sup ∈ ps := by assumption) : Keeps ps s0 (s.holdDomain d) := by
  unfold State.holdDomain
  repeat' first
    | with_reducible exact h0
    | with_reducible assumption
    | with_reducible exact Keeps.refl _ _
    | with_reducible apply Keeps.ite
    | with_reducible apply State.blockDown_keeps
    | with_reducible apply State.holdBlock_keeps
    | (with_reducible apply Keeps.each) <;> try intro _ _
    | split
    | dsimp only

theorem State.domainGood_keeps {ps : List Part} {s0 s : State} (h0 : Keeps ps s0 s) (d : Nat) (_ : Part.hier ∈ ps := by assumption) (_ : Part.rst ∈ ps := by assumption) : Keeps ps s0 (s.domainGood d) := by
  unfold State.domainGood
  try dsimp only
  repeat' first
    | with_reducible exact h0
    | with_reducible assumption
    | with_reducible exact Keeps.refl _ _
    | with_reducible apply Keeps.ite
    | with_reducible apply State.setDomain_keeps
    | with_reducible apply State.setBlock_keeps
    | with_reducible apply State.nextRelease_keeps
    | (with_reducible apply Keeps.each) <;> try intro _ _
    | split
    | fail_if_no_progress refine Keeps.record ?_ rfl rfl rfl rfl rfl rfl rfl rfl rfl rfl rfl rfl rfl rfl rfl rfl rfl rfl rfl
    | dsimp only

theorem State.clockFault_keeps {ps : List Part} {s0 s : State} (h0 : Keeps ps s0 s) (d : Nat) (_ : Part.dict ∈ ps := by assumption) (_ : Part.log ∈ ps := by assumption) : Keeps ps s0 (s.clockFault d) := by
  unfold State.clockFault
  repeat' first
    | with_reducible exact h0
    | with_reducible assumption
    | with_reducible apply State.bump_keeps
    | with_reducible apply State.event_keeps

theorem State.domainFault_keeps {ps : List Part} {s0 s : State} (h0 : Keeps ps s0 s) (d : Nat) (_ : Part.tsc ∈ ps := by assumption) (_ : Part.out ∈ ps := by assumption) (_ : Part.dict ∈ ps := by assumption) (_ : Part.written ∈ ps := by assumption) (_ : Part.hier ∈ ps := by assumption) (_ : Part.mgr ∈ ps := by assumption) (_ : Part.time ∈ ps := by assumption) (_ : Part.tether ∈ ps := by assumption) (_ : Part.log ∈ ps := by assumption) (_ : Part.ports ∈ ps := by assumption) (_ : Part.echoes ∈ ps := by assumption) (_ : Part.lanes ∈ ps := by assumption) (_ : Part.spools ∈ ps := by assumption) (_ : Part.pages ∈ ps := by assumption) (_ : Part.routes ∈ ps := by assumption) (_ : Part.cells ∈ ps := by assumption) (_ : Part.trip ∈ ps := by assumption) (_ : Part.cipher ∈ ps := by assumption) (_ : Part.checkParts ∈ ps := by assumption) (_ : Part.ring ∈ ps := by assumption) (_ : Part.sensing ∈ ps := by assumption) (_ : Part.rst ∈ ps := by assumption) (_ : Part.sup ∈ ps := by assumption) : Keeps ps s0 (s.domainFault d) := by
  unfold State.domainFault
  try dsimp only
  repeat' first
    | with_reducible exact h0
    | with_reducible assumption
    | with_reducible apply State.clockFault_keeps
    | with_reducible apply State.setDomain_keeps
    | with_reducible apply State.holdDomain_keeps
    | with_reducible apply State.nextRelease_keeps
    | fail_if_no_progress refine Keeps.record ?_ rfl rfl rfl rfl rfl rfl rfl rfl rfl rfl rfl rfl rfl rfl rfl rfl rfl rfl rfl

theorem State.settleDomains_keeps {ps : List Part} {s0 s : State} (h0 : Keeps ps s0 s)  (_ : Part.out ∈ ps := by assumption) (_ : Part.dict ∈ ps := by assumption) (_ : Part.hier ∈ ps := by assumption) (_ : Part.tether ∈ ps := by assumption) (_ : Part.log ∈ ps := by assumption) (_ : Part.ports ∈ ps := by assumption) (_ : Part.echoes ∈ ps := by assumption) (_ : Part.lanes ∈ ps := by assumption) (_ : Part.spools ∈ ps := by assumption) (_ : Part.pages ∈ ps := by assumption) (_ : Part.routes ∈ ps := by assumption) (_ : Part.cells ∈ ps := by assumption) (_ : Part.trip ∈ ps := by assumption) (_ : Part.cipher ∈ ps := by assumption) (_ : Part.checkParts ∈ ps := by assumption) (_ : Part.ring ∈ ps := by assumption) (_ : Part.sensing ∈ ps := by assumption) (_ : Part.rst ∈ ps := by assumption) (_ : Part.sup ∈ ps := by assumption) : Keeps ps s0 (s.settleDomains) := by
  unfold State.settleDomains
  try dsimp only
  repeat' first
    | with_reducible exact h0
    | with_reducible assumption
    | with_reducible exact Keeps.refl _ _
    | with_reducible apply Keeps.ite
    | with_reducible apply State.domainOff_keeps
    | with_reducible apply State.setDomain_keeps
    | (with_reducible apply Keeps.each) <;> try intro _ _
    | split
    | fail_if_no_progress refine Keeps.record ?_ rfl rfl rfl rfl rfl rfl rfl rfl rfl rfl rfl rfl rfl rfl rfl rfl rfl rfl rfl
    | dsimp only

/-! ## DictOps -/

theorem State.readEntry_keeps {ps : List Part} {s0 s : State} (h0 : Keeps ps s0 s) (key : Nat) (d : Desc) (staged : Bool) (_ : Part.free ∈ ps := by assumption) :
    Keeps ps s0 (s.readEntry key d staged).2 := by
  refine h0.trans ?_
  unfold State.readEntry
  repeat' first
    | exact Keeps.refl _ _
    | exact State.fresh_keeps (Keeps.refl _ _)
    | split

/-! ## Apply -/

theorem State.settleLane_keeps {ps : List Part} {s0 s : State} (h0 : Keeps ps s0 s) (old : State) (p l : Nat) (_ : Part.out ∈ ps := by assumption) (_ : Part.dict ∈ ps := by assumption) (_ : Part.lanes ∈ ps := by assumption) (_ : Part.spools ∈ ps := by assumption) (_ : Part.pages ∈ ps := by assumption) (_ : Part.cells ∈ ps := by assumption) : Keeps ps s0 (s.settleLane old p l) := by
  unfold State.settleLane
  try dsimp only
  repeat' first
    | with_reducible exact h0
    | with_reducible assumption
    | with_reducible apply Keeps.ite
    | with_reducible apply State.restartLane_keeps
    | with_reducible apply State.setTx_keeps
    | with_reducible apply State.relevel_keeps
    | split
    | fail_if_no_progress refine Keeps.record ?_ rfl rfl rfl rfl rfl rfl rfl rfl rfl rfl rfl rfl rfl rfl rfl rfl rfl rfl rfl
    | dsimp only

theorem State.settlePort_keeps {ps : List Part} {s0 s : State} (h0 : Keeps ps s0 s) (old : State) (p : Nat) (_ : Part.out ∈ ps := by assumption) (_ : Part.dict ∈ ps := by assumption) (_ : Part.log ∈ ps := by assumption) (_ : Part.ports ∈ ps := by assumption) (_ : Part.echoes ∈ ps := by assumption) (_ : Part.lanes ∈ ps := by assumption) (_ : Part.spools ∈ ps := by assumption) (_ : Part.pages ∈ ps := by assumption) (_ : Part.routes ∈ ps := by assumption) (_ : Part.cells ∈ ps := by assumption) (_ : Part.rst ∈ ps := by assumption) (_ : Part.sup ∈ ps := by assumption) : Keeps ps s0 (s.settlePort old p) := by
  unfold State.settlePort
  try dsimp only
  repeat' first
    | with_reducible exact h0
    | with_reducible assumption
    | with_reducible exact Keeps.refl _ _
    | with_reducible apply Keeps.ite
    | with_reducible apply State.settleLane_keeps
    | with_reducible apply State.portPolicy_keeps
    | with_reducible apply State.settleBands_keeps
    | with_reducible apply State.echoImpedance_keeps
    | with_reducible apply State.settlePortRx_keeps
    | (with_reducible apply Keeps.each) <;> try intro _ _
    | split
    | dsimp only

theorem State.settleProfile_keeps {ps : List Part} {s0 s : State} (h0 : Keeps ps s0 s) (old : State) (n : Nat) (_ : Part.mgr ∈ ps := by assumption) : Keeps ps s0 (s.settleProfile old n) := by
  unfold State.settleProfile
  try dsimp only
  repeat' first
    | with_reducible exact h0
    | with_reducible assumption
    | with_reducible apply Keeps.ite
    | split
    | fail_if_no_progress refine Keeps.record ?_ rfl rfl rfl rfl rfl rfl rfl rfl rfl rfl rfl rfl rfl rfl rfl rfl rfl rfl rfl
    | dsimp only

theorem State.settlePeers_keeps {ps : List Part} {s0 s : State} (h0 : Keeps ps s0 s)  (_ : Part.mgr ∈ ps := by assumption) : Keeps ps s0 (s.settlePeers) := by
  unfold State.settlePeers
  try dsimp only
  repeat' first
    | with_reducible exact h0
    | with_reducible assumption
    | with_reducible exact Keeps.refl _ _
    | with_reducible apply Keeps.ite
    | (with_reducible apply Keeps.each) <;> try intro _ _
    | split
    | fail_if_no_progress refine Keeps.record ?_ rfl rfl rfl rfl rfl rfl rfl rfl rfl rfl rfl rfl rfl rfl rfl rfl rfl rfl rfl
    | dsimp only

theorem State.settleTime_keeps {ps : List Part} {s0 s : State} (h0 : Keeps ps s0 s) (old : State) (_ : Part.time ∈ ps := by assumption) : Keeps ps s0 (s.settleTime old) := by
  unfold State.settleTime
  try dsimp only
  repeat' first
    | with_reducible exact h0
    | with_reducible assumption
    | with_reducible apply Keeps.ite
    | with_reducible apply State.chooseSource_keeps
    | with_reducible apply State.settlePpsOut_keeps
    | split
    | fail_if_no_progress refine Keeps.record ?_ rfl rfl rfl rfl rfl rfl rfl rfl rfl rfl rfl rfl rfl rfl rfl rfl rfl rfl rfl

theorem State.settleTether_keeps {ps : List Part} {s0 s : State} (h0 : Keeps ps s0 s) (old : State) (_ : Part.dict ∈ ps := by assumption) (_ : Part.tether ∈ ps := by assumption) : Keeps ps s0 (s.settleTether old) := by
  unfold State.settleTether
  repeat' first
    | with_reducible exact h0
    | with_reducible assumption
    | with_reducible apply Keeps.ite
    | with_reducible apply State.tetherCommit_keeps
    | split

theorem State.settleKeys_keeps {ps : List Part} {s0 s : State} (h0 : Keeps ps s0 s) (old : State) (_ : Part.routes ∈ ps := by assumption) (_ : Part.cells ∈ ps := by assumption) : Keeps ps s0 (s.settleKeys old) := by
  unfold State.settleKeys
  repeat' first
    | with_reducible exact h0
    | with_reducible assumption
    | with_reducible exact Keeps.refl _ _
    | with_reducible apply State.rekeyLink_keeps
    | (with_reducible apply Keeps.each) <;> try intro _ _
    | dsimp only

theorem State.settlePages_keeps {ps : List Part} {s0 s : State} (h0 : Keeps ps s0 s)  (_ : Part.pages ∈ ps := by assumption) : Keeps ps s0 (s.settlePages) := by
  unfold State.settlePages
  try dsimp only
  repeat' first
    | with_reducible exact h0
    | with_reducible assumption
    | with_reducible exact Keeps.refl _ _
    | with_reducible apply State.setPage_keeps
    | (with_reducible apply Keeps.each) <;> try intro _ _
    | fail_if_no_progress refine Keeps.record ?_ rfl rfl rfl rfl rfl rfl rfl rfl rfl rfl rfl rfl rfl rfl rfl rfl rfl rfl rfl
    | dsimp only

theorem State.applyConfig_keeps {ps : List Part} {s0 s : State} (h0 : Keeps ps s0 s) (old : State) (_ : Part.out ∈ ps := by assumption) (_ : Part.dict ∈ ps := by assumption) (_ : Part.hier ∈ ps := by assumption) (_ : Part.mgr ∈ ps := by assumption) (_ : Part.time ∈ ps := by assumption) (_ : Part.tether ∈ ps := by assumption) (_ : Part.log ∈ ps := by assumption) (_ : Part.ports ∈ ps := by assumption) (_ : Part.echoes ∈ ps := by assumption) (_ : Part.lanes ∈ ps := by assumption) (_ : Part.spools ∈ ps := by assumption) (_ : Part.pages ∈ ps := by assumption) (_ : Part.routes ∈ ps := by assumption) (_ : Part.cells ∈ ps := by assumption) (_ : Part.trip ∈ ps := by assumption) (_ : Part.cipher ∈ ps := by assumption) (_ : Part.checkParts ∈ ps := by assumption) (_ : Part.ring ∈ ps := by assumption) (_ : Part.sensing ∈ ps := by assumption) (_ : Part.rst ∈ ps := by assumption) (_ : Part.sup ∈ ps := by assumption) : Keeps ps s0 (s.applyConfig old) := by
  unfold State.applyConfig
  try dsimp only
  repeat' first
    | with_reducible exact h0
    | with_reducible assumption
    | with_reducible exact Keeps.refl _ _
    | with_reducible apply State.settleTime_keeps
    | with_reducible apply State.settleTether_keeps
    | with_reducible apply State.settlePeers_keeps
    | with_reducible apply State.settleDomains_keeps
    | with_reducible apply State.settlePages_keeps
    | with_reducible apply State.settlePort_keeps
    | with_reducible apply State.settleProfile_keeps
    | with_reducible apply State.settleKeys_keeps
    | with_reducible apply State.settleSensing_keeps
    | with_reducible apply State.ringTick_keeps
    | with_reducible apply State.settleCommand_keeps
    | (with_reducible apply Keeps.each) <;> try intro _ _
    | dsimp only

theorem State.digestsStale_keeps {ps : List Part} {s0 s : State} (h0 : Keeps ps s0 s)  (_ : Part.mgr ∈ ps := by assumption) : Keeps ps s0 (s.digestsStale) := by
  unfold State.digestsStale
  try dsimp only
  repeat' first
    | with_reducible exact h0
    | with_reducible assumption
    | fail_if_no_progress refine Keeps.record ?_ rfl rfl rfl rfl rfl rfl rfl rfl rfl rfl rfl rfl rfl rfl rfl rfl rfl rfl rfl

theorem State.logCommit_keeps {ps : List Part} {s0 s : State} (h0 : Keeps ps s0 s)  (_ : Part.log ∈ ps := by assumption) : Keeps ps s0 (s.logCommit) := by
  unfold State.logCommit
  repeat' first
    | with_reducible exact h0
    | with_reducible assumption
    | with_reducible apply State.event_keeps

theorem State.bumpEpoch_keeps {ps : List Part} {s0 s : State} (h0 : Keeps ps s0 s) (_ : Part.mgr ∈ ps := by assumption) (_ : Part.log ∈ ps := by assumption) : Keeps ps s0 (s.bumpEpoch) := by
  unfold State.bumpEpoch
  exact State.logCommit_keeps (State.digestsStale_keeps
    (Keeps.record h0 rfl rfl rfl rfl rfl rfl rfl rfl rfl rfl rfl rfl rfl rfl rfl rfl rfl rfl rfl))

theorem State.commitValues_keeps {ps : List Part} {s0 s : State} (h0 : Keeps ps s0 s) (l : Table Bytes) (_ : Part.dict ∈ ps := by assumption) (_ : Part.mgr ∈ ps := by assumption) : Keeps ps s0 (s.commitValues l) := by
  unfold State.commitValues
  repeat' first
    | with_reducible exact h0
    | with_reducible assumption
    | with_reducible exact Keeps.refl _ _
    | with_reducible apply State.commitValue_keeps
    | (with_reducible apply Keeps.each) <;> try intro _ _
    | dsimp only

theorem State.loadWritten_keeps {ps : List Part} {s0 s : State} (h0 : Keeps ps s0 s) (_ : Part.out ∈ ps := by assumption) (_ : Part.dict ∈ ps := by assumption) (_ : Part.written ∈ ps := by assumption) (_ : Part.hier ∈ ps := by assumption) (_ : Part.mgr ∈ ps := by assumption) (_ : Part.time ∈ ps := by assumption) (_ : Part.tether ∈ ps := by assumption) (_ : Part.log ∈ ps := by assumption) (_ : Part.ports ∈ ps := by assumption) (_ : Part.echoes ∈ ps := by assumption) (_ : Part.lanes ∈ ps := by assumption) (_ : Part.spools ∈ ps := by assumption) (_ : Part.pages ∈ ps := by assumption) (_ : Part.routes ∈ ps := by assumption) (_ : Part.cells ∈ ps := by assumption) (_ : Part.trip ∈ ps := by assumption) (_ : Part.cipher ∈ ps := by assumption) (_ : Part.checkParts ∈ ps := by assumption) (_ : Part.ring ∈ ps := by assumption) (_ : Part.sensing ∈ ps := by assumption) (_ : Part.rst ∈ ps := by assumption) (_ : Part.sup ∈ ps := by assumption) : Keeps ps s0 (s.loadWritten) := by
  unfold State.loadWritten
  split
  · exact h0
  · dsimp only
    refine State.applyConfig_keeps ?_ _
    have hw : ∀ u : State, Keeps ps s0 u → Keeps ps s0 { u with written := [], mgr := { u.mgr with bumps := 0 } } := fun u h =>
      h.trans ⟨rfl, rfl, .inl rfl, fun c => { c with written := rfl }, fun p hp => by cases p <;> first | exact absurd (by assumption) hp | rfl⟩
    apply Keeps.each
    · exact hw _ (State.commitValues_keeps (State.overlay_keeps h0 _) _)
    · exact fun v _ => State.bumpEpoch_keeps (Keeps.refl _ _)

theorem State.activateCommit_keeps {ps : List Part} {s0 s : State} (h0 : Keeps ps s0 s)  (_ : Part.out ∈ ps := by assumption) (_ : Part.dict ∈ ps := by assumption) (_ : Part.hier ∈ ps := by assumption) (_ : Part.mgr ∈ ps := by assumption) (_ : Part.time ∈ ps := by assumption) (_ : Part.tether ∈ ps := by assumption) (_ : Part.log ∈ ps := by assumption) (_ : Part.ports ∈ ps := by assumption) (_ : Part.echoes ∈ ps := by assumption) (_ : Part.lanes ∈ ps := by assumption) (_ : Part.spools ∈ ps := by assumption) (_ : Part.pages ∈ ps := by assumption) (_ : Part.routes ∈ ps := by assumption) (_ : Part.cells ∈ ps := by assumption) (_ : Part.trip ∈ ps := by assumption) (_ : Part.cipher ∈ ps := by assumption) (_ : Part.checkParts ∈ ps := by assumption) (_ : Part.ring ∈ ps := by assumption) (_ : Part.sensing ∈ ps := by assumption) (_ : Part.rst ∈ ps := by assumption) (_ : Part.sup ∈ ps := by assumption) : Keeps ps s0 (s.activateCommit) := by
  unfold State.activateCommit
  try dsimp only
  repeat' first
    | with_reducible exact h0
    | with_reducible assumption
    | with_reducible apply Keeps.ite
    | with_reducible apply State.commitValues_keeps
    | with_reducible apply State.bumpEpoch_keeps
    | with_reducible apply State.applyConfig_keeps
    | split
    | fail_if_no_progress refine Keeps.record ?_ rfl rfl rfl rfl rfl rfl rfl rfl rfl rfl rfl rfl rfl rfl rfl rfl rfl rfl rfl
    | dsimp only

end Sys2Proof.Machine
end

