-- ==== Sys2Proof/Laws/KeepsCommands.lean ====
section
/-! SUPPORT. What every operation keeps (Keeps.lean): events, the manager, registers, boot, supervision, the beat, and the operations of single commands. -/

set_option Elab.async false

set_option linter.unusedTactic false
set_option linter.unreachableTactic false

namespace Sys2Proof.Machine

/-! ## EventOps -/

theorem State.mailRecord_keeps {ps : List Part} {s0 s : State} (h0 : Keeps ps s0 s) (r : LogRecord) (f : Nat) (_ : Part.out ∈ ps := by assumption) (_ : Part.pages ∈ ps := by assumption) : Keeps ps s0 (s.mailRecord r f) := by
  unfold State.mailRecord
  try dsimp only
  repeat' first
    | with_reducible exact h0
    | with_reducible assumption
    | with_reducible apply Keeps.ite
    | with_reducible apply State.setPage_keeps
    | with_reducible apply State.emit_keeps
    | split
    | fail_if_no_progress refine Keeps.record ?_ rfl rfl rfl rfl rfl rfl rfl rfl rfl rfl rfl rfl rfl rfl rfl rfl rfl rfl rfl
    | dsimp only

theorem State.writeRecord_keeps {ps : List Part} {s0 s : State} (h0 : Keeps ps s0 s) (r : LogRecord) (_ : Part.out ∈ ps := by assumption) (_ : Part.log ∈ ps := by assumption) (_ : Part.pages ∈ ps := by assumption) : Keeps ps s0 (s.writeRecord r) := by
  unfold State.writeRecord
  try dsimp only
  repeat' first
    | with_reducible exact h0
    | with_reducible assumption
    | with_reducible exact Keeps.refl _ _
    | with_reducible apply Keeps.ite
    | with_reducible apply State.mailRecord_keeps
    | (with_reducible apply Keeps.each) <;> try intro _ _
    | split
    | fail_if_no_progress refine Keeps.record ?_ rfl rfl rfl rfl rfl rfl rfl rfl rfl rfl rfl rfl rfl rfl rfl rfl rfl rfl rfl
    | dsimp only

theorem State.flushStage_keeps {ps : List Part} {s0 s : State} (h0 : Keeps ps s0 s)  (_ : Part.out ∈ ps := by assumption) (_ : Part.log ∈ ps := by assumption) (_ : Part.pages ∈ ps := by assumption) : Keeps ps s0 (s.flushStage) := by
  unfold State.flushStage
  try dsimp only
  repeat' first
    | with_reducible exact h0
    | with_reducible assumption
    | with_reducible exact Keeps.refl _ _
    | with_reducible apply State.writeRecord_keeps
    | (with_reducible apply Keeps.each) <;> try intro _ _
    | fail_if_no_progress refine Keeps.record ?_ rfl rfl rfl rfl rfl rfl rfl rfl rfl rfl rfl rfl rfl rfl rfl rfl rfl rfl rfl
    | dsimp only

theorem State.deliverEvent_keeps {ps : List Part} {s0 s : State} (h0 : Keeps ps s0 s) (e : EventIn) (_ : Part.out ∈ ps := by assumption) (_ : Part.dict ∈ ps := by assumption) (_ : Part.log ∈ ps := by assumption) (_ : Part.pages ∈ ps := by assumption) : Keeps ps s0 (s.deliverEvent e) := by
  unfold State.deliverEvent
  try dsimp only
  repeat' first
    | with_reducible exact h0
    | with_reducible assumption
    | with_reducible apply Keeps.ite
    | with_reducible apply State.flushStage_keeps
    | with_reducible apply State.writeRecord_keeps
    | with_reducible apply State.bump_keeps
    | split
    | fail_if_no_progress refine Keeps.record ?_ rfl rfl rfl rfl rfl rfl rfl rfl rfl rfl rfl rfl rfl rfl rfl rfl rfl rfl rfl
    | dsimp only

/-! ## FabricOps -/

theorem State.grantSlot_keeps {ps : List Part} {s0 s : State} (h0 : Keeps ps s0 s) (target slot : Nat) (_ : Part.hier ∈ ps := by assumption) : Keeps ps s0 (s.grantSlot target slot) := by
  unfold State.grantSlot
  try dsimp only
  repeat' first
    | with_reducible exact h0
    | with_reducible assumption
    | with_reducible apply State.setBlock_keeps
    | split
    | fail_if_no_progress refine Keeps.record ?_ rfl rfl rfl rfl rfl rfl rfl rfl rfl rfl rfl rfl rfl rfl rfl rfl rfl rfl rfl
    | dsimp only

theorem State.grantTarget_keeps {ps : List Part} {s0 s : State} (h0 : Keeps ps s0 s) (target : Nat) (_ : Part.hier ∈ ps := by assumption) : Keeps ps s0 (s.grantTarget target) := by
  unfold State.grantTarget
  repeat' first
    | with_reducible exact h0
    | with_reducible assumption
    | with_reducible exact Keeps.refl _ _
    | with_reducible apply State.grantSlot_keeps
    | (with_reducible apply Keeps.each) <;> try intro _ _
    | dsimp only

theorem State.fabricTick_keeps {ps : List Part} {s0 s : State} (h0 : Keeps ps s0 s)  (_ : Part.hier ∈ ps := by assumption) : Keeps ps s0 (s.fabricTick) := by
  unfold State.fabricTick
  try dsimp only
  repeat' first
    | with_reducible exact h0
    | with_reducible assumption
    | with_reducible exact Keeps.refl _ _
    | with_reducible apply State.grantTarget_keeps
    | (with_reducible apply Keeps.each) <;> try intro _ _
    | fail_if_no_progress refine Keeps.record ?_ rfl rfl rfl rfl rfl rfl rfl rfl rfl rfl rfl rfl rfl rfl rfl rfl rfl rfl rfl
    | dsimp only

theorem State.askTransfers_keeps {ps : List Part} {s0 s : State} (h0 : Keeps ps s0 s) (r b : Nat) (l : List Transfer) (_ : Part.hier ∈ ps := by assumption) : Keeps ps s0 (s.askTransfers r b l) := by
  unfold State.askTransfers
  try dsimp only
  repeat' first
    | with_reducible exact h0
    | with_reducible assumption
    | fail_if_no_progress refine Keeps.record ?_ rfl rfl rfl rfl rfl rfl rfl rfl rfl rfl rfl rfl rfl rfl rfl rfl rfl rfl rfl
    | dsimp only

/-! ## Check -/

theorem State.checkCtrlWrite_keeps {ps : List Part} {s0 s : State} (h0 : Keeps ps s0 s) (f ctx : Nat) (w : Word32) (_ : Part.pages ∈ ps := by assumption) : Keeps ps s0 (s.checkCtrlWrite f ctx w) := by
  unfold State.checkCtrlWrite
  try dsimp only
  repeat' first
    | with_reducible exact h0
    | with_reducible assumption
    | with_reducible apply Keeps.ite
    | with_reducible apply State.setCheck_keeps
    | split
    | fail_if_no_progress refine Keeps.record ?_ rfl rfl rfl rfl rfl rfl rfl rfl rfl rfl rfl rfl rfl rfl rfl rfl rfl rfl rfl
    | dsimp only

theorem State.checkValueWrite_keeps {ps : List Part} {s0 s : State} (h0 : Keeps ps s0 s) (f ctx : Nat) (high : Bool) (w : Word32) (_ : Part.pages ∈ ps := by assumption) : Keeps ps s0 (s.checkValueWrite f ctx high w) := by
  unfold State.checkValueWrite
  try dsimp only
  repeat' first
    | with_reducible exact h0
    | with_reducible assumption
    | with_reducible apply Keeps.ite
    | with_reducible apply State.setCheck_keeps
    | split
    | fail_if_no_progress refine Keeps.record ?_ rfl rfl rfl rfl rfl rfl rfl rfl rfl rfl rfl rfl rfl rfl rfl rfl rfl rfl rfl
    | dsimp only

/-! ## Cipher -/

theorem State.abortCtxs_keeps {ps : List Part} {s0 s : State} (h0 : Keeps ps s0 s) (f : Nat) (w : Word32) (_ : Part.out ∈ ps := by assumption) (_ : Part.dict ∈ ps := by assumption) (_ : Part.pages ∈ ps := by assumption) (_ : Part.cipher ∈ ps := by assumption) : Keeps ps s0 (s.abortCtxs f w) := by
  unfold State.abortCtxs
  try dsimp only
  repeat' first
    | with_reducible exact h0
    | with_reducible assumption
    | with_reducible exact Keeps.refl _ _
    | with_reducible apply State.failJob_keeps
    | with_reducible apply State.closeCtx_keeps
    | (with_reducible apply Keeps.each) <;> try intro _ _
    | dsimp only

/-! ## Windows -/

theorem State.applyRecord_keeps {ps : List Part} {s0 s : State} (h0 : Keeps ps s0 s) (q : WindowRecord) (_ : Part.out ∈ ps := by assumption) (_ : Part.lanes ∈ ps := by assumption) (_ : Part.spools ∈ ps := by assumption) (_ : Part.pages ∈ ps := by assumption) (_ : Part.routes ∈ ps := by assumption) : Keeps ps s0 (s.applyRecord q) := by
  unfold State.applyRecord
  try dsimp only
  repeat' first
    | with_reducible exact h0
    | with_reducible assumption
    | with_reducible apply Keeps.ite
    | with_reducible apply State.writeRoute_keeps
    | with_reducible apply State.spoolOff_keeps
    | with_reducible apply State.spoolFlushOp_keeps
    | with_reducible apply State.spoolOn_keeps
    | with_reducible apply State.releaseBy_keeps
    | with_reducible apply State.offsetBy_keeps
    | split
    | fail_if_no_progress refine Keeps.record ?_ rfl rfl rfl rfl rfl rfl rfl rfl rfl rfl rfl rfl rfl rfl rfl rfl rfl rfl rfl
    | dsimp only

theorem State.applyRecords_keeps {ps : List Part} {s0 s : State} (h0 : Keeps ps s0 s)  (_ : Part.out ∈ ps := by assumption) (_ : Part.dict ∈ ps := by assumption) (_ : Part.mgr ∈ ps := by assumption) (_ : Part.lanes ∈ ps := by assumption) (_ : Part.spools ∈ ps := by assumption) (_ : Part.pages ∈ ps := by assumption) (_ : Part.routes ∈ ps := by assumption) : Keeps ps s0 (s.applyRecords) := by
  unfold State.applyRecords
  try dsimp only
  repeat' first
    | with_reducible exact h0
    | with_reducible assumption
    | with_reducible exact Keeps.refl _ _
    | with_reducible apply State.applyRecord_keeps
    | with_reducible apply State.applyUpdates_keeps
    | (with_reducible apply Keeps.each) <;> try intro _ _
    | fail_if_no_progress refine Keeps.record ?_ rfl rfl rfl rfl rfl rfl rfl rfl rfl rfl rfl rfl rfl rfl rfl rfl rfl rfl rfl
    | dsimp only

/-! ## ManagerOps -/

theorem State.noteSeq_keeps {ps : List Part} {s0 s : State} (h0 : Keeps ps s0 s) (i : Nat) (m : Bytes) (_ : Part.mgr ∈ ps := by assumption) : Keeps ps s0 (s.noteSeq i m) := by
  unfold State.noteSeq
  try dsimp only
  repeat' first
    | with_reducible exact h0
    | with_reducible assumption
    | with_reducible apply Keeps.ite
    | split
    | fail_if_no_progress refine Keeps.record ?_ rfl rfl rfl rfl rfl rfl rfl rfl rfl rfl rfl rfl rfl rfl rfl rfl rfl rfl rfl

theorem State.sendPeer_keeps {ps : List Part} {s0 s : State} (h0 : Keeps ps s0 s) (i mac type txn : Nat) (tagged : Bool) (body : Bytes) (_ : Part.out ∈ ps := by assumption) (_ : Part.mgr ∈ ps := by assumption) (_ : Part.ring ∈ ps := by assumption) : Keeps ps s0 (s.sendPeer i mac type txn tagged body) := by
  unfold State.sendPeer
  try dsimp only
  repeat' first
    | with_reducible exact h0
    | with_reducible assumption
    | with_reducible apply Keeps.ite
    | with_reducible apply State.sendMessage_keeps
    | split
    | fail_if_no_progress refine Keeps.record ?_ rfl rfl rfl rfl rfl rfl rfl rfl rfl rfl rfl rfl rfl rfl rfl rfl rfl rfl rfl
    | dsimp only

theorem State.mailboxDone_keeps {ps : List Part} {s0 s : State} (h0 : Keeps ps s0 s) (f : Nat) (m : Bytes) (_ : Part.out ∈ ps := by assumption) (_ : Part.pages ∈ ps := by assumption) : Keeps ps s0 (s.mailboxDone f m) := by
  unfold State.mailboxDone
  try dsimp only
  repeat' first
    | with_reducible exact h0
    | with_reducible assumption
    | with_reducible apply Keeps.ite
    | with_reducible apply State.setPage_keeps
    | with_reducible apply State.emit_keeps
    | split
    | fail_if_no_progress refine Keeps.record ?_ rfl rfl rfl rfl rfl rfl rfl rfl rfl rfl rfl rfl rfl rfl rfl rfl rfl rfl rfl
    | dsimp only

theorem State.respond_keeps {ps : List Part} {s0 s : State} (h0 : Keeps ps s0 s) (r : Request) (status : Nat) (rest : Bytes) (_ : Part.out ∈ ps := by assumption) (_ : Part.mgr ∈ ps := by assumption) (_ : Part.pages ∈ ps := by assumption) (_ : Part.ring ∈ ps := by assumption) : Keeps ps s0 (s.respond r status rest) := by
  unfold State.respond
  try dsimp only
  repeat' first
    | with_reducible exact h0
    | with_reducible assumption
    | with_reducible apply Keeps.ite
    | with_reducible apply State.mailboxDone_keeps
    | with_reducible apply State.sendPeer_keeps
    | split
    | dsimp only

theorem State.refuse_keeps {ps : List Part} {s0 s : State} (h0 : Keeps ps s0 s) (r : Request) (code failing : Nat) (_ : Part.out ∈ ps := by assumption) (_ : Part.mgr ∈ ps := by assumption) (_ : Part.pages ∈ ps := by assumption) (_ : Part.ring ∈ ps := by assumption) : Keeps ps s0 (s.refuse r code failing) := by
  unfold State.refuse
  repeat' first
    | with_reducible exact h0
    | with_reducible assumption
    | with_reducible apply State.respond_keeps

theorem State.mailboxGo_keeps {ps : List Part} {s0 s : State} (h0 : Keeps ps s0 s) (f : Nat) (_ : Part.out ∈ ps := by assumption) (_ : Part.mgr ∈ ps := by assumption) (_ : Part.pages ∈ ps := by assumption) (_ : Part.ring ∈ ps := by assumption) : Keeps ps s0 (s.mailboxGo f) := by
  unfold State.mailboxGo
  try dsimp only
  repeat' first
    | with_reducible exact h0
    | with_reducible assumption
    | with_reducible apply Keeps.ite
    | with_reducible apply State.setPage_keeps
    | with_reducible apply State.refuse_keeps
    | split
    | fail_if_no_progress refine Keeps.record ?_ rfl rfl rfl rfl rfl rfl rfl rfl rfl rfl rfl rfl rfl rfl rfl rfl rfl rfl rfl
    | dsimp only

theorem State.mailboxWrite_keeps {ps : List Part} {s0 s : State} (h0 : Keeps ps s0 s) (f : Nat) (w : Word32) (_ : Part.out ∈ ps := by assumption) (_ : Part.mgr ∈ ps := by assumption) (_ : Part.pages ∈ ps := by assumption) (_ : Part.ring ∈ ps := by assumption) : Keeps ps s0 (s.mailboxWrite f w) := by
  unfold State.mailboxWrite
  try dsimp only
  repeat' first
    | with_reducible exact h0
    | with_reducible assumption
    | with_reducible apply Keeps.ite
    | with_reducible apply State.setPage_keeps
    | with_reducible apply State.mailboxGo_keeps
    | split
    | fail_if_no_progress refine Keeps.record ?_ rfl rfl rfl rfl rfl rfl rfl rfl rfl rfl rfl rfl rfl rfl rfl rfl rfl rfl rfl
    | dsimp only

theorem State.dropMessage_keeps {ps : List Part} {s0 s : State} (h0 : Keeps ps s0 s)  (_ : Part.dict ∈ ps := by assumption) : Keeps ps s0 (s.dropMessage) := by
  unfold State.dropMessage
  repeat' first
    | with_reducible exact h0
    | with_reducible assumption
    | with_reducible apply State.bump_keeps

theorem State.ringRequest_keeps {ps : List Part} {s0 s : State} (h0 : Keeps ps s0 s) (mac : Nat) (m : Bytes) (_ : Part.out ∈ ps := by assumption) (_ : Part.dict ∈ ps := by assumption) (_ : Part.mgr ∈ ps := by assumption) (_ : Part.pages ∈ ps := by assumption) (_ : Part.ring ∈ ps := by assumption) : Keeps ps s0 (s.ringRequest mac m) := by
  unfold State.ringRequest
  try dsimp only
  repeat' first
    | with_reducible exact h0
    | with_reducible assumption
    | with_reducible apply Keeps.ite
    | with_reducible apply State.dropMessage_keeps
    | with_reducible apply State.refuse_keeps
    | with_reducible apply State.noteSeq_keeps
    | split
    | fail_if_no_progress refine Keeps.record ?_ rfl rfl rfl rfl rfl rfl rfl rfl rfl rfl rfl rfl rfl rfl rfl rfl rfl rfl rfl
    | dsimp only

theorem State.ringAnnounce_keeps {ps : List Part} {s0 s : State} (h0 : Keeps ps s0 s) (mac : Nat) (m : Bytes) (_ : Part.dict ∈ ps := by assumption) (_ : Part.mgr ∈ ps := by assumption) (_ : Part.log ∈ ps := by assumption) : Keeps ps s0 (s.ringAnnounce mac m) := by
  unfold State.ringAnnounce
  try dsimp only
  repeat' first
    | with_reducible exact h0
    | with_reducible assumption
    | with_reducible apply Keeps.ite
    | with_reducible apply State.dropMessage_keeps
    | with_reducible apply State.noteSeq_keeps
    | with_reducible apply State.compareReport_keeps
    | split
    | fail_if_no_progress refine Keeps.record ?_ rfl rfl rfl rfl rfl rfl rfl rfl rfl rfl rfl rfl rfl rfl rfl rfl rfl rfl rfl
    | dsimp only

theorem State.takeNext_keeps {ps : List Part} {s0 s : State} (h0 : Keeps ps s0 s) (k : Nat) (_ : Part.mgr ∈ ps := by assumption) (_ : Part.pages ∈ ps := by assumption) : Keeps ps s0 (s.takeNext k) := by
  unfold State.takeNext
  try dsimp only
  repeat' first
    | with_reducible exact h0
    | with_reducible assumption
    | with_reducible apply Keeps.ite
    | with_reducible apply State.setPage_keeps
    | split
    | fail_if_no_progress refine Keeps.record ?_ rfl rfl rfl rfl rfl rfl rfl rfl rfl rfl rfl rfl rfl rfl rfl rfl rfl rfl rfl
    | dsimp only

theorem State.setBank_keeps {ps : List Part} {s0 s : State} (h0 : Keeps ps s0 s) (b : Nat) (x : Bank) (_ : Part.rst ∈ ps := by assumption) : Keeps ps s0 (s.setBank b x) := by
  unfold State.setBank
  try dsimp only
  repeat' first
    | with_reducible exact h0
    | with_reducible assumption
    | with_reducible apply Keeps.ite
    | split
    | fail_if_no_progress refine Keeps.record ?_ rfl rfl rfl rfl rfl rfl rfl rfl rfl rfl rfl rfl rfl rfl rfl rfl rfl rfl rfl

theorem State.accept_keeps {ps : List Part} {s0 s : State} (h0 : Keeps ps s0 s) (who : Nat) (found : Option BankCheck) (w : WriteRec) (_ : Part.written ∈ ps := by assumption) (_ : Part.mgr ∈ ps := by assumption) (_ : Part.time ∈ ps := by assumption) (_ : Part.rst ∈ ps := by assumption) :
    Keeps ps s0 (s.accept who found w) := by
  unfold State.accept
  have hw : ∀ m, Keeps ps s0 { s with written := Table.insert s.written w.key w.value, mgr := m } := fun m =>
    h0.trans ⟨rfl, rfl, .inl rfl, fun c => { c with written := Table.rising_insert _ _ c.written },
      fun p hp => by cases p <;> first | exact absurd (by assumption) hp | rfl⟩
  dsimp only
  repeat' first
    | exact hw _
    | exact Keeps.record h0 rfl rfl rfl rfl rfl rfl rfl rfl rfl rfl rfl rfl rfl rfl rfl rfl rfl rfl rfl
    | split

theorem State.noteImage_keeps {ps : List Part} {s0 s : State} (h0 : Keeps ps s0 s) (w : WriteRec) (code : Nat) (_ : Part.dict ∈ ps := by assumption) : Keeps ps s0 (s.noteImage w code) := by
  unfold State.noteImage
  repeat' first
    | with_reducible exact h0
    | with_reducible assumption
    | with_reducible apply Keeps.ite
    | with_reducible apply State.setVal_keeps
    | split

theorem State.performWrite_keeps {ps : List Part} {s0 s : State} (h0 : Keeps ps s0 s) (r : Request) (found : Option BankCheck) (_ : Part.out ∈ ps := by assumption) (_ : Part.dict ∈ ps := by assumption) (_ : Part.written ∈ ps := by assumption) (_ : Part.mgr ∈ ps := by assumption) (_ : Part.time ∈ ps := by assumption) (_ : Part.pages ∈ ps := by assumption) (_ : Part.ring ∈ ps := by assumption) (_ : Part.rst ∈ ps := by assumption) : Keeps ps s0 (s.performWrite r found) := by
  unfold State.performWrite
  try dsimp only
  repeat' first
    | with_reducible exact h0
    | with_reducible assumption
    | with_reducible exact Keeps.refl _ _
    | with_reducible apply Keeps.ite
    | with_reducible apply State.setVal_keeps
    | with_reducible apply State.noteImage_keeps
    | with_reducible apply State.refuse_keeps
    | with_reducible apply State.accept_keeps
    | with_reducible apply State.respond_keeps
    | (with_reducible apply Keeps.each) <;> try intro _ _
    | split
    | fail_if_no_progress refine Keeps.record ?_ rfl rfl rfl rfl rfl rfl rfl rfl rfl rfl rfl rfl rfl rfl rfl rfl rfl rfl rfl
    | dsimp only

theorem State.performCommit_keeps {ps : List Part} {s0 s : State} (h0 : Keeps ps s0 s) (r : Request) (_ : Part.out ∈ ps := by assumption) (_ : Part.dict ∈ ps := by assumption) (_ : Part.mgr ∈ ps := by assumption) (_ : Part.pages ∈ ps := by assumption) (_ : Part.ring ∈ ps := by assumption) : Keeps ps s0 (s.performCommit r) := by
  unfold State.performCommit
  try dsimp only
  repeat' first
    | with_reducible exact h0
    | with_reducible assumption
    | with_reducible apply Keeps.ite
    | with_reducible apply State.setVal_keeps
    | with_reducible apply State.refuse_keeps
    | with_reducible apply State.overlay_keeps
    | split
    | fail_if_no_progress refine Keeps.record ?_ rfl rfl rfl rfl rfl rfl rfl rfl rfl rfl rfl rfl rfl rfl rfl rfl rfl rfl rfl
    | dsimp only

theorem State.performAbort_keeps {ps : List Part} {s0 s : State} (h0 : Keeps ps s0 s) (r : Request) (_ : Part.out ∈ ps := by assumption) (_ : Part.mgr ∈ ps := by assumption) (_ : Part.pages ∈ ps := by assumption) (_ : Part.ring ∈ ps := by assumption) : Keeps ps s0 (s.performAbort r) := by
  unfold State.performAbort
  try dsimp only
  repeat' first
    | with_reducible exact h0
    | with_reducible assumption
    | with_reducible apply State.refuse_keeps
    | with_reducible apply State.respond_keeps
    | split
    | fail_if_no_progress refine Keeps.record ?_ rfl rfl rfl rfl rfl rfl rfl rfl rfl rfl rfl rfl rfl rfl rfl rfl rfl rfl rfl
    | dsimp only

theorem State.performRead_keeps {ps : List Part} {s0 s : State} (h0 : Keeps ps s0 s) (r : Request) (_ : Part.free ∈ ps := by assumption) (_ : Part.out ∈ ps := by assumption) (_ : Part.mgr ∈ ps := by assumption) (_ : Part.pages ∈ ps := by assumption) (_ : Part.ring ∈ ps := by assumption) : Keeps ps s0 (s.performRead r) := by
  unfold State.performRead
  dsimp only
  split
  · exact State.respond_keeps (State.readEntry_keeps h0 ..) ..
  · exact State.refuse_keeps h0 ..

theorem State.performWindowRead_keeps {ps : List Part} {s0 s : State} (h0 : Keeps ps s0 s) (r : Request) (_ : Part.out ∈ ps := by assumption) (_ : Part.mgr ∈ ps := by assumption) (_ : Part.pages ∈ ps := by assumption) (_ : Part.ring ∈ ps := by assumption) : Keeps ps s0 (s.performWindowRead r) := by
  unfold State.performWindowRead
  try dsimp only
  repeat' first
    | with_reducible exact h0
    | with_reducible assumption
    | with_reducible apply Keeps.ite
    | with_reducible apply State.respond_keeps
    | with_reducible apply State.refuse_keeps
    | split
    | dsimp only

theorem State.performWindowWrite_keeps {ps : List Part} {s0 s : State} (h0 : Keeps ps s0 s) (r : Request) (_ : Part.out ∈ ps := by assumption) (_ : Part.mgr ∈ ps := by assumption) (_ : Part.pages ∈ ps := by assumption) (_ : Part.ring ∈ ps := by assumption) : Keeps ps s0 (s.performWindowWrite r) := by
  unfold State.performWindowWrite
  try dsimp only
  repeat' first
    | with_reducible exact h0
    | with_reducible assumption
    | with_reducible apply Keeps.ite
    | with_reducible apply State.respond_keeps
    | with_reducible apply State.refuse_keeps
    | split
    | fail_if_no_progress refine Keeps.record ?_ rfl rfl rfl rfl rfl rfl rfl rfl rfl rfl rfl rfl rfl rfl rfl rfl rfl rfl rfl
    | dsimp only

theorem State.performQuery_keeps {ps : List Part} {s0 s : State} (h0 : Keeps ps s0 s) (r : Request) (_ : Part.out ∈ ps := by assumption) (_ : Part.mgr ∈ ps := by assumption) (_ : Part.pages ∈ ps := by assumption) (_ : Part.ring ∈ ps := by assumption) : Keeps ps s0 (s.performQuery r) := by
  unfold State.performQuery
  try dsimp only
  repeat' first
    | with_reducible exact h0
    | with_reducible assumption
    | with_reducible apply Keeps.ite
    | with_reducible apply State.respond_keeps
    | with_reducible apply State.refuse_keeps
    | split
    | dsimp only

theorem State.perform_keeps {ps : List Part} {s0 s : State} (h0 : Keeps ps s0 s) (r : Request) (found : Option BankCheck) (_ : Part.free ∈ ps := by assumption) (_ : Part.out ∈ ps := by assumption) (_ : Part.dict ∈ ps := by assumption) (_ : Part.written ∈ ps := by assumption) (_ : Part.mgr ∈ ps := by assumption) (_ : Part.time ∈ ps := by assumption) (_ : Part.pages ∈ ps := by assumption) (_ : Part.ring ∈ ps := by assumption) (_ : Part.rst ∈ ps := by assumption) : Keeps ps s0 (s.perform r found) := by
  unfold State.perform
  try dsimp only
  repeat' first
    | with_reducible exact h0
    | with_reducible assumption
    | with_reducible apply State.performRead_keeps
    | with_reducible apply State.performWrite_keeps
    | with_reducible apply State.performWindowRead_keeps
    | with_reducible apply State.performWindowWrite_keeps
    | with_reducible apply State.performQuery_keeps
    | with_reducible apply State.performCommit_keeps
    | with_reducible apply State.performAbort_keeps
    | split
    | fail_if_no_progress refine Keeps.record ?_ rfl rfl rfl rfl rfl rfl rfl rfl rfl rfl rfl rfl rfl rfl rfl rfl rfl rfl rfl
    | dsimp only

theorem State.serve_keeps {ps : List Part} {s0 s : State} (h0 : Keeps ps s0 s) (k : Service) (found : Option BankCheck) (_ : Part.free ∈ ps := by assumption) (_ : Part.out ∈ ps := by assumption) (_ : Part.dict ∈ ps := by assumption) (_ : Part.written ∈ ps := by assumption) (_ : Part.mgr ∈ ps := by assumption) (_ : Part.time ∈ ps := by assumption) (_ : Part.pages ∈ ps := by assumption) (_ : Part.ring ∈ ps := by assumption) (_ : Part.rst ∈ ps := by assumption) : Keeps ps s0 (s.serve k found) := by
  unfold State.serve
  try dsimp only
  repeat' first
    | with_reducible exact h0
    | with_reducible assumption
    | with_reducible apply Keeps.ite
    | with_reducible apply State.takeNext_keeps
    | with_reducible apply State.perform_keeps
    | split
    | fail_if_no_progress refine Keeps.record ?_ rfl rfl rfl rfl rfl rfl rfl rfl rfl rfl rfl rfl rfl rfl rfl rfl rfl rfl rfl
    | dsimp only

/-! ## Manager -/

theorem State.failCommit_keeps {ps : List Part} {s0 s : State} (h0 : Keeps ps s0 s) (c : CommitInHand) (code : Nat) (_ : Part.out ∈ ps := by assumption) (_ : Part.dict ∈ ps := by assumption) (_ : Part.mgr ∈ ps := by assumption) (_ : Part.pages ∈ ps := by assumption) (_ : Part.ring ∈ ps := by assumption) : Keeps ps s0 (s.failCommit c code) := by
  unfold State.failCommit
  try dsimp only
  repeat' first
    | with_reducible exact h0
    | with_reducible assumption
    | with_reducible apply State.setVal_keeps
    | with_reducible apply State.refuse_keeps
    | fail_if_no_progress refine Keeps.record ?_ rfl rfl rfl rfl rfl rfl rfl rfl rfl rfl rfl rfl rfl rfl rfl rfl rfl rfl rfl
    | dsimp only

theorem State.announce_keeps {ps : List Part} {s0 s : State} (h0 : Keeps ps s0 s)  (_ : Part.out ∈ ps := by assumption) (_ : Part.mgr ∈ ps := by assumption) (_ : Part.ring ∈ ps := by assumption) : Keeps ps s0 (s.announce) := by
  unfold State.announce
  try dsimp only
  repeat' first
    | with_reducible exact h0
    | with_reducible assumption
    | with_reducible exact Keeps.refl _ _
    | with_reducible apply Keeps.ite
    | with_reducible apply State.sendPeer_keeps
    | (with_reducible apply Keeps.each) <;> try intro _ _
    | split
    | fail_if_no_progress refine Keeps.record ?_ rfl rfl rfl rfl rfl rfl rfl rfl rfl rfl rfl rfl rfl rfl rfl rfl rfl rfl rfl
    | dsimp only

/-! ## Registers -/

theorem State.indexWrite_keeps {ps : List Part} {s0 s : State} (h0 : Keeps ps s0 s) (f q : Nat) (prod : Bool) (idx : Nat) (_ : Part.free ∈ ps := by assumption) (_ : Part.out ∈ ps := by assumption) (_ : Part.dict ∈ ps := by assumption) (_ : Part.lanes ∈ ps := by assumption) (_ : Part.spools ∈ ps := by assumption) (_ : Part.pages ∈ ps := by assumption) : Keeps ps s0 (s.indexWrite f q prod idx) := by
  unfold State.indexWrite
  try dsimp only
  repeat' first
    | with_reducible exact h0
    | with_reducible assumption
    | with_reducible apply Keeps.ite
    | with_reducible apply State.consumerWrite_keeps
    | with_reducible apply State.txDoorbell_keeps
    | with_reducible apply State.rxDoorbell_keeps
    | with_reducible apply State.setPage_keeps
    | split
    | fail_if_no_progress refine Keeps.record ?_ rfl rfl rfl rfl rfl rfl rfl rfl rfl rfl rfl rfl rfl rfl rfl rfl rfl rfl rfl
    | dsimp only

theorem State.ringRegWrite_keeps {ps : List Part} {s0 s : State} (h0 : Keeps ps s0 s) (f q k : Nat) (w : Nat) (_ : Part.free ∈ ps := by assumption) (_ : Part.out ∈ ps := by assumption) (_ : Part.dict ∈ ps := by assumption) (_ : Part.lanes ∈ ps := by assumption) (_ : Part.spools ∈ ps := by assumption) (_ : Part.pages ∈ ps := by assumption) : Keeps ps s0 (s.ringRegWrite f q k w) := by
  unfold State.ringRegWrite
  try dsimp only
  repeat' first
    | with_reducible exact h0
    | with_reducible assumption
    | with_reducible apply Keeps.ite
    | with_reducible apply State.setPage_keeps
    | with_reducible apply State.resumeTx_keeps
    | with_reducible apply State.drainRx_keeps
    | with_reducible apply State.indexWrite_keeps
    | split
    | fail_if_no_progress refine Keeps.record ?_ rfl rfl rfl rfl rfl rfl rfl rfl rfl rfl rfl rfl rfl rfl rfl rfl rfl rfl rfl
    | dsimp only

theorem State.writeReg_keeps {ps : List Part} {s0 s : State} (h0 : Keeps ps s0 s) (f : Nat) (r : PageReg) (w : Word32) (_ : Part.free ∈ ps := by assumption) (_ : Part.out ∈ ps := by assumption) (_ : Part.dict ∈ ps := by assumption) (_ : Part.mgr ∈ ps := by assumption) (_ : Part.log ∈ ps := by assumption) (_ : Part.lanes ∈ ps := by assumption) (_ : Part.spools ∈ ps := by assumption) (_ : Part.pages ∈ ps := by assumption) (_ : Part.routes ∈ ps := by assumption) (_ : Part.cells ∈ ps := by assumption) (_ : Part.trip ∈ ps := by assumption) (_ : Part.cipher ∈ ps := by assumption) (_ : Part.ring ∈ ps := by assumption) : Keeps ps s0 (s.writeReg f r w) := by
  unfold State.writeReg
  try dsimp only
  repeat' first
    | with_reducible exact h0
    | with_reducible assumption
    | with_reducible apply Keeps.ite
    | with_reducible apply State.ringRegWrite_keeps
    | with_reducible apply State.setPage_keeps
    | with_reducible apply State.keyCommand_keeps
    | with_reducible apply State.keyDone_keeps
    | with_reducible apply State.abortCtxs_keeps
    | with_reducible apply State.checkCtrlWrite_keeps
    | with_reducible apply State.checkValueWrite_keeps
    | with_reducible apply State.mailboxWrite_keeps
    | split
    | fail_if_no_progress refine Keeps.record ?_ rfl rfl rfl rfl rfl rfl rfl rfl rfl rfl rfl rfl rfl rfl rfl rfl rfl rfl rfl
    | dsimp only

/-! ## BootOps -/

theorem State.logDisagree_keeps {ps : List Part} {s0 s : State} (h0 : Keeps ps s0 s) (b : Nat) (c : BankCheck) (_ : Part.log ∈ ps := by assumption) : Keeps ps s0 (s.logDisagree b c) := by
  unfold State.logDisagree
  try dsimp only
  repeat' first
    | with_reducible exact h0
    | with_reducible assumption
    | with_reducible apply Keeps.ite
    | with_reducible apply State.event_keeps
    | split
    | dsimp only

theorem State.verifyBank_keeps {ps : List Part} {s0 s : State} (h0 : Keeps ps s0 s) (b : Nat) (keyHash : Bytes) (c : BankCheck) (_ : Part.log ∈ ps := by assumption) (_ : Part.rst ∈ ps := by assumption) : Keeps ps s0 (s.verifyBank b keyHash c) := by
  unfold State.verifyBank
  repeat' first
    | with_reducible exact h0
    | with_reducible assumption
    | with_reducible apply State.setBank_keeps
    | with_reducible apply State.logDisagree_keeps

theorem State.bootFrom_keeps {ps : List Part} {s0 s : State} (h0 : Keeps ps s0 s) (b result : Nat) (_ : Part.rst ∈ ps := by assumption) : Keeps ps s0 (s.bootFrom b result) := by
  unfold State.bootFrom
  try dsimp only
  repeat' first
    | with_reducible exact h0
    | with_reducible assumption
    | with_reducible apply Keeps.ite
    | split
    | fail_if_no_progress refine Keeps.record ?_ rfl rfl rfl rfl rfl rfl rfl rfl rfl rfl rfl rfl rfl rfl rfl rfl rfl rfl rfl
    | dsimp only

theorem State.enterRecovery_keeps {ps : List Part} {s0 s : State} (h0 : Keeps ps s0 s)  (_ : Part.out ∈ ps := by assumption) (_ : Part.dict ∈ ps := by assumption) (_ : Part.hier ∈ ps := by assumption) (_ : Part.tether ∈ ps := by assumption) (_ : Part.log ∈ ps := by assumption) (_ : Part.ports ∈ ps := by assumption) (_ : Part.echoes ∈ ps := by assumption) (_ : Part.lanes ∈ ps := by assumption) (_ : Part.spools ∈ ps := by assumption) (_ : Part.pages ∈ ps := by assumption) (_ : Part.routes ∈ ps := by assumption) (_ : Part.cells ∈ ps := by assumption) (_ : Part.trip ∈ ps := by assumption) (_ : Part.cipher ∈ ps := by assumption) (_ : Part.checkParts ∈ ps := by assumption) (_ : Part.ring ∈ ps := by assumption) (_ : Part.sensing ∈ ps := by assumption) (_ : Part.rst ∈ ps := by assumption) (_ : Part.sup ∈ ps := by assumption) : Keeps ps s0 (s.enterRecovery) := by
  unfold State.enterRecovery
  try dsimp only
  repeat' first
    | with_reducible exact h0
    | with_reducible assumption
    | with_reducible exact Keeps.refl _ _
    | with_reducible apply Keeps.ite
    | with_reducible apply State.domainOff_keeps
    | with_reducible apply State.nextRelease_keeps
    | (with_reducible apply Keeps.each) <;> try intro _ _
    | split
    | fail_if_no_progress refine Keeps.record ?_ rfl rfl rfl rfl rfl rfl rfl rfl rfl rfl rfl rfl rfl rfl rfl rfl rfl rfl rfl
    | dsimp only

theorem State.boot_keeps {ps : List Part} {s0 s : State} (h0 : Keeps ps s0 s) (a b : BankCheck) (_ : Part.out ∈ ps := by assumption) (_ : Part.dict ∈ ps := by assumption) (_ : Part.hier ∈ ps := by assumption) (_ : Part.tether ∈ ps := by assumption) (_ : Part.log ∈ ps := by assumption) (_ : Part.ports ∈ ps := by assumption) (_ : Part.echoes ∈ ps := by assumption) (_ : Part.lanes ∈ ps := by assumption) (_ : Part.spools ∈ ps := by assumption) (_ : Part.pages ∈ ps := by assumption) (_ : Part.routes ∈ ps := by assumption) (_ : Part.cells ∈ ps := by assumption) (_ : Part.trip ∈ ps := by assumption) (_ : Part.cipher ∈ ps := by assumption) (_ : Part.checkParts ∈ ps := by assumption) (_ : Part.ring ∈ ps := by assumption) (_ : Part.sensing ∈ ps := by assumption) (_ : Part.rst ∈ ps := by assumption) (_ : Part.sup ∈ ps := by assumption) : Keeps ps s0 (s.boot a b) := by
  unfold State.boot
  try dsimp only
  repeat' first
    | with_reducible exact h0
    | with_reducible assumption
    | with_reducible apply Keeps.ite
    | with_reducible apply State.verifyBank_keeps
    | with_reducible apply State.bootFrom_keeps
    | with_reducible apply State.nextRelease_keeps
    | with_reducible apply State.enterRecovery_keeps
    | split
    | dsimp only

theorem State.reloadFirmware_keeps {ps : List Part} {s0 s : State} (h0 : Keeps ps s0 s) (a b : BankCheck) (_ : Part.rst ∈ ps := by assumption) : Keeps ps s0 (s.reloadFirmware a b) := by
  unfold State.reloadFirmware
  try dsimp only
  repeat' first
    | with_reducible exact h0
    | with_reducible assumption
    | with_reducible apply Keeps.ite
    | with_reducible apply State.nextRelease_keeps
    | split
    | fail_if_no_progress refine Keeps.record ?_ rfl rfl rfl rfl rfl rfl rfl rfl rfl rfl rfl rfl rfl rfl rfl rfl rfl rfl rfl

theorem State.applyBoot_keeps {ps : List Part} {s0 s : State} (h0 : Keeps ps s0 s) (old : State) (_ : Part.out ∈ ps := by assumption) (_ : Part.dict ∈ ps := by assumption) (_ : Part.mgr ∈ ps := by assumption) (_ : Part.time ∈ ps := by assumption) (_ : Part.tether ∈ ps := by assumption) (_ : Part.log ∈ ps := by assumption) (_ : Part.routes ∈ ps := by assumption) (_ : Part.cells ∈ ps := by assumption) (_ : Part.trip ∈ ps := by assumption) : Keeps ps s0 (s.applyBoot old) := by
  unfold State.applyBoot
  repeat' first
    | with_reducible exact h0
    | with_reducible assumption
    | with_reducible apply State.settleTime_keeps
    | with_reducible apply State.settleTether_keeps
    | with_reducible apply State.settlePeers_keeps
    | with_reducible apply State.settleCommand_keeps

theorem State.bootCommit_keeps {ps : List Part} {s0 s : State} (h0 : Keeps ps s0 s)  (_ : Part.out ∈ ps := by assumption) (_ : Part.dict ∈ ps := by assumption) (_ : Part.mgr ∈ ps := by assumption) (_ : Part.time ∈ ps := by assumption) (_ : Part.tether ∈ ps := by assumption) (_ : Part.log ∈ ps := by assumption) (_ : Part.routes ∈ ps := by assumption) (_ : Part.cells ∈ ps := by assumption) (_ : Part.trip ∈ ps := by assumption) (_ : Part.rst ∈ ps := by assumption) : Keeps ps s0 (s.bootCommit) := by
  unfold State.bootCommit
  try dsimp only
  repeat' first
    | with_reducible exact h0
    | with_reducible assumption
    | with_reducible apply State.overlay_keeps
    | with_reducible apply State.digestsStale_keeps
    | with_reducible apply State.logCommit_keeps
    | with_reducible apply State.applyBoot_keeps
    | with_reducible apply State.nextRelease_keeps
    | fail_if_no_progress refine Keeps.record ?_ rfl rfl rfl rfl rfl rfl rfl rfl rfl rfl rfl rfl rfl rfl rfl rfl rfl rfl rfl
    | dsimp only

theorem State.startSave_keeps {ps : List Part} {s0 s : State} (h0 : Keeps ps s0 s) (b : Nat) (_ : Part.rst ∈ ps := by assumption) : Keeps ps s0 (s.startSave b) := by
  unfold State.startSave
  try dsimp only
  repeat' first
    | with_reducible exact h0
    | with_reducible assumption
    | with_reducible apply State.setBank_keeps
    | fail_if_no_progress refine Keeps.record ?_ rfl rfl rfl rfl rfl rfl rfl rfl rfl rfl rfl rfl rfl rfl rfl rfl rfl rfl rfl
    | dsimp only

theorem State.endSave_keeps {ps : List Part} {s0 s : State} (h0 : Keeps ps s0 s) (j : SaveJob) (_ : Part.dict ∈ ps := by assumption) (_ : Part.rst ∈ ps := by assumption) : Keeps ps s0 (s.endSave j) := by
  unfold State.endSave
  try dsimp only
  repeat' first
    | with_reducible exact h0
    | with_reducible assumption
    | with_reducible apply State.setBank_keeps
    | with_reducible apply State.setVal_keeps
    | fail_if_no_progress refine Keeps.record ?_ rfl rfl rfl rfl rfl rfl rfl rfl rfl rfl rfl rfl rfl rfl rfl rfl rfl rfl rfl
    | dsimp only

theorem State.writeBlock_keeps {ps : List Part} {s0 s : State} (h0 : Keeps ps s0 s) (v : Bytes) (_ : Part.dict ∈ ps := by assumption) (_ : Part.rst ∈ ps := by assumption) : Keeps ps s0 (s.writeBlock v) := by
  unfold State.writeBlock
  try dsimp only
  repeat' first
    | with_reducible exact h0
    | with_reducible assumption
    | with_reducible apply State.setBank_keeps
    | with_reducible apply State.setVal_keeps
    | fail_if_no_progress refine Keeps.record ?_ rfl rfl rfl rfl rfl rfl rfl rfl rfl rfl rfl rfl rfl rfl rfl rfl rfl rfl rfl
    | dsimp only

theorem State.imageCommand_keeps {ps : List Part} {s0 s : State} (h0 : Keeps ps s0 s) (n : Nat) (found : Option BankCheck) (_ : Part.free ∈ ps := by assumption) (_ : Part.dict ∈ ps := by assumption) (_ : Part.log ∈ ps := by assumption) (_ : Part.rst ∈ ps := by assumption) : Keeps ps s0 (s.imageCommand n found) := by
  unfold State.imageCommand
  try dsimp only
  repeat' first
    | with_reducible exact h0
    | with_reducible assumption
    | with_reducible apply Keeps.ite
    | with_reducible apply State.setBank_keeps
    | with_reducible apply State.verifyBank_keeps
    | with_reducible apply State.setVal_keeps
    | split
    | fail_if_no_progress refine Keeps.record ?_ rfl rfl rfl rfl rfl rfl rfl rfl rfl rfl rfl rfl rfl rfl rfl rfl rfl rfl rfl
    | dsimp only

theorem State.beginExtraction_keeps {ps : List Part} {s0 s : State} (h0 : Keeps ps s0 s)  (_ : Part.out ∈ ps := by assumption) (_ : Part.dict ∈ ps := by assumption) (_ : Part.log ∈ ps := by assumption) (_ : Part.ports ∈ ps := by assumption) (_ : Part.echoes ∈ ps := by assumption) (_ : Part.lanes ∈ ps := by assumption) (_ : Part.spools ∈ ps := by assumption) (_ : Part.pages ∈ ps := by assumption) (_ : Part.routes ∈ ps := by assumption) (_ : Part.cells ∈ ps := by assumption) (_ : Part.trip ∈ ps := by assumption) (_ : Part.sensing ∈ ps := by assumption) (_ : Part.rst ∈ ps := by assumption) (_ : Part.sup ∈ ps := by assumption) : Keeps ps s0 (s.beginExtraction) := by
  unfold State.beginExtraction
  try dsimp only
  repeat' first
    | with_reducible exact h0
    | with_reducible assumption
    | with_reducible exact Keeps.refl _ _
    | with_reducible apply State.portPolicy_keeps
    | with_reducible apply State.settleCommand_keeps
    | (with_reducible apply Keeps.each) <;> try intro _ _
    | fail_if_no_progress refine Keeps.record ?_ rfl rfl rfl rfl rfl rfl rfl rfl rfl rfl rfl rfl rfl rfl rfl rfl rfl rfl rfl
    | dsimp only

theorem State.domainsDown_keeps {ps : List Part} {s0 s : State} (h0 : Keeps ps s0 s)  (_ : Part.out ∈ ps := by assumption) (_ : Part.dict ∈ ps := by assumption) (_ : Part.hier ∈ ps := by assumption) (_ : Part.tether ∈ ps := by assumption) (_ : Part.log ∈ ps := by assumption) (_ : Part.ports ∈ ps := by assumption) (_ : Part.echoes ∈ ps := by assumption) (_ : Part.lanes ∈ ps := by assumption) (_ : Part.spools ∈ ps := by assumption) (_ : Part.pages ∈ ps := by assumption) (_ : Part.routes ∈ ps := by assumption) (_ : Part.cells ∈ ps := by assumption) (_ : Part.trip ∈ ps := by assumption) (_ : Part.cipher ∈ ps := by assumption) (_ : Part.checkParts ∈ ps := by assumption) (_ : Part.ring ∈ ps := by assumption) (_ : Part.sensing ∈ ps := by assumption) (_ : Part.rst ∈ ps := by assumption) (_ : Part.sup ∈ ps := by assumption) : Keeps ps s0 (s.domainsDown) := by
  unfold State.domainsDown
  try dsimp only
  repeat' first
    | with_reducible exact h0
    | with_reducible assumption
    | with_reducible exact Keeps.refl _ _
    | with_reducible apply State.domainOff_keeps
    | (with_reducible apply Keeps.each) <;> try intro _ _
    | fail_if_no_progress refine Keeps.record ?_ rfl rfl rfl rfl rfl rfl rfl rfl rfl rfl rfl rfl rfl rfl rfl rfl rfl rfl rfl
    | dsimp only

theorem State.powerDown_keeps {ps : List Part} {s0 s : State} (h0 : Keeps ps s0 s) (_ : Part.dict ∈ ps := by assumption) (_ : Part.written ∈ ps := by assumption) (_ : Part.hier ∈ ps := by assumption) (_ : Part.mgr ∈ ps := by assumption) (_ : Part.time ∈ ps := by assumption) (_ : Part.tether ∈ ps := by assumption) (_ : Part.log ∈ ps := by assumption) (_ : Part.ports ∈ ps := by assumption) (_ : Part.echoes ∈ ps := by assumption) (_ : Part.lanes ∈ ps := by assumption) (_ : Part.spools ∈ ps := by assumption) (_ : Part.pages ∈ ps := by assumption) (_ : Part.routes ∈ ps := by assumption) (_ : Part.cells ∈ ps := by assumption) (_ : Part.trip ∈ ps := by assumption) (_ : Part.cipher ∈ ps := by assumption) (_ : Part.checkParts ∈ ps := by assumption) (_ : Part.ring ∈ ps := by assumption) (_ : Part.sensing ∈ ps := by assumption) (_ : Part.rst ∈ ps := by assumption) (_ : Part.sup ∈ ps := by assumption) : Keeps ps s0 (s.powerDown) :=
  h0.trans ⟨rfl, rfl, .inl rfl, fun c => ⟨State.dictOk_filter _ c.dict, rfl, rfl, resetPorts_wf c.ports, rfl, rfl, rfl, rfl, rfl, rfl, rfl,
    rfl, rfl, rfl, rfl, rfl⟩, fun p hp => by cases p <;> first | exact absurd (by assumption) hp | rfl⟩

/-! ## Reset -/

theorem State.startCounter_keeps {ps : List Part} {s0 s : State} (h0 : Keeps ps s0 s) (_ : Part.tsc ∈ ps := by assumption) (_ : Part.time ∈ ps := by assumption) (_ : Part.log ∈ ps := by assumption) (_ : Part.rst ∈ ps := by assumption) : Keeps ps s0 (s.startCounter) :=
  h0.trans ⟨rfl, rfl, .inr rfl, fun c => { c with }, fun p hp => by cases p <;> first | exact absurd (by assumption) hp | rfl⟩

/-! ## Hierarchy -/

theorem State.entryError_keeps {ps : List Part} {s0 s : State} (h0 : Keeps ps s0 s) (r b addr : Nat) (_ : Part.out ∈ ps := by assumption) (_ : Part.dict ∈ ps := by assumption) (_ : Part.lanes ∈ ps := by assumption) (_ : Part.spools ∈ ps := by assumption) (_ : Part.pages ∈ ps := by assumption) (_ : Part.routes ∈ ps := by assumption) : Keeps ps s0 (s.entryError r b addr) := by
  unfold State.entryError
  try dsimp only
  repeat' first
    | with_reducible exact h0
    | with_reducible assumption
    | with_reducible apply Keeps.ite
    | with_reducible apply State.clearRoute_keeps
    | with_reducible apply State.emptySpool_keeps
    | with_reducible apply State.bumpKey_keeps
    | with_reducible apply State.setSpool_keeps
    | with_reducible apply State.settleSpool_keeps
    | split
    | dsimp only

theorem State.noteRow_keeps {ps : List Part} {s0 s : State} (h0 : Keeps ps s0 s) (row : Nat) (_ : Part.hier ∈ ps := by assumption) : Keeps ps s0 (s.noteRow row) := by
  unfold State.noteRow
  try dsimp only
  repeat' first
    | with_reducible exact h0
    | with_reducible assumption
    | with_reducible apply Keeps.ite
    | split
    | fail_if_no_progress refine Keeps.record ?_ rfl rfl rfl rfl rfl rfl rfl rfl rfl rfl rfl rfl rfl rfl rfl rfl rfl rfl rfl
    | dsimp only

theorem State.scrubLost_keeps {ps : List Part} {s0 s : State} (h0 : Keeps ps s0 s) (item : DramItem) (_ : Part.out ∈ ps := by assumption) (_ : Part.dict ∈ ps := by assumption) (_ : Part.log ∈ ps := by assumption) (_ : Part.lanes ∈ ps := by assumption) (_ : Part.spools ∈ ps := by assumption) (_ : Part.pages ∈ ps := by assumption) (_ : Part.routes ∈ ps := by assumption) : Keeps ps s0 (s.scrubLost item) := by
  unfold State.scrubLost
  try dsimp only
  repeat' first
    | with_reducible exact h0
    | with_reducible assumption
    | with_reducible apply Keeps.ite
    | with_reducible apply State.endPacket_keeps
    | with_reducible apply State.bump_keeps
    | with_reducible apply State.finishPacket_keeps
    | with_reducible apply State.releaseLink_keeps
    | split
    | fail_if_no_progress refine Keeps.record ?_ rfl rfl rfl rfl rfl rfl rfl rfl rfl rfl rfl rfl rfl rfl rfl rfl rfl rfl rfl
    | dsimp only

/-! ## Supervision -/

theorem State.agePart_keeps {ps : List Part} {s0 s : State} (h0 : Keeps ps s0 s) (x : AgeingSample) (src : Nat) (_ : Part.log ∈ ps := by assumption) (_ : Part.sup ∈ ps := by assumption) : Keeps ps s0 (s.agePart x src) := by
  unfold State.agePart
  try dsimp only
  repeat' first
    | with_reducible exact h0
    | with_reducible assumption
    | with_reducible apply Keeps.ite
    | with_reducible apply State.event_keeps
    | with_reducible apply State.requestSwap_keeps
    | split
    | fail_if_no_progress refine Keeps.record ?_ rfl rfl rfl rfl rfl rfl rfl rfl rfl rfl rfl rfl rfl rfl rfl rfl rfl rfl rfl
    | dsimp only

theorem State.ageSample_keeps {ps : List Part} {s0 s : State} (h0 : Keeps ps s0 s) (x : AgeingSample) (_ : Part.log ∈ ps := by assumption) (_ : Part.sup ∈ ps := by assumption) : Keeps ps s0 (s.ageSample x) := by
  unfold State.ageSample
  try dsimp only
  repeat' first
    | with_reducible exact h0
    | with_reducible assumption
    | with_reducible apply State.agePart_keeps
    | split
    | fail_if_no_progress refine Keeps.record ?_ rfl rfl rfl rfl rfl rfl rfl rfl rfl rfl rfl rfl rfl rfl rfl rfl rfl rfl rfl
    | dsimp only

theorem State.planRail_keeps {ps : List Part} {s0 s : State} (h0 : Keeps ps s0 s) (rail : Nat) (_ : Part.rst ∈ ps := by assumption) : Keeps ps s0 (s.planRail rail) := by
  unfold State.planRail
  try dsimp only
  repeat' first
    | with_reducible exact h0
    | with_reducible assumption
    | with_reducible exact Keeps.refl _ _
    | with_reducible apply State.setDomain_keeps
    | (with_reducible apply Keeps.each) <;> try intro _ _
    | fail_if_no_progress refine Keeps.record ?_ rfl rfl rfl rfl rfl rfl rfl rfl rfl rfl rfl rfl rfl rfl rfl rfl rfl rfl rfl
    | dsimp only

theorem State.stepRail_keeps {ps : List Part} {s0 s : State} (h0 : Keeps ps s0 s) (rail : Nat) (_ : Part.log ∈ ps := by assumption) (_ : Part.rst ∈ ps := by assumption) : Keeps ps s0 (s.stepRail rail) := by
  unfold State.stepRail
  try dsimp only
  repeat' first
    | with_reducible exact h0
    | with_reducible assumption
    | with_reducible exact Keeps.refl _ _
    | with_reducible apply State.setDomain_keeps
    | with_reducible apply State.event_keeps
    | (with_reducible apply Keeps.each) <;> try intro _ _
    | split
    | fail_if_no_progress refine Keeps.record ?_ rfl rfl rfl rfl rfl rfl rfl rfl rfl rfl rfl rfl rfl rfl rfl rfl rfl rfl rfl
    | dsimp only

theorem State.stepRails_keeps {ps : List Part} {s0 s : State} (h0 : Keeps ps s0 s)  (_ : Part.log ∈ ps := by assumption) (_ : Part.rst ∈ ps := by assumption) : Keeps ps s0 (s.stepRails) := by
  unfold State.stepRails
  repeat' first
    | with_reducible exact h0
    | with_reducible assumption
    | with_reducible exact Keeps.refl _ _
    | with_reducible apply Keeps.ite
    | with_reducible apply State.stepRail_keeps
    | (with_reducible apply Keeps.each) <;> try intro _ _
    | split
    | dsimp only

theorem State.startRequest_keeps {ps : List Part} {s0 s : State} (h0 : Keeps ps s0 s) (q : SwapRequest) (_ : Part.out ∈ ps := by assumption) (_ : Part.dict ∈ ps := by assumption) (_ : Part.log ∈ ps := by assumption) (_ : Part.ports ∈ ps := by assumption) (_ : Part.echoes ∈ ps := by assumption) (_ : Part.lanes ∈ ps := by assumption) (_ : Part.spools ∈ ps := by assumption) (_ : Part.pages ∈ ps := by assumption) (_ : Part.routes ∈ ps := by assumption) (_ : Part.cells ∈ ps := by assumption) (_ : Part.trip ∈ ps := by assumption) (_ : Part.ring ∈ ps := by assumption) (_ : Part.rst ∈ ps := by assumption) (_ : Part.sup ∈ ps := by assumption) : Keeps ps s0 (s.startRequest q) := by
  unfold State.startRequest
  try dsimp only
  repeat' first
    | with_reducible exact h0
    | with_reducible assumption
    | with_reducible apply Keeps.ite
    | with_reducible apply State.startSwap_keeps
    | with_reducible apply State.settleCommand_keeps
    | with_reducible apply State.startRingSwap_keeps
    | with_reducible apply State.endSwap_keeps
    | split
    | fail_if_no_progress refine Keeps.record ?_ rfl rfl rfl rfl rfl rfl rfl rfl rfl rfl rfl rfl rfl rfl rfl rfl rfl rfl rfl
    | dsimp only

theorem State.switchBank_keeps {ps : List Part} {s0 s : State} (h0 : Keeps ps s0 s)  (_ : Part.log ∈ ps := by assumption) (_ : Part.rst ∈ ps := by assumption) (_ : Part.sup ∈ ps := by assumption) : Keeps ps s0 (s.switchBank) := by
  unfold State.switchBank
  try dsimp only
  repeat' first
    | with_reducible exact h0
    | with_reducible assumption
    | with_reducible apply Keeps.ite
    | with_reducible apply State.endSwap_keeps
    | split
    | fail_if_no_progress refine Keeps.record ?_ rfl rfl rfl rfl rfl rfl rfl rfl rfl rfl rfl rfl rfl rfl rfl rfl rfl rfl rfl
    | dsimp only

theorem State.ballastCommand_keeps {ps : List Part} {s0 s : State} (h0 : Keeps ps s0 s) (n : Nat) (_ : Part.sup ∈ ps := by assumption) : Keeps ps s0 (s.ballastCommand n) := by
  unfold State.ballastCommand
  try dsimp only
  repeat' first
    | with_reducible exact h0
    | with_reducible assumption
    | with_reducible apply Keeps.ite
    | with_reducible apply State.requestSwap_keeps
    | split
    | fail_if_no_progress refine Keeps.record ?_ rfl rfl rfl rfl rfl rfl rfl rfl rfl rfl rfl rfl rfl rfl rfl rfl rfl rfl rfl
    | dsimp only

/-! ## BeatOps -/

theorem State.noteOccupancy_keeps {ps : List Part} {s0 s : State} (h0 : Keeps ps s0 s) (r b n : Nat) (_ : Part.hier ∈ ps := by assumption) : Keeps ps s0 (s.noteOccupancy r b n) := by
  unfold State.noteOccupancy
  try dsimp only
  repeat' first
    | with_reducible exact h0
    | with_reducible assumption
    | with_reducible apply Keeps.ite
    | with_reducible apply State.setBlock_keeps
    | split
    | fail_if_no_progress refine Keeps.record ?_ rfl rfl rfl rfl rfl rfl rfl rfl rfl rfl rfl rfl rfl rfl rfl rfl rfl rfl rfl
    | dsimp only

theorem State.overrunEscalate_keeps {ps : List Part} {s0 s : State} (h0 : Keeps ps s0 s) (r b flags low : Nat) (_ : Part.hier ∈ ps := by assumption) (_ : Part.log ∈ ps := by assumption) : Keeps ps s0 (s.overrunEscalate r b flags low) := by
  unfold State.overrunEscalate
  repeat' first
    | with_reducible exact h0
    | with_reducible assumption
    | with_reducible apply State.event_keeps
    | with_reducible apply State.regionReset_keeps

theorem State.overrun_keeps {ps : List Part} {s0 s : State} (h0 : Keeps ps s0 s) (r b : Nat) (fresh carried : List Nat) (_ : Part.out ∈ ps := by assumption) (_ : Part.dict ∈ ps := by assumption) (_ : Part.hier ∈ ps := by assumption) (_ : Part.log ∈ ps := by assumption) : Keeps ps s0 (s.overrun r b fresh carried) := by
  unfold State.overrun
  try dsimp only
  repeat' first
    | with_reducible exact h0
    | with_reducible assumption
    | with_reducible apply Keeps.ite
    | with_reducible apply State.setBlock_keeps
    | with_reducible apply State.bumpKey_keeps
    | with_reducible apply State.bump_keeps
    | with_reducible apply State.returnItem_keeps
    | with_reducible apply State.overrunEscalate_keeps
    | split
    | fail_if_no_progress refine Keeps.record ?_ rfl rfl rfl rfl rfl rfl rfl rfl rfl rfl rfl rfl rfl rfl rfl rfl rfl rfl rfl
    | dsimp only

theorem State.engineEnd_keeps {ps : List Part} {s0 s : State} (h0 : Keeps ps s0 s)  (_ : Part.out ∈ ps := by assumption) (_ : Part.dict ∈ ps := by assumption) (_ : Part.hier ∈ ps := by assumption) (_ : Part.log ∈ ps := by assumption) (_ : Part.pages ∈ ps := by assumption) (_ : Part.cipher ∈ ps := by assumption) : Keeps ps s0 (s.engineEnd) := by
  unfold State.engineEnd
  try dsimp only
  repeat' first
    | with_reducible exact h0
    | with_reducible assumption
    | with_reducible exact Keeps.refl _ _
    | with_reducible apply Keeps.ite
    | with_reducible apply State.failJob_keeps
    | with_reducible apply State.overrun_keeps
    | with_reducible apply State.setJob_keeps
    | (with_reducible apply Keeps.each) <;> try intro _ _
    | split
    | fail_if_no_progress refine Keeps.record ?_ rfl rfl rfl rfl rfl rfl rfl rfl rfl rfl rfl rfl rfl rfl rfl rfl rfl rfl rfl
    | dsimp only

theorem State.checkEnd_keeps {ps : List Part} {s0 s : State} (h0 : Keeps ps s0 s)  (_ : Part.out ∈ ps := by assumption) (_ : Part.dict ∈ ps := by assumption) (_ : Part.hier ∈ ps := by assumption) (_ : Part.log ∈ ps := by assumption) (_ : Part.pages ∈ ps := by assumption) (_ : Part.checkParts ∈ ps := by assumption) : Keeps ps s0 (s.checkEnd) := by
  unfold State.checkEnd
  try dsimp only
  repeat' first
    | with_reducible exact h0
    | with_reducible assumption
    | with_reducible exact Keeps.refl _ _
    | with_reducible apply Keeps.ite
    | with_reducible apply State.failCheck_keeps
    | with_reducible apply State.overrun_keeps
    | with_reducible apply State.putCheck_keeps
    | (with_reducible apply Keeps.each) <;> try intro _ _
    | split
    | fail_if_no_progress refine Keeps.record ?_ rfl rfl rfl rfl rfl rfl rfl rfl rfl rfl rfl rfl rfl rfl rfl rfl rfl rfl rfl
    | dsimp only

theorem State.encodeReturned_keeps {ps : List Part} {s0 s : State} (h0 : Keeps ps s0 s) (p l : Nat) (_ : Part.out ∈ ps := by assumption) (_ : Part.dict ∈ ps := by assumption) (_ : Part.lanes ∈ ps := by assumption) (_ : Part.spools ∈ ps := by assumption) (_ : Part.pages ∈ ps := by assumption) : Keeps ps s0 (s.encodeReturned p l) := by
  unfold State.encodeReturned
  repeat' first
    | with_reducible exact h0
    | with_reducible assumption
    | with_reducible apply Keeps.ite
    | with_reducible apply State.cutFrame_keeps
    | with_reducible apply State.lbump_keeps
    | split

theorem State.takeLoad_keeps {ps : List Part} {s0 s : State} (h0 : Keeps ps s0 s) (x : BeatLoad) (_ : Part.free ∈ ps := by assumption) (_ : Part.out ∈ ps := by assumption) (_ : Part.dict ∈ ps := by assumption) (_ : Part.hier ∈ ps := by assumption) (_ : Part.log ∈ ps := by assumption) (_ : Part.lanes ∈ ps := by assumption) (_ : Part.spools ∈ ps := by assumption) (_ : Part.pages ∈ ps := by assumption) : Keeps ps s0 (s.takeLoad x) := by
  unfold State.takeLoad
  try dsimp only
  repeat' first
    | with_reducible exact h0
    | with_reducible assumption
    | with_reducible apply Keeps.ite
    | with_reducible apply State.encodeReturned_keeps
    | with_reducible apply State.noteOccupancy_keeps
    | with_reducible apply State.overrun_keeps
    | split
    | dsimp only

theorem State.newWork_keeps {ps : List Part} {s0 s : State} (h0 : Keeps ps s0 s) (x : BeatLoad) (_ : Part.hier ∈ ps := by assumption) : Keeps ps s0 (s.newWork x) := by
  unfold State.newWork
  try dsimp only
  repeat' first
    | with_reducible exact h0
    | with_reducible assumption
    | with_reducible apply Keeps.ite
    | with_reducible apply State.setBlock_keeps
    | with_reducible apply State.askTransfers_keeps
    | split
    | fail_if_no_progress refine Keeps.record ?_ rfl rfl rfl rfl rfl rfl rfl rfl rfl rfl rfl rfl rfl rfl rfl rfl rfl rfl rfl
    | dsimp only

theorem State.clearCarried_keeps {ps : List Part} {s0 s : State} (h0 : Keeps ps s0 s) (loads : List BeatLoad) (_ : Part.hier ∈ ps := by assumption) : Keeps ps s0 (s.clearCarried loads) :=
  Keeps.each h0 fun _ _ => ⟨rfl, rfl, .inl rfl, fun c => { c with blocks := Table.wf_put _ _ c.blocks },
    fun p hp => by cases p <;> first | exact absurd (by assumption) hp | rfl⟩

theorem State.returnGrant_keeps {ps : List Part} {s0 s : State} (h0 : Keeps ps s0 s) (r b c : Nat) (_ : Part.out ∈ ps := by assumption) (_ : Part.hier ∈ ps := by assumption) : Keeps ps s0 (s.returnGrant r b c) := by
  unfold State.returnGrant
  try dsimp only
  repeat' first
    | with_reducible exact h0
    | with_reducible assumption
    | with_reducible apply Keeps.ite
    | with_reducible apply State.setBlock_keeps
    | with_reducible apply State.returnItem_keeps
    | split
    | fail_if_no_progress refine Keeps.record ?_ rfl rfl rfl rfl rfl rfl rfl rfl rfl rfl rfl rfl rfl rfl rfl rfl rfl rfl rfl
    | dsimp only

theorem State.returnGrants_keeps {ps : List Part} {s0 s : State} (h0 : Keeps ps s0 s)  (_ : Part.out ∈ ps := by assumption) (_ : Part.hier ∈ ps := by assumption) : Keeps ps s0 (s.returnGrants) := by
  unfold State.returnGrants
  try dsimp only
  repeat' first
    | with_reducible exact h0
    | with_reducible assumption
    | with_reducible exact Keeps.refl _ _
    | with_reducible apply State.setBlock_keeps
    | with_reducible apply State.returnGrant_keeps
    | (with_reducible apply Keeps.each) <;> try intro _ _
    | fail_if_no_progress refine Keeps.record ?_ rfl rfl rfl rfl rfl rfl rfl rfl rfl rfl rfl rfl rfl rfl rfl rfl rfl rfl rfl
    | dsimp only

theorem State.poolTick_keeps {ps : List Part} {s0 s : State} (h0 : Keeps ps s0 s) (ready : List PoolItem) (_ : Part.dict ∈ ps := by assumption) (_ : Part.hier ∈ ps := by assumption) : Keeps ps s0 (s.poolTick ready) := by
  unfold State.poolTick
  try dsimp only
  repeat' first
    | with_reducible exact h0
    | with_reducible assumption
    | with_reducible apply Keeps.ite
    | with_reducible apply State.bumpKey_keeps
    | split
    | fail_if_no_progress refine Keeps.record ?_ rfl rfl rfl rfl rfl rfl rfl rfl rfl rfl rfl rfl rfl rfl rfl rfl rfl rfl rfl
    | dsimp only

theorem State.showBlocks_keeps {ps : List Part} {s0 s : State} (h0 : Keeps ps s0 s)  (_ : Part.hier ∈ ps := by assumption) (_ : Part.routes ∈ ps := by assumption) : Keeps ps s0 (s.showBlocks) := by
  unfold State.showBlocks
  try dsimp only
  repeat' first
    | with_reducible exact h0
    | with_reducible assumption
    | fail_if_no_progress refine Keeps.record ?_ rfl rfl rfl rfl rfl rfl rfl rfl rfl rfl rfl rfl rfl rfl rfl rfl rfl rfl rfl

theorem State.act_keeps {ps : List Part} {s0 s : State} (h0 : Keeps ps s0 s) (a : PendingAction) (_ : Part.free ∈ ps := by assumption) (_ : Part.dict ∈ ps := by assumption) (_ : Part.log ∈ ps := by assumption) (_ : Part.ring ∈ ps := by assumption) (_ : Part.sensing ∈ ps := by assumption) (_ : Part.rst ∈ ps := by assumption) (_ : Part.sup ∈ ps := by assumption) : Keeps ps s0 (s.act a) := by
  unfold State.act
  try dsimp only
  repeat' first
    | with_reducible exact h0
    | with_reducible assumption
    | with_reducible apply Keeps.ite
    | with_reducible apply State.startSave_keeps
    | with_reducible apply State.writeBlock_keeps
    | with_reducible apply State.imageCommand_keeps
    | with_reducible apply State.ballastCommand_keeps
    | with_reducible apply State.setVal_keeps
    | split
    | fail_if_no_progress refine Keeps.record ?_ rfl rfl rfl rfl rfl rfl rfl rfl rfl rfl rfl rfl rfl rfl rfl rfl rfl rfl rfl
    | dsimp only

theorem State.actAll_keeps {ps : List Part} {s0 s : State} (h0 : Keeps ps s0 s)  (_ : Part.free ∈ ps := by assumption) (_ : Part.dict ∈ ps := by assumption) (_ : Part.mgr ∈ ps := by assumption) (_ : Part.log ∈ ps := by assumption) (_ : Part.ring ∈ ps := by assumption) (_ : Part.sensing ∈ ps := by assumption) (_ : Part.rst ∈ ps := by assumption) (_ : Part.sup ∈ ps := by assumption) : Keeps ps s0 (s.actAll) := by
  unfold State.actAll
  try dsimp only
  repeat' first
    | with_reducible exact h0
    | with_reducible assumption
    | with_reducible exact Keeps.refl _ _
    | with_reducible apply State.act_keeps
    | (with_reducible apply Keeps.each) <;> try intro _ _
    | fail_if_no_progress refine Keeps.record ?_ rfl rfl rfl rfl rfl rfl rfl rfl rfl rfl rfl rfl rfl rfl rfl rfl rfl rfl rfl
    | dsimp only

theorem State.lateCommit_keeps {ps : List Part} {s0 s : State} (h0 : Keeps ps s0 s)  (_ : Part.out ∈ ps := by assumption) (_ : Part.dict ∈ ps := by assumption) (_ : Part.mgr ∈ ps := by assumption) (_ : Part.pages ∈ ps := by assumption) (_ : Part.ring ∈ ps := by assumption) : Keeps ps s0 (s.lateCommit) := by
  unfold State.lateCommit
  try dsimp only
  repeat' first
    | with_reducible exact h0
    | with_reducible assumption
    | with_reducible apply Keeps.ite
    | with_reducible apply State.failCommit_keeps
    | split
    | fail_if_no_progress refine Keeps.record ?_ rfl rfl rfl rfl rfl rfl rfl rfl rfl rfl rfl rfl rfl rfl rfl rfl rfl rfl rfl
    | dsimp only

theorem State.freezeSets_keeps {ps : List Part} {s0 s : State} (h0 : Keeps ps s0 s) (was : Bool) (_ : Part.out ∈ ps := by assumption) (_ : Part.lanes ∈ ps := by assumption) : Keeps ps s0 (s.freezeSets was) := by
  unfold State.freezeSets
  repeat' first
    | with_reducible exact h0
    | with_reducible assumption
    | with_reducible exact Keeps.refl _ _
    | with_reducible apply Keeps.ite
    | with_reducible apply State.setTx_keeps
    | with_reducible apply State.relevel_keeps
    | (with_reducible apply Keeps.each) <;> try intro _ _
    | split
    | dsimp only

theorem State.extractTick_keeps {ps : List Part} {s0 s : State} (h0 : Keeps ps s0 s)  (_ : Part.out ∈ ps := by assumption) (_ : Part.dict ∈ ps := by assumption) (_ : Part.log ∈ ps := by assumption) (_ : Part.ports ∈ ps := by assumption) (_ : Part.echoes ∈ ps := by assumption) (_ : Part.lanes ∈ ps := by assumption) (_ : Part.spools ∈ ps := by assumption) (_ : Part.pages ∈ ps := by assumption) (_ : Part.routes ∈ ps := by assumption) (_ : Part.cells ∈ ps := by assumption) (_ : Part.trip ∈ ps := by assumption) (_ : Part.sensing ∈ ps := by assumption) (_ : Part.rst ∈ ps := by assumption) (_ : Part.sup ∈ ps := by assumption) : Keeps ps s0 (s.extractTick) := by
  unfold State.extractTick
  repeat' first
    | with_reducible exact h0
    | with_reducible assumption
    | with_reducible apply Keeps.ite
    | with_reducible apply State.beginExtraction_keeps
    | split

theorem State.resetTick_keeps {ps : List Part} {s0 s : State} (h0 : Keeps ps s0 s)  (_ : Part.tsc ∈ ps := by assumption) (_ : Part.dict ∈ ps := by assumption) (_ : Part.written ∈ ps := by assumption) (_ : Part.hier ∈ ps := by assumption) (_ : Part.mgr ∈ ps := by assumption) (_ : Part.time ∈ ps := by assumption) (_ : Part.tether ∈ ps := by assumption) (_ : Part.log ∈ ps := by assumption) (_ : Part.ports ∈ ps := by assumption) (_ : Part.echoes ∈ ps := by assumption) (_ : Part.lanes ∈ ps := by assumption) (_ : Part.spools ∈ ps := by assumption) (_ : Part.pages ∈ ps := by assumption) (_ : Part.routes ∈ ps := by assumption) (_ : Part.cells ∈ ps := by assumption) (_ : Part.trip ∈ ps := by assumption) (_ : Part.cipher ∈ ps := by assumption) (_ : Part.checkParts ∈ ps := by assumption) (_ : Part.ring ∈ ps := by assumption) (_ : Part.sensing ∈ ps := by assumption) (_ : Part.rst ∈ ps := by assumption) (_ : Part.sup ∈ ps := by assumption) : Keeps ps s0 (s.resetTick) := by
  unfold State.resetTick
  try dsimp only
  repeat' first
    | with_reducible exact h0
    | with_reducible assumption
    | with_reducible apply State.requestReset_keeps
    | split
    | fail_if_no_progress refine Keeps.record ?_ rfl rfl rfl rfl rfl rfl rfl rfl rfl rfl rfl rfl rfl rfl rfl rfl rfl rfl rfl
    | dsimp only

theorem State.queryState_keeps {ps : List Part} {s0 s : State} (h0 : Keeps ps s0 s) (e : Nat) (_ : Part.dict ∈ ps := by assumption) (_ : Part.lanes ∈ ps := by assumption) : Keeps ps s0 (s.queryState e) := by
  unfold State.queryState
  try dsimp only
  repeat' first
    | with_reducible exact h0
    | with_reducible assumption
    | with_reducible apply Keeps.ite
    | with_reducible apply State.queueMesh_keeps
    | with_reducible apply State.bump_keeps
    | split
    | fail_if_no_progress refine Keeps.record ?_ rfl rfl rfl rfl rfl rfl rfl rfl rfl rfl rfl rfl rfl rfl rfl rfl rfl rfl rfl
    | dsimp only

theorem State.cycleStart_keeps {ps : List Part} {s0 s : State} (h0 : Keeps ps s0 s) (whole : Bool) (_ : Part.free ∈ ps := by assumption) (_ : Part.dict ∈ ps := by assumption) (_ : Part.lanes ∈ ps := by assumption) (_ : Part.routes ∈ ps := by assumption) : Keeps ps s0 (s.cycleStart whole) := by
  unfold State.cycleStart
  try dsimp only
  repeat' first
    | with_reducible exact h0
    | with_reducible assumption
    | with_reducible exact Keeps.refl _ _
    | with_reducible apply Keeps.ite
    | with_reducible apply State.setRx_keeps
    | with_reducible apply State.activateTmap_keeps
    | with_reducible apply State.planLink_keeps
    | with_reducible apply State.queryState_keeps
    | (with_reducible apply Keeps.each) <;> try intro _ _
    | split
    | fail_if_no_progress refine Keeps.record ?_ rfl rfl rfl rfl rfl rfl rfl rfl rfl rfl rfl rfl rfl rfl rfl rfl rfl rfl rfl
    | dsimp only

theorem State.slotBegin_keeps {ps : List Part} {s0 s : State} (h0 : Keeps ps s0 s)  (_ : Part.free ∈ ps := by assumption) (_ : Part.dict ∈ ps := by assumption) (_ : Part.tether ∈ ps := by assumption) (_ : Part.lanes ∈ ps := by assumption) (_ : Part.routes ∈ ps := by assumption) : Keeps ps s0 (s.slotBegin) := by
  unfold State.slotBegin
  try dsimp only
  repeat' first
    | with_reducible exact h0
    | with_reducible assumption
    | with_reducible apply Keeps.ite
    | with_reducible apply State.cycleStart_keeps
    | split
    | fail_if_no_progress refine Keeps.record ?_ rfl rfl rfl rfl rfl rfl rfl rfl rfl rfl rfl rfl rfl rfl rfl rfl rfl rfl rfl
    | dsimp only

/-! ## Boundary -/

theorem State.boundaryLoads_keeps {ps : List Part} {s0 s : State} (h0 : Keeps ps s0 s) (loads : List BeatLoad) (_ : Part.free ∈ ps := by assumption) (_ : Part.out ∈ ps := by assumption) (_ : Part.dict ∈ ps := by assumption) (_ : Part.written ∈ ps := by assumption) (_ : Part.hier ∈ ps := by assumption) (_ : Part.mgr ∈ ps := by assumption) (_ : Part.time ∈ ps := by assumption) (_ : Part.tether ∈ ps := by assumption) (_ : Part.log ∈ ps := by assumption) (_ : Part.ports ∈ ps := by assumption) (_ : Part.echoes ∈ ps := by assumption) (_ : Part.lanes ∈ ps := by assumption) (_ : Part.spools ∈ ps := by assumption) (_ : Part.pages ∈ ps := by assumption) (_ : Part.routes ∈ ps := by assumption) (_ : Part.cells ∈ ps := by assumption) (_ : Part.trip ∈ ps := by assumption) (_ : Part.cipher ∈ ps := by assumption) (_ : Part.checkParts ∈ ps := by assumption) (_ : Part.ring ∈ ps := by assumption) (_ : Part.sensing ∈ ps := by assumption) (_ : Part.rst ∈ ps := by assumption) (_ : Part.sup ∈ ps := by assumption) : Keeps ps s0 (s.boundaryLoads loads) := by
  unfold State.boundaryLoads
  try dsimp only
  repeat' first
    | with_reducible exact h0
    | with_reducible assumption
    | with_reducible exact Keeps.refl _ _
    | with_reducible apply State.returnGrants_keeps
    | with_reducible apply State.engineEnd_keeps
    | with_reducible apply State.checkEnd_keeps
    | with_reducible apply State.takeLoad_keeps
    | with_reducible apply State.clearCarried_keeps
    | with_reducible apply State.lateCommit_keeps
    | with_reducible apply State.activateCommit_keeps
    | with_reducible apply State.loadWritten_keeps
    | with_reducible apply State.actAll_keeps
    | with_reducible apply State.applyRecords_keeps
    | (with_reducible apply Keeps.each) <;> try intro _ _
    | dsimp only

theorem State.boundarySample_keeps {ps : List Part} {s0 s : State} (h0 : Keeps ps s0 s)  (_ : Part.out ∈ ps := by assumption) (_ : Part.dict ∈ ps := by assumption) (_ : Part.time ∈ ps := by assumption) (_ : Part.tether ∈ ps := by assumption) (_ : Part.log ∈ ps := by assumption) (_ : Part.lanes ∈ ps := by assumption) : Keeps ps s0 (s.boundarySample) := by
  unfold State.boundarySample
  repeat' first
    | with_reducible exact h0
    | with_reducible assumption
    | with_reducible apply State.timeBoundary_keeps
    | with_reducible apply State.tetherBoundary_keeps
    | with_reducible apply State.freezeSets_keeps

theorem State.boundaryWork_keeps {ps : List Part} {s0 s : State} (h0 : Keeps ps s0 s) (loads : List BeatLoad) (ready : List PoolItem) (_ : Part.out ∈ ps := by assumption) (_ : Part.dict ∈ ps := by assumption) (_ : Part.hier ∈ ps := by assumption) (_ : Part.log ∈ ps := by assumption) (_ : Part.ports ∈ ps := by assumption) (_ : Part.echoes ∈ ps := by assumption) (_ : Part.lanes ∈ ps := by assumption) (_ : Part.spools ∈ ps := by assumption) (_ : Part.pages ∈ ps := by assumption) (_ : Part.routes ∈ ps := by assumption) (_ : Part.cells ∈ ps := by assumption) (_ : Part.trip ∈ ps := by assumption) (_ : Part.cipher ∈ ps := by assumption) (_ : Part.checkParts ∈ ps := by assumption) (_ : Part.ring ∈ ps := by assumption) (_ : Part.sensing ∈ ps := by assumption) (_ : Part.rst ∈ ps := by assumption) (_ : Part.sup ∈ ps := by assumption) : Keeps ps s0 (s.boundaryWork loads ready) := by
  unfold State.boundaryWork
  try dsimp only
  repeat' first
    | with_reducible exact h0
    | with_reducible assumption
    | with_reducible exact Keeps.refl _ _
    | with_reducible apply State.newWork_keeps
    | with_reducible apply State.fabricTick_keeps
    | with_reducible apply State.extractTick_keeps
    | with_reducible apply State.reselectAll_keeps
    | with_reducible apply State.waitingProbes_keeps
    | with_reducible apply State.admitWaiting_keeps
    | with_reducible apply State.portTick_keeps
    | with_reducible apply State.ringTick_keeps
    | with_reducible apply State.cipherTick_keeps
    | with_reducible apply State.checkTick_keeps
    | with_reducible apply State.poolTick_keeps
    | with_reducible apply State.stepRails_keeps
    | with_reducible apply State.switchBank_keeps
    | with_reducible apply State.settleCommand_keeps
    | with_reducible apply State.flushStage_keeps
    | with_reducible apply State.showBlocks_keeps
    | (with_reducible apply Keeps.each) <;> try intro _ _
    | dsimp only

/-! ## Compliance -/

theorem State.muteGroup_keeps {ps : List Part} {s0 s : State} (h0 : Keeps ps s0 s) (p l g : Nat) (_ : Part.dict ∈ ps := by assumption) (_ : Part.log ∈ ps := by assumption) (_ : Part.lanes ∈ ps := by assumption) : Keeps ps s0 (s.muteGroup p l g) := by
  unfold State.muteGroup
  try dsimp only
  repeat' first
    | with_reducible exact h0
    | with_reducible assumption
    | with_reducible apply Keeps.ite
    | with_reducible apply State.setTx_keeps
    | with_reducible apply State.lbump_keeps
    | with_reducible apply State.event_keeps
    | split
    | fail_if_no_progress refine Keeps.record ?_ rfl rfl rfl rfl rfl rfl rfl rfl rfl rfl rfl rfl rfl rfl rfl rfl rfl rfl rfl
    | dsimp only

theorem State.checkGroup_keeps {ps : List Part} {s0 s : State} (h0 : Keeps ps s0 s) (p l : Nat) (e : Nat × Int) (_ : Part.dict ∈ ps := by assumption) (_ : Part.log ∈ ps := by assumption) (_ : Part.lanes ∈ ps := by assumption) : Keeps ps s0 (s.checkGroup p l e) := by
  unfold State.checkGroup
  try dsimp only
  repeat' first
    | with_reducible exact h0
    | with_reducible assumption
    | with_reducible apply Keeps.ite
    | with_reducible apply State.setTx_keeps
    | with_reducible apply State.lbump_keeps
    | with_reducible apply State.muteGroup_keeps
    | split
    | fail_if_no_progress refine Keeps.record ?_ rfl rfl rfl rfl rfl rfl rfl rfl rfl rfl rfl rfl rfl rfl rfl rfl rfl rfl rfl
    | dsimp only

/-! ## Echo -/

theorem State.holdRun_keeps {ps : List Part} {s0 s : State} (h0 : Keeps ps s0 s) (p : Nat) (b : Band) (transmitting : Bool) (_ : Part.echoes ∈ ps := by assumption) : Keeps ps s0 (s.holdRun p b transmitting) := by
  unfold State.holdRun
  try dsimp only
  repeat' first
    | with_reducible exact h0
    | with_reducible assumption
    | with_reducible apply Keeps.ite
    | with_reducible apply State.setEcho_keeps
    | split
    | fail_if_no_progress refine Keeps.record ?_ rfl rfl rfl rfl rfl rfl rfl rfl rfl rfl rfl rfl rfl rfl rfl rfl rfl rfl rfl
    | dsimp only

theorem State.windowClear_keeps {ps : List Part} {s0 s : State} (h0 : Keeps ps s0 s) (p : Nat) (b : Band) (supp : Int) (_ : Part.echoes ∈ ps := by assumption) : Keeps ps s0 (s.windowClear p b supp) := by
  unfold State.windowClear
  try dsimp only
  repeat' first
    | with_reducible exact h0
    | with_reducible assumption
    | with_reducible apply Keeps.ite
    | with_reducible apply State.setEcho_keeps
    | split
    | fail_if_no_progress refine Keeps.record ?_ rfl rfl rfl rfl rfl rfl rfl rfl rfl rfl rfl rfl rfl rfl rfl rfl rfl rfl rfl
    | dsimp only

/-! ## MeshOps -/

theorem State.takeRequest_keeps {ps : List Part} {s0 s : State} (h0 : Keeps ps s0 s) (e cls g : Nat) (_ : Part.spools ∈ ps := by assumption) : Keeps ps s0 (s.takeRequest e cls g) := by
  unfold State.takeRequest
  try dsimp only
  repeat' first
    | with_reducible exact h0
    | with_reducible assumption
    | with_reducible apply Keeps.ite
    | with_reducible apply State.setSpool_keeps
    | split
    | fail_if_no_progress refine Keeps.record ?_ rfl rfl rfl rfl rfl rfl rfl rfl rfl rfl rfl rfl rfl rfl rfl rfl rfl rfl rfl

theorem State.repairOnFrame_keeps {ps : List Part} {s0 s : State} (h0 : Keeps ps s0 s) (orig src : Nat) (_ : Part.dict ∈ ps := by assumption) (_ : Part.lanes ∈ ps := by assumption) (_ : Part.routes ∈ ps := by assumption) : Keeps ps s0 (s.repairOnFrame orig src) := by
  unfold State.repairOnFrame
  try dsimp only
  repeat' first
    | with_reducible exact h0
    | with_reducible assumption
    | with_reducible exact Keeps.refl _ _
    | with_reducible apply Keeps.ite
    | with_reducible apply State.startRepair_keeps
    | (with_reducible apply Keeps.each) <;> try intro _ _
    | split
    | dsimp only

theorem State.heard_keeps {ps : List Part} {s0 s : State} (h0 : Keeps ps s0 s) (rx : RxFrame) (_ : Part.dict ∈ ps := by assumption) (_ : Part.lanes ∈ ps := by assumption) (_ : Part.spools ∈ ps := by assumption) (_ : Part.routes ∈ ps := by assumption) : Keeps ps s0 (s.heard rx) := by
  unfold State.heard
  try dsimp only
  repeat' first
    | with_reducible exact h0
    | with_reducible assumption
    | with_reducible apply Keeps.ite
    | with_reducible apply State.bump_keeps
    | with_reducible apply State.touchLink_keeps
    | with_reducible apply State.takeRequest_keeps
    | with_reducible apply State.confirmRoute_keeps
    | with_reducible apply State.learnRoute_keeps
    | with_reducible apply State.repairOnFrame_keeps
    | split
    | fail_if_no_progress refine Keeps.record ?_ rfl rfl rfl rfl rfl rfl rfl rfl rfl rfl rfl rfl rfl rfl rfl rfl rfl rfl rfl
    | dsimp only

theorem State.enqueueRelay_keeps {ps : List Part} {s0 s : State} (h0 : Keeps ps s0 s) (r : RouteEntry) (rx : RxFrame) (_ : Part.dict ∈ ps := by assumption) (_ : Part.lanes ∈ ps := by assumption) : Keeps ps s0 (s.enqueueRelay r rx) := by
  unfold State.enqueueRelay
  try dsimp only
  repeat' first
    | with_reducible exact h0
    | with_reducible assumption
    | with_reducible apply Keeps.ite
    | with_reducible apply State.bump_keeps
    | with_reducible apply State.setTx_keeps
    | split
    | fail_if_no_progress refine Keeps.record ?_ rfl rfl rfl rfl rfl rfl rfl rfl rfl rfl rfl rfl rfl rfl rfl rfl rfl rfl rfl
    | dsimp only

theorem State.relay_keeps {ps : List Part} {s0 s : State} (h0 : Keeps ps s0 s) (rx : RxFrame) (_ : Part.dict ∈ ps := by assumption) (_ : Part.lanes ∈ ps := by assumption) (_ : Part.routes ∈ ps := by assumption) : Keeps ps s0 (s.relay rx) := by
  unfold State.relay
  try dsimp only
  repeat' first
    | with_reducible exact h0
    | with_reducible assumption
    | with_reducible apply Keeps.ite
    | with_reducible apply State.bump_keeps
    | with_reducible apply State.startRepair_keeps
    | with_reducible apply State.enqueueRelay_keeps
    | split
    | fail_if_no_progress refine Keeps.record ?_ rfl rfl rfl rfl rfl rfl rfl rfl rfl rfl rfl rfl rfl rfl rfl rfl rfl rfl rfl
    | dsimp only

theorem State.windowRx_keeps {ps : List Part} {s0 s : State} (h0 : Keeps ps s0 s) (rx : RxFrame) (_ : Part.out ∈ ps := by assumption) (_ : Part.dict ∈ ps := by assumption) (_ : Part.spools ∈ ps := by assumption) (_ : Part.pages ∈ ps := by assumption) : Keeps ps s0 (s.windowRx rx) := by
  unfold State.windowRx
  repeat' first
    | with_reducible exact h0
    | with_reducible assumption
    | with_reducible apply Keeps.ite
    | with_reducible apply State.receiveSeq_keeps
    | split

theorem State.forModule_keeps {ps : List Part} {s0 s : State} (h0 : Keeps ps s0 s) (rx : RxFrame) (f : State → State)
    (hf : ∀ {u : State}, Keeps ps s0 u → Keeps ps s0 (f u)) (_ : Part.out ∈ ps := by assumption) (_ : Part.dict ∈ ps := by assumption) (_ : Part.lanes ∈ ps := by assumption) (_ : Part.spools ∈ ps := by assumption) (_ : Part.pages ∈ ps := by assumption) (_ : Part.routes ∈ ps := by assumption) : Keeps ps s0 (s.forModule rx f) := by
  unfold State.forModule
  dsimp only
  split
  · exact hf (State.windowRx_keeps (State.applyAck_keeps h0 ..) _)
  · exact h0

theorem State.receive_keeps {ps : List Part} {s0 s : State} (h0 : Keeps ps s0 s) (rx : RxFrame) (types : List Nat) (f : State → State)
    (hf : ∀ {u : State}, Keeps ps s0 u → Keeps ps s0 (f u)) (_ : Part.out ∈ ps := by assumption) (_ : Part.dict ∈ ps := by assumption) (_ : Part.lanes ∈ ps := by assumption) (_ : Part.spools ∈ ps := by assumption) (_ : Part.pages ∈ ps := by assumption) (_ : Part.routes ∈ ps := by assumption) : Keeps ps s0 (s.receive rx types f) := by
  unfold State.receive
  repeat' first
    | exact h0
    | exact State.forModule_keeps (State.heard_keeps h0 _) _ _ hf
    | exact State.relay_keeps (State.heard_keeps h0 _) ..
    | exact State.heard_keeps h0 _
    | split
    | dsimp only

theorem State.malformed_keeps {ps : List Part} {s0 s : State} (h0 : Keeps ps s0 s)  (_ : Part.dict ∈ ps := by assumption) : Keeps ps s0 (s.malformed) := by
  unfold State.malformed
  repeat' first
    | with_reducible exact h0
    | with_reducible assumption
    | with_reducible apply State.bump_keeps

theorem State.takeOffset_keeps {ps : List Part} {s0 s : State} (h0 : Keeps ps s0 s) (rx : RxFrame) (o : Nat) (_ : Part.dict ∈ ps := by assumption) (_ : Part.routes ∈ ps := by assumption) : Keeps ps s0 (s.takeOffset rx o) := by
  unfold State.takeOffset
  try dsimp only
  repeat' first
    | with_reducible exact h0
    | with_reducible assumption
    | with_reducible apply Keeps.ite
    | with_reducible apply State.bump_keeps
    | with_reducible apply State.setLink_keeps
    | split
    | fail_if_no_progress refine Keeps.record ?_ rfl rfl rfl rfl rfl rfl rfl rfl rfl rfl rfl rfl rfl rfl rfl rfl rfl rfl rfl
    | dsimp only

theorem State.takeReport_keeps {ps : List Part} {s0 s : State} (h0 : Keeps ps s0 s) (rx : RxFrame) (_ : Part.dict ∈ ps := by assumption) (_ : Part.routes ∈ ps := by assumption) : Keeps ps s0 (s.takeReport rx) := by
  unfold State.takeReport
  try dsimp only
  repeat' first
    | with_reducible exact h0
    | with_reducible assumption
    | with_reducible apply Keeps.ite
    | with_reducible apply State.malformed_keeps
    | with_reducible apply State.setLink_keeps
    | split
    | fail_if_no_progress refine Keeps.record ?_ rfl rfl rfl rfl rfl rfl rfl rfl rfl rfl rfl rfl rfl rfl rfl rfl rfl rfl rfl
    | dsimp only

theorem State.takeState_keeps {ps : List Part} {s0 s : State} (h0 : Keeps ps s0 s) (rx : RxFrame) (_ : Part.dict ∈ ps := by assumption) (_ : Part.mgr ∈ ps := by assumption) (_ : Part.log ∈ ps := by assumption) (_ : Part.routes ∈ ps := by assumption) : Keeps ps s0 (s.takeState rx) := by
  unfold State.takeState
  try dsimp only
  repeat' first
    | with_reducible exact h0
    | with_reducible assumption
    | with_reducible apply Keeps.ite
    | with_reducible apply State.malformed_keeps
    | with_reducible apply State.takeOffset_keeps
    | with_reducible apply State.bump_keeps
    | with_reducible apply State.setNode_keeps
    | with_reducible apply State.compareReport_keeps
    | split
    | fail_if_no_progress refine Keeps.record ?_ rfl rfl rfl rfl rfl rfl rfl rfl rfl rfl rfl rfl rfl rfl rfl rfl rfl rfl rfl
    | dsimp only

theorem State.takeNeighbours_keeps {ps : List Part} {s0 s : State} (h0 : Keeps ps s0 s) (rx : RxFrame) (_ : Part.dict ∈ ps := by assumption) (_ : Part.routes ∈ ps := by assumption) : Keeps ps s0 (s.takeNeighbours rx) := by
  unfold State.takeNeighbours
  try dsimp only
  repeat' first
    | with_reducible exact h0
    | with_reducible assumption
    | with_reducible exact Keeps.refl _ _
    | with_reducible apply Keeps.ite
    | with_reducible apply State.malformed_keeps
    | with_reducible apply State.setNode_keeps
    | with_reducible apply State.reportRoute_keeps
    | (with_reducible apply Keeps.each) <;> try intro _ _
    | split
    | fail_if_no_progress refine Keeps.record ?_ rfl rfl rfl rfl rfl rfl rfl rfl rfl rfl rfl rfl rfl rfl rfl rfl rfl rfl rfl
    | dsimp only

theorem State.takeProbeReply_keeps {ps : List Part} {s0 s : State} (h0 : Keeps ps s0 s) (rx : RxFrame) (_ : Part.dict ∈ ps := by assumption) (_ : Part.routes ∈ ps := by assumption) : Keeps ps s0 (s.takeProbeReply rx) := by
  unfold State.takeProbeReply
  try dsimp only
  repeat' first
    | with_reducible exact h0
    | with_reducible assumption
    | with_reducible apply Keeps.ite
    | with_reducible apply State.malformed_keeps
    | with_reducible apply State.reportRoute_keeps
    | split
    | fail_if_no_progress refine Keeps.record ?_ rfl rfl rfl rfl rfl rfl rfl rfl rfl rfl rfl rfl rfl rfl rfl rfl rfl rfl rfl
    | dsimp only

theorem State.refuseJoin_keeps {ps : List Part} {s0 s : State} (h0 : Keeps ps s0 s) (e eui : Nat) (_ : Part.dict ∈ ps := by assumption) (_ : Part.log ∈ ps := by assumption) : Keeps ps s0 (s.refuseJoin e eui) := by
  unfold State.refuseJoin
  repeat' first
    | with_reducible exact h0
    | with_reducible assumption
    | with_reducible apply State.event_keeps
    | with_reducible apply State.bump_keeps

theorem State.takeJoin_keeps {ps : List Part} {s0 s : State} (h0 : Keeps ps s0 s) (rx : RxFrame) (_ : Part.dict ∈ ps := by assumption) (_ : Part.routes ∈ ps := by assumption) : Keeps ps s0 (s.takeJoin rx) := by
  unfold State.takeJoin
  try dsimp only
  repeat' first
    | with_reducible exact h0
    | with_reducible assumption
    | with_reducible apply State.setNode_keeps
    | with_reducible apply State.takeOffset_keeps
    | fail_if_no_progress refine Keeps.record ?_ rfl rfl rfl rfl rfl rfl rfl rfl rfl rfl rfl rfl rfl rfl rfl rfl rfl rfl rfl
    | dsimp only

/-! ## Port -/

theorem State.lineCheck_keeps {ps : List Part} {s0 s : State} (h0 : Keeps ps s0 s) (p i counter : Nat) (on : Bool) (_ : Part.dict ∈ ps := by assumption) (_ : Part.ports ∈ ps := by assumption) : Keeps ps s0 (s.lineCheck p i counter on) := by
  unfold State.lineCheck
  try dsimp only
  repeat' first
    | with_reducible exact h0
    | with_reducible assumption
    | with_reducible apply Keeps.ite
    | with_reducible apply State.lineFlag_keeps
    | with_reducible apply State.pbump_keeps
    | split
    | dsimp only

/-! ## Receive -/

theorem State.replayHeader_keeps {ps : List Part} {s0 s : State} (h0 : Keeps ps s0 s) (p l : Nat) (h : Header) (_ : Part.dict ∈ ps := by assumption) (_ : Part.lanes ∈ ps := by assumption) : Keeps ps s0 (s.replayHeader p l h) := by
  unfold State.replayHeader
  try dsimp only
  repeat' first
    | with_reducible exact h0
    | with_reducible assumption
    | with_reducible apply Keeps.ite
    | with_reducible apply State.setPair_keeps
    | with_reducible apply State.lbump_keeps
    | with_reducible apply State.lbumpN_keeps
    | split
    | fail_if_no_progress refine Keeps.record ?_ rfl rfl rfl rfl rfl rfl rfl rfl rfl rfl rfl rfl rfl rfl rfl rfl rfl rfl rfl
    | dsimp only

theorem State.grantUsed_keeps {ps : List Part} {s0 s : State} (h0 : Keeps ps s0 s) (p l src : Nat) (_ : Part.lanes ∈ ps := by assumption) : Keeps ps s0 (s.grantUsed p l src) := by
  unfold State.grantUsed
  try dsimp only
  repeat' first
    | with_reducible exact h0
    | with_reducible assumption
    | with_reducible apply Keeps.ite
    | with_reducible apply State.setTx_keeps
    | split
    | fail_if_no_progress refine Keeps.record ?_ rfl rfl rfl rfl rfl rfl rfl rfl rfl rfl rfl rfl rfl rfl rfl rfl rfl rfl rfl
    | dsimp only

theorem State.startReplay_keeps {ps : List Part} {s0 s : State} (h0 : Keeps ps s0 s) (p : Nat) (q : ReplayPair) (r : ReplayPass) (_ : Part.out ∈ ps := by assumption) (_ : Part.dict ∈ ps := by assumption) (_ : Part.lanes ∈ ps := by assumption) : Keeps ps s0 (s.startReplay p q r) := by
  unfold State.startReplay
  try dsimp only
  repeat' first
    | with_reducible exact h0
    | with_reducible assumption
    | with_reducible apply Keeps.ite
    | with_reducible apply State.setPair_keeps
    | with_reducible apply State.lbumpN_keeps
    | with_reducible apply State.lbump_keeps
    | with_reducible apply State.reportLost_keeps
    | split
    | fail_if_no_progress refine Keeps.record ?_ rfl rfl rfl rfl rfl rfl rfl rfl rfl rfl rfl rfl rfl rfl rfl rfl rfl rfl rfl
    | dsimp only

theorem State.replaySymbol_keeps {ps : List Part} {s0 s : State} (h0 : Keeps ps s0 s) (p l : Nat) (y : RxSymbol) (_ : Part.dict ∈ ps := by assumption) (_ : Part.echoes ∈ ps := by assumption) (_ : Part.lanes ∈ ps := by assumption) : Keeps ps s0 (s.replaySymbol p l y) := by
  unfold State.replaySymbol
  try dsimp only
  repeat' first
    | with_reducible exact h0
    | with_reducible assumption
    | with_reducible exact Keeps.refl _ _
    | with_reducible apply State.setPair_keeps
    | with_reducible apply State.rxSymbol_keeps <;> try intro _ _
    | split
    | fail_if_no_progress refine Keeps.record ?_ rfl rfl rfl rfl rfl rfl rfl rfl rfl rfl rfl rfl rfl rfl rfl rfl rfl rfl rfl
    | dsimp only

theorem State.mainSymbol_keeps {ps : List Part} {s0 s : State} (h0 : Keeps ps s0 s) (p l : Nat) (y : RxSymbol) (_ : Part.dict ∈ ps := by assumption) (_ : Part.echoes ∈ ps := by assumption) (_ : Part.lanes ∈ ps := by assumption) : Keeps ps s0 (s.mainSymbol p l y) := by
  unfold State.mainSymbol
  try dsimp only
  repeat' first
    | with_reducible exact h0
    | with_reducible assumption
    | with_reducible exact Keeps.refl _ _
    | with_reducible apply State.setLaneEcho_keeps
    | with_reducible apply State.setCur_keeps
    | with_reducible apply State.lbumpN_keeps
    | with_reducible apply State.rxSymbol_keeps <;> try intro _ _
    | split
    | fail_if_no_progress refine Keeps.record ?_ rfl rfl rfl rfl rfl rfl rfl rfl rfl rfl rfl rfl rfl rfl rfl rfl rfl rfl rfl
    | dsimp only

/-! ## Ring -/

theorem State.senseRelays_keeps {ps : List Part} {s0 s : State} (h0 : Keeps ps s0 s) (ke kw : Bool) (_ : Part.ring ∈ ps := by assumption) (_ : Part.sup ∈ ps := by assumption) : Keeps ps s0 (s.senseRelays ke kw) := by
  unfold State.senseRelays
  try dsimp only
  repeat' first
    | with_reducible exact h0
    | with_reducible assumption
    | with_reducible apply State.relayWear_keeps
    | fail_if_no_progress refine Keeps.record ?_ rfl rfl rfl rfl rfl rfl rfl rfl rfl rfl rfl rfl rfl rfl rfl rfl rfl rfl rfl
    | dsimp only

/-! ## Spool -/

theorem State.ackExpired_keeps {ps : List Part} {s0 s : State} (h0 : Keeps ps s0 s) (k : Nat) (q : InFlight) (_ : Part.out ∈ ps := by assumption) (_ : Part.dict ∈ ps := by assumption) (_ : Part.lanes ∈ ps := by assumption) (_ : Part.spools ∈ ps := by assumption) (_ : Part.pages ∈ ps := by assumption) (_ : Part.routes ∈ ps := by assumption) : Keeps ps s0 (s.ackExpired k q) := by
  unfold State.ackExpired
  try dsimp only
  repeat' first
    | with_reducible exact h0
    | with_reducible assumption
    | with_reducible apply Keeps.ite
    | with_reducible apply State.setSpool_keeps
    | with_reducible apply State.setRoute_keeps
    | with_reducible apply State.touchEndpoint_keeps
    | with_reducible apply State.bump_keeps
    | with_reducible apply State.requeue_keeps
    | with_reducible apply State.endPacket_keeps
    | split
    | fail_if_no_progress refine Keeps.record ?_ rfl rfl rfl rfl rfl rfl rfl rfl rfl rfl rfl rfl rfl rfl rfl rfl rfl rfl rfl
    | dsimp only

end Sys2Proof.Machine
end

