-- ==== Sys2Proof/Laws/Moves.lean ====
section
/-! SUPPORT. What a command that answers a next state keeps: the variant, the queue, the direction of time (but for a restart at 0) and
the canonical form. -/

set_option Elab.async false

namespace Sys2Proof.Machine

/-- A command moved the block from one state to another. -/
structure Moves (s t : State) : Prop where
  variant : t.variant = s.variant
  pending : t.pending = s.pending
  tsc : s.tsc ≤ t.tsc ∨ t.tsc = 0
  canonical : s.Canonical → t.Canonical

@[simp] theorem State.upTo_tsc (s : State) (t : Nat) : (s.upTo t).tsc = max s.tsc t := rfl

theorem State.upTo_canonical {s : State} (t : Nat) (c : s.Canonical) : (s.upTo t).Canonical := { c with }

/-- A command that brings the counter to its own time and then only does what every operation keeps. -/
theorem Moves.of_keeps {ps : List Part} {s u : State} {t : Nat} (h : Keeps ps (s.upTo t) u) : Moves s u :=
  ⟨h.variant, h.pending,
   by rcases h.tsc with e | e
      · left; rw [e]; exact Nat.le_max_left _ _
      · exact .inr e,
   fun c => h.canonical (s.upTo_canonical t c)⟩

/-- What State.run answers. -/
theorem State.run_eq (s : State) (t : Nat) (f : State → State) :
    s.run t f = .next (if s.rst.powered = true then f (s.upTo t) else s.upTo t) := rfl

@[simp] theorem State.run_powered {s : State} (h : s.rst.powered = true) (t : Nat) (f : State → State) :
    s.run t f = .next (f (s.upTo t)) := by rw [State.run_eq, if_pos h]

theorem State.run_unpowered {s : State} (h : s.rst.powered = false) (t : Nat) (f : State → State) :
    s.run t f = .next (s.upTo t) := by rw [State.run_eq, if_neg (by simp [h])]

/-- A command that runs an operation which keeps what every operation keeps. -/
theorem State.run_keeps {ps : List Part} {s u : State} {t : Nat} {f : State → State}
    (hf : ∀ {v : State}, Keeps ps (s.upTo t) v → Keeps ps (s.upTo t) (f v)) (h : s.run t f = .next u) : Keeps ps (s.upTo t) u := by
  rw [State.run_eq] at h
  cases h
  split
  · exact hf (Keeps.refl _ _)
  · exact Keeps.refl _ _

/-- What changed after the counter came to the command's time, changed besides the counter. -/
theorem Frame.of_upTo {ps : List Part} {s u : State} {t : Nat} (h : Frame ps (s.upTo t) u) : Frame (.tsc :: ps) s u := fun p hp => by
  have k := h p fun m => hp (List.mem_cons_of_mem _ m)
  cases p <;> first | exact k | exact absurd (List.mem_cons_self) hp

/-- What a command that runs an operation did. -/
theorem Did.of_keeps {ps : List Part} {s u : State} {t : Nat} (h : Keeps ps (s.upTo t) u) (hn : Part.tsc ∉ ps) : Did t ps s u :=
  ⟨h.frame .tsc hn, Frame.of_upTo h.frame⟩

/-- A command that runs an operation on a running module completes, and did what its own lemma says. -/
theorem State.run_did {ps : List Part} {s : State} {t : Nat} {f : State → State} {P : State → Prop} (hp : s.rst.powered = true)
    (hk : ∀ u, s.run t f = .next u → Keeps ps (s.upTo t) u) (hn : Part.tsc ∉ ps) (h : P (f (s.upTo t))) :
    ∃ u, s.run t f = .next u ∧ Did t ps s u ∧ P u :=
  ⟨_, State.run_powered hp t f, Did.of_keeps (hk _ (State.run_powered hp t f)) hn, h⟩

end Sys2Proof.Machine
end

