-- ==== Sys2Proof/Laws/CommandKeeps.lean ====
section
/-! SUPPORT. One lemma per command: whatever it answers as a next state, it changed only the parts named (besides the counter), and it
kept what every operation keeps. -/

set_option Elab.async false

set_option linter.unusedTactic false
set_option linter.unreachableTactic false
set_option linter.unusedVariables false

namespace Sys2Proof.Machine

theorem execRef10Qualified_keeps (t : Nat) (s : State) {s' : State} (h : execRef10Qualified t s = .next s') : Keeps [.time] (s.upTo t) s' := by
  refine State.run_keeps (fun {v} hv => ?_) h
  clear h
  try dsimp only
  repeat' first
    | with_reducible exact hv | with_reducible assumption | decide | with_reducible exact Keeps.refl _ _ | with_reducible apply Keeps.ite
    | (with_reducible apply Keeps.each) <;> try intro _ _ | (with_reducible apply Keeps.when) <;> try intro _ | split
    | fail_if_no_progress refine Keeps.record ?_ rfl rfl rfl rfl rfl rfl rfl rfl rfl rfl rfl rfl rfl rfl rfl rfl rfl rfl rfl | dsimp only

theorem execRef10Lost_keeps (t : Nat) (offset : Int) (s : State) {s' : State} (h : execRef10Lost t offset s = .next s') : Keeps [.time]
    (s.upTo t) s' := by
  refine State.run_keeps (fun {v} hv => ?_) h
  clear h
  try dsimp only
  repeat' first
    | with_reducible exact hv | with_reducible assumption | decide | with_reducible exact Keeps.refl _ _ | with_reducible apply Keeps.ite
    | (with_reducible apply Keeps.each) <;> try intro _ _ | (with_reducible apply Keeps.when) <;> try intro _ | split
    | fail_if_no_progress refine Keeps.record ?_ rfl rfl rfl rfl rfl rfl rfl rfl rfl rfl rfl rfl rfl rfl rfl rfl rfl rfl rfl | dsimp only

theorem execTimeSourceQualified_keeps (t : Nat) (src : TimeSource) (s : State) {s' : State}
    (h : execTimeSourceQualified t src s = .next s') : Keeps [.time] (s.upTo t) s' := by
  refine State.run_keeps (fun {v} hv => ?_) h
  clear h
  try dsimp only
  repeat' first
    | with_reducible exact hv | with_reducible assumption | decide | with_reducible exact Keeps.refl _ _ | with_reducible apply Keeps.ite
    | with_reducible apply State.chooseSource_keeps | (with_reducible apply Keeps.each) <;> try intro _ _
    | (with_reducible apply Keeps.when) <;> try intro _ | split
    | fail_if_no_progress refine Keeps.record ?_ rfl rfl rfl rfl rfl rfl rfl rfl rfl rfl rfl rfl rfl rfl rfl rfl rfl rfl rfl | dsimp only

theorem execTimeSourceLost_keeps (t : Nat) (src : TimeSource) (s : State) {s' : State}
    (h : execTimeSourceLost t src s = .next s') : Keeps [.free, .time] (s.upTo t) s' := by
  refine State.run_keeps (fun {v} hv => ?_) h
  clear h
  try dsimp only
  repeat' first
    | with_reducible exact hv | with_reducible assumption | decide | with_reducible exact Keeps.refl _ _ | with_reducible apply Keeps.ite
    | with_reducible apply State.keepOffset_keeps | with_reducible apply State.chooseSource_keeps
    | (with_reducible apply Keeps.each) <;> try intro _ _ | (with_reducible apply Keeps.when) <;> try intro _ | split
    | fail_if_no_progress refine Keeps.record ?_ rfl rfl rfl rfl rfl rfl rfl rfl rfl rfl rfl rfl rfl rfl rfl rfl rfl rfl rfl | dsimp only

theorem execTimeHoldoverExpiry_keeps (t : Nat) (s : State) {s' : State} (h : execTimeHoldoverExpiry t s = .next s') : Keeps [.time]
    (s.upTo t) s' := by
  refine State.run_keeps (fun {v} hv => ?_) h
  clear h
  try dsimp only
  repeat' first
    | with_reducible exact hv | with_reducible assumption | decide | with_reducible exact Keeps.refl _ _ | with_reducible apply Keeps.ite
    | with_reducible apply State.settlePpsOut_keeps | (with_reducible apply Keeps.each) <;> try intro _ _
    | (with_reducible apply Keeps.when) <;> try intro _ | split
    | fail_if_no_progress refine Keeps.record ?_ rfl rfl rfl rfl rfl rfl rfl rfl rfl rfl rfl rfl rfl rfl rfl rfl rfl rfl rfl | dsimp only

theorem execServoCorrection_keeps (t : Nat) (error : Int) (s : State) {s' : State}
    (h : execServoCorrection t error s = .next s') : Keeps [.dict, .time] (s.upTo t) s' := by
  refine State.run_keeps (fun {v} hv => ?_) h
  clear h
  try dsimp only
  repeat' first
    | with_reducible exact hv | with_reducible assumption | decide | with_reducible exact Keeps.refl _ _ | with_reducible apply Keeps.ite
    | with_reducible apply State.setVal_keeps | with_reducible apply State.correct_keeps | (with_reducible apply Keeps.each) <;> try intro _ _
    | (with_reducible apply Keeps.when) <;> try intro _ | split
    | fail_if_no_progress refine Keeps.record ?_ rfl rfl rfl rfl rfl rfl rfl rfl rfl rfl rfl rfl rfl rfl rfl rfl rfl rfl rfl | dsimp only

theorem execPpsEdge_keeps (t : Nat) (s : State) {s' : State} (h : execPpsEdge t s = .next s') : Keeps [.time] (s.upTo t) s' := by
  refine State.run_keeps (fun {v} hv => ?_) h
  clear h
  try dsimp only
  repeat' first
    | with_reducible exact hv | with_reducible assumption | decide | with_reducible exact Keeps.refl _ _ | with_reducible apply Keeps.ite
    | (with_reducible apply Keeps.each) <;> try intro _ _ | (with_reducible apply Keeps.when) <;> try intro _ | split
    | fail_if_no_progress refine Keeps.record ?_ rfl rfl rfl rfl rfl rfl rfl rfl rfl rfl rfl rfl rfl rfl rfl rfl rfl rfl rfl | dsimp only

theorem execPpsOutEdge_keeps (t : Nat) (s : State) {s' : State} (h : execPpsOutEdge t s = .next s') : Keeps [.out, .time] (s.upTo t) s' := by
  refine State.run_keeps (fun {v} hv => ?_) h
  clear h
  try dsimp only
  repeat' first
    | with_reducible exact hv | with_reducible assumption | decide | with_reducible exact Keeps.refl _ _ | with_reducible apply Keeps.ite
    | with_reducible apply State.emit_keeps | (with_reducible apply Keeps.each) <;> try intro _ _ | (with_reducible apply Keeps.when) <;> try intro _
    | split | fail_if_no_progress refine Keeps.record ?_ rfl rfl rfl rfl rfl rfl rfl rfl rfl rfl rfl rfl rfl rfl rfl rfl rfl rfl rfl | dsimp only

theorem execTxqDoorbell_keeps (t f prod : Nat) (descs : List TxDesc) (s : State) {s' : State}
    (h : execTxqDoorbell t f prod descs s = .next s') : Keeps [.out, .dict, .lanes, .spools, .pages] (s.upTo t) s' := by
  refine State.run_keeps (fun {v} hv => ?_) h
  clear h
  try dsimp only
  repeat' first
    | with_reducible exact hv | with_reducible assumption | decide | with_reducible exact Keeps.refl _ _ | with_reducible apply Keeps.ite
    | with_reducible apply State.txDoorbell_keeps | (with_reducible apply Keeps.each) <;> try intro _ _
    | (with_reducible apply Keeps.when) <;> try intro _ | split
    | fail_if_no_progress refine Keeps.record ?_ rfl rfl rfl rfl rfl rfl rfl rfl rfl rfl rfl rfl rfl rfl rfl rfl rfl rfl rfl | dsimp only

theorem execRxfDoorbell_keeps (t f prod : Nat) (bufs : List RxBuffer) (s : State) {s' : State}
    (h : execRxfDoorbell t f prod bufs s = .next s') : Keeps [.out, .pages] (s.upTo t) s' := by
  refine State.run_keeps (fun {v} hv => ?_) h
  clear h
  try dsimp only
  repeat' first
    | with_reducible exact hv | with_reducible assumption | decide | with_reducible exact Keeps.refl _ _ | with_reducible apply Keeps.ite
    | with_reducible apply State.rxDoorbell_keeps | (with_reducible apply Keeps.each) <;> try intro _ _
    | (with_reducible apply Keeps.when) <;> try intro _ | split
    | fail_if_no_progress refine Keeps.record ?_ rfl rfl rfl rfl rfl rfl rfl rfl rfl rfl rfl rfl rfl rfl rfl rfl rfl rfl rfl | dsimp only

theorem execRxHoldTimeout_keeps (t f : Nat) (s : State) {s' : State}
    (h : execRxHoldTimeout t f s = .next s') : Keeps [.out, .dict, .pages] (s.upTo t) s' := by
  refine State.run_keeps (fun {v} hv => ?_) h
  clear h
  try dsimp only
  repeat' first
    | with_reducible exact hv | with_reducible assumption | decide | with_reducible exact Keeps.refl _ _ | with_reducible apply Keeps.ite
    | with_reducible apply State.setPage_keeps | with_reducible apply State.bump_keeps | with_reducible apply State.drainRx_keeps
    | (with_reducible apply Keeps.each) <;> try intro _ _ | (with_reducible apply Keeps.when) <;> try intro _ | split
    | fail_if_no_progress refine Keeps.record ?_ rfl rfl rfl rfl rfl rfl rfl rfl rfl rfl rfl rfl rfl rfl rfl rfl rfl rfl rfl | dsimp only

theorem execHostConsumerIndexWrite_keeps (t f ring idx : Nat) (s : State) {s' : State}
    (h : execHostConsumerIndexWrite t f ring idx s = .next s') : Keeps [.out, .dict, .lanes, .spools, .pages] (s.upTo t) s' := by
  refine State.run_keeps (fun {v} hv => ?_) h
  clear h
  try dsimp only
  repeat' first
    | with_reducible exact hv | with_reducible assumption | decide | with_reducible exact Keeps.refl _ _ | with_reducible apply Keeps.ite
    | with_reducible apply State.consumerWrite_keeps | (with_reducible apply Keeps.each) <;> try intro _ _
    | (with_reducible apply Keeps.when) <;> try intro _ | split
    | fail_if_no_progress refine Keeps.record ?_ rfl rfl rfl rfl rfl rfl rfl rfl rfl rfl rfl rfl rfl rfl rfl rfl rfl rfl rfl | dsimp only

theorem execTamperDetected_keeps (t sensor : Nat) (s : State) {s' : State}
    (h : execTamperDetected t sensor s = .next s') : Keeps [.tsc, .out, .dict, .written, .hier, .mgr, .time, .tether, .log, .ports, .echoes, .lanes,
    .spools, .pages, .routes, .cells, .trip, .cipher, .checkParts, .ring, .sensing, .rst, .sup] (s.upTo t) s' := by
  unfold execTamperDetected at h
  split at h
  · cases h
    apply State.tamper_keeps <;> first | decide | exact Keeps.refl _ _
  · cases h
    dsimp only
    split
    · fail_if_no_progress refine Keeps.record ?_ rfl rfl rfl rfl rfl rfl rfl rfl rfl rfl rfl rfl rfl rfl rfl rfl rfl rfl rfl
      apply State.setVal_keeps <;> first | decide | exact Keeps.refl _ _
    · exact Keeps.refl _ _

theorem execEventDelivery_keeps (t : Nat) (ev : Option EventIn) (s : State) {s' : State}
    (h : execEventDelivery t ev s = .next s') : Keeps [.out, .dict, .log, .pages] (s.upTo t) s' := by
  refine State.run_keeps (fun {v} hv => ?_) h
  clear h
  try dsimp only
  repeat' first
    | with_reducible exact hv | with_reducible assumption | decide | with_reducible exact Keeps.refl _ _ | with_reducible apply Keeps.ite
    | with_reducible apply State.deliverEvent_keeps | with_reducible apply State.flushStage_keeps
    | (with_reducible apply Keeps.each) <;> try intro _ _ | (with_reducible apply Keeps.when) <;> try intro _ | split
    | fail_if_no_progress refine Keeps.record ?_ rfl rfl rfl rfl rfl rfl rfl rfl rfl rfl rfl rfl rfl rfl rfl rfl rfl rfl rfl | dsimp only

theorem execEvtPop_keeps (t f : Nat) (w : Word32) (s : State) {s' : State} (h : execEvtPop t f w s = .next s') : Keeps [.pages] (s.upTo t) s' := by
  refine State.run_keeps (fun {v} hv => ?_) h
  clear h
  try dsimp only
  repeat' first
    | with_reducible exact hv | with_reducible assumption | decide | with_reducible exact Keeps.refl _ _ | with_reducible apply Keeps.ite
    | with_reducible apply State.setPage_keeps | (with_reducible apply Keeps.each) <;> try intro _ _
    | (with_reducible apply Keeps.when) <;> try intro _ | split
    | fail_if_no_progress refine Keeps.record ?_ rfl rfl rfl rfl rfl rfl rfl rfl rfl rfl rfl rfl rfl rfl rfl rfl rfl rfl rfl | dsimp only

theorem execEvtOverflowClear_keeps (t f : Nat) (w : Word32) (s : State) {s' : State}
    (h : execEvtOverflowClear t f w s = .next s') : Keeps [.pages] (s.upTo t) s' := by
  refine State.run_keeps (fun {v} hv => ?_) h
  clear h
  try dsimp only
  repeat' first
    | with_reducible exact hv | with_reducible assumption | decide | with_reducible exact Keeps.refl _ _ | with_reducible apply Keeps.ite
    | with_reducible apply State.setPage_keeps | (with_reducible apply Keeps.each) <;> try intro _ _
    | (with_reducible apply Keeps.when) <;> try intro _ | split
    | fail_if_no_progress refine Keeps.record ?_ rfl rfl rfl rfl rfl rfl rfl rfl rfl rfl rfl rfl rfl rfl rfl rfl rfl rfl rfl | dsimp only

theorem execCheckJobFetch_keeps (t f : Nat) (d : CheckDesc) (s : State) {s' : State}
    (h : execCheckJobFetch t f d s = .next s') : Keeps [.out, .dict, .pages, .checkParts] (s.upTo t) s' := by
  refine State.run_keeps (fun {v} hv => ?_) h
  clear h
  try dsimp only
  repeat' first
    | with_reducible exact hv | with_reducible assumption | decide | with_reducible exact Keeps.refl _ _ | with_reducible apply Keeps.ite
    | with_reducible apply State.takeCheck_keeps | with_reducible apply State.setPage_keeps | (with_reducible apply Keeps.each) <;> try intro _ _
    | (with_reducible apply Keeps.when) <;> try intro _ | split
    | fail_if_no_progress refine Keeps.record ?_ rfl rfl rfl rfl rfl rfl rfl rfl rfl rfl rfl rfl rfl rfl rfl rfl rfl rfl rfl | dsimp only

theorem execCheckPartComplete_keeps (t f ctx : Nat) (dmaOk : Bool) (data : Bytes) (s : State) {s' : State}
    (h : execCheckPartComplete t f ctx dmaOk data s = .next s') : Keeps [.out, .dict, .pages, .checkParts] (s.upTo t) s' := by
  refine State.run_keeps (fun {v} hv => ?_) h
  clear h
  try dsimp only
  repeat' first
    | with_reducible exact hv | with_reducible assumption | decide | with_reducible exact Keeps.refl _ _ | with_reducible apply Keeps.ite
    | with_reducible apply State.finishCheck_keeps | with_reducible apply State.failCheck_keeps | (with_reducible apply Keeps.each) <;> try intro _ _
    | (with_reducible apply Keeps.when) <;> try intro _ | split
    | fail_if_no_progress refine Keeps.record ?_ rfl rfl rfl rfl rfl rfl rfl rfl rfl rfl rfl rfl rfl rfl rfl rfl rfl rfl rfl | dsimp only

theorem execCheckCtxCtrlWrite_keeps (t f ctx : Nat) (w : Word32) (s : State) {s' : State}
    (h : execCheckCtxCtrlWrite t f ctx w s = .next s') : Keeps [.pages] (s.upTo t) s' := by
  refine State.run_keeps (fun {v} hv => ?_) h
  clear h
  try dsimp only
  repeat' first
    | with_reducible exact hv | with_reducible assumption | decide | with_reducible exact Keeps.refl _ _ | with_reducible apply Keeps.ite
    | with_reducible apply State.checkCtrlWrite_keeps | (with_reducible apply Keeps.each) <;> try intro _ _
    | (with_reducible apply Keeps.when) <;> try intro _ | split
    | fail_if_no_progress refine Keeps.record ?_ rfl rfl rfl rfl rfl rfl rfl rfl rfl rfl rfl rfl rfl rfl rfl rfl rfl rfl rfl | dsimp only

theorem execCheckValueWrite_keeps (t f ctx : Nat) (high : Bool) (w : Word32) (s : State) {s' : State}
    (h : execCheckValueWrite t f ctx high w s = .next s') : Keeps [.pages] (s.upTo t) s' := by
  refine State.run_keeps (fun {v} hv => ?_) h
  clear h
  try dsimp only
  repeat' first
    | with_reducible exact hv | with_reducible assumption | decide | with_reducible exact Keeps.refl _ _ | with_reducible apply Keeps.ite
    | with_reducible apply State.checkValueWrite_keeps | (with_reducible apply Keeps.each) <;> try intro _ _
    | (with_reducible apply Keeps.when) <;> try intro _ | split
    | fail_if_no_progress refine Keeps.record ?_ rfl rfl rfl rfl rfl rfl rfl rfl rfl rfl rfl rfl rfl rfl rfl rfl rfl rfl rfl | dsimp only

theorem execCipherJobFetch_keeps (t f : Nat) (d : CipherDesc) (s : State) {s' : State}
    (h : execCipherJobFetch t f d s = .next s') : Keeps [.out, .dict, .pages, .cipher] (s.upTo t) s' := by
  refine State.run_keeps (fun {v} hv => ?_) h
  clear h
  try dsimp only
  repeat' first
    | with_reducible exact hv | with_reducible assumption | decide | with_reducible exact Keeps.refl _ _ | with_reducible apply Keeps.ite
    | with_reducible apply State.takeCipher_keeps | with_reducible apply State.setPage_keeps | (with_reducible apply Keeps.each) <;> try intro _ _
    | (with_reducible apply Keeps.when) <;> try intro _ | split
    | fail_if_no_progress refine Keeps.record ?_ rfl rfl rfl rfl rfl rfl rfl rfl rfl rfl rfl rfl rfl rfl rfl rfl rfl rfl rfl | dsimp only

theorem execCipherSegmentComplete_keeps (t job unit : Nat) (guardOk dmaOk : Bool) (input aad : Bytes) (s : State) {s' : State}
    (h : execCipherSegmentComplete t job unit guardOk dmaOk input aad s = .next s') : Keeps [.tsc, .out, .dict, .written, .hier, .mgr, .time,
    .tether, .log, .ports, .echoes, .lanes, .spools, .pages, .routes, .cells, .trip, .cipher, .checkParts, .ring, .sensing, .rst, .sup]
    (s.upTo t) s' := by
  refine State.run_keeps (fun {v} hv => ?_) h
  clear h
  try dsimp only
  repeat' first
    | with_reducible exact hv | with_reducible assumption | decide | with_reducible exact Keeps.refl _ _ | with_reducible apply Keeps.ite
    | with_reducible apply State.failJob_keeps | with_reducible apply State.guardFails_keeps | with_reducible apply State.setJob_keeps
    | with_reducible apply State.finishJob_keeps | (with_reducible apply Keeps.each) <;> try intro _ _
    | (with_reducible apply Keeps.when) <;> try intro _ | split
    | fail_if_no_progress refine Keeps.record ?_ rfl rfl rfl rfl rfl rfl rfl rfl rfl rfl rfl rfl rfl rfl rfl rfl rfl rfl rfl | dsimp only

theorem execKnownAnswerTest_keeps (t core : Nat) (pass : Bool) (s : State) {s' : State}
    (h : execKnownAnswerTest t core pass s = .next s') : Keeps [.hier, .log, .cipher, .checkParts, .sup] (s.upTo t) s' := by
  refine State.run_keeps (fun {v} hv => ?_) h
  clear h
  try dsimp only
  repeat' first
    | with_reducible exact hv | with_reducible assumption | decide | with_reducible exact Keeps.refl _ _ | with_reducible apply Keeps.ite
    | with_reducible apply State.withdraw_keeps | (with_reducible apply Keeps.each) <;> try intro _ _
    | (with_reducible apply Keeps.when) <;> try intro _ | split
    | fail_if_no_progress refine Keeps.record ?_ rfl rfl rfl rfl rfl rfl rfl rfl rfl rfl rfl rfl rfl rfl rfl rfl rfl rfl rfl | dsimp only

theorem execLoad_keeps (t f : Nat) (w : Word32) (s : State) {s' : State}
    (h : execLoad t f w s = .next s') : Keeps [.out, .dict, .mgr, .log, .pages, .routes, .cells, .trip, .cipher] (s.upTo t) s' := by
  refine State.run_keeps (fun {v} hv => ?_) h
  clear h
  try dsimp only
  repeat' first
    | with_reducible exact hv | with_reducible assumption | decide | with_reducible exact Keeps.refl _ _ | with_reducible apply Keeps.ite
    | with_reducible apply State.keyCommand_keeps | (with_reducible apply Keeps.each) <;> try intro _ _
    | (with_reducible apply Keeps.when) <;> try intro _ | split
    | fail_if_no_progress refine Keeps.record ?_ rfl rfl rfl rfl rfl rfl rfl rfl rfl rfl rfl rfl rfl rfl rfl rfl rfl rfl rfl | dsimp only

theorem execUnwrap_keeps (t f : Nat) (w : Word32) (s : State) {s' : State}
    (h : execUnwrap t f w s = .next s') : Keeps [.out, .dict, .mgr, .log, .pages, .routes, .cells, .trip, .cipher] (s.upTo t) s' := by
  refine State.run_keeps (fun {v} hv => ?_) h
  clear h
  try dsimp only
  repeat' first
    | with_reducible exact hv | with_reducible assumption | decide | with_reducible exact Keeps.refl _ _ | with_reducible apply Keeps.ite
    | with_reducible apply State.keyCommand_keeps | (with_reducible apply Keeps.each) <;> try intro _ _
    | (with_reducible apply Keeps.when) <;> try intro _ | split
    | fail_if_no_progress refine Keeps.record ?_ rfl rfl rfl rfl rfl rfl rfl rfl rfl rfl rfl rfl rfl rfl rfl rfl rfl rfl rfl | dsimp only

theorem execErase_keeps (t f : Nat) (w : Word32) (s : State) {s' : State}
    (h : execErase t f w s = .next s') : Keeps [.out, .dict, .mgr, .log, .pages, .routes, .cells, .trip, .cipher] (s.upTo t) s' := by
  refine State.run_keeps (fun {v} hv => ?_) h
  clear h
  try dsimp only
  repeat' first
    | with_reducible exact hv | with_reducible assumption | decide | with_reducible exact Keeps.refl _ _ | with_reducible apply Keeps.ite
    | with_reducible apply State.keyCommand_keeps | (with_reducible apply Keeps.each) <;> try intro _ _
    | (with_reducible apply Keeps.when) <;> try intro _ | split
    | fail_if_no_progress refine Keeps.record ?_ rfl rfl rfl rfl rfl rfl rfl rfl rfl rfl rfl rfl rfl rfl rfl rfl rfl rfl rfl | dsimp only

theorem execEraseComplete_keeps (t f : Nat) (s : State) {s' : State}
    (h : execEraseComplete t f s = .next s') : Keeps [.out, .dict, .mgr, .log, .pages, .routes, .cells, .trip, .cipher] (s.upTo t) s' := by
  refine State.run_keeps (fun {v} hv => ?_) h
  clear h
  try dsimp only
  repeat' first
    | with_reducible exact hv | with_reducible assumption | decide | with_reducible exact Keeps.refl _ _ | with_reducible apply Keeps.ite
    | with_reducible apply State.keyDone_keeps | with_reducible apply State.serveKeys_keeps | (with_reducible apply Keeps.each) <;> try intro _ _
    | (with_reducible apply Keeps.when) <;> try intro _ | split
    | fail_if_no_progress refine Keeps.record ?_ rfl rfl rfl rfl rfl rfl rfl rfl rfl rfl rfl rfl rfl rfl rfl rfl rfl rfl rfl | dsimp only

theorem execSlotStorageError_keeps (t : Nat) (slot : Option Nat) (s : State) {s' : State}
    (h : execSlotStorageError t slot s = .next s') : Keeps [.tsc, .out, .dict, .written, .hier, .mgr, .time, .tether, .log, .ports, .echoes, .lanes,
    .spools, .pages, .routes, .cells, .trip, .cipher, .checkParts, .ring, .sensing, .rst, .sup] (s.upTo t) s' := by
  refine State.run_keeps (fun {v} hv => ?_) h
  clear h
  try dsimp only
  repeat' first
    | with_reducible exact hv | with_reducible assumption | decide | with_reducible exact Keeps.refl _ _ | with_reducible apply Keeps.ite
    | with_reducible apply State.holdBlock_keeps | with_reducible apply State.event_keeps | with_reducible apply State.withdrawJobs_keeps
    | with_reducible apply State.setSlot_keeps | with_reducible apply State.eraseSlot_keeps | (with_reducible apply Keeps.each) <;> try intro _ _
    | (with_reducible apply Keeps.when) <;> try intro _ | split
    | fail_if_no_progress refine Keeps.record ?_ rfl rfl rfl rfl rfl rfl rfl rfl rfl rfl rfl rfl rfl rfl rfl rfl rfl rfl rfl | dsimp only

theorem execCtxAbort_keeps (t f : Nat) (w : Word32) (s : State) {s' : State}
    (h : execCtxAbort t f w s = .next s') : Keeps [.out, .dict, .pages, .cipher] (s.upTo t) s' := by
  refine State.run_keeps (fun {v} hv => ?_) h
  clear h
  try dsimp only
  repeat' first
    | with_reducible exact hv | with_reducible assumption | decide | with_reducible exact Keeps.refl _ _ | with_reducible apply Keeps.ite
    | with_reducible apply State.abortCtxs_keeps | (with_reducible apply Keeps.each) <;> try intro _ _
    | (with_reducible apply Keeps.when) <;> try intro _ | split
    | fail_if_no_progress refine Keeps.record ?_ rfl rfl rfl rfl rfl rfl rfl rfl rfl rfl rfl rfl rfl rfl rfl rfl rfl rfl rfl | dsimp only

theorem execMbxGo_keeps (t f : Nat) (w : Word32) (s : State) {s' : State}
    (h : execMbxGo t f w s = .next s') : Keeps [.out, .mgr, .pages, .ring] (s.upTo t) s' := by
  refine State.run_keeps (fun {v} hv => ?_) h
  clear h
  try dsimp only
  repeat' first
    | with_reducible exact hv | with_reducible assumption | decide | with_reducible exact Keeps.refl _ _ | with_reducible apply Keeps.ite
    | with_reducible apply State.mailboxWrite_keeps | (with_reducible apply Keeps.each) <;> try intro _ _
    | (with_reducible apply Keeps.when) <;> try intro _ | split
    | fail_if_no_progress refine Keeps.record ?_ rfl rfl rfl rfl rfl rfl rfl rfl rfl rfl rfl rfl rfl rfl rfl rfl rfl rfl rfl | dsimp only

theorem execRingRequestArrival_keeps (t mac : Nat) (msg : Bytes) (s : State) {s' : State}
    (h : execRingRequestArrival t mac msg s = .next s') : Keeps [.out, .dict, .mgr, .log, .pages, .ring] (s.upTo t) s' := by
  refine State.run_keeps (fun {v} hv => ?_) h
  clear h
  try dsimp only
  repeat' first
    | with_reducible exact hv | with_reducible assumption | decide | with_reducible exact Keeps.refl _ _ | with_reducible apply Keeps.ite
    | with_reducible apply State.ringAnnounce_keeps | with_reducible apply State.ringRequest_keeps
    | (with_reducible apply Keeps.each) <;> try intro _ _ | (with_reducible apply Keeps.when) <;> try intro _ | split
    | fail_if_no_progress refine Keeps.record ?_ rfl rfl rfl rfl rfl rfl rfl rfl rfl rfl rfl rfl rfl rfl rfl rfl rfl rfl rfl | dsimp only

theorem execRead_keeps (t : Nat) (s : State) {s' : State}
    (h : execRead t s = .next s') : Keeps [.free, .out, .dict, .written, .mgr, .time, .pages, .ring, .rst] (s.upTo t) s' := by
  refine State.run_keeps (fun {v} hv => ?_) h
  clear h
  try dsimp only
  repeat' first
    | with_reducible exact hv | with_reducible assumption | decide | with_reducible exact Keeps.refl _ _ | with_reducible apply Keeps.ite
    | with_reducible apply State.serve_keeps | (with_reducible apply Keeps.each) <;> try intro _ _
    | (with_reducible apply Keeps.when) <;> try intro _ | split
    | fail_if_no_progress refine Keeps.record ?_ rfl rfl rfl rfl rfl rfl rfl rfl rfl rfl rfl rfl rfl rfl rfl rfl rfl rfl rfl | dsimp only

theorem execWrite_keeps (t : Nat) (s : State) {s' : State}
    (h : execWrite t s = .next s') : Keeps [.free, .out, .dict, .written, .mgr, .time, .pages, .ring, .rst] (s.upTo t) s' := by
  refine State.run_keeps (fun {v} hv => ?_) h
  clear h
  try dsimp only
  repeat' first
    | with_reducible exact hv | with_reducible assumption | decide | with_reducible exact Keeps.refl _ _ | with_reducible apply Keeps.ite
    | with_reducible apply State.serve_keeps | (with_reducible apply Keeps.each) <;> try intro _ _
    | (with_reducible apply Keeps.when) <;> try intro _ | split
    | fail_if_no_progress refine Keeps.record ?_ rfl rfl rfl rfl rfl rfl rfl rfl rfl rfl rfl rfl rfl rfl rfl rfl rfl rfl rfl | dsimp only

theorem execBundle_keeps (t : Nat) (s : State) {s' : State}
    (h : execBundle t s = .next s') : Keeps [.free, .out, .dict, .written, .mgr, .time, .pages, .ring, .rst] (s.upTo t) s' := by
  refine State.run_keeps (fun {v} hv => ?_) h
  clear h
  try dsimp only
  repeat' first
    | with_reducible exact hv | with_reducible assumption | decide | with_reducible exact Keeps.refl _ _ | with_reducible apply Keeps.ite
    | with_reducible apply State.serve_keeps | (with_reducible apply Keeps.each) <;> try intro _ _
    | (with_reducible apply Keeps.when) <;> try intro _ | split
    | fail_if_no_progress refine Keeps.record ?_ rfl rfl rfl rfl rfl rfl rfl rfl rfl rfl rfl rfl rfl rfl rfl rfl rfl rfl rfl | dsimp only

theorem execWindowRead_keeps (t : Nat) (s : State) {s' : State}
    (h : execWindowRead t s = .next s') : Keeps [.free, .out, .dict, .written, .mgr, .time, .pages, .ring, .rst] (s.upTo t) s' := by
  refine State.run_keeps (fun {v} hv => ?_) h
  clear h
  try dsimp only
  repeat' first
    | with_reducible exact hv | with_reducible assumption | decide | with_reducible exact Keeps.refl _ _ | with_reducible apply Keeps.ite
    | with_reducible apply State.serve_keeps | (with_reducible apply Keeps.each) <;> try intro _ _
    | (with_reducible apply Keeps.when) <;> try intro _ | split
    | fail_if_no_progress refine Keeps.record ?_ rfl rfl rfl rfl rfl rfl rfl rfl rfl rfl rfl rfl rfl rfl rfl rfl rfl rfl rfl | dsimp only

theorem execWindowWrite_keeps (t : Nat) (s : State) {s' : State}
    (h : execWindowWrite t s = .next s') : Keeps [.free, .out, .dict, .written, .mgr, .time, .pages, .ring, .rst] (s.upTo t) s' := by
  refine State.run_keeps (fun {v} hv => ?_) h
  clear h
  try dsimp only
  repeat' first
    | with_reducible exact hv | with_reducible assumption | decide | with_reducible exact Keeps.refl _ _ | with_reducible apply Keeps.ite
    | with_reducible apply State.serve_keeps | (with_reducible apply Keeps.each) <;> try intro _ _
    | (with_reducible apply Keeps.when) <;> try intro _ | split
    | fail_if_no_progress refine Keeps.record ?_ rfl rfl rfl rfl rfl rfl rfl rfl rfl rfl rfl rfl rfl rfl rfl rfl rfl rfl rfl | dsimp only

theorem execDigestQuery_keeps (t : Nat) (s : State) {s' : State}
    (h : execDigestQuery t s = .next s') : Keeps [.free, .out, .dict, .written, .mgr, .time, .pages, .ring, .rst] (s.upTo t) s' := by
  refine State.run_keeps (fun {v} hv => ?_) h
  clear h
  try dsimp only
  repeat' first
    | with_reducible exact hv | with_reducible assumption | decide | with_reducible exact Keeps.refl _ _ | with_reducible apply Keeps.ite
    | with_reducible apply State.serve_keeps | (with_reducible apply Keeps.each) <;> try intro _ _
    | (with_reducible apply Keeps.when) <;> try intro _ | split
    | fail_if_no_progress refine Keeps.record ?_ rfl rfl rfl rfl rfl rfl rfl rfl rfl rfl rfl rfl rfl rfl rfl rfl rfl rfl rfl | dsimp only

theorem execCommit_keeps (t : Nat) (s : State) {s' : State}
    (h : execCommit t s = .next s') : Keeps [.free, .out, .dict, .written, .mgr, .time, .pages, .ring, .rst] (s.upTo t) s' := by
  refine State.run_keeps (fun {v} hv => ?_) h
  clear h
  try dsimp only
  repeat' first
    | with_reducible exact hv | with_reducible assumption | decide | with_reducible exact Keeps.refl _ _ | with_reducible apply Keeps.ite
    | with_reducible apply State.serve_keeps | (with_reducible apply Keeps.each) <;> try intro _ _
    | (with_reducible apply Keeps.when) <;> try intro _ | split
    | fail_if_no_progress refine Keeps.record ?_ rfl rfl rfl rfl rfl rfl rfl rfl rfl rfl rfl rfl rfl rfl rfl rfl rfl rfl rfl | dsimp only

theorem execAbort_keeps (t : Nat) (s : State) {s' : State}
    (h : execAbort t s = .next s') : Keeps [.free, .out, .dict, .written, .mgr, .time, .pages, .ring, .rst] (s.upTo t) s' := by
  refine State.run_keeps (fun {v} hv => ?_) h
  clear h
  try dsimp only
  repeat' first
    | with_reducible exact hv | with_reducible assumption | decide | with_reducible exact Keeps.refl _ _ | with_reducible apply Keeps.ite
    | with_reducible apply State.serve_keeps | (with_reducible apply Keeps.each) <;> try intro _ _
    | (with_reducible apply Keeps.when) <;> try intro _ | split
    | fail_if_no_progress refine Keeps.record ?_ rfl rfl rfl rfl rfl rfl rfl rfl rfl rfl rfl rfl rfl rfl rfl rfl rfl rfl rfl | dsimp only

theorem execSetStationTime_keeps (t : Nat) (s : State) {s' : State}
    (h : execSetStationTime t s = .next s') : Keeps [.free, .out, .dict, .written, .mgr, .time, .pages, .ring, .rst] (s.upTo t) s' := by
  refine State.run_keeps (fun {v} hv => ?_) h
  clear h
  try dsimp only
  repeat' first
    | with_reducible exact hv | with_reducible assumption | decide | with_reducible exact Keeps.refl _ _ | with_reducible apply Keeps.ite
    | with_reducible apply State.serve_keeps | (with_reducible apply Keeps.each) <;> try intro _ _
    | (with_reducible apply Keeps.when) <;> try intro _ | split
    | fail_if_no_progress refine Keeps.record ?_ rfl rfl rfl rfl rfl rfl rfl rfl rfl rfl rfl rfl rfl rfl rfl rfl rfl rfl rfl | dsimp only

theorem execInsertAtBeat_keeps (t : Nat) (s : State) {s' : State}
    (h : execInsertAtBeat t s = .next s') : Keeps [.free, .out, .dict, .written, .mgr, .time, .pages, .ring, .rst] (s.upTo t) s' := by
  refine State.run_keeps (fun {v} hv => ?_) h
  clear h
  try dsimp only
  repeat' first
    | with_reducible exact hv | with_reducible assumption | decide | with_reducible exact Keeps.refl _ _ | with_reducible apply Keeps.ite
    | with_reducible apply State.serve_keeps | (with_reducible apply Keeps.each) <;> try intro _ _
    | (with_reducible apply Keeps.when) <;> try intro _ | split
    | fail_if_no_progress refine Keeps.record ?_ rfl rfl rfl rfl rfl rfl rfl rfl rfl rfl rfl rfl rfl rfl rfl rfl rfl rfl rfl | dsimp only

theorem execClampFlagClear_keeps (t : Nat) (s : State) {s' : State}
    (h : execClampFlagClear t s = .next s') : Keeps [.free, .out, .dict, .written, .mgr, .time, .pages, .ring, .rst] (s.upTo t) s' := by
  refine State.run_keeps (fun {v} hv => ?_) h
  clear h
  try dsimp only
  repeat' first
    | with_reducible exact hv | with_reducible assumption | decide | with_reducible exact Keeps.refl _ _ | with_reducible apply Keeps.ite
    | with_reducible apply State.serve_keeps | (with_reducible apply Keeps.each) <;> try intro _ _
    | (with_reducible apply Keeps.when) <;> try intro _ | split
    | fail_if_no_progress refine Keeps.record ?_ rfl rfl rfl rfl rfl rfl rfl rfl rfl rfl rfl rfl rfl rfl rfl rfl rfl rfl rfl | dsimp only

theorem execManagerFull_keeps (t : Nat) (s : State) {s' : State}
    (h : execManagerFull t s = .next s') : Keeps [.free, .out, .dict, .written, .mgr, .time, .pages, .ring, .rst] (s.upTo t) s' := by
  refine State.run_keeps (fun {v} hv => ?_) h
  clear h
  try dsimp only
  repeat' first
    | with_reducible exact hv | with_reducible assumption | decide | with_reducible exact Keeps.refl _ _ | with_reducible apply Keeps.ite
    | with_reducible apply State.serve_keeps | (with_reducible apply Keeps.each) <;> try intro _ _
    | (with_reducible apply Keeps.when) <;> try intro _ | split
    | fail_if_no_progress refine Keeps.record ?_ rfl rfl rfl rfl rfl rfl rfl rfl rfl rfl rfl rfl rfl rfl rfl rfl rfl rfl rfl | dsimp only

theorem execManagerWarm_keeps (t : Nat) (s : State) {s' : State}
    (h : execManagerWarm t s = .next s') : Keeps [.free, .out, .dict, .written, .mgr, .time, .pages, .ring, .rst] (s.upTo t) s' := by
  refine State.run_keeps (fun {v} hv => ?_) h
  clear h
  try dsimp only
  repeat' first
    | with_reducible exact hv | with_reducible assumption | decide | with_reducible exact Keeps.refl _ _ | with_reducible apply Keeps.ite
    | with_reducible apply State.serve_keeps | (with_reducible apply Keeps.each) <;> try intro _ _
    | (with_reducible apply Keeps.when) <;> try intro _ | split
    | fail_if_no_progress refine Keeps.record ?_ rfl rfl rfl rfl rfl rfl rfl rfl rfl rfl rfl rfl rfl rfl rfl rfl rfl rfl rfl | dsimp only

theorem execSaveConfiguration_keeps (t : Nat) (s : State) {s' : State}
    (h : execSaveConfiguration t s = .next s') : Keeps [.free, .out, .dict, .written, .mgr, .time, .pages, .ring, .rst] (s.upTo t) s' := by
  refine State.run_keeps (fun {v} hv => ?_) h
  clear h
  try dsimp only
  repeat' first
    | with_reducible exact hv | with_reducible assumption | decide | with_reducible exact Keeps.refl _ _ | with_reducible apply Keeps.ite
    | with_reducible apply State.serve_keeps | (with_reducible apply Keeps.each) <;> try intro _ _
    | (with_reducible apply Keeps.when) <;> try intro _ | split
    | fail_if_no_progress refine Keeps.record ?_ rfl rfl rfl rfl rfl rfl rfl rfl rfl rfl rfl rfl rfl rfl rfl rfl rfl rfl rfl | dsimp only

theorem execImageBlock_keeps (t : Nat) (s : State) {s' : State}
    (h : execImageBlock t s = .next s') : Keeps [.free, .out, .dict, .written, .mgr, .time, .pages, .ring, .rst] (s.upTo t) s' := by
  refine State.run_keeps (fun {v} hv => ?_) h
  clear h
  try dsimp only
  repeat' first
    | with_reducible exact hv | with_reducible assumption | decide | with_reducible exact Keeps.refl _ _ | with_reducible apply Keeps.ite
    | with_reducible apply State.serve_keeps | (with_reducible apply Keeps.each) <;> try intro _ _
    | (with_reducible apply Keeps.when) <;> try intro _ | split
    | fail_if_no_progress refine Keeps.record ?_ rfl rfl rfl rfl rfl rfl rfl rfl rfl rfl rfl rfl rfl rfl rfl rfl rfl rfl rfl | dsimp only

theorem execEraseBank_keeps (t : Nat) (s : State) {s' : State}
    (h : execEraseBank t s = .next s') : Keeps [.free, .out, .dict, .written, .mgr, .time, .pages, .ring, .rst] (s.upTo t) s' := by
  refine State.run_keeps (fun {v} hv => ?_) h
  clear h
  try dsimp only
  repeat' first
    | with_reducible exact hv | with_reducible assumption | decide | with_reducible exact Keeps.refl _ _ | with_reducible apply Keeps.ite
    | with_reducible apply State.serve_keeps | (with_reducible apply Keeps.each) <;> try intro _ _
    | (with_reducible apply Keeps.when) <;> try intro _ | split
    | fail_if_no_progress refine Keeps.record ?_ rfl rfl rfl rfl rfl rfl rfl rfl rfl rfl rfl rfl rfl rfl rfl rfl rfl rfl rfl | dsimp only

theorem execVerify_keeps (t : Nat) (found : BankCheck) (s : State) {s' : State}
    (h : execVerify t found s = .next s') : Keeps [.free, .out, .dict, .written, .mgr, .time, .pages, .ring, .rst] (s.upTo t) s' := by
  refine State.run_keeps (fun {v} hv => ?_) h
  clear h
  try dsimp only
  repeat' first
    | with_reducible exact hv | with_reducible assumption | decide | with_reducible exact Keeps.refl _ _ | with_reducible apply Keeps.ite
    | with_reducible apply State.serve_keeps | (with_reducible apply Keeps.each) <;> try intro _ _
    | (with_reducible apply Keeps.when) <;> try intro _ | split
    | fail_if_no_progress refine Keeps.record ?_ rfl rfl rfl rfl rfl rfl rfl rfl rfl rfl rfl rfl rfl rfl rfl rfl rfl rfl rfl | dsimp only

theorem execEraseConfigurationOnly_keeps (t : Nat) (s : State) {s' : State}
    (h : execEraseConfigurationOnly t s = .next s') : Keeps [.free, .out, .dict, .written, .mgr, .time, .pages, .ring, .rst] (s.upTo t) s' := by
  refine State.run_keeps (fun {v} hv => ?_) h
  clear h
  try dsimp only
  repeat' first
    | with_reducible exact hv | with_reducible assumption | decide | with_reducible exact Keeps.refl _ _ | with_reducible apply Keeps.ite
    | with_reducible apply State.serve_keeps | (with_reducible apply Keeps.each) <;> try intro _ _
    | (with_reducible apply Keeps.when) <;> try intro _ | split
    | fail_if_no_progress refine Keeps.record ?_ rfl rfl rfl rfl rfl rfl rfl rfl rfl rfl rfl rfl rfl rfl rfl rfl rfl rfl rfl | dsimp only

theorem execBallastSubstitute_keeps (t : Nat) (s : State) {s' : State}
    (h : execBallastSubstitute t s = .next s') : Keeps [.free, .out, .dict, .written, .mgr, .time, .pages, .ring, .rst] (s.upTo t) s' := by
  refine State.run_keeps (fun {v} hv => ?_) h
  clear h
  try dsimp only
  repeat' first
    | with_reducible exact hv | with_reducible assumption | decide | with_reducible exact Keeps.refl _ _ | with_reducible apply Keeps.ite
    | with_reducible apply State.serve_keeps | (with_reducible apply Keeps.each) <;> try intro _ _
    | (with_reducible apply Keeps.when) <;> try intro _ | split
    | fail_if_no_progress refine Keeps.record ?_ rfl rfl rfl rfl rfl rfl rfl rfl rfl rfl rfl rfl rfl rfl rfl rfl rfl rfl rfl | dsimp only

theorem execBallastReturn_keeps (t : Nat) (s : State) {s' : State}
    (h : execBallastReturn t s = .next s') : Keeps [.free, .out, .dict, .written, .mgr, .time, .pages, .ring, .rst] (s.upTo t) s' := by
  refine State.run_keeps (fun {v} hv => ?_) h
  clear h
  try dsimp only
  repeat' first
    | with_reducible exact hv | with_reducible assumption | decide | with_reducible exact Keeps.refl _ _ | with_reducible apply Keeps.ite
    | with_reducible apply State.serve_keeps | (with_reducible apply Keeps.each) <;> try intro _ _
    | (with_reducible apply Keeps.when) <;> try intro _ | split
    | fail_if_no_progress refine Keeps.record ?_ rfl rfl rfl rfl rfl rfl rfl rfl rfl rfl rfl rfl rfl rfl rfl rfl rfl rfl rfl | dsimp only

theorem execTamperLatchClear_keeps (t : Nat) (s : State) {s' : State}
    (h : execTamperLatchClear t s = .next s') : Keeps [.free, .out, .dict, .written, .mgr, .time, .pages, .ring, .rst] (s.upTo t) s' := by
  refine State.run_keeps (fun {v} hv => ?_) h
  clear h
  try dsimp only
  repeat' first
    | with_reducible exact hv | with_reducible assumption | decide | with_reducible exact Keeps.refl _ _ | with_reducible apply Keeps.ite
    | with_reducible apply State.serve_keeps | (with_reducible apply Keeps.each) <;> try intro _ _
    | (with_reducible apply Keeps.when) <;> try intro _ | split
    | fail_if_no_progress refine Keeps.record ?_ rfl rfl rfl rfl rfl rfl rfl rfl rfl rfl rfl rfl rfl rfl rfl rfl rfl rfl rfl | dsimp only

theorem execCommitDistributionDone_keeps (t : Nat) (s : State) {s' : State}
    (h : execCommitDistributionDone t s = .next s') : Keeps [.out, .dict, .mgr, .pages, .ring] (s.upTo t) s' := by
  refine State.run_keeps (fun {v} hv => ?_) h
  clear h
  try dsimp only
  repeat' first
    | with_reducible exact hv | with_reducible assumption | decide | with_reducible exact Keeps.refl _ _ | with_reducible apply Keeps.ite
    | with_reducible apply State.failCommit_keeps | with_reducible apply State.setVal_keeps | with_reducible apply State.respond_keeps
    | (with_reducible apply Keeps.each) <;> try intro _ _ | (with_reducible apply Keeps.when) <;> try intro _ | split
    | fail_if_no_progress refine Keeps.record ?_ rfl rfl rfl rfl rfl rfl rfl rfl rfl rfl rfl rfl rfl rfl rfl rfl rfl rfl rfl | dsimp only

theorem execCommitActivate_keeps (t : Nat) (s : State) {s' : State}
    (h : execCommitActivate t s = .next s') : Keeps [.out, .dict, .hier, .mgr, .time, .tether, .log, .ports, .echoes, .lanes, .spools, .pages,
    .routes, .cells, .trip, .cipher, .checkParts, .ring, .sensing, .rst, .sup] (s.upTo t) s' := by
  refine State.run_keeps (fun {v} hv => ?_) h
  clear h
  try dsimp only
  repeat' first
    | with_reducible exact hv | with_reducible assumption | decide | with_reducible exact Keeps.refl _ _ | with_reducible apply Keeps.ite
    | with_reducible apply State.activateCommit_keeps | (with_reducible apply Keeps.each) <;> try intro _ _
    | (with_reducible apply Keeps.when) <;> try intro _ | split
    | fail_if_no_progress refine Keeps.record ?_ rfl rfl rfl rfl rfl rfl rfl rfl rfl rfl rfl rfl rfl rfl rfl rfl rfl rfl rfl | dsimp only

theorem execDigestRecomputeDone_keeps (t : Nat) (staged : Bool) (s : State) {s' : State}
    (h : execDigestRecomputeDone t staged s = .next s') : Keeps [.dict, .mgr] (s.upTo t) s' := by
  refine State.run_keeps (fun {v} hv => ?_) h
  clear h
  try dsimp only
  repeat' first
    | with_reducible exact hv | with_reducible assumption | decide | with_reducible exact Keeps.refl _ _ | with_reducible apply Keeps.ite
    | with_reducible apply State.overlay_keeps | (with_reducible apply Keeps.each) <;> try intro _ _
    | (with_reducible apply Keeps.when) <;> try intro _ | split
    | fail_if_no_progress refine Keeps.record ?_ rfl rfl rfl rfl rfl rfl rfl rfl rfl rfl rfl rfl rfl rfl rfl rfl rfl rfl rfl | dsimp only

theorem execDigestAnnounceReceived_keeps (t mac : Nat) (msg : Bytes) (s : State) {s' : State}
    (h : execDigestAnnounceReceived t mac msg s = .next s') : Keeps [.dict, .mgr, .log] (s.upTo t) s' := by
  refine State.run_keeps (fun {v} hv => ?_) h
  clear h
  try dsimp only
  repeat' first
    | with_reducible exact hv | with_reducible assumption | decide | with_reducible exact Keeps.refl _ _ | with_reducible apply Keeps.ite
    | with_reducible apply State.ringAnnounce_keeps | (with_reducible apply Keeps.each) <;> try intro _ _
    | (with_reducible apply Keeps.when) <;> try intro _ | split
    | fail_if_no_progress refine Keeps.record ?_ rfl rfl rfl rfl rfl rfl rfl rfl rfl rfl rfl rfl rfl rfl rfl rfl rfl rfl rfl | dsimp only

theorem execDigestAnnounceSend_keeps (t : Nat) (s : State) {s' : State}
    (h : execDigestAnnounceSend t s = .next s') : Keeps [.out, .mgr, .ring] (s.upTo t) s' := by
  refine State.run_keeps (fun {v} hv => ?_) h
  clear h
  try dsimp only
  repeat' first
    | with_reducible exact hv | with_reducible assumption | decide | with_reducible exact Keeps.refl _ _ | with_reducible apply Keeps.ite
    | with_reducible apply State.announce_keeps | (with_reducible apply Keeps.each) <;> try intro _ _
    | (with_reducible apply Keeps.when) <;> try intro _ | split
    | fail_if_no_progress refine Keeps.record ?_ rfl rfl rfl rfl rfl rfl rfl rfl rfl rfl rfl rfl rfl rfl rfl rfl rfl rfl rfl | dsimp only

theorem execRegisterWrite_keeps (t f offset : Nat) (w : Word32) (s : State) {s' : State}
    (h : execRegisterWrite t f offset w s = .next s') : Keeps [.free, .out, .dict, .mgr, .log, .lanes, .spools, .pages, .routes, .cells, .trip,
    .cipher, .ring] (s.upTo t) s' := by
  unfold execRegisterWrite at h
  split at h
  · refine State.run_keeps (fun {v} hv => ?_) h
    split
    · apply State.writeReg_keeps <;> first | exact hv | decide
    · exact hv
  · cases h

theorem execPowerOn_keeps (t : Nat) (s : State) {s' : State}
    (h : execPowerOn t s = .next s') : Keeps [.tsc, .dict, .written, .hier, .mgr, .time, .tether, .log, .ports, .echoes, .lanes, .spools, .pages,
    .routes, .cells, .trip, .cipher, .checkParts, .ring, .sensing, .rst, .sup] (s.upTo t) s' := by
  unfold execPowerOn at h
  dsimp only at h
  split at h
  · cases h
    (with_reducible apply Keeps.each) <;> try intro _ _
    swap
    · apply State.logTamper_keeps <;> first | decide | exact Keeps.refl _ _
    fail_if_no_progress refine Keeps.record ?_ rfl rfl rfl rfl rfl rfl rfl rfl rfl rfl rfl rfl rfl rfl rfl rfl rfl rfl rfl
    apply State.performReset_keeps <;> first | decide | skip
    fail_if_no_progress refine Keeps.record ?_ rfl rfl rfl rfl rfl rfl rfl rfl rfl rfl rfl rfl rfl rfl rfl rfl rfl rfl rfl
    exact Keeps.refl _ _
  · cases h
    exact Keeps.refl _ _

theorem execBrownOut_keeps (t : Nat) (s : State) {s' : State}
    (h : execBrownOut t s = .next s') : Keeps [.tsc, .dict, .written, .hier, .mgr, .time, .tether, .log, .ports, .echoes, .lanes, .spools, .pages,
    .routes, .cells, .trip, .cipher, .checkParts, .ring, .sensing, .rst, .sup] (s.upTo t) s' := by
  refine State.run_keeps (fun {v} hv => ?_) h
  clear h
  try dsimp only
  repeat' first
    | with_reducible exact hv | with_reducible assumption | decide | with_reducible exact Keeps.refl _ _ | with_reducible apply Keeps.ite
    | with_reducible apply State.performReset_keeps | (with_reducible apply Keeps.each) <;> try intro _ _
    | (with_reducible apply Keeps.when) <;> try intro _ | split
    | fail_if_no_progress refine Keeps.record ?_ rfl rfl rfl rfl rfl rfl rfl rfl rfl rfl rfl rfl rfl rfl rfl rfl rfl rfl rfl | dsimp only

theorem execExternal_keeps (t low : Nat) (s : State) {s' : State}
    (h : execExternal t low s = .next s') : Keeps [.tsc, .dict, .written, .hier, .mgr, .time, .tether, .log, .ports, .echoes, .lanes, .spools,
    .pages, .routes, .cells, .trip, .cipher, .checkParts, .ring, .sensing, .rst, .sup] (s.upTo t) s' := by
  refine State.run_keeps (fun {v} hv => ?_) h
  clear h
  try dsimp only
  repeat' first
    | with_reducible exact hv | with_reducible assumption | decide | with_reducible exact Keeps.refl _ _ | with_reducible apply Keeps.ite
    | with_reducible apply State.requestReset_keeps | (with_reducible apply Keeps.each) <;> try intro _ _
    | (with_reducible apply Keeps.when) <;> try intro _ | split
    | fail_if_no_progress refine Keeps.record ?_ rfl rfl rfl rfl rfl rfl rfl rfl rfl rfl rfl rfl rfl rfl rfl rfl rfl rfl rfl | dsimp only

theorem execWatchdog_keeps (t : Nat) (s : State) {s' : State}
    (h : execWatchdog t s = .next s') : Keeps [.tsc, .dict, .written, .hier, .mgr, .time, .tether, .log, .ports, .echoes, .lanes, .spools, .pages,
    .routes, .cells, .trip, .cipher, .checkParts, .ring, .sensing, .rst, .sup] (s.upTo t) s' := by
  refine State.run_keeps (fun {v} hv => ?_) h
  clear h
  try dsimp only
  repeat' first
    | with_reducible exact hv | with_reducible assumption | decide | with_reducible exact Keeps.refl _ _ | with_reducible apply Keeps.ite
    | with_reducible apply State.requestReset_keeps | (with_reducible apply Keeps.each) <;> try intro _ _
    | (with_reducible apply Keeps.when) <;> try intro _ | split
    | fail_if_no_progress refine Keeps.record ?_ rfl rfl rfl rfl rfl rfl rfl rfl rfl rfl rfl rfl rfl rfl rfl rfl rfl rfl rfl | dsimp only

theorem execThermal_keeps (t : Nat) (temp : Int) (s : State) {s' : State}
    (h : execThermal t temp s = .next s') : Keeps [.tsc, .dict, .written, .hier, .mgr, .time, .tether, .log, .ports, .echoes, .lanes, .spools,
    .pages, .routes, .cells, .trip, .cipher, .checkParts, .ring, .sensing, .rst, .sup] (s.upTo t) s' := by
  refine State.run_keeps (fun {v} hv => ?_) h
  clear h
  try dsimp only
  repeat' first
    | with_reducible exact hv | with_reducible assumption | decide | with_reducible exact Keeps.refl _ _ | with_reducible apply Keeps.ite
    | with_reducible apply State.requestReset_keeps | (with_reducible apply Keeps.each) <;> try intro _ _
    | (with_reducible apply Keeps.when) <;> try intro _ | split
    | fail_if_no_progress refine Keeps.record ?_ rfl rfl rfl rfl rfl rfl rfl rfl rfl rfl rfl rfl rfl rfl rfl rfl rfl rfl rfl | dsimp only

theorem execThermalRelease_keeps (t : Nat) (temp : Int) (s : State) {s' : State}
    (h : execThermalRelease t temp s = .next s') : Keeps [.rst] (s.upTo t) s' := by
  refine State.run_keeps (fun {v} hv => ?_) h
  clear h
  try dsimp only
  repeat' first
    | with_reducible exact hv | with_reducible assumption | decide | with_reducible exact Keeps.refl _ _ | with_reducible apply Keeps.ite
    | with_reducible apply State.nextRelease_keeps | (with_reducible apply Keeps.each) <;> try intro _ _
    | (with_reducible apply Keeps.when) <;> try intro _ | split
    | fail_if_no_progress refine Keeps.record ?_ rfl rfl rfl rfl rfl rfl rfl rfl rfl rfl rfl rfl rfl rfl rfl rfl rfl rfl rfl | dsimp only

theorem execDomainPowerGood_keeps (t d : Nat) (s : State) {s' : State}
    (h : execDomainPowerGood t d s = .next s') : Keeps [.tsc, .time, .log, .rst] (s.upTo t) s' := by
  refine State.run_keeps (fun {v} hv => ?_) h
  clear h
  try dsimp only
  repeat' first
    | with_reducible exact hv | with_reducible assumption | decide | with_reducible exact Keeps.refl _ _ | with_reducible apply Keeps.ite
    | with_reducible apply State.startCounter_keeps | with_reducible apply State.setDomain_keeps
    | (with_reducible apply Keeps.each) <;> try intro _ _ | (with_reducible apply Keeps.when) <;> try intro _ | split
    | fail_if_no_progress refine Keeps.record ?_ rfl rfl rfl rfl rfl rfl rfl rfl rfl rfl rfl rfl rfl rfl rfl rfl rfl rfl rfl | dsimp only

theorem execDomainClockGood_keeps (t d : Nat) (s : State) {s' : State} (h : execDomainClockGood t d s = .next s') : Keeps [.hier, .rst]
    (s.upTo t) s' := by
  refine State.run_keeps (fun {v} hv => ?_) h
  clear h
  try dsimp only
  repeat' first
    | with_reducible exact hv | with_reducible assumption | decide | with_reducible exact Keeps.refl _ _ | with_reducible apply Keeps.ite
    | with_reducible apply State.domainGood_keeps | (with_reducible apply Keeps.each) <;> try intro _ _
    | (with_reducible apply Keeps.when) <;> try intro _ | split
    | fail_if_no_progress refine Keeps.record ?_ rfl rfl rfl rfl rfl rfl rfl rfl rfl rfl rfl rfl rfl rfl rfl rfl rfl rfl rfl | dsimp only

theorem execDomainClockTimeout_keeps (t d : Nat) (s : State) {s' : State}
    (h : execDomainClockTimeout t d s = .next s') : Keeps [.tsc, .out, .dict, .written, .hier, .mgr, .time, .tether, .log, .ports, .echoes, .lanes,
    .spools, .pages, .routes, .cells, .trip, .cipher, .checkParts, .ring, .sensing, .rst, .sup] (s.upTo t) s' := by
  refine State.run_keeps (fun {v} hv => ?_) h
  clear h
  try dsimp only
  repeat' first
    | with_reducible exact hv | with_reducible assumption | decide | with_reducible exact Keeps.refl _ _ | with_reducible apply Keeps.ite
    | with_reducible apply State.domainFault_keeps | (with_reducible apply Keeps.each) <;> try intro _ _
    | (with_reducible apply Keeps.when) <;> try intro _ | split
    | fail_if_no_progress refine Keeps.record ?_ rfl rfl rfl rfl rfl rfl rfl rfl rfl rfl rfl rfl rfl rfl rfl rfl rfl rfl rfl | dsimp only

theorem execDomainClockLost_keeps (t d : Nat) (s : State) {s' : State}
    (h : execDomainClockLost t d s = .next s') : Keeps [.out, .dict, .hier, .tether, .log, .ports, .echoes, .lanes, .spools, .pages, .routes, .cells,
    .trip, .cipher, .checkParts, .ring, .sensing, .rst, .sup] (s.upTo t) s' := by
  refine State.run_keeps (fun {v} hv => ?_) h
  clear h
  try dsimp only
  repeat' first
    | with_reducible exact hv | with_reducible assumption | decide | with_reducible exact Keeps.refl _ _ | with_reducible apply Keeps.ite
    | with_reducible apply State.clockFault_keeps | with_reducible apply State.setDomain_keeps | with_reducible apply State.domainDown_keeps
    | (with_reducible apply Keeps.each) <;> try intro _ _ | (with_reducible apply Keeps.when) <;> try intro _ | split
    | fail_if_no_progress refine Keeps.record ?_ rfl rfl rfl rfl rfl rfl rfl rfl rfl rfl rfl rfl rfl rfl rfl rfl rfl rfl rfl | dsimp only

theorem execDomainClockReturn_keeps (t d : Nat) (s : State) {s' : State}
    (h : execDomainClockReturn t d s = .next s') : Keeps [.hier, .rst] (s.upTo t) s' := by
  refine State.run_keeps (fun {v} hv => ?_) h
  clear h
  try dsimp only
  repeat' first
    | with_reducible exact hv | with_reducible assumption | decide | with_reducible exact Keeps.refl _ _ | with_reducible apply Keeps.ite
    | with_reducible apply State.domainGood_keeps | (with_reducible apply Keeps.each) <;> try intro _ _
    | (with_reducible apply Keeps.when) <;> try intro _ | split
    | fail_if_no_progress refine Keeps.record ?_ rfl rfl rfl rfl rfl rfl rfl rfl rfl rfl rfl rfl rfl rfl rfl rfl rfl rfl rfl | dsimp only

theorem execBootImageVerified_keeps (t : Nat) (a b : BankCheck) (s : State) {s' : State}
    (h : execBootImageVerified t a b s = .next s') : Keeps [.out, .dict, .hier, .tether, .log, .ports, .echoes, .lanes, .spools, .pages, .routes,
    .cells, .trip, .cipher, .checkParts, .ring, .sensing, .rst, .sup] (s.upTo t) s' := by
  refine State.run_keeps (fun {v} hv => ?_) h
  clear h
  try dsimp only
  repeat' first
    | with_reducible exact hv | with_reducible assumption | decide | with_reducible exact Keeps.refl _ _ | with_reducible apply Keeps.ite
    | with_reducible apply State.boot_keeps | with_reducible apply State.reloadFirmware_keeps | (with_reducible apply Keeps.each) <;> try intro _ _
    | (with_reducible apply Keeps.when) <;> try intro _ | split
    | fail_if_no_progress refine Keeps.record ?_ rfl rfl rfl rfl rfl rfl rfl rfl rfl rfl rfl rfl rfl rfl rfl rfl rfl rfl rfl | dsimp only

theorem execBootCommit_keeps (t : Nat) (s : State) {s' : State}
    (h : execBootCommit t s = .next s') : Keeps [.out, .dict, .mgr, .time, .tether, .log, .routes, .cells, .trip, .rst] (s.upTo t) s' := by
  refine State.run_keeps (fun {v} hv => ?_) h
  clear h
  try dsimp only
  repeat' first
    | with_reducible exact hv | with_reducible assumption | decide | with_reducible exact Keeps.refl _ _ | with_reducible apply Keeps.ite
    | with_reducible apply State.bootCommit_keeps | (with_reducible apply Keeps.each) <;> try intro _ _
    | (with_reducible apply Keeps.when) <;> try intro _ | split
    | fail_if_no_progress refine Keeps.record ?_ rfl rfl rfl rfl rfl rfl rfl rfl rfl rfl rfl rfl rfl rfl rfl rfl rfl rfl rfl | dsimp only

theorem execBar0EarlyAccess_keeps (t f : Nat) (posted : Bool) (s : State) {s' : State}
    (h : execBar0EarlyAccess t f posted s = .next s') : Keeps [.out] (s.upTo t) s' := by
  refine State.run_keeps (fun {v} hv => ?_) h
  clear h
  try dsimp only
  repeat' first
    | with_reducible exact hv | with_reducible assumption | decide | with_reducible exact Keeps.refl _ _ | with_reducible apply Keeps.ite
    | with_reducible apply State.emit_keeps | (with_reducible apply Keeps.each) <;> try intro _ _ | (with_reducible apply Keeps.when) <;> try intro _
    | split | fail_if_no_progress refine Keeps.record ?_ rfl rfl rfl rfl rfl rfl rfl rfl rfl rfl rfl rfl rfl rfl rfl rfl rfl rfl rfl | dsimp only

theorem execSaveComplete_keeps (t : Nat) (s : State) {s' : State} (h : execSaveComplete t s = .next s') : Keeps [.dict, .rst] (s.upTo t) s' := by
  refine State.run_keeps (fun {v} hv => ?_) h
  clear h
  try dsimp only
  repeat' first
    | with_reducible exact hv | with_reducible assumption | decide | with_reducible exact Keeps.refl _ _ | with_reducible apply Keeps.ite
    | with_reducible apply State.endSave_keeps | (with_reducible apply Keeps.each) <;> try intro _ _
    | (with_reducible apply Keeps.when) <;> try intro _ | split
    | fail_if_no_progress refine Keeps.record ?_ rfl rfl rfl rfl rfl rfl rfl rfl rfl rfl rfl rfl rfl rfl rfl rfl rfl rfl rfl | dsimp only

theorem execBackupTimeCopy_keeps (t : Nat) (s : State) {s' : State} (h : execBackupTimeCopy t s = .next s') : Keeps [.rst] (s.upTo t) s' := by
  refine State.run_keeps (fun {v} hv => ?_) h
  clear h
  try dsimp only
  repeat' first
    | with_reducible exact hv | with_reducible assumption | decide | with_reducible exact Keeps.refl _ _ | with_reducible apply Keeps.ite
    | (with_reducible apply Keeps.each) <;> try intro _ _ | (with_reducible apply Keeps.when) <;> try intro _ | split
    | fail_if_no_progress refine Keeps.record ?_ rfl rfl rfl rfl rfl rfl rfl rfl rfl rfl rfl rfl rfl rfl rfl rfl rfl rfl rfl | dsimp only

theorem execVbatLoss_keeps (t : Nat) (s : State) {s' : State} (h : execVbatLoss t s = .next s') : Keeps [.rst, .sup] (s.upTo t) s' := by
  unfold execVbatLoss at h
  cases h
  dsimp only
  split
  · exact Keeps.refl _ _
  · fail_if_no_progress refine Keeps.record ?_ rfl rfl rfl rfl rfl rfl rfl rfl rfl rfl rfl rfl rfl rfl rfl rfl rfl rfl rfl
    exact Keeps.refl _ _

theorem execHotSwapConnect_keeps (t : Nat) (s : State) {s' : State} (h : execHotSwapConnect t s = .next s') : Keeps [.rst] (s.upTo t) s' := by
  unfold execHotSwapConnect at h
  cases h
  dsimp only
  split
  · fail_if_no_progress refine Keeps.record ?_ rfl rfl rfl rfl rfl rfl rfl rfl rfl rfl rfl rfl rfl rfl rfl rfl rfl rfl rfl
    exact Keeps.refl _ _
  · exact Keeps.refl _ _

theorem execNextractAsserted_keeps (t : Nat) (s : State) {s' : State} (h : execNextractAsserted t s = .next s') : Keeps [.rst] (s.upTo t) s' := by
  unfold execNextractAsserted at h
  cases h
  dsimp only
  split
  · fail_if_no_progress refine Keeps.record ?_ rfl rfl rfl rfl rfl rfl rfl rfl rfl rfl rfl rfl rfl rfl rfl rfl rfl rfl rfl
    exact Keeps.refl _ _
  · exact Keeps.refl _ _

theorem execExtractPowerDown_keeps (t : Nat) (s : State) {s' : State}
    (h : execExtractPowerDown t s = .next s') : Keeps [.out, .dict, .written, .hier, .mgr, .time, .tether, .log, .ports, .echoes, .lanes, .spools,
    .pages, .routes, .cells, .trip, .cipher, .checkParts, .ring, .sensing, .rst, .sup] (s.upTo t) s' := by
  refine State.run_keeps (fun {v} hv => ?_) h
  clear h
  try dsimp only
  repeat' first
    | with_reducible exact hv | with_reducible assumption | decide | with_reducible exact Keeps.refl _ _ | with_reducible apply Keeps.ite
    | with_reducible apply State.domainsDown_keeps | with_reducible apply State.powerDown_keeps | (with_reducible apply Keeps.each) <;> try intro _ _
    | (with_reducible apply Keeps.when) <;> try intro _ | split
    | fail_if_no_progress refine Keeps.record ?_ rfl rfl rfl rfl rfl rfl rfl rfl rfl rfl rfl rfl rfl rfl rfl rfl rfl rfl rfl | dsimp only

theorem execNextractReleased_keeps (t : Nat) (s : State) {s' : State}
    (h : execNextractReleased t s = .next s') : Keeps [.tsc, .dict, .written, .hier, .mgr, .time, .tether, .log, .ports, .echoes, .lanes, .spools,
    .pages, .routes, .cells, .trip, .cipher, .checkParts, .ring, .sensing, .rst, .sup] (s.upTo t) s' := by
  unfold execNextractReleased at h
  cases h
  dsimp only
  split
  · exact Keeps.refl _ _
  · split
    · apply State.requestReset_keeps <;> first | decide | skip
      fail_if_no_progress refine Keeps.record ?_ rfl rfl rfl rfl rfl rfl rfl rfl rfl rfl rfl rfl rfl rfl rfl rfl rfl rfl rfl
      exact Keeps.refl _ _
    · fail_if_no_progress refine Keeps.record ?_ rfl rfl rfl rfl rfl rfl rfl rfl rfl rfl rfl rfl rfl rfl rfl rfl rfl rfl rfl
      exact Keeps.refl _ _

theorem execUncorrectableError_keeps (t src addr : Nat) (s : State) {s' : State}
    (h : execUncorrectableError t src addr s = .next s') : Keeps [.tsc, .out, .dict, .written, .hier, .mgr, .time, .tether, .log, .ports, .echoes,
    .lanes, .spools, .pages, .routes, .cells, .trip, .cipher, .checkParts, .ring, .sensing, .rst, .sup] (s.upTo t) s' := by
  refine State.run_keeps (fun {v} hv => ?_) h
  clear h
  try dsimp only
  repeat' first
    | with_reducible exact hv | with_reducible assumption | decide | with_reducible exact Keeps.refl _ _ | with_reducible apply Keeps.ite
    | with_reducible apply State.fatal_keeps | with_reducible apply State.event_keeps | with_reducible apply State.entryError_keeps
    | with_reducible apply State.contain_keeps | (with_reducible apply Keeps.each) <;> try intro _ _
    | (with_reducible apply Keeps.when) <;> try intro _ | split
    | fail_if_no_progress refine Keeps.record ?_ rfl rfl rfl rfl rfl rfl rfl rfl rfl rfl rfl rfl rfl rfl rfl rfl rfl rfl rfl | dsimp only

theorem execCorrectionThreshold_keeps (t src errors : Nat) (s : State) {s' : State}
    (h : execCorrectionThreshold t src errors s = .next s') : Keeps [.hier, .log, .cipher, .checkParts, .sup] (s.upTo t) s' := by
  refine State.run_keeps (fun {v} hv => ?_) h
  clear h
  try dsimp only
  repeat' first
    | with_reducible exact hv | with_reducible assumption | decide | with_reducible exact Keeps.refl _ _ | with_reducible apply Keeps.ite
    | with_reducible apply State.event_keeps | with_reducible apply State.replaceBank_keeps | with_reducible apply State.contain_keeps
    | (with_reducible apply Keeps.each) <;> try intro _ _ | (with_reducible apply Keeps.when) <;> try intro _ | split
    | fail_if_no_progress refine Keeps.record ?_ rfl rfl rfl rfl rfl rfl rfl rfl rfl rfl rfl rfl rfl rfl rfl rfl rfl rfl rfl | dsimp only

theorem execBlockIdle_keeps (t region block : Nat) (s : State) {s' : State}
    (h : execBlockIdle t region block s = .next s') : Keeps [.tsc, .out, .dict, .written, .hier, .mgr, .time, .tether, .log, .ports, .echoes, .lanes,
    .spools, .pages, .routes, .cells, .trip, .cipher, .checkParts, .ring, .sensing, .rst, .sup] (s.upTo t) s' := by
  refine State.run_keeps (fun {v} hv => ?_) h
  clear h
  try dsimp only
  repeat' first
    | with_reducible exact hv | with_reducible assumption | decide | with_reducible exact Keeps.refl _ _ | with_reducible apply Keeps.ite
    | with_reducible apply State.blockReset_keeps | (with_reducible apply Keeps.each) <;> try intro _ _
    | (with_reducible apply Keeps.when) <;> try intro _ | split
    | fail_if_no_progress refine Keeps.record ?_ rfl rfl rfl rfl rfl rfl rfl rfl rfl rfl rfl rfl rfl rfl rfl rfl rfl rfl rfl | dsimp only

theorem execIdleTimeout_keeps (t region block : Nat) (s : State) {s' : State}
    (h : execIdleTimeout t region block s = .next s') : Keeps [.tsc, .out, .dict, .written, .hier, .mgr, .time, .tether, .log, .ports, .echoes,
    .lanes, .spools, .pages, .routes, .cells, .trip, .cipher, .checkParts, .ring, .sensing, .rst, .sup] (s.upTo t) s' := by
  refine State.run_keeps (fun {v} hv => ?_) h
  clear h
  try dsimp only
  repeat' first
    | with_reducible exact hv | with_reducible assumption | decide | with_reducible exact Keeps.refl _ _ | with_reducible apply Keeps.ite
    | with_reducible apply State.blockReset_keeps | (with_reducible apply Keeps.each) <;> try intro _ _
    | (with_reducible apply Keeps.when) <;> try intro _ | split
    | fail_if_no_progress refine Keeps.record ?_ rfl rfl rfl rfl rfl rfl rfl rfl rfl rfl rfl rfl rfl rfl rfl rfl rfl rfl rfl | dsimp only

theorem execBlockRelease_keeps (t region block : Nat) (failedCells : List Nat) (s : State) {s' : State}
    (h : execBlockRelease t region block failedCells s = .next s') : Keeps [.out, .dict, .hier, .mgr, .tether, .log, .ports, .echoes, .lanes,
    .spools, .pages, .routes, .cells, .trip, .cipher, .checkParts, .ring, .sensing, .rst, .sup] (s.upTo t) s' := by
  refine State.run_keeps (fun {v} hv => ?_) h
  clear h
  try dsimp only
  repeat' first
    | with_reducible exact hv | with_reducible assumption | decide | with_reducible exact Keeps.refl _ _ | with_reducible apply Keeps.ite
    | with_reducible apply State.releaseBlock_keeps | (with_reducible apply Keeps.each) <;> try intro _ _
    | (with_reducible apply Keeps.when) <;> try intro _ | split
    | fail_if_no_progress refine Keeps.record ?_ rfl rfl rfl rfl rfl rfl rfl rfl rfl rfl rfl rfl rfl rfl rfl rfl rfl rfl rfl | dsimp only

theorem execScrubError_keeps (t : Nat) (item : DramItem) (corrected : Bool) (row : Nat) (s : State) {s' : State}
    (h : execScrubError t item corrected row s = .next s') : Keeps [.out, .dict, .hier, .log, .lanes, .spools, .pages, .routes] (s.upTo t) s' := by
  refine State.run_keeps (fun {v} hv => ?_) h
  clear h
  try dsimp only
  repeat' first
    | with_reducible exact hv | with_reducible assumption | decide | with_reducible exact Keeps.refl _ _ | with_reducible apply Keeps.ite
    | with_reducible apply State.noteRow_keeps | with_reducible apply State.scrubLost_keeps | (with_reducible apply Keeps.each) <;> try intro _ _
    | (with_reducible apply Keeps.when) <;> try intro _ | split
    | fail_if_no_progress refine Keeps.record ?_ rfl rfl rfl rfl rfl rfl rfl rfl rfl rfl rfl rfl rfl rfl rfl rfl rfl rfl rfl | dsimp only

theorem execFunctionLevelReset_keeps (t f : Nat) (s : State) {s' : State}
    (h : execFunctionLevelReset t f s = .next s') : Keeps [.pages, .cipher, .checkParts] (s.upTo t) s' := by
  refine State.run_keeps (fun {v} hv => ?_) h
  clear h
  try dsimp only
  repeat' first
    | with_reducible exact hv | with_reducible assumption | decide | with_reducible exact Keeps.refl _ _ | with_reducible apply Keeps.ite
    | with_reducible apply State.clearFunction_keeps | (with_reducible apply Keeps.each) <;> try intro _ _
    | (with_reducible apply Keeps.when) <;> try intro _ | split
    | fail_if_no_progress refine Keeps.record ?_ rfl rfl rfl rfl rfl rfl rfl rfl rfl rfl rfl rfl rfl rfl rfl rfl rfl rfl rfl | dsimp only

theorem execPhaseShed_keeps (t rail phase : Nat) (s : State) {s' : State}
    (h : execPhaseShed t rail phase s = .next s') : Keeps [.tsc, .out, .dict, .written, .hier, .mgr, .time, .tether, .log, .ports, .echoes, .lanes,
    .spools, .pages, .routes, .cells, .trip, .cipher, .checkParts, .ring, .sensing, .rst, .sup] (s.upTo t) s' := by
  refine State.run_keeps (fun {v} hv => ?_) h
  clear h
  try dsimp only
  repeat' first
    | with_reducible exact hv | with_reducible assumption | decide | with_reducible exact Keeps.refl _ _ | with_reducible apply Keeps.ite
    | with_reducible apply State.event_keeps | with_reducible apply State.setDomain_keeps | with_reducible apply State.holdDomain_keeps
    | (with_reducible apply Keeps.each) <;> try intro _ _ | (with_reducible apply Keeps.when) <;> try intro _ | split
    | fail_if_no_progress refine Keeps.record ?_ rfl rfl rfl rfl rfl rfl rfl rfl rfl rfl rfl rfl rfl rfl rfl rfl rfl rfl rfl | dsimp only

theorem execAgeingMeasurement_keeps (t : Nat) (samples : List AgeingSample) (s : State) {s' : State}
    (h : execAgeingMeasurement t samples s = .next s') : Keeps [.log, .rst, .sup] (s.upTo t) s' := by
  have m0 : Part.log ∈ ([.log, .rst, .sup] : List Part) := by decide
  have m1 : Part.rst ∈ ([.log, .rst, .sup] : List Part) := by decide
  have m2 : Part.sup ∈ ([.log, .rst, .sup] : List Part) := by decide
  refine State.run_keeps (fun {v} hv => ?_) h
  clear h
  try dsimp only
  repeat' first
    | with_reducible exact hv | with_reducible assumption | decide | with_reducible exact Keeps.refl _ _ | with_reducible apply Keeps.ite
    | with_reducible apply State.ageSample_keeps | with_reducible apply State.planRail_keeps | (with_reducible apply Keeps.each) <;> try intro _ _
    | (with_reducible apply Keeps.when) <;> try intro _ | split
    | fail_if_no_progress refine Keeps.record ?_ rfl rfl rfl rfl rfl rfl rfl rfl rfl rfl rfl rfl rfl rfl rfl rfl rfl rfl rfl | dsimp only

theorem execAgeingFlashWrite_keeps (t : Nat) (s : State) {s' : State} (h : execAgeingFlashWrite t s = .next s') : Keeps [.rst] (s.upTo t) s' := by
  refine State.run_keeps (fun {v} hv => ?_) h
  clear h
  try dsimp only
  repeat' first
    | with_reducible exact hv | with_reducible assumption | decide | with_reducible exact Keeps.refl _ _ | with_reducible apply Keeps.ite
    | (with_reducible apply Keeps.each) <;> try intro _ _ | (with_reducible apply Keeps.when) <;> try intro _ | split
    | fail_if_no_progress refine Keeps.record ?_ rfl rfl rfl rfl rfl rfl rfl rfl rfl rfl rfl rfl rfl rfl rfl rfl rfl rfl rfl | dsimp only

theorem execSubstitutionStart_keeps (t : Nat) (s : State) {s' : State}
    (h : execSubstitutionStart t s = .next s') : Keeps [.out, .dict, .log, .ports, .echoes, .lanes, .spools, .pages, .routes, .cells, .trip, .ring,
    .rst, .sup] (s.upTo t) s' := by
  refine State.run_keeps (fun {v} hv => ?_) h
  clear h
  try dsimp only
  repeat' first
    | with_reducible exact hv | with_reducible assumption | decide | with_reducible exact Keeps.refl _ _ | with_reducible apply Keeps.ite
    | with_reducible apply State.startRequest_keeps | (with_reducible apply Keeps.each) <;> try intro _ _
    | (with_reducible apply Keeps.when) <;> try intro _ | split
    | fail_if_no_progress refine Keeps.record ?_ rfl rfl rfl rfl rfl rfl rfl rfl rfl rfl rfl rfl rfl rfl rfl rfl rfl rfl rfl | dsimp only

theorem execBankCopyDone_keeps (t : Nat) (lost : List Nat) (s : State) {s' : State}
    (h : execBankCopyDone t lost s = .next s') : Keeps [.out, .dict, .lanes, .spools, .pages, .routes, .sup] (s.upTo t) s' := by
  refine State.run_keeps (fun {v} hv => ?_) h
  clear h
  try dsimp only
  repeat' first
    | with_reducible exact hv | with_reducible assumption | decide | with_reducible exact Keeps.refl _ _ | with_reducible apply Keeps.ite
    | with_reducible apply State.entryError_keeps | (with_reducible apply Keeps.each) <;> try intro _ _
    | (with_reducible apply Keeps.when) <;> try intro _ | split
    | fail_if_no_progress refine Keeps.record ?_ rfl rfl rfl rfl rfl rfl rfl rfl rfl rfl rfl rfl rfl rfl rfl rfl rfl rfl rfl | dsimp only

theorem execBallastSelfTest_keeps (t u : Nat) (pass : Bool) (s : State) {s' : State}
    (h : execBallastSelfTest t u pass s = .next s') : Keeps [.log, .sup] (s.upTo t) s' := by
  refine State.run_keeps (fun {v} hv => ?_) h
  clear h
  try dsimp only
  repeat' first
    | with_reducible exact hv | with_reducible assumption | decide | with_reducible exact Keeps.refl _ _ | with_reducible apply Keeps.ite
    | with_reducible apply State.setUnit_keeps | with_reducible apply State.event_keeps | (with_reducible apply Keeps.each) <;> try intro _ _
    | (with_reducible apply Keeps.when) <;> try intro _ | split
    | fail_if_no_progress refine Keeps.record ?_ rfl rfl rfl rfl rfl rfl rfl rfl rfl rfl rfl rfl rfl rfl rfl rfl rfl rfl rfl | dsimp only

theorem execBeatBoundary_keeps (n : Nat) (loads : List BeatLoad) (ready : List PoolItem) (s : State) {s' : State}
    (h : execBeatBoundary n loads ready s = .next s') : Keeps [.tsc, .free, .out, .dict, .written, .hier, .mgr, .time, .tether, .log, .ports,
    .echoes, .lanes, .spools, .pages, .routes, .cells, .trip, .cipher, .checkParts, .ring, .sensing, .rst, .sup] (s.upTo (beatNs * n)) s' := by
  refine State.run_keeps (fun {v} hv => ?_) h
  clear h
  try dsimp only
  repeat' first
    | with_reducible exact hv | with_reducible assumption | decide | with_reducible exact Keeps.refl _ _ | with_reducible apply Keeps.ite
    | with_reducible apply State.boundaryLoads_keeps | with_reducible apply State.boundarySample_keeps
    | with_reducible apply State.boundaryWork_keeps | with_reducible apply State.resetTick_keeps
    | (with_reducible apply Keeps.each) <;> try intro _ _ | (with_reducible apply Keeps.when) <;> try intro _ | split
    | fail_if_no_progress refine Keeps.record ?_ rfl rfl rfl rfl rfl rfl rfl rfl rfl rfl rfl rfl rfl rfl rfl rfl rfl rfl rfl | dsimp only

theorem execSlotBoundary_keeps (t : Nat) (s : State) {s' : State}
    (h : execSlotBoundary t s = .next s') : Keeps [.free, .dict, .tether, .lanes, .routes] (s.upTo t) s' := by
  refine State.run_keeps (fun {v} hv => ?_) h
  clear h
  try dsimp only
  repeat' first
    | with_reducible exact hv | with_reducible assumption | decide | with_reducible exact Keeps.refl _ _ | with_reducible apply Keeps.ite
    | with_reducible apply State.slotBegin_keeps | (with_reducible apply Keeps.each) <;> try intro _ _
    | (with_reducible apply Keeps.when) <;> try intro _ | split
    | fail_if_no_progress refine Keeps.record ?_ rfl rfl rfl rfl rfl rfl rfl rfl rfl rfl rfl rfl rfl rfl rfl rfl rfl rfl rfl | dsimp only

theorem execCommandFrameEnd_keeps (t p : Nat) (s : State) {s' : State}
    (h : execCommandFrameEnd t p s = .next s') : Keeps [.out, .dict, .routes, .cells] (s.upTo t) s' := by
  refine State.run_keeps (fun {v} hv => ?_) h
  clear h
  try dsimp only
  repeat' first
    | with_reducible exact hv | with_reducible assumption | decide | with_reducible exact Keeps.refl _ _ | with_reducible apply Keeps.ite
    | with_reducible apply State.setCell_keeps | with_reducible apply State.commandNext_keeps | (with_reducible apply Keeps.each) <;> try intro _ _
    | (with_reducible apply Keeps.when) <;> try intro _ | split
    | fail_if_no_progress refine Keeps.record ?_ rfl rfl rfl rfl rfl rfl rfl rfl rfl rfl rfl rfl rfl rfl rfl rfl rfl rfl rfl | dsimp only

theorem execHeartbeat_keeps (t p link : Nat) (s : State) {s' : State}
    (h : execHeartbeat t p link s = .next s') : Keeps [.out, .dict, .log, .routes, .cells] (s.upTo t) s' := by
  refine State.run_keeps (fun {v} hv => ?_) h
  clear h
  try dsimp only
  repeat' first
    | with_reducible exact hv | with_reducible assumption | decide | with_reducible exact Keeps.refl _ _ | with_reducible apply Keeps.ite
    | with_reducible apply State.settleLink_keeps | with_reducible apply State.commandNext_keeps
    | (with_reducible apply Keeps.each) <;> try intro _ _ | (with_reducible apply Keeps.when) <;> try intro _ | split
    | fail_if_no_progress refine Keeps.record ?_ rfl rfl rfl rfl rfl rfl rfl rfl rfl rfl rfl rfl rfl rfl rfl rfl rfl rfl rfl | dsimp only

theorem execTagStoreRefresh_keeps (t p link : Nat) (s : State) {s' : State}
    (h : execTagStoreRefresh t p link s = .next s') : Keeps [.routes, .cells] (s.upTo t) s' := by
  refine State.run_keeps (fun {v} hv => ?_) h
  clear h
  try dsimp only
  repeat' first
    | with_reducible exact hv | with_reducible assumption | decide | with_reducible exact Keeps.refl _ _ | with_reducible apply Keeps.ite
    | with_reducible apply State.updLink_keeps | (with_reducible apply Keeps.each) <;> try intro _ _
    | (with_reducible apply Keeps.when) <;> try intro _ | split
    | fail_if_no_progress refine Keeps.record ?_ rfl rfl rfl rfl rfl rfl rfl rfl rfl rfl rfl rfl rfl rfl rfl rfl rfl rfl rfl | dsimp only

theorem execHypothesisTagCompute_keeps (t p link : Nat) (s : State) {s' : State}
    (h : execHypothesisTagCompute t p link s = .next s') : Keeps [.routes, .cells] (s.upTo t) s' := by
  refine State.run_keeps (fun {v} hv => ?_) h
  clear h
  try dsimp only
  repeat' first
    | with_reducible exact hv | with_reducible assumption | decide | with_reducible exact Keeps.refl _ _ | with_reducible apply Keeps.ite
    | with_reducible apply State.updLink_keeps | (with_reducible apply Keeps.each) <;> try intro _ _
    | (with_reducible apply Keeps.when) <;> try intro _ | split
    | fail_if_no_progress refine Keeps.record ?_ rfl rfl rfl rfl rfl rfl rfl rfl rfl rfl rfl rfl rfl rfl rfl rfl rfl rfl rfl | dsimp only

theorem execCommandBodyCheck_keeps (t p : Nat) (chips : List Int) (s : State) {s' : State}
    (h : execCommandBodyCheck t p chips s = .next s') : Keeps [.out, .dict, .log, .lanes, .routes, .cells, .trip] (s.upTo t) s' := by
  refine State.run_keeps (fun {v} hv => ?_) h
  clear h
  try dsimp only
  repeat' first
    | with_reducible exact hv | with_reducible assumption | decide | with_reducible exact Keeps.refl _ _ | with_reducible apply Keeps.ite
    | with_reducible apply State.decideBody_keeps | with_reducible apply State.lbump_keeps | with_reducible apply State.updRx_keeps
    | with_reducible apply State.takeCollided_keeps | with_reducible apply State.headerFails_keeps
    | (with_reducible apply Keeps.each) <;> try intro _ _ | (with_reducible apply Keeps.when) <;> try intro _ | split
    | fail_if_no_progress refine Keeps.record ?_ rfl rfl rfl rfl rfl rfl rfl rfl rfl rfl rfl rfl rfl rfl rfl rfl rfl rfl rfl | dsimp only

theorem execSupervisionTimeout_keeps (t p link : Nat) (s : State) {s' : State}
    (h : execSupervisionTimeout t p link s = .next s') : Keeps [.out, .dict, .log, .routes, .cells, .trip] (s.upTo t) s' := by
  refine State.run_keeps (fun {v} hv => ?_) h
  clear h
  try dsimp only
  repeat' first
    | with_reducible exact hv | with_reducible assumption | decide | with_reducible exact Keeps.refl _ _ | with_reducible apply Keeps.ite
    | with_reducible apply State.updLink_keeps | with_reducible apply State.settleCommand_keeps | (with_reducible apply Keeps.each) <;> try intro _ _
    | (with_reducible apply Keeps.when) <;> try intro _ | split
    | fail_if_no_progress refine Keeps.record ?_ rfl rfl rfl rfl rfl rfl rfl rfl rfl rfl rfl rfl rfl rfl rfl rfl rfl rfl rfl | dsimp only

theorem execRekeyChangeoverEnd_keeps (t p link : Nat) (s : State) {s' : State}
    (h : execRekeyChangeoverEnd t p link s = .next s') : Keeps [.out, .dict, .log, .routes, .cells, .trip] (s.upTo t) s' := by
  refine State.run_keeps (fun {v} hv => ?_) h
  clear h
  try dsimp only
  repeat' first
    | with_reducible exact hv | with_reducible assumption | decide | with_reducible exact Keeps.refl _ _ | with_reducible apply Keeps.ite
    | with_reducible apply State.updLink_keeps | with_reducible apply State.settleCommand_keeps | (with_reducible apply Keeps.each) <;> try intro _ _
    | (with_reducible apply Keeps.when) <;> try intro _ | split
    | fail_if_no_progress refine Keeps.record ?_ rfl rfl rfl rfl rfl rfl rfl rfl rfl rfl rfl rfl rfl rfl rfl rfl rfl rfl rfl | dsimp only

theorem execMatrixSourceChange_keeps (t : Nat) (s : State) {s' : State}
    (h : execMatrixSourceChange t s = .next s') : Keeps [.out, .dict, .log, .routes, .cells, .trip] (s.upTo t) s' := by
  refine State.run_keeps (fun {v} hv => ?_) h
  clear h
  try dsimp only
  repeat' first
    | with_reducible exact hv | with_reducible assumption | decide | with_reducible exact Keeps.refl _ _ | with_reducible apply Keeps.ite
    | with_reducible apply State.settleCommand_keeps | (with_reducible apply Keeps.each) <;> try intro _ _
    | (with_reducible apply Keeps.when) <;> try intro _ | split
    | fail_if_no_progress refine Keeps.record ?_ rfl rfl rfl rfl rfl rfl rfl rfl rfl rfl rfl rfl rfl rfl rfl rfl rfl rfl rfl | dsimp only

theorem execTripMinPulseEnd_keeps (t n : Nat) (s : State) {s' : State} (h : execTripMinPulseEnd t n s = .next s') : Keeps [.dict, .trip]
    (s.upTo t) s' := by
  refine State.run_keeps (fun {v} hv => ?_) h
  clear h
  try dsimp only
  repeat' first
    | with_reducible exact hv | with_reducible assumption | decide | with_reducible exact Keeps.refl _ _ | with_reducible apply Keeps.ite
    | with_reducible apply State.settleOutput_keeps | (with_reducible apply Keeps.each) <;> try intro _ _
    | (with_reducible apply Keeps.when) <;> try intro _ | split
    | fail_if_no_progress refine Keeps.record ?_ rfl rfl rfl rfl rfl rfl rfl rfl rfl rfl rfl rfl rfl rfl rfl rfl rfl rfl rfl | dsimp only

theorem execComplianceIntegrationEnd_keeps (t p l : Nat) (carriers : List (Nat × Int)) (s : State) {s' : State}
    (h : execComplianceIntegrationEnd t p l carriers s = .next s') : Keeps [.out, .dict, .log, .lanes] (s.upTo t) s' := by
  refine State.run_keeps (fun {v} hv => ?_) h
  clear h
  try dsimp only
  repeat' first
    | with_reducible exact hv | with_reducible assumption | decide | with_reducible exact Keeps.refl _ _ | with_reducible apply Keeps.ite
    | with_reducible apply State.setTx_keeps | with_reducible apply State.checkGroup_keeps | with_reducible apply State.lbump_keeps
    | with_reducible apply State.storeNat_keeps | with_reducible apply State.relevel_keeps | (with_reducible apply Keeps.each) <;> try intro _ _
    | (with_reducible apply Keeps.when) <;> try intro _ | split
    | fail_if_no_progress refine Keeps.record ?_ rfl rfl rfl rfl rfl rfl rfl rfl rfl rfl rfl rfl rfl rfl rfl rfl rfl rfl rfl | dsimp only

theorem execClipRelax_keeps (t p l g : Nat) (s : State) {s' : State} (h : execClipRelax t p l g s = .next s') : Keeps [.out, .lanes]
    (s.upTo t) s' := by
  refine State.run_keeps (fun {v} hv => ?_) h
  clear h
  try dsimp only
  repeat' first
    | with_reducible exact hv | with_reducible assumption | decide | with_reducible exact Keeps.refl _ _ | with_reducible apply Keeps.ite
    | with_reducible apply State.setTx_keeps | with_reducible apply State.relevel_keeps | (with_reducible apply Keeps.each) <;> try intro _ _
    | (with_reducible apply Keeps.when) <;> try intro _ | split
    | fail_if_no_progress refine Keeps.record ?_ rfl rfl rfl rfl rfl rfl rfl rfl rfl rfl rfl rfl rfl rfl rfl rfl rfl rfl rfl | dsimp only

theorem execTmapUnacknowledged_keeps (t link : Nat) (s : State) {s' : State}
    (h : execTmapUnacknowledged t link s = .next s') : Keeps [.dict, .lanes, .routes] (s.upTo t) s' := by
  refine State.run_keeps (fun {v} hv => ?_) h
  clear h
  try dsimp only
  repeat' first
    | with_reducible exact hv | with_reducible assumption | decide | with_reducible exact Keeps.refl _ _ | with_reducible apply Keeps.ite
    | with_reducible apply State.costLink_keeps | with_reducible apply State.bump_keeps | with_reducible apply State.sendTmap_keeps
    | (with_reducible apply Keeps.each) <;> try intro _ _ | (with_reducible apply Keeps.when) <;> try intro _ | split
    | fail_if_no_progress refine Keeps.record ?_ rfl rfl rfl rfl rfl rfl rfl rfl rfl rfl rfl rfl rfl rfl rfl rfl rfl rfl rfl | dsimp only

theorem execEchoTrainingEnd_keeps (t p : Nat) (b : Band) (x : EchoSolve) (s : State) {s' : State}
    (h : execEchoTrainingEnd t p b x s = .next s') : Keeps [.out, .dict, .log, .ports, .echoes, .lanes, .spools, .pages, .routes, .cells,
    .trip, .rst, .sup] (s.upTo t) s' := by
  refine State.run_keeps (fun {v} hv => ?_) h
  clear h
  try dsimp only
  repeat' first
    | with_reducible exact hv | with_reducible assumption | decide | with_reducible exact Keeps.refl _ _ | with_reducible apply Keeps.ite
    | with_reducible apply State.echoTrained_keeps | with_reducible apply State.bandTrained_keeps | with_reducible apply State.portTrained_keeps
    | with_reducible apply State.followPort_keeps <;> try intro _ | (with_reducible apply Keeps.each) <;> try intro _ _
    | (with_reducible apply Keeps.when) <;> try intro _ | split
    | fail_if_no_progress refine Keeps.record ?_ rfl rfl rfl rfl rfl rfl rfl rfl rfl rfl rfl rfl rfl rfl rfl rfl rfl rfl rfl | dsimp only

theorem execEchoSuppressionMeasure_keeps (t p : Nat) (b : Band) (reference residual : List (Nat × Nat)) (transmitting : Bool) (s : State) {s' : State}
    (h : execEchoSuppressionMeasure t p b reference residual transmitting s = .next s') : Keeps [.dict, .echoes] (s.upTo t) s' := by
  refine State.run_keeps (fun {v} hv => ?_) h
  clear h
  try dsimp only
  repeat' first
    | with_reducible exact hv | with_reducible assumption | decide | with_reducible exact Keeps.refl _ _ | with_reducible apply Keeps.ite
    | with_reducible apply State.holdRun_keeps | with_reducible apply State.setEcho_keeps | with_reducible apply State.keepSupp_keeps
    | with_reducible apply State.windowClear_keeps | with_reducible apply State.echoDisturb_keeps | with_reducible apply State.endHold_keeps
    | (with_reducible apply Keeps.each) <;> try intro _ _ | (with_reducible apply Keeps.when) <;> try intro _ | split
    | fail_if_no_progress refine Keeps.record ?_ rfl rfl rfl rfl rfl rfl rfl rfl rfl rfl rfl rfl rfl rfl rfl rfl rfl rfl rfl | dsimp only

theorem execEchoHoldTimeout_keeps (t p : Nat) (b : Band) (s : State) {s' : State}
    (h : execEchoHoldTimeout t p b s = .next s') : Keeps [.dict, .echoes] (s.upTo t) s' := by
  refine State.run_keeps (fun {v} hv => ?_) h
  clear h
  try dsimp only
  repeat' first
    | with_reducible exact hv | with_reducible assumption | decide | with_reducible exact Keeps.refl _ _ | with_reducible apply Keeps.ite
    | with_reducible apply State.holdRun_keeps | with_reducible apply State.setEcho_keeps | with_reducible apply State.pbump_keeps
    | (with_reducible apply Keeps.each) <;> try intro _ _ | (with_reducible apply Keeps.when) <;> try intro _ | split
    | fail_if_no_progress refine Keeps.record ?_ rfl rfl rfl rfl rfl rfl rfl rfl rfl rfl rfl rfl rfl rfl rfl rfl rfl rfl rfl | dsimp only

theorem execEchoResolveDone_keeps (t p : Nat) (b : Band) (x : EchoSolve) (s : State) {s' : State}
    (h : execEchoResolveDone t p b x s = .next s') : Keeps [.dict, .echoes, .lanes] (s.upTo t) s' := by
  refine State.run_keeps (fun {v} hv => ?_) h
  clear h
  try dsimp only
  repeat' first
    | with_reducible exact hv | with_reducible assumption | decide | with_reducible exact Keeps.refl _ _ | with_reducible apply Keeps.ite
    | with_reducible apply State.holdRun_keeps | with_reducible apply State.handover_keeps | with_reducible apply State.setEcho_keeps
    | (with_reducible apply Keeps.each) <;> try intro _ _ | (with_reducible apply Keeps.when) <;> try intro _ | split
    | fail_if_no_progress refine Keeps.record ?_ rfl rfl rfl rfl rfl rfl rfl rfl rfl rfl rfl rfl rfl rfl rfl rfl rfl rfl rfl | dsimp only

theorem execEchoHoldLimit_keeps (t p : Nat) (b : Band) (s : State) {s' : State}
    (h : execEchoHoldLimit t p b s = .next s') : Keeps [.dict, .log, .echoes] (s.upTo t) s' := by
  refine State.run_keeps (fun {v} hv => ?_) h
  clear h
  try dsimp only
  repeat' first
    | with_reducible exact hv | with_reducible assumption | decide | with_reducible exact Keeps.refl _ _ | with_reducible apply Keeps.ite
    | with_reducible apply State.holdRun_keeps | with_reducible apply State.setEcho_keeps | with_reducible apply State.event_keeps
    | with_reducible apply State.pbump_keeps | (with_reducible apply Keeps.each) <;> try intro _ _
    | (with_reducible apply Keeps.when) <;> try intro _ | split
    | fail_if_no_progress refine Keeps.record ?_ rfl rfl rfl rfl rfl rfl rfl rfl rfl rfl rfl rfl rfl rfl rfl rfl rfl rfl rfl | dsimp only

theorem execEchoLostResolve_keeps (t p : Nat) (b : Band) (x : EchoSolve) (s : State) {s' : State}
    (h : execEchoLostResolve t p b x s = .next s') : Keeps [.dict, .echoes, .lanes] (s.upTo t) s' := by
  refine State.run_keeps (fun {v} hv => ?_) h
  clear h
  try dsimp only
  repeat' first
    | with_reducible exact hv | with_reducible assumption | decide | with_reducible exact Keeps.refl _ _ | with_reducible apply Keeps.ite
    | with_reducible apply State.handover_keeps | (with_reducible apply Keeps.each) <;> try intro _ _
    | (with_reducible apply Keeps.when) <;> try intro _ | split
    | fail_if_no_progress refine Keeps.record ?_ rfl rfl rfl rfl rfl rfl rfl rfl rfl rfl rfl rfl rfl rfl rfl rfl rfl rfl rfl | dsimp only

theorem execEchoModelRefresh_keeps (t p : Nat) (b : Band) (analogue : Int) (s : State) {s' : State}
    (h : execEchoModelRefresh t p b analogue s = .next s') : Keeps [.dict, .echoes, .lanes] (s.upTo t) s' := by
  refine State.run_keeps (fun {v} hv => ?_) h
  clear h
  try dsimp only
  repeat' first
    | with_reducible exact hv | with_reducible assumption | decide | with_reducible exact Keeps.refl _ _ | with_reducible apply Keeps.ite
    | with_reducible apply State.handover_keeps | (with_reducible apply Keeps.each) <;> try intro _ _
    | (with_reducible apply Keeps.when) <;> try intro _ | split
    | fail_if_no_progress refine Keeps.record ?_ rfl rfl rfl rfl rfl rfl rfl rfl rfl rfl rfl rfl rfl rfl rfl rfl rfl rfl rfl | dsimp only

theorem execDataFrameReceived_keeps (t : Nat) (rx : RxFrame) (s : State) {s' : State}
    (h : execDataFrameReceived t rx s = .next s') : Keeps [.out, .dict, .lanes, .spools, .pages, .routes] (s.upTo t) s' := by
  refine State.run_keeps (fun {v} hv => ?_) h
  clear h
  try dsimp only
  repeat' first
    | with_reducible exact hv | with_reducible assumption | decide | with_reducible exact Keeps.refl _ _ | with_reducible apply Keeps.ite
    | with_reducible apply State.bump_keeps | with_reducible apply State.heard_keeps | with_reducible apply State.deliverPacket_keeps
    | with_reducible apply State.receive_keeps <;> try intro _ _ | (with_reducible apply Keeps.each) <;> try intro _ _
    | (with_reducible apply Keeps.when) <;> try intro _ | split
    | fail_if_no_progress refine Keeps.record ?_ rfl rfl rfl rfl rfl rfl rfl rfl rfl rfl rfl rfl rfl rfl rfl rfl rfl rfl rfl | dsimp only

theorem execAckFrameReceived_keeps (t : Nat) (rx : RxFrame) (s : State) {s' : State}
    (h : execAckFrameReceived t rx s = .next s') : Keeps [.out, .dict, .lanes, .spools, .pages, .routes] (s.upTo t) s' := by
  refine State.run_keeps (fun {v} hv => ?_) h
  clear h
  try dsimp only
  repeat' first
    | with_reducible exact hv | with_reducible assumption | decide | with_reducible exact Keeps.refl _ _ | with_reducible apply Keeps.ite
    | with_reducible apply State.receive_keeps <;> try intro _ _ | (with_reducible apply Keeps.each) <;> try intro _ _
    | (with_reducible apply Keeps.when) <;> try intro _ | split
    | fail_if_no_progress refine Keeps.record ?_ rfl rfl rfl rfl rfl rfl rfl rfl rfl rfl rfl rfl rfl rfl rfl rfl rfl rfl rfl | dsimp only

theorem execReportReceived_keeps (t : Nat) (rx : RxFrame) (s : State) {s' : State}
    (h : execReportReceived t rx s = .next s') : Keeps [.out, .dict, .lanes, .spools, .pages, .routes] (s.upTo t) s' := by
  refine State.run_keeps (fun {v} hv => ?_) h
  clear h
  try dsimp only
  repeat' first
    | with_reducible exact hv | with_reducible assumption | decide | with_reducible exact Keeps.refl _ _ | with_reducible apply Keeps.ite
    | with_reducible apply State.takeReport_keeps | with_reducible apply State.receive_keeps <;> try intro _ _
    | (with_reducible apply Keeps.each) <;> try intro _ _ | (with_reducible apply Keeps.when) <;> try intro _ | split
    | fail_if_no_progress refine Keeps.record ?_ rfl rfl rfl rfl rfl rfl rfl rfl rfl rfl rfl rfl rfl rfl rfl rfl rfl rfl rfl | dsimp only

theorem execStateReceived_keeps (t : Nat) (rx : RxFrame) (s : State) {s' : State}
    (h : execStateReceived t rx s = .next s') : Keeps [.out, .dict, .mgr, .log, .lanes, .spools, .pages, .routes] (s.upTo t) s' := by
  refine State.run_keeps (fun {v} hv => ?_) h
  clear h
  try dsimp only
  repeat' first
    | with_reducible exact hv | with_reducible assumption | decide | with_reducible exact Keeps.refl _ _ | with_reducible apply Keeps.ite
    | with_reducible apply State.takeState_keeps | with_reducible apply State.receive_keeps <;> try intro _ _
    | (with_reducible apply Keeps.each) <;> try intro _ _ | (with_reducible apply Keeps.when) <;> try intro _ | split
    | fail_if_no_progress refine Keeps.record ?_ rfl rfl rfl rfl rfl rfl rfl rfl rfl rfl rfl rfl rfl rfl rfl rfl rfl rfl rfl | dsimp only

theorem execNeighboursReceived_keeps (t : Nat) (rx : RxFrame) (s : State) {s' : State}
    (h : execNeighboursReceived t rx s = .next s') : Keeps [.out, .dict, .lanes, .spools, .pages, .routes] (s.upTo t) s' := by
  refine State.run_keeps (fun {v} hv => ?_) h
  clear h
  try dsimp only
  repeat' first
    | with_reducible exact hv | with_reducible assumption | decide | with_reducible exact Keeps.refl _ _ | with_reducible apply Keeps.ite
    | with_reducible apply State.takeNeighbours_keeps | with_reducible apply State.receive_keeps <;> try intro _ _
    | (with_reducible apply Keeps.each) <;> try intro _ _ | (with_reducible apply Keeps.when) <;> try intro _ | split
    | fail_if_no_progress refine Keeps.record ?_ rfl rfl rfl rfl rfl rfl rfl rfl rfl rfl rfl rfl rfl rfl rfl rfl rfl rfl rfl | dsimp only

theorem execProbeReplyReceived_keeps (t : Nat) (rx : RxFrame) (s : State) {s' : State}
    (h : execProbeReplyReceived t rx s = .next s') : Keeps [.out, .dict, .lanes, .spools, .pages, .routes] (s.upTo t) s' := by
  refine State.run_keeps (fun {v} hv => ?_) h
  clear h
  try dsimp only
  repeat' first
    | with_reducible exact hv | with_reducible assumption | decide | with_reducible exact Keeps.refl _ _ | with_reducible apply Keeps.ite
    | with_reducible apply State.takeProbeReply_keeps | with_reducible apply State.receive_keeps <;> try intro _ _
    | (with_reducible apply Keeps.each) <;> try intro _ _ | (with_reducible apply Keeps.when) <;> try intro _ | split
    | fail_if_no_progress refine Keeps.record ?_ rfl rfl rfl rfl rfl rfl rfl rfl rfl rfl rfl rfl rfl rfl rfl rfl rfl rfl rfl | dsimp only

theorem execJoinReceived_keeps (t : Nat) (rx : RxFrame) (s : State) {s' : State}
    (h : execJoinReceived t rx s = .next s') : Keeps [.out, .dict, .log, .lanes, .spools, .pages, .routes] (s.upTo t) s' := by
  refine State.run_keeps (fun {v} hv => ?_) h
  clear h
  try dsimp only
  repeat' first
    | with_reducible exact hv | with_reducible assumption | decide | with_reducible exact Keeps.refl _ _ | with_reducible apply Keeps.ite
    | with_reducible apply State.refuseJoin_keeps | with_reducible apply State.heard_keeps | with_reducible apply State.malformed_keeps
    | with_reducible apply State.takeJoin_keeps | with_reducible apply State.receive_keeps <;> try intro _ _
    | (with_reducible apply Keeps.each) <;> try intro _ _ | (with_reducible apply Keeps.when) <;> try intro _ | split
    | fail_if_no_progress refine Keeps.record ?_ rfl rfl rfl rfl rfl rfl rfl rfl rfl rfl rfl rfl rfl rfl rfl rfl rfl rfl rfl | dsimp only

theorem execG9903Bootstrap_keeps (t p l short eui : Nat) (s : State) {s' : State}
    (h : execG9903Bootstrap t p l short eui s = .next s') : Keeps [.routes] (s.upTo t) s' := by
  refine State.run_keeps (fun {v} hv => ?_) h
  clear h
  try dsimp only
  repeat' first
    | with_reducible exact hv | with_reducible assumption | decide | with_reducible exact Keeps.refl _ _ | with_reducible apply Keeps.ite
    | with_reducible apply State.setNode_keeps | (with_reducible apply Keeps.each) <;> try intro _ _
    | (with_reducible apply Keeps.when) <;> try intro _ | split
    | fail_if_no_progress refine Keeps.record ?_ rfl rfl rfl rfl rfl rfl rfl rfl rfl rfl rfl rfl rfl rfl rfl rfl rfl rfl rfl | dsimp only

theorem execProbeTimeout_keeps (t endpoint : Nat) (s : State) {s' : State}
    (h : execProbeTimeout t endpoint s = .next s') : Keeps [.dict, .lanes, .routes] (s.upTo t) s' := by
  refine State.run_keeps (fun {v} hv => ?_) h
  clear h
  try dsimp only
  repeat' first
    | with_reducible exact hv | with_reducible assumption | decide | with_reducible exact Keeps.refl _ _ | with_reducible apply Keeps.ite
    | with_reducible apply State.sendProbe_keeps | with_reducible apply State.endRepair_keeps | (with_reducible apply Keeps.each) <;> try intro _ _
    | (with_reducible apply Keeps.when) <;> try intro _ | split
    | fail_if_no_progress refine Keeps.record ?_ rfl rfl rfl rfl rfl rfl rfl rfl rfl rfl rfl rfl rfl rfl rfl rfl rfl rfl rfl | dsimp only

theorem execRelayWaitExpiry_keeps (t p l : Nat) (s : State) {s' : State}
    (h : execRelayWaitExpiry t p l s = .next s') : Keeps [.dict, .lanes] (s.upTo t) s' := by
  refine State.run_keeps (fun {v} hv => ?_) h
  clear h
  try dsimp only
  repeat' first
    | with_reducible exact hv | with_reducible assumption | decide | with_reducible exact Keeps.refl _ _ | with_reducible apply Keeps.ite
    | with_reducible apply State.setTx_keeps | with_reducible apply State.bumpKey_keeps | (with_reducible apply Keeps.each) <;> try intro _ _
    | (with_reducible apply Keeps.when) <;> try intro _ | split
    | fail_if_no_progress refine Keeps.record ?_ rfl rfl rfl rfl rfl rfl rfl rfl rfl rfl rfl rfl rfl rfl rfl rfl rfl rfl rfl | dsimp only

theorem execRouteAgeExpiry_keeps (t pos : Nat) (s : State) {s' : State}
    (h : execRouteAgeExpiry t pos s = .next s') : Keeps [.dict, .routes] (s.upTo t) s' := by
  refine State.run_keeps (fun {v} hv => ?_) h
  clear h
  try dsimp only
  repeat' first
    | with_reducible exact hv | with_reducible assumption | decide | with_reducible exact Keeps.refl _ _ | with_reducible apply Keeps.ite
    | with_reducible apply State.invalidateRoute_keeps | with_reducible apply State.bump_keeps | (with_reducible apply Keeps.each) <;> try intro _ _
    | (with_reducible apply Keeps.when) <;> try intro _ | split
    | fail_if_no_progress refine Keeps.record ?_ rfl rfl rfl rfl rfl rfl rfl rfl rfl rfl rfl rfl rfl rfl rfl rfl rfl rfl rfl | dsimp only

theorem execLinkIdleRelease_keeps (t link : Nat) (s : State) {s' : State} (h : execLinkIdleRelease t link s = .next s') : Keeps [.routes]
    (s.upTo t) s' := by
  refine State.run_keeps (fun {v} hv => ?_) h
  clear h
  try dsimp only
  repeat' first
    | with_reducible exact hv | with_reducible assumption | decide | with_reducible exact Keeps.refl _ _ | with_reducible apply Keeps.ite
    | with_reducible apply State.releaseLink_keeps | (with_reducible apply Keeps.each) <;> try intro _ _
    | (with_reducible apply Keeps.when) <;> try intro _ | split
    | fail_if_no_progress refine Keeps.record ?_ rfl rfl rfl rfl rfl rfl rfl rfl rfl rfl rfl rfl rfl rfl rfl rfl rfl rfl rfl | dsimp only

theorem execLinkRelease_keeps (t link writer : Nat) (s : State) {s' : State}
    (h : execLinkRelease t link writer s = .next s') : Keeps [.routes] (s.upTo t) s' := by
  refine State.run_keeps (fun {v} hv => ?_) h
  clear h
  try dsimp only
  repeat' first
    | with_reducible exact hv | with_reducible assumption | decide | with_reducible exact Keeps.refl _ _ | with_reducible apply Keeps.ite
    | with_reducible apply State.releaseBy_keeps | (with_reducible apply Keeps.each) <;> try intro _ _
    | (with_reducible apply Keeps.when) <;> try intro _ | split
    | fail_if_no_progress refine Keeps.record ?_ rfl rfl rfl rfl rfl rfl rfl rfl rfl rfl rfl rfl rfl rfl rfl rfl rfl rfl rfl | dsimp only

theorem execLinkOffsetWrite_keeps (t link writer : Nat) (offset : Byte) (s : State) {s' : State}
    (h : execLinkOffsetWrite t link writer offset s = .next s') : Keeps [.routes] (s.upTo t) s' := by
  refine State.run_keeps (fun {v} hv => ?_) h
  clear h
  try dsimp only
  repeat' first
    | with_reducible exact hv | with_reducible assumption | decide | with_reducible exact Keeps.refl _ _ | with_reducible apply Keeps.ite
    | with_reducible apply State.offsetBy_keeps | (with_reducible apply Keeps.each) <;> try intro _ _
    | (with_reducible apply Keeps.when) <;> try intro _ | split
    | fail_if_no_progress refine Keeps.record ?_ rfl rfl rfl rfl rfl rfl rfl rfl rfl rfl rfl rfl rfl rfl rfl rfl rfl rfl rfl | dsimp only

theorem execPortStartDelay_keeps (t p : Nat) (s : State) {s' : State}
    (h : execPortStartDelay t p s = .next s') : Keeps [.out, .dict, .log, .ports, .routes, .cells, .trip] (s.upTo t) s' := by
  refine State.run_keeps (fun {v} hv => ?_) h
  clear h
  try dsimp only
  repeat' first
    | with_reducible exact hv | with_reducible assumption | decide | with_reducible exact Keeps.refl _ _ | with_reducible apply Keeps.ite
    | with_reducible apply State.updPort_keeps | with_reducible apply State.followPort_keeps <;> try intro _
    | (with_reducible apply Keeps.each) <;> try intro _ _ | (with_reducible apply Keeps.when) <;> try intro _ | split
    | fail_if_no_progress refine Keeps.record ?_ rfl rfl rfl rfl rfl rfl rfl rfl rfl rfl rfl rfl rfl rfl rfl rfl rfl rfl rfl | dsimp only

theorem execLoopbackDone_keeps (t p : Nat) (offset delayError : Int) (s : State) {s' : State}
    (h : execLoopbackDone t p offset delayError s = .next s') : Keeps [.out, .dict, .hier, .log, .ports, .echoes, .lanes, .spools, .pages, .routes,
    .cells, .trip, .rst, .sup] (s.upTo t) s' := by
  refine State.run_keeps (fun {v} hv => ?_) h
  clear h
  try dsimp only
  repeat' first
    | with_reducible exact hv | with_reducible assumption | decide | with_reducible exact Keeps.refl _ _ | with_reducible apply Keeps.ite
    | with_reducible apply State.updPort_keeps | with_reducible apply State.portFault_keeps | with_reducible apply State.abandonPort_keeps
    | with_reducible apply State.relayStep_keeps | with_reducible apply State.swapDone_keeps
    | with_reducible apply State.followPort_keeps <;> try intro _ | (with_reducible apply Keeps.each) <;> try intro _ _
    | (with_reducible apply Keeps.when) <;> try intro _ | split
    | fail_if_no_progress refine Keeps.record ?_ rfl rfl rfl rfl rfl rfl rfl rfl rfl rfl rfl rfl rfl rfl rfl rfl rfl rfl rfl | dsimp only

theorem execRelayContactSense_keeps (t p : Nat) (c : Contact) (closed : Bool) (s : State) {s' : State}
    (h : execRelayContactSense t p c closed s = .next s') : Keeps [.out, .dict, .hier, .log, .ports, .echoes, .lanes, .spools, .pages, .routes,
    .cells, .trip, .rst, .sup] (s.upTo t) s' := by
  refine State.run_keeps (fun {v} hv => ?_) h
  clear h
  try dsimp only
  repeat' first
    | with_reducible exact hv | with_reducible assumption | decide | with_reducible exact Keeps.refl _ _ | with_reducible apply Keeps.ite
    | with_reducible apply State.bandSense_keeps | with_reducible apply State.matrixSense_keeps
    | with_reducible apply State.followPort_keeps <;> try intro _ | (with_reducible apply Keeps.each) <;> try intro _ _
    | (with_reducible apply Keeps.when) <;> try intro _ | split
    | fail_if_no_progress refine Keeps.record ?_ rfl rfl rfl rfl rfl rfl rfl rfl rfl rfl rfl rfl rfl rfl rfl rfl rfl rfl rfl | dsimp only

theorem execRelaySenseTimeout_keeps (t p : Nat) (s : State) {s' : State}
    (h : execRelaySenseTimeout t p s = .next s') : Keeps [.out, .dict, .hier, .log, .ports, .echoes, .lanes, .spools, .pages, .routes, .cells, .trip,
    .rst, .sup] (s.upTo t) s' := by
  refine State.run_keeps (fun {v} hv => ?_) h
  clear h
  try dsimp only
  repeat' first
    | with_reducible exact hv | with_reducible assumption | decide | with_reducible exact Keeps.refl _ _ | with_reducible apply Keeps.ite
    | with_reducible apply State.updPort_keeps | with_reducible apply State.portFault_keeps
    | with_reducible apply State.followPort_keeps <;> try intro _ | (with_reducible apply Keeps.each) <;> try intro _ _
    | (with_reducible apply Keeps.when) <;> try intro _ | split
    | fail_if_no_progress refine Keeps.record ?_ rfl rfl rfl rfl rfl rfl rfl rfl rfl rfl rfl rfl rfl rfl rfl rfl rfl rfl rfl | dsimp only

theorem execPortLanesIdle_keeps (t p : Nat) (s : State) {s' : State}
    (h : execPortLanesIdle t p s = .next s') : Keeps [.out, .dict, .log, .ports, .echoes, .lanes, .spools, .pages, .routes, .cells, .trip, .rst,
    .sup] (s.upTo t) s' := by
  refine State.run_keeps (fun {v} hv => ?_) h
  clear h
  try dsimp only
  repeat' first
    | with_reducible exact hv | with_reducible assumption | decide | with_reducible exact Keeps.refl _ _ | with_reducible apply Keeps.ite
    | with_reducible apply State.finishStopping_keeps | with_reducible apply State.portPolicy_keeps | with_reducible apply State.drainSwap_keeps
    | with_reducible apply State.followPort_keeps <;> try intro _ | (with_reducible apply Keeps.each) <;> try intro _ _
    | (with_reducible apply Keeps.when) <;> try intro _ | split
    | fail_if_no_progress refine Keeps.record ?_ rfl rfl rfl rfl rfl rfl rfl rfl rfl rfl rfl rfl rfl rfl rfl rfl rfl rfl rfl | dsimp only

theorem execFaultRetryExpiry_keeps (t p : Nat) (s : State) {s' : State}
    (h : execFaultRetryExpiry t p s = .next s') : Keeps [.out, .dict, .log, .ports, .echoes, .lanes, .spools, .pages, .routes, .cells, .trip] (s.upTo
    t) s' := by
  refine State.run_keeps (fun {v} hv => ?_) h
  clear h
  try dsimp only
  repeat' first
    | with_reducible exact hv | with_reducible assumption | decide | with_reducible exact Keeps.refl _ _ | with_reducible apply Keeps.ite
    | with_reducible apply State.retryPort_keeps | with_reducible apply State.followPort_keeps <;> try intro _
    | (with_reducible apply Keeps.each) <;> try intro _ _ | (with_reducible apply Keeps.when) <;> try intro _ | split
    | fail_if_no_progress refine Keeps.record ?_ rfl rfl rfl rfl rfl rfl rfl rfl rfl rfl rfl rfl rfl rfl rfl rfl rfl rfl rfl | dsimp only

theorem execRetryReload_keeps (t p : Nat) (s : State) {s' : State} (h : execRetryReload t p s = .next s') : Keeps [.ports] (s.upTo t) s' := by
  refine State.run_keeps (fun {v} hv => ?_) h
  clear h
  try dsimp only
  repeat' first
    | with_reducible exact hv | with_reducible assumption | decide | with_reducible exact Keeps.refl _ _ | with_reducible apply Keeps.ite
    | with_reducible apply State.reloadRetries_keeps | with_reducible apply State.updPort_keeps | (with_reducible apply Keeps.each) <;> try intro _ _
    | (with_reducible apply Keeps.when) <;> try intro _ | split
    | fail_if_no_progress refine Keeps.record ?_ rfl rfl rfl rfl rfl rfl rfl rfl rfl rfl rfl rfl rfl rfl rfl rfl rfl rfl rfl | dsimp only

theorem execTransmitPowerMeasure_keeps (t p power : Nat) (s : State) {s' : State}
    (h : execTransmitPowerMeasure t p power s = .next s') : Keeps [.dict, .ports] (s.upTo t) s' := by
  refine State.run_keeps (fun {v} hv => ?_) h
  clear h
  try dsimp only
  repeat' first
    | with_reducible exact hv | with_reducible assumption | decide | with_reducible exact Keeps.refl _ _ | with_reducible apply Keeps.ite
    | with_reducible apply State.updPort_keeps | with_reducible apply State.storeNat_keeps | (with_reducible apply Keeps.each) <;> try intro _ _
    | (with_reducible apply Keeps.when) <;> try intro _ | split
    | fail_if_no_progress refine Keeps.record ?_ rfl rfl rfl rfl rfl rfl rfl rfl rfl rfl rfl rfl rfl rfl rfl rfl rfl rfl rfl | dsimp only

theorem execCurrentLimit_keeps (t p : Nat) (s : State) {s' : State}
    (h : execCurrentLimit t p s = .next s') : Keeps [.dict, .ports, .lanes] (s.upTo t) s' := by
  refine State.run_keeps (fun {v} hv => ?_) h
  clear h
  try dsimp only
  repeat' first
    | with_reducible exact hv | with_reducible assumption | decide | with_reducible exact Keeps.refl _ _ | with_reducible apply Keeps.ite
    | with_reducible apply State.updPort_keeps | with_reducible apply State.lineFlag_keeps | with_reducible apply State.pbump_keeps
    | with_reducible apply State.limitLanes_keeps | (with_reducible apply Keeps.each) <;> try intro _ _
    | (with_reducible apply Keeps.when) <;> try intro _ | split
    | fail_if_no_progress refine Keeps.record ?_ rfl rfl rfl rfl rfl rfl rfl rfl rfl rfl rfl rfl rfl rfl rfl rfl rfl rfl rfl | dsimp only

theorem execDriverTemperatureRead_keeps (t p : Nat) (temp : Int) (s : State) {s' : State}
    (h : execDriverTemperatureRead t p temp s = .next s') : Keeps [.out, .dict, .hier, .log, .ports, .echoes, .lanes, .spools, .pages, .routes,
    .cells, .trip, .rst, .sup] (s.upTo t) s' := by
  refine State.run_keeps (fun {v} hv => ?_) h
  clear h
  try dsimp only
  repeat' first
    | with_reducible exact hv | with_reducible assumption | decide | with_reducible exact Keeps.refl _ _ | with_reducible apply Keeps.ite
    | with_reducible apply State.updPort_keeps | with_reducible apply State.storeNat_keeps | with_reducible apply State.wearBy_keeps
    | with_reducible apply State.portFault_keeps | with_reducible apply State.retryPort_keeps
    | with_reducible apply State.followPort_keeps <;> try intro _ | (with_reducible apply Keeps.each) <;> try intro _ _
    | (with_reducible apply Keeps.when) <;> try intro _ | split
    | fail_if_no_progress refine Keeps.record ?_ rfl rfl rfl rfl rfl rfl rfl rfl rfl rfl rfl rfl rfl rfl rfl rfl rfl rfl rfl | dsimp only

theorem execAgcUpdate_keeps (t p : Nat) (b : ReceiveBeat) (s : State) {s' : State}
    (h : execAgcUpdate t p b s = .next s') : Keeps [.dict, .ports] (s.upTo t) s' := by
  refine State.run_keeps (fun {v} hv => ?_) h
  clear h
  try dsimp only
  repeat' first
    | with_reducible exact hv | with_reducible assumption | decide | with_reducible exact Keeps.refl _ _ | with_reducible apply Keeps.ite
    | with_reducible apply State.pbump_keeps | with_reducible apply State.updPort_keeps | with_reducible apply State.lineFlag_keeps
    | (with_reducible apply Keeps.each) <;> try intro _ _ | (with_reducible apply Keeps.when) <;> try intro _ | split
    | fail_if_no_progress refine Keeps.record ?_ rfl rfl rfl rfl rfl rfl rfl rfl rfl rfl rfl rfl rfl rfl rfl rfl rfl rfl rfl | dsimp only

theorem execClampOvervoltage_keeps (t p : Nat) (s : State) {s' : State}
    (h : execClampOvervoltage t p s = .next s') : Keeps [.out, .dict, .hier, .log, .ports, .echoes, .lanes, .spools, .pages, .routes, .cells, .trip,
    .rst, .sup] (s.upTo t) s' := by
  refine State.run_keeps (fun {v} hv => ?_) h
  clear h
  try dsimp only
  repeat' first
    | with_reducible exact hv | with_reducible assumption | decide | with_reducible exact Keeps.refl _ _ | with_reducible apply Keeps.ite
    | with_reducible apply State.updPort_keeps | with_reducible apply State.portFault_keeps
    | with_reducible apply State.followPort_keeps <;> try intro _ | (with_reducible apply Keeps.each) <;> try intro _ _
    | (with_reducible apply Keeps.when) <;> try intro _ | split
    | fail_if_no_progress refine Keeps.record ?_ rfl rfl rfl rfl rfl rfl rfl rfl rfl rfl rfl rfl rfl rfl rfl rfl rfl rfl rfl | dsimp only

theorem execImpedanceMeasure_keeps (t p : Nat) (b : Band) (z : Option Nat) (s : State) {s' : State}
    (h : execImpedanceMeasure t p b z s = .next s') : Keeps [.dict, .ports] (s.upTo t) s' := by
  refine State.run_keeps (fun {v} hv => ?_) h
  clear h
  try dsimp only
  repeat' first
    | with_reducible exact hv | with_reducible assumption | decide | with_reducible exact Keeps.refl _ _ | with_reducible apply Keeps.ite
    | with_reducible apply State.updPort_keeps | with_reducible apply State.storeNat_keeps | with_reducible apply State.lineCheck_keeps
    | (with_reducible apply Keeps.each) <;> try intro _ _ | (with_reducible apply Keeps.when) <;> try intro _ | split
    | fail_if_no_progress refine Keeps.record ?_ rfl rfl rfl rfl rfl rfl rfl rfl rfl rfl rfl rfl rfl rfl rfl rfl rfl rfl rfl | dsimp only

theorem execDriverRailRegulation_keeps (t p outUs : Nat) (s : State) {s' : State}
    (h : execDriverRailRegulation t p outUs s = .next s') : Keeps [.out, .dict, .hier, .log, .ports, .echoes, .lanes, .spools, .pages, .routes,
    .cells, .trip, .rst, .sup] (s.upTo t) s' := by
  refine State.run_keeps (fun {v} hv => ?_) h
  clear h
  try dsimp only
  repeat' first
    | with_reducible exact hv | with_reducible assumption | decide | with_reducible exact Keeps.refl _ _ | with_reducible apply Keeps.ite
    | with_reducible apply State.updPort_keeps | with_reducible apply State.portFault_keeps | with_reducible apply State.retryPort_keeps
    | with_reducible apply State.followPort_keeps <;> try intro _ | (with_reducible apply Keeps.each) <;> try intro _ _
    | (with_reducible apply Keeps.when) <;> try intro _ | split
    | fail_if_no_progress refine Keeps.record ?_ rfl rfl rfl rfl rfl rfl rfl rfl rfl rfl rfl rfl rfl rfl rfl rfl rfl rfl rfl | dsimp only

theorem execPreambleDetection_keeps (t p l : Nat) (ds : List Detection) (s : State) {s' : State}
    (h : execPreambleDetection t p l ds s = .next s') : Keeps [.out, .dict, .lanes] (s.upTo t) s' := by
  refine State.run_keeps (fun {v} hv => ?_) h
  clear h
  try dsimp only
  repeat' first
    | with_reducible exact hv | with_reducible assumption | decide | with_reducible exact Keeps.refl _ _ | with_reducible apply Keeps.ite
    | with_reducible apply State.detect_keeps | (with_reducible apply Keeps.each) <;> try intro _ _
    | (with_reducible apply Keeps.when) <;> try intro _ | split
    | fail_if_no_progress refine Keeps.record ?_ rfl rfl rfl rfl rfl rfl rfl rfl rfl rfl rfl rfl rfl rfl rfl rfl rfl rfl rfl | dsimp only

theorem execHeaderCheckResult_keeps (t p l : Nat) (replay : Bool) (h : Header) (s : State) {s' : State}
    (h : execHeaderCheckResult t p l replay h s = .next s') : Keeps [.out, .dict, .lanes] (s.upTo t) s' := by
  refine State.run_keeps (fun {v} hv => ?_) h
  clear h
  try dsimp only
  repeat' first
    | with_reducible exact hv | with_reducible assumption | decide | with_reducible exact Keeps.refl _ _ | with_reducible apply Keeps.ite
    | with_reducible apply State.replayHeader_keeps | with_reducible apply State.headerFails_keeps | with_reducible apply State.updRx_keeps
    | with_reducible apply State.lbump_keeps | (with_reducible apply Keeps.each) <;> try intro _ _
    | (with_reducible apply Keeps.when) <;> try intro _ | split
    | fail_if_no_progress refine Keeps.record ?_ rfl rfl rfl rfl rfl rfl rfl rfl rfl rfl rfl rfl rfl rfl rfl rfl rfl rfl rfl | dsimp only

theorem execRearmEnd_keeps (t p l : Nat) (s : State) {s' : State} (h : execRearmEnd t p l s = .next s') : Keeps [.out, .dict, .lanes]
    (s.upTo t) s' := by
  refine State.run_keeps (fun {v} hv => ?_) h
  clear h
  try dsimp only
  repeat' first
    | with_reducible exact hv | with_reducible assumption | decide | with_reducible exact Keeps.refl _ _ | with_reducible apply Keeps.ite
    | with_reducible apply State.examineSlot_keeps | with_reducible apply State.updRx_keeps | (with_reducible apply Keeps.each) <;> try intro _ _
    | (with_reducible apply Keeps.when) <;> try intro _ | split
    | fail_if_no_progress refine Keeps.record ?_ rfl rfl rfl rfl rfl rfl rfl rfl rfl rfl rfl rfl rfl rfl rfl rfl rfl rfl rfl | dsimp only

theorem execLastSymbolReceived_keeps (t p l : Nat) (s : State) {s' : State}
    (h : execLastSymbolReceived t p l s = .next s') : Keeps [.out, .dict, .lanes] (s.upTo t) s' := by
  refine State.run_keeps (fun {v} hv => ?_) h
  clear h
  try dsimp only
  repeat' first
    | with_reducible exact hv | with_reducible assumption | decide | with_reducible exact Keeps.refl _ _ | with_reducible apply Keeps.ite
    | with_reducible apply State.updRx_keeps | with_reducible apply State.lbump_keeps | with_reducible apply State.report_keeps
    | with_reducible apply State.grantUsed_keeps | with_reducible apply State.slotAtEnd_keeps | (with_reducible apply Keeps.each) <;> try intro _ _
    | (with_reducible apply Keeps.when) <;> try intro _ | split
    | fail_if_no_progress refine Keeps.record ?_ rfl rfl rfl rfl rfl rfl rfl rfl rfl rfl rfl rfl rfl rfl rfl rfl rfl rfl rfl | dsimp only

theorem execDualCaptureReplay_keeps (t p : Nat) (r : ReplayPass) (s : State) {s' : State}
    (h : execDualCaptureReplay t p r s = .next s') : Keeps [.out, .dict, .lanes] (s.upTo t) s' := by
  refine State.run_keeps (fun {v} hv => ?_) h
  clear h
  try dsimp only
  repeat' first
    | with_reducible exact hv | with_reducible assumption | decide | with_reducible exact Keeps.refl _ _ | with_reducible apply Keeps.ite
    | with_reducible apply State.startReplay_keeps | (with_reducible apply Keeps.each) <;> try intro _ _
    | (with_reducible apply Keeps.when) <;> try intro _ | split
    | fail_if_no_progress refine Keeps.record ?_ rfl rfl rfl rfl rfl rfl rfl rfl rfl rfl rfl rfl rfl rfl rfl rfl rfl rfl rfl | dsimp only

theorem execDecodeResult_keeps (t p l frame : Nat) (r : DecodeResult) (s : State) {s' : State}
    (h : execDecodeResult t p l frame r s = .next s') : Keeps [.out, .dict, .lanes, .routes] (s.upTo t) s' := by
  refine State.run_keeps (fun {v} hv => ?_) h
  clear h
  try dsimp only
  repeat' first
    | with_reducible exact hv | with_reducible assumption | decide | with_reducible exact Keeps.refl _ _ | with_reducible apply Keeps.ite
    | with_reducible apply State.mainDecoded_keeps | with_reducible apply State.replayDecoded_keeps
    | (with_reducible apply Keeps.each) <;> try intro _ _ | (with_reducible apply Keeps.when) <;> try intro _ | split
    | fail_if_no_progress refine Keeps.record ?_ rfl rfl rfl rfl rfl rfl rfl rfl rfl rfl rfl rfl rfl rfl rfl rfl rfl rfl rfl | dsimp only

theorem execRxSymbolEnd_keeps (t p l : Nat) (sym : RxSymbol) (s : State) {s' : State}
    (h : execRxSymbolEnd t p l sym s = .next s') : Keeps [.dict, .echoes, .lanes] (s.upTo t) s' := by
  refine State.run_keeps (fun {v} hv => ?_) h
  clear h
  try dsimp only
  repeat' first
    | with_reducible exact hv | with_reducible assumption | decide | with_reducible exact Keeps.refl _ _ | with_reducible apply Keeps.ite
    | with_reducible apply State.replaySymbol_keeps | with_reducible apply State.mainSymbol_keeps
    | (with_reducible apply Keeps.each) <;> try intro _ _ | (with_reducible apply Keeps.when) <;> try intro _ | split
    | fail_if_no_progress refine Keeps.record ?_ rfl rfl rfl rfl rfl rfl rfl rfl rfl rfl rfl rfl rfl rfl rfl rfl rfl rfl rfl | dsimp only

theorem execNoiseFloorWindow_keeps (t p l : Nat) (w : FloorWindow) (s : State) {s' : State}
    (h : execNoiseFloorWindow t p l w s = .next s') : Keeps [.dict, .lanes] (s.upTo t) s' := by
  refine State.run_keeps (fun {v} hv => ?_) h
  clear h
  try dsimp only
  repeat' first
    | with_reducible exact hv | with_reducible assumption | decide | with_reducible exact Keeps.refl _ _ | with_reducible apply Keeps.ite
    | with_reducible apply State.updRx_keeps | with_reducible apply State.lbumpN_keeps | with_reducible apply State.lbump_keeps
    | (with_reducible apply Keeps.each) <;> try intro _ _ | (with_reducible apply Keeps.when) <;> try intro _ | split
    | fail_if_no_progress refine Keeps.record ?_ rfl rfl rfl rfl rfl rfl rfl rfl rfl rfl rfl rfl rfl rfl rfl rfl rfl rfl rfl | dsimp only

theorem execNoiseFloorPublish_keeps (t p l : Nat) (s : State) {s' : State}
    (h : execNoiseFloorPublish t p l s = .next s') : Keeps [.dict, .lanes] (s.upTo t) s' := by
  refine State.run_keeps (fun {v} hv => ?_) h
  clear h
  try dsimp only
  repeat' first
    | with_reducible exact hv | with_reducible assumption | decide | with_reducible exact Keeps.refl _ _ | with_reducible apply Keeps.ite
    | with_reducible apply State.store_keeps | with_reducible apply State.storeNat_keeps | with_reducible apply State.updRx_keeps
    | (with_reducible apply Keeps.each) <;> try intro _ _ | (with_reducible apply Keeps.when) <;> try intro _ | split
    | fail_if_no_progress refine Keeps.record ?_ rfl rfl rfl rfl rfl rfl rfl rfl rfl rfl rfl rfl rfl rfl rfl rfl rfl rfl rfl | dsimp only

theorem execRingTrainingComplete_keeps (t : Nat) (side : Side) (marginA marginB : Int) (cable : Nat) (s : State) {s' : State}
    (h : execRingTrainingComplete t side marginA marginB cable s = .next s') : Keeps [.out, .dict, .log, .ring, .rst, .sup] (s.upTo t) s' := by
  refine State.run_keeps (fun {v} hv => ?_) h
  clear h
  try dsimp only
  repeat' first
    | with_reducible exact hv | with_reducible assumption | decide | with_reducible exact Keeps.refl _ _ | with_reducible apply Keeps.ite
    | with_reducible apply State.setVal_keeps | with_reducible apply State.setRingLink_keeps | with_reducible apply State.ringSwapDone_keeps
    | with_reducible apply State.ringInserted_keeps | with_reducible apply State.ringKick_keeps | (with_reducible apply Keeps.each) <;> try intro _ _
    | (with_reducible apply Keeps.when) <;> try intro _ | split
    | fail_if_no_progress refine Keeps.record ?_ rfl rfl rfl rfl rfl rfl rfl rfl rfl rfl rfl rfl rfl rfl rfl rfl rfl rfl rfl | dsimp only

theorem execRingLinkLoss_keeps (t : Nat) (side : Side) (s : State) {s' : State}
    (h : execRingLinkLoss t side s = .next s') : Keeps [.out, .dict, .ring] (s.upTo t) s' := by
  refine State.run_keeps (fun {v} hv => ?_) h
  clear h
  try dsimp only
  repeat' first
    | with_reducible exact hv | with_reducible assumption | decide | with_reducible exact Keeps.refl _ _ | with_reducible apply Keeps.ite
    | with_reducible apply State.setRingLink_keeps | with_reducible apply State.ringCount_keeps | (with_reducible apply Keeps.each) <;> try intro _ _
    | (with_reducible apply Keeps.when) <;> try intro _ | split
    | fail_if_no_progress refine Keeps.record ?_ rfl rfl rfl rfl rfl rfl rfl rfl rfl rfl rfl rfl rfl rfl rfl rfl rfl rfl rfl | dsimp only

theorem execRingConflictTimeout_keeps (t : Nat) (side : Side) (roleChanged : Bool) (s : State) {s' : State}
    (h : execRingConflictTimeout t side roleChanged s = .next s') : Keeps [.out, .dict, .ring] (s.upTo t) s' := by
  refine State.run_keeps (fun {v} hv => ?_) h
  clear h
  try dsimp only
  repeat' first
    | with_reducible exact hv | with_reducible assumption | decide | with_reducible exact Keeps.refl _ _ | with_reducible apply Keeps.ite
    | with_reducible apply State.setRingLink_keeps | (with_reducible apply Keeps.each) <;> try intro _ _
    | (with_reducible apply Keeps.when) <;> try intro _ | split
    | fail_if_no_progress refine Keeps.record ?_ rfl rfl rfl rfl rfl rfl rfl rfl rfl rfl rfl rfl rfl rfl rfl rfl rfl rfl rfl | dsimp only

theorem execRingFrameReceived_keeps (t : Nat) (side : Side) (frame : RingFrame) (s : State) {s' : State}
    (h : execRingFrameReceived t side frame s = .next s') : Keeps [.out, .dict, .ring] (s.upTo t) s' := by
  refine State.run_keeps (fun {v} hv => ?_) h
  clear h
  try dsimp only
  repeat' first
    | with_reducible exact hv | with_reducible assumption | decide | with_reducible exact Keeps.refl _ _ | with_reducible apply Keeps.ite
    | with_reducible apply State.ringReceive_keeps | (with_reducible apply Keeps.each) <;> try intro _ _
    | (with_reducible apply Keeps.when) <;> try intro _ | split
    | fail_if_no_progress refine Keeps.record ?_ rfl rfl rfl rfl rfl rfl rfl rfl rfl rfl rfl rfl rfl rfl rfl rfl rfl rfl rfl | dsimp only

theorem execHsrSupervisionSend_keeps (t : Nat) (s : State) {s' : State} (h : execHsrSupervisionSend t s = .next s') : Keeps [.out, .ring]
    (s.upTo t) s' := by
  refine State.run_keeps (fun {v} hv => ?_) h
  clear h
  try dsimp only
  repeat' first
    | with_reducible exact hv | with_reducible assumption | decide | with_reducible exact Keeps.refl _ _ | with_reducible apply Keeps.ite
    | with_reducible apply State.sendRing_keeps | (with_reducible apply Keeps.each) <;> try intro _ _
    | (with_reducible apply Keeps.when) <;> try intro _ | split
    | fail_if_no_progress refine Keeps.record ?_ rfl rfl rfl rfl rfl rfl rfl rfl rfl rfl rfl rfl rfl rfl rfl rfl rfl rfl rfl | dsimp only

theorem execPtpMessageReceived_keeps (t : Nat) (side : Side) (m : PtpMessage) (s : State) {s' : State}
    (h : execPtpMessageReceived t side m s = .next s') : Keeps [.free, .out, .dict, .mgr, .ring] (s.upTo t) s' := by
  refine State.run_keeps (fun {v} hv => ?_) h
  clear h
  try dsimp only
  repeat' first
    | with_reducible exact hv | with_reducible assumption | decide | with_reducible exact Keeps.refl _ _ | with_reducible apply Keeps.ite
    | with_reducible apply State.ptpReceive_keeps | (with_reducible apply Keeps.each) <;> try intro _ _
    | (with_reducible apply Keeps.when) <;> try intro _ | split
    | fail_if_no_progress refine Keeps.record ?_ rfl rfl rfl rfl rfl rfl rfl rfl rfl rfl rfl rfl rfl rfl rfl rfl rfl rfl rfl | dsimp only

theorem execPtpSyncTimeout_keeps (t : Nat) (s : State) {s' : State} (h : execPtpSyncTimeout t s = .next s') : Keeps [.ring] (s.upTo t) s' := by
  refine State.run_keeps (fun {v} hv => ?_) h
  clear h
  try dsimp only
  repeat' first
    | with_reducible exact hv | with_reducible assumption | decide | with_reducible exact Keeps.refl _ _ | with_reducible apply Keeps.ite
    | with_reducible apply State.updRing_keeps | (with_reducible apply Keeps.each) <;> try intro _ _
    | (with_reducible apply Keeps.when) <;> try intro _ | split
    | fail_if_no_progress refine Keeps.record ?_ rfl rfl rfl rfl rfl rfl rfl rfl rfl rfl rfl rfl rfl rfl rfl rfl rfl rfl rfl | dsimp only

theorem execBypassSenseMismatch_keeps (t : Nat) (ke kw : Bool) (s : State) {s' : State}
    (h : execBypassSenseMismatch t ke kw s = .next s') : Keeps [.out, .dict, .hier, .log, .ring, .rst, .sup] (s.upTo t) s' := by
  refine State.run_keeps (fun {v} hv => ?_) h
  clear h
  try dsimp only
  repeat' first
    | with_reducible exact hv | with_reducible assumption | decide | with_reducible exact Keeps.refl _ _ | with_reducible apply Keeps.ite
    | with_reducible apply State.senseRelays_keeps | with_reducible apply State.settleRingPins_keeps | with_reducible apply State.ringRelease_keeps
    | with_reducible apply State.escalate_keeps | (with_reducible apply Keeps.each) <;> try intro _ _
    | (with_reducible apply Keeps.when) <;> try intro _ | split
    | fail_if_no_progress refine Keeps.record ?_ rfl rfl rfl rfl rfl rfl rfl rfl rfl rfl rfl rfl rfl rfl rfl rfl rfl rfl rfl | dsimp only

theorem execRingSteady_keeps (t : Nat) (s : State) {s' : State} (h : execRingSteady t s = .next s') : Keeps [.ring] (s.upTo t) s' := by
  refine State.run_keeps (fun {v} hv => ?_) h
  clear h
  try dsimp only
  repeat' first
    | with_reducible exact hv | with_reducible assumption | decide | with_reducible exact Keeps.refl _ _ | with_reducible apply Keeps.ite
    | with_reducible apply State.waitSteady_keeps | (with_reducible apply Keeps.each) <;> try intro _ _
    | (with_reducible apply Keeps.when) <;> try intro _ | split
    | fail_if_no_progress refine Keeps.record ?_ rfl rfl rfl rfl rfl rfl rfl rfl rfl rfl rfl rfl rfl rfl rfl rfl rfl rfl rfl | dsimp only

theorem execRingActivityInterrupted_keeps (t : Nat) (s : State) {s' : State}
    (h : execRingActivityInterrupted t s = .next s') : Keeps [.ring] (s.upTo t) s' := by
  refine State.run_keeps (fun {v} hv => ?_) h
  clear h
  try dsimp only
  repeat' first
    | with_reducible exact hv | with_reducible assumption | decide | with_reducible exact Keeps.refl _ _ | with_reducible apply Keeps.ite
    | with_reducible apply State.waitSteady_keeps | (with_reducible apply Keeps.each) <;> try intro _ _
    | (with_reducible apply Keeps.when) <;> try intro _ | split
    | fail_if_no_progress refine Keeps.record ?_ rfl rfl rfl rfl rfl rfl rfl rfl rfl rfl rfl rfl rfl rfl rfl rfl rfl rfl rfl | dsimp only

theorem execRingInsertionBeat_keeps (t : Nat) (s : State) {s' : State} (h : execRingInsertionBeat t s = .next s') : Keeps [.ring] (s.upTo t) s' := by
  refine State.run_keeps (fun {v} hv => ?_) h
  clear h
  try dsimp only
  repeat' first
    | with_reducible exact hv | with_reducible assumption | decide | with_reducible exact Keeps.refl _ _ | with_reducible apply Keeps.ite
    | with_reducible apply State.waitSteady_keeps | with_reducible apply State.ringDrive_keeps | (with_reducible apply Keeps.each) <;> try intro _ _
    | (with_reducible apply Keeps.when) <;> try intro _ | split
    | fail_if_no_progress refine Keeps.record ?_ rfl rfl rfl rfl rfl rfl rfl rfl rfl rfl rfl rfl rfl rfl rfl rfl rfl rfl rfl | dsimp only

theorem execRingTrainingLimit_keeps (t : Nat) (s : State) {s' : State} (h : execRingTrainingLimit t s = .next s') : Keeps [.dict, .ring]
    (s.upTo t) s' := by
  refine State.run_keeps (fun {v} hv => ?_) h
  clear h
  try dsimp only
  repeat' first
    | with_reducible exact hv | with_reducible assumption | decide | with_reducible exact Keeps.refl _ _ | with_reducible apply Keeps.ite
    | with_reducible apply State.ringInserted_keeps | with_reducible apply State.ringDrive_keeps | with_reducible apply State.bump_keeps
    | (with_reducible apply Keeps.each) <;> try intro _ _ | (with_reducible apply Keeps.when) <;> try intro _ | split
    | fail_if_no_progress refine Keeps.record ?_ rfl rfl rfl rfl rfl rfl rfl rfl rfl rfl rfl rfl rfl rfl rfl rfl rfl rfl rfl | dsimp only

theorem execRingAttemptInterval_keeps (t : Nat) (s : State) {s' : State} (h : execRingAttemptInterval t s = .next s') : Keeps [.ring]
    (s.upTo t) s' := by
  refine State.run_keeps (fun {v} hv => ?_) h
  clear h
  try dsimp only
  repeat' first
    | with_reducible exact hv | with_reducible assumption | decide | with_reducible exact Keeps.refl _ _ | with_reducible apply Keeps.ite
    | with_reducible apply State.waitSteady_keeps | (with_reducible apply Keeps.each) <;> try intro _ _
    | (with_reducible apply Keeps.when) <;> try intro _ | split
    | fail_if_no_progress refine Keeps.record ?_ rfl rfl rfl rfl rfl rfl rfl rfl rfl rfl rfl rfl rfl rfl rfl rfl rfl rfl rfl | dsimp only

theorem execAutoBypass_keeps (t : Nat) (s : State) {s' : State}
    (h : execAutoBypass t s = .next s') : Keeps [.dict, .log, .ring, .rst, .sup] (s.upTo t) s' := by
  refine State.run_keeps (fun {v} hv => ?_) h
  clear h
  try dsimp only
  repeat' first
    | with_reducible exact hv | with_reducible assumption | decide | with_reducible exact Keeps.refl _ _ | with_reducible apply Keeps.ite
    | with_reducible apply State.ringRelease_keeps | with_reducible apply State.waitSteady_keeps | with_reducible apply State.bump_keeps
    | (with_reducible apply Keeps.each) <;> try intro _ _ | (with_reducible apply Keeps.when) <;> try intro _ | split
    | fail_if_no_progress refine Keeps.record ?_ rfl rfl rfl rfl rfl rfl rfl rfl rfl rfl rfl rfl rfl rfl rfl rfl rfl rfl rfl | dsimp only

theorem execRingRelayContactSense_keeps (t : Nat) (ke kw : Bool) (s : State) {s' : State}
    (h : execRingRelayContactSense t ke kw s = .next s') : Keeps [.out, .dict, .ring, .sup] (s.upTo t) s' := by
  refine State.run_keeps (fun {v} hv => ?_) h
  clear h
  try dsimp only
  repeat' first
    | with_reducible exact hv | with_reducible assumption | decide | with_reducible exact Keeps.refl _ _ | with_reducible apply Keeps.ite
    | with_reducible apply State.senseRelays_keeps | with_reducible apply State.settleRingPins_keeps
    | (with_reducible apply Keeps.each) <;> try intro _ _ | (with_reducible apply Keeps.when) <;> try intro _ | split
    | fail_if_no_progress refine Keeps.record ?_ rfl rfl rfl rfl rfl rfl rfl rfl rfl rfl rfl rfl rfl rfl rfl rfl rfl rfl rfl | dsimp only

theorem execRingRoleConflict_keeps (t : Nat) (side : Side) (s : State) {s' : State}
    (h : execRingRoleConflict t side s = .next s') : Keeps [.out, .dict, .ring] (s.upTo t) s' := by
  refine State.run_keeps (fun {v} hv => ?_) h
  clear h
  try dsimp only
  repeat' first
    | with_reducible exact hv | with_reducible assumption | decide | with_reducible exact Keeps.refl _ _ | with_reducible apply Keeps.ite
    | with_reducible apply State.setRingLink_keeps | with_reducible apply State.updRing_keeps | (with_reducible apply Keeps.each) <;> try intro _ _
    | (with_reducible apply Keeps.when) <;> try intro _ | split
    | fail_if_no_progress refine Keeps.record ?_ rfl rfl rfl rfl rfl rfl rfl rfl rfl rfl rfl rfl rfl rfl rfl rfl rfl rfl rfl | dsimp only

theorem execRingTransmitEnd_keeps (t : Nat) (side : Side) (s : State) {s' : State}
    (h : execRingTransmitEnd t side s = .next s') : Keeps [.out, .ring] (s.upTo t) s' := by
  refine State.run_keeps (fun {v} hv => ?_) h
  clear h
  try dsimp only
  repeat' first
    | with_reducible exact hv | with_reducible assumption | decide | with_reducible exact Keeps.refl _ _ | with_reducible apply Keeps.ite
    | with_reducible apply State.updRing_keeps | with_reducible apply State.ringDrive_keeps | with_reducible apply State.ringKick_keeps
    | (with_reducible apply Keeps.each) <;> try intro _ _ | (with_reducible apply Keeps.when) <;> try intro _ | split
    | fail_if_no_progress refine Keeps.record ?_ rfl rfl rfl rfl rfl rfl rfl rfl rfl rfl rfl rfl rfl rfl rfl rfl rfl rfl rfl | dsimp only

theorem execPtpMessageInterval_keeps (t : Nat) (s : State) {s' : State}
    (h : execPtpMessageInterval t s = .next s') : Keeps [.out, .mgr, .ring] (s.upTo t) s' := by
  refine State.run_keeps (fun {v} hv => ?_) h
  clear h
  try dsimp only
  repeat' first
    | with_reducible exact hv | with_reducible assumption | decide | with_reducible exact Keeps.refl _ _ | with_reducible apply Keeps.ite
    | with_reducible apply State.ptpInterval_keeps | (with_reducible apply Keeps.each) <;> try intro _ _
    | (with_reducible apply Keeps.when) <;> try intro _ | split
    | fail_if_no_progress refine Keeps.record ?_ rfl rfl rfl rfl rfl rfl rfl rfl rfl rfl rfl rfl rfl rfl rfl rfl rfl rfl rfl | dsimp only

theorem execLaneFrameStart_keeps (t p l : Nat) (s : State) {s' : State}
    (h : execLaneFrameStart t p l s = .next s') : Keeps [.out, .dict, .hier, .lanes, .spools, .pages, .routes] (s.upTo t) s' := by
  refine State.run_keeps (fun {v} hv => ?_) h
  clear h
  try dsimp only
  repeat' first
    | with_reducible exact hv | with_reducible assumption | decide | with_reducible exact Keeps.refl _ _ | with_reducible apply Keeps.ite
    | with_reducible apply State.startFrame_keeps | with_reducible apply State.startG9903_keeps | (with_reducible apply Keeps.each) <;> try intro _ _
    | (with_reducible apply Keeps.when) <;> try intro _ | split
    | fail_if_no_progress refine Keeps.record ?_ rfl rfl rfl rfl rfl rfl rfl rfl rfl rfl rfl rfl rfl rfl rfl rfl rfl rfl rfl | dsimp only

theorem execLaneFrameEnd_keeps (t p l : Nat) (s : State) {s' : State}
    (h : execLaneFrameEnd t p l s = .next s') : Keeps [.out, .lanes, .spools, .pages] (s.upTo t) s' := by
  refine State.run_keeps (fun {v} hv => ?_) h
  clear h
  try dsimp only
  repeat' first
    | with_reducible exact hv | with_reducible assumption | decide | with_reducible exact Keeps.refl _ _ | with_reducible apply Keeps.ite
    | with_reducible apply State.endFrame_keeps | (with_reducible apply Keeps.each) <;> try intro _ _
    | (with_reducible apply Keeps.when) <;> try intro _ | split
    | fail_if_no_progress refine Keeps.record ?_ rfl rfl rfl rfl rfl rfl rfl rfl rfl rfl rfl rfl rfl rfl rfl rfl rfl rfl rfl | dsimp only

theorem execGrantLapse_keeps (t p l : Nat) (s : State) {s' : State} (h : execGrantLapse t p l s = .next s') : Keeps [.dict, .lanes]
    (s.upTo t) s' := by
  refine State.run_keeps (fun {v} hv => ?_) h
  clear h
  try dsimp only
  repeat' first
    | with_reducible exact hv | with_reducible assumption | decide | with_reducible exact Keeps.refl _ _ | with_reducible apply Keeps.ite
    | with_reducible apply State.setTx_keeps | with_reducible apply State.bump_keeps | (with_reducible apply Keeps.each) <;> try intro _ _
    | (with_reducible apply Keeps.when) <;> try intro _ | split
    | fail_if_no_progress refine Keeps.record ?_ rfl rfl rfl rfl rfl rfl rfl rfl rfl rfl rfl rfl rfl rfl rfl rfl rfl rfl rfl | dsimp only

theorem execBeaconSend_keeps (t : Nat) (s : State) {s' : State} (h : execBeaconSend t s = .next s') : Keeps [.out, .dict, .hier, .lanes]
    (s.upTo t) s' := by
  refine State.run_keeps (fun {v} hv => ?_) h
  clear h
  try dsimp only
  repeat' first
    | with_reducible exact hv | with_reducible assumption | decide | with_reducible exact Keeps.refl _ _ | with_reducible apply Keeps.ite
    | with_reducible apply State.startBeacon_keeps | with_reducible apply State.setTx_keeps | (with_reducible apply Keeps.each) <;> try intro _ _
    | (with_reducible apply Keeps.when) <;> try intro _ | split
    | fail_if_no_progress refine Keeps.record ?_ rfl rfl rfl rfl rfl rfl rfl rfl rfl rfl rfl rfl rfl rfl rfl rfl rfl rfl rfl | dsimp only

theorem execLaneRestartEnd_keeps (t p l : Nat) (s : State) {s' : State}
    (h : execLaneRestartEnd t p l s = .next s') : Keeps [.dict, .lanes] (s.upTo t) s' := by
  refine State.run_keeps (fun {v} hv => ?_) h
  clear h
  try dsimp only
  repeat' first
    | with_reducible exact hv | with_reducible assumption | decide | with_reducible exact Keeps.refl _ _ | with_reducible apply Keeps.ite
    | with_reducible apply State.setTx_keeps | with_reducible apply State.settleRx_keeps | (with_reducible apply Keeps.each) <;> try intro _ _
    | (with_reducible apply Keeps.when) <;> try intro _ | split
    | fail_if_no_progress refine Keeps.record ?_ rfl rfl rfl rfl rfl rfl rfl rfl rfl rfl rfl rfl rfl rfl rfl rfl rfl rfl rfl | dsimp only

theorem execResultPublish_keeps (t m : Nat) (x : ChannelSample) (s : State) {s' : State}
    (h : execResultPublish t m x s = .next s') : Keeps [.free, .dict, .sensing] (s.upTo t) s' := by
  refine State.run_keeps (fun {v} hv => ?_) h
  clear h
  try dsimp only
  repeat' first
    | with_reducible exact hv | with_reducible assumption | decide | with_reducible exact Keeps.refl _ _ | with_reducible apply Keeps.ite
    | with_reducible apply State.curve_keeps | with_reducible apply State.setVal_keeps | with_reducible apply State.bump_keeps
    | with_reducible apply State.applyAnalog_keeps | (with_reducible apply Keeps.each) <;> try intro _ _
    | (with_reducible apply Keeps.when) <;> try intro _ | split
    | fail_if_no_progress refine Keeps.record ?_ rfl rfl rfl rfl rfl rfl rfl rfl rfl rfl rfl rfl rfl rfl rfl rfl rfl rfl rfl | dsimp only

theorem execThresholdSwitchChange_keeps (t sw value status : Nat) (s : State) {s' : State}
    (h : execThresholdSwitchChange t sw value status s = .next s') : Keeps [.free, .out, .dict, .log, .routes, .cells, .trip, .sensing]
    (s.upTo t) s' := by
  refine State.run_keeps (fun {v} hv => ?_) h
  clear h
  try dsimp only
  repeat' first
    | with_reducible exact hv | with_reducible assumption | decide | with_reducible exact Keeps.refl _ _ | with_reducible apply Keeps.ite
    | with_reducible apply State.applySwitch_keeps | with_reducible apply State.settleCommand_keeps
    | (with_reducible apply Keeps.each) <;> try intro _ _ | (with_reducible apply Keeps.when) <;> try intro _ | split
    | fail_if_no_progress refine Keeps.record ?_ rfl rfl rfl rfl rfl rfl rfl rfl rfl rfl rfl rfl rfl rfl rfl rfl rfl rfl rfl | dsimp only

theorem execGeneratorFault_keeps (t x : Nat) (s : State) {s' : State}
    (h : execGeneratorFault t x s = .next s') : Keeps [.free, .out, .dict, .log, .routes, .cells, .trip, .sensing] (s.upTo t) s' := by
  refine State.run_keeps (fun {v} hv => ?_) h
  clear h
  try dsimp only
  repeat' first
    | with_reducible exact hv | with_reducible assumption | decide | with_reducible exact Keeps.refl _ _ | with_reducible apply Keeps.ite
    | with_reducible apply State.setGen_keeps | with_reducible apply State.bump_keeps | with_reducible apply State.failSwitches_keeps
    | with_reducible apply State.settleCommand_keeps | (with_reducible apply Keeps.each) <;> try intro _ _
    | (with_reducible apply Keeps.when) <;> try intro _ | split
    | fail_if_no_progress refine Keeps.record ?_ rfl rfl rfl rfl rfl rfl rfl rfl rfl rfl rfl rfl rfl rfl rfl rfl rfl rfl rfl | dsimp only

theorem execGeneratorRestart_keeps (t x : Nat) (s : State) {s' : State}
    (h : execGeneratorRestart t x s = .next s') : Keeps [.dict, .sensing] (s.upTo t) s' := by
  refine State.run_keeps (fun {v} hv => ?_) h
  clear h
  try dsimp only
  repeat' first
    | with_reducible exact hv | with_reducible assumption | decide | with_reducible exact Keeps.refl _ _ | with_reducible apply Keeps.ite
    | with_reducible apply State.rampGen_keeps | with_reducible apply State.restartChannel_keeps
    | (with_reducible apply Keeps.each) <;> try intro _ _ | (with_reducible apply Keeps.when) <;> try intro _ | split
    | fail_if_no_progress refine Keeps.record ?_ rfl rfl rfl rfl rfl rfl rfl rfl rfl rfl rfl rfl rfl rfl rfl rfl rfl rfl rfl | dsimp only

theorem execGeneratorRampEnd_keeps (t x : Nat) (s : State) {s' : State} (h : execGeneratorRampEnd t x s = .next s') : Keeps [.sensing]
    (s.upTo t) s' := by
  refine State.run_keeps (fun {v} hv => ?_) h
  clear h
  try dsimp only
  repeat' first
    | with_reducible exact hv | with_reducible assumption | decide | with_reducible exact Keeps.refl _ _ | with_reducible apply Keeps.ite
    | with_reducible apply State.setGen_keeps | (with_reducible apply Keeps.each) <;> try intro _ _
    | (with_reducible apply Keeps.when) <;> try intro _ | split
    | fail_if_no_progress refine Keeps.record ?_ rfl rfl rfl rfl rfl rfl rfl rfl rfl rfl rfl rfl rfl rfl rfl rfl rfl rfl rfl | dsimp only

theorem execLeadMonitorDecision_keeps (t m : Nat) (pairs : List (Nat × Nat × Nat)) (s : State) {s' : State}
    (h : execLeadMonitorDecision t m pairs s = .next s') : Keeps [.free, .out, .dict, .log, .routes, .cells, .trip, .sensing] (s.upTo t) s' := by
  refine State.run_keeps (fun {v} hv => ?_) h
  clear h
  try dsimp only
  repeat' first
    | with_reducible exact hv | with_reducible assumption | decide | with_reducible exact Keeps.refl _ _ | with_reducible apply Keeps.ite
    | with_reducible apply State.setChannel_keeps | with_reducible apply State.bump_keeps | with_reducible apply State.event_keeps
    | with_reducible apply State.failSwitches_keeps | with_reducible apply State.settleCommand_keeps
    | with_reducible apply State.restartChannel_keeps | (with_reducible apply Keeps.each) <;> try intro _ _
    | (with_reducible apply Keeps.when) <;> try intro _ | split
    | fail_if_no_progress refine Keeps.record ?_ rfl rfl rfl rfl rfl rfl rfl rfl rfl rfl rfl rfl rfl rfl rfl rfl rfl rfl rfl | dsimp only

theorem execVrefAoChange_keeps (t mv : Nat) (s : State) {s' : State} (h : execVrefAoChange t mv s = .next s') : Keeps [.sensing] (s.upTo t) s' := by
  refine State.run_keeps (fun {v} hv => ?_) h
  clear h
  try dsimp only
  repeat' first
    | with_reducible exact hv | with_reducible assumption | decide | with_reducible exact Keeps.refl _ _ | with_reducible apply Keeps.ite
    | with_reducible apply State.failAnalog_keeps | (with_reducible apply Keeps.each) <;> try intro _ _
    | (with_reducible apply Keeps.when) <;> try intro _ | split
    | fail_if_no_progress refine Keeps.record ?_ rfl rfl rfl rfl rfl rfl rfl rfl rfl rfl rfl rfl rfl rfl rfl rfl rfl rfl rfl | dsimp only

theorem execBinaryInputEdge_keeps (t n volts : Nat) (s : State) {s' : State}
    (h : execBinaryInputEdge t n volts s = .next s') : Keeps [.trip] (s.upTo t) s' := by
  refine State.run_keeps (fun {v} hv => ?_) h
  clear h
  try dsimp only
  repeat' first
    | with_reducible exact hv | with_reducible assumption | decide | with_reducible exact Keeps.refl _ _ | with_reducible apply Keeps.ite
    | (with_reducible apply Keeps.each) <;> try intro _ _ | (with_reducible apply Keeps.when) <;> try intro _ | split
    | fail_if_no_progress refine Keeps.record ?_ rfl rfl rfl rfl rfl rfl rfl rfl rfl rfl rfl rfl rfl rfl rfl rfl rfl rfl rfl | dsimp only

theorem execBiFilterExpiry_keeps (t n : Nat) (s : State) {s' : State}
    (h : execBiFilterExpiry t n s = .next s') : Keeps [.out, .dict, .log, .routes, .cells, .trip] (s.upTo t) s' := by
  refine State.run_keeps (fun {v} hv => ?_) h
  clear h
  try dsimp only
  repeat' first
    | with_reducible exact hv | with_reducible assumption | decide | with_reducible exact Keeps.refl _ _ | with_reducible apply Keeps.ite
    | with_reducible apply State.bump_keeps | with_reducible apply State.settleCommand_keeps | (with_reducible apply Keeps.each) <;> try intro _ _
    | (with_reducible apply Keeps.when) <;> try intro _ | split
    | fail_if_no_progress refine Keeps.record ?_ rfl rfl rfl rfl rfl rfl rfl rfl rfl rfl rfl rfl rfl rfl rfl rfl rfl rfl rfl | dsimp only

theorem execAckTimeout_keeps (t spool seq : Nat) (s : State) {s' : State}
    (h : execAckTimeout t spool seq s = .next s') : Keeps [.out, .dict, .lanes, .spools, .pages, .routes] (s.upTo t) s' := by
  refine State.run_keeps (fun {v} hv => ?_) h
  clear h
  try dsimp only
  repeat' first
    | with_reducible exact hv | with_reducible assumption | decide | with_reducible exact Keeps.refl _ _ | with_reducible apply Keeps.ite
    | with_reducible apply State.ackExpired_keeps | (with_reducible apply Keeps.each) <;> try intro _ _
    | (with_reducible apply Keeps.when) <;> try intro _ | split
    | fail_if_no_progress refine Keeps.record ?_ rfl rfl rfl rfl rfl rfl rfl rfl rfl rfl rfl rfl rfl rfl rfl rfl rfl rfl rfl | dsimp only

theorem execStandaloneAckDue_keeps (t spool : Nat) (s : State) {s' : State}
    (h : execStandaloneAckDue t spool s = .next s') : Keeps [.lanes] (s.upTo t) s' := by
  refine State.run_keeps (fun {v} hv => ?_) h
  clear h
  try dsimp only
  repeat' first
    | with_reducible exact hv | with_reducible assumption | decide | with_reducible exact Keeps.refl _ _ | with_reducible apply Keeps.ite
    | with_reducible apply State.setTx_keeps | (with_reducible apply Keeps.each) <;> try intro _ _
    | (with_reducible apply Keeps.when) <;> try intro _ | split
    | fail_if_no_progress refine Keeps.record ?_ rfl rfl rfl rfl rfl rfl rfl rfl rfl rfl rfl rfl rfl rfl rfl rfl rfl rfl rfl | dsimp only

theorem execUnroutedHoldExpiry_keeps (t spool : Nat) (s : State) {s' : State}
    (h : execUnroutedHoldExpiry t spool s = .next s') : Keeps [.out, .lanes, .spools, .pages] (s.upTo t) s' := by
  refine State.run_keeps (fun {v} hv => ?_) h
  clear h
  try dsimp only
  repeat' first
    | with_reducible exact hv | with_reducible assumption | decide | with_reducible exact Keeps.refl _ _ | with_reducible apply Keeps.ite
    | with_reducible apply State.emptySpool_keeps | (with_reducible apply Keeps.each) <;> try intro _ _
    | (with_reducible apply Keeps.when) <;> try intro _ | split
    | fail_if_no_progress refine Keeps.record ?_ rfl rfl rfl rfl rfl rfl rfl rfl rfl rfl rfl rfl rfl rfl rfl rfl rfl rfl rfl | dsimp only

theorem execSpoolDisable_keeps (t spool : Nat) (s : State) {s' : State} (h : execSpoolDisable t spool s = .next s') : Keeps [.spools]
    (s.upTo t) s' := by
  refine State.run_keeps (fun {v} hv => ?_) h
  clear h
  try dsimp only
  repeat' first
    | with_reducible exact hv | with_reducible assumption | decide | with_reducible exact Keeps.refl _ _ | with_reducible apply Keeps.ite
    | with_reducible apply State.spoolOff_keeps | (with_reducible apply Keeps.each) <;> try intro _ _
    | (with_reducible apply Keeps.when) <;> try intro _ | split
    | fail_if_no_progress refine Keeps.record ?_ rfl rfl rfl rfl rfl rfl rfl rfl rfl rfl rfl rfl rfl rfl rfl rfl rfl rfl rfl | dsimp only

theorem execSpoolEnable_keeps (t spool : Nat) (s : State) {s' : State}
    (h : execSpoolEnable t spool s = .next s') : Keeps [.lanes, .spools] (s.upTo t) s' := by
  refine State.run_keeps (fun {v} hv => ?_) h
  clear h
  try dsimp only
  repeat' first
    | with_reducible exact hv | with_reducible assumption | decide | with_reducible exact Keeps.refl _ _ | with_reducible apply Keeps.ite
    | with_reducible apply State.spoolOn_keeps | (with_reducible apply Keeps.each) <;> try intro _ _
    | (with_reducible apply Keeps.when) <;> try intro _ | split
    | fail_if_no_progress refine Keeps.record ?_ rfl rfl rfl rfl rfl rfl rfl rfl rfl rfl rfl rfl rfl rfl rfl rfl rfl rfl rfl | dsimp only

theorem execSpoolFlush_keeps (t spool : Nat) (s : State) {s' : State}
    (h : execSpoolFlush t spool s = .next s') : Keeps [.out, .lanes, .spools, .pages] (s.upTo t) s' := by
  refine State.run_keeps (fun {v} hv => ?_) h
  clear h
  try dsimp only
  repeat' first
    | with_reducible exact hv | with_reducible assumption | decide | with_reducible exact Keeps.refl _ _ | with_reducible apply Keeps.ite
    | with_reducible apply State.spoolFlushOp_keeps | (with_reducible apply Keeps.each) <;> try intro _ _
    | (with_reducible apply Keeps.when) <;> try intro _ | split
    | fail_if_no_progress refine Keeps.record ?_ rfl rfl rfl rfl rfl rfl rfl rfl rfl rfl rfl rfl rfl rfl rfl rfl rfl rfl rfl | dsimp only

theorem execZxCrossing_keeps (t input : Nat) (s : State) {s' : State}
    (h : execZxCrossing t input s = .next s') : Keeps [.dict, .tether, .log] (s.upTo t) s' := by
  refine State.run_keeps (fun {v} hv => ?_) h
  clear h
  try dsimp only
  repeat' first
    | with_reducible exact hv | with_reducible assumption | decide | with_reducible exact Keeps.refl _ _ | with_reducible apply Keeps.ite
    | with_reducible apply State.crossingQualified_keeps | with_reducible apply State.crossingUnqualified_keeps
    | (with_reducible apply Keeps.each) <;> try intro _ _ | (with_reducible apply Keeps.when) <;> try intro _ | split
    | fail_if_no_progress refine Keeps.record ?_ rfl rfl rfl rfl rfl rfl rfl rfl rfl rfl rfl rfl rfl rfl rfl rfl rfl rfl rfl | dsimp only

theorem execZxCrossingMissed_keeps (t input : Nat) (s : State) {s' : State}
    (h : execZxCrossingMissed t input s = .next s') : Keeps [.dict, .tether] (s.upTo t) s' := by
  refine State.run_keeps (fun {v} hv => ?_) h
  clear h
  try dsimp only
  repeat' first
    | with_reducible exact hv | with_reducible assumption | decide | with_reducible exact Keeps.refl _ _ | with_reducible apply Keeps.ite
    | with_reducible apply State.zxMiss_keeps | (with_reducible apply Keeps.each) <;> try intro _ _
    | (with_reducible apply Keeps.when) <;> try intro _ | split
    | fail_if_no_progress refine Keeps.record ?_ rfl rfl rfl rfl rfl rfl rfl rfl rfl rfl rfl rfl rfl rfl rfl rfl rfl rfl rfl | dsimp only

theorem execTetherHoldoverExpiry_keeps (t : Nat) (s : State) {s' : State}
    (h : execTetherHoldoverExpiry t s = .next s') : Keeps [.dict, .tether] (s.upTo t) s' := by
  refine State.run_keeps (fun {v} hv => ?_) h
  clear h
  try dsimp only
  repeat' first
    | with_reducible exact hv | with_reducible assumption | decide | with_reducible exact Keeps.refl _ _ | with_reducible apply Keeps.ite
    | with_reducible apply State.bump_keeps | (with_reducible apply Keeps.each) <;> try intro _ _ | (with_reducible apply Keeps.when) <;> try intro _
    | split | fail_if_no_progress refine Keeps.record ?_ rfl rfl rfl rfl rfl rfl rfl rfl rfl rfl rfl rfl rfl rfl rfl rfl rfl rfl rfl | dsimp only

end Sys2Proof.Machine
end

