-- ==== Sys2Proof/Laws/Dict.lean ====
section
/-! SUPPORT. What a stored value reads as: bytes and the numbers they spell, a value stored in the dictionary, a counter counted. -/

set_option Elab.async false

namespace Sys2Proof.Machine

/-! ## Bytes and numbers (R38) -/

@[simp] theorem toBE_length (w n : Nat) : (toBE w n).length = w := by
  induction w with
  | zero => rfl
  | succ w ih => simp [toBE, ih]

theorem ofBEFrom_toBE (w a n : Nat) : ofBEFrom a (toBE w n) = a * 256 ^ w + n % 256 ^ w := by
  induction w generalizing a with
  | zero => simp [toBE, ofBEFrom, Nat.mod_one]
  | succ w ih =>
    have hp : (2 : Nat) ^ (8 * w) = 256 ^ w := by rw [Nat.pow_mul]
    have hm : n % 256 ^ (w + 1) = n / 256 ^ w % 256 * 256 ^ w + n % 256 ^ w := by
      rw [Nat.pow_succ, Nat.mod_mul, Nat.add_comm, Nat.mul_comm]
    simp only [toBE, ofBEFrom, ih, BitVec.toNat_ofNat, Nat.shiftRight_eq_div_pow, hp]
    rw [hm, Nat.pow_succ]
    ring_nf

/-- A number written most significant byte first reads as itself, within its width. -/
theorem ofBE_toBE (w n : Nat) : ofBE (toBE w n) = n % 256 ^ w := by simp [ofBE, ofBEFrom_toBE]

theorem ofBE_toBE_of_lt {w n : Nat} (h : n < 256 ^ w) : ofBE (toBE w n) = n := by rw [ofBE_toBE, Nat.mod_eq_of_lt h]

/-! ## The dictionary -/

variable (s : State)

/-- A stored value is in force. -/
@[simp] theorem State.raw_store_self (k : Nat) (v : Bytes) : (s.store k v).raw k = v := by
  unfold State.store State.raw Table.put
  split
  · rename_i h; simp [Table.find_erase_self, h]
  · simp [Table.find_insert_self]

/-- Storing one entry leaves every other. -/
theorem State.raw_store_ne {k n : Nat} (v : Bytes) (h : n ≠ k) : (s.store k v).raw n = s.raw n := by
  unfold State.store State.raw Table.put
  split
  · simp [Table.find_erase_ne _ h]
  · simp [Table.find_insert_ne _ _ h]

theorem State.raw_storeNat_ne {k j : Nat} (n : Nat) (h : j ≠ k) : (s.storeNat k n).raw j = s.raw j := s.raw_store_ne _ h

/-- A stored number reads as itself, within the width of its entry. -/
theorem State.ofBE_raw_storeNat_self (k n : Nat) :
    ofBE ((s.storeNat k n).raw k) = n % 256 ^ (defaultOf s.variant k).length := by
  simp [State.storeNat, ofBE_toBE]

theorem State.val_setVal_self (i j n : Nat) :
    (s.setVal i j n).val i j = n % 256 ^ (defaultOf s.variant (keyOf i j)).length := s.ofBE_raw_storeNat_self _ _

theorem State.raw_setVal_ne {i j k : Nat} (n : Nat) (h : k ≠ keyOf i j) : (s.setVal i j n).raw k = s.raw k := s.raw_store_ne _ h

/-! ## Counters -/

theorem State.raw_bumpKey_ne {k j : Nat} (n : Nat) (h : j ≠ k) : (s.bumpKey k n).raw j = s.raw j := s.raw_store_ne _ h

/-- A counter counts, and stops at the largest value of its width. -/
theorem State.ofBE_raw_bumpKey_self (k n : Nat) : ofBE ((s.bumpKey k n).raw k) =
    min (256 ^ (defaultOf s.variant k).length - 1) (ofBE (s.raw k) + n) := by
  unfold State.bumpKey
  rw [State.ofBE_raw_storeNat_self]
  refine Nat.mod_eq_of_lt (Nat.lt_of_le_of_lt (Nat.min_le_left _ _) ?_)
  exact Nat.sub_lt (Nat.pow_pos (by decide)) (by decide)

/-- Counting one is what `Counted` says of one counter. -/
theorem State.counted_bumpKey (k : Nat) : Counted [k] s (s.bumpKey k 1) := by
  refine ⟨fun j h => s.raw_bumpKey_ne 1 (by simpa using h), fun j h => ?_⟩
  rw [List.mem_singleton.mp h]
  exact s.ofBE_raw_bumpKey_self k 1

theorem State.counted_bump (i j : Nat) : Counted [keyOf i j] s (s.bump i j) := s.counted_bumpKey _
theorem State.counted_pbump (p i j : Nat) : Counted [portKey p i j] s (s.pbump p i j) := s.counted_bumpKey _
theorem State.counted_lbump (p l i j : Nat) : Counted [laneKey p l i j] s (s.lbump p l i j) := s.counted_bumpKey _

/-- A detected condition stands last among those to be delivered. -/
@[simp] theorem State.event_detected (src code sev : Nat) (data : Bytes) :
    (s.event src code sev data).log.detected = s.log.detected ++ [⟨s.tsc, src, code, sev, data⟩] := rfl

end Sys2Proof.Machine
end

