-- ==== Sys2Proof/Laws/PerInstr.lean ====
section
/-! SUPPORT. Facts that hold of every command as syntax, one lemma per command. Operands: whether a command is well-formed does not depend
on the time at which it happens. -/

set_option Elab.async false

namespace Sys2Proof.Laws.Operands

/-- The same command at another time; of the beat boundary, at another beat. -/
def atTime (i : Instr) (tsc : Nat) : Instr :=
  match i with
  | .uncorrectableError _ src addr => .uncorrectableError tsc src addr
  | .correctionThreshold _ src errors => .correctionThreshold tsc src errors
  | .blockIdle _ region block => .blockIdle tsc region block
  | .idleTimeout _ region block => .idleTimeout tsc region block
  | .blockRelease _ region block failedCells => .blockRelease tsc region block failedCells
  | .scrubError _ item corrected row => .scrubError tsc item corrected row
  | .mbxGo _ f w => .mbxGo tsc f w
  | .ringRequestArrival _ mac msg => .ringRequestArrival tsc mac msg
  | .read _ => .read tsc
  | .write _ => .write tsc
  | .bundle _ => .bundle tsc
  | .windowRead _ => .windowRead tsc
  | .windowWrite _ => .windowWrite tsc
  | .digestQuery _ => .digestQuery tsc
  | .digestAnnounceReceived _ mac msg => .digestAnnounceReceived tsc mac msg
  | .digestAnnounceSend _ => .digestAnnounceSend tsc
  | .commit _ => .commit tsc
  | .commitDistributionDone _ => .commitDistributionDone tsc
  | .abort _ => .abort tsc
  | .commitActivate _ => .commitActivate tsc
  | .digestRecomputeDone _ staged => .digestRecomputeDone tsc staged
  | .beatBoundary _ loads ready => .beatBoundary tsc loads ready
  | .ref10Qualified _ => .ref10Qualified tsc
  | .ref10Lost _ offset => .ref10Lost tsc offset
  | .timeSourceQualified _ src => .timeSourceQualified tsc src
  | .timeSourceLost _ src => .timeSourceLost tsc src
  | .timeHoldoverExpiry _ => .timeHoldoverExpiry tsc
  | .servoCorrection _ error => .servoCorrection tsc error
  | .setStationTime _ => .setStationTime tsc
  | .ppsEdge _ => .ppsEdge tsc
  | .ppsOutEdge _ => .ppsOutEdge tsc
  | .zxCrossing _ input => .zxCrossing tsc input
  | .zxCrossingMissed _ input => .zxCrossingMissed tsc input
  | .tetherHoldoverExpiry _ => .tetherHoldoverExpiry tsc
  | .slotBoundary _ => .slotBoundary tsc
  | .eventDelivery _ ev => .eventDelivery tsc ev
  | .portStartDelay _ p => .portStartDelay tsc p
  | .loopbackDone _ p offset delayError => .loopbackDone tsc p offset delayError
  | .relayContactSense _ p c closed => .relayContactSense tsc p c closed
  | .relaySenseTimeout _ p => .relaySenseTimeout tsc p
  | .portLanesIdle _ p => .portLanesIdle tsc p
  | .faultRetryExpiry _ p => .faultRetryExpiry tsc p
  | .retryReload _ p => .retryReload tsc p
  | .transmitPowerMeasure _ p power => .transmitPowerMeasure tsc p power
  | .currentLimit _ p => .currentLimit tsc p
  | .driverTemperatureRead _ p temp => .driverTemperatureRead tsc p temp
  | .agcUpdate _ p b => .agcUpdate tsc p b
  | .clampOvervoltage _ p => .clampOvervoltage tsc p
  | .impedanceMeasure _ p b z => .impedanceMeasure tsc p b z
  | .laneRestartEnd _ p l => .laneRestartEnd tsc p l
  | .complianceIntegrationEnd _ p l groups => .complianceIntegrationEnd tsc p l groups
  | .clipRelax _ p l g => .clipRelax tsc p l g
  | .tmapUnacknowledged _ link => .tmapUnacknowledged tsc link
  | .preambleDetection _ p l d => .preambleDetection tsc p l d
  | .headerCheckResult _ p l replay h => .headerCheckResult tsc p l replay h
  | .rearmEnd _ p l => .rearmEnd tsc p l
  | .lastSymbolReceived _ p l => .lastSymbolReceived tsc p l
  | .dualCaptureReplay _ p r => .dualCaptureReplay tsc p r
  | .decodeResult _ p l frame r => .decodeResult tsc p l frame r
  | .rxSymbolEnd _ p l sym => .rxSymbolEnd tsc p l sym
  | .echoTrainingEnd _ p b x => .echoTrainingEnd tsc p b x
  | .echoSuppressionMeasure _ p b reference residual transmitting => .echoSuppressionMeasure tsc p b reference residual transmitting
  | .echoHoldTimeout _ p b => .echoHoldTimeout tsc p b
  | .echoResolveDone _ p b x => .echoResolveDone tsc p b x
  | .echoHoldLimit _ p b => .echoHoldLimit tsc p b
  | .echoLostResolve _ p b x => .echoLostResolve tsc p b x
  | .echoModelRefresh _ p b analogue => .echoModelRefresh tsc p b analogue
  | .noiseFloorWindow _ p l w => .noiseFloorWindow tsc p l w
  | .noiseFloorPublish _ p l => .noiseFloorPublish tsc p l
  | .laneFrameStart _ p l => .laneFrameStart tsc p l
  | .laneFrameEnd _ p l => .laneFrameEnd tsc p l
  | .grantLapse _ p l => .grantLapse tsc p l
  | .beaconSend _ => .beaconSend tsc
  | .dataFrameReceived _ rx => .dataFrameReceived tsc rx
  | .ackFrameReceived _ rx => .ackFrameReceived tsc rx
  | .ackTimeout _ spool seq => .ackTimeout tsc spool seq
  | .standaloneAckDue _ spool => .standaloneAckDue tsc spool
  | .unroutedHoldExpiry _ spool => .unroutedHoldExpiry tsc spool
  | .spoolDisable _ spool => .spoolDisable tsc spool
  | .spoolEnable _ spool => .spoolEnable tsc spool
  | .spoolFlush _ spool => .spoolFlush tsc spool
  | .txqDoorbell _ f prod descs => .txqDoorbell tsc f prod descs
  | .rxHoldTimeout _ f => .rxHoldTimeout tsc f
  | .routeAgeExpiry _ pos => .routeAgeExpiry tsc pos
  | .linkIdleRelease _ link => .linkIdleRelease tsc link
  | .linkRelease _ link writer => .linkRelease tsc link writer
  | .linkOffsetWrite _ link writer offset => .linkOffsetWrite tsc link writer offset
  | .reportReceived _ rx => .reportReceived tsc rx
  | .stateReceived _ rx => .stateReceived tsc rx
  | .neighboursReceived _ rx => .neighboursReceived tsc rx
  | .probeReplyReceived _ rx => .probeReplyReceived tsc rx
  | .joinReceived _ rx => .joinReceived tsc rx
  | .g9903Bootstrap _ p l short eui => .g9903Bootstrap tsc p l short eui
  | .probeTimeout _ endpoint => .probeTimeout tsc endpoint
  | .relayWaitExpiry _ p l => .relayWaitExpiry tsc p l
  | .matrixSourceChange _ => .matrixSourceChange tsc
  | .tripMinPulseEnd _ n => .tripMinPulseEnd tsc n
  | .commandFrameEnd _ p => .commandFrameEnd tsc p
  | .heartbeat _ p link => .heartbeat tsc p link
  | .tagStoreRefresh _ p link => .tagStoreRefresh tsc p link
  | .hypothesisTagCompute _ p link => .hypothesisTagCompute tsc p link
  | .commandBodyCheck _ p chips => .commandBodyCheck tsc p chips
  | .supervisionTimeout _ p link => .supervisionTimeout tsc p link
  | .rekeyChangeoverEnd _ p link => .rekeyChangeoverEnd tsc p link
  | .cipherJobFetch _ f d => .cipherJobFetch tsc f d
  | .cipherSegmentComplete _ job unit guardOk dmaOk input aad => .cipherSegmentComplete tsc job unit guardOk dmaOk input aad
  | .knownAnswerTest _ core pass => .knownAnswerTest tsc core pass
  | .load _ f w => .load tsc f w
  | .unwrap _ f w => .unwrap tsc f w
  | .erase _ f w => .erase tsc f w
  | .eraseComplete _ f => .eraseComplete tsc f
  | .slotStorageError _ slot => .slotStorageError tsc slot
  | .ctxAbort _ f w => .ctxAbort tsc f w
  | .checkJobFetch _ f d => .checkJobFetch tsc f d
  | .checkPartComplete _ f ctx dmaOk data => .checkPartComplete tsc f ctx dmaOk data
  | .checkCtxCtrlWrite _ f ctx w => .checkCtxCtrlWrite tsc f ctx w
  | .checkValueWrite _ f ctx high w => .checkValueWrite tsc f ctx high w
  | .functionLevelReset _ f => .functionLevelReset tsc f
  | .ringTrainingComplete _ side marginA marginB cable => .ringTrainingComplete tsc side marginA marginB cable
  | .ringLinkLoss _ side => .ringLinkLoss tsc side
  | .ringConflictTimeout _ side roleChanged => .ringConflictTimeout tsc side roleChanged
  | .ringFrameReceived _ side frame => .ringFrameReceived tsc side frame
  | .hsrSupervisionSend _ => .hsrSupervisionSend tsc
  | .ptpMessageReceived _ side m => .ptpMessageReceived tsc side m
  | .ptpSyncTimeout _ => .ptpSyncTimeout tsc
  | .bypassSenseMismatch _ ke kw => .bypassSenseMismatch tsc ke kw
  | .ringSteady _ => .ringSteady tsc
  | .ringActivityInterrupted _ => .ringActivityInterrupted tsc
  | .ringInsertionBeat _ => .ringInsertionBeat tsc
  | .ringTrainingLimit _ => .ringTrainingLimit tsc
  | .ringAttemptInterval _ => .ringAttemptInterval tsc
  | .autoBypass _ => .autoBypass tsc
  | .insertAtBeat _ => .insertAtBeat tsc
  | .resultPublish _ m x => .resultPublish tsc m x
  | .thresholdSwitchChange _ sw value status => .thresholdSwitchChange tsc sw value status
  | .generatorFault _ x => .generatorFault tsc x
  | .generatorRestart _ x => .generatorRestart tsc x
  | .leadMonitorDecision _ m pairs => .leadMonitorDecision tsc m pairs
  | .clampFlagClear _ => .clampFlagClear tsc
  | .biFilterExpiry _ n => .biFilterExpiry tsc n
  | .powerOn _ => .powerOn tsc
  | .brownOut _ => .brownOut tsc
  | .external _ low => .external tsc low
  | .managerFull _ => .managerFull tsc
  | .managerWarm _ => .managerWarm tsc
  | .watchdog _ => .watchdog tsc
  | .thermal _ temp => .thermal tsc temp
  | .domainClockGood _ d => .domainClockGood tsc d
  | .domainClockTimeout _ d => .domainClockTimeout tsc d
  | .domainClockLost _ d => .domainClockLost tsc d
  | .domainClockReturn _ d => .domainClockReturn tsc d
  | .bootImageVerified _ a b => .bootImageVerified tsc a b
  | .bootCommit _ => .bootCommit tsc
  | .bar0EarlyAccess _ f posted => .bar0EarlyAccess tsc f posted
  | .saveConfiguration _ => .saveConfiguration tsc
  | .saveComplete _ => .saveComplete tsc
  | .imageBlock _ => .imageBlock tsc
  | .eraseBank _ => .eraseBank tsc
  | .verify _ found => .verify tsc found
  | .eraseConfigurationOnly _ => .eraseConfigurationOnly tsc
  | .backupTimeCopy _ => .backupTimeCopy tsc
  | .vbatLoss _ => .vbatLoss tsc
  | .hotSwapConnect _ => .hotSwapConnect tsc
  | .nextractAsserted _ => .nextractAsserted tsc
  | .extractPowerDown _ => .extractPowerDown tsc
  | .nextractReleased _ => .nextractReleased tsc
  | .phaseShed _ rail phase => .phaseShed tsc rail phase
  | .ageingMeasurement _ samples => .ageingMeasurement tsc samples
  | .ageingFlashWrite _ => .ageingFlashWrite tsc
  | .substitutionStart _ => .substitutionStart tsc
  | .bankCopyDone _ lost => .bankCopyDone tsc lost
  | .ballastSubstitute _ => .ballastSubstitute tsc
  | .ballastReturn _ => .ballastReturn tsc
  | .ballastSelfTest _ u pass => .ballastSelfTest tsc u pass
  | .tamperDetected _ sensor => .tamperDetected tsc sensor
  | .tamperLatchClear _ => .tamperLatchClear tsc
  | .evtPop _ f w => .evtPop tsc f w
  | .evtOverflowClear _ f w => .evtOverflowClear tsc f w
  | .registerWrite _ f offset w => .registerWrite tsc f offset w
  | .ringRelayContactSense _ ke kw => .ringRelayContactSense tsc ke kw
  | .ringRoleConflict _ side => .ringRoleConflict tsc side
  | .ringTransmitEnd _ side => .ringTransmitEnd tsc side
  | .ptpMessageInterval _ => .ptpMessageInterval tsc
  | .driverRailRegulation _ p outUs => .driverRailRegulation tsc p outUs
  | .generatorRampEnd _ x => .generatorRampEnd tsc x
  | .vrefAoChange _ mv => .vrefAoChange tsc mv
  | .binaryInputEdge _ n volts => .binaryInputEdge tsc n volts
  | .domainPowerGood _ d => .domainPowerGood tsc d
  | .thermalRelease _ temp => .thermalRelease tsc temp
  | .rxfDoorbell _ f prod bufs => .rxfDoorbell tsc f prod bufs
  | .hostConsumerIndexWrite _ f ring idx => .hostConsumerIndexWrite tsc f ring idx

/-- The time of a command has no part in its well-formedness. -/
def Statement (i : Instr) : Prop := ∀ x, (atTime i x).wf = i.wf

theorem uncorrectableError : ∀ a0 a1 a2, Statement (.uncorrectableError a0 a1 a2) := by intros; exact fun _ => rfl
theorem correctionThreshold : ∀ a0 a1 a2, Statement (.correctionThreshold a0 a1 a2) := by intros; exact fun _ => rfl
theorem blockIdle : ∀ a0 a1 a2, Statement (.blockIdle a0 a1 a2) := by intros; exact fun _ => rfl
theorem idleTimeout : ∀ a0 a1 a2, Statement (.idleTimeout a0 a1 a2) := by intros; exact fun _ => rfl
theorem blockRelease : ∀ a0 a1 a2 a3, Statement (.blockRelease a0 a1 a2 a3) := by intros; exact fun _ => rfl
theorem scrubError : ∀ a0 a1 a2 a3, Statement (.scrubError a0 a1 a2 a3) := by intros; exact fun _ => rfl
theorem mbxGo : ∀ a0 a1 a2, Statement (.mbxGo a0 a1 a2) := by intros; exact fun _ => rfl
theorem ringRequestArrival : ∀ a0 a1 a2, Statement (.ringRequestArrival a0 a1 a2) := by intros; exact fun _ => rfl
theorem read : ∀ a0, Statement (.read a0) := by intros; exact fun _ => rfl
theorem write : ∀ a0, Statement (.write a0) := by intros; exact fun _ => rfl
theorem bundle : ∀ a0, Statement (.bundle a0) := by intros; exact fun _ => rfl
theorem windowRead : ∀ a0, Statement (.windowRead a0) := by intros; exact fun _ => rfl
theorem windowWrite : ∀ a0, Statement (.windowWrite a0) := by intros; exact fun _ => rfl
theorem digestQuery : ∀ a0, Statement (.digestQuery a0) := by intros; exact fun _ => rfl
theorem digestAnnounceReceived : ∀ a0 a1 a2, Statement (.digestAnnounceReceived a0 a1 a2) := by intros; exact fun _ => rfl
theorem digestAnnounceSend : ∀ a0, Statement (.digestAnnounceSend a0) := by intros; exact fun _ => rfl
theorem commit : ∀ a0, Statement (.commit a0) := by intros; exact fun _ => rfl
theorem commitDistributionDone : ∀ a0, Statement (.commitDistributionDone a0) := by intros; exact fun _ => rfl
theorem abort : ∀ a0, Statement (.abort a0) := by intros; exact fun _ => rfl
theorem commitActivate : ∀ a0, Statement (.commitActivate a0) := by intros; exact fun _ => rfl
theorem digestRecomputeDone : ∀ a0 a1, Statement (.digestRecomputeDone a0 a1) := by intros; exact fun _ => rfl
theorem beatBoundary : ∀ a0 a1 a2, Statement (.beatBoundary a0 a1 a2) := by intros; exact fun _ => rfl
theorem ref10Qualified : ∀ a0, Statement (.ref10Qualified a0) := by intros; exact fun _ => rfl
theorem ref10Lost : ∀ a0 a1, Statement (.ref10Lost a0 a1) := by intros; exact fun _ => rfl
theorem timeSourceQualified : ∀ a0 a1, Statement (.timeSourceQualified a0 a1) := by intros; exact fun _ => rfl
theorem timeSourceLost : ∀ a0 a1, Statement (.timeSourceLost a0 a1) := by intros; exact fun _ => rfl
theorem timeHoldoverExpiry : ∀ a0, Statement (.timeHoldoverExpiry a0) := by intros; exact fun _ => rfl
theorem servoCorrection : ∀ a0 a1, Statement (.servoCorrection a0 a1) := by intros; exact fun _ => rfl
theorem setStationTime : ∀ a0, Statement (.setStationTime a0) := by intros; exact fun _ => rfl
theorem ppsEdge : ∀ a0, Statement (.ppsEdge a0) := by intros; exact fun _ => rfl
theorem ppsOutEdge : ∀ a0, Statement (.ppsOutEdge a0) := by intros; exact fun _ => rfl
theorem zxCrossing : ∀ a0 a1, Statement (.zxCrossing a0 a1) := by intros; exact fun _ => rfl
theorem zxCrossingMissed : ∀ a0 a1, Statement (.zxCrossingMissed a0 a1) := by intros; exact fun _ => rfl
theorem tetherHoldoverExpiry : ∀ a0, Statement (.tetherHoldoverExpiry a0) := by intros; exact fun _ => rfl
theorem slotBoundary : ∀ a0, Statement (.slotBoundary a0) := by intros; exact fun _ => rfl
theorem eventDelivery : ∀ a0 a1, Statement (.eventDelivery a0 a1) := by intros; exact fun _ => rfl
theorem portStartDelay : ∀ a0 a1, Statement (.portStartDelay a0 a1) := by intros; exact fun _ => rfl
theorem loopbackDone : ∀ a0 a1 a2 a3, Statement (.loopbackDone a0 a1 a2 a3) := by intros; exact fun _ => rfl
theorem relayContactSense : ∀ a0 a1 a2 a3, Statement (.relayContactSense a0 a1 a2 a3) := by intros; exact fun _ => rfl
theorem relaySenseTimeout : ∀ a0 a1, Statement (.relaySenseTimeout a0 a1) := by intros; exact fun _ => rfl
theorem portLanesIdle : ∀ a0 a1, Statement (.portLanesIdle a0 a1) := by intros; exact fun _ => rfl
theorem faultRetryExpiry : ∀ a0 a1, Statement (.faultRetryExpiry a0 a1) := by intros; exact fun _ => rfl
theorem retryReload : ∀ a0 a1, Statement (.retryReload a0 a1) := by intros; exact fun _ => rfl
theorem transmitPowerMeasure : ∀ a0 a1 a2, Statement (.transmitPowerMeasure a0 a1 a2) := by intros; exact fun _ => rfl
theorem currentLimit : ∀ a0 a1, Statement (.currentLimit a0 a1) := by intros; exact fun _ => rfl
theorem driverTemperatureRead : ∀ a0 a1 a2, Statement (.driverTemperatureRead a0 a1 a2) := by intros; exact fun _ => rfl
theorem agcUpdate : ∀ a0 a1 a2, Statement (.agcUpdate a0 a1 a2) := by intros; exact fun _ => rfl
theorem clampOvervoltage : ∀ a0 a1, Statement (.clampOvervoltage a0 a1) := by intros; exact fun _ => rfl
theorem impedanceMeasure : ∀ a0 a1 a2 a3, Statement (.impedanceMeasure a0 a1 a2 a3) := by intros; exact fun _ => rfl
theorem laneRestartEnd : ∀ a0 a1 a2, Statement (.laneRestartEnd a0 a1 a2) := by intros; exact fun _ => rfl
theorem complianceIntegrationEnd : ∀ a0 a1 a2 a3, Statement (.complianceIntegrationEnd a0 a1 a2 a3) := by intros; exact fun _ => rfl
theorem clipRelax : ∀ a0 a1 a2 a3, Statement (.clipRelax a0 a1 a2 a3) := by intros; exact fun _ => rfl
theorem tmapUnacknowledged : ∀ a0 a1, Statement (.tmapUnacknowledged a0 a1) := by intros; exact fun _ => rfl
theorem preambleDetection : ∀ a0 a1 a2 a3, Statement (.preambleDetection a0 a1 a2 a3) := by intros; exact fun _ => rfl
theorem headerCheckResult : ∀ a0 a1 a2 a3 a4, Statement (.headerCheckResult a0 a1 a2 a3 a4) := by intros; exact fun _ => rfl
theorem rearmEnd : ∀ a0 a1 a2, Statement (.rearmEnd a0 a1 a2) := by intros; exact fun _ => rfl
theorem lastSymbolReceived : ∀ a0 a1 a2, Statement (.lastSymbolReceived a0 a1 a2) := by intros; exact fun _ => rfl
theorem dualCaptureReplay : ∀ a0 a1 a2, Statement (.dualCaptureReplay a0 a1 a2) := by intros; exact fun _ => rfl
theorem decodeResult : ∀ a0 a1 a2 a3 a4, Statement (.decodeResult a0 a1 a2 a3 a4) := by intros; exact fun _ => rfl
theorem rxSymbolEnd : ∀ a0 a1 a2 a3, Statement (.rxSymbolEnd a0 a1 a2 a3) := by intros; exact fun _ => rfl
theorem echoTrainingEnd : ∀ a0 a1 a2 a3, Statement (.echoTrainingEnd a0 a1 a2 a3) := by intros; exact fun _ => rfl
theorem echoSuppressionMeasure : ∀ a0 a1 a2 a3 a4 a5, Statement (.echoSuppressionMeasure a0 a1 a2 a3 a4 a5) := by intros; exact fun _ => rfl
theorem echoHoldTimeout : ∀ a0 a1 a2, Statement (.echoHoldTimeout a0 a1 a2) := by intros; exact fun _ => rfl
theorem echoResolveDone : ∀ a0 a1 a2 a3, Statement (.echoResolveDone a0 a1 a2 a3) := by intros; exact fun _ => rfl
theorem echoHoldLimit : ∀ a0 a1 a2, Statement (.echoHoldLimit a0 a1 a2) := by intros; exact fun _ => rfl
theorem echoLostResolve : ∀ a0 a1 a2 a3, Statement (.echoLostResolve a0 a1 a2 a3) := by intros; exact fun _ => rfl
theorem echoModelRefresh : ∀ a0 a1 a2 a3, Statement (.echoModelRefresh a0 a1 a2 a3) := by intros; exact fun _ => rfl
theorem noiseFloorWindow : ∀ a0 a1 a2 a3, Statement (.noiseFloorWindow a0 a1 a2 a3) := by intros; exact fun _ => rfl
theorem noiseFloorPublish : ∀ a0 a1 a2, Statement (.noiseFloorPublish a0 a1 a2) := by intros; exact fun _ => rfl
theorem laneFrameStart : ∀ a0 a1 a2, Statement (.laneFrameStart a0 a1 a2) := by intros; exact fun _ => rfl
theorem laneFrameEnd : ∀ a0 a1 a2, Statement (.laneFrameEnd a0 a1 a2) := by intros; exact fun _ => rfl
theorem grantLapse : ∀ a0 a1 a2, Statement (.grantLapse a0 a1 a2) := by intros; exact fun _ => rfl
theorem beaconSend : ∀ a0, Statement (.beaconSend a0) := by intros; exact fun _ => rfl
theorem dataFrameReceived : ∀ a0 a1, Statement (.dataFrameReceived a0 a1) := by intros; exact fun _ => rfl
theorem ackFrameReceived : ∀ a0 a1, Statement (.ackFrameReceived a0 a1) := by intros; exact fun _ => rfl
theorem ackTimeout : ∀ a0 a1 a2, Statement (.ackTimeout a0 a1 a2) := by intros; exact fun _ => rfl
theorem standaloneAckDue : ∀ a0 a1, Statement (.standaloneAckDue a0 a1) := by intros; exact fun _ => rfl
theorem unroutedHoldExpiry : ∀ a0 a1, Statement (.unroutedHoldExpiry a0 a1) := by intros; exact fun _ => rfl
theorem spoolDisable : ∀ a0 a1, Statement (.spoolDisable a0 a1) := by intros; exact fun _ => rfl
theorem spoolEnable : ∀ a0 a1, Statement (.spoolEnable a0 a1) := by intros; exact fun _ => rfl
theorem spoolFlush : ∀ a0 a1, Statement (.spoolFlush a0 a1) := by intros; exact fun _ => rfl
theorem txqDoorbell : ∀ a0 a1 a2 a3, Statement (.txqDoorbell a0 a1 a2 a3) := by intros; exact fun _ => rfl
theorem rxHoldTimeout : ∀ a0 a1, Statement (.rxHoldTimeout a0 a1) := by intros; exact fun _ => rfl
theorem routeAgeExpiry : ∀ a0 a1, Statement (.routeAgeExpiry a0 a1) := by intros; exact fun _ => rfl
theorem linkIdleRelease : ∀ a0 a1, Statement (.linkIdleRelease a0 a1) := by intros; exact fun _ => rfl
theorem linkRelease : ∀ a0 a1 a2, Statement (.linkRelease a0 a1 a2) := by intros; exact fun _ => rfl
theorem linkOffsetWrite : ∀ a0 a1 a2 a3, Statement (.linkOffsetWrite a0 a1 a2 a3) := by intros; exact fun _ => rfl
theorem reportReceived : ∀ a0 a1, Statement (.reportReceived a0 a1) := by intros; exact fun _ => rfl
theorem stateReceived : ∀ a0 a1, Statement (.stateReceived a0 a1) := by intros; exact fun _ => rfl
theorem neighboursReceived : ∀ a0 a1, Statement (.neighboursReceived a0 a1) := by intros; exact fun _ => rfl
theorem probeReplyReceived : ∀ a0 a1, Statement (.probeReplyReceived a0 a1) := by intros; exact fun _ => rfl
theorem joinReceived : ∀ a0 a1, Statement (.joinReceived a0 a1) := by intros; exact fun _ => rfl
theorem g9903Bootstrap : ∀ a0 a1 a2 a3 a4, Statement (.g9903Bootstrap a0 a1 a2 a3 a4) := by intros; exact fun _ => rfl
theorem probeTimeout : ∀ a0 a1, Statement (.probeTimeout a0 a1) := by intros; exact fun _ => rfl
theorem relayWaitExpiry : ∀ a0 a1 a2, Statement (.relayWaitExpiry a0 a1 a2) := by intros; exact fun _ => rfl
theorem matrixSourceChange : ∀ a0, Statement (.matrixSourceChange a0) := by intros; exact fun _ => rfl
theorem tripMinPulseEnd : ∀ a0 a1, Statement (.tripMinPulseEnd a0 a1) := by intros; exact fun _ => rfl
theorem commandFrameEnd : ∀ a0 a1, Statement (.commandFrameEnd a0 a1) := by intros; exact fun _ => rfl
theorem heartbeat : ∀ a0 a1 a2, Statement (.heartbeat a0 a1 a2) := by intros; exact fun _ => rfl
theorem tagStoreRefresh : ∀ a0 a1 a2, Statement (.tagStoreRefresh a0 a1 a2) := by intros; exact fun _ => rfl
theorem hypothesisTagCompute : ∀ a0 a1 a2, Statement (.hypothesisTagCompute a0 a1 a2) := by intros; exact fun _ => rfl
theorem commandBodyCheck : ∀ a0 a1 a2, Statement (.commandBodyCheck a0 a1 a2) := by intros; exact fun _ => rfl
theorem supervisionTimeout : ∀ a0 a1 a2, Statement (.supervisionTimeout a0 a1 a2) := by intros; exact fun _ => rfl
theorem rekeyChangeoverEnd : ∀ a0 a1 a2, Statement (.rekeyChangeoverEnd a0 a1 a2) := by intros; exact fun _ => rfl
theorem cipherJobFetch : ∀ a0 a1 a2, Statement (.cipherJobFetch a0 a1 a2) := by intros; exact fun _ => rfl
theorem cipherSegmentComplete : ∀ a0 a1 a2 a3 a4 a5 a6, Statement (.cipherSegmentComplete a0 a1 a2 a3 a4 a5 a6) := by intros; exact fun _ => rfl
theorem knownAnswerTest : ∀ a0 a1 a2, Statement (.knownAnswerTest a0 a1 a2) := by intros; exact fun _ => rfl
theorem load : ∀ a0 a1 a2, Statement (.load a0 a1 a2) := by intros; exact fun _ => rfl
theorem unwrap : ∀ a0 a1 a2, Statement (.unwrap a0 a1 a2) := by intros; exact fun _ => rfl
theorem erase : ∀ a0 a1 a2, Statement (.erase a0 a1 a2) := by intros; exact fun _ => rfl
theorem eraseComplete : ∀ a0 a1, Statement (.eraseComplete a0 a1) := by intros; exact fun _ => rfl
theorem slotStorageError : ∀ a0 a1, Statement (.slotStorageError a0 a1) := by intros; exact fun _ => rfl
theorem ctxAbort : ∀ a0 a1 a2, Statement (.ctxAbort a0 a1 a2) := by intros; exact fun _ => rfl
theorem checkJobFetch : ∀ a0 a1 a2, Statement (.checkJobFetch a0 a1 a2) := by intros; exact fun _ => rfl
theorem checkPartComplete : ∀ a0 a1 a2 a3 a4, Statement (.checkPartComplete a0 a1 a2 a3 a4) := by intros; exact fun _ => rfl
theorem checkCtxCtrlWrite : ∀ a0 a1 a2 a3, Statement (.checkCtxCtrlWrite a0 a1 a2 a3) := by intros; exact fun _ => rfl
theorem checkValueWrite : ∀ a0 a1 a2 a3 a4, Statement (.checkValueWrite a0 a1 a2 a3 a4) := by intros; exact fun _ => rfl
theorem functionLevelReset : ∀ a0 a1, Statement (.functionLevelReset a0 a1) := by intros; exact fun _ => rfl
theorem ringTrainingComplete : ∀ a0 a1 a2 a3 a4, Statement (.ringTrainingComplete a0 a1 a2 a3 a4) := by intros; exact fun _ => rfl
theorem ringLinkLoss : ∀ a0 a1, Statement (.ringLinkLoss a0 a1) := by intros; exact fun _ => rfl
theorem ringConflictTimeout : ∀ a0 a1 a2, Statement (.ringConflictTimeout a0 a1 a2) := by intros; exact fun _ => rfl
theorem ringFrameReceived : ∀ a0 a1 a2, Statement (.ringFrameReceived a0 a1 a2) := by intros; exact fun _ => rfl
theorem hsrSupervisionSend : ∀ a0, Statement (.hsrSupervisionSend a0) := by intros; exact fun _ => rfl
theorem ptpMessageReceived : ∀ a0 a1 a2, Statement (.ptpMessageReceived a0 a1 a2) := by intros; exact fun _ => rfl
theorem ptpSyncTimeout : ∀ a0, Statement (.ptpSyncTimeout a0) := by intros; exact fun _ => rfl
theorem bypassSenseMismatch : ∀ a0 a1 a2, Statement (.bypassSenseMismatch a0 a1 a2) := by intros; exact fun _ => rfl
theorem ringSteady : ∀ a0, Statement (.ringSteady a0) := by intros; exact fun _ => rfl
theorem ringActivityInterrupted : ∀ a0, Statement (.ringActivityInterrupted a0) := by intros; exact fun _ => rfl
theorem ringInsertionBeat : ∀ a0, Statement (.ringInsertionBeat a0) := by intros; exact fun _ => rfl
theorem ringTrainingLimit : ∀ a0, Statement (.ringTrainingLimit a0) := by intros; exact fun _ => rfl
theorem ringAttemptInterval : ∀ a0, Statement (.ringAttemptInterval a0) := by intros; exact fun _ => rfl
theorem autoBypass : ∀ a0, Statement (.autoBypass a0) := by intros; exact fun _ => rfl
theorem insertAtBeat : ∀ a0, Statement (.insertAtBeat a0) := by intros; exact fun _ => rfl
theorem resultPublish : ∀ a0 a1 a2, Statement (.resultPublish a0 a1 a2) := by intros; exact fun _ => rfl
theorem thresholdSwitchChange : ∀ a0 a1 a2 a3, Statement (.thresholdSwitchChange a0 a1 a2 a3) := by intros; exact fun _ => rfl
theorem generatorFault : ∀ a0 a1, Statement (.generatorFault a0 a1) := by intros; exact fun _ => rfl
theorem generatorRestart : ∀ a0 a1, Statement (.generatorRestart a0 a1) := by intros; exact fun _ => rfl
theorem leadMonitorDecision : ∀ a0 a1 a2, Statement (.leadMonitorDecision a0 a1 a2) := by intros; exact fun _ => rfl
theorem clampFlagClear : ∀ a0, Statement (.clampFlagClear a0) := by intros; exact fun _ => rfl
theorem biFilterExpiry : ∀ a0 a1, Statement (.biFilterExpiry a0 a1) := by intros; exact fun _ => rfl
theorem powerOn : ∀ a0, Statement (.powerOn a0) := by intros; exact fun _ => rfl
theorem brownOut : ∀ a0, Statement (.brownOut a0) := by intros; exact fun _ => rfl
theorem external : ∀ a0 a1, Statement (.external a0 a1) := by intros; exact fun _ => rfl
theorem managerFull : ∀ a0, Statement (.managerFull a0) := by intros; exact fun _ => rfl
theorem managerWarm : ∀ a0, Statement (.managerWarm a0) := by intros; exact fun _ => rfl
theorem watchdog : ∀ a0, Statement (.watchdog a0) := by intros; exact fun _ => rfl
theorem thermal : ∀ a0 a1, Statement (.thermal a0 a1) := by intros; exact fun _ => rfl
theorem domainClockGood : ∀ a0 a1, Statement (.domainClockGood a0 a1) := by intros; exact fun _ => rfl
theorem domainClockTimeout : ∀ a0 a1, Statement (.domainClockTimeout a0 a1) := by intros; exact fun _ => rfl
theorem domainClockLost : ∀ a0 a1, Statement (.domainClockLost a0 a1) := by intros; exact fun _ => rfl
theorem domainClockReturn : ∀ a0 a1, Statement (.domainClockReturn a0 a1) := by intros; exact fun _ => rfl
theorem bootImageVerified : ∀ a0 a1 a2, Statement (.bootImageVerified a0 a1 a2) := by intros; exact fun _ => rfl
theorem bootCommit : ∀ a0, Statement (.bootCommit a0) := by intros; exact fun _ => rfl
theorem bar0EarlyAccess : ∀ a0 a1 a2, Statement (.bar0EarlyAccess a0 a1 a2) := by intros; exact fun _ => rfl
theorem saveConfiguration : ∀ a0, Statement (.saveConfiguration a0) := by intros; exact fun _ => rfl
theorem saveComplete : ∀ a0, Statement (.saveComplete a0) := by intros; exact fun _ => rfl
theorem imageBlock : ∀ a0, Statement (.imageBlock a0) := by intros; exact fun _ => rfl
theorem eraseBank : ∀ a0, Statement (.eraseBank a0) := by intros; exact fun _ => rfl
theorem verify : ∀ a0 a1, Statement (.verify a0 a1) := by intros; exact fun _ => rfl
theorem eraseConfigurationOnly : ∀ a0, Statement (.eraseConfigurationOnly a0) := by intros; exact fun _ => rfl
theorem backupTimeCopy : ∀ a0, Statement (.backupTimeCopy a0) := by intros; exact fun _ => rfl
theorem vbatLoss : ∀ a0, Statement (.vbatLoss a0) := by intros; exact fun _ => rfl
theorem hotSwapConnect : ∀ a0, Statement (.hotSwapConnect a0) := by intros; exact fun _ => rfl
theorem nextractAsserted : ∀ a0, Statement (.nextractAsserted a0) := by intros; exact fun _ => rfl
theorem extractPowerDown : ∀ a0, Statement (.extractPowerDown a0) := by intros; exact fun _ => rfl
theorem nextractReleased : ∀ a0, Statement (.nextractReleased a0) := by intros; exact fun _ => rfl
theorem phaseShed : ∀ a0 a1 a2, Statement (.phaseShed a0 a1 a2) := by intros; exact fun _ => rfl
theorem ageingMeasurement : ∀ a0 a1, Statement (.ageingMeasurement a0 a1) := by intros; exact fun _ => rfl
theorem ageingFlashWrite : ∀ a0, Statement (.ageingFlashWrite a0) := by intros; exact fun _ => rfl
theorem substitutionStart : ∀ a0, Statement (.substitutionStart a0) := by intros; exact fun _ => rfl
theorem bankCopyDone : ∀ a0 a1, Statement (.bankCopyDone a0 a1) := by intros; exact fun _ => rfl
theorem ballastSubstitute : ∀ a0, Statement (.ballastSubstitute a0) := by intros; exact fun _ => rfl
theorem ballastReturn : ∀ a0, Statement (.ballastReturn a0) := by intros; exact fun _ => rfl
theorem ballastSelfTest : ∀ a0 a1 a2, Statement (.ballastSelfTest a0 a1 a2) := by intros; exact fun _ => rfl
theorem tamperDetected : ∀ a0 a1, Statement (.tamperDetected a0 a1) := by intros; exact fun _ => rfl
theorem tamperLatchClear : ∀ a0, Statement (.tamperLatchClear a0) := by intros; exact fun _ => rfl
theorem evtPop : ∀ a0 a1 a2, Statement (.evtPop a0 a1 a2) := by intros; exact fun _ => rfl
theorem evtOverflowClear : ∀ a0 a1 a2, Statement (.evtOverflowClear a0 a1 a2) := by intros; exact fun _ => rfl
theorem registerWrite : ∀ a0 a1 a2 a3, Statement (.registerWrite a0 a1 a2 a3) := by intros; exact fun _ => rfl
theorem ringRelayContactSense : ∀ a0 a1 a2, Statement (.ringRelayContactSense a0 a1 a2) := by intros; exact fun _ => rfl
theorem ringRoleConflict : ∀ a0 a1, Statement (.ringRoleConflict a0 a1) := by intros; exact fun _ => rfl
theorem ringTransmitEnd : ∀ a0 a1, Statement (.ringTransmitEnd a0 a1) := by intros; exact fun _ => rfl
theorem ptpMessageInterval : ∀ a0, Statement (.ptpMessageInterval a0) := by intros; exact fun _ => rfl
theorem driverRailRegulation : ∀ a0 a1 a2, Statement (.driverRailRegulation a0 a1 a2) := by intros; exact fun _ => rfl
theorem generatorRampEnd : ∀ a0 a1, Statement (.generatorRampEnd a0 a1) := by intros; exact fun _ => rfl
theorem vrefAoChange : ∀ a0 a1, Statement (.vrefAoChange a0 a1) := by intros; exact fun _ => rfl
theorem binaryInputEdge : ∀ a0 a1 a2, Statement (.binaryInputEdge a0 a1 a2) := by intros; exact fun _ => rfl
theorem domainPowerGood : ∀ a0 a1, Statement (.domainPowerGood a0 a1) := by intros; exact fun _ => rfl
theorem thermalRelease : ∀ a0 a1, Statement (.thermalRelease a0 a1) := by intros; exact fun _ => rfl
theorem rxfDoorbell : ∀ a0 a1 a2 a3, Statement (.rxfDoorbell a0 a1 a2 a3) := by intros; exact fun _ => rfl
theorem hostConsumerIndexWrite : ∀ a0 a1 a2 a3, Statement (.hostConsumerIndexWrite a0 a1 a2 a3) := by intros; exact fun _ => rfl

end Sys2Proof.Laws.Operands
end

