-- ==== Sys2Proof/Tests/Slice0.lean ====
section
/-! SUPPORT. The model's own tests: ill-formed commands that the check refuses, single steps on small states with results taken from the
spec, and for every statement with hypotheses a state and operands that meet them. -/

set_option Elab.async false

namespace Sys2Proof.Tests

open Sys2Proof Sys2Proof.Machine

/-! ## Small states -/

/-- The canonical form as one Bool. -/
def canonical (s : State) : Bool :=
  s.dictOk && Table.rising s.written && Table.wf {} s.hier.blocks && Table.wf {} s.ports && Table.wf {} s.echoes && Table.wf {} s.lanes
    && Table.wf {} s.pages && Table.wf {} s.spools.table && Table.wf {} s.routes.entries && Table.wf {} s.routes.links
    && Table.wf {} s.routes.nodes && Table.wf {} s.cells && Table.wf {} s.cipher.slots && Table.wf {} s.rst.domains
    && Table.wf {} s.sensing.channels && Table.wf {} s.sup.units

theorem canonical_of {s : State} (h : canonical s = true) : s.Canonical := by
  simp only [canonical, Bool.and_eq_true] at h
  obtain ⟨⟨⟨⟨⟨⟨⟨⟨⟨⟨⟨⟨⟨⟨⟨a, b⟩, c⟩, d⟩, e⟩, f⟩, g⟩, h⟩, i⟩, j⟩, k⟩, l⟩, m⟩, n⟩, o⟩, p⟩ := h
  exact ⟨a, b, c, d, e, f, g, h, i, j, k, l, m, n, o, p⟩

theorem live_of {s : State} (h : (canonical s && s.rst.powered) = true) : s.Live := by
  rw [Bool.and_eq_true] at h
  exact ⟨canonical_of h.1, h.2⟩

/-- A running module: every block RUNNING, every domain ON, the boot commit applied; 1000 s after its start. -/
def run : State :=
  { State.reset with
    tsc := 1000000000000
    rst := { State.reset.rst with powered := true, committed := true, domains := (List.range 30).map fun d => (d, { state := .on }) }
    hier := { blocks := allBlocks.map fun rb => (blockKey rb.1 rb.2, { state := .running }) } }

theorem run_live : run.Live := live_of (by decide +kernel)

/-! ## Witnesses: the machine as a whole -/

theorem witness_variant : ∃ u, exec (.ref10Qualified 0) run = .next u := ⟨_, rfl⟩
theorem witness_canonical : State.reset.Canonical ∧ ∃ u, step { State.reset with pending := [.ref10Qualified 0] } = .next u :=
  ⟨canonical_of (by decide +kernel), _, rfl⟩
theorem witness_keys : run.Canonical ∧ mayChangeKeys (.ref10Qualified 0) = false ∧ ∃ u, exec (.ref10Qualified 0) run = .next u :=
  ⟨run_live.1, rfl, _, rfl⟩
theorem witness_unpowered : State.reset.rst.powered = false ∧
    (∀ t, Instr.ppsEdge 5 ≠ .powerOn t ∧ Instr.ppsEdge 5 ≠ .vbatLoss t ∧ Instr.ppsEdge 5 ≠ .hotSwapConnect t ∧
      Instr.ppsEdge 5 ≠ .nextractAsserted t ∧ Instr.ppsEdge 5 ≠ .nextractReleased t) ∧
    (∀ t n, Instr.ppsEdge 5 ≠ .tamperDetected t n) ∧ ∃ u, exec (.ppsEdge 5) State.reset = .next u := by
  refine ⟨rfl, fun t => ?_, fun t n => ?_, _, rfl⟩ <;> simp

/-! ## Witnesses: timebase and tether -/

def hold : State := { run with time := { state := .holdover, holdoverAt := 1000, lastPps := some 1000000000000, ppsEdges := 3 } }
def ptp : State := { run with time := { state := .ptp, ptpOk := true, servoAt := 999000000000 } }
def pps : State := { run with time := { state := .pps, ppsOk := true, ppsEdges := 4, ppsError := some 1000001 } }

theorem hold_live : hold.Live := live_of (by decide +kernel)
theorem ptp_live : ptp.Live := live_of (by decide +kernel)
theorem pps_live : pps.Live := live_of (by decide +kernel)

theorem witness_timebase : hold.time.state = .holdover ∧ hold.timeSet = true ∧
    hold.time.holdoverAt + hold.val 0x1200 0x0D * 1000000000 = 3600000001000 ∧
    nearSecond ((1000000000000 : Nat) - signed 32 (hold.val 0x1200 0x0B) + hold.time.offset) = true ∧
    nearSecond ((1000500000000 : Nat) - signed 32 (hold.val 0x1200 0x0B) + hold.time.offset) = false ∧
    hold.flag 0x1200 0x0A = true ∧ ((hold.upTo 1001000000000).stationTime + 50) % 1000000000 ≤ 100 ∧ run.time.state = .unset ∧
    hold.hier.safeOutputs = false ∧ max hold.tsc 3600000000999 < hold.time.holdoverAt + hold.val 0x1200 0x0D * 1000000000 ∧
    999900000 ≤ (1000999900000 : Nat) - 1000000000000 ∧ (1000999899999 : Nat) - 1000000000000 < 999900000 := by
  decide +kernel
theorem witness_time_sources : run.val 0x1200 0x0F ≠ 0 ∧ (timeOrder (run.val 0x1200 6)).head? = some .ptp ∧ run.time.ppsEdges < 4 ∧
    ptp.time.state = .ptp ∧ ptp.time.ppsOk = false ∧ run.time.state ≠ .pps ∧ run.time.state ≠ .ptp ∧ 4 ≤ pps.time.ppsEdges ∧
    pps.timeSet = true ∧ timeOrder ((run.setVal 0x1200 6 3).val 0x1200 6) = [.pps] ∧ run.time.lastPps = none ∧
    hold.time.lastPps = some 1000000000000 ∧ 1000000000000 + 2000200000 ≤ max hold.tsc 1002000200000 ∧
    max hold.tsc 1002000199999 < 1000000000000 + 2000200000 ∧ pps.time.state = .pps ∧ pps.time.ptpOk = false := by decide +kernel
theorem witness_servo : ptp.Live ∧ ptp.time.state = .ptp ∧ pps.time.state = .pps ∧ pps.time.ppsError = some 1000001 ∧ (1000000 : Int).natAbs ≤ 1000000 ∧
    1000000 < (1000001 : Int).natAbs := ⟨ptp_live, rfl, rfl, rfl, by decide, by decide⟩
theorem witness_boundary : ptp.Live ∧ ptp.written = [] ∧ ptp.mgr.bumps = 0 ∧ ptp.mgr.stagingState ≠ 2 ∧ ptp.mgr.actions = [] ∧ ptp.mgr.commit = none ∧
    ptp.rst.extractAt = none ∧ ptp.rst.requested = none ∧ ptp.time.setTo = none ∧ (ptp.block 5 2).state = .running :=
  ⟨ptp_live, rfl, rfl, by decide, rfl, rfl, rfl, rfl, rfl, by decide +kernel⟩

def crossed : State := { run with tether := { inputs :=
  [(0, { last := some 999980000000, count := 7, period := 20000000 }), (1, { qualified := true, last := some 999970000000, period := 20000000, misses := 2 }),
   (2, { qualified := true, last := some 999999000000, period := 20000000 })], state := .holdover, holdAt := 995000000000, slotAt := 999999166666 } }
/-- Input 0 has counted three crossings, input 1 one, input 2 is lost by the next one missed. -/
def counting (misses : Nat) : State := { run with tether := { inputs :=
  [(0, { last := some 999980000000, count := 3, period := 20000000 }), (1, { last := some 999980000000, count := 1 }),
   (2, { qualified := true, last := some 999970000000, period := 20000000, misses := misses })], slotAt := 1000000000000 } }
theorem counting_live : (counting 1).Live := live_of (by decide +kernel)
theorem witness_counting : ((counting 1).zx 0).qualified = false ∧ ((counting 1).zx 0).last = some 999980000000 ∧ ((counting 1).zx 0).count < 7 ∧
    periodOk (max run.tsc 1000000000000 - 999980000000) = true ∧ periodOk (max run.tsc 1000100000000 - 999980000000) = false ∧
    1 < ((counting 1).zx 0).count ∧ ((counting 1).zx 1).count ≤ 1 ∧
    periodsClose (max run.tsc 1000000000000 - 999980000000) ((counting 1).zx 0).period = true ∧
    periodsClose (max run.tsc 1000001000000 - 999980000000) ((counting 1).zx 0).period = false ∧
    periodOk (max run.tsc 1000001000000 - 999980000000) = true ∧ ((counting 1).zx 2).misses < 2 ∧ 2 ≤ ((counting 2).zx 2).misses ∧
    (counting 1).tether.ref ≠ 3 ∧ 0 < ((counting 1).zx 2).period ∧ max run.tsc 1000000000000 < (counting 1).slotEnd ∧
    ((counting 1).block 5 2).state = .running := by decide +kernel
theorem crossed_live : crossed.Live := live_of (by decide +kernel)
theorem witness_crossings : crossed.Live ∧ (run.zx 2).qualified = false ∧ (run.zx 2).last = none ∧
    (crossed.zx 0).qualified = false ∧ 7 ≤ (crossed.zx 0).count ∧ periodOk (1000000000000 - 999980000000) = true ∧
    periodsClose (1000000000000 - 999980000000) (crossed.zx 0).period = true ∧
    2 * (max crossed.tsc 1000000000000 - 999999000000) < (crossed.zx 2).period := ⟨crossed_live, by decide +kernel⟩
theorem witness_misses : crossed.tether.between = false ∧ crossed.tether.ref ≠ 2 ∧ (crossed.zx 1).qualified = true ∧
    (crossed.zx 1).last = some 999970000000 ∧ 2 ≤ (crossed.zx 1).misses ∧
    (999970000000 + (crossed.zx 1).period) * 36 + (crossed.zx 1).period ≤ max crossed.tsc 1000000000000 * 36 := by decide +kernel
theorem witness_tether_holdover : crossed.tether.state = .holdover ∧
    crossed.val 0x1210 7 * 1000000 = crossed.tether.holdUsed + (max crossed.tsc 1005000000000 - crossed.tether.holdAt) ∧
    crossed.tether.holdUsed + (max crossed.tsc 1004999999999 - crossed.tether.holdAt) < crossed.val 0x1210 7 * 1000000 := by decide +kernel
theorem witness_slot : (crossed.block 5 2).state = .running ∧ crossed.slotEnd ≤ max crossed.tsc 1000000000000 := by decide +kernel

/-! ## Witnesses: events -/

def early : EventIn := ⟨999999999999, 0x5080, 0x0401, 1, []⟩
def late : EventIn := ⟨999999919999, 0x5080, 0x0501, 3, []⟩
def eventful : State := { run with log := { detected := [early] } }
theorem eventful_live : eventful.Live := live_of (by decide +kernel)
theorem witness_events : eventful.Live ∧ (∀ r ∈ eventful.log.stage, max eventful.tsc 0 ≤ r.time + 80000) ∧
    max eventful.tsc 0 ≤ early.time + 80000 ∧ eventful.log.detected = early :: [] ∧ late.time + 80000 < max eventful.tsc 0 ∧
    3 ≤ late.severity ∧ run.log.detected = [] ∧ ({ late with severity := 1 } : EventIn).severity < (run.setVal 0x1800 5 2).val 0x1800 5 :=
  ⟨eventful_live, by decide +kernel⟩

def mailed (n : Nat) : State :=
  { run with pages := [(0, { evtEnable := true, evtFifo := List.replicate n ⟨0, 0, 0, 3, 0, 0, []⟩ })] }
theorem mailed_live : (mailed 1).Live := live_of (by decide +kernel)
theorem witness_mailbox : Table.rising (mailed 15).pages = true ∧ ((mailed 15).page 0).evtEnable = true ∧ (mailed 15).roleOf 0 ≠ 0 ∧
    (if (0 : Nat) = 0 then min 3 ((mailed 15).page 0).minSev else ((mailed 15).page 0).minSev) ≤ 3 ∧
    ((mailed 15).page 0).evtFifo.length < 16 ∧ 16 ≤ ((mailed 16).page 0).evtFifo.length ∧ (mailed 1).open 0 = true ∧
    bit (1 : Word32).toNat 0 = true ∧ bit (0x40000000 : Word32).toNat 30 = true ∧ run.val 0x1800 5 ≤ 3 ∧
    ((mailed 1).page 5).evtEnable = false ∧ bit (2 : Word32).toNat 0 = false ∧ bit (2 : Word32).toNat 30 = false := by decide +kernel

/-! ## Witnesses: hierarchy -/

/-- `run` with the Platform region at work on another block, and a block idling. -/
def busy : State := { run with hier := { run.hier with busy := [(5, 3)] } }
def idling (r b : Nat) : State := run.setBlock r b { state := .idleReq, idleAt := 1000000000000 }
def inReset (r b : Nat) : State := run.setBlock r b { state := .reset, withdrawn := 4 }
theorem busy_live : busy.Live := live_of (by decide +kernel)
theorem idling_live : (idling 5 3).Live := live_of (by decide +kernel)
theorem in_reset_live : (inReset 2 4).Live := live_of (by decide +kernel)

/-- The engine cells of a block but cell 7 are withdrawn, and its ballast engine is out of use. -/
def lastCell : State :=
  { run.setBlock 2 3 { state := .running, withdrawn := 0xFFFF - 128 } with sup := { run.sup with units := [(5, { state := 4 })] } }
/-- The Platform region has asked block 4 to idle at this very TSC. -/
def tied : State :=
  { run.setBlock 5 4 { state := .idleReq, idleAt := 1000000000000, escalatedAt := 1000000000000 } with
    hier := { (run.setBlock 5 4 { state := .idleReq, idleAt := 1000000000000, escalatedAt := 1000000000000 }).hier with busy := [(5, 5)] } }
theorem last_live : lastCell.Live ∧ tied.Live := ⟨live_of (by decide +kernel), live_of (by decide +kernel)⟩
theorem witness_last_cell : (∀ k ∈ peerCells 2 3 7, k ≠ 7 → lastCell.isWithdrawn 2 3 k = true) ∧ lastCell.idleUnit (srcOf 2 3 7) = none ∧
    (lastCell.block 2 3).state = .running ∧ lastCell.queuedReset 2 3 = false ∧ lastCell.regionBusy 2 = false ∧ lastCell.isWithdrawn 2 3 7 = false ∧
    tied.overtaken 5 1 = some 4 ∧ (tied.block 5 1).state = .running ∧ tied.queuedReset 5 1 = false ∧ cellPresent tied.variant 5 1 0 = true ∧
    busy.overtaken 5 4 = none := by decide +kernel
theorem witness_withdraw : srcOf 2 3 7 < 0x10000 ∧ cellPresent run.variant 2 3 7 = true ∧ (∀ q ∈ run.sup.requests, q.time ≠ max run.tsc 0) ∧
    (peerCells 2 3 7).contains 7 = true ∧
    run.isWithdrawn 2 3 7 = false ∧ (run.setBlock 2 3 { state := .running, withdrawn := 128 }).isWithdrawn 2 3 7 = true ∧
    (∃ k ∈ peerCells 2 3 7, k ≠ 7 ∧ run.isWithdrawn 2 3 k = false) := by decide +kernel
theorem witness_escalate : cellPresent run.variant 5 4 1 = true ∧ (run.block 5 4).state = .running ∧
    run.queuedReset 5 4 = false ∧ run.regionBusy 5 = false ∧ busy.queuedReset 5 4 = false ∧ busy.regionBusy 5 = true ∧
    run.val 0x1010 1 ≤ run.val 0x1010 1 ∧ run.val 0x1010 1 - 1 < run.val 0x1010 1 := by decide +kernel
theorem witness_fatal : (run.setVal 0x1010 5 0).Live ∧ (run.setVal 0x1010 5 0).val 0x1010 5 = 0 :=
  ⟨live_of (by decide +kernel), by decide +kernel⟩
theorem witness_handshake : ((idling 5 3).block 5 3).state = .idleReq ∧
    1 + ((idling 5 3).recentResets ((idling 5 3).block 5 3).resets).length < (idling 5 3).val 0x1010 3 ∧
    ((idling 5 3).block 5 3).idleAt + (idling 5 3).val 0x1100 0x20 * 1000 = 1000000000000 + (idling 5 3).val 0x1100 0x20 * 1000 ∧
    ((idling 5 3).block 5 3).openItems = [] ∧ ((idling 5 3).block 5 3).queue = [] ∧
    max run.tsc 0 < ((idling 5 3).block 5 3).idleAt + (idling 5 3).val 0x1100 0x20 * 1000 ∧
    (2, 4) ∈ allBlocks ∧ ((idling 2 4).block 2 4).state = .idleReq := by decide +kernel
theorem witness_release : ((inReset 2 4).block 2 4).state = .reset ∧ ((inReset 2 4).domain (domainOf 2 4)).state = .on ∧
    (inReset 2 4).queuedReset 2 4 = false ∧ (run.block 2 4).state ≠ .reset := by decide +kernel

def stored : State := { run with
  log := { records := [(5, ⟨1, 2, 3, 3, 0, 0, []⟩)] }, routes := { links := [(9, { state := .mapped, peer := 3 })] } }
theorem stored_live : stored.Live := live_of (by decide +kernel)
theorem witness_scrub : stored.Live ∧ (Table.find stored.log.records 5).isSome = true ∧ (stored.link 9).state ≠ .free :=
  ⟨stored_live, by decide +kernel⟩


/-! ## Witnesses: spools, host rings, the mesh -/

/-- `run` with a native data lane 0 on the running port 0, CONTENTION slots only, and the neighbour 7 on link 5. -/
def mesh : State :=
  ({ run with
    ports := [(0, { state := .running, driver := true })]
    tether := { run.tether with valid := true }
    routes := { links := [(5, { state := .mapped, peer := 7, lastRx := 1 })]
                entries := [(56, { valid := true, next := 7, link := 5, metric := 100, hops := 1, sel := true, confirmed := 1 })] } }.storeNat
    (laneKey 0 0 0x2008 1) 1).store (keyOf 0x3000 1) (List.replicate 24 4)

def macOf (type : Nat) (body : Bytes) : MacFrame := ⟨type, false, false, false, 0, 0, 7, 0, 3, 0, 0, 0, 0, 0, body⟩
def rxOf (type : Nat) (body : Bytes) : RxFrame := ⟨0, 0, 7, 1, 0, macOf type body, 0, 0, 1000000000000, 20⟩

theorem mesh_live : mesh.Live := live_of (by decide +kernel)
theorem arrives_of (s : State) (rx : RxFrame) (k pos : Nat)
    (h : (s.nativeRx rx && s.nodeMayStart rx && s.linkOf rx.port rx.lane rx.src == some k && (s.link k).state == .mapped
      && rx.mac.orig == rx.src && s.routeThrough rx.src rx.src rx.port rx.lane == some pos && s.routes.updates == [] && s.routes.failed == [] && rx.mac.grant == 0 && rx.mac.ackMap == 0
      && !rx.mac.ackReq && rx.mac.dst == 0 && rx.mac.fin == 0) = true) (hu : s.spools.table = []) : s.Arrives rx k pos := by
  simp only [Bool.and_eq_true, beq_iff_eq, Bool.not_eq_true'] at h
  obtain ⟨⟨⟨⟨⟨⟨⟨⟨⟨⟨⟨⟨a, b⟩, c⟩, d⟩, e⟩, f⟩, v⟩, w⟩, g⟩, i⟩, j⟩, l⟩, m⟩ := h
  exact ⟨a, b, c, .inl d, e, f, v, fun e => by simp [State.isLost, w, State.isUnrouted, State.spool, hu, Table.get, Table.find], g, i, j, l, m⟩
theorem arrives_mesh (type : Nat) (body : Bytes)
    (h : ((mesh.upTo 1000000000000).nativeRx (rxOf type body) && (mesh.upTo 1000000000000).nodeMayStart (rxOf type body)) = true) :
    (mesh.upTo 1000000000000).Arrives (rxOf type body) 5 56 := by
  rw [Bool.and_eq_true] at h
  refine arrives_of _ _ _ _ ?_ rfl
  rw [h.1, h.2]
  rfl

def item (h tries : Nat) : QueueItem := ⟨h, 0, 0, some 9, tries, 10, true⟩
def spooled : State :=
  { mesh with
    spools := { table := [(28, { state := .disabled, queue := [item 3 0] }),
                  (29, { state := .unrouted, unroutedAt := 1000000000000 - mesh.val 0x3106 1 * 1000000000, queue := [item 4 0] }),
                  (30, { state := .ready, ackDue := true, flight := [⟨9, item 1 0, some 100, 56⟩] }),
                  (31, { state := .ready, flight := [⟨9, item 2 15, some 100, 56⟩] })]
                packets := [(1, ⟨7, 2, [1, 2, 3, 4, 5, 6, 7, 8, 9, 10], 5, some 3, 0, 0⟩), (2, ⟨7, 3, [1, 2, 3, 4, 5, 6, 7, 8, 9, 10], 6, some 3, 0, 0⟩),
                  (3, ⟨7, 0, [1, 2, 3, 4, 5, 6, 7, 8, 9, 10], 5, some 3, 0, 0⟩), (4, ⟨7, 1, [1, 2, 3, 4, 5, 6, 7, 8, 9, 10], 5, some 3, 0, 0⟩)]
                nextHandle := 5 }
    tether := { mesh.tether with slotCount := 100 + mesh.val 0x3102 3 + mesh.val 0x3102 4 } }
theorem spooled_live : spooled.Live := live_of (by decide +kernel)
theorem witness_spools : spooled.isEndpoint (28 / 4) = true ∧ (spooled.spool 28).state = .disabled ∧ 0 < spooled.window (28 % 4) ∧
    (spooled.spool 29).state = .unrouted ∧ (spooled.spool 29).unroutedAt + spooled.val 0x3106 1 * 1000000000 = max spooled.tsc 1000000000000 ∧
    max spooled.tsc 1000000000000 < (spooled.spool 29).unroutedAt + (spooled.setVal 0x3106 1 11).val 0x3106 1 * 1000000000 := by
  decide +kernel
theorem witness_ack_timeouts :
    (spooled.spool 30).flight.find? (fun y => y.seq == 9) = some ⟨9, item 1 0, some 100, 56⟩ ∧
    100 + spooled.val 0x3102 (30 % 4 + 1) ≤ spooled.tether.slotCount ∧ (item 1 0).tries < spooled.val 0x3103 (30 % 4 + 1) ∧
    (spooled.spool 31).flight.find? (fun y => y.seq == 9) = some ⟨9, item 2 15, some 100, 56⟩ ∧
    100 + spooled.val 0x3102 (31 % 4 + 1) ≤ spooled.tether.slotCount ∧ spooled.val 0x3103 (31 % 4 + 1) ≤ (item 2 15).tries ∧
    (spooled.route 56).valid = true ∧ (spooled.spool 30).ackDue = true ∧
    (spooled.spool 30).ackAt + spooled.val 0x3104 (30 % 4 + 1) ≤ spooled.tether.slotCount ∧ spooled.laneOf (30 / 4) = some 0 ∧
    (spooled.packet 1).isSome = true ∧ spooled.spoolOf 1 = some 30 := by
  decide +kernel

def desc (dst : Nat) : TxDesc := ⟨0, 4, 1, 0, dst, 0, 77, [1, 2, 3, 4]⟩
def ringed : State :=
  { mesh with pages := [(0, { rings := [(0, { enable := true }), (1, { enable := true }), (2, { enable := true })] }),
      (3, { rings := [(0, { enable := true }), (1, { enable := true, prod := 15 }), (2, { enable := true, prod := 4 }), (3, { enable := true, prod := 5, cons := 2 }),
        (4, { stalled := true })], evtFifo := [⟨0, 0, 0, 3, 0, 0, []⟩] }),
      (5, { rxWait := [⟨[1], rxOf 1 [1], 24999999⟩] })] }
theorem ringed_live : ringed.Live := live_of (by decide +kernel)
theorem witness_txq : ringed.open 0 = true ∧ ((ringed.page 0).ring 0).enable = true ∧ ((ringed.page 0).ring 0).newEntries 1 = 1 ∧
    (ringed.page 0).txPosted = [] ∧ (ringed.page 0).txWait.length < 16 ∧ ringed.openRequests 0 < ((ringed.page 0).ring 1).free ∧
    ringed.txCheck (desc 7) = none ∧ ringed.bound 0 (desc 7) = true ∧ (desc 7).cls ≠ 0 ∧ (ringed.txCheck (desc 0)).isSome = true ∧
    ((ringed.page 0).ring 1).enable = true ∧ ((ringed.page 3).ring 0).newEntries 1 = 1 ∧
    ((ringed.page 3).ring 1).free ≤ ringed.openRequests 3 := by decide +kernel
theorem witness_receive_rings : ringed.open 3 = true ∧ ((ringed.page 3).ring 2).newEntries 5 = 1 ∧ (ringed.page 3).rxWait = [] ∧
    (ringed.page 5).rxWait = [⟨[1], rxOf 1 [1], 24999999⟩] ∧
    24999999 + (ringed.setVal 0x3106 3 1).val 0x3106 3 ≤ max ringed.tsc 1000000000000 / 40000 ∧
    max ringed.tsc 1000000000000 / 40000 < 24999999 + (ringed.setVal 0x3106 3 2).val 0x3106 3 ∧ (ringed.page 3).txPosted = [] := by decide +kernel

def reportBody (n : Nat) : Bytes := [1, 0, 0, 0] ++ List.replicate n 0
def joinBody : Bytes := [0, 0, 0, 0, 0, 0, 0, 9] ++ List.replicate 8 0
def probeBody (target : Byte) : Bytes := [0, 0, 0, target, 0, 0, 1, 0, 0, 0, 0, 7, 0, 10, 0, 0]
theorem witness_report : mesh.Live ∧ (mesh.upTo 1000000000000).Arrives (rxOf 6 (reportBody 24)) 5 56 ∧
    (mesh.upTo 1000000000000).Arrives (rxOf 6 (reportBody 23)) 5 56 ∧
    (rxOf 6 (reportBody 24)).mac.body.length = 4 + 24 * beAt (rxOf 6 (reportBody 24)).mac.body 0 1 ∧
    (rxOf 6 (reportBody 23)).mac.body.length ≠ 4 + 24 * beAt (rxOf 6 (reportBody 23)).mac.body 0 1 :=
  ⟨mesh_live, arrives_mesh _ _ (by decide +kernel), arrives_mesh _ _ (by decide +kernel), by decide +kernel, by decide +kernel⟩
theorem witness_node_reports : (mesh.upTo 1000000000000).Arrives (rxOf 7 (List.replicate 48 0)) 5 56 ∧
    (rxOf 7 (List.replicate 48 0)).mac.body.length = 48 ∧ (mesh.upTo 1000000000000).Arrives (rxOf 8 ([0, 1] ++ List.replicate 10 0)) 5 56 ∧
    beAt (rxOf 8 ([0, 1] ++ List.replicate 10 0)).mac.body 0 2 = 1 ∧ (rxOf 8 ([0, 1] ++ List.replicate 10 0)).mac.body.length = 12 ∧
    (mesh.upTo 1000000000000).Arrives (rxOf 11 joinBody) 5 56 ∧ joinBody.length = 16 ∧ mesh.joinClash 7 (beAt joinBody 0 8) = false :=
  ⟨arrives_mesh _ _ (by decide +kernel), rfl, arrives_mesh _ _ (by decide +kernel), by decide +kernel, by decide +kernel,
    arrives_mesh _ _ (by decide +kernel), rfl, by decide +kernel⟩
theorem witness_probe_reply : (mesh.upTo 1000000000000).Arrives (rxOf 10 (probeBody 8)) 5 56 ∧ beAt (probeBody 8) 6 1 = 1 ∧
    (probeBody 8).length = 8 + 8 * beAt (probeBody 8) 6 1 ∧ mesh.isEndpoint (beAt (probeBody 8) 0 4) = true :=
  ⟨arrives_mesh _ _ (by decide +kernel), by decide +kernel, by decide +kernel, by decide +kernel⟩

def heard3 : State := { mesh with pages := [(0, { rings := [(3, { enable := true })] })] }
def ackRx : RxFrame := { rxOf 2 [] with mac := { macOf 2 [] with ackMap := 1, ackSeq := 9, ackCls := 2 } }
theorem heard3_live : heard3.Live := live_of (by decide +kernel)
theorem witness_data : heard3.Live ∧ (heard3.upTo 1000000000000).Arrives (rxOf 1 [1, 2]) 5 56 ∧
    heard3.receiver (rxOf 1 [1, 2]).src (rxOf 1 [1, 2]).cls = some 0 ∧ ((heard3.page 0).ring 2).enable = false ∧
    mesh.receiver (rxOf 1 [1, 2]).src (rxOf 1 [1, 2]).cls = none ∧ mesh.nativeRx (rxOf 12 []) = true :=
  ⟨heard3_live, arrives_of _ _ _ _ (by decide +kernel) rfl, by decide +kernel, by decide +kernel, by decide +kernel, by decide +kernel⟩
def askedRx : RxFrame := { rxOf 1 [1, 2] with mac := { macOf 1 [1, 2] with ackReq := true, seq := 0 } }
theorem witness_data_acked : (heard3.upTo 1000000000000).Arrives { askedRx with mac := { askedRx.mac with ackReq := false } } 5 56 ∧
    askedRx.mac.ackReq = true ∧ askedRx.mac.type = 1 ∧ askedRx.mac.more = false ∧ askedRx.mac.frag = 0 ∧
    askedRx.mac.seq = (heard3.spool (4 * askedRx.src + askedRx.cls)).rxBase ∧ (heard3.spool (4 * askedRx.src + askedRx.cls)).heldRx = [] ∧
    1 ≤ heard3.window askedRx.cls ∧ heard3.receiver askedRx.src askedRx.cls = some 0 :=
  ⟨arrives_of _ _ _ _ (by decide +kernel) rfl, by decide +kernel⟩
theorem witness_ack : (mesh.upTo 1000000000000).Arrives { ackRx with mac := { ackRx.mac with ackMap := 0 } } 5 56 ∧
    ackRx.mac.type = 2 ∧ ackRx.mac.ackMap = 1 := ⟨arrives_of _ _ _ _ (by decide +kernel) rfl, rfl, rfl⟩

def gLane : State := mesh.storeNat (laneKey 0 1 0x2008 1) 3
def aged : State := { mesh with routes := { mesh.routes with
  links := [(5, { state := .mapped, peer := 7, lastRx := 1 }), (6, { state := .robust, peer := 9, lastRx := 400000000000 })]
  entries := [(56, { valid := true, next := 7, link := 5, metric := 100, hops := 1, confirmed := 1 }),
    (64, { valid := true, next := 7, link := 5, metric := 100, hops := 2, confirmed := 400000000000 }),
    (72, { valid := true, next := 7, link := 5, metric := 100, hops := 2, confirmed := 400000000001 })] } }
theorem aged_live : aged.Live := live_of (by decide +kernel)
theorem g_live : gLane.Live := live_of (by decide +kernel)
theorem witness_g9903 : gLane.Live ∧ gLane.hasPort 0 = true ∧ gLane.laneKind 0 1 = 3 ∧ gLane.running 0 = true ∧
    gLane.isEndpoint (gLane.val 0x3210 0x0A + 1) = true ∧ gLane.isEndpoint (gLane.val 0x3210 0x0A + 0x7FFF) = true :=
  ⟨g_live, by decide +kernel⟩
theorem witness_aged : (aged.route 64).valid = true ∧ (aged.route 64).pinned = false ∧ (aged.route 64).hops ≠ 1 ∧ (aged.route 56).hops = 1 ∧
    aged.val 0x3210 1 = (aged.upTo 1000000000000).routeAge (aged.route 64) ∧
    aged.val 0x3210 1 ≤ (aged.upTo 1000000000000).routeAge (aged.route 56) ∧
    (aged.upTo 1000000000000).routeAge (aged.route 72) < aged.val 0x3210 1 ∧
    aged.linkOf 0 0 7 = some 5 ∧ (aged.link 6).state ≠ .free ∧
    (aged.link 6).lastRx + aged.val 0x3210 1 * 1000000000 = max aged.tsc 1000000000000 ∧ aged.routesOfLink 6 = [] ∧
    (aged.link 5).state ≠ .free := by decide +kernel

def probing (attempt probes sent : Nat) : State :=
  { mesh with routes := { mesh.routes with repairs := [⟨9, attempt, 4, sent, 0, false⟩], probes := probes } }
theorem probing_live : (probing 3 0 998000000000).Live := live_of (by decide +kernel)
theorem witness_probes : (probing 3 0 998000000000).Live ∧ (probing 3 0 998000000000).repairOf 9 = some ⟨9, 3, 4, 998000000000, 0, false⟩ ∧
    998000000000 + (probing 3 0 998000000000).val 0x3210 5 * 1000000 = max mesh.tsc 1000000000000 ∧
    (probing 3 0 998000000000).val 0x3210 4 ≤ 3 ∧ 2 < (probing 2 15 998000000000).val 0x3210 4 ∧
    15 < (probing 2 15 998000000000).val 0x3210 6 ∧ (probing 2 16 998000000000).val 0x3210 6 ≤ 16 := ⟨probing_live, by decide +kernel⟩

/-! ## Witnesses: ports, echo cancellers, lanes in transmission -/

def onPort (x : Port) : State := { mesh with ports := [(0, x)] }
def portAt (st : PortState) (step : PortStep) (beat : Nat) : Port := { state := st, step := step, stepBeat := beat, driver := true }
theorem bias_live : (onPort (portAt .starting .bias 24999975)).Live := live_of (by decide +kernel)
theorem loop_live : (onPort (portAt .starting .loopback 24999950)).Live := live_of (by decide +kernel)
theorem witness_port_moving : ((onPort (portAt .starting .bias 24999975)).port 0).moving = false ∧
    ((onPort (portAt .starting .loopback 24999950)).port 0).moving = false ∧ ((onPort (portAt .starting .loopback 24999951)).port 0).moving = false ∧
    max mesh.tsc 1000000000000 / 40000 < 24999951 + 50 ∧ ((onPort (portAt .starting .loopback 24999951)).port 0).state = .starting ∧
    (onPort { portAt .starting .loopback 24999950 with enabled := true }).portStopped 0 = true ∨
      ((onPort (portAt .starting .loopback 24999950)).storeNat (portKey 0 0x2000 2) 1).portStopped 0 = true := by decide +kernel
theorem witness_port_start : (onPort (portAt .starting .bias 24999975)).hasPort 0 = true ∧
    ((onPort (portAt .starting .bias 24999975)).port 0).state = .starting ∧ ((onPort (portAt .starting .bias 24999975)).port 0).step = .bias ∧
    24999975 + 25 = max mesh.tsc 1000000000000 / 40000 ∧ max mesh.tsc 1000000000000 / 40000 < 24999976 + 25 ∧
    ((onPort (portAt .starting .loopback 24999950)).port 0).step = .loopback ∧ 24999950 + 50 = max mesh.tsc 1000000000000 / 40000 ∧
    (2048 : Int).natAbs ≤ 2048 ∧ (20 : Int).natAbs ≤ 20 ∧ 2048 < (2049 : Int).natAbs ∧ 20 < (-21 : Int).natAbs ∧
    (onPort (portAt .starting .loopback 24999950)).portStopped 0 = false ∧ (onPort (portAt .starting .loopback 24999950)).portUp 0 = true := by
  decide +kernel

def contacts (st : PortState) : State :=
  onPort { portAt st .relays 0 with
    relayNb := { command := true, sense := true }, relayBb := { command := true }, matrix := { command := true, beat := 24999750 }
    swapTo := 36 }
theorem contacts_live : (contacts .running).Live ∧ (contacts .stopped).Live ∧ (contacts .swapping).Live :=
  ⟨live_of (by decide +kernel), live_of (by decide +kernel), live_of (by decide +kernel)⟩
theorem witness_contacts : (((contacts .stopped).port 0).relay .bb).sense = !true ∧ (((contacts .running).port 0).relay .nb).sense = !false ∧
    (((contacts .running).port 0).relay .nb).command = !false ∧ (contacts .running).portUp 0 = true ∧
    (((contacts .running).port 0).relay .nb).sense = true ∧ ((contacts .swapping).port 0).matrix.sense = !true ∧
    ((contacts .swapping).port 0).matrix.command = true ∧ ((contacts .swapping).port 0).faultNext = 0 ∧
    ((onPort { portAt .stopped .relays 0 with matrix := { sense := true, command := true } }).port 0).matrix.sense = !false ∧
    ((onPort { portAt .stopped .relays 0 with matrix := { sense := true, command := true } }).port 0).matrix.command = !false ∧
    ((contacts .running).upTo 1000000000000).senseLate 0 = true := by decide +kernel

def matrixAt (st : PortState) (step : PortStep) (f : Nat) (c d : Bool) : State :=
  onPort { portAt st step 0 with matrix := { sense := !c, command := d, beat := 24999750 }, faultNext := f, swapTo := 36 }
theorem witness_matrix : ((matrixAt .running .matrix 0 true false).port 0).matrix.sense = !true ∧
    ((matrixAt .running .matrix 0 true false).port 0).matrix.command = !true ∧ ((matrixAt .running .matrix 0 true false).port 0).state = .running ∧
    (matrixAt .running .matrix 0 true false).portUp 0 = true ∧ ((matrixAt .stopped .matrix 5 true true).port 0).matrix.command = true ∧
    ((matrixAt .stopped .matrix 5 true true).port 0).state ≠ .swapping ∧ ((contacts .running).port 0).matrix.sense = false ∧
    ((matrixAt .swapping .matrix 0 true true).upTo 1000000000000).senseLate 0 = true ∧ (matrixAt .swapping .matrix 0 true true).portUp 0 = true ∧
    ((matrixAt .swapping .loopback 0 true true).port 0).step ≠ .matrix ∧
    ((matrixAt .swapping .loopback 0 true true).upTo 1000000000000).senseLate 0 = true ∧
    ((matrixAt .running .matrix 0 true true).upTo 999999999999).senseLate 0 = true ∧
    ((onPort (portAt .running .relays 0)).upTo 1000000000000).senseLate 0 = false := by decide +kernel

def clamped (n : Nat) : State := (onPort { portAt .running .training 0 with clampRun := n, limitBeat := some 24999999, gain := 12 })
def faulty (r : Nat) : State := (onPort { portAt .fault .bias 0 with cause := 2, retries := r }).storeNat (portKey 0 0x2000 1) 1
def retryAt (n : Nat) : State := (faulty 1).storeNat (portKey 0 0x2001 8) n
def ending : State := ((onPort { portAt .stopping .bias 0 with enabled := true }).storeNat (portKey 0 0x2000 1) 1).storeNat (portKey 0 0x2000 2) 1
def working : State := (onPort (portAt .running .bias 0)).storeNat (portKey 0 0x2000 1) 1
theorem clamped_live : (clamped 250).Live := live_of (by decide +kernel)
theorem retry_live : (retryAt 990000000000).Live := live_of (by decide +kernel)
theorem ending_live : ending.Live := live_of (by decide +kernel)
theorem witness_port_faults : ((clamped 250).port 0).state = .running ∧ 250 ≤ ((clamped 250).port 0).clampRun ∧
    ((clamped 249).port 0).clampRun < 250 ∧ ((clamped 250).port 0).foldback = 0 ∧ ((faulty 0).port 0).state = .fault ∧
    ((faulty 0).port 0).cause = 2 ∧ (faulty 0).portUp 0 = true ∧ (150000 : Int) ≤ 150000 - (clamped 250).userShift 0 8 ∧
    (100000 : Int) < 100001 - (clamped 250).userShift 0 8 ∧ (124999 : Int) - (clamped 250).userShift 0 8 < 125000 := by decide +kernel
theorem witness_port_retries : (retryAt 990000000000).portUp 0 = true ∧ (retryAt 990000000000).portEnabled 0 = true ∧
    ((retryAt 990000000000).port 0).state = .fault ∧ ((retryAt 990000000000).port 0).causeActive = false ∧
    0 < ((retryAt 990000000000).port 0).retries ∧
    (retryAt 990000000000).pval 0 0x2001 8 + (retryAt 990000000000).pval 0 0x2000 6 * 1000000000 = max mesh.tsc 1000000000000 ∧
    max mesh.tsc 1000000000000 < (retryAt 990000000001).pval 0 0x2001 8 + (retryAt 990000000001).pval 0 0x2000 6 * 1000000000 ∧
    ((faulty 0).port 0).retries = 0 ∧ (working.port 0).state = .running ∧ working.portUp 0 = true ∧ working.portEnabled 0 = true ∧
    (working.port 0).runBeat + 90000000 = max working.tsc 3600000000000 / 40000 ∧ (ending.port 0).state = .stopping ∧ ending.lanesIdle 0 = true ∧
    ending.portStopped 0 = true ∧ (ending.port 0).enabled = true ∧ ending.portUp 0 = true ∧ ending.portEnabled 0 = true := by decide +kernel

def measured0 : State := (((onPort { portAt .running .training 0 with limitBeat := some 24999999, gain := 12 }).storeNat (portKey 0 0x2002 1) 1).storeNat
  (portKey 0 0x2003 5) 1).storeNat (portKey 0 0x2000 3) 3
theorem measured_live : measured0.Live := live_of (by decide +kernel)
theorem witness_measurements : (measured0.port 0).limitBeat ≠ some (max measured0.tsc 1000000000000 / 40000) ∧
    (measured0.port 0).limitBeat = some (max (999960000000 : Nat) 999999999999 / 40000) ∧ (clamped 0).pval 0 0x2002 1 ≠ 1 ∧
    measured0.pval 0 0x2002 1 = 1 ∧ measured0.pval 0 0x2003 5 ≠ 0 ∧ measured0.running 0 = true ∧ Band.bb ∈ measured0.portBands 0 ∧
    (measured0.port 0).impedanceAt .bb + measured0.pval 0 0x2003 5 * 25000 ≤ max measured0.tsc 1000000000000 / 40000 := by decide +kernel

def agc (mode target quiet gain : Nat) : State :=
  ((onPort { portAt .running .training 0 with gain := gain, quietBeats := quiet }).storeNat (portKey 0 0x2002 1) mode).storeNat (portKey 0 0x2002 3) target
theorem witness_power : (5 : Nat) = (scaleBy ((5 : Nat) : Int) (powerRatio (-(measured0.userShift 0 7)))).toNat ∧ (5 : Nat) < 0x10000 := by
  decide +kernel
theorem witness_gain : (agc 0 244 0 0).pval 0 0x2002 1 ≠ 1 ∧ (-10 : Int) ≤ -10 ∧ (signed 8 ((agc 0 244 0 0).pval 0 0x2002 3) - 6) * 10 = -180 ∧
    ((agc 0 244 248 0).port 0).quietBeats < 249 ∧ 249 ≤ ((agc 0 244 249 29).port 0).quietBeats ∧ ((agc 0 244 249 29).port 0).gain < 30 ∧
    ((agc 0 244 0 6).port 0).gain = 6 ∧ ((agc 0 244 0 0).port 0).gain = 0 ∧
    max measured0.tsc 1000000000000 / 40000 < ((onPort { portAt .running .training 0 with impedanceBb := 24975001 }).port 0).impedanceAt .bb
      + measured0.pval 0 0x2003 5 * 25000 := by decide +kernel

def echoing (x : Echo) : State := { measured0 with echoes := [(1, x)] }
def held0 (st : EchoState) : Echo := { state := st, hold := true, timer := 200000, total := 100000000000, beat := 24999950, modelBeat := 24999750, supp := 300 }
/-- What the lanes measured: the ratio `r` on lane 0; a lane outside the band, which does not count; and a lane without a residual. -/
def lanesOf (r : Nat) : List (Nat × Nat × Nat) := lanePowers [(0, r), (3, 1), (2, 5)] [(0, 1), (3, 1)]
def bandLane : State := (echoing (held0 .tracking)).storeNat (laneKey 0 0 0x2008 1) 2
def bandAt (x : Echo) : State := { bandLane with echoes := [(1, x)] }
def bandOff : State := { bandLane with echoes := [] }
theorem witness_suppression : bandSupp ((lanesOf 1000).filter fun e => (bandLane.bandLanes 0 .bb).contains e.1) = some 300 ∧
    bandSupp ((lanesOf 1).filter fun e => (bandLane.bandLanes 0 .bb).contains e.1) = some 0 ∧
    bandSupp ((lanesOf 20000).filter fun e => (bandLane.bandLanes 0 .bb).contains e.1) = some 430 ∧
    bandSupp ((lanesOf 1000000).filter fun e => (bandLane.bandLanes 0 .bb).contains e.1) = some 600 ∧
    bandSupp ((lanePowers [(0, 5)] []).filter fun e => (bandLane.bandLanes 0 .bb).contains e.1) = none ∧
    bandLane.minSupp 0 .bb = 420 ∧ (300 : Int) < bandLane.minSupp 0 .bb ∧ bandLane.minSupp 0 .bb ≤ 430 ∧ (bandLane.echo 0 .bb).state = .tracking ∧
    ((bandAt { held0 .reacquire with clearAt := some 999999992000 }).echo 0 .bb).clearAt = some 999999992000 ∧
    999999992000 + suppWindowNs .bb = max bandLane.tsc 1000000000000 ∧ ((bandAt (held0 .lost)).echo 0 .bb).clearAt = none ∧
    bandLane.minSupp 0 .bb + 30 ≤ 600 ∧ ((430 : Int) < bandLane.minSupp 0 .bb + 30) ∧ (bandOff.echo 0 .bb).state = .off := by decide +kernel
theorem band_live : bandLane.Live ∧ (bandAt { held0 .reacquire with clearAt := some 999999992000 }).Live ∧ (bandAt (held0 .lost)).Live ∧ bandOff.Live :=
  ⟨live_of (by decide +kernel), live_of (by decide +kernel), live_of (by decide +kernel), live_of (by decide +kernel)⟩

theorem echo_live : (echoing (held0 .training)).Live ∧ (echoing (held0 .reacquire)).Live ∧ (echoing (held0 .resolve)).Live ∧
    (echoing (held0 .lost)).Live ∧ (echoing (held0 .tracking)).Live :=
  ⟨live_of (by decide +kernel), live_of (by decide +kernel), live_of (by decide +kernel), live_of (by decide +kernel), live_of (by decide +kernel)⟩
theorem witness_echo : ((echoing (held0 .training)).echo 0 .bb).state = .training ∧ ((echoing (held0 .training)).echo 0 .bb).beat + 50 =
      max measured0.tsc 1000000000000 / 40000 ∧ holdTimerNs .bb = ((echoing (held0 .reacquire)).echo 0 .bb).timer ∧
    ((echoing (held0 .resolve)).echo 0 .bb).beat + 1 ≤ max measured0.tsc 1000000000000 / 40000 ∧
    (echoing (held0 .reacquire)).pval 0 0x2004 9 * 40000 ≤ ((echoing (held0 .reacquire)).echo 0 .bb).total ∧
    ((echoing (held0 .lost)).echo 0 .bb).modelBeat + 25 ≤ max measured0.tsc 1000000000000 / 40000 ∧
    ((echoing (held0 .tracking)).echo 0 .bb).modelBeat + 250 = max measured0.tsc 1000000000000 / 40000 ∧
    (echoing (held0 .tracking)).minSupp 0 .bb ≤ (echoing (held0 .tracking)).minSupp 0 .bb ∧ (measured0.echo 0 .bb).state = .off ∧
    (max measured0.tsc 1000000000000) % 40000 = 0 ∧ (max measured0.tsc 1000000000001) % 40000 ≠ 0 ∧
    max measured0.tsc 1000000000000 / 40000 < ((echoing { held0 .training with beat := 24999951 }).echo 0 .bb).beat + 50 ∧
    max measured0.tsc 1000000000000 / 40000 < ((echoing { held0 .resolve with beat := 25000000 }).echo 0 .bb).beat + 1 ∧
    max measured0.tsc 1000000000000 / 40000 < ((echoing { held0 .lost with modelBeat := 24999976 }).echo 0 .bb).modelBeat + 25 ∧
    max measured0.tsc 1000000000000 / 40000 < ((echoing { held0 .tracking with modelBeat := 24999751 }).echo 0 .bb).modelBeat + 250 := by
  decide +kernel

/-- Envelope 1 in force on the lane: −50 dBm/Hz from 60 to 500 kHz. -/
def withEnvelope (s : State) : State :=
  (s.storeNat (laneKey 0 0 0x200C 1) 1).store (keyOf 0x2901 3)
    (toBE 4 60000 ++ toBE 2 (unsigned 16 (-500)) ++ toBE 2 0 ++ toBE 4 500000 ++ toBE 2 0 ++ toBE 2 0)

/-- `mesh` with carriers 16-127 on the lane, a group clipped, and a tone map pending on its link. -/
def clipped : State :=
  withEnvelope (({ mesh with
    lanes := [(0, { tx := { clips := [(3, 38)], quiet := [(3, 24999750)] } })]
    routes := { mesh.routes with links := [(5, { state := .mapped, peer := 7, pending := true })] } }.storeNat (laneKey 0 0 0x2008 2) 16).storeNat
    (laneKey 0 0 0x2008 3) 127)
/-- The same with a clip of 18.0 dB and an integration of 8 beats that ends at beat 25,000,000, just before 1000 s. -/
def relaxed : State := { clipped with
  tsc := 999999999999, lanes := [(0, { tx := { clips := [(3, 36)], quiet := [(3, 24999750)], integrated := 24999992 } })] }
theorem clipped_live : clipped.Live ∧ relaxed.Live := ⟨live_of (by decide +kernel), live_of (by decide +kernel)⟩
theorem witness_compliance : clipped.hasPort 0 = true ∧ clipped.laneKind 0 0 ≠ 0 ∧ 3 < clipped.clipGroups 0 0 ∧
    clipped.groupPeaks 0 0 [(42, -489), (43, -485)] = [(3, 1500)] ∧ 40 ≤ (clipped.lane 0 0).tx.clip 3 + excessSteps 1500 ∧
    (relaxed.lane 0 0).tx.clip 3 + excessSteps 1500 < 40 ∧ relaxed.groupPeaks 0 0 [(42, -485)] = [(3, 1500)] ∧
    clipped.groupPeaks 0 0 [(42, -490), (16, -490)] = [(0, 1000), (3, 1000)] ∧
    (clipped.lane 0 0).tx.integrated + (if clipped.laneKind 0 0 = 2 then 1 else 8) ≤ max clipped.tsc 1000000000000 / 40000 ∧
    max relaxed.tsc 999999999999 / 40000 < (relaxed.lane 0 0).tx.integrated + (if relaxed.laneKind 0 0 = 2 then 1 else 8) ∧
    (relaxed.lane 0 0).tx.integrated + (if relaxed.laneKind 0 0 = 2 then 1 else 8) = max relaxed.tsc 1000000000000 / 40000 ∧
    max relaxed.tsc 999999999999 / 40000 < Table.get 0 (relaxed.lane 0 0).tx.quiet 3 + 250 ∧ (relaxed.lane 0 0).tx.clip 4 = 0 ∧
    (clipped.lane 0 0).tx.clip 3 ≠ 0 ∧ (clipped.lane 0 0).tx.mutedGroups.contains 3 = false ∧ Table.wf 0 (clipped.lane 0 0).tx.clips = true ∧
    Table.get 0 (clipped.lane 0 0).tx.quiet 3 + 250 = max clipped.tsc 1000000000000 / 40000 ∧ (clipped.link 5).pending = true ∧
    (clipped.link 5).acked = false ∧ (clipped.link 5).actCycle ≤ clipped.tether.cycle ∧ (clipped.link 5).state ≠ .free := by decide +kernel

/-- `clipped` in the first slot of a cycle, all of type BEACON but CONTENTION from slot 1 on; the slot lasts 40 ms. -/
def paced : State :=
  ({ clipped with
    lanes := []
    tether := { clipped.tether with sample := { slot := 0, next1 := 1000040000000, next2 := 1000080000000, length := 40000000, cycle := 0, valid := true } } }).store
    (keyOf 0x3000 1) (1 :: List.replicate 23 4)
def lined (x : LaneTx) : State := { paced with lanes := [(0, { tx := x })] }
def onLine (start : Nat) : TxFrame := {
  kind := .data, mac := macOf 1 [1, 2], cls := 1, prof := 3, nsym := 20, tms := 0, sk := false, spool := 29, handle := 1, offset := 0,
  tries := 0, route := 56, start := start }
def flying (start : Nat) : State :=
  { lined { onLine := some (onLine start) } with spools := { table := [(29, { state := .ready, flight := [⟨3, item 1 0, none, 56⟩] })] } }
def pacedG : State := paced.storeNat (laneKey 0 0 0x2008 1) 3
theorem paced_live : paced.Live := live_of (by decide +kernel)
theorem flying_live : (flying 900000000000).Live := live_of (by decide +kernel)
theorem witness_transmission : ((lined { restart := some 25000000 }).lane 0 0).tx.restart = some (max paced.tsc 1000000000000 / 40000) ∧
    max paced.tsc 1000000000000 / 40000 < 25000001 ∧ ((flying 900000000000).lane 0 0).tx.onLine = some (onLine 900000000000) ∧
    (onLine (1000000000000 - frameNs 1 20)).start + (flying 0).lineNs 0 0 (onLine (1000000000000 - frameNs 1 20)) = max paced.tsc 1000000000000 ∧
    max paced.tsc 1000000000000 < (onLine 1000000000000).start + (flying 1000000000000).lineNs 0 0 (onLine 1000000000000) ∧
    (onLine 0).kind = .data ∧ (lined { onLine := some { onLine 0 with kind := .broadcast } }).hasPort 0 = true ∧
    ((lined { onLine := some { onLine 0 with kind := .beacon } }).lane 0 0).tx.onLine = some { onLine 0 with kind := .beacon } ∧
    (0 : Nat) + (lined { onLine := some { onLine 0 with kind := .beacon } }).lineNs 0 0 { onLine 0 with kind := .beacon } ≤ max paced.tsc 1000000000000 ∧
    ((lined { restart := some 25000000 }).lane 0 0).rx.state = .off ∧ (lined { restart := some 25000000 }).laneKind 0 0 ≠ 0 ∧
    (lined { restart := some 25000000 }).running 0 = true ∧ (lined { restart := some 25000000 }).laneKind 0 1 = 0 ∧
    ((lined { restart := some 25000000 }).port 0).adding.contains ((lined { restart := some 25000000 }).laneBand 0 0) = false ∧
    ((lined { grant := some (7, 9, 1000000000000) }).lane 0 0).tx.grant = some (7, 9, 1000000000000) ∧
    (lined { grant := some (7, 9, 1000000000000) }).grantHeard 0 0 1000000000000 = false ∧
    max paced.tsc 1000000000000 < 1000000000001 := by decide +kernel
theorem witness_beacon : paced.Live ∧ nsymFor ((paced.upTo 1000022000000).capacities 0 0 (paced.beaconMode 0 0) (paced.maxNsym (paced.beaconProfile 0 0)))
      ((paced.upTo 1000022000000).beaconBody 0 0).length = some 20 ∧ paced.hasPort 0 = true ∧ paced.isNativeData 0 0 = true ∧
    (lined { beaconDue := true }).laneState 0 0 = 2 ∧ paced.laneState 0 1 ≠ 2 ∧ (paced.upTo 1000022000000).slotNow = paced.beaconSlot ∧
    paced.beaconCycle (paced.upTo 1000022000000).cycleNow = true ∧
    (paced.upTo 1000022000000).slotAhead 0 + paced.guardNs ≤ max paced.tsc 1000022000000 ∧
    paced.allLanes.filter (fun pl => (paced.upTo 1000022000000).beaconOwed pl.1 pl.2) = [(0, 0)] ∧
    (flying 1000000000000).laneState 0 0 ≠ 2 ∧ (flying 1000000000000).laneState 0 0 = 3 ∧ (paced.upTo 1000040000001).slotNow ≠ paced.beaconSlot ∧
    (flying 1000000000000).allLanes.filter (fun pl => ((flying 1000000000000).upTo 1000022000000).beaconOwed pl.1 pl.2) = [(0, 0)] ∧
    (pacedG.upTo 1000022000000).slotType (pacedG.upTo 1000022000000).slotNow ≠ 4 ∧ pacedG.laneKind 0 0 = 3 :=
  ⟨paced_live, by decide +kernel⟩

def sending : State :=
  { paced with
    spools := { table := [(29, { state := .ready, queue := [⟨1, 0, 0, none, 0, 0, true⟩] })], packets := [(1, ⟨7, 1, [1, 2, 3, 4], 5, some 3, 0, 0⟩)] } }
theorem witness_data_start : sending.Canonical ∧ (sending.spool 29).queue = [⟨1, 0, 0, none, 0, 0, true⟩] ∧ sending.selected (29 / 4) = some 56 ∧
    sending.packet 1 = some ⟨7, 1, [1, 2, 3, 4], 5, some 3, 0, 0⟩ ∧ (sending.nsymNow 0 0 (29 % 4) (sending.txMode (sending.route 56)) 4).isSome = true ∧
    [(1 : Byte), 2, 3, 4].length ≤ 0 + 4 :=
  ⟨canonical_of (by decide +kernel), by decide +kernel⟩
def contending : State := { sending with
  lanes := [(0, { tx := { lists := [(1, [⟨29, false⟩])] } })], tether := { sending.tether with sample := { sending.tether.sample with slot := 5 } } }
theorem witness_schedule : contending.Live ∧ contending.laneState 0 0 = 2 ∧ contending.isNativeData 0 0 = true ∧ (contending.lane 0 0).tx.beaconDue = false ∧
    (contending.upTo 1000022000000).startAck 0 0 = none ∧
    (((contending.upTo 1000022000000).dropTooLong 0 0).schedule 0 0).1 = .spool 29 4 ∧
    (((paced.upTo 1000022000000).dropTooLong 0 0).schedule 0 0).1 = .nothing ∧ paced.laneState 0 0 = 2 ∧
    (paced.upTo 1000022000000).startAck 0 0 = none := ⟨live_of (by decide +kernel), by decide +kernel⟩

/-! ## Witnesses: reception -/

def hearing (x : LaneRx) : State := { paced with lanes := [(0, { rx := x })] }
def goodHead : Header := ⟨true, 1, 3, 1, 20, 7, 0, false⟩
def cur (h : Header) (ended : Option Nat) : RxCur :=
  { num := 5, l := 60, bin := 0, afc := 0, preambleEnd := 999950000000, detected := 999951000000, headerOk := h.crcOk, head := h, partner := 0,
    partnerL := 0, outcome := 0, ended := ended, displaced := false, pending := false, erased := 0, marked := 0, blanked := 0, steps := 0
    clip := false, echo := false, susp := false }
def inHeader : LaneRx := { state := .header, cur := some (cur { goodHead with crcOk := false } none), number := 5, rearmAt := 1000000000000 - 288000 }
def pair : ReplayPair := ⟨cur goodHead none, cur goodHead (some 1000000000000), 1, false⟩
theorem hearing_live : (hearing { state := .search, number := 65535 }).Live ∧ (hearing inHeader).Live ∧
    (hearing { inHeader with state := .payload, cur := some (cur goodHead none) }).Live :=
  ⟨live_of (by decide +kernel), live_of (by decide +kernel), live_of (by decide +kernel)⟩
def heardAt (q advance : Int) : Detection := { q := q, l := 60, bin := 1, advance := advance, preambleEnd := 999950000000 }
theorem witness_detection : (hearing { state := .search }).laneThere 0 0 = true ∧ signed 8 ((hearing { state := .search }).lval 0 0 0x2010 1) ≤ -6 ∧
    (-7 : Int) < signed 8 ((hearing { state := .search }).lval 0 0 0x2010 1) ∧ ((hearing { state := .search }).lane 0 0).rx.state = .search ∧
    (paced.lane 0 0).rx.state = .off ∧ paced.laneThere 0 0 = true ∧
    [heardAt (-6) 540, heardAt (-7) 540].filter (fun e => decide (signed 8 ((hearing { state := .search }).lval 0 0 0x2010 1) ≤ e.q)) = [heardAt (-6) 540] ∧
    [heardAt (-6) 541].filter (fun e => decide (signed 8 ((hearing { state := .search }).lval 0 0 0x2010 1) ≤ e.q)) = [heardAt (-6) 541] ∧
    afcOf (heardAt (-6) 540) = 440 ∧ afcOf (heardAt (-6) (-340)) = -440 ∧ 440 < afcOf (heardAt (-6) 541) ∧ afcOf (heardAt (-6) (-341)) < -440 := by
  decide +kernel
theorem witness_headers : ((hearing inHeader).lane 0 0).rx.state = .header ∧ ((hearing inHeader).lane 0 0).rx.slot = none ∧
    ((hearing inHeader).lane 0 0).rx.cur = some (cur { goodHead with crcOk := false } none) ∧
    goodHead = (hearing inHeader).headerOf 0 0 (cur { goodHead with crcOk := false } none) goodHead ∧
    ((hearing inHeader).upTo 1000000000000).headerServed 0 0 goodHead = true ∧
    ((hearing inHeader).upTo 1000000000000).headerServed 0 0 { goodHead with nsym := 512 } = false ∧
    ((hearing { inHeader with state := .rearm }).lane 0 0).rx.rearmAt + (hearing inHeader).rxSymbolNs 0 0 = max paced.tsc 1000000000000 ∧
    max paced.tsc 1000000000000 < ((hearing { inHeader with state := .rearm, rearmAt := 1000000000000 }).lane 0 0).rx.rearmAt +
      (hearing inHeader).rxSymbolNs 0 0 := by decide +kernel
theorem witness_last_symbol : (hearing { inHeader with state := .payload, cur := some (cur goodHead none) }).hasMaps 0 0 goodHead = true ∧
    (hearing { inHeader with state := .payload, cur := some (cur { goodHead with prof := 0 } none) }).hasMaps 0 0 { goodHead with prof := 0 } = false := by
  decide +kernel
theorem witness_replay : ((hearing { decoding := [cur goodHead none] }).lane 0 0).rx.decoding = [cur goodHead none] ∧ (cur goodHead none).steps = 0 ∧
    ((hearing { pairs := [pair] }).lane 0 0).rx.pairs = [pair] ∧ pair.phase = 1 ∧ pair.reverse = false ∧
    paced.weakEnd 0 0 pair = max paced.tsc 1000000000000 ∧ pair.weak.headerOk = true ∧ farOff 440 = false ∧
    (hearing { decoding := [cur goodHead none] }).decodeOf 0 0 (cur goodHead none) ⟨3, 0, true, none, []⟩ = ⟨3, 0, true, none, []⟩ ∧ ((hearing { pairs := [pair] }).upTo 1000000000000).replayFresh 0 0 pair.weak = true ∧
    ((hearing { pairs := [pair] }).upTo 1000100000000).replayFresh 0 0 pair.weak = false ∧
    max paced.tsc 999999999999 < 1000000000001 ∧ paced.weakEnd 0 0 { pair with weak := cur goodHead (some 1000000000001) } = 1000000000001 := by decide +kernel

def tracked (step : Int) : RxCur :=
  { cur goodHead none with track := { use := { step := step }, estimates := [[(10, 0), (10, 0)]] } }
def stepped : State := (hearing { inHeader with state := .payload, cur := some (cur goodHead none) }).storeNat (laneKey 0 0 0x2010 0x10) 0
/-- The channel turns by half a turn: D is 6 dB. -/
def aStep : RxSymbol := { index := 3, pilots := [(-10, 0), (10, 0)] }
theorem stepped_live : stepped.Live := live_of (by decide +kernel)
theorem witness_symbols : (stepped.lane 0 0).rx.state = .payload ∧ (stepped.lane 0 0).rx.cur = some (cur goodHead none) ∧
    stepped.laneThere 0 0 = true ∧ aStep.replay = false ∧ (cur goodHead none).track.use.threshold = 0 ∧
    stepReaches (cur goodHead none).track.estimates aStep.pilots 0 = false ∧ aStep.sending = [] ∧
    (stepped.echo 0 (stepped.laneBand 0 0)).heldDuring (999950000000 + aStep.index * stepped.rxSymbolNs 0 0)
      (999950000000 + aStep.index * stepped.rxSymbolNs 0 0 + stepped.rxSymbolNs 0 0) aStep.sending = false ∧
    (stepped.port 0).limitedIn 0 1000000000000 = false ∧ stepped.laneKind 0 0 ≠ 3 := by decide +kernel
theorem witness_step : stepReaches (tracked (-20)).track.estimates aStep.pilots (500 * (tracked (-20)).track.use.step) = true ∧
    aStep.pilots ≠ [] ∧ (tracked (-20)).track.near = false ∧
    stepReaches (tracked 20).track.estimates aStep.pilots (500 * (tracked 20).track.use.step) = false := by decide +kernel
def window (first : Int) : FloorWindow := ⟨999999000000, [(1, 0)], (first, 0) :: List.replicate 511 (0, 0), [], false, [(5, 0), (9, 9)]⟩
def searching (cycles : Nat) : State := hearing { state := .search, cycles := cycles, floor := [(1, (4, 2))] }
theorem searching_live : (searching 64).Live := live_of (by decide +kernel)
theorem witness_floor : (searching 64).laneThere 0 0 = true ∧ ((searching 64).upTo 1000000000000).floorOpen 0 0 (window 0) = true ∧
    (slidingBlank ((searching 64).rxSettings 0 0) 1 [(1, 0)] (window 1000).body []).1.any id = true ∧
    ((searching 64).upTo 1000000000000).floorOpen 0 0 (window 1000) = true ∧ ((searching 64).lane 0 0).rx.state ≠ .off ∧
    (slidingBlank ((searching 64).rxSettings 0 0) 1 [(1, 0)] (window 1).body []).1.any id = false ∧ (searching 64).laneKind 0 0 = 1 ∧
    ((searching 64).upTo 1000000000000).floorOpen 0 0 { window 0 with start := 1000000000000 } = false ∧ 64 ≤ ((searching 64).lane 0 0).rx.cycles ∧ ((searching 63).lane 0 0).rx.cycles < 64 := by decide +kernel

/-! ## Witnesses: requests -/

def reqOf (n role type : Nat) (body : Bytes) : Request := ⟨n, role, 0, type, 1, false, false, false, 0, body⟩
/-- `run` with one request accepted in mailbox 0. -/
def asking (r : Request) : State := { run with pages := [(0, { busy := true, irqEn := true, req := some r })] }
theorem mailbox_of {s : State} {k : Service} {n : Nat} {r : Request}
    (h : (decide (s.nextSource = some n) && decide (s.waitingAt n = some r) && s.mayServe && decide (r.service = k) && decide (r.who = n)
      && decide (n < 64) && !(s.page n).discard) = true) : s.Mailbox k n r := by
  simp only [Bool.and_eq_true, decide_eq_true_eq, Bool.not_eq_true'] at h
  obtain ⟨⟨⟨⟨⟨⟨a, b⟩, c⟩, d⟩, e⟩, f⟩, g⟩ := h
  exact ⟨a, b, c, d, e, f, g⟩
def readOf (idx sub : Nat) : Bytes := toBE 2 idx ++ toBE 1 sub ++ [0]
def writeOf (idx sub ty : Nat) (v : Bytes) : Bytes := toBE 2 idx ++ toBE 1 sub ++ toBE 1 ty ++ toBE 2 v.length ++ [0, 0] ++ v

/-- A message of the given type, flags, and body. -/
def asked (type : Byte) (body : Bytes) : Bytes := [16, type, 0, 1] ++ toBE 2 body.length ++ List.replicate 10 0 ++ body
def bufferOf (m : Bytes) : Table Byte := Table.putBytes [] 0 m
def going (m : Bytes) : State := { run with pages := [(0, { reqBuf := bufferOf m, reqLen := m.length })] }
def peered : State := (run.setVal 0x1601 1 0x020000000001).setVal 0x1602 1 2
theorem going_live : (going (asked 1 (readOf 0x1000 1))).Live := live_of (by decide +kernel)
theorem peered_live : (peered.setVal 0x1603 3 0).Live ∧ peered.Live := ⟨live_of (by decide +kernel), live_of (by decide +kernel)⟩
theorem witness_mailbox_go : (going (asked 1 (readOf 0x1000 1))).open 0 = true ∧ bit (0x80000001 : Word32).toNat 31 = true ∧
    ((going (asked 1 (readOf 0x1000 1))).page 0).busy = false ∧ 16 ≤ ((going (asked 1 (readOf 0x1000 1))).page 0).reqLen ∧
    ((going (asked 1 (readOf 0x1000 1))).page 0).reqLen ≤ 1536 ∧
    State.wellFormed (requestOf 0 ((going (asked 1 (readOf 0x1000 1))).roleOf 0) 0 (Table.getBytes ((going (asked 1 (readOf 0x1000 1))).page 0).reqBuf 0 20))
      (Table.getBytes ((going (asked 1 (readOf 0x1000 1))).page 0).reqBuf 0 20) = true ∧
    ((going (asked 9 (readOf 0x1000 1))).page 0).discard = false ∧
    State.wellFormed (requestOf 0 ((going (asked 9 (readOf 0x1000 1))).roleOf 0) 0 (Table.getBytes ((going (asked 9 (readOf 0x1000 1))).page 0).reqBuf 0 20))
      (Table.getBytes ((going (asked 9 (readOf 0x1000 1))).page 0).reqBuf 0 20) = false ∧
    ((asking (reqOf 0 3 1 [])).page 0).busy = true ∧ (asking (reqOf 0 3 1 [])).open 0 = true ∧ bit (0x7FFFFFFF : Word32).toNat 31 = false ∧
    run.open 200 = false := by decide +kernel
theorem witness_ring_request : (peered.setVal 0x1603 3 0).ringUp = true ∧ (peered.setVal 0x1603 3 0).managerUp = true ∧
    beAt (asked 1 (readOf 0x1000 1)) 1 1 ≠ 6 ∧ (peered.setVal 0x1603 3 0).peerSlot 0x020000000001 = some 0 ∧
    (peered.setVal 0x1603 3 0).val 0x1602 1 ≠ 0 ∧ (peered.setVal 0x1603 3 0).tagPasses 0 (asked 1 (readOf 0x1000 1)) = true ∧
    (peered.setVal 0x1603 3 0).mgr.ringQueue.length < 32 ∧
    State.wellFormed (requestOf 0x100 ((peered.setVal 0x1603 3 0).val 0x1602 1) 0x020000000001 (asked 1 (readOf 0x1000 1)))
      (asked 1 (readOf 0x1000 1)) = true ∧
    peered.tagPasses 0 (asked 1 (readOf 0x1000 1)) = false ∧ peered.peerSlot 0x020000000002 = none := by decide +kernel

def reading (idx sub : Nat) : Request := reqOf 0 3 1 (readOf idx sub)
theorem asking_live : (asking (reading 0x1400 7)).Live := live_of (by decide +kernel)
theorem witness_read_refused : (asking (reading 0x1400 1)).Mailbox .read 0 (reading 0x1400 1) ∧
    (asking (reading 0x1400 1)).readCode (reading 0x1400 1) 0x1400 1 ((asking (reading 0x1400 1)).entry 0x1400 1) ≠ 0 ∧
    beAt (reading 0x1400 1).body 0 2 = 0x1400 ∧ beAt (reading 0x1400 1).body 2 1 = 1 :=
  ⟨mailbox_of (by decide +kernel), by decide +kernel⟩
theorem witness_read : (asking (reading 0x1400 7)).Mailbox .read 0 (reading 0x1400 7) ∧
    (((asking (reading 0x1400 7)).upTo 1000000000000).takeNext 0).computed 0x1400 7 = some [0, 0, 0, 0] ∧
    (∃ d, (asking (reading 0x1400 7)).entry 0x1400 7 = some d ∧ (asking (reading 0x1400 7)).readCode (reading 0x1400 7) 0x1400 7 (some d) = 0) ∧
    (asking (reading 0x6020 1)).Mailbox .read 0 (reading 0x6020 1) ∧
    (((asking (reading 0x6020 1)).upTo 1000000000000).takeNext 0).computed 0x6020 1 = none ∧ measured 0x6020 1 = true ∧
    (∃ d, (asking (reading 0x6020 1)).entry 0x6020 1 = some d ∧ (asking (reading 0x6020 1)).readCode (reading 0x6020 1) 0x6020 1 (some d) = 0) ∧
    (asking (reading 0x1010 1)).Mailbox .read 0 (reading 0x1010 1) ∧
    (((asking (reading 0x1010 1)).upTo 1000000000000).takeNext 0).computed 0x1010 1 = none ∧ measured 0x1010 1 = false ∧
    (∃ d, (asking (reading 0x1010 1)).entry 0x1010 1 = some d ∧ (asking (reading 0x1010 1)).readCode (reading 0x1010 1) 0x1010 1 (some d) = 0) :=
  ⟨mailbox_of (by decide +kernel), by decide +kernel, ⟨_, rfl, by decide +kernel⟩, mailbox_of (by decide +kernel), by decide +kernel,
    by decide +kernel, ⟨_, rfl, by decide +kernel⟩, mailbox_of (by decide +kernel), by decide +kernel, by decide +kernel,
    ⟨_, rfl, by decide +kernel⟩⟩
def stagedRead : Request := { reading 0x2008 2 with staged := true }
def stagedView : State := { asking stagedRead with mgr := { run.mgr with staging := [(keyOf 0x2008 2, [0, 16])], stagingState := 1, owner := 0 } }
theorem witness_read_kinds : keyOf 0x6020 1 ≠ keyOf 0x1200 0x0C ∧ keyOf 0x1010 1 ≠ keyOf 0x1200 0x0C ∧
    stagedView.Mailbox .read 0 stagedRead ∧ ((stagedView.upTo 1000000000000).takeNext 0).computed 0x2008 2 = none ∧ measured 0x2008 2 = false ∧
    (∃ d, stagedView.entry 0x2008 2 = some d ∧ d.access = .rws ∧ stagedView.readCode stagedRead 0x2008 2 (some d) = 0 ∧ shows d.access = false) ∧
    Table.find stagedView.mgr.staging (keyOf 0x2008 2) = some [0, 16] :=
  ⟨by decide, by decide, mailbox_of (by decide +kernel), by decide +kernel, by decide +kernel, ⟨_, rfl, rfl, by decide +kernel, rfl⟩, by decide +kernel⟩
def viewing : Request := reqOf 0 3 4 [0, 0, 0, 2, 0, 0, 0, 63]
def queried (role : Nat) : Request := reqOf 0 role 7 []
theorem witness_views_refused : (asking (reqOf 0 3 4 [0, 0, 0, 65, 0, 0, 0, 0])).Mailbox .windowRead 0 (reqOf 0 3 4 [0, 0, 0, 65, 0, 0, 0, 0]) ∧
    (asking (reqOf 0 3 4 [0, 0, 0, 65, 0, 0, 0, 0])).windowCode (reqOf 0 3 4 [0, 0, 0, 65, 0, 0, 0, 0]) false ≠ 0 ∧
    (asking { queried 1 with epochCheck := true, expEpoch := 99 }).Mailbox .digestQuery 0 { queried 1 with epochCheck := true, expEpoch := 99 } ∧
    (asking { queried 1 with epochCheck := true, expEpoch := 99 }).epochDiffers { queried 1 with epochCheck := true, expEpoch := 99 } = true :=
  ⟨mailbox_of (by decide +kernel), by decide +kernel, mailbox_of (by decide +kernel), by decide +kernel⟩
theorem witness_views : (asking viewing).Mailbox .windowRead 0 viewing ∧ (asking viewing).windowCode viewing false = 0 ∧
    (∀ i < beAt viewing.body 2 2, (asking viewing).positionCode (beAt viewing.body 0 1) (beAt viewing.body 4 4 + i) = 0) ∧
    (asking (queried 1)).Mailbox .digestQuery 0 (queried 1) ∧ (queried 1).role ≠ 0 ∧ (asking (queried 1)).epochDiffers (queried 1) = false ∧
    (asking (queried 0)).Mailbox .digestQuery 0 (queried 0) ∧ (queried 0).role = 0 :=
  ⟨mailbox_of (by decide +kernel), by decide +kernel, by decide +kernel, mailbox_of (by decide +kernel), by decide, by decide +kernel,
    mailbox_of (by decide +kernel), rfl⟩

def writing (idx sub ty : Nat) (v : Bytes) : Request := reqOf 0 3 2 (writeOf idx sub ty v)
def bundling (l : List Bytes) : Request := reqOf 0 3 3 (toBE 1 l.length ++ [0, 0, 0] ++ l.flatMap (padTo 4))
def tests (s : State) (r : Request) : Option (Nat × Nat) := ((s.upTo 1000000000000).takeNext 0).writeTests r r.recs
/-- `asking` with port 0 not yet started, so that its quiesced entries may be written. -/
theorem witness_writes : (asking (writing 0x1010 1 3 [0, 9])).Mailbox .write 0 (writing 0x1010 1 3 [0, 9]) ∧
    tests (asking (writing 0x1010 1 3 [0, 9])) (writing 0x1010 1 3 [0, 9]) = none ∧
    (asking (writing 0x1010 1 3 [0, 9])).right (writeRecOf (writing 0x1010 1 3 [0, 9]).body) = .rw ∧
    (asking (writing 0x2008 9 1 [1])).Mailbox .write 0 (writing 0x2008 9 1 [1]) ∧ tests (asking (writing 0x2008 9 1 [1])) (writing 0x2008 9 1 [1]) = none ∧
    (asking (writing 0x2008 9 1 [1])).right (writeRecOf (writing 0x2008 9 1 [1]).body) = .rwq ∧
    (asking (writing 0x2008 1 2 [1])).Mailbox .write 0 (writing 0x2008 1 2 [1]) ∧ tests (asking (writing 0x2008 1 2 [1])) (writing 0x2008 1 2 [1]) = none ∧
    (asking (writing 0x2008 1 2 [1])).right (writeRecOf (writing 0x2008 1 2 [1]).body) = .rws ∧
    (asking (writing 0x1010 1 4 [0, 9])).Mailbox .write 0 (writing 0x1010 1 4 [0, 9]) ∧
    tests (asking (writing 0x1010 1 4 [0, 9])) (writing 0x1010 1 4 [0, 9]) = some (0, 2) :=
  ⟨mailbox_of (by decide +kernel), by decide +kernel, by decide +kernel, mailbox_of (by decide +kernel), by decide +kernel, by decide +kernel,
    mailbox_of (by decide +kernel), by decide +kernel, by decide +kernel, mailbox_of (by decide +kernel), by decide +kernel⟩
def two : Request := bundling [writeOf 0x1010 1 3 [0, 9], writeOf 0x2008 9 1 [1]]
def staged2 : Request := bundling [writeOf 0x2008 1 2 [1], writeOf 0x2008 2 3 [0, 16]]
def mixed : Request := bundling [writeOf 0x1010 1 3 [0, 9], writeOf 0x2008 1 2 [1]]
def opening (data : Bytes) : Request := reqOf 0 3 5 ([1, 0, 0, 1] ++ toBE 4 28 ++ data)
theorem witness_bundles : (asking two).Mailbox .bundle 0 two ∧ tests (asking two) two = none ∧
    (∀ x ∈ two.recs, (asking two).right x = .rw ∨ (asking two).right x = .rwq) ∧ two.recs.length = 2 ∧
    (asking staged2).Mailbox .bundle 0 staged2 ∧ tests (asking staged2) staged2 = none ∧ (∀ x ∈ staged2.recs, (asking staged2).right x = .rws) ∧
    staged2.recs ≠ [] ∧ (asking mixed).Mailbox .bundle 0 mixed ∧ tests (asking mixed) mixed = some (1, 0x11) :=
  ⟨mailbox_of (by decide +kernel), by decide +kernel, by decide +kernel, by decide +kernel, mailbox_of (by decide +kernel), by decide +kernel,
    by decide +kernel, by decide +kernel, mailbox_of (by decide +kernel), by decide +kernel⟩
theorem witness_window_writes : (asking (opening (toBE 16 3))).Mailbox .windowWrite 0 (opening (toBE 16 3)) ∧
    (asking (opening (toBE 16 3))).windowWriteCode (opening (toBE 16 3)) = 0 ∧
    (asking (opening (toBE 16 1))).Mailbox .windowWrite 0 (opening (toBE 16 1)) ∧
    (asking (opening (toBE 16 1))).windowWriteCode (opening (toBE 16 1)) ≠ 0 :=
  ⟨mailbox_of (by decide +kernel), by decide +kernel, mailbox_of (by decide +kernel), by decide +kernel⟩

/-- A module in which every command entry of the manual may be written: the ring waits steadily, a unit serves a worn primary. -/
def ready0 (r : Request) : State :=
  { asking r with
    ring := { run.ring with state := .waitSteady, steady := true }
    sup := { run.sup with units := [(3, { state := 3, primary := srcOf 2 1 3 })] }
    rst := { run.rst with bootBank := 1, bankA := { fwPresent := true, fwValid := true, fwRelease := 0x03020000 } } }
def insertNow : Request := writing 0x3800 7 5 (toBE 8 0)
def clampOff : Request := writing 0x5001 2 4 (toBE 4 1)
def saveA : Request := writing 0x1100 0x50 2 [1]
def blockB : Request := writing 0x1100 0x53 11 [2, 1, 0, 0, 0, 0, 0, 0, 9, 9]
def eraseB : Request := writing 0x1100 0x54 3 [2, 1]
def verifyB : Request := writing 0x1100 0x54 3 [2, 2]
def eraseCfg : Request := writing 0x1100 0x54 3 [1, 3]
def swapIn : Request := writing 0x6062 1 4 (toBE 4 (2 ^ 24 + srcOf 2 4 5))
def swapBack : Request := writing 0x6062 1 4 (toBE 4 (2 ^ 25 + srcOf 2 1 3))
def tamperOff : Request := writing 0x6081 2 2 [255]
def setTimeTo : Request := writing 0x1200 7 13 (toBE 8 77)
def fullNow : Request := writing 0x1100 0x10 1 [1]
def warmNow : Request := writing 0x1100 0x11 1 [1]
theorem ready_live : (ready0 insertNow).Live := live_of (by decide +kernel)
def servesIt (k : Service) (r : Request) : Bool :=
  let s := ready0 r
  decide (s.nextSource = some 0) && decide (s.waitingAt 0 = some r) && s.mayServe && decide (r.service = k) && decide (r.who = 0)
    && decide (0 < 64) && !(s.page 0).discard
theorem witness_command_entries : servesIt .insertAt insertNow = true ∧ tests (ready0 insertNow) insertNow = none ∧
    servesIt .clampClear clampOff = true ∧ tests (ready0 clampOff) clampOff = none ∧ servesIt .save saveA = true ∧ tests (ready0 saveA) saveA = none ∧
    servesIt .imageBlock blockB = true ∧ tests (ready0 blockB) blockB = none ∧ servesIt .eraseBank eraseB = true ∧ tests (ready0 eraseB) eraseB = none ∧
    servesIt .verify verifyB = true ∧ tests (ready0 verifyB) verifyB = none ∧ servesIt .eraseConfig eraseCfg = true ∧ tests (ready0 eraseCfg) eraseCfg = none ∧
    servesIt .substitute swapIn = true ∧ tests (ready0 swapIn) swapIn = none ∧ servesIt .returnUnit swapBack = true ∧ tests (ready0 swapBack) swapBack = none ∧
    servesIt .tamperClear tamperOff = true ∧ tests (ready0 tamperOff) tamperOff = none ∧ servesIt .setTime setTimeTo = true ∧
    tests (ready0 setTimeTo) setTimeTo = none ∧ servesIt .resetFull fullNow = true ∧ tests (ready0 fullNow) fullNow = none ∧
    servesIt .resetWarm warmNow = true ∧ tests (ready0 warmNow) warmNow = none ∧ (ready0 warmNow).rst.requested = none := by decide +kernel
theorem witness_actions : State.reset.dictOk = true ∧ ofBE (toBE 1 255) < 256 ∧ ofBE ([1, 1] : Bytes) = 1 * 256 + 1 ∧ ofBE ([2, 3] : Bytes) = 2 * 256 + 3 ∧
    (ready0 swapIn).unitServing (srcOf 2 4 5) = none ∧ ((ready0 swapIn).idleUnit (srcOf 2 4 5)).isSome = true ∧
    ((ready0 swapIn).sup.requests.any fun q => q.primary == srcOf 2 4 5 && q.reason == 2) = false ∧ srcOf 2 4 5 < 0x10000 ∧
    (ready0 swapBack).unitServing (srcOf 2 1 3) = some 3 ∧ ((ready0 swapBack).unit 3).state = 3 ∧
    ((ready0 swapBack).sup.requests.any fun q => q.unit == 3) = false ∧
    ofBE ([2, 2] : Bytes) = 2 * 256 + 2 ∧ beAt ([2, 1, 0, 0, 0, 0, 0, 0, 9] : Bytes) 0 1 = 2 ∧ ([2, 1, 0, 0, 0, 0, 0, 0, 9] : Bytes).drop 8 ≠ [] := by
  decide +kernel

/-- Station time may be set while no source disciplines it; in PTP the same write is refused. -/
theorem witness_set_time : (ready0 setTimeTo).Mailbox .setTime 0 setTimeTo ∧ tests (ready0 setTimeTo) setTimeTo = none ∧
    ({ ready0 setTimeTo with time := { state := .ptp } } : State).time.state = .ptp ∧
    ({ ready0 setTimeTo with time := { state := .ptp } } : State).Mailbox .setTime 0 setTimeTo ∧
    tests { ready0 setTimeTo with time := { state := .set } } setTimeTo = none ∧
    ({ run with time := { setTo := some 77 } } : State).time.step = none ∧ run.written = [] ∧ run.mgr.commit = none :=
  ⟨mailbox_of (by decide +kernel), by decide +kernel, rfl, mailbox_of (by decide +kernel), by decide +kernel, rfl, rfl, rfl⟩

def committing (r : Request) : State :=
  { asking r with mgr := { run.mgr with staging := [(laneKey 0 0 0x2008 6, [7])], stagingState := 1, owner := 0 } }
def commitAt (b : Nat) : Request := writing 0x1400 1 5 (toBE 8 b)
/-- The staged lag of ZX_B is that of ZX_C, which the cross tests refuse. -/
def clashing : State := { committing (commitAt 0) with mgr := { (committing (commitAt 0)).mgr with staging := [(keyOf 0x1210 4, [16])] } }
def aborting : Request := writing 0x1400 2 1 [1]
theorem committing_live : (committing (commitAt 25000004)).Live := live_of (by decide +kernel)
theorem witness_commits : (committing (commitAt 25000004)).Mailbox .commit 0 (commitAt 25000004) ∧
    (commitAt 25000004).recs = [writeRecOf (commitAt 25000004).body] ∧ tests (committing (commitAt 25000004)) (commitAt 25000004) = none ∧
    clashing.Mailbox .commit 0 (commitAt 0) ∧ tests clashing (commitAt 0) = none ∧
    (committing aborting).Mailbox .abort 0 aborting ∧ tests (committing aborting) aborting = none :=
  ⟨mailbox_of (by decide +kernel), rfl, by decide +kernel, mailbox_of (by decide +kernel), by decide +kernel, mailbox_of (by decide +kernel),
    by decide +kernel⟩
def commitCodeOf (s : State) : Nat :=
  ((s.upTo 1000000000000).takeNext 0).view.commitCode ((((s.upTo 1000000000000).takeNext 0).view.overlay s.written).overlay s.mgr.staging)
theorem witness_commit_passes : commitCodeOf (committing (commitAt 25000004)) = 0 := by decide +kernel
theorem witness_commit_fails : commitCodeOf clashing = 0x10 := by decide +kernel
def distributing (b : Nat) : State :=
  { run with mgr := { (committing aborting).mgr with stagingState := 2, activation := b, commit := some ⟨commitAt b, b, 24999999⟩ }
             pages := [(0, { busy := true })] }
def scheduled (b : Nat) : State := { distributing b with mgr := { (distributing b).mgr with commit := none } }
theorem distributing_live : (distributing 0).Live := live_of (by decide +kernel)
theorem witness_distribution : (distributing 0).mgr.commit = some ⟨commitAt 0, 0, 24999999⟩ ∧ (commitAt 0).who = 0 ∧ (commitAt 0).type = 2 ∧
    ((distributing 0).page 0).discard = false ∧ max run.tsc 1000000000000 / 40000 < 25000001 ∧ 25000000 ≤ max run.tsc 1000000000000 / 40000 ∧
    (scheduled 25000000).managerUp = true ∧ (scheduled 25000000).mgr.stagingState = 2 ∧ (scheduled 25000000).mgr.commit = none ∧
    (scheduled 25000000).mgr.activation = max run.tsc 1000000000000 / 40000 ∧ max run.tsc 1000000000000 % 40000 = 0 ∧
    max run.tsc 1000000000000 / 40000 < (scheduled 25000001).mgr.activation ∧ Table.rising (scheduled 25000000).mgr.staging = true := by decide +kernel

def announcing (n : Nat) : State := { peered with mgr := { peered.mgr with announced := n } }
def keyed : State := { (announcing 0) with cipher := { run.cipher with slots := [(run.val 0x1603 2, { state := .ready, type := 1, key := List.replicate 16 1 })] } }
def report (digest : Byte) : Bytes := asked 6 (List.replicate 23 0 ++ [digest] ++ List.replicate 32 0)
def open1 : State := announcing 0 |>.setVal 0x1603 3 0
/-- One beat after the activation of epoch 5, which followed the report's. -/
def changing : State :=
  { open1 with mgr := { open1.mgr with epoch := 5, prevEpoch := beAt (report 0) 16 4, epochBeat := some 24999999 } }
theorem announcing_live : (announcing 0).Live ∧ keyed.Live ∧ open1.Live :=
  ⟨live_of (by decide +kernel), live_of (by decide +kernel), live_of (by decide +kernel)⟩
theorem witness_digests : (committing aborting).mgr.staging ≠ [] ∧ (announcing 0).ringUp = true ∧ (announcing 0).managerUp = true ∧
    max run.tsc 1000000000000 < (announcing 999999000001).mgr.announced + (announcing 0).val 0x1400 0x0A * 1000000 ∧
    (announcing 0).mgr.announced + (announcing 0).val 0x1400 0x0A * 1000000 ≤ max run.tsc 1000000000000 ∧ keyed.ringKey.isSome = true ∧
    (announcing 0).ringKey = none ∧ (announcing 0).flag 0x1603 3 = true ∧ open1.flag 0x1603 3 = false ∧ beAt (report 0) 1 1 = 6 ∧
    open1.peerSlot 5 = none ∧ open1.peerSlot 0x020000000001 = some 0 ∧ open1.tagPasses 0 (report 0) = true ∧ headerOk (report 0) = true ∧
    beAt (report 0) 4 2 = 56 ∧ beAt (report 0) 16 4 = open1.mgr.epoch ∧ open1.mismatchOf 1 0x020000000001 = none ∧
    digestDiff open1.mgr.digests ((List.range 5).map fun k => beAt (report 0) (32 + 8 * k) 8) = 0 ∧
    digestDiff open1.mgr.digests ((List.range 5).map fun k => beAt (report 3) (32 + 8 * k) 8) ≠ 0 ∧
    Table.find open1.mgr.mismatches 0 = none ∧ (changing.upTo 1000000000000).changeover = true ∧ changing.peerSlot 0x020000000001 = some 0 ∧
    changing.tagPasses 0 (report 0) = true ∧ beAt (report 0) 16 4 ≠ changing.mgr.epoch ∧ beAt (report 0) 16 4 = changing.mgr.prevEpoch ∧
    changing.ringUp = true ∧ changing.managerUp = true := by decide +kernel

def pulsing (n : Nat) : State := { run.setVal 0x3503 1 1 with trip := { run.trip with outputs := [(0, { on := true, since := n })] } }
theorem pulsing_live : (pulsing 5).Live := live_of (by decide +kernel)
theorem witness_trip : (pulsing 5).tripUp = true ∧ (pulsing 5).val 0x3503 1 = 1 ∧ (pulsing 5).outputsSafe = false ∧
    (Table.get {} (pulsing 5).trip.outputs 0).on = true ∧ (pulsing 5).outputWanted 0 = false ∧
    (Table.get {} (pulsing (1000000000000 - run.val 0x3502 1 * 1000000)).trip.outputs 0).since + run.val 0x3502 1 * 1000000 = max run.tsc 1000000000000 ∧
    max run.tsc 1000000000000 < (Table.get {} (pulsing 1000000000000).trip.outputs 0).since + run.val 0x3502 1 * 1000000 ∧
    (Table.get {} run.trip.outputs 0).on = false := by decide +kernel

/-! ## Witnesses: command channel -/

def keyText : Bytes := List.replicate 16 7
def linkText (epoch : Nat) : Bytes := [1, 0, 4, 0, 0, 0, 0, 2, 0, 0, 0, 3] ++ toBE 4 epoch
/-- `mesh` with a command lane of 16 carriers, on which link 0 sends command 0 and receives command 1. -/
def wired (epoch : Nat) : State :=
  ((((((({ mesh with
    time := { state := .ptp }
    cipher := { run.cipher with slots := [(4, { state := .ready, type := 1, key := keyText, shadow := keyText })] } }.storeNat
      (laneKey 0 1 0x2008 1) 1).storeNat (laneKey 0 1 0x2008 4) 1).storeNat (laneKey 0 1 0x2008 2) 16).storeNat (laneKey 0 1 0x2008 3) 31).storeNat
      (keyOf 0x3410 1) 0x8000).storeNat (keyOf 0x3410 2) 0xC000).store (keyOf 0x3440 1) (linkText epoch))
def framed (start : Nat) (x : CommandLink) (c : CommandCell) : State :=
  { wired 0 with cells := [(0, { c with links := [(0, x)], frame := some ⟨0, .heartbeat, 15990, 0, start, 0⟩ })] }
def idle1 (x : CommandLink) : State := { wired 0 with cells := [(0, { links := [(0, x)] })] }
def sent0 : CommandLink := { sendStatus := 1, recvStatus := 2, known := true, everSent := true, lastSent := 15990, startAt := 999000000000 }
theorem wired_live : (wired 0).Live ∧ (framed 5 sent0 {}).Live ∧ (idle1 sent0).Live :=
  ⟨live_of (by decide +kernel), live_of (by decide +kernel), live_of (by decide +kernel)⟩
def ended (s : State) : State := (s.upTo 1000000000000).setCell 0 { s.cell 0 with frame := none }
theorem witness_command_frames : (wired 0).hasPort 0 = true ∧ (wired 0).commandLane 0 = some 1 ∧
    (framed 999998272000 sent0 {}).cell 0 = { (framed 999998272000 sent0 {}).cell 0 with frame := some ⟨0, .heartbeat, 15990, 0, 999998272000, 0⟩ } ∧
    999998272000 + 1728000 = max run.tsc 1000000000000 ∧ (ended (framed 999998272000 { sent0 with startAt := 999999999999 } {})).commandWants 0 = [] ∧
    (ended (framed 999998272000 { sent0 with repeats := 2 } {})).commandIdle 0 = true ∧
    (ended (framed 999998272000 { sent0 with startAt := 999999999999, repeats := 2 } {})).commandWants 0 = [(0, .repeated), (0, .repeated)] ∧
    (ended (framed 999998272000 sent0 {})).nextCnt 0 0 = some 16000 ∧ max run.tsc 1000000000000 < (999998272001 : Nat) + 1728000 := by
  decide +kernel
def settled (x : CommandLink) : State := ((idle1 x).upTo 1000000000000).settleLink 0 false 0
theorem witness_heartbeats : (settled { sent0 with startAt := 999999999999 }).heartbeatDue 0 0 = false ∧ (settled sent0).heartbeatDue 0 0 = true ∧
    (settled sent0).commandIdle 0 = true ∧ (settled sent0).commandWants 0 = [(0, .heartbeat)] ∧ (settled sent0).nextCnt 0 0 = some 16000 ∧
    ((idle1 sent0).upTo 1000000000000).sendStatusOf 0 0 = 1 ∧ (idle1 sent0).commandMask 0 0 1 ≠ 0 ∧ recUsed ((idle1 sent0).linkRec 0 0) = true ∧
    (idle1 sent0).keyGone (recSlot ((idle1 sent0).linkRec 0 0)) = false ∧ (idle1 sent0).timeSet = true ∧
    ((idle1 sent0).upTo 1000000000000).linkSeconds (recEpoch ((idle1 sent0).linkRec 0 0)) = (999 + 1 : Nat) := by decide +kernel

/-- The command lane has received a header; `epoch` is the link's key epoch. -/
def bodied (epoch : Nat) (x : CommandLink) : State :=
  { wired epoch with
    lanes := [(1, { rx := { state := .header, cur := some (cur { goodHead with crcOk := false } none) } })]
    cells := [(0, { links := [(0, x)] })] }
def tagAt (cnt states : Nat) : Nat := commandTag keyText (linkText 1001) false cnt states
def chipsOf (tag : Nat) : List Int := (List.range 56).map fun i => if bit tag (31 - i % 32) then -1 else 1
def found (s : State) (ys : List Int) : List Match :=
  (List.range 8).flatMap fun k => (s.upTo 1000000000000).linkMatches 0 (chipSums ys) (ys.filter fun y => y != 0).length
    (ys.foldl (fun a y => a + y.natAbs * y.natAbs) 0) k
theorem bodied_live : (bodied 1001 sent0).Live := live_of (by decide +kernel)
theorem witness_body : (bodied 1001 sent0).hasPort 0 = true ∧ (bodied 1001 sent0).commandLane 0 = some 1 ∧
    ((bodied 1001 sent0).lane 0 1).rx.state = .header ∧ ((bodied 1001 sent0).lane 0 1).rx.cur = some (cur { goodHead with crcOk := false } none) ∧
    ((bodied 1001 sent0).lane 0 1).rx.slot = none ∧ 4 * dataCarriers 1 ((bodied 1001 sent0).laneM 0 1) = 56 ∧
    2 * ((List.replicate 27 (1 : Int) ++ List.replicate 29 0).filter fun y => y != 0).length < 56 ∧
    56 ≤ 2 * ((List.replicate 28 (1 : Int) ++ List.replicate 28 0).filter fun y => y != 0).length ∧
    found (bodied 5000 sent0) (chipsOf 0) = [] := by decide +kernel
/-- The tag of counter 5 with command 1 on matches that hypothesis alone. -/
theorem witness_accepted : found (bodied 1001 sent0) (chipsOf (tagAt 5 2)) = [⟨0, false, 2, 5, 56⟩] ∧ (5 : Nat) ≤ ({ sent0 with lastAccepted := 5 } : CommandLink).lastAccepted ∧
    sent0.lastAccepted < 5 := by decide +kernel
def watched (at_ : Nat) (old : Option (Nat × Nat × Nat × Nat)) : State :=
  idle1 { sent0 with recvStatus := 1, up := true, superviseAt := at_, accepted := 2, lastAccepted := 7, old := old }
theorem watched_live : (watched 0 (some (3, 0, 1, 25000000))).Live := live_of (by decide +kernel)
theorem witness_supervised : ((watched 0 none).cell 0).link 0 = { sent0 with recvStatus := 1, up := true, superviseAt := 0, accepted := 2, lastAccepted := 7 } ∧
    999000000000 + run.val 0x3400 3 * 1000000 = max run.tsc 1000000000000 ∧ (watched 0 none).val 0x3400 3 = run.val 0x3400 3 ∧
    (((watched 5 (some (3, 0, 1, 25000000))).cell 0).link 0).old = some (3, 0, 1, 25000000) ∧ 25000000 ≤ max run.tsc 1000000000000 / 40000 ∧
    (((watched 5 (some (3, 0, 1, 25000001))).cell 0).link 0).old = some (3, 0, 1, 25000001) ∧ max run.tsc 1000000000000 / 40000 < 25000001 := by
  decide +kernel
/-- With a threshold that every hypothesis reaches, two states match. -/
def loose : State := (bodied 1001 sent0).setVal 0x3400 4 0
theorem witness_ambiguous : bestMatch (found loose (chipsOf (tagAt 5 2))) = some ⟨0, false, 2, 5, 56⟩ ∧
    ((found loose (chipsOf (tagAt 5 2))).any fun x => x.link != 0 || x.states != 2) = true := by decide +kernel

/-! ## Witnesses: cipher engine, key store, check units -/

def ecb (slot : Nat) : CipherDesc := ⟨1, true, true, 1, false, 0, slot, 0xFF, 0, 0, 64, 128, 16, 0, 0, 7, []⟩
def ccmOpen : CipherDesc := { ecb 6 with op := 9, tagLen := 16, ivLen := 12, iv := List.replicate 12 0 }
def jobOf (d : CipherDesc) : CipherJob := {
  page := 0, desc := d, onFail := false, fetched := 5, started := true, key := keyText, generation := 0, invoc := none
  iv := List.replicate 12 0, mode := 0, segments := 1, granted := 1, finished := 0, units := 1, refused := none }
/-- Function 0 owns slot 6, which holds a key of every usage; one granted job is job 3. -/
def ciphering (j : CipherJob) (data : Bytes) : State :=
  { (run.setVal 0x4106 1 1).setVal 0x4106 2 0xFF with
    pages := [(0, { ciphEnable := true, keyData := Table.putBytes [] 0 data, rings := [(4, { enable := true, prod := 2 }), (5, { enable := true })] })]
    cipher := { run.cipher with
                slots := [(6, { state := .ready, type := 1, key := keyText, shadow := keyText, generation := 3 })]
                jobs := [(3, j)], nextJob := 4, testing := [2] } }
def cipher1 : State := ciphering (jobOf (ecb 6)) keyText
/-- The DONEQ of `cipher1` with one entry less than the job in the engine needs. -/
def crowded : State := { cipher1 with
  pages := [(0, { cipher1.page 0 with rings := [(4, { enable := true, prod := 1 }), (5, { enable := true, prod := 14 })] })] }
theorem cipher_live : cipher1.Live ∧ crowded.Live := ⟨live_of (by decide +kernel), live_of (by decide +kernel)⟩
def block16 : Bytes := List.replicate 16 0
/-- A job of a context of its page, and a descriptor of the same context whose slot is not the page's. -/
def inCtx : CipherDesc := { ecb 6 with ctx := 1, last := false }
def ctxed : State := ciphering (jobOf inCtx) keyText
theorem witness_cipher_contexts : ctxed.Live ∧ ctxed.engineTakes 3 0 = true ∧ ctxed.cipherRefusal 0 { ecb 5 with ctx := 1, last := false } false = some acNoAccess ∧
    ctxed.ctxWaits ctxed.cipher.nextJob 0 1 = true ∧ (ctxed.pageJobs 0).length < ((ctxed.page 0).ring 5).free ∧
    cipher1.cipherRefusal 64 (ecb 6) (cipher1.page 64).onFail = none ∧ ctxed.job 3 = some (jobOf inCtx) ∧ inCtx.ctx < 4 ∧
    (cipherResult (jobOf inCtx) [] ((ctxed.page 0).ctx 1).input block16 []).status = 0 ∧ inCtx.last = false ∧
    (cipherResult (jobOf { inCtx with first := false, last := true }) [] ((ctxed.page 0).ctx 1).input block16 []).status = 0 ∧
    ({ jobOf (ecb 6) with page := 64 } : CipherJob).again = false := ⟨live_of (by decide +kernel), by decide +kernel⟩
theorem witness_cipher_fetch : cipher1.engineTakes 3 0 = true ∧ ((ctxed.page 0).ring 4).enable = true ∧
    ((ctxed.pageJobs 0).filter fun j => !j.started).length < min 8 ((ctxed.page 0).ring 4).used ∧ cipher1.open 0 = true ∧ (cipher1.page 0).ciphEnable = true ∧
    ((cipher1.page 0).ring 4).enable = true ∧
    ((cipher1.pageJobs 0).filter fun j => !j.started).length < min 8 ((cipher1.page 0).ring 4).used ∧
    (cipher1.pageJobs 0).length < ((cipher1.page 0).ring 5).free ∧ cipher1.cipherRefusal 0 (ecb 6) (cipher1.page 0).onFail = none ∧
    cipher1.cipherRefusal 0 (ecb 5) (cipher1.page 0).onFail = some acNoAccess ∧ cipher1.ctxWaits cipher1.cipher.nextJob 0 (ecb 5).ctx = false ∧
    cipher1.cipherRefusal 0 { ecb 6 with reserved := 1 } (cipher1.page 0).onFail = some acRange ∧
    ((crowded.page 0).ring 5).free ≤ (crowded.pageJobs 0).length ∧
    ((crowded.pageJobs 0).filter fun j => !j.started).length < min 8 ((crowded.page 0).ring 4).used := by decide +kernel
theorem witness_segments : cipher1.job 3 = some (jobOf (ecb 6)) ∧ (jobOf (ecb 6)).finished < (jobOf (ecb 6)).granted ∧ (jobOf (ecb 6)).segments ≤ (jobOf (ecb 6)).finished + 1 ∧
    ({ jobOf (ecb 6) with segments := 2 } : CipherJob).finished + 1 < ({ jobOf (ecb 6) with segments := 2 } : CipherJob).segments ∧
    (cipherResult (jobOf (ecb 6)) [] [] block16 []).status = 0 ∧ (cipherResult (jobOf ccmOpen) [] [] block16 block16).status = 0x0200 ∧
    0 < outArea ccmOpen ∧ (cipher1.cipher.mismatches.filter fun a => decide (max cipher1.tsc 1000000000000 ≤ a + 1000000000)).length < 2 ∧
    cipher1.job 4 = none ∧ 2 ∈ cipher1.cipher.testing ∧ cipher1.isWithdrawn 3 0 2 = false ∧ (2 : Nat) < 16 := by decide +kernel

def loadWord (slot : Nat) : Word32 := BitVec.ofNat 32 (2 ^ 31 + 1 * 2 ^ 28 + 1 * 2 ^ 26 + slot * 2 ^ 16)
def unwrapWord : Word32 := BitVec.ofNat 32 (2 ^ 31 + 2 * 2 ^ 28 + 6 * 2 ^ 16 + 6 * 2 ^ 8 + 24)
def eraseWord (slot : Nat) : Word32 := BitVec.ofNat 32 (2 ^ 31 + 3 * 2 ^ 28 + slot * 2 ^ 16)
def wrapped : State := ciphering (jobOf (ecb 6)) (Aes.kwWrap keyText (List.replicate 16 9))
def erasing0 : State := { cipher1 with cipher := { cipher1.cipher with erasing := some 0 } }
def keyBusy : State := { cipher1 with pages := [(0, { cipher1.page 0 with keyBusy := true })] }
theorem witness_key_commands : cipher1.open 0 = true ∧ (cipher1.page 0).keyBusy = false ∧ cipher1.cipher.waiting = [] ∧ cipher1.cipher.erasing = none ∧
    cipher1.held 3 1 = false ∧ bit (loadWord 6).toNat 31 = true ∧ bits (loadWord 6).toNat 30 28 = 1 ∧ bits (loadWord 6).toNat 27 26 = 1 ∧
    bits (loadWord 6).toNat 23 16 = 6 ∧ cipher1.keyTarget 0 6 = none ∧ cipher1.keyFits 6 16 = true ∧ bits unwrapWord.toNat 30 28 = 2 ∧
    bits unwrapWord.toNat 25 24 < 2 ∧ bits unwrapWord.toNat 23 16 = 6 ∧ bits (eraseWord 6).toNat 30 28 = 3 ∧ cipher1.keyTarget 0 5 = some acNoAccess ∧
    bits (eraseWord 5).toNat 23 16 = 5 ∧ (keyBusy.page 0).keyBusy = true ∧ erasing0.cipher.erasing = some 0 ∧ erasing0.cipher.waiting = [] := by decide +kernel
theorem witness_unwrap : wrapped.unwrapKey 6 6 0 24 (Table.getBytes (wrapped.page 0).keyData 0 48) = .ok (List.replicate 16 9) ∧
    cipher1.unwrapKey 6 6 0 24 (Table.getBytes (cipher1.page 0).keyData 0 48) = .error ckAuthFail := by decide +kernel

def loadOf (ty slot : Nat) : Word32 := BitVec.ofNat 32 (2 ^ 31 + 2 ^ 28 + ty * 2 ^ 26 + slot * 2 ^ 16)
def keyHeld : State := { cipher1 with hier := { cipher1.hier with blocks := Table.put {} cipher1.hier.blocks (blockKey 3 1) { state := .held } } }
/-- Slot 6 holds the key of the ring's tags. -/
def cmac6 : State := cipher1.setVal 0x1603 2 6
theorem witness_key_refusals : bits (loadOf 1 5).toNat 30 28 = 1 ∧ bits (loadOf 1 5).toNat 27 26 ≠ 0 ∧ cipher1.keyTarget 0 (bits (loadOf 1 5).toNat 23 16) = some acNoAccess ∧
    cmac6.keyTarget 0 (bits (loadOf 3 6).toNat 23 16) = none ∧ cmac6.keyFits (bits (loadOf 3 6).toNat 23 16) (8 * (bits (loadOf 3 6).toNat 27 26 + 1)) = false ∧
    bits (loadOf 0 6).toNat 27 26 = 0 ∧ bits (loadOf 0 6).toNat 30 28 ≠ 2 ∧ bits (loadOf 0 6).toNat 30 28 ≠ 3 ∧
    bits (BitVec.ofNat 32 (2 ^ 31 + 2 * 2 ^ 28 + 2 * 2 ^ 24)).toNat 25 24 = 2 ∧ keyHeld.held 3 1 = true ∧ keyHeld.open 0 = true ∧
    (keyHeld.page 0).keyBusy = false ∧ keyHeld.cipher.waiting = [] ∧ keyHeld.cipher.erasing = none ∧ cipher1.cipher.erasing ≠ some 0 :=
  by decide +kernel
theorem key_held_live : keyHeld.Live ∧ cmac6.Live := ⟨live_of (by decide +kernel), live_of (by decide +kernel)⟩

def alarmed : State := cipher1.setVal 0x1010 5 0
def blocked : State := { cipher1 with cipher := { cipher1.cipher with blocked255 := true } }
theorem alarmed_live : alarmed.Live ∧ blocked.Live := ⟨live_of (by decide +kernel), live_of (by decide +kernel)⟩
theorem witness_key_errors : alarmed.cipher.blocked255 = false ∧ blocked.cipher.blocked255 = true ∧ alarmed.val 0x1010 5 = 0 ∧ alarmed.open 0 = true ∧
    bit (5 : Word32).toNat 2 = true ∧ bit (5 : Word32).toNat 3 = false := by decide +kernel

def crc (ctx op : Nat) (last : Bool) : CheckDesc := ⟨op, ctx < 4, last, 1, 0, 1, ctx, 3, 0, 0, 7⟩
def part (d : CheckDesc) : CheckPart := {
  page := 0, desc := d, fetched := 5, dispatched := true, value := 0xFFFFFFFF, prior := { value := 5 }, segments := 1, granted := 1, refused := none }
def checking (l : List CheckPart) : State :=
  { run with
    checkParts := l
    pages := [(0, { chkEnable := true, rings := [(6, { enable := true, prod := 2 }), (7, { enable := true })]
                    checks := [(1, { running := true, opened := true, poly := 1, value := 0xFFFFFFFF }), (2, { value := 9 })] })] }
/-- CHKDQ holds `n` completions that the host has not taken, and one part is at work. -/
def filled (n : Nat) : State :=
  { checking [part (crc 1 1 false)] with
    pages := [(0, { chkEnable := true, rings := [(6, { enable := true, prod := 2 }), (7, { enable := true, prod := n })] })] }
theorem checking_live : (checking [part (crc 1 1 false)]).Live := live_of (by decide +kernel)
theorem witness_check_fetch : (checking []).engineTakes 3 2 = true ∧ (checking []).open 0 = true ∧ ((checking []).page 0).chkEnable = true ∧
    (((checking []).page 0).ring 6).enable = true ∧
    ((checking [part (crc 1 1 false)]).checkParts.filter fun x => x.page == 0 && !x.dispatched).length < (((checking []).page 0).ring 6).used ∧
    ((checking [part (crc 1 1 false)]).checkParts.filter fun x => x.page == 0).length < (((checking []).page 0).ring 7).free ∧
    (checking []).checkRefusal 0 (crc 2 1 false) = none ∧ (checking []).checkRefusal 0 (crc 2 2 false) = some acRange ∧
    checkWaits (checking [part (crc 1 1 false)]).checkParts 0 2 = false ∧
    (checking [part (crc 1 1 false)]).checkRefusal 0 (crc 1 2 false) = some acRange ∧
    checkWaits (checking [part (crc 1 1 false)]).checkParts 0 1 = true ∧ (checking []).checkRefusal 64 (crc 2 1 false) = none ∧
    (((filled 15).page 0).ring 7).free ≤ ((filled 15).checkParts.filter fun x => x.page == 0).length ∧
    ((filled 15).checkParts.filter fun x => x.page == 0 && !x.dispatched).length < (((filled 15).page 0).ring 6).used := by decide +kernel
def foundPart (d : CheckDesc) : Option CheckPart :=
  (checking [part d]).checkParts.find? fun x => x.page == 0 && x.desc.ctx == 1 && x.dispatched && x.granted == x.segments
theorem witness_check_parts : foundPart (crc 1 1 false) = some (part (crc 1 1 false)) ∧ foundPart (crc 1 2 true) = some (part (crc 1 2 true)) ∧
    crcFinal 1 (crcRun 1 0xFFFFFFFF [1, 2, 3]) ≠ (crc 1 2 true).expected % 2 ^ (polyOf 1).width ∧
    (((checking []).page 0).check 1).running = true ∧ (((checking []).page 0).check 2).running = false ∧ bit (0x80000002 : Word32).toNat 29 = false := by
  decide +kernel

/-! ## Witnesses: station ring -/

def ringed0 (r : Ring) : State := { run.setVal 0x3800 0x0F 0 with ring := r }
def pins (a b : RingLink) : Ring := { state := .inserted, inserted := true, ke := true, kw := true, east := { link := a }, west := { link := b } }
theorem ringed0_live : (ringed0 (pins .training .up)).Live := live_of (by decide +kernel)
theorem witness_ring_links : (ringed0 (pins .training .up)).ringUp = true ∧ (ringed0 (pins .training .up)).ringSwapping = none ∧
    ((ringed0 (pins .training .up)).ringPort .east).link = .training ∧ (pins .training .up).state ≠ .inserting ∧
    ((ringed0 { pins .training .up with state := .inserting }).ring.state = .inserting ∧ (pins .training .up).inserted = true) ∧
    ((ringed0 (pins .training .up)).ringPort .west).link = .up ∧ ((ringed0 (pins .training .up)).ringPort .east).link ≠ .up ∧
    ((ringed0 { pins .conflict .up with east := { link := .conflict, conflictAt := 999000000000 } }).ringPort .east).conflictAt + 1000000000 =
      max run.tsc 1000000000000 ∧
    max run.tsc 1000000000000 < ((ringed0 { pins .conflict .up with east := { link := .conflict, conflictAt := 999000000001 } }).ringPort .east).conflictAt + 1000000000 ∧
    (ringed0 { pins .up .up with commandAt := 999990000000 }).ring.commandAt + 10000000 = max run.tsc 1000000000000 ∧
    (ringed0 (pins .up .up)).queuedReset 4 0 = false ∧ (ringed0 (pins .up .up)).regionBusy 4 = false := by decide +kernel

def waiting0 (at_ : Nat) : Ring := { state := .waitSteady, steadyAt := at_ }
def beating : Ring := { state := .waitSteady, steady := true, insertBeat := some 25000000 }
def inserting0 (at_ : Nat) (l : RingLink) : Ring := { pins l .training with state := .inserting, insertingAt := at_, attempts := 1 }
theorem witness_insertion : (ringed0 (waiting0 0)).ring.state = .waitSteady ∧ (ringed0 (waiting0 0)).ring.steady = false ∧
    (1000000000000 - run.val 0x3800 8 * 1000000) + (ringed0 (waiting0 0)).val 0x3800 8 * 1000000 = max run.tsc 1000000000000 ∧
    (ringed0 beating).ring.insertBeat = some 25000000 ∧ 25000000 ≤ max run.tsc 1000000000000 / 40000 ∧ (ringed0 beating).ringBarred = false ∧
    (ringed0 beating).rst.extractAt = none ∧ ((ringed0 beating).setVal 0x3800 5 1).flag 0x3800 5 = true ∧ (ringed0 beating).ring.steady = true ∧
    (1000000000000 - run.val 0x3800 9 * 1000000) + (ringed0 beating).val 0x3800 9 * 1000000 ≤ max run.tsc 1000000000000 ∧
    (ringed0 (inserting0 0 .up)).ring.inserted = true ∧ (ringed0 (inserting0 0 .up)).ring.east.link = .up ∧
    (ringed0 (inserting0 0 .down)).ring.east.link ≠ .up ∧ (ringed0 (inserting0 0 .down)).ring.west.link ≠ .up ∧
    ((ringed0 (inserting0 0 .down)).setVal 0x3800 0x0A 2).val 0x3800 0x0A ≤ (inserting0 0 .down).attempts + 1 ∧
    (inserting0 0 .down).attempts + 1 < ((ringed0 (inserting0 0 .down)).setVal 0x3800 0x0A 3).val 0x3800 0x0A ∧
    max run.tsc 1000000000000 < (999999999999 : Nat) + run.val 0x3800 8 * 1000000 ∧ (ringed0 beating).val 0x3800 8 = run.val 0x3800 8 ∧
    max run.tsc 1000000000000 / 40000 < 25000001 ∧ (ringed0 { beating with stays := true }).ringBarred = true ∧
    (1000000000000 - run.val 0x3800 0x0B * 1000000000) + run.val 0x3800 0x0B * 1000000000 = max run.tsc 1000000000000 ∧
    (ringed0 { inserting0 0 .down with intervalAt := some 5 }).ring.intervalAt = some 5 ∧
    max run.tsc 1000000000000 < (999999999999 : Nat) + run.val 0x3800 0x0B * 1000000000 ∧
    (5 : Nat) + ((ringed0 beating).setVal 0x3800 0x0C 7).val 0x3800 0x0C * 1000000 ≤ max run.tsc 1000000000000 ∧
    (ringed0 { pins .down .down with bothDownAt := some 5 }).ring.bothDownAt = some 5 ∧ ((ringed0 beating).setVal 0x3800 0x0C 7).val 0x3800 0x0C ≠ 0 := by
  decide +kernel

/-- The module's address is an individual one: neither it nor what follows it is a group address of the protocols. -/
theorem ring_address_ne (n : Nat) (h : n ≤ 2) : Config.ringAddress + n ≠ daPtp ∧ Config.ringAddress + n ≠ daPeerDelay := by
  have a := Config.ringAddressBits.1.isLt
  have b := Config.ringAddressBits.2.isLt
  simp only [Config.ringAddress, daPtp, daPeerDelay]; omega
def frame0 : RingFrame := {
  da := Config.ringAddress + 1, sa := Config.ringAddress + 2, etherType := 0x88B8, hsrTag := some 9, length := 100, fcsOk := true
  aborted := false, nearest := false, payload := [] }
def cutting (r : Ring) : State := { run.setVal 0x3800 0x0F 1 with ring := r }
def seen : Ring := { pins .up .up with duplicates := [(Config.ringAddress + 2, 9, 1000000000000)] }
theorem not_cut (da : Nat) : (ringed0 (pins .up .up)).cutsThrough .east da = false := by
  have h : (ringed0 (pins .up .up)).flag 0x3800 0x0F = false := by decide +kernel
  simp [State.cutsThrough, h]
theorem not_seen (s : State) (n : Nat) (h : s.ring.duplicates = []) : s.isDuplicate frame0.sa n = false := by
  simp [State.isDuplicate, State.liveDuplicates, h]
theorem is_duplicate_of_mem {s : State} {sa seq stamp : Nat} (h : (sa, seq, stamp) ∈ s.ring.duplicates) (g : s.tsc ≤ stamp) :
    s.isDuplicate sa seq = true :=
  List.any_eq_true.2 ⟨_, List.mem_filter.2 ⟨h, decide_eq_true (Nat.le_trans g (Nat.le_add_right _ _))⟩, by simp⟩
theorem is_seen : ((ringed0 seen).upTo 1000000000000).isDuplicate frame0.sa 9 = true :=
  is_duplicate_of_mem (stamp := 1000000000000) (List.mem_singleton.2 rfl)
    (Nat.max_le.2 ⟨show run.tsc ≤ _ by decide +kernel, Nat.le_refl _⟩)
theorem witness_ring_frames : frame0.hsrTag = some 9 ∧ frame0.length ≤ 1528 ∧ frame0.aborted = false ∧ frame0.fcsOk = true ∧
    frame0.sa ≠ Config.ringAddress ∧ frame0.da ≠ Config.ringAddress ∧ (frame0.da ≠ daPtp ∧ frame0.da ≠ daPeerDelay) ∧
    ((ringed0 (pins .up .up)).ringPort .west).link = .up ∧ ((ringed0 (pins .up .up)).ringPort .west).sending = none ∧
    ((ringed0 (pins .up .up)).ringPort .west).transit = [] ∧ ((ringed0 (pins .up .up)).ringPort .west).localq = [] ∧
    (Config.ringAddress ≠ daPtp ∧ Config.ringAddress ≠ daPeerDelay) ∧ 1528 < ({ frame0 with length := 1529 } : RingFrame).length ∧
    ({ frame0 with hsrTag := none } : RingFrame).da ≠ daPeerDelay :=
  ⟨rfl, by decide, rfl, rfl, by simp [frame0], by simp [frame0], ring_address_ne 1 (by decide), rfl, rfl, rfl, rfl, ring_address_ne 0 (by decide),
    by decide, (ring_address_ne 1 (by decide)).2⟩
theorem witness_ring_cut : (cutting (pins .up .up)).cutsThrough .east frame0.da = true ∧ (cutting (pins .up .up)).ringUp = true ∧
    ((cutting (pins .up .up)).upTo 1000000000000).isDuplicate frame0.sa 9 = false := by
  refine ⟨?_, by decide +kernel, not_seen _ _ rfl⟩
  have h : (cutting (pins .up .up)).flag 0x3800 0x0F = true := by decide +kernel
  have g := ring_address_ne 1 (by decide)
  simp only [State.cutsThrough, h, ringForwards, frame0, Bool.true_and, Bool.and_eq_true, bne_iff_ne, beq_iff_eq]
  exact ⟨⟨⟨⟨⟨rfl, rfl⟩, rfl⟩, rfl⟩, ⟨g.2, by simp⟩⟩, g.1⟩
theorem cutting_live : (cutting (pins .up .up)).Live ∧ (ringed0 seen).Canonical :=
  ⟨live_of (by decide +kernel), ⟨by decide +kernel, rfl, by decide +kernel, rfl, rfl, rfl, rfl, rfl, rfl, rfl, rfl, rfl, rfl, by decide +kernel, rfl, rfl⟩⟩

def aTx (length started : Nat) : RingTx := ⟨{ frame0 with length := length, da := 1, sa := 2 }, false, false, 5, started⟩
def sendingRing (st : RingState) (started : Nat) (transit localq : List RingTx) : State :=
  ringed0 { pins .up .up with state := st, east := { link := .up, sending := some (aTx 100 started), transit := transit, localq := localq } }
theorem witness_ring_ends : ((sendingRing .inserted 0 [] [aTx 64 0]).ringPort .east).sending = some (aTx 100 0) ∧
    (aTx 100 0).started + ringFrameNs (aTx 100 0).frame.length ≤ max run.tsc 1000000000000 ∧
    max run.tsc 1000000000000 < (aTx 100 999999999999).started + ringFrameNs 100 ∧ (sendingRing .inserted 0 [] []).ring.state ≠ .extracting ∧
    ((sendingRing .inserted 0 [aTx 64 0] []).ringPort .east).transit = [aTx 64 0] ∧ (aTx 64 0).queued + 100000 ≤ max run.tsc 1000000000000 ∧
    (sendingRing .extracting 0 [] []).ring.state = .extracting ∧ ((sendingRing .extracting 0 [] []).ringPort .west).sending = none ∧
    (sendingRing .inserted 0 [] []).ring.supervisedAt + (sendingRing .inserted 0 [] []).val 0x3800 0x0E * 1000000 ≤ max run.tsc 1000000000000 ∧
    max run.tsc 1000000000000 < (999999999999 : Nat) + run.val 0x3800 0x0E * 1000000 ∧ (sendingRing .inserted 0 [] []).ringUp = true ∧
    ((ringed0 (pins .down .up)).ringPort .east).link ≠ .up := by decide +kernel
def ptpOf (k : PtpKind) : PtpMessage := {
  kind := k, domain := run.val 0x1200 0x0E, sequence := 7, origin := 9, requestReceived := 5, correction := 0, stepsRemoved := 1, bestMaster := true }
theorem witness_ptp : (ptpOf .sync).own = false ∧ ({ ptpOf .sync with own := true } : PtpMessage).own = true ∧
    ((ringed0 { pins .up .up with east := { link := .up, response := some (7, 1, 2), residence := some (7, 30) } }).ringPort .east).response = some (7, 1, 2) ∧
    ((ringed0 { pins .up .up with east := { link := .up, response := some (7, 1, 2), residence := some (7, 30) } }).ringPort .east).residence = some (7, 30) ∧
    (ringed0 (pins .up .up)).ptpRuns (ptpOf .announce) = true ∧ ((ringed0 (pins .up .up)).ringPort .west).steps = none ∧
    (ringed0 { pins .up .up with ptpPort := 1 + sideNo .east }).ring.ptpPort = 1 + sideNo .east ∧
    ((ringed0 (pins .up .up)).ringPort .east).syncAt + 3000000000 ≤ max run.tsc 1000000000000 ∧ run.val 0x1200 0x0F ≠ 0 ∧
    (run.setVal 0x1200 0x0F 0).val 0x1200 0x0F = 0 := by decide +kernel


/-! ## Witnesses: sensing -/

/-- Channel 0 is on with lead monitoring; switches 0 and 1 compare its fast value; generator 1 faulted, generator 2 ramps. -/
def sensed (at_ : Nat) (c : Channel) : State :=
  { (((((run.setVal 0x5100 1 1).setVal 0x5100 0x0B 1).setVal 0x5400 1 1).setVal 0x5300 1 1).setVal 0x5181 1 1).setVal 0x5100 6 0 with
    sensing := { channels := [(0, c)], generators := [(1, { state := 3, at_ := at_ }), (2, { state := 1, at_ := at_ })], vref := 2500
                 switches := [(0, { on := true, fresh := false, enabled := true }), (1, { on := true, enabled := true })] }
    trip := { run.trip with biRaw := 2, biSince := [(1, at_)] } }
def quietly : Channel := { restartAt := 5, enabled := true, settle := 7 }
def calm : State := sensed 5 { quietly with restartAt := 0 }
theorem sensed_live : calm.Live := live_of (by decide +kernel)
def sample0 : ChannelSample := {
  quantity := 0x40000000, curveOutput := 0, quadrature := 0, overrange := false, referenceLow := false, clampedPins := 0 }
theorem witness_driven : (calm.upTo 1000000000000).windowSample 0 sample0 = sample0 ∧ calm.aov 0 2 = 0 ∧ calm.analogLive 0 = true ∧
    (calm.upTo 1000000000000).statusOf 0 sample0 false = 0 ∧ 2000 ≤ calm.sensing.vref ∧ (calm.setVal 0x5400 5 3).aov 0 5 = 3 ∧ calm.aov 1 2 = 0 := by
  decide +kernel
theorem witness_results : calm.chanOn 0 = true ∧ (calm.upTo 1000000000000).periodEnds 0 = true ∧ ((sensed 5 quietly).upTo 1000000000000).periodEnds 0 = false ∧
    ((calm.upTo 1000000000000).curve (calm.chan 0 6) sample0) = (f32ToFrac 0x40000000, false, calm.upTo 1000000000000) ∧ calm.chan 0 0x0B = 1 ∧
    (∃ q ∈ [(3, 4, calm.val 0x5001 5 + 1)], calm.val 0x5001 5 < q.2.2) ∧ (∀ q ∈ [(3, 4, calm.val 0x5001 5)], q.2.2 ≤ calm.val 0x5001 5) ∧
    (calm.channel 0).broken = false ∧ (calm.channel 0).bad = 0 ∧ ((sensed 5 { quietly with bad := 1 }).channel 0).bad = 1 ∧
    ((sensed 5 { quietly with broken := true, good := 6 }).channel 0).good + 1 < 8 ∧
    7 ≤ ((sensed 5 { quietly with broken := true, good := 7 }).channel 0).good ∧ calm.analogLive 0 = true ∧ calm.analogLive 1 = false ∧
    calm.aov 0 5 = 0 ∧ (calm.setVal 0x5400 5 1).aov 0 5 = 1 ∧ (calm.setVal 0x5400 5 2).aov 0 5 = 2 := by decide +kernel
def since0 (at_ : Nat) : State := sensed at_ quietly
def failedSwitch : State := { calm with sensing := { calm.sensing with switches := [(0, { inFail := true, fresh := true, enabled := true })] } }
theorem witness_units : calm.sensingUp = true ∧ (calm.switch 0).enabled = true ∧ max 0 (max (calm.chanStatus (calm.swv 0 2)) (ofBool ((calm.upTo 1000000000000).settling (calm.swv 0 2)))) = 0 ∧
    2 ≤ max 2 (max (calm.chanStatus (calm.swv 0 2)) (ofBool ((calm.upTo 1000000000000).settling (calm.swv 0 2)))) ∧ (calm.switch 0).fresh = false ∧ (calm.switch 0).inFail = false ∧ (failedSwitch.switch 0).inFail = true ∧ (failedSwitch.switch 0).enabled = true ∧
    max 1 (max (calm.chanStatus (calm.swv 0 2)) (ofBool ((calm.upTo 1000000000000).settling (calm.swv 0 2)))) = 1 ∧ (calm.gen 2).state = 1 ∧ (calm.gen 1).state = 3 ∧
    (since0 999000000000).sensing.generators = [(1, { state := 3, at_ := 999000000000 }), (2, { state := 1, at_ := 999000000000 })] ∧
    999000000000 + 1000000000 = max run.tsc 1000000000000 ∧ calm.genv 1 1 ≠ 0 ∧ calm.outputsSafe = false ∧
    max run.tsc 1000000000000 < (999000000001 : Nat) + 1000000000 ∧ (1000000000000 - calm.genSettle 2) + calm.genSettle 2 = max run.tsc 1000000000000 ∧
    (biLimits (calm.val 0x5601 1)).1 < 161 ∧ bit calm.trip.biRaw 0 = false ∧ 99 < (biLimits (calm.val 0x5601 2)).2 ∧ bit calm.trip.biRaw 1 = true ∧
    (biLimits (calm.val 0x5601 1)).2 ≤ 100 ∧ 160 ≤ (biLimits (calm.val 0x5601 1)).1 ∧ calm.tripUp = true ∧
    max (Table.get 0 (since0 (1000000000000 - calm.val 0x5600 2 * 100000)).trip.biSince 1) calm.trip.releasedAt + calm.val 0x5600 2 * 100000 =
      max run.tsc 1000000000000 ∧
    max run.tsc 1000000000000 < max (Table.get 0 (since0 1000000000000).trip.biSince 1) calm.trip.releasedAt + calm.val 0x5600 2 * 100000 := by
  decide +kernel

/-! ## Witnesses: reset, boot, hot plug -/

def off0 : State := { run with rst := { run.rst with powered := false, connected := true, extractAt := none } }
def thermal0 (at_ : Option Nat) : State := { run with rst := { run.rst with watchdogAt := at_, thermalHold := true } }
theorem off_live : off0.Canonical ∧ (thermal0 (some 940000000000)).Canonical := ⟨canonical_of (by decide +kernel), canonical_of (by decide +kernel)⟩
theorem witness_resets : off0.rst.powered = false ∧ off0.rst.connected = true ∧ off0.rst.backup.dark = [] ∧ run.rst.connected = false ∧ run.rst.powered = true ∧
    run.rst.extractAt = none ∧ run.rst.sequence = none ∧ run.rst.lockout = false ∧ run.rst.watchdogAt = none ∧
    (thermal0 (some 940000000000)).rst.watchdogAt = some 940000000000 ∧ max run.tsc 1000000000000 ≤ 940000000000 + 60000000000 ∧
    (thermal0 none).rst.thermalHold = true ∧
    ({ run with rst := { run.rst with sequence := some ⟨1, 1⟩ } } : State).rst.sequence = some ⟨1, 1⟩ := by decide +kernel

def domAt (d : Nat) (st : DomainState) (since : Nat) : State := run.setDomain d { state := st, since := since }
theorem dom_live : (domAt 5 .ramping 5).Live ∧ (domAt 2 .ramping 5).Live := ⟨live_of (by decide +kernel), live_of (by decide +kernel)⟩
theorem witness_domains : ((domAt 5 .ramping 5).domain 5).state = .ramping ∧ ((domAt 2 .ramping 5).domain 2).state = .ramping ∧
    ((domAt 5 .clockWait 995000000000).domain 5).state = .clockWait ∧ (domAt 5 .clockWait 995000000000).domainBlocks 5 ≠ [] ∧
    ((domAt 5 .isolated 5).domain 5).state = .isolated ∧ (∀ rb ∈ run.domainBlocks 5, rb.1 ≠ 5 ∧ rb ≠ (3, 1)) ∧
    ((domAt 5 .clockWait 999995000000).domain 5).since + 5000000 = max run.tsc 1000000000000 ∧
    max run.tsc 1000000000000 < ((domAt 5 .clockWait 999995000001).domain 5).since + 5000000 ∧ (run.domain 5).state = .on := by decide +kernel

/-- A firmware image of the highest release with an empty payload. -/
def soundImage (ok : Bool) : ImageCheck := {
  header := toBE 4 0x4F435443 ++ [1, 1, 0, 0, 0xFF, 0xFF, 0xFF, 0xFF, 0, 0, 0, 4] ++ toBE 8 0 ++ toBE 8 (crc64 []) ++ toBE 8 (crc64 []) ++
    List.replicate 96 0
  payload := [], signatureOk := ok, keyHash := [] }
def booting (x : Option ConfigImage) (ready : Bool) : State :=
  { run with rst := { run.rst with committed := false, sequence := some ⟨1, 1⟩, bootReady := ready, bootImage := x } }
def image0 : ConfigImage := ⟨0x03020000, 4, 1, [(keyOf 0x1010 1, [0, 9])]⟩
theorem booting_live : (booting (some image0) true).Live := live_of (by decide +kernel)
theorem witness_boot : (booting none false).bootDue = true ∧ (booting none false).rst.preferred = 1 ∧ run.bootDue = false ∧
    (booting none true).rst.bootReady = true ∧ (booting none true).stepsDone 6 = true ∧ Table.rising image0.values = true ∧ (run.domain 27).state = .on ∧
    (booting none false).rst.committed = false ∧ (booting none false).rst.recovery = false ∧ run.rst.committed = true ∧ run.rst.sequence = none ∧
    ({ run with rst := { run.rst with saving := some ⟨1, image0⟩ } } : State).rst.saving = some ⟨1, image0⟩ := by decide +kernel
theorem sound_image : (soundImage true).header.length = 136 ∧ imageSound 1 (soundImage true) = true ∧ imageSigner (soundImage true) = 1 ∧
    imageRelease (soundImage true) = 0xFFFFFFFF ∧ imageSound 1 (soundImage false) = false := by decide +kernel
theorem witness_firmware : (some (soundImage true)).any firmwareValid = true ∧ (some (soundImage false)).any firmwareValid = false := by
  have h : Config.minimumRelease ≤ 0xFFFFFFFF := by
    have := Config.minimumReleaseBits.isLt
    simp only [Config.minimumRelease]; omega
  simp only [Option.any_some, firmwareValid, sound_image.2.1, sound_image.2.2.1, sound_image.2.2.2.1, sound_image.2.2.2.2, Bool.false_and,
    decide_eq_true h, and_self, BEq.rfl, Bool.and_self]
def reloading : State := { run with rst := { run.rst with reload := true, bootBank := 1, sequence := some ⟨5, 3⟩, committed := false } }
theorem witness_reload : reloading.Live ∧ reloading.bootDue = false ∧ reloading.rst.reload = true ∧ reloading.rst.bootBank = 1 ∧ run.bootDue = false ∧
    run.rst.reload = false := ⟨live_of (by decide +kernel), by decide +kernel⟩

def extracting (at_ : Nat) (safe : Bool) : State := { run with rst := { run.rst with extractAt := some at_, extractSafe := safe } }
theorem extracting_live : (extracting 5 true).Canonical := canonical_of (by decide +kernel)
theorem witness_hot_plug : (extracting 999850000000 true).rst.extractAt = some 999850000000 ∧ (extracting 999850000000 true).rst.extractSafe = true ∧
    999850000000 + 150000000 ≤ max run.tsc 1000000000000 ∧ 999850000001 + 50000000 ≤ max run.tsc 1000000000000 ∧
    max run.tsc 1000000000000 < 999850000001 + 150000000 ∧ max run.tsc 1000000000000 < 999950000001 + 50000000 ∧
    (extracting 5 true).rst.powered = true ∧ ({ extracting 5 true with rst := { (extracting 5 true).rst with powered := false } } : State).rst.powered = false ∧
    (extracting 5 true).rst.lockout = false ∧ (extracting 5 true).rst.sequence = none := by decide +kernel

/-! ## Witnesses: supervision, tamper, registers -/

def measuredAt (n : Nat) : State :=
  { run with sup := { run.sup with measuredAt := n, ageing := [(keyOf 0x6041 1 * 256, 500)] }, rst := { run.rst with flashAt := n } }
def wanting (p : Nat) : SwapRequest := ⟨3, p, 1, 5, false, false⟩
def requesting (p : Nat) : State := { run with sup := { run.sup with requests := [wanting p] } }
def copying : State := { run with sup := { run.sup with running := some (wanting (srcBlock 2 16)) } }
theorem requesting_live : (requesting (srcBlock 2 16)).Live ∧ (measuredAt 5).Live ∧ copying.Live :=
  ⟨live_of (by decide +kernel), live_of (by decide +kernel), live_of (by decide +kernel)⟩
def found0 (p : Nat) : Option SwapRequest :=
  (sortBy requestBefore (requesting p).sup.requests).find? fun q =>
    ((requesting p).upTo 1000000000000).quietFor q && !((requesting p).outputsSafe && movesLine q)
def small : State := { run with variant := .sk3612 }
theorem small_live : small.Live := live_of (by decide +kernel)
theorem witness_phases : 0 < railPhases run.variant 1 ∧ bit (run.shedPhases 1) 0 = false ∧ railPhases run.variant 1 ≠ 1 ∧
    0 < railPhases small.variant 3 ∧ railPhases small.variant 3 = 1 ∧ bit (small.shedPhases 3) 0 = false ∧ railOf 19 = 3 ∧
    domainPresent small.variant 19 = true := by decide +kernel
theorem witness_supervision : run.supervises = true ∧ (measuredAt 0).sup.measuredAt + (measuredAt 0).val 0x6040 4 * 1000000000 ≤ max run.tsc 86400000000000 ∧
    max run.tsc 86400000000000 < (measuredAt 82800000000001).sup.measuredAt + (measuredAt 0).val 0x6040 4 * 1000000000 ∧
    (measuredAt 0).rst.flashAt + 86400000000000 = max run.tsc 86400000000000 ∧ max run.tsc 86400000000000 < (measuredAt 1).rst.flashAt + 86400000000000 ∧
    max run.tsc 1000000000000 % 40000 = 0 ∧ found0 (srcBlock 2 16) = some (wanting (srcBlock 2 16)) ∧ srcRegion (srcBlock 2 16) = 2 ∧
    16 ≤ srcBlk (srcBlock 2 16) ∧ found0 (srcOf 3 0 5) = some (wanting (srcOf 3 0 5)) ∧ srcRegion (srcOf 3 0 5) = 3 ∧
    (wanting (srcOf 3 0 5)).back = false ∧ copying.bankSwap = some (wanting (srcBlock 2 16)) ∧ run.bankSwap = none ∧ hasBallast run.variant = true ∧
    (run.unit 3).state = 0 ∧ Table.get 0 run.sup.testedAt 3 + 86400000000000 = max run.tsc 86400000000000 := by decide +kernel
def darkened : State := { run with rst := { run.rst with powered := false } }
/-- The request for a ring pair, the return of an engine, and the request for a port that runs. -/
def asked0 (p : Nat) (back : Bool) : State := { run with
  ring := { run.ring with state := .inserted, inserted := true }, ports := [(0, { state := .running, driver := true })]
  sup := { run.sup with requests := [⟨3, p, 1, 5, back, false⟩], units := [(3, { state := 3, primary := p })] } }
def firstOf (p : Nat) (back : Bool) : Option SwapRequest :=
  (sortBy requestBefore (asked0 p back).sup.requests).find? fun q =>
    ((asked0 p back).upTo 1000000000000).quietFor q && !((asked0 p back).outputsSafe && movesLine q)
theorem witness_substitutions : (asked0 (srcOf 4 0 0) false).Live ∧ firstOf (srcOf 4 0 0) false = some ⟨3, srcOf 4 0 0, 1, 5, false, false⟩ ∧
    srcRegion (srcOf 4 0 0) = 4 ∧ firstOf (srcOf 3 0 5) true = some ⟨3, srcOf 3 0 5, 1, 5, true, false⟩ ∧ srcRegion (srcOf 3 0 5) = 3 ∧
    firstOf (srcOf 1 0 1) false = some ⟨3, srcOf 1 0 1, 1, 5, false, false⟩ ∧ srcRegion (srcOf 1 0 1) = 1 ∧
    ((asked0 (srcOf 1 0 1) false).port (srcBlk (srcOf 1 0 1))).state = .running ∧
    (∀ q ∈ (requesting (srcOf 4 0 0)).sup.requests, ((requesting (srcOf 4 0 0)).upTo 1000000000000).quietFor q = false) :=
  ⟨live_of (by decide +kernel), by decide +kernel⟩
theorem witness_aged_part : run.agedPart (keyOf 0x6042 1) 0 ≠ none ∧ ((⟨keyOf 0x6042 1, 0, 160⟩ : AgeingSample) :: []).length = 1 := by decide +kernel
theorem witness_tamper : run.rst.powered = true ∧ run.val 0x6080 3 ≠ 2 ∧ run.val 0x6080 1 = 2 ∧ run.rst.sequence = none ∧ run.rst.lockout = false ∧
    darkened.rst.powered = false := by decide +kernel

theorem test_no_register : pageReg 0x4020 = none ∧ exec (.registerWrite 5 0 0x4020 1) run = .fault (.noRegister 0x4020) := ⟨by decide +kernel, rfl⟩

/-! ## Ill-formed commands

One for each kind of operand: the check refuses it, and takes the last value in range. -/

theorem test_wf_source : (Instr.uncorrectableError 0 65536 0).wf = false ∧ (Instr.uncorrectableError 0 65535 0).wf = true := by decide
theorem test_wf_block : (Instr.blockIdle 0 0 3).wf = false ∧ (Instr.blockIdle 0 6 3).wf = false ∧ (Instr.blockIdle 0 5 63).wf = false ∧
    (Instr.blockIdle 0 5 4).wf = true := by decide
theorem test_wf_function : (Instr.mbxGo 0 64 0).wf = false ∧ (Instr.mbxGo 0 63 0).wf = true := by decide
theorem test_wf_page : (Instr.ctxAbort 0 65 0).wf = false ∧ (Instr.ctxAbort 0 64 0).wf = true := by decide
theorem test_wf_mac : (Instr.ringRequestArrival 0 (2 ^ 48) []).wf = false ∧ (Instr.ringRequestArrival 0 (2 ^ 48 - 1) []).wf = true := by decide
theorem test_wf_mains : (Instr.zxCrossing 0 3).wf = false ∧ (Instr.zxCrossing 0 2).wf = true := by decide
theorem test_wf_port : (Instr.currentLimit 0 38).wf = false ∧ (Instr.currentLimit 0 37).wf = true := by decide
theorem test_wf_lane : (Instr.laneFrameEnd 0 5 4).wf = false ∧ (Instr.laneFrameEnd 0 37 3).wf = true := by decide
theorem test_wf_link : (Instr.linkIdleRelease 0 262144).wf = false ∧ (Instr.linkIdleRelease 0 262143).wf = true := by decide
theorem test_wf_spool : (Instr.spoolFlush 0 1048576).wf = false ∧ (Instr.spoolFlush 0 1048575).wf = true := by decide
theorem test_wf_route : (Instr.routeAgeExpiry 0 2097152).wf = false ∧ (Instr.routeAgeExpiry 0 2097151).wf = true := by decide
theorem test_wf_command_link : (Instr.heartbeat 0 3 8).wf = false ∧ (Instr.heartbeat 0 3 7).wf = true := by decide
theorem test_wf_chips : (Instr.commandBodyCheck 0 3 (List.replicate 111 1)).wf = false ∧ (Instr.commandBodyCheck 0 3 (List.replicate 112 1)).wf = true := by decide
theorem test_wf_descriptor : (Instr.cipherJobFetch 0 0 { ecb 6 with iv := List.replicate 16 0, slot := 256 }).wf = false ∧
    (Instr.cipherJobFetch 0 0 { ecb 6 with iv := List.replicate 16 0 }).wf = true := by decide
theorem test_wf_core : (Instr.knownAnswerTest 0 17 true).wf = false ∧ (Instr.knownAnswerTest 0 16 true).wf = true := by decide
theorem test_wf_sensing : (Instr.thresholdSwitchChange 0 16 0 0).wf = false ∧ (Instr.generatorFault 0 4).wf = false ∧ (Instr.biFilterExpiry 0 16).wf = false ∧
    (Instr.thresholdSwitchChange 0 15 0 7).wf = true := by decide
theorem test_wf_domain : (Instr.domainPowerGood 0 30).wf = false ∧ (Instr.domainPowerGood 0 29).wf = true := by decide
theorem test_wf_rail : (Instr.phaseShed 0 11 0).wf = false ∧ (Instr.phaseShed 0 10 0).wf = true := by decide
theorem test_wf_sensor : (Instr.tamperDetected 0 0).wf = false ∧ (Instr.tamperDetected 0 7).wf = false ∧ (Instr.tamperDetected 0 6).wf = true := by decide
theorem test_wf_register : (Instr.registerWrite 0 0 65536 0).wf = false ∧ (Instr.registerWrite 0 64 0 0).wf = false ∧
    (Instr.registerWrite 0 63 0xFFFC 0).wf = true := by decide
theorem test_wf_ring_index : (Instr.hostConsumerIndexWrite 0 0 8 0).wf = false ∧ (Instr.hostConsumerIndexWrite 0 0 7 0).wf = true := by decide

/-! ## Single steps, with results taken from the spec -/

/-- The state a command leads to; its own state where it stops. -/
def after (s : State) (c : Instr) : State :=
  match exec c s with
  | .next u => u
  | .fault _ => s
  | .refused _ => s

/-- R347: the check values of "123456789" under the four polynomials. -/
theorem test_check_values : (List.range 4).map (fun n => crcFinal (n + 1) (crcRun (n + 1) (polyOf (n + 1)).init [49, 50, 51, 52, 53, 54, 55, 56, 57])) =
    [0xCBF43926, 0xE3069283, 0x29B1, 0x6C40DF5F0B497347] := by decide +kernel
/-- R408: nMRST low for 10 µs resets, for less it does not. -/
theorem test_external : (after run (.external 5 10000)).rst.cause = 3 ∧ (after run (.external 5 9999)).rst.sequence = none := by decide +kernel
/-- R406: class 0 turns on above 16.0 V. -/
theorem test_binary_input : (after run (.binaryInputEdge 5 0 161)).trip.biRaw = 1 ∧ (after run (.binaryInputEdge 5 0 160)).trip.biRaw = 0 := by decide +kernel
/-- R365, R366: 3.0 dB on both pairs take a port UP. -/
theorem test_ring_training : (after (ringed0 (pins .training .up)) (.ringTrainingComplete 5 .east 30 30 7)).ring.east.link = .up ∧
    (after (ringed0 (pins .training .up)) (.ringTrainingComplete 5 .east 30 29 7)).ring.east.link = .training := by decide +kernel
/-- R446, R448: a sensor with response 1 latches and does not reset; without supply the mesh sensor latches for the next start. -/
theorem test_tamper : (after run (.tamperDetected 5 4)).val 0x6081 1 = 8 ∧ (after run (.tamperDetected 5 4)).rst.sequence = none ∧
    (after darkened (.tamperDetected 5 2)).val 0x6081 1 = 2 ∧ (after darkened (.tamperDetected 5 2)).rst.backup.dark = [(2, 0)] := by decide +kernel
/-- R326, R340: a LOAD of AES-128 takes the first 16 bytes of KEY_DATA and clears it. -/
theorem test_load : ((after cipher1 (.load 5 0 (loadWord 6))).slot 6).key = keyText ∧ ((after cipher1 (.load 5 0 (loadWord 6))).slot 6).generation = 4 ∧
    ((after cipher1 (.load 5 0 (loadWord 6))).page 0).keyData = [] := by decide +kernel
/-- R299: the counter of a frame is 16 times the seconds since the key epoch. -/
theorem test_counter : (((after (idle1 sent0) (.heartbeat 5 0 0)).cell 0).link 0).lastSent = 16 * 1000 := by decide +kernel
/-- R96: slot 23 is followed by slot 0 of the next cycle. -/
theorem test_slot_wraps : (after { run with tether := { run.tether with slot := 23, cycle := 4, slotAt := 5 } } (.slotBoundary 5)).tether.slot = 0 ∧
    (after { run with tether := { run.tether with slot := 23, cycle := 4, slotAt := 5 } } (.slotBoundary 5)).tether.cycle = 5 := by decide +kernel
/-- R51: the second half of a request buffer's word is at the next two bytes, little-endian. -/
theorem test_request_buffer : Table.getBytes ((after run (.registerWrite 5 3 0x8104 0x04030201)).page 3).reqBuf 4 4 = [1, 2, 3, 4] := by decide +kernel
/-- R433: a phase shed of the VCORE_S rail is logged with what is left of its four. -/
theorem test_phase_shed : (after run (.phaseShed 5 1 2)).phasesLeft 1 = 3 ∧ (after run (.phaseShed 5 1 2)).shedPhases 1 = 4 := by decide +kernel

/-! ## Worked examples of the spec -/

/-- 08, a metering frame on a 32-carrier lane: groups A, B and D at 64-QAM and C at 16-QAM carry 154 coded bits. -/
def meterMap : Bytes := List.replicate 16 0x60 ++ List.replicate 8 0x40 ++ List.replicate 8 0x60
theorem test_metering_frame : toneMapBits 1 6 meterMap = 154 ∧ nsymFor ((List.range 20).map fun i => infoCapacity 2 (154 * (i + 1)) / 8) 130 = some 13 ∧
    codewords 2 2002 = [768, 466] ∧ infoCapacity 2 2002 = 1234 ∧ carrierStride 28 = 9 := by decide +kernel
def meterHead : Header := { crcOk := true, ver := 1, prof := 1, cls := 2, nsym := 13, src := 0x01A2C, tms := 0, sk := true }
/-- The same: the 40 bits of its header; and the coded header is read back. -/
theorem test_header_word : headerWord meterHead = 0x4181A0D161 := by decide +kernel
theorem test_header_read_back : decodeHeader ((codedHeader meterHead).map fun b => if b then -1 else 1) = meterHead := by decide +kernel
/-- The same: the frame ends 5,472 µs after its preamble began. -/
theorem test_frame_length : frameNs 1 13 = 5472000 := by decide +kernel

/-- 06, a false start followed by a real packet: the words of frame 0x0313, and of the frames captured and replayed. -/
def exampleCur (num partner l partnerL outcome bin : Nat) (afc : Int) : RxCur :=
  { cur goodHead none with num := num, partner := partner, l := l, partnerL := partnerL, outcome := outcome, bin := bin, afc := afc }
theorem test_acquisition_words : acqWord (exampleCur 0x0313 0x0312 78 96 6 3 232) true = 0x031303124E24ECE8 ∧
    acqWord (exampleCur 0x0421 0x0420 81 71 1 1 (-49)) true = 0x04210420511497CF ∧
    acqWord (exampleCur 0x0420 0x0421 71 81 2 2 126) true = 0x042004214714A87E := by decide +kernel
/-- 07, an appliance switched on at symbol 14. -/
theorem test_disturbance_word : distWord { cur goodHead none with erased := 1, marked := 4, steps := 1, clip := true, echo := true } = 0x0104001C := by
  decide +kernel
/-- 05, three sets for a node behind a rectifier: SNR of groups A to D in half decibels above −10 dB, in quiet, tail and noisy slots. -/
def rectifierSnr : Table Nat :=
  (List.range 24).flatMap fun n =>
    let c := if [5, 6, 7, 17, 18, 19].contains n then [38, 44, 27, 40] else if [8, 9, 10, 20, 21, 22].contains n then [56, 61, 51, 42] else [68, 80, 54, 72]
    (List.range 4).map fun g => (n * 256 + g, c.getD g 0)
theorem test_planned_sets : (planMaps 1 32 6 6 (profileOffset 0) false rectifierSnr).key = 0x15A80015A800 ∧
    (planMaps 1 32 6 6 (profileOffset 0) false rectifierSnr).maps.map (fun x => [x.getD 0 0, x.getD 8 0, x.getD 16 0, x.getD 24 0]) =
      [[0x60, 0x60, 0x40, 0x60], [0x40, 0x50, 0x30, 0x20], [0x10, 0x20, 0, 0x20]] ∧
    (planMaps 1 32 6 6 (profileOffset 0) false rectifierSnr).maps.map (toneMapBits 1 6) = [154, 98, 35] := by decide +kernel

end Sys2Proof.Tests
end

section
/-! What every command keeps, from the lemma of each command (Laws/CommandKeeps.lean): the variant and the queue (R8, log 1). -/

namespace Sys2Proof.Machine

/-- Whatever the command, the state it answers was reached by a move: each command's own `_keeps` lemma says so of its meaning, at the
time it brings. -/
theorem exec_moves {s u : State} : ∀ c : Instr, exec c s = .next u → Moves s u
  | .uncorrectableError .., h => .of_keeps (execUncorrectableError_keeps _ _ _ _ h)
  | .correctionThreshold .., h => .of_keeps (execCorrectionThreshold_keeps _ _ _ _ h)
  | .blockIdle .., h => .of_keeps (execBlockIdle_keeps _ _ _ _ h)
  | .idleTimeout .., h => .of_keeps (execIdleTimeout_keeps _ _ _ _ h)
  | .blockRelease .., h => .of_keeps (execBlockRelease_keeps _ _ _ _ _ h)
  | .scrubError .., h => .of_keeps (execScrubError_keeps _ _ _ _ _ h)
  | .mbxGo .., h => .of_keeps (execMbxGo_keeps _ _ _ _ h)
  | .ringRequestArrival .., h => .of_keeps (execRingRequestArrival_keeps _ _ _ _ h)
  | .read .., h => .of_keeps (execRead_keeps _ _ h)
  | .write .., h => .of_keeps (execWrite_keeps _ _ h)
  | .bundle .., h => .of_keeps (execBundle_keeps _ _ h)
  | .windowRead .., h => .of_keeps (execWindowRead_keeps _ _ h)
  | .windowWrite .., h => .of_keeps (execWindowWrite_keeps _ _ h)
  | .digestQuery .., h => .of_keeps (execDigestQuery_keeps _ _ h)
  | .digestAnnounceReceived .., h => .of_keeps (execDigestAnnounceReceived_keeps _ _ _ _ h)
  | .digestAnnounceSend .., h => .of_keeps (execDigestAnnounceSend_keeps _ _ h)
  | .commit .., h => .of_keeps (execCommit_keeps _ _ h)
  | .commitDistributionDone .., h => .of_keeps (execCommitDistributionDone_keeps _ _ h)
  | .abort .., h => .of_keeps (execAbort_keeps _ _ h)
  | .commitActivate .., h => .of_keeps (execCommitActivate_keeps _ _ h)
  | .digestRecomputeDone .., h => .of_keeps (execDigestRecomputeDone_keeps _ _ _ h)
  | .beatBoundary .., h => .of_keeps (execBeatBoundary_keeps _ _ _ _ h)
  | .ref10Qualified .., h => .of_keeps (execRef10Qualified_keeps _ _ h)
  | .ref10Lost .., h => .of_keeps (execRef10Lost_keeps _ _ _ h)
  | .timeSourceQualified .., h => .of_keeps (execTimeSourceQualified_keeps _ _ _ h)
  | .timeSourceLost .., h => .of_keeps (execTimeSourceLost_keeps _ _ _ h)
  | .timeHoldoverExpiry .., h => .of_keeps (execTimeHoldoverExpiry_keeps _ _ h)
  | .servoCorrection .., h => .of_keeps (execServoCorrection_keeps _ _ _ h)
  | .setStationTime .., h => .of_keeps (execSetStationTime_keeps _ _ h)
  | .ppsEdge .., h => .of_keeps (execPpsEdge_keeps _ _ h)
  | .ppsOutEdge .., h => .of_keeps (execPpsOutEdge_keeps _ _ h)
  | .zxCrossing .., h => .of_keeps (execZxCrossing_keeps _ _ _ h)
  | .zxCrossingMissed .., h => .of_keeps (execZxCrossingMissed_keeps _ _ _ h)
  | .tetherHoldoverExpiry .., h => .of_keeps (execTetherHoldoverExpiry_keeps _ _ h)
  | .slotBoundary .., h => .of_keeps (execSlotBoundary_keeps _ _ h)
  | .eventDelivery .., h => .of_keeps (execEventDelivery_keeps _ _ _ h)
  | .portStartDelay .., h => .of_keeps (execPortStartDelay_keeps _ _ _ h)
  | .loopbackDone .., h => .of_keeps (execLoopbackDone_keeps _ _ _ _ _ h)
  | .relayContactSense .., h => .of_keeps (execRelayContactSense_keeps _ _ _ _ _ h)
  | .relaySenseTimeout .., h => .of_keeps (execRelaySenseTimeout_keeps _ _ _ h)
  | .portLanesIdle .., h => .of_keeps (execPortLanesIdle_keeps _ _ _ h)
  | .faultRetryExpiry .., h => .of_keeps (execFaultRetryExpiry_keeps _ _ _ h)
  | .retryReload .., h => .of_keeps (execRetryReload_keeps _ _ _ h)
  | .transmitPowerMeasure .., h => .of_keeps (execTransmitPowerMeasure_keeps _ _ _ _ h)
  | .currentLimit .., h => .of_keeps (execCurrentLimit_keeps _ _ _ h)
  | .driverTemperatureRead .., h => .of_keeps (execDriverTemperatureRead_keeps _ _ _ _ h)
  | .agcUpdate .., h => .of_keeps (execAgcUpdate_keeps _ _ _ _ h)
  | .clampOvervoltage .., h => .of_keeps (execClampOvervoltage_keeps _ _ _ h)
  | .impedanceMeasure .., h => .of_keeps (execImpedanceMeasure_keeps _ _ _ _ _ h)
  | .laneRestartEnd .., h => .of_keeps (execLaneRestartEnd_keeps _ _ _ _ h)
  | .complianceIntegrationEnd .., h => .of_keeps (execComplianceIntegrationEnd_keeps _ _ _ _ _ h)
  | .clipRelax .., h => .of_keeps (execClipRelax_keeps _ _ _ _ _ h)
  | .tmapUnacknowledged .., h => .of_keeps (execTmapUnacknowledged_keeps _ _ _ h)
  | .preambleDetection .., h => .of_keeps (execPreambleDetection_keeps _ _ _ _ _ h)
  | .headerCheckResult .., h => .of_keeps (execHeaderCheckResult_keeps _ _ _ _ _ _ h)
  | .rearmEnd .., h => .of_keeps (execRearmEnd_keeps _ _ _ _ h)
  | .lastSymbolReceived .., h => .of_keeps (execLastSymbolReceived_keeps _ _ _ _ h)
  | .dualCaptureReplay .., h => .of_keeps (execDualCaptureReplay_keeps _ _ _ _ h)
  | .decodeResult .., h => .of_keeps (execDecodeResult_keeps _ _ _ _ _ _ h)
  | .rxSymbolEnd .., h => .of_keeps (execRxSymbolEnd_keeps _ _ _ _ _ h)
  | .echoTrainingEnd .., h => .of_keeps (execEchoTrainingEnd_keeps _ _ _ _ _ h)
  | .echoSuppressionMeasure .., h => .of_keeps (execEchoSuppressionMeasure_keeps _ _ _ _ _ _ _ h)
  | .echoHoldTimeout .., h => .of_keeps (execEchoHoldTimeout_keeps _ _ _ _ h)
  | .echoResolveDone .., h => .of_keeps (execEchoResolveDone_keeps _ _ _ _ _ h)
  | .echoHoldLimit .., h => .of_keeps (execEchoHoldLimit_keeps _ _ _ _ h)
  | .echoLostResolve .., h => .of_keeps (execEchoLostResolve_keeps _ _ _ _ _ h)
  | .echoModelRefresh .., h => .of_keeps (execEchoModelRefresh_keeps _ _ _ _ _ h)
  | .noiseFloorWindow .., h => .of_keeps (execNoiseFloorWindow_keeps _ _ _ _ _ h)
  | .noiseFloorPublish .., h => .of_keeps (execNoiseFloorPublish_keeps _ _ _ _ h)
  | .laneFrameStart .., h => .of_keeps (execLaneFrameStart_keeps _ _ _ _ h)
  | .laneFrameEnd .., h => .of_keeps (execLaneFrameEnd_keeps _ _ _ _ h)
  | .grantLapse .., h => .of_keeps (execGrantLapse_keeps _ _ _ _ h)
  | .beaconSend .., h => .of_keeps (execBeaconSend_keeps _ _ h)
  | .dataFrameReceived .., h => .of_keeps (execDataFrameReceived_keeps _ _ _ h)
  | .ackFrameReceived .., h => .of_keeps (execAckFrameReceived_keeps _ _ _ h)
  | .ackTimeout .., h => .of_keeps (execAckTimeout_keeps _ _ _ _ h)
  | .standaloneAckDue .., h => .of_keeps (execStandaloneAckDue_keeps _ _ _ h)
  | .unroutedHoldExpiry .., h => .of_keeps (execUnroutedHoldExpiry_keeps _ _ _ h)
  | .spoolDisable .., h => .of_keeps (execSpoolDisable_keeps _ _ _ h)
  | .spoolEnable .., h => .of_keeps (execSpoolEnable_keeps _ _ _ h)
  | .spoolFlush .., h => .of_keeps (execSpoolFlush_keeps _ _ _ h)
  | .txqDoorbell .., h => .of_keeps (execTxqDoorbell_keeps _ _ _ _ _ h)
  | .rxHoldTimeout .., h => .of_keeps (execRxHoldTimeout_keeps _ _ _ h)
  | .routeAgeExpiry .., h => .of_keeps (execRouteAgeExpiry_keeps _ _ _ h)
  | .linkIdleRelease .., h => .of_keeps (execLinkIdleRelease_keeps _ _ _ h)
  | .linkRelease .., h => .of_keeps (execLinkRelease_keeps _ _ _ _ h)
  | .linkOffsetWrite .., h => .of_keeps (execLinkOffsetWrite_keeps _ _ _ _ _ h)
  | .reportReceived .., h => .of_keeps (execReportReceived_keeps _ _ _ h)
  | .stateReceived .., h => .of_keeps (execStateReceived_keeps _ _ _ h)
  | .neighboursReceived .., h => .of_keeps (execNeighboursReceived_keeps _ _ _ h)
  | .probeReplyReceived .., h => .of_keeps (execProbeReplyReceived_keeps _ _ _ h)
  | .joinReceived .., h => .of_keeps (execJoinReceived_keeps _ _ _ h)
  | .g9903Bootstrap .., h => .of_keeps (execG9903Bootstrap_keeps _ _ _ _ _ _ h)
  | .probeTimeout .., h => .of_keeps (execProbeTimeout_keeps _ _ _ h)
  | .relayWaitExpiry .., h => .of_keeps (execRelayWaitExpiry_keeps _ _ _ _ h)
  | .matrixSourceChange .., h => .of_keeps (execMatrixSourceChange_keeps _ _ h)
  | .tripMinPulseEnd .., h => .of_keeps (execTripMinPulseEnd_keeps _ _ _ h)
  | .commandFrameEnd .., h => .of_keeps (execCommandFrameEnd_keeps _ _ _ h)
  | .heartbeat .., h => .of_keeps (execHeartbeat_keeps _ _ _ _ h)
  | .tagStoreRefresh .., h => .of_keeps (execTagStoreRefresh_keeps _ _ _ _ h)
  | .hypothesisTagCompute .., h => .of_keeps (execHypothesisTagCompute_keeps _ _ _ _ h)
  | .commandBodyCheck .., h => .of_keeps (execCommandBodyCheck_keeps _ _ _ _ h)
  | .supervisionTimeout .., h => .of_keeps (execSupervisionTimeout_keeps _ _ _ _ h)
  | .rekeyChangeoverEnd .., h => .of_keeps (execRekeyChangeoverEnd_keeps _ _ _ _ h)
  | .cipherJobFetch .., h => .of_keeps (execCipherJobFetch_keeps _ _ _ _ h)
  | .cipherSegmentComplete .., h => .of_keeps (execCipherSegmentComplete_keeps _ _ _ _ _ _ _ _ h)
  | .knownAnswerTest .., h => .of_keeps (execKnownAnswerTest_keeps _ _ _ _ h)
  | .load .., h => .of_keeps (execLoad_keeps _ _ _ _ h)
  | .unwrap .., h => .of_keeps (execUnwrap_keeps _ _ _ _ h)
  | .erase .., h => .of_keeps (execErase_keeps _ _ _ _ h)
  | .eraseComplete .., h => .of_keeps (execEraseComplete_keeps _ _ _ h)
  | .slotStorageError .., h => .of_keeps (execSlotStorageError_keeps _ _ _ h)
  | .ctxAbort .., h => .of_keeps (execCtxAbort_keeps _ _ _ _ h)
  | .checkJobFetch .., h => .of_keeps (execCheckJobFetch_keeps _ _ _ _ h)
  | .checkPartComplete .., h => .of_keeps (execCheckPartComplete_keeps _ _ _ _ _ _ h)
  | .checkCtxCtrlWrite .., h => .of_keeps (execCheckCtxCtrlWrite_keeps _ _ _ _ _ h)
  | .checkValueWrite .., h => .of_keeps (execCheckValueWrite_keeps _ _ _ _ _ _ h)
  | .functionLevelReset .., h => .of_keeps (execFunctionLevelReset_keeps _ _ _ h)
  | .ringTrainingComplete .., h => .of_keeps (execRingTrainingComplete_keeps _ _ _ _ _ _ h)
  | .ringLinkLoss .., h => .of_keeps (execRingLinkLoss_keeps _ _ _ h)
  | .ringConflictTimeout .., h => .of_keeps (execRingConflictTimeout_keeps _ _ _ _ h)
  | .ringFrameReceived .., h => .of_keeps (execRingFrameReceived_keeps _ _ _ _ h)
  | .hsrSupervisionSend .., h => .of_keeps (execHsrSupervisionSend_keeps _ _ h)
  | .ptpMessageReceived .., h => .of_keeps (execPtpMessageReceived_keeps _ _ _ _ h)
  | .ptpSyncTimeout .., h => .of_keeps (execPtpSyncTimeout_keeps _ _ h)
  | .bypassSenseMismatch .., h => .of_keeps (execBypassSenseMismatch_keeps _ _ _ _ h)
  | .ringSteady .., h => .of_keeps (execRingSteady_keeps _ _ h)
  | .ringActivityInterrupted .., h => .of_keeps (execRingActivityInterrupted_keeps _ _ h)
  | .ringInsertionBeat .., h => .of_keeps (execRingInsertionBeat_keeps _ _ h)
  | .ringTrainingLimit .., h => .of_keeps (execRingTrainingLimit_keeps _ _ h)
  | .ringAttemptInterval .., h => .of_keeps (execRingAttemptInterval_keeps _ _ h)
  | .autoBypass .., h => .of_keeps (execAutoBypass_keeps _ _ h)
  | .insertAtBeat .., h => .of_keeps (execInsertAtBeat_keeps _ _ h)
  | .resultPublish .., h => .of_keeps (execResultPublish_keeps _ _ _ _ h)
  | .thresholdSwitchChange .., h => .of_keeps (execThresholdSwitchChange_keeps _ _ _ _ _ h)
  | .generatorFault .., h => .of_keeps (execGeneratorFault_keeps _ _ _ h)
  | .generatorRestart .., h => .of_keeps (execGeneratorRestart_keeps _ _ _ h)
  | .leadMonitorDecision .., h => .of_keeps (execLeadMonitorDecision_keeps _ _ _ _ h)
  | .clampFlagClear .., h => .of_keeps (execClampFlagClear_keeps _ _ h)
  | .biFilterExpiry .., h => .of_keeps (execBiFilterExpiry_keeps _ _ _ h)
  | .powerOn .., h => .of_keeps (execPowerOn_keeps _ _ h)
  | .brownOut .., h => .of_keeps (execBrownOut_keeps _ _ h)
  | .external .., h => .of_keeps (execExternal_keeps _ _ _ h)
  | .managerFull .., h => .of_keeps (execManagerFull_keeps _ _ h)
  | .managerWarm .., h => .of_keeps (execManagerWarm_keeps _ _ h)
  | .watchdog .., h => .of_keeps (execWatchdog_keeps _ _ h)
  | .thermal .., h => .of_keeps (execThermal_keeps _ _ _ h)
  | .domainClockGood .., h => .of_keeps (execDomainClockGood_keeps _ _ _ h)
  | .domainClockTimeout .., h => .of_keeps (execDomainClockTimeout_keeps _ _ _ h)
  | .domainClockLost .., h => .of_keeps (execDomainClockLost_keeps _ _ _ h)
  | .domainClockReturn .., h => .of_keeps (execDomainClockReturn_keeps _ _ _ h)
  | .bootImageVerified .., h => .of_keeps (execBootImageVerified_keeps _ _ _ _ h)
  | .bootCommit .., h => .of_keeps (execBootCommit_keeps _ _ h)
  | .bar0EarlyAccess .., h => .of_keeps (execBar0EarlyAccess_keeps _ _ _ _ h)
  | .saveConfiguration .., h => .of_keeps (execSaveConfiguration_keeps _ _ h)
  | .saveComplete .., h => .of_keeps (execSaveComplete_keeps _ _ h)
  | .imageBlock .., h => .of_keeps (execImageBlock_keeps _ _ h)
  | .eraseBank .., h => .of_keeps (execEraseBank_keeps _ _ h)
  | .verify .., h => .of_keeps (execVerify_keeps _ _ _ h)
  | .eraseConfigurationOnly .., h => .of_keeps (execEraseConfigurationOnly_keeps _ _ h)
  | .backupTimeCopy .., h => .of_keeps (execBackupTimeCopy_keeps _ _ h)
  | .vbatLoss .., h => .of_keeps (execVbatLoss_keeps _ _ h)
  | .hotSwapConnect .., h => .of_keeps (execHotSwapConnect_keeps _ _ h)
  | .nextractAsserted .., h => .of_keeps (execNextractAsserted_keeps _ _ h)
  | .extractPowerDown .., h => .of_keeps (execExtractPowerDown_keeps _ _ h)
  | .nextractReleased .., h => .of_keeps (execNextractReleased_keeps _ _ h)
  | .phaseShed .., h => .of_keeps (execPhaseShed_keeps _ _ _ _ h)
  | .ageingMeasurement .., h => .of_keeps (execAgeingMeasurement_keeps _ _ _ h)
  | .ageingFlashWrite .., h => .of_keeps (execAgeingFlashWrite_keeps _ _ h)
  | .substitutionStart .., h => .of_keeps (execSubstitutionStart_keeps _ _ h)
  | .bankCopyDone .., h => .of_keeps (execBankCopyDone_keeps _ _ _ h)
  | .ballastSubstitute .., h => .of_keeps (execBallastSubstitute_keeps _ _ h)
  | .ballastReturn .., h => .of_keeps (execBallastReturn_keeps _ _ h)
  | .ballastSelfTest .., h => .of_keeps (execBallastSelfTest_keeps _ _ _ _ h)
  | .tamperDetected .., h => .of_keeps (execTamperDetected_keeps _ _ _ h)
  | .tamperLatchClear .., h => .of_keeps (execTamperLatchClear_keeps _ _ h)
  | .evtPop .., h => .of_keeps (execEvtPop_keeps _ _ _ _ h)
  | .evtOverflowClear .., h => .of_keeps (execEvtOverflowClear_keeps _ _ _ _ h)
  | .registerWrite .., h => .of_keeps (execRegisterWrite_keeps _ _ _ _ _ h)
  | .ringRelayContactSense .., h => .of_keeps (execRingRelayContactSense_keeps _ _ _ _ h)
  | .ringRoleConflict .., h => .of_keeps (execRingRoleConflict_keeps _ _ _ h)
  | .ringTransmitEnd .., h => .of_keeps (execRingTransmitEnd_keeps _ _ _ h)
  | .ptpMessageInterval .., h => .of_keeps (execPtpMessageInterval_keeps _ _ h)
  | .driverRailRegulation .., h => .of_keeps (execDriverRailRegulation_keeps _ _ _ _ h)
  | .generatorRampEnd .., h => .of_keeps (execGeneratorRampEnd_keeps _ _ _ h)
  | .vrefAoChange .., h => .of_keeps (execVrefAoChange_keeps _ _ _ h)
  | .binaryInputEdge .., h => .of_keeps (execBinaryInputEdge_keeps _ _ _ _ h)
  | .domainPowerGood .., h => .of_keeps (execDomainPowerGood_keeps _ _ _ h)
  | .thermalRelease .., h => .of_keeps (execThermalRelease_keeps _ _ _ h)
  | .rxfDoorbell .., h => .of_keeps (execRxfDoorbell_keeps _ _ _ _ _ h)
  | .hostConsumerIndexWrite .., h => .of_keeps (execHostConsumerIndexWrite_keeps _ _ _ _ _ h)

/-- Settles O3: every command is a move, and a move keeps the variant (R8) and the queue of commands (log 1). -/
theorem variantIsFixed : Obligations.VariantIsFixed := by
  intro c s u h
  have hmove : Moves s u := exec_moves c h
  exact ⟨hmove.variant, hmove.pending⟩

end Sys2Proof.Machine
end

section
/-! What values coming into force at the activation boundary leave (R30, R56): the dictionary, the values that wait for a release, the
manager and the event log. -/

namespace Sys2Proof.Machine

section Values

variable (s : State)

/-! ## One committed value (R30) -/

theorem State.commitValue_idle {key : Nat} (v : Bytes) (h : s.ownerIdle key = true) :
    s.commitValue key v = { s with mgr := { s.mgr with deferred := Table.insert s.mgr.deferred key v } } := if_pos h

theorem State.commitValue_running {key : Nat} (v : Bytes) (h : ¬ s.ownerIdle key = true) : s.commitValue key v = s.store key v := if_neg h

@[simp] theorem State.commitValue_ownerIdle (key : Nat) (v : Bytes) (k : Nat) : (s.commitValue key v).ownerIdle k = s.ownerIdle k := by
  by_cases h : s.ownerIdle key = true
  · rw [s.commitValue_idle v h]; rfl
  · rw [s.commitValue_running v h]; rfl

theorem State.commitValue_mgr (key : Nat) (v : Bytes) :
    (s.commitValue key v).mgr = { s.mgr with deferred := (s.commitValue key v).mgr.deferred } := by
  by_cases h : s.ownerIdle key = true
  · rw [s.commitValue_idle v h]
  · rw [s.commitValue_running v h, State.store_mgr]

theorem State.raw_commitValue_self (key : Nat) (v : Bytes) :
    (s.commitValue key v).raw key = if s.ownerIdle key = true then s.raw key else v := by
  split
  next h => rw [s.commitValue_idle v h]; rfl
  next h => rw [s.commitValue_running v h, State.raw_store_self]

theorem State.raw_commitValue_ne {key k : Nat} (v : Bytes) (hk : k ≠ key) : (s.commitValue key v).raw k = s.raw k := by
  by_cases h : s.ownerIdle key = true
  · rw [s.commitValue_idle v h]; rfl
  · rw [s.commitValue_running v h, s.raw_store_ne v hk]

theorem State.deferred_commitValue_self (key : Nat) (v : Bytes) : Table.find (s.commitValue key v).mgr.deferred key =
    if s.ownerIdle key = true then some v else Table.find s.mgr.deferred key := by
  split
  next h => rw [s.commitValue_idle v h]; exact Table.find_insert_self _ _ _
  next h => rw [s.commitValue_running v h, State.store_mgr]

theorem State.deferred_commitValue_ne {key k : Nat} (v : Bytes) (hk : k ≠ key) :
    Table.find (s.commitValue key v).mgr.deferred k = Table.find s.mgr.deferred k := by
  by_cases h : s.ownerIdle key = true
  · rw [s.commitValue_idle v h]; exact Table.find_insert_ne _ v hk
  · rw [s.commitValue_running v h, State.store_mgr]

/-! ## All committed values (R56) -/

@[simp] theorem State.commitValues_nil : s.commitValues [] = s := rfl

@[simp] theorem State.commitValues_cons (e : Nat × Bytes) (l : Table Bytes) :
    s.commitValues (e :: l) = (s.commitValue e.1 e.2).commitValues l := rfl

/-- Commits touch the dictionary and the manager only. -/
theorem State.commitValues_changes (l : Table Bytes) : Keeps [.dict, .mgr] s (s.commitValues l) :=
  State.commitValues_keeps (Keeps.refl _ _) l (by decide) (by decide)

theorem State.commitValues_mgr (l : Table Bytes) :
    (s.commitValues l).mgr = { s.mgr with deferred := (s.commitValues l).mgr.deferred } := by
  induction l generalizing s with
  | nil => rfl
  | cons e l ih => rw [State.commitValues_cons, ih, State.commitValue_mgr]

theorem State.commitValues_tsc (l : Table Bytes) : (s.commitValues l).tsc = s.tsc :=
  (s.commitValues_changes l).frame .tsc (by decide)

theorem State.commitValues_beat (l : Table Bytes) : (s.commitValues l).beat = s.beat := congrArg (· / beatNs) (s.commitValues_tsc l)

theorem State.commitValues_log (l : Table Bytes) : (s.commitValues l).log = s.log :=
  (s.commitValues_changes l).frame .log (by decide)

/-- Values come into force where the owner runs, and nowhere else. -/
theorem State.raw_commitValues {l : Table Bytes} (hl : Table.rising l = true) (k : Nat) :
    (s.commitValues l).raw k = if s.ownerIdle k = true then s.raw k else (Table.find l k).getD (s.raw k) := by
  induction l generalizing s with
  | nil => simp
  | cons e l ih =>
    obtain ⟨j, v⟩ := e
    obtain ⟨habove, hrising⟩ := Bool.and_eq_true_iff.mp hl
    rw [State.commitValues_cons, ih _ hrising, State.commitValue_ownerIdle]
    by_cases hk : k = j
    · subst hk
      simp [Table.find, Table.find_above habove (Nat.le_refl _), State.raw_commitValue_self]
    · simp [Table.find, Ne.symm hk, s.raw_commitValue_ne v hk]

/-- Values wait for a release where the owner does not run, the newest in place of an older one. -/
theorem State.deferred_commitValues {l : Table Bytes} (hl : Table.rising l = true) (k : Nat) :
    Table.find (s.commitValues l).mgr.deferred k =
      if s.ownerIdle k = true then (Table.find l k).or (Table.find s.mgr.deferred k) else Table.find s.mgr.deferred k := by
  induction l generalizing s with
  | nil => simp
  | cons e l ih =>
    obtain ⟨j, v⟩ := e
    obtain ⟨habove, hrising⟩ := Bool.and_eq_true_iff.mp hl
    rw [State.commitValues_cons, ih _ hrising, State.commitValue_ownerIdle]
    by_cases hk : k = j
    · subst hk
      simp [Table.find, Table.find_above habove (Nat.le_refl _), State.deferred_commitValue_self]
    · simp [Table.find, Ne.symm hk, s.deferred_commitValue_ne v hk]

/-! ## The activation boundary (R56) -/

/-- The state at the activation boundary with the committed values in force, the epoch counted and the staging empty, before anything
follows from the new values. -/
def State.activated : State :=
  { s.commitValues s.mgr.staging with mgr := (s.commitValues s.mgr.staging).mgr.unstaged }.bumpEpoch

theorem State.activateCommit_due (hstate : s.mgr.stagingState = 2) (hcommit : s.mgr.commit = none) (hdue : s.mgr.activation ≤ s.beat) :
    s.activateCommit = s.activated.applyConfig s := if_pos ⟨hstate, hcommit, hdue⟩

theorem State.activateCommit_early (h : s.beat < s.mgr.activation) : s.activateCommit = s :=
  if_neg fun ⟨_, _, hdue⟩ => Nat.not_le_of_lt h hdue

theorem State.activated_keeps : Keeps [.dict, .mgr, .log] s s.activated :=
  have hvalues : Keeps [.dict, .mgr, .log] s (s.commitValues s.mgr.staging) :=
    State.commitValues_keeps (Keeps.refl _ _) _ (by decide) (by decide)
  State.bumpEpoch_keeps (Keeps.record hvalues rfl rfl rfl rfl rfl rfl rfl rfl rfl rfl rfl rfl rfl rfl rfl rfl rfl rfl rfl)
    (by decide) (by decide)

theorem State.activated_raw (hl : Table.rising s.mgr.staging = true) (k : Nat) :
    s.activated.raw k = if s.ownerIdle k = true then s.raw k else (Table.find s.mgr.staging k).getD (s.raw k) :=
  s.raw_commitValues hl k

theorem State.activated_deferred (hl : Table.rising s.mgr.staging = true) (k : Nat) : Table.find s.activated.mgr.deferred k =
    if s.ownerIdle k = true then (Table.find s.mgr.staging k).or (Table.find s.mgr.deferred k) else Table.find s.mgr.deferred k :=
  s.deferred_commitValues hl k

/-- The epoch that follows: it counts by one and passes over 0 (R56). -/
def Manager.nextEpoch (m : Manager) : Nat := if m.epoch = 0xFFFFFFFF then 1 else m.epoch + 1

/-- The manager once the epoch has counted at a beat; its digests wait to be recomputed (R56, R60). -/
def Manager.counted (m : Manager) (beat : Nat) : Manager :=
  { m with epoch := m.nextEpoch, prevEpoch := m.epoch, epochBeat := some beat, digestsValid := false }

theorem State.bumpEpoch_mgr : s.bumpEpoch.mgr = s.mgr.counted s.beat := rfl

theorem State.bumpEpoch_detected : s.bumpEpoch.log.detected =
    s.log.detected ++ [⟨s.tsc, 0x5140, 0x0301, 1, toBE 4 s.mgr.nextEpoch ++ toBE 8 s.beat⟩] := rfl

theorem State.activated_mgr :
    s.activated.mgr = { s.mgr.unstaged.counted s.beat with deferred := s.activated.mgr.deferred } := by
  calc s.activated.mgr
      = (s.commitValues s.mgr.staging).mgr.unstaged.counted (s.commitValues s.mgr.staging).beat := State.bumpEpoch_mgr _
    _ = _ := by rw [State.commitValues_beat, State.commitValues_mgr]; rfl

theorem State.activated_detected : s.activated.log.detected =
    s.log.detected ++ [⟨s.tsc, 0x5140, 0x0301, 1, toBE 4 s.mgr.nextEpoch ++ toBE 8 s.beat⟩] := by
  have hepoch : (s.commitValues s.mgr.staging).mgr.nextEpoch = s.mgr.nextEpoch := by rw [State.commitValues_mgr]; rfl
  rw [← hepoch, ← s.commitValues_beat s.mgr.staging, ← s.commitValues_tsc s.mgr.staging, ← s.commitValues_log s.mgr.staging]
  exact State.bumpEpoch_detected _

end Values

/-- What COMMIT_ACTIVATE does while the manager runs. -/
theorem exec_commitActivate {s : State} (t : Nat) (hp : s.rst.powered = true) (hup : s.managerUp = true) :
    exec (.commitActivate t) s = .next (if max s.tsc t % 40000 = 0 then (s.upTo t).activateCommit else s.upTo t) := by
  have hup' : (s.upTo t).managerUp = true := hup
  calc exec (.commitActivate t) s
      = .next (if (s.upTo t).managerUp = true ∧ (s.upTo t).tsc % beatNs = 0 then (s.upTo t).activateCommit else s.upTo t) :=
        State.run_powered hp t _
    _ = _ := by simp only [hup', true_and, State.upTo_tsc, beatNs]

/-- Settles O39: at the boundary `State.activated` is the state asked for; before it nothing changes, whether or not a beat begins. -/
theorem activationAppliesCommit : Obligations.ActivationAppliesCommit := by
  intro s t ⟨_, hp⟩ hup hstate hcommit
  refine ⟨fun hdue hbeat => ⟨(s.upTo t).activated, ?_, ?_, ?_, ?_, ?_⟩, fun hearly => ⟨s.upTo t, ?_, ?_⟩⟩
  · rw [exec_commitActivate t hp hup, if_pos hbeat, (s.upTo t).activateCommit_due hstate hcommit hdue]
  · exact Did.of_keeps (s.upTo t).activated_keeps (by decide)
  · exact fun hl k => ⟨(s.upTo t).activated_raw hl k, (s.upTo t).activated_deferred hl k⟩
  · exact (s.upTo t).activated_mgr
  · exact (s.upTo t).activated_detected
  · rw [exec_commitActivate t hp hup, (s.upTo t).activateCommit_early hearly, ite_self]
  · exact Did.of_keeps (Keeps.refl [] _) (by decide)

end Sys2Proof.Machine
end

section
/-! What the other work of a beat boundary leaves of station time's affairs (R83): the time itself, the counter of its steps, the
events detected and the reset asked for. Here are the rules for the shared operations. A rule is named for its operation, so that the
chain `h.f.g` reads as the model's `(s.f).g`. -/

set_option Elab.async false

namespace Sys2Proof.Machine

/-- The key of the counter 1200.12 of station time's steps (R77). -/
def stepCounter : Nat := keyOf 0x1200 0x12

/-- From one state to the other station time stood still: no step of it was counted, no detected event went, and nothing was done about a
reset asked for or an extraction. -/
structure Undisturbed (s t : State) : Prop where
  variant : t.variant = s.variant
  tsc : t.tsc = s.tsc
  time : t.time = s.time
  steps : t.raw stepCounter = s.raw stepCounter
  detected : s.log.detected ⊆ t.log.detected
  requested : t.rst.requested = s.rst.requested
  extractAt : t.rst.extractAt = s.rst.extractAt

section Operations

variable {s₀ s t : State}

/-! ## Shared operations -/

theorem Undisturbed.refl (s : State) : Undisturbed s s := ⟨rfl, rfl, rfl, rfl, List.Subset.refl _, rfl, rfl⟩

theorem Undisturbed.trans (h : Undisturbed s₀ s) (k : Undisturbed s t) : Undisturbed s₀ t :=
  ⟨k.variant.trans h.variant, k.tsc.trans h.tsc, k.time.trans h.time, k.steps.trans h.steps, List.Subset.trans h.detected k.detected,
   k.requested.trans h.requested, k.extractAt.trans h.extractAt⟩

/-- An update of other parts. -/
theorem Undisturbed.update (h : Undisturbed s₀ s) (variant : t.variant = s.variant := by rfl) (tsc : t.tsc = s.tsc := by rfl)
    (time : t.time = s.time := by rfl) (dict : t.dict = s.dict := by rfl) (detected : t.log.detected = s.log.detected := by rfl)
    (requested : t.rst.requested = s.rst.requested := by rfl) (extractAt : t.rst.extractAt = s.rst.extractAt := by rfl) :
    Undisturbed s₀ t := by
  have hraw : t.raw stepCounter = s.raw stepCounter := by unfold State.raw; rw [variant, dict]
  exact h.trans ⟨variant, tsc, time, hraw, fun _ he => detected ▸ he, requested, extractAt⟩

/-- An operation that its frame keeps away from time, the dictionary, the event log and the resets. -/
theorem Undisturbed.keeps {ps : List Part} (h : Undisturbed s₀ s) (k : Keeps ps s t)
    (hps : ∀ p ∈ [Part.tsc, .time, .dict, .log, .rst], p ∉ ps := by decide) : Undisturbed s₀ t := by
  have hrst : t.rst = s.rst := k.frame .rst (hps _ (by decide))
  have hlog : t.log = s.log := k.frame .log (hps _ (by decide))
  exact h.update k.variant (k.frame .tsc (hps _ (by decide))) (k.frame .time (hps _ (by decide))) (k.frame .dict (hps _ (by decide)))
    (congrArg EventLog.detected hlog) (congrArg ResetCtl.requested hrst) (congrArg ResetCtl.extractAt hrst)

theorem Undisturbed.ite {c : Prop} [Decidable c] (hs : Undisturbed s₀ s) (ht : Undisturbed s₀ t) :
    Undisturbed s₀ (if c then s else t) := by
  split
  · exact hs
  · exact ht

theorem Undisturbed.each {α : Type} {l : List α} {f : State → α → State} (h : Undisturbed s₀ s)
    (hf : ∀ u x, Undisturbed s₀ u → Undisturbed s₀ (f u x)) : Undisturbed s₀ (s.each l f) := by
  unfold State.each
  induction l generalizing s with
  | nil => exact h
  | cons x l ih => exact ih (hf s x h)

/-- The same where each step hands something on beside the state. -/
theorem Undisturbed.foldl {α β : Type} {l : List α} {f : State × β → α → State × β} (hf : ∀ a x, Undisturbed s₀ a.1 → Undisturbed s₀ (f a x).1)
    {a : State × β} (h : Undisturbed s₀ a.1) : Undisturbed s₀ (l.foldl f a).1 := by
  induction l generalizing a with
  | nil => exact h
  | cons x l ih => exact ih (hf a x h)

theorem stepCounter_lt_keyOf {idx : Nat} (h : 0x1200 < idx) (sub : Nat) : stepCounter < keyOf idx sub := by
  unfold stepCounter keyOf; omega

theorem Undisturbed.store {key : Nat} {v : Bytes} (h : Undisturbed s₀ s) (hkey : stepCounter < key) : Undisturbed s₀ (s.store key v) :=
  h.trans ⟨rfl, rfl, rfl, s.raw_store_ne v (Nat.ne_of_lt hkey), List.Subset.refl _, rfl, rfl⟩

theorem Undisturbed.bumpKey {idx sub n : Nat} (h : Undisturbed s₀ s) (hidx : 0x1200 < idx := by omega) :
    Undisturbed s₀ (s.bumpKey (keyOf idx sub) n) := h.store (stepCounter_lt_keyOf hidx sub)

theorem Undisturbed.bump {idx sub : Nat} (h : Undisturbed s₀ s) (hidx : 0x1200 < idx := by omega) : Undisturbed s₀ (s.bump idx sub) :=
  h.bumpKey hidx

theorem Undisturbed.pbump {p idx sub : Nat} (h : Undisturbed s₀ s) (hidx : 0x1200 < idx := by omega) :
    Undisturbed s₀ (s.pbump p idx sub) := h.bumpKey

theorem Undisturbed.lbumpN {p l idx sub n : Nat} (h : Undisturbed s₀ s) (hidx : 0x1200 < idx := by omega) :
    Undisturbed s₀ (s.lbumpN p l idx sub n) := h.bumpKey

theorem Undisturbed.event {src code sev : Nat} {data : Bytes} (h : Undisturbed s₀ s) : Undisturbed s₀ (s.event src code sev data) :=
  h.trans ⟨rfl, rfl, rfl, rfl, List.subset_append_left _ _, rfl, rfl⟩

end Operations
end Sys2Proof.Machine
end

section
/-! What each operation of a boundary leaves of station time's affairs, in the order of the model's files. -/

set_option Elab.async false

namespace Sys2Proof.Machine

section Operations

variable {s₀ s : State} {p l k f n r b c e pos : Nat} {d : Band}

/-! ## Single fields and tables -/

theorem Undisturbed.emit {o : Out} (h : Undisturbed s₀ s) : Undisturbed s₀ (s.emit o) := h.update
theorem Undisturbed.returnItem {status : Nat} (h : Undisturbed s₀ s) : Undisturbed s₀ (s.returnItem r status n) := h.update
theorem Undisturbed.setBlock {x : Block} (h : Undisturbed s₀ s) : Undisturbed s₀ (s.setBlock r b x) := h.update
theorem Undisturbed.setPage {x : Page} (h : Undisturbed s₀ s) : Undisturbed s₀ (s.setPage f x) := h.update
theorem Undisturbed.setCell {x : CommandCell} (h : Undisturbed s₀ s) : Undisturbed s₀ (s.setCell p x) := h.update
theorem Undisturbed.setUnit {x : BallastUnit} (h : Undisturbed s₀ s) : Undisturbed s₀ (s.setUnit n x) := h.update
theorem Undisturbed.setDomain {x : Domain} (h : Undisturbed s₀ s) : Undisturbed s₀ (s.setDomain n x) := h.update
theorem Undisturbed.setSlot {x : KeySlot} (h : Undisturbed s₀ s) : Undisturbed s₀ (s.setSlot n x) := h.update
theorem Undisturbed.setJob {j : CipherJob} (h : Undisturbed s₀ s) : Undisturbed s₀ (s.setJob n j) := h.update
theorem Undisturbed.setCtx {x : CipherCtx} (h : Undisturbed s₀ s) : Undisturbed s₀ (s.setCtx f n x) := h.update
theorem Undisturbed.setCheck {x : CheckCtx} (h : Undisturbed s₀ s) : Undisturbed s₀ (s.setCheck f n x) := h.update
theorem Undisturbed.putCheck {x y : CheckPart} (h : Undisturbed s₀ s) : Undisturbed s₀ (s.putCheck x y) := h.update
theorem Undisturbed.setSpool {x : Spool} (h : Undisturbed s₀ s) : Undisturbed s₀ (s.setSpool k x) := h.update
theorem Undisturbed.consumeTx (h : Undisturbed s₀ s) : Undisturbed s₀ (s.consumeTx f) := h.update
theorem Undisturbed.queueMesh {x : MacFrame} (h : Undisturbed s₀ s) : Undisturbed s₀ (s.queueMesh p l x) := h.update
theorem Undisturbed.setTx {x : LaneTx} (h : Undisturbed s₀ s) : Undisturbed s₀ (s.setTx p l x) := h.update
theorem Undisturbed.setRx {x : LaneRx} (h : Undisturbed s₀ s) : Undisturbed s₀ (s.setRx p l x) := h.update
theorem Undisturbed.setPort {x : Port} (h : Undisturbed s₀ s) : Undisturbed s₀ (s.setPort p x) := h.update
theorem Undisturbed.updPort {g : Port → Port} (h : Undisturbed s₀ s) : Undisturbed s₀ (s.updPort p g) := h.setPort
theorem Undisturbed.lineFlag {on : Bool} (h : Undisturbed s₀ s) : Undisturbed s₀ (s.lineFlag p n on) := h.updPort
theorem Undisturbed.quietPort (h : Undisturbed s₀ s) : Undisturbed s₀ (s.quietPort p) := h.updPort
theorem Undisturbed.updLink {g : CommandLink → CommandLink} (h : Undisturbed s₀ s) : Undisturbed s₀ (s.updLink p k g) := h.setCell
theorem Undisturbed.enterRing {st : RingState} (h : Undisturbed s₀ s) : Undisturbed s₀ (s.enterRing st) := h.update
theorem Undisturbed.noteFailed {failed : Bool} (h : Undisturbed s₀ s) : Undisturbed s₀ (s.noteFailed e failed) := h.update

/-! ## Host rings and pages -/

theorem Undisturbed.postRing {data : Bytes} (h : Undisturbed s₀ s) : Undisturbed s₀ (s.postRing f k data) :=
  h.keeps (State.postRing_keeps (.refl [.out, .pages] s) f k data (by decide) (by decide))

theorem Undisturbed.consumeRing (h : Undisturbed s₀ s) : Undisturbed s₀ (s.consumeRing f k) :=
  h.keeps (State.consumeRing_keeps (.refl [.pages] s) f k (by decide))

/-! ## Cipher jobs (R332-R346) -/

theorem Undisturbed.postDone {j : CipherJob} {status len : Nat} {unverified : Bool} (h : Undisturbed s₀ s) :
    Undisturbed s₀ (s.postDone j status len unverified) := by
  unfold State.postDone
  exact (Undisturbed.ite h.postRing h.emit).bump

theorem Undisturbed.closeCtx (h : Undisturbed s₀ s) : Undisturbed s₀ (s.closeCtx f n) :=
  h.keeps (State.closeCtx_keeps (.refl [.pages] s) f n (by decide))

theorem Undisturbed.writeOut {j : CipherJob} {data : Bytes} (h : Undisturbed s₀ s) : Undisturbed s₀ (s.writeOut j data) :=
  h.keeps (State.writeOut_keeps (.refl [.out] s) j data (by decide))

theorem Undisturbed.failJob {j : CipherJob} {status : Nat} (h : Undisturbed s₀ s) : Undisturbed s₀ (s.failJob n j status) := by
  unfold State.failJob
  extract_lets _ u v w
  have hu : Undisturbed s₀ u := h.update
  have hv : Undisturbed s₀ v := .ite hu.closeCtx hu.consumeRing
  have hw : Undisturbed s₀ w := .ite hv.writeOut hv
  exact hw.postDone

theorem Undisturbed.refuseJob {j : CipherJob} {status : Nat} (h : Undisturbed s₀ s) : Undisturbed s₀ (s.refuseJob n j status) := by
  unfold State.refuseJob
  exact (Undisturbed.ite h (.ite h.closeCtx h)).failJob

/-! ## Outstanding items (R85-R87) -/

theorem Undisturbed.regionReset (h : Undisturbed s₀ s) : Undisturbed s₀ (s.regionReset r b) :=
  h.keeps (State.regionReset_keeps (.refl [.hier] s) r b (by decide))

theorem Undisturbed.overrun {fresh carried : List Nat} (h : Undisturbed s₀ s) : Undisturbed s₀ (s.overrun r b fresh carried) := by
  unfold State.overrun
  extract_lets x old low kept returned ahead u window _ u₁ u₂ u₃ u₄ flags gone
  have hu : Undisturbed s₀ u := h.setBlock
  have hu₁ : Undisturbed s₀ u₁ := hu.setBlock
  have hu₃ : Undisturbed s₀ u₃ := hu₁.bumpKey.bump.bumpKey
  have hu₄ : Undisturbed s₀ u₄ := .ite hu₃ hu₃.returnItem
  exact .ite hu (.ite hu₄ hu₄.event.regionReset)

theorem Undisturbed.engineEnd (h : Undisturbed s₀ s) : Undisturbed s₀ s.engineEnd := by
  unfold State.engineEnd
  extract_lets isOpen u out fresh low gone v
  have hu : Undisturbed s₀ u := h.each fun _ _ hu => hu.failJob
  exact .ite h (.ite hu (hu.overrun.each fun _ _ hv => .ite hv.failJob hv.setJob))

theorem Undisturbed.postCheck {x : CheckPart} {status result : Nat} {final : Bool} (h : Undisturbed s₀ s) :
    Undisturbed s₀ (s.postCheck x status result final) := by
  unfold State.postCheck
  exact (Undisturbed.ite h.postRing h.emit).bump

theorem Undisturbed.failCheck {x : CheckPart} {status : Nat} (h : Undisturbed s₀ s) : Undisturbed s₀ (s.failCheck x status) := by
  unfold State.failCheck
  extract_lets u y _ v
  have hu : Undisturbed s₀ u := h.update
  have hv : Undisturbed s₀ v := .ite (.ite hu.setCheck hu) hu.consumeRing
  exact hv.postCheck

theorem Undisturbed.checkEnd (h : Undisturbed s₀ s) : Undisturbed s₀ s.checkEnd := by
  unfold State.checkEnd
  extract_lets isOpen u out fresh low v
  have hu : Undisturbed s₀ u := h.each fun _ _ hu => hu.failCheck
  exact .ite h (.ite hu (hu.overrun.each fun _ _ hv => .ite hv.failCheck hv.putCheck))

theorem Undisturbed.poolTick {ready : List PoolItem} (h : Undisturbed s₀ s) : Undisturbed s₀ (s.poolTick ready) := by
  unfold State.poolTick
  extract_lets all items u taken
  have hu : Undisturbed s₀ u := h.bumpKey.bumpKey
  exact .ite hu.update hu.update

/-! ## Routes (R272-R294) -/

theorem Undisturbed.writeRoute {x : RouteEntry} (h : Undisturbed s₀ s) : Undisturbed s₀ (s.writeRoute pos x) :=
  h.keeps (State.writeRoute_keeps (.refl [.routes] s) pos x (by decide))

theorem Undisturbed.updateRoute {x : RouteEntry} {created : Bool} (h : Undisturbed s₀ s) : Undisturbed s₀ (s.updateRoute pos x created) :=
  h.keeps (State.updateRoute_keeps (.refl [.routes] s) pos x created (by decide))

theorem Undisturbed.invalidateRoute (h : Undisturbed s₀ s) : Undisturbed s₀ (s.invalidateRoute pos) :=
  h.keeps (State.invalidateRoute_keeps (.refl [.routes] s) pos (by decide))

theorem Undisturbed.markSelected {choice : Option Nat} (h : Undisturbed s₀ s) : Undisturbed s₀ (s.markSelected e choice) :=
  h.keeps (State.markSelected_keeps (.refl [.routes] s) e choice (by decide))

theorem Undisturbed.settleEndpoint (h : Undisturbed s₀ s) : Undisturbed s₀ (s.settleEndpoint e) :=
  h.keeps (State.settleEndpoint_keeps (.refl [.lanes, .spools] s) e (by decide) (by decide))

theorem Undisturbed.newRoute {x : RouteEntry} (h : Undisturbed s₀ s) : Undisturbed s₀ (s.newRoute e x) := by
  unfold State.newRoute
  split
  · exact h.updateRoute
  · exact h.bump

theorem Undisturbed.dropFailed (h : Undisturbed s₀ s) : Undisturbed s₀ (s.dropFailed e) :=
  h.each fun _ _ hu => .ite hu.invalidateRoute.bump hu

theorem Undisturbed.applyUpdates {wrote : List Nat} (h : Undisturbed s₀ s) : Undisturbed s₀ (s.applyUpdates wrote) := by
  unfold State.applyUpdates
  refine h.update.each fun u x hu => ?_
  exact .ite hu.bump (.ite hu.writeRoute.bump hu.writeRoute)

theorem Undisturbed.applyRecord {q : WindowRecord} (h : Undisturbed s₀ s) : Undisturbed s₀ (s.applyRecord q) :=
  h.keeps (State.applyRecord_keeps (.refl [.out, .lanes, .spools, .pages, .routes] s) q (by decide) (by decide) (by decide)
    (by decide) (by decide))

theorem Undisturbed.applyRecords (h : Undisturbed s₀ s) : Undisturbed s₀ s.applyRecords := by
  unfold State.applyRecords
  exact (h.update.each fun _ _ hu => hu.applyRecord).applyUpdates

theorem Undisturbed.repairFromReports (h : Undisturbed s₀ s) : Undisturbed s₀ (s.repairFromReports e) := by
  unfold State.repairFromReports
  refine h.each fun u node hu => ?_
  split
  · refine hu.each fun v link hv => ?_
    extract_lets m
    split
    · exact hv
    · exact hv.newRoute
  · exact hu

theorem Undisturbed.sendProbe {x : Repair} (h : Undisturbed s₀ s) : Undisturbed s₀ (s.sendProbe x) := by
  unfold State.sendProbe
  extract_lets id x' _ u
  have hu : Undisturbed s₀ u := h.update
  exact .ite (hu.each fun _ _ hv => hv.queueMesh).bump h.update

theorem Undisturbed.endRepair {sub : Nat} (h : Undisturbed s₀ s) : Undisturbed s₀ (s.endRepair e sub) := by
  unfold State.endRepair
  exact (Undisturbed.update h).noteFailed.bump

theorem Undisturbed.startRepair (h : Undisturbed s₀ s) : Undisturbed s₀ (s.startRepair e) := by
  unfold State.startRepair
  extract_lets x _ u v
  have hu : Undisturbed s₀ u := h.update.bump
  have hv : Undisturbed s₀ v := .ite hu hu.repairFromReports
  exact .ite h (.ite hv.endRepair (.ite hv hv.sendProbe))

theorem Undisturbed.reselect (h : Undisturbed s₀ s) : Undisturbed s₀ (s.reselect e) := by
  unfold State.reselect
  extract_lets had u choice v
  have hv : Undisturbed s₀ v := h.dropFailed.markSelected.settleEndpoint
  clear_value v choice
  cases choice with
  | some _ => exact .ite hv.endRepair hv.noteFailed
  | none => exact .ite hv.startRepair hv

theorem Undisturbed.reselectAll (h : Undisturbed s₀ s) : Undisturbed s₀ s.reselectAll := by
  unfold State.reselectAll
  exact h.update.each fun _ _ hu => hu.reselect

theorem Undisturbed.waitingProbes (h : Undisturbed s₀ s) : Undisturbed s₀ s.waitingProbes :=
  h.each fun _ _ hu => .ite hu.sendProbe hu

/-! ## Spools (R247-R266) -/

theorem Undisturbed.postTxc {tag status retries ok failed : Nat} (h : Undisturbed s₀ s) :
    Undisturbed s₀ (s.postTxc f tag status retries ok failed) :=
  h.keeps (State.postTxc_keeps (.refl [.out, .pages] s) f tag status retries ok failed (by decide) (by decide))

theorem Undisturbed.startBroadcast {x : TxDesc} (h : Undisturbed s₀ s) : Undisturbed s₀ (s.startBroadcast f x) :=
  h.keeps (State.startBroadcast_keeps (.refl [.out, .lanes, .spools, .pages] s) f x (by decide) (by decide) (by decide) (by decide))

theorem Undisturbed.settleSpool (h : Undisturbed s₀ s) : Undisturbed s₀ (s.settleSpool k) :=
  h.keeps (State.settleSpool_keeps (.refl [.lanes, .spools] s) k (by decide) (by decide))

theorem Undisturbed.admitTx {x : TxDesc} (h : Undisturbed s₀ s) : Undisturbed s₀ (s.admitTx f x) := by
  unfold State.admitTx
  extract_lets key spool handle packet _ u item
  have hu : Undisturbed s₀ u := h.update
  exact .ite h.startBroadcast (.ite h.postTxc (.ite h.postTxc (.ite h.postTxc.bump (.ite h.postTxc.bump hu.setSpool.settleSpool))))

theorem Undisturbed.fetchOne {x : TxDesc} (h : Undisturbed s₀ s) : Undisturbed s₀ (s.fetchOne f x) := by
  unfold State.fetchOne
  split
  · exact h.setPage.postTxc.consumeTx
  · exact .ite h.postTxc.consumeTx (.ite h.admitTx.consumeTx h.setPage)

theorem Undisturbed.fetchTx {xs : List TxDesc} (h : Undisturbed s₀ s) : Undisturbed s₀ (s.fetchTx f xs) := by
  induction xs generalizing s with
  | nil => exact h.setPage
  | cons x xs ih =>
    unfold State.fetchTx
    exact .ite h.setPage (.ite h.setPage (.ite h.setPage (ih h.fetchOne)))

theorem Undisturbed.admitWaiting (h : Undisturbed s₀ s) : Undisturbed s₀ (s.admitWaiting f) := by
  unfold State.admitWaiting
  extract_lets limit ok waiting _ u
  have hu : Undisturbed s₀ u := h.setPage
  exact (hu.each fun _ _ hv => hv.admitTx.consumeTx).fetchTx

/-! ## Receive sides (R173) -/

theorem Undisturbed.clearFloor (h : Undisturbed s₀ s) : Undisturbed s₀ (s.clearFloor p l) :=
  h.each fun _ _ hu => hu.store (stepCounter_lt_keyOf (by omega) _)

theorem Undisturbed.muteRx (h : Undisturbed s₀ s) : Undisturbed s₀ (s.muteRx p l) := by
  unfold State.muteRx
  exact h.setRx.lbumpN.clearFloor

theorem Undisturbed.settleRx (h : Undisturbed s₀ s) : Undisturbed s₀ (s.settleRx p l) := by
  unfold State.settleRx
  exact .ite h.setRx (.ite h.muteRx h)

theorem Undisturbed.settlePortRx (h : Undisturbed s₀ s) : Undisturbed s₀ (s.settlePortRx p) := h.each fun _ _ hu => hu.settleRx

/-! ## Ports (R103-R123) -/

theorem Undisturbed.echoTrain (h : Undisturbed s₀ s) : Undisturbed s₀ (s.echoTrain p d) :=
  h.keeps (State.echoTrain_keeps (.refl [.echoes, .lanes] s) p d (by decide) (by decide))

theorem Undisturbed.echoOff (h : Undisturbed s₀ s) : Undisturbed s₀ (s.echoOff p d) :=
  h.keeps (State.echoOff_keeps (.refl [.echoes, .lanes] s) p d (by decide) (by decide))

theorem Undisturbed.touchPort (h : Undisturbed s₀ s) : Undisturbed s₀ (s.touchPort p) :=
  h.keeps (State.touchPort_keeps (.refl [.routes] s) p (by decide))

theorem Undisturbed.broadcastsLeave (h : Undisturbed s₀ s) : Undisturbed s₀ (s.broadcastsLeave p) :=
  h.keeps (State.broadcastsLeave_keeps (.refl [.out, .spools, .pages] s) p (by decide) (by decide) (by decide))

theorem Undisturbed.liftGroups (h : Undisturbed s₀ s) : Undisturbed s₀ (s.liftGroups p) := by
  unfold State.liftGroups
  exact h.each fun _ _ hu => hu.setTx.store (stepCounter_lt_keyOf (by omega) _)

theorem Undisturbed.enterPort {st : PortState} {step : PortStep} (h : Undisturbed s₀ s) : Undisturbed s₀ (s.enterPort p st step) := by
  unfold State.enterPort
  extract_lets x y u v w w' z
  have hu : Undisturbed s₀ u := h.setPort
  have hv : Undisturbed s₀ v := .ite hu.touchPort hu
  have hw : Undisturbed s₀ w := .ite hv.broadcastsLeave hv
  have hw' : Undisturbed s₀ w' := .ite hw.liftGroups hw
  have hz : Undisturbed s₀ z := .ite hw'.echoOff.echoOff hw'
  exact hz.settlePortRx

theorem Undisturbed.startPort (h : Undisturbed s₀ s) : Undisturbed s₀ (s.startPort p) := by
  unfold State.startPort
  exact h.updPort.enterPort

theorem Undisturbed.trainIfClosed (h : Undisturbed s₀ s) : Undisturbed s₀ (s.trainIfClosed p) := by
  unfold State.trainIfClosed
  exact .ite (h.updPort.each fun _ _ hu => hu.echoTrain) h

theorem Undisturbed.relayStep {st : PortState} (h : Undisturbed s₀ s) : Undisturbed s₀ (s.relayStep p st) := by
  unfold State.relayStep
  extract_lets u v
  have hu : Undisturbed s₀ u := .ite h.updPort h.enterPort
  exact hu.updPort.trainIfClosed

theorem Undisturbed.settleBands (h : Undisturbed s₀ s) : Undisturbed s₀ (s.settleBands p) := by
  unfold State.settleBands
  extract_lets x use drop add u v u' v'
  have hv : Undisturbed s₀ v := h.updPort.each fun _ _ hw => hw.echoOff
  have hv' : Undisturbed s₀ v' := h.updPort.each fun _ _ hw => hw.echoOff
  exact .ite (.ite h hv.settlePortRx) (.ite (.ite (.ite h hv'.trainIfClosed) hv'.relayStep) h)

theorem Undisturbed.leaveStopped (h : Undisturbed s₀ s) : Undisturbed s₀ (s.leaveStopped p) := by
  unfold State.leaveStopped
  exact .ite h (.ite h.enterPort h.relayStep)

theorem Undisturbed.abandonPort {st : PortState} (h : Undisturbed s₀ s) : Undisturbed s₀ (s.abandonPort p st) := by
  unfold State.abandonPort
  exact h.quietPort.enterPort.updPort

/-- The end of a substitution writes the backup domain's list of substitutions, not the reset that is asked for (R441-R444). -/
theorem Undisturbed.endSwap {q : SwapRequest} {moved : Bool} (h : Undisturbed s₀ s) : Undisturbed s₀ (s.endSwap q moved) := by
  unfold State.endSwap
  extract_lets _ u _ _ v v' _ _ w
  have hu : Undisturbed s₀ u := h.update
  have hv' : Undisturbed s₀ v' := hu.setUnit
  have hw : Undisturbed s₀ w := .ite hv' hv'.update
  exact .ite (.ite (hu.update (t := v)).setUnit.event hw.event) (.ite hu hu.setUnit)

theorem Undisturbed.swapDone (h : Undisturbed s₀ s) : Undisturbed s₀ (s.swapDone p) := by
  unfold State.swapDone
  split
  · exact h.endSwap.pbump.updPort
  · exact h

theorem Undisturbed.cutCommand (h : Undisturbed s₀ s) : Undisturbed s₀ (s.cutCommand p) := by
  unfold State.cutCommand
  exact .ite h.setCell.bump.emit h

theorem Undisturbed.cutLanes (h : Undisturbed s₀ s) : Undisturbed s₀ (s.cutLanes p) :=
  h.keeps (State.cutLanes_keeps (.refl [.out, .lanes, .spools, .pages] s) p (by decide) (by decide) (by decide) (by decide))

theorem Undisturbed.reloadRetries (h : Undisturbed s₀ s) : Undisturbed s₀ (s.reloadRetries p) :=
  h.keeps (State.reloadRetries_keeps (.refl [.ports] s) p (by decide))

theorem Undisturbed.portPolicy (h : Undisturbed s₀ s) : Undisturbed s₀ (s.portPolicy p) := by
  unfold State.portPolicy
  extract_lets en u v x
  have hu : Undisturbed s₀ u := .ite h.reloadRetries h
  have hv : Undisturbed s₀ v := .ite hu hu.updPort
  refine .ite ?_ (.ite hv hv.cutLanes.cutCommand.quietPort.enterPort)
  split
  · exact .ite hv.startPort hv
  · exact .ite hv.abandonPort (.ite hv.abandonPort hv)
  · exact .ite hv.enterPort hv
  · exact .ite hv.enterPort.updPort (.ite hv hv.leaveStopped)
  · exact .ite hv.reloadRetries.enterPort.updPort hv
  · exact hv
  · exact .ite hv.swapDone.abandonPort hv

theorem Undisturbed.finishStopping (h : Undisturbed s₀ s) : Undisturbed s₀ (s.finishStopping p) := by
  unfold State.finishStopping
  extract_lets u v
  have hu : Undisturbed s₀ u := h.cutLanes
  have hv : Undisturbed s₀ v := hu.quietPort.enterPort
  exact .ite hu (.ite hv hv.updPort)

theorem Undisturbed.foldTick (h : Undisturbed s₀ s) : Undisturbed s₀ (s.foldTick p) := by
  unfold State.foldTick
  extract_lets x
  split
  · exact .ite h.updPort.lineFlag.pbump h
  · split
    · exact .ite h.updPort.lineFlag h
    · exact h

theorem Undisturbed.scaleTick (h : Undisturbed s₀ s) : Undisturbed s₀ (s.scaleTick p) := by
  unfold State.scaleTick
  extract_lets x limit sum y u u' on v
  have hu : Undisturbed s₀ u := .ite h h.setPort
  have hu' : Undisturbed s₀ u' := .ite hu hu.emit
  have hv : Undisturbed s₀ v := .ite hu'.pbump hu'
  exact .ite hv hv.lineFlag

theorem Undisturbed.gainTick (h : Undisturbed s₀ s) : Undisturbed s₀ (s.gainTick p) :=
  h.keeps (State.gainTick_keeps (.refl [.ports] s) p (by decide))

theorem Undisturbed.holdTick (h : Undisturbed s₀ s) : Undisturbed s₀ (s.holdTick p d) := .ite h.pbump h

theorem Undisturbed.modelTick (h : Undisturbed s₀ s) : Undisturbed s₀ (s.modelTick p d) :=
  h.keeps (State.modelTick_keeps (.refl [.echoes, .lanes] s) p d (by decide) (by decide))

theorem Undisturbed.limitTick (h : Undisturbed s₀ s) : Undisturbed s₀ (s.limitTick p) :=
  h.keeps (State.limitTick_keeps (.refl [.ports] s) p (by decide))

theorem Undisturbed.matrixStep (h : Undisturbed s₀ s) : Undisturbed s₀ (s.matrixStep p) :=
  h.keeps (State.matrixStep_keeps (.refl [.ports] s) p (by decide))

theorem Undisturbed.drainSwap (h : Undisturbed s₀ s) : Undisturbed s₀ (s.drainSwap p) :=
  h.keeps (State.drainSwap_keeps (.refl [.out, .ports, .lanes, .spools, .pages] s) p (by decide) (by decide) (by decide) (by decide)
    (by decide))

theorem Undisturbed.portTick (h : Undisturbed s₀ s) : Undisturbed s₀ (s.portTick p) := by
  unfold State.portTick
  extract_lets s₁ s₂ s₃ s₄ s₅ s₆ s₇
  have h₂ : Undisturbed s₀ s₂ := h.limitTick.holdTick.holdTick.modelTick.modelTick
  have h₅ : Undisturbed s₀ s₅ := h₂.portPolicy.settleBands.updPort.matrixStep
  have h₆ : Undisturbed s₀ s₆ := .ite h₅.finishStopping.portPolicy h₅
  have h₇ : Undisturbed s₀ s₇ := .ite h₆.drainSwap h₆
  exact .ite h₇.foldTick.scaleTick.gainTick h₇

/-! ## The ring (R356-R381) -/

theorem Undisturbed.updRing {side : Side} {g : RingPort → RingPort} (h : Undisturbed s₀ s) : Undisturbed s₀ (s.updRing side g) :=
  h.keeps (State.updRing_keeps (.refl [.ring] s) side g (by decide))

theorem Undisturbed.ringKick {side : Side} (h : Undisturbed s₀ s) : Undisturbed s₀ (s.ringKick side) :=
  h.keeps (State.ringKick_keeps (.refl [.out, .ring] s) side (by decide) (by decide))

theorem Undisturbed.ringDrive {on : Bool} (h : Undisturbed s₀ s) : Undisturbed s₀ (s.ringDrive on) :=
  h.keeps (State.ringDrive_keeps (.refl [.ring] s) on (by decide))

theorem Undisturbed.ringAbandon (h : Undisturbed s₀ s) : Undisturbed s₀ s.ringAbandon := by
  unfold State.ringAbandon
  split
  · exact h.update.endSwap
  · exact h

theorem Undisturbed.ringExtract (h : Undisturbed s₀ s) : Undisturbed s₀ s.ringExtract := by
  unfold State.ringExtract
  extract_lets u
  have hu : Undisturbed s₀ u := h.ringAbandon.enterRing
  exact .ite h (.ite h.ringDrive (.ite hu.ringDrive hu))

theorem Undisturbed.ringRelease {st : RingState} (h : Undisturbed s₀ s) : Undisturbed s₀ (s.ringRelease st) :=
  h.ringAbandon.ringDrive.enterRing

theorem Undisturbed.ringLost {side : Side} (h : Undisturbed s₀ s) : Undisturbed s₀ (s.ringLost side) := by
  unfold State.ringLost
  extract_lets o u
  have hu : Undisturbed s₀ u := h.updRing
  split
  · exact .ite hu.updRing.emit.ringKick hu
  · exact hu

theorem Undisturbed.setRingLink {side : Side} {st : RingLink} (h : Undisturbed s₀ s) : Undisturbed s₀ (s.setRingLink side st) := by
  unfold State.setRingLink
  extract_lets x u v
  have hu : Undisturbed s₀ u := .ite h.ringLost h
  have hv : Undisturbed s₀ v := hu.updRing
  exact hv.update

theorem Undisturbed.settleRingPins (h : Undisturbed s₀ s) : Undisturbed s₀ s.settleRingPins := by
  unfold State.settleRingPins
  exact h.each fun _ _ hu => .ite hu.setRingLink (.ite hu.setRingLink hu)

theorem Undisturbed.ringTick (h : Undisturbed s₀ s) : Undisturbed s₀ s.ringTick := by
  unfold State.ringTick
  extract_lets v _ _ _ u
  have hv : Undisturbed s₀ v := h.ringExtract
  have hreleased : Undisturbed s₀ (s.ringRelease .bypassed) := h.ringRelease
  have hu : Undisturbed s₀ u := .ite h (.ite (.ite hv.update hv) (.ite (.ite h hreleased.update) (.ite h.update h)))
  exact hu.settleRingPins

/-! ## Trip matrix and command channel (R297-R316) -/

theorem Undisturbed.settleOutput (h : Undisturbed s₀ s) : Undisturbed s₀ (s.settleOutput n) := by
  unfold State.settleOutput
  extract_lets x live put
  have hput : ∀ y, Undisturbed s₀ (put s y) := fun _ => h.update
  exact .ite (.ite (hput _) h) (.ite (.ite h (hput _).bump) (.ite (hput _) h))

theorem Undisturbed.radiate {first : Nat} {points : List (List PlacePoint)} (h : Undisturbed s₀ s) :
    Undisturbed s₀ (s.radiate p l first points) := h.keeps (State.radiate_keeps (.refl [.out] s) p l first points (by decide))

theorem Undisturbed.startCommand {kind : CommandKind} (h : Undisturbed s₀ s) : Undisturbed s₀ (s.startCommand p k n kind) := by
  unfold State.startCommand
  extract_lets x st y tag left u cell v w w' w''
  have hw : Undisturbed s₀ w := h.updLink.setCell.bump
  have hw' : Undisturbed s₀ w' := by
    unfold w'
    split
    · exact hw.radiate
    · exact hw
  exact .ite hw'.emit.bump hw'.emit

theorem Undisturbed.limitLink (h : Undisturbed s₀ s) : Undisturbed s₀ (s.limitLink p k) := by
  unfold State.limitLink
  exact .ite h h.updLink.bump

theorem Undisturbed.commandNext (h : Undisturbed s₀ s) : Undisturbed s₀ (s.commandNext p) := by
  have hgo : ∀ (wants : List (Nat × CommandKind)) {u : State}, Undisturbed s₀ u → Undisturbed s₀ (State.commandNext.go p u wants) := by
    intro wants
    induction wants with
    | nil => exact fun hu => hu
    | cons want wants ih =>
      intro u hu
      unfold State.commandNext.go
      split
      · exact .ite hu.startCommand (ih hu)
      · exact ih hu.limitLink
  unfold State.commandNext
  exact .ite (hgo _ h) h

theorem Undisturbed.changeDue (h : Undisturbed s₀ s) : Undisturbed s₀ (s.changeDue p k) := by
  unfold State.changeDue
  extract_lets x u
  have hu : Undisturbed s₀ u := h.setCell
  split
  · exact hu
  · exact .ite (.ite hu hu.bump) hu.cutCommand

theorem Undisturbed.settleStates (h : Undisturbed s₀ s) : Undisturbed s₀ (s.settleStates p k) := by
  unfold State.settleStates
  exact .ite h (.ite (.ite h.setCell h) (.ite h h.changeDue))

theorem Undisturbed.settleLink {quiet : Bool} (h : Undisturbed s₀ s) : Undisturbed s₀ (s.settleLink p quiet k) := by
  unfold State.settleLink
  extract_lets x ss rs warn fresh u _ u' u''
  have hu : Undisturbed s₀ u := h.updLink
  have hu' : Undisturbed s₀ u' := .ite hu hu.setCell
  have hu'' : Undisturbed s₀ u'' := .ite hu'.bump.event hu'
  exact .ite hu''.event hu''

theorem Undisturbed.settleMatrix (h : Undisturbed s₀ s) : Undisturbed s₀ s.settleMatrix := by
  unfold State.settleMatrix
  refine (h.each fun _ _ hu => hu.settleOutput).each fun v p hv => ?_
  extract_lets driven _ w
  have hw : Undisturbed s₀ w := .ite hv hv.setCell
  exact (hw.each fun _ _ hz => hz.settleStates).commandNext

theorem Undisturbed.settleCommand (h : Undisturbed s₀ s) : Undisturbed s₀ s.settleCommand :=
  (h.each fun _ _ hu => hu.each fun _ _ hv => hv.settleLink).settleMatrix

/-! ## Grants of the cipher engine and the check units (R332-R361) -/

theorem Undisturbed.startJob {j : CipherJob} (h : Undisturbed s₀ s) : Undisturbed s₀ (s.startJob n j) := by
  unfold State.startJob
  extract_lets x slot counts ctx iv u v
  split
  · exact (Undisturbed.ite h.bump h).refuseJob
  · have hu : Undisturbed s₀ u := .ite h.setSlot h
    have hv : Undisturbed s₀ v := .ite hu.setCtx hu
    exact .ite h.setSlot.bump.settleCommand.refuseJob hv.consumeRing.setJob

theorem Undisturbed.grantJob {used : Table Nat} (h : Undisturbed s₀ s) : Undisturbed s₀ (s.grantJob used n).1 := by
  unfold State.grantJob
  split
  · exact h
  · next j _ =>
    extract_lets x mode g u
    have hu : Undisturbed s₀ u := .ite h h.startJob
    split
    · exact h
    · split
      · split
        · exact hu.setJob
        · exact hu
      · exact hu

theorem Undisturbed.takeCipher {x : CipherDesc} {again : Bool} (h : Undisturbed s₀ s) : Undisturbed s₀ (s.takeCipher f x again) := by
  unfold State.takeCipher
  extract_lets id onFail refusal j _ _ u _ v
  have hu : Undisturbed s₀ u := h.update
  have hv : Undisturbed s₀ v := .ite hu.setPage hu
  clear_value v refusal
  cases refusal with
  | some _ => exact .ite hv hv.refuseJob
  | none => exact hv

theorem Undisturbed.cipherTick (h : Undisturbed s₀ s) : Undisturbed s₀ s.cipherTick := by
  unfold State.cipherTick
  have hcores : Undisturbed s₀ s.coresTick := h.update.each fun _ _ hv => hv.takeCipher
  exact .ite (.foldl (fun _ _ ha => ha.grantJob) hcores) h

theorem Undisturbed.closeCheck (h : Undisturbed s₀ s) : Undisturbed s₀ (s.closeCheck f n) :=
  h.keeps (State.closeCheck_keeps (.refl [.pages] s) f n (by decide))

theorem Undisturbed.dispatchCheck {x : CheckPart} (h : Undisturbed s₀ s) : Undisturbed s₀ (s.dispatchCheck x) := by
  unfold State.dispatchCheck
  extract_lets y ctx v u
  split
  · exact h.failCheck
  · have hu : Undisturbed s₀ u := .ite h.setCheck h
    exact .ite hu.consumeRing.putCheck (.ite h.closeCheck.failCheck h.setCheck.consumeRing.putCheck)

theorem Undisturbed.grantCheck {used : Table Nat} {x : CheckPart} (h : Undisturbed s₀ s) : Undisturbed s₀ (s.grantCheck used x).1 := by
  unfold State.grantCheck
  extract_lets fit cells
  split
  · exact h
  · extract_lets g y u
    have hu : Undisturbed s₀ u := h.putCheck
    exact .ite hu hu.dispatchCheck

theorem Undisturbed.checkTick (h : Undisturbed s₀ s) : Undisturbed s₀ s.checkTick := by
  unfold State.checkTick
  exact .ite (.foldl (fun _ _ ha => ha.grantCheck) h) h

/-! ## Rails, banks and the event log (R432, R441, R449) -/

theorem Undisturbed.stepRail (h : Undisturbed s₀ s) : Undisturbed s₀ (s.stepRail n) := by
  unfold State.stepRail
  dsimp only
  split
  · exact h
  · exact (h.each fun _ _ hu => hu.setDomain).event

theorem Undisturbed.stepRails (h : Undisturbed s₀ s) : Undisturbed s₀ s.stepRails := .ite (h.each fun _ _ hu => hu.stepRail) h

theorem Undisturbed.switchBank (h : Undisturbed s₀ s) : Undisturbed s₀ s.switchBank := by
  unfold State.switchBank
  split
  · exact .ite h.update.endSwap h
  · exact h

theorem Undisturbed.mailRecord {x : LogRecord} (h : Undisturbed s₀ s) : Undisturbed s₀ (s.mailRecord x f) :=
  h.keeps (State.mailRecord_keeps (.refl [.out, .pages] s) x f (by decide) (by decide))

theorem Undisturbed.writeRecord {x : LogRecord} (h : Undisturbed s₀ s) : Undisturbed s₀ (s.writeRecord x) := by
  unfold State.writeRecord
  exact .ite h (h.update.each fun _ _ hu => hu.mailRecord)

theorem Undisturbed.flushStage (h : Undisturbed s₀ s) : Undisturbed s₀ s.flushStage := by
  unfold State.flushStage
  exact h.update.each fun _ _ hu => hu.writeRecord

end Operations
end Sys2Proof.Machine
end

section
/-! Requests that a mailbox brings (R50, R51): what serving the one in turn does, and what its answer leaves. -/

set_option Elab.async false

namespace Sys2Proof.Machine

section Requests

variable {s u : State} {k : Service} {n : Nat} {r : Request}

theorem State.Mailbox.upTo (h : s.Mailbox k n r) (t : Nat) : (s.upTo t).Mailbox k n r :=
  ⟨h.next, h.waiting, h.serves, h.service, h.who, h.function, h.kept⟩

theorem State.Mailbox.serve (h : s.Mailbox k n r) (found : Option BankCheck) : s.serve k found = (s.takeNext n).perform r found := by
  simp only [State.serve, h.next, h.waiting, h.serves, h.service, and_self, if_true]

/-- A mailbox's request leaves its page, and the turn passes on. -/
theorem State.takeNext_mailbox (s : State) (hn : n < 64) :
    s.takeNext n = { s with mgr := { s.mgr with turn := (n + 1) % 65 } }.setPage n { s.page n with req := none } :=
  if_neg (Nat.ne_of_lt hn)

theorem State.mailboxDone_kept (m : Bytes) (h : (s.page n).discard = false) : s.mailboxDone n m =
    if (s.page n).irqEn = true then
      (s.setPage n { s.page n with busy := false, done := true, rspBuf := m, rspLen := m.length }).emit (.msix n (s.page n).vector)
    else s.setPage n { s.page n with busy := false, done := true, rspBuf := m, rspLen := m.length } :=
  if_neg (by simp [h])

/-- A mailbox's request is answered to its page. -/
theorem State.respond_mailbox (u : State) (hwho : r.who = n) (hn : n < 64) (status : Nat) (rest : Bytes) :
    u.respond r status rest = u.mailboxDone n (u.response r status rest) := by
  unfold State.respond State.response
  rw [hwho, if_pos hn]

/-- The answer to a request that has been taken, from a state with the pages and the manager as they were then. -/
theorem State.Mailbox.answered (h : s.Mailbox k n r) (hpages : u.pages = (s.takeNext n).pages) (hmgr : u.mgr = (s.takeNext n).mgr)
    (hout : u.out = s.out) (status : Nat) (rest : Bytes) :
    s.Answered (u.respond r status rest) n (s.response r status rest) := by
  rw [s.takeNext_mailbox h.function] at hpages hmgr
  have hturn : u.mgr = { s.mgr with turn := (n + 1) % 65 } := hmgr
  have hself : u.page n = { s.page n with req := none } := by
    unfold State.page; rw [hpages]; exact Table.get_put_self _ _ _
  have hother : ∀ q, q ≠ n → u.page q = s.page q := fun q hq => by
    unfold State.page; rw [hpages]; exact Table.get_put_ne _ _ hq
  have hmessage : u.response r status rest = s.response r status rest := by unfold State.response; rw [hturn]
  have hkept : (u.page n).discard = false := by rw [hself]; exact h.kept
  rw [u.respond_mailbox h.who h.function, u.mailboxDone_kept _ hkept, hmessage, hself]
  constructor
  case page => split <;> simp
  case others =>
    intro q hq
    split <;> simp [State.page_setPage_ne _ _ _ hq, hother q hq]
  case turn => split <;> simp [hturn]
  case out => split <;> simp [hout, State.emit]

/-- The counter's stand at a command's time bears on no answer. -/
theorem State.Answered.of_upTo {t status : Nat} {rest : Bytes} (h : (s.upTo t).Answered u n ((s.upTo t).response r status rest)) :
    s.Answered u n (s.response r status rest) := ⟨h.page, h.others, h.turn, h.out⟩

/-- What the answer to a mailbox changes besides what has been done before. -/
theorem State.Mailbox.respond_keeps {ps : List Part} {s₀ : State} (h : s.Mailbox k n r) (hu : Keeps ps s₀ u) (status : Nat) (rest : Bytes)
    (hout : Part.out ∈ ps) (hpages : Part.pages ∈ ps) : Keeps ps s₀ (u.respond r status rest) := by
  rw [u.respond_mailbox h.who h.function]
  exact State.mailboxDone_keeps hu n _

end Requests
end Sys2Proof.Machine
end

section
/-! A write of station time, 1200.07 (R78). -/

set_option Elab.async false

namespace Sys2Proof.Machine

section Write

variable (s : State) {r : Request} {w : WriteRec}

theorem ite_ne_of_ne {α : Type} {c : Prop} [Decidable c] {a b x : α} (ha : a ≠ x) (hb : b ≠ x) : (if c then a else b) ≠ x := by
  split
  · exact ha
  · exact hb

/-- Only the row of 1200.07 is SET_STATION_TIME's. -/
theorem key_of_writeService_setTime (h : writeService w = .setTime) : w.key = keyOf 0x1200 7 := by
  by_contra hkey
  unfold writeService at h
  dsimp only at h
  rw [if_neg hkey] at h
  revert h
  repeat refine ite_ne_of_ne (by decide) ?_
  decide

theorem Request.of_service_setTime (h : r.service = .setTime) : r.type = 2 ∧ (writeRecOf r.body).key = keyOf 0x1200 7 := by
  unfold Request.service at h
  split_ifs at h with _ htype
  exact ⟨htype, key_of_writeService_setTime h⟩

theorem Request.recs_write (htype : r.type = 2) : r.recs = [writeRecOf r.body] := if_pos htype

theorem refusalRest_write (htype : r.type = 2) (failing : Nat) : refusalRest r failing = slice r.body 0 3 ++ [0] := by
  unfold refusalRest
  rw [if_neg (by omega), if_pos htype]

/-- 1200.07 can be written and never read (R78); an entry that is not there has no right. -/
theorem State.right_setTime (hkey : w.key = keyOf 0x1200 7) : s.right w = .wo ∨ s.right w = .const := by
  have haccess : ∀ v, (descOf v (keyOf 0x1200 7)).map Desc.access = some .wo := by
    intro v
    cases v <;> rfl
  unfold State.right
  split
  next d hd =>
    unfold State.entry at hd
    split at hd
    · cases hd
    · have hwo := haccess s.variant
      rw [← hkey, WriteRec.key, hd] at hwo
      exact .inl (Option.some.inj hwo)
  next => exact .inr rfl

/-- Station time is to be set at the next boundary. -/
def State.setTimeTo (s : State) (v : Nat) : State := { s with time := { s.time with setTo := some v } }

theorem State.accept_setTime (hkey : w.key = keyOf 0x1200 7) (who : Nat) (found : Option BankCheck) :
    s.accept who found w = s.setTimeTo (ofBE w.value) := by
  unfold State.accept
  rcases s.right_setTime hkey with hright | hright <;> simp only [hright, if_pos hkey, State.setTimeTo]

/-- Tests 3 to 13 of a WRITE (R472). -/
def State.earlierTests (s : State) (r : Request) (w : WriteRec) : Option (Nat × Nat) :=
  (firstCode 0 [s.writeCode r w]).orElse fun _ =>
  (firstCode 0 [s.mixedCode r w w]).orElse fun _ =>
  (firstCode 0 [s.runningCode w]).orElse fun _ =>
  (firstCode 0 [s.quiesceCode w]).orElse fun _ =>
  (firstCode 0 [s.stageCode r [w] 0 w]).orElse fun _ => firstCode 0 [s.commitTest r w]

/-- Station time's state bears on test 14 alone: only a state that a source disciplines refuses the write. -/
theorem State.writeTests_setTime (hkey : w.key = keyOf 0x1200 7) : s.writeTests r [w] =
    (s.earlierTests r w).orElse fun _ => firstCode 0 [failIf (disciplined s.time.state) acInconsistent] := by
  have hcross : ∀ v, s.crossCode v w = failIf (disciplined s.time.state) acInconsistent := fun v => by
    unfold State.crossCode
    dsimp only
    rw [if_neg (by rw [hkey]; decide), if_pos hkey]
  unfold State.writeTests State.earlierTests
  have hzip : [w].zip (List.range [w].length) = [(w, 0)] := rfl
  simp only [List.map_cons, List.map_nil, List.head?_cons, Option.getD_some, hcross, hzip, Option.orElse_eq_or, Option.or_assoc]

theorem State.earlierTests_time (x : TimeBase) : ({ s with time := x } : State).earlierTests r w = s.earlierTests r w := rfl

theorem State.performWrite_setTime (htype : r.type = 2) (hkey : (writeRecOf r.body).key = keyOf 0x1200 7)
    (hpass : s.writeTests r [writeRecOf r.body] = none) (found : Option BankCheck) : s.performWrite r found =
      (s.setTimeTo (ofBE (writeRecOf r.body).value)).respond r 0 (slice r.body 0 3 ++ [0]) := by
  have hquiet : (s.right (writeRecOf r.body) == .rwq) = false := by
    rcases s.right_setTime hkey with hright | hright <;> rw [hright] <;> rfl
  unfold State.performWrite
  simp only [hpass, Request.recs_write htype, State.each, List.foldl_cons, List.foldl_nil, s.accept_setTime hkey, List.any_cons, List.any_nil,
    hquiet, Bool.or_self, writeRest, refusalRest_write htype]
  rfl

theorem State.performWrite_setTime_refused (htype : r.type = 2) (hkey : (writeRecOf r.body).key = keyOf 0x1200 7) {code : Nat}
    (hfail : s.writeTests r [writeRecOf r.body] = some (0, code)) (found : Option BankCheck) :
    s.performWrite r found = s.respond r code (slice r.body 0 3 ++ [0]) := by
  have himage : s.noteImage (writeRecOf r.body) code = s := by
    refine if_neg fun ⟨hidx, hsub⟩ => ?_
    unfold WriteRec.key keyOf at hkey
    omega
  unfold State.performWrite
  simp only [Request.recs_write htype, hfail, List.getElem?_cons_zero, State.refuse, refusalRest_write htype, himage]
  rw [if_neg fun ⟨hcommit, _⟩ => absurd (hkey.symm.trans hcommit) (by decide)]

end Write

theorem exec_setStationTime {s : State} (t : Nat) (hp : s.rst.powered = true) {n : Nat} {r : Request} (h : s.Mailbox .setTime n r) :
    exec (.setStationTime t) s = .next (((s.upTo t).takeNext n).performWrite r none) := by
  calc exec (.setStationTime t) s
      = .next ((s.upTo t).serve .setTime none) := State.run_powered hp t fun s => s.serve .setTime none
    _ = .next (((s.upTo t).takeNext n).perform r none) := by rw [(h.upTo t).serve]
    _ = _ := by rw [State.perform, h.service]

/-- Taking a request touches the manager's turn and the mailbox. -/
theorem State.takeNext_changes (s : State) (n : Nat) : Keeps [.mgr, .pages] s (s.takeNext n) :=
  State.takeNext_keeps (.refl _ _) n (by decide) (by decide)

/-- A write of station time that passes its tests waits for the boundary. -/
theorem exec_setStationTime_accepted {s : State} {t n : Nat} {r : Request} (hp : s.rst.powered = true) (h : s.Mailbox .setTime n r)
    (hpass : ((s.upTo t).takeNext n).writeTests r r.recs = none) :
    ∃ u, exec (.setStationTime t) s = .next u ∧ Did t [.out, .mgr, .time, .pages] s u ∧
      u.time = { s.time with setTo := some (ofBE (writeRecOf r.body).value) } ∧
      s.Answered u n (s.response r 0 (slice r.body 0 3 ++ [0])) := by
  obtain ⟨htype, hkey⟩ := Request.of_service_setTime h.service
  rw [Request.recs_write htype] at hpass
  have htaken := (s.upTo t).takeNext_changes n
  have htime : ((s.upTo t).takeNext n).time = s.time := htaken.frame .time (by decide)
  have hout : ((s.upTo t).takeNext n).out = s.out := htaken.frame .out (by decide)
  let v := ((s.upTo t).takeNext n).setTimeTo (ofBE (writeRecOf r.body).value)
  have hset : Keeps [.out, .mgr, .time, .pages] (s.upTo t) v :=
    Keeps.record (State.takeNext_keeps (.refl _ _) n (by decide) (by decide))
      rfl rfl rfl rfl rfl rfl rfl rfl rfl rfl rfl rfl rfl rfl rfl rfl rfl rfl rfl
  have hanswer := h.respond_keeps (.refl [.out, .pages] v) 0 (slice r.body 0 3 ++ [0]) (by decide) (by decide)
  have hanswered := (h.upTo t).answered (u := v) rfl rfl hout 0 (slice r.body 0 3 ++ [0])
  have hv : v.time = { s.time with setTo := some (ofBE (writeRecOf r.body).value) } := by
    rw [← htime]; rfl
  refine ⟨v.respond r 0 (slice r.body 0 3 ++ [0]), ?_,
    Did.of_keeps (h.respond_keeps hset 0 _ (by decide) (by decide)) (by decide), ?_, hanswered.of_upTo⟩
  · rw [exec_setStationTime t hp h, State.performWrite_setTime _ htype hkey hpass]
  · exact (hanswer.frame .time (by decide)).trans hv

/-- A write of station time that a discipline alone refuses is answered INCONSISTENT. -/
theorem exec_setStationTime_disciplined {s : State} {t n : Nat} {r : Request} (hp : s.rst.powered = true) (h : s.Mailbox .setTime n r)
    (hstate : disciplined s.time.state = true)
    (hpass : ((({ s with time := { s.time with state := .set } } : State).upTo t).takeNext n).writeTests r r.recs = none) :
    ∃ u, exec (.setStationTime t) s = .next u ∧ Did t [.out, .mgr, .pages] s u ∧
      s.Answered u n (s.response r 0x0010 (slice r.body 0 3 ++ [0])) := by
  obtain ⟨htype, hkey⟩ := Request.of_service_setTime h.service
  have htaken := (s.upTo t).takeNext_changes n
  have hout : ((s.upTo t).takeNext n).out = s.out := htaken.frame .out (by decide)
  have hset : (({ s with time := { s.time with state := .set } } : State).upTo t).takeNext n =
      { (s.upTo t).takeNext n with time := { s.time with state := .set } } := by
    rw [State.takeNext_mailbox _ h.function, State.takeNext_mailbox _ h.function]; rfl
  have hearlier : ((s.upTo t).takeNext n).earlierTests r (writeRecOf r.body) = none := by
    rw [Request.recs_write htype, hset, State.writeTests_setTime _ hkey, State.earlierTests_time] at hpass
    exact (Option.or_eq_none_iff.mp (Option.orElse_eq_or.symm.trans hpass)).1
  have hfail : ((s.upTo t).takeNext n).writeTests r [writeRecOf r.body] = some (0, acInconsistent) := by
    rw [State.writeTests_setTime _ hkey, hearlier, show ((s.upTo t).takeNext n).time = s.time from htaken.frame .time (by decide), hstate]
    rfl
  rw [exec_setStationTime t hp h, State.performWrite_setTime_refused _ htype hkey hfail]
  exact ⟨_, rfl, Did.of_keeps (h.respond_keeps (State.takeNext_keeps (.refl _ _) n (by decide) (by decide)) _ _ (by decide) (by decide))
    (by decide), ((h.upTo t).answered rfl rfl hout 0x0010 _).of_upTo⟩

end Sys2Proof.Machine
end

section
/-! The beat boundary at which a written station time is in force (R78, R83): what its four steps leave where nothing else waits. -/

set_option Elab.async false

namespace Sys2Proof.Machine

section Boundary

variable {s₀ s : State}

/-! ## Steps 1 and 2: outstanding items, shadow loads and actions -/

/-- The overrun handling of a boundary, to which no block reports. -/
def State.overrunHandled (s : State) : State := s.returnGrants.engineEnd.checkEnd.clearCarried []

theorem State.overrunHandled_changes (s : State) :
    Keeps [.out, .dict, .hier, .log, .pages, .cipher, .checkParts] s s.overrunHandled := by
  apply State.clearCarried_keeps
  case h0 =>
    apply State.checkEnd_keeps
    case h0 =>
      apply State.engineEnd_keeps
      case h0 => exact State.returnGrants_keeps (.refl _ _) (by decide) (by decide)
      all_goals decide
    all_goals decide
  all_goals decide

theorem Undisturbed.overrunHandled (h : Undisturbed s₀ s) : Undisturbed s₀ s.overrunHandled := by
  have hgrants : Undisturbed s₀ s.returnGrants := h.keeps (State.returnGrants_keeps (.refl [.out, .hier] s) (by decide) (by decide))
  exact hgrants.engineEnd.checkEnd.keeps (State.clearCarried_keeps (.refl [.hier] _) [] (by decide))

/-- The values and actions that a beat has left for the boundary that ends it (R42, R83). -/
structure State.NothingWritten (s : State) : Prop where
  values : s.written = []
  bumps : s.mgr.bumps = 0
  actions : s.mgr.actions = []
  commit : s.mgr.commit = none
  staging : s.mgr.stagingState ≠ 2

theorem State.NothingWritten.lateCommit (h : s.NothingWritten) : s.lateCommit = s := by
  unfold State.lateCommit; rw [h.commit]

theorem State.NothingWritten.activateCommit (h : s.NothingWritten) : s.activateCommit = s := if_neg fun hdue => h.staging hdue.1

theorem State.NothingWritten.loadWritten (h : s.NothingWritten) : s.loadWritten = s := if_pos ⟨h.values, h.bumps⟩

theorem State.NothingWritten.actAll (h : s.NothingWritten) : s.actAll = s := by
  have hmgr : { s.mgr with actions := [] } = s.mgr := by rw [← h.actions]
  unfold State.actAll
  rw [h.actions, hmgr]
  rfl

theorem State.NothingWritten.overrunHandled (h : s.NothingWritten) : s.overrunHandled.NothingWritten := by
  have hwritten : s.overrunHandled.written = s.written := s.overrunHandled_changes.frame .written (by decide)
  have hmgr : s.overrunHandled.mgr = s.mgr := s.overrunHandled_changes.frame .mgr (by decide)
  constructor
  case values => rw [hwritten, h.values]
  all_goals rw [hmgr]
  case bumps => exact h.bumps
  case actions => exact h.actions
  case commit => exact h.commit
  case staging => exact h.staging

/-- Of what was written only the window records are left to take effect. -/
theorem State.NothingWritten.boundaryLoads (h : s.NothingWritten) : s.boundaryLoads [] = s.overrunHandled.applyRecords := by
  have hquiet := h.overrunHandled
  calc s.boundaryLoads [] = s.overrunHandled.lateCommit.activateCommit.loadWritten.actAll.applyRecords := rfl
    _ = _ := by rw [hquiet.lateCommit, hquiet.activateCommit, hquiet.loadWritten, hquiet.actAll]

theorem State.NothingWritten.boundaryLoads_undisturbed (h : s.NothingWritten) : Undisturbed s (s.boundaryLoads []) := by
  rw [h.boundaryLoads]
  exact (Undisturbed.refl s).overrunHandled.applyRecords

/-! ## Step 3: station time -/

/-- Station time as a written value sets it: the state is SET, and PPS_IN must qualify anew (R78, R79). -/
def TimeBase.setAt (x : TimeBase) (v tsc : Nat) : TimeBase :=
  { x with offset := (v : Int) - (tsc : Int), state := .set, setTo := none, next := none, ppsOk := false, ppsEdges := 0, lastPps := none,
           ppsError := none }

/-- The state that a boundary leaves once a written time is in force, with PPS_OUT high until `edge`. -/
def State.timeSetAt (s : State) (v edge : Nat) : State :=
  { s.logOffset s.time.offset ((v : Int) - (s.tsc : Int)) with time := { s.time.setAt v s.tsc with ppsOutUntil := edge } }

theorem State.logOffset_time (s : State) (old new : Int) : (s.logOffset old new).time = s.time := rfl

theorem State.settlePpsOut_eq (s : State) : ∃ edge, s.settlePpsOut = { s with time := { s.time with ppsOutUntil := edge } } := by
  unfold State.settlePpsOut
  split
  · exact ⟨_, rfl⟩
  · exact ⟨0, rfl⟩

theorem State.timeBoundary_set {v : Nat} (hstep : s.time.step = none) (hset : s.time.setTo = some v) (hnext : s.time.next ≠ some .ptp) :
    ∃ edge, s.timeBoundary = s.timeSetAt v edge := by
  have hboundary : s.timeBoundary =
      (({ s with time := s.time.setAt v s.tsc } : State).logOffset s.time.offset ((v : Int) - (s.tsc : Int))).settlePpsOut := by
    unfold State.timeBoundary
    simp only [hstep, hset, if_neg hnext, State.logOffset_time, TimeBase.setAt]
  obtain ⟨edge, hedge⟩ := State.settlePpsOut_eq
    (({ s with time := s.time.setAt v s.tsc } : State).logOffset s.time.offset ((v : Int) - (s.tsc : Int)))
  exact ⟨edge, hboundary.trans hedge⟩

/-- The event of a change of station time's offset from 0x5080 (R77, R78). -/
def offsetEvent (tsc : Nat) (old new : Int) : EventIn := ⟨tsc, 0x5080, 0x0401, 1, toBE 8 (unsigned 64 old) ++ toBE 8 (unsigned 64 new)⟩

theorem State.timeSetAt_detected (s : State) (v edge : Nat) :
    offsetEvent s.tsc s.time.offset ((v : Int) - (s.tsc : Int)) ∈ (s.timeSetAt v edge).log.detected :=
  List.mem_append_right _ (List.mem_singleton_self _)

/-- The tether's sample and the frames on the line come after station time. -/
theorem State.boundarySample_undisturbed (s : State) : Undisturbed s.timeBoundary s.boundarySample :=
  ((Undisturbed.refl _).keeps (State.tetherBoundary_keeps (.refl [.tether] _) (by decide))).keeps
    (State.freezeSets_keeps (.refl [.out, .lanes] _) s.tether.sample.valid (by decide) (by decide))

/-! ## Step 4: the new beat's work -/

theorem Undisturbed.showBlocks (h : Undisturbed s₀ s) : Undisturbed s₀ s.showBlocks := h.update

theorem Undisturbed.boundaryWork (h : Undisturbed s₀ s) (hextract : s.rst.extractAt = none) : Undisturbed s₀ (s.boundaryWork [] []) := by
  have hfabric : Undisturbed s s.fabricTick := (Undisturbed.refl s).keeps (State.fabricTick_keeps (.refl [.hier] s) (by decide))
  have hstays : s.fabricTick.extractTick = s.fabricTick :=
    if_neg fun hdue => by rw [hfabric.extractAt, hextract] at hdue; exact absurd hdue.1 (by decide)
  unfold State.boundaryWork
  extract_lets u u₁ u₂ u₃ u₄
  have hu₁ : Undisturbed s₀ u₁ := by
    show Undisturbed s₀ s.fabricTick.extractTick.reselectAll.waitingProbes
    rw [hstays]
    exact (h.trans hfabric).reselectAll.waitingProbes
  have hu₂ : Undisturbed s₀ u₂ := hu₁.each fun _ _ hv => hv.admitWaiting
  have hu₃ : Undisturbed s₀ u₃ := hu₂.each fun _ _ hv => hv.portTick
  have hu₄ : Undisturbed s₀ u₄ := hu₃.ringTick.cipherTick.checkTick.poolTick
  exact hu₄.stepRails.switchBank.settleCommand.flushStage.showBlocks

theorem State.resetTick_none (h : s.rst.requested = none) : s.resetTick = s := by
  unfold State.resetTick; rw [h]

/-! ## The boundary -/

/-- A boundary at which a written time waits, and nothing that was written else. -/
theorem State.boundary_setsTime {v : Nat} (hquiet : s.NothingWritten) (hstep : s.time.step = none) (hset : s.time.setTo = some v)
    (hnext : s.time.next ≠ some .ptp) (hextract : s.rst.extractAt = none) :
    ∃ b edge, Undisturbed s b ∧ Undisturbed (b.timeSetAt v edge) ((s.boundaryLoads []).boundarySample.boundaryWork [] []) := by
  have hloads := hquiet.boundaryLoads_undisturbed
  generalize s.boundaryLoads [] = b at hloads
  rw [← hloads.time] at hstep hset hnext
  obtain ⟨edge, htime⟩ := State.timeBoundary_set hstep hset hnext
  have hsample : Undisturbed (b.timeSetAt v edge) b.boundarySample := htime ▸ b.boundarySample_undisturbed
  exact ⟨b, edge, hloads, hsample.boundaryWork (hsample.extractAt.trans (hloads.extractAt.trans hextract))⟩

/-- What a boundary does to station time where nothing else waits for it but a written time. -/
theorem exec_beatBoundary_setsTime {n v : Nat} (hp : s.rst.powered = true) (hset : s.time.setTo = some v) (hstep : s.time.step = none)
    (hquiet : s.NothingWritten) (hnext : s.time.next ≠ some .ptp) (hextract : s.rst.extractAt = none)
    (hrequested : s.rst.requested = none) :
    ∃ u edge, exec (.beatBoundary n [] []) s = .next u ∧ u.tsc = max s.tsc (40000 * n) ∧
      u.time = { s.time.setAt v (max s.tsc (40000 * n)) with ppsOutUntil := edge } ∧ u.val 0x1200 0x12 = s.val 0x1200 0x12 ∧
      offsetEvent (max s.tsc (40000 * n)) s.time.offset ((v : Int) - (max s.tsc (40000 * n) : Nat)) ∈ u.log.detected := by
  have hquiet' : (s.upTo (beatNs * n)).NothingWritten := ⟨hquiet.values, hquiet.bumps, hquiet.actions, hquiet.commit, hquiet.staging⟩
  obtain ⟨b, edge, hloads, hwork⟩ := State.boundary_setsTime hquiet' hstep hset hnext hextract
  have hexec : exec (.beatBoundary n [] []) s =
      .next (((s.upTo (beatNs * n)).boundaryLoads []).boundarySample.boundaryWork [] []).resetTick :=
    State.run_powered hp (beatNs * n) fun u => (((u.boundaryLoads []).boundarySample).boundaryWork [] []).resetTick
  generalize ((s.upTo (beatNs * n)).boundaryLoads []).boundarySample.boundaryWork [] [] = u at hwork hexec
  have hreset : u.resetTick = u := State.resetTick_none (hwork.requested.trans (hloads.requested.trans hrequested))
  have htsc : b.tsc = max s.tsc (40000 * n) := hloads.tsc
  have htime : b.time = s.time := hloads.time
  refine ⟨u, edge, hreset ▸ hexec, hwork.tsc.trans htsc, ?_, congrArg ofBE (hwork.steps.trans hloads.steps), hwork.detected ?_⟩
  · rw [← htsc, ← htime]
    exact hwork.time
  · rw [← htsc, ← htime]
    exact b.timeSetAt_detected v edge

end Boundary

/-- Settles O8: the write that passes waits, a disciplined state alone refuses it, and at the boundary only step 3 touches station time. -/
theorem stationTimeIsSet : Obligations.StationTimeIsSet := by
  intro s ⟨_, hp⟩
  refine ⟨?_, ?_, ?_⟩
  · rintro t n r w hmail rfl hpass
    exact exec_setStationTime_accepted hp hmail hpass
  · rintro t n r v hmail hstate rfl hpass
    refine exec_setStationTime_disciplined hp hmail ?_ hpass
    rcases hstate with hstate | hstate <;> rw [hstate] <;> rfl
  · intro n v hset hstep hwritten hbumps hactions hcommit hstaging hnext hextract hrequested
    obtain ⟨u, edge, hexec, htsc, htime, hcount, hevent⟩ := exec_beatBoundary_setsTime (n := n) hp hset hstep
      ⟨hwritten, hbumps, hactions, hcommit, hstaging⟩ hnext hextract hrequested
    have hoffset : u.time.offset = (v : Int) - (max s.tsc (40000 * n) : Nat) := by rw [htime]; rfl
    exact ⟨u, hexec, htsc, by rw [htime]; rfl, by rw [htime]; rfl, hoffset, hcount, hoffset ▸ hevent⟩

end Sys2Proof.Machine
end

section
/-! What a function-level reset makes of its function's page, and whose pages, jobs and check parts stay (R344, R418). -/

namespace Sys2Proof.Machine

section FunctionReset

variable (s : State)

theorem State.clearFunction_page (f : Nat) : (s.clearFunction f).page f = (s.page f).cleared :=
  State.page_setPage_self s f (s.page f).cleared

theorem State.clearFunction_page_ne {f g : Nat} (h : g ≠ f) : (s.clearFunction f).page g = s.page g :=
  State.page_setPage_ne s f (s.page f).cleared h

theorem State.clearFunction_cipher (f : Nat) :
    (s.clearFunction f).cipher = { s.cipher with jobs := s.cipher.jobs.filter fun e => e.2.page != f } := rfl

theorem State.clearFunction_checkParts (f : Nat) :
    (s.clearFunction f).checkParts = s.checkParts.filter fun x => x.page != f := rfl

/-- A module that runs clears the function it has. -/
theorem exec_functionLevelReset (t : Nat) {f : Nat} (hp : s.rst.powered = true) (hf : f < 64) :
    exec (.functionLevelReset t f) s = .next ((s.upTo t).clearFunction f) := by
  calc exec (.functionLevelReset t f) s
      = .next (if f < 64 then (s.upTo t).clearFunction f else s.upTo t) :=
        State.run_powered hp t fun s => if f < 64 then s.clearFunction f else s
    _ = .next ((s.upTo t).clearFunction f) := by rw [if_pos hf]

end FunctionReset

/-- Settles O17: on a running module the command is `State.clearFunction`, and the page it leaves is `Page.cleared`. The mailbox's BUSY
and the packets already owned stay by the model's choice (log 30). -/
theorem functionResetClears : Obligations.FunctionResetClears := by
  intro s t f ⟨_, hp⟩ hf
  have hexec := exec_functionLevelReset s t hp hf
  have hothers : ∀ g, g ≠ f → ((s.upTo t).clearFunction f).page g = s.page g := fun g hg =>
    (s.upTo t).clearFunction_page_ne hg
  have hpage : ((s.upTo t).clearFunction f).page f = (s.page f).cleared := (s.upTo t).clearFunction_page f
  refine ⟨(s.upTo t).clearFunction f, hexec, Did.of_keeps (execFunctionLevelReset_keeps t f s hexec) (by decide), hothers, ?_⟩
  rw [hpage, State.clearFunction_cipher, State.clearFunction_checkParts]
  simp only [Page.cleared, State.upTo, and_self]

end Sys2Proof.Machine
end

section
/-! Ageing (R436, R437): an index never falls, whatever a measurement brings, and where the indices are kept. -/

set_option Elab.async false

namespace Sys2Proof.Machine

section Ageing

variable (s : State)

/-! ## One part (R436, R437) -/

/-- The index that a measurement leaves of a part: as measured, where it is not lower (R436, log 72). -/
def State.nextIndex (x : AgeingSample) : Nat :=
  max (wear (Table.get 0xFFFF s.sup.ageing (x.key * 256 + x.slot))) (min 0xFFFE (s.measuredIndex x))

theorem wear_ne_unmeasured (n : Nat) : wear n ≠ 0xFFFF := by
  unfold wear
  split <;> omega

/-- An index is never written as not measured. -/
theorem State.nextIndex_ne_unmeasured (x : AgeingSample) : s.nextIndex x ≠ 0xFFFF := by
  have hold := wear_ne_unmeasured (Table.get 0xFFFF s.sup.ageing (x.key * 256 + x.slot))
  unfold State.nextIndex
  omega

theorem State.requestSwap_ageing (src reason : Nat) : (s.requestSwap src reason).sup.ageing = s.sup.ageing := by
  unfold State.requestSwap
  split <;> rfl

theorem State.requestSwap_measuredAt (src reason : Nat) : (s.requestSwap src reason).sup.measuredAt = s.sup.measuredAt := by
  unfold State.requestSwap
  split <;> rfl

/-- The part's own index is written, and nothing else of the ageing values. -/
theorem State.agePart_sup (x : AgeingSample) (src : Nat) :
    (s.agePart x src).sup.ageing = Table.put 0xFFFF s.sup.ageing (x.key * 256 + x.slot) (s.nextIndex x) ∧
      (s.agePart x src).sup.measuredAt = s.sup.measuredAt := by
  unfold State.agePart
  extract_lets key old new before written crosses data u v
  have hu : u.sup = written.sup := by unfold u; split <;> rfl
  have hv : v.sup = written.sup := hu
  split
  · split
    · rw [hv]; exact ⟨rfl, rfl⟩
    · rw [State.requestSwap_ageing, State.requestSwap_measuredAt, hv]; exact ⟨rfl, rfl⟩
  · rw [hu]; exact ⟨rfl, rfl⟩

theorem State.ageSample_present {x : AgeingSample} (h : s.agedPart x.key x.slot ≠ none) :
    (s.ageSample x).sup.ageing = Table.put 0xFFFF s.sup.ageing (x.key * 256 + x.slot) (s.nextIndex x) := by
  unfold State.ageSample
  split
  · exact (s.agePart_sup x _).1
  · next habsent => exact absurd habsent h

/-! ## All parts of a measurement -/

/-- From one state to the other no index fell, and no measurement began. -/
structure Aged (a b : Supervision) : Prop where
  index : ∀ k, wear (Table.get 0xFFFF a.ageing k) ≤ wear (Table.get 0xFFFF b.ageing k)
  measuredAt : b.measuredAt = a.measuredAt

theorem Aged.refl (a : Supervision) : Aged a a := ⟨fun _ => Nat.le_refl _, rfl⟩

theorem Aged.trans {a b c : Supervision} (h : Aged a b) (k : Aged b c) : Aged a c :=
  ⟨fun j => (h.index j).trans (k.index j), k.measuredAt.trans h.measuredAt⟩

theorem State.agePart_aged (x : AgeingSample) (src : Nat) : Aged s.sup (s.agePart x src).sup := by
  obtain ⟨hageing, hmeasured⟩ := s.agePart_sup x src
  refine ⟨fun k => ?_, hmeasured⟩
  rw [hageing]
  by_cases hk : k = x.key * 256 + x.slot
  · have hnew : wear (s.nextIndex x) = s.nextIndex x := if_neg (s.nextIndex_ne_unmeasured x)
    rw [hk, Table.get_put_self, hnew]
    exact Nat.le_max_left _ _
  · rw [Table.get_put_ne _ _ hk]

theorem State.ageSample_aged (x : AgeingSample) : Aged s.sup (s.ageSample x).sup := by
  unfold State.ageSample
  split
  · exact s.agePart_aged x _
  · exact .refl s.sup

theorem State.each_ageSample_aged (l : List AgeingSample) : Aged s.sup (s.each l State.ageSample).sup := by
  unfold State.each
  induction l generalizing s with
  | nil => exact .refl s.sup
  | cons x l ih => exact (s.ageSample_aged x).trans (ih _)

/-! ## A measurement and its copies (R437) -/

/-- The state in which a measurement begins. -/
def State.measuring : State := { s with sup := { s.sup with measuredAt := s.tsc } }

/-- The indices and margins after a measurement, before they are copied. -/
def State.aged (l : List AgeingSample) : State := (s.measuring.each l State.ageSample).each [1, 2, 3, 4, 5] State.planRail

/-- What a measurement leaves: the indices stand in the backup domain too. -/
def State.ageAll (l : List AgeingSample) : State :=
  { s.aged l with rst := { (s.aged l).rst with backup := { (s.aged l).rst.backup with ageing := (s.aged l).sup.ageing } } }

/-- A rail's margin touches nothing of supervision. -/
theorem State.aged_sup (l : List AgeingSample) : (s.aged l).sup = (s.measuring.each l State.ageSample).sup :=
  have hplan : Keeps [.rst] (s.measuring.each l State.ageSample) (s.aged l) :=
    (Keeps.refl _ _).each fun _ _ => State.planRail_keeps (.refl _ _) _ (by decide)
  hplan.frame .sup (by decide)

theorem State.each_setDomain_flashAgeing {l : List Nat} (f : State → Nat → Domain) :
    (s.each l fun u d => u.setDomain d (f u d)).rst.flashAgeing = s.rst.flashAgeing := by
  unfold State.each
  induction l generalizing s with
  | nil => rfl
  | cons d l ih => exact ih _

theorem State.planRail_flashAgeing (rail : Nat) : (s.planRail rail).rst.flashAgeing = s.rst.flashAgeing :=
  s.each_setDomain_flashAgeing fun u d => { u.domain d with target := max _ (u.domain d).target }

theorem State.aged_flashAgeing (l : List AgeingSample) : (s.aged l).rst.flashAgeing = s.rst.flashAgeing := by
  have hsamples : Keeps [.log, .sup] s.measuring (s.measuring.each l State.ageSample) :=
    (Keeps.refl _ _).each fun _ _ => State.ageSample_keeps (.refl _ _) _ (by decide) (by decide)
  have hrst : (s.measuring.each l State.ageSample).rst = s.rst := hsamples.frame .rst (by decide)
  rw [← hrst, State.aged]
  generalize s.measuring.each l State.ageSample = u
  simp only [State.each, List.foldl_cons, List.foldl_nil, State.planRail_flashAgeing]

theorem State.ageAll_sup (l : List AgeingSample) : (s.ageAll l).sup = (s.measuring.each l State.ageSample).sup := by
  rw [State.ageAll, State.aged_sup]

theorem State.ageAll_backup (l : List AgeingSample) : (s.ageAll l).rst.backup.ageing = (s.ageAll l).sup.ageing := by
  rw [State.ageAll]

theorem State.ageAll_flashAgeing (l : List AgeingSample) : (s.ageAll l).rst.flashAgeing = s.rst.flashAgeing := by
  rw [State.ageAll, State.aged_flashAgeing]

/-- No index falls in a measurement. -/
theorem State.ageAll_aged (l : List AgeingSample) : Aged s.measuring.sup (s.ageAll l).sup := by
  rw [State.ageAll_sup]
  exact s.measuring.each_ageSample_aged l

/-- A measurement of one part writes its index alone. -/
theorem State.ageAll_single {x : AgeingSample} (h : s.agedPart x.key x.slot ≠ none) :
    (s.ageAll [x]).sup.ageing = Table.put 0xFFFF s.sup.ageing (x.key * 256 + x.slot) (s.nextIndex x) := by
  rw [State.ageAll_sup]
  exact s.measuring.ageSample_present h

/-- The indices in flash. -/
def State.ageingFlashed : State := { s with rst := { s.rst with flashAgeing := s.sup.ageing, flashAt := s.tsc } }

variable {s} {t : Nat}

/-! ## The commands -/

theorem execAgeingMeasurement_eq (s : State) (t : Nat) (l : List AgeingSample) : execAgeingMeasurement t l s = s.run t fun s =>
    if s.supervises = true ∧ s.sup.measuredAt + s.val 0x6040 4 * 1000000000 ≤ s.tsc then s.ageAll l else s := by
  unfold execAgeingMeasurement State.ageAll State.aged State.measuring
  with_reducible rfl

theorem exec_ageingMeasurement (hp : s.rst.powered = true) (hup : s.supervises = true) (l : List AgeingSample) :
    exec (.ageingMeasurement t l) s =
      .next (if s.sup.measuredAt + s.val 0x6040 4 * 1000000000 ≤ max s.tsc t then (s.upTo t).ageAll l else s.upTo t) := by
  have hup' : (s.upTo t).supervises = true := hup
  calc exec (.ageingMeasurement t l) s
      = .next (if (s.upTo t).supervises = true ∧
          (s.upTo t).sup.measuredAt + (s.upTo t).val 0x6040 4 * 1000000000 ≤ (s.upTo t).tsc then (s.upTo t).ageAll l else s.upTo t) :=
        (execAgeingMeasurement_eq s t l).trans (State.run_powered hp t _)
    _ = _ := by simp only [hup', true_and, State.upTo_sup, State.upTo_val, State.upTo_tsc]

theorem exec_ageingFlashWrite (hp : s.rst.powered = true) (hup : s.supervises = true) :
    exec (.ageingFlashWrite t) s =
      .next (if s.rst.flashAt + 86400000000000 ≤ max s.tsc t then (s.upTo t).ageingFlashed else s.upTo t) := by
  have hup' : (s.upTo t).supervises = true := hup
  calc exec (.ageingFlashWrite t) s
      = .next (if (s.upTo t).supervises = true ∧ (s.upTo t).rst.flashAt + 86400000000000 ≤ (s.upTo t).tsc
          then (s.upTo t).ageingFlashed else s.upTo t) :=
        State.run_powered hp t fun s =>
          if s.supervises = true ∧ s.rst.flashAt + 86400000000000 ≤ s.tsc then s.ageingFlashed else s
    _ = _ := by simp only [hup', true_and, State.upTo_rst, State.upTo_tsc]

theorem exec_vbatLoss_dark (hp : s.rst.powered = false) : exec (.vbatLoss t) s = .next { s.upTo t with
    rst := { s.rst with backup :=
      { dark := s.rst.backup.dark, ageing := s.rst.flashAgeing, substitutions := s.rst.flashSubstitutions } }
    sup := { s.sup with ageing := s.rst.flashAgeing } } :=
  congrArg Host.Outcome.next (if_neg (by rw [State.upTo_rst, hp]; decide))

/-- What a command did that only brought the counter to its time. -/
theorem Did.upTo (s : State) (t : Nat) : Did t [] s (s.upTo t) := Did.of_keeps (.refl [] _) (by decide)

end Ageing

/-- Settles O58: a measurement that is due is `State.ageAll`, whose indices `Aged` keeps from falling; one that is not leaves the module
as it was. That a part's index is as measured is the model's choice (log 72). -/
theorem ageingIndicesKept : Obligations.AgeingIndicesKept := by
  intro s t
  refine ⟨fun ⟨_, hp⟩ hup => ⟨fun l hdue => ?_, fun l hearly => ?_, fun hdue => ?_, fun hearly => ?_⟩, fun _ hp => ?_⟩
  · have hexec : exec (.ageingMeasurement t l) s = .next ((s.upTo t).ageAll l) := by
      rw [exec_ageingMeasurement hp hup, if_pos hdue]
    have haged := (s.upTo t).ageAll_aged l
    refine ⟨_, hexec, Did.of_keeps (execAgeingMeasurement_keeps t l s hexec) (by decide), haged.measuredAt,
      (s.upTo t).ageAll_backup l, (s.upTo t).ageAll_flashAgeing l, haged.index, ?_⟩
    rintro x rfl hpart
    rw [State.ageAll_single (s.upTo t) hpart]
    exact ⟨Table.get_put_self _ _ _, fun k hk => Table.get_put_ne _ _ hk⟩
  · exact ⟨s.upTo t, by rw [exec_ageingMeasurement hp hup, if_neg (Nat.not_le_of_lt hearly)], .upTo s t⟩
  · have hexec := exec_ageingFlashWrite (t := t) hp hup
    rw [if_pos hdue] at hexec
    exact ⟨_, hexec, Did.of_keeps (execAgeingFlashWrite_keeps t s hexec) (by decide), rfl⟩
  · exact ⟨s.upTo t, by rw [exec_ageingFlashWrite hp hup, if_neg (Nat.not_le_of_lt hearly)], .upTo s t⟩
  · have hexec := exec_vbatLoss_dark (t := t) hp
    exact ⟨_, hexec, Did.of_keeps (execVbatLoss_keeps t s hexec) (by decide), rfl, rfl⟩

end Sys2Proof.Machine
end

section
/-! What the erasure of a key slot (R329) leaves: the other slots, and the tamper latches 6081.01 (R446). As for the beat boundary a rule is
named for its operation. -/

set_option Elab.async false

namespace Sys2Proof.Machine

/-- The key of the tamper latches 6081.01 (R446). -/
def latchKey : Nat := keyOf 0x6081 1

/-- From one state to the other no key slot and no tamper latch changed. -/
structure KeysLatchesKept (s t : State) : Prop where
  slots : t.cipher.slots = s.cipher.slots
  latches : t.raw latchKey = s.raw latchKey

section Operations

variable {s₀ s t : State} {p k f n : Nat}

/-! ## Shared operations -/

theorem KeysLatchesKept.refl (s : State) : KeysLatchesKept s s := ⟨rfl, rfl⟩

/-- An operation that its frame keeps away from the dictionary and the cipher engine. -/
theorem KeysLatchesKept.keeps {ps : List Part} (h : KeysLatchesKept s₀ s) (k : Keeps ps s t)
    (hps : ∀ p ∈ [Part.dict, .cipher], p ∉ ps := by decide) : KeysLatchesKept s₀ t := by
  have hdict : t.dict = s.dict := k.frame .dict (hps _ (by decide))
  have hcipher : t.cipher = s.cipher := k.frame .cipher (hps _ (by decide))
  have hraw : t.raw latchKey = s.raw latchKey := by unfold State.raw; rw [hdict, k.variant]
  exact ⟨(congrArg Cipher.slots hcipher).trans h.slots, hraw.trans h.latches⟩

theorem KeysLatchesKept.ite {c : Prop} [Decidable c] (hs : KeysLatchesKept s₀ s) (ht : KeysLatchesKept s₀ t) :
    KeysLatchesKept s₀ (if c then s else t) := by
  split
  · exact hs
  · exact ht

theorem KeysLatchesKept.each {α : Type} {l : List α} {f : State → α → State} (h : KeysLatchesKept s₀ s)
    (hf : ∀ u, ∀ x ∈ l, KeysLatchesKept s₀ u → KeysLatchesKept s₀ (f u x)) : KeysLatchesKept s₀ (s.each l f) := by
  unfold State.each
  induction l generalizing s with
  | nil => exact h
  | cons x l ih =>
    exact ih (hf s x (List.mem_cons_self ..) h) fun u y hy => hf u y (List.mem_cons_of_mem x hy)

theorem KeysLatchesKept.bump {idx sub : Nat} (h : KeysLatchesKept s₀ s) (hkey : keyOf idx sub < latchKey := by unfold latchKey keyOf; omega) :
    KeysLatchesKept s₀ (s.bump idx sub) :=
  ⟨h.slots, (s.raw_bumpKey_ne 1 (Nat.ne_of_gt hkey)).trans h.latches⟩

theorem KeysLatchesKept.event {src code sev : Nat} {data : Bytes} (h : KeysLatchesKept s₀ s) :
    KeysLatchesKept s₀ (s.event src code sev data) := h.keeps (State.event_keeps (.refl [.log] s) _ _ _ _ (by decide))

theorem KeysLatchesKept.emit {o : Out} (h : KeysLatchesKept s₀ s) : KeysLatchesKept s₀ (s.emit o) := ⟨h.slots, h.latches⟩

theorem KeysLatchesKept.setCell {x : CommandCell} (h : KeysLatchesKept s₀ s) : KeysLatchesKept s₀ (s.setCell p x) := ⟨h.slots, h.latches⟩

theorem KeysLatchesKept.updLink {g : CommandLink → CommandLink} (h : KeysLatchesKept s₀ s) : KeysLatchesKept s₀ (s.updLink p k g) := h.setCell

/-! ## Jobs and contexts under a slot (R329, R342) -/

theorem KeysLatchesKept.postRing {data : Bytes} (h : KeysLatchesKept s₀ s) : KeysLatchesKept s₀ (s.postRing f k data) :=
  h.keeps (State.postRing_keeps (.refl [.out, .pages] s) f k data (by decide) (by decide))

theorem KeysLatchesKept.consumeRing (h : KeysLatchesKept s₀ s) : KeysLatchesKept s₀ (s.consumeRing f k) :=
  h.keeps (State.consumeRing_keeps (.refl [.pages] s) f k (by decide))

theorem KeysLatchesKept.closeCtx (h : KeysLatchesKept s₀ s) : KeysLatchesKept s₀ (s.closeCtx f n) :=
  h.keeps (State.closeCtx_keeps (.refl [.pages] s) f n (by decide))

theorem KeysLatchesKept.closeSlotCtxs (h : KeysLatchesKept s₀ s) : KeysLatchesKept s₀ (s.closeSlotCtxs n) :=
  h.keeps (State.closeSlotCtxs_keeps (.refl [.pages] s) n (by decide))

theorem KeysLatchesKept.writeOut {j : CipherJob} {data : Bytes} (h : KeysLatchesKept s₀ s) : KeysLatchesKept s₀ (s.writeOut j data) :=
  h.keeps (State.writeOut_keeps (.refl [.out] s) j data (by decide))

theorem KeysLatchesKept.postDone {j : CipherJob} {status len : Nat} {unverified : Bool} (h : KeysLatchesKept s₀ s) :
    KeysLatchesKept s₀ (s.postDone j status len unverified) := by
  have hcounter : keyOf 0x4010 (if status = 0 then 1 else 2) < latchKey := by unfold latchKey keyOf; split <;> decide
  unfold State.postDone
  exact (KeysLatchesKept.ite h.postRing h.emit).bump hcounter

theorem KeysLatchesKept.failJob {j : CipherJob} {status : Nat} (h : KeysLatchesKept s₀ s) :
    KeysLatchesKept s₀ (s.failJob n j status) := by
  unfold State.failJob
  extract_lets _ u v w
  have hu : KeysLatchesKept s₀ u := ⟨h.slots, h.latches⟩
  have hv : KeysLatchesKept s₀ v := .ite hu.closeCtx hu.consumeRing
  have hw : KeysLatchesKept s₀ w := .ite hv.writeOut hv
  exact hw.postDone

theorem KeysLatchesKept.withdrawJobs (h : KeysLatchesKept s₀ s) : KeysLatchesKept s₀ (s.withdrawJobs n) := by
  unfold State.withdrawJobs
  exact (h.each fun _ _ _ hu => hu.failJob.bump).closeSlotCtxs

/-! ## Command channel and trip matrix (R300-R316)

The counters of a port's command channel lie below the latches for every port that the module can have. -/

theorem State.commandPorts_lt {p : Nat} (h : p ∈ s.commandPorts) : p < 64 := by
  have hp : p < portCount s.variant := List.mem_range.mp (List.mem_filter.mp h).1
  have hcount : portCount s.variant ≤ 36 := by cases s.variant <;> decide
  omega

theorem KeysLatchesKept.settleOutput (h : KeysLatchesKept s₀ s) (hn : n < 8) : KeysLatchesKept s₀ (s.settleOutput n) := by
  unfold State.settleOutput
  extract_lets x live put
  have hput : ∀ y, KeysLatchesKept s₀ (put s y) := fun _ => ⟨h.slots, h.latches⟩
  exact .ite (.ite (hput _) h) (.ite (.ite h (hput _).bump) (.ite (hput _) h))

theorem KeysLatchesKept.radiate {l first : Nat} {points : List (List PlacePoint)} (h : KeysLatchesKept s₀ s) :
    KeysLatchesKept s₀ (s.radiate p l first points) := h.emit

theorem KeysLatchesKept.startCommand {kind : CommandKind} (h : KeysLatchesKept s₀ s) (hp : p < 64) :
    KeysLatchesKept s₀ (s.startCommand p k n kind) := by
  unfold State.startCommand
  extract_lets x st y tag left u cell v w w' w''
  have hw : KeysLatchesKept s₀ w := h.updLink.setCell.bump
  have hw' : KeysLatchesKept s₀ w' := by
    unfold w'
    split
    · exact hw.radiate
    · exact hw
  exact .ite hw'.emit.bump hw'.emit

theorem KeysLatchesKept.limitLink (h : KeysLatchesKept s₀ s) (hp : p < 64) : KeysLatchesKept s₀ (s.limitLink p k) := by
  unfold State.limitLink
  exact .ite h h.updLink.bump

theorem KeysLatchesKept.commandNext (h : KeysLatchesKept s₀ s) (hp : p < 64) : KeysLatchesKept s₀ (s.commandNext p) := by
  have hgo : ∀ (wants : List (Nat × CommandKind)) {u : State}, KeysLatchesKept s₀ u →
      KeysLatchesKept s₀ (State.commandNext.go p u wants) := by
    intro wants
    induction wants with
    | nil => exact fun hu => hu
    | cons want wants ih =>
      intro u hu
      unfold State.commandNext.go
      split
      · exact .ite (hu.startCommand hp) (ih hu)
      · exact ih (hu.limitLink hp)
  unfold State.commandNext
  exact .ite (hgo _ h) h

theorem KeysLatchesKept.cutCommand (h : KeysLatchesKept s₀ s) (hp : p < 64) : KeysLatchesKept s₀ (s.cutCommand p) := by
  unfold State.cutCommand
  exact .ite h.setCell.bump.emit h

theorem KeysLatchesKept.changeDue (h : KeysLatchesKept s₀ s) (hp : p < 64) : KeysLatchesKept s₀ (s.changeDue p k) := by
  unfold State.changeDue
  extract_lets x u
  have hu : KeysLatchesKept s₀ u := h.setCell
  split
  · exact hu
  · exact .ite (.ite hu hu.bump) (hu.cutCommand hp)

theorem KeysLatchesKept.settleStates (h : KeysLatchesKept s₀ s) (hp : p < 64) : KeysLatchesKept s₀ (s.settleStates p k) := by
  unfold State.settleStates
  exact .ite h (.ite (.ite h.setCell h) (.ite h (h.changeDue hp)))

theorem KeysLatchesKept.settleLink {quiet : Bool} (h : KeysLatchesKept s₀ s) (hp : p < 64) :
    KeysLatchesKept s₀ (s.settleLink p quiet k) := by
  unfold State.settleLink
  extract_lets x ss rs warn fresh u _ u' u''
  have hu : KeysLatchesKept s₀ u := h.updLink
  have hu' : KeysLatchesKept s₀ u' := .ite hu hu.setCell
  have hu'' : KeysLatchesKept s₀ u'' := .ite hu'.bump.event hu'
  exact .ite hu''.event hu''

theorem KeysLatchesKept.settleLinks {quiet : Bool} (h : KeysLatchesKept s₀ s) : KeysLatchesKept s₀ (s.settleLinks quiet) :=
  h.each fun _ _ hp hu => hu.each fun _ _ _ hv => hv.settleLink (State.commandPorts_lt hp)

theorem KeysLatchesKept.settleMatrix (h : KeysLatchesKept s₀ s) : KeysLatchesKept s₀ s.settleMatrix := by
  unfold State.settleMatrix
  refine (h.each fun _ _ hn hu => hu.settleOutput (List.mem_range.mp hn)).each fun v p hp hv => ?_
  have hport : p < 64 := State.commandPorts_lt hp
  extract_lets driven _ w
  have hw : KeysLatchesKept s₀ w := .ite hv hv.setCell
  exact (hw.each fun _ _ _ hz => hz.settleStates hport).commandNext hport

theorem KeysLatchesKept.settleCommand (h : KeysLatchesKept s₀ s) : KeysLatchesKept s₀ s.settleCommand := h.settleLinks.settleMatrix

end Operations

/-! ## The erasure of slots (R329) -/

section Erasure

variable (s : State)

/-- What an erasure leaves of a slot: its generation, and when it was (R329). -/
def KeySlot.erased (x : KeySlot) (tsc : Nat) : KeySlot := { generation := x.generation, loaded := tsc }

theorem State.eraseSlot_kept (n : Nat) : KeysLatchesKept (s.setSlot n ((s.slot n).erased s.tsc)) (s.eraseSlot n) :=
  ((KeysLatchesKept.refl _).bump).withdrawJobs.settleCommand

theorem State.slot_eraseSlot (n k : Nat) : (s.eraseSlot n).slot k = (s.setSlot n ((s.slot n).erased s.tsc)).slot k := by
  unfold State.slot
  rw [(s.eraseSlot_kept n).slots]
  rfl

theorem State.slot_eraseSlot_self (n : Nat) : (s.eraseSlot n).slot n = (s.slot n).erased s.tsc := by
  rw [State.slot_eraseSlot, State.slot_setSlot_self]

theorem State.slot_eraseSlot_ne {k n : Nat} (h : k ≠ n) : (s.eraseSlot n).slot k = s.slot k := by
  rw [State.slot_eraseSlot, s.slot_setSlot_ne n _ h]

/-- The slot holds nothing (R324). -/
def KeySlot.Blank (x : KeySlot) : Prop := x.state = .empty ∧ x.key = [] ∧ x.counter = 0

theorem State.eraseSlot_blank {k : Nat} (n : Nat) (h : (s.slot k).Blank) : ((s.eraseSlot n).slot k).Blank := by
  by_cases hk : k = n
  · rw [hk, State.slot_eraseSlot_self]; exact ⟨rfl, rfl, rfl⟩
  · rw [s.slot_eraseSlot_ne hk]; exact h

/-- What the erasure of several slots leaves. -/
structure Erased (l : List Nat) (s t : State) : Prop where
  frame : Frame [.out, .dict, .log, .pages, .routes, .cells, .trip, .cipher] s t
  blank : ∀ k, k ∈ l ∨ (s.slot k).Blank → (t.slot k).Blank
  slots : ∀ k, k ∉ l → t.slot k = s.slot k
  latches : t.raw latchKey = s.raw latchKey

theorem State.each_eraseSlot (l : List Nat) : Erased l s (s.each l State.eraseSlot) := by
  unfold State.each
  induction l generalizing s with
  | nil => exact ⟨Frame.refl _ _, fun k hk => hk.resolve_left List.not_mem_nil, fun _ _ => rfl, rfl⟩
  | cons n l ih =>
    have hfirst : Keeps [.out, .dict, .log, .pages, .routes, .cells, .trip, .cipher] s (s.eraseSlot n) :=
      State.eraseSlot_keeps (.refl _ s) n (by decide) (by decide) (by decide) (by decide) (by decide) (by decide) (by decide) (by decide)
    rw [List.foldl_cons]
    obtain ⟨hframe, hblank, hslots, hlatches⟩ := ih (s.eraseSlot n)
    refine ⟨hfirst.frame.trans hframe, fun k hk => hblank k ?_, fun k hk => ?_, hlatches.trans (s.eraseSlot_kept n).latches⟩
    · rcases hk with hk | hk
      · rcases List.mem_cons.mp hk with rfl | hk
        · rw [State.slot_eraseSlot_self]; exact .inr ⟨rfl, rfl, rfl⟩
        · exact .inl hk
      · exact .inr (s.eraseSlot_blank n hk)
    · obtain ⟨hn, hl⟩ := not_or.mp (mt List.mem_cons.mpr hk)
      exact (hslots k hl).trans (s.slot_eraseSlot_ne hn)

end Erasure

end Sys2Proof.Machine
end

section
/-! A full reset (R409): what it leaves of the state is what `State.clearFor` leaves, but for the blocks, the event log and the record. -/

set_option Elab.async false

namespace Sys2Proof.Machine

/-! ## Tables -/

/-- A filter by key keeps an entry or drops it. -/
theorem Table.find_filter_key {α : Type} (keep : Nat → Bool) (l : Table α) (k : Nat) :
    Table.find (l.filter fun e => keep e.1) k = if keep k = true then Table.find l k else none := by
  induction l with
  | nil => simp
  | cons e l ih =>
    obtain ⟨j, v⟩ := e
    by_cases hj : j = k
    · subst hj
      by_cases hkeep : keep j = true <;> simp [Table.find, hkeep, ih]
    · by_cases hkeep : keep j = true <;> simp [Table.find, hkeep, hj, ih]

section Reset

variable (s : State)

/-! ## The record (R426) -/

theorem State.lockoutCheck_eq (cause kind : Nat) :
    s.lockoutCheck cause kind = { s with rst := (s.lockoutCheck cause kind).rst } := by
  unfold State.lockoutCheck
  split
  · rfl
  · split <;> rfl

theorem State.lockoutCheck_backup (cause kind : Nat) : (s.lockoutCheck cause kind).rst.backup = s.rst.backup := by
  unfold State.lockoutCheck
  split
  · rfl
  · split <;> rfl

/-! ## What is cleared (R409) -/

/-- A full reset keeps the entries it does not name to their values, and returns the others to their defaults. -/
theorem State.raw_clearFor_full (k : Nat) :
    (s.clearFor 2).raw k = if keptEntry false k = true then s.raw k else defaultOf s.variant k := by
  have hfind := Table.find_filter_key (keptEntry false) s.dict k
  show (Table.find (s.dict.filter fun e => keptEntry false e.1) k).getD (defaultOf s.variant k) = _
  rw [hfind]
  split <;> rfl

theorem State.slots_clearFor_full : (s.clearFor 2).cipher.slots = s.cipher.slots := rfl

theorem resetPorts_inactive (l : Table Port) : (resetPorts l).all (fun e => !e.2.active) = true := by
  refine List.all_eq_true.mpr fun e he => ?_
  obtain ⟨d, _, hd⟩ := List.mem_filterMap.mp he
  dsimp only at hd
  split at hd
  · exact absurd hd (by simp)
  · rw [← Option.some.inj hd]; rfl

/-- After a reset every outside output is at its safe state (R419). -/
theorem State.clearFor_outputsAtRest (kind : Nat) : (s.clearFor kind).outputsAtRest = true := by
  have hports : (s.clearFor kind).ports.all (fun e => !e.2.active) = true := resetPorts_inactive s.ports
  unfold State.outputsAtRest
  rw [hports]
  rfl

theorem State.outputsAtRest_congr {s t : State} {ps : List Part} (h : Frame ps s t)
    (hps : ∀ p ∈ [Part.ports, .trip, .ring, .sensing], p ∉ ps := by decide) : t.outputsAtRest = s.outputsAtRest := by
  have hports : t.ports = s.ports := h .ports (hps _ (by decide))
  have htrip : t.trip = s.trip := h .trip (hps _ (by decide))
  have hring : t.ring = s.ring := h .ring (hps _ (by decide))
  have hsensing : t.sensing = s.sensing := h .sensing (hps _ (by decide))
  unfold State.outputsAtRest
  rw [hports, htrip, hring, hsensing]

/-! ## The reset as a whole -/

/-- What a full reset of a cause leaves. -/
structure FullReset (cause : Nat) (s t : State) : Prop where
  frame : Frame [.hier, .log, .rst] (s.clearFor 2) t
  sequence : t.rst.sequence = some ⟨cause, 2⟩
  cause : t.rst.cause = cause
  kind : t.rst.kind = 2
  ripcords : t.rst.backup.ripcords = s.rst.backup.ripcords

/-- The record stands while the domains are reset. -/
theorem State.resetDomains_record : (s.resetDomains 2).rst.cause = s.rst.cause ∧ (s.resetDomains 2).rst.kind = s.rst.kind ∧
    (s.resetDomains 2).rst.backup = s.rst.backup := by
  simp [State.resetDomains]

/-- What is cleared does not depend on the record. -/
theorem State.clearFor_rst (r : ResetCtl) : Frame [.rst] (s.clearFor 2) (({ s with rst := r } : State).clearFor 2) :=
  Frame.one (List.mem_singleton_self _) fun p hp => by cases p <;> first | rfl | exact absurd rfl hp

theorem State.performReset_full (cause : Nat) : FullReset cause s (s.performReset cause 2) := by
  unfold State.performReset
  extract_lets u data _ _ _ _ _ v w _ _ x _ _ z
  have hv : v = { s with rst := v.rst } := by
    show ({ u with rst := v.rst } : State) = _
    unfold u State.recordReset
    rw [State.lockoutCheck_eq]
  have hcleared : Frame [.rst] (s.clearFor 2) (v.clearFor 2) := by rw [hv]; exact s.clearFor_rst v.rst
  obtain ⟨hcause, hkind, hbackup⟩ := (v.clearFor 2).resetDomains_record
  have hdomains : Keeps [.rst] (v.clearFor 2) ((v.clearFor 2).resetDomains 2) := State.resetDomains_keeps (.refl _ _) 2 (by decide)
  have hheld : Keeps [.hier] ((v.clearFor 2).resetDomains 2) w := State.holdShed_keeps (.refl _ _) 2 (by decide)
  have hrst : w.rst = ((v.clearFor 2).resetDomains 2).rst := hheld.frame .rst (by decide)
  have hripcords : v.rst.backup.ripcords = s.rst.backup.ripcords := by
    rw [← s.lockoutCheck_backup cause 2]; rfl
  have hx : x = w := if_neg (by decide)
  have hlast : Frame [.hier, .log, .rst] w (z.event (srcOf 5 0 0) 0x0101 sevNotice data) := by
    rw [← hx]
    clear_value x
    intro p hp
    cases p <;> first | rfl | exact absurd (by decide) hp
  refine ⟨?_, rfl, ?_, ?_, ?_⟩
  · exact ((hcleared.mono (by decide)).trans (hdomains.frame.mono (by decide))).trans ((hheld.frame.mono (by decide)).trans hlast)
  · show x.rst.cause = cause
    rw [hx, hrst, hcause]; rfl
  · show x.rst.kind = 2
    rw [hx, hrst, hkind]; rfl
  · show x.rst.backup.ripcords = _
    rw [hx, hrst, hbackup]; exact hripcords

variable {s} {cause : Nat} {t : State}

/-- No key slot changes in a full reset (R409). -/
theorem FullReset.slot (h : FullReset cause s t) (k : Nat) : t.slot k = s.slot k := by
  have hcipher : t.cipher = (s.clearFor 2).cipher := h.frame .cipher (by decide)
  unfold State.slot
  rw [hcipher, State.slots_clearFor_full]

theorem FullReset.raw_kept (h : FullReset cause s t) {k : Nat} (hk : keptEntry false k = true) : t.raw k = s.raw k := by
  have hdict : t.dict = (s.clearFor 2).dict := h.frame .dict (by decide)
  have hvariant : t.variant = (s.clearFor 2).variant := h.frame .variant (by decide)
  calc t.raw k = (s.clearFor 2).raw k := by unfold State.raw; rw [hdict, hvariant]
    _ = s.raw k := by rw [State.raw_clearFor_full, if_pos hk]

theorem FullReset.outputsAtRest (h : FullReset cause s t) : t.outputsAtRest = true := by
  rw [State.outputsAtRest_congr h.frame, State.clearFor_outputsAtRest]

end Reset
end Sys2Proof.Machine
end

section
/-! Tamper detections (R446-R448): the latches, the counters and the log; the ripcord; the sensors that latch without the main supply. -/

set_option Elab.async false

namespace Sys2Proof.Machine

/-! ## Entries -/

theorem testBit_withBit_true (v i : Nat) : (withBit v i true).testBit i = true := by
  unfold withBit
  split
  next h => exact eq_of_beq h
  next h =>
    rw [if_pos rfl, Nat.add_comm, Nat.testBit_two_pow_add_eq]
    simpa using h

theorem defaultOf_latches (v : Variant) : defaultOf v (keyOf 0x6081 1) = [0] := by
  cases v <;> decide

theorem defaultOf_tamperCounter (v : Variant) {n : Nat} (h₁ : 1 ≤ n) (h₆ : n ≤ 6) : defaultOf v (keyOf 0x6082 n) = [0, 0, 0, 0] := by
  interval_cases n <;> cases v <;> decide

/-- The responses as the table has them, the mesh's fixed (R446). -/
theorem tamperResponse (v : Variant) {n : Nat} (h₁ : 1 ≤ n) (h₆ : n ≤ 6) :
    defaultOf v (keyOf 0x6080 n) = [if n ≤ 2 then 2 else 1] ∧
      (descOf v (keyOf 0x6080 n)).map Desc.access = some (if n = 2 then .const else .rws) := by
  interval_cases n <;> cases v <;> decide

/-! ## A detection (R446) -/

section Detection

variable (s : State) {n : Nat}

/-- The latch of a sensor is set. -/
def State.latchTamper (n : Nat) : State := s.setVal 0x6081 1 (withBit (s.val 0x6081 1) (n - 1) true)

theorem State.latchTamper_latched (h₆ : n ≤ 6) : bit ((s.latchTamper n).val 0x6081 1) (n - 1) = true := by
  have hval : (s.latchTamper n).val 0x6081 1 = withBit (s.val 0x6081 1) (n - 1) true % 2 ^ 8 := by
    unfold State.latchTamper
    rw [State.val_setVal_self, defaultOf_latches]
    rfl
  have hbit : n - 1 < 8 := by omega
  rw [bit, hval, Nat.testBit_mod_two_pow, testBit_withBit_true, decide_eq_true hbit]
  rfl

theorem State.logTamper_raw {k : Nat} (hlatch : k ≠ keyOf 0x6081 1) (hcount : k ≠ keyOf 0x6082 n) :
    (s.logTamper n).raw k = s.raw k :=
  ((s.latchTamper n).raw_bumpKey_ne 1 hcount).trans (s.raw_setVal_ne _ hlatch)

theorem State.logTamper_latched (h₆ : n ≤ 6) : bit ((s.logTamper n).val 0x6081 1) (n - 1) = true := by
  have hne : keyOf 0x6081 1 ≠ keyOf 0x6082 n := by unfold keyOf; omega
  have hval : (s.logTamper n).val 0x6081 1 = (s.latchTamper n).val 0x6081 1 :=
    congrArg ofBE ((s.latchTamper n).raw_bumpKey_ne 1 hne)
  rw [hval]
  exact s.latchTamper_latched h₆

theorem State.logTamper_counted (h₁ : 1 ≤ n) (h₆ : n ≤ 6) :
    (s.logTamper n).val 0x6082 n = min (2 ^ 32 - 1) (s.val 0x6082 n + 1) := by
  have hne : keyOf 0x6082 n ≠ keyOf 0x6081 1 := by unfold keyOf; omega
  have hraw : (s.latchTamper n).raw (keyOf 0x6082 n) = s.raw (keyOf 0x6082 n) := s.raw_setVal_ne _ hne
  have hwidth : (defaultOf (s.latchTamper n).variant (keyOf 0x6082 n)).length = 4 := by
    rw [defaultOf_tamperCounter _ h₁ h₆]; rfl
  calc (s.logTamper n).val 0x6082 n
      = min (256 ^ 4 - 1) (ofBE ((s.latchTamper n).raw (keyOf 0x6082 n)) + 1) := by
        rw [← hwidth]; exact (s.latchTamper n).ofBE_raw_bumpKey_self _ 1
    _ = min (2 ^ 32 - 1) (s.val 0x6082 n + 1) := by rw [hraw]; rfl

/-! ## The ripcord (R447) -/

/-- The ripcord has emptied slots and is recorded: the state that its reset finds. -/
def State.ripcordPulled (n : Nat) (l : List Nat) : State :=
  let u := (s.event 0x5103 0x0804 sevFatal (toBE 1 n)).each l State.eraseSlot
  let v := { u with cipher := { u.cipher with blocked255 := true } }
  { v with rst := { v.rst with backup := { v.rst.backup with ripcords := (v.tsc, n) :: v.rst.backup.ripcords } } }

theorem State.ripcord_eq (n : Nat) : s.ripcord n = (s.ripcordPulled n (List.range 255)).requestReset 9 2 := rfl

/-- What a ripcord leaves for its reset: its record, the slots that it empties, the others, and the latches. -/
structure RipcordPulled (n : Nat) (l : List Nat) (s t : State) : Prop where
  rst : t.rst = { s.rst with backup := { s.rst.backup with ripcords := (s.tsc, n) :: s.rst.backup.ripcords } }
  blank : ∀ k ∈ l, (t.slot k).Blank
  slots : ∀ k, k ∉ l → t.slot k = s.slot k
  latches : t.raw latchKey = s.raw latchKey

theorem State.ripcordPulled_effect (n : Nat) (l : List Nat) : RipcordPulled n l s (s.ripcordPulled n l) := by
  obtain ⟨hframe, hblank, hslots, hlatches⟩ := (s.event 0x5103 0x0804 sevFatal (toBE 1 n)).each_eraseSlot l
  unfold State.ripcordPulled
  generalize (s.event 0x5103 0x0804 sevFatal (toBE 1 n)).each l State.eraseSlot = u at *
  have hrst : u.rst = s.rst := hframe .rst (by decide)
  have htsc : u.tsc = s.tsc := hframe .tsc (by decide)
  refine ⟨?_, fun k hk => hblank k (.inl hk), hslots, hlatches⟩
  dsimp only
  rw [hrst, htsc]

/-- A ripcord is taken where no sequence runs and no lockout stands, even while the module is being extracted (R411, R412, R430). -/
theorem State.requestReset_ripcord (hsequence : s.rst.sequence = none) (hlockout : s.rst.lockout = false) :
    s.requestReset 9 2 = s.performReset 9 2 := by
  unfold State.requestReset
  rw [if_neg (by simp [hlockout]), if_neg (by simp), hsequence]

/-- What a ripcord has done once its reset has begun. -/
structure RipcordDone (n : Nat) (s t : State) : Prop where
  sequence : t.rst.sequence = some ⟨9, 2⟩
  cause : t.rst.cause = 9
  kind : t.rst.kind = 2
  outputs : t.outputsAtRest = true
  blank : ∀ k < 255, (t.slot k).Blank
  master : t.slot 255 = s.slot 255
  ripcords : t.rst.backup.ripcords = (s.tsc, n) :: s.rst.backup.ripcords
  latches : t.raw latchKey = s.raw latchKey

theorem State.ripcord_done (n : Nat) (hsequence : s.rst.sequence = none) (hlockout : s.rst.lockout = false) :
    RipcordDone n s (s.ripcord n) := by
  obtain ⟨hrst, hblank, hslots, hlatches⟩ := s.ripcordPulled_effect n (List.range 255)
  rw [State.ripcord_eq]
  generalize s.ripcordPulled n (List.range 255) = u at *
  rw [u.requestReset_ripcord (by rw [hrst]; exact hsequence) (by rw [hrst]; exact hlockout)]
  have hreset : FullReset 9 u (u.performReset 9 2) := u.performReset_full 9
  refine ⟨hreset.sequence, hreset.cause, hreset.kind, hreset.outputsAtRest, fun k hk => ?_, ?_, ?_, ?_⟩
  · rw [hreset.slot]; exact hblank k (List.mem_range.mpr hk)
  · rw [hreset.slot]; exact hslots 255 (by simp)
  · rw [hreset.ripcords, hrst]
  · rw [hreset.raw_kept rfl, hlatches]

/-! ## The command -/

variable {s} {t : Nat}

theorem exec_tamperDetected (hp : s.rst.powered = true) : exec (.tamperDetected t n) s = .next ((s.upTo t).tamper n) := if_pos hp

theorem State.tamper_quiet (h : s.val 0x6080 n ≠ 2) : s.tamper n = s.logTamper n := if_neg h

theorem State.tamper_ripcord (h : s.val 0x6080 n = 2) : s.tamper n = (s.logTamper n).ripcord n := if_pos h

/-- The state with a detection latched from VBAT for the next start (R448). -/
def State.latchDark (s : State) (n : Nat) : State :=
  { s.latchTamper n with
    rst := { s.rst with backup := { s.rst.backup with dark := s.rst.backup.dark ++ [(n, s.rst.backup.timeCopy)] } } }

theorem exec_tamperDetected_dark (hp : s.rst.powered = false) (t n : Nat) : exec (.tamperDetected t n) s =
    .next (if n = 1 ∨ n = 2 then (s.upTo t).latchDark n else s.upTo t) := if_neg (by rw [hp]; decide)

theorem State.logTamper_did : Did t [.dict, .log] s ((s.upTo t).logTamper n) :=
  Did.of_keeps (State.logTamper_keeps (.refl _ _) n (by decide) (by decide)) (by decide)

theorem State.latchDark_did : Did t [.dict, .rst] s ((s.upTo t).latchDark n) :=
  have hlatch : Keeps [.dict, .rst] (s.upTo t) ((s.upTo t).latchTamper n) := State.setVal_keeps (.refl _ _) _ _ _ (by decide)
  Did.of_keeps (.record hlatch rfl rfl rfl rfl rfl rfl rfl rfl rfl rfl rfl rfl rfl rfl rfl rfl rfl rfl rfl) (by decide)

end Detection

/-- Settles O59: a detection is `State.logTamper`; under response 2 `State.ripcord` follows, whose reset clears neither the latches nor the
slots' erasure; without the main supply it is `State.latchDark`. The severity at response 0 and the data are the model's choice (logs
40 and 45). -/
theorem tamperCompletes : Obligations.TamperCompletes := by
  intro s t n h₁ h₆
  refine ⟨fun v => tamperResponse v h₁ h₆, fun hp hresponse => ?_, fun hp hresponse hsequence hlockout => ?_, fun hp hn => ?_,
    fun hp hn => ?_⟩
  · refine ⟨(s.upTo t).logTamper n, ?_, State.logTamper_did, (s.upTo t).logTamper_latched h₆, (s.upTo t).logTamper_counted h₁ h₆,
      fun k hlatch hcount => (s.upTo t).logTamper_raw hlatch hcount, rfl⟩
    rw [exec_tamperDetected hp, State.tamper_quiet (s := s.upTo t) hresponse]
  · obtain ⟨hseq, hcause, hkind, houtputs, hblank, hmaster, hripcords, hlatches⟩ :=
      ((s.upTo t).logTamper n).ripcord_done n hsequence hlockout
    refine ⟨((s.upTo t).logTamper n).ripcord n, ?_, hcause, hkind, hseq, houtputs, hblank, hmaster, hripcords, ?_⟩
    · rw [exec_tamperDetected hp, State.tamper_ripcord (s := s.upTo t) hresponse]
    · have hval : (((s.upTo t).logTamper n).ripcord n).val 0x6081 1 = ((s.upTo t).logTamper n).val 0x6081 1 := congrArg ofBE hlatches
      rw [hval]
      exact (s.upTo t).logTamper_latched h₆
  · have hsensor : n = 1 ∨ n = 2 := by omega
    refine ⟨(s.upTo t).latchDark n, ?_, State.latchDark_did, (s.upTo t).latchTamper_latched h₆, rfl⟩
    rw [exec_tamperDetected_dark hp, if_pos hsensor]
  · have hsensor : ¬ (n = 1 ∨ n = 2) := by omega
    exact ⟨s.upTo t, by rw [exec_tamperDetected_dark hp, if_neg hsensor], .upTo s t⟩

end Sys2Proof.Machine
end

section
/-! The step at the front of the queue, the module before its first start, and the canonical form that every step keeps (log 1, log 2). -/

set_option Elab.async false

namespace Sys2Proof.Machine

theorem step_cons {s : State} {c : Instr} {rest : List Instr} (h : s.pending = c :: rest) : step s = exec c { s with pending := rest } := by
  unfold step; rw [h]

theorem step_idle {s : State} (h : s.pending = []) : step s = .next s := by
  unfold step; rw [h]

theorem State.setPending_canonical {s : State} (rest : List Instr) (h : s.Canonical) : { s with pending := rest : State }.Canonical :=
  { h with }

/-- Settles O1: the two arms of `step`. -/
theorem stepRunsFront : Obligations.StepRunsFront := fun _ _ _ => ⟨step_cons rfl, step_idle rfl⟩

/-- Settles O2: the state before the first start is a literal, and each of its tables is evaluated or empty. -/
theorem resetStateHolds : Obligations.ResetStateHolds := by
  refine ⟨?_, by decide +kernel, rfl, rfl, rfl, rfl, fun _ => rfl, rfl, rfl, rfl, fun _ => rfl, fun _ => ⟨rfl, rfl⟩, step_idle rfl⟩
  constructor <;> rfl

/-- Settles O4: every command is a move, and a move keeps the canonical form; an idle step changes nothing. -/
theorem stepKeepsCanonical : Obligations.StepKeepsCanonical := by
  intro s u hs h
  cases hq : s.pending with
  | nil =>
    rw [step_idle hq] at h
    cases h
    exact hs
  | cons c rest =>
    rw [step_cons hq] at h
    exact (exec_moves c h).canonical (State.setPending_canonical rest hs)

end Sys2Proof.Machine
end

section
/-! Every command answers (O6), and without the main supply every command of the running module only moves the counter (R409). -/

set_option Elab.async false

namespace Sys2Proof.Machine

/-- The commands that the supplies, nEXTRACT and VBAT answer too (R408, R427, R428, R430, R448). -/
def alwaysAnswered : Instr → Bool
  | .tamperDetected .. | .powerOn .. | .vbatLoss .. | .hotSwapConnect .. | .nextractAsserted .. | .nextractReleased .. => true
  | _ => false

theorem Outcome.ite_next {c : Prop} [Decidable c] (a b : State) :
    (if c then .next a else .next b : Res) = .next (if c then a else b) := (apply_ite Host.Outcome.next c a b).symm

/-- A write to a register that a field map lists is a run, any other stops (log 35). -/
theorem exec_registerWrite_listed {s : State} {t f a : Nat} {w : Word32} {r : PageReg} (h : pageReg a = some r) :
    exec (.registerWrite t f a w) s = s.run t fun s => if s.open f then s.writeReg f r w else s := by
  show execRegisterWrite t f a w s = _
  unfold execRegisterWrite; rw [h]

theorem exec_registerWrite_unlisted {s : State} {t f a : Nat} {w : Word32} (h : pageReg a = none) :
    exec (.registerWrite t f a w) s = .fault (.noRegister a) := by
  show execRegisterWrite t f a w s = _
  unfold execRegisterWrite; rw [h]

theorem exec_answers (c : Instr) (s : State) :
    (∃ u, exec c s = .next u) ∨ ∃ t f a w, c = .registerWrite t f a w ∧ pageReg a = none ∧ exec c s = .fault (.noRegister a) := by
  cases c with
  | registerWrite t f a w =>
    cases h : pageReg a with
    | none => exact .inr ⟨t, f, a, w, rfl, h, exec_registerWrite_unlisted h⟩
    | some r => exact .inl ⟨_, exec_registerWrite_listed h⟩
  | tamperDetected => exact .inl ⟨_, Outcome.ite_next _ _⟩
  | powerOn => exact .inl ⟨_, Outcome.ite_next _ _⟩
  | _ => exact .inl ⟨_, rfl⟩

/-- In an unpowered module a command of the running module only moves the counter. -/
theorem exec_unpowered {s u : State} {c : Instr} (hp : s.rst.powered = false) (hc : alwaysAnswered c = false)
    (h : exec c s = .next u) : ∃ t, u = s.upTo t := by
  have hn : ¬ s.rst.powered = true := by rw [hp]; decide
  cases c with
  | tamperDetected | powerOn | vbatLoss | hotSwapConnect | nextractAsserted | nextractReleased => cases hc
  | registerWrite t f a w =>
    cases hreg : pageReg a with
    | none => rw [exec_registerWrite_unlisted hreg] at h; cases h
    | some r =>
      rw [exec_registerWrite_listed hreg] at h
      exact ⟨t, (Host.Outcome.next.inj h).symm.trans (if_neg hn)⟩
  | _ => exact ⟨_, (Host.Outcome.next.inj h).symm.trans (if_neg hn)⟩

/-- Settles O6: every command answers but the write of an unlisted register; the direction of the counter is the move's, and in an unpowered
module only the commands excepted do more than move the counter. -/
theorem everyCommandCompletes : Obligations.EveryCommandCompletes := by
  refine ⟨exec_answers, fun c s u h => ?_, fun c s u hp hsupply htamper h => ?_⟩
  · exact (exec_moves c h).tsc.imp_left fun hle => ⟨Nat.div_le_div_right hle, hle⟩
  · have hc : alwaysAnswered c = false := by
      cases c with
      | tamperDetected t n => exact absurd rfl (htamper t n)
      | powerOn t => exact absurd rfl (hsupply t).1
      | vbatLoss t => exact absurd rfl (hsupply t).2.1
      | hotSwapConnect t => exact absurd rfl (hsupply t).2.2.1
      | nextractAsserted t => exact absurd rfl (hsupply t).2.2.2.1
      | nextractReleased t => exact absurd rfl (hsupply t).2.2.2.2
      | _ => rfl
    obtain ⟨t, rfl⟩ := exec_unpowered hp hc h
    exact ⟨Nat.le_max_left _ _, Frame.of_upTo (Frame.refl [] _)⟩

end Sys2Proof.Machine
end

section
/-! What changes no key slot (R324-R330): the rules for the operations that touch the cipher engine's state beside its slots. A rule is named
for its operation, so that the chain `h.f.g` reads as the model's `(s.f).g`. -/

set_option Elab.async false

namespace Sys2Proof.Machine

/-- From one state to the other every key slot held what it held. -/
def SameSlots (s t : State) : Prop := t.cipher.slots = s.cipher.slots

/-- Every part of the state but the cipher engine. -/
def keylessParts : List Part :=
  [.variant, .tsc, .pending, .free, .out, .dict, .written, .hier, .mgr, .time, .tether, .log, .ports, .echoes, .lanes, .spools, .pages,
   .routes, .cells, .trip, .checkParts, .ring, .sensing, .rst, .sup]

section Operations

variable {s₀ s t : State} {f n r b c d p k cause kind : Nat}

theorem SameSlots.refl (s : State) : SameSlots s s := rfl

/-- An update of anything but the slots. -/
theorem SameSlots.update (h : SameSlots s₀ s) (slots : t.cipher.slots = s.cipher.slots := by rfl) : SameSlots s₀ t := slots.trans h

/-- An operation that its frame keeps away from the cipher engine. -/
theorem SameSlots.keeps (h : SameSlots s₀ s) (k : Keeps keylessParts s t) : SameSlots s₀ t :=
  h.update (congrArg Cipher.slots (k.frame .cipher (by decide)))

theorem SameSlots.ite {c : Prop} [Decidable c] (hs : SameSlots s₀ s) (ht : SameSlots s₀ t) : SameSlots s₀ (if c then s else t) := by
  split
  · exact hs
  · exact ht

theorem SameSlots.each {α : Type} {l : List α} {f : State → α → State} (h : SameSlots s₀ s)
    (hf : ∀ u x, SameSlots s₀ u → SameSlots s₀ (f u x)) : SameSlots s₀ (s.each l f) := by
  unfold State.each
  induction l generalizing s with
  | nil => exact h
  | cons x l ih => exact ih (hf s x h)

/-! ## Jobs (R334-R345) -/

theorem SameSlots.closeCtx (h : SameSlots s₀ s) : SameSlots s₀ (s.closeCtx f n) :=
  h.keeps (by apply State.closeCtx_keeps; exact .refl _ _; all_goals decide)

theorem SameSlots.consumeRing (h : SameSlots s₀ s) : SameSlots s₀ (s.consumeRing f k) :=
  h.keeps (by apply State.consumeRing_keeps; exact .refl _ _; all_goals decide)

theorem SameSlots.writeOut {j : CipherJob} {data : Bytes} (h : SameSlots s₀ s) : SameSlots s₀ (s.writeOut j data) :=
  h.keeps (by apply State.writeOut_keeps; exact .refl _ _; all_goals decide)

theorem SameSlots.postDone {j : CipherJob} {status len : Nat} {unverified : Bool} (h : SameSlots s₀ s) :
    SameSlots s₀ (s.postDone j status len unverified) :=
  h.keeps (by apply State.postDone_keeps; exact .refl _ _; all_goals decide)

theorem SameSlots.failJob {j : CipherJob} {status : Nat} (h : SameSlots s₀ s) : SameSlots s₀ (s.failJob n j status) := by
  unfold State.failJob
  extract_lets _ u v w
  have hu : SameSlots s₀ u := h.update
  have hv : SameSlots s₀ v := .ite hu.closeCtx hu.consumeRing
  have hw : SameSlots s₀ w := .ite hv.writeOut hv
  exact hw.postDone

theorem SameSlots.refuseJob {j : CipherJob} {status : Nat} (h : SameSlots s₀ s) : SameSlots s₀ (s.refuseJob n j status) := by
  unfold State.refuseJob
  exact (SameSlots.ite h (.ite h.closeCtx h)).failJob

theorem SameSlots.takeCipher {x : CipherDesc} {again : Bool} (h : SameSlots s₀ s) : SameSlots s₀ (s.takeCipher f x again) := by
  unfold State.takeCipher
  extract_lets id onFail refusal j _ _ u _ v
  have hu : SameSlots s₀ u := h.update
  have hv : SameSlots s₀ v := .ite hu.update hu
  clear_value v refusal
  cases refusal with
  | some _ => exact .ite hv hv.refuseJob
  | none => exact hv

theorem SameSlots.abortCtxs {w : Word32} (h : SameSlots s₀ s) : SameSlots s₀ (s.abortCtxs f w) := by
  unfold State.abortCtxs
  exact h.each fun _ _ hu => (hu.each fun _ _ hv => hv.failJob).closeCtx

/-! ## Resets other than a cold one (R409) -/

theorem SameSlots.performReset (h : SameSlots s₀ s) (hkind : kind ≠ 1) : SameSlots s₀ (s.performReset cause kind) := by
  unfold State.performReset
  extract_lets u data _ bankA _ bankB _ u₁ u₂ _ _ u₃ _ u₄ u₅
  have hu : SameSlots s₀ u := h.keeps <| by
    apply State.recordReset_keeps
    · apply State.lockoutCheck_keeps; exact .refl _ _; all_goals decide
    · decide
  have hclear : SameSlots s₀ (u₁.clearFor kind) := by
    have hcold : (kind == 1) = false := beq_false_of_ne hkind
    refine (hu.update (t := u₁)).update ?_
    show resetSlots (kind == 1) _ = _
    rw [hcold]; rfl
  have hdomains : SameSlots s₀ ((u₁.clearFor kind).resetDomains kind) :=
    hclear.keeps (by apply State.resetDomains_keeps; exact .refl _ _; all_goals decide)
  have hu₂ : SameSlots s₀ u₂ := hdomains.keeps (by apply State.holdShed_keeps; exact .refl _ _; all_goals decide)
  have hu₃ : SameSlots s₀ u₃ := .ite hu₂.update hu₂
  exact hu₃.update

theorem SameSlots.requestReset (h : SameSlots s₀ s) (hkind : kind ≠ 1) : SameSlots s₀ (s.requestReset cause kind) := by
  have hperform : SameSlots s₀ (s.performReset cause kind) := h.performReset hkind
  unfold State.requestReset
  refine .ite h (.ite h ?_)
  split
  · exact hperform
  · exact .ite hperform (.ite h.update (.ite hperform h))

theorem SameSlots.fatal (h : SameSlots s₀ s) : SameSlots s₀ (s.fatal cause n) := by
  have hu : SameSlots s₀ (s.event 0 0x0206 sevFatal (toBE 1 cause ++ [0] ++ toBE 2 n)) := h.update
  exact .ite (hu.requestReset (by decide)) hu.update

theorem SameSlots.holdBlock (h : SameSlots s₀ s) : SameSlots s₀ (s.holdBlock r b) := by
  unfold State.holdBlock
  extract_lets _ u
  have hu : SameSlots s₀ u := h.update
  exact .ite hu.fatal (.ite hu.fatal hu)

/-! ## Cells that leave service (R20-R22) -/

theorem SameSlots.reopen (h : SameSlots s₀ s) : SameSlots s₀ (s.reopen r b c) := by
  unfold State.reopen
  refine .ite h.update (.ite ?_ (.ite h.update (.ite h.update h)))
  exact h.keeps (by apply State.poolItems_keeps; exact .refl _ _; all_goals decide)

theorem SameSlots.standIn (h : SameSlots s₀ s) : SameSlots s₀ (s.standIn n) :=
  h.keeps (by apply State.standIn_keeps; exact .refl _ _; all_goals decide)

theorem SameSlots.withdraw (h : SameSlots s₀ s) : SameSlots s₀ (s.withdraw r b c) := by
  unfold State.withdraw
  refine .ite h (SameSlots.reopen ?_).standIn
  exact h.update

theorem SameSlots.contain (h : SameSlots s₀ s) : SameSlots s₀ (s.contain n) := by
  unfold State.contain
  exact .ite h (.ite h.withdraw (h.keeps (by apply State.escalate_keeps; exact .refl _ _; all_goals decide)))

/-! ## Blocks that stop, are reset or released (R23-R30) -/

theorem SameSlots.clearFunction (h : SameSlots s₀ s) : SameSlots s₀ (s.clearFunction f) := h.update

theorem SameSlots.returnItem {status count : Nat} (h : SameSlots s₀ s) : SameSlots s₀ (s.returnItem n status count) := h.update

theorem SameSlots.failCheck {x : CheckPart} {status : Nat} (h : SameSlots s₀ s) : SameSlots s₀ (s.failCheck x status) :=
  h.keeps (by apply State.failCheck_keeps; exact .refl _ _; all_goals decide)

theorem SameSlots.returnFunction (h : SameSlots s₀ s) : SameSlots s₀ (s.returnFunction f) := by
  unfold State.returnFunction
  extract_lets u u₁ u₂ _
  have hu : SameSlots s₀ u := h.each fun v x hv => hv.keeps <| by
    apply State.consumeTx_keeps
    · apply State.postTxc_keeps; exact .refl _ _; all_goals decide
    · decide
  have hu₁ : SameSlots s₀ u₁ := hu.each fun _ _ hv => hv.failJob
  have hu₂ : SameSlots s₀ u₂ := hu₁.each fun _ _ hv => hv.failCheck
  exact .ite hu₂ hu₂.returnItem

theorem SameSlots.clearEvents (h : SameSlots s₀ s) : SameSlots s₀ (s.clearEvents f) := h.update

theorem SameSlots.clearHostPort (h : SameSlots s₀ s) : SameSlots s₀ (s.clearHostPort n) :=
  h.each fun _ _ hu => hu.returnFunction.clearFunction.clearEvents

theorem SameSlots.stopCipher (h : SameSlots s₀ s) : SameSlots s₀ s.stopCipher := by
  unfold State.stopCipher
  extract_lets u v
  have hu : SameSlots s₀ u := h.each fun _ _ hv => hv.failJob
  have hv : SameSlots s₀ v := hu.each fun _ _ hw => hw.update
  exact hv.update

theorem SameSlots.stopKeys (h : SameSlots s₀ s) : SameSlots s₀ s.stopKeys := by
  unfold State.stopKeys
  extract_lets _ u l _
  have hu : SameSlots s₀ u := by
    unfold u
    split
    · exact h.update
    · exact h
  exact (hu.update (t := { u with cipher := { u.cipher with waiting := [] } })).each fun _ _ hv => hv.update

theorem SameSlots.stopBlock (h : SameSlots s₀ s) : SameSlots s₀ (s.stopBlock r b) := by
  unfold State.stopBlock
  refine .ite (.ite ?port h) (.ite ?cluster (.ite ?spools (.ite ?pool (.ite h.stopCipher (.ite h.stopKeys (.ite ?checks (.ite ?ring
    (.ite h.clearHostPort (.ite h.clearHostPort (.ite ?sensing (.ite ?trip (.ite ?tether h))))))))))))
  case port => exact h.keeps (by apply State.stopPort_keeps; exact .refl _ _; all_goals decide)
  case cluster => exact h.keeps (by apply State.stopCluster_keeps; exact .refl _ _; all_goals decide)
  case spools => exact h.keeps (by apply State.stopSpools_keeps; exact .refl _ _; all_goals decide)
  case pool => exact h.keeps (by apply State.stopPool_keeps; exact .refl _ _; all_goals decide)
  case checks => exact h.keeps (by apply State.stopChecks_keeps; exact .refl _ _; all_goals decide)
  case ring => exact h.keeps (by apply State.ringBlockDown_keeps; exact .refl _ _; all_goals decide)
  case sensing => exact h.keeps (by apply State.startSensing_keeps; exact .refl _ _; all_goals decide)
  case trip => exact h.keeps (by apply State.stopTrip_keeps; exact .refl _ _; all_goals decide)
  case tether => exact h.update

theorem SameSlots.regionNext (h : SameSlots s₀ s) : SameSlots s₀ (s.regionNext r) :=
  h.keeps (by apply State.regionNext_keeps; exact .refl _ _; all_goals decide)

theorem SameSlots.blockDown {st : BlockState} (h : SameSlots s₀ s) : SameSlots s₀ (s.blockDown r b st) := by
  unfold State.blockDown
  extract_lets x up u m u₁ u₂ u₃ _ u₄
  have hu : SameSlots s₀ u := h.update
  have hu₁ : SameSlots s₀ u₁ := .ite hu hu.returnItem
  have hu₂ : SameSlots s₀ u₂ := hu₁.update
  have hu₃ : SameSlots s₀ u₃ := .ite hu₂.stopBlock hu₂
  have hu₄ : SameSlots s₀ u₄ := hu₃.update
  exact .ite h (.ite hu₄.regionNext hu₄)

theorem SameSlots.blockReset (h : SameSlots s₀ s) : SameSlots s₀ (s.blockReset r b) := by
  unfold State.blockReset
  extract_lets u l _ u₁ u₂
  have hu : SameSlots s₀ u := h.blockDown
  have hu₂ : SameSlots s₀ u₂ := hu.update
  exact .ite hu₂.holdBlock.regionNext hu₂

theorem SameSlots.nextRelease (h : SameSlots s₀ s) : SameSlots s₀ s.nextRelease :=
  h.keeps (by apply State.nextRelease_keeps; exact .refl _ _; all_goals decide)

theorem SameSlots.failSelfTest {l : List Nat} (h : SameSlots s₀ s) : SameSlots s₀ (s.failSelfTest r b l) :=
  h.each fun u c hu => (hu.update (t := { u with sup := { u.sup with selfTestFailed := primaryOf (srcOf r b c) :: u.sup.selfTestFailed } })).contain

theorem SameSlots.releaseBlock {l : List Nat} (h : SameSlots s₀ s) : SameSlots s₀ (s.releaseBlock r b l) := by
  unfold State.releaseBlock
  extract_lets d u x u₁ _ u₂ u₃ u₄
  have hu : SameSlots s₀ u := by
    have hdomain : SameSlots s₀ (s.domainOn d) := h.keeps (by apply State.domainOn_keeps; exact .refl _ _; all_goals decide)
    exact (SameSlots.ite h hdomain).keeps (by apply State.loadDeferred_keeps; exact .refl _ _; all_goals decide)
  have hu₂ : SameSlots s₀ u₂ := hu.update
  have hu₃ : SameSlots s₀ u₃ := hu₂.keeps <| by
    apply State.beginBlock_keeps
    · apply State.restoreUnits_keeps; exact .refl _ _; all_goals decide
    all_goals decide
  have hu₄ : SameSlots s₀ u₄ := .ite hu₃.regionNext hu₃
  exact .ite h (.ite hu₄.failSelfTest.nextRelease h)

/-! ## Domains (R413, R414, R433-R435) -/

theorem SameSlots.domainDown {st : BlockState} (h : SameSlots s₀ s) : SameSlots s₀ (s.domainDown d st) := h.each fun _ _ hu => hu.blockDown

theorem SameSlots.setDomain {x : Domain} (h : SameSlots s₀ s) : SameSlots s₀ (s.setDomain d x) := h.update

theorem SameSlots.domainOff (h : SameSlots s₀ s) : SameSlots s₀ (s.domainOff d) := h.setDomain.domainDown

theorem SameSlots.holdDomain (h : SameSlots s₀ s) : SameSlots s₀ (s.holdDomain d) :=
  h.each fun _ _ hu => .ite hu hu.blockDown.holdBlock

theorem SameSlots.clockFault (h : SameSlots s₀ s) : SameSlots s₀ (s.clockFault d) := h.update

theorem SameSlots.domainFault (h : SameSlots s₀ s) : SameSlots s₀ (s.domainFault d) := h.clockFault.setDomain.holdDomain.nextRelease

theorem SameSlots.settleDomains (h : SameSlots s₀ s) : SameSlots s₀ s.settleDomains :=
  h.each fun _ _ hu => .ite (.ite hu hu.domainOff) (.ite hu.setDomain hu)

theorem SameSlots.enterRecovery (h : SameSlots s₀ s) : SameSlots s₀ s.enterRecovery := by
  unfold State.enterRecovery
  extract_lets _ u
  exact (SameSlots.each (h.update (t := u)) fun _ _ hv => .ite hv hv.domainOff).nextRelease

theorem SameSlots.verifyBank {hash : Bytes} {x : BankCheck} (h : SameSlots s₀ s) : SameSlots s₀ (s.verifyBank b hash x) :=
  h.keeps (by apply State.verifyBank_keeps; exact .refl _ _; all_goals decide)

theorem SameSlots.bootFrom (h : SameSlots s₀ s) : SameSlots s₀ (s.bootFrom b n) :=
  h.keeps (by apply State.bootFrom_keeps; exact .refl _ _; all_goals decide)

theorem SameSlots.boot {x y : BankCheck} (h : SameSlots s₀ s) : SameSlots s₀ (s.boot x y) := by
  unfold State.boot
  extract_lets p found u v
  have hu : SameSlots s₀ u := h.verifyBank
  have hv : SameSlots s₀ v := hu.verifyBank
  exact .ite hu.bootFrom.nextRelease (.ite hv.bootFrom.nextRelease hv.enterRecovery)

/-! ## Configuration coming into force (R56) -/

theorem SameSlots.applyConfig {old : State} (h : SameSlots s₀ s) : SameSlots s₀ (s.applyConfig old) := by
  unfold State.applyConfig
  extract_lets u u₁ u₂ u₃
  have hpeers : SameSlots s₀ ((s.settleTime old).settleTether old).settlePeers := h.keeps <| by
    apply State.settlePeers_keeps
    · apply State.settleTether_keeps
      · apply State.settleTime_keeps; exact .refl _ _; all_goals decide
      all_goals decide
    all_goals decide
  have hu : SameSlots s₀ u := hpeers.settleDomains.keeps (by apply State.settlePages_keeps; exact .refl _ _; all_goals decide)
  have hu₁ : SameSlots s₀ u₁ := hu.each fun _ _ hv => hv.keeps (by apply State.settlePort_keeps; exact .refl _ _; all_goals decide)
  have hu₂ : SameSlots s₀ u₂ := hu₁.each fun _ _ hv => hv.keeps (by apply State.settleProfile_keeps; exact .refl _ _; all_goals decide)
  have hu₃ : SameSlots s₀ u₃ := hu₂.keeps <| by
    apply State.settleSensing_keeps
    · apply State.settleKeys_keeps; exact .refl _ _; all_goals decide
    all_goals decide
  refine hu₃.keeps ?_
  apply State.settleCommand_keeps
  · apply State.ringTick_keeps; exact .refl _ _; all_goals decide
  all_goals decide

theorem SameSlots.activateCommit (h : SameSlots s₀ s) : SameSlots s₀ s.activateCommit := by
  have hvalues : SameSlots s₀ (s.commitValues s.mgr.staging) :=
    h.keeps (by apply State.commitValues_keeps; exact .refl _ _; all_goals decide)
  have hepoch : SameSlots s₀ s.activated := hvalues.update
  exact .ite hepoch.applyConfig h

end Operations
end Sys2Proof.Machine
end

section
/-! Only the commands named change a key slot (O5): the commands that touch the engine keep the slots by the rules of their operations, the
others by their frames. -/

set_option Elab.async false

namespace Sys2Proof.Machine

section Commands

variable {s u : State} {t f n r b d p k : Nat}

/-- A command whose frame leaves the cipher engine out. -/
theorem Keeps.sameSlots {ps : List Part} (h : Keeps ps (s.upTo t) u) (hc : Part.cipher ∉ ps := by decide) : SameSlots s u :=
  congrArg Cipher.slots (h.frame .cipher hc)

theorem SameSlots.run {g : State → State} (h : s.run t g = .next u) (hg : SameSlots (s.upTo t) (g (s.upTo t))) : SameSlots s u := by
  rw [State.run_eq] at h
  cases h
  split
  · exact hg
  · exact .refl _

theorem cipherJobFetch_sameSlots {x : CipherDesc} (h : execCipherJobFetch t f x s = .next u) : SameSlots s u :=
  SameSlots.run h <| .ite (.refl _) <| .ite (.takeCipher (.refl _)) <| .ite (.refl _) <| .ite (.update (.refl _)) (.takeCipher (.refl _))

theorem knownAnswerTest_sameSlots {pass : Bool} (h : execKnownAnswerTest t n pass s = .next u) : SameSlots s u :=
  SameSlots.run h <| .ite (.ite (.update (.refl _)) (.withdraw (.update (.refl _)))) (.refl _)

theorem ctxAbort_sameSlots {w : Word32} (h : execCtxAbort t f w s = .next u) : SameSlots s u :=
  SameSlots.run h <| .ite (.abortCtxs (.refl _)) (.refl _)

theorem functionLevelReset_sameSlots (h : execFunctionLevelReset t f s = .next u) : SameSlots s u :=
  SameSlots.run h <| .ite (.clearFunction (.refl _)) (.refl _)

theorem commitActivate_sameSlots (h : execCommitActivate t s = .next u) : SameSlots s u :=
  SameSlots.run h <| .ite (.activateCommit (.refl _)) (.refl _)

theorem external_sameSlots (h : execExternal t n s = .next u) : SameSlots s u :=
  SameSlots.run h <| .ite (.requestReset (.refl _) (by decide)) (.refl _)

theorem watchdog_sameSlots (h : execWatchdog t s = .next u) : SameSlots s u :=
  SameSlots.run h <| .requestReset (.refl _) (by split <;> decide)

theorem thermal_sameSlots {temp : Int} (h : execThermal t temp s = .next u) : SameSlots s u :=
  SameSlots.run h <| .ite (.update (.requestReset (cause := 8) (kind := 2) (.refl _) (by decide))) (.refl _)

theorem nextractReleased_sameSlots (h : execNextractReleased t s = .next u) : SameSlots s u := by
  cases h
  split
  · exact .refl _
  · exact .ite (.requestReset (.refl _) (by decide)) (.refl _)

theorem domainClockTimeout_sameSlots (h : execDomainClockTimeout t d s = .next u) : SameSlots s u :=
  SameSlots.run h <| .ite (.domainFault (.refl _)) (.refl _)

theorem domainClockLost_sameSlots (h : execDomainClockLost t d s = .next u) : SameSlots s u :=
  SameSlots.run h <| .ite (.domainDown (.setDomain (.clockFault (.refl _)))) (.refl _)

theorem bootImageVerified_sameSlots {x y : BankCheck} (h : execBootImageVerified t x y s = .next u) : SameSlots s u :=
  SameSlots.run h <| .ite (.boot (.refl _)) <| .ite (.ite (.nextRelease (.refl _)) (.refl _)) (.refl _)

theorem SameSlots.entryError {s₀ : State} (h : SameSlots s₀ s) : SameSlots s₀ (s.entryError r b n) :=
  h.keeps (by apply State.entryError_keeps; exact .refl _ _; all_goals decide)

theorem SameSlots.replaceBank {s₀ : State} (h : SameSlots s₀ s) : SameSlots s₀ (s.replaceBank n) :=
  h.keeps (by apply State.replaceBank_keeps; exact .refl _ _; all_goals decide)

theorem SameSlots.event {s₀ : State} {src code sev : Nat} {data : Bytes} (h : SameSlots s₀ s) : SameSlots s₀ (s.event src code sev data) := h.update

theorem uncorrectableError_sameSlots (h : execUncorrectableError t n k s = .next u) : SameSlots s u :=
  SameSlots.run h <| .ite (.fatal (.refl _)) <| .ite (.refl _) <| .ite (.entryError (.event (.refl _))) (.contain (.event (.refl _)))

theorem correctionThreshold_sameSlots (h : execCorrectionThreshold t n k s = .next u) : SameSlots s u :=
  have hu : ∀ {v : State} {data : Bytes}, SameSlots v (v.event n 0x0201 sevWarning data) := .event (.refl _)
  SameSlots.run h <| .ite (.ite (.ite (.replaceBank hu) hu) (.contain hu)) (.refl _)

theorem blockIdle_sameSlots (h : execBlockIdle t r b s = .next u) : SameSlots s u :=
  SameSlots.run h <| .ite (.blockReset (.refl _)) (.refl _)

theorem idleTimeout_sameSlots (h : execIdleTimeout t r b s = .next u) : SameSlots s u :=
  SameSlots.run h <| .ite (.blockReset (.refl _)) (.refl _)

theorem blockRelease_sameSlots {l : List Nat} (h : execBlockRelease t r b l s = .next u) : SameSlots s u :=
  SameSlots.run h <| .releaseBlock (.refl _)

theorem phaseShed_sameSlots (h : execPhaseShed t r p s = .next u) : SameSlots s u := by
  refine SameSlots.run h (.ite ?_ (.refl _))
  extract_lets _ v w
  have hw : SameSlots (s.upTo t) w := .event (.update (.refl _))
  exact .ite (hw.each fun _ _ hx => hx.setDomain.holdDomain) hw

end Commands

/-- What no key command, no beat, no error of the key store, no tamper detection and no start or loss of the supply brings about. -/
theorem exec_sameSlots {s u : State} : ∀ c : Instr, mayChangeKeys c = false → exec c s = .next u → SameSlots s u
  | .uncorrectableError .., _, h => uncorrectableError_sameSlots h
  | .correctionThreshold .., _, h => correctionThreshold_sameSlots h
  | .blockIdle .., _, h => blockIdle_sameSlots h
  | .idleTimeout .., _, h => idleTimeout_sameSlots h
  | .blockRelease .., _, h => blockRelease_sameSlots h
  | .scrubError .., _, h => (execScrubError_keeps _ _ _ _ _ h).sameSlots
  | .mbxGo .., _, h => (execMbxGo_keeps _ _ _ _ h).sameSlots
  | .ringRequestArrival .., _, h => (execRingRequestArrival_keeps _ _ _ _ h).sameSlots
  | .read .., _, h => (execRead_keeps _ _ h).sameSlots
  | .write .., _, h => (execWrite_keeps _ _ h).sameSlots
  | .bundle .., _, h => (execBundle_keeps _ _ h).sameSlots
  | .windowRead .., _, h => (execWindowRead_keeps _ _ h).sameSlots
  | .windowWrite .., _, h => (execWindowWrite_keeps _ _ h).sameSlots
  | .digestQuery .., _, h => (execDigestQuery_keeps _ _ h).sameSlots
  | .digestAnnounceReceived .., _, h => (execDigestAnnounceReceived_keeps _ _ _ _ h).sameSlots
  | .digestAnnounceSend .., _, h => (execDigestAnnounceSend_keeps _ _ h).sameSlots
  | .commit .., _, h => (execCommit_keeps _ _ h).sameSlots
  | .commitDistributionDone .., _, h => (execCommitDistributionDone_keeps _ _ h).sameSlots
  | .abort .., _, h => (execAbort_keeps _ _ h).sameSlots
  | .commitActivate .., _, h => commitActivate_sameSlots h
  | .digestRecomputeDone .., _, h => (execDigestRecomputeDone_keeps _ _ _ h).sameSlots
  | .beatBoundary .., hc, _ => nomatch hc
  | .ref10Qualified .., _, h => (execRef10Qualified_keeps _ _ h).sameSlots
  | .ref10Lost .., _, h => (execRef10Lost_keeps _ _ _ h).sameSlots
  | .timeSourceQualified .., _, h => (execTimeSourceQualified_keeps _ _ _ h).sameSlots
  | .timeSourceLost .., _, h => (execTimeSourceLost_keeps _ _ _ h).sameSlots
  | .timeHoldoverExpiry .., _, h => (execTimeHoldoverExpiry_keeps _ _ h).sameSlots
  | .servoCorrection .., _, h => (execServoCorrection_keeps _ _ _ h).sameSlots
  | .setStationTime .., _, h => (execSetStationTime_keeps _ _ h).sameSlots
  | .ppsEdge .., _, h => (execPpsEdge_keeps _ _ h).sameSlots
  | .ppsOutEdge .., _, h => (execPpsOutEdge_keeps _ _ h).sameSlots
  | .zxCrossing .., _, h => (execZxCrossing_keeps _ _ _ h).sameSlots
  | .zxCrossingMissed .., _, h => (execZxCrossingMissed_keeps _ _ _ h).sameSlots
  | .tetherHoldoverExpiry .., _, h => (execTetherHoldoverExpiry_keeps _ _ h).sameSlots
  | .slotBoundary .., _, h => (execSlotBoundary_keeps _ _ h).sameSlots
  | .eventDelivery .., _, h => (execEventDelivery_keeps _ _ _ h).sameSlots
  | .portStartDelay .., _, h => (execPortStartDelay_keeps _ _ _ h).sameSlots
  | .loopbackDone .., _, h => (execLoopbackDone_keeps _ _ _ _ _ h).sameSlots
  | .relayContactSense .., _, h => (execRelayContactSense_keeps _ _ _ _ _ h).sameSlots
  | .relaySenseTimeout .., _, h => (execRelaySenseTimeout_keeps _ _ _ h).sameSlots
  | .portLanesIdle .., _, h => (execPortLanesIdle_keeps _ _ _ h).sameSlots
  | .faultRetryExpiry .., _, h => (execFaultRetryExpiry_keeps _ _ _ h).sameSlots
  | .retryReload .., _, h => (execRetryReload_keeps _ _ _ h).sameSlots
  | .transmitPowerMeasure .., _, h => (execTransmitPowerMeasure_keeps _ _ _ _ h).sameSlots
  | .currentLimit .., _, h => (execCurrentLimit_keeps _ _ _ h).sameSlots
  | .driverTemperatureRead .., _, h => (execDriverTemperatureRead_keeps _ _ _ _ h).sameSlots
  | .agcUpdate .., _, h => (execAgcUpdate_keeps _ _ _ _ h).sameSlots
  | .clampOvervoltage .., _, h => (execClampOvervoltage_keeps _ _ _ h).sameSlots
  | .impedanceMeasure .., _, h => (execImpedanceMeasure_keeps _ _ _ _ _ h).sameSlots
  | .laneRestartEnd .., _, h => (execLaneRestartEnd_keeps _ _ _ _ h).sameSlots
  | .complianceIntegrationEnd .., _, h => (execComplianceIntegrationEnd_keeps _ _ _ _ _ h).sameSlots
  | .clipRelax .., _, h => (execClipRelax_keeps _ _ _ _ _ h).sameSlots
  | .tmapUnacknowledged .., _, h => (execTmapUnacknowledged_keeps _ _ _ h).sameSlots
  | .preambleDetection .., _, h => (execPreambleDetection_keeps _ _ _ _ _ h).sameSlots
  | .headerCheckResult .., _, h => (execHeaderCheckResult_keeps _ _ _ _ _ _ h).sameSlots
  | .rearmEnd .., _, h => (execRearmEnd_keeps _ _ _ _ h).sameSlots
  | .lastSymbolReceived .., _, h => (execLastSymbolReceived_keeps _ _ _ _ h).sameSlots
  | .dualCaptureReplay .., _, h => (execDualCaptureReplay_keeps _ _ _ _ h).sameSlots
  | .decodeResult .., _, h => (execDecodeResult_keeps _ _ _ _ _ _ h).sameSlots
  | .rxSymbolEnd .., _, h => (execRxSymbolEnd_keeps _ _ _ _ _ h).sameSlots
  | .echoTrainingEnd .., _, h => (execEchoTrainingEnd_keeps _ _ _ _ _ h).sameSlots
  | .echoSuppressionMeasure .., _, h => (execEchoSuppressionMeasure_keeps _ _ _ _ _ _ _ h).sameSlots
  | .echoHoldTimeout .., _, h => (execEchoHoldTimeout_keeps _ _ _ _ h).sameSlots
  | .echoResolveDone .., _, h => (execEchoResolveDone_keeps _ _ _ _ _ h).sameSlots
  | .echoHoldLimit .., _, h => (execEchoHoldLimit_keeps _ _ _ _ h).sameSlots
  | .echoLostResolve .., _, h => (execEchoLostResolve_keeps _ _ _ _ _ h).sameSlots
  | .echoModelRefresh .., _, h => (execEchoModelRefresh_keeps _ _ _ _ _ h).sameSlots
  | .noiseFloorWindow .., _, h => (execNoiseFloorWindow_keeps _ _ _ _ _ h).sameSlots
  | .noiseFloorPublish .., _, h => (execNoiseFloorPublish_keeps _ _ _ _ h).sameSlots
  | .laneFrameStart .., _, h => (execLaneFrameStart_keeps _ _ _ _ h).sameSlots
  | .laneFrameEnd .., _, h => (execLaneFrameEnd_keeps _ _ _ _ h).sameSlots
  | .grantLapse .., _, h => (execGrantLapse_keeps _ _ _ _ h).sameSlots
  | .beaconSend .., _, h => (execBeaconSend_keeps _ _ h).sameSlots
  | .dataFrameReceived .., _, h => (execDataFrameReceived_keeps _ _ _ h).sameSlots
  | .ackFrameReceived .., _, h => (execAckFrameReceived_keeps _ _ _ h).sameSlots
  | .ackTimeout .., _, h => (execAckTimeout_keeps _ _ _ _ h).sameSlots
  | .standaloneAckDue .., _, h => (execStandaloneAckDue_keeps _ _ _ h).sameSlots
  | .unroutedHoldExpiry .., _, h => (execUnroutedHoldExpiry_keeps _ _ _ h).sameSlots
  | .spoolDisable .., _, h => (execSpoolDisable_keeps _ _ _ h).sameSlots
  | .spoolEnable .., _, h => (execSpoolEnable_keeps _ _ _ h).sameSlots
  | .spoolFlush .., _, h => (execSpoolFlush_keeps _ _ _ h).sameSlots
  | .txqDoorbell .., _, h => (execTxqDoorbell_keeps _ _ _ _ _ h).sameSlots
  | .rxHoldTimeout .., _, h => (execRxHoldTimeout_keeps _ _ _ h).sameSlots
  | .routeAgeExpiry .., _, h => (execRouteAgeExpiry_keeps _ _ _ h).sameSlots
  | .linkIdleRelease .., _, h => (execLinkIdleRelease_keeps _ _ _ h).sameSlots
  | .linkRelease .., _, h => (execLinkRelease_keeps _ _ _ _ h).sameSlots
  | .linkOffsetWrite .., _, h => (execLinkOffsetWrite_keeps _ _ _ _ _ h).sameSlots
  | .reportReceived .., _, h => (execReportReceived_keeps _ _ _ h).sameSlots
  | .stateReceived .., _, h => (execStateReceived_keeps _ _ _ h).sameSlots
  | .neighboursReceived .., _, h => (execNeighboursReceived_keeps _ _ _ h).sameSlots
  | .probeReplyReceived .., _, h => (execProbeReplyReceived_keeps _ _ _ h).sameSlots
  | .joinReceived .., _, h => (execJoinReceived_keeps _ _ _ h).sameSlots
  | .g9903Bootstrap .., _, h => (execG9903Bootstrap_keeps _ _ _ _ _ _ h).sameSlots
  | .probeTimeout .., _, h => (execProbeTimeout_keeps _ _ _ h).sameSlots
  | .relayWaitExpiry .., _, h => (execRelayWaitExpiry_keeps _ _ _ _ h).sameSlots
  | .matrixSourceChange .., _, h => (execMatrixSourceChange_keeps _ _ h).sameSlots
  | .tripMinPulseEnd .., _, h => (execTripMinPulseEnd_keeps _ _ _ h).sameSlots
  | .commandFrameEnd .., _, h => (execCommandFrameEnd_keeps _ _ _ h).sameSlots
  | .heartbeat .., _, h => (execHeartbeat_keeps _ _ _ _ h).sameSlots
  | .tagStoreRefresh .., _, h => (execTagStoreRefresh_keeps _ _ _ _ h).sameSlots
  | .hypothesisTagCompute .., _, h => (execHypothesisTagCompute_keeps _ _ _ _ h).sameSlots
  | .commandBodyCheck .., _, h => (execCommandBodyCheck_keeps _ _ _ _ h).sameSlots
  | .supervisionTimeout .., _, h => (execSupervisionTimeout_keeps _ _ _ _ h).sameSlots
  | .rekeyChangeoverEnd .., _, h => (execRekeyChangeoverEnd_keeps _ _ _ _ h).sameSlots
  | .cipherJobFetch .., _, h => cipherJobFetch_sameSlots h
  | .cipherSegmentComplete .., hc, _ => nomatch hc
  | .knownAnswerTest .., _, h => knownAnswerTest_sameSlots h
  | .load .., hc, _ => nomatch hc
  | .unwrap .., hc, _ => nomatch hc
  | .erase .., hc, _ => nomatch hc
  | .eraseComplete .., hc, _ => nomatch hc
  | .slotStorageError .., hc, _ => nomatch hc
  | .ctxAbort .., _, h => ctxAbort_sameSlots h
  | .checkJobFetch .., _, h => (execCheckJobFetch_keeps _ _ _ _ h).sameSlots
  | .checkPartComplete .., _, h => (execCheckPartComplete_keeps _ _ _ _ _ _ h).sameSlots
  | .checkCtxCtrlWrite .., _, h => (execCheckCtxCtrlWrite_keeps _ _ _ _ _ h).sameSlots
  | .checkValueWrite .., _, h => (execCheckValueWrite_keeps _ _ _ _ _ _ h).sameSlots
  | .functionLevelReset .., _, h => functionLevelReset_sameSlots h
  | .ringTrainingComplete .., _, h => (execRingTrainingComplete_keeps _ _ _ _ _ _ h).sameSlots
  | .ringLinkLoss .., _, h => (execRingLinkLoss_keeps _ _ _ h).sameSlots
  | .ringConflictTimeout .., _, h => (execRingConflictTimeout_keeps _ _ _ _ h).sameSlots
  | .ringFrameReceived .., _, h => (execRingFrameReceived_keeps _ _ _ _ h).sameSlots
  | .hsrSupervisionSend .., _, h => (execHsrSupervisionSend_keeps _ _ h).sameSlots
  | .ptpMessageReceived .., _, h => (execPtpMessageReceived_keeps _ _ _ _ h).sameSlots
  | .ptpSyncTimeout .., _, h => (execPtpSyncTimeout_keeps _ _ h).sameSlots
  | .bypassSenseMismatch .., _, h => (execBypassSenseMismatch_keeps _ _ _ _ h).sameSlots
  | .ringSteady .., _, h => (execRingSteady_keeps _ _ h).sameSlots
  | .ringActivityInterrupted .., _, h => (execRingActivityInterrupted_keeps _ _ h).sameSlots
  | .ringInsertionBeat .., _, h => (execRingInsertionBeat_keeps _ _ h).sameSlots
  | .ringTrainingLimit .., _, h => (execRingTrainingLimit_keeps _ _ h).sameSlots
  | .ringAttemptInterval .., _, h => (execRingAttemptInterval_keeps _ _ h).sameSlots
  | .autoBypass .., _, h => (execAutoBypass_keeps _ _ h).sameSlots
  | .insertAtBeat .., _, h => (execInsertAtBeat_keeps _ _ h).sameSlots
  | .resultPublish .., _, h => (execResultPublish_keeps _ _ _ _ h).sameSlots
  | .thresholdSwitchChange .., _, h => (execThresholdSwitchChange_keeps _ _ _ _ _ h).sameSlots
  | .generatorFault .., _, h => (execGeneratorFault_keeps _ _ _ h).sameSlots
  | .generatorRestart .., _, h => (execGeneratorRestart_keeps _ _ _ h).sameSlots
  | .leadMonitorDecision .., _, h => (execLeadMonitorDecision_keeps _ _ _ _ h).sameSlots
  | .clampFlagClear .., _, h => (execClampFlagClear_keeps _ _ h).sameSlots
  | .biFilterExpiry .., _, h => (execBiFilterExpiry_keeps _ _ _ h).sameSlots
  | .powerOn .., hc, _ => nomatch hc
  | .brownOut .., hc, _ => nomatch hc
  | .external .., _, h => external_sameSlots h
  | .managerFull .., _, h => (execManagerFull_keeps _ _ h).sameSlots
  | .managerWarm .., _, h => (execManagerWarm_keeps _ _ h).sameSlots
  | .watchdog .., _, h => watchdog_sameSlots h
  | .thermal .., _, h => thermal_sameSlots h
  | .domainClockGood .., _, h => (execDomainClockGood_keeps _ _ _ h).sameSlots
  | .domainClockTimeout .., _, h => domainClockTimeout_sameSlots h
  | .domainClockLost .., _, h => domainClockLost_sameSlots h
  | .domainClockReturn .., _, h => (execDomainClockReturn_keeps _ _ _ h).sameSlots
  | .bootImageVerified .., _, h => bootImageVerified_sameSlots h
  | .bootCommit .., _, h => (execBootCommit_keeps _ _ h).sameSlots
  | .bar0EarlyAccess .., _, h => (execBar0EarlyAccess_keeps _ _ _ _ h).sameSlots
  | .saveConfiguration .., _, h => (execSaveConfiguration_keeps _ _ h).sameSlots
  | .saveComplete .., _, h => (execSaveComplete_keeps _ _ h).sameSlots
  | .imageBlock .., _, h => (execImageBlock_keeps _ _ h).sameSlots
  | .eraseBank .., _, h => (execEraseBank_keeps _ _ h).sameSlots
  | .verify .., _, h => (execVerify_keeps _ _ _ h).sameSlots
  | .eraseConfigurationOnly .., _, h => (execEraseConfigurationOnly_keeps _ _ h).sameSlots
  | .backupTimeCopy .., _, h => (execBackupTimeCopy_keeps _ _ h).sameSlots
  | .vbatLoss .., _, h => (execVbatLoss_keeps _ _ h).sameSlots
  | .hotSwapConnect .., _, h => (execHotSwapConnect_keeps _ _ h).sameSlots
  | .nextractAsserted .., _, h => (execNextractAsserted_keeps _ _ h).sameSlots
  | .extractPowerDown .., hc, _ => nomatch hc
  | .nextractReleased .., _, h => nextractReleased_sameSlots h
  | .phaseShed .., _, h => phaseShed_sameSlots h
  | .ageingMeasurement .., _, h => (execAgeingMeasurement_keeps _ _ _ h).sameSlots
  | .ageingFlashWrite .., _, h => (execAgeingFlashWrite_keeps _ _ h).sameSlots
  | .substitutionStart .., _, h => (execSubstitutionStart_keeps _ _ h).sameSlots
  | .bankCopyDone .., _, h => (execBankCopyDone_keeps _ _ _ h).sameSlots
  | .ballastSubstitute .., _, h => (execBallastSubstitute_keeps _ _ h).sameSlots
  | .ballastReturn .., _, h => (execBallastReturn_keeps _ _ h).sameSlots
  | .ballastSelfTest .., _, h => (execBallastSelfTest_keeps _ _ _ _ h).sameSlots
  | .tamperDetected .., hc, _ => nomatch hc
  | .tamperLatchClear .., _, h => (execTamperLatchClear_keeps _ _ h).sameSlots
  | .evtPop .., _, h => (execEvtPop_keeps _ _ _ _ h).sameSlots
  | .evtOverflowClear .., _, h => (execEvtOverflowClear_keeps _ _ _ _ h).sameSlots
  | .registerWrite .., hc, _ => nomatch hc
  | .ringRelayContactSense .., _, h => (execRingRelayContactSense_keeps _ _ _ _ h).sameSlots
  | .ringRoleConflict .., _, h => (execRingRoleConflict_keeps _ _ _ h).sameSlots
  | .ringTransmitEnd .., _, h => (execRingTransmitEnd_keeps _ _ _ h).sameSlots
  | .ptpMessageInterval .., _, h => (execPtpMessageInterval_keeps _ _ h).sameSlots
  | .driverRailRegulation .., _, h => (execDriverRailRegulation_keeps _ _ _ _ h).sameSlots
  | .generatorRampEnd .., _, h => (execGeneratorRampEnd_keeps _ _ _ h).sameSlots
  | .vrefAoChange .., _, h => (execVrefAoChange_keeps _ _ _ h).sameSlots
  | .binaryInputEdge .., _, h => (execBinaryInputEdge_keeps _ _ _ _ h).sameSlots
  | .domainPowerGood .., _, h => (execDomainPowerGood_keeps _ _ _ h).sameSlots
  | .thermalRelease .., _, h => (execThermalRelease_keeps _ _ _ h).sameSlots
  | .rxfDoorbell .., _, h => (execRxfDoorbell_keeps _ _ _ _ _ h).sameSlots
  | .hostConsumerIndexWrite .., _, h => (execHostConsumerIndexWrite_keeps _ _ _ _ _ h).sameSlots
/-- Settles O5: the commands not named keep every slot, whether or not the state is canonical. -/
theorem keySlotsIsolated : Obligations.KeySlotsIsolated := fun c _ _ _ hc h => exec_sameSlots c hc h

end Sys2Proof.Machine
end

section
/-! How a command's effect is read off: what a running module answers, and which parts a written-out state differs in. -/

set_option Elab.async false

namespace Sys2Proof.Machine

/-- A state written out field by field shows what it changed: each part is named, or is as it was. -/
theorem Frame.fields {ps : List Part} {s u : State}
    (variant : Part.variant ∈ ps ∨ u.variant = s.variant := by first | exact .inl (by decide) | exact .inr rfl)
    (tsc : Part.tsc ∈ ps ∨ u.tsc = s.tsc := by first | exact .inl (by decide) | exact .inr rfl)
    (pending : Part.pending ∈ ps ∨ u.pending = s.pending := by first | exact .inl (by decide) | exact .inr rfl)
    (free : Part.free ∈ ps ∨ u.free = s.free := by first | exact .inl (by decide) | exact .inr rfl)
    (out : Part.out ∈ ps ∨ u.out = s.out := by first | exact .inl (by decide) | exact .inr rfl)
    (dict : Part.dict ∈ ps ∨ u.dict = s.dict := by first | exact .inl (by decide) | exact .inr rfl)
    (written : Part.written ∈ ps ∨ u.written = s.written := by first | exact .inl (by decide) | exact .inr rfl)
    (hier : Part.hier ∈ ps ∨ u.hier = s.hier := by first | exact .inl (by decide) | exact .inr rfl)
    (mgr : Part.mgr ∈ ps ∨ u.mgr = s.mgr := by first | exact .inl (by decide) | exact .inr rfl)
    (time : Part.time ∈ ps ∨ u.time = s.time := by first | exact .inl (by decide) | exact .inr rfl)
    (tether : Part.tether ∈ ps ∨ u.tether = s.tether := by first | exact .inl (by decide) | exact .inr rfl)
    (log : Part.log ∈ ps ∨ u.log = s.log := by first | exact .inl (by decide) | exact .inr rfl)
    (ports : Part.ports ∈ ps ∨ u.ports = s.ports := by first | exact .inl (by decide) | exact .inr rfl)
    (echoes : Part.echoes ∈ ps ∨ u.echoes = s.echoes := by first | exact .inl (by decide) | exact .inr rfl)
    (lanes : Part.lanes ∈ ps ∨ u.lanes = s.lanes := by first | exact .inl (by decide) | exact .inr rfl)
    (spools : Part.spools ∈ ps ∨ u.spools = s.spools := by first | exact .inl (by decide) | exact .inr rfl)
    (pages : Part.pages ∈ ps ∨ u.pages = s.pages := by first | exact .inl (by decide) | exact .inr rfl)
    (routes : Part.routes ∈ ps ∨ u.routes = s.routes := by first | exact .inl (by decide) | exact .inr rfl)
    (cells : Part.cells ∈ ps ∨ u.cells = s.cells := by first | exact .inl (by decide) | exact .inr rfl)
    (trip : Part.trip ∈ ps ∨ u.trip = s.trip := by first | exact .inl (by decide) | exact .inr rfl)
    (cipher : Part.cipher ∈ ps ∨ u.cipher = s.cipher := by first | exact .inl (by decide) | exact .inr rfl)
    (checkParts : Part.checkParts ∈ ps ∨ u.checkParts = s.checkParts := by first | exact .inl (by decide) | exact .inr rfl)
    (ring : Part.ring ∈ ps ∨ u.ring = s.ring := by first | exact .inl (by decide) | exact .inr rfl)
    (sensing : Part.sensing ∈ ps ∨ u.sensing = s.sensing := by first | exact .inl (by decide) | exact .inr rfl)
    (rst : Part.rst ∈ ps ∨ u.rst = s.rst := by first | exact .inl (by decide) | exact .inr rfl)
    (sup : Part.sup ∈ ps ∨ u.sup = s.sup := by first | exact .inl (by decide) | exact .inr rfl) : Frame ps s u := by
  intro p hp
  cases p with
  | variant => exact variant.resolve_left hp
  | tsc => exact tsc.resolve_left hp
  | pending => exact pending.resolve_left hp
  | free => exact free.resolve_left hp
  | out => exact out.resolve_left hp
  | dict => exact dict.resolve_left hp
  | written => exact written.resolve_left hp
  | hier => exact hier.resolve_left hp
  | mgr => exact mgr.resolve_left hp
  | time => exact time.resolve_left hp
  | tether => exact tether.resolve_left hp
  | log => exact log.resolve_left hp
  | ports => exact ports.resolve_left hp
  | echoes => exact echoes.resolve_left hp
  | lanes => exact lanes.resolve_left hp
  | spools => exact spools.resolve_left hp
  | pages => exact pages.resolve_left hp
  | routes => exact routes.resolve_left hp
  | cells => exact cells.resolve_left hp
  | trip => exact trip.resolve_left hp
  | cipher => exact cipher.resolve_left hp
  | checkParts => exact checkParts.resolve_left hp
  | ring => exact ring.resolve_left hp
  | sensing => exact sensing.resolve_left hp
  | rst => exact rst.resolve_left hp
  | sup => exact sup.resolve_left hp

/-- The same of a command that brought the counter to its time. -/
theorem Did.record {ps : List Part} {s u : State} {t : Nat} (tsc : u.tsc = max s.tsc t := by rfl)
    (frame : Frame (.tsc :: ps) s u := by exact .fields) : Did t ps s u := ⟨tsc, frame⟩

/-- Fewer changes than named. -/
theorem Did.mono {ps qs : List Part} {s u : State} {t : Nat} (h : Did t ps s u) (hq : ∀ p ∈ ps, p ∈ qs := by decide) : Did t qs s u :=
  ⟨h.1, h.2.mono fun p hp => by
    rcases List.mem_cons.mp hp with rfl | hp
    · exact List.mem_cons_self
    · exact List.mem_cons_of_mem _ (hq p hp)⟩

theorem Did.ite {ps : List Part} {s u v : State} {t : Nat} {c : Prop} [Decidable c] (hu : Did t ps s u) (hv : Did t ps s v) :
    Did t ps s (if c then u else v) := by
  split
  · exact hu
  · exact hv

/-- What was done after the counter had come to the command's time. -/
theorem Did.andThen {ps qs : List Part} {s u v : State} {t : Nat} (h : Did t ps s u) (tsc : v.tsc = u.tsc := by rfl)
    (frame : Frame (.tsc :: qs) u v := by exact .fields) (hps : ∀ p ∈ ps, p ∈ qs := by decide) : Did t qs s v :=
  ⟨tsc.trans h.1, (h.mono hps).2.trans frame⟩

/-- A part that a command did not name is as it was. -/
theorem Did.agrees {ps : List Part} {s u : State} {t : Nat} (h : Did t ps s u) (p : Part) (hp : p ∉ Part.tsc :: ps := by decide) :
    s.agrees u p := h.2 p hp

/-- A command that runs nothing: only the counter came to its time. -/
theorem Did.answer_upTo {s : State} {t : Nat} {c : Instr} (h : exec c s = .next (s.upTo t)) : ∃ u, exec c s = .next u ∧ Did t [] s u :=
  ⟨s.upTo t, h, .upTo s t⟩

end Sys2Proof.Machine
end

section
/-! The timebase (O7): frequency input, holdover, PPS, the choice of the source and the servo (R71-R81). -/

set_option Elab.async false

namespace Sys2Proof.Machine

section Timebase

variable {s : State} {t : Nat}

/-! ## What the servo takes from an error (R77) -/

theorem slewPart_natAbs_le_limit (n : Nat) (e : Int) : (slewPart n e).natAbs ≤ n * 50 / 1000000 := by
  unfold slewPart; dsimp only; split_ifs <;> omega

theorem slewPart_natAbs_le_error (n : Nat) (e : Int) : (slewPart n e).natAbs ≤ e.natAbs := by
  unfold slewPart; dsimp only; split_ifs <;> omega

theorem slewPart_mul_nonneg (n : Nat) (e : Int) : 0 ≤ slewPart n e * e := by
  unfold slewPart
  extract_lets m
  have hm : 0 ≤ m := Int.natCast_nonneg _
  split_ifs
  · exact mul_nonneg hm (by omega)
  · exact mul_nonneg_of_nonpos_of_nonpos (by omega) (by omega)
  · exact mul_self_nonneg e

theorem State.correct_small (s : State) {e : Int} (h : e.natAbs ≤ 1000000) : s.correct e = { s with time := { s.time with
    offset := s.time.offset - slewPart (s.tsc - s.time.servoAt) e, servoAt := s.tsc, ppsError := none } } := if_pos h

theorem State.correct_large (s : State) {e : Int} (h : 1000000 < e.natAbs) :
    s.correct e = { s with time := { s.time with step := some (-e), servoAt := s.tsc, ppsError := none } } := if_neg (by omega)

/-- Only station time is corrected. -/
theorem State.correct_time (s : State) (e : Int) : ∃ x, s.correct e = { s with time := x } := by
  unfold State.correct; split <;> exact ⟨_, rfl⟩

/-- What the servo does in PTP and in PPS (R77, R79). -/
theorem exec_servoCorrection_ptp (hp : s.rst.powered = true) (h : s.time.state = .ptp) (t : Nat) (x : Int) :
    exec (.servoCorrection t x) s = .next (((s.upTo t).setVal 0x1200 0x11 (unsigned 64 x)).correct x) := by
  simp only [exec, execServoCorrection, State.run_powered hp, State.upTo_time, h, if_true]

theorem exec_servoCorrection_pps (hp : s.rst.powered = true) (h : s.time.state = .pps) {e : Int} (he : s.time.ppsError = some e) (t : Nat)
    (x : Int) : exec (.servoCorrection t x) s = .next ((s.upTo t).correct e) := by
  simp [exec, execServoCorrection, State.run_powered hp, h, he]

/-- The error that the servo takes, and the state in which it takes it. -/
theorem exec_servoCorrection {e x : Int} (hp : s.rst.powered = true)
    (h : s.time.state = .ptp ∧ e = x ∨ s.time.state = .pps ∧ s.time.ppsError = some e) (t : Nat) :
    ∃ u, exec (.servoCorrection t x) s = .next (u.correct e) ∧ Did t [.dict] s u := by
  rcases h with ⟨h, rfl⟩ | ⟨h, he⟩
  · exact ⟨_, exec_servoCorrection_ptp hp h t e, .record⟩
  · exact ⟨_, exec_servoCorrection_pps hp h he t x, (Did.upTo s t).mono⟩

/-! ## The choice of the source (R76) -/

theorem State.chooseSource_some {src : TimeSource} (h : s.bestSource = some src) : s.chooseSource =
    { s with time := { s.time with next := if s.time.state = timeStateOf src then none else some (timeStateOf src) } } := by
  unfold State.chooseSource; rw [h]

theorem State.chooseSource_holdover (h : s.bestSource = none) (hd : disciplined s.time.state = true) :
    s.chooseSource = { s with time := { s.time with state := .holdover, holdoverAt := s.tsc, next := none } } := by
  unfold State.chooseSource; rw [h]; exact if_pos hd

theorem State.chooseSource_rest (h : s.bestSource = none) (hd : disciplined s.time.state = false) :
    s.chooseSource = { s with time := { s.time with next := none } } := by
  unfold State.chooseSource; rw [h]; exact if_neg (by rw [hd]; decide)

/-- The choice writes nothing but the state, its entry and the move to come. -/
theorem State.chooseSource_form (s : State) : ∃ st at' next, s.chooseSource =
    { s with time := { s.time with state := st, holdoverAt := at', next := next } } := by
  cases h : s.bestSource with
  | some src => exact ⟨_, _, _, State.chooseSource_some h⟩
  | none =>
    cases hd : disciplined s.time.state with
    | true => exact ⟨_, _, _, State.chooseSource_holdover h hd⟩
    | false => exact ⟨_, _, _, State.chooseSource_rest h hd⟩

/-- An undisciplined state stays as it is. -/
theorem State.chooseSource_state (hd : disciplined s.time.state = false) : s.chooseSource.time.state = s.time.state := by
  cases h : s.bestSource with
  | some src => rw [State.chooseSource_some h]
  | none => rw [State.chooseSource_rest h hd]

/-- Where neither source qualifies none is chosen. -/
theorem State.bestSource_none (h : ∀ src, s.time.ok src = false) : s.bestSource = none :=
  List.find?_eq_none.mpr fun src _ => by rw [h src]; decide

theorem State.bestSource_head {src : TimeSource} (hhead : (timeOrder (s.val 0x1200 6)).head? = some src) (hok : s.time.ok src = true) :
    s.bestSource = some src := by
  obtain ⟨l, hl⟩ := List.head?_eq_some_iff.mp hhead
  unfold State.bestSource
  rw [hl]
  exact List.find?_cons_of_pos hok

/-- The source that is gone leaves at most a measured frequency offset (R102). -/
theorem State.keepOffset_form (s : State) (src : TimeSource) : ∃ n ppb,
    s.keepOffset src = { s with free := n, time := { s.time with ppb := ppb } } := by
  unfold State.keepOffset; split <;> exact ⟨_, _, rfl⟩

theorem State.ppsMissing_of_late (h : ∀ a, s.time.lastPps = some a → a + 2000200000 ≤ s.tsc) : s.ppsMissing = true := by
  unfold State.ppsMissing
  split
  next a ha => exact decide_eq_true (h a ha)
  next => rfl

theorem State.ppsMissing_of_early {a : Nat} (ha : s.time.lastPps = some a) (h : s.tsc < a + 2000200000) : s.ppsMissing = false := by
  unfold State.ppsMissing
  rw [ha]
  exact decide_eq_false (by omega)

/-! ## The commands -/

theorem exec_timeHoldoverExpiry (hp : s.rst.powered = true) (h : s.time.state = .holdover) (t : Nat) :
    exec (.timeHoldoverExpiry t) s = .next (if s.time.holdoverAt + s.val 0x1200 0x0D * 1000000000 ≤ max s.tsc t then
      { s.upTo t with time := { s.time with state := .set } }.settlePpsOut else s.upTo t) := by
  simp only [exec, execTimeHoldoverExpiry, State.run_powered hp, State.upTo_time, h, true_and]
  rfl

/-- Settling PPS_OUT touches its pulse alone. -/
theorem State.settlePpsOut_form (s : State) : ∃ x, s.settlePpsOut = { s with time := { s.time with ppsOutUntil := x } } := by
  unfold State.settlePpsOut; split <;> exact ⟨_, rfl⟩

theorem timeHoldover_ends (hp : s.rst.powered = true) (h : s.time.state = .holdover) (t : Nat) :
    ∃ u, exec (.timeHoldoverExpiry t) s = .next u ∧ Did t [.time] s u ∧ u.time.offset = s.time.offset ∧
      (s.time.holdoverAt + s.val 0x1200 0x0D * 1000000000 ≤ max s.tsc t → u.time.state = .set) ∧
      (max s.tsc t < s.time.holdoverAt + s.val 0x1200 0x0D * 1000000000 → u.time.state = .holdover) := by
  rw [exec_timeHoldoverExpiry hp h]
  split
  next hdue =>
    obtain ⟨x, hx⟩ := State.settlePpsOut_form { s.upTo t with time := { s.time with state := .set } }
    rw [hx]
    exact ⟨_, rfl, .record, rfl, fun _ => rfl, fun hlt => absurd hdue (Nat.not_le_of_lt hlt)⟩
  next hdue => exact ⟨_, rfl, (Did.upTo s t).mono, rfl, fun hle => absurd hle hdue, fun _ => h⟩

/-- The count of edges that an edge of PPS_IN leaves (R79). -/
def State.ppsCount (s : State) (mark : Int) : Nat :=
  if nearSecond mark then
    (if (match s.time.lastPps with
        | some a => decide (999900000 ≤ s.tsc - a) && decide (s.tsc - a ≤ 1000100000)
        | none => false) then s.time.ppsEdges + 1 else 1) else 0

theorem exec_ppsEdge (hp : s.rst.powered = true) (h : s.timeSet = true) (t : Nat) : exec (.ppsEdge t) s = .next { s.upTo t with
    time := { s.time with
      ppsEdges := (s.upTo t).ppsCount ((max s.tsc t : Nat) - signed 32 (s.val 0x1200 0x0B) + s.time.offset)
      lastPps := some (max s.tsc t)
      ppsError := some (secondError ((max s.tsc t : Nat) - signed 32 (s.val 0x1200 0x0B) + s.time.offset)) } } := by
  have hset : (s.upTo t).timeSet = true := h
  simp only [exec, execPpsEdge, State.run_powered hp, hset, if_true]
  rfl

theorem State.ppsCount_far {mark : Int} (h : nearSecond mark = false) : s.ppsCount mark = 0 := by
  unfold State.ppsCount; rw [h]; rfl

theorem State.ppsCount_first {mark : Int} (h : nearSecond mark = true) (hlast : s.time.lastPps = none) : s.ppsCount mark = 1 := by
  unfold State.ppsCount; rw [h, hlast]; rfl

theorem State.ppsCount_next {mark : Int} {a : Nat} (h : nearSecond mark = true) (hlast : s.time.lastPps = some a) : s.ppsCount mark =
    if 999900000 ≤ s.tsc - a ∧ s.tsc - a ≤ 1000100000 then s.time.ppsEdges + 1 else 1 := by
  unfold State.ppsCount
  simp only [h, hlast, if_true, Bool.and_eq_true, decide_eq_true_eq]

theorem exec_ppsOutEdge (hp : s.rst.powered = true) (t : Nat) : exec (.ppsOutEdge t) s =
    .next (if s.ppsOutAllowed = true ∧ ((s.upTo t).stationTime + 50) % 1000000000 ≤ 100 then
      { s.upTo t with time := { s.time with ppsOutUntil := max s.tsc t + 100000000 } }.emit .ppsOut else s.upTo t) := by
  simp only [exec, execPpsOutEdge, State.run_powered hp]
  rfl

theorem State.ppsOutAllowed_iff (s : State) : s.ppsOutAllowed = true ↔ s.flag 0x1200 0x0A = true ∧
    (s.time.state = .ptp ∨ s.time.state = .pps ∨ s.time.state = .holdover) ∧ s.hier.safeOutputs = false := by
  simp [State.ppsOutAllowed, and_assoc, or_assoc]

theorem ppsOut_rises (hp : s.rst.powered = true) (t : Nat) :
    ∃ u, exec (.ppsOutEdge t) s = .next u ∧ Did t [.time, .out] s u ∧
    ((s.hier.safeOutputs = false ∧ s.flag 0x1200 0x0A = true ∧ (s.time.state = .ptp ∨ s.time.state = .pps ∨ s.time.state = .holdover) ∧
        ((s.upTo t).stationTime + 50) % 1000000000 ≤ 100) →
      u.out = .ppsOut :: s.out ∧ u.time.ppsOutUntil = max s.tsc t + 100000000) ∧
    ((s.flag 0x1200 0x0A = false ∨ s.time.state = .unset ∨ s.time.state = .set ∨ 100 < ((s.upTo t).stationTime + 50) % 1000000000) →
      u.out = s.out ∧ u.time = s.time) := by
  rw [exec_ppsOutEdge hp]
  split
  next h =>
    obtain ⟨hallowed, hnear⟩ := h
    obtain ⟨hflag, hstate, -⟩ := s.ppsOutAllowed_iff.mp hallowed
    refine ⟨_, rfl, .record, fun _ => ⟨rfl, rfl⟩, fun hno => ?_⟩
    rcases hno with hno | hno | hno | hno
    · rw [hflag] at hno; cases hno
    · simp [hno] at hstate
    · simp [hno] at hstate
    · exact absurd hnear (Nat.not_le_of_lt hno)
  next h =>
    exact ⟨_, rfl, (Did.upTo s t).mono, fun ⟨hsafe, hflag, hstate, hnear⟩ => absurd ⟨s.ppsOutAllowed_iff.mpr ⟨hflag, hstate, hsafe⟩, hnear⟩ h,
      fun _ => ⟨rfl, rfl⟩⟩

theorem ptp_qualifies (hp : s.rst.powered = true) (hrole : s.val 0x1200 0x0F ≠ 0)
    (horder : (timeOrder (s.val 0x1200 6)).head? = some .ptp) (t : Nat) :
    exec (.timeSourceQualified t .ptp) s = .next { s.upTo t with
      time := { s.time with ptpOk := true, next := if s.time.state = .ptp then none else some .ptp } } := by
  have hbest : { s.upTo t with time := { s.time with ptpOk := true } }.bestSource = some .ptp := State.bestSource_head horder rfl
  have hrole' : ¬ (s.upTo t).val 0x1200 0x0F = 0 := hrole
  simp only [exec, execTimeSourceQualified, State.run_powered hp, hrole', if_false]
  exact congrArg _ (State.chooseSource_some hbest)

theorem pps_qualifies (hp : s.rst.powered = true) (hedges : 4 ≤ s.time.ppsEdges) (hset : s.timeSet = true)
    (horder : timeOrder (s.val 0x1200 6) = [.pps]) (t : Nat) :
    exec (.timeSourceQualified t .pps) s = .next { s.upTo t with
      time := { s.time with ppsOk := true, next := if s.time.state = .pps then none else some .pps } } := by
  have hbest : { s.upTo t with time := { s.time with ppsOk := true } }.bestSource = some .pps :=
    State.bestSource_head (congrArg List.head? horder) (by simpa [TimeBase.ok, State.timeSet] using hset)
  have hqualified : (s.upTo t).time.ppsEdges ≥ 4 ∧ (s.upTo t).timeSet = true := ⟨hedges, hset⟩
  simp only [exec, execTimeSourceQualified, State.run_powered hp]
  rw [if_pos hqualified]
  exact congrArg _ (State.chooseSource_some hbest)

theorem pps_unqualified (hp : s.rst.powered = true) (h : s.time.ppsEdges < 4 ∨ s.timeSet = false) (t : Nat) :
    exec (.timeSourceQualified t .pps) s = .next (s.upTo t) := by
  have hnot : ¬ ((s.upTo t).time.ppsEdges ≥ 4 ∧ (s.upTo t).timeSet = true) := fun ⟨hedges, hset⟩ =>
    h.elim (Nat.not_lt_of_le hedges) fun hno => by
      have hset' : s.timeSet = true := hset
      rw [hno] at hset'; cases hset'
  simp only [exec, execTimeSourceQualified, State.run_powered hp]
  rw [if_neg hnot]

theorem ptp_lost (hp : s.rst.powered = true) (hstate : s.time.state = .ptp) (hpps : s.time.ppsOk = false) (t : Nat) :
    ∃ u, exec (.timeSourceLost t .ptp) s = .next u ∧ Did t [.time, .free] s u ∧ u.time.state = .holdover ∧
      u.time.holdoverAt = max s.tsc t ∧ u.time.offset = s.time.offset ∧ u.time.next = none := by
  obtain ⟨n, ppb, hkeep⟩ := (s.upTo t).keepOffset_form .ptp
  simp only [exec, execTimeSourceLost, State.run_powered hp, hkeep]
  rw [State.chooseSource_holdover]
  · exact ⟨_, rfl, .record, rfl, rfl, rfl, rfl⟩
  · exact State.bestSource_none fun src => by cases src <;> simp [TimeBase.ok, hpps]
  · show disciplined s.time.state = true
    rw [hstate]; rfl

theorem pps_lost (hp : s.rst.powered = true) (hlate : ∀ a, s.time.lastPps = some a → a + 2000200000 ≤ max s.tsc t) :
    ∃ u, exec (.timeSourceLost t .pps) s = .next u ∧ Did t [.time, .free] s u ∧ u.time.ppsOk = false ∧ u.time.ppsEdges = 0 ∧
      u.time.lastPps = none ∧ (s.time.state ≠ .pps → s.time.state ≠ .ptp → u.time.state = s.time.state) ∧
      (s.time.state = .pps → s.time.ptpOk = false → u.time.state = .holdover ∧ u.time.holdoverAt = max s.tsc t) := by
  obtain ⟨n, ppb, hkeep⟩ := (s.upTo t).keepOffset_form .pps
  have hmissing : (s.upTo t).ppsMissing = true := State.ppsMissing_of_late hlate
  simp only [exec, execTimeSourceLost, State.run_powered hp, hkeep, hmissing, if_true]
  generalize hv : ({ s.upTo t with free := n, time := { s.time with
    ppb := ppb, ppsOk := false, ppsEdges := 0, lastPps := none, ppsError := none } } : State) = v
  have hchosen : v.chooseSource.time.state = s.time.state ∨ disciplined s.time.state = true := by
    cases hd : disciplined s.time.state with
    | true => exact .inr rfl
    | false => exact .inl (by subst hv; exact State.chooseSource_state hd)
  obtain ⟨st, at', next, hform⟩ := v.chooseSource_form
  refine ⟨v.chooseSource, by subst hv; rfl, ?_, ?_, ?_, ?_, fun hpps hptp => ?_, fun hpps hptp => ?_⟩
  · rw [hform]; subst hv; exact .record
  · rw [hform]; subst hv; rfl
  · rw [hform]; subst hv; rfl
  · rw [hform]; subst hv; rfl
  · refine hchosen.resolve_right fun hd => ?_
    simp [disciplined, hpps, hptp] at hd
  · subst hv
    rw [State.chooseSource_holdover]
    · exact ⟨rfl, rfl⟩
    · exact State.bestSource_none fun src => by cases src <;> simp [TimeBase.ok, hptp]
    · show disciplined s.time.state = true
      rw [hpps]; rfl

theorem pps_kept (hp : s.rst.powered = true) {a : Nat} (ha : s.time.lastPps = some a) (hearly : max s.tsc t < a + 2000200000) :
    exec (.timeSourceLost t .pps) s = .next (s.upTo t) := by
  have hmissing : (s.upTo t).ppsMissing = false := State.ppsMissing_of_early ha hearly
  simp only [exec, execTimeSourceLost, State.run_powered hp, hmissing]
  rfl

end Timebase

theorem defaultOf_ptpError (v : Variant) : (defaultOf v (keyOf 0x1200 0x11)).length = 8 := by cases v <;> decide

theorem unsigned_lt (w : Nat) (i : Int) : unsigned w i < 2 ^ w := by
  unfold unsigned
  have hpos : (0 : Int) < ((2 ^ w : Nat) : Int) := by exact_mod_cast Nat.two_pow_pos w
  have := Int.emod_lt_of_pos i hpos
  have := Int.emod_nonneg i (ne_of_gt hpos)
  omega

section Servo

variable {s : State} {e x : Int}

theorem servo_slews (hp : s.rst.powered = true) (hcase : s.time.state = .ptp ∧ e = x ∨ s.time.state = .pps ∧ s.time.ppsError = some e)
    (t : Nat) (hsmall : e.natAbs ≤ 1000000) : ∃ u, exec (.servoCorrection t x) s = .next u ∧ Did t [.time, .dict] s u ∧
    u.time.step = s.time.step ∧ u.time.servoAt = max s.tsc t ∧
    s.time.offset - u.time.offset = slewPart (max s.tsc t - s.time.servoAt) e := by
  obtain ⟨u, hexec, hdid⟩ := exec_servoCorrection hp hcase t
  have htime : u.time = s.time := hdid.agrees .time
  refine ⟨_, hexec, ?_⟩
  rw [u.correct_small hsmall, ← htime, ← hdid.1]
  exact ⟨hdid.andThen, rfl, rfl, Int.sub_sub_self _ _⟩

theorem servo_steps (hp : s.rst.powered = true) (hcase : s.time.state = .ptp ∧ e = x ∨ s.time.state = .pps ∧ s.time.ppsError = some e)
    (t : Nat) (hlarge : 1000000 < e.natAbs) : ∃ u, exec (.servoCorrection t x) s = .next u ∧ Did t [.time, .dict] s u ∧
    u.time.offset = s.time.offset ∧ u.time.step = some (-e) := by
  obtain ⟨u, hexec, hdid⟩ := exec_servoCorrection hp hcase t
  have htime : u.time = s.time := hdid.agrees .time
  refine ⟨_, hexec, ?_⟩
  rw [u.correct_large hlarge, ← htime]
  exact ⟨hdid.andThen, rfl, rfl⟩

/-- The servo publishes the error of PTP alone, 1200.11. -/
theorem servo_publishes (hp : s.rst.powered = true) (h : s.time.state = .ptp) (t : Nat) :
    ∃ u, exec (.servoCorrection t x) s = .next u ∧ u.val 0x1200 0x11 = unsigned 64 x ∧
      ∀ k, k ≠ keyOf 0x1200 0x11 → u.raw k = s.raw k := by
  obtain ⟨y, hy⟩ := ((s.upTo t).setVal 0x1200 0x11 (unsigned 64 x)).correct_time x
  refine ⟨_, exec_servoCorrection_ptp hp h t x, ?_⟩
  rw [hy]
  refine ⟨?_, fun k hk => (s.upTo t).raw_setVal_ne _ hk⟩
  have hlt : unsigned 64 x < 256 ^ 8 := unsigned_lt 64 x
  exact ((s.upTo t).val_setVal_self _ _ _).trans (by rw [defaultOf_ptpError, Nat.mod_eq_of_lt hlt])

theorem servo_pps_dict (hp : s.rst.powered = true) (h : s.time.state = .pps) (he : s.time.ppsError = some e) (t : Nat) :
    ∃ u, exec (.servoCorrection t x) s = .next u ∧ u.dict = s.dict := by
  obtain ⟨y, hy⟩ := (s.upTo t).correct_time e
  exact ⟨_, exec_servoCorrection_pps hp h he t x, by rw [hy]; rfl⟩

end Servo

theorem exec_ref10Qualified {s : State} (hp : s.rst.powered = true) (t : Nat) :
    exec (.ref10Qualified t) s = .next { s.upTo t with time := { s.time with ref10 := true } } := by
  simp only [exec, execRef10Qualified, State.run_powered hp]
  rfl

theorem exec_ref10Lost {s : State} (hp : s.rst.powered = true) (t : Nat) (ppb : Int) :
    exec (.ref10Lost t ppb) s = .next { s.upTo t with time := { s.time with ref10 := false, ppb := ppb } } := by
  simp only [exec, execRef10Lost, State.run_powered hp]
  rfl

/-- Settles O7: each command is its equation on a running module; the slew is `slewPart`. The times and bounds of logs 23 and 56 are the
model's. -/
theorem timebaseCommandsComplete : Obligations.TimebaseCommandsComplete := by
  refine ⟨fun s t ⟨_, hp⟩ => ⟨⟨_, exec_ref10Qualified hp t, .record, rfl⟩, fun ppb => ⟨_, exec_ref10Lost hp t ppb, .record, rfl⟩,
      fun h => timeHoldover_ends hp h t, fun hset => ?_, ppsOut_rises hp t⟩,
    fun s t ⟨_, hp⟩ => ⟨fun hrole horder => ⟨_, ptp_qualifies hp hrole horder t, .record, rfl, rfl, rfl, rfl⟩,
      fun h => Did.answer_upTo (pps_unqualified hp h t),
      fun hedges hset horder => ⟨_, pps_qualifies hp hedges hset horder t, .record, rfl, rfl⟩,
      fun hstate hpps => ptp_lost hp hstate hpps t, fun hlate => pps_lost hp hlate,
      fun a ha hearly => Did.answer_upTo (pps_kept hp ha hearly)⟩,
    fun s t e x ⟨_, hp⟩ hcase => ⟨fun hsmall => ?_, servo_steps hp hcase t, fun hpps => ?_, fun hptp => servo_publishes hp hptp t⟩⟩
  · refine ⟨_, exec_ppsEdge hp hset t, .record, rfl, rfl, State.ppsCount_far, State.ppsCount_first (s := s.upTo t), fun hnear a ha => ?_⟩
    exact ⟨fun h => (State.ppsCount_next (s := s.upTo t) hnear ha).trans (if_pos h), fun h => (State.ppsCount_next (s := s.upTo t) hnear ha).trans
      (if_neg (show ¬ (999900000 ≤ max s.tsc t - a ∧ max s.tsc t - a ≤ 1000100000) by omega))⟩
  · obtain ⟨u, hexec, hdid, hstep, hat, hslew⟩ := servo_slews hp hcase t hsmall
    exact ⟨u, hexec, hdid, hstep, hat, by rw [hslew]; exact slewPart_natAbs_le_limit _ _, by rw [hslew]; exact slewPart_natAbs_le_error _ _,
      by rw [hslew]; exact slewPart_mul_nonneg _ _⟩
  · rcases hcase with ⟨hptp, -⟩ | ⟨-, he⟩
    · rw [hpps] at hptp; cases hptp
    · exact servo_pps_dict hp hpps he t

end Sys2Proof.Machine
end

section
/-! The beat boundary at which no written time waits (R74, R76, R77, R97): the tether's block works on through the overrun handling of region 3,
so that it publishes its slot. -/

set_option Elab.async false

namespace Sys2Proof.Machine

/-- An operation that its frame keeps away from the dictionary changes no entry. -/
theorem Keeps.raw {ps : List Part} {s t : State} (h : Keeps ps s t) (k : Nat) (hps : Part.dict ∉ ps := by decide) : t.raw k = s.raw k := by
  have hdict : t.dict = s.dict := h.frame .dict hps
  unfold State.raw
  rw [h.variant, hdict]

/-- An entry of a table in canonical form is what a read of its key gives. -/
theorem Table.find_of_mem {α : Type} {t : Table α} (ht : Table.rising t = true) {e : Nat × α} (he : e ∈ t) :
    Table.find t e.1 = some e.2 := by
  induction t with
  | nil => exact absurd he List.not_mem_nil
  | cons x t ih =>
    obtain ⟨j, v⟩ := x
    rw [Table.rising_cons, Bool.and_eq_true] at ht
    obtain ⟨habove, hrising⟩ := ht
    rcases List.mem_cons.mp he with rfl | he
    · exact if_pos rfl
    · have hne : ¬ j = e.1 := fun h => by
        have := ih hrising he
        rw [Table.find_above habove (Nat.le_of_eq h.symm)] at this
        exact absurd this (by simp)
      exact (if_neg hne).trans (ih hrising he)

theorem State.block_setBlock (s : State) (r b : Nat) (x : Block) (q k : Nat) :
    (s.setBlock r b x).block q k = if blockKey q k = blockKey r b then x else s.block q k := by
  unfold State.block State.setBlock
  split
  case isTrue h => rw [h]; exact Table.get_put_self _ _ _
  case isFalse h => exact Table.get_put_ne _ _ h

/-- The tether's block runs. -/
def State.TetherRuns (s : State) : Prop := (s.block 5 2).state = .running

section Runs

variable {s t : State}

theorem State.TetherRuns.of_blocks (h : s.TetherRuns) (heq : t.hier.blocks = s.hier.blocks := by rfl) : t.TetherRuns := by
  unfold State.TetherRuns State.block
  rw [heq]
  exact h

theorem State.TetherRuns.keeps {ps : List Part} (h : s.TetherRuns) (k : Keeps ps s t) (hps : Part.hier ∉ ps := by decide) : t.TetherRuns :=
  h.of_blocks (congrArg Hierarchy.blocks (k.frame .hier hps))

theorem State.TetherRuns.setBlock (h : s.TetherRuns) {r b : Nat} {x : Block} (hx : blockKey 5 2 = blockKey r b → x.state = .running) :
    (s.setBlock r b x).TetherRuns := by
  unfold State.TetherRuns
  rw [State.block_setBlock]
  split
  case isTrue heq => exact hx heq
  case isFalse => exact h

/-- A new content that leaves the block's state. -/
theorem State.TetherRuns.sameState (h : s.TetherRuns) {r b : Nat} {x : Block} (hx : x.state = (s.block r b).state) :
    (s.setBlock r b x).TetherRuns :=
  h.setBlock fun heq => by
    have hblock : s.block r b = s.block 5 2 := by unfold State.block; rw [heq]
    rw [hx, hblock]
    exact h

theorem State.TetherRuns.ite {c : Prop} [Decidable c] (hs : s.TetherRuns) (ht : t.TetherRuns) : (if c then s else t).TetherRuns := by
  split
  · exact hs
  · exact ht

theorem State.TetherRuns.each {α : Type} {l : List α} {f : State → α → State} (h : s.TetherRuns)
    (hf : ∀ u, ∀ x ∈ l, u.TetherRuns → (f u x).TetherRuns) : (s.each l f).TetherRuns := by
  unfold State.each
  induction l generalizing s with
  | nil => exact h
  | cons x l ih => exact ih (hf s x List.mem_cons_self h) fun u y hy => hf u y (List.mem_cons_of_mem _ hy)

theorem blockKey_three_ne {b : Nat} (hb : b < 64) : blockKey 5 2 ≠ blockKey 3 b := by unfold blockKey; omega

theorem State.TetherRuns.requestIdle (h : s.TetherRuns) {b time : Nat} (hb : b < 64) : (s.requestIdle 3 b time).TetherRuns :=
  State.TetherRuns.of_blocks (s := s.setBlock 3 b { s.block 3 b with state := .idleReq, idleAt := s.tsc, escalatedAt := time })
    (h.setBlock fun heq => absurd heq (blockKey_three_ne hb))

theorem State.TetherRuns.queueReset (h : s.TetherRuns) {r b : Nat} : (s.queueReset r b).TetherRuns := h.of_blocks

/-- Region 3 resets no block of region 5: the one that gives way there goes back to running. -/
theorem State.TetherRuns.regionReset (h : s.TetherRuns) {b : Nat} (hb : b < 64) : (s.regionReset 3 b).TetherRuns := by
  unfold State.regionReset
  split
  · exact h
  · split
    · next k _ =>
      have hback : (s.setBlock 3 k { s.block 3 k with state := .running }).TetherRuns := h.setBlock fun _ => rfl
      exact hback.queueReset.requestIdle hb
    · exact .ite h.queueReset (h.requestIdle hb)

theorem State.TetherRuns.overrun (h : s.TetherRuns) {b : Nat} {fresh carried : List Nat} (hb : b < 64) :
    (s.overrun 3 b fresh carried).TetherRuns := by
  unfold State.overrun
  extract_lets x old low kept returned ahead u window _ u₁ u₂ u₃ u₄ flags gone
  have hu : u.TetherRuns := h.sameState rfl
  have hu₁ : u₁.TetherRuns := hu.sameState rfl
  have hu₃ : u₃.TetherRuns := hu₁.of_blocks
  have hu₄ : u₄.TetherRuns := .ite hu₃ hu₃.of_blocks
  exact .ite hu (.ite hu₄ (State.TetherRuns.regionReset (hu₄.of_blocks) hb))

theorem State.TetherRuns.failJob (h : s.TetherRuns) {n status : Nat} {j : CipherJob} : (s.failJob n j status).TetherRuns :=
  h.keeps (State.failJob_keeps (.refl [.out, .dict, .pages, .cipher] s) n j status (by decide) (by decide) (by decide) (by decide))

theorem State.TetherRuns.engineEnd (h : s.TetherRuns) : s.engineEnd.TetherRuns := by
  unfold State.engineEnd
  extract_lets isOpen u out fresh low gone v
  have hu : u.TetherRuns := h.each fun _ _ _ hu => hu.failJob
  exact .ite h (.ite hu ((hu.overrun (by decide)).each fun _ _ _ hv => .ite hv.failJob hv.of_blocks))

theorem State.TetherRuns.failCheck (h : s.TetherRuns) {x : CheckPart} {status : Nat} : (s.failCheck x status).TetherRuns := by
  refine h.keeps (ps := [.out, .dict, .pages, .checkParts]) ?_
  apply State.failCheck_keeps
  · exact .refl _ s
  all_goals decide

theorem State.TetherRuns.checkEnd (h : s.TetherRuns) : s.checkEnd.TetherRuns := by
  unfold State.checkEnd
  extract_lets isOpen u out fresh low v
  have hu : u.TetherRuns := h.each fun _ _ _ hu => hu.failCheck
  exact .ite h (.ite hu ((hu.overrun (by decide)).each fun _ _ _ hv => .ite hv.failCheck hv.of_blocks))

theorem State.TetherRuns.returnGrant (h : s.TetherRuns) {r b c : Nat} : (s.returnGrant r b c).TetherRuns := by
  unfold State.returnGrant
  extract_lets pool fab x n _ u v
  have hv : v.TetherRuns := State.TetherRuns.sameState (s := u) h.of_blocks rfl
  exact .ite hv hv.of_blocks

theorem State.TetherRuns.returnGrants (h : s.TetherRuns) : s.returnGrants.TetherRuns :=
  h.each fun _ _ _ hu => State.TetherRuns.each (hu.sameState rfl) fun _ _ _ hw => hw.returnGrant

theorem State.TetherRuns.clearCarried (h : s.TetherRuns) (hs : Table.rising s.hier.blocks = true) (loads : List BeatLoad) :
    (s.clearCarried loads).TetherRuns := by
  refine h.each fun u e he hu => ?_
  have hfind := Table.find_of_mem hs (List.mem_of_mem_filter he)
  unfold State.TetherRuns State.block
  by_cases hkey : blockKey 5 2 = e.1
  case pos =>
    rw [hkey]
    refine (congrArg Block.state (Table.get_put_self _ _ _)).trans ?_
    have hblock : s.block 5 2 = e.2 := by unfold State.block Table.get; rw [hkey, hfind]; rfl
    exact hblock ▸ h
  case neg => exact (congrArg Block.state (Table.get_put_ne _ _ hkey)).trans hu

theorem State.TetherRuns.overrunHandled (h : s.TetherRuns) (hs : s.Canonical) : s.overrunHandled.TetherRuns := by
  have hcanonical : s.returnGrants.engineEnd.checkEnd.Canonical := by
    have k : Keeps [.out, .dict, .hier, .log, .pages, .cipher, .checkParts] s s.returnGrants.engineEnd.checkEnd := by
      apply State.checkEnd_keeps
      case h0 =>
        apply State.engineEnd_keeps
        case h0 => exact State.returnGrants_keeps (.refl _ _) (by decide) (by decide)
        all_goals decide
      all_goals decide
    exact k.canonical hs
  exact h.returnGrants.engineEnd.checkEnd.clearCarried (Table.rising_of_wf hcanonical.blocks) []

/-- The window records that take effect leave the epoch. -/
theorem State.applyRecords_epoch (s : State) : s.applyRecords.mgr.epoch = s.mgr.epoch := by
  let u : State := { s with mgr := { s.mgr with records := [] } }
  have k : Keeps [.out, .dict, .lanes, .spools, .pages, .routes] u s.applyRecords := by
    unfold State.applyRecords
    apply State.applyUpdates_keeps
    · exact Keeps.each (.refl _ _) fun v q => State.applyRecord_keeps (.refl _ v) q (by decide) (by decide) (by decide) (by decide) (by decide)
    all_goals decide
  have hmgr : s.applyRecords.mgr = u.mgr := k.frame .mgr (by decide)
  rw [hmgr]

/-- What a quiet boundary has done before it takes station time: the epoch, the tether and the tether's block are as they were. -/
theorem State.NothingWritten.boundaryLoads_epoch (h : s.NothingWritten) : (s.boundaryLoads []).mgr.epoch = s.mgr.epoch := by
  have hmgr : s.overrunHandled.mgr = s.mgr := s.overrunHandled_changes.frame .mgr (by decide)
  rw [h.boundaryLoads, State.applyRecords_epoch, hmgr]

theorem State.NothingWritten.boundaryLoads_tether (h : s.NothingWritten) : (s.boundaryLoads []).tether = s.tether := by
  have hbefore : s.overrunHandled.tether = s.tether := s.overrunHandled_changes.frame .tether (by decide)
  have k : Keeps [.out, .dict, .mgr, .lanes, .spools, .pages, .routes] s.overrunHandled s.overrunHandled.applyRecords := by
    apply State.applyRecords_keeps
    · exact .refl _ _
    all_goals decide
  rw [h.boundaryLoads]
  exact (k.frame .tether (by decide)).trans hbefore

theorem State.NothingWritten.boundaryLoads_tetherRuns (h : s.NothingWritten) (hs : s.Canonical) (hruns : s.TetherRuns) :
    (s.boundaryLoads []).TetherRuns := by
  rw [h.boundaryLoads]
  refine (hruns.overrunHandled hs).keeps (ps := [.out, .dict, .mgr, .lanes, .spools, .pages, .routes]) ?_
  apply State.applyRecords_keeps
  · exact .refl _ _
  all_goals decide

end Runs

section TimeTaken

variable {s : State}

/-- A step of the offset takes effect, logged and counted (R77). -/
def State.stepTaken (s : State) : State :=
  match s.time.step with
  | some d =>
    ({ s with time := { s.time with offset := s.time.offset + d, step := none } }.logOffset s.time.offset (s.time.offset + d)).bump 0x1200 0x12
  | none => s

/-- A change of the time source takes effect (R76). -/
def State.sourceTaken (s : State) : State :=
  match s.time.next with
  | some st => { s with time := { s.time with state := st, next := none, servoAt := s.tsc } }
  | none => s

theorem State.timeBoundary_unset (hset : s.time.setTo = none) : s.timeBoundary = s.stepTaken.sourceTaken.settlePpsOut := by
  unfold State.timeBoundary State.stepTaken State.sourceTaken
  cases hstep : s.time.step with
  | none => simp only [hset] <;> rfl
  | some d => simp only [State.bump_time, State.logOffset_time, hset] <;> rfl

/-- What a step leaves of station time. -/
theorem State.stepTaken_time (s : State) : s.stepTaken.time = { s.time with offset := s.time.offset + s.time.step.getD 0, step := none } := by
  unfold State.stepTaken
  split
  case h_1 d h => rw [h]; rfl
  case h_2 h => rw [h, Option.getD_none, Int.add_zero, ← h]

theorem State.sourceTaken_state (s : State) : s.sourceTaken.time.state = s.time.next.getD s.time.state ∧ s.sourceTaken.time.next = none ∧
    s.sourceTaken.time.step = s.time.step ∧ s.sourceTaken.time.offset = s.time.offset := by
  unfold State.sourceTaken
  split
  case h_1 st h => rw [h]; exact ⟨rfl, rfl, rfl, rfl⟩
  case h_2 h => rw [h]; exact ⟨rfl, rfl, rfl, rfl⟩

/-- A change of the source and of PPS_OUT is of station time alone. -/
theorem State.sourceTaken_keeps (s : State) : Keeps [.time] s s.sourceTaken.settlePpsOut := by
  have k : Keeps [.time] s s.sourceTaken := by
    unfold State.sourceTaken
    split
    · exact Keeps.record (.refl _ s) rfl rfl rfl rfl rfl rfl rfl rfl rfl rfl rfl rfl rfl rfl rfl rfl rfl rfl rfl
    · exact .refl _ s
  exact State.settlePpsOut_keeps k (by decide)

theorem defaultOf_timeSteps (v : Variant) : (defaultOf v (keyOf 0x1200 0x12)).length = 4 := by cases v <;> decide

theorem State.stepTaken_counted (h : s.time.step.isSome = true) : s.stepTaken.val 0x1200 0x12 = min 0xFFFFFFFF (s.val 0x1200 0x12 + 1) := by
  obtain ⟨d, hd⟩ := Option.isSome_iff_exists.mp h
  unfold State.stepTaken
  rw [hd]
  exact (State.ofBE_raw_bumpKey_self _ (keyOf 0x1200 0x12) 1).trans (by rw [defaultOf_timeSteps]; rfl)

theorem State.stepTaken_detected (h : s.time.step.isSome = true) :
    offsetEvent s.tsc s.time.offset (s.time.offset + s.time.step.getD 0) ∈ s.stepTaken.log.detected := by
  obtain ⟨d, hd⟩ := Option.isSome_iff_exists.mp h
  unfold State.stepTaken
  rw [hd]
  exact List.mem_append_right _ (List.mem_singleton_self _)

end TimeTaken

section Boundary

variable {s : State}

theorem State.timeBoundary_keeps_time (s : State) : Keeps [.dict, .time, .log] s s.timeBoundary :=
  State.timeBoundary_keeps (.refl _ s) (by decide) (by decide) (by decide)

/-- What a boundary leaves of station time where no time was written. -/
structure TimeTaken (s t : State) : Prop where
  step : t.time.step = none
  next : t.time.next = none
  offset : t.time.offset = s.time.offset + s.time.step.getD 0
  state : t.time.state = s.time.next.getD s.time.state
  stepped : s.time.step.isSome = true → t.raw stepCounter = s.stepTaken.raw stepCounter ∧
    offsetEvent s.tsc s.time.offset t.time.offset ∈ t.log.detected

theorem State.timeBoundary_taken (hset : s.time.setTo = none) : TimeTaken s s.timeBoundary := by
  rw [State.timeBoundary_unset hset]
  obtain ⟨edge, hedge⟩ := State.settlePpsOut_eq s.stepTaken.sourceTaken
  have k := s.stepTaken.sourceTaken_keeps
  obtain ⟨hstate, hnext, hstep, hoffset⟩ := s.stepTaken.sourceTaken_state
  have hdict : s.stepTaken.sourceTaken.settlePpsOut.raw stepCounter = s.stepTaken.raw stepCounter :=
    k.raw _
  have hlog : s.stepTaken.sourceTaken.settlePpsOut.log = s.stepTaken.log := k.frame .log (by decide)
  rw [hedge] at hdict hlog ⊢
  rw [s.stepTaken_time] at hstate hstep hoffset
  refine ⟨hstep, hnext, hoffset, hstate, fun h => ⟨hdict, ?_⟩⟩
  rw [hlog]
  exact hoffset ▸ s.stepTaken_detected h

theorem TimeTaken.undisturbed {t u : State} (h : TimeTaken s t) (hu : Undisturbed t u) : TimeTaken s u := by
  obtain ⟨hstep, hnext, hoffset, hstate, hstepped⟩ := h
  rw [← hu.time] at hstep hnext hoffset hstate hstepped
  exact ⟨hstep, hnext, hoffset, hstate, fun h => ⟨hu.steps.trans (hstepped h).1, hu.detected (hstepped h).2⟩⟩

/-- The slot that the tether publishes where its block runs (R97). -/
theorem State.TetherRuns.boundarySample (h : s.TetherRuns) : s.boundarySample.tether.sample.slot = s.tether.slot ∧
    s.boundarySample.tether.sample.cycle = s.tether.cycle ∧ s.boundarySample.tether.sample.valid = s.tether.valid := by
  have hruns : s.timeBoundary.TetherRuns := h.keeps s.timeBoundary_keeps_time
  have htether : s.timeBoundary.tether = s.tether := s.timeBoundary_keeps_time.frame .tether (by decide)
  have hfrozen : s.boundarySample.tether = s.timeBoundary.tetherBoundary.tether :=
    (State.freezeSets_keeps (.refl [.out, .lanes] s.timeBoundary.tetherBoundary) s.tether.sample.valid (by decide)
      (by decide)).frame .tether (by decide)
  rw [hfrozen, ← htether]
  unfold State.tetherBoundary
  rw [if_pos (show (s.timeBoundary.block 5 2).state = .running from hruns)]
  exact ⟨rfl, rfl, rfl⟩

/-- Station time, the slot sample and the new beat's work leave the epoch; the work leaves the sample. -/
theorem State.boundarySample_mgr (s : State) : s.boundarySample.mgr = s.mgr := by
  have k : Keeps [.out, .dict, .time, .tether, .log, .lanes] s s.boundarySample := by
    apply State.boundarySample_keeps
    · exact .refl _ s
    all_goals decide
  exact k.frame .mgr (by decide)

theorem State.boundaryWork_changes (s : State) : Keeps [.out, .dict, .hier, .log, .ports, .echoes, .lanes, .spools, .pages, .routes, .cells,
    .trip, .cipher, .checkParts, .ring, .sensing, .rst, .sup] s (s.boundaryWork [] []) := by
  apply State.boundaryWork_keeps
  · exact .refl _ s
  all_goals decide

/-- A boundary at which no written time waits, and nothing that was written else. -/
theorem exec_beatBoundary_takesTime {n : Nat} (hs : s.Live) (hquiet : s.NothingWritten) (hset : s.time.setTo = none)
    (hextract : s.rst.extractAt = none) (hrequested : s.rst.requested = none) :
    ∃ u b : State, exec (.beatBoundary n [] []) s = .next u ∧ u.tsc = max s.tsc (40000 * n) ∧ Undisturbed (s.upTo (beatNs * n)) b ∧
      TimeTaken b u ∧ u.mgr.epoch = s.mgr.epoch ∧ (s.TetherRuns → u.tether.sample.slot = s.tether.slot ∧
        u.tether.sample.cycle = s.tether.cycle ∧ u.tether.sample.valid = s.tether.valid) := by
  obtain ⟨hcanonical, hp⟩ := hs
  have hquiet' : (s.upTo (beatNs * n)).NothingWritten := ⟨hquiet.values, hquiet.bumps, hquiet.actions, hquiet.commit, hquiet.staging⟩
  have hexec : exec (.beatBoundary n [] []) s =
      .next (((s.upTo (beatNs * n)).boundaryLoads []).boundarySample.boundaryWork [] []).resetTick :=
    State.run_powered hp (beatNs * n) fun u => (((u.boundaryLoads []).boundarySample).boundaryWork [] []).resetTick
  have hloads := hquiet'.boundaryLoads_undisturbed
  have hepoch : ((s.upTo (beatNs * n)).boundaryLoads []).mgr.epoch = s.mgr.epoch := hquiet'.boundaryLoads_epoch
  have htether : ((s.upTo (beatNs * n)).boundaryLoads []).tether = s.tether := hquiet'.boundaryLoads_tether
  have hruns : s.TetherRuns → ((s.upTo (beatNs * n)).boundaryLoads []).TetherRuns := fun h =>
    hquiet'.boundaryLoads_tetherRuns (s := s.upTo (beatNs * n)) (s.upTo_canonical _ hcanonical) h
  generalize (s.upTo (beatNs * n)).boundaryLoads [] = b at hloads hepoch htether hruns hexec
  have htaken : TimeTaken b b.timeBoundary := State.timeBoundary_taken ((congrArg TimeBase.setTo hloads.time).trans hset)
  have hsample : Undisturbed b.timeBoundary b.boundarySample := b.boundarySample_undisturbed
  have hrst : b.timeBoundary.rst = b.rst := b.timeBoundary_keeps_time.frame .rst (by decide)
  have hreset : b.timeBoundary.rst.requested = s.rst.requested := (congrArg ResetCtl.requested hrst).trans hloads.requested
  have hextracting : b.boundarySample.rst.extractAt = none :=
    hsample.extractAt.trans ((congrArg ResetCtl.extractAt hrst).trans (hloads.extractAt.trans hextract))
  have hwork := hsample.boundaryWork hextracting
  have hchanges := b.boundarySample.boundaryWork_changes
  generalize b.boundarySample.boundaryWork [] [] = u at hwork hchanges hexec
  have hmgr : u.mgr = b.boundarySample.mgr := hchanges.frame .mgr (by decide)
  have hutether : u.tether = b.boundarySample.tether := hchanges.frame .tether (by decide)
  have hrequest : u.rst.requested = none := hwork.requested.trans (hreset.trans hrequested)
  refine ⟨u, b, State.resetTick_none hrequest ▸ hexec, ?_, hloads, htaken.undisturbed hwork, ?_, fun h => ?_⟩
  · exact hwork.tsc.trans ((b.timeBoundary_keeps_time.frame .tsc (by decide)).trans hloads.tsc)
  · rw [hmgr, b.boundarySample_mgr, hepoch]
  · rw [hutether, ← htether]
    exact (hruns h).boundarySample

end Boundary

/-- Settles O9: a quiet boundary leaves nothing but its loads before it takes station time, and its work touches neither. -/
theorem boundaryTakesTime : Obligations.BoundaryTakesTime := by
  unfold Obligations.BoundaryTakesTime
  intro s n hs hvalues hbumps hactions hcommit hstaging hextract hrequested hset
  obtain ⟨u, b, hexec, htsc, hloads, htaken, hepoch, hsample⟩ :=
    exec_beatBoundary_takesTime (n := n) hs ⟨hvalues, hbumps, hactions, hcommit, hstaging⟩ hset hextract hrequested
  obtain ⟨hstep, hnext, hoffset, hstate, hstepped⟩ := htaken
  have htime : b.time = s.time := hloads.time
  have hbtsc : b.tsc = max s.tsc (40000 * n) := hloads.tsc
  rw [htime] at hoffset hstate hstepped
  refine ⟨u, hexec, htsc, hepoch, hstep, hnext, hoffset, hstate, fun h => ⟨?_, ?_⟩, hsample⟩
  · have hcount := b.stepTaken_counted (htime ▸ h)
    calc u.val 0x1200 0x12 = b.stepTaken.val 0x1200 0x12 := congrArg ofBE (hstepped h).1
      _ = min 0xFFFFFFFF (b.val 0x1200 0x12 + 1) := hcount
      _ = min 0xFFFFFFFF (s.val 0x1200 0x12 + 1) := congrArg (fun v => min 0xFFFFFFFF (ofBE v + 1)) hloads.steps
  · rw [← hbtsc]
    exact (hstepped h).2

end Sys2Proof.Machine
end

section
/-! Mains inputs and slots (R90-R97): what a crossing, a missed one and the end of a slot leave. -/

set_option Elab.async false

namespace Sys2Proof.Machine

section Inputs

variable {s : State}

@[simp] theorem State.zx_setZx_self (s : State) (i : Nat) (x : ZxInput) : (s.setZx i x).zx i = x := Table.get_put_self _ _ _

theorem State.zx_setZx_ne (s : State) {i j : Nat} (x : ZxInput) (h : j ≠ i) : (s.setZx i x).zx j = s.zx j := Table.get_put_ne _ _ h

/-- The reference stands: none is between two, and the input is not it (R92). -/
theorem State.settleReference_stays {i : Nat} (hbetween : s.tether.between = false) (href : s.tether.ref ≠ i + 1) :
    s.settleReference i = s := by
  unfold State.settleReference
  rw [if_neg (by simp [hbetween]), if_neg (by simp [href])]

/-! ## What no change of the reference touches -/

/-- The qualification and the last crossing of an input are as they were. -/
def SameMark (i : Nat) (s t : State) : Prop := (t.zx i).qualified = (s.zx i).qualified ∧ (t.zx i).last = (s.zx i).last

theorem SameMark.of_inputs {i : Nat} {t : State} (h : t.tether.inputs = s.tether.inputs) : SameMark i s t := by
  unfold SameMark State.zx; rw [h]; exact ⟨rfl, rfl⟩

theorem SameMark.trans {i : Nat} {t u : State} (h : SameMark i s t) (k : SameMark i t u) : SameMark i s u :=
  ⟨k.1.trans h.1, k.2.trans h.2⟩

theorem SameMark.setZx {i j : Nat} {x : ZxInput} (hq : x.qualified = (s.zx j).qualified) (hl : x.last = (s.zx j).last) :
    SameMark i s (s.setZx j x) := by
  by_cases h : i = j
  case pos => subst h; unfold SameMark; rw [State.zx_setZx_self]; exact ⟨hq, hl⟩
  case neg => unfold SameMark; rw [State.zx_setZx_ne s x h]; exact ⟨rfl, rfl⟩

theorem SameMark.ite {i : Nat} {t u : State} {c : Prop} [Decidable c] (ht : SameMark i s t) (hu : SameMark i s u) :
    SameMark i s (if c then t else u) := by
  split
  · exact ht
  · exact hu

theorem SameMark.rfl {i : Nat} : SameMark i s s := ⟨Eq.refl _, Eq.refl _⟩

theorem State.enterHoldover_inputs (s : State) (restart : Bool) : (s.enterHoldover restart).tether.inputs = s.tether.inputs := rfl

theorem State.referenceLost_mark (s : State) (i : Nat) : SameMark i s s.referenceLost := by
  unfold State.referenceLost
  extract_lets _ u
  have hu : u.tether.inputs = s.tether.inputs := by unfold u; split <;> rfl
  clear_value u
  have hsame : SameMark i s u := .of_inputs hu
  split
  · exact .of_inputs hu
  · exact .ite (.of_inputs hu) (.ite (.ite (.of_inputs hu) (.of_inputs hu)) hsame)

theorem State.settleReference_mark (s : State) (i j : Nat) : SameMark i s (s.settleReference j) :=
  .ite (s.referenceLost_mark i) (.ite (s.referenceLost_mark i) .rfl)

theorem State.zxJudge_mark (s : State) (i j : Nat) (dev : Int) : SameMark i s (s.zxJudge j dev) := by
  unfold State.zxJudge
  extract_lets good x u
  have hu : SameMark i s u := .setZx rfl rfl
  exact .ite (hu.trans (State.settleReference_mark (u.event _ _ _ _) i j)) hu

theorem State.zxMeasure_mark (s : State) (i j : Nat) : SameMark i s (s.zxMeasure j) := by
  unfold State.zxMeasure
  extract_lets lagBehind
  refine .ite .rfl (.ite ?_ (.ite ?_ .rfl))
  · split
    case h_2 => exact .rfl
    case h_1 =>
      extract_lets u
      have hu : SameMark i s u := .setZx rfl rfl
      clear_value u
      split
      · exact hu.trans (u.zxJudge_mark i _ _)
      · exact hu
  · split
    case h_2 => exact .rfl
    case h_1 =>
      extract_lets u want
      have hu : SameMark i s u := .setZx rfl rfl
      clear_value u
      split
      · exact hu.trans (u.zxJudge_mark i _ _)
      · exact hu

theorem State.becomeReference_mark (s : State) (i j : Nat) : SameMark i s (s.becomeReference j) := by
  unfold State.becomeReference
  extract_lets x lag err old s₀ _ u v
  have hs₀ : s₀.tether.inputs = s.tether.inputs := by unfold s₀; split <;> rfl
  have hu : u.tether.inputs = s.tether.inputs := hs₀
  exact .ite (.of_inputs hu) (.ite (.of_inputs hu) (.ite (.of_inputs hu) (.of_inputs hu)))

theorem State.referenceCrossing_mark (s : State) (i j : Nat) : SameMark i s (s.referenceCrossing j) := by
  unfold State.referenceCrossing
  extract_lets pendingRenumber _ s₁ lag period err _ u v n
  have hv : v.tether.inputs = s.tether.inputs := by unfold v; split <;> rfl
  exact .ite (.of_inputs rfl) (.ite (.ite (.of_inputs hv) (.of_inputs hv)) (.of_inputs hv))

/-- An accepted crossing leaves the qualification of the inputs and the times of their crossings. -/
theorem State.crossingAccepted_mark (s : State) (i j : Nat) : SameMark i s (s.crossingAccepted j) := by
  have hmeasured := s.zxMeasure_mark i j
  exact .ite (hmeasured.trans (State.referenceCrossing_mark _ i j)) (.ite (hmeasured.trans (State.becomeReference_mark _ i j)) hmeasured)

/-! ## Crossings (R90) -/

theorem exec_zxCrossing {t i : Nat} (hp : s.rst.powered = true) (hi : i < 3) : exec (.zxCrossing t i) s =
    .next (if (s.zx i).qualified then (s.upTo t).crossingQualified i else (s.upTo t).crossingUnqualified i) :=
  (State.run_powered hp t _).trans (by rw [if_pos hi]; rfl)

theorem exec_zxCrossing_unqualified {t i : Nat} (hp : s.rst.powered = true) (hi : i < 3) (hq : (s.zx i).qualified = false) :
    exec (.zxCrossing t i) s = .next ((s.upTo t).crossingUnqualified i) := by
  rw [exec_zxCrossing hp hi, hq]; rfl

theorem State.crossingUnqualified_first {i : Nat} (h : (s.zx i).last = none) :
    s.crossingUnqualified i = s.setZx i { s.zx i with count := 1, last := some s.tsc } := by
  unfold State.crossingUnqualified
  simp only [h]

/-- The count of good crossings after one at distance `p` (R90). -/
def ZxInput.countAt (x : ZxInput) (p : Nat) : Nat :=
  if periodOk p then (if decide (x.count ≤ 1) || periodsClose p x.period then max 1 x.count + 1 else 2) else 1

/-- An input after a crossing at distance `p` that is not qualified before it. -/
def ZxInput.crossedAt (x : ZxInput) (tsc p : Nat) : ZxInput :=
  { x with
    count := x.countAt p, last := some tsc, period := p,
    periods := if x.countAt p = 1 then [] else if decide (x.count ≤ 1) || periodsClose p x.period then (p :: x.periods).take 64 else [p],
    qualified := decide (x.countAt p ≥ 8), accepted := decide (x.countAt p ≥ 8), misses := 0 }

theorem State.crossingUnqualified_next {i a : Nat} (h : (s.zx i).last = some a) : s.crossingUnqualified i =
    if (s.zx i).countAt (s.tsc - a) ≥ 8 then (s.setZx i ((s.zx i).crossedAt s.tsc (s.tsc - a))).crossingAccepted i
    else s.setZx i ((s.zx i).crossedAt s.tsc (s.tsc - a)) := by
  unfold State.crossingUnqualified
  simp only [h]
  rfl

theorem exec_zxCrossing_counts {t i a : Nat} (hp : s.rst.powered = true) (hi : i < 3) (hq : (s.zx i).qualified = false)
    (hlast : (s.zx i).last = some a) (hfew : (s.zx i).countAt (max s.tsc t - a) < 8) :
    exec (.zxCrossing t i) s = .next ((s.upTo t).setZx i ((s.zx i).crossedAt (max s.tsc t) (max s.tsc t - a))) :=
  (exec_zxCrossing_unqualified hp hi hq).trans (congrArg Host.Outcome.next
    ((State.crossingUnqualified_next (s := s.upTo t) hlast).trans (if_neg (Nat.not_le.mpr hfew))))

theorem exec_zxCrossing_qualifies {t i a : Nat} (hp : s.rst.powered = true) (hi : i < 3) (hq : (s.zx i).qualified = false)
    (hlast : (s.zx i).last = some a) (hmany : 8 ≤ (s.zx i).countAt (max s.tsc t - a)) : exec (.zxCrossing t i) s =
      .next (((s.upTo t).setZx i ((s.zx i).crossedAt (max s.tsc t) (max s.tsc t - a))).crossingAccepted i) :=
  (exec_zxCrossing_unqualified hp hi hq).trans (congrArg Host.Outcome.next
    ((State.crossingUnqualified_next (s := s.upTo t) hlast).trans (if_pos hmany)))

theorem ZxInput.countAt_lt {x : ZxInput} (p : Nat) (h : x.count < 7) : x.countAt p < 8 := by
  unfold ZxInput.countAt; split
  · split <;> omega
  · decide

theorem ZxInput.countAt_out (x : ZxInput) {p : Nat} (h : periodOk p = false) : x.countAt p = 1 := by
  unfold ZxInput.countAt; rw [h]; rfl

theorem ZxInput.countAt_near {x : ZxInput} {p : Nat} (h : periodOk p = true) (hnear : x.count ≤ 1 ∨ periodsClose p x.period = true) :
    x.countAt p = max 1 x.count + 1 := by
  unfold ZxInput.countAt; rw [if_pos h, if_pos (by simpa using hnear)]

theorem ZxInput.countAt_far {x : ZxInput} {p : Nat} (h : periodOk p = true) (hcount : 1 < x.count) (hfar : periodsClose p x.period = false) :
    x.countAt p = 2 := by
  unfold ZxInput.countAt
  rw [if_pos h, if_neg]
  simp [hfar, hcount]

theorem exec_zxCrossing_early {t i a : Nat} (hp : s.rst.powered = true) (hi : i < 3) (hq : (s.zx i).qualified = true)
    (hlast : (s.zx i).last = some a) (hearly : 2 * (max s.tsc t - a) < (s.zx i).period) : exec (.zxCrossing t i) s = .next (s.upTo t) := by
  have hstays : (s.upTo t).crossingQualified i = s.upTo t := by
    unfold State.crossingQualified
    simp only [show ((s.upTo t).zx i).last = some a from hlast]
    exact if_pos hearly
  rw [exec_zxCrossing hp hi, hq, if_pos rfl, hstays]

/-! ## Missed crossings (R90) -/

theorem exec_zxCrossingMissed {t i a : Nat} (hp : s.rst.powered = true) (hi : i < 3) (hq : (s.zx i).qualified = true)
    (hlast : (s.zx i).last = some a) (hlate : (a + (s.zx i).period) * 36 + (s.zx i).period ≤ max s.tsc t * 36) :
    exec (.zxCrossingMissed t i) s = .next ((s.upTo t).zxMiss i) := by
  refine (State.run_powered hp t _).trans (congrArg Host.Outcome.next (if_pos ⟨hi, hq, ?_⟩))
  simp only [show ((s.upTo t).zx i).last = some a from hlast]
  exact decide_eq_true hlate

/-- The input's prediction moves on by a period (R90). -/
def ZxInput.missed (x : ZxInput) : ZxInput :=
  { x with misses := x.misses + 1, accepted := false, last := x.last.map fun a => a + x.period }

theorem State.zxMiss_moves {i : Nat} (hbetween : s.tether.between = false) (href : s.tether.ref ≠ i + 1) (hmisses : (s.zx i).misses < 2) :
    s.zxMiss i = s.setZx i (s.zx i).missed := by
  have hfew : ¬ (s.zx i).missed.misses ≥ 3 := by show ¬ (s.zx i).misses + 1 ≥ 3; omega
  exact (if_neg hfew).trans (State.settleReference_stays (s := s.setZx i (s.zx i).missed) hbetween href)

/-- The input after its third missed crossing in a row: it must qualify anew. -/
def ZxInput.lost (x : ZxInput) : ZxInput :=
  { x with qualified := false, count := 0, last := none, misses := 0, accepted := false }

theorem State.zxMiss_loses {i a : Nat} (hbetween : s.tether.between = false) (href : s.tether.ref ≠ i + 1) (hmisses : 2 ≤ (s.zx i).misses)
    (hlast : (s.zx i).last = some a) (hlate : a + (s.zx i).period < s.tsc) :
    s.zxMiss i = ((s.setZx i (s.zx i).missed).setZx i (s.zx i).lost).bump 0x1212 (4 + i) := by
  have hmany : (s.zx i).missed.misses ≥ 3 := by show (s.zx i).misses + 1 ≥ 3; omega
  have hshown : ((s.zx i).missed.last == some s.tsc) = false := by
    show (((s.zx i).last.map fun a => a + (s.zx i).period) == some s.tsc) = false
    rw [hlast]
    simpa using Nat.ne_of_lt hlate
  have hlost : (s.setZx i (s.zx i).missed).zxLost i =
      (((s.setZx i (s.zx i).missed).setZx i (s.zx i).lost).bump 0x1212 (4 + i)).settleReference i := by
    unfold State.zxLost
    simp only [State.zx_setZx_self]
    rw [show (s.setZx i (s.zx i).missed).tsc = s.tsc from rfl, hshown]
    rfl
  refine (if_pos hmany).trans (hlost.trans ?_)
  exact State.settleReference_stays hbetween href

/-! ## The end of the tether's holdover (R93) -/

theorem exec_tetherHoldoverExpiry_ends {t : Nat} (hp : s.rst.powered = true) (hstate : s.tether.state = .holdover)
    (hdue : s.val 0x1210 7 * 1000000 ≤ s.tether.holdUsed + (max s.tsc t - s.tether.holdAt)) : exec (.tetherHoldoverExpiry t) s =
      .next (({ s.upTo t with tether := { s.tether with state := .freerun, valid := false } } : State).bump 0x1212 3) :=
  (State.run_powered hp t _).trans (congrArg Host.Outcome.next (if_pos ⟨hstate, hdue⟩))

theorem exec_tetherHoldoverExpiry_waits {t : Nat} (hp : s.rst.powered = true)
    (hdue : s.tether.holdUsed + (max s.tsc t - s.tether.holdAt) < s.val 0x1210 7 * 1000000) :
    exec (.tetherHoldoverExpiry t) s = .next (s.upTo t) :=
  (State.run_powered hp t _).trans (congrArg Host.Outcome.next (if_neg fun h => Nat.not_lt.mpr h.2 hdue))

/-! ## The slots (R96) -/

/-- The tether at the beginning of the next slot. -/
def State.nextSlot (s : State) : Tether :=
  let n := (s.tether.slot + 1) % 24
  { s.tether with
    slot := n, slotAt := s.slotEnd, slotCount := s.tether.slotCount + 1,
    cycleValid := if n = 0 then s.tether.valid else s.tether.cycleValid && s.tether.valid,
    cycle := s.tether.cycle + (if n = 0 then 1 else 0), slotZero := if n = 0 then s.slotEnd else s.tether.slotZero }

theorem State.slotBegin_within (h : (s.tether.slot + 1) % 24 ≠ 0) : s.slotBegin = { s with tether := s.nextSlot } := if_neg h

theorem State.slotBegin_tether (s : State) : s.slotBegin.tether = s.nextSlot := by
  unfold State.slotBegin
  extract_lets n valid _ u
  refine (apply_ite State.tether _ _ _).trans (ite_eq_iff'.mpr ⟨fun _ => ?_, fun _ => rfl⟩)
  have k : Keeps [.free, .dict, .lanes, .routes] u (u.cycleStart valid) := by
    apply State.cycleStart_keeps
    · exact .refl _ u
    all_goals decide
  exact k.frame .tether (by decide)

theorem State.slotBegin_changes (s : State) : Keeps [.tether, .free, .dict, .lanes, .routes] s s.slotBegin := by
  apply State.slotBegin_keeps
  · exact .refl _ s
  all_goals decide

theorem exec_slotBoundary_begins {t : Nat} (hp : s.rst.powered = true) (hruns : (s.block 5 2).state = .running) (hdue : s.slotEnd ≤ max s.tsc t) :
    exec (.slotBoundary t) s = .next (s.upTo t).slotBegin :=
  (State.run_powered hp t _).trans (congrArg Host.Outcome.next (if_pos ⟨hruns, hdue⟩))

theorem exec_slotBoundary_waits {t : Nat} (hp : s.rst.powered = true) (hdue : max s.tsc t < s.slotEnd) :
    exec (.slotBoundary t) s = .next (s.upTo t) :=
  (State.run_powered hp t _).trans (congrArg Host.Outcome.next (if_neg fun h => Nat.not_lt.mpr h.2 hdue))

end Inputs

/-- Settles O10: an unqualified crossing is judged by `ZxInput.countAt`, a missed one moves the prediction or loses the input, and the
holdover ends by its timer. -/
theorem mainsInputsComplete : Obligations.MainsInputsComplete := by
  unfold Obligations.MainsInputsComplete
  refine ⟨fun s t i hs hi => ⟨fun hq hlast => ?first, fun a hq hlast hcount => ?counting, fun a hq hlast hcount hok hclose => ?qualifies,
    fun a hq hlast hearly => Did.answer_upTo (exec_zxCrossing_early hs.2 hi hq hlast hearly)⟩,
    fun s t i a hs hi hbetween href hq hlast hperiod hlate => ?missed,
    fun s t hs hstate => ⟨fun hdue => ?expires, fun hdue => Did.answer_upTo (exec_tetherHoldoverExpiry_waits hs.2 hdue)⟩⟩
  case first =>
    refine ⟨_, exec_zxCrossing_unqualified hs.2 hi hq, ?_⟩
    rw [State.crossingUnqualified_first (s := s.upTo t) hlast]
    exact ⟨.record, State.zx_setZx_self _ _ _, fun j hj => State.zx_setZx_ne _ _ hj⟩
  case counting =>
    have hfew := ZxInput.countAt_lt (x := s.zx i) (max s.tsc t - a) hcount
    refine ⟨_, exec_zxCrossing_counts hs.2 hi hq hlast hfew, ?_⟩
    rw [State.zx_setZx_self]
    exact ⟨.record, decide_eq_false (Nat.not_le.mpr hfew), rfl, rfl, (s.zx i).countAt_out, ZxInput.countAt_near, ZxInput.countAt_far,
      fun j hj => State.zx_setZx_ne _ _ hj, rfl, rfl, rfl, rfl, rfl⟩
  case qualifies =>
    have hmany : (s.zx i).countAt (max s.tsc t - a) ≥ 8 := by
      rw [ZxInput.countAt_near hok (.inr hclose)]; omega
    refine ⟨_, exec_zxCrossing_qualifies hs.2 hi hq hlast hmany, ?_⟩
    obtain ⟨hqualified, hlast'⟩ :=
      State.crossingAccepted_mark ((s.upTo t).setZx i ((s.zx i).crossedAt (max s.tsc t) (max s.tsc t - a))) i i
    rw [State.zx_setZx_self] at hqualified hlast'
    exact ⟨hqualified.trans (decide_eq_true hmany), hlast'⟩
  case missed =>
    have hexec := exec_zxCrossingMissed hs.2 hi hq hlast hlate
    by_cases hmisses : (s.zx i).misses < 2
    case pos =>
      rw [State.zxMiss_moves (s := s.upTo t) hbetween href hmisses] at hexec
      refine ⟨_, hexec, fun j hj => State.zx_setZx_ne _ _ hj, ?_, rfl, rfl, fun _ => ⟨.record, ?_, ?_, ?_⟩,
        fun h => absurd hmisses (Nat.not_lt.mpr h)⟩
      all_goals rw [State.zx_setZx_self]
      case refine_1 => rfl
      case refine_2 => exact congrArg (Option.map fun a => a + (s.zx i).period) hlast
      case refine_3 => rfl
      case refine_4 => exact hq
    case neg =>
      have hpast : a + (s.zx i).period < max s.tsc t := by omega
      rw [State.zxMiss_loses (s := s.upTo t) hbetween href (Nat.not_lt.mp hmisses) hlast hpast] at hexec
      have hzx : ∀ v : State, ∀ x : ZxInput, ((v.setZx i x).bump 0x1212 (4 + i)).zx i = x := fun v x => State.zx_setZx_self v i x
      refine ⟨_, hexec, fun j hj => ?_, ?_, rfl, rfl, fun h => absurd h hmisses, fun _ => ⟨.record, ?_, ?_, ?_, State.counted_bump _ _ _⟩⟩
      case refine_1 => exact (State.zx_setZx_ne _ _ hj).trans (State.zx_setZx_ne _ _ hj)
      all_goals rw [hzx]; rfl
  case expires =>
    exact ⟨_, exec_tetherHoldoverExpiry_ends hs.2 hstate hdue, .record, rfl, State.counted_bump _ _ _⟩

/-- Settles O11: the next slot is `State.nextSlot`; only slot 0 does more. -/
theorem slotBoundaryAdvances : Obligations.SlotBoundaryAdvances := by
  unfold Obligations.SlotBoundaryAdvances
  intro s t hs hruns
  refine ⟨fun hdue => ⟨_, exec_slotBoundary_begins hs.2 hruns hdue, .of_keeps (State.slotBegin_changes _) (by decide), ?_⟩,
    fun hdue => Did.answer_upTo (exec_slotBoundary_waits hs.2 hdue)⟩
  rw [State.slotBegin_tether]
  refine ⟨rfl, rfl, rfl, rfl, rfl, rfl, fun hwithin => ?_⟩
  rw [State.slotBegin_within (s := s.upTo t) hwithin]
  exact .record

end Sys2Proof.Machine
end

section
/-! The event log and the event mailboxes (R100, R101, R449, R451): the reorder stage, the writing of a record, and the mailbox registers. -/

set_option Elab.async false

namespace Sys2Proof.Machine

/-! ## Insertion in order -/

theorem insertBy_eq_orderedInsert {α : Type} (lt : α → α → Bool) (x : α) (l : List α) :
    insertBy lt x l = l.orderedInsert (fun a b => lt a b = true) x := by
  induction l with
  | nil => rfl
  | cons y l ih => simp only [insertBy, List.orderedInsert, ih]

theorem insertBy_perm {α : Type} (lt : α → α → Bool) (x : α) (l : List α) : (insertBy lt x l).Perm (x :: l) := by
  rw [insertBy_eq_orderedInsert]
  exact List.perm_orderedInsert _ _ _

/-- Where `lt` is transitive, an insertion keeps a list in which no later element goes before an earlier one. -/
theorem insertBy_pairwise {α : Type} {lt : α → α → Bool} (htrans : ∀ a b c, lt a b = true → lt b c = true → lt a c = true)
    (hasymm : ∀ a b, lt a b = true → lt b a = false) (x : α) {l : List α} (h : l.Pairwise fun a b => lt b a = false) :
    (insertBy lt x l).Pairwise fun a b => lt b a = false := by
  induction l with
  | nil => exact List.pairwise_singleton _ _
  | cons y l ih =>
    obtain ⟨hy, hl⟩ := List.pairwise_cons.mp h
    by_cases hxy : lt x y = true
    case pos =>
      rw [insertBy, if_pos hxy]
      refine List.pairwise_cons.mpr ⟨fun z hz => ?_, h⟩
      rcases List.mem_cons.mp hz with rfl | hz
      · exact hasymm _ _ hxy
      · exact Bool.eq_false_iff.mpr fun hzx => by
          have := hy z hz
          rw [htrans z x y hzx hxy] at this
          exact absurd this (by decide)
    case neg =>
      rw [insertBy, if_neg hxy]
      refine List.pairwise_cons.mpr ⟨fun z hz => ?_, ih hl⟩
      rcases List.mem_cons.mp ((insertBy_perm lt x l).mem_iff.mp hz) with rfl | hz
      · exact Bool.eq_false_iff.mpr hxy
      · exact hy z hz

theorem recordBefore_iff (a b : LogRecord) : recordBefore a b = true ↔ a.time < b.time ∨ (a.time = b.time ∧ a.source < b.source) := by
  simp [recordBefore]

theorem recordBefore_trans (a b c : LogRecord) (hab : recordBefore a b = true) (hbc : recordBefore b c = true) : recordBefore a c = true := by
  rw [recordBefore_iff] at *; omega

theorem recordBefore_asymm (a b : LogRecord) (h : recordBefore a b = true) : recordBefore b a = false := by
  rw [Bool.eq_false_iff, Ne, recordBefore_iff]
  rw [recordBefore_iff] at h
  omega

section Log

variable {s : State}

/-! ## The reorder stage (R100, R101) -/

/-- Nothing leaves the reorder stage while no record's two beats are over. -/
theorem State.flushStage_none (h : ∀ r ∈ s.log.stage, s.tsc ≤ r.time + 80000) : s.flushStage = s := by
  have hdue : ∀ r ∈ s.log.stage, ¬ decide (r.time + reorderNs < s.tsc) = true := fun r hr => by
    have := h r hr
    rw [decide_eq_true_eq, show reorderNs = 80000 from rfl]; omega
  have hnone : s.log.stage.filter (fun r => decide (r.time + reorderNs < s.tsc)) = [] := List.filter_eq_nil_iff.mpr hdue
  have hall : s.log.stage.filter (fun r => !decide (r.time + reorderNs < s.tsc)) = s.log.stage :=
    List.filter_eq_self.mpr fun r hr => by simpa using hdue r hr
  unfold State.flushStage
  simp only [hnone, hall]
  rfl

/-- The record of an event. -/
def recordOf (e : EventIn) (flags : Nat) : LogRecord := ⟨e.time, e.source, e.code, e.severity, flags, 0, e.data⟩

theorem State.deliverEvent_staged {e : EventIn} (hstage : ∀ r ∈ s.log.stage, s.tsc ≤ r.time + 80000) (h : s.tsc ≤ e.time + 80000) :
    s.deliverEvent e = { s with log := { s.log with stage := insertBy recordBefore (recordOf e 0) s.log.stage } } := by
  unfold State.deliverEvent
  rw [State.flushStage_none hstage]
  exact if_neg (Nat.not_lt.mpr h)

theorem State.deliverEvent_late {e : EventIn} (hstage : ∀ r ∈ s.log.stage, s.tsc ≤ r.time + 80000) (h : e.time + 80000 < s.tsc) :
    s.deliverEvent e = (s.writeRecord (recordOf e 1)).bump 0x1220 2 := by
  unfold State.deliverEvent
  rw [State.flushStage_none hstage]
  exact if_pos h

theorem exec_eventDelivery_some {t : Nat} (hp : s.rst.powered = true) (e : EventIn) :
    exec (.eventDelivery t (some e)) s = .next ((s.upTo t).deliverEvent e) := State.run_powered hp t fun u => u.deliverEvent e

theorem exec_eventDelivery_detected {t : Nat} (hp : s.rst.powered = true) {e : EventIn} {l : List EventIn} (h : s.log.detected = e :: l) :
    exec (.eventDelivery t none) s = .next (({ s.upTo t with log := { s.log with detected := l } } : State).deliverEvent e) := by
  simp only [exec, execEventDelivery, State.run_powered hp, State.upTo_log, h]

theorem exec_eventDelivery_none {t : Nat} (hp : s.rst.powered = true) (h : s.log.detected = []) :
    exec (.eventDelivery t none) s = .next (s.upTo t).flushStage := by
  simp only [exec, execEventDelivery, State.run_powered hp, State.upTo_log, h]

/-! ## Writing a record (R449, R451) -/

/-- The log behind one more record. -/
def EventLog.append (x : EventLog) (r : LogRecord) : EventLog :=
  { x with
    records := Table.insert x.records x.next { r with issue := x.issue }, next := (x.next + 1) % 65536, written := x.written + 1,
    issue := (x.issue + 1) % 65536 }

/-- Every function's mailbox is offered a record. -/
def State.mailAll (s : State) (r : LogRecord) (l : List Nat) : State := s.each l fun v f => v.mailRecord r f

theorem State.writeRecord_written {r : LogRecord} (h : s.val 0x1800 5 ≤ r.severity ∨ 3 ≤ r.severity) : s.writeRecord r =
    ({ s with log := s.log.append r } : State).mailAll { r with issue := s.log.issue } (s.pages.map Prod.fst) :=
  if_neg fun hlow => by have h3 : r.severity < 3 := hlow.2; omega

theorem State.writeRecord_low {r : LogRecord} (hval : r.severity < s.val 0x1800 5) (hlow : r.severity < 3) : s.writeRecord r = s :=
  if_pos ⟨hval, hlow⟩

theorem State.mailRecord_keeps_mail (s : State) (r : LogRecord) (f : Nat) : Keeps [.out, .pages] s (s.mailRecord r f) :=
  State.mailRecord_keeps (.refl _ s) r f (by decide) (by decide)

theorem State.mailAll_keeps (s : State) (r : LogRecord) (l : List Nat) : Keeps [.out, .pages] s (s.mailAll r l) :=
  Keeps.each (.refl _ s) fun v f => v.mailRecord_keeps_mail r f

/-- A function's mailbox takes the record: it is enabled, its function has a role, and its lowest severity is reached. -/
def State.Takes (s : State) (r : LogRecord) (f : Nat) : Prop :=
  (s.page f).evtEnable = true ∧ (if f = 0 then min 3 (s.page f).minSev else (s.page f).minSev) ≤ r.severity ∧ s.roleOf f ≠ 0

/-- What a mailbox that takes a record holds then. -/
def Page.mailed (x : Page) (r : LogRecord) : Page :=
  if x.evtFifo.length < 16 then { x with evtFifo := x.evtFifo ++ [r] }
  else { x with evtOverflow := true, evtLost := min 0xFFFFFFFF (x.evtLost + 1) }

theorem State.mailRecord_other (s : State) (r : LogRecord) {f g : Nat} (h : g ≠ f) : (s.mailRecord r f).page g = s.page g := by
  unfold State.mailRecord
  extract_lets x low u
  have hu : u.page g = s.page g := Table.get_put_ne _ _ h
  split
  · split
    · split
      · exact hu
      · exact hu
    · exact Table.get_put_ne _ _ h
  · rfl

theorem State.mailRecord_taken {r : LogRecord} {f : Nat} (h : s.Takes r f) : (s.mailRecord r f).page f = (s.page f).mailed r := by
  unfold State.mailRecord Page.mailed
  extract_lets x low u
  have hu : u.page f = { x with evtFifo := x.evtFifo ++ [r] } := Table.get_put_self _ _ _
  rw [if_pos (show x.evtEnable = true ∧ low ≤ r.severity ∧ s.roleOf f ≠ 0 from h)]
  split
  · split
    · exact hu
    · exact hu
  · exact Table.get_put_self _ _ _

theorem State.mailRecord_not_taken {r : LogRecord} {f : Nat} (h : ¬ s.Takes r f) : s.mailRecord r f = s := if_neg h

theorem State.mailAll_not_mem {r : LogRecord} {f : Nat} {l : List Nat} (h : f ∉ l) : (s.mailAll r l).page f = s.page f := by
  induction l generalizing s with
  | nil => rfl
  | cons g l ih =>
    obtain ⟨hg, hl⟩ := not_or.mp (mt List.mem_cons.mpr h)
    exact (ih hl).trans (s.mailRecord_other r hg)

theorem State.takes_congr {t : State} {r : LogRecord} {f : Nat} (hpage : t.page f = s.page f) (hraw : ∀ k, t.raw k = s.raw k) :
    t.Takes r f ↔ s.Takes r f := by
  unfold State.Takes State.roleOf State.val
  rw [hpage, hraw]

/-- Each mailbox is offered the record once. -/
theorem State.mailAll_mem {r : LogRecord} {f : Nat} {l : List Nat} (hl : l.Nodup) (hf : f ∈ l) :
    (s.mailAll r l).page f = (s.mailRecord r f).page f := by
  induction l generalizing s with
  | nil => exact absurd hf List.not_mem_nil
  | cons g l ih =>
    obtain ⟨hg, hl⟩ := List.nodup_cons.mp hl
    show ((s.mailRecord r g).mailAll r l).page f = _
    by_cases hfg : f = g
    case pos => subst hfg; exact State.mailAll_not_mem hg
    case neg =>
      have hpage : (s.mailRecord r g).page f = s.page f := s.mailRecord_other r hfg
      have htakes : (s.mailRecord r g).Takes r f ↔ s.Takes r f := State.takes_congr hpage fun k => (s.mailRecord_keeps_mail r g).raw k
      rw [ih hl (List.mem_of_ne_of_mem hfg hf)]
      by_cases h : s.Takes r f
      case pos => rw [State.mailRecord_taken h, State.mailRecord_taken (htakes.mpr h), hpage]
      case neg => rw [State.mailRecord_not_taken h, State.mailRecord_not_taken (mt htakes.mp h), hpage]

theorem Table.nodup_keys {α : Type} {t : Table α} (ht : Table.rising t = true) : (t.map Prod.fst).Nodup := by
  induction t with
  | nil => exact List.nodup_nil
  | cons e t ih =>
    obtain ⟨j, v⟩ := e
    rw [Table.rising_cons, Bool.and_eq_true] at ht
    obtain ⟨habove, hrising⟩ := ht
    refine List.nodup_cons.mpr ⟨fun hj => ?_, ih hrising⟩
    obtain ⟨e, he, hkey⟩ := List.mem_map.mp hj
    have hfind := Table.find_of_mem hrising he
    rw [Table.find_above habove (Nat.le_of_eq hkey)] at hfind
    exact absurd hfind (by simp)

/-- A table's key that it does not list has the default content. -/
theorem Table.get_not_mem {α : Type} (d : α) {t : Table α} {k : Nat} (h : k ∉ t.map Prod.fst) : Table.get d t k = d := by
  unfold Table.get
  induction t with
  | nil => rfl
  | cons e t ih =>
    obtain ⟨j, v⟩ := e
    rw [List.map_cons, List.mem_cons, not_or] at h
    rw [Table.find, if_neg fun hj => h.1 hj.symm]
    exact ih h.2

/-- The writing of a record offers it to every mailbox, and to each once. -/
theorem State.writeRecord_page {r : LogRecord} (hs : Table.rising s.pages = true) (h : s.val 0x1800 5 ≤ r.severity ∨ 3 ≤ r.severity) (f : Nat) :
    (s.writeRecord r).page f = (({ s with log := s.log.append r } : State).mailRecord { r with issue := s.log.issue } f).page f := by
  rw [State.writeRecord_written h]
  by_cases hf : f ∈ s.pages.map Prod.fst
  case pos => exact State.mailAll_mem (Table.nodup_keys hs) hf
  case neg =>
    have hpage : s.page f = {} := Table.get_not_mem _ hf
    have hdisabled : ¬ ({ s with log := s.log.append r } : State).Takes { r with issue := s.log.issue } f := fun htakes => by
      have henable : (s.page f).evtEnable = true := htakes.1
      rw [hpage] at henable
      exact absurd henable (by decide)
    rw [State.mailAll_not_mem hf, State.mailRecord_not_taken hdisabled]

theorem State.writeRecord_page_taken {r : LogRecord} {f : Nat} (hs : Table.rising s.pages = true)
    (h : s.val 0x1800 5 ≤ r.severity ∨ 3 ≤ r.severity) (htakes : s.Takes r f) :
    (s.writeRecord r).page f = (s.page f).mailed { r with issue := s.log.issue } :=
  (State.writeRecord_page hs h f).trans (State.mailRecord_taken (s := { s with log := s.log.append r }) htakes)

theorem State.writeRecord_page_not_taken {r : LogRecord} {f : Nat} (hs : Table.rising s.pages = true)
    (h : s.val 0x1800 5 ≤ r.severity ∨ 3 ≤ r.severity) (htakes : ¬ s.Takes r f) : (s.writeRecord r).page f = s.page f := by
  have hsame := State.mailRecord_not_taken (s := { s with log := s.log.append r }) (r := { r with issue := s.log.issue }) htakes
  rw [State.writeRecord_page hs h f, hsame]
  rfl

theorem Page.mailed_room {x : Page} (r : LogRecord) (h : x.evtFifo.length < 16) : x.mailed r = { x with evtFifo := x.evtFifo ++ [r] } := if_pos h

theorem Page.mailed_full {x : Page} (r : LogRecord) (h : 16 ≤ x.evtFifo.length) :
    x.mailed r = { x with evtOverflow := true, evtLost := min 0xFFFFFFFF (x.evtLost + 1) } := if_neg (Nat.not_lt.mpr h)

/-- The writing of a record shows in the log, in the pages and as interrupts. -/
theorem State.writeRecord_log {r : LogRecord} (h : s.val 0x1800 5 ≤ r.severity ∨ 3 ≤ r.severity) : (s.writeRecord r).log = s.log.append r := by
  rw [State.writeRecord_written h]
  exact (State.mailAll_keeps _ _ _).frame .log (by decide)

theorem State.writeRecord_raw (s : State) (r : LogRecord) (k : Nat) : (s.writeRecord r).raw k = s.raw k :=
  (State.writeRecord_keeps (.refl [.out, .log, .pages] s) r (by decide) (by decide) (by decide)).raw k

/-- A counter that counts after the writing counts from what it stood at. -/
theorem State.writeRecord_counted (s : State) (r : LogRecord) (i j : Nat) : Counted [keyOf i j] s ((s.writeRecord r).bump i j) := by
  obtain ⟨hother, hcount⟩ := (s.writeRecord r).counted_bump i j
  have hvariant := (State.writeRecord_keeps (.refl [.out, .log, .pages] s) r (by decide) (by decide) (by decide)).variant
  refine ⟨fun k hk => (hother k hk).trans (s.writeRecord_raw r k), fun k hk => ?_⟩
  rw [hcount k hk, hvariant, s.writeRecord_raw]

/-! ## The registers of an event mailbox -/

theorem exec_evtPop {t f : Nat} (hp : s.rst.powered = true) (w : Word32) : exec (.evtPop t f w) s =
    .next (if s.open f ∧ bit w.toNat 0 then (s.upTo t).setPage f { s.page f with evtFifo := (s.page f).evtFifo.drop 1 } else s.upTo t) := by
  simp only [exec, execEvtPop, State.run_powered hp]; rfl

theorem exec_evtOverflowClear {t f : Nat} (hp : s.rst.powered = true) (w : Word32) : exec (.evtOverflowClear t f w) s =
    .next (if s.open f ∧ bit w.toNat 30 then (s.upTo t).setPage f (s.page f).clearOverflow else s.upTo t) := by
  simp only [exec, execEvtOverflowClear, State.run_powered hp]; rfl

end Log

/-- Settles O12: a delivery waits in the reorder stage or writes its record, a record written is offered to every mailbox once, and the
mailbox registers change their page alone. -/
theorem eventsReachTheLog : Obligations.EventsReachTheLog := by
  unfold Obligations.EventsReachTheLog
  refine ⟨fun s t hs hstage => ⟨fun e hsoon => ?staged, fun e l hdetected hsoon => ?detected, fun hdetected => ?nothing,
    fun e hlate hsev => ?late, fun e hlate hval hlow => ?low⟩, fun s r f hrising hsev => ⟨fun henable hrole hmin => ?taken, fun hnot => ?notTaken⟩,
    fun s t f w hs hopen => ⟨fun hbit => ?pop, fun hbit => ?noPop, fun hbit => ?clear, fun hbit => ?noClear⟩⟩
  case staged =>
    have hexec := exec_eventDelivery_some (t := t) hs.2 e
    rw [State.deliverEvent_staged (s := s.upTo t) hstage hsoon] at hexec
    exact ⟨_, hexec, .record, rfl, rfl, rfl, insertBy_perm _ _ _, insertBy_pairwise recordBefore_trans recordBefore_asymm _⟩
  case detected =>
    have hexec := exec_eventDelivery_detected (t := t) hs.2 hdetected
    rw [State.deliverEvent_staged (s := { s.upTo t with log := { s.log with detected := l } }) hstage hsoon] at hexec
    exact ⟨_, hexec, .record, rfl, rfl, insertBy_perm _ _ _⟩
  case nothing =>
    exact Did.answer_upTo ((exec_eventDelivery_none hs.2 hdetected).trans
      (congrArg Host.Outcome.next (State.flushStage_none (s := s.upTo t) hstage)))
  case late =>
    have hexec := exec_eventDelivery_some (t := t) hs.2 e
    rw [State.deliverEvent_late (s := s.upTo t) hstage hlate] at hexec
    have hlog : ((s.upTo t).writeRecord (recordOf e 1)).log = s.log.append (recordOf e 1) := State.writeRecord_log (s := s.upTo t) hsev
    have hwrite : Keeps [.out, .dict, .log, .pages] (s.upTo t) ((s.upTo t).writeRecord (recordOf e 1)) :=
      State.writeRecord_keeps (.refl _ _) _ (by decide) (by decide) (by decide)
    refine ⟨_, hexec, .of_keeps (State.bump_keeps hwrite _ _ (by decide)) (by decide), ?_⟩
    rw [State.bump_log, hlog]
    refine ⟨rfl, rfl, Table.find_insert_self _ _ _, rfl, rfl, rfl, fun k hk => Table.find_insert_ne _ _ hk, ?_⟩
    exact ((s.upTo t).writeRecord_counted _ _ _)
  case low =>
    have hexec := exec_eventDelivery_some (t := t) hs.2 e
    rw [State.deliverEvent_late (s := s.upTo t) hstage hlate,
      State.writeRecord_low (s := s.upTo t) (r := recordOf e 1) hval hlow] at hexec
    exact ⟨_, hexec, .record, State.counted_bump _ _ _⟩
  case taken =>
    have hpage := State.writeRecord_page_taken hrising hsev ⟨henable, hmin, hrole⟩
    exact ⟨fun hroom => hpage.trans (Page.mailed_room _ hroom), fun hfull => hpage.trans (Page.mailed_full _ hfull)⟩
  case notTaken =>
    refine State.writeRecord_page_not_taken hrising hsev fun htakes => ?_
    obtain ⟨henable, hmin, hrole⟩ := htakes
    rcases hnot with hoff | hnone | hbelow
    · rw [henable] at hoff; exact absurd hoff (by decide)
    · exact hrole hnone
    · exact Nat.not_lt.mpr hmin hbelow
  case pop =>
    rw [exec_evtPop hs.2 w, if_pos ⟨hopen, hbit⟩]
    exact ⟨_, rfl, .record, fun g hg => Table.get_put_ne _ _ hg, Table.get_put_self _ _ _⟩
  case noPop =>
    rw [exec_evtPop hs.2 w, if_neg fun h => by rw [hbit] at h; exact absurd h.2 (by decide)]
    exact ⟨_, rfl, .upTo s t⟩
  case clear =>
    rw [exec_evtOverflowClear hs.2 w, if_pos ⟨hopen, hbit⟩]
    exact ⟨_, rfl, .record, fun g hg => Table.get_put_ne _ _ hg, Table.get_put_self _ _ _⟩
  case noClear =>
    rw [exec_evtOverflowClear hs.2 w, if_neg fun h => by rw [hbit] at h; exact absurd h.2 (by decide)]
    exact ⟨_, rfl, .upTo s t⟩

end Sys2Proof.Machine
end

section
/-! Errors of cells and blocks (R20-R27, R31, R37): source numbers, what a region does with an escalation, and what a withdrawal leaves. -/

set_option Elab.async false

namespace Sys2Proof.Machine

/-! ## Source numbers and bits -/

theorem srcRegion_srcOf {r b c : Nat} (hr : r < 16) (hb : b < 64) (hc : c < 64) : srcRegion (srcOf r b c) = r := by
  unfold srcRegion bits srcOf
  rw [Nat.shiftRight_eq_div_pow]
  omega

theorem srcBlk_srcOf {r b c : Nat} (hb : b < 64) (hc : c < 64) : srcBlk (srcOf r b c) = b := by
  unfold srcBlk bits srcOf
  rw [Nat.shiftRight_eq_div_pow]
  omega

theorem srcCell_srcOf {r b c : Nat} (hc : c < 64) : srcCell (srcOf r b c) = c := by
  unfold srcCell bits srcOf
  rw [Nat.shiftRight_eq_div_pow]
  omega

theorem blockKey_ne {q k r b : Nat} (hk : k < 64) (hb : b < 64) (h : ¬(q = r ∧ k = b)) : blockKey q k ≠ blockKey r b := by
  unfold blockKey; omega

/-- A bit that is not set is added without a carry. -/
theorem testBit_add_two_pow {v i : Nat} (h : v.testBit i = false) (j : Nat) : (v + 2 ^ i).testBit j = (v.testBit j || j == i) := by
  rcases Nat.lt_trichotomy j i with hlt | rfl | hgt
  · rw [Nat.add_comm, Nat.testBit_two_pow_add_gt hlt, beq_eq_false_iff_ne.mpr (Nat.ne_of_lt hlt), Bool.or_false]
  · rw [Nat.add_comm, Nat.testBit_two_pow_add_eq, h, beq_self_eq_true]; rfl
  · obtain ⟨d, rfl⟩ := Nat.exists_eq_add_of_lt hgt
    have heven : v / 2 ^ i % 2 = 0 := by
      have := Nat.testBit_eq_decide_div_mod_eq (x := v) (i := i)
      rw [h] at this
      have hne := of_decide_eq_false this.symm
      omega
    have hup : (v + 2 ^ i) / 2 ^ i / 2 = v / 2 ^ i / 2 := by
      rw [Nat.add_div_right _ (Nat.two_pow_pos i)]; omega
    have hshift : ∀ w : Nat, w.testBit (i + d + 1) = (w / 2 ^ i / 2).testBit d := fun w => by
      rw [Nat.div_div_eq_div_mul, ← Nat.pow_succ, Nat.testBit_div_two_pow]
      congr 1; omega
    rw [hshift, hup, ← hshift, beq_eq_false_iff_ne.mpr (by omega), Bool.or_false]

theorem bit_withBit_true {v i : Nat} (h : bit v i = false) (j : Nat) : bit (withBit v i true) j = (bit v j || j == i) := by
  unfold bit at h
  unfold bit withBit
  rw [h]
  exact testBit_add_two_pow h j

section Blocks

variable {s : State}

/-! ## Escalation to the region (R22-R24) -/

theorem State.overtaken_free {r b : Nat} (h : s.regionBusy r = false) : s.overtaken r b = none := if_neg fun hbusy => by
  rw [h] at hbusy; exact absurd hbusy.1 (by decide)

/-- A block escalates while it runs and does not yet wait for its reset. -/
theorem State.regionReset_escalates {r b : Nat} (hrun : (s.block r b).state = .running) (hqueued : s.queuedReset r b = false) :
    s.regionReset r b = match s.overtaken r b with
      | some k => ((s.setBlock r k { s.block r k with state := .running }).queueReset r k).requestIdle r b s.tsc
      | none => if s.regionBusy r then s.queueReset r b else s.requestIdle r b s.tsc :=
  if_neg (by simp [hrun, hqueued])

theorem State.regionReset_idles {r b : Nat} (hrun : (s.block r b).state = .running) (hqueued : s.queuedReset r b = false)
    (hfree : s.regionBusy r = false) : s.regionReset r b = s.requestIdle r b s.tsc := by
  rw [State.regionReset_escalates hrun hqueued, State.overtaken_free hfree, hfree]; rfl

theorem State.regionReset_queues {r b : Nat} (hrun : (s.block r b).state = .running) (hqueued : s.queuedReset r b = false)
    (hbusy : s.regionBusy r = true) (hfirst : s.overtaken r b = none) : s.regionReset r b = s.queueReset r b := by
  rw [State.regionReset_escalates hrun hqueued, hfirst, hbusy]; rfl

theorem State.regionReset_overtakes {r b k : Nat} (hrun : (s.block r b).state = .running) (hqueued : s.queuedReset r b = false)
    (hfirst : s.overtaken r b = some k) :
    s.regionReset r b = ((s.setBlock r k { s.block r k with state := .running }).queueReset r k).requestIdle r b s.tsc := by
  rw [State.regionReset_escalates hrun hqueued, hfirst]

theorem State.lt_of_overtaken {r b k : Nat} (h : s.overtaken r b = some k) : b < k := by
  unfold State.overtaken at h
  dsimp only at h
  split at h
  · next hk => exact Option.some.inj h ▸ hk.2.1
  · exact absurd h (by simp)

theorem State.block_of_blocks {t : State} (h : t.hier.blocks = s.hier.blocks) (q k : Nat) : t.block q k = s.block q k := by
  unfold State.block; rw [h]

theorem State.queueReset_block (s : State) (r b q k : Nat) : (s.queueReset r b).block q k = s.block q k := rfl

theorem State.requestIdle_block (s : State) (r b time : Nat) :
    (s.requestIdle r b time).block r b = { s.block r b with state := .idleReq, idleAt := s.tsc, escalatedAt := time } :=
  (State.block_of_blocks (t := s.requestIdle r b time) (s := s.setBlock r b _) rfl r b).trans (s.block_setBlock_self r b _)

theorem State.requestIdle_block_ne (s : State) {r b q k : Nat} (time : Nat) (h : blockKey q k ≠ blockKey r b) :
    (s.requestIdle r b time).block q k = s.block q k :=
  (State.block_of_blocks (t := s.requestIdle r b time)
    (s := s.setBlock r b { s.block r b with state := .idleReq, idleAt := s.tsc, escalatedAt := time }) rfl q k).trans
    (s.block_setBlock_ne _ _ _ h)

/-- Where the region resets none an escalation touches no block but its own. -/
theorem State.regionReset_block_ne {r b q k : Nat} (hfree : s.regionBusy r = false) (h : blockKey q k ≠ blockKey r b) :
    (s.regionReset r b).block q k = s.block q k := by
  unfold State.regionReset
  rw [State.overtaken_free hfree, hfree]
  split
  · rfl
  · exact s.requestIdle_block_ne _ h

theorem insertEscalation_perm (q : Escalation) (l : List Escalation) : (insertEscalation q l).Perm (q :: l) := by
  induction l with
  | nil => exact .refl _
  | cons e l ih =>
    unfold insertEscalation
    split
    · exact .refl _
    · exact (ih.cons e).trans (.swap q e l)

/-- An escalation leaves which of a block's cells are withdrawn. -/
theorem State.regionReset_withdrawn (s : State) (r b : Nat) : ((s.regionReset r b).block r b).withdrawn = (s.block r b).withdrawn := by
  unfold State.regionReset
  split
  · rfl
  · split
    · next k hk =>
      have hne : blockKey r b ≠ blockKey r k := by
        have := State.lt_of_overtaken hk
        unfold blockKey; omega
      rw [State.requestIdle_block, State.queueReset_block, s.block_setBlock_ne _ _ _ hne]
    · split
      · rfl
      · rw [State.requestIdle_block]

/-! ## A withdrawn cell (R20) -/

/-- What a withdrawal has left of the blocks: `r b` has the cell withdrawn and its state as it was, the others are as they were. -/
structure BlocksWithout (r b c : Nat) (s t : State) : Prop where
  others : ∀ q k, blockKey q k ≠ blockKey r b → t.block q k = s.block q k
  state : (t.block r b).state = (s.block r b).state
  withdrawn : (t.block r b).withdrawn = withBit (s.block r b).withdrawn c true
  queue : t.hier.queue = s.hier.queue
  busy : t.hier.busy = s.hier.busy

theorem BlocksWithout.setBlock {r b c : Nat} {t : State} {x : Block} (h : BlocksWithout r b c s t) (hstate : x.state = (t.block r b).state)
    (hwithdrawn : x.withdrawn = (t.block r b).withdrawn) : BlocksWithout r b c s (t.setBlock r b x) where
  others q k hne := ((t.block_setBlock r b x q k).trans (if_neg hne)).trans (h.others q k hne)
  state := by rw [t.block_setBlock, if_pos rfl, hstate, h.state]
  withdrawn := by rw [t.block_setBlock, if_pos rfl, hwithdrawn, h.withdrawn]
  queue := h.queue
  busy := h.busy

theorem BlocksWithout.sameBlocks {r b c : Nat} {t u : State} (h : BlocksWithout r b c s t) (blocks : u.hier.blocks = t.hier.blocks := by rfl)
    (queue : u.hier.queue = t.hier.queue := by rfl) (busy : u.hier.busy = t.hier.busy := by rfl) : BlocksWithout r b c s u := by
  have hblock : ∀ q k, u.block q k = t.block q k := fun q k => by unfold State.block; rw [blocks]
  exact ⟨fun q k hne => (hblock q k).trans (h.others q k hne), by rw [hblock]; exact h.state, by rw [hblock]; exact h.withdrawn,
    queue.trans h.queue, busy.trans h.busy⟩

theorem BlocksWithout.reopen {r b c n : Nat} {t : State} (h : BlocksWithout r b c s t) : BlocksWithout r b c s (t.reopen r b n) := by
  unfold State.reopen
  split
  · exact h.setBlock rfl rfl
  · split
    · exact h.sameBlocks
    · split
      · exact h.sameBlocks
      · split
        · exact h.sameBlocks
        · exact h

/-- A cell is withdrawn and logged, its open items given back (R20). -/
def State.takenOut (s : State) (r b c : Nat) : State :=
  let x := s.block r b
  ((s.setBlock r b { x with
      withdrawn := withBit x.withdrawn c true, grantsBack := x.grantsBack ++ [c],
      contained := (s.tsc, c) :: x.contained.filter fun (e : Nat × Nat) => e.1 / beatNs == s.beat }).event
    (srcOf r b c) 0x0203 sevWarning []).reopen r b c

theorem State.withdraw_eq {r b c : Nat} (h : s.isWithdrawn r b c = false) : s.withdraw r b c = (s.takenOut r b c).standIn (srcOf r b c) :=
  if_neg (by rw [show bit (s.block r b).withdrawn c = false from h]; decide)

theorem State.withdraw_again {r b c : Nat} (h : s.isWithdrawn r b c = true) : s.withdraw r b c = s := if_pos h

theorem State.takenOut_blocks (s : State) (r b c : Nat) : BlocksWithout r b c s (s.takenOut r b c) := by
  refine BlocksWithout.reopen ⟨fun q k hne => ?_, ?_, ?_, rfl, rfl⟩
  · exact (State.event_block ..).trans (s.block_setBlock_ne _ _ _ hne)
  · rw [State.event_block, s.block_setBlock_self]
  · rw [State.event_block, s.block_setBlock_self]

theorem State.takenOut_keeps (s : State) (r b c : Nat) : Keeps [.log, .hier, .cipher, .checkParts] s (s.takenOut r b c) :=
  State.reopen_keeps (State.event_keeps (State.setBlock_keeps (.refl _ s) r b _ (by decide)) _ _ _ _ (by decide)) r b c (by decide)
    (by decide) (by decide)

theorem State.takenOut_detected (s : State) (r b c : Nat) :
    (s.takenOut r b c).log.detected = s.log.detected ++ [⟨s.tsc, srcOf r b c, 0x0203, 2, []⟩] := by
  have hlog := (State.reopen_keeps (.refl [.hier, .cipher, .checkParts] ((s.setBlock r b { s.block r b with
      withdrawn := withBit (s.block r b).withdrawn c true, grantsBack := (s.block r b).grantsBack ++ [c],
      contained := (s.tsc, c) :: (s.block r b).contained.filter fun (e : Nat × Nat) => e.1 / beatNs == s.beat }).event
    (srcOf r b c) 0x0203 sevWarning [])) r b c (by decide) (by decide) (by decide)).frame .log (by decide)
  exact congrArg EventLog.detected hlog

theorem State.requestSwap_keeps_sup (s : State) (src reason : Nat) : Keeps [.sup] s (s.requestSwap src reason) :=
  State.requestSwap_keeps (.refl _ s) src reason (by decide)

theorem State.standIn_swaps {src : Nat} (h : s.idleUnit src ≠ none) : s.standIn src = s.requestSwap src 1 :=
  if_pos (Option.isSome_iff_ne_none.mpr h)

/-- Without an idle unit, and without one requested at this TSC, the block falls back on its peers. -/
theorem State.standIn_fallBack {src : Nat} (h : s.idleUnit src = none) (htied : ∀ q ∈ s.sup.requests, q.time ≠ s.tsc) :
    s.standIn src = s.fallBack src := by
  have hnone : s.tiedUnit src = none := List.find?_eq_none.mpr fun q hq => by
    have := htied q hq
    simp [this]
  unfold State.standIn
  rw [h, hnone]
  rfl

theorem State.fallBack_peers {r b c : Nat} (hr : r < 16) (hb : b < 64) (hc : c < 64) (hmem : (peerCells r b c).contains c = true)
    (hserves : ∃ k ∈ peerCells r b c, s.isWithdrawn r b k = false) : s.fallBack (srcOf r b c) = s := by
  obtain ⟨k, hk, hin⟩ := hserves
  have hall : (peerCells r b c).all (fun k => s.isWithdrawn r b k) = false :=
    List.all_eq_false.mpr ⟨k, hk, by rw [hin]; decide⟩
  unfold State.fallBack
  rw [srcRegion_srcOf hr hb hc, srcBlk_srcOf hb hc, srcCell_srcOf hc]
  exact if_pos (by rw [hmem, hall]; rfl)

theorem State.fallBack_last {r b c : Nat} (hr : r < 16) (hb : b < 64) (hc : c < 64)
    (hgone : ∀ k ∈ peerCells r b c, s.isWithdrawn r b k = true) : s.fallBack (srcOf r b c) = s.regionReset r b := by
  have hall : (peerCells r b c).all (fun k => s.isWithdrawn r b k) = true := List.all_eq_true.mpr hgone
  unfold State.fallBack
  rw [srcRegion_srcOf hr hb hc, srcBlk_srcOf hb hc, srcCell_srcOf hc]
  exact if_neg (by rw [hall, Bool.not_true, Bool.and_false]; decide)

end Blocks

end Sys2Proof.Machine
end

section
/-! Uncorrectable errors and corrected ones at the threshold (R20-R22, R24): a cell with peers is withdrawn, one of the key store or of the
Platform region escalates its block. -/

set_option Elab.async false

namespace Sys2Proof.Machine

/-- Cells with peers are of regions 2 and 3, and none of them is a store bank or a cluster's shared SRAM. -/
theorem peerCells_kind {r b c : Nat} (h : (peerCells r b c).contains c = true) : (r = 2 ∨ r = 3) ∧ perEntry r b c = false := by
  unfold peerCells at h
  unfold perEntry
  split at h
  · next hk => obtain ⟨rfl, hb, hc⟩ := hk; simp; omega
  · split at h
    · next hk => obtain ⟨rfl, rfl, hc⟩ := hk; simp
    · split at h
      · next hk => obtain ⟨rfl, rfl, hc⟩ := hk; simp
      · split at h
        · next hk => obtain ⟨rfl, rfl, hc⟩ := hk; simp
        · split at h
          · next hk => obtain ⟨rfl, rfl, hc⟩ := hk; simp
          · split at h
            · next hk => obtain ⟨rfl, rfl, hc⟩ := hk; simp
            · exact absurd h (by simp)

/-- The key store and the blocks of the Platform region have neither peers nor entries. -/
theorem peerCells_platform {r b : Nat} (h : r = 3 ∧ b = 1 ∨ r = 5) (c : Nat) : peerCells r b c = [] ∧ perEntry r b c = false := by
  unfold peerCells perEntry
  rcases h with ⟨rfl, rfl⟩ | rfl
  · exact ⟨rfl, rfl⟩
  · exact ⟨rfl, rfl⟩

section Errors

variable {s : State} {t r b c : Nat}

/-- The state of a module that has seen an error of a cell. -/
def State.erred (s : State) (src addr : Nat) : State := s.event src 0x0202 sevWarning (toBE 8 addr)

theorem State.erred_keeps (s : State) (src addr : Nat) : Keeps [.log] s (s.erred src addr) :=
  State.event_keeps (.refl _ s) src 0x0202 sevWarning (toBE 8 addr) (by decide)

theorem State.erred_detected (s : State) (src addr : Nat) :
    (s.erred src addr).log.detected = s.log.detected ++ [⟨s.tsc, src, 0x0202, 2, toBE 8 addr⟩] := rfl

theorem exec_uncorrectableError_contains (hp : s.rst.powered = true) (addr : Nat) (hr : 0 < r ∧ r < 16) (hb : b < 64) (hc : c < 64)
    (hpresent : cellPresent s.variant r b c = true) (hentry : perEntry r b c = false) :
    exec (.uncorrectableError t (srcOf r b c) addr) s = .next (((s.upTo t).erred (srcOf r b c) addr).contain (srcOf r b c)) := by
  have hsrc : srcOf r b c ≠ 0 := by unfold srcOf; omega
  simp only [exec, execUncorrectableError, State.run_powered hp, srcRegion_srcOf hr.2 hb hc, srcBlk_srcOf hb hc, srcCell_srcOf hc, if_neg hsrc,
    State.upTo_variant, hpresent, hentry]
  rfl

theorem State.contain_withdraws (hr : r < 16) (hb : b < 64) (hc : c < 64) (hpresent : cellPresent s.variant r b c = true)
    (hpeers : (peerCells r b c).contains c = true) : s.contain (srcOf r b c) = s.withdraw r b c := by
  unfold State.contain
  simp only [srcRegion_srcOf hr hb hc, srcBlk_srcOf hb hc, srcCell_srcOf hc, hpresent, hpeers]
  rfl

theorem State.contain_escalates (hb : b < 64) (hc : c < 64) (hpresent : cellPresent s.variant r b c = true)
    (hkind : r = 3 ∧ b = 1 ∨ r = 5) : s.contain (srcOf r b c) = s.regionReset r b := by
  have hr : r < 16 := by omega
  have hline : ¬(r = 1 ∨ r = 4 ∧ b = 0) := by omega
  unfold State.contain State.escalate
  simp only [srcRegion_srcOf hr hb hc, srcBlk_srcOf hb hc, srcCell_srcOf hc, hpresent, (peerCells_platform hkind c).1]
  rw [if_neg (by simp), if_neg (by simp), if_neg fun h => hline h.1]

theorem exec_correctionThreshold_reached {n : Nat} (hp : s.rst.powered = true) (hr : r < 16) (hb : b < 64) (hc : c < 64)
    (hpresent : cellPresent s.variant r b c = true) (hentry : perEntry r b c = false) (hn : s.val 0x1010 1 ≤ n) :
    exec (.correctionThreshold t (srcOf r b c) n) s =
      .next (((s.upTo t).event (srcOf r b c) 0x0201 sevWarning (toBE 2 n ++ toBE 4 (s.val 0x1010 2))).contain (srcOf r b c)) := by
  simp only [exec, execCorrectionThreshold, State.run_powered hp, srcRegion_srcOf hr hb hc, srcBlk_srcOf hb hc, srcCell_srcOf hc,
    State.upTo_variant, State.upTo_val, hpresent, hentry]
  exact congrArg Host.Outcome.next (if_pos ⟨hn, trivial⟩)

theorem exec_correctionThreshold_below {n src : Nat} (hp : s.rst.powered = true) (hn : n < s.val 0x1010 1) :
    exec (.correctionThreshold t src n) s = .next (s.upTo t) := by
  simp only [exec, execCorrectionThreshold, State.run_powered hp]
  exact congrArg Host.Outcome.next (if_neg fun h => Nat.not_le.mpr hn h.1)

/-! ## What a withdrawal with its stand-in leaves -/

theorem State.withdraw_keeps_containment (s : State) (r b c : Nat) : Keeps [.log, .hier, .cipher, .checkParts, .sup] s (s.withdraw r b c) := by
  apply State.withdraw_keeps
  · exact .refl _ s
  all_goals decide

/-- The ways a withdrawal goes on: a ballast unit is requested, peers take over, or the block escalates. -/
theorem State.withdraw_cases (hr : r < 16) (hb : b < 64) (hc : c < 64) (hpeers : (peerCells r b c).contains c = true)
    (hnot : s.isWithdrawn r b c = false) (htied : ∀ q ∈ s.sup.requests, q.time ≠ s.tsc) :
    s.idleUnit (srcOf r b c) ≠ none ∧ s.withdraw r b c = (s.takenOut r b c).requestSwap (srcOf r b c) 1 ∨
    (∃ k ∈ peerCells r b c, k ≠ c ∧ s.isWithdrawn r b k = false) ∧ s.withdraw r b c = s.takenOut r b c ∨
    (∀ k ∈ peerCells r b c, k ≠ c → s.isWithdrawn r b k = true) ∧ s.withdraw r b c = (s.takenOut r b c).regionReset r b := by
  rw [State.withdraw_eq hnot]
  have hkeeps := s.takenOut_keeps r b c
  have hblocks := s.takenOut_blocks r b c
  have hsup : (s.takenOut r b c).sup = s.sup := hkeeps.frame .sup (by decide)
  have htsc : (s.takenOut r b c).tsc = s.tsc := hkeeps.frame .tsc (by decide)
  have hrst : (s.takenOut r b c).rst = s.rst := hkeeps.frame .rst (by decide)
  have hunit : (s.takenOut r b c).idleUnit (srcOf r b c) = s.idleUnit (srcOf r b c) := by
    unfold State.idleUnit State.unitPowered State.unit State.domain
    rw [hkeeps.variant, hsup, hrst]
  have hwithdrawn : ∀ k, (s.takenOut r b c).isWithdrawn r b k = (s.isWithdrawn r b k || k == c) := fun k => by
    unfold State.isWithdrawn
    rw [hblocks.withdrawn]
    exact bit_withBit_true hnot k
  by_cases hidle : s.idleUnit (srcOf r b c) = none
  case neg => exact .inl ⟨hidle, State.standIn_swaps (hunit ▸ hidle)⟩
  case pos =>
    have hfall := State.standIn_fallBack (s := s.takenOut r b c) (hunit.trans hidle) (by rw [hsup, htsc]; exact htied)
    by_cases hpeer : ∃ k ∈ peerCells r b c, k ≠ c ∧ s.isWithdrawn r b k = false
    case pos =>
      obtain ⟨k, hk, hne, hin⟩ := hpeer
      refine .inr (.inl ⟨⟨k, hk, hne, hin⟩, hfall.trans (State.fallBack_peers hr hb hc hpeers ⟨k, hk, ?_⟩)⟩)
      rw [hwithdrawn, hin, beq_eq_false_iff_ne.mpr hne]
      rfl
    case neg =>
      have hgone : ∀ k ∈ peerCells r b c, k ≠ c → s.isWithdrawn r b k = true := fun k hk hne =>
        Bool.eq_true_of_not_eq_false fun hin => hpeer ⟨k, hk, hne, hin⟩
      refine .inr (.inr ⟨hgone, hfall.trans (State.fallBack_last hr hb hc fun k hk => ?_)⟩)
      rw [hwithdrawn]
      by_cases hkc : k = c
      · rw [hkc, beq_self_eq_true, Bool.or_true]
      · rw [hgone k hk hkc, Bool.true_or]

theorem State.requestSwap_block (s : State) (src reason q k : Nat) : (s.requestSwap src reason).block q k = s.block q k :=
  State.block_of_blocks (congrArg Hierarchy.blocks ((s.requestSwap_keeps_sup src reason).frame .hier (by decide))) q k

/-- A withdrawal leaves the other blocks where the region resets none, and adds the one cell to the withdrawn ones. -/
theorem State.withdraw_blocks (hr : r < 16) (hb : b < 64) (hc : c < 64) (hpeers : (peerCells r b c).contains c = true)
    (hnot : s.isWithdrawn r b c = false) (htied : ∀ q ∈ s.sup.requests, q.time ≠ s.tsc) :
    (s.regionBusy r = false → ∀ q k, blockKey q k ≠ blockKey r b → (s.withdraw r b c).block q k = s.block q k) ∧
    ((s.withdraw r b c).block r b).withdrawn = withBit (s.block r b).withdrawn c true := by
  have hblocks := s.takenOut_blocks r b c
  have hbusy : (s.takenOut r b c).regionBusy r = s.regionBusy r := by unfold State.regionBusy; rw [hblocks.busy]
  rcases State.withdraw_cases hr hb hc hpeers hnot htied with ⟨_, heq⟩ | ⟨_, heq⟩ | ⟨_, heq⟩
  · rw [heq]
    exact ⟨fun _ q k hne => (State.requestSwap_block _ _ _ _ _).trans (hblocks.others q k hne),
      by rw [State.requestSwap_block]; exact hblocks.withdrawn⟩
  · rw [heq]
    exact ⟨fun _ => hblocks.others, hblocks.withdrawn⟩
  · rw [heq]
    exact ⟨fun hfree q k hne => (State.regionReset_block_ne (hbusy.trans hfree) hne).trans (hblocks.others q k hne),
      (State.regionReset_withdrawn _ _ _).trans hblocks.withdrawn⟩

theorem State.withdraw_detected (hr : r < 16) (hb : b < 64) (hc : c < 64) (hpeers : (peerCells r b c).contains c = true)
    (hnot : s.isWithdrawn r b c = false) (htied : ∀ q ∈ s.sup.requests, q.time ≠ s.tsc) :
    (s.withdraw r b c).log.detected = s.log.detected ++ [⟨s.tsc, srcOf r b c, 0x0203, 2, []⟩] := by
  rw [← s.takenOut_detected r b c]
  rcases State.withdraw_cases hr hb hc hpeers hnot htied with ⟨_, heq⟩ | ⟨_, heq⟩ | ⟨_, heq⟩
  · rw [heq]
    exact congrArg EventLog.detected ((State.requestSwap_keeps_sup _ _ _).frame .log (by decide))
  · rw [heq]
  · rw [heq]
    exact congrArg EventLog.detected ((State.regionReset_keeps (.refl [.hier] (s.takenOut r b c)) r b (by decide)).frame .log (by decide))

/-- While a peer serves, the block's state stays. -/
theorem State.withdraw_state_peers (hr : r < 16) (hb : b < 64) (hc : c < 64) (hpeers : (peerCells r b c).contains c = true)
    (hnot : s.isWithdrawn r b c = false) (htied : ∀ q ∈ s.sup.requests, q.time ≠ s.tsc)
    (hserves : ∃ k ∈ peerCells r b c, k ≠ c ∧ s.isWithdrawn r b k = false) :
    ((s.withdraw r b c).block r b).state = (s.block r b).state := by
  have hblocks := s.takenOut_blocks r b c
  rcases State.withdraw_cases hr hb hc hpeers hnot htied with ⟨_, heq⟩ | ⟨_, heq⟩ | ⟨hgone, _⟩
  · rw [heq, State.requestSwap_block, hblocks.state]
  · rw [heq, hblocks.state]
  · obtain ⟨k, hk, hne, hin⟩ := hserves
    rw [hgone k hk hne] at hin
    exact absurd hin (by decide)

/-- Without peers and ballast idle is requested of the running block. -/
theorem State.withdraw_last (hr : r < 16) (hb : b < 64) (hc : c < 64) (hpeers : (peerCells r b c).contains c = true)
    (hnot : s.isWithdrawn r b c = false) (htied : ∀ q ∈ s.sup.requests, q.time ≠ s.tsc)
    (hgone : ∀ k ∈ peerCells r b c, k ≠ c → s.isWithdrawn r b k = true) (hidle : s.idleUnit (srcOf r b c) = none)
    (hrun : (s.block r b).state = .running) (hqueued : s.queuedReset r b = false) (hfree : s.regionBusy r = false) :
    ((s.withdraw r b c).block r b).state = .idleReq ∧ ((s.withdraw r b c).block r b).idleAt = s.tsc := by
  have hblocks := s.takenOut_blocks r b c
  have htsc : (s.takenOut r b c).tsc = s.tsc := (s.takenOut_keeps r b c).frame .tsc (by decide)
  rcases State.withdraw_cases hr hb hc hpeers hnot htied with ⟨hunit, _⟩ | ⟨⟨k, hk, hne, hin⟩, _⟩ | ⟨_, heq⟩
  · exact absurd hidle hunit
  · rw [hgone k hk hne] at hin
    exact absurd hin (by decide)
  · have hreset := State.regionReset_idles (s := s.takenOut r b c) (r := r) (b := b) (hblocks.state.trans hrun)
      (by unfold State.queuedReset; rw [hblocks.queue]; exact hqueued) (by unfold State.regionBusy; rw [hblocks.busy]; exact hfree)
    rw [heq, hreset, State.requestIdle_block]
    exact ⟨rfl, htsc⟩

end Errors

/-- Settles O13: a withdrawal goes on in one of three ways (`State.withdraw_cases`), and a block without peers escalates to its region. -/
theorem cellErrorsContained : Obligations.CellErrorsContained := by
  unfold Obligations.CellErrorsContained
  refine ⟨fun s t r b c addr hs hsrc hb hc hpresent hpeers htied => ?peers, fun s t r b c addr n hs hb hc hpresent hkind hrun hqueued => ?platform⟩
  case peers =>
    obtain ⟨hregion, hentry⟩ := peerCells_kind hpeers
    have hr : r < 16 := by omega
    have hexec := exec_uncorrectableError_contains (t := t) hs.2 addr ⟨by omega, hr⟩ hb hc hpresent hentry
    let e := (s.upTo t).erred (srcOf r b c) addr
    rw [State.contain_withdraws (s := e) hr hb hc hpresent hpeers] at hexec
    have hkeeps : Keeps [.log, .hier, .cipher, .checkParts, .sup] (s.upTo t) (e.withdraw r b c) := by
      apply State.withdraw_keeps
      · exact State.event_keeps (.refl _ _) _ _ _ _ (by decide)
      all_goals decide
    refine ⟨_, hexec, .of_keeps hkeeps (by decide), ?_⟩
    by_cases hin : s.isWithdrawn r b c = true
    case pos =>
      rw [State.withdraw_again (s := e) hin]
      exact ⟨fun _ _ _ _ _ => rfl, fun _ => ⟨rfl, rfl⟩, fun h => by rw [hin] at h; exact absurd h (by decide)⟩
    case neg =>
      have hnot : s.isWithdrawn r b c = false := Bool.eq_false_iff.mpr hin
      obtain ⟨hothers, hwithdrawn⟩ := State.withdraw_blocks (s := e) hr hb hc hpeers hnot htied
      refine ⟨fun hfree q k hk hne => hothers hfree q k (blockKey_ne hk hb hne), fun h => absurd h hin, fun _ => ⟨fun k => ?_, ?_,
        fun hserves => State.withdraw_state_peers (s := e) hr hb hc hpeers hnot htied hserves, fun hgone hidle hrun hqueued hfree =>
          State.withdraw_last (s := e) hr hb hc hpeers hnot htied hgone hidle hrun hqueued hfree⟩⟩
      · unfold State.isWithdrawn
        rw [hwithdrawn]
        exact bit_withBit_true hnot k
      · rw [State.withdraw_detected (s := e) hr hb hc hpeers hnot htied]
        exact List.append_assoc _ _ _
  case platform =>
    have hr : 0 < r ∧ r < 16 := by omega
    have hentry := (peerCells_platform hkind c).2
    have hexec := exec_uncorrectableError_contains (t := t) hs.2 addr hr hb hc hpresent hentry
    rw [State.contain_escalates (s := (s.upTo t).erred (srcOf r b c) addr) hb hc hpresent hkind] at hexec
    have hkeeps : Did t [.log, .hier] s (((s.upTo t).erred (srcOf r b c) addr).regionReset r b) :=
      .of_keeps (State.regionReset_keeps (State.event_keeps (.refl [.log, .hier] _) _ _ _ _ (by decide)) r b (by decide)) (by decide)
    refine ⟨fun hfree => ?idles, fun hbusy hfirst => ?queues, fun k hfirst => ?overtakes, fun hn hfree => ?threshold,
      fun hn => Did.answer_upTo (exec_correctionThreshold_below hs.2 hn)⟩
    case idles =>
      rw [State.regionReset_idles (s := (s.upTo t).erred (srcOf r b c) addr) hrun hqueued hfree] at hexec hkeeps
      exact ⟨_, hexec, hkeeps, State.requestIdle_block _ _ _ _, rfl⟩
    case queues =>
      rw [State.regionReset_queues (s := (s.upTo t).erred (srcOf r b c) addr) hrun hqueued hbusy hfirst] at hexec hkeeps
      exact ⟨_, hexec, hkeeps, rfl, insertEscalation_perm _ _⟩
    case overtakes =>
      rw [State.regionReset_overtakes (s := (s.upTo t).erred (srcOf r b c) addr) hrun hqueued hfirst] at hexec hkeeps
      have hne : blockKey r k ≠ blockKey r b := by
        have := State.lt_of_overtaken hfirst
        unfold blockKey; omega
      refine ⟨_, hexec, hkeeps, ?_, ?_, insertEscalation_perm _ _⟩
      · rw [State.requestIdle_block]
      · rw [State.requestIdle_block_ne _ _ hne, State.queueReset_block, State.block_setBlock_self]
    case threshold =>
      have hreached := exec_correctionThreshold_reached (t := t) hs.2 hr.2 hb hc hpresent hentry hn
      let e := (s.upTo t).event (srcOf r b c) 0x0201 sevWarning (toBE 2 n ++ toBE 4 (s.val 0x1010 2))
      rw [State.contain_escalates (s := e) hb hc hpresent hkind, State.regionReset_idles (s := e) hrun hqueued hfree] at hreached
      have hidle : Did t [.log, .hier] s (e.requestIdle r b e.tsc) :=
        .of_keeps (State.requestIdle_keeps (State.event_keeps (.refl [.log, .hier] _) _ _ _ _ (by decide)) r b _ (by decide)) (by decide)
      refine ⟨_, hreached, hidle, ?_, rfl⟩
      rw [State.requestIdle_block]

end Sys2Proof.Machine
end

section
/-! A fatal error, and an error found by scrubbing (R26, R27, R37). -/

set_option Elab.async false

namespace Sys2Proof.Machine

section Fatal

variable {s : State}

/-- No port drives the line, and no lane has a frame on it, once the outputs are made safe. -/
theorem State.makeSafe_ports (s : State) : ∀ e ∈ s.makeSafe.ports, e.2.active = false := by
  intro e he
  obtain ⟨x, _, hx⟩ := List.mem_filterMap.mp he
  obtain ⟨_, hx⟩ := Option.ite_none_left_eq_some.mp hx
  rw [← Option.some.inj hx]; rfl

theorem State.makeSafe_lanes (s : State) : ∀ e ∈ s.makeSafe.lanes, e.2.tx.onLine = none := by
  intro e he
  obtain ⟨x, _, hx⟩ := List.mem_filterMap.mp he
  obtain ⟨_, hx⟩ := Option.ite_none_left_eq_some.mp hx
  rw [← Option.some.inj hx]

theorem State.makeSafe_atRest (s : State) : s.makeSafe.outputsAtRest = true := by
  have hports : s.makeSafe.ports.all (fun e => !e.2.active) = true :=
    List.all_eq_true.mpr fun e he => by rw [s.makeSafe_ports e he]; rfl
  unfold State.outputsAtRest
  rw [hports]
  rfl

/-- What a fatal error leaves where 1010.05 resets nothing (R27). -/
def State.fatalSafe (s : State) (cause held : Nat) : State :=
  let v := (s.event 0 0x0206 sevFatal (toBE 1 cause ++ [0] ++ toBE 2 held)).makeSafe
  ({ v with hier := { v.hier with fatalAlarm := true, safeOutputs := true } }).emit .fatalAlarm

theorem State.fatal_safe (h : s.val 0x1010 5 = 0) (cause held : Nat) : s.fatal cause held = s.fatalSafe cause held :=
  if_neg (by rw [State.event_val, h]; decide)

theorem exec_uncorrectableError_fabric {t : Nat} (hp : s.rst.powered = true) (addr : Nat) :
    exec (.uncorrectableError t 0 addr) s = .next ((s.upTo t).fatal 3 0) := by
  simp only [exec, execUncorrectableError, State.run_powered hp, if_pos]

end Fatal

/-- Settles O14: with 1010.05 = 0 a fatal error makes the outputs safe and leaves the blocks, the entries and the resets. -/
theorem fatalMakesSafe : Obligations.FatalMakesSafe := by
  unfold Obligations.FatalMakesSafe
  intro s t addr hs hval
  have hexec := exec_uncorrectableError_fabric (t := t) hs.2 addr
  rw [State.fatal_safe (s := s.upTo t) hval] at hexec
  exact ⟨_, hexec, rfl, State.makeSafe_atRest _, rfl, rfl, rfl, fun _ _ => rfl, State.makeSafe_lanes _, rfl, rfl, rfl⟩

end Sys2Proof.Machine
end

section
/-! Spools by the rules of their operations (R247-R257): what settling a spool, ending a packet and emptying a spool leave. -/

set_option Elab.async false

namespace Sys2Proof.Machine

/-- An erasure of a key that is not listed changes nothing. -/
theorem Table.erase_of_find_none {α : Type} {t : Table α} {k : Nat} (h : Table.find t k = none) : Table.erase t k = t := by
  induction t with
  | nil => rfl
  | cons e t ih =>
    obtain ⟨j, v⟩ := e
    by_cases hj : j = k
    case pos => rw [Table.find, if_pos hj] at h; exact absurd h (by simp)
    case neg =>
      rw [Table.find, if_neg hj] at h
      rw [Table.erase, if_neg hj, ih h]

section Spools

variable {s : State}

/-- A spool's state by its contents and route (R249, R250). -/
def State.settledState (s : State) (k : Nat) : SpoolState :=
  if (s.spool k).state = .disabled then .disabled else s.spoolStateOf k (s.spool k)

/-- A spool brought up to its contents and route. -/
def State.settled (s : State) (k : Nat) : Spool :=
  if (s.spool k).queue = [] then { s.spool k with state := s.settledState k, deficit := 0 }
  else { s.spool k with
    state := s.settledState k
    unroutedAt := if s.settledState k = .unrouted ∧ (s.spool k).state ≠ .unrouted then s.tsc else (s.spool k).unroutedAt }

theorem State.leaveLists_keeps_lanes (s : State) (k : Nat) (keep : Option Nat) : Keeps [.lanes] s (s.leaveLists k keep) :=
  State.leaveLists_keeps (.refl _ s) k keep (by decide)

/-- Settling a spool writes it and the active lists of the lanes. -/
theorem State.settleSpool_settled (s : State) (k : Nat) : Keeps [.lanes] (s.setSpool k (s.settled k)) (s.settleSpool k) := by
  unfold State.settleSpool
  extract_lets x st y u
  split
  case isTrue h =>
    have hx : s.settled k = { x with state := st, deficit := 0 } := if_pos h
    rw [hx]
    exact State.leaveLists_keeps_lanes _ k none
  case isFalse h =>
    have hu : u = s.setSpool k (s.settled k) := congrArg (s.setSpool k) (if_neg h).symm
    rw [← hu]
    split
    · exact .refl _ u
    · next n _ =>
      extract_lets v w
      have hv : Keeps [.lanes] u v := u.leaveLists_keeps_lanes k (some n)
      split
      · exact hv
      · exact State.setTx_keeps hv _ _ _ (by decide)

theorem State.settleSpool_spools (s : State) (k : Nat) : (s.settleSpool k).spools = (s.setSpool k (s.settled k)).spools :=
  (s.settleSpool_settled k).frame .spools (by decide)

theorem State.spool_congr {t : State} (h : t.spools = s.spools) (j : Nat) : t.spool j = s.spool j := by unfold State.spool; rw [h]

theorem State.packet_congr {t : State} (h : t.spools = s.spools) (j : Nat) : t.packet j = s.packet j := by unfold State.packet; rw [h]

theorem State.settleSpool_spool (s : State) (k : Nat) : (s.settleSpool k).spool k = s.settled k :=
  (State.spool_congr (s.settleSpool_spools k) k).trans (s.spool_setSpool_self k _)

theorem State.settleSpool_spool_ne (s : State) {k j : Nat} (h : j ≠ k) : (s.settleSpool k).spool j = s.spool j :=
  (State.spool_congr (s.settleSpool_spools k) j).trans (State.spool_setSpool_ne _ _ _ h)

theorem State.settleSpool_packet (s : State) (k h : Nat) : (s.settleSpool k).packet h = s.packet h :=
  State.packet_congr (s := s.setSpool k (s.settled k)) (s.settleSpool_spools k) h

theorem State.settled_queue (s : State) (k : Nat) : (s.settled k).queue = (s.spool k).queue := by unfold State.settled; split <;> rfl
theorem State.settled_flight (s : State) (k : Nat) : (s.settled k).flight = (s.spool k).flight := by unfold State.settled; split <;> rfl
theorem State.settled_txSeq (s : State) (k : Nat) : (s.settled k).txSeq = (s.spool k).txSeq := by unfold State.settled; split <;> rfl
theorem State.settled_state (s : State) (k : Nat) : (s.settled k).state = s.settledState k := by unfold State.settled; split <;> rfl

/-- A packet that ends is gone from the packets; the spools are as they were. -/
theorem State.finishPacket_spools (s : State) (h status : Nat) :
    (s.finishPacket h status).spools = { s.spools with packets := Table.erase s.spools.packets h } := by
  unfold State.finishPacket
  split
  case h_1 hnone => rw [Table.erase_of_find_none hnone]
  case h_2 k _ =>
    extract_lets _ u
    split
    · exact (State.postTxc_keeps (.refl [.out, .pages] u) _ _ _ _ _ _ (by decide) (by decide)).frame .spools (by decide)
    · rfl

theorem State.finishPacket_packet (s : State) (h status : Nat) : (s.finishPacket h status).packet h = none := by
  unfold State.packet
  rw [State.finishPacket_spools]
  exact Table.find_erase_self _ _

theorem State.finishPacket_spool (s : State) (h status j : Nat) : (s.finishPacket h status).spool j = s.spool j := by
  unfold State.spool
  rw [State.finishPacket_spools]

theorem State.endPacket_packet (s : State) (k h status : Nat) : (s.endPacket k h status).packet h = none :=
  (State.settleSpool_packet _ _ _).trans (State.finishPacket_packet _ _ _)

theorem State.endPacket_spool_ne (s : State) {k j : Nat} (h status : Nat) (hj : j ≠ k) : (s.endPacket k h status).spool j = s.spool j :=
  ((State.settleSpool_spool_ne _ hj).trans (State.finishPacket_spool _ _ _ _)).trans (State.spool_setSpool_ne _ _ _ hj)

theorem State.endPacket_queue (s : State) (k h status : Nat) :
    ((s.endPacket k h status).spool k).queue = (s.spool k).queue.filter fun q => q.handle != h := by
  unfold State.endPacket
  rw [State.settleSpool_spool, State.settled_queue, State.finishPacket_spool, State.spool_setSpool_self]
  rfl

theorem State.endPacket_flight (s : State) (k h status : Nat) :
    ((s.endPacket k h status).spool k).flight = (s.spool k).flight.filter fun q => q.item.handle != h := by
  unfold State.endPacket
  rw [State.settleSpool_spool, State.settled_flight, State.finishPacket_spool, State.spool_setSpool_self]
  rfl

end Spools

end Sys2Proof.Machine
end

section
/-! Errors found by scrubbing (R37): the count of a row, and what is lost with an item. -/

set_option Elab.async false

namespace Sys2Proof.Machine

section Scrub

variable {s : State}

/-- Fewer changes than allowed. -/
theorem Keeps.mono {ps qs : List Part} {t : State} (h : Keeps ps s t) (hq : ∀ p ∈ ps, p ∈ qs := by decide) : Keeps qs s t :=
  ⟨h.variant, h.pending, h.tsc, h.canonical, h.frame.mono hq⟩

/-! ## Links and routes -/

theorem State.touchEndpoint_links (s : State) (e : Nat) : (s.touchEndpoint e).routes.links = s.routes.links := by
  unfold State.touchEndpoint; split <;> rfl

theorem State.writeRoute_links (s : State) (pos : Nat) (x : RouteEntry) : (s.writeRoute pos x).routes.links = s.routes.links :=
  State.touchEndpoint_links _ _

theorem State.clearRoute_links (s : State) (pos : Nat) : (s.clearRoute pos).routes.links = s.routes.links := State.writeRoute_links _ _ _

theorem State.each_links {α : Type} {l : List α} {f : State → α → State} (hf : ∀ u x, (f u x).routes.links = u.routes.links) (s : State) :
    (s.each l f).routes.links = s.routes.links := by
  unfold State.each
  induction l generalizing s with
  | nil => rfl
  | cons x l ih => exact (ih (f s x)).trans (hf s x)

theorem State.link_congr {t : State} (h : t.routes.links = s.routes.links) (k : Nat) : t.link k = s.link k := by unfold State.link; rw [h]

/-- A released link reads as free; the other links are as they were. -/
theorem State.releaseLink_links (s : State) (k : Nat) : (s.releaseLink k).routes.links = (s.setLink k {}).routes.links := by
  unfold State.releaseLink
  refine State.each_links (fun u pos => ?_) _
  exact (apply_ite (fun v : State => v.routes.links) _ _ _).trans (ite_eq_iff'.mpr ⟨fun _ => State.writeRoute_links _ _ _,
    fun _ => State.clearRoute_links _ _⟩)

theorem State.releaseLink_link (s : State) (k : Nat) : (s.releaseLink k).link k = {} :=
  (State.link_congr (s.releaseLink_links k) k).trans (s.link_setLink_self k {})

theorem State.releaseLink_link_ne (s : State) {k j : Nat} (h : j ≠ k) : (s.releaseLink k).link j = s.link j :=
  (State.link_congr (s.releaseLink_links k) j).trans (s.link_setLink_ne k {} h)

/-! ## Rows and items -/

theorem State.noteRow_rowErrors (s : State) (row : Nat) :
    Table.get 0 (s.noteRow row).hier.rowErrors row = Table.get 0 s.hier.rowErrors row + 1 :=
  Table.get_put_self s.hier.rowErrors row (Table.get 0 s.hier.rowErrors row + 1)

/-- A row waits for its repair from its second error on. -/
theorem State.noteRow_repairRows (s : State) (row y : Nat) : y ∈ (s.noteRow row).hier.repairRows ↔
    y ∈ s.hier.repairRows ∨ y = row ∧ 1 ≤ Table.get 0 s.hier.rowErrors row := by
  have hrows : (s.noteRow row).hier.repairRows = if Table.get 0 s.hier.rowErrors row + 1 < 2 ∨ s.hier.repairRows.contains row
      then s.hier.repairRows else s.hier.repairRows ++ [row] := rfl
  rw [hrows]
  split
  case isTrue h =>
    refine ⟨.inl, fun hy => hy.elim id fun ⟨hrow, hn⟩ => ?_⟩
    rcases h with hfew | hin
    · omega
    · exact hrow ▸ List.contains_iff_mem.mp hin
  case isFalse h =>
    have hn : 1 ≤ Table.get 0 s.hier.rowErrors row := by
      have := not_or.mp h; omega
    rw [List.mem_append, List.mem_singleton]
    exact ⟨fun hy => hy.imp id fun hy => ⟨hy, hn⟩, fun hy => hy.imp id And.left⟩

theorem exec_scrubError_corrected {t row : Nat} (hp : s.rst.powered = true) (x : DramItem) :
    exec (.scrubError t x true row) s = .next ((s.upTo t).noteRow row) := State.run_powered hp t fun u => u.noteRow row

theorem exec_scrubError_lost {t row : Nat} (hp : s.rst.powered = true) (x : DramItem) :
    exec (.scrubError t x false row) s = .next (((s.upTo t).noteRow row).scrubLost x) :=
  State.run_powered hp t fun u => (u.noteRow row).scrubLost x

theorem State.scrubLost_packet_spool {h n : Nat} (hpacket : (s.packet h).isSome = true) (hspool : s.spoolOf h = some n) :
    s.scrubLost (.packet h) = (s.endPacket n h stMemory).bump 0x3190 7 := by
  obtain ⟨x, hx⟩ := Option.isSome_iff_exists.mp hpacket
  simp only [State.scrubLost, hx, hspool]

theorem State.scrubLost_packet_free {h : Nat} (hpacket : (s.packet h).isSome = true) (hspool : s.spoolOf h = none) :
    s.scrubLost (.packet h) = (s.finishPacket h stMemory).bump 0x3190 7 := by
  obtain ⟨x, hx⟩ := Option.isSome_iff_exists.mp hpacket
  simp only [State.scrubLost, hx, hspool]

theorem State.scrubLost_record {k : Nat} (h : (Table.find s.log.records k).isSome = true) : s.scrubLost (.logEntry k) =
    { s with log := { s.log with records := Table.insert s.log.records k ⟨0, 0, 0, 0, 2, 0, []⟩ } } := by
  obtain ⟨x, hx⟩ := Option.isSome_iff_exists.mp h
  simp only [State.scrubLost, hx]

theorem State.scrubLost_link {k : Nat} (h : (s.link k).state ≠ .free) : s.scrubLost (.link k) = s.releaseLink k := if_neg h

/-- A counter after an operation that leaves the dictionary counts from what it stood at. -/
theorem Keeps.counted {ps : List Part} {t : State} (h : Keeps ps s t) (i j : Nat) (hps : Part.dict ∉ ps := by decide) :
    Counted [keyOf i j] s (t.bump i j) := by
  obtain ⟨hother, hcount⟩ := t.counted_bump i j
  refine ⟨fun k hk => (hother k hk).trans (h.raw k hps), fun k hk => ?_⟩
  rw [hcount k hk, h.variant, h.raw k hps]

end Scrub

/-- Settles O16: the row is counted first, and each kind of item is lost by its own rule. -/
theorem scrubErrorCompletes : Obligations.ScrubErrorCompletes := by
  unfold Obligations.ScrubErrorCompletes
  intro s t row k h x hs
  let n := (s.upTo t).noteRow row
  have hrow : Keeps [.hier] (s.upTo t) n := State.noteRow_keeps (.refl _ _) row (by decide)
  refine ⟨?corrected, ?engine, fun hpacket => ?packet, fun hrecord => ?record, fun hlink => ?link⟩
  case corrected =>
    exact ⟨_, exec_scrubError_corrected hs.2 x, .record, State.noteRow_rowErrors _ _, State.noteRow_repairRows _ _, fun _ _ => rfl⟩
  case engine =>
    exact ⟨_, exec_scrubError_lost hs.2 .engine, .record, fun _ _ => rfl, State.noteRow_repairRows _ _⟩
  case packet =>
    have hexec := exec_scrubError_lost (t := t) (row := row) hs.2 (.packet h)
    cases hspool : s.spoolOf h with
    | none =>
      rw [State.scrubLost_packet_free (s := n) hpacket hspool] at hexec
      have hkeeps : Keeps [.hier, .out, .spools, .pages] (s.upTo t) (n.finishPacket h stMemory) :=
        State.finishPacket_keeps (State.noteRow_keeps (.refl _ _) row (by decide)) h stMemory (by decide) (by decide) (by decide)
      refine ⟨_, hexec, (Did.of_keeps hkeeps (by decide)).andThen, State.finishPacket_packet n h stMemory, hkeeps.counted 0x3190 7,
        fun m hm => absurd hm (by simp)⟩
    | some m =>
      rw [State.scrubLost_packet_spool (s := n) hpacket hspool] at hexec
      have hkeeps : Keeps [.hier, .out, .lanes, .spools, .pages] (s.upTo t) (n.endPacket m h stMemory) :=
        State.endPacket_keeps (State.noteRow_keeps (.refl _ _) row (by decide)) m h stMemory (by decide) (by decide) (by decide) (by decide)
      refine ⟨_, hexec, (Did.of_keeps hkeeps (by decide)).andThen, State.endPacket_packet n m h stMemory, hkeeps.counted 0x3190 7,
        fun m' hm => ?_⟩
      obtain rfl : m = m' := Option.some.inj hm
      refine ⟨fun y hy => ?_, fun y hy => ?_, fun j hj => State.endPacket_spool_ne n h stMemory hj⟩
      · rw [State.bump_spool, State.endPacket_queue] at hy
        simpa using (List.mem_filter.mp hy).2
      · rw [State.bump_spool, State.endPacket_flight] at hy
        simpa using (List.mem_filter.mp hy).2
  case record =>
    have hexec := exec_scrubError_lost (t := t) (row := row) hs.2 (.logEntry k)
    rw [State.scrubLost_record (s := n) hrecord] at hexec
    exact ⟨_, hexec, .record, Table.find_insert_self _ _ _, fun j hj => Table.find_insert_ne _ _ hj, rfl⟩
  case link =>
    have hexec := exec_scrubError_lost (t := t) (row := row) hs.2 (.link k)
    rw [State.scrubLost_link (s := n) hlink] at hexec
    have hkeeps : Keeps [.hier, .routes] (s.upTo t) (n.releaseLink k) :=
      State.releaseLink_keeps (State.noteRow_keeps (.refl _ _) row (by decide)) k (by decide)
    exact ⟨_, hexec, .of_keeps hkeeps (by decide), by rw [State.releaseLink_link], fun j hj => State.releaseLink_link_ne n hj⟩

end Sys2Proof.Machine
end

section
/-! Spool records and spool timers (R249, R253, R255). -/

set_option Elab.async false

namespace Sys2Proof.Machine

section Spools

variable {s : State}

theorem State.settled_rxBase (s : State) (k : Nat) : (s.settled k).rxBase = (s.spool k).rxBase := by unfold State.settled; split <;> rfl

/-! ## A spool emptied -/

theorem State.endPacket_rxBase (s : State) (k h status : Nat) : ((s.endPacket k h status).spool k).rxBase = (s.spool k).rxBase := by
  unfold State.endPacket
  rw [State.settleSpool_spool, State.settled_rxBase, State.finishPacket_spool, State.spool_setSpool_self]
  rfl

/-- The packets of a list end one by one. -/
def State.endPackets (s : State) (k status : Nat) (l : List Nat) : State := s.each l fun u h => u.endPacket k h status

theorem State.endPackets_queue (s : State) (k status : Nat) (l : List Nat) :
    ((s.endPackets k status l).spool k).queue = (s.spool k).queue.filter fun q => !l.contains q.handle := by
  induction l generalizing s with
  | nil => exact (List.filter_eq_self.mpr fun _ _ => rfl).symm
  | cons h l ih =>
    refine (ih (s.endPacket k h status)).trans ?_
    rw [State.endPacket_queue, List.filter_filter]
    refine List.filter_congr fun q _ => ?_
    rw [List.contains_cons, Bool.not_or, Bool.and_comm]; rfl

theorem State.endPackets_flight (s : State) (k status : Nat) (l : List Nat) :
    ((s.endPackets k status l).spool k).flight = (s.spool k).flight.filter fun q => !l.contains q.item.handle := by
  induction l generalizing s with
  | nil => exact (List.filter_eq_self.mpr fun _ _ => rfl).symm
  | cons h l ih =>
    refine (ih (s.endPacket k h status)).trans ?_
    rw [State.endPacket_flight, List.filter_filter]
    refine List.filter_congr fun q _ => ?_
    rw [List.contains_cons, Bool.not_or, Bool.and_comm]; rfl

theorem State.endPackets_rxBase (s : State) (k status : Nat) (l : List Nat) :
    ((s.endPackets k status l).spool k).rxBase = (s.spool k).rxBase := by
  induction l generalizing s with
  | nil => rfl
  | cons h l ih => exact (ih (s.endPacket k h status)).trans (s.endPacket_rxBase k h status)

theorem State.endPackets_spool_ne (s : State) {k j : Nat} (status : Nat) (l : List Nat) (hj : j ≠ k) :
    (s.endPackets k status l).spool j = s.spool j := by
  induction l generalizing s with
  | nil => rfl
  | cons h l ih => exact (ih (s.endPacket k h status)).trans (s.endPacket_spool_ne h status hj)

theorem State.emptySpool_queue (s : State) (k status : Nat) : ((s.emptySpool k status).spool k).queue = [] := by
  refine (s.endPackets_queue k status (s.spool k).handles).trans (List.filter_eq_nil_iff.mpr fun q hq => ?_)
  have hin : q.handle ∈ (s.spool k).handles :=
    List.mem_dedup.mpr (List.mem_append_right _ (List.mem_map.mpr ⟨q, hq, rfl⟩))
  rw [List.contains_iff_mem.mpr hin]; decide

theorem State.emptySpool_flight (s : State) (k status : Nat) : ((s.emptySpool k status).spool k).flight = [] := by
  refine (s.endPackets_flight k status (s.spool k).handles).trans (List.filter_eq_nil_iff.mpr fun q hq => ?_)
  have hin : q.item.handle ∈ (s.spool k).handles :=
    List.mem_dedup.mpr (List.mem_append_left _ (List.mem_map.mpr ⟨q, hq, rfl⟩))
  rw [List.contains_iff_mem.mpr hin]; decide

theorem State.emptySpool_spool_ne (s : State) {k j : Nat} (status : Nat) (hj : j ≠ k) : (s.emptySpool k status).spool j = s.spool j :=
  s.endPackets_spool_ne status _ hj

theorem State.emptySpool_rxBase (s : State) (k status : Nat) : ((s.emptySpool k status).spool k).rxBase = (s.spool k).rxBase :=
  s.endPackets_rxBase k status _

/-! ## The spool records (R249) -/

theorem exec_spoolDisable {t k : Nat} (hp : s.rst.powered = true) (h : s.isEndpoint (k / 4) = true) :
    exec (.spoolDisable t k) s = .next ((s.upTo t).setSpool k { s.spool k with state := .disabled }) :=
  (State.run_powered hp t _).trans (congrArg Host.Outcome.next (if_pos h))

theorem exec_spoolEnable {t k : Nat} (hp : s.rst.powered = true) (h : s.isEndpoint (k / 4) = true) (hstate : (s.spool k).state = .disabled) :
    exec (.spoolEnable t k) s = .next (((s.upTo t).setSpool k { s.spool k with state := .empty }).settleSpool k) :=
  (State.run_powered hp t _).trans (congrArg Host.Outcome.next ((if_pos h).trans (if_pos hstate)))

theorem exec_spoolFlush {t k : Nat} (hp : s.rst.powered = true) (h : s.isEndpoint (k / 4) = true) :
    exec (.spoolFlush t k) s = .next ((s.upTo t).spoolFlushOp k) :=
  (State.run_powered hp t _).trans (congrArg Host.Outcome.next (if_pos h))

/-- A spool with nothing in it, its numbers from 0 (R249). -/
def Spool.flushed (x : Spool) : Spool := { x with queue := [], flight := [], txSeq := 0, state := .empty }

theorem State.spoolFlushOp_eq (s : State) (k : Nat) : s.spoolFlushOp k =
    ((s.emptySpool k stFlushed).setSpool k ((s.emptySpool k stFlushed).spool k).flushed).settleSpool k := rfl

/-- A spool without packets is EMPTY while its window takes any. -/
theorem State.settledState_empty {k : Nat} (hstate : (s.spool k).state ≠ .disabled) (hqueue : (s.spool k).queue = [])
    (hflight : (s.spool k).flight = []) (hwindow : 0 < s.window (k % 4)) : s.settledState k = .empty :=
  (if_neg hstate).trans (if_pos ⟨hqueue, by rw [hflight]; exact hwindow⟩)

/-! ## The spool timers (R253, R255) -/

theorem exec_unroutedHoldExpiry_ends {t k : Nat} (hp : s.rst.powered = true) (hstate : (s.spool k).state = .unrouted)
    (hdue : (s.spool k).unroutedAt + s.val 0x3106 1 * 1000000000 ≤ max s.tsc t) :
    exec (.unroutedHoldExpiry t k) s = .next ((s.upTo t).emptySpool k stNoRoute) :=
  (State.run_powered hp t _).trans (congrArg Host.Outcome.next (if_pos ⟨hstate, hdue⟩))

theorem exec_unroutedHoldExpiry_waits {t k : Nat} (hp : s.rst.powered = true)
    (hdue : max s.tsc t < (s.spool k).unroutedAt + s.val 0x3106 1 * 1000000000) : exec (.unroutedHoldExpiry t k) s = .next (s.upTo t) :=
  (State.run_powered hp t _).trans (congrArg Host.Outcome.next (if_neg fun h => Nat.not_lt.mpr h.2 hdue))

theorem exec_ackTimeout_expired {t k n : Nat} {q : InFlight} (hp : s.rst.powered = true)
    (hfind : (s.spool k).flight.find? (fun y => y.seq == q.seq) = some q) (hended : q.ended = some n)
    (hdue : n + s.val 0x3102 (k % 4 + 1) ≤ s.tether.slotCount) : exec (.ackTimeout t k q.seq) s = .next ((s.upTo t).ackExpired k q) := by
  have hfind' : ((s.upTo t).spool k).flight.find? (fun y => y.seq == q.seq) = some q := hfind
  simp only [exec, execAckTimeout, State.run_powered hp, hfind', hended]
  exact congrArg Host.Outcome.next (if_pos hdue)

/-- The fragment has left the flight, and its route is charged with the failure (R253, R276). -/
def State.charged (s : State) (k : Nat) (q : InFlight) : State :=
  let u := s.setSpool k { s.spool k with flight := (s.spool k).flight.filter fun y => y.seq != q.seq }
  if (u.route q.route).valid
  then (u.setRoute q.route { u.route q.route with fails := min 255 ((u.route q.route).fails + 1) }).touchEndpoint (q.route / 8) else u

/-- The packet of a fragment remembers how often one of its fragments was sent. -/
def State.countRetry (s : State) (item : QueueItem) : State :=
  match s.packet item.handle with
  | some pk => { s with spools := { s.spools with
      packets := Table.insert s.spools.packets item.handle { pk with retries := max pk.retries item.tries } } }
  | none => s

theorem State.ackExpired_again {k : Nat} {q : InFlight} (h : q.item.tries < s.val 0x3103 (k % 4 + 1)) : s.ackExpired k q =
    (((s.charged k q).countRetry { q.item with tries := q.item.tries + 1 }).bump 0x3182 (k % 4 + 1)).requeue k
      { q.item with tries := q.item.tries + 1 } := if_pos h

theorem State.ackExpired_fails {k : Nat} {q : InFlight} (h : s.val 0x3103 (k % 4 + 1) ≤ q.item.tries) : s.ackExpired k q =
    ((s.charged k q).bump 0x3183 (k % 4 + 1)).endPacket k q.item.handle stNoAck := if_neg (Nat.not_lt.mpr h)

theorem State.touchEndpoint_spools (s : State) (e : Nat) : (s.touchEndpoint e).spools = s.spools := by unfold State.touchEndpoint; split <;> rfl

theorem State.charged_spools (s : State) (k : Nat) (q : InFlight) : (s.charged k q).spools =
    (s.setSpool k { s.spool k with flight := (s.spool k).flight.filter fun y => y.seq != q.seq }).spools := by
  unfold State.charged
  extract_lets _ u
  split
  · exact State.touchEndpoint_spools _ _
  · rfl

theorem State.charged_spool (s : State) (k : Nat) (q : InFlight) :
    (s.charged k q).spool k = { s.spool k with flight := (s.spool k).flight.filter fun y => y.seq != q.seq } :=
  (State.spool_congr (s.charged_spools k q) k).trans (s.spool_setSpool_self k _)

theorem State.charged_spool_ne (s : State) {k j : Nat} (q : InFlight) (hj : j ≠ k) : (s.charged k q).spool j = s.spool j :=
  (State.spool_congr (s.charged_spools k q) j).trans (s.spool_setSpool_ne k _ hj)

theorem State.charged_keeps (s : State) (k : Nat) (q : InFlight) : Keeps [.spools, .routes] s (s.charged k q) := by
  unfold State.charged
  extract_lets _ u
  have hu : Keeps [.spools, .routes] s u := State.setSpool_keeps (.refl _ s) k _ (by decide)
  split
  · exact State.touchEndpoint_keeps (State.setRoute_keeps hu _ _ (by decide)) _ (by decide)
  · exact hu

theorem State.touchEndpoint_route (s : State) (e pos : Nat) : (s.touchEndpoint e).route pos = s.route pos := by
  unfold State.touchEndpoint; split <;> rfl

theorem State.charged_route {k : Nat} {q : InFlight} (h : (s.route q.route).valid = true) :
    ((s.charged k q).route q.route).fails = min 255 ((s.route q.route).fails + 1) := by
  unfold State.charged
  extract_lets _ u
  rw [if_pos (show (u.route q.route).valid = true from h), State.touchEndpoint_route, State.route_setRoute_self]
  rfl

theorem State.countRetry_spool (s : State) (x : QueueItem) (j : Nat) : (s.countRetry x).spool j = s.spool j := by
  unfold State.countRetry; split <;> rfl

theorem State.countRetry_keeps (s : State) (x : QueueItem) : Keeps [.spools] s (s.countRetry x) := by
  unfold State.countRetry
  split
  · exact Keeps.record (.refl _ s) rfl rfl rfl rfl rfl rfl rfl rfl rfl rfl rfl rfl rfl rfl rfl rfl rfl rfl rfl
  · exact .refl _ s

theorem State.requeue_spool (s : State) (k : Nat) (x : QueueItem) : ((s.requeue k x).spool k).queue = x :: (s.spool k).queue ∧
    ((s.requeue k x).spool k).flight = (s.spool k).flight := by
  unfold State.requeue
  rw [State.settleSpool_spool, State.settled_queue, State.settled_flight, State.spool_setSpool_self]
  exact ⟨rfl, rfl⟩

theorem State.requeue_spool_ne (s : State) {k j : Nat} (x : QueueItem) (hj : j ≠ k) : (s.requeue k x).spool j = s.spool j :=
  (State.settleSpool_spool_ne _ hj).trans (s.spool_setSpool_ne k _ hj)

/-- A counter that counted before operations that leave the dictionary. -/
theorem Counted.keeps {ps : List Part} {keys : List Nat} {u v : State} (h : Counted keys s u) (k : Keeps ps u v)
    (hps : Part.dict ∉ ps := by decide) : Counted keys s v :=
  ⟨fun j hj => (k.raw j hps).trans (h.1 j hj), fun j hj => (congrArg ofBE (k.raw j hps)).trans (h.2 j hj)⟩

theorem State.route_congr {t : State} (h : t.routes = s.routes) (pos : Nat) : t.route pos = s.route pos := by unfold State.route; rw [h]

/-- What a missed acknowledgement leaves whose fragment is sent again. -/
theorem State.ackExpired_again_leaves {k : Nat} {q : InFlight} {x : QueueItem} (h : q.item.tries < s.val 0x3103 (k % 4 + 1))
    (hx : { q.item with tries := q.item.tries + 1 } = x) :
    ((s.ackExpired k q).spool k).queue = x :: (s.spool k).queue ∧
    ((s.ackExpired k q).spool k).flight = (s.spool k).flight.filter (fun y => y.seq != q.seq) ∧
    (∀ j, j ≠ k → (s.ackExpired k q).spool j = s.spool j) ∧ Counted [keyOf 0x3182 (k % 4 + 1)] s (s.ackExpired k q) ∧
    (s.ackExpired k q).route q.route = (s.charged k q).route q.route := by
  rw [State.ackExpired_again h, hx]
  have hretry : Keeps [.spools, .routes] s ((s.charged k q).countRetry x) := (s.charged_keeps k q).trans (State.countRetry_keeps _ x).mono
  have hrequeue : ∀ v : State, Keeps [.spools, .lanes] v (v.requeue k x) := fun v =>
    State.requeue_keeps (.refl _ v) k x (by decide) (by decide)
  have hspool : ∀ j, (((s.charged k q).countRetry x).bump 0x3182 (k % 4 + 1)).spool j = (s.charged k q).spool j := fun j =>
    (State.bump_spool ..).trans (State.countRetry_spool _ _ _)
  obtain ⟨hqueue, hflight⟩ := State.requeue_spool (((s.charged k q).countRetry x).bump 0x3182 (k % 4 + 1)) k x
  rw [hspool, State.charged_spool] at hqueue hflight
  refine ⟨hqueue, hflight, fun j hj => ?_, (hretry.counted _ _).keeps (hrequeue _), ?_⟩
  · exact (State.requeue_spool_ne _ x hj).trans ((hspool j).trans (s.charged_spool_ne q hj))
  · rw [State.route_congr ((hrequeue _).frame .routes (by decide)), State.bump_route]
    exact State.route_congr ((State.countRetry_keeps _ x).frame .routes (by decide)) _

/-- What a missed acknowledgement leaves whose fragment fails. -/
theorem State.ackExpired_fails_leaves {k : Nat} {q : InFlight} (h : s.val 0x3103 (k % 4 + 1) ≤ q.item.tries) :
    ((s.ackExpired k q).spool k).queue = (s.spool k).queue.filter (fun y => y.handle != q.item.handle) ∧
    ((s.ackExpired k q).spool k).flight =
      ((s.spool k).flight.filter fun y => y.seq != q.seq).filter (fun y => y.item.handle != q.item.handle) ∧
    (∀ j, j ≠ k → (s.ackExpired k q).spool j = s.spool j) ∧ Counted [keyOf 0x3183 (k % 4 + 1)] s (s.ackExpired k q) ∧
    (s.ackExpired k q).route q.route = (s.charged k q).route q.route := by
  rw [State.ackExpired_fails h]
  have hend : ∀ v : State, Keeps [.out, .lanes, .spools, .pages] v (v.endPacket k q.item.handle stNoAck) := fun v =>
    State.endPacket_keeps (.refl _ v) k _ _ (by decide) (by decide) (by decide) (by decide)
  refine ⟨?_, ?_, fun j hj => ?_, ((s.charged_keeps k q).counted _ _).keeps (hend _), ?_⟩
  · rw [State.endPacket_queue, State.bump_spool, State.charged_spool]
  · rw [State.endPacket_flight, State.bump_spool, State.charged_spool]
  · exact (State.endPacket_spool_ne _ _ _ hj).trans (s.charged_spool_ne q hj)
  · rw [State.route_congr ((hend _).frame .routes (by decide)), State.bump_route]

theorem exec_standaloneAckDue_owes {t k n : Nat} (hp : s.rst.powered = true) (hack : (s.spool k).ackDue = true)
    (hdue : (s.spool k).ackAt + s.val 0x3104 (k % 4 + 1) ≤ s.tether.slotCount) (hlane : s.laneOf (k / 4) = some n) :
    exec (.standaloneAckDue t k) s = .next (if (s.lane (n / 4) (n % 4)).tx.acks.contains k then s.upTo t
      else (s.upTo t).setTx (n / 4) (n % 4) { (s.lane (n / 4) (n % 4)).tx with acks := (s.lane (n / 4) (n % 4)).tx.acks ++ [k] }) := by
  have hlane' : (s.upTo t).laneOf (spoolEndpoint k) = some n := hlane
  have hcond : ((s.upTo t).spool k).ackDue = true ∧
    ((s.upTo t).spool k).ackAt + (s.upTo t).val 0x3104 (spoolClass k + 1) ≤ (s.upTo t).tether.slotCount := ⟨hack, hdue⟩
  simp only [exec, execStandaloneAckDue, State.run_powered hp, hlane', if_pos hcond]
  rfl

end Spools

/-- Settles O18: each spool record and timer by what it writes into its spool; the others are never touched. -/
theorem spoolsComplete : Obligations.SpoolsComplete := by
  unfold Obligations.SpoolsComplete
  refine ⟨fun s t k hs hend => ⟨?disable, fun hstate => ?enable, ?flush⟩, fun s t k hs => ⟨fun hstate hdue => ?unrouted,
    fun hdue => Did.answer_upTo (exec_unroutedHoldExpiry_waits hs.2 hdue), fun q n hfind hended hdue => ?expired,
    fun n hack hdue hlane => ?owes⟩⟩
  case disable =>
    exact ⟨_, exec_spoolDisable hs.2 hend, .record, State.spool_setSpool_self _ _ _, fun j hj => State.spool_setSpool_ne _ _ _ hj⟩
  case enable =>
    have hkeeps : Keeps [.lanes, .spools] (s.upTo t) (((s.upTo t).setSpool k { s.spool k with state := .empty }).settleSpool k) :=
      State.settleSpool_keeps (State.setSpool_keeps (.refl _ _) k _ (by decide)) k (by decide) (by decide)
    refine ⟨_, exec_spoolEnable hs.2 hend hstate, .of_keeps hkeeps (by decide), ?_, ?_, ?_, fun j hj => ?_⟩
    · rw [State.settleSpool_spool, State.settled_state, State.settledState, State.spool_setSpool_self]
      rfl
    · rw [State.settleSpool_spool, State.settled_queue, State.spool_setSpool_self]
    · rw [State.settleSpool_spool, State.settled_flight, State.spool_setSpool_self]
    · exact (State.settleSpool_spool_ne _ hj).trans (State.spool_setSpool_ne _ _ _ hj)
  case flush =>
    have hexec := exec_spoolFlush (t := t) hs.2 hend
    rw [State.spoolFlushOp_eq] at hexec
    have hempty : Keeps [.out, .lanes, .spools, .pages] (s.upTo t) ((s.upTo t).emptySpool k stFlushed) :=
      State.emptySpool_keeps (.refl _ _) k stFlushed (by decide) (by decide) (by decide) (by decide)
    refine ⟨_, hexec, .of_keeps (State.settleSpool_keeps (State.setSpool_keeps hempty k _ (by decide)) k (by decide) (by decide)) (by decide),
      ?_, ?_, ?_, fun hwindow => ?_, ?_, fun j hj => ?_⟩
    · rw [State.settleSpool_spool, State.settled_queue, State.spool_setSpool_self]; rfl
    · rw [State.settleSpool_spool, State.settled_flight, State.spool_setSpool_self]; rfl
    · rw [State.settleSpool_spool, State.settled_txSeq, State.spool_setSpool_self]; rfl
    · rw [State.settleSpool_spool, State.settled_state]
      refine State.settledState_empty ?_ ?_ ?_ ?_
      · rw [State.spool_setSpool_self]; exact SpoolState.noConfusion
      · rw [State.spool_setSpool_self]; rfl
      · rw [State.spool_setSpool_self]; rfl
      · exact Nat.lt_of_lt_of_eq hwindow (congrArg ofBE (hempty.raw _)).symm
    · rw [State.settleSpool_spool, State.settled_rxBase, State.spool_setSpool_self]
      exact State.emptySpool_rxBase _ _ _
    · exact ((State.settleSpool_spool_ne _ hj).trans (State.spool_setSpool_ne _ _ _ hj)).trans (State.emptySpool_spool_ne _ _ hj)
  case unrouted =>
    have hkeeps : Keeps [.out, .lanes, .spools, .pages] (s.upTo t) ((s.upTo t).emptySpool k stNoRoute) :=
      State.emptySpool_keeps (.refl _ _) k stNoRoute (by decide) (by decide) (by decide) (by decide)
    exact ⟨_, exec_unroutedHoldExpiry_ends hs.2 hstate hdue, .of_keeps hkeeps (by decide), State.emptySpool_queue _ _ _,
      State.emptySpool_flight _ _ _, fun j hj => State.emptySpool_spool_ne _ _ hj⟩
  case expired =>
    have hexec := exec_ackTimeout_expired (t := t) hs.2 hfind hended hdue
    have hdid : Did t [.out, .dict, .lanes, .spools, .pages, .routes] s ((s.upTo t).ackExpired k q) :=
      .of_keeps (execAckTimeout_keeps t k q.seq s hexec) (by decide)
    have hcharge : (s.route q.route).valid = true →
        (((s.upTo t).charged k q).route q.route).fails = min 255 ((s.route q.route).fails + 1) := State.charged_route (s := s.upTo t)
    by_cases htries : q.item.tries < s.val 0x3103 (k % 4 + 1)
    case pos =>
      obtain ⟨hqueue, hflight, hothers, hcount, hroute⟩ := State.ackExpired_again_leaves (s := s.upTo t) htries rfl
      refine ⟨_, hexec, hdid, fun y hy => ?_, hothers, fun _ => ⟨hcount, hqueue⟩, fun h => absurd htries (Nat.not_lt.mpr h),
        fun hvalid => hroute ▸ hcharge hvalid⟩
      rw [hflight] at hy
      simpa using (List.mem_filter.mp hy).2
    case neg =>
      obtain ⟨hqueue, hflight, hothers, hcount, hroute⟩ := State.ackExpired_fails_leaves (s := s.upTo t) (Nat.not_lt.mp htries)
      refine ⟨_, hexec, hdid, fun y hy => ?_, hothers, fun h => absurd h htries, fun _ => ⟨hcount, fun y hy => ?_, fun y hy => ?_⟩,
        fun hvalid => hroute ▸ hcharge hvalid⟩
      · rw [hflight] at hy
        simpa using (List.mem_filter.mp (List.mem_filter.mp hy).1).2
      · rw [hqueue] at hy
        simpa using (List.mem_filter.mp hy).2
      · rw [hflight] at hy
        simpa using (List.mem_filter.mp hy).2
  case owes =>
    have hexec := exec_standaloneAckDue_owes (t := t) hs.2 hack hdue hlane
    refine ⟨_, hexec, .of_keeps (execStandaloneAckDue_keeps t k s hexec) (by decide), ?_, fun p l hl hne => ?_⟩
    · split
      case isTrue h => exact List.contains_iff_mem.mp h
      case isFalse => rw [State.setTx, State.lane_setLane_self]; exact List.mem_append_right _ (List.mem_singleton_self _)
    · split
      · rfl
      · exact State.lane_setLane_ne _ _ _ _ (by omega)

end Sys2Proof.Machine
end

section
/-! Host rings (R259-R262, R265): a page's rings by what is written, the fetch of one descriptor, and the ring registers. -/

set_option Elab.async false

namespace Sys2Proof.Machine

@[simp] theorem Page.ring_setRing_self (x : Page) (k : Nat) (g : HostRing) : (x.setRing k g).ring k = g := Table.get_put_self _ _ _

theorem Page.ring_setRing_ne (x : Page) {k j : Nat} (g : HostRing) (h : j ≠ k) : (x.setRing k g).ring j = x.ring j := Table.get_put_ne _ _ h

/-- Bits 0-15 of a stalled ring apart, the ring as the host sees it: TXQ after all its descriptors were fetched. -/
def Page.fetched (x : Page) : Page := { x.setRing 0 { x.ring 0 with stalled := false } with txPosted := [] }

/-- A page whose TXQ has a new producer index, with the descriptors behind the old one. -/
def Page.posted (x : Page) (prod : Nat) (l : List TxDesc) : Page :=
  { x.setRing 0 { x.ring 0 with prod := prod % (x.ring 0).size } with txPosted := x.txPosted ++ l }

/-- A page whose TXQ is marked for a bad descriptor (R260). -/
def Page.marked (x : Page) : Page := x.setRing 0 { x.ring 0 with badDesc := true }

/-- A page whose TXQ stalls with the descriptors that it could not fetch. -/
def Page.stalledWith (x : Page) (l : List TxDesc) : Page := { x.setRing 0 { x.ring 0 with stalled := true } with txPosted := l }

theorem Page.stalledWith_facts (x : Page) (l : List TxDesc) :
    ((x.stalledWith l).ring 0).stalled = true ∧ (x.stalledWith l).txPosted = l ∧ (x.stalledWith l).txWait = x.txWait :=
  ⟨congrArg HostRing.stalled (Page.ring_setRing_self x 0 { x.ring 0 with stalled := true }), rfl, rfl⟩

/-- A page whose TXQ has moved on by a descriptor. -/
def Page.advanced (x : Page) : Page := x.setRing 0 { x.ring 0 with cons := ((x.ring 0).cons + 1) % (x.ring 0).size }

/-- A page with one more descriptor that waits for its admission. -/
def Page.waiting (x : Page) (d : TxDesc) : Page := { x with txWait := x.txWait ++ [d] }

/-- A page whose TXC took a completion. -/
def Page.completed (x : Page) : Page :=
  if (x.ring 1).enable then x.setRing 1 { x.ring 1 with prod := ((x.ring 1).prod + 1) % (x.ring 1).size } else x

section Rings

variable {s : State}

/-! ## The fetch of descriptors (R259, R262) -/

theorem State.fetchTx_nil (s : State) (f : Nat) : s.fetchTx f [] = s.setPage f (s.page f).fetched := rfl

theorem State.fetchTx_fetches {f : Nat} {d : TxDesc} {ds : List TxDesc} (henable : ((s.page f).ring 0).enable = true)
    (hwait : (s.page f).txWait.length < 16) (hfree : s.openRequests f < ((s.page f).ring 1).free) :
    s.fetchTx f (d :: ds) = (s.fetchOne f d).fetchTx f ds := by
  have hon : ¬ (!((s.page f).ring 0).enable) = true := by rw [henable]; decide
  exact (if_neg hon).trans ((if_neg (Nat.not_le.mpr hwait)).trans (if_neg (Nat.not_le.mpr hfree)))

theorem State.fetchTx_stalls {f : Nat} {d : TxDesc} {ds : List TxDesc} (henable : ((s.page f).ring 0).enable = true)
    (hwait : (s.page f).txWait.length < 16) (hfree : ((s.page f).ring 1).free ≤ s.openRequests f) : s.fetchTx f (d :: ds) =
      s.setPage f ((s.page f).stalledWith (d :: ds)) := by
  have hon : ¬ (!((s.page f).ring 0).enable) = true := by rw [henable]; decide
  exact (if_neg hon).trans ((if_neg (Nat.not_le.mpr hwait)).trans (if_pos hfree))

theorem State.fetchOne_waits {f : Nat} {d : TxDesc} (hcheck : s.txCheck d = none) (hbound : s.bound f d = true) (hcls : d.cls ≠ 0) :
    s.fetchOne f d = s.setPage f ((s.page f).waiting d) := by
  simp only [State.fetchOne, hcheck, hbound, Bool.not_true, if_neg hcls]
  rfl

/-- A descriptor is refused: TXQ is marked, the completion posted, the consumer index advanced (R260). -/
def State.refusedTx (s : State) (f tag st : Nat) : State :=
  ((s.setPage f (s.page f).marked).postTxc f tag st 0 0 0).consumeTx f

theorem State.fetchOne_refuses {f st : Nat} {d : TxDesc} (hcheck : s.txCheck d = some st) :
    s.fetchOne f d = s.refusedTx f d.tag st := by
  simp only [State.fetchOne, hcheck]
  rfl

/-- The page of a function whose ring took a descriptor: the producer index advanced where the ring is enabled. -/
theorem State.postRing_page (s : State) (f k : Nat) (data : Bytes) : (s.postRing f k data).page f =
    if ((s.page f).ring k).enable then (s.page f).setRing k { (s.page f).ring k with prod := (((s.page f).ring k).prod + 1) % ((s.page f).ring k).size }
    else s.page f := by
  unfold State.postRing
  extract_lets g u
  have hu : u.page f = (s.page f).setRing k { g with prod := (g.prod + 1) % g.size } :=
    State.page_setPage_self s f ((s.page f).setRing k { g with prod := (g.prod + 1) % g.size })
  split
  · split
    · exact hu
    · exact hu
  · rfl

theorem State.txDoorbell_eq (s : State) (f prod : Nat) (l : List TxDesc) : s.txDoorbell f prod l =
    (s.setPage f ((s.page f).posted prod (l.take (((s.page f).ring 0).newEntries prod)))).fetchTx f
      ((s.page f).txPosted ++ l.take (((s.page f).ring 0).newEntries prod)) :=
  congrArg (State.fetchTx _ f)
    (congrArg Page.txPosted (s.page_setPage_self f ((s.page f).posted prod (l.take (((s.page f).ring 0).newEntries prod)))))

theorem State.postTxc_page (s : State) (f tag st retries ok failed : Nat) :
    (s.postTxc f tag st retries ok failed).page f = (s.page f).completed := s.postRing_page f 1 _

theorem State.consumeTx_page (s : State) (f : Nat) : (s.consumeTx f).page f = (s.page f).advanced := State.page_setPage_self _ _ _

theorem State.refusedTx_page (s : State) (f tag st : Nat) : (s.refusedTx f tag st).page f = (s.page f).marked.completed.advanced := by
  unfold State.refusedTx
  rw [State.consumeTx_page, State.postTxc_page, State.page_setPage_self]

theorem Page.completed_txWait (x : Page) : x.completed.txWait = x.txWait := by unfold Page.completed; split <;> rfl

theorem Page.completed_ring_zero (x : Page) : x.completed.ring 0 = x.ring 0 := by
  unfold Page.completed
  split
  · exact x.ring_setRing_ne _ (by decide)
  · rfl

theorem Page.fetched_ring_zero (x : Page) : x.fetched.ring 0 = { x.ring 0 with stalled := false } := x.ring_setRing_self 0 _

theorem Page.fetched_ring (x : Page) : (x.fetched.ring 0).stalled = false := by rw [Page.fetched_ring_zero]

theorem Page.fetched_ring_ne (x : Page) {j : Nat} (h : j ≠ 0) : x.fetched.ring j = x.ring j := x.ring_setRing_ne _ h

theorem Page.advanced_ring_zero (x : Page) : x.advanced.ring 0 = { x.ring 0 with cons := ((x.ring 0).cons + 1) % (x.ring 0).size } :=
  x.ring_setRing_self 0 _

theorem Page.advanced_ring_ne (x : Page) {j : Nat} (h : j ≠ 0) : x.advanced.ring j = x.ring j := x.ring_setRing_ne _ h

theorem Page.marked_ring_zero (x : Page) : x.marked.ring 0 = { x.ring 0 with badDesc := true } := x.ring_setRing_self 0 _

theorem Page.marked_ring_ne (x : Page) {j : Nat} (h : j ≠ 0) : x.marked.ring j = x.ring j := x.ring_setRing_ne _ h

theorem Page.fetched_txWait (x : Page) : x.fetched.txWait = x.txWait := rfl

theorem Page.advanced_txWait (x : Page) : x.advanced.txWait = x.txWait := rfl

theorem Page.marked_txWait (x : Page) : x.marked.txWait = x.txWait := rfl

theorem Page.refused_txWait (x : Page) : x.marked.completed.advanced.fetched.txWait = x.txWait := by
  rw [Page.fetched_txWait, Page.advanced_txWait, Page.completed_txWait, Page.marked_txWait]

theorem Page.refused_badDesc (x : Page) : (x.marked.completed.advanced.fetched.ring 0).badDesc = true := by
  rw [Page.fetched_ring_zero, Page.advanced_ring_zero, Page.completed_ring_zero, Page.marked_ring_zero]

theorem Page.refused_prod {x : Page} (h : (x.ring 1).enable = true) :
    (x.marked.completed.advanced.fetched.ring 1).prod = ((x.ring 1).prod + 1) % (x.ring 1).size := by
  rw [Page.fetched_ring_ne _ (by decide), Page.advanced_ring_ne _ (by decide)]
  unfold Page.completed
  rw [Page.marked_ring_ne _ (by decide), if_pos h, Page.ring_setRing_self]

theorem exec_txqDoorbell {t f prod : Nat} (hp : s.rst.powered = true) (hopen : s.open f = true) (hnew : ((s.page f).ring 0).newEntries prod = 1)
    (hposted : (s.page f).txPosted = []) (d : TxDesc) :
    exec (.txqDoorbell t f prod [d]) s = .next (((s.upTo t).setPage f (((s.upTo t).page f).posted prod [d])).fetchTx f [d]) := by
  refine (State.run_powered hp t _).trans (congrArg Host.Outcome.next ((if_pos hopen).trans ?_))
  rw [State.txDoorbell_eq, State.upTo_page, hnew, hposted]
  rfl

/-- What TXQ's new producer index leaves for the fetch of its one descriptor. -/
theorem Page.posted_ring (x : Page) (prod : Nat) (l : List TxDesc) :
    (x.posted prod l).ring 0 = { x.ring 0 with prod := prod % (x.ring 0).size } := x.ring_setRing_self 0 _

theorem Page.posted_ring_ne (x : Page) (prod : Nat) (l : List TxDesc) {j : Nat} (h : j ≠ 0) : (x.posted prod l).ring j = x.ring j :=
  x.ring_setRing_ne _ h

/-- The requests that are open do not depend on what is posted. -/
theorem State.openRequests_posted (s : State) (f prod : Nat) (l : List TxDesc) :
    (s.setPage f ((s.page f).posted prod l)).openRequests f = s.openRequests f := by
  unfold State.openRequests
  rw [State.page_setPage_self]
  rfl

/-- The one descriptor behind a new producer index is fetched where a TXC entry is left for it, else TXQ stalls with it. -/
theorem State.fetchTx_posted {f : Nat} (prod : Nat) (d : TxDesc) (henable : ((s.page f).ring 0).enable = true)
    (hwait : (s.page f).txWait.length < 16) :
    (s.openRequests f < ((s.page f).ring 1).free → (s.setPage f ((s.page f).posted prod [d])).fetchTx f [d] =
      ((s.setPage f ((s.page f).posted prod [d])).fetchOne f d).fetchTx f []) ∧
    (((s.page f).ring 1).free ≤ s.openRequests f → (s.setPage f ((s.page f).posted prod [d])).fetchTx f [d] =
      (s.setPage f ((s.page f).posted prod [d])).setPage f (((s.page f).posted prod [d]).stalledWith [d])) := by
  have hpage := s.page_setPage_self f ((s.page f).posted prod [d])
  have hon : (((s.setPage f ((s.page f).posted prod [d])).page f).ring 0).enable = true := by
    rw [hpage, Page.posted_ring]; exact henable
  have hfew : ((s.setPage f ((s.page f).posted prod [d])).page f).txWait.length < 16 := by rw [hpage]; exact hwait
  have hone : ((s.setPage f ((s.page f).posted prod [d])).page f).ring 1 = (s.page f).ring 1 := by
    rw [hpage]; exact Page.posted_ring_ne _ _ _ (by decide)
  have hrequests := s.openRequests_posted f prod [d]
  refine ⟨fun hfree => State.fetchTx_fetches hon hfew (by rw [hone, hrequests]; exact hfree), fun hfull => ?_⟩
  rw [State.fetchTx_stalls hon hfew (by rw [hone, hrequests]; exact hfull), hpage]

/-! ## The other rings -/

/-- A page whose RXF has a new producer index, with the buffers behind the old one. -/
def Page.buffered (x : Page) (prod : Nat) (l : List RxBuffer) : Page :=
  { x.setRing 2 { x.ring 2 with prod := prod % (x.ring 2).size } with rxBufs := x.rxBufs ++ l }

theorem State.rxDoorbell_eq (s : State) (f prod : Nat) (l : List RxBuffer) : s.rxDoorbell f prod l =
    (s.setPage f ((s.page f).buffered prod ((l.take (((s.page f).ring 2).newEntries prod)).filter fun b => decide (256 ≤ b.size)))).drainRx f
      (s.page f).rxWait := by
  let x := (s.page f).buffered prod ((l.take (((s.page f).ring 2).newEntries prod)).filter fun b => decide (256 ≤ b.size))
  show (s.setPage f x).drainRx f ((s.setPage f x).page f).rxWait = (s.setPage f x).drainRx f (s.page f).rxWait
  rw [State.page_setPage_self]
  rfl

theorem exec_rxfDoorbell {t f prod : Nat} (hp : s.rst.powered = true) (hopen : s.open f = true) (hnew : ((s.page f).ring 2).newEntries prod = 1)
    (hwait : (s.page f).rxWait = []) {b : RxBuffer} (hsize : 256 ≤ b.size) : exec (.rxfDoorbell t f prod [b]) s =
      .next ((s.upTo t).setPage f ((s.page f).buffered prod [b])) := by
  refine (State.run_powered hp t _).trans (congrArg Host.Outcome.next ((if_pos hopen).trans ?_))
  have hkeep : [b].filter (fun b => decide (256 ≤ b.size)) = [b] := List.filter_eq_self.mpr fun x hx => by
    rw [List.mem_singleton.mp hx]; exact decide_eq_true hsize
  rw [State.rxDoorbell_eq, State.upTo_page, hnew, List.take_succ_cons, List.take_zero, hkeep, hwait]
  rfl

theorem exec_rxHoldTimeout_discards {t f : Nat} (hp : s.rst.powered = true) {x : RxPacket} (hwait : (s.page f).rxWait = [x])
    (hdue : x.beat + s.val 0x3106 3 ≤ max s.tsc t / 40000) : exec (.rxHoldTimeout t f) s =
      .next (((s.upTo t).setPage f { s.page f with rxWait := [] }).bump 0x3187 (x.rx.cls + 1)) := by
  have hwait' : ((s.upTo t).page f).rxWait = [x] := hwait
  have hdue' : x.beat + (s.upTo t).val 0x3106 3 ≤ (s.upTo t).beat := hdue
  simp only [exec, execRxHoldTimeout, State.run_powered hp, hwait', if_pos hdue']
  rfl

theorem exec_rxHoldTimeout_waits {t f : Nat} (hp : s.rst.powered = true) {x : RxPacket} (hwait : (s.page f).rxWait = [x])
    (hdue : max s.tsc t / 40000 < x.beat + s.val 0x3106 3) : exec (.rxHoldTimeout t f) s = .next (s.upTo t) := by
  have hwait' : ((s.upTo t).page f).rxWait = [x] := hwait
  have hdue' : ¬ x.beat + (s.upTo t).val 0x3106 3 ≤ (s.upTo t).beat := Nat.not_le.mpr hdue
  simp only [exec, execRxHoldTimeout, State.run_powered hp, hwait', if_neg hdue']

/-- A page whose ring has a new consumer index. -/
def Page.consumed (x : Page) (k idx : Nat) : Page := x.setRing k { x.ring k with cons := idx % (x.ring k).size }

/-- A page whose ring stalls no more. -/
def Page.unstalled (x : Page) (k : Nat) : Page := x.setRing k { x.ring k with stalled := false }

theorem exec_hostConsumerIndexWrite {t f k idx : Nat} (hp : s.rst.powered = true) (hopen : s.open f = true)
    (hk : k = 1 ∨ k = 3 ∨ k = 5 ∨ k = 7) :
    exec (.hostConsumerIndexWrite t f k idx) s = .next ((s.upTo t).consumerWrite f k idx) :=
  (State.run_powered hp t _).trans (congrArg Host.Outcome.next (if_pos ⟨hopen, hk⟩))

/-- With no packet behind it a consumer index frees entries, and RXQ's does no more. -/
theorem State.consumerWrite_rxq {f idx : Nat} (h : (s.page f).rxWait = []) :
    s.consumerWrite f 3 idx = s.setPage f ((s.page f).consumed 3 idx) := by
  show (s.setPage f ((s.page f).consumed 3 idx)).drainRx f ((s.setPage f ((s.page f).consumed 3 idx)).page f).rxWait = _
  rw [State.page_setPage_self, show ((s.page f).consumed 3 idx).rxWait = [] from h, State.drainRx]

/-- TXC's consumer index lifts the stall of TXQ. -/
theorem State.consumerWrite_txc {f idx : Nat} (h : (s.page f).txPosted = []) :
    s.consumerWrite f 1 idx = (s.setPage f ((s.page f).consumed 1 idx)).setPage f ((s.page f).consumed 1 idx).fetched := by
  show (s.setPage f ((s.page f).consumed 1 idx)).fetchTx f ((s.setPage f ((s.page f).consumed 1 idx)).page f).txPosted = _
  rw [State.page_setPage_self, show ((s.page f).consumed 1 idx).txPosted = [] from h, State.fetchTx_nil, State.page_setPage_self]

theorem State.consumerWrite_done {f k idx : Nat} (h : k = 5 ∨ k = 7) :
    s.consumerWrite f k idx = (s.setPage f ((s.page f).consumed k idx)).setPage f (((s.page f).consumed k idx).unstalled (k - 1)) := by
  refine (if_neg (by omega)).trans ((if_neg (by omega)).trans ?_)
  show (s.setPage f ((s.page f).consumed k idx)).setPage f (((s.setPage f ((s.page f).consumed k idx)).page f).unstalled (k - 1)) = _
  rw [State.page_setPage_self]

theorem Page.consumed_ring (x : Page) (k idx : Nat) : ((x.consumed k idx).ring k).cons = idx % (x.ring k).size ∧
    ((x.consumed k idx).ring k).prod = (x.ring k).prod := by
  unfold Page.consumed; rw [Page.ring_setRing_self]; exact ⟨rfl, rfl⟩

theorem Page.unstalled_ring (x : Page) (k : Nat) : ((x.unstalled k).ring k).stalled = false := by
  unfold Page.unstalled; rw [Page.ring_setRing_self]

theorem Page.unstalled_ring_ne (x : Page) {k j : Nat} (h : j ≠ k) : (x.unstalled k).ring j = x.ring j := x.ring_setRing_ne _ h

end Rings

/-- Settles O19: each ring register changes its page alone, but for the completion of a refused descriptor. -/
theorem hostRingsComplete : Obligations.HostRingsComplete := by
  unfold Obligations.HostRingsComplete
  refine ⟨fun s t f prod d hs hopen henable hnew hposted hwait => ⟨fun hfree hcheck hbound hcls => ?good, fun hfree hbad => ?bad,
    fun hfull => ?stalls⟩, fun s t f hs => ⟨fun prod b hopen hnew hsize hnone => ?buffers, fun x hone hdue => ?discards,
    fun x hone hdue => Did.answer_upTo (exec_rxHoldTimeout_waits hs.2 hone hdue), fun k idx hopen hk => ?consumer⟩⟩
  case good =>
    have hexec := exec_txqDoorbell (t := t) hs.2 hopen hnew hposted d
    obtain ⟨hfetches, _⟩ := State.fetchTx_posted (s := s.upTo t) prod d henable hwait
    rw [hfetches hfree, State.fetchOne_waits (s := (s.upTo t).setPage f (((s.upTo t).page f).posted prod [d])) hcheck hbound hcls, State.fetchTx_nil, State.page_setPage_self, State.page_setPage_self, State.upTo_page] at hexec
    refine ⟨_, hexec, .record, fun g hg => ?_, ?_⟩
    · exact ((State.page_setPage_ne _ _ _ hg).trans (State.page_setPage_ne _ _ _ hg)).trans (State.page_setPage_ne _ _ _ hg)
    · rw [State.page_setPage_self]
      have hring : (((s.page f).posted prod [d]).waiting d).ring 0 = _ := (s.page f).posted_ring prod [d]
      refine ⟨rfl, rfl, Page.fetched_ring _, ?_, ?_, fun k hk => ?_⟩
      · exact (congrArg HostRing.prod (Page.fetched_ring_zero _)).trans (congrArg HostRing.prod hring)
      · have hcons : ((((s.page f).posted prod [d]).waiting d).ring 0).cons = ((s.page f).ring 0).cons := by rw [hring]
        rw [Page.fetched_ring_zero]
        exact hcons
      · exact (Page.fetched_ring_ne _ hk).trans (Page.posted_ring_ne (s.page f) prod [d] hk)
  case bad =>
    obtain ⟨st, hst⟩ := Option.isSome_iff_exists.mp hbad
    have hexec := exec_txqDoorbell (t := t) hs.2 hopen hnew hposted d
    obtain ⟨hfetches, _⟩ := State.fetchTx_posted (s := s.upTo t) prod d henable hwait
    rw [hfetches hfree, State.fetchOne_refuses (s := (s.upTo t).setPage f (((s.upTo t).page f).posted prod [d])) hst, State.fetchTx_nil, State.upTo_page] at hexec
    have hkeeps : Keeps [.pages, .out] (s.upTo t) (((s.upTo t).setPage f ((s.page f).posted prod [d])).refusedTx f d.tag st) := by
      apply State.consumeTx_keeps
      · exact State.postTxc_keeps (State.setPage_keeps (State.setPage_keeps (.refl _ _) f _ (by decide)) f _ (by decide)) f _ _ _ _ _
          (by decide) (by decide)
      · decide
    refine ⟨_, hexec, .of_keeps (State.setPage_keeps hkeeps f _ (by decide)) (by decide), ?_⟩
    rw [State.page_setPage_self, State.refusedTx_page, State.page_setPage_self]
    refine ⟨(Page.refused_txWait _).trans rfl, Page.refused_badDesc _, fun hdone => ?_⟩
    rw [← Page.posted_ring_ne (s.page f) prod [d] (show 1 ≠ 0 by decide)] at hdone ⊢
    exact Page.refused_prod hdone
  case stalls =>
    have hexec := exec_txqDoorbell (t := t) hs.2 hopen hnew hposted d
    obtain ⟨_, hstalls⟩ := State.fetchTx_posted (s := s.upTo t) prod d henable hwait
    rw [hstalls hfull, State.upTo_page] at hexec
    refine ⟨_, hexec, .record, ?_⟩
    rw [State.page_setPage_self]
    exact Page.stalledWith_facts _ _
  case buffers =>
    refine ⟨_, exec_rxfDoorbell hs.2 hopen hnew hnone hsize, .record, fun g hg => State.page_setPage_ne _ _ _ hg, ?_, ?_, fun k hk => ?_⟩
    · rw [State.page_setPage_self]; rfl
    · rw [State.page_setPage_self]
      exact congrArg HostRing.prod (Page.ring_setRing_self _ _ _)
    · rw [State.page_setPage_self]
      exact Page.ring_setRing_ne _ _ hk
  case discards =>
    exact ⟨_, exec_rxHoldTimeout_discards hs.2 hone hdue, .record, by rw [State.bump_page, State.page_setPage_self],
      State.counted_bump _ _ _⟩
  case consumer =>
    have hexec := exec_hostConsumerIndexWrite (t := t) (idx := idx) hs.2 hopen (show k = 1 ∨ k = 3 ∨ k = 5 ∨ k = 7 by omega)
    obtain ⟨hcons, hprod⟩ := (s.page f).consumed_ring k idx
    have done (hk : k = 5 ∨ k = 7) : ∃ u, exec (.hostConsumerIndexWrite t f k idx) s = .next u ∧ Did t [.pages] s u ∧
        (∀ g, g ≠ f → u.page g = s.page g) ∧ ((u.page f).ring k).cons = idx % ((s.page f).ring k).size ∧
        ((u.page f).ring k).prod = ((s.page f).ring k).prod ∧ (k ≠ 3 → ((u.page f).ring (k - 1)).stalled = false) ∧
        (u.page f).evtFifo = (s.page f).evtFifo := by
      rw [State.consumerWrite_done hk, State.upTo_page] at hexec
      refine ⟨_, hexec, .record, fun g hg => (State.page_setPage_ne _ _ _ hg).trans (State.page_setPage_ne _ _ _ hg), ?_⟩
      rw [State.page_setPage_self, Page.unstalled_ring_ne _ (by omega)]
      exact ⟨hcons, hprod, fun _ => Page.unstalled_ring _ _, rfl⟩
    rcases hk with hk | hk | ⟨rfl, hnone⟩ | ⟨rfl, hnone⟩
    · exact done (.inl hk)
    · exact done (.inr hk)
    · rw [State.consumerWrite_rxq (s := s.upTo t) hnone, State.upTo_page] at hexec
      refine ⟨_, hexec, .record, fun g hg => State.page_setPage_ne _ _ _ hg, ?_⟩
      rw [State.page_setPage_self]
      exact ⟨hcons, hprod, fun h => absurd rfl h, rfl⟩
    · rw [State.consumerWrite_txc (s := s.upTo t) hnone, State.upTo_page] at hexec
      refine ⟨_, hexec, .record, fun g hg => (State.page_setPage_ne _ _ _ hg).trans (State.page_setPage_ne _ _ _ hg), ?_⟩
      rw [State.page_setPage_self, Page.fetched_ring_ne _ (by decide)]
      exact ⟨hcons, hprod, fun _ => Page.fetched_ring _, rfl⟩

end Sys2Proof.Machine
end

section
/-! A frame of a neighbour that brings nothing but itself (R235-R294): what hearing it leaves, and the tables of links, nodes and entries. -/

set_option Elab.async false

namespace Sys2Proof.Machine

/-! ## Tables searched by content -/

/-- Replacing a value by one that the search judges alike finds the same key. -/
theorem Table.find?_insert {α : Type} {P : Nat × α → Bool} {t : Table α} {k : Nat} {v w : α} (ht : Table.rising t = true)
    (hw : Table.find t k = some w) (hP : P (k, v) = P (k, w)) :
    ((Table.insert t k v).find? P).map Prod.fst = (t.find? P).map Prod.fst := by
  induction t with
  | nil => exact absurd hw (by simp)
  | cons e t ih =>
    obtain ⟨j, x⟩ := e
    rw [Table.rising_cons, Bool.and_eq_true] at ht
    obtain ⟨habove, hrising⟩ := ht
    by_cases hj : j = k
    case pos =>
      subst hj
      rw [Table.find, if_pos rfl] at hw
      rw [Table.insert, if_neg (Nat.lt_irrefl _), if_pos rfl, List.find?_cons, List.find?_cons, hP, Option.some.inj hw]
      split <;> rfl
    case neg =>
      rw [Table.find, if_neg hj] at hw
      have hlt : ¬ k < j := fun h => by
        rw [Table.find_above habove (Nat.le_of_lt h)] at hw
        exact absurd hw (by simp)
      rw [Table.insert, if_neg hlt, if_neg hj, List.find?_cons, List.find?_cons]
      split
      · rfl
      · exact ih hrising hw

/-- A value that is not the default is listed. -/
theorem Table.find_of_get_ne {α : Type} {d : α} {t : Table α} {k : Nat} (h : Table.get d t k ≠ d) : Table.find t k = some (Table.get d t k) := by
  unfold Table.get at h ⊢
  cases hfind : Table.find t k with
  | none => rw [hfind] at h; exact absurd rfl h
  | some w => rfl

/-- What a table filled key by key holds, where no two entries share a key. -/
theorem Table.get_foldl_put {α β : Type} [DecidableEq α] {d : α} (key : β → Nat) (val : β → α) {l : List β} (t : Table α)
    (hinj : ∀ a ∈ l, ∀ b ∈ l, key a = key b → a = b) {x : β} (hx : x ∈ l) :
    Table.get d (l.foldl (fun t i => Table.put d t (key i) (val i)) t) (key x) = val x := by
  have hkeep : ∀ (l : List β) (t : Table α) (n : Nat), (∀ a ∈ l, key a ≠ n) →
      Table.get d (l.foldl (fun t i => Table.put d t (key i) (val i)) t) n = Table.get d t n := by
    intro l
    induction l with
    | nil => exact fun _ _ _ => rfl
    | cons a l ih =>
      intro t n hn
      exact (ih _ n fun b hb => hn b (List.mem_cons_of_mem _ hb)).trans (Table.get_put_ne t _ (hn a List.mem_cons_self).symm)
  induction l generalizing t with
  | nil => exact absurd hx List.not_mem_nil
  | cons a l ih =>
    have hinj' : ∀ b ∈ l, ∀ c ∈ l, key b = key c → b = c := fun b hb c hc =>
      hinj b (List.mem_cons_of_mem _ hb) c (List.mem_cons_of_mem _ hc)
    by_cases hmem : x ∈ l
    case pos => exact ih _ hinj' hmem
    case neg =>
      obtain rfl : x = a := (List.mem_cons.mp hx).resolve_right hmem
      rw [List.foldl_cons, hkeep l _ (key x) fun b hb hkey => hmem (hinj b (List.mem_cons_of_mem _ hb) x List.mem_cons_self hkey ▸ hb)]
      exact Table.get_put_self _ _ _

section Mesh

variable {s : State} {rx : RxFrame} {k pos : Nat}

/-! ## Hearing a neighbour -/

/-- A neighbour is heard that was allowed to send, over the link `k` and the entry `pos`; nothing else of the mesh waits. -/
structure State.Hears (s : State) (rx : RxFrame) (k pos : Nat) : Prop where
  native : s.nativeRx rx = true
  allowed : s.nodeMayStart rx = true
  link : s.linkOf rx.port rx.lane rx.src = some k
  state : (s.link k).state = .mapped ∨ (s.link k).state = .robust
  own : rx.mac.orig = rx.src
  route : s.routeThrough rx.src rx.src rx.port rx.lane = some pos
  settled : s.routes.updates = []
  routed : ∀ e, s.isLost e = false
  grant : rx.mac.grant = 0

theorem State.Arrives.hears (h : s.Arrives rx k pos) : s.Hears rx k pos :=
  ⟨h.native, h.allowed, h.link, h.state, h.own, h.route, h.settled, h.routed, h.grant⟩

/-- What hearing a neighbour leaves: its link and its entry are confirmed (R276, R280). -/
def State.arrived (s : State) (k pos : Nat) : State :=
  (s.setLink k { s.link k with lastRx := s.tsc }).setRoute pos { s.route pos with confirmed := s.tsc }

theorem State.Hears.endpoint (h : s.Hears rx k pos) : s.isEndpoint rx.src = true := by
  have := h.native
  unfold State.nativeRx at this
  simp only [Bool.and_eq_true] at this
  exact this.1.2

theorem State.routeNext_settled (h : s.routes.updates = []) (q : Nat) : s.routeNext q = s.route q := by
  unfold State.routeNext; rw [h]; rfl

theorem State.Hears.valid (h : s.Hears rx k pos) : (s.route pos).valid = true ∧ (s.route pos).next = rx.src ∧
    (s.route pos).port = rx.port ∧ (s.route pos).lane = rx.lane := by
  have hfound := List.find?_some h.route
  rw [State.routeNext_settled h.settled] at hfound
  simp only [Bool.and_eq_true, beq_iff_eq] at hfound
  obtain ⟨⟨⟨hvalid, hnext⟩, hport⟩, hlane⟩ := hfound
  exact ⟨hvalid, hnext, hport, hlane⟩

theorem State.touchLink_known {p l e : Nat} (h : s.linkOf p l e = some k) (hstate : (s.link k).state = .mapped ∨ (s.link k).state = .robust) :
    s.touchLink p l e = s.setLink k { s.link k with lastRx := s.tsc } := by
  have hfresh : ¬ (s.link k).state = .stale := by rcases hstate with h | h <;> rw [h] <;> decide
  simp only [State.touchLink, h, if_neg hfresh]

/-- No endpoint is without a route, so that no repair starts. -/
theorem State.repairOnFrame_none (h : ∀ e, s.isLost e = false) (orig src : Nat) : s.repairOnFrame orig src = s := by
  have hnone : ((s.node src).neighbours.map Prod.fst).filter s.isLost = [] :=
    List.filter_eq_nil_iff.mpr fun e _ => by rw [h]; decide
  unfold State.repairOnFrame
  simp only [hnone, h orig]
  rfl

theorem State.Hears.heard (h : s.Hears rx k pos) : s.heard rx = s.arrived k pos := by
  have htouch := State.touchLink_known h.link h.state
  have hroute : (s.setLink k { s.link k with lastRx := s.tsc }).routeThrough rx.src rx.src rx.port rx.lane = some pos := h.route
  have hconfirm : (s.setLink k { s.link k with lastRx := s.tsc }).confirmRoute pos = s.arrived k pos := if_pos h.valid.1
  have hlost : ∀ e, (s.arrived k pos).isLost e = false := h.routed
  unfold State.heard
  simp only [if_pos h.allowed, htouch, h.grant, h.own, h.endpoint, State.takeRequest, true_or, if_true, hroute, hconfirm]
  exact State.repairOnFrame_none hlost _ _

/-- A frame for the module that carries no acknowledgement and asks for none has the effect of its type. -/
theorem State.Hears.receive {types : List Nat} {f : State → State} (h : s.Hears rx k pos) (htype : types.contains rx.mac.type = true)
    (hdst : rx.mac.dst = 0) (hfin : rx.mac.fin = 0) (hack : rx.mac.ackMap = 0) (hreq : rx.mac.ackReq = false) :
    s.receive rx types f = f (s.arrived k pos) := by
  have hend : (s.arrived k pos).isEndpoint rx.mac.orig = true := h.own ▸ h.endpoint
  unfold State.receive State.forModule State.applyAck State.windowRx
  simp only [h.native, htype, h.heard, hdst, hfin, hend, hack, hreq]
  rfl

theorem State.Arrives.receive {types : List Nat} {f : State → State} (h : s.Arrives rx k pos) (htype : types.contains rx.mac.type = true) :
    s.receive rx types f = f (s.arrived k pos) := h.hears.receive htype h.dst h.fin h.ackMap h.ackReq

/-! ## What stands after it -/

theorem State.arrived_keeps (s : State) (k pos : Nat) : Keeps [.routes] s (s.arrived k pos) :=
  State.setRoute_keeps (State.setLink_keeps (.refl _ s) k _ (by decide)) pos _ (by decide)

theorem State.arrived_link (s : State) (k pos : Nat) : (s.arrived k pos).link k = { s.link k with lastRx := s.tsc } :=
  (State.setRoute_link ..).trans (s.link_setLink_self k _)

theorem State.arrived_link_ne (s : State) {k j : Nat} (pos : Nat) (h : j ≠ k) : (s.arrived k pos).link j = s.link j :=
  (State.setRoute_link ..).trans (s.link_setLink_ne k _ h)

theorem State.arrived_route (s : State) (k pos : Nat) : (s.arrived k pos).route pos = { s.route pos with confirmed := s.tsc } :=
  State.route_setRoute_self _ _ _

theorem State.arrived_route_ne (s : State) (k : Nat) {pos q : Nat} (h : q ≠ pos) : (s.arrived k pos).route q = s.route q :=
  State.route_setRoute_ne _ _ _ h

/-- The link of the neighbour is found as before: what was written of it names the same neighbour. -/
theorem State.arrived_linkOf (hs : s.Canonical) (h : s.Hears rx k pos) : (s.arrived k pos).linkOf rx.port rx.lane rx.src = some k := by
  let P : Nat × Link → Bool := fun x => x.2.state != .free && x.2.port == rx.port && x.2.lane == rx.lane && x.2.peer == rx.src
  have hfree : (s.link k).state ≠ .free := by rcases h.state with h | h <;> rw [h] <;> decide
  have hne : ∀ x : Link, x.state ≠ .free → x ≠ {} := fun x hx heq => hx (heq ▸ rfl)
  have hlisted : Table.find s.routes.links k = some (s.link k) := Table.find_of_get_ne (hne _ hfree)
  have hput : (s.arrived k pos).routes.links = Table.insert s.routes.links k { s.link k with lastRx := s.tsc } :=
    if_neg (hne { s.link k with lastRx := s.tsc } hfree)
  refine Eq.trans ?_ h.link
  show ((s.arrived k pos).routes.links.find? P).map Prod.fst = (s.routes.links.find? P).map Prod.fst
  rw [hput]
  exact Table.find?_insert (Table.rising_of_wf hs.links) hlisted rfl

end Mesh

end Sys2Proof.Machine
end

section
/-! What the reports of a neighbour leave, and a probe reply (R271, R277, R285, R286, R294). -/

set_option Elab.async false

namespace Sys2Proof.Machine

section Reports

variable {s : State} {rx : RxFrame} {k pos : Nat}

theorem beAt_one_lt (b : Bytes) (o : Nat) : beAt b o 1 < 256 := by
  have hlen : (slice b o 1).length = 1 := by
    unfold slice
    simp only [List.length_append, List.length_take, List.length_replicate]
    omega
  obtain ⟨x, hx⟩ := List.length_eq_one_iff.mp hlen
  rw [beAt, hx]
  show 0 * 256 + x.toNat < 256
  have := x.isLt
  omega

/-! ## REPORT -/

/-- The SNR values of a REPORT in module slots, `o` slots behind those of the sender. -/
def reportedSnr (b : Bytes) (o : Nat) : Table Nat :=
  (List.range (24 * beAt b 0 1)).foldl (fun (t : Table Nat) i => Table.put 0xFF t
    (((i / beAt b 0 1 + o) % 24) * 256 + i % beAt b 0 1) (beAt b (4 + i) 1)) []

/-- Each slot and group of a REPORT has a place of its own. -/
theorem reportedSnr_get (b : Bytes) (o : Nat) {r g : Nat} (hr : r < 24) (hg : g < beAt b 0 1) :
    Table.get 0xFF (reportedSnr b o) ((r + o) % 24 * 256 + g) = beAt b (4 + r * beAt b 0 1 + g) 1 := by
  let n := beAt b 0 1
  have hn : n < 256 := beAt_one_lt b 0
  have hpos : 0 < n := Nat.zero_lt_of_lt hg
  have hslot : (r * n + g) / n = r := by
    rw [Nat.mul_comm, Nat.mul_add_div hpos, Nat.div_eq_of_lt hg, Nat.add_zero]
  have hgroup : (r * n + g) % n = g := by rw [Nat.mul_comm, Nat.mul_add_mod, Nat.mod_eq_of_lt hg]
  have hin : r * n + g ∈ List.range (24 * n) := by
    have : (r + 1) * n ≤ 24 * n := Nat.mul_le_mul_right n hr
    rw [Nat.add_mul, Nat.one_mul] at this
    exact List.mem_range.mpr (Nat.lt_of_lt_of_le (Nat.add_lt_add_left hg _) this)
  have hinj : ∀ i ∈ List.range (24 * n), ∀ j ∈ List.range (24 * n),
      (i / n + o) % 24 * 256 + i % n = (j / n + o) % 24 * 256 + j % n → i = j := by
    intro i hi j hj heq
    have hi24 : i / n < 24 := Nat.div_lt_of_lt_mul (Nat.mul_comm 24 n ▸ List.mem_range.mp hi)
    have hj24 : j / n < 24 := Nat.div_lt_of_lt_mul (Nat.mul_comm 24 n ▸ List.mem_range.mp hj)
    have himod := Nat.mod_lt i hpos
    have hjmod := Nat.mod_lt j hpos
    have hcycle : ∀ a b : Nat, a < 24 → b < 24 → (a + o) % 24 = (b + o) % 24 → a = b := by omega
    have hplace : ∀ a b c d : Nat, c < 256 → d < 256 → a * 256 + c = b * 256 + d → a = b ∧ c = d := by omega
    obtain ⟨hslots, hrest⟩ := hplace _ _ _ _ (Nat.lt_trans himod hn) (Nat.lt_trans hjmod hn) heq
    have hquot := hcycle _ _ hi24 hj24 hslots
    rw [← Nat.div_add_mod i n, ← Nat.div_add_mod j n, hquot, hrest]
  have := Table.get_foldl_put (d := 0xFF) (fun i => (i / n + o) % 24 * 256 + i % n) (fun i => beAt b (4 + i) 1) [] hinj hin
  simp only [hslot, hgroup, ← Nat.add_assoc] at this
  exact this

/-- The link with the values of a REPORT, which wait for a plan. -/
def Link.reported (x : Link) (b : Bytes) : Link := { x with snrDn := reportedSnr b (x.offset % 32), fresh := true }

theorem State.takeReport_eq (hown : rx.mac.orig = rx.src) (hlink : s.linkOf rx.port rx.lane rx.src = some k)
    (hlong : 4 ≤ rx.mac.body.length) (hlen : rx.mac.body.length = 4 + 24 * beAt rx.mac.body 0 1) :
    s.takeReport rx = s.setLink k ((s.link k).reported rx.mac.body) := by
  have hgood : ¬ (rx.mac.body.length ≠ 4 + 24 * beAt rx.mac.body 0 1 ∨ rx.mac.body.length < 4) := by omega
  simp only [State.takeReport, if_neg hgood, hown, ne_eq, not_true_eq_false, if_false, hlink] <;> rfl

theorem State.takeReport_malformed (h : rx.mac.body.length ≠ 4 + 24 * beAt rx.mac.body 0 1) : s.takeReport rx = s.bump 0x3220 0x10 :=
  if_pos (.inl h)

/-! ## STATE and JOIN -/

theorem State.takeOffset_nodes (s : State) (rx : RxFrame) (o : Nat) : (s.takeOffset rx o).routes.nodes = s.routes.nodes := by
  unfold State.takeOffset
  split
  · rfl
  · split
    · rfl
    · extract_lets x
      repeat' split
      all_goals rfl

theorem State.node_congr {t : State} (h : t.routes.nodes = s.routes.nodes) (e : Nat) : t.node e = s.node e := by unfold State.node; rw [h]

theorem State.takeState_node (hlen : rx.mac.body.length = 48) : ((s.takeState rx).node rx.mac.orig).reportAt = some s.tsc ∧
    ((s.takeState rx).node rx.mac.orig).reportEpoch = beAt rx.mac.body 0 4 ∧
    ∀ e, e ≠ rx.mac.orig → (s.takeState rx).node e = s.node e := by
  unfold State.takeState
  rw [if_neg (not_not_intro hlen)]
  extract_lets e u _ v
  have hu : Keeps [.dict, .routes] s u :=
    State.bump_keeps (State.takeOffset_keeps (.refl _ s) rx _ (by decide) (by decide)) _ _ (by decide)
  have hroutes : (v.compareReport 2 e (beAt rx.mac.body 0 4) ((List.range 5).map fun i => beAt rx.mac.body (8 + 8 * i) 8)).routes =
      v.routes :=
    ((State.compareReport_keeps (ps := [.dict, .mgr, .log]) (.refl _ v) 2 e _ _ (by decide) (by decide) (by decide)).frame .routes
      (by decide))
  have hnode : ∀ q, (v.compareReport 2 e (beAt rx.mac.body 0 4) ((List.range 5).map fun i => beAt rx.mac.body (8 + 8 * i) 8)).node q =
      v.node q := State.node_congr (congrArg Routes.nodes hroutes)
  have hself : v.node e = { u.node e with reportAt := some u.tsc, reportEpoch := beAt rx.mac.body 0 4 } := State.node_setNode_self _ _ _
  refine ⟨?_, ?_, fun q hq => ?_⟩
  · rw [hnode, hself]; exact congrArg some (hu.frame .tsc (by decide))
  · rw [hnode, hself]
  · rw [hnode]
    exact (State.node_setNode_ne _ _ _ hq).trans (State.node_congr (State.takeOffset_nodes s rx _) q)

theorem State.takeJoin_node (s : State) (rx : RxFrame) : ((s.takeJoin rx).node rx.mac.orig).eui = beAt rx.mac.body 0 8 ∧
    ((s.takeJoin rx).node rx.mac.orig).joined = true ∧ ∀ e, e ≠ rx.mac.orig → (s.takeJoin rx).node e = s.node e := by
  let v := s.setNode rx.mac.orig { s.node rx.mac.orig with eui := beAt rx.mac.body 0 8, joined := true }
  have hnode : ∀ q, (s.takeJoin rx).node q = v.node q := State.node_congr (State.takeOffset_nodes v rx _)
  have hself : v.node rx.mac.orig = { s.node rx.mac.orig with eui := beAt rx.mac.body 0 8, joined := true } := State.node_setNode_self _ _ _
  refine ⟨?_, ?_, fun q hq => (hnode q).trans (State.node_setNode_ne _ _ _ hq)⟩ <;> rw [hnode, hself]

/-! ## Entries given true costs -/

theorem State.touchEndpoint_nodes (s : State) (e : Nat) : (s.touchEndpoint e).routes.nodes = s.routes.nodes := by
  unfold State.touchEndpoint; split <;> rfl

theorem State.touchEndpoint_updates (s : State) (e : Nat) : (s.touchEndpoint e).routes.updates = s.routes.updates := by
  unfold State.touchEndpoint; split <;> rfl

/-- An entry given true costs touches neither what is known of the nodes nor a link. -/
theorem State.reportRoute_nodes_links (s : State) (e n p l hops metric : Nat) :
    (s.reportRoute e n p l hops metric).routes.nodes = s.routes.nodes ∧
    (s.reportRoute e n p l hops metric).routes.links = s.routes.links := by
  have hupdate : ∀ q r c, (s.updateRoute q r c).routes.nodes = s.routes.nodes ∧ (s.updateRoute q r c).routes.links = s.routes.links :=
    fun q r c => ⟨State.touchEndpoint_nodes _ _, State.touchEndpoint_links _ _⟩
  unfold State.reportRoute
  split
  · extract_lets r
    split
    · unfold State.confirmRoute; split <;> exact ⟨rfl, rfl⟩
    · exact hupdate _ _ _
  · unfold State.newRoute
    split
    · exact hupdate _ _ _
    · exact ⟨rfl, rfl⟩

/-- The place of a new entry is one of the endpoint's. -/
theorem State.routePlace_mem {e metric q : Nat} (h : s.routePlace e metric = some q) : q ∈ routePositions e := by
  have hfold : ∀ (l : List Nat) (b : Option Nat), l.foldl (fun b pos => match b with
      | none => some pos
      | some a => if (s.routeNext pos).metric > (s.routeNext a).metric then some pos else some a) b = some q → b = some q ∨ q ∈ l := by
    intro l
    induction l with
    | nil => exact fun b h => .inl h
    | cons x l ih =>
      intro b h
      rcases ih _ h with hb | hl
      · cases b with
        | none => exact .inr (Option.some.inj hb ▸ List.mem_cons_self)
        | some a =>
          dsimp only at hb
          split at hb
          · exact .inr (Option.some.inj hb ▸ List.mem_cons_self)
          · exact .inl hb
      · exact .inr (List.mem_cons_of_mem _ hl)
  unfold State.routePlace at h
  split at h
  case h_1 x hfree => exact Option.some.inj h ▸ List.mem_of_find?_eq_some hfree
  case h_2 =>
    dsimp only at h
    split at h
    case h_1 x hworst =>
      obtain ⟨-, hx⟩ := Option.ite_none_right_eq_some.mp h
      obtain rfl := Option.some.inj hx
      rcases hfold _ _ hworst with hnone | hin
      · exact absurd hnone (by simp)
      · exact (List.mem_filter.mp hin).1
    case h_2 => exact absurd h (by simp)

/-- Without a place every entry of the endpoint is taken. -/
theorem State.routePlace_full {e metric : Nat} (h : s.routePlace e metric = none) : ∀ q ∈ routePositions e, (s.routeNext q).valid = true := by
  unfold State.routePlace at h
  split at h
  case h_1 => exact absurd h (by simp)
  case h_2 hfull => exact fun q hq => by simpa using List.find?_eq_none.mp hfull q hq

/-- An update waits for the next boundary. -/
theorem State.updateRoute_routeNext (s : State) (q : Nat) (r : RouteEntry) (c : Bool) : (s.updateRoute q r c).routeNext q = r := by
  have hnone : (s.routes.updates.filter fun (u : RouteUpdate) => u.pos != q).find? (fun (u : RouteUpdate) => u.pos == q) = none :=
    List.find?_eq_none.mpr fun u hu => by simpa using (List.mem_filter.mp hu).2
  unfold State.updateRoute
  extract_lets made
  unfold State.routeNext
  rw [State.touchEndpoint_updates]
  dsimp only
  rw [List.find?_append, hnone, Option.none_or, List.find?_cons_of_pos (by simp)]

/-- The endpoint has a valid entry through the neighbour, or every entry of it is taken. -/
def State.Reached (u : State) (e n p l : Nat) : Prop :=
  (∃ q ∈ routePositions e, (u.routeNext q).valid = true ∧ (u.routeNext q).next = n ∧ (u.routeNext q).port = p ∧
    (u.routeNext q).lane = l) ∨ ∀ q ∈ routePositions e, (u.routeNext q).valid = true

theorem State.reportRoute_reached (hsettled : s.routes.updates = []) (e n p l hops metric : Nat) :
    (s.reportRoute e n p l hops metric).Reached e n p l := by
  unfold State.reportRoute
  split
  case h_1 q hthrough =>
    have hin : q ∈ routePositions e := List.mem_of_find?_eq_some hthrough
    have hfound := List.find?_some hthrough
    simp only [Bool.and_eq_true, beq_iff_eq] at hfound
    obtain ⟨⟨⟨hvalid, hnext⟩, hport⟩, hlane⟩ := hfound
    refine .inl ⟨q, hin, ?_⟩
    extract_lets r
    split
    · rw [State.routeNext_settled hsettled] at hvalid hnext hport hlane
      have hkept : (s.confirmRoute q).routes.updates = [] := by rw [State.confirmRoute, if_pos hvalid]; exact hsettled
      rw [State.routeNext_settled hkept, State.confirmRoute, if_pos hvalid, State.route_setRoute_self]
      exact ⟨hvalid, hnext, hport, hlane⟩
    · rw [State.updateRoute_routeNext]
      exact ⟨hvalid, hnext, hport, hlane⟩
  case h_2 hthrough =>
    unfold State.newRoute
    split
    case h_1 q hplace =>
      refine .inl ⟨q, State.routePlace_mem hplace, ?_⟩
      rw [State.updateRoute_routeNext]
      exact ⟨rfl, rfl, rfl, rfl⟩
    case h_2 hplace => exact .inr (State.routePlace_full hplace)

/-! ## NEIGHBOURS and PROBE_REPLY -/

theorem State.takeNeighbours_node (h₁ : 1 ≤ beAt rx.mac.body 0 2) (h₂ : beAt rx.mac.body 0 2 ≤ 2047)
    (hlen : rx.mac.body.length = 4 + 8 * beAt rx.mac.body 0 2) :
    ((s.takeNeighbours rx).node rx.mac.orig).neighbours =
      (List.range (beAt rx.mac.body 0 2)).map (fun i => (beAt rx.mac.body (4 + 8 * i) 4, beAt rx.mac.body (8 + 8 * i) 2)) ∧
    ∀ e, e ≠ rx.mac.orig → (s.takeNeighbours rx).node e = s.node e := by
  have hgood : ¬ (beAt rx.mac.body 0 2 = 0 ∨ 2047 < beAt rx.mac.body 0 2 ∨ rx.mac.body.length ≠ 4 + 8 * beAt rx.mac.body 0 2) := by omega
  have heach : ∀ (l : List (Nat × Nat)) (u : State) (f : State → Nat × Nat → State),
      (∀ v x, (f v x).routes.nodes = v.routes.nodes) → (u.each l f).routes.nodes = u.routes.nodes := by
    intro l u f hf
    unfold State.each
    induction l generalizing u with
    | nil => rfl
    | cons x l ih => exact (ih (f u x)).trans (hf u x)
  unfold State.takeNeighbours
  rw [if_neg hgood]
  extract_lets l _ u m
  have hnode : ∀ q, (u.each (l.filter fun (e : Nat × Nat) => u.isEndpoint e.1) fun v e =>
      v.reportRoute e.1 rx.src rx.port rx.lane (min 15 (m.2 + 1)) (m.1 + e.2 + v.hopPenalty)).node q = u.node q :=
    State.node_congr (heach _ u _ fun v x => (State.reportRoute_nodes_links v _ _ _ _ _ _).1)
  exact ⟨by rw [hnode, State.node_setNode_self], fun q hq => (hnode q).trans (State.node_setNode_ne _ _ _ hq)⟩

theorem State.takeProbeReply_eq (h₁ : 1 ≤ beAt rx.mac.body 6 1) (h₂ : beAt rx.mac.body 6 1 ≤ 15)
    (hlen : rx.mac.body.length = 8 + 8 * beAt rx.mac.body 6 1) (htarget : s.isEndpoint (beAt rx.mac.body 0 4) = true) :
    ∃ metric, s.takeProbeReply rx = s.reportRoute (beAt rx.mac.body 0 4) rx.src rx.port rx.lane (beAt rx.mac.body 6 1) metric := by
  have hgood : ¬ (beAt rx.mac.body 6 1 = 0 ∨ 15 < beAt rx.mac.body 6 1 ∨ rx.mac.body.length ≠ 8 + 8 * beAt rx.mac.body 6 1) := by omega
  exact ⟨_, (if_neg hgood).trans (if_pos htarget)⟩

/-! ## The commands -/

theorem Did.ofArrived {ps : List Part} {t : Nat} {u : State} (h : Keeps ps ((s.upTo t).arrived k pos) u)
    (hps : Part.routes ∈ ps := by decide) (htsc : Part.tsc ∉ ps := by decide) : Did t ps s u :=
  .of_keeps (((State.arrived_keeps _ k pos).mono fun _ hp => List.mem_singleton.mp hp ▸ hps).trans h) htsc

variable {t : Nat}

theorem exec_reportReceived (hp : s.rst.powered = true) (h : (s.upTo t).Arrives rx k pos) (htype : rx.mac.type = 6) :
    exec (.reportReceived t rx) s = .next (((s.upTo t).arrived k pos).takeReport rx) :=
  (State.run_powered hp t _).trans (congrArg Host.Outcome.next (h.receive (by rw [htype]; decide)))

theorem exec_stateReceived (hp : s.rst.powered = true) (h : (s.upTo t).Arrives rx k pos) (htype : rx.mac.type = 7) :
    exec (.stateReceived t rx) s = .next (((s.upTo t).arrived k pos).takeState rx) :=
  (State.run_powered hp t _).trans (congrArg Host.Outcome.next (h.receive (by rw [htype]; decide)))

theorem exec_neighboursReceived (hp : s.rst.powered = true) (h : (s.upTo t).Arrives rx k pos) (htype : rx.mac.type = 8) :
    exec (.neighboursReceived t rx) s = .next (((s.upTo t).arrived k pos).takeNeighbours rx) :=
  (State.run_powered hp t _).trans (congrArg Host.Outcome.next (h.receive (by rw [htype]; decide)))

theorem exec_probeReplyReceived (hp : s.rst.powered = true) (h : (s.upTo t).Arrives rx k pos) (htype : rx.mac.type = 10) :
    exec (.probeReplyReceived t rx) s = .next (((s.upTo t).arrived k pos).takeProbeReply rx) :=
  (State.run_powered hp t _).trans (congrArg Host.Outcome.next (h.receive (by rw [htype]; decide)))

theorem exec_joinReceived (hp : s.rst.powered = true) (h : (s.upTo t).Arrives rx k pos) (htype : rx.mac.type = 11)
    (hlen : rx.mac.body.length = 16) (hclash : s.joinClash rx.src (beAt rx.mac.body 0 8) = false) :
    exec (.joinReceived t rx) s = .next (((s.upTo t).arrived k pos).takeJoin rx) := by
  have hend : (s.upTo t).isEndpoint rx.src = true := h.hears.endpoint
  have hinside : ¬ (rx.mac.type = 11 ∧ rx.mac.dst = 0 ∧ rx.mac.fin = 0 ∧ (s.upTo t).outsider rx = true) := by
    unfold State.outsider
    rw [hend]
    simp
  have hclean : ¬ ((s.upTo t).isEndpoint rx.mac.orig = false ∨ (s.upTo t).joinClash rx.mac.orig (beAt rx.mac.body 0 8) = true) := by
    rw [h.own, hend]
    rintro (hout | hjoin)
    · exact absurd hout (by decide)
    · exact absurd (hclash.symm.trans hjoin) (by decide)
  show execJoinReceived t rx s = _
  refine (State.run_powered hp t _).trans (congrArg Host.Outcome.next ?_)
  refine (if_neg hinside).trans ((if_pos ⟨h.native, htype, h.dst, h.fin⟩).trans ((if_neg (not_not_intro hlen)).trans
    ((if_neg hclean).trans ?_)))
  exact h.receive (by rw [htype]; decide)

end Reports

/-- Settles O20: each report acts on the state in which its sender's link and entry are confirmed. -/
theorem nodeReportsComplete : Obligations.NodeReportsComplete := by
  unfold Obligations.NodeReportsComplete
  refine ⟨fun s t k pos rx hlive h => ?_, fun s t k pos rx hlive h htype h₁ h₂ hlen htarget => ?_⟩
  · obtain ⟨hs, hp⟩ := hlive
    let a := (s.upTo t).arrived k pos
    have hlinkOf : a.linkOf rx.port rx.lane rx.src = some k := State.arrived_linkOf (s.upTo_canonical t hs) h.hears
    have hlink : a.link k = { s.link k with lastRx := max s.tsc t } := State.arrived_link _ _ _
    refine ⟨fun htype hlong hlen => ?report, fun htype hlen => ?malformed, fun htype hlen => ?state,
      fun htype h₁ h₂ hlen => ?neighbours, fun htype hlen hclash => ?join⟩
    case report =>
      have hself := State.link_setLink_self a k ((a.link k).reported rx.mac.body)
      refine ⟨_, (exec_reportReceived hp h htype).trans (congrArg _ (State.takeReport_eq h.own hlinkOf hlong hlen)),
        .ofArrived (State.setLink_keeps (.refl _ a) k _ (by decide)), ?_, ?_, fun r g hr hg => ?_, ?_, fun j hj => ?_, ?_, fun q hq => ?_⟩
      · rw [hself]; rfl
      · rw [hself, hlink]; rfl
      · rw [hself, hlink]; exact reportedSnr_get _ _ hr hg
      · rw [hself, hlink]; rfl
      · exact (State.link_setLink_ne a k _ hj).trans (State.arrived_link_ne _ _ hj)
      · exact congrArg RouteEntry.confirmed (State.arrived_route _ _ _)
      · exact State.arrived_route_ne _ _ hq
    case malformed =>
      have hcounted : Counted [keyOf 0x3220 0x10] (s.upTo t) (a.bump 0x3220 0x10) := (State.arrived_keeps _ k pos).counted _ _
      have hstays : (a.bump 0x3220 0x10).link k = { s.link k with lastRx := max s.tsc t } := hlink
      refine ⟨_, (exec_reportReceived hp h htype).trans (congrArg _ (State.takeReport_malformed hlen)),
        .ofArrived (State.bump_keeps (.refl _ a) _ _ (by decide)), ?_, ?_, hcounted⟩ <;> rw [hstays]
    case state =>
      obtain ⟨hat, hepoch, hother⟩ := State.takeState_node (s := a) hlen
      rw [h.own] at hat hepoch hother
      exact ⟨_, exec_stateReceived hp h htype, .ofArrived (by apply State.takeState_keeps; · exact .refl _ _
                                                              all_goals decide), hat, hepoch, hother⟩
    case neighbours =>
      obtain ⟨hlist, hother⟩ := State.takeNeighbours_node (s := a) h₁ h₂ hlen
      rw [h.own] at hlist hother
      exact ⟨_, exec_neighboursReceived hp h htype, .ofArrived (by apply State.takeNeighbours_keeps; · exact .refl _ _
                                                                   all_goals decide), hlist, hother⟩
    case join =>
      obtain ⟨heui, hjoined, hother⟩ := State.takeJoin_node a rx
      rw [h.own] at heui hjoined hother
      exact ⟨_, exec_joinReceived hp h htype hlen hclash, .ofArrived (by apply State.takeJoin_keeps; · exact .refl _ _
                                                                         all_goals decide), heui, hjoined, hother⟩
  · obtain ⟨hs, hp⟩ := hlive
    let a := (s.upTo t).arrived k pos
    obtain ⟨metric, heq⟩ := State.takeProbeReply_eq (s := a) h₁ h₂ hlen htarget
    refine ⟨_, (exec_probeReplyReceived hp h htype).trans (congrArg _ heq),
      .ofArrived (State.reportRoute_keeps (.refl _ a) _ _ _ _ _ _ (by decide) (by decide)), fun j hj => ?_,
      State.reportRoute_reached (s := a) h.settled _ _ _ _ _ _⟩
    exact (State.link_congr (State.reportRoute_nodes_links a _ _ _ _ _ _).2 j).trans (State.arrived_link_ne _ _ hj)

end Sys2Proof.Machine
end

section
/-! Data and acknowledgement frames received (R244, R253, R254, R255, R261). -/

set_option Elab.async false

namespace Sys2Proof.Machine

section Reception

variable {s : State} {rx : RxFrame} {k f : Nat}

/-! ## Delivery to a function -/

/-- A disabled RXF has no buffer taken from it: its packets wait. -/
theorem State.drainRx_disabled (h : ((s.page f).ring 2).enable = false) (l : List RxPacket) : s.drainRx f l = s := by
  cases l with
  | nil => rfl
  | cons x l =>
    unfold State.drainRx
    extract_lets g
    split
    · exact if_neg fun hon => absurd (h.symm.trans hon.1) (by decide)
    · rfl

/-- A page with a packet more that waits for buffers. -/
def Page.receiving (g : Page) (x : RxPacket) : Page := { g with rxWait := g.rxWait ++ [x] }

theorem State.deliverPacket_waits (hf : s.receiver rx.mac.orig rx.cls = some f) (hoff : ((s.page f).ring 2).enable = false) (body : Bytes) :
    s.deliverPacket body rx = s.setPage f ((s.page f).receiving ⟨body, rx, s.beat⟩) := by
  unfold State.deliverPacket
  simp only [hf]
  refine State.drainRx_disabled ?_ _
  rw [State.page_setPage_self]
  exact hoff

theorem State.deliverPacket_undeliverable (hf : s.receiver rx.mac.orig rx.cls = none) (body : Bytes) :
    s.deliverPacket body rx = s.bump 0x3187 (rx.cls + 1) := by unfold State.deliverPacket; simp only [hf]

/-! ## The receive window -/

theorem State.setSpool_receiver (s : State) (k : Nat) (x : Spool) (o c : Nat) : (s.setSpool k x).receiver o c = s.receiver o c := rfl

/-- A spool whose window has moved on by one number, with nothing held. -/
def Spool.movedOn (x : Spool) : Spool := { x with rxBase := (x.rxBase + 1) % 256, heldRx := [] }

theorem State.takeInOrder_whole (n : Nat) (htype : rx.mac.type = 1) (hmore : rx.mac.more = false) (hfrag : rx.mac.frag = 0) :
    s.takeInOrder k ⟨n, rx⟩ = (s.setSpool k { s.spool k with parts := [] }).deliverPacket rx.mac.body rx := by
  simp only [State.takeInOrder, htype, hfrag, hmore, ne_eq, not_true_eq_false, if_true, if_false, Bool.true_eq_false, Bool.false_eq_true,
    List.flatMap_cons, List.flatMap_nil, List.append_nil]

theorem State.advanceBase_empty (h : (s.spool k).heldRx = []) (n : Nat) : s.advanceBase k n = s := by
  cases n with
  | zero => rfl
  | succ n => simp only [State.advanceBase, h, List.find?_nil]

theorem State.advanceBase_one {h : HeldFrame} (hheld : (s.spool k).heldRx = [h]) (hseq : h.seq = (s.spool k).rxBase) (n : Nat) :
    s.advanceBase k (n + 1) = ((s.setSpool k (s.spool k).movedOn).takeInOrder k h).advanceBase k n := by
  have hfound : (s.spool k).heldRx.find? (fun h => h.seq == (s.spool k).rxBase) = some h := by
    rw [hheld]; exact List.find?_cons_of_pos (by simpa using hseq)
  have hnone : (s.spool k).heldRx.filter (fun y => y.seq != h.seq) = [] := by rw [hheld]; simp
  rw [State.advanceBase]
  simp only [hfound, hnone]
  rfl

/-- The one held frame of a window is a whole packet and next: it is delivered. -/
theorem State.advanceBase_whole (n : Nat) (hheld : (s.spool k).heldRx = [⟨rx.mac.seq, rx⟩]) (hseq : rx.mac.seq = (s.spool k).rxBase)
    (htype : rx.mac.type = 1) (hmore : rx.mac.more = false) (hfrag : rx.mac.frag = 0)
    (hf : s.receiver rx.mac.orig rx.cls = some f) (hoff : ((s.page f).ring 2).enable = false) :
    s.advanceBase k (n + 1) = ((s.setSpool k (s.spool k).movedOn).setSpool k { (s.spool k).movedOn with parts := [] }).setPage f
      ((s.page f).receiving ⟨rx.mac.body, rx, s.beat⟩) := by
  let c := s.setSpool k (s.spool k).movedOn
  let v := c.setSpool k { (s.spool k).movedOn with parts := [] }
  have hc : c.spool k = (s.spool k).movedOn := State.spool_setSpool_self _ _ _
  have hv : v.spool k = { (s.spool k).movedOn with parts := [] } := State.spool_setSpool_self _ _ _
  have hvf : v.receiver rx.mac.orig rx.cls = some f := by rw [State.setSpool_receiver, State.setSpool_receiver]; exact hf
  have hvpage : v.page f = s.page f := by rw [State.setSpool_page, State.setSpool_page]
  have hvoff : ((v.page f).ring 2).enable = false := hvpage ▸ hoff
  have hvbeat : v.beat = s.beat := by rw [State.setSpool_beat, State.setSpool_beat]
  rw [State.advanceBase_one hheld hseq, State.takeInOrder_whole _ htype hmore hfrag, State.spool_setSpool_self,
    State.deliverPacket_waits hvf hvoff, hvpage, hvbeat]
  refine State.advanceBase_empty ?_ n
  rw [State.setPage_spool, hv]
  rfl

/-- A whole packet is next in an empty window: it is delivered, the window moves on and an acknowledgement is owed. -/
theorem State.receiveSeq_whole (htype : rx.mac.type = 1) (hmore : rx.mac.more = false) (hfrag : rx.mac.frag = 0)
    (hseq : rx.mac.seq = (s.spool k).rxBase) (hheld : (s.spool k).heldRx = []) (hwindow : 1 ≤ s.window (spoolClass k))
    (hf : s.receiver rx.mac.orig rx.cls = some f) (hoff : ((s.page f).ring 2).enable = false) :
    ∃ v, s.receiveSeq k rx = v.setPage f ((s.page f).receiving ⟨rx.mac.body, rx, s.beat⟩) ∧ Keeps [.spools] s v ∧
      (v.spool k).rxBase = ((s.spool k).rxBase + 1) % 256 ∧ (v.spool k).ackDue = true ∧ (v.spool k).heldRx = [] ∧
      ∀ j, j ≠ k → v.spool j = s.spool j := by
  let x : Spool := { s.spool k with heldRx := [⟨rx.mac.seq, rx⟩] }
  let a := s.setSpool k x
  let b := a.oweAck k
  have ha : a.spool k = x := State.spool_setSpool_self _ _ _
  have hb : b.spool k = { x with ackDue := true, ackAt := if x.ackDue then x.ackAt else a.tether.slotCount } := by
    rw [← ha]; exact State.spool_setSpool_self _ _ _
  have hkeeps : Keeps [.spools] s b := State.setSpool_keeps (State.setSpool_keeps (.refl _ s) k _ (by decide)) k _ (by decide)
  have hother : ∀ j, j ≠ k → b.spool j = s.spool j := fun j hj =>
    (State.spool_setSpool_ne _ _ _ hj).trans (State.spool_setSpool_ne _ _ _ hj)
  have hpage : b.page f = s.page f := State.setSpool_page ..
  have hadvance := State.advanceBase_whole (s := b) (k := k) 15 (by rw [hb]) (by rw [hb]; exact hseq) htype hmore hfrag
    (show b.receiver rx.mac.orig rx.cls = some f from hf) (hpage ▸ hoff)
  have hnext : (rx.mac.seq + 256 - (s.spool k).rxBase) % 256 = 0 := by rw [hseq, Nat.add_sub_cancel_left]
  have hreceive : s.receiveSeq k rx = b.advanceBase k 16 := by
    unfold State.receiveSeq
    have hinside : 0 < s.window (spoolClass k) := hwindow
    simp only [hnext, hinside, if_neg (show ¬ 0 ≥ 128 by decide), if_true, hheld, List.any_nil, Bool.false_eq_true, if_false]
    rfl
  rw [hreceive, hadvance, hpage]
  refine ⟨_, rfl, State.setSpool_keeps (State.setSpool_keeps hkeeps k _ (by decide)) k _ (by decide), ?_, ?_, ?_, fun j hj => ?_⟩
  · rw [State.spool_setSpool_self, hb]; rfl
  · rw [State.spool_setSpool_self, hb]; rfl
  · rw [State.spool_setSpool_self]; rfl
  · exact (State.spool_setSpool_ne _ _ _ hj).trans ((State.spool_setSpool_ne _ _ _ hj).trans (hother j hj))

/-! ## Acknowledgements -/

/-- A number that is acknowledged leaves the fragments in flight, and nothing joins them. -/
theorem State.releaseSeq_flight (s : State) (k n : Nat) :
    (∀ y ∈ ((s.releaseSeq k n).spool k).flight, y ∈ (s.spool k).flight ∧ y.seq ≠ n) ∧
    ∀ j, j ≠ k → (s.releaseSeq k n).spool j = s.spool j := by
  unfold State.releaseSeq
  extract_lets x flying waiting item
  generalize hitem : item = i
  cases i with
  | none =>
    have hflying : flying = none := by
      by_contra hsome
      obtain ⟨q, hq⟩ := Option.ne_none_iff_exists'.mp hsome
      exact absurd (hitem.symm.trans (by simp only [item, hq])) (Option.some_ne_none q.item).symm
    exact ⟨fun y hy => ⟨hy, by simpa using List.find?_eq_none.mp hflying y hy⟩, fun _ _ => rfl⟩
  | some q =>
    dsimp only
    rename_i u v _
    have hspools : v.spools = u.spools := by
      show (match flying with | some y => _ | none => u).spools = u.spools
      generalize flying = y
      cases y with
      | none => rfl
      | some y => dsimp only; split <;> rfl
    have hflight : (v.spool k).flight = (s.spool k).flight.filter fun y => y.seq != n := by
      rw [State.spool_congr hspools, State.spool_setSpool_self]
    have hleft : ∀ y ∈ (v.spool k).flight, y ∈ (s.spool k).flight ∧ y.seq ≠ n := fun y hy => by
      rw [hflight] at hy
      simpa using List.mem_filter.mp hy
    have hother : ∀ j, j ≠ k → v.spool j = s.spool j := fun j hj =>
      (State.spool_congr hspools j).trans (State.spool_setSpool_ne _ _ _ hj)
    split
    · refine ⟨fun y hy => hleft y ?_, fun j hj => (State.settleSpool_spool_ne _ hj).trans (hother j hj)⟩
      rwa [State.settleSpool_spool, State.settled_flight] at hy
    · split
      · refine ⟨fun y hy => hleft y ?_, fun j hj => (State.endPacket_spool_ne _ _ _ hj).trans (hother j hj)⟩
        rw [State.endPacket_flight] at hy
        exact (List.mem_filter.mp hy).1
      · refine ⟨fun y hy => hleft y ?_, fun j hj => (State.settleSpool_spool_ne _ hj).trans (hother j hj)⟩
        rwa [State.settleSpool_spool, State.settled_flight] at hy

theorem State.releaseSeqs_flight (s : State) (k : Nat) (l : List Nat) :
    (∀ y ∈ ((s.each l fun u n => u.releaseSeq k n).spool k).flight, y ∈ (s.spool k).flight ∧ y.seq ∉ l) ∧
    ∀ j, j ≠ k → (s.each l fun u n => u.releaseSeq k n).spool j = s.spool j := by
  unfold State.each
  induction l generalizing s with
  | nil => exact ⟨fun y hy => ⟨hy, by simp⟩, fun _ _ => rfl⟩
  | cons n l ih =>
    obtain ⟨hfirst, hfirstOther⟩ := s.releaseSeq_flight k n
    obtain ⟨hrest, hrestOther⟩ := ih (s.releaseSeq k n)
    refine ⟨fun y hy => ?_, fun j hj => (hrestOther j hj).trans (hfirstOther j hj)⟩
    obtain ⟨hin, hnot⟩ := hrest y hy
    obtain ⟨hold, hne⟩ := hfirst y hin
    exact ⟨hold, fun hmem => (List.mem_cons.mp hmem).elim hne hnot⟩

theorem State.applyAck_flight (s : State) (e : Nat) {m : MacFrame} (hmap : m.ackMap ≠ 0) :
    (∀ n ∈ ackedSeqs m.ackSeq m.ackMap, ∀ y ∈ ((s.applyAck e m).spool (4 * e + m.ackCls)).flight, y.seq ≠ n) ∧
    ∀ j, j ≠ 4 * e + m.ackCls → (s.applyAck e m).spool j = s.spool j := by
  obtain ⟨hleft, hother⟩ := s.releaseSeqs_flight (4 * e + m.ackCls) (ackedSeqs m.ackSeq m.ackMap)
  unfold State.applyAck
  rw [if_neg hmap]
  extract_lets seqs u
  have hlinks : Keeps [.routes] u (u.each u.routes.links fun v x =>
      if x.2.peer = e ∧ x.2.pending ∧ m.ackCls = 1 ∧ seqs.any (fun q => x.2.tmapSeq == some q) then
        v.setLink x.1 { v.link x.1 with acked := true } else v) :=
    Keeps.each (.refl _ u) fun v x => Keeps.ite (State.setLink_keeps (.refl _ v) _ _ (by decide)) (.refl _ v)
  have hspool := State.spool_congr (hlinks.frame .spools (by decide))
  refine ⟨fun n hn y hy heq => ?_, fun j hj => (hspool j).trans (hother j hj)⟩
  rw [hspool] at hy
  exact (hleft y hy).2 (heq ▸ hn)

/-! ## The commands -/

variable {t pos : Nat}

/-- A DATA frame for the module whose acknowledgement fields are empty. -/
theorem State.Hears.receive_data (h : s.Hears rx k pos) (htype : rx.mac.type = 1) (hdst : rx.mac.dst = 0) (hfin : rx.mac.fin = 0)
    (hack : rx.mac.ackMap = 0) (g : State → State) :
    s.receive rx [1] g = g ((s.arrived k pos).windowRx rx) := by
  have hend : (s.arrived k pos).isEndpoint rx.mac.orig = true := h.own ▸ h.endpoint
  unfold State.receive State.forModule State.applyAck
  simp only [h.native, htype, h.heard, hdst, hfin, hend, hack]
  rfl

theorem exec_dataFrameReceived (hp : s.rst.powered = true) (h : (s.upTo t).Hears rx k pos) (htype : rx.mac.type = 1)
    (hdst : rx.mac.dst = 0) (hfin : rx.mac.fin = 0) (hack : rx.mac.ackMap = 0) : exec (.dataFrameReceived t rx) s =
      .next (if rx.mac.ackReq then ((s.upTo t).arrived k pos).receiveSeq (4 * rx.src + rx.cls) rx
        else ((s.upTo t).arrived k pos).deliverPacket rx.mac.body rx) := by
  have hnative : ¬ (s.upTo t).nativeRx rx = false := by rw [h.native]; decide
  have hused : ¬ (rx.mac.type = 0 ∨ 12 ≤ rx.mac.type) := by rw [htype]; decide
  have hone : ¬ (rx.mac.type = 1 ∧ rx.mac.fin = broadcastId) := by rw [hfin]; exact fun hb => absurd hb.2 (by decide)
  show execDataFrameReceived t rx s = _
  refine (State.run_powered hp t _).trans (congrArg Host.Outcome.next ?_)
  refine (if_neg hnative).trans ((if_neg hused).trans ((if_neg hone).trans ((h.receive_data htype hdst hfin hack _).trans ?_)))
  unfold State.windowRx
  rw [h.own]
  split <;> rfl

theorem exec_dataFrameReceived_reserved (hp : s.rst.powered = true) (hnative : s.nativeRx rx = true)
    (htype : rx.mac.type = 0 ∨ 12 ≤ rx.mac.type) : exec (.dataFrameReceived t rx) s = .next ((s.upTo t).bump 0x3190 8) := by
  have hnative' : ¬ (s.upTo t).nativeRx rx = false := fun hno => absurd (hnative.symm.trans hno) (by decide)
  show execDataFrameReceived t rx s = _
  exact (State.run_powered hp t _).trans (congrArg Host.Outcome.next ((if_neg hnative').trans (if_pos htype)))

theorem exec_ackFrameReceived (hp : s.rst.powered = true) (h : (s.upTo t).Hears rx k pos) (htype : rx.mac.type = 2)
    (hdst : rx.mac.dst = 0) (hfin : rx.mac.fin = 0) (hreq : rx.mac.ackReq = false) :
    exec (.ackFrameReceived t rx) s = .next (((s.upTo t).arrived k pos).applyAck rx.src rx.mac) := by
  have hend : ((s.upTo t).arrived k pos).isEndpoint rx.src = true := h.endpoint
  refine (State.run_powered hp t _).trans (congrArg Host.Outcome.next ?_)
  show (s.upTo t).receive rx [2] id = _
  unfold State.receive State.forModule State.windowRx
  simp only [h.native, htype, h.heard, hdst, hfin, hend, hreq, h.own]
  rfl

/-- What is heard of a frame does not depend on the acknowledgement that it asks for or carries. -/
theorem State.Arrives.hears_ackReq {b : Bool} (h : s.Arrives { rx with mac := { rx.mac with ackReq := b } } k pos) : s.Hears rx k pos :=
  ⟨h.native, h.allowed, h.link, h.state, h.own, h.route, h.settled, h.routed, h.grant⟩

theorem State.Arrives.hears_ackMap {n : Nat} (h : s.Arrives { rx with mac := { rx.mac with ackMap := n } } k pos) : s.Hears rx k pos :=
  ⟨h.native, h.allowed, h.link, h.state, h.own, h.route, h.settled, h.routed, h.grant⟩

theorem State.Hears.cls (h : s.Hears rx k pos) : rx.cls < 4 := by
  have := h.native
  unfold State.nativeRx at this
  simp only [Bool.and_eq_true, decide_eq_true_eq] at this
  exact this.2

end Reception

/-- Settles O21: a frame that asks for no acknowledgement is delivered as it comes, one that asks for it through its receive window. -/
theorem dataAndAckFramesComplete : Obligations.DataAndAckFramesComplete := by
  unfold Obligations.DataAndAckFramesComplete
  intro s t k pos rx ⟨hs, hp⟩
  let a := (s.upTo t).arrived k pos
  have hpage : ∀ g, a.page g = s.page g := fun g => rfl
  have hspool : ∀ j, a.spool j = s.spool j := fun j => rfl
  refine ⟨fun f h htype hf hoff => ?plain, fun h htype hf => ?unbound, fun f h hreq htype hmore hfrag hseq hheld hwindow hf hoff => ?window,
    fun hnative htype => ?reserved, fun h htype hmap => ?ack⟩
  case plain =>
    have hexec := exec_dataFrameReceived hp h.hears htype h.dst h.fin h.ackMap
    rw [h.ackReq, if_neg Bool.false_ne_true, State.deliverPacket_waits (s := a) (f := f) (by rw [h.own]; exact hf) hoff] at hexec
    refine ⟨_, hexec, .ofArrived (State.setPage_keeps (.refl _ a) f _ (by decide)), fun g hg => ?_, ?_⟩
    · exact (State.page_setPage_ne a f _ hg).trans (hpage g)
    · rw [State.page_setPage_self]; rfl
  case unbound =>
    have hexec := exec_dataFrameReceived hp h.hears htype h.dst h.fin h.ackMap
    have hcounted : Counted [keyOf 0x3187 (rx.cls + 1)] (s.upTo t) (a.bump 0x3187 (rx.cls + 1)) := (State.arrived_keeps _ k pos).counted _ _
    rw [h.ackReq, if_neg Bool.false_ne_true, State.deliverPacket_undeliverable (s := a) (by rw [h.own]; exact hf)] at hexec
    exact ⟨_, hexec, .ofArrived (State.bump_keeps (.refl _ a) _ _ (by decide)), hcounted⟩
  case window =>
    have hears : (s.upTo t).Hears rx k pos := h.hears_ackReq
    have hcls : spoolClass (4 * rx.src + rx.cls) = rx.cls := by
      have := hears.cls
      unfold spoolClass
      omega
    have hexec := exec_dataFrameReceived hp hears htype h.dst h.fin h.ackMap
    obtain ⟨v, heq, hkeeps, hbase, hdue, hempty, hother⟩ := State.receiveSeq_whole (s := a) (k := 4 * rx.src + rx.cls) htype hmore hfrag hseq
      hheld (by rw [hcls]; exact hwindow) (f := f) (by rw [hears.own]; exact hf) hoff
    rw [hreq, if_pos rfl, heq] at hexec
    have hpages : ∀ g, v.page g = s.page g := fun g => by
      unfold State.page; rw [hkeeps.frame .pages (by decide)]; rfl
    refine ⟨_, hexec, .ofArrived (State.setPage_keeps (hkeeps.mono (by decide)) f _ (by decide)), fun g hg => ?_, ?_, ?_, ?_, ?_, fun j hj => ?_⟩
    · exact (State.page_setPage_ne v f _ hg).trans (hpages g)
    · rw [State.page_setPage_self]; rfl
    · rw [State.setPage_spool]; exact hbase
    · rw [State.setPage_spool]; exact hdue
    · rw [State.setPage_spool]; exact hempty
    · rw [State.setPage_spool]; exact hother j hj
  case reserved =>
    have hcounted : Counted [keyOf 0x3190 8] (s.upTo t) ((s.upTo t).bump 0x3190 8) := State.counted_bump _ _ _
    exact ⟨_, exec_dataFrameReceived_reserved hp hnative htype, .of_keeps (State.bump_keeps (.refl _ _) _ _ (by decide)) (by decide), hcounted⟩
  case ack =>
    obtain ⟨hleft, hother⟩ := a.applyAck_flight rx.src hmap
    exact ⟨_, exec_ackFrameReceived hp h.hears_ackMap htype h.dst h.fin h.ackReq,
      .ofArrived (State.applyAck_keeps (.refl _ a) _ _ (by decide) (by decide) (by decide) (by decide) (by decide)), hleft, hother⟩

end Sys2Proof.Machine
end

section
/-! Routes, links, repairs and relay queues by their timers (R272, R276, R280, R281, R287, R288, R292). -/

set_option Elab.async false

namespace Sys2Proof.Machine

section Timers

variable {s : State} {t k pos : Nat}

/-! ## Entries of a table by content -/

theorem Table.get_of_mem {α : Type} (d : α) {t : Table α} (ht : Table.rising t = true) {e : Nat × α} (he : e ∈ t) : Table.get d t e.1 = e.2 := by
  unfold Table.get; rw [Table.find_of_mem ht he]; rfl

theorem Table.mem_of_get_ne {α : Type} {d : α} {t : Table α} (ht : Table.rising t = true) {k : Nat} (h : Table.get d t k ≠ d) :
    (k, Table.get d t k) ∈ t := by
  have hkey : k ∈ t.map Prod.fst := by
    by_contra hnot
    exact h (Table.get_not_mem d hnot)
  obtain ⟨e, he, rfl⟩ := List.mem_map.mp hkey
  exact (Table.get_of_mem d ht he).symm ▸ he

/-- The keys of the entries that a test picks: those whose value passes it, where the default does not. -/
theorem Table.mem_keys_filter {α : Type} {d : α} {t : Table α} (ht : Table.rising t = true) (P : α → Bool) (hd : P d = false) {k : Nat} :
    k ∈ (t.filter fun e => P e.2).map Prod.fst ↔ P (Table.get d t k) = true := by
  constructor
  · intro h
    obtain ⟨e, he, rfl⟩ := List.mem_map.mp h
    obtain ⟨hin, hP⟩ := List.mem_filter.mp he
    rw [Table.get_of_mem d ht hin]
    exact hP
  · intro h
    have hne : Table.get d t k ≠ d := fun heq => absurd ((heq ▸ h).symm.trans hd) (by decide)
    exact List.mem_map.mpr ⟨_, List.mem_filter.mpr ⟨Table.mem_of_get_ne ht hne, h⟩, rfl⟩

/-! ## One operation on each of a list of nodes or entries -/

/-- What a read gives after an operation on each key of a list, which acts on the read of its own key alone and is the same if done twice. -/
theorem State.each_read {α : Type} {read : State → Nat → α} {f : State → Nat → State} {g : α → α} (hself : ∀ v n, read (f v n) n = g (read v n))
    (hne : ∀ v n q, q ≠ n → read (f v n) q = read v q) (hg : ∀ x, g (g x) = g x) (s : State) (l : List Nat) (q : Nat) :
    read (s.each l f) q = if q ∈ l then g (read s q) else read s q := by
  unfold State.each
  induction l generalizing s with
  | nil => rfl
  | cons n l ih =>
    rw [List.foldl_cons, ih]
    by_cases hq : q = n
    · subst hq
      rw [hself, hg, if_pos List.mem_cons_self]
      split <;> rfl
    · rw [hne _ _ _ hq]
      by_cases hl : q ∈ l
      · rw [if_pos hl, if_pos (List.mem_cons_of_mem _ hl)]
      · rw [if_neg hl, if_neg fun hmem => (List.mem_cons.mp hmem).elim hq hl]

/-! ## G.9903 nodes -/

/-- The nodes whose recorded EUI-64 another node of their lane's G.9903 network now has. -/
def State.renamed (s : State) (eui : Nat) : List Nat :=
  (s.routes.nodes.filter fun (n : Nat × Node) => n.2.g9903 && n.2.eui == eui).map Prod.fst

theorem State.renamed_node (hs : s.Canonical) (eui e : Nat) : (s.each (s.renamed eui) fun u n => u.setNode n {}).node e =
    if (s.node e).g9903 = true ∧ (s.node e).eui = eui then {} else s.node e := by
  have hmem : e ∈ s.renamed eui ↔ (s.node e).g9903 = true ∧ (s.node e).eui = eui :=
    (Table.mem_keys_filter (d := ({} : Node)) (Table.rising_of_wf hs.nodes) (fun n => n.g9903 && n.eui == eui) rfl).trans (by
      rw [Bool.and_eq_true, beq_iff_eq]; rfl)
  rw [State.each_read (read := State.node) (g := fun _ => {}) (fun v n => State.node_setNode_self v n _)
    (fun v n q hq => State.node_setNode_ne v n _ hq) (fun _ => rfl)]
  simp only [hmem]

theorem exec_g9903Bootstrap {p l short eui : Nat} (hp : s.rst.powered = true) (hport : s.hasPort p = true) (hl : l < 4)
    (hkind : s.laneKind p l = 3) (hrun : s.running p = true) (h₁ : 1 ≤ short) (h₂ : short ≤ 0x7FFF)
    (hend : s.isEndpoint (s.val 0x3210 0x0A + short) = true) : exec (.g9903Bootstrap t p l short eui) s =
      .next (((s.upTo t).each ((s.upTo t).renamed eui) fun u n => u.setNode n {}).setNode (s.val 0x3210 0x0A + short)
        { eui := eui, joined := true, g9903 := true }) :=
  (State.run_powered hp t _).trans (congrArg Host.Outcome.next (if_pos ⟨hport, hl, hkind, hrun, h₁, h₂, hend⟩))

/-! ## Entries that become invalid -/

theorem State.clearRoute_route (s : State) (pos : Nat) : (s.clearRoute pos).route pos = { sel := (s.route pos).sel } := by
  unfold State.clearRoute State.writeRoute
  rw [State.touchEndpoint_route, State.route_setRoute_self]

theorem State.clearRoute_route_ne (s : State) {pos q : Nat} (h : q ≠ pos) : (s.clearRoute pos).route q = s.route q := by
  unfold State.clearRoute State.writeRoute
  rw [State.touchEndpoint_route, State.route_setRoute_ne _ _ _ h]
  rfl

theorem State.clearRoutes_route (s : State) (l : List Nat) (q : Nat) :
    (s.each l State.clearRoute).route q = if q ∈ l then { sel := (s.route q).sel } else s.route q :=
  State.each_read (read := State.route) (g := fun x => { sel := x.sel }) State.clearRoute_route (fun v _ _ h => v.clearRoute_route_ne h)
    (fun _ => rfl) s l q

theorem State.mem_dependents (hs : s.Canonical) {n p l q : Nat} : q ∈ s.dependents n p l ↔
    (s.route q).valid = true ∧ (s.route q).pinned = false ∧ (s.route q).next = n ∧ (s.route q).port = p ∧ (s.route q).lane = l :=
  (Table.mem_keys_filter (d := ({} : RouteEntry)) (Table.rising_of_wf hs.routes)
    (fun e => e.valid && !e.pinned && e.next == n && e.port == p && e.lane == l) rfl).trans (by
      simp only [Bool.and_eq_true, Bool.not_eq_true', beq_iff_eq, and_assoc]; rfl)

theorem State.clearRoute_canonical (hs : s.Canonical) (pos : Nat) : (s.clearRoute pos).Canonical := by
  have hkeeps : Keeps [.routes] s (s.clearRoute pos) := State.clearRoute_keeps (.refl _ s) pos (by decide)
  exact hkeeps.canonical hs

/-- A link that is found by its neighbour is not free. -/
theorem State.linkOf_used (hs : s.Canonical) {p l e n : Nat} (h : s.linkOf p l e = some n) : (s.link n).state ≠ .free := by
  obtain ⟨x, hfound, rfl⟩ := Option.map_eq_some_iff.mp h
  have hlink : s.link x.1 = x.2 := Table.get_of_mem _ (Table.rising_of_wf hs.links) (List.mem_of_find?_eq_some hfound)
  have hused := List.find?_some hfound
  simp only [Bool.and_eq_true, bne_iff_ne] at hused
  rw [hlink]
  exact hused.1.1.1

theorem State.linkOf_congr {t : State} (h : t.routes.links = s.routes.links) (p l e : Nat) : t.linkOf p l e = s.linkOf p l e := by
  unfold State.linkOf; rw [h]

theorem State.staleLink_link (h : (s.link k).state ≠ .free) : ((s.staleLink k).link k).state = .stale := by
  have hused : ¬ ((s.link k).state == .free) = true := fun hfree => h (LawfulBEq.eq_of_beq hfree)
  unfold State.staleLink
  rw [if_neg hused, State.link_setLink_self]

theorem State.staleLink_routes (s : State) (k : Nat) : (s.staleLink k).routes.entries = s.routes.entries := by
  unfold State.staleLink
  extract_lets x
  split <;> rfl

theorem State.invalidateRoute_far (h : (s.route pos).hops ≠ 1) : s.invalidateRoute pos = s.clearRoute pos := if_neg h

/-- With the neighbour's own entry the entries through the neighbour go. -/
theorem State.invalidateRoute_near_route (hs : s.Canonical) (h : (s.route pos).hops = 1) {q : Nat} (hnext : (s.route q).next = (s.route pos).next)
    (hport : (s.route q).port = (s.route pos).port) (hlane : (s.route q).lane = (s.route pos).lane) (hpin : (s.route q).pinned = false) :
    ((s.invalidateRoute pos).route q).valid = false := by
  let u := s.clearRoute pos
  let v := u.each (u.dependents (s.route pos).next (s.route pos).port (s.route pos).lane) State.clearRoute
  have hv : (v.route q).valid = false := by
    rw [State.clearRoutes_route]
    split
    · rfl
    · rename_i hnot
      by_cases hq : q = pos
      · rw [hq, State.clearRoute_route]
      · have hsame : u.route q = s.route q := State.clearRoute_route_ne s hq
        rw [State.mem_dependents (State.clearRoute_canonical hs pos), hsame] at hnot
        rw [hsame]
        exact Bool.eq_false_iff.mpr fun hvalid => hnot ⟨hvalid, hpin, hnext, hport, hlane⟩
  have hroute : ∀ w : State, w.routes.entries = v.routes.entries → (w.route q).valid = false := fun w hw => by
    unfold State.route at hv ⊢; rw [hw]; exact hv
  unfold State.invalidateRoute
  extract_lets r
  rw [if_pos h]
  split
  · exact hroute _ (State.staleLink_routes _ _)
  · exact hv

/-- The neighbour's link becomes stale with its own entry. -/
theorem State.invalidateRoute_near_link (hs : s.Canonical) (h : (s.route pos).hops = 1) {n : Nat}
    (hlink : s.linkOf (s.route pos).port (s.route pos).lane (s.route pos).next = some n) : ((s.invalidateRoute pos).link n).state = .stale := by
  let u := s.clearRoute pos
  let v := u.each (u.dependents (s.route pos).next (s.route pos).port (s.route pos).lane) State.clearRoute
  have hlinks : v.routes.links = s.routes.links := (State.each_links State.clearRoute_links u).trans (s.clearRoute_links pos)
  have hfound : v.linkOf (s.route pos).port (s.route pos).lane (s.route pos).next = some n := (State.linkOf_congr hlinks _ _ _).trans hlink
  have hused : (v.link n).state ≠ .free := by rw [State.link_congr hlinks]; exact State.linkOf_used hs hlink
  have hstale : s.invalidateRoute pos = v.staleLink n := by
    unfold State.invalidateRoute
    extract_lets r
    rw [if_pos h, show v.linkOf r.port r.lane r.next = some n from hfound]
  rw [hstale]
  exact State.staleLink_link hused

theorem State.invalidateRoute_valid (hs : s.Canonical) (hpin : (s.route pos).pinned = false) : ((s.invalidateRoute pos).route pos).valid = false := by
  by_cases h : (s.route pos).hops = 1
  · exact State.invalidateRoute_near_route hs h rfl rfl rfl hpin
  · rw [State.invalidateRoute_far h, State.clearRoute_route]

theorem exec_routeAgeExpiry (hp : s.rst.powered = true) (hvalid : (s.route k).valid = true) (hpin : (s.route k).pinned = false)
    (hage : s.val 0x3210 1 ≤ (s.upTo t).routeAge (s.route k)) :
    exec (.routeAgeExpiry t k) s = .next (((s.upTo t).invalidateRoute k).bump 0x3220 2) :=
  (State.run_powered hp t _).trans (congrArg Host.Outcome.next (if_pos ⟨hvalid, hpin, hage⟩))

theorem exec_routeAgeExpiry_early (hp : s.rst.powered = true) (hage : (s.upTo t).routeAge (s.route k) < s.val 0x3210 1) :
    exec (.routeAgeExpiry t k) s = .next (s.upTo t) :=
  (State.run_powered hp t _).trans (congrArg Host.Outcome.next (if_neg fun hold => Nat.not_le.mpr hage hold.2.2))

/-! ## Links released -/

/-- An entry without the link that it names: a pinned one takes none, another is cleared. -/
def RouteEntry.unlinked (x : RouteEntry) : RouteEntry := if x.pinned then { x with link := noLink } else { sel := x.sel }

theorem RouteEntry.unlinked_unlinked (x : RouteEntry) : x.unlinked.unlinked = x.unlinked := by
  cases h : x.pinned <;> simp [RouteEntry.unlinked, h]

theorem State.mem_routesOfLink (hs : s.Canonical) {q : Nat} : q ∈ s.routesOfLink k ↔ (s.route q).valid = true ∧ (s.route q).link = k :=
  (Table.mem_keys_filter (d := ({} : RouteEntry)) (Table.rising_of_wf hs.routes) (fun e => e.valid && e.link == k) rfl).trans (by
      simp only [Bool.and_eq_true, beq_iff_eq]; rfl)

theorem State.releaseLink_route (s : State) (k q : Nat) :
    (s.releaseLink k).route q = if q ∈ s.routesOfLink k then (s.route q).unlinked else s.route q := by
  unfold State.releaseLink
  extract_lets _ _ u
  refine (State.each_read (read := State.route) (g := RouteEntry.unlinked) (fun v n => ?_) (fun v n q hq => ?_) RouteEntry.unlinked_unlinked
    u _ q).trans rfl
  · dsimp only
    unfold RouteEntry.unlinked
    split
    · unfold State.writeRoute; rw [State.touchEndpoint_route, State.route_setRoute_self]
    · exact v.clearRoute_route n
  · dsimp only
    split
    · unfold State.writeRoute; rw [State.touchEndpoint_route, State.route_setRoute_ne _ _ _ hq]
    · exact v.clearRoute_route_ne hq

theorem State.releaseLink_valid (hs : s.Canonical) (k q : Nat) :
    ((s.releaseLink k).route q).valid = ((s.route q).valid && !((s.route q).link == k && !(s.route q).pinned)) := by
  rw [State.releaseLink_route]
  by_cases hq : q ∈ s.routesOfLink k
  · obtain ⟨hvalid, hlink⟩ := (State.mem_routesOfLink hs).mp hq
    rw [if_pos hq, hvalid, hlink]
    cases hpin : (s.route q).pinned <;> simp [RouteEntry.unlinked, hpin, hvalid]
  · rw [if_neg hq]
    rw [State.mem_routesOfLink hs, not_and] at hq
    cases hvalid : (s.route q).valid with
    | false => rfl
    | true => simp [hq hvalid]

theorem exec_linkIdleRelease (hp : s.rst.powered = true) (hused : (s.link k).state ≠ .free)
    (hidle : (s.link k).lastRx + s.val 0x3210 1 * 1000000000 ≤ max s.tsc t) (hroutes : s.routesOfLink k = []) :
    exec (.linkIdleRelease t k) s = .next ((s.upTo t).releaseLink k) :=
  (State.run_powered hp t _).trans (congrArg Host.Outcome.next (if_pos ⟨hused, hidle, hroutes⟩))

theorem exec_linkRelease {w : Nat} (hp : s.rst.powered = true) (hused : (s.link k).state ≠ .free) :
    exec (.linkRelease t k w) s = .next ((s.upTo t).releaseBy k w) := by
  show execLinkRelease t k w s = _
  refine (State.run_powered hp t _).trans (congrArg Host.Outcome.next ?_)
  exact if_neg hused

theorem exec_linkOffsetWrite {w : Nat} {o : Byte} (hp : s.rst.powered = true) (hused : (s.link k).state ≠ .free) :
    exec (.linkOffsetWrite t k w o) s = .next ((s.upTo t).offsetBy k w o.toNat) := by
  show execLinkOffsetWrite t k w o s = _
  refine (State.run_powered hp t _).trans (congrArg Host.Outcome.next ?_)
  exact if_neg hused

/-! ## Repairs -/

variable {e : Nat} {r : Repair}

theorem State.endRepair_repairOf (s : State) (e sub : Nat) : (s.endRepair e sub).repairOf e = none := by
  show (s.routes.repairs.filter fun r => r.endpoint != e).find? (fun r => r.endpoint == e) = none
  exact List.find?_eq_none.mpr fun r hr => by simpa using (List.mem_filter.mp hr).2

/-- A repair replaced by one of the same endpoint is found in its place. -/
theorem find?_replaced {l : List Repair} {r r' : Repair} (h : l.find? (fun r => r.endpoint == e) = some r) (hr' : r'.endpoint = r.endpoint) :
    (l.map fun (x : Repair) => if x.endpoint = r.endpoint then r' else x).find? (fun r => r.endpoint == e) = some r' := by
  have hr : r.endpoint = e := by simpa using List.find?_some h
  have hcomp : (fun r : Repair => r.endpoint == e) ∘ (fun (x : Repair) => if x.endpoint = r.endpoint then r' else x) =
      fun r => r.endpoint == e := by
    funext x
    dsimp only [Function.comp]
    split
    · rename_i hx; rw [hr', hx]
    · rfl
  rw [List.find?_map, hcomp, h, Option.map_some, if_pos rfl]

/-- A repair whose next probe is out. -/
def State.probed (s : State) (r : Repair) : Repair :=
  { r with attempt := r.attempt + 1, probe := s.routes.nextProbe, sentAt := s.tsc, waiting := false }

/-- The probes of a beacon period with one more. -/
def Routes.probed (x : Routes) (r r' : Repair) : Routes :=
  { x with probes := x.probes + 1, nextProbe := (x.nextProbe + 1) % 65536,
           repairs := x.repairs.map fun (y : Repair) => if y.endpoint = r.endpoint then r' else y }

def State.probing (s : State) (r : Repair) : State := { s with routes := s.routes.probed r (s.probed r) }

theorem State.sendProbe_sends (h : s.routes.probes < s.val 0x3210 6) :
    ∃ w, Keeps [.lanes] (s.probing r) w ∧ s.sendProbe r = w.bump 0x3220 8 :=
  ⟨(s.probing r).each (s.probing r).probeLanes fun v pl => v.queueMesh pl.1 pl.2 (probeFrame r.endpoint s.routes.nextProbe),
    Keeps.each (.refl _ _) fun v pl => State.queueMesh_keeps (.refl _ v) _ _ _ (by decide), if_pos h⟩

theorem State.probing_keeps (s : State) (r : Repair) : Keeps [.routes] s (s.probing r) :=
  Keeps.record (.refl _ s) rfl rfl rfl rfl rfl rfl rfl rfl rfl rfl rfl rfl rfl rfl rfl rfl rfl rfl rfl

/-- The repairs with one that waits for the rate. -/
def Routes.delayed (x : Routes) (r : Repair) : Routes :=
  { x with repairs := x.repairs.map fun (y : Repair) => if y.endpoint = r.endpoint then { r with waiting := true } else y }

theorem exec_probeTimeout (hp : s.rst.powered = true) (hr : s.repairOf e = some r) (hrun : r.waiting = false)
    (hlate : r.sentAt + s.val 0x3210 5 * 1000000 ≤ max s.tsc t) : exec (.probeTimeout t e) s =
      .next (if r.attempt < s.val 0x3210 4 then (s.upTo t).sendProbe r else (s.upTo t).endRepair e 7) := by
  have hr' : (s.upTo t).repairOf e = some r := hr
  have hdue : r.waiting = false ∧ r.sentAt + (s.upTo t).val 0x3210 5 * 1000000 ≤ (s.upTo t).tsc := ⟨hrun, hlate⟩
  show execProbeTimeout t e s = _
  refine (State.run_powered hp t _).trans (congrArg Host.Outcome.next ?_)
  simp only [hr']
  exact if_pos hdue

/-! ## Relay queues -/

/-- The relay frames of a lane that still have time to start (R292). -/
def State.relaysInTime (s : State) (p l : Nat) : List RelayItem :=
  (s.lane p l).tx.relays.filter fun i => decide (s.beat < i.beat + s.val 0x3210 7)

/-- A lane without the relay frames that have waited their beats. -/
def State.relaysExpired (s : State) (p l : Nat) : State := s.setTx p l { (s.lane p l).tx with relays := s.relaysInTime p l }

theorem State.relaysExpired_tx (s : State) (p l : Nat) :
    (s.relaysExpired p l).lane p l = { s.lane p l with tx := { (s.lane p l).tx with relays := s.relaysInTime p l } } :=
  State.lane_setLane_self _ _ _ _

theorem State.relaysExpired_left (s : State) (p l : Nat) : ((s.relaysExpired p l).lane p l).tx.relays = s.relaysInTime p l ∧
    ((s.relaysExpired p l).lane p l).rx = (s.lane p l).rx ∧ ((s.relaysExpired p l).lane p l).tx.onLine = (s.lane p l).tx.onLine := by
  rw [State.relaysExpired_tx]; exact ⟨rfl, rfl, rfl⟩

theorem State.relaysExpired_lanes (s : State) (p l n : Nat) : Table.get ({} : Lane) (s.relaysExpired p l).lanes n =
    if n = 4 * p + l then (s.relaysExpired p l).lane p l else Table.get ({} : Lane) s.lanes n := by
  by_cases hn : n = 4 * p + l
  · rw [if_pos hn, hn]; rfl
  · rw [if_neg hn]; exact Table.get_put_ne _ _ hn

theorem defaultOf_relayDrops (v : Variant) : (defaultOf v (keyOf 0x3220 0x0A)).length = 4 := by cases v <;> decide

theorem exec_relayWaitExpiry {p l : Nat} (hp : s.rst.powered = true) : exec (.relayWaitExpiry t p l) s =
    .next (((s.upTo t).relaysExpired p l).bumpKey (keyOf 0x3220 0x0A)
      ((s.lane p l).tx.relays.length - ((s.upTo t).relaysInTime p l).length)) := by
  let late := fun (i : RelayItem) => decide (i.beat + (s.upTo t).val 0x3210 7 ≤ (s.upTo t).beat)
  have hinTime : (s.upTo t).relaysInTime p l = (s.lane p l).tx.relays.filter fun i => !late i := by
    refine List.filter_congr fun i _ => ?_
    exact decide_eq_decide.mpr Nat.not_le.symm |>.trans (decide_not ..)
  have hcount : (s.lane p l).tx.relays.length - ((s.upTo t).relaysInTime p l).length = ((s.lane p l).tx.relays.filter late).length := by
    rw [hinTime, List.length_eq_length_filter_add late, Nat.add_sub_cancel]
  show execRelayWaitExpiry t p l s = _
  refine (State.run_powered hp t _).trans (congrArg Host.Outcome.next ?_)
  rw [hcount]
  unfold State.relaysExpired
  rw [hinTime]
  rfl

end Timers

/-- Settles O22: each timer acts on its own entry, link, repair or queue where its time has come. -/
theorem routeAndLinkTimersComplete : Obligations.RouteAndLinkTimersComplete := by
  unfold Obligations.RouteAndLinkTimersComplete
  constructor
  · intro s t k ⟨hs, hp⟩
    have hs' := s.upTo_canonical t hs
    refine ⟨fun p l short eui hport hl hkind hrun h₁ h₂ hend => ?bootstrap, fun hvalid hpin hage => ?aged, fun hage => ?young,
      fun hused hidle hroutes => ?idle, fun w hused => ?release, fun w o hused => ?offset⟩
    case bootstrap =>
      refine ⟨_, exec_g9903Bootstrap hp hport hl hkind hrun h₁ h₂ hend, .of_keeps (State.setNode_keeps (Keeps.each (.refl _ _)
        fun v n => State.setNode_keeps (.refl _ v) n _ (by decide)) _ _ (by decide)) (by decide), State.node_setNode_self _ _ _, fun e he => ?_⟩
      rw [State.node_setNode_ne _ _ _ he, State.renamed_node hs']
      rfl
    case aged =>
      have hkeeps : Keeps [.routes] (s.upTo t) ((s.upTo t).invalidateRoute k) := State.invalidateRoute_keeps (.refl _ _) k (by decide)
      refine ⟨_, exec_routeAgeExpiry hp hvalid hpin hage, .of_keeps (State.bump_keeps (hkeeps.mono (by decide)) _ _ (by decide)) (by decide),
        State.invalidateRoute_valid hs' hpin, hkeeps.counted _ _, fun hfar => ?_, fun hnear => ⟨fun q hnext hport hlane hq => ?_, fun n hn => ?_⟩⟩
      · rw [State.invalidateRoute_far (s := s.upTo t) hfar]
        exact ⟨fun q hq => (s.upTo t).clearRoute_route_ne hq, State.link_congr ((s.upTo t).clearRoute_links k)⟩
      · exact State.invalidateRoute_near_route hs' hnear hnext hport hlane hq
      · exact State.invalidateRoute_near_link hs' hnear hn
    case young => exact Did.answer_upTo (exec_routeAgeExpiry_early hp hage)
    case idle =>
      refine ⟨_, exec_linkIdleRelease hp hused hidle hroutes, .of_keeps (State.releaseLink_keeps (.refl _ _) k (by decide)) (by decide),
        State.releaseLink_link _ k, fun n hn => State.releaseLink_link_ne _ hn, fun q => ?_⟩
      rw [State.releaseLink_route, if_neg (show q ∉ (s.upTo t).routesOfLink k by rw [show (s.upTo t).routesOfLink k = s.routesOfLink k from rfl]; rw [hroutes]; exact List.not_mem_nil)]
      rfl
    case release =>
      refine ⟨_, exec_linkRelease hp hused, .of_keeps (State.releaseBy_keeps (.refl _ _) k w (by decide)) (by decide), ?_, fun n hn => ?_,
        State.releaseLink_valid hs' k⟩
      · unfold State.releaseBy
        rw [State.link_setLink_self, State.releaseLink_link]
      · exact (State.link_setLink_ne _ _ _ hn).trans (State.releaseLink_link_ne _ hn)
    case offset =>
      exact ⟨_, exec_linkOffsetWrite hp hused, .of_keeps (State.setLink_keeps (.refl _ _) k _ (by decide)) (by decide),
        State.link_setLink_self _ _ _, fun n hn => State.link_setLink_ne _ _ _ hn, fun _ => rfl⟩
  · intro s t ⟨hs, hp⟩
    refine ⟨fun e r hr hrun hlate => ?_, fun p l => ?_⟩
    · have hexec := exec_probeTimeout hp hr hrun hlate
      have hr' : (s.upTo t).routes.repairs.find? (fun r => r.endpoint == e) = some r := hr
      refine ⟨fun hlast => ?_, fun hmore hrate => ?_, fun hmore hrate => ?_⟩
      · rw [if_neg (Nat.not_lt.mpr hlast)] at hexec
        have hcounted : Counted [keyOf 0x3220 7] (s.upTo t) ((s.upTo t).endRepair e 7) := State.counted_bump _ _ _
        exact ⟨_, hexec, .of_keeps (State.endRepair_keeps (.refl _ _) e 7 (by decide) (by decide)) (by decide),
          State.endRepair_repairOf _ _ _, hcounted⟩
      · obtain ⟨w, hw, heq⟩ := State.sendProbe_sends (s := s.upTo t) (r := r) hrate
        have hkeeps : Keeps [.routes, .lanes] (s.upTo t) w := ((State.probing_keeps _ r).mono (by decide)).trans (hw.mono (by decide))
        have hroutes : w.routes = (s.upTo t).routes.probed r ((s.upTo t).probed r) := hw.frame .routes (by decide)
        rw [if_pos hmore, heq] at hexec
        refine ⟨_, hexec, .of_keeps (State.bump_keeps (hkeeps.mono (by decide)) _ _ (by decide)) (by decide), ?_, ?_, hkeeps.counted _ _⟩
        · exact congrArg Routes.probes hroutes
        · exact (congrArg (fun x : Routes => x.repairs.find? fun r => r.endpoint == e) hroutes).trans (find?_replaced (r' := (s.upTo t).probed r) hr' rfl)
      · rw [if_pos hmore] at hexec
        have hwait : (s.upTo t).sendProbe r = { s.upTo t with routes := (s.upTo t).routes.delayed r } := if_neg (Nat.not_lt.mpr hrate)
        rw [hwait] at hexec
        refine ⟨_, hexec, .of_keeps (Keeps.record (.refl _ (s.upTo t)) rfl rfl rfl rfl rfl rfl rfl rfl rfl rfl rfl rfl rfl rfl rfl rfl rfl rfl rfl)
          (by decide), find?_replaced hr' rfl⟩
    · obtain ⟨hrelays, hrx, hline⟩ := (s.upTo t).relaysExpired_left p l
      refine ⟨_, exec_relayWaitExpiry hp, .of_keeps (State.bumpKey_keeps (State.setTx_keeps (.refl _ _) _ _ _ (by decide)) _ _ (by decide))
        (by decide), hrelays, hrx, hline, (s.upTo t).relaysExpired_lanes p l, ?_⟩
      refine (State.ofBE_raw_bumpKey_self _ _ _).trans ?_
      rw [defaultOf_relayDrops, State.bumpKey_lane, hrelays]
      rfl

end Sys2Proof.Machine
end

section
/-! Ports: what one port holds after an operation on it, and the start of a port (R107, R116, R122). -/

set_option Elab.async false

namespace Sys2Proof.Machine

section Ports

variable {ps : List Part} {s u v : State} {t p : Nat} {x y : Port}

/-! ## One port after an operation -/

/-- From `s` to `u` the port `p` has become `x`, and every other port stands. -/
def Ported (p : Nat) (x : Port) (s u : State) : Prop := u.port p = x ∧ ∀ q, q ≠ p → u.port q = s.port q

theorem Ported.refl (s : State) (p : Nat) : Ported p (s.port p) s s := ⟨rfl, fun _ _ => rfl⟩

theorem State.port_congr (h : v.ports = u.ports) (q : Nat) : v.port q = u.port q := by unfold State.port; rw [h]

/-- An operation that leaves the ports. -/
theorem Ported.keeps (h : Ported p x s u) (k : Keeps ps u v) (hps : Part.ports ∉ ps := by decide) : Ported p x s v :=
  ⟨(State.port_congr (k.frame .ports hps) p).trans h.1, fun q hq => (State.port_congr (k.frame .ports hps) q).trans (h.2 q hq)⟩

theorem Ported.trans (h : Ported p x s u) (k : Ported p y u v) : Ported p y s v := ⟨k.1, fun q hq => (k.2 q hq).trans (h.2 q hq)⟩

theorem Ported.setPort (h : Ported p x s u) (y : Port) : Ported p y s (u.setPort p y) :=
  ⟨State.port_setPort_self _ _ _, fun q hq => (State.port_setPort_ne u p y hq).trans (h.2 q hq)⟩

theorem Ported.updPort (h : Ported p x s u) (f : Port → Port) : Ported p (f x) s (u.updPort p f) := h.1 ▸ h.setPort _

theorem Ported.ite {c : Prop} [Decidable c] (hu : Ported p x s u) (hv : Ported p x s v) : Ported p x s (if c then u else v) := by
  split
  · exact hu
  · exact hv

theorem Ported.when {c : Bool} {f : State → State} (h : Ported p x s u) (hf : Ported p x s (f u)) : Ported p x s (u.when c f) := .ite hf h

/-- The command channel follows a port without touching it. -/
theorem Ported.followPort {f : State → State} (h : Ported p x s (f s)) : Ported p x s (s.followPort p f) := by
  unfold State.followPort
  extract_lets v
  exact .ite h (h.keeps (ps := [.out, .dict, .log, .routes, .cells, .trip]) (State.settleCommand_keeps (.refl _ v) (by decide) (by decide)
    (by decide) (by decide) (by decide) (by decide)))

theorem State.followPort_same {f : State → State} (h : (f s).running p = s.running p) : s.followPort p f = f s := if_pos h

/-- A command at a port of a running module. -/
theorem State.runPort_powered (hp : s.rst.powered = true) (hport : s.hasPort p = true) (t : Nat) (f : State → State) :
    s.runPort t p f = .next (f (s.upTo t)) := (State.run_powered hp t _).trans (congrArg Host.Outcome.next (if_pos hport))

/-! ## Mutes and relays -/

/-- A port whose DAC mutes are those given. -/
def Port.withMutes (x : Port) (m n : Option Nat) : Port := { x with mutedNb := m, mutedBb := n }

theorem Port.mute_eq (x : Port) (b : Band) (t : Nat) : ∃ m n, x.mute b t = x.withMutes m n := by
  unfold Port.mute
  split
  · exact ⟨_, _, rfl⟩
  · cases b
    · exact ⟨some t, x.mutedBb, rfl⟩
    · exact ⟨x.mutedNb, some t, rfl⟩

theorem Port.mutes_eq (x : Port) (t : Nat) : ∃ m n, (x.mute .nb t).mute .bb t = x.withMutes m n := by
  obtain ⟨m, n, h⟩ := x.mute_eq .nb t
  obtain ⟨m', n', h'⟩ := (x.mute .nb t).mute_eq .bb t
  exact ⟨m', n', h'.trans (by rw [h]; rfl)⟩

theorem Port.unmuted_eq (l : List Band) (x : Port) : ∃ m n, l.foldl (fun z b => z.setMuted b none) x = x.withMutes m n := by
  induction l generalizing x with
  | nil => exact ⟨_, _, rfl⟩
  | cons b l ih =>
    obtain ⟨m, n, h⟩ := ih (x.setMuted b none)
    refine ⟨m, n, h.trans ?_⟩
    cases b <;> rfl

/-- A port shut down, whose mutes and relays to be opened are some. -/
theorem Port.quiet_eq (x : Port) (t : Nat) : ∃ m n, x.quiet t =
    { x.withMutes m n with driver := false, opening := (x.quiet t).opening } := by
  obtain ⟨m, n, h⟩ := x.mutes_eq t
  refine ⟨m, n, ?_⟩
  unfold Port.quiet
  rw [h]

theorem Port.relay_setRelay_self (x : Port) (b : Band) (r : Relay) : (x.setRelay b r).relay b = r := by cases b <;> rfl

theorem Port.relay_setRelay_ne (x : Port) {b c : Band} (r : Relay) (h : c ≠ b) : (x.setRelay b r).relay c = x.relay c := by
  cases b <;> cases c <;> first | rfl | exact absurd rfl h

/-- A port with the relays given. -/
def Port.withRelays (x : Port) (r q : Relay) : Port := { x with relayNb := r, relayBb := q }

theorem Port.setRelay_eq (x : Port) (b : Band) (r : Relay) : ∃ r' q', x.setRelay b r = x.withRelays r' q' := by
  cases b
  · exact ⟨r, x.relayBb, rfl⟩
  · exact ⟨x.relayNb, r, rfl⟩

theorem Port.command_eq (x : Port) (b : Band) (c : Bool) (n : Nat) : ∃ r q, x.command b c n = x.withRelays r q := by
  unfold Port.command
  split
  · exact ⟨_, _, rfl⟩
  · exact x.setRelay_eq b _

theorem Port.command_self (x : Port) (b : Band) (c : Bool) (n : Nat) : ((x.command b c n).relay b).command = c := by
  unfold Port.command
  split
  · assumption
  · rw [Port.relay_setRelay_self]

theorem Port.command_closed (x : Port) {b c : Band} (n : Nat) (h : (x.relay b).command = true) :
    ((x.command c true n).relay b).command = true := by
  by_cases hb : b = c
  · exact hb ▸ x.command_self b true n
  · unfold Port.command
    split
    · exact h
    · rw [Port.relay_setRelay_ne _ _ hb]; exact h

theorem Port.commands_eq (l : List Band) (x : Port) (n : Nat) : ∃ r q, l.foldl (fun z b => z.command b true n) x = x.withRelays r q := by
  induction l generalizing x with
  | nil => exact ⟨_, _, rfl⟩
  | cons b l ih =>
    obtain ⟨r, q, h⟩ := ih (x.command b true n)
    obtain ⟨r', q', h'⟩ := x.command_eq b true n
    exact ⟨r, q, h.trans (by rw [h']; rfl)⟩

theorem Port.commands_closed {l : List Band} {b : Band} (h : b ∈ l) (x : Port) (n : Nat) :
    ((l.foldl (fun z b => z.command b true n) x).relay b).command = true := by
  have hkept : ∀ (l : List Band) (x : Port), (x.relay b).command = true →
      ((l.foldl (fun z b => z.command b true n) x).relay b).command = true := by
    intro l
    induction l with
    | nil => exact fun _ hx => hx
    | cons c l ih => exact fun x hx => ih _ (x.command_closed n hx)
  induction l generalizing x with
  | nil => exact absurd h List.not_mem_nil
  | cons c l ih =>
    rcases List.mem_cons.mp h with rfl | hl
    · exact hkept l _ (x.command_self b true n)
    · exact ih hl _

/-! ## Transitions -/

/-- A port in a state that it has entered at a step (R116). -/
def Port.entered (x : Port) (st : PortState) (step : PortStep) (beat : Nat) : Port :=
  { x with state := st, step := step, stateBeat := beat, stepBeat := beat, adding := if st = .running then x.adding else [],
           runBeat := if st = .running then beat else x.runBeat }

theorem State.enterPort_keeps_parts (s : State) (p : Nat) (st : PortState) (step : PortStep) :
    Keeps [.out, .dict, .echoes, .lanes, .spools, .pages, .routes] (s.setPort p ((s.port p).entered st step s.beat)) (s.enterPort p st step) := by
  unfold State.enterPort
  extract_lets x y u v w w' z
  have hu : Keeps [.out, .dict, .echoes, .lanes, .spools, .pages, .routes] u u := .refl _ _
  have hv : Keeps [.out, .dict, .echoes, .lanes, .spools, .pages, .routes] u v := .ite (State.touchPort_keeps hu p (by decide)) hu
  have hw : Keeps [.out, .dict, .echoes, .lanes, .spools, .pages, .routes] u w :=
    .ite (State.broadcastsLeave_keeps hv p (by decide) (by decide) (by decide)) hv
  have hw' : Keeps [.out, .dict, .echoes, .lanes, .spools, .pages, .routes] u w' :=
    .ite (State.liftGroups_keeps hw p (by decide) (by decide)) hw
  have hz : Keeps [.out, .dict, .echoes, .lanes, .spools, .pages, .routes] u z :=
    .ite (State.echoOff_keeps (State.echoOff_keeps hw' p .nb (by decide) (by decide)) p .bb (by decide) (by decide)) hw'
  exact State.settlePortRx_keeps hz p (by decide) (by decide)

theorem Ported.enterPort (h : Ported p x s u) (st : PortState) (step : PortStep) :
    Ported p (x.entered st step u.beat) s (u.enterPort p st step) := by
  have hset := h.setPort ((u.port p).entered st step u.beat)
  rw [h.1] at hset
  exact hset.keeps (h.1 ▸ u.enterPort_keeps_parts p st step)

theorem Ported.quietPort (h : Ported p x s u) : Ported p (x.quiet u.tsc) s (u.quietPort p) := h.updPort _

theorem Ported.cutLanes (h : Ported p x s u) : Ported p x s (u.cutLanes p) :=
  h.keeps (ps := [.out, .lanes, .spools, .pages]) (State.cutLanes_keeps (.refl _ u) p (by decide) (by decide) (by decide) (by decide))

theorem Ported.cutCommand (h : Ported p x s u) : Ported p x s (u.cutCommand p) :=
  h.keeps (ps := [.out, .dict, .cells]) (State.cutCommand_keeps (.refl _ u) p (by decide) (by decide) (by decide))

theorem Port.dropBias_eq (x : Port) : ∃ b, x.dropBias = { x with bias := b } := by
  unfold Port.dropBias
  split
  · exact ⟨_, rfl⟩
  · exact ⟨x.bias, rfl⟩

/-- A start abandoned leaves the driver shut down in the state named. -/
theorem Ported.abandonPort (h : Ported p x s u) (st : PortState) : Ported p (((x.quiet u.tsc).entered st .bias u.beat).dropBias) s
    (u.abandonPort p st) := (h.quietPort.enterPort st .bias).updPort _

/-- A port whose training begins. -/
def Port.training (x : Port) (l : List Band) (beat : Nat) : Port :=
  { l.foldl (fun z b => z.setMuted b none) x with step := .training, stepBeat := beat }

theorem Ported.trainIfClosed (h : Ported p x s u) : Ported p x s (u.trainIfClosed p) ∨
    Ported p (x.training (u.portBands p) u.beat) s (u.trainIfClosed p) := by
  unfold State.trainIfClosed
  extract_lets x' bands
  split
  · right
    have hw : Ported p (x.training bands u.beat) s (u.updPort p fun y => y.training bands u.beat) := h.updPort _
    exact hw.keeps (ps := [.echoes, .lanes]) (Keeps.each (.refl _ _) fun v b => State.echoTrain_keeps (.refl _ v) p b (by decide) (by decide))
  · exact .inl h

/-- A port at its relay step. -/
def Port.atRelays (x : Port) (beat : Nat) : Port := { x with step := .relays, stepBeat := beat }

/-- The relay step from the state that it is taken in (R116, R122). -/
def Port.relayed (x : Port) (l : List Band) (beat : Nat) : Port :=
  { l.foldl (fun z b => z.command b true beat) (x.atRelays beat) with
    bias := true, driver := true, opening := x.opening.filter fun (b : Band) => !l.contains b }

theorem Ported.relayStep (h : Ported p x s u) : Ported p (x.relayed (u.portBands p) u.beat) s (u.relayStep p x.state) ∨
    Ported p ((x.relayed (u.portBands p) u.beat).training (u.portBands p) u.beat) s (u.relayStep p x.state) := by
  unfold State.relayStep
  rw [h.1, if_pos rfl]
  extract_lets w v
  have hw : Ported p (x.atRelays u.beat) s w := h.updPort _
  have hv : Ported p (x.relayed (u.portBands p) u.beat) s v := hw.updPort _
  exact hv.trainIfClosed

/-- What the relay step leaves: driver and bias on, the relays of the bands in use commanded closed. -/
structure Port.Driving (x : Port) (l : List Band) (y : Port) : Prop where
  state : y.state = x.state
  step : y.step = .relays ∨ y.step = .training
  driver : y.driver = true
  bias : y.bias = true
  relays : ∀ b ∈ l, (y.relay b).command = true

theorem Port.relayed_driving (x : Port) (l : List Band) (beat : Nat) : x.Driving l (x.relayed l beat) := by
  obtain ⟨r, q, h⟩ := Port.commands_eq l (x.atRelays beat) beat
  have hclosed : ∀ b ∈ l, ((l.foldl (fun (z : Port) b => z.command b true beat) (x.atRelays beat)).relay b).command = true :=
    fun b hb => Port.commands_closed hb _ _
  unfold Port.relayed
  rw [h] at hclosed ⊢
  exact ⟨rfl, .inl rfl, rfl, rfl, fun b hb => (by cases b <;> rfl : _ = _).trans (hclosed b hb)⟩

theorem Port.Driving.training {l : List Band} (h : x.Driving l y) (l' : List Band) (beat : Nat) : x.Driving l (y.training l' beat) := by
  obtain ⟨m, n, hm⟩ := Port.unmuted_eq l' y
  unfold Port.training
  rw [hm]
  exact ⟨h.state, .inr rfl, h.driver, h.bias, fun b hb => (by cases b <;> rfl : _ = _).trans (h.relays b hb)⟩

/-- The relay step drives the port. -/
theorem Ported.relayStep_driving (h : Ported p x s u) : ∃ y, Ported p y s (u.relayStep p x.state) ∧ x.Driving (u.portBands p) y := by
  rcases h.relayStep with hy | hy
  · exact ⟨_, hy, x.relayed_driving _ _⟩
  · exact ⟨_, hy, (x.relayed_driving _ _).training _ _⟩

/-! ## Faults -/

/-- A port in FAULT with its cause (R116, R118). -/
def Port.faulted (x : Port) (cause tsc beat : Nat) : Port :=
  { (x.quiet tsc).entered .fault .bias beat with cause := cause, causeActive := cause == 1 || cause == 2, faultNext := 0 }

/-- The driver of a port in FAULT is shut down; what its sensor read stands. -/
theorem Port.faulted_down (x : Port) (cause tsc beat : Nat) : (x.faulted cause tsc beat).state = .fault ∧
    (x.faulted cause tsc beat).cause = cause ∧ (x.faulted cause tsc beat).causeActive = (cause == 1 || cause == 2) ∧
    (x.faulted cause tsc beat).driver = false ∧ (x.faulted cause tsc beat).temp = x.temp := by
  obtain ⟨m, n, h⟩ := x.quiet_eq tsc
  unfold Port.faulted
  rw [h]
  exact ⟨rfl, rfl, rfl, rfl, rfl⟩

theorem Ported.enterFault (h : Ported p x s u) (cause : Nat) : Ported p (x.faulted cause u.tsc u.beat) s (u.enterFault p cause) := by
  have hcut : Keeps [.out, .dict, .lanes, .spools, .pages, .cells] u ((u.cutLanes p).cutCommand p) :=
    State.cutCommand_keeps (State.cutLanes_keeps (.refl _ u) p (by decide) (by decide) (by decide) (by decide)) p (by decide) (by decide)
      (by decide)
  have htsc : ((u.cutLanes p).cutCommand p).tsc = u.tsc := hcut.frame .tsc (by decide)
  have hbeat : ((u.cutLanes p).cutCommand p).beat = u.beat := congrArg (· / 40000) htsc
  unfold State.enterFault
  extract_lets a b c
  have ha : Ported p (x.quiet u.tsc) s a := htsc ▸ h.cutLanes.cutCommand.quietPort
  have habeat : a.beat = u.beat := hbeat
  have hb : Ported p (x.faulted cause u.tsc u.beat) s b := habeat ▸ (ha.enterPort .fault .bias).updPort _
  have hc : Ported p (x.faulted cause u.tsc u.beat) s c := hb.keeps (ps := [.dict, .log]) (State.event_keeps (State.pbump_keeps
    (State.storeNat_keeps (.refl _ b) _ _ (by decide)) _ _ _ (by decide)) _ _ _ _ (by decide))
  exact .ite (hc.keeps (ps := [.dict]) (State.pbump_keeps (.refl _ c) _ _ _ (by decide))) hc

theorem Ported.escalate (h : Ported p x s u) (src : Nat) : Ported p x s (u.escalate src) :=
  h.keeps (ps := [.hier, .sup]) (State.escalate_keeps (.refl _ u) src (by decide) (by decide))

theorem Ported.pbump (h : Ported p x s u) (q i j : Nat) : Ported p x s (u.pbump q i j) :=
  h.keeps (ps := [.dict]) (State.pbump_keeps (.refl _ u) q i j (by decide))

/-- The end of a substitution leaves the port but for the AFE that its effective values follow. -/
theorem Ported.swapDone (h : Ported p x s u) : ∃ n, Ported p { x with calAfe := n } s (u.swapDone p) := by
  unfold State.swapDone
  split
  · rename_i q _
    have hend : Ported p x s (u.endSwap q true) := h.keeps (ps := [.log, .rst, .sup]) (State.endSwap_keeps (.refl _ u) q true
      (by decide) (by decide) (by decide))
    exact ⟨_, (hend.pbump p 0x201F 0x0C).updPort fun y => { y with calAfe := y.ballastAfe }⟩
  · exact ⟨x.calAfe, h⟩

/-- A cause of a working port puts it into FAULT (R116, R118). -/
theorem Ported.portFault (h : Ported p x s u) (hup : u.portUp p = true) (hstate : x.state = .starting ∨ x.state = .running ∨ x.state = .stopping)
    (cause : Nat) : Ported p (x.faulted cause u.tsc u.beat) s (u.portFault p cause) := by
  have hworking : (u.port p).state = .starting ∨ (u.port p).state = .running ∨ (u.port p).state = .stopping := h.1.symm ▸ hstate
  have hstill : ¬ (u.port p).state = .swapping := by rcases hworking with h | h | h <;> rw [h] <;> decide
  unfold State.portFault
  extract_lets y moved v w
  have hw : w = u.enterFault p cause :=
    (if_neg (by rw [hup]; decide)).trans ((if_neg hstill).trans (if_pos hworking))
  rw [hw]
  exact .ite ((h.enterFault cause).escalate _) (.ite ((h.enterFault cause).escalate _) (h.enterFault cause))

/-- In a substitution, but at its matrix, a cause puts the port into FAULT too; before that the substitution ends. -/
theorem Ported.portFault_swapping (h : Ported p x s u) (hup : u.portUp p = true) (hstate : x.state = .swapping) (hstep : x.step ≠ .matrix)
    (cause : Nat) : ∃ n tsc beat, Ported p ({ x with calAfe := n }.faulted cause tsc beat) s (u.portFault p cause) := by
  unfold State.portFault
  extract_lets y moved v w
  have hy : y = x := h.1
  have hw : w = v.enterFault p cause :=
    (if_neg (by rw [hup]; decide)).trans ((if_pos (hy.symm ▸ hstate)).trans (if_neg (hy.symm ▸ hstep)))
  have hv : ∃ n, Ported p { x with calAfe := n } s v := by
    show ∃ n, Ported p { x with calAfe := n } s (match u.swapOf p with | some q => _ | none => u)
    split
    · split
      · exact h.swapDone
      · exact ⟨x.calAfe, h.keeps (ps := [.log, .rst, .sup]) (State.endSwap_keeps (.refl _ u) _ _ (by decide) (by decide) (by decide))⟩
    · exact ⟨x.calAfe, h⟩
  obtain ⟨n, hn⟩ := hv
  have hf := hn.enterFault cause
  rw [hw]
  exact ⟨n, v.tsc, v.beat, .ite (hf.escalate _) (.ite (hf.escalate _) hf)⟩

/-- A port shut down whose fault waits for the matrix to make. -/
def Port.faultWaits (x : Port) (cause tsc : Nat) : Port := { x.quiet tsc with faultNext := cause }

/-- At the matrix of a substitution a cause shuts the port down and waits for the matrix (R117). -/
theorem Ported.portFault_matrix (h : Ported p x s u) (hup : u.portUp p = true) (hstate : x.state = .swapping) (hstep : x.step = .matrix)
    (cause : Nat) : Ported p (x.faultWaits cause u.tsc) s (u.portFault p cause) := by
  have htsc : ((u.cutLanes p).cutCommand p).tsc = u.tsc :=
    (State.cutCommand_keeps (ps := [.out, .dict, .lanes, .spools, .pages, .cells]) (State.cutLanes_keeps (.refl _ u) p (by decide) (by decide)
      (by decide) (by decide)) p (by decide) (by decide) (by decide)).frame .tsc (by decide)
  unfold State.portFault
  extract_lets y moved v w
  have hy : y = x := h.1
  have hw : Ported p (x.faultWaits cause u.tsc) s w := by
    have heq : w = (((u.cutLanes p).cutCommand p).quietPort p).updPort p fun y => { y with faultNext := cause } :=
      (if_neg (by rw [hup]; decide)).trans ((if_pos (hy.symm ▸ hstate)).trans (if_pos (hy.symm ▸ hstep)))
    rw [heq, ← htsc]
    exact h.cutLanes.cutCommand.quietPort.updPort _
  exact .ite (hw.escalate _) (.ite (hw.escalate _) hw)

end Ports

end Sys2Proof.Machine
end

section
/-! The start of a port (R107, R116, R122). -/

set_option Elab.async false

namespace Sys2Proof.Machine

section PortStart

variable {s : State} {t p : Nat}

/-- A port whose state stays is running as before. -/
theorem State.updPort_running {f : Port → Port} (h : (f (s.port p)).state = (s.port p).state) : (s.updPort p f).running p = s.running p := by
  unfold State.running State.updPort
  rw [State.port_setPort_self, h]

/-- An operation under the command channel's eye that neither starts nor ends a running port. -/
theorem exec_followPort {c : Instr} {f : State → State} (hp : s.rst.powered = true) (hport : s.hasPort p = true)
    (hexec : exec c s = s.runPort t p fun u => u.followPort p f) : exec c s = .next ((s.upTo t).followPort p f) :=
  hexec.trans (State.runPort_powered hp hport t _)

/-- Where the operation does nothing, nothing happens. -/
theorem Did.followPort_idle {c : Instr} {f : State → State} (h : exec c s = .next ((s.upTo t).followPort p f)) (hf : f (s.upTo t) = s.upTo t) :
    ∃ u, exec c s = .next u ∧ Did t [] s u := by
  have hsame : (s.upTo t).followPort p f = s.upTo t := by
    rw [State.followPort_same (by rw [hf]), hf]
  exact Did.answer_upTo (h.trans (congrArg _ hsame))

/-- What PORT_START_DELAY does at its port. -/
def State.biasOver (s : State) (p : Nat) : State :=
  if (s.port p).state = .starting ∧ (s.port p).step = .bias ∧ (s.port p).stepBeat + 25 ≤ s.beat ∧ (s.port p).moving = false then
    s.updPort p fun y => { y with step := .loopback, stepBeat := s.beat }
  else s

theorem exec_portStartDelay (hp : s.rst.powered = true) (hport : s.hasPort p = true) :
    exec (.portStartDelay t p) s = .next ((s.upTo t).followPort p fun u => u.biasOver p) := exec_followPort hp hport rfl

/-- A port whose calibration is made. -/
def Port.calibrated (x : Port) : Port := { x with calibrate := false }

/-- What LOOPBACK_DONE does at its port. -/
def State.loopbackOver (s : State) (p : Nat) (a d : Int) : State :=
  if (s.port p).step = .loopback ∧ ((s.port p).state = .starting ∨ (s.port p).state = .swapping) ∧ (s.port p).stepBeat + 50 ≤ s.beat ∧
      (s.port p).moving = false then
    let u := s.updPort p Port.calibrated
    if 2048 < a.natAbs ∨ 20 < d.natAbs then u.portFault p 4
    else if (s.port p).state = .starting then
      if u.portStopped p then u.abandonPort p .stopped else u.relayStep p .starting
    else if !u.portEnabled p then (u.swapDone p).abandonPort p .off
    else if u.portStopped p then (u.swapDone p).abandonPort p .stopped
    else u.relayStep p .swapping
  else s

theorem exec_loopbackDone {a d : Int} (hp : s.rst.powered = true) (hport : s.hasPort p = true) :
    exec (.loopbackDone t p a d) s = .next ((s.upTo t).followPort p fun u => u.loopbackOver p a d) := exec_followPort hp hport rfl

/-- An abandoned start stands in the state named with the driver shut down. -/
theorem Port.abandoned_down (x : Port) (st : PortState) (tsc beat : Nat) :
    ((x.quiet tsc).entered st .bias beat).dropBias.state = st ∧ ((x.quiet tsc).entered st .bias beat).dropBias.driver = false := by
  obtain ⟨m, n, h⟩ := x.quiet_eq tsc
  obtain ⟨b, hb⟩ := ((x.quiet tsc).entered st .bias beat).dropBias_eq
  rw [hb, h]
  exact ⟨rfl, rfl⟩

end PortStart

/-- Settles O23: each step of the start is the operation of its state, and the port is what that operation leaves. -/
theorem portStartCompletes : Obligations.PortStartCompletes := by
  unfold Obligations.PortStartCompletes
  intro s t p ⟨hs, hp⟩ hport hstate hmoving
  have hcal : Ported p (s.port p).calibrated s ((s.upTo t).updPort p Port.calibrated) :=
    Ported.updPort (u := s.upTo t) (Ported.refl s p) Port.calibrated
  refine ⟨fun hstep hdue => ?_, fun hstep hearly => ?_, fun a d hstep hdue => ⟨fun ha hd hrun => ?_, fun ha hd hstop => ?_, fun hbad hup => ?_⟩,
    fun a d hstep hearly => ?_⟩
  · have hdone : (s.upTo t).biasOver p = (s.upTo t).updPort p fun y => { y with step := .loopback, stepBeat := (s.upTo t).beat } :=
      if_pos ⟨hstate, hstep, hdue, hmoving⟩
    have hsame : (s.upTo t).followPort p (fun u => u.biasOver p) = (s.upTo t).biasOver p :=
      State.followPort_same (by rw [hdone]; exact State.updPort_running rfl)
    have hported := Ported.updPort (u := s.upTo t) (Ported.refl s p) fun y => { y with step := .loopback, stepBeat := (s.upTo t).beat }
    exact ⟨_, (exec_portStartDelay hp hport).trans (congrArg _ (hsame.trans hdone)),
      .of_keeps (State.updPort_keeps (.refl _ _) p _ (by decide)) (by decide), hported.2, hported.1⟩
  · exact Did.followPort_idle (exec_portStartDelay hp hport) (if_neg fun h => absurd hearly (Nat.not_lt.mpr h.2.2.1))
  · have hdone : (s.upTo t).loopbackOver p a d = ((s.upTo t).updPort p Port.calibrated).relayStep p .starting :=
      (if_pos ⟨hstep, .inl hstate, hdue, hmoving⟩).trans ((if_neg (by omega)).trans ((if_pos hstate).trans (if_neg (by
        rw [show ((s.upTo t).updPort p Port.calibrated).portStopped p = s.portStopped p from rfl, hrun]; decide))))
    have hstarting : (s.port p).calibrated.state = .starting := hstate
    obtain ⟨y, hy, hdriving⟩ := hcal.relayStep_driving
    rw [hstarting, ← hdone] at hy
    obtain ⟨hported, hother⟩ := hy.followPort (f := fun u => u.loopbackOver p a d)
    refine ⟨_, exec_loopbackDone hp hport, hother, ?_⟩
    rw [hported]
    exact ⟨hdriving.state.trans hstate, hdriving.step, hdriving.driver, hdriving.bias, hdriving.relays⟩
  · have hdone : (s.upTo t).loopbackOver p a d = ((s.upTo t).updPort p Port.calibrated).abandonPort p .stopped :=
      (if_pos ⟨hstep, .inl hstate, hdue, hmoving⟩).trans ((if_neg (by omega)).trans ((if_pos hstate).trans (if_pos hstop)))
    have hy := hcal.abandonPort .stopped
    rw [← hdone] at hy
    obtain ⟨hported, hother⟩ := hy.followPort (f := fun u => u.loopbackOver p a d)
    refine ⟨_, exec_loopbackDone hp hport, hother, ?_⟩
    rw [hported]
    exact Port.abandoned_down _ _ _ _
  · have hdone : (s.upTo t).loopbackOver p a d = ((s.upTo t).updPort p Port.calibrated).portFault p 4 :=
      (if_pos ⟨hstep, .inl hstate, hdue, hmoving⟩).trans (if_pos hbad)
    have hy := hcal.portFault hup (.inl hstate) 4
    rw [← hdone] at hy
    obtain ⟨hported, hother⟩ := hy.followPort (f := fun u => u.loopbackOver p a d)
    refine ⟨_, exec_loopbackDone hp hport, hother, ?_⟩
    rw [hported]
    obtain ⟨hfault, hcause, -, hdriver, -⟩ := Port.faulted_down (s.port p).calibrated 4 ((s.upTo t).updPort p Port.calibrated).tsc
      ((s.upTo t).updPort p Port.calibrated).beat
    exact ⟨hfault, hcause, hdriver⟩
  · exact Did.followPort_idle (exec_loopbackDone hp hport) (if_neg fun h => absurd hearly (Nat.not_lt.mpr h.2.2.1))

end Sys2Proof.Machine
end

section
/-! Contact sense of the relays and of the ballast matrix (R117, R118, R122, R123). -/

set_option Elab.async false

namespace Sys2Proof.Machine

section ContactSense

variable {ps : List Part} {s u : State} {t p : Nat} {x : Port} {b : Band} {c : Bool}

theorem Keeps.portUp (h : Keeps ps s u) (p : Nat) (hps : Part.hier ∉ ps := by decide) : u.portUp p = s.portUp p := by
  unfold State.portUp State.block
  rw [h.frame .hier hps]

/-- A counter after an operation that leaves the dictionary counts from what it stood at. -/
theorem Keeps.countedKey (h : Keeps ps s u) (k : Nat) (hps : Part.dict ∉ ps := by decide) : Counted [k] s (u.bumpKey k 1) := by
  obtain ⟨hother, hcount⟩ := u.counted_bumpKey k
  refine ⟨fun j hj => (hother j hj).trans (h.raw j hps), fun j hj => ?_⟩
  rw [hcount j hj, h.variant, h.raw j hps]

/-! ## A band relay -/

/-- A port whose band relay reads `c`. -/
def Port.sensed (x : Port) (b : Band) (c : Bool) : Port := (x.setRelay b { x.relay b with sense := c }).dropBias

theorem Port.sensed_relay (x : Port) (b : Band) (c : Bool) : (x.sensed b c).relay b = { x.relay b with sense := c } := by
  obtain ⟨d, hd⟩ := (x.setRelay b { x.relay b with sense := c }).dropBias_eq
  unfold Port.sensed
  rw [hd]
  cases b <;> rfl

theorem Port.sensed_state (x : Port) (b : Band) (c : Bool) : (x.sensed b c).state = x.state := by
  obtain ⟨d, hd⟩ := (x.setRelay b { x.relay b with sense := c }).dropBias_eq
  unfold Port.sensed
  rw [hd]
  cases b <;> rfl

/-- The reading is kept and counted, and the relay wears. -/
def State.senseNoted (s : State) (p : Nat) (b : Band) (c : Bool) : State :=
  ((s.updPort p fun y => y.sensed b c).pbump p 0x201F 1).relayWear 0x6043 (s.afeOf p + 1) (if b = .nb then 128 else 129)
    (((s.port p).relay b).command == c)

theorem State.senseNoted_keeps (s : State) (p : Nat) (b : Band) (c : Bool) :
    Keeps [.sup] ((s.updPort p fun y => y.sensed b c).pbump p 0x201F 1) (s.senseNoted p b c) :=
  State.relayWear_keeps (.refl _ _) _ _ _ _ (by decide)

theorem Ported.senseNoted (h : Ported p x s u) : Ported p (x.sensed b c) s (u.senseNoted p b c) :=
  ((h.updPort _).pbump p 0x201F 1).keeps (u.senseNoted_keeps p b c)

/-- A contact of a running port that comes to disagree with its command is a fault. -/
theorem State.bandSense_fault (hsense : ((s.port p).relay b).sense = !c) (hcommand : ((s.port p).relay b).command = !c)
    (hstate : (s.port p).state = .running) : s.bandSense p b c = (s.senseNoted p b c).portFault p 5 := by
  unfold State.bandSense
  extract_lets x u v
  have hx : x = s.port p := rfl
  rw [if_neg (by rw [hx, hsense]; cases c <;> decide)]
  exact if_pos ⟨hstate, by rw [hx, hcommand]; cases c <;> decide⟩

theorem State.bandSense_same (h : ((s.port p).relay b).sense = c) : s.bandSense p b c = s := if_pos h

/-- Of a port at rest the reading is all that changes, but for a matrix that may move now. -/
theorem State.bandSense_rest (hsense : ((s.port p).relay b).sense = !c)
    (hstate : (s.port p).state = .off ∨ (s.port p).state = .stopped ∨ (s.port p).state = .fault) :
    s.bandSense p b c = (if c then s.senseNoted p b c else (s.senseNoted p b c).echoOff p b).matrixIdle p := by
  let w := if c then s.senseNoted p b c else (s.senseNoted p b c).echoOff p b
  have hnoted : Ported p ((s.port p).sensed b c) s (s.senseNoted p b c) := (Ported.refl s p).senseNoted
  have hw : Ported p ((s.port p).sensed b c) s w :=
    .ite hnoted (hnoted.keeps (ps := [.echoes, .lanes]) (State.echoOff_keeps (.refl _ _) p b (by decide) (by decide)))
  have hwstate : (w.port p).state = (s.port p).state := by rw [hw.1, Port.sensed_state]
  have hidle : ∀ st, st = PortState.running ∨ st = .starting ∨ st = .swapping → (w.port p).state ≠ st := by
    rw [hwstate]
    rintro st hst hold
    rcases hstate with h | h | h <;> rw [h] at hold <;> subst hold <;> simp at hst
  have hclosed : w.bandClosed p b = w := if_neg fun h => hidle _ (.inl rfl) h.1
  have htrain : w.trainIfClosed p = w := if_neg fun h => h.1.elim (hidle _ (.inr (.inl rfl))) (hidle _ (.inr (.inr rfl)))
  have hmatrix : w.matrixStep p = w.matrixIdle p := if_neg fun h => hidle _ (.inr (.inr rfl)) h.1
  have hrun : (s.port p).state ≠ .running := hwstate ▸ hidle _ (.inl rfl)
  unfold State.bandSense
  extract_lets x u v
  have hx : x = s.port p := rfl
  rw [if_neg (by rw [hx, hsense]; cases c <;> decide), if_neg fun h => hrun h.1]
  show ((w.bandClosed p b).trainIfClosed p).matrixStep p = w.matrixIdle p
  rw [hclosed, htrain, hmatrix]

theorem Ported.matrixIdle (h : Ported p x s u) : ∃ due m, Ported p { x with matrixDue := due, matrix := m } s (u.matrixIdle p) := by
  unfold State.matrixIdle
  split
  · exact ⟨_, _, h.updPort _⟩
  · exact ⟨x.matrixDue, x.matrix, h⟩

theorem exec_bandSense (hp : s.rst.powered = true) (hport : s.hasPort p = true) :
    exec (.relayContactSense t p (.band b) c) s = .next ((s.upTo t).followPort p fun u => u.bandSense p b c) := exec_followPort hp hport rfl

/-! ## The matrix -/

/-- A port whose matrix reads `c`. -/
def Port.matrixSensed (x : Port) (c : Bool) : Port := { x with matrix := { x.matrix with sense := c } }

/-- The matrix's reading is kept, and the matrix wears as it answers its command. -/
def State.matrixNoted (s : State) (p : Nat) (c : Bool) : State :=
  (s.updPort p fun y => y.matrixSensed c).relayWear 0x6043 (p + 1) 130 ((s.port p).matrix.command == c)

theorem Ported.matrixNoted (h : Ported p x s u) : Ported p (x.matrixSensed c) s (u.matrixNoted p c) :=
  (h.updPort _).keeps (ps := [.sup]) (State.relayWear_keeps (.refl _ _) _ _ _ _ (by decide))

theorem State.matrixNoted_keeps (s : State) (p : Nat) (c : Bool) : Keeps [.ports, .sup] s (s.matrixNoted p c) :=
  State.relayWear_keeps (State.updPort_keeps (.refl _ s) p _ (by decide)) _ _ _ _ (by decide)

theorem State.matrixSense_same (h : (s.port p).matrix.sense = c) : s.matrixSense p c = s := if_pos h

theorem State.matrixSense_changed (hsense : (s.port p).matrix.sense = !c) : s.matrixSense p c =
    if (s.port p).matrix.command = c then (s.matrixNoted p c).matrixMade p
    else if (s.port p).state = .running then (s.matrixNoted p c).portFault p 5 else s.matrixNoted p c := by
  unfold State.matrixSense
  extract_lets x u
  have hx : x = s.port p := rfl
  exact if_neg (by rw [hx, hsense]; cases c <;> decide)

/-- The port stands on its other AFE as the matrix makes; in a substitution without a fault it calibrates next. -/
theorem Ported.matrixMade (h : Ported p x s u) (hfault : x.state ≠ .swapping ∨ x.faultNext = 0) :
    ∃ y, Ported p y s (u.matrixMade p) ∧ y.ballastAfe = x.swapTo ∧
      (x.state = .swapping → Keeps [.ports] u (u.matrixMade p) ∧ y.state = .swapping ∧ y.step = .loopback) := by
  unfold State.matrixMade
  extract_lets x' w v
  have hx : x' = x := h.1
  have hw : Ported p { x with ballastAfe := x.swapTo } s w := h.updPort _
  split
  case isTrue hswap =>
    rw [hx] at hswap
    rw [if_neg (not_not_intro (hx ▸ hfault.resolve_left (not_not_intro hswap)))]
    refine ⟨_, hw.updPort _, rfl, fun _ => ⟨?_, hswap, rfl⟩⟩
    exact State.updPort_keeps (State.updPort_keeps (.refl _ u) p _ (by decide)) p _ (by decide)
  case isFalse hswap =>
    rw [hx] at hswap
    obtain ⟨n, hn⟩ := hw.swapDone
    have hv : Ported p _ s v := hn.updPort _
    split
    · exact ⟨_, hv.updPort _, rfl, fun h => absurd h hswap⟩
    · exact ⟨_, hv, rfl, fun h => absurd h hswap⟩

theorem exec_matrixSense (hp : s.rst.powered = true) (hport : s.hasPort p = true) :
    exec (.relayContactSense t p .matrix c) s = .next ((s.upTo t).followPort p fun u => u.matrixSense p c) := exec_followPort hp hport rfl

/-! ## Sense that is late -/

/-- A port whose disagreement is timed anew. -/
def Port.retimed (x : Port) (beat : Nat) : Port :=
  { x with relayNb := { x.relayNb with beat := beat }, relayBb := { x.relayBb with beat := beat }, matrix := { x.matrix with beat := beat } }

/-- What RELAY_SENSE_TIMEOUT does at its port. -/
def State.senseOver (s : State) (p : Nat) : State :=
  if s.portUp p ∧ s.senseLate p then (s.updPort p fun x => x.retimed s.beat).portFault p 5 else s

theorem State.senseOver_late (hup : s.portUp p = true) (hlate : s.senseLate p = true) :
    s.senseOver p = (s.updPort p fun x => x.retimed s.beat).portFault p 5 := if_pos ⟨hup, hlate⟩

theorem exec_relaySenseTimeout (hp : s.rst.powered = true) (hport : s.hasPort p = true) :
    exec (.relaySenseTimeout t p) s = .next ((s.upTo t).followPort p fun u => u.senseOver p) := exec_followPort hp hport rfl

/-- A fault under the command channel's eye. -/
theorem Ported.followPort_faulted {f : State → State} {cause tsc beat : Nat} (h : Ported p (x.faulted cause tsc beat) s (f s)) :
    ((s.followPort p f).port p).state = .fault ∧ ((s.followPort p f).port p).cause = cause ∧
      ((s.followPort p f).port p).causeActive = (cause == 1 || cause == 2) ∧ ((s.followPort p f).port p).driver = false ∧
      ((s.followPort p f).port p).temp = x.temp ∧ ∀ q, q ≠ p → (s.followPort p f).port q = s.port q := by
  obtain ⟨hported, hother⟩ := h.followPort
  rw [hported]
  obtain ⟨hstate, hcause, hactive, hdriver, htemp⟩ := x.faulted_down cause tsc beat
  exact ⟨hstate, hcause, hactive, hdriver, htemp, hother⟩

end ContactSense

/-- Settles O24: each reading is the operation of its relay, and what the port holds after it is read off that operation. -/
theorem contactSenseCompletes : Obligations.ContactSenseCompletes := by
  unfold Obligations.ContactSenseCompletes
  intro s t p ⟨hs, hp⟩ hport
  have hself : Ported p (s.port p) (s.upTo t) (s.upTo t) := Ported.refl _ p
  refine ⟨fun b c hsense hstate => ?rest, fun b c hsense hcommand hstate hup => ?running, fun b c hsense => ?same, fun c hsense => ?matrixSame,
    fun c hsense hcommand hstate => ?matrixIdle, fun c hsense hcommand hstate hup => ?matrixFault, fun c hsense hcommand hfault => ?made,
    fun hup hlate => ⟨fun hstate => ?late, fun hstate hstep => ?lateMatrix⟩, fun hlate => ?early⟩
  case rest =>
    have hdone := State.bandSense_rest (s := s.upTo t) (b := b) hsense hstate
    have hnoted : Keeps [.ports, .dict, .echoes, .lanes, .sup] (s.upTo t) ((s.upTo t).senseNoted p b c) :=
      (State.pbump_keeps (State.updPort_keeps (.refl _ _) p _ (by decide)) _ _ _ (by decide)).trans
        (((s.upTo t).senseNoted_keeps p b c).mono (by decide))
    have hkeeps : Keeps [.ports, .dict, .echoes, .lanes, .sup] (s.upTo t) ((s.upTo t).bandSense p b c) := by
      rw [hdone]
      exact State.matrixIdle_keeps (.ite hnoted (State.echoOff_keeps hnoted p b (by decide) (by decide))) p (by decide)
    have hafter : Keeps [.ports, .echoes, .lanes, .sup] (((s.upTo t).updPort p fun y => y.sensed b c).pbump p 0x201F 1)
        ((s.upTo t).bandSense p b c) := by
      have hbefore : Keeps [.ports, .echoes, .lanes, .sup] (((s.upTo t).updPort p fun y => y.sensed b c).pbump p 0x201F 1)
          ((s.upTo t).senseNoted p b c) := ((s.upTo t).senseNoted_keeps p b c).mono (by decide)
      rw [hdone]
      exact State.matrixIdle_keeps (.ite hbefore (State.echoOff_keeps hbefore p b (by decide) (by decide))) p (by decide)
    have hcounted : Counted [portKey p 0x201F 1] (s.upTo t) ((s.upTo t).bandSense p b c) :=
      ((State.updPort_keeps (ps := [.ports]) (.refl _ _) p _ (by decide)).countedKey _).keeps hafter
    have hnotedPort := hself.senseNoted (b := b) (c := c)
    have hw : Ported p ((s.port p).sensed b c) (s.upTo t) (if c then (s.upTo t).senseNoted p b c else ((s.upTo t).senseNoted p b c).echoOff p b) :=
      .ite hnotedPort (hnotedPort.keeps (ps := [.echoes, .lanes]) (State.echoOff_keeps (.refl _ _) p b (by decide) (by decide)))
    obtain ⟨due, m, hported, hother⟩ := hw.matrixIdle
    rw [← hdone] at hported hother
    have hrelay : (((s.upTo t).bandSense p b c).port p).relay b = { (s.port p).relay b with sense := c } := by
      rw [hported, ← Port.sensed_relay]
      cases b <;> rfl
    have hsame : (s.upTo t).followPort p (fun u => u.bandSense p b c) = (s.upTo t).bandSense p b c :=
      State.followPort_same (congrArg (· == PortState.running) (by rw [hported]; exact Port.sensed_state _ _ _))
    refine ⟨_, (exec_bandSense hp hport).trans (congrArg _ hsame), .of_keeps hkeeps (by decide), hother, ?_, ?_, ?_, hcounted⟩
    · rw [hrelay]
    · rw [hrelay]
    · rw [hported]; exact Port.sensed_state _ _ _
  case running =>
    have hstate' : ((s.port p).sensed b c).state = .running := (Port.sensed_state _ _ _).trans hstate
    have hup' : ((s.upTo t).senseNoted p b c).portUp p = true :=
      (Keeps.portUp ((State.pbump_keeps (ps := [.ports, .dict, .sup]) (State.updPort_keeps (.refl _ _) p _ (by decide)) _ _ _ (by decide)).trans
        (((s.upTo t).senseNoted_keeps p b c).mono (by decide))) p).trans hup
    have hfault := hself.senseNoted.portFault hup' (.inr (.inl hstate')) 5
    rw [← State.bandSense_fault (s := s.upTo t) hsense hcommand hstate] at hfault
    obtain ⟨hst, hcause, -, -, -, hother⟩ := hfault.followPort_faulted (f := fun u => u.bandSense p b c)
    exact ⟨_, exec_bandSense hp hport, hst, hcause, hother⟩
  case same => exact Did.followPort_idle (exec_bandSense hp hport) (State.bandSense_same hsense)
  case matrixSame => exact Did.followPort_idle (exec_matrixSense hp hport) (State.matrixSense_same hsense)
  case matrixIdle =>
    have hdiffer : ¬ (s.port p).matrix.command = c := by rw [hcommand]; cases c <;> decide
    have hnoted : (s.upTo t).matrixNoted p c = (s.upTo t).updPort p fun y => y.matrixSensed c :=
      if_neg (by rw [show ((s.upTo t).port p).matrix.command = !c from hcommand]; cases c <;> decide)
    have hdone : (s.upTo t).matrixSense p c = (s.upTo t).updPort p fun y => y.matrixSensed c :=
      (State.matrixSense_changed (s := s.upTo t) hsense).trans ((if_neg hdiffer).trans ((if_neg hstate).trans hnoted))
    have hsame : (s.upTo t).followPort p (fun u => u.matrixSense p c) = (s.upTo t).matrixSense p c :=
      State.followPort_same (by rw [hdone]; exact State.updPort_running rfl)
    have hported := hself.updPort fun y => y.matrixSensed c
    exact ⟨_, (exec_matrixSense hp hport).trans (congrArg _ (hsame.trans hdone)),
      .of_keeps (State.updPort_keeps (.refl _ _) p _ (by decide)) (by decide), hported.1, hported.2⟩
  case matrixFault =>
    have hdiffer : ¬ (s.port p).matrix.command = c := by rw [hcommand]; cases c <;> decide
    have hfault := (hself.matrixNoted (c := c)).portFault ((Keeps.portUp ((s.upTo t).matrixNoted_keeps p c) p).trans hup)
      (.inr (.inl hstate)) 5
    rw [← (State.matrixSense_changed (s := s.upTo t) hsense).trans ((if_neg hdiffer).trans (if_pos hstate))] at hfault
    obtain ⟨hst, hcause, -, -, -, hother⟩ := hfault.followPort_faulted (f := fun u => u.matrixSense p c)
    exact ⟨_, exec_matrixSense hp hport, hst, hcause, hother⟩
  case made =>
    have hdone : (s.upTo t).matrixSense p c = ((s.upTo t).matrixNoted p c).matrixMade p :=
      (State.matrixSense_changed (s := s.upTo t) hsense).trans (if_pos hcommand)
    obtain ⟨y, hy, hafe, hswap⟩ := (hself.matrixNoted (c := c)).matrixMade hfault
    rw [← hdone] at hy
    obtain ⟨hported, hother⟩ := hy.followPort (f := fun u => u.matrixSense p c)
    refine ⟨_, exec_matrixSense hp hport, ?_, hother, fun hstate => ?_⟩
    · rw [hported]; exact hafe
    · obtain ⟨hkeeps, hystate, hystep⟩ := hswap hstate
      rw [← hdone] at hkeeps
      have hsame : (s.upTo t).followPort p (fun u => u.matrixSense p c) = (s.upTo t).matrixSense p c :=
        State.followPort_same (congrArg (· == PortState.running) (by rw [hy.1, hystate]; exact hstate.symm))
      rw [hported]
      refine ⟨?_, hystate, hystep⟩
      rw [hsame]
      exact .of_keeps (((s.upTo t).matrixNoted_keeps p c).trans (hkeeps.mono (by decide))) (by decide)
  case late =>
    have hx : Ported p ((s.port p).retimed (s.upTo t).beat) (s.upTo t) ((s.upTo t).updPort p fun x => x.retimed (s.upTo t).beat) :=
      hself.updPort _
    have hfault : ∃ x tsc beat, Ported p (Port.faulted x 5 tsc beat) (s.upTo t)
        (((s.upTo t).updPort p fun x => x.retimed (s.upTo t).beat).portFault p 5) := by
      rcases hstate with h | h | h | ⟨h, hstep⟩
      · exact ⟨_, _, _, hx.portFault hup (.inl h) 5⟩
      · exact ⟨_, _, _, hx.portFault hup (.inr (.inl h)) 5⟩
      · exact ⟨_, _, _, hx.portFault hup (.inr (.inr h)) 5⟩
      · obtain ⟨n, tsc, beat, hf⟩ := hx.portFault_swapping hup h hstep 5
        exact ⟨_, tsc, beat, hf⟩
    obtain ⟨x, tsc, beat, hfault⟩ := hfault
    rw [← State.senseOver_late (s := s.upTo t) hup hlate] at hfault
    obtain ⟨hst, hcause, -, hdriver, -, hother⟩ := hfault.followPort_faulted (f := fun u => u.senseOver p)
    exact ⟨_, exec_relaySenseTimeout hp hport, hst, hcause, hdriver, hother⟩
  case lateMatrix =>
    have hx : Ported p ((s.port p).retimed (s.upTo t).beat) (s.upTo t) ((s.upTo t).updPort p fun x => x.retimed (s.upTo t).beat) :=
      hself.updPort _
    have hfault := hx.portFault_matrix hup hstate hstep 5
    rw [← State.senseOver_late (s := s.upTo t) hup hlate] at hfault
    obtain ⟨hported, hother⟩ := hfault.followPort (f := fun u => u.senseOver p)
    obtain ⟨m, n, hquiet⟩ := ((s.port p).retimed (s.upTo t).beat).quiet_eq ((s.upTo t).updPort p fun x => x.retimed (s.upTo t).beat).tsc
    refine ⟨_, exec_relaySenseTimeout hp hport, ?_, ?_, ?_, hother⟩ <;> rw [hported, Port.faultWaits, hquiet]
    exact hstate
  case early =>
    exact Did.followPort_idle (exec_relaySenseTimeout hp hport) (if_neg fun h => absurd (hlate.symm.trans h.2) (by decide))

end Sys2Proof.Machine
end

section
/-! Port faults, their ends and their retries (R110, R112, R116, R117, R118, R119). -/

set_option Elab.async false

namespace Sys2Proof.Machine

section PortFaults

variable {ps : List Part} {s u : State} {t p : Nat} {x : Port}

/-! ## The settings of a port while it changes its state -/

theorem State.each_raw {α : Type} {f : State → α → State} {k : Nat} (hf : ∀ u a, (f u a).raw k = u.raw k) (s : State) (l : List α) :
    (s.each l f).raw k = s.raw k := by
  unfold State.each
  induction l generalizing s with
  | nil => rfl
  | cons a l ih => exact (ih (f s a)).trans (hf s a)

/-- The first key of a port's lanes. -/
def laneKeys (p : Nat) : Nat := keyOf (0x200C + 0x20 * p) 0

theorem ne_laneKey {k l i j : Nat} (h : k < laneKeys p) (hi : 0x200C ≤ i) : k ≠ laneKey p l i j := by
  unfold laneKeys keyOf at h
  unfold laneKey keyOf
  omega

theorem State.clearFloor_raw {k : Nat} (h : k < laneKeys p) (s : State) (l : Nat) : (s.clearFloor p l).raw k = s.raw k :=
  State.each_raw (fun u i => State.raw_store_ne u _ (ne_laneKey h (by decide))) s _

theorem State.muteRx_raw {k : Nat} (h : k < laneKeys p) (s : State) (l : Nat) : (s.muteRx p l).raw k = s.raw k := by
  unfold State.muteRx
  rw [State.clearFloor_raw h]
  exact State.raw_bumpKey_ne _ _ (ne_laneKey h (by decide))

theorem State.settleRx_raw {k : Nat} (h : k < laneKeys p) (s : State) (l : Nat) : (s.settleRx p l).raw k = s.raw k := by
  unfold State.settleRx
  extract_lets on x
  split
  · rfl
  · split
    · exact s.muteRx_raw h l
    · rfl

theorem State.liftGroups_raw {k : Nat} (h : k < laneKeys p) (s : State) : (s.liftGroups p).raw k = s.raw k := by
  refine State.each_raw (fun u l => ?_) s _
  exact State.raw_storeNat_ne _ 0 (ne_laneKey h (by decide))

/-- A change of state leaves the settings of the port. -/
theorem State.enterPort_raw {k : Nat} (h : k < laneKeys p) (s : State) (st : PortState) (step : PortStep) :
    (s.enterPort p st step).raw k = s.raw k := by
  unfold State.enterPort
  extract_lets x y u v w w' z
  have hw : Keeps [.out, .spools, .pages, .routes] u w := by
    have hv : Keeps [.out, .spools, .pages, .routes] u v := .ite (State.touchPort_keeps (.refl _ u) p (by decide)) (.refl _ u)
    exact .ite (State.broadcastsLeave_keeps hv p (by decide) (by decide) (by decide)) hv
  have hw' : w'.raw k = s.raw k := by
    have hwk : w.raw k = s.raw k := hw.raw k (by decide)
    show (if _ then w.liftGroups p else w).raw k = s.raw k
    split
    · exact (w.liftGroups_raw h).trans hwk
    · exact hwk
  have hz : Keeps [.echoes, .lanes] w' z :=
    .ite (State.echoOff_keeps (State.echoOff_keeps (.refl _ w') p .nb (by decide) (by decide)) p .bb (by decide) (by decide)) (.refl _ w')
  exact (State.each_raw (fun u l => u.settleRx_raw h l) z _).trans ((hz.raw k (by decide)).trans hw')

/-! ## The junction -/

/-- A port whose sensor has read a temperature (R110). -/
def Port.heated (x : Port) (temp : Int) (beat : Nat) : Port :=
  { x with
    temp := temp,
    hotBeat := if decide (125000 ≤ temp) then some (x.hotBeat.getD beat) else none,
    foldBeat := if decide (125000 ≤ temp) ∧ x.hotBeat = none then beat + 1 else x.foldBeat,
    coolBeat := if temp ≤ 120000 ∧ x.foldback ≠ 0 then some (x.coolBeat.getD beat) else none }

/-- The reading is kept, published and worn. -/
def State.heatNoted (s : State) (p : Nat) (temp : Int) : State :=
  ((s.updPort p fun x => x.heated temp s.beat).storeNat (portKey p 0x2001 7) (f32Milli temp)).wearBy 0x6042
    (s.afeOf p + 1) 128 (40000 * arrhenius temp)

theorem State.heatNoted_keeps (s : State) (p : Nat) (temp : Int) : Keeps [.ports, .dict, .sup] s (s.heatNoted p temp) :=
  State.wearBy_keeps (State.storeNat_keeps (State.updPort_keeps (.refl _ s) p _ (by decide)) _ _ (by decide)) _ _ _ _ (by decide)

theorem Ported.heatNoted (h : Ported p x s u) (temp : Int) : Ported p (x.heated temp u.beat) s (u.heatNoted p temp) :=
  (h.updPort _).keeps (ps := [.dict, .sup]) (State.wearBy_keeps (State.storeNat_keeps (.refl _ _) _ _ (by decide)) _ _ _ _ (by decide))

/-- What DRIVER_TEMPERATURE_READ does at its port. -/
def State.tempRead (s : State) (p : Nat) (temp : Int) : State :=
  let u := s.heatNoted p temp
  if 150000 ≤ temp then
    (if (u.port p).state = .fault then (if (u.port p).cause = 1 then u.updPort p fun y => { y with causeActive := true } else u) else u.portFault p 1)
  else if temp ≤ 100000 ∧ (u.port p).state = .fault ∧ (u.port p).cause = 1 then
    (u.updPort p fun y => { y with causeActive := false }).retryPort p
  else u

theorem exec_driverTemperatureRead {temp : Int} (hp : s.rst.powered = true) (hport : s.hasPort p = true) :
    exec (.driverTemperatureRead t p temp) s = .next ((s.upTo t).followPort p fun u => u.tempRead p (temp - u.userShift p 8)) := by
  refine exec_followPort hp hport ?_
  show execDriverTemperatureRead t p temp s = _
  unfold execDriverTemperatureRead State.tempRead State.heatNoted Port.heated
  rfl

/-! ## Supply and clamp -/

/-- What DRIVER_RAIL_REGULATION does at its port. -/
def State.railRead (s : State) (p outUs : Nat) : State :=
  if 10 < outUs then
    (if (s.port p).state = .fault then (if (s.port p).cause = 2 then s.updPort p fun y => { y with causeActive := true } else s)
      else s.portFault p 2)
  else if outUs = 0 ∧ (s.port p).state = .fault ∧ (s.port p).cause = 2 then
    (s.updPort p fun y => { y with causeActive := false }).retryPort p
  else s

theorem exec_driverRailRegulation {n : Nat} (hp : s.rst.powered = true) (hport : s.hasPort p = true) :
    exec (.driverRailRegulation t p n) s = .next ((s.upTo t).followPort p fun u => u.railRead p n) := exec_followPort hp hport rfl

/-- What CLAMP_OVERVOLTAGE does at its port. -/
def State.clampOver (s : State) (p : Nat) : State :=
  if 250 ≤ (s.port p).clampRun then (s.updPort p fun x => { x with clampRun := 0 }).portFault p 3 else s

theorem exec_clampOvervoltage (hp : s.rst.powered = true) (hport : s.hasPort p = true) :
    exec (.clampOvervoltage t p) s = .next ((s.upTo t).followPort p fun u => u.clampOver p) := exec_followPort hp hport rfl

/-! ## Retries -/

/-- A port that starts (R116). -/
def Port.started (x : Port) (tsc beat : Nat) : Port :=
  Port.entered { (x.mute .nb tsc).mute .bb tsc with bias := true, impedanceNb := beat, impedanceBb := beat } .starting .bias beat

theorem Ported.startPort (h : Ported p x s u) : Ported p (x.started u.tsc u.beat) s (u.startPort p) := (h.updPort _).enterPort .starting .bias

theorem Port.started_eq (x : Port) (tsc beat : Nat) : (x.started tsc beat).state = .starting ∧ (x.started tsc beat).step = .bias ∧
    (x.started tsc beat).retries = x.retries ∧ (x.started tsc beat).bias = true ∧ (x.started tsc beat).stateBeat = beat ∧
    (x.started tsc beat).causeActive = x.causeActive := by
  obtain ⟨m, n, h⟩ := x.mutes_eq tsc
  unfold Port.started
  rw [h]
  exact ⟨rfl, rfl, rfl, rfl, rfl, rfl⟩

/-- A port with a retry spent. -/
def Port.retried (x : Port) : Port := { x with retries := x.retries - 1 }

theorem State.retryPort_retries (hup : s.portUp p = true) (hstate : (s.port p).state = .fault) (hactive : (s.port p).causeActive = false)
    (hleft : 0 < (s.port p).retries) (hen : s.portEnabled p = true)
    (hdue : s.pval p 0x2001 8 + s.pval p 0x2000 6 * 1000000000 ≤ s.tsc) :
    s.retryPort p = (s.updPort p Port.retried).startPort p := if_pos ⟨hup, hstate, hactive, hleft, hen, hdue⟩

/-- A retry leaves what is known of the cause. -/
theorem Ported.retryPort (h : Ported p x s u) : ∃ y, Ported p y s (u.retryPort p) ∧ y.causeActive = x.causeActive := by
  unfold State.retryPort
  extract_lets x'
  split
  · obtain ⟨-, -, -, -, -, hactive⟩ := Port.started_eq x.retried (u.updPort p Port.retried).tsc (u.updPort p Port.retried).beat
    exact ⟨_, (h.updPort Port.retried).startPort, hactive⟩
  · exact ⟨x, h, rfl⟩

theorem exec_faultRetryExpiry (hp : s.rst.powered = true) (hport : s.hasPort p = true) :
    exec (.faultRetryExpiry t p) s = .next ((s.upTo t).followPort p fun u => u.retryPort p) := exec_followPort hp hport rfl

/-- A port whose retries are reloaded. -/
def Port.reloaded (x : Port) (retries beat : Nat) : Port := { x with retries := retries, runBeat := beat }

theorem exec_retryReload (hp : s.rst.powered = true) (hport : s.hasPort p = true) (hstate : (s.port p).state = .running)
    (hdue : (s.port p).runBeat + 90000000 ≤ max s.tsc t / 40000) : exec (.retryReload t p) s =
      .next (((s.upTo t).reloadRetries p).updPort p fun y => { y with runBeat := (s.upTo t).beat }) :=
  (State.runPort_powered hp hport t _).trans (congrArg Host.Outcome.next (if_pos ⟨hstate, hdue⟩))

/-! ## The end of STOPPING -/

/-- What PORT_LANES_IDLE does at its port. -/
def State.lanesOver (s : State) (p : Nat) : State :=
  let due := s.lanesIdle p || decide ((s.port p).stateBeat + 250 ≤ s.beat)
  if (s.port p).state = .stopping ∧ due then (s.finishStopping p).portPolicy p
  else if (s.port p).state = .swapping ∧ (s.port p).step = .drain ∧ due then s.drainSwap p else s

theorem exec_portLanesIdle (hp : s.rst.powered = true) (hport : s.hasPort p = true) :
    exec (.portLanesIdle t p) s = .next ((s.upTo t).followPort p fun u => u.lanesOver p) := exec_followPort hp hport rfl

/-- Enable and stop of a port, which its state does not change. -/
structure Keeps.Settings (p : Nat) (s u : State) : Prop where
  up : u.portUp p = s.portUp p
  enabled : u.portEnabled p = s.portEnabled p
  stopped : u.portStopped p = s.portStopped p

theorem State.enterPort_settings (s : State) (p : Nat) (st : PortState) (step : PortStep) : Keeps.Settings p s (s.enterPort p st step) := by
  have hkeeps : Keeps [.out, .dict, .ports, .echoes, .lanes, .spools, .pages, .routes] s (s.enterPort p st step) :=
    (State.setPort_keeps (.refl _ s) p _ (by decide)).trans ((s.enterPort_keeps_parts p st step).mono (by decide))
  have hlow : ∀ i, i < 256 → portKey p 0x2000 i < laneKeys p := fun i hi => by unfold portKey laneKeys keyOf; omega
  have hval : ∀ i, i < 256 → (s.enterPort p st step).pval p 0x2000 i = s.pval p 0x2000 i := fun i hi =>
    congrArg ofBE (s.enterPort_raw (hlow i hi) st step)
  refine ⟨hkeeps.portUp p, ?_, ?_⟩
  · unfold State.portEnabled; rw [hval 1 (by decide)]
  · unfold State.portStopped State.outputsSafe
    rw [hval 2 (by decide), hkeeps.frame .hier (by decide), hkeeps.frame .rst (by decide)]

/-- A port stopped as enable and stop have it stays stopped. -/
theorem State.portPolicy_stopped (hup : s.portUp p = true) (hen : s.portEnabled p = true) (hstop : s.portStopped p = true)
    (hstate : (s.port p).state = .stopped) (henabled : (s.port p).enabled = true) : s.portPolicy p = s := by
  unfold State.portPolicy
  simp only [hen, henabled, hup, hstate, hstop, Bool.true_eq_false, and_false, if_false, if_true, Bool.not_true, Bool.false_eq_true]

theorem Keeps.Settings.trans {v : State} (h : Keeps.Settings p s u) (k : Keeps.Settings p u v) : Keeps.Settings p s v :=
  ⟨k.up.trans h.up, k.enabled.trans h.enabled, k.stopped.trans h.stopped⟩

theorem Keeps.settings (h : Keeps ps s u) (p : Nat) (hdict : Part.dict ∉ ps := by decide) (hhier : Part.hier ∉ ps := by decide)
    (hrst : Part.rst ∉ ps := by decide) : Keeps.Settings p s u := by
  refine ⟨h.portUp p hhier, ?_, ?_⟩
  · unfold State.portEnabled State.pval; rw [h.raw _ hdict]
  · unfold State.portStopped State.outputsSafe State.pval
    rw [h.raw _ hdict, h.frame .hier hhier, h.frame .rst hrst]

theorem Ported.finishStopping (h : Ported p x s u) (hcommand : (u.cell p).frame = none) (hen : u.portEnabled p = true) :
    Ported p ((x.quiet u.tsc).entered .stopped .bias u.beat) s (u.finishStopping p) ∧ Keeps.Settings p u (u.finishStopping p) := by
  have hcut : Keeps [.out, .lanes, .spools, .pages] u (u.cutLanes p) :=
    State.cutLanes_keeps (.refl _ u) p (by decide) (by decide) (by decide) (by decide)
  have htsc : (u.cutLanes p).tsc = u.tsc := hcut.frame .tsc (by decide)
  have hbeat : ((u.cutLanes p).quietPort p).beat = u.beat := congrArg (· / 40000) htsc
  have hcell : ¬ ((u.cutLanes p).cell p).frame.isSome = true := by
    unfold State.cell at hcommand ⊢
    rw [hcut.frame .cells (by decide), hcommand]
    decide
  have hquiet : Keeps [.out, .lanes, .spools, .pages, .ports] u ((u.cutLanes p).quietPort p) :=
    State.quietPort_keeps (hcut.mono (by decide)) p (by decide)
  have hsettings : Keeps.Settings p u (((u.cutLanes p).quietPort p).enterPort p .stopped .bias) :=
    (hquiet.settings p).trans (State.enterPort_settings _ p _ _)
  have hdone : u.finishStopping p = ((u.cutLanes p).quietPort p).enterPort p .stopped .bias := by
    unfold State.finishStopping
    extract_lets w v
    have hw : (w.quietPort p).portEnabled p = true := (hquiet.settings p).enabled.trans hen
    have hv : v = ((u.cutLanes p).quietPort p).enterPort p .stopped .bias :=
      congrArg (fun st => ((u.cutLanes p).quietPort p).enterPort p st .bias) (if_pos hw)
    rw [if_neg hcell, hv, if_pos (hsettings.enabled.trans hen)]
  rw [hdone]
  refine ⟨?_, hsettings⟩
  have hported := (h.cutLanes.quietPort).enterPort .stopped .bias
  rw [htsc, hbeat] at hported
  exact hported

end PortFaults

/-- Settles O25: a cause acts on a working port, and the end of a cause, of an interval or of the lanes' frames on one that waits for it. -/
theorem portFaultsAndRetries : Obligations.PortFaultsAndRetries := by
  unfold Obligations.PortFaultsAndRetries
  refine ⟨fun s t p ⟨hs, hp⟩ hport hup => ?_, fun s t p ⟨hs, hp⟩ hport hup hen => ?_⟩
  · have hself : Ported p (s.port p) (s.upTo t) (s.upTo t) := Ported.refl _ p
    refine ⟨fun hstate => ⟨fun x hx => ?hot, fun n hn => ?rail, fun hrun => ?clamp⟩, fun hrun => ?clampEarly,
      fun x hwarm hcool hfold => ?warm, fun hstate hcause => ⟨?railBack, ?railOut⟩⟩
    case hot =>
      let temp := x - s.userShift p 8
      have hnoted := hself.heatNoted temp
      have hfaultless : ¬ (((s.upTo t).heatNoted p temp).port p).state = .fault := by
        rw [hnoted.1]
        rcases hstate with h | h | h <;> exact fun hf => PortState.noConfusion (h.symm.trans hf)
      have hfault := hnoted.portFault ((((s.upTo t).heatNoted_keeps p temp).portUp p).trans hup) hstate 1
      rw [← (if_pos hx).trans (if_neg hfaultless : _ = ((s.upTo t).heatNoted p temp).portFault p 1)] at hfault
      obtain ⟨hst, hc, hactive, hdriver, htemp, hother⟩ := hfault.followPort_faulted (f := fun u => u.tempRead p (x - u.userShift p 8))
      exact ⟨_, exec_driverTemperatureRead hp hport, hst, hc, hactive, hdriver, htemp, hother⟩
    case rail =>
      have hfaultless : ¬ (s.port p).state = .fault := by
        rcases hstate with h | h | h <;> rw [h] <;> decide
      have hfault := hself.portFault hup hstate 2
      rw [← (if_pos hn).trans (if_neg hfaultless : _ = (s.upTo t).portFault p 2)] at hfault
      obtain ⟨hst, hc, hactive, hdriver, -, hother⟩ := hfault.followPort_faulted (f := fun u => u.railRead p n)
      exact ⟨_, exec_driverRailRegulation hp hport, hst, hc, hactive, hdriver, hother⟩
    case clamp =>
      have hfault := (hself.updPort fun x => { x with clampRun := 0 }).portFault hup hstate 3
      rw [← (if_pos hrun : (s.upTo t).clampOver p = _)] at hfault
      obtain ⟨hst, hc, hactive, hdriver, -, hother⟩ := hfault.followPort_faulted (f := fun u => u.clampOver p)
      exact ⟨_, exec_clampOvervoltage hp hport, hst, hc, hactive, hdriver, hother⟩
    case clampEarly => exact Did.followPort_idle (exec_clampOvervoltage hp hport) (if_neg (Nat.not_le.mpr hrun))
    case warm =>
      let temp := x - s.userShift p 8
      have hnoted := hself.heatNoted temp
      have hheated : (s.port p).heated temp (s.upTo t).beat = { s.port p with temp := temp, hotBeat := none, coolBeat := none } := by
        have hcold : ¬ (125000 : Int) ≤ temp := Int.not_le.mpr hcool
        unfold Port.heated
        simp only [hcold, hfold, decide_false, Bool.false_eq_true, false_and, if_false, ne_eq, not_true_eq_false, and_false]
      have hdone : (s.upTo t).tempRead p temp = (s.upTo t).heatNoted p temp :=
        (if_neg (by omega)).trans (if_neg fun h => absurd h.1 (Int.not_le.mpr hwarm))
      have hsame : (s.upTo t).followPort p (fun u => u.tempRead p (x - u.userShift p 8)) = (s.upTo t).heatNoted p temp := by
        refine (State.followPort_same (f := fun u => u.tempRead p (x - u.userShift p 8)) ?_).trans hdone
        show ((s.upTo t).tempRead p temp).running p = _
        rw [hdone]
        exact congrArg (· == PortState.running) (by rw [hnoted.1]; rfl)
      refine ⟨_, (exec_driverTemperatureRead hp hport).trans (congrArg _ hsame), .of_keeps ((s.upTo t).heatNoted_keeps p temp) (by decide),
        hnoted.1.trans hheated, fun k hk => ?_⟩
      exact State.raw_storeNat_ne ((s.upTo t).updPort p fun x => x.heated temp (s.upTo t).beat) _ hk
    case railBack =>
      have hdone : (s.upTo t).railRead p 0 = ((s.upTo t).updPort p fun y => { y with causeActive := false }).retryPort p :=
        (if_neg (by decide)).trans (if_pos ⟨rfl, hstate, hcause⟩)
      obtain ⟨y, hy, hactive⟩ := (hself.updPort fun y => { y with causeActive := false }).retryPort
      rw [← hdone] at hy
      refine ⟨_, exec_driverRailRegulation hp hport, ?_⟩
      rw [(hy.followPort (f := fun u => u.railRead p 0)).1]
      exact hactive
    case railOut =>
      have hdone : (s.upTo t).railRead p 11 = (s.upTo t).updPort p fun y => { y with causeActive := true } :=
        (if_pos (by decide)).trans ((if_pos hstate).trans (if_pos hcause))
      have hsame : (s.upTo t).followPort p (fun u => u.railRead p 11) = (s.upTo t).railRead p 11 :=
        State.followPort_same (by rw [hdone]; exact State.updPort_running rfl)
      exact ⟨_, (exec_driverRailRegulation hp hport).trans (congrArg _ (hsame.trans hdone)),
        .of_keeps (State.updPort_keeps (.refl _ _) p _ (by decide)) (by decide), (hself.updPort fun y => { y with causeActive := true }).1⟩
  · have hself : Ported p (s.port p) (s.upTo t) (s.upTo t) := Ported.refl _ p
    refine ⟨fun hstate hactive hleft => ⟨fun hdue => ?retry, fun hearly => ?early⟩, fun hstate hnone => ?spent, fun hstate hdue => ?reload,
      fun hstate hidle hstop henabled => ?stop⟩
    case retry =>
      have hdone := State.retryPort_retries (s := s.upTo t) hup hstate hactive hleft hen hdue
      have hy := (hself.updPort Port.retried).startPort
      rw [← hdone] at hy
      obtain ⟨hported, hother⟩ := hy.followPort (f := fun u => u.retryPort p)
      obtain ⟨hst, hstep, hretries, hbias, hbeat, -⟩ := Port.started_eq (s.port p).retried ((s.upTo t).updPort p Port.retried).tsc
        ((s.upTo t).updPort p Port.retried).beat
      refine ⟨_, exec_faultRetryExpiry hp hport, ?_⟩
      rw [hported]
      exact ⟨hst, hstep, hretries, hbias, hbeat, hother⟩
    case early =>
      exact Did.followPort_idle (exec_faultRetryExpiry hp hport) (if_neg fun h => absurd hearly (Nat.not_lt.mpr h.2.2.2.2.2))
    case spent =>
      exact Did.followPort_idle (exec_faultRetryExpiry hp hport) (if_neg fun h => Nat.ne_of_gt h.2.2.2.1 hnone)
    case reload =>
      have hy := (hself.updPort fun x => { x with retries := s.pval p 0x2000 5 }).updPort fun y => { y with runBeat := (s.upTo t).beat }
      exact ⟨_, exec_retryReload hp hport hstate hdue, .of_keeps (State.updPort_keeps (State.updPort_keeps (.refl _ _) p _ (by decide)) p _
        (by decide)) (by decide), hy.1, hy.2⟩
    case stop =>
      have hcommand : ((s.upTo t).cell p).frame = none := by
        unfold State.lanesIdle at hidle
        rw [Bool.and_eq_true, Option.isNone_iff_eq_none] at hidle
        exact hidle.1
      obtain ⟨hy, hsettings⟩ := hself.finishStopping hcommand hen
      obtain ⟨m, n, hquiet⟩ := (s.port p).quiet_eq (s.upTo t).tsc
      have hpolicy : ((s.upTo t).finishStopping p).portPolicy p = (s.upTo t).finishStopping p := by
        refine State.portPolicy_stopped (hsettings.up.trans hup) (hsettings.enabled.trans hen) (hsettings.stopped.trans hstop) ?_ ?_
        · rw [hy.1]; rfl
        · rw [hy.1, hquiet]; exact henabled
      have hdone : (s.upTo t).lanesOver p = (s.upTo t).finishStopping p :=
        (if_pos ⟨hstate, by rw [show (s.upTo t).lanesIdle p = true from hidle]; rfl⟩).trans hpolicy
      rw [← hdone] at hy
      obtain ⟨hported, hother⟩ := hy.followPort (f := fun u => u.lanesOver p)
      refine ⟨_, exec_portLanesIdle hp hport, ?_⟩
      rw [hported, hquiet]
      exact ⟨rfl, rfl, hother⟩

end Sys2Proof.Machine
end

section
/-! What a port measures (R109, R192): the current limit counts at the lanes too. -/

set_option Elab.async false

namespace Sys2Proof.Machine

/-- Lane 0 of port 0 receives a frame whose first symbol ends after the beat has begun. -/
def limited : State := Tests.hearing { Tests.inHeader with cur := some { Tests.cur Tests.goodHead none with preambleEnd := Tests.run.tsc, track := { next := 1 } } }

theorem limited_live : limited.Live := Tests.live_of (by decide +kernel)

/-- The current limit marks the symbol that has just ended, and the lane counts it in 2014.27 (R192). -/
theorem limited_counts : ∃ v, exec (.currentLimit 0 0) limited = .next v ∧
    v.raw (laneKey 0 0 0x2014 0x27) ≠ limited.raw (laneKey 0 0 0x2014 0x27) := by
  refine ⟨_, rfl, ?_⟩
  decide +kernel

/-- Refutes O26: a current limit that marks a received symbol counts at its lane too, in 2014.27 (R192), beside the port's counter. -/
theorem not_portMeasurementsComplete : ¬ Obligations.PortMeasurementsComplete := by
  unfold Obligations.PortMeasurementsComplete
  intro h
  obtain ⟨-, hlimit, -⟩ := h limited 0 0 limited_live (by decide +kernel)
  obtain ⟨u, hu, -, -, -, -, ⟨hother, -⟩, -⟩ := hlimit (by decide +kernel)
  obtain ⟨v, hv, hcount⟩ := limited_counts
  obtain rfl : u = v := Host.Outcome.next.inj (hu.symm.trans hv)
  exact hcount (hother _ (by decide))

end Sys2Proof.Machine
end

section
/-! Entries of a port, alike on every port and variant (R1, R68). -/

set_option Elab.async false

namespace Sys2Proof.Machine

theorem portCount_le (v : Variant) : portCount v ≤ 36 := by cases v <;> decide

theorem idxOf_keyOf {i j : Nat} (hj : j < 256) : idxOf (keyOf i j) = i := by unfold idxOf keyOf; omega
theorem subOf_keyOf {i j : Nat} (hj : j < 256) : subOf (keyOf i j) = j := by unfold subOf keyOf; omega

theorem descOf_portEntry (v : Variant) {p o j : Nat} (hp : p < portCount v) (ho : o < 0x20) (h₁ : 0 < j) (hj : j < 256) :
    descOf v (keyOf (0x2000 + o + 0x20 * p) j) = descOf .sk3612 (keyOf (0x2000 + o) j) := by
  have hp36 : p < 36 := Nat.lt_of_lt_of_le hp (portCount_le v)
  have hblock : ∀ q < 36, inPortBlock (0x2000 + o + 0x20 * q) = true := fun q hq => by
    unfold inPortBlock
    simp only [Bool.and_eq_true, decide_eq_true_eq]
    omega
  have hplain : ∀ q < 36, plainIdx (0x2000 + o + 0x20 * q) = 0x2000 + o := fun q hq => by
    unfold plainIdx
    rw [hblock q hq, if_pos rfl]
    omega
  have hpresent : ∀ w : Variant, ∀ q, q < portCount w → q < 36 → entryPresent w (0x2000 + o + 0x20 * q) j = true := fun w q hq hq36 => by
    have hport : portOfIdx (0x2000 + o + 0x20 * q) = q := by unfold portOfIdx; omega
    unfold entryPresent
    simp only [hblock q hq36, hport, hq, if_true]
  have hzero : keyOf (0x2000 + o) j = keyOf (0x2000 + o + 0x20 * 0) j := rfl
  rw [hzero]
  unfold descOf
  simp only [idxOf_keyOf hj, subOf_keyOf hj, hplain p hp36, hplain 0 (by decide), hpresent v p hp hp36,
    hpresent .sk3612 0 (by decide) (by decide), if_true, if_neg (Nat.ne_of_gt h₁)]

theorem defaultOf_portEntry (v : Variant) {p o j : Nat} (hp : p < portCount v) (ho : o < 0x20) (h₁ : 0 < j) (hj : j < 256) :
    defaultOf v (portKey p (0x2000 + o) j) = defaultOf .sk3612 (keyOf (0x2000 + o) j) := by
  unfold defaultOf portKey
  rw [descOf_portEntry v hp ho h₁ hj]

/-- A number stored in an entry of a port reads modulo its width. -/
theorem State.pval_storeNat_self (s : State) {p o j : Nat} (hp : s.hasPort p = true) (ho : o < 0x20) (h₁ : 0 < j) (hj : j < 256) (n : Nat) :
    (s.storeNat (portKey p (0x2000 + o) j) n).pval p (0x2000 + o) j =
      n % 256 ^ (defaultOf .sk3612 (keyOf (0x2000 + o) j)).length := by
  unfold State.pval
  rw [State.ofBE_raw_storeNat_self, defaultOf_portEntry _ (by simpa [State.hasPort] using hp) ho h₁ hj]

end Sys2Proof.Machine
end

section
/-! The states and the measurements of an echo canceller (R178, R180, R181, R183, R184). -/

set_option Elab.async false

namespace Sys2Proof.Machine

section Echoes

variable {ps : List Part} {s u v : State} {t p : Nat} {b : Band} {e : Echo}

/-! ## One canceller after an operation -/

/-- From `s` to `u` the canceller of a band has become `e`, and every other one stands. -/
def Echoed (p : Nat) (b : Band) (e : Echo) (s u : State) : Prop := u.echo p b = e ∧ ∀ q c, ¬ (q = p ∧ c = b) → u.echo q c = s.echo q c

theorem Echoed.refl (s : State) (p : Nat) (b : Band) : Echoed p b (s.echo p b) s s := ⟨rfl, fun _ _ _ => rfl⟩

theorem State.echo_congr (h : v.echoes = u.echoes) (q : Nat) (c : Band) : v.echo q c = u.echo q c := by unfold State.echo; rw [h]

theorem Echoed.keeps (h : Echoed p b e s u) (k : Keeps ps u v) (hps : Part.echoes ∉ ps := by decide) : Echoed p b e s v :=
  ⟨(State.echo_congr (k.frame .echoes hps) p b).trans h.1, fun q c hq => (State.echo_congr (k.frame .echoes hps) q c).trans (h.2 q c hq)⟩

theorem Echoed.setEcho (h : Echoed p b e s u) (e' : Echo) : Echoed p b e' s (u.setEcho p b e') := by
  refine ⟨State.echo_setEcho_self _ _ _ _, fun q c hq => (State.echo_setEcho_ne u p b e' ?_).trans (h.2 q c hq)⟩
  intro heq
  refine hq ?_
  cases b <;> cases c <;> simp only [bandNo, reduceCtorEq, and_false, and_true] at heq ⊢ <;> omega

theorem Echoed.updEcho (h : Echoed p b e s u) (f : Echo → Echo) : Echoed p b (f e) s (u.setEcho p b (f (u.echo p b))) := by
  have hset := h.setEcho (f (u.echo p b))
  rwa [h.1] at hset ⊢

theorem Echoed.storeNat (h : Echoed p b e s u) (k n : Nat) : Echoed p b e s (u.storeNat k n) :=
  h.keeps (ps := [.dict]) (State.storeNat_keeps (.refl _ u) k n (by decide))

theorem Echoed.pbump (h : Echoed p b e s u) (q i j : Nat) : Echoed p b e s (u.pbump q i j) :=
  h.keeps (ps := [.dict]) (State.pbump_keeps (.refl _ u) q i j (by decide))

/-- A canceller whose hold timer and total are as they stand now. -/
def Echo.run (x : Echo) (d tsc : Nat) : Echo := { x with timer := x.timer + d, total := x.total + d, measured := tsc }

theorem Echoed.holdRun (h : Echoed p b e s u) (sending : Bool) :
    Echoed p b (e.run (if e.hold then u.holdStep p b sending else 0) u.tsc) s (u.holdRun p b sending) :=
  h.updEcho fun e => e.run (if e.hold then u.holdStep p b sending else 0) u.tsc

theorem Echoed.keepSupp (h : Echoed p b e s u) (x : Int) : Echoed p b { e with supp := x } s (u.keepSupp p b x) :=
  (h.updEcho fun e => { e with supp := x }).storeNat _ _

/-- A canceller in a hold that begins (R183). -/
def Echo.holding (x : Echo) (st : EchoState) (tsc beat : Nat) : Echo :=
  { x with state := st, beat := beat, hold := true, holdAt := tsc, timer := 0, total := 0, measured := tsc }

theorem Echoed.beginHold (h : Echoed p b e s u) (st : EchoState) : Echoed p b (e.holding st u.tsc u.beat) s (u.beginHold p b st) :=
  h.updEcho fun e => e.holding st u.tsc u.beat

theorem Echoed.echoDisturb (h : Echoed p b e s u) : Echoed p b (e.holding .reacquire u.tsc u.beat) s (u.echoDisturb p b) :=
  ((h.beginHold .reacquire).pbump _ _ _).storeNat _ _

/-- A canceller released from its hold (R183). -/
def Echo.released (x : Echo) (tsc beat : Nat) : Echo :=
  { x with state := .tracking, beat := beat, modelBeat := beat, hold := false, timer := 0, total := 0, holds := x.ended tsc, clearAt := none }

theorem Echoed.endHold (h : Echoed p b e s u) : Echoed p b (e.released u.tsc u.beat) s (u.endHold p b) :=
  (h.updEcho fun e => e.released u.tsc u.beat).storeNat _ _

/-! ## The handover of a model -/

/-- A canceller whose next model is handed over (R180). -/
def Echo.handed (x : Echo) (beat : Nat) (taps : List Int) : Echo := { x with model := x.model + 1, modelBeat := beat, nextTaps := some taps }

/-- A canceller whose model has changed. -/
def Echo.applied (x : Echo) (taps : List Int) : Echo := { x with taps := taps, nextTaps := none }

theorem Echoed.applyModel (h : Echoed p b e s u) (taps : List Int) : Echoed p b (e.applied taps) s (u.applyModel p b taps) := by
  have hlanes : Keeps [.lanes] (u.setEcho p b ((u.echo p b).applied taps)) (u.applyModel p b taps) := by
    unfold State.applyModel
    extract_lets x change w
    exact Keeps.each (.refl _ w) fun v l => State.setLane_keeps (.refl _ v) p l _ (by decide)
  exact (h.updEcho fun e => e.applied taps).keeps hlanes

/-- The taps change at once at a beat boundary, else at the next. -/
theorem Echoed.handover (h : Echoed p b e s u) (x : Int) (taps : List Int) :
    (u.tsc % beatNs = 0 → Echoed p b ((e.handed u.beat taps).applied taps) s (u.handover p b x taps)) ∧
    (u.tsc % beatNs ≠ 0 → Echoed p b (e.handed u.beat taps) s (u.handover p b x taps)) := by
  unfold State.handover
  extract_lets y w
  have hw : Echoed p b (e.handed u.beat taps) s w := (h.updEcho fun e => e.handed u.beat taps).storeNat _ _
  refine ⟨fun hnow => ?_, fun hlater => ?_⟩
  · rw [if_pos hnow]; exact hw.applyModel taps
  · rw [if_neg hlater]; exact hw

theorem State.handover_pval (hport : s.hasPort p = true) (x : Int) (taps : List Int) :
    (s.handover p b x taps).pval p 0x2004 (0x14 + bandNo b) = f32Tenth x % 2 ^ 32 := by
  have hstored : ((s.setEcho p b ((s.echo p b).handed s.beat taps)).storeNat (portKey p 0x2004 (0x14 + bandNo b)) (f32Tenth x)).pval p 0x2004
      (0x14 + bandNo b) = f32Tenth x % 2 ^ 32 := by
    refine (State.pval_storeNat_self _ (o := 4) hport (by decide) (by omega) (by cases b <;> decide) _).trans ?_
    cases b <;> rfl
  unfold State.handover
  extract_lets y w
  split
  · exact (congrArg ofBE (Keeps.raw (State.applyModel_keeps (ps := [.echoes, .lanes]) (.refl _ w) p b taps (by decide) (by decide)) _
      (by decide))).trans hstored
  · exact hstored

end Echoes

end Sys2Proof.Machine
end

section
/-! The canceller's commands (R180-R184). -/

set_option Elab.async false

namespace Sys2Proof.Machine

section EchoCommands

variable {ps : List Part} {s u v : State} {t p : Nat} {b : Band} {e : Echo} {x : Int} {w : List (Int × Int)}

/-! ## Training -/

/-- Entering RUNNING leaves the cancellers. -/
theorem State.enterPort_running_keeps (s : State) (p : Nat) (step : PortStep) :
    Keeps [.out, .dict, .ports, .lanes, .spools, .pages, .routes] s (s.enterPort p .running step) := by
  unfold State.enterPort
  extract_lets x y u v w w' z
  have hu : Keeps [.out, .dict, .ports, .lanes, .spools, .pages, .routes] s u := State.setPort_keeps (.refl _ s) p _ (by decide)
  have hv : Keeps [.out, .dict, .ports, .lanes, .spools, .pages, .routes] s v := .ite (State.touchPort_keeps hu p (by decide)) hu
  have hw : Keeps [.out, .dict, .ports, .lanes, .spools, .pages, .routes] s w :=
    .ite (State.broadcastsLeave_keeps hv p (by decide) (by decide) (by decide)) hv
  have hw' : Keeps [.out, .dict, .ports, .lanes, .spools, .pages, .routes] s w' :=
    .ite (State.liftGroups_keeps hw p (by decide) (by decide)) hw
  have hz : z = w' := if_neg (by decide)
  rw [hz]
  exact State.settlePortRx_keeps hw' p (by decide) (by decide)

theorem Echoed.portTrained (h : Echoed p b e s u) (q : Nat) : Echoed p b e s (u.portTrained q) := by
  unfold State.portTrained
  extract_lets y
  split
  · rename_i v _
    have hv : Echoed p b e s v := by
      show Echoed p b e s (if _ then u.swapDone q else u)
      split
      · exact h.keeps (ps := [.dict, .log, .ports, .rst, .sup]) (State.swapDone_keeps (.refl _ u) q (by decide) (by decide) (by decide)
          (by decide) (by decide))
      · exact h
    exact hv.keeps (v.enterPort_running_keeps q .training)
  · exact h

theorem Echoed.bandTrained (h : Echoed p b e s u) (q : Nat) (c : Band) : Echoed p b e s (u.bandTrained q c) :=
  h.keeps (ps := [.dict, .ports, .lanes]) (State.bandTrained_keeps (.refl _ u) q c (by decide) (by decide) (by decide))

theorem Echoed.followPort {f : State → State} (h : Echoed p b e s (f s)) (q : Nat) : Echoed p b e s (s.followPort q f) := by
  unfold State.followPort
  extract_lets v
  split
  · exact h
  · exact h.keeps (ps := [.out, .dict, .log, .routes, .cells, .trip]) (State.settleCommand_keeps (.refl _ v) (by decide) (by decide)
      (by decide) (by decide) (by decide) (by decide))

/-- A canceller with the model and the suppression that training gives. -/
def Echo.trained (e : Echo) (supp : Int) (taps : List Int) : Echo := { e with taps := taps, supp := supp }

/-- A canceller that tracks from a beat on. -/
def Echo.tracks (e : Echo) (beat : Nat) : Echo := { e with state := .tracking, beat := beat, modelBeat := beat }

/-- Training ends in TRACKING where the suppression reaches its minimum, in REACQUIRE with a hold where it does not (R183). -/
theorem Echoed.echoTrained (h : Echoed p b e s u) (x : Int) (w : List (Int × Int)) :
    (u.minSupp p b ≤ x → Echoed p b ((e.trained x (u.resolved p w)).tracks u.beat) s (u.echoTrained p b x w)) ∧
    (x < u.minSupp p b → Echoed p b ((e.trained x (u.resolved p w)).holding .reacquire u.tsc u.beat) s (u.echoTrained p b x w)) := by
  unfold State.echoTrained
  extract_lets _ v
  have hv : Echoed p b (e.trained x (u.resolved p w)) s v := (h.updEcho fun e => { e with taps := u.resolved p w }).keepSupp x
  have hkeeps : Keeps [.dict, .echoes] u v :=
    State.keepSupp_keeps (State.setEcho_keeps (.refl _ u) p b _ (by decide)) p b x (by decide) (by decide)
  have htsc : v.tsc = u.tsc := hkeeps.frame .tsc (by decide)
  have hbeat : v.beat = u.beat := congrArg (· / 40000) htsc
  refine ⟨fun hgood => ?_, fun hbad => ?_⟩
  · rw [if_pos hgood, ← hbeat]; exact hv.updEcho fun e => e.tracks v.beat
  · rw [if_neg (Int.not_le.mpr hbad), ← htsc, ← hbeat]; exact hv.beginHold .reacquire

/-- What ECHO_TRAINING_END does at its port. -/
def State.trainingOver (s : State) (p : Nat) (b : Band) (x : Int) (w : List (Int × Int)) : State :=
  if (s.echo p b).state = .training ∧ (s.echo p b).beat + 50 ≤ s.beat then ((s.echoTrained p b x w).bandTrained p b).portTrained p else s

theorem exec_echoTrainingEnd (hp : s.rst.powered = true) (hport : s.hasPort p = true) :
    exec (.echoTrainingEnd t p b ⟨x, w⟩) s = .next ((s.upTo t).followPort p fun u => u.trainingOver p b x w) := exec_followPort hp hport rfl

/-! ## Holds, re-solves and refreshes -/

/-- The hold timer and total as they stand now. -/
def State.holdNow (s : State) (p : Nat) (b : Band) : State := s.holdRun p b (s.bandTransmits p b)

/-- A canceller whose re-solve begins at the next beat boundary. -/
def Echo.resolving (e : Echo) (beat : Nat) : Echo := { e with state := .resolve, beat := beat + 1 }

theorem Echoed.holdNow (h : Echoed p b e s u) :
    Echoed p b (e.run (if e.hold then u.holdStep p b (u.bandTransmits p b) else 0) u.tsc) s (u.holdNow p b) := h.holdRun _

theorem State.holdNow_echo (s : State) (p : Nat) (b : Band) : ((s.holdNow p b).echo p b).state = (s.echo p b).state ∧
    (s.echo p b).timer ≤ ((s.holdNow p b).echo p b).timer ∧ (s.echo p b).total ≤ ((s.holdNow p b).echo p b).total := by
  rw [(Echoed.refl s p b).holdNow.1]
  exact ⟨rfl, Nat.le_add_right _ _, Nat.le_add_right _ _⟩

theorem exec_echoHoldTimeout (hp : s.rst.powered = true) (hstate : (s.echo p b).state = .reacquire) (htimer : holdTimerNs b ≤ (s.echo p b).timer) :
    exec (.echoHoldTimeout t p b) s = .next ((((s.upTo t).holdNow p b).setEcho p b
      ((((s.upTo t).holdNow p b).echo p b).resolving ((s.upTo t).holdNow p b).beat)).pbump p 0x2004 (0x22 + bandNo b)) := by
  obtain ⟨hrun, htime, -⟩ := (s.upTo t).holdNow_echo p b
  have hcond : (((s.upTo t).holdNow p b).echo p b).state = .reacquire ∧ holdTimerNs b ≤ (((s.upTo t).holdNow p b).echo p b).timer :=
    ⟨hrun.trans hstate, Nat.le_trans htimer htime⟩
  show execEchoHoldTimeout t p b s = _
  unfold execEchoHoldTimeout
  rw [State.run_powered hp]
  exact congrArg Host.Outcome.next (if_pos hcond)

/-- A canceller that listens again after its re-solve. -/
def Echo.resolvedAt (e : Echo) (beat : Nat) : Echo := { e with state := .reacquire, beat := beat, timer := 0, clearAt := none }

/-- The model that a re-solve gives is handed over. -/
def State.resolveOver (s : State) (p : Nat) (b : Band) (x : Int) (w : List (Int × Int)) : State :=
  (s.holdNow p b).handover p b x (s.resolved p w)

/-- The canceller listens again. -/
def State.resolveDone (s : State) (p : Nat) (b : Band) (x : Int) (w : List (Int × Int)) : State :=
  (s.resolveOver p b x w).setEcho p b (((s.resolveOver p b x w).echo p b).resolvedAt (s.resolveOver p b x w).beat)

theorem exec_echoResolveDone (hp : s.rst.powered = true) (hstate : (s.echo p b).state = .resolve)
    (hdue : (s.echo p b).beat + 1 ≤ max s.tsc t / 40000) : exec (.echoResolveDone t p b ⟨x, w⟩) s =
      .next ((s.upTo t).resolveDone p b x w) :=
  (State.run_powered hp t _).trans (congrArg Host.Outcome.next (if_pos ⟨hstate, hdue⟩))

/-- A canceller that is given up. -/
def Echo.lostAt (e : Echo) (beat : Nat) : Echo := { e with state := .lost, beat := beat, modelBeat := beat }

theorem exec_echoHoldLimit (hp : s.rst.powered = true) (hstate : (s.echo p b).state = .reacquire ∨ (s.echo p b).state = .resolve)
    (htotal : s.pval p 0x2004 9 * 40000 ≤ (s.echo p b).total) : exec (.echoHoldLimit t p b) s =
      .next (((((s.upTo t).holdNow p b).setEcho p b
        ((((s.upTo t).holdNow p b).echo p b).lostAt ((s.upTo t).holdNow p b).beat)).event (srcCanceller p) 0x0503 sevWarning
          (toBE 1 (bandNo b))).pbump p 0x2004 (0x24 + bandNo b)) := by
  obtain ⟨hrun, -, htime⟩ := (s.upTo t).holdNow_echo p b
  have hcond : ((((s.upTo t).holdNow p b).echo p b).state = .reacquire ∨ (((s.upTo t).holdNow p b).echo p b).state = .resolve) ∧
      ((s.upTo t).holdNow p b).pval p 0x2004 9 * beatNs ≤ (((s.upTo t).holdNow p b).echo p b).total :=
    ⟨hrun.symm ▸ hstate, Nat.le_trans htotal htime⟩
  show execEchoHoldLimit t p b s = _
  unfold execEchoHoldLimit
  rw [State.run_powered hp]
  exact congrArg Host.Outcome.next (if_pos hcond)

theorem exec_echoLostResolve (hp : s.rst.powered = true) (hstate : (s.echo p b).state = .lost)
    (hdue : (s.echo p b).modelBeat + 25 ≤ max s.tsc t / 40000) : exec (.echoLostResolve t p b ⟨x, w⟩) s =
      .next ((s.upTo t).handover p b x ((s.upTo t).resolved p w)) :=
  (State.run_powered hp t _).trans (congrArg Host.Outcome.next (if_pos ⟨hstate, hdue⟩))

theorem exec_echoModelRefresh (hp : s.rst.powered = true) (hstate : (s.echo p b).state = .tracking)
    (hdue : (s.echo p b).modelBeat + 250 ≤ max s.tsc t / 40000) : exec (.echoModelRefresh t p b x) s =
      .next ((s.upTo t).handover p b x ((s.upTo t).refreshed p b)) :=
  (State.run_powered hp t _).trans (congrArg Host.Outcome.next (if_pos ⟨hstate, hdue⟩))

/-- Before its time has come a canceller's timer does nothing. -/
theorem exec_echo_early (hp : s.rst.powered = true) :
    (max s.tsc t / 40000 < (s.echo p b).beat + 1 → exec (.echoResolveDone t p b ⟨x, w⟩) s = .next (s.upTo t)) ∧
    (max s.tsc t / 40000 < (s.echo p b).modelBeat + 25 → exec (.echoLostResolve t p b ⟨x, w⟩) s = .next (s.upTo t)) ∧
    (max s.tsc t / 40000 < (s.echo p b).modelBeat + 250 → exec (.echoModelRefresh t p b x) s = .next (s.upTo t)) :=
  ⟨fun h => (State.run_powered hp t _).trans (congrArg Host.Outcome.next (if_neg fun hdue => absurd h (Nat.not_lt.mpr hdue.2))),
    fun h => (State.run_powered hp t _).trans (congrArg Host.Outcome.next (if_neg fun hdue => absurd h (Nat.not_lt.mpr hdue.2))),
    fun h => (State.run_powered hp t _).trans (congrArg Host.Outcome.next (if_neg fun hdue => absurd h (Nat.not_lt.mpr hdue.2)))⟩

/-! ## Measurements -/

/-- A canceller with the suppression measured, `release` being what the end of its hold needs. -/
def Echo.withSupp (e : Echo) (x release : Int) (tsc : Nat) : Echo :=
  { e with supp := x, clearAt := if release ≤ x then some (e.clearAt.getD tsc) else none }

/-- A suppression is measured while the port transmits in the band (R181). -/
def State.suppMeasured (s : State) (p : Nat) (b : Band) (x : Int) : State := ((s.holdRun p b true).keepSupp p b x).windowClear p b x

theorem State.minSupp_storeSupp (s : State) (p : Nat) (b : Band) (n : Nat) :
    (s.storeNat (portKey p 0x2004 (0x12 + bandNo b)) n).minSupp p b = s.minSupp p b := by
  unfold State.minSupp State.pval
  rw [State.raw_storeNat_ne _ _ (by unfold portKey keyOf; cases b <;> simp only [bandNo] <;> omega)]

theorem State.minSupp_setEcho (s : State) (p : Nat) (b : Band) (y : Echo) : (s.setEcho p b y).minSupp p b = s.minSupp p b := by
  unfold State.minSupp; rw [State.setEcho_pval]

theorem State.suppMeasured_minSupp (s : State) (p : Nat) (b : Band) (x : Int) : (s.suppMeasured p b x).minSupp p b = s.minSupp p b := by
  unfold State.suppMeasured State.windowClear State.keepSupp State.holdRun
  rw [State.minSupp_setEcho, State.minSupp_storeSupp, State.minSupp_setEcho, State.minSupp_setEcho]

theorem Echoed.suppMeasured (h : Echoed p b e s u) (x : Int) : Echoed p b
    ((e.run (if e.hold then u.holdStep p b true else 0) u.tsc).withSupp x (u.minSupp p b + 30) u.tsc) s (u.suppMeasured p b x) := by
  have hkept := (h.holdRun true).keepSupp x
  have hmin : ((u.holdRun p b true).keepSupp p b x).minSupp p b = u.minSupp p b := by
    unfold State.keepSupp State.holdRun
    rw [State.minSupp_storeSupp, State.minSupp_setEcho, State.minSupp_setEcho]
  have hclear := hkept.updEcho fun e => { e with clearAt := if u.minSupp p b + 30 ≤ x then some (e.clearAt.getD u.tsc) else none }
  unfold State.suppMeasured State.windowClear
  rw [hmin]
  exact hclear

/-- What a measurement that follows does (R183). -/
def State.suppActs (s : State) (p : Nat) (b : Band) (x : Int) (tsc : Nat) : State :=
  if (s.echo p b).state = .tracking then (if x < s.minSupp p b then s.echoDisturb p b else s)
  else if ((s.echo p b).state = .reacquire ∨ (s.echo p b).state = .lost) ∧
      (s.echo p b).clearAt.any (fun a => decide (a + suppWindowNs b ≤ tsc)) then s.endHold p b
  else s

variable {reference residual : List (Nat × Nat)}

theorem exec_echoSuppression_measured (hp : s.rst.powered = true) (hon : (s.echo p b).state ≠ .off)
    (hsupp : bandSupp ((lanePowers reference residual).filter fun e => (s.bandLanes p b).contains e.1) = some x) :
    exec (.echoSuppressionMeasure t p b reference residual true) s =
      .next (((s.upTo t).suppMeasured p b x).suppActs p b x (s.upTo t).tsc) := by
  have hsupp' : bandSupp ((lanePowers reference residual).filter fun e => ((s.upTo t).bandLanes p b).contains e.1) = some x := hsupp
  show execEchoSuppressionMeasure t p b reference residual true s = _
  unfold execEchoSuppressionMeasure
  rw [State.run_powered hp]
  refine congrArg Host.Outcome.next ((if_neg hon).trans ?_)
  rw [if_pos rfl, hsupp']
  rfl

theorem exec_echoSuppression_none {sending : Bool} (hp : s.rst.powered = true) (hon : (s.echo p b).state ≠ .off)
    (hsupp : sending = false ∨ bandSupp ((lanePowers reference residual).filter fun e => (s.bandLanes p b).contains e.1) = none) :
    exec (.echoSuppressionMeasure t p b reference residual sending) s =
      .next (((s.upTo t).holdRun p b false).setEcho p b { ((s.upTo t).holdRun p b false).echo p b with clearAt := none }) := by
  have hnone : bandSupp (if sending then (lanePowers reference residual).filter fun e => ((s.upTo t).bandLanes p b).contains e.1 else []) =
      none := by
    cases sending with
    | false => rfl
    | true => exact hsupp.resolve_left (by decide)
  show execEchoSuppressionMeasure t p b reference residual sending s = _
  unfold execEchoSuppressionMeasure
  rw [State.run_powered hp]
  refine congrArg Host.Outcome.next ((if_neg hon).trans ?_)
  rw [hnone]

theorem exec_echoSuppression_off {sending : Bool} (hp : s.rst.powered = true) (hoff : (s.echo p b).state = .off) :
    exec (.echoSuppressionMeasure t p b reference residual sending) s = .next (s.upTo t) := by
  show execEchoSuppressionMeasure t p b reference residual sending s = _
  unfold execEchoSuppressionMeasure
  rw [State.run_powered hp]
  exact congrArg Host.Outcome.next (if_pos hoff)

end EchoCommands

end Sys2Proof.Machine
end

section
/-! What is settled of the echo cancellers (R178-R184). -/

set_option Elab.async false

namespace Sys2Proof.Machine

section EchoFacts

variable {s u : State} {t p : Nat} {b : Band} {e : Echo} {x : Int}

theorem Did.holdNow (s : State) (t p : Nat) (b : Band) : Keeps [.echoes] (s.upTo t) ((s.upTo t).holdNow p b) :=
  State.holdRun_keeps (.refl _ _) p b _ (by decide)

/-- The model of a re-solve or refresh: at once at a beat boundary, else at the next. -/
theorem Echoed.handover_echo (h : Echoed p b e s u) (taps : List Int) : Echoed p b
    (if u.tsc % beatNs = 0 then (e.handed u.beat taps).applied taps else e.handed u.beat taps) s (u.handover p b x taps) := by
  obtain ⟨hnow, hlater⟩ := h.handover x taps
  split
  · rename_i hz; exact hnow hz
  · rename_i hz; exact hlater hz

theorem State.resolved_upTo (s : State) (t p : Nat) (w : List (Int × Int)) : (s.upTo t).resolved p w = s.resolved p w := by
  unfold State.resolved State.loopDelay
  rfl

theorem State.refreshed_upTo (s : State) (t p : Nat) (b : Band) : (s.upTo t).refreshed p b = s.refreshed p b := by
  unfold State.refreshed State.loopDelay
  rfl

/-- What a command that hands a model over does to its band: nothing else than the model, and the suppression that it publishes. -/
theorem handover_done (hport : s.hasPort p = true) (x : Int) (taps : List Int) :
    Did t [.echoes, .dict, .lanes] s ((s.upTo t).handover p b x taps) ∧
    ((s.upTo t).handover p b x taps).pval p 0x2004 (0x14 + bandNo b) = f32Tenth x % 2 ^ 32 ∧
    (∀ q c, ¬ (q = p ∧ c = b) → ((s.upTo t).handover p b x taps).echo q c = s.echo q c) ∧
    (max s.tsc t % 40000 ≠ 0 → ((s.upTo t).handover p b x taps).echo p b = (s.echo p b).handed (max s.tsc t / 40000) taps) ∧
    (max s.tsc t % 40000 = 0 →
      ((s.upTo t).handover p b x taps).echo p b = ((s.echo p b).handed (max s.tsc t / 40000) taps).applied taps) := by
  have hself : Echoed p b (s.echo p b) (s.upTo t) (s.upTo t) := Echoed.refl _ p b
  refine ⟨.of_keeps (State.handover_keeps (.refl _ _) p b x taps (by decide) (by decide) (by decide)) (by decide),
    State.handover_pval (s := s.upTo t) hport x taps, (hself.handover_echo (x := x) taps).2, fun hz => ((hself.handover x taps).2 hz).1,
    fun hz => ((hself.handover x taps).1 hz).1⟩

/-- A canceller whose re-solve is done: its timer begins anew, its total goes on, its model is handed over. -/
structure Echo.Resolved (e : Echo) (tsc : Nat) (taps : List Int) (e' : Echo) : Prop where
  state : e'.state = .reacquire
  timer : e'.timer = 0
  model : e'.model = e.model + 1
  total : e.total ≤ e'.total
  now : tsc % 40000 = 0 → e'.taps = taps ∧ e'.nextTaps = none
  later : tsc % 40000 ≠ 0 → e'.taps = e.taps ∧ e'.nextTaps = some taps

theorem Echoed.resolveDone (h : Echoed p b e s u) (w : List (Int × Int)) :
    ∃ e', Echoed p b e' s (u.resolveDone p b x w) ∧ e.Resolved u.tsc (u.resolved p w) e' := by
  obtain ⟨hnow, hlater⟩ := h.holdNow.handover x (u.resolved p w)
  by_cases hz : u.tsc % 40000 = 0
  · exact ⟨_, (hnow hz).updEcho fun e => e.resolvedAt (u.resolveOver p b x w).beat, rfl, rfl, rfl, Nat.le_add_right _ _,
      fun _ => ⟨rfl, rfl⟩, fun h => absurd hz h⟩
  · exact ⟨_, (hlater hz).updEcho fun e => e.resolvedAt (u.resolveOver p b x w).beat, rfl, rfl, rfl, Nat.le_add_right _ _,
      fun h => absurd h hz, fun _ => ⟨rfl, rfl⟩⟩

theorem State.resolveDone_pval (hport : s.hasPort p = true) (w : List (Int × Int)) :
    (s.resolveDone p b x w).pval p 0x2004 (0x14 + bandNo b) = f32Tenth x % 2 ^ 32 := by
  have hport' : (s.holdNow p b).hasPort p = true := hport
  unfold State.resolveDone
  rw [State.setEcho_pval]
  exact State.handover_pval hport' x (s.resolved p w)

theorem Keeps.resolveDone (s : State) (p : Nat) (b : Band) (x : Int) (w : List (Int × Int)) :
    Keeps [.echoes, .dict, .lanes] s (s.resolveDone p b x w) :=
  State.setEcho_keeps (State.handover_keeps (State.holdRun_keeps (.refl _ s) p b _ (by decide)) p b x _ (by decide) (by decide) (by decide))
    p b _ (by decide)

/-! ## After a measurement -/

theorem Keeps.suppMeasured (s : State) (p : Nat) (b : Band) (x : Int) : Keeps [.echoes, .dict] s (s.suppMeasured p b x) :=
  State.setEcho_keeps (State.keepSupp_keeps (State.holdRun_keeps (.refl _ s) p b true (by decide)) p b x (by decide) (by decide)) p b _
    (by decide)

theorem Keeps.suppActs (s : State) (p : Nat) (b : Band) (x : Int) (tsc : Nat) : Keeps [.echoes, .dict] s (s.suppActs p b x tsc) :=
  .ite (.ite (State.echoDisturb_keeps (.refl _ s) p b (by decide) (by decide)) (.refl _ s))
    (.ite (State.endHold_keeps (.refl _ s) p b (by decide) (by decide)) (.refl _ s))

/-- The key of the published suppression is none of those that a disturbance or the end of a hold writes. -/
theorem State.suppActs_pval (s : State) (p : Nat) (b : Band) (x : Int) (tsc : Nat) :
    (s.suppActs p b x tsc).pval p 0x2004 (0x12 + bandNo b) = s.pval p 0x2004 (0x12 + bandNo b) := by
  have hkey : ∀ j, j ≠ 0x12 + bandNo b → portKey p 0x2004 (0x12 + bandNo b) ≠ portKey p 0x2004 j := fun j hj => by
    unfold portKey keyOf
    omega
  have hlow : bandNo b < 2 := by cases b <;> decide
  unfold State.suppActs
  split
  · split
    · refine congrArg ofBE ((State.raw_storeNat_ne _ _ (hkey _ (by omega))).trans ?_)
      exact State.raw_bumpKey_ne _ 1 (hkey _ (by omega))
    · rfl
  · split
    · exact congrArg ofBE (State.raw_storeNat_ne _ _ (hkey _ (by omega)))
    · rfl

theorem State.suppMeasured_pval (hport : s.hasPort p = true) : (s.suppMeasured p b x).pval p 0x2004 (0x12 + bandNo b) = f32Tenth x % 2 ^ 32 := by
  have hwidth : ∀ b, 256 ^ (defaultOf .sk3612 (keyOf (0x2000 + 4) (0x12 + bandNo b))).length = 2 ^ 32 := fun b => by cases b <;> rfl
  unfold State.suppMeasured State.windowClear State.keepSupp
  rw [← hwidth b, State.setEcho_pval]
  refine State.pval_storeNat_self _ (o := 4) (j := 0x12 + bandNo b) ?_ (by decide) (by omega) (by cases b <;> decide) _
  exact hport

/-- Whatever acts, the suppression and the other cancellers are those measured. -/
theorem Echoed.suppActs (h : Echoed p b e s u) (x : Int) (tsc : Nat) : ∃ e', Echoed p b e' s (u.suppActs p b x tsc) ∧ e'.supp = e.supp := by
  unfold State.suppActs
  split
  · split
    · exact ⟨_, h.echoDisturb, rfl⟩
    · exact ⟨_, h, rfl⟩
  · split
    · exact ⟨_, h.endHold, rfl⟩
    · exact ⟨_, h, rfl⟩

theorem State.suppActs_disturbs (hstate : (s.echo p b).state = .tracking) (hlow : x < s.minSupp p b) (tsc : Nat) :
    s.suppActs p b x tsc = s.echoDisturb p b := (if_pos hstate).trans (if_pos hlow)

theorem State.suppActs_tracks (hstate : (s.echo p b).state = .tracking) (hgood : s.minSupp p b ≤ x) (tsc : Nat) :
    s.suppActs p b x tsc = s := (if_pos hstate).trans (if_neg (Int.not_lt.mpr hgood))

theorem State.suppActs_releases (hstate : (s.echo p b).state = .reacquire ∨ (s.echo p b).state = .lost) {a tsc : Nat}
    (hclear : (s.echo p b).clearAt = some a) (hdue : a + suppWindowNs b ≤ tsc) : s.suppActs p b x tsc = s.endHold p b := by
  have hnot : ¬ (s.echo p b).state = .tracking := by rcases hstate with h | h <;> rw [h] <;> decide
  exact (if_neg hnot).trans (if_pos ⟨hstate, by rw [hclear]; simpa using hdue⟩)

theorem State.suppActs_waits (hstate : (s.echo p b).state = .reacquire ∨ (s.echo p b).state = .lost) {tsc : Nat}
    (hclear : ∀ a, (s.echo p b).clearAt = some a → tsc < a + suppWindowNs b) : s.suppActs p b x tsc = s := by
  have hnot : ¬ (s.echo p b).state = .tracking := by rcases hstate with h | h <;> rw [h] <;> decide
  refine (if_neg hnot).trans (if_neg fun h => ?_)
  obtain ⟨a, ha, hdue⟩ := (Option.any_eq_true _ _).mp h.2
  exact absurd (hclear a ha) (Nat.not_lt.mpr (of_decide_eq_true hdue))

/-- A disturbance counts (R183). -/
theorem State.echoDisturb_counts (hport : s.hasPort p = true) :
    ofBE (((s.suppMeasured p b x).echoDisturb p b).raw (portKey p 0x2004 (0x20 + bandNo b))) =
      min 0xFFFFFFFF (ofBE (s.raw (portKey p 0x2004 (0x20 + bandNo b))) + 1) := by
  have hlow : bandNo b < 2 := by cases b <;> decide
  have hkey : ∀ j, j ≠ 0x20 + bandNo b → portKey p 0x2004 (0x20 + bandNo b) ≠ portKey p 0x2004 j := fun j hj => by
    unfold portKey keyOf
    omega
  have hwidth : 256 ^ (defaultOf s.variant (portKey p 0x2004 (0x20 + bandNo b))).length - 1 = 0xFFFFFFFF := by
    rw [defaultOf_portEntry (o := 4) s.variant (of_decide_eq_true hport) (by decide) (by omega) (by omega)]
    cases b <;> rfl
  have hraw : (s.suppMeasured p b x).raw (portKey p 0x2004 (0x20 + bandNo b)) = s.raw (portKey p 0x2004 (0x20 + bandNo b)) := by
    unfold State.suppMeasured State.windowClear State.keepSupp State.holdRun
    rw [State.setEcho_raw, State.raw_storeNat_ne _ _ (hkey _ (by omega)), State.setEcho_raw, State.setEcho_raw]
  have hvariant : ((s.suppMeasured p b x).beginHold p b .reacquire).variant = s.variant :=
    ((Keeps.suppMeasured s p b x).trans (State.beginHold_keeps (.refl _ _) p b .reacquire (by decide))).variant
  unfold State.echoDisturb
  rw [State.raw_storeNat_ne _ _ (hkey _ (by omega))]
  refine (State.ofBE_raw_bumpKey_self _ _ _).trans ?_
  rw [hvariant, hwidth]
  unfold State.beginHold
  rw [State.setEcho_raw, hraw]

end EchoFacts

/-- Settles O27: each timer and measurement of a canceller is one operation on it, which leaves every other. -/
theorem echoCancellersComplete : Obligations.EchoCancellersComplete := by
  unfold Obligations.EchoCancellersComplete
  constructor
  · intro s t p b x w ⟨hs, hp⟩ hport
    have hself : Echoed p b (s.echo p b) (s.upTo t) (s.upTo t) := Echoed.refl _ p b
    have hnow := hself.holdNow
    have hbeat : ((s.upTo t).holdNow p b).beat = max s.tsc t / 40000 := rfl
    refine ⟨fun hstate hdue => ?trained, fun hstate hearly => ?training, fun hstate htimer => ?timeout, fun hstate hdue => ?resolve,
      fun hstate hearly => ?resolving, fun hstate htotal => ?limit, fun hstate hdue => ?lost, fun hstate hearly => ?losing,
      fun hstate hdue => ?refresh, fun hstate hearly => ?refreshing⟩
    case trained =>
      have hdone : (s.upTo t).trainingOver p b x w = (((s.upTo t).echoTrained p b x w).bandTrained p b).portTrained p := if_pos ⟨hstate, hdue⟩
      have hafter : ∀ e, Echoed p b e (s.upTo t) ((s.upTo t).echoTrained p b x w) →
          Echoed p b e (s.upTo t) ((s.upTo t).followPort p fun u => u.trainingOver p b x w) := fun e he => by
        have := (he.bandTrained p b).portTrained p
        rw [← hdone] at this
        exact this.followPort (f := fun u => u.trainingOver p b x w) p
      obtain ⟨hgood, hbad⟩ := hself.echoTrained x w
      refine ⟨_, exec_echoTrainingEnd hp hport, ?_⟩
      rcases Int.lt_or_le x (s.minSupp p b) with hlow | hhigh
      · obtain ⟨hecho, hother⟩ := hafter _ (hbad hlow)
        rw [hecho, State.resolved_upTo]
        exact ⟨rfl, rfl, hother, fun h => absurd hlow (Int.not_lt.mpr h), fun _ => ⟨rfl, rfl, rfl⟩⟩
      · obtain ⟨hecho, hother⟩ := hafter _ (hgood hhigh)
        rw [hecho, State.resolved_upTo]
        exact ⟨rfl, rfl, hother, fun _ => ⟨rfl, rfl⟩, fun h => absurd h (Int.not_lt.mpr hhigh)⟩
    case training =>
      exact Did.followPort_idle (exec_echoTrainingEnd hp hport) (if_neg fun h => absurd hearly (Nat.not_lt.mpr h.2))
    case timeout =>
      have hkeeps := State.setEcho_keeps (Did.holdNow s t p b) p b
        ((((s.upTo t).holdNow p b).echo p b).resolving ((s.upTo t).holdNow p b).beat) (by decide)
      obtain ⟨hecho, hother⟩ := (hnow.updEcho fun e => e.resolving ((s.upTo t).holdNow p b).beat).pbump p 0x2004 (0x22 + bandNo b)
      have hcounted : Counted [portKey p 0x2004 (0x22 + bandNo b)] (s.upTo t) _ := hkeeps.countedKey _
      refine ⟨_, exec_echoHoldTimeout hp hstate htimer, .of_keeps (State.pbump_keeps (hkeeps.mono (by decide)) _ _ _ (by decide)) (by decide),
        ?_, ?_, hother, hcounted⟩ <;> rw [hecho] <;> rfl
    case resolve =>
      obtain ⟨e', ⟨hecho, hother⟩, hres⟩ := hself.resolveDone (x := x) w
      rw [State.resolved_upTo] at hres
      refine ⟨_, exec_echoResolveDone hp hstate hdue, .of_keeps (Keeps.resolveDone _ p b x w) (by decide), ?_⟩
      rw [hecho]
      exact ⟨hres.state, hres.timer, hres.model, hres.total, State.resolveDone_pval (s := s.upTo t) hport w, hother, hres.now, hres.later⟩
    case resolving => exact Did.answer_upTo ((exec_echo_early hp (x := x) (w := w)).1 hearly)
    case limit =>
      have hkeeps : Keeps [.echoes, .log] (s.upTo t) _ := State.event_keeps (State.setEcho_keeps ((Did.holdNow s t p b).mono (by decide)) p b
        ((((s.upTo t).holdNow p b).echo p b).lostAt ((s.upTo t).holdNow p b).beat) (by decide)) (srcCanceller p) 0x0503 sevWarning
          (toBE 1 (bandNo b)) (by decide)
      have hcounted : Counted [portKey p 0x2004 (0x24 + bandNo b)] (s.upTo t) _ := hkeeps.countedKey _
      have hlost := (hnow.updEcho fun e => e.lostAt ((s.upTo t).holdNow p b).beat).keeps (ps := [.log])
        (State.event_keeps (.refl _ _) (srcCanceller p) 0x0503 sevWarning (toBE 1 (bandNo b)) (by decide))
      obtain ⟨hecho, hother⟩ := hlost.pbump p 0x2004 (0x24 + bandNo b)
      refine ⟨_, exec_echoHoldLimit hp hstate htotal, .of_keeps (State.pbump_keeps (hkeeps.mono (by decide)) _ _ _ (by decide)) (by decide),
        ?_, hother, hcounted, rfl⟩
      rw [hecho]; rfl
    case lost =>
      obtain ⟨hdid, hval, hother, hlater, hnowTaps⟩ := handover_done (t := t) (b := b) hport x ((s.upTo t).resolved p w)
      rw [State.resolved_upTo] at hlater hnowTaps
      refine ⟨_, exec_echoLostResolve hp hstate hdue, hdid, hval, hother, hlater, hnowTaps⟩
    case losing => exact Did.answer_upTo ((exec_echo_early hp).2.1 hearly)
    case refresh =>
      obtain ⟨hdid, hval, hother, hlater, hnowTaps⟩ := handover_done (t := t) (b := b) hport x ((s.upTo t).refreshed p b)
      rw [State.refreshed_upTo] at hlater hnowTaps
      exact ⟨_, exec_echoModelRefresh hp hstate hdue, hdid, hval, hother, hlater, hnowTaps⟩
    case refreshing => exact Did.answer_upTo ((exec_echo_early hp (w := w)).2.2 hearly)
  · intro s t p b reference residual ⟨hs, hp⟩ hport
    have hself : Echoed p b (s.echo p b) (s.upTo t) (s.upTo t) := Echoed.refl _ p b
    refine ⟨fun x hsupp => ?_, fun sending hnone hon => ?_, fun sending hoff => Did.answer_upTo (exec_echoSuppression_off hp hoff)⟩
    · have hmeasured := hself.suppMeasured x
      have hmin : ((s.upTo t).suppMeasured p b x).minSupp p b = s.minSupp p b := State.suppMeasured_minSupp _ p b x
      have hecho := hmeasured.1
      refine ⟨fun hon => ?any, fun hstate hgood => ?tracks, fun hstate hlow => ?disturbs, fun hstate => ⟨fun a hhigh hclear hdue => ?releases,
        fun hhigh hclear => ?begins, fun hlow => ?waits⟩⟩
      case any =>
        obtain ⟨e', ⟨he', hother⟩, hsame⟩ := hmeasured.suppActs x (s.upTo t).tsc
        refine ⟨_, exec_echoSuppression_measured hp hon hsupp, .of_keeps ((Keeps.suppMeasured _ p b x).trans (Keeps.suppActs _ p b x _))
          (by decide), ?_, (State.suppActs_pval _ p b x _).trans (State.suppMeasured_pval (s := s.upTo t) hport), hother⟩
        rw [he', hsame]; rfl
      case tracks =>
        have hexec := exec_echoSuppression_measured (t := t) hp (by rw [hstate]; decide) hsupp
        rw [State.suppActs_tracks (by rw [hecho]; exact hstate) (by rw [hmin]; exact hgood)] at hexec
        exact ⟨_, hexec, by rw [hecho]; exact hstate, by rw [hecho]; rfl⟩
      case disturbs =>
        have hexec := exec_echoSuppression_measured (t := t) hp (by rw [hstate]; decide) hsupp
        rw [State.suppActs_disturbs (by rw [hecho]; exact hstate) (by rw [hmin]; exact hlow)] at hexec
        obtain ⟨he', -⟩ := hmeasured.echoDisturb
        refine ⟨_, hexec, ?_, ?_, ?_, ?_, State.echoDisturb_counts (s := s.upTo t) hport⟩ <;> rw [he'] <;> rfl
      all_goals
        have hon : (s.echo p b).state ≠ .off := by rcases hstate with h | h <;> rw [h] <;> decide
        have hstate' : (((s.upTo t).suppMeasured p b x).echo p b).state = .reacquire ∨
            (((s.upTo t).suppMeasured p b x).echo p b).state = .lost := by rw [hecho]; exact hstate
        have hexec := exec_echoSuppression_measured (t := t) hp hon hsupp
      case releases =>
        have hclear' : (((s.upTo t).suppMeasured p b x).echo p b).clearAt = some a := by
          rw [hecho]
          exact (if_pos hhigh).trans (congrArg some (by rw [show ((s.echo p b).run _ _).clearAt = some a from hclear]; rfl))
        rw [State.suppActs_releases hstate' hclear' (show a + suppWindowNs b ≤ (s.upTo t).tsc from hdue)] at hexec
        obtain ⟨he', -⟩ := hmeasured.endHold
        refine ⟨_, hexec, by rw [he']; rfl, by rw [he']; rfl, ?_⟩
        have hwidth : 256 ^ (defaultOf .sk3612 (keyOf (0x2000 + 4) 0x29)).length = 2 ^ 32 := rfl
        unfold State.endHold
        refine Eq.trans (State.pval_storeNat_self _ (o := 4) (j := 0x29) ?_ (by decide) (by decide) (by decide) _) ?_
        · exact hport
        rw [hwidth, hecho]
        rfl
      case begins =>
        have hclear' : (((s.upTo t).suppMeasured p b x).echo p b).clearAt = some (max s.tsc t) := by
          rw [hecho]
          exact (if_pos hhigh).trans (congrArg some (by rw [show ((s.echo p b).run _ _).clearAt = none from hclear]; rfl))
        have hwindow : 0 < suppWindowNs b := by cases b <;> decide
        rw [State.suppActs_waits hstate' fun a ha => by
          rw [hclear'] at ha
          rw [← Option.some.inj ha]
          exact Nat.lt_add_of_pos_right hwindow] at hexec
        exact ⟨_, hexec, by rw [hecho]; rfl, hclear', by rw [hecho]; rfl⟩
      case waits =>
        have hclear' : (((s.upTo t).suppMeasured p b x).echo p b).clearAt = none := by
          rw [hecho]
          exact if_neg (Int.not_le.mpr hlow)
        rw [State.suppActs_waits hstate' fun a ha => by rw [hclear'] at ha; exact absurd ha (by simp)] at hexec
        exact ⟨_, hexec, by rw [hecho]; rfl, hclear', by rw [hecho]; rfl⟩
    · obtain ⟨he', -⟩ := (hself.holdRun false).updEcho fun e => { e with clearAt := none }
      refine ⟨_, exec_echoSuppression_none hp hon hnone, .of_keeps (State.setEcho_keeps (State.holdRun_keeps (.refl _ _) p b false (by decide)) p b _
        (by decide)) (by decide), ?_, ?_, ?_, ?_⟩ <;> rw [he']
      · rfl
      · rfl
      · show (s.echo p b).timer + _ = (s.echo p b).timer
        unfold State.holdStep
        simp only [Bool.false_eq_true, if_false, ite_self, Nat.add_zero]

end Sys2Proof.Machine
end

section
/-! Lanes: what one lane holds after an operation on it, and its entries. -/

set_option Elab.async false

namespace Sys2Proof.Machine

section Lanes

variable {ps : List Part} {s u v : State} {t p l g : Nat} {x : Lane}

/-! ## One lane after an operation -/

/-- From `s` to `u` one lane has become `x`, and every other one stands. -/
def Laned (p l : Nat) (x : Lane) (s u : State) : Prop := u.lane p l = x ∧ ∀ q m, m < 4 → ¬ (q = p ∧ m = l) → u.lane q m = s.lane q m

theorem Laned.refl (s : State) (p l : Nat) : Laned p l (s.lane p l) s s := ⟨rfl, fun _ _ _ _ => rfl⟩

theorem State.lane_congr (h : v.lanes = u.lanes) (q m : Nat) : v.lane q m = u.lane q m := by unfold State.lane; rw [h]

theorem Laned.keeps (h : Laned p l x s u) (k : Keeps ps u v) (hps : Part.lanes ∉ ps := by decide) : Laned p l x s v :=
  ⟨(State.lane_congr (k.frame .lanes hps) p l).trans h.1, fun q m hm hq => (State.lane_congr (k.frame .lanes hps) q m).trans (h.2 q m hm hq)⟩

theorem Laned.setLane (h : Laned p l x s u) (hl : l < 4) (y : Lane) : Laned p l y s (u.setLane p l y) := by
  refine ⟨State.lane_setLane_self _ _ _ _, fun q m hm hq => (State.lane_setLane_ne u p l y ?_).trans (h.2 q m hm hq)⟩
  intro heq
  exact hq (by omega)

/-- A lane whose transmit side a function has changed. -/
def Lane.updTx (x : Lane) (f : LaneTx → LaneTx) : Lane := { x with tx := f x.tx }

theorem Laned.updTx (h : Laned p l x s u) (hl : l < 4) (f : LaneTx → LaneTx) :
    Laned p l (x.updTx f) s (u.setTx p l (f (u.lane p l).tx)) := by
  have hset := h.setLane hl ((u.lane p l).updTx f)
  rw [h.1] at hset
  unfold State.setTx
  rw [h.1]
  exact hset

theorem Laned.bumpKey (h : Laned p l x s u) (k n : Nat) : Laned p l x s (u.bumpKey k n) :=
  h.keeps (ps := [.dict]) (State.bumpKey_keeps (.refl _ u) k n (by decide))

theorem Laned.storeNat (h : Laned p l x s u) (k n : Nat) : Laned p l x s (u.storeNat k n) :=
  h.keeps (ps := [.dict]) (State.storeNat_keeps (.refl _ u) k n (by decide))

theorem Laned.relevel (h : Laned p l x s u) : Laned p l x s (u.relevel p l) :=
  h.keeps (ps := [.out]) (State.relevel_keeps (.refl _ u) p l (by decide))

theorem Laned.event (h : Laned p l x s u) (src code sev : Nat) (data : Bytes) : Laned p l x s (u.event src code sev data) :=
  h.keeps (ps := [.log]) (State.event_keeps (.refl _ u) src code sev data (by decide))

/-! ## Entries of a lane -/

theorem defaultOf_laneEntry (v : Variant) {o j : Nat} (hp : p < portCount v) (ho : o + l < 0x20) (h₁ : 0 < j) (hj : j < 256) :
    defaultOf v (laneKey p l (0x2000 + o) j) = defaultOf .sk3612 (keyOf (0x2000 + o + l) j) := by
  have hkey : laneKey p l (0x2000 + o) j = portKey p (0x2000 + (o + l)) j := by
    unfold laneKey portKey keyOf
    omega
  rw [hkey, defaultOf_portEntry v hp ho h₁ hj, Nat.add_assoc]

theorem laneKey_ne {i j k : Nat} (h : j ≠ k) : laneKey p l i j ≠ laneKey p l i k := by
  unfold laneKey keyOf
  omega

theorem State.lval_storeNat_ne (s : State) {j k : Nat} (n : Nat) (h : j ≠ k) (i : Nat) :
    (s.storeNat (laneKey p l i k) n).lval p l i j = s.lval p l i j :=
  congrArg ofBE (State.raw_storeNat_ne s n (laneKey_ne h))

theorem State.lval_storeNat_self (s : State) {o j : Nat} (hport : s.hasPort p = true) (ho : o + l < 0x20) (h₁ : 0 < j) (hj : j < 256) (n : Nat) :
    (s.storeNat (laneKey p l (0x2000 + o) j) n).lval p l (0x2000 + o) j = n % 256 ^ (defaultOf .sk3612 (keyOf (0x2000 + o + l) j)).length := by
  unfold State.lval
  rw [State.ofBE_raw_storeNat_self, defaultOf_laneEntry s.variant (of_decide_eq_true hport) ho h₁ hj]

theorem State.lval_bump_self (s : State) {o j : Nat} (hport : s.hasPort p = true) (ho : o + l < 0x20) (h₁ : 0 < j) (hj : j < 256) :
    (s.lbump p l (0x2000 + o) j).lval p l (0x2000 + o) j =
      min (256 ^ (defaultOf .sk3612 (keyOf (0x2000 + o + l) j)).length - 1) (s.lval p l (0x2000 + o) j + 1) := by
  unfold State.lval
  refine (State.ofBE_raw_bumpKey_self _ _ _).trans ?_
  rw [defaultOf_laneEntry s.variant (of_decide_eq_true hport) ho h₁ hj]

end Lanes

end Sys2Proof.Machine
end

section
/-! The compliance monitor's counter of clips, where the canonical form does not bound its value (R150). -/

set_option Elab.async false

namespace Sys2Proof.Machine

/-- A group's clip stands at 20 dB, and 200C.05 holds a value that its four bytes cannot: the canonical form does not bound a value. -/
def overcounted : State :=
  (Tests.clipped.setTx 0 0 { (Tests.clipped.lane 0 0).tx with clips := [(3, 40)] }).store (laneKey 0 0 0x200C 5) [1, 0, 0, 0, 0]

theorem overcounted_live : overcounted.Live := Tests.live_of (by decide +kernel)

/-- The clip does not rise, so that the counter stays as it is. -/
theorem overcounted_stays : ∃ v, exec (.complianceIntegrationEnd 1000000000000 0 0 [(42, -489), (43, -485)]) overcounted = .next v ∧
    v.lval 0 0 0x200C 5 = 0x100000000 := by
  refine ⟨_, rfl, ?_⟩
  decide +kernel

/-- Refutes O28: a clip at 20 dB does not rise, and the counter of clips then keeps a value above the largest of its width. -/
theorem not_complianceCommandsComplete : ¬ Obligations.ComplianceCommandsComplete := by
  unfold Obligations.ComplianceCommandsComplete
  intro h
  obtain ⟨hend, -⟩ := h.1 overcounted 1000000000000 0 0 3 1500 [(42, -489), (43, -485)] overcounted_live (by decide +kernel) (by decide)
    (by decide +kernel) (by decide +kernel)
  obtain ⟨hclips, -⟩ := hend (by decide +kernel)
  obtain ⟨u, hu, -, -, -, -, -, -, -, hcount, -⟩ := hclips (by decide +kernel) (by decide)
  obtain ⟨v, hv, hstays⟩ := overcounted_stays
  obtain rfl : u = v := Host.Outcome.next.inj (hu.symm.trans hv)
  exact absurd (hstays.symm.trans hcount) (by decide +kernel)

end Sys2Proof.Machine
end

section
/-! What a lane sends: its line, its beacon, its restart and the end of its frame (R131, R238, R245, R253). -/

set_option Elab.async false

namespace Sys2Proof.Machine

section LaneTransmit

variable {ps : List Part} {s u v : State} {t p l n : Nat} {x : Lane} {f : TxFrame}

/-! ## The transmit side of a lane -/

/-- A transmit side with a frame on its line. -/
def LaneTx.sending (f : TxFrame) (x : LaneTx) : LaneTx := { x with onLine := some f, frozenSet := false }

/-- A transmit side with nothing on its line. -/
def LaneTx.silent (x : LaneTx) : LaneTx := { x with onLine := none, frozenSet := false }

/-- A transmit side whose beacon of the cycle has started. -/
def LaneTx.beaconStarted (cycle : Nat) (x : LaneTx) : LaneTx := { x with beaconDue := false, beaconCycle := some cycle }

/-- A transmit side that owes its beacon. -/
def LaneTx.owingBeacon (x : LaneTx) : LaneTx := { x with beaconDue := true }

/-- A transmit side whose mute is over. -/
def LaneTx.restarted (x : LaneTx) : LaneTx := { x with restart := none }

/-- A transmit side whose grant has lapsed. -/
def LaneTx.ungranted (x : LaneTx) : LaneTx := { x with grant := none }

/-! ## A frame goes on the line -/

theorem raiseItems_keeps_self (s : State) (src : Nat) : Keeps [.dict, .hier] s (s.raiseItems src) :=
  State.raiseItems_keeps (.refl _ s) src (by decide) (by decide)

/-- A frame that a lane has put on its line leaves the module symbol by symbol; on a G lane it is counted in place of them. -/
theorem State.putOnLine_eq (s : State) (p l : Nat) (f : TxFrame) :
    s.putOnLine p l f = (if s.laneKind p l = 3 then ((s.raiseItems (srcLane p l)).setTx p l ((s.lane p l).tx.sending f)).bump 0x28F0 5
      else ((s.raiseItems (srcLane p l)).setTx p l ((s.lane p l).tx.sending f)).radiate p l 0 (f.points (s.laneKind p l) (s.laneM p l))).emit
        (.lineFrame p l f.mac f.prof f.nsym) := rfl

theorem Laned.putOnLine (h : Laned p l x s u) (hl : l < 4) (f : TxFrame) : Laned p l (x.updTx (·.sending f)) s (u.putOnLine p l f) := by
  have hraise : (u.raiseItems (srcLane p l)).lane p l = u.lane p l :=
    State.lane_congr ((raiseItems_keeps_self u _).frame .lanes (by decide)) p l
  have htx := (h.keeps (raiseItems_keeps_self u (srcLane p l))).updTx hl (·.sending f)
  rw [hraise] at htx
  rw [State.putOnLine_eq]
  split
  · exact (htx.bumpKey _ 1).keeps (ps := [.out]) (State.emit_keeps (.refl _ _) _ (by decide))
  · exact htx.keeps (ps := [.out]) (State.emit_keeps (State.radiate_keeps (.refl _ _) p l 0 _ (by decide)) _ (by decide))

theorem putOnLine_out (hk : s.laneKind p l ≠ 3) (f : TxFrame) : ∃ sent samples,
    (s.putOnLine p l f).out = .lineFrame p l f.mac f.prof f.nsym :: .lineSymbols p l 0 sent samples :: s.out := by
  rw [State.putOnLine_eq, if_neg hk]
  exact ⟨_, _, rfl⟩

theorem putOnLine_raw (hk : s.laneKind p l ≠ 3) (f : TxFrame) {k : Nat} (h : k ≠ keyOf 0x28F0 4) : (s.putOnLine p l f).raw k = s.raw k := by
  rw [State.putOnLine_eq, if_neg hk]
  exact State.raw_bumpKey_ne _ _ h

/-- A counter of four bytes counts. -/
theorem State.val_bump_wide (s : State) {i j : Nat} (hwidth : (defaultOf s.variant (keyOf i j)).length = 4) :
    (s.bump i j).val i j = min 0xFFFFFFFF (s.val i j + 1) := by
  have h := State.ofBE_raw_bumpKey_self s (keyOf i j) 1
  rw [hwidth] at h
  exact h

/-! ## The beacon -/

theorem beaconCounter_width (w : Variant) : (defaultOf w (keyOf 0x3190 1)).length = 4 := by cases w <;> decide +kernel

/-- The frame of a lane's beacon. -/
def State.beaconFrame (s : State) (p l n : Nat) : TxFrame :=
  s.frameNow p l .beacon (broadcastFrame 3 (s.beaconBody p l)) 1 n (s.beaconMode p l)

theorem startBeacon_eq (h : nsymFor (s.capacities p l (s.beaconMode p l) (s.maxNsym (s.beaconProfile p l))) (s.beaconBody p l).length = some n) :
    s.startBeacon p l = ((s.putOnLine p l (s.beaconFrame p l n)).bump 0x3190 1).setTx p l
      ((((s.putOnLine p l (s.beaconFrame p l n)).bump 0x3190 1).lane p l).tx.beaconStarted s.cycleNow) := by
  unfold State.startBeacon
  dsimp only
  rw [show (s.beaconMode p l).prof = s.beaconProfile p l from rfl, h]
  rfl

/-- A lane whose beacon has started. -/
def Lane.beaconing (x : Lane) (f : TxFrame) (cycle : Nat) : Lane := (x.updTx (·.sending f)).updTx (·.beaconStarted cycle)

theorem Laned.startBeacon (hl : l < 4)
    (h : nsymFor (s.capacities p l (s.beaconMode p l) (s.maxNsym (s.beaconProfile p l))) (s.beaconBody p l).length = some n) :
    Laned p l ((s.lane p l).beaconing (s.beaconFrame p l n) s.cycleNow) s (s.startBeacon p l) := by
  rw [startBeacon_eq h]
  exact ((((Laned.refl s p l).putOnLine hl _).bumpKey _ 1).updTx hl _)

theorem startBeacon_raw (hk : s.laneKind p l ≠ 3)
    (h : nsymFor (s.capacities p l (s.beaconMode p l) (s.maxNsym (s.beaconProfile p l))) (s.beaconBody p l).length = some n) {k : Nat}
    (h₁ : k ≠ keyOf 0x3190 1) (h₂ : k ≠ keyOf 0x28F0 4) : (s.startBeacon p l).raw k = s.raw k := by
  rw [startBeacon_eq h]
  have hbump : ((s.putOnLine p l (s.beaconFrame p l n)).bump 0x3190 1).raw k = (s.putOnLine p l (s.beaconFrame p l n)).raw k :=
    State.raw_bumpKey_ne _ _ h₁
  exact hbump.trans (putOnLine_raw hk _ h₂)

theorem startBeacon_counted (hk : s.laneKind p l ≠ 3)
    (h : nsymFor (s.capacities p l (s.beaconMode p l) (s.maxNsym (s.beaconProfile p l))) (s.beaconBody p l).length = some n) :
    (s.startBeacon p l).val 0x3190 1 = min 0xFFFFFFFF (s.val 0x3190 1 + 1) := by
  have hraw : (s.putOnLine p l (s.beaconFrame p l n)).val 0x3190 1 = s.val 0x3190 1 := congrArg ofBE (putOnLine_raw hk _ (by decide))
  rw [startBeacon_eq h, ← hraw]
  exact State.val_bump_wide (s.putOnLine p l (s.beaconFrame p l n)) (beaconCounter_width _)

theorem startBeacon_out (hk : s.laneKind p l ≠ 3)
    (h : nsymFor (s.capacities p l (s.beaconMode p l) (s.maxNsym (s.beaconProfile p l))) (s.beaconBody p l).length = some n) :
    ∃ sent samples, (s.startBeacon p l).out =
      .lineFrame p l (s.beaconFrame p l n).mac (s.beaconProfile p l) n :: .lineSymbols p l 0 sent samples :: s.out := by
  rw [startBeacon_eq h]
  exact putOnLine_out hk (s.beaconFrame p l n)

theorem State.startBeacon_keeps_self (s : State) (p l : Nat) : Keeps [.out, .dict, .hier, .lanes] s (s.startBeacon p l) :=
  State.startBeacon_keeps (.refl _ s) p l (by decide) (by decide) (by decide) (by decide)

theorem laneKind_of_isNativeData (h : s.isNativeData p l = true) : s.laneKind p l ≠ 3 := by
  unfold State.isNativeData at h
  intro hk
  simp [hk] at h

theorem not_isNativeData_of_laneKind (h : s.laneKind p l = 3) : s.isNativeData p l = false :=
  Bool.eq_false_iff.mpr fun hn => laneKind_of_isNativeData hn h

/-! ## The end of a restart -/

/-- A lane with another receive side. -/
def Lane.withRx (x : Lane) (r : LaneRx) : Lane := { x with rx := r }

theorem Laned.setRx (h : Laned p l x s u) (hl : l < 4) (r : LaneRx) : Laned p l (x.withRx r) s (u.setRx p l r) := by
  have hset := h.setLane hl ((u.lane p l).withRx r)
  rw [h.1] at hset
  unfold State.setRx
  rw [h.1]
  exact hset

theorem State.laneState_active (hk : s.laneKind p l ≠ 0) (hrun : s.running p = true) (hrestart : (s.lane p l).tx.restart = none)
    (hadd : (s.port p).adding.contains (s.laneBand p l) = false) : 2 ≤ s.laneState p l := by
  unfold State.laneState
  rw [if_neg hk, if_neg (by simp only [hrun, hrestart, hadd]; decide)]
  split <;> decide

theorem State.laneState_inactive (h : s.laneKind p l = 0 ∨ s.running p = false) : s.laneState p l < 2 := by
  unfold State.laneState
  rcases h with hk | hrun
  · rw [if_pos hk]; decide
  · rw [hrun]
    split
    · decide
    · rw [if_pos (by simp)]; decide

/-- A receive path that searches from `tsc` on. -/
def LaneRx.searching (tsc : Nat) (x : LaneRx) : LaneRx := { x with state := .search, reelAt := tsc, searchAt := tsc }

theorem settleRx_off (h : (s.lane p l).rx.state = .off) :
    s.settleRx p l = if 2 ≤ s.laneState p l then s.setRx p l ((s.lane p l).rx.searching s.tsc) else s := by
  unfold State.settleRx
  dsimp only
  by_cases hon : 2 ≤ s.laneState p l
  · rw [if_pos ⟨decide_eq_true hon, h⟩, if_pos hon]
    rfl
  · rw [if_neg (fun c => hon (of_decide_eq_true c.1)), if_neg (fun c => c.2 h), if_neg hon]

theorem settleRx_off_keeps (h : (s.lane p l).rx.state = .off) : Keeps [.lanes] s (s.settleRx p l) := by
  rw [settleRx_off h]
  exact Keeps.ite (State.setRx_keeps (.refl _ s) p l _ (by decide)) (.refl _ s)

theorem settleRx_off_lane (hl : l < 4) (h : (s.lane p l).rx.state = .off) :
    ((s.settleRx p l).lane p l).tx = (s.lane p l).tx ∧ (∀ q m, m < 4 → ¬ (q = p ∧ m = l) → (s.settleRx p l).lane q m = s.lane q m) ∧
    (2 ≤ s.laneState p l → ((s.settleRx p l).lane p l).rx = (s.lane p l).rx.searching s.tsc) ∧
    (¬ 2 ≤ s.laneState p l → ((s.settleRx p l).lane p l).rx = (s.lane p l).rx) := by
  rw [settleRx_off h]
  split
  · rename_i hon
    obtain ⟨hlane, hother⟩ := (Laned.refl s p l).setRx hl ((s.lane p l).rx.searching s.tsc)
    exact ⟨(congrArg Lane.tx hlane :), hother, fun _ => (congrArg Lane.rx hlane :), fun hoff => absurd hon hoff⟩
  · rename_i hoff
    exact ⟨rfl, fun _ _ _ _ => rfl, fun hon => absurd hon hoff, fun _ => rfl⟩

/-- What the end of a lane's mute leaves. -/
def State.unmuted (s : State) (p l : Nat) : State := s.setTx p l (s.lane p l).tx.restarted

theorem unmuted_laned (s : State) (p : Nat) (hl : l < 4) : Laned p l ((s.lane p l).updTx LaneTx.restarted) s (s.unmuted p l) :=
  (Laned.refl s p l).updTx hl LaneTx.restarted

theorem exec_laneRestartEnd (hp : s.rst.powered = true) (hr : (s.lane p l).tx.restart = some n) (h : n ≤ max s.tsc t / 40000) :
    exec (.laneRestartEnd t p l) s = .next (((s.upTo t).unmuted p l).settleRx p l) := by
  show execLaneRestartEnd t p l s = _
  unfold execLaneRestartEnd
  rw [State.run_powered hp]
  simp only [State.upTo_lane, hr]
  exact congrArg Host.Outcome.next (if_pos h)

theorem exec_laneRestartEnd_early (hp : s.rst.powered = true) (hr : (s.lane p l).tx.restart = some n) (h : max s.tsc t / 40000 < n) :
    exec (.laneRestartEnd t p l) s = .next (s.upTo t) := by
  show execLaneRestartEnd t p l s = _
  unfold execLaneRestartEnd
  rw [State.run_powered hp]
  simp only [State.upTo_lane, hr]
  exact congrArg Host.Outcome.next (if_neg (Nat.not_le.mpr h))

end LaneTransmit

end Sys2Proof.Machine
end

section
/-! The end of a restart, of a frame and of a grant, and the beacon of a lane, by command (R131, R238, R239, R245, R253). -/

set_option Elab.async false

namespace Sys2Proof.Machine

section LaneTransmission

variable {s u : State} {t p l n : Nat} {f : TxFrame}

theorem Keeps.port {ps : List Part} (h : Keeps ps s u) (p : Nat) (hps : Part.ports ∉ ps := by decide) : u.port p = s.port p := by
  unfold State.port
  rw [h.frame .ports hps]

theorem Keeps.lval {ps : List Part} (h : Keeps ps s u) (p l i j : Nat) (hps : Part.dict ∉ ps := by decide) :
    u.lval p l i j = s.lval p l i j := congrArg ofBE (h.raw _ hps)

theorem Keeps.val {ps : List Part} (h : Keeps ps s u) (i j : Nat) (hps : Part.dict ∉ ps := by decide) : u.val i j = s.val i j :=
  congrArg ofBE (h.raw _ hps)

/-! ## The end of a restart -/

theorem restartEnd_did (hp : s.rst.powered = true) (hl : l < 4) (hr : (s.lane p l).tx.restart = some n) (hn : n ≤ max s.tsc t / 40000)
    (hoff : (s.lane p l).rx.state = .off) :
    ∃ u, exec (.laneRestartEnd t p l) s = .next u ∧ Did t [.lanes] s u ∧ (u.lane p l).tx = { (s.lane p l).tx with restart := none } ∧
      (s.laneKind p l ≠ 0 → s.running p = true → (s.port p).adding.contains (s.laneBand p l) = false →
        u.laneState p l ≠ 1 ∧
        (u.lane p l).rx = { (s.lane p l).rx with state := .search, reelAt := max s.tsc t, searchAt := max s.tsc t }) ∧
      (s.laneKind p l = 0 ∨ s.running p = false → (u.lane p l).rx = (s.lane p l).rx) ∧
      ∀ q m, m < 4 → ¬(q = p ∧ m = l) → u.lane q m = s.lane q m := by
  obtain ⟨hlane, hother⟩ := unmuted_laned (s.upTo t) p hl
  have hrx : (((s.upTo t).unmuted p l).lane p l).rx = (s.lane p l).rx := (congrArg Lane.rx hlane :)
  have hoff' : (((s.upTo t).unmuted p l).lane p l).rx.state = .off := (congrArg LaneRx.state hrx).trans hoff
  obtain ⟨htx, hothers, hon, hidle⟩ := settleRx_off_lane hl hoff'
  have hkeeps : Keeps [.lanes] (s.upTo t) (((s.upTo t).unmuted p l).settleRx p l) :=
    Keeps.trans (State.setTx_keeps (.refl _ _) p l _ (by decide)) (settleRx_off_keeps hoff')
  have htx' : ((((s.upTo t).unmuted p l).settleRx p l).lane p l).tx = (s.lane p l).tx.restarted := htx.trans (congrArg Lane.tx hlane :)
  refine ⟨_, exec_laneRestartEnd hp hr hn, .of_keeps hkeeps (by decide), htx', ?_, ?_, ?_⟩
  · intro hk hrun hadd
    have hactive : ∀ u : State, u.laneKind p l = s.laneKind p l → u.running p = s.running p → (u.lane p l).tx.restart = none →
        (u.port p).adding = (s.port p).adding → u.laneBand p l = s.laneBand p l → 2 ≤ u.laneState p l := by
      intro u h₁ h₂ h₃ h₄ h₅
      exact State.laneState_active (h₁ ▸ hk) (h₂.trans hrun) h₃ (by rw [h₄, h₅]; exact hadd)
    have hnow := hactive ((s.upTo t).unmuted p l) rfl rfl (congrArg (fun x : Lane => x.tx.restart) hlane) rfl rfl
    refine ⟨?_, (hon hnow).trans (congrArg (LaneRx.searching (max s.tsc t)) hrx)⟩
    have hport := hkeeps.port p
    have hlater := hactive (((s.upTo t).unmuted p l).settleRx p l) (hkeeps.lval ..) (congrArg (fun x : Port => x.state == .running) hport)
      (congrArg LaneTx.restart htx') (congrArg Port.adding hport) (congrArg (fun k => if k = 2 then Band.bb else Band.nb) (hkeeps.lval ..))
    omega
  · intro hidle'
    have hstate : ((s.upTo t).unmuted p l).laneState p l < 2 := State.laneState_inactive hidle'
    exact (hidle (by omega)).trans hrx
  · exact fun q m hm hq => (hothers q m hm hq).trans (hother q m hm hq)

/-! ## The end of a frame -/

/-- A fragment whose frame of the sequence number has ended awaits its acknowledgement from the slot on. -/
def InFlight.awaits (seq slot : Nat) (y : InFlight) : InFlight := if y.seq = seq then { y with ended := some slot } else y

/-- A spool whose frame of the sequence number has ended. -/
def Spool.awaiting (seq slot : Nat) (x : Spool) : Spool := { x with flight := x.flight.map (InFlight.awaits seq slot) }

theorem InFlight.awaits_seq (seq slot : Nat) (y : InFlight) : (y.awaits seq slot).seq = y.seq := by
  unfold InFlight.awaits
  split <;> rfl

theorem Spool.awaiting_seqs (seq slot : Nat) (x : Spool) : (x.awaiting seq slot).flight.map InFlight.seq = x.flight.map InFlight.seq := by
  show (x.flight.map (InFlight.awaits seq slot)).map InFlight.seq = _
  rw [List.map_map]
  exact List.map_congr_left fun y _ => y.awaits_seq seq slot

theorem Spool.awaiting_ended {seq slot : Nat} {x : Spool} {y : InFlight} (hy : y ∈ (x.awaiting seq slot).flight) (h : y.seq = seq) :
    y.ended = some slot := by
  obtain ⟨z, -, rfl⟩ := List.mem_map.mp hy
  rw [InFlight.awaits_seq] at h
  unfold InFlight.awaits
  rw [if_pos h]

theorem clearLine_laned (s : State) (p : Nat) (hl : l < 4) : Laned p l ((s.lane p l).updTx LaneTx.silent) s (s.clearLine p l) :=
  (Laned.refl s p l).updTx hl LaneTx.silent

theorem clearLine_keeps_self (s : State) (p l : Nat) : Keeps [.lanes] s (s.clearLine p l) :=
  State.clearLine_keeps (.refl _ s) p l (by decide)

theorem endFrame_data (h : f.kind = .data) : s.endFrame p l f =
    (s.clearLine p l).setSpool f.spool (((s.clearLine p l).spool f.spool).awaiting f.mac.seq (s.clearLine p l).tether.slotCount) := by
  unfold State.endFrame
  rw [h]
  rfl

theorem endFrame_broadcast (h : f.kind = .broadcast) : s.endFrame p l f = (s.clearLine p l).broadcastSent f.handle (4 * p + l) := by
  unfold State.endFrame
  rw [h]

theorem endFrame_other (h₁ : f.kind ≠ .data) (h₂ : f.kind ≠ .broadcast) : s.endFrame p l f = s.clearLine p l := by
  unfold State.endFrame
  cases hk : f.kind with
  | data => exact absurd hk h₁
  | broadcast => exact absurd hk h₂
  | _ => rfl

theorem exec_laneFrameEnd (hp : s.rst.powered = true) (hf : (s.lane p l).tx.onLine = some f) (h : f.start + s.lineNs p l f ≤ max s.tsc t) :
    exec (.laneFrameEnd t p l) s = .next ((s.upTo t).endFrame p l f) := by
  show execLaneFrameEnd t p l s = _
  unfold execLaneFrameEnd
  rw [State.run_powered hp]
  simp only [State.upTo_lane, hf]
  exact congrArg Host.Outcome.next (if_pos h)

theorem exec_laneFrameEnd_early (hp : s.rst.powered = true) (hf : (s.lane p l).tx.onLine = some f)
    (h : max s.tsc t < f.start + s.lineNs p l f) : exec (.laneFrameEnd t p l) s = .next (s.upTo t) := by
  show execLaneFrameEnd t p l s = _
  unfold execLaneFrameEnd
  rw [State.run_powered hp]
  simp only [State.upTo_lane, hf]
  exact congrArg Host.Outcome.next (if_neg (Nat.not_le.mpr h))

/-- What the end of any frame leaves of the lanes. -/
theorem Laned.silent_parts (h : Laned p l ((s.lane p l).updTx LaneTx.silent) s u) : (u.lane p l).tx.onLine = none ∧
    (u.lane p l).rx = (s.lane p l).rx ∧ ∀ q m, m < 4 → ¬(q = p ∧ m = l) → u.lane q m = s.lane q m :=
  ⟨(congrArg (fun x : Lane => x.tx.onLine) h.1 :), (congrArg Lane.rx h.1 :), h.2⟩

theorem frameEnd_data (hp : s.rst.powered = true) (hl : l < 4) (hf : (s.lane p l).tx.onLine = some f)
    (h : f.start + s.lineNs p l f ≤ max s.tsc t) (hk : f.kind = .data) :
    ∃ u, exec (.laneFrameEnd t p l) s = .next u ∧ Did t [.lanes, .spools] s u ∧ (u.lane p l).tx.onLine = none ∧
      (u.lane p l).rx = (s.lane p l).rx ∧ (∀ q m, m < 4 → ¬(q = p ∧ m = l) → u.lane q m = s.lane q m) ∧
      (u.spool f.spool).queue = (s.spool f.spool).queue ∧ (∀ k, k ≠ f.spool → u.spool k = s.spool k) ∧
      (∀ y ∈ (u.spool f.spool).flight, y.seq = f.mac.seq → y.ended = some s.tether.slotCount) ∧
      (u.spool f.spool).flight.map InFlight.seq = (s.spool f.spool).flight.map InFlight.seq := by
  have hlane : Laned p l ((s.lane p l).updTx LaneTx.silent) (s.upTo t) ((s.upTo t).endFrame p l f) := by
    rw [endFrame_data hk]
    exact (clearLine_laned (s.upTo t) p hl).keeps (ps := [.spools]) (State.setSpool_keeps (.refl _ _) _ _ (by decide))
  have hkeeps : Keeps [.lanes, .spools] (s.upTo t) ((s.upTo t).endFrame p l f) := by
    rw [endFrame_data hk]
    exact State.setSpool_keeps (State.clearLine_keeps (.refl _ _) p l (by decide)) _ _ (by decide)
  have hself : ((s.upTo t).endFrame p l f).spool f.spool = (s.spool f.spool).awaiting f.mac.seq s.tether.slotCount := by
    rw [endFrame_data hk]
    exact State.spool_setSpool_self _ _ _
  obtain ⟨hline, hrx, hother⟩ := hlane.silent_parts
  refine ⟨_, exec_laneFrameEnd hp hf h, .of_keeps hkeeps (by decide), hline, hrx, hother, ?_, fun k hk' => ?_, fun y hy hseq => ?_, ?_⟩
  · rw [hself]; rfl
  · rw [endFrame_data hk]
    exact State.spool_setSpool_ne _ _ _ hk'
  · rw [hself] at hy
    exact Spool.awaiting_ended hy hseq
  · rw [hself]
    exact Spool.awaiting_seqs _ _ _

theorem frameEnd_other (hp : s.rst.powered = true) (hl : l < 4) (hf : (s.lane p l).tx.onLine = some f)
    (h : f.start + s.lineNs p l f ≤ max s.tsc t) (h₁ : f.kind ≠ .data) (h₂ : f.kind ≠ .broadcast) :
    ∃ u, exec (.laneFrameEnd t p l) s = .next u ∧ Did t [.lanes] s u ∧ (u.lane p l).tx.onLine = none ∧
      (u.lane p l).rx = (s.lane p l).rx ∧ ∀ q m, m < 4 → ¬(q = p ∧ m = l) → u.lane q m = s.lane q m := by
  refine ⟨_, exec_laneFrameEnd hp hf h, ?_⟩
  rw [endFrame_other h₁ h₂]
  exact ⟨.of_keeps (clearLine_keeps_self _ p l) (by decide), (clearLine_laned (s.upTo t) p hl).silent_parts⟩

theorem frameEnd_broadcast (hp : s.rst.powered = true) (hl : l < 4) (hf : (s.lane p l).tx.onLine = some f)
    (h : f.start + s.lineNs p l f ≤ max s.tsc t) (hk : f.kind = .broadcast) :
    ∃ u, exec (.laneFrameEnd t p l) s = .next u ∧ Did t [.out, .lanes, .spools, .pages] s u ∧ (u.lane p l).tx.onLine = none ∧
      (u.lane p l).rx = (s.lane p l).rx ∧ ∀ q m, m < 4 → ¬(q = p ∧ m = l) → u.lane q m = s.lane q m := by
  have hsent : Keeps [.out, .spools, .pages] ((s.upTo t).clearLine p l) ((s.upTo t).endFrame p l f) := by
    rw [endFrame_broadcast hk]
    exact State.broadcastSent_keeps (.refl _ _) _ _ (by decide) (by decide) (by decide)
  refine ⟨_, exec_laneFrameEnd hp hf h, ?_, ((clearLine_laned (s.upTo t) p hl).keeps hsent).silent_parts⟩
  exact .of_keeps ((clearLine_keeps_self (s.upTo t) p l).mono.trans hsent.mono) (by decide)

/-! ## The end of a grant -/

/-- What the lapse of a lane's grant leaves. -/
def State.grantLapsed (s : State) (p l : Nat) : State := (s.setTx p l (s.lane p l).tx.ungranted).bump 0x3190 3

theorem exec_grantLapse (hp : s.rst.powered = true) {e m d : Nat} (hg : (s.lane p l).tx.grant = some (e, m, d))
    (h : d ≤ max s.tsc t ∧ s.grantHeard p l d = false) : exec (.grantLapse t p l) s = .next ((s.upTo t).grantLapsed p l) := by
  show execGrantLapse t p l s = _
  unfold execGrantLapse
  rw [State.run_powered hp]
  simp only [State.upTo_lane, hg]
  exact congrArg Host.Outcome.next (if_pos h)

theorem exec_grantLapse_stands (hp : s.rst.powered = true) {e m d : Nat} (hg : (s.lane p l).tx.grant = some (e, m, d))
    (h : max s.tsc t < d ∨ s.grantHeard p l d = true) : exec (.grantLapse t p l) s = .next (s.upTo t) := by
  show execGrantLapse t p l s = _
  unfold execGrantLapse
  rw [State.run_powered hp]
  simp only [State.upTo_lane, hg]
  refine congrArg Host.Outcome.next (if_neg fun hc => ?_)
  obtain ⟨hdue, hsilent⟩ := hc
  rcases h with hlt | hheard
  · exact absurd hdue (Nat.not_le.mpr hlt)
  · exact Bool.noConfusion (hheard.symm.trans hsilent)

theorem grantLapse_did (hp : s.rst.powered = true) (hl : l < 4) {e m d : Nat} (hg : (s.lane p l).tx.grant = some (e, m, d))
    (h : d ≤ max s.tsc t ∧ s.grantHeard p l d = false) :
    ∃ u, exec (.grantLapse t p l) s = .next u ∧ Did t [.lanes, .dict] s u ∧
      (u.lane p l).tx = { (s.lane p l).tx with grant := none } ∧ (u.lane p l).rx = (s.lane p l).rx ∧
      (∀ q m, m < 4 → ¬(q = p ∧ m = l) → u.lane q m = s.lane q m) ∧ Counted [keyOf 0x3190 3] s u := by
  obtain ⟨hlane, hother⟩ := (((Laned.refl (s.upTo t) p l).updTx hl LaneTx.ungranted).bumpKey (keyOf 0x3190 3) 1)
  refine ⟨_, exec_grantLapse hp hg h, .of_keeps (State.bump_keeps (State.setTx_keeps (.refl _ _) p l _ (by decide)) _ _ (by decide)) (by decide),
    (congrArg Lane.tx hlane :), (congrArg Lane.rx hlane :), hother, ?_⟩
  exact State.counted_bump ((s.upTo t).setTx p l (s.lane p l).tx.ungranted) 0x3190 3

/-! ## The beacon of a lane -/

theorem exec_laneFrameStart_native (hp : s.rst.powered = true) (hport : s.hasPort p = true) (hl : l < 4) (hn : s.isNativeData p l = true)
    (h : s.laneState p l = 2) : exec (.laneFrameStart t p l) s = .next ((s.upTo t).startFrame p l) := by
  have hdata : s.isDataLane p l = true := by unfold State.isDataLane; rw [hn]; rfl
  show execLaneFrameStart t p l s = _
  unfold execLaneFrameStart
  rw [State.run_powered hp]
  exact congrArg Host.Outcome.next ((if_pos ⟨hport, hl, hdata, h⟩).trans (if_pos hn))

theorem exec_laneFrameStart_busy (hp : s.rst.powered = true) (h : s.laneState p l ≠ 2) :
    exec (.laneFrameStart t p l) s = .next (s.upTo t) := by
  show execLaneFrameStart t p l s = _
  unfold execLaneFrameStart
  rw [State.run_powered hp]
  exact congrArg Host.Outcome.next (if_neg fun hc => h hc.2.2.2)

theorem exec_laneFrameStart_g9903 (hp : s.rst.powered = true) (hk : s.laneKind p l = 3)
    (h : (s.upTo t).slotType (s.upTo t).slotNow ≠ 4) : exec (.laneFrameStart t p l) s = .next (s.upTo t) := by
  have hnative : (s.upTo t).isNativeData p l = false := not_isNativeData_of_laneKind hk
  have hstart : (s.upTo t).startG9903 p l = s.upTo t := by
    unfold State.startG9903
    exact if_pos h
  show execLaneFrameStart t p l s = _
  unfold execLaneFrameStart
  rw [State.run_powered hp]
  refine congrArg Host.Outcome.next ?_
  rw [hnative, hstart]
  exact ite_self _

theorem beaconStart_did (hp : s.rst.powered = true) (hl : l < 4)
    (hfits : nsymFor ((s.upTo t).capacities p l (s.beaconMode p l) (s.maxNsym (s.beaconProfile p l))) ((s.upTo t).beaconBody p l).length = some n)
    (hport : s.hasPort p = true) (hn : s.isNativeData p l = true) (hidle : s.laneState p l = 2) (hdue : (s.lane p l).tx.beaconDue = true) :
    ∃ u, exec (.laneFrameStart t p l) s = .next u ∧ Did t [.out, .dict, .hier, .lanes] s u ∧ (u.lane p l).tx.beaconDue = false ∧
      (u.lane p l).tx.beaconCycle = some (s.upTo t).cycleNow ∧ u.val 0x3190 1 = min 0xFFFFFFFF (s.val 0x3190 1 + 1) ∧
      (∀ k, k ≠ keyOf 0x3190 1 → k ≠ keyOf 0x28F0 4 → u.raw k = s.raw k) ∧
      (∃ f x y, (u.lane p l).tx.onLine = some f ∧ f.kind = .beacon ∧ f.nsym = n ∧ f.prof = s.beaconProfile p l ∧ f.start = max s.tsc t ∧
        f.mac.type = 3 ∧ f.mac.body = (s.upTo t).beaconBody p l ∧ u.out = .lineFrame p l f.mac f.prof n :: .lineSymbols p l 0 x y :: s.out) ∧
      ∀ q m, m < 4 → ¬(q = p ∧ m = l) → u.lane q m = s.lane q m := by
  have hkind := laneKind_of_isNativeData (s := s.upTo t) hn
  have hstart : (s.upTo t).startFrame p l = (s.upTo t).startBeacon p l := by
    unfold State.startFrame
    exact if_pos hdue
  obtain ⟨hlane, hother⟩ := Laned.startBeacon (s := s.upTo t) hl hfits
  obtain ⟨sent, samples, hout⟩ := startBeacon_out (s := s.upTo t) hkind hfits
  have htx := congrArg Lane.tx hlane
  refine ⟨_, (exec_laneFrameStart_native hp hport hl hn hidle).trans (congrArg Host.Outcome.next hstart),
    .of_keeps (State.startBeacon_keeps_self _ p l) (by decide), (congrArg LaneTx.beaconDue htx :), (congrArg LaneTx.beaconCycle htx :),
    startBeacon_counted (s := s.upTo t) hkind hfits, fun k h₁ h₂ => startBeacon_raw (s := s.upTo t) hkind hfits h₁ h₂,
    ⟨(s.upTo t).beaconFrame p l n, sent, samples, (congrArg LaneTx.onLine htx :), rfl, rfl, rfl, rfl, rfl, rfl, hout⟩, hother⟩

/-! ## The beacons of the module -/

/-- The lanes that owe the beacon of this cycle. -/
def State.beaconLanes (s : State) : List (Nat × Nat) := s.allLanes.filter fun pl => s.beaconOwed pl.1 pl.2

/-- A lane owes its beacon. -/
def State.oweBeacon (s : State) (p l : Nat) : State := s.setTx p l (s.lane p l).tx.owingBeacon

theorem exec_beaconSend_one (hp : s.rst.powered = true) (hslot : (s.upTo t).slotNow = s.beaconSlot)
    (hcycle : s.beaconCycle (s.upTo t).cycleNow = true) (hguard : (s.upTo t).slotAhead 0 + s.guardNs ≤ max s.tsc t)
    (hlanes : (s.upTo t).beaconLanes = [(p, l)]) : exec (.beaconSend t) s = .next
      (if s.laneState p l = 2 then (s.upTo t).startBeacon p l else (s.upTo t).oweBeacon p l) := by
  show execBeaconSend t s = _
  unfold execBeaconSend
  rw [State.run_powered hp]
  refine congrArg Host.Outcome.next ((if_pos ⟨hslot, hcycle, hguard⟩).trans ?_)
  show (s.upTo t).each (s.upTo t).beaconLanes _ = _
  rw [hlanes]
  rfl

theorem exec_beaconSend_elsewhere (hp : s.rst.powered = true) (hslot : (s.upTo t).slotNow ≠ s.beaconSlot) :
    exec (.beaconSend t) s = .next (s.upTo t) := by
  show execBeaconSend t s = _
  unfold execBeaconSend
  rw [State.run_powered hp]
  exact congrArg Host.Outcome.next (if_neg fun hc => hslot hc.1)

/-- Settles O29, command by command: the end of a lane's mute, of its frame and of its grant, and its beacon. -/
theorem laneTransmissionComplete : Obligations.LaneTransmissionComplete := by
  unfold Obligations.LaneTransmissionComplete
  constructor
  · intro s t p l hs hport hl
    obtain ⟨-, hp⟩ := hs
    refine ⟨fun n hr hn hoff => restartEnd_did hp hl hr hn hoff, fun n hr hn => Did.answer_upTo (exec_laneRestartEnd_early hp hr hn),
      fun f hf h => ⟨frameEnd_data hp hl hf h, frameEnd_other hp hl hf h, frameEnd_broadcast hp hl hf h⟩,
      fun f hf h => Did.answer_upTo (exec_laneFrameEnd_early hp hf h),
      fun e m d hg => ⟨fun hdue hsilent => grantLapse_did hp hl hg ⟨hdue, hsilent⟩,
        fun h => Did.answer_upTo (exec_grantLapse_stands hp hg h)⟩⟩
  · intro s t p l n hs hl hfits
    obtain ⟨-, hp⟩ := hs
    refine ⟨beaconStart_did hp hl hfits, fun h => Did.answer_upTo (exec_laneFrameStart_busy hp h),
      fun hk h => Did.answer_upTo (exec_laneFrameStart_g9903 hp hk h), fun hslot hcycle hguard hlanes => ⟨fun hidle => ?_, fun hbusy => ?_⟩,
      fun h => Did.answer_upTo (exec_beaconSend_elsewhere hp h)⟩
    · obtain ⟨hlane, hother⟩ := Laned.startBeacon (s := s.upTo t) hl hfits
      have htx := congrArg Lane.tx hlane
      exact ⟨_, (exec_beaconSend_one hp hslot hcycle hguard hlanes).trans (congrArg Host.Outcome.next (if_pos hidle)),
        .of_keeps (State.startBeacon_keeps_self _ p l) (by decide), (congrArg LaneTx.beaconCycle htx :),
        ⟨_, (congrArg LaneTx.onLine htx :), rfl, rfl, rfl⟩, hother⟩
    · obtain ⟨hlane, hother⟩ := (Laned.refl (s.upTo t) p l).updTx hl LaneTx.owingBeacon
      exact ⟨_, (exec_beaconSend_one hp hslot hcycle hguard hlanes).trans (congrArg Host.Outcome.next (if_neg hbusy)),
        .of_keeps (State.setTx_keeps (.refl [.lanes] _) p l _ (by decide)) (by decide), hlane, hother⟩

end LaneTransmission

end Sys2Proof.Machine
end

section
/-! The start of a spool's packet (R253, R256). -/

set_option Elab.async false

namespace Sys2Proof.Machine

section DataStart

variable {ps : List Part} {s u v : State} {t p l k n : Nat} {f : TxFrame}

/-! ## Frames on the lines -/

/-- Every lane has on its line what it had. -/
def SameLines (s u : State) : Prop := ∀ q m, (u.lane q m).tx.onLine = (s.lane q m).tx.onLine

theorem SameLines.refl (s : State) : SameLines s s := fun _ _ => rfl

theorem SameLines.keeps (h : SameLines s u) (k : Keeps ps u v) (hps : Part.lanes ∉ ps := by decide) : SameLines s v := fun q m =>
  (congrArg (fun x : Lane => x.tx.onLine) (State.lane_congr (k.frame .lanes hps) q m)).trans (h q m)

theorem SameLines.setLane (h : SameLines s u) {x : Lane} (hx : x.tx.onLine = (u.lane p l).tx.onLine) : SameLines s (u.setLane p l x) := by
  intro q m
  by_cases hkey : 4 * q + m = 4 * p + l
  · have hget : ∀ w : State, w.lane q m = w.lane p l := fun w => congrArg (Table.get ({} : Lane) w.lanes) hkey
    rw [hget, State.lane_setLane_self, hx, ← hget u]
    exact h q m
  · rw [State.lane_setLane_ne u p l x hkey]
    exact h q m

theorem SameLines.each {α : Type} {g : State → α → State} (hg : ∀ w a, SameLines s w → SameLines s (g w a)) (as : List α) :
    ∀ w, SameLines s w → SameLines s (w.each as g) := by
  induction as with
  | nil => exact fun _ h => h
  | cons a as ih => exact fun w h => ih _ (hg w a h)

theorem SameLines.leaveLists (h : SameLines s u) (k : Nat) (keep : Option Nat) : SameLines s (u.leaveLists k keep) := by
  refine SameLines.each (fun w n hw => ?_) _ u h
  dsimp only
  split
  · refine hw.setLane ?_
    unfold State.lane
    rw [Nat.div_add_mod]
    rfl
  · exact hw

theorem SameLines.settleSpool (h : SameLines s u) (k : Nat) : SameLines s (u.settleSpool k) := by
  have hset : ∀ x, SameLines s (u.setSpool k x) := fun x => h.keeps (ps := [.spools]) (State.setSpool_keeps (.refl _ u) k x (by decide))
  unfold State.settleSpool
  extract_lets x st y w
  split
  · exact (hset _).leaveLists k none
  · split
    · exact hset y
    · rename_i n _
      extract_lets v tx
      have hv : SameLines s v := (hset y).leaveLists k (some n)
      split
      · exact hv
      · exact hv.setLane rfl

/-! ## What a spool has to send -/

/-- A spool sends what it sent. -/
structure Spool.SameSends (x y : Spool) : Prop where
  queue : y.queue = x.queue
  txSeq : y.txSeq = x.txSeq
  flight : y.flight = x.flight

theorem Spool.SameSends.refl (x : Spool) : x.SameSends x := ⟨rfl, rfl, rfl⟩

theorem Spool.SameSends.trans {x y z : Spool} (h : x.SameSends y) (k : y.SameSends z) : x.SameSends z :=
  ⟨k.queue.trans h.queue, k.txSeq.trans h.txSeq, k.flight.trans h.flight⟩

theorem Keeps.spool (h : Keeps ps s u) (k : Nat) (hps : Part.spools ∉ ps := by decide) : u.spool k = s.spool k :=
  State.spool_congr (h.frame .spools hps) k

theorem sameSends_setSpool {j : Nat} {x : Spool} (hx : (s.spool j).SameSends x) (k : Nat) : (s.spool k).SameSends ((s.setSpool j x).spool k) := by
  by_cases hk : k = j
  · rw [hk, State.spool_setSpool_self]
    exact hx
  · rw [State.spool_setSpool_ne _ _ _ hk]
    exact .refl _

theorem withAck_sends (s : State) (e : Nat) (m : MacFrame) (k : Nat) : (s.spool k).SameSends ((s.withAck e m).2.spool k) := by
  unfold State.withAck
  split
  · exact .refl _
  · rename_i j _
    exact sameSends_setSpool (x := { s.spool j with ackDue := false, ackAt := 0 }) ⟨rfl, rfl, rfl⟩ k

theorem withGrant_sends (s : State) (p l e nsym : Nat) (m : MacFrame) (k : Nat) :
    (s.spool k).SameSends ((s.withGrant p l e nsym m).2.spool k) := by
  unfold State.withGrant
  split
  · exact .refl _
  · split
    · exact .refl _
    · rename_i c _
      exact sameSends_setSpool (x := { s.spool (4 * e + c) with greq := 0 }) ⟨rfl, rfl, rfl⟩ k

theorem settleSpool_sends (s : State) (k : Nat) : (s.spool k).SameSends ((s.settleSpool k).spool k) := by
  rw [State.settleSpool_spool]
  exact ⟨State.settled_queue s k, State.settled_txSeq s k, State.settled_flight s k⟩

/-! ## What a frame is -/

/-- Two frames with the same body, addressed and numbered alike. -/
structure SameData (x y : MacFrame) : Prop where
  type : y.type = x.type
  ackReq : y.ackReq = x.ackReq
  more : y.more = x.more
  dst : y.dst = x.dst
  fin : y.fin = x.fin
  seq : y.seq = x.seq
  body : y.body = x.body

theorem SameData.refl (x : MacFrame) : SameData x x := ⟨rfl, rfl, rfl, rfl, rfl, rfl, rfl⟩

theorem SameData.trans {x y z : MacFrame} (h : SameData x y) (k : SameData y z) : SameData x z :=
  ⟨k.type.trans h.type, k.ackReq.trans h.ackReq, k.more.trans h.more, k.dst.trans h.dst, k.fin.trans h.fin, k.seq.trans h.seq, k.body.trans h.body⟩

theorem withAck_data (s : State) (e : Nat) (m : MacFrame) : SameData m (s.withAck e m).1 := by
  unfold State.withAck
  split
  · exact .refl m
  · exact ⟨rfl, rfl, rfl, rfl, rfl, rfl, rfl⟩

theorem withGrant_data (s : State) (p l e nsym : Nat) (m : MacFrame) : SameData m (s.withGrant p l e nsym m).1 := by
  unfold State.withGrant
  split
  · exact .refl m
  · split
    · exact .refl m
    · exact ⟨rfl, rfl, rfl, rfl, rfl, rfl, rfl⟩

/-! ## The head of a spool goes out -/

theorem sent_onLine (s : State) (p k j : Nat) (hl : l < 4) (f : TxFrame) :
    ((((s.putOnLine p l f).bump 0x3181 j).settleSpool k).lane p l).tx.onLine = some f := by
  obtain ⟨hput, -⟩ := ((Laned.refl s p l).putOnLine hl f).bumpKey (keyOf 0x3181 j) 1
  exact (((SameLines.refl _).settleSpool k p l).trans (congrArg (fun x : Lane => x.tx.onLine) hput :))

theorem sendHead_whole {pos nsym : Nat} {m : TxMode} {q : QueueItem} {qs : List QueueItem} {body : Bytes} (hl : l < 4) (hsize : q.size = 0)
    (hseq : q.seq = none) (hwhole : body.length ≤ q.offset + n) :
    (∃ f, ((s.sendHead p l k pos m q qs body n nsym).lane p l).tx.onLine = some f ∧ f.kind = .data ∧ f.nsym = nsym ∧ f.start = s.tsc ∧
      f.spool = k ∧ f.mac.type = 1 ∧ f.mac.ackReq = true ∧ f.mac.more = false ∧ f.mac.dst = (s.route pos).next ∧ f.mac.fin = k / 4 ∧
      f.mac.seq = (s.spool k).txSeq ∧ f.mac.body = (body.drop q.offset).take n) ∧
    ((s.sendHead p l k pos m q qs body n nsym).spool k).queue = qs ∧
    ((s.sendHead p l k pos m q qs body n nsym).spool k).txSeq = ((s.spool k).txSeq + 1) % 256 ∧
    ((s.sendHead p l k pos m q qs body n nsym).spool k).flight.map (fun y => (y.seq, y.ended, y.item.handle)) =
      (s.spool k).flight.map (fun y => (y.seq, y.ended, y.item.handle)) ++ [((s.spool k).txSeq, none, q.handle)] := by
  generalize hsent : s.sendHead p l k pos m q qs body n nsym = w
  unfold State.sendHead at hsent
  extract_lets x e r seq last sent rest u mac a g formed f at hsent
  have hlast : last = true := (if_pos hsize).trans (decide_eq_true hwhole)
  have hseq' : seq = (s.spool k).txSeq := by
    show q.seq.getD _ = _
    rw [hseq]
    rfl
  have hrest : rest = [] := if_neg fun h => Bool.noConfusion (h.2.symm.trans hlast)
  have hmac : SameData mac f.mac := (withAck_data u e mac).trans (withGrant_data a.2 p l r.next nsym a.1)
  have hspool : (u.spool k).SameSends ((((g.2.putOnLine p l f).bump 0x3181 (spoolClass k + 1)).settleSpool k).spool k) := by
    have hline : ((g.2.putOnLine p l f).bump 0x3181 (spoolClass k + 1)).spool k = g.2.spool k :=
      Keeps.spool (ps := [.out, .dict, .hier, .lanes])
        (State.bump_keeps (State.putOnLine_keeps (.refl _ _) p l f (by decide) (by decide) (by decide) (by decide)) _ _ (by decide)) k
    have hsettle := settleSpool_sends ((g.2.putOnLine p l f).bump 0x3181 (spoolClass k + 1)) k
    rw [hline] at hsettle
    exact ((withAck_sends u e mac k).trans (withGrant_sends a.2 p l r.next nsym a.1 k)).trans hsettle
  have hu : u.spool k = { x with
      queue := rest ++ qs, txSeq := if q.seq.isNone then (x.txSeq + 1) % 256 else x.txSeq,
      flight := x.flight ++ [⟨seq, sent, none, pos⟩] } := State.spool_setSpool_self _ _ _
  have hkeeps : Keeps [.dict, .lanes, .spools] s g.2 :=
    State.withGrant_keeps (State.withAck_keeps (State.setSpool_keeps (.refl _ s) _ _ (by decide)) _ _ (by decide)) p l _ _ _
      (by decide) (by decide) (by decide)
  have hstart : f.start = s.tsc := hkeeps.frame .tsc (by decide)
  have honline := sent_onLine g.2 p k (spoolClass k + 1) hl f
  subst hsent
  refine ⟨⟨f, honline, ?_, ?_, ?_, ?_, ?_, ?_, ?_, ?_, ?_, ?_, ?_⟩, ?_, ?_, ?_⟩
  · exact rfl
  · exact rfl
  · exact hstart
  · exact rfl
  · exact hmac.type
  · exact hmac.ackReq
  · rw [hmac.more]
    show (!last) = false
    rw [hlast]
    rfl
  · exact hmac.dst
  · exact hmac.fin
  · exact hmac.seq.trans hseq'
  · exact hmac.body
  · rw [hspool.queue, hu, hrest]
    rfl
  · rw [hspool.txSeq, hu]
    simp only [hseq]
    rfl
  · rw [hspool.flight, hu, hseq', List.map_append]
    rfl

theorem startData_eq {pos nsym : Nat} {q : QueueItem} {qs : List QueueItem} {pk : Packet} (hqueue : (s.spool k).queue = q :: qs)
    (hroute : s.selected (k / 4) = some pos) (hpacket : s.packet q.handle = some pk)
    (hnow : s.nsymNow p l (k % 4) (s.txMode (s.route pos)) n = some nsym) :
    s.startData p l k n = s.sendHead p l k pos (s.txMode (s.route pos)) q qs pk.body n nsym := by
  have hroute' : s.selected (spoolEndpoint k) = some pos := hroute
  have hnow' : s.nsymNow p l (spoolClass k) (s.txMode (s.route pos)) n = some nsym := hnow
  unfold State.startData
  rw [hqueue, hroute']
  dsimp only
  rw [hpacket]
  dsimp only
  rw [hnow']

/-- An idle lane that owes neither beacon nor acknowledgement starts what its scheduling pass chooses. -/
theorem startFrame_scheduled (hdue : (s.lane p l).tx.beaconDue = false) (hack : s.startAck p l = none) :
    s.startFrame p l = match ((s.dropTooLong p l).schedule p l).1 with
      | .nothing => ((s.dropTooLong p l).schedule p l).2
      | .head c x => ((s.dropTooLong p l).schedule p l).2.startHead p l c x
      | .spool k n => ((s.dropTooLong p l).schedule p l).2.startData p l k n := by
  unfold State.startFrame
  rw [hdue, hack]
  exact if_neg Bool.false_ne_true

/-- Settles O30: the head of a spool goes out whole, and the scheduling pass chooses it. -/
theorem dataFrameStarts : Obligations.DataFrameStarts := by
  unfold Obligations.DataFrameStarts
  constructor
  · intro s p l k pos n nsym q qs pk hl _ hqueue hroute hpacket hnow hsize hseq hwhole
    rw [startData_eq hqueue hroute hpacket hnow]
    exact sendHead_whole hl hsize hseq hwhole
  · intro s r t p l k n hs hport hl hn hidle hdue hack
    obtain ⟨-, hp⟩ := hs
    have hstart := startFrame_scheduled (s := s.upTo t) hdue hack
    have hexec : ∀ {u : State}, (s.upTo t).startFrame p l = u → exec (.laneFrameStart t p l) s = .next u := fun hu =>
      (exec_laneFrameStart_native hp hport hl hn hidle).trans (congrArg Host.Outcome.next hu)
    refine ⟨fun hpick => hexec ?_, fun hpick => hexec ?_⟩
    all_goals rw [hstart, hpick]

end DataStart

end Sys2Proof.Machine
end

section
/-! Detections of preambles (R158, R160, R161). -/

set_option Elab.async false

namespace Sys2Proof.Machine

section Detections

variable {ps : List Part} {s u v : State} {t p l n : Nat} {x : Lane} {d : Detection}

/-! ## The receive side of a lane -/

theorem Laned.updRx (h : Laned p l x s u) (hl : l < 4) (g : LaneRx → LaneRx) : Laned p l (x.withRx (g x.rx)) s (u.updRx p l g) := by
  have hset := h.setRx hl (g (u.lane p l).rx)
  rw [h.1] at hset
  unfold State.updRx
  rw [h.1]
  exact hset

theorem Laned.lbump (h : Laned p l x s u) (i j : Nat) : Laned p l x s (u.lbump p l i j) := h.bumpKey _ 1

/-! ## The order of detections -/

theorem vigilOrder_nil (symbol n : Nat) : vigilOrder symbol n [] = [] := by cases n <;> rfl

theorem vigilOrder_one (symbol n : Nat) (d : Detection) : vigilOrder symbol (n + 1) [d] = [d] := by
  have hin : [d].filter (fun e => decide (e.preambleEnd ≤ d.preambleEnd + symbol)) = [d] :=
    List.filter_eq_self.mpr fun e he => by rw [List.mem_singleton.mp he]; exact decide_eq_true (Nat.le_add_right _ _)
  have hout : [d].filter (fun e => decide (d.preambleEnd + symbol < e.preambleEnd)) = [] :=
    List.filter_eq_nil_iff.mpr fun e he => by rw [List.mem_singleton.mp he]; simp
  show sortBy detectedBefore ([d].filter fun e => decide (e.preambleEnd ≤ d.preambleEnd + symbol)) ++
    vigilOrder symbol n ([d].filter fun e => decide (d.preambleEnd + symbol < e.preambleEnd)) = [d]
  rw [hin, hout, vigilOrder_nil]
  rfl

/-! ## A detection -/

/-- A receive side whose next frame number has been taken. -/
def LaneRx.numbered (x : LaneRx) : LaneRx := { x with number := (x.number + 1) % 65536 }

/-- What any detection leaves: its number, its count and what the lane reports of it. -/
def State.noted (s : State) (p l : Nat) (d : Detection) : State :=
  ((((s.updRx p l LaneRx.numbered).lbump p l 0x2014 1).storeNat (laneKey p l 0x2014 0x12) s.tsc).storeNat
    (laneKey p l 0x2014 0x13) (unsigned 16 (afcOf d))).storeNat (laneKey p l 0x2014 0x14) d.l |>.storeNat (laneKey p l 0x2014 0x15)
      (((s.lane p l).rx.number + 1) % 65536)

/-- The frame that a detection begins. -/
def State.begun (s : State) (p l : Nat) (d : Detection) : RxCur := detected (((s.lane p l).rx.number + 1) % 65536) s.tsc d

theorem detect_far (h : farOff (afcOf d) = true) : s.detect p l d = (s.noted p l d).lbump p l 0x2014 3 := if_pos h

theorem detect_search (h : farOff (afcOf d) = false) (hs : (s.lane p l).rx.state = .search) :
    s.detect p l d = (s.noted p l d).takeHeader p l (s.begun p l d) := by
  unfold State.detect
  dsimp only
  rw [if_neg (by rw [h]; decide), hs]
  rfl

theorem noted_laned (s : State) (p : Nat) (hl : l < 4) (d : Detection) :
    Laned p l ((s.lane p l).withRx (s.lane p l).rx.numbered) s (s.noted p l d) :=
  ((((((Laned.refl s p l).updRx hl LaneRx.numbered).lbump 0x2014 1).storeNat _ _).storeNat _ _).storeNat _ _).storeNat _ _

theorem noted_keeps (s : State) (p l : Nat) (d : Detection) : Keeps [.lanes, .dict] s (s.noted p l d) :=
  State.storeNat_keeps (State.storeNat_keeps (State.storeNat_keeps (State.storeNat_keeps (State.lbump_keeps
    (State.updRx_keeps (.refl _ s) p l _ (by decide)) _ _ _ _ (by decide)) _ _ (by decide)) _ _ (by decide)) _ _ (by decide)) _ _ (by decide)

theorem noted_lval {j : Nat} (hj : j < 0x12) : (s.noted p l d).lval p l 0x2014 j = ((s.updRx p l LaneRx.numbered).lbump p l 0x2014 1).lval p l 0x2014 j := by
  unfold State.noted
  rw [State.lval_storeNat_ne _ _ (by omega), State.lval_storeNat_ne _ _ (by omega), State.lval_storeNat_ne _ _ (by omega),
    State.lval_storeNat_ne _ _ (by omega)]

/-- The counters of a lane's receive path are four bytes wide. -/
theorem rxCounter_width (hl : l < 4) : (defaultOf .sk3612 (keyOf (0x2014 + l) 1)).length = 4 ∧ (defaultOf .sk3612 (keyOf (0x2014 + l) 3)).length = 4 := by
  interval_cases l <;> decide +kernel

theorem noted_detections (hport : s.hasPort p = true) (hl : l < 4) :
    (s.noted p l d).lval p l 0x2014 1 = min 0xFFFFFFFF (s.lval p l 0x2014 1 + 1) := by
  have hbump := State.lval_bump_self (s.updRx p l LaneRx.numbered) (p := p) (l := l) (o := 0x14) (j := 1) hport (by omega) (by decide) (by decide)
  rw [(rxCounter_width hl).1] at hbump
  rw [noted_lval (by decide)]
  exact hbump

theorem noted_outOfRange (s : State) (p l : Nat) (d : Detection) : (s.noted p l d).lval p l 0x2014 3 = s.lval p l 0x2014 3 := by
  rw [noted_lval (by decide)]
  exact State.lval_storeNat_ne _ _ (by decide) _

theorem State.lval_bump_ne (s : State) {j k : Nat} (h : j ≠ k) (i : Nat) : (s.lbump p l i k).lval p l i j = s.lval p l i j :=
  congrArg ofBE (State.raw_bumpKey_ne s 1 (laneKey_ne h))

/-! ## The command -/

theorem laneThere_iff : s.laneThere p l = true ↔ s.hasPort p = true ∧ l < 4 := by
  unfold State.laneThere
  rw [Bool.and_eq_true, decide_eq_true_iff]

/-- The detections that reach the threshold. -/
def State.reaching (s : State) (p l : Nat) (ds : List Detection) : List Detection :=
  ds.filter fun e => decide (signed 8 (s.lval p l 0x2010 1) ≤ e.q)

theorem exec_preambleDetection (hp : s.rst.powered = true) (hthere : s.laneThere p l = true) {ds : List Detection}
    (hon : (s.lane p l).rx.state ≠ .off) : exec (.preambleDetection t p l ds) s = .next ((s.upTo t).each
      (vigilOrder (s.rxSymbolNs p l) ds.length (s.reaching p l ds)) fun u d => u.detect p l d) := by
  show execPreambleDetection t p l ds s = _
  unfold execPreambleDetection
  rw [State.run_powered hp]
  exact congrArg Host.Outcome.next (if_pos ⟨hthere, hon⟩)

theorem exec_preambleDetection_off (hp : s.rst.powered = true) {ds : List Detection} (hoff : (s.lane p l).rx.state = .off) :
    exec (.preambleDetection t p l ds) s = .next (s.upTo t) := by
  show execPreambleDetection t p l ds s = _
  unfold execPreambleDetection
  rw [State.run_powered hp]
  exact congrArg Host.Outcome.next (if_neg fun h => h.2 hoff)

/-- One detection is taken by itself. -/
theorem exec_preambleDetection_one (hp : s.rst.powered = true) (hthere : s.laneThere p l = true) {ds : List Detection}
    (hon : (s.lane p l).rx.state ≠ .off) (hone : s.reaching p l ds = [d]) :
    exec (.preambleDetection t p l ds) s = .next ((s.upTo t).detect p l d) := by
  obtain ⟨n, hn⟩ : ∃ n, ds.length = n + 1 := by
    refine Nat.exists_eq_succ_of_ne_zero fun h => ?_
    rw [List.length_eq_zero_iff.mp h] at hone
    cases hone
  rw [exec_preambleDetection hp hthere hon, hone, hn, vigilOrder_one]
  rfl

theorem exec_preambleDetection_none (hp : s.rst.powered = true) (hthere : s.laneThere p l = true) {ds : List Detection}
    (hnone : s.reaching p l ds = []) : exec (.preambleDetection t p l ds) s = .next (s.upTo t) := by
  by_cases hoff : (s.lane p l).rx.state = .off
  · exact exec_preambleDetection_off hp hoff
  · rw [exec_preambleDetection hp hthere hoff, hnone, vigilOrder_nil]
    rfl

theorem farOff_iff (a : Int) : farOff a = true ↔ 440 < a ∨ a < -440 := by
  unfold farOff
  rw [Bool.or_eq_true, decide_eq_true_iff, decide_eq_true_iff]

/-- A receive side whose next detection has become its frame. -/
def LaneRx.following (c : RxCur) (use : RxSettings) (x : LaneRx) : LaneRx := x.take (c.fromPreamble 0 use) .header

theorem takeHeader_laned (h : Laned p l x s u) (hl : l < 4) (c : RxCur) :
    Laned p l (x.withRx (x.rx.following c (u.rxSettings p l))) s (u.takeHeader p l c) :=
  h.updRx hl (LaneRx.following c (u.rxSettings p l))

theorem takeHeader_keeps (s : State) (p l : Nat) (c : RxCur) : Keeps [.lanes] s (s.takeHeader p l c) :=
  State.updRx_keeps (.refl _ s) p l _ (by decide)

theorem detect_keeps (s : State) (p l : Nat) (d : Detection) (hs : (s.lane p l).rx.state = .search) :
    Keeps [.lanes, .dict] s (s.detect p l d) := by
  cases hfar : farOff (afcOf d) with
  | true =>
    rw [detect_far hfar]
    exact State.lbump_keeps (noted_keeps s p l d) p l _ _ (by decide)
  | false =>
    rw [detect_search hfar hs]
    exact (noted_keeps s p l d).trans (takeHeader_keeps _ p l _).mono

/-- What a detection leaves of the lane, in or out of the range of frequencies. -/
theorem detect_laned (hl : l < 4) (hs : (s.lane p l).rx.state = .search) (d : Detection) : Laned p l
    ((s.lane p l).withRx (if farOff (afcOf d) then (s.lane p l).rx.numbered
      else (s.lane p l).rx.numbered.following (s.begun p l d) ((s.noted p l d).rxSettings p l))) s (s.detect p l d) := by
  cases hfar : farOff (afcOf d) with
  | true =>
    rw [detect_far hfar]
    exact (noted_laned s p hl d).lbump _ _
  | false =>
    rw [detect_search hfar hs]
    exact takeHeader_laned (noted_laned s p hl d) hl _

theorem detect_detections (hport : s.hasPort p = true) (hl : l < 4) (hs : (s.lane p l).rx.state = .search) (d : Detection) :
    (s.detect p l d).lval p l 0x2014 1 = min 0xFFFFFFFF (s.lval p l 0x2014 1 + 1) := by
  rw [← noted_detections (d := d) hport hl]
  cases hfar : farOff (afcOf d) with
  | true =>
    rw [detect_far hfar]
    exact State.lval_bump_ne _ (by decide) _
  | false =>
    rw [detect_search hfar hs]
    exact (takeHeader_keeps _ p l _).lval ..

theorem detect_number (s : State) (p l : Nat) (d : Detection) (use : RxSettings) :
    ((if farOff (afcOf d) then (s.lane p l).rx.numbered else (s.lane p l).rx.numbered.following (s.begun p l d) use).number =
      ((s.lane p l).rx.number + 1) % 65536) ∧
    ((if farOff (afcOf d) then (s.lane p l).rx.numbered else (s.lane p l).rx.numbered.following (s.begun p l d) use).slot =
      (s.lane p l).rx.slot) := by
  split <;> exact ⟨rfl, rfl⟩

/-- Settles O31: one detection at a time, by its place in the range of frequencies. -/
theorem detectionCompletes : Obligations.DetectionCompletes := by
  unfold Obligations.DetectionCompletes
  intro s t p l ds hs hthere
  obtain ⟨-, hp⟩ := hs
  obtain ⟨hport, hl⟩ := laneThere_iff.mp hthere
  refine ⟨fun d hone hsearch => ?_, fun hbelow => Did.answer_upTo (exec_preambleDetection_none hp hthere ?_),
    fun hoff => Did.answer_upTo (exec_preambleDetection_off hp hoff)⟩
  · have hlane := detect_laned (s := s.upTo t) hl hsearch d
    have hrx := congrArg Lane.rx hlane.1
    obtain ⟨hnumber, hslot⟩ := detect_number (s.upTo t) p l d (((s.upTo t).noted p l d).rxSettings p l)
    refine ⟨_, exec_preambleDetection_one hp hthere (by rw [hsearch]; decide) hone,
      .of_keeps (detect_keeps _ p l d hsearch) (by decide), (congrArg Lane.tx hlane.1 :), (congrArg LaneRx.number hrx).trans hnumber,
      (congrArg LaneRx.slot hrx).trans hslot, detect_detections (s := s.upTo t) hport hl hsearch d, hlane.2, fun h₁ h₂ => ?_, fun hout => ?_⟩
    · have hfar : farOff (afcOf d) = false := Bool.eq_false_iff.mpr fun h => by
        rcases (farOff_iff _).mp h with h | h <;> omega
      rw [hfar] at hrx
      refine ⟨(congrArg LaneRx.state hrx :), ?_, _, (congrArg LaneRx.cur hrx :), rfl, rfl, rfl, rfl, rfl, rfl, rfl⟩
      rw [detect_search (s := s.upTo t) hfar hsearch, (takeHeader_keeps _ p l _).lval, noted_outOfRange]
      rfl
    · have hfar := (farOff_iff _).mpr hout
      rw [hfar] at hrx
      refine ⟨(congrArg LaneRx.state hrx).trans hsearch, (congrArg LaneRx.cur hrx :), ?_⟩
      have hbump := State.lval_bump_self ((s.upTo t).noted p l d) (p := p) (l := l) (o := 0x14) (j := 3)
        (by unfold State.hasPort; rw [(noted_keeps (s.upTo t) p l d).variant]; exact hport) (by omega) (by decide) (by decide)
      rw [(rxCounter_width hl).2, noted_outOfRange] at hbump
      rw [detect_far hfar]
      exact hbump
  · exact List.filter_eq_nil_iff.mpr fun d hd => by simpa using hbelow d hd

end Detections

end Sys2Proof.Machine
end

section
/-! Header, payload, decode and replay of a received frame (R163-R172, R213, R219). -/

set_option Elab.async false

namespace Sys2Proof.Machine

section Reception

variable {ps : List Part} {s u v : State} {t p l n : Nat} {x : Lane} {c : RxCur} {q : ReplayPair}

/-! ## The receive side without a frame -/

/-- A receive side that enters SEARCH or REARM. -/
def LaneRx.idling (failed : RxCur) (next : RxState) (tsc : Nat) (x : LaneRx) : LaneRx :=
  { x with state := next, cur := if next = .rearm then some failed else none, searchAt := tsc }

/-- A receive side whose REARM counts from `at`. -/
def LaneRx.rearmed (tsc : Nat) (x : LaneRx) : LaneRx := { x with rearmAt := tsc }

/-- A receive side that searches on, its frame ended. -/
def LaneRx.released (tsc : Nat) (x : LaneRx) : LaneRx := { x with state := .search, cur := none, searchAt := tsc }

/-- A receive side that searches on. -/
def LaneRx.searchingOn (tsc : Nat) (x : LaneRx) : LaneRx := { x with state := .search, searchAt := tsc }

/-- A receive side that waits for the decoding of a frame. -/
def LaneRx.awaiting (c : RxCur) (x : LaneRx) : LaneRx := { x with decoding := x.decoding ++ [c] }

/-- A receive side whose frame goes on to its payload. -/
def LaneRx.paying (c : RxCur) (x : LaneRx) : LaneRx := { x with state := .payload, cur := some c }

/-- A receive side whose frame has been decoded. -/
def LaneRx.decoded (num : Nat) (x : LaneRx) : LaneRx := { x with decoding := x.decoding.filter fun z => z.num != num }

/-- A receive side whose pair has changed. -/
def LaneRx.paired (q : ReplayPair) (new : Option ReplayPair) (x : LaneRx) : LaneRx :=
  { x with pairs := x.pairs.flatMap fun z => if z = q then new.toList else [z] }

theorem examineSlot_empty (h : (s.lane p l).rx.slot = none) (failed : RxCur) (next : RxState) :
    s.examineSlot p l failed next = s.updRx p l (LaneRx.idling failed next s.tsc) := by
  unfold State.examineSlot
  dsimp only
  rw [h]
  rfl

theorem updRx_keeps_self (s : State) (p l : Nat) (g : LaneRx → LaneRx) : Keeps [.lanes] s (s.updRx p l g) :=
  State.updRx_keeps (.refl _ s) p l g (by decide)

theorem lbumpN_keeps_self (s : State) (p l i j n : Nat) : Keeps [.dict] s (s.lbumpN p l i j n) :=
  State.lbumpN_keeps (.refl _ s) p l i j n (by decide)

/-! ## The header -/

theorem inHeader_of (hs : (s.lane p l).rx.state = .header) (hc : (s.lane p l).rx.cur = some c) : s.inHeader p l = some c :=
  (if_pos hs).trans hc

/-- What a checked header does: the frame goes on, or one of the two counters says why not. -/
theorem exec_headerCheckResult (hp : s.rst.powered = true) (hs : (s.lane p l).rx.state = .header) (hc : (s.lane p l).rx.cur = some c)
    (h : Header) : exec (.headerCheckResult t p l false h) s = .next
      (if (s.headerOf p l c h).crcOk = false then (s.upTo t).headerFails p l c 2
      else if (s.upTo t).headerServed p l (s.headerOf p l c h) = false then (s.upTo t).headerFails p l c 4
      else ((s.upTo t).updRx p l (LaneRx.paying (s.passed p l c (s.headerOf p l c h)))).lbump p l 0x2014 5) := by
  have hin : (s.upTo t).inHeader p l = some c := inHeader_of hs hc
  show execHeaderCheckResult t p l false h s = _
  unfold execHeaderCheckResult
  rw [State.run_powered hp]
  simp only [hin]
  rfl

/-- What a failed header leaves where the candidate slot is empty. -/
theorem headerFails_empty (h : (s.lane p l).rx.slot = none) (hl : l < 4) (c : RxCur) (counter : Nat) :
    Keeps [.lanes, .dict] s (s.headerFails p l c counter) ∧ Counted [laneKey p l 0x2014 counter] s (s.headerFails p l c counter) ∧
    Laned p l ((s.lane p l).withRx ((s.lane p l).rx.rearmed (c.preambleEnd + s.rxHeaderNs p l) |>.idling c .rearm s.tsc)) s
      (s.headerFails p l c counter) := by
  have hlane := ((Laned.refl s p l).lbump 0x2014 counter).updRx hl (LaneRx.rearmed (c.preambleEnd + s.rxHeaderNs p l))
  have hslot : (((s.lbump p l 0x2014 counter).updRx p l (LaneRx.rearmed (c.preambleEnd + s.rxHeaderNs p l))).lane p l).rx.slot = none :=
    (congrArg (fun x : Lane => x.rx.slot) hlane.1).trans h
  have heq : s.headerFails p l c counter = ((s.lbump p l 0x2014 counter).updRx p l (LaneRx.rearmed (c.preambleEnd + s.rxHeaderNs p l))).updRx
      p l (LaneRx.idling c .rearm s.tsc) := examineSlot_empty hslot c .rearm
  rw [heq]
  have hrest := (updRx_keeps_self (s.lbump p l 0x2014 counter) p l (LaneRx.rearmed (c.preambleEnd + s.rxHeaderNs p l))).trans
    (updRx_keeps_self _ p l (LaneRx.idling c .rearm s.tsc))
  exact ⟨(lbumpN_keeps_self s p l _ _ 1).mono.trans hrest.mono, (s.counted_lbump p l 0x2014 counter).keeps hrest, hlane.updRx hl _⟩

theorem headerCheck_did (hp : s.rst.powered = true) (hl : l < 4) (hslot : (s.lane p l).rx.slot = none)
    (hs : (s.lane p l).rx.state = .header) (hc : (s.lane p l).rx.cur = some c) {h g : Header} (hg : g = s.headerOf p l c h) :
    (g.crcOk = true → (s.upTo t).headerServed p l g = true →
      ∃ u, exec (.headerCheckResult t p l false h) s = .next u ∧ Did t [.lanes, .dict] s u ∧ (u.lane p l).rx.state = .payload ∧
        (u.lane p l).rx.cur = some (s.passed p l c g) ∧ (u.lane p l).tx = (s.lane p l).tx ∧ Counted [laneKey p l 0x2014 5] s u) ∧
    (g.crcOk = false → ∃ u, exec (.headerCheckResult t p l false h) s = .next u ∧ Did t [.lanes, .dict] s u ∧
      (u.lane p l).rx.state = .rearm ∧ (u.lane p l).rx.rearmAt = c.preambleEnd + s.rxHeaderNs p l ∧ (u.lane p l).tx = (s.lane p l).tx ∧
      Counted [laneKey p l 0x2014 2] s u) ∧
    (g.crcOk = true → (s.upTo t).headerServed p l g = false →
      ∃ u, exec (.headerCheckResult t p l false h) s = .next u ∧ Did t [.lanes, .dict] s u ∧ (u.lane p l).rx.state = .rearm ∧
        (u.lane p l).rx.rearmAt = c.preambleEnd + s.rxHeaderNs p l ∧ Counted [laneKey p l 0x2014 4] s u) := by
  have hexec := exec_headerCheckResult (t := t) hp hs hc h
  rw [← hg] at hexec
  refine ⟨fun hok hserved => ?_, fun hbad => ?_, fun hok hrefused => ?_⟩
  · rw [if_neg (by rw [hok]; decide), if_neg (by rw [hserved]; decide)] at hexec
    obtain ⟨hlane, -⟩ := ((Laned.refl (s.upTo t) p l).updRx hl (LaneRx.paying (s.passed p l c g))).lbump 0x2014 5
    have hset := updRx_keeps_self (s.upTo t) p l (LaneRx.paying (s.passed p l c g))
    exact ⟨_, hexec, .of_keeps (hset.mono.trans (lbumpN_keeps_self _ p l _ _ 1).mono) (by decide),
      (congrArg (fun x : Lane => x.rx.state) hlane :), (congrArg (fun x : Lane => x.rx.cur) hlane :), (congrArg Lane.tx hlane :), hset.countedKey _⟩
  · rw [if_pos hbad] at hexec
    obtain ⟨hkeeps, hcount, hlane, -⟩ := headerFails_empty (s := s.upTo t) hslot hl c 2
    exact ⟨_, hexec, .of_keeps hkeeps (by decide), (congrArg (fun x : Lane => x.rx.state) hlane :),
      (congrArg (fun x : Lane => x.rx.rearmAt) hlane :), (congrArg Lane.tx hlane :), hcount⟩
  · rw [if_neg (by rw [hok]; decide), if_pos hrefused] at hexec
    obtain ⟨hkeeps, hcount, hlane, -⟩ := headerFails_empty (s := s.upTo t) hslot hl c 4
    exact ⟨_, hexec, .of_keeps hkeeps (by decide), (congrArg (fun x : Lane => x.rx.state) hlane :),
      (congrArg (fun x : Lane => x.rx.rearmAt) hlane :), hcount⟩

/-! ## The end of REARM -/

theorem rearmEnd_did (hp : s.rst.powered = true) (hl : l < 4) (hslot : (s.lane p l).rx.slot = none) (hs : (s.lane p l).rx.state = .rearm)
    (hdue : (s.lane p l).rx.rearmAt + s.rxSymbolNs p l ≤ max s.tsc t) :
    ∃ u, exec (.rearmEnd t p l) s = .next u ∧ Did t [.lanes] s u ∧ (u.lane p l).rx.state = .search ∧ (u.lane p l).tx = (s.lane p l).tx := by
  obtain ⟨g, hg, hexec⟩ : ∃ g : LaneRx → LaneRx, (∀ r, (g r).state = .search) ∧ exec (.rearmEnd t p l) s = .next ((s.upTo t).updRx p l g) := by
    cases hc : (s.lane p l).rx.cur with
    | none =>
      refine ⟨LaneRx.searchingOn (max s.tsc t), fun _ => rfl, ?_⟩
      show execRearmEnd t p l s = _
      unfold execRearmEnd
      rw [State.run_powered hp]
      refine congrArg Host.Outcome.next ((if_pos ⟨hs, hdue⟩).trans ?_)
      simp only [State.upTo_lane, hc]
      rfl
    | some c =>
      refine ⟨LaneRx.idling c .search (max s.tsc t), fun _ => rfl, ?_⟩
      show execRearmEnd t p l s = _
      unfold execRearmEnd
      rw [State.run_powered hp]
      refine congrArg Host.Outcome.next ((if_pos ⟨hs, hdue⟩).trans ?_)
      simp only [State.upTo_lane, hc]
      exact examineSlot_empty (s := s.upTo t) hslot c .search
  obtain ⟨hlane, -⟩ := (Laned.refl (s.upTo t) p l).updRx hl g
  exact ⟨_, hexec, .of_keeps (updRx_keeps_self _ p l g) (by decide), (congrArg (fun x : Lane => x.rx.state) hlane).trans (hg _),
    (congrArg Lane.tx hlane :)⟩

theorem exec_rearmEnd_early (hp : s.rst.powered = true) (h : max s.tsc t < (s.lane p l).rx.rearmAt + s.rxSymbolNs p l) :
    exec (.rearmEnd t p l) s = .next (s.upTo t) := by
  show execRearmEnd t p l s = _
  unfold execRearmEnd
  rw [State.run_powered hp]
  exact congrArg Host.Outcome.next (if_neg fun hc => absurd hc.2 (Nat.not_le.mpr h))

/-! ## The last symbol -/

/-- A frame whose last symbol has come. -/
def RxCur.endedAt (tsc : Nat) (c : RxCur) : RxCur := { c with ended := some tsc }

/-- The frame of a lane goes to the coding pool, or is reported where its tone maps are missing. -/
def State.frameEnded (s : State) (p l : Nat) (c : RxCur) : State :=
  if s.hasMaps p l c.head then (s.updRx p l (LaneRx.released s.tsc)).updRx p l (LaneRx.awaiting (c.endedAt s.tsc))
  else ((s.updRx p l (LaneRx.released s.tsc)).lbump p l 0x2014 0x32).report p l (c.endedAt s.tsc) false

theorem exec_lastSymbolReceived (hp : s.rst.powered = true) (hslot : (s.lane p l).rx.slot = none)
    (hs : (s.lane p l).rx.state = .payload) (hc : (s.lane p l).rx.cur = some c) :
    exec (.lastSymbolReceived t p l) s = .next (((s.upTo t).frameEnded p l c).grantUsed p l c.head.src) := by
  show execLastSymbolReceived t p l s = _
  unfold execLastSymbolReceived
  rw [State.run_powered hp]
  simp only [State.upTo_lane, hs, hc, hslot]
  rfl

theorem grantUsed_keeps_self (s : State) (p l src : Nat) : Keeps [.lanes] s (s.grantUsed p l src) := by
  unfold State.grantUsed
  split
  · exact Keeps.ite (State.setTx_keeps (.refl _ s) p l _ (by decide)) (.refl _ s)
  · exact .refl _ s

theorem setTx_rx (s : State) (p l : Nat) (y : LaneTx) : ((s.setTx p l y).lane p l).rx = (s.lane p l).rx := by
  unfold State.setTx
  rw [State.lane_setLane_self]

theorem grantUsed_rx (s : State) (p l src : Nat) : ((s.grantUsed p l src).lane p l).rx = (s.lane p l).rx := by
  unfold State.grantUsed
  split
  · split
    · exact setTx_rx ..
    · rfl
  · rfl

theorem lastSymbol_mapped (hp : s.rst.powered = true) (hl : l < 4) (hslot : (s.lane p l).rx.slot = none)
    (hs : (s.lane p l).rx.state = .payload) (hc : (s.lane p l).rx.cur = some c) (hmaps : s.hasMaps p l c.head = true) :
    ∃ u, exec (.lastSymbolReceived t p l) s = .next u ∧ Did t [.lanes] s u ∧
      (u.lane p l).rx.state = .search ∧ (u.lane p l).rx.cur = none ∧
      (u.lane p l).rx.decoding = (s.lane p l).rx.decoding ++ [{ c with ended := some (max s.tsc t) }] ∧
      (u.lane p l).rx.pairs = (s.lane p l).rx.pairs := by
  have hended : (s.upTo t).frameEnded p l c = ((s.upTo t).updRx p l (LaneRx.released (max s.tsc t))).updRx p l
      (LaneRx.awaiting (c.endedAt (max s.tsc t))) := if_pos hmaps
  have hexec := exec_lastSymbolReceived (t := t) hp hslot hs hc
  rw [hended] at hexec
  obtain ⟨hlane, -⟩ := ((Laned.refl (s.upTo t) p l).updRx hl (LaneRx.released (max s.tsc t))).updRx hl
    (LaneRx.awaiting (c.endedAt (max s.tsc t)))
  have hrx := (grantUsed_rx (((s.upTo t).updRx p l (LaneRx.released (max s.tsc t))).updRx p l (LaneRx.awaiting (c.endedAt (max s.tsc t))))
    p l c.head.src).trans (congrArg Lane.rx hlane)
  exact ⟨_, hexec, .of_keeps (((updRx_keeps_self _ p l _).trans (updRx_keeps_self _ p l _)).trans (grantUsed_keeps_self _ p l _)) (by decide),
    (congrArg LaneRx.state hrx :), (congrArg LaneRx.cur hrx :), (congrArg LaneRx.decoding hrx :), (congrArg LaneRx.pairs hrx :)⟩

theorem lastSymbol_unmapped (hp : s.rst.powered = true) (hl : l < 4) (hslot : (s.lane p l).rx.slot = none)
    (hs : (s.lane p l).rx.state = .payload) (hc : (s.lane p l).rx.cur = some c) (hmaps : s.hasMaps p l c.head = false) :
    ∃ u, exec (.lastSymbolReceived t p l) s = .next u ∧ Did t [.lanes, .dict, .out] s u ∧
      (u.lane p l).rx.state = .search ∧ (u.lane p l).rx.decoding = (s.lane p l).rx.decoding ∧
      u.out = .report p l (acqWord { c with ended := some (max s.tsc t) } false) (distWord c) :: s.out ∧
      Counted [laneKey p l 0x2014 0x32] s u := by
  have hended : (s.upTo t).frameEnded p l c = (((s.upTo t).updRx p l (LaneRx.released (max s.tsc t))).lbump p l 0x2014 0x32).report p l
      (c.endedAt (max s.tsc t)) false := if_neg (by rw [show (s.upTo t).hasMaps p l c.head = false from hmaps]; decide)
  have hexec := exec_lastSymbolReceived (t := t) hp hslot hs hc
  rw [hended] at hexec
  have hset := updRx_keeps_self (s.upTo t) p l (LaneRx.released (max s.tsc t))
  have hreport : Keeps [.out] (((s.upTo t).updRx p l (LaneRx.released (max s.tsc t))).lbump p l 0x2014 0x32)
      ((((s.upTo t).updRx p l (LaneRx.released (max s.tsc t))).lbump p l 0x2014 0x32).report p l (c.endedAt (max s.tsc t)) false) :=
    State.report_keeps (.refl _ _) p l _ _ (by decide)
  have hgrant := grantUsed_keeps_self
    ((((s.upTo t).updRx p l (LaneRx.released (max s.tsc t))).lbump p l 0x2014 0x32).report p l (c.endedAt (max s.tsc t)) false) p l c.head.src
  obtain ⟨hlane, -⟩ := (((Laned.refl (s.upTo t) p l).updRx hl (LaneRx.released (max s.tsc t))).lbump 0x2014 0x32).keeps hreport
  have hrx := (grantUsed_rx _ p l c.head.src).trans (congrArg Lane.rx hlane)
  refine ⟨_, hexec, .of_keeps ((hset.mono.trans (lbumpN_keeps_self _ p l _ _ 1).mono).trans (hreport.mono.trans hgrant.mono)) (by decide),
    (congrArg LaneRx.state hrx :), (congrArg LaneRx.decoding hrx :), hgrant.frame .out (by decide),
    ((hset.countedKey _).keeps hreport).keeps hgrant⟩

/-! ## Decode results -/

/-- The counters of a lane's decode results are four bytes wide. -/
theorem decodeCounter_width (hl : l < 4) :
    (defaultOf .sk3612 (keyOf (0x2014 + l) 0x30)).length = 4 ∧ (defaultOf .sk3612 (keyOf (0x2014 + l) 0x31)).length = 4 := by
  interval_cases l <;> decide +kernel

/-- A counter of the coding pool is none of a lane. -/
theorem poolKey_ne_laneKey {j k : Nat} (hp : p < 64) (hl : l < 4) (hj : j < 256) (hk : k < 256) :
    laneKey p l 0x2014 j ≠ keyOf 0x28F0 k := by
  unfold laneKey keyOf
  omega

theorem decodeOf_snr (s : State) (p l : Nat) (c : RxCur) (r : DecodeResult) : (s.decodeOf p l c r).snr = r.snr := by
  unfold State.decodeOf
  split
  · rfl
  · split <;> rfl

theorem State.raw_ite {a b : State} {k : Nat} {z : Prop} [Decidable z] {y : Bytes} (ha : a.raw k = y) (hb : b.raw k = y) :
    (if z then a else b).raw k = y := by split <;> assumption

/-- What a decode result counts of codewords. -/
def State.countCodewords (s : State) (p l : Nat) (r : DecodeResult) : State :=
  (s.lbumpN p l 0x2014 0x30 r.good).lbumpN p l 0x2014 0x31 r.failed

/-- The rest of what a decode result counts is counted elsewhere. -/
theorem countDecode_lval (s : State) (r : DecodeResult) {j : Nat} (hp : p < 64) (hl : l < 4) (hj : j < 0x33) :
    (s.countDecode p l r).lval p l 0x2014 j = (s.countCodewords p l r).lval p l 0x2014 j := by
  have hpool : ∀ {k : Nat}, k < 256 → ∀ (u : State) m, (u.bumpKey (keyOf 0x28F0 k) m).raw (laneKey p l 0x2014 j) = u.raw (laneKey p l 0x2014 j) :=
    fun hk u m => State.raw_bumpKey_ne u m (poolKey_ne_laneKey hp hl (by omega) hk)
  have hlane : ∀ {k : Nat}, j ≠ k → ∀ u : State, (u.lbump p l 0x2014 k).raw (laneKey p l 0x2014 j) = u.raw (laneKey p l 0x2014 j) :=
    fun hk u => State.raw_bumpKey_ne u 1 (laneKey_ne hk)
  refine congrArg ofBE ?_
  unfold State.countDecode
  extract_lets u v w
  have hv : v.raw (laneKey p l 0x2014 j) = u.raw (laneKey p l 0x2014 j) :=
    State.raw_ite (hpool (by decide) u 1) (State.raw_ite (hpool (by decide) u _) (hpool (by decide) u _))
  have hw : w.raw (laneKey p l 0x2014 j) = u.raw (laneKey p l 0x2014 j) := State.raw_ite ((hlane (by omega) v).trans hv) hv
  exact State.raw_ite ((hlane (by omega) w).trans hw) hw

theorem countCodewords_good (hport : s.hasPort p = true) (hl : l < 4) (r : DecodeResult) :
    (s.countCodewords p l r).lval p l 0x2014 0x30 = min 0xFFFFFFFF (s.lval p l 0x2014 0x30 + r.good) := by
  have hbump := State.ofBE_raw_bumpKey_self s (laneKey p l 0x2014 0x30) r.good
  rw [defaultOf_laneEntry s.variant (o := 0x14) (of_decide_eq_true hport) (by omega) (by decide) (by decide), (decodeCounter_width hl).1] at hbump
  exact (congrArg ofBE (State.raw_bumpKey_ne _ _ (laneKey_ne (by decide)))).trans hbump

theorem countCodewords_failed (hport : s.hasPort p = true) (hl : l < 4) (r : DecodeResult) :
    (s.countCodewords p l r).lval p l 0x2014 0x31 = min 0xFFFFFFFF (s.lval p l 0x2014 0x31 + r.failed) := by
  have hgood : (s.lbumpN p l 0x2014 0x30 r.good).lval p l 0x2014 0x31 = s.lval p l 0x2014 0x31 :=
    congrArg ofBE (State.raw_bumpKey_ne _ _ (laneKey_ne (by decide)))
  have hbump := State.ofBE_raw_bumpKey_self (s.lbumpN p l 0x2014 0x30 r.good) (laneKey p l 0x2014 0x31) r.failed
  rw [show (s.lbumpN p l 0x2014 0x30 r.good).variant = s.variant from rfl, defaultOf_laneEntry s.variant (o := 0x14) (of_decide_eq_true hport)
    (by omega) (by decide) (by decide), (decodeCounter_width hl).2] at hbump
  rw [← hgood]
  exact hbump

theorem countDecode_keeps_self (s : State) (p l : Nat) (r : DecodeResult) : Keeps [.dict] s (s.countDecode p l r) :=
  State.countDecode_keeps (.refl _ s) p l r (by decide)

theorem tallyDecode_plain {r : DecodeResult} (hsteps : c.steps = 0) (hsnr : r.snr = []) :
    s.tallyDecode p l c r = s.countDecode p l r := by
  have hstep : ∀ ok, (s.countDecode p l r).stepResult p l c ok = s.countDecode p l r := fun _ => if_pos hsteps
  have hfile : ∀ u : State, u.fileSnr p l c [] = u := by
    intro u
    unfold State.fileSnr
    split
    · rfl
    · exact if_pos rfl
  unfold State.tallyDecode
  dsimp only
  rw [hstep, hsnr, hfile]
  exact ite_self _

/-- What the decoding of the one frame that awaits it leaves, where no pair stands. -/
def State.frameDecoded (s : State) (p l : Nat) (c : RxCur) (r : DecodeResult) : State :=
  (((s.updRx p l (LaneRx.decoded c.num)).countDecode p l r).report p l c (decodedOk r))

theorem frameDecoded_keeps (s : State) (p l : Nat) (c : RxCur) (r : DecodeResult) : Keeps [.lanes, .dict, .out] s (s.frameDecoded p l c r) :=
  State.report_keeps ((updRx_keeps_self s p l _).mono.trans (countDecode_keeps_self _ p l r).mono) p l c _ (by decide)

theorem frameDecoded_laned (s : State) (p : Nat) (hl : l < 4) (c : RxCur) (r : DecodeResult) :
    Laned p l ((s.lane p l).withRx ((s.lane p l).rx.decoded c.num)) s (s.frameDecoded p l c r) :=
  ((((Laned.refl s p l).updRx hl (LaneRx.decoded c.num)).keeps (countDecode_keeps_self _ p l r)).keeps (ps := [.out])
    (State.report_keeps (.refl _ _) p l c (decodedOk r) (by decide)))

theorem mainDecoded_alone {r : DecodeResult} (hl : l < 4) (hsteps : c.steps = 0) (hsnr : r.snr = []) (hpairs : (s.lane p l).rx.pairs = []) :
    s.mainDecoded p l c r = s.frameDecoded p l c r := by
  have hnone : ((s.frameDecoded p l c r).lane p l).rx.pairs = [] :=
    (congrArg (fun x : Lane => x.rx.pairs) (frameDecoded_laned s p hl c r).1).trans hpairs
  have htally := tallyDecode_plain (s := s.updRx p l (LaneRx.decoded c.num)) (p := p) (l := l) hsteps hsnr
  show State.pairsDecoded (State.report (State.tallyDecode (s.updRx p l (LaneRx.decoded c.num)) p l c r) p l c (decodedOk r)) p l c (decodedOk r) = _
  rw [htally]
  unfold State.pairsDecoded
  rw [show ((((s.updRx p l (LaneRx.decoded c.num)).countDecode p l r).report p l c (decodedOk r)).lane p l).rx.pairs = [] from hnone]
  rfl

theorem exec_decodeResult (hp : s.rst.powered = true) (hone : (s.lane p l).rx.decoding = [c]) (r : DecodeResult) :
    exec (.decodeResult t p l c.num r) s = .next ((s.upTo t).mainDecoded p l c (s.decodeOf p l c r)) := by
  have hfind : [c].find? (fun d => d.num == c.num) = some c := by simp
  show execDecodeResult t p l c.num r s = _
  unfold execDecodeResult
  rw [State.run_powered hp]
  simp only [State.upTo_lane, hone, hfind]
  rfl

theorem decodeResult_did (hp : s.rst.powered = true) (hport : s.hasPort p = true) (hl : l < 4) {r d : DecodeResult}
    (hone : (s.lane p l).rx.decoding = [c]) (hpairs : (s.lane p l).rx.pairs = []) (hsteps : c.steps = 0) (hsnr : r.snr = [])
    (hd : d = s.decodeOf p l c r) :
    ∃ u, exec (.decodeResult t p l c.num r) s = .next u ∧ Did t [.lanes, .dict, .out] s u ∧ (u.lane p l).rx.decoding = [] ∧
      (u.lane p l).rx.state = (s.lane p l).rx.state ∧ (u.lane p l).tx = (s.lane p l).tx ∧
      u.out = .report p l (acqWord c (d.failed == 0 && d.crcOk && d.returned.isNone)) (distWord c) :: s.out ∧
      u.lval p l 0x2014 0x30 = min 0xFFFFFFFF (s.lval p l 0x2014 0x30 + d.good) ∧
      u.lval p l 0x2014 0x31 = min 0xFFFFFFFF (s.lval p l 0x2014 0x31 + d.failed) := by
  have hd' : d.snr = [] := by rw [hd, decodeOf_snr, hsnr]
  have hexec := exec_decodeResult (t := t) hp hone r
  rw [← hd, mainDecoded_alone (s := s.upTo t) hl hsteps hd' hpairs] at hexec
  obtain ⟨hlane, -⟩ := frameDecoded_laned (s.upTo t) p hl c d
  have hp64 : p < 64 := by
    have := portCount_le s.variant
    have := of_decide_eq_true hport
    omega
  have hset := updRx_keeps_self (s.upTo t) p l (LaneRx.decoded c.num)
  have hcount : ∀ {j : Nat}, j < 0x33 → ((s.upTo t).frameDecoded p l c d).lval p l 0x2014 j =
      (((s.upTo t).updRx p l (LaneRx.decoded c.num)).countCodewords p l d).lval p l 0x2014 j := fun hj => countDecode_lval _ d hp64 hl hj
  refine ⟨_, hexec, .of_keeps (frameDecoded_keeps _ p l c d) (by decide), ?_, (congrArg (fun x : Lane => x.rx.state) hlane :),
    (congrArg Lane.tx hlane :), ?_, ?_, ?_⟩
  · refine (congrArg (fun x : Lane => x.rx.decoding) hlane).trans ?_
    show (s.lane p l).rx.decoding.filter (fun z => z.num != c.num) = []
    rw [hone]
    simp
  · exact congrArg (Out.report p l (acqWord c (decodedOk d)) (distWord c) :: ·)
      ((hset.mono (qs := [.lanes, .dict])).trans (countDecode_keeps_self _ p l d).mono |>.frame .out (by decide))
  · exact (hcount (by decide)).trans (countCodewords_good (s := (s.upTo t).updRx p l (LaneRx.decoded c.num)) hport hl d)
  · exact (hcount (by decide)).trans (countCodewords_failed (s := (s.upTo t).updRx p l (LaneRx.decoded c.num)) hport hl d)

/-! ## The replay path -/

/-- A pair whose weaker frame is being replayed. -/
def ReplayPair.inReplay (q : ReplayPair) (c : RxCur) : ReplayPair := { q with phase := 2, weak := c }

theorem exec_dualCaptureReplay (hp : s.rst.powered = true) (hpairs : (s.lane p l).rx.pairs = [q]) (hphase : q.phase = 1)
    (a : Int) (ms : Nat) (e : List (Int × Int)) : exec (.dualCaptureReplay t p ⟨l, a, ms, e⟩) s = .next
      (if s.weakEnd p l q ≤ max s.tsc t then (s.upTo t).startReplay p q ⟨l, a, ms, e⟩ else s.upTo t) := by
  have hidle : ¬ (s.upTo t).replayState p l = 2 := by
    unfold State.replayState
    simp only [State.upTo_lane, hpairs]
    simp [hphase]
  have hfind : [q].find? (fun z => z.phase == 1) = some q := by simp [hphase]
  show execDualCaptureReplay t p ⟨l, a, ms, e⟩ s = _
  unfold execDualCaptureReplay
  rw [State.run_powered hp]
  refine congrArg Host.Outcome.next ((if_neg hidle).trans ?_)
  simp only [State.upTo_lane, hpairs, hfind]
  rfl

theorem setPair_laned (h : Laned p l x s u) (hl : l < 4) (q : ReplayPair) (new : Option ReplayPair) :
    Laned p l (x.withRx (x.rx.paired q new)) s (u.setPair p l q new) := h.updRx hl (LaneRx.paired q new)

theorem setPair_keeps_self (s : State) (p l : Nat) (q : ReplayPair) (new : Option ReplayPair) : Keeps [.lanes] s (s.setPair p l q new) :=
  updRx_keeps_self s p l (LaneRx.paired q new)

theorem LaneRx.paired_one {x : LaneRx} (h : x.pairs = [q]) (new : Option ReplayPair) : (x.paired q new).pairs = new.toList := by
  show x.pairs.flatMap (fun z => if z = q then new.toList else [z]) = _
  rw [h]
  simp

/-- The replay of a pair's weaker frame begins. -/
theorem startReplay_begins {a : Int} {ms : Nat} {e : List (Int × Int)} (hphase : q.phase = 1) (hrev : q.reverse = false)
    (hfresh : s.replayFresh p l q.weak = true) (hnear : q.weak.headerOk = true ∨ farOff a = false) :
    s.startReplay p q ⟨l, a, ms, e⟩ = (s.setPair p l q (some (q.inReplay (s.replayed p l q.weak a ms e)))).lbump p l 0x2014 0x0A := by
  have hgo : ¬ (q.weak.headerOk = false ∧ farOff a = true) := by
    rintro ⟨h₁, h₂⟩
    rcases hnear with h | h
    · rw [h] at h₁; cases h₁
    · rw [h] at h₂; cases h₂
  unfold State.startReplay
  simp only [hrev, hfresh, Bool.false_eq_true, Bool.true_eq_false, if_false]
  rw [if_neg hgo]
  unfold ReplayPair.setTarget
  simp only [hrev, Bool.false_eq_true, and_false, if_false]
  cases q
  simp only at hphase hrev
  subst hphase hrev
  rfl

/-- A pair whose first sample has gone is given up. -/
theorem startReplay_stale {a : Int} {ms : Nat} {e : List (Int × Int)} (hrev : q.reverse = false) (hstale : s.replayFresh p l q.weak = false) :
    s.startReplay p q ⟨l, a, ms, e⟩ = ((s.setPair p l q none).lbump p l 0x2014 0x0F).reportLost p l q.weak := by
  unfold State.startReplay
  simp only [hrev, hstale, Bool.false_eq_true, if_false, if_true]

theorem reportLost_out (s : State) (p l : Nat) (c : RxCur) : (s.reportLost p l c).out =
    (if c.headerOk = true then [.report p l (acqWord { c with outcome := 4 } false) (distWord c)] else []) ++ s.out := by
  unfold State.reportLost
  split <;> rfl

theorem reportLost_keeps_self (s : State) (p l : Nat) (c : RxCur) : Keeps [.out] s (s.reportLost p l c) :=
  State.reportLost_keeps (.refl _ s) p l c (by decide)

/-- Settles O32: the header, the last symbol, the decode result and the replay of a frame, each by its command. -/
theorem frameReceptionCompletes : Obligations.FrameReceptionCompletes := by
  unfold Obligations.FrameReceptionCompletes
  constructor
  · intro s t p l c h g hs hthere hslot
    obtain ⟨-, hp⟩ := hs
    obtain ⟨-, hl⟩ := laneThere_iff.mp hthere
    exact ⟨fun hs hc hg => headerCheck_did hp hl hslot hs hc hg, rearmEnd_did hp hl hslot, fun _ hdue => Did.answer_upTo (exec_rearmEnd_early hp hdue),
      fun hs hc => ⟨lastSymbol_mapped hp hl hslot hs hc, lastSymbol_unmapped hp hl hslot hs hc⟩⟩
  · intro s t p l c r d q hs hthere
    obtain ⟨-, hp⟩ := hs
    obtain ⟨hport, hl⟩ := laneThere_iff.mp hthere
    refine ⟨decodeResult_did hp hport hl, fun a ms e hpairs hphase hrev => ?_⟩
    have hexec := exec_dualCaptureReplay (t := t) hp hpairs hphase a ms e
    refine ⟨fun hend hfresh hnear => ?_, fun hend hstale => ?_, fun hlater => ?_⟩
    · rw [if_pos hend, startReplay_begins hphase hrev hfresh hnear] at hexec
      obtain ⟨hlane, -⟩ := setPair_laned (Laned.refl (s.upTo t) p l) hl q (some (q.inReplay (s.replayed p l q.weak a ms e))) |>.lbump 0x2014 0x0A
      have hset := setPair_keeps_self (s.upTo t) p l q (some (q.inReplay (s.replayed p l q.weak a ms e)))
      exact ⟨_, hexec, .of_keeps (hset.mono.trans (lbumpN_keeps_self _ p l _ _ 1).mono) (by decide),
        (congrArg (fun x : Lane => x.rx.pairs) hlane).trans (LaneRx.paired_one hpairs _), hset.countedKey _⟩
    · rw [if_pos hend, startReplay_stale hrev hstale] at hexec
      have hset := setPair_keeps_self (s.upTo t) p l q none
      have hlost := reportLost_keeps_self (((s.upTo t).setPair p l q none).lbump p l 0x2014 0x0F) p l q.weak
      obtain ⟨hlane, -⟩ := ((setPair_laned (Laned.refl (s.upTo t) p l) hl q none).lbump 0x2014 0x0F).keeps hlost
      exact ⟨_, hexec, .of_keeps ((hset.mono.trans (lbumpN_keeps_self _ p l _ _ 1).mono).trans hlost.mono) (by decide),
        (congrArg (fun x : Lane => x.rx.pairs) hlane).trans (LaneRx.paired_one hpairs _), reportLost_out .., (hset.countedKey _).keeps hlost⟩
    · rw [if_neg (Nat.not_le.mpr hlater)] at hexec
      exact Did.answer_upTo hexec

end Reception

end Sys2Proof.Machine
end

section
/-! Requests that arrive from mailboxes and ring peers (R43-R51). -/

set_option Elab.async false

namespace Sys2Proof.Machine

section Arrival

variable {ps : List Part} {s u v : State} {t f n : Nat} {w : Word32} {msg : Bytes}

/-! ## The page of a mailbox -/

/-- From `s` to `u` one page has become `x`, and every other one stands. -/
def Paged (f : Nat) (x : Page) (s u : State) : Prop := (∀ g, g ≠ f → u.page g = s.page g) ∧ u.page f = x

theorem Paged.setPage {y : Page} (h : Paged f y s u) (x : Page) : Paged f x s (u.setPage f x) :=
  ⟨fun g hg => (State.page_setPage_ne u f x hg).trans (h.1 g hg), State.page_setPage_self u f x⟩

theorem Paged.refl (s : State) (f : Nat) : Paged f (s.page f) s s := ⟨fun _ _ => rfl, rfl⟩

theorem Paged.keeps {x : Page} (h : Paged f x s u) (k : Keeps ps u v) (hps : Part.pages ∉ ps := by decide) : Paged f x s v := by
  have hpage : ∀ g, v.page g = u.page g := fun g => by unfold State.page; rw [k.frame .pages hps]
  exact ⟨fun g hg => (hpage g).trans (h.1 g hg), (hpage f).trans h.2⟩

/-- A page whose vector and interrupt enable a word has set. -/
def Page.controlled (w : Word32) (x : Page) : Page := { x with vector := bits w.toNat 15 8, irqEn := bit w.toNat 0 }

/-- A page that refuses a GO while a request is in hand. -/
def Page.overlapped (x : Page) : Page := { x with overlap := true }

/-- A page whose request is in hand. -/
def Page.accepting (r : Request) (x : Page) : Page := { x with busy := true, req := some r }

/-- A page that has copied a message that is no request. -/
def Page.taken (x : Page) : Page := { x with busy := true }

/-- A page whose request has been answered. -/
def Page.answered (m : Bytes) (x : Page) : Page := { x with busy := false, done := true, rspBuf := m, rspLen := m.length }

/-- The message that stands in a page's request buffer. -/
def Page.message (x : Page) : Bytes := Table.getBytes x.reqBuf 0 x.reqLen

/-- The request that a page holds out. -/
def State.offered (s : State) (f : Nat) : Request := requestOf f (s.roleOf f) 0 (s.page f).message

/-! ## The word written to the control register -/

theorem exec_mbxGo_closed (hp : s.rst.powered = true) (h : s.open f = false) : exec (.mbxGo t f w) s = .next (s.upTo t) := by
  show execMbxGo t f w s = _
  unfold execMbxGo
  rw [State.run_powered hp]
  exact congrArg Host.Outcome.next (if_neg (by rw [show (s.upTo t).open f = false from h]; decide))

theorem exec_mbxGo (hp : s.rst.powered = true) (h : s.open f = true) : exec (.mbxGo t f w) s = .next ((s.upTo t).mailboxWrite f w) := by
  show execMbxGo t f w s = _
  unfold execMbxGo
  rw [State.run_powered hp]
  exact congrArg Host.Outcome.next (if_pos h)

/-- What a word leaves before its GO. -/
def State.controlled (s : State) (f : Nat) (w : Word32) : State := s.setPage f ((s.page f).controlled w)

theorem controlled_paged (s : State) (f : Nat) (w : Word32) : Paged f ((s.page f).controlled w) s (s.controlled f w) :=
  (Paged.refl s f).setPage _

theorem setPage_keeps_self (s : State) (f : Nat) (x : Page) : Keeps [.pages] s (s.setPage f x) :=
  State.setPage_keeps (.refl _ s) f x (by decide)

theorem mailboxWrite_plain (h : bit w.toNat 31 = false) : s.mailboxWrite f w = s.controlled f w :=
  if_neg (by rw [h]; decide)

theorem mailboxWrite_go (h : bit w.toNat 31 = true) : s.mailboxWrite f w = (s.controlled f w).mailboxGo f := if_pos h

theorem mailboxGo_busy (h : (s.page f).busy = true) : s.mailboxGo f = s.setPage f (s.page f).overlapped := if_pos h

theorem mailboxGo_accepted (hidle : (s.page f).busy = false) (hlow : 16 ≤ (s.page f).reqLen) (hhigh : (s.page f).reqLen ≤ 1536)
    (hok : State.wellFormed (s.offered f) (s.page f).message = true) : s.mailboxGo f = s.setPage f ((s.page f).accepting (s.offered f)) := by
  have hall : (decide (16 ≤ (s.page f).reqLen) && decide ((s.page f).reqLen ≤ 1536) &&
      State.wellFormed (s.offered f) (s.page f).message) = true := by
    rw [decide_eq_true hlow, decide_eq_true hhigh, hok]; rfl
  exact (if_neg (by rw [hidle]; decide)).trans (if_pos hall)

theorem mailboxGo_refused (hidle : (s.page f).busy = false) (hbad : State.wellFormed (s.offered f) (s.page f).message = false) :
    s.mailboxGo f = (s.setPage f (s.page f).taken).refuse (s.offered f) acProtocol 0xFF := by
  have hall : ¬ (decide (16 ≤ (s.page f).reqLen) && decide ((s.page f).reqLen ≤ 1536) &&
      State.wellFormed (s.offered f) (s.page f).message) = true := by
    rw [hbad, Bool.and_false]; decide
  exact (if_neg (by rw [hidle]; decide)).trans (if_neg hall)

/-- A refusal to a mailbox whose answers are not discarded. -/
theorem refuse_mailbox {r : Request} (hwho : r.who = f) (hf : f < 64) (hkept : (s.page f).discard = false) (code failing : Nat) :
    Keeps [.out, .pages] s (s.refuse r code failing) ∧
    Paged f ((s.page f).answered (s.response r code (refusalRest r failing))) s (s.refuse r code failing) := by
  have heq : s.refuse r code failing = s.mailboxDone f (s.response r code (refusalRest r failing)) := s.respond_mailbox hwho hf code _
  rw [heq, s.mailboxDone_kept _ hkept]
  have hset := (Paged.refl s f).setPage ((s.page f).answered (s.response r code (refusalRest r failing)))
  have hkeeps := (setPage_keeps_self s f ((s.page f).answered (s.response r code (refusalRest r failing)))).mono (qs := [.out, .pages])
  split
  · exact ⟨State.emit_keeps hkeeps _ (by decide), hset.keeps (ps := [.out]) (State.emit_keeps (.refl _ _) _ (by decide))⟩
  · exact ⟨hkeeps, hset⟩

/-- Bytes that stand behind a head are read from its length on. -/
theorem slice_append (a b c : Bytes) : slice (a ++ (b ++ c)) a.length b.length = b := by
  unfold slice
  simp

theorem message_body (tagged : Bool) (type txn epoch seq : Nat) (b c : Bytes) :
    slice (message tagged type txn epoch seq (b ++ c)) 16 b.length = b := by
  have h := slice_append (toBE 1 (16 + 4 * ofBool tagged) ++ toBE 1 type ++ toBE 2 txn ++ toBE 2 (b ++ c).length ++ [0, 0] ++ toBE 4 epoch ++
    toBE 4 seq) b c
  have hlength : (toBE 1 (16 + 4 * ofBool tagged) ++ toBE 1 type ++ toBE 2 txn ++ toBE 2 (b ++ c).length ++ [0, 0] ++ toBE 4 epoch ++
    toBE 4 seq).length = 16 := by simp only [List.length_append, toBE_length]; rfl
  rw [hlength] at h
  exact h

theorem response_status (s : State) (r : Request) {code : Nat} (hcode : code < 65536) (rest : Bytes) :
    beAt (s.response r code rest) 16 2 = code := by
  have h := message_body false (128 + r.type % 128) r.txn s.mgr.epoch 0 (toBE 2 code) ([0, 0] ++ rest)
  rw [toBE_length] at h
  have hslice : slice (s.response r code rest) 16 2 = toBE 2 code := by
    unfold State.response
    rw [List.append_assoc]
    exact h
  unfold beAt
  rw [hslice, ofBE_toBE_of_lt hcode]

/-! ## A ring peer's message -/

/-- A request that joins the ring queue. -/
def State.queued (s : State) (r : Request) : State := { s with mgr := { s.mgr with ringQueue := s.mgr.ringQueue ++ [r] } }

/-- The request of a ring peer's slot. -/
def State.peerRequest (s : State) (i mac : Nat) (msg : Bytes) : Request := requestOf (0x100 + i) (s.val 0x1602 (i + 1)) mac msg

theorem exec_ringRequestArrival (hp : s.rst.powered = true) {mac : Nat} {msg : Bytes} (hring : s.ringUp = true) (hmgr : s.managerUp = true)
    (htype : beAt msg 1 1 ≠ 6) : exec (.ringRequestArrival t mac msg) s = .next ((s.upTo t).ringRequest mac msg) := by
  show execRingRequestArrival t mac msg s = _
  unfold execRingRequestArrival
  rw [State.run_powered hp]
  exact congrArg Host.Outcome.next ((if_pos ⟨hring, hmgr⟩).trans (if_neg htype))

theorem ringRequest_queued {mac i : Nat} {msg : Bytes} (hslot : s.peerSlot mac = some i) (hrole : s.val 0x1602 (i + 1) ≠ 0)
    (htag : s.tagPasses i msg = true) (hroom : s.mgr.ringQueue.length < 32) (hok : State.wellFormed (s.peerRequest i mac msg) msg = true) :
    s.ringRequest mac msg = (s.noteSeq i msg).queued (s.peerRequest i mac msg) := by
  have htests : ¬ (s.val 0x1602 (i + 1) = 0 ∨ s.tagPasses i msg = false) := by rw [htag]; simpa using hrole
  have hform : ¬ State.wellFormed (s.peerRequest i mac msg) msg = false := by rw [hok]; decide
  unfold State.ringRequest
  rw [hslot]
  exact (if_neg htests).trans ((if_neg hform).trans (if_neg (Nat.not_le.mpr hroom)))

theorem ringRequest_dropped {mac i : Nat} {msg : Bytes} (hslot : s.peerSlot mac = some i)
    (h : s.val 0x1602 (i + 1) = 0 ∨ s.tagPasses i msg = false) : s.ringRequest mac msg = s.bump 0x1603 1 := by
  unfold State.ringRequest
  rw [hslot]
  exact if_pos h

theorem ringRequest_unknown {mac : Nat} {msg : Bytes} (hslot : s.peerSlot mac = none) : s.ringRequest mac msg = s.bump 0x1603 1 := by
  unfold State.ringRequest
  rw [hslot]
  rfl

theorem noteSeq_mgr (s : State) (i : Nat) (msg : Bytes) : (s.noteSeq i msg).mgr =
    { s.mgr with lastSeq := if msgTagged msg = true then Table.put 0 s.mgr.lastSeq i (msgSeq msg) else s.mgr.lastSeq } := by
  unfold State.noteSeq
  split <;> rfl

theorem bumpDropped_did (hexec : exec (.ringRequestArrival t n msg) s = .next ((s.upTo t).bump 0x1603 1)) :
    ∃ u, exec (.ringRequestArrival t n msg) s = .next u ∧ Did t [.dict] s u ∧ Counted [keyOf 0x1603 1] s u :=
  ⟨_, hexec, .of_keeps (State.bump_keeps (.refl _ _) _ _ (by decide)) (by decide), State.counted_bump (s.upTo t) 0x1603 1⟩

/-- Settles O34: the word of a mailbox, with and without GO, and the message of a ring peer. -/
theorem requestsArrive : Obligations.RequestsArrive := by
  unfold Obligations.RequestsArrive
  intro s t hs
  obtain ⟨-, hp⟩ := hs
  have hcontrolled : ∀ f w, Paged f ((s.page f).controlled w) (s.upTo t) ((s.upTo t).controlled f w) := fun f w => controlled_paged (s.upTo t) f w
  have hkeeps : ∀ f w, Keeps [.pages] (s.upTo t) ((s.upTo t).controlled f w) := fun f w => setPage_keeps_self (s.upTo t) f _
  refine ⟨fun f w hopen hgo hidle hlow hhigh => ?_, fun f w hopen hgo hbusy => ?_, fun f w hopen hgo => ?_,
    fun f w hclosed => Did.answer_upTo (exec_mbxGo_closed hp hclosed), fun mac msg hring hmgr htype => ?_⟩
  · have hpage := (hcontrolled f w).2
    have hexec := exec_mbxGo (t := t) (w := w) hp hopen
    rw [mailboxWrite_go hgo] at hexec
    have hoffer : ((s.upTo t).controlled f w).offered f = s.offered f := by
      unfold State.offered
      rw [hpage]
      rfl
    have hmessage : (((s.upTo t).controlled f w).page f).message = (s.page f).message := (congrArg Page.message hpage :)
    refine ⟨fun hok => ?_, fun hkept hbad => ?_⟩
    · rw [mailboxGo_accepted (by rw [hpage]; exact hidle) (by rw [hpage]; exact hlow) (by rw [hpage]; exact hhigh)
        (by rw [hoffer, hmessage]; exact hok), hoffer, hpage] at hexec
      obtain ⟨hothers, hself⟩ := (hcontrolled f w).setPage (((s.page f).controlled w).accepting (s.offered f))
      exact ⟨_, hexec, .of_keeps ((hkeeps f w).trans (setPage_keeps_self _ f _)) (by decide), hothers, hself⟩
    · rw [mailboxGo_refused (by rw [hpage]; exact hidle) (by rw [hoffer, hmessage]; exact hbad), hoffer, hpage] at hexec
      have htaken := (hcontrolled f w).setPage ((s.page f).controlled w).taken
      have hf : f < 64 := by
        unfold State.open at hopen
        simp only [Bool.and_eq_true, decide_eq_true_eq] at hopen
        exact hopen.1.1.1
      obtain ⟨hrefuse, hpaged⟩ := refuse_mailbox (s := ((s.upTo t).controlled f w).setPage f ((s.page f).controlled w).taken)
        (r := s.offered f) (f := f) rfl hf (by rw [htaken.2]; exact hkept) acProtocol 0xFF
      refine ⟨_, hexec, .of_keeps (((hkeeps f w).mono.trans (setPage_keeps_self _ f _).mono).trans hrefuse) (by decide),
        fun g hg => (hpaged.1 g hg).trans (htaken.1 g hg), ?_, ?_, ?_, ?_⟩
      · rw [hpaged.2]; rfl
      · rw [hpaged.2]; rfl
      · rw [hpaged.2, htaken.2]; rfl
      · rw [hpaged.2]
        exact response_status _ _ (by decide) _
  · have hpage := (hcontrolled f w).2
    have hexec := exec_mbxGo (t := t) (w := w) hp hopen
    rw [mailboxWrite_go hgo, mailboxGo_busy (by rw [hpage]; exact hbusy), hpage] at hexec
    obtain ⟨hothers, hself⟩ := (hcontrolled f w).setPage ((s.page f).controlled w).overlapped
    exact ⟨_, hexec, .of_keeps ((hkeeps f w).trans (setPage_keeps_self _ f _)) (by decide), hothers, hself⟩
  · have hexec := exec_mbxGo (t := t) (w := w) hp hopen
    rw [mailboxWrite_plain hgo] at hexec
    obtain ⟨hothers, hself⟩ := hcontrolled f w
    exact ⟨_, hexec, .of_keeps (hkeeps f w) (by decide), hothers, hself⟩
  · have hexec := exec_ringRequestArrival (t := t) (mac := mac) hp hring hmgr htype
    refine ⟨fun i hslot hrole htag hroom hok => ?_, fun i hslot h => ?_, fun hslot => ?_⟩
    · rw [ringRequest_queued (s := s.upTo t) hslot hrole htag hroom hok] at hexec
      have hmgr' := noteSeq_mgr (s.upTo t) i msg
      have hnote : Keeps [.mgr] (s.upTo t) ((s.upTo t).noteSeq i msg) := State.noteSeq_keeps (.refl _ _) i msg (by decide)
      have hqueue : Keeps [.mgr] ((s.upTo t).noteSeq i msg) (((s.upTo t).noteSeq i msg).queued ((s.upTo t).peerRequest i mac msg)) :=
        Keeps.record (.refl _ _) rfl rfl rfl rfl rfl rfl rfl rfl rfl rfl rfl rfl rfl rfl rfl rfl rfl rfl rfl
      refine ⟨_, hexec, .of_keeps (hnote.trans hqueue) (by decide), ?_, ?_, ?_, ?_⟩
      all_goals
        unfold State.queued
        rw [hmgr']
        rfl
    · exact bumpDropped_did (hexec.trans (congrArg Host.Outcome.next (ringRequest_dropped (s := s.upTo t) hslot h)))
    · exact bumpDropped_did (hexec.trans (congrArg Host.Outcome.next (ringRequest_unknown (s := s.upTo t) hslot)))

end Arrival

end Sys2Proof.Machine
end

section
/-! Requests of a mailbox that are served: what an answer is, and reads of entries, windows and digests (R39, R49, R53, R61, R66). -/

set_option Elab.async false

namespace Sys2Proof.Machine

section Serving

variable {ps qs : List Part} {s u v : State} {k : Service} {t n : Nat} {r : Request} {c : Instr} {found : Option BankCheck}

/-! ## The answer to a mailbox -/

/-- The answer to a request that has been taken, from a state with its pages, its turn, its epoch and what has left the module. -/
theorem State.Mailbox.answers (h : s.Mailbox k n r) (hpages : u.pages = (s.takeNext n).pages) (hturn : u.mgr.turn = (n + 1) % 65)
    (hepoch : u.mgr.epoch = s.mgr.epoch) (hout : u.out = s.out) (status : Nat) (rest : Bytes) :
    s.Answered (u.respond r status rest) n (s.response r status rest) := by
  rw [s.takeNext_mailbox h.function] at hpages
  have hself : u.page n = { s.page n with req := none } := by
    unfold State.page
    rw [hpages]
    exact Table.get_put_self _ _ _
  have hother : ∀ q, q ≠ n → u.page q = s.page q := fun q hq => by
    unfold State.page
    rw [hpages]
    exact Table.get_put_ne _ _ hq
  have hmessage : u.response r status rest = s.response r status rest := by
    unfold State.response
    rw [hepoch]
  have hkept : (u.page n).discard = false := by rw [hself]; exact h.kept
  rw [u.respond_mailbox h.who h.function, u.mailboxDone_kept _ hkept, hmessage, hself]
  constructor
  case page => split <;> simp
  case others =>
    intro q hq
    split <;> simp [State.page_setPage_ne _ _ _ hq, hother q hq]
  case turn => split <;> simp [hturn]
  case out => split <;> simp [hout, State.emit]

theorem takeNext_keeps_self (s : State) (n : Nat) : Keeps [.mgr, .pages] s (s.takeNext n) :=
  State.takeNext_keeps (.refl _ s) n (by decide) (by decide)

theorem State.Mailbox.taken_mgr (h : s.Mailbox k n r) : (s.takeNext n).mgr = { s.mgr with turn := (n + 1) % 65 } := by
  rw [s.takeNext_mailbox h.function]
  rfl

theorem Request.responds_mgr (hwho : r.who = n) (hn : n < 64) (u : State) (status : Nat) (rest : Bytes) :
    (u.respond r status rest).mgr = u.mgr := by
  rw [u.respond_mailbox hwho hn]
  exact (State.mailboxDone_keeps (.refl [.out, .pages] u) n _ (by decide) (by decide)).frame .mgr (by decide)

/-- A request that is served and answered: what the service has done stands, and the answer is the mailbox's. -/
theorem State.Mailbox.served (h : s.Mailbox k n r) (hexec : exec c s = .next ((s.upTo t).serve k found)) {status : Nat} {rest : Bytes}
    (hperform : ((s.upTo t).takeNext n).perform r found = u.respond r status rest) (hu : Keeps ps ((s.upTo t).takeNext n) u)
    (hturn : u.mgr.turn = (n + 1) % 65) (hepoch : u.mgr.epoch = s.mgr.epoch)
    (hqs : ∀ p ∈ ps, p ∈ qs := by decide) (hout : Part.out ∉ ps := by decide) (hpages : Part.pages ∉ ps := by decide)
    (hio : Part.out ∈ qs ∧ Part.pages ∈ qs ∧ Part.mgr ∈ qs ∧ Part.tsc ∉ qs := by decide) :
    exec c s = .next (u.respond r status rest) ∧ Did t qs s (u.respond r status rest) ∧ s.Answered (u.respond r status rest) n (s.response r status rest) := by
  obtain ⟨hout', hpages', hmgr, htsc⟩ := hio
  have htake := (takeNext_keeps_self (s.upTo t) n).mono (qs := qs) (by simp [hmgr, hpages'])
  have hkeeps := h.respond_keeps (htake.trans (hu.mono hqs)) status rest hout' hpages'
  refine ⟨?_, .of_keeps hkeeps htsc, ?_⟩
  · rw [hexec, (h.upTo t).serve, hperform]
  · refine State.Answered.of_upTo ((h.upTo t).answers (hu.frame .pages hpages) hturn hepoch ?_ status rest)
    exact (hu.frame .out hout).trans ((takeNext_keeps_self (s.upTo t) n).frame .out (by decide))

/-- A request that is answered and does nothing else. -/
theorem State.Mailbox.replied (h : s.Mailbox k n r) (hexec : exec c s = .next ((s.upTo t).serve k found)) {status : Nat} {rest : Bytes}
    (hperform : ((s.upTo t).takeNext n).perform r found = ((s.upTo t).takeNext n).respond r status rest) :
    ∃ u, exec c s = .next u ∧ Did t [.out, .mgr, .pages] s u ∧ s.Answered u n (s.response r status rest) := by
  have hmgr := (h.upTo t).taken_mgr
  exact ⟨_, h.served (qs := [.out, .mgr, .pages]) hexec hperform (.refl [] _) (by rw [hmgr]) (by rw [hmgr]; rfl)⟩

/-! ## The row of a request -/

theorem writeService_ne {w : WriteRec} {k : Service} (hk : k = .read ∨ k = .bundle ∨ k = .windowRead ∨ k = .windowWrite ∨ k = .digestQuery) :
    writeService w ≠ k := by
  unfold writeService
  dsimp only
  rcases hk with rfl | rfl | rfl | rfl | rfl <;> (repeat refine ite_ne_of_ne (by decide) ?_) <;> decide

theorem Request.type_of_read (h : r.service = .read) : r.type = 1 := by
  unfold Request.service at h
  split_ifs at h with h₁
  · exact h₁
  · exact absurd h (writeService_ne (by decide))

theorem Request.type_of_bundle (h : r.service = .bundle) : r.type = 3 := by
  unfold Request.service at h
  split_ifs at h with _ _ h₃
  · exact absurd h (writeService_ne (by decide))
  · exact h₃

theorem Request.type_of_windowRead (h : r.service = .windowRead) : r.type = 4 := by
  unfold Request.service at h
  split_ifs at h with _ _ _ h₄
  · exact absurd h (writeService_ne (by decide))
  · exact h₄

theorem Request.type_of_windowWrite (h : r.service = .windowWrite) : r.type = 5 := by
  unfold Request.service at h
  split_ifs at h with _ _ _ _ h₅
  · exact absurd h (writeService_ne (by decide))
  · exact h₅

theorem Request.type_of_digestQuery (h : r.service = .digestQuery) : r.type ≠ 1 ∧ r.type ≠ 2 ∧ r.type ≠ 3 ∧ r.type ≠ 4 ∧ r.type ≠ 5 := by
  unfold Request.service at h
  split_ifs at h with h₁ h₂ h₃ h₄ h₅
  · exact absurd h (writeService_ne (by decide))
  · exact ⟨h₁, h₂, h₃, h₄, h₅⟩

/-! ## Codes -/

theorem codeOf_cons_zero (l : List Nat) : codeOf (0 :: l) = codeOf l := by
  have hshift : ∀ (l : List Nat) i j, (firstCode i l).map Prod.snd = (firstCode j l).map Prod.snd := by
    intro l
    induction l with
    | nil => exact fun _ _ => rfl
    | cons c l ih =>
      intro i j
      unfold firstCode
      split
      · exact ih _ _
      · rfl
  have hcode : ∀ l, codeOf l = ((firstCode 0 l).map Prod.snd).getD 0 := by
    intro l
    unfold codeOf
    cases firstCode 0 l <;> rfl
  rw [hcode, hcode]
  show ((firstCode (0 + 1) l).map Prod.snd).getD 0 = _
  rw [hshift l 1 0]

theorem codeOf_cons_ne {x : Nat} (h : x ≠ 0) (l : List Nat) : codeOf (x :: l) = x := by
  unfold codeOf firstCode
  rw [if_neg h]

theorem codeOf_zeros {l : List Nat} (h : ∀ x ∈ l, x = 0) : codeOf l = 0 := by
  induction l with
  | nil => rfl
  | cons x l ih =>
    rw [h x List.mem_cons_self, codeOf_cons_zero]
    exact ih fun y hy => h y (List.mem_cons_of_mem _ hy)

/-! ## Reads -/

/-- What a refused READ is answered. -/
theorem performRead_refused {i j : Nat} (hi : beAt r.body 0 2 = i) (hj : beAt r.body 2 1 = j) (htype : r.type = 1)
    (h : s.readCode r i j (s.entry i j) ≠ 0) : s.performRead r = s.respond r (s.readCode r i j (s.entry i j)) [0, 0, 0, 0] := by
  unfold State.performRead
  rw [hi, hj]
  dsimp only
  split
  · rename_i hzero _
    exact absurd hzero h
  · unfold State.refuse refusalRest
    rw [if_pos htype]

/-- What a READ that passes every test is answered. -/
theorem performRead_value {i j : Nat} {d : Desc} (hi : beAt r.body 0 2 = i) (hj : beAt r.body 2 1 = j) (hentry : s.entry i j = some d)
    (h : s.readCode r i j (some d) = 0) : s.performRead r = (s.readEntry (keyOf i j) d r.staged).2.respond r 0
      (toBE 1 (tyCode d.ty) ++ [0] ++ toBE 2 (s.readEntry (keyOf i j) d r.staged).1.length ++ (s.readEntry (keyOf i j) d r.staged).1) := by
  unfold State.performRead
  rw [hi, hj]
  dsimp only
  rw [hentry, h]
  rfl

theorem readEntry_computed {i j : Nat} (hj : j < 256) (d : Desc) (staged : Bool) {x : Bytes} (h : s.computed i j = some x) :
    s.readEntry (keyOf i j) d staged = (x, s) := by
  unfold State.readEntry
  rw [idxOf_keyOf hj, subOf_keyOf hj, h]

theorem readEntry_measured {i j : Nat} (hj : j < 256) (d : Desc) (staged : Bool) (h : s.computed i j = none) (hm : measured i j = true)
    (hkey : keyOf i j ≠ keyOf 0x1200 0x0C) : s.readEntry (keyOf i j) d staged = (toBE 4 (finiteF32 s.fresh.1), s.fresh.2) := by
  unfold State.readEntry
  rw [idxOf_keyOf hj, subOf_keyOf hj, h]
  exact (if_neg hkey).trans (if_pos hm)

/-- What an entry reads as that is neither shown of the state nor measured: staged, written or in force. -/
def State.heldValue (s : State) (r : Request) (key : Nat) (d : Desc) : Bytes :=
  if shows d.access = true then s.committed key else
    match (if r.staged = true ∧ d.access = .rws then Table.find s.mgr.staging key else none) with
    | some x => x
    | none => (Table.find s.written key).getD (s.committed key)

theorem readEntry_held {i j : Nat} (hj : j < 256) (d : Desc) (h : s.computed i j = none) (hm : measured i j = false)
    (hkey : keyOf i j ≠ keyOf 0x1200 0x0C) : s.readEntry (keyOf i j) d r.staged = (s.heldValue r (keyOf i j) d, s) := by
  have hcond : (if (r.staged && d.access == .rws) = true then Table.find s.mgr.staging (keyOf i j) else none) =
      (if r.staged = true ∧ d.access = .rws then Table.find s.mgr.staging (keyOf i j) else none) :=
    if_congr (by rw [Bool.and_eq_true, beq_iff_eq]) rfl rfl
  unfold State.readEntry State.heldValue
  rw [idxOf_keyOf hj, subOf_keyOf hj, h, hm, ← hcond]
  dsimp only
  rw [if_neg hkey, if_neg Bool.false_ne_true]
  split
  · rfl
  · generalize (if (r.staged && d.access == .rws) = true then Table.find s.mgr.staging (keyOf i j) else none) = found
    cases found <;> rfl

theorem fresh_keeps_self (s : State) : Keeps [.free] s s.fresh.2 :=
  Keeps.record (.refl _ s) rfl rfl rfl rfl rfl rfl rfl rfl rfl rfl rfl rfl rfl rfl rfl rfl rfl rfl rfl

/-! ## Windows and digests -/

theorem performWindowRead_records (h : s.windowCode r false = 0)
    (hpos : ∀ i < beAt r.body 2 2, s.positionCode (beAt r.body 0 1) (beAt r.body 4 4 + i) = 0) : s.performWindowRead r = s.respond r 0
      (toBE 2 (beAt r.body 2 2) ++ toBE 2 (windowSize (beAt r.body 0 1)) ++ s.windowRecords (beAt r.body 0 1) (beAt r.body 4 4) (beAt r.body 2 2)) := by
  refine if_pos ?_
  rw [h]
  refine (codeOf_cons_zero _).trans (codeOf_zeros fun x hx => ?_)
  obtain ⟨i, hi, rfl⟩ := List.mem_map.mp hx
  exact hpos i (List.mem_range.mp hi)

theorem performWindowRead_refused (htype : r.type = 4) (h : s.windowCode r false ≠ 0) : s.performWindowRead r =
    s.respond r (s.windowCode r false) (toBE 2 0 ++ toBE 2 (windowSize (beAt r.body 0 1))) := by
  have hcode : ∀ l, codeOf (s.windowCode r false :: l) = s.windowCode r false := codeOf_cons_ne h
  unfold State.performWindowRead
  dsimp only
  rw [hcode, if_neg h]
  unfold State.refuse refusalRest
  rw [htype]
  rfl

theorem refusalRest_query (h : r.service = .digestQuery) (failing : Nat) : refusalRest r failing = [] := by
  obtain ⟨h₁, h₂, h₃, h₄, h₅⟩ := Request.type_of_digestQuery h
  unfold refusalRest
  rw [if_neg h₁, if_neg h₂, if_neg h₃, if_neg h₄, if_neg h₅]

/-- What a DIGEST_QUERY is answered, by its role and the epoch it names. -/
theorem performQuery_eq (h : r.service = .digestQuery) : s.performQuery r =
    if r.role = 0 then s.respond r acNoAccess [] else if s.epochDiffers r = true then s.respond r acEpoch [] else s.respond r 0 s.announceBody := by
  unfold State.performQuery
  dsimp only
  by_cases hrole : r.role = 0
  · rw [if_pos hrole, show (r.role == 0) = true from beq_iff_eq.mpr hrole]
    have hcode : codeOf [failIf true acNoAccess, failIf (s.epochDiffers r) acEpoch] = acNoAccess := codeOf_cons_ne (by decide) _
    rw [hcode]
    exact (if_neg (by decide)).trans (congrArg (s.respond r acNoAccess) (refusalRest_query h _))
  · rw [if_neg hrole, show (r.role == 0) = false from beq_eq_false_iff_ne.mpr hrole]
    cases hepoch : s.epochDiffers r with
    | true => exact (if_neg (by decide)).trans (congrArg (s.respond r acEpoch) (refusalRest_query h _))
    | false => exact if_pos (by decide)

/-! ## The rows that serve reads -/

theorem exec_read (hp : s.rst.powered = true) (t : Nat) : exec (.read t) s = .next ((s.upTo t).serve .read none) :=
  State.run_powered hp t fun s => s.serve .read none

theorem exec_windowRead (hp : s.rst.powered = true) (t : Nat) : exec (.windowRead t) s = .next ((s.upTo t).serve .windowRead none) :=
  State.run_powered hp t fun s => s.serve .windowRead none

theorem exec_digestQuery (hp : s.rst.powered = true) (t : Nat) : exec (.digestQuery t) s = .next ((s.upTo t).serve .digestQuery none) :=
  State.run_powered hp t fun s => s.serve .digestQuery none

theorem perform_read (h : r.service = .read) (found : Option BankCheck) : s.perform r found = s.performRead r := by
  unfold State.perform
  rw [h]

theorem perform_windowRead (h : r.service = .windowRead) (found : Option BankCheck) : s.perform r found = s.performWindowRead r := by
  unfold State.perform
  rw [h]

theorem perform_digestQuery (h : r.service = .digestQuery) (found : Option BankCheck) : s.perform r found = s.performQuery r := by
  unfold State.perform
  rw [h]

/-- A state but for the manager's turn and the pages. -/
theorem State.Mailbox.taken (h : s.Mailbox k n r) (t : Nat) : (s.upTo t).takeNext n =
    { s.upTo t with mgr := { s.mgr with turn := (n + 1) % 65 } }.setPage n { s.page n with req := none } :=
  (s.upTo t).takeNext_mailbox h.function

theorem read_value_served (hp : s.rst.powered = true) (h : s.Mailbox .read n r) {d : Desc} {x : Bytes} {v : State}
    (hentry : s.entry (beAt r.body 0 2) (beAt r.body 2 1) = some d) (hcode : s.readCode r (beAt r.body 0 2) (beAt r.body 2 1) (some d) = 0)
    (hread : ((s.upTo t).takeNext n).readEntry (keyOf (beAt r.body 0 2) (beAt r.body 2 1)) d r.staged = (x, v)) :
    ((s.upTo t).takeNext n).perform r none = v.respond r 0 (toBE 1 (tyCode d.ty) ++ [0] ++ toBE 2 x.length ++ x) := by
  have hentry' : ((s.upTo t).takeNext n).entry (beAt r.body 0 2) (beAt r.body 2 1) = some d := by rw [h.taken]; exact hentry
  have hcode' : ((s.upTo t).takeNext n).readCode r (beAt r.body 0 2) (beAt r.body 2 1) (some d) = 0 := by rw [h.taken]; exact hcode
  rw [perform_read h.service, performRead_value rfl rfl hentry' hcode', hread]

/-- Settles O35: reads of an entry, of a window and of the digests, each by the tests that it passes. -/
theorem readRequestsServed : Obligations.ReadRequestsServed := by
  unfold Obligations.ReadRequestsServed
  intro s t n r hs
  obtain ⟨-, hp⟩ := hs
  refine ⟨fun h hcode => ?_, fun d h hentry hcode => ⟨fun x hcomputed => ?_, fun hnone => ⟨fun hm hkey => ?_, fun x hm hkey hx => ?_⟩⟩,
    fun h hcode hpos => ?_, fun h hcode => ?_, fun h hrole hepoch => ?_, fun h hrole hepoch => ?_, fun h hrole => ?_⟩
  · refine h.replied (exec_read hp t) ?_
    have hsame : ∀ i j, ((s.upTo t).takeNext n).readCode r i j (((s.upTo t).takeNext n).entry i j) = s.readCode r i j (s.entry i j) := by
      intro i j
      rw [h.taken]
      rfl
    rw [perform_read h.service, performRead_refused rfl rfl (Request.type_of_read h.service) (by rw [hsame]; exact hcode), hsame]
  · exact h.replied (exec_read hp t) (read_value_served hp h hentry hcode (readEntry_computed (beAt_one_lt _ _) d _ hcomputed))
  · have hread := read_value_served hp h hentry hcode (readEntry_measured (beAt_one_lt _ _) d r.staged hnone hm hkey)
    have hfree : ((s.upTo t).takeNext n).free = s.free := (takeNext_keeps_self (s.upTo t) n).frame .free (by decide)
    rw [toBE_length, show ((s.upTo t).takeNext n).fresh.1 = Config.freeValue s.free from congrArg Config.freeValue hfree] at hread
    have hmgr : ((s.upTo t).takeNext n).fresh.2.mgr = { s.mgr with turn := (n + 1) % 65 } := (h.upTo t).taken_mgr
    exact ⟨_, h.served (exec_read hp t) hread (fresh_keeps_self _) (by rw [hmgr]) (by rw [hmgr])⟩
  · have hheld : ((s.upTo t).takeNext n).heldValue r (keyOf (beAt r.body 0 2) (beAt r.body 2 1)) d = x := by
      rw [h.taken, hx]
      rfl
    refine h.replied (exec_read hp t) (read_value_served hp h hentry hcode ?_)
    rw [readEntry_held (beAt_one_lt _ _) d hnone hm hkey, hheld]
  · refine h.replied (exec_windowRead hp t) ?_
    rw [perform_windowRead h.service, performWindowRead_records (by rw [h.taken]; exact hcode) (by rw [h.taken]; exact hpos)]
    rw [h.taken]
    rfl
  · have hsame : ((s.upTo t).takeNext n).windowCode r false = s.windowCode r false := by rw [h.taken]; rfl
    refine h.replied (exec_windowRead hp t) ?_
    rw [perform_windowRead h.service, performWindowRead_refused (Request.type_of_windowRead h.service) (by rw [hsame]; exact hcode), hsame]
  · have hsame : ((s.upTo t).takeNext n).epochDiffers r = true := by rw [h.taken]; exact hepoch
    refine h.replied (exec_digestQuery hp t) ?_
    rw [perform_digestQuery h.service, performQuery_eq h.service, if_neg hrole, if_pos hsame]
    rfl
  · have hsame : ¬ ((s.upTo t).takeNext n).epochDiffers r = true := by
      rw [h.taken]
      exact fun hd => Bool.noConfusion (hepoch.symm.trans hd)
    refine h.replied (exec_digestQuery hp t) ?_
    rw [perform_digestQuery h.service, performQuery_eq h.service, if_neg hrole, if_neg hsame]
    rw [h.taken]
    rfl
  · refine h.replied (exec_digestQuery hp t) ?_
    rw [perform_digestQuery h.service, performQuery_eq h.service, if_pos hrole]
    rfl

end Serving

end Sys2Proof.Machine
end

section
/-! Writes, bundles and window writes that are served (R39, R41, R53, R57, R66). -/

set_option Elab.async false

namespace Sys2Proof.Machine

section Writing

variable {ps qs : List Part} {s u v : State} {k : Service} {t n : Nat} {r : Request} {w : WriteRec} {l : List WriteRec} {c : Instr}

/-! ## The row of a write -/

/-- A request of a row of writes is a WRITE, and its entry's row is its own. -/
theorem Request.write_of_service (h : r.service = k)
    (hk : ¬ (k = .read ∨ k = .bundle ∨ k = .windowRead ∨ k = .windowWrite ∨ k = .digestQuery)) :
    r.type = 2 ∧ writeService (writeRecOf r.body) = k := by
  unfold Request.service at h
  split_ifs at h with h₁ h₂ h₃ h₄ h₅
  · exact absurd (.inl h.symm) hk
  · exact ⟨h₂, h⟩
  · exact absurd (.inr (.inl h.symm)) hk
  · exact absurd (.inr (.inr (.inl h.symm))) hk
  · exact absurd (.inr (.inr (.inr (.inl h.symm)))) hk
  · exact absurd (.inr (.inr (.inr (.inr h.symm)))) hk

/-- A write of the commit entry is no plain write. -/
theorem key_ne_commit (h : writeService w ≠ .commit) : w.key ≠ keyOf 0x1400 1 := fun hkey => h (if_pos hkey)

/-! ## Accepted records -/

/-- A state with other values that wait for the boundary. -/
def State.writing (s : State) (x : Table Bytes) : State := { s with written := x }

/-- A manager with one more value staged. -/
def Manager.stagedBy (who : Nat) (w : WriteRec) (m : Manager) : Manager :=
  { m with staging := Table.insert m.staging w.key w.value, stagingState := 1, owner := who, stagedDigests := [] }

/-- A state with another manager. -/
def State.managed (s : State) (m : Manager) : State := { s with mgr := m }

theorem managed_keeps (s : State) (m : Manager) : Keeps [.mgr] s (s.managed m) :=
  Keeps.record (.refl _ s) rfl rfl rfl rfl rfl rfl rfl rfl rfl rfl rfl rfl rfl rfl rfl rfl rfl rfl rfl

theorem rising_records (l : List WriteRec) : ∀ {x : Table Bytes}, Table.rising x = true →
    Table.rising (l.foldl (fun a w => Table.insert a w.key w.value) x) = true := by
  induction l with
  | nil => exact fun h => h
  | cons w l ih => exact fun h => ih (Table.rising_insert w.key w.value h)

/-- Records that wait for the boundary leave everything but what waits. -/
theorem writing_keeps (s : State) (l : List WriteRec) :
    Keeps [.written] s (s.writing (l.foldl (fun a w => Table.insert a w.key w.value) s.written)) :=
  ⟨rfl, rfl, .inl rfl, fun h => { h with written := rising_records l h.written }, fun p hp => by cases p <;> first | exact absurd (by decide) hp | rfl⟩

theorem accept_written (h : s.right w = .rw ∨ s.right w = .rwq) (who : Nat) (found : Option BankCheck) :
    s.accept who found w = s.writing (Table.insert s.written w.key w.value) := by
  unfold State.accept
  rcases h with h | h <;> (rw [h]; rfl)

theorem accept_staged (h : s.right w = .rws) (who : Nat) (found : Option BankCheck) :
    s.accept who found w = s.managed (s.mgr.stagedBy who w) := by
  unfold State.accept
  rw [h]
  rfl

theorem each_accept_written (found : Option BankCheck) (who : Nat) : ∀ {l : List WriteRec} {s : State},
    (∀ x ∈ l, s.right x = .rw ∨ s.right x = .rwq) →
    s.each l (fun u w => u.accept who found w) = s.writing (l.foldl (fun a x => Table.insert a x.key x.value) s.written)
  | [], _, _ => rfl
  | x :: l, s, h => by
    show (s.accept who found x).each l _ = _
    rw [accept_written (h x List.mem_cons_self)]
    exact each_accept_written found who (s := s.writing (Table.insert s.written x.key x.value)) fun y hy => h y (List.mem_cons_of_mem _ hy)

/-- What staging a list of records leaves of the manager. -/
theorem each_accept_staged (found : Option BankCheck) (who : Nat) : ∀ {l : List WriteRec} {s : State}, (∀ x ∈ l, s.right x = .rws) →
    ∃ m, s.each l (fun u w => u.accept who found w) = s.managed m ∧ m.turn = s.mgr.turn ∧ m.epoch = s.mgr.epoch ∧
      m.staging = l.foldl (fun a x => Table.insert a x.key x.value) s.mgr.staging ∧
      (l ≠ [] ∨ s.mgr.stagingState = 1 ∧ s.mgr.owner = who → m.stagingState = 1 ∧ m.owner = who)
  | [], s, _ => ⟨s.mgr, rfl, rfl, rfl, rfl, fun h => h.resolve_left fun hl => hl rfl⟩
  | x :: l, s, h => by
    obtain ⟨m, heq, hturn, hepoch, hstaging, hstate⟩ := each_accept_staged found who (l := l) (s := s.managed (s.mgr.stagedBy who x))
      fun y hy => h y (List.mem_cons_of_mem _ hy)
    refine ⟨m, ?_, hturn, hepoch, hstaging, fun _ => hstate (.inr ⟨rfl, rfl⟩)⟩
    show (s.accept who found x).each l _ = _
    rw [accept_staged (h x List.mem_cons_self), heq]
    rfl

/-! ## The answers of a write -/

/-- The epochs that a list of accepted records counts. -/
def State.countsEpoch (s : State) (l : List WriteRec) : Bool := l.any fun w => s.right w == .rwq

/-- A state whose manager owes one more epoch. -/
def State.bumping (s : State) (yes : Bool) : State :=
  if yes then s.managed { s.mgr with bumps := s.mgr.bumps + 1 } else s

theorem performWrite_accepted (h : s.writeTests r r.recs = none) (found : Option BankCheck) : s.performWrite r found =
    ((s.each r.recs fun u w => u.accept r.who found w).bumping (s.countsEpoch r.recs)).respond r 0 (refusalRest r 0xFF) := by
  unfold State.performWrite
  dsimp only
  rw [h]
  rfl

/-- What a refused write leaves of its result. -/
def State.noteFailure (s : State) (r : Request) (i code : Nat) : State :=
  match r.recs[i]? with
  | some w => s.noteImage w code
  | none => s

theorem performWrite_refused {i code : Nat} (h : s.writeTests r r.recs = some (i, code))
    (hcommit : ∀ w, r.recs[i]? = some w → ¬ (w.key = keyOf 0x1400 1 ∧ r.type = 2)) (found : Option BankCheck) :
    s.performWrite r found = (s.noteFailure r i code).respond r code (refusalRest r i) := by
  unfold State.performWrite State.noteFailure
  dsimp only
  rw [h]
  dsimp only
  cases hw : r.recs[i]? with
  | none => rfl
  | some w => exact congrArg (fun u : State => u.refuse r code i) (if_neg (hcommit w hw))

theorem noteFailure_keeps (s : State) (r : Request) (i code : Nat) : Keeps [.dict] s (s.noteFailure r i code) := by
  unfold State.noteFailure
  split
  · exact State.noteImage_keeps (.refl _ s) _ _ (by decide)
  · exact .refl _ s

theorem noteFailure_raw (s : State) (r : Request) (i code : Nat) {j : Nat} (h : j ≠ keyOf 0x1100 0x51) :
    (s.noteFailure r i code).raw j = s.raw j := by
  unfold State.noteFailure
  split
  · unfold State.noteImage
    split
    · exact State.raw_setVal_ne _ _ h
    · rfl
  · rfl

theorem refusalRest_bundle (htype : r.type = 3) (i : Nat) : refusalRest r i = toBE 1 i ++ [0, 0, 0] := by
  unfold refusalRest
  rw [htype]
  rfl

/-- A refused request of a mailbox notes no more than the result of an image command. -/
theorem State.Mailbox.refused (h : s.Mailbox k n r) (hexec : exec c s = .next ((s.upTo t).serve k none)) {i code : Nat} {rest : Bytes}
    (hrest : refusalRest r i = rest)
    (hperform : ((s.upTo t).takeNext n).perform r none = (((s.upTo t).takeNext n).noteFailure r i code).respond r code (refusalRest r i)) :
    ∃ u, exec c s = .next u ∧ Did t [.out, .dict, .mgr, .pages] s u ∧ u.mgr = { s.mgr with turn := (n + 1) % 65 } ∧
      (∀ j, j ≠ keyOf 0x1100 0x51 → u.raw j = s.raw j) ∧ s.Answered u n (s.response r code rest) := by
  have hkeeps := noteFailure_keeps ((s.upTo t).takeNext n) r i code
  have hmgr : (((s.upTo t).takeNext n).noteFailure r i code).mgr = { s.mgr with turn := (n + 1) % 65 } :=
    (hkeeps.frame .mgr (by decide)).trans (h.upTo t).taken_mgr
  rw [hrest] at hperform
  obtain ⟨hnext, hdid, hanswered⟩ := h.served hexec hperform hkeeps (by rw [hmgr]) (by rw [hmgr])
    (qs := [.out, .dict, .mgr, .pages])
  refine ⟨_, hnext, hdid, (Request.responds_mgr h.who h.function _ _ _).trans hmgr, fun j hj => ?_, hanswered⟩
  rw [((h.respond_keeps (ps := [.out, .pages]) (.refl _ _) code rest (by decide) (by decide)).raw j : _ = _)]
  exact (noteFailure_raw _ r i code hj).trans ((takeNext_keeps_self (s.upTo t) n).raw j)

/-! ## The rows that serve writes -/

theorem exec_write (hp : s.rst.powered = true) (t : Nat) : exec (.write t) s = .next ((s.upTo t).serve .write none) :=
  State.run_powered hp t fun s => s.serve .write none

theorem exec_bundle (hp : s.rst.powered = true) (t : Nat) : exec (.bundle t) s = .next ((s.upTo t).serve .bundle none) :=
  State.run_powered hp t fun s => s.serve .bundle none

theorem exec_windowWrite (hp : s.rst.powered = true) (t : Nat) : exec (.windowWrite t) s = .next ((s.upTo t).serve .windowWrite none) :=
  State.run_powered hp t fun s => s.serve .windowWrite none

theorem perform_write (h : r.service = .write) (found : Option BankCheck) : s.perform r found = s.performWrite r found := by
  unfold State.perform
  rw [h]

theorem perform_bundle (h : r.service = .bundle) (found : Option BankCheck) : s.perform r found = s.performWrite r none := by
  unfold State.perform
  rw [h]

theorem perform_windowWrite (h : r.service = .windowWrite) (found : Option BankCheck) : s.perform r found = s.performWindowWrite r := by
  unfold State.perform
  rw [h]

theorem State.Mailbox.taken_right (h : s.Mailbox k n r) (t : Nat) (w : WriteRec) : ((s.upTo t).takeNext n).right w = s.right w := by
  rw [h.taken]
  rfl

theorem State.Mailbox.taken_written (h : s.Mailbox k n r) (t : Nat) : ((s.upTo t).takeNext n).written = s.written := by
  rw [h.taken]
  rfl

theorem State.Mailbox.taken_countsEpoch (h : s.Mailbox k n r) (t : Nat) : ((s.upTo t).takeNext n).countsEpoch l = s.countsEpoch l := by
  unfold State.countsEpoch
  exact congrArg (List.any l) (funext fun w => congrArg (· == Access.rwq) (h.taken_right t w))

/-- A manager that has counted the epochs a list of records owes. -/
def Manager.bumping (m : Manager) (yes : Bool) : Manager := { m with bumps := m.bumps + if yes = true then 1 else 0 }

theorem bumping_mgr (s : State) (yes : Bool) : (s.bumping yes).mgr = s.mgr.bumping yes := by cases yes <;> rfl

theorem bumping_keeps (s : State) (yes : Bool) : Keeps [.mgr] s (s.bumping yes) := by
  unfold State.bumping
  exact Keeps.ite (managed_keeps s _) (.refl _ s)

/-- Accepted records of rights rw and rwq wait for the boundary, with an epoch to count where one is rwq. -/
theorem State.Mailbox.writes (h : s.Mailbox k n r) (hexec : exec c s = .next ((s.upTo t).serve k none))
    (hrow : ((s.upTo t).takeNext n).perform r none = ((s.upTo t).takeNext n).performWrite r none)
    (hpass : ((s.upTo t).takeNext n).writeTests r r.recs = none) (hright : ∀ x ∈ r.recs, s.right x = .rw ∨ s.right x = .rwq) :
    ∃ u, exec c s = .next u ∧ Did t [.out, .written, .mgr, .pages] s u ∧
      u.written = r.recs.foldl (fun a x => Table.insert a x.key x.value) s.written ∧
      u.mgr = ({ s.mgr with turn := (n + 1) % 65 } : Manager).bumping (s.countsEpoch r.recs) ∧
      s.Answered u n (s.response r 0 (refusalRest r 0xFF)) := by
  have hall : ∀ x ∈ r.recs, ((s.upTo t).takeNext n).right x = .rw ∨ ((s.upTo t).takeNext n).right x = .rwq := fun x hx => by
    rw [h.taken_right]
    exact hright x hx
  have hperform := hrow.trans (performWrite_accepted hpass none)
  rw [each_accept_written none r.who hall, h.taken_countsEpoch, h.taken_written] at hperform
  have hwritten := writing_keeps ((s.upTo t).takeNext n) r.recs
  rw [h.taken_written] at hwritten
  have hkeeps := hwritten.mono (qs := [.written, .mgr]) |>.trans (bumping_keeps _ (s.countsEpoch r.recs)).mono
  have hmgr := bumping_mgr (((s.upTo t).takeNext n).writing (r.recs.foldl (fun a x => Table.insert a x.key x.value) s.written)) (s.countsEpoch r.recs)
  have htaken : (((s.upTo t).takeNext n).writing (r.recs.foldl (fun a x => Table.insert a x.key x.value) s.written)).mgr =
      { s.mgr with turn := (n + 1) % 65 } := (h.upTo t).taken_mgr
  rw [htaken] at hmgr
  obtain ⟨hnext, hdid, hanswered⟩ := h.served hexec hperform hkeeps (by rw [hmgr]; rfl) (by rw [hmgr]; rfl) (qs := [.out, .written, .mgr, .pages])
  refine ⟨_, hnext, hdid, ?_, (Request.responds_mgr h.who h.function _ _ _).trans hmgr, hanswered⟩
  refine ((h.respond_keeps (ps := [.out, .pages]) (.refl _ _) 0 _ (by decide) (by decide)).frame .written (by decide)).trans ?_
  exact (bumping_keeps _ (s.countsEpoch r.recs)).frame .written (by decide)

/-- Accepted records of right rws are staged under their owner. -/
theorem State.Mailbox.stages (h : s.Mailbox k n r) (hexec : exec c s = .next ((s.upTo t).serve k none))
    (hrow : ((s.upTo t).takeNext n).perform r none = ((s.upTo t).takeNext n).performWrite r none)
    (hpass : ((s.upTo t).takeNext n).writeTests r r.recs = none) (hright : ∀ x ∈ r.recs, s.right x = .rws) :
    ∃ u m, exec c s = .next u ∧ Did t [.out, .mgr, .pages] s u ∧
      ((s.upTo t).takeNext n).each r.recs (fun u w => u.accept r.who none w) = ((s.upTo t).takeNext n).managed m ∧ u.mgr = m ∧
      m.staging = r.recs.foldl (fun a x => Table.insert a x.key x.value) s.mgr.staging ∧
      (r.recs ≠ [] → m.stagingState = 1 ∧ m.owner = n) ∧ s.Answered u n (s.response r 0 (refusalRest r 0xFF)) := by
  have hall : ∀ x ∈ r.recs, ((s.upTo t).takeNext n).right x = .rws := fun x hx => by
    rw [h.taken_right]
    exact hright x hx
  have hquiet : s.countsEpoch r.recs = false := by
    unfold State.countsEpoch
    rw [List.any_eq_false]
    intro x hx
    rw [hright x hx]
    decide
  obtain ⟨m, heach, hturn, hepoch, hstaging, hstate⟩ := each_accept_staged none r.who hall
  have htaken := (h.upTo t).taken_mgr
  rw [htaken] at hturn hepoch hstaging
  have hperform := hrow.trans (performWrite_accepted hpass none)
  rw [heach, h.taken_countsEpoch, hquiet] at hperform
  obtain ⟨hnext, hdid, hanswered⟩ := h.served hexec hperform (managed_keeps _ m) hturn hepoch (qs := [.out, .mgr, .pages])
  refine ⟨_, m, hnext, hdid, heach, Request.responds_mgr h.who h.function _ _ _, hstaging, fun hne => ?_, hanswered⟩
  rw [← h.who]
  exact hstate (.inl hne)

/-! ## Window writes -/

/-- A manager with more records that wait for the boundary. -/
def Manager.recording (l : List WindowRecord) (m : Manager) : Manager := { m with records := m.records ++ l }

theorem performWindowWrite_accepted (h : s.windowWriteCode r = 0) : s.performWindowWrite r =
    (s.managed (s.mgr.recording r.windowRecords)).respond r 0 (toBE 2 (beAt r.body 2 2) ++ [0, 0]) := if_pos h

theorem performWindowWrite_refused (htype : r.type = 5) (h : s.windowWriteCode r ≠ 0) :
    s.performWindowWrite r = s.respond r (s.windowWriteCode r) [0, 0, 0, 0] := by
  refine (if_neg h).trans ?_
  unfold State.refuse refusalRest
  rw [htype]
  rfl

/-- Settles O36: writes, bundles and window writes, each by the tests that it passes. -/
theorem writeRequestsServed : Obligations.WriteRequestsServed := by
  unfold Obligations.WriteRequestsServed
  intro s t n r w hs
  obtain ⟨-, hp⟩ := hs
  have hwrite : ∀ {r : Request}, s.Mailbox .write n r → r.type = 2 ∧ writeService (writeRecOf r.body) = .write := fun h =>
    Request.write_of_service h.service (by decide)
  refine ⟨fun h hw hpass => ?_, fun i code h hfail => ?_, fun h hpass => ⟨fun hright => ?_, fun hright => ?_⟩, fun i code h hfail => ?_,
    fun h hcode => ?_, fun h hcode => ?_⟩
  · obtain ⟨htype, -⟩ := hwrite h
    have hrecs : r.recs = [w] := (Request.recs_write htype).trans (by rw [hw])
    have hrow := perform_write (s := (s.upTo t).takeNext n) h.service none
    have hall : ∀ {a : Access}, s.right w = a → ∀ x ∈ r.recs, s.right x = a := fun hr x hx => by
      rw [hrecs] at hx
      rw [List.mem_singleton.mp hx]
      exact hr
    have hcount : s.countsEpoch r.recs = (s.right w == .rwq) := by
      rw [hrecs]
      exact Bool.or_false _
    refine ⟨fun hright => ?_, fun hright => ?_, fun hright => ?_⟩
    · obtain ⟨u, hnext, hdid, hwritten, hmgr, hanswered⟩ := h.writes (exec_write hp t) hrow hpass fun x hx => .inl (hall hright x hx)
      rw [hrecs] at hwritten
      rw [hcount, hright] at hmgr
      rw [refusalRest_write htype] at hanswered
      exact ⟨u, hnext, hdid, hwritten, hmgr, hanswered⟩
    · obtain ⟨u, hnext, hdid, hwritten, hmgr, hanswered⟩ := h.writes (exec_write hp t) hrow hpass fun x hx => .inr (hall hright x hx)
      rw [hrecs] at hwritten
      rw [hcount, hright] at hmgr
      rw [refusalRest_write htype] at hanswered
      exact ⟨u, hnext, hdid, hwritten, hmgr, hanswered⟩
    · obtain ⟨u, m, hnext, hdid, heach, hmgr, -, -, hanswered⟩ := h.stages (exec_write hp t) hrow hpass (hall hright)
      rw [refusalRest_write htype] at hanswered
      refine ⟨u, hnext, hdid, ?_, hanswered⟩
      rw [hrecs] at heach
      have hone : ((s.upTo t).takeNext n).accept r.who none w = ((s.upTo t).takeNext n).managed m := heach
      rw [accept_staged (by rw [h.taken_right]; exact hright)] at hone
      have hm : ((s.upTo t).takeNext n).mgr.stagedBy r.who w = m := congrArg State.mgr hone
      rw [(h.upTo t).taken_mgr, h.who] at hm
      rw [hmgr, ← hm]
      rfl
  · obtain ⟨htype, hrow⟩ := hwrite h
    refine h.refused (exec_write hp t) (refusalRest_write htype i) ?_
    refine (perform_write h.service none).trans (performWrite_refused hfail (fun x hx => ?_) none)
    rw [Request.recs_write htype] at hx
    obtain rfl := List.mem_singleton.mp (List.mem_of_getElem? hx)
    exact fun hc => key_ne_commit (by rw [hrow]; decide) hc.1
  · obtain ⟨u, hnext, hdid, hwritten, hmgr, hanswered⟩ := h.writes (exec_bundle hp t) (perform_bundle h.service none) hpass hright
    rw [refusalRest_bundle (Request.type_of_bundle h.service)] at hanswered
    exact ⟨u, hnext, hdid, hwritten, hmgr, hanswered⟩
  · obtain ⟨u, m, hnext, hdid, -, hmgr, hstaging, hstate, hanswered⟩ := h.stages (exec_bundle hp t) (perform_bundle h.service none) hpass hright
    rw [refusalRest_bundle (Request.type_of_bundle h.service)] at hanswered
    rw [← hmgr] at hstaging hstate
    exact ⟨u, hnext, hdid, hstaging, hstate, hanswered⟩
  · have htype := Request.type_of_bundle h.service
    refine h.refused (exec_bundle hp t) (refusalRest_bundle htype i) ?_
    exact (perform_bundle h.service none).trans (performWrite_refused hfail (fun x _ hc => absurd (htype.symm.trans hc.2) (by decide)) none)
  · have hcode' : ((s.upTo t).takeNext n).windowWriteCode r = 0 := by rw [h.taken]; exact hcode
    have htaken := (h.upTo t).taken_mgr
    have hperform := (perform_windowWrite h.service none).trans (performWindowWrite_accepted hcode')
    rw [htaken] at hperform
    obtain ⟨hnext, hdid, hanswered⟩ := h.served (exec_windowWrite hp t) hperform (managed_keeps _ _) rfl rfl (qs := [.out, .mgr, .pages])
    exact ⟨_, hnext, hdid, Request.responds_mgr h.who h.function _ _ _, hanswered⟩
  · have hsame : ((s.upTo t).takeNext n).windowWriteCode r = s.windowWriteCode r := by rw [h.taken]; rfl
    have hperform := (perform_windowWrite (s := (s.upTo t).takeNext n) h.service none).trans
      (performWindowWrite_refused (Request.type_of_windowWrite h.service) (by rw [hsame]; exact hcode))
    rw [hsame] at hperform
    have hmgr := (h.upTo t).taken_mgr
    obtain ⟨hnext, hdid, hanswered⟩ := h.served (exec_windowWrite hp t) hperform (.refl [] _) (by rw [hmgr]) (by rw [hmgr]; rfl)
      (qs := [.out, .mgr, .pages])
    exact ⟨_, hnext, hdid, (Request.responds_mgr h.who h.function _ _ _).trans hmgr, hanswered⟩

end Writing

end Sys2Proof.Machine
end

section
/-! Command entries: their writes wait for their moment (R39), and act at it (R78, R380, R397, R408, R424, R425, R443, R448). -/

set_option Elab.async false

namespace Sys2Proof.Machine

section Commands

variable {ps qs : List Part} {s u v : State} {k : Service} {t n key : Nat} {r : Request} {w : WriteRec} {c : Instr}
  {found : Option BankCheck}

/-! ## The entries of commands -/

/-- The entry that a row of commands is written through; rows of other requests, commits and aborts have none here. -/
def Service.commandKey : Service → Option Nat
  | .setTime => some (keyOf 0x1200 7)
  | .insertAt => some (keyOf 0x3800 7)
  | .clampClear => some (keyOf 0x5001 2)
  | .resetFull => some (keyOf 0x1100 0x10)
  | .resetWarm => some (keyOf 0x1100 0x11)
  | .save => some (keyOf 0x1100 0x50)
  | .imageBlock => some (keyOf 0x1100 0x53)
  | .eraseBank | .verify | .eraseConfig => some (keyOf 0x1100 0x54)
  | .substitute | .returnUnit => some (keyOf 0x6062 1)
  | .tamperClear => some (keyOf 0x6081 2)
  | _ => none

/-- The entries of commands. -/
def commandKeys : List Nat := [keyOf 0x1200 7, keyOf 0x3800 7, keyOf 0x5001 2, keyOf 0x1100 0x10, keyOf 0x1100 0x11, keyOf 0x1100 0x50,
  keyOf 0x1100 0x53, keyOf 0x1100 0x54, keyOf 0x6062 1, keyOf 0x6081 2]

theorem Service.commandKey_mem (h : k.commandKey = some key) : key ∈ commandKeys := by
  cases k <;> cases h <;> decide

/-- The entry of a write agrees with the row. -/
def Service.Fits (w : WriteRec) (k : Service) : Prop := ∀ key, k.commandKey = some key → w.key = key

theorem Service.fits_ite {a b : Service} {p : Prop} [Decidable p] (ha : p → a.Fits w) (hb : b.Fits w) : (if p then a else b).Fits w := by
  split
  · exact ha ‹_›
  · exact hb

theorem Service.fits_none (h : k.commandKey = none) : k.Fits w := fun _ hk => nomatch h.symm.trans hk

theorem Service.fits_key (h : k.commandKey = some key) (hw : w.key = key) : k.Fits w := fun _ hk => hw.trans (Option.some.inj (h.symm.trans hk))

theorem writeService_fits (w : WriteRec) : (writeService w).Fits w := by
  unfold writeService
  dsimp only
  refine Service.fits_ite (fun _ => Service.fits_none rfl) (Service.fits_ite (fun _ => Service.fits_none rfl) ?_)
  refine Service.fits_ite (Service.fits_key rfl) (Service.fits_ite (Service.fits_key rfl) (Service.fits_ite (Service.fits_key rfl) ?_))
  refine Service.fits_ite (Service.fits_key rfl) (Service.fits_ite (Service.fits_key rfl) (Service.fits_ite (Service.fits_key rfl) ?_))
  refine Service.fits_ite (Service.fits_key rfl) (Service.fits_ite (fun h => Service.fits_key rfl h.1) ?_)
  refine Service.fits_ite (fun h => Service.fits_key rfl h.1) (Service.fits_ite (fun h => Service.fits_key rfl h.1) ?_)
  refine Service.fits_ite (fun h => Service.fits_key rfl h.1) (Service.fits_ite (fun h => Service.fits_key rfl h.1) ?_)
  exact Service.fits_ite (Service.fits_key rfl) (Service.fits_none rfl)

theorem key_of_writeService (h : writeService w = k) (hk : k.commandKey = some key) : w.key = key :=
  writeService_fits w key (h ▸ hk)

/-- The entries of commands can be written and never read, on each variant that has them. -/
theorem command_access (v : Variant) : ∀ key ∈ commandKeys, (descOf v key).map Desc.access ∈ [some .wo, none] := by
  cases v <;> decide +kernel

theorem right_command (h : w.key ∈ commandKeys) : s.right w = .wo ∨ s.right w = .const := by
  unfold State.right
  split
  · rename_i d hd
    unfold State.entry at hd
    split at hd
    · cases hd
    · have haccess := command_access s.variant w.key h
      rw [show descOf s.variant w.key = some d from hd] at haccess
      exact .inl (by simpa using haccess)
  · exact .inr rfl

theorem perform_command (h : r.service = k) (hk : k.commandKey = some key) : s.perform r found = s.performWrite r found := by
  unfold State.perform
  rw [h]
  cases k <;> cases hk <;> rfl

/-! ## An accepted command waits -/

/-- A manager with one more action for the boundary. -/
def Manager.acting (x : PendingAction) (m : Manager) : Manager := { m with actions := m.actions ++ [x] }

/-- A state in which a reset is asked for. -/
def State.asking (s : State) (q : PendingReset) : State := { s with rst := { s.rst with requested := some q } }

theorem accept_action (h : w.key ∈ commandKeys) (h₁ : w.key ≠ keyOf 0x1200 7) (h₂ : w.key ≠ keyOf 0x1100 0x10)
    (h₃ : w.key ≠ keyOf 0x1100 0x11) (who : Nat) : s.accept who found w = s.managed (s.mgr.acting ⟨w.key, w.value, found⟩) := by
  unfold State.accept
  rcases right_command (s := s) h with hright | hright <;>
    (rw [hright]; exact (if_neg h₁).trans ((if_neg h₂).trans (if_neg h₃)))

theorem accept_resetFull (h : w.key = keyOf 0x1100 0x10) (who : Nat) : s.accept who found w = s.asking ⟨4, 2⟩ := by
  have hmem : w.key ∈ commandKeys := by rw [h]; decide
  unfold State.accept
  rcases right_command (s := s) hmem with hright | hright <;>
    (rw [hright]; exact (if_neg (by rw [h]; decide)).trans (if_pos h))

theorem accept_resetWarm (h : w.key = keyOf 0x1100 0x11) (hnone : s.rst.requested = none) (who : Nat) :
    s.accept who found w = s.asking ⟨5, 3⟩ := by
  have hmem : w.key ∈ commandKeys := by rw [h]; decide
  have hchain : ∀ {a b c d : State}, d = s.asking ⟨5, 3⟩ →
      (if w.key = keyOf 0x1200 7 then a else if w.key = keyOf 0x1100 0x10 then b else if w.key = keyOf 0x1100 0x11 then d else c) = s.asking ⟨5, 3⟩ :=
    fun hd => (if_neg (by rw [h]; decide)).trans ((if_neg (by rw [h]; decide)).trans ((if_pos h).trans hd))
  have hask : ({ s with rst := { s.rst with requested := if s.rst.requested = none then some ⟨5, 3⟩ else s.rst.requested } } : State) =
      s.asking ⟨5, 3⟩ := by rw [if_pos hnone]; rfl
  unfold State.accept
  rcases right_command (s := s) hmem with hright | hright <;> (rw [hright]; exact hchain hask)

/-- A command that is accepted: what its acceptance leaves stands, and its write is answered. -/
theorem State.Mailbox.accepted (h : s.Mailbox k n r) (hexec : exec c s = .next ((s.upTo t).serve k found))
    (hk : k.commandKey = some key) (hpass : ((s.upTo t).takeNext n).writeTests r r.recs = none)
    (haccept : ((s.upTo t).takeNext n).accept r.who found (writeRecOf r.body) = u) (hu : Keeps ps ((s.upTo t).takeNext n) u)
    (hturn : u.mgr.turn = (n + 1) % 65) (hepoch : u.mgr.epoch = s.mgr.epoch)
    (hqs : ∀ p ∈ ps, p ∈ qs := by decide) (hout : Part.out ∉ ps := by decide) (hpages : Part.pages ∉ ps := by decide)
    (hio : Part.out ∈ qs ∧ Part.pages ∈ qs ∧ Part.mgr ∈ qs ∧ Part.tsc ∉ qs := by decide) :
    ∃ v, exec c s = .next v ∧ Did t qs s v ∧ Keeps [.out, .pages] u v ∧ s.Answered v n (s.response r 0 (slice r.body 0 3 ++ [0])) := by
  have hother : ¬ (k = .read ∨ k = .bundle ∨ k = .windowRead ∨ k = .windowWrite ∨ k = .digestQuery) := by
    rintro (rfl | rfl | rfl | rfl | rfl) <;> cases hk
  obtain ⟨htype, hrow⟩ := Request.write_of_service h.service hother
  have hmem : (writeRecOf r.body).key ∈ commandKeys := by
    rw [key_of_writeService hrow hk]
    exact Service.commandKey_mem hk
  have hquiet : ((s.upTo t).takeNext n).countsEpoch r.recs = false := by
    rw [Request.recs_write htype]
    show (((s.upTo t).takeNext n).right (writeRecOf r.body) == .rwq || false) = false
    rcases right_command (s := (s.upTo t).takeNext n) hmem with hright | hright <;> (rw [hright]; rfl)
  have heach : ((s.upTo t).takeNext n).each r.recs (fun u w => u.accept r.who found w) = u := by
    rw [Request.recs_write htype]
    exact haccept
  have hperform := (perform_command (s := (s.upTo t).takeNext n) h.service hk (found := found)).trans (performWrite_accepted hpass found)
  rw [heach, hquiet, refusalRest_write htype] at hperform
  obtain ⟨hnext, hdid, hanswered⟩ := h.served hexec hperform hu hturn hepoch hqs hout hpages hio
  exact ⟨_, hnext, hdid, h.respond_keeps (.refl _ u) 0 _ (by decide) (by decide), hanswered⟩

/-- A command that waits for the boundary. -/
theorem State.Mailbox.actsLater (h : s.Mailbox k n r) (hexec : exec c s = .next ((s.upTo t).serve k found)) (hk : k.commandKey = some key)
    (h₁ : key ≠ keyOf 0x1200 7) (h₂ : key ≠ keyOf 0x1100 0x10) (h₃ : key ≠ keyOf 0x1100 0x11)
    (hpass : ((s.upTo t).takeNext n).writeTests r r.recs = none) :
    ∃ u, exec c s = .next u ∧ Did t [.out, .mgr, .pages] s u ∧
      u.mgr = { s.mgr with turn := (n + 1) % 65
                           actions := s.mgr.actions ++ [⟨(writeRecOf r.body).key, (writeRecOf r.body).value, found⟩] } ∧
      s.Answered u n (s.response r 0 (slice r.body 0 3 ++ [0])) := by
  have hother : ¬ (k = .read ∨ k = .bundle ∨ k = .windowRead ∨ k = .windowWrite ∨ k = .digestQuery) := by
    rintro (rfl | rfl | rfl | rfl | rfl) <;> cases hk
  have hkey := key_of_writeService (Request.write_of_service h.service hother).2 hk
  have haccept := accept_action (s := (s.upTo t).takeNext n) (found := found) (by rw [hkey]; exact Service.commandKey_mem hk)
    (hkey ▸ h₁) (hkey ▸ h₂) (hkey ▸ h₃) r.who
  rw [(h.upTo t).taken_mgr] at haccept
  obtain ⟨u, hnext, hdid, hkeeps, hanswered⟩ := h.accepted (qs := [.out, .mgr, .pages]) hexec hk hpass haccept (managed_keeps _ _) rfl rfl
  exact ⟨u, hnext, hdid, hkeeps.frame .mgr (by decide), hanswered⟩

/-! ## The actions at their boundary -/

theorem bit_andNot (v m i : Nat) : bit (andNot v m) i = (bit v i && !bit m i) := by
  unfold bit andNot
  show ((v ^^^ (v &&& m)).testBit i) = _
  rw [Nat.testBit_xor, Nat.testBit_and]
  cases v.testBit i <;> cases m.testBit i <;> rfl

theorem act_ballast {x : PendingAction} (h : x.key = keyOf 0x6062 1) : s.act x = s.ballastCommand (ofBE x.value) := by
  unfold State.act
  dsimp only
  rw [if_neg (by rw [h]; decide), if_neg (by rw [h]; decide), if_neg (by rw [h]; decide), if_neg (by rw [h]; decide),
    if_neg (by rw [h]; decide), if_pos h]

theorem act_image {x : PendingAction} (h : x.key = keyOf 0x1100 0x54) : s.act x = s.imageCommand (ofBE x.value) x.found := by
  unfold State.act
  dsimp only
  rw [if_neg (by rw [h]; decide), if_neg (by rw [h]; decide), if_neg (by rw [h]; decide), if_neg (by rw [h]; decide), if_pos h]

theorem act_block {x : PendingAction} (h : x.key = keyOf 0x1100 0x53) : s.act x = s.writeBlock x.value := by
  unfold State.act
  dsimp only
  rw [if_neg (by rw [h]; decide), if_neg (by rw [h]; decide), if_neg (by rw [h]; decide), if_pos h]

theorem act_save {x : PendingAction} (h : x.key = keyOf 0x1100 0x50) : s.act x = s.startSave (ofBE x.value) := by
  unfold State.act
  dsimp only
  rw [if_neg (by rw [h]; decide), if_neg (by rw [h]; decide), if_pos h]

theorem act_tamper {x : PendingAction} (h : x.key = keyOf 0x6081 2) :
    s.act x = s.setVal 0x6081 1 (andNot (s.val 0x6081 1) (ofBE x.value)) := by
  unfold State.act
  dsimp only
  rw [if_neg (by rw [h]; decide), if_neg (by rw [h]; decide), if_neg (by rw [h]; decide), if_neg (by rw [h]; decide),
    if_neg (by rw [h]; decide), if_neg (by rw [h]; decide), if_pos h]

/-! ## Ballast -/

/-- A state with one more substitution or return requested. -/
def State.requesting (s : State) (q : SwapRequest) : State := { s with sup := { s.sup with requests := s.sup.requests ++ [q] } }

theorem requesting_keeps (s : State) (q : SwapRequest) : Keeps [.sup] s (s.requesting q) :=
  Keeps.record (.refl _ s) rfl rfl rfl rfl rfl rfl rfl rfl rfl rfl rfl rfl rfl rfl rfl rfl rfl rfl rfl

theorem ballastCommand_substitute {b src : Nat} (hsrc : src < 0x10000)
    (horder : (s.sup.requests.any fun q => q.primary == src && q.reason == 2) = false) (hserving : s.unitServing src = none)
    (hidle : s.idleUnit src = some b) : s.ballastCommand (2 ^ 24 + src) =
      (s.setUnit b { state := 2, reason := 3, primary := src }).requesting ⟨b, src, 3, s.tsc, false, false⟩ := by
  have hmod : (2 ^ 24 + src) % 65536 = src := by omega
  have hdiv : (2 ^ 24 + src) / 2 ^ 24 = 1 := by omega
  unfold State.ballastCommand
  rw [hmod, hdiv]
  dsimp only
  rw [if_pos rfl, if_neg (by rw [horder]; decide), hserving]
  refine (if_neg (by decide)).trans ?_
  unfold State.requestSwap
  rw [hidle]
  rfl

theorem ballastCommand_return {b src : Nat} (hsrc : src < 0x10000) (hserving : s.unitServing src = some b) (hserves : (s.unit b).state = 3)
    (hfree : (s.sup.requests.any fun q => q.unit == b) = false) :
    s.ballastCommand (2 * 2 ^ 24 + src) = s.requesting ⟨b, src, 3, s.tsc, true, false⟩ := by
  have hmod : (2 * 2 ^ 24 + src) % 65536 = src := by omega
  have hdiv : (2 * 2 ^ 24 + src) / 2 ^ 24 = 2 := by omega
  unfold State.ballastCommand
  rw [hmod, hdiv]
  dsimp only
  rw [if_neg (by decide), hserving]
  exact if_pos ⟨hserves, hfree⟩

/-! ## Flash banks -/

theorem bank_setBank {b : Nat} (hb : b = 1 ∨ b = 2) (s : State) (x : Bank) : (s.setBank b x).bank b = x := by
  rcases hb with rfl | rfl <;> rfl

theorem bank_setBank_other {b : Nat} (hb : b = 1 ∨ b = 2) (s : State) (x : Bank) : (s.setBank b x).bank (3 - b) = s.bank (3 - b) := by
  rcases hb with rfl | rfl <;> rfl

theorem Keeps.bank (h : Keeps ps s u) (b : Nat) (hps : Part.rst ∉ ps := by decide) : u.bank b = s.bank b := by
  unfold State.bank
  rw [h.frame .rst hps]

/-- From `s` to `u` one bank has become `x`, and the other stands. -/
def Banked (b : Nat) (x : Bank) (s u : State) : Prop := u.bank b = x ∧ u.bank (3 - b) = s.bank (3 - b)

theorem Banked.setBank {b : Nat} (hb : b = 1 ∨ b = 2) (s : State) (x : Bank) : Banked b x s (s.setBank b x) :=
  ⟨bank_setBank hb s x, bank_setBank_other hb s x⟩

theorem Banked.keeps {b : Nat} {x : Bank} (h : Banked b x s u) (k : Keeps ps u v) (hps : Part.rst ∉ ps := by decide) : Banked b x s v :=
  ⟨(k.bank b hps).trans h.1, (k.bank (3 - b) hps).trans h.2⟩

theorem setBank_keeps_self (s : State) (b : Nat) (x : Bank) : Keeps [.rst] s (s.setBank b x) := State.setBank_keeps (.refl _ s) b x (by decide)

/-- The result of an image command is stored with it. -/
theorem Banked.noted {b : Nat} {x : Bank} (h : Banked b x s u) (hu : Keeps ps s u) (hqs : ∀ p ∈ ps, p ∈ qs := by decide)
    (hdict : Part.dict ∈ qs := by decide) : Banked b x s (u.setVal 0x1100 0x51 0) ∧ Keeps qs s (u.setVal 0x1100 0x51 0) :=
  ⟨h.keeps (ps := [.dict]) (State.setVal_keeps (.refl _ u) _ _ _ (by decide)), State.setVal_keeps (hu.mono hqs) _ _ _ hdict⟩

/-- A bank whose configuration has been erased. -/
def Bank.unconfigured (x : Bank) : Bank := { x with config := none, cfgValid := false, blocks := x.blocks.filter fun e => e.1 / 2 ^ 32 != 2 }

/-- A bank into which a block has been laid. -/
def Bank.laid (v : Bytes) (x : Bank) : Bank := { x with blocks := Table.put [] x.blocks (beAt v 1 1 * 2 ^ 32 + beAt v 4 4) (v.drop 8) }

theorem imageCommand_erase {b : Nat} (hb : b = 1 ∨ b = 2) : s.imageCommand (b * 256 + 1) found = (s.setBank b {}).setVal 0x1100 0x51 0 := by
  rcases hb with rfl | rfl <;> rfl

theorem imageCommand_eraseConfig {b : Nat} (hb : b = 1 ∨ b = 2) :
    s.imageCommand (b * 256 + 3) found = (s.setBank b (s.bank b).unconfigured).setVal 0x1100 0x51 0 := by
  rcases hb with rfl | rfl <;> rfl

theorem imageCommand_verify {b : Nat} (hb : b = 1 ∨ b = 2) (y : BankCheck) : s.imageCommand (b * 256 + 2) (some y) =
    (s.verifyBank b (s.raw (keyOf 0x1100 0x58)) y).setVal 0x1100 0x51 0 := by
  rcases hb with rfl | rfl <;> rfl

theorem verifyBank_banked {b : Nat} (hb : b = 1 ∨ b = 2) (s : State) (hash : Bytes) (y : BankCheck) :
    Banked b (s.checkedBank (s.bank b) hash y) s (s.verifyBank b hash y) ∧ Keeps [.log, .rst] s (s.verifyBank b hash y) := by
  have hlog : Keeps [.log] (s.setBank b (s.checkedBank (s.bank b) hash y)) (s.verifyBank b hash y) := State.logDisagree_keeps (.refl _ _) b y (by decide)
  exact ⟨(Banked.setBank hb s _).keeps hlog, (setBank_keeps_self s b _).mono.trans hlog.mono⟩

/-- A bank that a save is being written to. -/
def Bank.saving (x : Bank) : Bank :=
  { x with config := none, cfgValid := false, writing := true, blocks := x.blocks.filter fun e => e.1 / 2 ^ 32 != 2 }

/-- A state in which a save runs. -/
def State.savingTo (s : State) (j : SaveJob) : State := { s with rst := { s.rst with saving := some j } }

theorem startSave_eq (s : State) (b : Nat) : s.startSave b = (s.setBank b (s.bank b).saving).savingTo
    ⟨b, { release := s.rst.release, epoch := s.mgr.epoch, signer := 2, values := s.savedValues }⟩ := rfl

theorem savingTo_keeps (s : State) (j : SaveJob) : Keeps [.rst] s (s.savingTo j) :=
  Keeps.record (.refl _ s) rfl rfl rfl rfl rfl rfl rfl rfl rfl rfl rfl rfl rfl rfl rfl rfl rfl rfl rfl

theorem find_put_ne {α : Type} [DecidableEq α] (d : α) (t : Table α) (k : Nat) {v : α} (h : v ≠ d) : Table.find (Table.put d t k v) k = some v := by
  unfold Table.put
  rw [if_neg h]
  exact Table.find_insert_self ..

theorem tamperLatches_width (v : Variant) : (defaultOf v (keyOf 0x6081 1)).length = 1 := by cases v <;> decide +kernel

end Commands

end Sys2Proof.Machine
end

section
/-! Command entries, from their writes to their boundary (R39). -/

set_option Elab.async false

namespace Sys2Proof.Machine

section CommandEntries

variable {s u : State} {t n : Nat} {r : Request} {w : WriteRec} {c : Instr} {x : PendingAction}

/-- The rows whose commands wait for the boundary, with the command of each. -/
theorem exec_waiting {k : Service} (hp : s.rst.powered = true) (h : (k, c) ∈ [(Service.insertAt, Instr.insertAtBeat t),
    (.clampClear, .clampFlagClear t), (.save, .saveConfiguration t), (.imageBlock, .imageBlock t), (.eraseBank, .eraseBank t),
    (.eraseConfig, .eraseConfigurationOnly t), (.substitute, .ballastSubstitute t), (.returnUnit, .ballastReturn t),
    (.tamperClear, .tamperLatchClear t)]) : exec c s = .next ((s.upTo t).serve k none) ∧
    ∃ key, k.commandKey = some key ∧ key ≠ keyOf 0x1200 7 ∧ key ≠ keyOf 0x1100 0x10 ∧ key ≠ keyOf 0x1100 0x11 := by
  have hrun : ∀ k, s.run t (fun s => s.serve k none) = .next ((s.upTo t).serve k none) := fun k =>
    State.run_powered hp t fun s => s.serve k none
  simp only [List.mem_cons, Prod.mk.injEq, List.not_mem_nil, or_false] at h
  rcases h with ⟨rfl, rfl⟩ | ⟨rfl, rfl⟩ | ⟨rfl, rfl⟩ | ⟨rfl, rfl⟩ | ⟨rfl, rfl⟩ | ⟨rfl, rfl⟩ | ⟨rfl, rfl⟩ | ⟨rfl, rfl⟩ | ⟨rfl, rfl⟩
  all_goals exact ⟨hrun _, _, rfl, by decide, by decide, by decide⟩

theorem exec_verify (hp : s.rst.powered = true) (t : Nat) (found : BankCheck) :
    exec (.verify t found) s = .next ((s.upTo t).serve .verify (some found)) := State.run_powered hp t fun s => s.serve .verify (some found)

theorem exec_setTime_serve (hp : s.rst.powered = true) (t : Nat) : exec (.setStationTime t) s = .next ((s.upTo t).serve .setTime none) :=
  State.run_powered hp t fun s => s.serve .setTime none

theorem exec_managerFull (hp : s.rst.powered = true) (t : Nat) : exec (.managerFull t) s = .next ((s.upTo t).serve .resetFull none) :=
  State.run_powered hp t fun s => s.serve .resetFull none

theorem exec_managerWarm (hp : s.rst.powered = true) (t : Nat) : exec (.managerWarm t) s = .next ((s.upTo t).serve .resetWarm none) :=
  State.run_powered hp t fun s => s.serve .resetWarm none

theorem asking_keeps (s : State) (q : PendingReset) : Keeps [.rst] s (s.asking q) :=
  Keeps.record (.refl _ s) rfl rfl rfl rfl rfl rfl rfl rfl rfl rfl rfl rfl rfl rfl rfl rfl rfl rfl rfl

theorem setTimeTo_keeps (s : State) (v : Nat) : Keeps [.time] s (s.setTimeTo v) :=
  Keeps.record (.refl _ s) rfl rfl rfl rfl rfl rfl rfl rfl rfl rfl rfl rfl rfl rfl rfl rfl rfl rfl rfl

theorem State.Mailbox.taken_turn {k : Service} (h : s.Mailbox k n r) (t : Nat) : ((s.upTo t).takeNext n).mgr.turn = (n + 1) % 65 := by
  rw [(h.upTo t).taken_mgr]

theorem State.Mailbox.taken_epoch {k : Service} (h : s.Mailbox k n r) (t : Nat) : ((s.upTo t).takeNext n).mgr.epoch = s.mgr.epoch := by
  rw [(h.upTo t).taken_mgr]
  rfl

/-- A written reset waits for the end of its response. -/
theorem State.Mailbox.asksReset {k : Service} {key : Nat} (h : s.Mailbox k n r) (hexec : exec c s = .next ((s.upTo t).serve k none))
    (hk : k.commandKey = some key) (hpass : ((s.upTo t).takeNext n).writeTests r r.recs = none) {q : PendingReset}
    (haccept : ((s.upTo t).takeNext n).accept r.who none (writeRecOf r.body) = ((s.upTo t).takeNext n).asking q) :
    ∃ u, exec c s = .next u ∧ Did t [.out, .mgr, .pages, .rst] s u ∧ u.mgr = { s.mgr with turn := (n + 1) % 65 } ∧
      u.rst = { s.rst with requested := some q } ∧ s.Answered u n (s.response r 0 (slice r.body 0 3 ++ [0])) := by
  have hmgr := (h.upTo t).taken_mgr
  have hrst := (takeNext_keeps_self (s.upTo t) n).frame .rst (by decide)
  obtain ⟨u, hnext, hdid, hkeeps, hanswered⟩ := h.accepted (qs := [.out, .mgr, .pages, .rst]) hexec hk hpass haccept (asking_keeps _ q)
    (h.taken_turn t) (h.taken_epoch t)
  refine ⟨u, hnext, hdid, (hkeeps.frame .mgr (by decide)).trans hmgr, ?_, hanswered⟩
  exact (hkeeps.frame .rst (by decide)).trans (congrArg (fun y : ResetCtl => { y with requested := some q }) hrst)

/-! ## What an action leaves -/

theorem act_insert (h : x.key = keyOf 0x3800 7) : Frame [.ring] s (s.act x) ∧
    (s.act x).ring = { s.ring with insertBeat := some (if ofBE x.value = 0 then s.beat else ofBE x.value) } := by
  have hact : s.act x = { s with ring := { s.ring with insertBeat := some (if ofBE x.value = 0 then s.beat else ofBE x.value) } } := if_pos h
  rw [hact]
  exact ⟨(Keeps.record (ps := [.ring]) (.refl _ s) rfl rfl rfl rfl rfl rfl rfl rfl rfl rfl rfl rfl rfl rfl rfl rfl rfl rfl rfl).frame, rfl⟩

theorem act_clamp (h : x.key = keyOf 0x5001 2) : Frame [.sensing] s (s.act x) ∧
    ∀ i, bit (s.act x).sensing.clampFlags i = (bit s.sensing.clampFlags i && !bit (ofBE x.value) i) := by
  have hact : s.act x = { s with sensing := { s.sensing with clampFlags := andNot s.sensing.clampFlags (ofBE x.value) } } :=
    (if_neg (by rw [h]; decide)).trans (if_pos h)
  have hkeeps : Keeps [.sensing] s { s with sensing := { s.sensing with clampFlags := andNot s.sensing.clampFlags (ofBE x.value) } } :=
    Keeps.record (.refl _ s) rfl rfl rfl rfl rfl rfl rfl rfl rfl rfl rfl rfl rfl rfl rfl rfl rfl rfl rfl
  rw [hact]
  exact ⟨hkeeps.frame, bit_andNot _ _⟩

theorem act_substitute {b src : Nat} (h : x.key = keyOf 0x6062 1) (hvalue : ofBE x.value = 2 ^ 24 + src) (hsrc : src < 0x10000)
    (horder : (s.sup.requests.any fun q => q.primary == src && q.reason == 2) = false) (hserving : s.unitServing src = none)
    (hidle : s.idleUnit src = some b) : Frame [.sup] s (s.act x) ∧ (s.act x).unit b = { state := 2, reason := 3, primary := src } ∧
    (∀ a, a ≠ b → (s.act x).unit a = s.unit a) ∧ (s.act x).sup.requests = s.sup.requests ++ [⟨b, src, 3, s.tsc, false, false⟩] := by
  rw [act_ballast h, hvalue, ballastCommand_substitute hsrc horder hserving hidle]
  have hkeeps := (State.setUnit_keeps (.refl [.sup] s) b { state := 2, reason := 3, primary := src } (by decide)).trans
    (requesting_keeps _ ⟨b, src, 3, s.tsc, false, false⟩)
  exact ⟨hkeeps.frame, s.unit_setUnit_self b { state := 2, reason := 3, primary := src },
    fun a ha => s.unit_setUnit_ne b { state := 2, reason := 3, primary := src } ha, rfl⟩

theorem act_return {b src : Nat} (h : x.key = keyOf 0x6062 1) (hvalue : ofBE x.value = 2 * 2 ^ 24 + src) (hsrc : src < 0x10000)
    (hserving : s.unitServing src = some b) (hserves : (s.unit b).state = 3) (hfree : (s.sup.requests.any fun q => q.unit == b) = false) :
    Frame [.sup] s (s.act x) ∧ (s.act x).sup.requests = s.sup.requests ++ [⟨b, src, 3, s.tsc, true, false⟩] := by
  rw [act_ballast h, hvalue, ballastCommand_return hsrc hserving hserves hfree]
  exact ⟨(requesting_keeps s _).frame, rfl⟩

theorem act_latches (h : x.key = keyOf 0x6081 2) : Frame [.dict] s (s.act x) ∧
    (∀ k, k ≠ keyOf 0x6081 1 → (s.act x).raw k = s.raw k) ∧
    ∀ i < 8, bit ((s.act x).val 0x6081 1) i = (bit (s.val 0x6081 1) i && !bit (ofBE x.value) i) := by
  rw [act_tamper h]
  refine ⟨(State.setVal_keeps (.refl [.dict] s) _ _ _ (by decide)).frame, fun k hk => State.raw_setVal_ne s _ hk, fun i hi => ?_⟩
  rw [State.val_setVal_self, tamperLatches_width, ← bit_andNot]
  unfold bit
  rw [show (256 : Nat) ^ 1 = 2 ^ 8 from rfl, Nat.testBit_mod_two_pow, decide_eq_true hi, Bool.true_and]

theorem act_saves (h : x.key = keyOf 0x1100 0x50) (hb : ofBE x.value = 1 ∨ ofBE x.value = 2) : Frame [.rst] s (s.act x) ∧
    (s.act x).rst.saving = some ⟨ofBE x.value, { release := s.rst.release, epoch := s.mgr.epoch, signer := 2, values := s.savedValues }⟩ ∧
    ((s.act x).bank (ofBE x.value)).config = none ∧ ((s.act x).bank (ofBE x.value)).cfgValid = false ∧
    ((s.act x).bank (ofBE x.value)).fwValid = (s.bank (ofBE x.value)).fwValid ∧
    (s.act x).bank (3 - ofBE x.value) = s.bank (3 - ofBE x.value) := by
  rw [act_save h, startSave_eq]
  have hbank := Banked.setBank hb s (s.bank (ofBE x.value)).saving
  have hsame : ∀ (u : State) j b, (u.savingTo j).bank b = u.bank b := fun _ _ _ => rfl
  refine ⟨((setBank_keeps_self s _ _).trans (savingTo_keeps _ _)).frame, rfl, ?_, ?_, ?_, ?_⟩
  · rw [hsame, hbank.1]; rfl
  · rw [hsame, hbank.1]; rfl
  · rw [hsame, hbank.1]; rfl
  · rw [hsame, hbank.2]

theorem act_erases {b : Nat} (hb : b = 1 ∨ b = 2) (h : x.key = keyOf 0x1100 0x54) (hvalue : ofBE x.value = b * 256 + 1) :
    Frame [.dict, .rst] s (s.act x) ∧ (s.act x).bank b = {} ∧ (s.act x).bank (3 - b) = s.bank (3 - b) := by
  rw [act_image h, hvalue, imageCommand_erase hb]
  obtain ⟨hbank, hkeeps⟩ := (Banked.setBank hb s {}).noted (setBank_keeps_self s b _) (qs := [.dict, .rst])
  exact ⟨hkeeps.frame, hbank⟩

theorem act_erasesConfig {b : Nat} (hb : b = 1 ∨ b = 2) (h : x.key = keyOf 0x1100 0x54) (hvalue : ofBE x.value = b * 256 + 3) :
    Frame [.dict, .rst] s (s.act x) ∧ ((s.act x).bank b).config = none ∧ ((s.act x).bank b).cfgValid = false ∧
    ((s.act x).bank b).fwPresent = (s.bank b).fwPresent ∧ ((s.act x).bank b).fwValid = (s.bank b).fwValid ∧
    (s.act x).bank (3 - b) = s.bank (3 - b) := by
  rw [act_image h, hvalue, imageCommand_eraseConfig hb]
  obtain ⟨⟨hself, hother⟩, hkeeps⟩ := (Banked.setBank hb s (s.bank b).unconfigured).noted (setBank_keeps_self s b _) (qs := [.dict, .rst])
  refine ⟨hkeeps.frame, ?_, ?_, ?_, ?_, hother⟩
  all_goals rw [hself]; rfl

theorem act_verifies {b : Nat} {y : BankCheck} (hb : b = 1 ∨ b = 2) (h : x.key = keyOf 0x1100 0x54) (hvalue : ofBE x.value = b * 256 + 2)
    (hfound : x.found = some y) : Frame [.dict, .log, .rst] s (s.act x) ∧ ((s.act x).bank b).fwValid = y.firmware.any firmwareValid ∧
    ((s.act x).bank b).cfgValid = y.config.any (s.configValid (s.raw (keyOf 0x1100 0x58))) ∧ (s.act x).bank (3 - b) = s.bank (3 - b) := by
  rw [act_image h, hvalue, hfound, imageCommand_verify hb]
  obtain ⟨hbank, hverify⟩ := verifyBank_banked hb s (s.raw (keyOf 0x1100 0x58)) y
  obtain ⟨⟨hself, hother⟩, hkeeps⟩ := hbank.noted hverify (qs := [.dict, .log, .rst])
  refine ⟨hkeeps.frame, ?_, ?_, hother⟩
  all_goals rw [hself]; rfl

theorem act_lays {b : Nat} (hb : b = 1 ∨ b = 2) (h : x.key = keyOf 0x1100 0x53) (hbank : beAt x.value 0 1 = b) (hdata : x.value.drop 8 ≠ []) :
    Frame [.dict, .rst] s (s.act x) ∧
    Table.find ((s.act x).bank b).blocks (beAt x.value 1 1 * 2 ^ 32 + beAt x.value 4 4) = some (x.value.drop 8) ∧
    (s.act x).bank (3 - b) = s.bank (3 - b) := by
  have hact : s.act x = (s.setBank b ((s.bank b).laid x.value)).setVal 0x1100 0x51 0 := by
    rw [act_block h, ← hbank]
    rfl
  rw [hact]
  obtain ⟨⟨hself, hother⟩, hkeeps⟩ := (Banked.setBank hb s ((s.bank b).laid x.value)).noted (setBank_keeps_self s b _) (qs := [.dict, .rst])
  refine ⟨hkeeps.frame, ?_, hother⟩
  rw [hself]
  exact find_put_ne [] _ _ hdata

/-- Settles O37: what a command entry's write leaves waiting, and what it does at its boundary. -/
theorem commandEntriesComplete : Obligations.CommandEntriesComplete := by
  unfold Obligations.CommandEntriesComplete
  constructor
  · intro s t n r w hs hw hpass
    obtain ⟨-, hp⟩ := hs
    subst hw
    refine ⟨fun k c hc h => ?_, fun found h => ?_, fun h => ?_, fun h => ?_, fun h hnone => ?_⟩
    · obtain ⟨hexec, key, hk, h₁, h₂, h₃⟩ := exec_waiting hp hc
      exact h.actsLater hexec hk h₁ h₂ h₃ hpass
    · exact h.actsLater (exec_verify hp t found) rfl (by decide) (by decide) (by decide) hpass
    · have hmgr := (h.upTo t).taken_mgr
      have htime := (takeNext_keeps_self (s.upTo t) n).frame .time (by decide)
      have hkey := (Request.of_service_setTime h.service).2
      obtain ⟨u, hnext, hdid, hkeeps, hanswered⟩ := h.accepted (qs := [.out, .mgr, .time, .pages]) (exec_setTime_serve hp t) rfl hpass
        (State.accept_setTime _ hkey r.who none) (setTimeTo_keeps _ _) (h.taken_turn t) (h.taken_epoch t)
      refine ⟨u, hnext, hdid, (hkeeps.frame .mgr (by decide)).trans hmgr, ?_, hanswered⟩
      exact (hkeeps.frame .time (by decide)).trans (congrArg (fun y : TimeBase => { y with setTo := some (ofBE (writeRecOf r.body).value) }) htime)
    · have hrow := (Request.write_of_service h.service (by decide)).2
      exact h.asksReset (exec_managerFull hp t) rfl hpass (accept_resetFull (key_of_writeService hrow rfl) r.who)
    · have hrow := (Request.write_of_service h.service (by decide)).2
      have hrst : ((s.upTo t).takeNext n).rst.requested = none :=
        (congrArg ResetCtl.requested ((takeNext_keeps_self (s.upTo t) n).frame .rst (by decide))).trans hnone
      exact h.asksReset (exec_managerWarm hp t) rfl hpass (accept_resetWarm (key_of_writeService hrow rfl) hrst r.who)
  · intro s x _
    exact ⟨act_insert, act_clamp, fun b src => act_substitute, fun b src => act_return, fun h _ => act_latches h, act_saves,
      fun b hb => act_erases hb, fun b hb => act_erasesConfig hb, fun b y hb => act_verifies hb, fun b hb => act_lays hb⟩

end CommandEntries

end Sys2Proof.Machine
end

section
/-! Commits: validated, distributed, aborted and activated (R54-R56). -/

set_option Elab.async false

namespace Sys2Proof.Machine

section Commits

variable {s u : State} {t n : Nat} {r : Request} {w : WriteRec} {c : CommitInHand}

/-! ## The commit and the abort -/

theorem exec_commit (hp : s.rst.powered = true) (t : Nat) : exec (.commit t) s = .next ((s.upTo t).serve .commit none) :=
  State.run_powered hp t fun s => s.serve .commit none

theorem exec_abort (hp : s.rst.powered = true) (t : Nat) : exec (.abort t) s = .next ((s.upTo t).serve .abort none) :=
  State.run_powered hp t fun s => s.serve .abort none

theorem perform_commit (h : r.service = .commit) (found : Option BankCheck) : s.perform r found = s.performCommit r := by
  unfold State.perform
  rw [h]

theorem perform_abort (h : r.service = .abort) (found : Option BankCheck) : s.perform r found = s.performAbort r := by
  unfold State.perform
  rw [h]

/-- A manager with a commit in hand. -/
def Manager.committing (r : Request) (named beat : Nat) (m : Manager) : Manager :=
  { m with stagingState := 2, activation := named, commit := some ⟨r, named, beat⟩ }

/-- The code of the validation of what is staged. -/
def State.stagedCode (s : State) : Nat := s.view.commitCode ((s.view.overlay s.written).overlay s.mgr.staging)

theorem performCommit_scheduled (hrecs : r.recs = [w]) (hpass : s.writeTests r r.recs = none) (hcode : s.stagedCode = 0) :
    s.performCommit r = s.managed (s.mgr.committing r (ofBE w.value) s.beat) := by
  unfold State.performCommit
  dsimp only
  rw [hpass]
  refine (if_pos hcode).trans ?_
  rw [hrecs]
  rfl

theorem performCommit_refused (hpass : s.writeTests r r.recs = none) (hcode : s.stagedCode ≠ 0) :
    s.performCommit r = (s.setVal 0x1400 9 s.stagedCode).refuse r s.stagedCode 0xFF := by
  unfold State.performCommit
  dsimp only
  rw [hpass]
  exact if_neg hcode

theorem performAbort_done (hpass : s.writeTests r r.recs = none) :
    s.performAbort r = (s.managed s.mgr.unstaged).respond r 0 (refusalRest r 0xFF) := by
  unfold State.performAbort
  rw [hpass]
  rfl

theorem State.Mailbox.taken_stagedCode {k : Service} (h : s.Mailbox k n r) (t : Nat) : ((s.upTo t).takeNext n).stagedCode =
    ((s.upTo t).takeNext n).view.commitCode ((((s.upTo t).takeNext n).view.overlay s.written).overlay s.mgr.staging) := by
  unfold State.stagedCode
  rw [show ((s.upTo t).takeNext n).written = s.written from h.taken_written t,
    show ((s.upTo t).takeNext n).mgr.staging = s.mgr.staging from (congrArg Manager.staging (h.upTo t).taken_mgr :)]

/-- The result of a commit is two bytes wide. -/
theorem commitResult_width (v : Variant) : (defaultOf v (keyOf 0x1400 9)).length = 2 := by cases v <;> decide +kernel

theorem val_commitResult (s : State) {code : Nat} (h : code < 0x10000) : (s.setVal 0x1400 9 code).val 0x1400 9 = code := by
  rw [State.val_setVal_self, commitResult_width]
  exact Nat.mod_eq_of_lt h

theorem setVal_keeps_self (s : State) (i j v : Nat) : Keeps [.dict] s (s.setVal i j v) := State.setVal_keeps (.refl _ s) i j v (by decide)

theorem commit_scheduled (hp : s.rst.powered = true) (h : s.Mailbox .commit n r) (hrecs : r.recs = [w])
    (hpass : ((s.upTo t).takeNext n).writeTests r r.recs = none) (hcode : ((s.upTo t).takeNext n).stagedCode = 0) :
    ∃ u, exec (.commit t) s = .next u ∧ Did t [.mgr, .pages] s u ∧ u.page n = { s.page n with req := none } ∧
      (∀ q, q ≠ n → u.page q = s.page q) ∧
      u.mgr = { s.mgr with turn := (n + 1) % 65, stagingState := 2, activation := ofBE w.value
                           commit := some ⟨r, ofBE w.value, max s.tsc t / 40000⟩ } := by
  have hserve : exec (.commit t) s = .next (((s.upTo t).takeNext n).performCommit r) := by
    rw [exec_commit hp, (h.upTo t).serve, perform_commit h.service]
  rw [performCommit_scheduled hrecs hpass hcode] at hserve
  have hkeeps := (takeNext_keeps_self (s.upTo t) n).trans
    (managed_keeps _ (((s.upTo t).takeNext n).mgr.committing r (ofBE w.value) ((s.upTo t).takeNext n).beat)).mono
  refine ⟨_, hserve, .of_keeps hkeeps (by decide), ?_, fun q hq => ?_, ?_⟩
  · rw [h.taken]
    exact State.page_setPage_self _ n _
  · rw [h.taken]
    exact State.page_setPage_ne _ n _ hq
  · rw [h.taken]
    rfl

theorem commit_refused (hp : s.rst.powered = true) (h : s.Mailbox .commit n r) (hpass : ((s.upTo t).takeNext n).writeTests r r.recs = none)
    {code : Nat} (hcode : ((s.upTo t).takeNext n).stagedCode = code) (hbad : code ≠ 0) (hcode2 : code < 0x10000) :
    ∃ u, exec (.commit t) s = .next u ∧ Did t [.out, .dict, .mgr, .pages] s u ∧ u.mgr = { s.mgr with turn := (n + 1) % 65 } ∧
      u.val 0x1400 9 = code ∧ (∀ k, k ≠ keyOf 0x1400 9 → u.raw k = s.raw k) ∧ s.Answered u n (s.response r code (slice r.body 0 3 ++ [0])) := by
  have htype := (Request.write_of_service h.service (by decide)).1
  have hperform := (perform_commit h.service none).trans (performCommit_refused hpass (by rw [hcode]; exact hbad))
  rw [hcode] at hperform
  have hrefuse : ∀ v : State, v.refuse r code 0xFF = v.respond r code (slice r.body 0 3 ++ [0]) := fun v =>
    congrArg (v.respond r code) (refusalRest_write htype _)
  rw [hrefuse] at hperform
  have hset := setVal_keeps_self ((s.upTo t).takeNext n) 0x1400 9 code
  obtain ⟨hnext, hdid, hanswered⟩ := h.served (exec_commit hp t) hperform hset (h.taken_turn t) (h.taken_epoch t) (qs := [.out, .dict, .mgr, .pages])
  have hkeeps := h.respond_keeps (.refl [.out, .pages] (((s.upTo t).takeNext n).setVal 0x1400 9 code)) code (slice r.body 0 3 ++ [0])
    (by decide) (by decide)
  refine ⟨_, hnext, hdid, (hkeeps.frame .mgr (by decide)).trans (h.upTo t).taken_mgr, (hkeeps.val ..).trans (val_commitResult _ hcode2),
    fun k hk => ?_, hanswered⟩
  exact (hkeeps.raw k).trans ((State.raw_setVal_ne _ _ hk).trans ((takeNext_keeps_self (s.upTo t) n).raw k))

theorem abort_did (hp : s.rst.powered = true) (h : s.Mailbox .abort n r) (hpass : ((s.upTo t).takeNext n).writeTests r r.recs = none) :
    ∃ u, exec (.abort t) s = .next u ∧ Did t [.out, .mgr, .pages] s u ∧
      u.mgr = { s.mgr with turn := (n + 1) % 65, staging := [], stagingState := 0, owner := 0xFFFF, activation := 0, commit := none
                           stagedDigests := [] } ∧
      s.Answered u n (s.response r 0 (slice r.body 0 3 ++ [0])) := by
  have htype := (Request.write_of_service h.service (by decide)).1
  have hperform := (perform_abort h.service none).trans (performAbort_done hpass)
  rw [refusalRest_write htype, (h.upTo t).taken_mgr] at hperform
  obtain ⟨hnext, hdid, hanswered⟩ := h.served (exec_abort hp t) hperform (managed_keeps _ _) rfl rfl (qs := [.out, .mgr, .pages])
  exact ⟨_, hnext, hdid, Request.responds_mgr h.who h.function _ _ _, hanswered⟩

/-! ## The end of the distribution -/

/-- A manager whose commit waits for its boundary. -/
def Manager.distributed (activation : Nat) (m : Manager) : Manager := { m with commit := none, activation := activation }

/-- A manager whose commit has failed. -/
def Manager.reopened (m : Manager) : Manager := { m with commit := none, stagingState := 1, activation := 0 }

theorem exec_commitDistributionDone (hp : s.rst.powered = true) (hc : s.mgr.commit = some c) (h : c.named = 0 ∨ max s.tsc t / 40000 < c.named) :
    exec (.commitDistributionDone t) s = .next ((((s.upTo t).managed (s.mgr.distributed
      (if c.named = 0 then max s.tsc t / 40000 + 1 else c.named))).setVal 0x1400 9 0).respond c.req 0 (refusalRest c.req 0xFF)) := by
  have hdue : ¬ (c.named ≠ 0 ∧ c.named ≤ (s.upTo t).beat) := by
    rintro ⟨hnamed, hle⟩
    rcases h with h | h
    · exact hnamed h
    · exact Nat.not_le.mpr h hle
  show execCommitDistributionDone t s = _
  unfold execCommitDistributionDone
  rw [State.run_powered hp]
  simp only [State.upTo_mgr, hc]
  exact congrArg Host.Outcome.next (if_neg hdue)

theorem exec_commitDistributionDone_late (hp : s.rst.powered = true) (hc : s.mgr.commit = some c) (hnamed : c.named ≠ 0)
    (h : c.named ≤ max s.tsc t / 40000) : exec (.commitDistributionDone t) s = .next
      ((((s.upTo t).managed s.mgr.reopened).setVal 0x1400 9 acSoon).respond c.req acSoon (refusalRest c.req 0xFF)) := by
  show execCommitDistributionDone t s = _
  unfold execCommitDistributionDone
  rw [State.run_powered hp]
  simp only [State.upTo_mgr, hc]
  exact congrArg Host.Outcome.next (if_pos ⟨hnamed, h⟩)

/-- The answer to a commit, from a state that has noted its result. -/
theorem commit_answered (hwho : r.who = n) (hn : n < 64) (hkept : (s.page n).discard = false) {m : Manager} (hepoch : m.epoch = s.mgr.epoch)
    {code : Nat} (hcode : code < 0x10000) (rest : Bytes) :
    Did t [.out, .dict, .mgr, .pages] s ((((s.upTo t).managed m).setVal 0x1400 9 code).respond r code rest) ∧
    ((((s.upTo t).managed m).setVal 0x1400 9 code).respond r code rest).mgr = m ∧
    ((((s.upTo t).managed m).setVal 0x1400 9 code).respond r code rest).val 0x1400 9 = code ∧
    (∀ k, k ≠ keyOf 0x1400 9 → ((((s.upTo t).managed m).setVal 0x1400 9 code).respond r code rest).raw k = s.raw k) ∧
    Paged n ((s.page n).answered (s.response r code rest)) s ((((s.upTo t).managed m).setVal 0x1400 9 code).respond r code rest) := by
  have hset : Keeps [.dict, .mgr] (s.upTo t) (((s.upTo t).managed m).setVal 0x1400 9 code) :=
    (managed_keeps (s.upTo t) m).mono.trans (setVal_keeps_self _ 0x1400 9 code).mono
  have heq : (((s.upTo t).managed m).setVal 0x1400 9 code).respond r code rest =
      (((s.upTo t).managed m).setVal 0x1400 9 code).mailboxDone n (s.response r code rest) := by
    have hresponse : (((s.upTo t).managed m).setVal 0x1400 9 code).response r code rest = s.response r code rest := by
      show message false (128 + r.type % 128) r.txn m.epoch 0 _ = _
      rw [hepoch]
      rfl
    rw [← hresponse]
    exact State.respond_mailbox _ hwho hn code rest
  have hdone : Keeps [.out, .pages] (((s.upTo t).managed m).setVal 0x1400 9 code)
      ((((s.upTo t).managed m).setVal 0x1400 9 code).mailboxDone n (s.response r code rest)) :=
    State.mailboxDone_keeps (.refl _ _) n _ (by decide) (by decide)
  rw [heq]
  refine ⟨.of_keeps (hset.mono.trans hdone.mono) (by decide), hdone.frame .mgr (by decide), (hdone.val ..).trans (val_commitResult _ hcode),
    fun k hk => (hdone.raw k).trans (State.raw_setVal_ne _ _ hk), ?_⟩
  have hkept' : ((((s.upTo t).managed m).setVal 0x1400 9 code).page n).discard = false := hkept
  rw [State.mailboxDone_kept (s := ((s.upTo t).managed m).setVal 0x1400 9 code) _ hkept']
  have hpaged := (Paged.refl (((s.upTo t).managed m).setVal 0x1400 9 code) n).setPage ((s.page n).answered (s.response r code rest))
  split
  · exact hpaged.keeps (ps := [.out]) (State.emit_keeps (.refl _ _) _ (by decide))
  · exact hpaged

/-- Settles O38: a commit from its service to its activation. -/
theorem commitsComplete : Obligations.CommitsComplete := by
  unfold Obligations.CommitsComplete
  intro s t n r w hs
  obtain ⟨-, hp⟩ := id hs
  refine ⟨fun h hrecs hpass => ⟨fun hcode => ?_, fun code hcode hbad hwidth => ?_⟩, fun c hc hwho hn htype hkept => ⟨fun hopen => ?_, fun hnamed hlate => ?_⟩,
    fun h hpass => abort_did hp h hpass, fun hup hstate hcommit hdue hbeat => (activationAppliesCommit s t hs hup hstate hcommit).1 hdue hbeat⟩
  · exact commit_scheduled hp h hrecs hpass ((h.taken_stagedCode t).trans hcode)
  · exact commit_refused hp h hpass ((h.taken_stagedCode t).trans hcode) hbad hwidth
  · have hexec := exec_commitDistributionDone (t := t) hp hc hopen
    rw [refusalRest_write htype] at hexec
    obtain ⟨hdid, hmgr, hval, hraw, hothers, hself⟩ := commit_answered (t := t) hwho hn hkept
      (m := s.mgr.distributed (if c.named = 0 then max s.tsc t / 40000 + 1 else c.named)) rfl (by decide : (0 : Nat) < 0x10000)
      (slice c.req.body 0 3 ++ [0])
    exact ⟨_, hexec, hdid, hmgr, hval, hraw, by rw [hself]; rfl, by rw [hself]; rfl, by rw [hself]; rfl, hothers⟩
  · have hexec := exec_commitDistributionDone_late (t := t) hp hc hnamed hlate
    rw [refusalRest_write htype] at hexec
    obtain ⟨hdid, hmgr, hval, -, hothers, hself⟩ := commit_answered (t := t) hwho hn hkept (m := s.mgr.reopened) rfl
      (by decide : acSoon < 0x10000) (slice c.req.body 0 3 ++ [0])
    exact ⟨_, hexec, hdid, hmgr, hval, by rw [hself]; rfl, hothers⟩

end Commits

end Sys2Proof.Machine
end

section
/-! Digests: computed, announced and compared (R60-R63). -/

set_option Elab.async false

namespace Sys2Proof.Machine

section Digests

variable {ps : List Part} {s u v : State} {t i mac : Nat} {msg : Bytes}

/-! ## Computed digests -/

/-- A manager with the digests of the values in force. -/
def Manager.digested (d : List Nat) (m : Manager) : Manager := { m with digests := d, digestsValid := true }

/-- A manager with the digests of what is staged. -/
def Manager.stagedDigested (d : List Nat) (m : Manager) : Manager := { m with stagedDigests := d }

theorem overlay_upTo (l : Table Bytes) : ∀ s : State, (s.upTo t).overlay l = (s.overlay l).upTo t := by
  induction l with
  | nil => exact fun _ => rfl
  | cons e l ih => exact fun s => ih (s.store e.1 e.2)

theorem view_upTo (s : State) (t : Nat) : (s.upTo t).view = s.view.upTo t := overlay_upTo _ s

theorem regionDigests_upTo (s : State) (t : Nat) : (s.upTo t).regionDigests = s.regionDigests := rfl

theorem exec_digestRecompute (hp : s.rst.powered = true) (t : Nat) : exec (.digestRecomputeDone t false) s =
    .next ((s.upTo t).managed (s.mgr.digested s.view.regionDigests)) := by
  show execDigestRecomputeDone t false s = _
  unfold execDigestRecomputeDone
  rw [State.run_powered hp, ← regionDigests_upTo s.view t, ← view_upTo]
  rfl

theorem exec_digestRecompute_staged (hp : s.rst.powered = true) (h : s.mgr.staging ≠ []) : exec (.digestRecomputeDone t true) s =
    .next ((s.upTo t).managed (s.mgr.stagedDigested (s.view.overlay s.mgr.staging).regionDigests)) := by
  show execDigestRecomputeDone t true s = _
  unfold execDigestRecomputeDone
  rw [State.run_powered hp, ← regionDigests_upTo (s.view.overlay s.mgr.staging) t, ← overlay_upTo, ← view_upTo]
  exact congrArg Host.Outcome.next ((if_pos rfl).trans (if_neg h))

/-! ## Messages to ring peers -/

/-- What has left the module in `s` has left it in `u` too. -/
def Sent (s u : State) : Prop := s.out <:+ u.out

theorem Sent.trans (h : Sent s u) (k : Sent u v) : Sent s v := List.IsSuffix.trans h k

theorem Sent.emit (s : State) (o : Out) : Sent s (s.emit o) := List.suffix_cons o s.out

theorem Sent.keeps (k : Keeps ps s u) (hps : Part.out ∉ ps := by decide) : Sent s u := by
  unfold Sent
  rw [k.frame .out hps]

theorem Sent.ringKick (s : State) (d : Side) : Sent s (s.ringKick d) := by
  unfold State.ringKick
  dsimp only
  split
  · exact List.suffix_refl _
  · split
    · exact (Sent.keeps (ps := [.ring]) (State.setRingPort_keeps (.refl _ s) d _ (by decide))).trans (Sent.emit _ _)
    · exact List.suffix_refl _

theorem Sent.each {α : Type} {g : State → α → State} (hg : ∀ w a, Sent w (g w a)) (l : List α) : ∀ w : State, Sent w (w.each l g) := by
  induction l with
  | nil => exact fun w => List.suffix_refl _
  | cons a l ih => exact fun w => (hg w a).trans (ih (g w a))

theorem Sent.sendRing (s : State) (da etherType : Nat) (vlan : Option (Nat × Nat)) (payload : Bytes) :
    Sent s (s.sendRing da etherType vlan payload) := by
  refine Sent.trans (u := { s with ring := { s.ring with sequence := (s.ring.sequence + 1) % 65536 } }) (List.suffix_refl _) ?_
  refine Sent.each (fun w d => ?_) _ _
  split
  · exact (Sent.keeps (ps := [.ring]) (State.updRing_keeps (.refl _ w) d _ (by decide))).trans (Sent.ringKick _ _)
  · exact List.suffix_refl _

theorem sendMessage_sends (s : State) (mac : Nat) (msg : Bytes) :
    Sent s (s.sendMessage mac msg) ∧ Out.ringMessage mac msg ∈ (s.sendMessage mac msg).out := by
  have h := Sent.sendRing (s.emit (.ringMessage mac msg)) mac (s.val 0x3800 2) s.octacVlan msg
  exact ⟨(Sent.emit s _).trans h, h.subset List.mem_cons_self⟩

/-- A message to a peer leaves, tagged where the key is there and untagged where it is not. -/
theorem sendPeer_sends (s : State) (i mac type txn : Nat) (body : Bytes) :
    Sent s (s.sendPeer i mac type txn s.ringKey.isSome body) ∧
    (∃ m, Out.ringMessage mac m ∈ (s.sendPeer i mac type txn s.ringKey.isSome body).out) ∧
    (s.sendPeer i mac type txn s.ringKey.isSome body).mgr.announced = s.mgr.announced := by
  have hmgr : ∀ (u : State) m, (u.sendMessage mac m).mgr = u.mgr := fun u m =>
    (State.sendMessage_keeps (.refl [.out, .ring] u) mac m (by decide) (by decide)).frame .mgr (by decide)
  unfold State.sendPeer
  cases s.ringKey with
  | none =>
    obtain ⟨hsent, hmem⟩ := sendMessage_sends s mac (message false type txn s.mgr.epoch 0 body)
    exact ⟨hsent, ⟨_, hmem⟩, congrArg Manager.announced (hmgr _ _)⟩
  | some k =>
    obtain ⟨hsent, hmem⟩ := sendMessage_sends
      ({ s with mgr := { s.mgr with ownSeq := Table.put 0 s.mgr.ownSeq i ((Table.get 0 s.mgr.ownSeq i + 1) % 2 ^ 32) } }) mac
      (message true type txn s.mgr.epoch ((Table.get 0 s.mgr.ownSeq i + 1) % 2 ^ 32) body ++
        tagOf k (message true type txn s.mgr.epoch ((Table.get 0 s.mgr.ownSeq i + 1) % 2 ^ 32) body))
    exact ⟨hsent, ⟨_, hmem⟩, (congrArg Manager.announced (hmgr _ _) :)⟩

theorem Keeps.ringKey (h : Keeps ps s u) (hdict : Part.dict ∉ ps := by decide) (hcipher : Part.cipher ∉ ps := by decide) :
    u.ringKey = s.ringKey := by
  unfold State.ringKey State.slot
  rw [h.val 0x1603 2 hdict, h.frame .cipher hcipher]

/-- The digests go to every peer of a list. -/
theorem announceTo_sends (l : List Nat) : ∀ u : State, Keeps [.out, .mgr, .ring] s u →
    Sent u (u.each l fun v i => v.sendPeer i (v.val 0x1601 (i + 1)) 6 0 s.ringKey.isSome v.announceBody) ∧
    (u.each l fun v i => v.sendPeer i (v.val 0x1601 (i + 1)) 6 0 s.ringKey.isSome v.announceBody).mgr.announced = u.mgr.announced ∧
    ∀ i ∈ l, ∃ m, Out.ringMessage (s.val 0x1601 (i + 1)) m ∈
      (u.each l fun v i => v.sendPeer i (v.val 0x1601 (i + 1)) 6 0 s.ringKey.isSome v.announceBody).out := by
  induction l with
  | nil => exact fun u _ => ⟨List.suffix_refl _, rfl, fun i hi => absurd hi List.not_mem_nil⟩
  | cons j l ih =>
    intro u hu
    obtain ⟨hsent, ⟨m, hm⟩, hann⟩ := sendPeer_sends u j (u.val 0x1601 (j + 1)) 6 0 u.announceBody
    have hkeeps := State.sendPeer_keeps hu j (u.val 0x1601 (j + 1)) 6 0 u.ringKey.isSome u.announceBody (by decide) (by decide) (by decide)
    obtain ⟨hsent', hann', hall⟩ := ih _ hkeeps
    show Sent u ((u.sendPeer j (u.val 0x1601 (j + 1)) 6 0 s.ringKey.isSome u.announceBody).each l _) ∧ _
    rw [← hu.ringKey]
    rw [← hu.ringKey] at hsent' hann' hall
    refine ⟨hsent.trans hsent', hann'.trans hann, fun i hi => ?_⟩
    rcases List.mem_cons.mp hi with rfl | hi
    · exact ⟨m, hsent'.subset (by rw [← hu.val 0x1601 (i + 1)]; exact hm)⟩
    · exact hall i hi

/-! ## The announcement -/

/-- A manager that has announced its digests at a stand of the counter. -/
def Manager.announcedAt (tsc : Nat) (m : Manager) : Manager := { m with announced := tsc }

theorem exec_digestAnnounceSend (hp : s.rst.powered = true) (hring : s.ringUp = true) (hmgr : s.managerUp = true) (t : Nat) :
    exec (.digestAnnounceSend t) s = .next (if s.mgr.announced + s.val 0x1400 0x0A * 1000000 ≤ max s.tsc t then (s.upTo t).announce else s.upTo t) := by
  have hring' : (s.upTo t).ringUp = true := hring
  have hmgr' : (s.upTo t).managerUp = true := hmgr
  show execDigestAnnounceSend t s = _
  unfold execDigestAnnounceSend
  rw [State.run_powered hp]
  simp only [hring', hmgr', true_and]
  rfl

theorem announce_silent (hkey : s.ringKey = none) (hflag : s.flag 0x1603 3 = true) : s.announce = s.managed (s.mgr.announcedAt s.tsc) := by
  unfold State.announce
  dsimp only
  rw [hkey, hflag]
  exact if_neg (by decide)

theorem announce_sends (h : s.ringKey.isSome = true ∨ s.flag 0x1603 3 = false) : s.announce.mgr.announced = s.tsc ∧
    ∀ i < 32, s.val 0x1601 (i + 1) ≠ 0 → ∃ m, Out.ringMessage (s.val 0x1601 (i + 1)) m ∈ s.announce.out := by
  have heq : s.announce = (s.managed (s.mgr.announcedAt s.tsc)).each ((List.range 32).filter fun i => s.val 0x1601 (i + 1) != 0)
      fun v i => v.sendPeer i (v.val 0x1601 (i + 1)) 6 0 s.ringKey.isSome v.announceBody := if_pos h
  obtain ⟨-, hann, hall⟩ := announceTo_sends (s := s) ((List.range 32).filter fun i => s.val 0x1601 (i + 1) != 0) _
    (managed_keeps s (s.mgr.announcedAt s.tsc)).mono
  rw [heq]
  refine ⟨hann, fun i hi hne => hall i (List.mem_filter.mpr ⟨List.mem_range.mpr hi, by simpa using hne⟩)⟩

/-! ## An announcement received -/

theorem exec_digestAnnounceReceived (hp : s.rst.powered = true) (hring : s.ringUp = true) (hmgr : s.managerUp = true) (htype : beAt msg 1 1 = 6)
    (t mac : Nat) : exec (.digestAnnounceReceived t mac msg) s = .next ((s.upTo t).ringAnnounce mac msg) := by
  show execDigestAnnounceReceived t mac msg s = _
  unfold execDigestAnnounceReceived
  rw [State.run_powered hp]
  exact congrArg Host.Outcome.next (if_pos ⟨hring, hmgr, htype⟩)

theorem ringAnnounce_unknown (h : s.peerSlot mac = none) : s.ringAnnounce mac msg = s.bump 0x1603 1 := by
  unfold State.ringAnnounce
  rw [h]
  rfl

/-- Bytes within a part of a message are read in it as in the message. -/
theorem beAt_body {m : Bytes} {len o n : Nat} (h : o + n ≤ len) : beAt ((m.drop 16).take len) o n = beAt m (16 + o) n := by
  have hslice : slice ((m.drop 16).take len) o n = slice m (16 + o) n := by
    unfold slice
    rw [List.drop_take, List.drop_drop, List.take_take, Nat.min_eq_left (by omega)]
  unfold beAt
  rw [hslice]

/-- The digests that a message announces. -/
def announcedDigests (msg : Bytes) : List Nat := (List.range 5).map fun k => beAt msg (32 + 8 * k) 8

/-- A well-formed announcement of a known peer is compared as its report, with its number recorded. -/
theorem ringAnnounce_compared (hslot : s.peerSlot mac = some i) (htag : s.tagPasses i msg = true) (hhead : headerOk msg = true)
    (hlength : beAt msg 4 2 = 56) :
    s.ringAnnounce mac msg = (s.noteSeq i msg).compareReport 1 mac (beAt msg 16 4) (announcedDigests msg) := by
  have hmessage : 72 ≤ msg.length := by
    unfold headerOk at hhead
    simp only [Bool.and_eq_true, beq_iff_eq] at hhead
    omega
  have hbody : ((msg.drop 16).take (beAt msg 4 2)).length = 56 := by
    rw [hlength, List.length_take, List.length_drop]
    omega
  have hepoch : beAt ((msg.drop 16).take (beAt msg 4 2)) 0 4 = beAt msg 16 4 := beAt_body (by omega)
  have hdigests : ((List.range 5).map fun k => beAt ((msg.drop 16).take (beAt msg 4 2)) (16 + 8 * k) 8) = announcedDigests msg := by
    refine List.map_congr_left fun k hk => ?_
    have hk5 := List.mem_range.mp hk
    rw [beAt_body (by omega)]
    congr 1
    omega
  unfold State.ringAnnounce
  rw [hslot]
  dsimp only
  rw [if_neg (by rw [htag]; decide), if_pos ⟨hhead, hbody⟩, hepoch, hdigests]

theorem noteSeq_keeps_self (s : State) (i : Nat) (msg : Bytes) : Keeps [.mgr] s (s.noteSeq i msg) :=
  State.noteSeq_keeps (.refl _ s) i msg (by decide)

theorem noteSeq_mismatchOf (s : State) (i : Nat) (msg : Bytes) (kind id : Nat) : (s.noteSeq i msg).mismatchOf kind id = s.mismatchOf kind id := by
  unfold State.mismatchOf
  rw [noteSeq_mgr]

/-- The lowest number below a bound that satisfies a test. -/
theorem firstBelow_of_least {p : Nat → Bool} {k n : Nat} (hk : k < n) (h : p k = true) (hleast : ∀ j < k, p j = false) : firstBelow p n = some k := by
  refine List.find?_range_eq_some.mpr ⟨h, List.mem_range.mpr hk, fun j hj => ?_⟩
  rw [hleast j hj]
  rfl

/-- A mismatch that is listed for the first time. -/
def newMismatch (id epoch regions tsc : Nat) : Mismatch := { kind := 1, regions := regions, id := id, epoch := epoch, first := tsc, last := tsc }

/-- A manager with a mismatch more. -/
def Manager.listing (k : Nat) (x : Mismatch) (m : Manager) : Manager := { m with mismatches := Table.insert m.mismatches k x }

theorem listMismatch_new {id epoch regions k : Nat} (hnone : s.mismatchOf 1 id = none) (hk : k < 64)
    (hfree : Table.find s.mgr.mismatches k = none) (hleast : ∀ j < k, Table.find s.mgr.mismatches j ≠ none) :
    s.listMismatch 1 id epoch regions = (s.managed (s.mgr.listing k (newMismatch id epoch regions s.tsc))).event srcDigest 0x0302 sevWarning
      ((mismatchBytes (newMismatch id epoch regions s.tsc)).take 16) := by
  have hfirst : firstBelow (fun n => (Table.find s.mgr.mismatches n).isNone) 64 = some k :=
    firstBelow_of_least hk (by rw [hfree]; rfl) fun j hj => by
      cases h : Table.find s.mgr.mismatches j with
      | none => exact absurd h (hleast j hj)
      | some x => rfl
  unfold State.listMismatch
  rw [hnone]
  dsimp only
  rw [hfirst]
  rfl

theorem clearMismatch_unlisted {id : Nat} (h : s.mismatchOf 1 id = none) : s.clearMismatch 1 id = s := by
  unfold State.clearMismatch
  rw [h]

/-- Settles O40: the digests, their announcement, and the comparison of a peer's. -/
theorem digestsComplete : Obligations.DigestsComplete := by
  unfold Obligations.DigestsComplete
  intro s t hs
  obtain ⟨-, hp⟩ := hs
  refine ⟨⟨_, exec_digestRecompute hp t, .of_keeps (managed_keeps _ _) (by decide), rfl⟩, fun hne => ⟨_, exec_digestRecompute_staged hp hne,
    .of_keeps (managed_keeps _ _) (by decide), rfl⟩, fun hring hmgr => ?_⟩
  have hsend := exec_digestAnnounceSend hp hring hmgr t
  refine ⟨fun hearly => ?_, fun hdue hkey => ?_, fun hdue hkey hflag => ?_, fun mac msg htype => ?_⟩
  · rw [if_neg (Nat.not_le.mpr hearly)] at hsend
    exact Did.answer_upTo hsend
  · rw [if_pos hdue] at hsend
    exact ⟨_, hsend, .of_keeps (State.announce_keeps (.refl _ _) (by decide) (by decide) (by decide)) (by decide), announce_sends (s := s.upTo t) hkey⟩
  · rw [if_pos hdue, announce_silent (s := s.upTo t) hkey hflag] at hsend
    exact ⟨_, hsend, .of_keeps (managed_keeps _ _) (by decide), rfl⟩
  · have hexec := exec_digestAnnounceReceived hp hring hmgr htype t mac
    refine ⟨fun hslot => ?_, fun i hslot htag hhead hlength hepoch hnone => ?_, fun i hslot htag hhead hlength hepoch hprev hwindow => ?_⟩
    · rw [ringAnnounce_unknown (s := s.upTo t) hslot] at hexec
      exact ⟨_, hexec, .of_keeps (State.bump_keeps (.refl _ _) _ _ (by decide)) (by decide), State.counted_bump (s.upTo t) 0x1603 1⟩
    · have hnote := noteSeq_keeps_self (s.upTo t) i msg
      have hmgr' := noteSeq_mgr (s.upTo t) i msg
      have hepoch' : beAt msg 16 4 = ((s.upTo t).noteSeq i msg).mgr.epoch := by rw [hmgr']; exact hepoch
      have hdigests : ((s.upTo t).noteSeq i msg).mgr.digests = s.mgr.digests := by rw [hmgr']; rfl
      have hnone' : ((s.upTo t).noteSeq i msg).mismatchOf 1 mac = none := (noteSeq_mismatchOf ..).trans hnone
      have hcompare : ((s.upTo t).noteSeq i msg).compareReport 1 mac (beAt msg 16 4) (announcedDigests msg) =
          if digestDiff s.mgr.digests (announcedDigests msg) = 0 then ((s.upTo t).noteSeq i msg).clearMismatch 1 mac
          else ((s.upTo t).noteSeq i msg).listMismatch 1 mac (beAt msg 16 4) (digestDiff s.mgr.digests (announcedDigests msg)) := by
        rw [← hdigests]
        exact if_pos hepoch'
      rw [ringAnnounce_compared (s := s.upTo t) hslot htag hhead hlength, hcompare] at hexec
      refine ⟨fun hsame => ?_, fun d k hdiff hd hk hfree hleast => ?_⟩
      · have hsame' : digestDiff s.mgr.digests (announcedDigests msg) = 0 := hsame
        rw [if_pos hsame', clearMismatch_unlisted hnone'] at hexec
        exact ⟨_, hexec, .of_keeps hnote (by decide), by rw [hmgr']; rfl, by rw [hmgr']; rfl⟩
      · have hlisted : ((s.upTo t).noteSeq i msg).mgr.mismatches = s.mgr.mismatches := by rw [hmgr']; rfl
        have hdiff' : digestDiff s.mgr.digests (announcedDigests msg) = d := hdiff
        have htsc : ((s.upTo t).noteSeq i msg).tsc = max s.tsc t := hnote.frame .tsc (by decide)
        rw [hdiff', if_neg hd, listMismatch_new hnone' hk (by rw [hlisted]; exact hfree) (by rw [hlisted]; exact hleast), hepoch, htsc] at hexec
        have hlisting := managed_keeps ((s.upTo t).noteSeq i msg)
          (((s.upTo t).noteSeq i msg).mgr.listing k (newMismatch mac s.mgr.epoch d (max s.tsc t)))
        refine ⟨_, hexec, .of_keeps (State.event_keeps (hnote.mono.trans hlisting.mono) _ _ _ _ (by decide)) (by decide), ?_, fun j hj => ?_, ?_⟩
        · exact Table.find_insert_self _ _ _
        · exact (Table.find_insert_ne _ _ hj).trans (congrArg (fun x => Table.find x j) hlisted)
        · refine (State.event_detected ..).trans ?_
          rw [show (((s.upTo t).noteSeq i msg).managed (((s.upTo t).noteSeq i msg).mgr.listing k
              (newMismatch mac s.mgr.epoch d (max s.tsc t)))).tsc = max s.tsc t from htsc,
            show (((s.upTo t).noteSeq i msg).managed (((s.upTo t).noteSeq i msg).mgr.listing k
              (newMismatch mac s.mgr.epoch d (max s.tsc t)))).log = s.log from hnote.frame .log (by decide)]
          rfl
    · have hnote := noteSeq_keeps_self (s.upTo t) i msg
      have hmgr' := noteSeq_mgr (s.upTo t) i msg
      have hother : ¬ beAt msg 16 4 = ((s.upTo t).noteSeq i msg).mgr.epoch := by rw [hmgr']; exact hepoch
      have hopen : ((s.upTo t).noteSeq i msg).changeover = true := by
        unfold State.changeover
        rw [hmgr', hnote.val 0x1400 6, show ((s.upTo t).noteSeq i msg).beat = (s.upTo t).beat from
          congrArg (· / beatNs) (hnote.frame .tsc (by decide))]
        exact hwindow
      have hcompare : ((s.upTo t).noteSeq i msg).compareReport 1 mac (beAt msg 16 4) (announcedDigests msg) = (s.upTo t).noteSeq i msg :=
        (if_neg hother).trans (if_pos ⟨by rw [hmgr']; exact hprev, hopen⟩)
      rw [ringAnnounce_compared (s := s.upTo t) hslot htag hhead hlength, hcompare] at hexec
      exact ⟨_, hexec, .of_keeps hnote (by decide), by rw [hmgr']; rfl⟩

end Digests

end Sys2Proof.Machine
end

section
/-! Trip outputs (R314, R315). -/

set_option Elab.async false

namespace Sys2Proof.Machine

section TripOutputs

variable {ps : List Part} {s u v : State} {t n : Nat}

/-! ## What an output depends on -/

/-- A trip output. -/
def State.output (s : State) (n : Nat) : TripOutput := Table.get {} s.trip.outputs n

/-- The sources of the trip matrix stand as they were, and its settings: only the outputs and their counters have changed. -/
structure SameSources (s u : State) : Prop where
  tsc : u.tsc = s.tsc
  hier : u.hier = s.hier
  cells : u.cells = s.cells
  sensing : u.sensing = s.sensing
  rst : u.rst = s.rst
  biState : u.trip.biState = s.trip.biState
  biRaw : u.trip.biRaw = s.trip.biRaw
  raw : ∀ k, k / 256 ≠ 0x3505 → u.raw k = s.raw k

theorem SameSources.refl (s : State) : SameSources s s := ⟨rfl, rfl, rfl, rfl, rfl, rfl, rfl, fun _ _ => rfl⟩

theorem SameSources.trans (h : SameSources s u) (k : SameSources u v) : SameSources s v :=
  ⟨k.tsc.trans h.tsc, k.hier.trans h.hier, k.cells.trans h.cells, k.sensing.trans h.sensing, k.rst.trans h.rst, k.biState.trans h.biState,
    k.biRaw.trans h.biRaw, fun j hj => (k.raw j hj).trans (h.raw j hj)⟩

theorem SameSources.val (h : SameSources s u) {i j : Nat} (hkey : keyOf i j / 256 ≠ 0x3505) : u.val i j = s.val i j :=
  congrArg ofBE (h.raw _ hkey)

theorem SameSources.tripUp (h : SameSources s u) : u.tripUp = s.tripUp := by
  unfold State.tripUp State.block
  rw [h.hier]

theorem SameSources.outputsSafe (h : SameSources s u) : u.outputsSafe = s.outputsSafe := by
  unfold State.outputsSafe
  rw [h.hier, h.rst]

theorem SameSources.receivedState (h : SameSources s u) {p c : Nat} (hp : p < 64) (hc : c < 8) : u.receivedState p c = s.receivedState p c := by
  have hcell : u.cell p = s.cell p := by unfold State.cell; rw [h.cells]
  have hmap : u.commandMap p c = s.commandMap p c := h.val (by unfold keyOf; omega)
  unfold State.receivedState
  rw [hmap, hcell]

theorem SameSources.sourceValue (h : SameSources s u) (c : Nat) : u.sourceValue c = s.sourceValue c := by
  have hcell : ∀ p, u.cell p = s.cell p := fun p => by unfold State.cell; rw [h.cells]
  unfold State.sourceValue
  rw [h.biState, h.sensing, hcell]
  split
  · rfl
  · split
    · rfl
    · split
      · rfl
      · split
        · rename_i hrange
          exact h.receivedState (by omega) (Nat.mod_lt _ (by decide))
        · rfl

theorem SameSources.inputValues (h : SameSources s u) (x : Nat) : u.inputValues x = s.inputValues x :=
  List.map_congr_left fun c _ => congrArg (· != bit c 15) (h.sourceValue _)

theorem SameSources.outputWanted (h : SameSources s u) (hn : n < 8) : u.outputWanted n = s.outputWanted n := by
  unfold State.outputWanted
  rw [h.val (by unfold keyOf; omega), h.val (by unfold keyOf; omega), h.inputValues]

/-! ## One output settles -/

/-- The output evaluates its function. -/
def State.outputLive (s : State) (n : Nat) : Bool := s.tripUp && s.val 0x3503 (n + 1) == 1 && !s.outputsSafe

/-- What an output becomes as it follows its function. -/
def State.outputAfter (s : State) (n : Nat) : TripOutput :=
  if s.outputLive n = false then {}
  else if s.outputWanted n then (if (s.output n).on then s.output n else { on := true, since := s.tsc })
  else if (s.output n).on ∧ (s.output n).since + s.val 0x3502 (n + 1) * 1000000 ≤ s.tsc then {} else s.output n

/-- A state with one output written. -/
def State.setOutput (s : State) (n : Nat) (y : TripOutput) : State :=
  { s with trip := { s.trip with outputs := Table.put {} s.trip.outputs n y } }

theorem setOutput_sources (s : State) (n : Nat) (y : TripOutput) : SameSources s (s.setOutput n y) :=
  ⟨rfl, rfl, rfl, rfl, rfl, rfl, rfl, fun _ _ => rfl⟩

theorem setOutput_self (s : State) (n : Nat) (y : TripOutput) : (s.setOutput n y).output n = y := Table.get_put_self _ _ _

theorem setOutput_ne (s : State) {n j : Nat} (y : TripOutput) (h : j ≠ n) : (s.setOutput n y).output j = s.output j := Table.get_put_ne _ _ h

theorem setOutput_keeps (s : State) (n : Nat) (y : TripOutput) : Keeps [.trip] s (s.setOutput n y) :=
  Keeps.record (.refl _ s) rfl rfl rfl rfl rfl rfl rfl rfl rfl rfl rfl rfl rfl rfl rfl rfl rfl rfl rfl

theorem settleOutput_eq (s : State) (n : Nat) : s.settleOutput n =
    if s.outputLive n = false then (if (s.output n).on then s.setOutput n {} else s)
    else if s.outputWanted n then
      (if (s.output n).on then s else (s.setOutput n { on := true, since := s.tsc }).bump 0x3505 (n + 1))
    else if (s.output n).on ∧ (s.output n).since + s.val 0x3502 (n + 1) * 1000000 ≤ s.tsc then s.setOutput n {} else s := rfl

theorem bump_sources (s : State) {n : Nat} (hn : n < 8) : SameSources s (s.bump 0x3505 (n + 1)) :=
  ⟨rfl, rfl, rfl, rfl, rfl, rfl, rfl, fun k hk => State.raw_bumpKey_ne s 1 fun he => hk (by rw [he]; unfold keyOf; omega)⟩

/-- What one output's settling leaves: itself as its function says, every other as it was, and the sources. -/
theorem settleOutput_follows (s : State) {n : Nat} (hn : n < 8) : SameSources s (s.settleOutput n) ∧
    ((s.settleOutput n).output n).on = (s.outputAfter n).on ∧
    (s.outputLive n = true → (s.settleOutput n).output n = s.outputAfter n) ∧ ∀ j, j ≠ n → (s.settleOutput n).output j = s.output j := by
  rw [settleOutput_eq]
  unfold State.outputAfter
  by_cases hlive : s.outputLive n = false
  · rw [if_pos hlive, if_pos hlive]
    by_cases hon : (s.output n).on = true
    · rw [if_pos hon]
      exact ⟨setOutput_sources .., by rw [setOutput_self], fun _ => setOutput_self .., fun j hj => setOutput_ne s _ hj⟩
    · rw [if_neg hon]
      exact ⟨.refl s, Bool.eq_false_iff.mpr hon, fun h => absurd (hlive.symm.trans h) (by decide), fun _ _ => rfl⟩
  · rw [if_neg hlive, if_neg hlive]
    by_cases hwanted : s.outputWanted n = true
    · rw [if_pos hwanted, if_pos hwanted]
      by_cases hon : (s.output n).on = true
      · rw [if_pos hon, if_pos hon]
        exact ⟨.refl s, rfl, fun _ => rfl, fun _ _ => rfl⟩
      · rw [if_neg hon, if_neg hon]
        have hself : ((s.setOutput n { on := true, since := s.tsc }).bump 0x3505 (n + 1)).output n = { on := true, since := s.tsc } :=
          setOutput_self ..
        exact ⟨(setOutput_sources ..).trans (bump_sources _ hn), congrArg TripOutput.on hself, fun _ => hself, fun j hj => setOutput_ne s _ hj⟩
    · rw [if_neg hwanted, if_neg hwanted]
      by_cases hover : (s.output n).on = true ∧ (s.output n).since + s.val 0x3502 (n + 1) * 1000000 ≤ s.tsc
      · rw [if_pos hover, if_pos hover]
        exact ⟨setOutput_sources .., by rw [setOutput_self], fun _ => setOutput_self .., fun j hj => setOutput_ne s _ hj⟩
      · rw [if_neg hover, if_neg hover]
        exact ⟨.refl s, rfl, fun _ => rfl, fun _ _ => rfl⟩

theorem SameSources.outputLive (h : SameSources s u) (hn : n < 8) : u.outputLive n = s.outputLive n := by
  unfold State.outputLive
  rw [h.tripUp, h.outputsSafe, h.val (by unfold keyOf; omega)]

theorem SameSources.outputAfter (h : SameSources s u) (hn : n < 8) (hout : u.output n = s.output n) : u.outputAfter n = s.outputAfter n := by
  unfold State.outputAfter
  rw [h.outputLive hn, h.outputWanted hn, hout, h.tsc, h.val (by unfold keyOf; omega)]

/-- Every output of a list settles by the sources as they stood. -/
theorem each_settleOutput : ∀ {l : List Nat}, l.Nodup → (∀ n ∈ l, n < 8) → ∀ u : State, SameSources s u → (∀ n ∈ l, u.output n = s.output n) →
    SameSources s (u.each l State.settleOutput) ∧
    (∀ n ∈ l, ((u.each l State.settleOutput).output n).on = (s.outputAfter n).on ∧
      (s.outputLive n = true → (u.each l State.settleOutput).output n = s.outputAfter n)) ∧
    ∀ n, n ∉ l → (u.each l State.settleOutput).output n = u.output n
  | [], _, _, u, hu, _ => ⟨hu, fun n hn => absurd hn List.not_mem_nil, fun _ _ => rfl⟩
  | m :: l, hnodup, hbound, u, hu, hout => by
    obtain ⟨hm, hl⟩ := List.nodup_cons.mp hnodup
    have hm8 := hbound m List.mem_cons_self
    obtain ⟨hsources, hon, hlive, hother⟩ := settleOutput_follows u hm8
    have hne : ∀ n ∈ l, n ≠ m := fun n hn he => hm (he ▸ hn)
    obtain ⟨hsources', hall, hrest⟩ := each_settleOutput hl (fun n hn => hbound n (List.mem_cons_of_mem _ hn)) (u.settleOutput m)
      (hu.trans hsources) fun n hn => (hother n (hne n hn)).trans (hout n (List.mem_cons_of_mem _ hn))
    have hafter := hu.outputAfter hm8 (hout m List.mem_cons_self)
    refine ⟨hsources', fun n hn => ?_, fun n hn => ?_⟩
    · rcases List.mem_cons.mp hn with rfl | hn
      · rw [show (u.each (n :: l) State.settleOutput).output n = (u.settleOutput n).output n from hrest n hm, hon, hafter]
        exact ⟨rfl, fun h => (hlive ((hu.outputLive hm8).trans h)).trans hafter⟩
      · exact hall n hn
    · exact (hrest n fun h => hn (List.mem_cons_of_mem _ h)).trans (hother n fun h => hn (h ▸ List.mem_cons_self))

/-! ## The matrix settles -/

/-- What follows the outputs in the matrix leaves them. -/
theorem settleMatrix_trip (s : State) : s.settleMatrix.trip = (s.each (List.range 8) State.settleOutput).trip := by
  have hkeeps : Keeps [.out, .dict, .routes, .cells] (s.each (List.range 8) State.settleOutput) s.settleMatrix := by
    unfold State.settleMatrix
    refine Keeps.each (.refl _ _) (fun w p => ?_)
    have hdriven : Keeps [.out, .dict, .routes, .cells] w
        (if (w.cell p).driven = w.drivenOf p then w else w.setCell p { w.cell p with driven := w.drivenOf p }) :=
      Keeps.ite (.refl _ w) (State.setCell_keeps (.refl _ w) p _ (by decide))
    exact State.commandNext_keeps (Keeps.each hdriven fun z k => State.settleStates_keeps (.refl _ z) p k (by decide) (by decide) (by decide)) p
      (by decide) (by decide) (by decide) (by decide)
  exact hkeeps.frame .trip (by decide)

theorem settleMatrix_outputs (s : State) : SameSources s (s.each (List.range 8) State.settleOutput) ∧
    ∀ n < 8, (s.settleMatrix.output n).on = (s.outputAfter n).on ∧ (s.outputLive n = true → s.settleMatrix.output n = s.outputAfter n) := by
  obtain ⟨hsources, hall, -⟩ := each_settleOutput (s := s) (l := List.range 8) List.nodup_range (fun n hn => List.mem_range.mp hn) s (.refl s)
    fun _ _ => rfl
  have hsame : ∀ n, s.settleMatrix.output n = (s.each (List.range 8) State.settleOutput).output n := fun n => by
    unfold State.output
    rw [settleMatrix_trip]
  refine ⟨hsources, fun n hn => ?_⟩
  rw [hsame]
  exact hall n (List.mem_range.mpr hn)

theorem outputLive_iff : s.outputLive n = true ↔ s.tripUp = true ∧ s.val 0x3503 (n + 1) = 1 ∧ s.outputsSafe = false := by
  unfold State.outputLive
  rw [Bool.and_eq_true, Bool.and_eq_true, beq_iff_eq, Bool.not_eq_true', and_assoc]

/-! ## The commands -/

theorem exec_matrixSourceChange (hp : s.rst.powered = true) (t : Nat) : exec (.matrixSourceChange t) s = .next ((s.upTo t).settleLinks false).settleMatrix :=
  State.run_powered hp t State.settleCommand

theorem exec_tripMinPulseEnd (hp : s.rst.powered = true) (t : Nat) (hn : n < 8) :
    exec (.tripMinPulseEnd t n) s = .next ((s.upTo t).settleOutput n) := by
  show execTripMinPulseEnd t n s = _
  unfold execTripMinPulseEnd
  rw [State.run_powered hp]
  exact congrArg Host.Outcome.next (if_pos hn)

theorem settleLinks_keeps_self (s : State) (quiet : Bool) : Keeps [.dict, .log, .routes, .cells] s (s.settleLinks quiet) :=
  State.settleLinks_keeps (.refl _ s) quiet (by decide) (by decide) (by decide) (by decide)

theorem settleMatrix_keeps_self (s : State) : Keeps [.out, .dict, .routes, .cells, .trip] s s.settleMatrix :=
  State.settleMatrix_keeps (.refl _ s) (by decide) (by decide) (by decide) (by decide) (by decide)

/-- What an output that is live follows. -/
theorem outputAfter_live (h : s.outputLive n = true) :
    (s.outputWanted n = true → (s.outputAfter n).on = true ∧ ((s.output n).on = false → (s.outputAfter n).since = s.tsc) ∧
      ((s.output n).on = true → s.outputAfter n = s.output n)) ∧
    (s.outputWanted n = false → (s.output n).on = true → (s.output n).since + s.val 0x3502 (n + 1) * 1000000 ≤ s.tsc → s.outputAfter n = {}) ∧
    (s.outputWanted n = false → s.tsc < (s.output n).since + s.val 0x3502 (n + 1) * 1000000 → s.outputAfter n = s.output n) := by
  unfold State.outputAfter
  rw [if_neg (by rw [h]; decide)]
  refine ⟨fun hwanted => ?_, fun hidle hon hover => ?_, fun hidle hlater => ?_⟩
  · rw [if_pos hwanted]
    by_cases hon : (s.output n).on = true
    · rw [if_pos hon]
      exact ⟨hon, fun hoff => absurd (hon.symm.trans hoff) (by decide), fun _ => rfl⟩
    · rw [if_neg hon]
      exact ⟨rfl, fun _ => rfl, fun h => absurd h hon⟩
  · rw [if_neg (by rw [hidle]; decide), if_pos ⟨hon, hover⟩]
  · rw [if_neg (by rw [hidle]; decide), if_neg fun hc => absurd hc.2 (Nat.not_le.mpr hlater)]

/-- Settles O41: every output follows its function, and the end of a minimum pulse turns one off. -/
theorem tripOutputsFollow : Obligations.TripOutputsFollow := by
  unfold Obligations.TripOutputsFollow
  intro s t hs
  obtain ⟨-, hp⟩ := hs
  constructor
  · have hexec := exec_matrixSourceChange hp t
    have hlinks := settleLinks_keeps_self (s.upTo t) false
    obtain ⟨hsources, hall⟩ := settleMatrix_outputs ((s.upTo t).settleLinks false)
    have htrip : ((s.upTo t).settleLinks false).trip = s.trip := hlinks.frame .trip (by decide)
    have hout : ∀ n, ((s.upTo t).settleLinks false).output n = Table.get {} s.trip.outputs n := fun n => by
      unfold State.output
      rw [htrip]
    have htsc : ((s.upTo t).settleLinks false).tsc = max s.tsc t := hlinks.frame .tsc (by decide)
    refine ⟨_, hexec, .of_keeps (hlinks.mono.trans (settleMatrix_keeps_self _).mono) (by decide), ?_, ?_, ?_⟩
    · exact (congrArg Trip.biState (settleMatrix_trip ((s.upTo t).settleLinks false))).trans (hsources.biState.trans (congrArg Trip.biState htrip))
    · exact (congrArg Trip.biRaw (settleMatrix_trip ((s.upTo t).settleLinks false))).trans (hsources.biRaw.trans (congrArg Trip.biRaw htrip))
    · intro v hv n hn
      subst hv
      obtain ⟨hon, hlive⟩ := hall n hn
      refine ⟨fun hdead => ?_, fun hup henabled hunsafe => ?_⟩
      · have hoff : ((s.upTo t).settleLinks false).outputLive n = false := by
          refine Bool.eq_false_iff.mpr fun h => ?_
          obtain ⟨h₁, h₂, h₃⟩ := outputLive_iff.mp h
          rcases hdead with hd | hd | hd
          · exact Bool.noConfusion (h₁.symm.trans hd)
          · exact hd h₂
          · exact Bool.noConfusion (h₃.symm.trans hd)
        refine hon.trans ?_
        unfold State.outputAfter
        rw [if_pos hoff]
      · have hl := outputLive_iff.mpr ⟨hup, henabled, hunsafe⟩
        have hafter := outputAfter_live hl
        rw [hout, htsc, ← hlive hl] at hafter
        exact hafter
  · intro n hn hup henabled hunsafe hon
    have hl : (s.upTo t).outputLive n = true := outputLive_iff.mpr ⟨hup, henabled, hunsafe⟩
    have hexec := exec_tripMinPulseEnd hp t hn
    rw [settleOutput_eq, if_neg (by rw [hl]; decide)] at hexec
    refine ⟨fun hidle hover => ?_, fun h => ?_⟩
    · have hidle' : ¬ (s.upTo t).outputWanted n = true := fun h => Bool.noConfusion (hidle.symm.trans h)
      have hover' : ((s.upTo t).output n).on = true ∧ ((s.upTo t).output n).since + (s.upTo t).val 0x3502 (n + 1) * 1000000 ≤ (s.upTo t).tsc :=
        ⟨hon, hover⟩
      rw [if_neg hidle', if_pos hover'] at hexec
      exact ⟨_, hexec, .of_keeps (setOutput_keeps _ n _) (by decide), setOutput_self .., fun j hj => setOutput_ne _ _ hj, rfl⟩
    · refine Did.answer_upTo ?_
      by_cases hwanted : (s.upTo t).outputWanted n = true
      · rw [if_pos hwanted, if_pos (show ((s.upTo t).output n).on = true from hon)] at hexec
        exact hexec
      · have hlater : max s.tsc t < (s.output n).since + s.val 0x3502 (n + 1) * 1000000 := h.resolve_left hwanted
        rw [if_neg hwanted, if_neg fun hc => absurd hc.2 (Nat.not_le.mpr hlater)] at hexec
        exact hexec

end TripOutputs

end Sys2Proof.Machine
end

section
/-! Command frames: their end, the next of them, the heartbeat and the tag stores (R299-R304). -/

set_option Elab.async false

namespace Sys2Proof.Machine

section CommandFrames

variable {ps : List Part} {s u v : State} {t p k cnt : Nat} {kind : CommandKind}

/-! ## Links of a cell -/

theorem CommandCell.link_setLink_self (x : CommandCell) (n : Nat) (y : CommandLink) : (x.setLink n y).link n = y := Table.get_put_self _ _ _

theorem CommandCell.link_setLink_ne (x : CommandCell) {n j : Nat} (y : CommandLink) (h : j ≠ n) : (x.setLink n y).link j = x.link j :=
  Table.get_put_ne _ _ h

theorem State.updLink_link_self (s : State) (p k : Nat) (f : CommandLink → CommandLink) :
    ((s.updLink p k f).cell p).link k = f ((s.cell p).link k) := by
  unfold State.updLink
  rw [State.cell_setCell_self, CommandCell.link_setLink_self]

theorem State.updLink_link_ne (s : State) (p k : Nat) (f : CommandLink → CommandLink) {j : Nat} (h : j ≠ k) :
    ((s.updLink p k f).cell p).link j = (s.cell p).link j := by
  unfold State.updLink
  rw [State.cell_setCell_self, CommandCell.link_setLink_ne _ _ h]

theorem State.updLink_cell_ne (s : State) (p k : Nat) (f : CommandLink → CommandLink) {q : Nat} (h : q ≠ p) :
    (s.updLink p k f).cell q = s.cell q := State.cell_setCell_ne _ _ _ h

theorem State.updLink_cells (s : State) (p k : Nat) (f : CommandLink → CommandLink) : Keeps [.cells] s (s.updLink p k f) :=
  State.setCell_keeps (.refl _ s) p _ (by decide)

theorem cell_congr (h : u.cells = s.cells) (q : Nat) : u.cell q = s.cell q := by
  unfold State.cell
  rw [h]

/-- Counters counted by two operations in turn. -/
theorem Counted.trans {keys keys' : List Nat} (h : Counted keys s u) (k : Counted keys' u v) (hvariant : u.variant = s.variant)
    (hnew : ∀ x ∈ keys', x ∉ keys) : Counted (keys ++ keys') s v := by
  refine ⟨fun x hx => ?_, fun x hx => ?_⟩
  · rw [List.mem_append, not_or] at hx
    exact (k.1 x hx.2).trans (h.1 x hx.1)
  · by_cases hlast : x ∈ keys'
    · rw [k.2 x hlast, hvariant, h.1 x (hnew x hlast)]
    · rw [k.1 x hlast]
      exact h.2 x ((List.mem_append.mp hx).resolve_right hlast)

/-! ## A frame starts -/

/-- The number of repeats that follow a frame of a kind. -/
def State.repeatsLeft (s : State) (p k : Nat) : CommandKind → Nat
  | .change => s.val 0x3400 1
  | .repeated => ((s.cell p).link k).repeats - 1
  | .heartbeat => ((s.cell p).link k).repeats

/-- A link once its frame has started. -/
def State.sentLink (s : State) (p k cnt : Nat) (kind : CommandKind) (y : CommandLink) : CommandLink :=
  { y with
    lastSent := cnt, everSent := true, startAt := s.tsc, announced := s.linkStates p k, repeats := s.repeatsLeft p k kind, limited := false,
    tags := y.tags.filter fun (c : Nat × Bytes) => c.1 != cnt }

/-- A state in which the cell of a link holds its new frame. -/
def State.framed (s : State) (p k cnt : Nat) (kind : CommandKind) : State :=
  let u := s.updLink p k (s.sentLink p k cnt kind)
  u.setCell p { u.cell p with
    frame := some ⟨k, kind, cnt, s.linkStates p k, s.tsc, s.sentTag p k cnt⟩
    due := (u.cell p).due.filter fun (d : DueChange) => d.link != k }

/-- A state in which a frame has left on the command lane. -/
def State.frameOut (s w : State) (p k cnt : Nat) : State :=
  State.emit
    (match s.commandLane p with
      | some l => w.radiate p l 0 (commandPoints (s.laneM p l) (s.sentTag p k cnt))
      | none => w)
    (.commandFrame p k cnt (s.linkStates p k) (s.sentTag p k cnt))

theorem startCommand_eq (s : State) (p k cnt : Nat) (kind : CommandKind) : s.startCommand p k cnt kind =
    if kind = .change then (s.frameOut ((s.framed p k cnt kind).bump (0x34A0 + p) 1) p k cnt).bump (0x34A0 + p) 2
    else s.frameOut ((s.framed p k cnt kind).bump (0x34A0 + p) 1) p k cnt := by
  cases kind <;> rfl

theorem frameOut_keeps (s w : State) (p k cnt : Nat) : Keeps [.out] w (s.frameOut w p k cnt) := by
  unfold State.frameOut
  cases s.commandLane p with
  | some l => exact State.emit_keeps (State.radiate_keeps (.refl _ _) p l 0 _ (by decide)) _ (by decide)
  | none => exact State.emit_keeps (.refl _ _) _ (by decide)

theorem framed_keeps (s : State) (p k cnt : Nat) (kind : CommandKind) : Keeps [.cells] s (s.framed p k cnt kind) :=
  State.setCell_keeps (s.updLink_cells p k _) p _ (by decide)

theorem framed_cell (s : State) (p k cnt : Nat) (kind : CommandKind) : (s.framed p k cnt kind).cell p =
    { (s.updLink p k (s.sentLink p k cnt kind)).cell p with
      frame := some ⟨k, kind, cnt, s.linkStates p k, s.tsc, s.sentTag p k cnt⟩
      due := ((s.updLink p k (s.sentLink p k cnt kind)).cell p).due.filter fun (d : DueChange) => d.link != k } :=
  State.cell_setCell_self ..

theorem framed_link (s : State) (p k cnt : Nat) (kind : CommandKind) :
    ((s.framed p k cnt kind).cell p).link k = s.sentLink p k cnt kind ((s.cell p).link k) := by
  rw [framed_cell]
  exact State.updLink_link_self s p k _

theorem framed_link_ne (s : State) (p k cnt : Nat) (kind : CommandKind) {j : Nat} (h : j ≠ k) :
    ((s.framed p k cnt kind).cell p).link j = (s.cell p).link j := by
  rw [framed_cell]
  exact State.updLink_link_ne s p k _ h

theorem startCommand_cells (s : State) (p k cnt : Nat) (kind : CommandKind) :
    (s.startCommand p k cnt kind).cells = (s.framed p k cnt kind).cells := by
  have hout := (frameOut_keeps s ((s.framed p k cnt kind).bump (0x34A0 + p) 1) p k cnt).frame .cells (by decide)
  rw [startCommand_eq]
  split
  · exact hout
  · exact hout

theorem startCommand_counted (s : State) (p k cnt : Nat) (kind : CommandKind) :
    Counted (keyOf (0x34A0 + p) 1 :: if kind = .change then [keyOf (0x34A0 + p) 2] else []) s (s.startCommand p k cnt kind) := by
  have hout := frameOut_keeps s ((s.framed p k cnt kind).bump (0x34A0 + p) 1) p k cnt
  have hone := ((framed_keeps s p k cnt kind).counted (0x34A0 + p) 1).keeps hout
  rw [startCommand_eq]
  split
  · refine hone.trans (State.counted_bump _ (0x34A0 + p) 2) ?_ fun x hx hold => ?_
    · exact hout.variant.trans (framed_keeps s p k cnt kind).variant
    · have := (List.mem_singleton.mp hx).symm.trans (List.mem_singleton.mp hold)
      unfold keyOf at this
      omega
  · exact hone

theorem startCommand_out (s : State) (p k cnt : Nat) (kind : CommandKind) :
    (s.startCommand p k cnt kind).out.head? = some (.commandFrame p k cnt (s.linkStates p k) (s.sentTag p k cnt)) := by
  rw [startCommand_eq]
  split
  · rfl
  · rfl

/-- A frame that starts leaves what R299, R300 and R302 say. -/
theorem startCommand_sends (s : State) (p k cnt : Nat) (kind : CommandKind) : s.Sends (s.startCommand p k cnt kind) p k kind cnt := by
  have hcell := cell_congr (startCommand_cells s p k cnt kind)
  have hlink := (congrArg (CommandCell.link · k) (hcell p)).trans (framed_link s p k cnt kind)
  refine ⟨?_, ?_, ?_, ?_, ?_, fun j hj => ?_, fun q hq => ?_, startCommand_counted .., startCommand_out ..⟩
  · rw [hcell p, framed_cell]
  · exact congrArg CommandLink.lastSent hlink
  · exact congrArg CommandLink.announced hlink
  · exact congrArg CommandLink.startAt hlink
  · exact (congrArg CommandLink.accepted hlink :)
  · rw [hcell p, framed_link_ne _ _ _ _ _ hj]
  · rw [hcell q]
    exact (State.cell_setCell_ne _ _ _ hq).trans (State.updLink_cell_ne _ _ _ _ hq)

theorem startCommand_parts (s : State) (p k cnt : Nat) (kind : CommandKind) :
    Keeps [.out, .dict, .cells] s (s.startCommand p k cnt kind) := by
  rw [startCommand_eq]
  have hone := State.bump_keeps ((framed_keeps s p k cnt kind).mono (qs := [.out, .dict, .cells])) (0x34A0 + p) 1 (by decide)
  have hout := hone.trans ((frameOut_keeps s ((s.framed p k cnt kind).bump (0x34A0 + p) 1) p k cnt).mono)
  split
  · exact State.bump_keeps hout _ _ (by decide)
  · exact hout

/-! ## The next frame -/

theorem commandNext_none (h : s.commandWants p = []) : s.commandNext p = s := by
  unfold State.commandNext
  rw [h]
  split
  · rfl
  · rfl

theorem commandNext_starts {l : List (Nat × CommandKind)} (hidle : s.commandIdle p = true) (hwants : s.commandWants p = (k, kind) :: l)
    (hcnt : s.nextCnt p k = some cnt) (hmax : cnt ≤ 0xFFFFFFFF) : s.commandNext p = s.startCommand p k cnt kind := by
  unfold State.commandNext
  rw [if_pos hidle, hwants]
  unfold State.commandNext.go
  rw [hcnt]
  exact if_pos hmax

theorem exec_commandFrameEnd_ends {f : CommandFrame} (hp : s.rst.powered = true) (hport : s.hasPort p = true) (hf : (s.cell p).frame = some f)
    (hdue : f.start + 1728000 ≤ max s.tsc t) :
    exec (.commandFrameEnd t p) s = .next (((s.upTo t).setCell p { s.cell p with frame := none }).commandNext p) := by
  show execCommandFrameEnd t p s = _
  unfold execCommandFrameEnd
  rw [State.runPort_powered hp hport]
  refine congrArg Host.Outcome.next ?_
  have hf' : ((s.upTo t).cell p).frame = some f := hf
  rw [hf']
  exact if_pos hdue

theorem exec_commandFrameEnd_early {f : CommandFrame} (hp : s.rst.powered = true) (hport : s.hasPort p = true) (hf : (s.cell p).frame = some f)
    (hearly : max s.tsc t < f.start + 1728000) : exec (.commandFrameEnd t p) s = .next (s.upTo t) := by
  show execCommandFrameEnd t p s = _
  unfold execCommandFrameEnd
  rw [State.runPort_powered hp hport]
  refine congrArg Host.Outcome.next ?_
  have hf' : ((s.upTo t).cell p).frame = some f := hf
  rw [hf']
  exact if_neg (Nat.not_le.mpr hearly)

theorem exec_heartbeat (hp : s.rst.powered = true) (hport : s.hasPort p = true) (hk : k < 8) (t : Nat) :
    exec (.heartbeat t p k) s = .next (if ((s.upTo t).settleLink p false k).heartbeatDue p k then
      ((s.upTo t).settleLink p false k).commandNext p else (s.upTo t).settleLink p false k) := by
  show execHeartbeat t p k s = _
  unfold execHeartbeat
  rw [State.runPort_powered hp hport]
  exact congrArg Host.Outcome.next (if_pos hk)

/-! ## The stores -/

theorem exec_tagStoreRefresh (hp : s.rst.powered = true) (hport : s.hasPort p = true) (hk : k < 8)
    (hsends : (s.upTo t).sendStatusOf p k = 1 ∨ (s.upTo t).sendStatusOf p k = 2) (hcnt : (s.upTo t).nextCnt p k = some cnt) :
    exec (.tagStoreRefresh t p k) s = .next ((s.upTo t).updLink p k fun x => { x with
      tags := [(cnt, (s.slot (recSlot (s.linkRec p k))).key), (cnt + 1, (s.slot (recSlot (s.linkRec p k))).key)] }) := by
  show execTagStoreRefresh t p k s = _
  unfold execTagStoreRefresh
  rw [State.runPort_powered hp hport]
  refine congrArg Host.Outcome.next ?_
  rw [if_pos ⟨hk, by omega, by omega⟩, hcnt]
  rfl

theorem exec_hypothesisTagCompute {n : Nat} (hp : s.rst.powered = true) (hport : s.hasPort p = true) (hk : k < 8)
    (hmask : s.commandMask p k 1 ≠ 0) (hused : recUsed (s.linkRec p k) = true) (hkey : s.keyGone (recSlot (s.linkRec p k)) = false)
    (hset : s.timeSet = true) (hsec : (s.upTo t).linkSeconds (recEpoch (s.linkRec p k)) = (n + 1 : Nat)) :
    exec (.hypothesisTagCompute t p k) s = .next ((s.upTo t).updLink p k fun x => { x with
      seconds := [n, n + 1, n + 2, n + 3].map fun i => (i, (s.slot (recSlot (s.linkRec p k))).key) }) := by
  show execHypothesisTagCompute t p k s = _
  unfold execHypothesisTagCompute
  rw [State.runPort_powered hp hport]
  refine congrArg Host.Outcome.next ?_
  have hsec' : (s.upTo t).linkSeconds (recEpoch ((s.upTo t).linkRec p k)) = (n + 1 : Nat) := hsec
  dsimp only
  rw [hsec', if_pos ⟨hk, hmask, hused, hkey, hset, by omega⟩]
  rfl

theorem updLink_answers {f : CommandLink → CommandLink} : Did t [.cells] s ((s.upTo t).updLink p k f) ∧
    (∀ q, q ≠ p → ((s.upTo t).updLink p k f).cell q = s.cell q) ∧
    (∀ j, j ≠ k → (((s.upTo t).updLink p k f).cell p).link j = (s.cell p).link j) ∧
    (((s.upTo t).updLink p k f).cell p).link k = f ((s.cell p).link k) :=
  ⟨.of_keeps (State.updLink_cells _ p k f) (by decide), fun _ hq => State.updLink_cell_ne _ _ _ _ hq,
    fun _ hj => State.updLink_link_ne _ _ _ _ hj, State.updLink_link_self ..⟩

end CommandFrames

/-- Settles O42: the first wish that has a counter starts its frame, and the stores are written under the slot's key. -/
theorem commandFramesComplete : Obligations.CommandFramesComplete := by
  unfold Obligations.CommandFramesComplete
  intro s t p k hs hport
  obtain ⟨-, hp⟩ := hs
  refine ⟨fun f v hf hdue hv => ?_, fun f hf hearly => ⟨_, exec_commandFrameEnd_early hp hport hf hearly, .record⟩,
    fun v hk hv => ?_, fun c hk hsends hcnt => ⟨_, exec_tagStoreRefresh hp hport hk hsends hcnt, updLink_answers (f := _)⟩,
    fun n hk hmask hused hkey hset hsec => ?_⟩
  · have hexec := exec_commandFrameEnd_ends hp hport hf hdue
    have hkeeps : Keeps [.cells] (s.upTo t) ((s.upTo t).setCell p { s.cell p with frame := none }) :=
      State.setCell_keeps (.refl _ _) p _ (by decide)
    rw [← hv] at hexec hkeeps
    refine ⟨fun hwants => ?_, fun kind l c hidle hwants hcnt hmax => ?_⟩
    · rw [commandNext_none hwants] at hexec
      subst hv
      exact ⟨_, hexec, .of_keeps hkeeps (by decide), State.cell_setCell_self .., fun q hq => State.cell_setCell_ne _ _ _ hq⟩
    · rw [commandNext_starts hidle hwants hcnt hmax] at hexec
      exact ⟨_, hexec, .of_keeps (hkeeps.mono.trans (startCommand_parts v p k c kind)) (by decide), startCommand_sends ..⟩
  · have hexec := exec_heartbeat hp hport hk t
    rw [← hv] at hexec
    refine ⟨fun hnot => ?_, fun l c hdue hidle hwants hcnt hmax => ?_⟩
    · rw [if_neg (by rw [hnot]; decide)] at hexec
      exact hexec
    · rw [if_pos hdue, commandNext_starts hidle hwants hcnt hmax] at hexec
      exact ⟨_, hexec, startCommand_sends ..⟩
  · obtain ⟨hdid, hcells, -, hlink⟩ := updLink_answers (s := s) (t := t) (p := p) (k := k) (f := fun x => { x with
      seconds := [n, n + 1, n + 2, n + 3].map fun i => (i, (s.slot (recSlot (s.linkRec p k))).key) })
    exact ⟨_, exec_hypothesisTagCompute hp hport hk hmask hused hkey hset hsec, hdid, hcells, hlink⟩

end Sys2Proof.Machine
end

section
/-! What of a command link its statuses and the trip matrix leave as received (R303-R308, R314). -/

set_option Elab.async false

namespace Sys2Proof.Machine

section Received

variable {s u v : State} {t p k : Nat}

/-- What has been accepted on a link: its states, its counter, when, and the key before. -/
def CommandLink.receipt (x : CommandLink) : Nat × Nat × Nat × Option (Nat × Nat × Nat × Nat) := (x.accepted, x.lastAccepted, x.superviseAt, x.old)

/-- What has been accepted on a link, and its receiving status. -/
def CommandLink.received (x : CommandLink) : (Nat × Nat × Nat × Option (Nat × Nat × Nat × Nat)) × Bool × Nat := (x.receipt, x.up, x.recvStatus)

/-- Every link has received what it had. -/
def SameReceived (s u : State) : Prop := ∀ q j, ((u.cell q).link j).received = ((s.cell q).link j).received

theorem SameReceived.trans (h : SameReceived s u) (k : SameReceived u v) : SameReceived s v := fun q j => (k q j).trans (h q j)

theorem SameReceived.of_cells (h : u.cells = s.cells) : SameReceived s u := fun q j => by rw [cell_congr h]

/-- A cell is written, its links as they were. -/
theorem SameReceived.setCell {x : CommandCell} (h : x.links = (s.cell p).links) : SameReceived s (s.setCell p x) := fun q j => by
  by_cases hq : q = p
  · subst hq
    rw [State.cell_setCell_self]
    unfold CommandCell.link
    rw [h]
  · rw [State.cell_setCell_ne _ _ _ hq]

theorem SameReceived.updLink {f : CommandLink → CommandLink} (h : ∀ x, (f x).received = x.received) : SameReceived s (s.updLink p k f) :=
  fun q j => by
    by_cases hq : q = p
    · subst hq
      by_cases hj : j = k
      · subst hj
        rw [State.updLink_link_self, h]
      · rw [State.updLink_link_ne _ _ _ _ hj]
    · rw [State.updLink_cell_ne _ _ _ _ hq]

theorem State.each_of_step {α : Type} {P : State → Prop} {f : State → α → State} (hf : ∀ v x, P v → P (f v x)) {s : State} (hs : P s) (l : List α) :
    P (s.each l f) := by
  unfold State.each
  induction l generalizing s with
  | nil => exact hs
  | cons x l ih => exact ih (hf s x hs)

/-- What one of the operations of a list brings about, and the others keep. -/
theorem State.each_of_mem {α : Type} {P Q : State → Prop} {f : State → α → State} {x : α} {l : List α} (hx : x ∈ l)
    (hP : ∀ v y, P v → P (f v y)) (hQ : ∀ v y, Q v → Q (f v y)) (hreach : ∀ v, P v → Q (f v x)) {s : State} (hs : P s) : Q (s.each l f) := by
  induction l generalizing s with
  | nil => exact absurd hx List.not_mem_nil
  | cons y l ih =>
    rcases List.mem_cons.mp hx with rfl | hx
    · exact State.each_of_step hQ (hreach s hs) l
    · exact ih hx (hP s y hs)

theorem SameReceived.each {α : Type} {f : State → α → State} (hf : ∀ v x, SameReceived v (f v x)) (s : State) (l : List α) :
    SameReceived s (s.each l f) :=
  State.each_of_step (P := SameReceived s) (fun v x hv => hv.trans (hf v x)) (fun _ _ => rfl) l

/-! ## The matrix -/

theorem settleOutput_cells (s : State) (n : Nat) : (s.settleOutput n).cells = s.cells := by
  rw [settleOutput_eq]
  split
  · split
    · rfl
    · rfl
  · split
    · split
      · rfl
      · rfl
    · split
      · rfl
      · rfl

theorem cutCommand_received (s : State) (p : Nat) : SameReceived s (s.cutCommand p) := by
  unfold State.cutCommand
  split
  · exact SameReceived.setCell rfl
  · exact fun _ _ => rfl

theorem changeDue_received (s : State) (p k : Nat) : SameReceived s (s.changeDue p k) := by
  have hdue : SameReceived s (s.setCell p { s.cell p with due := insertDue ⟨s.tsc, k⟩ (s.cell p).due }) := SameReceived.setCell rfl
  unfold State.changeDue
  dsimp only
  split
  · exact hdue
  · split
    · split
      · exact hdue
      · exact hdue.trans (SameReceived.of_cells rfl)
    · exact hdue.trans (cutCommand_received _ p)

theorem settleStates_received (s : State) (p k : Nat) : SameReceived s (s.settleStates p k) := by
  unfold State.settleStates
  dsimp only
  split
  · exact fun _ _ => rfl
  · split
    · split
      · exact SameReceived.setCell rfl
      · exact fun _ _ => rfl
    · split
      · exact fun _ _ => rfl
      · exact changeDue_received s p k

theorem startCommand_received (s : State) (p k cnt : Nat) (kind : CommandKind) : SameReceived s (s.startCommand p k cnt kind) := by
  have hsent : SameReceived s (s.updLink p k (s.sentLink p k cnt kind)) := SameReceived.updLink fun _ => rfl
  have hframed : SameReceived s (s.framed p k cnt kind) := hsent.trans (SameReceived.setCell rfl)
  exact hframed.trans (SameReceived.of_cells (startCommand_cells s p k cnt kind))

theorem limitLink_received (s : State) (p k : Nat) : SameReceived s (s.limitLink p k) := by
  unfold State.limitLink
  split
  · exact fun _ _ => rfl
  · have hlimited : SameReceived s (s.updLink p k fun x => { x with limited := true }) := SameReceived.updLink fun _ => rfl
    exact hlimited.trans (SameReceived.of_cells rfl)

theorem commandNext_go_received (p : Nat) : ∀ (l : List (Nat × CommandKind)) (s : State), SameReceived s (State.commandNext.go p s l)
  | [], _ => fun _ _ => rfl
  | (k, kind) :: l, s => by
    unfold State.commandNext.go
    split
    · split
      · exact startCommand_received s p k _ kind
      · exact commandNext_go_received p l s
    · exact (limitLink_received s p k).trans (commandNext_go_received p l _)

theorem commandNext_received (s : State) (p : Nat) : SameReceived s (s.commandNext p) := by
  unfold State.commandNext
  split
  · exact commandNext_go_received p _ s
  · exact fun _ _ => rfl

theorem settleMatrix_received (s : State) : SameReceived s s.settleMatrix := by
  have houtputs := SameReceived.each (fun v n => SameReceived.of_cells (settleOutput_cells v n)) s (List.range 8)
  unfold State.settleMatrix
  refine houtputs.trans (SameReceived.each (fun v p => ?_) _ _)
  have hdriven : SameReceived v (if (v.cell p).driven = v.drivenOf p then v else v.setCell p { v.cell p with driven := v.drivenOf p }) := by
    split
    · exact fun _ _ => rfl
    · exact SameReceived.setCell rfl
  exact (hdriven.trans (SameReceived.each (fun z k => settleStates_received z p k) _ _)).trans (commandNext_received _ p)

/-! ## The statuses -/

/-- A link whose two statuses are brought up to date. -/
def State.settledLink (s : State) (p k : Nat) (y : CommandLink) : CommandLink :=
  let ss := s.sendStatusOf p k
  { y with
    sendStatus := ss, recvStatus := s.recvStatusOf p k, warned := s.linkWarn p k,
    known := if ss = 0 then false else y.known || ss == 1,
    announced := if ss == 1 && !((s.cell p).link k).known then s.linkStates p k else y.announced,
    repeats := if ss = 1 then y.repeats else 0,
    spent := y.spent || ss == 5,
    limited := y.limited && ss == 1,
    tags := if ss = 4 then [] else y.tags,
    seconds := if s.keyGone (recSlot (s.linkRec p k)) then [] else y.seconds,
    up := y.up && (s.recvStatusOf p k == 1 || s.recvStatusOf p k == 2) }

theorem settleLink_link (s : State) (p : Nat) (quiet : Bool) (k : Nat) : ∃ f : CommandLink → CommandLink,
    (∀ x, (f x).receipt = x.receipt ∧ (f x).up = (x.up && (s.recvStatusOf p k == 1 || s.recvStatusOf p k == 2)) ∧
      (f x).recvStatus = s.recvStatusOf p k) ∧ SameReceived (s.updLink p k f) (s.settleLink p quiet k) := by
  unfold State.settleLink
  extract_lets x ss rs warn fresh u c w y
  refine ⟨s.settledLink p k, fun x => ⟨rfl, rfl, rfl⟩, ?_⟩
  change SameReceived u _
  have hw : SameReceived u w := by
    unfold w
    split
    · exact fun _ _ => rfl
    · exact SameReceived.setCell rfl
  have hy : SameReceived u y := by
    unfold y
    split
    · exact hw.trans (SameReceived.of_cells rfl)
    · exact hw
  split
  · exact hy.trans (SameReceived.of_cells rfl)
  · exact hy

/-- A link whose last accepted frame is too old: DOWN, its receipt as it was. -/
structure State.LinkDown (s : State) (p k : Nat) (r : Nat × Nat × Nat × Option (Nat × Nat × Nat × Nat)) : Prop where
  receipt : ((s.cell p).link k).receipt = r
  up : ((s.cell p).link k).up = false

theorem receipt_eq (h : SameReceived s u) (p k : Nat) : ((u.cell p).link k).receipt = ((s.cell p).link k).receipt := congrArg Prod.fst (h p k)

theorem up_eq (h : SameReceived s u) (p k : Nat) : ((u.cell p).link k).up = ((s.cell p).link k).up := congrArg (fun x => x.2.1) (h p k)

theorem recvStatus_eq (h : SameReceived s u) (p k : Nat) : ((u.cell p).link k).recvStatus = ((s.cell p).link k).recvStatus :=
  congrArg (fun x => x.2.2) (h p k)

theorem settleLink_receipt (s : State) (p : Nat) (quiet : Bool) (k q j : Nat) :
    (((s.settleLink p quiet k).cell q).link j).receipt = ((s.cell q).link j).receipt := by
  obtain ⟨f, hf, hsame⟩ := settleLink_link s p quiet k
  rw [receipt_eq hsame]
  by_cases hq : q = p
  · subst hq
    by_cases hj : j = k
    · subst hj
      rw [State.updLink_link_self, (hf _).1]
    · rw [State.updLink_link_ne _ _ _ _ hj]
  · rw [State.updLink_cell_ne _ _ _ _ hq]

theorem settleLinks_receipt (s : State) (quiet : Bool) (q j : Nat) :
    (((s.settleLinks quiet).cell q).link j).receipt = ((s.cell q).link j).receipt := by
  unfold State.settleLinks
  refine State.each_of_step (P := fun v => ((v.cell q).link j).receipt = ((s.cell q).link j).receipt) (fun v p hv => ?_) rfl _
  exact State.each_of_step (P := fun v => ((v.cell q).link j).receipt = ((s.cell q).link j).receipt)
    (fun w k hw => (settleLink_receipt w p quiet k q j).trans hw) hv _

/-- What has been accepted stays accepted as statuses and matrix settle. -/
theorem settleCommand_receipt (s : State) (q j : Nat) : ((s.settleCommand.cell q).link j).receipt = ((s.cell q).link j).receipt :=
  (receipt_eq (settleMatrix_received (s.settleLinks false)) q j).trans (settleLinks_receipt s false q j)

theorem settleLink_other (s : State) {p : Nat} (quiet : Bool) {k q j : Nat} (h : q ≠ p ∨ j ≠ k) :
    (((s.settleLink p quiet k).cell q).link j).received = ((s.cell q).link j).received := by
  obtain ⟨f, hf, hsame⟩ := settleLink_link s p quiet k
  rw [hsame]
  by_cases hq : q = p
  · subst hq
    rw [State.updLink_link_ne _ _ _ _ (h.resolve_left (fun hc => hc rfl))]
  · rw [State.updLink_cell_ne _ _ _ _ hq]

theorem recvStatusOf_down (h : ((s.cell p).link k).up = false) : s.recvStatusOf p k ≠ 1 := by
  unfold State.recvStatusOf
  dsimp only
  rw [h]
  split
  · decide
  · split
    · decide
    · split
      · decide
      · split
        · decide
        · decide

/-- Settling a link that is not up leaves it so, with a receiving status that is not READY. -/
theorem settleLink_down (h : ((s.cell p).link k).up = false) (quiet : Bool) :
    (((s.settleLink p quiet k).cell p).link k).up = false ∧ (((s.settleLink p quiet k).cell p).link k).recvStatus ≠ 1 := by
  obtain ⟨f, hf, hsame⟩ := settleLink_link s p quiet k
  obtain ⟨-, hup, hstatus⟩ := hf ((s.cell p).link k)
  rw [up_eq hsame, recvStatus_eq hsame, State.updLink_link_self, hup, hstatus, h]
  exact ⟨rfl, recvStatusOf_down h⟩

theorem settleLink_up (h : ((s.cell p).link k).up = false) (quiet : Bool) (q j : Nat) :
    (((s.settleLink q quiet j).cell p).link k).up = false := by
  by_cases hsame : p = q ∧ k = j
  · obtain ⟨rfl, rfl⟩ := hsame
    exact (settleLink_down h quiet).1
  · have hother := settleLink_other s quiet (p := q) (k := j) (q := p) (j := k) (by omega)
    exact (congrArg (fun x => x.2.1) hother).trans h

theorem settleLink_rests (h : ((s.cell p).link k).up = false ∧ ((s.cell p).link k).recvStatus ≠ 1) (quiet : Bool) (q j : Nat) :
    (((s.settleLink q quiet j).cell p).link k).up = false ∧ (((s.settleLink q quiet j).cell p).link k).recvStatus ≠ 1 := by
  by_cases hsame : p = q ∧ k = j
  · obtain ⟨rfl, rfl⟩ := hsame
    exact settleLink_down h.1 quiet
  · have hother := settleLink_other s quiet (p := q) (k := j) (q := p) (j := k) (by omega)
    have hstatus : (((s.settleLink q quiet j).cell p).link k).recvStatus = ((s.cell p).link k).recvStatus := congrArg (fun x => x.2.2) hother
    exact ⟨settleLink_up h.1 quiet q j, hstatus ▸ h.2⟩

theorem cell_of_not_commandPort (hport : s.hasPort p = true) (h : p ∉ s.commandPorts) : s.cell p = {} := by
  unfold State.commandPorts at h
  rw [List.mem_filter, List.mem_range, Bool.or_eq_true] at h
  have hp : p < portCount s.variant := of_decide_eq_true hport
  have hnone : Table.find s.cells p = none := by
    cases hfind : Table.find s.cells p with
    | none => rfl
    | some x => exact absurd ⟨hp, Or.inr (by rw [hfind]; rfl)⟩ h
  unfold State.cell Table.get
  rw [hnone]
  rfl

/-- A link that has gone DOWN is not READY once every status is up to date. -/
theorem settleCommand_down (hport : s.hasPort p = true) (hk : k < 8) (h : ((s.cell p).link k).up = false) :
    ((s.settleCommand.cell p).link k).up = false ∧ ((s.settleCommand.cell p).link k).recvStatus ≠ 1 := by
  have hmatrix := settleMatrix_received (s.settleLinks false)
  have hlinks : (((s.settleLinks false).cell p).link k).up = false ∧ (((s.settleLinks false).cell p).link k).recvStatus ≠ 1 := by
    unfold State.settleLinks
    by_cases hmem : p ∈ s.commandPorts
    · refine State.each_of_mem (P := fun v => ((v.cell p).link k).up = false)
        (Q := fun v => ((v.cell p).link k).up = false ∧ ((v.cell p).link k).recvStatus ≠ 1) hmem ?_ ?_ ?_ h
      · exact fun v q hv => State.each_of_step (P := fun v => ((v.cell p).link k).up = false) (fun w j hw => settleLink_up hw false q j) hv _
      · exact fun v q hv => State.each_of_step (P := fun v => ((v.cell p).link k).up = false ∧ ((v.cell p).link k).recvStatus ≠ 1)
          (fun w j hw => settleLink_rests hw false q j) hv _
      · exact fun v hv => State.each_of_mem (P := fun v => ((v.cell p).link k).up = false)
          (Q := fun v => ((v.cell p).link k).up = false ∧ ((v.cell p).link k).recvStatus ≠ 1) (List.mem_range.mpr hk)
          (fun w j hw => settleLink_up hw false p j) (fun w j hw => settleLink_rests hw false p j) (fun w hw => settleLink_down hw false) hv
    · have hcell := cell_of_not_commandPort hport hmem
      refine State.each_of_step (P := fun v => ((v.cell p).link k).up = false ∧ ((v.cell p).link k).recvStatus ≠ 1)
        (fun v q hv => State.each_of_step (P := fun v => ((v.cell p).link k).up = false ∧ ((v.cell p).link k).recvStatus ≠ 1)
          (fun w j hw => settleLink_rests hw false q j) hv _) ?_ _
      rw [hcell]
      exact ⟨rfl, show (0 : Nat) ≠ 1 by decide⟩
  have hup := up_eq hmatrix p k
  have hstatus := recvStatus_eq hmatrix p k
  exact ⟨hup.trans hlinks.1, fun hc => hlinks.2 (hstatus.symm.trans hc)⟩

theorem settleCommand_keeps_self (s : State) : Keeps [.out, .dict, .log, .routes, .cells, .trip] s s.settleCommand :=
  (settleLinks_keeps_self s false).mono.trans (settleMatrix_keeps_self _).mono

end Received

end Sys2Proof.Machine
end

section
/-! Command bodies received, supervision, and the changeover of keys (R304-R308). -/

set_option Elab.async false

namespace Sys2Proof.Machine

section CommandBodies

variable {ps : List Part} {s u v : State} {t p k l n : Nat} {c : RxCur} {chips ys : List Int} {m : Match}

/-! ## The decision on a body -/

/-- Chips of a body that are not 0. -/
def chipCount (ys : List Int) : Nat := (ys.filter fun y => y != 0).length

/-- The hypotheses that a body matches. -/
def State.bodyMatches (s : State) (p : Nat) (ys : List Int) : List Match :=
  (List.range 8).flatMap fun k => s.linkMatches p (chipSums ys) (chipCount ys) (ys.foldl (fun a y => a + y.natAbs * y.natAbs) 0) k

theorem decideBody_short (h : 2 * chipCount ys < n) : s.decideBody p n ys = (s.bump (0x34A0 + p) 0x0A, false) := by
  unfold State.decideBody
  exact if_pos h

theorem decideBody_none (hcount : n ≤ 2 * chipCount ys) (h : s.bodyMatches p ys = []) :
    s.decideBody p n ys = (s.bump (0x34A0 + p) 7, false) := by
  have hbest : bestMatch (s.bodyMatches p ys) = none := by rw [h]; rfl
  unfold State.bodyMatches chipCount at hbest
  unfold State.decideBody
  refine (if_neg (Nat.not_lt.mpr hcount)).trans ?_
  dsimp only
  rw [hbest]

theorem decideBody_two (hcount : n ≤ 2 * chipCount ys) (h : bestMatch (s.bodyMatches p ys) = some m)
    (htwo : ((s.bodyMatches p ys).any fun x => x.link != m.link || x.states != m.states) = true) :
    s.decideBody p n ys = (s.bump (0x34A0 + p) 8, false) := by
  unfold State.bodyMatches chipCount at h htwo
  unfold State.decideBody
  refine (if_neg (Nat.not_lt.mpr hcount)).trans ?_
  dsimp only
  rw [h]
  exact if_pos htwo

theorem decideBody_one (hcount : n ≤ 2 * chipCount ys) (h : bestMatch (s.bodyMatches p ys) = some m)
    (hone : ∀ x ∈ s.bodyMatches p ys, x.link = m.link ∧ x.states = m.states) :
    s.decideBody p n ys = (s.acceptCommand p m, true) := by
  have hany : ¬ ((s.bodyMatches p ys).any fun x => x.link != m.link || x.states != m.states) = true := by
    rw [List.any_eq_true]
    rintro ⟨x, hx, hne⟩
    obtain ⟨hlink, hstates⟩ := hone x hx
    rw [hlink, hstates, bne_self_eq_false, bne_self_eq_false] at hne
    exact Bool.noConfusion hne
  unfold State.bodyMatches chipCount at h hany
  unfold State.decideBody
  refine (if_neg (Nat.not_lt.mpr hcount)).trans ?_
  dsimp only
  rw [h]
  exact if_neg hany

/-! ## The command -/

/-- The path of a lane once a command body has been decided. -/
def LaneRx.decided (now : Nat) (x : LaneRx) : LaneRx := { x with state := .search, cur := none, searchAt := now }

theorem exec_commandBodyCheck (hp : s.rst.powered = true) (hport : s.hasPort p = true) (hlane : s.commandLane p = some l)
    (hstate : (s.lane p l).rx.state = .header) (hcur : (s.lane p l).rx.cur = some c) (hn : n = 4 * dataCarriers 1 (s.laneM p l))
    (hys : ys = (bodySoft c n chips).take n) :
    (∀ v, (s.upTo t).decideBody p n ys = (v, false) → exec (.commandBodyCheck t p chips) s = .next (v.headerFails p l c 2)) ∧
    ∀ v, (s.upTo t).decideBody p n ys = (v, true) →
      (((v.lbump p l 0x2014 5).updRx p l (LaneRx.decided (max s.tsc t))).lane p l).rx.slot = none →
      exec (.commandBodyCheck t p chips) s = .next ((v.lbump p l 0x2014 5).updRx p l (LaneRx.decided (max s.tsc t))) := by
  subst hn hys
  have hlane' : (s.upTo t).commandLane p = some l := hlane
  have hcur' : ((s.upTo t).lane p l).rx.cur = some c := hcur
  have hstate' : ((s.upTo t).lane p l).rx.state = .header := hstate
  refine ⟨fun v hv => ?_, fun v hv hslot => ?_⟩
  all_goals
    show execCommandBodyCheck t p chips s = _
    unfold execCommandBodyCheck
    rw [State.runPort_powered hp hport]
    refine congrArg Host.Outcome.next ?_
    have hv' : (s.upTo t).decideBody p (4 * dataCarriers 1 ((s.upTo t).laneM p l))
      ((bodySoft c (4 * dataCarriers 1 ((s.upTo t).laneM p l)) chips).take (4 * dataCarriers 1 ((s.upTo t).laneM p l))) = _ := hv
    simp only [hlane', hcur', hstate', hv']
  · rfl
  · unfold LaneRx.decided at hslot
    have hslot' : (((v.lbump p l 0x2014 5).updRx p l fun x =>
      { x with state := .search, cur := none, searchAt := (s.upTo t).tsc }).lane p l).rx.slot = none := hslot
    simp only [if_true, hslot']
    rfl

theorem commandLane_lt (h : s.commandLane p = some l) : l < 4 := by
  unfold State.commandLane firstBelow at h
  exact List.mem_range.mp (List.mem_of_find?_eq_some h)

theorem laneKey_ne_command (hport : s.hasPort p = true) (hl : l < 4) {c : Nat} (hc : c < 256) (i : Nat) :
    laneKey p l 0x2014 c ≠ keyOf (0x34A0 + p) i := by
  have hp : p < portCount s.variant := of_decide_eq_true hport
  have := portCount_le s.variant
  unfold laneKey keyOf
  omega

/-- A body that is no command leaves its header failed. -/
theorem commandBodyCheck_fails (hp : s.rst.powered = true) (hport : s.hasPort p = true) (hlane : s.commandLane p = some l)
    (hstate : (s.lane p l).rx.state = .header) (hcur : (s.lane p l).rx.cur = some c) (hslot : (s.lane p l).rx.slot = none)
    (hn : n = 4 * dataCarriers 1 (s.laneM p l)) (hys : ys = (bodySoft c n chips).take n) {i : Nat}
    (hdecide : (s.upTo t).decideBody p n ys = ((s.upTo t).bump (0x34A0 + p) i, false)) :
    ∃ u, exec (.commandBodyCheck t p chips) s = .next u ∧ Did t [.dict, .lanes] s u ∧ (u.lane p l).rx.state = .rearm ∧
      Counted [keyOf (0x34A0 + p) i, laneKey p l 0x2014 2] s u := by
  have hl := commandLane_lt hlane
  have hexec := (exec_commandBodyCheck (t := t) hp hport hlane hstate hcur hn hys).1 _ hdecide
  obtain ⟨hkeeps, hcount, hrest, -⟩ := headerFails_empty (s := (s.upTo t).bump (0x34A0 + p) i) hslot hl c 2
  have hbump : Keeps [.dict, .lanes] (s.upTo t) ((s.upTo t).bump (0x34A0 + p) i) := State.bump_keeps (.refl _ _) _ _ (by decide)
  refine ⟨_, hexec, .of_keeps (hbump.trans hkeeps.mono) (by decide), (congrArg (fun x : Lane => x.rx.state) hrest :), ?_⟩
  refine ((s.upTo t).counted_bump (0x34A0 + p) i).trans hcount rfl fun x hx hold => ?_
  exact laneKey_ne_command hport hl (by decide) i ((List.mem_singleton.mp hx).symm.trans (List.mem_singleton.mp hold))

/-- A link that has accepted a frame under its own key. -/
def CommandLink.accepting (now : Nat) (m : Match) (y : CommandLink) : CommandLink :=
  { y with lastAccepted := m.cnt, old := none, accepted := m.states, superviseAt := now, up := true }

theorem acceptCommand_replay (hold : m.old = false) (h : m.cnt ≤ ((s.cell p).link m.link).lastAccepted) :
    s.acceptCommand p m = s.bump (0x34A0 + p) 9 := by
  unfold State.acceptCommand
  simp only [hold, Bool.false_eq_true, if_false]
  exact if_pos h

theorem acceptCommand_new (hold : m.old = false) (h : ((s.cell p).link m.link).lastAccepted < m.cnt) :
    s.acceptCommand p m = ((s.updLink p m.link (CommandLink.accepting s.tsc m)).bump (0x34A0 + p) 6).settleCommand := by
  unfold State.acceptCommand
  simp only [hold, Bool.false_eq_true, if_false]
  exact if_neg (Nat.not_le.mpr h)

/-- A body that is decided leaves its lane searching. -/
theorem commandBodyCheck_decided (hp : s.rst.powered = true) (hport : s.hasPort p = true) (hlane : s.commandLane p = some l)
    (hstate : (s.lane p l).rx.state = .header) (hcur : (s.lane p l).rx.cur = some c) (hslot : (s.lane p l).rx.slot = none)
    (hn : n = 4 * dataCarriers 1 (s.laneM p l)) (hys : ys = (bodySoft c n chips).take n)
    (hdecide : (s.upTo t).decideBody p n ys = (v, true)) (hkeeps : Keeps ps (s.upTo t) v) (hps : Part.lanes ∉ ps) :
    ∃ u, exec (.commandBodyCheck t p chips) s = .next u ∧ Keeps [.dict, .lanes] v u ∧ (u.lane p l).rx.state = .search ∧
      (u.lane p l).rx.cur = none ∧ Counted [laneKey p l 0x2014 5] v u := by
  have hl := commandLane_lt hlane
  have hlaned := (((Laned.refl (s.upTo t) p l).keeps hkeeps hps).lbump 0x2014 5).updRx hl (LaneRx.decided (max s.tsc t))
  have hexec := (exec_commandBodyCheck (t := t) hp hport hlane hstate hcur hn hys).2 v hdecide
    ((congrArg (fun x : Lane => x.rx.slot) hlaned.1).trans hslot)
  have hrx := updRx_keeps_self (v.lbump p l 0x2014 5) p l (LaneRx.decided (max s.tsc t))
  exact ⟨_, hexec, (lbumpN_keeps_self v p l 0x2014 5 1).mono.trans hrx.mono, congrArg (fun x : Lane => x.rx.state) hlaned.1,
    congrArg (fun x : Lane => x.rx.cur) hlaned.1, (v.counted_lbump p l 0x2014 5).keeps hrx⟩

/-! ## Supervision and changeover -/

theorem exec_supervisionTimeout (hp : s.rst.powered = true) (hport : s.hasPort p = true) (t : Nat) : exec (.supervisionTimeout t p k) s =
    .next (if k < 8 ∧ ((s.cell p).link k).up ∧ ((s.cell p).link k).superviseAt + s.val 0x3400 3 * 1000000 ≤ max s.tsc t then
      ((s.upTo t).updLink p k fun y => { y with up := false }).settleCommand else s.upTo t) := by
  show execSupervisionTimeout t p k s = _
  unfold execSupervisionTimeout
  rw [State.runPort_powered hp hport]
  rfl

theorem exec_rekeyChangeoverEnd {a b c e : Nat} (hp : s.rst.powered = true) (hport : s.hasPort p = true)
    (hold : ((s.cell p).link k).old = some (a, b, c, e)) (t : Nat) : exec (.rekeyChangeoverEnd t p k) s =
    .next (if e ≤ max s.tsc t / 40000 then ((s.upTo t).updLink p k fun x => { x with old := none }).settleCommand else s.upTo t) := by
  show execRekeyChangeoverEnd t p k s = _
  unfold execRekeyChangeoverEnd
  rw [State.runPort_powered hp hport]
  refine congrArg Host.Outcome.next ?_
  have hold' : (((s.upTo t).cell p).link k).old = some (a, b, c, e) := hold
  rw [hold']
  rfl

theorem updLink_settled_keeps (s : State) (p k : Nat) (f : CommandLink → CommandLink) :
    Keeps [.out, .dict, .log, .routes, .cells, .trip] s (s.updLink p k f).settleCommand :=
  (s.updLink_cells p k f).mono.trans (settleCommand_keeps_self _)

theorem receipt_fields {x y : CommandLink} (h : x.receipt = y.receipt) :
    x.accepted = y.accepted ∧ x.lastAccepted = y.lastAccepted ∧ x.superviseAt = y.superviseAt ∧ x.old = y.old := by
  simpa only [CommandLink.receipt, Prod.mk.injEq] using h

theorem updLink_settled_receipt (s : State) (p k : Nat) (f : CommandLink → CommandLink) :
    (((s.updLink p k f).settleCommand.cell p).link k).receipt = (f ((s.cell p).link k)).receipt := by
  rw [settleCommand_receipt, State.updLink_link_self]

end CommandBodies

/-- Settles O43: a decision on a body is one of five, and what is accepted stays accepted as statuses and matrix settle. -/
theorem commandReceiptCompletes : Obligations.CommandReceiptCompletes := by
  unfold Obligations.CommandReceiptCompletes
  intro s t p hs hport
  obtain ⟨-, hp⟩ := hs
  refine ⟨fun l c chips n ys hlane hstate hcur hslot hn hys => ⟨fun hshort => ?_, fun ms hcount hms => ?_⟩,
    fun k hk hup => ⟨fun hdue => ?_, fun hearly => ?_⟩, fun k a b c e hk hold => ⟨fun hover => ?_, fun hlater => ?_⟩⟩
  · exact commandBodyCheck_fails hp hport hlane hstate hcur hslot hn hys (decideBody_short hshort)
  · have hbody : ms = (s.upTo t).bodyMatches p ys := hms
    rw [hbody]
    refine ⟨fun hnone => ?_, fun m hbest htwo => ?_, fun m hbest hone hnew => ⟨fun hreplay => ?_, fun hhigher => ?_⟩⟩
    · exact commandBodyCheck_fails hp hport hlane hstate hcur hslot hn hys (decideBody_none hcount hnone)
    · exact commandBodyCheck_fails hp hport hlane hstate hcur hslot hn hys (decideBody_two hcount hbest htwo)
    · have hdecide := decideBody_one hcount hbest hone
      rw [acceptCommand_replay (s := s.upTo t) hnew hreplay] at hdecide
      have hbump : Keeps [.dict] (s.upTo t) ((s.upTo t).bump (0x34A0 + p) 9) := State.bump_keeps (.refl _ _) _ _ (by decide)
      obtain ⟨u, hexec, hkeeps, hsearch, -, hcounted⟩ :=
        commandBodyCheck_decided hp hport hlane hstate hcur hslot hn hys hdecide hbump (by decide)
      refine ⟨u, hexec, .of_keeps (hbump.mono.trans hkeeps) (by decide), hsearch, ?_⟩
      refine ((s.upTo t).counted_bump (0x34A0 + p) 9).trans hcounted rfl fun x hx hold => ?_
      exact laneKey_ne_command hport (commandLane_lt hlane) (by decide) 9 ((List.mem_singleton.mp hx).symm.trans (List.mem_singleton.mp hold))
    · have hdecide := decideBody_one hcount hbest hone
      rw [acceptCommand_new (s := s.upTo t) hnew hhigher] at hdecide
      have hsettled : Keeps [.out, .dict, .log, .routes, .cells, .trip] (s.upTo t)
          (((s.upTo t).updLink p m.link (CommandLink.accepting (s.upTo t).tsc m)).bump (0x34A0 + p) 6).settleCommand :=
        (State.bump_keeps ((s.upTo t).updLink_cells p m.link _).mono (0x34A0 + p) 6 (by decide)).trans (settleCommand_keeps_self _)
      obtain ⟨u, hexec, hkeeps, hsearch, hcur', -⟩ :=
        commandBodyCheck_decided hp hport hlane hstate hcur hslot hn hys hdecide hsettled (by decide)
      have hreceipt : ((u.cell p).link m.link).receipt = (CommandLink.accepting (max s.tsc t) m ((s.cell p).link m.link)).receipt := by
        rw [cell_congr (hkeeps.frame .cells (by decide)), settleCommand_receipt, State.bump_cell, State.updLink_link_self]
        rfl
      exact ⟨u, hexec, .of_keeps (hsettled.mono.trans hkeeps.mono) (by decide), hsearch, hcur', receipt_fields hreceipt⟩
  · have hexec := exec_supervisionTimeout (k := k) hp hport t
    rw [if_pos ⟨hk, hup, hdue⟩] at hexec
    obtain ⟨hstates, -⟩ := receipt_fields (updLink_settled_receipt (s.upTo t) p k fun y => { y with up := false })
    obtain ⟨hdown, hstatus⟩ := settleCommand_down (s := (s.upTo t).updLink p k fun y => { y with up := false }) (p := p) hport hk
      (by rw [State.updLink_link_self])
    exact ⟨_, hexec, .of_keeps (updLink_settled_keeps ..) (by decide), hdown, hstates, hstatus⟩
  · have hexec := exec_supervisionTimeout (k := k) hp hport t
    rw [if_neg fun hc => absurd hc.2.2 (Nat.not_le.mpr hearly)] at hexec
    exact ⟨_, hexec, .record⟩
  · have hexec := exec_rekeyChangeoverEnd hp hport hold t
    rw [if_pos hover] at hexec
    obtain ⟨-, hlast, -, hnone⟩ := receipt_fields (updLink_settled_receipt (s.upTo t) p k fun x => { x with old := none })
    exact ⟨_, hexec, .of_keeps (updLink_settled_keeps ..) (by decide), hnone, hlast⟩
  · have hexec := exec_rekeyChangeoverEnd hp hport hold t
    rw [if_neg (Nat.not_le.mpr hlater)] at hexec
    exact ⟨_, hexec, .record⟩

end Sys2Proof.Machine
end

section
/-! The ends of cipher jobs: a failure, a completion, and what they leave of jobs, slots and pages (R333-R337, R342, R343). -/

set_option Elab.async false

namespace Sys2Proof.Machine

section CipherJobEnds

variable {ps : List Part} {s u v : State} {t n f : Nat} {j : CipherJob} {d : CipherDesc}

/-! ## Jobs -/

/-- A state without a job. -/
def State.withoutJob (s : State) (n : Nat) : State := { s with cipher := { s.cipher with jobs := Table.erase s.cipher.jobs n } }

theorem withoutJob_keeps (s : State) (n : Nat) : Keeps [.cipher] s (s.withoutJob n) :=
  Keeps.record (.refl _ s) rfl rfl rfl rfl rfl rfl rfl rfl rfl rfl rfl rfl rfl rfl rfl rfl rfl rfl rfl

theorem setJob_keeps_self (s : State) (n : Nat) (j : CipherJob) : Keeps [.cipher] s (s.setJob n j) :=
  Keeps.record (.refl _ s) rfl rfl rfl rfl rfl rfl rfl rfl rfl rfl rfl rfl rfl rfl rfl rfl rfl rfl rfl

/-- A job has gone, the others and the slots as they were. -/
structure JobGone (n : Nat) (s u : State) : Prop where
  gone : u.job n = none
  others : ∀ k, k ≠ n → u.job k = s.job k
  slots : u.cipher.slots = s.cipher.slots

theorem JobGone.of_cipher (h : u.cipher = { s.cipher with jobs := Table.erase s.cipher.jobs n }) : JobGone n s u := by
  refine ⟨?_, fun k hk => ?_, ?_⟩
  · unfold State.job
    rw [h]
    exact Table.find_erase_self _ _
  · unfold State.job
    rw [h]
    exact Table.find_erase_ne _ hk
  · rw [h]

/-! ## Completions -/

/-- A state in which the completion of a job is posted but not yet counted. -/
def State.donePosted (s : State) (j : CipherJob) (status outLen : Nat) (unverified : Bool) : State :=
  let d := toLE 4 j.desc.jobTag ++ toLE 2 status ++ toLE 1 (ofBool unverified + if j.units > 1 then 2 else 0) ++ toLE 1 j.units
    ++ toLE 4 outLen ++ toLE 4 0 ++ toLE 8 (j.invoc.getD 0xFFFFFFFFFFFFFFFF) ++ toLE 8 s.tsc
  if j.page < 64 then s.postRing j.page 5 d else s.emit (.hostWrite j.page 5 0 d)

theorem postDone_eq (s : State) (j : CipherJob) (status outLen : Nat) (unverified : Bool) :
    s.postDone j status outLen unverified = (s.donePosted j status outLen unverified).bump 0x4010 (if status = 0 then 1 else 2) := rfl

theorem donePosted_keeps (s : State) (j : CipherJob) (status outLen : Nat) (unverified : Bool) :
    Keeps [.out, .pages] s (s.donePosted j status outLen unverified) :=
  Keeps.ite (State.postRing_keeps (.refl _ s) _ _ _ (by decide) (by decide)) (State.emit_keeps (.refl _ s) _ (by decide))

theorem postDone_cipher (s : State) (j : CipherJob) (status outLen : Nat) (unverified : Bool) :
    (s.postDone j status outLen unverified).cipher = s.cipher := (donePosted_keeps s j status outLen unverified).frame .cipher (by decide)

theorem postDone_counted (s : State) (j : CipherJob) (status outLen : Nat) (unverified : Bool) :
    Counted [keyOf 0x4010 (if status = 0 then 1 else 2)] s (s.postDone j status outLen unverified) :=
  (donePosted_keeps s j status outLen unverified).counted 0x4010 _

theorem postDone_keeps_self (s : State) (j : CipherJob) (status outLen : Nat) (unverified : Bool) :
    Keeps [.out, .dict, .pages] s (s.postDone j status outLen unverified) :=
  State.postDone_keeps (.refl _ s) j status outLen unverified (by decide) (by decide) (by decide)

theorem mem_out_postRing {o : Out} (h : o ∈ s.out) (f k : Nat) (data : Bytes) : o ∈ (s.postRing f k data).out := by
  unfold State.postRing
  dsimp only
  split
  · split
    · exact List.mem_cons_of_mem _ (List.mem_cons_of_mem _ h)
    · exact List.mem_cons_of_mem _ h
  · exact h

/-- What has been written out stays so through a completion. -/
theorem mem_out_postDone {o : Out} (h : o ∈ s.out) (j : CipherJob) (status outLen : Nat) (unverified : Bool) :
    o ∈ (s.postDone j status outLen unverified).out := by
  rw [postDone_eq, State.bump_out]
  unfold State.donePosted
  dsimp only
  by_cases hpage : j.page < 64
  · rw [if_pos hpage]
    exact mem_out_postRing h _ _ _
  · rw [if_neg hpage]
    exact List.mem_cons_of_mem _ h

theorem mem_out_writeOut (s : State) (j : CipherJob) {data : Bytes} (h : data ≠ []) :
    Out.hostWrite j.page 255 j.desc.dst data ∈ (s.writeOut j data).out := by
  unfold State.writeOut
  rw [if_neg h]
  exact List.mem_cons_self

theorem writeOut_keeps_self (s : State) (j : CipherJob) (data : Bytes) : Keeps [.out] s (s.writeOut j data) :=
  State.writeOut_keeps (.refl _ s) j data (by decide)

theorem writeOut_page (s : State) (j : CipherJob) (data : Bytes) (g : Nat) : (s.writeOut j data).page g = s.page g :=
  congrArg (Table.get ({} : Page) · g) ((writeOut_keeps_self s j data).frame .pages (by decide))

/-- A page whose ring took a completion. -/
def Page.ended (x : Page) : Page :=
  if (x.ring 5).enable then x.setRing 5 { x.ring 5 with prod := ((x.ring 5).prod + 1) % (x.ring 5).size } else x

theorem Page.ended_ctx (x : Page) (k : Nat) : x.ended.ctx k = x.ctx k := by
  unfold Page.ended
  split
  · rfl
  · rfl

theorem Page.ended_ring_ne (x : Page) {k : Nat} (h : k ≠ 5) : x.ended.ring k = x.ring k := by
  unfold Page.ended
  split
  · exact x.ring_setRing_ne _ h
  · rfl

theorem Page.ended_prod (x : Page) (h : (x.ring 5).enable = true) : (x.ended.ring 5).prod = ((x.ring 5).prod + 1) % (x.ring 5).size := by
  unfold Page.ended
  rw [if_pos h, Page.ring_setRing_self]

theorem postDone_page (s : State) (j : CipherJob) (status outLen : Nat) (unverified : Bool) :
    (s.postDone j status outLen unverified).page j.page = if j.page < 64 then (s.page j.page).ended else s.page j.page := by
  rw [postDone_eq, State.bump_page]
  unfold State.donePosted
  dsimp only
  by_cases hpage : j.page < 64
  · rw [if_pos hpage, if_pos hpage]
    exact s.postRing_page j.page 5 _
  · rw [if_neg hpage, if_neg hpage]
    rfl

theorem postDone_ctx (s : State) (j : CipherJob) (status outLen : Nat) (unverified : Bool) (k : Nat) :
    ((s.postDone j status outLen unverified).page j.page).ctx k = (s.page j.page).ctx k := by
  rw [postDone_page]
  split
  · exact Page.ended_ctx _ k
  · rfl

/-! ## A job fails -/

/-- A state in which a failing job has gone, but not yet its completion. -/
def State.jobFailing (s : State) (n : Nat) (j : CipherJob) (status : Nat) : State :=
  let u := if j.started then (s.withoutJob n).closeCtx j.page j.desc.ctx else (s.withoutJob n).consumeRing j.page 4
  if zeroes status then u.writeOut j (List.replicate (outArea j.desc) 0) else u

theorem failJob_eq (s : State) (n : Nat) (j : CipherJob) (status : Nat) :
    s.failJob n j status = (s.jobFailing n j status).postDone j status 0 false := rfl

theorem jobFailing_keeps (s : State) (n : Nat) (j : CipherJob) (status : Nat) :
    Keeps [.out, .pages] (s.withoutJob n) (s.jobFailing n j status) := by
  have hpage : Keeps [.out, .pages] (s.withoutJob n)
      (if j.started then (s.withoutJob n).closeCtx j.page j.desc.ctx else (s.withoutJob n).consumeRing j.page 4) :=
    Keeps.ite (State.closeCtx_keeps (.refl _ _) _ _ (by decide)) (State.consumeRing_keeps (.refl _ _) _ _ (by decide))
  exact Keeps.ite (State.writeOut_keeps hpage j _ (by decide)) hpage

theorem failJob_cipher (s : State) (n : Nat) (j : CipherJob) (status : Nat) :
    (s.failJob n j status).cipher = { s.cipher with jobs := Table.erase s.cipher.jobs n } := by
  rw [failJob_eq, postDone_cipher]
  exact (jobFailing_keeps s n j status).frame .cipher (by decide)

theorem failJob_gone (s : State) (n : Nat) (j : CipherJob) (status : Nat) : JobGone n s (s.failJob n j status) :=
  .of_cipher (failJob_cipher s n j status)

theorem failJob_counted (s : State) (n : Nat) (j : CipherJob) (status : Nat) :
    Counted [keyOf 0x4010 (if status = 0 then 1 else 2)] s (s.failJob n j status) := by
  have hkeeps : Keeps [.out, .pages, .cipher] s (s.jobFailing n j status) := (withoutJob_keeps s n).mono.trans (jobFailing_keeps s n j status).mono
  exact (hkeeps.trans (donePosted_keeps _ j status 0 false).mono).counted 0x4010 _

theorem failJob_keeps_self (s : State) (n : Nat) (j : CipherJob) (status : Nat) : Keeps [.out, .dict, .pages, .cipher] s (s.failJob n j status) :=
  State.failJob_keeps (.refl _ s) n j status (by decide) (by decide) (by decide) (by decide)

theorem failJob_zeroes {status : Nat} (hzeroes : zeroes status = true) (harea : 0 < outArea j.desc) (s : State) (n : Nat) :
    Out.hostWrite j.page 255 j.desc.dst (List.replicate (outArea j.desc) 0) ∈ (s.failJob n j status).out := by
  rw [failJob_eq]
  refine mem_out_postDone ?_ j status 0 false
  unfold State.jobFailing
  rw [if_pos hzeroes]
  refine mem_out_writeOut _ j fun h => ?_
  have := congrArg List.length h
  rw [List.length_replicate, List.length_nil] at this
  omega

/-- A page whose JOBQ entry has been taken. -/
def Page.jobTaken (x : Page) : Page := x.setRing 4 { x.ring 4 with cons := ((x.ring 4).cons + 1) % (x.ring 4).size }

/-- A job not yet started leaves its entries of both rings, the completion posted. -/
theorem failJob_page (hstart : j.started = false) (hpage : j.page < 64) (s : State) (n status : Nat) :
    (s.failJob n j status).page j.page = (s.page j.page).jobTaken.ended := by
  rw [failJob_eq, postDone_page, if_pos hpage]
  refine congrArg Page.ended ?_
  have hconsumed : ((s.withoutJob n).consumeRing j.page 4).page j.page = (s.page j.page).jobTaken := by
    unfold State.consumeRing
    rw [if_pos hpage]
    exact State.page_setPage_self _ _ _
  unfold State.jobFailing
  rw [if_neg (show ¬ j.started = true by rw [hstart]; decide)]
  split
  · rw [writeOut_page]
    exact hconsumed
  · exact hconsumed

theorem Page.jobTaken_ring_ne (x : Page) {k : Nat} (h : k ≠ 4) : x.jobTaken.ring k = x.ring k := x.ring_setRing_ne _ h

theorem Page.jobTaken_bad (x : Page) : (x.jobTaken.ring 4).badDesc = (x.ring 4).badDesc := by
  unfold Page.jobTaken
  rw [Page.ring_setRing_self]

/-! ## A job completes -/

theorem finishJob_single {input aad : Bytes} {r : CipherResult} (hctx : j.desc.ctx = 0xFF)
    (hr : r = cipherResult j (aad.take j.desc.aadLen) [] (slice input 0 j.desc.len) (slice input j.desc.len j.desc.tagLen)) (s : State) (n : Nat) :
    (r.status = 0 → s.finishJob n j input aad = ((s.withoutJob n).writeOut j r.data).postDone j r.status r.data.length r.unverified) ∧
    (r.status = 0x0200 → s.finishJob n j input aad = (s.bump 0x4010 (if j.onFail then 4 else 3)).failJob n j r.status) := by
  have hmulti : ¬ j.desc.ctx < 4 := by omega
  have hres : cipherResult j (if (decide (j.desc.ctx < 4) && !j.desc.first) = true then ((s.page j.page).ctx j.desc.ctx).aad
      else aad.take j.desc.aadLen) (if decide (j.desc.ctx < 4) = true then ((s.page j.page).ctx j.desc.ctx).input else [])
      (slice input 0 j.desc.len) (slice input j.desc.len j.desc.tagLen) = r := by
    rw [decide_eq_false hmulti, hr]
    rfl
  refine ⟨fun hstatus => ?_, fun hstatus => ?_⟩
  all_goals
    unfold State.finishJob
    dsimp only
    rw [hres, hstatus]
  · rw [decide_eq_false hmulti]
    rfl
  · rfl

/-- The context of a part that has completed. -/
def partCtx (d : CipherDesc) (c : CipherCtx) (p a : Bytes) : CipherCtx :=
  if d.last = true then {} else { c with running := false, input := c.input ++ p, aad := a }

theorem finishJob_part {input aad a : Bytes} {r : CipherResult} {c : CipherCtx} (hctx : j.desc.ctx < 4)
    (hc : c = (s.page j.page).ctx j.desc.ctx) (ha : a = if j.desc.first = true then aad.take j.desc.aadLen else c.aad)
    (hr : r = cipherResult j a c.input (slice input 0 j.desc.len) (slice input j.desc.len j.desc.tagLen)) (hstatus : r.status = 0) (n : Nat) :
    s.finishJob n j input aad =
      (((s.withoutJob n).setCtx j.page j.desc.ctx (partCtx j.desc c (slice input 0 j.desc.len) a)).writeOut j r.data).postDone j r.status
        r.data.length r.unverified := by
  have haad : (if (decide (j.desc.ctx < 4) && !j.desc.first) = true then ((s.page j.page).ctx j.desc.ctx).aad else aad.take j.desc.aadLen) = a := by
    rw [decide_eq_true hctx, ha, hc]
    cases j.desc.first <;> rfl
  have hres : cipherResult j a (if decide (j.desc.ctx < 4) = true then ((s.page j.page).ctx j.desc.ctx).input else [])
      (slice input 0 j.desc.len) (slice input j.desc.len j.desc.tagLen) = r := by
    rw [decide_eq_true hctx, hr, hc]
    rfl
  have hclose : ∀ w : State, w.closeCtx j.page j.desc.ctx = w.setCtx j.page j.desc.ctx {} := fun w => if_pos hctx
  unfold State.finishJob
  dsimp only
  rw [haad, hres, hstatus, decide_eq_true hctx, hclose, ← hc]
  unfold partCtx
  cases j.desc.last <;> rfl

theorem setCtx_ctx (s : State) (f k : Nat) (c : CipherCtx) : ((s.setCtx f k c).page f).ctx k = c := by
  unfold State.setCtx
  rw [State.page_setPage_self]
  exact Table.get_put_self _ _ _

end CipherJobEnds

end Sys2Proof.Machine
end

section
/-! Cipher jobs: their fetch, their segments, and the test of a core (R321, R333-R345). -/

set_option Elab.async false

namespace Sys2Proof.Machine

section CipherJobs

variable {ps : List Part} {s u v : State} {t n f core unit : Nat} {j : CipherJob} {d : CipherDesc} {input aad : Bytes}

/-! ## The fetch -/

/-- A job as it is fetched. -/
def State.fetched (s : State) (f : Nat) (d : CipherDesc) : CipherJob :=
  { page := f, desc := d, onFail := (s.page f).onFail, fetched := s.tsc, started := false, key := [], generation := 0, invoc := none, iv := [],
    mode := 0, segments := segCount d.op d.len, granted := 0, finished := 0, units := 0, refused := s.cipherRefusal f d (s.page f).onFail }

/-- A state with a fetched job. -/
def State.withFetched (s : State) (f : Nat) (d : CipherDesc) : State :=
  { s with cipher := { s.cipher with jobs := Table.insert s.cipher.jobs s.cipher.nextJob (s.fetched f d), nextJob := s.cipher.nextJob + 1 } }

/-- A page whose JOBQ is marked for a descriptor that breaks its encoding. -/
def Page.jobMarked (x : Page) : Page := x.setRing 4 { x.ring 4 with badDesc := true }

/-- A state in which the refusal of a descriptor has marked its ring. -/
def State.jobMarked (s : State) (f e : Nat) : State := if e = acRange ∧ f < 64 then s.setPage f (s.page f).jobMarked else s

theorem takeCipher_accepted (h : s.cipherRefusal f d (s.page f).onFail = none) : s.takeCipher f d false = s.withFetched f d := by
  unfold State.takeCipher
  dsimp only
  rw [h, if_neg (fun hc => nomatch hc.1)]
  unfold State.withFetched State.fetched
  rw [h]
  rfl

theorem takeCipher_refused {e : Nat} (h : s.cipherRefusal f d (s.page f).onFail = some e) : s.takeCipher f d false =
    if ((s.withFetched f d).jobMarked f e).ctxWaits s.cipher.nextJob f d.ctx then (s.withFetched f d).jobMarked f e
    else ((s.withFetched f d).jobMarked f e).refuseJob s.cipher.nextJob (s.fetched f d) e := by
  have hmark : (if (some e : Option Nat) = some acRange ∧ f < 64 then (s.withFetched f d).setPage f ((s.withFetched f d).page f).jobMarked
      else s.withFetched f d) = (s.withFetched f d).jobMarked f e := by
    unfold State.jobMarked
    by_cases he : e = acRange ∧ f < 64
    · rw [if_pos he, if_pos ⟨congrArg some he.1, he.2⟩]
    · rw [if_neg he, if_neg fun hc => he ⟨Option.some.inj hc.1, hc.2⟩]
  rw [← hmark]
  unfold State.takeCipher
  dsimp only
  unfold State.withFetched State.fetched
  rw [h]
  rfl

theorem withFetched_job (s : State) (f : Nat) (d : CipherDesc) : (s.withFetched f d).job s.cipher.nextJob = some (s.fetched f d) :=
  Table.find_insert_self _ _ _

theorem withFetched_job_ne (s : State) (f : Nat) (d : CipherDesc) {k : Nat} (h : k ≠ s.cipher.nextJob) : (s.withFetched f d).job k = s.job k :=
  Table.find_insert_ne _ _ h

theorem withFetched_keeps (s : State) (f : Nat) (d : CipherDesc) : Keeps [.cipher] s (s.withFetched f d) :=
  Keeps.record (.refl _ s) rfl rfl rfl rfl rfl rfl rfl rfl rfl rfl rfl rfl rfl rfl rfl rfl rfl rfl rfl

theorem jobMarked_keeps (s : State) (f e : Nat) : Keeps [.pages] s (s.jobMarked f e) :=
  Keeps.ite (State.setPage_keeps (.refl _ s) f _ (by decide)) (.refl _ s)

theorem Table.any_insert {α : Type} {P : Nat × α → Bool} {k : Nat} (hP : ∀ w, P (k, w) = false) (t : Table α) (v : α) :
    (Table.insert t k v).any P = t.any P := by
  induction t with
  | nil => simp only [Table.insert, List.any_cons, List.any_nil, hP, Bool.or_false]
  | cons e t ih =>
    obtain ⟨j, w⟩ := e
    unfold Table.insert
    split
    · rw [List.any_cons, hP, Bool.false_or]
    · split
      · next hj => subst hj; rw [List.any_cons, List.any_cons, hP, hP]
      · rw [List.any_cons, List.any_cons, ih]

/-- A job that has just been fetched is no earlier part of its own context. -/
theorem fetched_ctxWaits (s : State) (f e : Nat) (d : CipherDesc) :
    ((s.withFetched f d).jobMarked f e).ctxWaits s.cipher.nextJob f d.ctx = s.ctxWaits s.cipher.nextJob f d.ctx := by
  unfold State.ctxWaits
  rw [(jobMarked_keeps (s.withFetched f d) f e).frame .cipher (by decide)]
  refine congrArg (decide (d.ctx < 4) && ·) (Table.any_insert (fun w => ?_) s.cipher.jobs _)
  simp only [lt_irrefl, decide_false, Bool.false_and]

/-- The gate of the fetch: the page is open, its engine and its JOBQ are enabled, and fewer than eight descriptors are ahead. -/
theorem exec_cipherJobFetch (hp : s.rst.powered = true) (hengine : s.engineTakes 3 0 = true) (hopen : s.open f = true)
    (hciph : (s.page f).ciphEnable = true) (hring : ((s.page f).ring 4).enable = true)
    (hahead : ((s.pageJobs f).filter fun j => !j.started).length < min 8 ((s.page f).ring 4).used) (t : Nat) :
    exec (.cipherJobFetch t f d) s = .next (if ((s.page f).ring 5).free ≤ (s.pageJobs f).length then
        (s.upTo t).setPage f ((s.page f).setRing 4 { (s.page f).ring 4 with stalled := true }) else (s.upTo t).takeCipher f d false) := by
  have hf : f ≠ 64 := by
    intro hf
    subst hf
    unfold State.open at hopen
    simp only [lt_irrefl, decide_false, Bool.false_and] at hopen
    exact Bool.noConfusion hopen
  have hengine' : ¬ s.engineTakes 3 0 = false := by rw [hengine]; decide
  have hgate : ¬ (s.open f = false ∨ (s.page f).ciphEnable = false ∨ ((s.page f).ring 4).enable = false ∨
      ((s.page f).ring 4).used ≤ ((s.pageJobs f).filter fun j => !j.started).length ∨ 8 ≤ ((s.pageJobs f).filter fun j => !j.started).length) := by
    rintro (h | h | h | h | h)
    · exact Bool.noConfusion (hopen.symm.trans h)
    · exact Bool.noConfusion (hciph.symm.trans h)
    · exact Bool.noConfusion (hring.symm.trans h)
    · omega
    · omega
  show execCipherJobFetch t f d s = _
  unfold execCipherJobFetch
  rw [State.run_powered hp]
  exact congrArg Host.Outcome.next ((if_neg hengine').trans ((if_neg hf).trans (if_neg hgate)))

theorem exec_cipherJobFetch_internal (hp : s.rst.powered = true) (hengine : s.engineTakes 3 0 = true) (t : Nat) :
    exec (.cipherJobFetch t 64 d) s = .next ((s.upTo t).takeCipher 64 d false) := by
  have hengine' : ¬ s.engineTakes 3 0 = false := by rw [hengine]; decide
  show execCipherJobFetch t 64 d s = _
  unfold execCipherJobFetch
  rw [State.run_powered hp]
  exact congrArg Host.Outcome.next ((if_neg hengine').trans (if_pos rfl))

theorem jobMarked_page (s : State) (hf : f < 64) (e : Nat) :
    (s.jobMarked f e).page f = if e = acRange then (s.page f).jobMarked else s.page f := by
  unfold State.jobMarked
  by_cases he : e = acRange
  · rw [if_pos ⟨he, hf⟩, if_pos he]
    exact State.page_setPage_self _ _ _
  · rw [if_neg fun hc => he hc.1, if_neg he]

theorem closeCtx_ring (s : State) (f k r : Nat) : ((s.closeCtx f k).page f).ring r = (s.page f).ring r := by
  unfold State.closeCtx
  split
  · unfold State.setCtx
    rw [State.page_setPage_self]
    rfl
  · rfl

/-- A state in which a refused part has closed its context where it must. -/
def State.refusing (s : State) (j : CipherJob) (e : Nat) : State :=
  if j.desc.first then s else if e = acNoAccess ∨ e = ckContext ∨ e = ckChanged then s.closeCtx j.page j.desc.ctx else s

theorem refusing_keeps (s : State) (j : CipherJob) (e : Nat) : Keeps [.pages] s (s.refusing j e) :=
  Keeps.ite (.refl _ s) (Keeps.ite (State.closeCtx_keeps (.refl _ s) _ _ (by decide)) (.refl _ s))

theorem refusing_ring (s : State) (j : CipherJob) (e r : Nat) : ((s.refusing j e).page j.page).ring r = (s.page j.page).ring r := by
  unfold State.refusing
  split
  · rfl
  · split
    · exact closeCtx_ring s _ _ r
    · rfl

theorem refuseJob_eq (s : State) (n : Nat) (j : CipherJob) (e : Nat) : s.refuseJob n j e = (s.refusing j e).failJob n j e := rfl

/-- What a descriptor that is refused at once leaves. -/
theorem refuseJob_leaves {e : Nat} (hf : f < 64) (he : e ≠ 0) (s : State) (d : CipherDesc) :
    Keeps [.out, .dict, .pages, .cipher] s (((s.withFetched f d).jobMarked f e).refuseJob s.cipher.nextJob (s.fetched f d) e) ∧
    (((s.withFetched f d).jobMarked f e).refuseJob s.cipher.nextJob (s.fetched f d) e).cipher.slots = s.cipher.slots ∧
    (((s.withFetched f d).jobMarked f e).refuseJob s.cipher.nextJob (s.fetched f d) e).job s.cipher.nextJob = none ∧
    (∀ k, k ≠ s.cipher.nextJob →
      (((s.withFetched f d).jobMarked f e).refuseJob s.cipher.nextJob (s.fetched f d) e).job k = s.job k) ∧
    ((((((s.withFetched f d).jobMarked f e).refuseJob s.cipher.nextJob (s.fetched f d) e).page f).ring 4).badDesc = true ↔
      e = acRange ∨ ((s.page f).ring 4).badDesc = true) ∧
    (((s.page f).ring 5).enable = true →
      (((((s.withFetched f d).jobMarked f e).refuseJob s.cipher.nextJob (s.fetched f d) e).page f).ring 5).prod =
        (((s.page f).ring 5).prod + 1) % ((s.page f).ring 5).size) ∧
    Counted [keyOf 0x4010 2] s (((s.withFetched f d).jobMarked f e).refuseJob s.cipher.nextJob (s.fetched f d) e) := by
  set w := (s.withFetched f d).jobMarked f e with hw
  set x := w.refusing (s.fetched f d) e with hx
  have hpages : Keeps [.pages] (s.withFetched f d) x := (jobMarked_keeps _ f e).trans (refusing_keeps w (s.fetched f d) e)
  have hfetched : Keeps [.pages, .cipher] s x := (withFetched_keeps s f d).mono.trans hpages.mono
  have hgone := failJob_gone x s.cipher.nextJob (s.fetched f d) e
  have hcipher : x.cipher = (s.withFetched f d).cipher := hpages.frame .cipher (by decide)
  have hcount := failJob_counted x s.cipher.nextJob (s.fetched f d) e
  rw [if_neg he] at hcount
  have hring : ∀ r, (x.page f).ring r = (w.page f).ring r := fun r => refusing_ring w (s.fetched f d) e r
  have hmarked : w.page f = if e = acRange then (s.page f).jobMarked else s.page f := jobMarked_page (s.withFetched f d) hf e
  have hpage : (x.failJob s.cipher.nextJob (s.fetched f d) e).page f = (x.page f).jobTaken.ended :=
    failJob_page (j := s.fetched f d) rfl hf x s.cipher.nextJob e
  rw [refuseJob_eq, ← hx]
  refine ⟨hfetched.mono.trans (failJob_keeps_self ..), hgone.slots.trans (by rw [hcipher]; rfl), hgone.gone, fun k hk => ?_, ?_, fun henable => ?_, ?_⟩
  · rw [hgone.others k hk]
    unfold State.job
    rw [hcipher]
    exact withFetched_job_ne s f d hk
  · rw [hpage, Page.ended_ring_ne _ (by decide), Page.jobTaken_bad, hring, hmarked]
    by_cases hrange : e = acRange
    · rw [if_pos hrange]
      unfold Page.jobMarked
      rw [Page.ring_setRing_self]
      exact ⟨fun _ => .inl hrange, fun _ => rfl⟩
    · rw [if_neg hrange]
      exact ⟨.inr, fun h => h.resolve_left hrange⟩
  · have hfive : (x.page f).jobTaken.ring 5 = (s.page f).ring 5 := by
      rw [Page.jobTaken_ring_ne _ (by decide), hring, hmarked]
      split
      · exact (s.page f).ring_setRing_ne _ (by decide)
      · rfl
    rw [hpage, Page.ended_prod _ (by rw [hfive]; exact henable), hfive]
  · exact ⟨fun k hk => (hcount.1 k hk).trans (hfetched.raw k (by decide)), fun k hk => by
      rw [hcount.2 k hk, hfetched.variant, hfetched.raw k (by decide)]⟩

/-! ## A segment -/

theorem exec_cipherSegmentComplete {guardOk dmaOk : Bool} (hp : s.rst.powered = true) (hj : s.job n = some j) (hstart : j.started = true)
    (hopen : j.finished < j.granted) (t : Nat) : exec (.cipherSegmentComplete t n unit guardOk dmaOk input aad) s =
    .next (if guardOk = false then
        (if j.page = 64 ∧ j.again = false then
          { ((s.upTo t).failJob n j ckFault).guardFails (((s.units j.mode)[unit]?).getD []) unit with
            cipher := { (((s.upTo t).failJob n j ckFault).guardFails (((s.units j.mode)[unit]?).getD []) unit).cipher with
              resubmit := (((s.upTo t).failJob n j ckFault).guardFails (((s.units j.mode)[unit]?).getD []) unit).cipher.resubmit ++ [j.desc] } }
        else ((s.upTo t).failJob n j ckFault).guardFails (((s.units j.mode)[unit]?).getD []) unit)
      else if dmaOk = false then (s.upTo t).failJob n j ckDma
      else if j.finished + 1 < j.segments then (s.upTo t).setJob n { j with finished := j.finished + 1 }
      else (s.upTo t).finishJob n j input aad) := by
  have hj' : (s.upTo t).job n = some j := hj
  have hgate : ¬ (j.started = false ∨ j.granted ≤ j.finished) := by
    rintro (h | h)
    · exact Bool.noConfusion (hstart.symm.trans h)
    · omega
  show execCipherSegmentComplete t n unit guardOk dmaOk input aad s = _
  unfold execCipherSegmentComplete
  rw [State.run_powered hp]
  refine congrArg Host.Outcome.next ?_
  rw [hj']
  exact if_neg hgate

theorem exec_cipherSegmentComplete_none {guardOk dmaOk : Bool} (hp : s.rst.powered = true) (hj : s.job n = none) (t : Nat) :
    exec (.cipherSegmentComplete t n unit guardOk dmaOk input aad) s = .next (s.upTo t) := by
  have hj' : (s.upTo t).job n = none := hj
  show execCipherSegmentComplete t n unit guardOk dmaOk input aad s = _
  unfold execCipherSegmentComplete
  rw [State.run_powered hp]
  refine congrArg Host.Outcome.next ?_
  rw [hj']

/-- The mismatches of the second before. -/
def State.recentMismatches (s : State) : List Nat := s.cipher.mismatches.filter fun a => decide (s.tsc ≤ a + 1000000000)

/-- A state in which a comparison that failed is counted and logged. -/
def State.mismatchLogged (s : State) (cells : List Nat) (unit : Nat) : State :=
  (s.bump 0x4010 5).each cells fun v c => v.event (srcOf 3 0 c) 0x0801 sevWarning (toBE 1 unit)

theorem mismatchLogged_keeps (s : State) (cells : List Nat) (unit : Nat) : Keeps [.log] (s.bump 0x4010 5) (s.mismatchLogged cells unit) :=
  Keeps.each (.refl _ _) fun v c => State.event_keeps (.refl _ v) (srcOf 3 0 c) 0x0801 sevWarning (toBE 1 unit) (by decide)

/-- The cipher state after a mismatch that is not the third in a second. -/
def Cipher.mismatched (x : Cipher) (cells recent : List Nat) : Cipher :=
  { x with leaving := x.leaving ++ cells.filter fun c => !x.leaving.contains c, mismatches := recent }

theorem guardFails_few (h : s.recentMismatches.length < 2) (cells : List Nat) (unit : Nat) : s.guardFails cells unit =
    { s.mismatchLogged cells unit with cipher := Cipher.mismatched s.cipher cells (s.tsc :: s.recentMismatches) } := by
  have hkeeps := mismatchLogged_keeps s cells unit
  have hcipher : (s.mismatchLogged cells unit).cipher = s.cipher := hkeeps.frame .cipher (by decide)
  have htsc : (s.mismatchLogged cells unit).tsc = s.tsc := hkeeps.frame .tsc (by decide)
  have hrecent : ((s.mismatchLogged cells unit).tsc :: (s.mismatchLogged cells unit).cipher.mismatches.filter
      fun a => decide ((s.mismatchLogged cells unit).tsc ≤ a + 1000000000)) = s.tsc :: s.recentMismatches := by
    rw [hcipher, htsc]
    rfl
  have hfew : ¬ 3 ≤ (s.tsc :: s.recentMismatches).length := by rw [List.length_cons]; omega
  unfold State.guardFails
  extract_lets u w recent x v
  have hw : w = s.mismatchLogged cells unit := rfl
  have hr : recent = s.tsc :: s.recentMismatches := hrecent
  unfold v
  rw [hr, if_neg hfew, if_neg hfew]
  unfold x
  rw [hw, hcipher]
  rfl

end CipherJobs

end Sys2Proof.Machine
end

section
/-! Cipher jobs: what their segments and the test of a core leave (R321, R333-R345). -/

set_option Elab.async false

namespace Sys2Proof.Machine

section CipherResults

variable {ps : List Part} {s u v : State} {t n f core unit : Nat} {j : CipherJob} {d : CipherDesc} {input aad : Bytes}

/-- What a segment leaves whose copies differ. -/
theorem guardFails_leaves (h : s.recentMismatches.length < 2) (n : Nat) (j : CipherJob) (cells : List Nat) (unit : Nat) :
    Keeps [.out, .dict, .log, .pages, .cipher] s ((s.failJob n j ckFault).guardFails cells unit) ∧
    ((s.failJob n j ckFault).guardFails cells unit).job n = none ∧
    ((s.failJob n j ckFault).guardFails cells unit).cipher.slots = s.cipher.slots ∧
    (∀ c ∈ cells, c ∈ ((s.failJob n j ckFault).guardFails cells unit).cipher.leaving) ∧
    ((s.failJob n j ckFault).guardFails cells unit).cipher.testing = s.cipher.testing ∧
    Counted [keyOf 0x4010 2, keyOf 0x4010 5] s ((s.failJob n j ckFault).guardFails cells unit) := by
  have hfail := failJob_keeps_self s n j ckFault
  have hcipher := failJob_cipher s n j ckFault
  have hfew : (s.failJob n j ckFault).recentMismatches.length < 2 := by
    unfold State.recentMismatches
    rw [hcipher, hfail.frame .tsc (by decide)]
    exact h
  have hlogged := mismatchLogged_keeps (s.failJob n j ckFault) cells unit
  rw [guardFails_few hfew]
  refine ⟨?_, ?_, (congrArg Cipher.slots hcipher :), fun c hc => ?_, (congrArg Cipher.testing hcipher :), ?_⟩
  · refine Keeps.trans ((hfail.mono (qs := [.out, .dict, .log, .pages, .cipher])).trans
      (Keeps.trans (State.bump_keeps (.refl _ _) 0x4010 5 (by decide)) hlogged.mono)) ?_
    exact Keeps.record (.refl _ _) rfl rfl rfl rfl rfl rfl rfl rfl rfl rfl rfl rfl rfl rfl rfl (congrArg Cipher.slots (hlogged.frame .cipher (by decide)).symm :)
      rfl rfl rfl
  · exact (failJob_gone s n j ckFault).gone
  · by_cases hleaving : c ∈ (s.failJob n j ckFault).cipher.leaving
    · exact List.mem_append_left _ hleaving
    · refine List.mem_append_right _ (List.mem_filter.mpr ⟨hc, ?_⟩)
      rw [Bool.not_eq_true', List.contains_eq_mem]
      exact decide_eq_false hleaving
  · have hcounted := (failJob_counted s n j ckFault).trans (((s.failJob n j ckFault).counted_bump 0x4010 5).keeps hlogged)
      hfail.variant (by decide)
    exact hcounted

/-- What a job leaves whose result stands at DST. -/
theorem completes_leaves {w : State} (hkeeps : Keeps [.pages, .cipher] s w)
    (hcipher : w.cipher = { s.cipher with jobs := Table.erase s.cipher.jobs n }) (j : CipherJob) (r : CipherResult) :
    Keeps [.out, .dict, .pages, .cipher] s ((w.writeOut j r.data).postDone j r.status r.data.length r.unverified) ∧
    JobGone n s ((w.writeOut j r.data).postDone j r.status r.data.length r.unverified) ∧
    (r.data ≠ [] → Out.hostWrite j.page 255 j.desc.dst r.data ∈
      ((w.writeOut j r.data).postDone j r.status r.data.length r.unverified).out) ∧
    Counted [keyOf 0x4010 (if r.status = 0 then 1 else 2)] s ((w.writeOut j r.data).postDone j r.status r.data.length r.unverified) := by
  have hwritten : Keeps [.out, .pages, .cipher] s (w.writeOut j r.data) := hkeeps.mono.trans (writeOut_keeps_self w j r.data).mono
  refine ⟨hwritten.mono.trans (postDone_keeps_self ..).mono, .of_cipher ?_, fun hdata => ?_, ?_⟩
  · rw [postDone_cipher, (writeOut_keeps_self w j r.data).frame .cipher (by decide)]
    exact hcipher
  · exact mem_out_postDone (mem_out_writeOut w j hdata) j _ _ _
  · exact (hwritten.trans (donePosted_keeps _ j r.status r.data.length r.unverified).mono).counted 0x4010 _

/-! ## The test of a core (R321) -/

/-- A state in which the test of a core is over. -/
def State.testOver (s : State) (core : Nat) : State :=
  { s with cipher := { s.cipher with testing := s.cipher.testing.filter fun c => c != core } }

theorem testOver_keeps (s : State) (core : Nat) : Keeps [.cipher] s (s.testOver core) :=
  Keeps.record (.refl _ s) rfl rfl rfl rfl rfl rfl rfl rfl rfl rfl rfl rfl rfl rfl rfl rfl rfl rfl rfl

theorem exec_knownAnswerTest (hp : s.rst.powered = true) (hcore : core ∈ s.cipher.testing) (t : Nat) :
    exec (.knownAnswerTest t core true) s = .next { s.upTo t with cipher := { s.cipher with passed := core :: s.cipher.passed } } ∧
    exec (.knownAnswerTest t core false) s = .next (((s.upTo t).testOver core).withdraw 3 0 core) := by
  have hcontains : s.cipher.testing.contains core = true := by rw [List.contains_eq_mem]; exact decide_eq_true hcore
  refine ⟨?_, ?_⟩
  · show execKnownAnswerTest t core true s = _
    unfold execKnownAnswerTest
    rw [State.run_powered hp]
    exact congrArg Host.Outcome.next (if_pos hcontains)
  · show execKnownAnswerTest t core false s = _
    unfold execKnownAnswerTest
    rw [State.run_powered hp]
    exact congrArg Host.Outcome.next (if_pos hcontains)

theorem takenOut_core_keeps (s : State) (core : Nat) : Keeps [.log, .hier, .cipher] s (s.takenOut 3 0 core) :=
  State.coreItems_keeps (State.event_keeps (State.setBlock_keeps (.refl _ s) 3 0 _ (by decide)) _ _ _ _ (by decide)) core (by decide)

theorem fallBack_withdrawn {src r b : Nat} (hr : srcRegion src = r) (hb : srcBlk src = b) (s : State) :
    ((s.fallBack src).block r b).withdrawn = (s.block r b).withdrawn := by
  unfold State.fallBack
  dsimp only
  rw [hr, hb]
  split
  · rfl
  · exact State.regionReset_withdrawn s r b

/-- What stands in for a cell withdraws no other of its block. -/
theorem standIn_withdrawn {src r b : Nat} (hr : srcRegion src = r) (hb : srcBlk src = b) (s : State) :
    ((s.standIn src).block r b).withdrawn = (s.block r b).withdrawn := by
  unfold State.standIn
  split
  · rw [State.requestSwap_block]
  · split
    · next q htied =>
      have hq := List.find?_some htied
      simp only [Bool.and_eq_true, beq_iff_eq] at hq
      rw [fallBack_withdrawn (hq.1.2.trans hr) (hq.2.trans hb), State.requestSwap_block]
      rfl
    · exact fallBack_withdrawn hr hb s

theorem withdrawCore_leaves (hcore : core < 16) (h : s.isWithdrawn 3 0 core = false) :
    Keeps [.log, .hier, .cipher, .sup] s (s.withdraw 3 0 core) ∧ bit ((s.withdraw 3 0 core).block 3 0).withdrawn core = true ∧
    (s.withdraw 3 0 core).cipher.testing = s.cipher.testing ∧ (s.withdraw 3 0 core).cipher.slots = s.cipher.slots := by
  have hsrcRegion : srcRegion (srcOf 3 0 core) = 3 := srcRegion_srcOf (by decide) (by decide) (by omega)
  have hsrcBlk : srcBlk (srcOf 3 0 core) = 0 := srcBlk_srcOf (by decide) (by omega)
  have hstand : Keeps [.hier, .sup] (s.takenOut 3 0 core) ((s.takenOut 3 0 core).standIn (srcOf 3 0 core)) :=
    State.standIn_keeps (.refl _ _) _ (by decide) (by decide)
  have hcipher := hstand.frame .cipher (by decide)
  rw [State.withdraw_eq h]
  refine ⟨(takenOut_core_keeps s core).mono.trans hstand.mono, ?_, (congrArg Cipher.testing hcipher :), (congrArg Cipher.slots hcipher :)⟩
  rw [standIn_withdrawn hsrcRegion hsrcBlk, (s.takenOut_blocks 3 0 core).withdrawn,
    bit_withBit_true (show bit (s.block 3 0).withdrawn core = false from h), beq_self_eq_true, Bool.or_true]

end CipherResults

/-- Settles O44: a fetched job, a refused one, and the ends of a segment each by its own lemma. -/
theorem cipherJobsComplete : Obligations.CipherJobsComplete := by
  unfold Obligations.CipherJobsComplete
  refine ⟨fun s t f d hs hengine hopen hciph hring hahead => ?fetch, fun s t d hs hengine haccept => ?internal,
    fun s t n unit j input aad hs => ⟨fun hj hstart hgranted => ?segment, fun hnone => ?absent, fun core hcore => ?tested⟩⟩
  case fetch =>
    have hexec := exec_cipherJobFetch (d := d) hs.2 hengine hopen hciph hring hahead t
    have hf : f < 64 := by
      unfold State.open at hopen
      simp only [Bool.and_eq_true, decide_eq_true_eq] at hopen
      exact hopen.1.1.1
    refine ⟨fun hroom haccept => ?_, fun e hroom hrefuse hwaits he => ?_, fun e hroom hrefuse hwaits => ?_, fun hfull => ?_⟩
    · rw [if_neg (Nat.not_le.mpr hroom), takeCipher_accepted (s := s.upTo t) haccept] at hexec
      refine ⟨_, hexec, .of_keeps (withFetched_keeps (s.upTo t) f d) (by decide), rfl, rfl, fun n hn => withFetched_job_ne (s.upTo t) f d hn, ?_⟩
      refine (withFetched_job (s.upTo t) f d).trans ?_
      unfold State.fetched
      rw [show (s.upTo t).cipherRefusal f d ((s.upTo t).page f).onFail = none from haccept]
      rfl
    · rw [if_neg (Nat.not_le.mpr hroom), takeCipher_refused (s := s.upTo t) hrefuse,
        fetched_ctxWaits, if_neg (show ¬ (s.upTo t).ctxWaits (s.upTo t).cipher.nextJob f d.ctx = true by
          rw [show (s.upTo t).ctxWaits (s.upTo t).cipher.nextJob f d.ctx = false from hwaits]; decide)] at hexec
      obtain ⟨hkeeps, hleaves⟩ := refuseJob_leaves hf he (s.upTo t) d
      exact ⟨_, hexec, .of_keeps hkeeps (by decide), hleaves⟩
    · rw [if_neg (Nat.not_le.mpr hroom), takeCipher_refused (s := s.upTo t) hrefuse,
        fetched_ctxWaits, if_pos (show (s.upTo t).ctxWaits (s.upTo t).cipher.nextJob f d.ctx = true from hwaits)] at hexec
      have hmarked := jobMarked_keeps ((s.upTo t).withFetched f d) f e
      have hcipher : (((s.upTo t).withFetched f d).jobMarked f e).cipher = ((s.upTo t).withFetched f d).cipher := hmarked.frame .cipher (by decide)
      have hjob : ∀ k, (((s.upTo t).withFetched f d).jobMarked f e).job k = ((s.upTo t).withFetched f d).job k := fun k => by
        unfold State.job
        rw [hcipher]
      refine ⟨_, hexec, .of_keeps ((withFetched_keeps (s.upTo t) f d).mono.trans hmarked.mono) (by decide), (congrArg Cipher.slots hcipher :),
        ⟨(s.upTo t).fetched f d, (hjob _).trans (withFetched_job (s.upTo t) f d), rfl, rfl, hrefuse, rfl⟩,
        fun n hn => (hjob n).trans (withFetched_job_ne (s.upTo t) f d hn)⟩
    · rw [if_pos hfull] at hexec
      refine ⟨_, hexec, .of_keeps (State.setPage_keeps (.refl _ _) f _ (by decide)) (by decide), ?_, fun k hk => ?_,
        fun g hg => State.page_setPage_ne _ _ _ hg⟩
      · rw [State.page_setPage_self, Page.ring_setRing_self]
      · rw [State.page_setPage_self, Page.ring_setRing_ne _ _ hk]
  case internal =>
    have hexec := exec_cipherJobFetch_internal (d := d) hs.2 hengine t
    rw [takeCipher_accepted (s := s.upTo t) haccept] at hexec
    exact ⟨_, hexec, .of_keeps (withFetched_keeps (s.upTo t) 64 d) (by decide), fun n hn => withFetched_job_ne (s.upTo t) 64 d hn,
      (s.upTo t).fetched 64 d, withFetched_job (s.upTo t) 64 d, rfl, rfl, haccept, rfl, rfl⟩
  case segment =>
    have hexec := fun guardOk dmaOk => exec_cipherSegmentComplete (unit := unit) (input := input) (aad := aad) (guardOk := guardOk)
      (dmaOk := dmaOk) hs.2 hj hstart hgranted t
    have htrue : ¬ (true : Bool) = false := by decide
    refine ⟨fun hmore => ?_, fun r hlast hctx hr hstatus => ?_, fun r c a hlast hctx hc ha hr hstatus => ?_,
      fun r hlast hctx hr hstatus harea => ?_, ?_, fun hfew dmaOk => ?_⟩
    · have hexec := hexec true true
      rw [if_neg htrue, if_neg htrue, if_pos hmore] at hexec
      exact ⟨_, hexec, .of_keeps (setJob_keeps_self ..) (by decide), Table.find_insert_self _ _ _, fun k hk => Table.find_insert_ne _ _ hk, rfl⟩
    · have hexec := hexec true true
      rw [if_neg htrue, if_neg htrue, if_neg (by omega), (finishJob_single hctx hr (s.upTo t) n).1 hstatus] at hexec
      obtain ⟨hkeeps, hgone, hout, hcount⟩ := completes_leaves (n := n) (withoutJob_keeps (s.upTo t) n).mono rfl j r
      rw [if_pos hstatus] at hcount
      exact ⟨_, hexec, .of_keeps hkeeps (by decide), hgone.gone, hgone.others, hgone.slots, hout, hcount⟩
    · have hexec := hexec true true
      rw [if_neg htrue, if_neg htrue, if_neg (by omega), finishJob_part (s := s.upTo t) hctx hc ha hr hstatus n] at hexec
      have hset : Keeps [.pages] ((s.upTo t).withoutJob n)
          (((s.upTo t).withoutJob n).setCtx j.page j.desc.ctx (partCtx j.desc c (slice input 0 j.desc.len) a)) :=
        State.setCtx_keeps (.refl _ _) _ _ _ (by decide)
      obtain ⟨hkeeps, hgone, hout, -⟩ := completes_leaves (n := n) ((withoutJob_keeps (s.upTo t) n).mono.trans hset.mono)
        (hset.frame .cipher (by decide)) j r
      refine ⟨_, hexec, .of_keeps hkeeps (by decide), hgone.gone, hout, ?_⟩
      rw [postDone_ctx, writeOut_page, setCtx_ctx]
      rfl
    · have hexec := hexec true true
      rw [if_neg htrue, if_neg htrue, if_neg (by omega), (finishJob_single hctx hr (s.upTo t) n).2 hstatus] at hexec
      have hbump : Keeps [.out, .dict, .pages, .cipher] (s.upTo t) ((s.upTo t).bump 0x4010 (if j.onFail then 4 else 3)) :=
        State.bump_keeps (.refl _ _) _ _ (by decide)
      have hcount := failJob_counted ((s.upTo t).bump 0x4010 (if j.onFail then 4 else 3)) n j r.status
      rw [hstatus] at hcount hexec
      refine ⟨_, hexec, .of_keeps (hbump.trans (failJob_keeps_self ..)) (by decide), (failJob_gone ..).gone, failJob_zeroes (by decide) harea _ n, ?_⟩
      have hboth := ((s.upTo t).counted_bump 0x4010 (if j.onFail then 4 else 3)).trans hcount rfl (by cases j.onFail <;> decide)
      cases hfail : j.onFail <;> rw [hfail] at hboth
      · exact ⟨fun k hk => hboth.1 k fun hm => hk (by simpa [or_comm] using hm), fun k hk => hboth.2 k (by simpa [or_comm] using hk)⟩
      · exact ⟨fun k hk => hboth.1 k fun hm => hk (by simpa [or_comm] using hm), fun k hk => hboth.2 k (by simpa [or_comm] using hk)⟩
    · have hexec := hexec true false
      rw [if_neg htrue, if_pos rfl] at hexec
      have hgone := failJob_gone (s.upTo t) n j ckDma
      exact ⟨_, hexec, .of_keeps (failJob_keeps_self ..) (by decide), hgone.gone, hgone.slots, failJob_counted (s.upTo t) n j ckDma⟩
    · have hexec := hexec false dmaOk
      rw [if_pos rfl] at hexec
      obtain ⟨hkeeps, hgone, hslots, hleaving, htesting, hcount⟩ := guardFails_leaves (s := s.upTo t) hfew n j (((s.units j.mode)[unit]?).getD []) unit
      by_cases hagain : j.page = 64 ∧ j.again = false
      · rw [if_pos hagain] at hexec
        refine ⟨_, hexec, .of_keeps (hkeeps.trans ?_) (by decide), hgone, hslots, hleaving,
          fun _ _ => List.mem_append_right _ (List.mem_singleton.mpr rfl), htesting, hcount⟩
        exact Keeps.record (.refl _ _) rfl rfl rfl rfl rfl rfl rfl rfl rfl rfl rfl rfl rfl rfl rfl rfl rfl rfl rfl
      · rw [if_neg hagain] at hexec
        exact ⟨_, hexec, .of_keeps hkeeps (by decide), hgone, hslots, hleaving, fun h₁ h₂ => absurd ⟨h₁, h₂⟩ hagain, htesting, hcount⟩
  case absent => exact ⟨_, exec_cipherSegmentComplete_none hs.2 hnone t, .record⟩
  case tested =>
    obtain ⟨hpasses, hfails⟩ := exec_knownAnswerTest hs.2 hcore t
    refine ⟨⟨_, hpasses, .record, rfl⟩, fun hlt hin => ?_⟩
    obtain ⟨hkeeps, hbit, htesting, hslots⟩ := withdrawCore_leaves (s := (s.upTo t).testOver core) hlt hin
    refine ⟨_, hfails, .of_keeps ((testOver_keeps (s.upTo t) core).mono.trans hkeeps.mono) (by decide), hbit, fun hmem => ?_, hslots⟩
    rw [htesting] at hmem
    have hne := (List.mem_filter.mp hmem).2
    rw [bne_self_eq_false] at hne
    exact Bool.noConfusion hne

end Sys2Proof.Machine
end

section
/-! Key commands: LOAD, UNWRAP, ERASE, and what refuses them (R325-R329, R340). -/

set_option Elab.async false

namespace Sys2Proof.Machine

section KeyCommands

variable {ps : List Part} {s u v : State} {t n f w e : Nat} {q : KeyCommand}

/-! ## The command reaches the key store -/

/-- A key command as it is accepted. -/
def State.keyAsked (s : State) (f w : Nat) : KeyCommand := ⟨f, w, Table.getBytes (s.page f).keyData 0 48, (s.page f).onFail⟩

/-- A state whose page works on a key command. -/
def State.keyBusied (s : State) (f : Nat) : State := s.setPage f { s.page f with keyBusy := true }

/-- A state in which no key command waits. -/
def State.noKeyWaits (s : State) : State := { s with cipher := { s.cipher with waiting := [] } }

theorem noKeyWaits_eq (h : s.cipher.waiting = []) : s.noKeyWaits = s := by
  unfold State.noKeyWaits
  rw [← h]

theorem keyCommand_served (hgo : bit w 31 = true) (hbusy : (s.page f).keyBusy = false) (hwaiting : s.cipher.waiting = [])
    (herasing : s.cipher.erasing = none) :
    s.keyCommand f w = ((s.keyBusied f).performKey (s.keyAsked f w)).noKeyWaits := by
  have hw : (s.keyBusied f).cipher.waiting = [] := hwaiting
  have he : ¬ (s.keyBusied f).cipher.erasing.isSome = true := by
    rw [show (s.keyBusied f).cipher.erasing = none from herasing]
    decide
  unfold State.keyCommand
  rw [if_neg (by rw [hgo]; decide), if_neg (by rw [hbusy]; decide)]
  show (s.keyBusied f).serveKeys ((s.keyBusied f).cipher.waiting ++ [s.keyAsked f w]) = _
  rw [hw, List.nil_append]
  unfold State.serveKeys
  rw [if_neg he]
  rfl

theorem keyCommand_overlaps (hgo : bit w 31 = true) (hbusy : (s.page f).keyBusy = true) :
    s.keyCommand f w = s.setPage f { s.page f with keyOverlap := true } := by
  unfold State.keyCommand
  rw [if_neg (by rw [hgo]; decide), if_pos hbusy]

/-- The instruction of an OP carries the word to the key store. -/
theorem exec_keyCommand {op : Nat} {c : Instr} {w : Word32} (hp : s.rst.powered = true) (hopen : s.open f = true)
    (hc : (op, c) ∈ [(1, Instr.load t f w), (2, .unwrap t f w), (3, .erase t f w)]) (hop : keyOpIs w.toNat op = true) :
    exec c s = .next ((s.upTo t).keyCommand f w.toNat) := by
  simp only [List.mem_cons, List.not_mem_nil, or_false, Prod.mk.injEq] at hc
  rcases hc with ⟨rfl, rfl⟩ | ⟨rfl, rfl⟩ | ⟨rfl, rfl⟩
  all_goals exact (State.run_powered hp t _).trans (congrArg Host.Outcome.next (if_pos ⟨hopen, hop⟩))

theorem keyOpIs_self {op : Nat} (h : bits w 30 28 = op) : keyOpIs w op = true := by
  unfold keyOpIs
  rw [h, beq_self_eq_true, Bool.true_or]

theorem keyOpIs_load (h₂ : bits w 30 28 ≠ 2) (h₃ : bits w 30 28 ≠ 3) : keyOpIs w 1 = true := by
  unfold keyOpIs
  rw [Bool.or_eq_true]
  refine .inr ?_
  simp [h₂, h₃]

/-! ## What the key store does (R326) -/

theorem performKey_held (h : s.held 3 1 = true) : s.performKey q = s.keyDone q.page stBlockHeld := by
  unfold State.performKey
  exact if_pos h

theorem performKey_range (hfree : s.held 3 1 = false)
    (h : (bits q.word 30 28 ≠ 1 ∧ bits q.word 30 28 ≠ 2 ∧ bits q.word 30 28 ≠ 3) ∨ (bits q.word 30 28 = 1 ∧ bits q.word 27 26 = 0) ∨
      (bits q.word 30 28 = 2 ∧ 2 ≤ bits q.word 25 24)) : s.performKey q = s.keyDone q.page acRange := by
  unfold State.performKey
  exact (if_neg (by rw [hfree]; decide)).trans (if_pos h)

/-- What follows the first tests of a key command. -/
def State.keyActs (s : State) (q : KeyCommand) : State :=
  if bits q.word 30 28 = 3 then
    { s.eraseSlot (bits q.word 23 16) with cipher := { (s.eraseSlot (bits q.word 23 16)).cipher with erasing := some q.page } }
  else if bits q.word 30 28 = 1 then
    if s.keyFits (bits q.word 23 16) (8 * (bits q.word 27 26 + 1)) then
      (s.loadSlot (bits q.word 23 16) (q.data.take (8 * (bits q.word 27 26 + 1)))).keyDone q.page 0
    else s.keyDone q.page ckMismatch
  else match s.unwrapKey (bits q.word 23 16) (bits q.word 15 8) (bits q.word 25 24) (bits q.word 5 0) q.data with
  | .ok k => (s.loadSlot (bits q.word 23 16) k).keyDone q.page 0
  | .error e => (if e = ckAuthFail then s.bump 0x4010 (if q.onFail then 4 else 3) else s).keyDone q.page e

theorem performKey_denied (hfree : s.held 3 1 = false)
    (hrange : ¬ ((bits q.word 30 28 ≠ 1 ∧ bits q.word 30 28 ≠ 2 ∧ bits q.word 30 28 ≠ 3) ∨ (bits q.word 30 28 = 1 ∧ bits q.word 27 26 = 0) ∨
      (bits q.word 30 28 = 2 ∧ 2 ≤ bits q.word 25 24))) (h : s.keyTarget q.page (bits q.word 23 16) = some e) :
    s.performKey q = s.keyDone q.page e := by
  unfold State.performKey
  refine (if_neg (by rw [hfree]; decide)).trans ((if_neg hrange).trans ?_)
  rw [h]

theorem performKey_acts (hfree : s.held 3 1 = false)
    (hrange : ¬ ((bits q.word 30 28 ≠ 1 ∧ bits q.word 30 28 ≠ 2 ∧ bits q.word 30 28 ≠ 3) ∨ (bits q.word 30 28 = 1 ∧ bits q.word 27 26 = 0) ∨
      (bits q.word 30 28 = 2 ∧ 2 ≤ bits q.word 25 24))) (h : s.keyTarget q.page (bits q.word 23 16) = none) :
    s.performKey q = s.keyActs q := by
  unfold State.performKey
  refine (if_neg (by rw [hfree]; decide)).trans ((if_neg hrange).trans ?_)
  rw [h]
  rfl

theorem keyDone_page (s : State) (f result : Nat) :
    (s.keyDone f result).page f = { s.page f with keyBusy := false, keyDone := true, keyResult := result, keyData := [] } :=
  State.page_setPage_self _ _ _

theorem keyDone_keeps_self (s : State) (f result : Nat) : Keeps [.pages] s (s.keyDone f result) := State.setPage_keeps (.refl _ s) f _ (by decide)

/-- What a key command leaves that ends with a result and nothing else. -/
theorem keyCommand_ends {r : Nat} (hkeeps : Keeps ps s u) (hps : Part.cipher ∉ ps) (hwaiting : s.cipher.waiting = []) :
    Keeps (.pages :: ps) s (u.keyDone f r).noKeyWaits ∧ ((u.keyDone f r).noKeyWaits.page f).keyDone = true ∧
    ((u.keyDone f r).noKeyWaits.page f).keyResult = r ∧ ((u.keyDone f r).noKeyWaits.page f).keyData = [] := by
  have hdone : Keeps (.pages :: ps) s (u.keyDone f r) := (hkeeps.mono (fun _ h => List.mem_cons_of_mem _ h)).trans
    ((keyDone_keeps_self u f r).mono fun _ h => List.mem_cons.mpr (.inl (List.mem_singleton.mp h)))
  have hnone : (u.keyDone f r).cipher.waiting = [] := (congrArg Cipher.waiting (hkeeps.frame .cipher hps)).trans hwaiting
  rw [noKeyWaits_eq hnone]
  exact ⟨hdone, congrArg Page.keyDone (keyDone_page u f r), congrArg Page.keyResult (keyDone_page u f r), congrArg Page.keyData (keyDone_page u f r)⟩

/-! ## A key enters a slot (R328) -/

/-- A slot that has taken a key. -/
def KeySlot.took (x : KeySlot) (key : Bytes) (now : Nat) : KeySlot :=
  { x with
    state := .ready, type := keyType key.length, key := key, shadow := x.key, counter := 0, loaded := now,
    generation := if x.state = .empty then x.generation else (x.generation + 1) % 2 ^ 32 }

theorem loadSlot_kept (s : State) (n : Nat) (key : Bytes) :
    Keeps [.mgr, .out, .dict, .log, .routes, .cells, .trip] (s.setSlot n ((s.slot n).took key s.tsc)) (s.loadSlot n key) := by
  have hring : Keeps [.mgr, .out, .dict, .log, .routes, .cells, .trip] (s.setSlot n ((s.slot n).took key s.tsc))
      ((s.setSlot n ((s.slot n).took key s.tsc)).ringKeyLoaded n) :=
    Keeps.ite (Keeps.record (.refl _ _) rfl rfl rfl rfl rfl rfl rfl rfl rfl rfl rfl rfl rfl rfl rfl rfl rfl rfl rfl) (.refl _ _)
  exact (State.bump_keeps hring 0x4010 9 (by decide)).trans (settleCommand_keeps_self _).mono

theorem slot_congr (h : u.cipher = v.cipher) (m : Nat) : u.slot m = v.slot m := by
  unfold State.slot
  rw [h]

theorem loadSlot_slot (s : State) (n : Nat) (key : Bytes) (m : Nat) :
    (s.loadSlot n key).slot m = (s.setSlot n ((s.slot n).took key s.tsc)).slot m := by
  have hcipher : (s.loadSlot n key).cipher = (s.setSlot n ((s.slot n).took key s.tsc)).cipher := (loadSlot_kept s n key).frame .cipher (by decide)
  exact slot_congr hcipher m

theorem loadSlot_page (s : State) (n : Nat) (key : Bytes) (g : Nat) : (s.loadSlot n key).page g = s.page g :=
  congrArg (Table.get ({} : Page) · g) ((loadSlot_kept s n key).frame .pages (by decide))

theorem keyDone_slot (s : State) (f result m : Nat) : (s.keyDone f result).noKeyWaits.slot m = s.slot m := rfl

theorem keyDone_waits_page (s : State) (f result : Nat) : (s.keyDone f result).noKeyWaits.page f =
    { s.page f with keyBusy := false, keyDone := true, keyResult := result, keyData := [] } := keyDone_page s f result

/-- What a key command leaves whose key has entered its slot. -/
theorem loaded_leaves (s : State) (f n : Nat) (key : Bytes) :
    (∀ m, m ≠ n → (((s.keyBusied f).loadSlot n key).keyDone f 0).noKeyWaits.slot m = s.slot m) ∧
    (((s.keyBusied f).loadSlot n key).keyDone f 0).noKeyWaits.slot n = (s.slot n).took key s.tsc ∧
    ((((s.keyBusied f).loadSlot n key).keyDone f 0).noKeyWaits.page f).keyDone = true ∧
    ((((s.keyBusied f).loadSlot n key).keyDone f 0).noKeyWaits.page f).keyBusy = false ∧
    ((((s.keyBusied f).loadSlot n key).keyDone f 0).noKeyWaits.page f).keyResult = 0 ∧
    ((((s.keyBusied f).loadSlot n key).keyDone f 0).noKeyWaits.page f).keyData = [] := by
  have htook : ((s.keyBusied f).slot n).took key (s.keyBusied f).tsc = (s.slot n).took key s.tsc := rfl
  refine ⟨fun m hm => ?_, ?_, ?_⟩
  · rw [keyDone_slot, loadSlot_slot, State.slot_setSlot_ne _ _ _ hm]
    rfl
  · rw [keyDone_slot, loadSlot_slot, State.slot_setSlot_self, htook]
  · rw [keyDone_waits_page]
    exact ⟨rfl, rfl, rfl, rfl⟩

theorem take_getBytes (x : Table Byte) {m k : Nat} (h : k ≤ m) : (Table.getBytes x 0 m).take k = Table.getBytes x 0 k := by
  unfold Table.getBytes
  rw [← List.map_take, List.take_range, Nat.min_eq_left h]

theorem length_getBytes (x : Table Byte) (i m : Nat) : (Table.getBytes x i m).length = m := by
  unfold Table.getBytes
  rw [List.length_map, List.length_range]

theorem keyType_of_ty {ty : Nat} (h : ty < 4) (hty : ty ≠ 0) : keyType (8 * (ty + 1)) = ty := by
  interval_cases ty <;> first | exact absurd rfl hty | rfl

end KeyCommands

end Sys2Proof.Machine
end

section
/-! The erasure of a key slot, and the settlement of the key commands (R325-R329, R340). -/

set_option Elab.async false

namespace Sys2Proof.Machine

section KeyErasure

variable {ps : List Part} {s u v : State} {t n f e : Nat} {q : KeyCommand} {j : CipherJob}

/-! ## The commands of a page go on as they were -/

/-- Every page works on a key command where it did. -/
def SameBusy (s u : State) : Prop := ∀ g, (u.page g).keyBusy = (s.page g).keyBusy

theorem SameBusy.trans (h : SameBusy s u) (k : SameBusy u v) : SameBusy s v := fun g => (k g).trans (h g)

theorem SameBusy.setPage {x : Page} (h : x.keyBusy = (s.page f).keyBusy) : SameBusy s (s.setPage f x) := fun g => by
  by_cases hg : g = f
  · subst hg
    rw [State.page_setPage_self, h]
  · rw [State.page_setPage_ne _ _ _ hg]

theorem SameBusy.of_keeps (h : Keeps ps s u) (hps : Part.pages ∉ ps := by decide) : SameBusy s u := fun g => by
  unfold State.page
  rw [h.frame .pages hps]

theorem SameBusy.each {α : Type} {g : State → α → State} (hg : ∀ v x, SameBusy v (g v x)) (s : State) (l : List α) : SameBusy s (s.each l g) :=
  State.each_of_step (P := SameBusy s) (fun v x hv => hv.trans (hg v x)) (fun _ => rfl) l

theorem postRing_busy (s : State) (f k : Nat) (data : Bytes) : SameBusy s (s.postRing f k data) := by
  have hset : ∀ g : HostRing, SameBusy s (s.setPage f ((s.page f).setRing k g)) := fun g => SameBusy.setPage rfl
  unfold State.postRing
  dsimp only
  split
  · split
    · exact hset _
    · exact hset _
  · exact fun _ => rfl

theorem closeCtx_busy (s : State) (f k : Nat) : SameBusy s (s.closeCtx f k) := by
  unfold State.closeCtx
  split
  · exact SameBusy.setPage rfl
  · exact fun _ => rfl

theorem consumeRing_busy (s : State) (f k : Nat) : SameBusy s (s.consumeRing f k) := by
  unfold State.consumeRing
  dsimp only
  split
  · exact SameBusy.setPage rfl
  · exact fun _ => rfl

theorem postDone_busy (s : State) (j : CipherJob) (status outLen : Nat) (unverified : Bool) :
    SameBusy s (s.postDone j status outLen unverified) := by
  rw [postDone_eq]
  unfold State.donePosted
  dsimp only
  by_cases hpage : j.page < 64
  · rw [if_pos hpage]
    exact postRing_busy s j.page 5 _
  · rw [if_neg hpage]
    exact fun _ => rfl

theorem failJob_busy (s : State) (n : Nat) (j : CipherJob) (status : Nat) : SameBusy s (s.failJob n j status) := by
  have hpage : SameBusy (s.withoutJob n)
      (if j.started then (s.withoutJob n).closeCtx j.page j.desc.ctx else (s.withoutJob n).consumeRing j.page 4) := by
    split
    · exact closeCtx_busy _ _ _
    · exact consumeRing_busy _ _ _
  have hfailing : SameBusy (s.withoutJob n) (s.jobFailing n j status) := by
    unfold State.jobFailing
    dsimp only
    split
    · exact hpage.trans (SameBusy.of_keeps (writeOut_keeps_self _ j _))
    · exact hpage
  rw [failJob_eq]
  exact hfailing.trans (postDone_busy _ j status 0 false)

theorem closeSlotCtxs_busy (s : State) (slot : Nat) : SameBusy s (s.closeSlotCtxs slot) := by
  unfold State.closeSlotCtxs
  exact SameBusy.each (fun v g => SameBusy.each (fun w k => closeCtx_busy w g k) v _) s _

theorem bump_busy (s : State) (i c : Nat) : SameBusy s (s.bump i c) := fun _ => rfl

theorem withdrawJobs_busy (s : State) (slot : Nat) : SameBusy s (s.withdrawJobs slot) := by
  unfold State.withdrawJobs
  have hjobs : SameBusy s (s.each (s.jobsWhere fun j => j.desc.slot == slot) fun u e => (u.failJob e.1 e.2 ckWithdrawn).bump 0x4010 7) :=
    SameBusy.each (fun v (e : Nat × CipherJob) => (failJob_busy v e.1 e.2 ckWithdrawn).trans (bump_busy _ _ _)) s _
  exact hjobs.trans (closeSlotCtxs_busy _ slot)

/-- A state in which a slot is emptied and its erasure counted. -/
def State.slotEmptied (s : State) (n : Nat) : State :=
  (s.setSlot n { generation := (s.slot n).generation, loaded := s.tsc }).bump 0x4010 0x0A

theorem eraseSlot_eq (s : State) (n : Nat) : s.eraseSlot n = ((s.slotEmptied n).withdrawJobs n).settleCommand := rfl

theorem eraseSlot_busy (s : State) (slot : Nat) : SameBusy s (s.eraseSlot slot) := by
  have hset : SameBusy s (s.slotEmptied slot) := fun _ => rfl
  rw [eraseSlot_eq]
  exact (hset.trans (withdrawJobs_busy _ slot)).trans (SameBusy.of_keeps (settleCommand_keeps_self _))

/-! ## What runs under the slot stops -/

theorem Table.mem_erase {α : Type} {x : Nat × α} {k : Nat} : ∀ {t : Table α}, x ∈ Table.erase t k → x ∈ t ∧ x.1 ≠ k
  | [], h => absurd h List.not_mem_nil
  | (j, w) :: t, h => by
    unfold Table.erase at h
    by_cases hj : j = k
    · rw [if_pos hj] at h
      obtain ⟨hmem, hne⟩ := Table.mem_erase h
      exact ⟨List.mem_cons_of_mem _ hmem, hne⟩
    · rw [if_neg hj] at h
      rcases List.mem_cons.mp h with rfl | h
      · exact ⟨List.mem_cons_self, hj⟩
      · obtain ⟨hmem, hne⟩ := Table.mem_erase h
        exact ⟨List.mem_cons_of_mem _ hmem, hne⟩

/-- The jobs that are left once those of a list have failed. -/
theorem jobs_of_failed {status i c : Nat} {x : Nat × CipherJob} : ∀ (l : List (Nat × CipherJob)) (s : State),
    x ∈ (s.each l fun u e => (u.failJob e.1 e.2 status).bump i c).cipher.jobs → x ∈ s.cipher.jobs ∧ ∀ e ∈ l, x.1 ≠ e.1
  | [], _, h => ⟨h, fun _ he => absurd he List.not_mem_nil⟩
  | e :: l, s, h => by
    obtain ⟨hmem, hne⟩ := jobs_of_failed l ((s.failJob e.1 e.2 status).bump i c) h
    have hcipher : ((s.failJob e.1 e.2 status).bump i c).cipher = { s.cipher with jobs := Table.erase s.cipher.jobs e.1 } :=
      failJob_cipher s e.1 e.2 status
    rw [hcipher] at hmem
    obtain ⟨hold, hother⟩ := Table.mem_erase hmem
    exact ⟨hold, fun y hy => by
      rcases List.mem_cons.mp hy with rfl | hy
      · exact hother
      · exact hne y hy⟩

/-- No job in flight is left under a slot whose jobs are withdrawn. -/
theorem withdrawJobs_jobs {slot : Nat} {x : Nat × CipherJob} (h : x ∈ (s.withdrawJobs slot).cipher.jobs) (hslot : x.2.desc.slot = slot) :
    x.2.started = false := by
  unfold State.withdrawJobs at h
  have hclose := (State.closeSlotCtxs_keeps (.refl [.pages] (s.each (s.jobsWhere fun j => j.desc.slot == slot) fun u e =>
    (u.failJob e.1 e.2 ckWithdrawn).bump 0x4010 7)) slot (by decide)).frame .cipher (by decide)
  rw [hclose] at h
  obtain ⟨hmem, hne⟩ := jobs_of_failed _ s h
  refine Bool.eq_false_iff.mpr fun hstarted => ?_
  refine hne x ?_ rfl
  unfold State.jobsWhere
  refine List.mem_filter.mpr ⟨hmem, ?_⟩
  show (x.2.started && (x.2.desc.slot == slot)) = true
  rw [hstarted, hslot, beq_self_eq_true]
  rfl

theorem eraseSlot_jobs {slot : Nat} {x : Nat × CipherJob} (h : x ∈ (s.eraseSlot slot).cipher.jobs) (hslot : x.2.desc.slot = slot) :
    x.2.started = false := by
  have hcipher : ((s.slotEmptied slot).withdrawJobs slot).settleCommand.cipher = ((s.slotEmptied slot).withdrawJobs slot).cipher :=
    (settleCommand_keeps_self _).frame .cipher (by decide)
  rw [eraseSlot_eq, hcipher] at h
  exact withdrawJobs_jobs h hslot

theorem exec_eraseComplete (hp : s.rst.powered = true) (herasing : s.cipher.erasing = some f) (hwaiting : s.cipher.waiting = []) (t : Nat) :
    exec (.eraseComplete t f) s = .next (({ s.upTo t with cipher := { s.cipher with erasing := none } } : State).keyDone f 0).noKeyWaits := by
  show execEraseComplete t f s = _
  unfold execEraseComplete
  rw [State.run_powered hp]
  refine congrArg Host.Outcome.next ((if_pos herasing).trans ?_)
  have hwaiting' : (({ s.upTo t with cipher := { s.cipher with erasing := none } } : State).keyDone f 0).cipher.waiting = [] := hwaiting
  show State.serveKeys _ (({ s.upTo t with cipher := { s.cipher with erasing := none } } : State).keyDone f 0).cipher.waiting = _
  rw [hwaiting']
  rfl

theorem exec_eraseComplete_other (hp : s.rst.powered = true) (herasing : s.cipher.erasing ≠ some f) (t : Nat) :
    exec (.eraseComplete t f) s = .next (s.upTo t) := by
  show execEraseComplete t f s = _
  unfold execEraseComplete
  rw [State.run_powered hp]
  exact congrArg Host.Outcome.next (if_neg herasing)

theorem bits_27_26_lt (w : Nat) : bits w 27 26 < 4 := Nat.mod_lt _ (by decide)

/-! ## The commands -/

/-- The key store is at rest, and a page may give it a command. -/
structure State.KeysIdle (s : State) (f : Nat) (w : Word32) : Prop where
  powered : s.rst.powered = true
  opened : s.open f = true
  go : bit w.toNat 31 = true
  busy : (s.page f).keyBusy = false
  waiting : s.cipher.waiting = []
  erasing : s.cipher.erasing = none

/-- The instructions of the key commands, each with its OP. -/
def keyInstrs (t f : Nat) (w : Word32) : List (Nat × Instr) := [(1, .load t f w), (2, .unwrap t f w), (3, .erase t f w)]

theorem load_mem (t f : Nat) (w : Word32) : (1, Instr.load t f w) ∈ keyInstrs t f w := List.mem_cons_self

theorem unwrap_mem (t f : Nat) (w : Word32) : (2, Instr.unwrap t f w) ∈ keyInstrs t f w := List.mem_cons_of_mem _ List.mem_cons_self

theorem erase_mem (t f : Nat) (w : Word32) : (3, Instr.erase t f w) ∈ keyInstrs t f w :=
  List.mem_cons_of_mem _ (List.mem_cons_of_mem _ List.mem_cons_self)

variable {op : Nat} {c : Instr} {w : Word32}

theorem keyInstrs_op (h : (op, c) ∈ keyInstrs t f w) : op = 1 ∨ op = 2 ∨ op = 3 := by
  simp only [keyInstrs, List.mem_cons, List.not_mem_nil, or_false, Prod.mk.injEq] at h
  exact h.imp And.left (Or.imp And.left And.left)

theorem exec_keyInstr (h : s.KeysIdle f w) (hc : (op, c) ∈ keyInstrs t f w) (hop : keyOpIs w.toNat op = true) :
    exec c s = .next ((((s.upTo t).keyBusied f).performKey ((s.upTo t).keyAsked f w.toNat)).noKeyWaits) :=
  (exec_keyCommand h.powered h.opened hc hop).trans
    (congrArg Host.Outcome.next (keyCommand_served (s := s.upTo t) h.go h.busy h.waiting h.erasing))

theorem keyBusied_keeps (s : State) (f : Nat) : Keeps [.pages] s (s.keyBusied f) := State.setPage_keeps (.refl _ s) f _ (by decide)

/-- What a refused key command leaves. -/
theorem keyInstr_refused {r : Nat} (h : s.KeysIdle f w) (hc : (op, c) ∈ keyInstrs t f w) (hop : keyOpIs w.toNat op = true)
    (hr : ((s.upTo t).keyBusied f).performKey ((s.upTo t).keyAsked f w.toNat) = ((s.upTo t).keyBusied f).keyDone f r) :
    ∃ u, exec c s = .next u ∧ Did t [.pages] s u ∧ (u.page f).keyDone = true ∧ (u.page f).keyResult = r := by
  have hexec := exec_keyInstr (t := t) h hc hop
  rw [hr] at hexec
  obtain ⟨hkeeps, hdone, hresult, -⟩ := keyCommand_ends (r := r) (f := f) (keyBusied_keeps (s.upTo t) f) (by decide) h.waiting
  exact ⟨_, hexec, .of_keeps (hkeeps.mono (qs := [.pages])) (by decide), hdone, hresult⟩

/-- The word of a key command names no field outside its range. -/
structure KeyWordOk (w : Nat) : Prop where
  known : bits w 30 28 = 1 ∨ bits w 30 28 = 2 ∨ bits w 30 28 = 3
  type : bits w 30 28 = 1 → bits w 27 26 ≠ 0
  wrap : bits w 30 28 = 2 → bits w 25 24 < 2

theorem KeyWordOk.inRange {w : Nat} (h : KeyWordOk w) : ¬ ((bits w 30 28 ≠ 1 ∧ bits w 30 28 ≠ 2 ∧ bits w 30 28 ≠ 3) ∨
    (bits w 30 28 = 1 ∧ bits w 27 26 = 0) ∨ (bits w 30 28 = 2 ∧ 2 ≤ bits w 25 24)) := by
  obtain ⟨hknown, htype, hwrap⟩ := h
  omega

theorem exec_keyActs (h : s.KeysIdle f w) (hfree : s.held 3 1 = false) (hc : (op, c) ∈ keyInstrs t f w) (hop : bits w.toNat 30 28 = op)
    (hok : KeyWordOk w.toNat) (htarget : s.keyTarget f (bits w.toNat 23 16) = none) :
    exec c s = .next ((((s.upTo t).keyBusied f).keyActs ((s.upTo t).keyAsked f w.toNat)).noKeyWaits) := by
  rw [exec_keyInstr h hc (keyOpIs_self hop),
    performKey_acts (s := (s.upTo t).keyBusied f) (q := (s.upTo t).keyAsked f w.toNat) hfree hok.inRange htarget]

theorem keyInstr_denied {e : Nat} (h : s.KeysIdle f w) (hfree : s.held 3 1 = false) (hc : (op, c) ∈ keyInstrs t f w)
    (hop : bits w.toNat 30 28 = op) (hok : KeyWordOk w.toNat) (htarget : s.keyTarget f (bits w.toNat 23 16) = some e) :
    ∃ u, exec c s = .next u ∧ Did t [.pages] s u ∧ (u.page f).keyDone = true ∧ (u.page f).keyResult = e :=
  keyInstr_refused h hc (keyOpIs_self hop)
    (performKey_denied (s := (s.upTo t).keyBusied f) (q := (s.upTo t).keyAsked f w.toNat) hfree hok.inRange htarget)

/-- What a LOAD with a type leads to. -/
theorem keyActs_load (s : State) (q : KeyCommand) (hop : bits q.word 30 28 = 1) : s.keyActs q =
    if s.keyFits (bits q.word 23 16) (8 * (bits q.word 27 26 + 1)) then
      (s.loadSlot (bits q.word 23 16) (q.data.take (8 * (bits q.word 27 26 + 1)))).keyDone q.page 0
    else s.keyDone q.page ckMismatch := by
  unfold State.keyActs
  rw [if_neg (by omega), if_pos hop]

theorem keyActs_unwrap (s : State) (q : KeyCommand) (hop : bits q.word 30 28 = 2) :
    (∀ k, s.unwrapKey (bits q.word 23 16) (bits q.word 15 8) (bits q.word 25 24) (bits q.word 5 0) q.data = .ok k →
      s.keyActs q = (s.loadSlot (bits q.word 23 16) k).keyDone q.page 0) ∧
    ∀ e, s.unwrapKey (bits q.word 23 16) (bits q.word 15 8) (bits q.word 25 24) (bits q.word 5 0) q.data = .error e →
      s.keyActs q = (if e = ckAuthFail then s.bump 0x4010 (if q.onFail then 4 else 3) else s).keyDone q.page e := by
  refine ⟨fun k hk => ?_, fun e he => ?_⟩
  · unfold State.keyActs
    rw [if_neg (by omega), if_neg (by omega), hk]
  · unfold State.keyActs
    rw [if_neg (by omega), if_neg (by omega), he]

theorem keyActs_erase (s : State) (q : KeyCommand) (hop : bits q.word 30 28 = 3) : s.keyActs q =
    { s.eraseSlot (bits q.word 23 16) with cipher := { (s.eraseSlot (bits q.word 23 16)).cipher with erasing := some q.page } } := by
  unfold State.keyActs
  exact if_pos hop

theorem load_leaves (h : s.KeysIdle f w) (hfree : s.held 3 1 = false) (hop : bits w.toNat 30 28 = 1) (hty : bits w.toNat 27 26 ≠ 0)
    (htarget : s.keyTarget f (bits w.toNat 23 16) = none) :
    (s.keyFits (bits w.toNat 23 16) (8 * (bits w.toNat 27 26 + 1)) = true → exec (.load t f w) s =
      .next ((((s.upTo t).keyBusied f).loadSlot (bits w.toNat 23 16)
        (Table.getBytes (s.page f).keyData 0 (8 * (bits w.toNat 27 26 + 1)))).keyDone f 0).noKeyWaits) ∧
    (s.keyFits (bits w.toNat 23 16) (8 * (bits w.toNat 27 26 + 1)) = false → exec (.load t f w) s =
      .next (((s.upTo t).keyBusied f).keyDone f ckMismatch).noKeyWaits) := by
  have hexec := exec_keyActs (t := t) h hfree (load_mem t f w) hop ⟨.inl hop, fun _ => hty, fun hc => by omega⟩ htarget
  rw [keyActs_load ((s.upTo t).keyBusied f) ((s.upTo t).keyAsked f w.toNat) hop] at hexec
  have hty4 := bits_27_26_lt w.toNat
  have hdata : ((s.upTo t).keyAsked f w.toNat).data.take (8 * (bits w.toNat 27 26 + 1)) =
      Table.getBytes (s.page f).keyData 0 (8 * (bits w.toNat 27 26 + 1)) := take_getBytes _ (by omega)
  refine ⟨fun hfits => ?_, fun hfits => ?_⟩
  · have hfits' : ((s.upTo t).keyBusied f).keyFits (bits ((s.upTo t).keyAsked f w.toNat).word 23 16)
      (8 * (bits ((s.upTo t).keyAsked f w.toNat).word 27 26 + 1)) = true := hfits
    rw [if_pos hfits'] at hexec
    exact hexec.trans (congrArg (fun d => Host.Outcome.next ((((s.upTo t).keyBusied f).loadSlot (bits w.toNat 23 16) d).keyDone f 0).noKeyWaits) hdata)
  · have hfits' : ((s.upTo t).keyBusied f).keyFits (bits ((s.upTo t).keyAsked f w.toNat).word 23 16)
      (8 * (bits ((s.upTo t).keyAsked f w.toNat).word 27 26 + 1)) = false := hfits
    rw [if_neg (by rw [hfits']; decide)] at hexec
    exact hexec

/-- What a rejected key leaves. -/
theorem unwrap_refused {e : Nat} (h : s.KeysIdle f w) (hfree : s.held 3 1 = false) (hop : bits w.toNat 30 28 = 2) (hwrap : bits w.toNat 25 24 < 2)
    (htarget : s.keyTarget f (bits w.toNat 23 16) = none)
    (hkey : s.unwrapKey (bits w.toNat 23 16) (bits w.toNat 15 8) (bits w.toNat 25 24) (bits w.toNat 5 0)
      (Table.getBytes (s.page f).keyData 0 48) = .error e) :
    ∃ u, exec (.unwrap t f w) s = .next u ∧ Did t [.dict, .pages] s u ∧ (u.page f).keyDone = true ∧ (u.page f).keyResult = e ∧
      (u.page f).keyData = [] := by
  have hexec := exec_keyActs (t := t) h hfree (unwrap_mem t f w) hop ⟨.inr (.inl hop), fun hc => by omega, fun _ => hwrap⟩ htarget
  rw [(keyActs_unwrap ((s.upTo t).keyBusied f) ((s.upTo t).keyAsked f w.toNat) hop).2 e hkey] at hexec
  have hcounted : Keeps [.dict, .pages] (s.upTo t) (if e = ckAuthFail then ((s.upTo t).keyBusied f).bump 0x4010
      (if ((s.upTo t).keyAsked f w.toNat).onFail then 4 else 3) else (s.upTo t).keyBusied f) :=
    Keeps.ite (State.bump_keeps (keyBusied_keeps (s.upTo t) f).mono _ _ (by decide)) (keyBusied_keeps (s.upTo t) f).mono
  obtain ⟨hkeeps, hdone, hresult, hdata⟩ := keyCommand_ends (r := e) (f := f) hcounted (by decide) h.waiting
  exact ⟨_, hexec, .of_keeps (hkeeps.mono (qs := [.dict, .pages])) (by decide), hdone, hresult, hdata⟩

theorem exec_unwrap_loads {k : Bytes} (h : s.KeysIdle f w) (hfree : s.held 3 1 = false) (hop : bits w.toNat 30 28 = 2)
    (hwrap : bits w.toNat 25 24 < 2) (htarget : s.keyTarget f (bits w.toNat 23 16) = none)
    (hkey : s.unwrapKey (bits w.toNat 23 16) (bits w.toNat 15 8) (bits w.toNat 25 24) (bits w.toNat 5 0)
      (Table.getBytes (s.page f).keyData 0 48) = .ok k) :
    exec (.unwrap t f w) s = .next ((((s.upTo t).keyBusied f).loadSlot (bits w.toNat 23 16) k).keyDone f 0).noKeyWaits := by
  have hexec := exec_keyActs (t := t) h hfree (unwrap_mem t f w) hop ⟨.inr (.inl hop), fun hc => by omega, fun _ => hwrap⟩ htarget
  rw [(keyActs_unwrap ((s.upTo t).keyBusied f) ((s.upTo t).keyAsked f w.toNat) hop).1 k hkey] at hexec
  exact hexec

/-- What an ERASE leaves whose slot a page may erase. -/
theorem erase_leaves (h : s.KeysIdle f w) (hfree : s.held 3 1 = false) (hop : bits w.toNat 30 28 = 3)
    (htarget : s.keyTarget f (bits w.toNat 23 16) = none) :
    ∃ u, exec (.erase t f w) s = .next u ∧ (∀ m, m ≠ bits w.toNat 23 16 → u.slot m = s.slot m) ∧
      u.slot (bits w.toNat 23 16) = { generation := (s.slot (bits w.toNat 23 16)).generation, loaded := max s.tsc t } ∧
      u.cipher.erasing = some f ∧ (u.page f).keyBusy = true ∧
      ∀ e ∈ u.cipher.jobs, e.2.desc.slot = bits w.toNat 23 16 → e.2.started = false := by
  have hexec := exec_keyActs (t := t) h hfree (erase_mem t f w) hop ⟨.inr (.inr hop), fun hc => by omega, fun hc => by omega⟩ htarget
  rw [keyActs_erase ((s.upTo t).keyBusied f) ((s.upTo t).keyAsked f w.toNat) hop] at hexec
  have hself := ((s.upTo t).keyBusied f).slot_eraseSlot_self (bits w.toNat 23 16)
  have hother : ∀ m, m ≠ bits w.toNat 23 16 → (((s.upTo t).keyBusied f).eraseSlot (bits w.toNat 23 16)).slot m = s.slot m :=
    fun m hm => ((s.upTo t).keyBusied f).slot_eraseSlot_ne hm
  have hbusy : ((((s.upTo t).keyBusied f).eraseSlot (bits w.toNat 23 16)).page f).keyBusy = true :=
    (eraseSlot_busy ((s.upTo t).keyBusied f) (bits w.toNat 23 16) f).trans (congrArg Page.keyBusy (State.page_setPage_self _ _ _))
  have hjobs : ∀ e ∈ (((s.upTo t).keyBusied f).eraseSlot (bits w.toNat 23 16)).cipher.jobs, e.2.desc.slot = bits w.toNat 23 16 →
      e.2.started = false := fun e he hslot => eraseSlot_jobs he hslot
  have hword : bits ((s.upTo t).keyAsked f w.toNat).word 23 16 = bits w.toNat 23 16 := rfl
  rw [hword] at hexec
  generalize ((s.upTo t).keyBusied f).eraseSlot (bits w.toNat 23 16) = v at hexec hself hother hbusy hjobs
  exact ⟨_, hexec, hother, hself, rfl, hbusy, hjobs⟩

end KeyErasure

/-- Settles O45: the word reaches the key store, which refuses it, loads a slot, or erases one. -/
theorem keyCommandsComplete : Obligations.KeyCommandsComplete := by
  unfold Obligations.KeyCommandsComplete
  intro s t f w hs hopen hgo
  obtain ⟨-, hp⟩ := hs
  refine ⟨fun hbusy hwaiting herasing hfree => ?served, fun hbusy hwaiting herasing hheld op c hc hop => ?held,
    fun hbusy op c hc hop => ?busy, fun herasing hwaiting => ?complete, fun g hg => ⟨_, exec_eraseComplete_other hp hg t, .record⟩⟩
  case held =>
    exact keyInstr_refused ⟨hp, hopen, hgo, hbusy, hwaiting, herasing⟩ hc (keyOpIs_self hop)
      (performKey_held (s := (s.upTo t).keyBusied f) hheld)
  case busy =>
    have h := exec_keyCommand (t := t) hp hopen hc (keyOpIs_self hop)
    rw [keyCommand_overlaps (s := s.upTo t) hgo hbusy] at h
    exact ⟨_, h, .of_keeps (State.setPage_keeps (.refl _ _) f _ (by decide)) (by decide), State.page_setPage_self _ _ _,
      fun g hg => State.page_setPage_ne _ _ _ hg⟩
  case complete =>
    refine ⟨_, exec_eraseComplete hp herasing hwaiting t, .record, ?_, State.page_setPage_self _ _ _, fun g hg => State.page_setPage_ne _ _ _ hg⟩
    exact (congrArg (fun l => ({ s.cipher with erasing := none, waiting := l } : Cipher)) hwaiting.symm)
  case served =>
    have hidle : s.KeysIdle f w := ⟨hp, hopen, hgo, hbusy, hwaiting, herasing⟩
    refine ⟨fun n ty hop hty hty0 hn htarget hfits => ?_, fun n k hop hwrap hn htarget hkey => ?_, fun n e hop hwrap hn htarget hkey => ?_,
      fun n hop hn htarget => ?_, fun op c e hc hop hty hwrap htarget => ?_, fun hop hty htarget hfits => ?_, fun h₂ h₃ hrange => ?_,
      fun hop hwrap => ?_⟩
    · subst hn hty
      obtain ⟨hother, hslot, hrest⟩ := loaded_leaves (s.upTo t) f (bits w.toNat 23 16)
        (Table.getBytes (s.page f).keyData 0 (8 * (bits w.toNat 27 26 + 1)))
      refine ⟨_, (load_leaves hidle hfree hop hty0 htarget).1 hfits, hother, hslot.trans ?_, hrest⟩
      unfold KeySlot.took
      rw [length_getBytes, keyType_of_ty (bits_27_26_lt w.toNat) hty0]
      rfl
    · subst hn
      obtain ⟨hother, hslot, hrest⟩ := loaded_leaves (s.upTo t) f (bits w.toNat 23 16) k
      exact ⟨_, exec_unwrap_loads hidle hfree hop hwrap htarget hkey, hother, hslot, hrest⟩
    · subst hn
      exact unwrap_refused hidle hfree hop hwrap htarget hkey
    · subst hn
      exact erase_leaves hidle hfree hop htarget
    · exact keyInstr_denied hidle hfree hc hop ⟨hop ▸ keyInstrs_op hc, fun h => hty (hop.symm.trans h), fun h => hwrap (hop.symm.trans h)⟩ htarget
    · obtain ⟨hkeeps, hdone, hresult, -⟩ := keyCommand_ends (r := ckMismatch) (f := f) (keyBusied_keeps (s.upTo t) f) (by decide) hwaiting
      exact ⟨_, (load_leaves hidle hfree hop hty htarget).2 hfits, .of_keeps (hkeeps.mono (qs := [.pages])) (by decide), hdone, hresult⟩
    · exact keyInstr_refused hidle (load_mem t f w) (keyOpIs_load h₂ h₃)
        (performKey_range (s := (s.upTo t).keyBusied f) (q := (s.upTo t).keyAsked f w.toNat) hfree
          (show (bits w.toNat 30 28 ≠ 1 ∧ bits w.toNat 30 28 ≠ 2 ∧ bits w.toNat 30 28 ≠ 3) ∨ (bits w.toNat 30 28 = 1 ∧ bits w.toNat 27 26 = 0) ∨
            (bits w.toNat 30 28 = 2 ∧ 2 ≤ bits w.toNat 25 24) by omega))
    · exact keyInstr_refused hidle (unwrap_mem t f w) (keyOpIs_self hop)
        (performKey_range (s := (s.upTo t).keyBusied f) (q := (s.upTo t).keyAsked f w.toNat) hfree (.inr (.inr ⟨hop, hwrap⟩)))

end Sys2Proof.Machine
end

section
/-! Storage errors of the key store, and aborts of contexts (R329, R330, R334). -/

set_option Elab.async false

namespace Sys2Proof.Machine

section KeyStoreErrors

variable {ps : List Part} {s u v : State} {t n f : Nat} {j : CipherJob}

/-! ## Conditions detected as statuses settle -/

/-- No detected condition is lost. -/
def Heard (s u : State) : Prop := s.log.detected.length ≤ u.log.detected.length

theorem Heard.of_keeps (h : Keeps ps s u) (hps : Part.log ∉ ps := by decide) : Heard s u := by
  unfold Heard
  rw [h.frame .log hps]

theorem Heard.trans (h : Heard s u) (k : Heard u v) : Heard s v := le_trans (b := u.log.detected.length) h k

theorem event_heard (s : State) (src code sev : Nat) (data : Bytes) : s.log.detected.length < (s.event src code sev data).log.detected.length := by
  rw [State.event_detected, List.length_append, List.length_singleton]
  exact Nat.lt_succ_self _

theorem Heard.each {α : Type} {g : State → α → State} (hg : ∀ v x, Heard v (g v x)) (s : State) (l : List α) : Heard s (s.each l g) :=
  State.each_of_step (P := Heard s) (fun v x hv => hv.trans (hg v x)) (le_refl _) l

theorem settleLink_heard (s : State) (p : Nat) (quiet : Bool) (k : Nat) : Heard s (s.settleLink p quiet k) := by
  unfold State.settleLink
  extract_lets x ss rs warn fresh u c w y
  have hw : Heard s w := by
    unfold w
    split
    · exact le_refl _
    · exact le_refl _
  have hy : Heard s y := by
    unfold y
    split
    · exact hw.trans (Nat.le_of_lt (event_heard (w.bump (0x34A0 + p) 0x0B) _ _ _ _))
    · exact hw
  split
  · exact hy.trans (Nat.le_of_lt (event_heard y _ _ _ _))
  · exact hy

theorem settleCommand_heard (s : State) : Heard s s.settleCommand := by
  have hlinks : Heard s (s.settleLinks false) := by
    unfold State.settleLinks
    exact Heard.each (fun v p => Heard.each (fun w k => settleLink_heard w p false k) v _) s _
  exact hlinks.trans (Heard.of_keeps (settleMatrix_keeps_self _))

/-! ## Jobs withdrawn -/

/-- What withdrawn jobs leave of the engine: its jobs alone have changed. -/
def JobsOnly (s u : State) : Prop := ∃ l, u.cipher = { s.cipher with jobs := l }

theorem JobsOnly.trans (h : JobsOnly s u) (k : JobsOnly u v) : JobsOnly s v := by
  obtain ⟨l, hl⟩ := h
  obtain ⟨m, hm⟩ := k
  refine ⟨m, ?_⟩
  rw [hm, hl]

theorem JobsOnly.each {α : Type} {g : State → α → State} (hg : ∀ v x, JobsOnly v (g v x)) (s : State) (l : List α) : JobsOnly s (s.each l g) :=
  State.each_of_step (P := JobsOnly s) (fun v x hv => hv.trans (hg v x)) ⟨s.cipher.jobs, rfl⟩ l

theorem JobsOnly.of_keeps (h : Keeps ps s u) (hps : Part.cipher ∉ ps := by decide) : JobsOnly s u := ⟨s.cipher.jobs, h.frame .cipher hps⟩

theorem failJob_jobsOnly (s : State) (n : Nat) (j : CipherJob) (status : Nat) : JobsOnly s (s.failJob n j status) := ⟨_, failJob_cipher s n j status⟩

theorem withdrawJobs_jobsOnly (s : State) (slot : Nat) : JobsOnly s (s.withdrawJobs slot) := by
  have hstep : ∀ (v : State) (e : Nat × CipherJob), JobsOnly v ((v.failJob e.1 e.2 ckWithdrawn).bump 0x4010 7) :=
    fun v e => failJob_jobsOnly v e.1 e.2 ckWithdrawn
  unfold State.withdrawJobs
  exact (JobsOnly.each hstep s _).trans (JobsOnly.of_keeps (State.closeSlotCtxs_keeps (.refl [.pages] _) slot (by decide)))

theorem JobsOnly.slot (h : JobsOnly s u) (m : Nat) : u.slot m = s.slot m := by
  obtain ⟨l, hl⟩ := h
  unfold State.slot
  rw [hl]

theorem withdrawJobs_keeps_self (s : State) (slot : Nat) : Keeps [.out, .dict, .pages, .cipher] s (s.withdrawJobs slot) :=
  State.withdrawJobs_keeps (.refl _ s) slot (by decide) (by decide) (by decide) (by decide)

/-- An erasure loses no detected condition. -/
theorem eraseSlot_heard (s : State) (slot : Nat) : Heard s (s.eraseSlot slot) := by
  have hempty : Heard s (s.slotEmptied slot) := le_refl _
  rw [eraseSlot_eq]
  exact (hempty.trans (Heard.of_keeps (withdrawJobs_keeps_self _ slot))).trans (settleCommand_heard _)

/-! ## The commands -/

theorem exec_slotStorageError_slot (hp : s.rst.powered = true) (hn : n ≠ 255) (t : Nat) :
    exec (.slotStorageError t (some n)) s = .next (((s.upTo t).event srcKeys 0x0802 sevAlarm (toBE 1 n)).eraseSlot n) := by
  show execSlotStorageError t (some n) s = _
  unfold execSlotStorageError
  rw [State.run_powered hp]
  exact congrArg Host.Outcome.next (if_neg hn)

/-- A state in which the jobs under slot 255 have stopped for an error of its storage. -/
def State.otpFailed (s : State) : State := (s.event srcKeys 0x0802 sevAlarm (toBE 1 255)).withdrawJobs 255

theorem exec_slotStorageError_otp (hp : s.rst.powered = true) (t : Nat) : exec (.slotStorageError t (some 255)) s =
    .next (if (s.upTo t).otpFailed.cipher.blocked255 then (s.upTo t).otpFailed
      else (s.upTo t).otpFailed.setSlot 255 { (s.upTo t).otpFailed.slot 255 with
        key := Config.keyEncryptionKey, shadow := Config.keyEncryptionKey, loaded := (s.upTo t).otpFailed.tsc }) := by
  show execSlotStorageError t (some 255) s = _
  unfold execSlotStorageError
  rw [State.run_powered hp]
  rfl

theorem otpFailed_jobsOnly (s : State) : JobsOnly s s.otpFailed := withdrawJobs_jobsOnly (s.event srcKeys 0x0802 sevAlarm (toBE 1 255)) 255

theorem otpFailed_tsc (s : State) : s.otpFailed.tsc = s.tsc := (withdrawJobs_keeps_self _ 255).frame .tsc (by decide)

theorem otpFailed_blocked (s : State) : s.otpFailed.cipher.blocked255 = s.cipher.blocked255 := by
  obtain ⟨l, hl⟩ := otpFailed_jobsOnly s
  rw [hl]

/-- The key store's block as its control state has failed, ahead of the fatal error. -/
def State.keysHeld (s : State) : State := (s.setBlock 3 1 { s.block 3 1 with state := .held }).event (srcBlock 3 1) 0x0205 sevAlarm []

theorem exec_slotStorageError_control (hp : s.rst.powered = true) (hval : s.val 0x1010 5 = 0) (t : Nat) :
    exec (.slotStorageError t none) s = .next ((s.upTo t).keysHeld.fatalSafe 2 (srcBlock 3 1)) := by
  have hexec : exec (.slotStorageError t none) s = .next ((s.upTo t).keysHeld.fatal 2 (srcBlock 3 1)) := by
    show execSlotStorageError t none s = _
    unfold execSlotStorageError
    rw [State.run_powered hp]
    rfl
  rw [hexec, State.fatal_safe (s := (s.upTo t).keysHeld) hval]

/-! ## Aborts of contexts (R334) -/

theorem setCtx_ctx_ne (s : State) (f : Nat) {i k : Nat} (c : CipherCtx) (h : k ≠ i) : ((s.setCtx f i c).page f).ctx k = (s.page f).ctx k := by
  unfold State.setCtx
  rw [State.page_setPage_self]
  exact Table.get_put_ne _ _ h

theorem closeCtx_ctx (s : State) (f : Nat) {i : Nat} (hi : i < 4) (k : Nat) :
    ((s.closeCtx f i).page f).ctx k = if k = i then {} else (s.page f).ctx k := by
  unfold State.closeCtx
  rw [if_pos hi]
  by_cases hk : k = i
  · rw [if_pos hk, hk, setCtx_ctx]
  · rw [if_neg hk, setCtx_ctx_ne _ _ _ hk]

theorem consumeRing_ctx (s : State) (f i k : Nat) : ((s.consumeRing f i).page f).ctx k = (s.page f).ctx k := by
  unfold State.consumeRing
  dsimp only
  split
  · rw [State.page_setPage_self]
    rfl
  · rfl

/-- A job that fails leaves every context of its page but its own. -/
theorem failJob_ctx_ne {k : Nat} (h : k ≠ j.desc.ctx) (s : State) (n status : Nat) :
    ((s.failJob n j status).page j.page).ctx k = (s.page j.page).ctx k := by
  have hpage : ((if j.started then (s.withoutJob n).closeCtx j.page j.desc.ctx else (s.withoutJob n).consumeRing j.page 4).page j.page).ctx k =
      (s.page j.page).ctx k := by
    split
    · by_cases hctx : j.desc.ctx < 4
      · rw [closeCtx_ctx _ _ hctx, if_neg h]
        rfl
      · unfold State.closeCtx
        rw [if_neg hctx]
        rfl
    · exact consumeRing_ctx (s.withoutJob n) j.page 4 k
  rw [failJob_eq, postDone_ctx]
  unfold State.jobFailing
  dsimp only
  by_cases hz : zeroes status = true
  · rw [if_pos hz, writeOut_page]
    exact hpage
  · rw [if_neg hz]
    exact hpage

theorem each_failJob_ctx {i k status : Nat} (hk : k ≠ i) : ∀ (l : List (Nat × CipherJob)), (∀ e ∈ l, e.2.page = f ∧ e.2.desc.ctx = i) → ∀ s : State,
    ((s.each l fun x e => x.failJob e.1 e.2 status).page f).ctx k = (s.page f).ctx k
  | [], _, _ => rfl
  | e :: l, h, s => by
    obtain ⟨hpage, hctx⟩ := h e List.mem_cons_self
    have hhead := failJob_ctx_ne (j := e.2) (hctx.symm ▸ hk) s e.1 status
    rw [hpage] at hhead
    exact (each_failJob_ctx hk l (fun x hx => h x (List.mem_cons_of_mem _ hx)) (s.failJob e.1 e.2 status)).trans hhead

/-- The abort of one context. -/
def State.abortCtx (s : State) (f i : Nat) : State :=
  (s.each (s.jobsWhere fun j => j.page == f && j.desc.ctx == i) fun x e => x.failJob e.1 e.2 ckContext).closeCtx f i

theorem abortCtxs_eq (s : State) (f : Nat) (w : Word32) :
    s.abortCtxs f w = s.each ((List.range 4).filter (bit w.toNat)) fun u i => u.abortCtx f i := rfl

theorem abortCtx_ctx (s : State) (f : Nat) {i : Nat} (hi : i < 4) (k : Nat) :
    ((s.abortCtx f i).page f).ctx k = if k = i then {} else (s.page f).ctx k := by
  unfold State.abortCtx
  rw [closeCtx_ctx _ _ hi]
  by_cases hk : k = i
  · rw [if_pos hk, if_pos hk]
  · rw [if_neg hk, if_neg hk]
    refine each_failJob_ctx hk _ (fun e he => ?_) s
    have h := (List.mem_filter.mp he).2
    simp only [Bool.and_eq_true, beq_iff_eq] at h
    exact h.2

theorem abortCtx_keeps (s : State) (f i : Nat) : Keeps [.out, .dict, .pages, .cipher] s (s.abortCtx f i) :=
  State.closeCtx_keeps (Keeps.each (.refl _ s) fun v (e : Nat × CipherJob) => failJob_keeps_self v e.1 e.2 ckContext) f i (by decide)

theorem abortCtx_jobsOnly (s : State) (f i : Nat) : JobsOnly s (s.abortCtx f i) := by
  have hjobs : JobsOnly s (s.each (s.jobsWhere fun j => j.page == f && j.desc.ctx == i) fun x e => x.failJob e.1 e.2 ckContext) :=
    JobsOnly.each (fun v (e : Nat × CipherJob) => failJob_jobsOnly v e.1 e.2 ckContext) s _
  exact hjobs.trans (JobsOnly.of_keeps (State.closeCtx_keeps (.refl [.pages] _) f i (by decide)))

theorem each_abortCtx_ctx (f k : Nat) : ∀ (l : List Nat), (∀ i ∈ l, i < 4) → ∀ s : State,
    ((s.each l fun u i => u.abortCtx f i).page f).ctx k = if k ∈ l then {} else (s.page f).ctx k
  | [], _, _ => rfl
  | i :: l, h, s => by
    have hhead := abortCtx_ctx s f (h i List.mem_cons_self) k
    refine (each_abortCtx_ctx f k l (fun x hx => h x (List.mem_cons_of_mem _ hx)) (s.abortCtx f i)).trans ?_
    rw [hhead]
    by_cases hl : k ∈ l
    · rw [if_pos hl, if_pos (List.mem_cons_of_mem _ hl)]
    · rw [if_neg hl]
      by_cases hk : k = i
      · rw [if_pos hk, if_pos (hk ▸ List.mem_cons_self)]
      · rw [if_neg hk, if_neg (fun hc => (List.mem_cons.mp hc).elim hk hl)]

theorem exec_ctxAbort (hp : s.rst.powered = true) (hopen : s.open f = true ∨ f = 64) (t : Nat) (w : Word32) :
    exec (.ctxAbort t f w) s = .next ((s.upTo t).abortCtxs f w) := by
  show execCtxAbort t f w s = _
  unfold execCtxAbort
  rw [State.run_powered hp]
  exact congrArg Host.Outcome.next (if_pos hopen)

end KeyStoreErrors

/-- Settles O46: an erasure, a reload, a block held out of service, and contexts closed one by one. -/
theorem keyStoreErrorsComplete : Obligations.KeyStoreErrorsComplete := by
  unfold Obligations.KeyStoreErrorsComplete
  intro s t f w hs
  obtain ⟨-, hp⟩ := hs
  refine ⟨fun n hn => ?slot, fun hopen => ?reload, fun hblocked => ?blocked, fun hval => ?control, fun hopen => ?abort⟩
  case slot =>
    have hexec := exec_slotStorageError_slot (n := n) hp (by omega) t
    have hself := State.slot_eraseSlot_self ((s.upTo t).event srcKeys 0x0802 sevAlarm (toBE 1 n)) n
    have hother : ∀ m, m ≠ n → (((s.upTo t).event srcKeys 0x0802 sevAlarm (toBE 1 n)).eraseSlot n).slot m = s.slot m :=
      fun m hm => State.slot_eraseSlot_ne _ hm
    have hheard := Nat.lt_of_lt_of_le (event_heard (s.upTo t) srcKeys 0x0802 sevAlarm (toBE 1 n))
      (eraseSlot_heard ((s.upTo t).event srcKeys 0x0802 sevAlarm (toBE 1 n)) n)
    exact ⟨_, hexec, hother, hself, hheard⟩
  case reload =>
    have hexec := exec_slotStorageError_otp hp t
    have hjobs := otpFailed_jobsOnly (s.upTo t)
    have hblocked := (otpFailed_blocked (s.upTo t)).trans hopen
    rw [if_neg (by rw [hblocked]; decide), hjobs.slot 255, otpFailed_tsc] at hexec
    exact ⟨_, hexec, fun m hm => (State.slot_setSlot_ne _ _ _ hm).trans (hjobs.slot m), State.slot_setSlot_self ..⟩
  case blocked =>
    have hexec := exec_slotStorageError_otp hp t
    rw [if_pos ((otpFailed_blocked (s.upTo t)).trans hblocked)] at hexec
    obtain ⟨l, hl⟩ := otpFailed_jobsOnly (s.upTo t)
    exact ⟨_, hexec, (congrArg Cipher.slots hl :)⟩
  case control =>
    have hheld : ((s.upTo t).keysHeld.block 3 1).state = .held := congrArg Block.state (State.block_setBlock_self (s.upTo t) 3 1 _)
    exact ⟨_, exec_slotStorageError_control hp hval t, hheld, rfl, rfl,
      State.makeSafe_atRest _, rfl⟩
  case abort =>
    have hexec := exec_ctxAbort hp hopen t w
    rw [abortCtxs_eq] at hexec
    obtain ⟨l, hl⟩ : JobsOnly (s.upTo t) ((s.upTo t).each ((List.range 4).filter (bit w.toNat)) fun u i => u.abortCtx f i) :=
      JobsOnly.each (fun v i => abortCtx_jobsOnly v f i) _ _
    have hctx := fun k => each_abortCtx_ctx f k ((List.range 4).filter (bit w.toNat)) (fun i hi => List.mem_range.mp (List.mem_filter.mp hi).1) (s.upTo t)
    refine ⟨_, hexec, .of_keeps (Keeps.each (.refl _ _) fun v i => abortCtx_keeps v f i) (by decide), (congrArg Cipher.slots hl :),
      fun n hn => ⟨fun hbit => ?_, fun hbit => ?_⟩⟩
    · rw [hctx n, if_pos (List.mem_filter.mpr ⟨List.mem_range.mpr hn, hbit⟩)]
    · rw [hctx n, if_neg fun hc => Bool.noConfusion (hbit.symm.trans (List.mem_filter.mp hc).2)]
      rfl

end Sys2Proof.Machine
end

section
/-! Check parts and check contexts (R347, R348, R354-R360). -/

set_option Elab.async false

namespace Sys2Proof.Machine

section CheckParts

variable {ps : List Part} {s u v : State} {t f ctx e : Nat} {x : CheckPart} {d : CheckDesc} {data : Bytes} {w : Word32}

/-! ## Contexts of a page -/

theorem setCheck_check (s : State) (f n : Nat) (c : CheckCtx) : ((s.setCheck f n c).page f).check n = c := by
  unfold State.setCheck
  rw [State.page_setPage_self]
  exact Table.get_put_self _ _ _

theorem setCheck_check_ne (s : State) (f : Nat) {n k : Nat} (c : CheckCtx) (h : k ≠ n) :
    ((s.setCheck f n c).page f).check k = (s.page f).check k := by
  unfold State.setCheck
  rw [State.page_setPage_self]
  exact Table.get_put_ne _ _ h

theorem setCheck_page_ne (s : State) {f g : Nat} (n : Nat) (c : CheckCtx) (h : g ≠ f) : (s.setCheck f n c).page g = s.page g :=
  State.page_setPage_ne _ _ _ h

theorem setCheck_keeps_self (s : State) (f n : Nat) (c : CheckCtx) : Keeps [.pages] s (s.setCheck f n c) :=
  State.setPage_keeps (.refl _ s) f _ (by decide)

/-- A page, its rings apart. -/
structure SameChecks (x y : Page) : Prop where
  checks : y.checks = x.checks
  mismatch : y.mismatch = x.mismatch
  misCount : y.misCount = x.misCount

theorem SameChecks.trans {x y z : Page} (h : SameChecks x y) (k : SameChecks y z) : SameChecks x z :=
  ⟨k.checks.trans h.checks, k.mismatch.trans h.mismatch, k.misCount.trans h.misCount⟩

theorem SameChecks.check {x y : Page} (h : SameChecks x y) (n : Nat) : y.check n = x.check n := by
  unfold Page.check
  rw [h.checks]

theorem postRing_checks (s : State) (f k : Nat) (data : Bytes) : SameChecks (s.page f) ((s.postRing f k data).page f) := by
  rw [State.postRing_page]
  split
  · exact ⟨rfl, rfl, rfl⟩
  · exact ⟨rfl, rfl, rfl⟩

theorem consumeRing_checks (s : State) (f k : Nat) : SameChecks (s.page f) ((s.consumeRing f k).page f) := by
  unfold State.consumeRing
  dsimp only
  split
  · rw [State.page_setPage_self]
    exact ⟨rfl, rfl, rfl⟩
  · exact ⟨rfl, rfl, rfl⟩

/-! ## Completions -/

/-- A state in which the completion of a part is posted but not yet counted. -/
def State.checkPosted (s : State) (x : CheckPart) (status result : Nat) (final : Bool) : State :=
  let d := toLE 4 x.desc.jobTag ++ toLE 2 status ++ toLE 1 (ofBool final) ++ toLE 1 0 ++ toLE 8 result ++ toLE 8 s.tsc ++ toLE 8 0
  if x.page < 64 then s.postRing x.page 7 d else s.emit (.hostWrite x.page 7 0 d)

theorem postCheck_eq (s : State) (x : CheckPart) (status result : Nat) (final : Bool) :
    s.postCheck x status result final = (s.checkPosted x status result final).bump 0x4210 (if status = 0 then 1 else 2) := rfl

theorem checkPosted_keeps (s : State) (x : CheckPart) (status result : Nat) (final : Bool) :
    Keeps [.out, .pages] s (s.checkPosted x status result final) :=
  Keeps.ite (State.postRing_keeps (.refl _ s) _ _ _ (by decide) (by decide)) (State.emit_keeps (.refl _ s) _ (by decide))

theorem postCheck_keeps_self (s : State) (x : CheckPart) (status result : Nat) (final : Bool) :
    Keeps [.out, .dict, .pages] s (s.postCheck x status result final) :=
  State.bump_keeps (checkPosted_keeps s x status result final).mono _ _ (by decide)

theorem postCheck_checks (s : State) (x : CheckPart) (status result : Nat) (final : Bool) :
    SameChecks (s.page x.page) ((s.postCheck x status result final).page x.page) := by
  rw [postCheck_eq, State.bump_page]
  unfold State.checkPosted
  dsimp only
  split
  · exact postRing_checks ..
  · exact ⟨rfl, rfl, rfl⟩

theorem dropCheck_keeps (s : State) (x : CheckPart) : Keeps [.checkParts] s (s.dropCheck x) :=
  Keeps.record (.refl _ s) rfl rfl rfl rfl rfl rfl rfl rfl rfl rfl rfl rfl rfl rfl rfl rfl rfl rfl rfl

/-! ## A part fails -/

/-- A state in which a failing part has gone, but not yet its completion. -/
def State.checkFailing (s : State) (x : CheckPart) : State :=
  if x.dispatched then
    (if x.desc.ctx < 4 then
      (s.dropCheck x).setCheck x.page x.desc.ctx { x.prior with ignored := ((s.page x.page).check x.desc.ctx).ignored }
    else s.dropCheck x)
  else (s.dropCheck x).consumeRing x.page 6

theorem failCheck_eq (s : State) (x : CheckPart) (status : Nat) : s.failCheck x status = (s.checkFailing x).postCheck x status 0 false := rfl

theorem checkFailing_keeps (s : State) (x : CheckPart) : Keeps [.pages] (s.dropCheck x) (s.checkFailing x) :=
  Keeps.ite (Keeps.ite (setCheck_keeps_self ..) (.refl _ _)) (State.consumeRing_keeps (.refl _ _) _ _ (by decide))

theorem failCheck_leaves (s : State) (x : CheckPart) {status : Nat} (h : status ≠ 0) :
    Keeps [.out, .dict, .pages, .checkParts] s (s.failCheck x status) ∧ (s.failCheck x status).checkParts = s.checkParts.erase x ∧
    Counted [keyOf 0x4210 2] s (s.failCheck x status) := by
  have hfailing : Keeps [.pages, .checkParts] s (s.checkFailing x) := (dropCheck_keeps s x).mono.trans (checkFailing_keeps s x).mono
  have hposted := (checkPosted_keeps (s.checkFailing x) x status 0 false)
  refine ⟨hfailing.mono.trans (postCheck_keeps_self ..).mono, ?_, ?_⟩
  · rw [failCheck_eq]
    refine ((postCheck_keeps_self (s.checkFailing x) x status 0 false).frame .checkParts (by decide)).trans ?_
    exact (checkFailing_keeps s x).frame .checkParts (by decide)
  · have hcount := (hfailing.mono.trans (hposted.mono (qs := [.out, .pages, .checkParts]))).counted 0x4210 (if status = 0 then 1 else 2)
    rw [if_neg h] at hcount
    rw [failCheck_eq, postCheck_eq, if_neg h]
    exact hcount

theorem failCheck_check (hdispatched : x.dispatched = true) (hctx : x.desc.ctx < 4) (s : State) (status : Nat) :
    ((s.failCheck x status).page x.page).check x.desc.ctx = { x.prior with ignored := ((s.page x.page).check x.desc.ctx).ignored } := by
  rw [failCheck_eq, (postCheck_checks (s.checkFailing x) x status 0 false).check]
  unfold State.checkFailing
  rw [if_pos hdispatched, if_pos hctx, setCheck_check]

/-! ## The fetch -/

/-- A part as it is fetched. -/
def State.fetchedCheck (s : State) (f : Nat) (d : CheckDesc) : CheckPart :=
  { page := f, desc := d, fetched := s.tsc, dispatched := false, value := 0, prior := {}, segments := max 1 ((d.len + 65535) / 65536), granted := 0,
    refused := s.checkRefusal f d }

/-- A state with a fetched part. -/
def State.withCheck (s : State) (f : Nat) (d : CheckDesc) : State := { s with checkParts := s.checkParts ++ [s.fetchedCheck f d] }

/-- A state in which the refusal of a part has marked its ring. -/
def State.checkMarked (s : State) (f e : Nat) : State :=
  if e = acRange ∧ f < 64 then s.setPage f ((s.page f).setRing 6 { (s.page f).ring 6 with badDesc := true }) else s

theorem withCheck_keeps (s : State) (f : Nat) (d : CheckDesc) : Keeps [.checkParts] s (s.withCheck f d) :=
  Keeps.record (.refl _ s) rfl rfl rfl rfl rfl rfl rfl rfl rfl rfl rfl rfl rfl rfl rfl rfl rfl rfl rfl

theorem checkMarked_keeps (s : State) (f e : Nat) : Keeps [.pages] s (s.checkMarked f e) :=
  Keeps.ite (State.setPage_keeps (.refl _ s) f _ (by decide)) (.refl _ s)

theorem takeCheck_accepted (h : s.checkRefusal f d = none) : s.takeCheck f d = s.withCheck f d := by
  unfold State.takeCheck
  dsimp only
  rw [h, if_neg (fun hc => nomatch hc.1)]
  unfold State.withCheck State.fetchedCheck
  rw [h]

theorem takeCheck_refused (h : s.checkRefusal f d = some e) : s.takeCheck f d =
    if checkWaits s.checkParts f d.ctx then (s.withCheck f d).checkMarked f e else ((s.withCheck f d).checkMarked f e).failCheck (s.fetchedCheck f d) e := by
  have hmark : (if (some e : Option Nat) = some acRange ∧ f < 64 then
      (s.withCheck f d).setPage f (((s.withCheck f d).page f).setRing 6 { ((s.withCheck f d).page f).ring 6 with badDesc := true })
      else s.withCheck f d) = (s.withCheck f d).checkMarked f e := by
    unfold State.checkMarked
    by_cases he : e = acRange ∧ f < 64
    · rw [if_pos he, if_pos ⟨congrArg some he.1, he.2⟩]
    · rw [if_neg he, if_neg fun hc => he ⟨Option.some.inj hc.1, hc.2⟩]
  rw [← hmark]
  unfold State.takeCheck
  dsimp only
  unfold State.withCheck State.fetchedCheck
  rw [h]

/-- The gate of the fetch: the page is open, its units and its CHKQ are enabled, and a descriptor waits that is not yet ahead. -/
theorem exec_checkJobFetch (hp : s.rst.powered = true) (hunits : s.engineTakes 3 2 = true) (hopen : s.open f = true)
    (henable : (s.page f).chkEnable = true) (hring : ((s.page f).ring 6).enable = true)
    (hahead : (s.checkParts.filter fun x => x.page == f && !x.dispatched).length < ((s.page f).ring 6).used) (t : Nat) :
    exec (.checkJobFetch t f d) s = .next (if ((s.page f).ring 7).free ≤ (s.checkParts.filter fun x => x.page == f).length then
        (s.upTo t).setPage f ((s.page f).setRing 6 { (s.page f).ring 6 with stalled := true }) else (s.upTo t).takeCheck f d) := by
  have hf : f ≠ 64 := by
    intro hf
    subst hf
    unfold State.open at hopen
    simp only [lt_irrefl, decide_false, Bool.false_and] at hopen
    exact Bool.noConfusion hopen
  have hunits' : ¬ s.engineTakes 3 2 = false := by rw [hunits]; decide
  have hboth : ((s.checkParts.filter fun x => x.page == f).filter fun x => !x.dispatched) =
      s.checkParts.filter fun x => x.page == f && !x.dispatched := by
    rw [List.filter_filter]
    exact List.filter_congr fun x _ => Bool.and_comm _ _
  have hgate : ¬ (s.open f = false ∨ (s.page f).chkEnable = false ∨ ((s.page f).ring 6).enable = false ∨
      ((s.page f).ring 6).used ≤ ((s.checkParts.filter fun x => x.page == f).filter fun x => !x.dispatched).length) := by
    rintro (h | h | h | h)
    · exact Bool.noConfusion (hopen.symm.trans h)
    · exact Bool.noConfusion (henable.symm.trans h)
    · exact Bool.noConfusion (hring.symm.trans h)
    · rw [hboth] at h
      omega
  show execCheckJobFetch t f d s = _
  unfold execCheckJobFetch
  rw [State.run_powered hp]
  exact congrArg Host.Outcome.next ((if_neg hunits').trans ((if_neg hf).trans (if_neg hgate)))

theorem exec_checkJobFetch_internal (hp : s.rst.powered = true) (hunits : s.engineTakes 3 2 = true) (t : Nat) :
    exec (.checkJobFetch t 64 d) s = .next ((s.upTo t).takeCheck 64 d) := by
  have hunits' : ¬ s.engineTakes 3 2 = false := by rw [hunits]; decide
  show execCheckJobFetch t 64 d s = _
  unfold execCheckJobFetch
  rw [State.run_powered hp]
  exact congrArg Host.Outcome.next ((if_neg hunits').trans (if_pos rfl))

/-! ## A part completes -/

/-- The part of a context that is on a unit with all its segments. -/
def State.runningCheck (s : State) (f ctx : Nat) : Option CheckPart :=
  s.checkParts.find? fun x => x.page == f && x.desc.ctx == ctx && x.dispatched && x.granted == x.segments

theorem exec_checkPartComplete (hp : s.rst.powered = true) (hx : s.runningCheck f ctx = some x) (t : Nat) (dmaOk : Bool) :
    exec (.checkPartComplete t f ctx dmaOk data) s = .next (if dmaOk then (s.upTo t).finishCheck x data else (s.upTo t).failCheck x ckDma) := by
  have hx' : ((s.upTo t).checkParts.find? fun x => x.page == f && x.desc.ctx == ctx && x.dispatched && x.granted == x.segments) = some x := hx
  show execCheckPartComplete t f ctx dmaOk data s = _
  unfold execCheckPartComplete
  rw [State.run_powered hp]
  refine congrArg Host.Outcome.next ?_
  rw [hx']

theorem runningCheck_spec (hx : s.runningCheck f ctx = some x) : x.page = f ∧ x.desc.ctx = ctx ∧ x.dispatched = true := by
  have h := List.find?_some hx
  simp only [Bool.and_eq_true, beq_iff_eq] at h
  exact ⟨h.1.1.1, h.1.1.2, h.1.2⟩

/-- A state in which a part has gone and its data are counted. -/
def State.checkTaken (s : State) (x : CheckPart) : State := (s.dropCheck x).bumpKey (keyOf 0x4210 4) x.desc.len

theorem checkTaken_keeps (s : State) (x : CheckPart) : Keeps [.dict, .checkParts] s (s.checkTaken x) :=
  State.bumpKey_keeps (dropCheck_keeps s x).mono _ _ (by decide)

/-- The context of a part that has completed: its value over the data, where its comparison holds. -/
def CheckCtx.completed (c : CheckCtx) (d : CheckDesc) (v : Nat) (bad : Bool) : CheckCtx :=
  { c with running := false, opened := !d.last, value := if bad then c.value else v,
           bytes := if bad then c.bytes else (c.bytes + d.len) % 2 ^ 32 }

/-- A state in which a part has left its context as it is. -/
def State.checkLeft (s : State) (x : CheckPart) (v : Nat) (bad : Bool) : State :=
  if x.desc.ctx < 4 then (s.checkTaken x).setCheck x.page x.desc.ctx (((s.page x.page).check x.desc.ctx).completed x.desc v bad)
  else s.checkTaken x

theorem checkLeft_keeps (s : State) (x : CheckPart) (v : Nat) (bad : Bool) : Keeps [.dict, .pages, .checkParts] s (s.checkLeft x v bad) :=
  Keeps.ite ((checkTaken_keeps s x).mono.trans (setCheck_keeps_self ..).mono) (checkTaken_keeps s x).mono

theorem checkLeft_parts (s : State) (x : CheckPart) (v : Nat) (bad : Bool) : (s.checkLeft x v bad).checkParts = s.checkParts.erase x := by
  unfold State.checkLeft
  split
  · rfl
  · rfl

theorem checkLeft_mismatch (s : State) (x : CheckPart) (v : Nat) (bad : Bool) :
    ((s.checkLeft x v bad).page x.page).mismatch = (s.page x.page).mismatch ∧
    ((s.checkLeft x v bad).page x.page).misCount = (s.page x.page).misCount := by
  unfold State.checkLeft State.setCheck
  split
  · rw [State.page_setPage_self]
    exact ⟨rfl, rfl⟩
  · exact ⟨rfl, rfl⟩

theorem checkLeft_check (hctx : x.desc.ctx < 4) (s : State) (v : Nat) (bad : Bool) :
    ((s.checkLeft x v bad).page x.page).check x.desc.ctx = ((s.page x.page).check x.desc.ctx).completed x.desc v bad := by
  unfold State.checkLeft
  rw [if_pos hctx, setCheck_check]

/-- The result of a part. -/
def checkResult (d : CheckDesc) (v : Nat) : Nat := if d.last then crcFinal d.poly v else v

/-- A part's comparison fails. -/
def checkBad (d : CheckDesc) (v : Nat) : Bool := d.op == 2 && checkResult d v != d.expected % 2 ^ (polyOf d.poly).width

theorem finishCheck_good {v : Nat} (hv : v = crcRun x.desc.poly x.value (slice data 0 x.desc.len)) (h : checkBad x.desc v = false) :
    s.finishCheck x data = (s.checkLeft x v false).postCheck x 0 (checkResult x.desc v) x.desc.last := by
  subst hv
  unfold checkBad checkResult at h
  unfold State.finishCheck
  dsimp only
  rw [h]
  rfl

/-- A state in which a failed comparison is completed and counted. -/
def State.compareFailed (s : State) (x : CheckPart) (v : Nat) : State :=
  ((s.checkLeft x v true).postCheck x ckCompare (checkResult x.desc v) true).bump 0x4210 3

/-- A page whose comparison has failed. -/
def Page.mismatched (y : Page) (count : Nat) : Page := { y with mismatch := true, misCount := min 65535 (count + 1) }

theorem finishCheck_bad {v : Nat} (hpage : x.page < 64) (hv : v = crcRun x.desc.poly x.value (slice data 0 x.desc.len))
    (h : checkBad x.desc v = true) : s.finishCheck x data =
    if ((s.checkLeft x v true).page x.page).misIrqEn then
      ((s.compareFailed x v).setPage x.page (((s.compareFailed x v).page x.page).mismatched ((s.checkLeft x v true).page x.page).misCount)).emit
        (.msix x.page ((s.checkLeft x v true).page x.page).misVector)
    else (s.compareFailed x v).setPage x.page (((s.compareFailed x v).page x.page).mismatched ((s.checkLeft x v true).page x.page).misCount) := by
  subst hv
  unfold checkBad checkResult at h
  unfold State.finishCheck
  dsimp only
  rw [h]
  simp only [hpage, if_true, true_and]
  rfl

/-! ## Writes of a context (R356, R359) -/

theorem exec_checkCtxCtrlWrite (hp : s.rst.powered = true) (hopen : s.open f = true) (hctx : ctx < 4) (t : Nat) (w : Word32) :
    exec (.checkCtxCtrlWrite t f ctx w) s = .next ((s.upTo t).checkCtrlWrite f ctx w) :=
  (State.run_powered hp t _).trans (congrArg Host.Outcome.next (if_pos ⟨hopen, hctx⟩))

theorem exec_checkValueWrite (hp : s.rst.powered = true) (hopen : s.open f = true) (hctx : ctx < 4) (t : Nat) (high : Bool) (w : Word32) :
    exec (.checkValueWrite t f ctx high w) s = .next ((s.upTo t).checkValueWrite f ctx high w) :=
  (State.run_powered hp t _).trans (congrArg Host.Outcome.next (if_pos ⟨hopen, hctx⟩))

theorem checkCtrlWrite_idle (h : ((s.page f).check ctx).running = false) (hbit : bit w.toNat 29 = false) : s.checkCtrlWrite f ctx w =
    s.setCheck f ctx { (s.page f).check ctx with opened := bit w.toNat 31, poly := bits w.toNat 2 0 } := by
  unfold State.checkCtrlWrite
  rw [hbit]
  exact congrArg (s.setCheck f ctx) (if_neg (by rw [if_neg Bool.false_ne_true, h]; decide))

theorem checkCtrlWrite_running (h : ((s.page f).check ctx).running = true) : s.checkCtrlWrite f ctx w =
    s.setCheck f ctx { (s.page f).check ctx with ignored := true } := by
  unfold State.checkCtrlWrite
  cases bit w.toNat 29
  · exact congrArg (s.setCheck f ctx) (if_pos h)
  · exact congrArg (s.setCheck f ctx) (if_pos h)

theorem checkValueWrite_idle (h : ((s.page f).check ctx).running = false) (high : Bool) : s.checkValueWrite f ctx high w =
    s.setCheck f ctx { (s.page f).check ctx with
      value := if high then w.toNat * 2 ^ 32 + ((s.page f).check ctx).value % 2 ^ 32 else ((s.page f).check ctx).value / 2 ^ 32 * 2 ^ 32 + w.toNat } :=
  congrArg (s.setCheck f ctx) (if_neg (by rw [h]; decide))

theorem checkValueWrite_running (h : ((s.page f).check ctx).running = true) (high : Bool) : s.checkValueWrite f ctx high w =
    s.setCheck f ctx { (s.page f).check ctx with ignored := true } := congrArg (s.setCheck f ctx) (if_pos h)

end CheckParts

/-- Settles O47: a part is queued, fails or completes, and a context is written while no part runs in it. -/
theorem checkCommandsComplete : Obligations.CheckCommandsComplete := by
  unfold Obligations.CheckCommandsComplete
  intro s t f ctx w hs hopen
  obtain ⟨-, hp⟩ := hs
  have hf : f < 64 := by
    unfold State.open at hopen
    simp only [Bool.and_eq_true, decide_eq_true_eq] at hopen
    exact hopen.1.1.1
  refine ⟨fun d hunits henable hring hahead => ?fetch, fun d hunits haccept => ?internal, fun x data v hx hv => ?complete, fun hctx => ?writes⟩
  case fetch =>
    have hexec := exec_checkJobFetch (d := d) hp hunits hopen henable hring hahead t
    refine ⟨fun hfull => ?_, fun hroom haccept => ?_, fun e hroom hrefuse hwaits => ?_, fun e hroom hrefuse he hwaits => ?_⟩
    · rw [if_pos hfull] at hexec
      refine ⟨_, hexec, .of_keeps (State.setPage_keeps (.refl _ _) f _ (by decide)) (by decide), ?_, fun k hk => ?_,
        fun g hg => State.page_setPage_ne _ _ _ hg⟩
      · rw [State.page_setPage_self, Page.ring_setRing_self]
      · rw [State.page_setPage_self, Page.ring_setRing_ne _ _ hk]
    · rw [if_neg (Nat.not_le.mpr hroom), takeCheck_accepted (s := s.upTo t) haccept] at hexec
      refine ⟨_, hexec, .of_keeps (withCheck_keeps (s.upTo t) f d) (by decide), ?_⟩
      unfold State.withCheck State.fetchedCheck
      rw [show (s.upTo t).checkRefusal f d = none from haccept]
      rfl
    · rw [if_neg (Nat.not_le.mpr hroom), takeCheck_refused (s := s.upTo t) hrefuse, if_pos (show checkWaits (s.upTo t).checkParts f d.ctx = true from hwaits)] at hexec
      have hmarked := checkMarked_keeps ((s.upTo t).withCheck f d) f e
      exact ⟨_, hexec, .of_keeps ((withCheck_keeps (s.upTo t) f d).mono.trans hmarked.mono) (by decide), (s.upTo t).fetchedCheck f d,
        hmarked.frame .checkParts (by decide), rfl, rfl, hrefuse, rfl⟩
    · rw [if_neg (Nat.not_le.mpr hroom), takeCheck_refused (s := s.upTo t) hrefuse, if_neg (by rw [State.upTo_checkParts, hwaits]; decide)] at hexec
      have hmarked := checkMarked_keeps ((s.upTo t).withCheck f d) f e
      have htaken : Keeps [.pages, .checkParts] (s.upTo t) (((s.upTo t).withCheck f d).checkMarked f e) :=
        (withCheck_keeps (s.upTo t) f d).mono.trans hmarked.mono
      obtain ⟨hkeeps, hparts, hcount⟩ := failCheck_leaves (((s.upTo t).withCheck f d).checkMarked f e) ((s.upTo t).fetchedCheck f d) he
      refine ⟨_, hexec, .of_keeps (htaken.mono.trans hkeeps) (by decide), ?_, ?_⟩
      · have hold : (((s.upTo t).withCheck f d).checkMarked f e).checkParts = s.checkParts ++ [(s.upTo t).fetchedCheck f d] :=
          hmarked.frame .checkParts (by decide)
        rw [hparts, hold, List.length_erase_of_mem (List.mem_append_right _ (List.mem_singleton.mpr rfl)), List.length_append]
        rfl
      · exact ⟨fun k hk => (hcount.1 k hk).trans (htaken.raw k (by decide)), fun k hk => by
          rw [hcount.2 k hk, htaken.variant, htaken.raw k (by decide)]
          rfl⟩
  case internal =>
    have hexec := exec_checkJobFetch_internal (d := d) hp hunits t
    rw [takeCheck_accepted (s := s.upTo t) haccept] at hexec
    exact ⟨_, hexec, .of_keeps (withCheck_keeps (s.upTo t) 64 d) (by decide), (s.upTo t).fetchedCheck 64 d, rfl, rfl, rfl, haccept, rfl⟩
  case complete =>
    obtain ⟨rfl, rfl, hdispatched⟩ := runningCheck_spec hx
    have hexec := exec_checkPartComplete (data := data) hp hx t
    refine ⟨fun hctx hcompare => ?_, fun hop hlast hbad => ?_, ?_⟩
    · have hgood : checkBad x.desc v = false := by
        unfold checkBad checkResult
        by_cases hop : x.desc.op = 2
        · obtain ⟨hlast, hequal⟩ := hcompare hop
          rw [if_pos hlast, hequal, bne_self_eq_false, Bool.and_false]
        · rw [beq_eq_false_iff_ne.mpr hop, Bool.false_and]
      have h := hexec true
      rw [if_pos rfl, finishCheck_good (s := s.upTo t) hv hgood] at h
      have hpost := postCheck_keeps_self ((s.upTo t).checkLeft x v false) x 0 (checkResult x.desc v) x.desc.last
      have hchecks := postCheck_checks ((s.upTo t).checkLeft x v false) x 0 (checkResult x.desc v) x.desc.last
      refine ⟨_, h, .of_keeps ((checkLeft_keeps (s.upTo t) x v false).mono.trans hpost.mono) (by decide), ?_, ?_, ?_⟩
      · exact (hpost.frame .checkParts (by decide)).trans (checkLeft_parts (s.upTo t) x v false)
      · exact hchecks.mismatch.trans (checkLeft_mismatch (s.upTo t) x v false).1
      · exact (hchecks.check _).trans (checkLeft_check hctx (s.upTo t) v false)
    · have hbad' : checkBad x.desc v = true := by
        unfold checkBad checkResult
        rw [hop, if_pos hlast, beq_self_eq_true, Bool.true_and]
        exact bne_iff_ne.mpr hbad
      have h := hexec true
      rw [if_pos rfl, finishCheck_bad (s := s.upTo t) hf hv hbad'] at h
      have hfailed : Keeps [.out, .dict, .pages, .checkParts] (s.upTo t) ((s.upTo t).compareFailed x v) :=
        State.bump_keeps ((checkLeft_keeps (s.upTo t) x v true).mono.trans (postCheck_keeps_self ..).mono) _ _ (by decide)
      have hparts : ((s.upTo t).compareFailed x v).checkParts = s.checkParts.erase x :=
        ((postCheck_keeps_self ((s.upTo t).checkLeft x v true) x ckCompare (checkResult x.desc v) true).frame .checkParts (by decide)).trans
          (checkLeft_parts (s.upTo t) x v true)
      have hcount := (checkLeft_mismatch (s.upTo t) x v true).2
      rw [hcount] at h
      have hset : Keeps [.out, .dict, .pages, .checkParts] (s.upTo t) (((s.upTo t).compareFailed x v).setPage x.page
          ((((s.upTo t).compareFailed x v).page x.page).mismatched ((s.upTo t).page x.page).misCount)) := State.setPage_keeps hfailed _ _ (by decide)
      have hpage := State.page_setPage_self ((s.upTo t).compareFailed x v) x.page
        ((((s.upTo t).compareFailed x v).page x.page).mismatched ((s.upTo t).page x.page).misCount)
      by_cases hirq : (((s.upTo t).checkLeft x v true).page x.page).misIrqEn = true
      · rw [if_pos hirq] at h
        exact ⟨_, h, .of_keeps (State.emit_keeps hset _ (by decide)) (by decide), hparts, congrArg Page.mismatch hpage, congrArg Page.misCount hpage⟩
      · rw [if_neg hirq] at h
        exact ⟨_, h, .of_keeps hset (by decide), hparts, congrArg Page.mismatch hpage, congrArg Page.misCount hpage⟩
    · have h := hexec false
      rw [if_neg (by decide)] at h
      obtain ⟨hkeeps, hparts, hcount⟩ := failCheck_leaves (s.upTo t) x (status := ckDma) (by decide)
      exact ⟨_, h, .of_keeps hkeeps (by decide), hparts, hcount, fun hctx => failCheck_check hdispatched hctx (s.upTo t) ckDma⟩
  case writes =>
    have hctrl := exec_checkCtxCtrlWrite hp hopen hctx t w
    have hvalue := fun high => exec_checkValueWrite hp hopen hctx t high w
    refine ⟨fun hidle hbit => ?_, fun hrunning => ?_, fun hidle => ⟨?_, ?_⟩, fun high hrunning => ?_⟩
    · rw [checkCtrlWrite_idle (s := s.upTo t) hidle hbit] at hctrl
      exact ⟨_, hctrl, .of_keeps (setCheck_keeps_self ..) (by decide), fun g hg => setCheck_page_ne _ _ _ hg,
        fun k hk => setCheck_check_ne _ _ _ hk, setCheck_check ..⟩
    · rw [checkCtrlWrite_running (s := s.upTo t) hrunning] at hctrl
      exact ⟨_, hctrl, .of_keeps (setCheck_keeps_self ..) (by decide), setCheck_check ..⟩
    · have h := hvalue true
      rw [checkValueWrite_idle (s := s.upTo t) hidle] at h
      exact ⟨_, h, .of_keeps (setCheck_keeps_self ..) (by decide), fun g hg => setCheck_page_ne _ _ _ hg, setCheck_check ..⟩
    · have h := hvalue false
      rw [checkValueWrite_idle (s := s.upTo t) hidle] at h
      exact ⟨_, h, .of_keeps (setCheck_keeps_self ..) (by decide), setCheck_check ..⟩
    · have h := hvalue high
      rw [checkValueWrite_running (s := s.upTo t) hrunning] at h
      exact ⟨_, h, .of_keeps (setCheck_keeps_self ..) (by decide), setCheck_check ..⟩

end Sys2Proof.Machine
end

section
/-! The ports of the station ring: their next frames, their links, and what an operation on one leaves of the other (R365, R371, R372). -/

set_option Elab.async false

namespace Sys2Proof.Machine

section RingPorts

variable {ps : List Part} {s u v : State} {t : Nat} {d : Side} {st : RingLink}

/-! ## One port and the rest of the ring -/

/-- The ring without its ports. -/
def Ring.shared (r : Ring) : Ring := { r with east := {}, west := {} }

/-- The ring without its ports and the time since which both are down. -/
def Ring.core (r : Ring) : Ring := { r with east := {}, west := {}, bothDownAt := none }

theorem Ring.core_of_shared {r q : Ring} (h : q.shared = r.shared) : q.core = r.core :=
  congrArg (fun x : Ring => { x with bothDownAt := none }) h

theorem otherSide_otherSide (d : Side) : otherSide (otherSide d) = d := by cases d <;> rfl

theorem setRingPort_keeps_self (s : State) (d : Side) (x : RingPort) : Keeps [.ring] s (s.setRingPort d x) :=
  State.setRingPort_keeps (.refl _ s) d x (by decide)

theorem setRingPort_shared (s : State) (d : Side) (x : RingPort) : (s.setRingPort d x).ring.shared = s.ring.shared := by cases d <;> rfl

theorem ringPort_congr (h : u.ring = s.ring) (d : Side) : u.ringPort d = s.ringPort d := by
  unfold State.ringPort
  rw [h]

theorem updRing_port (s : State) (d : Side) (f : RingPort → RingPort) : (s.updRing d f).ringPort d = f (s.ringPort d) :=
  State.ringPort_setRingPort_self ..

theorem updRing_other (s : State) (d : Side) (f : RingPort → RingPort) : (s.updRing d f).ringPort (otherSide d) = s.ringPort (otherSide d) :=
  State.ringPort_setRingPort_other ..

theorem updRing_keeps_self (s : State) (d : Side) (f : RingPort → RingPort) : Keeps [.ring] s (s.updRing d f) := setRingPort_keeps_self ..

theorem updRing_shared (s : State) (d : Side) (f : RingPort → RingPort) : (s.updRing d f).ring.shared = s.ring.shared := setRingPort_shared ..

/-- What an operation on one port leaves: the link it had, the other port, and the rest of the ring. -/
structure OnePort (d : Side) (s u : State) : Prop where
  keeps : Keeps [.out, .ring] s u
  link : (u.ringPort d).link = (s.ringPort d).link
  other : u.ringPort (otherSide d) = s.ringPort (otherSide d)
  shared : u.ring.shared = s.ring.shared

theorem OnePort.refl (d : Side) (s : State) : OnePort d s s := ⟨.refl _ s, rfl, rfl, rfl⟩

theorem OnePort.trans (h : OnePort d s u) (k : OnePort d u v) : OnePort d s v :=
  ⟨h.keeps.trans k.keeps, k.link.trans h.link, k.other.trans h.other, k.shared.trans h.shared⟩

theorem OnePort.setRingPort {x : RingPort} (h : x.link = (s.ringPort d).link) : OnePort d s (s.setRingPort d x) :=
  ⟨(setRingPort_keeps_self s d x).mono, by rw [State.ringPort_setRingPort_self, h], State.ringPort_setRingPort_other .., setRingPort_shared ..⟩

theorem OnePort.emit (h : OnePort d s u) (o : Out) : OnePort d s (u.emit o) :=
  ⟨State.emit_keeps h.keeps o (by decide), h.link, h.other, h.shared⟩

/-! ## The next frame (R371) -/

theorem RingPort.next_link {x y : RingPort} {f : RingTx} (h : x.next t = some (f, y)) : y.link = x.link := by
  unfold RingPort.next at h
  split at h
  · obtain ⟨-, rfl⟩ := Prod.mk.inj (Option.some.inj h); rfl
  · obtain ⟨-, rfl⟩ := Prod.mk.inj (Option.some.inj h); rfl
  · split at h
    · obtain ⟨-, rfl⟩ := Prod.mk.inj (Option.some.inj h); rfl
    · obtain ⟨-, rfl⟩ := Prod.mk.inj (Option.some.inj h); rfl
  · exact nomatch h

/-- A port as it looks for its next frame. -/
def State.waiting (s : State) (d : Side) : RingPort :=
  if s.ring.state = .extracting then { s.ringPort d with localq := [] } else s.ringPort d

theorem waiting_link (s : State) (d : Side) : (s.waiting d).link = (s.ringPort d).link := by
  unfold State.waiting
  split
  · rfl
  · rfl

theorem ringKick_busy (h : ((s.ringPort d).sending.isSome = true ∨ (s.ringPort d).link ≠ .up)) : s.ringKick d = s := by
  unfold State.ringKick
  exact if_pos h

theorem ringKick_starts {f : RingTx} {y : RingPort} (hsend : (s.ringPort d).sending = none) (hup : (s.ringPort d).link = .up)
    (hnext : (s.waiting d).next s.tsc = some (f, y)) :
    s.ringKick d = (s.setRingPort d { y with sending := some { f with started := s.tsc } }).emit (.ringFrame d f.frame false) := by
  unfold State.ringKick
  refine (if_neg (by rw [hsend, hup]; simp)).trans ?_
  unfold State.waiting at hnext
  rw [hnext]

theorem ringKick_rests (hnext : (s.waiting d).next s.tsc = none) : s.ringKick d = s := by
  unfold State.ringKick
  dsimp only
  split
  · rfl
  · unfold State.waiting at hnext
    rw [hnext]

theorem ringKick_port (s : State) (d : Side) : OnePort d s (s.ringKick d) := by
  by_cases hbusy : (s.ringPort d).sending.isSome = true ∨ (s.ringPort d).link ≠ .up
  · rw [ringKick_busy hbusy]
    exact .refl d s
  · rw [not_or, not_not, Bool.not_eq_true, Option.isSome_eq_false_iff, Option.isNone_iff_eq_none] at hbusy
    obtain ⟨hsend, hup⟩ := hbusy
    cases hnext : (s.waiting d).next s.tsc with
    | none =>
      rw [ringKick_rests hnext]
      exact .refl d s
    | some e =>
      obtain ⟨f, y⟩ := e
      rw [ringKick_starts hsend hup hnext]
      exact (OnePort.setRingPort (x := { y with sending := some { f with started := s.tsc } })
        ((RingPort.next_link hnext).trans (waiting_link s d))).emit _

/-! ## A port leaves UP (R372) -/

/-- A port whose frames are lost. -/
def RingPort.lost (x : RingPort) : RingPort := { x with sending := none, transit := [], localq := [], residence := none, steps := none }

/-- What the loss of a port's link leaves. -/
structure Lost (d : Side) (s u : State) : Prop where
  keeps : Keeps [.out, .ring] s u
  port : u.ringPort d = (s.ringPort d).lost
  other : (u.ringPort (otherSide d)).link = (s.ringPort (otherSide d)).link
  shared : u.ring.shared = s.ring.shared

theorem ringLost_lost (s : State) (d : Side) : Lost d s (s.ringLost d) := by
  have hlost : Lost d s (s.updRing d RingPort.lost) :=
    ⟨(updRing_keeps_self ..).mono, updRing_port .., congrArg RingPort.link (updRing_other ..), updRing_shared ..⟩
  have hcut : ∀ f : RingTx, Lost d s ((((s.updRing d RingPort.lost).updRing (otherSide d) fun x => { x with sending := none }).emit
      (.ringFrame (otherSide d) f.frame true)).ringKick (otherSide d)) := fun f => by
    have hended : OnePort (otherSide d) (s.updRing d RingPort.lost)
        (((s.updRing d RingPort.lost).updRing (otherSide d) fun x => { x with sending := none }).emit (.ringFrame (otherSide d) f.frame true)) :=
      (OnePort.setRingPort (x := { (s.updRing d RingPort.lost).ringPort (otherSide d) with sending := none }) rfl).emit _
    have hkick := hended.trans (ringKick_port _ (otherSide d))
    have hother := hkick.other
    rw [otherSide_otherSide] at hother
    exact ⟨hlost.keeps.trans hkick.keeps, hother.trans hlost.port, hkick.link.trans hlost.other, hkick.shared.trans hlost.shared⟩
  unfold State.ringLost
  extract_lets o u
  change Lost d s (match (u.ringPort o).sending with
    | some f => if f.transit = true ∧ f.cutThrough = true then ((u.updRing o fun x => { x with sending := none }).emit (.ringFrame o f.frame true)).ringKick o else u
    | none => u)
  cases (u.ringPort o).sending with
  | none => exact hlost
  | some f =>
    dsimp only
    split
    · exact hcut f
    · exact hlost

/-! ## A link state is given (R365) -/

/-- A state in which neither port has been UP since a time, or one is. -/
def State.downNoted (v : State) : State :=
  { v with ring := { v.ring with
    bothDownAt := if ((v.ringPort .east).link != .up && (v.ringPort .west).link != .up) = true
      then (if v.ring.bothDownAt.isSome then v.ring.bothDownAt else some v.tsc) else none } }

theorem setRingLink_eq (s : State) (d : Side) (st : RingLink) : s.setRingLink d st =
    ((if (s.ringPort d).link = .up ∧ st ≠ .up then s.ringLost d else s).updRing d fun y => { y with link := st }).downNoted := rfl

theorem downNoted_keeps (v : State) : Keeps [.ring] v v.downNoted :=
  Keeps.record (.refl _ v) rfl rfl rfl rfl rfl rfl rfl rfl rfl rfl rfl rfl rfl rfl rfl rfl rfl rfl rfl

theorem downNoted_port (v : State) (d : Side) : v.downNoted.ringPort d = v.ringPort d := by cases d <;> rfl

theorem downNoted_core (v : State) : v.downNoted.ring.core = v.ring.core := rfl

theorem downNoted_up (h : (v.ringPort d).link = .up) : v.downNoted.ring.bothDownAt = none := by
  have hone : ¬ ((v.ringPort .east).link != .up && (v.ringPort .west).link != .up) = true := by
    cases d <;> simp [h]
  exact if_neg hone

theorem setRingLink_stays (h : (s.ringPort d).link ≠ .up ∨ st = .up) : s.setRingLink d st = (s.updRing d fun y => { y with link := st }).downNoted := by
  rw [setRingLink_eq, if_neg (fun hc => h.elim (fun hn => hn hc.1) hc.2)]

/-- What a port is given whose frames are not lost with its link. -/
theorem setRingLink_port (h : (s.ringPort d).link ≠ .up ∨ st = .up) :
    Keeps [.ring] s (s.setRingLink d st) ∧ (s.setRingLink d st).ringPort d = { s.ringPort d with link := st } ∧
    (s.setRingLink d st).ringPort (otherSide d) = s.ringPort (otherSide d) ∧ (s.setRingLink d st).ring.core = s.ring.core := by
  rw [setRingLink_stays h]
  refine ⟨(updRing_keeps_self s d _).trans (downNoted_keeps _), ?_, ?_, (downNoted_core _).trans (Ring.core_of_shared (updRing_shared s d _))⟩
  · rw [downNoted_port, updRing_port]
  · rw [downNoted_port, updRing_other]

/-- What a port is given that may leave UP with it. -/
theorem setRingLink_leaves (s : State) (d : Side) (st : RingLink) :
    Keeps [.out, .ring] s (s.setRingLink d st) ∧ ((s.setRingLink d st).ringPort d).link = st ∧
    ((s.setRingLink d st).ringPort (otherSide d)).link = (s.ringPort (otherSide d)).link ∧ (s.setRingLink d st).ring.core = s.ring.core := by
  by_cases h : (s.ringPort d).link = .up ∧ st ≠ .up
  · have hlost := ringLost_lost s d
    rw [setRingLink_eq, if_pos h]
    refine ⟨hlost.keeps.trans ((updRing_keeps_self _ d _).mono.trans (downNoted_keeps _).mono), ?_, ?_, ?_⟩
    · rw [downNoted_port, updRing_port]
    · rw [downNoted_port, updRing_other, hlost.other]
    · exact ((downNoted_core _).trans (Ring.core_of_shared (updRing_shared _ d _))).trans (Ring.core_of_shared hlost.shared)
  · obtain ⟨hkeeps, hport, hother, hcore⟩ := setRingLink_port (s := s) (d := d) (st := st)
      ((not_and_or.mp h).imp id fun hn => not_not.mp hn)
    exact ⟨hkeeps.mono, congrArg RingPort.link hport, congrArg RingPort.link hother, hcore⟩

theorem setRingLink_lost (h : (s.ringPort d).link = .up) (hst : st ≠ .up) :
    (s.setRingLink d st).ringPort d = { (s.ringPort d).lost with link := st } := by
  rw [setRingLink_eq, if_pos ⟨h, hst⟩, downNoted_port, updRing_port, (ringLost_lost s d).port]

/-- A port that goes UP ends the time in which both are down. -/
theorem setRingLink_up (s : State) (d : Side) : (s.setRingLink d .up).ring.bothDownAt = none := by
  rw [setRingLink_stays (.inr rfl)]
  exact downNoted_up (congrArg RingPort.link (updRing_port s d fun y => { y with link := .up }))

/-! ## The pins (R365, R375) -/

/-- A port is to be connected to its pins. -/
def State.pinOn (s : State) (d : Side) : Bool :=
  s.ringUp && (match d with
    | .east => s.ring.ke
    | .west => s.ring.kw)

/-- One port is connected, or parted. -/
def State.settlePin (s : State) (d : Side) : State :=
  if s.pinOn d = true ∧ (s.ringPort d).link = .off then s.setRingLink d .training
  else if s.pinOn d = false ∧ (s.ringPort d).link ≠ .off then s.setRingLink d .off else s

theorem settleRingPins_eq (s : State) : s.settleRingPins = (s.settlePin .east).settlePin .west := rfl

/-- The link of a port that follows its pins. -/
def RingLink.pinned (on : Bool) (l : RingLink) : RingLink := if on = true then (if l = .off then .training else l) else .off

theorem settlePin_leaves (s : State) (d : Side) :
    Keeps [.out, .ring] s (s.settlePin d) ∧ ((s.settlePin d).ringPort d).link = (s.ringPort d).link.pinned (s.pinOn d) ∧
    ((s.settlePin d).ringPort (otherSide d)).link = (s.ringPort (otherSide d)).link ∧ (s.settlePin d).ring.core = s.ring.core := by
  unfold State.settlePin RingLink.pinned
  cases hon : s.pinOn d
  · by_cases hoff : (s.ringPort d).link = .off
    · rw [if_neg (by simp), if_neg (by simp [hoff])]
      exact ⟨.refl _ s, hoff, rfl, rfl⟩
    · rw [if_neg (by simp), if_pos ⟨rfl, hoff⟩]
      exact setRingLink_leaves s d .off
  · by_cases hoff : (s.ringPort d).link = .off
    · rw [if_pos ⟨rfl, hoff⟩, if_pos rfl, if_pos hoff]
      exact setRingLink_leaves s d .training
    · rw [if_neg (fun hc => hoff hc.2), if_neg (by simp), if_pos rfl, if_neg hoff]
      exact ⟨.refl _ s, rfl, rfl, rfl⟩

theorem pinOn_congr (hhier : u.hier = s.hier) (hcore : u.ring.core = s.ring.core) (d : Side) : u.pinOn d = s.pinOn d := by
  have hke : u.ring.ke = s.ring.ke := (congrArg Ring.ke hcore :)
  have hkw : u.ring.kw = s.ring.kw := (congrArg Ring.kw hcore :)
  unfold State.pinOn State.ringUp State.block
  rw [hhier, hke, hkw]

theorem settleRingPins_leaves (s : State) :
    Keeps [.out, .ring] s s.settleRingPins ∧ s.settleRingPins.ring.east.link = s.ring.east.link.pinned (s.pinOn .east) ∧
    s.settleRingPins.ring.west.link = s.ring.west.link.pinned (s.pinOn .west) ∧ s.settleRingPins.ring.core = s.ring.core := by
  obtain ⟨hkeeps, heast, hwest, hcore⟩ := settlePin_leaves s .east
  obtain ⟨hkeeps', hwest', heast', hcore'⟩ := settlePin_leaves (s.settlePin .east) .west
  rw [pinOn_congr (hkeeps.frame .hier (by decide)) hcore, show ((s.settlePin .east).ringPort .west).link = _ from hwest] at hwest'
  rw [settleRingPins_eq]
  exact ⟨hkeeps.trans hkeeps', heast'.trans heast, hwest', hcore'.trans hcore⟩

end RingPorts

end Sys2Proof.Machine
end

section
/-! The links of the station ring by command: training, loss, conflict, and the contact sense of the bypass (R365, R372-R379). -/

set_option Elab.async false

namespace Sys2Proof.Machine

section RingLinks

variable {ps : List Part} {s u v : State} {t : Nat} {d : Side}

theorem State.runRing_up (hp : s.rst.powered = true) (hup : s.ringUp = true) (t : Nat) (f : State → State) :
    s.runRing t f = .next (f (s.upTo t)) :=
  (State.run_powered hp t _).trans (congrArg Host.Outcome.next (if_pos hup))

/-! ## Training (R365, R366, R379) -/

/-- A state in which the margins of a trained port stand. -/
def State.margins (s : State) (d : Side) (a b : Int) (c : Nat) : State :=
  (s.setVal 0x3800 (sideSub d 0x14) (f32Tenth (min a b))).setVal 0x3800 (sideSub d 0x17) (f32Tenth c)

theorem margins_keeps (s : State) (d : Side) (a b : Int) (c : Nat) : Keeps [.dict] s (s.margins d a b c) :=
  State.setVal_keeps (State.setVal_keeps (.refl _ s) _ _ _ (by decide)) _ _ _ (by decide)

theorem margin_width (v : Variant) (d : Side) :
    (defaultOf v (keyOf 0x3800 (sideSub d 0x14))).length = 4 ∧ (defaultOf v (keyOf 0x3800 (sideSub d 0x17))).length = 4 := by
  cases v <;> cases d <;> decide +kernel

theorem margins_values (s : State) (d : Side) (a b : Int) (c : Nat) :
    (s.margins d a b c).val 0x3800 (sideSub d 0x14) = f32Tenth (min a b) % 2 ^ 32 ∧
    (s.margins d a b c).val 0x3800 (sideSub d 0x17) = f32Tenth c % 2 ^ 32 := by
  obtain ⟨hmargin, hcable⟩ := margin_width s.variant d
  refine ⟨?_, ?_⟩
  · have hne : keyOf 0x3800 (sideSub d 0x14) ≠ keyOf 0x3800 (sideSub d 0x17) := by cases d <;> decide
    refine (congrArg ofBE (State.raw_setVal_ne (s.setVal 0x3800 (sideSub d 0x14) (f32Tenth (min a b))) (f32Tenth c) hne)).trans ?_
    have h := s.val_setVal_self 0x3800 (sideSub d 0x14) (f32Tenth (min a b))
    rw [hmargin] at h
    exact h
  · have h := (s.setVal 0x3800 (sideSub d 0x14) (f32Tenth (min a b))).val_setVal_self 0x3800 (sideSub d 0x17) (f32Tenth c)
    rw [State.setVal_variant, hcable] at h
    exact h

/-- A state in which a trained port has gone UP. -/
def State.trained (s : State) (d : Side) (a b : Int) (c : Nat) : State := (s.margins d a b c).setRingLink d .up

theorem ringSwapDone_none (h : s.ringSwapping = none) (d : Side) : s.ringSwapDone d = s := by
  unfold State.ringSwapDone
  rw [h]

theorem ringSwapping_congr (h : u.sup = s.sup) : u.ringSwapping = s.ringSwapping := by
  unfold State.ringSwapping
  rw [h]

theorem trained_leaves (s : State) (d : Side) (a b : Int) (c : Nat) :
    Keeps [.dict, .ring] s (s.trained d a b c) ∧ (s.trained d a b c).ringPort d = { s.ringPort d with link := .up } ∧
    (s.trained d a b c).ringPort (otherSide d) = s.ringPort (otherSide d) ∧ (s.trained d a b c).ring.core = s.ring.core ∧
    (s.trained d a b c).ring.bothDownAt = none := by
  obtain ⟨hkeeps, hport, hother, hcore⟩ := setRingLink_port (s := s.margins d a b c) (d := d) (st := .up) (.inr rfl)
  exact ⟨(margins_keeps s d a b c).mono.trans hkeeps.mono, hport, hother, hcore, setRingLink_up _ d⟩

/-- The insertion is complete once both ports are UP. -/
def State.insertionDone (v : State) : State :=
  if v.ring.state = .inserting ∧ v.ring.inserted ∧ v.ring.east.link = .up ∧ v.ring.west.link = .up then v.ringInserted else v

theorem exec_ringTrainingComplete (hp : s.rst.powered = true) (hup : s.ringUp = true)
    (hlink : (s.ringPort d).link = .training ∨ (s.ringPort d).link = .down) (hswap : s.ringSwapping = none) (a b : Int) (c : Nat) (t : Nat) :
    exec (.ringTrainingComplete t d a b c) s = .next (if a < 30 ∨ b < 30 then (s.upTo t).margins d a b c
      else (((s.upTo t).trained d a b c).insertionDone).ringKick d) := by
  have hgate : ¬ ((s.ringPort d).link ≠ .training ∧ (s.ringPort d).link ≠ .down) := by
    rintro ⟨h₁, h₂⟩
    exact hlink.elim h₁ h₂
  have hdone : ((s.upTo t).trained d a b c).ringSwapDone d = (s.upTo t).trained d a b c :=
    ringSwapDone_none ((ringSwapping_congr ((trained_leaves (s.upTo t) d a b c).1.frame .sup (by decide))).trans hswap) d
  have hexec : exec (.ringTrainingComplete t d a b c) s = .next (if a < 30 ∨ b < 30 then (s.upTo t).margins d a b c
      else ((((s.upTo t).trained d a b c).ringSwapDone d).insertionDone).ringKick d) := by
    show execRingTrainingComplete t d a b c s = _
    unfold execRingTrainingComplete
    rw [State.runRing_up hp hup]
    exact congrArg Host.Outcome.next (if_neg hgate)
  rw [hexec, hdone]

/-! ## Loss and conflict (R365, R372) -/

theorem exec_ringLinkLoss (hp : s.rst.powered = true) (hup : s.ringUp = true) (t : Nat) (d : Side) :
    exec (.ringLinkLoss t d) s = .next (if (s.ringPort d).link = .up then ((s.upTo t).setRingLink d .down).ringCount d 0x0D else s.upTo t) :=
  State.runRing_up hp hup t fun s => if (s.ringPort d).link = .up then (s.setRingLink d .down).ringCount d 0x0D else s

theorem exec_ringRoleConflict (hp : s.rst.powered = true) (hup : s.ringUp = true) (hlink : (s.ringPort d).link = .training) (t : Nat) :
    exec (.ringRoleConflict t d) s = .next (((s.upTo t).setRingLink d .conflict).updRing d fun x => { x with conflictAt := (s.upTo t).tsc }) := by
  show execRingRoleConflict t d s = _
  unfold execRingRoleConflict
  rw [State.runRing_up hp hup]
  exact congrArg Host.Outcome.next (if_pos hlink)

theorem exec_ringConflictTimeout (hp : s.rst.powered = true) (hup : s.ringUp = true) (t : Nat) (d : Side) (changed : Bool) :
    exec (.ringConflictTimeout t d changed) s = .next (if (s.ringPort d).link = .conflict ∧
      (changed ∨ (s.ringPort d).conflictAt + 1000000000 ≤ max s.tsc t) then (s.upTo t).setRingLink d .training else s.upTo t) := by
  show execRingConflictTimeout t d changed s = _
  unfold execRingConflictTimeout
  rw [State.runRing_up hp hup]
  rfl

/-! ## Contact sense of the bypass (R375, R376) -/

/-- A state in which sense is taken and the ports follow it. -/
def State.sensed (s : State) (ke kw : Bool) : State := (s.senseRelays ke kw).settleRingPins

theorem senseRelays_leaves (s : State) (ke kw : Bool) :
    Keeps [.ring, .sup] s (s.senseRelays ke kw) ∧ (s.senseRelays ke kw).ring = { s.ring with ke := ke, kw := kw } := by
  refine ⟨State.senseRelays_keeps (.refl _ s) ke kw (by decide) (by decide), ?_⟩
  unfold State.senseRelays State.relayWear
  dsimp only
  split
  · split
    · rfl
    · rfl
  · split
    · rfl
    · rfl

/-- The fields of a ring whose contact sense alone was followed. -/
theorem sensed_fields {r r0 : Ring} {ke kw : Bool} (h : r.core = { r0.core with ke := ke, kw := kw }) :
    (r.state = r0.state ∧ r.inserted = r0.inserted ∧ r.commandAt = r0.commandAt) ∧ r.ke = ke ∧ r.kw = kw :=
  ⟨⟨(congrArg Ring.state h :), (congrArg Ring.inserted h :), (congrArg Ring.commandAt h :)⟩, (congrArg Ring.ke h :), (congrArg Ring.kw h :)⟩

/-- What the ports and the ring are once contact sense has been followed. -/
theorem sensed_leaves (hup : s.ringUp = true) (ke kw : Bool) :
    Keeps [.out, .ring, .sup] s (s.sensed ke kw) ∧ (s.sensed ke kw).ring.east.link = s.ring.east.link.pinned ke ∧
    (s.sensed ke kw).ring.west.link = s.ring.west.link.pinned kw ∧
    (s.sensed ke kw).ring.core = { s.ring.core with ke := ke, kw := kw } := by
  obtain ⟨hkeeps, hring⟩ := senseRelays_leaves s ke kw
  obtain ⟨hkeeps', heast, hwest, hcore⟩ := settleRingPins_leaves (s.senseRelays ke kw)
  have hup' : (s.senseRelays ke kw).ringUp = true := by
    unfold State.ringUp State.block
    rw [hkeeps.frame .hier (by decide)]
    exact hup
  have hpins : (s.senseRelays ke kw).pinOn .east = ke ∧ (s.senseRelays ke kw).pinOn .west = kw := by
    unfold State.pinOn
    rw [hup', hring]
    exact ⟨rfl, rfl⟩
  rw [hpins.1, hring] at heast
  rw [hpins.2, hring] at hwest
  rw [hring] at hcore
  exact ⟨hkeeps.mono.trans hkeeps'.mono, heast, hwest, hcore⟩

/-- Bypass that is confirmed closed ends an extraction. -/
def State.extractionEnds (u : State) (ke kw : Bool) : State :=
  if u.ring.state = .extracting ∧ u.ring.inserted = false ∧ ke = false ∧ kw = false then { u with ring := { u.ring with state := .bypassed, stays := true } } else u

theorem exec_ringRelayContactSense (hp : s.rst.powered = true) (t : Nat) (ke kw : Bool) :
    exec (.ringRelayContactSense t ke kw) s = .next (((s.upTo t).sensed ke kw).extractionEnds ke kw) := by
  show execRingRelayContactSense t ke kw s = _
  unfold execRingRelayContactSense
  rw [State.run_powered hp]
  rfl

/-- A mismatch has lasted 10 ms. -/
def State.senseFails (u : State) (ke kw : Bool) : Prop := (ke ≠ u.ring.inserted ∨ kw ≠ u.ring.inserted) ∧ u.ring.commandAt + 10000000 ≤ u.tsc

theorem exec_bypassSenseMismatch (hp : s.rst.powered = true) (hup : s.ringUp = true) (t : Nat) (ke kw : Bool) :
    (¬ ((s.upTo t).sensed ke kw).senseFails ke kw → exec (.bypassSenseMismatch t ke kw) s = .next ((s.upTo t).sensed ke kw)) ∧
    (((s.upTo t).sensed ke kw).senseFails ke kw → exec (.bypassSenseMismatch t ke kw) s =
      .next ((((s.upTo t).sensed ke kw).ringRelease ((s.upTo t).sensed ke kw).ring.state).escalate (srcOf 4 0 6))) := by
  refine ⟨fun h => ?_, fun h => ?_⟩
  all_goals
    show execBypassSenseMismatch t ke kw s = _
    unfold execBypassSenseMismatch
    rw [State.runRing_up hp hup]
  · exact congrArg Host.Outcome.next (if_neg h)
  · exact congrArg Host.Outcome.next (if_pos h)

theorem ringDrive_off (s : State) : s.ringDrive false = s ∨ s.ringDrive false = { s with ring := { s.ring with inserted := false, commandAt := s.tsc } } := by
  unfold State.ringDrive
  split
  · exact .inl rfl
  · exact .inr rfl

theorem ringDrive_inserted (s : State) (on : Bool) : (s.ringDrive on).ring.inserted = on := by
  unfold State.ringDrive
  split
  · next h => exact h
  · rfl

theorem ringRelease_inserted (s : State) (st : RingState) : (s.ringRelease st).ring.inserted = false := ringDrive_inserted s.ringAbandon false

theorem ringRelease_keeps_self (s : State) (st : RingState) : Keeps [.log, .ring, .rst, .sup] s (s.ringRelease st) :=
  State.ringRelease_keeps (.refl _ s) st (by decide) (by decide) (by decide) (by decide)

/-- A failing bypass escalates the ring block, which no ballast unit spares (R22, R366). -/
theorem escalate_bypass (s : State) : s.escalate (srcOf 4 0 6) = s.regionReset 4 0 := by
  have hunits : ballastUnits (srcOf 4 0 6) = [] := by decide
  have hidle : s.idleUnit (srcOf 4 0 6) = none := by
    unfold State.idleUnit
    rw [hunits]
    exact ite_self _
  have htied : s.tiedUnit (srcOf 4 0 6) = none := by
    unfold State.tiedUnit
    rw [hunits]
    exact List.find?_eq_none.mpr fun q _ => by simp
  have hserving : (s.unitServing (srcOf 4 0 6)).isNone = true := by
    unfold State.unitServing
    rw [hunits]
    rfl
  have hfall : s.fallBack (srcOf 4 0 6) = s.regionReset 4 0 := by
    unfold State.fallBack
    have hpeers : peerCells (srcRegion (srcOf 4 0 6)) (srcBlk (srcOf 4 0 6)) (srcCell (srcOf 4 0 6)) = [] := by decide
    refine if_neg fun hc => ?_
    rw [hpeers] at hc
    exact absurd hc (by simp)
  have hstand : s.standIn (srcOf 4 0 6) = s.regionReset 4 0 := by
    unfold State.standIn
    rw [hidle, if_neg (by decide), htied]
    exact hfall
  unfold State.escalate
  exact (if_pos ⟨by decide, hserving⟩).trans hstand

end RingLinks

section RingClauses

variable {s : State} {t : Nat} {d : Side} {a b : Int} {c : Nat}

theorem ringInserted_leaves (w : State) (d : Side) : Keeps [.dict, .ring] w w.ringInserted ∧ w.ringInserted.ringPort d = w.ringPort d ∧
    w.ringInserted.ring.state = .inserted ∧ w.ringInserted.ring.attempts = 0 :=
  ⟨State.bump_keeps (Keeps.record (.refl _ _) rfl rfl rfl rfl rfl rfl rfl rfl rfl rfl rfl rfl rfl rfl rfl rfl rfl rfl rfl) _ _ (by decide),
    by cases d <;> rfl, rfl, rfl⟩

theorem shared_fields {r r0 : Ring} (h : r.shared = r0.shared) : r.state = r0.state ∧ r.attempts = r0.attempts ∧ r.bothDownAt = r0.bothDownAt :=
  ⟨(congrArg Ring.state h :), (congrArg Ring.attempts h :), (congrArg Ring.bothDownAt h :)⟩

theorem core_fields {r r0 : Ring} (h : r.core = r0.core) : r.state = r0.state ∧ r.inserted = r0.inserted :=
  ⟨(congrArg Ring.state h :), (congrArg Ring.inserted h :)⟩

/-- The last port that an insertion waits for has trained: the module is inserted (R379). -/
theorem ringTraining_inserts (hp : s.rst.powered = true) (hup : s.ringUp = true) (hlink : (s.ringPort d).link = .training)
    (hother : (s.ringPort (otherSide d)).link = .up) (hswap : s.ringSwapping = none) (hstate : s.ring.state = .inserting)
    (hinserted : s.ring.inserted = true) (ha : 30 ≤ a) (hb : 30 ≤ b) :
    ∃ u, exec (.ringTrainingComplete t d a b c) s = .next u ∧ Did t [.out, .dict, .ring] s u ∧ (u.ringPort d).link = .up ∧
      u.ring.state = .inserted ∧ u.ring.attempts = 0 := by
  have hexec := exec_ringTrainingComplete hp hup (.inl hlink) hswap a b c t
  obtain ⟨hkeeps, hport, hrest, hcore, -⟩ := trained_leaves (s.upTo t) d a b c
  generalize (s.upTo t).trained d a b c = w at hexec hkeeps hport hrest hcore
  obtain ⟨hcoreState, hcoreInserted⟩ := core_fields hcore
  have hself : (w.ringPort d).link = .up := congrArg RingPort.link hport
  have hpartner : (w.ringPort (otherSide d)).link = .up := (congrArg RingPort.link hrest).trans hother
  have hboth : w.ring.east.link = .up ∧ w.ring.west.link = .up := by
    cases d with
    | east => exact ⟨hself, hpartner⟩
    | west => exact ⟨hpartner, hself⟩
  have hdone : w.insertionDone = w.ringInserted :=
    if_pos ⟨hcoreState.trans hstate, hcoreInserted.trans hinserted, hboth.1, hboth.2⟩
  obtain ⟨hin, hport', hinState, hinAttempts⟩ := ringInserted_leaves w d
  rw [if_neg (by omega), hdone] at hexec
  generalize w.ringInserted = x at hexec hin hport' hinState hinAttempts
  have hkick := ringKick_port x d
  obtain ⟨hkickState, hkickAttempts, -⟩ := shared_fields hkick.shared
  exact ⟨_, hexec, .of_keeps ((hkeeps.trans hin).mono.trans hkick.keeps.mono) (by decide),
    hkick.link.trans ((congrArg RingPort.link hport').trans hself), hkickState.trans hinState, hkickAttempts.trans hinAttempts⟩

end RingClauses

/-- Settles O48: each command acts on the link of one port, and contact sense moves both. -/
theorem ringLinksComplete : Obligations.RingLinksComplete := by
  unfold Obligations.RingLinksComplete
  intro s t d hs hup
  obtain ⟨-, hp⟩ := hs
  refine ⟨fun a b c hlink hswap hstate => ⟨fun ha hb => ?_, fun hlow => ?_⟩, fun a b c hlink hother hswap hstate hinserted ha hb => ?_,
    fun hlink => ?_, fun hlink => ?_, fun hlink => ?_, fun r hlink => ⟨fun hover => ?_, fun hsame hearly => ?_⟩,
    fun ke kw => ⟨?_, fun hke hkw => ?_, fun hdiff hlate hqueued hfree => ?_⟩⟩
  · have hexec := exec_ringTrainingComplete hp hup hlink hswap a b c t
    obtain ⟨hkeeps, hport, hrest, hcore, hdown⟩ := trained_leaves (s.upTo t) d a b c
    have hstate' : ((s.upTo t).trained d a b c).ring.state = s.ring.state := (congrArg Ring.state hcore :)
    have hdone : ((s.upTo t).trained d a b c).insertionDone = (s.upTo t).trained d a b c := if_neg fun hc => hstate (hstate'.symm.trans hc.1)
    have hkick := ringKick_port ((s.upTo t).trained d a b c) d
    obtain ⟨hmargin, hcable⟩ := margins_values (s.upTo t) d a b c
    have hraw : ∀ k, (((s.upTo t).trained d a b c).ringKick d).raw k = ((s.upTo t).margins d a b c).raw k := fun k =>
      (hkick.keeps.raw k (by decide)).trans ((setRingLink_port (s := (s.upTo t).margins d a b c) (d := d) (st := .up) (.inr rfl)).1.raw k (by decide))
    rw [if_neg (by omega), hdone] at hexec
    refine ⟨_, hexec, .of_keeps (hkeeps.mono.trans hkick.keeps.mono) (by decide), hkick.link.trans (congrArg RingPort.link hport),
      hkick.other.trans hrest, ?_, ?_, (congrArg ofBE (hraw _)).trans hmargin, (congrArg ofBE (hraw _)).trans hcable⟩
    · exact (congrArg Ring.bothDownAt hkick.shared :).trans hdown
    · exact (congrArg Ring.state hkick.shared :).trans hstate'
  · have hexec := exec_ringTrainingComplete hp hup hlink hswap a b c t
    rw [if_pos hlow] at hexec
    exact ⟨_, hexec, .of_keeps (margins_keeps ..) (by decide), (margins_values (s.upTo t) d a b c).1⟩
  · exact ringTraining_inserts hp hup hlink hother hswap hstate hinserted ha hb
  · have hexec := exec_ringLinkLoss hp hup t d
    rw [if_pos hlink] at hexec
    obtain ⟨hkeeps, -, hother, -⟩ := setRingLink_leaves (s.upTo t) d .down
    have hport := setRingLink_lost (s := s.upTo t) (d := d) (st := .down) hlink (by decide)
    refine ⟨_, hexec, .of_keeps (State.ringCount_keeps hkeeps.mono d 0x0D (by decide)) (by decide), congrArg RingPort.link hport,
      congrArg RingPort.sending hport, congrArg RingPort.transit hport, congrArg RingPort.localq hport, hother, ?_⟩
    exact hkeeps.counted 0x3810 (sideSub d 0x0D)
  · have hexec := exec_ringLinkLoss hp hup t d
    rw [if_neg hlink] at hexec
    exact ⟨_, hexec, .record⟩
  · have hexec := exec_ringRoleConflict hp hup hlink t
    obtain ⟨hkeeps, hport, hother, -⟩ := setRingLink_port (s := s.upTo t) (d := d) (st := .conflict)
      (.inl (by rw [show ((s.upTo t).ringPort d).link = .training from hlink]; decide))
    have hupd := updRing_port ((s.upTo t).setRingLink d .conflict) d fun x => { x with conflictAt := (s.upTo t).tsc }
    rw [hport] at hupd
    exact ⟨_, hexec, .of_keeps (hkeeps.trans (updRing_keeps_self ..)) (by decide), congrArg RingPort.link hupd, congrArg RingPort.conflictAt hupd,
      (updRing_other ..).trans hother⟩
  · have hexec := exec_ringConflictTimeout hp hup t d r
    rw [if_pos ⟨hlink, hover⟩] at hexec
    obtain ⟨hkeeps, hport, hother, -⟩ := setRingLink_port (s := s.upTo t) (d := d) (st := .training)
      (.inl (by rw [show ((s.upTo t).ringPort d).link = .conflict from hlink]; decide))
    exact ⟨_, hexec, .of_keeps hkeeps (by decide), congrArg RingPort.link hport, hother⟩
  · have hexec := exec_ringConflictTimeout hp hup t d r
    rw [if_neg fun hc => hc.2.elim (fun hr => Bool.noConfusion (hsame.symm.trans hr)) fun h => absurd h (Nat.not_le.mpr hearly)] at hexec
    exact ⟨_, hexec, .record⟩
  · have hexec := exec_ringRelayContactSense hp t ke kw
    obtain ⟨hkeeps, heast, hwest, hcore⟩ := sensed_leaves (s := s.upTo t) hup ke kw
    obtain ⟨⟨hstate, hinserted, -⟩, hke, hkw⟩ := sensed_fields hcore
    by_cases hends : s.ring.state = .extracting ∧ s.ring.inserted = false ∧ ke = false ∧ kw = false
    · have hend : ((s.upTo t).sensed ke kw).extractionEnds ke kw =
          { (s.upTo t).sensed ke kw with ring := { ((s.upTo t).sensed ke kw).ring with state := .bypassed, stays := true } } :=
        if_pos (by rw [hstate, hinserted]; exact hends)
      rw [hend] at hexec
      refine ⟨_, hexec, .of_keeps (hkeeps.trans ?_) (by decide), hke, hkw, hinserted, heast, hwest, fun _ _ _ _ => ⟨rfl, rfl⟩, fun hc => absurd hends hc⟩
      exact Keeps.record (.refl _ _) rfl rfl rfl rfl rfl rfl rfl rfl rfl rfl rfl rfl rfl rfl rfl rfl rfl rfl rfl
    · have hend : ((s.upTo t).sensed ke kw).extractionEnds ke kw = (s.upTo t).sensed ke kw :=
        if_neg (by rw [hstate, hinserted]; exact hends)
      rw [hend] at hexec
      exact ⟨_, hexec, .of_keeps hkeeps (by decide), hke, hkw, hinserted, heast, hwest, fun h₁ h₂ h₃ h₄ => absurd ⟨h₁, h₂, h₃, h₄⟩ hends, fun _ => hstate⟩
  · obtain ⟨hkeeps, -, -, hcore⟩ := sensed_leaves (s := s.upTo t) hup ke kw
    obtain ⟨⟨-, hinserted, -⟩, hke', hkw'⟩ := sensed_fields hcore
    have hagrees : ¬ ((s.upTo t).sensed ke kw).senseFails ke kw := by
      rintro ⟨hc | hc, -⟩
      · exact hc (hke.trans hinserted.symm)
      · exact hc (hkw.trans hinserted.symm)
    exact ⟨_, (exec_bypassSenseMismatch hp hup t ke kw).1 hagrees, .of_keeps hkeeps (by decide), hke', hkw', hinserted⟩
  · obtain ⟨hkeeps, -, -, hcore⟩ := sensed_leaves (s := s.upTo t) hup ke kw
    obtain ⟨⟨-, hinserted, hcommand⟩, -, -⟩ := sensed_fields hcore
    have htsc : ((s.upTo t).sensed ke kw).tsc = max s.tsc t := hkeeps.frame .tsc (by decide)
    have hfails : ((s.upTo t).sensed ke kw).senseFails ke kw := by
      unfold State.senseFails
      rw [hinserted, hcommand, htsc]
      exact ⟨hdiff, hlate⟩
    have hrelease := ringRelease_keeps_self ((s.upTo t).sensed ke kw) ((s.upTo t).sensed ke kw).ring.state
    generalize hw : ((s.upTo t).sensed ke kw).ringRelease ((s.upTo t).sensed ke kw).ring.state = w at hrelease
    have hexec := (exec_bypassSenseMismatch hp hup t ke kw).2 hfails
    have hout : w.ring.inserted = false := hw ▸ ringRelease_inserted _ _
    rw [hw, escalate_bypass] at hexec
    have hhier : w.hier = s.hier := (hrelease.frame .hier (by decide)).trans (hkeeps.frame .hier (by decide))
    have hblock : ∀ q k, w.block q k = s.block q k := State.block_of_blocks (congrArg Hierarchy.blocks hhier)
    have hrun : (w.block 4 0).state = .running := by
      rw [hblock]
      exact beq_iff_eq.mp hup
    have hidles := State.regionReset_idles (s := w) hrun (by unfold State.queuedReset; rw [hhier]; exact hqueued)
      (by unfold State.regionBusy; rw [hhier]; exact hfree)
    rw [hidles] at hexec
    have hreset : Keeps [.hier] w (w.requestIdle 4 0 w.tsc) := hidles ▸ State.regionReset_keeps (.refl _ w) 4 0 (by decide)
    refine ⟨_, hexec, .of_keeps ((hkeeps.mono.trans hrelease.mono).trans hreset.mono) (by decide), hout, ?_, fun b hb hb0 => ?_⟩
    · exact congrArg Block.state (State.requestIdle_block w 4 0 w.tsc)
    · exact (State.requestIdle_block_ne w w.tsc (by unfold blockKey; omega)).trans (hblock 4 b)

end Sys2Proof.Machine
end

section
/-! The way of the module into the ring: the steady timer, the insertion and its limits, and the automatic bypass (R379, R382). -/

set_option Elab.async false

namespace Sys2Proof.Machine

section RingWay

variable {s u v : State} {t : Nat}

theorem ringDrive_record (s : State) (on : Bool) : ∃ a, s.ringDrive on = { s with ring := { s.ring with inserted := on, commandAt := a } } ∧
    (s.ring.inserted ≠ on → a = s.tsc) := by
  unfold State.ringDrive
  split
  · next h => exact ⟨s.ring.commandAt, by rw [← h], fun hc => absurd h hc⟩
  · exact ⟨s.tsc, rfl, fun _ => rfl⟩

theorem ringAbandon_none (h : s.ringSwapping = none) : s.ringAbandon = s := by
  unfold State.ringAbandon
  rw [h]

/-! ## The commands of the insertion -/

theorem exec_ringSteady (hp : s.rst.powered = true) (hup : s.ringUp = true) (t : Nat) :
    (s.ring.state = .waitSteady ∧ s.ring.steady = false ∧ s.ring.steadyAt + s.val 0x3800 8 * 1000000 ≤ max s.tsc t →
      exec (.ringSteady t) s = .next { s.upTo t with ring := { s.ring with
        steady := true, insertBeat := if s.val 0x3800 6 = 1 then some (max s.tsc t / 40000 + 1) else s.ring.insertBeat } }) ∧
    (¬ (s.ring.state = .waitSteady ∧ s.ring.steady = false ∧ s.ring.steadyAt + s.val 0x3800 8 * 1000000 ≤ max s.tsc t) →
      exec (.ringSteady t) s = .next (s.upTo t)) := by
  refine ⟨fun h => ?_, fun h => ?_⟩
  all_goals
    show execRingSteady t s = _
    unfold execRingSteady
    rw [State.runRing_up hp hup]
  · exact congrArg Host.Outcome.next (if_pos h)
  · exact congrArg Host.Outcome.next (if_neg h)

theorem exec_ringActivityInterrupted (hp : s.rst.powered = true) (hup : s.ringUp = true) (t : Nat) :
    exec (.ringActivityInterrupted t) s = .next (if s.ring.state = .waitSteady then (s.upTo t).waitSteady else s.upTo t) := by
  show execRingActivityInterrupted t s = _
  unfold execRingActivityInterrupted
  exact State.runRing_up hp hup t _

/-- What lets an insertion begin at its beat. -/
def State.insertionFree (s : State) : Prop := s.ringBarred = false ∧ s.rst.extractAt = none ∧ s.flag 0x3800 5 = true

/-- The module has itself inserted. -/
def State.inserts (s : State) : State :=
  { s.ringDrive true with ring := { (s.ringDrive true).ring with state := .inserting, insertingAt := s.tsc, insertBeat := none } }

theorem exec_ringInsertionBeat (hp : s.rst.powered = true) (hup : s.ringUp = true) (t : Nat) {b : Nat} (hb : s.ring.insertBeat = some b) :
    (s.ring.state = .waitSteady ∧ s.ring.steady = true ∧ b ≤ max s.tsc t / 40000 ∧ s.insertionFree →
      exec (.ringInsertionBeat t) s = .next (s.upTo t).inserts) ∧
    (¬ (s.ring.state = .waitSteady ∧ s.ring.steady = true ∧ b ≤ max s.tsc t / 40000 ∧ s.insertionFree) →
      exec (.ringInsertionBeat t) s = .next (s.upTo t)) := by
  have hb' : (s.upTo t).ring.insertBeat = some b := hb
  refine ⟨fun h => ?_, fun h => ?_⟩
  all_goals
    show execRingInsertionBeat t s = _
    unfold execRingInsertionBeat
    rw [State.runRing_up hp hup, hb']
  · exact congrArg Host.Outcome.next (if_pos h)
  · exact congrArg Host.Outcome.next (if_neg h)

/-- The training limit has passed for an insertion. -/
def State.atLimit (s : State) (now : Nat) : Prop := s.ring.state = .inserting ∧ s.ring.inserted = true ∧ s.ring.insertingAt + s.val 0x3800 9 * 1000000 ≤ now

/-- An insertion that has found no port UP: a failed attempt. -/
def State.attemptFailed (s : State) : State :=
  { (s.ringDrive false).bump 0x3810 0x10 with ring := { ((s.ringDrive false).bump 0x3810 0x10).ring with
    attempts := s.ring.attempts + 1
    state := if decide (s.val 0x3800 0x0A ≤ s.ring.attempts + 1) then .failed else .inserting
    intervalAt := if decide (s.val 0x3800 0x0A ≤ s.ring.attempts + 1) then none else some ((s.ringDrive false).bump 0x3810 0x10).tsc } }

theorem exec_ringTrainingLimit (hp : s.rst.powered = true) (hup : s.ringUp = true) (t : Nat) (h : s.atLimit (max s.tsc t)) :
    exec (.ringTrainingLimit t) s =
      .next (if s.ring.east.link = .up ∨ s.ring.west.link = .up then (s.upTo t).ringInserted else (s.upTo t).attemptFailed) := by
  show execRingTrainingLimit t s = _
  unfold execRingTrainingLimit
  rw [State.runRing_up hp hup]
  exact congrArg Host.Outcome.next (if_pos h)

theorem exec_ringAttemptInterval (hp : s.rst.powered = true) (hup : s.ringUp = true) (t : Nat) {a : Nat} (ha : s.ring.intervalAt = some a) :
    exec (.ringAttemptInterval t) s =
      .next (if s.ring.state = .inserting ∧ a + s.val 0x3800 0x0B * 1000000000 ≤ max s.tsc t then (s.upTo t).waitSteady else s.upTo t) := by
  have ha' : (s.upTo t).ring.intervalAt = some a := ha
  show execRingAttemptInterval t s = _
  unfold execRingAttemptInterval
  rw [State.runRing_up hp hup, ha']
  rfl

theorem exec_autoBypass (hp : s.rst.powered = true) (hup : s.ringUp = true) (t : Nat) {a : Nat} (ha : s.ring.bothDownAt = some a) :
    exec (.autoBypass t) s =
      .next (if s.ring.state = .inserted ∧ s.val 0x3800 0x0C ≠ 0 ∧ a + s.val 0x3800 0x0C * 1000000 ≤ max s.tsc t then
        (((s.upTo t).ringRelease .waitSteady).waitSteady).bump 0x3810 0x11 else s.upTo t) := by
  have ha' : (s.upTo t).ring.bothDownAt = some a := ha
  show execAutoBypass t s = _
  unfold execAutoBypass
  rw [State.runRing_up hp hup, ha']
  rfl

/-! ## What they leave -/

theorem waitSteady_keeps_self (s : State) : Keeps [.ring] s s.waitSteady := State.waitSteady_keeps (.refl _ s) (by decide)

theorem waitSteady_restarts (h : s.ring.state = .waitSteady) :
    s.waitSteady.ring = { s.ring with steadyAt := s.tsc, steady := false, insertBeat := none, intervalAt := none } := by
  unfold State.waitSteady
  rw [← h]

theorem inserts_leaves (s : State) :
    Keeps [.ring] s s.inserts ∧ ∃ a, s.inserts.ring =
      { s.ring with inserted := true, commandAt := a, state := .inserting, insertingAt := s.tsc, insertBeat := none } ∧
      (s.ring.inserted ≠ true → a = s.tsc) := by
  obtain ⟨a, hdrive, ha⟩ := ringDrive_record s true
  unfold State.inserts
  rw [hdrive]
  exact ⟨Keeps.record (.refl _ _) rfl rfl rfl rfl rfl rfl rfl rfl rfl rfl rfl rfl rfl rfl rfl rfl rfl rfl rfl, a, rfl, ha⟩

theorem attemptFailed_leaves (s : State) :
    Keeps [.dict, .ring] s s.attemptFailed ∧ Counted [keyOf 0x3810 0x10] s s.attemptFailed ∧ s.attemptFailed.ring.inserted = false ∧
    s.attemptFailed.ring.attempts = s.ring.attempts + 1 ∧
    (s.val 0x3800 0x0A ≤ s.ring.attempts + 1 → s.attemptFailed.ring.state = .failed ∧ s.attemptFailed.ring.intervalAt = none) ∧
    (s.ring.attempts + 1 < s.val 0x3800 0x0A → s.attemptFailed.ring.state = .inserting ∧ s.attemptFailed.ring.intervalAt = some s.tsc) := by
  have hdrive := State.ringDrive_keeps (.refl [.ring] s) false (by decide)
  have hcounted := hdrive.counted 0x3810 0x10
  have hrest : Keeps [.ring] ((s.ringDrive false).bump 0x3810 0x10) s.attemptFailed :=
    Keeps.record (.refl _ _) rfl rfl rfl rfl rfl rfl rfl rfl rfl rfl rfl rfl rfl rfl rfl rfl rfl rfl rfl
  have htsc : ((s.ringDrive false).bump 0x3810 0x10).tsc = s.tsc := hdrive.frame .tsc (by decide)
  refine ⟨(State.bump_keeps hdrive.mono 0x3810 0x10 (by decide)).trans hrest.mono, hcounted.keeps hrest, ringDrive_inserted s false, rfl,
    fun h => ?_, fun h => ?_⟩
  · have hd := decide_eq_true h
    unfold State.attemptFailed
    rw [hd]
    exact ⟨rfl, rfl⟩
  · have hd := decide_eq_false (Nat.not_le.mpr h)
    unfold State.attemptFailed
    rw [hd, htsc]
    exact ⟨rfl, rfl⟩

theorem autoBypass_leaves (hswap : s.ringSwapping = none) :
    Keeps [.dict, .ring] s (((s.ringRelease .waitSteady).waitSteady).bump 0x3810 0x11) ∧
    Counted [keyOf 0x3810 0x11] s (((s.ringRelease .waitSteady).waitSteady).bump 0x3810 0x11) ∧
    (((s.ringRelease .waitSteady).waitSteady).bump 0x3810 0x11).ring.state = .waitSteady ∧
    (((s.ringRelease .waitSteady).waitSteady).bump 0x3810 0x11).ring.inserted = false ∧
    (((s.ringRelease .waitSteady).waitSteady).bump 0x3810 0x11).ring.steadyAt = s.tsc := by
  have hdrive := State.ringDrive_keeps (.refl [.ring] s) false (by decide)
  have hin := ringDrive_inserted s false
  have hrelease : (s.ringRelease .waitSteady).waitSteady = ((s.ringDrive false).enterRing .waitSteady).waitSteady := by
    unfold State.ringRelease
    rw [ringAbandon_none hswap]
  rw [hrelease]
  have hkeeps : Keeps [.ring] s ((s.ringDrive false).enterRing .waitSteady).waitSteady :=
    hdrive.trans (Keeps.record (.refl _ _) rfl rfl rfl rfl rfl rfl rfl rfl rfl rfl rfl rfl rfl rfl rfl rfl rfl rfl rfl)
  exact ⟨State.bump_keeps hkeeps.mono _ _ (by decide), hkeeps.counted _ _, rfl, hin, hdrive.frame .tsc (by decide)⟩

end RingWay

/-- Settles O49: each command of the insertion acts at its time and does nothing before. -/
theorem ringInsertionCompletes : Obligations.RingInsertionCompletes := by
  unfold Obligations.RingInsertionCompletes
  intro s t hs hup
  obtain ⟨-, hp⟩ := hs
  refine ⟨fun hstate hsteady => ⟨fun hlate => ?_, fun hearly => ?_⟩, fun hstate => ?_, fun hstate => ?_,
    fun b hb hstate hsteady hbeat => ⟨fun hbar hext hon => ?_, fun hbar => ?_⟩, fun b hb hearly => ?_,
    fun hstate hin hlate => ⟨fun hlink => ?_, fun heast hwest => ?_⟩, fun a ha hstate => ⟨fun hlate => ?_, fun hearly => ?_⟩,
    fun a ha hstate hswap hon => ⟨fun hlate => ?_, fun hearly => ?_⟩⟩
  · exact ⟨_, (exec_ringSteady hp hup t).1 ⟨hstate, hsteady, hlate⟩, .record, rfl⟩
  · exact Did.answer_upTo ((exec_ringSteady hp hup t).2 fun hc => absurd hc.2.2 (Nat.not_le.mpr hearly))
  · have hexec := exec_ringActivityInterrupted hp hup t
    rw [if_pos hstate] at hexec
    exact ⟨_, hexec, .of_keeps (waitSteady_keeps_self _) (by decide), waitSteady_restarts (s := s.upTo t) hstate⟩
  · have hexec := exec_ringActivityInterrupted hp hup t
    rw [if_neg hstate] at hexec
    exact Did.answer_upTo hexec
  · obtain ⟨hkeeps, a, hring, ha⟩ := inserts_leaves (s.upTo t)
    refine ⟨_, (exec_ringInsertionBeat hp hup t hb).1 ⟨hstate, hsteady, hbeat, hbar, hext, hon⟩, .of_keeps hkeeps (by decide), ?_⟩
    rw [hring]
    exact ⟨rfl, rfl, rfl, rfl, fun h => ha (by rw [show (s.upTo t).ring.inserted = false from h]; decide), rfl, rfl⟩
  · refine Did.answer_upTo ((exec_ringInsertionBeat hp hup t hb).2 fun hc => ?_)
    obtain ⟨-, -, -, hfree, hno, hflag⟩ := hc
    rcases hbar with h | h | h
    · exact Bool.noConfusion (h.symm.trans hfree)
    · exact h hno
    · exact Bool.noConfusion (h.symm.trans hflag)
  · exact Did.answer_upTo ((exec_ringInsertionBeat hp hup t hb).2 fun hc => absurd hc.2.2.1 (Nat.not_le.mpr hearly))
  · have hexec := exec_ringTrainingLimit hp hup t ⟨hstate, hin, hlate⟩
    rw [if_pos hlink] at hexec
    have hrest : Keeps [.ring] (s.upTo t) { s.upTo t with ring := { s.ring with state := .inserted, attempts := 0, insertBeat := none } } :=
      Keeps.record (.refl _ _) rfl rfl rfl rfl rfl rfl rfl rfl rfl rfl rfl rfl rfl rfl rfl rfl rfl rfl rfl
    exact ⟨_, hexec, .of_keeps (State.bump_keeps hrest.mono _ _ (by decide)) (by decide), rfl, hrest.counted _ _⟩
  · have hexec := exec_ringTrainingLimit hp hup t ⟨hstate, hin, hlate⟩
    rw [if_neg (not_or.mpr ⟨heast, hwest⟩)] at hexec
    obtain ⟨hkeeps, hcounted, hrest⟩ := attemptFailed_leaves (s.upTo t)
    exact ⟨_, hexec, .of_keeps hkeeps (by decide), hcounted, hrest⟩
  · have hexec := exec_ringAttemptInterval hp hup t ha
    rw [if_pos ⟨hstate, hlate⟩] at hexec
    exact ⟨_, hexec, .of_keeps (waitSteady_keeps_self _) (by decide), rfl⟩
  · have hexec := exec_ringAttemptInterval hp hup t ha
    rw [if_neg fun hc => absurd hc.2 (Nat.not_le.mpr hearly)] at hexec
    exact Did.answer_upTo hexec
  · have hexec := exec_autoBypass hp hup t ha
    rw [if_pos ⟨hstate, hon, hlate⟩] at hexec
    obtain ⟨hkeeps, hrest⟩ := autoBypass_leaves (s := s.upTo t) hswap
    exact ⟨_, hexec, .of_keeps hkeeps (by decide), hrest⟩
  · have hexec := exec_autoBypass hp hup t ha
    rw [if_neg fun hc => absurd hc.2.2 (Nat.not_le.mpr hearly)] at hexec
    exact Did.answer_upTo hexec

end Sys2Proof.Machine
end

section
/-! Frames received on the ring: discarded, removed, cut through, or stored and forwarded (R367-R371). -/

set_option Elab.async false

namespace Sys2Proof.Machine

section RingReception

variable {s u v : State} {t n : Nat} {d : Side} {f : RingFrame}

theorem exec_ringFrameReceived (hp : s.rst.powered = true) (hup : s.ringUp = true) (t : Nat) (d : Side) (f : RingFrame) :
    exec (.ringFrameReceived t d f) s = .next (if (s.ringPort d).link = .up then (s.upTo t).ringReceive d f else s.upTo t) := by
  show execRingFrameReceived t d f s = _
  unfold execRingFrameReceived
  exact State.runRing_up hp hup t _

/-! ## Where a frame goes -/

/-- A frame of a sender that is not exempt has been seen before (R370). -/
def State.seen (s : State) (f : RingFrame) (n : Nat) : Bool := !(f.da == daPtp || f.da == daPeerDelay) && s.isDuplicate f.sa n

theorem cutsThrough_da (h : s.cutsThrough d f.da = true) : f.da ≠ daPtp ∧ f.da ≠ daPeerDelay := by
  unfold State.cutsThrough ringForwards at h
  simp only [Bool.and_eq_true, bne_iff_ne, ne_eq] at h
  exact ⟨h.2, h.1.2.1⟩

theorem seen_counted (hptp : f.da ≠ daPtp) (hdelay : f.da ≠ daPeerDelay) : s.seen f n = s.isDuplicate f.sa n := by
  unfold State.seen
  rw [beq_false_of_ne hptp, beq_false_of_ne hdelay]
  rfl

theorem ringReceive_untagged (htag : f.hsrTag = none) : s.ringReceive d f =
    if f.da = daPeerDelay then (if f.aborted then s.ringCount d 0x13 else if f.fcsOk then s else s.bump 0x4220 (1 + sideNo d))
    else s.ringCount d 0x0B := by
  unfold State.ringReceive
  rw [htag]

theorem ringReceive_long (htag : f.hsrTag = some n) (hlen : 1528 < f.length) : s.ringReceive d f = s.ringCount d 0x0B := by
  unfold State.ringReceive
  rw [htag]
  exact if_pos hlen

/-- What a tagged frame of a lawful length meets. -/
theorem ringReceive_tagged (htag : f.hsrTag = some n) (hlen : f.length ≤ 1528) : s.ringReceive d f =
    let own := f.sa == Config.ringAddress
    let u := if s.cutsThrough d f.da then s.cutThrough d f (own || s.seen f n) else s
    if f.aborted then u.ringCount d 0x13
    else if f.fcsOk = false then (if s.cutsThrough d f.da ∧ f.da ≠ daSupervision ∧ ringDelivers f.da = false then u else u.bump 0x4220 (1 + sideNo d))
    else if own then u
    else if s.seen f n then (if s.cutsThrough d f.da then u else u.ringCount d 9)
    else
      let v := if f.da == daPtp || f.da == daPeerDelay then u else u.noteFrame f.sa n
      let w := if s.cutsThrough d f.da = false ∧ ringForwards f.da ∧ f.da ≠ daPtp then v.ringStore d f else v
      w.ringDeliver d f := by
  unfold State.ringReceive
  rw [htag]
  exact if_neg (Nat.not_lt.mpr hlen)

section Tagged

variable (htag : f.hsrTag = some n) (hlen : f.length ≤ 1528)
include htag hlen

theorem ringReceive_cut_removed (hcut : s.cutsThrough d f.da = true) (habort : f.aborted = false) (hfcs : f.fcsOk = true)
    (h : f.sa = Config.ringAddress ∨ s.isDuplicate f.sa n = true) :
    s.ringReceive d f = (s.emit (.ringFrame (otherSide d) f true)).ringCount d 7 := by
  obtain ⟨hptp, hdelay⟩ := cutsThrough_da hcut
  have hseen := seen_counted (s := s) (n := n) hptp hdelay
  have hremoved : ((f.sa == Config.ringAddress) || s.seen f n) = true := by
    rw [hseen, Bool.or_eq_true, beq_iff_eq]
    exact h
  rw [ringReceive_tagged htag hlen]
  dsimp only
  rw [hcut, hremoved, habort, hfcs]
  have hended : s.cutThrough d f true = (s.emit (.ringFrame (otherSide d) f true)).ringCount d 7 := by
    unfold State.cutThrough
    exact if_pos rfl
  simp only [if_true, hended, Bool.false_eq_true, if_false, Bool.true_eq_false]
  rcases Bool.or_eq_true _ _ ▸ hremoved with hown | hdup
  · rw [if_pos hown]
  · rw [hdup, if_pos rfl, ite_self]

theorem ringReceive_cut_forwarded (hcut : s.cutsThrough d f.da = true) (habort : f.aborted = false) (hfcs : f.fcsOk = true)
    (hown : f.sa ≠ Config.ringAddress) (hnew : s.isDuplicate f.sa n = false) :
    s.ringReceive d f = ((s.cutThrough d f false).noteFrame f.sa n).ringDeliver d f := by
  obtain ⟨hptp, hdelay⟩ := cutsThrough_da hcut
  have hseen := (seen_counted (s := s) (n := n) hptp hdelay).trans hnew
  rw [ringReceive_tagged htag hlen]
  dsimp only
  rw [hcut, hseen, habort, hfcs, beq_false_of_ne hown, beq_false_of_ne hptp, beq_false_of_ne hdelay]
  rfl

theorem ringReceive_bad (hcut : s.cutsThrough d f.da = false) :
    (f.aborted = true → s.ringReceive d f = s.ringCount d 0x13) ∧
    (f.aborted = false → f.fcsOk = false → s.ringReceive d f = s.bump 0x4220 (1 + sideNo d)) := by
  refine ⟨fun habort => ?_, fun habort hfcs => ?_⟩
  · rw [ringReceive_tagged htag hlen]
    dsimp only
    rw [hcut, habort]
    rfl
  · rw [ringReceive_tagged htag hlen]
    dsimp only
    rw [hcut, habort, hfcs]
    simp only [Bool.false_eq_true, if_false, if_true, false_and]

variable (hcut : s.cutsThrough d f.da = false) (habort : f.aborted = false) (hfcs : f.fcsOk = true)
include hcut habort hfcs

theorem ringReceive_own (hown : f.sa = Config.ringAddress) : s.ringReceive d f = s := by
  rw [ringReceive_tagged htag hlen]
  dsimp only
  rw [hcut, habort, hfcs, hown]
  simp only [Bool.false_eq_true, if_false, Bool.true_eq_false, beq_self_eq_true, if_true]

variable (hown : f.sa ≠ Config.ringAddress) (hptp : f.da ≠ daPtp) (hdelay : f.da ≠ daPeerDelay)
include hown hptp hdelay

theorem ringReceive_duplicate (hdup : s.isDuplicate f.sa n = true) : s.ringReceive d f = s.ringCount d 9 := by
  rw [ringReceive_tagged htag hlen]
  dsimp only
  rw [hcut, (seen_counted hptp hdelay).trans hdup, habort, hfcs, beq_false_of_ne hown]
  rfl

theorem ringReceive_new (hnew : s.isDuplicate f.sa n = false) : s.ringReceive d f =
    (if f.da ≠ Config.ringAddress then (s.noteFrame f.sa n).ringStore d f else s.noteFrame f.sa n).ringDeliver d f := by
  have hforwards : ringForwards f.da = true ↔ f.da ≠ Config.ringAddress := by
    unfold ringForwards
    rw [Bool.and_eq_true, bne_iff_ne, bne_iff_ne]
    exact and_iff_right hdelay
  rw [ringReceive_tagged htag hlen]
  dsimp only
  rw [hcut, (seen_counted hptp hdelay).trans hnew, habort, hfcs, beq_false_of_ne hown, beq_false_of_ne hptp, beq_false_of_ne hdelay]
  simp only [Bool.false_eq_true, if_false, Bool.true_eq_false, Bool.or_self, true_and, hforwards, and_iff_left hptp]

end Tagged

/-! ## What it leaves there -/

theorem noteFrame_leaves (s : State) (sa n : Nat) :
    Keeps [.dict, .ring] s (s.noteFrame sa n) ∧ (sa, n, s.tsc) ∈ (s.noteFrame sa n).ring.duplicates ∧
    ∀ d, (s.noteFrame sa n).ringPort d = s.ringPort d := by
  refine ⟨State.noteFrame_keeps (.refl _ s) sa n (by decide) (by decide), ?_, fun d => ?_⟩
  · unfold State.noteFrame
    dsimp only
    split <;> exact List.mem_cons_self
  · unfold State.noteFrame
    dsimp only
    split <;> cases d <;> rfl

theorem ringDeliver_leaves (s : State) (d : Side) (f : RingFrame) : Keeps [.dict] s (s.ringDeliver d f) :=
  State.ringDeliver_keeps (.refl _ s) d f (by decide)

/-- A port on whose other side a frame is cut through. -/
theorem cutThrough_leaves (habort : f.aborted = false) (hfcs : f.fcsOk = true) (s : State) (d : Side) :
    Keeps [.out, .dict, .ring] s (s.cutThrough d f false) ∧ (s.cutThrough d f false).out = .ringFrame (otherSide d) f false :: s.out ∧
    ((s.cutThrough d f false).ringPort (otherSide d)).sending = some ⟨f, true, true, s.tsc, s.tsc⟩ ∧
    (s.cutThrough d f false).ringPort d = s.ringPort d := by
  have hpasses : s.cutThrough d f false =
      ((s.updRing (otherSide d) fun x => { x with sending := some ⟨f, true, true, s.tsc, s.tsc⟩ }).emit (.ringFrame (otherSide d) f false)).ringCount d 1 := by
    unfold State.cutThrough
    dsimp only
    rw [habort, hfcs]
    rfl
  refine ⟨State.cutThrough_keeps (.refl _ s) d f false (by decide) (by decide) (by decide), ?_⟩
  rw [hpasses]
  refine ⟨?_, ?_, ?_⟩ <;> cases d <;> rfl

theorem RingPort.next_none {x : RingPort} (hlocal : x.localq = []) (htransit : x.transit = []) : x.next t = none := by
  unfold RingPort.next
  rw [hlocal, htransit]

theorem RingPort.next_transit {x : RingPort} {y : RingTx} {l : List RingTx} (hlocal : x.localq = []) (htransit : x.transit = y :: l) :
    x.next t = some (y, { x with transit := l }) := by
  cases x
  cases hlocal
  cases htransit
  rfl

theorem RingPort.next_local {x : RingPort} {y : RingTx} {l : List RingTx} (hlocal : x.localq = y :: l)
    (h : x.transit = [] ∨ y.queued + 100000 ≤ t) : x.next t = some (y, { x with localq := l }) := by
  obtain ⟨_, _, transit, _, _, _, _, _, _, _⟩ := x
  cases hlocal
  cases transit with
  | nil => rfl
  | cons x xs => exact if_pos (h.resolve_left (List.cons_ne_nil x xs))

theorem RingPort.emptied {x : RingPort} (htransit : x.transit = []) (hlocal : x.localq = []) : { x with transit := [], localq := [] } = x := by
  cases x
  cases htransit
  cases hlocal
  rfl

theorem RingPort.untransited {x : RingPort} (htransit : x.transit = []) : { x with transit := [] } = x := by
  cases x
  cases htransit
  rfl

/-- A frame that is stored for an idle port leaves there at once. -/
theorem ringStore_leaves (hlen : f.length ≤ 1528) (hup : (s.ringPort (otherSide d)).link = .up)
    (hsend : (s.ringPort (otherSide d)).sending = none) (htransit : (s.ringPort (otherSide d)).transit = [])
    (hlocal : (s.ringPort (otherSide d)).localq = []) :
    Keeps [.out, .dict, .ring] s (s.ringStore d f) ∧ (s.ringStore d f).out = .ringFrame (otherSide d) f false :: s.out ∧
    ((s.ringStore d f).ringPort (otherSide d)).sending = some ⟨f, true, false, s.tsc, s.tsc⟩ ∧
    (s.ringStore d f).ringPort d = s.ringPort d ∧ (s.ringStore d f).ring.shared = s.ring.shared := by
  have hroom : ¬ (s.ringPort (otherSide d)).stored + f.length > 65536 := by
    unfold RingPort.stored
    rw [htransit]
    simp only [List.foldl_nil]
    omega
  have hstore : s.ringStore d f =
      ((s.setRingPort (otherSide d) { s.ringPort (otherSide d) with transit := [⟨f, true, false, s.tsc, 0⟩] }).ringCount d 3).ringKick (otherSide d) := by
    unfold State.ringStore
    dsimp only
    rw [if_neg (not_not.mpr hup), if_neg hroom, htransit]
    rfl
  have hstored : Keeps [.dict, .ring] s ((s.setRingPort (otherSide d) { s.ringPort (otherSide d) with transit := [⟨f, true, false, s.tsc, 0⟩] }).ringCount d 3) :=
    State.ringCount_keeps (setRingPort_keeps_self ..).mono d 3 (by decide)
  have hself : ((s.setRingPort (otherSide d) { s.ringPort (otherSide d) with transit := [⟨f, true, false, s.tsc, 0⟩] }).ringCount d 3).ringPort (otherSide d) =
      { s.ringPort (otherSide d) with transit := [⟨f, true, false, s.tsc, 0⟩] } := by cases d <;> rfl
  have hother : ((s.setRingPort (otherSide d) { s.ringPort (otherSide d) with transit := [⟨f, true, false, s.tsc, 0⟩] }).ringCount d 3).ringPort d =
      s.ringPort d := by cases d <;> rfl
  have hshared : ((s.setRingPort (otherSide d) { s.ringPort (otherSide d) with transit := [⟨f, true, false, s.tsc, 0⟩] }).ringCount d 3).ring.shared =
      s.ring.shared := setRingPort_shared ..
  rw [hstore]
  generalize (s.setRingPort (otherSide d) { s.ringPort (otherSide d) with transit := [⟨f, true, false, s.tsc, 0⟩] }).ringCount d 3 = w
    at hstored hself hother hshared
  have htsc : w.tsc = s.tsc := hstored.frame .tsc (by decide)
  have hnext : (w.waiting (otherSide d)).next w.tsc = some (⟨f, true, false, s.tsc, 0⟩, s.ringPort (otherSide d)) := by
    unfold State.waiting
    rw [hself]
    split
    · exact (RingPort.next_transit rfl rfl).trans (congrArg (fun y => some ((⟨f, true, false, s.tsc, 0⟩ : RingTx), y)) (RingPort.emptied htransit hlocal))
    · exact (RingPort.next_transit (x := { s.ringPort (otherSide d) with transit := [⟨f, true, false, s.tsc, 0⟩] }) hlocal rfl).trans (congrArg (fun y => some ((⟨f, true, false, s.tsc, 0⟩ : RingTx), y)) (RingPort.untransited htransit))
  have hstart := ringKick_starts (by rw [hself]; exact hsend) (by rw [hself]; exact hup) hnext
  have hkick := ringKick_port w (otherSide d)
  refine ⟨hstored.mono.trans hkick.keeps.mono, ?_, ?_, ?_, hkick.shared.trans hshared⟩
  · rw [hstart, ← (show w.out = s.out from hstored.frame .out (by decide))]
    cases d <;> rfl
  · rw [hstart, htsc]
    cases d <;> rfl
  · exact ((congrArg (State.ringPort _) (otherSide_otherSide d)).symm.trans hkick.other).trans
      ((congrArg w.ringPort (otherSide_otherSide d)).trans hother)

end RingReception

end Sys2Proof.Machine
end

section
/-! Frames that the module sends on the ring, and its precision time (R370-R374, R381). -/

set_option Elab.async false

namespace Sys2Proof.Machine

section RingSending

variable {s u v : State} {t n : Nat} {d : Side}

/-! ## The end of a frame (R371, R381) -/

/-- A port whose frame has left. -/
def State.sent (s : State) (d : Side) : State := s.updRing d fun x => { x with sending := none }

theorem sent_idle (h : (s.ringPort d).sending = none) : s.sent d = s := by
  have hport : { s.ringPort d with sending := none } = s.ringPort d := by
    cases hx : s.ringPort d
    rw [hx] at h
    cases h
    rfl
  refine (congrArg (s.setRingPort d) hport).trans ?_
  cases d <;> rfl

theorem sent_port (s : State) (d : Side) : (s.sent d).ringPort d = { s.ringPort d with sending := none } := updRing_port s d _

theorem exec_ringTransmitEnd_kick (hp : s.rst.powered = true) (hup : s.ringUp = true) (t : Nat) (hstate : s.ring.state ≠ .extracting)
    (hdue : ∀ y, (s.ringPort d).sending = some y → y.started + ringFrameNs y.frame.length ≤ max s.tsc t) :
    exec (.ringTransmitEnd t d) s = .next (((s.upTo t).sent d).ringKick d) := by
  show execRingTransmitEnd t d s = _
  unfold execRingTransmitEnd
  rw [State.runRing_up hp hup]
  cases hsend : (s.ringPort d).sending with
  | none =>
    have hsend' : ((s.upTo t).ringPort d).sending = none := hsend
    rw [hsend', sent_idle hsend']
  | some y =>
    have hsend' : ((s.upTo t).ringPort d).sending = some y := hsend
    rw [hsend']
    have hstill : ((s.upTo t).sent d).ring.state ≠ .extracting := by
      rw [show ((s.upTo t).sent d).ring.state = s.ring.state from (congrArg Ring.state (updRing_shared (s.upTo t) d _) :)]
      exact hstate
    exact congrArg Host.Outcome.next ((if_pos (hdue y hsend)).trans (if_neg fun hc => hstill hc.1))

theorem exec_ringTransmitEnd_early (hp : s.rst.powered = true) (hup : s.ringUp = true) (t : Nat) {y : RingTx}
    (hsend : (s.ringPort d).sending = some y) (hearly : max s.tsc t < y.started + ringFrameNs y.frame.length) :
    exec (.ringTransmitEnd t d) s = .next (s.upTo t) := by
  have hsend' : ((s.upTo t).ringPort d).sending = some y := hsend
  show execRingTransmitEnd t d s = _
  unfold execRingTransmitEnd
  rw [State.runRing_up hp hup, hsend']
  exact congrArg Host.Outcome.next (if_neg (Nat.not_le.mpr hearly))

theorem exec_ringTransmitEnd_quiet (hp : s.rst.powered = true) (hup : s.ringUp = true) (t : Nat) {y : RingTx}
    (hsend : (s.ringPort d).sending = some y) (hdue : y.started + ringFrameNs y.frame.length ≤ max s.tsc t)
    (hstate : s.ring.state = .extracting) (hother : (s.ringPort (otherSide d)).sending = none) :
    exec (.ringTransmitEnd t d) s = .next (((s.upTo t).sent d).ringDrive false) := by
  have hsend' : ((s.upTo t).ringPort d).sending = some y := hsend
  have hstill : ((s.upTo t).sent d).ring.state = .extracting := (congrArg Ring.state (updRing_shared (s.upTo t) d _) :).trans hstate
  have hquiet : ((s.upTo t).sent d).ringQuiet = true := by
    have hself := congrArg RingPort.sending (sent_port (s.upTo t) d)
    have hpartner := (congrArg RingPort.sending (updRing_other (s.upTo t) d fun x => { x with sending := none })).trans hother
    unfold State.ringQuiet
    rw [Bool.and_eq_true, Option.isNone_iff_eq_none, Option.isNone_iff_eq_none]
    cases d with
    | east => exact ⟨hself, hpartner⟩
    | west => exact ⟨hpartner, hself⟩
  show execRingTransmitEnd t d s = _
  unfold execRingTransmitEnd
  rw [State.runRing_up hp hup, hsend']
  exact congrArg Host.Outcome.next ((if_pos hdue).trans (if_pos ⟨hstill, hquiet⟩))

theorem ringKick_sending {x : RingTx} {y : RingPort} (hsend : (s.ringPort d).sending = none) (hup : (s.ringPort d).link = .up)
    (hnext : (s.waiting d).next s.tsc = some (x, y)) :
    (s.ringKick d).ringPort d = { y with sending := some { x with started := s.tsc } } := by
  rw [ringKick_starts hsend hup hnext]
  cases d <;> rfl

/-! ## Frames of the module's own (R370) -/

/-- A frame of the module's own joins the queue of a port that is UP. -/
def State.sendOn (s v : State) (da etherType : Nat) (vlan : Option (Nat × Nat)) (payload : Bytes) (d : Side) : State :=
  if (v.ringPort d).link = .up then (v.updRing d fun x => { x with localq := x.localq ++ [⟨s.ownFrame da etherType vlan payload d, false, false, v.tsc, 0⟩] }).ringKick d
  else v

section Own

variable {da etherType : Nat} {vlan : Option (Nat × Nat)} {payload : Bytes}

theorem sendOn_port (s v : State) (d : Side) : OnePort d v (s.sendOn v da etherType vlan payload d) := by
  unfold State.sendOn
  split
  · have hqueued : OnePort d v (v.updRing d fun x => { x with localq := x.localq ++ [⟨s.ownFrame da etherType vlan payload d, false, false, v.tsc, 0⟩] }) :=
      OnePort.setRingPort rfl
    exact hqueued.trans (ringKick_port ..)
  · exact .refl d v

theorem sendOn_busy (hup : (v.ringPort d).link = .up) {y : RingTx} (hsend : (v.ringPort d).sending = some y) :
    ((s.sendOn v da etherType vlan payload d).ringPort d).localq =
      (v.ringPort d).localq ++ [⟨s.ownFrame da etherType vlan payload d, false, false, v.tsc, 0⟩] := by
  have hport := updRing_port v d fun x => { x with localq := x.localq ++ [⟨s.ownFrame da etherType vlan payload d, false, false, v.tsc, 0⟩] }
  unfold State.sendOn
  rw [if_pos hup, ringKick_busy (.inl (by rw [hport]; exact Option.isSome_iff_exists.mpr ⟨y, hsend⟩)), hport]

theorem sendOn_idle (hup : (v.ringPort d).link = .up) (hstate : v.ring.state ≠ .extracting) (hsend : (v.ringPort d).sending = none)
    (htransit : (v.ringPort d).transit = []) (hlocal : (v.ringPort d).localq = []) :
    ((s.sendOn v da etherType vlan payload d).ringPort d).sending =
      some ⟨s.ownFrame da etherType vlan payload d, false, false, v.tsc, v.tsc⟩ := by
  have hport := updRing_port v d fun x => { x with localq := x.localq ++ [⟨s.ownFrame da etherType vlan payload d, false, false, v.tsc, 0⟩] }
  have hshared := updRing_shared v d fun x => { x with localq := x.localq ++ [⟨s.ownFrame da etherType vlan payload d, false, false, v.tsc, 0⟩] }
  have hkeeps := updRing_keeps_self v d fun x => { x with localq := x.localq ++ [⟨s.ownFrame da etherType vlan payload d, false, false, v.tsc, 0⟩] }
  unfold State.sendOn
  rw [if_pos hup]
  generalize (v.updRing d fun x => { x with localq := x.localq ++ [⟨s.ownFrame da etherType vlan payload d, false, false, v.tsc, 0⟩] }) = w
    at hport hshared hkeeps
  have hwaiting : w.waiting d = w.ringPort d := if_neg fun hc => hstate ((congrArg Ring.state hshared :).symm.trans hc)
  have htsc : w.tsc = v.tsc := hkeeps.frame .tsc (by decide)
  have hqueue : (w.ringPort d).localq = [⟨s.ownFrame da etherType vlan payload d, false, false, v.tsc, 0⟩] := by
    rw [hport]
    exact congrArg (· ++ _) hlocal
  have hnext : (w.waiting d).next w.tsc = some (⟨s.ownFrame da etherType vlan payload d, false, false, v.tsc, 0⟩, { w.ringPort d with localq := [] }) := by
    rw [hwaiting]
    exact RingPort.next_local hqueue (.inl (by rw [hport]; exact htransit))
  rw [ringKick_sending (by rw [hport]; exact hsend) (by rw [hport]; exact hup) hnext, htsc]

/-- A frame of the module's own leaves on both ports, and each takes its own as it stands. -/
theorem sendRing_leaves (s : State) (da etherType : Nat) (vlan : Option (Nat × Nat)) (payload : Bytes) :
    Keeps [.out, .ring] s (s.sendRing da etherType vlan payload) ∧
    (s.sendRing da etherType vlan payload).ring.shared = { s.ring.shared with sequence := (s.ring.sequence + 1) % 65536 } ∧
    ∀ d, ∃ v, v.ringPort d = s.ringPort d ∧ v.ring.state = s.ring.state ∧ v.tsc = s.tsc ∧
      (s.sendRing da etherType vlan payload).ringPort d = (s.sendOn v da etherType vlan payload d).ringPort d := by
  let u : State := { s with ring := { s.ring with sequence := (s.ring.sequence + 1) % 65536 } }
  have hu : Keeps [.ring] s u :=
    Keeps.record (.refl _ _) rfl rfl rfl rfl rfl rfl rfl rfl rfl rfl rfl rfl rfl rfl rfl rfl rfl rfl rfl
  have heast := sendOn_port (da := da) (etherType := etherType) (vlan := vlan) (payload := payload) s u .east
  have hwest := sendOn_port (da := da) (etherType := etherType) (vlan := vlan) (payload := payload) s (s.sendOn u da etherType vlan payload .east) .west
  refine ⟨hu.mono.trans (heast.keeps.trans hwest.keeps), hwest.shared.trans heast.shared, fun d => ?_⟩
  cases d with
  | east => exact ⟨u, rfl, rfl, rfl, hwest.other⟩
  | west => exact ⟨s.sendOn u da etherType vlan payload .east, heast.other, (congrArg Ring.state heast.shared :), heast.keeps.frame .tsc (by decide), rfl⟩

end Own

/-- A state in which a supervision frame is due. -/
def State.supervised (s : State) : State := { s with ring := { s.ring with supervisedAt := s.tsc } }

theorem exec_hsrSupervisionSend (hp : s.rst.powered = true) (hup : s.ringUp = true) (t : Nat) :
    exec (.hsrSupervisionSend t) s = .next
      (if s.ring.supervisedAt + s.val 0x3800 0x0E * 1000000 ≤ max s.tsc t then (s.upTo t).supervised.sendRing daSupervision 0x88FB none (toBE 6 Config.ringAddress)
        else s.upTo t) := by
  show execHsrSupervisionSend t s = _
  unfold execHsrSupervisionSend
  exact State.runRing_up hp hup t _

end RingSending

end Sys2Proof.Machine
end

section
/-! Messages of precision time on the ring (R373, R374). -/

set_option Elab.async false

namespace Sys2Proof.Machine

section RingTime

variable {s u v : State} {t n : Nat} {d : Side} {m : PtpMessage}

theorem exec_ptpMessageReceived (hp : s.rst.powered = true) (hup : s.ringUp = true) (t : Nat) (hlink : (s.ringPort d).link = .up) (m : PtpMessage) :
    exec (.ptpMessageReceived t d m) s = .next ((s.upTo t).ptpReceive d m) := by
  show execPtpMessageReceived t d m s = _
  unfold execPtpMessageReceived
  rw [State.runRing_up hp hup]
  exact congrArg Host.Outcome.next (if_pos hlink)

theorem sendPtp_up (hup : (s.ringPort d).link = .up) (m : PtpMessage) : s.sendPtp d m = s.emit (.ptp d m) := if_pos hup

/-- What messages that leave change: the output alone, to which they are added. -/
structure Posted (s u : State) : Prop where
  keeps : Keeps [.out] s u
  ring : u.ring = s.ring
  out : ∀ o ∈ s.out, o ∈ u.out

theorem Posted.trans (h : Posted s u) (k : Posted u v) : Posted s v :=
  ⟨h.keeps.trans k.keeps, k.ring.trans h.ring, fun o ho => k.out o (h.out o ho)⟩

theorem sendPtp_posted (s : State) (d : Side) (m : PtpMessage) : Posted s (s.sendPtp d m) := by
  refine ⟨State.sendPtp_keeps (.refl _ s) d m (by decide), ?_, ?_⟩
  · unfold State.sendPtp
    split <;> rfl
  · unfold State.sendPtp
    split
    · exact fun o ho => List.mem_cons_of_mem _ ho
    · exact fun o ho => ho

theorem sendPtp_port (s : State) (d e : Side) (m : PtpMessage) : (s.sendPtp d m).ringPort e = s.ringPort e :=
  ringPort_congr (sendPtp_posted s d m).ring e

/-! ## A received message, by its kind -/

theorem ptpReceive_own (h : m.own = true) : s.ptpReceive d m = s := by
  unfold State.ptpReceive
  exact if_pos h

section Foreign

variable (hforeign : m.own = false)
include hforeign

theorem ptpReceive_other (hkind : m.kind = .other) : s.ptpReceive d m = s.sendPtp (otherSide d) m := by
  unfold State.ptpReceive
  rw [hforeign, hkind]
  rfl

theorem ptpReceive_pdelayResp (hkind : m.kind = .pdelayResp) :
    s.ptpReceive d m = s.updRing d fun x => { x with response := some (m.sequence, m.requestReceived, s.tsc) } := by
  unfold State.ptpReceive
  rw [hforeign, hkind]
  rfl

theorem ptpReceive_pdelayReq (hkind : m.kind = .pdelayReq) : s.ptpReceive d m =
    (s.sendPtp d { m with kind := .pdelayResp, requestReceived := s.tsc, correction := 0, own := true }).sendPtp d
      { m with kind := .pdelayRespFollowUp, origin := s.tsc, correction := 0, own := true } := by
  unfold State.ptpReceive
  rw [hforeign, hkind]
  rfl

/-- The delay to the partner that an exchange gives. -/
def partnerDelay (x : RingPort) (m : PtpMessage) (t2 t4 : Nat) : Int :=
  (((t4 : Int) - (x.pdelayAt : Int)) - ((m.origin : Int) - (t2 : Int)) - m.correction) / 2

theorem ptpReceive_pdelayRespFollowUp (hkind : m.kind = .pdelayRespFollowUp) {t2 t4 : Nat}
    (hresponse : (s.ringPort d).response = some (m.sequence, t2, t4)) : s.ptpReceive d m =
    (s.updRing d fun x => { x with response := none }).setVal 0x3820 (ptpNumber d) (unsigned 64 (partnerDelay (s.ringPort d) m t2 t4)) := by
  unfold State.ptpReceive
  rw [hforeign, hkind]
  dsimp only
  rw [hresponse]
  exact if_pos rfl

theorem ptpReceive_followUp (hkind : m.kind = .followUp) {r : Nat} (hresidence : (s.ringPort d).residence = some (m.sequence, r)) :
    s.ptpReceive d m = (s.updRing d fun x => { x with residence := none }).sendPtp (otherSide d)
      { m with correction := m.correction + (r : Int) + signed 64 (s.val 0x3820 (ptpNumber d)) } := by
  unfold State.ptpReceive
  rw [hforeign, hkind]
  dsimp only
  rw [hresidence]
  exact if_pos rfl

/-- A Sync of the module's own domain marks the port. -/
def State.synced (s : State) (d : Side) (m : PtpMessage) : State :=
  if s.ptpRuns m then s.updRing d fun x => { x with syncAt := s.tsc } else s

theorem ptpReceive_sync (hkind : m.kind = .sync) : s.ptpReceive d m =
    (({ s.synced d m with free := s.free + 1 } : State).updRing d fun x =>
      { x with residence := some (m.sequence, Config.freeValue s.free % 5549) }).sendPtp (otherSide d) m := by
  unfold State.ptpReceive
  rw [hforeign, hkind]
  rfl

theorem ptpReceive_announce (hkind : m.kind = .announce) (hruns : s.ptpRuns m = true) (hbest : m.bestMaster = true) : s.ptpReceive d m =
    ((s.updRing d fun x => { x with steps := some m.stepsRemoved, syncAt := s.tsc }).choosePtp).sendPtp (otherSide d) m := by
  unfold State.ptpReceive
  rw [hforeign, hkind]
  dsimp only
  rw [if_neg (by decide), if_pos ⟨hruns, hbest⟩]

end Foreign

/-! ## The port in use (R374) -/

theorem choosePtp_only {a : Nat} (hsteps : (s.ringPort d).steps = some a) (hother : (s.ringPort (otherSide d)).steps = none) :
    s.choosePtp.ring.ptpPort = 1 + sideNo d := by
  unfold State.choosePtp
  cases d with
  | east =>
    rw [show s.ring.east.steps = some a from hsteps, show s.ring.west.steps = none from hother]
    rfl
  | west =>
    rw [show s.ring.west.steps = some a from hsteps, show s.ring.east.steps = none from hother]
    rfl

/-- A clock that has lost the Sync of its port. -/
def State.syncLost (s : State) (d : Side) : State :=
  { s.updRing d fun x => { x with steps := none } with ring := { (s.updRing d fun x => { x with steps := none }).ring with
    ptpPort := if ((s.updRing d fun x => { x with steps := none }).ringPort (otherSide d)).steps.isSome then ptpNumber (otherSide d) else 0 } }

theorem exec_ptpSyncTimeout (hp : s.rst.powered = true) (hup : s.ringUp = true) (t : Nat) (hport : s.ring.ptpPort = 1 + sideNo d)
    (hlate : (s.ringPort d).syncAt + 3000000000 ≤ max s.tsc t) : exec (.ptpSyncTimeout t) s = .next ((s.upTo t).syncLost d) := by
  have hside : (if s.ring.ptpPort = 1 then Side.east else Side.west) = d := by
    rw [hport]
    cases d <;> rfl
  have hside' : (if (s.upTo t).ring.ptpPort = 1 then Side.east else Side.west) = d := hside
  show execPtpSyncTimeout t s = _
  unfold execPtpSyncTimeout
  rw [State.runRing_up hp hup]
  dsimp only
  rw [hside']
  exact congrArg Host.Outcome.next (if_pos ⟨by rw [show (s.upTo t).ring.ptpPort = _ from hport]; omega, hlate⟩)

/-! ## The messages of the interval (R373) -/

/-- The module is master of its domain. -/
def State.ptpMaster (s : State) : Bool := s.val 0x1200 0x0F == 2 && s.ring.east.steps.isNone && s.ring.west.steps.isNone

/-- The messages of a port at the interval. -/
def State.intervalOn (s v : State) (d : Side) : State :=
  let w := (v.updRing d fun x => { x with pdelayAt := v.tsc }).sendPtp d (ptpOwn .pdelayReq (s.val 0x1200 0x0E) s.ring.ptpSequence v.tsc 0)
  if s.ptpMaster then
    ((w.sendPtp d (ptpOwn .sync (s.val 0x1200 0x0E) s.ring.ptpSequence v.tsc 0)).sendPtp d
      (ptpOwn .followUp (s.val 0x1200 0x0E) s.ring.ptpSequence v.tsc 0)).sendPtp d
      (ptpOwn .announce (s.val 0x1200 0x0E) s.ring.ptpSequence v.tsc (s.val 0x1200 0x10))
  else w

theorem intervalOn_leaves (s v : State) (d : Side) :
    OnePort d v (s.intervalOn v d) ∧ ((s.intervalOn v d).ringPort d).pdelayAt = v.tsc ∧ (∀ o ∈ v.out, o ∈ (s.intervalOn v d).out) ∧
    ((v.ringPort d).link = .up → Out.ptp d (ptpOwn .pdelayReq (s.val 0x1200 0x0E) s.ring.ptpSequence v.tsc 0) ∈ (s.intervalOn v d).out) := by
  have hport := updRing_port v d fun x => { x with pdelayAt := v.tsc }
  have hone : OnePort d v (v.updRing d fun x => { x with pdelayAt := v.tsc }) := OnePort.setRingPort rfl
  have hout : (v.updRing d fun x => { x with pdelayAt := v.tsc }).out = v.out := (updRing_keeps_self v d _).frame .out (by decide)
  have hrequest := sendPtp_posted (v.updRing d fun x => { x with pdelayAt := v.tsc }) d
    (ptpOwn .pdelayReq (s.val 0x1200 0x0E) s.ring.ptpSequence v.tsc 0)
  have hrest : Posted ((v.updRing d fun x => { x with pdelayAt := v.tsc }).sendPtp d
      (ptpOwn .pdelayReq (s.val 0x1200 0x0E) s.ring.ptpSequence v.tsc 0)) (s.intervalOn v d) := by
    unfold State.intervalOn
    dsimp only
    split
    · exact (sendPtp_posted ..).trans ((sendPtp_posted ..).trans (sendPtp_posted ..))
    · exact ⟨.refl _ _, rfl, fun o ho => ho⟩
  have hall := hrequest.trans hrest
  refine ⟨⟨hone.keeps.trans hall.keeps.mono, ?_, ?_, ?_⟩, ?_, fun o ho => hall.out o (hout.symm ▸ ho), fun hup => hrest.out _ ?_⟩
  · rw [ringPort_congr hall.ring]
    exact hone.link
  · rw [ringPort_congr hall.ring]
    exact hone.other
  · rw [hall.ring]
    exact hone.shared
  · rw [ringPort_congr hall.ring, hport]
  · rw [sendPtp_up (by rw [hport]; exact hup)]
    exact List.mem_cons_self

theorem ptpInterval_eq (s : State) : s.ptpInterval =
    s.intervalOn (s.intervalOn { s with ring := { s.ring with ptpSequence := (s.ring.ptpSequence + 1) % 65536 } } .east) .west := rfl

theorem ptpInterval_leaves (s : State) :
    Keeps [.out, .ring] s s.ptpInterval ∧ s.ptpInterval.ring.shared = { s.ring.shared with ptpSequence := (s.ring.ptpSequence + 1) % 65536 } ∧
    ∀ d, (s.ptpInterval.ringPort d).pdelayAt = s.tsc ∧
      ((s.ringPort d).link = .up → Out.ptp d (ptpOwn .pdelayReq (s.val 0x1200 0x0E) s.ring.ptpSequence s.tsc 0) ∈ s.ptpInterval.out) := by
  let u : State := { s with ring := { s.ring with ptpSequence := (s.ring.ptpSequence + 1) % 65536 } }
  have hu : Keeps [.ring] s u :=
    Keeps.record (.refl _ _) rfl rfl rfl rfl rfl rfl rfl rfl rfl rfl rfl rfl rfl rfl rfl rfl rfl rfl rfl
  obtain ⟨heast, hestamp, heout, herequest⟩ := intervalOn_leaves s u .east
  obtain ⟨hwest, hwstamp, hwout, hwrequest⟩ := intervalOn_leaves s (s.intervalOn u .east) .west
  have htsc : (s.intervalOn u .east).tsc = s.tsc := heast.keeps.frame .tsc (by decide)
  rw [ptpInterval_eq]
  refine ⟨hu.mono.trans (heast.keeps.trans hwest.keeps), hwest.shared.trans heast.shared, fun d => ?_⟩
  cases d with
  | east => exact ⟨(congrArg RingPort.pdelayAt hwest.other :).trans hestamp, fun h => hwout _ (herequest h)⟩
  | west =>
    rw [htsc] at hwstamp hwrequest
    exact ⟨hwstamp, fun h => hwrequest ((congrArg RingPort.link heast.other :).trans h)⟩

theorem exec_ptpMessageInterval (hp : s.rst.powered = true) (hup : s.ringUp = true) (t : Nat) :
    exec (.ptpMessageInterval t) s = .next (if s.val 0x1200 0x0F = 0 then s.upTo t else (s.upTo t).ptpInterval) := by
  show execPtpMessageInterval t s = _
  unfold execPtpMessageInterval
  exact State.runRing_up hp hup t _

end RingTime

end Sys2Proof.Machine
end

section
/-! The obligation on the ring's traffic, from the lemmas on its frames and its messages. -/

set_option Elab.async false

namespace Sys2Proof.Machine

section RingTraffic

variable {s u v : State} {t n : Nat} {d : Side} {f : RingFrame} {m : PtpMessage}

/-! ## Received frames -/

section Received

variable (hp : s.rst.powered = true) (hup : s.ringUp = true) (hlink : (s.ringPort d).link = .up)
include hp hup hlink

theorem ringFrame_untagged (htag : f.hsrTag = none) :
    (f.da ≠ daPeerDelay → ∃ u, exec (.ringFrameReceived t d f) s = .next u ∧ Did t [.dict] s u ∧ Counted [keyOf 0x3810 (sideSub d 0x0B)] s u) ∧
    (f.da = daPeerDelay →
      (f.aborted = true → ∃ u, exec (.ringFrameReceived t d f) s = .next u ∧ Did t [.dict] s u ∧ Counted [keyOf 0x3810 (sideSub d 0x13)] s u) ∧
      (f.aborted = false → f.fcsOk = true → ∃ u, exec (.ringFrameReceived t d f) s = .next u ∧ Did t [] s u) ∧
      (f.aborted = false → f.fcsOk = false → ∃ u, exec (.ringFrameReceived t d f) s = .next u ∧ Did t [.dict] s u ∧
        Counted [keyOf 0x4220 (1 + sideNo d)] s u)) := by
  have hexec := exec_ringFrameReceived hp hup t d f
  rw [if_pos hlink, ringReceive_untagged htag] at hexec
  refine ⟨fun hda => ?_, fun hda => ⟨fun habort => ?_, fun habort hfcs => ?_, fun habort hfcs => ?_⟩⟩
  · rw [if_neg hda] at hexec
    exact ⟨_, hexec, .of_keeps (State.ringCount_keeps (.refl _ _) d 0x0B (by decide)) (by decide), (Keeps.refl [] (s.upTo t)).counted _ _⟩
  · rw [if_pos hda, if_pos habort] at hexec
    exact ⟨_, hexec, .of_keeps (State.ringCount_keeps (.refl _ _) d 0x13 (by decide)) (by decide), (Keeps.refl [] (s.upTo t)).counted _ _⟩
  · rw [if_pos hda, if_neg (by rw [habort]; decide), if_pos hfcs] at hexec
    exact Did.answer_upTo hexec
  · rw [if_pos hda, if_neg (by rw [habort]; decide), if_neg (by rw [hfcs]; decide)] at hexec
    exact ⟨_, hexec, .of_keeps (State.bump_keeps (.refl _ _) _ _ (by decide)) (by decide), (Keeps.refl [] (s.upTo t)).counted _ _⟩

theorem ringFrame_discarded {i j : Nat} (h : (s.upTo t).ringReceive d f = (s.upTo t).bump i j) :
    ∃ u, exec (.ringFrameReceived t d f) s = .next u ∧ Did t [.dict] s u ∧ Counted [keyOf i j] s u := by
  have hexec := exec_ringFrameReceived hp hup t d f
  rw [if_pos hlink, h] at hexec
  exact ⟨_, hexec, .of_keeps (State.bump_keeps (.refl _ _) _ _ (by decide)) (by decide), (Keeps.refl [] (s.upTo t)).counted _ _⟩

variable (htag : f.hsrTag = some n) (hlen : f.length ≤ 1528) (habort : f.aborted = false) (hfcs : f.fcsOk = true)
include htag hlen habort hfcs

theorem ringFrame_cut (hcut : s.cutsThrough d f.da = true) :
    (f.sa = Config.ringAddress ∨ (s.upTo t).isDuplicate f.sa n = true →
      ∃ u, exec (.ringFrameReceived t d f) s = .next u ∧ Did t [.out, .dict] s u ∧ u.out = .ringFrame (otherSide d) f true :: s.out ∧
        Counted [keyOf 0x3810 (sideSub d 7)] s u) ∧
    (f.sa ≠ Config.ringAddress → (s.upTo t).isDuplicate f.sa n = false →
      ∃ u, exec (.ringFrameReceived t d f) s = .next u ∧ Did t [.out, .dict, .ring] s u ∧
        u.out = .ringFrame (otherSide d) f false :: s.out ∧
        (u.ringPort (otherSide d)).sending = some ⟨f, true, true, max s.tsc t, max s.tsc t⟩ ∧
        (f.sa, n, max s.tsc t) ∈ u.ring.duplicates ∧ u.ringPort d = s.ringPort d) := by
  have hcut' : (s.upTo t).cutsThrough d f.da = true := hcut
  have hexec := exec_ringFrameReceived hp hup t d f
  rw [if_pos hlink] at hexec
  refine ⟨fun hremoved => ?_, fun hown hnew => ?_⟩
  · rw [ringReceive_cut_removed htag hlen hcut' habort hfcs hremoved] at hexec
    have hout : Keeps [.out] (s.upTo t) ((s.upTo t).emit (.ringFrame (otherSide d) f true)) := State.emit_keeps (.refl _ _) _ (by decide)
    exact ⟨_, hexec, .of_keeps (State.ringCount_keeps hout.mono d 7 (by decide)) (by decide), rfl, hout.counted _ _⟩
  · rw [ringReceive_cut_forwarded htag hlen hcut' habort hfcs hown hnew] at hexec
    obtain ⟨hkeeps, hout, hsending, hport⟩ := cutThrough_leaves habort hfcs (s.upTo t) d
    generalize (s.upTo t).cutThrough d f false = w at hexec hkeeps hout hsending hport
    obtain ⟨hnoted, hmem, hports⟩ := noteFrame_leaves w f.sa n
    generalize w.noteFrame f.sa n = x at hexec hnoted hmem hports
    have hdeliver := ringDeliver_leaves x d f
    have hring : (x.ringDeliver d f).ring = x.ring := hdeliver.frame .ring (by decide)
    have htsc : w.tsc = max s.tsc t := hkeeps.frame .tsc (by decide)
    refine ⟨_, hexec, .of_keeps (hkeeps.trans (hnoted.mono.trans hdeliver.mono)) (by decide), ?_, ?_, ?_, ?_⟩
    · exact ((hdeliver.frame .out (by decide)).trans (hnoted.frame .out (by decide))).trans hout
    · rw [ringPort_congr hring, hports]
      exact hsending
    · rw [hring, ← htsc]
      exact hmem
    · rw [ringPort_congr hring, hports]
      exact hport

variable (hcut : s.cutsThrough d f.da = false) (hown : f.sa ≠ Config.ringAddress) (hptp : f.da ≠ daPtp) (hdelay : f.da ≠ daPeerDelay)
  (hnew : (s.upTo t).isDuplicate f.sa n = false)
include hcut hown hptp hdelay hnew

theorem ringFrame_mine (hda : f.da = Config.ringAddress) :
    ∃ u, exec (.ringFrameReceived t d f) s = .next u ∧ Did t [.dict, .ring] s u ∧ (f.sa, n, max s.tsc t) ∈ u.ring.duplicates ∧
      u.ring.east = s.ring.east ∧ u.ring.west = s.ring.west := by
  have hcut' : (s.upTo t).cutsThrough d f.da = false := hcut
  have hexec := exec_ringFrameReceived hp hup t d f
  rw [if_pos hlink, ringReceive_new htag hlen hcut' habort hfcs hown hptp hdelay hnew, if_neg (not_not.mpr hda)] at hexec
  obtain ⟨hnoted, hmem, hports⟩ := noteFrame_leaves (s.upTo t) f.sa n
  generalize (s.upTo t).noteFrame f.sa n = x at hexec hnoted hmem hports
  have hdeliver := ringDeliver_leaves x d f
  have hring : (x.ringDeliver d f).ring = x.ring := hdeliver.frame .ring (by decide)
  refine ⟨_, hexec, .of_keeps (hnoted.trans hdeliver.mono) (by decide), ?_, ?_, ?_⟩
  · rw [hring]
    exact hmem
  · exact (congrArg Ring.east hring).trans (hports .east)
  · exact (congrArg Ring.west hring).trans (hports .west)

theorem ringFrame_stored (hda : f.da ≠ Config.ringAddress) (hother : (s.ringPort (otherSide d)).link = .up)
    (hsend : (s.ringPort (otherSide d)).sending = none) (htransit : (s.ringPort (otherSide d)).transit = [])
    (hlocal : (s.ringPort (otherSide d)).localq = []) :
    ∃ u, exec (.ringFrameReceived t d f) s = .next u ∧ Did t [.out, .dict, .ring] s u ∧
      (u.ringPort (otherSide d)).sending = some ⟨f, true, false, max s.tsc t, max s.tsc t⟩ ∧ u.out = .ringFrame (otherSide d) f false :: s.out ∧
      (f.sa, n, max s.tsc t) ∈ u.ring.duplicates ∧ u.ringPort d = s.ringPort d := by
  have hcut' : (s.upTo t).cutsThrough d f.da = false := hcut
  have hexec := exec_ringFrameReceived hp hup t d f
  rw [if_pos hlink, ringReceive_new htag hlen hcut' habort hfcs hown hptp hdelay hnew, if_pos hda] at hexec
  obtain ⟨hnoted, hmem, hports⟩ := noteFrame_leaves (s.upTo t) f.sa n
  generalize (s.upTo t).noteFrame f.sa n = x at hexec hnoted hmem hports
  have hport := hports (otherSide d)
  obtain ⟨hstored, hout, hsending, hself, hshared⟩ := ringStore_leaves (s := x) (d := d) hlen (by rw [hport]; exact hother)
    (by rw [hport]; exact hsend) (by rw [hport]; exact htransit) (by rw [hport]; exact hlocal)
  generalize x.ringStore d f = w at hexec hstored hout hsending hself hshared
  have hdeliver := ringDeliver_leaves w d f
  have hring : (w.ringDeliver d f).ring = w.ring := hdeliver.frame .ring (by decide)
  have htsc : x.tsc = max s.tsc t := hnoted.frame .tsc (by decide)
  refine ⟨_, hexec, .of_keeps (hnoted.mono.trans (hstored.trans hdeliver.mono)) (by decide), ?_, ?_, ?_, ?_⟩
  · rw [ringPort_congr hring, hsending, htsc]
  · exact ((hdeliver.frame .out (by decide)).trans hout).trans (congrArg (List.cons _) (hnoted.frame .out (by decide)))
  · have hduplicates : w.ring.duplicates = x.ring.duplicates := (congrArg Ring.duplicates hshared :)
    rw [hring, hduplicates]
    exact hmem
  · rw [ringPort_congr hring, hself]
    exact hports d

end Received

/-! ## Frames sent -/

theorem hsrSupervision_due (hp : s.rst.powered = true) (hup : s.ringUp = true) (hdue : s.ring.supervisedAt + s.val 0x3800 0x0E * 1000000 ≤ max s.tsc t) :
    ∃ u, exec (.hsrSupervisionSend t) s = .next u ∧ Did t [.out, .ring] s u ∧ u.ring.supervisedAt = max s.tsc t ∧
      u.ring.sequence = (s.ring.sequence + 1) % 65536 ∧
      (∀ y, (s.ringPort d).link = .up → (s.ringPort d).sending = some y →
        ∃ x, (u.ringPort d).localq = (s.ringPort d).localq ++ [x] ∧ x.frame.da = 0x01154E000100 ∧ x.frame.hsrTag = some s.ring.sequence ∧
          x.queued = max s.tsc t) ∧
      ((s.ringPort d).link = .up → s.ring.state ≠ .extracting → (s.ringPort d).sending = none → (s.ringPort d).transit = [] →
        (s.ringPort d).localq = [] → ∃ x, (u.ringPort d).sending = some x ∧ x.transit = false ∧ x.frame.da = 0x01154E000100 ∧
          x.frame.hsrTag = some s.ring.sequence) := by
  have hexec := exec_hsrSupervisionSend hp hup t
  rw [if_pos hdue] at hexec
  obtain ⟨hkeeps, hshared, hports⟩ := sendRing_leaves (s.upTo t).supervised daSupervision 0x88FB none (toBE 6 Config.ringAddress)
  obtain ⟨v, hv, hstate, htsc, hport⟩ := hports d
  have hsup : Keeps [.ring] (s.upTo t) (s.upTo t).supervised :=
    Keeps.record (.refl _ _) rfl rfl rfl rfl rfl rfl rfl rfl rfl rfl rfl rfl rfl rfl rfl rfl rfl rfl rfl
  have hv' : v.ringPort d = s.ringPort d := hv.trans (by cases d <;> rfl)
  refine ⟨_, hexec, .of_keeps (hsup.mono.trans hkeeps) (by decide), (congrArg Ring.supervisedAt hshared :), (congrArg Ring.sequence hshared :),
    fun y hlink hsend => ?_, fun hlink hrun hsend htransit hlocal => ?_⟩
  · rw [hport, sendOn_busy (by rw [hv']; exact hlink) (by rw [hv']; exact hsend), hv']
    exact ⟨_, rfl, rfl, rfl, htsc⟩
  · rw [hport, sendOn_idle (by rw [hv']; exact hlink) (by rw [hstate]; exact hrun) (by rw [hv']; exact hsend) (by rw [hv']; exact htransit)
      (by rw [hv']; exact hlocal)]
    exact ⟨_, rfl, rfl, rfl, rfl⟩

theorem ringTransmit_next (hp : s.rst.powered = true) (hup : s.ringUp = true) (hlink : (s.ringPort d).link = .up) (hstate : s.ring.state ≠ .extracting)
    (hdue : ∀ y, (s.ringPort d).sending = some y → y.started + ringFrameNs y.frame.length ≤ max s.tsc t) :
    ∃ u, exec (.ringTransmitEnd t d) s = .next u ∧ Did t [.out, .ring] s u ∧ u.ringPort (otherSide d) = s.ringPort (otherSide d) ∧
    ((s.ringPort d).transit = [] → (s.ringPort d).localq = [] → (u.ringPort d).sending = none) ∧
    (∀ x l, (s.ringPort d).localq = [] → (s.ringPort d).transit = x :: l →
      (u.ringPort d).sending = some { x with started := max s.tsc t } ∧ (u.ringPort d).transit = l) ∧
    (∀ x l, (s.ringPort d).localq = x :: l → (s.ringPort d).transit = [] ∨ x.queued + 100000 ≤ max s.tsc t →
      (u.ringPort d).sending = some { x with started := max s.tsc t } ∧ (u.ringPort d).localq = l) := by
  have hexec := exec_ringTransmitEnd_kick hp hup t hstate hdue
  have hport := sent_port (s.upTo t) d
  have hkeeps : Keeps [.ring] (s.upTo t) ((s.upTo t).sent d) := updRing_keeps_self ..
  have hother : ((s.upTo t).sent d).ringPort (otherSide d) = s.ringPort (otherSide d) := updRing_other ..
  have hshared : ((s.upTo t).sent d).ring.shared = s.ring.shared := updRing_shared ..
  generalize (s.upTo t).sent d = w at hexec hport hkeeps hother hshared
  have hkick := ringKick_port w d
  have hsend : (w.ringPort d).sending = none := by rw [hport]
  have hup' : (w.ringPort d).link = .up := by rw [hport]; exact hlink
  have htsc : w.tsc = max s.tsc t := hkeeps.frame .tsc (by decide)
  have hwaiting : w.waiting d = w.ringPort d := if_neg fun hc => hstate ((congrArg Ring.state hshared :).symm.trans hc)
  refine ⟨_, hexec, .of_keeps (hkeeps.mono.trans hkick.keeps) (by decide), hkick.other.trans hother, fun htransit hlocal => ?_, fun x l hlocal htransit => ?_,
    fun x l hlocal hturn => ?_⟩
  · rw [ringKick_rests (by rw [hwaiting]; exact RingPort.next_none (by rw [hport]; exact hlocal) (by rw [hport]; exact htransit))]
    exact hsend
  · rw [ringKick_sending hsend hup' (by rw [hwaiting]; exact RingPort.next_transit (by rw [hport]; exact hlocal) (by rw [hport]; exact htransit)), htsc]
    exact ⟨rfl, rfl⟩
  · rw [ringKick_sending hsend hup' (by rw [hwaiting]; exact RingPort.next_local (by rw [hport]; exact hlocal) (by rw [hport, htsc]; exact hturn)), htsc]
    exact ⟨rfl, rfl⟩

theorem ringTransmit_sending (hp : s.rst.powered = true) (hup : s.ringUp = true) {y : RingTx} (hsend : (s.ringPort d).sending = some y) :
    (max s.tsc t < y.started + ringFrameNs y.frame.length → ∃ u, exec (.ringTransmitEnd t d) s = .next u ∧ Did t [] s u) ∧
    (y.started + ringFrameNs y.frame.length ≤ max s.tsc t → s.ring.state = .extracting → (s.ringPort (otherSide d)).sending = none →
      ∃ u, exec (.ringTransmitEnd t d) s = .next u ∧ Did t [.ring] s u ∧ (u.ringPort d).sending = none ∧ u.ring.inserted = false) := by
  refine ⟨fun hearly => Did.answer_upTo (exec_ringTransmitEnd_early hp hup t hsend hearly), fun hdue hstate hother => ?_⟩
  refine ⟨_, exec_ringTransmitEnd_quiet hp hup t hsend hdue hstate hother,
    .of_keeps ((updRing_keeps_self ..).trans (State.ringDrive_keeps (.refl _ _) false (by decide))) (by decide), ?_, ringDrive_inserted ..⟩
  obtain ⟨a, hdrive, -⟩ := ringDrive_record ((s.upTo t).sent d) false
  have hport := congrArg RingPort.sending (sent_port (s.upTo t) d)
  rw [hdrive]
  cases d with
  | east => exact hport
  | west => exact hport

/-! ## Messages of precision time -/

section Ptp

variable (hp : s.rst.powered = true) (hup : s.ringUp = true)
include hp hup

section Message

variable (hlink : (s.ringPort d).link = .up) (hforeign : m.own = false)
include hlink hforeign

theorem ptpMessage_other (hkind : m.kind = .other) (hother : (s.ringPort (otherSide d)).link = .up) :
    ∃ u, exec (.ptpMessageReceived t d m) s = .next u ∧ Did t [.out] s u ∧ u.out = .ptp (otherSide d) m :: s.out := by
  refine ⟨_, exec_ptpMessageReceived hp hup t hlink m, ?_⟩
  rw [ptpReceive_other hforeign hkind, sendPtp_up (s := s.upTo t) hother]
  exact ⟨.record, rfl⟩

theorem ptpMessage_pdelayResp (hkind : m.kind = .pdelayResp) :
    ∃ u, exec (.ptpMessageReceived t d m) s = .next u ∧ Did t [.ring] s u ∧
      (u.ringPort d).response = some (m.sequence, m.requestReceived, max s.tsc t) := by
  refine ⟨_, exec_ptpMessageReceived hp hup t hlink m, ?_⟩
  rw [ptpReceive_pdelayResp hforeign hkind]
  exact ⟨.of_keeps (updRing_keeps_self ..) (by decide), congrArg RingPort.response (updRing_port ..)⟩

theorem ptpMessage_pdelayRespFollowUp {t2 t4 : Nat} (hkind : m.kind = .pdelayRespFollowUp) (hresponse : (s.ringPort d).response = some (m.sequence, t2, t4)) :
    ∃ u, exec (.ptpMessageReceived t d m) s = .next u ∧ Did t [.dict, .ring] s u ∧ (u.ringPort d).response = none ∧
      u.val 0x3820 (ptpNumber d) = unsigned 64 (partnerDelay (s.ringPort d) m t2 t4) % 2 ^ 64 := by
  have hwidth : ∀ v : Variant, (defaultOf v (keyOf 0x3820 (ptpNumber d))).length = 8 := fun v => by cases v <;> cases d <;> decide +kernel
  have hresponse' : ((s.upTo t).ringPort d).response = some (m.sequence, t2, t4) := hresponse
  refine ⟨_, exec_ptpMessageReceived hp hup t hlink m, ?_⟩
  rw [ptpReceive_pdelayRespFollowUp hforeign hkind hresponse']
  have hport := congrArg RingPort.response (updRing_port (s.upTo t) d fun x => { x with response := none })
  have hkeeps := updRing_keeps_self (s.upTo t) d fun x => { x with response := none }
  have hset := (State.updRing (s.upTo t) d fun x => { x with response := none }).val_setVal_self 0x3820 (ptpNumber d)
    (unsigned 64 (partnerDelay (s.ringPort d) m t2 t4))
  rw [hwidth] at hset
  exact ⟨.of_keeps (State.setVal_keeps hkeeps.mono _ _ _ (by decide)) (by decide), by cases d <;> exact hport, hset⟩

theorem ptpMessage_pdelayReq (hkind : m.kind = .pdelayReq) :
    ∃ u, exec (.ptpMessageReceived t d m) s = .next u ∧ Did t [.out] s u ∧
      u.out = .ptp d { m with kind := .pdelayRespFollowUp, origin := max s.tsc t, correction := 0, own := true } ::
        .ptp d { m with kind := .pdelayResp, requestReceived := max s.tsc t, correction := 0, own := true } :: s.out := by
  refine ⟨_, exec_ptpMessageReceived hp hup t hlink m, ?_⟩
  rw [ptpReceive_pdelayReq hforeign hkind, sendPtp_up (s := s.upTo t) hlink, sendPtp_up (s := (s.upTo t).emit _) hlink]
  exact ⟨.record, rfl⟩

theorem ptpMessage_followUp {r : Nat} (hkind : m.kind = .followUp) (hresidence : (s.ringPort d).residence = some (m.sequence, r))
    (hother : (s.ringPort (otherSide d)).link = .up) :
    ∃ u, exec (.ptpMessageReceived t d m) s = .next u ∧ Did t [.out, .ring] s u ∧ (u.ringPort d).residence = none ∧
      u.out = .ptp (otherSide d) { m with correction := m.correction + (r : Int) + signed 64 (s.val 0x3820 (ptpNumber d)) } :: s.out := by
  have hresidence' : ((s.upTo t).ringPort d).residence = some (m.sequence, r) := hresidence
  have hport := congrArg RingPort.residence (updRing_port (s.upTo t) d fun x => { x with residence := none })
  have hpartner := updRing_other (s.upTo t) d fun x => { x with residence := none }
  have hkeeps := updRing_keeps_self (s.upTo t) d fun x => { x with residence := none }
  refine ⟨_, exec_ptpMessageReceived hp hup t hlink m, ?_⟩
  rw [ptpReceive_followUp hforeign hkind hresidence', sendPtp_up (by rw [hpartner]; exact hother)]
  exact ⟨.of_keeps (State.emit_keeps hkeeps.mono _ (by decide)) (by decide), hport, congrArg (List.cons _) (hkeeps.frame .out (by decide))⟩

theorem ptpMessage_sync (hkind : m.kind = .sync) :
    ∃ u, exec (.ptpMessageReceived t d m) s = .next u ∧ Did t [.free, .out, .ring] s u ∧
      (u.ringPort d).residence = some (m.sequence, Config.freeValue s.free % 5549) := by
  have hsynced : Keeps [.ring] (s.upTo t) ((s.upTo t).synced d m) := by
    unfold State.synced
    split
    · exact updRing_keeps_self ..
    · exact .refl _ _
  have hfree : Keeps [.free, .ring] (s.upTo t) { (s.upTo t).synced d m with free := (s.upTo t).free + 1 } :=
    hsynced.mono.trans (Keeps.record (.refl _ _) rfl rfl rfl rfl rfl rfl rfl rfl rfl rfl rfl rfl rfl rfl rfl rfl rfl rfl rfl)
  refine ⟨_, exec_ptpMessageReceived hp hup t hlink m, ?_⟩
  rw [ptpReceive_sync hforeign hkind]
  generalize ({ (s.upTo t).synced d m with free := (s.upTo t).free + 1 } : State) = w at hfree
  have hport := updRing_port w d fun x => { x with residence := some (m.sequence, Config.freeValue s.free % 5549) }
  have hmarked := updRing_keeps_self w d fun x => { x with residence := some (m.sequence, Config.freeValue s.free % 5549) }
  have hposted := sendPtp_posted (w.updRing d fun x => { x with residence := some (m.sequence, Config.freeValue s.free % 5549) }) (otherSide d) m
  exact ⟨.of_keeps (hfree.mono.trans (hmarked.mono.trans hposted.keeps.mono)) (by decide),
    congrArg RingPort.residence ((ringPort_congr hposted.ring d).trans hport)⟩

theorem ptpMessage_announce (hkind : m.kind = .announce) (hruns : s.ptpRuns m = true) (hbest : m.bestMaster = true)
    (hother : (s.ringPort (otherSide d)).steps = none) :
    ∃ u, exec (.ptpMessageReceived t d m) s = .next u ∧ Did t [.out, .ring] s u ∧ (u.ringPort d).steps = some m.stepsRemoved ∧
      u.ring.ptpPort = 1 + sideNo d := by
  refine ⟨_, exec_ptpMessageReceived hp hup t hlink m, ?_⟩
  rw [ptpReceive_announce (s := s.upTo t) hforeign hkind hruns hbest]
  have hport := congrArg RingPort.steps (updRing_port (s.upTo t) d fun x => { x with steps := some m.stepsRemoved, syncAt := (s.upTo t).tsc })
  have hpartner := congrArg RingPort.steps (updRing_other (s.upTo t) d fun x => { x with steps := some m.stepsRemoved, syncAt := (s.upTo t).tsc })
  have hkeeps := updRing_keeps_self (s.upTo t) d fun x => { x with steps := some m.stepsRemoved, syncAt := (s.upTo t).tsc }
  generalize ((s.upTo t).updRing d fun x => { x with steps := some m.stepsRemoved, syncAt := (s.upTo t).tsc }) = w at hport hpartner hkeeps
  have hchosen : Keeps [.ring] w w.choosePtp := State.choosePtp_keeps (.refl _ w) (by decide)
  have hposted := sendPtp_posted w.choosePtp (otherSide d) m
  refine ⟨.of_keeps ((hkeeps.trans hchosen).mono.trans hposted.keeps.mono) (by decide), ?_, ?_⟩
  · refine (congrArg RingPort.steps (ringPort_congr hposted.ring d)).trans ?_
    cases d <;> exact hport
  · exact (congrArg Ring.ptpPort hposted.ring).trans (choosePtp_only hport (hpartner.trans hother))

end Message

theorem ptpSyncTimeout_moves (hport : s.ring.ptpPort = 1 + sideNo d) (hlate : (s.ringPort d).syncAt + 3000000000 ≤ max s.tsc t) :
    ∃ u, exec (.ptpSyncTimeout t) s = .next u ∧ Did t [.ring] s u ∧ (u.ringPort d).steps = none ∧
      u.ring.ptpPort = (if (s.ringPort (otherSide d)).steps.isSome = true then 1 + sideNo (otherSide d) else 0) := by
  have hkeeps := updRing_keeps_self (s.upTo t) d fun x => { x with steps := none }
  have hself := congrArg RingPort.steps (updRing_port (s.upTo t) d fun x => { x with steps := none })
  have hpartner : ((s.upTo t).updRing d fun x => { x with steps := none }).ringPort (otherSide d) = s.ringPort (otherSide d) := updRing_other ..
  refine ⟨_, exec_ptpSyncTimeout hp hup t hport hlate,
    .of_keeps (hkeeps.trans (Keeps.record (.refl _ _) rfl rfl rfl rfl rfl rfl rfl rfl rfl rfl rfl rfl rfl rfl rfl rfl rfl rfl rfl)) (by decide), ?_, ?_⟩
  · cases d <;> exact hself
  · unfold State.syncLost
    rw [hpartner]
    rfl

theorem ptpInterval_sends (hon : s.val 0x1200 0x0F ≠ 0) :
    ∃ u, exec (.ptpMessageInterval t) s = .next u ∧ Did t [.out, .ring] s u ∧
      u.ring.ptpSequence = (s.ring.ptpSequence + 1) % 65536 ∧ (u.ringPort d).pdelayAt = max s.tsc t ∧
      ((s.ringPort d).link = .up → Out.ptp d (ptpOwn .pdelayReq (s.val 0x1200 0x0E) s.ring.ptpSequence (max s.tsc t) 0) ∈ u.out) := by
  have hexec := exec_ptpMessageInterval hp hup t
  rw [if_neg hon] at hexec
  obtain ⟨hkeeps, hshared, hports⟩ := ptpInterval_leaves (s.upTo t)
  exact ⟨_, hexec, .of_keeps hkeeps (by decide), (congrArg Ring.ptpSequence hshared :), (hports d).1, (hports d).2⟩

end Ptp

end RingTraffic

/-- Settles O50: what becomes of a frame by its tag, its length, its check and its place; then the frames sent, and the messages by their kind. -/
theorem ringTrafficCompletes : Obligations.RingTrafficCompletes := by
  unfold Obligations.RingTrafficCompletes
  intro s t d f hs hup
  obtain ⟨-, hp⟩ := hs
  refine ⟨fun hlink => ⟨fun htag => (ringFrame_untagged hp hup hlink htag).1, fun htag => (ringFrame_untagged hp hup hlink htag).2,
      fun n htag hlen => ringFrame_discarded hp hup hlink (ringReceive_long htag hlen),
      fun n htag hlen hcut habort hfcs => ringFrame_cut hp hup hlink htag hlen habort hfcs hcut,
      fun n htag hlen hcut => ⟨fun habort => ?_, fun habort hfcs => ?_, fun habort hfcs hown => ?_, fun habort hfcs hown hptp hdelay hdup => ?_,
        fun habort hfcs hown hptp hdelay hnew hda => ringFrame_mine hp hup hlink htag hlen habort hfcs hcut hown hptp hdelay hnew hda,
        fun habort hfcs hown hptp hdelay hnew hda hother hsend htransit hlocal =>
          ringFrame_stored hp hup hlink htag hlen habort hfcs hcut hown hptp hdelay hnew hda hother hsend htransit hlocal⟩⟩,
    fun hlink => ?_, hsrSupervision_due hp hup, fun hearly => ?_, ringTransmit_next hp hup, fun y hsend => ringTransmit_sending hp hup hsend,
    fun m hlink hown => ?_, fun m hlink hforeign => ⟨ptpMessage_other hp hup hlink hforeign, ptpMessage_pdelayResp hp hup hlink hforeign,
      fun n t2 t4 hkind hresponse hn => ptpMessage_pdelayRespFollowUp hp hup hlink hforeign hkind (hn ▸ hresponse),
      ptpMessage_pdelayReq hp hup hlink hforeign,
      fun n r hkind hresidence hn => ptpMessage_followUp hp hup hlink hforeign hkind (hn ▸ hresidence),
      ptpMessage_sync hp hup hlink hforeign, ptpMessage_announce hp hup hlink hforeign⟩,
    ptpSyncTimeout_moves hp hup, ptpInterval_sends hp hup, fun hoff => ?_⟩
  · exact ringFrame_discarded hp hup hlink ((ringReceive_bad (s := s.upTo t) htag hlen hcut).1 habort)
  · exact ringFrame_discarded hp hup hlink ((ringReceive_bad (s := s.upTo t) htag hlen hcut).2 habort hfcs)
  · have hexec := exec_ringFrameReceived hp hup t d f
    rw [if_pos hlink, ringReceive_own (s := s.upTo t) htag hlen hcut habort hfcs hown] at hexec
    exact Did.answer_upTo hexec
  · exact ringFrame_discarded hp hup hlink (ringReceive_duplicate (s := s.upTo t) htag hlen hcut habort hfcs hown hptp hdelay hdup)
  · have hexec := exec_ringFrameReceived hp hup t d f
    rw [if_neg hlink] at hexec
    exact Did.answer_upTo hexec
  · have hexec := exec_hsrSupervisionSend hp hup t
    rw [if_neg (Nat.not_le.mpr hearly)] at hexec
    exact Did.answer_upTo hexec
  · have hexec := exec_ptpMessageReceived hp hup t hlink m
    rw [ptpReceive_own hown] at hexec
    exact Did.answer_upTo hexec
  · have hexec := exec_ptpMessageInterval hp hup t
    rw [if_pos hoff] at hexec
    exact Did.answer_upTo hexec

end Sys2Proof.Machine
end

section
/-! The sensing front end: its state by part, and the publication of a result (R386-R398, R404). -/

set_option Elab.async false

namespace Sys2Proof.Machine

section SensingState

variable {s u v w : State} {t m n a x : Nat}

/-! ## Reads after writes -/

theorem gen_setGen_self (s : State) (x : Nat) (g : Generator) : (s.setGen x g).gen x = g := Table.get_put_self _ _ _

theorem gen_setGen_ne (s : State) (x : Nat) (g : Generator) {y : Nat} (h : y ≠ x) : (s.setGen x g).gen y = s.gen y := Table.get_put_ne _ _ h

theorem switch_setSwitch_self (s : State) (n : Nat) (x : Switch) : (s.setSwitch n x).switch n = x := Table.get_put_self _ _ _

theorem switch_setSwitch_ne (s : State) (n : Nat) (x : Switch) {k : Nat} (h : k ≠ n) : (s.setSwitch n x).switch k = s.switch k :=
  Table.get_put_ne _ _ h

theorem analog_setAnalog_self (s : State) (a : Nat) (x : AnalogOut) : (s.setAnalog a x).analog a = x := Table.get_put_self _ _ _

theorem analog_setAnalog_ne (s : State) (a : Nat) (x : AnalogOut) {k : Nat} (h : k ≠ a) : (s.setAnalog a x).analog k = s.analog k :=
  Table.get_put_ne _ _ h

theorem keyOf_sub_ne {i j k : Nat} (h : k ≠ j) : keyOf i k ≠ keyOf i j := by
  unfold keyOf
  omega

theorem State.val_setVal_sub_ne (s : State) (i n : Nat) {j k : Nat} (h : k ≠ j) : (s.setVal i j n).val i k = s.val i k :=
  congrArg ofBE (State.raw_setVal_ne _ n (keyOf_sub_ne h))

theorem State.val_bump_sub_ne (s : State) (i : Nat) {j k : Nat} (h : k ≠ j) : (s.bump i j).val i k = s.val i k :=
  congrArg ofBE (State.raw_bumpKey_ne _ 1 (keyOf_sub_ne h))

/-! ## The analogue outputs (R404, R405) -/

/-- Nothing but the analogue outputs has changed. -/
def OutputsOnly (s u : State) : Prop := ∃ l, u = { s with sensing := { s.sensing with outputs := l } }

theorem OutputsOnly.refl (s : State) : OutputsOnly s s := ⟨s.sensing.outputs, rfl⟩

theorem OutputsOnly.trans (h : OutputsOnly s u) (k : OutputsOnly u v) : OutputsOnly s v := by
  obtain ⟨l, rfl⟩ := h
  obtain ⟨l', rfl⟩ := k
  exact ⟨l', rfl⟩

theorem OutputsOnly.setAnalog (s : State) (a : Nat) (x : AnalogOut) : OutputsOnly s (s.setAnalog a x) := ⟨_, rfl⟩

theorem OutputsOnly.keeps (h : OutputsOnly s u) : Keeps [.sensing] s u := by
  obtain ⟨l, rfl⟩ := h
  exact Keeps.record (.refl _ _) rfl rfl rfl rfl rfl rfl rfl rfl rfl rfl rfl rfl rfl rfl rfl rfl rfl rfl rfl

theorem OutputsOnly.analogLive (h : OutputsOnly s u) (a : Nat) : u.analogLive a = s.analogLive a := by
  obtain ⟨l, rfl⟩ := h
  rfl

theorem OutputsOnly.raw (h : OutputsOnly s u) (k : Nat) : u.raw k = s.raw k := by
  obtain ⟨l, rfl⟩ := h
  rfl

/-- An operation on one output of a list acts on it alone. -/
theorem each_outputs {f : State → Nat → State} (hf : ∀ v a, ∃ x, f v a = v.setAnalog a x ∨ f v a = v) (s : State) (l : List Nat) :
    OutputsOnly s (s.each l f) ∧ ∀ a, a ∉ l → (s.each l f).analog a = s.analog a := by
  unfold State.each
  induction l generalizing s with
  | nil => exact ⟨.refl s, fun _ _ => rfl⟩
  | cons b l ih =>
    obtain ⟨honly, hrest⟩ := ih (f s b)
    rw [List.foldl_cons]
    obtain ⟨x, hx | hx⟩ := hf s b
    · rw [hx] at honly hrest ⊢
      exact ⟨(OutputsOnly.setAnalog s b x).trans honly, fun a ha =>
        (hrest a fun h => ha (List.mem_cons_of_mem _ h)).trans (analog_setAnalog_ne s b x fun h => ha (h ▸ List.mem_cons_self))⟩
    · rw [hx] at honly hrest ⊢
      exact ⟨honly, fun a ha => hrest a fun h => ha (List.mem_cons_of_mem _ h)⟩

/-- An output of a list without repeats is as the operation on it leaves it. -/
theorem each_outputs_self {f : State → Nat → State} (hf : ∀ v a, ∃ x, f v a = v.setAnalog a x ∨ f v a = v) {P : AnalogOut → Prop} (ha : a ∈ l)
    (hl : l.Nodup) (hP : ∀ v, OutputsOnly s v → v.analog a = s.analog a → P ((f v a).analog a)) : P ((s.each l f).analog a) := by
  obtain ⟨l₁, l₂, rfl⟩ := List.append_of_mem ha
  rw [List.nodup_append] at hl
  obtain ⟨-, hl₂, hdisjoint⟩ := hl
  obtain ⟨hbefore, hsame⟩ := each_outputs hf s l₁
  have hout₁ : a ∉ l₁ := fun h => hdisjoint a h a List.mem_cons_self rfl
  have heach : s.each (l₁ ++ a :: l₂) f = (f (s.each l₁ f) a).each l₂ f := List.foldl_append ..
  rw [heach, (each_outputs hf _ l₂).2 a (List.nodup_cons.mp hl₂).1]
  exact hP _ hbefore (hsame a hout₁)

theorem driveAnalog_eq (s : State) (a : Nat) (y : Frac) : ∃ x, s.driveAnalog a y = s.setAnalog a x := ⟨_, rfl⟩

theorem failAnalog_eq (s : State) (a : Nat) : ∃ x, s.failAnalog a = s.setAnalog a x := ⟨_, rfl⟩

theorem applyAnalog_eq (s : State) (a value status : Nat) : ∃ x, s.applyAnalog a value status = s.setAnalog a x ∨ s.applyAnalog a value status = s := by
  unfold State.applyAnalog
  split
  · exact ⟨_, .inl rfl⟩
  · split
    · exact ⟨{}, .inr rfl⟩
    · split
      · exact ⟨_, .inl rfl⟩
      · exact ⟨_, .inl rfl⟩

/-- A VALID value drives an output that is live while VREF_AO stands. -/
theorem applyAnalog_valid (hlive : s.analogLive a = true) (hvref : 2000 ≤ s.sensing.vref) (value : Nat) :
    s.applyAnalog a value 0 = s.driveAnalog a (f32ToFrac value) := by
  unfold State.applyAnalog
  rw [if_neg (by rw [hlive]; decide), if_neg (by decide), if_pos ⟨rfl, hvref⟩]

/-! ## The values of a result (R397) -/

theorem result_widths (v : Variant) : ∀ m < 8, (defaultOf v (keyOf (0x5100 + m) 0x10)).length = 4 ∧ (defaultOf v (keyOf (0x5100 + m) 0x11)).length = 1 ∧
    (defaultOf v (keyOf (0x5100 + m) 0x12)).length = 8 ∧ (defaultOf v (keyOf (0x5100 + m) 0x13)).length = 4 ∧
    (defaultOf v (keyOf (0x5100 + m) 0x14)).length = 4 ∧ (defaultOf v (keyOf (0x5100 + m) 0x15)).length = 4 := by
  cases v <;> decide +kernel

/-- A state in which the values of a result stand. -/
def State.resultSet (s : State) (m y st : Nat) (w : ChannelSample) : State :=
  ((((s.setVal (0x5100 + m) 0x10 y).setVal (0x5100 + m) 0x11 st).setVal (0x5100 + m) 0x12 s.tsc).setVal (0x5100 + m) 0x13 w.quadrature).setVal
    (0x5100 + m) 0x14 w.quantity

/-- A state in which a result is counted. -/
def State.resultCounted (s : State) (m st : Nat) : State :=
  if st = 2 then (s.bump (0x5100 + m) 0x15).bump (0x5100 + m) 0x17 else s.bump (0x5100 + m) 0x15

/-- A state in which a result is published, but for the outputs that it drives. -/
def State.resulted (s : State) (m y st : Nat) (w : ChannelSample) : State :=
  let u := (s.resultSet m y st w).resultCounted m st
  { u with sensing := { u.sensing with clampFlags := Nat.lor u.sensing.clampFlags (w.clampedPins % 2 ^ 32) } }

theorem resultSet_keeps (s : State) (m y st : Nat) (w : ChannelSample) : Keeps [.dict] s (s.resultSet m y st w) :=
  State.setVal_keeps (State.setVal_keeps (State.setVal_keeps (State.setVal_keeps (State.setVal_keeps (.refl _ s) _ _ _ (by decide)) _ _ _ (by decide))
    _ _ _ (by decide)) _ _ _ (by decide)) _ _ _ (by decide)

theorem resultCounted_keeps (s : State) (m st : Nat) : Keeps [.dict] s (s.resultCounted m st) := by
  unfold State.resultCounted
  split
  · exact State.bump_keeps (State.bump_keeps (.refl _ s) _ _ (by decide)) _ _ (by decide)
  · exact State.bump_keeps (.refl _ s) _ _ (by decide)

theorem resultSet_raw (s : State) (m y st : Nat) (w : ChannelSample) {k : Nat} (h : idxOf k ≠ 0x5100 + m) : (s.resultSet m y st w).raw k = s.raw k := by
  have hne : ∀ j < 256, k ≠ keyOf (0x5100 + m) j := fun j hj hk => h (by rw [hk, idxOf_keyOf hj])
  unfold State.resultSet
  rw [State.raw_setVal_ne _ _ (hne _ (by decide)), State.raw_setVal_ne _ _ (hne _ (by decide)), State.raw_setVal_ne _ _ (hne _ (by decide)),
    State.raw_setVal_ne _ _ (hne _ (by decide)), State.raw_setVal_ne _ _ (hne _ (by decide))]

theorem resultCounted_raw (s : State) (m st : Nat) {k : Nat} (h15 : k ≠ keyOf (0x5100 + m) 0x15) (h17 : k ≠ keyOf (0x5100 + m) 0x17) :
    (s.resultCounted m st).raw k = s.raw k := by
  unfold State.resultCounted
  split
  · exact (State.raw_bumpKey_ne _ 1 h17).trans (State.raw_bumpKey_ne _ 1 h15)
  · exact State.raw_bumpKey_ne _ 1 h15

theorem resultCounted_count (hm : m < 8) (s : State) (st : Nat) :
    (s.resultCounted m st).val (0x5100 + m) 0x15 = min (2 ^ 32 - 1) (s.val (0x5100 + m) 0x15 + 1) := by
  have hbump := State.val_bump_wide s (result_widths s.variant m hm).2.2.2.2.2
  unfold State.resultCounted
  split
  · rw [State.val_bump_sub_ne _ _ (by decide)]
    exact hbump
  · exact hbump

theorem resultSet_values (hm : m < 8) (s : State) (y st : Nat) (w : ChannelSample) (hst : st < 256) :
    (s.resultSet m y st w).val (0x5100 + m) 0x10 = y % 2 ^ 32 ∧ (s.resultSet m y st w).val (0x5100 + m) 0x11 = st ∧
    (s.resultSet m y st w).val (0x5100 + m) 0x12 = s.tsc % 2 ^ 64 ∧ (s.resultSet m y st w).val (0x5100 + m) 0x13 = w.quadrature % 2 ^ 32 ∧
    (s.resultSet m y st w).val (0x5100 + m) 0x14 = w.quantity % 2 ^ 32 ∧ (s.resultSet m y st w).val (0x5100 + m) 0x15 = s.val (0x5100 + m) 0x15 := by
  obtain ⟨h10, h11, h12, h13, h14, -⟩ := result_widths s.variant m hm
  unfold State.resultSet
  simp (disch := decide) only [State.val_setVal_sub_ne, State.val_setVal_self, State.setVal_variant, h10, h11, h12, h13, h14]
  exact ⟨rfl, Nat.mod_eq_of_lt hst, rfl, rfl, rfl, trivial⟩

end SensingState

end Sys2Proof.Machine
end

section
/-! Results, lead breaks, and the reference of the analogue outputs by command (R386-R399, R404, R405). -/

set_option Elab.async false

namespace Sys2Proof.Machine

section SensingResults

variable {s u v : State} {t m n a : Nat} {pairs : List (Nat × Nat × Nat)}

/-! ## A result is published -/

theorem curve_state (s : State) (n : Nat) (x : ChannelSample) : (s.curve n x).2.2 = s ∨ (s.curve n x).2.2 = { s with free := s.free + 1 } := by
  unfold State.curve
  dsimp only
  split
  · exact .inl rfl
  · split
    · exact .inl rfl
    · split
      · exact .inl rfl
      · split
        · exact .inl rfl
        · split
          · exact .inl rfl
          · exact .inr rfl

theorem chanStatus_le (s : State) (m : Nat) : s.chanStatus m ≤ 7 := by
  unfold State.chanStatus
  split
  · exact le_refl 7
  · split
    · decide
    · split <;> decide

theorem statusOf_lt (s : State) (m : Nat) (w : ChannelSample) (past : Bool) : s.statusOf m w past < 256 := by
  have hle := chanStatus_le s m
  unfold State.statusOf
  dsimp only
  split
  · omega
  · split
    · decide
    · split
      · decide
      · split
        · decide
        · split <;> decide

/-- The value of a result, from its curve's output. -/
def State.scaled (s : State) (m : Nat) (y : Frac) : Nat := fracToF32 ((y.mul (f32ToFrac (s.chan m 9))).add (f32ToFrac (s.chan m 0x0A)))

/-- A state in which a result stands and has driven its outputs. -/
def State.publishes (s : State) (m y st : Nat) (w : ChannelSample) : State :=
  (s.resulted m y st w).each ((List.range 4).filter fun a => (s.resulted m y st w).aov a 2 == m) fun v a => v.applyAnalog a y st

theorem exec_resultPublish (hp : s.rst.powered = true) (hm : m < 8) (hon : s.chanOn m = true) (hends : (s.upTo t).periodEnds m = true)
    {x w : ChannelSample} {y : Frac} {past : Bool} (hw : w = (s.upTo t).windowSample m x) (hcurve : (s.upTo t).curve (s.chan m 6) w = (y, past, v)) :
    exec (.resultPublish t m x) s = .next (v.publishes m (v.scaled m y) (v.statusOf m w past) w) := by
  have hcurve' : (s.upTo t).curve ((s.upTo t).chan m 6) w = (y, past, v) := hcurve
  show execResultPublish t m x s = _
  unfold execResultPublish
  rw [State.run_powered hp]
  refine congrArg Host.Outcome.next ((if_pos ⟨hm, hon, hends⟩).trans ?_)
  dsimp only
  rw [← hw, hcurve']
  dsimp only
  unfold State.publishes State.resulted State.resultCounted
  dsimp only
  rfl

theorem exec_resultPublish_early (hp : s.rst.powered = true) (hends : (s.upTo t).periodEnds m = false) (x : ChannelSample) :
    exec (.resultPublish t m x) s = .next (s.upTo t) := by
  show execResultPublish t m x s = _
  unfold execResultPublish
  rw [State.run_powered hp]
  exact congrArg Host.Outcome.next (if_neg fun hc => Bool.noConfusion (hends.symm.trans hc.2.2))

/-- The entries of other channels and of the outputs stand while a result is published. -/
theorem resulted_raw (s : State) (m y st : Nat) (w : ChannelSample) {k : Nat} (h : idxOf k ≠ 0x5100 + m) : (s.resulted m y st w).raw k = s.raw k := by
  have hne : ∀ j < 256, k ≠ keyOf (0x5100 + m) j := fun j hj hk => h (by rw [hk, idxOf_keyOf hj])
  exact (resultCounted_raw _ m st (hne _ (by decide)) (hne _ (by decide))).trans (resultSet_raw s m y st w h)

theorem resulted_aov (hm : m < 8) (s : State) (y st : Nat) (w : ChannelSample) (a : Nat) {j : Nat} (hj : j < 256) :
    (s.resulted m y st w).aov a j = s.aov a j :=
  congrArg ofBE (resulted_raw s m y st w (by rw [idxOf_keyOf hj]; omega))

theorem resulted_keeps (s : State) (m y st : Nat) (w : ChannelSample) : Keeps [.dict, .sensing] s (s.resulted m y st w) :=
  ((resultSet_keeps s m y st w).trans (resultCounted_keeps _ m st)).mono.trans
    (Keeps.record (.refl _ _) rfl rfl rfl rfl rfl rfl rfl rfl rfl rfl rfl rfl rfl rfl rfl rfl rfl rfl rfl)

theorem resulted_sensing (s : State) (m y st : Nat) (w : ChannelSample) :
    (s.resulted m y st w).sensing = { s.sensing with clampFlags := Nat.lor s.sensing.clampFlags (w.clampedPins % 2 ^ 32) } := by
  have h : ((s.resultSet m y st w).resultCounted m st).sensing = s.sensing :=
    ((resultSet_keeps s m y st w).trans (resultCounted_keeps _ m st)).frame .sensing (by decide)
  unfold State.resulted
  dsimp only
  rw [h]

theorem resulted_values (hm : m < 8) (s : State) (y st : Nat) (w : ChannelSample) (hst : st < 256) :
    (s.resulted m y st w).val (0x5100 + m) 0x10 = y % 2 ^ 32 ∧ (s.resulted m y st w).val (0x5100 + m) 0x11 = st ∧
    (s.resulted m y st w).val (0x5100 + m) 0x12 = s.tsc % 2 ^ 64 ∧ (s.resulted m y st w).val (0x5100 + m) 0x13 = w.quadrature % 2 ^ 32 ∧
    (s.resulted m y st w).val (0x5100 + m) 0x14 = w.quantity % 2 ^ 32 ∧
    (s.resulted m y st w).val (0x5100 + m) 0x15 = min (2 ^ 32 - 1) (s.val (0x5100 + m) 0x15 + 1) := by
  obtain ⟨h10, h11, h12, h13, h14, h15⟩ := resultSet_values hm s y st w hst
  have hraw : ∀ j, j ≠ 0x15 → j ≠ 0x17 → (s.resulted m y st w).val (0x5100 + m) j = (s.resultSet m y st w).val (0x5100 + m) j := fun j h h' =>
    congrArg ofBE (resultCounted_raw (s.resultSet m y st w) m st (keyOf_sub_ne h) (keyOf_sub_ne h'))
  refine ⟨(hraw _ (by decide) (by decide)).trans h10, (hraw _ (by decide) (by decide)).trans h11, (hraw _ (by decide) (by decide)).trans h12,
    (hraw _ (by decide) (by decide)).trans h13, (hraw _ (by decide) (by decide)).trans h14, ?_⟩
  rw [← h15]
  exact resultCounted_count hm (s.resultSet m y st w) st

theorem resulted_live (hm : m < 8) (s : State) (y st : Nat) (w : ChannelSample) (a : Nat) : (s.resulted m y st w).analogLive a = s.analogLive a := by
  have hkeeps := resulted_keeps s m y st w
  have haov := resulted_aov hm s y st w a (j := 1) (by decide)
  have hhier : (s.resulted m y st w).hier = s.hier := hkeeps.frame .hier (by decide)
  have hrst : (s.resulted m y st w).rst = s.rst := hkeeps.frame .rst (by decide)
  unfold State.analogLive State.sensingUp State.outputsSafe State.block
  rw [haov, hhier, hrst]

/-- What a published result leaves: its values, its count, the clamped pins, and the outputs that it drives. -/
theorem publishes_leaves (hm : m < 8) (s : State) (y st : Nat) (w : ChannelSample) :
    OutputsOnly (s.resulted m y st w) (s.publishes m y st w) ∧
    (∀ a < 4, s.aov a 2 ≠ m → (s.publishes m y st w).analog a = s.analog a) ∧
    (∀ a < 4, s.aov a 2 = m → s.analogLive a = true → st = 0 → 2000 ≤ s.sensing.vref →
      ((s.publishes m y st w).analog a).connected = true ∧ ((s.publishes m y st w).analog a).failing = false ∧
      ((s.publishes m y st w).analog a).fraction = fracToF32 (limitFraction
        (((f32ToFrac y).sub (f32ToFrac (s.aov a 3))).div ((f32ToFrac (s.aov a 4)).sub (f32ToFrac (s.aov a 3))))).1) := by
  have hmem : ∀ a, a ∈ ((List.range 4).filter fun a => (s.resulted m y st w).aov a 2 == m) ↔ a < 4 ∧ s.aov a 2 = m := fun a => by
    rw [List.mem_filter, List.mem_range, beq_iff_eq, resulted_aov hm s y st w a (by decide)]
  obtain ⟨honly, hrest⟩ := each_outputs (fun v a => applyAnalog_eq v a y st) (s.resulted m y st w)
    ((List.range 4).filter fun a => (s.resulted m y st w).aov a 2 == m)
  have hsame : ∀ a, (s.resulted m y st w).analog a = s.analog a := fun a => by
    unfold State.analog
    rw [resulted_sensing]
  refine ⟨honly, fun a ha hne => (hrest a fun h => hne ((hmem a).mp h).2).trans (hsame a), fun a ha heq hlive hst hvref => ?_⟩
  refine each_outputs_self (fun v a => applyAnalog_eq v a y st) (P := fun o => o.connected = true ∧ o.failing = false ∧ o.fraction = fracToF32 (limitFraction
    (((f32ToFrac y).sub (f32ToFrac (s.aov a 3))).div ((f32ToFrac (s.aov a 4)).sub (f32ToFrac (s.aov a 3))))).1) ((hmem a).mpr ⟨ha, heq⟩)
    (List.Nodup.filter _ List.nodup_range) fun v hv hva => ?_
  have hvlive : v.analogLive a = true := (hv.analogLive a).trans ((resulted_live hm s y st w a).trans hlive)
  have hvvref : 2000 ≤ v.sensing.vref := by
    obtain ⟨l, rfl⟩ := hv
    rw [resulted_sensing]
    exact hvref
  have haov : ∀ j < 256, v.aov a j = s.aov a j := fun j hj => (congrArg ofBE (hv.raw _)).trans (resulted_aov hm s y st w a hj)
  rw [hst, applyAnalog_valid hvlive hvvref]
  unfold State.driveAnalog
  dsimp only
  rw [analog_setAnalog_self, haov 3 (by decide), haov 4 (by decide)]
  exact ⟨rfl, rfl, rfl⟩

end SensingResults

section SensingLeads

variable {s u v : State} {t m n a : Nat} {pairs : List (Nat × Nat × Nat)}

/-! ## Switches that take a status (R401) -/

/-- Nothing but threshold switches and their counters has changed. -/
structure Switched (s u : State) : Prop where
  keeps : Keeps [.dict, .sensing] s u
  sensing : ∃ l, u.sensing = { s.sensing with switches := l }
  raw : ∀ k, idxOf k < 0x5300 → u.raw k = s.raw k

theorem Switched.refl (s : State) : Switched s s := ⟨.refl _ s, ⟨s.sensing.switches, rfl⟩, fun _ _ => rfl⟩

theorem Switched.trans (h : Switched s u) (k : Switched u v) : Switched s v := by
  obtain ⟨l, hl⟩ := h.sensing
  obtain ⟨l', hl'⟩ := k.sensing
  exact ⟨h.keeps.trans k.keeps, ⟨l', by rw [hl', hl]⟩, fun j hj => (k.raw j hj).trans (h.raw j hj)⟩

theorem Switched.setSwitch (s : State) (n : Nat) (x : Switch) : Switched s (s.setSwitch n x) :=
  ⟨State.setSwitch_keeps (.refl _ s) n x (by decide), ⟨_, rfl⟩, fun _ _ => rfl⟩

theorem Switched.bump (s : State) (n : Nat) {j : Nat} (hj : j < 256) : Switched s (s.bump (0x5300 + n) j) :=
  ⟨State.bump_keeps (.refl _ s) _ _ (by decide), ⟨s.sensing.switches, rfl⟩,
    fun _ hk => State.raw_bumpKey_ne _ 1 fun h => by rw [h, idxOf_keyOf hj] at hk; omega⟩

theorem Switched.each {α : Type} {f : State → α → State} (hf : ∀ v x, Switched v (f v x)) (s : State) (l : List α) : Switched s (s.each l f) :=
  State.each_of_step (P := Switched s) (fun v x hv => hv.trans (hf v x)) (.refl s) l

theorem Switched.channels (h : Switched s u) : u.sensing.channels = s.sensing.channels := by
  obtain ⟨l, hl⟩ := h.sensing
  rw [hl]

theorem Switched.generators (h : Switched s u) : u.sensing.generators = s.sensing.generators := by
  obtain ⟨l, hl⟩ := h.sensing
  rw [hl]

theorem turnSwitch_switched (s : State) (n : Nat) (x : Switch) : Switched s (s.turnSwitch n x) := by
  unfold State.turnSwitch
  dsimp only
  split
  · exact (Switched.setSwitch s n x).trans (Switched.bump _ n (by decide))
  · exact Switched.setSwitch s n x

theorem applySwitch_switched (s : State) (n value status : Nat) : Switched s (s.applySwitch n value status) := by
  unfold State.applySwitch
  dsimp only
  split
  · exact .refl s
  · split
    · exact turnSwitch_switched s n _
    · split
      · exact .refl s
      · exact (turnSwitch_switched s n _).trans (Switched.bump _ n (by decide))

theorem failSwitches_switched (s : State) (m status : Nat) : Switched s (s.failSwitches m status) :=
  Switched.each (fun v n => applySwitch_switched v n 0 status) s _

/-! ## Decisions on a channel's leads (R399) -/

/-- Pairs whose resistance is above the limit. -/
def State.badPairs (s : State) (pairs : List (Nat × Nat × Nat)) : List (Nat × Nat × Nat) := pairs.filter fun p => decide (s.val 0x5001 5 < p.2.2)

/-- The pins of pairs, as a bitmap. -/
def pairPins (l : List (Nat × Nat × Nat)) : Nat := l.foldl (fun a p => Nat.lor a (Nat.lor (2 ^ (p.1 % 32)) (2 ^ (p.2.1 % 32)))) 0

theorem badPairs_ne (h : ∃ q ∈ pairs, s.val 0x5001 5 < q.2.2) : s.badPairs pairs ≠ [] := by
  obtain ⟨q, hq, hlt⟩ := h
  exact List.ne_nil_of_mem (List.mem_filter.mpr ⟨hq, decide_eq_true hlt⟩)

theorem badPairs_nil (h : ∀ q ∈ pairs, q.2.2 ≤ s.val 0x5001 5) : s.badPairs pairs = [] :=
  List.filter_eq_nil_iff.mpr fun q hq hlt => absurd (of_decide_eq_true hlt) (Nat.not_lt.mpr (h q hq))

theorem testBit_pairPins_fold {i : Nat} : ∀ (l : List (Nat × Nat × Nat)) (b : Nat),
    (b.testBit i = true ∨ ∃ q ∈ l, q.1 % 32 = i ∨ q.2.1 % 32 = i) →
    (l.foldl (fun a p => Nat.lor a (Nat.lor (2 ^ (p.1 % 32)) (2 ^ (p.2.1 % 32)))) b).testBit i = true
  | [], _, h => h.elim id fun ⟨_, hq, _⟩ => absurd hq List.not_mem_nil
  | p :: l, b, h => by
    refine testBit_pairPins_fold l _ ?_
    have hor : (Nat.lor b (Nat.lor (2 ^ (p.1 % 32)) (2 ^ (p.2.1 % 32)))).testBit i =
        (b.testBit i || ((2 ^ (p.1 % 32)).testBit i || (2 ^ (p.2.1 % 32)).testBit i)) := by
      rw [show Nat.lor b (Nat.lor (2 ^ (p.1 % 32)) (2 ^ (p.2.1 % 32))) = b ||| (2 ^ (p.1 % 32) ||| 2 ^ (p.2.1 % 32)) from rfl, Nat.testBit_or, Nat.testBit_or]
    rw [hor, Nat.testBit_two_pow, Nat.testBit_two_pow]
    rcases h with h | ⟨q, hq, hi⟩
    · exact .inl (by rw [h]; rfl)
    · rcases List.mem_cons.mp hq with rfl | hq
      · refine .inl ?_
        rcases hi with hi | hi
        · simp [hi]
        · simp [hi]
      · exact .inr ⟨q, hq, hi⟩

theorem bit_pairPins {l : List (Nat × Nat × Nat)} {q : Nat × Nat × Nat} (hq : q ∈ l) :
    bit (pairPins l) (q.1 % 32) = true ∧ bit (pairPins l) (q.2.1 % 32) = true :=
  ⟨testBit_pairPins_fold l 0 (.inr ⟨q, hq, .inl rfl⟩), testBit_pairPins_fold l 0 (.inr ⟨q, hq, .inr rfl⟩)⟩

/-- What a decision that finds a bad lead does. -/
def State.leadBad (s : State) (m pins : Nat) : State :=
  let c := s.channel m
  if c.broken then s.setChannel m { c with good := 0, pins := Nat.lor c.pins pins }
  else if c.bad + 1 < 2 then s.setChannel m { c with bad := c.bad + 1, good := 0 }
  else
    let u := ((s.setChannel m { c with broken := true, bad := 0, good := 0, pins := pins }).bump (0x5100 + m) 0x16).event (srcChannel m)
      0x0701 sevAlarm (toBE 1 m ++ toBE 4 pins)
    (u.each u.brokenChannels fun v k => v.failSwitches k 6).settleCommand

/-- What a decision that finds every lead good does. -/
def State.leadGood (s : State) (m : Nat) : State :=
  let c := s.channel m
  if c.broken then
    if c.good + 1 < 8 then s.setChannel m { c with good := c.good + 1 }
    else
      let u := s.setChannel m { c with broken := false, bad := 0, good := 0, pins := 0 }
      u.each (s.brokenChannels.filter fun k => !u.chanBroken k && u.chanOn k) fun v k => v.restartChannel k false
  else s.setChannel m { c with bad := 0 }

theorem exec_leadMonitorDecision (hp : s.rst.powered = true) (hm : m < 8) (hon : s.chanOn m = true) (hmode : s.chan m 0x0B = 1) (t : Nat)
    (pairs : List (Nat × Nat × Nat)) :
    exec (.leadMonitorDecision t m pairs) s = .next
      (if s.badPairs pairs ≠ [] then (s.upTo t).leadBad m (pairPins (s.badPairs pairs)) else (s.upTo t).leadGood m) := by
  show execLeadMonitorDecision t m pairs s = _
  unfold execLeadMonitorDecision
  rw [State.run_powered hp]
  exact congrArg Host.Outcome.next (if_pos ⟨hm, hon, hmode⟩)

theorem channel_of_sensing (h : u.sensing.channels = s.sensing.channels) (k : Nat) : u.channel k = s.channel k := by
  unfold State.channel
  rw [h]

/-- A state in which a break is declared, before the switches take it. -/
def State.breakLogged (s : State) (m pins : Nat) : State :=
  ((s.setChannel m { s.channel m with broken := true, bad := 0, good := 0, pins := pins }).bump (0x5100 + m) 0x16).event (srcChannel m)
    0x0701 sevAlarm (toBE 1 m ++ toBE 4 pins)

theorem breakLogged_leaves (s : State) (m pins : Nat) :
    Keeps [.dict, .log, .sensing] s (s.breakLogged m pins) ∧ s.log.detected.length < (s.breakLogged m pins).log.detected.length ∧
    ((s.breakLogged m pins).channel m) = { s.channel m with broken := true, bad := 0, good := 0, pins := pins } ∧
    ∀ k, k ≠ m → (s.breakLogged m pins).channel k = s.channel k :=
  ⟨State.event_keeps (State.bump_keeps (State.setChannel_keeps (.refl _ s) m _ (by decide)) _ _ (by decide)) _ _ _ _ (by decide),
    event_heard _ _ _ _ _, State.channel_setChannel_self .., fun _ h => State.channel_setChannel_ne s _ _ h⟩

theorem leadBad_declares (hbroken : (s.channel m).broken = false) (hbad : 1 ≤ (s.channel m).bad) (pins : Nat) :
    Keeps [.out, .dict, .log, .routes, .cells, .trip, .sensing] s (s.leadBad m pins) ∧
    s.log.detected.length < (s.leadBad m pins).log.detected.length ∧ ((s.leadBad m pins).channel m).broken = true ∧
    ((s.leadBad m pins).channel m).pins = pins ∧ ∀ k, k ≠ m → (s.leadBad m pins).channel k = s.channel k := by
  obtain ⟨hkeeps, hheard, hself, hother⟩ := breakLogged_leaves s m pins
  have hbreak : s.leadBad m pins =
      ((s.breakLogged m pins).each (s.breakLogged m pins).brokenChannels fun v k => v.failSwitches k 6).settleCommand := by
    unfold State.leadBad
    dsimp only
    rw [if_neg (by rw [hbroken]; decide), if_neg (by omega)]
    rfl
  have hswitched := Switched.each (fun v k => failSwitches_switched v k 6) (s.breakLogged m pins) (s.breakLogged m pins).brokenChannels
  rw [hbreak]
  generalize s.breakLogged m pins = w at hkeeps hheard hself hother hswitched
  generalize w.each w.brokenChannels (fun v k => v.failSwitches k 6) = x at hswitched
  have hsettle := settleCommand_keeps_self x
  have hchannel : ∀ k, x.settleCommand.channel k = w.channel k := fun k =>
    (channel_of_sensing (congrArg Sensing.channels (hsettle.frame .sensing (by decide))) k).trans (channel_of_sensing hswitched.channels k)
  refine ⟨hkeeps.mono.trans (hswitched.keeps.mono.trans hsettle.mono), lt_of_lt_of_le hheard ?_, ?_, ?_, fun k hk => (hchannel k).trans (hother k hk)⟩
  · have hlog : x.log = w.log := hswitched.keeps.frame .log (by decide)
    rw [← hlog]
    exact settleCommand_heard x
  · rw [hchannel, hself]
  · rw [hchannel, hself]

theorem restartChannel_self (s : State) (k : Nat) (excitation : Bool) : (s.restartChannel k excitation).channel k =
    { s.channel k with restartAt := s.tsc, settle := (if excitation then s.genSettle (s.chan k 5) else 0) + s.chan k 0x0D * 1000000, enabled := true } :=
  State.channel_setChannel_self ..

theorem restartChannel_ne (s : State) (k : Nat) (excitation : Bool) {q : Nat} (h : q ≠ k) : (s.restartChannel k excitation).channel q = s.channel q :=
  State.channel_setChannel_ne s _ _ h

theorem leadGood_clears (hbroken : (s.channel m).broken = true) (hgood : 7 ≤ (s.channel m).good) :
    Keeps [.dict, .sensing] s (s.leadGood m) ∧ ((s.leadGood m).channel m).broken = false ∧ ((s.leadGood m).channel m).pins = 0 := by
  unfold State.leadGood
  dsimp only
  rw [if_pos hbroken, if_neg (by omega)]
  refine ⟨Keeps.each (State.setChannel_keeps (.refl _ s) m _ (by decide)) fun w k => State.restartChannel_keeps (.refl _ w) k false (by decide) (by decide), ?_⟩
  refine State.each_of_step (P := fun v => (v.channel m).broken = false ∧ (v.channel m).pins = 0) (fun v k hv => ?_) ?_ _
  · by_cases hk : m = k
    · subst hk
      rw [restartChannel_self]
      exact hv
    · rw [restartChannel_ne v k false hk]
      exact hv
  · rw [State.channel_setChannel_self]
    exact ⟨rfl, rfl⟩

/-! ## VREF_AO (R405) -/

theorem exec_vrefAoChange (hp : s.rst.powered = true) (t mv : Nat) :
    exec (.vrefAoChange t mv) s = .next
      (if mv < 2000 then ({ s.upTo t with sensing := { s.sensing with vref := mv } } : State).each
          ((List.range 4).filter ({ s.upTo t with sensing := { s.sensing with vref := mv } } : State).analogLive) State.failAnalog
        else { s.upTo t with sensing := { s.sensing with vref := mv } }) := by
  show execVrefAoChange t mv s = _
  unfold execVrefAoChange
  exact State.run_powered hp t _

theorem failAnalog_analog (s : State) (a : Nat) :
    ((s.failAnalog a).analog a).failing = true ∧ (s.aov a 5 = 0 → ((s.failAnalog a).analog a).connected = false) ∧
    (s.aov a 5 = 1 → (s.failAnalog a).analog a = { s.analog a with failing := true }) ∧
    (s.aov a 5 = 2 → ((s.failAnalog a).analog a).connected = true ∧ ((s.failAnalog a).analog a).fraction = 0) ∧
    (s.aov a 5 = 3 → ((s.failAnalog a).analog a).connected = true ∧ ((s.failAnalog a).analog a).fraction = 0x3F800000) := by
  unfold State.failAnalog
  dsimp only
  rw [analog_setAnalog_self]
  refine ⟨?_, fun h => ?_, fun h => ?_, fun h => ?_, fun h => ?_⟩
  · split
    · rfl
    · split <;> rfl
  · rw [if_pos h]
  · rw [if_neg (by omega), if_pos h]
  · rw [if_neg (by omega), if_neg (by omega), if_pos h]
    exact ⟨rfl, rfl⟩
  · rw [if_neg (by omega), if_neg (by omega), if_neg (by omega)]
    exact ⟨rfl, rfl⟩

end SensingLeads

end Sys2Proof.Machine
end

section
/-! The obligation on the results of the sensing front end. -/

set_option Elab.async false

namespace Sys2Proof.Machine

theorem sensingResults_publish {s v : State} {t m : Nat} (hp : s.rst.powered = true) (hm : m < 8) (hon : s.chanOn m = true) {x w : ChannelSample} {y : Frac}
    {past : Bool} (hw : w = (s.upTo t).windowSample m x) (hends : (s.upTo t).periodEnds m = true) (hcurve : (s.upTo t).curve (s.chan m 6) w = (y, past, v)) :
    ∃ u, exec (.resultPublish t m x) s = .next u ∧ Did t [.free, .dict, .sensing] s u ∧
      u.val (0x5100 + m) 0x10 = fracToF32 ((y.mul (f32ToFrac (s.chan m 9))).add (f32ToFrac (s.chan m 0x0A))) % 2 ^ 32 ∧
      u.val (0x5100 + m) 0x11 = (s.upTo t).statusOf m w past ∧ u.val (0x5100 + m) 0x12 = max s.tsc t % 2 ^ 64 ∧
      u.val (0x5100 + m) 0x13 = w.quadrature % 2 ^ 32 ∧ u.val (0x5100 + m) 0x14 = w.quantity % 2 ^ 32 ∧
      u.val (0x5100 + m) 0x15 = min (2 ^ 32 - 1) (s.val (0x5100 + m) 0x15 + 1) ∧
      (∀ k, idxOf k ≠ 0x5100 + m → u.raw k = s.raw k) ∧ u.sensing.clampFlags = Nat.lor s.sensing.clampFlags (w.clampedPins % 2 ^ 32) ∧
      u.sensing.channels = s.sensing.channels ∧ u.sensing.generators = s.sensing.generators ∧
      u.sensing.switches = s.sensing.switches ∧ (∀ a < 4, s.aov a 2 ≠ m → u.analog a = s.analog a) ∧
      (∀ a < 4, s.aov a 2 = m → s.analogLive a = true → (s.upTo t).statusOf m w past = 0 → 2000 ≤ s.sensing.vref →
        (u.analog a).connected = true ∧ (u.analog a).failing = false ∧ (u.analog a).fraction = fracToF32 (limitFraction
          (((f32ToFrac (fracToF32 ((y.mul (f32ToFrac (s.chan m 9))).add (f32ToFrac (s.chan m 0x0A))))).sub (f32ToFrac (s.aov a 3))).div
            ((f32ToFrac (s.aov a 4)).sub (f32ToFrac (s.aov a 3))))).1) := by
  have hexec := exec_resultPublish hp hm hon hends hw hcurve
  have hstate : v = s.upTo t ∨ v = { s.upTo t with free := s.free + 1 } := by
    have h := curve_state (s.upTo t) (s.chan m 6) w
    rw [hcurve] at h
    exact h
  have hkeeps : Keeps [.free] (s.upTo t) v := by
    rcases hstate with rfl | rfl
    · exact .refl _ _
    · exact Keeps.record (.refl _ _) rfl rfl rfl rfl rfl rfl rfl rfl rfl rfl rfl rfl rfl rfl rfl rfl rfl rfl rfl
  have hstatus : v.statusOf m w past = (s.upTo t).statusOf m w past := by
    rcases hstate with rfl | rfl <;> rfl
  have hraw : ∀ k, v.raw k = s.raw k := fun k => hkeeps.raw k (by decide)
  have hscaled : v.scaled m y = fracToF32 ((y.mul (f32ToFrac (s.chan m 9))).add (f32ToFrac (s.chan m 0x0A))) := by
    rcases hstate with rfl | rfl <;> rfl
  have hlive : ∀ a, v.analogLive a = s.analogLive a := fun a => by
    rcases hstate with rfl | rfl <;> rfl
  have hsensing : v.sensing = s.sensing := hkeeps.frame .sensing (by decide)
  have htsc : v.tsc = max s.tsc t := hkeeps.frame .tsc (by decide)
  have haov : ∀ a j, v.aov a j = s.aov a j := fun a j => congrArg ofBE (hraw _)
  have hcount : v.val (0x5100 + m) 0x15 = s.val (0x5100 + m) 0x15 := congrArg ofBE (hraw _)
  have hanalog : ∀ a, v.analog a = s.analog a := fun a => by
    unfold State.analog
    rw [hsensing]
  have hlt := statusOf_lt (s.upTo t) m w past
  rw [hstatus] at hexec
  rw [← hscaled]
  obtain ⟨h10, h11, h12, h13, h14, h15⟩ := resulted_values hm v (v.scaled m y) ((s.upTo t).statusOf m w past) w hlt
  have hresulted := resulted_keeps v m (v.scaled m y) ((s.upTo t).statusOf m w past) w
  have hfront := resulted_sensing v m (v.scaled m y) ((s.upTo t).statusOf m w past) w
  have hentries : ∀ k, idxOf k ≠ 0x5100 + m → _ := fun k => resulted_raw v m (v.scaled m y) ((s.upTo t).statusOf m w past) w (k := k)
  obtain ⟨honly, hother, hdriven⟩ := publishes_leaves hm v (v.scaled m y) ((s.upTo t).statusOf m w past) w
  generalize v.resulted m (v.scaled m y) ((s.upTo t).statusOf m w past) w = r at *
  have hval : ∀ j, (v.publishes m (v.scaled m y) ((s.upTo t).statusOf m w past) w).val (0x5100 + m) j = r.val (0x5100 + m) j :=
    fun j => congrArg ofBE (honly.raw _)
  have hparts : (v.publishes m (v.scaled m y) ((s.upTo t).statusOf m w past) w).sensing.clampFlags = r.sensing.clampFlags ∧
      (v.publishes m (v.scaled m y) ((s.upTo t).statusOf m w past) w).sensing.channels = r.sensing.channels ∧
      (v.publishes m (v.scaled m y) ((s.upTo t).statusOf m w past) w).sensing.generators = r.sensing.generators ∧
      (v.publishes m (v.scaled m y) ((s.upTo t).statusOf m w past) w).sensing.switches = r.sensing.switches := by
    obtain ⟨l, hl⟩ := honly
    rw [hl]
    exact ⟨rfl, rfl, rfl, rfl⟩
  rw [hfront, hsensing] at hparts
  refine ⟨_, hexec, .of_keeps (hkeeps.mono.trans (hresulted.mono.trans honly.keeps.mono)) (by decide), (hval _).trans h10, (hval _).trans h11,
    (hval _).trans (h12.trans (by rw [htsc])), (hval _).trans h13, (hval _).trans h14, (hval _).trans (h15.trans (by rw [hcount])),
    fun k hk => (honly.raw k).trans ((hentries k hk).trans (hraw k)), hparts.1, hparts.2.1, hparts.2.2.1, hparts.2.2.2,
    fun a ha hne => (hother a ha (by rw [haov]; exact hne)).trans (hanalog a), fun a ha heq hon' hst hvref => ?_⟩
  have h := hdriven a ha ((haov a 2).trans heq) ((hlive a).trans hon') hst (by rw [hsensing]; exact hvref)
  rw [haov, haov] at h
  exact h

/-- Settles O51: a result, a decision on leads in each of its cases, and the two levels of VREF_AO. -/
theorem sensingResultsComplete : Obligations.SensingResultsComplete := by
  unfold Obligations.SensingResultsComplete
  intro s t m hs hm hon
  obtain ⟨-, hp⟩ := hs
  refine ⟨fun x w y past v hw hends hcurve => sensingResults_publish hp hm hon hw hends hcurve,
    fun x hends => Did.answer_upTo (exec_resultPublish_early hp hends x), fun hmode pairs => ?_, fun mv hmv => ?_, fun mv hmv => ?_⟩
  · have hexec := exec_leadMonitorDecision hp hm hon hmode t pairs
    have hset : ∀ c, Did t [.sensing] s ((s.upTo t).setChannel m c) := fun c => .of_keeps (State.setChannel_keeps (.refl _ _) m c (by decide)) (by decide)
    have hbadEq : (s.channel m).broken = false → (s.upTo t).leadBad m (pairPins (s.badPairs pairs)) =
        if (s.channel m).bad + 1 < 2 then (s.upTo t).setChannel m { s.channel m with bad := (s.channel m).bad + 1, good := 0 }
        else (s.upTo t).leadBad m (pairPins (s.badPairs pairs)) := fun hbroken => by
      split
      · next h => exact (if_neg (by rw [show ((s.upTo t).channel m).broken = false from hbroken]; decide)).trans (if_pos h)
      · rfl
    refine ⟨fun hex hbroken => ⟨fun hbad => ?_, fun hbad => ?_⟩, fun hex hbroken => ?_, fun hall hbroken => ?_, fun hall hbroken hgood => ?_,
      fun hall hbroken hgood => ?_⟩
    · rw [if_pos (badPairs_ne hex), hbadEq hbroken, if_pos (by omega), hbad] at hexec
      exact ⟨_, hexec, hset _, State.channel_setChannel_self .., fun k hk => State.channel_setChannel_ne _ _ _ hk⟩
    · rw [if_pos (badPairs_ne hex)] at hexec
      obtain ⟨hkeeps, hheard, hself, hpins, hother⟩ := leadBad_declares (s := s.upTo t) hbroken hbad (pairPins (s.badPairs pairs))
      refine ⟨_, hexec, .of_keeps hkeeps.mono (by decide), hself, hother, hheard, fun q hq hlt => ?_⟩
      rw [hpins]
      exact bit_pairPins (List.mem_filter.mpr ⟨hq, decide_eq_true hlt⟩)
    · have hstill : (s.upTo t).leadBad m (pairPins (s.badPairs pairs)) =
          (s.upTo t).setChannel m { s.channel m with good := 0, pins := Nat.lor (s.channel m).pins (pairPins (s.badPairs pairs)) } := if_pos hbroken
      rw [if_pos (badPairs_ne hex), hstill] at hexec
      refine ⟨_, hexec, hset _, ?_, ?_, fun k hk => State.channel_setChannel_ne _ _ _ hk⟩
      · rw [State.channel_setChannel_self]
        exact hbroken
      · rw [State.channel_setChannel_self]
    · have hstill : (s.upTo t).leadGood m = (s.upTo t).setChannel m { s.channel m with bad := 0 } :=
        if_neg (by rw [show ((s.upTo t).channel m).broken = false from hbroken]; decide)
      rw [if_neg (not_not.mpr (badPairs_nil hall)), hstill] at hexec
      exact ⟨_, hexec, hset _, State.channel_setChannel_self ..⟩
    · have hstill : (s.upTo t).leadGood m = (s.upTo t).setChannel m { s.channel m with good := (s.channel m).good + 1 } :=
        (if_pos hbroken).trans (if_pos hgood)
      rw [if_neg (not_not.mpr (badPairs_nil hall)), hstill] at hexec
      exact ⟨_, hexec, hset _, State.channel_setChannel_self ..⟩
    · rw [if_neg (not_not.mpr (badPairs_nil hall))] at hexec
      obtain ⟨hkeeps, hclear⟩ := leadGood_clears (s := s.upTo t) hbroken hgood
      exact ⟨_, hexec, .of_keeps hkeeps (by decide), hclear⟩
  · have hexec := exec_vrefAoChange hp t mv
    rw [if_neg (by omega)] at hexec
    exact ⟨_, hexec, .record, rfl⟩
  · have hexec := exec_vrefAoChange hp t mv
    rw [if_pos hmv] at hexec
    have hset : Keeps [.sensing] (s.upTo t) { s.upTo t with sensing := { s.sensing with vref := mv } } :=
      Keeps.record (.refl _ _) rfl rfl rfl rfl rfl rfl rfl rfl rfl rfl rfl rfl rfl rfl rfl rfl rfl rfl rfl
    have hmem : ∀ a, a ∈ (List.range 4).filter ({ s.upTo t with sensing := { s.sensing with vref := mv } } : State).analogLive ↔
        a < 4 ∧ s.analogLive a = true := fun a => by
      rw [List.mem_filter, List.mem_range]
      rfl
    have hf : ∀ (v : State) (a : Nat), ∃ x, v.failAnalog a = v.setAnalog a x ∨ v.failAnalog a = v := fun v a => ⟨_, .inl (failAnalog_eq v a).choose_spec⟩
    obtain ⟨honly, hother⟩ := each_outputs hf { s.upTo t with sensing := { s.sensing with vref := mv } }
      ((List.range 4).filter ({ s.upTo t with sensing := { s.sensing with vref := mv } } : State).analogLive)
    refine ⟨_, hexec, .of_keeps (hset.trans honly.keeps) (by decide), ?_, ?_, fun a ha => ⟨fun hlive => ?_, fun hlive => ?_⟩⟩
    · obtain ⟨l, hl⟩ := honly
      rw [hl]
    · obtain ⟨l, hl⟩ := honly
      rw [hl]
    · exact hother a fun h => Bool.noConfusion (hlive.symm.trans ((hmem a).mp h).2)
    · refine each_outputs_self hf (P := fun o => o.failing = true ∧ (s.aov a 5 = 0 → o.connected = false) ∧
        (s.aov a 5 = 1 → o = { s.analog a with failing := true }) ∧ (s.aov a 5 = 2 → o.connected = true ∧ o.fraction = 0) ∧
        (s.aov a 5 = 3 → o.connected = true ∧ o.fraction = 0x3F800000)) ((hmem a).mpr ⟨ha, hlive⟩) (List.Nodup.filter _ List.nodup_range) fun v hv hva => ?_
      have haov : v.aov a 5 = s.aov a 5 := congrArg ofBE (hv.raw _)
      have h := failAnalog_analog v a
      rw [haov, hva] at h
      exact h

end Sys2Proof.Machine
end

section
/-! What the command channel leaves of the dictionary as its statuses settle: everything but its own counters and those of the trip matrix. -/

set_option Elab.async false

namespace Sys2Proof.Machine

section CommandCounters

variable {ps : List Part} {s u v : State} {p k n : Nat}

/-- A bit of a word in which one bit was written. -/
theorem bit_withBit (v i : Nat) (b : Bool) (j : Nat) : bit (withBit v i b) j = if j = i then b else bit v j := by
  cases hv : bit v i with
  | false =>
    cases b with
    | true =>
      rw [bit_withBit_true hv]
      split
      · next h => rw [h, beq_self_eq_true, Bool.or_true]
      · next h => rw [beq_false_of_ne h, Bool.or_false]
    | false =>
      rw [show withBit v i false = v from if_pos (beq_iff_eq.mpr hv)]
      split
      · next h => rw [h, hv]
      · rfl
  | true =>
    cases b with
    | true =>
      rw [show withBit v i true = v from if_pos (beq_iff_eq.mpr hv)]
      split
      · next h => rw [h, hv]
      · rfl
    | false =>
      have hclear : withBit v i false = v - 2 ^ i := by
        unfold withBit
        rw [if_neg (by rw [show v.testBit i = true from hv]; decide), if_neg (by decide)]
      have hset : v / 2 ^ i % 2 = 1 := by
        have h : v.testBit i = true := hv
        rw [Nat.testBit_eq_decide_div_mod_eq] at h
        exact of_decide_eq_true h
      have hpos : 0 < 2 ^ i := Nat.two_pow_pos i
      have hle : 2 ^ i ≤ v := by
        refine Nat.le_of_not_lt fun hlt => ?_
        rw [Nat.div_eq_of_lt hlt] at hset
        exact absurd hset (by decide)
      have hoff : (v - 2 ^ i).testBit i = false := by
        have hdiv : (v - 2 ^ i) / 2 ^ i = v / 2 ^ i - 1 := by
          have h := Nat.sub_mul_div v (2 ^ i) 1
          rwa [Nat.mul_one] at h
        rw [Nat.testBit_eq_decide_div_mod_eq, hdiv]
        exact decide_eq_false (by omega)
      have hback := testBit_add_two_pow hoff j
      rw [Nat.sub_add_cancel hle] at hback
      rw [hclear]
      unfold bit
      split
      · next h => rw [h, hoff]
      · next h => rw [hback, beq_false_of_ne h, Bool.or_false]

theorem State.each_of_all {α : Type} {P : State → Prop} {f : State → α → State} {l : List α} (hf : ∀ v, ∀ x ∈ l, P v → P (f v x)) {s : State}
    (hs : P s) : P (s.each l f) := by
  unfold State.each
  induction l generalizing s with
  | nil => exact hs
  | cons x l ih => exact ih (fun v y hy => hf v y (List.mem_cons_of_mem _ hy)) (hf s x List.mem_cons_self hs)

/-- Every entry outside the command channel's and the matrix's stands. -/
def SameEntries (s u : State) : Prop := ∀ k, k / 65536 ≠ 0x34 → k / 65536 ≠ 0x35 → u.raw k = s.raw k

theorem SameEntries.of_keeps (h : Keeps ps s u) (hps : Part.dict ∉ ps := by decide) : SameEntries s u := fun k _ _ => h.raw k hps

theorem SameEntries.trans (h : SameEntries s u) (k : SameEntries u v) : SameEntries s v := fun j h34 h35 => (k j h34 h35).trans (h j h34 h35)

theorem SameEntries.bump (s : State) (hp : p < 36) {j : Nat} (hj : j < 256) : SameEntries s (s.bump (0x34A0 + p) j) := fun k h34 _ =>
  State.raw_bumpKey_ne s 1 fun h => h34 (by unfold keyOf at h; omega)

theorem settleLink_entries (s : State) (hp : p < 36) (quiet : Bool) (k : Nat) : SameEntries s (s.settleLink p quiet k) := by
  unfold State.settleLink
  extract_lets x ss rs warn fresh u c w y
  have hu : SameEntries s u := fun _ _ _ => rfl
  have hw : SameEntries s w := by
    unfold w
    split
    · exact hu
    · exact fun _ _ _ => rfl
  have hy : SameEntries s y := by
    unfold y
    split
    · exact hw.trans ((SameEntries.bump w hp (by decide)).trans fun _ _ _ => rfl)
    · exact hw
  split
  · exact hy.trans fun _ _ _ => rfl
  · exact hy

theorem cutCommand_entries (s : State) (hp : p < 36) : SameEntries s (s.cutCommand p) := by
  unfold State.cutCommand
  split
  · exact SameEntries.bump (s.setCell p { s.cell p with frame := none }) hp (by decide)
  · exact fun _ _ _ => rfl

theorem changeDue_entries (s : State) (hp : p < 36) (k : Nat) : SameEntries s (s.changeDue p k) := by
  unfold State.changeDue
  dsimp only
  split
  · exact fun _ _ _ => rfl
  · split
    · split
      · exact fun _ _ _ => rfl
      · exact SameEntries.bump (s.setCell p { s.cell p with due := insertDue ⟨s.tsc, k⟩ (s.cell p).due }) hp (by decide)
    · exact cutCommand_entries (s.setCell p { s.cell p with due := insertDue ⟨s.tsc, k⟩ (s.cell p).due }) hp

theorem settleStates_entries (s : State) (hp : p < 36) (k : Nat) : SameEntries s (s.settleStates p k) := by
  unfold State.settleStates
  dsimp only
  split
  · exact fun _ _ _ => rfl
  · split
    · split
      · exact fun _ _ _ => rfl
      · exact fun _ _ _ => rfl
    · split
      · exact fun _ _ _ => rfl
      · exact changeDue_entries s hp k

theorem startCommand_entries (s : State) (hp : p < 36) (k cnt : Nat) (kind : CommandKind) : SameEntries s (s.startCommand p k cnt kind) :=
  fun j h34 _ => (startCommand_counted s p k cnt kind).1 j fun hj => by
    rcases List.mem_cons.mp hj with h | h
    · exact h34 (by unfold keyOf at h; omega)
    · split at h
      · have := List.mem_singleton.mp h
        exact h34 (by unfold keyOf at this; omega)
      · exact absurd h List.not_mem_nil

theorem limitLink_entries (s : State) (hp : p < 36) (k : Nat) : SameEntries s (s.limitLink p k) := by
  unfold State.limitLink
  split
  · exact fun _ _ _ => rfl
  · exact SameEntries.bump (s.updLink p k fun x => { x with limited := true }) hp (by decide)

theorem commandNext_go_entries (hp : p < 36) : ∀ (l : List (Nat × CommandKind)) (s : State), SameEntries s (State.commandNext.go p s l)
  | [], _ => fun _ _ _ => rfl
  | (k, kind) :: l, s => by
    unfold State.commandNext.go
    split
    · split
      · exact startCommand_entries s hp k _ kind
      · exact commandNext_go_entries hp l s
    · exact (limitLink_entries s hp k).trans (commandNext_go_entries hp l _)

theorem commandNext_entries (s : State) (hp : p < 36) : SameEntries s (s.commandNext p) := by
  unfold State.commandNext
  split
  · exact commandNext_go_entries hp _ s
  · exact fun _ _ _ => rfl

theorem commandPorts_lt (h : p ∈ s.commandPorts) : p < 36 :=
  lt_of_lt_of_le (List.mem_range.mp (List.mem_filter.mp h).1) (portCount_le s.variant)

theorem settleMatrix_entries (s : State) : SameEntries s s.settleMatrix := by
  have houtputs : SameEntries s (s.each (List.range 8) State.settleOutput) := fun k _ h35 =>
    (settleMatrix_outputs s).1.raw k fun h => h35 (by omega)
  unfold State.settleMatrix
  refine houtputs.trans (State.each_of_all (P := SameEntries _) (fun v p hp hv => hv.trans ?_) fun _ _ _ => rfl)
  have hdriven : SameEntries v (if (v.cell p).driven = v.drivenOf p then v else v.setCell p { v.cell p with driven := v.drivenOf p }) := by
    split
    · exact fun _ _ _ => rfl
    · exact fun _ _ _ => rfl
  refine (hdriven.trans ?_).trans (commandNext_entries _ (commandPorts_lt hp))
  exact State.each_of_step (P := SameEntries _) (fun w k hw => hw.trans (settleStates_entries w (commandPorts_lt hp) k)) (fun _ _ _ => rfl) _

theorem settleCommand_entries (s : State) : SameEntries s s.settleCommand := by
  have hlinks : SameEntries s (s.settleLinks false) :=
    State.each_of_all (P := SameEntries s) (fun v p hp hv => hv.trans (State.each_of_step (P := SameEntries v)
      (fun w k hw => hw.trans (settleLink_entries w (commandPorts_lt hp) false k)) (fun _ _ _ => rfl) _)) fun _ _ _ => rfl
  exact hlinks.trans (settleMatrix_entries _)

/-- The binary inputs stand while the command channel settles. -/
theorem settleCommand_inputs (s : State) : s.settleCommand.trip.biState = s.trip.biState ∧ s.settleCommand.trip.biRaw = s.trip.biRaw := by
  have hlinks : (s.settleLinks false).trip = s.trip := (settleLinks_keeps_self s false).frame .trip (by decide)
  have hsources := (settleMatrix_outputs (s.settleLinks false)).1
  unfold State.settleCommand
  rw [settleMatrix_trip, hsources.biState, hsources.biRaw, hlinks]
  exact ⟨rfl, rfl⟩

end CommandCounters

end Sys2Proof.Machine
end

section
/-! Threshold switches, generators and binary inputs by command (R393, R398-R403, R406). -/

set_option Elab.async false

namespace Sys2Proof.Machine

section SensingUnits

variable {s u v : State} {t m n x : Nat}

/-! ## Threshold switches (R400, R401) -/

theorem turnSwitch_self (s : State) (n : Nat) (x : Switch) : (s.turnSwitch n x).switch n = x := by
  unfold State.turnSwitch
  dsimp only
  split
  · exact switch_setSwitch_self s n x
  · exact switch_setSwitch_self s n x

theorem turnSwitch_ne (s : State) (n : Nat) (x : Switch) {k : Nat} (h : k ≠ n) : (s.turnSwitch n x).switch k = s.switch k := by
  unfold State.turnSwitch
  dsimp only
  split
  · exact switch_setSwitch_ne s n x h
  · exact switch_setSwitch_ne s n x h

theorem applySwitch_valid (hon : (s.switch n).enabled = true) (value : Nat) : s.applySwitch n value 0 = s.turnSwitch n { s.switch n with
    on := compareSwitch (s.swv n 3) (f32ToFrac (s.swv n 4)) (f32ToFrac (s.swv n 5)) (f32ToFrac (s.swv n 6)) (f32ToFrac value) (s.switch n).on
    inFail := false, fresh := false } := by
  unfold State.applySwitch
  dsimp only
  rw [if_neg (by rw [hon]; decide), if_pos rfl]

theorem applySwitch_fails (hon : (s.switch n).enabled = true) {value status : Nat} (hstatus : 2 ≤ status) (hfresh : (s.switch n).fresh = false)
    (hfail : (s.switch n).inFail = false) : s.applySwitch n value status =
    (s.turnSwitch n { s.switch n with on := if s.swv n 7 = 2 then (s.switch n).on else s.swv n 7 == 1, inFail := true }).bump (0x5300 + n) 0x0B := by
  unfold State.applySwitch
  dsimp only
  rw [if_neg (by rw [hon]; decide), if_neg (by omega), if_neg (by rw [hfresh, hfail]; simp; omega)]

theorem applySwitch_holds (hon : (s.switch n).enabled = true) {value status : Nat} (hstatus : status ≠ 0)
    (h : (s.switch n).fresh = true ∨ (s.switch n).inFail = true ∨ status = 1) : s.applySwitch n value status = s := by
  unfold State.applySwitch
  dsimp only
  rw [if_neg (by rw [hon]; decide), if_neg hstatus]
  refine if_pos ?_
  rcases h with h | h | h
  · exact .inr (.inl h)
  · exact .inr (.inr h)
  · exact .inl h

/-- The status of a fast value with what the module knows of its channel (log 39). -/
def State.fastStatus (s : State) (n status : Nat) : Nat := max status (max (s.chanStatus (s.swv n 2)) (ofBool (s.settling (s.swv n 2))))

theorem exec_thresholdSwitchChange (hp : s.rst.powered = true) (hup : s.sensingUp = true) (hn : n < 16) (t value status : Nat) :
    exec (.thresholdSwitchChange t n value status) s =
      .next ((s.upTo t).applySwitch n value ((s.upTo t).fastStatus n status)).settleCommand := by
  show execThresholdSwitchChange t n value status s = _
  unfold execThresholdSwitchChange
  rw [State.run_powered hp]
  exact congrArg Host.Outcome.next (if_pos ⟨hn, hup⟩)

theorem switch_of_sensing (h : u.sensing.switches = s.sensing.switches) (k : Nat) : u.switch k = s.switch k := by
  unfold State.switch
  rw [h]

theorem settleCommand_sensing (s : State) : s.settleCommand.sensing = s.sensing := (settleCommand_keeps_self s).frame .sensing (by decide)

/-- A switch that was applied stands so once the matrix has followed. -/
theorem applySwitch_settled (s : State) (n value status : Nat) :
    Keeps [.out, .dict, .log, .routes, .cells, .trip, .sensing] s (s.applySwitch n value status).settleCommand ∧
    (s.applySwitch n value status).settleCommand.sensing.channels = s.sensing.channels ∧
    (s.applySwitch n value status).settleCommand.sensing.generators = s.sensing.generators ∧
    ∀ k, (s.applySwitch n value status).settleCommand.switch k = (s.applySwitch n value status).switch k := by
  have hswitched := applySwitch_switched s n value status
  have hsensing := settleCommand_sensing (s.applySwitch n value status)
  exact ⟨hswitched.keeps.mono.trans (settleCommand_keeps_self _).mono, (congrArg Sensing.channels hsensing).trans hswitched.channels,
    (congrArg Sensing.generators hsensing).trans hswitched.generators, switch_of_sensing (congrArg Sensing.switches hsensing)⟩

/-! ## Generators (R393, R398) -/

theorem gen_of_sensing (h : u.sensing.generators = s.sensing.generators) (y : Nat) : u.gen y = s.gen y := by
  unfold State.gen
  rw [h]

/-- A generator in FAULT. -/
def State.genFaulted (s : State) (x : Nat) : State := (s.setGen x { state := 3, at_ := s.tsc }).bump (0x5180 + x) 8

theorem exec_generatorFault (hp : s.rst.powered = true) (hup : s.sensingUp = true) (h : (s.gen x).state = 1 ∨ (s.gen x).state = 2) (t : Nat) :
    exec (.generatorFault t x) s =
      .next (((s.upTo t).genFaulted x).each (((s.upTo t).genFaulted x).genUsers x) fun v m => v.failSwitches m 5).settleCommand := by
  show execGeneratorFault t x s = _
  unfold execGeneratorFault
  rw [State.run_powered hp]
  exact congrArg Host.Outcome.next (if_pos ⟨hup, h⟩)

theorem genFaulted_leaves (s : State) (x : Nat) :
    Keeps [.dict, .sensing] s (s.genFaulted x) ∧ (s.genFaulted x).gen x = { state := 3, at_ := s.tsc } ∧
    (∀ y, y ≠ x → (s.genFaulted x).gen y = s.gen y) ∧ (s.genFaulted x).sensing.channels = s.sensing.channels :=
  ⟨State.bump_keeps (State.setGen_keeps (.refl _ s) x _ (by decide)) _ _ (by decide), gen_setGen_self s x _, fun _ h => gen_setGen_ne s x _ h, rfl⟩

theorem genFault_width (v : Variant) : ∀ x < 4, (defaultOf v (keyOf (0x5180 + x) 8)).length = 4 := by
  cases v <;> decide +kernel

theorem generatorFault_leaves (hp : s.rst.powered = true) (hup : s.sensingUp = true) (h : (s.gen x).state = 1 ∨ (s.gen x).state = 2) :
    ∃ u, exec (.generatorFault t x) s = .next u ∧
      Did t [.free, .out, .dict, .log, .routes, .cells, .trip, .sensing] s u ∧ u.gen x = { state := 3, at_ := max s.tsc t } ∧
      (∀ y, y ≠ x → u.gen y = s.gen y) ∧ u.sensing.channels = s.sensing.channels ∧
      (x < 4 → u.val (0x5180 + x) 8 = min (2 ^ 32 - 1) (s.val (0x5180 + x) 8 + 1)) := by
  have hexec := exec_generatorFault hp hup h t
  obtain ⟨hkeeps, hself, hother, hchannels⟩ := genFaulted_leaves (s.upTo t) x
  have hcount : x < 4 → ((s.upTo t).genFaulted x).val (0x5180 + x) 8 = min (2 ^ 32 - 1) (s.val (0x5180 + x) 8 + 1) := fun hx =>
    State.val_bump_wide ((s.upTo t).setGen x { state := 3, at_ := (s.upTo t).tsc }) (genFault_width s.variant x hx)
  generalize (s.upTo t).genFaulted x = w at hexec hkeeps hself hother hchannels hcount
  have hswitched := Switched.each (fun v m => failSwitches_switched v m 5) w (w.genUsers x)
  generalize w.each (w.genUsers x) (fun v m => v.failSwitches m 5) = y at hexec hswitched
  have hsensing := settleCommand_sensing y
  have hgen : ∀ k, y.settleCommand.gen k = w.gen k := gen_of_sensing ((congrArg Sensing.generators hsensing).trans hswitched.generators)
  refine ⟨_, hexec, .of_keeps (hkeeps.mono.trans (hswitched.keeps.mono.trans (settleCommand_keeps_self y).mono)) (by decide), (hgen x).trans hself,
    fun k hk => (hgen k).trans (hother k hk), (congrArg Sensing.channels hsensing).trans (hswitched.channels.trans hchannels), fun hx => ?_⟩
  rw [← hcount hx]
  have hraw := (settleCommand_entries y (keyOf (0x5180 + x) 8) (by unfold keyOf; omega) (by unfold keyOf; omega)).trans
    (hswitched.raw _ (by rw [idxOf_keyOf (by decide)]; omega))
  exact congrArg ofBE hraw

theorem exec_generatorRestart (hp : s.rst.powered = true) (hup : s.sensingUp = true) (hstate : (s.gen x).state = 3) (t : Nat) :
    ((s.gen x).at_ + 1000000000 ≤ max s.tsc t → exec (.generatorRestart t x) s =
      .next (((s.upTo t).rampGen x).each (((s.upTo t).rampGen x).genUsers x) fun v m => v.restartChannel m true)) ∧
    (max s.tsc t < (s.gen x).at_ + 1000000000 → exec (.generatorRestart t x) s = .next (s.upTo t)) := by
  refine ⟨fun h => ?_, fun h => ?_⟩
  all_goals
    show execGeneratorRestart t x s = _
    unfold execGeneratorRestart
    rw [State.run_powered hp]
  · exact congrArg Host.Outcome.next (if_pos ⟨hup, hstate, h⟩)
  · exact congrArg Host.Outcome.next (if_neg fun hc => absurd hc.2.2 (Nat.not_le.mpr h))

theorem rampGen_starts (hmode : s.genv x 1 ≠ 0) (hup : s.sensingUp = true) (hsafe : s.outputsSafe = false) :
    s.rampGen x = s.setGen x { state := 1, at_ := s.tsc } := by
  unfold State.rampGen
  rw [if_neg (by rw [hup, hsafe]; simpa using hmode)]

theorem generatorRestart_leaves (hp : s.rst.powered = true) (hup : s.sensingUp = true) (hstate : (s.gen x).state = 3)
    (hlate : (s.gen x).at_ + 1000000000 ≤ max s.tsc t) (hmode : s.genv x 1 ≠ 0) (hsafe : s.outputsSafe = false) :
    ∃ u, exec (.generatorRestart t x) s = .next u ∧ Did t [.dict, .sensing] s u ∧ u.gen x = { state := 1, at_ := max s.tsc t } ∧
      (∀ y, y ≠ x → u.gen y = s.gen y) ∧ (∀ m < 8, m ∈ s.genUsers x → (u.channel m).restartAt = max s.tsc t) ∧
      (∀ m, m ∉ s.genUsers x → u.channel m = s.channel m) := by
  have hexec := (exec_generatorRestart hp hup hstate t).1 hlate
  rw [rampGen_starts (s := s.upTo t) hmode hup hsafe] at hexec
  have hgens : (((s.upTo t).setGen x { state := 1, at_ := (s.upTo t).tsc }).each (s.genUsers x) fun v m => v.restartChannel m true).sensing.generators =
      ((s.upTo t).setGen x { state := 1, at_ := (s.upTo t).tsc }).sensing.generators :=
    State.each_of_step (P := fun v => v.sensing.generators = ((s.upTo t).setGen x { state := 1, at_ := (s.upTo t).tsc }).sensing.generators)
      (fun v m hv => (show (v.restartChannel m true).sensing.generators = v.sensing.generators from rfl).trans hv) rfl _
  have hgen := gen_of_sensing hgens
  have hset : Keeps [.dict, .sensing] (s.upTo t) ((s.upTo t).setGen x { state := 1, at_ := (s.upTo t).tsc }) :=
    State.setGen_keeps (.refl _ _) x _ (by decide)
  refine ⟨_, hexec, .of_keeps (Keeps.each hset fun v m => State.restartChannel_keeps (.refl _ v) m true (by decide) (by decide)) (by decide),
    (hgen x).trans (gen_setGen_self ..), fun y hy => (hgen y).trans (gen_setGen_ne _ _ _ hy), fun m _ hm => ?_, fun m hm => ?_⟩
  · refine (State.each_of_mem (P := fun v => v.tsc = max s.tsc t) (Q := fun v => v.tsc = max s.tsc t ∧ (v.channel m).restartAt = max s.tsc t) hm
      (fun v y hv => hv) (fun v y hv => ⟨hv.1, ?_⟩) (fun v hv => ⟨hv, ?_⟩)
      (f := fun v y => v.restartChannel y true) (s := (s.upTo t).setGen x { state := 1, at_ := (s.upTo t).tsc }) rfl).2
    · by_cases hy : m = y
      · subst hy
        rw [restartChannel_self]
        exact hv.1
      · rw [restartChannel_ne v y true hy]
        exact hv.2
    · rw [restartChannel_self]
      exact hv
  · refine State.each_of_all (P := fun v => v.channel m = s.channel m) (fun v y hy hv => ?_) rfl
    rw [restartChannel_ne v y true (show m ≠ y from fun h => hm (h ▸ hy))]
    exact hv

theorem exec_generatorRampEnd (hp : s.rst.powered = true) (hstate : (s.gen x).state = 1) (t : Nat) :
    exec (.generatorRampEnd t x) s =
      .next (if (s.gen x).at_ + s.genSettle x ≤ max s.tsc t then (s.upTo t).setGen x { s.gen x with state := 2 } else s.upTo t) := by
  show execGeneratorRampEnd t x s = _
  unfold execGeneratorRampEnd
  rw [State.run_powered hp]
  refine congrArg Host.Outcome.next ?_
  by_cases h : (s.gen x).at_ + s.genSettle x ≤ max s.tsc t
  · rw [if_pos h]
    exact if_pos ⟨hstate, h⟩
  · rw [if_neg h]
    exact if_neg fun hc => h hc.2

/-! ## Binary inputs (R406) -/

/-- The raw level that a voltage gives. -/
def State.rawLevel (s : State) (n volts : Nat) : Bool :=
  if (biLimits (s.val 0x5601 (n + 1))).1 < volts then true
  else if volts < (biLimits (s.val 0x5601 (n + 1))).2 then false else bit s.trip.biRaw n

/-- A binary input whose raw level has changed. -/
def State.rawChanged (s : State) (n : Nat) (b : Bool) : State :=
  { s with trip := { s.trip with biRaw := withBit s.trip.biRaw n b, biSince := Table.put 0 s.trip.biSince n s.tsc } }

theorem exec_binaryInputEdge (hp : s.rst.powered = true) (hn : n < 16) (t volts : Nat) :
    exec (.binaryInputEdge t n volts) s =
      .next (if s.rawLevel n volts ≠ bit s.trip.biRaw n then (s.upTo t).rawChanged n (s.rawLevel n volts) else s.upTo t) := by
  show execBinaryInputEdge t n volts s = _
  unfold execBinaryInputEdge
  rw [State.run_powered hp]
  refine congrArg Host.Outcome.next ?_
  by_cases h : s.rawLevel n volts ≠ bit s.trip.biRaw n
  · rw [if_pos h]
    exact if_pos ⟨hn, h⟩
  · rw [if_neg h]
    exact if_neg fun hc => h hc.2

theorem biLimits_lt (cls : Nat) : (biLimits cls).2 < (biLimits cls).1 := by
  unfold biLimits
  split
  · decide
  · split <;> decide

theorem rawLevel_on (h : (biLimits (s.val 0x5601 (n + 1))).1 < m) : s.rawLevel n m = true := if_pos h

theorem rawLevel_off (h : m < (biLimits (s.val 0x5601 (n + 1))).2) : s.rawLevel n m = false := by
  have := biLimits_lt (s.val 0x5601 (n + 1))
  exact (if_neg (by omega)).trans (if_pos h)

theorem rawLevel_between (hlow : (biLimits (s.val 0x5601 (n + 1))).2 ≤ m) (hhigh : m ≤ (biLimits (s.val 0x5601 (n + 1))).1) :
    s.rawLevel n m = bit s.trip.biRaw n := (if_neg (Nat.not_lt.mpr hhigh)).trans (if_neg (Nat.not_lt.mpr hlow))

theorem rawChanged_keeps (s : State) (n : Nat) (b : Bool) : Keeps [.trip] s (s.rawChanged n b) :=
  Keeps.record (.refl _ _) rfl rfl rfl rfl rfl rfl rfl rfl rfl rfl rfl rfl rfl rfl rfl rfl rfl rfl rfl

/-- The time since which an input has held its level. -/
def State.heldSince (s : State) (n : Nat) : Nat := max (Table.get 0 s.trip.biSince n) s.trip.releasedAt

/-- A state in which an input's level is filtered. -/
def State.filtered (s : State) (n : Nat) : State :=
  { s with trip := { s.trip with biState := withBit s.trip.biState n (bit s.trip.biRaw n), biSettled := withBit s.trip.biSettled n true } }

/-- A state in which a change of the filtered level is counted. -/
def State.filterCounted (s : State) (n : Nat) : State :=
  if bit s.trip.biRaw n = bit s.trip.biState n then s.filtered n else (s.filtered n).bump 0x5603 (n + 1)

theorem exec_biFilterExpiry (hp : s.rst.powered = true) (hn : n < 16) (hup : s.tripUp = true) (t : Nat) :
    exec (.biFilterExpiry t n) s =
      .next (if s.heldSince n + s.val 0x5600 (n + 1) * 100000 ≤ max s.tsc t then ((s.upTo t).filterCounted n).settleCommand else s.upTo t) := by
  show execBiFilterExpiry t n s = _
  unfold execBiFilterExpiry
  rw [State.run_powered hp]
  refine congrArg Host.Outcome.next ?_
  by_cases h : s.heldSince n + s.val 0x5600 (n + 1) * 100000 ≤ max s.tsc t
  · rw [if_pos h]
    exact if_pos ⟨hn, hup, h⟩
  · rw [if_neg h]
    exact if_neg fun hc => h hc.2.2

theorem filterCounted_leaves (s : State) (n : Nat) :
    Keeps [.dict, .trip] s (s.filterCounted n) ∧ (s.filterCounted n).trip = (s.filtered n).trip := by
  have hfiltered : Keeps [.trip] s (s.filtered n) :=
    Keeps.record (.refl _ _) rfl rfl rfl rfl rfl rfl rfl rfl rfl rfl rfl rfl rfl rfl rfl rfl rfl rfl rfl
  unfold State.filterCounted
  split
  · exact ⟨hfiltered.mono, rfl⟩
  · exact ⟨State.bump_keeps hfiltered.mono _ _ (by decide), rfl⟩

end SensingUnits

/-- Settles O52: a switch by the status of its value, a generator by its state, a binary input by its level. -/
theorem sensingUnitsComplete : Obligations.SensingUnitsComplete := by
  unfold Obligations.SensingUnitsComplete
  intro s t hs
  obtain ⟨-, hp⟩ := hs
  refine ⟨fun n v st hn hup hon => ?_, fun x hup => ⟨generatorFault_leaves hp hup, fun hstate hlate hmode hsafe => generatorRestart_leaves hp hup hstate hlate hmode hsafe,
      fun hstate hearly => Did.answer_upTo ((exec_generatorRestart hp hup hstate t).2 hearly)⟩,
    fun x hstate => ⟨fun hlate => ?_, fun hearly => ?_⟩, fun n v hn => ⟨fun hv hraw => ?_, fun hv hraw => ?_, fun hlow hhigh => ?_⟩,
    fun n hn hup => ⟨fun hlate => ?_, fun hearly => ?_⟩⟩
  · have hexec := exec_thresholdSwitchChange hp hup hn t v st
    have hst : (s.upTo t).fastStatus n st = max st (max (s.chanStatus (s.swv n 2)) (ofBool ((s.upTo t).settling (s.swv n 2)))) := rfl
    rw [← hst]
    obtain ⟨hkeeps, hchannels, hgens, hswitch⟩ := applySwitch_settled (s.upTo t) n v ((s.upTo t).fastStatus n st)
    refine ⟨fun h => ?_, fun h hfresh hfail => ?_, fun h hwhy => ?_⟩
    · rw [h] at hexec hkeeps hchannels hgens hswitch
      refine ⟨_, hexec, .of_keeps hkeeps.mono (by decide), fun k hk => (hswitch k).trans ?_, (hswitch n).trans ?_, hchannels, hgens⟩
      · rw [applySwitch_valid (s := s.upTo t) hon]
        exact turnSwitch_ne _ _ _ hk
      · rw [applySwitch_valid (s := s.upTo t) hon]
        exact turnSwitch_self ..
    · have hfails := applySwitch_fails (s := s.upTo t) (value := v) hon h hfresh hfail
      refine ⟨_, hexec, .of_keeps hkeeps.mono (by decide), fun k hk => (hswitch k).trans ?_, (hswitch n).trans ?_⟩
      · rw [hfails]
        exact turnSwitch_ne _ _ _ hk
      · rw [hfails]
        exact turnSwitch_self ..
    · rw [applySwitch_holds (s := s.upTo t) hon h hwhy] at hexec
      exact ⟨_, hexec, .of_keeps (settleCommand_keeps_self _).mono (by decide)⟩
  · have hexec := exec_generatorRampEnd hp hstate t
    rw [if_pos hlate] at hexec
    exact ⟨_, hexec, .of_keeps (State.setGen_keeps (.refl _ _) x _ (by decide)) (by decide), gen_setGen_self .., fun y hy => gen_setGen_ne _ _ _ hy⟩
  · have hexec := exec_generatorRampEnd hp hstate t
    rw [if_neg (Nat.not_le.mpr hearly)] at hexec
    exact Did.answer_upTo hexec
  · have hexec := exec_binaryInputEdge hp hn t v
    rw [rawLevel_on hv, hraw, if_pos (by decide)] at hexec
    have hbit := bit_withBit s.trip.biRaw n true
    refine ⟨_, hexec, .of_keeps (rawChanged_keeps ..) (by decide), (hbit n).trans (if_pos rfl), fun k hk => (hbit k).trans (if_neg hk), Table.get_put_self _ _ _, rfl, rfl⟩
  · have hexec := exec_binaryInputEdge hp hn t v
    rw [rawLevel_off hv, hraw, if_pos (by decide)] at hexec
    have hbit := bit_withBit s.trip.biRaw n false
    exact ⟨_, hexec, .of_keeps (rawChanged_keeps ..) (by decide), (hbit n).trans (if_pos rfl), fun k hk => (hbit k).trans (if_neg hk)⟩
  · have hexec := exec_binaryInputEdge hp hn t v
    rw [rawLevel_between hlow hhigh, if_neg (not_not.mpr rfl)] at hexec
    exact Did.answer_upTo hexec
  · have hexec := exec_biFilterExpiry hp hn hup t
    rw [if_pos (show s.heldSince n + s.val 0x5600 (n + 1) * 100000 ≤ max s.tsc t from hlate)] at hexec
    obtain ⟨hkeeps, htrip⟩ := filterCounted_leaves (s.upTo t) n
    obtain ⟨hstate, hraw⟩ := settleCommand_inputs ((s.upTo t).filterCounted n)
    rw [htrip] at hstate hraw
    have hbit := bit_withBit s.trip.biState n (bit s.trip.biRaw n)
    refine ⟨_, hexec, .of_keeps (hkeeps.mono.trans (settleCommand_keeps_self _).mono) (by decide), ?_, fun k hk => ?_, hraw⟩
    · rw [hstate]
      exact (hbit n).trans (if_pos rfl)
    · rw [hstate]
      exact (hbit k).trans (if_neg hk)
  · have hexec := exec_biFilterExpiry hp hn hup t
    rw [if_neg (show ¬ s.heldSince n + s.val 0x5600 (n + 1) * 100000 ≤ max s.tsc t from Nat.not_le.mpr hearly)] at hexec
    exact Did.answer_upTo hexec

end Sys2Proof.Machine
end

section
/-! Reset sources (R408-R412): what a reset of any cause and kind leaves, and the sources by command. -/

set_option Elab.async false

namespace Sys2Proof.Machine

section Resets

variable {ps : List Part} {s u v : State} {t c k : Nat}

/-! ## The parts of a reset -/

/-- Nothing but the power domains has changed. -/
def DomainsOnly (s u : State) : Prop := ∃ l, u = { s with rst := { s.rst with domains := l } }

theorem DomainsOnly.refl (s : State) : DomainsOnly s s := ⟨s.rst.domains, rfl⟩

theorem DomainsOnly.trans (h : DomainsOnly s u) (k : DomainsOnly u v) : DomainsOnly s v := by
  obtain ⟨l, rfl⟩ := h
  obtain ⟨l', rfl⟩ := k
  exact ⟨l', rfl⟩

theorem DomainsOnly.setDomain (s : State) (d : Nat) (x : Domain) : DomainsOnly s (s.setDomain d x) := ⟨_, rfl⟩

theorem resetDomains_only (s : State) (k : Nat) : DomainsOnly s (s.resetDomains k) := by
  unfold State.resetDomains
  split
  · refine State.each_of_step (P := DomainsOnly s) (fun v d hv => ?_) (.refl s) _
    split
    · exact hv.trans (.setDomain v d _)
    · exact hv
  · have hnew : ∀ l, DomainsOnly s { s with rst := { s.rst with domains := l } } := fun l => ⟨l, rfl⟩
    dsimp only
    split
    · exact (hnew _).trans ((DomainsOnly.setDomain _ 0 _).trans (.setDomain _ 1 _))
    · exact (hnew _).trans ((DomainsOnly.setDomain _ 0 _).trans ((DomainsOnly.setDomain _ 1 _).trans (.setDomain _ 2 _)))

theorem resetDomains_cold (s : State) : ((s.resetDomains 1).domain 0).state = .on ∧ ((s.resetDomains 1).domain 1).state = .ramping := by
  unfold State.resetDomains
  rw [if_neg (by decide), if_pos rfl]
  refine ⟨?_, ?_⟩
  · rw [State.domain_setDomain_ne (h := by decide), State.domain_setDomain_self]
  · rw [State.domain_setDomain_self]

theorem lockoutCheck_powered (s : State) (c k : Nat) : (s.lockoutCheck c k).rst.powered = s.rst.powered ∧
    (s.lockoutCheck c k).rst.watchdogAt = s.rst.watchdogAt ∧ (s.lockoutCheck c k).rst.extractAt = s.rst.extractAt := by
  unfold State.lockoutCheck
  split
  · exact ⟨rfl, rfl, rfl⟩
  · split
    · exact ⟨rfl, rfl, rfl⟩
    · exact ⟨rfl, rfl, rfl⟩

/-- nMRST ends a lockout (R412). -/
theorem lockoutCheck_external (s : State) : (s.lockoutCheck 3 2).rst.lockout = false := by
  unfold State.lockoutCheck
  rw [if_neg (by decide), if_pos (.inr rfl)]

theorem overlay_rst (l : Table Bytes) (r : ResetCtl) : ∀ s : State, ({ s with rst := r } : State).overlay l = { s.overlay l with rst := r } := by
  unfold State.overlay State.each
  induction l with
  | nil => exact fun _ => rfl
  | cons e l ih => exact fun s => ih (s.store e.1 e.2)

theorem view_rst (s : State) (r : ResetCtl) : ({ s with rst := r } : State).view.dict = s.view.dict :=
  (congrArg State.dict (overlay_rst s.mgr.deferred r s) :)

theorem frame_rst (s : State) (r : ResetCtl) : Frame [.rst] s { s with rst := r } :=
  Frame.one (List.mem_singleton_self _) fun p hp => by cases p <;> first | rfl | exact absurd rfl hp

theorem clearFor_log (s : State) (k : Nat) : (s.clearFor k).log = if k = 3 then s.log else {} := by
  unfold State.clearFor
  dsimp only
  by_cases hk : k = 3
  · rw [if_pos hk, if_pos (beq_iff_eq.mpr hk)]
  · rw [if_neg hk, if_neg (by rw [beq_false_of_ne hk]; decide)]

/-- What is cleared does not depend on the record. -/
theorem clearFor_rst_any (s : State) (k : Nat) (r : ResetCtl) :
    ({ s with rst := r } : State).clearFor k = { s.clearFor k with rst := r } := by
  unfold State.clearFor
  dsimp only
  rw [view_rst]

/-- The state whose parts a reset clears: the record has been written. -/
def State.recorded (s : State) (c k : Nat) : State :=
  let u := (s.lockoutCheck c k).recordReset c k
  let bankA : Bank := { u.rst.bankA with writing := false }
  let bankB : Bank := { u.rst.bankB with writing := false }
  { u with rst := { u.rst with
    bankA := bankA, bankB := bankB
    preferred := if k = 1 then 1 else if k = 2 ∧ u.rst.committed then u.val 0x1100 0x22 else u.rst.preferred
    keyHash := if k = 1 then List.replicate 48 0 else if k = 2 ∧ u.rst.committed then u.raw (keyOf 0x1100 0x58) else u.rst.keyHash } }

theorem recorded_eq (s : State) (c k : Nat) : s.recorded c k = { s with rst := (s.recorded c k).rst } := by
  show ({ (s.lockoutCheck c k).recordReset c k with rst := (s.recorded c k).rst } : State) = _
  unfold State.recordReset
  rw [State.lockoutCheck_eq]

/-- The record that a reset writes (R426). -/
theorem recorded_record (s : State) (c k : Nat) :
    (s.recorded c k).rst.cause = c ∧ (s.recorded c k).rst.kind = k ∧
    (s.recorded c k).rst.backup.records.head?.map (fun r => (r.cause, r.kind)) = some (c, k) ∧
    (s.recorded c k).rst.backup.total = (s.rst.backup.total + 1) % 2 ^ 32 ∧ (s.recorded c k).rst.backup.dark = s.rst.backup.dark ∧
    (s.recorded c k).rst.powered = s.rst.powered ∧ (s.recorded c k).rst.lockout = (s.lockoutCheck c k).rst.lockout ∧
    (s.recorded c k).rst.extractAt = s.rst.extractAt ∧ (s.recorded c k).rst.thermalHold = (s.lockoutCheck c k).rst.thermalHold := by
  have hbackup := s.lockoutCheck_backup c k
  obtain ⟨hpowered, -, hextract⟩ := lockoutCheck_powered s c k
  refine ⟨rfl, rfl, rfl, ?_, ?_, hpowered, rfl, hextract, rfl⟩
  · rw [← hbackup]
    rfl
  · rw [← hbackup]
    rfl

/-- What a reset of a cause and a kind leaves. -/
structure Performed (c k : Nat) (s u : State) : Prop where
  frame : Frame [.hier, .log, .rst, .sup] (s.clearFor k) u
  cause : u.rst.cause = c
  kind : u.rst.kind = k
  sequence : u.rst.sequence = some ⟨c, k⟩
  backup : u.rst.backup = (s.recorded c k).rst.backup
  records : u.log.records = if k = 3 then s.log.records else []
  powered : u.rst.powered = s.rst.powered
  lockout : u.rst.lockout = (s.lockoutCheck c k).rst.lockout
  extractAt : u.rst.extractAt = s.rst.extractAt
  watchdog : c = 7 → k = 3 → u.rst.watchdogAt = some u.tsc
  domains : k = 1 → (u.domain 0).state = .on ∧ (u.domain 1).state = .ramping

/-- A cold start takes the ageing values from the backup domain (R437). -/
def State.agedFor (u : State) (k : Nat) : State :=
  if k = 1 then { u with sup := { u.sup with ageing := u.rst.backup.ageing, measuredAt := 0 }, rst := { u.rst with flashAt := 0 } } else u

/-- The reset controller as a sequence begins. -/
def ResetCtl.began (r : ResetCtl) (c k now : Nat) : ResetCtl :=
  { r with
    sequence := some ⟨c, k⟩, sequenceAt := now, requested := none,
    thermalHold := c == 8 || (r.thermalHold && k != 1),
    watchdogAt := if c = 7 ∧ k = 3 then some now else if k = 1 then none else r.watchdogAt,
    bootReady := false, bootImage := none, saving := none, reload := k == 3 && !Config.firmwareKept now,
    committed := r.committed && k == 3, recovery := r.recovery && k == 3,
    bootBank := if k = 3 then r.bootBank else 0, bootResult := if k = 3 then r.bootResult else 0,
    d01At := if k = 3 then r.d01At else now, d01Early := if k = 3 then r.d01Early else 0 }

/-- The event of a reset, with the record that it wrote. -/
def resetEvent (l : List ResetRecord) : Bytes :=
  match l with
  | r :: _ => resetRecordBytes r
  | [] => []

/-- A state in which the sequence of a reset begins. -/
def State.beganReset (u : State) (c k : Nat) (data : Bytes) : State :=
  State.event { u with rst := u.rst.began c k u.tsc, log := if k = 3 then u.log else { restart := u.tsc } } (srcOf 5 0 0) 0x0101 sevNotice data

theorem performReset_eq (s : State) (c k : Nat) : s.performReset c k =
    (((((s.recorded c k).clearFor k).resetDomains k).holdShed k).agedFor k).beganReset c k (resetEvent ((s.lockoutCheck c k).recordReset c k).rst.backup.records) := by
  unfold State.performReset
  rfl

theorem agedFor_leaves (x : State) (k : Nat) : Frame [.rst, .sup] x (x.agedFor k) ∧ ∃ fa, (x.agedFor k).rst = { x.rst with flashAt := fa } := by
  unfold State.agedFor
  split
  · exact ⟨(Keeps.record (.refl [.rst, .sup] x) rfl rfl rfl rfl rfl rfl rfl rfl rfl rfl rfl rfl rfl rfl rfl rfl rfl rfl rfl :
      Keeps [.rst, .sup] x { x with sup := { x.sup with ageing := x.rst.backup.ageing, measuredAt := 0 }, rst := { x.rst with flashAt := 0 } }).frame, 0, rfl⟩
  · exact ⟨(Keeps.refl [.rst, .sup] x).frame, x.rst.flashAt, rfl⟩

theorem beganReset_frame (y : State) (c k : Nat) (data : Bytes) : Frame [.log, .rst] y (y.beganReset c k data) :=
  (State.event_keeps (Keeps.record (.refl [.log, .rst] y) rfl rfl rfl rfl rfl rfl rfl rfl rfl rfl rfl rfl rfl rfl rfl rfl rfl rfl rfl :
    Keeps [.log, .rst] y { y with rst := y.rst.began c k y.tsc, log := if k = 3 then y.log else { restart := y.tsc } }) _ _ _ _ (by decide)).frame

theorem performReset_performed (s : State) (c k : Nat) : Performed c k s (s.performReset c k) := by
  obtain ⟨hcause, hkind, -, -, -, hpowered, hlockout, hextract, -⟩ := recorded_record s c k
  have hclear : (s.recorded c k).clearFor k = { s.clearFor k with rst := (s.recorded c k).rst } :=
    (congrArg (State.clearFor · k) (recorded_eq s c k)).trans (clearFor_rst_any s k _)
  have hcleared : Frame [.rst] (s.clearFor k) ((s.recorded c k).clearFor k) := by
    rw [hclear]
    exact frame_rst _ _
  have hrecord : ((s.recorded c k).clearFor k).rst = (s.recorded c k).rst := rfl
  have hlogged : ((s.recorded c k).clearFor k).log = if k = 3 then s.log else {} := by
    rw [hclear]
    exact clearFor_log s k
  rw [performReset_eq]
  generalize (s.recorded c k).clearFor k = a at hcleared hrecord hlogged
  obtain ⟨l, hl⟩ := resetDomains_only a k
  have hcold : k = 1 → ((a.resetDomains k).domain 0).state = .on ∧ ((a.resetDomains k).domain 1).state = .ramping := fun hk => by
    rw [hk]
    exact resetDomains_cold a
  generalize a.resetDomains k = w at hl hcold
  have hheld : Keeps [.hier] w (w.holdShed k) := State.holdShed_keeps (.refl _ _) k (by decide)
  generalize w.holdShed k = x at hheld
  obtain ⟨haged, fa, hfa⟩ := agedFor_leaves x k
  generalize x.agedFor k = y at haged hfa
  have hdomains : y.rst = { a.rst with domains := w.rst.domains, flashAt := fa } := by
    rw [hfa, hheld.frame .rst (by decide), hl]
  have hlog : y.log = a.log := by
    rw [haged .log (by decide), hheld.frame .log (by decide), hl]
  have hframe : Frame [.hier, .rst, .sup] a y := ((hl ▸ frame_rst a _ : Frame [.rst] a w).mono (by decide)).trans
    ((hheld.frame.mono (by decide)).trans (haged.mono (by decide)))
  refine ⟨(hcleared.mono (by decide)).trans ((hframe.mono (by decide)).trans ((beganReset_frame y c k _).mono (by decide))), ?_, ?_, rfl, ?_, ?_, ?_, ?_, ?_,
    fun hc hk => if_pos ⟨hc, hk⟩, fun hk => ?_⟩
  · show y.rst.cause = c
    rw [hdomains, hrecord, hcause]
  · show y.rst.kind = k
    rw [hdomains, hrecord, hkind]
  · show y.rst.backup = _
    rw [hdomains, hrecord]
  · show (if k = 3 then y.log else { restart := y.tsc }).records = _
    rw [hlog, hlogged]
    split <;> rfl
  · show y.rst.powered = _
    rw [hdomains, hrecord, hpowered]
  · show y.rst.lockout = _
    rw [hdomains, hrecord, hlockout]
  · show y.rst.extractAt = _
    rw [hdomains, hrecord, hextract]
  · have hlist : y.rst.domains = w.rst.domains := by rw [hdomains]
    have hsame : ∀ d, (y.beganReset c k (resetEvent ((s.lockoutCheck c k).recordReset c k).rst.backup.records)).domain d = w.domain d := fun d =>
      congrArg (Table.get ({} : Domain) · d) hlist
    rw [hsame, hsame]
    exact hcold hk

/-- A reset that was performed is one as the statements describe it. -/
theorem Performed.wasReset (h : Performed c k s u) (hk : k = 1 ∨ k = 2 ∨ k = 3) : s.WasReset u c k := by
  obtain ⟨-, -, hrecords, htotal, -, -, -, -, -⟩ := recorded_record s c k
  have hdict : u.dict = (s.clearFor k).dict := h.frame .dict (by decide)
  have hmgr : u.mgr = (s.clearFor k).mgr := h.frame .mgr (by decide)
  have hcipher : u.cipher = (s.clearFor k).cipher := h.frame .cipher (by decide)
  have hvariant : u.variant = (s.clearFor k).variant := h.frame .variant (by decide)
  refine ⟨h.cause, h.kind, h.sequence, by rw [h.backup, hrecords], by rw [h.backup, htotal], ?_, ?_, ?_, ?_, ?_, fun hw => ?_, fun hw => ?_, fun hc => ?_,
    fun hc n hn => ?_⟩
  · rw [State.outputsAtRest_congr h.frame, State.clearFor_outputsAtRest]
  · exact h.frame .pages (by decide)
  · exact h.frame .checkParts (by decide)
  · exact h.frame .written (by decide)
  · rw [hmgr]
    rfl
  · subst hw
    exact ⟨hdict, by rw [hmgr]; rfl, h.records⟩
  · refine ⟨?_, by rw [h.records, if_neg hw], fun e => ?_⟩
    · rw [hmgr]
      rcases hk with rfl | rfl | rfl
      · rfl
      · rfl
      · exact absurd rfl hw
    · have hfilter : u.dict = s.dict.filter fun x => keptEntry (k == 1) x.1 := by
        rw [hdict]
        rcases hk with rfl | rfl | rfl
        · rfl
        · rfl
        · exact absurd rfl hw
      have hfind := Table.find_filter_key (keptEntry (k == 1)) s.dict e
      unfold State.raw
      rw [hfilter, hvariant, hfind]
      split <;> rfl
  · rw [hcipher]
    rcases hk with rfl | rfl | rfl
    · exact absurd rfl hc
    · rfl
    · rfl
  · subst hc
    unfold State.slot
    rw [hcipher]
    exact Table.get_put_ne (d := ({} : KeySlot)) []
      ({ state := .ready, type := 3, key := Config.keyEncryptionKey, shadow := Config.keyEncryptionKey } : KeySlot) hn

/-- The counter through a reset (R409, R415): a cold start alone restarts it. -/
theorem Performed.tsc (h : Performed c k s u) : u.tsc = if k = 1 then 0 else s.tsc := by
  have htsc : u.tsc = (s.clearFor k).tsc := h.frame .tsc (by decide)
  rw [htsc]
  unfold State.clearFor
  dsimp only
  by_cases hk : k = 1
  · rw [if_pos hk, if_pos (beq_iff_eq.mpr hk)]
  · rw [if_neg hk, if_neg (by rw [beq_false_of_ne hk]; decide)]

/-! ## Requests (R411, R412, R430) -/

theorem requestReset_idle (hlock : s.rst.lockout = true → k = 1 ∨ c = 3) (hextract : s.rst.extractAt = none ∨ c = 9 ∨ c = 10) (hseq : s.rst.sequence = none) :
    s.requestReset c k = s.performReset c k := by
  unfold State.requestReset
  rw [if_neg fun ⟨h, h1, h3⟩ => (hlock h).elim h1 h3, if_neg fun ⟨h, _, h9, h10⟩ => hextract.elim h (·.elim h9 h10), hseq]

/-- A cold sequence absorbs every other source (R411). -/
theorem requestReset_absorbed {q : PendingReset} (hlock : s.rst.lockout = false) (hseq : s.rst.sequence = some q) (hq : q.kind = 1) :
    s.requestReset 3 2 = s := by
  unfold State.requestReset
  rw [if_neg fun h => Bool.noConfusion (hlock.symm.trans h.1)]
  split
  · rfl
  · rw [hseq]
    dsimp only
    rw [if_neg, if_neg fun h => absurd (h.1.trans hq) (by decide), if_neg fun h => absurd h.1 (by decide)]
    rintro (h | h)
    · omega
    · exact Bool.noConfusion (hlock.symm.trans h.1)

theorem requestReset_performed (hlock : s.rst.lockout = true → k = 1 ∨ c = 3) (hextract : s.rst.extractAt = none ∨ c = 9 ∨ c = 10)
    (hseq : s.rst.sequence = none) : Performed c k s (s.requestReset c k) := by
  rw [requestReset_idle hlock hextract hseq]
  exact performReset_performed s c k

/-! ## The sources by command (R408, R429) -/

theorem exec_powerOn (hoff : s.rst.powered = false) (hconnected : s.rst.connected = true) (t : Nat) : exec (.powerOn t) s =
    .next ((({ { s.upTo t with rst := { s.rst with powered := true, extracted := false } }.performReset 1 1 with
      rst := { ({ s.upTo t with rst := { s.rst with powered := true, extracted := false } }.performReset 1 1).rst with
        backup := { ({ s.upTo t with rst := { s.rst with powered := true, extracted := false } }.performReset 1 1).rst.backup with dark := [] } } } : State)).each
      ({ s.upTo t with rst := { s.rst with powered := true, extracted := false } }.performReset 1 1).rst.backup.dark fun u e => u.logTamper e.1) := by
  show execPowerOn t s = _
  unfold execPowerOn
  exact if_pos ⟨hoff, hconnected⟩

theorem exec_powerOn_not (h : s.rst.powered = true ∨ s.rst.connected = false) (t : Nat) : exec (.powerOn t) s = .next (s.upTo t) := by
  show execPowerOn t s = _
  unfold execPowerOn
  refine if_neg fun hc => ?_
  rcases h with h | h
  · exact Bool.noConfusion (h.symm.trans hc.1)
  · exact Bool.noConfusion (h.symm.trans hc.2)

theorem exec_brownOut (hp : s.rst.powered = true) (t : Nat) : exec (.brownOut t) s = .next ((s.upTo t).performReset 2 1) := State.run_powered hp t fun s => s.performReset 2 1

theorem exec_external (hp : s.rst.powered = true) (t low : Nat) :
    exec (.external t low) s = .next (if 10000 ≤ low then (s.upTo t).requestReset 3 2 else s.upTo t) :=
  State.run_powered hp t fun s => if 10000 ≤ low then s.requestReset 3 2 else s

/-- A warm reset by the watchdog lies within the preceding 60 s (R408). -/
def State.watchdogRecent (s : State) (now : Nat) : Bool := s.rst.watchdogAt.any fun a => decide (now ≤ a + 60000000000)

theorem exec_watchdog (hp : s.rst.powered = true) (t : Nat) :
    exec (.watchdog t) s = .next ((s.upTo t).requestReset 7 (if s.watchdogRecent (max s.tsc t) then 2 else 3)) :=
  State.run_powered hp t fun s => s.requestReset 7 (if s.watchdogRecent s.tsc then 2 else 3)

theorem exec_thermal (hp : s.rst.powered = true) (t : Nat) (temp : Int) :
    (125000 ≤ temp → s.rst.extractAt = none → exec (.thermal t temp) s =
      .next { (s.upTo t).requestReset 8 2 with rst := { ((s.upTo t).requestReset 8 2).rst with thermalHold := true } }) ∧
    (temp < 125000 → exec (.thermal t temp) s = .next (s.upTo t)) := by
  refine ⟨fun h hx => ?_, fun h => ?_⟩
  all_goals
    show execThermal t temp s = _
    unfold execThermal
    rw [State.run_powered hp]
  · exact congrArg Host.Outcome.next (if_pos ⟨h, hx⟩)
  · exact congrArg Host.Outcome.next (if_neg fun hc => absurd hc.1 (by omega))

theorem exec_thermalRelease (hp : s.rst.powered = true) (t : Nat) (temp : Int) :
    (temp ≤ 110000 → s.rst.thermalHold = true → exec (.thermalRelease t temp) s =
      .next ({ s.upTo t with rst := { s.rst with thermalHold := false } } : State).nextRelease) ∧
    (110000 < temp → exec (.thermalRelease t temp) s = .next (s.upTo t)) := by
  refine ⟨fun h hx => ?_, fun h => ?_⟩
  all_goals
    show execThermalRelease t temp s = _
    unfold execThermalRelease
    rw [State.run_powered hp]
  · exact congrArg Host.Outcome.next (if_pos ⟨h, hx⟩)
  · exact congrArg Host.Outcome.next (if_neg fun hc => absurd hc.1 (by omega))

/-! ## The release order (R413, R415) -/

/-- The reset controller without domains, the boot's start, extraction and sequence. -/
def ResetCtl.still (x : ResetCtl) : ResetCtl := { x with domains := [], d01At := 0, extractAt := none, sequence := none }

/-- The release order moves domains, and with them the boot's duration, an extraction's start and the sequence's end. -/
structure Released (s u : State) : Prop where
  keeps : Keeps [.rst] s u
  ctl : u.rst.still = s.rst.still

theorem Released.refl (s : State) : Released s s := ⟨.refl _ s, rfl⟩

theorem Released.backup (h : Released s u) : u.rst.backup = s.rst.backup := (congrArg ResetCtl.backup h.ctl :)

theorem Released.thermalHold (h : Released s u) : u.rst.thermalHold = s.rst.thermalHold := (congrArg ResetCtl.thermalHold h.ctl :)

theorem Released.trans (h : Released s u) (k : Released u v) : Released s v :=
  ⟨h.keeps.trans k.keeps, k.ctl.trans h.ctl⟩

theorem Released.setDomain (s : State) (d : Nat) (x : Domain) : Released s (s.setDomain d x) :=
  ⟨State.setDomain_keeps (.refl _ s) d x (by decide), rfl⟩

theorem Released.sequence (s : State) (q : Option PendingReset) : Released s { s with rst := { s.rst with sequence := q } } :=
  ⟨Keeps.record (.refl _ _) rfl rfl rfl rfl rfl rfl rfl rfl rfl rfl rfl rfl rfl rfl rfl rfl rfl rfl rfl, rfl⟩

theorem domainOn_released (s : State) (d : Nat) : Released s (s.domainOn d) := by
  have hset := Released.setDomain s d { s.domain d with state := .on }
  unfold State.domainOn
  dsimp only
  split
  · exact hset.trans ⟨Keeps.record (.refl _ _) rfl rfl rfl rfl rfl rfl rfl rfl rfl rfl rfl rfl rfl rfl rfl rfl rfl rfl rfl, rfl⟩
  · exact hset

theorem nextRelease_released (s : State) : Released s s.nextRelease := by
  have hempty : Released s (s.each (List.range 30) fun u d => u.settleEmptyDomain d) := by
    refine State.each_of_step (P := Released s) (fun v d hv => hv.trans ?_) (.refl s) _
    unfold State.settleEmptyDomain
    split
    · exact domainOn_released v d
    · exact .refl v
  have hadvance : ∀ v : State, Released v v.advanceRelease := fun v => by
    unfold State.advanceRelease
    split
    · exact .refl v
    · exact State.each_of_step (P := Released v) (fun w d hw => hw.trans (.setDomain w d _)) (.refl v) _
  unfold State.nextRelease
  dsimp only
  split
  · split
    · exact (hempty.trans (hadvance _)).trans (.sequence _ none)
    · exact hempty.trans (hadvance _)
  · exact hempty.trans (hadvance _)

/-- The statements speak of the state before the counter is brought up to the command's time. -/
theorem WasReset.of_upTo (h : (s.upTo t).WasReset u c k) : s.WasReset u c k :=
  ⟨h.cause, h.kind, h.sequence, h.record, h.total, h.rest, h.pages, h.parts, h.written, h.staging,
    fun hw => ⟨(h.warm hw).1.trans (congrArg State.dict (view_upTo s t) :), (h.warm hw).2⟩, h.defaults, h.keys, h.coldKeys⟩

end Resets

/-- Settles O53: each source performs its reset, or is absorbed; the release of the die's hold lets the order go on. -/
theorem resetSourcesComplete : Obligations.ResetSourcesComplete := by
  unfold Obligations.ResetSourcesComplete
  intro s t _
  refine ⟨fun hoff hconnected hdark => ?_, fun h => Did.answer_upTo (exec_powerOn_not h t), fun hp => ?_, fun hp hextract hseq => ?_, fun hp => ?_⟩
  · have hexec := exec_powerOn hoff hconnected t
    have hperformed := performReset_performed { s.upTo t with rst := { s.rst with powered := true, extracted := false } } 1 1
    have hwas := hperformed.wasReset (.inl rfl)
    have htsc := hperformed.tsc
    generalize ({ s.upTo t with rst := { s.rst with powered := true, extracted := false } } : State).performReset 1 1 = w at hexec hperformed hwas htsc
    have hnone : w.rst.backup.dark = [] := by
      rw [hperformed.backup, (recorded_record _ 1 1).2.2.2.2.1]
      exact hdark
    rw [hnone] at hexec
    refine ⟨_, hexec, ⟨hwas.cause, hwas.kind, hwas.sequence, hwas.record, hwas.total, hwas.rest, hwas.pages, hwas.parts, hwas.written, hwas.staging,
      fun h => absurd h (by decide), hwas.defaults, fun h => absurd rfl h, hwas.coldKeys⟩, hperformed.powered, htsc, hperformed.domains rfl⟩
  · have hperformed := performReset_performed (s.upTo t) 2 1
    exact ⟨_, exec_brownOut hp t, WasReset.of_upTo (hperformed.wasReset (.inl rfl)), hperformed.tsc⟩
  · refine ⟨fun low hlow => ?_, fun hlock => ⟨fun hnone => ?_, fun a ha hrecent => ?_, fun x hx => ?_⟩⟩
    · have hexec := exec_external hp t low
      rw [if_pos hlow] at hexec
      have hperformed : Performed 3 2 (s.upTo t) ((s.upTo t).requestReset 3 2) := requestReset_performed (fun _ => .inr rfl) (.inl hextract) hseq
      exact ⟨_, hexec, WasReset.of_upTo (hperformed.wasReset (.inr (.inl rfl))), hperformed.tsc, hperformed.lockout.trans (lockoutCheck_external _)⟩
    · have hexec := exec_watchdog hp t
      have hrecent : s.watchdogRecent (max s.tsc t) = false := by
        unfold State.watchdogRecent
        cases ha : s.rst.watchdogAt with
        | none => rfl
        | some a => exact decide_eq_false (Nat.not_le.mpr (hnone a ha))
      rw [hrecent] at hexec
      have hperformed : Performed 7 3 (s.upTo t) ((s.upTo t).requestReset 7 3) :=
        requestReset_performed (fun h => Bool.noConfusion (hlock.symm.trans h)) (.inl hextract) hseq
      have htsc : ((s.upTo t).requestReset 7 3).tsc = max s.tsc t := hperformed.tsc
      exact ⟨_, hexec, WasReset.of_upTo (hperformed.wasReset (.inr (.inr rfl))), htsc, (hperformed.watchdog rfl rfl).trans (congrArg some htsc)⟩
    · have hexec := exec_watchdog hp t
      have htrue : s.watchdogRecent (max s.tsc t) = true := by
        unfold State.watchdogRecent
        rw [ha]
        exact decide_eq_true hrecent
      rw [htrue] at hexec
      have hperformed : Performed 7 2 (s.upTo t) ((s.upTo t).requestReset 7 2) :=
        requestReset_performed (fun h => Bool.noConfusion (hlock.symm.trans h)) (.inl hextract) hseq
      exact ⟨_, hexec, WasReset.of_upTo (hperformed.wasReset (.inr (.inl rfl))), hperformed.tsc⟩
    · have hexec := (exec_thermal hp t x).1 hx hextract
      have hperformed : Performed 8 2 (s.upTo t) ((s.upTo t).requestReset 8 2) :=
        requestReset_performed (fun h => Bool.noConfusion (hlock.symm.trans h)) (.inl hextract) hseq
      have hwas : s.WasReset ((s.upTo t).requestReset 8 2) 8 2 := WasReset.of_upTo (hperformed.wasReset (.inr (.inl rfl)))
      generalize (s.upTo t).requestReset 8 2 = w at hexec hwas
      exact ⟨_, hexec, ⟨hwas.cause, hwas.kind, hwas.sequence, hwas.record, hwas.total, hwas.rest, hwas.pages, hwas.parts, hwas.written, hwas.staging,
        fun h => absurd h (by decide), hwas.defaults, hwas.keys, fun h => absurd h (by decide)⟩, rfl⟩
  · refine ⟨fun low hlow => ?_, fun x hx => Did.answer_upTo ((exec_thermal hp t x).2 hx), fun q low hlock hseq hq => ?_, fun x hx hhold => ?_,
      fun x hx => Did.answer_upTo ((exec_thermalRelease hp t x).2 hx)⟩
    · have hexec := exec_external hp t low
      rw [if_neg (Nat.not_le.mpr hlow)] at hexec
      exact Did.answer_upTo hexec
    · have hexec := exec_external hp t low
      rw [requestReset_absorbed (s := s.upTo t) hlock hseq hq, ite_self] at hexec
      exact Did.answer_upTo hexec
    · have hexec := (exec_thermalRelease hp t x).1 hx hhold
      have hset : Keeps [.rst] (s.upTo t) { s.upTo t with rst := { s.rst with thermalHold := false } } :=
        Keeps.record (.refl _ _) rfl rfl rfl rfl rfl rfl rfl rfl rfl rfl rfl rfl rfl rfl rfl rfl rfl rfl rfl
      have hhold' : ({ s.upTo t with rst := { s.rst with thermalHold := false } } : State).rst.thermalHold = false := rfl
      have hbackup : ({ s.upTo t with rst := { s.rst with thermalHold := false } } : State).rst.backup = s.rst.backup := rfl
      generalize ({ s.upTo t with rst := { s.rst with thermalHold := false } } : State) = w at hexec hset hhold' hbackup
      have hreleased := nextRelease_released w
      exact ⟨_, hexec, .of_keeps (hset.trans hreleased.keeps) (by decide), hreleased.thermalHold.trans hhold', hreleased.backup.trans hbackup⟩

end Sys2Proof.Machine
end

section
/-! Blocks that stop (R23, R25, R29): what they leave of the power domains, of the log and of the other blocks. -/

set_option Elab.async false

namespace Sys2Proof.Machine

section Stopping

variable {ps : List Part} {s u v : State} {p r b : Nat}

/-- The reset controller without the substitutions on record. -/
def ResetCtl.unrecorded (x : ResetCtl) : ResetCtl := { x with backup := {}, flashSubstitutions := [] }

/-- What blocks that stop leave: the reset controller but for the substitutions on record, every detected condition, and the blocks that are out of service or off. -/
structure Stopped (s u : State) : Prop where
  ctl : u.rst.unrecorded = s.rst.unrecorded
  orderly : u.rst.backup.orderly = s.rst.backup.orderly
  variant : u.variant = s.variant
  tsc : u.tsc = s.tsc
  heard : Heard s u
  held : ∀ q k, (s.block q k).state = .held → (u.block q k).state = .held
  off : ∀ q k, (s.block q k).state = .off → (u.block q k).state = .off ∨ (u.block q k).state = .held

theorem Stopped.refl (s : State) : Stopped s s := ⟨rfl, rfl, rfl, rfl, le_refl _, fun _ _ h => h, fun _ _ h => .inl h⟩

theorem Stopped.domains (h : Stopped s u) : u.rst.domains = s.rst.domains := (congrArg ResetCtl.domains h.ctl :)

theorem Stopped.trans (h : Stopped s u) (k : Stopped u v) : Stopped s v :=
  ⟨k.ctl.trans h.ctl, k.orderly.trans h.orderly, k.variant.trans h.variant, k.tsc.trans h.tsc, h.heard.trans k.heard, fun q j hq => k.held q j (h.held q j hq),
    fun q j hq => (h.off q j hq).elim (k.off q j) fun hheld => .inr (k.held q j hheld)⟩

/-- An operation that leaves the blocks. -/
theorem Stopped.of_parts (h : Keeps ps s u) (hctl : u.rst.unrecorded = s.rst.unrecorded)
    (horderly : u.rst.backup.orderly = s.rst.backup.orderly) (hl : Heard s u) (hb : u.hier.blocks = s.hier.blocks)
    (hps : Part.tsc ∉ ps := by decide) : Stopped s u := by
  have hblock : ∀ q k, u.block q k = s.block q k := State.block_of_blocks hb
  exact ⟨hctl, horderly, h.variant, h.frame .tsc hps, hl, fun q k hq => by rw [hblock]; exact hq, fun q k hq => .inl (by rw [hblock]; exact hq)⟩

/-- An operation that leaves log, blocks and reset controller. -/
theorem Stopped.of_keeps (h : Keeps ps s u) (hps : Part.tsc ∉ ps ∧ Part.log ∉ ps ∧ Part.hier ∉ ps ∧ Part.rst ∉ ps := by decide) : Stopped s u :=
  .of_parts h (congrArg ResetCtl.unrecorded (h.frame .rst hps.2.2.2)) (congrArg (·.backup.orderly) (h.frame .rst hps.2.2.2)) (.of_keeps h hps.2.1) (congrArg Hierarchy.blocks (h.frame .hier hps.2.2.1)) hps.1

theorem Stopped.each {α : Type} {f : State → α → State} (hf : ∀ v x, Stopped v (f v x)) (s : State) (l : List α) : Stopped s (s.each l f) :=
  State.each_of_step (P := Stopped s) (fun v x hv => hv.trans (hf v x)) (.refl s) l

/-- What each operation of a list brings about for its block, the others keep. -/
theorem Stopped.each_all {f : State → Nat × Nat → State} {Q : State → Nat × Nat → Prop} (hQ : ∀ u v e, Stopped u v → Q u e → Q v e)
    {l : List (Nat × Nat)} (hf : ∀ e ∈ l, ∀ u, Stopped u (f u e) ∧ Q (f u e) e) (u : State) :
    Stopped u (u.each l f) ∧ ∀ e ∈ l, Q (u.each l f) e := by
  induction l generalizing u with
  | nil => exact ⟨.refl u, fun _ he => absurd he List.not_mem_nil⟩
  | cons e l ih =>
    obtain ⟨hone, hself⟩ := hf e List.mem_cons_self u
    obtain ⟨hrest, hthose⟩ := ih (fun x hx => hf x (List.mem_cons_of_mem _ hx)) (f u e)
    refine ⟨hone.trans hrest, fun x hx => ?_⟩
    rcases List.mem_cons.mp hx with rfl | hx
    · exact hQ _ _ _ hrest hself
    · exact hthose x hx

theorem Stopped.ite {c : Prop} [Decidable c] (hu : Stopped s u) (hv : Stopped s v) : Stopped s (if c then u else v) := by
  split
  · exact hu
  · exact hv

theorem Stopped.event (s : State) (src code sev : Nat) (data : Bytes) : Stopped s (s.event src code sev data) :=
  .of_parts (State.event_keeps (.refl [.log] s) src code sev data (by decide)) rfl rfl (Nat.le_of_lt (event_heard s src code sev data)) rfl

/-! ## Ports and the ring -/

theorem endSwap_stopped (s : State) (q : SwapRequest) (moved : Bool) : Stopped s (s.endSwap q moved) := by
  have hkeeps : Keeps [.log, .rst, .sup] s (s.endSwap q moved) := State.endSwap_keeps (.refl _ s) q moved (by decide) (by decide) (by decide)
  refine .of_parts hkeeps ?_ ?_ ?_ (congrArg Hierarchy.blocks (hkeeps.frame .hier (by decide)))
  iterate 2
    · unfold State.endSwap
      dsimp only
      split
      · split
        · rfl
        · split <;> rfl
      · split <;> rfl
  · unfold State.endSwap
    dsimp only
    split
    · split
      · exact Nat.le_of_lt (event_heard _ _ _ _ _)
      · split
        · exact Nat.le_of_lt (event_heard _ _ _ _ _)
        · exact Nat.le_of_lt (event_heard _ _ _ _ _)
    · split
      · exact le_refl _
      · exact le_refl _

theorem updPort_stopped (s : State) (p : Nat) (f : Port → Port) : Stopped s (s.updPort p f) :=
  .of_keeps (State.updPort_keeps (.refl [.ports] s) p f (by decide))

theorem swapDone_stopped (s : State) (p : Nat) : Stopped s (s.swapDone p) := by
  unfold State.swapDone
  split
  · next q _ =>
    have hcount : Stopped (s.endSwap q true) ((s.endSwap q true).pbump p 0x201F 0x0C) := .of_keeps (State.pbump_keeps (.refl [.dict] _) p _ _ (by decide))
    exact ((endSwap_stopped s q true).trans hcount).trans (updPort_stopped _ p _)
  · exact .refl s

theorem reloadRetries_stopped (s : State) (p : Nat) : Stopped s (s.reloadRetries p) :=
  .of_keeps (State.reloadRetries_keeps (.refl [.ports] s) p (by decide))

/-- The parts that a port's own operations change. -/
def portParts : List Part := [.out, .dict, .ports, .echoes, .lanes, .spools, .pages, .routes, .cells]

theorem enterPort_stopped (s : State) (p : Nat) (st : PortState) (step : PortStep) : Stopped s (s.enterPort p st step) :=
  .of_keeps (State.enterPort_keeps (.refl portParts s) p st step (by decide) (by decide) (by decide) (by decide) (by decide) (by decide) (by decide) (by decide))

theorem abandonPort_stopped (s : State) (p : Nat) (st : PortState) : Stopped s (s.abandonPort p st) :=
  .of_keeps (State.abandonPort_keeps (.refl portParts s) p st (by decide) (by decide) (by decide) (by decide) (by decide) (by decide) (by decide) (by decide))

theorem startPort_stopped (s : State) (p : Nat) : Stopped s (s.startPort p) :=
  .of_keeps (State.startPort_keeps (.refl portParts s) p (by decide) (by decide) (by decide) (by decide) (by decide) (by decide) (by decide) (by decide))

theorem leaveStopped_stopped (s : State) (p : Nat) : Stopped s (s.leaveStopped p) :=
  .of_keeps (State.leaveStopped_keeps (.refl portParts s) p (by decide) (by decide) (by decide) (by decide) (by decide) (by decide) (by decide) (by decide))

theorem quietLanes_stopped (s : State) (p : Nat) : Stopped s (((s.cutLanes p).cutCommand p).quietPort p) :=
  .of_keeps (State.quietPort_keeps (State.cutCommand_keeps (State.cutLanes_keeps (.refl portParts s) p (by decide) (by decide) (by decide) (by decide)) p
    (by decide) (by decide) (by decide)) p (by decide))

theorem portPolicy_stopped (s : State) (p : Nat) : Stopped s (s.portPolicy p) := by
  unfold State.portPolicy
  extract_lets en u w x
  have hu : Stopped s u := .ite (reloadRetries_stopped s p) (.refl s)
  have hw : Stopped s w := hu.trans (.ite (.refl u) (updPort_stopped u p _))
  clear_value w
  refine hw.trans ?_
  split
  · split
    · exact .ite (startPort_stopped w p) (.refl w)
    · exact .ite (abandonPort_stopped w p _) (.ite (abandonPort_stopped w p _) (.refl w))
    · exact .ite (enterPort_stopped w p _ _) (.refl w)
    · exact .ite ((enterPort_stopped w p _ _).trans (updPort_stopped _ p _)) (.ite (.refl w) (leaveStopped_stopped w p))
    · exact .ite (((reloadRetries_stopped w p).trans (enterPort_stopped _ p _ _)).trans (updPort_stopped _ p _)) (.refl w)
    · exact .refl w
    · exact .ite ((swapDone_stopped w p).trans (abandonPort_stopped _ p _)) (.refl w)
  · exact .ite (.refl w) ((quietLanes_stopped w p).trans (enterPort_stopped _ p _ _))

theorem stopPort_stopped (s : State) (p : Nat) : Stopped s (s.stopPort p) := by
  unfold State.stopPort
  extract_lets x before u v
  have hu : Stopped s u := by
    unfold u
    split
    · exact .ite (endSwap_stopped s _ false) (swapDone_stopped s p)
    · exact .refl s
  exact (hu.trans (portPolicy_stopped u p)).trans (updPort_stopped v p _)

theorem ringBlockDown_stopped (s : State) : Stopped s s.ringBlockDown := by
  have habandon : Stopped s s.ringAbandon := by
    unfold State.ringAbandon
    split
    · next q _ =>
      have hset : Stopped s { s with ring := { s.ring with ballast := if q.back then s.ring.ballast else 0 } } :=
        .of_keeps (Keeps.record (.refl [.ring] s) rfl rfl rfl rfl rfl rfl rfl rfl rfl rfl rfl rfl rfl rfl rfl rfl rfl rfl rfl)
      exact hset.trans (endSwap_stopped _ q false)
    · exact .refl s
  have hrelease : ∀ st, Stopped s (s.ringRelease st) := fun st => by
    have hdrive : Stopped s.ringAbandon ((s.ringAbandon.ringDrive false).enterRing st) :=
      .of_keeps (Keeps.record (State.ringDrive_keeps (.refl [.ring] s.ringAbandon) false (by decide)) rfl rfl rfl rfl rfl rfl rfl rfl rfl rfl rfl rfl rfl rfl rfl rfl rfl rfl rfl)
    exact habandon.trans hdrive
  unfold State.ringBlockDown
  extract_lets failed u v
  have hv : Stopped s v := (hrelease _).trans (.of_keeps (settleRingPins_leaves u).1)
  exact .ite (hv.trans (.of_keeps (State.bump_keeps (.refl [.dict] v) _ _ (by decide)))) hv

/-! ## The other blocks -/

theorem settleCommand_stopped (s : State) : Stopped s s.settleCommand :=
  .of_parts (settleCommand_keeps_self s) (congrArg ResetCtl.unrecorded ((settleCommand_keeps_self s).frame .rst (by decide)))
    (congrArg (·.backup.orderly) ((settleCommand_keeps_self s).frame .rst (by decide))) (settleCommand_heard s)
    (congrArg Hierarchy.blocks ((settleCommand_keeps_self s).frame .hier (by decide)))

theorem startSensing_stopped (s : State) : Stopped s s.startSensing := by
  have hclear : Stopped s { s with sensing := { s.sensing with channels := [], generators := [], outputs := [] } } :=
    ⟨rfl, rfl, rfl, rfl, le_refl _, fun _ _ h => h, fun _ _ h => .inl h⟩
  have hgens : ∀ v : State, Stopped v (v.each (List.range 4) State.rampGen) := fun v =>
    Stopped.each (fun w x => .of_keeps (State.rampGen_keeps (.refl [.sensing] w) x (by decide))) v _
  have hchannels : ∀ v : State, Stopped v (v.each (List.range 8) fun w m => w.settleChannel w m) := fun v =>
    Stopped.each (fun w m => .of_keeps (State.settleChannel_keeps (.refl [.dict, .sensing] w) w m (by decide) (by decide))) v _
  have hswitches : ∀ v : State, Stopped v (v.each (List.range 16) State.armSwitch) := fun v =>
    Stopped.each (fun w n => .of_keeps (State.armSwitch_keeps (.refl [.sensing] w) n (by decide))) v _
  exact (((hclear.trans (hgens _)).trans (hchannels _)).trans (hswitches _)).trans (settleCommand_stopped _)

theorem stopTrip_stopped (s : State) : Stopped s s.stopTrip := by
  have hset : Stopped s { s with trip := { s.trip with biState := 0, biSettled := 0 } } :=
    .of_keeps (Keeps.record (.refl [.trip] s) rfl rfl rfl rfl rfl rfl rfl rfl rfl rfl rfl rfl rfl rfl rfl rfl rfl rfl rfl)
  exact hset.trans (settleCommand_stopped _)

theorem stopPool_stopped (s : State) : Stopped s s.stopPool := by
  have hkeeps : Keeps [.out, .hier] s s.stopPool := State.stopPool_keeps (.refl _ s) (by decide) (by decide)
  refine .of_parts hkeeps (congrArg ResetCtl.unrecorded (hkeeps.frame .rst (by decide)))
    (congrArg (·.backup.orderly) (hkeeps.frame .rst (by decide))) (.of_keeps hkeeps) ?_
  unfold State.stopPool
  dsimp only
  split <;> rfl

theorem clearHostPort_stopped (s : State) (first : Nat) : Stopped s (s.clearHostPort first) :=
  .of_keeps (State.clearHostPort_keeps (.refl [.out, .dict, .pages, .cipher, .checkParts] s) first (by decide) (by decide) (by decide) (by decide) (by decide))

theorem stopBlock_stopped (s : State) (r b : Nat) : Stopped s (s.stopBlock r b) := by
  unfold State.stopBlock
  refine .ite (.ite (stopPort_stopped s b) (.refl s)) (.ite ?cluster (.ite ?spools (.ite (stopPool_stopped s) (.ite ?cipher (.ite ?keys (.ite ?checks
    (.ite (ringBlockDown_stopped s) (.ite (clearHostPort_stopped s 0) (.ite (clearHostPort_stopped s 32) (.ite (startSensing_stopped s)
      (.ite (stopTrip_stopped s) (.ite ?tether (.refl s)))))))))))))
  case cluster => exact .of_keeps (State.stopCluster_keeps (.refl [.out, .lanes, .pages] s) b (by decide) (by decide) (by decide))
  case spools => exact .of_keeps (State.stopSpools_keeps (.refl [.out, .lanes, .spools, .pages] s) (by decide) (by decide) (by decide) (by decide))
  case cipher => exact .of_keeps (State.stopCipher_keeps (.refl [.out, .dict, .pages, .cipher] s) (by decide) (by decide) (by decide) (by decide))
  case keys => exact .of_keeps (State.stopKeys_keeps (.refl [.pages, .cipher] s) (by decide) (by decide))
  case checks => exact .of_keeps (State.stopChecks_keeps (.refl [.out, .dict, .pages, .checkParts] s) (by decide) (by decide) (by decide) (by decide))
  case tether => exact .of_keeps (State.stopTether_keeps (.refl [.tether] s) (by decide))

/-! ## A block goes down, or out of service -/

/-- A write of a block that was neither off nor out of service, or that takes it there. -/
theorem Stopped.setBlock {x : Block} (hheld : (s.block r b).state = .held → x.state = .held)
    (hoff : (s.block r b).state = .off → x.state = .off ∨ x.state = .held) : Stopped s (s.setBlock r b x) := by
  refine ⟨rfl, rfl, rfl, rfl, le_refl _, fun q k h => ?_, fun q k h => ?_⟩
  all_goals
    by_cases hk : blockKey q k = blockKey r b
    · have hsame : ∀ w : State, w.block q k = w.block r b := fun w => by
        unfold State.block
        rw [hk]
      rw [hsame] at h
      rw [hsame, State.block_setBlock_self]
      first | exact hheld h | exact hoff h
    · rw [s.block_setBlock_ne _ _ _ hk]
      first | exact h | exact .inl h

/-- Idle is requested of a block that runs. -/
theorem requestIdle_stopped (h : (s.block r b).state = .running) (time : Nat) : Stopped s (s.requestIdle r b time) := by
  have hset : Stopped s (s.setBlock r b { s.block r b with state := .idleReq, idleAt := s.tsc, escalatedAt := time }) :=
    .setBlock (fun hc => by rw [h] at hc; exact absurd hc (by decide)) (fun hc => by rw [h] at hc; exact absurd hc (by decide))
  exact hset.trans ⟨rfl, rfl, rfl, rfl, le_refl _, fun _ _ h => h, fun _ _ h => .inl h⟩

theorem regionNext_stopped (s : State) (r : Nat) : Stopped s (s.regionNext r) := by
  have hfree : Stopped s { s with hier := { s.hier with busy := Table.put 0 s.hier.busy r 0 } } :=
    ⟨rfl, rfl, rfl, rfl, le_refl _, fun _ _ h => h, fun _ _ h => .inl h⟩
  unfold State.regionNext
  dsimp only
  split
  · next q hq =>
    have hrun := List.find?_some hq
    rw [Bool.and_eq_true, beq_iff_eq, beq_iff_eq] at hrun
    have htaken : Stopped s { s with hier := { s.hier with busy := Table.put 0 s.hier.busy r 0, queue := s.hier.queue.erase q } } :=
      ⟨rfl, rfl, rfl, rfl, le_refl _, fun _ _ h => h, fun _ _ h => .inl h⟩
    exact htaken.trans (requestIdle_stopped (s := { s with hier := { s.hier with busy := Table.put 0 s.hier.busy r 0, queue := s.hier.queue.erase q } }) hrun.2 q.time)
  · exact hfree

/-- A block goes off, but for one that is out of service. -/
theorem blockDown_off (s : State) (r b : Nat) :
    Stopped s (s.blockDown r b .off) ∧ (((s.blockDown r b .off).block r b).state = .off ∨ ((s.blockDown r b .off).block r b).state = .held) := by
  by_cases hheld : (s.block r b).state = .held
  · have hsame : s.blockDown r b .off = s := by
      unfold State.blockDown
      exact if_pos hheld
    rw [hsame]
    exact ⟨.refl s, .inr hheld⟩
  · have hset : Stopped s (s.setBlock r b { state := .off, withdrawn := (s.block r b).withdrawn, resets := (s.block r b).resets, occupancy := (s.block r b).occupancy }) :=
      .setBlock (fun h => absurd h hheld) fun _ => .inl rfl
    have hoff := congrArg Block.state
      (s.block_setBlock_self r b { state := .off, withdrawn := (s.block r b).withdrawn, resets := (s.block r b).resets, occupancy := (s.block r b).occupancy })
    have hrest : Stopped (s.setBlock r b { state := .off, withdrawn := (s.block r b).withdrawn, resets := (s.block r b).resets, occupancy := (s.block r b).occupancy })
        (s.blockDown r b .off) := by
      unfold State.blockDown
      rw [if_neg hheld]
      generalize s.setBlock r b { state := .off, withdrawn := (s.block r b).withdrawn, resets := (s.block r b).resets, occupancy := (s.block r b).occupancy } = w
      extract_lets up u₀ n u₁ u₂ u₃ _ u₄
      have h₁ : Stopped w u₁ := .ite (.refl w) (.of_keeps (State.emit_keeps (.refl [.out] w) _ (by decide)))
      have h₂ : Stopped w u₂ := h₁.trans ⟨rfl, rfl, rfl, rfl, le_refl _, fun _ _ h => h, fun _ _ h => .inl h⟩
      have h₃ : Stopped w u₃ := h₂.trans (.ite (stopBlock_stopped u₂ r b) (.refl u₂))
      have h₄ : Stopped w u₄ := h₃.trans ⟨rfl, rfl, rfl, rfl, le_refl _, fun _ _ h => h, fun _ _ h => .inl h⟩
      exact .ite (h₄.trans (regionNext_stopped u₄ r)) h₄
    exact ⟨hset.trans hrest, hrest.off r b hoff⟩

/-- Every block of a domain that is switched off is off or out of service. -/
theorem domainDown_off (s : State) (d : Nat) :
    Stopped s (s.domainDown d .off) ∧ ∀ rb ∈ s.domainBlocks d, ((s.domainDown d .off).block rb.1 rb.2).state = .off ∨ ((s.domainDown d .off).block rb.1 rb.2).state = .held := by
  exact Stopped.each_all (f := fun u rb => u.blockDown rb.1 rb.2 .off)
    (Q := fun u rb => (u.block rb.1 rb.2).state = .off ∨ (u.block rb.1 rb.2).state = .held)
    (fun u v e h he => he.elim (h.off e.1 e.2) fun hheld => .inr (h.held e.1 e.2 hheld)) (fun e _ u => blockDown_off u e.1 e.2) s

/-! ## Blocks held out of service (R25, R413) -/

/-- A block whose hold is not fatal. -/
def mildHold (rb : Nat × Nat) : Prop := rb.1 ≠ 5 ∧ rb ≠ (3, 1)

theorem holdBlock_mild (h : mildHold (r, b)) (s : State) : Stopped s (s.holdBlock r b) ∧ ((s.holdBlock r b).block r b).state = .held := by
  obtain ⟨hplatform, hkeys⟩ := h
  have hnot : ¬ (r = 3 ∧ b = 1) := fun hc => hkeys (by rw [hc.1, hc.2])
  have hset : Stopped s (s.setBlock r b { s.block r b with state := .held }) := .setBlock (fun _ => rfl) fun _ => .inr rfl
  unfold State.holdBlock
  dsimp only
  rw [if_neg hplatform, if_neg hnot]
  exact ⟨hset.trans (.event _ _ _ _ _), congrArg Block.state (s.block_setBlock_self r b _)⟩

/-- A domain's block that is held out of service, unless it is already. -/
def State.holdOne (u : State) (rb : Nat × Nat) : State := if u.held rb.1 rb.2 then u else (u.blockDown rb.1 rb.2 .off).holdBlock rb.1 rb.2

theorem holdOne_held {rb : Nat × Nat} (h : mildHold rb) (u : State) : Stopped u (u.holdOne rb) ∧ ((u.holdOne rb).block rb.1 rb.2).state = .held := by
  unfold State.holdOne
  split
  · next hheld => exact ⟨.refl u, beq_iff_eq.mp hheld⟩
  · obtain ⟨hstopped, hstate⟩ := holdBlock_mild h (u.blockDown rb.1 rb.2 .off)
    exact ⟨(blockDown_off u rb.1 rb.2).1.trans hstopped, hstate⟩

theorem holdDomain_held {d : Nat} (h : ∀ rb ∈ s.domainBlocks d, mildHold rb) :
    Stopped s (s.holdDomain d) ∧ ∀ rb ∈ s.domainBlocks d, ((s.holdDomain d).block rb.1 rb.2).state = .held := by
  have heq : s.holdDomain d = s.each (s.domainBlocks d) State.holdOne := rfl
  rw [heq]
  exact Stopped.each_all (fun u v e hstop he => hstop.held e.1 e.2 he) (fun e he u => holdOne_held (h e he) u) s

/-! ## The release order (R413, R415) -/

/-- The release order moves no domain that is neither off nor in a reset that it may end. -/
theorem nextRelease_domain {d : Nat} (hoff : (s.domain d).state ≠ .off) (hreset : (s.domain d).state = .reset → s.domainBlocks d ≠ []) :
    s.nextRelease.domain d = s.domain d := by
  have hempty : ((s.each (List.range 30) fun u e => u.settleEmptyDomain e).domain d = s.domain d) ∧
      (s.each (List.range 30) fun u e => u.settleEmptyDomain e).variant = s.variant := by
    refine State.each_of_step (P := fun v => v.domain d = s.domain d ∧ v.variant = s.variant) (fun v e hv => ?_) ⟨rfl, rfl⟩ _
    unfold State.settleEmptyDomain
    split
    · next hc =>
      obtain ⟨hstate, hnone, -⟩ := hc
      have hne : d ≠ e := fun he => by
        subst he
        have hblocks : v.domainBlocks d = s.domainBlocks d := by
          unfold State.domainBlocks State.blocks
          rw [hv.2]
        exact hreset (hv.1 ▸ hstate) (hblocks ▸ hnone)
      have hset : (v.setDomain e { v.domain e with state := .on }).domain d = s.domain d := (v.domain_setDomain_ne _ _ hne).trans hv.1
      unfold State.domainOn
      dsimp only
      split
      · exact ⟨hset, hv.2⟩
      · exact ⟨hset, hv.2⟩
    · exact hv
  have hadvance : ∀ v : State, (v.domain d).state ≠ .off → v.advanceRelease.domain d = v.domain d := fun v hv => by
    unfold State.advanceRelease
    split
    · rfl
    · refine State.each_of_all (P := fun w => w.domain d = v.domain d) (fun w e he hw => ?_) rfl
      have hne : d ≠ e := fun h => by
        subst h
        have hstate := (List.mem_filter.mp he).2
        rw [Bool.and_eq_true, Bool.and_eq_true, beq_iff_eq] at hstate
        exact hv hstate.1.1
      exact (w.domain_setDomain_ne _ _ hne).trans hw
  have hboth := hadvance _ (fun h => by rw [hempty.1] at h; exact hoff h)
  have hall := hboth.trans hempty.1
  unfold State.nextRelease
  dsimp only
  generalize (s.each (List.range 30) fun u e => u.settleEmptyDomain e).advanceRelease = w at hall
  split
  · split
    · exact hall
    · exact hall
  · exact hall

/-! ## Domains by command (R413, R414, R434) -/

section Commands

variable {d t : Nat}

theorem exec_domainPowerGood (hp : s.rst.powered = true) (hstate : (s.domain d).state = .ramping) (t : Nat) :
    exec (.domainPowerGood t d) s = .next ((if d = 2 then (s.upTo t).startCounter else s.upTo t).setDomain d
      { (if d = 2 then (s.upTo t).startCounter else s.upTo t).domain d with
        state := .clockWait, since := (if d = 2 then (s.upTo t).startCounter else s.upTo t).tsc }) := by
  show execDomainPowerGood t d s = _
  unfold execDomainPowerGood
  rw [State.run_powered hp]
  exact congrArg Host.Outcome.next (if_pos hstate)

theorem exec_domainClockGood (hp : s.rst.powered = true) (hstate : (s.domain d).state = .clockWait) (t : Nat) :
    exec (.domainClockGood t d) s = .next ((s.upTo t).domainGood d) := by
  show execDomainClockGood t d s = _
  unfold execDomainClockGood
  rw [State.run_powered hp]
  exact congrArg Host.Outcome.next (if_pos hstate)

theorem exec_domainClockReturn (hp : s.rst.powered = true) (hstate : (s.domain d).state = .isolated) (t : Nat) :
    exec (.domainClockReturn t d) s = .next ((s.upTo t).domainGood d) := by
  show execDomainClockReturn t d s = _
  unfold execDomainClockReturn
  rw [State.run_powered hp]
  exact congrArg Host.Outcome.next (if_pos hstate)

theorem exec_domainClockTimeout (hp : s.rst.powered = true) (t : Nat) :
    ((s.domain d).state = .clockWait ∨ (s.domain d).state = .isolated → (s.domain d).since + 5000000 ≤ max s.tsc t →
      exec (.domainClockTimeout t d) s = .next ((s.upTo t).domainFault d)) ∧
    (max s.tsc t < (s.domain d).since + 5000000 → exec (.domainClockTimeout t d) s = .next (s.upTo t)) := by
  refine ⟨fun hstate hlate => ?_, fun hearly => ?_⟩
  all_goals
    show execDomainClockTimeout t d s = _
    unfold execDomainClockTimeout
    rw [State.run_powered hp]
  · exact congrArg Host.Outcome.next (if_pos ⟨hstate, hlate⟩)
  · exact congrArg Host.Outcome.next (if_neg fun hc => absurd hc.2 (Nat.not_le.mpr hearly))

theorem exec_domainClockLost (hp : s.rst.powered = true) (hstate : (s.domain d).state = .on) (t : Nat) :
    exec (.domainClockLost t d) s =
      .next ((((s.upTo t).clockFault d).setDomain d { s.domain d with state := .isolated, since := max s.tsc t }).domainDown d .off) := by
  show execDomainClockLost t d s = _
  unfold execDomainClockLost
  rw [State.run_powered hp]
  exact congrArg Host.Outcome.next (if_pos hstate)

/-- A domain whose clock is good, its blocks in reset. -/
def State.clockGood (s : State) (d : Nat) : State :=
  (s.setDomain d { s.domain d with state := .reset, since := s.tsc }).each (s.domainBlocks d) fun v rb =>
    if (v.block rb.1 rb.2).state = .off then v.setBlock rb.1 rb.2 { v.block rb.1 rb.2 with state := .reset } else v

theorem domainGood_eq (s : State) (d : Nat) : s.domainGood d = (s.clockGood d).nextRelease := rfl

/-- A block that stands in reset where it was off. -/
def Block.inReset (x : Block) : Block := if x.state = .off then { x with state := .reset } else x

theorem inReset_inReset (x : Block) : x.inReset.inReset = x.inReset := by
  unfold Block.inReset
  split
  · exact if_neg fun h => BlockState.noConfusion h
  · rfl

/-- What a list of blocks that stand in reset leaves. -/
theorem each_inReset (l : List (Nat × Nat)) (s : State) :
    Keeps [.hier] s (s.each l fun v rb => if (v.block rb.1 rb.2).state = .off then v.setBlock rb.1 rb.2 { v.block rb.1 rb.2 with state := .reset } else v) ∧
    ∀ rb ∈ l, (s.each l fun v rb => if (v.block rb.1 rb.2).state = .off then v.setBlock rb.1 rb.2 { v.block rb.1 rb.2 with state := .reset } else v).block rb.1 rb.2 =
      (s.block rb.1 rb.2).inReset := by
  let f : State → Nat × Nat → State := fun v rb => if (v.block rb.1 rb.2).state = .off then v.setBlock rb.1 rb.2 { v.block rb.1 rb.2 with state := .reset } else v
  have hself : ∀ v e q k, blockKey q k = blockKey e.1 e.2 → (f v e).block q k = (v.block q k).inReset := fun v e q k h => by
    have hsame : ∀ w : State, w.block q k = w.block e.1 e.2 := fun w => by
      unfold State.block
      rw [h]
    rw [hsame, hsame]
    unfold f Block.inReset
    dsimp only
    split
    · exact v.block_setBlock_self ..
    · rfl
  have hother : ∀ v e q k, blockKey q k ≠ blockKey e.1 e.2 → (f v e).block q k = v.block q k := fun v e q k h => by
    unfold f
    dsimp only
    split
    · exact v.block_setBlock_ne _ _ _ h
    · rfl
  have hkeeps : ∀ v e, Keeps [.hier] v (f v e) := fun v e => by
    unfold f
    dsimp only
    split
    · exact State.setBlock_keeps (.refl _ v) _ _ _ (by decide)
    · exact .refl _ v
  refine ⟨Keeps.each (.refl _ s) hkeeps, ?_⟩
  have hall : ∀ (l : List (Nat × Nat)) (v : State) (q k : Nat), (v.each l f).block q k = v.block q k ∧ (∀ e ∈ l, blockKey q k ≠ blockKey e.1 e.2) ∨
      (v.each l f).block q k = (v.block q k).inReset := by
    intro l
    induction l with
    | nil => exact fun v q k => .inl ⟨rfl, fun _ he => absurd he List.not_mem_nil⟩
    | cons e l ih =>
      intro v q k
      have hcons : v.each (e :: l) f = (f v e).each l f := rfl
      rw [hcons]
      by_cases hk : blockKey q k = blockKey e.1 e.2
      · rcases ih (f v e) q k with ⟨h, -⟩ | h
        · exact .inr (h.trans (hself v e q k hk))
        · exact .inr (h.trans ((congrArg Block.inReset (hself v e q k hk)).trans (inReset_inReset _)))
      · rcases ih (f v e) q k with ⟨h, hl⟩ | h
        · exact .inl ⟨h.trans (hother v e q k hk), fun x hx => (List.mem_cons.mp hx).elim (fun he => he ▸ hk) (hl x)⟩
        · exact .inr (h.trans (congrArg Block.inReset (hother v e q k hk)))
  intro rb hrb
  rcases hall l s rb.1 rb.2 with ⟨-, h⟩ | h
  · exact absurd rfl (h rb hrb)
  · exact h

theorem domainGood_leaves (hblocks : s.domainBlocks d ≠ []) :
    Keeps [.hier, .rst] s (s.domainGood d) ∧ (s.domainGood d).domain d = { s.domain d with state := .reset, since := s.tsc } ∧
    ∀ rb ∈ s.domainBlocks d, (s.domainGood d).block rb.1 rb.2 = (s.block rb.1 rb.2).inReset := by
  have hset : Keeps [.rst] s (s.setDomain d { s.domain d with state := .reset, since := s.tsc }) := State.setDomain_keeps (.refl _ s) d _ (by decide)
  obtain ⟨hkeeps, heach⟩ := each_inReset (s.domainBlocks d) (s.setDomain d { s.domain d with state := .reset, since := s.tsc })
  have hgood : Keeps [.hier, .rst] s (s.clockGood d) := hset.mono.trans hkeeps.mono
  have hdomain : (s.clockGood d).domain d = { s.domain d with state := .reset, since := s.tsc } := by
    have hrst : (s.clockGood d).rst = (s.setDomain d { s.domain d with state := .reset, since := s.tsc }).rst := hkeeps.frame .rst (by decide)
    unfold State.domain
    rw [hrst]
    exact s.domain_setDomain_self ..
  have hsame : (s.clockGood d).domainBlocks d = s.domainBlocks d := by
    unfold State.domainBlocks State.blocks
    rw [hgood.variant]
  have hnext := nextRelease_released (s.clockGood d)
  have hlast := nextRelease_domain (s := s.clockGood d) (d := d) (fun h => by rw [hdomain] at h; exact DomainState.noConfusion h) (fun _ => by rw [hsame]; exact hblocks)
  rw [domainGood_eq]
  refine ⟨hgood.trans hnext.keeps.mono, hlast.trans hdomain, fun rb hrb => ?_⟩
  rw [State.block_of_blocks (congrArg Hierarchy.blocks (hnext.keeps.frame .hier (by decide)))]
  exact heach rb hrb

theorem clockFault_leaves (s : State) (d : Nat) :
    Stopped s (s.clockFault d) ∧ s.log.detected.length < (s.clockFault d).log.detected.length :=
  ⟨(Stopped.of_keeps (State.bump_keeps (.refl [.dict] s) _ _ (by decide))).trans (.event _ _ _ _ _), event_heard _ _ _ _ _⟩

theorem domain_of_domains (h : u.rst.domains = s.rst.domains) (e : Nat) : u.domain e = s.domain e := by
  unfold State.domain
  rw [h]

theorem domainBlocks_of_variant (h : u.variant = s.variant) (d : Nat) : u.domainBlocks d = s.domainBlocks d := by
  unfold State.domainBlocks State.blocks
  rw [h]

theorem domainFault_leaves (hmild : ∀ rb ∈ s.domainBlocks d, mildHold rb) :
    ((s.domainFault d).domain d).state = .fault ∧ (∀ rb ∈ s.domainBlocks d, ((s.domainFault d).block rb.1 rb.2).state = .held) ∧
    s.log.detected.length < (s.domainFault d).log.detected.length := by
  obtain ⟨hclock, hheard⟩ := clockFault_leaves s d
  unfold State.domainFault
  generalize s.clockFault d = w at hclock hheard
  have hfault : (w.setDomain d { s.domain d with state := .fault }).domain d = { s.domain d with state := .fault } := w.domain_setDomain_self ..
  have hvariant : (w.setDomain d { s.domain d with state := .fault }).variant = s.variant := hclock.variant
  have hlog : (w.setDomain d { s.domain d with state := .fault }).log = w.log := rfl
  generalize w.setDomain d { s.domain d with state := .fault } = x at hfault hvariant hlog
  have hblocks := domainBlocks_of_variant hvariant d
  obtain ⟨hstopped, hheld⟩ := holdDomain_held (s := x) (d := d) (by rw [hblocks]; exact hmild)
  generalize x.holdDomain d = y at hstopped hheld
  have hdomain : y.domain d = { s.domain d with state := .fault } := (domain_of_domains hstopped.domains d).trans hfault
  have hnext := nextRelease_released y
  have hlast := nextRelease_domain (s := y) (d := d) (fun h => by rw [hdomain] at h; exact DomainState.noConfusion h) (fun h => by rw [hdomain] at h; exact DomainState.noConfusion h)
  refine ⟨by rw [hlast, hdomain], fun rb hrb => ?_, ?_⟩
  · rw [State.block_of_blocks (congrArg Hierarchy.blocks (hnext.keeps.frame .hier (by decide)))]
    exact hheld rb (by rw [hblocks]; exact hrb)
  · have hsame : y.nextRelease.log = y.log := hnext.keeps.frame .log (by decide)
    rw [hsame]
    have h := hstopped.heard
    unfold Heard at h
    rw [hlog] at h
    exact lt_of_lt_of_le hheard h

theorem clockLost_leaves {x : Domain} (s : State) (d : Nat) :
    (((s.clockFault d).setDomain d x).domainDown d .off).domain d = x ∧
    (∀ e, e ≠ d → (((s.clockFault d).setDomain d x).domainDown d .off).domain e = s.domain e) ∧
    (∀ rb ∈ s.domainBlocks d, ((((s.clockFault d).setDomain d x).domainDown d .off).block rb.1 rb.2).state = .off ∨
      ((((s.clockFault d).setDomain d x).domainDown d .off).block rb.1 rb.2).state = .held) ∧
    s.log.detected.length < (((s.clockFault d).setDomain d x).domainDown d .off).log.detected.length := by
  obtain ⟨hclock, hheard⟩ := clockFault_leaves s d
  generalize s.clockFault d = w at hclock hheard
  have hself : (w.setDomain d x).domain d = x := w.domain_setDomain_self ..
  have hother : ∀ e, e ≠ d → (w.setDomain d x).domain e = s.domain e := fun e he =>
    (w.domain_setDomain_ne _ _ he).trans (domain_of_domains hclock.domains e)
  have hvariant : (w.setDomain d x).variant = s.variant := hclock.variant
  have hlog : (w.setDomain d x).log = w.log := rfl
  generalize w.setDomain d x = y at hself hother hvariant hlog
  obtain ⟨hstopped, hdown⟩ := domainDown_off y d
  rw [domainBlocks_of_variant hvariant d] at hdown
  have hdomain := domain_of_domains hstopped.domains
  refine ⟨(hdomain d).trans hself, fun e he => (hdomain e).trans (hother e he), hdown, ?_⟩
  have h := hstopped.heard
  unfold Heard at h
  rw [hlog] at h
  exact lt_of_lt_of_le hheard h

theorem startCounter_frame (s : State) : Frame [.tsc, .log, .rst] s s.startCounter := by
  intro p hp
  cases p <;> first | rfl | exact absurd (by decide) hp

end Commands

end Stopping

/-- Settles O54: each command by the state of its domain, and what stops with it. -/
theorem domainsComplete : Obligations.DomainsComplete := by
  unfold Obligations.DomainsComplete
  intro s t d hs hd
  obtain ⟨-, hp⟩ := hs
  refine ⟨fun hstate hne => ?_, fun hstate => ?_, fun hstate hblocks => ?_, fun hstate hblocks => ?_, fun hstate hmild hlate => ?_, fun hearly => ?_, fun hstate => ?_⟩
  · have hexec := exec_domainPowerGood hp hstate t
    rw [if_neg hne] at hexec
    exact ⟨_, hexec, .of_keeps (State.setDomain_keeps (.refl _ _) d _ (by decide)) (by decide), State.domain_setDomain_self ..,
      fun e he => State.domain_setDomain_ne _ _ _ he⟩
  · have hexec := exec_domainPowerGood hp hstate t
    rw [if_pos rfl] at hexec
    have hset : Frame [.rst] (s.upTo t).startCounter ((s.upTo t).startCounter.setDomain 2
        { (s.upTo t).startCounter.domain 2 with state := .clockWait, since := (s.upTo t).startCounter.tsc }) :=
      (State.setDomain_keeps (.refl [.rst] _) 2 _ (by decide)).frame
    have hcounter : Frame [.tsc, .log, .rst] (s.upTo t) (s.upTo t).startCounter := startCounter_frame _
    have hup : Frame [.tsc] s (s.upTo t) := fun p hp => by cases p <;> first | rfl | exact absurd (by decide) hp
    refine ⟨_, hexec, rfl, ?_, (hup.mono (by decide)).trans (hcounter.trans (hset.mono (by decide)))⟩
    rw [State.domain_setDomain_self]
  · obtain ⟨hkeeps, hdomain, hthose⟩ := domainGood_leaves (s := s.upTo t) (d := d) hblocks
    exact ⟨_, exec_domainClockGood hp hstate t, .of_keeps hkeeps (by decide), congrArg Domain.state hdomain, congrArg Domain.since hdomain, hthose⟩
  · obtain ⟨hkeeps, hdomain, -⟩ := domainGood_leaves (s := s.upTo t) (d := d) hblocks
    exact ⟨_, exec_domainClockReturn hp hstate t, .of_keeps hkeeps (by decide), congrArg Domain.state hdomain⟩
  · exact ⟨_, (exec_domainClockTimeout hp t).1 hstate hlate, domainFault_leaves (s := s.upTo t) hmild⟩
  · exact Did.answer_upTo ((exec_domainClockTimeout hp t).2 hearly)
  · obtain ⟨hself, hother, hblocks, hheard⟩ := clockLost_leaves (x := { s.domain d with state := .isolated, since := max s.tsc t }) (s.upTo t) d
    exact ⟨_, exec_domainClockLost hp hstate t, congrArg Domain.state hself, congrArg Domain.since hself, hblocks, hother, hheard⟩

end Sys2Proof.Machine
end

section
/-! Boot: what verification leaves of a bank, the bank that boots, Recovery, and the values that a boot commit brings into force (R421-R425). -/

set_option Elab.async false

namespace Sys2Proof.Machine

section Banks

variable {s u w : State} {a b : BankCheck} {x : Bank} {n : Nat}

theorem State.bank_of_rst (h : u.rst = s.rst) (n : Nat) : u.bank n = s.bank n := by
  unfold State.bank
  rw [h]

theorem State.bank_setBank_self (s : State) (n : Nat) (x : Bank) : (s.setBank n x).bank n = x := by
  unfold State.bank State.setBank
  by_cases hn : n = 1
  · rw [if_pos hn, if_pos hn]
  · rw [if_neg hn, if_neg hn]

/-- The reset controller without the flash banks. -/
def ResetCtl.bankless (x : ResetCtl) : ResetCtl := { x with bankA := {}, bankB := {} }

theorem State.setBank_bankless (s : State) (n : Nat) (x : Bank) : (s.setBank n x).rst.bankless = s.rst.bankless := by
  unfold State.setBank
  split <;> rfl

theorem State.bank_setBank_other (s : State) (hn : n = 1 ∨ n = 2) (x : Bank) : (s.setBank n x).bank (3 - n) = s.bank (3 - n) := by
  rcases hn with rfl | rfl <;> rfl

theorem verifyBank_rst (s : State) (n : Nat) (k : Bytes) (c : BankCheck) :
    (s.verifyBank n k c).rst = (s.setBank n (s.checkedBank (s.bank n) k c)).rst :=
  (State.logDisagree_keeps (.refl [.log] _) n c (by decide)).frame .rst (by decide)

theorem verifyBank_self (s : State) (n : Nat) (k : Bytes) (c : BankCheck) : (s.verifyBank n k c).bank n = s.checkedBank (s.bank n) k c :=
  (State.bank_of_rst (verifyBank_rst s n k c) n).trans (s.bank_setBank_self n _)

theorem verifyBank_bankless (s : State) (n : Nat) (k : Bytes) (c : BankCheck) : (s.verifyBank n k c).rst.bankless = s.rst.bankless :=
  (congrArg ResetCtl.bankless (verifyBank_rst s n k c)).trans (s.setBank_bankless n _)

theorem verifyBank_other (s : State) (hn : n = 1 ∨ n = 2) (k : Bytes) (c : BankCheck) : (s.verifyBank n k c).bank (3 - n) = s.bank (3 - n) :=
  (State.bank_of_rst (verifyBank_rst s n k c) _).trans (s.bank_setBank_other hn _)

/-! ## The bank that boots (R423) -/

/-- A bank that boots: its number and result stand, with its configuration where that is taken. -/
structure Booted (w u : State) (n result : Nat) : Prop where
  keeps : Keeps [.rst] w u
  ready : u.rst.bootReady = true
  bank : u.rst.bootBank = n
  result : u.rst.bootResult = if u.rst.bootImage.isSome then result else result + 1
  release : u.rst.release = (w.bank n).fwRelease
  recovery : u.rst.recovery = w.rst.recovery
  banks : ∀ k, u.bank k = w.bank k

theorem bootFrom_booted (w : State) (n result : Nat) : Booted w (w.bootFrom n result) n result :=
  ⟨State.bootFrom_keeps (.refl _ w) n result (by decide), rfl, rfl, rfl, rfl, rfl, fun _ => rfl⟩

/-- The release order takes nothing of a boot back. -/
theorem Booted.released {result : Nat} (h : Booted w s n result) (k : Released s u) : Booted w u n result := by
  obtain ⟨keeps, ctl⟩ := k
  have hbank : u.rst.bootBank = s.rst.bootBank := (congrArg ResetCtl.bootBank ctl :)
  have hready : u.rst.bootReady = s.rst.bootReady := (congrArg ResetCtl.bootReady ctl :)
  have himage : u.rst.bootImage = s.rst.bootImage := (congrArg ResetCtl.bootImage ctl :)
  have hresult : u.rst.bootResult = s.rst.bootResult := (congrArg ResetCtl.bootResult ctl :)
  have hrelease : u.rst.release = s.rst.release := (congrArg ResetCtl.release ctl :)
  have hrecovery : u.rst.recovery = s.rst.recovery := (congrArg ResetCtl.recovery ctl :)
  have hA : u.rst.bankA = s.rst.bankA := (congrArg ResetCtl.bankA ctl :)
  have hB : u.rst.bankB = s.rst.bankB := (congrArg ResetCtl.bankB ctl :)
  refine ⟨h.keeps.trans keeps, hready.trans h.ready, hbank.trans h.bank, ?_, hrelease.trans h.release, hrecovery.trans h.recovery, fun k => ?_⟩
  · rw [hresult, himage]
    exact h.result
  · rw [← h.banks k]
    unfold State.bank
    rw [hA, hB]

theorem bootFrom_released (w : State) (n result : Nat) : Booted w (w.bootFrom n result).nextRelease n result :=
  (bootFrom_booted w n result).released (nextRelease_released _)

theorem boot_first (hpref : s.rst.preferred = 1) (ha : a.firmware.any firmwareValid = true) (b : BankCheck) :
    s.boot a b = ((s.verifyBank 1 s.rst.keyHash a).bootFrom 1 1).nextRelease := by
  unfold State.boot
  rw [hpref]
  exact if_pos ((congrArg Bank.fwValid (verifyBank_self s 1 s.rst.keyHash a)).trans ha)

/-- The firmware of the preferred bank is not valid. -/
theorem boot_first_invalid (hpref : s.rst.preferred = 1) (ha : a.firmware.any firmwareValid = false) (b : BankCheck) :
    s.boot a b = if b.firmware.any firmwareValid = true
      then (((s.verifyBank 1 s.rst.keyHash a).verifyBank 2 s.rst.keyHash b).bootFrom 2 3).nextRelease
      else ((s.verifyBank 1 s.rst.keyHash a).verifyBank 2 s.rst.keyHash b).enterRecovery := by
  have hfirst : ((s.verifyBank 1 s.rst.keyHash a).bank 1).fwValid = false := (congrArg Bank.fwValid (verifyBank_self s 1 s.rst.keyHash a)).trans ha
  have hsecond : (((s.verifyBank 1 s.rst.keyHash a).verifyBank 2 s.rst.keyHash b).bank 2).fwValid = b.firmware.any firmwareValid :=
    congrArg Bank.fwValid (verifyBank_self (s.verifyBank 1 s.rst.keyHash a) 2 s.rst.keyHash b)
  rw [← hsecond]
  unfold State.boot
  rw [hpref]
  exact if_neg fun h => Bool.false_ne_true (hfirst.symm.trans h)

/-! ## Recovery (R423) -/

/-- The reset controller without power domains, the release order's times and the substitutions on record. -/
def ResetCtl.settled (x : ResetCtl) : ResetCtl := x.still.unrecorded

theorem Stopped.settled (h : Stopped s u) : u.rst.settled = s.rst.settled := (congrArg ResetCtl.still h.ctl :)

theorem Released.settled (h : Released s u) : u.rst.settled = s.rst.settled := congrArg ResetCtl.unrecorded h.ctl

theorem domainOff_settled (s : State) (d : Nat) : (s.domainOff d).rst.settled = s.rst.settled := by
  have hdown := (domainDown_off (s.setDomain d { s.domain d with state := .off }) d).1.settled
  exact hdown

theorem settled_boot {x y : ResetCtl} (h : x.settled = y.settled) : x.recovery = y.recovery ∧ x.bootReady = y.bootReady ∧
    x.bootBank = y.bootBank ∧ x.bootResult = y.bootResult :=
  ⟨(congrArg ResetCtl.recovery h :), (congrArg ResetCtl.bootReady h :), (congrArg ResetCtl.bootBank h :), (congrArg ResetCtl.bootResult h :)⟩

theorem settled_powered {x y : ResetCtl} (h : x.settled = y.settled) : x.powered = y.powered := (congrArg ResetCtl.powered h :)

theorem settled_bankA {x y : ResetCtl} (h : x.settled = y.settled) : x.bankA = y.bankA := (congrArg ResetCtl.bankA h :)

theorem settled_bankB {x y : ResetCtl} (h : x.settled = y.settled) : x.bankB = y.bankB := (congrArg ResetCtl.bankB h :)

/-- The module in Recovery, before the domains that Recovery bars go off. -/
def State.recovering (s : State) : State := { s with rst := { s.rst with bootBank := 0, bootResult := 5, recovery := true, sequence := none } }

theorem enterRecovery_eq (s : State) : s.enterRecovery = (s.recovering.each ((List.range 30).filter s.recovering.recoveryBars) fun v d =>
    if (v.domain d).state = .off then v else v.domainOff d).nextRelease := rfl

theorem enterRecovery_leaves (s : State) : s.enterRecovery.rst.recovery = true ∧ s.enterRecovery.rst.bootReady = s.rst.bootReady ∧
    s.enterRecovery.rst.bootBank = 0 ∧ s.enterRecovery.rst.bootResult = 5 := by
  have hall : s.enterRecovery.rst.settled = s.recovering.rst.settled := by
    rw [enterRecovery_eq]
    refine (nextRelease_released _).settled.trans ?_
    refine State.each_of_step (P := fun v => v.rst.settled = s.recovering.rst.settled) (s := s.recovering) (fun v d hv => ?_) rfl _
    split
    · exact hv
    · exact (domainOff_settled v d).trans hv
  obtain ⟨hrecovery, hready, hbank, hresult⟩ := settled_boot hall
  exact ⟨hrecovery, hready, hbank, hresult⟩

/-! ## The boot commit (R423) -/

theorem State.raw_overlay {l : Table Bytes} (hl : Table.rising l = true) (k : Nat) :
    (s.overlay l).raw k = (Table.find l k).getD (s.raw k) := by
  induction l generalizing s with
  | nil => rfl
  | cons e l ih =>
    obtain ⟨j, v⟩ := e
    obtain ⟨habove, hrising⟩ := Bool.and_eq_true_iff.mp hl
    refine (ih (s := s.store j v) hrising).trans ?_
    by_cases hk : k = j
    · subst hk
      simp [Table.find, Table.find_above habove (Nat.le_refl _)]
    · simp [Table.find, Ne.symm hk, s.raw_store_ne v hk]

/-- The state with the booted image's values and epoch in force, before the blocks act on them. -/
def State.bootInForce (s : State) : State :=
  let u := s.overlay (s.imageValues ((s.rst.bootImage.map ConfigImage.values).getD []))
  ({ u with
    mgr := { u.mgr with epoch := (s.rst.bootImage.map ConfigImage.epoch).getD 0, epochBeat := none,
                        prevEpoch := (s.rst.bootImage.map ConfigImage.epoch).getD 0 }
    rst := { u.rst with
      committed := true, bootReady := false, bootImage := none, sequence := none, bootAt := u.tsc,
      bootMs := (u.tsc - u.rst.d01At + u.rst.d01Early + 500000) / 1000000 } }).digestsStale.logCommit

theorem bootCommit_eq (s : State) : s.bootCommit = (s.bootInForce.applyBoot s).nextRelease := rfl

theorem bootInForce_leaves (s : State) :
    Keeps [.dict, .mgr, .log, .rst] s s.bootInForce ∧ s.bootInForce.rst.committed = true ∧ s.bootInForce.rst.bootReady = false ∧
    s.bootInForce.rst.sequence = none ∧ s.bootInForce.mgr.epoch = (s.rst.bootImage.map ConfigImage.epoch).getD 0 ∧
    ∀ k, s.bootInForce.raw k = (s.overlay (s.imageValues ((s.rst.bootImage.map ConfigImage.values).getD []))).raw k := by
  unfold State.bootInForce
  have hover : Keeps [.dict] s (s.overlay (s.imageValues ((s.rst.bootImage.map ConfigImage.values).getD []))) :=
    State.overlay_keeps (.refl _ s) _ (by decide)
  generalize s.overlay (s.imageValues ((s.rst.bootImage.map ConfigImage.values).getD [])) = u at hover
  extract_lets
  have hset : Keeps [.mgr, .rst] u (State.digestsStale { u with
    mgr := { u.mgr with epoch := (s.rst.bootImage.map ConfigImage.epoch).getD 0, epochBeat := none,
                        prevEpoch := (s.rst.bootImage.map ConfigImage.epoch).getD 0 }
    rst := { u.rst with
      committed := true, bootReady := false, bootImage := none, sequence := none, bootAt := u.tsc,
      bootMs := (u.tsc - u.rst.d01At + u.rst.d01Early + 500000) / 1000000 } }) :=
    Keeps.record (.refl _ u) rfl rfl rfl rfl rfl rfl rfl rfl rfl rfl rfl rfl rfl rfl rfl rfl rfl rfl rfl
  have hlog : ∀ w : State, Keeps [.log] w w.logCommit := fun w => State.logCommit_keeps (.refl _ w) (by decide)
  refine ⟨(hover.mono.trans hset.mono).trans (hlog _).mono, ?_, ?_, ?_, ?_, fun k => ((hlog _).raw k).trans (hset.raw k)⟩
  · exact congrArg ResetCtl.committed ((hlog _).frame .rst (by decide))
  · exact congrArg ResetCtl.bootReady ((hlog _).frame .rst (by decide))
  · exact congrArg ResetCtl.sequence ((hlog _).frame .rst (by decide))
  · exact congrArg Manager.epoch ((hlog _).frame .mgr (by decide))

end Banks

end Sys2Proof.Machine
end

section
/-! The obligation about boot, boot commit, early accesses and saves (R410, R415, R421-R424, R473). -/

set_option Elab.async false

namespace Sys2Proof.Machine

section Booting

variable {s : State}

theorem exec_bootImageVerified (hp : s.rst.powered = true) (t : Nat) (a b : BankCheck) : exec (.bootImageVerified t a b) s =
    .next (if s.bootDue = true then (s.upTo t).boot a b else if s.rst.reload = true then (s.upTo t).reloadFirmware a b else s.upTo t) := by
  show execBootImageVerified t a b s = _
  unfold execBootImageVerified
  rw [State.run_powered hp]
  rfl

theorem recovery_of_bootDue (h : s.bootDue = true) : s.rst.recovery = false ∧ s.rst.bootReady = false := by
  simp only [State.bootDue, Bool.and_eq_true, Bool.not_eq_true'] at h
  obtain ⟨⟨⟨⟨⟨_, hready⟩, _⟩, hrecovery⟩, _⟩, _⟩ := h
  exact ⟨hrecovery, hready⟩

/-- The preferred bank's firmware boots. -/
theorem boot_first_leaves {a : BankCheck} (hdue : s.bootDue = true) (hpref : s.rst.preferred = 1) (ha : a.firmware.any firmwareValid = true)
    (b : BankCheck) : (s.boot a b).rst.bootReady = true ∧ (s.boot a b).rst.bootBank = 1 ∧
    ((s.boot a b).rst.bootResult = 1 ∨ (s.boot a b).rst.bootResult = 2) ∧
    ((s.boot a b).rst.bootResult = 1 ↔ (s.boot a b).rst.bootImage.isSome = true) ∧
    (s.boot a b).rst.release = (a.firmware.map imageRelease).getD 0 ∧
    (s.boot a b).bank 1 = s.checkedBank (s.bank 1) s.rst.keyHash a ∧ (s.boot a b).bank 2 = s.bank 2 ∧ (s.boot a b).rst.recovery = false ∧
    (s.boot a b).dict = s.dict := by
  have hboot := bootFrom_released (s.verifyBank 1 s.rst.keyHash a) 1 1
  have hverify : Keeps [.log, .rst] s (s.verifyBank 1 s.rst.keyHash a) := State.verifyBank_keeps (.refl _ s) 1 _ a (by decide) (by decide)
  have hself := verifyBank_self s 1 s.rst.keyHash a
  have hother := verifyBank_other s (.inl rfl) s.rst.keyHash a
  have hbankless := verifyBank_bankless s 1 s.rst.keyHash a
  rw [boot_first hpref ha b]
  generalize s.verifyBank 1 s.rst.keyHash a = w at hboot hverify hself hother hbankless
  generalize (w.bootFrom 1 1).nextRelease = u at hboot
  have hrecovery : w.rst.recovery = s.rst.recovery := (congrArg ResetCtl.recovery hbankless :)
  have hresult := hboot.result
  refine ⟨hboot.ready, hboot.bank, ?_, ?_, ?_, (hboot.banks 1).trans hself, (hboot.banks 2).trans hother,
    (hboot.recovery.trans hrecovery).trans (recovery_of_bootDue hdue).1,
    (hboot.keeps.frame .dict (by decide)).trans (hverify.frame .dict (by decide))⟩
  · rw [hresult]
    split
    · exact .inl rfl
    · exact .inr rfl
  · rw [hresult]
    split
    next h => exact ⟨fun _ => h, fun _ => rfl⟩
    next h => exact ⟨fun h' => absurd h' (by decide), fun h' => absurd h' h⟩
  · rw [hboot.release, hself]
    rfl

/-- The other bank's firmware boots. -/
theorem boot_second_leaves {a b : BankCheck} (hpref : s.rst.preferred = 1) (ha : a.firmware.any firmwareValid = false)
    (hb : b.firmware.any firmwareValid = true) : (s.boot a b).rst.bootReady = true ∧ (s.boot a b).rst.bootBank = 2 ∧
    ((s.boot a b).rst.bootResult = 3 ∨ (s.boot a b).rst.bootResult = 4) ∧ (s.boot a b).rst.release = (b.firmware.map imageRelease).getD 0 := by
  rw [boot_first_invalid hpref ha b, if_pos hb]
  have hself := verifyBank_self (s.verifyBank 1 s.rst.keyHash a) 2 s.rst.keyHash b
  generalize (s.verifyBank 1 s.rst.keyHash a).verifyBank 2 s.rst.keyHash b = w at hself
  have hboot := bootFrom_released w 2 3
  generalize (w.bootFrom 2 3).nextRelease = u at hboot
  refine ⟨hboot.ready, hboot.bank, ?_, ?_⟩
  · rw [hboot.result]
    split
    · exact .inl rfl
    · exact .inr rfl
  · rw [hboot.release, hself]
    rfl

/-- Neither bank boots. -/
theorem boot_recovery_leaves {a b : BankCheck} (hdue : s.bootDue = true) (hpref : s.rst.preferred = 1) (ha : a.firmware.any firmwareValid = false)
    (hb : b.firmware.any firmwareValid = false) : (s.boot a b).rst.recovery = true ∧ (s.boot a b).rst.bootReady = false ∧
    (s.boot a b).rst.bootBank = 0 ∧ (s.boot a b).rst.bootResult = 5 := by
  rw [boot_first_invalid hpref ha b, if_neg (fun h => Bool.false_ne_true (hb.symm.trans h))]
  have hbankless := (verifyBank_bankless (s.verifyBank 1 s.rst.keyHash a) 2 s.rst.keyHash b).trans (verifyBank_bankless s 1 s.rst.keyHash a)
  generalize (s.verifyBank 1 s.rst.keyHash a).verifyBank 2 s.rst.keyHash b = w at hbankless
  have hready : w.rst.bootReady = s.rst.bootReady := (congrArg ResetCtl.bootReady hbankless :)
  obtain ⟨hrecovery, hkept, hbank, hresult⟩ := enterRecovery_leaves w
  exact ⟨hrecovery, (hkept.trans hready).trans (recovery_of_bootDue hdue).2, hbank, hresult⟩

theorem reload_of_released {u : State} (h : Released s u) : u.rst.reload = s.rst.reload := (congrArg ResetCtl.reload h.ctl :)

/-- The firmware that is loaded again after a warm reset (R410). -/
theorem reloadFirmware_leaves {a b : BankCheck} (h : ((if s.rst.bootBank = 1 then a else b).firmware.any firmwareValid) = true) :
    Keeps [.rst] s (s.reloadFirmware a b) ∧ (s.reloadFirmware a b).rst.reload = false ∧ (s.reloadFirmware a b).rst.backup = s.rst.backup := by
  unfold State.reloadFirmware
  rw [if_pos h]
  have hset : Keeps [.rst] s { s with rst := { s.rst with reload := false } } :=
    Keeps.record (.refl _ s) rfl rfl rfl rfl rfl rfl rfl rfl rfl rfl rfl rfl rfl rfl rfl rfl rfl rfl rfl
  have hreload : ({ s with rst := { s.rst with reload := false } } : State).rst.reload = false := rfl
  have hbackup : ({ s with rst := { s.rst with reload := false } } : State).rst.backup = s.rst.backup := rfl
  generalize ({ s with rst := { s.rst with reload := false } } : State) = w at hset hreload hbackup
  have hnext := nextRelease_released w
  exact ⟨hset.trans hnext.keeps, (reload_of_released hnext).trans hreload, hnext.backup.trans hbackup⟩

theorem exec_bootCommit (hp : s.rst.powered = true) (hready : s.rst.bootReady = true) (hsteps : s.stepsDone 6 = true) (t : Nat) :
    exec (.bootCommit t) s = .next (((s.upTo t).bootInForce.applyBoot (s.upTo t)).nextRelease) := by
  show execBootCommit t s = _
  unfold execBootCommit
  rw [State.run_powered hp]
  exact congrArg Host.Outcome.next (if_pos ⟨hready, hsteps⟩)

theorem bootInForce_raw (k : Nat) : (s.rst.bootImage = none → s.bootInForce.raw k = s.raw k) ∧
    (∀ x, s.rst.bootImage = some x → Table.rising x.values = true →
      s.bootInForce.raw k = (Table.find (s.imageValues x.values) k).getD (s.raw k)) := by
  obtain ⟨_, _, _, _, _, hraw⟩ := bootInForce_leaves s
  refine ⟨fun h => ?_, fun x h hx => ?_⟩
  · rw [hraw, h]
    rfl
  · rw [hraw, h]
    exact State.raw_overlay (Table.rising_filter _ hx) k

/-- A page that is accessed before it answers (R473): only a request that waits for a completion is answered, as unsupported. -/
theorem exec_bar0EarlyAccess {f : Nat} (hp : s.rst.powered = true) (hf : f < 64) (hdomain : (s.domain 27).state = .on) (hrecovery : s.rst.recovery = false)
    (t : Nat) :
    (s.rst.committed = false ∨ s.rst.sequence.isSome = true →
      exec (.bar0EarlyAccess t f false) s = .next ((s.upTo t).emit (.unsupported f))) ∧
    exec (.bar0EarlyAccess t f true) s = .next (s.upTo t) ∧
    (s.rst.committed = true → s.rst.sequence = none → exec (.bar0EarlyAccess t f false) s = .next (s.upTo t)) := by
  have hrun : ∀ posted, exec (.bar0EarlyAccess t f posted) s = .next (if f < 64 ∧ (s.domain 27).state = .on ∧
      ((!s.rst.committed && !(s.rst.recovery && f == 0)) || s.rst.sequence.isSome) = true ∧ posted = false
      then (s.upTo t).emit (.unsupported f) else s.upTo t) := fun posted => by
    show execBar0EarlyAccess t f posted s = _
    unfold execBar0EarlyAccess
    rw [State.run_powered hp]
    rfl
  refine ⟨fun h => ?_, ?_, fun hcommitted hsequence => ?_⟩
  · have hearly : ((!s.rst.committed && !(s.rst.recovery && f == 0)) || s.rst.sequence.isSome) = true := by
      rcases h with h | h
      · rw [h, hrecovery]
        rfl
      · rw [h, Bool.or_true]
    rw [hrun, if_pos ⟨hf, hdomain, hearly, rfl⟩]
  · rw [hrun, if_neg fun h => Bool.noConfusion h.2.2.2]
  · rw [hrun, if_neg]
    rw [hcommitted, hsequence]
    exact fun h => Bool.false_ne_true h.2.2.1

theorem endSave_leaves {j : SaveJob} (s : State) (hj : j.bank = 1 ∨ j.bank = 2) :
    Keeps [.dict, .rst] s (s.endSave j) ∧ (s.endSave j).rst.saving = none ∧ ((s.endSave j).bank j.bank).config = some j.image ∧
    ((s.endSave j).bank j.bank).cfgValid = true ∧ (s.endSave j).val 0x1100 0x51 = 0 ∧ (s.endSave j).bank (3 - j.bank) = s.bank (3 - j.bank) := by
  refine ⟨State.endSave_keeps (.refl _ s) j (by decide) (by decide), ?_⟩
  unfold State.endSave
  have hself := s.bank_setBank_self j.bank { s.bank j.bank with config := some j.image, cfgValid := true, writing := false }
  have hother := s.bank_setBank_other hj { s.bank j.bank with config := some j.image, cfgValid := true, writing := false }
  generalize s.setBank j.bank { s.bank j.bank with config := some j.image, cfgValid := true, writing := false } = u at hself hother
  have hrst : (({ u with rst := { u.rst with saving := none } } : State).setVal 0x1100 0x51 0).rst = { u.rst with saving := none } :=
    (State.setVal_keeps (.refl [.dict] _) 0x1100 0x51 0 (by decide)).frame .rst (by decide)
  have hbanks : ∀ k, (({ u with rst := { u.rst with saving := none } } : State).setVal 0x1100 0x51 0).bank k = u.bank k := fun k => by
    unfold State.bank
    rw [hrst]
  extract_lets
  refine ⟨by rw [hrst], by rw [hbanks, hself], by rw [hbanks, hself], (State.val_setVal_self (s := _) _ _ _).trans (Nat.zero_mod _), (hbanks _).trans hother⟩

theorem exec_saveComplete (hp : s.rst.powered = true) (t : Nat) :
    (∀ j, s.rst.saving = some j → exec (.saveComplete t) s = .next ((s.upTo t).endSave j)) ∧
    (s.rst.saving = none → exec (.saveComplete t) s = .next (s.upTo t)) := by
  refine ⟨fun j h => ?_, fun h => ?_⟩
  all_goals
    show execSaveComplete t s = _
    unfold execSaveComplete
    rw [State.run_powered hp]
    have h' : (s.upTo t).rst.saving = _ := h
    rw [h']

end Booting

/-- Settles O55: each bank that boots, the commit of its image, early accesses, and the completion of a save. -/
theorem bootComplete : Obligations.BootComplete := by
  unfold Obligations.BootComplete
  intro s t a b hlive
  have hp := hlive.2
  have hrun := exec_bootImageVerified hp t a b
  refine ⟨fun hdue hpref => ?_, fun hdue => ?_, fun hready hsteps => ?_, fun f hf hdomain hrecovery => ?_, fun j hsaving hj => ?_, fun hsaving => ?_⟩
  · rw [if_pos hdue] at hrun
    have hdue' : (s.upTo t).bootDue = true := hdue
    exact ⟨fun ha => ⟨_, hrun, boot_first_leaves (s := s.upTo t) hdue' hpref ha b⟩,
      fun ha hb => ⟨_, hrun, boot_second_leaves (s := s.upTo t) hpref ha hb⟩,
      fun ha hb => ⟨_, hrun, boot_recovery_leaves (s := s.upTo t) hdue' hpref ha hb⟩⟩
  · rw [if_neg (fun h => Bool.false_ne_true (hdue.symm.trans h))] at hrun
    refine ⟨fun hreload => ?_, fun hreload hvalid => ?_, fun hinvalid => ?_⟩
    · rw [if_neg (fun h => Bool.false_ne_true (hreload.symm.trans h))] at hrun
      exact ⟨_, hrun, .of_keeps (.refl _ _) (by decide)⟩
    · rw [if_pos hreload] at hrun
      obtain ⟨hkeeps, hrel, hbackup⟩ := reloadFirmware_leaves (s := s.upTo t) hvalid
      exact ⟨_, hrun, .of_keeps hkeeps (by decide), hrel, hbackup⟩
    · refine ⟨_, hrun, ?_⟩
      have hsame : (s.upTo t).reloadFirmware a b = s.upTo t := if_neg fun h => Bool.false_ne_true (hinvalid.symm.trans h)
      rw [hsame, ite_self]
      exact .of_keeps (.refl _ _) (by decide)
  · obtain ⟨hkeeps, hcommitted, hboot, hsequence, hepoch, _⟩ := bootInForce_leaves (s.upTo t)
    have hraw := bootInForce_raw (s := s.upTo t)
    refine ⟨_, exec_bootCommit hp hready hsteps t, hcommitted, hboot, hsequence, .of_keeps hkeeps (by decide), fun himage => ?_, fun x himage => ?_⟩
    · exact ⟨hepoch.trans (congrArg (fun y => (Option.map ConfigImage.epoch y).getD 0) himage), fun k => (hraw k).1 himage⟩
    · exact ⟨hepoch.trans (congrArg (fun y => (Option.map ConfigImage.epoch y).getD 0) himage), fun hrising k => (hraw k).2 x himage hrising⟩
  · obtain ⟨hearly, hposted, hlate⟩ := exec_bar0EarlyAccess hp hf hdomain hrecovery t
    refine ⟨fun h => ⟨⟨_, hearly h, .of_keeps (State.emit_keeps (.refl [.out] _) _ (by decide)) (by decide), rfl⟩, _, hposted, .of_keeps (.refl _ _) (by decide)⟩,
      fun hcommitted hsequence => ⟨_, hlate hcommitted hsequence, .of_keeps (.refl _ _) (by decide)⟩⟩
  · obtain ⟨hkeeps, hleaves⟩ := endSave_leaves (s.upTo t) hj
    exact ⟨_, (exec_saveComplete hp t).1 j hsaving, .of_keeps hkeeps (by decide), hleaves⟩
  · exact ⟨_, (exec_saveComplete hp t).2 hsaving, .of_keeps (.refl _ _) (by decide)⟩

end Sys2Proof.Machine
end

section
/-! Hot plug: the backup domain, the connection, and the steps of an extraction (R426-R430). -/

set_option Elab.async false

namespace Sys2Proof.Machine

section HotPlug

variable {s u : State} {d : Nat}

/-! ## The domains go off (R430, step 4) -/

theorem domainOff_off (s : State) (d : Nat) : ((s.domainOff d).domain d).state = .off := by
  have hdown := (domainDown_off (s.setDomain d { s.domain d with state := .off }) d).1
  exact congrArg Domain.state ((domain_of_domains hdown.domains d).trans (s.domain_setDomain_self d _))

/-- A domain that is off stays off while others go off. -/
theorem domainOff_keeps_off (s : State) (d e : Nat) (h : (s.domain e).state = .off) : ((s.domainOff d).domain e).state = .off := by
  by_cases hde : e = d
  · subst hde
    exact domainOff_off s e
  · have hdown := (domainDown_off (s.setDomain d { s.domain d with state := .off }) d).1
    exact (congrArg Domain.state ((domain_of_domains hdown.domains e).trans (s.domain_setDomain_ne d _ hde))).trans h

/-- What the power-down of the domains leaves (R430): the backup domain's note of good order. -/
theorem domainsDown_leaves (s : State) : s.domainsDown.rst.settled = s.rst.settled ∧ s.domainsDown.rst.backup.orderly = true ∧
    ∀ d ∈ (releaseSteps s.variant).flatten, (s.domainsDown.domain d).state = .off := by
  unfold State.domainsDown
  have hsettled : (s.each (releaseSteps s.variant).flatten.reverse fun u d => u.domainOff d).rst.settled = s.rst.settled :=
    State.each_of_step (P := fun v => v.rst.settled = s.rst.settled) (s := s) (f := fun u d => u.domainOff d)
      (fun v e hv => (domainOff_settled v e).trans hv) rfl _
  have hoff : ∀ d ∈ (releaseSteps s.variant).flatten,
      ((s.each (releaseSteps s.variant).flatten.reverse fun u d => u.domainOff d).domain d).state = .off := fun d hd =>
    State.each_of_mem (P := fun _ => True) (Q := fun v => (v.domain d).state = .off) (f := fun u d => u.domainOff d) (s := s)
      (List.mem_reverse.mpr hd) (fun _ _ _ => trivial) (fun v e hv => domainOff_keeps_off v e d hv) (fun v _ => domainOff_off v d) trivial
  generalize s.each (releaseSteps s.variant).flatten.reverse (fun u d => u.domainOff d) = w at hsettled hoff
  exact ⟨hsettled, rfl, hoff⟩

/-! ## The supply goes (R430, step 5) -/

theorem powerDown_leaves (s : State) : s.powerDown.rst.powered = false ∧ s.powerDown.outputsAtRest = true ∧
    s.powerDown.rst.backup = s.rst.backup ∧ (s.powerDown.domain 0).state = .on ∧ (∀ d, d ≠ 0 → (s.powerDown.domain d).state = .off) ∧
    s.powerDown.cipher.slots = [] ∧ s.powerDown.hier.blocks = [] ∧ s.powerDown.pages = [] ∧ s.powerDown.rst.bankA = s.rst.bankA ∧
    s.powerDown.rst.bankB = s.rst.bankB := by
  refine ⟨rfl, ?_, rfl, rfl, fun d hd => ?_, rfl, rfl, rfl, rfl, rfl⟩
  · unfold State.outputsAtRest State.powerDown
    simp [resetPorts_inactive]
  · have hfind : s.powerDown.domain d = Table.get {} [(0, { state := DomainState.on })] d := rfl
    rw [hfind]
    simp [Table.get, Table.find, Ne.symm hd]

/-! ## The commands by their exec -/

theorem exec_extractPowerDown {a : Nat} (hp : s.rst.powered = true) (hat : s.rst.extractAt = some a) (hsafe : s.rst.extractSafe = true) (t : Nat) :
    (max s.tsc t < a + 50000000 → exec (.extractPowerDown t) s = .next (s.upTo t)) ∧
    (a + 50000000 ≤ max s.tsc t → max s.tsc t < a + 150000000 → exec (.extractPowerDown t) s = .next (s.upTo t).domainsDown) ∧
    (a + 150000000 ≤ max s.tsc t → exec (.extractPowerDown t) s =
      .next (if s.rst.backup.orderly = true then s.upTo t else (s.upTo t).domainsDown).powerDown) := by
  have hexec : exec (.extractPowerDown t) s = .next (if s.rst.extractSafe = true ∧ a + 150000000 ≤ max s.tsc t
      then (if s.rst.backup.orderly = true then s.upTo t else (s.upTo t).domainsDown).powerDown
      else if s.rst.extractSafe = true ∧ a + 50000000 ≤ max s.tsc t then (s.upTo t).domainsDown else s.upTo t) := by
    show execExtractPowerDown t s = _
    unfold execExtractPowerDown
    rw [State.run_powered hp]
    have hat' : (s.upTo t).rst.extractAt = some a := hat
    rw [hat']
    rfl
  refine ⟨fun h => ?_, fun h h' => ?_, fun h => ?_⟩
  · rw [hexec, if_neg (fun hc => absurd hc.2 (by omega)), if_neg (fun hc => absurd hc.2 (by omega))]
  · rw [hexec, if_neg (fun hc => absurd hc.2 (by omega)), if_pos ⟨hsafe, h⟩]
  · rw [hexec, if_pos ⟨hsafe, h⟩]

/-- Whichever way the domains went off before, the note of good order stands and the banks are as they were. -/
theorem downFirst_leaves (s : State) : (if s.rst.backup.orderly = true then s else s.domainsDown).rst.backup.orderly = true ∧
    (if s.rst.backup.orderly = true then s else s.domainsDown).rst.bankA = s.rst.bankA ∧
    (if s.rst.backup.orderly = true then s else s.domainsDown).rst.bankB = s.rst.bankB := by
  split
  next h => exact ⟨h, rfl, rfl⟩
  next =>
    obtain ⟨hsettled, horderly, _⟩ := domainsDown_leaves s
    exact ⟨horderly, settled_bankA hsettled, settled_bankB hsettled⟩

theorem exec_vbatLoss_powered (hp : s.rst.powered = true) (t : Nat) : exec (.vbatLoss t) s = .next (s.upTo t) :=
  congrArg Host.Outcome.next (if_pos hp)

theorem exec_backupTimeCopy (hp : s.rst.powered = true) (t : Nat) : exec (.backupTimeCopy t) s = .next { s.upTo t with rst := { s.rst with
    backup := { s.rst.backup with timeCopy := if s.timeSet then (s.upTo t).stationTime else 0, timeSet := s.timeSet } } } := by
  show execBackupTimeCopy t s = _
  unfold execBackupTimeCopy
  rw [State.run_powered hp]
  rfl

theorem exec_hotSwapConnect (t : Nat) :
    (s.rst.extractAt = none → exec (.hotSwapConnect t) s = .next { s.upTo t with rst := { s.rst with connected := true } }) ∧
    (s.rst.extractAt ≠ none → exec (.hotSwapConnect t) s = .next (s.upTo t)) :=
  ⟨fun h => congrArg Host.Outcome.next (if_pos h), fun h => congrArg Host.Outcome.next (if_neg h)⟩

theorem exec_nextractAsserted (t : Nat) :
    (s.rst.extractAt = none → exec (.nextractAsserted t) s = .next { s.upTo t with rst := { s.rst with
      extractAt := some (max s.tsc t), connected := s.rst.connected && s.rst.powered } }) ∧
    (s.rst.extractAt ≠ none → exec (.nextractAsserted t) s = .next (s.upTo t)) :=
  ⟨fun h => congrArg Host.Outcome.next (if_pos h), fun h => congrArg Host.Outcome.next (if_neg h)⟩

/-- The module with its extraction called off. -/
def State.extractionOff (s : State) : State := { s with rst := { s.rst with extractAt := none, extractSafe := false } }

theorem exec_nextractReleased {a : Nat} (hat : s.rst.extractAt = some a) (t : Nat) : exec (.nextractReleased t) s =
    .next (if s.rst.powered = true then (s.upTo t).extractionOff.requestReset 10 2 else (s.upTo t).extractionOff) := by
  show execNextractReleased t s = _
  unfold execNextractReleased
  have hat' : (s.upTo t).rst.extractAt = some a := hat
  dsimp only
  rw [hat']
  rfl

/-- The full reset of a module whose extraction was called off is the full reset of the module. -/
theorem WasReset.of_extractionOff {c : Nat} (h : (s.upTo t).extractionOff.WasReset u c 2) : s.WasReset u c 2 :=
  ⟨h.cause, h.kind, h.sequence, h.record, h.total, h.rest, h.pages, h.parts, h.written, h.staging,
    fun hw => absurd hw (by decide), h.defaults, h.keys, fun hc => absurd hc (by decide)⟩

end HotPlug

/-- Settles O56: the backup domain's copy and loss, and each step of connection and extraction. -/
theorem hotPlugComplete : Obligations.HotPlugComplete := by
  unfold Obligations.HotPlugComplete
  intro s t _
  have hrst : ∀ r : ResetCtl, r.domains = s.rst.domains → Keeps [.rst] (s.upTo t) { s.upTo t with rst := r } := fun r h =>
    Keeps.record (.refl _ _) rfl rfl rfl rfl rfl rfl rfl rfl rfl rfl rfl rfl rfl rfl rfl rfl h rfl rfl
  refine ⟨fun hp => ?_, fun hp => ?_, fun hp => ?_, fun hnone => ⟨?_, ?_⟩, fun hsome => ⟨?_, ?_⟩, fun a hp hat hsafe => ?_, fun a hat => ⟨fun hp => ?_, fun hp hlock hseq => ?_⟩⟩
  · exact ⟨_, exec_backupTimeCopy hp t, .of_keeps (hrst _ rfl) (by decide), rfl, rfl, rfl⟩
  · refine ⟨_, exec_vbatLoss_dark hp, .of_keeps (ps := [.rst, .sup]) ?_ (by decide), rfl, rfl, rfl, rfl, rfl, rfl⟩
    exact Keeps.record (.refl _ _) rfl rfl rfl rfl rfl rfl rfl rfl rfl rfl rfl rfl rfl rfl rfl rfl rfl rfl rfl
  · exact Did.answer_upTo (exec_vbatLoss_powered hp t)
  · exact ⟨_, (exec_hotSwapConnect t).1 hnone, .of_keeps (hrst _ rfl) (by decide), rfl⟩
  · exact ⟨_, (exec_nextractAsserted t).1 hnone, .of_keeps (hrst _ rfl) (by decide), rfl⟩
  · exact Did.answer_upTo ((exec_hotSwapConnect t).2 hsome)
  · exact Did.answer_upTo ((exec_nextractAsserted t).2 hsome)
  · obtain ⟨hearly, hdomains, hsupply⟩ := exec_extractPowerDown hp hat hsafe t
    refine ⟨fun h => Did.answer_upTo (hearly h), fun h h' => ?_, fun h => ?_⟩
    · obtain ⟨hsettled, horderly, hoff⟩ := domainsDown_leaves (s.upTo t)
      exact ⟨_, hdomains h h', horderly, (settled_powered hsettled).trans hp, hoff⟩
    · have hexec := hsupply h
      obtain ⟨horderly, hA, hB⟩ := downFirst_leaves (s.upTo t)
      generalize hw : (if s.rst.backup.orderly = true then s.upTo t else (s.upTo t).domainsDown) = w at hexec
      have hw' : (if (s.upTo t).rst.backup.orderly = true then s.upTo t else (s.upTo t).domainsDown) = w := hw
      rw [hw'] at horderly hA hB
      obtain ⟨hpowered, hrest, hbackup, hon, hoff, hslots, hblocks, hpages, hA', hB'⟩ := powerDown_leaves w
      exact ⟨_, hexec, hpowered, hrest, by rw [hbackup]; exact horderly, hon, hoff, hslots, hblocks, hpages, hA'.trans hA, hB'.trans hB⟩
  · have hexec := exec_nextractReleased hat t
    rw [if_neg (fun h => Bool.false_ne_true (hp.symm.trans h))] at hexec
    exact ⟨_, hexec, .of_keeps (hrst _ rfl) (by decide), rfl, rfl⟩
  · have hexec := exec_nextractReleased hat t
    rw [if_pos hp] at hexec
    have hperformed : Performed 10 2 (s.upTo t).extractionOff ((s.upTo t).extractionOff.requestReset 10 2) :=
      requestReset_performed (fun h => Bool.noConfusion (hlock.symm.trans h)) (.inl rfl) hseq
    exact ⟨_, hexec, WasReset.of_extractionOff (hperformed.wasReset (.inr (.inl rfl))), hperformed.extractAt⟩

end Sys2Proof.Machine
end

section
/-! Phases that are shed, and the margins that a measurement plans (R433, R438). -/

set_option Elab.async false

namespace Sys2Proof.Machine

section Phases

variable {s u v : State} {rail phase d : Nat}

/-! ## A phase is shed (R433) -/

/-- A phase out of service on its rail. -/
def State.sheds (s : State) (rail phase : Nat) : State :=
  { s with sup := { s.sup with shed := Table.put 0 s.sup.shed rail (withBit (s.shedPhases rail) phase true) } }

theorem shedPhases_sheds_self (s : State) (rail phase : Nat) : (s.sheds rail phase).shedPhases rail = withBit (s.shedPhases rail) phase true :=
  Table.get_put_self _ _ _

theorem shedPhases_sheds_ne {r : Nat} (s : State) (phase : Nat) (h : r ≠ rail) : (s.sheds rail phase).shedPhases r = s.shedPhases r :=
  Table.get_put_ne _ _ h

/-- A phase out of service, logged. -/
def State.shedsLogged (s : State) (rail phase : Nat) : State :=
  (s.sheds rail phase).event (srcBlock 5 1) 0x0103 (if hasBallast s.variant then sevNotice else sevAlarm)
    (toBE 1 rail ++ toBE 1 ((s.sheds rail phase).phasesLeft rail))

/-- A domain of a rail without phases: off, its blocks out of service. -/
def State.unpowers (s : State) (d : Nat) : State := (s.setDomain d { s.domain d with state := .off }).holdDomain d

/-- The domains that a rail supplies. -/
def railDomains (w : Variant) (rail : Nat) : List Nat := (List.range 30).filter fun d => railOf d == rail && domainPresent w d

theorem mem_railDomains {w : Variant} : d ∈ railDomains w rail ↔ d < 30 ∧ railOf d = rail ∧ domainPresent w d = true := by
  simp [railDomains, List.mem_filter]

theorem exec_phaseShed (hp : s.rst.powered = true) (hphase : phase < railPhases s.variant rail) (hbit : bit (s.shedPhases rail) phase = false)
    (t : Nat) : exec (.phaseShed t rail phase) s = .next (if ((s.upTo t).shedsLogged rail phase).railOff rail = true
      then ((s.upTo t).shedsLogged rail phase).each (railDomains s.variant rail) State.unpowers else (s.upTo t).shedsLogged rail phase) := by
  show execPhaseShed t rail phase s = _
  unfold execPhaseShed
  rw [State.run_powered hp]
  exact congrArg Host.Outcome.next (if_pos ⟨hphase, hbit⟩)

theorem shedsLogged_keeps (s : State) (rail phase : Nat) : Keeps [.log, .sup] s (s.shedsLogged rail phase) := by
  have hset : Keeps [.log, .sup] s (s.sheds rail phase) :=
    Keeps.record (.refl _ s) rfl rfl rfl rfl rfl rfl rfl rfl rfl rfl rfl rfl rfl rfl rfl rfl rfl rfl rfl
  exact State.event_keeps hset _ _ _ _ (by decide)

/-- The rail is off when its only phase is shed, and not before. -/
theorem railOff_shedsLogged (s : State) (rail phase : Nat) :
    ((s.shedsLogged rail phase).railOff rail = true ↔ railPhases s.variant rail = 1) := by
  have hshed : (s.shedsLogged rail phase).shedPhases rail = withBit (s.shedPhases rail) phase true := shedPhases_sheds_self s rail phase
  have hne : withBit (s.shedPhases rail) phase true ≠ 0 := fun h => by
    have hbit := bit_withBit (s.shedPhases rail) phase true phase
    rw [if_pos rfl, h] at hbit
    simp [bit] at hbit
  unfold State.railOff
  rw [hshed, (shedsLogged_keeps s rail phase).variant]
  simp [hne]

/-- No block of a rail with one phase is one whose hold is fatal. -/
theorem mildHold_of_onePhase {rb : Nat × Nat} (h : railPhases s.variant (railOf d) = 1) (hrb : rb ∈ s.domainBlocks d) : mildHold rb := by
  have hdomain : domainOf rb.1 rb.2 = d := beq_iff_eq.mp (List.mem_filter.mp hrb).2
  have hother : railOf d ≠ 1 := fun h1 => by
    rw [h1] at h
    unfold railPhases at h
    cases hb : hasBallast s.variant <;> simp [hb] at h
  constructor
  · intro h5
    apply hother
    rw [← hdomain, h5]
    unfold domainOf
    by_cases h2 : rb.2 = 2
    · rw [h2]
      rfl
    · by_cases h3 : rb.2 = 3
      · rw [h3]
        rfl
      · simp [h2, h3, railOf]
  · rintro rfl
    apply hother
    rw [← hdomain]
    rfl

theorem unpowers_leaves (hmild : ∀ rb ∈ s.domainBlocks d, mildHold rb) :
    (s.unpowers d).variant = s.variant ∧ ((s.unpowers d).domain d).state = .off ∧ (∀ e, (s.domain e).state = .off → ((s.unpowers d).domain e).state = .off) ∧
    (∀ q k, (s.block q k).state = .held → ((s.unpowers d).block q k).state = .held) ∧
    ∀ rb ∈ s.domainBlocks d, ((s.unpowers d).block rb.1 rb.2).state = .held := by
  unfold State.unpowers
  obtain ⟨hstopped, hheld⟩ := holdDomain_held (s := s.setDomain d { s.domain d with state := .off }) (d := d) hmild
  have hself : (((s.setDomain d { s.domain d with state := .off }).holdDomain d).domain d).state = .off :=
    congrArg Domain.state ((domain_of_domains hstopped.domains d).trans (s.domain_setDomain_self d _))
  refine ⟨hstopped.variant, hself, fun e he => ?_, fun q k h => hstopped.held q k h, hheld⟩
  by_cases hde : e = d
  · subst hde
    exact hself
  · exact (congrArg Domain.state ((domain_of_domains hstopped.domains e).trans (s.domain_setDomain_ne d _ hde))).trans he

/-- A domain that has lost its rail, with its blocks as `w` lists them. -/
def State.Unpowered (w u : State) (d : Nat) : Prop := (u.domain d).state = .off ∧ ∀ rb ∈ w.domainBlocks d, (u.block rb.1 rb.2).state = .held

theorem each_unpowers {l : List Nat} (hl : ∀ d ∈ l, ∀ rb ∈ s.domainBlocks d, mildHold rb) (hu : u.variant = s.variant) :
    ∀ d, d ∈ l ∨ s.Unpowered u d → s.Unpowered (u.each l State.unpowers) d := by
  induction l generalizing u with
  | nil => exact fun d h => h.elim (fun h => absurd h List.not_mem_nil) id
  | cons e l ih =>
    intro d hd
    have hblocks : ∀ x, u.domainBlocks x = s.domainBlocks x := fun x => domainBlocks_of_variant hu x
    obtain ⟨hvariant, hself, hothers, hheld, hthose⟩ := unpowers_leaves (s := u) (d := e) (by rw [hblocks]; exact hl e List.mem_cons_self)
    refine ih (u := u.unpowers e) (fun x hx => hl x (List.mem_cons_of_mem _ hx)) (hvariant.trans hu) d ?_
    rcases hd with hd | ⟨hoff, hdown⟩
    · rcases List.mem_cons.mp hd with rfl | hd
      · exact .inr ⟨hself, fun rb hrb => hthose rb (by rw [hblocks]; exact hrb)⟩
      · exact .inl hd
    · exact .inr ⟨hothers d hoff, fun rb hrb => hheld _ _ (hdown rb hrb)⟩

/-! ## The margins that a measurement plans (R438) -/

/-- Targets of domains do not fall, and nothing else of a domain moves. -/
def NeverLower (s u : State) : Prop :=
  ∀ d, (s.domain d).target ≤ (u.domain d).target ∧ (u.domain d).state = (s.domain d).state ∧ (u.domain d).offset = (s.domain d).offset

theorem NeverLower.of_domains (h : u.rst.domains = s.rst.domains) : NeverLower s u := fun d => by
  rw [domain_of_domains h d]
  exact ⟨le_refl _, rfl, rfl⟩

theorem NeverLower.trans (h : NeverLower s u) (k : NeverLower u v) : NeverLower s v := fun d =>
  ⟨le_trans (h d).1 (k d).1, (k d).2.1.trans (h d).2.1, (k d).2.2.trans (h d).2.2⟩

theorem NeverLower.setTarget (s : State) (e want : Nat) : NeverLower s (s.setDomain e { s.domain e with target := max want (s.domain e).target }) := by
  intro d
  by_cases h : d = e
  · subst h
    rw [s.domain_setDomain_self]
    exact ⟨le_max_right _ _, rfl, rfl⟩
  · rw [s.domain_setDomain_ne _ _ h]
    exact ⟨le_refl _, rfl, rfl⟩

theorem each_setTarget_neverLower (s : State) (want : Nat) (l : List Nat) :
    NeverLower s (s.each l fun u d => u.setDomain d { u.domain d with target := max want (u.domain d).target }) :=
  State.each_of_step (P := NeverLower s) (f := fun u d => u.setDomain d { u.domain d with target := max want (u.domain d).target })
    (fun v d hv => hv.trans (.setTarget v d want)) (s := s) (.of_domains rfl) l

theorem planRail_neverLower (s : State) (rail : Nat) : NeverLower s (s.planRail rail) := by
  unfold State.planRail
  exact each_setTarget_neverLower s _ _

theorem aged_neverLower (s : State) (l : List AgeingSample) : NeverLower s (s.aged l) := by
  have hsamples : Keeps [.log, .sup] s.measuring (s.measuring.each l State.ageSample) :=
    (Keeps.refl _ _).each fun _ _ => State.ageSample_keeps (.refl _ _) _ (by decide) (by decide)
  have hmeasured : NeverLower s (s.measuring.each l State.ageSample) := .of_domains (congrArg ResetCtl.domains (hsamples.frame .rst (by decide)))
  unfold State.aged
  generalize s.measuring.each l State.ageSample = w at hmeasured
  exact State.each_of_step (P := NeverLower s) (f := State.planRail) (fun v rail hv => hv.trans (planRail_neverLower v rail)) hmeasured _

theorem ageAll_neverLower (s : State) (l : List AgeingSample) : NeverLower s (s.ageAll l) := by
  have haged := aged_neverLower s l
  unfold State.ageAll
  generalize s.aged l = w at haged
  exact haged.trans (.of_domains rfl)

end Phases

end Sys2Proof.Machine
end

section
/-! Substitutions of ballast: the start of a request, self-tests and copies of banks (R440-R445). -/

set_option Elab.async false

namespace Sys2Proof.Machine

section Substitutions

variable {s : State} {q : SwapRequest} {n : Nat}

/-! ## The end of a substitution at once (R441) -/

/-- The unit of a substitution that has ended: idle again after a return, else in its primary's place. -/
def movedUnit (q : SwapRequest) : BallastUnit := if q.back then {} else { state := 3, reason := q.reason, primary := q.primary }

theorem endSwap_moved (s : State) (q : SwapRequest) : Keeps [.log, .rst, .sup] s (s.endSwap q true) ∧ (s.endSwap q true).sup.running = none ∧
    (s.endSwap q true).sup.requests = s.sup.requests ∧ (s.endSwap q true).unit q.unit = movedUnit q ∧
    ∀ v, v ≠ q.unit → (s.endSwap q true).unit v = s.unit v := by
  refine ⟨State.endSwap_keeps (.refl _ s) q true (by decide) (by decide) (by decide), ?_⟩
  unfold State.endSwap movedUnit
  dsimp only
  rw [if_pos rfl]
  cases q.back with
  | true =>
    rw [if_pos rfl, if_pos rfl]
    exact ⟨rfl, rfl, State.unit_setUnit_self .., fun v hv => State.unit_setUnit_ne (h := hv) ..⟩
  | false =>
    rw [if_neg Bool.false_ne_true, if_neg Bool.false_ne_true]
    split
    · exact ⟨rfl, rfl, State.unit_setUnit_self .., fun v hv => State.unit_setUnit_ne (h := hv) ..⟩
    · exact ⟨rfl, rfl, State.unit_setUnit_self .., fun v hv => State.unit_setUnit_ne (h := hv) ..⟩

/-! ## The start of a request (R441) -/

/-- A request that is taken from the queue and runs. -/
def State.takes (s : State) (q : SwapRequest) : State :=
  { s with sup := { s.sup with requests := s.sup.requests.erase q, running := some q, copied := false } }

theorem takes_keeps (s : State) (q : SwapRequest) : Keeps [.sup] s (s.takes q) :=
  Keeps.record (.refl _ s) rfl rfl rfl rfl rfl rfl rfl rfl rfl rfl rfl rfl rfl rfl rfl rfl rfl rfl rfl

theorem startRequest_eq (s : State) (q : SwapRequest) : s.startRequest q =
    if srcRegion q.primary = 1 then ((s.takes q).startSwap (srcBlk q.primary) q).settleCommand
    else if srcRegion q.primary = 4 then (s.takes q).startRingSwap q
    else if srcRegion q.primary = 2 ∧ 16 ≤ srcBlk q.primary then s.takes q else (s.takes q).endSwap q true := rfl

theorem startRequest_bank (hr : srcRegion q.primary = 2) (hb : 16 ≤ srcBlk q.primary) : s.startRequest q = s.takes q := by
  rw [startRequest_eq, if_neg (by omega), if_neg (by omega), if_pos ⟨hr, hb⟩]

theorem startRequest_atOnce (h : srcRegion q.primary = 2 ∧ srcBlk q.primary < 16 ∨ srcRegion q.primary = 3) :
    s.startRequest q = (s.takes q).endSwap q true := by
  rw [startRequest_eq, if_neg (by omega), if_neg (by omega), if_neg (by omega)]

theorem startRequest_ring (h : srcRegion q.primary = 4) : s.startRequest q = (s.takes q).startRingSwap q := by
  rw [startRequest_eq, if_neg (by omega), if_pos h]

theorem startRequest_port (h : srcRegion q.primary = 1) : s.startRequest q = ((s.takes q).startSwap (srcBlk q.primary) q).settleCommand := by
  rw [startRequest_eq, if_pos h]

theorem startRequest_atOnce_leaves (h : srcRegion q.primary = 2 ∧ srcBlk q.primary < 16 ∨ srcRegion q.primary = 3) (s : State) :
    Keeps [.log, .rst, .sup] s (s.startRequest q) ∧ (s.startRequest q).sup.running = none ∧ (s.startRequest q).unit q.unit = movedUnit q ∧
    (s.startRequest q).sup.requests = s.sup.requests.erase q ∧ ∀ v, v ≠ q.unit → (s.startRequest q).unit v = s.unit v := by
  rw [startRequest_atOnce h]
  have htakes := takes_keeps s q
  have hrequests : (s.takes q).sup.requests = s.sup.requests.erase q := rfl
  have hunits : ∀ v, (s.takes q).unit v = s.unit v := fun _ => rfl
  generalize s.takes q = w at htakes hrequests hunits
  obtain ⟨hkeeps, hrunning, hkept, hself, hothers⟩ := endSwap_moved w q
  exact ⟨htakes.mono.trans hkeeps, hrunning, hself, hkept.trans hrequests, fun v hv => (hothers v hv).trans (hunits v)⟩

theorem startRequest_ring_leaves (h : srcRegion q.primary = 4) (s : State) :
    Keeps [.out, .ring, .sup] s (s.startRequest q) ∧ (s.startRequest q).sup.running = some q ∧
    (s.startRequest q).sup.requests = s.sup.requests.erase q ∧
    ((s.startRequest q).ringPort (if srcCell q.primary = 0 then .east else .west)).link = .down := by
  rw [startRequest_ring h]
  have htakes := takes_keeps s q
  have hrequests : (s.takes q).sup.requests = s.sup.requests.erase q := rfl
  have hrunning : (s.takes q).sup.running = some q := rfl
  generalize s.takes q = w at htakes hrequests hrunning
  unfold State.startRingSwap
  extract_lets cell d
  have hset : Keeps [.ring] w { w with ring := { w.ring with ballast := if q.back then 0 else w.wornPair cell } } :=
    Keeps.record (.refl _ w) rfl rfl rfl rfl rfl rfl rfl rfl rfl rfl rfl rfl rfl rfl rfl rfl rfl rfl rfl
  generalize ({ w with ring := { w.ring with ballast := if q.back then 0 else w.wornPair cell } } : State) = x at hset
  obtain ⟨hkeeps, hlink, _, _⟩ := setRingLink_leaves x d .down
  have hall := hset.mono.trans hkeeps
  have hsup : (x.setRingLink d .down).sup = w.sup := hall.frame .sup (by decide)
  exact ⟨htakes.mono.trans hall.mono, by rw [hsup, hrunning], by rw [hsup, hrequests], hlink⟩

/-- What the start of a port's substitution may touch. -/
def swapParts : List Part := [.out, .dict, .ports, .echoes, .lanes, .spools, .pages, .routes]

theorem startSwap_running {p : Nat} (hrun : (s.port p).state = .running) (q : SwapRequest) : ((s.startSwap p q).port p).state = .swapping := by
  have hport : Ported p { s.port p with swapTo := swapAfe q } s (s.updPort p fun x => { x with swapTo := swapAfe q }) :=
    Ported.updPort (.refl s p) _
  have hswap := hport.enterPort .swapping .drain
  unfold State.startSwap
  rw [if_pos hrun]
  exact congrArg Port.state hswap.1

theorem startRequest_port_leaves (h : srcRegion q.primary = 1) (s : State) :
    Keeps [.free, .out, .dict, .log, .ports, .echoes, .lanes, .spools, .pages, .routes, .cells, .trip, .rst, .sup] s (s.startRequest q) ∧
    (s.startRequest q).sup.requests = s.sup.requests.erase q ∧
    ((s.port (srcBlk q.primary)).state = .running → (s.startRequest q).sup.running = some q ∧
      ((s.startRequest q).port (srcBlk q.primary)).state = .swapping) := by
  rw [startRequest_port h]
  have htakes := takes_keeps s q
  have hrequests : (s.takes q).sup.requests = s.sup.requests.erase q := rfl
  have hrunning : (s.takes q).sup.running = some q := rfl
  have hport : (s.takes q).port (srcBlk q.primary) = s.port (srcBlk q.primary) := rfl
  generalize s.takes q = w at htakes hrequests hrunning hport
  have hswap : Keeps swapParts w (w.startSwap (srcBlk q.primary) q) :=
    State.startSwap_keeps (.refl _ w) _ q (by decide) (by decide) (by decide) (by decide) (by decide) (by decide) (by decide) (by decide)
  have hstate := startSwap_running (s := w) (p := srcBlk q.primary) (q := q)
  generalize w.startSwap (srcBlk q.primary) q = x at hswap hstate
  have hsettle := settleCommand_keeps_self x
  have hsup : x.settleCommand.sup = w.sup := (hsettle.frame .sup (by decide)).trans (hswap.frame .sup (by decide))
  have hports : x.settleCommand.port (srcBlk q.primary) = x.port (srcBlk q.primary) := by
    unfold State.port
    rw [hsettle.frame .ports (by decide)]
  refine ⟨(htakes.mono.trans hswap.mono).trans hsettle.mono, by rw [hsup, hrequests], fun hrun => ⟨by rw [hsup, hrunning], ?_⟩⟩
  rw [hports]
  exact hstate (by rw [hport]; exact hrun)

/-! ## The commands by their exec -/

theorem exec_substitutionStart (hp : s.rst.powered = true) (hup : s.supervises = true) (t : Nat) :
    (∀ q, max s.tsc t % 40000 = 0 →
      ((sortBy requestBefore s.sup.requests).find? fun q => (s.upTo t).quietFor q && !(s.outputsSafe && movesLine q)) = some q →
      exec (.substitutionStart t) s = .next ((s.upTo t).startRequest q)) ∧
    (((sortBy requestBefore s.sup.requests).find? fun q => (s.upTo t).quietFor q && !(s.outputsSafe && movesLine q)) = none →
      exec (.substitutionStart t) s = .next (s.upTo t)) := by
  have hrun : exec (.substitutionStart t) s = .next (if s.supervises = true ∧ max s.tsc t % 40000 = 0 then
      (match (sortBy requestBefore s.sup.requests).find? fun q => (s.upTo t).quietFor q && !(s.outputsSafe && movesLine q) with
        | some q => (s.upTo t).startRequest q
        | none => s.upTo t) else s.upTo t) := by
    show execSubstitutionStart t s = _
    unfold execSubstitutionStart
    rw [State.run_powered hp]
    rfl
  refine ⟨fun q hboundary hfind => ?_, fun hfind => ?_⟩
  · rw [hrun, if_pos ⟨hup, hboundary⟩, hfind]
  · rw [hrun, hfind, ite_self]

theorem mem_of_mem_sortBy {α : Type} {lt : α → α → Bool} {x : α} {l : List α} (h : x ∈ sortBy lt l) : x ∈ l := by
  have hfold : ∀ (l acc : List α), x ∈ l.foldl (fun acc y => insertBy lt y acc) acc → x ∈ l ∨ x ∈ acc := by
    intro l
    induction l with
    | nil => exact fun _ h => .inr h
    | cons y l ih =>
      intro acc h
      rcases ih _ h with h | h
      · exact .inl (List.mem_cons_of_mem _ h)
      · rcases List.mem_cons.mp ((insertBy_perm lt y acc).mem_iff.mp h) with rfl | h
        · exact .inl List.mem_cons_self
        · exact .inr h
  exact (hfold l [] h).elim id fun h => absurd h List.not_mem_nil

/-- A unit that passed or failed its self-test. -/
def State.selfTested (s : State) (n : Nat) (pass : Bool) : State :=
  let v := { s with sup := { s.sup with testedAt := Table.put 0 s.sup.testedAt n s.tsc } }
  if pass then v else (v.setUnit n { state := 4 }).event (srcOf 5 4 1) 0x0905 sevAlarm (toBE 1 n)

theorem exec_ballastSelfTest (hp : s.rst.powered = true) (hup : s.supervises = true) (hballast : hasBallast s.variant = true) (hn : n < 22)
    (hidle : (s.unit n).state = 0) (hdue : Table.get 0 s.sup.testedAt n + 86400000000000 ≤ max s.tsc t) (pass : Bool) :
    exec (.ballastSelfTest t n pass) s = .next ((s.upTo t).selfTested n pass) := by
  show execBallastSelfTest t n pass s = _
  unfold execBallastSelfTest
  rw [State.run_powered hp]
  exact congrArg Host.Outcome.next (if_pos ⟨hballast, hn, hup, hidle, hdue⟩)

theorem selfTested_leaves (hidle : (s.unit n).state = 0) (pass : Bool) : Keeps [.log, .sup] s (s.selfTested n pass) ∧
    ((s.selfTested n pass).unit n).state = (if pass = true then 0 else 4) ∧ (∀ k, k ≠ n → (s.selfTested n pass).unit k = s.unit k) ∧
    (s.selfTested n pass).log.detected.length = s.log.detected.length + (if pass = true then 0 else 1) := by
  unfold State.selfTested
  have hset : Keeps [.log, .sup] s { s with sup := { s.sup with testedAt := Table.put 0 s.sup.testedAt n s.tsc } } :=
    Keeps.record (.refl _ s) rfl rfl rfl rfl rfl rfl rfl rfl rfl rfl rfl rfl rfl rfl rfl rfl rfl rfl rfl
  cases pass with
  | true => exact ⟨hset, hidle, fun _ _ => rfl, rfl⟩
  | false =>
    refine ⟨State.event_keeps (State.setUnit_keeps hset n _ (by decide)) _ _ _ _ (by decide), congrArg BallastUnit.state (State.unit_setUnit_self ..),
      fun k hk => State.unit_setUnit_ne (h := hk) .., List.length_append⟩

theorem exec_bankCopyDone (hp : s.rst.powered = true) (t : Nat) :
    (∀ q, s.bankSwap = some q → exec (.bankCopyDone t []) s = .next { s.upTo t with sup := { s.sup with copied := true } }) ∧
    (∀ l, s.bankSwap = none → exec (.bankCopyDone t l) s = .next (s.upTo t)) := by
  refine ⟨fun q h => ?_, fun l h => ?_⟩
  all_goals
    show execBankCopyDone t _ s = _
    unfold execBankCopyDone
    rw [State.run_powered hp]
    have h' : (s.upTo t).bankSwap = _ := h
    rw [h']
  rfl

end Substitutions

/-- Settles O57: each command of supervision in turn; no block of a rail with one phase is one whose hold is fatal. -/
theorem supervisionCompletes : Obligations.SupervisionCompletes := by
  unfold Obligations.SupervisionCompletes
  intro s t hlive
  have hp := hlive.2
  refine ⟨fun rail phase hphase hbit => ?_, fun hup => ⟨fun x hdue => ?_, fun q hboundary hfind => ?_, fun hquiet => ?_, fun n pass hballast hn hidle hdue => ?_⟩,
    fun q hbank => ?_, fun l hbank => ?_⟩
  · have hexec := exec_phaseShed hp hphase hbit t
    have hoff := railOff_shedsLogged (s.upTo t) rail phase
    have hkeeps := shedsLogged_keeps (s.upTo t) rail phase
    refine ⟨fun hmany => ?_, fun hone => ?_⟩
    · rw [if_neg (fun h => hmany (hoff.mp h))] at hexec
      have hself : ((s.upTo t).shedsLogged rail phase).shedPhases rail = withBit (s.shedPhases rail) phase true :=
        shedPhases_sheds_self (s.upTo t) rail phase
      refine ⟨_, hexec, .of_keeps hkeeps (by decide), ?_, fun k hk => ?_, fun r hr => shedPhases_sheds_ne (s.upTo t) phase hr, ?_⟩
      · rw [hself, bit_withBit, if_pos rfl]
      · rw [hself, bit_withBit, if_neg hk]
      · have hsev : (if hasBallast s.variant then sevNotice else sevAlarm) = if hasBallast s.variant = true then 1 else 3 := rfl
        show s.log.detected ++ [_] = _
        exact congrArg (fun sev => s.log.detected ++ [⟨max s.tsc t, 0x507F, 0x0103, sev, toBE 1 rail ++ toBE 1 (((s.upTo t).sheds rail phase).phasesLeft rail)⟩]) hsev
    · rw [if_pos (hoff.mpr hone)] at hexec
      refine ⟨_, hexec, fun d hd hrail hpresent => ?_⟩
      have hvariant : ((s.upTo t).shedsLogged rail phase).variant = s.variant := hkeeps.variant
      generalize (s.upTo t).shedsLogged rail phase = w at hvariant
      refine each_unpowers (s := s) (l := railDomains s.variant rail) (fun e he rb hrb => ?_) hvariant d (.inl (mem_railDomains.mpr ⟨hd, hrail, hpresent⟩))
      exact mildHold_of_onePhase (by rw [(mem_railDomains.mp he).2.1]; exact hone) hrb
  · have hexec := exec_ageingMeasurement (t := t) hp hup x
    rw [if_pos hdue] at hexec
    have hnever := ageAll_neverLower (s.upTo t) x
    exact ⟨_, hexec, fun d => (hnever d).1, fun d => (hnever d).2.1, fun d => (hnever d).2.2⟩
  · have hexec := (exec_substitutionStart hp hup t).1 q hboundary hfind
    refine ⟨fun hr hb => ?_, fun h hback => ?_, fun h hback => ?_, fun h => ?_, fun h => ?_⟩
    · rw [startRequest_bank hr hb] at hexec
      exact ⟨_, hexec, .of_keeps (takes_keeps _ q) (by decide), rfl, rfl, rfl⟩
    · obtain ⟨hkeeps, hrunning, hunit, hrequests, hothers⟩ := startRequest_atOnce_leaves h (s.upTo t)
      exact ⟨_, hexec, .of_keeps hkeeps (by decide), hrunning, hunit.trans (if_neg (by rw [hback]; decide)), hrequests, hothers⟩
    · obtain ⟨hkeeps, hrunning, hunit, hrequests, hothers⟩ := startRequest_atOnce_leaves h (s.upTo t)
      exact ⟨_, hexec, .of_keeps hkeeps (by decide), hrunning, hunit.trans (if_pos hback), hrequests, hothers⟩
    · obtain ⟨hkeeps, hrunning, hrequests, hlink⟩ := startRequest_ring_leaves h (s.upTo t)
      exact ⟨_, hexec, .of_keeps hkeeps (by decide), hrunning, hrequests, hlink⟩
    · obtain ⟨hkeeps, hrequests, hrun⟩ := startRequest_port_leaves h (s.upTo t)
      exact ⟨_, hexec, .of_keeps hkeeps (by decide), hrequests, hrun⟩
  · refine Did.answer_upTo ((exec_substitutionStart hp hup t).2 (List.find?_eq_none.mpr fun q hq => ?_))
    rw [hquiet q (mem_of_mem_sortBy hq)]
    exact Bool.false_ne_true
  · obtain ⟨hkeeps, hstate, hothers, hlog⟩ := selfTested_leaves (s := s.upTo t) hidle pass
    exact ⟨_, exec_ballastSelfTest hp hup hballast hn hidle hdue pass, .of_keeps hkeeps (by decide), hstate, hothers, hlog⟩
  · refine ⟨_, (exec_bankCopyDone hp t).1 q hbank, .of_keeps (ps := [.sup]) ?_ (by decide), rfl⟩
    exact Keeps.record (.refl _ _) rfl rfl rfl rfl rfl rfl rfl rfl rfl rfl rfl rfl rfl rfl rfl rfl rfl rfl rfl
  · exact Did.answer_upTo ((exec_bankCopyDone hp t).2 l hbank)

end Sys2Proof.Machine
end

section
/-! Writes of a page's registers (R12, R51, R258, R340, R359, R451). -/

set_option Elab.async false

namespace Sys2Proof.Machine

section Registers

variable {s : State} {t f a : Nat} {w : Word32}

/-! ## Bytes of a buffer -/

theorem Table.get_putBytes_below (l : Bytes) (x : Table Byte) {j k : Nat} (h : j < k) : Table.get 0 (Table.putBytes x k l) j = Table.get 0 x j := by
  induction l generalizing x k with
  | nil => rfl
  | cons b l ih => exact (ih _ (Nat.lt_succ_of_lt h)).trans (Table.get_put_ne _ _ (Nat.ne_of_lt h))

theorem Table.get_putBytes_above (l : Bytes) (x : Table Byte) {j k : Nat} (h : k + l.length ≤ j) :
    Table.get 0 (Table.putBytes x k l) j = Table.get 0 x j := by
  induction l generalizing x k with
  | nil => rfl
  | cons b l ih =>
    have hlen : k + (l.length + 1) ≤ j := h
    exact (ih _ (by omega)).trans (Table.get_put_ne _ _ (by omega))

theorem Table.get_putBytes_in (l : Bytes) (x : Table Byte) {i k : Nat} (h : i < l.length) : Table.get 0 (Table.putBytes x k l) (k + i) = l[i] := by
  induction l generalizing x k i with
  | nil => exact absurd h (Nat.not_lt_zero _)
  | cons b l ih =>
    cases i with
    | zero => exact (Table.get_putBytes_below l _ (Nat.lt_succ_self k)).trans (Table.get_put_self _ _ _)
    | succ i =>
      have hplace : k + (i + 1) = k + 1 + i := by omega
      rw [hplace]
      exact ih _ (Nat.lt_of_succ_lt_succ h)

/-- Bytes that are written are read back. -/
theorem Table.getBytes_putBytes (l : Bytes) (x : Table Byte) (k : Nat) : Table.getBytes (Table.putBytes x k l) k l.length = l := by
  refine List.ext_getElem (by simp [Table.getBytes]) fun i h _ => ?_
  have hi : i < l.length := by simpa [Table.getBytes] using h
  simp only [Table.getBytes, List.getElem_map, List.getElem_range]
  exact Table.get_putBytes_in l x hi

theorem toLE_length (n v : Nat) : (toLE n v).length = n := by
  induction n generalizing v with
  | zero => rfl
  | succ n ih => exact congrArg (· + 1) (ih _)

theorem getBytes_putLE (x : Table Byte) (k v : Nat) : Table.getBytes (Table.putBytes x k (toLE 4 v)) k 4 = toLE 4 v := by
  have h := Table.getBytes_putBytes (toLE 4 v) x k
  rwa [toLE_length] at h

theorem getBytes_putBE (x : Table Byte) (k v : Nat) : Table.getBytes (Table.putBytes x k (toBE 4 v)) k 4 = toBE 4 v := by
  have h := Table.getBytes_putBytes (toBE 4 v) x k
  rwa [toBE_length] at h

/-! ## The write of a listed register -/

theorem exec_registerWrite_open {r : PageReg} (hlive : s.Live) (hopen : s.open f = true) (hreg : pageReg a = some r) :
    exec (.registerWrite t f a w) s = .next ((s.upTo t).writeReg f r w) := by
  rw [exec_registerWrite_listed hreg, State.run_powered hlive.2]
  exact congrArg Host.Outcome.next (if_pos hopen)

/-- What a write that leaves the page at `x` did. -/
theorem registerWrite_sets {r : PageReg} {x : Page} (hlive : s.Live) (hopen : s.open f = true) (hreg : pageReg a = some r)
    (hwrite : (s.upTo t).writeReg f r w = (s.upTo t).setPage f x) :
    ∃ u, exec (.registerWrite t f a w) s = .next u ∧ Did t [.pages] s u ∧ (∀ g, g ≠ f → u.page g = s.page g) ∧ u.page f = x := by
  refine ⟨_, exec_registerWrite_open hlive hopen hreg, ?_⟩
  rw [hwrite]
  exact ⟨.of_keeps (State.setPage_keeps (.refl [.pages] _) f x (by decide)) (by decide), fun g hg => State.page_setPage_ne (h := hg) ..,
    State.page_setPage_self ..⟩

theorem pageReg_mbxRequest : ∀ i < 384, pageReg (0x8100 + 4 * i) = some (.mbxRequest (4 * i)) := by decide +kernel

theorem pageReg_keyData : ∀ i < 12, pageReg (0x4100 + 4 * i) = some (.keyData i) := by decide +kernel

theorem pageReg_ringBase : ∀ q < 4, pageReg (0x1000 + 0x40 * q) = some (.ring q 0) := by decide +kernel

theorem pageReg_ringCtrl : ∀ q, q = 4 ∨ q = 5 → pageReg (0x4048 + 0x40 * (q - 4)) = some (.ring q 2) := by
  rintro q (rfl | rfl)
  · decide +kernel
  · decide +kernel

theorem pageReg_fixed : pageReg 0x8008 = some .mbxReqLen ∧ pageReg 0x8004 = some .mbxStatus ∧ pageReg 0x4004 = some .ciphCtrl ∧
    pageReg 0x6004 = some .chkCtrl ∧ pageReg 0xF000 = some .evtCtrl := by decide +kernel

theorem pageReg_readOnly : ∀ a ∈ [0x4000, 0x4200, 0x6000, 0x800C, 0xF00C, 0x8800, 0xF100], pageReg a = some .readOnly := by decide +kernel

theorem pageRead_listed {r : PageReg} (h : pageReg a = some r) (u : State) : u.pageRead f a = some (u.readReg f a r) := by
  unfold State.pageRead
  rw [h]
  rfl

theorem bits_low (v : Nat) : bits v 10 0 % 2 ^ 11 = v % 2 ^ 11 := by
  unfold bits
  rw [Nat.shiftRight_zero, Nat.mod_mod]

theorem bits_mod (v : Nat) : bits v 18 16 % 8 = bits v 18 16 ∧ bits v 15 8 % 256 = bits v 15 8 := ⟨Nat.mod_mod _ _, Nat.mod_mod _ _⟩

/-! ## Rings (R258) -/

theorem ringRegWrite_base {q v : Nat} (s : State) : s.ringRegWrite f q 0 v = if ((s.page f).ring q).enable = true then s
    else s.setPage f ((s.page f).setRing q { (s.page f).ring q with base := ((s.page f).ring q).base / 2 ^ 32 * 2 ^ 32 + v / 64 * 64 }) := rfl

theorem ringRegWrite_ctrl {q v : Nat} (hq : q = 4 ∨ q = 5) (s : State) : s.ringRegWrite f q 2 v =
    s.setPage f ((s.page f).setRing q { (s.page f).ring q with
      enable := bit v 31, log2 := if ((s.page f).ring q).enable then ((s.page f).ring q).log2 else bits v 19 16, vector := bits v 15 8, irqEn := bit v 0 }) := by
  rcases hq with rfl | rfl
  · rfl
  · rfl

end Registers

/-- Settles O60: each register by its field map; a write is `State.writeReg` on the open page. -/
theorem registerWritesComplete : Obligations.RegisterWritesComplete := by
  unfold Obligations.RegisterWritesComplete
  intro s t f w hlive hopen
  obtain ⟨hlen, hstatus, hciph, hchk, hevt⟩ := pageReg_fixed
  refine ⟨?_, fun i hi => ?_, ?_, ?_, fun i hi => ?_, ?_, ?_, fun q hq => ?_, fun q hq => ?_, fun a ha => ?_, fun a ha v => exec_registerWrite_unlisted ha⟩
  · obtain ⟨u, hexec, hdid, hothers, hpage⟩ := registerWrite_sets (t := t) (w := w) hlive hopen hlen rfl
    refine ⟨u, hexec, hdid, hothers, hpage, (pageRead_listed hlen u).trans (congrArg some ?_)⟩
    show (u.page f).reqLen % 2 ^ 11 = _
    rw [hpage]
    exact bits_low _
  · obtain ⟨u, hexec, hdid, _, hpage⟩ := registerWrite_sets (t := t) (w := w) hlive hopen (pageReg_mbxRequest i hi) rfl
    refine ⟨u, hexec, hdid, ?_, fun k hk => ?_⟩
    · rw [hpage]
      exact getBytes_putLE _ _ _
    · rw [hpage]
      rcases hk with hk | hk
      · exact Table.get_putBytes_below _ _ hk
      · exact Table.get_putBytes_above _ _ (by rw [toLE_length]; exact hk)
  · obtain ⟨u, hexec, hdid, _, hpage⟩ := registerWrite_sets (t := t) (w := w) hlive hopen hstatus rfl
    exact ⟨u, hexec, hdid, hpage⟩
  · obtain ⟨u, hexec, hdid, _, hpage⟩ := registerWrite_sets (t := t) (w := w) hlive hopen hciph rfl
    exact ⟨u, hexec, hdid, hpage⟩
  · obtain ⟨u, hexec, hdid, _, hpage⟩ := registerWrite_sets (t := t) (w := w) hlive hopen (pageReg_keyData i hi) rfl
    refine ⟨u, hexec, hdid, ?_, pageRead_listed (pageReg_keyData i hi) u⟩
    rw [hpage]
    exact getBytes_putBE _ _ _
  · obtain ⟨u, hexec, hdid, _, hpage⟩ := registerWrite_sets (t := t) (w := w) hlive hopen hchk rfl
    exact ⟨u, hexec, hdid, hpage⟩
  · obtain ⟨u, hexec, hdid, _, hpage⟩ := registerWrite_sets (t := t) (w := w) hlive hopen hevt rfl
    refine ⟨u, hexec, hdid, hpage, (pageRead_listed hevt u).trans (congrArg some ?_)⟩
    obtain ⟨hsev, hvector⟩ := bits_mod w.toNat
    show ofBool (u.page f).evtEnable * 2 ^ 31 + (u.page f).minSev % 8 * 2 ^ 16 + (u.page f).evtVector % 256 * 2 ^ 8 + ofBool (u.page f).evtIrqEn = _
    rw [hpage]
    dsimp only
    rw [hsev, hvector]
  · by_cases hon : ((s.page f).ring q).enable = true
    · have hsame : (s.upTo t).writeReg f (.ring q 0) w = s.upTo t := (ringRegWrite_base (s.upTo t)).trans (if_pos hon)
      refine ⟨_, exec_registerWrite_open hlive hopen (pageReg_ringBase q hq), ?_⟩
      rw [hsame, if_pos hon]
      exact ⟨.of_keeps (.refl _ _) (by decide), rfl, fun _ _ => rfl⟩
    · obtain ⟨u, hexec, hdid, _, hpage⟩ := registerWrite_sets (t := t) (w := w) hlive hopen (pageReg_ringBase q hq)
        ((ringRegWrite_base (s.upTo t)).trans (if_neg hon))
      refine ⟨u, hexec, hdid, ?_, fun k hk => ?_⟩
      · rw [hpage, Page.ring_setRing_self, if_neg hon]
        rfl
      · rw [hpage, Page.ring_setRing_ne (h := hk)]
        rfl
  · obtain ⟨u, hexec, hdid, _, hpage⟩ := registerWrite_sets (t := t) (w := w) hlive hopen (pageReg_ringCtrl q hq) (ringRegWrite_ctrl hq (s.upTo t))
    refine ⟨u, hexec, hdid, ?_⟩
    rw [hpage, Page.ring_setRing_self]
    exact ⟨rfl, rfl, rfl, rfl, rfl⟩
  · exact Did.answer_upTo (exec_registerWrite_open hlive hopen (pageReg_readOnly a ha))

end Sys2Proof.Machine
end
